-- ==== Sys2Proof/Word.lean ====
section
/-! DEFINITION. Word.lean: the word types of the ZY4800 and their plainest arithmetic (R5 to R7). -/

namespace Sys2Proof

/-- One byte of memory or of a packet. -/
abbrev Byte := BitVec 8

/-- A register word as software reads and writes it: 32 bits, little-endian (R7). -/
abbrev Word := BitVec 32

/-- One full turn of the grid angle, 2^32 units (R3, R5). -/
abbrev turn : Nat := 4294967296

end Sys2Proof
end

