-- ==== Sys2Proof/Machine/Types.lean ====
section
/-! DEFINITION. Machine/Types.lean: the kinds of thing that commands name: bus masters, operating and power states, TPP
ports, load targets, life-cycle states. Each is a fixed set of names of the manual. -/

namespace Sys2Proof.Machine

/-- Who makes a bus access (R43, R46, R64). `dataRegion` stands for ME, PE and EE. -/
inductive Master where
  | pairA | pairB | mc | sc | hsl | dataRegion
  deriving DecidableEq, Repr

/-- The two control core pairs. -/
inductive PairId where
  | a | b
  deriving DecidableEq, Repr

/-- The other pair. -/
def PairId.other : PairId → PairId
  | .a => .b
  | .b => .a

/-- The operating states of R11, in the coding of R418. -/
inductive OperState where
  | boot | awaitDescription | described | commissioning | standby | syncing | connected | faultHold
  deriving DecidableEq, Repr

/-- R418 byte 0. -/
def OperState.code : OperState → Nat
  | .boot => 0 | .awaitDescription => 1 | .described => 2 | .commissioning => 3
  | .standby => 4 | .syncing => 5 | .connected => 6 | .faultHold => 7

/-- The power states of R12. -/
inductive PowerState where
  | run | watch | sleep | dark
  deriving DecidableEq, Repr

/-- R418 byte 2; `DARK` has no code there, because nothing of the main supply runs in it (R12). -/
def PowerState.code : PowerState → Nat
  | .run => 0 | .watch => 1 | .sleep => 2 | .dark => 3

/-- The three TPP ports of R398 to R420; a tunnel port for each module 0 to 7 (R420). -/
inductive Port where
  | host | service | tunnel (n : Nat)
  deriving DecidableEq, Repr

/-- The records that travel in chunks (R413). -/
inductive RecordKind where
  | bdr | gpr | spr
  deriving DecidableEq, Repr

/-- The blocks that take a mailbox load (R50). -/
inductive LoadTarget where
  | le0 | le1 | orbit | profile | sweep
  deriving DecidableEq, Repr

/-- The load destination codes of R50; any other DEST rejects the entry. -/
def LoadTarget.ofDest? : Nat → Option LoadTarget
  | 1 => some .le0
  | 2 => some .le1
  | 3 => some .orbit
  | 4 => some .profile
  | 5 => some .sweep
  | _ => none

/-- What the last access of a master returned (R7, R44, R46, R47, R93): nothing yet, an acknowledged write, a bus error, or
read data. -/
inductive BusResp where
  | none | ok | error | data (w : Nat)
  deriving DecidableEq, Repr

/-- The carrier settings that wait for a valley of carrier 0 (R84). -/
inductive OrbSetting where
  | ncar | div | fnom | carOffset
  deriving DecidableEq, Repr

/-- The causes that latch PWM safe state, in the bit order of `PWM_SAFE_STATUS` (R192, R199). -/
inductive SafeCause where
  | halt | clkLoss | clkStop | hard | bothLost | slinkDown | soft
  deriving DecidableEq, Repr

/-- Bit number of a cause within ACTIVE and SEEN (R199). -/
def SafeCause.bit : SafeCause → Nat
  | .halt => 0 | .clkLoss => 1 | .clkStop => 2 | .hard => 3 | .bothLost => 4 | .slinkDown => 5 | .soft => 6

/-- The debug actions that the replay queue records (R116). -/
inductive DebugAction where
  | halt | resume | step | abstractCmd | progbuf
  deriving DecidableEq, Repr

/-- The shadowed registers of a PWM pair (R175). -/
inductive ShadowReg where
  | cmpA | cmpB | dt | refresh
  deriving DecidableEq, Repr

/-- Where a `PWM_COMMIT` write comes from (R175): a bus write, a loop-engine job, or an Orbit commit operation. -/
inductive CommitSource where
  | bus (m : Master)
  | engine (e : Nat)
  | op (slot : Nat)
  deriving DecidableEq, Repr

/-- The parts of the module that `SOFTRST` names (R492) and that R43 lists. -/
inductive Region where
  | cr | dr | mr
  deriving DecidableEq, Repr

/-- The command edge that came last before a switch-node transition (R207). -/
inductive GateEdge where
  | ghOn | ghOff | glOn | glOff
  deriving DecidableEq, Repr

/-- What triggers an injected sequence beside a `SWTRIG` write (R231): the Orbit operation of a slot, or a comparator window's
trip output. -/
inductive InjSource where
  | op (slot : Nat)
  | window (w : Nat)
  deriving DecidableEq, Repr

/-- The registers of a converter that a boundary commits (R239). -/
inductive SarReg where
  | scan | cfg | seq0 | seq1
  | chcfg (ch : Nat)
  deriving DecidableEq, Repr

/-- The registers of a comparator window that hold shadows (R252, R266). -/
inductive CmpReg where
  | cfg | th | hys
  deriving DecidableEq, Repr

/-- The steps of a legacy check (R261). -/
inductive LegacyStep where
  | tieGnd | tieMid | swap
  deriving DecidableEq, Repr

/-- The entries of R273. -/
inductive RtEntry where
  | lv | hv | zv
  deriving DecidableEq, Repr

/-- The faults of R162. -/
inductive LeFaultKind where
  | ecc | parity | residue | overrun
  deriving DecidableEq, Repr

/-- The calibration registers (R317). -/
inductive MeCal where
  | gain (c : Nat) | off (c : Nat) | ph (c : Nat) | nlth (f w : Nat) | nres
  deriving DecidableEq, Repr

end Sys2Proof.Machine
end

