-- ==== Sys2Proof/Machine/TypesOps.lean ====
section
/-! DEFINITION. Machine/TypesOps.lean: operands that carry several measured values at once. -/

namespace Sys2Proof.Machine

/-- What one tracker sample yields (R77). The spec gives no loop gains, so these are operands and no value of them is
assumed: sequence components in per unit, the frequency estimate, its change over the last turn, the rate of change, the
phase error as an angle, and the increment that the loop asks for. Numbers are binary32 but for the angles and the
increment. -/
structure TrackerSample where
  vd : Nat
  vq : Nat
  vnegMag : Nat
  vnegAng : Nat
  freq : Nat
  freqChange : Nat
  rocof : Nat
  phaseErr : Nat
  increment : Nat
  deriving DecidableEq, Repr

/-- What a valid status frame of a drive die reports (R204): supplies in 0.1 V, plateaus in 20 mV, junctions in °C + 64; the
detectors tripped now; whether both plateaus have been seen in 16 periods since arming (R206); and whether the isolated
sides see their refreshes (R68). -/
structure DrvFrame where
  vbs : Nat
  vpl : Nat
  vlo : Nat
  vhi : Nat
  tjH : Nat
  tjL : Nat
  active : Nat
  seen : Bool
  refreshH : Bool
  refreshL : Bool
  deriving DecidableEq, Repr

/-- What a legacy-check step of a window shows (R261): both comparators, and for SWAP their unswapped results of the step. -/
structure LegacyResult where
  hi : Bool
  lo : Bool
  unHi : Bool
  unLo : Bool
  deriving DecidableEq, Repr

/-- What eight consecutive valid training sets of a lane carry (R343): the lane's number within its link, the versions, the
node identity, and whether that identity was constant. -/
structure TrainSet where
  lane : Nat
  verMax : Nat
  verMin : Nat
  ident : Nat
  constant : Bool
  deriving DecidableEq, Repr

/-- A cross-monitor frame (R375): whether its CRC-8 holds, the sender's channel state, demands SF1 to SF4, relay commands,
input-function judgements, CRC of its SPR section and alive count. -/
structure XmonFrame where
  crcOk : Bool
  state : Nat
  sf : Nat
  relays : Nat
  judged : Nat
  sprCrc : Nat
  alive : Nat
  deriving DecidableEq, Repr

end Sys2Proof.Machine
end

