-- ==== Sys2Proof/Syntax.lean ====
section
/-! DEFINITION. Syntax.lean: the commands of spec/opcode_table.json, one constructor per row, in the table's order. The
docstring of each names its mnemonic, its rule and its summary. -/

namespace Sys2Proof

open Sys2Proof.Machine

/-- A command of the module. -/
inductive Instr where
  /-- REGISTER_WRITE (R9). A write to a register that has no row of its own acts on its fields by their access types; a bus error or a refusal follows the block's rules. -/
  | registerWrite (m : Master) (addr size value : Nat)
  /-- SHARED_SRAM_WRITE (R44). A write to the shared data SRAM is performed only if the writing region owns the partition; otherwise it returns a bus error. -/
  | sharedSramWrite (m : Master) (addr : Nat) (data : List Byte)
  /-- MBX_DATA_WRITE (R53). A write to the mailbox write bank is taken, or is ignored and sets WBLOCK while a submission is pending. -/
  | mbxDataWrite (m : Master) (index value : Nat)
  /-- MBX_SUBMIT (R53). A write of SUBMIT hands the write bank to the crossing for a boundary, or sets CNT_ERR when COUNT is out of range. -/
  | mbxSubmit (m : Master) (count tick : Nat)
  /-- MBX_APPLY (R51). At its boundary a submission applies all its entries in index order on one edge and raises MBX_APPLIED. -/
  | mbxApply (edge : Option (Nat × Nat))
  /-- MBX_PARITY_ERROR (R61). A mailbox parity error rejects the whole submission and sets PERR, and a repeat on resubmission is a crossing fault. -/
  | mbxParityError
  /-- DATA_PORT_SUBMIT (R55). PE or EE submits a setpoint entry on the data port, and the crossing stamps it with the current epoch. -/
  | dataPortSubmit (index value tick : Nat)
  /-- LOAD_COPY_COMPLETE (R52). A background load copy ends with its CRC result, and the receiving block checks the image for a switch at the next boundary. -/
  | loadCopyComplete (t : LoadTarget)
  /-- TAP_RECORD_DELIVER (R56). A captured tap record is delivered to the data region within 200 ns of its boundary. -/
  | tapRecordDeliver (chan : Nat)
  /-- DIGEST_COMPLETE (R59). The digest of a frame is written into the ring and DIGEST_READY is raised. -/
  | digestComplete (crcOk : Bool)
  /-- DIG_RPTR_WRITE (R60). A write of RPTR releases m digest entries and lowers UNREAD, clamped at UNREAD. -/
  | digRptrWrite (m : Master) (value : Nat)
  /-- CLR_DROPS (R63). The command clears CROSS_EPOCH_DROPS. -/
  | clrDrops (m : Master)
  /-- EVF_ROUTE_WRITE (R71). A route write applies to later raises and is ignored once LOCK is set until a CR reset. -/
  | evfRouteWrite (m : Master) (n value : Nat)
  /-- EVF_PEND_CLEAR (R74). A write of ones to a pending register clears those pending bits at that target. -/
  | evfPendClear (m : Master) (t w ones : Nat)
  /-- CLR_COAL (R74). The command clears EVF_COAL. -/
  | clrCoal (m : Master)
  /-- SLINK_PACKET_RECEIVE (R66). A sense-link packet arrives on CD and is checked against its CRC-16. -/
  | slinkPacketReceive (lane : Nat) (crcOk : Bool)
  /-- SLINK_LANE_REMOVE (R66). A lane with three consecutive CRC failures or lost lock is removed, and the other lanes carry the traffic. -/
  | slinkLaneRemove (lane : Nat)
  /-- SLINK_TRAIN_DONE (R66). The sense-link lanes finish self-training after a reset, and the link comes up. -/
  | slinkTrainDone (lanes : Nat)
  /-- DRIVE_PATH_TIMEOUT (R67). A drive die with no valid frame for 4 µs turns both channels off, and CD treats the loss as a leg fault. -/
  | drivePathTimeout (leg tested pass : Nat)
  /-- ISO_REFRESH_TIMEOUT (R68). An isolation-channel receiver with no valid refresh for 1 µs clamps its gate off. -/
  | isoRefreshTimeout (leg : Nat) (high : Bool)
  /-- FRAME_BOUNDARY (R89). At each boundary Orbit increments the frame counter, latches the angle, restarts the tick, drains the old frame and raises ORB_BOUNDARY. -/
  | frameBoundary
  /-- ORB_TRACKER_SAMPLE (R77). Every 10 µs Orbit takes the phase voltages, runs sequence extraction and the tracker, and publishes its measures. -/
  | orbTrackerSample (tick : Nat) (t : TrackerSample)
  /-- ORB_VOLTAGE_PRESENT (R80). Voltage present holds after 200 consecutive samples above VMIN + 0.02 pu, moving FREE or FLYWHEEL to ACQUIRE as the state table allows. -/
  | orbVoltagePresent
  /-- ORB_VOLTAGE_ABSENT (R80). Voltage absent holds after two samples below VMIN, moving ACQUIRE to FREE or LOCKED to FLYWHEEL. -/
  | orbVoltageAbsent
  /-- ORB_LOCK_ACHIEVED (R80). Lock held for one full turn moves ACQUIRE to LOCKED and raises ORB_LOCK. -/
  | orbLockAchieved
  /-- ORB_LOCK_LOST (R80). A phase error above 5° for 100 samples moves LOCKED to ACQUIRE and raises ORB_UNLOCK. -/
  | orbLockLost
  /-- ORB_FLYWHEEL_LIMIT (R81). Flywheel time beyond ORB_FLYMAX moves FLYWHEEL to FREE and raises ORB_FLY_LIMIT. -/
  | orbFlywheelLimit
  /-- ORB_TRACK_DISABLE (R81). A write of TRACK_EN = 0 moves the tracker to FREE and holds ORB_DTHETA. -/
  | orbTrackDisable (m : Master)
  /-- ORB_FOLLOW_ENTER (R81). A secondary with valid markers in four consecutive frames enters FOLLOW and adopts the primary's angle and increment. -/
  | orbFollowEnter
  /-- ORB_GROUP_LOSS (R81). Four frames without a valid marker take FOLLOW to LOCKED or FREE and raise ORB_GROUP_LOSS. -/
  | orbGroupLoss
  /-- ORB_CONFIG_WRITE (R84). A write of ORB_NCAR, DIV, FNOM or CAR_OFFSET is held pending, or is refused and sets CFG_ERR. -/
  | orbConfigWrite (m : Master) (which : OrbSetting) (value : Nat)
  /-- ORB_CONFIG_APPLY (R84). Pending carrier settings take effect at a valley of carrier 0. -/
  | orbConfigApply
  /-- ORB_PERIOD_COMPUTE (R86). At boundary + 16 tB Orbit computes the next frame's carrier period and writes it to the following clusters' period shadows. -/
  | orbPeriodCompute
  /-- ORB_SLOT_ISSUE (R97). A slot whose trigger falls in the frame issues its operation with the frame tag and epoch to its target. -/
  | orbSlotIssue (slot tick : Nat) (eccBad : Bool)
  /-- ORB_SLOT_INACT_WRITE (R99). A write to the inactive bank is taken, or is ignored and sets CFG_ERR while a swap or load is pending. -/
  | orbSlotInactWrite (m : Master) (index value : Nat)
  /-- ORB_BANK_SWAP (R99). A write of ORB_BANK.SWAP requests a bank swap at the next boundary. -/
  | orbBankSwap (m : Master) (epochInc : Bool)
  /-- ORB_BANK_SWITCH (R99). At the boundary the operation-table banks swap and ORB_BANK_SWITCH is raised. -/
  | orbBankSwitch
  /-- CLR_OVR (R106). The command clears ORB_OVR_COUNT and ORB_ISSUE_MAX. -/
  | clrOvr (m : Master)
  /-- CLR_STALE (R106). The command clears ORB_STALE_COUNT. -/
  | clrStale (m : Master)
  /-- CP_MISMATCH (R108). A delayed output that disagrees with the checker is blocked, raises CP_MISMATCH and is an immediate fault. -/
  | cpMismatch (p : PairId)
  /-- CP_TCM_DED (R111). A double-bit TCM error raises CP_TCM_DED and is handled as an immediate fault. -/
  | cpTcmDed (p : PairId)
  /-- CP_COMPARATOR_TEST (R110). At tick 32 the supervisor forces a mismatch into each comparator and checks it is reported. -/
  | cpComparatorTest (reportedA reportedB : Bool)
  /-- CP_DELAY_PARITY (R110). A parity error in a delay register raises CHECKER_FAULT, an ordinary fault. -/
  | cpDelayParity (p : PairId)
  /-- CP_AGREE_FIX (R112). When both synchronisers agree for two cycles the agreement unit fixes the value and gives it to both copies. -/
  | cpAgreeFix (p : PairId) (input value : Nat)
  /-- CP_AGREE_FAULT (R114). Synchronised values that differ for eight cycles raise CP_AGREE_FAULT, an immediate fault. -/
  | cpAgreeFault (p : PairId)
  /-- DEBUG_HALT (R117). A debug halt request halts a main copy; on the active pair PWM goes safe, on the standby pair STANDBY_READY clears. -/
  | debugHalt (p : PairId) (count : Nat)
  /-- DEBUG_RESUME (R116). A resume request restarts the halted main copy and is queued for the checker. -/
  | debugResume (p : PairId) (count : Nat)
  /-- DEBUG_STEP (R116). A single step executes one instruction on the main copy and is queued for the checker. -/
  | debugStep (p : PairId) (count : Nat)
  /-- DEBUG_ABSTRACT_CMD (R116). An abstract-command register access acts on the main copy and is queued for the checker. -/
  | debugAbstractCmd (p : PairId) (count : Nat)
  /-- DEBUG_PROGBUF (R116). Program-buffer execution runs on the main copy and is queued for the checker. -/
  | debugProgbuf (p : PairId) (count : Nat)
  /-- DEBUG_REPLAY (R116). The replay queue applies a recorded debug action to the checker at the same instruction count. -/
  | debugReplay (p : PairId)
  /-- SWEEP_CAPTURE (R119). After a wfi the sweep captures one state slice of both copies and compares them. -/
  | sweepCapture (p : PairId) (main checker : List Nat)
  /-- SWEEP_FORCED (R119). Without a wfi by LEAD before the boundary the sweep forces the capture and sets SWEEP_FORCED. -/
  | sweepForced (p : PairId) (main checker : List Nat)
  /-- STANDBY_WRITE_SUPPRESS (R124). A standby-pair write outside its TCM is acknowledged, not performed, and counted. -/
  | standbyWriteSuppress (p : PairId) (addr value : Nat)
  /-- MIRROR_WRITE_THROUGH (R125). An agreed store into the mirror window is written to the other pair's TCM within eight cycles. -/
  | mirrorWriteThrough (p : PairId) (addr : Nat) (data : List Byte)
  /-- CP_TAKEOVER (R127). At the boundary after detection the standby becomes active, the epoch increments and write rights and pending bits pass over. -/
  | cpTakeover
  /-- CP_TAKEOVER_INTERRUPT (R127). The new active pair takes the takeover interrupt at its first instruction boundary after the takeover. -/
  | cpTakeoverInterrupt (p : PairId)
  /-- CP_FATAL_DELAY (R128). With FATAL_EN set, FATALRST follows 10 µs after CP_BOTH_LOST. -/
  | cpFatalDelay
  /-- ORDERLY_SAFE_STATE (R128). At the boundary after an ordinary fault without cover, PWM goes safe, relays open and the module enters FAULT_HOLD. -/
  | orderlySafeState
  /-- CP_ENABLE (R133). A write of x_EN = 1 takes an OFF pair to SELFTEST. -/
  | cpEnable (m : Master) (p : PairId)
  /-- CP_DISABLE (R134). A write of x_EN = 0 takes the pair to OFF, or is refused for the active pair unless PWM is latched safe and relays are open. -/
  | cpDisable (m : Master) (p : PairId)
  /-- CP_SELFTEST_DONE (R133). Pair self-test ends and the pair goes to ACTIVE, SYNC or FAILED. -/
  | cpSelftestDone (p : PairId) (pass : Bool)
  /-- CP_ACTIVATE (R133). A passed pair with no active pair becomes ACTIVE at the next boundary and CP_RUN becomes 1. -/
  | cpActivate (p : PairId)
  /-- CP_SYNC_COPY_DONE (R126). The full TCM copy to a joining pair completes. -/
  | cpSyncCopyDone (p : PairId)
  /-- CP_STANDBY_ENTER (R126). The synced pair enters STANDBY at the next boundary and raises CP_REJOIN. -/
  | cpStandbyEnter (p : PairId)
  /-- CP_CMD_TAKEOVER (R128). The command requests a takeover at the next boundary, or is refused when no standby is ready. -/
  | cpCmdTakeover (m : Master)
  /-- REJOIN_CMD (R133). REJOIN_A or REJOIN_B takes a FAILED pair to SELFTEST while the other pair is active. -/
  | rejoinCmd (m : Master) (p : PairId)
  /-- CP_MIRROR_WRITE (R137). A write of CP_MIRROR is taken only while CP_RUN = 0. -/
  | cpMirrorWrite (m : Master) (base size : Nat)
  /-- CLR_FENCE (R137). The command clears CP_FENCE_DROPS. -/
  | clrFence (m : Master)
  /-- CLR_SUPPRESS (R137). The command clears CP_SUPPRESS_COUNT. -/
  | clrSuppress (m : Master)
  /-- CLR_ECC (R137). The command clears CP_ECC_COUNT. -/
  | clrEcc (m : Master)
  /-- LE_JOB_START (R149). An issued job reaches the engine, is queued or started, and loads its inputs. -/
  | leJobStart (slot : Nat)
  /-- LE_JOB_END (R158). A job ends, its state copy and outputs become current and FULL outputs are written with an optional commit. -/
  | leJobEnd (e : Nat)
  /-- LE_PHASE_WRITE (R154). At WTICK a finished PHASE job writes its held outputs, with the commit if CMT is set. -/
  | lePhaseWrite (e slot : Nat)
  /-- LE_MISSED_WRITE (R157). A PHASE job not ended by WTICK writes nothing, reverts its state and raises LE_MISSED_WRITE. -/
  | leMissedWrite (e : Nat)
  /-- LE_OVERRUN_FAULT (R162). A job exceeding its cost by 16 cycles is an engine fault. -/
  | leOverrunFault (e : Nat)
  /-- LE_FAULT (R162). An ECC, parity or residue fault stops the engine, cancels the job, enters FAULT and raises LE_FAULT. -/
  | leFault (e : Nat) (kind : LeFaultKind)
  /-- LE_COVER_FAILOVER (R161). From the next boundary the covering engine runs the faulted engine's jobs from its cover image. -/
  | leCoverFailover (y : Nat)
  /-- LE_CMD_SWAP (R148). SWAP checks the inactive bank for a switch at the next boundary, ignored while a load is busy. -/
  | leCmdSwap (m : Master) (e : Nat)
  /-- LE_BANK_SWITCH (R148). An accepted image switches in at the boundary with state, modes and marks reset, and raises LE_LOAD. -/
  | leBankSwitch (e : Nat)
  /-- LE_ENABLE (R164). A write of EN = 1 takes an OFF engine to SELFTEST. -/
  | leEnable (m : Master) (e : Nat)
  /-- LE_DISABLE (R164). A write of EN = 0 takes the engine to OFF, or is ignored while it runs or covers. -/
  | leDisable (m : Master) (e : Nat)
  /-- LE_SELFTEST_DONE (R164). Engine self-test ends in EMPTY or FAULT. -/
  | leSelftestDone (e : Nat) (pass : Bool)
  /-- LE_SELFTEST_CMD (R163). LE_CMD.SELFTEST starts self-test of a faulted engine. -/
  | leSelftestCmd (m : Master) (e : Nat)
  /-- LE_RETURN_CMD (R163). LE_CMD.RETURN requests that a repaired engine take back its jobs. -/
  | leReturnCmd (m : Master) (e : Nat)
  /-- LE_RETURN_APPLY (R163). At the next boundary issues go back to the engine and COVERING clears. -/
  | leReturnApply (e : Nat)
  /-- LE_INJ_ARM (R165). A write of LE_INJi.ARM starts the generator of an injection point. -/
  | leInjArm (m : Master) (e i : Nat) (arm : Bool) (frames : Nat)
  /-- LE_INJ_END (R165). The generator stops and ARM clears when FRAMES frames have run. -/
  | leInjEnd (e i : Nat)
  /-- CAPTURE_BURST_ARM (R166). An Orbit capture operation arms a BURST capture set. -/
  | captureBurstArm (slot : Nat)
  /-- CAPTURE_BURST_SAMPLE (R166). Every PER tB a burst set writes one sample and retires after the last or at the region end. -/
  | captureBurstSample (e c : Nat)
  /-- LE_CNT_CLR (R169). The command clears the selected loop-engine counters. -/
  | leCntClr (m : Master) (e mask : Nat)
  /-- LE_IMG_INACT_WRITE (R169). A write to the inactive image is taken, or ignored while a load is busy. -/
  | leImgInactWrite (m : Master) (e index value : Nat)
  /-- PWM_COMMIT (R175). A write of a cluster's PWM_COMMIT bit arms the cluster, or is held as late inside the cut-off window. -/
  | pwmCommit (src : CommitSource) (mask : Nat)
  /-- PWM_SHADOW_WRITE (R176). A shadow write goes to the shadow, or to the holding copy inside the cut-off window. -/
  | pwmShadowWrite (m : Master) (p : Nat) (r : ShadowReg) (value : Nat)
  /-- CUTOFF_FREEZE (R176). Eight tB before a commit point the cluster freezes its shadows and computes the new carrier's edges. -/
  | cutoffFreeze (c : Nat) (peak : Bool)
  /-- COMMIT_POINT (R177). At a commit point the frozen copy becomes active and the holding copy moves to the shadows one tB later. -/
  | commitPoint (c : Nat)
  /-- CL_ENABLE (R176). A write of CL_CTRL.EN enables or disables a cluster, and a disable inside the window moves the holding copy. -/
  | clEnable (m : Master) (c : Nat) (en : Bool)
  /-- CL_SOFT_RESET (R194). SRST puts the cluster's pairs in safe state, clears compares and carries, and restarts at the next valley. -/
  | clSoftReset (m : Master) (c : Nat)
  /-- CL_PERIOD_WRITE (R170). A free cluster's period write is taken, or refused outside 4000 to 266 666 tB. -/
  | clPeriodWrite (m : Master) (c value : Nat)
  /-- PWM_VALLEY (R180). At each valley every pair forms its emitted on-time from the request and carry, and PWM_VALLEY is raised. -/
  | pwmValley (c : Nat)
  /-- PWM_INTERLOCK (R187). An overlap of H and L after stage 7 is held off and counted as an interlock event. -/
  | pwmInterlock (p : Nat)
  /-- PWM_ESC_RELEASE (R187). A write of 1 to a PWM_ESC bit releases the pair at its next valley. -/
  | pwmEscRelease (m : Master) (mask : Nat)
  /-- TRIP_ACTIVATE (R189). An enabled trip line goes active and applies its action to its masked pairs. -/
  | tripActivate (n : Nat) (level blanked : Bool)
  /-- TRIP_BLANK_END (R190). A trip source still active when its blanking window ends trips at that tB. -/
  | tripBlankEnd (n : Nat)
  /-- TRIP_LATCH_CLEAR (R189). Clearing a TRIP_LATCH bit releases its pairs at the first valley, or is ignored while the line is active. -/
  | tripLatchClear (m : Master) (mask : Nat)
  /-- PWM_FORCE_WRITE (R186). A PR_FORCE write forces outputs within 2 tB, or is refused for value 3. -/
  | pwmForceWrite (m : Master) (p fh fl : Nat)
  /-- PWM_SAFE_ENTER (R192). A hard safe-state cause drives every output to safe state through the asynchronous gate and latches it. -/
  | pwmSafeEnter (cause : SafeCause)
  /-- PWM_SAFE_CMD_ENTER (R192). PWM_SAFE_CMD.ENTER is the SOFT cause that latches safe state. -/
  | pwmSafeCmdEnter (m : Master)
  /-- PWM_SAFE_CLEAR (R193). PWM_SAFE_CMD.CLEAR releases the latch when no cause remains and the clock is good, or is refused. -/
  | pwmSafeClear (m : Master)
  /-- PWM_CLK_LOSS (R192). No base-clock edge for 16 ns drives safe state and raises PWM_CLK_LOSS. -/
  | pwmClkLoss
  /-- PWM_CAL_DONE (R182). Delay-line calibration ends 40 µs after PLL lock or reset, sets CAL_DONE and raises PWM_CAL. -/
  | pwmCalDone (failed : Nat)
  /-- PWM_CLR_SHORT (R199). The command clears PWM_SHORT_COUNT. -/
  | pwmClrShort (m : Master)
  /-- PWM_CLR_XLOCK (R199). The command clears the interlock count. -/
  | pwmClrXlock (m : Master)
  /-- PWM_CLR_LATE (R199). The command clears every CL_LATE_COUNT. -/
  | pwmClrLate (m : Master)
  /-- DRV_LEG_USE (R216). Writing a leg's USED bit to 1 powers its logic section, enters INIT and sends the configuration. -/
  | drvLegUse (m : Master) (leg : Nat)
  /-- DRV_LEG_UNUSE (R216). Writing USED to 0 unpowers the logic section and the gates clamp. -/
  | drvLegUnuse (m : Master) (leg tested pass : Nat)
  /-- DRV_INIT_DONE (R216). After 10 µs of valid frames both ways the leg starts its boot self-test. -/
  | drvInitDone (leg : Nat)
  /-- DRV_TEST_DONE (R220). A comparator self-test ends, updates PASS and TEST_OK, and returns the leg to its state. -/
  | drvTestDone (leg pass : Nat)
  /-- DRV_TEST_START (R221). A write of TEST_CMD.START runs the selected comparator tests, or is refused. -/
  | drvTestStart (m : Master) (leg : Nat)
  /-- DRV_ARM (R216). A write of ARM = 1 prepares the leg to arm at both off, or is refused with CFG_ERR. -/
  | drvArm (m : Master) (leg : Nat)
  /-- DRV_ARM_ENGAGE (R216). At the first instant both received commands are off, the leg enters ARMED. -/
  | drvArmEngage (leg : Nat)
  /-- DRV_DISARM (R216). A write of ARM = 0 turns the gates off and takes the leg to OFF. -/
  | drvDisarm (m : Master) (leg : Nat)
  /-- DRV_DSAT_OC (R212). A desaturation or over-current detection starts soft turn-off, counts a try and raises DRV_FAULT. -/
  | drvDsatOc (leg cause : Nat) (gateOn : Bool)
  /-- DRV_LEG_FAULT (R211). An under-voltage, over-temperature, link or escalation fault turns the leg off and goes to WAIT or LATCHED. -/
  | drvLegFault (leg cause : Nat)
  /-- DRV_SOFTOFF_END (R212). Soft turn-off ends when the gate is off or at its time-out, and the leg goes to WAIT or LATCHED. -/
  | drvSoftoffEnd (leg : Nat)
  /-- DRV_RETRY_WAIT_END (R216). The retry wait elapses and the leg rearms, waits or latches. -/
  | drvRetryWaitEnd (leg : Nat)
  /-- DRV_TRIES_RESET (R216). Sixty seconds armed without a fault returns TRIES to 0. -/
  | drvTriesReset (leg : Nat)
  /-- DRV_CMD_CLEAR (R217). DRV_CMDn.CLEAR takes a latched leg to OFF, or is refused while a cause is present or the link is down. -/
  | drvCmdClear (m : Master) (leg : Nat)
  /-- DRV_ENABLE_CUT (R213). A cut enable clamps the gates and sets EN_CUT without a leg fault. -/
  | drvEnableCut (leg : Nat)
  /-- DRV_ENABLE_RETURN (R213). When the enable returns the die follows commands again at both off. -/
  | drvEnableReturn (leg : Nat)
  /-- DRV_DIE_INTERLOCK (R214). Both received commands on holds both gates off and raises DRV_XLOCK. -/
  | drvDieInterlock (leg : Nat)
  /-- DRV_BS_WARN (R219). VBS below the warning level sets BS_WARN and starts the refresh cap. -/
  | drvBsWarn (leg : Nat)
  /-- DRV_BS_UV (R219). VBS below UV for 1 µs turns GH off and holds it without a leg fault. -/
  | drvBsUv (leg : Nat)
  /-- DRV_BS_OK (R219). VBS back above UV + 0.5 V releases the hold or leaves the warning. -/
  | drvBsOk (leg : Nat) (hold warn : Bool)
  /-- DRV_TRANSITION_MEASURE (R208). A measured switch-node transition is credited to a code and adapts it. -/
  | drvTransitionMeasure (leg : Nat) (rising : Bool) (edge : GateEdge) (other : Bool) (t : Nat)
  /-- DRV_STATUS_FRAME (R204). A status frame from a die arrives and updates the leg's reported state. -/
  | drvStatusFrame (leg : Nat) (f : Option DrvFrame)
  /-- DRV_SHORT_CMD (R203). A command pulse under 20 ns is not passed and sets SHORT_CMD. -/
  | drvShortCmd (leg : Nat)
  /-- DRV_OT_WARN (R210). A junction crossing the warning level raises DRV_OT_WARN. -/
  | drvOtWarn (leg : Nat) (high : Bool) (tj : Nat)
  /-- DRV_CLR_CRC (R224). The command clears DRV_CRC_COUNT. -/
  | drvClrCrc (m : Master)
  /-- DRV_CLR_XLOCK (R224). The command clears every DRV_XLOCKn.COUNT. -/
  | drvClrXlock (m : Master)
  /-- SAR_CONVERSION_END (R228). A 200 ns conversion ends, its result is sent to CD and the next conversion or queued sequence starts. -/
  | sarConversionEnd (c : Nat) (v : Int)
  /-- SAR_RESULT_ARRIVE (R235). A result reaches CD, is tagged, enters the FIFO and updates the latest register. -/
  | sarResultArrive (c : Nat) (recent : Bool)
  /-- SAR_INJ_TRIGGER (R232). An injected trigger reaches the converter and starts, queues or is dropped. -/
  | sarInjTrigger (c : Nat) (src : InjSource)
  /-- SWTRIG (R231). A write of SNS_CMD.SWTRIG triggers injected sequence 0 of the named converters. -/
  | swtrig (m : Master) (mask : Nat)
  /-- SAR_FIFO_POP (R236). A read of SAR_FIFO pops the oldest result, or returns the empty word. -/
  | sarFifoPop (m : Master) (c : Nat)
  /-- SAR_CANCEL_ARRIVE (R233). An Orbit cancel reaches SD and abandons the unconverted slots of the cancelled sequence. -/
  | sarCancelArrive (c slot : Nat)
  /-- SAR_ENABLE (R240). An enabled converter with supply and link enters INIT and powers its buffers. -/
  | sarEnable (m : Master) (c : Nat)
  /-- SAR_DISABLE (R240). Writing an EN bit to 0 takes the converter to OFF and clears its queue. -/
  | sarDisable (m : Master) (c : Nat)
  /-- SAR_INIT_DONE (R240). After 20 µs in INIT the converter enters RUN or FAULT on its reference check. -/
  | sarInitDone (c : Nat) (refOk : Bool)
  /-- SAR_CHECK_CMD (R240). SNS_CMD.CHECK takes a running converter to CHECK after its current work. -/
  | sarCheckCmd (m : Master) (mask : Nat)
  /-- SAR_CHECK_DONE (R240). The internal-channel check ends and returns to RUN or enters FAULT. -/
  | sarCheckDone (c : Nat) (c8 c9 c11 : Int)
  /-- SAR_REF_FAULT (R240). A reference outside ±2 % for 1 µs or a sequencer parity error puts the converter in FAULT. -/
  | sarRefFault (c : Nat)
  /-- SAR_SOFT_RESET (R241). SNS_CMD.SRST clears the converter's FIFO, latest registers, windows and queue and restarts the scan. -/
  | sarSoftReset (m : Master) (mask : Nat)
  /-- SAR_PACKET_GAP (R245). A sequence-number gap inserts placeholders, counts LOST and raises SNS_LOST. -/
  | sarPacketGap (c n : Nat)
  /-- SAR_CONFIG_WRITE (R239). A shadow configuration write is held for the boundary commit, marked late, or refused. -/
  | sarConfigWrite (m : Master) (c : Nat) (r : SarReg) (value tick : Nat)
  /-- SAR_CONFIG_COMMIT (R239). A converter's shadows apply together at the first conversion start after the boundary. -/
  | sarConfigCommit (c : Nat)
  /-- SNS_CLR_CRC (R249). The command clears SNS_LINK_CRC. -/
  | snsClrCrc (m : Master)
  /-- SNS_CLR_SAR (R249). The command clears every SAR_COUNTS and SAR_FIFO_OVF_COUNT. -/
  | snsClrSar (m : Master)
  /-- METER_SAMPLE_SET (R316). A metering sample set arrives with its angle and ME calibrates and accumulates it. -/
  | meterSampleSet (words : List Nat) (tick : Nat)
  /-- CMP_OUTPUT_CHANGE (R251). A threshold crossing changes a window's output and feeds its consumers. -/
  | cmpOutputChange (w : Nat) (v : Int) (blanked : Bool) (lines : Nat)
  /-- CMP_BANK_TICK (R253). At each bank tick sampled windows evaluate and class B filters update. -/
  | cmpBankTick (b lines : Nat)
  /-- CMP_WINDOW_ENABLE (R258). Writing an EN bit to 1 powers the window and applies its start state. -/
  | cmpWindowEnable (m : Master) (w : Nat)
  /-- CMP_WINDOW_DISABLE (R258). Writing an EN bit to 0 takes the window OFF with its output not tripped. -/
  | cmpWindowDisable (m : Master) (w : Nat)
  /-- CMP_WINDOW_ARM (R258). At its first evaluation the window leaves START for ARMED. -/
  | cmpWindowArm (w : Nat) (v : Int)
  /-- CMP_CONFIG_WRITE (R252). A threshold or hysteresis shadow write is held for the bank commit or marked late. -/
  | cmpConfigWrite (m : Master) (w : Nat) (r : CmpReg) (value tick : Nat)
  /-- CMP_CONFIG_COMMIT (R252). A bank's shadows apply together at the boundary and the output is held for 200 ns. -/
  | cmpConfigCommit (b : Nat)
  /-- CMP_DAC_HOLD_END (R252). The 200 ns commit hold ends and a crossing during it takes effect. -/
  | cmpDacHoldEnd (w : Nat)
  /-- CMP_BLANK_END (R254). A class A window's blanking ends and events and triggers see a crossing still present. -/
  | cmpBlankEnd (w : Nat)
  /-- CMP_LCHECK (R261). CMP_CMD.LCHECK starts a legacy check on a bank, or is refused when a trip line uses it. -/
  | cmpLcheck (m : Master) (b : Nat)
  /-- CMP_LCHECK_STEP_END (R261). A 2 µs legacy-check step of a window ends and is judged. -/
  | cmpLcheckStepEnd (w : Nat) (step : LegacyStep) (r : LegacyResult)
  /-- CMP_LCHECK_END (R262). The legacy check ends; windows return to ARMED or enter FAULT, and CMP_CHECK is raised. -/
  | cmpLcheckEnd (b : Nat)
  /-- CMP_BANK_SOFT_RESET (R258). CMP_CMD.SRST returns the bank's windows to START and clears filters and timers. -/
  | cmpBankSoftReset (m : Master) (b : Nat)
  /-- GS_RT_ENTER (R273). A confirmed LV, HV or ZV entry starts ride-through or trips, latching V_PRE and id_PRE. -/
  | gsRtEnter (e : RtEntry)
  /-- GS_EXIT_HOLD (R275). The exit condition held for EXIT_HOLD moves LVRT or HVRT to RECOVER. -/
  | gsExitHold
  /-- GS_CURVE_VIOLATION (R276). Two samples beyond the ride-through curve trip grid support and set the abnormal-grid line. -/
  | gsCurveViolation
  /-- GS_ZV_TIMEOUT (R275). ZVRT beyond ZV_TMAX or a flywheel limit trips grid support. -/
  | gsZvTimeout
  /-- GS_REFERENCE_WRITE (R272). At boundary + 2 tB grid support writes its latched references to the routed LE references. -/
  | gsReferenceWrite
  /-- GS_ENABLE (R275). Writing GS_CTRL.EN = 1 with a profile and lock takes grid support to NORMAL. -/
  | gsEnable (m : Master)
  /-- GS_DISABLE (R275). Writing EN = 0 returns grid support to OFF with zero references and the line released. -/
  | gsDisable (m : Master)
  /-- GS_PROFILE_SWITCH (R269). An accepted profile switches at its boundary, deferred out of ride-through, and raises GS_PROFILE. -/
  | gsProfileSwitch
  /-- EE_PASSIVE_TRIP (R283). A passive detector held beyond its threshold for its confirmation time sets ISLAND and raises EE_PASSIVE. -/
  | eePassiveTrip (det : Nat)
  /-- EE_SEGMENT_END (R287). At each segment end Eclipse accumulates its bins and evaluates the impedance decision. -/
  | eeSegmentEnd
  /-- EE_CLEAR (R290). EE_CMD.CLEAR releases ISLAND and the island line, or is refused while a passive detector is tripped. -/
  | eeClear (m : Master)
  /-- EE_REBASE (R296). EE_CMD.REBASE discards the impedance baseline. -/
  | eeRebase (m : Master)
  /-- PE_STEP (R300). At the boundary after each 500 µs tick PE averages its records, updates references and submits them. -/
  | peStep
  /-- PE_NOSAMP (R300). Sixty-four consecutive empty steps send the channel to WAIT and set NOSAMP. -/
  | peNosamp (n : Nat)
  /-- PE_CURTAIL_ENTER (R304). P_DC below the available power for four steps enters curtailment and raises PE_CURTAIL. -/
  | peCurtailEnter
  /-- PE_CURTAIL_LEAVE (R304). P_DC at or above the available power for four steps leaves curtailment. -/
  | peCurtailLeave
  /-- PE_SHADE (R306). Twenty steps below the drop threshold request a sweep and raise PE_SHADE. -/
  | peShade (n : Nat)
  /-- PE_SWEEP_SCHEDULE (R306). The schedule period elapsing requests a sweep of the channel. -/
  | peSweepSchedule (n : Nat)
  /-- PE_SWEEP_CMD (R306). PE_CMD.SWEEP requests a sweep without holdoff. -/
  | peSweepCmd (m : Master) (mask : Nat)
  /-- PE_VOC_END (R307). The open-circuit phase ends and Voc is taken. -/
  | peVocEnd
  /-- PE_SWEEP_POINT (R307). A sweep point's reference is submitted and its measured pair stored after FPP frames. -/
  | peSweepPoint
  /-- PE_SWEEP_SEARCH (R309). After the last point PE searches the curve, writes the record and raises PE_SWEEP_DONE. -/
  | peSweepSearch
  /-- PE_PAIR_BLOCKED (R301). A blocked boost pair sends the channel to HOLD and raises PE_CHANNEL. -/
  | pePairBlocked (n : Nat)
  /-- PE_PAIR_UNBLOCKED (R301). An unblocked pair returns the channel from HOLD to WAIT. -/
  | pePairUnblocked (n : Nat)
  /-- PE_CHANNEL_ENABLE (R301). Setting a CH_EN bit takes the channel from OFF to WAIT. -/
  | peChannelEnable (m : Master) (n : Nat)
  /-- PE_CHANNEL_DISABLE (R301). Clearing a CH_EN bit takes the channel to OFF. -/
  | peChannelDisable (m : Master) (n : Nat)
  /-- PE_PROFILE_SWITCH (R308). An accepted sweep profile switches at its boundary or after the running sweep. -/
  | peProfileSwitch
  /-- ME_GRANULE_CLOSE (R321). A granule closes and its accumulators, instantaneous values, count and latches update in one step. -/
  | meGranuleClose
  /-- ME_GRANULE_LOST (R322). Sixty-four consecutive substituted sets discard the granule and return ME to SETTLING. -/
  | meGranuleLost
  /-- ME_INTERVAL_BOUNDARY (R327). The seconds tick reaches a demand-interval boundary. -/
  | meIntervalBoundary
  /-- ME_CKPT_PERIOD (R331). Sixty seconds of the seconds tick request a periodic checkpoint. -/
  | meCkptPeriod
  /-- ME_CKPT_STORE (R331). MC copies the checkpoint image to the older store slot and acknowledges it. -/
  | meCkptStore
  /-- ME_SNAP (R330). ME_CMD.SNAP requests a snapshot at the next granule close. -/
  | meSnap (m : Master)
  /-- ME_SNAP_ACK (R330). ME_CMD.SNAP_ACK clears SNAP_READY. -/
  | meSnapAck (m : Master)
  /-- ME_CKPT (R331). ME_CMD.CKPT requests a checkpoint at the next granule close. -/
  | meCkpt (m : Master)
  /-- ME_CKPT_ACK (R331). ME_CMD.CKPT_ACK clears CKPT_READY. -/
  | meCkptAck (m : Master)
  /-- ME_IVAL_CLOSE (R337). ME_CMD.IVAL_CLOSE closes the interval at the next granule close with FORCED. -/
  | meIvalClose (m : Master)
  /-- ME_RESTORE (R332). ME_CMD.RESTORE checks the restore image and loads accumulators and interval, or sets RESTORE_ERR. -/
  | meRestore (m : Master)
  /-- ME_CLR_COUNTS (R339). ME_CMD.CLR_COUNTS clears the metering counters. -/
  | meClrCounts (m : Master)
  /-- ME_ENABLE (R333). Writing ME_CTRL.EN = 1 with converters enabled enters SETTLING. -/
  | meEnable (m : Master)
  /-- ME_DISABLE (R333). Writing EN = 0 discards the running granule and returns ME to OFF. -/
  | meDisable (m : Master)
  /-- ME_CAL_WRITE (R317). A calibration shadow write is held for the next granule edge, or refused under the gain limit or lock. -/
  | meCalWrite (m : Master) (r : MeCal) (value : Nat)
  /-- ME_CAL_LOCK (R336). Writing CAL_LOCK = 1 locks calibration and MC stores the record in two copies. -/
  | meCalLock (m : Master)
  /-- ME_CAL_RESTORE (R336). After a reset MC writes the stored calibration back and checks its CRC. -/
  | meCalRestore
  /-- LINK_ENABLE (R346). Writing LINK_CFG.EN = 1 starts blind training on the link's lanes. -/
  | linkEnable (m : Master) (l : Nat)
  /-- LINK_DISABLE (R346). Writing EN = 0 disables the link and puts its lanes in electrical idle. -/
  | linkDisable (m : Master) (l : Nat)
  /-- LANE_TS_RECEIVED (R344). Eight consecutive valid training sets move a lane to CONFIG, or flag a lane-number mismatch. -/
  | laneTsReceived (k : Nat) (t : TrainSet)
  /-- LANE_CONFIG_DONE (R344). Eight TS2 received and sixteen sent make the lane READY and start latency measurement. -/
  | laneConfigDone (k : Nat)
  /-- LINK_TRAIN_TIMEOUT (R346). One millisecond after the first READY lane the link forms from the READY lanes. -/
  | linkTrainTimeout (l : Nat)
  /-- LANE_LATENCY_MEASURED (R353). Sixty-four echoes give a lane its latency. -/
  | laneLatencyMeasured (k td : Nat)
  /-- LINK_UP (R346). At the boundary after measurement the link becomes UP or DEGRADED with its lanes ACTIVE. -/
  | linkUp (l : Nat)
  /-- LINK_BND_RECEIVE (R347). A received BND deskews the lanes and marks the far boundary. -/
  | linkBndReceive (l : Nat) (arrival : Int) (tag mask : Nat)
  /-- DFE_WINDOW_END (R349). At each 1024-UI window end the DFE taps step by sign-sign LMS. -/
  | dfeWindowEnd (k : Nat) (s1 s2 s3 : Int) (transitions : Nat) (ordered : Bool)
  /-- LANE_FOM_SAMPLE (R350). Every 65 536 UI the figure of merit is taken and taps are stored or reverted. -/
  | laneFomSample (k fom : Nat)
  /-- LANE_IDLE_ENTER (R352). After the last packet with time to spare the transmitter sends EIOS and enters electrical idle. -/
  | laneIdleEnter (l tick : Nat)
  /-- LANE_IDLE_EXIT (R352). 256 ns before the boundary the transmitter leaves idle with an FTS burst. -/
  | laneIdleExit (l : Nat)
  /-- LANE_LATENCY_REMEASURE (R353). Every 4096 frames each active lane takes 16 probes and updates its latency. -/
  | laneLatencyRemeasure (k td : Nat)
  /-- COMET_PACKET_RECEIVE (R354). A received packet is checked, discarded on a bad CRC or abort, or passed on by type. -/
  | cometPacketReceive (l : Nat) (ok : Bool)
  /-- MARKER_RECEIVE (R356). A marker packet gives the primary's boundary and is judged valid or bad. -/
  | markerReceive (l : Nat) (words : List Nat) (resid : Int)
  /-- EE_BROADCAST_RECEIVE (R357). A secondary takes the primary's PRBS parameters and island decision from a broadcast. -/
  | eeBroadcastReceive (l : Nat) (words : List Nat)
  /-- SAMPLE_RECEIVE (R360). A satellite SAMPLE packet is written to LINK_RXS and raises CMT_RX_SAMPLE. -/
  | sampleReceive (l : Nat) (words : List Nat)
  /-- STATUS_RECEIVE (R360). A STATUS packet is stored in LINK_RXSTAT and its age restarts. -/
  | statusReceive (l : Nat) (words : List Nat)
  /-- SAFETY_PDU_RECEIVE (R361). The first valid copy of a SAFETY packet enters the receive ring and raises CMT_RX_SAFETY. -/
  | safetyPduReceive (l seq addr : Nat) (words : List Nat)
  /-- SHARE_RECEIVE (R362). A SHARE packet is stored per sending module. -/
  | shareReceive (l : Nat) (words : List Nat)
  /-- TUNNEL_RECEIVE (R362). TUNNEL packets are reassembled into a TPP packet or forwarded to another module. -/
  | tunnelReceive (l addr w0 : Nat) (bytes : List Byte)
  /-- COMET_PACKET_START (R355). The transmitter starts the lowest pending class, or drops a packet that cannot end in time. -/
  | cometPacketStart (l tick : Nat)
  /-- COMET_LANE_SEND (R355). An Orbit lane-send operation queues its send-queue packet or drops it. -/
  | cometLaneSend (slot : Nat)
  /-- SAFE_TX_QUEUE (R361). SC sets a slot VALID and the PDU is sent on two lanes in the next frame. -/
  | safeTxQueue (m : Master) (mask : Nat)
  /-- LINK_SHED_EVALUATE (R364). At a boundary after a lane, frame or demand change the link recomputes its shed classes. -/
  | linkShedEvaluate (l : Nat)
  /-- LANE_LOSS (R365). A lane meeting a loss criterion is counted, sends LSTAT and retrains. -/
  | laneLoss (k cause tick : Nat)
  /-- LSTAT_RECEIVE (R366). A received LSTAT names a lane to remove or reinstate at a boundary. -/
  | lstatReceive (l lost ready tag tick : Nat)
  /-- LANE_REMOVE (R366). At the named boundary both ends remove the lane and the link re-stripes as DEGRADED. -/
  | laneRemove (k : Nat)
  /-- LANE_READY_MARK (R367). A retrained lane with 1024 error-free symbols sets its ready bit. -/
  | laneReadyMark (k tick : Nat)
  /-- LANE_REINSTATE (R367). At the named boundary the lane becomes ACTIVE again and CMT_LANE_BACK is raised. -/
  | laneReinstate (k : Nat)
  /-- COMET_RETRAIN (R373). COMET_CMD.RETRAIN sends a lane to TRAIN as a loss. -/
  | cometRetrain (m : Master) (mask : Nat)
  /-- COMET_REMEASURE (R373). COMET_CMD.REMEASURE takes 64 probes on every lane of a link. -/
  | cometRemeasure (m : Master) (mask : Nat)
  /-- COMET_CLR_STATS (R373). COMET_CMD.CLR_STATS clears the link statistics. -/
  | cometClrStats (m : Master)
  /-- LANE_TEST_ENTER (R370). A PAT or LOOP write on a disabled link puts the lane in TEST. -/
  | laneTestEnter (m : Master) (k loop pat : Nat) (chk : Bool)
  /-- LANE_TEST_EXIT (R344). Writing PAT and LOOP to 0 returns the lane to OFF. -/
  | laneTestExit (m : Master) (k : Nat)
  /-- LANE_PATTERN_ERROR (R370). The pattern checker counts a bit error and raises CMT_PAT_ERR on the first after a clear. -/
  | lanePatternError (k n : Nat)
  /-- XMON_FRAME (R375). A cross-monitor frame from the partner channel arrives and is compared. -/
  | xmonFrame (toHsl : Bool) (f : XmonFrame)
  /-- XMON_TIMEOUT (R375). No valid partner frame for 3 ms applies SF4, opens the channel's relays and latches. -/
  | xmonTimeout (bySc : Bool)
  /-- XMON_DISCREPANCY (R375). A difference between the channels for 10 ms applies SF4 and latches. -/
  | xmonDiscrepancy
  /-- SAFE_SF1_DEMAND (R376). A grid-disconnect demand applies SF4 and opens every used relay. -/
  | safeSf1Demand (n : Nat) (present : Bool)
  /-- SIN_SAMPLE (R383). Every 100 µs both channels sample and judge every safety input. -/
  | sinSample (levels t : Nat)
  /-- SAFE_SF2_DEMAND (R383). An input function held in demand for FILT starts SF2. -/
  | safeSf2Demand (f : Nat)
  /-- SAFE_SF2_RELEASE (R385). An input function whose channels show non-demand for FILT ends its demand. -/
  | safeSf2Release (f : Nat)
  /-- SAFE_SF4_APPLY (R386). Pulse inhibit drives the PWM safe and drive-enable cut lines. -/
  | safeSf4Apply (hsl : Bool)
  /-- SAFE_SF4_RELEASE (R386). SF4 releases at the next boundary once every causing demand has ended. -/
  | safeSf4Release
  /-- TPO_PULSE (R384). On the 50 ms cycle a test-pulse source pulses off and its inputs are checked. -/
  | tpoPulse (src before early window : Nat) (readback : Bool)
  /-- COMM_KEY_PRESS (R390). A 200 ms press seen by both channels inside the window confirms the pending SPR. -/
  | commKeyPress (inWindow held : Nat)
  /-- CONFIRM_WINDOW_EXPIRE (R390). The 60 s confirmation window closes without a press and the SPR stays pending. -/
  | confirmWindowExpire
  /-- SAFE_CONNECT_REQUEST (R382). A connect request from MC moves OPEN to CLOSING and starts the contact sequence. -/
  | safeConnectRequest
  /-- SAFE_PRE_ENERGISE_STEP (R378). A 200 µs pre-energise test step ends and its readback is checked. -/
  | safePreEnergiseStep (h l : Nat)
  /-- SAFE_CONTACT_CHECK (R382). A timed contact-check stage ends and passes, fails as SF3 or completes CLOSED. -/
  | safeContactCheck (a b held : Bool)
  /-- SAFE_DISCONNECT_REQUEST (R377). A disconnect request de-energises the relays and returns to OPEN. -/
  | safeDisconnectRequest
  /-- RELAY_OFF_PULSE (R380). At its slot a relay switch opens for an off-pulse. -/
  | relayOffPulse (slot : Nat)
  /-- RELAY_OFF_PULSE_END (R380). The off-pulse ends and the node's on level is checked. -/
  | relayOffPulseEnd (offSeen otherKept onSeen : Bool)
  /-- RELAY_READBACK_FAULT (R381). A readback contradicting the command opens the channel's switch and both channels latch. -/
  | relayReadbackFault (n : Nat) (high : Bool)
  /-- RECONNECT_TIMER_EXPIRE (R377). The reconnect timer reaches 0 after RECONNECT_S seconds of clear grid windows. -/
  | reconnectTimerExpire
  /-- HSL_GRID_WINDOW_TRIP (R387). An HSL grid window beyond its level for its time demands SF1 and restarts the reconnect timer. -/
  | hslGridWindowTrip (mask freq : Nat)
  /-- HSL_ANALOG_WINDOW_TRIP (R387). An HSL analog window crossing demands SF4 or SF1 within 5 µs. -/
  | hslAnalogWindowTrip (w : Nat) (trip : Bool)
  /-- HSL_WINDOWS_ARM (R387). After 1 s of V+ above 0.2 pu HSL begins judging its grid windows. -/
  | hslWindowsArm
  /-- PDU_SEND (R392). SC sends one PDU per connection every send period. -/
  | pduSend (c type : Nat) (payload : List Byte)
  /-- PDU_WATCHDOG_EXPIRE (R393). No accepted PDU within the watchdog time fails the connection and applies its action. -/
  | pduWatchdogExpire (c : Nat)
  /-- SAFE_SELF_CHECK_FAIL (R377). An SC or HSL self-check failure applies SF4 and latches the channel. -/
  | safeSelfCheckFail
  /-- SPI_WRITE_TRANSFER (R404). A WRITE transfer delivers one request, which is checked and queued or discarded. -/
  | spiWriteTransfer (bytes : List Byte)
  /-- SPI_READ_TRANSFER (R404). A READ transfer sends the oldest waiting reply or notice. -/
  | spiReadTransfer (n : Nat)
  /-- SERVICE_UART_BYTE (R419). A byte arrives on the service UART and is scanned into a packet. -/
  | serviceUartByte (b : Byte)
  /-- SERVICE_GAP_ABORT (R419). A gap of more than 2 ms aborts a partly received service packet. -/
  | serviceGapAbort
  /-- TPP_SESSION_TIMEOUT (R409). Three hundred seconds without an accepted request end the session. -/
  | tppSessionTimeout (p : Port)
  /-- RECORD_STAGING_TIMEOUT (R413). Ten seconds without a chunk release the port's record staging. -/
  | recordStagingTimeout (k : RecordKind)
  /-- HELLO (R408). HELLO negotiates the TPP version and ends any session on the port. -/
  | hello
  /-- BYE (R409). BYE ends the session on the port. -/
  | bye
  /-- KEY_OFFER (R438). KEY_OFFER draws an ML-KEM key pair and nonce and returns them. -/
  | keyOffer
  /-- KEY_PROOF (R438). KEY_PROOF returns the identity signature over the transcript. -/
  | keyProof
  /-- KEY_CIPHER (R438). KEY_CIPHER decapsulates the shared secret and extends the transcript. -/
  | keyCipher
  /-- KEY_OWNER (R438). KEY_OWNER verifies the owner signature and derives the session MAC key. -/
  | keyOwner
  /-- BDR_WRITE (R413). BDR_WRITE stages a chunk of the board description record. -/
  | bdrWrite
  /-- BDR_COMMIT (R412). BDR_COMMIT checks the staged BDR and applies it with the pairs released, or refuses it. -/
  | bdrCommit
  /-- BDR_READ (R417). BDR_READ returns bytes of the BDR in force. -/
  | bdrRead
  /-- GPR_WRITE (R413). GPR_WRITE stages a chunk of the grid profile record. -/
  | gprWrite
  /-- GPR_COMMIT (R416). GPR_COMMIT checks the GPR and submits its profile load and register entries. -/
  | gprCommit
  /-- GPR_READ (R417). GPR_READ returns bytes of the GPR in force. -/
  | gprRead
  /-- CONNECT (R411). CONNECT sets connect-wanted and moves STANDBY to SYNCING. -/
  | connect
  /-- DISCONNECT (R411). DISCONNECT clears connect-wanted and begins the orderly disconnection. -/
  | disconnect
  /-- SYNC_WINDOW_MET (R411). The grid inside the connect window for HOLD_MS with the reconnect timer at 0 enters CONNECTED and requests closing. -/
  | syncWindowMet
  /-- SYNC_TIMEOUT (R411). TIMEOUT_S in SYNCING returns the module to STANDBY. -/
  | syncTimeout
  /-- DISCONNECT_GS_STOP (R411). At the boundary after DISCONNECT grid support is disabled. -/
  | disconnectGsStop
  /-- DISCONNECT_PWM_SAFE (R411). Two frames later PWM goes safe and the disconnect request goes to the safety channel. -/
  | disconnectPwmSafe
  /-- SET_P (R417). SET_P submits the active-power setpoint. -/
  | setP
  /-- SET_Q (R417). SET_Q submits the reactive-power setpoint. -/
  | setQ
  /-- CURTAIL (R417). CURTAIL submits the curtailment limit. -/
  | curtail
  /-- MODE (R417). MODE writes GS_CTRL bits 11 to 1. -/
  | mode
  /-- STATUS (R418). STATUS returns the states, flags and latest digest. -/
  | status
  /-- SETPOINT (R417). SETPOINT submits a free setpoint index 6 to 47. -/
  | setpoint
  /-- METER_READ (R417). METER_READ returns one register set's accumulators, wraps and granule count. -/
  | meterRead
  /-- METER_SNAPSHOT (R330). METER_SNAPSHOT writes SNAP_ACK and SNAP together for a new snapshot. -/
  | meterSnapshot
  /-- METER_SNAP_READ (R417). METER_SNAP_READ returns a set from the snapshot bank, or 0x0302 without one. -/
  | meterSnapRead
  /-- METER_INTERVAL (R417). METER_INTERVAL returns the last closed interval record. -/
  | meterInterval
  /-- METER_INST (R417). METER_INST returns the instantaneous values of one phase or the total. -/
  | meterInst
  /-- METER_CAL (R417). METER_CAL writes one calibration register, refused while locked. -/
  | meterCal
  /-- METER_CAL_LOCK (R336). METER_CAL_LOCK locks the calibration and returns ME_CAL_CRC. -/
  | meterCalLock
  /-- SPR_WRITE (R413). SPR_WRITE stages a chunk of the safety parameter record. -/
  | sprWrite
  /-- SPR_COMMIT (R377). SPR_COMMIT loads the SPR into the safety channel as pending and returns its check value. -/
  | sprCommit
  /-- SPR_CONFIRM (R390). SPR_CONFIRM with the right check value opens the 60 s confirmation window. -/
  | sprConfirm
  /-- SAFETY_RESET (R377). SAFETY_RESET leaves LATCHED after a passed pre-energise test, refused while a demand is present. -/
  | safetyReset
  /-- SAFETY_STATUS (R417). SAFETY_STATUS returns the safety view words 0x000 to 0x028. -/
  | safetyStatus
  /-- PDU_PUT (R392). PDU_PUT writes a received PDU into the host ring for SC. -/
  | pduPut
  /-- PDU_GET (R392). PDU_GET returns SC's outgoing host-path PDUs. -/
  | pduGet
  /-- IMAGE_WRITE (R432). IMAGE_WRITE writes into the inactive slot, erasing each sector on its first write. -/
  | imageWrite
  /-- IMAGE_COMMIT (R431). IMAGE_COMMIT verifies the slot and returns the result code. -/
  | imageCommit
  /-- IMAGE_ACTIVATE (R432). IMAGE_ACTIVATE marks a verified slot as trial for the next reset of its region. -/
  | imageActivate
  /-- ATTEST (R440). ATTEST returns a signed attestation report. -/
  | attest
  /-- CERT_READ (R417). CERT_READ returns certificate bytes. -/
  | certRead
  /-- LC_TOKEN (R443). LC_TOKEN stages a token and, when complete, performs or refuses the life-cycle transition. -/
  | lcToken (cut : Option Nat)
  /-- DEBUG_TOKEN (R445). DEBUG_TOKEN opens debug access as the token and life-cycle state allow. -/
  | debugToken
  /-- TOKEN_STAGING_TIMEOUT (R441). A token left incomplete for 10 s is discarded. -/
  | tokenStagingTimeout
  /-- SELFTEST (R417). SELFTEST runs the selected SAR, drive, comparator and engine tests and returns the failure mask. -/
  | selftest (sar : List (Int × Int × Int)) (drv : List Nat) (cmp : List LegacyResult) (le : List Bool)
  /-- DRV_CLEAR (R217). DRV_CLEAR submits CLEAR for the named latched legs. -/
  | drvClear
  /-- FAULT_CLEAR (R411). FAULT_CLEAR leaves FAULT_HOLD when no cause remains, or returns the causes present. -/
  | faultClear
  /-- REG_READ (R417). REG_READ returns register words, refused for reads with side effects. -/
  | regRead
  /-- REG_WRITE (R417). REG_WRITE writes one register under the rules of R416. -/
  | regWrite
  /-- LINK_STATUS (R417). LINK_STATUS returns a link's status, capacity, ages, counters and lane states. -/
  | linkStatus
  /-- LINK_TEST (R370). LINK_TEST runs a lane pattern test for its duration and returns the error count. -/
  | linkTest
  /-- LINK_RETRAIN (R417). LINK_RETRAIN sends the named lanes to TRAIN. -/
  | linkRetrain
  /-- TUNNEL (R420). TUNNEL forwards a complete request to another module and returns its reply. -/
  | tunnel
  /-- LOG_READ (R417). LOG_READ returns event-store records by sequence number. -/
  | logRead
  /-- LOG_INFO (R417). LOG_INFO returns the store's counts, oldest and newest records and time status. -/
  | logInfo
  /-- TIME_SET (R464). TIME_SET writes the real-time seconds to Umbra. -/
  | timeSet
  /-- TIME_GET (R417). TIME_GET returns the real-time seconds and TIME_UNKNOWN. -/
  | timeGet
  /-- NOTIFY_CFG (R406). NOTIFY_CFG sets the event mask for notices. -/
  | notifyCfg
  /-- INJECT (R417). INJECT configures and arms an injection point generator. -/
  | inject
  /-- CAPTURE_CFG (R417). CAPTURE_CFG writes a capture set's configuration. -/
  | captureCfg
  /-- CAPTURE_READ (R417). CAPTURE_READ returns capture buffer bytes. -/
  | captureRead
  /-- LE_MODE (R417). LE_MODE writes an engine's block mode words. -/
  | leMode
  /-- POWER_STATE (R488). POWER_STATE starts a transition to RUN, WATCH or SLEEP. -/
  | powerState
  /-- POWER_STATUS (R417). POWER_STATUS returns the power state and supply flags. -/
  | powerStatus
  /-- SOFT_RESET (R417). SOFT_RESET queues its reply and applies SOFTRST to the named regions. -/
  | softReset
  /-- BOOT_ROM_RUN (R422). After a package reset or MR reset the boot ROM checks the root, counts the boot and verifies and loads the images. -/
  | bootRomRun (ext : List (Nat × List Byte)) (edges : List Nat)
  /-- BOOT_COMPLETE (R437). TPP becomes ready and the module leaves BOOT for AWAIT_DESCRIPTION or DESCRIBED. -/
  | bootComplete
  /-- IMAGE_TRIAL_PROMOTE (R433). A trial image running 60 s without a reset becomes the active slot. -/
  | imageTrialPromote (t : Nat) (blown : Option Nat)
  /-- TRNG_HEALTH_FAIL (R425). A failed TRNG health test sets FAIL and blocks key and nonce generation. -/
  | trngHealthFail
  /-- CVU_BYTE (R450). A byte from the unit's source is taken into its running check. -/
  | cvuByte (u : Nat) (b : Byte)
  /-- CVU_MESSAGE_CLOSE (R452). A message closes, its result latches and counters update. -/
  | cvuMessageClose (u : Nat)
  /-- CVU_START (R458). CVU_CMD.START loads the initial value and abandons an open message. -/
  | cvuStart (m : Master) (u : Nat)
  /-- CVU_END (R458). CVU_CMD.END closes an open bus-window message. -/
  | cvuEnd (m : Master) (u : Nat)
  /-- CVU_CLR (R458). CVU_CMD.CLR clears the unit's counters. -/
  | cvuClr (m : Master) (u : Nat)
  /-- CVU_PAUSE (R455). Writing PAUSE stops or resumes byte intake, dropped bytes being counted. -/
  | cvuPause (m : Master) (u : Nat) (on : Bool)
  /-- CVU_RUN_WRITE (R455). A write of CVU_RUN or restorable status is taken only while paused. -/
  | cvuRunWrite (m : Master) (u : Nat) (status : Bool) (value : Nat)
  /-- UMB_COLD_START (R462). CSTORE rising above V_START starts Umbra with time unknown and registers reset. -/
  | umbColdStart (mv : Nat)
  /-- UMB_RECOVERY_END (R473). Store recovery ends and Umbra enters KEEP or LINKED, writing COLD_START. -/
  | umbRecoveryEnd (mv : Nat) (tamper plugN vdd : Bool) (bad : List Nat)
  /-- UMB_VDD_RISE (R462). VDD rising enters LINKED and writes DARK_EXIT. -/
  | umbVddRise
  /-- UMB_VDD_FALL (R462). VDD falling enters KEEP, counts an outage and writes DARK_ENTER. -/
  | umbVddFall
  /-- UMB_DEAD (R462). CSTORE below V_DEAD stops Umbra and loses its volatile state. -/
  | umbDead (phase2 : Bool)
  /-- UMB_REFRESH (R463). Every 64 ms Umbra refreshes its references, samples CSTORE and retries staged records. -/
  | umbRefresh (mv ticks : Nat) (harvest : Bool)
  /-- UMB_INPUT_SAMPLE (R467). Every 16 ms TAMPER and SVC_PLUG_N are sampled and a confirmed change is recorded. -/
  | umbInputSample (tamper plugN : Bool)
  /-- UMB_TIME_SET_WRITE (R464). A write of UMB_TIME_SET loads the counter, clears TIME_UNKNOWN and writes a TIME_SET record. -/
  | umbTimeSetWrite (m : Master) (sec : Nat)
  /-- UMB_LOG_PUT (R474). UMB_LOG_CMD.PUT stages an MC record, dropping it if the queue is full. -/
  | umbLogPut (m : Master)
  /-- UMB_OSC_TRIM (R465). Every 64 s with VDD present Umbra trims its oscillator to the reference. -/
  | umbOscTrim
  /-- UMB_CAP_MEASURED (R461). The first charge after a cold start times the rise and stores the capacitance. -/
  | umbCapMeasured (us : Nat)
  /-- REF_LOSS (R478). No reference edge for 200 ns sets REF_LOSS and the PLLs hold and report unlock. -/
  | refLoss
  /-- PLL_LOCK (R480). A PLL locks in the lowest valid band, or sets BAND_ERR when none qualifies. -/
  | pllLock (p : Nat)
  /-- PLL_UNLOCK (R481). A PLL losing lock raises CLK_UNLOCK with the consequence set for that PLL. -/
  | pllUnlock (p : Nat)
  /-- CLK_CAL_START (R480). CLK_CAL.START calibrates a PLL's band table. -/
  | clkCalStart (m : Master) (mask : Nat) (edges : List Nat)
  /-- RAMP_RUN (R483). Writing RAMP_CTRL.RUN = 1 checks the profile and starts the core-clock ramp, or refuses it. -/
  | rampRun (m : Master)
  /-- RAMP_STOP (R482). Writing RUN = 0 returns MULT to nominal at the present slope. -/
  | rampStop (m : Master)
  /-- RAMP_SEGMENT_END (R482). A ramp segment reaches its target and the next, looped or held segment follows. -/
  | rampSegmentEnd
  /-- SUP_WARN (R486). VDD or VDDA below warning raises SUP_WARN, starts the hold and latches a checkpoint. -/
  | supWarn (vdd vdda : Bool)
  /-- SUP_HOLD_EXPIRE (R486). The hold expires with the supply low: hard lines act and the module enters FAULT_HOLD. -/
  | supHoldExpire
  /-- SUP_RECOVER (R486). Both supplies regain release level and SUP_OK is raised, as a dip if within the hold. -/
  | supRecover (vdd vdda : Bool) (us : Nat)
  /-- VDDIO_LOSS (R485). VDDIO below its level puts the HOST lands at high impedance and sets VDDIO_LOSS. -/
  | vddioLoss
  /-- PORST (R490). A supply below reset level or a regulator fault resets the package and runs boot at power-good. -/
  | porst (dark : Bool)
  /-- PINRST (R490). RESET_N low for 1 µs resets the package. -/
  | pinrst
  /-- WDRST (R491). Watchdog expiry or a wrong kick value resets the package. -/
  | wdrst
  /-- WDT_KICK (R491). Writing 0xA5C3 to WDT_KICK reloads the watchdog. -/
  | wdtKick (m : Master) (key : Nat)
  /-- FATALRST (R490). An enabled crossing, both-pairs or core-PLL escalation resets the package. -/
  | fatalrst
  /-- SOFTRST (R492). RST_CMD resets the named regions, with a metering checkpoint first for DR. -/
  | softrst (m : Master) (mask : Nat)
  /-- PWR_TRANSITION_DONE (R488). A power-state transition completes and raises PWR_STATE. -/
  | pwrTransitionDone
  /-- WAKE_SOURCE (R489). An enabled wake source starts the return from WATCH or SLEEP to RUN. -/
  | wakeSource (b : Nat)
  /-- INDICATOR_SLOT (R500). At each 125 ms slot the indicators show the pattern of the first holding row. -/
  | indicatorSlot
  /-- VDDIO_RECOVER (R485). VDDIO held above its level + 0.1 V for 100 µs releases the HOST-bank lands from high impedance and sets VDDIO_OK. -/
  | vddioRecover
  /-- REFERENCE_RETURN (R478). Reference edges reaching the monitor again set REF_OK, after which each PLL relocks by itself. -/
  | referenceReturn
  /-- LANE_PROBE_RECEIVE (R353). A PROBE received on a lane is answered with an ECHO that carries the turnaround time in tD. -/
  | laneProbeReceive (k seq turnaround : Nat)
  /-- LINK_TEST_END (R370). When the LINK_TEST duration ends, the lane test stops and the reply carries LANE_PAT_ERR. -/
  | linkTestEnd
  /-- TUNNEL_TIMEOUT (R420). A TUNNEL request whose target module has not answered within 100 ms is answered with status 0x0302. -/
  | tunnelTimeout
  deriving DecidableEq, Repr

end Sys2Proof
end

