-- ==== Sys2Proof/WellFormed.lean ====
section
/-! DEFINITION. WellFormed.lean: the operand ranges of a command, where the manual numbers what it names: 6 legs, 8 converters, 3
clusters, 24 pairs, 16 trip lines, 16 windows, 2 engines, 4 links, 4 lanes, 256 slots, 192 events. A command out of range names
nothing, and its meaning leaves the state as it is. -/

namespace Sys2Proof

open Sys2Proof.Machine

/-- A port that exists: a tunnel port for each of the modules 0 to 7 (R420). -/
def portOk : Port → Bool
  | .host | .service => true
  | .tunnel n => decide (n < 8)

/-- Every operand of the command lies in its range. -/
def wellFormed : Instr → Bool
  | .registerWrite _ addr _ value => decide (addr < 2 ^ 32) && decide (value < 2 ^ 32)
  | .sharedSramWrite _ addr data => decide (addr + data.length ≤ 2 ^ 32)
  | .mbxDataWrite _ index value => decide (index < 64) && decide (value < 2 ^ 32)
  | .mbxSubmit _ count _ => decide (count ≤ 16)
  | .dataPortSubmit index value _ => decide (index < 64) && decide (value < 2 ^ 32)
  | .tapRecordDeliver chan => decide (chan < 16)
  | .digRptrWrite _ value => decide (value < 2 ^ 32)
  | .evfRouteWrite _ n value => decide (n < 192) && decide (value < 2 ^ 32)
  | .evfPendClear _ t w ones => decide (t < 6) && decide (w < 6) && decide (ones < 2 ^ 32)
  | .slinkPacketReceive lane _ => decide (lane < 4)
  | .slinkLaneRemove lane => decide (lane < 4)
  | .slinkTrainDone lanes => decide (lanes < 16)
  | .drivePathTimeout leg tested pass => decide (leg < 6) && decide (tested < 512) && decide (pass < 512)
  | .isoRefreshTimeout leg _ => decide (leg < 6)
  | .orbSlotIssue slot _ _ => decide (slot < 256)
  | .orbSlotInactWrite _ index value => decide (index < 1024) && decide (value < 2 ^ 32)
  | .cpAgreeFix _ _ value => decide (value < 2 ^ 32)
  | .standbyWriteSuppress _ addr value => decide (addr < 2 ^ 32) && decide (value < 2 ^ 32)
  | .mirrorWriteThrough _ addr data => decide (addr + data.length ≤ 0x40000)
  | .cpMirrorWrite _ base size => decide (base < 2 ^ 32) && decide (size < 2 ^ 32)
  | .leJobStart slot => decide (slot < 256)
  | .leJobEnd e => decide (e < 2)
  | .lePhaseWrite e slot => decide (e < 2) && decide (slot < 256)
  | .leMissedWrite e => decide (e < 2)
  | .leOverrunFault e => decide (e < 2)
  | .leFault e _ => decide (e < 2)
  | .leCoverFailover y => decide (y < 2)
  | .leCmdSwap _ e => decide (e < 2)
  | .leBankSwitch e => decide (e < 2)
  | .leEnable _ e => decide (e < 2)
  | .leDisable _ e => decide (e < 2)
  | .leSelftestDone e _ => decide (e < 2)
  | .leSelftestCmd _ e => decide (e < 2)
  | .leReturnCmd _ e => decide (e < 2)
  | .leReturnApply e => decide (e < 2)
  | .leInjArm _ e i _ frames => decide (e < 2) && decide (i < 4) && decide (frames < 65536)
  | .leInjEnd e i => decide (e < 2) && decide (i < 4)
  | .captureBurstArm slot => decide (slot < 256)
  | .captureBurstSample e c => decide (e < 2) && decide (c < 16)
  | .leCntClr _ e mask => decide (e < 2) && decide (mask < 16)
  | .leImgInactWrite _ e index value => decide (e < 2) && decide (index < 2048) && decide (value < 2 ^ 32)
  | .pwmCommit _ mask => decide (mask < 8)
  | .pwmShadowWrite _ p _ value => decide (p < 24) && decide (value < 2 ^ 32)
  | .cutoffFreeze c _ => decide (c < 3)
  | .commitPoint c => decide (c < 3)
  | .clEnable _ c _ => decide (c < 3)
  | .clSoftReset _ c => decide (c < 3)
  | .clPeriodWrite _ c value => decide (c < 3) && decide (value < 2 ^ 32)
  | .pwmValley c => decide (c < 3)
  | .pwmInterlock p => decide (p < 24)
  | .pwmEscRelease _ mask => decide (mask < 2 ^ 24)
  | .tripActivate n _ _ => decide (n < 16)
  | .tripBlankEnd n => decide (n < 16)
  | .tripLatchClear _ mask => decide (mask < 65536)
  | .pwmForceWrite _ p fh fl => decide (p < 24) && decide (fh < 4) && decide (fl < 4)
  | .drvLegUse _ leg => decide (leg < 6)
  | .drvLegUnuse _ leg tested pass => decide (leg < 6) && decide (tested < 512) && decide (pass < 512)
  | .drvInitDone leg => decide (leg < 6)
  | .drvTestDone leg pass => decide (leg < 6) && decide (pass < 512)
  | .drvTestStart _ leg => decide (leg < 6)
  | .drvArm _ leg => decide (leg < 6)
  | .drvArmEngage leg => decide (leg < 6)
  | .drvDisarm _ leg => decide (leg < 6)
  | .drvDsatOc leg cause _ => decide (leg < 6) && decide (cause < 3)
  | .drvLegFault leg cause => decide (leg < 6) && decide (3 ≤ cause) && decide (cause ≤ 10)
  | .drvSoftoffEnd leg => decide (leg < 6)
  | .drvRetryWaitEnd leg => decide (leg < 6)
  | .drvTriesReset leg => decide (leg < 6)
  | .drvCmdClear _ leg => decide (leg < 6)
  | .drvEnableCut leg => decide (leg < 6)
  | .drvEnableReturn leg => decide (leg < 6)
  | .drvDieInterlock leg => decide (leg < 6)
  | .drvBsWarn leg => decide (leg < 6)
  | .drvBsUv leg => decide (leg < 6)
  | .drvBsOk leg _ _ => decide (leg < 6)
  | .drvTransitionMeasure leg _ _ _ _ => decide (leg < 6)
  | .drvStatusFrame leg _ => decide (leg < 6)
  | .drvShortCmd leg => decide (leg < 6)
  | .drvOtWarn leg _ _ => decide (leg < 6)
  | .sarConversionEnd c _ => decide (c < 8)
  | .sarResultArrive c _ => decide (c < 8)
  | .sarInjTrigger c _ => decide (c < 8)
  | .swtrig _ mask => decide (mask < 256)
  | .sarFifoPop _ c => decide (c < 8)
  | .sarCancelArrive c slot => decide (c < 8) && decide (slot < 256)
  | .sarEnable _ c => decide (c < 8)
  | .sarDisable _ c => decide (c < 8)
  | .sarInitDone c _ => decide (c < 8)
  | .sarCheckCmd _ mask => decide (mask < 256)
  | .sarCheckDone c _ _ _ => decide (c < 8)
  | .sarRefFault c => decide (c < 8)
  | .sarSoftReset _ mask => decide (mask < 256)
  | .sarPacketGap c _ => decide (c < 8)
  | .sarConfigWrite _ c _ value _ => decide (c < 8) && decide (value < 2 ^ 32)
  | .sarConfigCommit c => decide (c < 8)
  | .meterSampleSet words _ => decide (words.length = 8)
  | .cmpOutputChange w _ _ lines => decide (w < 16) && decide (lines < 65536)
  | .cmpBankTick b lines => decide (b < 2) && decide (lines < 65536)
  | .cmpWindowEnable _ w => decide (w < 16)
  | .cmpWindowDisable _ w => decide (w < 16)
  | .cmpWindowArm w _ => decide (w < 16)
  | .cmpConfigWrite _ w _ value _ => decide (w < 16) && decide (value < 2 ^ 32)
  | .cmpConfigCommit b => decide (b < 2)
  | .cmpDacHoldEnd w => decide (w < 16)
  | .cmpBlankEnd w => decide (w < 16)
  | .cmpLcheck _ b => decide (b < 2)
  | .cmpLcheckStepEnd w _ _ => decide (w < 16)
  | .cmpLcheckEnd b => decide (b < 2)
  | .cmpBankSoftReset _ b => decide (b < 2)
  | .eePassiveTrip det => decide (det < 5)
  | .peNosamp n => decide (n < 6)
  | .peShade n => decide (n < 6)
  | .peSweepSchedule n => decide (n < 6)
  | .peSweepCmd _ mask => decide (mask < 64)
  | .pePairBlocked n => decide (n < 6)
  | .pePairUnblocked n => decide (n < 6)
  | .peChannelEnable _ n => decide (n < 6)
  | .peChannelDisable _ n => decide (n < 6)
  | .meCalWrite _ _ value => decide (value < 2 ^ 32)
  | .linkEnable _ l => decide (l < 4)
  | .linkDisable _ l => decide (l < 4)
  | .laneTsReceived k _ => decide (k < 4)
  | .laneConfigDone k => decide (k < 4)
  | .linkTrainTimeout l => decide (l < 4)
  | .laneLatencyMeasured k td => decide (k < 4) && decide (td < 2 ^ 24)
  | .linkUp l => decide (l < 4)
  | .linkBndReceive l _ tag mask => decide (l < 4) && decide (tag < 256) && decide (mask < 16)
  | .dfeWindowEnd k _ _ _ _ _ => decide (k < 4)
  | .laneFomSample k fom => decide (k < 4) && decide (fom < 256)
  | .laneIdleEnter l _ => decide (l < 4)
  | .laneIdleExit l => decide (l < 4)
  | .laneLatencyRemeasure k td => decide (k < 4) && decide (td < 2 ^ 24)
  | .cometPacketReceive l _ => decide (l < 4)
  | .markerReceive l _ _ => decide (l < 4)
  | .eeBroadcastReceive l _ => decide (l < 4)
  | .sampleReceive l _ => decide (l < 4)
  | .statusReceive l _ => decide (l < 4)
  | .safetyPduReceive l seq addr _ => decide (l < 4) && decide (seq < 65536) && decide (addr < 256)
  | .shareReceive l _ => decide (l < 4)
  | .tunnelReceive l addr w0 bytes => decide (l < 4) && decide (addr < 256) && decide (w0 < 2 ^ 32) && decide (bytes.length ≤ 2036)
  | .cometPacketStart l _ => decide (l < 4)
  | .cometLaneSend slot => decide (slot < 256)
  | .safeTxQueue _ mask => decide (mask < 16)
  | .linkShedEvaluate l => decide (l < 4)
  | .laneLoss k cause _ => decide (k < 4) && decide (cause < 16)
  | .lstatReceive l lost ready tag _ => decide (l < 4) && decide (lost < 16) && decide (ready < 16) && decide (tag < 256)
  | .laneRemove k => decide (k < 4)
  | .laneReadyMark k _ => decide (k < 4)
  | .laneReinstate k => decide (k < 4)
  | .cometRetrain _ mask => decide (mask < 16)
  | .cometRemeasure _ mask => decide (mask < 16)
  | .laneTestEnter _ k loop pat _ => decide (k < 4) && decide (loop < 4) && decide (pat < 8)
  | .laneTestExit _ k => decide (k < 4)
  | .lanePatternError k _ => decide (k < 4)
  | .safeSf1Demand n _ => decide (n < 6)
  | .sinSample levels _ => decide (levels < 256)
  | .safeSf2Demand f => decide (f < 4)
  | .safeSf2Release f => decide (f < 4)
  | .tpoPulse src before early window _ => decide (src < 4) && decide (before < 256) && decide (early < 256) && decide (window < 256)
  | .safePreEnergiseStep h l => decide (h < 16) && decide (l < 16)
  | .relayOffPulse slot => decide (slot < 8)
  | .relayReadbackFault n _ => decide (n < 4)
  | .hslGridWindowTrip mask _ => decide (mask < 64)
  | .hslAnalogWindowTrip w _ => decide (w < 2)
  | .pduSend c type payload => decide (c < 4) && decide (type < 16) && decide (payload.length ≤ 16)
  | .pduWatchdogExpire c => decide (c < 4)
  | .tppSessionTimeout p => portOk p
  | .selftest sar drv cmp le => decide (sar.length ≤ 8) && decide (drv.length ≤ 6) && decide (cmp.length ≤ 48) && decide (le.length ≤ 2)
  | .bootRomRun _ edges => decide (edges.length ≤ 256)
  | .imageTrialPromote t _ => decide (t < 4)
  | .cvuByte u _ => decide (u < 6)
  | .cvuMessageClose u => decide (u < 6)
  | .cvuStart _ u => decide (u < 6)
  | .cvuEnd _ u => decide (u < 6)
  | .cvuClr _ u => decide (u < 6)
  | .cvuPause _ u _ => decide (u < 6)
  | .cvuRunWrite _ u _ value => decide (u < 6) && decide (value < 2 ^ 32)
  | .umbRecoveryEnd _ _ _ _ bad => bad.all (· < 512)
  | .umbTimeSetWrite _ sec => decide (sec < 2 ^ 32)
  | .pllLock p => decide (p < 4)
  | .pllUnlock p => decide (p < 4)
  | .clkCalStart _ mask edges => decide (mask < 16) && decide (edges.length ≤ 256)
  | .wdtKick _ key => decide (key < 65536)
  | .softrst _ mask => decide (mask < 8)
  | .wakeSource b => decide (b < 6)
  | .laneProbeReceive k _ _ => decide (k < 4)
  | .mbxApply _ | .mbxParityError | .loadCopyComplete _ | .digestComplete _ | .clrDrops _ | .clrCoal _ | .frameBoundary
  | .orbTrackerSample _ _ | .orbVoltagePresent | .orbVoltageAbsent | .orbLockAchieved | .orbLockLost | .orbFlywheelLimit
  | .orbTrackDisable _ | .orbFollowEnter | .orbGroupLoss | .orbConfigWrite _ _ _ | .orbConfigApply | .orbPeriodCompute
  | .orbBankSwap _ _ | .orbBankSwitch | .clrOvr _ | .clrStale _ | .cpMismatch _ | .cpTcmDed _ | .cpComparatorTest _ _
  | .cpDelayParity _ | .cpAgreeFault _ | .debugHalt _ _ | .debugResume _ _ | .debugStep _ _ | .debugAbstractCmd _ _
  | .debugProgbuf _ _ | .debugReplay _ | .sweepCapture _ _ _ | .sweepForced _ _ _ | .cpTakeover | .cpTakeoverInterrupt _
  | .cpFatalDelay | .orderlySafeState | .cpEnable _ _ | .cpDisable _ _ | .cpSelftestDone _ _ | .cpActivate _
  | .cpSyncCopyDone _ | .cpStandbyEnter _ | .cpCmdTakeover _ | .rejoinCmd _ _ | .clrFence _ | .clrSuppress _ | .clrEcc _
  | .pwmSafeEnter _ | .pwmSafeCmdEnter _ | .pwmSafeClear _ | .pwmClkLoss | .pwmCalDone _ | .pwmClrShort _ | .pwmClrXlock _
  | .pwmClrLate _ | .drvClrCrc _ | .drvClrXlock _ | .snsClrCrc _ | .snsClrSar _ | .gsRtEnter _ | .gsExitHold
  | .gsCurveViolation | .gsZvTimeout | .gsReferenceWrite | .gsEnable _ | .gsDisable _ | .gsProfileSwitch | .eeSegmentEnd
  | .eeClear _ | .eeRebase _ | .peStep | .peCurtailEnter | .peCurtailLeave | .peVocEnd | .peSweepPoint | .peSweepSearch
  | .peProfileSwitch | .meGranuleClose | .meGranuleLost | .meIntervalBoundary | .meCkptPeriod | .meCkptStore | .meSnap _
  | .meSnapAck _ | .meCkpt _ | .meCkptAck _ | .meIvalClose _ | .meRestore _ | .meClrCounts _ | .meEnable _ | .meDisable _
  | .meCalLock _ | .meCalRestore | .cometClrStats _ | .xmonFrame _ _ | .xmonTimeout _ | .xmonDiscrepancy | .safeSf4Apply _
  | .safeSf4Release | .commKeyPress _ _ | .confirmWindowExpire | .safeConnectRequest | .safeContactCheck _ _ _
  | .safeDisconnectRequest | .relayOffPulseEnd _ _ _ | .reconnectTimerExpire | .hslWindowsArm | .safeSelfCheckFail
  | .spiWriteTransfer _ | .spiReadTransfer _ | .serviceUartByte _ | .serviceGapAbort | .recordStagingTimeout _ | .hello | .bye
  | .keyOffer | .keyProof | .keyCipher | .keyOwner | .bdrWrite | .bdrCommit | .bdrRead | .gprWrite | .gprCommit | .gprRead
  | .connect | .disconnect | .syncWindowMet | .syncTimeout | .disconnectGsStop | .disconnectPwmSafe | .setP | .setQ | .curtail
  | .mode | .status | .setpoint | .meterRead | .meterSnapshot | .meterSnapRead | .meterInterval | .meterInst | .meterCal
  | .meterCalLock | .sprWrite | .sprCommit | .sprConfirm | .safetyReset | .safetyStatus | .pduPut | .pduGet | .imageWrite
  | .imageCommit | .imageActivate | .attest | .certRead | .lcToken _ | .debugToken | .tokenStagingTimeout | .drvClear
  | .faultClear | .regRead | .regWrite | .linkStatus | .linkTest | .linkRetrain | .tunnel | .logRead | .logInfo | .timeSet
  | .timeGet | .notifyCfg | .inject | .captureCfg | .captureRead | .leMode | .powerState | .powerStatus | .softReset
  | .bootComplete | .trngHealthFail | .umbColdStart _ | .umbVddRise | .umbVddFall | .umbDead _ | .umbRefresh _ _ _
  | .umbInputSample _ _ | .umbLogPut _ | .umbOscTrim | .umbCapMeasured _ | .refLoss | .rampRun _ | .rampStop _
  | .rampSegmentEnd | .supWarn _ _ | .supHoldExpire | .supRecover _ _ _ | .vddioLoss | .porst _ | .pinrst | .wdrst | .fatalrst
  | .pwrTransitionDone | .indicatorSlot | .vddioRecover | .referenceReturn | .linkTestEnd | .tunnelTimeout => true

end Sys2Proof
end

