-- ==== Sys2Proof/Decode.lean ====
section
/-! DEFINITION. Decode.lean: the command that a word of spec/opcode_table.json spells. No row of the table has bits: a command reaches
the module as a bus write, a packet, a pin event or the end of a timed action, and the TPP requests that carry bytes are decoded by
Machine/Tpp.lean. -/

namespace Sys2Proof

/-- No word spells a command. -/
def decodeTableWord (_nbits _w : Nat) : Option Instr := none

end Sys2Proof
end

