-- ==== Sys2Proof/Config.lean ====
section
/-! DEFINITION. Config.lean: what the spec leaves open. Every constant here is opaque: nothing can evaluate it or prove a
value of it, and a statement holds whatever it is. DESIGN CHOICE: each is named in rows 6, 7, 18 and 41 of the assumption log. -/

namespace Sys2Proof.Config

/-- A value that the spec calls undefined or does not state, fresh for each number it is applied to (notes/assumptions 6). -/
opaque freeWord : Nat → Nat

/-- The number of the module, read from its marking and OTP (R37, R408). -/
opaque serial : Nat

/-- SHAKE256 of a byte string, to a length in bytes, as a number (FIPS 202; R424, R426, R440). -/
opaque shake256 : List Byte → Nat → Nat

/-- KMAC256 of a byte string under a key and a customisation string, to a length in bytes (SP 800-185; R400, R438). -/
opaque kmac256 : (key : Nat) → List Byte → List Byte → Nat → Nat

/-- The Nimoren root public key in boot ROM, and ROOT_HASH of the OTP array as a number (R421, R422). -/
opaque rootKey : List Byte
opaque rootHash : Nat

/-- The die revision code: CD, SD and drive dies, one byte each (R37, R427). -/
opaque dieRevision : Nat

/-- ML-DSA-65 verification of a signature over a message by a public key under a context string (FIPS 204; R427 to R444). -/
opaque mldsaVerify : (key context message signature : List Byte) → Bool

/-- ML-DSA-65 signature by the key drawn from a seed, as a number, first byte lowest (FIPS 204; R438, R440). -/
opaque mldsaSign : (seed context message : List Byte) → Nat

/-- ML-DSA-65 public key of a seed, as a number, first byte lowest (FIPS 204; R426). -/
opaque mldsaPublic : (seed : List Byte) → Nat

/-- ML-KEM-768 encapsulation key of a key drawn as the given random number, first byte lowest (FIPS 203; R438). -/
opaque kemPublic : Nat → Nat

/-- ML-KEM-768 decapsulation of a ciphertext: the shared secret of 32 bytes (FIPS 203; R438). -/
opaque kemDecaps : Nat → List Byte → Nat

/-- Output of the true random number generator, fresh for each number it is applied to (R425). -/
opaque trng : Nat → Nat

/-- The 127-tap Hilbert filter of the metering engine, whose coefficients R318 does not state: from the last 127 voltages,
newest first, in binary32, to the shifted voltage in binary32. -/
opaque hilbert : List Nat → Nat

/-- Whether a tap record of a channel is marked stale in a frame: R56 names the flag and no condition for it. -/
opaque tapStale : (chan source index frame : Nat) → Bool

end Sys2Proof.Config
end

