-- ==== Sys2Proof/Machine/Bits.lean ====
section
/-! DEFINITION. Machine/Bits.lean: bit-field, sign, saturation, angle and byte-order helpers used by every block. -/

namespace Sys2Proof.Machine

/-- Bit `n` of `x`, as 0 or 1. -/
def bitOf (x n : Nat) : Nat := x / 2 ^ n % 2

/-- Bit `n` of `x`, as a truth value. -/
def hasBit (x n : Nat) : Bool := bitOf x n == 1

/-- The field of `x` that starts at bit `lo` and is `w` bits wide. -/
def fieldOf (x lo w : Nat) : Nat := x / 2 ^ lo % 2 ^ w

/-- `x` with bit `n` set. -/
def setBit (x n : Nat) : Nat := if hasBit x n then x else x + 2 ^ n

/-- `x` with bit `n` clear. -/
def clearBit (x n : Nat) : Nat := if hasBit x n then x - 2 ^ n else x

/-- `x` with bit `n` given the value `b`. -/
def putBit (x n : Nat) (b : Bool) : Nat := if b then setBit x n else clearBit x n

/-- 1 for true, 0 for false. -/
def b2n (b : Bool) : Nat := if b then 1 else 0

/-- `x + 1`, holding at `m` (a saturating counter). -/
def satInc (m x : Nat) : Nat := if x < m then x + 1 else m

/-- `x + n`, holding at `m`. -/
def satAdd (m x n : Nat) : Nat := if x + n < m then x + n else m

/-- The greatest value of a 16-bit and of a 32-bit counter. -/
abbrev max16 : Nat := 65535
abbrev max32 : Nat := 4294967295

/-- A `w`-bit two's-complement field read as an integer. -/
def toSigned (w x : Nat) : Int := if x % 2 ^ w < 2 ^ (w - 1) then (x % 2 ^ w : Nat) else (x % 2 ^ w : Nat) - (2 ^ w : Nat)

/-- An integer as a `w`-bit two's-complement field. -/
def ofSigned (w : Nat) (x : Int) : Nat := (x % (2 ^ w : Nat)).toNat

/-- `a - b` on angles: unsigned 32-bit values that wrap (R5). -/
def angSub (a b : Nat) : Nat := (a + turn - b % turn) % turn

/-- The magnitude of an angle read as a signed distance. -/
def angMag (a : Nat) : Nat := if a % turn < 2147483648 then a % turn else turn - a % turn

/-- How many of the low `w` bits of `x` are set. -/
def popCount (w x : Nat) : Nat := (List.range w).foldl (fun n i => n + bitOf x i) 0

/-- The lowest set bit among the low `w` bits. -/
def lowestBit (w x : Nat) : Option Nat := (List.range w).find? (fun i => hasBit x i)

/-- The numbers of the set bits among the low `w` bits, lowest first. -/
def bitsOf (w x : Nat) : List Nat := (List.range w).filter (fun i => hasBit x i)

/-- Bitwise and-not over `w` bits: the bits of `x` that `m` does not select. -/
def andNot (w x m : Nat) : Nat := x &&& (2 ^ w - 1 - m % 2 ^ w)

/-- A list of bytes as a little-endian number (R7). -/
def leNat : List (BitVec 8) → Nat
  | [] => 0
  | b :: bs => b.toNat + 256 * leNat bs

/-- The `n` little-endian bytes of `x` (R7). -/
def leBytes : Nat → Nat → List (BitVec 8)
  | 0, _ => []
  | n + 1, x => BitVec.ofNat 8 x :: leBytes n (x / 256)

/-- `len` bytes of `bs` from offset `off`; short where `bs` ends. -/
def slice (bs : List (BitVec 8)) (off len : Nat) : List (BitVec 8) := (bs.drop off).take len

/-- The little-endian 32-bit word at byte offset `off`. -/
def wordAt (bs : List (BitVec 8)) (off : Nat) : Nat := leNat (slice bs off 4)

/-- The little-endian words of a list of bytes. -/
def wordsOf (bs : List (BitVec 8)) : List Nat :=
  (List.range (bs.length / 4)).map (fun i => wordAt bs (4 * i))

/-- The bytes of a list of words. -/
def bytesOf (ws : List Nat) : List (BitVec 8) := ws.flatMap (leBytes 4)

end Sys2Proof.Machine
end

