-- ==== Sys2Proof/Machine/Crc.lean ====
section
/-! DEFINITION. Machine/Crc.lean: the check values the spec computes itself (CRC-32C of R52, R59 and R398; the other
polynomials of R66, R67 and R449). Every register here is a plain number of `w` bits. -/

namespace Sys2Proof.Machine

/-- A CRC's parameters: width, polynomial, initial value, reflection of input and output, final exclusive-or. -/
structure CrcParams where
  width : Nat
  poly : Nat
  init : Nat
  refl : Bool
  xorOut : Nat
  deriving DecidableEq, Repr

/-- `n` bits of `x` in reverse order. -/
def reflectBits : Nat → Nat → Nat
  | 0, _ => 0
  | n + 1, x => (x % 2) * 2 ^ n + reflectBits n (x / 2)

/-- One bit of a most-significant-first division step. -/
def crcShift (w poly reg : Nat) : Nat :=
  if reg / 2 ^ (w - 1) % 2 = 1 then ((reg * 2) % 2 ^ w) ^^^ poly else (reg * 2) % 2 ^ w

/-- One byte taken into the running register (which is kept most-significant-first, not reflected). -/
def crcByte (p : CrcParams) (reg b : Nat) : Nat :=
  let v := if p.refl then reflectBits 8 b else b
  (List.range 8).foldl (fun r _ => crcShift p.width p.poly r) (reg ^^^ (v * 2 ^ (p.width - 8)))

/-- The running register after a list of bytes. -/
def crcRun (p : CrcParams) (reg : Nat) (bs : List (BitVec 8)) : Nat :=
  bs.foldl (fun r b => crcByte p r b.toNat) reg

/-- The result read from a running register. -/
def crcFinish (p : CrcParams) (reg : Nat) : Nat :=
  (if p.refl then reflectBits p.width reg else reg) ^^^ p.xorOut

/-- The check value of a list of bytes. -/
def crc (p : CrcParams) (bs : List (BitVec 8)) : Nat := crcFinish p (crcRun p p.init bs)

/-- CRC-32C (Castagnoli), as R400 and R449 give it. -/
def crc32c : CrcParams := ⟨32, 0x1EDC6F41, 0xFFFFFFFF, true, 0xFFFFFFFF⟩

/-- The CRC-32C of a list of words, each taken as four little-endian bytes (R59, R52). -/
def crc32cWords (ws : List Nat) : Nat := crc crc32c (bytesOf ws)

end Sys2Proof.Machine
end

