-- ==== Sys2Proof/Machine/Events.lean ====
section
/-! DEFINITION. Machine/Events.lean: the event source numbers of R531, by the names of its table. -/

namespace Sys2Proof.Machine.Ev

/-- `PWM_TRIP0` and the sources that follow it. -/
abbrev PWM_TRIP (i : Nat) : Nat := 0 + i
/-- `PWM_LATE_COMMIT0` and the sources that follow it. -/
abbrev PWM_LATE_COMMIT (i : Nat) : Nat := 16 + i
abbrev PWM_XLOCK : Nat := 19
abbrev PWM_XLOCK_ESC : Nat := 20
abbrev PWM_SHORT : Nat := 21
abbrev PWM_REFRESH : Nat := 22
abbrev PWM_SAFE : Nat := 23
abbrev PWM_CLK_LOSS : Nat := 24
abbrev PWM_CAL : Nat := 25
abbrev PWM_RANGE : Nat := 26
abbrev PWM_CFG_ERR : Nat := 27
/-- `PWM_VALLEY0` and the sources that follow it. -/
abbrev PWM_VALLEY (i : Nat) : Nat := 28 + i
abbrev PWM_EXPORT_OVF : Nat := 31
/-- `DRV_FAULT0` and the sources that follow it. -/
abbrev DRV_FAULT (i : Nat) : Nat := 32 + i
abbrev DRV_LATCH : Nat := 38
abbrev DRV_REARM : Nat := 39
abbrev DRV_BS_WARN : Nat := 40
abbrev DRV_BS_UV : Nat := 41
abbrev DRV_BS_OK : Nat := 42
abbrev DRV_XLOCK : Nat := 43
abbrev DRV_OT_WARN : Nat := 44
abbrev DRV_LINK_CRC : Nat := 45
abbrev DRV_TEST_DONE : Nat := 46
abbrev DRV_EN_CUT : Nat := 47
/-- `SNS_FIFO0` and the sources that follow it. -/
abbrev SNS_FIFO (i : Nat) : Nat := 48 + i
abbrev SNS_INJ_END : Nat := 56
abbrev SNS_INJ_OVERRUN : Nat := 57
abbrev SNS_OVR : Nat := 58
abbrev SNS_LOST : Nat := 59
abbrev SNS_FAULT : Nat := 60
/-- `CMP_TRIP0` and the sources that follow it. -/
abbrev CMP_TRIP (i : Nat) : Nat := 61 + i
abbrev CMP_CHECK : Nat := 77
abbrev SLINK_CRC : Nat := 78
abbrev SLINK_DOWN : Nat := 79
abbrev ORB_LOCK : Nat := 80
abbrev ORB_UNLOCK : Nat := 81
abbrev ORB_FLY_ENTER : Nat := 82
abbrev ORB_FLY_EXIT : Nat := 83
abbrev ORB_FLY_LIMIT : Nat := 84
abbrev FRAME_OVERRUN : Nat := 85
abbrev ORB_BOUNDARY : Nat := 86
abbrev ORB_TURN : Nat := 87
abbrev ORB_PHASE_JUMP : Nat := 88
abbrev ORB_ROCOF : Nat := 89
abbrev ORB_FREQ_RANGE : Nat := 90
abbrev ORB_CARRIER_CLAMP : Nat := 91
abbrev ORB_BANK_SWITCH : Nat := 92
abbrev ORB_SLOT_ECC : Nat := 93
abbrev ORB_MARK : Nat := 94
abbrev ORB_GROUP_LOSS : Nat := 95
abbrev CP_MISMATCH : Nat := 96
abbrev LATENT_MISMATCH : Nat := 97
abbrev CHECKER_FAULT : Nat := 98
abbrev CP_AGREE_FAULT : Nat := 99
abbrev CP_TAKEOVER : Nat := 100
abbrev CP_STANDBY_READY : Nat := 101
abbrev CP_REJOIN : Nat := 102
abbrev CP_BOTH_LOST : Nat := 103
abbrev LE0_JOB_END : Nat := 104
abbrev LE1_JOB_END : Nat := 105
abbrev LE_LOAD : Nat := 106
abbrev LE_BUDGET : Nat := 107
abbrev LE_MISSED_WRITE : Nat := 108
abbrev LE_NUMERIC : Nat := 109
abbrev LE_FAULT : Nat := 110
abbrev LE_COVER : Nat := 111
abbrev ME_INTERVAL : Nat := 112
abbrev ME_SNAPSHOT : Nat := 113
abbrev ME_CHECKPOINT : Nat := 114
abbrev ME_FAULT : Nat := 115
abbrev PE_SWEEP_DONE : Nat := 116
abbrev PE_SHADE : Nat := 117
abbrev PE_CURTAIL : Nat := 118
abbrev PE_CHANNEL : Nat := 119
abbrev GS_RT_ENTER : Nat := 120
abbrev GS_RT_EXIT : Nat := 121
abbrev GS_TRIP : Nat := 122
abbrev GS_PROFILE : Nat := 123
abbrev EE_PASSIVE : Nat := 124
abbrev EE_ISLAND : Nat := 125
abbrev EE_ESTIMATE : Nat := 126
abbrev EE_GROUP : Nat := 127
/-- `CMT_UP0` and the sources that follow it. -/
abbrev CMT_UP (i : Nat) : Nat := 128 + i
/-- `CMT_DOWN0` and the sources that follow it. -/
abbrev CMT_DOWN (i : Nat) : Nat := 132 + i
/-- `CMT_DEGRADED0` and the sources that follow it. -/
abbrev CMT_DEGRADED (i : Nat) : Nat := 136 + i
abbrev CMT_LANE_LOST : Nat := 140
abbrev CMT_LANE_BACK : Nat := 141
abbrev CMT_SHED : Nat := 142
abbrev CMT_VERSION : Nat := 143
abbrev CMT_REVERT : Nat := 144
abbrev CMT_PAT_ERR : Nat := 145
abbrev CMT_RX_CRC : Nat := 146
abbrev CMT_MARKER_BAD : Nat := 147
abbrev CMT_RX_SAMPLE : Nat := 148
abbrev CMT_RX_SAFETY : Nat := 149
abbrev CMT_RX_TUNNEL : Nat := 150
abbrev CMT_TX_LATE : Nat := 151
abbrev SAFE_SF1 : Nat := 152
abbrev SAFE_SF2 : Nat := 153
abbrev SAFE_SF3 : Nat := 154
abbrev SAFE_SF4 : Nat := 155
abbrev SAFE_RELAY_FAULT : Nat := 156
abbrev SAFE_INPUT_FAULT : Nat := 157
abbrev SAFE_DISCREPANCY : Nat := 158
abbrev SAFE_SPR : Nat := 159
abbrev SAFE_COMMISSION : Nat := 160
abbrev SAFE_PDU_RX : Nat := 161
abbrev SAFE_PDU_FAULT : Nat := 162
abbrev SAFE_WDOG : Nat := 163
abbrev SAFE_HSL_WIN : Nat := 164
abbrev SAFE_CONNECT : Nat := 165
abbrev SAFE_OPEN : Nat := 166
abbrev SAFE_SELF : Nat := 167
abbrev MBX_APPLIED : Nat := 168
abbrev MBX_LATE : Nat := 169
abbrev DIGEST_READY : Nat := 170
abbrev CROSS_EPOCH_DROP : Nat := 171
abbrev CROSS_FAULT : Nat := 172
abbrev SEC_IMAGE : Nat := 173
abbrev SEC_LC : Nat := 174
abbrev SEC_DEBUG : Nat := 175
abbrev SEC_SESSION : Nat := 176
abbrev SEC_FALLBACK : Nat := 177
/-- `CVU0` and the sources that follow it. -/
abbrev CVU (i : Nat) : Nat := 178 + i
abbrev SUP_WARN : Nat := 184
abbrev SUP_OK : Nat := 185
abbrev CLK_UNLOCK : Nat := 186
abbrev PWR_STATE : Nat := 187
abbrev UMB_TAMPER : Nat := 188
abbrev UMB_PLUG : Nat := 189
abbrev UMB_LOG : Nat := 190
abbrev UMB_TIME : Nat := 191

end Sys2Proof.Machine.Ev
end

