-- ==== Sys2Proof/Machine/F32.lean ====
section
/-! DEFINITION. Machine/F32.lean: IEEE 754 binary32 arithmetic on 32-bit patterns, round to nearest even, subnormal
operands and results flushed to zero with their sign kept (R140). A finite value is an exact dyadic number; every
operation computes exactly and rounds once. Values are held as register words (numbers below 2^32). -/

namespace Sys2Proof.Machine

/-- An exact number `mant × 2^exp`. -/
structure Dyadic where
  mant : Int
  exp : Int
  deriving DecidableEq, Repr

namespace F32

/-- The quiet NaN and the infinities. -/
abbrev nan : Nat := 0x7FC00000
abbrev posInf : Nat := 0x7F800000
abbrev negInf : Nat := 0xFF800000
abbrev zero : Nat := 0
abbrev one : Nat := 0x3F800000

/-- Sign bit. -/
def neg? (x : Nat) : Bool := hasBit x 31

/-- Biased exponent. -/
def expo (x : Nat) : Nat := fieldOf x 23 8

/-- Fraction. -/
def frac (x : Nat) : Nat := fieldOf x 0 23

def isNaN (x : Nat) : Bool := expo x == 255 && frac x != 0
def isInf (x : Nat) : Bool := expo x == 255 && frac x == 0
def isFinite (x : Nat) : Bool := expo x != 255

/-- A zero or a subnormal, which the arithmetic reads as zero (R140). -/
def isZero (x : Nat) : Bool := expo x == 0

/-- A zero with the given sign. -/
def signedZero (n : Bool) : Nat := if n then 0x80000000 else 0

/-- An infinity with the given sign. -/
def signedInf (n : Bool) : Nat := if n then negInf else posInf

/-- The exact value of a finite pattern, subnormals flushed (R140). -/
def toDyadic (x : Nat) : Dyadic :=
  if isZero x then ⟨0, 0⟩
  else ⟨if neg? x then -((frac x + 8388608 : Nat) : Int) else ((frac x + 8388608 : Nat) : Int), (expo x : Int) - 150⟩

/-- `n × 2^e` with sign `s` rounded to the nearest binary32, ties to even; `sticky` says that a non-zero remainder
below `n` was dropped. Overflow gives an infinity, a result below the normal range a zero (R140). -/
def roundMag (s : Bool) (n : Nat) (e : Int) (sticky : Bool) : Nat :=
  if n = 0 then signedZero s
  else
    -- normalise to a mantissa of 26 bits or more, so that round and sticky bits exist
    let up := if n.log2 < 26 then 26 - n.log2 else 0
    let n := n * 2 ^ up
    let e := e - up
    let drop := n.log2 - 23
    let q := n / 2 ^ drop
    let r := n % 2 ^ drop
    let half := 2 ^ (drop - 1)
    let roundUp := r > half || (r == half && (sticky || q % 2 == 1))
    let q := if roundUp then q + 1 else q
    let e := e + drop
    let (q, e) := if q = 16777216 then (8388608, e + 1) else (q, e)
    let be := e + 150
    let sb := if s then 2147483648 else 0
    if be ≥ 255 then signedInf s
    else if be ≤ 0 then signedZero s
    else sb + be.toNat * 8388608 + (q - 8388608)

/-- A dyadic number rounded to binary32; an exact zero takes the sign `z`. -/
def ofDyadicZ (z : Bool) (d : Dyadic) : Nat :=
  if d.mant = 0 then signedZero z else roundMag (d.mant < 0) d.mant.natAbs d.exp false

/-- A dyadic number rounded to binary32, an exact zero being +0. -/
def ofDyadic (d : Dyadic) : Nat := ofDyadicZ false d

end F32

namespace Dyadic

/-- Both numbers over one exponent. -/
def align (a b : Dyadic) : Int × Int × Int :=
  let e := if a.exp ≤ b.exp then a.exp else b.exp
  (a.mant * 2 ^ (a.exp - e).toNat, b.mant * 2 ^ (b.exp - e).toNat, e)

def add (a b : Dyadic) : Dyadic := let (x, y, e) := align a b; ⟨x + y, e⟩
def neg (a : Dyadic) : Dyadic := ⟨-a.mant, a.exp⟩
def sub (a b : Dyadic) : Dyadic := add a (neg b)
def mul (a b : Dyadic) : Dyadic := ⟨a.mant * b.mant, a.exp + b.exp⟩
def lt (a b : Dyadic) : Bool := let (x, y, _) := align a b; x < y
def le (a b : Dyadic) : Bool := let (x, y, _) := align a b; x ≤ y
def ofInt (i : Int) : Dyadic := ⟨i, 0⟩

/-- The greatest integer not above the number. -/
def floor (a : Dyadic) : Int :=
  if 0 ≤ a.exp then a.mant * 2 ^ a.exp.toNat else a.mant / 2 ^ (-a.exp).toNat

/-- The nearest integer, ties to even. -/
def roundEven (a : Dyadic) : Int :=
  if 0 ≤ a.exp then a.mant * 2 ^ a.exp.toNat
  else
    let d : Int := 2 ^ (-a.exp).toNat
    let q := a.mant / d
    let r := a.mant % d
    if 2 * r > d || (2 * r == d && q % 2 == 1) then q + 1 else q

end Dyadic

namespace F32

/-- Negation: the sign bit inverted. -/
def neg (x : Nat) : Nat := if neg? x then x - 2147483648 else x + 2147483648

/-- Absolute value: the sign bit cleared. -/
def abs (x : Nat) : Nat := x % 2147483648

/-- Flush a subnormal to a zero of its sign (R140). -/
def flush (x : Nat) : Nat := if isZero x then signedZero (neg? x) else x

def add (a b : Nat) : Nat :=
  if isNaN a || isNaN b then nan
  else if isInf a then (if isInf b && neg? a != neg? b then nan else a)
  else if isInf b then b
  else if isZero a && isZero b then signedZero (neg? a && neg? b)
  else ofDyadic ((toDyadic a).add (toDyadic b))

def sub (a b : Nat) : Nat := add a (neg b)

def mul (a b : Nat) : Nat :=
  let s := neg? a != neg? b
  if isNaN a || isNaN b then nan
  else if isInf a || isInf b then (if isZero a || isZero b then nan else signedInf s)
  else ofDyadicZ s ((toDyadic a).mul (toDyadic b))

/-- `a × b + c` rounded once. -/
def fma (a b c : Nat) : Nat :=
  let s := neg? a != neg? b
  if isNaN a || isNaN b || isNaN c then nan
  else if isInf a || isInf b then
    if isZero a || isZero b then nan
    else if isInf c && neg? c != s then nan else signedInf s
  else if isInf c then c
  else
    let p := (toDyadic a).mul (toDyadic b)
    let r := p.add (toDyadic c)
    if r.mant = 0 then signedZero (if p.mant = 0 && isZero c then s && neg? c else false) else ofDyadic r

def div (a b : Nat) : Nat :=
  let s := neg? a != neg? b
  if isNaN a || isNaN b then nan
  else if isInf a then (if isInf b then nan else signedInf s)
  else if isInf b then signedZero s
  else if isZero b then (if isZero a then nan else signedInf s)
  else if isZero a then signedZero s
  else
    let x := toDyadic a
    let y := toDyadic b
    let n := x.mant.natAbs * 2 ^ 40
    let d := y.mant.natAbs
    roundMag s (n / d) (x.exp - y.exp - 40) (n % d != 0)

/-- Integer square root by Newton steps from above, on fuel. -/
def isqrtLoop : Nat → Nat → Nat → Nat
  | 0, _, x => x
  | k + 1, n, x =>
    let y := (x + n / x) / 2
    if y < x then isqrtLoop k n y else x

/-- The greatest integer whose square is at most `n`. -/
def isqrt (n : Nat) : Nat := if n = 0 then 0 else isqrtLoop 200 n (2 ^ (n.log2 / 2 + 1))

def sqrt (a : Nat) : Nat :=
  if isNaN a then nan
  else if isZero a then signedZero (neg? a)
  else if neg? a then nan
  else if isInf a then a
  else
    let x := toDyadic a
    -- an even exponent, and enough bits for one correct rounding
    let odd := x.exp % 2 == 1
    let m := if odd then x.mant.natAbs * 2 else x.mant.natAbs
    let e := if odd then x.exp - 1 else x.exp
    let n := m * 2 ^ 40
    let r := isqrt n
    roundMag false r (e / 2 - 20) (r * r != n)

/-- `a < b`; false where either is a NaN. -/
def lt (a b : Nat) : Bool :=
  if isNaN a || isNaN b then false
  else if isInf a then (if isInf b then neg? a && !neg? b else neg? a)
  else if isInf b then !neg? b
  else (toDyadic a).lt (toDyadic b)

/-- `a ≤ b`; false where either is a NaN. -/
def le (a b : Nat) : Bool := !isNaN a && !isNaN b && !lt b a

def gt (a b : Nat) : Bool := lt b a
def ge (a b : Nat) : Bool := le b a
def min (a b : Nat) : Nat := if lt b a then b else a
def max (a b : Nat) : Nat := if lt a b then b else a

/-- `x` held between `lo` and `hi`. -/
def clamp (x lo hi : Nat) : Nat := if lt x lo then lo else if lt hi x then hi else x

/-- An integer as binary32. -/
def ofInt (i : Int) : Nat := ofDyadic ⟨i, 0⟩

/-- A number as binary32. -/
def ofNat (n : Nat) : Nat := ofInt n

/-- The ratio of two integers, rounded once; zero where the divisor is zero. -/
def ofRatio (n : Int) (d : Nat) : Nat :=
  if d = 0 ∨ n = 0 then 0
  else
    let k := 64 + d.log2
    let m := n.natAbs * 2 ^ k
    roundMag (n < 0) (m / d) (-(k : Int)) (m % d != 0)

/-- The nearest integer to a finite value, ties to even; 0 for a NaN or an infinity (R152 calls those a numeric
error before this is used). -/
def toInt (x : Nat) : Int := if isFinite x then (toDyadic x).roundEven else 0

/-- The greatest integer not above a finite value; 0 for a NaN or an infinity. -/
def floor (x : Nat) : Int := if isFinite x then (toDyadic x).floor else 0

/-- `x` is a number from `lo` to `hi`. -/
def inRange (x lo hi : Nat) : Bool := le lo x && le x hi

/-! ### Sine and cosine of an angle in units of 2^-32 turn (R138, R151) -/

/-- 2π in units of 2^-96. -/
abbrev twoPi96 : Nat := 497805226624462170461043889244

/-- Taylor terms of a sine or cosine from `k` on: `t` is the present term, `x2` the squared argument, all in units of
2^-96. -/
def taylor : Nat → Nat → Int → Int → Int
  | 0, _, _, _ => 0
  | fuel + 1, k, t, x2 => t + taylor fuel (k + 2) (-(t * x2 / 2 ^ 96) / ((k + 1 : Nat) * (k + 2 : Nat) : Int)) x2

/-- Sine of an angle below a quarter turn, in units of 2^-96. -/
def sinQ (r : Nat) : Int :=
  let x : Int := (r * twoPi96 / 2 ^ 32 : Nat)
  taylor 20 1 x (x * x / 2 ^ 96)

/-- Cosine of an angle below a quarter turn, in units of 2^-96. -/
def cosQ (r : Nat) : Int :=
  let x : Int := (r * twoPi96 / 2 ^ 32 : Nat)
  taylor 20 0 (2 ^ 96) (x * x / 2 ^ 96)

/-- Sine of an angle, rounded once to the nearest binary32 (R140, R151). -/
def sinTurn (a : Nat) : Nat :=
  let r := a % 2 ^ 30
  let v := match a / 2 ^ 30 % 4 with
    | 0 => sinQ r
    | 1 => cosQ r
    | 2 => -sinQ r
    | _ => -cosQ r
  ofDyadic ⟨v, -96⟩

/-- Cosine of an angle, rounded once to the nearest binary32 (R140, R151). -/
def cosTurn (a : Nat) : Nat := sinTurn ((a + 2 ^ 30) % 2 ^ 32)

/-- An angle in turns given as binary32, in units of 2^-32 turn: the fractional part, nearest unit, ties to even (R151). -/
def turnUnits (x : Nat) : Nat :=
  let d := toDyadic x
  let f := d.sub ⟨d.floor, 0⟩
  ((f.mul ⟨4294967296, 0⟩).roundEven % 4294967296).toNat

/-- A binary32 literal `n / d`. -/
def lit (n : Int) (d : Nat) : Nat := ofRatio n d

/-- Cosine and sine of `h` units of 2^-17 turn below half a turn, in units of 2^-96. -/
def unitAt (h : Nat) : Int × Int :=
  let r := h * 2 ^ 15
  if r < 2 ^ 30 then (cosQ r, sinQ r) else (-sinQ (r - 2 ^ 30), cosQ (r - 2 ^ 30))

/-- The greatest `h` below `2^16`, built bit by bit from `lo`, at whose angle the vector (x, y), y ≥ 0, has not been passed. -/
def atanBits : Nat → Nat → Int → Int → Nat
  | 0, lo, _, _ => lo
  | n + 1, lo, x, y =>
    let h := lo + 2 ^ n
    let (c, s) := unitAt h
    atanBits n (if s * x ≤ c * y then h else lo) x y

/-- The angle of the vector (x, y) in 1/65 536 turn, nearest unit; 0 for the zero vector. -/
def atan2Units (x y : Nat) : Nat :=
  if !isFinite x || !isFinite y then 0
  else
    let (a, b, _) := (toDyadic x).align (toDyadic y)
    if a = 0 && b = 0 then 0
    else
      let flip := decide (b < 0) || (decide (b = 0) && decide (a < 0))
      let h := atanBits 16 0 (if flip then -a else a) (if flip then -b else b)
      ((h + if flip then 65536 else 0) + 1) / 2 % 65536

end F32

end Sys2Proof.Machine
end

