-- ==== Sys2Proof/Machine/RegTypes.lean ====
section
/-! DEFINITION. Machine/RegTypes.lean: what a register field is (R7 to R10): its place, its access type, its reset
domain, and the rows from which a whole register word is read and written. -/

namespace Sys2Proof.Machine

/-- A field of a register: the register's byte address, its lowest bit, its width and its reset value. -/
structure Fld where
  addr : Nat
  lo : Nat
  width : Nat
  rst : Nat
  deriving DecidableEq, Repr

/-- The key under which a field's value is held: no two fields of the map share one. -/
def Fld.key (f : Fld) : Nat := f.addr * 32 + f.lo

/-- The access types of R9. -/
inductive Access where
  | rw | ro | w1c | wo | rw1 | rwl
  deriving DecidableEq, Repr

/-- The reset domains of the Domain columns (R10, R493): regions CR, DR, MR, the safety island, Umbra, and PO for the
fields that only `PORST` resets (R496). -/
inductive Domain where
  | cr | dr | mr | si | ur | po
  deriving DecidableEq, Repr

/-- A field with its access type and reset domain. -/
structure FieldRow where
  fld : Fld
  acc : Access
  dom : Domain
  deriving DecidableEq, Repr

/-- A register, or an array of registers of one or two indices, and its fields. -/
structure RegRow where
  base : Nat
  n1 : Nat
  s1 : Nat
  n2 : Nat
  s2 : Nat
  fields : Nat → Nat → List FieldRow

/-- The indices at which a row covers an address, if it does. -/
def RegRow.index? (r : RegRow) (a : Nat) : Option (Nat × Nat) :=
  if a < r.base then none
  else
    let d := a - r.base
    let i := if r.s1 = 0 then 0 else if d / r.s1 < r.n1 then d / r.s1 else r.n1 - 1
    let e := d - i * r.s1
    let j := if r.s2 = 0 then 0 else e / r.s2
    if i < r.n1 && j < r.n2 && i * r.s1 + j * r.s2 == d then some (i, j) else none

/-- The fields of the register at an address, if a row of the list covers it. -/
def findRow : List RegRow → Nat → Option (List FieldRow)
  | [], _ => none
  | r :: rs, a =>
    match r.index? a with
    | some (i, j) => some (r.fields i j)
    | none => findRow rs a

end Sys2Proof.Machine
end

