-- ==== Sys2Proof/Machine/RegsA.lean ====
section
/-! DEFINITION. Machine/RegsA.lean: the register maps of R63, R74, R106, R137, R169, R199, one definition per field, named as the manual names it
(register, underscore, field), with its address, lowest bit, width and reset value; then one row per register with the
access type and the reset domain of each field (R9, R10). -/

namespace Sys2Proof.Machine.Reg

/-! ### R63 -/

abbrev CROSS_CTRL_CP_RUN : Fld := ⟨0x400C0000, 0, 1, 0⟩
abbrev CROSS_CTRL_FATAL_EN : Fld := ⟨0x400C0000, 1, 1, 0⟩
abbrev MBX_CTRL_COUNT : Fld := ⟨0x400C0004, 0, 5, 0⟩
abbrev MBX_CTRL_SUBMIT : Fld := ⟨0x400C0004, 8, 1, 0⟩
abbrev MBX_STATUS_PEND : Fld := ⟨0x400C0008, 0, 1, 0⟩
abbrev MBX_STATUS_LATE : Fld := ⟨0x400C0008, 1, 1, 0⟩
abbrev MBX_STATUS_WBLOCK : Fld := ⟨0x400C0008, 2, 1, 0⟩
abbrev MBX_STATUS_PERR : Fld := ⟨0x400C0008, 3, 1, 0⟩
abbrev MBX_STATUS_CONFLICT : Fld := ⟨0x400C0008, 4, 1, 0⟩
abbrev MBX_STATUS_CNT_ERR : Fld := ⟨0x400C0008, 5, 1, 0⟩
abbrev MBX_STATUS_APPLIED_SEQ : Fld := ⟨0x400C0008, 8, 8, 0⟩
abbrev MBX_RESULT_ERR : Fld := ⟨0x400C000C, 0, 16, 0⟩
abbrev CROSS_EPOCH_DROPS_COUNT : Fld := ⟨0x400C0010, 0, 32, 0⟩
abbrev DIG_CTRL_EN : Fld := ⟨0x400C0014, 0, 1, 0⟩
abbrev DIG_PTR_WPTR : Fld := ⟨0x400C0018, 0, 3, 0⟩
abbrev DIG_PTR_RPTR : Fld := ⟨0x400C0018, 8, 3, 0⟩
abbrev DIG_PTR_LOST : Fld := ⟨0x400C0018, 16, 8, 0⟩
abbrev DIG_PTR_UNREAD : Fld := ⟨0x400C0018, 24, 4, 0⟩
abbrev SHM_OWNER_OWNER_0 : Fld := ⟨0x400C001C, 0, 4, 0⟩
abbrev SHM_OWNER_OWNER_1 : Fld := ⟨0x400C001C, 4, 4, 0⟩
abbrev SHM_OWNER_OWNER_2 : Fld := ⟨0x400C001C, 8, 4, 0⟩
abbrev SHM_OWNER_OWNER_3 : Fld := ⟨0x400C001C, 12, 4, 0⟩
abbrev SHM_OWNER_OWNER_4 : Fld := ⟨0x400C001C, 16, 4, 0⟩
abbrev SHM_OWNER_OWNER_5 : Fld := ⟨0x400C001C, 20, 4, 0⟩
abbrev SHM_OWNER_OWNER_6 : Fld := ⟨0x400C001C, 24, 4, 0⟩
abbrev SHM_OWNER_OWNER_7 : Fld := ⟨0x400C001C, 28, 4, 0⟩
abbrev CROSS_CLR_CLR_DROPS : Fld := ⟨0x400C0020, 0, 1, 0⟩
abbrev TAP_SEL_SRC (i : Nat) : Fld := ⟨0x400C0040 + 0x4 * i, 0, 8, 0⟩
abbrev TAP_SEL_INDEX (i : Nat) : Fld := ⟨0x400C0040 + 0x4 * i, 8, 8, 0⟩
abbrev TAP_SEL_DECIM (i : Nat) : Fld := ⟨0x400C0040 + 0x4 * i, 16, 4, 0⟩
abbrev MBX_DATA_WORD (i : Nat) : Fld := ⟨0x400C0100 + 0x4 * i, 0, 32, 0⟩
abbrev DIG_RING_WORD (i : Nat) : Fld := ⟨0x400C0200 + 0x4 * i, 0, 32, 0⟩
abbrev REF_SP_VALUE (i : Nat) : Fld := ⟨0x400C0400 + 0x4 * i, 0, 32, 0⟩

/-- Register rows of R63, part 0. -/
def rows_crossings_0 : List RegRow := [
  ⟨0x400C0000, 1, 0x0, 1, 0x0, fun _ _ => [⟨CROSS_CTRL_CP_RUN, .ro, .cr⟩, ⟨CROSS_CTRL_FATAL_EN, .rw, .mr⟩]⟩,
  ⟨0x400C0004, 1, 0x0, 1, 0x0, fun _ _ => [⟨MBX_CTRL_COUNT, .rw, .mr⟩, ⟨MBX_CTRL_SUBMIT, .wo, .mr⟩]⟩,
  ⟨0x400C0008, 1, 0x0, 1, 0x0, fun _ _ => [⟨MBX_STATUS_PEND, .ro, .mr⟩, ⟨MBX_STATUS_LATE, .w1c, .mr⟩, ⟨MBX_STATUS_WBLOCK, .w1c, .mr⟩, ⟨MBX_STATUS_PERR, .w1c, .mr⟩, ⟨MBX_STATUS_CONFLICT, .w1c, .mr⟩, ⟨MBX_STATUS_CNT_ERR, .w1c, .mr⟩, ⟨MBX_STATUS_APPLIED_SEQ, .ro, .mr⟩]⟩,
  ⟨0x400C000C, 1, 0x0, 1, 0x0, fun _ _ => [⟨MBX_RESULT_ERR, .ro, .mr⟩]⟩,
  ⟨0x400C0010, 1, 0x0, 1, 0x0, fun _ _ => [⟨CROSS_EPOCH_DROPS_COUNT, .ro, .cr⟩]⟩,
  ⟨0x400C0014, 1, 0x0, 1, 0x0, fun _ _ => [⟨DIG_CTRL_EN, .rw, .mr⟩]⟩,
  ⟨0x400C0018, 1, 0x0, 1, 0x0, fun _ _ => [⟨DIG_PTR_WPTR, .ro, .mr⟩, ⟨DIG_PTR_RPTR, .rw, .mr⟩, ⟨DIG_PTR_LOST, .ro, .mr⟩, ⟨DIG_PTR_UNREAD, .ro, .mr⟩]⟩,
  ⟨0x400C001C, 1, 0x0, 1, 0x0, fun _ _ => [⟨SHM_OWNER_OWNER_0, .rw1, .mr⟩, ⟨SHM_OWNER_OWNER_1, .rw1, .mr⟩, ⟨SHM_OWNER_OWNER_2, .rw1, .mr⟩, ⟨SHM_OWNER_OWNER_3, .rw1, .mr⟩, ⟨SHM_OWNER_OWNER_4, .rw1, .mr⟩, ⟨SHM_OWNER_OWNER_5, .rw1, .mr⟩, ⟨SHM_OWNER_OWNER_6, .rw1, .mr⟩, ⟨SHM_OWNER_OWNER_7, .rw1, .mr⟩]⟩,
  ⟨0x400C0020, 1, 0x0, 1, 0x0, fun _ _ => [⟨CROSS_CLR_CLR_DROPS, .wo, .cr⟩]⟩,
  ⟨0x400C0040, 16, 0x4, 1, 0x0, fun i _ => [⟨(TAP_SEL_SRC i), .rw, .cr⟩, ⟨(TAP_SEL_INDEX i), .rw, .cr⟩, ⟨(TAP_SEL_DECIM i), .rw, .cr⟩]⟩,
  ⟨0x400C0100, 64, 0x4, 1, 0x0, fun i _ => [⟨(MBX_DATA_WORD i), .rw, .mr⟩]⟩,
  ⟨0x400C0200, 128, 0x4, 1, 0x0, fun i _ => [⟨(DIG_RING_WORD i), .ro, .mr⟩]⟩]

/-- Register rows of R63, part 1. -/
def rows_crossings_1 : List RegRow := [
  ⟨0x400C0400, 64, 0x4, 1, 0x0, fun i _ => [⟨(REF_SP_VALUE i), .ro, .cr⟩]⟩]

/-- The register rows of R63. -/
def rows_crossings : List RegRow := rows_crossings_0 ++ rows_crossings_1

/-! ### R74 -/

abbrev EVF_ROUTE_TARGET (i : Nat) : Fld := ⟨0x400B0000 + 0x4 * i, 0, 6, if 152 ≤ i ∧ i ≤ 167 then 6 else 2⟩
abbrev EVF_ROUTE_PRIO (i : Nat) : Fld := ⟨0x400B0000 + 0x4 * i, 8, 2, 0⟩
abbrev EVF_ROUTE_OTRIG (i : Nat) : Fld := ⟨0x400B0000 + 0x4 * i, 12, 4, 0⟩
abbrev EVF_ROUTE_LOCK (i : Nat) : Fld := ⟨0x400B0000 + 0x4 * i, 31, 1, 0⟩
abbrev EVF_PEND_PEND (i j : Nat) : Fld := ⟨0x400B0300 + 0x18 * i + 0x4 * j, 0, 32, 0⟩
abbrev EVF_COAL_COUNT : Fld := ⟨0x400B0390, 0, 16, 0⟩
abbrev EVF_CLR_CLR_COAL : Fld := ⟨0x400B0394, 0, 1, 0⟩

/-- Register rows of R74, part 0. -/
def rows_events_0 : List RegRow := [
  ⟨0x400B0000, 192, 0x4, 1, 0x0, fun i _ => [⟨(EVF_ROUTE_TARGET i), .rw, .cr⟩, ⟨(EVF_ROUTE_PRIO i), .rw, .cr⟩, ⟨(EVF_ROUTE_OTRIG i), .rw, .cr⟩, ⟨(EVF_ROUTE_LOCK i), .rw1, .cr⟩]⟩,
  ⟨0x400B0300, 6, 0x18, 6, 0x4, fun i j => [⟨(EVF_PEND_PEND i j), .w1c, .cr⟩]⟩,
  ⟨0x400B0390, 1, 0x0, 1, 0x0, fun _ _ => [⟨EVF_COAL_COUNT, .ro, .cr⟩]⟩,
  ⟨0x400B0394, 1, 0x0, 1, 0x0, fun _ _ => [⟨EVF_CLR_CLR_COAL, .wo, .cr⟩]⟩]

/-- The register rows of R74. -/
def rows_events : List RegRow := rows_events_0

/-! ### R106 -/

abbrev ORB_CTRL_TRACK_EN : Fld := ⟨0x40000000, 0, 1, 0⟩
abbrev ORB_CTRL_BW : Fld := ⟨0x40000000, 1, 1, 0⟩
abbrev ORB_CTRL_DIV : Fld := ⟨0x40000000, 2, 2, 0⟩
abbrev ORB_CTRL_ISSUE_EN : Fld := ⟨0x40000000, 4, 1, 0⟩
abbrev ORB_NCAR_N : Fld := ⟨0x40000004, 0, 12, 320⟩
abbrev ORB_FNOM_FNOM : Fld := ⟨0x40000008, 0, 7, 50⟩
abbrev ORB_FBAND_FMIN : Fld := ⟨0x4000000C, 0, 7, 40⟩
abbrev ORB_FBAND_FMAX : Fld := ⟨0x4000000C, 8, 7, 72⟩
abbrev ORB_STATUS_STATE : Fld := ⟨0x40000010, 0, 3, 0⟩
abbrev ORB_STATUS_CLAMP : Fld := ⟨0x40000010, 3, 1, 0⟩
abbrev ORB_STATUS_FLYLIMIT : Fld := ⟨0x40000010, 4, 1, 0⟩
abbrev ORB_STATUS_ACTIVE_BANK : Fld := ⟨0x40000010, 5, 1, 0⟩
abbrev ORB_STATUS_MARK : Fld := ⟨0x40000010, 8, 2, 0⟩
abbrev ORB_FLAGS_OVERRUN : Fld := ⟨0x40000014, 0, 1, 0⟩
abbrev ORB_FLAGS_UNLOCK : Fld := ⟨0x40000014, 1, 1, 0⟩
abbrev ORB_FLAGS_PHASE_JUMP : Fld := ⟨0x40000014, 2, 1, 0⟩
abbrev ORB_FLAGS_ROCOF : Fld := ⟨0x40000014, 3, 1, 0⟩
abbrev ORB_FLAGS_FREQ_RANGE : Fld := ⟨0x40000014, 4, 1, 0⟩
abbrev ORB_FLAGS_CLAMP : Fld := ⟨0x40000014, 5, 1, 0⟩
abbrev ORB_FLAGS_TICK_BEYOND : Fld := ⟨0x40000014, 6, 1, 0⟩
abbrev ORB_FLAGS_STALE : Fld := ⟨0x40000014, 7, 1, 0⟩
abbrev ORB_FLAGS_CFG_ERR : Fld := ⟨0x40000014, 8, 1, 0⟩
abbrev ORB_FLAGS_GROUP_LOST : Fld := ⟨0x40000014, 9, 1, 0⟩
abbrev ORB_FLAGS_SLOT_ECC : Fld := ⟨0x40000014, 10, 1, 0⟩
abbrev ORB_ANGLE_THETA : Fld := ⟨0x40000018, 0, 32, 0⟩
abbrev ORB_DTHETA_INC : Fld := ⟨0x4000001C, 0, 32, 17592186⟩
abbrev ORB_FREQ_VALUE : Fld := ⟨0x40000020, 0, 32, 0x42480000⟩
abbrev ORB_ROCOF_VALUE : Fld := ⟨0x40000024, 0, 32, 0x0⟩
abbrev ORB_VPOS_D_VALUE : Fld := ⟨0x40000028, 0, 32, 0x0⟩
abbrev ORB_VPOS_Q_VALUE : Fld := ⟨0x4000002C, 0, 32, 0x0⟩
abbrev ORB_VNEG_MAG_VALUE : Fld := ⟨0x40000030, 0, 32, 0x0⟩
abbrev ORB_VNEG_ANG_THETA : Fld := ⟨0x40000034, 0, 32, 0⟩
abbrev ORB_FRAME_COUNT : Fld := ⟨0x40000038, 0, 32, 0⟩
abbrev ORB_FRAME_ANGLE_THETA : Fld := ⟨0x4000003C, 0, 32, 0⟩
abbrev ORB_PERIOD_PERIOD : Fld := ⟨0x40000040, 0, 20, 50000⟩
abbrev ORB_PERIOD_RHO : Fld := ⟨0x40000040, 20, 12, 0⟩
abbrev ORB_TICK_TICK : Fld := ⟨0x40000044, 0, 22, 0⟩
abbrev ORB_EPOCH_EPOCH : Fld := ⟨0x40000048, 0, 8, 0⟩
abbrev ORB_OVR_COUNT_COUNT : Fld := ⟨0x4000004C, 0, 32, 0⟩
abbrev ORB_STALE_COUNT_COUNT : Fld := ⟨0x40000050, 0, 32, 0⟩
abbrev ORB_CNT_CLR_CLR_OVR : Fld := ⟨0x40000054, 0, 1, 0⟩
abbrev ORB_CNT_CLR_CLR_STALE : Fld := ⟨0x40000054, 1, 1, 0⟩
abbrev ORB_ISSUE_MAX_DELAY : Fld := ⟨0x40000058, 0, 8, 0⟩
abbrev ORB_VSRC_SAR (i : Nat) : Fld := ⟨0x40000060 + 0x4 * i, 0, 3, 0⟩
abbrev ORB_VSRC_CHAN (i : Nat) : Fld := ⟨0x40000060 + 0x4 * i, 4, 3, 0⟩
abbrev ORB_VSCALE_SCALE (i : Nat) : Fld := ⟨0x40000070 + 0x4 * i, 0, 32, 0x0⟩
abbrev ORB_CAR_OFFSET_THETA : Fld := ⟨0x4000007C, 0, 32, 0⟩
abbrev ORB_VMIN_VALUE : Fld := ⟨0x40000080, 0, 32, 0x3d4ccccd⟩
abbrev ORB_FLYMAX_MS : Fld := ⟨0x40000084, 0, 16, 500⟩
abbrev ORB_JUMP_TH_THETA : Fld := ⟨0x40000088, 0, 32, 119304647⟩
abbrev ORB_ROCOF_TH_VALUE : Fld := ⟨0x4000008C, 0, 32, 0x41200000⟩
abbrev ORB_BANK_SWAP : Fld := ⟨0x40000090, 0, 1, 0⟩
abbrev ORB_BANK_EPOCH_INC : Fld := ⟨0x40000090, 1, 1, 0⟩
abbrev ORB_BANK_SWAP_PEND : Fld := ⟨0x40000090, 2, 1, 0⟩
abbrev ORB_GROUP_ROLE : Fld := ⟨0x400000A0, 0, 2, 0⟩
abbrev ORB_GROUP_LINK : Fld := ⟨0x400000A0, 4, 2, 0⟩
abbrev ORB_GROUP_MAXCORR : Fld := ⟨0x400000A0, 8, 8, 64⟩
abbrev ORB_GROUP_STATUS_ALIGNED : Fld := ⟨0x400000A4, 0, 1, 0⟩
abbrev ORB_GROUP_STATUS_MARKER_OK : Fld := ⟨0x400000A4, 1, 1, 0⟩
abbrev ORB_GROUP_STATUS_MISSED : Fld := ⟨0x400000A4, 4, 4, 0⟩
abbrev ORB_GROUP_STATUS_OFFSET : Fld := ⟨0x400000A4, 16, 16, 0⟩
abbrev ORB_SNAP_ANGLE_THETA : Fld := ⟨0x400000B0, 0, 32, 0⟩
abbrev ORB_SNAP_FRAME_COUNT : Fld := ⟨0x400000B4, 0, 32, 0⟩
abbrev ORB_SNAP_TICK_TICK : Fld := ⟨0x400000B8, 0, 22, 0⟩
abbrev ORB_SLOT_STAT_ISSUED (i : Nat) : Fld := ⟨0x40003000 + 0x4 * i, 0, 1, 0⟩
abbrev ORB_SLOT_STAT_RETIRED (i : Nat) : Fld := ⟨0x40003000 + 0x4 * i, 1, 1, 0⟩
abbrev ORB_SLOT_STAT_CANCELLED (i : Nat) : Fld := ⟨0x40003000 + 0x4 * i, 2, 1, 0⟩

/-- Register rows of R106, part 0. -/
def rows_orbit_0 : List RegRow := [
  ⟨0x40000000, 1, 0x0, 1, 0x0, fun _ _ => [⟨ORB_CTRL_TRACK_EN, .rw, .cr⟩, ⟨ORB_CTRL_BW, .rw, .cr⟩, ⟨ORB_CTRL_DIV, .rw, .cr⟩, ⟨ORB_CTRL_ISSUE_EN, .rw, .cr⟩]⟩,
  ⟨0x40000004, 1, 0x0, 1, 0x0, fun _ _ => [⟨ORB_NCAR_N, .rw, .cr⟩]⟩,
  ⟨0x40000008, 1, 0x0, 1, 0x0, fun _ _ => [⟨ORB_FNOM_FNOM, .rw, .cr⟩]⟩,
  ⟨0x4000000C, 1, 0x0, 1, 0x0, fun _ _ => [⟨ORB_FBAND_FMIN, .rw, .cr⟩, ⟨ORB_FBAND_FMAX, .rw, .cr⟩]⟩,
  ⟨0x40000010, 1, 0x0, 1, 0x0, fun _ _ => [⟨ORB_STATUS_STATE, .ro, .cr⟩, ⟨ORB_STATUS_CLAMP, .ro, .cr⟩, ⟨ORB_STATUS_FLYLIMIT, .ro, .cr⟩, ⟨ORB_STATUS_ACTIVE_BANK, .ro, .cr⟩, ⟨ORB_STATUS_MARK, .ro, .cr⟩]⟩,
  ⟨0x40000014, 1, 0x0, 1, 0x0, fun _ _ => [⟨ORB_FLAGS_OVERRUN, .w1c, .cr⟩, ⟨ORB_FLAGS_UNLOCK, .w1c, .cr⟩, ⟨ORB_FLAGS_PHASE_JUMP, .w1c, .cr⟩, ⟨ORB_FLAGS_ROCOF, .w1c, .cr⟩, ⟨ORB_FLAGS_FREQ_RANGE, .w1c, .cr⟩, ⟨ORB_FLAGS_CLAMP, .w1c, .cr⟩, ⟨ORB_FLAGS_TICK_BEYOND, .w1c, .cr⟩, ⟨ORB_FLAGS_STALE, .w1c, .cr⟩, ⟨ORB_FLAGS_CFG_ERR, .w1c, .cr⟩, ⟨ORB_FLAGS_GROUP_LOST, .w1c, .cr⟩, ⟨ORB_FLAGS_SLOT_ECC, .w1c, .cr⟩]⟩,
  ⟨0x40000018, 1, 0x0, 1, 0x0, fun _ _ => [⟨ORB_ANGLE_THETA, .ro, .cr⟩]⟩,
  ⟨0x4000001C, 1, 0x0, 1, 0x0, fun _ _ => [⟨ORB_DTHETA_INC, .ro, .cr⟩]⟩,
  ⟨0x40000020, 1, 0x0, 1, 0x0, fun _ _ => [⟨ORB_FREQ_VALUE, .ro, .cr⟩]⟩,
  ⟨0x40000024, 1, 0x0, 1, 0x0, fun _ _ => [⟨ORB_ROCOF_VALUE, .ro, .cr⟩]⟩,
  ⟨0x40000028, 1, 0x0, 1, 0x0, fun _ _ => [⟨ORB_VPOS_D_VALUE, .ro, .cr⟩]⟩,
  ⟨0x4000002C, 1, 0x0, 1, 0x0, fun _ _ => [⟨ORB_VPOS_Q_VALUE, .ro, .cr⟩]⟩]

/-- Register rows of R106, part 1. -/
def rows_orbit_1 : List RegRow := [
  ⟨0x40000030, 1, 0x0, 1, 0x0, fun _ _ => [⟨ORB_VNEG_MAG_VALUE, .ro, .cr⟩]⟩,
  ⟨0x40000034, 1, 0x0, 1, 0x0, fun _ _ => [⟨ORB_VNEG_ANG_THETA, .ro, .cr⟩]⟩,
  ⟨0x40000038, 1, 0x0, 1, 0x0, fun _ _ => [⟨ORB_FRAME_COUNT, .ro, .cr⟩]⟩,
  ⟨0x4000003C, 1, 0x0, 1, 0x0, fun _ _ => [⟨ORB_FRAME_ANGLE_THETA, .ro, .cr⟩]⟩,
  ⟨0x40000040, 1, 0x0, 1, 0x0, fun _ _ => [⟨ORB_PERIOD_PERIOD, .ro, .cr⟩, ⟨ORB_PERIOD_RHO, .ro, .cr⟩]⟩,
  ⟨0x40000044, 1, 0x0, 1, 0x0, fun _ _ => [⟨ORB_TICK_TICK, .ro, .cr⟩]⟩,
  ⟨0x40000048, 1, 0x0, 1, 0x0, fun _ _ => [⟨ORB_EPOCH_EPOCH, .ro, .cr⟩]⟩,
  ⟨0x4000004C, 1, 0x0, 1, 0x0, fun _ _ => [⟨ORB_OVR_COUNT_COUNT, .ro, .cr⟩]⟩,
  ⟨0x40000050, 1, 0x0, 1, 0x0, fun _ _ => [⟨ORB_STALE_COUNT_COUNT, .ro, .cr⟩]⟩,
  ⟨0x40000054, 1, 0x0, 1, 0x0, fun _ _ => [⟨ORB_CNT_CLR_CLR_OVR, .wo, .cr⟩, ⟨ORB_CNT_CLR_CLR_STALE, .wo, .cr⟩]⟩,
  ⟨0x40000058, 1, 0x0, 1, 0x0, fun _ _ => [⟨ORB_ISSUE_MAX_DELAY, .ro, .cr⟩]⟩,
  ⟨0x40000060, 3, 0x4, 1, 0x0, fun i _ => [⟨(ORB_VSRC_SAR i), .rw, .cr⟩, ⟨(ORB_VSRC_CHAN i), .rw, .cr⟩]⟩]

/-- Register rows of R106, part 2. -/
def rows_orbit_2 : List RegRow := [
  ⟨0x40000070, 3, 0x4, 1, 0x0, fun i _ => [⟨(ORB_VSCALE_SCALE i), .rw, .cr⟩]⟩,
  ⟨0x4000007C, 1, 0x0, 1, 0x0, fun _ _ => [⟨ORB_CAR_OFFSET_THETA, .rw, .cr⟩]⟩,
  ⟨0x40000080, 1, 0x0, 1, 0x0, fun _ _ => [⟨ORB_VMIN_VALUE, .rw, .cr⟩]⟩,
  ⟨0x40000084, 1, 0x0, 1, 0x0, fun _ _ => [⟨ORB_FLYMAX_MS, .rw, .cr⟩]⟩,
  ⟨0x40000088, 1, 0x0, 1, 0x0, fun _ _ => [⟨ORB_JUMP_TH_THETA, .rw, .cr⟩]⟩,
  ⟨0x4000008C, 1, 0x0, 1, 0x0, fun _ _ => [⟨ORB_ROCOF_TH_VALUE, .rw, .cr⟩]⟩,
  ⟨0x40000090, 1, 0x0, 1, 0x0, fun _ _ => [⟨ORB_BANK_SWAP, .wo, .cr⟩, ⟨ORB_BANK_EPOCH_INC, .rw, .cr⟩, ⟨ORB_BANK_SWAP_PEND, .ro, .cr⟩]⟩,
  ⟨0x400000A0, 1, 0x0, 1, 0x0, fun _ _ => [⟨ORB_GROUP_ROLE, .rw, .cr⟩, ⟨ORB_GROUP_LINK, .rw, .cr⟩, ⟨ORB_GROUP_MAXCORR, .rw, .cr⟩]⟩,
  ⟨0x400000A4, 1, 0x0, 1, 0x0, fun _ _ => [⟨ORB_GROUP_STATUS_ALIGNED, .ro, .cr⟩, ⟨ORB_GROUP_STATUS_MARKER_OK, .ro, .cr⟩, ⟨ORB_GROUP_STATUS_MISSED, .ro, .cr⟩, ⟨ORB_GROUP_STATUS_OFFSET, .ro, .cr⟩]⟩,
  ⟨0x400000B0, 1, 0x0, 1, 0x0, fun _ _ => [⟨ORB_SNAP_ANGLE_THETA, .ro, .cr⟩]⟩,
  ⟨0x400000B4, 1, 0x0, 1, 0x0, fun _ _ => [⟨ORB_SNAP_FRAME_COUNT, .ro, .cr⟩]⟩,
  ⟨0x400000B8, 1, 0x0, 1, 0x0, fun _ _ => [⟨ORB_SNAP_TICK_TICK, .ro, .cr⟩]⟩]

/-- Register rows of R106, part 3. -/
def rows_orbit_3 : List RegRow := [
  ⟨0x40003000, 256, 0x4, 1, 0x0, fun i _ => [⟨(ORB_SLOT_STAT_ISSUED i), .ro, .cr⟩, ⟨(ORB_SLOT_STAT_RETIRED i), .ro, .cr⟩, ⟨(ORB_SLOT_STAT_CANCELLED i), .ro, .cr⟩]⟩]

/-- The register rows of R106. -/
def rows_orbit : List RegRow := rows_orbit_0 ++ rows_orbit_1 ++ rows_orbit_2 ++ rows_orbit_3

/-! ### R137 -/

abbrev CP_CTRL_A_EN : Fld := ⟨0x400C0800, 0, 1, 0⟩
abbrev CP_CTRL_B_EN : Fld := ⟨0x400C0800, 1, 1, 0⟩
abbrev CP_CTRL_STANDBY_EN : Fld := ⟨0x400C0800, 2, 1, 1⟩
abbrev CP_CTRL_FATAL_EN : Fld := ⟨0x400C0800, 3, 1, 0⟩
abbrev CP_CTRL_AUTO_REJOIN : Fld := ⟨0x400C0800, 4, 1, 1⟩
abbrev CP_CTRL_REJOIN_MAX : Fld := ⟨0x400C0800, 8, 3, 3⟩
abbrev CP_STATUS_ACTIVE : Fld := ⟨0x400C0804, 0, 1, 0⟩
abbrev CP_STATUS_STANDBY_READY : Fld := ⟨0x400C0804, 1, 1, 0⟩
abbrev CP_STATUS_TAKEOVER_PEND : Fld := ⟨0x400C0804, 2, 1, 0⟩
abbrev CP_STATUS_HALTED : Fld := ⟨0x400C0804, 3, 1, 0⟩
abbrev CP_STATUS_A_STATE : Fld := ⟨0x400C0804, 4, 3, 0⟩
abbrev CP_STATUS_B_STATE : Fld := ⟨0x400C0804, 8, 3, 0⟩
abbrev CP_STATUS_FENCE_A : Fld := ⟨0x400C0804, 12, 1, 0⟩
abbrev CP_STATUS_FENCE_B : Fld := ⟨0x400C0804, 13, 1, 0⟩
abbrev CP_FLAGS_MISMATCH : Fld := ⟨0x400C0808, 0, 1, 0⟩
abbrev CP_FLAGS_LATENT : Fld := ⟨0x400C0808, 1, 1, 0⟩
abbrev CP_FLAGS_CHECKER : Fld := ⟨0x400C0808, 2, 1, 0⟩
abbrev CP_FLAGS_AGREE : Fld := ⟨0x400C0808, 3, 1, 0⟩
abbrev CP_FLAGS_TCM_DED : Fld := ⟨0x400C0808, 4, 1, 0⟩
abbrev CP_FLAGS_BOTH_LOST : Fld := ⟨0x400C0808, 5, 1, 0⟩
abbrev CP_FLAGS_SWEEP_FORCED : Fld := ⟨0x400C0808, 6, 1, 0⟩
abbrev CP_FLAGS_CMD_REFUSED : Fld := ⟨0x400C0808, 7, 1, 0⟩
abbrev CP_FLAGS_FAULT_PAIR : Fld := ⟨0x400C0808, 8, 1, 0⟩
abbrev CP_CMD_TAKEOVER : Fld := ⟨0x400C080C, 0, 1, 0⟩
abbrev CP_CMD_REJOIN_A : Fld := ⟨0x400C080C, 1, 1, 0⟩
abbrev CP_CMD_REJOIN_B : Fld := ⟨0x400C080C, 2, 1, 0⟩
abbrev CP_MIRROR_BASE : Fld := ⟨0x400C0810, 0, 10, 0⟩
abbrev CP_MIRROR_SIZE : Fld := ⟨0x400C0810, 16, 9, 0⟩
abbrev CP_SWEEP_EN : Fld := ⟨0x400C0814, 0, 1, 1⟩
abbrev CP_SWEEP_LEAD : Fld := ⟨0x400C0814, 8, 16, 2000⟩
abbrev CP_SWEEP_STATUS_SLICE : Fld := ⟨0x400C0818, 0, 4, 0⟩
abbrev CP_SWEEP_STATUS_WORD : Fld := ⟨0x400C0818, 8, 8, 0⟩
abbrev CP_SWEEP_STATUS_WHICH : Fld := ⟨0x400C0818, 16, 1, 0⟩
abbrev CP_FENCE_DROPS_COUNT : Fld := ⟨0x400C081C, 0, 32, 0⟩
abbrev CP_SUPPRESS_COUNT_COUNT : Fld := ⟨0x400C0820, 0, 32, 0⟩
abbrev CP_TAKEOVER_LOG_COUNT : Fld := ⟨0x400C0824, 0, 8, 0⟩
abbrev CP_TAKEOVER_LOG_CAUSE : Fld := ⟨0x400C0824, 8, 3, 0⟩
abbrev CP_TAKEOVER_FRAME_COUNT : Fld := ⟨0x400C0828, 0, 32, 0⟩
abbrev CP_SELFTEST_A_DONE : Fld := ⟨0x400C082C, 0, 1, 0⟩
abbrev CP_SELFTEST_A_PASS : Fld := ⟨0x400C082C, 1, 1, 0⟩
abbrev CP_SELFTEST_B_DONE : Fld := ⟨0x400C082C, 4, 1, 0⟩
abbrev CP_SELFTEST_B_PASS : Fld := ⟨0x400C082C, 5, 1, 0⟩
abbrev CP_SELFTEST_A_REJOINS : Fld := ⟨0x400C082C, 16, 3, 0⟩
abbrev CP_SELFTEST_B_REJOINS : Fld := ⟨0x400C082C, 20, 3, 0⟩
abbrev CP_ECC_COUNT_COUNT : Fld := ⟨0x400C0830, 0, 16, 0⟩
abbrev CP_CNT_CLR_CLR_FENCE : Fld := ⟨0x400C0834, 0, 1, 0⟩
abbrev CP_CNT_CLR_CLR_SUPPRESS : Fld := ⟨0x400C0834, 1, 1, 0⟩
abbrev CP_CNT_CLR_CLR_ECC : Fld := ⟨0x400C0834, 2, 1, 0⟩

/-- Register rows of R137, part 0. -/
def rows_pairs_0 : List RegRow := [
  ⟨0x400C0800, 1, 0x0, 1, 0x0, fun _ _ => [⟨CP_CTRL_A_EN, .rw, .mr⟩, ⟨CP_CTRL_B_EN, .rw, .mr⟩, ⟨CP_CTRL_STANDBY_EN, .rw, .mr⟩, ⟨CP_CTRL_FATAL_EN, .rw, .mr⟩, ⟨CP_CTRL_AUTO_REJOIN, .rw, .mr⟩, ⟨CP_CTRL_REJOIN_MAX, .rw, .mr⟩]⟩,
  ⟨0x400C0804, 1, 0x0, 1, 0x0, fun _ _ => [⟨CP_STATUS_ACTIVE, .ro, .cr⟩, ⟨CP_STATUS_STANDBY_READY, .ro, .cr⟩, ⟨CP_STATUS_TAKEOVER_PEND, .ro, .cr⟩, ⟨CP_STATUS_HALTED, .ro, .cr⟩, ⟨CP_STATUS_A_STATE, .ro, .cr⟩, ⟨CP_STATUS_B_STATE, .ro, .cr⟩, ⟨CP_STATUS_FENCE_A, .ro, .cr⟩, ⟨CP_STATUS_FENCE_B, .ro, .cr⟩]⟩,
  ⟨0x400C0808, 1, 0x0, 1, 0x0, fun _ _ => [⟨CP_FLAGS_MISMATCH, .w1c, .cr⟩, ⟨CP_FLAGS_LATENT, .w1c, .cr⟩, ⟨CP_FLAGS_CHECKER, .w1c, .cr⟩, ⟨CP_FLAGS_AGREE, .w1c, .cr⟩, ⟨CP_FLAGS_TCM_DED, .w1c, .cr⟩, ⟨CP_FLAGS_BOTH_LOST, .w1c, .mr⟩, ⟨CP_FLAGS_SWEEP_FORCED, .w1c, .cr⟩, ⟨CP_FLAGS_CMD_REFUSED, .w1c, .mr⟩, ⟨CP_FLAGS_FAULT_PAIR, .ro, .cr⟩]⟩,
  ⟨0x400C080C, 1, 0x0, 1, 0x0, fun _ _ => [⟨CP_CMD_TAKEOVER, .wo, .mr⟩, ⟨CP_CMD_REJOIN_A, .wo, .mr⟩, ⟨CP_CMD_REJOIN_B, .wo, .mr⟩]⟩,
  ⟨0x400C0810, 1, 0x0, 1, 0x0, fun _ _ => [⟨CP_MIRROR_BASE, .rw, .mr⟩, ⟨CP_MIRROR_SIZE, .rw, .mr⟩]⟩,
  ⟨0x400C0814, 1, 0x0, 1, 0x0, fun _ _ => [⟨CP_SWEEP_EN, .rwl, .cr⟩, ⟨CP_SWEEP_LEAD, .rw, .cr⟩]⟩,
  ⟨0x400C0818, 1, 0x0, 1, 0x0, fun _ _ => [⟨CP_SWEEP_STATUS_SLICE, .ro, .cr⟩, ⟨CP_SWEEP_STATUS_WORD, .ro, .cr⟩, ⟨CP_SWEEP_STATUS_WHICH, .ro, .cr⟩]⟩,
  ⟨0x400C081C, 1, 0x0, 1, 0x0, fun _ _ => [⟨CP_FENCE_DROPS_COUNT, .ro, .cr⟩]⟩,
  ⟨0x400C0820, 1, 0x0, 1, 0x0, fun _ _ => [⟨CP_SUPPRESS_COUNT_COUNT, .ro, .cr⟩]⟩,
  ⟨0x400C0824, 1, 0x0, 1, 0x0, fun _ _ => [⟨CP_TAKEOVER_LOG_COUNT, .ro, .mr⟩, ⟨CP_TAKEOVER_LOG_CAUSE, .ro, .mr⟩]⟩,
  ⟨0x400C0828, 1, 0x0, 1, 0x0, fun _ _ => [⟨CP_TAKEOVER_FRAME_COUNT, .ro, .mr⟩]⟩,
  ⟨0x400C082C, 1, 0x0, 1, 0x0, fun _ _ => [⟨CP_SELFTEST_A_DONE, .ro, .cr⟩, ⟨CP_SELFTEST_A_PASS, .ro, .cr⟩, ⟨CP_SELFTEST_B_DONE, .ro, .cr⟩, ⟨CP_SELFTEST_B_PASS, .ro, .cr⟩, ⟨CP_SELFTEST_A_REJOINS, .ro, .mr⟩, ⟨CP_SELFTEST_B_REJOINS, .ro, .mr⟩]⟩]

/-- Register rows of R137, part 1. -/
def rows_pairs_1 : List RegRow := [
  ⟨0x400C0830, 1, 0x0, 1, 0x0, fun _ _ => [⟨CP_ECC_COUNT_COUNT, .ro, .cr⟩]⟩,
  ⟨0x400C0834, 1, 0x0, 1, 0x0, fun _ _ => [⟨CP_CNT_CLR_CLR_FENCE, .wo, .cr⟩, ⟨CP_CNT_CLR_CLR_SUPPRESS, .wo, .cr⟩, ⟨CP_CNT_CLR_CLR_ECC, .wo, .cr⟩]⟩]

/-- The register rows of R137. -/
def rows_pairs : List RegRow := rows_pairs_0 ++ rows_pairs_1

/-! ### R169 -/

abbrev LE_CTRL_EN (i : Nat) : Fld := ⟨0x40050000 + 0x8000 * i, 0, 1, 0⟩
abbrev LE_CTRL_COVER_EN (i : Nat) : Fld := ⟨0x40050000 + 0x8000 * i, 1, 1, 0⟩
abbrev LE_STATUS_STATE (i : Nat) : Fld := ⟨0x40050004 + 0x8000 * i, 0, 3, 0⟩
abbrev LE_STATUS_COVERING (i : Nat) : Fld := ⟨0x40050004 + 0x8000 * i, 3, 1, 0⟩
abbrev LE_STATUS_COVER_READY (i : Nat) : Fld := ⟨0x40050004 + 0x8000 * i, 4, 1, 0⟩
abbrev LE_STATUS_ACTIVE_BANK (i : Nat) : Fld := ⟨0x40050004 + 0x8000 * i, 5, 1, 0⟩
abbrev LE_STATUS_LOAD_BUSY (i : Nat) : Fld := ⟨0x40050004 + 0x8000 * i, 6, 1, 0⟩
abbrev LE_STATUS_JOB (i : Nat) : Fld := ⟨0x40050004 + 0x8000 * i, 8, 6, 63⟩
abbrev LE_FLAGS_FAULT_ECC (i : Nat) : Fld := ⟨0x40050008 + 0x8000 * i, 0, 1, 0⟩
abbrev LE_FLAGS_FAULT_PAR (i : Nat) : Fld := ⟨0x40050008 + 0x8000 * i, 1, 1, 0⟩
abbrev LE_FLAGS_FAULT_RES (i : Nat) : Fld := ⟨0x40050008 + 0x8000 * i, 2, 1, 0⟩
abbrev LE_FLAGS_FAULT_WDOG (i : Nat) : Fld := ⟨0x40050008 + 0x8000 * i, 3, 1, 0⟩
abbrev LE_FLAGS_MISSED_WRITE (i : Nat) : Fld := ⟨0x40050008 + 0x8000 * i, 4, 1, 0⟩
abbrev LE_FLAGS_NUMERIC (i : Nat) : Fld := ⟨0x40050008 + 0x8000 * i, 5, 1, 0⟩
abbrev LE_FLAGS_BUDGET (i : Nat) : Fld := ⟨0x40050008 + 0x8000 * i, 6, 1, 0⟩
abbrev LE_FLAGS_JOB_BAD (i : Nat) : Fld := ⟨0x40050008 + 0x8000 * i, 7, 1, 0⟩
abbrev LE_FLAGS_COVER_REFUSED (i : Nat) : Fld := ⟨0x40050008 + 0x8000 * i, 8, 1, 0⟩
abbrev LE_FLAGS_INPUT_SETTLE (i : Nat) : Fld := ⟨0x40050008 + 0x8000 * i, 9, 1, 0⟩
abbrev LE_FLAGS_INPUT_OVR (i : Nat) : Fld := ⟨0x40050008 + 0x8000 * i, 10, 1, 0⟩
abbrev LE_FLAGS_SELFTEST_FAIL (i : Nat) : Fld := ⟨0x40050008 + 0x8000 * i, 11, 1, 0⟩
abbrev LE_LOAD_STATUS_RESULT (i : Nat) : Fld := ⟨0x4005000C + 0x8000 * i, 0, 4, 0⟩
abbrev LE_LOAD_STATUS_PROGRAM_ID (i : Nat) : Fld := ⟨0x4005000C + 0x8000 * i, 16, 16, 0⟩
abbrev LE_BUDGET_COST (i : Nat) : Fld := ⟨0x40050010 + 0x8000 * i, 0, 16, 0⟩
abbrev LE_BUDGET_LIMIT (i : Nat) : Fld := ⟨0x40050010 + 0x8000 * i, 16, 16, 0⟩
abbrev LE_TMAX_US (i : Nat) : Fld := ⟨0x40050014 + 0x8000 * i, 0, 16, 1000⟩
abbrev LE_CMD_SWAP (i : Nat) : Fld := ⟨0x40050018 + 0x8000 * i, 0, 1, 0⟩
abbrev LE_CMD_SELFTEST (i : Nat) : Fld := ⟨0x40050018 + 0x8000 * i, 1, 1, 0⟩
abbrev LE_CMD_RETURN (i : Nat) : Fld := ⟨0x40050018 + 0x8000 * i, 2, 1, 0⟩
abbrev LE_MODE0_AUTO (i : Nat) : Fld := ⟨0x40050020 + 0x8000 * i, 0, 32, 0⟩
abbrev LE_MODE1_AUTO (i : Nat) : Fld := ⟨0x40050024 + 0x8000 * i, 0, 32, 0⟩
abbrev LE_ECC_COUNT_COUNT (i : Nat) : Fld := ⟨0x40050030 + 0x8000 * i, 0, 16, 0⟩
abbrev LE_CANCEL_COUNT_COUNT (i : Nat) : Fld := ⟨0x40050034 + 0x8000 * i, 0, 16, 0⟩
abbrev LE_MISSED_COUNT_COUNT (i : Nat) : Fld := ⟨0x40050038 + 0x8000 * i, 0, 16, 0⟩
abbrev LE_NUMERIC_COUNT_COUNT (i : Nat) : Fld := ⟨0x4005003C + 0x8000 * i, 0, 16, 0⟩
abbrev LE_CNT_CLR_CLR (i : Nat) : Fld := ⟨0x40050040 + 0x8000 * i, 0, 4, 0⟩
abbrev LE_REF_VALUE (i j : Nat) : Fld := ⟨0x40050080 + 0x8000 * i + 0x4 * j, 0, 32, 0x0⟩
abbrev LE_JOBSTAT_CYCLES (i j : Nat) : Fld := ⟨0x400500C0 + 0x8000 * i + 0x4 * j, 0, 16, 0⟩
abbrev LE_JOBSTAT_TAG (i j : Nat) : Fld := ⟨0x400500C0 + 0x8000 * i + 0x4 * j, 16, 8, 0⟩
abbrev LE_JOBSTAT_EPOCH (i j : Nat) : Fld := ⟨0x400500C0 + 0x8000 * i + 0x4 * j, 24, 8, 0⟩
abbrev LE_OUT_VALUE (i j : Nat) : Fld := ⟨0x40050100 + 0x8000 * i + 0x4 * j, 0, 32, 0x0⟩
abbrev LE_CAP_CFG_EN (i j : Nat) : Fld := ⟨0x40050200 + 0x8000 * i + 0x10 * j, 0, 1, 0⟩
abbrev LE_CAP_CFG_MODE (i j : Nat) : Fld := ⟨0x40050200 + 0x8000 * i + 0x10 * j, 1, 1, 0⟩
abbrev LE_CAP_CFG_NSIG (i j : Nat) : Fld := ⟨0x40050200 + 0x8000 * i + 0x10 * j, 4, 4, 1⟩
abbrev LE_CAP_CFG_PER (i j : Nat) : Fld := ⟨0x40050200 + 0x8000 * i + 0x10 * j, 16, 16, 4⟩
abbrev LE_CAP_REGION_BASE (i j : Nat) : Fld := ⟨0x40050204 + 0x8000 * i + 0x10 * j, 0, 10, 0⟩
abbrev LE_CAP_REGION_LEN (i j : Nat) : Fld := ⟨0x40050204 + 0x8000 * i + 0x10 * j, 16, 10, 0⟩
abbrev LE_CAP_SRC_LO_SRC (i j : Nat) : Fld := ⟨0x40050208 + 0x8000 * i + 0x10 * j, 0, 32, 0⟩
abbrev LE_CAP_SRC_HI_SRC (i j : Nat) : Fld := ⟨0x4005020C + 0x8000 * i + 0x10 * j, 0, 32, 0⟩
abbrev LE_INJ_ARM (i j : Nat) : Fld := ⟨0x40050300 + 0x8000 * i + 0x4 * j, 0, 1, 0⟩
abbrev LE_INJ_BUSY (i j : Nat) : Fld := ⟨0x40050300 + 0x8000 * i + 0x4 * j, 1, 1, 0⟩
abbrev LE_INJ_FRAMES (i j : Nat) : Fld := ⟨0x40050300 + 0x8000 * i + 0x4 * j, 16, 16, 0⟩
abbrev LE_SIG_VALUE (i j : Nat) : Fld := ⟨0x40056000 + 0x8000 * i + 0x4 * j, 0, 32, 0x0⟩
abbrev LE_HANDOVER_VALUE (i j : Nat) : Fld := ⟨0x40056400 + 0x8000 * i + 0x4 * j, 0, 32, 0x0⟩

/-- Register rows of R169, part 0. -/
def rows_loopEngines_0 : List RegRow := [
  ⟨0x40050000, 2, 0x8000, 1, 0x0, fun i _ => [⟨(LE_CTRL_EN i), .rw, .cr⟩, ⟨(LE_CTRL_COVER_EN i), .rw, .cr⟩]⟩,
  ⟨0x40050004, 2, 0x8000, 1, 0x0, fun i _ => [⟨(LE_STATUS_STATE i), .ro, .cr⟩, ⟨(LE_STATUS_COVERING i), .ro, .cr⟩, ⟨(LE_STATUS_COVER_READY i), .ro, .cr⟩, ⟨(LE_STATUS_ACTIVE_BANK i), .ro, .cr⟩, ⟨(LE_STATUS_LOAD_BUSY i), .ro, .cr⟩, ⟨(LE_STATUS_JOB i), .ro, .cr⟩]⟩,
  ⟨0x40050008, 2, 0x8000, 1, 0x0, fun i _ => [⟨(LE_FLAGS_FAULT_ECC i), .w1c, .cr⟩, ⟨(LE_FLAGS_FAULT_PAR i), .w1c, .cr⟩, ⟨(LE_FLAGS_FAULT_RES i), .w1c, .cr⟩, ⟨(LE_FLAGS_FAULT_WDOG i), .w1c, .cr⟩, ⟨(LE_FLAGS_MISSED_WRITE i), .w1c, .cr⟩, ⟨(LE_FLAGS_NUMERIC i), .w1c, .cr⟩, ⟨(LE_FLAGS_BUDGET i), .w1c, .cr⟩, ⟨(LE_FLAGS_JOB_BAD i), .w1c, .cr⟩, ⟨(LE_FLAGS_COVER_REFUSED i), .w1c, .cr⟩, ⟨(LE_FLAGS_INPUT_SETTLE i), .w1c, .cr⟩, ⟨(LE_FLAGS_INPUT_OVR i), .w1c, .cr⟩, ⟨(LE_FLAGS_SELFTEST_FAIL i), .w1c, .cr⟩]⟩,
  ⟨0x4005000C, 2, 0x8000, 1, 0x0, fun i _ => [⟨(LE_LOAD_STATUS_RESULT i), .ro, .cr⟩, ⟨(LE_LOAD_STATUS_PROGRAM_ID i), .ro, .cr⟩]⟩,
  ⟨0x40050010, 2, 0x8000, 1, 0x0, fun i _ => [⟨(LE_BUDGET_COST i), .ro, .cr⟩, ⟨(LE_BUDGET_LIMIT i), .ro, .cr⟩]⟩,
  ⟨0x40050014, 2, 0x8000, 1, 0x0, fun i _ => [⟨(LE_TMAX_US i), .rw, .cr⟩]⟩,
  ⟨0x40050018, 2, 0x8000, 1, 0x0, fun i _ => [⟨(LE_CMD_SWAP i), .wo, .cr⟩, ⟨(LE_CMD_SELFTEST i), .wo, .cr⟩, ⟨(LE_CMD_RETURN i), .wo, .cr⟩]⟩,
  ⟨0x40050020, 2, 0x8000, 1, 0x0, fun i _ => [⟨(LE_MODE0_AUTO i), .rw, .cr⟩]⟩,
  ⟨0x40050024, 2, 0x8000, 1, 0x0, fun i _ => [⟨(LE_MODE1_AUTO i), .rw, .cr⟩]⟩,
  ⟨0x40050030, 2, 0x8000, 1, 0x0, fun i _ => [⟨(LE_ECC_COUNT_COUNT i), .ro, .cr⟩]⟩,
  ⟨0x40050034, 2, 0x8000, 1, 0x0, fun i _ => [⟨(LE_CANCEL_COUNT_COUNT i), .ro, .cr⟩]⟩,
  ⟨0x40050038, 2, 0x8000, 1, 0x0, fun i _ => [⟨(LE_MISSED_COUNT_COUNT i), .ro, .cr⟩]⟩]

/-- Register rows of R169, part 1. -/
def rows_loopEngines_1 : List RegRow := [
  ⟨0x4005003C, 2, 0x8000, 1, 0x0, fun i _ => [⟨(LE_NUMERIC_COUNT_COUNT i), .ro, .cr⟩]⟩,
  ⟨0x40050040, 2, 0x8000, 1, 0x0, fun i _ => [⟨(LE_CNT_CLR_CLR i), .wo, .cr⟩]⟩,
  ⟨0x40050080, 2, 0x8000, 16, 0x4, fun i j => [⟨(LE_REF_VALUE i j), .rw, .cr⟩]⟩,
  ⟨0x400500C0, 2, 0x8000, 16, 0x4, fun i j => [⟨(LE_JOBSTAT_CYCLES i j), .ro, .cr⟩, ⟨(LE_JOBSTAT_TAG i j), .ro, .cr⟩, ⟨(LE_JOBSTAT_EPOCH i j), .ro, .cr⟩]⟩,
  ⟨0x40050100, 2, 0x8000, 24, 0x4, fun i j => [⟨(LE_OUT_VALUE i j), .ro, .cr⟩]⟩,
  ⟨0x40050200, 2, 0x8000, 16, 0x10, fun i j => [⟨(LE_CAP_CFG_EN i j), .rw, .cr⟩, ⟨(LE_CAP_CFG_MODE i j), .rw, .cr⟩, ⟨(LE_CAP_CFG_NSIG i j), .rw, .cr⟩, ⟨(LE_CAP_CFG_PER i j), .rw, .cr⟩]⟩,
  ⟨0x40050204, 2, 0x8000, 16, 0x10, fun i j => [⟨(LE_CAP_REGION_BASE i j), .rw, .cr⟩, ⟨(LE_CAP_REGION_LEN i j), .rw, .cr⟩]⟩,
  ⟨0x40050208, 2, 0x8000, 16, 0x10, fun i j => [⟨(LE_CAP_SRC_LO_SRC i j), .rw, .cr⟩]⟩,
  ⟨0x4005020C, 2, 0x8000, 16, 0x10, fun i j => [⟨(LE_CAP_SRC_HI_SRC i j), .rw, .cr⟩]⟩,
  ⟨0x40050300, 2, 0x8000, 4, 0x4, fun i j => [⟨(LE_INJ_ARM i j), .rw, .cr⟩, ⟨(LE_INJ_BUSY i j), .ro, .cr⟩, ⟨(LE_INJ_FRAMES i j), .rw, .cr⟩]⟩,
  ⟨0x40056000, 2, 0x8000, 256, 0x4, fun i j => [⟨(LE_SIG_VALUE i j), .ro, .cr⟩]⟩,
  ⟨0x40056400, 2, 0x8000, 64, 0x4, fun i j => [⟨(LE_HANDOVER_VALUE i j), .ro, .cr⟩]⟩]

/-- The register rows of R169. -/
def rows_loopEngines : List RegRow := rows_loopEngines_0 ++ rows_loopEngines_1

/-! ### R199 -/

abbrev PWM_COMMIT_CL : Fld := ⟨0x40010004, 0, 3, 0⟩
abbrev PWM_STATUS_CAL_DONE : Fld := ⟨0x40010008, 0, 1, 0⟩
abbrev PWM_STATUS_CAL_FAIL : Fld := ⟨0x40010008, 1, 1, 0⟩
abbrev PWM_STATUS_CLK_OK : Fld := ⟨0x40010008, 2, 1, 0⟩
abbrev PWM_FLAGS_LATE_COMMIT : Fld := ⟨0x4001000C, 0, 3, 0⟩
abbrev PWM_FLAGS_XLOCK : Fld := ⟨0x4001000C, 3, 1, 0⟩
abbrev PWM_FLAGS_XLOCK_ESC : Fld := ⟨0x4001000C, 4, 1, 0⟩
abbrev PWM_FLAGS_SHORT : Fld := ⟨0x4001000C, 5, 1, 0⟩
abbrev PWM_FLAGS_CARRY_LOSS : Fld := ⟨0x4001000C, 6, 1, 0⟩
abbrev PWM_FLAGS_REFRESH : Fld := ⟨0x4001000C, 7, 1, 0⟩
abbrev PWM_FLAGS_RANGE : Fld := ⟨0x4001000C, 8, 1, 0⟩
abbrev PWM_FLAGS_CFG_ERR : Fld := ⟨0x4001000C, 9, 1, 0⟩
abbrev PWM_FLAGS_CAL_FAIL : Fld := ⟨0x4001000C, 10, 1, 0⟩
abbrev PWM_FLAGS_CLK_LOSS : Fld := ⟨0x4001000C, 11, 1, 0⟩
abbrev PWM_FLAGS_EXPORT_OVF : Fld := ⟨0x4001000C, 12, 1, 0⟩
abbrev PWM_SAFE_STATUS_LATCHED : Fld := ⟨0x40010010, 0, 1, 1⟩
abbrev PWM_SAFE_STATUS_ACTIVE : Fld := ⟨0x40010010, 8, 7, 0⟩
abbrev PWM_SAFE_STATUS_SEEN : Fld := ⟨0x40010010, 16, 7, 0⟩
abbrev PWM_SAFE_CMD_ENTER : Fld := ⟨0x40010014, 0, 1, 0⟩
abbrev PWM_SAFE_CMD_CLEAR : Fld := ⟨0x40010014, 1, 1, 0⟩
abbrev PWM_XLOCK_LAST_PAIR : Fld := ⟨0x40010018, 0, 5, 0⟩
abbrev PWM_XLOCK_LAST_COUNT : Fld := ⟨0x40010018, 16, 16, 0⟩
abbrev PWM_ESC_PAIRS : Fld := ⟨0x4001001C, 0, 24, 0⟩
abbrev PWM_CAL_STATUS_FAIL_OUT : Fld := ⟨0x40010020, 0, 6, 63⟩
abbrev PWM_SHORT_COUNT_COUNT : Fld := ⟨0x40010024, 0, 16, 0⟩
abbrev PWM_CNT_CLR_CLR_SHORT : Fld := ⟨0x40010028, 0, 1, 0⟩
abbrev PWM_CNT_CLR_CLR_XLOCK : Fld := ⟨0x40010028, 1, 1, 0⟩
abbrev PWM_CNT_CLR_CLR_LATE : Fld := ⟨0x40010028, 2, 1, 0⟩
abbrev TRIP_STATUS_LEVEL : Fld := ⟨0x40010030, 0, 16, 0⟩
abbrev TRIP_LATCH_LATCH : Fld := ⟨0x40010034, 0, 16, 0⟩
abbrev CL_CTRL_EN (i : Nat) : Fld := ⟨0x40010100 + 0x20 * i, 0, 1, 0⟩
abbrev CL_CTRL_SYNC (i : Nat) : Fld := ⟨0x40010100 + 0x20 * i, 1, 1, 1⟩
abbrev CL_CTRL_UPDN (i : Nat) : Fld := ⟨0x40010100 + 0x20 * i, 2, 1, 1⟩
abbrev CL_CTRL_DUPD (i : Nat) : Fld := ⟨0x40010100 + 0x20 * i, 3, 1, 0⟩
abbrev CL_CTRL_AUTO (i : Nat) : Fld := ⟨0x40010100 + 0x20 * i, 4, 1, 0⟩
abbrev CL_CTRL_SRST (i : Nat) : Fld := ⟨0x40010100 + 0x20 * i, 5, 1, 0⟩
abbrev CL_PERIOD_SHADOW (i : Nat) : Fld := ⟨0x40010104 + 0x20 * i, 0, 20, 50000⟩
abbrev CL_PERIOD_ACT_PERIOD (i : Nat) : Fld := ⟨0x40010108 + 0x20 * i, 0, 20, 50000⟩
abbrev CL_CNT_TICK (i : Nat) : Fld := ⟨0x4001010C + 0x20 * i, 0, 20, 0⟩
abbrev CL_CNT_FALLING (i : Nat) : Fld := ⟨0x4001010C + 0x20 * i, 31, 1, 0⟩
abbrev CL_STATUS_COMMIT_PEND (i : Nat) : Fld := ⟨0x40010110 + 0x20 * i, 0, 1, 0⟩
abbrev CL_STATUS_TRIPPED (i : Nat) : Fld := ⟨0x40010110 + 0x20 * i, 1, 1, 0⟩
abbrev CL_STATUS_IN_RESET (i : Nat) : Fld := ⟨0x40010110 + 0x20 * i, 2, 1, 0⟩
abbrev CL_LATE_COUNT_COUNT (i : Nat) : Fld := ⟨0x40010114 + 0x20 * i, 0, 16, 0⟩
abbrev TRIP_CFG_EN (i : Nat) : Fld := ⟨0x40010200 + 0x8 * i, 0, 1, 0⟩
abbrev TRIP_CFG_SRC (i : Nat) : Fld := ⟨0x40010200 + 0x8 * i, 1, 5, 0⟩
abbrev TRIP_CFG_POL (i : Nat) : Fld := ⟨0x40010200 + 0x8 * i, 6, 1, 1⟩
abbrev TRIP_CFG_ACTION (i : Nat) : Fld := ⟨0x40010200 + 0x8 * i, 7, 2, 0⟩
abbrev TRIP_CFG_BCHAN (i : Nat) : Fld := ⟨0x40010200 + 0x8 * i, 9, 6, 63⟩
abbrev TRIP_CFG_BLANK (i : Nat) : Fld := ⟨0x40010200 + 0x8 * i, 16, 10, 0⟩
abbrev TRIP_MASK_PAIRS (i : Nat) : Fld := ⟨0x40010204 + 0x8 * i, 0, 24, 0⟩
abbrev PR_CFG_SHORT (i : Nat) : Fld := ⟨0x40010400 + 0x20 * i, 0, 2, 0⟩
abbrev PR_CFG_ASYM (i : Nat) : Fld := ⟨0x40010400 + 0x20 * i, 2, 1, 0⟩
abbrev PR_CFG_INDEP (i : Nat) : Fld := ⟨0x40010400 + 0x20 * i, 3, 1, 0⟩
abbrev PR_CFG_SAFE_H (i : Nat) : Fld := ⟨0x40010400 + 0x20 * i, 4, 2, 0⟩
abbrev PR_CFG_SAFE_L (i : Nat) : Fld := ⟨0x40010400 + 0x20 * i, 6, 2, 0⟩
abbrev PR_CFG_ROUTE (i : Nat) : Fld := ⟨0x40010400 + 0x20 * i, 8, 2, 0⟩
abbrev PR_CFG_EXPORT_EN (i : Nat) : Fld := ⟨0x40010400 + 0x20 * i, 10, 1, 0⟩
abbrev PR_CFG_EXPORT_LINK (i : Nat) : Fld := ⟨0x40010400 + 0x20 * i, 11, 2, 0⟩
abbrev PR_CFG_REFRESH_EN (i : Nat) : Fld := ⟨0x40010400 + 0x20 * i, 13, 1, 0⟩
abbrev PR_CFG_INV_H (i : Nat) : Fld := ⟨0x40010400 + 0x20 * i, 14, 1, 0⟩
abbrev PR_CFG_INV_L (i : Nat) : Fld := ⟨0x40010400 + 0x20 * i, 15, 1, 0⟩
abbrev PR_DT_DT (i : Nat) : Fld := ⟨0x40010404 + 0x20 * i, 0, 12, 0⟩
abbrev PR_DT_MINP (i : Nat) : Fld := ⟨0x40010404 + 0x20 * i, 16, 10, 0⟩
abbrev PR_CMPA_CMP (i : Nat) : Fld := ⟨0x40010408 + 0x20 * i, 0, 27, 0⟩
abbrev PR_CMPB_CMP (i : Nat) : Fld := ⟨0x4001040C + 0x20 * i, 0, 27, 0⟩
abbrev PR_CMPA_ACT_CMP (i : Nat) : Fld := ⟨0x40010410 + 0x20 * i, 0, 27, 0⟩
abbrev PR_CMPB_ACT_CMP (i : Nat) : Fld := ⟨0x40010414 + 0x20 * i, 0, 27, 0⟩
abbrev PR_REFRESH_REFW (i : Nat) : Fld := ⟨0x40010418 + 0x20 * i, 0, 10, 0⟩
abbrev PR_FORCE_FH (i : Nat) : Fld := ⟨0x4001041C + 0x20 * i, 0, 2, 0⟩
abbrev PR_FORCE_FL (i : Nat) : Fld := ⟨0x4001041C + 0x20 * i, 2, 2, 0⟩
abbrev PR_STATUS_TRIPPED (i : Nat) : Fld := ⟨0x40010700 + 0x8 * i, 0, 1, 0⟩
abbrev PR_STATUS_ESCALATED (i : Nat) : Fld := ⟨0x40010700 + 0x8 * i, 1, 1, 0⟩
abbrev PR_STATUS_REFRESH (i : Nat) : Fld := ⟨0x40010700 + 0x8 * i, 2, 1, 0⟩
abbrev PR_STATUS_SHORT_LAST (i : Nat) : Fld := ⟨0x40010700 + 0x8 * i, 3, 1, 0⟩
abbrev PR_STATUS_XLOCK_TURN (i : Nat) : Fld := ⟨0x40010700 + 0x8 * i, 4, 4, 0⟩
abbrev PR_CARRY_ACC (i : Nat) : Fld := ⟨0x40010704 + 0x8 * i, 0, 27, 0⟩
abbrev PR_SNAP_CMP (i : Nat) : Fld := ⟨0x40010800 + 0x4 * i, 0, 27, 0⟩

/-- Register rows of R199, part 0. -/
def rows_pwm_0 : List RegRow := [
  ⟨0x40010004, 1, 0x0, 1, 0x0, fun _ _ => [⟨PWM_COMMIT_CL, .wo, .cr⟩]⟩,
  ⟨0x40010008, 1, 0x0, 1, 0x0, fun _ _ => [⟨PWM_STATUS_CAL_DONE, .ro, .cr⟩, ⟨PWM_STATUS_CAL_FAIL, .ro, .cr⟩, ⟨PWM_STATUS_CLK_OK, .ro, .cr⟩]⟩,
  ⟨0x4001000C, 1, 0x0, 1, 0x0, fun _ _ => [⟨PWM_FLAGS_LATE_COMMIT, .w1c, .cr⟩, ⟨PWM_FLAGS_XLOCK, .w1c, .cr⟩, ⟨PWM_FLAGS_XLOCK_ESC, .w1c, .cr⟩, ⟨PWM_FLAGS_SHORT, .w1c, .cr⟩, ⟨PWM_FLAGS_CARRY_LOSS, .w1c, .cr⟩, ⟨PWM_FLAGS_REFRESH, .w1c, .cr⟩, ⟨PWM_FLAGS_RANGE, .w1c, .cr⟩, ⟨PWM_FLAGS_CFG_ERR, .w1c, .cr⟩, ⟨PWM_FLAGS_CAL_FAIL, .w1c, .cr⟩, ⟨PWM_FLAGS_CLK_LOSS, .w1c, .cr⟩, ⟨PWM_FLAGS_EXPORT_OVF, .w1c, .cr⟩]⟩,
  ⟨0x40010010, 1, 0x0, 1, 0x0, fun _ _ => [⟨PWM_SAFE_STATUS_LATCHED, .ro, .cr⟩, ⟨PWM_SAFE_STATUS_ACTIVE, .ro, .cr⟩, ⟨PWM_SAFE_STATUS_SEEN, .ro, .cr⟩]⟩,
  ⟨0x40010014, 1, 0x0, 1, 0x0, fun _ _ => [⟨PWM_SAFE_CMD_ENTER, .wo, .cr⟩, ⟨PWM_SAFE_CMD_CLEAR, .wo, .cr⟩]⟩,
  ⟨0x40010018, 1, 0x0, 1, 0x0, fun _ _ => [⟨PWM_XLOCK_LAST_PAIR, .ro, .cr⟩, ⟨PWM_XLOCK_LAST_COUNT, .ro, .cr⟩]⟩,
  ⟨0x4001001C, 1, 0x0, 1, 0x0, fun _ _ => [⟨PWM_ESC_PAIRS, .w1c, .cr⟩]⟩,
  ⟨0x40010020, 1, 0x0, 1, 0x0, fun _ _ => [⟨PWM_CAL_STATUS_FAIL_OUT, .ro, .cr⟩]⟩,
  ⟨0x40010024, 1, 0x0, 1, 0x0, fun _ _ => [⟨PWM_SHORT_COUNT_COUNT, .ro, .cr⟩]⟩,
  ⟨0x40010028, 1, 0x0, 1, 0x0, fun _ _ => [⟨PWM_CNT_CLR_CLR_SHORT, .wo, .cr⟩, ⟨PWM_CNT_CLR_CLR_XLOCK, .wo, .cr⟩, ⟨PWM_CNT_CLR_CLR_LATE, .wo, .cr⟩]⟩,
  ⟨0x40010030, 1, 0x0, 1, 0x0, fun _ _ => [⟨TRIP_STATUS_LEVEL, .ro, .cr⟩]⟩,
  ⟨0x40010034, 1, 0x0, 1, 0x0, fun _ _ => [⟨TRIP_LATCH_LATCH, .w1c, .cr⟩]⟩]

/-- Register rows of R199, part 1. -/
def rows_pwm_1 : List RegRow := [
  ⟨0x40010100, 3, 0x20, 1, 0x0, fun i _ => [⟨(CL_CTRL_EN i), .rw, .cr⟩, ⟨(CL_CTRL_SYNC i), .rw, .cr⟩, ⟨(CL_CTRL_UPDN i), .rw, .cr⟩, ⟨(CL_CTRL_DUPD i), .rw, .cr⟩, ⟨(CL_CTRL_AUTO i), .rw, .cr⟩, ⟨(CL_CTRL_SRST i), .wo, .cr⟩]⟩,
  ⟨0x40010104, 3, 0x20, 1, 0x0, fun i _ => [⟨(CL_PERIOD_SHADOW i), .rw, .cr⟩]⟩,
  ⟨0x40010108, 3, 0x20, 1, 0x0, fun i _ => [⟨(CL_PERIOD_ACT_PERIOD i), .ro, .cr⟩]⟩,
  ⟨0x4001010C, 3, 0x20, 1, 0x0, fun i _ => [⟨(CL_CNT_TICK i), .ro, .cr⟩, ⟨(CL_CNT_FALLING i), .ro, .cr⟩]⟩,
  ⟨0x40010110, 3, 0x20, 1, 0x0, fun i _ => [⟨(CL_STATUS_COMMIT_PEND i), .ro, .cr⟩, ⟨(CL_STATUS_TRIPPED i), .ro, .cr⟩, ⟨(CL_STATUS_IN_RESET i), .ro, .cr⟩]⟩,
  ⟨0x40010114, 3, 0x20, 1, 0x0, fun i _ => [⟨(CL_LATE_COUNT_COUNT i), .ro, .cr⟩]⟩,
  ⟨0x40010200, 16, 0x8, 1, 0x0, fun i _ => [⟨(TRIP_CFG_EN i), .rw, .cr⟩, ⟨(TRIP_CFG_SRC i), .rw, .cr⟩, ⟨(TRIP_CFG_POL i), .rw, .cr⟩, ⟨(TRIP_CFG_ACTION i), .rw, .cr⟩, ⟨(TRIP_CFG_BCHAN i), .rw, .cr⟩, ⟨(TRIP_CFG_BLANK i), .rw, .cr⟩]⟩,
  ⟨0x40010204, 16, 0x8, 1, 0x0, fun i _ => [⟨(TRIP_MASK_PAIRS i), .rw, .cr⟩]⟩,
  ⟨0x40010400, 24, 0x20, 1, 0x0, fun i _ => [⟨(PR_CFG_SHORT i), .rw, .cr⟩, ⟨(PR_CFG_ASYM i), .rw, .cr⟩, ⟨(PR_CFG_INDEP i), .rw, .cr⟩, ⟨(PR_CFG_SAFE_H i), .rw, .cr⟩, ⟨(PR_CFG_SAFE_L i), .rw, .cr⟩, ⟨(PR_CFG_ROUTE i), .rw, .cr⟩, ⟨(PR_CFG_EXPORT_EN i), .rw, .cr⟩, ⟨(PR_CFG_EXPORT_LINK i), .rw, .cr⟩, ⟨(PR_CFG_REFRESH_EN i), .rw, .cr⟩, ⟨(PR_CFG_INV_H i), .rw, .cr⟩, ⟨(PR_CFG_INV_L i), .rw, .cr⟩]⟩,
  ⟨0x40010404, 24, 0x20, 1, 0x0, fun i _ => [⟨(PR_DT_DT i), .rw, .cr⟩, ⟨(PR_DT_MINP i), .rw, .cr⟩]⟩,
  ⟨0x40010408, 24, 0x20, 1, 0x0, fun i _ => [⟨(PR_CMPA_CMP i), .rw, .cr⟩]⟩,
  ⟨0x4001040C, 24, 0x20, 1, 0x0, fun i _ => [⟨(PR_CMPB_CMP i), .rw, .cr⟩]⟩]

/-- Register rows of R199, part 2. -/
def rows_pwm_2 : List RegRow := [
  ⟨0x40010410, 24, 0x20, 1, 0x0, fun i _ => [⟨(PR_CMPA_ACT_CMP i), .ro, .cr⟩]⟩,
  ⟨0x40010414, 24, 0x20, 1, 0x0, fun i _ => [⟨(PR_CMPB_ACT_CMP i), .ro, .cr⟩]⟩,
  ⟨0x40010418, 24, 0x20, 1, 0x0, fun i _ => [⟨(PR_REFRESH_REFW i), .rw, .cr⟩]⟩,
  ⟨0x4001041C, 24, 0x20, 1, 0x0, fun i _ => [⟨(PR_FORCE_FH i), .rw, .cr⟩, ⟨(PR_FORCE_FL i), .rw, .cr⟩]⟩,
  ⟨0x40010700, 24, 0x8, 1, 0x0, fun i _ => [⟨(PR_STATUS_TRIPPED i), .ro, .cr⟩, ⟨(PR_STATUS_ESCALATED i), .ro, .cr⟩, ⟨(PR_STATUS_REFRESH i), .ro, .cr⟩, ⟨(PR_STATUS_SHORT_LAST i), .ro, .cr⟩, ⟨(PR_STATUS_XLOCK_TURN i), .ro, .cr⟩]⟩,
  ⟨0x40010704, 24, 0x8, 1, 0x0, fun i _ => [⟨(PR_CARRY_ACC i), .ro, .cr⟩]⟩,
  ⟨0x40010800, 24, 0x4, 1, 0x0, fun i _ => [⟨(PR_SNAP_CMP i), .ro, .cr⟩]⟩]

/-- The register rows of R199. -/
def rows_pwm : List RegRow := rows_pwm_0 ++ rows_pwm_1 ++ rows_pwm_2

end Sys2Proof.Machine.Reg
end

