-- ==== Sys2Proof/Machine/RegsB.lean ====
section
/-! DEFINITION. Machine/RegsB.lean: the register maps of R224, R249, R266, R295, R296, R315, one definition per field, named as the manual names it
(register, underscore, field), with its address, lowest bit, width and reset value; then one row per register with the
access type and the reset domain of each field (R9, R10). -/

namespace Sys2Proof.Machine.Reg

/-! ### R224 -/

abbrev DRV_CTRL_USED : Fld := ⟨0x40020000, 0, 6, 0⟩
abbrev DRV_STATUS_LINK_OK : Fld := ⟨0x40020004, 0, 6, 0⟩
abbrev DRV_STATUS_FAULTED : Fld := ⟨0x40020004, 8, 6, 0⟩
abbrev DRV_STATUS_LATCHED : Fld := ⟨0x40020004, 16, 6, 0⟩
abbrev DRV_STATUS_EN_CUT : Fld := ⟨0x40020004, 24, 6, 0⟩
abbrev DRV_FLAGS_CFG_ERR : Fld := ⟨0x40020008, 0, 1, 0⟩
abbrev DRV_FLAGS_LINK_CRC : Fld := ⟨0x40020008, 1, 1, 0⟩
abbrev DRV_FLAGS_SHORT_CMD : Fld := ⟨0x40020008, 2, 1, 0⟩
abbrev DRV_FLAGS_CLEAR_REFUSED : Fld := ⟨0x40020008, 3, 1, 0⟩
abbrev DRV_FLAGS_TEST_REFUSED : Fld := ⟨0x40020008, 4, 1, 0⟩
abbrev DRV_CRC_COUNT_COUNT : Fld := ⟨0x4002000C, 0, 16, 0⟩
abbrev DRV_CNT_CLR_CLR_CRC : Fld := ⟨0x40020010, 0, 1, 0⟩
abbrev DRV_CNT_CLR_CLR_XLOCK : Fld := ⟨0x40020010, 1, 1, 0⟩
abbrev DRV_CFG_ARM (i : Nat) : Fld := ⟨0x40020100 + 0x80 * i, 0, 1, 0⟩
abbrev DRV_CFG_BOOT (i : Nat) : Fld := ⟨0x40020100 + 0x80 * i, 1, 1, 0⟩
abbrev DRV_CFG_DSAT_EN_H (i : Nat) : Fld := ⟨0x40020100 + 0x80 * i, 2, 1, 1⟩
abbrev DRV_CFG_DSAT_EN_L (i : Nat) : Fld := ⟨0x40020100 + 0x80 * i, 3, 1, 1⟩
abbrev DRV_CFG_OC_EN (i : Nat) : Fld := ⟨0x40020100 + 0x80 * i, 4, 1, 0⟩
abbrev DRV_CFG_RETRY_WAIT (i : Nat) : Fld := ⟨0x40020100 + 0x80 * i, 8, 8, 100⟩
abbrev DRV_CFG_RETRY_MAX (i : Nat) : Fld := ⟨0x40020100 + 0x80 * i, 16, 4, 3⟩
abbrev DRV_UV_VPH_UV (i : Nat) : Fld := ⟨0x40020104 + 0x80 * i, 0, 2, 2⟩
abbrev DRV_UV_VPL_UV (i : Nat) : Fld := ⟨0x40020104 + 0x80 * i, 2, 2, 2⟩
abbrev DRV_UV_VNH_UV (i : Nat) : Fld := ⟨0x40020104 + 0x80 * i, 4, 2, 0⟩
abbrev DRV_UV_VNL_UV (i : Nat) : Fld := ⟨0x40020104 + 0x80 * i, 6, 2, 0⟩
abbrev DRV_UV_BS_WARN (i : Nat) : Fld := ⟨0x40020104 + 0x80 * i, 8, 5, 7⟩
abbrev DRV_DSAT_TH_H (i : Nat) : Fld := ⟨0x40020108 + 0x80 * i, 0, 6, 30⟩
abbrev DRV_DSAT_TH_L (i : Nat) : Fld := ⟨0x40020108 + 0x80 * i, 8, 6, 30⟩
abbrev DRV_DSAT_BLANK_H (i : Nat) : Fld := ⟨0x40020108 + 0x80 * i, 16, 5, 9⟩
abbrev DRV_DSAT_BLANK_L (i : Nat) : Fld := ⟨0x40020108 + 0x80 * i, 24, 5, 9⟩
abbrev DRV_OC_TH (i : Nat) : Fld := ⟨0x4002010C + 0x80 * i, 0, 8, 255⟩
abbrev DRV_OC_FILT (i : Nat) : Fld := ⟨0x4002010C + 0x80 * i, 8, 5, 2⟩
abbrev DRV_SOFT_STL_LEVEL (i : Nat) : Fld := ⟨0x40020110 + 0x80 * i, 0, 4, 4⟩
abbrev DRV_SOFT_STL_TIME (i : Nat) : Fld := ⟨0x40020110 + 0x80 * i, 4, 5, 4⟩
abbrev DRV_SOFT_SOFT_CODE (i : Nat) : Fld := ⟨0x40020110 + 0x80 * i, 16, 6, 8⟩
abbrev DRV_ADAPT_H_MODE_ON (i : Nat) : Fld := ⟨0x40020114 + 0x80 * i, 0, 2, 0⟩
abbrev DRV_ADAPT_H_MODE_OFF (i : Nat) : Fld := ⟨0x40020114 + 0x80 * i, 2, 2, 0⟩
abbrev DRV_ADAPT_H_TGT_ON (i : Nat) : Fld := ⟨0x40020114 + 0x80 * i, 4, 9, 100⟩
abbrev DRV_ADAPT_H_TGT_OFF (i : Nat) : Fld := ⟨0x40020114 + 0x80 * i, 16, 9, 100⟩
abbrev DRV_ADAPT_H_DB (i : Nat) : Fld := ⟨0x40020114 + 0x80 * i, 28, 4, 3⟩
abbrev DRV_ADAPT_L_MODE_ON (i : Nat) : Fld := ⟨0x40020118 + 0x80 * i, 0, 2, 0⟩
abbrev DRV_ADAPT_L_MODE_OFF (i : Nat) : Fld := ⟨0x40020118 + 0x80 * i, 2, 2, 0⟩
abbrev DRV_ADAPT_L_TGT_ON (i : Nat) : Fld := ⟨0x40020118 + 0x80 * i, 4, 9, 100⟩
abbrev DRV_ADAPT_L_TGT_OFF (i : Nat) : Fld := ⟨0x40020118 + 0x80 * i, 16, 9, 100⟩
abbrev DRV_ADAPT_L_DB (i : Nat) : Fld := ⟨0x40020118 + 0x80 * i, 28, 4, 3⟩
abbrev DRV_BOUND_H_ON_MIN (i : Nat) : Fld := ⟨0x4002011C + 0x80 * i, 0, 6, 0⟩
abbrev DRV_BOUND_H_ON_MAX (i : Nat) : Fld := ⟨0x4002011C + 0x80 * i, 8, 6, 63⟩
abbrev DRV_BOUND_H_OFF_MIN (i : Nat) : Fld := ⟨0x4002011C + 0x80 * i, 16, 6, 0⟩
abbrev DRV_BOUND_H_OFF_MAX (i : Nat) : Fld := ⟨0x4002011C + 0x80 * i, 24, 6, 63⟩
abbrev DRV_BOUND_L_ON_MIN (i : Nat) : Fld := ⟨0x40020120 + 0x80 * i, 0, 6, 0⟩
abbrev DRV_BOUND_L_ON_MAX (i : Nat) : Fld := ⟨0x40020120 + 0x80 * i, 8, 6, 63⟩
abbrev DRV_BOUND_L_OFF_MIN (i : Nat) : Fld := ⟨0x40020120 + 0x80 * i, 16, 6, 0⟩
abbrev DRV_BOUND_L_OFF_MAX (i : Nat) : Fld := ⟨0x40020120 + 0x80 * i, 24, 6, 63⟩
abbrev DRV_CODE_H_ON (i : Nat) : Fld := ⟨0x40020124 + 0x80 * i, 0, 6, 16⟩
abbrev DRV_CODE_H_OFF (i : Nat) : Fld := ⟨0x40020124 + 0x80 * i, 8, 6, 16⟩
abbrev DRV_CODE_L_ON (i : Nat) : Fld := ⟨0x40020128 + 0x80 * i, 0, 6, 16⟩
abbrev DRV_CODE_L_OFF (i : Nat) : Fld := ⟨0x40020128 + 0x80 * i, 8, 6, 16⟩
abbrev DRV_TSW_H_ON_NS (i : Nat) : Fld := ⟨0x4002012C + 0x80 * i, 0, 10, 1023⟩
abbrev DRV_TSW_H_OFF_NS (i : Nat) : Fld := ⟨0x4002012C + 0x80 * i, 16, 10, 1023⟩
abbrev DRV_TSW_L_ON_NS (i : Nat) : Fld := ⟨0x40020130 + 0x80 * i, 0, 10, 1023⟩
abbrev DRV_TSW_L_OFF_NS (i : Nat) : Fld := ⟨0x40020130 + 0x80 * i, 16, 10, 1023⟩
abbrev DRV_STATE_STATE (i : Nat) : Fld := ⟨0x40020134 + 0x80 * i, 0, 3, 0⟩
abbrev DRV_STATE_TRIES (i : Nat) : Fld := ⟨0x40020134 + 0x80 * i, 4, 4, 0⟩
abbrev DRV_STATE_BS_WARN (i : Nat) : Fld := ⟨0x40020134 + 0x80 * i, 8, 1, 0⟩
abbrev DRV_STATE_BS_HOLD (i : Nat) : Fld := ⟨0x40020134 + 0x80 * i, 9, 1, 0⟩
abbrev DRV_STATE_EN_CUT (i : Nat) : Fld := ⟨0x40020134 + 0x80 * i, 10, 1, 0⟩
abbrev DRV_STATE_LINK_OK (i : Nat) : Fld := ⟨0x40020134 + 0x80 * i, 11, 1, 0⟩
abbrev DRV_STATE_TEST_OK (i : Nat) : Fld := ⟨0x40020134 + 0x80 * i, 12, 1, 0⟩
abbrev DRV_STATE_ADAPT_READY (i : Nat) : Fld := ⟨0x40020134 + 0x80 * i, 13, 1, 0⟩
abbrev DRV_STATE_VBS (i : Nat) : Fld := ⟨0x40020134 + 0x80 * i, 16, 8, 0⟩
abbrev DRV_STATE_VPL (i : Nat) : Fld := ⟨0x40020134 + 0x80 * i, 24, 8, 0⟩
abbrev DRV_CAUSE_CAUSE (i : Nat) : Fld := ⟨0x40020138 + 0x80 * i, 0, 11, 0⟩
abbrev DRV_CAUSE_FIRST (i : Nat) : Fld := ⟨0x40020138 + 0x80 * i, 16, 5, 31⟩
abbrev DRV_XLOCK_TURN (i : Nat) : Fld := ⟨0x4002013C + 0x80 * i, 0, 4, 0⟩
abbrev DRV_XLOCK_COUNT (i : Nat) : Fld := ⟨0x4002013C + 0x80 * i, 16, 16, 0⟩
abbrev DRV_TEMP_TJ_H (i : Nat) : Fld := ⟨0x40020140 + 0x80 * i, 0, 8, 0⟩
abbrev DRV_TEMP_TJ_L (i : Nat) : Fld := ⟨0x40020140 + 0x80 * i, 8, 8, 0⟩
abbrev DRV_TEMP_WARN (i : Nat) : Fld := ⟨0x40020140 + 0x80 * i, 16, 8, 209⟩
abbrev DRV_TEST_CMD_SEL (i : Nat) : Fld := ⟨0x40020144 + 0x80 * i, 0, 9, 511⟩
abbrev DRV_TEST_CMD_START (i : Nat) : Fld := ⟨0x40020144 + 0x80 * i, 15, 1, 0⟩
abbrev DRV_TEST_RES_PASS (i : Nat) : Fld := ⟨0x40020148 + 0x80 * i, 0, 9, 0⟩
abbrev DRV_TEST_RES_BUSY (i : Nat) : Fld := ⟨0x40020148 + 0x80 * i, 28, 1, 0⟩
abbrev DRV_TEST_RES_ABORT (i : Nat) : Fld := ⟨0x40020148 + 0x80 * i, 29, 1, 0⟩
abbrev DRV_CMD_CLEAR (i : Nat) : Fld := ⟨0x4002014C + 0x80 * i, 0, 1, 0⟩
abbrev DRV_PLATEAU_VLO (i : Nat) : Fld := ⟨0x40020150 + 0x80 * i, 0, 8, 0⟩
abbrev DRV_PLATEAU_VHI (i : Nat) : Fld := ⟨0x40020150 + 0x80 * i, 8, 8, 0⟩

/-- Register rows of R224, part 0. -/
def rows_drive_0 : List RegRow := [
  ⟨0x40020000, 1, 0x0, 1, 0x0, fun _ _ => [⟨DRV_CTRL_USED, .rw, .cr⟩]⟩,
  ⟨0x40020004, 1, 0x0, 1, 0x0, fun _ _ => [⟨DRV_STATUS_LINK_OK, .ro, .cr⟩, ⟨DRV_STATUS_FAULTED, .ro, .cr⟩, ⟨DRV_STATUS_LATCHED, .ro, .cr⟩, ⟨DRV_STATUS_EN_CUT, .ro, .cr⟩]⟩,
  ⟨0x40020008, 1, 0x0, 1, 0x0, fun _ _ => [⟨DRV_FLAGS_CFG_ERR, .w1c, .cr⟩, ⟨DRV_FLAGS_LINK_CRC, .w1c, .cr⟩, ⟨DRV_FLAGS_SHORT_CMD, .w1c, .cr⟩, ⟨DRV_FLAGS_CLEAR_REFUSED, .w1c, .cr⟩, ⟨DRV_FLAGS_TEST_REFUSED, .w1c, .cr⟩]⟩,
  ⟨0x4002000C, 1, 0x0, 1, 0x0, fun _ _ => [⟨DRV_CRC_COUNT_COUNT, .ro, .cr⟩]⟩,
  ⟨0x40020010, 1, 0x0, 1, 0x0, fun _ _ => [⟨DRV_CNT_CLR_CLR_CRC, .wo, .cr⟩, ⟨DRV_CNT_CLR_CLR_XLOCK, .wo, .cr⟩]⟩,
  ⟨0x40020100, 6, 0x80, 1, 0x0, fun i _ => [⟨(DRV_CFG_ARM i), .rw, .cr⟩, ⟨(DRV_CFG_BOOT i), .rw, .cr⟩, ⟨(DRV_CFG_DSAT_EN_H i), .rw, .cr⟩, ⟨(DRV_CFG_DSAT_EN_L i), .rw, .cr⟩, ⟨(DRV_CFG_OC_EN i), .rw, .cr⟩, ⟨(DRV_CFG_RETRY_WAIT i), .rw, .cr⟩, ⟨(DRV_CFG_RETRY_MAX i), .rw, .cr⟩]⟩,
  ⟨0x40020104, 6, 0x80, 1, 0x0, fun i _ => [⟨(DRV_UV_VPH_UV i), .rw, .cr⟩, ⟨(DRV_UV_VPL_UV i), .rw, .cr⟩, ⟨(DRV_UV_VNH_UV i), .rw, .cr⟩, ⟨(DRV_UV_VNL_UV i), .rw, .cr⟩, ⟨(DRV_UV_BS_WARN i), .rw, .cr⟩]⟩,
  ⟨0x40020108, 6, 0x80, 1, 0x0, fun i _ => [⟨(DRV_DSAT_TH_H i), .rw, .cr⟩, ⟨(DRV_DSAT_TH_L i), .rw, .cr⟩, ⟨(DRV_DSAT_BLANK_H i), .rw, .cr⟩, ⟨(DRV_DSAT_BLANK_L i), .rw, .cr⟩]⟩,
  ⟨0x4002010C, 6, 0x80, 1, 0x0, fun i _ => [⟨(DRV_OC_TH i), .rw, .cr⟩, ⟨(DRV_OC_FILT i), .rw, .cr⟩]⟩,
  ⟨0x40020110, 6, 0x80, 1, 0x0, fun i _ => [⟨(DRV_SOFT_STL_LEVEL i), .rw, .cr⟩, ⟨(DRV_SOFT_STL_TIME i), .rw, .cr⟩, ⟨(DRV_SOFT_SOFT_CODE i), .rw, .cr⟩]⟩,
  ⟨0x40020114, 6, 0x80, 1, 0x0, fun i _ => [⟨(DRV_ADAPT_H_MODE_ON i), .rw, .cr⟩, ⟨(DRV_ADAPT_H_MODE_OFF i), .rw, .cr⟩, ⟨(DRV_ADAPT_H_TGT_ON i), .rw, .cr⟩, ⟨(DRV_ADAPT_H_TGT_OFF i), .rw, .cr⟩, ⟨(DRV_ADAPT_H_DB i), .rw, .cr⟩]⟩,
  ⟨0x40020118, 6, 0x80, 1, 0x0, fun i _ => [⟨(DRV_ADAPT_L_MODE_ON i), .rw, .cr⟩, ⟨(DRV_ADAPT_L_MODE_OFF i), .rw, .cr⟩, ⟨(DRV_ADAPT_L_TGT_ON i), .rw, .cr⟩, ⟨(DRV_ADAPT_L_TGT_OFF i), .rw, .cr⟩, ⟨(DRV_ADAPT_L_DB i), .rw, .cr⟩]⟩]

/-- Register rows of R224, part 1. -/
def rows_drive_1 : List RegRow := [
  ⟨0x4002011C, 6, 0x80, 1, 0x0, fun i _ => [⟨(DRV_BOUND_H_ON_MIN i), .rw, .cr⟩, ⟨(DRV_BOUND_H_ON_MAX i), .rw, .cr⟩, ⟨(DRV_BOUND_H_OFF_MIN i), .rw, .cr⟩, ⟨(DRV_BOUND_H_OFF_MAX i), .rw, .cr⟩]⟩,
  ⟨0x40020120, 6, 0x80, 1, 0x0, fun i _ => [⟨(DRV_BOUND_L_ON_MIN i), .rw, .cr⟩, ⟨(DRV_BOUND_L_ON_MAX i), .rw, .cr⟩, ⟨(DRV_BOUND_L_OFF_MIN i), .rw, .cr⟩, ⟨(DRV_BOUND_L_OFF_MAX i), .rw, .cr⟩]⟩,
  ⟨0x40020124, 6, 0x80, 1, 0x0, fun i _ => [⟨(DRV_CODE_H_ON i), .rw, .cr⟩, ⟨(DRV_CODE_H_OFF i), .rw, .cr⟩]⟩,
  ⟨0x40020128, 6, 0x80, 1, 0x0, fun i _ => [⟨(DRV_CODE_L_ON i), .rw, .cr⟩, ⟨(DRV_CODE_L_OFF i), .rw, .cr⟩]⟩,
  ⟨0x4002012C, 6, 0x80, 1, 0x0, fun i _ => [⟨(DRV_TSW_H_ON_NS i), .ro, .cr⟩, ⟨(DRV_TSW_H_OFF_NS i), .ro, .cr⟩]⟩,
  ⟨0x40020130, 6, 0x80, 1, 0x0, fun i _ => [⟨(DRV_TSW_L_ON_NS i), .ro, .cr⟩, ⟨(DRV_TSW_L_OFF_NS i), .ro, .cr⟩]⟩,
  ⟨0x40020134, 6, 0x80, 1, 0x0, fun i _ => [⟨(DRV_STATE_STATE i), .ro, .cr⟩, ⟨(DRV_STATE_TRIES i), .ro, .cr⟩, ⟨(DRV_STATE_BS_WARN i), .ro, .cr⟩, ⟨(DRV_STATE_BS_HOLD i), .ro, .cr⟩, ⟨(DRV_STATE_EN_CUT i), .ro, .cr⟩, ⟨(DRV_STATE_LINK_OK i), .ro, .cr⟩, ⟨(DRV_STATE_TEST_OK i), .ro, .cr⟩, ⟨(DRV_STATE_ADAPT_READY i), .ro, .cr⟩, ⟨(DRV_STATE_VBS i), .ro, .cr⟩, ⟨(DRV_STATE_VPL i), .ro, .cr⟩]⟩,
  ⟨0x40020138, 6, 0x80, 1, 0x0, fun i _ => [⟨(DRV_CAUSE_CAUSE i), .w1c, .cr⟩, ⟨(DRV_CAUSE_FIRST i), .ro, .cr⟩]⟩,
  ⟨0x4002013C, 6, 0x80, 1, 0x0, fun i _ => [⟨(DRV_XLOCK_TURN i), .ro, .cr⟩, ⟨(DRV_XLOCK_COUNT i), .ro, .cr⟩]⟩,
  ⟨0x40020140, 6, 0x80, 1, 0x0, fun i _ => [⟨(DRV_TEMP_TJ_H i), .ro, .cr⟩, ⟨(DRV_TEMP_TJ_L i), .ro, .cr⟩, ⟨(DRV_TEMP_WARN i), .rw, .cr⟩]⟩,
  ⟨0x40020144, 6, 0x80, 1, 0x0, fun i _ => [⟨(DRV_TEST_CMD_SEL i), .rw, .cr⟩, ⟨(DRV_TEST_CMD_START i), .rw, .cr⟩]⟩,
  ⟨0x40020148, 6, 0x80, 1, 0x0, fun i _ => [⟨(DRV_TEST_RES_PASS i), .ro, .cr⟩, ⟨(DRV_TEST_RES_BUSY i), .ro, .cr⟩, ⟨(DRV_TEST_RES_ABORT i), .ro, .cr⟩]⟩]

/-- Register rows of R224, part 2. -/
def rows_drive_2 : List RegRow := [
  ⟨0x4002014C, 6, 0x80, 1, 0x0, fun i _ => [⟨(DRV_CMD_CLEAR i), .rw, .cr⟩]⟩,
  ⟨0x40020150, 6, 0x80, 1, 0x0, fun i _ => [⟨(DRV_PLATEAU_VLO i), .ro, .cr⟩, ⟨(DRV_PLATEAU_VHI i), .ro, .cr⟩]⟩]

/-- The register rows of R224. -/
def rows_drive : List RegRow := rows_drive_0 ++ rows_drive_1 ++ rows_drive_2

/-! ### R249 -/

abbrev SNS_CTRL_EN : Fld := ⟨0x40030000, 0, 8, 0⟩
abbrev SNS_STATUS_RUN : Fld := ⟨0x40030004, 0, 8, 0⟩
abbrev SNS_STATUS_INJ_BUSY : Fld := ⟨0x40030004, 8, 8, 0⟩
abbrev SNS_FLAGS_INJ_OVERRUN : Fld := ⟨0x40030008, 0, 8, 0⟩
abbrev SNS_FLAGS_FIFO_OVF : Fld := ⟨0x40030008, 8, 8, 0⟩
abbrev SNS_FLAGS_LOST : Fld := ⟨0x40030008, 16, 8, 0⟩
abbrev SNS_FLAGS_FAULT : Fld := ⟨0x40030008, 24, 8, 0⟩
abbrev SNS_CMD_SRST : Fld := ⟨0x4003000C, 0, 8, 0⟩
abbrev SNS_CMD_SWTRIG : Fld := ⟨0x4003000C, 8, 8, 0⟩
abbrev SNS_CMD_CHECK : Fld := ⟨0x4003000C, 16, 8, 0⟩
abbrev SNS_LINK_LANE_UP : Fld := ⟨0x40030010, 0, 4, 0⟩
abbrev SNS_LINK_DOWN : Fld := ⟨0x40030010, 4, 1, 1⟩
abbrev SNS_LINK_CRC_COUNT : Fld := ⟨0x40030014, 0, 32, 0⟩
abbrev SNS_CNT_CLR_CLR_CRC : Fld := ⟨0x40030018, 0, 1, 0⟩
abbrev SNS_CNT_CLR_CLR_SAR : Fld := ⟨0x40030018, 1, 1, 0⟩
abbrev SAR_SCAN_MASK (i : Nat) : Fld := ⟨0x40030100 + 0x40 * i, 0, 12, 0⟩
abbrev SAR_CFG_REFSEL (i : Nat) : Fld := ⟨0x40030104 + 0x40 * i, 0, 1, 0⟩
abbrev SAR_CFG_INJ_EVT (i : Nat) : Fld := ⟨0x40030104 + 0x40 * i, 1, 1, 0⟩
abbrev SAR_CFG_FIFO_TH (i : Nat) : Fld := ⟨0x40030104 + 0x40 * i, 16, 6, 32⟩
abbrev SAR_SEQ0_SLOT (i : Nat) : Fld := ⟨0x40030108 + 0x40 * i, 0, 16, 0⟩
abbrev SAR_SEQ0_LEN (i : Nat) : Fld := ⟨0x40030108 + 0x40 * i, 16, 2, 0⟩
abbrev SAR_SEQ1_SLOT (i : Nat) : Fld := ⟨0x4003010C + 0x40 * i, 0, 16, 0⟩
abbrev SAR_SEQ1_LEN (i : Nat) : Fld := ⟨0x4003010C + 0x40 * i, 16, 2, 0⟩
abbrev SAR_SEQ1_CMPSRC (i : Nat) : Fld := ⟨0x4003010C + 0x40 * i, 24, 4, 0⟩
abbrev SAR_SEQ1_CMP_EN (i : Nat) : Fld := ⟨0x4003010C + 0x40 * i, 31, 1, 0⟩
abbrev SAR_FIFO_MASK_MASK (i : Nat) : Fld := ⟨0x40030110 + 0x40 * i, 0, 12, 0⟩
abbrev SAR_STATUS_STATE (i : Nat) : Fld := ⟨0x40030114 + 0x40 * i, 0, 3, 0⟩
abbrev SAR_STATUS_LATE_CFG (i : Nat) : Fld := ⟨0x40030114 + 0x40 * i, 3, 1, 0⟩
abbrev SAR_STATUS_CFG_PEND (i : Nat) : Fld := ⟨0x40030114 + 0x40 * i, 4, 1, 0⟩
abbrev SAR_STATUS_QUEUED (i : Nat) : Fld := ⟨0x40030114 + 0x40 * i, 5, 1, 0⟩
abbrev SAR_STATUS_CFG_ERR (i : Nat) : Fld := ⟨0x40030114 + 0x40 * i, 6, 1, 0⟩
abbrev SAR_STATUS_LEVEL (i : Nat) : Fld := ⟨0x40030114 + 0x40 * i, 8, 7, 0⟩
abbrev SAR_STATUS_NEXT (i : Nat) : Fld := ⟨0x40030114 + 0x40 * i, 16, 4, 0⟩
abbrev SAR_FIFO_WORD (i : Nat) : Fld := ⟨0x40030118 + 0x40 * i, 0, 32, 917504⟩
abbrev SAR_OVR_CHAN (i : Nat) : Fld := ⟨0x4003011C + 0x40 * i, 0, 12, 0⟩
abbrev SAR_COUNTS_DROPS (i : Nat) : Fld := ⟨0x40030120 + 0x40 * i, 0, 16, 0⟩
abbrev SAR_COUNTS_LOST (i : Nat) : Fld := ⟨0x40030120 + 0x40 * i, 16, 16, 0⟩
abbrev SAR_FIFO_OVF_COUNT_COUNT (i : Nat) : Fld := ⟨0x40030124 + 0x40 * i, 0, 16, 0⟩
abbrev SAR_CHECK_DONE (i : Nat) : Fld := ⟨0x40030128 + 0x40 * i, 0, 1, 0⟩
abbrev SAR_CHECK_PASS (i : Nat) : Fld := ⟨0x40030128 + 0x40 * i, 1, 1, 0⟩
abbrev SAR_CHECK_TEMP (i : Nat) : Fld := ⟨0x40030128 + 0x40 * i, 16, 16, 0⟩
abbrev SAR_CHCFG_GAIN (i j : Nat) : Fld := ⟨0x40030400 + 0x40 * i + 0x4 * j, 0, 2, 0⟩
abbrev SAR_CHCFG_AVG (i j : Nat) : Fld := ⟨0x40030400 + 0x40 * i + 0x4 * j, 8, 4, 0⟩
abbrev SAR_CHCFG_BUFON (i j : Nat) : Fld := ⟨0x40030400 + 0x40 * i + 0x4 * j, 12, 1, 0⟩
abbrev SAR_CHCFG_OVR_EVT (i j : Nat) : Fld := ⟨0x40030400 + 0x40 * i + 0x4 * j, 13, 1, 0⟩
abbrev SAR_LATEST_WORD (i j : Nat) : Fld := ⟨0x40030800 + 0x40 * i + 0x4 * j, 0, 32, 0⟩
abbrev SAR_SNAP_WORD (i j : Nat) : Fld := ⟨0x40030C00 + 0x40 * i + 0x4 * j, 0, 32, 0⟩

/-- Register rows of R249, part 0. -/
def rows_sense_0 : List RegRow := [
  ⟨0x40030000, 1, 0x0, 1, 0x0, fun _ _ => [⟨SNS_CTRL_EN, .rw, .cr⟩]⟩,
  ⟨0x40030004, 1, 0x0, 1, 0x0, fun _ _ => [⟨SNS_STATUS_RUN, .ro, .cr⟩, ⟨SNS_STATUS_INJ_BUSY, .ro, .cr⟩]⟩,
  ⟨0x40030008, 1, 0x0, 1, 0x0, fun _ _ => [⟨SNS_FLAGS_INJ_OVERRUN, .w1c, .cr⟩, ⟨SNS_FLAGS_FIFO_OVF, .w1c, .cr⟩, ⟨SNS_FLAGS_LOST, .w1c, .cr⟩, ⟨SNS_FLAGS_FAULT, .w1c, .cr⟩]⟩,
  ⟨0x4003000C, 1, 0x0, 1, 0x0, fun _ _ => [⟨SNS_CMD_SRST, .wo, .cr⟩, ⟨SNS_CMD_SWTRIG, .wo, .cr⟩, ⟨SNS_CMD_CHECK, .wo, .cr⟩]⟩,
  ⟨0x40030010, 1, 0x0, 1, 0x0, fun _ _ => [⟨SNS_LINK_LANE_UP, .ro, .cr⟩, ⟨SNS_LINK_DOWN, .ro, .cr⟩]⟩,
  ⟨0x40030014, 1, 0x0, 1, 0x0, fun _ _ => [⟨SNS_LINK_CRC_COUNT, .ro, .cr⟩]⟩,
  ⟨0x40030018, 1, 0x0, 1, 0x0, fun _ _ => [⟨SNS_CNT_CLR_CLR_CRC, .wo, .cr⟩, ⟨SNS_CNT_CLR_CLR_SAR, .wo, .cr⟩]⟩,
  ⟨0x40030100, 8, 0x40, 1, 0x0, fun i _ => [⟨(SAR_SCAN_MASK i), .rw, .cr⟩]⟩,
  ⟨0x40030104, 8, 0x40, 1, 0x0, fun i _ => [⟨(SAR_CFG_REFSEL i), .rw, .cr⟩, ⟨(SAR_CFG_INJ_EVT i), .rw, .cr⟩, ⟨(SAR_CFG_FIFO_TH i), .rw, .cr⟩]⟩,
  ⟨0x40030108, 8, 0x40, 1, 0x0, fun i _ => [⟨(SAR_SEQ0_SLOT i), .rw, .cr⟩, ⟨(SAR_SEQ0_LEN i), .rw, .cr⟩]⟩,
  ⟨0x4003010C, 8, 0x40, 1, 0x0, fun i _ => [⟨(SAR_SEQ1_SLOT i), .rw, .cr⟩, ⟨(SAR_SEQ1_LEN i), .rw, .cr⟩, ⟨(SAR_SEQ1_CMPSRC i), .rw, .cr⟩, ⟨(SAR_SEQ1_CMP_EN i), .rw, .cr⟩]⟩,
  ⟨0x40030110, 8, 0x40, 1, 0x0, fun i _ => [⟨(SAR_FIFO_MASK_MASK i), .rw, .cr⟩]⟩]

/-- Register rows of R249, part 1. -/
def rows_sense_1 : List RegRow := [
  ⟨0x40030114, 8, 0x40, 1, 0x0, fun i _ => [⟨(SAR_STATUS_STATE i), .ro, .cr⟩, ⟨(SAR_STATUS_LATE_CFG i), .w1c, .cr⟩, ⟨(SAR_STATUS_CFG_PEND i), .ro, .cr⟩, ⟨(SAR_STATUS_QUEUED i), .ro, .cr⟩, ⟨(SAR_STATUS_CFG_ERR i), .w1c, .cr⟩, ⟨(SAR_STATUS_LEVEL i), .ro, .cr⟩, ⟨(SAR_STATUS_NEXT i), .ro, .cr⟩]⟩,
  ⟨0x40030118, 8, 0x40, 1, 0x0, fun i _ => [⟨(SAR_FIFO_WORD i), .ro, .cr⟩]⟩,
  ⟨0x4003011C, 8, 0x40, 1, 0x0, fun i _ => [⟨(SAR_OVR_CHAN i), .w1c, .cr⟩]⟩,
  ⟨0x40030120, 8, 0x40, 1, 0x0, fun i _ => [⟨(SAR_COUNTS_DROPS i), .ro, .cr⟩, ⟨(SAR_COUNTS_LOST i), .ro, .cr⟩]⟩,
  ⟨0x40030124, 8, 0x40, 1, 0x0, fun i _ => [⟨(SAR_FIFO_OVF_COUNT_COUNT i), .ro, .cr⟩]⟩,
  ⟨0x40030128, 8, 0x40, 1, 0x0, fun i _ => [⟨(SAR_CHECK_DONE i), .ro, .cr⟩, ⟨(SAR_CHECK_PASS i), .ro, .cr⟩, ⟨(SAR_CHECK_TEMP i), .ro, .cr⟩]⟩,
  ⟨0x40030400, 8, 0x40, 12, 0x4, fun i j => [⟨(SAR_CHCFG_GAIN i j), .rw, .cr⟩, ⟨(SAR_CHCFG_AVG i j), .rw, .cr⟩, ⟨(SAR_CHCFG_BUFON i j), .rw, .cr⟩, ⟨(SAR_CHCFG_OVR_EVT i j), .rw, .cr⟩]⟩,
  ⟨0x40030800, 8, 0x40, 12, 0x4, fun i j => [⟨(SAR_LATEST_WORD i j), .ro, .cr⟩]⟩,
  ⟨0x40030C00, 8, 0x40, 12, 0x4, fun i j => [⟨(SAR_SNAP_WORD i j), .ro, .cr⟩]⟩]

/-- The register rows of R249. -/
def rows_sense : List RegRow := rows_sense_0 ++ rows_sense_1

/-! ### R266 -/

abbrev CMP_CTRL_EN : Fld := ⟨0x40040000, 0, 16, 0⟩
abbrev CMP_OUT_OUT : Fld := ⟨0x40040004, 0, 16, 0⟩
abbrev CMP_FLAGS_TRIP : Fld := ⟨0x40040008, 0, 16, 0⟩
abbrev CMP_FLAGS_CFG_ERR : Fld := ⟨0x40040008, 16, 1, 0⟩
abbrev CMP_FLAGS_LATE_CFG : Fld := ⟨0x40040008, 17, 2, 0⟩
abbrev CMP_FLAGS_RB_FAIL : Fld := ⟨0x40040008, 19, 1, 0⟩
abbrev CMP_FLAGS_CHECK_FAIL : Fld := ⟨0x40040008, 20, 1, 0⟩
abbrev CMP_FLAGS_CHECK_REFUSED : Fld := ⟨0x40040008, 21, 1, 0⟩
abbrev CMP_CMD_SRST : Fld := ⟨0x4004000C, 0, 2, 0⟩
abbrev CMP_CMD_LCHECK : Fld := ⟨0x4004000C, 2, 2, 0⟩
abbrev CMP_BANK_TDIV (i : Nat) : Fld := ⟨0x40040010 + 0x4 * i, 0, 6, 5⟩
abbrev CMP_BANK_BUSY (i : Nat) : Fld := ⟨0x40040010 + 0x4 * i, 8, 1, 0⟩
abbrev CMP_BANK_CFG_PEND (i : Nat) : Fld := ⟨0x40040010 + 0x4 * i, 9, 1, 0⟩
abbrev CMP_LCHK_CFG_SEL : Fld := ⟨0x40040018, 0, 16, 0⟩
abbrev CMP_LCHK_CFG_TIE_GND : Fld := ⟨0x40040018, 16, 1, 1⟩
abbrev CMP_LCHK_CFG_TIE_MID : Fld := ⟨0x40040018, 17, 1, 1⟩
abbrev CMP_LCHK_CFG_SWAP : Fld := ⟨0x40040018, 18, 1, 1⟩
abbrev CMP_LCHK_RES_PASS : Fld := ⟨0x4004001C, 0, 16, 0⟩
abbrev CMP_LCHK_RES_NJ : Fld := ⟨0x4004001C, 16, 16, 0⟩
abbrev CMP_RBSEL_WIN (i : Nat) : Fld := ⟨0x40040040 + 0x4 * i, 0, 4, i⟩
abbrev CMP_RBSEL_SIDE (i : Nat) : Fld := ⟨0x40040040 + 0x4 * i, 4, 1, 0⟩
abbrev CMP_RBSEL_AUTO (i : Nat) : Fld := ⟨0x40040040 + 0x4 * i, 5, 1, 0⟩
abbrev CMP_RBSEL_MASK (i : Nat) : Fld := ⟨0x40040040 + 0x4 * i, 16, 16, 0⟩
abbrev CMP_RBSTAT_ERR (i : Nat) : Fld := ⟨0x40040060 + 0x4 * i, 0, 16, 0⟩
abbrev CMP_RBSTAT_PASS (i : Nat) : Fld := ⟨0x40040060 + 0x4 * i, 16, 1, 0⟩
abbrev CMP_RBSTAT_JUDGED (i : Nat) : Fld := ⟨0x40040060 + 0x4 * i, 17, 1, 0⟩
abbrev CMP_RBSTAT_DAC (i : Nat) : Fld := ⟨0x40040060 + 0x4 * i, 18, 5, 0⟩
abbrev CMP_CFG_HI_EN (i : Nat) : Fld := ⟨0x40040100 + 0x10 * i, 0, 1, 0⟩
abbrev CMP_CFG_LO_EN (i : Nat) : Fld := ⟨0x40040100 + 0x10 * i, 1, 1, 0⟩
abbrev CMP_CFG_MODE (i : Nat) : Fld := ⟨0x40040100 + 0x10 * i, 2, 1, 0⟩
abbrev CMP_CFG_CLASS (i : Nat) : Fld := ⟨0x40040100 + 0x10 * i, 3, 1, 1⟩
abbrev CMP_CFG_FSAFE (i : Nat) : Fld := ⟨0x40040100 + 0x10 * i, 4, 1, 0⟩
abbrev CMP_CFG_KN (i : Nat) : Fld := ⟨0x40040100 + 0x10 * i, 5, 2, 1⟩
abbrev CMP_CFG_EVT_REL (i : Nat) : Fld := ⟨0x40040100 + 0x10 * i, 7, 1, 0⟩
abbrev CMP_CFG_AIN (i : Nat) : Fld := ⟨0x40040100 + 0x10 * i, 8, 6, 0⟩
abbrev CMP_TH_TH_HI (i : Nat) : Fld := ⟨0x40040104 + 0x10 * i, 0, 10, 1023⟩
abbrev CMP_TH_TH_LO (i : Nat) : Fld := ⟨0x40040104 + 0x10 * i, 16, 10, 0⟩
abbrev CMP_HYS_HYS_HI (i : Nat) : Fld := ⟨0x40040108 + 0x10 * i, 0, 5, 0⟩
abbrev CMP_HYS_HYS_LO (i : Nat) : Fld := ⟨0x40040108 + 0x10 * i, 8, 5, 0⟩
abbrev CMP_HYS_BCHAN (i : Nat) : Fld := ⟨0x40040108 + 0x10 * i, 16, 6, 63⟩
abbrev CMP_HYS_BLANK (i : Nat) : Fld := ⟨0x40040108 + 0x10 * i, 22, 10, 0⟩
abbrev CMP_STAT_STATE (i : Nat) : Fld := ⟨0x4004010C + 0x10 * i, 0, 3, 0⟩
abbrev CMP_STAT_HI_RAW (i : Nat) : Fld := ⟨0x4004010C + 0x10 * i, 3, 1, 0⟩
abbrev CMP_STAT_LO_RAW (i : Nat) : Fld := ⟨0x4004010C + 0x10 * i, 4, 1, 0⟩
abbrev CMP_STAT_HI_TRIP (i : Nat) : Fld := ⟨0x4004010C + 0x10 * i, 5, 1, 0⟩
abbrev CMP_STAT_LO_TRIP (i : Nat) : Fld := ⟨0x4004010C + 0x10 * i, 6, 1, 0⟩
abbrev CMP_STAT_START_HOLD (i : Nat) : Fld := ⟨0x4004010C + 0x10 * i, 7, 1, 0⟩
abbrev CMP_STAT_COUNT (i : Nat) : Fld := ⟨0x4004010C + 0x10 * i, 16, 16, 0⟩

/-- Register rows of R266, part 0. -/
def rows_comparators_0 : List RegRow := [
  ⟨0x40040000, 1, 0x0, 1, 0x0, fun _ _ => [⟨CMP_CTRL_EN, .rw, .cr⟩]⟩,
  ⟨0x40040004, 1, 0x0, 1, 0x0, fun _ _ => [⟨CMP_OUT_OUT, .ro, .cr⟩]⟩,
  ⟨0x40040008, 1, 0x0, 1, 0x0, fun _ _ => [⟨CMP_FLAGS_TRIP, .w1c, .cr⟩, ⟨CMP_FLAGS_CFG_ERR, .w1c, .cr⟩, ⟨CMP_FLAGS_LATE_CFG, .w1c, .cr⟩, ⟨CMP_FLAGS_RB_FAIL, .w1c, .cr⟩, ⟨CMP_FLAGS_CHECK_FAIL, .w1c, .cr⟩, ⟨CMP_FLAGS_CHECK_REFUSED, .w1c, .cr⟩]⟩,
  ⟨0x4004000C, 1, 0x0, 1, 0x0, fun _ _ => [⟨CMP_CMD_SRST, .wo, .cr⟩, ⟨CMP_CMD_LCHECK, .wo, .cr⟩]⟩,
  ⟨0x40040010, 2, 0x4, 1, 0x0, fun i _ => [⟨(CMP_BANK_TDIV i), .rw, .cr⟩, ⟨(CMP_BANK_BUSY i), .ro, .cr⟩, ⟨(CMP_BANK_CFG_PEND i), .ro, .cr⟩]⟩,
  ⟨0x40040018, 1, 0x0, 1, 0x0, fun _ _ => [⟨CMP_LCHK_CFG_SEL, .rw, .cr⟩, ⟨CMP_LCHK_CFG_TIE_GND, .rw, .cr⟩, ⟨CMP_LCHK_CFG_TIE_MID, .rw, .cr⟩, ⟨CMP_LCHK_CFG_SWAP, .rw, .cr⟩]⟩,
  ⟨0x4004001C, 1, 0x0, 1, 0x0, fun _ _ => [⟨CMP_LCHK_RES_PASS, .ro, .cr⟩, ⟨CMP_LCHK_RES_NJ, .ro, .cr⟩]⟩,
  ⟨0x40040040, 8, 0x4, 1, 0x0, fun i _ => [⟨(CMP_RBSEL_WIN i), .rw, .cr⟩, ⟨(CMP_RBSEL_SIDE i), .rw, .cr⟩, ⟨(CMP_RBSEL_AUTO i), .rw, .cr⟩, ⟨(CMP_RBSEL_MASK i), .rw, .cr⟩]⟩,
  ⟨0x40040060, 8, 0x4, 1, 0x0, fun i _ => [⟨(CMP_RBSTAT_ERR i), .ro, .cr⟩, ⟨(CMP_RBSTAT_PASS i), .ro, .cr⟩, ⟨(CMP_RBSTAT_JUDGED i), .ro, .cr⟩, ⟨(CMP_RBSTAT_DAC i), .ro, .cr⟩]⟩,
  ⟨0x40040100, 16, 0x10, 1, 0x0, fun i _ => [⟨(CMP_CFG_HI_EN i), .rw, .cr⟩, ⟨(CMP_CFG_LO_EN i), .rw, .cr⟩, ⟨(CMP_CFG_MODE i), .rw, .cr⟩, ⟨(CMP_CFG_CLASS i), .rw, .cr⟩, ⟨(CMP_CFG_FSAFE i), .rw, .cr⟩, ⟨(CMP_CFG_KN i), .rw, .cr⟩, ⟨(CMP_CFG_EVT_REL i), .rw, .cr⟩, ⟨(CMP_CFG_AIN i), .rw, .cr⟩]⟩,
  ⟨0x40040104, 16, 0x10, 1, 0x0, fun i _ => [⟨(CMP_TH_TH_HI i), .rw, .cr⟩, ⟨(CMP_TH_TH_LO i), .rw, .cr⟩]⟩,
  ⟨0x40040108, 16, 0x10, 1, 0x0, fun i _ => [⟨(CMP_HYS_HYS_HI i), .rw, .cr⟩, ⟨(CMP_HYS_HYS_LO i), .rw, .cr⟩, ⟨(CMP_HYS_BCHAN i), .rw, .cr⟩, ⟨(CMP_HYS_BLANK i), .rw, .cr⟩]⟩]

/-- Register rows of R266, part 1. -/
def rows_comparators_1 : List RegRow := [
  ⟨0x4004010C, 16, 0x10, 1, 0x0, fun i _ => [⟨(CMP_STAT_STATE i), .ro, .cr⟩, ⟨(CMP_STAT_HI_RAW i), .ro, .cr⟩, ⟨(CMP_STAT_LO_RAW i), .ro, .cr⟩, ⟨(CMP_STAT_HI_TRIP i), .ro, .cr⟩, ⟨(CMP_STAT_LO_TRIP i), .ro, .cr⟩, ⟨(CMP_STAT_START_HOLD i), .ro, .cr⟩, ⟨(CMP_STAT_COUNT i), .ro, .cr⟩]⟩]

/-- The register rows of R266. -/
def rows_comparators : List RegRow := rows_comparators_0 ++ rows_comparators_1

/-! ### R295 -/

abbrev GS_CTRL_EN : Fld := ⟨0x40008000, 0, 1, 0⟩
abbrev GS_CTRL_Q_MODE : Fld := ⟨0x40008000, 1, 2, 0⟩
abbrev GS_CTRL_FW_EN : Fld := ⟨0x40008000, 3, 1, 0⟩
abbrev GS_CTRL_RAMP_EN : Fld := ⟨0x40008000, 4, 1, 1⟩
abbrev GS_CTRL_RT_EN : Fld := ⟨0x40008000, 5, 1, 1⟩
abbrev GS_CTRL_RT_MODE : Fld := ⟨0x40008000, 6, 1, 1⟩
abbrev GS_CTRL_ZV_MODE : Fld := ⟨0x40008000, 7, 1, 0⟩
abbrev GS_CTRL_NEG_EN : Fld := ⟨0x40008000, 8, 1, 0⟩
abbrev GS_CTRL_PRIO : Fld := ⟨0x40008000, 9, 1, 0⟩
abbrev GS_CTRL_RT_PRIO : Fld := ⟨0x40008000, 10, 1, 1⟩
abbrev GS_CTRL_PHOLD : Fld := ⟨0x40008000, 11, 1, 0⟩
abbrev GS_CTRL_PAVAIL_SP : Fld := ⟨0x40008000, 16, 6, 5⟩
abbrev GS_STATUS_STATE : Fld := ⟨0x40008004, 0, 3, 0⟩
abbrev GS_STATUS_PROFILE_OK : Fld := ⟨0x40008004, 3, 1, 0⟩
abbrev GS_STATUS_ILIMIT : Fld := ⟨0x40008004, 4, 1, 0⟩
abbrev GS_STATUS_HOLD : Fld := ⟨0x40008004, 5, 1, 0⟩
abbrev GS_STATUS_PROF_PEND : Fld := ⟨0x40008004, 6, 1, 0⟩
abbrev GS_STATUS_PROFILE_ID : Fld := ⟨0x40008004, 16, 16, 0⟩
abbrev GS_FLAGS_PROFILE_ERR : Fld := ⟨0x40008008, 0, 1, 0⟩
abbrev GS_FLAGS_REF_OWNED : Fld := ⟨0x40008008, 1, 1, 0⟩
abbrev GS_FLAGS_CFG_ERR : Fld := ⟨0x40008008, 2, 1, 0⟩
abbrev GS_FLAGS_TRIP : Fld := ⟨0x40008008, 3, 1, 0⟩
abbrev GS_TRIP_CAUSE_CAUSE : Fld := ⟨0x4000800C, 0, 4, 0⟩
abbrev GS_ELAPSED_US : Fld := ⟨0x40008010, 0, 32, 0⟩
abbrev GS_VPRE_VALUE : Fld := ⟨0x40008014, 0, 32, 0x0⟩
abbrev GS_VF_VALUE : Fld := ⟨0x40008018, 0, 32, 0x0⟩
abbrev GS_VLO_VALUE : Fld := ⟨0x4000801C, 0, 32, 0x0⟩
abbrev GS_VHI_VALUE : Fld := ⟨0x40008020, 0, 32, 0x0⟩
abbrev GS_OUT_VALUE (i : Nat) : Fld := ⟨0x40008024 + 0x4 * i, 0, 32, 0x0⟩
abbrev GS_ROUTE_EN (i : Nat) : Fld := ⟨0x40008040 + 0x4 * i, 0, 1, 0⟩
abbrev GS_ROUTE_ENG (i : Nat) : Fld := ⟨0x40008040 + 0x4 * i, 1, 1, 0⟩
abbrev GS_ROUTE_REF (i : Nat) : Fld := ⟨0x40008040 + 0x4 * i, 2, 4, 0⟩
abbrev GS_ROUTE_NEG (i : Nat) : Fld := ⟨0x40008040 + 0x4 * i, 6, 1, 0⟩
abbrev GS_GAIN_VALUE (i : Nat) : Fld := ⟨0x40008050 + 0x4 * i, 0, 32, 0x3f800000⟩
abbrev GS_PROF_ACT_WORD (i : Nat) : Fld := ⟨0x40008400 + 0x4 * i, 0, 32, 0⟩

/-- Register rows of R295, part 0. -/
def rows_gridSupport_0 : List RegRow := [
  ⟨0x40008000, 1, 0x0, 1, 0x0, fun _ _ => [⟨GS_CTRL_EN, .rw, .cr⟩, ⟨GS_CTRL_Q_MODE, .rw, .cr⟩, ⟨GS_CTRL_FW_EN, .rw, .cr⟩, ⟨GS_CTRL_RAMP_EN, .rw, .cr⟩, ⟨GS_CTRL_RT_EN, .rw, .cr⟩, ⟨GS_CTRL_RT_MODE, .rw, .cr⟩, ⟨GS_CTRL_ZV_MODE, .rw, .cr⟩, ⟨GS_CTRL_NEG_EN, .rw, .cr⟩, ⟨GS_CTRL_PRIO, .rw, .cr⟩, ⟨GS_CTRL_RT_PRIO, .rw, .cr⟩, ⟨GS_CTRL_PHOLD, .rw, .cr⟩, ⟨GS_CTRL_PAVAIL_SP, .rw, .cr⟩]⟩,
  ⟨0x40008004, 1, 0x0, 1, 0x0, fun _ _ => [⟨GS_STATUS_STATE, .ro, .cr⟩, ⟨GS_STATUS_PROFILE_OK, .ro, .cr⟩, ⟨GS_STATUS_ILIMIT, .ro, .cr⟩, ⟨GS_STATUS_HOLD, .ro, .cr⟩, ⟨GS_STATUS_PROF_PEND, .ro, .cr⟩, ⟨GS_STATUS_PROFILE_ID, .ro, .cr⟩]⟩,
  ⟨0x40008008, 1, 0x0, 1, 0x0, fun _ _ => [⟨GS_FLAGS_PROFILE_ERR, .w1c, .cr⟩, ⟨GS_FLAGS_REF_OWNED, .w1c, .cr⟩, ⟨GS_FLAGS_CFG_ERR, .w1c, .cr⟩, ⟨GS_FLAGS_TRIP, .w1c, .cr⟩]⟩,
  ⟨0x4000800C, 1, 0x0, 1, 0x0, fun _ _ => [⟨GS_TRIP_CAUSE_CAUSE, .ro, .cr⟩]⟩,
  ⟨0x40008010, 1, 0x0, 1, 0x0, fun _ _ => [⟨GS_ELAPSED_US, .ro, .cr⟩]⟩,
  ⟨0x40008014, 1, 0x0, 1, 0x0, fun _ _ => [⟨GS_VPRE_VALUE, .ro, .cr⟩]⟩,
  ⟨0x40008018, 1, 0x0, 1, 0x0, fun _ _ => [⟨GS_VF_VALUE, .ro, .cr⟩]⟩,
  ⟨0x4000801C, 1, 0x0, 1, 0x0, fun _ _ => [⟨GS_VLO_VALUE, .ro, .cr⟩]⟩,
  ⟨0x40008020, 1, 0x0, 1, 0x0, fun _ _ => [⟨GS_VHI_VALUE, .ro, .cr⟩]⟩,
  ⟨0x40008024, 4, 0x4, 1, 0x0, fun i _ => [⟨(GS_OUT_VALUE i), .ro, .cr⟩]⟩,
  ⟨0x40008040, 4, 0x4, 1, 0x0, fun i _ => [⟨(GS_ROUTE_EN i), .rw, .cr⟩, ⟨(GS_ROUTE_ENG i), .rw, .cr⟩, ⟨(GS_ROUTE_REF i), .rw, .cr⟩, ⟨(GS_ROUTE_NEG i), .rw, .cr⟩]⟩,
  ⟨0x40008050, 4, 0x4, 1, 0x0, fun i _ => [⟨(GS_GAIN_VALUE i), .rw, .cr⟩]⟩]

/-- Register rows of R295, part 1. -/
def rows_gridSupport_1 : List RegRow := [
  ⟨0x40008400, 128, 0x4, 1, 0x0, fun i _ => [⟨(GS_PROF_ACT_WORD i), .ro, .cr⟩]⟩]

/-- The register rows of R295. -/
def rows_gridSupport : List RegRow := rows_gridSupport_0 ++ rows_gridSupport_1

/-! ### R296 -/

abbrev EE_CTRL_PASSIVE_EN : Fld := ⟨0x40080000, 0, 1, 0⟩
abbrev EE_CTRL_ACTIVE_EN : Fld := ⟨0x40080000, 1, 1, 0⟩
abbrev EE_CTRL_FOLLOW_DEC : Fld := ⟨0x40080000, 2, 1, 0⟩
abbrev EE_CTRL_ZTH_EN : Fld := ⟨0x40080000, 3, 1, 1⟩
abbrev EE_CTRL_ZREL_EN : Fld := ⟨0x40080000, 4, 1, 0⟩
abbrev EE_STATUS_ISLAND : Fld := ⟨0x40080004, 0, 1, 0⟩
abbrev EE_STATUS_PASSIVE : Fld := ⟨0x40080004, 1, 1, 0⟩
abbrev EE_STATUS_INJECTING : Fld := ⟨0x40080004, 2, 1, 0⟩
abbrev EE_STATUS_SUSPENDED : Fld := ⟨0x40080004, 3, 1, 0⟩
abbrev EE_STATUS_BASELINE_OK : Fld := ⟨0x40080004, 4, 1, 0⟩
abbrev EE_STATUS_ESTIMATES : Fld := ⟨0x40080004, 16, 16, 0⟩
abbrev EE_FLAGS_LOWCOH : Fld := ⟨0x40080008, 0, 1, 0⟩
abbrev EE_FLAGS_SEG_DROP : Fld := ⟨0x40080008, 1, 1, 0⟩
abbrev EE_FLAGS_GROUP_LOST : Fld := ⟨0x40080008, 2, 1, 0⟩
abbrev EE_FLAGS_CFG_ERR : Fld := ⟨0x40080008, 3, 1, 0⟩
abbrev EE_FLAGS_CLEAR_REFUSED : Fld := ⟨0x40080008, 4, 1, 0⟩
abbrev EE_CAUSE_CAUSE : Fld := ⟨0x4008000C, 0, 10, 0⟩
abbrev EE_CMD_CLEAR : Fld := ⟨0x40080010, 0, 1, 0⟩
abbrev EE_CMD_REBASE : Fld := ⟨0x40080010, 1, 1, 0⟩
abbrev EE_PEN_EN : Fld := ⟨0x40080014, 0, 7, 0⟩
abbrev EE_CMP_MASK_WIN : Fld := ⟨0x40080018, 0, 16, 0⟩
abbrev EE_UV_TH_VALUE : Fld := ⟨0x40080020, 0, 32, 0x3f6147ae⟩
abbrev EE_OV_TH_VALUE : Fld := ⟨0x40080024, 0, 32, 0x3f8ccccd⟩
abbrev EE_UF_TH_VALUE : Fld := ⟨0x40080028, 0, 32, 0x42460000⟩
abbrev EE_OF_TH_VALUE : Fld := ⟨0x4008002C, 0, 32, 0x424a0000⟩
abbrev EE_ROCOF_TH_VALUE : Fld := ⟨0x40080030, 0, 32, 0x40000000⟩
abbrev EE_VS_TH_THETA : Fld := ⟨0x40080034, 0, 32, 238609294⟩
abbrev EE_PTIME_UV_T : Fld := ⟨0x40080038, 0, 8, 0⟩
abbrev EE_PTIME_OV_T : Fld := ⟨0x40080038, 8, 8, 0⟩
abbrev EE_PTIME_F_T : Fld := ⟨0x40080038, 16, 8, 0⟩
abbrev EE_INJ_ENG : Fld := ⟨0x40080040, 0, 1, 0⟩
abbrev EE_INJ_INJ : Fld := ⟨0x40080040, 1, 2, 0⟩
abbrev EE_INJ_SP : Fld := ⟨0x40080040, 8, 6, 48⟩
abbrev EE_INJ_N : Fld := ⟨0x40080040, 16, 4, 11⟩
abbrev EE_INJ_FPB : Fld := ⟨0x40080040, 20, 4, 1⟩
abbrev EE_SEED_SEED : Fld := ⟨0x40080044, 0, 15, 1⟩
abbrev EE_AMP_VALUE : Fld := ⟨0x40080048, 0, 32, 0x3ba3d70a⟩
abbrev EE_AMP_GAIN_VALUE : Fld := ⟨0x4008004C, 0, 32, 0x3f800000⟩
abbrev EE_SRC_TH : Fld := ⟨0x40080050, 0, 4, 0⟩
abbrev EE_SRC_V : Fld := ⟨0x40080050, 4, 4, 1⟩
abbrev EE_SRC_I : Fld := ⟨0x40080050, 8, 4, 2⟩
abbrev EE_WIN_WSEG : Fld := ⟨0x40080054, 0, 4, 5⟩
abbrev EE_WIN_DCONF : Fld := ⟨0x40080054, 4, 2, 1⟩
abbrev EE_WIN_ZMIN_BINS : Fld := ⟨0x40080054, 8, 4, 2⟩
abbrev EE_WIN_ZMASK : Fld := ⟨0x40080054, 16, 16, 255⟩
abbrev EE_GAMMA_MIN_VALUE : Fld := ⟨0x40080058, 0, 32, 0x3f000000⟩
abbrev EE_ZTH_VALUE : Fld := ⟨0x4008005C, 0, 32, 0x3f800000⟩
abbrev EE_ZREL_VALUE : Fld := ⟨0x40080060, 0, 32, 0x40400000⟩
abbrev EE_ZD_VALUE : Fld := ⟨0x40080064, 0, 32, 0x0⟩
abbrev EE_BASE_VALUE : Fld := ⟨0x40080068, 0, 32, 0x0⟩
abbrev EE_K0_FRAME : Fld := ⟨0x4008006C, 0, 32, 0⟩
abbrev EE_BIN_H2 (i : Nat) : Fld := ⟨0x40080080 + 0x4 * i, 0, 7, [3, 5, 7, 9, 11, 13, 15, 19, 23, 27, 33, 39, 47, 57, 67, 79].getD i 3⟩
abbrev EE_Z_VALUE (i : Nat) : Fld := ⟨0x400800C0 + 0x8 * i, 0, 32, 0x0⟩
abbrev EE_ZANG_ANG (i : Nat) : Fld := ⟨0x400800C4 + 0x8 * i, 0, 16, 0⟩
abbrev EE_ZANG_GAMMA (i : Nat) : Fld := ⟨0x400800C4 + 0x8 * i, 16, 16, 0⟩

/-- Register rows of R296, part 0. -/
def rows_eclipse_0 : List RegRow := [
  ⟨0x40080000, 1, 0x0, 1, 0x0, fun _ _ => [⟨EE_CTRL_PASSIVE_EN, .rw, .dr⟩, ⟨EE_CTRL_ACTIVE_EN, .rw, .dr⟩, ⟨EE_CTRL_FOLLOW_DEC, .rw, .dr⟩, ⟨EE_CTRL_ZTH_EN, .rw, .dr⟩, ⟨EE_CTRL_ZREL_EN, .rw, .dr⟩]⟩,
  ⟨0x40080004, 1, 0x0, 1, 0x0, fun _ _ => [⟨EE_STATUS_ISLAND, .ro, .dr⟩, ⟨EE_STATUS_PASSIVE, .ro, .dr⟩, ⟨EE_STATUS_INJECTING, .ro, .dr⟩, ⟨EE_STATUS_SUSPENDED, .ro, .dr⟩, ⟨EE_STATUS_BASELINE_OK, .ro, .dr⟩, ⟨EE_STATUS_ESTIMATES, .ro, .dr⟩]⟩,
  ⟨0x40080008, 1, 0x0, 1, 0x0, fun _ _ => [⟨EE_FLAGS_LOWCOH, .w1c, .dr⟩, ⟨EE_FLAGS_SEG_DROP, .w1c, .dr⟩, ⟨EE_FLAGS_GROUP_LOST, .w1c, .dr⟩, ⟨EE_FLAGS_CFG_ERR, .w1c, .dr⟩, ⟨EE_FLAGS_CLEAR_REFUSED, .w1c, .dr⟩]⟩,
  ⟨0x4008000C, 1, 0x0, 1, 0x0, fun _ _ => [⟨EE_CAUSE_CAUSE, .ro, .dr⟩]⟩,
  ⟨0x40080010, 1, 0x0, 1, 0x0, fun _ _ => [⟨EE_CMD_CLEAR, .wo, .dr⟩, ⟨EE_CMD_REBASE, .wo, .dr⟩]⟩,
  ⟨0x40080014, 1, 0x0, 1, 0x0, fun _ _ => [⟨EE_PEN_EN, .rw, .dr⟩]⟩,
  ⟨0x40080018, 1, 0x0, 1, 0x0, fun _ _ => [⟨EE_CMP_MASK_WIN, .rw, .dr⟩]⟩,
  ⟨0x40080020, 1, 0x0, 1, 0x0, fun _ _ => [⟨EE_UV_TH_VALUE, .rw, .dr⟩]⟩,
  ⟨0x40080024, 1, 0x0, 1, 0x0, fun _ _ => [⟨EE_OV_TH_VALUE, .rw, .dr⟩]⟩,
  ⟨0x40080028, 1, 0x0, 1, 0x0, fun _ _ => [⟨EE_UF_TH_VALUE, .rw, .dr⟩]⟩,
  ⟨0x4008002C, 1, 0x0, 1, 0x0, fun _ _ => [⟨EE_OF_TH_VALUE, .rw, .dr⟩]⟩,
  ⟨0x40080030, 1, 0x0, 1, 0x0, fun _ _ => [⟨EE_ROCOF_TH_VALUE, .rw, .dr⟩]⟩]

/-- Register rows of R296, part 1. -/
def rows_eclipse_1 : List RegRow := [
  ⟨0x40080034, 1, 0x0, 1, 0x0, fun _ _ => [⟨EE_VS_TH_THETA, .rw, .dr⟩]⟩,
  ⟨0x40080038, 1, 0x0, 1, 0x0, fun _ _ => [⟨EE_PTIME_UV_T, .rw, .dr⟩, ⟨EE_PTIME_OV_T, .rw, .dr⟩, ⟨EE_PTIME_F_T, .rw, .dr⟩]⟩,
  ⟨0x40080040, 1, 0x0, 1, 0x0, fun _ _ => [⟨EE_INJ_ENG, .rw, .dr⟩, ⟨EE_INJ_INJ, .rw, .dr⟩, ⟨EE_INJ_SP, .rw, .dr⟩, ⟨EE_INJ_N, .rw, .dr⟩, ⟨EE_INJ_FPB, .rw, .dr⟩]⟩,
  ⟨0x40080044, 1, 0x0, 1, 0x0, fun _ _ => [⟨EE_SEED_SEED, .rw, .dr⟩]⟩,
  ⟨0x40080048, 1, 0x0, 1, 0x0, fun _ _ => [⟨EE_AMP_VALUE, .rw, .dr⟩]⟩,
  ⟨0x4008004C, 1, 0x0, 1, 0x0, fun _ _ => [⟨EE_AMP_GAIN_VALUE, .rw, .dr⟩]⟩,
  ⟨0x40080050, 1, 0x0, 1, 0x0, fun _ _ => [⟨EE_SRC_TH, .rw, .dr⟩, ⟨EE_SRC_V, .rw, .dr⟩, ⟨EE_SRC_I, .rw, .dr⟩]⟩,
  ⟨0x40080054, 1, 0x0, 1, 0x0, fun _ _ => [⟨EE_WIN_WSEG, .rw, .dr⟩, ⟨EE_WIN_DCONF, .rw, .dr⟩, ⟨EE_WIN_ZMIN_BINS, .rw, .dr⟩, ⟨EE_WIN_ZMASK, .rw, .dr⟩]⟩,
  ⟨0x40080058, 1, 0x0, 1, 0x0, fun _ _ => [⟨EE_GAMMA_MIN_VALUE, .rw, .dr⟩]⟩,
  ⟨0x4008005C, 1, 0x0, 1, 0x0, fun _ _ => [⟨EE_ZTH_VALUE, .rw, .dr⟩]⟩,
  ⟨0x40080060, 1, 0x0, 1, 0x0, fun _ _ => [⟨EE_ZREL_VALUE, .rw, .dr⟩]⟩,
  ⟨0x40080064, 1, 0x0, 1, 0x0, fun _ _ => [⟨EE_ZD_VALUE, .ro, .dr⟩]⟩]

/-- Register rows of R296, part 2. -/
def rows_eclipse_2 : List RegRow := [
  ⟨0x40080068, 1, 0x0, 1, 0x0, fun _ _ => [⟨EE_BASE_VALUE, .ro, .dr⟩]⟩,
  ⟨0x4008006C, 1, 0x0, 1, 0x0, fun _ _ => [⟨EE_K0_FRAME, .ro, .dr⟩]⟩,
  ⟨0x40080080, 16, 0x4, 1, 0x0, fun i _ => [⟨(EE_BIN_H2 i), .rw, .dr⟩]⟩,
  ⟨0x400800C0, 16, 0x8, 1, 0x0, fun i _ => [⟨(EE_Z_VALUE i), .ro, .dr⟩]⟩,
  ⟨0x400800C4, 16, 0x8, 1, 0x0, fun i _ => [⟨(EE_ZANG_ANG i), .ro, .dr⟩, ⟨(EE_ZANG_GAMMA i), .ro, .dr⟩]⟩]

/-- The register rows of R296. -/
def rows_eclipse : List RegRow := rows_eclipse_0 ++ rows_eclipse_1 ++ rows_eclipse_2

/-! ### R315 -/

abbrev PE_CTRL_CH_EN : Fld := ⟨0x40070000, 0, 6, 0⟩
abbrev PE_CTRL_CURT_EN : Fld := ⟨0x40070000, 6, 1, 0⟩
abbrev PE_CTRL_AVAIL_SP : Fld := ⟨0x40070000, 8, 6, 63⟩
abbrev PE_CTRL_LIM_TAP : Fld := ⟨0x40070000, 16, 4, 15⟩
abbrev PE_STATUS_CURTAILED : Fld := ⟨0x40070004, 0, 1, 0⟩
abbrev PE_STATUS_SWEEP_CH : Fld := ⟨0x40070004, 1, 3, 0⟩
abbrev PE_STATUS_QUEUE : Fld := ⟨0x40070004, 8, 6, 0⟩
abbrev PE_FLAGS_CFG_ERR : Fld := ⟨0x40070008, 0, 1, 0⟩
abbrev PE_FLAGS_PROFILE_ERR : Fld := ⟨0x40070008, 1, 1, 0⟩
abbrev PE_FLAGS_SWEEP_ABORT : Fld := ⟨0x40070008, 2, 1, 0⟩
abbrev PE_FLAGS_CURVE_INVALID : Fld := ⟨0x40070008, 3, 1, 0⟩
abbrev PE_FLAGS_VOC_EST : Fld := ⟨0x40070008, 4, 1, 0⟩
abbrev PE_FLAGS_NOSAMP : Fld := ⟨0x40070008, 5, 1, 0⟩
abbrev PE_FLAGS_OVR : Fld := ⟨0x40070008, 6, 1, 0⟩
abbrev PE_FLAGS_PART_ERR : Fld := ⟨0x40070008, 7, 1, 0⟩
abbrev PE_CMD_SWEEP : Fld := ⟨0x4007000C, 0, 6, 0⟩
abbrev PE_SWEEP_TIME : Fld := ⟨0x40070010, 0, 8, 128⟩
abbrev PE_SWEEP_VOC_T : Fld := ⟨0x40070010, 8, 8, 5⟩
abbrev PE_SWEEP_DROP : Fld := ⟨0x40070010, 16, 8, 64⟩
abbrev PE_SWEEP_HOLDOFF : Fld := ⟨0x40070010, 24, 8, 10⟩
abbrev PE_SWEEP_PER_MIN : Fld := ⟨0x40070014, 0, 16, 0⟩
abbrev PE_CURVE_PART : Fld := ⟨0x40070018, 0, 3, 6⟩
abbrev PE_EFF_VALUE : Fld := ⟨0x4007001C, 0, 32, 0x3f7851ec⟩
abbrev PE_CMARG_VALUE : Fld := ⟨0x40070020, 0, 32, 0x3ca3d70a⟩
abbrev PE_EPS_VALUE : Fld := ⟨0x40070024, 0, 32, 0x3c23d70a⟩
abbrev PE_LIM_VALUE : Fld := ⟨0x40070028, 0, 32, 0x0⟩
abbrev PE_PAVAIL_VALUE : Fld := ⟨0x4007002C, 0, 32, 0x0⟩
abbrev PE_PROF_STATUS_RESULT : Fld := ⟨0x40070030, 0, 4, 0⟩
abbrev PE_PROF_STATUS_PROFILE_ID : Fld := ⟨0x40070030, 16, 16, 0⟩
abbrev PE_CFG_PAIR (i : Nat) : Fld := ⟨0x40070100 + 0x40 * i, 0, 5, 0⟩
abbrev PE_CFG_VTAP (i : Nat) : Fld := ⟨0x40070100 + 0x40 * i, 8, 4, 0⟩
abbrev PE_CFG_ITAP (i : Nat) : Fld := ⟨0x40070100 + 0x40 * i, 12, 4, 0⟩
abbrev PE_CFG_SP (i : Nat) : Fld := ⟨0x40070100 + 0x40 * i, 16, 6, 48⟩
abbrev PE_VSCALE_VALUE (i : Nat) : Fld := ⟨0x40070104 + 0x40 * i, 0, 32, 0x0⟩
abbrev PE_VOFF_VALUE (i : Nat) : Fld := ⟨0x40070108 + 0x40 * i, 0, 32, 0x0⟩
abbrev PE_ISCALE_VALUE (i : Nat) : Fld := ⟨0x4007010C + 0x40 * i, 0, 32, 0x0⟩
abbrev PE_IOFF_VALUE (i : Nat) : Fld := ⟨0x40070110 + 0x40 * i, 0, 32, 0x0⟩
abbrev PE_VMIN_VALUE (i : Nat) : Fld := ⟨0x40070114 + 0x40 * i, 0, 32, 0x0⟩
abbrev PE_VMAX_VALUE (i : Nat) : Fld := ⟨0x40070118 + 0x40 * i, 0, 32, 0x0⟩
abbrev PE_STEP_STEP_MIN (i : Nat) : Fld := ⟨0x4007011C + 0x40 * i, 0, 16, 20⟩
abbrev PE_STEP_STEP_MAX (i : Nat) : Fld := ⟨0x4007011C + 0x40 * i, 16, 16, 500⟩
abbrev PE_KAD_VALUE (i : Nat) : Fld := ⟨0x40070120 + 0x40 * i, 0, 32, 0x3f000000⟩
abbrev PE_KCU_VALUE (i : Nat) : Fld := ⟨0x40070124 + 0x40 * i, 0, 32, 0x3b03126f⟩
abbrev PE_IOC_VALUE (i : Nat) : Fld := ⟨0x40070128 + 0x40 * i, 0, 32, 0x3dcccccd⟩
abbrev PE_STATE_STATE (i : Nat) : Fld := ⟨0x4007012C + 0x40 * i, 0, 3, 0⟩
abbrev PE_STATE_EMPTY (i : Nat) : Fld := ⟨0x4007012C + 0x40 * i, 8, 8, 0⟩
abbrev PE_VREF_VALUE (i : Nat) : Fld := ⟨0x40070130 + 0x40 * i, 0, 32, 0x0⟩
abbrev PE_PS_VALUE (i : Nat) : Fld := ⟨0x40070134 + 0x40 * i, 0, 32, 0x0⟩
abbrev PE_PMPP_VALUE (i : Nat) : Fld := ⟨0x40070138 + 0x40 * i, 0, 32, 0x0⟩
abbrev PE_VMPP_VALUE (i : Nat) : Fld := ⟨0x4007013C + 0x40 * i, 0, 32, 0x0⟩
abbrev PE_FF_VALUE (i : Nat) : Fld := ⟨0x40070400 + 0x8 * i, 0, 32, 0x0⟩
abbrev PE_RS_VALUE (i : Nat) : Fld := ⟨0x40070404 + 0x8 * i, 0, 32, 0x0⟩

/-- Register rows of R315, part 0. -/
def rows_perihelion_0 : List RegRow := [
  ⟨0x40070000, 1, 0x0, 1, 0x0, fun _ _ => [⟨PE_CTRL_CH_EN, .rw, .dr⟩, ⟨PE_CTRL_CURT_EN, .rw, .dr⟩, ⟨PE_CTRL_AVAIL_SP, .rw, .dr⟩, ⟨PE_CTRL_LIM_TAP, .rw, .dr⟩]⟩,
  ⟨0x40070004, 1, 0x0, 1, 0x0, fun _ _ => [⟨PE_STATUS_CURTAILED, .ro, .dr⟩, ⟨PE_STATUS_SWEEP_CH, .ro, .dr⟩, ⟨PE_STATUS_QUEUE, .ro, .dr⟩]⟩,
  ⟨0x40070008, 1, 0x0, 1, 0x0, fun _ _ => [⟨PE_FLAGS_CFG_ERR, .w1c, .dr⟩, ⟨PE_FLAGS_PROFILE_ERR, .w1c, .dr⟩, ⟨PE_FLAGS_SWEEP_ABORT, .w1c, .dr⟩, ⟨PE_FLAGS_CURVE_INVALID, .w1c, .dr⟩, ⟨PE_FLAGS_VOC_EST, .w1c, .dr⟩, ⟨PE_FLAGS_NOSAMP, .w1c, .dr⟩, ⟨PE_FLAGS_OVR, .w1c, .dr⟩, ⟨PE_FLAGS_PART_ERR, .w1c, .dr⟩]⟩,
  ⟨0x4007000C, 1, 0x0, 1, 0x0, fun _ _ => [⟨PE_CMD_SWEEP, .wo, .dr⟩]⟩,
  ⟨0x40070010, 1, 0x0, 1, 0x0, fun _ _ => [⟨PE_SWEEP_TIME, .rw, .dr⟩, ⟨PE_SWEEP_VOC_T, .rw, .dr⟩, ⟨PE_SWEEP_DROP, .rw, .dr⟩, ⟨PE_SWEEP_HOLDOFF, .rw, .dr⟩]⟩,
  ⟨0x40070014, 1, 0x0, 1, 0x0, fun _ _ => [⟨PE_SWEEP_PER_MIN, .rw, .dr⟩]⟩,
  ⟨0x40070018, 1, 0x0, 1, 0x0, fun _ _ => [⟨PE_CURVE_PART, .rw, .dr⟩]⟩,
  ⟨0x4007001C, 1, 0x0, 1, 0x0, fun _ _ => [⟨PE_EFF_VALUE, .rw, .dr⟩]⟩,
  ⟨0x40070020, 1, 0x0, 1, 0x0, fun _ _ => [⟨PE_CMARG_VALUE, .rw, .dr⟩]⟩,
  ⟨0x40070024, 1, 0x0, 1, 0x0, fun _ _ => [⟨PE_EPS_VALUE, .rw, .dr⟩]⟩,
  ⟨0x40070028, 1, 0x0, 1, 0x0, fun _ _ => [⟨PE_LIM_VALUE, .ro, .dr⟩]⟩,
  ⟨0x4007002C, 1, 0x0, 1, 0x0, fun _ _ => [⟨PE_PAVAIL_VALUE, .ro, .dr⟩]⟩]

/-- Register rows of R315, part 1. -/
def rows_perihelion_1 : List RegRow := [
  ⟨0x40070030, 1, 0x0, 1, 0x0, fun _ _ => [⟨PE_PROF_STATUS_RESULT, .ro, .dr⟩, ⟨PE_PROF_STATUS_PROFILE_ID, .ro, .dr⟩]⟩,
  ⟨0x40070100, 6, 0x40, 1, 0x0, fun i _ => [⟨(PE_CFG_PAIR i), .rw, .dr⟩, ⟨(PE_CFG_VTAP i), .rw, .dr⟩, ⟨(PE_CFG_ITAP i), .rw, .dr⟩, ⟨(PE_CFG_SP i), .rw, .dr⟩]⟩,
  ⟨0x40070104, 6, 0x40, 1, 0x0, fun i _ => [⟨(PE_VSCALE_VALUE i), .rw, .dr⟩]⟩,
  ⟨0x40070108, 6, 0x40, 1, 0x0, fun i _ => [⟨(PE_VOFF_VALUE i), .rw, .dr⟩]⟩,
  ⟨0x4007010C, 6, 0x40, 1, 0x0, fun i _ => [⟨(PE_ISCALE_VALUE i), .rw, .dr⟩]⟩,
  ⟨0x40070110, 6, 0x40, 1, 0x0, fun i _ => [⟨(PE_IOFF_VALUE i), .rw, .dr⟩]⟩,
  ⟨0x40070114, 6, 0x40, 1, 0x0, fun i _ => [⟨(PE_VMIN_VALUE i), .rw, .dr⟩]⟩,
  ⟨0x40070118, 6, 0x40, 1, 0x0, fun i _ => [⟨(PE_VMAX_VALUE i), .rw, .dr⟩]⟩,
  ⟨0x4007011C, 6, 0x40, 1, 0x0, fun i _ => [⟨(PE_STEP_STEP_MIN i), .rw, .dr⟩, ⟨(PE_STEP_STEP_MAX i), .rw, .dr⟩]⟩,
  ⟨0x40070120, 6, 0x40, 1, 0x0, fun i _ => [⟨(PE_KAD_VALUE i), .rw, .dr⟩]⟩,
  ⟨0x40070124, 6, 0x40, 1, 0x0, fun i _ => [⟨(PE_KCU_VALUE i), .rw, .dr⟩]⟩,
  ⟨0x40070128, 6, 0x40, 1, 0x0, fun i _ => [⟨(PE_IOC_VALUE i), .rw, .dr⟩]⟩]

/-- Register rows of R315, part 2. -/
def rows_perihelion_2 : List RegRow := [
  ⟨0x4007012C, 6, 0x40, 1, 0x0, fun i _ => [⟨(PE_STATE_STATE i), .ro, .dr⟩, ⟨(PE_STATE_EMPTY i), .ro, .dr⟩]⟩,
  ⟨0x40070130, 6, 0x40, 1, 0x0, fun i _ => [⟨(PE_VREF_VALUE i), .ro, .dr⟩]⟩,
  ⟨0x40070134, 6, 0x40, 1, 0x0, fun i _ => [⟨(PE_PS_VALUE i), .ro, .dr⟩]⟩,
  ⟨0x40070138, 6, 0x40, 1, 0x0, fun i _ => [⟨(PE_PMPP_VALUE i), .ro, .dr⟩]⟩,
  ⟨0x4007013C, 6, 0x40, 1, 0x0, fun i _ => [⟨(PE_VMPP_VALUE i), .ro, .dr⟩]⟩,
  ⟨0x40070400, 6, 0x8, 1, 0x0, fun i _ => [⟨(PE_FF_VALUE i), .ro, .dr⟩]⟩,
  ⟨0x40070404, 6, 0x8, 1, 0x0, fun i _ => [⟨(PE_RS_VALUE i), .ro, .dr⟩]⟩]

/-- The register rows of R315. -/
def rows_perihelion : List RegRow := rows_perihelion_0 ++ rows_perihelion_1 ++ rows_perihelion_2

end Sys2Proof.Machine.Reg
end

