-- ==== Sys2Proof/Machine/RegsC.lean ====
section
/-! DEFINITION. Machine/RegsC.lean: the register maps of R339, R373, R397, R448, R458, R477, R496, one definition per field, named as the manual names it
(register, underscore, field), with its address, lowest bit, width and reset value; then one row per register with the
access type and the reset domain of each field (R9, R10). -/

namespace Sys2Proof.Machine.Reg

/-! ### R339 -/

abbrev ME_CTRL_EN : Fld := ⟨0x40060000, 0, 1, 0⟩
abbrev ME_CTRL_CAL_LOCK : Fld := ⟨0x40060000, 1, 1, 0⟩
abbrev ME_CTRL_IVAL_EN : Fld := ⟨0x40060000, 2, 1, 0⟩
abbrev ME_CTRL_CKPT_EN : Fld := ⟨0x40060000, 3, 1, 1⟩
abbrev ME_CTRL_SIGNED : Fld := ⟨0x40060000, 8, 8, 0⟩
abbrev ME_CTRL_IVAL_MIN : Fld := ⟨0x40060000, 16, 6, 15⟩
abbrev ME_STATUS_STATE : Fld := ⟨0x40060004, 0, 2, 0⟩
abbrev ME_STATUS_TIME_UNKNOWN : Fld := ⟨0x40060004, 2, 1, 0⟩
abbrev ME_STATUS_SNAP_READY : Fld := ⟨0x40060004, 3, 1, 0⟩
abbrev ME_STATUS_CKPT_READY : Fld := ⟨0x40060004, 4, 1, 0⟩
abbrev ME_STATUS_RESTORED : Fld := ⟨0x40060004, 5, 1, 0⟩
abbrev ME_FLAGS_OVR : Fld := ⟨0x40060008, 0, 7, 0⟩
abbrev ME_FLAGS_GAP : Fld := ⟨0x40060008, 7, 1, 0⟩
abbrev ME_FLAGS_CAL_ERR : Fld := ⟨0x40060008, 8, 1, 0⟩
abbrev ME_FLAGS_CFG_ERR : Fld := ⟨0x40060008, 9, 1, 0⟩
abbrev ME_FLAGS_SNAP_OVW : Fld := ⟨0x40060008, 10, 1, 0⟩
abbrev ME_FLAGS_CKPT_MISS : Fld := ⟨0x40060008, 11, 1, 0⟩
abbrev ME_FLAGS_UNLOCKED : Fld := ⟨0x40060008, 12, 1, 0⟩
abbrev ME_FLAGS_NRES : Fld := ⟨0x40060008, 13, 1, 0⟩
abbrev ME_FLAGS_RESTORE_ERR : Fld := ⟨0x40060008, 14, 1, 0⟩
abbrev ME_FLAGS_CAL_CHANGED : Fld := ⟨0x40060008, 15, 1, 0⟩
abbrev ME_CMD_SNAP : Fld := ⟨0x4006000C, 0, 1, 0⟩
abbrev ME_CMD_CKPT : Fld := ⟨0x4006000C, 1, 1, 0⟩
abbrev ME_CMD_CKPT_ACK : Fld := ⟨0x4006000C, 2, 1, 0⟩
abbrev ME_CMD_IVAL_CLOSE : Fld := ⟨0x4006000C, 3, 1, 0⟩
abbrev ME_CMD_RESTORE : Fld := ⟨0x4006000C, 4, 1, 0⟩
abbrev ME_CMD_CLR_COUNTS : Fld := ⟨0x4006000C, 5, 1, 0⟩
abbrev ME_CMD_SNAP_ACK : Fld := ⟨0x4006000C, 6, 1, 0⟩
abbrev ME_GCOUNT_COUNT : Fld := ⟨0x40060010, 0, 32, 0⟩
abbrev ME_SUBST_COUNT_COUNT : Fld := ⟨0x40060014, 0, 32, 0⟩
abbrev ME_NOLOAD_COUNT_COUNT : Fld := ⟨0x40060018, 0, 32, 0⟩
abbrev ME_LOST_COUNT_COUNT : Fld := ⟨0x4006001C, 0, 16, 0⟩
abbrev ME_GRANULE_SETS : Fld := ⟨0x40060020, 0, 16, 0⟩
abbrev ME_GRANULE_SUBST : Fld := ⟨0x40060020, 16, 1, 0⟩
abbrev ME_FREQ_VALUE : Fld := ⟨0x40060024, 0, 32, 0x0⟩
abbrev ME_CAL_CRC_CRC : Fld := ⟨0x40060028, 0, 32, 0⟩
abbrev ME_GAIN_VALUE (i : Nat) : Fld := ⟨0x40060040 + 0x10 * i, 0, 32, 0x0⟩
abbrev ME_OFF_CODE (i : Nat) : Fld := ⟨0x40060044 + 0x10 * i, 0, 24, 0⟩
abbrev ME_PH_PH (i : Nat) : Fld := ⟨0x40060048 + 0x10 * i, 0, 16, 0⟩
abbrev ME_NLTH_P_VALUE (i : Nat) : Fld := ⟨0x400600C0 + 0x10 * i, 0, 32, 0x0⟩
abbrev ME_NLTH_Q_VALUE (i : Nat) : Fld := ⟨0x400600C4 + 0x10 * i, 0, 32, 0x0⟩
abbrev ME_NLTH_S_VALUE (i : Nat) : Fld := ⟨0x400600C8 + 0x10 * i, 0, 32, 0x0⟩
abbrev ME_NRES_TH_VALUE : Fld := ⟨0x40060100, 0, 32, 0x4e6e6b28⟩
abbrev ME_INST_VALUE (i j : Nat) : Fld := ⟨0x40060200 + 0x40 * i + 0x4 * j, 0, 32, 0x0⟩
abbrev ME_IN_RMS_VALUE : Fld := ⟨0x40060300, 0, 32, 0x0⟩
abbrev ME_NRES_RMS_VALUE : Fld := ⟨0x40060304, 0, 32, 0x0⟩
abbrev ME_RAWRMS_VALUE (i : Nat) : Fld := ⟨0x40060310 + 0x4 * i, 0, 32, 0x0⟩
abbrev ME_RAWMEAN_VALUE (i : Nat) : Fld := ⟨0x40060330 + 0x4 * i, 0, 32, 0x0⟩
abbrev ME_ACC_LO_WORD (i j : Nat) : Fld := ⟨0x40061000 + 0x40 * i + 0x8 * j, 0, 32, 0⟩
abbrev ME_ACC_HI_WORD (i j : Nat) : Fld := ⟨0x40061004 + 0x40 * i + 0x8 * j, 0, 32, 0⟩
abbrev ME_WRAP_WRAP0 (i : Nat) : Fld := ⟨0x40061200 + 0x4 * i, 0, 8, 0⟩
abbrev ME_WRAP_WRAP1 (i : Nat) : Fld := ⟨0x40061200 + 0x4 * i, 8, 8, 0⟩
abbrev ME_WRAP_WRAP2 (i : Nat) : Fld := ⟨0x40061200 + 0x4 * i, 16, 8, 0⟩
abbrev ME_WRAP_WRAP3 (i : Nat) : Fld := ⟨0x40061200 + 0x4 * i, 24, 8, 0⟩
abbrev ME_IVAL_START_SEC : Fld := ⟨0x40061400, 0, 32, 0⟩
abbrev ME_IVAL_END_SEC : Fld := ⟨0x40061404, 0, 32, 0⟩
abbrev ME_IVAL_STAT_GRANULES : Fld := ⟨0x40061408, 0, 24, 0⟩
abbrev ME_IVAL_STAT_TIME_UNKNOWN : Fld := ⟨0x40061408, 24, 1, 0⟩
abbrev ME_IVAL_STAT_FORCED : Fld := ⟨0x40061408, 25, 1, 0⟩
abbrev ME_IVAL_STAT_INCOMPLETE : Fld := ⟨0x40061408, 26, 1, 0⟩
abbrev ME_IVAL_STAT_PARTIAL : Fld := ⟨0x40061408, 27, 1, 0⟩
abbrev ME_IVAL_SEQ_COUNT : Fld := ⟨0x4006140C, 0, 32, 0⟩
abbrev ME_IVAL_ACC_MIRROR (i j : Nat) : Fld := ⟨0x40061500 + 0x20 * i + 0x4 * j, 0, 32, 0⟩
abbrev ME_RUN_ACC_MIRROR (i j : Nat) : Fld := ⟨0x40061600 + 0x20 * i + 0x4 * j, 0, 32, 0⟩
abbrev ME_SNAP_WORD (i : Nat) : Fld := ⟨0x40062000 + 0x4 * i, 0, 32, 0⟩
abbrev ME_SNAP_GCOUNT_COUNT : Fld := ⟨0x40062800, 0, 32, 0⟩
abbrev ME_SNAP_SEC_SEC : Fld := ⟨0x40062804, 0, 32, 0⟩
abbrev ME_SNAP_INST_WORD (i : Nat) : Fld := ⟨0x40062900 + 0x4 * i, 0, 32, 0⟩
abbrev ME_CKPT_WORD (i : Nat) : Fld := ⟨0x40063000 + 0x4 * i, 0, 32, 0⟩
abbrev ME_RESTORE_WORD (i : Nat) : Fld := ⟨0x40063400 + 0x4 * i, 0, 32, 0⟩

/-- Register rows of R339, part 0. -/
def rows_metering_0 : List RegRow := [
  ⟨0x40060000, 1, 0x0, 1, 0x0, fun _ _ => [⟨ME_CTRL_EN, .rw, .dr⟩, ⟨ME_CTRL_CAL_LOCK, .rw1, .dr⟩, ⟨ME_CTRL_IVAL_EN, .rw, .dr⟩, ⟨ME_CTRL_CKPT_EN, .rw, .dr⟩, ⟨ME_CTRL_SIGNED, .rw, .dr⟩, ⟨ME_CTRL_IVAL_MIN, .rw, .dr⟩]⟩,
  ⟨0x40060004, 1, 0x0, 1, 0x0, fun _ _ => [⟨ME_STATUS_STATE, .ro, .dr⟩, ⟨ME_STATUS_TIME_UNKNOWN, .ro, .dr⟩, ⟨ME_STATUS_SNAP_READY, .ro, .dr⟩, ⟨ME_STATUS_CKPT_READY, .ro, .dr⟩, ⟨ME_STATUS_RESTORED, .ro, .dr⟩]⟩,
  ⟨0x40060008, 1, 0x0, 1, 0x0, fun _ _ => [⟨ME_FLAGS_OVR, .w1c, .dr⟩, ⟨ME_FLAGS_GAP, .w1c, .dr⟩, ⟨ME_FLAGS_CAL_ERR, .w1c, .dr⟩, ⟨ME_FLAGS_CFG_ERR, .w1c, .dr⟩, ⟨ME_FLAGS_SNAP_OVW, .w1c, .dr⟩, ⟨ME_FLAGS_CKPT_MISS, .w1c, .dr⟩, ⟨ME_FLAGS_UNLOCKED, .w1c, .dr⟩, ⟨ME_FLAGS_NRES, .w1c, .dr⟩, ⟨ME_FLAGS_RESTORE_ERR, .w1c, .dr⟩, ⟨ME_FLAGS_CAL_CHANGED, .w1c, .dr⟩]⟩,
  ⟨0x4006000C, 1, 0x0, 1, 0x0, fun _ _ => [⟨ME_CMD_SNAP, .wo, .dr⟩, ⟨ME_CMD_CKPT, .wo, .dr⟩, ⟨ME_CMD_CKPT_ACK, .wo, .dr⟩, ⟨ME_CMD_IVAL_CLOSE, .wo, .dr⟩, ⟨ME_CMD_RESTORE, .wo, .dr⟩, ⟨ME_CMD_CLR_COUNTS, .wo, .dr⟩, ⟨ME_CMD_SNAP_ACK, .wo, .dr⟩]⟩,
  ⟨0x40060010, 1, 0x0, 1, 0x0, fun _ _ => [⟨ME_GCOUNT_COUNT, .ro, .dr⟩]⟩,
  ⟨0x40060014, 1, 0x0, 1, 0x0, fun _ _ => [⟨ME_SUBST_COUNT_COUNT, .ro, .dr⟩]⟩,
  ⟨0x40060018, 1, 0x0, 1, 0x0, fun _ _ => [⟨ME_NOLOAD_COUNT_COUNT, .ro, .dr⟩]⟩,
  ⟨0x4006001C, 1, 0x0, 1, 0x0, fun _ _ => [⟨ME_LOST_COUNT_COUNT, .ro, .dr⟩]⟩,
  ⟨0x40060020, 1, 0x0, 1, 0x0, fun _ _ => [⟨ME_GRANULE_SETS, .ro, .dr⟩, ⟨ME_GRANULE_SUBST, .ro, .dr⟩]⟩,
  ⟨0x40060024, 1, 0x0, 1, 0x0, fun _ _ => [⟨ME_FREQ_VALUE, .ro, .dr⟩]⟩,
  ⟨0x40060028, 1, 0x0, 1, 0x0, fun _ _ => [⟨ME_CAL_CRC_CRC, .ro, .dr⟩]⟩,
  ⟨0x40060040, 7, 0x10, 1, 0x0, fun i _ => [⟨(ME_GAIN_VALUE i), .rw, .dr⟩]⟩]

/-- Register rows of R339, part 1. -/
def rows_metering_1 : List RegRow := [
  ⟨0x40060044, 7, 0x10, 1, 0x0, fun i _ => [⟨(ME_OFF_CODE i), .rw, .dr⟩]⟩,
  ⟨0x40060078, 4, 0x10, 1, 0x0, fun i _ => [⟨(ME_PH_PH (i + 3)), .rw, .dr⟩]⟩,
  ⟨0x400600C0, 4, 0x10, 1, 0x0, fun i _ => [⟨(ME_NLTH_P_VALUE i), .rw, .dr⟩]⟩,
  ⟨0x400600C4, 4, 0x10, 1, 0x0, fun i _ => [⟨(ME_NLTH_Q_VALUE i), .rw, .dr⟩]⟩,
  ⟨0x400600C8, 4, 0x10, 1, 0x0, fun i _ => [⟨(ME_NLTH_S_VALUE i), .rw, .dr⟩]⟩,
  ⟨0x40060100, 1, 0x0, 1, 0x0, fun _ _ => [⟨ME_NRES_TH_VALUE, .rw, .dr⟩]⟩,
  ⟨0x40060200, 4, 0x40, 9, 0x4, fun i j => [⟨(ME_INST_VALUE i j), .ro, .dr⟩]⟩,
  ⟨0x40060300, 1, 0x0, 1, 0x0, fun _ _ => [⟨ME_IN_RMS_VALUE, .ro, .dr⟩]⟩,
  ⟨0x40060304, 1, 0x0, 1, 0x0, fun _ _ => [⟨ME_NRES_RMS_VALUE, .ro, .dr⟩]⟩,
  ⟨0x40060310, 7, 0x4, 1, 0x0, fun i _ => [⟨(ME_RAWRMS_VALUE i), .ro, .dr⟩]⟩,
  ⟨0x40060330, 7, 0x4, 1, 0x0, fun i _ => [⟨(ME_RAWMEAN_VALUE i), .ro, .dr⟩]⟩,
  ⟨0x40061000, 8, 0x40, 8, 0x8, fun i j => [⟨(ME_ACC_LO_WORD i j), .ro, .dr⟩]⟩]

/-- Register rows of R339, part 2. -/
def rows_metering_2 : List RegRow := [
  ⟨0x40061004, 8, 0x40, 8, 0x8, fun i j => [⟨(ME_ACC_HI_WORD i j), .ro, .dr⟩]⟩,
  ⟨0x40061200, 16, 0x4, 1, 0x0, fun i _ => [⟨(ME_WRAP_WRAP0 i), .ro, .dr⟩, ⟨(ME_WRAP_WRAP1 i), .ro, .dr⟩, ⟨(ME_WRAP_WRAP2 i), .ro, .dr⟩, ⟨(ME_WRAP_WRAP3 i), .ro, .dr⟩]⟩,
  ⟨0x40061400, 1, 0x0, 1, 0x0, fun _ _ => [⟨ME_IVAL_START_SEC, .ro, .dr⟩]⟩,
  ⟨0x40061404, 1, 0x0, 1, 0x0, fun _ _ => [⟨ME_IVAL_END_SEC, .ro, .dr⟩]⟩,
  ⟨0x40061408, 1, 0x0, 1, 0x0, fun _ _ => [⟨ME_IVAL_STAT_GRANULES, .ro, .dr⟩, ⟨ME_IVAL_STAT_TIME_UNKNOWN, .ro, .dr⟩, ⟨ME_IVAL_STAT_FORCED, .ro, .dr⟩, ⟨ME_IVAL_STAT_INCOMPLETE, .ro, .dr⟩, ⟨ME_IVAL_STAT_PARTIAL, .ro, .dr⟩]⟩,
  ⟨0x4006140C, 1, 0x0, 1, 0x0, fun _ _ => [⟨ME_IVAL_SEQ_COUNT, .ro, .dr⟩]⟩,
  ⟨0x40061500, 8, 0x20, 8, 0x4, fun i j => [⟨(ME_IVAL_ACC_MIRROR i j), .ro, .dr⟩]⟩,
  ⟨0x40061600, 8, 0x20, 8, 0x4, fun i j => [⟨(ME_RUN_ACC_MIRROR i j), .ro, .dr⟩]⟩,
  ⟨0x40062000, 448, 0x4, 1, 0x0, fun i _ => [⟨(ME_SNAP_WORD i), .ro, .dr⟩]⟩,
  ⟨0x40062800, 1, 0x0, 1, 0x0, fun _ _ => [⟨ME_SNAP_GCOUNT_COUNT, .ro, .dr⟩]⟩,
  ⟨0x40062804, 1, 0x0, 1, 0x0, fun _ _ => [⟨ME_SNAP_SEC_SEC, .ro, .dr⟩]⟩,
  ⟨0x40062900, 84, 0x4, 1, 0x0, fun i _ => [⟨(ME_SNAP_INST_WORD i), .ro, .dr⟩]⟩]

/-- Register rows of R339, part 3. -/
def rows_metering_3 : List RegRow := [
  ⟨0x40063000, 256, 0x4, 1, 0x0, fun i _ => [⟨(ME_CKPT_WORD i), .ro, .dr⟩]⟩,
  ⟨0x40063400, 256, 0x4, 1, 0x0, fun i _ => [⟨(ME_RESTORE_WORD i), .rw, .dr⟩]⟩]

/-- The register rows of R339. -/
def rows_metering : List RegRow := rows_metering_0 ++ rows_metering_1 ++ rows_metering_2 ++ rows_metering_3

/-! ### R373 -/

abbrev COMET_CTRL_LANE_EN : Fld := ⟨0x40090000, 0, 4, 0⟩
abbrev COMET_VERSION_MAX : Fld := ⟨0x40090004, 0, 8, 32⟩
abbrev COMET_VERSION_MIN : Fld := ⟨0x40090004, 8, 8, 16⟩
abbrev COMET_FLAGS_CFG_ERR : Fld := ⟨0x40090008, 0, 1, 0⟩
abbrev COMET_FLAGS_VERSION_ERR : Fld := ⟨0x40090008, 1, 1, 0⟩
abbrev COMET_FLAGS_PEER_VERSION : Fld := ⟨0x40090008, 2, 1, 0⟩
abbrev COMET_FLAGS_REVERT : Fld := ⟨0x40090008, 3, 1, 0⟩
abbrev COMET_FLAGS_PATTERN_ERR : Fld := ⟨0x40090008, 4, 1, 0⟩
abbrev COMET_FLAGS_RX_CRC : Fld := ⟨0x40090008, 5, 1, 0⟩
abbrev COMET_FLAGS_TX_LATE : Fld := ⟨0x40090008, 6, 1, 0⟩
abbrev COMET_FLAGS_MARKER_BAD : Fld := ⟨0x40090008, 7, 1, 0⟩
abbrev COMET_CMD_RETRAIN : Fld := ⟨0x4009000C, 0, 4, 0⟩
abbrev COMET_CMD_REMEASURE : Fld := ⟨0x4009000C, 4, 4, 0⟩
abbrev COMET_CMD_CLR_STATS : Fld := ⟨0x4009000C, 8, 1, 0⟩
abbrev COMET_MODULE_NUM : Fld := ⟨0x40090010, 0, 3, 0⟩
abbrev LINK_CFG_EN (i : Nat) : Fld := ⟨0x40090100 + 0x40 * i, 0, 1, 0⟩
abbrev LINK_CFG_WIDTH (i : Nat) : Fld := ⟨0x40090100 + 0x40 * i, 1, 2, 0⟩
abbrev LINK_CFG_ROLE (i : Nat) : Fld := ⟨0x40090100 + 0x40 * i, 3, 2, 0⟩
abbrev LINK_CFG_IDLE_EN (i : Nat) : Fld := ⟨0x40090100 + 0x40 * i, 5, 1, 0⟩
abbrev LINK_CFG_REPEAT (i : Nat) : Fld := ⟨0x40090100 + 0x40 * i, 6, 1, 0⟩
abbrev LINK_CFG_MINVER (i : Nat) : Fld := ⟨0x40090100 + 0x40 * i, 8, 8, 16⟩
abbrev LINK_STATUS_STATE (i : Nat) : Fld := ⟨0x40090104 + 0x40 * i, 0, 3, 0⟩
abbrev LINK_STATUS_ACTIVE (i : Nat) : Fld := ⟨0x40090104 + 0x40 * i, 4, 4, 0⟩
abbrev LINK_STATUS_VERSION (i : Nat) : Fld := ⟨0x40090104 + 0x40 * i, 8, 8, 0⟩
abbrev LINK_STATUS_SHED (i : Nat) : Fld := ⟨0x40090104 + 0x40 * i, 16, 8, 0⟩
abbrev LINK_STATUS_DEGRADED (i : Nat) : Fld := ⟨0x40090104 + 0x40 * i, 24, 1, 0⟩
abbrev LINK_STATUS_SAFE1 (i : Nat) : Fld := ⟨0x40090104 + 0x40 * i, 25, 1, 0⟩
abbrev LINK_CAP_BYTES (i : Nat) : Fld := ⟨0x40090108 + 0x40 * i, 0, 20, 0⟩
abbrev LINK_DEMAND_CLS_LO (i j : Nat) : Fld := ⟨0x4009010C + 0x40 * i + 0x4 * j, 0, 16, 0⟩
abbrev LINK_DEMAND_CLS_HI (i j : Nat) : Fld := ⟨0x4009010C + 0x40 * i + 0x4 * j, 16, 16, 0⟩
abbrev LINK_PEER_ID (i : Nat) : Fld := ⟨0x4009011C + 0x40 * i, 0, 32, 0⟩
abbrev LINK_AGE_SAMPLE (i : Nat) : Fld := ⟨0x40090120 + 0x40 * i, 0, 8, 255⟩
abbrev LINK_AGE_SHARE (i : Nat) : Fld := ⟨0x40090120 + 0x40 * i, 8, 8, 255⟩
abbrev LINK_AGE_STATUS (i : Nat) : Fld := ⟨0x40090120 + 0x40 * i, 16, 8, 255⟩
abbrev LINK_RX_PKT_COUNT (i : Nat) : Fld := ⟨0x40090124 + 0x40 * i, 0, 32, 0⟩
abbrev LINK_RX_CRC_COUNT (i : Nat) : Fld := ⟨0x40090128 + 0x40 * i, 0, 32, 0⟩
abbrev LINK_TX_PKT_COUNT (i : Nat) : Fld := ⟨0x4009012C + 0x40 * i, 0, 32, 0⟩
abbrev LINK_SHED_PKT_COUNT (i : Nat) : Fld := ⟨0x40090130 + 0x40 * i, 0, 32, 0⟩
abbrev LANE_CFG_EQSEL (i : Nat) : Fld := ⟨0x40090300 + 0x40 * i, 0, 4, 0⟩
abbrev LANE_CFG_DFE_EN (i : Nat) : Fld := ⟨0x40090300 + 0x40 * i, 4, 1, 1⟩
abbrev LANE_CFG_DFE_HOLD (i : Nat) : Fld := ⟨0x40090300 + 0x40 * i, 5, 1, 0⟩
abbrev LANE_CFG_LOOP (i : Nat) : Fld := ⟨0x40090300 + 0x40 * i, 6, 2, 0⟩
abbrev LANE_CFG_PAT (i : Nat) : Fld := ⟨0x40090300 + 0x40 * i, 8, 3, 0⟩
abbrev LANE_CFG_CHK_EN (i : Nat) : Fld := ⟨0x40090300 + 0x40 * i, 11, 1, 0⟩
abbrev LANE_CFG_RX_INV (i : Nat) : Fld := ⟨0x40090300 + 0x40 * i, 12, 1, 0⟩
abbrev LANE_CFG_TX_INV (i : Nat) : Fld := ⟨0x40090300 + 0x40 * i, 13, 1, 0⟩
abbrev LANE_STATUS_STATE (i : Nat) : Fld := ⟨0x40090304 + 0x40 * i, 0, 3, 0⟩
abbrev LANE_STATUS_LOCK (i : Nat) : Fld := ⟨0x40090304 + 0x40 * i, 3, 1, 0⟩
abbrev LANE_STATUS_FROZEN (i : Nat) : Fld := ⟨0x40090304 + 0x40 * i, 4, 1, 0⟩
abbrev LANE_STATUS_REVERTED (i : Nat) : Fld := ⟨0x40090304 + 0x40 * i, 5, 1, 0⟩
abbrev LANE_STATUS_FOM (i : Nat) : Fld := ⟨0x40090304 + 0x40 * i, 8, 8, 0⟩
abbrev LANE_TAPS_T1 (i : Nat) : Fld := ⟨0x40090308 + 0x40 * i, 0, 6, 0⟩
abbrev LANE_TAPS_T2 (i : Nat) : Fld := ⟨0x40090308 + 0x40 * i, 8, 6, 0⟩
abbrev LANE_TAPS_T3 (i : Nat) : Fld := ⟨0x40090308 + 0x40 * i, 16, 6, 0⟩
abbrev LANE_GOOD_T1 (i : Nat) : Fld := ⟨0x4009030C + 0x40 * i, 0, 6, 0⟩
abbrev LANE_GOOD_T2 (i : Nat) : Fld := ⟨0x4009030C + 0x40 * i, 8, 6, 0⟩
abbrev LANE_GOOD_T3 (i : Nat) : Fld := ⟨0x4009030C + 0x40 * i, 16, 6, 0⟩
abbrev LANE_LAT_TD (i : Nat) : Fld := ⟨0x40090310 + 0x40 * i, 0, 24, 0⟩
abbrev LANE_CODE_ERR_COUNT (i : Nat) : Fld := ⟨0x40090314 + 0x40 * i, 0, 16, 0⟩
abbrev LANE_PAT_ERR_COUNT (i : Nat) : Fld := ⟨0x40090318 + 0x40 * i, 0, 32, 0⟩
abbrev LANE_UPAT_LO_BITS (i : Nat) : Fld := ⟨0x4009031C + 0x40 * i, 0, 32, 0⟩
abbrev LANE_UPAT_HI_BITS (i : Nat) : Fld := ⟨0x40090320 + 0x40 * i, 0, 8, 0⟩
abbrev LANE_LOSS_COUNT (i : Nat) : Fld := ⟨0x40090324 + 0x40 * i, 0, 16, 0⟩
abbrev LANE_LOSS_CAUSE (i : Nat) : Fld := ⟨0x40090324 + 0x40 * i, 16, 4, 0⟩
abbrev COMET_EQ_ENTRY (i : Nat) : Fld := ⟨0x40090600 + 0x4 * i, 0, 32, 0⟩
abbrev COMET_SAFE_TX_WORD (i : Nat) : Fld := ⟨0x40090700 + 0x4 * i, 0, 32, 0⟩
abbrev SAFE_TX_CTRL_VALID : Fld := ⟨0x400907A0, 0, 4, 0⟩
abbrev COMET_SAFE_RX_WORD (i : Nat) : Fld := ⟨0x40090800 + 0x4 * i, 0, 32, 0⟩
abbrev SAFE_RX_PTR_WPTR : Fld := ⟨0x40090940, 0, 3, 0⟩
abbrev SAFE_RX_PTR_RPTR : Fld := ⟨0x40090940, 8, 3, 0⟩
abbrev COMET_STATSNAP_WORD (i : Nat) : Fld := ⟨0x40090A00 + 0x4 * i, 0, 32, 0⟩
abbrev COMET_SENDQ_WORD (i : Nat) : Fld := ⟨0x40091000 + 0x4 * i, 0, 32, 0⟩
abbrev LINK_RXS_WORD (i j : Nat) : Fld := ⟨0x40092000 + 0x400 * i + 0x4 * j, 0, 32, 0⟩
abbrev LINK_RXSTAT_WORD (i j : Nat) : Fld := ⟨0x40093000 + 0x40 * i + 0x4 * j, 0, 32, 0⟩

/-- Register rows of R373, part 0. -/
def rows_comet_0 : List RegRow := [
  ⟨0x40090000, 1, 0x0, 1, 0x0, fun _ _ => [⟨COMET_CTRL_LANE_EN, .rw, .cr⟩]⟩,
  ⟨0x40090004, 1, 0x0, 1, 0x0, fun _ _ => [⟨COMET_VERSION_MAX, .ro, .cr⟩, ⟨COMET_VERSION_MIN, .ro, .cr⟩]⟩,
  ⟨0x40090008, 1, 0x0, 1, 0x0, fun _ _ => [⟨COMET_FLAGS_CFG_ERR, .w1c, .cr⟩, ⟨COMET_FLAGS_VERSION_ERR, .w1c, .cr⟩, ⟨COMET_FLAGS_PEER_VERSION, .w1c, .cr⟩, ⟨COMET_FLAGS_REVERT, .w1c, .cr⟩, ⟨COMET_FLAGS_PATTERN_ERR, .w1c, .cr⟩, ⟨COMET_FLAGS_RX_CRC, .w1c, .cr⟩, ⟨COMET_FLAGS_TX_LATE, .w1c, .cr⟩, ⟨COMET_FLAGS_MARKER_BAD, .w1c, .cr⟩]⟩,
  ⟨0x4009000C, 1, 0x0, 1, 0x0, fun _ _ => [⟨COMET_CMD_RETRAIN, .wo, .cr⟩, ⟨COMET_CMD_REMEASURE, .wo, .cr⟩, ⟨COMET_CMD_CLR_STATS, .wo, .dr⟩]⟩,
  ⟨0x40090010, 1, 0x0, 1, 0x0, fun _ _ => [⟨COMET_MODULE_NUM, .rw, .cr⟩]⟩,
  ⟨0x40090100, 4, 0x40, 1, 0x0, fun i _ => [⟨(LINK_CFG_EN i), .rw, .cr⟩, ⟨(LINK_CFG_WIDTH i), .rw, .cr⟩, ⟨(LINK_CFG_ROLE i), .rw, .cr⟩, ⟨(LINK_CFG_IDLE_EN i), .rw, .cr⟩, ⟨(LINK_CFG_REPEAT i), .rw, .cr⟩, ⟨(LINK_CFG_MINVER i), .rw, .cr⟩]⟩,
  ⟨0x40090104, 4, 0x40, 1, 0x0, fun i _ => [⟨(LINK_STATUS_STATE i), .ro, .cr⟩, ⟨(LINK_STATUS_ACTIVE i), .ro, .cr⟩, ⟨(LINK_STATUS_VERSION i), .ro, .cr⟩, ⟨(LINK_STATUS_SHED i), .ro, .cr⟩, ⟨(LINK_STATUS_DEGRADED i), .ro, .cr⟩, ⟨(LINK_STATUS_SAFE1 i), .ro, .cr⟩]⟩,
  ⟨0x40090108, 4, 0x40, 1, 0x0, fun i _ => [⟨(LINK_CAP_BYTES i), .ro, .cr⟩]⟩,
  ⟨0x4009010C, 4, 0x40, 4, 0x4, fun i j => [⟨(LINK_DEMAND_CLS_LO i j), .rw, .cr⟩, ⟨(LINK_DEMAND_CLS_HI i j), .rw, .cr⟩]⟩,
  ⟨0x4009011C, 4, 0x40, 1, 0x0, fun i _ => [⟨(LINK_PEER_ID i), .ro, .cr⟩]⟩,
  ⟨0x40090120, 4, 0x40, 1, 0x0, fun i _ => [⟨(LINK_AGE_SAMPLE i), .ro, .cr⟩, ⟨(LINK_AGE_SHARE i), .ro, .cr⟩, ⟨(LINK_AGE_STATUS i), .ro, .cr⟩]⟩,
  ⟨0x40090124, 4, 0x40, 1, 0x0, fun i _ => [⟨(LINK_RX_PKT_COUNT i), .ro, .dr⟩]⟩]

/-- Register rows of R373, part 1. -/
def rows_comet_1 : List RegRow := [
  ⟨0x40090128, 4, 0x40, 1, 0x0, fun i _ => [⟨(LINK_RX_CRC_COUNT i), .ro, .dr⟩]⟩,
  ⟨0x4009012C, 4, 0x40, 1, 0x0, fun i _ => [⟨(LINK_TX_PKT_COUNT i), .ro, .dr⟩]⟩,
  ⟨0x40090130, 4, 0x40, 1, 0x0, fun i _ => [⟨(LINK_SHED_PKT_COUNT i), .ro, .dr⟩]⟩,
  ⟨0x40090300, 4, 0x40, 1, 0x0, fun i _ => [⟨(LANE_CFG_EQSEL i), .rw, .cr⟩, ⟨(LANE_CFG_DFE_EN i), .rw, .cr⟩, ⟨(LANE_CFG_DFE_HOLD i), .rw, .cr⟩, ⟨(LANE_CFG_LOOP i), .rw, .cr⟩, ⟨(LANE_CFG_PAT i), .rw, .cr⟩, ⟨(LANE_CFG_CHK_EN i), .rw, .cr⟩, ⟨(LANE_CFG_RX_INV i), .rw, .cr⟩, ⟨(LANE_CFG_TX_INV i), .rw, .cr⟩]⟩,
  ⟨0x40090304, 4, 0x40, 1, 0x0, fun i _ => [⟨(LANE_STATUS_STATE i), .ro, .cr⟩, ⟨(LANE_STATUS_LOCK i), .ro, .cr⟩, ⟨(LANE_STATUS_FROZEN i), .ro, .cr⟩, ⟨(LANE_STATUS_REVERTED i), .ro, .cr⟩, ⟨(LANE_STATUS_FOM i), .ro, .cr⟩]⟩,
  ⟨0x40090308, 4, 0x40, 1, 0x0, fun i _ => [⟨(LANE_TAPS_T1 i), .ro, .cr⟩, ⟨(LANE_TAPS_T2 i), .ro, .cr⟩, ⟨(LANE_TAPS_T3 i), .ro, .cr⟩]⟩,
  ⟨0x4009030C, 4, 0x40, 1, 0x0, fun i _ => [⟨(LANE_GOOD_T1 i), .ro, .cr⟩, ⟨(LANE_GOOD_T2 i), .ro, .cr⟩, ⟨(LANE_GOOD_T3 i), .ro, .cr⟩]⟩,
  ⟨0x40090310, 4, 0x40, 1, 0x0, fun i _ => [⟨(LANE_LAT_TD i), .ro, .cr⟩]⟩,
  ⟨0x40090314, 4, 0x40, 1, 0x0, fun i _ => [⟨(LANE_CODE_ERR_COUNT i), .ro, .dr⟩]⟩,
  ⟨0x40090318, 4, 0x40, 1, 0x0, fun i _ => [⟨(LANE_PAT_ERR_COUNT i), .w1c, .cr⟩]⟩,
  ⟨0x4009031C, 4, 0x40, 1, 0x0, fun i _ => [⟨(LANE_UPAT_LO_BITS i), .rw, .cr⟩]⟩,
  ⟨0x40090320, 4, 0x40, 1, 0x0, fun i _ => [⟨(LANE_UPAT_HI_BITS i), .rw, .cr⟩]⟩]

/-- Register rows of R373, part 2. -/
def rows_comet_2 : List RegRow := [
  ⟨0x40090324, 4, 0x40, 1, 0x0, fun i _ => [⟨(LANE_LOSS_COUNT i), .ro, .cr⟩, ⟨(LANE_LOSS_CAUSE i), .ro, .cr⟩]⟩,
  ⟨0x40090600, 16, 0x4, 1, 0x0, fun i _ => [⟨(COMET_EQ_ENTRY i), .rw, .cr⟩]⟩,
  ⟨0x40090700, 40, 0x4, 1, 0x0, fun i _ => [⟨(COMET_SAFE_TX_WORD i), .rw, .cr⟩]⟩,
  ⟨0x400907A0, 1, 0x0, 1, 0x0, fun _ _ => [⟨SAFE_TX_CTRL_VALID, .rw, .cr⟩]⟩,
  ⟨0x40090800, 80, 0x4, 1, 0x0, fun i _ => [⟨(COMET_SAFE_RX_WORD i), .ro, .cr⟩]⟩,
  ⟨0x40090940, 1, 0x0, 1, 0x0, fun _ _ => [⟨SAFE_RX_PTR_WPTR, .ro, .cr⟩, ⟨SAFE_RX_PTR_RPTR, .rw, .cr⟩]⟩,
  ⟨0x40090A00, 16, 0x4, 1, 0x0, fun i _ => [⟨(COMET_STATSNAP_WORD i), .ro, .dr⟩]⟩,
  ⟨0x40091000, 1024, 0x4, 1, 0x0, fun i _ => [⟨(COMET_SENDQ_WORD i), .rw, .cr⟩]⟩,
  ⟨0x40092000, 4, 0x400, 256, 0x4, fun i j => [⟨(LINK_RXS_WORD i j), .ro, .cr⟩]⟩,
  ⟨0x40093000, 4, 0x40, 8, 0x4, fun i j => [⟨(LINK_RXSTAT_WORD i j), .ro, .cr⟩]⟩]

/-- The register rows of R373. -/
def rows_comet : List RegRow := rows_comet_0 ++ rows_comet_1 ++ rows_comet_2

/-! ### R397 -/

abbrev SAFE_STATE_STATE : Fld := ⟨0x400E0000, 0, 3, 0⟩
abbrev SAFE_STATE_CONFIRM_WIN : Fld := ⟨0x400E0000, 3, 1, 0⟩
abbrev SAFE_STATE_NO_FB : Fld := ⟨0x400E0000, 4, 1, 0⟩
abbrev SAFE_STATE_RLY_CMD : Fld := ⟨0x400E0000, 8, 4, 0⟩
abbrev SAFE_STATE_SF : Fld := ⟨0x400E0000, 12, 4, 0⟩
abbrev SAFE_STATE_SPR_ERR : Fld := ⟨0x400E0000, 16, 1, 0⟩
abbrev SAFE_CAUSE_CAUSE : Fld := ⟨0x400E0004, 0, 8, 0⟩
abbrev SAFE_CAUSE_DETAIL : Fld := ⟨0x400E0004, 8, 8, 0⟩
abbrev SPR_CHECK_CRC : Fld := ⟨0x400E0008, 0, 32, 0⟩
abbrev SPR_ID_ID : Fld := ⟨0x400E000C, 0, 16, 0⟩
abbrev SPR_ID_REV : Fld := ⟨0x400E000C, 16, 16, 0⟩
abbrev HSL_CHECK_CRC : Fld := ⟨0x400E0010, 0, 32, 0⟩
abbrev SIN_STATE_RAW : Fld := ⟨0x400E0014, 0, 8, 0⟩
abbrev SIN_STATE_DEMAND : Fld := ⟨0x400E0014, 8, 8, 0⟩
abbrev SIN_STATE_FDEMAND : Fld := ⟨0x400E0014, 16, 4, 0⟩
abbrev SIN_STATE_FFAULT : Fld := ⟨0x400E0014, 20, 4, 0⟩
abbrev TPO_DIAG_FAIL : Fld := ⟨0x400E0018, 0, 8, 0⟩
abbrev TPO_DIAG_SRC_FAULT : Fld := ⟨0x400E0018, 8, 2, 0⟩
abbrev RLY_DIAG_H_ON : Fld := ⟨0x400E001C, 0, 4, 0⟩
abbrev RLY_DIAG_L_ON : Fld := ⟨0x400E001C, 4, 4, 0⟩
abbrev RLY_DIAG_H_FAULT : Fld := ⟨0x400E001C, 8, 4, 0⟩
abbrev RLY_DIAG_L_FAULT : Fld := ⟨0x400E001C, 12, 4, 0⟩
abbrev RLY_DIAG_FB_FAULT : Fld := ⟨0x400E001C, 16, 4, 0⟩
abbrev RECONNECT_SEC : Fld := ⟨0x400E0020, 0, 16, 0⟩
abbrev HSL_WIN_GRID : Fld := ⟨0x400E0024, 0, 6, 63⟩
abbrev HSL_WIN_AW : Fld := ⟨0x400E0024, 6, 2, 0⟩
abbrev HSL_WIN_FREQ : Fld := ⟨0x400E0024, 16, 16, 0⟩
abbrev XMON_BAD : Fld := ⟨0x400E0028, 0, 16, 0⟩
abbrev XMON_DIFF : Fld := ⟨0x400E0028, 16, 16, 0⟩
abbrev PDU_STAT_STATE (i : Nat) : Fld := ⟨0x400E0040 + 0x10 * i, 0, 2, 0⟩
abbrev PDU_STAT_REQ (i : Nat) : Fld := ⟨0x400E0040 + 0x10 * i, 2, 2, 0⟩
abbrev PDU_STAT_LAST_SEQ (i : Nat) : Fld := ⟨0x400E0040 + 0x10 * i, 16, 16, 0⟩
abbrev PDU_ERR_CRC (i : Nat) : Fld := ⟨0x400E0044 + 0x10 * i, 0, 8, 0⟩
abbrev PDU_ERR_VER (i : Nat) : Fld := ⟨0x400E0044 + 0x10 * i, 8, 8, 0⟩
abbrev PDU_ERR_ID (i : Nat) : Fld := ⟨0x400E0044 + 0x10 * i, 16, 8, 0⟩
abbrev PDU_ERR_SEQ (i : Nat) : Fld := ⟨0x400E0044 + 0x10 * i, 24, 8, 0⟩
abbrev PDU_LOST_COUNT (i : Nat) : Fld := ⟨0x400E0048 + 0x10 * i, 0, 32, 0⟩
abbrev PDU_TX_SEQ (i : Nat) : Fld := ⟨0x400E004C + 0x10 * i, 0, 16, 0⟩
abbrev PDU_DATA_WORD (i j : Nat) : Fld := ⟨0x400E0100 + 0x10 * i + 0x4 * j, 0, 32, 0⟩
abbrev PDU_HOSTTX_WORD (i : Nat) : Fld := ⟨0x400E0200 + 0x4 * i, 0, 32, 0⟩

/-- Register rows of R397, part 0. -/
def rows_safety_0 : List RegRow := [
  ⟨0x400E0000, 1, 0x0, 1, 0x0, fun _ _ => [⟨SAFE_STATE_STATE, .ro, .si⟩, ⟨SAFE_STATE_CONFIRM_WIN, .ro, .si⟩, ⟨SAFE_STATE_NO_FB, .ro, .si⟩, ⟨SAFE_STATE_RLY_CMD, .ro, .si⟩, ⟨SAFE_STATE_SF, .ro, .si⟩, ⟨SAFE_STATE_SPR_ERR, .ro, .si⟩]⟩,
  ⟨0x400E0004, 1, 0x0, 1, 0x0, fun _ _ => [⟨SAFE_CAUSE_CAUSE, .ro, .si⟩, ⟨SAFE_CAUSE_DETAIL, .ro, .si⟩]⟩,
  ⟨0x400E0008, 1, 0x0, 1, 0x0, fun _ _ => [⟨SPR_CHECK_CRC, .ro, .si⟩]⟩,
  ⟨0x400E000C, 1, 0x0, 1, 0x0, fun _ _ => [⟨SPR_ID_ID, .ro, .si⟩, ⟨SPR_ID_REV, .ro, .si⟩]⟩,
  ⟨0x400E0010, 1, 0x0, 1, 0x0, fun _ _ => [⟨HSL_CHECK_CRC, .ro, .si⟩]⟩,
  ⟨0x400E0014, 1, 0x0, 1, 0x0, fun _ _ => [⟨SIN_STATE_RAW, .ro, .si⟩, ⟨SIN_STATE_DEMAND, .ro, .si⟩, ⟨SIN_STATE_FDEMAND, .ro, .si⟩, ⟨SIN_STATE_FFAULT, .ro, .si⟩]⟩,
  ⟨0x400E0018, 1, 0x0, 1, 0x0, fun _ _ => [⟨TPO_DIAG_FAIL, .ro, .si⟩, ⟨TPO_DIAG_SRC_FAULT, .ro, .si⟩]⟩,
  ⟨0x400E001C, 1, 0x0, 1, 0x0, fun _ _ => [⟨RLY_DIAG_H_ON, .ro, .si⟩, ⟨RLY_DIAG_L_ON, .ro, .si⟩, ⟨RLY_DIAG_H_FAULT, .ro, .si⟩, ⟨RLY_DIAG_L_FAULT, .ro, .si⟩, ⟨RLY_DIAG_FB_FAULT, .ro, .si⟩]⟩,
  ⟨0x400E0020, 1, 0x0, 1, 0x0, fun _ _ => [⟨RECONNECT_SEC, .ro, .si⟩]⟩,
  ⟨0x400E0024, 1, 0x0, 1, 0x0, fun _ _ => [⟨HSL_WIN_GRID, .ro, .si⟩, ⟨HSL_WIN_AW, .ro, .si⟩, ⟨HSL_WIN_FREQ, .ro, .si⟩]⟩,
  ⟨0x400E0028, 1, 0x0, 1, 0x0, fun _ _ => [⟨XMON_BAD, .ro, .si⟩, ⟨XMON_DIFF, .ro, .si⟩]⟩,
  ⟨0x400E0040, 4, 0x10, 1, 0x0, fun i _ => [⟨(PDU_STAT_STATE i), .ro, .si⟩, ⟨(PDU_STAT_REQ i), .ro, .si⟩, ⟨(PDU_STAT_LAST_SEQ i), .ro, .si⟩]⟩]

/-- Register rows of R397, part 1. -/
def rows_safety_1 : List RegRow := [
  ⟨0x400E0044, 4, 0x10, 1, 0x0, fun i _ => [⟨(PDU_ERR_CRC i), .ro, .si⟩, ⟨(PDU_ERR_VER i), .ro, .si⟩, ⟨(PDU_ERR_ID i), .ro, .si⟩, ⟨(PDU_ERR_SEQ i), .ro, .si⟩]⟩,
  ⟨0x400E0048, 4, 0x10, 1, 0x0, fun i _ => [⟨(PDU_LOST_COUNT i), .ro, .si⟩]⟩,
  ⟨0x400E004C, 4, 0x10, 1, 0x0, fun i _ => [⟨(PDU_TX_SEQ i), .ro, .si⟩]⟩,
  ⟨0x400E0100, 4, 0x10, 4, 0x4, fun i j => [⟨(PDU_DATA_WORD i j), .ro, .si⟩]⟩,
  ⟨0x400E0200, 64, 0x4, 1, 0x0, fun i _ => [⟨(PDU_HOSTTX_WORD i), .ro, .si⟩]⟩]

/-- The register rows of R397. -/
def rows_safety : List RegRow := rows_safety_0 ++ rows_safety_1

/-! ### R448 -/

abbrev SEC_LC_STATE : Fld := ⟨0x400A8000, 0, 3, 0⟩
abbrev SEC_LC_TORN : Fld := ⟨0x400A8000, 8, 1, 0⟩
abbrev SEC_OWNER_VALID : Fld := ⟨0x400A8004, 0, 4, 0⟩
abbrev SEC_OWNER_REVOKED : Fld := ⟨0x400A8004, 4, 4, 0⟩
abbrev SEC_RB_RB0 : Fld := ⟨0x400A8008, 0, 8, 0⟩
abbrev SEC_RB_RB1 : Fld := ⟨0x400A8008, 8, 8, 0⟩
abbrev SEC_RB_RB2 : Fld := ⟨0x400A8008, 16, 8, 0⟩
abbrev SEC_RB_RB3 : Fld := ⟨0x400A8008, 24, 8, 0⟩
abbrev SEC_SLOT_RUNNING : Fld := ⟨0x400A800C, 0, 4, 0⟩
abbrev SEC_SLOT_TRIAL : Fld := ⟨0x400A800C, 4, 4, 0⟩
abbrev SEC_SLOT_LOADED : Fld := ⟨0x400A800C, 8, 4, 0⟩
abbrev SEC_SLOT_FALLBACK : Fld := ⟨0x400A800C, 12, 4, 0⟩
abbrev SEC_SLOT_CODE : Fld := ⟨0x400A800C, 16, 16, 0⟩
abbrev SEC_BOOTCOUNT_COUNT : Fld := ⟨0x400A8010, 0, 32, 0⟩
abbrev SEC_DEBUG_OPEN : Fld := ⟨0x400A8014, 0, 3, 7⟩
abbrev SEC_DEBUG_SINCE_POR : Fld := ⟨0x400A8014, 8, 3, 0⟩
abbrev SEC_SESSION_HOST : Fld := ⟨0x400A8018, 0, 1, 0⟩
abbrev SEC_SESSION_SERVICE : Fld := ⟨0x400A8018, 1, 1, 0⟩
abbrev SEC_SESSION_TUNNEL : Fld := ⟨0x400A8018, 2, 8, 0⟩
abbrev SEC_TRNG_HEALTH_OK : Fld := ⟨0x400A801C, 0, 1, 0⟩
abbrev SEC_TRNG_FAIL : Fld := ⟨0x400A801C, 1, 1, 0⟩
abbrev SEC_FLAGS_IMG_REFUSED : Fld := ⟨0x400A8020, 0, 1, 0⟩
abbrev SEC_FLAGS_TOKEN_REFUSED : Fld := ⟨0x400A8020, 1, 1, 0⟩
abbrev SEC_FLAGS_AUTH_FAIL : Fld := ⟨0x400A8020, 2, 1, 0⟩

/-- Register rows of R448, part 0. -/
def rows_security_0 : List RegRow := [
  ⟨0x400A8000, 1, 0x0, 1, 0x0, fun _ _ => [⟨SEC_LC_STATE, .ro, .mr⟩, ⟨SEC_LC_TORN, .ro, .mr⟩]⟩,
  ⟨0x400A8004, 1, 0x0, 1, 0x0, fun _ _ => [⟨SEC_OWNER_VALID, .ro, .mr⟩, ⟨SEC_OWNER_REVOKED, .ro, .mr⟩]⟩,
  ⟨0x400A8008, 1, 0x0, 1, 0x0, fun _ _ => [⟨SEC_RB_RB0, .ro, .mr⟩, ⟨SEC_RB_RB1, .ro, .mr⟩, ⟨SEC_RB_RB2, .ro, .mr⟩, ⟨SEC_RB_RB3, .ro, .mr⟩]⟩,
  ⟨0x400A800C, 1, 0x0, 1, 0x0, fun _ _ => [⟨SEC_SLOT_RUNNING, .ro, .mr⟩, ⟨SEC_SLOT_TRIAL, .ro, .mr⟩, ⟨SEC_SLOT_LOADED, .ro, .mr⟩, ⟨SEC_SLOT_FALLBACK, .w1c, .mr⟩, ⟨SEC_SLOT_CODE, .ro, .mr⟩]⟩,
  ⟨0x400A8010, 1, 0x0, 1, 0x0, fun _ _ => [⟨SEC_BOOTCOUNT_COUNT, .ro, .mr⟩]⟩,
  ⟨0x400A8014, 1, 0x0, 1, 0x0, fun _ _ => [⟨SEC_DEBUG_OPEN, .ro, .mr⟩, ⟨SEC_DEBUG_SINCE_POR, .ro, .mr⟩]⟩,
  ⟨0x400A8018, 1, 0x0, 1, 0x0, fun _ _ => [⟨SEC_SESSION_HOST, .ro, .mr⟩, ⟨SEC_SESSION_SERVICE, .ro, .mr⟩, ⟨SEC_SESSION_TUNNEL, .ro, .mr⟩]⟩,
  ⟨0x400A801C, 1, 0x0, 1, 0x0, fun _ _ => [⟨SEC_TRNG_HEALTH_OK, .ro, .mr⟩, ⟨SEC_TRNG_FAIL, .w1c, .mr⟩]⟩,
  ⟨0x400A8020, 1, 0x0, 1, 0x0, fun _ _ => [⟨SEC_FLAGS_IMG_REFUSED, .w1c, .mr⟩, ⟨SEC_FLAGS_TOKEN_REFUSED, .w1c, .mr⟩, ⟨SEC_FLAGS_AUTH_FAIL, .w1c, .mr⟩]⟩]

/-- The register rows of R448. -/
def rows_security : List RegRow := rows_security_0

/-! ### R458 -/

abbrev CVU_CTRL_EN (i : Nat) : Fld := ⟨0x400A0000 + 0x40 * i, 0, 1, 0⟩
abbrev CVU_CTRL_PAUSE (i : Nat) : Fld := ⟨0x400A0000 + 0x40 * i, 1, 1, 0⟩
abbrev CVU_CTRL_POLY (i : Nat) : Fld := ⟨0x400A0000 + 0x40 * i, 2, 3, 0⟩
abbrev CVU_CTRL_SRC (i : Nat) : Fld := ⟨0x400A0000 + 0x40 * i, 5, 2, 0⟩
abbrev CVU_CTRL_LINK (i : Nat) : Fld := ⟨0x400A0000 + 0x40 * i, 7, 2, 0⟩
abbrev CVU_CTRL_MODE (i : Nat) : Fld := ⟨0x400A0000 + 0x40 * i, 9, 1, 0⟩
abbrev CVU_CTRL_CHECK (i : Nat) : Fld := ⟨0x400A0000 + 0x40 * i, 10, 1, 0⟩
abbrev CVU_CTRL_RD (i : Nat) : Fld := ⟨0x400A0000 + 0x40 * i, 11, 1, 0⟩
abbrev CVU_CTRL_PAYLOAD (i : Nat) : Fld := ⟨0x400A0000 + 0x40 * i, 12, 1, 0⟩
abbrev CVU_CTRL_EVT_ALL (i : Nat) : Fld := ⟨0x400A0000 + 0x40 * i, 13, 1, 0⟩
abbrev CVU_CTRL_MASTERS (i : Nat) : Fld := ⟨0x400A0000 + 0x40 * i, 16, 8, 0⟩
abbrev CVU_CTRL_CLASS (i : Nat) : Fld := ⟨0x400A0000 + 0x40 * i, 24, 4, 15⟩
abbrev CVU_BASE_BASE (i : Nat) : Fld := ⟨0x400A0004 + 0x40 * i, 2, 30, 0⟩
abbrev CVU_LEN_LEN (i : Nat) : Fld := ⟨0x400A0008 + 0x40 * i, 2, 19, 0⟩
abbrev CVU_ALIVE_EN (i : Nat) : Fld := ⟨0x400A000C + 0x40 * i, 0, 1, 0⟩
abbrev CVU_ALIVE_WIDE (i : Nat) : Fld := ⟨0x400A000C + 0x40 * i, 1, 1, 0⟩
abbrev CVU_ALIVE_LSB (i : Nat) : Fld := ⟨0x400A000C + 0x40 * i, 4, 3, 0⟩
abbrev CVU_ALIVE_OFFSET (i : Nat) : Fld := ⟨0x400A000C + 0x40 * i, 8, 8, 0⟩
abbrev CVU_RUN_VALUE (i : Nat) : Fld := ⟨0x400A0010 + 0x40 * i, 0, 32, 0⟩
abbrev CVU_VALUE_VALUE (i : Nat) : Fld := ⟨0x400A0014 + 0x40 * i, 0, 32, 0⟩
abbrev CVU_RESULT_VALUE (i : Nat) : Fld := ⟨0x400A0018 + 0x40 * i, 0, 32, 0⟩
abbrev CVU_STATUS_IN_MSG (i : Nat) : Fld := ⟨0x400A001C + 0x40 * i, 0, 1, 0⟩
abbrev CVU_STATUS_VALID (i : Nat) : Fld := ⟨0x400A001C + 0x40 * i, 1, 1, 0⟩
abbrev CVU_STATUS_LAST (i : Nat) : Fld := ⟨0x400A001C + 0x40 * i, 8, 8, 0⟩
abbrev CVU_BYTES_COUNT (i : Nat) : Fld := ⟨0x400A0020 + 0x40 * i, 0, 32, 0⟩
abbrev CVU_MSG_COUNT (i : Nat) : Fld := ⟨0x400A0024 + 0x40 * i, 0, 32, 0⟩
abbrev CVU_BAD_COUNT (i : Nat) : Fld := ⟨0x400A0028 + 0x40 * i, 0, 16, 0⟩
abbrev CVU_ALIVE_ERR_REPEAT (i : Nat) : Fld := ⟨0x400A002C + 0x40 * i, 0, 16, 0⟩
abbrev CVU_ALIVE_ERR_MISSING (i : Nat) : Fld := ⟨0x400A002C + 0x40 * i, 16, 16, 0⟩
abbrev CVU_DROP_COUNT (i : Nat) : Fld := ⟨0x400A0030 + 0x40 * i, 0, 16, 0⟩
abbrev CVU_FLAGS_CHECK_FAIL (i : Nat) : Fld := ⟨0x400A0034 + 0x40 * i, 0, 1, 0⟩
abbrev CVU_FLAGS_REPEAT (i : Nat) : Fld := ⟨0x400A0034 + 0x40 * i, 1, 1, 0⟩
abbrev CVU_FLAGS_GAP (i : Nat) : Fld := ⟨0x400A0034 + 0x40 * i, 2, 1, 0⟩
abbrev CVU_FLAGS_DROP (i : Nat) : Fld := ⟨0x400A0034 + 0x40 * i, 3, 1, 0⟩
abbrev CVU_FLAGS_CFG_ERR (i : Nat) : Fld := ⟨0x400A0034 + 0x40 * i, 4, 1, 0⟩
abbrev CVU_FLAGS_SHORT (i : Nat) : Fld := ⟨0x400A0034 + 0x40 * i, 5, 1, 0⟩
abbrev CVU_CMD_START (i : Nat) : Fld := ⟨0x400A0038 + 0x40 * i, 0, 1, 0⟩
abbrev CVU_CMD_END (i : Nat) : Fld := ⟨0x400A0038 + 0x40 * i, 1, 1, 0⟩
abbrev CVU_CMD_CLR (i : Nat) : Fld := ⟨0x400A0038 + 0x40 * i, 2, 1, 0⟩

/-- Register rows of R458, part 0. -/
def rows_checkValue_0 : List RegRow := [
  ⟨0x400A0000, 6, 0x40, 1, 0x0, fun i _ => [⟨(CVU_CTRL_EN i), .rw, .mr⟩, ⟨(CVU_CTRL_PAUSE i), .rw, .mr⟩, ⟨(CVU_CTRL_POLY i), .rw, .mr⟩, ⟨(CVU_CTRL_SRC i), .rw, .mr⟩, ⟨(CVU_CTRL_LINK i), .rw, .mr⟩, ⟨(CVU_CTRL_MODE i), .rw, .mr⟩, ⟨(CVU_CTRL_CHECK i), .rw, .mr⟩, ⟨(CVU_CTRL_RD i), .rw, .mr⟩, ⟨(CVU_CTRL_PAYLOAD i), .rw, .mr⟩, ⟨(CVU_CTRL_EVT_ALL i), .rw, .mr⟩, ⟨(CVU_CTRL_MASTERS i), .rw, .mr⟩, ⟨(CVU_CTRL_CLASS i), .rw, .mr⟩]⟩,
  ⟨0x400A0004, 6, 0x40, 1, 0x0, fun i _ => [⟨(CVU_BASE_BASE i), .rw, .mr⟩]⟩,
  ⟨0x400A0008, 6, 0x40, 1, 0x0, fun i _ => [⟨(CVU_LEN_LEN i), .rw, .mr⟩]⟩,
  ⟨0x400A000C, 6, 0x40, 1, 0x0, fun i _ => [⟨(CVU_ALIVE_EN i), .rw, .mr⟩, ⟨(CVU_ALIVE_WIDE i), .rw, .mr⟩, ⟨(CVU_ALIVE_LSB i), .rw, .mr⟩, ⟨(CVU_ALIVE_OFFSET i), .rw, .mr⟩]⟩,
  ⟨0x400A0010, 6, 0x40, 1, 0x0, fun i _ => [⟨(CVU_RUN_VALUE i), .rw, .mr⟩]⟩,
  ⟨0x400A0014, 6, 0x40, 1, 0x0, fun i _ => [⟨(CVU_VALUE_VALUE i), .ro, .mr⟩]⟩,
  ⟨0x400A0018, 6, 0x40, 1, 0x0, fun i _ => [⟨(CVU_RESULT_VALUE i), .ro, .mr⟩]⟩,
  ⟨0x400A001C, 6, 0x40, 1, 0x0, fun i _ => [⟨(CVU_STATUS_IN_MSG i), .rw, .mr⟩, ⟨(CVU_STATUS_VALID i), .rw, .mr⟩, ⟨(CVU_STATUS_LAST i), .rw, .mr⟩]⟩,
  ⟨0x400A0020, 6, 0x40, 1, 0x0, fun i _ => [⟨(CVU_BYTES_COUNT i), .ro, .mr⟩]⟩,
  ⟨0x400A0024, 6, 0x40, 1, 0x0, fun i _ => [⟨(CVU_MSG_COUNT i), .ro, .mr⟩]⟩,
  ⟨0x400A0028, 6, 0x40, 1, 0x0, fun i _ => [⟨(CVU_BAD_COUNT i), .ro, .mr⟩]⟩,
  ⟨0x400A002C, 6, 0x40, 1, 0x0, fun i _ => [⟨(CVU_ALIVE_ERR_REPEAT i), .ro, .mr⟩, ⟨(CVU_ALIVE_ERR_MISSING i), .ro, .mr⟩]⟩]

/-- Register rows of R458, part 1. -/
def rows_checkValue_1 : List RegRow := [
  ⟨0x400A0030, 6, 0x40, 1, 0x0, fun i _ => [⟨(CVU_DROP_COUNT i), .ro, .mr⟩]⟩,
  ⟨0x400A0034, 6, 0x40, 1, 0x0, fun i _ => [⟨(CVU_FLAGS_CHECK_FAIL i), .w1c, .mr⟩, ⟨(CVU_FLAGS_REPEAT i), .w1c, .mr⟩, ⟨(CVU_FLAGS_GAP i), .w1c, .mr⟩, ⟨(CVU_FLAGS_DROP i), .w1c, .mr⟩, ⟨(CVU_FLAGS_CFG_ERR i), .w1c, .mr⟩, ⟨(CVU_FLAGS_SHORT i), .w1c, .mr⟩]⟩,
  ⟨0x400A0038, 6, 0x40, 1, 0x0, fun i _ => [⟨(CVU_CMD_START i), .wo, .mr⟩, ⟨(CVU_CMD_END i), .wo, .mr⟩, ⟨(CVU_CMD_CLR i), .wo, .mr⟩]⟩]

/-- The register rows of R458. -/
def rows_checkValue : List RegRow := rows_checkValue_0 ++ rows_checkValue_1

/-! ### R477 -/

abbrev UMB_STATUS_STATE : Fld := ⟨0x400F0000, 0, 2, 1⟩
abbrev UMB_STATUS_TIME_UNKNOWN : Fld := ⟨0x400F0000, 2, 1, 1⟩
abbrev UMB_STATUS_TAMPER : Fld := ⟨0x400F0000, 3, 1, 0⟩
abbrev UMB_STATUS_PLUG : Fld := ⟨0x400F0000, 4, 1, 0⟩
abbrev UMB_STATUS_CAP_OK : Fld := ⟨0x400F0000, 5, 1, 0⟩
abbrev UMB_STATUS_HARVEST : Fld := ⟨0x400F0000, 6, 1, 0⟩
abbrev UMB_STATUS_STAGED : Fld := ⟨0x400F0000, 8, 5, 0⟩
abbrev UMB_CSTORE_MV : Fld := ⟨0x400F0004, 0, 13, 0⟩
abbrev UMB_CSTORE_CAP : Fld := ⟨0x400F0004, 16, 12, 470⟩
abbrev UMB_FLAGS_TAMPER_EV : Fld := ⟨0x400F0008, 0, 1, 0⟩
abbrev UMB_FLAGS_PLUG_EV : Fld := ⟨0x400F0008, 1, 1, 0⟩
abbrev UMB_FLAGS_DEFER : Fld := ⟨0x400F0008, 2, 1, 0⟩
abbrev UMB_FLAGS_LOST : Fld := ⟨0x400F0008, 3, 1, 0⟩
abbrev UMB_FLAGS_REDO : Fld := ⟨0x400F0008, 4, 1, 0⟩
abbrev UMB_FLAGS_CRC_ERR : Fld := ⟨0x400F0008, 5, 1, 0⟩
abbrev UMB_FLAGS_CFG_ERR : Fld := ⟨0x400F0008, 6, 1, 0⟩
abbrev UMB_SECONDS_SEC : Fld := ⟨0x400F000C, 0, 32, 0⟩
abbrev UMB_SUBSEC_TICK : Fld := ⟨0x400F0010, 0, 15, 0⟩
abbrev UMB_TIME_SET_SEC : Fld := ⟨0x400F0014, 0, 32, 0⟩
abbrev UMB_OUTAGE_COUNT : Fld := ⟨0x400F0018, 0, 32, 0⟩
abbrev UMB_DARK_LAST_SEC : Fld := ⟨0x400F001C, 0, 32, 4294967295⟩
abbrev UMB_LOG_HEAD_NEWEST : Fld := ⟨0x400F0020, 0, 16, 0⟩
abbrev UMB_LOG_HEAD_COUNT : Fld := ⟨0x400F0020, 16, 10, 0⟩
abbrev UMB_LOG_OLDEST_SEQ : Fld := ⟨0x400F0024, 0, 16, 0⟩
abbrev UMB_LOG_IDX_SEQ : Fld := ⟨0x400F0028, 0, 16, 0⟩
abbrev UMB_LOG_IDX_VALID : Fld := ⟨0x400F0028, 31, 1, 0⟩
abbrev UMB_LOG_LOST_COUNT : Fld := ⟨0x400F002C, 0, 16, 0⟩
abbrev UMB_LOG_CMD_PUT : Fld := ⟨0x400F0030, 0, 1, 0⟩
abbrev UMB_LOG_RD_WORD (i : Nat) : Fld := ⟨0x400F0040 + 0x4 * i, 0, 32, 0⟩
abbrev UMB_LOG_WR0_WORD : Fld := ⟨0x400F0050, 0, 32, 0⟩
abbrev UMB_LOG_WR1_WORD : Fld := ⟨0x400F0054, 0, 32, 0⟩
abbrev UMB_CFG_TAMPER_EN : Fld := ⟨0x400F0060, 0, 1, 1⟩
abbrev UMB_CFG_PLUG_EN : Fld := ⟨0x400F0060, 1, 1, 1⟩
abbrev UMB_CFG_CHG_EN : Fld := ⟨0x400F0060, 2, 1, 1⟩
abbrev UMB_CFG_MARGIN : Fld := ⟨0x400F0060, 8, 4, 4⟩

/-- Register rows of R477, part 0. -/
def rows_umbra_0 : List RegRow := [
  ⟨0x400F0000, 1, 0x0, 1, 0x0, fun _ _ => [⟨UMB_STATUS_STATE, .ro, .ur⟩, ⟨UMB_STATUS_TIME_UNKNOWN, .ro, .ur⟩, ⟨UMB_STATUS_TAMPER, .ro, .ur⟩, ⟨UMB_STATUS_PLUG, .ro, .ur⟩, ⟨UMB_STATUS_CAP_OK, .ro, .ur⟩, ⟨UMB_STATUS_HARVEST, .ro, .ur⟩, ⟨UMB_STATUS_STAGED, .ro, .ur⟩]⟩,
  ⟨0x400F0004, 1, 0x0, 1, 0x0, fun _ _ => [⟨UMB_CSTORE_MV, .ro, .ur⟩, ⟨UMB_CSTORE_CAP, .ro, .ur⟩]⟩,
  ⟨0x400F0008, 1, 0x0, 1, 0x0, fun _ _ => [⟨UMB_FLAGS_TAMPER_EV, .w1c, .ur⟩, ⟨UMB_FLAGS_PLUG_EV, .w1c, .ur⟩, ⟨UMB_FLAGS_DEFER, .w1c, .ur⟩, ⟨UMB_FLAGS_LOST, .w1c, .ur⟩, ⟨UMB_FLAGS_REDO, .w1c, .ur⟩, ⟨UMB_FLAGS_CRC_ERR, .w1c, .ur⟩, ⟨UMB_FLAGS_CFG_ERR, .w1c, .ur⟩]⟩,
  ⟨0x400F000C, 1, 0x0, 1, 0x0, fun _ _ => [⟨UMB_SECONDS_SEC, .ro, .ur⟩]⟩,
  ⟨0x400F0010, 1, 0x0, 1, 0x0, fun _ _ => [⟨UMB_SUBSEC_TICK, .ro, .ur⟩]⟩,
  ⟨0x400F0014, 1, 0x0, 1, 0x0, fun _ _ => [⟨UMB_TIME_SET_SEC, .wo, .ur⟩]⟩,
  ⟨0x400F0018, 1, 0x0, 1, 0x0, fun _ _ => [⟨UMB_OUTAGE_COUNT, .ro, .ur⟩]⟩,
  ⟨0x400F001C, 1, 0x0, 1, 0x0, fun _ _ => [⟨UMB_DARK_LAST_SEC, .ro, .ur⟩]⟩,
  ⟨0x400F0020, 1, 0x0, 1, 0x0, fun _ _ => [⟨UMB_LOG_HEAD_NEWEST, .ro, .ur⟩, ⟨UMB_LOG_HEAD_COUNT, .ro, .ur⟩]⟩,
  ⟨0x400F0024, 1, 0x0, 1, 0x0, fun _ _ => [⟨UMB_LOG_OLDEST_SEQ, .ro, .ur⟩]⟩,
  ⟨0x400F0028, 1, 0x0, 1, 0x0, fun _ _ => [⟨UMB_LOG_IDX_SEQ, .rw, .ur⟩, ⟨UMB_LOG_IDX_VALID, .ro, .ur⟩]⟩,
  ⟨0x400F002C, 1, 0x0, 1, 0x0, fun _ _ => [⟨UMB_LOG_LOST_COUNT, .ro, .ur⟩]⟩]

/-- Register rows of R477, part 1. -/
def rows_umbra_1 : List RegRow := [
  ⟨0x400F0030, 1, 0x0, 1, 0x0, fun _ _ => [⟨UMB_LOG_CMD_PUT, .wo, .ur⟩]⟩,
  ⟨0x400F0040, 4, 0x4, 1, 0x0, fun i _ => [⟨(UMB_LOG_RD_WORD i), .ro, .ur⟩]⟩,
  ⟨0x400F0050, 1, 0x0, 1, 0x0, fun _ _ => [⟨UMB_LOG_WR0_WORD, .rw, .ur⟩]⟩,
  ⟨0x400F0054, 1, 0x0, 1, 0x0, fun _ _ => [⟨UMB_LOG_WR1_WORD, .rw, .ur⟩]⟩,
  ⟨0x400F0060, 1, 0x0, 1, 0x0, fun _ _ => [⟨UMB_CFG_TAMPER_EN, .rw, .ur⟩, ⟨UMB_CFG_PLUG_EN, .rw, .ur⟩, ⟨UMB_CFG_CHG_EN, .rw, .ur⟩, ⟨UMB_CFG_MARGIN, .rw, .ur⟩]⟩]

/-- The register rows of R477. -/
def rows_umbra : List RegRow := rows_umbra_0 ++ rows_umbra_1

/-! ### R496 -/

abbrev PWR_STATE_STATE : Fld := ⟨0x400D0000, 0, 2, 0⟩
abbrev PWR_STATE_BUSY : Fld := ⟨0x400D0000, 2, 1, 0⟩
abbrev PWR_CMD_TARGET : Fld := ⟨0x400D0004, 0, 2, 0⟩
abbrev PWR_CMD_GO : Fld := ⟨0x400D0004, 8, 1, 0⟩
abbrev PWR_WATCH_SAR_A : Fld := ⟨0x400D0008, 0, 3, 0⟩
abbrev PWR_WATCH_SAR_B : Fld := ⟨0x400D0008, 4, 3, 1⟩
abbrev PWR_WAKE_EN : Fld := ⟨0x400D000C, 0, 6, 63⟩
abbrev PWR_WAKE_SEC_SEC : Fld := ⟨0x400D0010, 0, 32, 0⟩
abbrev PWR_WAKE_CAUSE_CAUSE : Fld := ⟨0x400D0014, 0, 6, 0⟩
abbrev SUP_STATUS_VDD_OK : Fld := ⟨0x400D0020, 0, 1, 0⟩
abbrev SUP_STATUS_VDDA_OK : Fld := ⟨0x400D0020, 1, 1, 0⟩
abbrev SUP_STATUS_VDD_WARN : Fld := ⟨0x400D0020, 2, 1, 0⟩
abbrev SUP_STATUS_VDDA_WARN : Fld := ⟨0x400D0020, 3, 1, 0⟩
abbrev SUP_STATUS_VDDIO_OK : Fld := ⟨0x400D0020, 4, 1, 0⟩
abbrev SUP_STATUS_HOLD_RUN : Fld := ⟨0x400D0020, 5, 1, 0⟩
abbrev SUP_FLAGS_DIP : Fld := ⟨0x400D0024, 0, 1, 0⟩
abbrev SUP_FLAGS_HOLD_EXP : Fld := ⟨0x400D0024, 1, 1, 0⟩
abbrev SUP_FLAGS_VDDIO_LOSS : Fld := ⟨0x400D0024, 2, 1, 0⟩
abbrev SUP_HOLD_US : Fld := ⟨0x400D0028, 0, 16, 1000⟩
abbrev SUP_DIP_COUNT_COUNT : Fld := ⟨0x400D002C, 0, 16, 0⟩
abbrev RST_CAUSE_CAUSE : Fld := ⟨0x400D0030, 0, 7, 1⟩
abbrev RST_CMD_REGION : Fld := ⟨0x400D0034, 0, 3, 0⟩
abbrev WDT_CTRL_MS : Fld := ⟨0x400D0040, 0, 10, 500⟩
abbrev WDT_CTRL_EN : Fld := ⟨0x400D0040, 16, 1, 0⟩
abbrev WDT_KICK_KEY : Fld := ⟨0x400D0044, 0, 16, 0⟩
abbrev WDT_COUNT_MS : Fld := ⟨0x400D0048, 0, 10, 500⟩
abbrev CLK_STATUS_LOCK : Fld := ⟨0x400D0060, 0, 4, 0⟩
abbrev CLK_STATUS_REF_OK : Fld := ⟨0x400D0060, 4, 1, 0⟩
abbrev CLK_FLAGS_UNLOCK : Fld := ⟨0x400D0064, 0, 4, 0⟩
abbrev CLK_FLAGS_REF_LOSS : Fld := ⟨0x400D0064, 4, 1, 0⟩
abbrev CLK_FLAGS_RAMP_ERR : Fld := ⟨0x400D0064, 5, 1, 0⟩
abbrev CLK_FLAGS_BAND_ERR : Fld := ⟨0x400D0064, 6, 1, 0⟩
abbrev CLK_CTRL_LANE_EN : Fld := ⟨0x400D0068, 0, 1, 1⟩
abbrev RAMP_CTRL_RUN : Fld := ⟨0x400D0070, 0, 1, 0⟩
abbrev RAMP_CTRL_LAST : Fld := ⟨0x400D0070, 8, 4, 0⟩
abbrev RAMP_CTRL_LOOP_TO : Fld := ⟨0x400D0070, 12, 4, 0⟩
abbrev RAMP_CTRL_LOOP : Fld := ⟨0x400D0070, 16, 1, 0⟩
abbrev RAMP_STATUS_SEG : Fld := ⟨0x400D0074, 0, 4, 0⟩
abbrev RAMP_STATUS_BUSY : Fld := ⟨0x400D0074, 4, 1, 0⟩
abbrev CORE_MULT_MULT : Fld := ⟨0x400D0078, 0, 21, 1048576⟩
abbrev RAMP_SEG_TGT_TARGET (i : Nat) : Fld := ⟨0x400D0080 + 0x8 * i, 0, 21, 1048576⟩
abbrev RAMP_SEG_TIME_TIME (i : Nat) : Fld := ⟨0x400D0084 + 0x8 * i, 0, 16, 1⟩
abbrev PLL_BAND_LOW (i j : Nat) : Fld := ⟨0x400D0100 + 0x80 * i + 0x4 * j, 0, 12, 0⟩
abbrev PLL_BAND_HIGH (i j : Nat) : Fld := ⟨0x400D0100 + 0x80 * i + 0x4 * j, 12, 12, 0⟩
abbrev PLL_BAND_VALID (i j : Nat) : Fld := ⟨0x400D0100 + 0x80 * i + 0x4 * j, 31, 1, 0⟩
abbrev CLK_CAL_START : Fld := ⟨0x400D0300, 0, 4, 0⟩
abbrev CLK_CAL_DONE : Fld := ⟨0x400D0300, 8, 4, 0⟩

/-- Register rows of R496, part 0. -/
def rows_clockPower_0 : List RegRow := [
  ⟨0x400D0000, 1, 0x0, 1, 0x0, fun _ _ => [⟨PWR_STATE_STATE, .ro, .mr⟩, ⟨PWR_STATE_BUSY, .ro, .mr⟩]⟩,
  ⟨0x400D0004, 1, 0x0, 1, 0x0, fun _ _ => [⟨PWR_CMD_TARGET, .wo, .mr⟩, ⟨PWR_CMD_GO, .wo, .mr⟩]⟩,
  ⟨0x400D0008, 1, 0x0, 1, 0x0, fun _ _ => [⟨PWR_WATCH_SAR_A, .rw, .mr⟩, ⟨PWR_WATCH_SAR_B, .rw, .mr⟩]⟩,
  ⟨0x400D000C, 1, 0x0, 1, 0x0, fun _ _ => [⟨PWR_WAKE_EN, .rw, .mr⟩]⟩,
  ⟨0x400D0010, 1, 0x0, 1, 0x0, fun _ _ => [⟨PWR_WAKE_SEC_SEC, .rw, .mr⟩]⟩,
  ⟨0x400D0014, 1, 0x0, 1, 0x0, fun _ _ => [⟨PWR_WAKE_CAUSE_CAUSE, .w1c, .mr⟩]⟩,
  ⟨0x400D0020, 1, 0x0, 1, 0x0, fun _ _ => [⟨SUP_STATUS_VDD_OK, .ro, .mr⟩, ⟨SUP_STATUS_VDDA_OK, .ro, .mr⟩, ⟨SUP_STATUS_VDD_WARN, .ro, .mr⟩, ⟨SUP_STATUS_VDDA_WARN, .ro, .mr⟩, ⟨SUP_STATUS_VDDIO_OK, .ro, .mr⟩, ⟨SUP_STATUS_HOLD_RUN, .ro, .mr⟩]⟩,
  ⟨0x400D0024, 1, 0x0, 1, 0x0, fun _ _ => [⟨SUP_FLAGS_DIP, .w1c, .mr⟩, ⟨SUP_FLAGS_HOLD_EXP, .w1c, .mr⟩, ⟨SUP_FLAGS_VDDIO_LOSS, .w1c, .mr⟩]⟩,
  ⟨0x400D0028, 1, 0x0, 1, 0x0, fun _ _ => [⟨SUP_HOLD_US, .rw, .mr⟩]⟩,
  ⟨0x400D002C, 1, 0x0, 1, 0x0, fun _ _ => [⟨SUP_DIP_COUNT_COUNT, .ro, .po⟩]⟩,
  ⟨0x400D0030, 1, 0x0, 1, 0x0, fun _ _ => [⟨RST_CAUSE_CAUSE, .w1c, .po⟩]⟩,
  ⟨0x400D0034, 1, 0x0, 1, 0x0, fun _ _ => [⟨RST_CMD_REGION, .wo, .mr⟩]⟩]

/-- Register rows of R496, part 1. -/
def rows_clockPower_1 : List RegRow := [
  ⟨0x400D0040, 1, 0x0, 1, 0x0, fun _ _ => [⟨WDT_CTRL_MS, .rw1, .mr⟩, ⟨WDT_CTRL_EN, .rw1, .mr⟩]⟩,
  ⟨0x400D0044, 1, 0x0, 1, 0x0, fun _ _ => [⟨WDT_KICK_KEY, .wo, .mr⟩]⟩,
  ⟨0x400D0048, 1, 0x0, 1, 0x0, fun _ _ => [⟨WDT_COUNT_MS, .ro, .mr⟩]⟩,
  ⟨0x400D0060, 1, 0x0, 1, 0x0, fun _ _ => [⟨CLK_STATUS_LOCK, .ro, .mr⟩, ⟨CLK_STATUS_REF_OK, .ro, .mr⟩]⟩,
  ⟨0x400D0064, 1, 0x0, 1, 0x0, fun _ _ => [⟨CLK_FLAGS_UNLOCK, .w1c, .mr⟩, ⟨CLK_FLAGS_REF_LOSS, .w1c, .mr⟩, ⟨CLK_FLAGS_RAMP_ERR, .w1c, .mr⟩, ⟨CLK_FLAGS_BAND_ERR, .w1c, .mr⟩]⟩,
  ⟨0x400D0068, 1, 0x0, 1, 0x0, fun _ _ => [⟨CLK_CTRL_LANE_EN, .rw, .mr⟩]⟩,
  ⟨0x400D0070, 1, 0x0, 1, 0x0, fun _ _ => [⟨RAMP_CTRL_RUN, .rw, .mr⟩, ⟨RAMP_CTRL_LAST, .rw, .mr⟩, ⟨RAMP_CTRL_LOOP_TO, .rw, .mr⟩, ⟨RAMP_CTRL_LOOP, .rw, .mr⟩]⟩,
  ⟨0x400D0074, 1, 0x0, 1, 0x0, fun _ _ => [⟨RAMP_STATUS_SEG, .ro, .mr⟩, ⟨RAMP_STATUS_BUSY, .ro, .mr⟩]⟩,
  ⟨0x400D0078, 1, 0x0, 1, 0x0, fun _ _ => [⟨CORE_MULT_MULT, .ro, .mr⟩]⟩,
  ⟨0x400D0080, 16, 0x8, 1, 0x0, fun i _ => [⟨(RAMP_SEG_TGT_TARGET i), .rw, .mr⟩]⟩,
  ⟨0x400D0084, 16, 0x8, 1, 0x0, fun i _ => [⟨(RAMP_SEG_TIME_TIME i), .rw, .mr⟩]⟩,
  ⟨0x400D0100, 4, 0x80, 32, 0x4, fun i j => [⟨(PLL_BAND_LOW i j), .rw, .mr⟩, ⟨(PLL_BAND_HIGH i j), .rw, .mr⟩, ⟨(PLL_BAND_VALID i j), .rw, .mr⟩]⟩]

/-- Register rows of R496, part 2. -/
def rows_clockPower_2 : List RegRow := [
  ⟨0x400D0300, 1, 0x0, 1, 0x0, fun _ _ => [⟨CLK_CAL_START, .wo, .mr⟩, ⟨CLK_CAL_DONE, .ro, .mr⟩]⟩]

/-- The register rows of R496. -/
def rows_clockPower : List RegRow := rows_clockPower_0 ++ rows_clockPower_1 ++ rows_clockPower_2

end Sys2Proof.Machine.Reg
end

