-- ==== Sys2Proof/Machine/Blocks1.lean ====
section
/-! DEFINITION. Machine/Blocks1.lean: the state that the crossings, Orbit, the core pairs and the PWM block hold beside their
registers. Every default value is the value at reset. -/

namespace Sys2Proof.Machine

/-! ### Crossings (chapter 02) -/

/-- A mailbox entry of four words (R49). -/
structure MbxEntry where
  w0 : Nat
  w1 : Nat
  w2 : Nat
  w3 : Nat
  deriving DecidableEq, Repr

/-- A submitted bank: its entries and how many boundaries must still pass before it applies (R53). -/
structure Submission where
  entries : List MbxEntry
  due : Nat
  deriving DecidableEq, Repr

/-- A data-port setpoint entry with the epoch that the crossing stamped on it (R55). -/
structure DataEntry where
  index : Nat
  value : Nat
  epoch : Nat
  due : Nat
  deriving DecidableEq, Repr

/-- A mailbox load of one receiving block (R52): none, copying, or complete and accepted and waiting for its switch.
`entry` and `seq` are the entry index and the application number, so that a later rejection finds its bit. -/
inductive LoadPhase where
  | idle
  | copying (addr len crc entry seq : Nat)
  | waiting
  deriving DecidableEq, Repr

/-- A captured tap record (R56). -/
structure TapRecord where
  value : Nat
  chan : Nat
  tag : Nat
  epoch : Nat
  invalid : Bool
  stale : Bool
  deriving DecidableEq, Repr

/-- What the three crossings hold beside their registers. -/
structure CrossSt where
  /-- the submission that waits for its boundary (R48, R53) -/
  sub : Option Submission := none
  /-- the bank whose submission failed its parity check last (R61) -/
  failedBank : Option (List MbxEntry) := none
  /-- management entries that MC holds back until the bank is free (R401, R417) -/
  mcQueue : List MbxEntry := []
  /-- data-port entries waiting (R55) -/
  dataPort : List DataEntry := []
  /-- the mailbox load of each receiving block (R52) -/
  loadLe0 : LoadPhase := .idle
  loadLe1 : LoadPhase := .idle
  loadOrbit : LoadPhase := .idle
  loadProfile : LoadPhase := .idle
  loadSweep : LoadPhase := .idle
  /-- tap records captured and not yet delivered (R56) -/
  taps : List TapRecord := []
  /-- the latest record delivered of each channel (R56) -/
  tapIn : List TapRecord := []
  /-- tap records lost since the last digest (R59 word 13) -/
  tapLost : Nat := 0
  /-- epoch discards since the last digest (R59 word 13) -/
  epochDiscards : Nat := 0
  /-- late commits counted in this frame (R41) -/
  lateCommits : Nat := 0
  /-- granules closed since the last digest (R59 word 12) -/
  granules : Nat := 0
  /-- words 0 to 9 and 13 of the frame that ended, frozen at the boundary (R59) -/
  digest : Option (List Nat) := none
  /-- the latest complete digest (R418) -/
  lastDigest : List Nat := List.replicate 16 0
  /-- frames in a row whose digest failed its CRC (R61) -/
  digestFails : Nat := 0
  deriving DecidableEq, Repr

/-- The sense link: consecutive CRC failures of each lane (R66). The lanes in service stand in `SNS_LINK.LANE_UP`. -/
structure SlinkSt where
  fails : List Nat := [0, 0, 0, 0]
  /-- the lanes have trained since the last package or CR reset -/
  trained : Bool := false
  deriving DecidableEq, Repr

/-! ### Orbit (chapter 03) -/

/-- The carrier settings that wait for a valley of carrier 0 (R84). -/
structure CarrierCfg where
  ncar : Option Nat := none
  div : Option Nat := none
  fnom : Option Nat := none
  offset : Option Nat := none
  deriving DecidableEq, Repr

/-- An issued operation that has not retired (R90, R97). -/
structure OrbOp where
  slot : Nat
  tgt : Nat
  arga : Nat
  argb : Nat
  tag : Nat
  epoch : Nat
  /-- it has been sent to its target; false for an operation whose delay carried it past the frame (R97) -/
  sent : Bool
  deriving DecidableEq, Repr

/-- The contents of a frame marker of the primary (R101). -/
structure Marker where
  frame : Nat
  theta : Nat
  dtheta : Nat
  /-- arrival less latency, against the local boundary, in tD (R102) -/
  offset : Int
  deriving DecidableEq, Repr

/-- What Orbit holds beside its registers. -/
structure OrbitSt where
  /-- carrier index of the boundary that began this frame (R86) -/
  carIdx : Nat := 0
  /-- the fraction bits of θ below one angle unit (R76) -/
  thetaFrac : Nat := 0
  /-- written and waiting (R84 step 1) -/
  pend : CarrierCfg := {}
  /-- taken into the computation of R86 (R84 step 2) -/
  taken : CarrierCfg := {}
  /-- period and residual computed for the next frame (R86) -/
  nextPeriod : Option (Nat × Nat) := none
  presentRun : Nat := 0
  absentRun : Nat := 0
  /-- standing conditions of R80; neither holds after a CR reset -/
  vPresent : Bool := false
  vAbsent : Bool := false
  /-- angle travelled, in 1/65536 units, while the lock criterion held (R80) -/
  lockAngle : Nat := 0
  /-- the lock criterion at the last sample (R80, R81) -/
  lockNow : Bool := false
  /-- consecutive samples above 5° (R80) -/
  lostRun : Nat := 0
  /-- tracker phase error at the last sample, an angle (R105) -/
  phaseErr : Nat := 0
  /-- the ROCOF limit at the last sample (R80) -/
  rocofHigh : Bool := false
  /-- the running locked turn: angle travelled, sum of increments, samples; and the mean of the last complete one (R81) -/
  turnAngle : Nat := 0
  turnSum : Nat := 0
  turnCount : Nat := 0
  turnMean : Option Nat := none
  /-- 10 µs samples spent in FLYWHEEL (R81) -/
  flySamples : Nat := 0
  /-- the two banks of the operation table: word index, word (R93) -/
  bank0 : List (Nat × Nat) := []
  bank1 : List (Nat × Nat) := []
  /-- a `SWAP` write waits for its boundary (R99) -/
  swapReq : Bool := false
  /-- EPOCH_INC of the load header that waits (R98) -/
  loadEpochInc : Bool := false
  /-- slots of the active bank with an unlisted target code (R95) -/
  badSlots : List Nat := []
  /-- slots done with for this frame: a double-bit error (R93), a stale epoch or a tick beyond the frame (R96), or an issue
  that came too late (R97) -/
  eccSlots : List Nat := []
  /-- operations issued in this frame and not retired (R90) -/
  ops : List OrbOp := []
  /-- trigger inputs raised in this frame, with the tick of their first raise (R96) -/
  trigInputs : List (Nat × Nat) := []
  /-- the epoch has been incremented at this boundary (R100) -/
  epochDone : Bool := false
  /-- consecutive frames with a valid marker (R81) -/
  markerRun : Nat := 0
  /-- a marker arrived in this frame (R102) -/
  marker : Option Marker := none
  /-- consecutive frames with an offset of 2 ns or less (R103) -/
  alignRun : Nat := 0
  deriving DecidableEq, Repr

/-! ### Core pairs (chapter 04) -/

/-- What the supervisor and the debug module hold of one pair beside its registers. -/
structure PairSt where
  /-- debug halt of the main copy (R117) -/
  halted : Bool := false
  /-- recorded debug actions, oldest first, with the instruction count of each (R116) -/
  replay : List (DebugAction × Nat) := []
  /-- the sweep has captured this frame's slice (R119) -/
  swept : Bool := false
  /-- the comparator passed its forced-mismatch check in the last frame (R110, R126) -/
  checked : Bool := false
  /-- self-test passed, activation waits for a boundary (R133) -/
  passed : Bool := false
  /-- the full TCM copy is complete (R126) -/
  copied : Bool := false
  /-- the private copy of the target-0 pending bits, six words (R124) -/
  pend : List Nat := List.replicate 6 0
  /-- the value the agreement unit fixed last, by input number (R112, R114) -/
  agreed : List (Nat × Nat) := []
  /-- the takeover interrupt is pending (R127) -/
  interrupt : Bool := false
  /-- `cpid.ROLE`, `cpid.EPOCH` and `cpvec.BASE` (R136); `cpid.PAIR` is the pair itself -/
  role : Nat := 0
  cpidEpoch : Nat := 0
  cpvec : Nat := 0
  /-- the model's own: 0 while an unlisted TCM byte reads 0, else the number of the free contents that a self-test
  left behind (R134) -/
  tcmGen : Nat := 0
  deriving DecidableEq, Repr

/-- What the pair supervisor holds beside its registers. -/
structure PairsSt where
  /-- pair A and pair B -/
  a : PairSt := {}
  b : PairSt := {}
  /-- cause of the pending takeover: 0 none, else the code of `CP_TAKEOVER_LOG.CAUSE` (R127) -/
  cause : Nat := 0
  /-- an ordinary fault without cover waits for its boundary (R128, R161) -/
  orderly : Bool := false
  /-- `FATALRST` follows 10 µs after `CP_BOTH_LOST` (R128) -/
  fatalWait : Bool := false
  /-- `FATALRST` is due (R39) -/
  fatalDue : Bool := false
  /-- the boundary at which the last resume may restore STANDBY_READY (R117) has passed -/
  resumeWait : Bool := false
  deriving DecidableEq, Repr

/-! ### PWM (chapter 06) -/

/-- A set of shadowed values of one pair (R175). -/
structure PairVals where
  cmpA : Nat := 0
  cmpB : Nat := 0
  dt : Nat := 0
  minp : Nat := 0
  refw : Nat := 0
  deriving DecidableEq, Repr

/-- What the block holds of one PWM pair beside its registers. -/
structure PwmPair where
  /-- active dead time, minimum pulse and refresh width (R175) -/
  dt : Nat := 0
  minp : Nat := 0
  refw : Nat := 0
  /-- the copy frozen at the start of the cut-off window (R176) -/
  frozen : PairVals := {}
  /-- emitted on-time of the present period, and where the emitted H interval begins and ends, in tD from the valley -/
  w : Nat := 0
  rise : Int := 0
  fall : Int := 0
  /-- the present period was judged short (R181) -/
  short : Bool := false
  /-- trip lines that hold the pair: cycle by cycle, and latched (R189) -/
  tripCycle : Nat := 0
  tripLatched : Nat := 0
  /-- a written `PWM_ESC` release or a cleared latch waits for the valley (R187, R189) -/
  escRelease : Bool := false
  /-- the bootstrap warning as sampled for this and for the last period (R185) -/
  bsNow : Bool := false
  bsLast : Bool := false
  deriving DecidableEq, Repr

/-- What the block holds of one cluster beside its registers. -/
structure PwmCluster where
  /-- the cut-off window of the coming commit point is open, and that point is a peak (R176) -/
  window : Bool := false
  peak : Bool := false
  /-- a commit is armed; a commit landed in the window (R176) -/
  armed : Bool := false
  held : Bool := false
  /-- a commit was deferred by a soft reset of the cluster (R41, R178) -/
  deferred : Bool := false
  /-- shadow writes that landed in the window: field key and value, oldest first (R176) -/
  holding : List (Nat × Nat) := []
  /-- the period frozen for the commit point (R170) -/
  frozenPeriod : Nat := 50000
  /-- in soft reset, restarting at the next valley (R194) -/
  inReset : Bool := false
  /-- safe state has been released and the cluster waits for its next valley (R193) -/
  resume : Bool := false
  deriving DecidableEq, Repr

/-- What the block holds of one trip line beside its registers. -/
structure TripLine where
  /-- the level of the source now, before blanking (R188) -/
  source : Bool := false
  /-- a blanking window runs (R190) -/
  blanking : Bool := false
  /-- `PWM_TRIPn` was raised in this carrier of its reference cluster (R189) -/
  raised : Bool := false
  /-- the latch bit was cleared, its pairs wait for their valley (R189) -/
  release : Bool := false
  deriving DecidableEq, Repr

/-- What the PWM block holds beside its registers. -/
structure PwmSt where
  pairs : List PwmPair := List.replicate 24 {}
  clusters : List PwmCluster := List.replicate 3 {}
  lines : List TripLine := List.replicate 16 {}
  /-- `PWM_SHORT` was raised in this frame (R197) -/
  shortRaised : Bool := false
  /-- outputs whose delay line failed calibration, bit 2p for H and 2p + 1 for L of pair p (R183) -/
  failedOuts : Nat := 0
  deriving DecidableEq, Repr

end Sys2Proof.Machine
end

