-- ==== Sys2Proof/Machine/BlocksCmp.lean ====
section
/-! DEFINITION. Machine/BlocksCmp.lean: the state of the comparator windows (chapter 09) beside their registers. Every default
value is the value at reset. -/

namespace Sys2Proof.Machine

/-- Thresholds, hystereses and land of a window, as in force (R252). -/
structure CmpCfg where
  thHi : Nat := 1023
  thLo : Nat := 0
  hysHi : Nat := 0
  hysLo : Nat := 0
  ain : Nat := 0
  deriving DecidableEq, Repr

/-- One window. -/
structure CmpWin where
  cfg : CmpCfg := {}
  /-- the comparators (R251), and whether each still holds its start state (R257) -/
  hi : Bool := false
  lo : Bool := false
  startHi : Bool := false
  startLo : Bool := false
  /-- class B: the last samples, newest first, and the filtered bits (R254) -/
  filtHi : List Bool := []
  filtLo : List Bool := []
  fHi : Bool := false
  fLo : Bool := false
  /-- the output after the filter, before window blanking (R263) -/
  out : Bool := false
  /-- the 200 ns hold after a commit (R252), and the window's own blanking (R254) -/
  hold : Bool := false
  blank : Bool := false
  /-- voltage of the land as last reported, in nV -/
  vin : Int := 0
  deriving DecidableEq, Repr

/-- One bank. -/
structure CmpBank where
  /-- shadows were written in this frame; one of them late; a late commit waits for the next boundary; a commit is due -/
  wrote : Bool := false
  late : Bool := false
  snap : Option (List CmpCfg) := none
  ready : Option (List CmpCfg) := none
  /-- a legacy check waits for a commit; a soft reset waits for a check -/
  checkWait : Bool := false
  resetWait : Bool := false
  /-- windows under check, and those with a failed step -/
  sel : Nat := 0
  fail : Nat := 0
  deriving DecidableEq, Repr

/-- The windows and the banks. -/
structure CmpSt where
  wins : List CmpWin := List.replicate 16 {}
  banks : List CmpBank := [{}, {}]
  deriving DecidableEq, Repr

end Sys2Proof.Machine
end

