-- ==== Sys2Proof/Machine/BlocksCmt.lean ====
section
/-! DEFINITION. Machine/BlocksCmt.lean: the state of Comet (chapter 13) beside its registers. Every default value is the value at
reset. -/

namespace Sys2Proof.Machine

/-- A packet that waits or was last started (R354): class, type, destination module, payload words. -/
structure CmtPacket where
  cls : Nat
  typ : Nat
  addr : Nat
  words : List Nat
  deriving DecidableEq, Repr

/-- One lane. -/
structure CmtLane where
  /-- latency probes are out (R353); a first measurement is complete -/
  probing : Bool := false
  measured : Bool := false
  /-- a new mean waits for the next boundary (R353) -/
  latNext : Option Nat := none
  /-- both ends' ready bits (R367) -/
  readyHere : Bool := false
  readyFar : Bool := false
  /-- tags of the boundaries at which it is removed and made active again (R366, R367) -/
  lostDue : Option Nat := none
  backDue : Option Nat := none
  /-- consecutive figures of merit at or above GUARD (R350) -/
  goodRun : Nat := 0
  /-- the last ECHO sent: sequence and turnaround (R353) -/
  echo : Option (Nat × Nat) := none
  deriving DecidableEq, Repr

/-- One link. -/
structure CmtLink where
  /-- versions of the far end (R345) -/
  farMax : Nat := 0
  farMin : Nat := 0
  /-- arrival of the last BND against the local boundary in tD, its tag and active-lane mask (R347) -/
  bnd : Option (Int × Nat × Nat) := none
  /-- the transmitter is in electrical idle (R352) -/
  idle : Bool := false
  /-- packets that wait, oldest first; the packet last started, and its SEQ (R354, R355) -/
  queue : List CmtPacket := []
  lastTx : Option CmtPacket := none
  seq : Nat := 0
  /-- SEQ of the safety packets taken since the last BND (R361) -/
  safeSeen : List Nat := []
  /-- primary, hop count and frame counter of the last marker (R356) -/
  marker : Option (Nat × Nat × Nat) := none
  /-- TPP packets in reassembly, by source module (R362) -/
  tunnel : List (Nat × List Byte) := []
  deriving DecidableEq, Repr

/-- Comet. -/
structure CmtSt where
  links : List CmtLink := List.replicate 4 {}
  lanes : List CmtLane := List.replicate 4 {}
  /-- exported pairs whose safe state, and whose trip, the satellites have been told (R196, R359) -/
  safeSent : Nat := 0
  tripSent : Nat := 0
  deriving DecidableEq, Repr

end Sys2Proof.Machine
end

