-- ==== Sys2Proof/Machine/BlocksCvu.lean ====
section
/-! DEFINITION. Machine/BlocksCvu.lean: what the check-value units hold beside their registers (chapter 17). -/

namespace Sys2Proof.Machine

/-- Per unit: the byte at OFFSET of the open message, once it has arrived (R454). -/
structure CvuSt where
  alive : List (Option Nat) := List.replicate 6 none
  deriving DecidableEq, Repr

end Sys2Proof.Machine
end

