-- ==== Sys2Proof/Machine/BlocksDrive.lean ====
section
/-! DEFINITION. Machine/BlocksDrive.lean: the state of the drive interface and of the drive dies (chapter 07) beside their
registers. Every default value is the value at reset. -/

namespace Sys2Proof.Machine

/-- One leg. -/
structure DrvLeg where
  /-- detectors tripped as last reported, by comparator number (R210) -/
  present : Nat := 0
  /-- arming, or re-arming after the wait, waits for both commands off (R216) -/
  armPend : Bool := false
  rearmPend : Bool := false
  /-- the retry wait elapsed while the enable was cut (R222) -/
  waitOver : Bool := false
  /-- the enable returned and the die waits for both commands off (R213) -/
  enWait : Bool := false
  /-- the leg state in which the running test began, and its comparators (R216, R220) -/
  testFrom : Nat := 0
  testSel : Nat := 0
  /-- an XLOCK_ESC was counted in this turn (R215) -/
  escTurn : Bool := false
  /-- bootstrap under-voltage came during a soft turn-off (R222) -/
  bsPend : Bool := false
  /-- a gate waits for the next rise of its own command (R214, R219) -/
  waitH : Bool := false
  waitL : Bool := false
  /-- a gate is clamped for want of refreshes (R68) -/
  clampH : Bool := false
  clampL : Bool := false
  /-- a junction stands at or above its warning level (R210) -/
  warnH : Bool := false
  warnL : Bool := false
  deriving DecidableEq, Repr

/-- The six legs. -/
structure DrvSt where
  legs : List DrvLeg := List.replicate 6 {}
  deriving DecidableEq, Repr

end Sys2Proof.Machine
end

