-- ==== Sys2Proof/Machine/BlocksGs.lean ====
section
/-! DEFINITION. Machine/BlocksGs.lean: the state of grid support and Eclipse (chapter 10) beside their registers. Every default
value is the value at reset; measures are binary32. -/

namespace Sys2Proof.Machine

/-- Grid support. -/
structure GsSt where
  /-- an accepted profile waits for its switch; it was deferred by a ride-through (R269) -/
  profWait : Option (List Nat) := none
  deferred : Bool := false
  /-- the last V_F samples before averaging, newest first (R267) -/
  vfRing : List Nat := []
  /-- the running turn: angle travelled, sum of V+, samples; and the mean of the last complete one (R274) -/
  turnAngle : Nat := 0
  turnSum : Nat := 0
  turnCount : Nat := 0
  turnMean : Option Nat := none
  /-- consecutive samples of each condition (R273, R275, R276) -/
  lvF : Nat := 0
  lvLo : Nat := 0
  hvF : Nat := 0
  hvHi : Nat := 0
  exitRun : Nat := 0
  lvBad : Nat := 0
  hvBad : Nat := 0
  /-- t in µs, and the angle travelled since entry (R274, R277) -/
  elapsed : Nat := 0
  entryAngle : Nat := 0
  /-- id_PRE as far as the limit has let it stand, iq* of NORMAL at entry, id* of RECOVER (R274, R277) -/
  idHold : Nat := 0
  iqPre : Nat := 0
  idRec : Nat := 0
  /-- p and q of R280 and R281, p_fw of the last sample; and the first ramp has not ended (R280) -/
  p : Nat := 0
  q : Nat := 0
  pfw : Nat := 0
  firstRamp : Bool := false
  /-- the four references: of the last sample, of the one before, and as latched at the boundary (R272) -/
  out : List Nat := [0, 0, 0, 0]
  prev : List Nat := [0, 0, 0, 0]
  latched : List Nat := [0, 0, 0, 0]
  /-- the latched references wait to be written (R272) -/
  latchDue : Bool := false
  /-- tick of the last sample, where it fell in this frame (R272) -/
  tick : Option Nat := none
  /-- ride-through entries since EN (R294) -/
  entries : Nat := 0
  deriving DecidableEq, Repr

/-- Sums of one bin over a segment: real and imaginary parts of V_b and I_b (R286). -/
structure EeBin where
  vr : Nat := 0
  vi : Nat := 0
  ir : Nat := 0
  ii : Nat := 0
  deriving DecidableEq, Repr

/-- Eclipse. -/
structure EeSt where
  /-- consecutive samples of each passive condition, and the detectors tripped now, by bit of `EE_PEN` (R283) -/
  runs : List Nat := [0, 0, 0, 0, 0]
  tripped : Nat := 0
  /-- phase errors of the last half turn, newest first (R283) -/
  vsHist : List Nat := []
  /-- the vector-shift condition at the last sample -/
  vsNow : Bool := false
  /-- records of this frame's boundary: angle, v, i (R286) -/
  recTh : Option Nat := none
  recV : Option Nat := none
  recI : Option Nat := none
  /-- this boundary's records have been summed; a record of the running segment was missing or invalid -/
  summed : Bool := true
  drop : Bool := false
  /-- sums of the running segment, and the segments of the window, newest first -/
  seg : List EeBin := List.replicate 16 {}
  segs : List (List EeBin) := []
  /-- segments since the last publication, consecutive evaluations that met each rule, published estimates (R287) -/
  sincePub : Nat := 0
  zabsRun : Nat := 0
  zrelRun : Nat := 0
  base : List Nat := []
  /-- the last broadcast of the primary: n, FPB, seed, k0; and it has come since the loss of the group (R289) -/
  bcast : Option (Nat × Nat × Nat × Nat) := none
  groupLost : Bool := false
  /-- the primary has armed and its broadcast is due (R289) -/
  bcastDue : Bool := false
  deriving DecidableEq, Repr

end Sys2Proof.Machine
end

