-- ==== Sys2Proof/Machine/BlocksLe.lean ====
section
/-! DEFINITION. Machine/BlocksLe.lean: the state of a loop engine (chapter 05) beside its registers. Every default value is the
value at reset. -/

namespace Sys2Proof.Machine

/-- An issued job (R149, R158): the slot of its operation, its number, the engine whose program it belongs to, and the tag
and epoch it carries. -/
structure LeJob where
  slot : Nat
  job : Nat
  owner : Nat
  tag : Nat
  epoch : Nat
  deriving DecidableEq, Repr

/-- A running job: what it latched and loaded at its start (R151, R154, R159). -/
structure LeRun where
  job : LeJob
  /-- the modes of the 64 blocks, latched (R159) -/
  modes : Nat
  /-- the inputs loaded: signal number, value -/
  inputs : List (Nat × Nat)
  /-- T in tB (R151), frame angle of the issuing frame, increment and carrier period (R155), frequency -/
  ticks : Nat
  thetaB : Nat
  inc : Nat
  period : Nat
  freq : Nat
  /-- time of the frame's boundary, in tB -/
  boundary : Nat
  deriving DecidableEq, Repr

/-- A PHASE job that has ended and holds its outputs until WTICK (R154): output number, kind, pair, value; and the state
words as they stood at its start, for a cancel (R158). -/
structure LeHeld where
  job : LeJob
  outs : List (Nat × Nat × Nat × Nat)
  commit : Bool
  undo : List (Nat × Nat)
  deriving DecidableEq, Repr

/-- A capture set (R166): samples written, and the burst that runs with its slot and the samples left. -/
structure LeCap where
  count : Nat := 0
  truncated : Bool := false
  burst : Option (Nat × Nat) := none
  deriving DecidableEq, Repr

/-- One engine. -/
structure LeSt where
  /-- the two program banks and the cover image, word index to word (R139) -/
  img0 : List (Nat × Nat) := []
  img1 : List (Nat × Nat) := []
  cover : List (Nat × Nat) := []
  /-- the hand-over table of the other engine (R139) -/
  hoOther : List (Nat × Nat) := []
  /-- jobs waiting, oldest first (R138) -/
  queue : List LeJob := []
  /-- the job that runs, and the outputs that jobs have left for their apply times -/
  run : Option LeRun := none
  held : List LeHeld := []
  /-- jobs of this engine's program that have run since the bank switch (R151, R160) -/
  ran : List Nat := []
  /-- the mode of each block at its last run (R159) -/
  lastAuto : List (Nat × Bool) := []
  /-- blocks marked for a preset at a takeover (R160) -/
  marks : List Nat := []
  /-- boundary time of the last run of each job (R151) -/
  tlast : List (Nat × Nat) := []
  /-- an accepted image waits for its boundary (R148) -/
  accepted : Bool := false
  /-- this engine takes over the other's jobs at the next boundary (R161) -/
  failover : Bool := false
  /-- `LE_CMD.RETURN` waits for its boundary (R163) -/
  returning : Bool := false
  /-- jobs whose next run presets as if ADOPT = 1 (R163) -/
  adoptNext : List Nat := []
  /-- what the capture blocks hold -/
  caps : List LeCap := List.replicate 16 {}
  /-- frame counter when each injection was armed, and the phase of each sweep (R165) -/
  injStart : List Nat := [0, 0, 0, 0]
  injFirst : List Bool := [false, false, false, false]
  deriving DecidableEq, Repr

/-- Both engines. -/
structure LesSt where
  e0 : LeSt := {}
  e1 : LeSt := {}
  deriving DecidableEq, Repr

end Sys2Proof.Machine
end

