-- ==== Sys2Proof/Machine/BlocksMe.lean ====
section
/-! DEFINITION. Machine/BlocksMe.lean: the state of the metering engine (chapter 12) beside its registers. Every default value is the
value at reset. Sums are exact; those of currents are held in sixths, which the Lagrange filter of R316 yields. -/

namespace Sys2Proof.Machine

abbrev Dyadic.zero : Dyadic := ⟨0, 0⟩

/-- A calibrated sample set: its angle, its granule (0 none), whether it was substituted, codes and values per channel. -/
structure MeSet where
  theta : Nat
  gran : Nat
  subst : Bool
  codes : List Int
  x : List Dyadic
  deriving DecidableEq, Repr

/-- Sums of one phase over a granule (R318): Σv², Σi² × 36, Σv·i × 6, Σv_h·i × 6, and the real and imaginary sums of V1 and, × 6,
of I1. -/
structure MePhase where
  vv : Dyadic := ⟨0, 0⟩
  ii : Dyadic := ⟨0, 0⟩
  vi : Dyadic := ⟨0, 0⟩
  hi : Dyadic := ⟨0, 0⟩
  vr : Dyadic := ⟨0, 0⟩
  vm : Dyadic := ⟨0, 0⟩
  ir : Dyadic := ⟨0, 0⟩
  im : Dyadic := ⟨0, 0⟩
  deriving DecidableEq, Repr

/-- A granule that runs or waits to close (R320, R321). -/
structure MeGran where
  id : Nat
  sets : Nat := 0
  /-- sets whose products have been formed -/
  done : Nat := 0
  subst : Nat := 0
  /-- its closing edge has come; an interval boundary lay before that edge (R328) -/
  ended : Bool := false
  late : Bool := false
  ph : List MePhase := List.replicate 3 {}
  /-- Σ of IN² and of the residual², × 36 -/
  inn : Dyadic := ⟨0, 0⟩
  res : Dyadic := ⟨0, 0⟩
  /-- Σ of codes and of their squares per channel -/
  raw : List Int := List.replicate 7 0
  rawSq : List Int := List.replicate 7 0
  deriving DecidableEq, Repr

/-- The running demand interval (R327, R328). -/
structure MeIval where
  active : Bool := false
  start : Nat := 0
  granules : Nat := 0
  unknown : Bool := false
  incomplete : Bool := false
  part : Bool := false
  /-- end of the interval, once its boundary has passed -/
  due : Option Nat := none
  /-- it closes at the next granule close with FORCED (R337) -/
  force : Bool := false
  /-- a restored interval that may not continue (R332) -/
  stale : Bool := false
  /-- 64 accumulators of 64 bits -/
  acc : List Nat := List.replicate 64 0
  deriving DecidableEq, Repr

/-- The metering engine. -/
structure MeSt where
  /-- sets of the last 126 sample periods and the present one, newest first -/
  hist : List MeSet := []
  /-- the last valid set, as words (R316) -/
  lastValid : List Nat := List.replicate 7 0
  /-- consecutive substituted sets, and consecutive sets without `SETTLE` (R322, R333) -/
  substRun : Nat := 0
  settleRun : Nat := 0
  /-- granules, oldest first, and the number of the last one begun -/
  grans : List MeGran := []
  lastGran : Nat := 0
  /-- applied calibration: gains, offsets, delays per channel; thresholds P, Q, S per A, B, C, T; residual threshold (R317) -/
  gain : List Nat := List.replicate 7 0
  off : List Nat := List.replicate 7 0
  ph : List Nat := List.replicate 7 0
  nlth : List Nat := List.replicate 12 0
  nres : Nat := 0x4E6E6B28
  /-- a calibration write waits for the next edge -/
  calPend : Bool := false
  /-- residuals of the 64 accumulators, in 1/172 800 000 unit (R319) -/
  resid : List Dyadic := List.replicate 64 ⟨0, 0⟩
  /-- consecutive granules above the residual threshold (R338) -/
  nresRun : Nat := 0
  /-- the running interval -/
  ival : MeIval := {}
  /-- requests for the next granule close (R330, R331): cause 0 periodic, 2 command -/
  snapReq : Bool := false
  ckptReq : Option Nat := none
  ckptSeq : Nat := 0
  /-- `ME_FAULT` has been raised in this granule (R338) -/
  faulted : Bool := false
  deriving DecidableEq, Repr

end Sys2Proof.Machine
end

