-- ==== Sys2Proof/Machine/BlocksNv.lean ====
section
/-! DEFINITION. Machine/BlocksNv.lean: what the module keeps without supply: the OTP array, the non-volatile store of MC and the image
flash. Every default value is that of a new module in `MAKER` (R38). -/

namespace Sys2Proof.Machine

/-- The OTP array (R421), but for ROOT_HASH and the serial number, which are blown at manufacture (Config). -/
structure OtpSt where
  /-- OWNER_HASH0 to OWNER_HASH3, 256 bits each -/
  ownerHash : List Nat := [0, 0, 0, 0]
  /-- owner slot valid and revoked, bit n for slot n -/
  ownerValid : Nat := 0
  ownerRevoked : Nat := 0
  /-- life-cycle bytes LCB1 to LCB5 -/
  lcb : List Nat := [0, 0, 0, 0, 0]
  /-- blown bits of the anti-rollback counters RB0 to RB3, 128 at most -/
  rb : List Nat := [0, 0, 0, 0]
  /-- the value that a blow under R434 is to reach, of each counter; a blow cut short by loss of supply is completed at boot -/
  rbDue : List Nat := [0, 0, 0, 0]
  /-- the secret seeds of the identity key and of the owner storage keys (R421, R426) -/
  identitySeed : List Byte := List.replicate 32 0
  ownerSeed : List Byte := List.replicate 32 0
  deriving DecidableEq, Repr

/-- What is kept without supply. -/
structure NvSt where
  /-- the OTP array -/
  otp : OtpSt := {}
  /-- boot count (R422) -/
  bootCount : Nat := 0
  /-- the certificate (R427) and the owner public keys (R438); empty for none -/
  cert : List Byte := []
  ownerKeys : List (List Byte) := [[], [], [], []]
  /-- stored records (R413); empty for none -/
  bdr : List Byte := []
  gpr : List Byte := []
  /-- active slot of each image type, its trial slot, and whether the trial image runs (R432, R433) -/
  active : List Nat := [0, 0, 0, 0]
  trial : List (Option Nat) := [none, none, none, none]
  trialRuns : List Bool := [false, false, false, false]
  /-- slots, 2 × type + slot, whose last commit gave code 0 (R432) -/
  committed : List Nat := []
  /-- the image flash, byte offset, of those bytes that are not erased (R428) -/
  flash : List Host.Cell := []
  /-- checkpoint images, newest first, two slots (R331) -/
  ckpt : List (List Nat) := []
  /-- the two copies of the calibration record: applied words, then `ME_CAL_CRC` (R336) -/
  cal : List (List Nat) := []
  /-- the confirmed safety parameter record, empty for none (R377, R390) -/
  spr : List Nat := []
  deriving DecidableEq, Repr

end Sys2Proof.Machine
end

