-- ==== Sys2Proof/Machine/BlocksPe.lean ====
section
/-! DEFINITION. Machine/BlocksPe.lean: the state of Perihelion (chapter 11) beside its registers. Every default value is the
value at reset; measures are binary32. -/

namespace Sys2Proof.Machine

/-- The records of a span of frames: sums and counts of valid V and I. -/
structure PeSum where
  v : Nat := 0
  vn : Nat := 0
  i : Nat := 0
  k : Nat := 0
  deriving DecidableEq, Repr

/-- One channel. -/
structure PeChan where
  /-- records since the previous step (R300) -/
  acc : PeSum := {}
  /-- V_s, I_s and P_s of the previous step, and the direction it took (R303) -/
  prev : Option (Nat × Nat × Nat) := none
  dir : Int := 0
  /-- P_F, and consecutive steps below the drop threshold (R306) -/
  pf : Nat := 0
  dropRun : Nat := 0
  /-- cause of the queued request: 0 drop, 1 schedule, 2 command, 3 first track (R306, R310) -/
  cause : Nat := 0
  /-- TRACK has not been entered since `CH_EN` was set (R306) -/
  first : Bool := false
  /-- time of the last completed sweep, in tB (R306) -/
  lastSweep : Option Nat := none
  deriving DecidableEq, Repr

/-- The running sweep (R307). -/
structure PeSweep where
  ch : Nat
  cause : Nat
  /-- time, frame counter and frame length at the grant; frames per point -/
  start : Nat
  frame : Nat
  fpp : Nat
  /-- the reference before the sweep -/
  before : Nat
  /-- V_oc once the open-circuit phase has ended, and whether it is an estimate -/
  voc : Option Nat
  est : Bool
  /-- records of the phase's last half, or of the open point -/
  acc : PeSum
  /-- the points stored so far, newest first; `none` is an invalid point -/
  pts : List (Option (Nat × Nat))
  deriving DecidableEq, Repr

/-- Perihelion. -/
structure PeSt where
  chans : List PeChan := List.replicate 6 {}
  sweep : Option PeSweep := none
  /-- breakpoints of the active profile: point index and fraction; until one is accepted, 0.95 to 0.30 (R308) -/
  prof : List (Nat × Nat) := [(0, 0x3F733333), (2047, 0x3E99999A)]
  /-- an accepted profile image waits for its switch (R308) -/
  profWait : Option (List Nat) := none
  /-- consecutive steps of the conditions to enter and to leave curtailment (R304) -/
  curtIn : Nat := 0
  curtOut : Nat := 0
  /-- the sum of P_s of the last step (R313) -/
  psSum : Nat := 0
  deriving DecidableEq, Repr

end Sys2Proof.Machine
end

