-- ==== Sys2Proof/Machine/BlocksSafety.lean ====
section
/-! DEFINITION. Machine/BlocksSafety.lean: the state of the safety channel (chapter 14) beside the safety view registers. Every
default value is the value at reset. -/

namespace Sys2Proof.Machine

/-- Where the connection sequence of R382 stands: not running, step 1, stage 1 or stage 2 energised, or the pull-in wait
without feedback of either stage, or the return of the contacts after an opening. -/
inductive ContactStage where
  | none | released | stage1 | stage2 | wait1 | wait2 | release
  deriving DecidableEq, Repr

/-- The pre-energise test of R378: not running, or the output and the step that runs; `reset` says that it belongs to a
`SAFETY_RESET`. -/
structure PreTest where
  output : Nat
  step : Nat
  reset : Bool
  deriving DecidableEq, Repr

/-- What the safety channel holds beside its registers. Masks: bit n for output, input, function or connection n. -/
structure SafetySt where
  /-- hard lines of R65, per driver: PWM safe and drive-enable cut -/
  pwmSafeSc : Bool := false
  pwmSafeHsl : Bool := false
  cutSc : Bool := false
  cutHsl : Bool := false
  /-- output switches held on: high sides by SC, low sides by HSL (R374) -/
  rlyH : Nat := 0
  rlyL : Nat := 0
  /-- SF1 demands present: bit 0 abnormal-grid line, 1 island line, 2 HSL grid windows, 4 SC grid checks, 5 analog window;
  those of PDUs follow from the connections (R376) -/
  sf1 : Nat := 0
  /-- SF4 demands of their own: bit 0 analog window, 1 `CP_BOTH_LOST`, 2 `SLINK_DOWN`, 3 a supply hold that
  expired (R486), 4 loss of lock of `PLL_PWM` (R481), 5 diagnostic fault or self-check failure that latched the channel (R376,
  R377) -/
  sf4 : Nat := 0
  /-- an SF3 failure has occurred since the last `SAFETY_RESET` (R382) -/
  sf3 : Bool := false
  /-- the 64 words of the record loaded last that passed R389, empty for none; whether it is confirmed (R388, R390) -/
  spr : List Nat := []
  confirmed : Bool := false
  /-- a confirmation window has been opened for this record (R390) -/
  winOpened : Bool := false
  /-- the contact check and the pre-energise test that run (R378, R382) -/
  contact : ContactStage := .none
  pre : Option PreTest := none
  /-- the switch being off-pulsed: 2n for RLYn_H, 2n + 1 for RLYn_L (R379) -/
  pulse : Option Nat := none
  /-- consecutive judged samples of demand and of non-demand per input (R383) -/
  demandRun : List Nat := List.replicate 8 0
  clearRun : List Nat := List.replicate 8 0
  /-- consecutive low samples per input on an external source (R384) -/
  lowRun : List Nat := List.replicate 8 0
  /-- samples for which a function's channels have disagreed (R385) -/
  discRun : List Nat := List.replicate 4 0
  /-- functions in discrepancy that must show demand on both channels before release (R385) -/
  discHeld : Nat := 0
  /-- consecutive failed test-pulse cycles per input; the inputs that failed in this cycle (R384, R385) -/
  tpoFails : List Nat := List.replicate 8 0
  tpoCycle : Nat := 0
  /-- SF2 functions released that still hold the module in FAULT_HOLD (R385) -/
  restartHold : Nat := 0
  /-- the module is in FAULT_HOLD for SF2 demands alone (R377) -/
  sf2Hold : Bool := false
  /-- times of the discards of each connection within the last second, in tB (R393) -/
  discards : List (List Nat) := List.replicate 4 []
  /-- the partner is lost; the channels differ (R375) -/
  partnerLost : Bool := false
  differs : Bool := false
  /-- HSL judges its grid windows (R387) -/
  hslArmed : Bool := false
  deriving DecidableEq, Repr

end Sys2Proof.Machine
end

