-- ==== Sys2Proof/Machine/BlocksSec.lean ====
section
/-! DEFINITION. Machine/BlocksSec.lean: what the management region holds for identity, images and the life cycle (chapter 16), and for
clocks, power and the indicators (chapters 19 and 20), beside registers. Every default value is the value at first power. -/

namespace Sys2Proof.Machine

/-- A loaded image (R440): version, rollback, measurement and payload. -/
structure LoadedImage where
  version : Nat
  rollback : Nat
  measurement : Nat
  payload : List Byte
  deriving DecidableEq, Repr

/-- A token being staged (R441): its port, its total length, the bytes received. -/
structure TokenStage where
  port : Port
  total : Nat
  bytes : List Byte
  deriving DecidableEq, Repr

/-- Security. -/
structure SecSt where
  /-- the boot ROM has to run, and has run (R422) -/
  romDue : Bool := true
  romRan : Bool := false
  /-- the package (and not MR alone) was reset, so SC and the pairs load as well (R437) -/
  package : Bool := true
  /-- the root key compared equal at the last execution (R422) -/
  rootOk : Bool := false
  /-- image of each type as loaded (R431) -/
  loaded : List (Option LoadedImage) := [none, none, none, none]
  /-- flash sectors erased since the last commit of their slot (R432) -/
  erased : List Nat := []
  token : Option TokenStage := none
  /-- life-cycle state in force, decoded from the OTP array at boot and at transitions (R423) -/
  lc : Nat := 0
  deriving DecidableEq, Repr

/-- Clocks, power and indicators. -/
structure ClkSt where
  /-- the power state that a running transition goes to (R488), and that a wake source waits for its end (R494) -/
  target : Option PowerState := none
  wakeWaits : Bool := false
  /-- a return to `RUN` has reapplied the records and waits for a pair (R488) -/
  reapplied : Bool := false
  /-- the ramp returns to nominal (R482) -/
  rampReturns : Bool := false
  /-- a region mask written to `RST_CMD` (R492) -/
  rstDue : Option Nat := none
  /-- the lamps of IND0 and IND1 are lit (R500) -/
  ind0 : Bool := false
  ind1 : Bool := false
  /-- the slot that comes next in the 2 s cycle, and the slots since power-good, up to 8 (R500, R501) -/
  slot : Nat := 0
  sinceGood : Nat := 0
  /-- the lands of the HOST bank are at high impedance for want of VDDIO, and those of the QSPI port (R485, R435) -/
  hostHighZ : Bool := true
  qspiHighZ : Bool := true
  deriving DecidableEq, Repr

end Sys2Proof.Machine
end

