-- ==== Sys2Proof/Machine/BlocksSense.lean ====
section
/-! DEFINITION. Machine/BlocksSense.lean: the state of the SAR converters (chapter 08) beside their registers. Every default
value is the value at reset. -/

namespace Sys2Proof.Machine

/-- A converter's configuration as it is in force (R239). -/
structure SarCfg where
  mask : Nat := 0
  refsel : Nat := 0
  seq0 : List Nat := [0]
  seq1 : List Nat := [0]
  cmpSrc : Nat := 0
  cmpEn : Bool := false
  /-- per channel: gain code, averaging exponent -/
  gain : List Nat := List.replicate 12 0
  avg : List Nat := List.replicate 12 0
  /-- channel masks of BUFON and OVR_EVT -/
  buf : Nat := 0
  ovrEvt : Nat := 0
  deriving DecidableEq, Repr

/-- An injected sequence, running or queued (R231, R239): its slots with the gains of its trigger, the slots converted, the
tag it carries, the slot of its Orbit operation. -/
structure SarSeq where
  chans : List (Nat × Nat)
  pos : Nat
  tag : Nat
  op : Option Nat
  deriving DecidableEq, Repr

/-- The conversion under way (R228): channel, gain code, the tag at its sampling instant; for an injected one its slot, whether
it is the last, and its operation; and whether its buffer was in low-power mode (R238). -/
structure SarConv where
  chan : Nat
  gain : Nat
  tag : Nat
  inj : Option (Nat × Bool × Option Nat)
  low : Bool
  deriving DecidableEq, Repr

/-- A result on the sense link (R244). -/
structure SarPkt where
  code : Nat
  chan : Nat
  ovr : Bool
  settle : Bool
  inj : Bool
  tag : Nat
  seqNo : Nat
  pos : Nat
  last : Bool
  resume : Bool
  op : Option Nat
  deriving DecidableEq, Repr

/-- An averaging window (R229). -/
structure SarWin where
  sum : Int := 0
  n : Nat := 0
  ovr : Bool := false
  settle : Bool := false
  deriving DecidableEq, Repr

/-- One converter. -/
structure SarSt where
  /-- the configuration in force (R239) -/
  cfg : SarCfg := {}
  /-- shadows were written in this frame; one of them late (R239) -/
  wrote : Bool := false
  late : Bool := false
  /-- a late commit that waits for the next boundary; a commit that waits for the next conversion start -/
  snap : Option SarCfg := none
  ready : Option SarCfg := none
  /-- the conversion that runs, the injected sequence that runs and the one that is queued (R231 to R233) -/
  cur : Option SarConv := none
  run : Option SarSeq := none
  queue : Option SarSeq := none
  /-- a check waits for the present work (R240) -/
  checkPend : Bool := false
  /-- the channel of the last scan conversion begun, and of the one before it -/
  lastScan : Option Nat := none
  prevScan : Option Nat := none
  /-- the next scan result follows an injected sequence or a check (R244) -/
  resume : Bool := false
  /-- the averaging window of each channel (R229) -/
  wins : List SarWin := List.replicate 12 {}
  /-- conversions still marked after a gain change, results still marked after a reference change (R238) -/
  settle : List Nat := List.replicate 12 0
  refSettle : List Nat := List.replicate 12 0
  /-- next packet sequence number, and the packets on the link -/
  seqNo : Nat := 0
  flight : List SarPkt := []
  /-- the FIFO on CD, oldest first -/
  fifo : List Nat := []
  /-- frame tag of the last packet taken -/
  lastTag : Nat := 0
  /-- channels that have had a result since a reset (R237, R261) -/
  had : Nat := 0
  deriving DecidableEq, Repr

/-- The eight converters, and for each outstanding Orbit operation the converters that have not delivered their last result
(R92). -/
structure SenseSt where
  /-- the 8 converters -/
  sars : List SarSt := List.replicate 8 {}
  /-- converters that have not delivered the last result of an operation, by slot (R92) -/
  opLeft : List (Nat × Nat) := []
  deriving DecidableEq, Repr

end Sys2Proof.Machine
end

