-- ==== Sys2Proof/Machine/BlocksTpp.lean ====
section
/-! DEFINITION. Machine/BlocksTpp.lean: the state of the Tilyen packet protocol (chapter 15): ports, sessions, queues, record
staging. Every default value is the value at reset. -/

namespace Sys2Proof.Machine

/-- A request that waits to be taken (R402): its bytes from SYNC, and whether it came while its port could not take it: with its
SEQ outstanding, as a HELLO beside another command, or beyond what the port may have outstanding (R401, R408, R419, R420). -/
structure Request where
  port : Port
  raw : List Byte
  busy : Bool
  deriving DecidableEq, Repr

/-- A reply or a notice that waits to be sent (R399, R406): `tag` is its TAG field, empty outside an authenticated session;
`stamp` orders replies and notices. -/
structure Reply where
  ver : Nat
  opcode : Nat
  seq : Nat
  status : Nat
  payload : List Byte
  tag : List Byte
  stamp : Nat
  deriving DecidableEq, Repr

/-- How far the four-request handshake of R409 has come. -/
inductive Handshake where
  | none | offered | proved | ciphered
  deriving DecidableEq, Repr

/-- One port: negotiated version, session, outstanding commands, reply and notice queues (R398 to R409). -/
structure PortSt where
  /-- negotiated version, 0 before a successful HELLO (R401 check 4) -/
  ver : Nat := 0
  /-- an authenticated session is established, and its key (R409, R438) -/
  auth : Bool := false
  kMac : Nat := 0
  /-- the owner slot whose key opened the session (R438, R446) -/
  owner : Nat := 0
  /-- SEQ of the last accepted request (R401 check 6) -/
  lastSeq : Nat := 0
  /-- consecutive requests that failed check 6 (R409) -/
  authFails : Nat := 0
  /-- the stage of the handshake (R438) -/
  handshake : Handshake := .none
  /-- transcript bytes, shared secret and nonces of the running handshake (R438) -/
  transcript : List Byte := []
  secret : Nat := 0
  /-- ephemeral ML-KEM key pair of the running handshake (R438) -/
  kemKey : Nat := 0
  /-- replies not yet read in full, oldest first: each still occupies its command slot (R404) -/
  replies : List Reply := []
  /-- notices waiting (R406) -/
  notices : List Reply := []
  /-- NOTIFY_CFG mask, bit n for event n (R532) -/
  mask : Nat := 0
  /-- number of the next notice (R406) -/
  noticeCtr : Nat := 0
  /-- the model's own: counts what has been queued, for the order of replies and notices -/
  stamp : Nat := 0
  /-- notices lost since the last one queued (R406) -/
  noticeLost : Nat := 0
  /-- time of the last notice of each event, in tB (R406) -/
  noticeTime : List (Nat × Nat) := []
  deriving DecidableEq, Repr

/-- The staging of one record: its owner, the bytes received, and the words before their end that no chunk has brought (R413). -/
structure Staging where
  owner : Option Port := none
  bytes : List Byte := []
  missing : List Nat := []
  deriving DecidableEq, Repr

/-- The CONNECT section of the GPR in force (R415). -/
structure ConnectCfg where
  vmin : Nat := 0
  vmax : Nat := 0
  fmin : Nat := 0
  fmax : Nat := 0
  holdMs : Nat := 0
  timeoutS : Nat := 0
  autoReconnect : Bool := false
  deriving DecidableEq, Repr

/-- The orderly disconnection of R411: nothing, waiting for the next boundary, or counting the two frames to PWM safe. -/
inductive Disconnecting where
  | none
  | gsStop
  | pwmSafe (frames : Nat)
  deriving DecidableEq, Repr

/-- A TUNNEL request that waits for its target module (R420). -/
structure TunnelWait where
  req : Request
  target : Nat
  deriving DecidableEq, Repr

/-- A LINK_TEST that runs (R370, R417). -/
structure LinkTestWait where
  req : Request
  lane : Nat
  deriving DecidableEq, Repr

/-- What TPP holds. -/
structure TppSt where
  /-- the host port, the service port, and the tunnel ports of modules 0 to 7 (R403, R419, R420) -/
  host : PortSt := {}
  service : PortSt := {}
  tunnels : List PortSt := List.replicate 8 {}
  /-- requests of all ports in order of arrival (R402) -/
  queue : List Request := []
  /-- WRITEs discarded for want of a slot (R404, R418) -/
  overflow : Nat := 0
  /-- bytes of the service receiver's present packet (R419) -/
  svcRx : List Byte := []
  /-- the bytes that the last READ transfer shifted out (R403), and the bytes last sent by the service UART (R419) -/
  miso : List Byte := []
  svcTx : List Byte := []
  /-- TPP packets last given to Comet for a module (R420) -/
  tunnelTx : List (Nat × List Byte) := []
  /-- the staging of each kind of record, with its owner (R413) -/
  bdrStage : Staging := {}
  gprStage : Staging := {}
  sprStage : Staging := {}
  /-- records in force (R412, R416) -/
  bdr : List Byte := []
  gpr : List Byte := []
  /-- a GPR is committed and its profile or its entries still wait (R416) -/
  gprPending : Option (List Byte) := none
  /-- the profile of the GPR in force has switched and its entries have applied (R416) -/
  gprActive : Bool := false
  /-- the CONNECT section that SYNCING uses, and that of the GPR in force, which the next entry to SYNCING takes (R416) -/
  connect : ConnectCfg := {}
  connectNext : ConnectCfg := {}
  /-- a connection has been commanded and not a disconnection since (R411) -/
  connectWanted : Bool := false
  /-- a disconnection that runs (R411) -/
  disc : Disconnecting := .none
  /-- TUNNEL requests that wait for their target modules (R420) -/
  tunnelWait : List TunnelWait := []
  /-- the LINK_TEST that runs (R370, R417) -/
  linkTest : Option LinkTestWait := none
  deriving DecidableEq, Repr

end Sys2Proof.Machine
end

