-- ==== Sys2Proof/Machine/BlocksUmb.lean ====
section
/-! DEFINITION. Machine/BlocksUmb.lean: what the Umbra region holds beside its registers (chapter 18). Every default value is the
value at reset: just after an Umbra cold start of a new module, before recovery. -/

namespace Sys2Proof.Machine

/-- An event record (R468): seconds of origin, sequence number, code, flags byte and the five data bytes as a number. Its CRC
follows from them. -/
structure UmbRec where
  sec : Nat
  seq : Nat
  code : Nat
  flags : Nat
  data : Nat
  deriving DecidableEq, Repr

/-- What Umbra holds. -/
structure UmbSt where
  /-- not DEAD (R462) -/
  alive : Bool := true
  /-- VDD stands above its reset level -/
  vdd : Bool := true
  /-- the 512 slots: slot, record; slots rising, an unlisted slot holds no valid record (R468) -/
  store : List (Nat × UmbRec) := []
  /-- the journal slot, where it is valid: target slot and record (R471) -/
  journal : Option (Nat × UmbRec) := none
  /-- the outage counter and the measured capacitance of the control area (R461, R466) -/
  outage : Nat := 0
  cap : Option Nat := none
  /-- next slot and next SEQ, fixed by the scan (R473); none while the store is empty -/
  next : Option (Nat × Nat) := none
  /-- records staged, oldest first (R472) -/
  staged : List UmbRec := []
  /-- records dropped since the last STAGING_LOST record (R472) -/
  drops : Nat := 0
  /-- levels of TAMPER and SVC_PLUG_N at the last sample (R467) -/
  lastTamper : Bool := false
  lastPlugN : Bool := true
  /-- seconds at the last LINKED to KEEP, where Umbra has not been DEAD since (R466) -/
  darkSince : Option Nat := none
  /-- the capacitance has been measured since the cold start (R461) -/
  measured : Bool := false
  /-- the oscillator has been trimmed since the cold start (R465) -/
  trimmed : Bool := false
  deriving DecidableEq, Repr

end Sys2Proof.Machine
end

