-- ==== Sys2Proof/Machine/State.lean ====
section
/-! DEFINITION. Machine/State.lean: the whole state of the module, and the reasons a step can stop. A register is held field
by field in one sparse list (an unlisted field reads its reset value); everything else the spec gives a block stands in
that block's structure. State is plain data. -/

namespace Sys2Proof.Machine

/-- The model has no fault: a bus error is an effect recorded in `State.bus` (R7), and a refused TPP request is answered
with its status (R401). `unreachable` is raised by no command; it is safe. -/
inductive Fault where
  | unreachable
  deriving DecidableEq, Repr

/-- Refusals. `notModelled` is raised by `exec` for a command that has no meaning yet; it is safe. -/
inductive Refusal where
  | notModelled (mnemonic : String)
  deriving DecidableEq, Repr

/-- The state of the module. -/
structure State where
  /-- the register fields that differ from their reset value: field key, value; keys strictly rising (R7 to R10) -/
  regs : List (Nat × Nat)
  /-- keys of the RW1 fields written since their domain was reset (R9) -/
  rw1 : List Nat
  /-- shared data SRAM, byte offset from 0x1000_0000 (R44) -/
  sram : List Host.Cell
  /-- capture buffer, byte offset from 0x2000_0000 (R69) -/
  capture : List Host.Cell
  /-- tightly coupled memory of pair A (R69) -/
  tcmA : List Host.Cell
  /-- tightly coupled memory of pair B (R69) -/
  tcmB : List Host.Cell
  /-- memory of MC (R69) -/
  mcMem : List Host.Cell
  /-- memory of SC (R69) -/
  scMem : List Host.Cell
  /-- what the last bus access returned (R7, R44, R46, R47, R93) -/
  bus : BusResp
  /-- operating state (R11) -/
  oper : OperState
  /-- power state (R12) -/
  power : PowerState
  /-- time of the last boundary in tB; the notices of R406 and the T of R151 read it -/
  now : Nat
  /-- the model's own field: how many free values have been taken -/
  freeCtr : Nat
  /-- crossings (chapter 02) -/
  cross : CrossSt
  /-- sense link (R66) -/
  slink : SlinkSt
  /-- Orbit (chapter 03) -/
  orbit : OrbitSt
  /-- core pairs (chapter 04) -/
  pairs : PairsSt
  /-- PWM (chapter 06) -/
  pwm : PwmSt
  /-- loop engines (chapter 05) -/
  les : LesSt
  /-- safety channel (chapter 14) -/
  safety : SafetySt
  /-- Tilyen packet protocol (chapter 15) -/
  tpp : TppSt
  /-- drive interface (chapter 07) -/
  drv : DrvSt
  /-- sense converters (chapter 08) -/
  sense : SenseSt
  /-- comparator windows (chapter 09) -/
  cmp : CmpSt
  /-- grid support (chapter 10) -/
  gs : GsSt
  /-- Eclipse (chapter 10) -/
  ee : EeSt
  /-- Perihelion (chapter 11) -/
  pe : PeSt
  /-- metering engine (chapter 12) -/
  me : MeSt
  /-- non-volatile store -/
  nv : NvSt
  /-- Comet (chapter 13) -/
  cmt : CmtSt
  /-- Umbra (chapter 18) -/
  umb : UmbSt
  /-- check-value units (chapter 17) -/
  cvu : CvuSt
  /-- identity, images, life cycle (chapter 16) -/
  sec : SecSt
  /-- clocks, power, indicators (chapters 19 and 20) -/
  clk : ClkSt
  /-- commands that wait, first in, first out -/
  pending : List Instr
  deriving DecidableEq, Repr

/-- The module at first power: every register field at its reset value, every memory empty, no command waiting. -/
def State.reset : State where
  regs := []
  rw1 := []
  sram := []
  capture := []
  tcmA := []
  tcmB := []
  mcMem := []
  scMem := []
  bus := .none
  oper := .boot
  power := .run
  now := 0
  freeCtr := 0
  cross := {}
  slink := {}
  orbit := {}
  pairs := {}
  pwm := {}
  les := {}
  safety := {}
  tpp := {}
  drv := {}
  sense := {}
  cmp := {}
  gs := {}
  ee := {}
  pe := {}
  me := {}
  nv := {}
  cmt := {}
  umb := {}
  cvu := {}
  sec := {}
  clk := {}
  pending := []

end Sys2Proof.Machine
end

