-- ==== Sys2Proof/Machine/Ops.lean ====
section
/-! DEFINITION. Machine/Ops.lean: the named operations over registers, memories, events, free values and the module's safe
state that every block's meanings are written with. -/

namespace Sys2Proof.Machine

/-- What a meaning answers. -/
abbrev Out := Host.Outcome State Fault Refusal

/-! ### Sparse lists: keys strictly rising, no entry equal to what an unlisted key reads as -/

/-- What a sparse list holds for a key; `d` is what an unlisted key reads as. -/
def sparseGet {α : Type} (m : List (Nat × α)) (k : Nat) (d : α) : α :=
  match m with
  | [] => d
  | (k', v) :: r => if k' = k then v else sparseGet r k d

/-- Insert or replace an entry, keys rising. -/
def sparseInsert {α : Type} : List (Nat × α) → Nat → α → List (Nat × α)
  | [], k, v => [(k, v)]
  | (k', v') :: r, k, v =>
    if k < k' then (k, v) :: (k', v') :: r
    else if k = k' then (k, v) :: r
    else (k', v') :: sparseInsert r k v

/-- Remove a key. -/
def sparseErase {α : Type} : List (Nat × α) → Nat → List (Nat × α)
  | [], _ => []
  | (k', v') :: r, k => if k' = k then r else (k', v') :: sparseErase r k

/-- Write a value: an entry equal to what an unlisted key reads as is not kept. -/
def sparseSet {α : Type} [DecidableEq α] (m : List (Nat × α)) (k : Nat) (v d : α) : List (Nat × α) :=
  if v = d then sparseErase m k else sparseInsert m k v

/-- The canonical form: keys strictly rising. -/
def keysRise {α : Type} : List (Nat × α) → Bool
  | [] => true
  | [_] => true
  | (k, _) :: (k', v') :: r => decide (k < k') && keysRise ((k', v') :: r)

/-- No entry equals `d`. -/
def noDefault {α : Type} [DecidableEq α] (d : α) (m : List (Nat × α)) : Bool := m.all fun e => decide (e.2 ≠ d)

/-- A memory in its canonical form: an unlisted byte reads 0 (DESIGN CHOICE, notes/assumptions 3). -/
abbrev Memory.wf (m : List Host.Cell) : Prop := (keysRise m && noDefault (0 : Byte) m) = true

/-- One byte of a memory. -/
def memByte (m : List Host.Cell) (a : Nat) : Byte := sparseGet m a 0

/-- Write one byte. -/
def memSetByte (m : List Host.Cell) (a : Nat) (b : Byte) : List Host.Cell := sparseSet m a b 0

/-- Write bytes at rising addresses. -/
def memWrite (m : List Host.Cell) (a : Nat) : List Byte → List Host.Cell
  | [] => m
  | b :: bs => memWrite (memSetByte m a b) (a + 1) bs

/-- Read `n` bytes. -/
def memRead (m : List Host.Cell) (a n : Nat) : List Byte := (List.range n).map fun i => memByte m (a + i)

/-- Read a little-endian word (R7). -/
def memWord (m : List Host.Cell) (a : Nat) : Nat := leNat (memRead m a 4)

/-- One word of a word-indexed bank; an unlisted word is 0. -/
def bankWord (m : List (Nat × Nat)) (i : Nat) : Nat := sparseGet m i 0

/-- Write one word of a bank. -/
def bankSet (m : List (Nat × Nat)) (i v : Nat) : List (Nat × Nat) := sparseSet m i (v % 2 ^ 32) 0

/-- Element `i` of a list of fixed length. -/
def nth {α : Type} (l : List α) (i : Nat) (d : α) : α := l.getD i d

/-- Replace element `i`. -/
def setNth {α : Type} (l : List α) (i : Nat) (v : α) : List α := l.set i v

namespace State

/-! ### Register fields -/

/-- The value of a register field (R10: an unlisted field stands at its reset value). -/
def rd (s : State) (f : Fld) : Nat := sparseGet s.regs f.key f.rst

/-- Write a register field; bits beyond its width are dropped. -/
def wr (s : State) (f : Fld) (v : Nat) : State :=
  { s with regs := sparseSet s.regs f.key (v % 2 ^ f.width) f.rst }

/-- The field reads 1. -/
def on (s : State) (f : Fld) : Bool := s.rd f == 1

/-- Set bit `n` of a field. -/
def setB (s : State) (f : Fld) (n : Nat) : State := s.wr f (setBit (s.rd f) n)

/-- Clear bit `n` of a field. -/
def clrB (s : State) (f : Fld) (n : Nat) : State := s.wr f (clearBit (s.rd f) n)

/-- Give bit `n` of a field the value `b`. -/
def putB (s : State) (f : Fld) (n : Nat) (b : Bool) : State := s.wr f (putBit (s.rd f) n b)

/-- Increment a saturating counter field. -/
def incSat (s : State) (f : Fld) : State := s.wr f (satInc (2 ^ f.width - 1) (s.rd f))

/-- Add to a saturating counter field. -/
def addSat (s : State) (f : Fld) (n : Nat) : State := s.wr f (satAdd (2 ^ f.width - 1) (s.rd f) n)

/-- Increment a counter field that wraps. -/
def incWrap (s : State) (f : Fld) : State := s.wr f (s.rd f + 1)

/-- The word of a register from its fields. -/
def fieldsWord (s : State) (fs : List FieldRow) : Nat := fs.foldl (fun w f => w + s.rd f.fld * 2 ^ f.fld.lo) 0

/-- The word of the register at an address of the given rows, 0 where no row covers it. -/
def wordIn (s : State) (rows : List RegRow) (a : Nat) : Nat :=
  match findRow rows a with
  | some fs => s.fieldsWord fs
  | none => 0

/-- Every field of the registers from one address up to another takes its reset value. -/
def clearRegs (s : State) (lo hi : Nat) : State :=
  { s with regs := s.regs.filter fun e => decide (e.1 < lo * 32) || decide (hi * 32 ≤ e.1) }

/-- Apply an operation where a condition holds. -/
def when (s : State) (c : Bool) (f : State → State) : State := if c then f s else s

/-- Apply an operation for each element of a list, in order. -/
def forEach {α : Type} (s : State) (l : List α) (f : State → α → State) : State := l.foldl f s

/-- A run count follows its condition. -/
def runOf (m : Nat) (c : Bool) (n : Nat) : Nat := if c then satInc m n else 0

/-! ### Free values -/

/-- Take a fresh free value (Config.freeWord). -/
def takeFree (s : State) : Nat × State := (Config.freeWord s.freeCtr, { s with freeCtr := s.freeCtr + 1 })

/-! ### TPP notices (R406) -/

/-- A reply's bytes from SYNC to the end of its payload (R399). -/
def replyHead (ver opcode seq status : Nat) (payload : List Byte) : List Byte :=
  leBytes 1 0x5A ++ leBytes 1 ver ++ leBytes 2 opcode ++ leBytes 2 seq ++ leBytes 2 status ++ leBytes 2 payload.length ++ payload

/-- The tag of a reply: present in an authenticated session, KMAC256 under its key with the customisation string "TPP-P" (R400). -/
def replyTag (p : PortSt) (ver opcode seq status : Nat) (payload : List Byte) : List Byte :=
  if p.auth then leBytes 16 (Config.kmac256 p.kMac (replyHead ver opcode seq status payload) [0x54, 0x50, 0x50, 0x2D, 0x50] 16) else []

/-- The notice of an event on one port: only at version 1.1 or above, from 2.3 for EV152 to EV167 (R407, R532), not within
10 ms (8 000 000 tB) of the last one; lost and counted where the port holds 8 already. -/
def portNotice (s : State) (p : PortSt) (ev : Nat) : PortSt :=
  if !hasBit p.mask ev || p.ver < 0x11 || (152 ≤ ev && ev ≤ 167 && p.ver < 0x23) then p
  else
    let recent := match p.noticeTime.find? (fun e => e.1 == ev) with
      | some (_, t) => decide (s.now < t + 8000000)
      | none => false
    if recent then p
    else if 8 ≤ p.notices.length then { p with noticeLost := satInc max16 p.noticeLost }
    else
      let payload := leBytes 2 ev ++ leBytes 2 p.noticeLost ++ leBytes 4 (s.rd Reg.ORB_FRAME_COUNT)
        ++ leBytes 4 (s.rd Reg.UMB_SECONDS_SEC) ++ leBytes 4 0
      let r : Reply := { ver := p.ver, opcode := 0x0A80, seq := p.noticeCtr, status := 0, payload := payload,
                         tag := replyTag p p.ver 0x0A80 p.noticeCtr 0 payload, stamp := p.stamp }
      { p with notices := p.notices ++ [r], stamp := p.stamp + 1, noticeCtr := (p.noticeCtr + 1) % 65536, noticeLost := 0,
               noticeTime := (ev, s.now) :: p.noticeTime.filter (fun e => e.1 != ev) }

/-- The notice of an event routed to MC, on the host port and every tunnel port; the service profile sends none (R419). -/
def notify (s : State) (ev : Nat) : State :=
  { s with tpp := { s.tpp with host := s.portNotice s.tpp.host ev,
                               tunnels := s.tpp.tunnels.map (fun p => s.portNotice p ev) } }

/-! ### Event fabric (R70 to R74) -/

/-- The targets of a source: its route, and SC always for EV152 to EV167 (R71). -/
def eventTargets (s : State) (ev : Nat) : Nat :=
  let t := s.rd (Reg.EVF_ROUTE_TARGET ev)
  if 152 ≤ ev && ev ≤ 167 then setBit t 2 else t

/-- Deliver a raise to one target: set its pending bit, or coalesce into the pending one and count (R71). -/
def deliver (s : State) (ev t : Nat) : State :=
  let f := Reg.EVF_PEND_PEND t (ev / 32)
  if hasBit (s.rd f) (ev % 32) then s.incSat Reg.EVF_COAL_COUNT else s.setB f (ev % 32)

/-- The state numbers of a core pair (`CP_STATUS.A_STATE`, R133, R137). -/
abbrev pairOff : Nat := 0
abbrev pairSelftest : Nat := 1
abbrev pairSync : Nat := 2
abbrev pairStandby : Nat := 3
abbrev pairActive : Nat := 4
abbrev pairFailed : Nat := 5

/-- The state field of a pair. -/
def pairStateFld : PairId → Fld
  | .a => Reg.CP_STATUS_A_STATE
  | .b => Reg.CP_STATUS_B_STATE

/-- The state of a pair (R133). -/
def pairState (s : State) (p : PairId) : Nat := s.rd (pairStateFld p)

/-- What the supervisor holds of a pair. -/
def pair (s : State) : PairId → PairSt
  | .a => s.pairs.a
  | .b => s.pairs.b

/-- Replace what the supervisor holds of a pair. -/
def setPair (s : State) (p : PairId) (v : PairSt) : State :=
  match p with
  | .a => { s with pairs := { s.pairs with a := v } }
  | .b => { s with pairs := { s.pairs with b := v } }

/-- A raise routed to target 0 also reaches the private copy of a pair in STANDBY (R124). -/
def deliverStandby (s : State) (ev : Nat) (p : PairId) : State :=
  if s.pairState p = pairStandby then
    let v := s.pair p
    s.setPair p { v with pend := setNth v.pend (ev / 32) (setBit (nth v.pend (ev / 32) 0) (ev % 32)) }
  else s

/-- An Orbit trigger input is raised (R70, R96): only its first raise in a frame counts. -/
def trigOrbit (s : State) (n : Nat) : State :=
  if s.orbit.trigInputs.any (fun e => e.1 == n) then s
  else { s with orbit := { s.orbit with trigInputs := s.orbit.trigInputs ++ [(n, s.rd Reg.ORB_TICK_TICK)] } }

/-- Raise an event (R70 to R72): every routed target gets it, and an event routed to MC gives a notice (R406). -/
def raise (s : State) (ev : Nat) : State :=
  let t := s.eventTargets ev
  let s := s.forEach (bitsOf 6 t) (fun s i => s.deliver ev i)
  let s := s.when (hasBit t 0) (fun s => (s.deliverStandby ev .a).deliverStandby ev .b)
  let s := s.when (hasBit t 5) (fun s => s.trigOrbit (s.rd (Reg.EVF_ROUTE_OTRIG ev)))
  s.when (hasBit t 1) (fun s => s.notify ev)

/-- Write an RW1 field: taken once until the reset of its domain (R9). -/
def wrOnce (s : State) (f : Fld) (v : Nat) : State :=
  if s.rw1.contains f.key then s else { s.wr f v with rw1 := f.key :: s.rw1 }

/-- Set a flag field and raise an event. -/
def flagRaise (s : State) (f : Fld) (ev : Nat) : State := (s.wr f 1).raise ev

/-! ### The active pair and bus rights (R46, R48, R64, R124, R137) -/

/-- A package reset `FATALRST` becomes due (R39). -/
def fatalDue (s : State) : State := { s with pairs := { s.pairs with fatalDue := true } }

/-- `CROSS_CTRL.CP_RUN`: a core pair is active. -/
def cpRun (s : State) : Bool := s.on Reg.CROSS_CTRL_CP_RUN

/-- The pair that `CP_STATUS.ACTIVE` names. -/
def activePair (s : State) : PairId := if s.on Reg.CP_STATUS_ACTIVE then .b else .a

/-- Where an address of the peripheral window lies (R69). -/
inductive Window where
  | control | data | management | crossing | safetyView | umbra | outside
  deriving DecidableEq, Repr

/-- The plane of a block window (R43, R69). -/
def windowOf (a : Nat) : Window :=
  if a < 0x40000000 || 0x40100000 ≤ a then .outside
  else
    let b := fieldOf a 16 4
    if b = 6 || b = 7 || b = 8 then .data
    else if b = 10 || b = 13 then .management
    else if b = 12 then .crossing
    else if b = 14 then .safetyView
    else if b = 15 then .umbra
    else .control

/-- What becomes of a write: performed, acknowledged and left undone, answered with a bus error, or suppressed and counted
(R46, R64, R124, R137), or discarded behind a fence and counted (R122). -/
inductive Right where
  | allow | ignore | error | suppress | fence
  deriving DecidableEq, Repr

/-- The pair behind a master. -/
def masterPair? : Master → Option PairId
  | .pairA => some .a
  | .pairB => some .b
  | _ => none

/-- The right of a pair in state `st` (R46, R64, R124, R137). -/
def pairRight (st : Nat) (w : Window) (dom : Domain) : Right :=
  if st = pairStandby then .suppress
  else if st = pairActive then
    match w with
    | .control => .allow
    | .crossing => if dom = .cr then .allow else .ignore
    | .safetyView => .ignore
    | _ => .error
  else .ignore

/-- The right of MC (R46, R64). -/
def mcRight (run : Bool) (w : Window) (dom : Domain) : Right :=
  match w with
  | .control | .data => if run then .error else .allow
  | .crossing => if dom = .cr && run then .ignore else .allow
  | .management | .umbra => .allow
  | .safetyView => .ignore
  | .outside => .error

/-- The fence of a pair (R122). -/
def fenceFld : PairId → Fld
  | .a => Reg.CP_STATUS_FENCE_A
  | .b => Reg.CP_STATUS_FENCE_B

/-- The right of a pair, its fence first. -/
def pairRightOf (s : State) (p : PairId) (w : Window) (dom : Domain) : Right :=
  if s.on (fenceFld p) then .fence else pairRight (s.pairState p) w dom

/-- The right of a master to write a field of domain `dom` at an address. -/
def right (s : State) (m : Master) (a : Nat) (dom : Domain) : Right :=
  match m with
  | .pairA => s.pairRightOf .a (windowOf a) dom
  | .pairB => s.pairRightOf .b (windowOf a) dom
  | .mc => mcRight s.cpRun (windowOf a) dom
  | .sc | .hsl => if windowOf a = .safetyView then .allow else .error
  | .dataRegion => .error

/-- A write that is acknowledged: performed if allowed, suppressed and counted for a standby pair, or refused with a bus
error that writes nothing. -/
def access (s : State) (m : Master) (a : Nat) (dom : Domain) (f : State → State) : State :=
  match s.right m a dom with
  | .allow => f { s with bus := .ok }
  | .ignore => { s with bus := .ok }
  | .error => { s with bus := .error }
  | .suppress => State.incSat { s with bus := .ok } Reg.CP_SUPPRESS_COUNT_COUNT
  | .fence => State.incSat { s with bus := .none } Reg.CP_FENCE_DROPS_COUNT

/-- The same for a register of the crossings block that has no writable MR-domain field: MC's direct write returns a bus
error while `CP_RUN` = 1 (R46). -/
def accessCrOnly (s : State) (m : Master) (a : Nat) (f : State → State) : State :=
  if m = .mc && s.cpRun then { s with bus := .error } else s.access m a .cr f

/-! ### Safe states that several blocks share -/

/-- A cause drives PWM safe (R192, R193): it shows in ACTIVE while present (SOFT only in its own tB), in SEEN until a clear;
entry to the latched state raises `PWM_SAFE`. -/
def pwmSafe (s : State) (c : SafeCause) : State :=
  let s := s.when (c != .soft) (fun s => s.setB Reg.PWM_SAFE_STATUS_ACTIVE c.bit)
  let s := s.setB Reg.PWM_SAFE_STATUS_SEEN c.bit
  if s.on Reg.PWM_SAFE_STATUS_LATCHED then s else (s.wr Reg.PWM_SAFE_STATUS_LATCHED 1).raise Ev.PWM_SAFE

/-- A cause is no longer present (R193). -/
def pwmCauseEnds (s : State) (c : SafeCause) : State := s.clrB Reg.PWM_SAFE_STATUS_ACTIVE c.bit

/-- The operating state becomes `FAULT_HOLD`, from any state but `BOOT`; connect-wanted is cleared (R411). PWM goes safe by
the SOFT cause where nothing else has latched it. -/
def faultHold (s : State) : State :=
  if s.oper = .boot then s
  else
    let s := if s.on Reg.PWM_SAFE_STATUS_LATCHED then s else s.pwmSafe .soft
    { s with oper := .faultHold, tpp := { s.tpp with connectWanted := false, disc := .none },
             safety := { s.safety with sf2Hold := false } }

/-- One late commit of a cluster, counted for digest word 2 (R41, R59). -/
def lateCommit (s : State) : State :=
  { s with cross := { s.cross with lateCommits := satInc 255 s.cross.lateCommits } }

/-- The placement epoch rises once at a boundary, whatever the number of causes (R100); `cpid.EPOCH` follows
(R136). -/
def epochInc (s : State) : State :=
  if s.orbit.epochDone then s
  else
    let s := s.incWrap Reg.ORB_EPOCH_EPOCH
    let e := s.rd Reg.ORB_EPOCH_EPOCH
    { s with orbit := { s.orbit with epochDone := true },
             pairs := { s.pairs with a := { s.pairs.a with cpidEpoch := e }, b := { s.pairs.b with cpidEpoch := e } } }

/-- A discard of R58: counted, and `CROSS_EPOCH_DROP` raised. -/
def epochDiscard (s : State) : State :=
  let s := s.incSat Reg.CROSS_EPOCH_DROPS_COUNT
  let s := { s with cross := { s.cross with epochDiscards := satInc max16 s.cross.epochDiscards } }
  s.raise Ev.CROSS_EPOCH_DROP

/-! ### Frame time (R88, R89) -/

/-- The frame divisor D of `ORB_CTRL.DIV` (R83). -/
def divisor (s : State) : Nat := 2 ^ s.rd Reg.ORB_CTRL_DIV

/-- The length of this frame in tB. -/
def frameLen (s : State) : Nat := s.divisor * s.rd Reg.ORB_PERIOD_PERIOD

/-- Advance to tick `t` of this frame, never backwards: θ moves by the increment on every tB (R76). -/
def toTick (s : State) (t : Nat) : State :=
  let t0 := s.rd Reg.ORB_TICK_TICK
  if t ≤ t0 then s
  else
    let x := s.rd Reg.ORB_ANGLE_THETA * 65536 + s.orbit.thetaFrac + (t - t0) * s.rd Reg.ORB_DTHETA_INC
    let s := { s with orbit := { s.orbit with thetaFrac := x % 65536 } }
    (s.wr Reg.ORB_ANGLE_THETA (x / 65536 % turn)).wr Reg.ORB_TICK_TICK t

end State

end Sys2Proof.Machine
end

