-- ==== Sys2Proof/Machine/Orbit.lean ====
section
/-! DEFINITION. Machine/Orbit.lean: the timebase's operations (R75 to R106): the tracker and its states, the carrier settings,
the period computation, the operation table and the boundary. Meanings that also touch grid support, the loop engines,
PWM or Comet are completed in later files. -/

namespace Sys2Proof.Machine

namespace State

/-! ### Frequency and increment (R76) -/

/-- The tracker states of `ORB_STATUS.STATE` (R106). -/
abbrev orbFree : Nat := 0
abbrev orbAcquire : Nat := 1
abbrev orbLocked : Nat := 2
abbrev orbFlywheel : Nat := 3
abbrev orbFollow : Nat := 4

/-- The state of the tracker. -/
def orbState (s : State) : Nat := s.rd Reg.ORB_STATUS_STATE

/-- Write the tracker state; FLYLIMIT is cleared on ACQUIRE (R106), and the lock judgement starts anew. -/
def orbSetState (s : State) (st : Nat) : State :=
  let s := s.wr Reg.ORB_STATUS_STATE st
  let s := s.when (st == orbAcquire) (fun s => s.wr Reg.ORB_STATUS_FLYLIMIT 0)
  { s with orbit := { s.orbit with lockAngle := 0, lostRun := 0, turnAngle := 0, turnSum := 0, turnCount := 0,
                                   turnMean := none, flySamples := 0 } }

/-- The frequency that an increment represents, in Hz as binary32: 800 000 000 tB pass in a second (R3, R76). -/
def freqOfInc (inc : Nat) : Nat := F32.ofRatio (inc * 800000000) (2 ^ 48)

/-- The increment nearest to a frequency in whole hertz (R76). -/
def incOfHz (hz : Nat) : Nat := (hz * 2 ^ 48 + 400000000) / 800000000

/-- The increment nearest to a frequency given as binary32. -/
def incOfFreq (f : Nat) : Nat :=
  ((((F32.toDyadic f).mul ⟨2199023255552, 0⟩).roundEven + 3125000) / 6250000).toNat

/-! ### Tracker (R77 to R81) -/

/-- The synchronous-frame loop is closed (R77). -/
def loopRuns (st : Nat) : Bool := st == orbAcquire || st == orbLocked || st == orbFollow

/-- V+ of the present sample: the magnitude of the positive-sequence components. -/
def vPlus (s : State) : Nat :=
  let d := s.rd Reg.ORB_VPOS_D_VALUE
  let q := s.rd Reg.ORB_VPOS_Q_VALUE
  F32.sqrt (F32.add (F32.mul d d) (F32.mul q q))

/-- Thresholds of R80: 1°, 5°, 0.02 Hz and 0.02 pu. -/
abbrev deg1 : Nat := 0x00B60B61
abbrev deg5 : Nat := 59652323
abbrev f32_0_02 : Nat := 0x3CA3D70A

/-- The run counts of the standing conditions voltage present and voltage absent (R80). -/
def orbRuns (s : State) : State :=
  let v := s.vPlus
  let vmin := s.rd Reg.ORB_VMIN_VALUE
  let pres := F32.ge v (F32.add vmin f32_0_02)
  let abs := F32.lt v vmin
  { s with orbit := { s.orbit with presentRun := if pres then satInc 200 s.orbit.presentRun else 0,
                                   absentRun := if abs then satInc 2 s.orbit.absentRun else 0 } }

/-- The frequency estimate, clamped to `ORB_FBAND`; a clamp sets FREQ_RANGE (R79). -/
def orbPutFreq (s : State) (f : Nat) : State :=
  let lo := F32.ofNat (s.rd Reg.ORB_FBAND_FMIN)
  let hi := F32.ofNat (s.rd Reg.ORB_FBAND_FMAX)
  let g := F32.clamp f lo hi
  let s := s.wr Reg.ORB_FREQ_VALUE g
  s.when (F32.lt f lo || F32.lt hi f) (fun s => s.flagRaise Reg.ORB_FLAGS_FREQ_RANGE Ev.ORB_FREQ_RANGE)

/-- The increment the loop asks for, with its correction limited to an eighth of the frequency-derived increment (R79). -/
def orbLimitInc (s : State) (want : Nat) : Nat :=
  let i0 := incOfFreq (s.rd Reg.ORB_FREQ_VALUE)
  Nat.min (Nat.max want (i0 - i0 / 8)) (i0 + i0 / 8)

/-- Phase jump and ROCOF limit, judged only while the loop runs (R80). DEDUCED: ROCOF (notes/assumptions 19). -/
def orbJudge (s : State) (err : Nat) : State :=
  let th := s.rd Reg.ORB_JUMP_TH_THETA
  let jump := decide (th < angMag err) && decide (angMag s.orbit.phaseErr ≤ th)
  let high := F32.gt (F32.abs (s.rd Reg.ORB_ROCOF_VALUE)) (s.rd Reg.ORB_ROCOF_TH_VALUE)
  let rise := high && !s.orbit.rocofHigh
  let s := { s with orbit := { s.orbit with phaseErr := err, rocofHigh := high } }
  let s := s.when jump (fun s => s.flagRaise Reg.ORB_FLAGS_PHASE_JUMP Ev.ORB_PHASE_JUMP)
  s.when rise (fun s => s.flagRaise Reg.ORB_FLAGS_ROCOF Ev.ORB_ROCOF)

/-- The angle θ travels in one 10 µs sample, in 1/65536 units: 8000 tB. -/
def sampleTravel (s : State) : Nat := 8000 * s.rd Reg.ORB_DTHETA_INC

/-- The lock and loss criteria over successive samples (R80). -/
def orbLockRuns (s : State) (t : TrackerSample) : State :=
  let ok := decide (angMag t.phaseErr ≤ deg1) && F32.le (F32.abs t.freqChange) f32_0_02
  let lost := decide (deg5 < angMag t.phaseErr)
  { s with orbit := { s.orbit with lockNow := ok,
                                   lockAngle := if ok then s.orbit.lockAngle + s.sampleTravel else 0,
                                   lostRun := if lost then satInc 100 s.orbit.lostRun else 0 } }

/-- The mean increment of the last complete locked turn (R81). -/
def orbTurnMean (s : State) : State :=
  let o := s.orbit
  let ang := o.turnAngle + s.sampleTravel
  let sum := o.turnSum + s.rd Reg.ORB_DTHETA_INC
  let n := o.turnCount + 1
  if turn * 65536 ≤ ang then
    { s with orbit := { o with turnAngle := 0, turnSum := 0, turnCount := 0, turnMean := some (sum / n) } }
  else { s with orbit := { o with turnAngle := ang, turnSum := sum, turnCount := n } }

/-- The synchronous-frame loop of step 3 (R77, R79, R103). -/
def orbLoop (s : State) (st : Nat) (t : TrackerSample) : State :=
  let s := s.orbPutFreq t.freq
  let s := s.wr Reg.ORB_ROCOF_VALUE t.rocof
  let s := s.when (st != orbFollow) (fun s => s.wr Reg.ORB_DTHETA_INC (s.orbLimitInc t.increment))
  let s := (s.orbJudge t.phaseErr).orbLockRuns t
  s.when (st == orbLocked) orbTurnMean

/-- One tracker sample (R77): the sequence values in every state, the loop where it runs, and the standing conditions. -/
def orbSample (s : State) (t : TrackerSample) : State :=
  let st := s.orbState
  let s := (s.wr Reg.ORB_VPOS_D_VALUE t.vd).wr Reg.ORB_VPOS_Q_VALUE t.vq
  let s := s.wr Reg.ORB_VNEG_MAG_VALUE t.vnegMag
  let s := s.wr Reg.ORB_VNEG_ANG_THETA (if F32.isZero t.vnegMag then 0 else t.vnegAng)
  let s := s.orbRuns
  if loopRuns st then s.orbLoop st t
  else
    let s := { s with orbit := { s.orbit with phaseErr := t.phaseErr, rocofHigh := false, lockNow := false,
                                              flySamples := if st = orbFlywheel then s.orbit.flySamples + 1 else 0 } }
    (s.wr Reg.ORB_FREQ_VALUE (freqOfInc (s.rd Reg.ORB_DTHETA_INC))).wr Reg.ORB_ROCOF_VALUE t.rocof

/-- Voltage present holds (R80); FREE and FLYWHEEL go to ACQUIRE under R81, where the tracker starts from the held
frequency, which R79 keeps within its band. -/
def orbVoltagePresent (s : State) : State :=
  if s.orbit.vPresent || 200 ≤ s.orbit.presentRun then
    let s := { s with orbit := { s.orbit with vPresent := true, vAbsent := false } }
    let st := s.orbState
    if st = orbFree && s.on Reg.ORB_CTRL_TRACK_EN && s.rd Reg.ORB_GROUP_ROLE != 2 then
      (s.orbSetState orbAcquire).orbPutFreq (s.rd Reg.ORB_FREQ_VALUE)
    else if st = orbFlywheel then
      ((s.orbSetState orbAcquire).raise Ev.ORB_FLY_EXIT).orbPutFreq (s.rd Reg.ORB_FREQ_VALUE)
    else s
  else s

/-- Voltage absent holds (R80): ACQUIRE goes to FREE holding its increment, LOCKED to FLYWHEEL frozen at the mean of the
last complete locked turn (R81). -/
def orbVoltageAbsent (s : State) : State :=
  if s.orbit.vAbsent || 2 ≤ s.orbit.absentRun then
    let s := { s with orbit := { s.orbit with vPresent := false, vAbsent := true } }
    let st := s.orbState
    if st = orbAcquire then s.orbSetState orbFree
    else if st = orbLocked then
      let inc := s.orbit.turnMean.getD (s.rd Reg.ORB_DTHETA_INC)
      ((s.wr Reg.ORB_DTHETA_INC inc).orbSetState orbFlywheel).raise Ev.ORB_FLY_ENTER
    else s
  else s

/-- Lock achieved (R80): ACQUIRE goes to LOCKED. -/
def orbLockAchieved (s : State) : State :=
  if s.orbState = orbAcquire && turn * 65536 ≤ s.orbit.lockAngle then (s.orbSetState orbLocked).raise Ev.ORB_LOCK else s

/-- Lock lost while voltage is not absent (R80, R81): LOCKED goes to ACQUIRE. -/
def orbLockLost (s : State) : State :=
  if s.orbState = orbLocked && 100 ≤ s.orbit.lostRun && !s.orbit.vAbsent then
    (s.orbSetState orbAcquire).flagRaise Reg.ORB_FLAGS_UNLOCK Ev.ORB_UNLOCK
  else s

/-- The flywheel time exceeds `ORB_FLYMAX` (R81): a sample is 10 µs. -/
def orbFlyLimit (s : State) : State :=
  if s.orbState = orbFlywheel && s.rd Reg.ORB_FLYMAX_MS * 100 < s.orbit.flySamples then
    (s.orbSetState orbFree).flagRaise Reg.ORB_STATUS_FLYLIMIT Ev.ORB_FLY_LIMIT
  else s

/-- `TRACK_EN` is written 0 (R81). -/
def orbTrackDisable (s : State) : State :=
  let s := s.wr Reg.ORB_CTRL_TRACK_EN 0
  if s.orbState = orbFree then s else s.orbSetState orbFree

/-- A secondary with markers valid in 4 consecutive frames enters FOLLOW and adopts angle and increment (R81). -/
def orbFollowEnter (s : State) : State :=
  if s.orbState != orbFollow && s.rd Reg.ORB_GROUP_ROLE = 2 && 4 ≤ s.orbit.markerRun then
    let s := s.orbSetState orbFollow
    match s.orbit.marker with
    | none => s
    | some m => (s.wr Reg.ORB_ANGLE_THETA m.theta).wr Reg.ORB_DTHETA_INC m.dtheta
  else s

/-- FOLLOW is left after 4 consecutive frames without a valid marker (R81). -/
def orbGroupLoss (s : State) : State :=
  if s.orbState = orbFollow && 4 ≤ s.rd Reg.ORB_GROUP_STATUS_MISSED then
    (s.orbSetState (if s.orbit.lockNow then orbLocked else orbFree)).flagRaise Reg.ORB_FLAGS_GROUP_LOST Ev.ORB_GROUP_LOSS
  else s

/-! ### Carrier settings (R83, R84) -/

/-- The value of a setting that is in force with a write: pending, else taken, else the register. -/
def settingNext (p t : Option Nat) (r : Nat) : Nat := p.getD (t.getD r)

/-- A carrier setting is refused (R84): N outside 60 to 4000, DIV = 3, or N no multiple of the divisor in force with it. -/
def orbConfigRefused (s : State) (w : OrbSetting) (v : Nat) : Bool :=
  let div := settingNext s.orbit.pend.div s.orbit.taken.div (s.rd Reg.ORB_CTRL_DIV)
  let n := settingNext s.orbit.pend.ncar s.orbit.taken.ncar (s.rd Reg.ORB_NCAR_N)
  match w with
  | .ncar => let v := v % 4096; v < 60 || 4000 < v || v % 2 ^ div != 0
  | .div => let v := v % 4; v == 3 || n % 2 ^ v != 0
  | .fnom | .carOffset => false

/-- A write of a carrier setting is held pending, or refused (R84). -/
def orbConfigWrite (s : State) (w : OrbSetting) (v : Nat) : State :=
  if s.orbConfigRefused w v then s.wr Reg.ORB_FLAGS_CFG_ERR 1
  else
    let p := s.orbit.pend
    let p := match w with
      | .ncar => { p with ncar := some (v % 4096) }
      | .div => { p with div := some (v % 4) }
      | .fnom => { p with fnom := some (v % 128) }
      | .carOffset => { p with offset := some (v % turn) }
    { s with orbit := { s.orbit with pend := p } }

/-- The angle of carrier `c` (R83). -/
def carAngle (n off c : Nat) : Nat := (off + c * turn / n) % turn

/-- The closing boundary of this frame is the valley of carrier 0 (R83, R84). -/
def turnEnds (s : State) : Bool := (s.orbit.carIdx + s.divisor) % s.rd Reg.ORB_NCAR_N == 0

/-- Pending values are taken into the computation (R84 step 2). -/
def takeSettings (s : State) : State :=
  let p := s.orbit.pend
  let t := s.orbit.taken
  let t' : CarrierCfg := ⟨p.ncar.or t.ncar, p.div.or t.div, p.fnom.or t.fnom, p.offset.or t.offset⟩
  { s with orbit := { s.orbit with pend := {}, taken := t' } }

/-- The carrier period and the residual that R86 computes for the next frame, and whether a clamp of R87 acted.
DEDUCED: the formula, not the example (notes/assumptions 20). -/
def periodOf (s : State) (ends : Bool) : Nat × Nat × Bool :=
  let t := s.orbit.taken
  let n := if ends then t.ncar.getD (s.rd Reg.ORB_NCAR_N) else s.rd Reg.ORB_NCAR_N
  let off := if ends then t.offset.getD (s.rd Reg.ORB_CAR_OFFSET_THETA) else s.rd Reg.ORB_CAR_OFFSET_THETA
  let d := s.divisor
  let d' := if ends then 2 ^ t.div.getD (s.rd Reg.ORB_CTRL_DIV) else d
  let inc := s.rd Reg.ORB_DTHETA_INC
  let inc' := if ends && s.orbState == orbFree then (t.fnom.map incOfHz).getD inc else inc
  let c1 := if ends then 0 else s.orbit.carIdx + d
  let a1 := carAngle n off (c1 % n)
  let a2 := carAngle n off ((c1 + d') % n)
  let pred := (s.rd Reg.ORB_FRAME_ANGLE_THETA * 65536 + s.frameLen * inc) % (turn * 65536)
  let step := angSub a2 a1 * 65536
  let diff : Int := toSigned 48 ((pred + turn * 65536 - a1 * 65536) % (turn * 65536))
  let den := d' * inc' * 8
  let num := ((step : Int) - diff) * 8
  let num := min (max num (step * 7 : Nat)) (step * 9 : Nat)
  let low := decide (num < (4000 * den : Nat))
  let high := decide (((266666 * den : Nat) : Int) < num)
  let p := if low then 4000 * 4096 else if high then 266666 * 4096 else ((num * 4096 * 2 + den) / (2 * den : Nat)).toNat
  let q := p + s.rd Reg.ORB_PERIOD_RHO
  (q / 4096, q % 4096, low || high)

/-- The computation at boundary + 16 tB (R84, R86, R87), once in a frame; the period shadows follow in Machine/Pwm.lean. -/
def orbCompute (s : State) : State :=
  let ends := s.turnEnds
  let s := s.when ends takeSettings
  let (period, rho, clamp) := s.periodOf ends
  let s := { s with orbit := { s.orbit with nextPeriod := some (period, rho) } }
  let s := s.wr Reg.ORB_STATUS_CLAMP (b2n clamp)
  s.when clamp (fun s => s.flagRaise Reg.ORB_FLAGS_CLAMP Ev.ORB_CARRIER_CLAMP)

/-- Settings taken into the computation take effect at the valley of carrier 0 (R84 step 3). -/
def orbConfigApply (s : State) : State :=
  let t := s.orbit.taken
  let put (s : State) (f : Fld) (o : Option Nat) : State := match o with | none => s | some v => s.wr f v
  let s := put s Reg.ORB_NCAR_N t.ncar
  let s := put s Reg.ORB_CTRL_DIV t.div
  let s := put s Reg.ORB_FNOM_FNOM t.fnom
  let s := put s Reg.ORB_CAR_OFFSET_THETA t.offset
  let s := s.when (s.orbState == orbFree) (fun s => put s Reg.ORB_DTHETA_INC (t.fnom.map incOfHz))
  { s with orbit := { s.orbit with taken := {} } }

/-! ### Operation table (R93 to R99) -/

/-- The active and the inactive bank. -/
def activeBank (s : State) : List (Nat × Nat) := if s.on Reg.ORB_STATUS_ACTIVE_BANK then s.orbit.bank1 else s.orbit.bank0
def inactiveBank (s : State) : List (Nat × Nat) := if s.on Reg.ORB_STATUS_ACTIVE_BANK then s.orbit.bank0 else s.orbit.bank1

/-- Replace the inactive bank. -/
def setInactiveBank (s : State) (b : List (Nat × Nat)) : State :=
  if s.on Reg.ORB_STATUS_ACTIVE_BANK then { s with orbit := { s.orbit with bank0 := b } }
  else { s with orbit := { s.orbit with bank1 := b } }

/-- A swap or a load is pending (R99). -/
def swapPend (s : State) : Bool := s.on Reg.ORB_BANK_SWAP_PEND

/-- A write of a word of the inactive bank (R99). -/
def slotInactWrite (s : State) (index value : Nat) : State :=
  if s.swapPend then s.wr Reg.ORB_FLAGS_CFG_ERR 1 else s.setInactiveBank (bankSet s.inactiveBank index value)

/-- A write of `ORB_BANK` (R99). -/
def orbBankWrite (s : State) (swap epochInc : Bool) : State :=
  if s.swapPend then s.wr Reg.ORB_FLAGS_CFG_ERR 1
  else
    let s := s.wr Reg.ORB_BANK_EPOCH_INC (b2n epochInc)
    if swap then { s.wr Reg.ORB_BANK_SWAP_PEND 1 with orbit := { s.orbit with swapReq := true } } else s

/-- Enabled slots of a bank with an unlisted target code (R95). -/
def unlistedSlots (b : List (Nat × Nat)) : List Nat :=
  (b.filter fun e => e.1 % 4 == 0 && hasBit e.2 0 && decide (7 < fieldOf e.2 4 4)).map fun e => e.1 / 4

/-- The banks swap at a boundary (R95, R99, R100). -/
def orbBankSwitch (s : State) : State :=
  let loaded := s.cross.loadOrbit == .waiting
  if s.orbit.swapReq || loaded then
    let inc := (s.orbit.swapReq && s.on Reg.ORB_BANK_EPOCH_INC) || (loaded && s.orbit.loadEpochInc)
    let s := { s with orbit := { s.orbit with swapReq := false, loadEpochInc := false },
                      cross := { s.cross with loadOrbit := if loaded then .idle else s.cross.loadOrbit } }
    let s := (s.wr Reg.ORB_STATUS_ACTIVE_BANK (1 - s.rd Reg.ORB_STATUS_ACTIVE_BANK)).wr Reg.ORB_BANK_SWAP_PEND 0
    let bad := unlistedSlots s.activeBank
    let s := { s with orbit := { s.orbit with badSlots := bad } }
    let s := s.when (!bad.isEmpty) (fun s => s.wr Reg.ORB_FLAGS_CFG_ERR 1)
    (s.when inc epochInc).raise Ev.ORB_BANK_SWITCH
  else s

/-- The image check of an operation-table load (R98): the header's COUNT and the length agree. -/
def orbImageOk (ws : List Nat) : Bool :=
  let n := fieldOf (nth ws 0 0) 0 9
  1 ≤ n && n ≤ 256 && ws.length == 4 + 4 * n

/-- The inactive bank takes a load (R98): slots beyond COUNT hold zeros. -/
def orbTakeLoad (s : State) (ws : List Nat) : State :=
  let b := (List.range (ws.length - 4)).foldl (fun b i => bankSet b i (nth ws (4 + i) 0)) []
  let s := s.setInactiveBank b
  { s with orbit := { s.orbit with loadEpochInc := hasBit (nth ws 0 0) 16 },
           cross := { s.cross with loadOrbit := .waiting } }

/-- What a slot does at a tick of this frame (R95, R96). -/
inductive SlotOutcome where
  | idle
  | beyond
  | stale
  | fires (trigger : Nat)
  deriving DecidableEq, Repr

/-- The trigger tick of a slot in this frame, where its trigger has been reached by now (R96, R97). -/
def slotTrigger? (s : State) (w0 w1 : Nat) : Option Nat :=
  match fieldOf w0 1 2 with
  | 0 => let t := fieldOf w1 0 22; if t < s.frameLen && t ≤ s.rd Reg.ORB_TICK_TICK then some t else none
  | 1 =>
    let gone := angSub (s.rd Reg.ORB_ANGLE_THETA) (s.rd Reg.ORB_FRAME_ANGLE_THETA)
    let at_ := angSub w1 (s.rd Reg.ORB_FRAME_ANGLE_THETA)
    if at_ ≤ gone then
      let back := (gone - at_) * 65536 / Nat.max 1 (s.rd Reg.ORB_DTHETA_INC)
      some (s.rd Reg.ORB_TICK_TICK - back)
    else none
  | 2 => (s.orbit.trigInputs.find? (fun e => e.1 == fieldOf w1 0 4)).map (fun e => e.2 + 1)
  | _ => none

/-- The four tests of R96 on a slot of the active bank, and the disabled slots of R93 and R95. -/
def slotOutcome (s : State) (slot : Nat) : SlotOutcome :=
  let w0 := bankWord s.activeBank (4 * slot)
  let w1 := bankWord s.activeBank (4 * slot + 1)
  let k := s.rd Reg.ORB_FRAME_COUNT
  if !hasBit w0 0 || !s.on Reg.ORB_CTRL_ISSUE_EN || s.orbit.badSlots.contains slot || s.orbit.eccSlots.contains slot
      || s.on (Reg.ORB_SLOT_STAT_ISSUED slot) || (k + 256 - fieldOf w0 12 8) % 2 ^ fieldOf w0 8 3 != 0 then .idle
  else if fieldOf w0 1 2 = 0 && s.frameLen ≤ fieldOf w1 0 22 then .beyond
  else
    match s.slotTrigger? w0 w1 with
    | none => .idle
    | some t => if hasBit w0 11 && fieldOf w0 20 8 != s.rd Reg.ORB_EPOCH_EPOCH then .stale else .fires t

/-- An operation retires (R92). -/
def retire (s : State) (slot : Nat) : State :=
  if s.orbit.ops.any (fun o => o.slot == slot) then
    State.wr { s with orbit := { s.orbit with ops := s.orbit.ops.filter (fun o => o.slot != slot) } }
      (Reg.ORB_SLOT_STAT_RETIRED slot) 1
  else s

/-- The operation of a slot, where it is issued, not retired and addressed to a target. -/
def opOf? (s : State) (slot tgt : Nat) : Option OrbOp := s.orbit.ops.find? (fun o => o.slot == slot && o.tgt == tgt && o.sent)

/-! ### Boundary (R88 to R92, R101 to R103) -/

/-- Unretired operations of the ending frame are cancelled and counted (R90). -/
def orbDrain (s : State) : State :=
  let n := s.orbit.ops.length
  let slots := s.orbit.ops.map (·.slot)
  let s := (s.clearRegs 0x40003000 0x40003400).forEach slots (fun s i => s.wr (Reg.ORB_SLOT_STAT_CANCELLED i) 1)
  let s := { s with orbit := { s.orbit with ops := [], eccSlots := [], trigInputs := [] } }
  let s := s.addSat Reg.ORB_OVR_COUNT_COUNT n
  s.when (0 < n) (fun s => s.flagRaise Reg.ORB_FLAGS_OVERRUN Ev.FRAME_OVERRUN)

/-- A following secondary takes the primary's counter, angle and increment at its boundary (R102). -/
def orbAdopt (s : State) (m : Marker) (len : Nat) : State :=
  let x := m.theta * 65536 + len * m.dtheta
  let s := s.wr Reg.ORB_FRAME_COUNT (m.frame + 1)
  let s := (s.wr Reg.ORB_ANGLE_THETA (x / 65536 % turn)).wr Reg.ORB_DTHETA_INC m.dtheta
  { s with orbit := { s.orbit with thetaFrac := x % 65536 } }

/-- The shift of the boundary that the offset asks for, limited to MAXCORR, in tB (R102). -/
def orbShift (s : State) (m : Marker) : Int :=
  let c : Int := s.rd Reg.ORB_GROUP_MAXCORR
  min (max (m.offset / 128) (-c)) c

/-- A secondary counts the frames with and without a valid marker (R81, R106). -/
def orbMarkerCount (s : State) : State :=
  if s.rd Reg.ORB_GROUP_ROLE != 2 then s
  else
    match s.orbit.marker with
    | some _ =>
      { s.wr Reg.ORB_GROUP_STATUS_MISSED 0 with orbit := { s.orbit with markerRun := satInc 4 s.orbit.markerRun } }
    | none =>
      let s := (s.incSat Reg.ORB_GROUP_STATUS_MISSED).wr Reg.ORB_GROUP_STATUS_MARKER_OK 0
      { s with orbit := { s.orbit with markerRun := 0 } }

/-- Frame counter, angle, tick, period and carrier index at a boundary (R86, R88, R89). -/
def orbAdvance (s : State) : State :=
  let len := s.frameLen
  let idx := (s.orbit.carIdx + s.divisor) % Nat.max 1 (s.rd Reg.ORB_NCAR_N)
  let s := s.toTick len
  let s := s.incWrap Reg.ORB_FRAME_COUNT
  let (s, shift) := match s.orbit.marker with
    | some m => if s.orbState = orbFollow then (s.orbAdopt m len, s.orbShift m) else (s, 0)
    | none => (s, 0)
  let s := s.wr Reg.ORB_FRAME_ANGLE_THETA (s.rd Reg.ORB_ANGLE_THETA)
  let s := s.wr Reg.ORB_TICK_TICK 0
  let s := match s.orbit.nextPeriod with
    | some (p, r) => (s.wr Reg.ORB_PERIOD_PERIOD p).wr Reg.ORB_PERIOD_RHO r
    | none => s
  { s with orbit := { s.orbit with nextPeriod := none, carIdx := idx, epochDone := false },
           now := ((s.now + len : Nat) + shift).toNat }

/-- The boundary as Orbit makes it (R89 to R92): drain, advance, marker counts and events. -/
def orbBoundary (s : State) : State :=
  let s := s.orbDrain.orbAdvance
  let s := s.orbMarkerCount
  let s := { s with orbit := { s.orbit with marker := none } }
  let s := s.raise Ev.ORB_BOUNDARY
  s.when (s.orbit.carIdx == 0) (fun s => s.raise Ev.ORB_TURN)

end State

/-- ORB_TRACK_DISABLE (R81): TRACK_EN written 0. -/
def execOrbTrackDisable (m : Master) (s : State) : Out := .next (s.access m 0x40000000 .cr State.orbTrackDisable)

/-- ORB_FOLLOW_ENTER (R81). -/
def execOrbFollowEnter (s : State) : Out := .next s.orbFollowEnter

/-- ORB_CONFIG_WRITE (R84). -/
def execOrbConfigWrite (m : Master) (which : OrbSetting) (value : Nat) (s : State) : Out :=
  .next (s.access m 0x40000000 .cr (fun s => s.orbConfigWrite which value))

/-- ORB_SLOT_INACT_WRITE (R99): word `index` of the inactive bank, 0 to 1023. -/
def execOrbSlotInactWrite (m : Master) (index value : Nat) (s : State) : Out :=
  .next (if index < 1024 then s.access m (0x40001000 + 4 * index) .cr (fun s => s.slotInactWrite index value) else s)

/-- ORB_BANK_SWAP (R99): a write of `ORB_BANK` with SWAP set. -/
def execOrbBankSwap (m : Master) (epochInc : Bool) (s : State) : Out :=
  .next (s.access m 0x40000090 .cr (fun s => s.orbBankWrite true epochInc))

/-- ORB_BANK_SWITCH (R99, R100). -/
def execOrbBankSwitch (s : State) : Out := .next s.orbBankSwitch

/-- CLR_OVR (R106): clears `ORB_OVR_COUNT` and `ORB_ISSUE_MAX`. -/
def execClrOvr (m : Master) (s : State) : Out :=
  .next (s.access m 0x40000054 .cr (fun s => (s.wr Reg.ORB_OVR_COUNT_COUNT 0).wr Reg.ORB_ISSUE_MAX_DELAY 0))

/-- CLR_STALE (R106). -/
def execClrStale (m : Master) (s : State) : Out :=
  .next (s.access m 0x40000054 .cr (fun s => s.wr Reg.ORB_STALE_COUNT_COUNT 0))

end Sys2Proof.Machine
end

