-- ==== Sys2Proof/Machine/Pwm.lean ====
section
/-! DEFINITION. Machine/Pwm.lean: the PWM block (R170 to R199): shadows and commits, the on-time of each period, trips, safe
state, calibration. -/

namespace Sys2Proof.Machine

namespace State

/-- `PWM_FLAGS.CFG_ERR` is set, which raises `PWM_CFG_ERR` (R197). -/
def pwmCfgErr (s : State) : State := s.flagRaise Reg.PWM_FLAGS_CFG_ERR Ev.PWM_CFG_ERR

def pwmPair (s : State) (p : Nat) : PwmPair := nth s.pwm.pairs p {}
def setPwmPair (s : State) (p : Nat) (v : PwmPair) : State := { s with pwm := { s.pwm with pairs := setNth s.pwm.pairs p v } }
def cluster (s : State) (c : Nat) : PwmCluster := nth s.pwm.clusters c {}
def setCluster (s : State) (c : Nat) (v : PwmCluster) : State :=
  { s with pwm := { s.pwm with clusters := setNth s.pwm.clusters c v } }
def line (s : State) (n : Nat) : TripLine := nth s.pwm.lines n {}
def setLine (s : State) (n : Nat) (v : TripLine) : State := { s with pwm := { s.pwm with lines := setNth s.pwm.lines n v } }

/-- The pairs of a cluster. -/
def clusterPairs (c : Nat) : List Nat := (List.range 8).map (8 * c + ·)

/-- A compare word in tD (R172). -/
def compareTd (v : Nat) : Nat := 128 * (v % 2 ^ 20) + v / 2 ^ 20 % 128

/-- A time in tD as a compare word (R172). -/
def compareWord (td : Nat) : Nat := td / 128 % 2 ^ 20 + td % 128 * 2 ^ 20

/-! ### Shadows (R175, R176) -/

/-- The shadow values of a pair. -/
def shadows (s : State) (p : Nat) : PairVals :=
  ⟨s.rd (Reg.PR_CMPA_CMP p), s.rd (Reg.PR_CMPB_CMP p), s.rd (Reg.PR_DT_DT p), s.rd (Reg.PR_DT_MINP p),
   s.rd (Reg.PR_REFRESH_REFW p)⟩

/-- Make a set of values active in a pair. -/
def activate (s : State) (p : Nat) (v : PairVals) : State :=
  let s := (s.wr (Reg.PR_CMPA_ACT_CMP p) v.cmpA).wr (Reg.PR_CMPB_ACT_CMP p) v.cmpB
  s.setPwmPair p { s.pwmPair p with dt := v.dt, minp := v.minp, refw := v.refw }

/-- `CL_STATUS.COMMIT_PEND` follows the armed and held commits (R199). -/
def commitPend (s : State) (c : Nat) : State :=
  s.wr (Reg.CL_STATUS_COMMIT_PEND c) (b2n ((s.cluster c).armed || (s.cluster c).held))

/-- A commit or an AUTO = 1 shadow write lands in the window (R41, R176): held, and counted once for the digest. -/
def holdCommit (s : State) (c : Nat) : State :=
  let k := s.cluster c
  let s := s.when (!k.held) lateCommit
  (s.setCluster c { k with held := true }).commitPend c

/-- A late commit is reported (R41, R176). -/
def reportLate (s : State) (c : Nat) : State :=
  let s := s.setB Reg.PWM_FLAGS_LATE_COMMIT c
  (s.incSat (Reg.CL_LATE_COUNT_COUNT c)).raise (Ev.PWM_LATE_COMMIT c)

/-- Shadow fields of cluster `c` are written: at once, or into the holding copy inside the cut-off window (R176). -/
def shadowWrite (s : State) (c : Nat) (fs : List (Fld × Nat)) : State :=
  let k := s.cluster c
  if k.window then
    let s := s.setCluster c { k with holding := k.holding ++ fs.map (fun e => (e.1.key, e.2)) }
    s.when (s.on (Reg.CL_CTRL_AUTO c)) (fun s => s.holdCommit c)
  else s.forEach fs (fun s e => s.wr e.1 e.2)

/-- The field of cluster `c` that a holding entry names. -/
def holdingFld? (c key : Nat) : Option Fld :=
  ((clusterPairs c).flatMap (fun p => [Reg.PR_CMPA_CMP p, Reg.PR_CMPB_CMP p, Reg.PR_DT_DT p, Reg.PR_DT_MINP p,
    Reg.PR_REFRESH_REFW p]) ++ [Reg.CL_PERIOD_SHADOW c]).find? (fun f => f.key == key)

/-- The holding copy moves into the shadows (R176). -/
def holdingToShadows (s : State) (c : Nat) : State :=
  let hs := (s.cluster c).holding
  let s := s.setCluster c { s.cluster c with holding := [] }
  s.forEach hs (fun s e => match holdingFld? c e.1 with | some f => s.wr f e.2 | none => s)

/-- The shadowed register `r` of pair `p` takes a word. -/
def pairShadowWrite (s : State) (p : Nat) (r : ShadowReg) (v : Nat) : State :=
  s.shadowWrite (p / 8) (match r with
    | .cmpA => [(Reg.PR_CMPA_CMP p, v)]
    | .cmpB => [(Reg.PR_CMPB_CMP p, v)]
    | .dt => [(Reg.PR_DT_DT p, fieldOf v 0 12), (Reg.PR_DT_MINP p, fieldOf v 16 10)]
    | .refresh => [(Reg.PR_REFRESH_REFW p, v)])

/-- The address of a shadowed register. -/
def shadowAddr (p : Nat) : ShadowReg → Nat
  | .dt => 0x40010404 + 0x20 * p
  | .cmpA => 0x40010408 + 0x20 * p
  | .cmpB => 0x4001040C + 0x20 * p
  | .refresh => 0x40010418 + 0x20 * p

/-! ### Commits (R175 to R178) -/

/-- A committed compare above 128 P sets RANGE (R172). -/
def rangeCheck (s : State) (c period : Nat) : State :=
  let above := (clusterPairs c).any fun p =>
    decide (128 * period < compareTd (s.rd (Reg.PR_CMPA_ACT_CMP p))) || decide (128 * period < compareTd (s.rd (Reg.PR_CMPB_ACT_CMP p)))
  s.when above (fun s => s.flagRaise Reg.PWM_FLAGS_RANGE Ev.PWM_RANGE)

/-- Shadows of a disabled cluster transfer at once (R178). -/
def transferNow (s : State) (c : Nat) : State :=
  let s := s.when (!s.on (Reg.CL_CTRL_SYNC c)) (fun s => s.wr (Reg.CL_PERIOD_ACT_PERIOD c) (s.rd (Reg.CL_PERIOD_SHADOW c)))
  let s := s.forEach (clusterPairs c) (fun s p => s.activate p (s.shadows p))
  let s := (s.setCluster c { s.cluster c with armed := false, held := false, deferred := false }).commitPend c
  s.rangeCheck c (s.rd (Reg.CL_PERIOD_ACT_PERIOD c))

/-- A `PWM_COMMIT` write reaches one cluster (R175, R176, R178). -/
def commitCluster (s : State) (c : Nat) : State :=
  let k := s.cluster c
  if !s.on (Reg.CL_CTRL_EN c) then s.transferNow c
  else if k.window then s.holdCommit c
  else if k.inReset then
    let s := s.when (!k.deferred) lateCommit
    (s.setCluster c { k with armed := true, deferred := true }).commitPend c
  else (s.setCluster c { k with armed := true }).commitPend c

/-- A `PWM_COMMIT` write of a mask. -/
def pwmCommit (s : State) (mask : Nat) : State := s.forEach (bitsOf 3 mask) (fun s c => s.commitCluster c)

/-- The bootstrap warning of the die of a pair (R185). -/
def bsWarning (s : State) (p : Nat) : Bool :=
  decide (p < 6) && s.rd (Reg.PR_CFG_ROUTE p) == 2 && s.on (Reg.PR_CFG_REFRESH_EN p) && s.on (Reg.DRV_STATE_BS_WARN p)

/-- The start of a cut-off window (R176, R177, R185): the copies are frozen and the bootstrap warning sampled. -/
def cutoffFreeze (s : State) (c : Nat) (peak : Bool) : State :=
  let s := s.setCluster c { s.cluster c with window := true, peak := peak, frozenPeriod := s.rd (Reg.CL_PERIOD_SHADOW c) }
  s.forEach (clusterPairs c) (fun s p =>
    let warn := s.bsWarning p
    let s := s.setPwmPair p { s.pwmPair p with frozen := s.shadows p, bsNow := if peak then (s.pwmPair p).bsNow else warn }
    s.when (!peak && warn && !s.on (Reg.PR_STATUS_REFRESH p)) (fun s =>
      (s.wr (Reg.PR_STATUS_REFRESH p) 1).flagRaise Reg.PWM_FLAGS_REFRESH Ev.PWM_REFRESH))

/-! ### The on-time of a period (R172 to R174, R179 to R181, R185) -/

/-- The values that decide a pair's pulse in a period. -/
structure PulseIn where
  period : Nat
  updn : Bool
  asym : Bool
  dupd : Bool
  indep : Bool
  mode : Nat
  ca : Nat
  cb : Nat
  dt : Nat
  minp : Nat
  refw : Nat
  capped : Bool
  deriving DecidableEq, Repr

/-- What a period's pulse comes to: on-time, edges, carry, and whether it was short or lost carry. -/
structure PulseOut where
  w : Nat
  rise : Int
  fall : Int
  acc : Int
  short : Bool
  loss : Bool
  deriving DecidableEq, Repr

/-- The ideal rise and the requested on-time (R173); at a valley CB is taken as CA under double update (R181). -/
def request (x : PulseIn) : Int × Nat :=
  if x.updn then
    let cb := if x.asym && !x.dupd then x.cb else x.ca
    (64 * x.period - (x.ca / 2 : Nat), x.ca / 2 + (cb + 1) / 2)
  else if x.asym then (x.cb, x.ca - x.cb)
  else (0, x.ca)

/-- The short-pulse stage (R180): the emitted on-time, the new carry, short, carry lost. -/
def shortStage (x : PulseIn) (c : Nat) (acc : Int) : Nat × Int × Bool × Bool :=
  let full : Int := 128 * x.period
  let r : Int := c + acc
  let hmin : Int := 128 * (x.dt + x.minp : Nat)
  let lmax : Int := full - hmin
  if 0 < r && r < full && r < hmin then
    match x.mode with
    | 0 => (0, r, true, false)
    | 1 => (hmin.toNat, 0, true, false)
    | _ => (0, 0, true, false)
  else if 0 < r && r < full && lmax < r then
    match x.mode with
    | 0 => (full.toNat, r - full, true, false)
    | 1 => (lmax.toNat, 0, true, false)
    | _ => (full.toNat, 0, true, false)
  else
    let w := min (max r 0) full
    (w.toNat, 0, false, decide (r ≠ w))

/-- The edges of an on-time (R173, R181). -/
def place (x : PulseIn) (rise : Int) (c w : Nat) : Int × Int :=
  if w = c then (rise, rise + w)
  else if x.updn then (64 * x.period - (w / 2 : Nat), 64 * x.period + ((w + 1) / 2 : Nat))
  else
    let r := min rise (128 * x.period - w)
    (r, r + w)

/-- A period's pulse, stages 1 to 3 of R184. -/
def pulse (x : PulseIn) (acc : Int) : PulseOut :=
  let (rise, c) := request x
  if x.indep then ⟨c, rise, rise + c, acc, false, false⟩
  else
    let (w, acc', short, loss) := shortStage x c acc
    let cap := 128 * (x.period - x.refw - 2 * x.dt)
    let w := if x.capped then Nat.min w cap else w
    let (r, f) := place x rise c w
    ⟨w, r, f, acc', short, loss⟩

/-- The carry register as an integer and back (R180). -/
def accOf (s : State) (p : Nat) : Int := toSigned 27 (s.rd (Reg.PR_CARRY_ACC p))
def setAcc (s : State) (p : Nat) (v : Int) : State := s.wr (Reg.PR_CARRY_ACC p) (ofSigned 27 v)

/-- A short pulse is counted; `PWM_SHORT` is raised once in a frame (R180, R197). -/
def shortPulse (s : State) (p : Nat) : State :=
  let s := (s.incSat Reg.PWM_SHORT_COUNT_COUNT).wr Reg.PWM_FLAGS_SHORT 1
  let s := s.wr (Reg.PR_STATUS_SHORT_LAST p) 1
  if s.pwm.shortRaised then s
  else State.raise { s with pwm := { s.pwm with shortRaised := true } } Ev.PWM_SHORT

/-- The pulse inputs of a pair from a set of values and a period. -/
def pulseIn (s : State) (p period : Nat) (v : PairVals) (capped : Bool) : PulseIn :=
  let c := p / 8
  { period := period, updn := s.on (Reg.CL_CTRL_UPDN c), asym := s.on (Reg.PR_CFG_ASYM p),
    dupd := s.on (Reg.CL_CTRL_DUPD c), indep := s.on (Reg.PR_CFG_INDEP p), mode := s.rd (Reg.PR_CFG_SHORT p),
    ca := Nat.min (compareTd v.cmpA) (128 * period), cb := Nat.min (compareTd v.cmpB) (128 * period),
    dt := v.dt, minp := v.minp, refw := v.refw, capped := capped }

/-- The active values of a pair. -/
def actives (s : State) (p : Nat) : PairVals :=
  let k := s.pwmPair p
  ⟨s.rd (Reg.PR_CMPA_ACT_CMP p), s.rd (Reg.PR_CMPB_ACT_CMP p), k.dt, k.minp, k.refw⟩

/-- A pair forms its pulse at a valley (R180, R181, R185). -/
def formPulse (s : State) (p : Nat) : State :=
  let k := s.pwmPair p
  let capped := (k.bsNow || k.bsLast) && !s.on (Reg.PR_CFG_INDEP p)
  let o := pulse (s.pulseIn p (s.rd (Reg.CL_PERIOD_ACT_PERIOD (p / 8))) (s.actives p) capped) (s.accOf p)
  let s := s.setPwmPair p { k with w := o.w, rise := o.rise, fall := o.fall, short := o.short, bsLast := k.bsNow }
  let s := ((s.setAcc p o.acc).wr (Reg.PR_STATUS_REFRESH p) (b2n capped)).wr (Reg.PR_STATUS_SHORT_LAST p) 0
  let s := s.when o.short (fun s => s.shortPulse p)
  s.when o.loss (fun s => (s.wr Reg.PWM_FLAGS_CARRY_LOSS 1).incSat Reg.PWM_SHORT_COUNT_COUNT)

/-- The falling edge that a peak commit sets, moved where needed (R181). -/
def peakEdge (s : State) (p : Nat) : State :=
  let k := s.pwmPair p
  if k.short || s.on (Reg.PR_CFG_INDEP p) then s
  else
    let period := s.rd (Reg.CL_PERIOD_ACT_PERIOD (p / 8))
    let x := s.pulseIn p period (s.actives p) false
    let cb := if x.asym then x.cb else x.ca
    let fall : Int := 64 * period + ((cb + 1) / 2 : Nat)
    let w : Int := fall - k.rise
    let hmin : Int := 128 * (k.dt + k.minp : Nat)
    let lmax : Int := 128 * period - hmin
    let w' := if w = 0 || w = 128 * period then w else max (min w lmax) hmin
    let s := s.setPwmPair p { k with w := w'.toNat, fall := k.rise + w' }
    if w' = w then s
    else
      let s := s.shortPulse p
      if s.rd (Reg.PR_CFG_SHORT p) = 0 then s.setAcc p (s.accOf p + (w - w')) else s

/-! ### Commit points and valleys (R177, R180, R189, R193, R194) -/

/-- Pairs are driven now: not latched in safe state and not waiting to resume. -/
def driving (s : State) (c : Nat) : Bool :=
  s.on (Reg.CL_CTRL_EN c) && !s.on Reg.PWM_SAFE_STATUS_LATCHED && !(s.cluster c).inReset && !(s.cluster c).resume

/-- A commit point (R177): the frozen copy enters where a commit is armed or AUTO = 1, a held commit is armed for the next
point and reported late, and the holding copy moves to the shadows. -/
def commitPoint (s : State) (c : Nat) : State :=
  let k := s.cluster c
  let apply := k.armed || s.on (Reg.CL_CTRL_AUTO c)
  let sync := s.on (Reg.CL_CTRL_SYNC c)
  let s := s.when (apply && !sync && !k.peak) (fun s => s.wr (Reg.CL_PERIOD_ACT_PERIOD c) k.frozenPeriod)
  let s := s.when apply (fun s =>
    let s := s.forEach (clusterPairs c) (fun s p => s.activate p (s.pwmPair p).frozen)
    s.rangeCheck c (if sync && s.divisor = 1 then k.frozenPeriod else s.rd (Reg.CL_PERIOD_ACT_PERIOD c)))
  let s := s.when (k.held || (k.deferred && k.armed)) (fun s => s.reportLate c)
  let s := s.setCluster c { s.cluster c with window := false, armed := k.held && !s.on (Reg.CL_CTRL_AUTO c), held := false,
                                             deferred := false }
  let s := (s.holdingToShadows c).commitPend c
  let half := s.rd (Reg.CL_PERIOD_ACT_PERIOD c) / 2
  let s := (s.wr (Reg.CL_CNT_TICK c) (if k.peak then half else 0)).wr (Reg.CL_CNT_FALLING c) (b2n k.peak)
  s.when (k.peak && s.driving c) (fun s => s.forEach (clusterPairs c) peakEdge)

/-- `CL_STATUS.TRIPPED`: a pair of the cluster is held by a latched trip (R189). -/
def clusterTripped (s : State) (c : Nat) : State :=
  s.wr (Reg.CL_STATUS_TRIPPED c) (b2n ((clusterPairs c).any fun p => (s.pwmPair p).tripLatched != 0))

/-- The reference cluster of a trip line (R189). -/
def refCluster (s : State) (n : Nat) : Nat :=
  match lowestBit 24 (s.rd (Reg.TRIP_MASK_PAIRS n)) with
  | some p => p / 8
  | none => 0

/-- A trip line is active after blanking (R188, R190). -/
def lineActive (s : State) (n : Nat) : Bool := s.on (Reg.TRIP_CFG_EN n) && (s.line n).source && !(s.line n).blanking

/-- A pair leaves trips whose line is inactive, and an escalation that was released, at its valley (R187, R189). -/
def valleyReleases (s : State) (p : Nat) : State :=
  let k := s.pwmPair p
  let keep (f : Nat → Bool) (m : Nat) : Nat := (bitsOf 16 m).foldl (fun a n => if f n then setBit a n else a) 0
  let cyc := keep s.lineActive k.tripCycle
  let lat := keep (fun n => s.lineActive n || !(s.line n).release) k.tripLatched
  let s := s.setPwmPair p { k with tripCycle := cyc, tripLatched := lat, escRelease := false }
  let s := s.wr (Reg.PR_STATUS_TRIPPED p) (b2n (lat != 0))
  s.when k.escRelease (fun s => s.wr (Reg.PR_STATUS_ESCALATED p) 0)

/-- A valley of an enabled cluster (R180, R189, R193, R194). -/
def pwmValley (s : State) (c : Nat) : State :=
  let s := s.setCluster c { s.cluster c with inReset := false, resume := false }
  let s := ((s.wr (Reg.CL_STATUS_IN_RESET c) 0).wr (Reg.CL_CNT_TICK c) 0).wr (Reg.CL_CNT_FALLING c) 0
  let s := s.forEach (clusterPairs c) valleyReleases
  let s := s.clusterTripped c
  let s := s.forEach (List.range 16) (fun s n => if s.refCluster n = c then s.setLine n { s.line n with raised := false } else s)
  let s := s.when (s.driving c) (fun s => s.forEach (clusterPairs c) formPulse)
  s.raise (Ev.PWM_VALLEY c)

/-! ### Cluster control (R170, R176, R194) -/

/-- The window of a cluster ends without its commit point (R176). -/
def windowEnds (s : State) (c : Nat) : State :=
  if (s.cluster c).window then (s.setCluster c { s.cluster c with window := false }).holdingToShadows c else s

/-- `CL_CTRL.EN` is written (R176, R178). -/
def clusterEnable (s : State) (c : Nat) (en : Bool) : State :=
  if en then s.wr (Reg.CL_CTRL_EN c) 1
  else
    let s := (s.wr (Reg.CL_CTRL_EN c) 0).windowEnds c
    if (s.cluster c).armed || (s.cluster c).held then s.transferNow c else s

/-- A cluster soft reset (R41, R176, R194). DEDUCED (notes/assumptions 28). -/
def clusterSoftReset (s : State) (c : Nat) : State :=
  let k := s.cluster c
  let s := s.windowEnds c
  let wait := k.armed || k.held
  let s := s.when (wait && !k.held && !k.deferred) lateCommit
  let s := (s.setCluster c { s.cluster c with inReset := true, armed := wait, held := false, deferred := wait }).commitPend c
  let s := s.wr (Reg.CL_STATUS_IN_RESET c) 1
  s.forEach (clusterPairs c) (fun s p =>
    let s := s.setPwmPair p { s.pwmPair p with w := 0, short := false }
    let s := (s.wr (Reg.PR_CMPA_ACT_CMP p) 0).wr (Reg.PR_CMPB_ACT_CMP p) 0
    (s.setAcc p 0).wr (Reg.PR_STATUS_XLOCK_TURN p) 0)

/-- `CL_PERIOD` is written (R170): read only while the cluster follows Orbit. -/
def clusterPeriodWrite (s : State) (c v : Nat) : State :=
  let v := v % 2 ^ 20
  if s.on (Reg.CL_CTRL_SYNC c) then s
  else if v < 4000 || 266666 < v then s.pwmCfgErr
  else s.shadowWrite c [(Reg.CL_PERIOD_SHADOW c, v)]

/-! ### Interlock, trips, force (R186 to R190) -/

/-- An overlap of a pair begins (R187): counted and raised unless the pair is escalated; the eighth of a turn escalates. -/
def interlock (s : State) (p : Nat) : State :=
  if hasBit (s.rd Reg.PWM_ESC_PAIRS) p then s
  else
    let s := s.flagRaise Reg.PWM_FLAGS_XLOCK Ev.PWM_XLOCK
    let s := (s.wr Reg.PWM_XLOCK_LAST_PAIR p).incSat Reg.PWM_XLOCK_LAST_COUNT
    let s := s.incSat (Reg.PR_STATUS_XLOCK_TURN p)
    if s.rd (Reg.PR_STATUS_XLOCK_TURN p) < 8 then s
    else
      let s := (s.setB Reg.PWM_ESC_PAIRS p).wr (Reg.PR_STATUS_ESCALATED p) 1
      s.flagRaise Reg.PWM_FLAGS_XLOCK_ESC Ev.PWM_XLOCK_ESC

/-- Escalations are released: the bit clears, the pair waits for its next valley (R187). -/
def escRelease (s : State) (mask : Nat) : State :=
  s.forEach (bitsOf 24 (mask &&& s.rd Reg.PWM_ESC_PAIRS)) (fun s p =>
    (s.setPwmPair p { s.pwmPair p with escRelease := true }).clrB Reg.PWM_ESC_PAIRS p)

/-- A trip line becomes active (R189). -/
def tripActs (s : State) (n : Nat) : State :=
  let ps := bitsOf 24 (s.rd (Reg.TRIP_MASK_PAIRS n))
  let act := s.rd (Reg.TRIP_CFG_ACTION n)
  let s := s.when (act == 0) (fun s => s.forEach ps (fun s p =>
    s.setPwmPair p { s.pwmPair p with tripCycle := setBit (s.pwmPair p).tripCycle n }))
  let s := s.when (act == 1) (fun s =>
    let s := (s.setB Reg.TRIP_LATCH_LATCH n).setLine n { s.line n with release := false }
    let s := s.forEach ps (fun s p =>
      (s.setPwmPair p { s.pwmPair p with tripLatched := setBit (s.pwmPair p).tripLatched n }).wr (Reg.PR_STATUS_TRIPPED p) 1)
    s.forEach (List.range 3) clusterTripped)
  if (s.line n).raised then s
  else (s.setLine n { s.line n with raised := true }).raise (Ev.PWM_TRIP n)

/-- A line's level after blanking is brought up to date; a rise is an activation (R188 to R190). -/
def lineUpdate (s : State) (n : Nat) : State :=
  let was := hasBit (s.rd Reg.TRIP_STATUS_LEVEL) n
  let is := s.lineActive n
  let s := s.putB Reg.TRIP_STATUS_LEVEL n is
  if is && !was then s.tripActs n else s

/-- The source that `TRIP_CFGn.SRC` names exists (R188). -/
def lineHasSource (s : State) (n : Nat) : Bool :=
  let c := s.rd (Reg.TRIP_CFG_SRC n)
  1 ≤ c && c ≤ 20

/-- The source of a line changes; `blanked` says that a blanking window of R190 runs now. -/
def lineSource (s : State) (n : Nat) (level blanked : Bool) : State :=
  let b := blanked && s.rd (Reg.TRIP_CFG_BCHAN n) != 63 && s.rd (Reg.TRIP_CFG_BLANK n) != 0
  let s := s.setLine n { s.line n with source := level && s.lineHasSource n, blanking := b }
  s.lineUpdate n

/-- Latched lines are cleared where they are inactive (R189). -/
def tripLatchClear (s : State) (mask : Nat) : State :=
  s.forEach (bitsOf 16 (mask &&& s.rd Reg.TRIP_LATCH_LATCH)) (fun s n =>
    if s.lineActive n then s else (s.clrB Reg.TRIP_LATCH_LATCH n).setLine n { s.line n with release := true })

/-- `PR_FORCE` is written; a value of 3 refuses the write (R186, R199). -/
def forceWrite (s : State) (p fh fl : Nat) : State :=
  if fh % 4 = 3 || fl % 4 = 3 then s.pwmCfgErr else (s.wr (Reg.PR_FORCE_FH p) fh).wr (Reg.PR_FORCE_FL p) fl

/-! ### Safe state and calibration (R182, R183, R192, R193) -/

/-- `PLL_PWM` is locked (`CLK_STATUS.LOCK` bit 0, R496). -/
def pwmLocked (s : State) : Bool := hasBit (s.rd Reg.CLK_STATUS_LOCK) 0

/-- The conditions of a safe-state clear (R193). -/
def safeClearable (s : State) : Bool :=
  s.rd Reg.PWM_SAFE_STATUS_ACTIVE == 0 && s.pwmLocked && s.on Reg.PWM_STATUS_CLK_OK

/-- Safe state is released: SEEN and every ACC clear, each enabled cluster resumes at its next valley (R193). -/
def safeRelease (s : State) : State :=
  let s := (s.wr Reg.PWM_SAFE_STATUS_LATCHED 0).wr Reg.PWM_SAFE_STATUS_SEEN 0
  let s := s.forEach (List.range 24) (fun s p => s.setAcc p 0)
  s.forEach (List.range 3) (fun s c => s.setCluster c { s.cluster c with resume := true })

/-- `PWM_SAFE_CMD.CLEAR` (R193). -/
def safeClear (s : State) : State := if s.safeClearable then s.safeRelease else s.pwmCfgErr

/-- Calibration ends (R182, R183); `failed` holds the outputs whose line failed. -/
def calDone (s : State) (failed : Nat) : State :=
  let failed := failed % 2 ^ 48
  let s := s.wr Reg.PWM_STATUS_CAL_DONE 1
  let s := { s with pwm := { s.pwm with failedOuts := failed } }
  let s := match lowestBit 48 failed with
    | none => s
    | some n => ((s.wr Reg.PWM_STATUS_CAL_FAIL 1).wr Reg.PWM_FLAGS_CAL_FAIL 1).wr Reg.PWM_CAL_STATUS_FAIL_OUT n
  s.raise Ev.PWM_CAL

/-! ### Boundary, snapshot and tap (R170, R187, R189, R198) -/

/-- The PWM part of a boundary; `newTurn` says that it is the valley of carrier 0. -/
def pwmBoundary (s : State) (newTurn : Bool) : State :=
  let s := { s with pwm := { s.pwm with shortRaised := false } }
  let s := s.forEach (List.range 3) (fun s c =>
    if s.on (Reg.CL_CTRL_SYNC c) then s.wr (Reg.CL_PERIOD_ACT_PERIOD c) (s.rd (Reg.CL_PERIOD_SHADOW c)) else s)
  let s := s.forEach (List.range 16) (fun s n =>
    if s.on (Reg.CL_CTRL_EN (s.refCluster n)) then s else s.setLine n { s.line n with raised := false })
  s.when newTurn (fun s => s.forEach (List.range 24) (fun s p => s.wr (Reg.PR_STATUS_XLOCK_TURN p) 0))

/-- The snapshot of the active first compares (R198). -/
def pwmSnapshot (s : State) : State :=
  s.forEach (List.range 24) (fun s p => s.wr (Reg.PR_SNAP_CMP p) (s.rd (Reg.PR_CMPA_ACT_CMP p)))

/-- Tap source 5 (R198); none where the index names no item. -/
def pwmTap? (s : State) (i : Nat) : Option Nat :=
  if i < 24 then some (F32.ofRatio (s.pwmPair i).w (128 * s.rd (Reg.CL_PERIOD_ACT_PERIOD (i / 8))))
  else if i < 27 then some (F32.ofNat (s.rd (Reg.CL_PERIOD_ACT_PERIOD (i - 24))))
  else none

/-- The period that Orbit computed goes to the shadows of the following clusters (R86, R170). -/
def periodToShadows (s : State) : State :=
  match s.orbit.nextPeriod with
  | none => s
  | some (p, _) => s.forEach (List.range 3) (fun s c =>
      if s.on (Reg.CL_CTRL_SYNC c) then s.wr (Reg.CL_PERIOD_SHADOW c) p else s)

end State

/-- ORB_PERIOD_COMPUTE (R86, R87): once in a frame. -/
def execOrbPeriodCompute (s : State) : Out :=
  .next (if s.orbit.nextPeriod.isSome then s else s.orbCompute.periodToShadows)

/-- PWM_COMMIT (R175): by a bus write, a loop-engine job, or an Orbit operation, which then retires (R92). -/
def execPwmCommit (src : CommitSource) (mask : Nat) (s : State) : Out :=
  .next (match src with
    | .bus m => s.access m 0x40010004 .cr (fun s => s.pwmCommit mask)
    | .engine _ => s.pwmCommit mask
    | .op slot =>
      match s.opOf? slot 3 with
      | some o => (s.pwmCommit (o.arga % 8)).retire slot
      | none => s)

/-- PWM_SHADOW_WRITE (R176): pairs 0 to 23. -/
def execPwmShadowWrite (m : Master) (p : Nat) (r : ShadowReg) (value : Nat) (s : State) : Out :=
  .next (if p < 24 then s.access m (State.shadowAddr p r) .cr (fun s => s.pairShadowWrite p r value) else s)

/-- COMMIT_POINT (R177): of an enabled cluster whose cut-off window is open. -/
def execCommitPoint (c : Nat) (s : State) : Out :=
  .next (if c < 3 && s.on (Reg.CL_CTRL_EN c) && (s.cluster c).window then s.commitPoint c else s)

/-- CL_ENABLE (R176, R178): `CL_CTRL.EN` written. -/
def execClEnable (m : Master) (c : Nat) (en : Bool) (s : State) : Out :=
  .next (if c < 3 then s.access m (0x40010100 + 0x20 * c) .cr (fun s => s.clusterEnable c en) else s)

/-- CL_SOFT_RESET (R194). -/
def execClSoftReset (m : Master) (c : Nat) (s : State) : Out :=
  .next (if c < 3 then s.access m (0x40010100 + 0x20 * c) .cr (fun s => s.clusterSoftReset c) else s)

/-- CL_PERIOD_WRITE (R170). -/
def execClPeriodWrite (m : Master) (c value : Nat) (s : State) : Out :=
  .next (if c < 3 then s.access m (0x40010104 + 0x20 * c) .cr (fun s => s.clusterPeriodWrite c value) else s)

/-- PWM_VALLEY (R180): of an enabled cluster. -/
def execPwmValley (c : Nat) (s : State) : Out :=
  .next (if c < 3 && s.on (Reg.CL_CTRL_EN c) then s.pwmValley c else s)

/-- PWM_ESC_RELEASE (R187). -/
def execPwmEscRelease (m : Master) (mask : Nat) (s : State) : Out :=
  .next (s.access m 0x4001001C .cr (fun s => s.escRelease mask))

/-- TRIP_ACTIVATE (R188, R189): the source of line `n` takes a level. -/
def execTripActivate (n : Nat) (level blanked : Bool) (s : State) : Out :=
  .next (if n < 16 then s.lineSource n level blanked else s)

/-- TRIP_BLANK_END (R190): a source that is active then trips. -/
def execTripBlankEnd (n : Nat) (s : State) : Out :=
  .next (if n < 16 then (s.setLine n { s.line n with blanking := false }).lineUpdate n else s)

/-- TRIP_LATCH_CLEAR (R189). -/
def execTripLatchClear (m : Master) (mask : Nat) (s : State) : Out :=
  .next (s.access m 0x40010034 .cr (fun s => s.tripLatchClear mask))

/-- PWM_FORCE_WRITE (R186, R199). -/
def execPwmForceWrite (m : Master) (p fh fl : Nat) (s : State) : Out :=
  .next (if p < 24 then s.access m (0x4001041C + 0x20 * p) .cr (fun s => s.forceWrite p fh fl) else s)

/-- PWM_SAFE_ENTER (R192): a cause reaches the block. -/
def execPwmSafeEnter (cause : SafeCause) (s : State) : Out := .next (s.pwmSafe cause)

/-- PWM_SAFE_CMD_ENTER (R192, R193): cause SOFT, present only in its own tB. -/
def execPwmSafeCmdEnter (m : Master) (s : State) : Out :=
  .next (s.access m 0x40010014 .cr (fun s => s.pwmSafe .soft))

/-- PWM_SAFE_CLEAR (R193). -/
def execPwmSafeClear (m : Master) (s : State) : Out := .next (s.access m 0x40010014 .cr State.safeClear)

/-- PWM_CLK_LOSS (R192): the clock monitor sees no edge for 16 ns. -/
def execPwmClkLoss (s : State) : Out :=
  .next (((s.wr Reg.PWM_STATUS_CLK_OK 0).flagRaise Reg.PWM_FLAGS_CLK_LOSS Ev.PWM_CLK_LOSS).pwmSafe .clkLoss)

/-- PWM_CAL_DONE (R182, R183): only while `PLL_PWM` is locked. -/
def execPwmCalDone (failed : Nat) (s : State) : Out := .next (if s.pwmLocked then s.calDone failed else s)

/-- PWM_CLR_SHORT (R199). -/
def execPwmClrShort (m : Master) (s : State) : Out :=
  .next (s.access m 0x40010028 .cr (fun s => s.wr Reg.PWM_SHORT_COUNT_COUNT 0))

/-- PWM_CLR_XLOCK (R199). -/
def execPwmClrXlock (m : Master) (s : State) : Out :=
  .next (s.access m 0x40010028 .cr (fun s => s.wr Reg.PWM_XLOCK_LAST_COUNT 0))

/-- PWM_CLR_LATE (R199). -/
def execPwmClrLate (m : Master) (s : State) : Out :=
  .next (s.access m 0x40010028 .cr (fun s => s.forEach (List.range 3) (fun s c => s.wr (Reg.CL_LATE_COUNT_COUNT c) 0)))

end Sys2Proof.Machine
end

