-- ==== Sys2Proof/Machine/Drive.lean ====
section
/-! DEFINITION. Machine/Drive.lean: the drive interface and the drive dies (R67, R68, R200 to R224), and the PWM interlock of a
routed pair. Legs are 0 to 5; a command that names another does nothing. -/

namespace Sys2Proof.Machine

namespace State

/-! ### Leg states (R216) -/

abbrev legUnused : Nat := 0
abbrev legInit : Nat := 1
abbrev legOff : Nat := 2
abbrev legArmed : Nat := 3
abbrev legSoftOff : Nat := 4
abbrev legWait : Nat := 5
abbrev legLatched : Nat := 6
abbrev legTest : Nat := 7

def leg (s : State) (n : Nat) : DrvLeg := nth s.drv.legs n {}
def setLeg (s : State) (n : Nat) (v : DrvLeg) : State := { s with drv := { s.drv with legs := setNth s.drv.legs n v } }
def legState (s : State) (n : Nat) : Nat := s.rd (Reg.DRV_STATE_STATE n)

/-- A leg changes state; FAULTED and LATCHED follow (R218, R224). -/
def setLegState (s : State) (n st : Nat) : State :=
  let s := s.wr (Reg.DRV_STATE_STATE n) st
  let s := s.putB Reg.DRV_STATUS_FAULTED n (st == legSoftOff || st == legWait || st == legLatched)
  s.putB Reg.DRV_STATUS_LATCHED n (st == legLatched)

def setLinkOk (s : State) (n : Nat) (b : Bool) : State :=
  (s.wr (Reg.DRV_STATE_LINK_OK n) (b2n b)).putB Reg.DRV_STATUS_LINK_OK n b

def drvCfgErr (s : State) : State := s.wr Reg.DRV_FLAGS_CFG_ERR 1

/-- UV_VPH is no leg fault with BOOT = 1 (R211), so it blocks nothing then. -/
def legPresent (s : State) (n : Nat) : Bool :=
  let m := (s.leg n).present
  (if s.on (Reg.DRV_CFG_BOOT n) then clearBit m 3 else m) != 0

/-- The conditions of arming (R216). -/
def armable (s : State) (n : Nat) : Bool :=
  s.on (Reg.DRV_STATE_TEST_OK n) && !s.legPresent n && s.on (Reg.DRV_STATE_LINK_OK n)

/-- The registers of a leg that R224 locks may be written. -/
def legCfgOpen (s : State) (n : Nat) : Bool :=
  s.legState n == legUnused || s.legState n == legOff || s.legState n == legLatched

/-! ### Bootstrap levels (R210, R219) -/

/-- The VPH_UV level in 0.1 V. -/
def uvLevel (s : State) (n : Nat) : Nat := nth [80, 100, 115, 130] (s.rd (Reg.DRV_UV_VPH_UV n)) 0

/-- GH is held for bootstrap under-voltage (R219). -/
def bsHold (s : State) (n : Nat) : State :=
  if s.on (Reg.DRV_STATE_BS_HOLD n) then s else (s.wr (Reg.DRV_STATE_BS_HOLD n) 1).raise Ev.DRV_BS_UV

/-! ### Faults (R211, R212, R215, R216, R222) -/

/-- A cause bit is set. -/
def causeBit (s : State) (n c : Nat) : State := s.setB (Reg.DRV_CAUSE_CAUSE n) c

/-- A fault counts as one try (R216). -/
def oneTry (s : State) (n : Nat) : State := s.incSat (Reg.DRV_STATE_TRIES n)

/-- The latch test: WAIT with its timer, or LATCHED (R216). -/
def waitOrLatch (s : State) (n : Nat) : State :=
  if s.rd (Reg.DRV_STATE_TRIES n) ≤ s.rd (Reg.DRV_CFG_RETRY_MAX n) then
    (s.setLeg n { s.leg n with rearmPend := false, waitOver := false }).setLegState n legWait
  else (s.setLegState n legLatched).raise Ev.DRV_LATCH

/-- A leg leaves ARMED on a leg fault: its episode begins (R216). -/
def faultFromArmed (s : State) (n c : Nat) : State :=
  let s := ((s.causeBit n c).wr (Reg.DRV_CAUSE_FIRST n) c).oneTry n
  State.raise (s.setLeg n { s.leg n with armPend := false, rearmPend := false, waitOver := false, enWait := false })
    (Ev.DRV_FAULT n)

/-- A leg-fault cause other than DSAT and OC: 3 to 8 a detector, 9 LINK, 10 XLOCK_ESC (R211, R216, R222). -/
def legFault (s : State) (n c : Nat) : State :=
  let s := s.when (3 ≤ c && c ≤ 8) (fun s => s.setLeg n { s.leg n with present := setBit (s.leg n).present c })
  if c = 3 && s.on (Reg.DRV_CFG_BOOT n) then s
  else if s.legState n = legArmed then (s.faultFromArmed n c).waitOrLatch n
  else if s.legState n = legSoftOff || s.legState n = legWait then s.causeBit n c
  else s

/-- Soft turn-off ends (R212). -/
def softOffEnd (s : State) (n : Nat) : State := if s.legState n = legSoftOff then s.waitOrLatch n else s

/-- DSAT or OC (R210, R212, R222): inactive detectors read as not tripped. -/
def dsatOc (s : State) (n c : Nat) (gateOn : Bool) : State :=
  let en :=
    match c with
    | 0 => s.on (Reg.DRV_CFG_DSAT_EN_H n) && !s.on (Reg.DRV_STATE_BS_HOLD n)
    | 1 => s.on (Reg.DRV_CFG_DSAT_EN_L n)
    | _ => s.on (Reg.DRV_CFG_OC_EN n)
  if !en then s
  else
    let s := s.when (c == 2) (fun s => s.setLeg n { s.leg n with present := setBit (s.leg n).present 2 })
    if s.legState n = legArmed then
      let s := (s.faultFromArmed n c).setLegState n legSoftOff
      if gateOn then s else s.softOffEnd n
    else if s.legState n = legSoftOff || (s.legState n = legWait && c == 2) then s.causeBit n c
    else s

/-- An escalation in this turn (R215): two in one turn count as one fault. -/
def xlockEsc (s : State) (n : Nat) : State :=
  if (s.leg n).escTurn then s
  else (s.setLeg n { s.leg n with escTurn := true }).legFault n 10

/-- A die interlock event (R214, R215): only of an armed leg. -/
def dieInterlock (s : State) (n : Nat) : State :=
  if s.legState n = legArmed then
    let s := (s.setLeg n { s.leg n with waitH := true, waitL := true }).raise Ev.DRV_XLOCK
    let s := (s.incSat (Reg.DRV_XLOCK_TURN n)).incSat (Reg.DRV_XLOCK_COUNT n)
    if s.rd (Reg.DRV_XLOCK_TURN n) = 8 then s.xlockEsc n else s
  else s

/-! ### Self-test (R216, R220, R221) -/

/-- The results of the comparators tested, and `TEST_OK` (R220). -/
def testResults (s : State) (n tested pass : Nat) : State :=
  let s := s.forEach (bitsOf 9 (tested &&& (s.leg n).testSel)) (fun s c => s.putB (Reg.DRV_TEST_RES_PASS n) c (hasBit pass c))
  s.wr (Reg.DRV_STATE_TEST_OK n) (b2n (s.rd (Reg.DRV_TEST_RES_PASS n) == 511))

/-- A test begins. -/
def testBegin (s : State) (n sel : Nat) : State :=
  let s := s.setLeg n { s.leg n with testFrom := s.legState n, testSel := sel }
  ((s.wr (Reg.DRV_TEST_RES_BUSY n) 1).wr (Reg.DRV_TEST_RES_ABORT n) 0).setLegState n legTest

/-- A test ends and the leg returns to where it came from, from INIT to OFF (R216, R223). -/
def testEnd (s : State) (n tested pass : Nat) : State :=
  if s.legState n = legTest then
    let s := (s.testResults n tested pass).wr (Reg.DRV_TEST_RES_BUSY n) 0
    let back := if (s.leg n).testFrom = legInit then legOff else (s.leg n).testFrom
    (s.setLegState n back).raise Ev.DRV_TEST_DONE
  else s

/-- A test is aborted (R221). -/
def testAbort (s : State) (n tested pass : Nat) : State :=
  if s.legState n = legTest then (s.wr (Reg.DRV_TEST_RES_ABORT n) 1).testEnd n tested pass else s

/-- `TEST_CMD.START` is written 1 (R221). -/
def testStart (s : State) (n : Nat) : State :=
  let sel := s.rd (Reg.DRV_TEST_CMD_SEL n)
  if (s.legState n = legOff || s.legState n = legLatched) && sel != 0 then s.testBegin n sel
  else s.wr Reg.DRV_FLAGS_TEST_REFUSED 1

/-! ### Use, arming, clear (R213, R216, R217) -/

/-- A leg is used: INIT (R216). -/
def legUse (s : State) (n : Nat) : State :=
  if s.cpRun then s.drvCfgErr
  else
    let s := s.setB Reg.DRV_CTRL_USED n
    if s.legState n = legUnused then s.setLegState n legInit else s

/-- A leg goes unused: its logic section is unpowered (R216, R221). -/
def legUnuse (s : State) (n tested pass : Nat) : State :=
  if s.cpRun then s.drvCfgErr
  else
    let s := (s.clrB Reg.DRV_CTRL_USED n).testAbort n tested pass
    let s := ((s.setLinkOk n false).wr (Reg.DRV_CFG_ARM n) 0).wr (Reg.DRV_STATE_ADAPT_READY n) 0
    let s := (s.wr (Reg.DRV_STATE_BS_WARN n) 0).wr (Reg.DRV_STATE_BS_HOLD n) 0
    (s.setLeg n { escTurn := (s.leg n).escTurn }).setLegState n legUnused

/-- The link has been valid for 10 µs in INIT: the boot self-test of all nine comparators (R216, R220). -/
def initDone (s : State) (n : Nat) : State :=
  if s.legState n = legInit then (s.setLinkOk n true).testBegin n 511 else s

/-- `ARM` is written 1 (R216). DEDUCED (notes/assumptions 31). -/
def legArm (s : State) (n : Nat) : State :=
  let st := s.legState n
  if st = legOff then
    if s.armable n then (s.wr (Reg.DRV_CFG_ARM n) 1).setLeg n { s.leg n with armPend := true }
    else (s.wr (Reg.DRV_CFG_ARM n) 0).drvCfgErr
  else if st = legUnused || st = legInit || st = legTest then s.drvCfgErr
  else s

/-- `ARM` is written 0 (R216, R222). -/
def legDisarm (s : State) (n : Nat) : State :=
  let st := s.legState n
  if st = legSoftOff then s.drvCfgErr
  else
    let s := s.wr (Reg.DRV_CFG_ARM n) 0
    let s := s.setLeg n { s.leg n with armPend := false, rearmPend := false, waitOver := false, enWait := false }
    if st = legArmed || st = legWait then s.setLegState n legOff else s

/-- A leg becomes ARMED; it starts with GH held where VBS is too low (R219, R222). -/
def legEngage (s : State) (n : Nat) : State :=
  let k := s.leg n
  let low := s.on (Reg.DRV_CFG_BOOT n) && (k.bsPend || decide (s.rd (Reg.DRV_STATE_VBS n) < s.uvLevel n + 5))
  let s := s.setLeg n { k with armPend := false, rearmPend := false, waitOver := false, bsPend := false }
  (s.setLegState n legArmed).when low (fun s => s.bsHold n)

/-- Both received commands are off (R213, R216). -/
def bothOff (s : State) (n : Nat) : State :=
  let k := s.leg n
  if s.legState n = legOff && k.armPend && s.armable n then s.legEngage n
  else if s.legState n = legWait && k.rearmPend && !s.legPresent n && s.on (Reg.DRV_STATE_LINK_OK n)
      && !s.on (Reg.DRV_STATE_EN_CUT n) then
    (s.legEngage n).raise Ev.DRV_REARM
  else if k.enWait then s.setLeg n { k with enWait := false }
  else s

/-- The retry wait elapses (R216, R222). -/
def retryWaitEnd (s : State) (n : Nat) : State :=
  if s.legState n = legWait then
    if s.legPresent n || !s.on (Reg.DRV_STATE_LINK_OK n) then (s.oneTry n).waitOrLatch n
    else if s.on (Reg.DRV_STATE_EN_CUT n) then s.setLeg n { s.leg n with waitOver := true }
    else s.setLeg n { s.leg n with rearmPend := true }
  else s

/-- CLEAR is accepted or refused (R217). -/
def legClear (s : State) (n : Nat) : State :=
  if s.legState n = legLatched then
    if s.legPresent n || !s.on (Reg.DRV_STATE_LINK_OK n) then s.wr Reg.DRV_FLAGS_CLEAR_REFUSED 1
    else
      let s := (s.wr (Reg.DRV_STATE_TRIES n) 0).wr (Reg.DRV_CAUSE_FIRST n) 31
      (s.wr (Reg.DRV_CFG_ARM n) 0).setLegState n legOff
  else s

/-- `DRV_CMDn.CLEAR` is written by a master: a core pair's write is ignored (R217). -/
def legClearBy (s : State) (m : Master) (n : Nat) : State :=
  match masterPair? m with
  | some _ => s.drvCfgErr
  | none => s.legClear n

/-- The enable of a die is cut (R213). -/
def enableCut (s : State) (n : Nat) : State :=
  if s.on (Reg.DRV_STATE_EN_CUT n) then s
  else ((s.wr (Reg.DRV_STATE_EN_CUT n) 1).setB Reg.DRV_STATUS_EN_CUT n).raise Ev.DRV_EN_CUT

/-- The enable of a die returns (R213, R222). -/
def enableReturn (s : State) (n : Nat) : State :=
  if s.on (Reg.DRV_STATE_EN_CUT n) then
    let s := ((s.wr (Reg.DRV_STATE_EN_CUT n) 0).clrB Reg.DRV_STATUS_EN_CUT n).raise Ev.DRV_EN_CUT
    let k := s.leg n
    let above := k.waitOver && !s.legPresent n && s.on (Reg.DRV_STATE_LINK_OK n)
    s.setLeg n { k with enWait := true, waitOver := false, rearmPend := k.rearmPend || above }
  else s

/-- Both drivers of the drive-enable line (R65): every enable is cut, or returns where neither driver holds it. -/
def enableLine (s : State) : State :=
  if s.safety.cutSc || s.safety.cutHsl then s.forEach (List.range 6) enableCut else s.forEach (List.range 6) enableReturn

/-! ### Adaptive gate strength (R205 to R209) -/

/-- The code that a transition is credited to: channel H, turn-on; none while both commands are on (R207). -/
def credit? (rising : Bool) (e : GateEdge) (other : Bool) : Option (Bool × Bool) :=
  match rising, e, other with
  | true, .ghOn, false => some (true, true)
  | true, .glOff, false => some (false, false)
  | false, .glOn, false => some (false, true)
  | false, .ghOff, false => some (true, false)
  | _, _, _ => none

/-- The control law of R208. -/
def adaptCode (mode tgt db cmin cmax code t : Nat) : Nat :=
  let err : Int := (t : Int) - tgt
  let s : Int := if mode = 1 then 1 else if mode = 2 then 4 else if (tgt : Int) < 4 * err.natAbs then 4 else 1
  let step : Int := if mode = 0 || err.natAbs ≤ 2 * db then 0 else if 0 < err then s else -s
  (min (max ((code : Int) + step) cmin) cmax).toNat

/-- The registers of one code: measured time, mode, target, deadband, bounds, code. -/
def codeFlds (n : Nat) : Bool × Bool → Fld × Fld × Fld × Fld × Fld × Fld × Fld
  | (true, true) => (Reg.DRV_TSW_H_ON_NS n, Reg.DRV_ADAPT_H_MODE_ON n, Reg.DRV_ADAPT_H_TGT_ON n, Reg.DRV_ADAPT_H_DB n,
      Reg.DRV_BOUND_H_ON_MIN n, Reg.DRV_BOUND_H_ON_MAX n, Reg.DRV_CODE_H_ON n)
  | (true, false) => (Reg.DRV_TSW_H_OFF_NS n, Reg.DRV_ADAPT_H_MODE_OFF n, Reg.DRV_ADAPT_H_TGT_OFF n, Reg.DRV_ADAPT_H_DB n,
      Reg.DRV_BOUND_H_OFF_MIN n, Reg.DRV_BOUND_H_OFF_MAX n, Reg.DRV_CODE_H_OFF n)
  | (false, true) => (Reg.DRV_TSW_L_ON_NS n, Reg.DRV_ADAPT_L_MODE_ON n, Reg.DRV_ADAPT_L_TGT_ON n, Reg.DRV_ADAPT_L_DB n,
      Reg.DRV_BOUND_L_ON_MIN n, Reg.DRV_BOUND_L_ON_MAX n, Reg.DRV_CODE_L_ON n)
  | (false, false) => (Reg.DRV_TSW_L_OFF_NS n, Reg.DRV_ADAPT_L_MODE_OFF n, Reg.DRV_ADAPT_L_TGT_OFF n, Reg.DRV_ADAPT_L_DB n,
      Reg.DRV_BOUND_L_OFF_MIN n, Reg.DRV_BOUND_L_OFF_MAX n, Reg.DRV_CODE_L_OFF n)

/-- A measured transition (R206 to R209): credited unless a soft turn-off runs; 1023 ns or more gives no step. -/
def transition (s : State) (n : Nat) (rising : Bool) (e : GateEdge) (other : Bool) (t : Nat) : State :=
  match credit? rising e other with
  | none => s
  | some ch =>
    if !s.on (Reg.DRV_STATE_ADAPT_READY n) || s.legState n = legSoftOff then s
    else
      let (tsw, mode, tgt, db, cmin, cmax, code) := codeFlds n ch
      let s := s.wr tsw (Nat.min t 1023)
      if s.rd mode = 0 || 1023 ≤ t || (ch.1 && s.on (Reg.DRV_STATE_BS_HOLD n)) then s
      else s.wr code (adaptCode (s.rd mode) (s.rd tgt) (s.rd db) (s.rd cmin) (s.rd cmax) (s.rd code) t)

/-! ### Status frames (R204, R206, R210) -/

/-- A valid status frame. -/
def frameIn (s : State) (n : Nat) (f : DrvFrame) : State :=
  let s := (s.wr (Reg.DRV_STATE_VBS n) f.vbs).wr (Reg.DRV_STATE_VPL n) f.vpl
  let s := (s.wr (Reg.DRV_PLATEAU_VLO n) f.vlo).wr (Reg.DRV_PLATEAU_VHI n) f.vhi
  let s := (s.wr (Reg.DRV_TEMP_TJ_H n) f.tjH).wr (Reg.DRV_TEMP_TJ_L n) f.tjL
  let s := s.wr (Reg.DRV_STATE_ADAPT_READY n) (b2n (f.seen && decide (f.vlo + 50 ≤ f.vhi)))
  let w := s.rd (Reg.DRV_TEMP_WARN n)
  let k := s.leg n
  let s := s.setLeg n { k with present := f.active % 512, clampH := k.clampH && !f.refreshH, clampL := k.clampL && !f.refreshL,
                               warnH := k.warnH && decide (w ≤ f.tjH), warnL := k.warnL && decide (w ≤ f.tjL) }
  if s.legState n = legInit then s else s.setLinkOk n true

/-- A status frame that fails its CRC. -/
def frameBad (s : State) : State := (s.incSat Reg.DRV_CRC_COUNT_COUNT).flagRaise Reg.DRV_FLAGS_LINK_CRC Ev.DRV_LINK_CRC

/-- A junction crosses its warning level (R210): once per crossing. -/
def otWarn (s : State) (n : Nat) (high : Bool) (tj : Nat) : State :=
  let s := if high then s.wr (Reg.DRV_TEMP_TJ_H n) tj else s.wr (Reg.DRV_TEMP_TJ_L n) tj
  let k := s.leg n
  let above := decide (s.rd (Reg.DRV_TEMP_WARN n) ≤ tj)
  let was := if high then k.warnH else k.warnL
  let s := s.setLeg n (if high then { k with warnH := above } else { k with warnL := above })
  if above && !was then s.raise Ev.DRV_OT_WARN else s

/-- The drive part of a boundary: the turn counts restart at the valley of carrier 0 (R215). -/
def driveBoundary (s : State) (newTurn : Bool) : State :=
  s.when newTurn (fun s => s.forEach (List.range 6) (fun s n =>
    (s.wr (Reg.DRV_XLOCK_TURN n) 0).setLeg n { s.leg n with escTurn := false }))

/-- The command-and-status path of a leg is lost (R67, R211, R221, R222). -/
def pathTimeout (s : State) (n tested pass : Nat) : State :=
  ((s.setLinkOk n false).testAbort n tested pass).legFault n 9

/-- Address of a leg's register. -/
def legAddr (n off : Nat) : Nat := 0x40020100 + 0x80 * n + off

end State

/-- DRIVE_PATH_TIMEOUT (R67): `tested` and `pass` say how far a running self-test had come (R221). -/
def execDrivePathTimeout (leg tested pass : Nat) (s : State) : Out :=
  .next (if leg < 6 && s.legState leg != State.legUnused then s.pathTimeout leg tested pass else s)

/-- ISO_REFRESH_TIMEOUT (R68). -/
def execIsoRefreshTimeout (leg : Nat) (high : Bool) (s : State) : Out :=
  .next (if leg < 6 then
    s.setLeg leg (if high then { s.leg leg with clampH := true } else { s.leg leg with clampL := true }) else s)

/-- PWM_INTERLOCK (R187, R215): the escalation of a pair that is routed to a die is reported to its leg. -/
def execPwmInterlock (p : Nat) (s : State) : Out :=
  .next (if p < 24 then
    let t := s.interlock p
    let esc := hasBit (t.rd Reg.PWM_ESC_PAIRS) p && !hasBit (s.rd Reg.PWM_ESC_PAIRS) p
    if esc && p < 6 && t.rd (Reg.PR_CFG_ROUTE p) == 2 then t.xlockEsc p else t
  else s)

/-- DRV_LEG_USE (R216). -/
def execDrvLegUse (m : Master) (leg : Nat) (s : State) : Out :=
  .next (if leg < 6 then s.access m 0x40020000 .cr (fun s => s.legUse leg) else s)

/-- DRV_LEG_UNUSE (R216, R221). -/
def execDrvLegUnuse (m : Master) (leg tested pass : Nat) (s : State) : Out :=
  .next (if leg < 6 then s.access m 0x40020000 .cr (fun s => s.legUnuse leg tested pass) else s)

/-- DRV_INIT_DONE (R216). -/
def execDrvInitDone (leg : Nat) (s : State) : Out := .next (if leg < 6 then s.initDone leg else s)

/-- DRV_TEST_DONE (R220): the result of every selected comparator. -/
def execDrvTestDone (leg pass : Nat) (s : State) : Out := .next (if leg < 6 then s.testEnd leg 511 pass else s)

/-- DRV_TEST_START (R221). -/
def execDrvTestStart (m : Master) (leg : Nat) (s : State) : Out :=
  .next (if leg < 6 then s.access m (State.legAddr leg 0x44) .cr (fun s => s.testStart leg) else s)

/-- DRV_ARM (R216). -/
def execDrvArm (m : Master) (leg : Nat) (s : State) : Out :=
  .next (if leg < 6 then s.access m (State.legAddr leg 0) .cr (fun s => s.legArm leg) else s)

/-- DRV_ARM_ENGAGE (R213, R216). -/
def execDrvArmEngage (leg : Nat) (s : State) : Out := .next (if leg < 6 then s.bothOff leg else s)

/-- DRV_DISARM (R216). -/
def execDrvDisarm (m : Master) (leg : Nat) (s : State) : Out :=
  .next (if leg < 6 then s.access m (State.legAddr leg 0) .cr (fun s => s.legDisarm leg) else s)

/-- DRV_DSAT_OC (R212): cause 0 DSAT_H, 1 DSAT_L, 2 OC; `gateOn` says that a gate is on. -/
def execDrvDsatOc (leg cause : Nat) (gateOn : Bool) (s : State) : Out :=
  .next (if leg < 6 && cause < 3 then s.dsatOc leg cause gateOn else s)

/-- DRV_LEG_FAULT (R211): causes 3 to 8; a lost link and an escalation come by their own commands. -/
def execDrvLegFault (leg cause : Nat) (s : State) : Out :=
  .next (if leg < 6 && 3 ≤ cause && cause ≤ 8 && s.legState leg != State.legUnused then s.legFault leg cause else s)

/-- DRV_SOFTOFF_END (R212). -/
def execDrvSoftoffEnd (leg : Nat) (s : State) : Out := .next (if leg < 6 then s.softOffEnd leg else s)

/-- DRV_RETRY_WAIT_END (R216). -/
def execDrvRetryWaitEnd (leg : Nat) (s : State) : Out := .next (if leg < 6 then s.retryWaitEnd leg else s)

/-- DRV_TRIES_RESET (R216). -/
def execDrvTriesReset (leg : Nat) (s : State) : Out :=
  .next (if leg < 6 && s.legState leg == State.legArmed then s.wr (Reg.DRV_STATE_TRIES leg) 0 else s)

/-- DRV_CMD_CLEAR (R217). -/
def execDrvCmdClear (m : Master) (leg : Nat) (s : State) : Out :=
  .next (if leg < 6 then s.access m (State.legAddr leg 0x4C) .cr (fun s => s.legClearBy m leg) else s)

/-- DRV_ENABLE_CUT (R213). -/
def execDrvEnableCut (leg : Nat) (s : State) : Out := .next (if leg < 6 then s.enableCut leg else s)

/-- DRV_ENABLE_RETURN (R213): no plane releases a line that a driver holds (R65). -/
def execDrvEnableReturn (leg : Nat) (s : State) : Out :=
  .next (if leg < 6 && !s.safety.cutSc && !s.safety.cutHsl then s.enableReturn leg else s)

/-- DRV_DIE_INTERLOCK (R214). -/
def execDrvDieInterlock (leg : Nat) (s : State) : Out := .next (if leg < 6 then s.dieInterlock leg else s)

/-- DRV_BS_WARN (R219). -/
def execDrvBsWarn (leg : Nat) (s : State) : Out :=
  .next (if leg < 6 && s.on (Reg.DRV_CFG_BOOT leg) && !s.on (Reg.DRV_STATE_BS_WARN leg) && s.legState leg != State.legUnused
    then (s.wr (Reg.DRV_STATE_BS_WARN leg) 1).raise Ev.DRV_BS_WARN else s)

/-- DRV_BS_UV (R219, R222). -/
def execDrvBsUv (leg : Nat) (s : State) : Out :=
  .next (if leg < 6 && s.on (Reg.DRV_CFG_BOOT leg) && s.legState leg != State.legUnused then
    if s.legState leg = State.legSoftOff then s.setLeg leg { s.leg leg with bsPend := true } else s.bsHold leg
  else s)

/-- DRV_BS_OK (R219): VBS rose above UV + 0.5 V (`hold`), or above the warning level + 0.3 V (`warn`). A released GH follows
from its next rising command edge. -/
def execDrvBsOk (leg : Nat) (hold warn : Bool) (s : State) : Out :=
  .next (if leg < 6 then
    let h := hold && s.on (Reg.DRV_STATE_BS_HOLD leg)
    let w := warn && s.on (Reg.DRV_STATE_BS_WARN leg)
    let s := s.when (hold || warn) (fun s => s.setLeg leg { s.leg leg with bsPend := false })
    let s := s.when h (fun s => (s.wr (Reg.DRV_STATE_BS_HOLD leg) 0).setLeg leg { s.leg leg with waitH := true })
    let s := s.when w (fun s => s.wr (Reg.DRV_STATE_BS_WARN leg) 0)
    if h || w then s.raise Ev.DRV_BS_OK else s
  else s)

/-- DRV_TRANSITION_MEASURE (R206 to R208): the last command edge before it, whether the other command was on, and the time
in ns. -/
def execDrvTransitionMeasure (leg : Nat) (rising : Bool) (edge : GateEdge) (other : Bool) (t : Nat) (s : State) : Out :=
  .next (if leg < 6 then s.transition leg rising edge other t else s)

/-- DRV_STATUS_FRAME (R204): none where its CRC failed. -/
def execDrvStatusFrame (leg : Nat) (f : Option DrvFrame) (s : State) : Out :=
  .next (if leg < 6 && s.legState leg != State.legUnused then
    match f with
    | none => s.frameBad
    | some f => s.frameIn leg f
  else s)

/-- DRV_SHORT_CMD (R203). -/
def execDrvShortCmd (leg : Nat) (s : State) : Out :=
  .next (if leg < 6 then s.wr Reg.DRV_FLAGS_SHORT_CMD 1 else s)

/-- DRV_OT_WARN (R210): a junction in °C + 64. -/
def execDrvOtWarn (leg : Nat) (high : Bool) (tj : Nat) (s : State) : Out :=
  .next (if leg < 6 && s.legState leg != State.legUnused then s.otWarn leg high tj else s)

/-- DRV_CLR_CRC (R224). -/
def execDrvClrCrc (m : Master) (s : State) : Out :=
  .next (s.access m 0x40020010 .cr (fun s => s.wr Reg.DRV_CRC_COUNT_COUNT 0))

/-- DRV_CLR_XLOCK (R224). -/
def execDrvClrXlock (m : Master) (s : State) : Out :=
  .next (s.access m 0x40020010 .cr (fun s => s.forEach (List.range 6) (fun s n => s.wr (Reg.DRV_XLOCK_COUNT n) 0)))

end Sys2Proof.Machine
end

