-- ==== Sys2Proof/Machine/SafetyOps.lean ====
section
/-! DEFINITION. Machine/SafetyOps.lean: the shared operations of the safety channel (chapter 14): the record in force, demands,
pulse inhibit, opening of the relays, the latch. -/

namespace Sys2Proof.Machine
namespace State

/-! ### State and record (R377, R388) -/

/-- The state numbers of the safety channel (R397). -/
abbrev safeNospr : Nat := 0
abbrev safePending : Nat := 1
abbrev safeOpen : Nat := 2
abbrev safeClosing : Nat := 3
abbrev safeClosed : Nat := 4
abbrev safeLatched : Nat := 5

/-- The state of the channel. -/
def safeState (s : State) : Nat := s.rd Reg.SAFE_STATE_STATE

/-- Replace what the channel holds. -/
def setSafety (s : State) (f : SafetySt → SafetySt) : State := { s with safety := f s.safety }

/-- Word `i` of the safety parameter record; 0 where none is held. -/
def sprWord (s : State) (i : Nat) : Nat := nth s.safety.spr i 0

/-- A field of the record. -/
def sprField (s : State) (i lo w : Nat) : Nat := fieldOf (s.sprWord i) lo w

/-- The outputs marked used, and those of a stage among them. -/
def relaysUsed (s : State) : Nat := s.sprField 2 0 4
def stageOutputs (s : State) (stage : Nat) : Nat :=
  (bitsOf 4 s.relaysUsed).foldl (fun m n => if s.sprField 2 (4 + n) 1 = stage then setBit m n else m) 0

/-- Type, filter and discrepancy time in samples of 100 µs, and source of an input of function `f` (R383). -/
def fnType (s : State) (f : Nat) : Nat := s.sprField (6 + f) 0 2
def fnFilt (s : State) (f : Nat) : Nat := 5 * s.sprField (6 + f) 2 7
def fnDisc (s : State) (f : Nat) : Nat := 20 * s.sprField (6 + f) 9 8
def sinSource (s : State) (i : Nat) : Nat := s.sprField (6 + i / 2) (17 + 2 * (i % 2)) 2

/-- Connection `c` is enabled, and its record word (R388). -/
def pduWord (s : State) (c : Nat) : Nat := s.sprWord (12 + 2 * c)
def pduEnabled (s : State) (c : Nat) : Bool := hasBit (s.pduWord c) 0
def pduAction (s : State) (c : Nat) : Nat := fieldOf (s.pduWord c) 24 2

/-! ### Demands (R376) -/

/-- Connection `c` demands SF4 or SF1: by requests that it holds, or by its action once it has failed (R393). -/
def pduSf4 (s : State) (c : Nat) : Bool :=
  hasBit (s.rd (Reg.PDU_STAT_REQ c)) 0 || (s.rd (Reg.PDU_STAT_STATE c) == 3 && s.pduAction c == 1)
def pduSf1 (s : State) (c : Nat) : Bool :=
  hasBit (s.rd (Reg.PDU_STAT_REQ c)) 1 || (s.rd (Reg.PDU_STAT_STATE c) == 3 && s.pduAction c == 2)

/-- A demand that the record enables (word 5) or that needs no enable. -/
def sf1Enabled (s : State) (n : Nat) : Bool := 4 ≤ n || hasBit (s.sprField 5 0 4) n

/-- SF1 is in demand. -/
def sf1Active (s : State) : Bool :=
  (List.range 6).any (fun n => hasBit s.safety.sf1 n && s.sf1Enabled n) || (s.sf1Enabled 3 && (List.range 4).any s.pduSf1)

/-- SF2 is in demand. -/
def sf2Active (s : State) : Bool := s.rd Reg.SIN_STATE_FDEMAND != 0

/-- A demand that causes SF4 is present. -/
def sf4Active (s : State) : Bool :=
  s.sf1Active || s.sf2Active || s.safety.sf4 != 0 || (List.range 4).any s.pduSf4

/-- A demand is present that would refuse `SAFETY_RESET` (R395): any but the latch itself and what a failed connection holds,
which only that command ends (R386, R393). -/
def resetDemand (s : State) : Bool :=
  let live (c : Nat) := s.rd (Reg.PDU_STAT_STATE c) != 3 && s.rd (Reg.PDU_STAT_REQ c) != 0
  (List.range 6).any (fun n => hasBit s.safety.sf1 n && s.sf1Enabled n) || s.sf2Active || clearBit s.safety.sf4 5 != 0
    || (List.range 4).any live

/-- A fault is present (R377): an input function in fault, the partner lost, or the channels different. -/
def safeFaultPresent (s : State) : Bool :=
  s.rd Reg.SIN_STATE_FFAULT != 0 || s.safety.partnerLost || s.safety.differs

/-- `SAFE_STATE.SF` and `RLY_CMD` follow the channel (R397). -/
def safeView (s : State) : State :=
  let k := s.safety
  let sf := b2n s.sf1Active + 2 * b2n s.sf2Active + 4 * b2n k.sf3
    + 8 * b2n (k.pwmSafeSc || k.pwmSafeHsl || k.cutSc || k.cutHsl)
  (s.wr Reg.SAFE_STATE_SF sf).wr Reg.SAFE_STATE_RLY_CMD (k.rlyH &&& k.rlyL)

/-- The operating state becomes `FAULT_HOLD` for an SF2 demand (R377, R411). -/
def sf2FaultHold (s : State) : State :=
  let only := s.oper != .faultHold || s.safety.sf2Hold
  (s.faultHold).setSafety fun k => { k with sf2Hold := only }

/-! ### Pulse inhibit (R386) -/

/-- One channel drives the PWM safe line and the drive-enable cut line (R65, R386). -/
def sf4Drive (s : State) (hsl : Bool) : State :=
  let was := s.safety.pwmSafeSc || s.safety.pwmSafeHsl
  let s := s.setSafety fun k => if hsl then { k with pwmSafeHsl := true, cutHsl := true } else { k with pwmSafeSc := true, cutSc := true }
  let s := (s.pwmSafe .hard).enableLine
  (if was then s else s.raise Ev.SAFE_SF4).safeView

/-- Both channels apply SF4. -/
def sf4Apply (s : State) : State := (s.sf4Drive true).sf4Drive false

/-- SF4 releases: both lines, where no demand is left and the channel is not latched (R386). -/
def sf4Release (s : State) : State :=
  let k := s.safety
  if s.sf4Active || s.safeState = safeLatched || !(k.pwmSafeSc || k.pwmSafeHsl || k.cutSc || k.cutHsl) then s
  else
    let s := s.setSafety fun k => { k with pwmSafeSc := false, pwmSafeHsl := false, cutSc := false, cutHsl := false }
    (((s.pwmCauseEnds .hard).enableLine).raise Ev.SAFE_SF4).safeView

/-! ### Relays -/

/-- Switches open at once; an off-pulse, a test and a contact sequence end (R382, R395). With a FEEDBACK function the contacts
must return. -/
def relaysOff (s : State) (h l : Bool) : State :=
  let had := (s.safety.rlyH ||| s.safety.rlyL) != 0
  let fb := had && !s.on Reg.SAFE_STATE_NO_FB
  let s := s.setSafety fun k =>
    { k with rlyH := if h then 0 else k.rlyH, rlyL := if l then 0 else k.rlyL, pulse := none, pre := none,
             contact := if fb then .release else .none }
  s.safeView

/-- The channel takes a state. -/
def setSafeState (s : State) (st : Nat) : State := s.wr Reg.SAFE_STATE_STATE st

/-- The reconnect timer starts again at `RECONNECT_S` (R377). -/
def reconnectRestart (s : State) : State := s.wr Reg.RECONNECT_SEC (s.sprField 4 0 16)

/-- The channels open every relay; from CLOSING or CLOSED the channel enters OPEN and `SAFE_OPEN` is raised (R377). -/
def openRelays (s : State) : State :=
  let was := s.safeState = safeClosing || s.safeState = safeClosed
  let s := s.relaysOff true true
  if was then (s.setSafeState safeOpen).raise Ev.SAFE_OPEN else s

/-- Entry to `SYNCING`: the CONNECT section of the GPR in force is taken (R411, R416). -/
def syncEnter (s : State) : State := { s with oper := .syncing, tpp := { s.tpp with connect := s.tpp.connectNext } }

/-- `STANDBY` with connect-wanted and AUTO_RECONNECT = 1 goes to `SYNCING` (R411). -/
def autoReconnect (s : State) : State :=
  if s.oper = .standby && s.tpp.connectWanted && s.tpp.connectNext.autoReconnect then s.syncEnter else s

/-- SF1 demand begins, if it is one and did not stand before (R376, R377, R411): SF4, relays off, reconnect timer restarted,
`CONNECTED` back to `STANDBY` with connect-wanted kept. -/
def sf1Update (s : State) : State :=
  if s.sf1Active && !hasBit (s.rd Reg.SAFE_STATE_SF) 0 then
    let conn := s.oper = .connected
    let s := ((s.raise Ev.SAFE_SF1).reconnectRestart.sf4Apply).openRelays
    if conn then autoReconnect { s with oper := .standby, tpp := { s.tpp with disc := .none } } else s
  else s.safeView

/-- A diagnostic fault, an SF3 failure or a self-check failure (R375, R377, R381, R385): SF4; the healthy channels open their
switches; LATCHED, from any state but NOSPR, with its cause; the module enters `FAULT_HOLD`. -/
def safeLatch (s : State) (cause detail : Nat) (sc hsl : Bool) : State :=
  let was := s.safeState = safeClosing || s.safeState = safeClosed
  let s := s.setSafety fun k => { k with sf4 := setBit k.sf4 5 }
  let s := s.when hsl (fun s => s.sf4Drive true)
  let s := (s.when sc (fun s => s.sf4Drive false)).relaysOff sc hsl
  let s := s.when was (fun s => s.raise Ev.SAFE_OPEN)
  if s.safeState = safeNospr then s
  else
    let s := ((s.wr Reg.SAFE_CAUSE_CAUSE cause).wr Reg.SAFE_CAUSE_DETAIL detail).setSafeState safeLatched
    s.faultHold

/-! ### Operating state (R411) -/

/-- The state that a commissioned module returns to: `STANDBY` where the GPR is active and the SPR confirmed. -/
def restState (s : State) : OperState := if s.tpp.gprActive && s.safety.confirmed then .standby else .described

/-- `DESCRIBED` becomes `STANDBY` once the GPR is active, the SPR confirmed, a pair ACTIVE and the channel OPEN; a connection
that is wanted may then begin. -/
def operSettle (s : State) : State :=
  if s.oper = .described && s.tpp.gprActive && s.safety.confirmed && s.cpRun && s.safeState = safeOpen then
    autoReconnect { s with oper := .standby }
  else s

/-- `FAULT_HOLD` for SF2 alone ends once no function demands and none waits for `SAFETY_RESET` (R377, R385). -/
def sf2Leave (s : State) : State :=
  let k := s.safety
  if s.oper = .faultHold && k.sf2Hold && !s.sf2Active && k.restartHold = 0 && s.safeState = safeOpen && s.cpRun then
    { s with oper := s.restState, safety := { k with sf2Hold := false } }
  else s

end State
end Sys2Proof.Machine
end

