-- ==== Sys2Proof/Machine/Sense.lean ====
section
/-! DEFINITION. Machine/Sense.lean: the sense link (R66) and the SAR converters (R225 to R249). Converters are 0 to 7; a command
that names another does nothing. -/

namespace Sys2Proof.Machine

namespace State

/-! ### Converters -/

abbrev sarOff : Nat := 0
abbrev sarInit : Nat := 1
abbrev sarRun : Nat := 2
abbrev sarCheck : Nat := 3
abbrev sarFault : Nat := 4

def sar (s : State) (c : Nat) : SarSt := nth s.sense.sars c {}
def sarState (s : State) (c : Nat) : Nat := s.rd (Reg.SAR_STATUS_STATE c)

/-- The lowest channel of a mask above one, wrapping (R228, R239); `none` starts at the lowest. -/
def scanPick (mask : Nat) (last : Option Nat) : Option Nat :=
  let above := match last with
    | none => none
    | some l => (bitsOf 12 mask).find? (fun c => decide (l < c))
  match above with
  | some c => some c
  | none => lowestBit 12 mask

/-- A converter's state is replaced, and the read-only fields that show it follow (R249). -/
def setSar (s : State) (c : Nat) (k : SarSt) : State :=
  let s := { s with sense := { s.sense with sars := setNth s.sense.sars c k } }
  let s := s.putB Reg.SNS_STATUS_INJ_BUSY c (k.run.isSome || k.queue.isSome)
  let s := (s.wr (Reg.SAR_STATUS_QUEUED c) (b2n k.queue.isSome)).wr (Reg.SAR_STATUS_LEVEL c) k.fifo.length
  let s := s.wr (Reg.SAR_STATUS_CFG_PEND c) (b2n (k.wrote || k.snap.isSome || k.ready.isSome))
  s.wr (Reg.SAR_STATUS_NEXT c) ((scanPick k.cfg.mask k.lastScan).getD 0)

def setSarState (s : State) (c st : Nat) : State :=
  (s.wr (Reg.SAR_STATUS_STATE c) st).putB Reg.SNS_STATUS_RUN c (st == sarRun || st == sarCheck)

/-- The low byte of the frame tag (R90, R235). -/
def tagByte (s : State) : Nat := s.rd Reg.ORB_FRAME_COUNT % 256

/-! ### Configuration (R239) -/

/-- The channels of a sequence register. -/
def seqChans (slots len : Nat) : List Nat := (List.range (len + 1)).map fun i => fieldOf slots (4 * i) 4

/-- The shadows of a converter. -/
def sarShadows (s : State) (c : Nat) : SarCfg :=
  let bits (f : Nat → Fld) : Nat := (List.range 12).foldl (fun a ch => if s.on (f ch) then setBit a ch else a) 0
  { mask := s.rd (Reg.SAR_SCAN_MASK c), refsel := s.rd (Reg.SAR_CFG_REFSEL c),
    seq0 := seqChans (s.rd (Reg.SAR_SEQ0_SLOT c)) (s.rd (Reg.SAR_SEQ0_LEN c)),
    seq1 := seqChans (s.rd (Reg.SAR_SEQ1_SLOT c)) (s.rd (Reg.SAR_SEQ1_LEN c)),
    cmpSrc := s.rd (Reg.SAR_SEQ1_CMPSRC c), cmpEn := s.on (Reg.SAR_SEQ1_CMP_EN c),
    gain := (List.range 12).map fun ch => if ch < 8 then s.rd (Reg.SAR_CHCFG_GAIN c ch) else 0,
    avg := (List.range 12).map fun ch => s.rd (Reg.SAR_CHCFG_AVG c ch),
    buf := bits (Reg.SAR_CHCFG_BUFON c), ovrEvt := bits (Reg.SAR_CHCFG_OVR_EVT c) }

/-- A configuration comes into force (R238, R239). -/
def sarApply (k : SarSt) (n : SarCfg) : SarSt :=
  let o := k.cfg
  let refNew := n.refsel != o.refsel
  let gainNew (ch : Nat) : Bool := nth n.gain ch 0 != nth o.gain ch 0
  let clear (ch : Nat) : Bool :=
    refNew || gainNew ch || nth n.avg ch 0 != nth o.avg ch 0 || (hasBit o.mask ch && !hasBit n.mask ch)
  { k with
    cfg := n, ready := none,
    wins := (List.range 12).map fun ch => if clear ch then {} else nth k.wins ch {},
    settle := (List.range 12).map fun ch => if gainNew ch then 2 else nth k.settle ch 0,
    refSettle := (List.range 12).map fun ch => if refNew then 16 else nth k.refSettle ch 0 }

/-- In OFF the shadows apply at once, and nothing is marked for it. -/
def sarApplyOff (s : State) (c : Nat) : State :=
  s.setSar c { s.sar c with cfg := s.sarShadows c, wrote := false, late := false, snap := none, ready := none }

/-- A shadow write is refused (R239). -/
def sarBad (r : SarReg) (v : Nat) : Bool :=
  let badSeq := (seqChans (fieldOf v 0 16) (fieldOf v 16 2)).any fun x => decide (11 < x)
  match r with
  | .seq0 => badSeq
  | .seq1 => badSeq
  | .chcfg _ => decide (8 < fieldOf v 8 4)
  | _ => false

/-- The fields that a shadow write sets. -/
def sarFields (s : State) (c : Nat) (r : SarReg) (v : Nat) : State :=
  match r with
  | .scan => s.wr (Reg.SAR_SCAN_MASK c) v
  | .cfg => ((s.wr (Reg.SAR_CFG_REFSEL c) v).wr (Reg.SAR_CFG_INJ_EVT c) (bitOf v 1)).wr (Reg.SAR_CFG_FIFO_TH c) (fieldOf v 16 6)
  | .seq0 => (s.wr (Reg.SAR_SEQ0_SLOT c) v).wr (Reg.SAR_SEQ0_LEN c) (fieldOf v 16 2)
  | .seq1 =>
    let s := (s.wr (Reg.SAR_SEQ1_SLOT c) v).wr (Reg.SAR_SEQ1_LEN c) (fieldOf v 16 2)
    (s.wr (Reg.SAR_SEQ1_CMPSRC c) (fieldOf v 24 4)).wr (Reg.SAR_SEQ1_CMP_EN c) (bitOf v 31)
  | .chcfg ch =>
    let s := (s.wr (Reg.SAR_CHCFG_GAIN c ch) v).wr (Reg.SAR_CHCFG_AVG c ch) (fieldOf v 8 4)
    (s.wr (Reg.SAR_CHCFG_BUFON c ch) (bitOf v 12)).wr (Reg.SAR_CHCFG_OVR_EVT c ch) (bitOf v 13)

/-- A configuration write lands at a tick (R239): refused, at once in OFF, or held for its boundary, late within 64 tB of
it. -/
def sarConfigWrite (s : State) (c : Nat) (r : SarReg) (v tick : Nat) : State :=
  if sarBad r v then s.wr (Reg.SAR_STATUS_CFG_ERR c) 1
  else
    let s := s.sarFields c r v
    if s.sarState c = sarOff then s.sarApplyOff c
    else
      let late := decide (s.frameLen < tick + 64)
      let first := late && !(s.sar c).late
      let s := s.when late (fun s => s.wr (Reg.SAR_STATUS_LATE_CFG c) 1)
      let s := s.when first lateCommit
      s.setSar c { s.sar c with wrote := true, late := (s.sar c).late || late }

/-- The boundary of a converter's commits (R239). DEDUCED (notes/assumptions 32). -/
def sarBoundary (s : State) (c : Nat) : State :=
  let k := s.sar c
  let now := k.wrote && !k.late
  let sh := s.sarShadows c
  s.setSar c { k with wrote := false, late := false,
                      ready := if now then some sh else if k.snap.isSome then k.snap else k.ready,
                      snap := if k.wrote && k.late then some sh else none }

/-! ### Conversions (R225 to R230, R238) -/

/-- Round half up of `n / d` (R225). -/
def roundHalfUp (n : Int) (d : Nat) : Int := (2 * n + d) / (2 * d : Nat)

/-- The code of a conversion (R225 to R227) and whether it was clamped. `v` is the input less VREFA/2 in nV, and for channel 9
the die temperature in units of 10^-9 °C. -/
def convert (ch gain : Nat) (v : Int) : Int × Bool :=
  let raw := if ch = 9 then roundHalfUp (v * 128) 1000000000 else roundHalfUp (v * (2 ^ gain : Nat) * 65536) 3000000000
  if raw < -32768 then (-32768, true) else if 32767 < raw then (32767, true) else (raw, false)

/-- A conversion starts on a channel (R228). -/
def convBegin (s : State) (c : Nat) (v : SarConv) : State := s.setSar c { s.sar c with cur := some v }

/-- The scan converts its next channel (R228, R232); an empty mask idles the converter. -/
def scanNext (s : State) (c : Nat) : State :=
  let k := s.sar c
  match scanPick k.cfg.mask k.lastScan with
  | none => s.setSar c { k with cur := none }
  | some ch => s.setSar c { k with cur := some ⟨ch, nth k.cfg.gain ch 0, s.tagByte, none, false⟩, lastScan := some ch, prevScan := k.lastScan }

/-- The next slot of the running sequence is converted. -/
def seqNext (s : State) (c : Nat) (q : SarSeq) : State :=
  let k := s.sar c
  let (ch, g) := nth q.chans q.pos (0, 0)
  let low := decide (ch < 8) && !hasBit k.cfg.mask ch && !hasBit k.cfg.buf ch
  let last := decide (q.chans.length ≤ q.pos + 1)
  s.setSar c { k with run := some { q with pos := q.pos + 1 }, cur := some ⟨ch, g, q.tag, some (q.pos, last, q.op), low⟩ }

/-- A check begins (R240). -/
def checkBegin (s : State) (c : Nat) : State :=
  let s := s.setSar c { s.sar c with cur := none, checkPend := false }
  (s.wr (Reg.SAR_CHECK_DONE c) 0).setSarState c sarCheck

/-- What starts on the edge on which a conversion ends (R232): the running sequence's next slot, the queued sequence, a check
that waits, or the scan. -/
def convNext (s : State) (c : Nat) : State :=
  let k := s.sar c
  let more := k.run.any fun q => decide (q.pos < q.chans.length)
  let k := if more then k else { k with run := k.queue, queue := none, resume := k.resume || k.run.isSome }
  let s := s.setSar c k
  match k.run with
  | some q => s.seqNext c q
  | none => if k.checkPend then s.checkBegin c else s.scanNext c

/-- A result goes to the sense link (R244). -/
def sendResult (s : State) (c : Nat) (p : SarPkt) : State :=
  let k := s.sar c
  s.setSar c { k with flight := k.flight ++ [{ p with seqNo := k.seqNo }], seqNo := (k.seqNo + 1) % 16 }

/-- A scan conversion enters its window and delivers when the window is full (R229, R233, R238). -/
def scanResult (s : State) (c : Nat) (v : SarConv) (code : Int) (ovr mark : Bool) : State :=
  let k := s.sar c
  let w := nth k.wins v.chan {}
  let n := 2 ^ nth k.cfg.avg v.chan 0
  let w : SarWin := ⟨w.sum + code, w.n + 1, w.ovr || ovr, w.settle || mark⟩
  if w.n < n then s.setSar c { k with wins := setNth k.wins v.chan w }
  else
    let rf := nth k.refSettle v.chan 0
    let s := s.setSar c { k with wins := setNth k.wins v.chan {}, refSettle := setNth k.refSettle v.chan (rf - 1), resume := false }
    s.sendResult c { code := ofSigned 16 ((w.sum + (n / 2 : Nat)) / (n : Nat)), chan := v.chan, ovr := w.ovr,
                     settle := w.settle || rf != 0, inj := false, tag := v.tag, seqNo := 0, pos := 0, last := false,
                     resume := k.resume, op := none }

/-- An injected conversion delivers at once (R230, R233, R238). -/
def injResult (s : State) (c : Nat) (v : SarConv) (code : Int) (ovr mark : Bool) (pos : Nat) (last : Bool)
    (op : Option Nat) : State :=
  let k := s.sar c
  let rf := nth k.refSettle v.chan 0
  let s := s.setSar c { k with refSettle := setNth k.refSettle v.chan (rf - 1) }
  let s := s.sendResult c { code := ofSigned 16 code, chan := v.chan, ovr := ovr, settle := mark || v.low || rf != 0, inj := true,
                            tag := v.tag, seqNo := 0, pos := pos, last := last, resume := false, op := op }
  s.when (last && s.on (Reg.SAR_CFG_INJ_EVT c)) (fun s => s.raise Ev.SNS_INJ_END)

/-- A conversion ends (R228). -/
def convEnd (s : State) (c : Nat) (v : Int) : State :=
  let k := s.sar c
  match k.cur with
  | none => s
  | some x =>
    let (code, ovr) := convert x.chan x.gain v
    let st := nth k.settle x.chan 0
    let s := s.setSar c { k with settle := setNth k.settle x.chan (st - 1) }
    let s := match x.inj with
      | none => s.scanResult c x code ovr (st != 0)
      | some (pos, last, op) => s.injResult c x code ovr (st != 0) pos last op
    s.convNext c

/-- A commit applies at a conversion start (R239): a scan conversion that starts now is chosen anew, a sequence keeps its own
channels and gains. -/
def sarCommit (s : State) (c : Nat) (n : SarCfg) : State :=
  let k := s.sar c
  let fresh := k.cur.all fun v => v.inj.isNone
  let prev := match k.cur with
    | some v => if v.inj.isNone then k.prevScan else k.lastScan
    | none => k.lastScan
  let s := s.setSar c { sarApply k n with lastScan := if fresh then prev else k.lastScan }
  if s.sarState c = sarRun && fresh && k.run.isNone then s.scanNext c else s

/-! ### Injected sequences (R231 to R233) -/

/-- A sequence with its gains, as a trigger takes it. -/
def seqOf (k : SarSt) (chans : List Nat) (tag : Nat) (op : Option Nat) : SarSeq :=
  ⟨chans.map fun ch => (ch, nth k.cfg.gain ch 0), 0, tag, op⟩

/-- A trigger is dropped (R232). -/
def injDrop (s : State) (c : Nat) : State :=
  ((s.incSat (Reg.SAR_COUNTS_DROPS c)).setB Reg.SNS_FLAGS_INJ_OVERRUN c).raise Ev.SNS_INJ_OVERRUN

/-- A trigger reaches a converter (R232, R240). -/
def injTrigger (s : State) (c : Nat) (q : SarSeq) : State :=
  let k := s.sar c
  if s.sarState c != sarRun && s.sarState c != sarCheck then s
  else if s.sarState c = sarRun && k.run.isNone then
    let s := s.setSar c { k with run := some q }
    if k.cur.isNone then s.seqNext c q else s
  else if k.queue.isNone then s.setSar c { k with queue := some q }
  else s.injDrop c

/-- The trigger of an issued Orbit operation (R95, R231). -/
def opTrigger (s : State) (c slot : Nat) : State :=
  match s.opOf? slot 1 with
  | none => s
  | some o =>
    if !hasBit o.arga c then s
    else
      let left := if s.sense.opLeft.any (fun e => e.1 == slot) then s.sense.opLeft else (slot, o.arga % 256) :: s.sense.opLeft
      let s := { s with sense := { s.sense with opLeft := left } }
      let k := s.sar c
      s.injTrigger c (seqOf k k.cfg.seq0 (o.tag % 256) (some slot))

/-- The rising edge of a window's trip output (R231). -/
def windowTrigger (s : State) (c w : Nat) : State :=
  let k := s.sar c
  if k.cfg.cmpEn && k.cfg.cmpSrc == w then s.injTrigger c (seqOf k k.cfg.seq1 s.tagByte none) else s

/-- The last result of an operation's sequence has arrived from a converter; the operation retires with the last of them
(R92). -/
def opResult (s : State) (c : Nat) (slot tag : Nat) : State :=
  match s.opOf? slot 1 with
  | none => s
  | some o =>
    if o.tag % 256 != tag then s
    else
      let left := s.sense.opLeft.map fun e => if e.1 = slot then (e.1, clearBit e.2 c) else e
      let s := { s with sense := { s.sense with opLeft := left } }
      if left.any (fun e => e.1 == slot && e.2 == 0) then s.retire slot else s

/-- An Orbit cancel reaches SD (R233): unconverted slots are abandoned and a queued sequence is removed; only of a frame that
has ended. -/
def cancelArrive (s : State) (c slot : Nat) : State :=
  let k := s.sar c
  let mine (q : SarSeq) : Bool := q.op == some slot && q.tag != s.tagByte
  let queue := if k.queue.any mine then none else k.queue
  match k.run with
  | some q =>
    if mine q then
      let injecting := k.cur.any fun v => v.inj.isSome
      if injecting then s.setSar c { k with queue := queue, run := some { q with chans := q.chans.take q.pos } }
      else s.setSar c { k with run := queue, queue := none }
    else s.setSar c { k with queue := queue }
  | none => s.setSar c { k with queue := queue }

/-! ### Results on CD (R233 to R237, R245) -/

/-- A word enters the FIFO (R236). -/
def fifoPush (s : State) (c w : Nat) : State :=
  let k := s.sar c
  if 64 ≤ k.fifo.length then (s.incSat (Reg.SAR_FIFO_OVF_COUNT_COUNT c)).setB Reg.SNS_FLAGS_FIFO_OVF c
  else
    let s := s.setSar c { k with fifo := k.fifo ++ [w] }
    let th := s.rd (Reg.SAR_CFG_FIFO_TH c)
    s.when (th != 0 && k.fifo.length + 1 == th) (fun s => s.raise (Ev.SNS_FIFO c))

/-- The result word of R235. -/
def resultWord (code chan : Nat) (ovr settle inj late : Bool) (tag : Nat) : Nat :=
  code % 65536 + chan * 65536 + b2n ovr * 2 ^ 20 + b2n settle * 2 ^ 21 + b2n inj * 2 ^ 22 + b2n late * 2 ^ 23
    + tag % 256 * 2 ^ 24

/-- A result reaches CD (R230, R233, R236, R237). -/
def resultIn (s : State) (c : Nat) (p : SarPkt) : State :=
  let late := p.inj && p.tag != s.tagByte
  let w := resultWord p.code p.chan p.ovr p.settle p.inj late p.tag
  let s := s.setSar c { s.sar c with lastTag := p.tag, had := setBit (s.sar c).had p.chan }
  let s := s.when (p.inj || hasBit (s.rd (Reg.SAR_FIFO_MASK_MASK c)) p.chan) (fun s => s.fifoPush c w)
  let s := s.wr (Reg.SAR_LATEST_WORD c p.chan) w
  let s := s.when p.ovr (fun s => (s.setB (Reg.SAR_OVR_CHAN c) p.chan).when (hasBit (s.sar c).cfg.ovrEvt p.chan)
    (fun s => s.raise Ev.SNS_OVR))
  match p.last, p.op with
  | true, some slot => s.opResult c slot p.tag
  | _, _ => s

/-- The front of the link's packets of a converter. -/
def flightPop (s : State) (c : Nat) : Option SarPkt × State :=
  let k := s.sar c
  match k.flight with
  | [] => (none, s)
  | p :: r => (some p, s.setSar c { k with flight := r })

/-- One missing packet (R245). -/
def placeholder (s : State) (c : Nat) : State :=
  let (p?, s) := s.flightPop c
  let inj := p?.any fun p => p.inj
  let s := s.fifoPush c (resultWord 0 15 false true inj false (s.sar c).lastTag)
  let s := ((s.incSat (Reg.SAR_COUNTS_LOST c)).setB Reg.SNS_FLAGS_LOST c).raise Ev.SNS_LOST
  match p? with
  | some p =>
    match p.last, p.op with
    | true, some slot => s.opResult c slot p.tag
    | _, _ => s
  | none => s

/-! ### Converter states (R240, R241) -/

/-- A converter enters FAULT (R240). -/
def sarFaults (s : State) (c : Nat) : State :=
  let s := s.setSar c { s.sar c with cur := none, run := none, queue := none, checkPend := false, flight := [] }
  ((s.setSarState c sarFault).setB Reg.SNS_FLAGS_FAULT c).raise Ev.SNS_FAULT

/-- An enabled converter in OFF enters INIT where the sense link is up (R240). -/
def sarPower (s : State) (c : Nat) : State :=
  if s.sarState c = sarOff && hasBit (s.rd Reg.SNS_CTRL_EN) c && !s.on Reg.SNS_LINK_DOWN then s.setSarState c sarInit else s

/-- The EN bit is cleared (R240). -/
def sarDisable (s : State) (c : Nat) : State :=
  let s := s.clrB Reg.SNS_CTRL_EN c
  let s := s.setSar c { s.sar c with cur := none, run := none, queue := none, checkPend := false, flight := [],
                                     wins := List.replicate 12 {}, settle := List.replicate 12 0,
                                     refSettle := List.replicate 12 0, resume := false }
  (s.setSarState c sarOff).sarApplyOff c

/-- INIT ends (R240). -/
def sarInitDone (s : State) (c : Nat) (refOk : Bool) : State :=
  if s.sarState c != sarInit then s
  else if !refOk then s.sarFaults c
  else
    let k := s.sar c
    let k := { k with cfg := k.ready.getD k.cfg, ready := none, lastScan := none, cur := none }
    (s.setSar c k |>.setSarState c sarRun).scanNext c

/-- `SNS_CMD.CHECK` of one converter (R240). -/
def sarCheckCmd (s : State) (c : Nat) : State :=
  if s.sarState c != sarRun then s
  else if (s.sar c).cur.isNone then s.checkBegin c
  else s.setSar c { s.sar c with checkPend := true }

/-- A check ends with the codes of channels 8, 9 and 11 (R227, R240). -/
def sarCheckDone (s : State) (c : Nat) (c8 c9 c11 : Int) : State :=
  if s.sarState c != sarCheck then s
  else
    let pass := decide (-16 ≤ c8 ∧ c8 ≤ 16 ∧ -5120 ≤ c9 ∧ c9 ≤ 20480 ∧ c11 ≤ -32752)
    let s := (s.wr (Reg.SAR_CHECK_DONE c) 1).wr (Reg.SAR_CHECK_PASS c) (b2n pass)
    let s := s.wr (Reg.SAR_CHECK_TEMP c) (ofSigned 16 c9)
    if pass then
      let s := (s.setSarState c sarRun).setSar c { s.sar c with resume := true }
      s.convNext c
    else s.sarFaults c

/-- A converter soft reset (R241). -/
def sarSoftReset (s : State) (c : Nat) : State :=
  let k := s.sar c
  let s := s.setSar c { k with fifo := [], flight := [], wins := List.replicate 12 {}, queue := none, run := none, cur := none,
                               checkPend := false, lastScan := none, resume := false, had := 0 }
  let s := s.forEach (List.range 12) (fun s ch => s.wr (Reg.SAR_LATEST_WORD c ch) 0)
  let s := if s.sarState c = sarCheck then (s.wr (Reg.SAR_CHECK_DONE c) 0).setSarState c sarRun else s
  if s.sarState c = sarRun then s.scanNext c else s

/-! ### Sense link (R66) -/

/-- The link goes down: PWM safe, drive enables cut, converters in FAULT (R66, R240). -/
def slinkDown (s : State) : State :=
  if s.on Reg.SNS_LINK_DOWN then s
  else
    let s := ((s.wr Reg.SNS_LINK_DOWN 1).raise Ev.SLINK_DOWN).pwmSafe .slinkDown
    let s := s.setSafety fun k => { k with sf4 := setBit k.sf4 2, hslArmed := false }
    let s := s.sf4Drive true
    let s := s.when s.safety.confirmed (fun s =>
      State.sf1Update (((s.setSafety fun k => { k with sf1 := setBit k.sf1 2 }).wr Reg.HSL_WIN_GRID 63).raise Ev.SAFE_HSL_WIN))
    s.forEach (List.range 8) (fun s c =>
      let st := s.sarState c
      if st = sarInit || st = sarRun || st = sarCheck then s.sarFaults c else s)

/-- A lane is removed. -/
def laneRemove (s : State) (lane : Nat) : State :=
  if hasBit (s.rd Reg.SNS_LINK_LANE_UP) lane then
    let s := s.clrB Reg.SNS_LINK_LANE_UP lane
    if popCount 4 (s.rd Reg.SNS_LINK_LANE_UP) < 2 then s.slinkDown else s
  else s

/-- A packet arrives on a lane in service. -/
def slinkPacket (s : State) (lane : Nat) (crcOk : Bool) : State :=
  let n := nth s.slink.fails lane 0
  let put (v : Nat) : State := { s with slink := { s.slink with fails := setNth s.slink.fails lane v } }
  if crcOk then put 0
  else
    let s := ((put (n + 1)).incSat Reg.SNS_LINK_CRC_COUNT).raise Ev.SLINK_CRC
    if 3 ≤ n + 1 then s.laneRemove lane else s

/-- The lanes have trained after a reset. -/
def slinkTrained (s : State) (lanes : Nat) : State :=
  let s := State.wr { s with slink := { fails := [0, 0, 0, 0], trained := true } } Reg.SNS_LINK_LANE_UP lanes
  if popCount 4 lanes < 2 then s
  else
    let s := (s.wr Reg.SNS_LINK_DOWN 0).pwmCauseEnds .slinkDown
    let s := { s with safety := { s.safety with sf4 := clearBit s.safety.sf4 2 } }
    s.forEach (List.range 8) sarPower

/-- The converter part of a boundary. -/
def senseBoundary (s : State) : State :=
  let s := { s with sense := { s.sense with opLeft := [] } }
  s.forEach (List.range 8) sarBoundary

/-- A FIFO pop (R47, R124, R236). -/
def fifoPop (s : State) (m : Master) (c : Nat) : State :=
  let k := s.sar c
  let w := k.fifo.headD 0x000E0000
  match masterPair? m with
  | some p =>
    if s.on (fenceFld p) then { s with bus := .none }
    else if s.pairState p = pairStandby then { s with bus := .data w }
    else if s.pairState p = pairActive then State.setSar { s with bus := .data w } c { k with fifo := k.fifo.drop 1 }
    else { s with bus := .none }
  | none => { s with bus := .error }

/-- Address of a converter's register. -/
def sarAddr (c : Nat) : SarReg → Nat
  | .scan => 0x40030100 + 0x40 * c
  | .cfg => 0x40030104 + 0x40 * c
  | .seq0 => 0x40030108 + 0x40 * c
  | .seq1 => 0x4003010C + 0x40 * c
  | .chcfg ch => 0x40030400 + 0x40 * c + 4 * ch

/-- The register exists. -/
def sarRegOk : SarReg → Bool
  | .chcfg ch => decide (ch < 12)
  | _ => true

end State

/-- SLINK_PACKET_RECEIVE (R66): on a lane in service. -/
def execSlinkPacketReceive (lane : Nat) (crcOk : Bool) (s : State) : Out :=
  .next (if lane < 4 && hasBit (s.rd Reg.SNS_LINK_LANE_UP) lane then s.slinkPacket lane crcOk else s)

/-- SLINK_LANE_REMOVE (R66). -/
def execSlinkLaneRemove (lane : Nat) (s : State) : Out := .next (if lane < 4 then s.laneRemove lane else s)

/-- SLINK_TRAIN_DONE (R66): the lanes in service after the training of a reset. -/
def execSlinkTrainDone (lanes : Nat) (s : State) : Out :=
  .next (if s.slink.trained then s else s.slinkTrained (lanes % 16))

/-- SAR_CONVERSION_END (R228): `v` as in `State.convert`. -/
def execSarConversionEnd (c : Nat) (v : Int) (s : State) : Out :=
  .next (if c < 8 && s.sarState c == State.sarRun then s.convEnd c v else s)

/-- SAR_INJ_TRIGGER (R231, R232). -/
def execSarInjTrigger (c : Nat) (src : InjSource) (s : State) : Out :=
  .next (if c < 8 then
    match src with
    | .op slot => s.opTrigger c slot
    | .window w => s.windowTrigger c w
  else s)

/-- SWTRIG (R231). -/
def execSwtrig (m : Master) (mask : Nat) (s : State) : Out :=
  .next (s.access m 0x4003000C .cr (fun s => s.forEach (bitsOf 8 mask) (fun s c =>
    s.injTrigger c (State.seqOf (s.sar c) (s.sar c).cfg.seq0 s.tagByte none))))

/-- SAR_FIFO_POP (R236). -/
def execSarFifoPop (m : Master) (c : Nat) (s : State) : Out := .next (if c < 8 then s.fifoPop m c else s)

/-- SAR_CANCEL_ARRIVE (R233). -/
def execSarCancelArrive (c slot : Nat) (s : State) : Out := .next (if c < 8 then s.cancelArrive c slot else s)

/-- SAR_ENABLE (R240). -/
def execSarEnable (m : Master) (c : Nat) (s : State) : Out :=
  .next (if c < 8 then s.access m 0x40030000 .cr (fun s => (s.setB Reg.SNS_CTRL_EN c).sarPower c) else s)

/-- SAR_DISABLE (R240). -/
def execSarDisable (m : Master) (c : Nat) (s : State) : Out :=
  .next (if c < 8 then s.access m 0x40030000 .cr (fun s => s.sarDisable c) else s)

/-- SAR_INIT_DONE (R240). -/
def execSarInitDone (c : Nat) (refOk : Bool) (s : State) : Out := .next (if c < 8 then s.sarInitDone c refOk else s)

/-- SAR_CHECK_CMD (R240). -/
def execSarCheckCmd (m : Master) (mask : Nat) (s : State) : Out :=
  .next (s.access m 0x4003000C .cr (fun s => s.forEach (bitsOf 8 mask) State.sarCheckCmd))

/-- SAR_CHECK_DONE (R227, R240). -/
def execSarCheckDone (c : Nat) (c8 c9 c11 : Int) (s : State) : Out :=
  .next (if c < 8 then s.sarCheckDone c c8 c9 c11 else s)

/-- SAR_REF_FAULT (R240): in RUN or CHECK. -/
def execSarRefFault (c : Nat) (s : State) : Out :=
  .next (if c < 8 && (s.sarState c == State.sarRun || s.sarState c == State.sarCheck) then s.sarFaults c else s)

/-- SAR_SOFT_RESET (R241). -/
def execSarSoftReset (m : Master) (mask : Nat) (s : State) : Out :=
  .next (s.access m 0x4003000C .cr (fun s => s.forEach (bitsOf 8 mask) State.sarSoftReset))

/-- SAR_PACKET_GAP (R245): `n` packets of a converter are missing; more than 8 put it in FAULT. A converter that delivers
nothing has no gap. -/
def execSarPacketGap (c n : Nat) (s : State) : Out :=
  .next (if c < 8 && (s.sarState c == State.sarRun || s.sarState c == State.sarCheck) then
    let s := s.forEach (List.range (Nat.min n 9)) (fun s _ => s.placeholder c)
    if 8 < n then s.sarFaults c else s
  else s)

/-- SAR_CONFIG_WRITE (R239): lands at a tick of the frame. -/
def execSarConfigWrite (m : Master) (c : Nat) (r : SarReg) (value tick : Nat) (s : State) : Out :=
  .next (if c < 8 && State.sarRegOk r then
    (s.toTick tick).access m (State.sarAddr c r) .cr (fun s => s.sarConfigWrite c r value tick)
  else s)

/-- SAR_CONFIG_COMMIT (R239): at a conversion start after the boundary. -/
def execSarConfigCommit (c : Nat) (s : State) : Out :=
  .next (if c < 8 then
    match (s.sar c).ready with
    | some n => s.sarCommit c n
    | none => s
  else s)

/-- SNS_CLR_CRC (R249). -/
def execSnsClrCrc (m : Master) (s : State) : Out :=
  .next (s.access m 0x40030018 .cr (fun s => s.wr Reg.SNS_LINK_CRC_COUNT 0))

/-- SNS_CLR_SAR (R249). -/
def execSnsClrSar (m : Master) (s : State) : Out :=
  .next (s.access m 0x40030018 .cr (fun s => s.forEach (List.range 8) (fun s c =>
    ((s.wr (Reg.SAR_COUNTS_DROPS c) 0).wr (Reg.SAR_COUNTS_LOST c) 0).wr (Reg.SAR_FIFO_OVF_COUNT_COUNT c) 0)))

end Sys2Proof.Machine
end

