-- ==== Sys2Proof/Machine/Comparator.lean ====
section
/-! DEFINITION. Machine/Comparator.lean: comparator windows, readback check and legacy checks (R250 to R266), and the arrival of a
SAR result, which judges channel 10. Windows are 0 to 15 and banks 0 and 1; a command that names another does nothing. -/

namespace Sys2Proof.Machine

namespace State

abbrev cmpOff : Nat := 0
abbrev cmpStart : Nat := 1
abbrev cmpArmed : Nat := 2
abbrev cmpCheck : Nat := 3
abbrev cmpFault : Nat := 4

def win (s : State) (w : Nat) : CmpWin := nth s.cmp.wins w {}
def winState (s : State) (w : Nat) : Nat := s.rd (Reg.CMP_STAT_STATE w)
def bank (s : State) (b : Nat) : CmpBank := nth s.cmp.banks b {}
def cmpCfgErr (s : State) : State := s.wr Reg.CMP_FLAGS_CFG_ERR 1

/-- The windows of a bank. -/
def bankWins (b : Nat) : List Nat := (List.range 8).map (8 * b + ·)

def classA (s : State) (w : Nat) : Bool := s.rd (Reg.CMP_CFG_CLASS w) == 0

/-- A window's state is replaced, and `CMP_STATw` follows. -/
def setWin (s : State) (w : Nat) (k : CmpWin) : State :=
  let s := { s with cmp := { s.cmp with wins := setNth s.cmp.wins w k } }
  let hiEn := s.on (Reg.CMP_CFG_HI_EN w)
  let loEn := s.on (Reg.CMP_CFG_LO_EN w)
  let a := s.classA w
  let s := (s.wr (Reg.CMP_STAT_HI_RAW w) (b2n (hiEn && k.hi))).wr (Reg.CMP_STAT_LO_RAW w) (b2n (loEn && k.lo))
  let s := s.wr (Reg.CMP_STAT_HI_TRIP w) (b2n (hiEn && if a then k.hi else k.fHi))
  let s := s.wr (Reg.CMP_STAT_LO_TRIP w) (b2n (loEn && if a then k.lo else k.fLo))
  s.wr (Reg.CMP_STAT_START_HOLD w) (b2n ((hiEn && k.startHi) || (loEn && k.startLo)))

def setBank (s : State) (b : Nat) (k : CmpBank) : State :=
  let s := { s with cmp := { s.cmp with banks := setNth s.cmp.banks b k } }
  s.wr (Reg.CMP_BANK_CFG_PEND b) (b2n (k.wrote || k.snap.isSome || k.ready.isSome))

def setWinState (s : State) (w st : Nat) : State := s.wr (Reg.CMP_STAT_STATE w) st

/-! ### Comparators, filter, output (R251, R254, R257, R263, R264) -/

/-- A comparator with a rising active side at `th` and hysteresis `h`, at input `v` (R251).
DEDUCED at equality (notes/assumptions 34). -/
def hiComp (v th h : Int) (was : Bool) : Bool := if th < v then true else if v < th - h then false else was

/-- A comparator with a falling active side. -/
def loComp (v th h : Int) (was : Bool) : Bool := if v < th then true else if th + h < v then false else was

/-- Both comparators at the window's land (R251): thresholds VREFA × k / 1024 and hystereses in mV, in units of 0.5 nV. -/
def winEval (k : CmpWin) : CmpWin :=
  let v := 2 * k.vin
  let hi := hiComp v (5859375 * k.cfg.thHi : Nat) (2000000 * k.cfg.hysHi : Nat) k.hi
  let lo := loComp v (5859375 * k.cfg.thLo : Nat) (2000000 * k.cfg.hysLo : Nat) k.lo
  { k with hi := hi, lo := lo, startHi := k.startHi && hi == k.hi, startLo := k.startLo && lo == k.lo }

/-- k and n of a filter setting (R254). -/
def filterKN (kn : Nat) : Nat × Nat := nth [(3, 5), (5, 7), (7, 9), (9, 11)] kn (3, 5)

/-- The filtered bit: the value that at least k of the last n samples hold; where neither does, it stays. -/
def filterBit (kn : Nat) (samples : List Bool) (was : Bool) : Bool :=
  let (k, n) := filterKN kn
  let l := samples.take n
  if k ≤ l.countP id then true else if k ≤ l.countP (!·) then false else was

/-- A class B window takes one sample of each comparator. -/
def winSample (kn : Nat) (k : CmpWin) : CmpWin :=
  let fh := (k.hi :: k.filtHi).take 11
  let fl := (k.lo :: k.filtLo).take 11
  { k with filtHi := fh, filtLo := fl, fHi := filterBit kn fh k.fHi, fLo := filterBit kn fl k.fLo }

/-- The window output (R251): the OR of the enabled comparators after the filter of its class. -/
def winOut (s : State) (w : Nat) : Bool :=
  let k := s.win w
  let a := s.classA w
  (s.on (Reg.CMP_CFG_HI_EN w) && if a then k.hi else k.fHi) || (s.on (Reg.CMP_CFG_LO_EN w) && if a then k.lo else k.fLo)

/-- The output after window blanking is brought up to date (R254, R263, R264). -/
def winShow (s : State) (w : Nat) : State :=
  let k := s.win w
  let was := hasBit (s.rd Reg.CMP_OUT_OUT) w
  if (s.classA w && k.blank) || was == k.out then s
  else
    let s := s.putB Reg.CMP_OUT_OUT w k.out
    if k.out then
      ((s.setB Reg.CMP_FLAGS_TRIP w).incSat (Reg.CMP_STAT_COUNT w)).raise (Ev.CMP_TRIP w)
    else s.when (s.on (Reg.CMP_CFG_EVT_REL w)) (fun s => s.raise (Ev.CMP_TRIP w))

/-- The trip lines that name a window see its unblanked output (R188, R263); `blanked` holds the lines whose blanking runs. -/
def winLines (s : State) (w blanked : Nat) : State :=
  s.forEach (List.range 16) (fun s n =>
    if s.rd (Reg.TRIP_CFG_SRC n) = w + 1 then s.lineSource n (s.win w).out (hasBit blanked n) else s)

/-- The lines whose blanking runs now. -/
def linesBlanked (s : State) : Nat := (List.range 16).foldl (fun a n => if (s.line n).blanking then setBit a n else a) 0

/-- The output of a window takes a value. -/
def winSet (s : State) (w : Nat) (out : Bool) (blanked : Nat) : State :=
  ((s.setWin w { s.win w with out := out }).winLines w blanked).winShow w

/-- The output follows the comparators, unless a commit holds it (R252). -/
def winDrive (s : State) (w blanked : Nat) : State := if (s.win w).hold then s else s.winSet w (s.winOut w) blanked

/-- A window's blanking may run at all (R254). -/
def winCanBlank (s : State) (w : Nat) : Bool :=
  s.classA w && s.rd (Reg.CMP_HYS_BCHAN w) != 63 && s.rd (Reg.CMP_HYS_BLANK w) != 0

/-- The land of a window takes a voltage (R251, R253, R254). -/
def winInput (s : State) (w : Nat) (v : Int) (blanked : Bool) (lines : Nat) : State :=
  let st := s.winState w
  if st = cmpOff then s
  else
    let k := { s.win w with vin := v, blank := blanked && s.winCanBlank w }
    if st = cmpArmed && !s.on (Reg.CMP_CFG_MODE w) then
      let s := s.setWin w (winEval k)
      if s.classA w then s.winDrive w lines else s
    else s.setWin w k

/-- A bank tick reaches a window (R253, R254). -/
def winTick (s : State) (w lines : Nat) : State :=
  if s.winState w = cmpArmed && !s.classA w then
    let k := if s.on (Reg.CMP_CFG_MODE w) then winEval (s.win w) else s.win w
    (s.setWin w (winSample (s.rd (Reg.CMP_CFG_KN w)) k)).winDrive w lines
  else s

/-! ### Window states (R257, R258) -/

/-- START (R257): every comparator takes its start state, the filter is preloaded with it, and it is the output. -/
def winStart (s : State) (w : Nat) : State :=
  let t := s.on (Reg.CMP_CFG_FSAFE w)
  let pre := List.replicate 11 t
  let k := { s.win w with hi := t, lo := t, startHi := true, startLo := true, filtHi := pre, filtLo := pre, fHi := t, fLo := t,
                          hold := false, blank := false }
  let s := (s.setWinState w cmpStart).setWin w k
  s.winSet w (s.winOut w) s.linesBlanked

/-- The EN bit is written 1 (R258). -/
def winEnable (s : State) (w : Nat) : State :=
  let s := s.setB Reg.CMP_CTRL_EN w
  if s.winState w = cmpOff then s.winStart w else s

/-- The EN bit is written 0 (R258, R265). -/
def winDisable (s : State) (w : Nat) : State :=
  let s := s.clrB Reg.CMP_CTRL_EN w
  if s.winState w = cmpOff then s
  else
    let s := s.when (s.winState w == cmpCheck) (fun s => s.setB Reg.CMP_LCHK_RES_NJ w)
    let s := (s.setWinState w cmpOff).setWin w { cfg := (s.win w).cfg, vin := (s.win w).vin, out := (s.win w).out }
    s.winSet w false s.linesBlanked

/-- The first evaluation (R258). -/
def winArm (s : State) (w : Nat) (v : Int) : State :=
  if s.winState w = cmpStart then
    let k := winEval { s.win w with vin := v }
    let k := if s.on (Reg.CMP_CFG_MODE w) then winSample (s.rd (Reg.CMP_CFG_KN w)) k else k
    ((s.setWinState w cmpArmed).setWin w k).winDrive w s.linesBlanked
  else s

/-! ### Shadows (R252) -/

/-- The shadows of a window. -/
def winShadow (s : State) (w : Nat) : CmpCfg :=
  { thHi := s.rd (Reg.CMP_TH_TH_HI w), thLo := s.rd (Reg.CMP_TH_TH_LO w), hysHi := s.rd (Reg.CMP_HYS_HYS_HI w),
    hysLo := s.rd (Reg.CMP_HYS_HYS_LO w), ain := s.rd (Reg.CMP_CFG_AIN w) }

/-- The fields of `CMP_CFGw` below AIN. -/
def winCfgWord (s : State) (w : Nat) : Nat :=
  s.rd (Reg.CMP_CFG_HI_EN w) + 2 * s.rd (Reg.CMP_CFG_LO_EN w) + 4 * s.rd (Reg.CMP_CFG_MODE w) + 8 * s.rd (Reg.CMP_CFG_CLASS w)
    + 16 * s.rd (Reg.CMP_CFG_FSAFE w) + 32 * s.rd (Reg.CMP_CFG_KN w) + 128 * s.rd (Reg.CMP_CFG_EVT_REL w)

/-- Write the fields of `CMP_CFGw` below AIN. -/
def winCfgFields (s : State) (w v : Nat) : State :=
  let s := (s.wr (Reg.CMP_CFG_HI_EN w) (bitOf v 0)).wr (Reg.CMP_CFG_LO_EN w) (bitOf v 1)
  let s := (s.wr (Reg.CMP_CFG_MODE w) (bitOf v 2)).wr (Reg.CMP_CFG_CLASS w) (bitOf v 3)
  let s := (s.wr (Reg.CMP_CFG_FSAFE w) (bitOf v 4)).wr (Reg.CMP_CFG_KN w) (fieldOf v 5 2)
  s.wr (Reg.CMP_CFG_EVT_REL w) (bitOf v 7)

/-- The fields that a write sets: `CMP_CFGw` below AIN only in OFF, and never class A with sampled mode (R254, R258). -/
def winFields (s : State) (w : Nat) (r : CmpReg) (v : Nat) : State :=
  match r with
  | .th => (s.wr (Reg.CMP_TH_TH_HI w) v).wr (Reg.CMP_TH_TH_LO w) (fieldOf v 16 10)
  | .hys =>
    let s := (s.wr (Reg.CMP_HYS_HYS_HI w) v).wr (Reg.CMP_HYS_HYS_LO w) (fieldOf v 8 5)
    (s.wr (Reg.CMP_HYS_BCHAN w) (fieldOf v 16 6)).wr (Reg.CMP_HYS_BLANK w) (fieldOf v 22 10)
  | .cfg =>
    let s :=
      if v % 256 = s.winCfgWord w then s
      else if s.winState w != cmpOff || (hasBit v 2 && !hasBit v 3) then s.cmpCfgErr
      else s.winCfgFields w v
    s.wr (Reg.CMP_CFG_AIN w) (fieldOf v 8 6)

/-- A shadow write lands at a tick (R252). -/
def cmpConfigWrite (s : State) (w : Nat) (r : CmpReg) (v tick : Nat) : State :=
  let s := s.winFields w r v
  if s.winState w = cmpOff then s.setWin w { s.win w with cfg := s.winShadow w }
  else
    let b := w / 8
    let late := decide (s.frameLen < tick + 64)
    let first := late && !(s.bank b).late
    let s := s.when late (fun s => s.setB Reg.CMP_FLAGS_LATE_CFG b)
    let s := s.when first lateCommit
    s.setBank b { s.bank b with wrote := true, late := (s.bank b).late || late }

/-- The boundary of a bank's commits (R252). -/
def cmpBoundary (s : State) (b : Nat) : State :=
  let k := s.bank b
  let sh := (bankWins b).map s.winShadow
  s.setBank b { k with wrote := false, late := false,
                       ready := if k.wrote && !k.late then some sh else if k.snap.isSome then k.snap else k.ready,
                       snap := if k.wrote && k.late then some sh else none }

/-! ### Legacy checks (R261, R262) -/

/-- A trip line that stops a pair names a window of the bank (R262). -/
def checkBlocked (s : State) (b : Nat) : Bool :=
  (List.range 16).any fun n => s.on (Reg.TRIP_CFG_EN n) && s.rd (Reg.TRIP_CFG_ACTION n) != 2
    && (bankWins b).any fun w => s.rd (Reg.TRIP_CFG_SRC n) == w + 1

/-- The legacy check of a bank starts: all selected armed windows enter CHECK together. -/
def lcheckStart (s : State) (b : Nat) : State :=
  let ws := (bankWins b).filter fun w => hasBit (s.rd Reg.CMP_LCHK_CFG_SEL) w && s.winState w == cmpArmed
  let s := s.forEach (bankWins b) (fun s w => (s.clrB Reg.CMP_LCHK_RES_PASS w).clrB Reg.CMP_LCHK_RES_NJ w)
  let s := s.forEach ws (fun s w => s.setWinState w cmpCheck)
  let s := s.setBank b { s.bank b with checkWait := false, sel := ws.foldl setBit 0, fail := 0 }
  s.wr (Reg.CMP_BANK_BUSY b) 1

/-- `CMP_CMD.LCHECK` of a bank (R262): refused, waiting for a commit, or started. -/
def lcheckCmd (s : State) (b : Nat) : State :=
  if s.on (Reg.CMP_BANK_BUSY b) || (s.bank b).checkWait then s
  else if s.checkBlocked b then s.wr Reg.CMP_FLAGS_CHECK_REFUSED 1
  else if s.on (Reg.CMP_BANK_CFG_PEND b) then s.setBank b { s.bank b with checkWait := true }
  else s.lcheckStart b

/-- A threshold lies within 10 mV of a voltage, both in units of 0.5 nV. -/
def nearV (th v : Int) : Bool := decide ((th - v).natAbs ≤ 20000000)

/-- The latest result of the tapped land in units of 0.5 nV (R225, R261); none before a result or while settling. -/
def landVolts? (s : State) (ain : Nat) : Option Int :=
  let c := ain / 8
  let ch := ain % 8
  let w := s.rd (Reg.SAR_LATEST_WORD c ch)
  if !hasBit (s.sar c).had ch || hasBit w 21 then none
  else some (3000000000 + toSigned 16 (w % 65536) * 6000000000 / (65536 * 2 ^ nth (s.sar c).cfg.gain ch 0 : Nat))

/-- A step is judged for one comparator: whether it is judged, and whether it passed. -/
def stepJudge (s : State) (st : LegacyStep) (ain : Nat) (th : Int) (high got un : Bool) : Bool × Bool :=
  match st with
  | .tieGnd => (!nearV th 0, got == !high)
  | .tieMid => (!nearV th 3000000000, got == (if high then decide (th < 3000000000) else decide (3000000000 < th)))
  | .swap =>
    match s.landVolts? ain with
    | none => (false, true)
    | some v => (!nearV th v, got == !un)

def stepEnabled (s : State) : LegacyStep → Bool
  | .tieGnd => s.on Reg.CMP_LCHK_CFG_TIE_GND
  | .tieMid => s.on Reg.CMP_LCHK_CFG_TIE_MID
  | .swap => s.on Reg.CMP_LCHK_CFG_SWAP

/-- A step of a window ends and is judged for each enabled comparator. -/
def lcheckStep (s : State) (w : Nat) (st : LegacyStep) (r : LegacyResult) : State :=
  let b := w / 8
  if s.winState w != cmpCheck || !s.stepEnabled st then s
  else
    let c := (s.win w).cfg
    let (jh, ph) := s.stepJudge st c.ain (5859375 * c.thHi : Nat) true r.hi r.unHi
    let (jl, pl) := s.stepJudge st c.ain (5859375 * c.thLo : Nat) false r.lo r.unLo
    let he := s.on (Reg.CMP_CFG_HI_EN w)
    let le := s.on (Reg.CMP_CFG_LO_EN w)
    let s := s.when ((he && !jh) || (le && !jl)) (fun s => s.setB Reg.CMP_LCHK_RES_NJ w)
    if (he && jh && !ph) || (le && jl && !pl) then s.setBank b { s.bank b with fail := setBit (s.bank b).fail w } else s

/-- A window leaves the check (R258, R262). -/
def lcheckLeave (s : State) (w : Nat) : State :=
  if s.winState w != cmpCheck then s
  else if hasBit (s.bank (w / 8)).fail w then
    let s := (s.setWinState w cmpFault).wr Reg.CMP_FLAGS_CHECK_FAIL 1
    if s.on (Reg.CMP_CFG_FSAFE w) then s.winSet w true s.linesBlanked else s
  else (s.setWinState w cmpArmed).setB Reg.CMP_LCHK_RES_PASS w

/-- A bank soft reset (R258, R265): ignored until a running check ends, then applied. -/
def bankReset (s : State) (b : Nat) : State :=
  if s.on (Reg.CMP_BANK_BUSY b) then s.setBank b { s.bank b with resetWait := true }
  else s.forEach (bankWins b) (fun s w => if s.winState w = cmpStart || s.winState w = cmpArmed then s.winStart w else s)

/-- The legacy check of a bank ends. -/
def lcheckEnd (s : State) (b : Nat) : State :=
  let s := s.forEach (bankWins b) lcheckLeave
  let reset := (s.bank b).resetWait
  let s := (s.setBank b { s.bank b with sel := 0, fail := 0, resetWait := false }).wr (Reg.CMP_BANK_BUSY b) 0
  (s.raise Ev.CMP_CHECK).when reset (fun s => s.bankReset b)

/-- A bank's commit applies (R252): outputs that are not OFF are held for 200 ns; a check that waits starts. -/
def cmpCommit (s : State) (b : Nat) (l : List CmpCfg) : State :=
  let s := s.forEach (List.range 8) (fun s i =>
    let w := 8 * b + i
    if s.winState w = cmpOff then s else s.setWin w { s.win w with cfg := nth l i {}, hold := true })
  let s := s.setBank b { s.bank b with ready := none }
  if (s.bank b).checkWait && !s.on (Reg.CMP_BANK_CFG_PEND b) then s.lcheckStart b else s

/-- The hold of a commit ends (R252). -/
def holdEnd (s : State) (w : Nat) : State :=
  if (s.win w).hold then
    let s := s.setWin w { s.win w with hold := false }
    if s.winState w = cmpArmed then
      let s := if s.on (Reg.CMP_CFG_MODE w) then s else s.setWin w (winEval (s.win w))
      s.winDrive w s.linesBlanked
    else s
  else s

/-! ### Readback (R259, R260) -/

/-- The next DAC of a rotation: window ascending, high before low, wrapping; a DAC is 2 × window + side. -/
def nextDac (mask d : Nat) : Nat :=
  let ds := (List.range 32).filter fun x => hasBit mask (x / 2)
  match ds.find? (fun x => decide (d < x)) with
  | some x => x
  | none => ds.headD d

/-- A channel-10 result of converter `c` is judged; `recent` says that a commit of the DAC or a write of the selection fell
within 200 ns before its sampling instant. -/
def readback (s : State) (c : Nat) (p : SarPkt) (recent : Bool) : State :=
  if recent || p.settle || p.ovr then s.wr (Reg.CMP_RBSTAT_JUDGED c) 0
  else
    let w := s.rd (Reg.CMP_RBSEL_WIN c)
    let side := s.rd (Reg.CMP_RBSEL_SIDE c)
    let k : Int := if side = 0 then (s.win w).cfg.thHi else (s.win w).cfg.thLo
    let err := toSigned 16 p.code - 64 * (k - 512)
    let pass := decide (err.natAbs ≤ 96)
    let s := (s.wr (Reg.CMP_RBSTAT_ERR c) (ofSigned 16 err)).wr (Reg.CMP_RBSTAT_PASS c) (b2n pass)
    let s := (s.wr (Reg.CMP_RBSTAT_JUDGED c) 1).wr (Reg.CMP_RBSTAT_DAC c) (2 * w + side)
    let s := s.when (!pass) (fun s => s.flagRaise Reg.CMP_FLAGS_RB_FAIL Ev.CMP_CHECK)
    if s.on (Reg.CMP_RBSEL_AUTO c) then
      let d := nextDac (s.rd (Reg.CMP_RBSEL_MASK c)) (2 * w + side)
      (s.wr (Reg.CMP_RBSEL_WIN c) (d / 2)).wr (Reg.CMP_RBSEL_SIDE c) (d % 2)
    else s

def cmpAddr (w : Nat) : CmpReg → Nat
  | .cfg => 0x40040100 + 0x10 * w
  | .th => 0x40040104 + 0x10 * w
  | .hys => 0x40040108 + 0x10 * w

end State

/-- SAR_RESULT_ARRIVE (R235, R260): the oldest packet of a converter on the link. -/
def execSarResultArrive (c : Nat) (recent : Bool) (s : State) : Out :=
  .next (if c < 8 then
    match s.flightPop c with
    | (none, _) => s
    | (some p, s) =>
      let s := s.resultIn c p
      if p.chan = 10 then s.readback c p recent else s
  else s)

/-- CMP_OUTPUT_CHANGE (R251): the land of a window takes a voltage in nV; `blanked` says that the window's blanking runs, and
bit n of `lines` that of trip line n. -/
def execCmpOutputChange (w : Nat) (v : Int) (blanked : Bool) (lines : Nat) (s : State) : Out :=
  .next (if w < 16 then s.winInput w v blanked lines else s)

/-- CMP_BANK_TICK (R253, R254). -/
def execCmpBankTick (b lines : Nat) (s : State) : Out :=
  .next (if b < 2 then s.forEach (State.bankWins b) (fun s w => s.winTick w lines) else s)

/-- CMP_WINDOW_ENABLE (R258). -/
def execCmpWindowEnable (m : Master) (w : Nat) (s : State) : Out :=
  .next (if w < 16 then s.access m 0x40040000 .cr (fun s => s.winEnable w) else s)

/-- CMP_WINDOW_DISABLE (R258). -/
def execCmpWindowDisable (m : Master) (w : Nat) (s : State) : Out :=
  .next (if w < 16 then s.access m 0x40040000 .cr (fun s => s.winDisable w) else s)

/-- CMP_WINDOW_ARM (R258): the first evaluation, with the voltage at the land. -/
def execCmpWindowArm (w : Nat) (v : Int) (s : State) : Out := .next (if w < 16 then s.winArm w v else s)

/-- CMP_CONFIG_WRITE (R252): lands at a tick of the frame. -/
def execCmpConfigWrite (m : Master) (w : Nat) (r : CmpReg) (value tick : Nat) (s : State) : Out :=
  .next (if w < 16 then
    (s.toTick tick).access m (State.cmpAddr w r) .cr (fun s => s.cmpConfigWrite w r value tick)
  else s)

/-- CMP_CONFIG_COMMIT (R252). -/
def execCmpConfigCommit (b : Nat) (s : State) : Out :=
  .next (if b < 2 then
    match (s.bank b).ready with
    | some l => s.cmpCommit b l
    | none => s
  else s)

/-- CMP_DAC_HOLD_END (R252). -/
def execCmpDacHoldEnd (w : Nat) (s : State) : Out := .next (if w < 16 then s.holdEnd w else s)

/-- CMP_BLANK_END (R254). -/
def execCmpBlankEnd (w : Nat) (s : State) : Out :=
  .next (if w < 16 then (s.setWin w { s.win w with blank := false }).winShow w else s)

/-- CMP_LCHECK (R261, R262). -/
def execCmpLcheck (m : Master) (b : Nat) (s : State) : Out :=
  .next (if b < 2 then s.access m 0x4004000C .cr (fun s => s.lcheckCmd b) else s)

/-- CMP_LCHECK_STEP_END (R261). -/
def execCmpLcheckStepEnd (w : Nat) (step : LegacyStep) (r : LegacyResult) (s : State) : Out :=
  .next (if w < 16 then s.lcheckStep w step r else s)

/-- CMP_LCHECK_END (R262). -/
def execCmpLcheckEnd (b : Nat) (s : State) : Out :=
  .next (if b < 2 && s.on (Reg.CMP_BANK_BUSY b) then s.lcheckEnd b else s)

/-- CMP_BANK_SOFT_RESET (R258, R265). -/
def execCmpBankSoftReset (m : Master) (b : Nat) (s : State) : Out :=
  .next (if b < 2 then s.access m 0x4004000C .cr (fun s => s.bankReset b) else s)

end Sys2Proof.Machine
end

