-- ==== Sys2Proof/Machine/Crossings.lean ====
section
/-! DEFINITION. Machine/Crossings.lean: the shared SRAM, the reference mailbox up to its boundary, the digest pointers and the
event fabric (R44, R48 to R74). The application of a submission stands in Machine/Bus.lean, because it writes registers of
every block. -/

namespace Sys2Proof.Machine

namespace State

/-! ### Shared data SRAM (R44) -/

/-- The region code that `SHM_OWNER` names for a master (R63); the safety island owns no partition (R48). -/
def masterRegion? : Master → Option Nat
  | .mc => some 0
  | .pairA | .pairB => some 1
  | .dataRegion => some 2
  | .sc | .hsl => none

/-- The owner of partition `p`. -/
def shmOwner (s : State) (p : Nat) : Nat :=
  match p with
  | 0 => s.rd Reg.SHM_OWNER_OWNER_0 | 1 => s.rd Reg.SHM_OWNER_OWNER_1
  | 2 => s.rd Reg.SHM_OWNER_OWNER_2 | 3 => s.rd Reg.SHM_OWNER_OWNER_3
  | 4 => s.rd Reg.SHM_OWNER_OWNER_4 | 5 => s.rd Reg.SHM_OWNER_OWNER_5
  | 6 => s.rd Reg.SHM_OWNER_OWNER_6 | _ => s.rd Reg.SHM_OWNER_OWNER_7

/-- Base and size of the shared SRAM (R69). -/
abbrev shmBase : Nat := 0x10000000
abbrev shmSize : Nat := 0x80000

/-- The region of the master owns every partition that `n` bytes from offset `o` touch. -/
def shmOwned (s : State) (m : Master) (o n : Nat) : Bool :=
  match masterRegion? m with
  | none => false
  | some r => (List.range 8).all fun p => !(decide (o < (p + 1) * 0x10000) && decide (p * 0x10000 < o + n)) || s.shmOwner p == r

/-- A write to the shared SRAM (R44): a standby pair's is suppressed and counted (R124), a pair that does not run writes
nothing, a write outside the SRAM or to a partition of another region returns a bus error and writes nothing. -/
def sramWrite (s : State) (m : Master) (addr : Nat) (data : List Byte) : State :=
  let inside := shmBase ≤ addr && addr + data.length ≤ shmBase + shmSize
  let go : State :=
    if inside && s.shmOwned m (addr - shmBase) data.length then
      { s with bus := .ok, sram := memWrite s.sram (addr - shmBase) data }
    else { s with bus := .error }
  match masterPair? m with
  | none => go
  | some p =>
    if s.on (fenceFld p) then State.incSat { s with bus := .none } Reg.CP_FENCE_DROPS_COUNT
    else if s.pairState p = pairStandby then State.incSat { s with bus := .ok } Reg.CP_SUPPRESS_COUNT_COUNT
    else if s.pairState p = pairActive then go
    else { s with bus := .ok }

/-! ### Reference mailbox (R48 to R55, R61) -/

/-- Entry `i` of the write bank (R49). -/
def bankEntry (s : State) (i : Nat) : MbxEntry :=
  ⟨s.rd (Reg.MBX_DATA_WORD (4 * i)), s.rd (Reg.MBX_DATA_WORD (4 * i + 1)),
   s.rd (Reg.MBX_DATA_WORD (4 * i + 2)), s.rd (Reg.MBX_DATA_WORD (4 * i + 3))⟩

/-- A write of a bank word (R53): ignored while a submission is pending. -/
def mbxDataWrite (s : State) (index value : Nat) : State :=
  if s.on Reg.MBX_STATUS_PEND then s.wr Reg.MBX_STATUS_WBLOCK 1 else s.wr (Reg.MBX_DATA_WORD index) value

/-- The landing tick is at or after the point 32 tB before the next boundary (R53). -/
def lateTick (s : State) (tick : Nat) : Bool := s.frameLen ≤ tick + 32

/-- `MBX_STATUS.LATE` is set and `MBX_LATE` raised (R53, R73). -/
def mbxLate (s : State) : State := s.flagRaise Reg.MBX_STATUS_LATE Ev.MBX_LATE

/-- A submission of the first `count` entries of the bank lands at a tick (R53). -/
def mbxSubmit (s : State) (count tick : Nat) : State :=
  let s := s.wr Reg.MBX_CTRL_COUNT count
  if s.on Reg.MBX_STATUS_PEND then s.wr Reg.MBX_STATUS_WBLOCK 1
  else if count = 0 || 16 < count then s.wr Reg.MBX_STATUS_CNT_ERR 1
  else
    let late := s.lateTick tick
    let es := (List.range count).map s.bankEntry
    let s := { s with cross := { s.cross with sub := some ⟨es, if late then 2 else 1⟩ } }
    (s.wr Reg.MBX_STATUS_PEND 1).when late mbxLate

/-- An unrecoverable crossing fault (R61). -/
def crossFault (s : State) : State := (s.raise Ev.CROSS_FAULT).when (s.on Reg.CROSS_CTRL_FATAL_EN) fatalDue

/-- A parity error of the pending bank rejects the whole submission; on resubmission of the same bank it is unrecoverable
(R61). -/
def mbxParity (s : State) (sub : Submission) : State :=
  let again := s.cross.failedBank == some sub.entries
  let s := { s with cross := { s.cross with sub := none, failedBank := some sub.entries } }
  let s := (s.wr Reg.MBX_STATUS_PEND 0).wr Reg.MBX_STATUS_PERR 1
  s.when again crossFault

/-- A data-port entry of PE or EE is stamped with the placement epoch and waits for its boundary (R55). -/
def dataPortPut (s : State) (index value tick : Nat) : State :=
  if index < 48 || 63 < index then s
  else
    let late := s.lateTick tick
    let e : DataEntry := ⟨index, value % 2 ^ 32, s.rd Reg.ORB_EPOCH_EPOCH, if late then 2 else 1⟩
    State.when { s with cross := { s.cross with dataPort := s.cross.dataPort ++ [e] } } late mbxLate

/-! ### Digest pointers (R60) -/

/-- MC writes `RPTR`: entries are marked as read. -/
def digRptrWrite (s : State) (value : Nat) : State :=
  let m := (value % 8 + 8 - s.rd Reg.DIG_PTR_RPTR) % 8
  let u := s.rd Reg.DIG_PTR_UNREAD
  if u < m then (s.wr Reg.DIG_PTR_UNREAD 0).wr Reg.DIG_PTR_RPTR (s.rd Reg.DIG_PTR_WPTR)
  else (s.wr Reg.DIG_PTR_UNREAD (u - m)).wr Reg.DIG_PTR_RPTR value

/-! ### Event fabric (R71, R74, R124) -/

/-- A write of a route: a locked route ignores it until a CR reset. -/
def evfRouteWrite (s : State) (n value : Nat) : State :=
  if s.on (Reg.EVF_ROUTE_LOCK n) then s
  else
    let s := s.wr (Reg.EVF_ROUTE_TARGET n) (fieldOf value 0 6)
    let s := s.wr (Reg.EVF_ROUTE_PRIO n) (fieldOf value 8 2)
    let s := s.wr (Reg.EVF_ROUTE_OTRIG n) (fieldOf value 12 4)
    s.wrOnce (Reg.EVF_ROUTE_LOCK n) (bitOf value 31)

/-- A W1C write to a pending word. -/
def evfPendClear (s : State) (t w ones : Nat) : State :=
  s.wr (Reg.EVF_PEND_PEND t w) (andNot 32 (s.rd (Reg.EVF_PEND_PEND t w)) ones)

/-- The standby pair clears bits of its private copy of the target-0 pending bits (R124). -/
def standbyPendClear (s : State) (p : PairId) (w ones : Nat) : State :=
  let v := s.pair p
  State.setPair { s with bus := .ok } p { v with pend := setNth v.pend w (andNot 32 (nth v.pend w 0) ones) }

end State

/-- SHARED_SRAM_WRITE (R44). -/
def execSharedSramWrite (m : Master) (addr : Nat) (data : List Byte) (s : State) : Out :=
  .next (s.sramWrite m addr data)

/-- MBX_DATA_WRITE (R53): word `index` of the write bank, 0 to 63; above that nothing is addressed. -/
def execMbxDataWrite (m : Master) (index value : Nat) (s : State) : Out :=
  .next (if index < 64 then s.access m (0x400C0100 + 4 * index) .mr (fun s => s.mbxDataWrite index value) else s)

/-- MBX_SUBMIT (R53): a write of `MBX_CTRL` with SUBMIT set, landing at a tick of the frame. -/
def execMbxSubmit (m : Master) (count tick : Nat) (s : State) : Out :=
  .next ((s.toTick tick).access m 0x400C0004 .mr (fun s => s.mbxSubmit (count % 32) tick))

/-- MBX_PARITY_ERROR (R61): only a pending submission has a bank to check. -/
def execMbxParityError (s : State) : Out :=
  .next (match s.cross.sub with
    | none => s
    | some sub => s.mbxParity sub)

/-- DATA_PORT_SUBMIT (R55). -/
def execDataPortSubmit (index value tick : Nat) (s : State) : Out :=
  .next ((s.toTick tick).dataPortPut index value tick)

/-- DIG_RPTR_WRITE (R60). -/
def execDigRptrWrite (m : Master) (value : Nat) (s : State) : Out :=
  .next (s.access m 0x400C0018 .mr (fun s => s.digRptrWrite value))

/-- CLR_DROPS (R63). -/
def execClrDrops (m : Master) (s : State) : Out :=
  .next (s.accessCrOnly m 0x400C0020 (fun s => s.wr Reg.CROSS_EPOCH_DROPS_COUNT 0))

/-- EVF_ROUTE_WRITE (R71): sources 0 to 191. -/
def execEvfRouteWrite (m : Master) (n value : Nat) (s : State) : Out :=
  .next (if n < 192 then s.access m (0x400B0000 + 4 * n) .cr (fun s => s.evfRouteWrite n value) else s)

/-- EVF_PEND_CLEAR (R74, R124): the standby pair reaches its private copy of the target-0 words. -/
def execEvfPendClear (m : Master) (t w ones : Nat) (s : State) : Out :=
  .next (
    if 5 < t || 5 < w then s
    else
      match State.masterPair? m with
      | some p =>
        if s.pairState p = State.pairStandby && t = 0 then s.standbyPendClear p w ones
        else s.access m (0x400B0300 + 0x18 * t + 4 * w) .cr (fun s => s.evfPendClear t w ones)
      | none => s.access m (0x400B0300 + 0x18 * t + 4 * w) .cr (fun s => s.evfPendClear t w ones))

/-- CLR_COAL (R74). -/
def execClrCoal (m : Master) (s : State) : Out :=
  .next (s.access m 0x400B0394 .cr (fun s => s.wr Reg.EVF_COAL_COUNT 0))

end Sys2Proof.Machine
end

