-- ==== Sys2Proof/Machine/LeBlocks.lean ====
section
/-! DEFINITION. Machine/LeBlocks.lean: the program image (R142 to R148), its checks and costs (R149, R150), and the block
library (R151 to R153, R159, R160) in binary32. -/

namespace Sys2Proof.Machine.Le

/-! ### Image fields (R142 to R147) -/

/-- An image is read by word index. -/
abbrev Img := List (Nat × Nat)

def word (m : Img) (i : Nat) : Nat := bankWord m i

def nblk (m : Img) : Nat := fieldOf (word m 1) 0 7
def njob (m : Img) : Nat := fieldOf (word m 1) 8 5
def nin (m : Img) : Nat := fieldOf (word m 1) 16 6
def nout (m : Img) : Nat := fieldOf (word m 1) 24 5
def nwords (m : Img) : Nat := fieldOf (word m 2) 0 12
def programId (m : Img) : Nat := fieldOf (word m 2) 16 16

/-- A job table entry (R143). -/
structure JobDef where
  first : Nat
  last : Nat
  phase : Bool
  cmt : Bool
  adopt : Bool
  evt : Bool
  wtick : Nat
  deriving DecidableEq, Repr

def jobDef (m : Img) (j : Nat) : JobDef :=
  let w := word m (4 + 2 * j)
  ⟨fieldOf w 0 6, fieldOf w 8 6, hasBit w 16, hasBit w 17, hasBit w 18, hasBit w 19, fieldOf (word m (5 + 2 * j)) 0 20⟩

/-- A block table entry (R147). -/
structure Block where
  type : Nat
  out : Nat
  in0 : Nat
  in1 : Nat
  in2 : Nat
  in3 : Nat
  poff : Nat
  soff : Nat
  size : Nat
  auto0 : Bool
  pref : Bool
  lead : Bool
  link : Bool
  deriving DecidableEq, Repr

def block (m : Img) (b : Nat) : Block :=
  let w0 := word m (128 + 4 * b)
  let w1 := word m (129 + 4 * b)
  let w2 := word m (130 + 4 * b)
  let w3 := word m (131 + 4 * b)
  ⟨fieldOf w0 0 8, fieldOf w0 8 8, fieldOf w0 16 8, fieldOf w0 24 8, fieldOf w1 0 8, fieldOf w1 8 8, fieldOf w1 16 11,
   fieldOf w2 0 11, fieldOf w2 16 8, hasBit w3 0, hasBit w3 1, hasBit w3 2, hasBit w3 3⟩

/-- An input map entry (R144). -/
structure InMap where
  kind : Nat
  sel : Nat
  scale : Nat
  offset : Nat
  job : Nat
  deriving DecidableEq, Repr

def inMap (m : Img) (i : Nat) : InMap :=
  let w := word m (36 + i)
  ⟨fieldOf w 0 4, fieldOf w 4 8, fieldOf w 12 6, fieldOf w 18 6, fieldOf w 24 4⟩

/-- An output map entry (R145). -/
structure OutMap where
  kind : Nat
  pair : Nat
  sig : Nat
  job : Nat
  deriving DecidableEq, Repr

def outMap (m : Img) (i : Nat) : OutMap :=
  let w := word m (100 + i)
  ⟨fieldOf w 0 4, fieldOf w 4 5, fieldOf w 16 8, fieldOf w 24 4⟩

/-- The inputs and the outputs of a job, by number. -/
def jobIns (m : Img) (j : Nat) : List Nat := (List.range (nin m)).filter fun i => (inMap m i).kind != 0 && (inMap m i).job == j
def jobOuts (m : Img) (j : Nat) : List Nat := (List.range (nout m)).filter fun i => (outMap m i).kind != 0 && (outMap m i).job == j

/-- The blocks of a job, in index order (R143). -/
def jobBlocks (m : Img) (j : Nat) : List Nat :=
  let d := jobDef m j
  (List.range (d.last + 1)).filter fun b => d.first ≤ b

/-! ### Block library tables (R151) -/

def harmM (b : Block) : Nat := b.size % 32
def harmN (b : Block) : Nat := b.size / 64 % 4

/-- Parameter words, state words and outputs of a block. -/
def nparam (b : Block) : Nat :=
  match b.type with
  | 0x01 => 5 | 0x02 => 7 | 0x03 => 7 | 0x04 => 3 * harmM b | 0x05 => 5 | 0x06 => 2 | 0x08 => 2 | 0x09 => 2 | 0x0B => 4
  | 0x0C => 4 | 0x0D => 5 | 0x0E => 1 | 0x0F => 2 | 0x10 => 5 | _ => 0

def nstate (b : Block) : Nat :=
  match b.type with
  | 0x01 => 2 | 0x02 => 4 | 0x03 => 3 | 0x04 => 2 * harmM b * harmN b | 0x05 => 2 | 0x0B => 2 | 0x0C => 1 | 0x0F => 1
  | 0x10 => 4 | _ => 0

def nouts (b : Block) : Nat :=
  match b.type with
  | 0x04 => harmN b | 0x06 => 2 | 0x07 => 3 | 0x08 => 2 | 0x09 => 2 | 0x0A => 3 | 0x0B => 2 | 0x11 => 0 | _ => 1

/-- The cost of a block in engine cycles; `nsig` gives the signals of a capture set. -/
def cost (b : Block) (nsig : Nat → Nat) : Nat :=
  match b.type with
  | 0x01 => 10 | 0x02 => 16 | 0x03 => 18 | 0x04 => 8 + harmM b * (4 + 3 * harmN b) | 0x05 => 6 | 0x06 => 4 | 0x07 => 5
  | 0x08 => 8 | 0x09 => 8 | 0x0A => 5 | 0x0B => 14 | 0x0C => if b.in2 = 254 then 5 else 11 | 0x0D => 4 | 0x0E => 3
  | 0x0F => 5 | 0x10 => 10 | 0x11 => 3 + nsig b.size | _ => 0

/-- A type that R151 lists, with a SIZE in its range (R148 code 6). -/
def typeOk (b : Block) : Bool :=
  match b.type with
  | 0x04 => 1 ≤ harmM b && harmM b ≤ 24 && 1 ≤ harmN b && harmN b ≤ 3 && !hasBit b.size 5
  | 0x10 => b.size < 4
  | 0x11 => b.size < 16
  | t => 1 ≤ t && t ≤ 0x0F && b.size == 0

/-- PI, PID and PR are the regulators (R152), and the index of U1 among their state words. -/
def isReg (b : Block) : Bool := b.type == 1 || b.type == 2 || b.type == 3
def u1Index (b : Block) : Nat := match b.type with | 0x01 => 1 | 0x02 => 3 | _ => 2

/-! ### Image checks (R148, R149, R150) -/

/-- The cost of a job, and of a program (R149). -/
def jobCost (m : Img) (nsig : Nat → Nat) (j : Nat) : Nat :=
  12 + 2 * (jobIns m j).length + 2 * (jobOuts m j).length + (jobBlocks m j).foldl (fun a b => a + cost (block m b) nsig) 0

def programCost (m : Img) (nsig : Nat → Nat) : Nat := (List.range (njob m)).foldl (fun a j => a + jobCost m nsig j) 0

def headerOk (m : Img) : Bool :=
  fieldOf (word m 0) 0 16 == 0x4C45 && fieldOf (word m 0) 16 8 == 1 && 1 ≤ nblk m && nblk m ≤ 64 && 1 ≤ njob m && njob m ≤ 16
    && nout m ≤ 24 && 448 ≤ nwords m && nwords m ≤ 2048

def outRangesOk (m : Img) : Bool :=
  (List.range (nblk m)).all fun b =>
    let k := block m b
    nouts k == 0 || (64 ≤ k.out && k.out + nouts k ≤ 192)

def jobsOk (m : Img) : Bool :=
  (List.range (njob m)).all fun j => (jobDef m j).first ≤ (jobDef m j).last && (jobDef m j).last < nblk m

/-- The source of an input map entry exists (R144), and the target of an output map entry (R145). -/
def inOk (e : InMap) : Bool :=
  match e.kind with
  | 0 | 5 => true
  | 1 => e.sel % 16 ≤ 11
  | 2 => e.sel ≤ 7
  | 3 => e.sel ≤ 63
  | 4 => e.sel ≤ 15
  | _ => false

def outOk (e : OutMap) : Bool := e.kind == 0 || e.kind == 3 || ((e.kind == 1 || e.kind == 2) && e.pair ≤ 23)

def mapsOk (m : Img) : Bool :=
  (List.range (nin m)).all (fun i => inOk (inMap m i)) && (List.range (nout m)).all (fun i => outOk (outMap m i))

/-- The parameter and state ranges of a block: block, start, length. -/
def spans (m : Img) : List (Nat × Nat × Nat) :=
  (List.range (nblk m)).flatMap fun b =>
    let k := block m b
    [(b, k.poff, nparam k), (b, k.soff, nstate k)].filter fun e => e.2.2 != 0

def spansOk (m : Img) : Bool :=
  let l := spans m
  l.all (fun e => 448 ≤ e.2.1 && e.2.1 + e.2.2 ≤ nwords m)
    && l.all (fun e => l.all fun f => e.1 == f.1 || e.2.1 + e.2.2 ≤ f.2.1 || f.2.1 + f.2.2 ≤ e.2.1)

/-- The RESULT of an image in an engine state, below the check of its CRC (R148): the first cause in the stated order. -/
def check (m : Img) (state limit : Nat) (nsig : Nat → Nat) : Nat :=
  if state = 0 || state = 1 || state = 4 then 8
  else if !headerOk m then 3
  else if !((List.range (nblk m)).all fun b => typeOk (block m b)) then 6
  else if !(outRangesOk m && jobsOk m) then 7
  else if !mapsOk m then 9
  else if !spansOk m then 4
  else if limit < programCost m nsig then 5
  else 1

/-! ### Blocks (R151 to R153) -/

/-- What a run gives its blocks: T, the frame angle and Δ in turns, δ and ω, all binary32. -/
structure Ctx where
  t : Nat
  theta : Nat
  lead : Nat
  delta : Nat
  omega : Nat
  deriving DecidableEq, Repr

/-- How a regulator runs (R152, R159, R160): in MANUAL, in AUTO, or preset from a value; `mval` says that the value is the
run's MVAL. -/
inductive RegMode where
  | manual
  | auto
  | presetMval
  | preset (v : Nat)
  deriving DecidableEq, Repr

abbrev two : Nat := 0x40000000
abbrev three : Nat := 0x40400000
abbrev minusOne : Nat := 0xBF800000
/-- √3 and √3/2, each the nearest binary32. -/
abbrev sqrt3 : Nat := 0x3FDDB3D7
abbrev halfSqrt3 : Nat := 0x3F5DB3D7

/-- ψ = H·(θb + Δ − k/3) + PHI in turns (R151). -/
def psi (b : Block) (c : Ctx) (h phi k : Nat) : Nat :=
  let th := if b.lead then F32.add c.theta c.lead else c.theta
  let th := if k = 0 then th else F32.sub th (F32.div (F32.ofNat k) three)
  F32.add (F32.mul h th) phi

/-- Sine and cosine of an angle in turns; a non-finite angle gives NaN (R140, R151). -/
def sincos (x : Nat) : Nat × Nat :=
  if F32.isFinite x then (F32.sinTurn (F32.turnUnits x), F32.cosTurn (F32.turnUnits x)) else (F32.nan, F32.nan)

/-- Outputs and new state words of a block. -/
abbrev Res := List Nat × List Nat

/-- The pre-clamp output of a regulator from its integrator words. -/
def regV (pr : Bool) (p i0 i1 cs sn : Nat) : Nat :=
  if pr then F32.add (F32.add p (F32.mul i0 cs)) (F32.mul i1 sn) else F32.add p i0

/-- One run of a regulator, from p, the integrator words, their increments and the limits (R151, R152, R159, R160):
integrator words and output. -/
def regRun (pr : Bool) (md : RegMode) (p i0 i1 d0 d1 cs sn e clip umax umin mval : Nat) : Nat × Nat × Nat :=
  let preset (v : Nat) : Nat × Nat × Nat :=
    let r := F32.sub v p
    if pr then (F32.mul r cs, F32.mul r sn, v) else (r, i1, F32.clamp v umin umax)
  match md with
  | .manual => (i0, i1, mval)
  | .presetMval => preset mval
  | .preset v => preset v
  | .auto =>
    let n0 := F32.add i0 d0
    let n1 := if pr then F32.add i1 d1 else i1
    let v := regV pr p n0 n1 cs sn
    let up := (F32.gt v umax || clip == F32.one) && F32.gt e 0
    let down := (F32.lt v umin || clip == minusOne) && F32.lt e 0
    if up || down then (i0, i1, F32.clamp (regV pr p i0 i1 cs sn) umin umax)
    else (n0, n1, F32.clamp v umin umax)

/-- PI. -/
def pi (md : RegMode) (c : Ctx) (e clip : Nat) (q st : Nat → Nat) : Res :=
  let p := F32.mul (q 0) e
  let d := F32.mul (F32.mul (q 1) c.t) e
  let (i, _, u) := regRun false md p (st 0) 0 d 0 0 0 e clip (q 2) (q 3) (q 4)
  ([u], [i, u])

/-- PID. -/
def pid (md : RegMode) (c : Ctx) (e clip : Nat) (q st : Nat → Nat) : Res :=
  let df := F32.add (F32.mul (q 3) (st 2))
    (F32.div (F32.mul (F32.mul (F32.sub F32.one (q 3)) (q 2)) (F32.sub e (st 1))) c.t)
  let p := F32.add (F32.mul (q 0) e) df
  let d := F32.mul (F32.mul (q 1) c.t) e
  let (i, _, u) := regRun false md p (st 0) 0 d 0 0 0 e clip (q 4) (q 5) (q 6)
  ([u], [i, e, df, u])

/-- PR. -/
def prReg (b : Block) (md : RegMode) (c : Ctx) (e clip : Nat) (q st : Nat → Nat) : Res :=
  let (sn, cs) := sincos (psi b c (q 2) (q 3) 0)
  let p := F32.mul (q 0) e
  let g := F32.mul (F32.mul (F32.mul two (q 1)) c.t) e
  let (ic, is, u) := regRun true md p (st 0) (st 1) (F32.mul g cs) (F32.mul g sn) cs sn e clip (q 4) (q 5) (q 6)
  ([u], [ic, is, u])

/-- One phase of the harmonic bank over its terms: the sum and the state words written, term index and value. -/
def harmPhase (b : Block) (c : Ctx) (x k : Nat) (q st : Nat → Nat) : Nat × List (Nat × Nat) :=
  (List.range (harmM b)).foldl (fun a i =>
    let (sn, cs) := sincos (psi b c (q (3 * i)) (q (3 * i + 2)) k)
    let j := 2 * (i * harmN b + k)
    let g := F32.mul (F32.mul (F32.mul two (q (3 * i + 1))) c.t) x
    let ic := F32.add (st j) (F32.mul g cs)
    let is := F32.add (st (j + 1)) (F32.mul g sn)
    let term := F32.add (F32.mul ic cs) (F32.mul is sn)
    (if i = 0 then term else F32.add a.1 term, a.2 ++ [(j, ic), (j + 1, is)])) (0, [])

/-- Harmonic bank; the state holds, per term and phase, IC and IS. -/
def harmonic (b : Block) (c : Ctx) (ins : Nat → Nat) (q st : Nat → Nat) : Res :=
  let rs := (List.range (harmN b)).map fun k => harmPhase b c (ins k) k q st
  let ws := rs.flatMap (·.2)
  (rs.map (·.1), (List.range (2 * harmM b * harmN b)).map fun j => sparseGet ws j 0)

/-- Deadbeat (R153). -/
def deadbeat (c : Ctx) (isd isq id iq vd vq : Nat) (q st : Nat → Nat) : Res :=
  let l := q 0; let res := q 1; let g := q 2; let umag := q 3
  let k := F32.div c.delta l
  let wl := F32.mul c.omega l
  let ipd := F32.add id (F32.mul k (F32.add (F32.sub (F32.sub (st 0) vd) (F32.mul res id)) (F32.mul wl iq)))
  let ipq := F32.add iq (F32.mul k (F32.sub (F32.sub (F32.sub (st 1) vq) (F32.mul res iq)) (F32.mul wl id)))
  let gl := F32.mul g l
  let ud := F32.add (F32.sub (F32.add vd (F32.mul res ipd)) (F32.mul wl ipq)) (F32.div (F32.mul gl (F32.sub isd ipd)) c.delta)
  let uq := F32.add (F32.add (F32.add vq (F32.mul res ipq)) (F32.mul wl ipd)) (F32.div (F32.mul gl (F32.sub isq ipq)) c.delta)
  let mag := F32.sqrt (F32.add (F32.mul ud ud) (F32.mul uq uq))
  if F32.gt mag umag then
    let sc := F32.div umag mag
    ([F32.mul ud sc, F32.mul uq sc], [F32.mul ud sc, F32.mul uq sc])
  else ([ud, uq], [ud, uq])

/-- The integer that a selector word truncates to, clamped to 0 to 3 (R151). -/
def selTrunc (x : Nat) : Nat :=
  let d := F32.toDyadic x
  Nat.min 3 (if d.mant < 0 then 0 else d.floor.toNat)

/-- Selector. -/
def selector (ins : Nat → Nat) (selw : Nat) : Nat :=
  if !F32.isFinite selw then F32.nan
  else
    let k := selTrunc selw
    if k < 3 then ins k
    else if !F32.isFinite (ins 3) then F32.nan
    else ins (Nat.min 2 (F32.toInt (ins 3)).toNat)

/-- One run of a block: `ins k` its inputs, `sig` the signal table, `q` and `st` its parameter and state words, `g` the
injected signal with the new generator words. A capture point writes nothing here. -/
def run (b : Block) (md : RegMode) (c : Ctx) (sig : Nat → Nat) (q st : Nat → Nat) (g : Nat × List Nat) : Res :=
  let ins (k : Nat) : Nat := sig (match k with | 0 => b.in0 | 1 => b.in1 | 2 => b.in2 | _ => b.in3)
  let second (i : Nat) : Nat := sig (if i = 255 then 255 else i + 1)
  let e := F32.sub (ins 0) (ins 1)
  let clip := if b.link then ins 2 else 0
  match b.type with
  | 0x01 => pi md c e clip q st
  | 0x02 => pid md c e clip q st
  | 0x03 => prReg b md c e clip q st
  | 0x04 => harmonic b c ins q st
  | 0x05 =>
    let x := ins 0
    let y := F32.add (F32.mul (q 0) x) (st 0)
    ([y], [F32.add (F32.sub (F32.mul (q 1) x) (F32.mul (q 3) y)) (st 1), F32.sub (F32.mul (q 2) x) (F32.mul (q 4) y)])
  | 0x06 =>
    let x := ins 0
    ([F32.clamp x (q 1) (q 0), if F32.gt x (q 0) then F32.one else if F32.lt x (q 1) then minusOne else 0], [])
  | 0x07 =>
    let a := ins 0; let bb := ins 1; let cc := ins 2
    ([F32.div (F32.sub (F32.sub (F32.mul two a) bb) cc) three, F32.div (F32.sub bb cc) sqrt3,
      F32.div (F32.add (F32.add a bb) cc) three], [])
  | 0x08 =>
    let (sn, cs) := sincos (psi b c (q 0) (q 1) 0)
    ([F32.sub (F32.mul (ins 0) sn) (F32.mul (ins 1) cs), F32.add (F32.mul (ins 0) cs) (F32.mul (ins 1) sn)], [])
  | 0x09 =>
    let (sn, cs) := sincos (psi b c (q 0) (q 1) 0)
    ([F32.add (F32.mul (ins 0) sn) (F32.mul (ins 1) cs),
      F32.add (F32.mul (F32.neg (ins 0)) cs) (F32.mul (ins 1) sn)], [])
  | 0x0A =>
    let al := ins 0; let z := ins 2
    let h := F32.div (F32.neg al) two
    let sb := F32.mul halfSqrt3 (ins 1)
    ([F32.add al z, F32.add (F32.add h sb) z, F32.add (F32.sub h sb) z], [])
  | 0x0B => deadbeat c (ins 0) (second b.in0) (ins 1) (second b.in1) (ins 2) (second b.in2) q st
  | 0x0C =>
    let yf := F32.add (F32.mul (q 1) (st 0)) (F32.mul (F32.sub F32.one (q 1)) (ins 1))
    ([F32.add (q 2) (F32.div (F32.mul (F32.add (ins 0) (F32.mul (q 0) yf)) (q 3)) (ins 2))], [yf])
  | 0x0D =>
    let s2 := F32.add (F32.mul (q 0) (ins 0)) (F32.mul (q 1) (ins 1))
    ([F32.add (F32.add (F32.add s2 (F32.mul (q 2) (ins 2))) (F32.mul (q 3) (ins 3))) (q 4)], [])
  | 0x0E => ([selector ins (q 0)], [])
  | 0x0F =>
    let u1 := st 0
    let u := F32.add u1 (F32.clamp (F32.sub (ins 0) u1) (F32.neg (F32.mul (q 1) c.t)) (F32.mul (q 0) c.t))
    ([u], [u])
  | 0x10 => ([F32.add (ins 0) g.1], g.2)
  | _ => ([], [])

/-- A run ends in a number everywhere (R140). -/
def finite (r : Res) : Bool := r.1.all F32.isFinite && r.2.all F32.isFinite

/-! ### Injection (R165) -/

/-- The feedback taps of a PRBS register of `n` stages. PRESUMED: direction and output stage (notes/assumptions 26). -/
def taps : Nat → List Nat
  | 7 => [7, 6] | 8 => [8, 6, 5, 4] | 9 => [9, 5] | 10 => [10, 7] | 11 => [11, 9] | 12 => [12, 11, 10, 4]
  | 13 => [13, 12, 11, 8] | 14 => [14, 13, 12, 2] | 15 => [15, 14] | _ => []

/-- One step of the Fibonacci register: the parity of the taps enters stage 1. -/
def prbsStep (n r : Nat) : Nat :=
  (r * 2 + ((taps n).foldl (fun a t => a + bitOf r (t - 1)) 0) % 2) % 2 ^ n

/-- The register after `k` steps from a seed. -/
def prbsAfter (n : Nat) : Nat → Nat → Nat
  | 0, r => r
  | k + 1, r => prbsAfter n k (prbsStep n r)

/-- The bit at frame `k` from the start frame: stage n of the register (R165). The register's period bounds the steps. -/
def prbsBit (n seed k fpb : Nat) : Bool :=
  hasBit (prbsAfter n (k / Nat.max 1 fpb % (2 ^ n - 1)) (seed % 2 ^ n)) (n - 1)

end Sys2Proof.Machine.Le
end

