-- ==== Sys2Proof/Machine/Pairs.lean ====
section
/-! DEFINITION. Machine/Pairs.lean: the pair supervisor (R107 to R137): faults, fence, standby, takeover, pair states, debug
and the state sweep. -/

namespace Sys2Proof.Machine

namespace State

/-! ### Pair registers by pair -/

def doneFld : PairId → Fld
  | .a => Reg.CP_SELFTEST_A_DONE
  | .b => Reg.CP_SELFTEST_B_DONE

def passFld : PairId → Fld
  | .a => Reg.CP_SELFTEST_A_PASS
  | .b => Reg.CP_SELFTEST_B_PASS

def rejoinFld : PairId → Fld
  | .a => Reg.CP_SELFTEST_A_REJOINS
  | .b => Reg.CP_SELFTEST_B_REJOINS

def enFld : PairId → Fld
  | .a => Reg.CP_CTRL_A_EN
  | .b => Reg.CP_CTRL_B_EN

/-- The number of a pair in `FAULT_PAIR`, `WHICH` and `ACTIVE`. -/
def pairNum : PairId → Nat
  | .a => 0
  | .b => 1

/-- The TCM of a pair (R69). -/
def tcm (s : State) : PairId → List Host.Cell
  | .a => s.tcmA
  | .b => s.tcmB

/-- Replace the TCM of a pair. -/
def setTcm (s : State) (p : PairId) (m : List Host.Cell) : State :=
  match p with
  | .a => { s with tcmA := m }
  | .b => { s with tcmB := m }

/-- Size of a TCM (R69). -/
abbrev tcmSize : Nat := 0x40000

/-- Bytes written to a TCM. Beside free contents every written byte is listed. -/
def tcmWrite (s : State) (p : PairId) (a : Nat) (data : List Byte) : State :=
  if (s.pair p).tcmGen = 0 then s.setTcm p (memWrite (s.tcm p) a data)
  else s.setTcm p ((List.range data.length).foldl (fun m i => sparseInsert m (a + i) (nth data i 0)) (s.tcm p))

/-- A pair runs its program: ACTIVE or STANDBY. -/
def pairRuns (s : State) (p : PairId) : Bool := s.pairState p == pairActive || s.pairState p == pairStandby

/-- A pair is in service and not fenced: its faults count (R121, R123). -/
def pairWatched (s : State) (p : PairId) : Bool := (s.pairRuns p || s.pairState p == pairSync) && !s.on (fenceFld p)

/-- Some pair is halted (`CP_STATUS.HALTED`). -/
def anyHalted (s : State) : Bool := s.pairs.a.halted || s.pairs.b.halted

/-- The conditions of `STANDBY_READY` (R117, R126). -/
def readyNow (s : State) : Bool :=
  let one (p : PairId) := s.pairState p == pairActive && s.pairState p.other == pairStandby && (s.pair p.other).checked
    && !s.on (fenceFld p.other)
  (one .a || one .b) && s.on Reg.CP_CTRL_STANDBY_EN && !s.anyHalted && !s.pairs.resumeWait

/-- `STANDBY_READY` follows its conditions; a change raises `CP_STANDBY_READY` (R126, R135). -/
def updateReady (s : State) : State :=
  let r := b2n s.readyNow
  if s.rd Reg.CP_STATUS_STANDBY_READY = r then s
  else (s.wr Reg.CP_STATUS_STANDBY_READY r).raise Ev.CP_STANDBY_READY

/-- The state of a pair changes; `CROSS_CTRL.CP_RUN` reads 1 while a pair is ACTIVE (R46, R133). A pair that starts to be
copied or becomes active is no longer fenced. -/
def setPairState (s : State) (p : PairId) (st : Nat) : State :=
  let s := s.wr (pairStateFld p) st
  let s := s.when (st == pairSync || st == pairActive) (fun s => s.wr (fenceFld p) 0)
  let s := s.when (st == pairActive) (fun s =>
    let s := (s.wr Reg.CP_STATUS_ACTIVE (pairNum p)).pwmCauseEnds .bothLost
    { s with safety := { s.safety with sf4 := clearBit s.safety.sf4 1 } })
  s.wr Reg.CROSS_CTRL_CP_RUN (b2n (s.pairState .a == pairActive || s.pairState .b == pairActive))

/-- `CP_STATUS.HALTED` and the HALT cause of PWM safe state follow the halts (R117, R192). -/
def haltStatus (s : State) : State :=
  let s := s.wr Reg.CP_STATUS_HALTED (b2n s.anyHalted)
  let act := (s.pairs.a.halted && s.pairState .a == pairActive) || (s.pairs.b.halted && s.pairState .b == pairActive)
  if act then s else s.pwmCauseEnds .halt

/-- A pair stops running: its halt, its replay queue and its copy end. -/
def pairStops (s : State) (p : PairId) : State :=
  let v := s.pair p
  State.haltStatus (s.setPair p { v with halted := false, replay := [], copied := false, passed := false, interrupt := false, role := 0 })

/-- A pair enters SELFTEST (R133, R134): the test overwrites its whole TCM with contents the spec does not give.
DESIGN CHOICE: free contents (notes/assumptions 23). -/
def enterSelftest (s : State) (p : PairId) : State :=
  let s := (s.pairStops p).setPairState p pairSelftest
  let s := (s.wr (doneFld p) 0).wr (passFld p) 0
  let s := s.setPair p { s.pair p with tcmGen := s.freeCtr + 1 }
  State.setTcm { s with freeCtr := s.freeCtr + 1 } p []

/-- A pair enters FAILED. -/
def enterFailed (s : State) (p : PairId) : State := (s.pairStops p).setPairState p pairFailed

/-- The rejoin rule (R134). -/
def rejoinRule (s : State) (p : PairId) : State :=
  let n := s.rd (rejoinFld p)
  if s.on Reg.CP_CTRL_AUTO_REJOIN && n < s.rd Reg.CP_CTRL_REJOIN_MAX then
    (s.wr (rejoinFld p) (n + 1)).enterSelftest p
  else s.enterFailed p

/-- The fence of a pair (R122). -/
def fence (s : State) (p : PairId) : State := s.wr (fenceFld p) 1

/-- Both pairs are lost (R128). -/
def bothLost (s : State) (p : PairId) : State :=
  let s := (s.fence p).enterFailed p
  let s := { s with pairs := { s.pairs with cause := 0, orderly := false } }
  let s := (s.wr Reg.CP_STATUS_TAKEOVER_PEND 0).updateReady
  let s := s.flagRaise Reg.CP_FLAGS_BOTH_LOST Ev.CP_BOTH_LOST
  let s := s.pwmSafe .bothLost
  let s := { s with safety := { s.safety with sf4 := setBit s.safety.sf4 1 } }
  let s := s.faultHold
  if s.on Reg.CP_CTRL_FATAL_EN then { s with pairs := { s.pairs with fatalWait := true } } else s

/-- An orderly safe state is due at the next boundary (R128, R161). -/
def wantOrderly (s : State) : State := { s with pairs := { s.pairs with orderly := true } }

/-- The cause of a takeover that cannot take place is handled as if `STANDBY_READY` had been 0 (R117, R127). -/
def dropTakeover (s : State) (act : PairId) : State :=
  let c := s.pairs.cause
  let s := State.wr { s with pairs := { s.pairs with cause := 0 } } Reg.CP_STATUS_TAKEOVER_PEND 0
  if c = 0 then s
  else if c ≤ 3 then s.bothLost act
  else if c ≤ 5 then s.wantOrderly
  else s.wr Reg.CP_FLAGS_CMD_REFUSED 1

/-- A fault of a pair, by its code of `CP_TAKEOVER_LOG.CAUSE`: 1 to 3 are immediate, 4 and 5 ordinary (R121, R123, R127,
R128). -/
def pairFault (s : State) (p : PairId) (code : Nat) : State :=
  let imm := decide (code ≤ 3)
  let s := s.wr Reg.CP_FLAGS_FAULT_PAIR (pairNum p)
  if s.pairState p = pairActive then
    if s.on Reg.CP_STATUS_TAKEOVER_PEND then
      let c := if s.pairs.cause = 6 then code else s.pairs.cause
      State.when { s with pairs := { s.pairs with cause := c } } imm (fun s => s.fence p)
    else if s.on Reg.CP_STATUS_STANDBY_READY then
      let s := State.wr { s with pairs := { s.pairs with cause := code } } Reg.CP_STATUS_TAKEOVER_PEND 1
      s.when imm (fun s => s.fence p)
    else if imm then s.bothLost p
    else s.wantOrderly
  else
    let s := ((s.fence p).rejoinRule p).updateReady
    if s.on Reg.CP_STATUS_TAKEOVER_PEND then s.dropTakeover p.other else s

/-- A fault is recorded by its flag and event, then handled. -/
def recordFault (s : State) (p : PairId) (f : Fld) (ev code : Nat) : State :=
  if s.pairWatched p then (s.flagRaise f ev).pairFault p code else s

/-- The comparator check of tick 32 for one pair (R110). -/
def comparatorTest (s : State) (p : PairId) (reported : Bool) : State :=
  if s.pairWatched p then
    let s := s.setPair p { s.pair p with checked := reported }
    if reported then s else s.recordFault p Reg.CP_FLAGS_CHECKER Ev.CHECKER_FAULT 5
  else s

/-- The first word at which two slices differ. -/
def firstDiff : List Nat → List Nat → Nat → Option Nat
  | a :: as, b :: bs, i => if a = b then firstDiff as bs (i + 1) else some i
  | [], [], _ => none
  | _, _, i => some i

/-- One slice of both copies is captured and compared (R119, R120). -/
def sweep (s : State) (p : PairId) (main checker : List Nat) (forced : Bool) : State :=
  if s.on Reg.CP_SWEEP_EN && s.pairRuns p && !s.on (fenceFld p) && !(s.pair p).halted && !(s.pair p).swept then
    let s := s.setPair p { s.pair p with swept := true }
    let s := s.when forced (fun s => s.wr Reg.CP_FLAGS_SWEEP_FORCED 1)
    match firstDiff (main.take 8) (checker.take 8) 0 with
    | none => s
    | some i =>
      let s := s.wr Reg.CP_SWEEP_STATUS_WORD (8 * s.rd Reg.CP_SWEEP_STATUS_SLICE + i)
      let s := s.wr Reg.CP_SWEEP_STATUS_WHICH (pairNum p)
      s.recordFault p Reg.CP_FLAGS_LATENT Ev.LATENT_MISMATCH 4
  else s

/-! ### Debug (R115 to R117) -/

/-- Debug of the pairs is open (R445), the pair runs, and its replay queue has room (R116). -/
def debugTakes (s : State) (p : PairId) : Bool :=
  hasBit (s.rd Reg.SEC_DEBUG_OPEN) 0 && s.pairRuns p && !s.on (fenceFld p) && decide ((s.pair p).replay.length < 16)

/-- An action on the main copy enters the replay queue (R116). -/
def debugRecord (s : State) (p : PairId) (a : DebugAction) (count : Nat) : State :=
  let v := s.pair p
  s.setPair p { v with replay := v.replay ++ [(a, count)] }

/-- A debug halt (R117): of the active pair it drives PWM safe, of the standby pair it clears `STANDBY_READY`. -/
def debugHalt (s : State) (p : PairId) : State :=
  let s := s.setPair p { s.pair p with halted := true }
  let s := s.when (s.pairState p == pairActive) (fun s => s.pwmSafe .halt)
  s.haltStatus.updateReady

/-- A resume (R117): `STANDBY_READY` is restored at the first boundary after it. -/
def debugResume (s : State) (p : PairId) : State :=
  if (s.pair p).halted then
    let s := s.setPair p { s.pair p with halted := false }
    State.haltStatus { s with pairs := { s.pairs with resumeWait := true } }
  else s

/-! ### Standby (R124 to R126) -/

/-- An address lies in the mirror window (R125, R137). -/
def inMirror (s : State) (a : Nat) : Bool :=
  let b := s.rd Reg.CP_MIRROR_BASE * 256
  b ≤ a && a < b + s.rd Reg.CP_MIRROR_SIZE * 256 && a < tcmSize

/-- A write of the standby pair (R124): its own TCM outside the mirror window takes it, the target-0 pending words reach its
private copy, and every other write is acknowledged, not performed and counted. -/
def standbyWrite (s : State) (p : PairId) (a v : Nat) : State :=
  if s.pairState p = pairStandby && !s.on (fenceFld p) then
    if a < tcmSize && !s.inMirror a then State.tcmWrite { s with bus := .ok } p a (leBytes 4 v)
    else if 0x400B0300 ≤ a && a < 0x400B0318 && a % 4 = 0 then
      let w := (a - 0x400B0300) / 4
      let x := s.pair p
      State.setPair { s with bus := .ok } p { x with pend := setNth x.pend w (andNot 32 (nth x.pend w 0) v) }
    else State.incSat { s with bus := .ok } Reg.CP_SUPPRESS_COUNT_COUNT
  else s

/-- An agreed store of the active pair into its mirror window reaches the other pair's TCM (R125). -/
def mirrorStore (s : State) (p : PairId) (a : Nat) (data : List Byte) : State :=
  let inside := (List.range data.length).all fun i => s.inMirror (a + i)
  if s.pairState p = pairActive && !s.on (fenceFld p) && inside then
    let s := s.tcmWrite p a data
    let q := p.other
    s.when (s.pairState q == pairSync || s.pairState q == pairStandby) (fun s => s.tcmWrite q a data)
  else s

/-! ### Takeover and pair states (R127, R128, R133, R134) -/

/-- The takeover of R127 at the boundary, on the pair side: the epoch, the active pair, the pending set, the fence, the
rejoin rule and the log. -/
def takeover (s : State) (old : PairId) : State :=
  let new := old.other
  let code := s.pairs.cause
  let s := s.epochInc.fence old
  let s := s.setPairState new pairActive
  let s := s.forEach (List.range 6) (fun s w => s.wr (Reg.EVF_PEND_PEND 0 w) (nth (s.pair new).pend w 0))
  let s := s.setPair new { s.pair new with interrupt := true, pend := List.replicate 6 0 }
  let s := s.rejoinRule old
  let s := State.wr { s with pairs := { s.pairs with cause := 0 } } Reg.CP_STATUS_TAKEOVER_PEND 0
  let s := (s.incSat Reg.CP_TAKEOVER_LOG_COUNT).wr Reg.CP_TAKEOVER_LOG_CAUSE code
  let s := s.wr Reg.CP_TAKEOVER_FRAME_COUNT (s.rd Reg.ORB_FRAME_COUNT)
  s.updateReady.raise Ev.CP_TAKEOVER

/-- A takeover may take effect: the other pair stands by and neither is halted (R117, R127). -/
def takeoverAble (s : State) : Bool :=
  !s.anyHalted && s.pairState s.activePair.other == pairStandby && !s.on (fenceFld s.activePair.other)

/-- MC enables a pair (R133). -/
def pairEnable (s : State) (p : PairId) : State :=
  let s := s.wr (enFld p) 1
  if s.pairState p = pairOff then s.enterSelftest p else s

/-- The active pair may be released (R134). DEDUCED (notes/assumptions 24). -/
def releaseAllowed (s : State) : Bool :=
  s.on Reg.PWM_SAFE_STATUS_LATCHED && s.rd Reg.SAFE_STATE_STATE != 3 && s.rd Reg.SAFE_STATE_STATE != 4

/-- MC takes a pair out of service (R133, R134). -/
def pairDisable (s : State) (p : PairId) : State :=
  if s.pairState p = pairActive then
    if s.releaseAllowed then
      let s := (s.wr (enFld p) 0).pairStops p
      let s := State.wr { s with pairs := { s.pairs with cause := 0, orderly := false } } Reg.CP_STATUS_TAKEOVER_PEND 0
      (s.setPairState p pairOff).updateReady
    else s.wr Reg.CP_FLAGS_CMD_REFUSED 1
  else
    let s := ((s.wr (enFld p) 0).pairStops p).setPairState p pairOff
    let s := s.updateReady
    if s.on Reg.CP_STATUS_TAKEOVER_PEND then s.dropTakeover p.other else s

/-- A self-test finishes (R133). -/
def selftestDone (s : State) (p : PairId) (pass : Bool) : State :=
  if s.pairState p = pairSelftest && !(s.pair p).passed then
    let s := (s.wr (doneFld p) 1).wr (passFld p) (b2n pass)
    let s :=
      if !pass then s.setPairState p pairFailed
      else if s.pairState p.other = pairActive then s.setPairState p pairSync
      else s.setPair p { s.pair p with passed := true }
    s.raise Ev.CP_REJOIN
  else s

/-- A pair whose test has passed becomes active at a boundary, or joins as standby where the other pair is active by then
(R133). -/
def pairActivate (s : State) (p : PairId) : State :=
  if s.pairState p = pairSelftest && (s.pair p).passed then
    let s := s.setPair p { s.pair p with passed := false }
    if s.pairState p.other = pairActive then s.setPairState p pairSync
    else
      let s := s.setPairState p pairActive
      (s.setPair p { s.pair p with role := 1 }).updateReady
  else s

/-- The full TCM copy is complete (R126). -/
def syncCopied (s : State) (p : PairId) : State :=
  if s.pairState p = pairSync && s.pairState p.other = pairActive && !(s.pair p).copied then
    let s := s.setTcm p (s.tcm p.other)
    s.setPair p { s.pair p with copied := true, tcmGen := (s.pair p.other).tcmGen }
  else s

/-- A copied pair enters STANDBY at a boundary with an empty private copy (R124, R126). -/
def standbyEnter (s : State) (p : PairId) : State :=
  if s.pairState p = pairSync && (s.pair p).copied then
    let s := s.setPairState p pairStandby
    let s := s.setPair p { s.pair p with copied := false, pend := List.replicate 6 0, role := 0 }
    (s.raise Ev.CP_REJOIN).updateReady
  else s

/-- A commanded takeover (R128). -/
def cmdTakeover (s : State) : State :=
  if s.on Reg.CP_STATUS_TAKEOVER_PEND then s
  else if s.on Reg.CP_STATUS_STANDBY_READY then
    State.wr { s with pairs := { s.pairs with cause := 6 } } Reg.CP_STATUS_TAKEOVER_PEND 1
  else s.wr Reg.CP_FLAGS_CMD_REFUSED 1

/-- A commanded rejoin (R133). -/
def rejoinCmd (s : State) (p : PairId) : State :=
  if s.pairState p = pairFailed && s.pairState p.other = pairActive then s.enterSelftest p else s

/-- The supervisor's part of a boundary (R117, R119, R126). -/
def pairsBoundary (s : State) : State :=
  let s := s.incWrap Reg.CP_SWEEP_STATUS_SLICE
  let e := s.rd Reg.ORB_EPOCH_EPOCH
  State.updateReady { s with pairs := { s.pairs with a := { s.pairs.a with swept := false, cpidEpoch := e },
                                                     b := { s.pairs.b with swept := false, cpidEpoch := e },
                                                     resumeWait := false } }

end State

/-- CP_MISMATCH (R108, R121). -/
def execCpMismatch (p : PairId) (s : State) : Out := .next (s.recordFault p Reg.CP_FLAGS_MISMATCH Ev.CP_MISMATCH 1)

/-- CP_TCM_DED (R111, R121): reported as `CP_MISMATCH` with `CP_FLAGS.TCM_DED` set (R135). -/
def execCpTcmDed (p : PairId) (s : State) : Out := .next (s.recordFault p Reg.CP_FLAGS_TCM_DED Ev.CP_MISMATCH 3)

/-- CP_COMPARATOR_TEST (R110): what each pair's comparator reported. -/
def execCpComparatorTest (reportedA reportedB : Bool) (s : State) : Out :=
  .next ((s.comparatorTest .a reportedA).comparatorTest .b reportedB)

/-- CP_DELAY_PARITY (R110). -/
def execCpDelayParity (p : PairId) (s : State) : Out := .next (s.recordFault p Reg.CP_FLAGS_CHECKER Ev.CHECKER_FAULT 5)

/-- CP_AGREE_FIX (R112, R113): input `input` takes a value in both copies. -/
def execCpAgreeFix (p : PairId) (input value : Nat) (s : State) : Out :=
  .next (
    let v := s.pair p
    if s.pairWatched p then s.setPair p { v with agreed := sparseInsert v.agreed input value } else s)

/-- CP_AGREE_FAULT (R114, R121): the value fixed before stays in force. -/
def execCpAgreeFault (p : PairId) (s : State) : Out := .next (s.recordFault p Reg.CP_FLAGS_AGREE Ev.CP_AGREE_FAULT 2)

/-- DEBUG_HALT (R116, R117). -/
def execDebugHalt (p : PairId) (count : Nat) (s : State) : Out :=
  .next (if s.debugTakes p then (s.debugRecord p .halt count).debugHalt p else s)

/-- DEBUG_RESUME (R116, R117). -/
def execDebugResume (p : PairId) (count : Nat) (s : State) : Out :=
  .next (if s.debugTakes p then (s.debugRecord p .resume count).debugResume p else s)

/-- DEBUG_STEP (R116). -/
def execDebugStep (p : PairId) (count : Nat) (s : State) : Out :=
  .next (if s.debugTakes p then s.debugRecord p .step count else s)

/-- DEBUG_ABSTRACT_CMD (R116). -/
def execDebugAbstractCmd (p : PairId) (count : Nat) (s : State) : Out :=
  .next (if s.debugTakes p then s.debugRecord p .abstractCmd count else s)

/-- DEBUG_PROGBUF (R116). -/
def execDebugProgbuf (p : PairId) (count : Nat) (s : State) : Out :=
  .next (if s.debugTakes p then s.debugRecord p .progbuf count else s)

/-- DEBUG_REPLAY (R116): the oldest recorded action reaches the checker. -/
def execDebugReplay (p : PairId) (s : State) : Out :=
  .next (s.setPair p { s.pair p with replay := (s.pair p).replay.tail })

/-- SWEEP_CAPTURE (R119, R120): eight words of each copy. -/
def execSweepCapture (p : PairId) (main checker : List Nat) (s : State) : Out := .next (s.sweep p main checker false)

/-- SWEEP_FORCED (R119, R120). -/
def execSweepForced (p : PairId) (main checker : List Nat) (s : State) : Out := .next (s.sweep p main checker true)

/-- STANDBY_WRITE_SUPPRESS (R124). -/
def execStandbyWriteSuppress (p : PairId) (addr value : Nat) (s : State) : Out := .next (s.standbyWrite p addr value)

/-- MIRROR_WRITE_THROUGH (R125). -/
def execMirrorWriteThrough (p : PairId) (addr : Nat) (data : List Byte) (s : State) : Out :=
  .next (s.mirrorStore p addr data)

/-- CP_TAKEOVER_INTERRUPT (R127 step 4, R136): the new active pair takes mcause 0x8000_0010, and `cpid.ROLE` reads 1. -/
def execCpTakeoverInterrupt (p : PairId) (s : State) : Out :=
  .next (if (s.pair p).interrupt then s.setPair p { s.pair p with interrupt := false, role := 1 } else s)

/-- CP_FATAL_DELAY (R128): 10 µs after `CP_BOTH_LOST`. -/
def execCpFatalDelay (s : State) : Out :=
  .next (if s.pairs.fatalWait then State.fatalDue { s with pairs := { s.pairs with fatalWait := false } } else s)

/-- CP_DISABLE (R133, R134). -/
def execCpDisable (m : Master) (p : PairId) (s : State) : Out :=
  .next (s.access m 0x400C0800 .mr (fun s => s.pairDisable p))

/-- CP_SELFTEST_DONE (R133). -/
def execCpSelftestDone (p : PairId) (pass : Bool) (s : State) : Out := .next (s.selftestDone p pass)

/-- CP_SYNC_COPY_DONE (R126). -/
def execCpSyncCopyDone (p : PairId) (s : State) : Out := .next (s.syncCopied p)

/-- CP_STANDBY_ENTER (R124, R126). -/
def execCpStandbyEnter (p : PairId) (s : State) : Out := .next (s.standbyEnter p)

/-- CP_CMD_TAKEOVER (R128). -/
def execCpCmdTakeover (m : Master) (s : State) : Out := .next (s.access m 0x400C080C .mr State.cmdTakeover)

/-- REJOIN_CMD (R133). -/
def execRejoinCmd (m : Master) (p : PairId) (s : State) : Out :=
  .next (s.access m 0x400C080C .mr (fun s => s.rejoinCmd p))

/-- CP_MIRROR_WRITE (R137): writable only while `CP_RUN` = 0. -/
def execCpMirrorWrite (m : Master) (base size : Nat) (s : State) : Out :=
  .next (s.access m 0x400C0810 .mr (fun s =>
    if s.cpRun then s else (s.wr Reg.CP_MIRROR_BASE base).wr Reg.CP_MIRROR_SIZE size))

/-- CLR_FENCE (R137). -/
def execClrFence (m : Master) (s : State) : Out :=
  .next (s.accessCrOnly m 0x400C0834 (fun s => s.wr Reg.CP_FENCE_DROPS_COUNT 0))

/-- CLR_SUPPRESS (R137). -/
def execClrSuppress (m : Master) (s : State) : Out :=
  .next (s.accessCrOnly m 0x400C0834 (fun s => s.wr Reg.CP_SUPPRESS_COUNT_COUNT 0))

/-- CLR_ECC (R137). -/
def execClrEcc (m : Master) (s : State) : Out :=
  .next (s.accessCrOnly m 0x400C0834 (fun s => s.wr Reg.CP_ECC_COUNT_COUNT 0))

end Sys2Proof.Machine
end

