-- ==== Sys2Proof/Machine/LoopEngine.lean ====
section
/-! DEFINITION. Machine/LoopEngine.lean: the loop engines (R138 to R169): states, images, jobs, timing modes, presets, cover,
injection and capture. Engine numbers are 0 and 1; a command that names another does nothing. -/

namespace Sys2Proof.Machine

namespace State

/-! ### Engines and their registers -/

def le (s : State) (e : Nat) : LeSt := if e = 0 then s.les.e0 else s.les.e1
def setLe (s : State) (e : Nat) (v : LeSt) : State :=
  if e = 0 then { s with les := { s.les with e0 := v } } else { s with les := { s.les with e1 := v } }

/-- Base address of an engine (R69). -/
def leBase (e : Nat) : Nat := 0x40050000 + 0x8000 * e

/-- The engine states (R164, R169). -/
abbrev leOff : Nat := 0
abbrev leSelftest : Nat := 1
abbrev leEmpty : Nat := 2
abbrev leReady : Nat := 3
abbrev leFaulted : Nat := 4

def leState (s : State) (e : Nat) : Nat := s.rd (Reg.LE_STATUS_STATE e)

/-- The active and the inactive program bank (R139). -/
def leActive (s : State) (e : Nat) : Le.Img := if s.on (Reg.LE_STATUS_ACTIVE_BANK e) then (s.le e).img1 else (s.le e).img0
def leInactive (s : State) (e : Nat) : Le.Img := if s.on (Reg.LE_STATUS_ACTIVE_BANK e) then (s.le e).img0 else (s.le e).img1
def setLeActive (s : State) (e : Nat) (m : Le.Img) : State :=
  if s.on (Reg.LE_STATUS_ACTIVE_BANK e) then s.setLe e { s.le e with img1 := m } else s.setLe e { s.le e with img0 := m }
def setLeInactive (s : State) (e : Nat) (m : Le.Img) : State :=
  if s.on (Reg.LE_STATUS_ACTIVE_BANK e) then s.setLe e { s.le e with img0 := m } else s.setLe e { s.le e with img1 := m }

/-- The program of engine `x` as engine `e` runs it: its own active bank, or the cover image (R161). -/
def program (s : State) (e x : Nat) : Le.Img := if e = x then s.leActive x else (s.le e).cover

/-- A signal-table entry (R141): S254 reads 1.0 and S255 reads 0.0. -/
def leSig (s : State) (e i : Nat) : Nat := if i = 254 then F32.one else if i = 255 then 0 else s.rd (Reg.LE_SIG_VALUE e i)

/-- The signals of a capture set (R151, R166). -/
def capSigs (s : State) (e c : Nat) : Nat := s.rd (Reg.LE_CAP_CFG_NSIG e c)

/-- The budget limit B (R150). -/
def budget (s : State) : Nat := 280000000 * s.divisor / (s.rd Reg.ORB_NCAR_N * s.rd Reg.ORB_FBAND_FMAX)

def putLimit (s : State) (e : Nat) : State := s.wr (Reg.LE_BUDGET_LIMIT e) (Nat.min 65535 s.budget)

/-- The cost of an engine's active program; 0 where it has none. -/
def leCost (s : State) (e : Nat) : Nat :=
  if s.leState e = leReady || s.leState e = leFaulted then Le.programCost (s.leActive e) (s.capSigs e) else 0

/-! ### Images (R142, R148, R150, R161) -/

/-- The cover image of engine `y` follows the other engine's active image; cover is refused where both programs exceed B
(R161). -/
def coverUpdate (s : State) (y : Nat) : State :=
  let x := 1 - y
  if s.on (Reg.LE_STATUS_COVERING y) then s
  else if s.on (Reg.LE_CTRL_COVER_EN y) && s.leState y = leReady && s.leState x = leReady then
    let s := s.setLe y { s.le y with cover := s.leActive x }
    if s.budget < s.leCost x + s.leCost y then
      (s.wr (Reg.LE_FLAGS_COVER_REFUSED y) 1).wr (Reg.LE_STATUS_COVER_READY y) 0
    else s.wr (Reg.LE_STATUS_COVER_READY y) 1
  else if s.leState x = leFaulted then s
  else s.wr (Reg.LE_STATUS_COVER_READY y) 0

/-- An image in the inactive bank is checked (R148): accepted, it waits for its boundary; refused, it stays unused. -/
def leCheck (s : State) (e : Nat) : State :=
  let s := s.putLimit e
  let r := Le.check (s.leInactive e) (s.leState e) s.budget (s.capSigs e)
  let s := s.wr (Reg.LE_LOAD_STATUS_RESULT e) r
  if r = 1 then (s.setLe e { s.le e with accepted := true }).wr (Reg.LE_STATUS_LOAD_BUSY e) 1
  else (s.wr (Reg.LE_STATUS_LOAD_BUSY e) 0).raise Ev.LE_LOAD

/-- The bank switch at a boundary (R148). -/
def leSwitch (s : State) (e : Nat) : State :=
  if (s.le e).accepted && (s.leState e = leEmpty || s.leState e = leReady) then
    let s := s.wr (Reg.LE_STATUS_ACTIVE_BANK e) (1 - s.rd (Reg.LE_STATUS_ACTIVE_BANK e))
    let m := s.leActive e
    let s := s.setLe e { s.le e with accepted := false, ran := [], lastAuto := [], marks := [], tlast := [] }
    let s := s.forEach (List.range 62) (fun s i => s.wr (Reg.LE_SIG_VALUE e (192 + i)) (Le.word m (384 + i)))
    let auto (lo : Nat) : Nat := (List.range 32).foldl (fun a b =>
      if lo + b < Le.nblk m && (Le.block m (lo + b)).auto0 then setBit a b else a) 0
    let s := (s.wr (Reg.LE_MODE0_AUTO e) (auto 0)).wr (Reg.LE_MODE1_AUTO e) (auto 32)
    let s := (s.wr (Reg.LE_STATUS_LOAD_BUSY e) 0).wr (Reg.LE_LOAD_STATUS_PROGRAM_ID e) (Le.programId m)
    let s := s.wr (Reg.LE_BUDGET_COST e) (Nat.min 65535 (Le.programCost m (s.capSigs e)))
    let s := s.wr (Reg.LE_STATUS_STATE e) leReady
    let s := { s with cross := (if e = 0 then { s.cross with loadLe0 := .idle } else { s.cross with loadLe1 := .idle }) }
    ((s.coverUpdate 0).coverUpdate 1).raise Ev.LE_LOAD
  else s

/-- The budget after a carrier change (R150). -/
def leBudgetCheck (s : State) (e : Nat) : State :=
  let s := s.putLimit e
  s.when (decide (s.budget < s.leCost e)) (fun s => s.flagRaise (Reg.LE_FLAGS_BUDGET e) Ev.LE_BUDGET)

/-! ### Inputs (R105, R144) -/

/-- An angle as a number of turns below 1 (R105). -/
def turnsOf (a : Nat) : Nat := Nat.min 0x3F7FFFFF (F32.ofRatio (a % turn) turn)

/-- Orbit's items (R105); none above 7. -/
def orbItem? (s : State) (i : Nat) : Option Nat :=
  match i with
  | 0 => some (turnsOf (s.rd Reg.ORB_FRAME_ANGLE_THETA))
  | 1 => some (s.rd Reg.ORB_FREQ_VALUE)
  | 2 => some (s.rd Reg.ORB_ROCOF_VALUE)
  | 3 => some (s.rd Reg.ORB_VPOS_D_VALUE)
  | 4 => some (s.rd Reg.ORB_VPOS_Q_VALUE)
  | 5 => some (s.rd Reg.ORB_VNEG_MAG_VALUE)
  | 6 => some (turnsOf (s.rd Reg.ORB_VNEG_ANG_THETA))
  | 7 => some (F32.ofRatio (toSigned 32 s.orbit.phaseErr) turn)
  | _ => none

/-- The source of an input of engine `x`'s program, before offset and scale. -/
def inputSource (s : State) (x : Nat) (m : Le.InMap) : Nat :=
  match m.kind with
  | 1 => F32.ofInt (toSigned 16 (s.rd (Reg.SAR_LATEST_WORD (m.sel / 16 % 8) (m.sel % 16))))
  | 2 => (s.orbItem? m.sel).getD 0
  | 3 => s.rd (Reg.REF_SP_VALUE m.sel)
  | 4 => s.rd (Reg.LE_REF_VALUE x m.sel)
  | 5 => s.leSig (1 - x) m.sel
  | _ => 0

/-- Value = (source − S[OFFSET]) × S[SCALE]. -/
def inputValue (s : State) (x : Nat) (m : Le.InMap) : Nat :=
  F32.mul (F32.sub (s.inputSource x m) (s.leSig x (192 + m.offset))) (s.leSig x (192 + m.scale))

/-- A SAR source whose result was taken before settling, or at the end of its range. -/
def sarBit (s : State) (m : Le.InMap) (b : Nat) : Bool :=
  m.kind == 1 && hasBit (s.rd (Reg.SAR_LATEST_WORD (m.sel / 16 % 8) (m.sel % 16))) b

/-- The inputs of a job are loaded (R144): a settling value is not, and an out-of-range one is flagged. -/
def loadInputs (s : State) (e x job : Nat) (img : Le.Img) : List (Nat × Nat) × State :=
  let is := Le.jobIns img job
  let ms := is.map fun i => (i, Le.inMap img i)
  let s' := s.when (ms.any fun m => s.sarBit m.2 21) (fun s => s.wr (Reg.LE_FLAGS_INPUT_SETTLE e) 1)
  let s' := s'.when (ms.any fun m => !s.sarBit m.2 21 && s.sarBit m.2 20) (fun s => s.wr (Reg.LE_FLAGS_INPUT_OVR e) 1)
  ((ms.filter fun m => !s.sarBit m.2 21).map fun m => (m.1, s.inputValue x m.2), s')

/-! ### Jobs (R149 to R160) -/

/-- The engine that runs the jobs of engine `x` (R161). -/
def leRunner (s : State) (x : Nat) : Nat := if s.on (Reg.LE_STATUS_COVERING (1 - x)) then 1 - x else x

/-- A job starts on engine `e`: inputs and modes are latched (R151, R154, R159). -/
def leStart (s : State) (e : Nat) (j : LeJob) : State :=
  let x := j.owner
  let img := s.program e x
  let (ins, s) := s.loadInputs e x j.job img
  let last := (s.le x).tlast.find? (fun t => t.1 == j.job)
  let ticks := match last with
    | some (_, t) => s.now - t
    | none => s.frameLen
  let r : LeRun := { job := j, modes := s.rd (Reg.LE_MODE0_AUTO x) + s.rd (Reg.LE_MODE1_AUTO x) * 2 ^ 32, inputs := ins,
                     ticks := Nat.min ticks (s.rd (Reg.LE_TMAX_US x) * 800), thetaB := s.rd Reg.ORB_FRAME_ANGLE_THETA,
                     inc := s.rd Reg.ORB_DTHETA_INC, period := s.rd Reg.ORB_PERIOD_PERIOD,
                     freq := s.rd Reg.ORB_FREQ_VALUE, boundary := s.now }
  (s.setLe e { s.le e with run := some r }).wr (Reg.LE_STATUS_JOB e) j.job

/-- The next queued job starts, where none runs (R138). -/
def leNext (s : State) (e : Nat) : State :=
  match (s.le e).run, (s.le e).queue with
  | none, j :: q => (s.setLe e { s.le e with queue := q }).leStart e j
  | none, [] => s.wr (Reg.LE_STATUS_JOB e) 0x3F
  | some _, _ => s

/-- An issue that runs nothing (R158). -/
def jobBad (s : State) (x slot : Nat) : State := (s.wr (Reg.LE_FLAGS_JOB_BAD x) 1).retire slot

/-- An issued job reaches its engine (R149, R158, R161). -/
def leIssue (s : State) (slot : Nat) (o : OrbOp) : State :=
  let x := o.arga % 2
  let job := fieldOf o.arga 8 8
  let e := s.leRunner x
  if s.leState e != leReady || Le.njob (s.program e x) ≤ job || 16 ≤ (s.le e).queue.length then s.jobBad x slot
  else
    let j : LeJob := ⟨slot, job, x, o.tag, o.epoch⟩
    (s.setLe e { s.le e with queue := (s.le e).queue ++ [j] }).leNext e

/-- The signal an injection point adds, and its new generator words (R165). -/
def injection (s : State) (e : Nat) (b : Le.Block) (q st : Nat → Nat) (t : Nat) : Nat × List Nat :=
  let i := b.size % 4
  let hold := (List.range 4).map st
  let k := s.rd Reg.ORB_FRAME_COUNT + turn - nth (s.le e).injStart i 0
  let k := k % turn
  let armed := s.on (Reg.LE_INJ_ARM e i)
  match F32.toInt (q 0) with
  | 1 => (if armed then q 1 else 0, hold)
  | 2 =>
    if armed then
      let frames := F32.ofInt (F32.toInt (q 4))
      let part := F32.min F32.one (F32.div (F32.ofNat k) frames)
      let f := F32.add (q 2) (F32.mul (F32.sub (q 3) (q 2)) part)
      let phi := F32.add (if nth (s.le e).injFirst i false then 0 else st 0) (F32.mul f t)
      (F32.mul (q 1) (Le.sincos phi).1, phi :: (List.range 3).map (fun n => st (n + 1)))
    else (0, hold)
  | 3 =>
    if armed then
      let bit := Le.prbsBit (F32.toInt (q 2)).toNat (F32.toInt (q 4)).toNat k (F32.toInt (q 3)).toNat
      (if bit then q 1 else F32.neg (q 1), hold)
    else (0, hold)
  | 4 =>
    if s.on Reg.EE_STATUS_INJECTING && s.rd Reg.EE_INJ_ENG == e && s.rd Reg.EE_INJ_INJ == i then
      let kk := (s.rd Reg.ORB_FRAME_COUNT + turn - s.rd Reg.EE_K0_FRAME) % turn
      let bit := Le.prbsBit (s.rd Reg.EE_INJ_N) (s.rd Reg.EE_SEED_SEED) kk (s.rd Reg.EE_INJ_FPB)
      let a := s.rd (Reg.REF_SP_VALUE ((F32.toInt (q 2)).toNat % 64))
      (if bit then a else F32.neg a, hold)
    else (0, hold)
  | _ => (0, hold)

/-- What a job's blocks come to. -/
structure LeResult where
  /-- signals written, newest first -/
  sigs : List (Nat × Nat)
  /-- state words written -/
  words : List (Nat × Nat)
  /-- committed regulator outputs, by block -/
  hand : List (Nat × Nat)
  /-- modes run, by block -/
  autos : List (Nat × Bool)
  /-- numeric events -/
  numeric : Nat
  /-- capture samples: set, values -/
  caps : List (Nat × List Nat)
  deriving DecidableEq, Repr

/-- How a regulator runs (R159, R160): MANUAL; preset from MVAL after MANUAL; else from the other engine's hand-over word
under ADOPT; else from U1 after a takeover mark; else AUTO. -/
def regMode (s : State) (e x b : Nat) (k : Le.Block) (auto adopt : Bool) (st : Nat → Nat) : Le.RegMode :=
  if !auto then .manual
  else if (s.le x).lastAuto.any (fun a => a.1 == b && !a.2) then .presetMval
  else if adopt then .preset (sparseGet (s.le e).hoOther b 0)
  else if (s.le x).marks.contains b then .preset (st (Le.u1Index k))
  else .auto

/-- One block of a job (R140, R151). -/
def leBlock (s : State) (e x : Nat) (img : Le.Img) (r : LeRun) (c : Le.Ctx) (adopt : Bool) (a : LeResult) (b : Nat) : LeResult :=
  let k := Le.block img b
  let sig (i : Nat) : Nat := if i = 254 then F32.one else if i = 255 then 0 else sparseGet a.sigs i (s.leSig x i)
  let q (i : Nat) : Nat := Le.word img (k.poff + i)
  let st (i : Nat) : Nat := Le.word img (k.soff + i)
  if k.type = 0x11 then
    if s.on (Reg.LE_CAP_CFG_EN e k.size) && !s.on (Reg.LE_CAP_CFG_MODE e k.size) then
      let srcs := (List.range (s.capSigs e k.size)).map fun i =>
        if i < 4 then fieldOf (s.rd (Reg.LE_CAP_SRC_LO_SRC e k.size)) (8 * i) 8
        else fieldOf (s.rd (Reg.LE_CAP_SRC_HI_SRC e k.size)) (8 * (i - 4)) 8
      { a with caps := a.caps ++ [(k.size, srcs.map sig)] }
    else a
  else
    let auto := hasBit r.modes b
    let g := s.injection e k q st c.t
    let res := Le.run k (s.regMode e x b k auto adopt st) c sig q st g
    let ok := Le.finite res
    let outs := if ok then res.1 else (List.range (Le.nouts k)).map fun i => sig (k.out + i)
    let a := { a with sigs := ((List.range outs.length).map fun i => (k.out + i, nth outs i 0)) ++ a.sigs,
                      numeric := if ok then a.numeric else a.numeric + 1 }
    let a := if ok then { a with words := a.words ++ (List.range res.2.length).map fun i => (k.soff + i, nth res.2 i 0) } else a
    if Le.isReg k then { a with hand := a.hand ++ [(b, nth outs 0 0)], autos := a.autos ++ [(b, auto)] } else a

/-- Everything a job computes (R151, R155, R160). -/
def leCompute (s : State) (e : Nat) (r : LeRun) : LeResult :=
  let x := r.job.owner
  let img := s.program e x
  let d := Le.jobDef img r.job.job
  let half := if d.phase then 2 else 1
  let first := !(s.le x).ran.contains r.job.job
  let adopt := (d.adopt && first) || (s.le x).adoptNext.contains r.job.job
  let c : Le.Ctx := { t := F32.ofRatio r.ticks 800000000, theta := F32.ofRatio r.thetaB turn,
                      lead := F32.ofRatio (r.inc * r.period) (2 ^ 48 * half),
                      delta := F32.ofRatio r.period (800000000 * half),
                      omega := F32.ofDyadic ((F32.toDyadic r.freq).mul ⟨F32.twoPi96, -96⟩) }
  (Le.jobBlocks img r.job.job).foldl (s.leBlock e x img r c adopt) ⟨r.inputs, [], [], [], 0, []⟩

/-- State words are written to the program and, where the other engine keeps a cover image, to that as well (R161). -/
def leWords (s : State) (e x : Nat) (ws : List (Nat × Nat)) : State :=
  let put (m : Le.Img) : Le.Img := ws.foldl (fun m w => bankSet m w.1 w.2) m
  if e = x then
    let s := s.setLeActive x (put (s.leActive x))
    s.when (s.on (Reg.LE_CTRL_COVER_EN (1 - x))) (fun s => s.setLe (1 - x) { s.le (1 - x) with cover := put (s.le (1 - x)).cover })
  else s.setLe e { s.le e with cover := put (s.le e).cover }

/-- The outputs of a job with their values (R145, R146). -/
def leOutputs (img : Le.Img) (job : Nat) (sig : Nat → Nat) : List (Nat × Nat × Nat × Nat) :=
  (Le.jobOuts img job).map fun n =>
    let m := Le.outMap img n
    (n, m.kind, m.pair, sig m.sig)

/-- A signal as a compare value in tD (R146): nearest, ties to even. -/
def compareOf (x period : Nat) : Nat :=
  ((F32.toDyadic (F32.clamp x 0 F32.one)).mul ⟨(period * 128 : Nat), 0⟩).roundEven.toNat

/-- Outputs are written: `LE_OUTn`, the compares, and the commit of every cluster they name (R143, R146, R154). -/
def writeOutputs (s : State) (x : Nat) (outs : List (Nat × Nat × Nat × Nat)) (commit : Bool) : State :=
  let s := s.forEach outs (fun s o =>
    let s := s.wr (Reg.LE_OUT_VALUE x o.1) o.2.2.2
    let w := compareWord (compareOf o.2.2.2 (s.rd (Reg.CL_PERIOD_SHADOW (o.2.2.1 / 8))))
    if o.2.1 = 1 then s.pairShadowWrite o.2.2.1 .cmpA w
    else if o.2.1 = 2 then s.pairShadowWrite o.2.2.1 .cmpB w
    else s)
  let mask := outs.foldl (fun a o => if o.2.1 = 1 || o.2.1 = 2 then setBit a (o.2.2.1 / 8) else a) 0
  s.when commit (fun s => s.pwmCommit mask)

/-! ### Capture (R166, R167) -/

def cap (s : State) (e c : Nat) : LeCap := nth (s.le e).caps c {}
def setCap (s : State) (e c : Nat) (v : LeCap) : State := s.setLe e { s.le e with caps := setNth (s.le e).caps c v }

/-- Base and length of a set's region in words (R169). -/
def capRegion (s : State) (e c : Nat) : Nat × Nat :=
  let l := s.rd (Reg.LE_CAP_REGION_LEN e c)
  (s.rd (Reg.LE_CAP_REGION_BASE e c) * 256, (if l = 0 then 1024 else l) * 64)

/-- Words are written to the capture buffer; addresses past its 256 KiB do not exist. -/
def capWords (s : State) (a : Nat) (ws : List Nat) : State :=
  if a + 4 * ws.length ≤ 0x40000 then { s with capture := memWrite s.capture a (bytesOf ws) } else s

/-- Header word 1 of a region. -/
def capHeader1 (s : State) (e c : Nat) : Nat :=
  let k := s.cap e c
  let n := s.capSigs e c
  let (_, len) := s.capRegion e c
  Nat.min k.count (2 ^ 24 - 1) + b2n (!s.on (Reg.LE_CAP_CFG_MODE e c) && (len - 4) / Nat.max 1 n < k.count) * 2 ^ 24
    + b2n k.truncated * 2 ^ 25 + n % 16 * 2 ^ 28

/-- One sample of a set is written, with the header (R167). RUN regions are rings. -/
def capSample (s : State) (e c : Nat) (vals : List Nat) : State :=
  let k := s.cap e c
  let (base, len) := s.capRegion e c
  let n := Nat.max 1 vals.length
  let fit := (len - 4) / n
  if fit = 0 then s
  else
    let idx := k.count % fit
    let s := s.when (k.count == 0) (fun s =>
      let s := s.capWords base [s.rd Reg.ORB_FRAME_COUNT]
      s.capWords (base + 8) [s.rd Reg.ORB_EPOCH_EPOCH + 256 * e + 4096 * c,
        if s.on (Reg.LE_CAP_CFG_MODE e c) then s.rd (Reg.LE_CAP_CFG_PER e c) else 0])
    let s := s.capWords (base + 16 + 4 * n * idx) vals
    let s := s.setCap e c { k with count := k.count + 1 }
    s.capWords (base + 4) [s.capHeader1 e c]

/-- A burst is cut short: its header marks the block truncated (R92, R166). -/
def capTruncate (s : State) (e c : Nat) : State :=
  let s := s.setCap e c { s.cap e c with truncated := true, burst := none }
  s.capWords ((s.capRegion e c).1 + 4) [s.capHeader1 e c]

/-- A capture operation arms its set (R95, R166). -/
def burstArm (s : State) (slot : Nat) (o : OrbOp) : State :=
  let e := o.arga % 2
  let c := fieldOf o.arga 8 4
  let n := o.argb % 65536
  if s.on (Reg.LE_CAP_CFG_EN e c) && s.on (Reg.LE_CAP_CFG_MODE e c) && 0 < n then
    s.setCap e c { count := 0, truncated := false, burst := some (slot, n) }
  else s.retire slot

/-- The live value of an input-map entry (R166). -/
def burstValue (s : State) (e i : Nat) : Nat := s.inputValue e (Le.inMap (s.leActive e) (i % 64))

/-- One sample of a burst; the last one retires the operation, and one that would pass the region stops it (R166). -/
def burstSample (s : State) (e c : Nat) : State :=
  match (s.cap e c).burst with
  | none => s
  | some (slot, left) =>
    let n := s.capSigs e c
    let (_, len) := s.capRegion e c
    if len < 4 + n * ((s.cap e c).count + 1) then (s.capTruncate e c).retire slot
    else
      let vals := (List.range n).map fun i => s.burstValue e (
        if i < 4 then fieldOf (s.rd (Reg.LE_CAP_SRC_LO_SRC e c)) (8 * i) 8
        else fieldOf (s.rd (Reg.LE_CAP_SRC_HI_SRC e c)) (8 * (i - 4)) 8)
      let s := s.capSample e c vals
      if left ≤ 1 then (s.setCap e c { s.cap e c with burst := none }).retire slot
      else s.setCap e c { s.cap e c with burst := some (slot, left - 1) }

/-! ### Job end (R140, R154, R158 to R160) -/

/-- The committed regulator outputs go to the hand-over tables of both engines (R160). -/
def handOver (s : State) (e : Nat) (hs : List (Nat × Nat)) : State :=
  s.forEach hs (fun s h =>
    let s := s.wr (Reg.LE_HANDOVER_VALUE e h.1) h.2
    s.setLe (1 - e) { s.le (1 - e) with hoOther := bankSet (s.le (1 - e)).hoOther h.1 h.2 })

/-- The run marks of a job after its end (R151, R159, R160, R163). -/
def leMarks (s : State) (x : Nat) (r : LeRun) (a : LeResult) : State :=
  let v := s.le x
  let j := r.job.job
  s.setLe x { v with ran := if v.ran.contains j then v.ran else j :: v.ran,
                     lastAuto := a.autos ++ v.lastAuto.filter (fun p => !a.autos.any (fun q => q.1 == p.1)),
                     marks := v.marks.filter (fun b => !a.hand.any (fun h => h.1 == b)),
                     tlast := (j, r.boundary) :: v.tlast.filter (fun t => t.1 != j),
                     adoptNext := v.adoptNext.filter (· != j),
                     injFirst := List.replicate 4 false }

/-- A numeric event for each block that ended in one (R140). -/
def leNumeric (s : State) (e n : Nat) : State :=
  s.forEach (List.range n) (fun s _ =>
    (s.flagRaise (Reg.LE_FLAGS_NUMERIC e) Ev.LE_NUMERIC).incSat (Reg.LE_NUMERIC_COUNT_COUNT e))

/-- A running job ends (R158): state, signals and hand-over become current in one step; a FULL job writes its outputs and
retires, a PHASE job holds them for its WTICK. -/
def leEnd (s : State) (e : Nat) (r : LeRun) : State :=
  let x := r.job.owner
  let img := s.program e x
  let j := r.job.job
  let d := Le.jobDef img j
  let a := s.leCompute e r
  let undo := a.words.map fun w => (w.1, Le.word img w.1)
  let sigs := a.sigs.reverse
  let s := s.leNumeric e a.numeric
  let s := s.forEach sigs (fun s w => s.wr (Reg.LE_SIG_VALUE x w.1) w.2)
  let s := (s.leWords e x a.words).handOver e a.hand
  let s := s.leMarks x r a
  let s := s.wr (Reg.LE_JOBSTAT_CYCLES x j) (Le.jobCost img (s.capSigs x) j)
  let s := (s.wr (Reg.LE_JOBSTAT_TAG x j) r.job.tag).wr (Reg.LE_JOBSTAT_EPOCH x j) r.job.epoch
  let s := s.forEach a.caps (fun s c => s.capSample e c.1 c.2)
  let s := s.when d.evt (fun s => s.raise (if e = 0 then Ev.LE0_JOB_END else Ev.LE1_JOB_END))
  let s := s.setLe e { s.le e with run := none }
  let outs := leOutputs img j (s.leSig x)
  let s :=
    if d.phase then s.setLe e { s.le e with held := (s.le e).held ++ [⟨r.job, outs, d.cmt, undo⟩] }
    else (s.writeOutputs x outs d.cmt).retire r.job.slot
  s.leNext e

/-- A PHASE job writes its held outputs at WTICK and retires (R154). -/
def lePhaseWrite (s : State) (e slot : Nat) : State :=
  match (s.le e).held.find? (fun h => h.job.slot == slot) with
  | none => s
  | some h =>
    let s := s.setLe e { s.le e with held := (s.le e).held.filter (fun h => h.job.slot != slot) }
    (s.writeOutputs h.job.owner h.outs h.commit).retire slot

/-- A running PHASE job has not ended by its WTICK (R157): it writes nothing, and its operation retires. -/
def leMissed (s : State) (e : Nat) : State :=
  match (s.le e).run with
  | none => s
  | some r =>
    if (Le.jobDef (s.program e r.job.owner) r.job.job).phase then
      let s := s.setLe e { s.le e with run := none }
      let s := (s.flagRaise (Reg.LE_FLAGS_MISSED_WRITE e) Ev.LE_MISSED_WRITE).incSat (Reg.LE_MISSED_COUNT_COUNT e)
      (s.retire r.job.slot).leNext e
    else s

/-- Jobs cancelled at a boundary (R90, R158): queued, running and held ones; a held job's state words revert. -/
def leBoundaryOf (s : State) (e : Nat) : State :=
  let v := s.le e
  let n := v.queue.length + (if v.run.isSome then 1 else 0) + v.held.length
  let s := s.setLe e { v with queue := [], run := none, held := [] }
  let s := s.forEach v.held.reverse (fun s h => s.leWords e h.job.owner h.undo)
  let s := s.forEach (List.range 16) (fun s c => if (s.cap e c).burst.isSome then s.capTruncate e c else s)
  (s.addSat (Reg.LE_CANCEL_COUNT_COUNT e) n).wr (Reg.LE_STATUS_JOB e) 0x3F

def leBoundary (s : State) : State := (s.leBoundaryOf 0).leBoundaryOf 1

/-! ### Faults, cover, states (R161 to R164) -/

def leFaultFld (e : Nat) : LeFaultKind → Fld
  | .ecc => Reg.LE_FLAGS_FAULT_ECC e
  | .parity => Reg.LE_FLAGS_FAULT_PAR e
  | .residue => Reg.LE_FLAGS_FAULT_RES e
  | .overrun => Reg.LE_FLAGS_FAULT_WDOG e

/-- An engine fault (R161, R162): the engine stops, its running job is treated as cancelled; the other engine covers from the
next boundary, or the module goes to the orderly safe state there. -/
def leFault (s : State) (e : Nat) (k : LeFaultKind) : State :=
  if s.leState e = leReady then
    let v := s.le e
    let s := s.setLe e { v with run := none, held := [] }
    let s := s.forEach v.held.reverse (fun s h => s.leWords e h.job.owner h.undo)
    let s := ((s.wr (leFaultFld e k) 1).wr (Reg.LE_STATUS_STATE e) leFaulted).wr (Reg.LE_STATUS_JOB e) 0x3F
    let s := s.raise Ev.LE_FAULT
    let y := 1 - e
    if s.on (Reg.LE_STATUS_COVER_READY y) && s.leState y = leReady && !s.on (Reg.LE_STATUS_COVERING e) then
      s.setLe y { s.le y with failover := true }
    else s.wantOrderly
  else s

/-- The failover of R161 at the boundary. -/
def coverFailover (s : State) (y : Nat) : State :=
  if (s.le y).failover && s.leState y = leReady then
    let s := s.setLe y { s.le y with failover := false }
    s.flagRaise (Reg.LE_STATUS_COVERING y) Ev.LE_COVER
  else s

/-- Engine memory is cleared (R164): banks, tables, queue and marks; an image that waited is gone. -/
def leClear (s : State) (e : Nat) : State :=
  let s := s.setLe e { (s.le e) with img0 := [], img1 := [], cover := [], hoOther := [], queue := [], run := none, held := [],
                                     ran := [], lastAuto := [], marks := [], tlast := [], accepted := false, adoptNext := [] }
  let s := s.clearRegs (leBase e + 0x6000) (leBase e + 0x6500)
  let s := (s.wr (Reg.LE_STATUS_LOAD_BUSY e) 0).wr (Reg.LE_STATUS_JOB e) 0x3F
  { s with cross := (if e = 0 then { s.cross with loadLe0 := .idle } else { s.cross with loadLe1 := .idle }) }

/-- Self-test starts (R163, R164). -/
def leTest (s : State) (e : Nat) : State := ((s.leClear e).wr (Reg.LE_STATUS_STATE e) leSelftest).coverUpdate (1 - e)

/-- `EN` written 1 (R164). -/
def leEnable (s : State) (e : Nat) : State :=
  let s := s.wr (Reg.LE_CTRL_EN e) 1
  if s.leState e = leOff then s.leTest e else s

/-- `EN` written 0 (R164): ignored while jobs run or the engine covers. -/
def leDisable (s : State) (e : Nat) : State :=
  let v := s.le e
  let busy := v.run.isSome || !v.queue.isEmpty || !v.held.isEmpty || s.on (Reg.LE_STATUS_COVERING e)
  if s.leState e = leOff then s.wr (Reg.LE_CTRL_EN e) 0
  else if s.leState e = leSelftest || !busy then
    let s := (s.wr (Reg.LE_CTRL_EN e) 0).wr (Reg.LE_STATUS_STATE e) leOff
    let s := (s.setLe e { s.le e with accepted := false }).wr (Reg.LE_STATUS_LOAD_BUSY e) 0
    (s.coverUpdate e).coverUpdate (1 - e)
  else s

/-- A self-test finishes (R164, R168). -/
def leTestDone (s : State) (e : Nat) (pass : Bool) : State :=
  if s.leState e = leSelftest then
    if pass then s.wr (Reg.LE_STATUS_STATE e) leEmpty
    else ((s.wr (Reg.LE_STATUS_STATE e) leFaulted).wr (Reg.LE_FLAGS_SELFTEST_FAIL e) 1).raise Ev.LE_FAULT
  else s

/-- `LE_CMD.RETURN` (R163): engine `x` has been reloaded while the other covers it. -/
def leReturn (s : State) (x : Nat) : State :=
  if s.leState x = leReady && s.on (Reg.LE_STATUS_COVERING (1 - x)) then s.setLe x { s.le x with returning := true } else s

/-- The return at a boundary (R163). -/
def leReturnApply (s : State) (x : Nat) : State :=
  if (s.le x).returning then
    let s := s.setLe x { s.le x with returning := false, adoptNext := List.range (Le.njob (s.leActive x)) }
    let s := (s.wr (Reg.LE_STATUS_COVERING (1 - x)) 0).raise Ev.LE_COVER
    (s.coverUpdate (1 - x)).coverUpdate x
  else s

/-- Every regulator under pair reference is marked at a takeover boundary (R160). -/
def takeoverMark (s : State) (e : Nat) : State :=
  let m := s.leActive e
  let bs := (List.range (Le.nblk m)).filter fun b => (Le.block m b).pref && Le.isReg (Le.block m b)
  if s.leState e = leReady || s.leState e = leFaulted then s.setLe e { s.le e with marks := bs } else s

/-! ### Injection arming (R165) -/

/-- `LE_INJi` is written. -/
def injWrite (s : State) (e i : Nat) (arm : Bool) (frames : Nat) : State :=
  let was := s.on (Reg.LE_INJ_ARM e i)
  let s := (s.wr (Reg.LE_INJ_ARM e i) (b2n arm)).wr (Reg.LE_INJ_FRAMES e i) frames
  let s := s.wr (Reg.LE_INJ_BUSY e i) (b2n arm)
  if arm && !was then
    s.setLe e { s.le e with injStart := setNth (s.le e).injStart i (s.rd Reg.ORB_FRAME_COUNT),
                            injFirst := setNth (s.le e).injFirst i true }
  else s

/-- FRAMES frames have run (R165). -/
def injEnd (s : State) (e i : Nat) : State :=
  let n := s.rd (Reg.LE_INJ_FRAMES e i)
  let k := (s.rd Reg.ORB_FRAME_COUNT + turn - nth (s.le e).injStart i 0) % turn
  if s.on (Reg.LE_INJ_BUSY e i) && n != 0 && n ≤ k then (s.wr (Reg.LE_INJ_ARM e i) 0).wr (Reg.LE_INJ_BUSY e i) 0 else s

/-- A write to the inactive image window: ignored while LOAD_BUSY = 1 (R169). -/
def imgInactWrite (s : State) (e index value : Nat) : State :=
  if s.on (Reg.LE_STATUS_LOAD_BUSY e) then s else s.setLeInactive e (bankSet (s.leInactive e) index value)

/-- `LE_CNT_CLR` (R169). -/
def leCntClr (s : State) (e mask : Nat) : State :=
  let s := s.when (hasBit mask 0) (fun s => s.wr (Reg.LE_ECC_COUNT_COUNT e) 0)
  let s := s.when (hasBit mask 1) (fun s => s.wr (Reg.LE_CANCEL_COUNT_COUNT e) 0)
  let s := s.when (hasBit mask 2) (fun s => s.wr (Reg.LE_MISSED_COUNT_COUNT e) 0)
  s.when (hasBit mask 3) (fun s => s.wr (Reg.LE_NUMERIC_COUNT_COUNT e) 0)

end State

/-- LE_JOB_START (R149, R158): the issued job of a slot reaches its engine. -/
def execLeJobStart (slot : Nat) (s : State) : Out :=
  .next (match s.opOf? slot 2 with
    | some o => s.leIssue slot o
    | none => s)

/-- LE_JOB_END (R158). -/
def execLeJobEnd (e : Nat) (s : State) : Out :=
  .next (match (s.le e).run with
    | some r => if e < 2 then s.leEnd e r else s
    | none => s)

/-- LE_PHASE_WRITE (R154). -/
def execLePhaseWrite (e slot : Nat) (s : State) : Out := .next (if e < 2 then s.lePhaseWrite e slot else s)

/-- LE_MISSED_WRITE (R157). -/
def execLeMissedWrite (e : Nat) (s : State) : Out := .next (if e < 2 then s.leMissed e else s)

/-- LE_OVERRUN_FAULT (R162): a job exceeds its cost by 16 cycles. -/
def execLeOverrunFault (e : Nat) (s : State) : Out :=
  .next (if e < 2 && (s.le e).run.isSome then s.leFault e .overrun else s)

/-- LE_FAULT (R162). -/
def execLeFault (e : Nat) (kind : LeFaultKind) (s : State) : Out := .next (if e < 2 then s.leFault e kind else s)

/-- LE_COVER_FAILOVER (R161): engine `y` takes over the other's jobs at the boundary. -/
def execLeCoverFailover (y : Nat) (s : State) : Out := .next (if y < 2 then s.coverFailover y else s)

/-- LE_CMD_SWAP (R148): ignored while LOAD_BUSY = 1 (R52). -/
def execLeCmdSwap (m : Master) (e : Nat) (s : State) : Out :=
  .next (if e < 2 then s.access m (State.leBase e + 0x18) .cr (fun s =>
    if s.on (Reg.LE_STATUS_LOAD_BUSY e) then s else s.leCheck e) else s)

/-- LE_BANK_SWITCH (R148). -/
def execLeBankSwitch (e : Nat) (s : State) : Out := .next (if e < 2 then s.leSwitch e else s)

/-- LE_ENABLE (R164). -/
def execLeEnable (m : Master) (e : Nat) (s : State) : Out :=
  .next (if e < 2 then s.access m (State.leBase e) .cr (fun s => s.leEnable e) else s)

/-- LE_DISABLE (R164). -/
def execLeDisable (m : Master) (e : Nat) (s : State) : Out :=
  .next (if e < 2 then s.access m (State.leBase e) .cr (fun s => s.leDisable e) else s)

/-- LE_SELFTEST_DONE (R164). -/
def execLeSelftestDone (e : Nat) (pass : Bool) (s : State) : Out := .next (if e < 2 then s.leTestDone e pass else s)

/-- LE_SELFTEST_CMD (R163, R164): from FAULT. -/
def execLeSelftestCmd (m : Master) (e : Nat) (s : State) : Out :=
  .next (if e < 2 then s.access m (State.leBase e + 0x18) .cr (fun s =>
    if s.leState e = State.leFaulted then s.leTest e else s) else s)

/-- LE_RETURN_CMD (R163). -/
def execLeReturnCmd (m : Master) (e : Nat) (s : State) : Out :=
  .next (if e < 2 then s.access m (State.leBase e + 0x18) .cr (fun s => s.leReturn e) else s)

/-- LE_RETURN_APPLY (R163). -/
def execLeReturnApply (e : Nat) (s : State) : Out := .next (if e < 2 then s.leReturnApply e else s)

/-- LE_INJ_ARM (R165): a write of `LE_INJi`, i from 0 to 3. -/
def execLeInjArm (m : Master) (e i : Nat) (arm : Bool) (frames : Nat) (s : State) : Out :=
  .next (if e < 2 && i < 4 then s.access m (State.leBase e + 0x300 + 4 * i) .cr (fun s => s.injWrite e i arm frames) else s)

/-- LE_INJ_END (R165). -/
def execLeInjEnd (e i : Nat) (s : State) : Out := .next (if e < 2 && i < 4 then s.injEnd e i else s)

/-- CAPTURE_BURST_ARM (R166): by the issued capture operation of a slot. -/
def execCaptureBurstArm (slot : Nat) (s : State) : Out :=
  .next (match s.opOf? slot 4 with
    | some o => s.burstArm slot o
    | none => s)

/-- CAPTURE_BURST_SAMPLE (R166). -/
def execCaptureBurstSample (e c : Nat) (s : State) : Out := .next (if e < 2 && c < 16 then s.burstSample e c else s)

/-- LE_CNT_CLR (R169). -/
def execLeCntClr (m : Master) (e mask : Nat) (s : State) : Out :=
  .next (if e < 2 then s.access m (State.leBase e + 0x40) .cr (fun s => s.leCntClr e mask) else s)

/-- LE_IMG_INACT_WRITE (R169): word `index` of the inactive image, 0 to 2047. -/
def execLeImgInactWrite (m : Master) (e index value : Nat) (s : State) : Out :=
  .next (if e < 2 && index < 2048 then s.access m (State.leBase e + 0x2000 + 4 * index) .cr (fun s =>
    s.imgInactWrite e index value) else s)

end Sys2Proof.Machine
end

