-- ==== Sys2Proof/Machine/GridSupport.lean ====
section
/-! DEFINITION. Machine/GridSupport.lean: grid support (R267 to R282, R292 to R295). Every operation on binary32 values is
rounded separately in the written order (DESIGN CHOICE, notes/assumptions 25). -/

namespace Sys2Proof.Machine

namespace State

abbrev gsOff : Nat := 0
abbrev gsNormal : Nat := 1
abbrev gsLvrt : Nat := 2
abbrev gsHvrt : Nat := 3
abbrev gsZvrt : Nat := 4
abbrev gsRecover : Nat := 5
abbrev gsTripped : Nat := 6

def gsState (s : State) : Nat := s.rd Reg.GS_STATUS_STATE

/-- The ride-through states (R275). -/
def gsRiding (st : Nat) : Bool := st == gsLvrt || st == gsHvrt || st == gsZvrt || st == gsRecover

/-! ### Profile (R268, R269) -/

/-- Word `i` of the active tables. -/
def prof (s : State) (i : Nat) : Nat := s.rd (Reg.GS_PROF_ACT_WORD i)

/-- Strictly ascending numbers, and strictly ascending binary32 values. -/
def ascNat : List Nat → Bool
  | a :: b :: r => decide (a < b) && ascNat (b :: r)
  | _ => true
def ascF32 : List Nat → Bool
  | a :: b :: r => F32.lt a b && ascF32 (b :: r)
  | _ => true

/-- An image passes the checks of R269. -/
def profileOk (ws : List Nat) : Bool :=
  let w (i : Nat) : Nat := nth ws i 0
  let nlv := fieldOf (w 1) 16 5
  let nhv := fieldOf (w 1) 21 5
  let nvv := fieldOf (w 1) 26 4
  let t (base n : Nat) : List Nat := (List.range n).map fun i => w (base + 2 * i)
  let pf := F32.abs (w 20)
  ws.length == 128 && fieldOf (w 0) 0 16 == 0x4750 && fieldOf (w 0) 16 8 == 1
  && decide (1 ≤ nlv) && decide (nlv ≤ 20) && decide (1 ≤ nhv) && decide (nhv ≤ 20) && decide (4 ≤ nvv) && decide (nvv ≤ 8)
  && ([4, 5, 6, 8, 9, 10, 11] ++ (List.range 12).map (14 + ·)).all (fun i => F32.isFinite (w i))
  && (t 33 nlv ++ t 73 nhv ++ t 112 nvv ++ t 113 nvv).all F32.isFinite
  && F32.gt (w 4) 0 && F32.gt (w 5) 0 && F32.inRange (w 6) (F32.ofNat 40) (F32.ofNat 72)
  && decide (1 ≤ w 12) && decide (w 12 ≤ 1000) && decide (w 13 ≤ 150)
  && F32.inRange pf (F32.lit 8 10) F32.one && F32.inRange (w 21) (F32.lit 1 10) (F32.ofNat 90)
  && w 32 == 0 && w 72 == 0 && ascNat (t 32 nlv) && ascNat (t 72 nhv) && ascF32 (t 112 nvv)
  && F32.gt (w 9) (w 8) && F32.lt (w 11) (w 10)

/-- A profile image is complete (R52, R269): accepted, it waits for its switch; refused, the active tables stay. -/
def profileLoaded (s : State) (ws : List Nat) : State :=
  if profileOk ws then
    { s with gs := { s.gs with profWait := some ws, deferred := false }, cross := { s.cross with loadProfile := .waiting } }
  else
    let s := { s with cross := { s.cross with loadProfile := .idle } }
    (s.wr Reg.GS_STATUS_PROF_PEND 0).flagRaise Reg.GS_FLAGS_PROFILE_ERR Ev.GS_PROFILE

/-- The switch at a boundary (R269): a deferred one waits for NORMAL or OFF. -/
def profileSwitch (s : State) : State :=
  match s.gs.profWait with
  | none => s
  | some ws =>
    let st := s.gsState
    if gsRiding st || (s.gs.deferred && st != gsNormal && st != gsOff) then s
    else
      let s := { s with gs := { s.gs with profWait := none, deferred := false }, cross := { s.cross with loadProfile := .idle } }
      let s := s.forEach (List.range 128) (fun s i => s.wr (Reg.GS_PROF_ACT_WORD i) (nth ws i 0))
      let s := (s.wr Reg.GS_STATUS_PROFILE_OK 1).wr Reg.GS_STATUS_PROFILE_ID (fieldOf (nth ws 1 0) 0 16)
      (s.wr Reg.GS_STATUS_PROF_PEND 0).raise Ev.GS_PROFILE

/-! ### Measures (R267, R273) -/

/-- The magnitude √(a² + b²). -/
def hyp (a b : Nat) : Nat := F32.sqrt (F32.add (F32.mul a a) (F32.mul b b))

/-- A phase voltage in per unit: its code scaled (R77). -/
def phaseVolt (s : State) (n : Nat) : Nat :=
  let w := s.rd (Reg.SAR_LATEST_WORD (s.rd (Reg.ORB_VSRC_SAR n)) (s.rd (Reg.ORB_VSRC_CHAN n)))
  F32.mul (F32.ofInt (toSigned 16 (w % 65536))) (s.rd (Reg.ORB_VSCALE_SCALE n))

/-- One sample of V_F before its average: the amplitude-invariant Clarke magnitude of the raw phases. -/
def vFast (s : State) : Nat :=
  let a := s.phaseVolt 0
  let b := s.phaseVolt 1
  let c := s.phaseVolt 2
  hyp (F32.div (F32.sub (F32.sub (F32.mul (F32.ofNat 2) a) b) c) (F32.ofNat 3)) (F32.div (F32.sub b c) (F32.sqrt (F32.ofNat 3)))

/-- The mean of a list of values. -/
def meanOf (l : List Nat) : Nat := F32.div (l.foldl F32.add 0) (F32.ofNat l.length)

/-- The three phase fundamental magnitudes, from V+, V− and their angles. -/
def phaseMags (s : State) : List Nat :=
  let p := s.vPlus
  let n := s.rd Reg.ORB_VNEG_MAG_VALUE
  let d := turn / 2 + 3 * turn - s.rd Reg.ORB_VNEG_ANG_THETA - s.rd Reg.ORB_ANGLE_THETA - s.orbit.phaseErr % turn
  [0, 2 * turn / 3, turn / 3].map fun k =>
    F32.sqrt (F32.add (F32.add (F32.mul p p) (F32.mul n n)) (F32.mul (F32.mul (F32.mul (F32.ofNat 2) p) n) (F32.cosTurn ((d + k) % turn))))

def vF (s : State) : Nat := s.rd Reg.GS_VF_VALUE
def vLo (s : State) : Nat := s.rd Reg.GS_VLO_VALUE
def vHi (s : State) : Nat := s.rd Reg.GS_VHI_VALUE

/-- The measures of a sample, and the mean of V+ over complete turns (R267, R274). -/
def gsMeasure (s : State) : State :=
  let ring := (s.vFast :: s.gs.vfRing).take 8
  let mags := s.phaseMags
  let lo := mags.tail.foldl F32.min (mags.headD 0)
  let hi := mags.tail.foldl F32.max (mags.headD 0)
  let ang := s.gs.turnAngle + s.sampleTravel
  let sum := F32.add s.gs.turnSum s.vPlus
  let n := s.gs.turnCount + 1
  let g := { s.gs with vfRing := ring }
  let g := if turn * 65536 ≤ ang then { g with turnAngle := 0, turnSum := 0, turnCount := 0, turnMean := some (F32.div sum (F32.ofNat n)) }
    else { g with turnAngle := ang, turnSum := sum, turnCount := n }
  let s := { s with gs := g }
  ((s.wr Reg.GS_VF_VALUE (meanOf ring)).wr Reg.GS_VLO_VALUE lo).wr Reg.GS_VHI_VALUE hi

/-- The value of a ride-through curve at t (R276): points of (ms, pu) from word `base`, elapsed time in µs. -/
def curveAt (s : State) (base n us : Nat) (linear : Bool) : Nat :=
  let ts := (List.range n).map fun i => s.prof (base + 2 * i)
  let k := (ts.filter fun t => decide (t * 1000 ≤ us)).length - 1
  let v := s.prof (base + 1 + 2 * k)
  if !linear || n ≤ k + 1 then v
  else
    let t0 := nth ts k 0
    let x := F32.div (F32.lit ((us : Int) - t0 * 1000) 1000) (F32.ofNat (nth ts (k + 1) 0 - t0))
    F32.add v (F32.mul (F32.sub (s.prof (base + 3 + 2 * k)) v) x)

/-- The run counts of R273, R275 and R276. -/
def gsRuns (s : State) : State :=
  let g := s.gs
  let st := s.gsState
  let us := g.elapsed
  let lvSel := if hasBit (s.prof 2) 2 then s.vLo else s.vPlus
  let hvSel := if hasBit (s.prof 2) 3 then s.vHi else s.vPlus
  let riding := st == gsLvrt || st == gsHvrt
  let lvBad := riding && F32.lt lvSel (s.curveAt 32 (fieldOf (s.prof 1) 16 5) us (hasBit (s.prof 2) 0))
  let hvBad := riding && F32.gt hvSel (s.curveAt 72 (fieldOf (s.prof 1) 21 5) us (hasBit (s.prof 2) 1))
  let exit := (st == gsLvrt && F32.ge s.vF (s.prof 9) && F32.ge s.vLo (s.prof 9)) || (st == gsHvrt && F32.le s.vHi (s.prof 11))
  { s with gs := { g with
    lvF := runOf 20 (F32.lt s.vF (s.prof 8)) g.lvF, lvLo := runOf 5 (F32.lt s.vLo (s.prof 8)) g.lvLo,
    hvF := runOf 20 (F32.gt s.vF (s.prof 10)) g.hvF, hvHi := runOf 5 (F32.gt s.vHi (s.prof 10)) g.hvHi,
    exitRun := runOf 100001 exit g.exitRun, lvBad := runOf 2 lvBad g.lvBad, hvBad := runOf 2 hvBad g.hvBad } }

def lvEntry (s : State) : Bool := 20 ≤ s.gs.lvF || 5 ≤ s.gs.lvLo
def hvEntry (s : State) : Bool := 20 ≤ s.gs.hvF || 5 ≤ s.gs.hvHi

/-! ### References (R277 to R281) -/

/-- What a current limit comes to: the four references and whether a clamp acted. -/
structure LimitOut where
  refs : List Nat
  hit : Bool
  deriving DecidableEq, Repr

/-- The current limit (R279); `reactive` gives iq first. -/
def currentLimit (imax : Nat) (reactive : Bool) (r : List Nat) : LimitOut :=
  let id := nth r 0 0
  let iq := nth r 1 0
  let nd := nth r 2 0
  let nq := nth r 3 0
  let first := if reactive then iq else id
  let f := F32.clamp first (F32.neg imax) imax
  let n := hyp nd nq
  let room := F32.sub imax (F32.abs f)
  let cut := F32.lt room n
  let n' := if cut then room else n
  let scale (x : Nat) : Nat := if cut then F32.div (F32.mul x room) n else x
  let rest := F32.sub imax n'
  let root := F32.sqrt (F32.max (F32.sub (F32.mul rest rest) (F32.mul f f)) 0)
  let other := if reactive then id else iq
  let o := F32.clamp other (F32.neg root) root
  { refs := if reactive then [o, f, scale nd, scale nq] else [f, o, scale nd, scale nq], hit := f != first || cut || o != other }

/-- The references are limited, and ILIMIT follows. -/
def gsLimit (s : State) (reactive : Bool) (r : List Nat) : List Nat × State :=
  let o := currentLimit (s.prof 5) reactive r
  (o.refs, s.wr Reg.GS_STATUS_ILIMIT (b2n o.hit))

/-- The sample time T = 10 µs (R280). -/
abbrev gsT : Nat := F32.lit 1 100000

/-- p_fw and p_lim of R280. -/
def powers (s : State) : Nat × Nat :=
  let sr := s.prof 4
  let pAvail := s.rd (Reg.REF_SP_VALUE (s.rd Reg.GS_CTRL_PAVAIL_SP))
  let pSet := F32.div (s.rd (Reg.REF_SP_VALUE 2)) sr
  let pCap := F32.div (F32.min (s.rd (Reg.REF_SP_VALUE 4)) pAvail) sr
  let f := s.rd Reg.ORB_FREQ_VALUE
  let fn := s.prof 6
  let above := F32.max (F32.sub f (F32.add fn (s.prof 22))) 0
  let under := F32.max (F32.sub (F32.sub fn (s.prof 23)) f) 0
  let part (x k : Nat) : Nat := if F32.isZero x then 0 else F32.div x (F32.mul fn k)
  let dfw := if s.on Reg.GS_CTRL_FW_EN then F32.add (F32.neg (part above (s.prof 24))) (part under (s.prof 25)) else 0
  let top := F32.div pAvail sr
  (F32.clamp (F32.add (F32.min pSet pCap) dfw) 0 top, F32.clamp (F32.add pCap (F32.min dfw 0)) 0 top)

/-- The Volt-VAr target (R281). -/
def voltVar (s : State) : Nat :=
  let n := fieldOf (s.prof 1) 26 4
  let v := s.vPlus
  let vs := (List.range n).map fun j => s.prof (112 + 2 * j)
  let k := (vs.filter fun x => F32.le x v).length
  if k = 0 then s.prof 113
  else if n ≤ k then s.prof (111 + 2 * n)
  else
    let v0 := nth vs (k - 1) 0
    let q0 := s.prof (111 + 2 * k)
    let x := F32.div (F32.sub v v0) (F32.sub (nth vs k 0) v0)
    F32.add q0 (F32.mul (F32.sub (s.prof (113 + 2 * k)) q0) x)

/-- The reactive power of a sample (R281). -/
def reactive (s : State) (p : Nat) : Nat :=
  match s.rd Reg.GS_CTRL_Q_MODE with
  | 0 => F32.div (s.rd (Reg.REF_SP_VALUE 3)) (s.prof 4)
  | 1 =>
    let pf := F32.abs (s.prof 20)
    let t := F32.div (F32.sqrt (F32.sub F32.one (F32.mul pf pf))) pf
    let q := F32.mul (F32.abs p) t
    if F32.neg? (s.prof 20) then F32.neg q else q
  | _ =>
    let q := s.gs.q
    F32.add q (F32.mul (F32.sub s.voltVar q) (F32.div gsT (s.prof 21)))

/-- The floor of V+ in R280. -/
def vDiv (s : State) : Nat := F32.max s.vPlus (F32.lit 1 10)

/-- The references of NORMAL (R280). -/
def gsNormalRefs (s : State) : State :=
  let (pfw, plim) := s.powers
  let p := s.gs.p
  let up := F32.lt p pfw
  let rr := if s.gs.firstRamp then s.prof 19 else s.prof 17
  let p' :=
    if !s.on Reg.GS_CTRL_RAMP_EN then pfw
    else if up then F32.min pfw (F32.add p (F32.mul rr gsT))
    else F32.max pfw (F32.min plim (F32.sub p (F32.mul (s.prof 18) gsT)))
  let q := s.reactive p'
  let s := { s with gs := { s.gs with p := p', q := q, pfw := pfw, firstRamp := s.gs.firstRamp && p' != pfw } }
  let (r, s) := s.gsLimit (s.on Reg.GS_CTRL_PRIO) [F32.div p' s.vDiv, F32.div q s.vDiv, 0, 0]
  { s with gs := { s.gs with out := r } }

/-- i− of ride-through in the frame rotated by −θ (R277): magnitude K_NEG × V−, lagging V− by a quarter turn. -/
def negRefs (s : State) : Nat × Nat :=
  if s.on Reg.GS_CTRL_NEG_EN then
    let m := F32.mul (s.prof 15) (s.rd Reg.ORB_VNEG_MAG_VALUE)
    let a := (s.rd Reg.ORB_VNEG_ANG_THETA + s.rd Reg.ORB_ANGLE_THETA) % turn
    (F32.neg (F32.mul m (F32.sinTurn a)), F32.mul m (F32.cosTurn a))
  else (0, 0)

/-- ΔIq of ride-through (R277, R278). -/
def deltaIq (s : State) (st : Nat) : Nat :=
  let on := if st = gsZvrt then s.on Reg.GS_CTRL_ZV_MODE else s.on Reg.GS_CTRL_RT_MODE
  if !on then 0
  else
    let vm := if st = gsZvrt then 0 else if s.gs.entryAngle < turn * 65536 then F32.min s.vPlus s.vF else s.vPlus
    F32.mul (s.prof 14) (F32.sub (s.rd Reg.GS_VPRE_VALUE) vm)

/-- RECOVER moves id* towards the NORMAL target at RR_REC (R277). -/
def recoverStep (s : State) (target : Nat) : Nat :=
  let d := F32.mul (s.prof 16) gsT
  let i := s.gs.idRec
  if F32.lt i target then F32.min (F32.add i d) target else F32.max (F32.sub i d) target

/-- The references of ride-through (R277, R278), and the return to NORMAL (R275). DEDUCED (notes/assumptions 36). -/
def gsRideRefs (s : State) (st : Nat) : State :=
  let on := if st = gsZvrt then s.on Reg.GS_CTRL_ZV_MODE else s.on Reg.GS_CTRL_RT_MODE
  let diq := s.deltaIq st
  let iq := if on then F32.add diq s.gs.iqPre else 0
  let (nd, nq) := if on then s.negRefs else (0, 0)
  let (pfw, _) := s.powers
  let target := F32.div pfw s.vDiv
  let rec_ := st == gsRecover
  let s := s.when rec_ (fun s => { s with gs := { s.gs with idRec := s.recoverStep target } })
  let id := if rec_ then s.gs.idRec else if on && !s.on Reg.GS_CTRL_PHOLD then s.gs.idHold else 0
  let (r, s) := s.gsLimit (s.on Reg.GS_CTRL_RT_PRIO) [id, iq, nd, nq]
  let hold := if !rec_ && F32.lt (F32.abs (nth r 0 0)) (F32.abs id) then nth r 0 0 else s.gs.idHold
  let s := { s with gs := { s.gs with out := r, idHold := hold, pfw := pfw } }
  if rec_ && id == target && F32.lt (F32.abs diq) (F32.lit 1 100) then
    State.raise (State.wr { s with gs := { s.gs with p := pfw } } Reg.GS_STATUS_STATE gsNormal) Ev.GS_RT_EXIT
  else s

/-! ### States (R274, R275, R282) -/

/-- The abnormal-grid line (R290). -/
def abnormalLine (s : State) (b : Bool) : State := { s with safety := { s.safety with sf1 := putBit s.safety.sf1 0 b } }

def gsSet (s : State) (st : Nat) : State :=
  let s := s.wr Reg.GS_STATUS_STATE st
  let s := s.when (st != gsNormal) (fun s => s.wr Reg.GS_STATUS_HOLD 0)
  s.when (st == gsOff || st == gsTripped) (fun s => s.wr Reg.GS_STATUS_ILIMIT 0)

/-- A ride-through state is entered (R274, R275): from NORMAL or RECOVER V_PRE and id_PRE are latched. `restart` starts t.
DEDUCED: V_PRE (notes/assumptions 35). -/
def gsEnter (s : State) (st : Nat) (restart : Bool) : State :=
  let from_ := s.gsState
  let s := s.when (from_ == gsNormal || from_ == gsRecover) (fun s =>
    let s := s.wr Reg.GS_VPRE_VALUE (s.gs.turnMean.getD s.vPlus)
    { s with gs := { s.gs with idHold := nth s.gs.out 0 0, entryAngle := 0,
                               iqPre := if from_ = gsNormal then nth s.gs.out 1 0 else s.gs.iqPre } })
  let s := s.when restart (fun s => State.wr { s with gs := { s.gs with elapsed := 0 } } Reg.GS_ELAPSED_US 0)
  let s := { s with gs := { s.gs with exitRun := 0, lvBad := 0, hvBad := 0, entries := satInc max16 s.gs.entries } }
  (s.gsSet st).raise Ev.GS_RT_ENTER

/-- TRIPPED (R275, R290). -/
def gsTrip (s : State) (cause : Nat) : State :=
  let s := { s with gs := { s.gs with out := [0, 0, 0, 0] } }
  let s := (s.wr Reg.GS_TRIP_CAUSE_CAUSE cause).gsSet gsTripped
  (s.flagRaise Reg.GS_FLAGS_TRIP Ev.GS_TRIP).abnormalLine true

/-- A confirmed entry (R273, R275, R291). -/
def rtEnter (s : State) (e : RtEntry) : State :=
  let st := s.gsState
  let fly := s.orbState == orbFlywheel
  let lv := s.lvEntry
  let hv := s.hvEntry
  let seen := match e with
    | .lv => lv
    | .hv => hv
    | .zv => fly
  let target := match e with
    | .zv => gsZvrt
    | .lv => gsLvrt
    | .hv => if lv then gsLvrt else gsHvrt
  if !seen then s
  else if st = gsNormal || st = gsRecover then
    if s.on Reg.GS_CTRL_RT_EN then s.gsEnter target true else s.gsTrip 8
  else if st = gsLvrt && e == .zv && s.on Reg.GS_CTRL_RT_EN then s.gsEnter gsZvrt false
  else if st = gsLvrt && e == .hv && !lv then s.gsEnter gsHvrt true
  else if st = gsHvrt && e == .lv then s.gsEnter gsLvrt true
  else s

/-- The exit condition has held for EXIT_HOLD (R275). -/
def exitHold (s : State) : State :=
  let st := s.gsState
  if (st = gsLvrt || st = gsHvrt) && 100 * s.prof 12 < s.gs.exitRun && s.gs.lvBad < 2 && s.gs.hvBad < 2 then
    State.gsSet { s with gs := { s.gs with idRec := nth s.gs.out 0 0 } } gsRecover
  else s

/-- A curve is violated (R276). -/
def curveTrip (s : State) : State :=
  let st := s.gsState
  let c := b2n (2 ≤ s.gs.lvBad) + 2 * b2n (2 ≤ s.gs.hvBad)
  if (st = gsLvrt || st = gsHvrt) && c != 0 then s.gsTrip c else s

/-- ZVRT ends by its time or by the fly limit (R275). -/
def zvTimeout (s : State) : State :=
  if s.gsState = gsZvrt && (s.prof 13 * 1000 < s.gs.elapsed || s.on Reg.ORB_STATUS_FLYLIMIT) then s.gsTrip 4 else s

/-- Grid support is enabled (R275, R280, R294): ramps start from the current references. -/
def gsEnable (s : State) : State :=
  let was := s.on Reg.GS_CTRL_EN
  let s := s.wr Reg.GS_CTRL_EN 1
  let s := s.when (!was) (fun s => { s with gs := { s.gs with firstRamp := true, entries := 0 } })
  let st := s.orbState
  if s.gsState = gsOff && s.on Reg.GS_STATUS_PROFILE_OK && (st = orbLocked || st = orbFollow) then
    let v := s.vDiv
    State.gsSet { s with gs := { s.gs with p := F32.mul (nth s.gs.out 0 0) v, q := F32.mul (nth s.gs.out 1 0) v } } gsNormal
  else s

/-- Grid support is disabled (R275). -/
def gsDisable (s : State) : State :=
  let s := s.wr Reg.GS_CTRL_EN 0
  if s.gsState = gsOff then s
  else State.abnormalLine (State.gsSet { s with gs := { s.gs with out := [0, 0, 0, 0] } } gsOff) false

/-- Orbit leaves lock, but not for FLYWHEEL, in NORMAL (R282); it resumes on LOCKED or FOLLOW. -/
def gsHold (s : State) : State :=
  let st := s.orbState
  if s.gsState = gsNormal then s.wr Reg.GS_STATUS_HOLD (b2n (st != orbLocked && st != orbFollow && st != orbFlywheel)) else s

/-! ### The sample and the boundary (R272) -/

/-- t and the angle since entry move on by one sample while a ride-through lasts. -/
def gsTime (s : State) : State :=
  if gsRiding s.gsState then
    let us := s.gs.elapsed + 10
    State.wr { s with gs := { s.gs with elapsed := us, entryAngle := s.gs.entryAngle + s.sampleTravel } } Reg.GS_ELAPSED_US
      (Nat.min us max32)
  else s

/-- ZVRT goes to LVRT when Orbit leaves FLYWHEEL by its own voltage (R275). -/
def zvLeave (s : State) : State :=
  if s.gsState = gsZvrt && s.orbState != orbFlywheel && !s.on Reg.ORB_STATUS_FLYLIMIT then s.gsEnter gsLvrt false else s

/-- The references of the present state. -/
def gsRefs (s : State) : State :=
  let st := s.gsState
  if st = gsNormal then if s.on Reg.GS_STATUS_HOLD then s else s.gsNormalRefs
  else if gsRiding st then s.gsRideRefs st
  else s

/-- One sample of grid support at a tick (R272). -/
def gsSample (s : State) (tick : Nat) : State :=
  let s := { s with gs := { s.gs with prev := s.gs.out, tick := some tick } }
  (((s.gsMeasure.gsTime).gsRuns).zvLeave.gsHold).gsRefs

/-- The references of the last sample that completed at least 2 µs (1600 tB) before the boundary are latched; a profile that
waits is deferred by a ride-through (R269, R272). -/
def gsBoundary (s : State) : State :=
  let late := match s.gs.tick with
    | some t => decide (s.frameLen < t + 1600)
    | none => false
  { s with gs := { s.gs with latched := if late then s.gs.prev else s.gs.out, latchDue := true, tick := none,
                             deferred := s.gs.deferred || (s.gs.profWait.isSome && gsRiding s.gsState) } }

/-- The value written to a routed reference (R271). -/
def gsRouted (s : State) (o : Nat) : Nat :=
  let v := F32.mul (nth s.gs.latched o 0) (s.rd (Reg.GS_GAIN_VALUE o))
  if s.on (Reg.GS_ROUTE_NEG o) then F32.neg v else v

/-- The latched references are written (R271, R272). -/
def gsWrite (s : State) : State :=
  if s.gs.latchDue then
    let s := { s with gs := { s.gs with latchDue := false } }
    s.forEach (List.range 4) (fun s o =>
      let s := s.wr (Reg.GS_OUT_VALUE o) (nth s.gs.latched o 0)
      if s.on (Reg.GS_ROUTE_EN o) then
        s.wr (Reg.LE_REF_VALUE (s.rd (Reg.GS_ROUTE_ENG o)) (s.rd (Reg.GS_ROUTE_REF o))) (s.gsRouted o)
      else s)
  else s

/-- A loop-engine reference is owned by grid support (R271). -/
def gsOwns (s : State) (e r : Nat) : Bool :=
  (List.range 4).any fun o => s.on (Reg.GS_ROUTE_EN o) && s.rd (Reg.GS_ROUTE_ENG o) == e && s.rd (Reg.GS_ROUTE_REF o) == r

/-- Tap source 6 (R293); none where the index names no item. -/
def gsTap? (s : State) (i : Nat) : Option Nat :=
  match i with
  | 0 | 1 | 2 | 3 => some (nth s.gs.out i 0)
  | 4 => some (F32.mul s.gs.p (s.prof 4))
  | 5 => some (F32.mul s.gs.q (s.prof 4))
  | 6 => some (F32.min (s.rd (Reg.REF_SP_VALUE 4)) (F32.mul s.gs.pfw (s.prof 4)))
  | 7 => some s.vF
  | 8 => some (F32.ofNat s.gsState)
  | _ => none

/-- Digest word 9 (R294). -/
def gsDigest (s : State) : Nat :=
  s.gsState + 8 * s.rd Reg.GS_STATUS_PROFILE_OK + 16 * s.rd Reg.GS_STATUS_ILIMIT
    + 256 * Nat.min 255 (s.gs.elapsed / 10000) + 65536 * Nat.min max16 s.gs.entries

end State

end Sys2Proof.Machine
end

