-- ==== Sys2Proof/Machine/Eclipse.lean ====
section
/-! DEFINITION. Machine/Eclipse.lean: Eclipse islanding detection (R283 to R291, R294, R296), and the commands of grid support,
each of which suspends Eclipse where grid support leaves NORMAL (R285). -/

namespace Sys2Proof.Machine

namespace State

/-- The island line (R290). -/
def islandLine (s : State) (b : Bool) : State := { s with safety := { s.safety with sf1 := putBit s.safety.sf1 1 b } }

/-- A decision sets ISLAND and its cause; `EE_ISLAND` is raised where ISLAND was clear (R284, R287, R291). -/
def eeIsland (s : State) (cause : Nat) : State :=
  let was := s.on Reg.EE_STATUS_ISLAND
  let s := ((s.setB Reg.EE_CAUSE_CAUSE cause).wr Reg.EE_STATUS_ISLAND 1).islandLine true
  if was then s else s.raise Ev.EE_ISLAND

/-! ### Passive detection (R283, R284) -/

/-- A detector is blocked by a ride-through (R284). -/
def eeBlocked (s : State) (det : Nat) : Bool :=
  let st := s.gsState
  if det = 0 || det = 1 || det = 5 then gsRiding st else if det = 2 || det = 3 || det = 4 then st == gsZvrt else false

/-- The threshold condition of a detector at the last sample. -/
def eeCond (s : State) (det : Nat) : Bool :=
  match det with
  | 0 => F32.lt s.vLo (s.rd Reg.EE_UV_TH_VALUE)
  | 1 => F32.gt s.vHi (s.rd Reg.EE_OV_TH_VALUE)
  | 2 => F32.lt (s.rd Reg.ORB_FREQ_VALUE) (s.rd Reg.EE_UF_TH_VALUE)
  | 3 => F32.gt (s.rd Reg.ORB_FREQ_VALUE) (s.rd Reg.EE_OF_TH_VALUE)
  | 4 => F32.gt (F32.abs (s.rd Reg.ORB_ROCOF_VALUE)) (s.rd Reg.EE_ROCOF_TH_VALUE)
  | 5 => s.ee.vsNow
  | 6 => (s.rd Reg.CMP_OUT_OUT &&& s.rd Reg.EE_CMP_MASK_WIN) != 0
  | _ => false

/-- A detector is on. -/
def eeEnabled (s : State) (det : Nat) : Bool := s.on Reg.EE_CTRL_PASSIVE_EN && hasBit (s.rd Reg.EE_PEN_EN) det

/-- Consecutive samples that a detector needs: its time in ms, 0 for 2 samples, and one for an immediate detector. -/
def eeNeed (s : State) (det : Nat) : Nat :=
  let t :=
    match det with
    | 0 => s.rd Reg.EE_PTIME_UV_T
    | 1 => s.rd Reg.EE_PTIME_OV_T
    | _ => s.rd Reg.EE_PTIME_F_T
  if 4 < det then 1 else if t = 0 then 2 else 100 * t + 1

/-- The passive detectors take a sample. -/
def eeSample (s : State) : State :=
  let span := 2 ^ 31 * 65536 / Nat.max 1 s.sampleTravel + 1
  let err := s.orbit.phaseErr
  let hist := (err :: s.ee.vsHist).take span
  let vs := hist.any fun e => decide (s.rd Reg.EE_VS_TH_THETA < angMag (angSub err e))
  let s := { s with ee := { s.ee with vsHist := hist, vsNow := vs } }
  let act (d : Nat) : Bool := s.eeEnabled d && !s.eeBlocked d && s.eeCond d
  let runs := (List.range 5).map fun d => runOf 25501 (act d) (nth s.ee.runs d 0)
  let tripped := (bitsOf 7 s.ee.tripped).foldl (fun a d => if act d then setBit a d else a) 0
  { s with ee := { s.ee with runs := runs, tripped := tripped } }

/-- A passive detector trips (R283, R284). -/
def eePassive (s : State) (det : Nat) : State :=
  let seen := s.eeCond det && (4 < det || s.eeNeed det ≤ nth s.ee.runs det 0)
  if det < 7 && s.eeEnabled det && !s.eeBlocked det && seen && !hasBit s.ee.tripped det then
    let s := State.wr { s with ee := { s.ee with tripped := setBit s.ee.tripped det } } Reg.EE_STATUS_PASSIVE 1
    (s.raise Ev.EE_PASSIVE).eeIsland det
  else s

/-! ### Injection (R285, R289) -/

/-- The amplitude entry of the data port (R55, R285). -/
def eeAmplitude (s : State) (v : Nat) : State := s.dataPortPut (s.rd Reg.EE_INJ_SP) v (s.rd Reg.ORB_TICK_TICK)

/-- The running window is discarded. -/
def eeDiscard (s : State) : State :=
  { s with ee := { s.ee with seg := List.replicate 16 {}, segs := [], sincePub := 0, zabsRun := 0, zrelRun := 0, drop := false } }

/-- The injection is disarmed with amplitude 0. -/
def eeDisarm (s : State) : State :=
  if s.on Reg.EE_STATUS_INJECTING then ((s.wr Reg.EE_STATUS_INJECTING 0).eeDiscard).eeAmplitude 0 else s

/-- Grid support leaves NORMAL (R285). -/
def eeSuspend (s : State) : State :=
  if s.on Reg.EE_CTRL_ACTIVE_EN then s.eeDisarm.wr Reg.EE_STATUS_SUSPENDED 1 else s

/-- The frame counter of the first injected frame. -/
def eeArmed (s : State) (k0 : Nat) : State :=
  ((s.wr Reg.EE_K0_FRAME k0).wr Reg.EE_STATUS_INJECTING 1).wr Reg.EE_STATUS_SUSPENDED 0

/-- At a segment start in NORMAL the injection is armed (R285, R289): a secondary takes the primary's sequence. -/
def eeArm (s : State) : State :=
  if s.on Reg.EE_STATUS_INJECTING then s
  else if s.rd Reg.ORB_GROUP_ROLE = 2 then
    match s.ee.bcast with
    | some (n, fpb, seed, k0) =>
      if s.orbState = orbFollow && !s.ee.groupLost then
        let s := (s.wr Reg.EE_INJ_N n).wr Reg.EE_INJ_FPB fpb
        (s.wr Reg.EE_SEED_SEED seed).eeArmed k0
      else s
    | none => s
  else
    let s := s.eeArmed (s.rd Reg.ORB_FRAME_COUNT + 64)
    { s with ee := { s.ee with bcastDue := true } }

/-! ### Estimation (R286, R287) -/

/-- One frame's records enter the sums of every bin. -/
def eeSum (s : State) (th v i : Nat) : List EeBin :=
  let a := F32.turnUnits th
  (List.range 16).map fun b =>
    let x := nth s.ee.seg b {}
    let ang := s.rd (Reg.EE_BIN_H2 b) * a / 2 % turn
    let c := F32.cosTurn ang
    let n := F32.sinTurn ang
    { vr := F32.add x.vr (F32.mul v c), vi := F32.sub x.vi (F32.mul v n),
      ir := F32.add x.ir (F32.mul i c), ii := F32.sub x.ii (F32.mul i n) }

/-- A tap record reaches Eclipse (R286). -/
def eeRecord (s : State) (r : TapRecord) : State :=
  if !s.on Reg.EE_STATUS_INJECTING then s
  else
    let mine (f : Fld) : Bool := s.rd f == r.chan
    let e := s.ee
    let put (f : Fld) (o : Option Nat) : Option Nat := if mine f && !r.invalid then some r.value else o
    let bad := r.invalid && (mine Reg.EE_SRC_TH || mine Reg.EE_SRC_V || mine Reg.EE_SRC_I)
    let e := { e with recTh := put Reg.EE_SRC_TH e.recTh, recV := put Reg.EE_SRC_V e.recV, recI := put Reg.EE_SRC_I e.recI,
                      drop := e.drop || bad }
    match e.recTh, e.recV, e.recI with
    | some th, some v, some i =>
      if e.summed then { s with ee := e } else { s with ee := { e with summed := true, seg := s.eeSum th v i } }
    | _, _, _ => { s with ee := e }

/-- The Eclipse part of a boundary: a record that has not come is missing (R286). -/
def eeBoundary (s : State) : State :=
  let e := s.ee
  { s with ee := { e with drop := e.drop || (s.on Reg.EE_STATUS_INJECTING && !e.summed), summed := false,
                          recTh := none, recV := none, recI := none } }

/-- What a bin comes to: |Z|, its angle, γ². -/
structure EeEst where
  z : Nat
  ang : Nat
  gamma : Nat
  deriving DecidableEq, Repr

/-- S_vi, S_ii and S_vv of a bin over the window. -/
def eeSums (segs : List (List EeBin)) (b : Nat) : Nat × Nat × Nat × Nat :=
  segs.foldl (fun (re, im, ii, vv) seg =>
    let x := nth seg b {}
    (F32.add re (F32.add (F32.mul x.vr x.ir) (F32.mul x.vi x.ii)), F32.add im (F32.sub (F32.mul x.vi x.ir) (F32.mul x.vr x.ii)),
     F32.add ii (F32.add (F32.mul x.ir x.ir) (F32.mul x.ii x.ii)), F32.add vv (F32.add (F32.mul x.vr x.vr) (F32.mul x.vi x.vi))))
    (0, 0, 0, 0)

/-- One bin's estimate (R286). Where a denominator is 0 the spec states no value: three free values. -/
def eeEstimate (s : State) (b : Nat) : EeEst × State :=
  let (re, im, ii, vv) := eeSums s.ee.segs b
  if F32.isZero ii || F32.isZero vv then
    let (z, s) := s.takeFree
    let (a, s) := s.takeFree
    let (g, s) := s.takeFree
    (⟨z % 2 ^ 32, a % 65536, g % 2 ^ 32⟩, s)
  else
    (⟨F32.div (hyp re im) ii, F32.atan2Units re im,
      F32.div (F32.add (F32.mul re re) (F32.mul im im)) (F32.mul vv ii)⟩, s)

/-- All 16 bins. -/
def eeEstimates (s : State) : List EeEst × State :=
  (List.range 16).foldl (fun (l, s) b => let (e, s) := s.eeEstimate b; (l ++ [e], s)) ([], s)

/-- Z_D: the mean over the decision bins whose γ² qualifies; none where too few do (R287). -/
def eeZd (s : State) (es : List EeEst) : Option Nat :=
  let q := (List.range 16).filter fun b =>
    hasBit (s.rd Reg.EE_WIN_ZMASK) b && F32.ge (nth es b ⟨0, 0, 0⟩).gamma (s.rd Reg.EE_GAMMA_MIN_VALUE)
  if q.length < s.rd Reg.EE_WIN_ZMIN_BINS || q.isEmpty then none
  else some (meanOf (q.map fun b => (nth es b ⟨0, 0, 0⟩).z))

/-- The two rules for a Z_D (R287). -/
def eeAbsHit (s : State) (zd : Nat) : Bool := s.on Reg.EE_CTRL_ZTH_EN && F32.gt zd (s.rd Reg.EE_ZTH_VALUE)
def eeRelHit (s : State) (zd : Nat) : Bool :=
  s.on Reg.EE_CTRL_ZREL_EN && s.on Reg.EE_STATUS_BASELINE_OK && F32.gt zd (F32.mul (s.rd Reg.EE_ZREL_VALUE) (s.rd Reg.EE_BASE_VALUE))

/-- The decision at a segment end. -/
def eeDecide (s : State) (zd : Option Nat) : State :=
  match zd with
  | none => State.wr { s with ee := { s.ee with zabsRun := 0, zrelRun := 0 } } Reg.EE_FLAGS_LOWCOH 1
  | some z =>
    let a := runOf 3 (s.eeAbsHit z) s.ee.zabsRun
    let r := runOf 3 (s.eeRelHit z) s.ee.zrelRun
    let s := State.wr { s with ee := { s.ee with zabsRun := a, zrelRun := r } } Reg.EE_ZD_VALUE z
    let n := s.rd Reg.EE_WIN_DCONF
    let s := s.when (a != 0 && decide (n ≤ a)) (fun s => s.eeIsland 7)
    s.when (r != 0 && decide (n ≤ r)) (fun s => s.eeIsland 8)

/-- An estimate is published, and joins the baseline where it met neither rule. -/
def eePublish (s : State) (es : List EeEst) (zd : Option Nat) : State :=
  let s := s.forEach (List.range 16) (fun s b =>
    let e := nth es b ⟨0, 0, 0⟩
    let s := (s.wr (Reg.EE_Z_VALUE b) e.z).wr (Reg.EE_ZANG_ANG b) e.ang
    s.wr (Reg.EE_ZANG_GAMMA b) (F32.toInt (F32.mul (F32.clamp e.gamma 0 F32.one) (F32.ofNat 65535))).toNat)
  let s := s.incSat Reg.EE_STATUS_ESTIMATES
  let s := match zd with
    | none => s
    | some z =>
      if s.eeAbsHit z || s.eeRelHit z then s
      else
        let b := (z :: s.ee.base).take 8
        let s := { s with ee := { s.ee with base := b } }
        if b.length = 8 then (s.wr Reg.EE_STATUS_BASELINE_OK 1).wr Reg.EE_BASE_VALUE (meanOf b) else s
  State.raise { s with ee := { s.ee with sincePub := 0 } } Ev.EE_ESTIMATE

/-- A complete segment enters the window (R286, R287). DEDUCED (notes/assumptions 38). -/
def eeSegment (s : State) : State :=
  let n := s.rd Reg.EE_WIN_WSEG
  let e := s.ee
  let s := { s with ee := { e with segs := (e.seg :: e.segs).take n, seg := List.replicate 16 {}, sincePub := e.sincePub + 1 } }
  if s.ee.segs.length < n then s
  else
    let (es, s) := s.eeEstimates
    let zd := s.eeZd es
    let s := s.eeDecide zd
    if n ≤ s.ee.sincePub then s.eePublish es zd else s

/-- A segment ends and the next begins (R285 to R287). -/
def eeSegmentEnd (s : State) : State :=
  let s :=
    if !s.on Reg.EE_STATUS_INJECTING then s
    else if s.ee.drop then s.eeDiscard.wr Reg.EE_FLAGS_SEG_DROP 1
    else s.eeSegment
  if s.on Reg.EE_CTRL_ACTIVE_EN && s.gsState == gsNormal then
    let s := s.eeArm
    if s.on Reg.EE_STATUS_INJECTING then s.eeAmplitude (F32.mul (s.rd Reg.EE_AMP_VALUE) (s.rd Reg.EE_AMP_GAIN_VALUE)) else s
  else s

/-- `EE_CMD.CLEAR` (R290). -/
def eeClear (s : State) : State :=
  let held := (List.range 7).any fun d => s.eeEnabled d && hasBit s.ee.tripped d
  if held then s.wr Reg.EE_FLAGS_CLEAR_REFUSED 1
  else (((s.wr Reg.EE_STATUS_ISLAND 0).wr Reg.EE_STATUS_PASSIVE 0).wr Reg.EE_CAUSE_CAUSE 0).islandLine false

/-- `EE_CMD.REBASE`. -/
def eeRebase (s : State) : State :=
  (State.wr { s with ee := { s.ee with base := [] } } Reg.EE_STATUS_BASELINE_OK 0).wr Reg.EE_BASE_VALUE 0

/-- A secondary leaves FOLLOW (R289). -/
def eeGroupLoss (s : State) : State :=
  let s := s.eeDisarm
  let s := s.when (s.on Reg.EE_CTRL_ACTIVE_EN) (fun s => s.wr Reg.EE_STATUS_SUSPENDED 1)
  State.flagRaise { s with ee := { s.ee with groupLost := true, bcast := none } } Reg.EE_FLAGS_GROUP_LOST Ev.EE_GROUP

/-- A broadcast of the primary arrives (R289); in FOLLOW it ends a loss of the group. -/
def eeBroadcast (s : State) (n fpb seed k0 : Nat) : State :=
  let s := { s with ee := { s.ee with bcast := some (n, fpb, seed, k0) } }
  if s.ee.groupLost && s.orbState == orbFollow then State.raise { s with ee := { s.ee with groupLost := false } } Ev.EE_GROUP else s

/-- A takeover between pairs (R291): the segment that holds its boundary is dropped. -/
def eeTakeover (s : State) : State := { s with ee := { s.ee with drop := true } }

/-- Digest word 10 (R294): Z_D in 10 mΩ, saturating. -/
def eeDigest (s : State) : Nat :=
  let z := (F32.toInt (F32.mul (s.rd Reg.EE_ZD_VALUE) (F32.ofNat 100))).toNat
  s.rd Reg.EE_STATUS_ISLAND + 2 * s.rd Reg.EE_STATUS_PASSIVE + 4 * s.rd Reg.EE_STATUS_INJECTING + 8 * s.rd Reg.EE_STATUS_SUSPENDED
    + 16 * s.rd Reg.EE_CAUSE_CAUSE + 65536 * Nat.min max16 z

/-- An operation of grid support, after which Eclipse is suspended where NORMAL was left (R285). -/
def gsThen (s : State) (f : State → State) : State :=
  let t := f s
  if s.gsState == gsNormal && t.gsState != gsNormal then t.eeSuspend else t

end State

/-- GS_EXIT_HOLD (R275). -/
def execGsExitHold (s : State) : Out := .next s.exitHold

/-- GS_REFERENCE_WRITE (R272): at the boundary + 2 tB. -/
def execGsReferenceWrite (s : State) : Out := .next s.gsWrite

/-- GS_ENABLE (R275). -/
def execGsEnable (m : Master) (s : State) : Out := .next (s.access m 0x40008000 .cr State.gsEnable)

/-- EE_PASSIVE_TRIP (R283, R284): detector by its bit of `EE_PEN`. -/
def execEePassiveTrip (det : Nat) (s : State) : Out := .next (s.eePassive det)

/-- EE_SEGMENT_END (R286, R287): at a valley of carrier 0, every two turns. -/
def execEeSegmentEnd (s : State) : Out := .next s.eeSegmentEnd

/-- EE_CLEAR (R290). -/
def execEeClear (m : Master) (s : State) : Out := .next (s.access m 0x40080010 .dr State.eeClear)

/-- EE_REBASE (R296). -/
def execEeRebase (m : Master) (s : State) : Out := .next (s.access m 0x40080010 .dr State.eeRebase)

end Sys2Proof.Machine
end

