-- ==== Sys2Proof/Machine/Comet.lean ====
section
/-! DEFINITION. Machine/Comet.lean: Comet links and satellites (R340 to R373). Link l has the number of its first lane. Masks of lanes
name lanes of the module. -/

namespace Sys2Proof.Machine

namespace State

abbrev linkDisabled : Nat := 0
abbrev linkTraining : Nat := 1
abbrev linkMeasure : Nat := 2
abbrev linkUp : Nat := 3
abbrev linkDegraded : Nat := 4
abbrev linkTest : Nat := 5

abbrev laneOff : Nat := 0
abbrev laneTrain : Nat := 1
abbrev laneConfig : Nat := 2
abbrev laneReady : Nat := 3
abbrev laneActive : Nat := 4
abbrev laneTest : Nat := 5

def linkState (s : State) (l : Nat) : Nat := s.rd (Reg.LINK_STATUS_STATE l)
def laneState (s : State) (k : Nat) : Nat := s.rd (Reg.LANE_STATUS_STATE k)
def link (s : State) (l : Nat) : CmtLink := nth s.cmt.links l {}
def lane (s : State) (k : Nat) : CmtLane := nth s.cmt.lanes k {}
def setLink (s : State) (l : Nat) (v : CmtLink) : State := { s with cmt := { s.cmt with links := setNth s.cmt.links l v } }
def setLane (s : State) (k : Nat) (v : CmtLane) : State := { s with cmt := { s.cmt with lanes := setNth s.cmt.lanes k v } }
def cmtCfgErr (s : State) : State := s.wr Reg.COMET_FLAGS_CFG_ERR 1

/-- The link carries traffic. -/
def linkRuns (s : State) (l : Nat) : Bool := s.linkState l == linkUp || s.linkState l == linkDegraded

/-! ### Lanes and links (R340, R344 to R346) -/

/-- A link's width is allowed to it (R340). -/
def widthOk (l w : Nat) : Bool := decide (w ≤ 2) && l % 2 ^ w == 0 && decide (l + 2 ^ w ≤ 4)

/-- The lanes of a link of width code `w`. -/
def lanesOf (l w : Nat) : List Nat := (List.range (2 ^ w)).map (l + ·)

/-- The lanes of a link as configured. -/
def linkLanes (s : State) (l : Nat) : List Nat := lanesOf l (s.rd (Reg.LINK_CFG_WIDTH l))

/-- The link that a lane belongs to: the nearest configured link that covers it. -/
def linkOf (s : State) (k : Nat) : Nat :=
  (((List.range (k + 1)).reverse).find? fun l => widthOk l (s.rd (Reg.LINK_CFG_WIDTH l)) && (s.linkLanes l).contains k).getD k

/-- An enabled link would share a lane with another, or have a width it is not allowed (R340). -/
def linkClash (s : State) (l : Nat) : Bool :=
  !widthOk l (s.rd (Reg.LINK_CFG_WIDTH l)) ||
    (List.range 4).any fun j => j != l && s.on (Reg.LINK_CFG_EN j) && (s.linkLanes j).any fun k => (s.linkLanes l).contains k

def lanePresent (s : State) (k : Nat) : Bool := hasBit (s.rd Reg.COMET_CTRL_LANE_EN) k

/-- A lane starts training: taps from 0, nothing measured (R344, R349). -/
def laneTrains (s : State) (k : Nat) : State :=
  let s := (s.wr (Reg.LANE_STATUS_STATE k) laneTrain).wr (Reg.LANE_STATUS_LOCK k) 0
  let s := ((s.wr (Reg.LANE_TAPS_T1 k) 0).wr (Reg.LANE_TAPS_T2 k) 0).wr (Reg.LANE_TAPS_T3 k) 0
  s.setLane k { s.lane k with probing := false, measured := false, latNext := none, readyHere := false, readyFar := false, backDue := none }

/-- A lane goes to OFF. -/
def laneStops (s : State) (k : Nat) : State :=
  let s := (s.wr (Reg.LANE_STATUS_STATE k) laneOff).wr (Reg.LANE_STATUS_LOCK k) 0
  s.setLane k { s.lane k with probing := false, measured := false, latNext := none, readyHere := false, readyFar := false,
                              lostDue := none, backDue := none }

/-- The active lanes of a link, as a mask. -/
def activeMask (s : State) (l : Nat) : Nat := s.rd (Reg.LINK_STATUS_ACTIVE l)
def activeLanes (s : State) (l : Nat) : List Nat := bitsOf 4 (s.activeMask l)

/-- What a link holds while it carries no traffic. -/
def linkClears (s : State) (l : Nat) : State :=
  let s := (s.wr (Reg.LINK_STATUS_ACTIVE l) 0).wr (Reg.LINK_STATUS_DEGRADED l) 0
  let s := (s.wr (Reg.LINK_STATUS_SHED l) 0).wr (Reg.LINK_STATUS_SAFE1 l) 0
  s.setLink l { s.link l with bnd := none, idle := false, queue := [], safeSeen := [], marker := none, tunnel := [] }

/-- `LINK_CFG.EN` is written 1 (R346). -/
def linkEnable (s : State) (l : Nat) : State :=
  if s.on (Reg.LINK_CFG_EN l) then s
  else if s.linkClash l || s.linkState l != linkDisabled then s.cmtCfgErr
  else
    let s := (s.wr (Reg.LINK_CFG_EN l) 1).wr (Reg.LINK_STATUS_STATE l) linkTraining
    s.forEach (s.linkLanes l) (fun s k =>
      if s.lanePresent k && s.laneState k == laneOff && s.rd (Reg.LANE_CFG_PAT k) == 0 then s.laneTrains k else s)

/-- `LINK_CFG.EN` is written 0 (R346). -/
def linkDisable (s : State) (l : Nat) : State :=
  let s := s.wr (Reg.LINK_CFG_EN l) 0
  if s.linkState l = linkDisabled || s.linkState l = linkTest then s
  else
    let s := (s.wr (Reg.LINK_STATUS_STATE l) linkDisabled).linkClears l
    (s.wr (Reg.LINK_STATUS_VERSION l) 0).forEach (s.linkLanes l) laneStops

/-- A link leaves UP or DEGRADED for TRAINING (R346, R369). -/
def linkDown (s : State) (l : Nat) : State :=
  let s := ((s.wr (Reg.LINK_STATUS_STATE l) linkTraining).linkClears l).wr (Reg.LINK_STATUS_VERSION l) 0
  s.raise (Ev.CMT_DOWN l)

/-- The version of a link: the lower of the two highest, where each end supports it (R345). -/
def commonVersion (s : State) (l : Nat) : Option Nat :=
  let k := s.link l
  let v := Nat.min (s.rd Reg.COMET_VERSION_MAX) k.farMax
  if Nat.max (s.rd Reg.COMET_VERSION_MIN) (s.rd (Reg.LINK_CFG_MINVER l)) ≤ v && k.farMin ≤ v then some v else none

/-- TRAINING ends with a common version (R345, R346). -/
def linkMeasures (s : State) (l : Nat) : State :=
  match s.commonVersion l with
  | none => s.flagRaise Reg.COMET_FLAGS_VERSION_ERR Ev.CMT_VERSION
  | some v => (s.wr (Reg.LINK_STATUS_VERSION l) v).wr (Reg.LINK_STATUS_STATE l) linkMeasure

/-- The READY lanes of a link. -/
def readyLanes (s : State) (l : Nat) : List Nat := (s.linkLanes l).filter fun k => s.laneState k == laneReady

/-- Training sets (R344, R345). -/
def trainingSets (s : State) (k : Nat) (t : TrainSet) : State :=
  if 4 ≤ k || s.laneState k != laneTrain then s
  else
    let l := s.linkOf k
    if t.lane != k - l then s.cmtCfgErr
    else if !t.constant then s
    else
      let s := s.setLink l { s.link l with farMax := t.verMax, farMin := t.verMin }
      let s := (s.wr (Reg.LINK_PEER_ID l) t.ident).wr (Reg.LANE_STATUS_LOCK k) 1
      s.wr (Reg.LANE_STATUS_STATE k) laneConfig

/-- CONFIG ends (R344): probes go out; the last lane of the width ends TRAINING. -/
def laneConfigured (s : State) (k : Nat) : State :=
  if 4 ≤ k || s.laneState k != laneConfig then s
  else
    let l := s.linkOf k
    let s := (s.wr (Reg.LANE_STATUS_STATE k) laneReady).setLane k { s.lane k with probing := true, measured := false }
    if s.linkState l = linkTraining && (s.readyLanes l).length = (s.linkLanes l).length then s.linkMeasures l else s

/-- 1 ms after the first READY lane (R346). -/
def trainTimeout (s : State) (l : Nat) : State :=
  if l < 4 && s.linkState l == linkTraining && !(s.readyLanes l).isEmpty then s.linkMeasures l else s

/-- The latency limit of an active lane: 2.000 µs in tD (R344, R366). -/
abbrev latLimit : Nat := 204800

/-- A lane may be made active. -/
def laneFit (s : State) (k : Nat) : Bool :=
  s.laneState k == laneReady && (s.lane k).measured && decide (s.rd (Reg.LANE_LAT_TD k) ≤ latLimit)

/-! ### Packets (R354, R355, R364) -/

/-- A packet waits on a link that carries traffic. -/
def cmtQueue (s : State) (l : Nat) (p : CmtPacket) : State :=
  if s.linkRuns l then s.setLink l { s.link l with queue := (s.link l).queue ++ [p] } else s

/-- The latencies of a satellite link go to the satellite (R353, R359). -/
def sendLatency (s : State) (l : Nat) : State :=
  if s.rd (Reg.LINK_CFG_ROLE l) = 0 then
    s.cmtQueue l ⟨2, 0x25, 0, (s.linkLanes l).map fun k => s.rd (Reg.LANE_LAT_TD k)⟩
  else s

/-- Bytes that one lane provides in a frame: U of R364. -/
def laneBytes (s : State) : Nat :=
  let n := s.frameLen * 5 / 8
  n - 4 * ((n + 1023) / 1024) - 200

/-- The declared demand of a class; a SAFETY packet counts once per lane (R364). -/
def demand (s : State) (l w c : Nat) : Nat :=
  let d := if c % 2 = 0 then s.rd (Reg.LINK_DEMAND_CLS_LO l (c / 2)) else s.rd (Reg.LINK_DEMAND_CLS_HI l (c / 2))
  if c = 1 then w * d else d

/-- The sum of the demands that a shed set keeps. -/
def keptDemand (s : State) (l w shed : Nat) : Nat :=
  (List.range 8).foldl (fun a c => if hasBit shed c then a else a + s.demand l w c) 0

/-- The shed set: the first of the sets that grow in the order of R355 whose kept demand fits. -/
def shedSet (s : State) (l w cap : Nat) : Nat :=
  ([0x00, 0x80, 0xC0, 0xE0, 0xF0, 0xF8].find? fun m => decide (s.keptDemand l w m ≤ cap)).getD 0xF8

/-- Capacity and shedding are evaluated (R364). -/
def shedEvaluate (s : State) (l : Nat) : State :=
  if l < 4 && s.linkRuns l then
    let w := (s.activeLanes l).length
    let cap := w * s.laneBytes
    let m := s.shedSet l w cap
    let was := s.rd (Reg.LINK_STATUS_SHED l)
    let s := (s.wr (Reg.LINK_CAP_BYTES l) cap).wr (Reg.LINK_STATUS_SHED l) m
    if m = was then s else s.raise Ev.CMT_SHED
  else s

/-- At the boundary after measurement the link comes up (R345, R346). -/
def linkComesUp (s : State) (l : Nat) : State :=
  if 4 ≤ l || s.linkState l != linkMeasure || !(s.readyLanes l).all (fun k => (s.lane k).measured) then s
  else
    let v := s.rd (Reg.LINK_STATUS_VERSION l)
    let fit := (s.readyLanes l).filter s.laneFit
    let fit := if v < 0x11 then fit.take 1 else fit
    if fit.isEmpty then s
    else
      let s := s.forEach fit (fun s k => s.wr (Reg.LANE_STATUS_STATE k) laneActive)
      let s := s.wr (Reg.LINK_STATUS_ACTIVE l) (fit.foldl (fun a k => a + 2 ^ k) 0)
      let all := fit.length == (s.linkLanes l).length
      let s := (s.wr (Reg.LINK_STATUS_STATE l) (if all then linkUp else linkDegraded)).wr (Reg.LINK_STATUS_DEGRADED l) (b2n !all)
      let s := (s.raise (Ev.CMT_UP l)).when (!all) (fun s => s.raise (Ev.CMT_DEGRADED l))
      let s := s.when (s.rd (Reg.LINK_CFG_ROLE l) != 0 && decide (v < 0x20)) (fun s =>
        s.flagRaise Reg.COMET_FLAGS_PEER_VERSION Ev.CMT_VERSION)
      (s.sendLatency l).shedEvaluate l

/-- A peer link that carries markers, safety frames, shares and Eclipse broadcasts (R345). -/
def peerFull (s : State) (l : Nat) : Bool := s.linkRuns l && decide (0x20 ≤ s.rd (Reg.LINK_STATUS_VERSION l))

/-- The running downstream, or upstream, peer link. -/
def peerLink? (s : State) (role : Nat) : Option Nat :=
  (List.range 4).find? fun l => s.linkRuns l && s.rd (Reg.LINK_CFG_ROLE l) == role

/-- A packet of a shed class, or for a link that carries no traffic, is dropped and counted (R355). -/
def cmtDrop (s : State) (l : Nat) : State := s.incSat (Reg.LINK_SHED_PKT_COUNT l)

/-- The symbols of a packet, and the slots that its lanes need: a SAFETY packet is not striped (R354, R361). -/
def cmtSlots (s : State) (l : Nat) (p : CmtPacket) : Nat :=
  let n := 4 * p.words.length + 10
  let w := Nat.max 1 (s.activeLanes l).length
  if p.cls = 1 then n else (n + w - 1) / w

/-- The lowest pending class of a queue; of one class the oldest. -/
def lowestClass (q : List CmtPacket) : Option CmtPacket := q.foldl (fun a p =>
  match a with
  | none => some p
  | some b => if p.cls < b.cls then some p else some b) none

/-- The transmitter starts a packet, or drops it where it cannot end 32 ns before the boundary (R355). -/
def packetStart (s : State) (l : Nat) (tick : Nat) : State :=
  if 4 ≤ l || !s.linkRuns l then s
  else
    match lowestClass (s.link l).queue with
    | none => s
    | some p =>
      let k := s.link l
      let s := s.setLink l { k with queue := k.queue.erase p }
      if 10 * s.frameLen < 10 * tick + 16 * s.cmtSlots l p + 256 then
        (s.cmtDrop l).flagRaise Reg.COMET_FLAGS_TX_LATE Ev.CMT_TX_LATE
      else
        let s := s.setLink l { s.link l with lastTx := some p, seq := (k.seq + 1) % 32 }
        let s := s.when (p.cls == 1) (fun s => s.wr (Reg.LINK_STATUS_SAFE1 l) (b2n ((s.activeLanes l).length == 1)))
        s.incSat (Reg.LINK_TX_PKT_COUNT l)

/-- A class is carried at the link's version (R345). -/
def carries (s : State) (l c : Nat) : Bool :=
  let v := s.rd (Reg.LINK_STATUS_VERSION l)
  if c = 7 then decide (0x11 ≤ v) else s.rd (Reg.LINK_CFG_ROLE l) == 0 || decide (0x20 ≤ v)

/-- An Orbit lane send (R355): queued, or retired with its packet dropped. -/
def laneSend (s : State) (slot : Nat) : State :=
  match s.opOf? slot 5 with
  | none => s
  | some o =>
    let l := fieldOf o.arga 0 2
    let c := fieldOf o.arga 8 4
    let e := fieldOf o.argb 0 8
    let shed := hasBit (s.rd (Reg.LINK_STATUS_SHED l)) c
    let s := s.retire slot
    if !s.linkRuns l || shed || !s.carries l c || !(c == 2 || c == 5 || c == 6 || c == 7) then s.cmtDrop l
    else
      let w0 := s.rd (Reg.COMET_SENDQ_WORD (4 * e))
      let a := s.rd (Reg.COMET_SENDQ_WORD (4 * e + 1))
      let n := fieldOf w0 16 11 / 4
      let ws := (List.range n).map fun i => memWord s.sram (a + 4 * i - 0x10000000)
      s.cmtQueue l ⟨c, fieldOf w0 0 8, fieldOf w0 8 4, ws⟩

/-- A received packet is checked and counted (R354). -/
def packetReceive (s : State) (l : Nat) (ok : Bool) : State :=
  if l < 4 && s.linkRuns l then
    if ok then s.incSat (Reg.LINK_RX_PKT_COUNT l)
    else (s.incSat (Reg.LINK_RX_CRC_COUNT l)).flagRaise Reg.COMET_FLAGS_RX_CRC Ev.CMT_RX_CRC
  else s

/-! ### Equalisation (R348 to R351) -/

/-- The DFE of a lane runs: the lane receives, and both enables are set (R348). -/
def dfeOn (s : State) (k : Nat) : Bool :=
  let st := s.laneState k
  st != laneOff && st != laneTest && s.on (Reg.LANE_CFG_DFE_EN k)
    && hasBit (s.rd (Reg.COMET_EQ_ENTRY (s.rd (Reg.LANE_CFG_EQSEL k)))) 12

/-- One tap steps by the sign of its sum (R349). -/
def tapStep (t : Nat) (sum : Int) : Nat :=
  let v := toSigned 6 t
  let v := if 32 < sum then min (v + 1) 31 else if sum < -32 then max (v - 1) (-32) else v
  ofSigned 6 v

/-- The end of a window of 1024 UI (R349, R351): frozen by ordered sets, by few transitions or by DFE_HOLD. -/
def dfeWindow (s : State) (k : Nat) (s1 s2 s3 : Int) (transitions : Nat) (ordered : Bool) : State :=
  if 4 ≤ k then s
  else
    let frozen := ordered || decide (transitions < 308) || s.on (Reg.LANE_CFG_DFE_HOLD k)
    let s := s.wr (Reg.LANE_STATUS_FROZEN k) (b2n frozen)
    if frozen || !s.dfeOn k then s
    else
      let s := s.wr (Reg.LANE_TAPS_T1 k) (tapStep (s.rd (Reg.LANE_TAPS_T1 k)) s1)
      let s := s.wr (Reg.LANE_TAPS_T2 k) (tapStep (s.rd (Reg.LANE_TAPS_T2 k)) s2)
      s.wr (Reg.LANE_TAPS_T3 k) (tapStep (s.rd (Reg.LANE_TAPS_T3 k)) s3)

/-- A figure of merit (R350): none is taken while the DFE is frozen. -/
def fomSample (s : State) (k fom : Nat) : State :=
  if 4 ≤ k || s.on (Reg.LANE_STATUS_FROZEN k) || !s.dfeOn k then s
  else
    let guard := fieldOf (s.rd (Reg.COMET_EQ_ENTRY (s.rd (Reg.LANE_CFG_EQSEL k)))) 16 8
    let fom := Nat.min fom 255
    let s := s.wr (Reg.LANE_STATUS_FOM k) fom
    if guard ≤ fom then
      let run := satInc 4 (s.lane k).goodRun
      let s := (s.wr (Reg.LANE_STATUS_REVERTED k) 0).setLane k { s.lane k with goodRun := run }
      if run < 4 then s
      else
        ((s.wr (Reg.LANE_GOOD_T1 k) (s.rd (Reg.LANE_TAPS_T1 k))).wr (Reg.LANE_GOOD_T2 k) (s.rd (Reg.LANE_TAPS_T2 k))).wr
          (Reg.LANE_GOOD_T3 k) (s.rd (Reg.LANE_TAPS_T3 k))
    else
      let s := (s.wr (Reg.LANE_STATUS_REVERTED k) 1).setLane k { s.lane k with goodRun := 0 }
      let s := ((s.wr (Reg.LANE_TAPS_T1 k) (s.rd (Reg.LANE_GOOD_T1 k))).wr (Reg.LANE_TAPS_T2 k) (s.rd (Reg.LANE_GOOD_T2 k))).wr
        (Reg.LANE_TAPS_T3 k) (s.rd (Reg.LANE_GOOD_T3 k))
      s.flagRaise Reg.COMET_FLAGS_REVERT Ev.CMT_REVERT

/-! ### Electrical idle and latency (R352, R353) -/

/-- The transmitter enters electrical idle at a tick, where at least 1.0 µs (800 tB) remains (R352). -/
def idleEnter (s : State) (l tick : Nat) : State :=
  if l < 4 && s.linkRuns l && s.on (Reg.LINK_CFG_IDLE_EN l) && 0x11 ≤ s.rd (Reg.LINK_STATUS_VERSION l)
      && (s.link l).queue.isEmpty && tick + 800 ≤ s.frameLen then s.setLink l { s.link l with idle := true }
  else s

def idleExit (s : State) (l : Nat) : State := if l < 4 then s.setLink l { s.link l with idle := false } else s

/-- The probes of a lane give its latency (R353): at the next boundary while it is active. -/
def latencyMeasured (s : State) (k td : Nat) : State :=
  if 4 ≤ k || !(s.lane k).probing then s
  else if s.laneState k = laneActive then s.setLane k { s.lane k with probing := false, latNext := some td }
  else (s.wr (Reg.LANE_LAT_TD k) td).setLane k { s.lane k with probing := false, measured := true }

/-- The 16 probes of every 4096 frames (R353). -/
def latencyAgain (s : State) (k td : Nat) : State :=
  if k < 4 && s.laneState k == laneActive then s.setLane k { s.lane k with latNext := some td } else s

/-- `COMET_CMD.REMEASURE` (R373). -/
def remeasure (s : State) (mask : Nat) : State :=
  s.forEach (bitsOf 4 mask) (fun s l => s.forEach (s.linkLanes l) (fun s k =>
    if s.laneState k = laneReady || s.laneState k = laneActive then s.setLane k { s.lane k with probing := true } else s))

/-- A PROBE is answered (R353). -/
def probeReceive (s : State) (k seq turnaround : Nat) : State :=
  if k < 4 && (s.laneState k == laneReady || s.laneState k == laneActive) then
    s.setLane k { s.lane k with echo := some (seq % 256, turnaround % 2 ^ 24) }
  else s

/-! ### Loss and reinstatement (R365 to R367) -/

/-- Tag of the first boundary at least 4 µs (3200 tB) after a tick. -/
def tagAfter (s : State) (tick : Nat) : Nat :=
  (s.rd Reg.ORB_FRAME_COUNT + if tick + 3200 ≤ s.frameLen then 1 else 2) % 256

/-- A lane is lost (R365, R366): it trains again, and an active lane leaves its link at the boundary named. -/
def laneLoss (s : State) (k tick : Nat) : State :=
  let st := s.laneState k
  if k < 4 && (st == laneActive || st == laneReady) then
    let inUse := hasBit (s.activeMask (s.linkOf k)) k
    let s := (s.incSat (Reg.LANE_LOSS_COUNT k)).laneTrains k
    let s := s.when inUse (fun s => s.setLane k { s.lane k with lostDue := some (s.tagAfter tick) })
    s.raise Ev.CMT_LANE_LOST
  else s

/-- A lane meets criterion `cause` of R365. -/
def laneLost (s : State) (k cause tick : Nat) : State :=
  let st := s.laneState k
  if k < 4 && (st == laneActive || st == laneReady) && 1 ≤ cause && cause ≤ 6 then
    (s.wr (Reg.LANE_LOSS_CAUSE k) cause).laneLoss k tick
  else s

/-- Both ends are ready: the boundary of the reinstatement is named (R367). -/
def nameBack (s : State) (k tick : Nat) : State :=
  let v := s.lane k
  if v.readyHere && v.readyFar && v.backDue.isNone then s.setLane k { v with backDue := some (s.tagAfter tick) } else s

/-- An LSTAT arrives (R366, R367). -/
def lstat (s : State) (l lost ready tag tick : Nat) : State :=
  if 4 ≤ l || !s.linkRuns l then s
  else
    let s := s.forEach (s.linkLanes l) (fun s k =>
      if hasBit lost k && hasBit (s.activeMask l) k then s.setLane k { s.lane k with lostDue := some (tag % 256) } else s)
    s.forEach (s.linkLanes l) (fun s k =>
      if hasBit ready k then State.nameBack (s.setLane k { s.lane k with readyFar := true }) k tick else s)

/-- At the boundary named a lane leaves its link (R346, R366). -/
def cmtLaneRemove (s : State) (k : Nat) : State :=
  if 4 ≤ k || (s.lane k).lostDue.isNone then s
  else
    let l := s.linkOf k
    let s := s.setLane k { s.lane k with lostDue := none }
    if !hasBit (s.activeMask l) k then s
    else
      let s := s.clrB (Reg.LINK_STATUS_ACTIVE l) k
      if s.activeMask l = 0 then s.linkDown l
      else
        let s := s.when (s.linkState l == linkUp) (fun s =>
          ((s.wr (Reg.LINK_STATUS_STATE l) linkDegraded).wr (Reg.LINK_STATUS_DEGRADED l) 1).raise (Ev.CMT_DEGRADED l))
        s.shedEvaluate l

/-- A retrained lane sets its ready bit (R367). -/
def readyMark (s : State) (k tick : Nat) : State :=
  if k < 4 && s.laneFit k && s.linkRuns (s.linkOf k) then
    State.nameBack (s.setLane k { s.lane k with readyHere := true }) k tick
  else s

/-- At the boundary named the lane is active again (R346, R367). -/
def laneReinstate (s : State) (k : Nat) : State :=
  let l := s.linkOf k
  if k < 4 && (s.lane k).backDue.isSome && s.laneState k == laneReady && s.linkRuns l && 0x11 ≤ s.rd (Reg.LINK_STATUS_VERSION l) then
    let s := (s.wr (Reg.LANE_STATUS_STATE k) laneActive).setB (Reg.LINK_STATUS_ACTIVE l) k
    let s := s.setLane k { s.lane k with backDue := none, readyHere := false, readyFar := false }
    let s := s.raise Ev.CMT_LANE_BACK
    let all := (s.activeLanes l).length == (s.linkLanes l).length
    let s := s.when all (fun s =>
      ((s.wr (Reg.LINK_STATUS_STATE l) linkUp).wr (Reg.LINK_STATUS_DEGRADED l) 0).raise (Ev.CMT_DEGRADED l))
    s.shedEvaluate l
  else s

/-- `COMET_CMD.RETRAIN` (R373). -/
def retrain (s : State) (mask : Nat) : State :=
  s.forEach (bitsOf 4 mask) (fun s k => s.laneLoss k (s.rd Reg.ORB_TICK_TICK))

/-! ### Test modes (R370) -/

/-- No enabled link covers a lane. -/
def laneFree (s : State) (k : Nat) : Bool := !(List.range 4).any fun l => s.on (Reg.LINK_CFG_EN l) && (s.linkLanes l).contains k

/-- PAT, LOOP or CHK_EN is written (R344, R346, R370). -/
def laneTestWrite (s : State) (k loop pat : Nat) (chk : Bool) : State :=
  if !s.laneFree k then s.cmtCfgErr
  else
    let l := s.linkOf k
    let s := ((s.wr (Reg.LANE_CFG_LOOP k) loop).wr (Reg.LANE_CFG_PAT k) pat).wr (Reg.LANE_CFG_CHK_EN k) (b2n chk)
    if s.rd (Reg.LANE_CFG_LOOP k) != 0 || s.rd (Reg.LANE_CFG_PAT k) != 0 then
      (s.wr (Reg.LANE_STATUS_STATE k) laneTest).wr (Reg.LINK_STATUS_STATE l) linkTest
    else
      let s := s.when (s.laneState k == laneTest) (fun s => s.wr (Reg.LANE_STATUS_STATE k) laneOff)
      let any := (s.linkLanes l).any fun j => s.laneState j == laneTest
      s.when (s.linkState l == linkTest && !any) (fun s => s.wr (Reg.LINK_STATUS_STATE l) linkDisabled)

/-- The checker counts bit errors (R370). -/
def patternErrors (s : State) (k n : Nat) : State :=
  if k < 4 && s.laneState k == laneTest && s.on (Reg.LANE_CFG_CHK_EN k) && n != 0 then
    let first := s.rd (Reg.LANE_PAT_ERR_COUNT k) == 0
    let s := s.addSat (Reg.LANE_PAT_ERR_COUNT k) n
    s.when first (fun s => s.flagRaise Reg.COMET_FLAGS_PATTERN_ERR Ev.CMT_PAT_ERR)
  else s

/-- `COMET_CMD.CLR_STATS` (R373). -/
def clrStats (s : State) : State :=
  s.forEach (List.range 4) (fun s l =>
    ((((s.wr (Reg.LINK_RX_PKT_COUNT l) 0).wr (Reg.LINK_RX_CRC_COUNT l) 0).wr (Reg.LINK_TX_PKT_COUNT l) 0).wr (Reg.LINK_SHED_PKT_COUNT l) 0))

/-- The statistics snapshot of R95. -/
def cmtSnapshot (s : State) : State :=
  s.forEach (List.range 4) (fun s l =>
    let s := (s.wr (Reg.COMET_STATSNAP_WORD (4 * l)) (s.rd (Reg.LINK_RX_PKT_COUNT l))).wr (Reg.COMET_STATSNAP_WORD (4 * l + 1))
      (s.rd (Reg.LINK_RX_CRC_COUNT l))
    (s.wr (Reg.COMET_STATSNAP_WORD (4 * l + 2)) (s.rd (Reg.LINK_TX_PKT_COUNT l))).wr (Reg.COMET_STATSNAP_WORD (4 * l + 3))
      (s.rd (Reg.LINK_SHED_PKT_COUNT l)))

/-! ### Markers and broadcasts (R356, R357) -/

/-- A BND marks the far boundary (R347). -/
def bndReceive (s : State) (l : Nat) (arrival : Int) (tag mask : Nat) : State :=
  if l < 4 && s.linkRuns l then s.setLink l { s.link l with bnd := some (arrival, tag, mask), safeSeen := [] } else s

/-- The offset and alignment of a following secondary (R102, R103): 2 ns are 204.8 tD. -/
def markerAlign (s : State) (off : Int) : State :=
  if s.orbState != orbFollow then s
  else
    let s := s.wr Reg.ORB_GROUP_STATUS_OFFSET (ofSigned 16 (max (min off 32767) (-32768)))
    let near := 10 * off.natAbs ≤ 2048
    let run := if near then satInc 4 s.orbit.alignRun else 0
    let s := { s with orbit := { s.orbit with alignRun := run } }
    if !near then s.wr Reg.ORB_GROUP_STATUS_ALIGNED 0 else if run = 4 then s.wr Reg.ORB_GROUP_STATUS_ALIGNED 1 else s

/-- A packet goes on along the chain, away from the primary (R341, R356). -/
def repeatDown (s : State) (l : Nat) (p : CmtPacket) : State :=
  if s.on (Reg.LINK_CFG_REPEAT l) then
    match s.peerLink? 2 with
    | some d => if s.peerFull d then s.cmtQueue d p else s
    | none => s
  else s

/-- The marker as it is repeated: CORR grows by latency and residence, the hop count by 1. -/
def markerOn (s : State) (l : Nat) (w : List Nat) (resid : Int) : CmtPacket :=
  let lat := s.rd (Reg.LANE_LAT_TD ((s.activeLanes l).headD l))
  let corr := ofSigned 32 (toSigned 32 (nth w 4 0) + lat + resid)
  let w5 := nth w 5 0
  ⟨0, 1, 15, [nth w 0 0, nth w 1 0, nth w 2 0, nth w 3 0, corr, w5 % 16 + 16 * ((fieldOf w5 4 3 + 1) % 8) + 256 * fieldOf w5 8 2]⟩

/-- A marker packet with a good CRC is judged (R356). -/
def markerJudge (s : State) (l : Nat) (w : List Nat) : State :=
  let w5 := nth w 5 0
  let id := (fieldOf w5 0 3, fieldOf w5 4 3, nth w 0 0)
  let good := match (s.link l).marker with
    | none => true
    | some (p, h, f) => id.1 == p && id.2.1 == h && id.2.2 == (f + 1) % 2 ^ 32
  let keep := match (s.link l).marker with
    | some (p, h, _) => if good then id else (p, h, id.2.2)
    | none => id
  let s := s.setLink l { s.link l with marker := some keep }
  if !good then s.flagRaise Reg.COMET_FLAGS_MARKER_BAD Ev.CMT_MARKER_BAD
  else
    match (s.link l).bnd with
    | none => s
    | some (arr, _, _) =>
      let lat := s.rd (Reg.LANE_LAT_TD ((s.activeLanes l).headD l))
      let off := arr - lat - fieldOf (nth w 3 0) 0 16 - toSigned 32 (nth w 4 0)
      let s := s.markerAlign off
      { s.wr Reg.ORB_GROUP_STATUS_MARKER_OK 1 with
        orbit := { s.orbit with marker := some ⟨nth w 0 0, nth w 1 0, nth w 2 0, off⟩ } }

/-- A marker packet arrives on a secondary's upstream link (R356). -/
def markerReceive (s : State) (l : Nat) (w : List Nat) (resid : Int) : State :=
  if l < 4 && s.peerFull l && s.rd (Reg.LINK_CFG_ROLE l) == 1 && s.rd Reg.ORB_GROUP_ROLE == 2 then
    (s.repeatDown l (s.markerOn l w resid)).markerJudge l w
  else s

/-- An Eclipse broadcast arrives (R289, R357). -/
def broadcastReceive (s : State) (l : Nat) (w : List Nat) : State :=
  if l < 4 && s.peerFull l && s.rd (Reg.LINK_CFG_ROLE l) == 1 && s.rd Reg.ORB_GROUP_ROLE == 2 then
    let s := s.repeatDown l ⟨0, 2, 15, w.take 3⟩
    let w0 := nth w 0 0
    let s := s.eeBroadcast (fieldOf w0 0 4) (fieldOf w0 4 4) (fieldOf w0 8 15) (nth w 1 0)
    if hasBit (nth w 2 0) 0 && s.on Reg.EE_CTRL_FOLLOW_DEC then s.eeIsland 9 else s
  else s

/-- The primary's broadcast on its downstream link (R289, R357). -/
def broadcastSend (s : State) : State :=
  let s := { s with ee := { s.ee with bcastDue := false } }
  match s.peerLink? 2 with
  | none => s
  | some l =>
    if !s.peerFull l then s
    else
      let w0 := fieldOf (s.rd Reg.EE_INJ_N) 0 4 + 16 * fieldOf (s.rd Reg.EE_INJ_FPB) 0 4 + 256 * fieldOf (s.rd Reg.EE_SEED_SEED) 0 15
      s.cmtQueue l ⟨0, 2, 15, [w0, s.rd Reg.EE_K0_FRAME, s.rd Reg.EE_STATUS_ISLAND]⟩

/-! ### Satellites and peers (R360 to R362) -/

/-- A SAMPLE packet of a satellite (R360). -/
def sampleReceive (s : State) (l : Nat) (ws : List Nat) : State :=
  if l < 4 && s.linkRuns l && s.rd (Reg.LINK_CFG_ROLE l) == 0 then
    let n := fieldOf (nth ws 0 0) 8 8 + 1
    let s := s.forEach ((ws.take (Nat.min n 255)).zipIdx) (fun s (w, i) => s.wr (Reg.LINK_RXS_WORD l i) w)
    (s.wr (Reg.LINK_AGE_SAMPLE l) 0).raise Ev.CMT_RX_SAMPLE
  else s

/-- A STATUS packet (R360). -/
def statusReceive (s : State) (l : Nat) (ws : List Nat) : State :=
  if l < 4 && s.linkRuns l then
    let s := s.forEach ((ws.take 4).zipIdx) (fun s (w, i) => s.wr (Reg.LINK_RXSTAT_WORD l i) w)
    s.wr (Reg.LINK_AGE_STATUS l) 0
  else s

/-- A SHARE packet (R362). -/
def shareReceive (s : State) (l : Nat) (ws : List Nat) : State :=
  if l < 4 && s.peerFull l && s.rd (Reg.LINK_CFG_ROLE l) != 0 then
    let s := s.forEach ((ws.take 4).zipIdx) (fun s (w, i) => s.wr (Reg.LINK_RXSTAT_WORD l (4 + i)) w)
    s.wr (Reg.LINK_AGE_SHARE l) 0
  else s

/-- A packet for another module goes on along the chain (R361, R362). -/
def forward (s : State) (l : Nat) (p : CmtPacket) : State :=
  let role := s.rd (Reg.LINK_CFG_ROLE l)
  if role = 0 then s
  else
    match s.peerLink? (3 - role) with
    | some d => s.cmtQueue d p
    | none => s

/-- The first valid copy of a SAFETY packet (R361): forwarded where it is for others, and placed in the ring. It answers whether
the PDU was placed. -/
def safetyTake (s : State) (l seq addr : Nat) (ws : List Nat) : Bool × State :=
  let full := s.rd (Reg.LINK_CFG_ROLE l) == 0 || s.peerFull l
  if 4 ≤ l || !s.linkRuns l || !full || (s.link l).safeSeen.contains (seq % 32) then (false, s)
  else
    let own := s.rd (Reg.LINK_CFG_ROLE l) == 0 || addr == s.rd Reg.COMET_MODULE_NUM
    let s := s.setLink l { s.link l with safeSeen := seq % 32 :: (s.link l).safeSeen }
    let s := s.when (!own) (fun s => s.forward l ⟨1, 0x50, addr, ws⟩)
    if !own && addr != 15 then (false, s)
    else
      let p := s.rd Reg.SAFE_RX_PTR_WPTR
      let s := s.forEach (((l :: ws).take 10).zipIdx) (fun s (w, i) => s.wr (Reg.COMET_SAFE_RX_WORD (10 * p + i)) w)
      (true, (s.wr Reg.SAFE_RX_PTR_WPTR (p + 1)).raise Ev.CMT_RX_SAFETY)

/-- SC queues slots of `COMET_SAFE_TX`; writes of any other master are ignored (R361). -/
def safeTxQueue (s : State) (m : Master) (mask : Nat) : State :=
  let s := { s with bus := .ok }
  if m = .sc then s.wr Reg.SAFE_TX_CTRL_VALID (s.rd Reg.SAFE_TX_CTRL_VALID ||| mask % 16) else s

/-- A TUNNEL packet (R362): a piece for another module goes on; else it joins the TPP packet of its source module, which is
answered once it is complete. -/
def tunnelTake (s : State) (l addr w0 : Nat) (bytes : List Byte) : Option (Nat × List Byte) × State :=
  if 4 ≤ l || !s.linkRuns l || s.rd (Reg.LINK_STATUS_VERSION l) < 0x11 then (none, s)
  else if s.rd (Reg.LINK_CFG_ROLE l) != 0 && addr != s.rd Reg.COMET_MODULE_NUM && addr != 15 then
    (none, s.forward l ⟨7, 0x70, addr, w0 :: wordsOf bytes⟩)
  else
    let src := fieldOf w0 24 3
    let old := sparseGet (s.link l).tunnel src []
    let off := fieldOf w0 0 16
    let all := old.take off ++ List.replicate (off - old.length) 0 ++ bytes
    let rest := (s.link l).tunnel.filter fun e => e.1 != src
    if hasBit w0 16 then (some (src, all), (s.setLink l { s.link l with tunnel := rest }).raise Ev.CMT_RX_TUNNEL)
    else (none, s.setLink l { s.link l with tunnel := (src, all) :: rest })

/-! ### PWM export (R196, R358, R359) -/

/-- The pairs exported on a link. -/
def exported (s : State) (l : Nat) : List Nat :=
  (List.range 24).filter fun p => s.on (Reg.PR_CFG_EXPORT_EN p) && s.rd (Reg.PR_CFG_EXPORT_LINK p) == l

/-- Level at the valley and transitions of one output whose interval in the carrier runs from `a` to `b`, of `full` tD. -/
def edgesOf (a b full : Int) : Nat × List Nat :=
  let none_ := 0x3FFFFFF
  if b ≤ a then (0, [none_, none_])
  else if a ≤ 0 then (1, [if b < full then b.toNat else none_, none_])
  else (0, [a.toNat, if b < full then b.toNat else none_])

/-- The L output is on outside the ideal H interval from `r` to `f`, its rising edge delayed by `d` (R179). -/
def edgesOfL (r f d full : Int) : Nat × List Nat :=
  let none_ := 0x3FFFFFF
  if f ≤ r then (1, [none_, none_])
  else
    let back := if f + d < full then [(f + d).toNat] else []
    if r ≤ 0 then (0, (back ++ [none_, none_]).take 2) else (1, (r.toNat :: back ++ [none_]).take 2)

/-- The record of one pair's carrier (R358), after stage 8 of R184. -/
def edgeRecord (s : State) (p : Nat) : List Nat :=
  let k := s.pwmPair p
  let full : Int := 128 * s.rd (Reg.CL_PERIOD_ACT_PERIOD (p / 8))
  let d : Int := 128 * k.dt
  let still (on : Bool) : Nat × List Nat := (b2n on, [0x3FFFFFF, 0x3FFFFFF])
  let dead := s.on (Reg.PR_STATUS_TRIPPED p) || s.on (Reg.PR_STATUS_ESCALATED p)
  let h := match s.rd (Reg.PR_FORCE_FH p) with
    | 1 => still false
    | 2 => still true
    | _ => if s.on (Reg.PR_CFG_INDEP p) then edgesOf k.rise k.fall full
           else if full ≤ k.fall - k.rise then still true else edgesOf (k.rise + d) k.fall full
  let lo := match s.rd (Reg.PR_FORCE_FL p) with
    | 1 => still false
    | 2 => still true
    | _ =>
      if s.on (Reg.PR_CFG_INDEP p) then
        let x := s.pulseIn p (s.rd (Reg.CL_PERIOD_ACT_PERIOD (p / 8))) (s.actives p) false
        let (r, c) := request { x with ca := x.cb }
        edgesOf r (r + c) full
      else edgesOfL k.rise k.fall d full
  let h := if dead then still false else h
  let lo := if dead then still false else lo
  [p + 256 * h.1 + 512 * lo.1] ++ h.2 ++ lo.2

/-- One EDGE packet for the pairs of a cluster exported on a link (R358); where the link cannot take it, R196. -/
def edgeQueue (s : State) (c l : Nat) : State :=
  let ps := (s.exported l).filter fun p => p / 8 == c
  if ps.isEmpty then s
  else if s.linkRuns l && !hasBit (s.rd (Reg.LINK_STATUS_SHED l)) 3 then
    let t := s.commitPoint c
    let w0 := s.rd (Reg.CL_PERIOD_ACT_PERIOD c) % 2 ^ 20 + 2 ^ 20 * (s.orbit.carIdx % 4)
    s.cmtQueue l ⟨3, 0x10, 0, w0 :: ps.flatMap t.edgeRecord⟩
  else
    let s := s.when (s.linkRuns l) (fun s => s.cmtDrop l)
    s.flagRaise Reg.PWM_FLAGS_EXPORT_OVF Ev.PWM_EXPORT_OVF

/-- The satellites are told of safe states and trips that began or ended (R196, R359). The tD of a trip is not held: a free value. -/
def exportNotices (s : State) : State :=
  let mask := (List.range 24).foldl (fun a p => if s.on (Reg.PR_CFG_EXPORT_EN p) then a + 2 ^ p else a) 0
  let safe := if s.on Reg.PWM_SAFE_STATUS_LATCHED then mask else 0
  let trip := (List.range 24).foldl (fun a p => if hasBit mask p && s.on (Reg.PR_STATUS_TRIPPED p) then a + 2 ^ p else a) 0
  let newSafe := andNot 24 safe s.cmt.safeSent
  let ended := andNot 24 (s.cmt.safeSent &&& mask) safe
  let newTrip := andNot 24 trip s.cmt.tripSent
  let s := { s with cmt := { s.cmt with safeSent := safe, tripSent := trip } }
  s.forEach (List.range 4) (fun s l =>
    let m := (s.exported l).foldl (fun a p => a + 2 ^ p) 0
    let s := s.when (newSafe &&& m != 0) (fun s => s.cmtQueue l ⟨2, 0x20, 0, [newSafe &&& m]⟩)
    let s := s.when (ended &&& m != 0) (fun s => s.cmtQueue l ⟨2, 0x21, 0, [ended &&& m]⟩)
    if newTrip &&& m = 0 then s
    else
      let (x, s) := s.takeFree
      s.cmtQueue l ⟨2, 0x22, 0, [newTrip &&& m, x % 2 ^ 26]⟩)

/-! ### Boundary (R347, R353, R356, R360, R361) -/

/-- The marker of this boundary on a link. TXTS, the time to the first symbol slot, is not held: a free value.
DESIGN CHOICE (notes/assumptions 6, 43). -/
def markerSend (s : State) (l : Nat) : State :=
  let (x, s) := s.takeFree
  let w5 := s.rd Reg.COMET_MODULE_NUM + 256 * s.rd Reg.ORB_CTRL_DIV
  s.cmtQueue l ⟨0, 1, 15, [s.rd Reg.ORB_FRAME_COUNT, s.rd Reg.ORB_ANGLE_THETA, s.rd Reg.ORB_DTHETA_INC, x % 65536, 0, w5]⟩

/-- A queued safety PDU becomes a SAFETY packet of the PDU's length (R361, R391). -/
def safeTxSend (s : State) (i : Nat) : State :=
  let w0 := s.rd (Reg.COMET_SAFE_TX_WORD (10 * i))
  let l := fieldOf w0 0 2
  let n := 5 + (fieldOf (s.rd (Reg.COMET_SAFE_TX_WORD (10 * i + 1))) 8 5 + 3) / 4
  let ws := (List.range (min n 9)).map fun j => s.rd (Reg.COMET_SAFE_TX_WORD (10 * i + 1 + j))
  let s := s.clrB Reg.SAFE_TX_CTRL_VALID i
  if s.rd (Reg.LINK_CFG_ROLE l) = 0 || s.peerFull l then s.cmtQueue l ⟨1, 0x50, 15, ws⟩ else s

/-- The Comet part of a boundary. -/
def cmtBoundary (s : State) : State :=
  let s := s.forEach (List.range 4) (fun s k =>
    match (s.lane k).latNext with
    | some td =>
      let s := (s.wr (Reg.LANE_LAT_TD k) td).setLane k { s.lane k with latNext := none }
      s.sendLatency (s.linkOf k)
    | none => s)
  let s := s.forEach (List.range 4) (fun s l =>
    let s := ((s.incSat (Reg.LINK_AGE_SAMPLE l)).incSat (Reg.LINK_AGE_SHARE l)).incSat (Reg.LINK_AGE_STATUS l)
    s.setLink l { s.link l with seq := 0, idle := false })
  let s := s.exportNotices
  let s := s.when (s.rd Reg.ORB_GROUP_ROLE == 1) (fun s =>
    let l := s.rd Reg.ORB_GROUP_LINK
    if s.peerFull l && s.rd (Reg.LINK_CFG_ROLE l) == 2 then s.markerSend l else s)
  let s := s.forEach (List.range 4) (fun s l => if s.linkRuns l && s.rd (Reg.LINK_CFG_ROLE l) == 0 then s.markerSend l else s)
  let s := s.when (s.rd Reg.ORB_GROUP_ROLE == 1 && (s.ee.bcastDue || s.rd Reg.ORB_FRAME_COUNT % 256 == 0)) broadcastSend
  s.forEach (bitsOf 4 (s.rd Reg.SAFE_TX_CTRL_VALID)) safeTxSend

end State

/-- A write of a link's `LINK_CFG` (R373). -/
def linkWrite (m : Master) (l : Nat) (s : State) (f : State → State) : Out :=
  .next (if l < 4 then s.access m (0x40090100 + 0x40 * l) .cr f else s)

/-- CUTOFF_FREEZE (R176, R177, R185, R196, R358): 8 tB before a commit point of cluster `c`, a peak or a valley. -/
def execCutoffFreeze (c : Nat) (peak : Bool) (s : State) : Out :=
  .next (
    if 3 ≤ c then s
    else
      let s := s.cutoffFreeze c peak
      if peak then s else s.forEach (List.range 4) (fun s l => s.edgeQueue c l))

/-- LINK_ENABLE (R346). -/
def execLinkEnable (m : Master) (l : Nat) (s : State) : Out := linkWrite m l s (fun s => s.linkEnable l)

/-- LINK_DISABLE (R346). -/
def execLinkDisable (m : Master) (l : Nat) (s : State) : Out := linkWrite m l s (fun s => s.linkDisable l)

/-- LANE_TS_RECEIVED (R344). -/
def execLaneTsReceived (k : Nat) (t : TrainSet) (s : State) : Out := .next (s.trainingSets k t)

/-- LANE_CONFIG_DONE (R344). -/
def execLaneConfigDone (k : Nat) (s : State) : Out := .next (s.laneConfigured k)

/-- LINK_TRAIN_TIMEOUT (R346). -/
def execLinkTrainTimeout (l : Nat) (s : State) : Out := .next (s.trainTimeout l)

/-- LANE_LATENCY_MEASURED (R353). -/
def execLaneLatencyMeasured (k td : Nat) (s : State) : Out := .next (s.latencyMeasured k td)

/-- LINK_UP (R346): at a boundary. -/
def execLinkUp (l : Nat) (s : State) : Out := .next (s.linkComesUp l)

/-- LINK_BND_RECEIVE (R347): arrival against the local boundary in tD. -/
def execLinkBndReceive (l : Nat) (arrival : Int) (tag mask : Nat) (s : State) : Out := .next (s.bndReceive l arrival tag mask)

/-- DFE_WINDOW_END (R349, R351). -/
def execDfeWindowEnd (k : Nat) (s1 s2 s3 : Int) (transitions : Nat) (ordered : Bool) (s : State) : Out :=
  .next (s.dfeWindow k s1 s2 s3 transitions ordered)

/-- LANE_FOM_SAMPLE (R350). -/
def execLaneFomSample (k fom : Nat) (s : State) : Out := .next (s.fomSample k fom)

/-- LANE_IDLE_ENTER (R352): every active lane of link `l`. -/
def execLaneIdleEnter (l tick : Nat) (s : State) : Out := .next ((s.toTick tick).idleEnter l tick)

/-- LANE_IDLE_EXIT (R352). -/
def execLaneIdleExit (l : Nat) (s : State) : Out := .next (s.idleExit l)

/-- LANE_LATENCY_REMEASURE (R353). -/
def execLaneLatencyRemeasure (k td : Nat) (s : State) : Out := .next (s.latencyAgain k td)

/-- COMET_PACKET_RECEIVE (R354): what is passed on by type is a command of its own. -/
def execCometPacketReceive (l : Nat) (ok : Bool) (s : State) : Out := .next (s.packetReceive l ok)

/-- MARKER_RECEIVE (R356): the payload words, and the residence time in tD should it be repeated. -/
def execMarkerReceive (l : Nat) (words : List Nat) (resid : Int) (s : State) : Out := .next (s.markerReceive l words resid)

/-- EE_BROADCAST_RECEIVE (R357). -/
def execEeBroadcastReceive (l : Nat) (words : List Nat) (s : State) : Out := .next (s.broadcastReceive l words)

/-- SAMPLE_RECEIVE (R360). -/
def execSampleReceive (l : Nat) (words : List Nat) (s : State) : Out := .next (s.sampleReceive l words)

/-- STATUS_RECEIVE (R360). -/
def execStatusReceive (l : Nat) (words : List Nat) (s : State) : Out := .next (s.statusReceive l words)

/-- SHARE_RECEIVE (R362). -/
def execShareReceive (l : Nat) (words : List Nat) (s : State) : Out := .next (s.shareReceive l words)

/-- COMET_PACKET_START (R355): at a tick of the frame. -/
def execCometPacketStart (l tick : Nat) (s : State) : Out := .next ((s.toTick tick).packetStart l tick)

/-- COMET_LANE_SEND (R355): the Orbit operation of a slot. -/
def execCometLaneSend (slot : Nat) (s : State) : Out := .next (s.laneSend slot)

/-- SAFE_TX_QUEUE (R361). -/
def execSafeTxQueue (m : Master) (mask : Nat) (s : State) : Out := .next (s.safeTxQueue m mask)

/-- LINK_SHED_EVALUATE (R364): at a boundary. -/
def execLinkShedEvaluate (l : Nat) (s : State) : Out := .next (s.shedEvaluate l)

/-- LANE_LOSS (R365): by row of its table. -/
def execLaneLoss (k cause tick : Nat) (s : State) : Out := .next ((s.toTick tick).laneLost k cause tick)

/-- LSTAT_RECEIVE (R366). -/
def execLstatReceive (l lost ready tag tick : Nat) (s : State) : Out := .next ((s.toTick tick).lstat l lost ready tag tick)

/-- LANE_REMOVE (R366): at the boundary named. -/
def execLaneRemove (k : Nat) (s : State) : Out := .next (s.cmtLaneRemove k)

/-- LANE_READY_MARK (R367). -/
def execLaneReadyMark (k tick : Nat) (s : State) : Out := .next ((s.toTick tick).readyMark k tick)

/-- LANE_REINSTATE (R367): at the boundary named. -/
def execLaneReinstate (k : Nat) (s : State) : Out := .next (s.laneReinstate k)

/-- COMET_RETRAIN (R373). -/
def execCometRetrain (m : Master) (mask : Nat) (s : State) : Out := .next (s.access m 0x4009000C .cr (fun s => s.retrain mask))

/-- COMET_REMEASURE (R373). -/
def execCometRemeasure (m : Master) (mask : Nat) (s : State) : Out := .next (s.access m 0x4009000C .cr (fun s => s.remeasure mask))

/-- COMET_CLR_STATS (R373). -/
def execCometClrStats (m : Master) (s : State) : Out := .next (s.access m 0x4009000C .dr State.clrStats)

/-- LANE_TEST_ENTER (R370). -/
def execLaneTestEnter (m : Master) (k loop pat : Nat) (chk : Bool) (s : State) : Out :=
  .next (if k < 4 then s.access m (0x40090300 + 0x40 * k) .cr (fun s => s.laneTestWrite k loop pat chk) else s)

/-- LANE_TEST_EXIT (R344). -/
def execLaneTestExit (m : Master) (k : Nat) (s : State) : Out :=
  .next (if k < 4 then s.access m (0x40090300 + 0x40 * k) .cr (fun s => s.laneTestWrite k 0 0 (s.on (Reg.LANE_CFG_CHK_EN k))) else s)

/-- LANE_PATTERN_ERROR (R370): `n` bit errors. -/
def execLanePatternError (k n : Nat) (s : State) : Out := .next (s.patternErrors k n)

/-- LANE_PROBE_RECEIVE (R353). -/
def execLaneProbeReceive (k seq turnaround : Nat) (s : State) : Out := .next (s.probeReceive k seq turnaround)

end Sys2Proof.Machine
end

