-- ==== Sys2Proof/Machine/Perihelion.lean ====
section
/-! DEFINITION. Machine/Perihelion.lean: the power-point tracker (R297 to R315), and the commands of grid support that stop it
(R302). Every operation on binary32 values is rounded separately in the written order (DESIGN CHOICE, notes/assumptions 25). -/

namespace Sys2Proof.Machine

namespace State

abbrev peOff : Nat := 0
abbrev peWait : Nat := 1
abbrev peTrack : Nat := 2
abbrev peSweeping : Nat := 3
abbrev peCurtail : Nat := 4
abbrev peHold : Nat := 5

def peState (s : State) (n : Nat) : Nat := s.rd (Reg.PE_STATE_STATE n)
def peChan (s : State) (n : Nat) : PeChan := nth s.pe.chans n {}
def setPeChan (s : State) (n : Nat) (c : PeChan) : State := { s with pe := { s.pe with chans := setNth s.pe.chans n c } }
def setPeSweep (s : State) (w : Option PeSweep) : State := { s with pe := { s.pe with sweep := w } }

/-- Grid support rides through a disturbance (R302). -/
def peStopped (s : State) : Bool := gsRiding s.gsState

/-! ### Records (R297, R298, R300, R307) -/

/-- A valid record of a channel's voltage or current enters a sum. -/
def PeSum.put (a : PeSum) (isV : Bool) (x : Nat) : PeSum :=
  if isV then { a with v := F32.add a.v x, vn := a.vn + 1 } else { a with i := F32.add a.i x, k := a.k + 1 }

/-- The means of V and I; none where a record of either is missing. -/
def PeSum.means? (a : PeSum) : Option (Nat × Nat) :=
  if a.vn = 0 || a.k = 0 then none else some (F32.div a.v (F32.ofNat a.vn), F32.div a.i (F32.ofNat a.k))

/-- The running sweep collects records now: in its points, and in the last half of its open-circuit phase (R307). -/
def peCollects (s : State) (w : PeSweep) : Bool :=
  w.voc.isSome || decide (w.start + s.rd Reg.PE_SWEEP_VOC_T * 400000 ≤ s.now)

/-- The value of a valid record of channel `n`, in V or A (R297). -/
def peScaled (s : State) (n : Nat) (isV : Bool) (word : Nat) : Nat :=
  let code := F32.ofInt (toSigned 16 (word % 65536))
  if isV then F32.add (F32.mul code (s.rd (Reg.PE_VSCALE_VALUE n))) (s.rd (Reg.PE_VOFF_VALUE n))
  else F32.add (F32.mul code (s.rd (Reg.PE_ISCALE_VALUE n))) (s.rd (Reg.PE_IOFF_VALUE n))

/-- A record reaches one input of channel `n` (R297). -/
def peTake (s : State) (n : Nat) (isV : Bool) (r : TapRecord) : State :=
  let w := r.value
  if r.invalid || r.stale || hasBit w 21 || fieldOf w 16 4 = 15 then s
  else
    let s := s.when (hasBit w 20) (fun s => s.wr Reg.PE_FLAGS_OVR 1)
    let x := s.peScaled n isV w
    let c := s.peChan n
    let s := s.setPeChan n { c with acc := PeSum.put c.acc isV x }
    match s.pe.sweep with
    | some p => if p.ch = n && s.peCollects p then s.setPeSweep (some { p with acc := PeSum.put p.acc isV x }) else s
    | none => s

/-- A tap record reaches Perihelion (R297, R298). -/
def peRecord (s : State) (r : TapRecord) : State :=
  let s := s.when (r.chan == s.rd Reg.PE_CTRL_LIM_TAP && !r.invalid && !r.stale) (fun s => s.wr Reg.PE_LIM_VALUE r.value)
  s.forEach (List.range 6) (fun s n =>
    if s.peState n = peOff then s
    else
      let s := s.when (r.chan == s.rd (Reg.PE_CFG_VTAP n)) (fun s => s.peTake n true r)
      s.when (r.chan == s.rd (Reg.PE_CFG_ITAP n)) (fun s => s.peTake n false r))

/-! ### Curve storage (R310) -/

/-- Both partitions of the curve store belong to the data region. -/
def peOwned (s : State) : Bool :=
  let p := s.rd Reg.PE_CURVE_PART
  s.shmOwner p == 2 && s.shmOwner (p + 1) == 2

/-- Byte offset of channel `n`'s record in the shared SRAM. -/
def peBase (s : State) (n : Nat) : Nat := 0x10000 * s.rd Reg.PE_CURVE_PART + 0x4100 * n

/-- Words are written into the record of channel `n`, as long as the partitions are owned. -/
def pePut (s : State) (n word : Nat) (ws : List Nat) : State :=
  if s.peOwned then { s with sram := memWrite s.sram (s.peBase n + 4 * word) (bytesOf ws) } else s

/-- The words of a header before its check value; `word0` holds VALID and the flags. -/
def peHeader (s : State) (w : PeSweep) (word0 : Nat) (figures maxima : List Nat) (count : Nat) (diag : List Nat) : List Nat :=
  let bad := (w.pts.filter (·.isNone)).length
  [w.ch + 256 * s.rd (Reg.PE_CFG_PAIR w.ch) + word0, s.rd Reg.PE_PROF_STATUS_PROFILE_ID, w.frame, w.fpp % 256 + 65536 * (bad % 2048)]
    ++ figures ++ [count] ++ (maxima ++ List.replicate 12 0).take 12 ++ diag ++ [w.cause] ++ List.replicate 38 0

/-- A header is written, its check value over words 0 to 62 and the points, word 0 last. -/
def pePutHeader (s : State) (n : Nat) (h : List Nat) : State :=
  let pts := memRead s.sram (s.peBase n + 256) 16384
  let c := crc crc32c (bytesOf h ++ pts)
  (s.pePut n 1 (h.tail ++ [c])).pePut n 0 [h.headD 0]

/-! ### Queue and grant (R306, R307) -/

/-- A request of a sweep. -/
def peRequest (s : State) (n cause : Nat) (holdoff : Bool) : State :=
  let recent := match (s.peChan n).lastSweep with
    | some t => decide (s.now < t + s.rd Reg.PE_SWEEP_HOLDOFF * 800000000)
    | none => false
  if holdoff && recent then s
  else if hasBit (s.rd Reg.PE_STATUS_QUEUE) n then s
  else (s.setPeChan n { s.peChan n with cause := cause }).setB Reg.PE_STATUS_QUEUE n

/-- A reference is submitted and shown (R300). -/
def peSubmit (s : State) (n v : Nat) : State :=
  (s.wr (Reg.PE_VREF_VALUE n) v).dataPortPut (s.rd (Reg.PE_CFG_SP n)) v (s.rd Reg.ORB_TICK_TICK)

/-- A sweep is granted to the lowest queued channel in TRACK (R306); without the partitions it is refused (R310). -/
def peGrant (s : State) : State :=
  if s.pe.sweep.isSome || s.on Reg.PE_STATUS_CURTAILED || s.peStopped then s
  else
    match (bitsOf 6 (s.rd Reg.PE_STATUS_QUEUE)).find? (fun n => s.peState n == peTrack) with
    | none => s
    | some n =>
      let s := s.clrB Reg.PE_STATUS_QUEUE n
      if !s.peOwned then s.wr Reg.PE_FLAGS_PART_ERR 1
      else
        let w : PeSweep := { ch := n, cause := (s.peChan n).cause, start := s.now, frame := s.rd Reg.ORB_FRAME_COUNT,
                             fpp := Nat.max 1 (s.rd Reg.PE_SWEEP_TIME * 800000 / (2048 * s.frameLen)),
                             before := s.rd (Reg.PE_VREF_VALUE n), voc := none, est := false, acc := {}, pts := [] }
        let s := (s.setPeSweep (some w)).wr Reg.PE_STATUS_SWEEP_CH (n + 1)
        let s := s.setPeChan n { s.peChan n with dropRun := 0 }
        (s.wr (Reg.PE_STATE_STATE n) peSweeping).peSubmit n (s.rd (Reg.PE_VMAX_VALUE n))

/-- Six figures that the record of an unfinished or invalid curve does not determine: free values. -/
def peFree (s : State) (k : Nat) : List Nat × State :=
  (List.range k).foldl (fun (l, s) _ => let (x, s) := s.takeFree; (l ++ [x % 2 ^ 32], s)) ([], s)

/-- The running sweep is aborted: the channel goes to `st` (R312). -/
def peAbort (s : State) (st : Nat) : State :=
  match s.pe.sweep with
  | none => s
  | some w =>
    let (f, s) := s.peFree 7
    let voc := w.voc.getD (nth f 0 0)
    let h := s.peHeader w (2 ^ 19 + 2 ^ 17 * b2n w.est) (voc :: (f.drop 1).take 4) [] 0 (f.drop 5)
    let s := (s.pePutHeader w.ch h).wr Reg.PE_FLAGS_SWEEP_ABORT 1
    let s := ((s.setPeSweep none).wr Reg.PE_STATUS_SWEEP_CH 0).wr (Reg.PE_STATE_STATE w.ch) st
    (s.wr (Reg.PE_VREF_VALUE w.ch) w.before).raise Ev.PE_SWEEP_DONE

/-! ### Channel states (R301) -/

/-- The boost pair of a channel is blocked. -/
def peBlocked (s : State) (n : Nat) : Bool :=
  let p := s.rd (Reg.PE_CFG_PAIR n)
  !s.on (Reg.CL_CTRL_EN (p / 8)) || s.on Reg.PWM_SAFE_STATUS_LATCHED || s.on (Reg.PR_STATUS_TRIPPED p)
    || s.on (Reg.PR_STATUS_ESCALATED p)

/-- Previous-step values are cleared. -/
def peForget (s : State) (n : Nat) : State := s.setPeChan n { s.peChan n with prev := none, dir := 0 }

/-- A channel leaves TRACK, CURTAIL or SWEEP for HOLD, WAIT or OFF; its queued request is dropped (R306). -/
def peLeave (s : State) (n st : Nat) : State :=
  let s := if s.peState n = peSweeping then s.peAbort st else s.wr (Reg.PE_STATE_STATE n) st
  let s := s.clrB Reg.PE_STATUS_QUEUE n
  s.setPeChan n { s.peChan n with dropRun := 0 }

/-- A pair blocks its channel. -/
def peBlock (s : State) (n : Nat) : State :=
  let st := s.peState n
  if n < 6 && (st == peTrack || st == peCurtail || st == peSweeping) && s.peBlocked n then (s.peLeave n peHold).raise Ev.PE_CHANNEL
  else s

/-- A pair no longer blocks its channel. -/
def peUnblock (s : State) (n : Nat) : State :=
  if n < 6 && s.peState n == peHold && !s.peBlocked n then s.wr (Reg.PE_STATE_STATE n) peWait else s

/-- 64 empty steps (R300, R301). -/
def peNosamp (s : State) (n : Nat) : State :=
  let st := s.peState n
  if n < 6 && (st == peTrack || st == peCurtail) && 64 ≤ s.rd (Reg.PE_STATE_EMPTY n) then
    ((s.peLeave n peWait).wr Reg.PE_FLAGS_NOSAMP 1).raise Ev.PE_CHANNEL
  else s

/-- `CH_EN` bit n is written 1. -/
def peEnable (s : State) (n : Nat) : State :=
  let s := s.setB Reg.PE_CTRL_CH_EN n
  if s.peState n = peOff then
    let s := (s.wr (Reg.PE_STATE_STATE n) peWait).wr (Reg.PE_STATE_EMPTY n) 0
    s.setPeChan n { s.peChan n with acc := {}, prev := none, dir := 0, dropRun := 0, first := true }
  else s

/-- `CH_EN` bit n is written 0. -/
def peDisable (s : State) (n : Nat) : State :=
  let s := s.clrB Reg.PE_CTRL_CH_EN n
  if s.peState n = peOff then s else s.peLeave n peOff

/-! ### Steps (R300 to R306) -/

/-- A limit in units of 10 mV, in V. -/
def peVolts (x : Nat) : Nat := F32.lit x 100
def peStepMin (s : State) (n : Nat) : Nat := peVolts (s.rd (Reg.PE_STEP_STEP_MIN n))
def peStepMax (s : State) (n : Nat) : Nat := peVolts (s.rd (Reg.PE_STEP_STEP_MAX n))

/-- The estimate of the maximum follows (R303). -/
def peEstimate (s : State) (n vs ps : Nat) : State := (s.wr (Reg.PE_PMPP_VALUE n) ps).wr (Reg.PE_VMPP_VALUE n) vs

/-- Incremental conductance: direction and step (R303). -/
def peDirection (s : State) (n vs is ps : Nat) (p : Nat × Nat × Nat) : Int × Nat :=
  let (vp, ip, pp) := p
  let lo := s.peStepMin n
  let eps := s.rd Reg.PE_EPS_VALUE
  let dv := F32.sub vs vp
  let di := F32.sub is ip
  let dp := F32.sub ps pp
  if F32.lt (F32.abs dv) (F32.div lo (F32.ofNat 4)) then
    (if F32.le (F32.abs di) (F32.mul eps (F32.abs is)) then 0 else if F32.gt di 0 then 1 else -1, lo)
  else
    let g := F32.add (F32.div di dv) (F32.div is vs)
    let d : Int := if F32.le (F32.abs g) (F32.div (F32.mul eps is) vs) then 0 else if F32.gt g 0 then 1 else -1
    (d, F32.min (F32.max (F32.div (F32.mul (s.rd (Reg.PE_KAD_VALUE n)) (F32.abs dp)) (F32.abs dv)) lo) (s.peStepMax n))

/-- A tracking step (R303). -/
def peTrackStep (s : State) (n vs is ps : Nat) : State :=
  let c := s.peChan n
  match c.prev with
  | none => s.setPeChan n { c with prev := some (vs, is, ps) }
  | some p =>
    let (d, step) := s.peDirection n vs is ps p
    let v := F32.add (s.rd (Reg.PE_VREF_VALUE n)) (F32.mul (F32.ofInt d) step)
    let v := F32.min (F32.max v (s.rd (Reg.PE_VMIN_VALUE n))) (s.rd (Reg.PE_VMAX_VALUE n))
    let turns := d != 0 && step == s.peStepMin n && d == -c.dir
    let s := s.when (d == 0 || turns) (fun s => s.peEstimate n vs ps)
    (s.setPeChan n { c with prev := some (vs, is, ps), dir := d }).wr (Reg.PE_VREF_VALUE n) v

/-- P_F and the drop run follow a step in TRACK (R306). -/
def peDrop (s : State) (n ps : Nat) : State :=
  let c := s.peChan n
  let pf := F32.add c.pf (F32.mul (F32.sub ps c.pf) (F32.lit 1 2000))
  let low := F32.lt ps (F32.mul (F32.lit (256 - s.rd Reg.PE_SWEEP_DROP : Nat) 256) pf)
  s.setPeChan n { c with pf := pf, dropRun := runOf 20 low c.dropRun }

/-- A curtailed step towards P_T (R305). -/
def peCurtailStep (s : State) (n ps pdc pav : Nat) : State :=
  let pt := F32.div (F32.mul pdc (s.rd (Reg.PE_PMPP_VALUE n))) pav
  let k := F32.mul (s.rd (Reg.PE_KCU_VALUE n)) (F32.abs (F32.sub ps pt))
  let step := F32.min (F32.max k (s.peStepMin n)) (s.peStepMax n)
  let v := s.rd (Reg.PE_VREF_VALUE n)
  if F32.gt ps (F32.mul pt (F32.lit 101 100)) then s.wr (Reg.PE_VREF_VALUE n) (F32.min (F32.add v step) (s.rd (Reg.PE_VMAX_VALUE n)))
  else if F32.lt ps (F32.mul pt (F32.lit 99 100)) then
    let down := F32.sub v step
    if F32.gt down (s.rd (Reg.PE_VMPP_VALUE n)) then s.wr (Reg.PE_VREF_VALUE n) down
    else (s.wr (Reg.PE_VREF_VALUE n) (s.rd (Reg.PE_VMPP_VALUE n))).wr (Reg.PE_PMPP_VALUE n) ps
  else s

/-- WAIT ends with valid records and a free pair (R301); the first entry to TRACK requests a sweep (R306). -/
def peStart (s : State) (n vs : Nat) : State :=
  if s.peBlocked n then s
  else
    let s := ((s.wr (Reg.PE_STATE_STATE n) peTrack).peForget n).wr (Reg.PE_VREF_VALUE n) vs
    if (s.peChan n).first then (s.setPeChan n { s.peChan n with first := false }).peRequest n 3 false else s

/-- One channel's part of a step: averages first (R300). -/
def peChanStep (s : State) (n pdc pav : Nat) : State :=
  if s.peState n = peOff then s
  else
    let c := s.peChan n
    let s := s.setPeChan n { c with acc := {} }
    match PeSum.means? c.acc with
    | none => s.incSat (Reg.PE_STATE_EMPTY n)
    | some (vs, is) =>
      let ps := F32.mul vs is
      let s := (s.wr (Reg.PE_STATE_EMPTY n) 0).wr (Reg.PE_PS_VALUE n) ps
      let s := s.when (s.peState n == peTrack && s.on Reg.PE_STATUS_CURTAILED) (fun s => s.wr (Reg.PE_STATE_STATE n) peCurtail)
      let st := s.peState n
      if st = peWait then s.peStart n vs
      else if st = peTrack then (s.peTrackStep n vs is ps).peDrop n ps
      else if st = peCurtail then s.peCurtailStep n ps pdc pav
      else s

/-- The available power (R304). -/
def pePav (s : State) : Nat :=
  ((List.range 6).filter fun n =>
    let st := s.peState n
    st == peTrack || st == peCurtail || st == peSweeping).foldl (fun a n => F32.add a (s.rd (Reg.PE_PMPP_VALUE n))) 0

/-- The DC limit (R304). -/
def pePdc (s : State) : Nat := F32.div (s.rd Reg.PE_LIM_VALUE) (s.rd Reg.PE_EFF_VALUE)

/-- The curtailment runs follow; without `CURT_EN` nothing limits (R304). -/
def peCurtRuns (s : State) (pdc pav : Nat) : State :=
  let en := s.on Reg.PE_CTRL_CURT_EN
  let low := en && F32.lt pdc (F32.mul pav (F32.sub F32.one (s.rd Reg.PE_CMARG_VALUE)))
  let high := !en || F32.ge pdc pav
  { s with pe := { s.pe with curtIn := runOf 4 low s.pe.curtIn, curtOut := runOf 4 high s.pe.curtOut } }

/-- A step (R300): none of it happens during ride-through, where the records of the span lapse (R302).
DEDUCED: the order (notes/assumptions 39). -/
def peStep (s : State) : State :=
  if s.peStopped then { s with pe := { s.pe with chans := s.pe.chans.map fun c => { c with acc := {} } } }
  else
    let pav := s.pePav
    let pdc := s.pePdc
    let s := s.wr Reg.PE_PAVAIL_VALUE pav
    let s := s.forEach (List.range 6) (fun s n => s.peChanStep n pdc pav)
    let s := s.peCurtRuns pdc pav
    let s := s.forEach (List.range 6) (fun s n =>
      let st := s.peState n
      if st == peTrack || st == peCurtail then s.peSubmit n (s.rd (Reg.PE_VREF_VALUE n)) else s)
    let s := s.when (s.on Reg.PE_CTRL_CURT_EN) (fun s =>
      s.dataPortPut (s.rd Reg.PE_CTRL_AVAIL_SP) (F32.mul pav (s.rd Reg.PE_EFF_VALUE)) (s.rd Reg.ORB_TICK_TICK))
    let sum := ((List.range 6).filter (fun n => s.peState n != peOff)).foldl (fun a n => F32.add a (s.rd (Reg.PE_PS_VALUE n))) 0
    State.peGrant { s with pe := { s.pe with psSum := sum } }

/-- Curtailment is entered (R304). -/
def peCurtailEnter (s : State) : State :=
  if s.on Reg.PE_CTRL_CURT_EN && !s.on Reg.PE_STATUS_CURTAILED && 4 ≤ s.pe.curtIn then
    let s := s.wr Reg.PE_STATUS_CURTAILED 1
    let s := s.forEach (List.range 6) (fun s n => if s.peState n = peTrack then s.wr (Reg.PE_STATE_STATE n) peCurtail else s)
    s.raise Ev.PE_CURTAIL
  else s

/-- Curtailment is left (R304). -/
def peCurtailLeave (s : State) : State :=
  if s.on Reg.PE_STATUS_CURTAILED && 4 ≤ s.pe.curtOut then
    let s := s.wr Reg.PE_STATUS_CURTAILED 0
    let s := s.forEach (List.range 6) (fun s n =>
      if s.peState n = peCurtail then (s.wr (Reg.PE_STATE_STATE n) peTrack).peForget n else s)
    s.raise Ev.PE_CURTAIL
  else s

/-- The drop threshold has been missed for 20 steps (R306): the request may be granted at this step. -/
def peShade (s : State) (n : Nat) : State :=
  if n < 6 && s.peState n == peTrack && 20 ≤ (s.peChan n).dropRun then
    let s := s.setPeChan n { s.peChan n with dropRun := 0 }
    ((s.peRequest n 0 true).raise Ev.PE_SHADE).peGrant
  else s

/-- The schedule period of a channel elapses (R306). -/
def peSchedule (s : State) (n : Nat) : State :=
  if n < 6 && s.rd Reg.PE_SWEEP_PER_MIN != 0 && s.peState n != peOff then s.peRequest n 1 true else s

/-! ### Sweep (R307 to R312) -/

/-- R(j): linear between the breakpoints of the active profile (R308). -/
def peFraction (s : State) (j : Nat) : Nat :=
  let k := (s.pe.prof.filter fun p => decide (p.1 ≤ j)).length
  let (p0, f0) := nth s.pe.prof (k - 1) (0, 0)
  if s.pe.prof.length ≤ k then f0
  else
    let (p1, f1) := nth s.pe.prof k (0, 0)
    F32.add f0 (F32.mul (F32.sub f1 f0) (F32.div (F32.ofNat (j - p0)) (F32.ofNat (p1 - p0))))

/-- Point `j` opens: its reference is submitted. -/
def peOpenPoint (s : State) (n voc j : Nat) : State := s.peSubmit n (F32.mul voc (s.peFraction j))

/-- The open-circuit phase ends (R307). Where no record of it was valid the spec states no V_oc: a free value. -/
def peVocEnd (s : State) : State :=
  match s.pe.sweep with
  | none => s
  | some w =>
    if w.voc.isSome then s
    else
      let (voc, est, s) :=
        if w.acc.vn = 0 then
          let (x, s) := s.takeFree
          (x % 2 ^ 32, false, s)
        else
          (F32.div w.acc.v (F32.ofNat w.acc.vn),
            w.acc.k != 0 && F32.ge (F32.div w.acc.i (F32.ofNat w.acc.k)) (s.rd (Reg.PE_IOC_VALUE w.ch)), s)
      let s := s.when est (fun s => s.wr Reg.PE_FLAGS_VOC_EST 1)
      (s.setPeSweep (some { w with voc := some voc, est := est, acc := {} })).peOpenPoint w.ch voc 0

/-- A point has been in force for FPP frames (R307): its pair is stored, and the next point opens. -/
def peSweepPoint (s : State) : State :=
  match s.pe.sweep with
  | none => s
  | some w =>
    match w.voc with
    | none => s
    | some voc =>
      let j := w.pts.length
      if 2048 ≤ j then s
      else
        let m := PeSum.means? w.acc
        let (v, i) := m.getD (F32.nan, F32.nan)
        let s := (s.setPeSweep (some { w with acc := {}, pts := m :: w.pts })).pePut w.ch (64 + 2 * j) [v, i]
        if j + 1 < 2048 then s.peOpenPoint w.ch voc (j + 1) else s

/-- A point of the curve: index, V, I, P and smoothed P. -/
structure PePoint where
  j : Nat
  v : Nat
  i : Nat
  p : Nat
  sm : Nat
  deriving DecidableEq, Repr

/-- The power of a stored point. -/
def pePower : Option (Nat × Nat) → Option Nat
  | some (v, i) => some (F32.mul v i)
  | none => none

/-- The valid points with their smoothed power: the mean over the valid ones of 9 indices (R309). -/
def peSmooth (pts : List (Option (Nat × Nat))) : List PePoint :=
  let ps := pts.map pePower
  (pts.zipIdx).filterMap fun (o, j) =>
    o.map fun (v, i) =>
      ⟨j, v, i, F32.mul v i, meanOf (((ps.drop (j - 4)).take (9 - (4 - j))).filterMap id)⟩

/-- The local maxima, highest first, at most four; of a plateau the lowest index (R309). -/
def peMaxima (l : List PePoint) : List PePoint :=
  let top := l.foldl (fun a x => F32.max a x.sm) (match l with | x :: _ => x.sm | [] => 0)
  let floor := F32.mul (F32.lit 1 10) top
  let c := l.filter fun x =>
    F32.ge x.sm floor && l.all fun y => !(decide (y.j ≤ x.j + 32) && decide (x.j ≤ y.j + 32)) || F32.ge x.sm y.sm
  let c := c.filter fun x => !c.any fun y => decide (y.j < x.j) && decide (x.j ≤ y.j + 32) && F32.ge y.sm x.sm
  (c.mergeSort (fun x y => F32.ge x.sm y.sm)).take 4

/-- Sums of a least-squares line: n, Σx, Σy, Σxx, Σxy, exact. -/
def lsSums (l : List (Nat × Nat)) : Dyadic × Dyadic × Dyadic × Dyadic :=
  l.foldl (fun (sx, sy, sxx, sxy) (x, y) =>
    let a := F32.toDyadic x
    let b := F32.toDyadic y
    (sx.add a, sy.add b, sxx.add (a.mul a), sxy.add (a.mul b))) (⟨0, 0⟩, ⟨0, 0⟩, ⟨0, 0⟩, ⟨0, 0⟩)

/-- A quotient of exact numbers, rounded once; none where the divisor is 0. -/
def dyQuot? (a b : Dyadic) : Option Nat :=
  let (x, y, _) := a.align b
  if y = 0 then none else some (F32.ofRatio (if y < 0 then -x else x) y.natAbs)

/-- Slope and value at 0 of the least-squares line of y on x; the quiet NaN below 16 points, none where all x agree (R311). -/
def lsLine (l : List (Nat × Nat)) : Option Nat × Option Nat :=
  if l.length < 16 then (some F32.nan, some F32.nan)
  else
    let n : Dyadic := ⟨l.length, 0⟩
    let (sx, sy, sxx, sxy) := lsSums l
    let d := (n.mul sxx).sub (sx.mul sx)
    (dyQuot? ((n.mul sxy).sub (sx.mul sy)) d, dyQuot? ((sy.mul sxx).sub (sx.mul sxy)) d)

/-- Take a stated figure, or a free value. -/
def orFree (s : State) (o : Option Nat) : Nat × State :=
  match o with
  | some x => (x, s)
  | none => let (x, s) := s.takeFree; (x % 2 ^ 32, s)

/-- The search ends (R309): the channel tracks again, and the sweep counts as completed. -/
def peSearchEnd (s : State) (w : PeSweep) (vref : Nat) : State :=
  let s := (s.setPeSweep none).wr Reg.PE_STATUS_SWEEP_CH 0
  let s := s.setPeChan w.ch { s.peChan w.ch with lastSweep := some s.now }
  let s := (s.wr (Reg.PE_STATE_STATE w.ch) peTrack).wr (Reg.PE_VREF_VALUE w.ch) vref
  s.raise Ev.PE_SWEEP_DONE

/-- The search of a valid curve (R309 to R311). -/
def peSearchValid (s : State) (w : PeSweep) (voc : Nat) : State :=
  let l := peSmooth w.pts.reverse
  let ms := peMaxima l
  let top : Option PePoint := ms.head?
  let (v, s) := s.orFree (top.map (·.v))
  let (i, s) := s.orFree (top.map (·.i))
  let (p, s) := s.orFree (top.map (·.p))
  let byV := (l.mergeSort (fun x y => F32.le x.v y.v))
  let (isc, s) := s.orFree (lsLine ((byV.take 205).map fun x => (x.v, x.i))).2
  let (slope, s) := s.orFree (lsLine ((byV.reverse.take 128).map fun x => (x.i, x.v))).1
  let rs := if F32.isNaN slope then F32.nan else F32.neg slope
  let ff := F32.div p (F32.mul voc isc)
  let maxima := ms.flatMap fun x => [x.v, x.p, x.j]
  let h := s.peHeader w (2 ^ 16 + 2 ^ 17 * b2n w.est) [voc, isc, v, i, p] maxima ms.length [ff, rs]
  let s := (s.pePutHeader w.ch h).peEstimate w.ch v p
  let s := (s.wr (Reg.PE_FF_VALUE w.ch) ff).wr (Reg.PE_RS_VALUE w.ch) rs
  (s.peSearchEnd w v).peForget w.ch

/-- The search of an invalid curve (R309): no maxima, no figures. -/
def peSearchInvalid (s : State) (w : PeSweep) (voc : Nat) : State :=
  let (f, s) := s.peFree 6
  let h := s.peHeader w (2 ^ 16 + 2 ^ 17 * b2n w.est + 2 ^ 18) (voc :: f.take 4) [] 0 (f.drop 4)
  let s := (s.pePutHeader w.ch h).wr Reg.PE_FLAGS_CURVE_INVALID 1
  s.peSearchEnd w w.before

/-- The search after the last point (R309). -/
def peSearch (s : State) : State :=
  match s.pe.sweep with
  | none => s
  | some w =>
    if w.pts.length < 2048 then s
    else
      let voc := w.voc.getD 0
      if 102 < (w.pts.filter (·.isNone)).length then s.peSearchInvalid w voc else s.peSearchValid w voc

/-! ### Profile (R308) -/

/-- The breakpoints of an image. -/
def peBreaks (ws : List Nat) : List (Nat × Nat) :=
  (List.range (fieldOf (nth ws 1 0) 0 5 + 1)).map fun k => (fieldOf (nth ws (4 + 2 * k) 0) 0 11, nth ws (5 + 2 * k) 0)

/-- An image passes the checks of R308. -/
def peProfileOk (ws : List Nat) : Bool :=
  let n := fieldOf (nth ws 1 0) 0 5
  let b := peBreaks ws
  ws.length == 40 && fieldOf (nth ws 0 0) 0 16 == 0x5045 && fieldOf (nth ws 0 0) 16 8 == 1 && decide (1 ≤ n) && decide (n ≤ 16)
    && (b.headD (1, 0)).1 == 0 && (b.getLastD (0, 0)).1 == 2047 && ascNat (b.map (·.1))
    && b.all fun p => F32.isFinite p.2 && F32.inRange p.2 (F32.lit 5 100) F32.one

/-- A sweep profile is complete (R52, R308). -/
def peProfileLoaded (s : State) (ws : List Nat) : State :=
  if peProfileOk ws then
    State.wr { s with pe := { s.pe with profWait := some ws }, cross := { s.cross with loadSweep := .waiting } }
      Reg.PE_PROF_STATUS_RESULT 1
  else
    let s := { s with cross := { s.cross with loadSweep := .idle } }
    (s.wr Reg.PE_FLAGS_PROFILE_ERR 1).wr Reg.PE_PROF_STATUS_RESULT 2

/-- The switch at a boundary, or after the running sweep (R308). -/
def peProfileSwitch (s : State) : State :=
  match s.pe.profWait with
  | none => s
  | some ws =>
    if s.pe.sweep.isSome then s
    else
      State.wr { s with pe := { s.pe with profWait := none, prof := peBreaks ws }, cross := { s.cross with loadSweep := .idle } }
        Reg.PE_PROF_STATUS_PROFILE_ID (fieldOf (nth ws 1 0) 16 16)

/-- Digest word 11 (R313). -/
def peDigest (s : State) : Nat :=
  let m (st : Nat) : Nat := (List.range 6).foldl (fun a n => a + 2 ^ n * b2n (s.peState n == st)) 0
  let p := (F32.toInt (F32.div s.pe.psSum (F32.ofNat 100))).toNat
  m peTrack + 64 * m peCurtail + 4096 * s.rd Reg.PE_STATUS_SWEEP_CH + 32768 * s.rd Reg.PE_STATUS_CURTAILED + 65536 * Nat.min max16 p

/-- An operation of grid support, after which Eclipse is suspended where NORMAL was left (R285), and a sweep is aborted where a
ride-through began (R302). -/
def gsAct (s : State) (f : State → State) : State :=
  let t := s.gsThen f
  if t.peStopped then t.peAbort peTrack else t

end State

/-- GS_RT_ENTER (R275, R291): the confirmed entry of R273. -/
def execGsRtEnter (e : RtEntry) (s : State) : Out := .next (s.gsAct (fun s => s.rtEnter e))

/-- GS_CURVE_VIOLATION (R276). -/
def execGsCurveViolation (s : State) : Out := .next (s.gsAct State.curveTrip)

/-- GS_ZV_TIMEOUT (R275). -/
def execGsZvTimeout (s : State) : Out := .next (s.gsAct State.zvTimeout)

/-- GS_DISABLE (R275). -/
def execGsDisable (m : Master) (s : State) : Out := .next (s.access m 0x40008000 .cr (fun s => s.gsAct State.gsDisable))

/-- PE_STEP (R300). -/
def execPeStep (s : State) : Out := .next s.peStep

/-- PE_NOSAMP (R300, R301). -/
def execPeNosamp (n : Nat) (s : State) : Out := .next (s.peNosamp n)

/-- PE_CURTAIL_ENTER (R304). -/
def execPeCurtailEnter (s : State) : Out := .next s.peCurtailEnter

/-- PE_CURTAIL_LEAVE (R304). -/
def execPeCurtailLeave (s : State) : Out := .next s.peCurtailLeave

/-- PE_SHADE (R306). -/
def execPeShade (n : Nat) (s : State) : Out := .next (s.peShade n)

/-- PE_SWEEP_SCHEDULE (R306). -/
def execPeSweepSchedule (n : Nat) (s : State) : Out := .next (s.peSchedule n)

/-- PE_SWEEP_CMD (R306): a write of `PE_CMD`. -/
def execPeSweepCmd (m : Master) (mask : Nat) (s : State) : Out :=
  .next (s.access m 0x4007000C .dr (fun s => s.forEach (bitsOf 6 mask) (fun s n => s.peRequest n 2 false)))

/-- PE_VOC_END (R307). -/
def execPeVocEnd (s : State) : Out := .next s.peVocEnd

/-- PE_SWEEP_POINT (R307). -/
def execPeSweepPoint (s : State) : Out := .next s.peSweepPoint

/-- PE_SWEEP_SEARCH (R309). -/
def execPeSweepSearch (s : State) : Out := .next s.peSearch

/-- PE_PAIR_BLOCKED (R301). -/
def execPePairBlocked (n : Nat) (s : State) : Out := .next (s.peBlock n)

/-- PE_PAIR_UNBLOCKED (R301). -/
def execPePairUnblocked (n : Nat) (s : State) : Out := .next (s.peUnblock n)

/-- PE_CHANNEL_ENABLE (R301). -/
def execPeChannelEnable (m : Master) (n : Nat) (s : State) : Out :=
  .next (if n < 6 then s.access m 0x40070000 .dr (fun s => s.peEnable n) else s)

/-- PE_CHANNEL_DISABLE (R301). -/
def execPeChannelDisable (m : Master) (n : Nat) (s : State) : Out :=
  .next (if n < 6 then s.access m 0x40070000 .dr (fun s => s.peDisable n) else s)

/-- PE_PROFILE_SWITCH (R308). -/
def execPeProfileSwitch (s : State) : Out := .next s.peProfileSwitch

end Sys2Proof.Machine
end

