-- ==== Sys2Proof/Machine/OrbitSteps.lean ====
section
/-! DEFINITION. Machine/OrbitSteps.lean: the steps of the tracker and of the operation table that also touch grid support, Eclipse, the
loop engines, the converters, PWM and Comet (R77 to R99). -/

namespace Sys2Proof.Machine

namespace State

/-- One tracker sample, and with it the 10 µs samples of grid support and of the passive detectors (R77, R272, R283). -/
def trackerSample (s : State) (tick : Nat) (t : TrackerSample) : State :=
  (((s.toTick tick).orbSample t).gsSample tick).eeSample

/-- A taken set of carrier settings that holds a value. -/
def carrierAny (c : CarrierCfg) : Bool := c.ncar.isSome || c.div.isSome || c.fnom.isSome || c.offset.isSome

/-- The carrier settings take effect at a valley of carrier 0, and the engines judge their budgets again (R84, R150). -/
def configApply (s : State) : State :=
  if s.orbit.carIdx = 0 && carrierAny s.orbit.taken then (s.orbConfigApply.leBudgetCheck 0).leBudgetCheck 1 else s

/-- FOLLOW is left, and Eclipse takes note (R81, R289). -/
def groupLoss (s : State) : State :=
  let t := s.orbGroupLoss
  if s.orbState = orbFollow && t.orbState != orbFollow then t.eeGroupLoss.gsHold else t

/-! ### Issue (R93 to R97) -/

/-- A slot has done what it does in this frame: it does not fire in it again. -/
def slotSpent (s : State) (slot : Nat) : State :=
  { s with orbit := { s.orbit with eccSlots := slot :: s.orbit.eccSlots } }

/-- A double-bit error of a slot word (R93). -/
def slotEcc (s : State) (slot : Nat) : State := (s.slotSpent slot).flagRaise Reg.ORB_FLAGS_SLOT_ECC Ev.ORB_SLOT_ECC

/-- The snapshot operation (R92, R95, R198, R370): its registers latch 1 tB after the issue at tick `tick`. -/
def snapshotOp (s : State) (arg tick : Nat) : State :=
  let s := s.toTick (tick + 1)
  let s := s.when (hasBit arg 0) (fun s =>
    ((s.wr Reg.ORB_SNAP_ANGLE_THETA (s.rd Reg.ORB_ANGLE_THETA)).wr Reg.ORB_SNAP_FRAME_COUNT (s.rd Reg.ORB_FRAME_COUNT)).wr
      Reg.ORB_SNAP_TICK_TICK (s.rd Reg.ORB_TICK_TICK))
  let s := s.when (hasBit arg 1) (fun s =>
    s.forEach (List.range 8) (fun s c => s.forEach (List.range 12) (fun s h =>
      s.wr (Reg.SAR_SNAP_WORD c h) (s.rd (Reg.SAR_LATEST_WORD c h)))))
  let s := s.when (hasBit arg 2) pwmSnapshot
  s.when (hasBit arg 3) cmtSnapshot

/-- An issued operation reaches its target: the targets within Orbit act and retire at once, one that names no converter
has nothing to wait for, and the rest stay outstanding (R92, R95). -/
def opAct (s : State) (o : OrbOp) (tick : Nat) : State :=
  match o.tgt with
  | 0 => s.retire o.slot
  | 1 => if o.arga % 256 = 0 then s.retire o.slot else s
  | 6 => if tick + 1 < s.frameLen then (s.snapshotOp o.arga tick).retire o.slot else s
  | 7 => ((s.wr Reg.ORB_STATUS_MARK (o.arga % 4)).raise Ev.ORB_MARK).retire o.slot
  | _ => s

/-- The operation that slot `slot` of the active bank issues now, with the frame tag and the epoch (R97). -/
def opOfSlot (s : State) (slot : Nat) (sent : Bool) : OrbOp :=
  ⟨slot, fieldOf (bankWord s.activeBank (4 * slot)) 4 4, bankWord s.activeBank (4 * slot + 2),
   bankWord s.activeBank (4 * slot + 3), s.rd Reg.ORB_FRAME_COUNT % 256, s.rd Reg.ORB_EPOCH_EPOCH, sent⟩

/-- A slot fires at a tick, its trigger having come at tick `trig` (R91, R92, R97): past the last tick of the frame the
operation stays unissued and is cancelled at the boundary. -/
def slotFire (s : State) (slot tick trig : Nat) : State :=
  let sent := decide (tick < s.frameLen)
  let o := s.opOfSlot slot sent
  let s := { s with orbit := { s.orbit with ops := s.orbit.ops ++ [o] } }
  if sent then
    let delay := Nat.min 255 (tick - Nat.max trig 8)
    let s := s.wr (Reg.ORB_SLOT_STAT_ISSUED slot) 1
    let s := s.wr Reg.ORB_ISSUE_MAX_DELAY (Nat.max (s.rd Reg.ORB_ISSUE_MAX_DELAY) delay)
    s.opAct o tick
  else s.slotSpent slot

/-- Slot `slot` is taken up at a tick; `eccBad` says that a word of it read with a double-bit error. -/
def slotIssue (s : State) (slot tick : Nat) (eccBad : Bool) : State :=
  let tick := Nat.max tick 8
  let s := s.toTick (Nat.min tick (s.frameLen - 1))
  let s := s.when (eccBad && !s.orbit.eccSlots.contains slot) (fun s => s.slotEcc slot)
  match s.slotOutcome slot with
  | .idle => s
  | .beyond => (s.slotSpent slot).wr Reg.ORB_FLAGS_TICK_BEYOND 1
  | .stale => ((s.slotSpent slot).incSat Reg.ORB_STALE_COUNT_COUNT).wr Reg.ORB_FLAGS_STALE 1
  | .fires t => s.slotFire slot tick t

end State

/-- ORB_TRACKER_SAMPLE (R77, R272, R283): at a tick of the frame. -/
def execOrbTrackerSample (tick : Nat) (t : TrackerSample) (s : State) : Out := .next (s.trackerSample tick t)

/-- ORB_VOLTAGE_PRESENT (R80, R81). -/
def execOrbVoltagePresent (s : State) : Out := .next s.orbVoltagePresent.gsHold

/-- ORB_VOLTAGE_ABSENT (R80, R81, R282). -/
def execOrbVoltageAbsent (s : State) : Out := .next s.orbVoltageAbsent.gsHold

/-- ORB_LOCK_ACHIEVED (R80, R81, R282). -/
def execOrbLockAchieved (s : State) : Out := .next s.orbLockAchieved.gsHold

/-- ORB_LOCK_LOST (R80, R81, R282). -/
def execOrbLockLost (s : State) : Out := .next s.orbLockLost.gsHold

/-- ORB_FLYWHEEL_LIMIT (R81). -/
def execOrbFlywheelLimit (s : State) : Out := .next s.orbFlyLimit.gsHold

/-- ORB_GROUP_LOSS (R81, R289). -/
def execOrbGroupLoss (s : State) : Out := .next s.groupLoss

/-- ORB_CONFIG_APPLY (R84, R150). -/
def execOrbConfigApply (s : State) : Out := .next s.configApply

/-- ORB_SLOT_ISSUE (R93, R96, R97): slots 0 to 255. -/
def execOrbSlotIssue (slot tick : Nat) (eccBad : Bool) (s : State) : Out :=
  .next (if slot < 256 then s.slotIssue slot tick eccBad else s)

end Sys2Proof.Machine
end

