-- ==== Sys2Proof/Machine/Boundary.lean ====
section
/-! DEFINITION. Machine/Boundary.lean: the boundary of a frame, the observation tap and the status digest (R40, R56 to R62, R88 to
R92). -/

namespace Sys2Proof.Machine

namespace State

/-! ### Status digest (R59, R60) -/

/-- One bit for each index below `n` whose flag holds. -/
def maskOf (n : Nat) (f : Nat → Bool) : Nat := (List.range n).foldl (fun a i => if f i then setBit a i else a) 0

/-- Digest word 2. -/
def digestWord2 (s : State) : Nat :=
  s.rd Reg.ORB_EPOCH_EPOCH + 256 * s.rd Reg.CP_STATUS_ACTIVE + 512 * s.rd Reg.CP_STATUS_STANDBY_READY
    + 1024 * b2n (s.orbState == orbLocked) + 2048 * b2n (s.orbState == orbFlywheel)
    + 65536 * Nat.min 255 s.orbit.ops.length + 16777216 * Nat.min 255 s.cross.lateCommits

/-- Digest word 8: clusters tripped, drive dies faulted, comparator windows tripped. -/
def digestWord8 (s : State) : Nat :=
  maskOf 3 (fun c => s.on (Reg.CL_STATUS_TRIPPED c)) + 8 * s.rd Reg.DRV_STATUS_FAULTED + 512 * s.rd Reg.CMP_OUT_OUT

/-- Words 0 to 9 and 13 of the ending frame are frozen at its boundary, before anything of the next frame; words 6 and 7 are
free values (DESIGN CHOICE, notes/assumptions 17). -/
def digestFreeze (s : State) : State :=
  let c := s.cross
  if s.on Reg.DIG_CTRL_EN then
    let (p, s) := s.takeFree
    let (q, s) := s.takeFree
    let ws := [s.rd Reg.ORB_FRAME_COUNT, s.rd Reg.ORB_FRAME_ANGLE_THETA, s.digestWord2, s.vPlus, s.rd Reg.ORB_VNEG_MAG_VALUE,
      s.rd Reg.ORB_FREQ_VALUE, p % 2 ^ 32, q % 2 ^ 32, s.digestWord8, s.gsDigest, c.epochDiscards + 65536 * c.tapLost]
    { s with cross := { s.cross with digest := some ws, epochDiscards := 0, tapLost := 0, lateCommits := 0 } }
  else { s with cross := { c with digest := none, lateCommits := 0 } }

/-- The sixteen words of a digest from the frozen ones and the data plane's latest values; a digest that fails its check
carries a word 15 that the spec does not give. -/
def digestWords (s : State) (fz : List Nat) (bad : Option Nat) : List Nat :=
  let ws := fz.take 10 ++ [s.eeDigest, s.peDigest, s.cross.granules % 2 ^ 32, nth fz 10 0, 0]
  ws ++ [bad.getD (crc32cWords ws)]

/-- The next entry of the ring is written and the pointers move (R60). -/
def digestWrite (s : State) (ws : List Nat) : State :=
  let w := s.rd Reg.DIG_PTR_WPTR
  let u := s.rd Reg.DIG_PTR_UNREAD
  let s := s.forEach (List.range 16) (fun s i => s.wr (Reg.DIG_RING_WORD (16 * w + i)) (nth ws i 0))
  let s := s.wr Reg.DIG_PTR_WPTR (w + 1)
  if u = 8 then (s.wr Reg.DIG_PTR_RPTR (s.rd Reg.DIG_PTR_RPTR + 1)).incSat Reg.DIG_PTR_LOST
  else s.wr Reg.DIG_PTR_UNREAD (u + 1)

/-- A digest is complete (R59 to R61). -/
def digestComplete (s : State) (crcOk : Bool) : State :=
  match s.cross.digest with
  | none => s
  | some fz =>
    let (x, s) := if crcOk then (none, s) else let (v, s) := s.takeFree; (some (v % 2 ^ 32), s)
    let ws := s.digestWords fz x
    let fails := if crcOk then 0 else satInc 3 s.cross.digestFails
    let s := { s with cross := { s.cross with digest := none, lastDigest := ws, granules := 0, digestFails := fails } }
    let s := (s.digestWrite ws).raise Ev.DIGEST_READY
    s.when (!crcOk && fails == 3) crossFault

/-! ### Observation tap (R56, R58) -/

/-- The value of a tap channel's source; none where the index names no item (R63, R105, R198, R237, R293). -/
def tapValue? (s : State) (src i : Nat) : Option Nat :=
  match src with
  | 1 => if i < 128 && i % 16 < 12 then some (s.rd (Reg.SAR_LATEST_WORD (i / 16) (i % 16))) else none
  | 2 => s.orbItem? i
  | 3 => some (s.leSig 0 i)
  | 4 => some (s.leSig 1 i)
  | 5 => s.pwmTap? i
  | 6 => s.gsTap? i
  | _ => none

/-- A channel is due in a frame. -/
def tapDue (s : State) (n : Nat) : Bool :=
  s.rd (Reg.TAP_SEL_SRC n) != 0 && s.rd Reg.ORB_FRAME_COUNT % 2 ^ s.rd (Reg.TAP_SEL_DECIM n) == 0

/-- The record of a channel at a boundary. DEDUCED (notes/assumptions 18). -/
def tapRecord (s : State) (n : Nat) : TapRecord :=
  let src := s.rd (Reg.TAP_SEL_SRC n)
  let i := s.rd (Reg.TAP_SEL_INDEX n)
  let v := s.tapValue? src i
  ⟨v.getD 0, n, s.rd Reg.ORB_FRAME_COUNT % 256, s.rd Reg.ORB_EPOCH_EPOCH, v.isNone,
   Config.tapStale n src i (s.rd Reg.ORB_FRAME_COUNT)⟩

/-- The due channels capture; a record of an earlier boundary that was never delivered is lost. -/
def tapCapture (s : State) : State :=
  let c := s.cross
  { s with cross := { c with tapLost := satAdd max16 c.tapLost c.taps.length,
                             taps := ((List.range 16).filter s.tapDue).map s.tapRecord } }

/-- A captured record is delivered, or discarded for its epoch (R58). -/
def tapDeliver (s : State) (chan : Nat) : State :=
  match s.cross.taps.find? (fun r => r.chan == chan) with
  | none => s
  | some r =>
    let s := { s with cross := { s.cross with taps := s.cross.taps.filter (fun r => r.chan != chan) } }
    if r.epoch != s.rd Reg.ORB_EPOCH_EPOCH then s.epochDiscard
    else
      let s := { s with cross := { s.cross with tapIn := r :: s.cross.tapIn.filter (fun r => r.chan != chan) } }
      (s.eeRecord r).peRecord r

/-! ### Boundary -/

/-- What waits in the mailbox comes one boundary nearer (R53, R55). -/
def mailboxBoundary (s : State) : State :=
  let c := s.cross
  { s with cross := { c with sub := c.sub.map (fun x => { x with due := x.due - 1 }),
                             dataPort := c.dataPort.map (fun x => { x with due := x.due - 1 }) } }

/-- The boundary of a frame (R62, R88 to R92): the digest's words freeze, the ending frame drains, the counters move, and each
block does its part of the boundary; then the tap captures. -/
def frameBoundary (s : State) : State :=
  let s := s.digestFreeze.leBoundary.orbBoundary.mailboxBoundary
  let turns := s.orbit.carIdx == 0
  let s := ((s.pairsBoundary.pwmBoundary turns).driveBoundary turns).senseBoundary
  let s := ((s.cmpBoundary 0).cmpBoundary 1).gsBoundary.eeBoundary
  s.cmtBoundary.tapCapture

end State

/-- FRAME_BOUNDARY (R88 to R92). -/
def execFrameBoundary (s : State) : Out := .next s.frameBoundary

/-- TAP_RECORD_DELIVER (R56, R58). -/
def execTapRecordDeliver (chan : Nat) (s : State) : Out := .next (s.tapDeliver chan)

/-- DIGEST_COMPLETE (R59 to R61). -/
def execDigestComplete (crcOk : Bool) (s : State) : Out := .next (s.digestComplete crcOk)

end Sys2Proof.Machine
end

