-- ==== Sys2Proof/Machine/Metering.lean ====
section
/-! DEFINITION. Machine/Metering.lean: the revenue metering engine (R316 to R339). Sums over a granule are exact; published values are
rounded once to binary32 (DEDUCED, notes/assumptions 41). -/

namespace Sys2Proof.Machine

namespace State

abbrev meOff : Nat := 0
abbrev meSettling : Nat := 1
abbrev meRun : Nat := 2

def meState (s : State) : Nat := s.rd Reg.ME_STATUS_STATE
def setMe (s : State) (m : MeSt) : State := { s with me := m }

/-- `ME_FAULT`: once in a granule (R338). -/
def meFault (s : State) : State :=
  if s.me.faulted then s
  else State.raise { s with me := { s.me with faulted := s.meState != meOff } } Ev.ME_FAULT

/-! ### Exact quotients -/

/-- An exact number over a count, rounded once. -/
def overNat (d : Dyadic) (n : Nat) : Nat :=
  if 0 ≤ d.exp then F32.ofRatio (d.mant * 2 ^ d.exp.toNat) n else F32.ofRatio d.mant (n * 2 ^ (-d.exp).toNat)

/-- The root of an exact number over a count, rounded once; 0 for nothing. -/
def rootOver (d : Dyadic) (n : Nat) : Nat :=
  if n = 0 || d.mant ≤ 0 then 0
  else
    let k : Int := 96 + n.log2
    let k := if (d.exp - k) % 2 = 0 then k else k + 1
    let m := d.mant.natAbs * 2 ^ k.toNat
    let q := m / n
    let r := F32.isqrt q
    F32.roundMag false r ((d.exp - k) / 2) (r * r != q || m % n != 0)

/-- The floor of an exact number over a count. -/
def floorOver (d : Dyadic) (n : Nat) : Int := (Dyadic.floor ⟨d.mant, d.exp⟩ : Int) / n

def Dyadic.ofF (x : Nat) : Dyadic := F32.toDyadic x
def Dyadic.scale (k : Int) (d : Dyadic) : Dyadic := ⟨k * d.mant, d.exp⟩

/-! ### Calibration (R316, R317, R336) -/

/-- The registers of the calibration, in register order. -/
def meCalRegs : List Fld :=
  ((List.range 7).flatMap fun c =>
    [Reg.ME_GAIN_VALUE c, Reg.ME_OFF_CODE c] ++ if 3 ≤ c then [Reg.ME_PH_PH c] else [])
  ++ ((List.range 4).flatMap fun f => [Reg.ME_NLTH_P_VALUE f, Reg.ME_NLTH_Q_VALUE f, Reg.ME_NLTH_S_VALUE f])
  ++ [Reg.ME_NRES_TH_VALUE]

/-- The applied calibration words, in register order. -/
def meCalWords (s : State) : List Nat :=
  ((List.range 7).flatMap fun c =>
    [nth s.me.gain c 0, nth s.me.off c 0] ++ if 3 ≤ c then [nth s.me.ph c 0] else []) ++ s.me.nlth ++ [s.me.nres]

/-- The shadows apply together, and `ME_CAL_CRC` follows (R317). -/
def meApplyCal (s : State) : State :=
  if s.me.calPend then
    let all (f : Nat → Fld) : List Nat := (List.range 7).map fun c => s.rd (f c)
    let nl := (List.range 4).flatMap fun f => [s.rd (Reg.ME_NLTH_P_VALUE f), s.rd (Reg.ME_NLTH_Q_VALUE f), s.rd (Reg.ME_NLTH_S_VALUE f)]
    let s := s.setMe { s.me with gain := all Reg.ME_GAIN_VALUE, off := all Reg.ME_OFF_CODE, ph := all Reg.ME_PH_PH, nlth := nl,
                                 nres := s.rd Reg.ME_NRES_TH_VALUE, calPend := false }
    s.wr Reg.ME_CAL_CRC_CRC (crc32cWords s.meCalWords)
  else s

/-- The register of a calibration value, where there is one. -/
def meCalFld? : MeCal → Option Fld
  | .gain c => if c < 7 then some (Reg.ME_GAIN_VALUE c) else none
  | .off c => if c < 7 then some (Reg.ME_OFF_CODE c) else none
  | .ph c => if 3 ≤ c && c < 7 then some (Reg.ME_PH_PH c) else none
  | .nlth f w =>
    if 4 ≤ f then none
    else if w = 0 then some (Reg.ME_NLTH_P_VALUE f) else if w = 1 then some (Reg.ME_NLTH_Q_VALUE f)
    else if w = 2 then some (Reg.ME_NLTH_S_VALUE f) else none
  | .nres => some Reg.ME_NRES_TH_VALUE

/-- A gain would exceed the peak product of its phase: |g_V| × |g_I| × 2^46 above 2^26 (R317). -/
def meGainTooBig (s : State) (c v : Nat) : Bool :=
  if 6 ≤ c then false
  else
    let o := F32.abs (s.rd (Reg.ME_GAIN_VALUE (if c < 3 then c + 3 else c - 3)))
    let g := F32.abs v
    !F32.isFinite g || !((Dyadic.ofF g).mul (Dyadic.ofF o)).le ⟨1, -20⟩

/-- A calibration write (R317): a shadow, applied at the next granule edge; at once while ME is OFF. -/
def meCalWrite (s : State) (k : MeCal) (v : Nat) : State :=
  match meCalFld? k with
  | none => s
  | some f =>
    if s.on Reg.ME_CTRL_CAL_LOCK then s.wr Reg.ME_FLAGS_CFG_ERR 1
    else
      let bad := match k with
        | .gain c => s.meGainTooBig c v
        | _ => false
      if bad then (s.wr Reg.ME_FLAGS_CAL_ERR 1).meFault
      else
        let s := s.wr f v
        let s := s.setMe { s.me with calPend := true }
        if s.meState = meOff then s.meApplyCal else s

/-- `CAL_LOCK` is written 1, where the field still takes a write: MC stores the record in two copies (R336). -/
def meCalLock (s : State) : State :=
  if s.rw1.contains Reg.ME_CTRL_CAL_LOCK.key then s
  else
    let r := s.meCalWords ++ [s.rd Reg.ME_CAL_CRC_CRC]
    State.wrOnce { s with nv := { s.nv with cal := [r, r] } } Reg.ME_CTRL_CAL_LOCK 1

/-- A copy of the record is valid: its words have the stored CRC. -/
def meCopyOk (r : List Nat) : Bool := r.length == 32 && crc32cWords r.dropLast == r.getLastD 0

/-- MC writes the record back while ME is OFF (R336). -/
def meCalRestore (s : State) : State :=
  if s.meState != meOff then s
  else
    match s.nv.cal.find? meCopyOk with
    | none => s.flagRaise Reg.ME_FLAGS_CAL_CHANGED Ev.ME_FAULT
    | some r =>
      let s := s.forEach (meCalRegs.zip r) (fun s (f, v) => s.wr f v)
      let s := State.meApplyCal (s.setMe { s.me with calPend := true })
      if s.rd Reg.ME_CAL_CRC_CRC = r.getLastD 0 then
        s.when (s.rd Reg.SEC_LC_STATE == 3) (fun s => s.wrOnce Reg.ME_CTRL_CAL_LOCK 1)
      else s.flagRaise Reg.ME_FLAGS_CAL_CHANGED Ev.ME_FAULT

/-! ### Samples (R316, R318, R320, R322) -/

/-- The angle of a set that arrives now (R243). -/
def meAngle (s : State) : Nat :=
  let x : Int := s.rd Reg.ORB_ANGLE_THETA * 65536 + s.orbit.thetaFrac - s.rd Reg.ORB_DTHETA_INC * 200032
  (x / 65536 % (turn : Int)).toNat

/-- A set holds a placeholder or an unsettled sample, or is short. -/
def meSetBad (ws : List Nat) : Bool := ws.length != 7 || ws.any fun w => fieldOf w 24 3 == 7 || hasBit w 28

/-- The value of a channel before its delay: (CODE − offset) × gain. -/
def meValue (s : State) (c : Nat) (code : Int) : Dyadic :=
  let g := Dyadic.ofF (nth s.me.gain c 0)
  ⟨(code - toSigned 24 (nth s.me.off c 0)) * g.mant, g.exp⟩

/-- Six times the third-order Lagrange interpolation of the four newest values at a delay of `p`/4096 sample (R316). -/
def lagrange6 (p : Int) (x : List Dyadic) : Dyadic :=
  let d (k : Int) : Int := p - 4096 * k
  let h0 := -(d 1 * d 2 * d 3)
  let h1 := 3 * (d 0 * d 2 * d 3)
  let h2 := -(3 * (d 0 * d 1 * d 3))
  let h3 := d 0 * d 1 * d 2
  let t (h : Int) (k : Nat) : Dyadic := let y := nth x k Dyadic.zero; ⟨h * y.mant, y.exp - 36⟩
  (((t h0 0).add (t h1 1)).add (t h2 2)).add (t h3 3)

/-- θ passes the rising zero between two sets (R320). -/
def meEdge (a b : Nat) : Bool := 2147483648 ≤ a && b < 2147483648 && angSub b a < 1073741824

/-- A granule edge (R317, R320, R328, R333): the shadows apply; the running granule ends; the next begins. -/
def meGranEdge (s : State) : State :=
  let s := State.meApplyCal (s.setMe { s.me with faulted := false })
  let st := s.meState
  if st = meRun || (st = meSettling && 4 ≤ s.me.settleRun) then
    let s := s.wr Reg.ME_STATUS_STATE meRun
    let m := s.me
    let late := m.ival.due.isSome
    let gs := m.grans.map fun g => if g.ended then g else { g with ended := true, late := late }
    let iv :=
      if m.ival.active then m.ival
      else { active := true, start := s.rd Reg.UMB_SECONDS_SEC, unknown := s.on Reg.UMB_STATUS_TIME_UNKNOWN, part := true }
    let fresh := !m.ival.active
    let s := s.setMe { m with grans := gs ++ [{ id := m.lastGran + 1 }], lastGran := m.lastGran + 1, ival := iv }
    s.when fresh (fun s => s.forEach (List.range 64) (fun s k => s.wr (Reg.ME_RUN_ACC_MIRROR (k / 8) (k % 8)) 0))
  else s

/-- A voltage shifted by the Hilbert filter and clamped to full scale (R318). -/
def meHilbert (s : State) (f : Nat) : Dyadic :=
  let v := s.me.hist.map fun x => F32.ofDyadic (nth x.x f Dyadic.zero)
  let h := Dyadic.ofF (Config.hilbert v % 2 ^ 32)
  let g := Dyadic.ofF (F32.abs (nth s.me.gain f 0))
  let fs : Dyadic := ⟨g.mant, g.exp + 23⟩
  if fs.lt h then fs else if h.lt fs.neg then fs.neg else h

/-- The products of a set enter its granule (R318). -/
def meProducts (s : State) (x : MeSet) (g : MeGran) : MeGran :=
  let v (c : Nat) : Dyadic := nth x.x c Dyadic.zero
  let co := Dyadic.ofF (F32.cosTurn x.theta)
  let si := Dyadic.ofF (F32.sinTurn x.theta)
  let ph := (List.range 3).map fun f =>
    let a := nth g.ph f {}
    let u := v f
    let i := v (f + 3)
    { vv := a.vv.add (u.mul u), ii := a.ii.add (i.mul i), vi := a.vi.add (u.mul i), hi := a.hi.add ((s.meHilbert f).mul i),
      vr := a.vr.add (u.mul co), vm := a.vm.sub (u.mul si), ir := a.ir.add (i.mul co), im := a.im.sub (i.mul si) : MePhase }
  let r := (((v 3).add (v 4)).add (v 5)).add (v 6)
  { g with done := g.done + 1, ph := ph, inn := g.inn.add ((v 6).mul (v 6)), res := g.res.add (r.mul r),
           raw := (g.raw.zip x.codes).map (fun p => p.1 + p.2), rawSq := (g.rawSq.zip x.codes).map (fun p => p.1 + p.2 * p.2) }

/-- The set that is 63 periods old has its whole Hilbert window: its products are formed. -/
def meForm (s : State) : State :=
  match s.me.hist[63]? with
  | none => s
  | some x => s.setMe { s.me with grans := s.me.grans.map fun g => if g.id = x.gran then s.meProducts x g else g }

/-- The codes of a valid set that were clamped are flagged (R316). -/
def meOvr (s : State) (ws : List Nat) : State :=
  let m := (List.range 7).foldl (fun a c => if hasBit (nth ws c 0) 27 then a + 2 ^ c else a) 0
  if m = 0 then s else (s.wr Reg.ME_FLAGS_OVR (s.rd Reg.ME_FLAGS_OVR ||| m)).meFault

/-- A sample set arrives with its angle (R316, R320, R322). -/
def meSample (s : State) (ws : List Nat) : State :=
  let s := s.wr Reg.ME_STATUS_TIME_UNKNOWN (s.rd Reg.UMB_STATUS_TIME_UNKNOWN)
  if s.meState = meOff then s
  else
    let bad := meSetBad ws
    let th := s.meAngle
    let edge := match s.me.hist with
      | x :: _ => meEdge x.theta th
      | [] => false
    let s := s.setMe { s.me with lastValid := if bad then s.me.lastValid else ws, substRun := runOf max32 bad s.me.substRun,
                                 settleRun := runOf 4 (!bad) s.me.settleRun }
    let s := s.when edge State.meGranEdge
    let s := if bad then s.incSat Reg.ME_SUBST_COUNT_COUNT else s.meOvr ws
    let codes := s.me.lastValid.map fun w => toSigned 24 (w % 2 ^ 24)
    let plain := (List.range 7).map fun c => s.meValue c (nth codes c 0)
    let prev (c : Nat) : List Dyadic := (s.me.hist.take 3).map fun h => s.meValue c (nth h.codes c 0)
    let x := (List.range 7).map fun c =>
      if c < 3 then nth plain c Dyadic.zero
      else lagrange6 (toSigned 16 (nth s.me.ph c 0)) (nth plain c Dyadic.zero :: prev c)
    let run := s.meState == meRun
    let id := if run then s.me.lastGran else 0
    let s := s.setMe { s.me with hist := (⟨th, id, bad, codes, x⟩ :: s.me.hist).take 127,
                                 grans := s.me.grans.map fun g =>
                                   if run && g.id == id then { g with sets := g.sets + 1, subst := g.subst + b2n bad } else g }
    s.meForm

/-- 64 substituted sets in a row (R322). -/
def meLost (s : State) : State :=
  if s.meState = meRun && 64 ≤ s.me.substRun then
    let m := s.me
    let s := s.setMe { m with grans := m.grans.filter (·.ended), settleRun := 0, faulted := false, ival := { m.ival with incomplete := true } }
    (s.wr Reg.ME_STATUS_STATE meSettling).incSat Reg.ME_LOST_COUNT_COUNT
  else s

/-! ### Accumulators (R319, R323, R326, R329) -/

def meAcc (s : State) (k : Nat) : Nat := s.rd (Reg.ME_ACC_LO_WORD (k / 8) (k % 8)) + 2 ^ 32 * s.rd (Reg.ME_ACC_HI_WORD (k / 8) (k % 8))
def setMeAcc (s : State) (k v : Nat) : State :=
  (s.wr (Reg.ME_ACC_LO_WORD (k / 8) (k % 8)) v).wr (Reg.ME_ACC_HI_WORD (k / 8) (k % 8)) (v / 2 ^ 32)

/-- The wrap counter of an accumulator. -/
def meWrapFld (k : Nat) : Fld :=
  match k % 4 with
  | 0 => Reg.ME_WRAP_WRAP0 (k / 4)
  | 1 => Reg.ME_WRAP_WRAP1 (k / 4)
  | 2 => Reg.ME_WRAP_WRAP2 (k / 4)
  | _ => Reg.ME_WRAP_WRAP3 (k / 4)

/-- The running interval's accumulator and its mirror (R329). -/
def setMeRun (s : State) (k v : Nat) : State :=
  let s := s.setMe { s.me with ival := { s.me.ival with acc := setNth s.me.ival.acc k (v % 2 ^ 64) } }
  s.wr (Reg.ME_RUN_ACC_MIRROR (k / 8) (k % 8)) (v / 2 ^ 17)

/-- Six times a sum of watts over sets enters accumulator `k`: its residual stays (R319), a carry or borrow counts (R326). -/
def meAdd (s : State) (k : Nat) (e6 : Dyadic) : State :=
  let t := Dyadic.add ⟨e6.mant, e6.exp + 20⟩ (nth s.me.resid k Dyadic.zero)
  let q := floorOver t 172800000
  let s := s.setMe { s.me with resid := setNth s.me.resid k (t.sub ⟨q * 172800000, 0⟩) }
  let a : Int := s.meAcc k + q
  let s := s.setMeAcc k (a % (2 ^ 64 : Nat)).toNat
  let s := if (2 ^ 64 : Nat) ≤ a then s.wr (meWrapFld k) (s.rd (meWrapFld k) + 1)
    else if a < 0 then s.wr (meWrapFld k) (s.rd (meWrapFld k) + 255) else s
  s.setMeRun k ((((nth s.me.ival.acc k 0 : Nat) : Int) + q) % (2 ^ 64 : Nat)).toNat

/-- What a set registers: averages, and six times the sums of P, Q and S over the granule. -/
structure MeFlow where
  p : Nat
  q : Nat
  sv : Nat
  ep : Dyadic
  eq : Dyadic
  es : Dyadic
  deriving DecidableEq, Repr

/-- An exact number's magnitude. -/
def Dyadic.mag (d : Dyadic) : Dyadic := ⟨d.mant.natAbs, d.exp⟩

/-- The quantity lies below its threshold; it is counted (R324). -/
def meBelow (s : State) (f w v : Nat) : Bool := F32.lt (F32.abs v) (nth s.me.nlth (3 * f + w) 0)

/-- A granule's flow enters register set `k` = 2 × φ + b (R323, R324). -/
def meRegister (s : State) (k : Nat) (x : MeFlow) : State :=
  let signed := hasBit (s.rd Reg.ME_CTRL_SIGNED) k
  let f := k / 2
  let exp := F32.lt x.p 0
  let neg := F32.lt x.q 0
  let below (w v : Nat) (s : State) (go : State → State) : State :=
    if s.meBelow f w v then s.incSat Reg.ME_NOLOAD_COUNT_COUNT else go s
  let quad := if neg then (if exp then 4 else 5) else if exp then 3 else 2
  let s := below 0 x.p s fun s =>
    if signed then s.meAdd (8 * k) x.ep else s.meAdd (8 * k + b2n exp) (Dyadic.mag x.ep)
  let s := below 1 x.q s fun s =>
    if signed then s.meAdd (8 * k + 2) x.eq else s.meAdd (8 * k + quad) (Dyadic.mag x.eq)
  below 2 x.sv s fun s => if signed then s.meAdd (8 * k + 6) x.es else s.meAdd (8 * k + 6 + b2n exp) x.es

/-! ### Granule close (R318, R321) -/

/-- A fundamental phasor, clamped to its channel full scale (R318). -/
structure MePhasor where
  re : Nat
  im : Nat
  clamped : Bool
  deriving DecidableEq, Repr

/-- The phasor of two sums over n sets, in binary32; `k` is 1 for a voltage and 6 for a current. -/
def mePhasor (s : State) (c n k : Nat) (re im : Dyadic) : MePhasor :=
  let a := overNat (Dyadic.scale 2 re) (n * k)
  let b := overNat (Dyadic.scale 2 im) (n * k)
  let fs := F32.mul (F32.abs (nth s.me.gain c 0)) (F32.ofNat 8388608)
  let m := F32.sqrt (F32.add (F32.mul a a) (F32.mul b b))
  if F32.lt fs m then ⟨F32.div (F32.mul a fs) m, F32.div (F32.mul b fs) m, true⟩ else ⟨a, b, false⟩

/-- The values of one phase: the nine words of `ME_INST`, and what both bases register. -/
structure MeOut where
  inst : List Nat
  fund : MeFlow
  total : MeFlow
  ovr : Nat
  deriving DecidableEq, Repr

/-- P/S, 0 where S is 0. -/
def mePf (p sv : Nat) : Nat := if F32.isZero sv then 0 else F32.div p sv

/-- One phase of a granule. -/
def mePhaseOut (s : State) (g : MeGran) (f : Nat) : MeOut :=
  let a := nth g.ph f {}
  let n := g.sets
  let vr := rootOver a.vv n
  let ir := rootOver a.ii (36 * n)
  let p := overNat a.vi (6 * n)
  let q := overNat a.hi (6 * n)
  let sv := F32.mul vr ir
  let v := s.mePhasor f n 1 a.vr a.vm
  let i := s.mePhasor (f + 3) n 6 a.ir a.im
  let half := F32.lit 1 2
  let p1 := F32.mul half (F32.add (F32.mul v.re i.re) (F32.mul v.im i.im))
  let q1 := F32.mul half (F32.sub (F32.mul v.im i.re) (F32.mul v.re i.im))
  let mag (x : MePhasor) : Nat := F32.sqrt (F32.add (F32.mul x.re x.re) (F32.mul x.im x.im))
  let s1 := F32.mul half (F32.mul (mag v) (mag i))
  let e6 (x : Nat) : Dyadic := Dyadic.scale (6 * n) (Dyadic.ofF x)
  { inst := [vr, ir, p, q, sv, p1, q1, s1, mePf p sv]
    fund := ⟨p1, q1, s1, e6 p1, e6 q1, e6 s1⟩
    total := ⟨p, q, sv, a.vi, a.hi, e6 sv⟩
    ovr := b2n v.clamped * 2 ^ f + b2n i.clamped * 2 ^ (f + 3) }

/-- The sum of the phases' flows. -/
def meSum (n : Nat) (l : List MeFlow) (exact : Bool) : MeFlow :=
  let add (f : MeFlow → Nat) : Nat := l.foldl (fun a x => F32.add a (f x)) 0
  let ex (f : MeFlow → Dyadic) : Dyadic := l.foldl (fun a x => a.add (f x)) Dyadic.zero
  let ep := ex (·.ep)
  let eq := ex (·.eq)
  { p := if exact then overNat ep (6 * n) else add (·.p), q := if exact then overNat eq (6 * n) else add (·.q), sv := add (·.sv),
    ep := ep, eq := eq, es := ex (·.es) }

/-- The published values of a granule, and its energy (R318, R323). -/
def mePublish (s : State) (g : MeGran) : State :=
  let n := g.sets
  let o := (List.range 3).map (s.mePhaseOut g)
  let tf := meSum n (o.map (·.fund)) false
  let tt := meSum n (o.map (·.total)) true
  let s := s.forEach (List.range 3) (fun s f =>
    s.forEach (List.range 9) (fun s w => s.wr (Reg.ME_INST_VALUE f w) (nth (nth (o.map (·.inst)) f []) w 0)))
  let s := s.forEach [(2, tt.p), (3, tt.q), (4, tt.sv), (5, tf.p), (6, tf.q), (7, tf.sv), (8, mePf tt.p tt.sv)] (fun s (w, v) =>
    s.wr (Reg.ME_INST_VALUE 3 w) v)
  let s := s.forEach (List.range 7) (fun s c =>
    (s.wr (Reg.ME_RAWMEAN_VALUE c) (F32.ofRatio (nth g.raw c 0) n)).wr (Reg.ME_RAWRMS_VALUE c) (rootOver ⟨nth g.rawSq c 0, 0⟩ n))
  let nres := rootOver g.res (36 * n)
  let s := (s.wr Reg.ME_IN_RMS_VALUE (rootOver g.inn (36 * n))).wr Reg.ME_NRES_RMS_VALUE nres
  let ovr := o.foldl (fun a x => a ||| x.ovr) 0
  let s := s.when (ovr != 0) (fun s => (s.wr Reg.ME_FLAGS_OVR (s.rd Reg.ME_FLAGS_OVR ||| ovr)).meFault)
  let run := runOf 8 (F32.gt nres s.me.nres) s.me.nresRun
  let s := s.setMe { s.me with nresRun := run }
  let s := s.when (run == 8) (fun s => (s.wr Reg.ME_FLAGS_NRES 1).meFault)
  let s := s.forEach (List.range 3) (fun s f =>
    let x := nth o f ⟨[], ⟨0, 0, 0, Dyadic.zero, Dyadic.zero, Dyadic.zero⟩, ⟨0, 0, 0, Dyadic.zero, Dyadic.zero, Dyadic.zero⟩, 0⟩
    (s.meRegister (2 * f) x.fund).meRegister (2 * f + 1) x.total)
  let s := (s.meRegister 6 tf).meRegister 7 tt
  let iv := s.me.ival
  s.setMe { s.me with ival := { iv with granules := iv.granules + 1, incomplete := iv.incomplete || g.subst != 0 } }

/-- The closed interval's record is latched, and the next interval begins empty (R328). -/
def meIvalLatch (s : State) (endSec : Nat) (forced : Bool) : State :=
  let iv := s.me.ival
  let unk := s.on Reg.UMB_STATUS_TIME_UNKNOWN
  let s := (s.wr Reg.ME_IVAL_START_SEC iv.start).wr Reg.ME_IVAL_END_SEC endSec
  let s := (s.wr Reg.ME_IVAL_STAT_GRANULES iv.granules).wr Reg.ME_IVAL_STAT_TIME_UNKNOWN (b2n (iv.unknown || unk))
  let s := (s.wr Reg.ME_IVAL_STAT_FORCED (b2n forced)).wr Reg.ME_IVAL_STAT_INCOMPLETE (b2n (iv.incomplete || iv.stale))
  let s := (s.wr Reg.ME_IVAL_STAT_PARTIAL (b2n (iv.part || iv.stale))).incWrap Reg.ME_IVAL_SEQ_COUNT
  let s := s.forEach (List.range 64) (fun s k =>
    (s.wr (Reg.ME_IVAL_ACC_MIRROR (k / 8) (k % 8)) (s.rd (Reg.ME_RUN_ACC_MIRROR (k / 8) (k % 8)))).wr
      (Reg.ME_RUN_ACC_MIRROR (k / 8) (k % 8)) 0)
  State.raise (s.setMe { s.me with ival := { active := true, start := endSec, unknown := unk } }) Ev.ME_INTERVAL

/-- A snapshot (R330). -/
def meSnapshot (s : State) : State :=
  let s := s.when (s.on Reg.ME_STATUS_SNAP_READY) (fun s => s.wr Reg.ME_FLAGS_SNAP_OVW 1)
  let s := s.forEach (List.range 448) (fun s k => s.wr (Reg.ME_SNAP_WORD k) (s.wordIn Reg.rows_metering (0x40061000 + 4 * k)))
  let s := s.forEach (List.range 84) (fun s k => s.wr (Reg.ME_SNAP_INST_WORD k) (s.wordIn Reg.rows_metering (0x40060200 + 4 * k)))
  let s := (s.wr Reg.ME_SNAP_GCOUNT_COUNT (s.rd Reg.ME_GCOUNT_COUNT)).wr Reg.ME_SNAP_SEC_SEC (s.rd Reg.UMB_SECONDS_SEC)
  State.flagRaise (s.setMe { s.me with snapReq := false }) Reg.ME_STATUS_SNAP_READY Ev.ME_SNAPSHOT

/-- The words 0 to 254 of a checkpoint image (R331). -/
def meImage (s : State) (cause : Nat) : List Nat :=
  let unk := s.rd Reg.UMB_STATUS_TIME_UNKNOWN
  let iv := s.me.ival
  [0x4D45 + 2 ^ 16, s.me.ckptSeq, cause + 4 * unk, s.rd Reg.UMB_SECONDS_SEC, s.rd Reg.ME_GCOUNT_COUNT, s.rd Reg.ME_CAL_CRC_CRC]
  ++ ((List.range 64).flatMap fun k => [s.meAcc k % 2 ^ 32, s.meAcc k / 2 ^ 32])
  ++ ((List.range 16).map fun k => s.wordIn Reg.rows_metering (0x40061200 + 4 * k))
  ++ [iv.start, iv.granules % 2 ^ 24 + 2 ^ 24 * b2n (iv.unknown || unk == 1)]
  ++ ((List.range 64).map fun k => s.rd (Reg.ME_RUN_ACC_MIRROR (k / 8) (k % 8))) ++ List.replicate 39 0

/-- A checkpoint image is latched (R331). -/
def meCheckpoint (s : State) (cause : Nat) : State :=
  if !s.on Reg.ME_CTRL_CKPT_EN then s
  else
    let s := s.when (s.on Reg.ME_STATUS_CKPT_READY) (fun s => (s.wr Reg.ME_FLAGS_CKPT_MISS 1).meFault)
    let s := s.setMe { s.me with ckptSeq := (s.me.ckptSeq + 1) % 2 ^ 32 }
    let ws := s.meImage cause
    let s := s.forEach ((ws ++ [crc32cWords ws]).zipIdx) (fun s (w, k) => s.wr (Reg.ME_CKPT_WORD k) w)
    s.flagRaise Reg.ME_STATUS_CKPT_READY Ev.ME_CHECKPOINT

/-- The oldest granule closes (R321, R322, R328, R337). DEDUCED (notes/assumptions 42). -/
def meClose (s : State) : State :=
  match s.me.grans with
  | [] => s
  | g :: rest =>
    if !g.ended || g.done < g.sets || g.sets = 0 then s
    else
      let s := s.setMe { s.me with grans := rest }
      let sec := s.rd Reg.UMB_SECONDS_SEC
      let due := s.me.ival.due
      let first := g.late || s.me.ival.stale
      let before := (due.isSome && g.late) || s.me.ival.stale
      let s := s.when before (fun s => s.meIvalLatch (due.getD sec) s.me.ival.force)
      let s := s.mePublish g
      let s := s.when (due.isSome && !first) (fun s => s.meIvalLatch (due.getD sec) s.me.ival.force)
      let s := s.when s.me.ival.force (fun s => s.meIvalLatch sec true)
      let s := s.incWrap Reg.ME_GCOUNT_COUNT
      let s := (s.wr Reg.ME_GRANULE_SETS g.sets).wr Reg.ME_GRANULE_SUBST (b2n (g.subst != 0))
      let s := s.wr Reg.ME_FREQ_VALUE (F32.ofRatio 8000 g.sets)
      let s := { s with cross := { s.cross with granules := s.cross.granules + 1 } }
      let s := s.when (16 < g.subst) (fun s => (s.wr Reg.ME_FLAGS_GAP 1).meFault)
      let st := s.orbState
      let s := s.when (st != orbLocked && st != orbFollow) (fun s => s.wr Reg.ME_FLAGS_UNLOCKED 1)
      let s := s.when s.me.snapReq State.meSnapshot
      match s.me.ckptReq with
      | none => s
      | some c => State.meCheckpoint (s.setMe { s.me with ckptReq := none }) c

/-! ### Intervals, requests, restore (R327 to R333, R337) -/

/-- An interval boundary passes (R327). -/
def meBoundary (s : State) : State :=
  if s.on Reg.ME_CTRL_IVAL_EN && s.me.ival.active then
    s.setMe { s.me with ival := { s.me.ival with due := some (s.rd Reg.UMB_SECONDS_SEC) } }
  else s

/-- The running interval closes at the next granule close with FORCED (R337). -/
def meForce (s : State) : State :=
  if s.on Reg.ME_CTRL_IVAL_EN && s.me.ival.active then s.setMe { s.me with ival := { s.me.ival with force := true } } else s

/-- A checkpoint is requested for the next granule close; a command prevails over the period. -/
def meCkptRequest (s : State) (cause : Nat) : State :=
  if s.on Reg.ME_CTRL_CKPT_EN then
    s.setMe { s.me with ckptReq := some (if s.me.ckptReq = some 2 then 2 else cause) }
  else s

def meSnapRequest (s : State) : State := s.setMe { s.me with snapReq := true }
def meSnapAck (s : State) : State := s.wr Reg.ME_STATUS_SNAP_READY 0
def meCkptAck (s : State) : State := s.wr Reg.ME_STATUS_CKPT_READY 0

/-- MC stores the image in the older slot and acknowledges it (R331). -/
def meCkptStore (s : State) : State :=
  if s.on Reg.ME_STATUS_CKPT_READY then
    let img := (List.range 256).map fun k => s.rd (Reg.ME_CKPT_WORD k)
    State.meCkptAck { s with nv := { s.nv with ckpt := (img :: s.nv.ckpt).take 2 } }
  else s

/-- A restore image passes its checks (R332). -/
def meImageOk (ws : List Nat) : Bool :=
  fieldOf (nth ws 0 0) 0 16 == 0x4D45 && fieldOf (nth ws 0 0) 16 8 == 1 && crc32cWords (ws.take 255) == nth ws 255 0

/-- `ME_CMD.RESTORE` (R332). -/
def meRestore (s : State) : State :=
  if s.meState != meOff then s.wr Reg.ME_FLAGS_CFG_ERR 1
  else
    let ws := (List.range 256).map fun k => s.rd (Reg.ME_RESTORE_WORD k)
    let w (k : Nat) : Nat := nth ws k 0
    if !meImageOk ws then (s.wr Reg.ME_FLAGS_RESTORE_ERR 1).meFault
    else
      let s := s.forEach (List.range 64) (fun s k => s.setMeAcc k (w (6 + 2 * k) + 2 ^ 32 * w (7 + 2 * k)))
      let s := s.forEach (List.range 64) (fun s k => s.wr (meWrapFld k) (fieldOf (w (134 + k / 4)) (8 * (k % 4)) 8))
      let s := s.wr Reg.ME_GCOUNT_COUNT (w 4)
      let len := 60 * s.rd Reg.ME_CTRL_IVAL_MIN
      let endSec := (w 150 / Nat.max 1 len + 1) * len
      let stale := s.on Reg.UMB_STATUS_TIME_UNKNOWN || endSec ≤ s.rd Reg.UMB_SECONDS_SEC
      let iv : MeIval := { active := true, start := w 150, granules := fieldOf (w 151) 0 24, unknown := hasBit (w 151) 24,
                           part := true, stale := stale }
      let s := s.setMe { s.me with ival := iv, resid := List.replicate 64 Dyadic.zero }
      let s := s.forEach (List.range 64) (fun s k => s.setMeRun k (w (152 + k) * 2 ^ 17))
      let s := s.when (w 5 != s.rd Reg.ME_CAL_CRC_CRC) (fun s => s.wr Reg.ME_FLAGS_CAL_CHANGED 1)
      s.wr Reg.ME_STATUS_RESTORED 1

/-- The metering converters run in RUN and WATCH (R12, R333). -/
def meConverters (s : State) : Bool := s.power == .run || s.power == .watch

/-- `ME_CTRL.EN` is written 1 (R333). -/
def meEnable (s : State) : State :=
  let s := s.wr Reg.ME_CTRL_EN 1
  if s.meState = meOff && s.meConverters then
    (s.setMe { s.me with hist := [], grans := [], substRun := 0, settleRun := 0, nresRun := 0 }).wr Reg.ME_STATUS_STATE meSettling
  else s

/-- `ME_CTRL.EN` is written 0 (R333): the running granule is discarded. -/
def meDisable (s : State) : State :=
  let s := s.wr Reg.ME_CTRL_EN 0
  let m := s.me
  (s.setMe { m with hist := [], grans := [], faulted := false, ival := { m.ival with active := false, due := none, force := false } }).wr
    Reg.ME_STATUS_STATE meOff

/-- Counters are cleared (R339). -/
def meClrCounts (s : State) : State :=
  ((s.wr Reg.ME_SUBST_COUNT_COUNT 0).wr Reg.ME_NOLOAD_COUNT_COUNT 0).wr Reg.ME_LOST_COUNT_COUNT 0

end State

/-- METER_SAMPLE_SET (R316): seven sample words (R243), at a tick of the frame. -/
def execMeterSampleSet (words : List Nat) (tick : Nat) (s : State) : Out := .next ((s.toTick tick).meSample words)

/-- ME_GRANULE_CLOSE (R321). -/
def execMeGranuleClose (s : State) : Out := .next s.meClose

/-- ME_GRANULE_LOST (R322). -/
def execMeGranuleLost (s : State) : Out := .next s.meLost

/-- ME_INTERVAL_BOUNDARY (R327). -/
def execMeIntervalBoundary (s : State) : Out := .next s.meBoundary

/-- ME_CKPT_PERIOD (R331). -/
def execMeCkptPeriod (s : State) : Out := .next (s.meCkptRequest 0)

/-- ME_CKPT_STORE (R331). -/
def execMeCkptStore (s : State) : Out := .next s.meCkptStore

/-- A write of `ME_CMD` (R339). -/
def meCommand (m : Master) (s : State) (f : State → State) : Out := .next (s.access m 0x4006000C .dr f)

/-- ME_SNAP (R330). -/
def execMeSnap (m : Master) (s : State) : Out := meCommand m s State.meSnapRequest

/-- ME_SNAP_ACK (R330). -/
def execMeSnapAck (m : Master) (s : State) : Out := meCommand m s State.meSnapAck

/-- ME_CKPT (R331). -/
def execMeCkpt (m : Master) (s : State) : Out := meCommand m s (fun s => s.meCkptRequest 2)

/-- ME_CKPT_ACK (R331). -/
def execMeCkptAck (m : Master) (s : State) : Out := meCommand m s State.meCkptAck

/-- ME_IVAL_CLOSE (R337). -/
def execMeIvalClose (m : Master) (s : State) : Out := meCommand m s State.meForce

/-- ME_RESTORE (R332). -/
def execMeRestore (m : Master) (s : State) : Out := meCommand m s State.meRestore

/-- ME_CLR_COUNTS (R339). -/
def execMeClrCounts (m : Master) (s : State) : Out := meCommand m s State.meClrCounts

/-- ME_ENABLE (R333). -/
def execMeEnable (m : Master) (s : State) : Out := .next (s.access m 0x40060000 .dr State.meEnable)

/-- ME_DISABLE (R333). -/
def execMeDisable (m : Master) (s : State) : Out := .next (s.access m 0x40060000 .dr State.meDisable)

/-- ME_CAL_WRITE (R317). -/
def execMeCalWrite (m : Master) (r : MeCal) (value : Nat) (s : State) : Out :=
  .next (s.access m ((State.meCalFld? r).getD (Reg.ME_GAIN_VALUE 0)).addr .dr (fun s => s.meCalWrite r value))

/-- ME_CAL_LOCK (R336). -/
def execMeCalLock (m : Master) (s : State) : Out := .next (s.access m 0x40060000 .dr State.meCalLock)

/-- ME_CAL_RESTORE (R336). -/
def execMeCalRestore (s : State) : Out := .next s.meCalRestore

end Sys2Proof.Machine
end

