-- ==== Sys2Proof/Machine/SafetyChannel.lean ====
section
/-! DEFINITION. Machine/SafetyChannel.lean: the safety channel (R374 to R397). Readings of lands, measured durations and window
comparisons of HSL are operands; a command that does not fit the channel's state does nothing. -/

namespace Sys2Proof.Machine
namespace State

/-! ### The record (R388 to R390) -/

/-- The CRC of the safety polynomial (R389). -/
def crcSafety : CrcParams := ⟨32, 0xF4ACFB13, 0xFFFFFFFF, true, 0xFFFFFFFF⟩

/-- A value lies in a range. -/
def within (x lo hi : Nat) : Bool := decide (lo ≤ x) && decide (x ≤ hi)

/-- The fields of input function `f` lie in their ranges; an unused function has none (R388). -/
def sprFnOk (ws : List Nat) (f : Nat) : Bool :=
  let w := nth ws (6 + f) 0
  fieldOf w 0 2 = 0 || (within (fieldOf w 2 7) 2 40 && within (fieldOf w 9 8) 5 250 && fieldOf w 17 2 ≤ 2 && fieldOf w 19 2 ≤ 2)

/-- The fields of connection `c` lie in their ranges; a disabled connection has none. -/
def sprPduOk (ws : List Nat) (c : Nat) : Bool :=
  let w := nth ws (12 + 2 * c) 0
  !hasBit w 0 || (within (fieldOf w 4 10) 10 1000 && within (fieldOf w 14 10) 5 500 && 2 * fieldOf w 14 10 ≤ fieldOf w 4 10
    && fieldOf w 24 2 ≤ 2 && fieldOf w 26 4 ≤ 7)

/-- The feedback rule of R389. -/
def sprFeedbackOk (ws : List Nat) : Bool :=
  let n := fieldOf (nth ws 3 0) 16 2
  let en := hasBit (nth ws 3 0) 18
  let ty (f : Nat) := fieldOf (nth ws (6 + f) 0) 0 2
  (!en || ty n = 3) && (List.range 4).all fun f => ty f != 3 || (en && f = n)

/-- No two enabled connections share a peer. -/
def sprPeersOk (ws : List Nat) : Bool :=
  let on (c : Nat) := hasBit (nth ws (12 + 2 * c) 0) 0
  let peer (c : Nat) := nth ws (11 + 2 * c) 0
  (List.range 4).all fun c => (List.range c).all fun d => !(on c && on d && peer c == peer d)

/-- The record passes R389. DEDUCED: which fields are checked (notes/assumptions 45). -/
def sprOk (ws : List Nat) : Bool :=
  let w (i : Nat) := nth ws i 0
  let used := fieldOf (w 2) 0 4
  let stage := fieldOf (w 2) 4 4
  ws.length = 64 && crc crcSafety (bytesOf (ws.take 63)) = w 63 && crc crcSafety (bytesOf ((ws.drop 32).take 15)) = w 47
    && fieldOf (w 0) 0 16 = 0x5350 && fieldOf (w 0) 16 8 = 1 && within (fieldOf (w 0) 24 4) 1 2
    && (used &&& stage) != 0 && andNot 4 used stage != 0
    && within (fieldOf (w 3) 0 8) 5 100 && within (fieldOf (w 3) 8 8) 5 200 && fieldOf (w 4) 0 16 ≤ 900
    && (List.range 4).all (sprFnOk ws) && (List.range 4).all (sprPduOk ws)
    && (List.range 4).all (fun i => fieldOf (w (32 + i)) 16 16 ≤ 60000)
    && [40, 41].all (fun i => !hasBit (w i) 6 || fieldOf (w i) 18 2 ≤ 1)
    && sprFeedbackOk ws && sprPeersOk ws

/-- What follows from a record taken: its view, its windows not yet judged, its judgements started afresh (R382, R387). -/
def sprInstall (s : State) (ws : List Nat) : State :=
  let s := s.setSafety fun k =>
    { k with spr := ws, hslArmed := false, demandRun := List.replicate 8 0, clearRun := List.replicate 8 0,
             lowRun := List.replicate 8 0, discRun := List.replicate 4 0, discHeld := 0, tpoFails := List.replicate 8 0,
             tpoCycle := 0, restartHold := 0, sf1 := clearBit (clearBit k.sf1 2) 5, sf4 := clearBit k.sf4 0 }
  let w (i : Nat) := nth ws i 0
  let s := (s.wr Reg.SPR_CHECK_CRC (w 63)).wr Reg.SPR_ID_ID (fieldOf (w 1) 0 16)
  let s := ((s.wr Reg.SPR_ID_REV (fieldOf (w 1) 16 16)).wr Reg.HSL_CHECK_CRC (w 47)).wr Reg.SAFE_STATE_NO_FB (b2n (!hasBit (w 3) 18))
  let s := ((s.wr Reg.SIN_STATE_DEMAND 0).wr Reg.SIN_STATE_FDEMAND 0).wr Reg.SIN_STATE_FFAULT 0
  ((s.wr Reg.HSL_WIN_GRID 63).wr Reg.HSL_WIN_AW 0).reconnectRestart

/-- The connections take a state: WAITING where enabled, off otherwise (R393, R397). -/
def pduStart (s : State) : State :=
  s.forEach (List.range 4) fun s c => (s.wr (Reg.PDU_STAT_STATE c) (b2n (s.pduEnabled c))).wr (Reg.PDU_STAT_REQ c) 0

/-- The connections go off. -/
def pduStop (s : State) : State :=
  s.forEach (List.range 4) fun s c => (s.wr (Reg.PDU_STAT_STATE c) 0).wr (Reg.PDU_STAT_REQ c) 0

/-- The confirmation window closes (R390, R507). -/
def confirmClose (s : State) : State :=
  if s.on Reg.SAFE_STATE_CONFIRM_WIN then (s.wr Reg.SAFE_STATE_CONFIRM_WIN 0).raise Ev.SAFE_COMMISSION else s

/-- An SPR load (R377, R389, R390, R395, R507): refused in CLOSING and CLOSED; a record that fails sets `SPR_ERR`; one that
passes withdraws the record before it, the stored one too, opens the relays and makes the channel PENDING. -/
def sprLoad (s : State) (ws : List Nat) : Bool × State :=
  if s.safeState = safeClosing || s.safeState = safeClosed then (false, s)
  else if !sprOk ws then (false, (s.wr Reg.SAFE_STATE_SPR_ERR 1).raise Ev.SAFE_SPR)
  else
    let s := (s.confirmClose.wr Reg.SAFE_STATE_SPR_ERR 0).relaysOff true true
    let s := { s with nv := { s.nv with spr := [] } }
    let s := s.setSafety fun k => { k with confirmed := false, winOpened := false, sf4 := clearBit k.sf4 5, sf3 := false, contact := .none }
    let s := ((s.sprInstall ws).pduStop.setSafeState safePending).raise Ev.SAFE_SPR
    (true, s.safeView)

/-- The check value is entered (R390): in PENDING the right value opens the 60 s window, or starts it again (R507). -/
def sprConfirm (s : State) (value : Nat) : Bool × State :=
  if s.safeState = safePending && value = s.sprWord 63 then
    let s := s.setSafety fun k => { k with winOpened := true }
    (true, (s.wr Reg.SAFE_STATE_CONFIRM_WIN 1).raise Ev.SAFE_COMMISSION)
  else (false, s)

/-- The record is confirmed (R377, R390, R411). -/
def sprConfirmed (s : State) : State :=
  let s := s.confirmClose
  let s := s.setSafety fun k => { k with confirmed := true, winOpened := false }
  let s := { s with nv := { s.nv with spr := s.safety.spr } }
  let s := (((s.setSafeState safeOpen).reconnectRestart).raise Ev.SAFE_SPR).pduStart
  if s.oper = .commissioning then (State.autoReconnect { s with oper := if s.cpRun then s.restState else .described }).safeView
  else s.operSettle.safeView

/-- `COMM_KEY` pressed: milliseconds high within the window, and in all (R390, R502). -/
def commKey (s : State) (inWindow held : Nat) : State :=
  if s.power = .run && s.safeState = safePending && s.safety.winOpened && 200 ≤ inWindow && held ≤ 10000 then s.sprConfirmed else s

/-! ### Cross-monitor (R375) -/

/-- A frame arrives at HSL or at SC: an invalid one is counted; a valid one shows that the partner lives, and is compared. -/
def xmonFrame (s : State) (toHsl : Bool) (f : XmonFrame) : State :=
  if !f.crcOk then s.incSat Reg.XMON_BAD
  else
    let own := if toHsl then s.safety.rlyL else s.safety.rlyH
    let diff := f.relays != own || f.sf != s.rd Reg.SAFE_STATE_SF || f.judged != s.rd Reg.SIN_STATE_FDEMAND
      || f.sprCrc != s.rd Reg.HSL_CHECK_CRC
    s.setSafety fun k => { k with partnerLost := false, differs := diff }

/-- No valid frame for 3 ms: the channel that waits treats its partner as failed, and acts alone. -/
def xmonTimeout (s : State) (bySc : Bool) : State :=
  ((s.setSafety fun k => { k with partnerLost := true }).raise Ev.SAFE_DISCREPANCY).safeLatch 5 0 bySc (!bySc)

/-- The channels have differed for 10 ms. -/
def xmonDiscrepancy (s : State) : State :=
  if s.safety.differs then ((s.incSat Reg.XMON_DIFF).raise Ev.SAFE_DISCREPANCY).safeLatch 4 0 true true else s

/-! ### Safety inputs (R383 to R385) -/

/-- SF2 demand of function `f` begins (R376, R377, R411). -/
def sf2Begin (s : State) (f : Nat) : State :=
  if hasBit (s.rd Reg.SIN_STATE_FDEMAND) f then s
  else (((s.setB Reg.SIN_STATE_FDEMAND f).raise Ev.SAFE_SF2).sf4Apply.openRelays).sf2FaultHold

/-- An input fault of function `f`, seen at input `i` (R385). -/
def inputFault (s : State) (f i : Nat) : State :=
  if hasBit (s.rd Reg.SIN_STATE_FFAULT) f then s
  else
    let s := (s.setB Reg.SIN_STATE_FFAULT f).raise Ev.SAFE_INPUT_FAULT
    (if s.fnType f = 3 then s else s.sf2Begin f).safeLatch 2 i true true

/-- The sample of an input falls outside its source's pulse and the 200 µs after it, at `t` samples in the 50 ms cycle (R383,
R384). -/
def outsidePulse (src t : Nat) : Bool :=
  if src = 0 then decide (7 ≤ t % 500) else if src = 1 then decide (t % 500 < 250) || decide (257 ≤ t % 500) else true

/-- The level is the demand level (R383). -/
def demandLevel (type i : Nat) (high : Bool) : Bool := if type = 2 && i % 2 = 1 then high else !high

/-- One input is sampled and judged (R383, R384): a low of up to 1 ms on an external source is not judged.
DEDUCED (notes/assumptions 44). -/
def inputSample (s : State) (t i : Nat) : State :=
  let ty := s.fnType (i / 2)
  if ty = 0 || ty = 3 then s
  else
    let high := hasBit (s.rd Reg.SIN_STATE_RAW) i
    let src := s.sinSource i
    let low := if high then 0 else satInc 11 (nth s.safety.lowRun i 0)
    let judged := outsidePulse src t && (src != 2 || high || 10 < low)
    let dem := demandLevel ty i high
    let filt := s.fnFilt (i / 2)
    let d := if judged then (if dem then satInc filt (nth s.safety.demandRun i 0) else 0) else nth s.safety.demandRun i 0
    let c := if judged then (if dem then 0 else satInc filt (nth s.safety.clearRun i 0)) else nth s.safety.clearRun i 0
    let s := s.setSafety fun k => { k with lowRun := setNth k.lowRun i low, demandRun := setNth k.demandRun i d, clearRun := setNth k.clearRun i c }
    if filt ≤ d then s.setB Reg.SIN_STATE_DEMAND i else if filt ≤ c then s.clrB Reg.SIN_STATE_DEMAND i else s

/-- The channels of a function are compared (R385). -/
def functionCompare (s : State) (f : Nat) : State :=
  let ty := s.fnType f
  if ty = 0 || ty = 3 then s
  else
    let a := hasBit (s.rd Reg.SIN_STATE_DEMAND) (2 * f)
    let b := hasBit (s.rd Reg.SIN_STATE_DEMAND) (2 * f + 1)
    let n := if a != b then satInc (s.fnDisc f + 1) (nth s.safety.discRun f 0) else 0
    let s := s.setSafety fun k =>
      { k with discRun := setNth k.discRun f n, discHeld := if a && b then clearBit k.discHeld f else k.discHeld }
    if s.fnDisc f < n && !hasBit (s.rd Reg.SIN_STATE_FFAULT) f then
      (s.setSafety fun k => { k with discHeld := setBit k.discHeld f }).inputFault f (2 * f)
    else s

/-- Every input is sampled (R383). -/
def sinSample (s : State) (levels t : Nat) : State :=
  let s := (s.wr Reg.SIN_STATE_RAW levels).forEach (List.range 8) (fun s i => s.inputSample t i)
  (s.forEach (List.range 4) functionCompare).safeView

/-- A function's demand starts (R383). -/
def sf2Demand (s : State) (f : Nat) : State :=
  let ty := s.fnType f
  if f < 4 && (ty = 1 || ty = 2) && fieldOf (s.rd Reg.SIN_STATE_DEMAND) (2 * f) 2 != 0 then (s.sf2Begin f).safeView else s

/-- The faults of R385 of a function have ended. -/
def fnFaultGone (s : State) (f : Nat) : Bool :=
  [2 * f, 2 * f + 1].all fun i =>
    decide (nth s.safety.tpoFails i 0 < 2) && (2 ≤ s.sinSource i || !hasBit (s.rd Reg.TPO_DIAG_SRC_FAULT) (s.sinSource i))

/-- A function's demand ends (R383, R385). -/
def sf2Release (s : State) (f : Nat) : State :=
  if f < 4 && hasBit (s.rd Reg.SIN_STATE_FDEMAND) f && fieldOf (s.rd Reg.SIN_STATE_DEMAND) (2 * f) 2 = 0
      && !hasBit s.safety.discHeld f && s.fnFaultGone f then
    let s := ((s.clrB Reg.SIN_STATE_FDEMAND f).clrB Reg.SIN_STATE_FFAULT f).raise Ev.SAFE_SF2
    let s := if s.sprField (6 + f) 21 1 = 1 then s else s.setSafety fun k => { k with restartHold := setBit k.restartHold f }
    s.safeView.sf2Leave
  else s

/-- Does input `i` fail the expectation of R384 at a pulse of source `src`? Levels before the pulse, from 0 to 0.2 ms, and from
0.2 to 0.5 ms. -/
def tpoFail (s : State) (src before early window i : Nat) : Bool :=
  let own := s.sinSource i
  s.fnType (i / 2) != 0 && hasBit before i && own < 2
    && (if own = src then hasBit window i else !hasBit early i || !hasBit window i)

/-- A test pulse of a source (R384, R385). A cycle begins with TPO0 and is complete after TPO1. -/
def tpoPulse (s : State) (src before early window : Nat) (readback : Bool) : State :=
  if 2 ≤ src then s
  else
    let s := s.putB Reg.TPO_DIAG_SRC_FAULT src (!readback)
    let s := if src = 0 then
        s.setSafety fun k => { k with tpoCycle := 0, tpoFails := k.tpoFails.zipIdx.map fun (n, i) => if hasBit k.tpoCycle i then n else 0 }
      else s
    let s := s.forEach ((List.range 8).filter fun i => s.tpoFail src before early window i) (fun s i =>
      if hasBit s.safety.tpoCycle i then s
      else s.setSafety fun k => { k with tpoCycle := setBit k.tpoCycle i, tpoFails := setNth k.tpoFails i (satInc 2 (nth k.tpoFails i 0)) })
    let s := if src = 1 then s.wr Reg.TPO_DIAG_FAIL s.safety.tpoCycle else s
    let s := s.forEach (List.range 8) (fun s i =>
      if s.fnType (i / 2) != 0 && (2 ≤ nth s.safety.tpoFails i 0 || (!readback && s.sinSource i = src)) then s.inputFault (i / 2) i else s)
    let s := s.forEach (List.range 4) (fun s f =>
      if src = 1 && s.fnType f = 3 && s.fnFaultGone f then s.clrB Reg.SIN_STATE_FFAULT f else s)
    s.safeView

/-! ### Relays (R378 to R382) -/

/-- The pre-energise test of an output begins: both switches off. -/
def preStart (s : State) (n : Nat) (reset : Bool) : State :=
  (s.setSafety fun k => { k with rlyH := clearBit k.rlyH n, rlyL := clearBit k.rlyL n, pre := some ⟨n, 1, reset⟩ }).safeView

/-- A relay fault (R378, R381). -/
def relayFault (s : State) (n : Nat) : State := (s.raise Ev.SAFE_RELAY_FAULT).safeLatch 1 n true true

/-- `SAFETY_RESET` completes after its tests (R377): SF4 may release, the causes are cleared, LATCHED becomes OPEN. -/
def resetDone (s : State) : State :=
  let s := s.setSafety fun k => { k with pre := none, sf4 := clearBit k.sf4 5, sf3 := false, restartHold := 0 }
  let s := (s.wr Reg.SAFE_CAUSE_CAUSE 0).wr Reg.SAFE_CAUSE_DETAIL 0
  let s := ((s.wr Reg.RLY_DIAG_H_FAULT 0).wr Reg.RLY_DIAG_L_FAULT 0).wr Reg.RLY_DIAG_FB_FAULT 0
  let s := if s.safeState = safeLatched then s.setSafeState safeOpen else s
  s.safeView.sf2Leave

/-- The outputs of a stage are energised, and their check or pull-in wait begins (R378 step 4, R382). -/
def energise (s : State) (stage : Nat) : State :=
  let m := s.stageOutputs stage
  let fb := !s.on Reg.SAFE_STATE_NO_FB
  let c : ContactStage := if stage = 0 then (if fb then .stage1 else .wait1) else (if fb then .stage2 else .wait2)
  (s.setSafety fun k => { k with pre := none, rlyH := k.rlyH ||| m, rlyL := k.rlyL ||| m, contact := c }).safeView

/-- The tests of a stage's outputs begin. -/
def stageStart (s : State) (stage : Nat) : State :=
  match lowestBit 4 (s.stageOutputs stage) with
  | some n => s.preStart n false
  | none => s

/-- A test step ends with the levels of both nodes read (0 low, 1 high, 2 neither; R378, R379). -/
def preStep (s : State) (h l : Nat) : State :=
  match s.safety.pre with
  | none => s
  | some p =>
    let s := (s.putB Reg.RLY_DIAG_H_ON p.output (h == 1)).putB Reg.RLY_DIAG_L_ON p.output (l == 0)
    let exp := if p.step = 2 then 1 else 0
    if h != exp || l != exp then s.relayFault p.output
    else if p.step = 1 then s.setSafety fun k => { k with pre := some { p with step := 2 }, rlyH := setBit k.rlyH p.output }
    else if p.step = 2 then
      s.setSafety fun k => { k with pre := some { p with step := 3 }, rlyH := clearBit k.rlyH p.output, rlyL := setBit k.rlyL p.output }
    else
      let s := s.setSafety fun k => { k with rlyL := clearBit k.rlyL p.output }
      let stage := s.sprField 2 (4 + p.output) 1
      let set := if p.reset then s.relaysUsed else s.stageOutputs stage
      match (bitsOf 4 set).find? (fun n => decide (p.output < n)) with
      | some n => s.preStart n p.reset
      | none => if p.reset then s.resetDone else s.energise stage

/-- A connect request (R377, R382): OPEN, no demand, no fault, the reconnect timer at 0, HSL windows clear. -/
def connectRequest (s : State) : State :=
  if s.safeState = safeOpen && !s.sf4Active && !s.safeFaultPresent && s.rd Reg.RECONNECT_SEC = 0 && s.rd Reg.HSL_WIN_GRID = 0
      && s.rd Reg.HSL_WIN_AW = 0 && s.safety.pre.isNone then
    let s := s.setSafeState safeClosing
    if s.on Reg.SAFE_STATE_NO_FB then s.stageStart 0 else s.setSafety fun k => { k with contact := .released }
  else s

/-- The channel enters CLOSED (R377, R411): PWM safe state is cleared and grid support enabled. -/
def closeComplete (s : State) : State :=
  let s := ((s.setSafety fun k => { k with contact := .none }).setSafeState safeClosed).raise Ev.SAFE_CONNECT
  if s.oper = .connected then s.safeClear.gsEnable else s

/-- An SF3 failure: the outputs of the failing contacts (R382). -/
def sf3Fail (s : State) (outs : Nat) : State :=
  let s := (s.setSafety fun k => { k with sf3 := true }).raise Ev.SAFE_SF3
  let s := s.wr Reg.RLY_DIAG_FB_FAULT (s.rd Reg.RLY_DIAG_FB_FAULT ||| outs)
  s.safeLatch 3 ((lowestBit 4 outs).getD 0) true true

/-- A timed stage of the contact check ends, with channel a and b read high or low, and the holds and limits of the stage met
or not (R382). DEDUCED (notes/assumptions 46). -/
def contactCheck (s : State) (a b held : Bool) : State :=
  let wrong (wa wb : Bool) (stage : Nat) : Nat :=
    let m := (if a = wa then 0 else s.stageOutputs 0) ||| (if b = wb then 0 else s.stageOutputs 1)
    if m = 0 && !held then s.stageOutputs stage else m
  let check (wa wb : Bool) (stage : Nat) (go : State) : State :=
    if a = wa && b = wb && held then go else s.sf3Fail (wrong wa wb stage)
  if s.safety.pre.isSome then s
  else
    match s.safety.contact with
    | .released => check true true 0 (s.stageStart 0)
    | .stage1 => check false true 0 (s.stageStart 1)
    | .stage2 => check false false 1 s.closeComplete
    | .wait1 => s.stageStart 1
    | .wait2 => s.closeComplete
    | .release => check true true 0 (s.setSafety fun k => { k with contact := .none })
    | .none => if s.safeState = safeClosed && !s.on Reg.SAFE_STATE_NO_FB then check false false 0 s else s

/-- A disconnect request (R377). -/
def disconnectRequest (s : State) : State :=
  if s.safeState = safeClosing || s.safeState = safeClosed then s.openRelays else s

/-- The off-pulse of a slot begins (R379, R380): skipped unless CLOSED, with no demand, the output energised. -/
def offPulse (s : State) (slot : Nat) : State :=
  let n := slot / 2
  if slot < 8 && s.safeState = safeClosed && !s.sf4Active && hasBit (s.safety.rlyH &&& s.safety.rlyL) n && s.safety.pulse.isNone then
    s.setSafety fun k =>
      { k with pulse := some slot, rlyH := if slot % 2 = 0 then clearBit k.rlyH n else k.rlyH,
               rlyL := if slot % 2 = 1 then clearBit k.rlyL n else k.rlyL }
  else s

/-- A switch's readback contradicts its command (R381): recorded, and both channels latch. -/
def readbackFault (s : State) (n : Nat) (high : Bool) : State :=
  (s.setB (if high then Reg.RLY_DIAG_H_FAULT else Reg.RLY_DIAG_L_FAULT) n).relayFault n

/-- The off-pulse has ended (R380): the pulsed node read its off level in time, the other node kept its level, and the pulsed
node reads its on level again. -/
def offPulseEnd (s : State) (offSeen otherKept onSeen : Bool) : State :=
  match s.safety.pulse with
  | none => s
  | some slot =>
    let n := slot / 2
    let s := s.setSafety fun k =>
      { k with pulse := none, rlyH := if slot % 2 = 0 then setBit k.rlyH n else k.rlyH,
               rlyL := if slot % 2 = 1 then setBit k.rlyL n else k.rlyL }
    let s := (s.putB Reg.RLY_DIAG_H_ON n (slot % 2 == 1 || onSeen)).putB Reg.RLY_DIAG_L_ON n (slot % 2 == 0 || onSeen)
    if offSeen && otherKept && onSeen then s else s.readbackFault n (slot % 2 == 0)

/-- The reconnect timer has run for `RECONNECT_S` seconds of clear grid windows (R377). -/
def reconnectExpire (s : State) : State :=
  if s.safety.hslArmed && s.rd Reg.HSL_WIN_GRID = 0 then s.wr Reg.RECONNECT_SEC 0 else s

/-! ### Demands, windows of HSL (R376, R386, R387) -/

/-- Demand `n` of SF1 is present or not (R376); the lines of R290 are as grid support and Eclipse drive them. -/
def sf1Demand (s : State) (n : Nat) (present : Bool) : State :=
  let s := if n = 4 then s.setSafety fun k => { k with sf1 := putBit k.sf1 4 present } else s
  s.sf1Update

/-- One channel applies SF4 for a demand present; on loss of both pairs it opens its relay switches too (R128, R386). -/
def sf4ApplyBy (s : State) (hsl : Bool) : State :=
  if s.sf4Active then
    let s := s.sf4Drive hsl
    if hasBit s.safety.sf4 1 then
      let was := s.safeState = safeClosing || s.safeState = safeClosed
      let s := s.relaysOff (!hsl) hsl
      if was then (s.setSafeState safeOpen).raise Ev.SAFE_OPEN else s
    else s
  else s

/-- The grid windows as HSL judges them, once it judges (R387): a window that trips is signalled, restarts the reconnect timer
and demands SF1. -/
def gridWindows (s : State) (mask freq : Nat) : State :=
  if !s.safety.hslArmed then s
  else
    let new := andNot 6 mask (s.rd Reg.HSL_WIN_GRID)
    let s := (s.wr Reg.HSL_WIN_GRID mask).wr Reg.HSL_WIN_FREQ freq
    let s := s.setSafety fun k => { k with sf1 := putBit k.sf1 2 (mask % 64 != 0) }
    (if new != 0 then (s.raise Ev.SAFE_HSL_WIN).reconnectRestart else s).sf1Update

/-- Analog window `w` crosses its threshold, or returns (R387). -/
def analogWindow (s : State) (w : Nat) (trip : Bool) : State :=
  if 2 ≤ w || s.sprField (40 + w) 6 1 = 0 then s
  else
    let was := hasBit (s.rd Reg.HSL_WIN_AW) w
    let s := s.putB Reg.HSL_WIN_AW w trip
    let act (a : Nat) := (List.range 2).any fun v => hasBit (s.rd Reg.HSL_WIN_AW) v && s.sprField (40 + v) 18 2 == a
    let s := s.setSafety fun k => { k with sf4 := putBit k.sf4 0 (act 0), sf1 := putBit k.sf1 5 (act 1) }
    let s := s.when (trip && !was) (fun s => s.raise Ev.SAFE_HSL_WIN)
    if trip && s.sprField (40 + w) 18 2 = 0 then s.sf4Apply else s.sf1Update

/-- HSL begins to judge its grid windows (R387). -/
def windowsArm (s : State) : State :=
  if s.safety.confirmed && !hasBit s.safety.sf4 2 && !s.safety.hslArmed then
    ((s.setSafety fun k => { k with hslArmed := true, sf1 := clearBit k.sf1 2 }).wr Reg.HSL_WIN_GRID 0).reconnectRestart.safeView
  else s

/-! ### Safety PDU (R391 to R394) -/

/-- A connection fails (R393): its action applies. -/
def pduFail (s : State) (c ev : Nat) : State :=
  let s := (s.wr (Reg.PDU_STAT_STATE c) 3).raise ev
  let s := if s.pduAction c = 0 || s.safeState = safeLatched then s else (s.wr Reg.SAFE_CAUSE_CAUSE 7).wr Reg.SAFE_CAUSE_DETAIL c
  let s := if s.pduSf4 c then s.sf4Apply else s
  s.sf1Update

/-- A PDU is discarded (R393): counted, and more than 4 within 1 s (800 000 000 tB) fail the connection. -/
def pduDiscard (s : State) (c : Nat) (f : Fld) : State :=
  let t := s.now + s.rd Reg.ORB_TICK_TICK
  let l := t :: (nth s.safety.discards c []).filter fun u => decide (t < u + 800000000)
  let s := (s.incSat f).setSafety fun k => { k with discards := setNth k.discards c (l.take 5) }
  if 4 < l.length then s.pduFail c Ev.SAFE_PDU_FAULT else s

/-- The requests held after an accepted PDU of a type that carries request bits (R391): DATA replaces them, SAFE_REQUEST sets,
RELEASE withdraws those whose bits it carries clear. -/
def pduRequests (type old bits : Nat) : Nat := if type = 1 then bits else if type = 2 then old ||| bits else old &&& bits

/-- An accepted PDU (R393 step 6). -/
def pduAccept (s : State) (c type seq lost : Nat) (payload : List Byte) : State :=
  let bits := leNat (payload.take 1) % 4
  let s := (s.addSat (Reg.PDU_LOST_COUNT c) lost).wr (Reg.PDU_STAT_LAST_SEQ c) seq
  let s := (s.wr (Reg.PDU_STAT_STATE c) 2).wr (Reg.PDU_STAT_REQ c) (pduRequests type (s.rd (Reg.PDU_STAT_REQ c)) bits)
  let s := s.forEach (List.range 4) (fun s j => s.wr (Reg.PDU_DATA_WORD c j) (leNat (slice payload (4 * j) 4)))
  let s := s.raise Ev.SAFE_PDU_RX
  let s := if s.pduSf4 c then s.sf4Apply else s
  s.sf1Update

/-- SC judges a PDU (R393, R394). A PDU that fails before its source is known counts against the connection of that peer, else
against `d`. A connection that is off or failed takes none. -/
def pduJudge (s : State) (d : Option Nat) (bs : List Byte) : State :=
  let byte (i : Nat) := leNat (slice bs i 1)
  let src := wordAt bs 4
  let peer := (List.range 4).find? fun c => s.pduEnabled c && s.sprWord (11 + 2 * c) == src
  match (match peer with | some c => some c | none => d) with
  | none => s
  | some c =>
    let st := s.rd (Reg.PDU_STAT_STATE c)
    let len := fieldOf (byte 1) 0 5
    let n := 20 + 4 * ((len + 3) / 4)
    let ver := fieldOf (byte 0) 4 4
    let type := fieldOf (byte 0) 0 4
    let own := s.sprField 0 24 4
    let seq := leNat (slice bs 2 2)
    let dist := (seq + 65536 - s.rd (Reg.PDU_STAT_LAST_SEQ c)) % 65536
    if st = 0 || st = 3 then s
    else if bs.length != n || crc crcSafety (bs.take (n - 4)) != wordAt bs (n - 4) then s.pduDiscard c (Reg.PDU_ERR_CRC c)
    else if ver != own || type = 0 || 3 < type || (own = 1 && type != 1) || (if own = 1 then 8 else 16) < len then
      s.pduDiscard c (Reg.PDU_ERR_VER c)
    else if wordAt bs 8 != s.sprWord 10 || peer.isNone then s.pduDiscard c (Reg.PDU_ERR_ID c)
    else if leNat (slice bs 12 2) != fieldOf (s.pduWord c) 4 10 then s.pduDiscard c (Reg.PDU_ERR_ID c)
    else if st = 2 && (dist = 0 || 32768 ≤ dist) then s.pduDiscard c (Reg.PDU_ERR_SEQ c)
    else s.pduAccept c type seq (if st = 2 then dist - 1 else 0) ((bs.drop 16).take len)

/-- The bytes of a PDU that SC sends on connection `c` (R391). -/
def pduBuild (s : State) (c type : Nat) (payload : List Byte) : List Byte :=
  let len := payload.length
  let pad := List.replicate (4 * ((len + 3) / 4) - len) 0
  let bs := leBytes 1 (s.sprField 0 24 4 * 16 + type) ++ leBytes 1 len ++ leBytes 2 (s.rd (Reg.PDU_TX_SEQ c)) ++ leBytes 4 (s.sprWord 10)
    ++ leBytes 4 (s.sprWord (11 + 2 * c)) ++ leBytes 2 (fieldOf (s.pduWord c) 4 10) ++ leBytes 2 0 ++ payload ++ pad
  bs ++ leBytes 4 (crc crcSafety bs)

/-- SC sends one PDU on a connection that is not off (R392): into slot `c` of `COMET_SAFE_TX` for the connection's link, or of
`PDU_HOSTTX` for the host. Its type and payload are SC's own. -/
def pduSend (s : State) (c type : Nat) (payload : List Byte) : State :=
  let v1 := s.sprField 0 24 4 = 1
  if 4 ≤ c || s.rd (Reg.PDU_STAT_STATE c) = 0 || type = 0 || 3 < type || (v1 && type != 1) || (if v1 then 8 else 16) < payload.length then s
  else
    let ws := wordsOf (s.pduBuild c type payload)
    let s := s.incWrap (Reg.PDU_TX_SEQ c)
    if hasBit (s.pduWord c) 1 then
      s.forEach (((1 + 2 * c) :: ws).zipIdx) (fun s (w, i) => s.wr (Reg.PDU_HOSTTX_WORD (16 * c + i)) w)
    else
      let s := s.forEach ((fieldOf (s.pduWord c) 2 2 :: ws).zipIdx) (fun s (w, i) => s.wr (Reg.COMET_SAFE_TX_WORD (10 * c + i)) w)
      s.safeTxQueue .sc (2 ^ c)

/-- The watchdog of a connection has expired (R393). -/
def pduExpire (s : State) (c : Nat) : State :=
  let st := s.rd (Reg.PDU_STAT_STATE c)
  if c < 4 && (st = 1 || st = 2) then s.pduFail c Ev.SAFE_WDOG else s

/-- `SAFETY_RESET` (R377, R378, R393, R395): refused while a demand or a fault is present; else failed connections wait again and
the pre-energise tests of the used outputs begin. -/
def safetyReset (s : State) : Bool × State :=
  if (s.safeState != safeOpen && s.safeState != safeLatched) || s.resetDemand || s.safeFaultPresent || s.safety.pre.isSome then (false, s)
  else
    let s := s.forEach (List.range 4) (fun s c =>
      if s.rd (Reg.PDU_STAT_STATE c) = 3 then
        (s.wr (Reg.PDU_STAT_STATE c) 1).setSafety fun k => { k with discards := setNth k.discards c [] }
      else s)
    match lowestBit 4 s.relaysUsed with
    | some n => (true, s.preStart n true)
    | none => (true, s.resetDone)

/-- A SAFETY packet's words as the bytes of its PDU, whose length byte 1 gives. -/
def pduOfWords (ws : List Nat) : List Byte := bytesOf (ws.take (5 + (fieldOf (nth ws 0 0) 8 5 + 3) / 4))

end State

/-- XMON_FRAME (R375). -/
def execXmonFrame (toHsl : Bool) (f : XmonFrame) (s : State) : Out := .next (s.xmonFrame toHsl f)

/-- XMON_TIMEOUT (R375): seen by SC or by HSL. -/
def execXmonTimeout (bySc : Bool) (s : State) : Out := .next (s.xmonTimeout bySc)

/-- XMON_DISCREPANCY (R375). -/
def execXmonDiscrepancy (s : State) : Out := .next s.xmonDiscrepancy

/-- SAFE_SF1_DEMAND (R376). -/
def execSafeSf1Demand (n : Nat) (present : Bool) (s : State) : Out := .next (s.sf1Demand n present)

/-- SIN_SAMPLE (R383): levels of the inputs, and samples of 100 µs since the test-pulse cycle began. -/
def execSinSample (levels t : Nat) (s : State) : Out := .next (s.sinSample levels t)

/-- SAFE_SF2_DEMAND (R383). -/
def execSafeSf2Demand (f : Nat) (s : State) : Out := .next (s.sf2Demand f)

/-- SAFE_SF2_RELEASE (R385). -/
def execSafeSf2Release (f : Nat) (s : State) : Out := .next (s.sf2Release f)

/-- SAFE_SF4_APPLY (R386): by HSL or by SC. -/
def execSafeSf4Apply (hsl : Bool) (s : State) : Out := .next (s.sf4ApplyBy hsl)

/-- SAFE_SF4_RELEASE (R386): at a boundary. -/
def execSafeSf4Release (s : State) : Out := .next s.sf4Release

/-- TPO_PULSE (R384). -/
def execTpoPulse (src before early window : Nat) (readback : Bool) (s : State) : Out := .next (s.tpoPulse src before early window readback)

/-- COMM_KEY_PRESS (R390). -/
def execCommKeyPress (inWindow held : Nat) (s : State) : Out := .next (s.commKey inWindow held)

/-- CONFIRM_WINDOW_EXPIRE (R390). -/
def execConfirmWindowExpire (s : State) : Out := .next s.confirmClose

/-- SAFE_CONNECT_REQUEST (R382). -/
def execSafeConnectRequest (s : State) : Out := .next s.connectRequest

/-- SAFE_PRE_ENERGISE_STEP (R378). -/
def execSafePreEnergiseStep (h l : Nat) (s : State) : Out := .next (s.preStep h l)

/-- SAFE_CONTACT_CHECK (R382). -/
def execSafeContactCheck (a b held : Bool) (s : State) : Out := .next (s.contactCheck a b held)

/-- SAFE_DISCONNECT_REQUEST (R377). -/
def execSafeDisconnectRequest (s : State) : Out := .next s.disconnectRequest

/-- RELAY_OFF_PULSE (R380). -/
def execRelayOffPulse (slot : Nat) (s : State) : Out := .next (s.offPulse slot)

/-- RELAY_OFF_PULSE_END (R380). -/
def execRelayOffPulseEnd (offSeen otherKept onSeen : Bool) (s : State) : Out := .next (s.offPulseEnd offSeen otherKept onSeen)

/-- RELAY_READBACK_FAULT (R381). -/
def execRelayReadbackFault (n : Nat) (high : Bool) (s : State) : Out := .next (if n < 4 then s.readbackFault n high else s)

/-- RECONNECT_TIMER_EXPIRE (R377). -/
def execReconnectTimerExpire (s : State) : Out := .next s.reconnectExpire

/-- HSL_GRID_WINDOW_TRIP (R387): the windows tripped now and the frequency. -/
def execHslGridWindowTrip (mask freq : Nat) (s : State) : Out := .next (s.gridWindows mask freq)

/-- HSL_ANALOG_WINDOW_TRIP (R387). -/
def execHslAnalogWindowTrip (w : Nat) (trip : Bool) (s : State) : Out := .next (s.analogWindow w trip)

/-- HSL_WINDOWS_ARM (R387). -/
def execHslWindowsArm (s : State) : Out := .next s.windowsArm

/-- PDU_SEND (R392). -/
def execPduSend (c type : Nat) (payload : List Byte) (s : State) : Out := .next (s.pduSend c type payload)

/-- PDU_WATCHDOG_EXPIRE (R393). -/
def execPduWatchdogExpire (c : Nat) (s : State) : Out := .next (s.pduExpire c)

/-- SAFE_SELF_CHECK_FAIL (R377). -/
def execSafeSelfCheckFail (s : State) : Out := .next ((s.raise Ev.SAFE_SELF).safeLatch 6 0 true true)

/-- SAFETY_PDU_RECEIVE (R361, R393): the copy that enters the ring is read by SC, which judges it. -/
def execSafetyPduReceive (l seq addr : Nat) (words : List Nat) (s : State) : Out :=
  .next (
    let (placed, s) := s.safetyTake l seq addr words
    if placed then
      let d := (List.range 4).find? fun c => s.pduEnabled c && !hasBit (s.pduWord c) 1 && fieldOf (s.pduWord c) 2 2 == l
      s.pduJudge d (State.pduOfWords words)
    else s)

end Sys2Proof.Machine
end

