-- ==== Sys2Proof/Machine/TppOps.lean ====
section
/-! DEFINITION. Machine/TppOps.lean: operations on a port of the Tilyen packet protocol that other chapters use (R409, R503). -/

namespace Sys2Proof.Machine
namespace State

/-- What TPP holds of a port. -/
def port (s : State) : Port → PortSt
  | .host => s.tpp.host
  | .service => s.tpp.service
  | .tunnel n => nth s.tpp.tunnels n {}

/-- Replace what TPP holds of a port. -/
def setPort (s : State) (p : Port) (v : PortSt) : State :=
  match p with
  | .host => { s with tpp := { s.tpp with host := v } }
  | .service => { s with tpp := { s.tpp with service := v } }
  | .tunnel n => { s with tpp := { s.tpp with tunnels := setNth s.tpp.tunnels n v } }

/-- `SEC_SESSION` shows which ports are authenticated (R448). -/
def sessionShow (s : State) : State :=
  let s := (s.wr Reg.SEC_SESSION_HOST (b2n s.tpp.host.auth)).wr Reg.SEC_SESSION_SERVICE (b2n s.tpp.service.auth)
  s.wr Reg.SEC_SESSION_TUNNEL ((List.range 8).foldl (fun m n => if (s.port (.tunnel n)).auth then setBit m n else m) 0)

/-- The handshake of a port is discarded (R409). -/
def dropHandshake (s : State) (p : Port) : State :=
  s.setPort p { s.port p with handshake := .none, transcript := [], secret := 0, kemKey := 0 }

/-- The session of a port ends, if it has one (R409, R447). -/
def endSession (s : State) (p : Port) : State :=
  let s := s.dropHandshake p
  let v := s.port p
  if v.auth then ((s.setPort p { v with auth := false, kMac := 0, owner := 0, authFails := 0 }).sessionShow).raise Ev.SEC_SESSION else s

/-- Every port. -/
def ports : List Port := .host :: .service :: (List.range 8).map .tunnel

/-- Every session ends (R409, R439). -/
def endSessions (s : State) : State := s.forEach ports endSession

/-- The service connector is unplugged (R503): its session ends, a partly received packet is discarded, waiting replies too. -/
def serviceUnplug (s : State) : State :=
  let s := s.endSession .service
  let s := s.setPort .service { s.port .service with replies := [] }
  { s with tpp := { s.tpp with svcRx := [] } }

end State
end Sys2Proof.Machine
end

