-- ==== Sys2Proof/Machine/Umbra.lean ====
section
/-! DEFINITION. Machine/Umbra.lean: the Umbra keeper domain (R459 to R477). The storage capacitor, the input levels and the time that
has passed are operands of the commands that measure them. -/

namespace Sys2Proof.Machine
namespace State

abbrev umbStart : Nat := 1
abbrev umbKeep : Nat := 2
abbrev umbLinked : Nat := 3

/-- Replace what Umbra holds. -/
def setUmb (s : State) (f : UmbSt → UmbSt) : State := { s with umb := f s.umb }

/-- The state of UR while it is not DEAD. -/
def umbState (s : State) : Nat := s.rd Reg.UMB_STATUS_STATE

/-- Umbra events reach MC in LINKED only (R476). -/
def umbRaise (s : State) (ev : Nat) : State := if s.umbState = umbLinked then s.raise ev else s

/-! ### Records (R468 to R472) -/

/-- CRC-16 0x1021 (R449 POLY 1). -/
def crc16 : CrcParams := ⟨16, 0x1021, 0xFFFF, false, 0⟩

/-- The sixteen bytes of a record. -/
def recBytes (r : UmbRec) : List Byte :=
  let bs := leBytes 4 r.sec ++ leBytes 2 r.seq ++ leBytes 2 r.code ++ leBytes 1 r.flags ++ leBytes 5 r.data
  bs ++ leBytes 2 (crc crc16 bs)

/-- The record of a sequence number, where it is held (R470). -/
def logFind (s : State) (seq : Nat) : Option UmbRec := (s.umb.store.find? fun e => e.2.seq == seq).map Prod.snd

/-- `a` is newer than `b`, or equal: sequence numbers modulo 2^16 (R470). -/
def seqNewer (a b : Nat) : Bool := decide ((a + 65536 - b) % 65536 < 32768)

/-- The newest and the oldest record held. -/
def logNewest (s : State) : Option (Nat × UmbRec) :=
  s.umb.store.find? fun e => s.umb.store.all fun o => seqNewer e.2.seq o.2.seq
def logOldest (s : State) : Option (Nat × UmbRec) :=
  s.umb.store.find? fun e => s.umb.store.all fun o => seqNewer o.2.seq e.2.seq

/-- `UMB_LOG_HEAD`, `UMB_LOG_OLDEST` and the words of the selected record follow the store (R474). -/
def logShow (s : State) : State :=
  let n := (s.logNewest.map fun e => e.2.seq).getD 0
  let o := (s.logOldest.map fun e => e.2.seq).getD 0
  let s := ((s.wr Reg.UMB_LOG_HEAD_NEWEST n).wr Reg.UMB_LOG_HEAD_COUNT s.umb.store.length).wr Reg.UMB_LOG_OLDEST_SEQ o
  let r := s.logFind (s.rd Reg.UMB_LOG_IDX_SEQ)
  let bs := (r.map recBytes).getD (List.replicate 16 0)
  let s := s.wr Reg.UMB_LOG_IDX_VALID (b2n r.isSome)
  s.forEach (List.range 4) fun s i => s.wr (Reg.UMB_LOG_RD_WORD i) (wordAt bs (4 * i))

/-- The slot and the SEQ of the next record (R470); those of the first record of an empty store are not stated: free. -/
def logNext (s : State) : (Nat × Nat) × State :=
  match s.umb.next with
  | some n => (n, s)
  | none => let (x, s) := s.takeFree; ((x % 512, x / 512 % 65536), s)

/-- One burst: journal, then commit (R471). -/
def recordBurst (s : State) (r : UmbRec) : State :=
  let ((slot, seq), s) := s.logNext
  s.setUmb fun u =>
    { u with store := sparseInsert u.store slot { r with seq := seq }, journal := none, next := some ((slot + 1) % 512, (seq + 1) % 65536) }

/-- The energy available above V_MIN reaches MARGIN times that of a burst (R472): C in µF, V in mV, 1 µJ for a burst. -/
def energyOk (s : State) : Bool :=
  let v := s.rd Reg.UMB_CSTORE_MV
  decide (2000 ≤ v) && decide (2000000 * s.rd Reg.UMB_CFG_MARGIN ≤ s.rd Reg.UMB_CSTORE_CAP * (v * v - 4000000))

/-- A record of UE or MC as it originates: time of origin, flags. -/
def newRecord (s : State) (code flags data : Nat) (mc : Bool) : UmbRec :=
  ⟨s.rd Reg.UMB_SECONDS_SEC, 0, code, putBit (putBit (clearBit flags 1) 0 (s.on Reg.UMB_STATUS_TIME_UNKNOWN)) 2 mc, data % 2 ^ 40⟩

/-- `STAGED` follows the queue. -/
def stagedShow (s : State) : State := s.wr Reg.UMB_STATUS_STAGED s.umb.staged.length

/-- The staged records are written, oldest first, and after them the count of records dropped (R472). -/
def logFlush (s : State) : State :=
  let s := (s.forEach s.umb.staged recordBurst).setUmb fun u => { u with staged := [] }
  let s := if s.umb.drops = 0 then s
    else (s.recordBurst (s.newRecord 0x0108 0 (min s.umb.drops 65535) false)).setUmb fun u => { u with drops := 0 }
  s.stagedShow.logShow

/-- Staged records are written where the energy suffices, and deferred otherwise (R472); nothing is written in START. -/
def logDrain (s : State) : State :=
  if s.umb.staged = [] || s.umbState = umbStart then s.stagedShow
  else if s.energyOk then s.logFlush
  else
    let s := s.setUmb fun u => { u with staged := u.staged.map fun r => { r with flags := setBit r.flags 1 } }
    (s.wr Reg.UMB_FLAGS_DEFER 1).stagedShow.umbRaise Ev.UMB_LOG

/-- A record is staged, or dropped where sixteen are (R472). -/
def stageRecord (s : State) (r : UmbRec) : State :=
  if 16 ≤ s.umb.staged.length then
    let s := s.setUmb fun u => { u with drops := u.drops + 1 }
    ((s.incSat Reg.UMB_LOG_LOST_COUNT).wr Reg.UMB_FLAGS_LOST 1).umbRaise Ev.UMB_LOG
  else (s.setUmb fun u => { u with staged := u.staged ++ [r] }).logDrain

/-- UE writes a record of its own (R469). -/
def ueRecord (s : State) (code data : Nat) : State := s.stageRecord (s.newRecord code 0 data false)

/-- MC adds a record (R474). -/
def mcRecord (s : State) (code flags data : Nat) : State := s.stageRecord (s.newRecord code flags data true)

/-! ### States (R462) -/

/-- A cold start: CSTORE has risen above V_START. -/
def coldStart (s : State) (mv : Nat) : State :=
  if s.umb.alive then s
  else
    let s := s.clearRegs 0x400F0000 0x40100000
    let s := s.setUmb fun u =>
      { u with alive := true, next := none, staged := [], drops := 0, lastTamper := false, lastPlugN := true, darkSince := none, measured := false, trimmed := false }
    let s := ((s.wr Reg.UMB_STATUS_CAP_OK (b2n s.umb.cap.isSome)).wr Reg.UMB_CSTORE_CAP (s.umb.cap.getD 470)).wr Reg.UMB_OUTAGE_COUNT s.umb.outage
    s.wr Reg.UMB_CSTORE_MV mv

/-- The journal is completed or discarded, the store scanned, the inputs sampled (R473). -/
def recover (s : State) (tamper plugN : Bool) (bad : List Nat) : State :=
  let j := s.umb.journal
  let s := s.setUmb fun u =>
    let st := match j with
      | some (slot, r) => sparseInsert u.store slot r
      | none => u.store
    { u with store := st.filter fun e => !bad.contains e.1, journal := none, lastTamper := tamper, lastPlugN := plugN }
  let s := s.setUmb fun u => { u with next := s.logNewest.map fun e => ((e.1 + 1) % 512, (e.2.seq + 1) % 65536) }
  let s := if bad = [] then s else s.wr Reg.UMB_FLAGS_CRC_ERR 1
  let s := (s.wr Reg.UMB_STATUS_TAMPER (b2n (tamper && s.on Reg.UMB_CFG_TAMPER_EN))).wr Reg.UMB_STATUS_PLUG (b2n (!plugN && s.on Reg.UMB_CFG_PLUG_EN))
  match j with
  | some (slot, _) => (s.wr Reg.UMB_FLAGS_REDO 1).setUmb fun u => { u with staged := u.staged ++ [s.newRecord 0x0109 0 slot false] }
  | none => s

/-- Recovery ends: KEEP or LINKED, and the COLD_START record (R462, R469). -/
def recoveryEnd (s : State) (mv : Nat) (tamper plugN vdd : Bool) (bad : List Nat) : State :=
  if !s.umb.alive || s.umbState != umbStart then s
  else
    let s := (s.recover tamper plugN bad).setUmb fun u => { u with vdd := vdd }
    let s := s.wr Reg.UMB_STATUS_STATE (if vdd then umbLinked else umbKeep)
    let s := if vdd then s.raise Ev.UMB_TIME else s
    let s := if bad = [] then s else s.umbRaise Ev.UMB_LOG
    (s.ueRecord 0x0100 (mv % 65536 + 65536 * (b2n tamper + 2 * b2n plugN))).logShow

/-- VDD rises above its reset level (R462, R466): an outage with a known beginning has a duration. -/
def vddRise (s : State) : State :=
  let was := s.umbState
  let s := s.setUmb fun u => { u with vdd := true }
  if !s.umb.alive || was != umbKeep then s
  else
    let s := (s.wr Reg.UMB_STATUS_STATE umbLinked).raise Ev.UMB_TIME
    match s.umb.darkSince with
    | some t =>
      let d := s.rd Reg.UMB_SECONDS_SEC - t
      ((s.setUmb fun u => { u with darkSince := none }).wr Reg.UMB_DARK_LAST_SEC d).ueRecord 0x0102 d
    | none => s

/-- VDD falls below its reset level (R462, R466). -/
def vddFall (s : State) : State :=
  let was := s.umbState
  let s := s.setUmb fun u => { u with vdd := false }
  if !s.umb.alive || was != umbLinked then s
  else
    let n := satInc max32 s.umb.outage
    let s := s.setUmb fun u => { u with outage := n, darkSince := some (s.rd Reg.UMB_SECONDS_SEC) }
    ((s.wr Reg.UMB_OUTAGE_COUNT n).wr Reg.UMB_STATUS_STATE umbKeep).ueRecord 0x0101 n

/-- CSTORE falls below V_DEAD (R462, R471): the record of a burst that stops in its second phase stays in the journal. -/
def umbDead (s : State) (phase2 : Bool) : State :=
  let j := if phase2 then s.umb.staged.head? else none
  let (x, s) := match j with
    | some r => let ((slot, seq), s) := s.logNext; (some (slot, { r with seq := seq }), s)
    | none => (none, s)
  s.setUmb fun u =>
    { u with alive := false, journal := x, staged := [], drops := 0, next := none, darkSince := none,
             store := match x with | some (slot, _) => sparseErase u.store slot | none => u.store }

/-! ### Time and refresh (R463, R464) -/

/-- Ticks of the 32.768 kHz oscillator pass. DEDUCED: only with UMB_REFRESH (notes/assumptions 47). -/
def umbTicks (s : State) (n : Nat) : State :=
  let t := s.rd Reg.UMB_SUBSEC_TICK + n
  (s.wr Reg.UMB_SUBSEC_TICK (t % 32768)).wr Reg.UMB_SECONDS_SEC (s.rd Reg.UMB_SECONDS_SEC + t / 32768)

/-- A refresh: the time that has passed since the last, CSTORE, and whether an input delivers current. -/
def umbRefresh (s : State) (mv ticks : Nat) (harvest : Bool) : State :=
  if !s.umb.alive then s
  else
    let s := ((s.umbTicks ticks).wr Reg.UMB_CSTORE_MV mv).wr Reg.UMB_STATUS_HARVEST (b2n harvest)
    s.logDrain

/-- The time is set (R464), and metering is told of a step of more than 1 s (R337). -/
def timeSet (s : State) (sec : Nat) : State :=
  let old := s.rd Reg.UMB_SECONDS_SEC
  let unk := s.rd Reg.UMB_STATUS_TIME_UNKNOWN
  let new := sec % 2 ^ 32
  let s := ((s.wr Reg.UMB_SECONDS_SEC new).wr Reg.UMB_SUBSEC_TICK 0).wr Reg.UMB_STATUS_TIME_UNKNOWN 0
  let s := (s.ueRecord 0x0107 (old + 2 ^ 32 * unk))
  let s := if unk = 1 then s.umbRaise Ev.UMB_TIME else s
  if old + 1 < new || new + 1 < old then s.meForce else s

/-! ### Inputs (R467, R503) -/

/-- A change of the enclosure or of the plug is confirmed. -/
def tamperChange (s : State) (opened : Bool) : State :=
  let s := (s.wr Reg.UMB_STATUS_TAMPER (b2n opened)).wr Reg.UMB_FLAGS_TAMPER_EV 1
  (s.ueRecord (if opened then 0x0103 else 0x0104) (s.rd Reg.UMB_CSTORE_MV)).umbRaise Ev.UMB_TAMPER
def plugChange (s : State) (plugged : Bool) : State :=
  let s := (s.wr Reg.UMB_STATUS_PLUG (b2n plugged)).wr Reg.UMB_FLAGS_PLUG_EV 1
  let s := (s.ueRecord (if plugged then 0x0105 else 0x0106) (s.rd Reg.UMB_CSTORE_MV)).umbRaise Ev.UMB_PLUG
  if plugged then s else s.serviceUnplug

/-- Both inputs are sampled where enabled: two samples that agree on a new level confirm it. -/
def inputsSample (s : State) (tamper plugN : Bool) : State :=
  if !s.umb.alive || s.umbState = umbStart then s
  else
    let lt := s.umb.lastTamper
    let lp := s.umb.lastPlugN
    let te := s.on Reg.UMB_CFG_TAMPER_EN
    let pe := s.on Reg.UMB_CFG_PLUG_EN
    let s := s.setUmb fun u => { u with lastTamper := if te then tamper else lt, lastPlugN := if pe then plugN else lp }
    let s := if te && tamper == lt && tamper != s.on Reg.UMB_STATUS_TAMPER then s.tamperChange tamper else s
    if pe && plugN == lp && plugN == s.on Reg.UMB_STATUS_PLUG then s.plugChange (!plugN) else s

/-! ### The window (R474) -/

/-- A write through the window: in DEAD and START every access returns a bus error. -/
def umbWrite (s : State) (m : Master) (a : Nat) (f : State → State) : State :=
  if !s.umb.alive || s.umbState = umbStart then { s with bus := .error } else s.access m a .ur f

/-- The record of a PUT: bytes 6 to 9 and 10 to 13 stand in `UMB_LOG_WR0` and `WR1`. -/
def logPut (s : State) : State :=
  let a := s.rd Reg.UMB_LOG_WR0_WORD
  s.mcRecord (fieldOf a 0 16) (fieldOf a 16 8) (fieldOf a 24 8 + 256 * s.rd Reg.UMB_LOG_WR1_WORD)

/-- The capacitance (R461): C = 1.0 mA · Δt / 0.50 V, Δt in µs, once in each first charge after a cold start. -/
def capMeasured (s : State) (us : Nat) : State :=
  if s.umb.alive && s.umb.vdd && s.umbState = umbLinked && s.on Reg.UMB_CFG_CHG_EN && !s.umb.measured then
    let c := min (us / 500) 4095
    ((s.setUmb fun u => { u with cap := some c, measured := true }).wr Reg.UMB_CSTORE_CAP c).wr Reg.UMB_STATUS_CAP_OK 1
  else s

end State

/-- UMB_COLD_START (R462). -/
def execUmbColdStart (mv : Nat) (s : State) : Out := .next (s.coldStart mv)

/-- UMB_RECOVERY_END (R473): the first samples, whether VDD is present, and the slots whose CRC fails. -/
def execUmbRecoveryEnd (mv : Nat) (tamper plugN vdd : Bool) (bad : List Nat) (s : State) : Out :=
  .next (s.recoveryEnd mv tamper plugN vdd bad)

/-- UMB_VDD_RISE (R462). -/
def execUmbVddRise (s : State) : Out := .next s.vddRise

/-- UMB_VDD_FALL (R462). -/
def execUmbVddFall (s : State) : Out := .next s.vddFall

/-- UMB_DEAD (R462): whether a burst stops in its second phase. -/
def execUmbDead (phase2 : Bool) (s : State) : Out := .next (if s.umb.alive then s.umbDead phase2 else s)

/-- UMB_REFRESH (R463). -/
def execUmbRefresh (mv ticks : Nat) (harvest : Bool) (s : State) : Out := .next (s.umbRefresh mv ticks harvest)

/-- UMB_INPUT_SAMPLE (R467). -/
def execUmbInputSample (tamper plugN : Bool) (s : State) : Out := .next (s.inputsSample tamper plugN)

/-- UMB_TIME_SET_WRITE (R464). -/
def execUmbTimeSetWrite (m : Master) (sec : Nat) (s : State) : Out := .next (s.umbWrite m 0x400F0014 (fun s => s.timeSet sec))

/-- UMB_LOG_PUT (R474). -/
def execUmbLogPut (m : Master) (s : State) : Out := .next (s.umbWrite m 0x400F0030 State.logPut)

/-- UMB_OSC_TRIM (R465): nothing but the oscillator's error changes. -/
def execUmbOscTrim (s : State) : Out :=
  .next (if s.umb.alive && s.umb.vdd then s.setUmb fun u => { u with trimmed := true } else s)

/-- UMB_CAP_MEASURED (R461): the rise from 2.40 V to 2.90 V in µs. -/
def execUmbCapMeasured (us : Nat) (s : State) : Out := .next (s.capMeasured us)

end Sys2Proof.Machine
end

