-- ==== Sys2Proof/Machine/Resets.lean ====
section
/-! DEFINITION. Machine/Resets.lean: the register map as one (R69), and what each reset keeps (R490 to R493). Loading images and
reapplying records after a reset stand in Machine/Records.lean. -/

namespace Sys2Proof.Machine

/-- The rows of the block at an address (R69). -/
def regRows (a : Nat) : List RegRow :=
  match a / 0x10000 with
  | 0x4000 => Reg.rows_orbit ++ Reg.rows_gridSupport
  | 0x4001 => Reg.rows_pwm
  | 0x4002 => Reg.rows_drive
  | 0x4003 => Reg.rows_sense
  | 0x4004 => Reg.rows_comparators
  | 0x4005 => Reg.rows_loopEngines
  | 0x4006 => Reg.rows_metering
  | 0x4007 => Reg.rows_perihelion
  | 0x4008 => Reg.rows_eclipse
  | 0x4009 => Reg.rows_comet
  | 0x400A => Reg.rows_checkValue ++ Reg.rows_security
  | 0x400B => Reg.rows_events
  | 0x400C => Reg.rows_crossings ++ Reg.rows_pairs
  | 0x400D => Reg.rows_clockPower
  | 0x400E => Reg.rows_safety
  | 0x400F => Reg.rows_umbra
  | _ => []

/-- The fields of the register at an address. -/
def regFields? (a : Nat) : Option (List FieldRow) := findRow (regRows a) a

/-- The row of a field key. -/
def fieldRow? (k : Nat) : Option FieldRow := (regFields? (k / 32)).bind fun fs => fs.find? fun r => r.fld.key == k

/-- The fields that count since `PORST` or carry domain PO (R493, R496): only `PORST` resets them. -/
def porstKeys : List Nat :=
  [Reg.SUP_DIP_COUNT_COUNT, Reg.RST_CAUSE_CAUSE, Reg.CP_TAKEOVER_LOG_COUNT, Reg.CP_TAKEOVER_LOG_CAUSE,
   Reg.CP_TAKEOVER_FRAME_COUNT, Reg.SEC_DEBUG_SINCE_POR, State.rejoinFld .a, State.rejoinFld .b].map Fld.key

/-- A field key belongs to a reset domain (R10). -/
def keyIn (d : Domain) (k : Nat) : Bool := !porstKeys.contains k && (fieldRow? k).any (fun r => r.dom == d)

namespace State

/-- The fields whose key satisfies `p` return to their reset value, and their RW1 fields open again (R9, R10). -/
def dropKeys (s : State) (p : Nat → Bool) : State :=
  { s with regs := s.regs.filter (fun e => !p e.1), rw1 := s.rw1.filter (fun k => !p k) }

/-- A trial image whose region resets before its 60 s have passed is not loaded again (R433). -/
def trialEnds (s : State) (types : List Nat) : State :=
  s.forEach types (fun s t =>
    if nth s.nv.trialRuns t false then
      { s with nv := { s.nv with trial := setNth s.nv.trial t none, trialRuns := setNth s.nv.trialRuns t false } }
    else s)

/-- What the hard lines of the safety channel still hold is applied again to blocks that have been reset (R65). -/
def linesAgain (s : State) : State :=
  let s := s.when (s.safety.pwmSafeSc || s.safety.pwmSafeHsl) (fun s => s.setB Reg.PWM_SAFE_STATUS_ACTIVE SafeCause.hard.bit)
  s.when (s.safety.cutSc || s.safety.cutHsl) enableLine

/-- The control region resets (R43, R493); the safety channel stays as it is but for the line that grid support drives. -/
def crReset (s : State) : State :=
  let s := s.trialEnds [1, 2]
  let s := s.dropKeys (keyIn .cr)
  let c := s.cross
  let s := { s with tcmA := [], tcmB := [], slink := {}, orbit := {}, pairs := {}, pwm := {}, les := {}, drv := {}, sense := {},
                    cmp := {}, gs := {}, cmt := {},
                    cross := { c with loadLe0 := .idle, loadLe1 := .idle, loadOrbit := .idle, loadProfile := .idle, taps := [],
                                      dataPort := [], lateCommits := 0, digest := none },
                    safety := { s.safety with sf1 := clearBit s.safety.sf1 0 },
                    tpp := { s.tpp with gprActive := false, gprPending := none, disc := .none, connectWanted := false } }
  s.linesAgain

/-- The data region resets (R43, R493). -/
def drReset (s : State) : State :=
  let s := s.dropKeys (keyIn .dr)
  { s with capture := [], ee := {}, pe := {}, me := {}, cross := { s.cross with loadSweep := .idle, tapIn := [] },
           safety := { s.safety with sf1 := clearBit s.safety.sf1 1 } }

/-- Keys of the management region that a `SOFTRST` of MR returns: those of the check-value units. The crossings block and the
clocks keep theirs, and the security status is restored at boot (R493). -/
def mrKey (k : Nat) : Bool := decide (0x400A0000 * 32 ≤ k) && decide (k < 0x400A8000 * 32)

/-- The management region resets (R493): sessions end and the boot ROM runs (R422). The operating state is `BOOT` until it has
(DEDUCED, notes/assumptions 51). -/
def mrReset (s : State) : State :=
  let s := s.trialEnds [0]
  let s := s.dropKeys mrKey
  { s with mcMem := [], cvu := {}, cross := { s.cross with mcQueue := [] }, tpp := {}, oper := .boot,
           sec := { s.sec with romDue := true, romRan := false, package := false, token := none, erased := [] } }

/-- A package reset (R490, R493): every region but UR. `cause` is its bit of `RST_CAUSE`; `PORST` clears the other bits. -/
def packageReset (s : State) (cause : Nat) : State :=
  let porst := decide (cause = 0)
  let s := s.trialEnds [0, 1, 2, 3]
  let keep (k : Nat) : Bool := decide (0x400F0000 * 32 ≤ k) || (!porst && porstKeys.contains k)
  let s := s.dropKeys (fun k => !keep k)
  let r : State := { State.reset with
    regs := s.regs, rw1 := s.rw1, bus := s.bus, now := s.now, freeCtr := s.freeCtr, nv := s.nv, umb := s.umb,
    clk := { sinceGood := if porst then 0 else s.clk.sinceGood, hostHighZ := s.clk.hostHighZ }, pending := s.pending }
  if porst then r.wr Reg.RST_CAUSE_CAUSE 1 else r.setB Reg.RST_CAUSE_CAUSE cause

end State

/-- PORST (R490): a supply below its reset level, or first power; `dark` says that the supply stays absent (R488). -/
def execPorst (dark : Bool) (s : State) : Out :=
  .next (State.when (s.packageReset 0) dark (fun s => { s with power := .dark }))

/-- PINRST (R490). -/
def execPinrst (s : State) : Out := .next (s.packageReset 1)

/-- WDRST (R491): the watchdog expires, where it is enabled. -/
def execWdrst (s : State) : Out := .next (if s.on Reg.WDT_CTRL_EN then s.packageReset 2 else s)

/-- FATALRST (R39, R490): where an enabled escalation has made it due. -/
def execFatalrst (s : State) : Out := .next (if s.pairs.fatalDue then s.packageReset 3 else s)

end Sys2Proof.Machine
end

