-- ==== Sys2Proof/Machine/Clocks.lean ====
section
/-! DEFINITION. Machine/Clocks.lean: the PLLs, the ramp generator, the supervisors, the watchdog and the start of a power-state
transition (R478 to R495). The end of a transition stands in Machine/Power.lean, because it reapplies records. -/

namespace Sys2Proof.Machine

namespace State

/-! ### Reference and PLLs (R478 to R481) -/

/-- Twice the edges of a band against the VCO target of PLL `p` under its 2 % margins, both scaled alike: bands count in
2 MHz, and `PLL_CORE` runs at 100 MHz × MULT / 2^16 (R479, R480, R482). DEDUCED (notes/assumptions 49). -/
def bandFits (s : State) (p b : Nat) : Bool :=
  let target : Nat := match p with
    | 0 => 3200 * 65536 * 100
    | 1 => 100 * s.rd Reg.CORE_MULT_MULT * 100
    | 2 => 5000 * 65536 * 100
    | _ => 3200 * 65536 * 100
  s.on (Reg.PLL_BAND_VALID p b) && decide (s.rd (Reg.PLL_BAND_LOW p b) * 2 * 102 * 65536 ≤ target)
    && decide (target ≤ s.rd (Reg.PLL_BAND_HIGH p b) * 2 * 98 * 65536)

/-- A PLL is to run in the present power state, or in the one that a transition goes to (R479, R496). -/
def pllWanted (s : State) (p : Nat) : Bool :=
  let st := s.clk.target.getD s.power
  p < 4 && (st == .run || (st == .watch && (p == 0 || p == 3))) && (p != 2 || s.on Reg.CLK_CTRL_LANE_EN)

/-- The PLLs needed in the present power state that do not read locked, as a mask (R481). -/
def pllMissing (s : State) : Nat := maskOf 4 (fun p => s.pllWanted p && !hasBit (s.rd Reg.CLK_STATUS_LOCK) p)

/-- PLL `p` locks in the lowest valid band that fits, or `BAND_ERR` is set (R480). -/
def pllLock (s : State) (p : Nat) : State :=
  if !s.pllWanted p || !s.on Reg.CLK_STATUS_REF_OK || hasBit (s.rd Reg.CLK_STATUS_LOCK) p then s
  else if !(List.range 32).any (s.bandFits p) then s.wr Reg.CLK_FLAGS_BAND_ERR 1
  else
    let s := s.setB Reg.CLK_STATUS_LOCK p
    if p = 0 then
      let s := ((s.wr Reg.PWM_STATUS_CLK_OK 1).pwmCauseEnds .clkLoss).pwmCauseEnds .clkStop
      s.setSafety fun k => { k with sf4 := clearBit k.sf4 4 }
    else s

/-- The base clock is gone: PWM safe by CLK_LOSS (R192). -/
def pwmClkLoss (s : State) : State :=
  ((s.wr Reg.PWM_STATUS_CLK_OK 0).flagRaise Reg.PWM_FLAGS_CLK_LOSS Ev.PWM_CLK_LOSS).pwmSafe .clkLoss

/-- Every lane loses lock (R365, R481): it leaves its link at once, because no lane is left to name a boundary on. -/
def lanesLost (s : State) : State :=
  s.forEach (List.range 4) (fun s k => (s.laneLost k 1 (s.rd Reg.ORB_TICK_TICK)).cmtLaneRemove k)

/-- Both core pairs are lost with their clock (R128, R481). -/
def coreLost (s : State) : State :=
  let s := s.when s.cpRun (fun s => s.bothLost s.activePair)
  let other (s : State) (p : PairId) : State := s.when (s.pairRuns p || s.pairState p == pairSync) (fun s => (s.fence p).enterFailed p)
  other (other s .a) .b

/-- A loss of lock during a ramp ends it (R494). -/
def rampAbort (s : State) : State :=
  if s.on Reg.RAMP_CTRL_RUN then
    let s := (s.wr Reg.RAMP_CTRL_RUN 0).wr Reg.CLK_FLAGS_RAMP_ERR 1
    { s with clk := { s.clk with rampReturns := s.on Reg.RAMP_STATUS_BUSY } }
  else s

/-- PLL `p` loses lock (R481). -/
def pllUnlock (s : State) (p : Nat) : State :=
  if !hasBit (s.rd Reg.CLK_STATUS_LOCK) p || 4 ≤ p then s
  else
    let s := ((s.clrB Reg.CLK_STATUS_LOCK p).setB Reg.CLK_FLAGS_UNLOCK p).raise Ev.CLK_UNLOCK
    match p with
    | 0 =>
      let s := s.pwmClkLoss.setSafety fun k => { k with sf4 := setBit k.sf4 4 }
      s.sf4Apply.openRelays.faultHold
    | 1 => s.rampAbort.coreLost
    | 2 => s.lanesLost
    | _ => s.slinkDown

/-- The reference is lost (R478). -/
def refLoss (s : State) : State :=
  ((s.wr Reg.CLK_FLAGS_REF_LOSS 1).wr Reg.CLK_STATUS_REF_OK 0).raise Ev.CLK_UNLOCK

/-- MC calibrates the PLLs of a mask (R480): `edge p b` gives the measured edges of band b in 2 MHz. -/
def calStart (s : State) (mask : Nat) (edge : Nat → Nat → Nat × Nat) : State :=
  s.forEach (bitsOf 4 mask) (fun s p =>
    let s := s.forEach (List.range 32) (fun s b =>
      ((s.wr (Reg.PLL_BAND_LOW p b) (edge p b).1).wr (Reg.PLL_BAND_HIGH p b) (edge p b).2).wr (Reg.PLL_BAND_VALID p b) 1)
    s.setB Reg.CLK_CAL_DONE p)

/-- The same where nothing names the measured edges: each is a free value. -/
def calStartFree (s : State) (mask : Nat) : State :=
  let n := s.freeCtr
  State.calStart { s with freeCtr := n + 256 } mask
    (fun p b => (Config.freeWord (n + 64 * p + 2 * b) % 4096, Config.freeWord (n + 64 * p + 2 * b + 1) % 4096))

/-! ### Core-clock ramp (R482, R483) -/

abbrev nominalMult : Nat := 0x100000

/-- A target lies within ±1.5 % of nominal. -/
def multNarrow (t : Nat) : Bool := decide (0xFC28F ≤ t) && decide (t ≤ 0x103D71)

/-- A segment's target. -/
def segTarget (s : State) (i : Nat) : Nat := s.rd (Reg.RAMP_SEG_TGT_TARGET i)

/-- A segment from `a` to `b` keeps to 2 MHz/µs: 25 MHz / 2^16 per unit, 40 ns per unit of TIME. -/
def slopeOk (a b time : Nat) : Bool := 1 ≤ time && decide (2500 * (a - b + (b - a)) ≤ 524288 * time)

/-- The check of a profile when RUN is written 1 (R483). -/
def rampOk (s : State) : Bool :=
  let last := s.rd Reg.RAMP_CTRL_LAST
  let loopTo := s.rd Reg.RAMP_CTRL_LOOP_TO
  let time (i : Nat) : Nat := s.rd (Reg.RAMP_SEG_TIME_TIME i)
  let one (i : Nat) : Bool :=
    let t := s.segTarget i
    let before := if i = 0 then s.rd Reg.CORE_MULT_MULT else s.segTarget (i - 1)
    decide (0x80000 ≤ t) && decide (t ≤ 0x10CCCC) && (!s.cpRun || multNarrow t) && slopeOk before t (time i)
  (List.range (last + 1)).all one && loopTo ≤ last
    && (!s.on Reg.RAMP_CTRL_LOOP || slopeOk (s.segTarget last) (s.segTarget loopTo) (time loopTo))

/-- RUN is written 1 (R482, R483). -/
def rampRun (s : State) : State :=
  if s.rampOk then
    State.wr { (s.wr Reg.RAMP_CTRL_RUN 1).wr Reg.RAMP_STATUS_SEG 0 with clk := { s.clk with rampReturns := false } }
      Reg.RAMP_STATUS_BUSY 1
  else (s.wr Reg.RAMP_CTRL_RUN 0).wr Reg.CLK_FLAGS_RAMP_ERR 1

/-- RUN is written 0 (R482). -/
def rampStop (s : State) : State :=
  if s.on Reg.RAMP_CTRL_RUN then
    State.wr { s with clk := { s.clk with rampReturns := s.on Reg.RAMP_STATUS_BUSY } } Reg.RAMP_CTRL_RUN 0
  else s

/-- The running segment, or the return to nominal, reaches its target (R482). -/
def rampSegmentEnd (s : State) : State :=
  if s.clk.rampReturns then
    State.wr { s.wr Reg.CORE_MULT_MULT nominalMult with clk := { s.clk with rampReturns := false } } Reg.RAMP_STATUS_BUSY 0
  else if s.on Reg.RAMP_CTRL_RUN then
    let i := s.rd Reg.RAMP_STATUS_SEG
    let t := s.segTarget i
    let s := s.wr Reg.CORE_MULT_MULT t
    if i < s.rd Reg.RAMP_CTRL_LAST then s.wr Reg.RAMP_STATUS_SEG (i + 1)
    else if s.on Reg.RAMP_CTRL_LOOP then s.wr Reg.RAMP_STATUS_SEG (s.rd Reg.RAMP_CTRL_LOOP_TO)
    else s.wr Reg.RAMP_STATUS_BUSY (b2n (t != nominalMult))
  else s

/-- The ramp stands at nominal before a power-state transition begins (R494). -/
def rampNominal (s : State) : State :=
  let s := ((s.wr Reg.RAMP_CTRL_RUN 0).wr Reg.CORE_MULT_MULT nominalMult).wr Reg.RAMP_STATUS_BUSY 0
  { s with clk := { s.clk with rampReturns := false } }

/-- A target outside ±1.5 % is in force, which refuses a pair's enable (R483). -/
def rampWide (s : State) : Bool :=
  !multNarrow (s.rd Reg.CORE_MULT_MULT)
    || (s.on Reg.RAMP_CTRL_RUN && (List.range (s.rd Reg.RAMP_CTRL_LAST + 1)).any (fun i => !multNarrow (s.segTarget i)))

/-! ### Supplies (R485, R486) -/

/-- Either supply stands below its warning level. -/
def supplyLow (s : State) : Bool := s.on Reg.SUP_STATUS_VDD_WARN || s.on Reg.SUP_STATUS_VDDA_WARN

/-- VDD or VDDA falls below its warning level (R486, R494): one `SUP_WARN` and one hold for both; no checkpoint while ME is
off. -/
def supWarn (s : State) (vdd vdda : Bool) : State :=
  let was := s.supplyLow
  let s := s.when vdd (fun s => s.wr Reg.SUP_STATUS_VDD_WARN 1)
  let s := s.when vdda (fun s => s.wr Reg.SUP_STATUS_VDDA_WARN 1)
  if was || !s.supplyLow then s
  else
    let s := (s.wr Reg.SUP_STATUS_HOLD_RUN 1).raise Ev.SUP_WARN
    if s.meState = meOff then s else s.meCheckpoint 1

/-- The hold timer expires with a supply still low (R486, R494). -/
def supHoldExpire (s : State) : State :=
  if !s.on Reg.SUP_STATUS_HOLD_RUN || !s.supplyLow then s
  else
    let s := (s.wr Reg.SUP_STATUS_HOLD_RUN 0).wr Reg.SUP_FLAGS_HOLD_EXP 1
    if s.power = .sleep then s
    else
      let s := s.setSafety fun k => { k with sf4 := setBit k.sf4 3 }
      let closing := s.safeState = safeClosing || s.safeState = safeClosed
      let s := s.sf4Apply.openRelays
      (s.when closing reconnectRestart).faultHold

/-- The supplies that regained their warning-release level (R486): with both back, `SUP_OK`, and a dip where the hold had not
expired; `us` is the dip's duration. -/
def supRecover (s : State) (vdd vdda : Bool) (us : Nat) : State :=
  let was := s.supplyLow
  let s := s.when vdd (fun s => s.wr Reg.SUP_STATUS_VDD_WARN 0)
  let s := s.when vdda (fun s => s.wr Reg.SUP_STATUS_VDDA_WARN 0)
  if !was || s.supplyLow then s
  else
    let s := s.setSafety fun k => { k with sf4 := clearBit k.sf4 3 }
    let s :=
      if s.on Reg.SUP_STATUS_HOLD_RUN then
        let s := ((s.wr Reg.SUP_STATUS_HOLD_RUN 0).wr Reg.SUP_FLAGS_DIP 1).incSat Reg.SUP_DIP_COUNT_COUNT
        s.mcRecord 0x00B9 0 (Nat.min us max32)
      else s
    s.raise Ev.SUP_OK

/-! ### Watchdog (R491) -/

/-- A write of `WDT_KICK`: the key reloads the count, and any other value resets the package. -/
def wdtKick (s : State) (key : Nat) : State :=
  if key % 65536 = 0xA5C3 then s.wr Reg.WDT_COUNT_MS (s.rd Reg.WDT_CTRL_MS) else s.packageReset 2

/-! ### Power states (R487 to R489) -/

/-- Entry to `WATCH` or `SLEEP` begins (R488): the common actions, then those of the target. -/
def powerDown (s : State) (t : PowerState) : State :=
  let s := s.rampNominal.confirmClose
  let s := s.pwmSafe .soft
  let s := (s.gsAct gsDisable).pairDisable .a |>.pairDisable .b
  let s := { s with tpp := { s.tpp with connectWanted := false, disc := .none }, clk := { s.clk with target := some t, reapplied := false } }
  let s := s.wr Reg.PWR_STATE_BUSY 1
  if t = .sleep then
    let s := s.when (s.meState != meOff) (fun s => (s.meCheckpoint 2).meCkptStore)
    (s.meDisable.pwmSafe .clkStop).endSessions
  else s

/-- A transition to power state `t` starts, where R488 knows one from the present state. -/
def powerStart (s : State) (t : PowerState) : State :=
  if s.clk.target.isSome then s
  else
    let closed := s.safeState = safeClosing || s.safeState = safeClosed
    match s.power, t with
    | .run, .watch => if closed then s else s.powerDown .watch
    | .run, .sleep | .watch, .sleep => if closed then s else s.powerDown .sleep
    | .watch, .run | .sleep, .run =>
      State.wr { s with clk := { s.clk with target := some .run, reapplied := false } } Reg.PWR_STATE_BUSY 1
    | _, _ => s

/-- A wake source acts (R489): recorded where it is enabled; during entry to `SLEEP` or `WATCH` the exit follows the entry
(R494). -/
def wakeSource (s : State) (b : Nat) : State :=
  let asleep (p : PowerState) : Bool := p == .watch || p == .sleep
  let timeOk := b != 5 || decide (s.rd Reg.PWR_WAKE_SEC_SEC ≤ s.rd Reg.UMB_SECONDS_SEC)
  if 6 ≤ b || !hasBit (s.rd Reg.PWR_WAKE_EN) b || !timeOk then s
  else
    match s.clk.target with
    | some t => if asleep t then State.setB { s with clk := { s.clk with wakeWaits := true } } Reg.PWR_WAKE_CAUSE_CAUSE b else s
    | none => if asleep s.power then (s.setB Reg.PWR_WAKE_CAUSE_CAUSE b).powerStart .run else s

end State

/-- REF_LOSS (R478). -/
def execRefLoss (s : State) : Out := .next s.refLoss

/-- REFERENCE_RETURN (R478). -/
def execReferenceReturn (s : State) : Out := .next (s.wr Reg.CLK_STATUS_REF_OK 1)

/-- PLL_LOCK (R480). -/
def execPllLock (p : Nat) (s : State) : Out := .next (s.pllLock p)

/-- PLL_UNLOCK (R481). -/
def execPllUnlock (p : Nat) (s : State) : Out := .next (s.pllUnlock p)

/-- CLK_CAL_START (R480): the measured edges of the PLLs in the mask, 64 for each PLL, low and high of each band. -/
def execClkCalStart (m : Master) (mask : Nat) (edges : List Nat) (s : State) : Out :=
  .next (s.access m 0x400D0300 .mr (fun s => s.calStart mask (fun p b => (nth edges (64 * p + 2 * b) 0, nth edges (64 * p + 2 * b + 1) 0))))

/-- RAMP_RUN (R482, R483). -/
def execRampRun (m : Master) (s : State) : Out := .next (s.access m 0x400D0070 .mr State.rampRun)

/-- RAMP_STOP (R482). -/
def execRampStop (m : Master) (s : State) : Out := .next (s.access m 0x400D0070 .mr State.rampStop)

/-- RAMP_SEGMENT_END (R482). -/
def execRampSegmentEnd (s : State) : Out := .next s.rampSegmentEnd

/-- SUP_WARN (R486). -/
def execSupWarn (vdd vdda : Bool) (s : State) : Out := .next (s.supWarn vdd vdda)

/-- SUP_HOLD_EXPIRE (R486). -/
def execSupHoldExpire (s : State) : Out := .next s.supHoldExpire

/-- SUP_RECOVER (R486). -/
def execSupRecover (vdd vdda : Bool) (us : Nat) (s : State) : Out := .next (s.supRecover vdd vdda us)

/-- VDDIO_LOSS (R485): the lands of the HOST bank go to high impedance. -/
def execVddioLoss (s : State) : Out :=
  .next (({ s with clk := { s.clk with hostHighZ := true } } : State).wr Reg.SUP_STATUS_VDDIO_OK 0 |>.wr Reg.SUP_FLAGS_VDDIO_LOSS 1)

/-- VDDIO_RECOVER (R485). -/
def execVddioRecover (s : State) : Out :=
  .next (State.wr { s with clk := { s.clk with hostHighZ := false } } Reg.SUP_STATUS_VDDIO_OK 1)

/-- WDT_KICK (R491). -/
def execWdtKick (m : Master) (key : Nat) (s : State) : Out := .next (s.access m 0x400D0044 .mr (fun s => s.wdtKick key))

/-- WAKE_SOURCE (R489). -/
def execWakeSource (b : Nat) (s : State) : Out := .next (s.wakeSource b)

end Sys2Proof.Machine
end

