-- ==== Sys2Proof/Machine/BusA.lean ====
section
/-! DEFINITION. Machine/BusA.lean: what a register write does (R9, R51): each access type, and the registers of Orbit, grid
support, PWM and the loop engines whose writes act or are refused. A mask selects the bits that are written; a direct write
selects all of them. -/

namespace Sys2Proof.Machine

/-- The bits of a field within its register. -/
def Fld.mask (f : Fld) : Nat := (2 ^ f.width - 1) * 2 ^ f.lo

/-- A mask selects some bit of a field. -/
def Fld.sel (f : Fld) (m : Nat) : Bool := fieldOf m f.lo f.width != 0

/-- A mask without the bits of some fields. -/
def maskOut (m : Nat) (fs : List Fld) : Nat := fs.foldl (fun m f => andNot 32 m f.mask) (m % 2 ^ 32)

/-- The bits of `old` that the mask leaves, and those of `v` that it selects. -/
def mixBits (w old v m : Nat) : Nat := andNot w old m ||| (v % 2 ^ w &&& m)

/-- Life-cycle state `MAKER` (R423), in which alone the field of access type RWL is writable (R137). -/
abbrev lcMaker : Nat := 0

namespace State

/-- The value of a field after a masked write. -/
def mixed (s : State) (f : Fld) (v m : Nat) : Nat := mixBits f.width (s.rd f) (fieldOf v f.lo f.width) (fieldOf m f.lo f.width)

/-- A masked write would change the field. -/
def changes (s : State) (f : Fld) (v m : Nat) : Bool := s.mixed f v m != s.rd f

/-- One field takes a write by its access type (R9). -/
def putField (s : State) (v m : Nat) (r : FieldRow) : State :=
  if !r.fld.sel m then s
  else
    match r.acc with
    | .rw => s.wr r.fld (s.mixed r.fld v m)
    | .w1c => s.wr r.fld (andNot r.fld.width (s.rd r.fld) (fieldOf (v &&& m) r.fld.lo r.fld.width))
    | .rw1 => s.wrOnce r.fld (s.mixed r.fld v m)
    | .rwl => if s.sec.lc = lcMaker then s.wr r.fld (s.mixed r.fld v m) else s
    | .ro | .wo => s

/-- Every field of the register at an address takes a write; a reserved offset ignores it (R8). -/
def plain (s : State) (a v m : Nat) : State :=
  match regFields? a with
  | some fs => s.forEach fs (fun s r => s.putField v m r)
  | none => s

/-- The word of a register. -/
def regWord (s : State) (a : Nat) : Nat := s.wordIn (regRows a) a

/-- The word of a register after a masked write of all its bits. -/
def merged (s : State) (a v m : Nat) : Nat := mixBits 32 (s.regWord a) v m

/-- Fields that are locked at present keep their values, and a write that would change one is reported; the mask that is left. -/
def lockOut (s : State) (locked : Bool) (fs : List Fld) (v m : Nat) (err : State → State) : Nat × State :=
  if locked then (maskOut m fs, s.when (fs.any fun f => s.changes f v m) err) else (m, s)

/-! ### Orbit and grid support (R84, R93, R99, R106, R269 to R280, R295) -/

def orbCfgErr (s : State) : State := s.wr Reg.ORB_FLAGS_CFG_ERR 1

/-- `ORB_CTRL`: a refused DIV leaves the register unchanged. -/
def orbCtrlWrite (s : State) (a v m : Nat) : State :=
  let div := s.mixed Reg.ORB_CTRL_DIV v m
  let sel := Reg.ORB_CTRL_DIV.sel m
  if sel && s.orbConfigRefused .div div then s.orbCfgErr
  else
    let s := s.when sel (fun s => s.orbConfigWrite .div div)
    let off := s.on Reg.ORB_CTRL_TRACK_EN && s.mixed Reg.ORB_CTRL_TRACK_EN v m == 0
    let s := s.plain a v (maskOut m [Reg.ORB_CTRL_DIV])
    s.when off orbTrackDisable

/-- Registers of Orbit. -/
def orbWrite (s : State) (a v m : Nat) : State :=
  let o := a - 0x40000000
  let x := v &&& m
  if o = 0x000 then s.orbCtrlWrite a v m
  else if o = 0x004 then s.when (Reg.ORB_NCAR_N.sel m) (fun s => s.orbConfigWrite .ncar (s.mixed Reg.ORB_NCAR_N v m))
  else if o = 0x008 then s.when (Reg.ORB_FNOM_FNOM.sel m) (fun s => s.orbConfigWrite .fnom (s.mixed Reg.ORB_FNOM_FNOM v m))
  else if o = 0x07C then
    s.when (Reg.ORB_CAR_OFFSET_THETA.sel m) (fun s => s.orbConfigWrite .carOffset (s.mixed Reg.ORB_CAR_OFFSET_THETA v m))
  else if o = 0x054 then
    let s := s.when (hasBit x 0) (fun s => (s.wr Reg.ORB_OVR_COUNT_COUNT 0).wr Reg.ORB_ISSUE_MAX_DELAY 0)
    s.when (hasBit x 1) (fun s => s.wr Reg.ORB_STALE_COUNT_COUNT 0)
  else if o = 0x090 then s.orbBankWrite (hasBit x 0) (s.mixed Reg.ORB_BANK_EPOCH_INC v m == 1)
  else if 0x1000 ≤ o && o < 0x2000 then
    let i := (o - 0x1000) / 4
    s.slotInactWrite i (mixBits 32 (bankWord s.inactiveBank i) v m)
  else s.plain a v m

def gsCfgErr (s : State) : State := s.wr Reg.GS_FLAGS_CFG_ERR 1

/-- Registers of grid support (R275, R280). -/
def gsRegWrite (s : State) (a v m : Nat) : State :=
  if a = 0x40008000 then
    if s.mixed Reg.GS_CTRL_Q_MODE v m == 3 then s.gsCfgErr
    else
      let en := s.mixed Reg.GS_CTRL_EN v m == 1
      let was := s.on Reg.GS_CTRL_EN
      let sel := Reg.GS_CTRL_EN.sel m
      let s := s.plain a v (maskOut m [Reg.GS_CTRL_EN])
      let s := s.when (sel && en) gsEnable
      s.when (was && !en) (fun s => s.gsAct gsDisable)
  else s.plain a v m

/-! ### PWM (R170 to R199) -/

/-- `CL_CTRL` (R170, R171, R199): SYNC and UPDN keep their values while EN = 1; DUPD without UPDN refuses the write. -/
def clCtrlWrite (s : State) (c a v m : Nat) : State :=
  let m := if s.on (Reg.CL_CTRL_EN c) then maskOut m [Reg.CL_CTRL_SYNC c, Reg.CL_CTRL_UPDN c] else m
  if s.mixed (Reg.CL_CTRL_DUPD c) v m == 1 && s.mixed (Reg.CL_CTRL_UPDN c) v m == 0 then s.pwmCfgErr
  else
    let en := s.mixed (Reg.CL_CTRL_EN c) v m == 1
    let flip := s.changes (Reg.CL_CTRL_EN c) v m
    let s := s.plain a v (maskOut m [Reg.CL_CTRL_EN c])
    let s := s.when flip (fun s => s.clusterEnable c en)
    s.when (hasBit (v &&& m) 5) (fun s => s.clusterSoftReset c)

/-- The level of the source that a trip line's SRC names, as it stands at a write (R188): the window's output; a land that
was named before keeps its level, one newly named reads inactive until its level is given. -/
def lineLevel (s : State) (n was : Nat) : Bool :=
  let c := s.rd (Reg.TRIP_CFG_SRC n)
  if 1 ≤ c && c ≤ 16 then (s.win (c - 1)).out
  else if c = was then (s.line n).source else false

/-- `TRIP_CFGn` (R188 to R190, R199). -/
def tripCfgWrite (s : State) (n a v m : Nat) : State :=
  if s.mixed (Reg.TRIP_CFG_ACTION n) v m == 3 then s.pwmCfgErr
  else
    let was := s.rd (Reg.TRIP_CFG_SRC n)
    let s := s.plain a v m
    let level := s.lineLevel n was
    (s.setLine n { s.line n with source := level }).lineUpdate n

/-- The fields of `PR_CFG` that are writable only while the cluster has EN = 0 (R195). -/
def prLocked (p : Nat) : List Fld :=
  [Reg.PR_CFG_SHORT p, Reg.PR_CFG_ASYM p, Reg.PR_CFG_INDEP p, Reg.PR_CFG_SAFE_H p, Reg.PR_CFG_SAFE_L p, Reg.PR_CFG_ROUTE p,
   Reg.PR_CFG_EXPORT_EN p, Reg.PR_CFG_EXPORT_LINK p, Reg.PR_CFG_REFRESH_EN p]

/-- A `PR_CFG` word that is refused (R192, R195, R199). -/
def prCfgBad (s : State) (p w : Nat) : Bool :=
  let short := fieldOf w 0 2
  let sh := fieldOf w 4 2
  let sl := fieldOf w 6 2
  let route := fieldOf w 8 2
  short == 3 || sh == 3 || sl == 3 || route == 3 || (sh == 1 && sl == 1)
    || (route == 2 && (decide (5 < p) || !hasBit (s.rd Reg.DRV_CTRL_USED) p))

/-- `PR_CFG` (R181, R192, R195). -/
def prCfgWrite (s : State) (p a v m : Nat) : State :=
  if s.prCfgBad p (s.merged a v m) then s.pwmCfgErr
  else
    let (m, s) := s.lockOut (s.on (Reg.CL_CTRL_EN (p / 8))) (prLocked p) v m pwmCfgErr
    let s := s.when (s.changes (Reg.PR_CFG_SHORT p) v m) (fun s => s.setAcc p 0)
    s.plain a v m

/-- Registers of PWM. -/
def pwmWrite (s : State) (a v m : Nat) : State :=
  let o := a - 0x40010000
  let x := v &&& m
  if o = 0x004 then s.pwmCommit (x % 8)
  else if o = 0x014 then (s.when (hasBit x 1) safeClear).when (hasBit x 0) (fun s => s.pwmSafe .soft)
  else if o = 0x01C then s.escRelease x
  else if o = 0x028 then
    let s := s.when (hasBit x 0) (fun s => s.wr Reg.PWM_SHORT_COUNT_COUNT 0)
    let s := s.when (hasBit x 1) (fun s => s.wr Reg.PWM_XLOCK_LAST_COUNT 0)
    s.when (hasBit x 2) (fun s => s.forEach (List.range 3) (fun s c => s.wr (Reg.CL_LATE_COUNT_COUNT c) 0))
  else if o = 0x034 then s.tripLatchClear x
  else if 0x100 ≤ o && o < 0x160 && o % 0x20 = 0 then s.clCtrlWrite ((o - 0x100) / 0x20) a v m
  else if 0x100 ≤ o && o < 0x160 && o % 0x20 = 4 then
    s.clusterPeriodWrite ((o - 0x100) / 0x20) (s.merged a v m)
  else if 0x200 ≤ o && o < 0x280 && o % 8 = 0 then s.tripCfgWrite ((o - 0x200) / 8) a v m
  else if 0x400 ≤ o && o < 0x700 then
    let p := (o - 0x400) / 0x20
    let r := o % 0x20
    if r = 0x00 then s.prCfgWrite p a v m
    else if r = 0x04 then s.pairShadowWrite p .dt (s.merged a v m)
    else if r = 0x08 then s.pairShadowWrite p .cmpA (s.merged a v m)
    else if r = 0x0C then s.pairShadowWrite p .cmpB (s.merged a v m)
    else if r = 0x18 then s.pairShadowWrite p .refresh (s.merged a v m)
    else if r = 0x1C then s.forceWrite p (s.mixed (Reg.PR_FORCE_FH p) v m) (s.mixed (Reg.PR_FORCE_FL p) v m)
    else s
  else s.plain a v m

/-! ### Loop engines (R159 to R169, R271) -/

/-- `LE_CTRL` (R161, R164). -/
def leCtrlWrite (s : State) (e a v m : Nat) : State :=
  let flip := s.changes (Reg.LE_CTRL_EN e) v m
  let en := s.mixed (Reg.LE_CTRL_EN e) v m == 1
  let s := (s.plain a v (maskOut m [Reg.LE_CTRL_EN e])).coverUpdate e
  if flip then (if en then s.leEnable e else s.leDisable e) else s

/-- `LE_CMD` (R148, R163). -/
def leCmdWrite (s : State) (e x : Nat) : State :=
  let s := s.when (hasBit x 0 && !s.on (Reg.LE_STATUS_LOAD_BUSY e)) (fun s => s.leCheck e)
  let s := s.when (hasBit x 1 && s.leState e == leFaulted) (fun s => s.leTest e)
  s.when (hasBit x 2) (fun s => s.leReturn e)

/-- Registers of the loop engines. -/
def leWrite (s : State) (a v m : Nat) : State :=
  let e := (a / 0x8000) % 2
  let o := a % 0x8000
  let x := v &&& m
  if o = 0x000 then s.leCtrlWrite e a v m
  else if o = 0x018 then s.leCmdWrite e x
  else if o = 0x040 then s.leCntClr e (x % 16)
  else if 0x080 ≤ o && o < 0x0C0 && s.gsOwns e ((o - 0x080) / 4) then s.wr Reg.GS_FLAGS_REF_OWNED 1
  else if 0x200 ≤ o && o < 0x300 && o % 16 = 0 then (s.plain a v m).setCap e ((o - 0x200) / 16) {}
  else if 0x300 ≤ o && o < 0x310 then
    let i := (o - 0x300) / 4
    s.injWrite e i (s.mixed (Reg.LE_INJ_ARM e i) v m == 1) (s.mixed (Reg.LE_INJ_FRAMES e i) v m)
  else if 0x2000 ≤ o && o < 0x4000 then
    let i := (o - 0x2000) / 4
    s.imgInactWrite e i (mixBits 32 (bankWord (s.leInactive e) i) v m)
  else s.plain a v m

end State

end Sys2Proof.Machine
end

