-- ==== Sys2Proof/Machine/BusB.lean ====
section
/-! DEFINITION. Machine/BusB.lean: register writes of the drive interface, the converters, the comparators, Comet, the event
fabric and the crossings that act or are refused. -/

namespace Sys2Proof.Machine
namespace State

/-! ### Drive interface (R209, R213 to R224) -/

/-- `DRV_CTRL` (R216): legs come into use and leave it; where one leaves it in a test, how far the test had come is free. -/
def drvUsedWrite (s : State) (v m : Nat) : State :=
  let w := s.mixed Reg.DRV_CTRL_USED v m
  s.forEach (List.range 6) (fun s n =>
    let is := hasBit (s.rd Reg.DRV_CTRL_USED) n
    if is == hasBit w n then s
    else if !is then s.legUse n
    else if s.on (Reg.DRV_TEST_RES_BUSY n) then
      let (x, s) := s.takeFree
      s.legUnuse n (x % 512) (x / 512 % 512)
    else s.legUnuse n 0 0)

/-- `DRV_CFGn` (R216, R222, R224): a `RETRY_WAIT` of 0 or a `RETRY_MAX` above 7 refuses the write. -/
def drvCfgWrite (s : State) (n a v m : Nat) : State :=
  let w := s.merged a v m
  if fieldOf w 8 8 = 0 || 7 < fieldOf w 16 4 then s.drvCfgErr
  else
    let arm := s.mixed (Reg.DRV_CFG_ARM n) v m == 1
    let flip := s.changes (Reg.DRV_CFG_ARM n) v m
    let (k, s) := s.lockOut (!s.legCfgOpen n)
      [Reg.DRV_CFG_BOOT n, Reg.DRV_CFG_DSAT_EN_H n, Reg.DRV_CFG_DSAT_EN_L n, Reg.DRV_CFG_OC_EN n, Reg.DRV_CFG_RETRY_WAIT n,
       Reg.DRV_CFG_RETRY_MAX n] v m drvCfgErr
    let s := s.plain a v (maskOut k [Reg.DRV_CFG_ARM n])
    if flip then (if arm then s.legArm n else s.legDisarm n) else s

/-- The registers that R224 locks as a whole. -/
def drvLockedWrite (s : State) (n a v m : Nat) : State :=
  if s.legCfgOpen n then s.plain a v m else s.when (s.merged a v m != s.regWord a) drvCfgErr

/-- A bound is met, or a code taken to it (R209). -/
def clampTo (lo hi x : Nat) : Nat := Nat.min hi (Nat.max lo x)

/-- `DRV_CODE` of one channel: codes outside the bounds are clamped (R209). -/
def drvCodeWrite (s : State) (a v m : Nat) : State :=
  let w := s.merged a v m
  let b := s.regWord (a - 8)
  let on := clampTo (fieldOf b 0 6) (fieldOf b 8 6) (fieldOf w 0 6)
  let off := clampTo (fieldOf b 16 6) (fieldOf b 24 6) (fieldOf w 8 6)
  s.plain a (on + 256 * off) 0xFFFFFFFF

/-- Registers of a leg. -/
def legWrite (s : State) (who : Master) (n a v m : Nat) : State :=
  let r := (a - 0x40020100) % 0x80
  let w := s.merged a v m
  let x := v &&& m
  if r = 0x00 then s.drvCfgWrite n a v m
  else if r = 0x04 || r = 0x08 || r = 0x0C || r = 0x10 then s.drvLockedWrite n a v m
  else if r = 0x14 || r = 0x18 then
    let bad (t : Nat) : Bool := t < 10 || 500 < t
    if bad (fieldOf w 4 9) || bad (fieldOf w 16 9) then s.drvCfgErr else s.plain a v m
  else if r = 0x1C || r = 0x20 then
    if fieldOf w 8 6 < fieldOf w 0 6 || fieldOf w 24 6 < fieldOf w 16 6 then s.drvCfgErr else s.plain a v m
  else if r = 0x24 || r = 0x28 then s.drvCodeWrite a v m
  else if r = 0x44 then
    (s.plain a v (maskOut m [Reg.DRV_TEST_CMD_START n])).when (hasBit x 15) (fun s => s.testStart n)
  else if r = 0x4C then s.when (hasBit x 0) (fun s => s.legClearBy who n)
  else s.plain a v m

/-- Registers of the drive interface. -/
def drvWrite (s : State) (who : Master) (a v m : Nat) : State :=
  let o := a - 0x40020000
  let x := v &&& m
  if o = 0x000 then s.drvUsedWrite v m
  else if o = 0x010 then
    let s := s.when (hasBit x 0) (fun s => s.wr Reg.DRV_CRC_COUNT_COUNT 0)
    s.when (hasBit x 1) (fun s => s.forEach (List.range 6) (fun s n => s.wr (Reg.DRV_XLOCK_COUNT n) 0))
  else if 0x100 ≤ o && o < 0x400 then s.legWrite who ((o - 0x100) / 0x80) a v m
  else s.plain a v m

/-! ### Converters (R236 to R249) -/

/-- The configuration register that an address names (R249). -/
def sarRegAt? (o : Nat) : Option (Nat × SarReg) :=
  if 0x100 ≤ o && o < 0x300 then
    let c := (o - 0x100) / 0x40
    match o % 0x40 with
    | 0x00 => some (c, .scan) | 0x04 => some (c, .cfg) | 0x08 => some (c, .seq0) | 0x0C => some (c, .seq1)
    | _ => none
  else if 0x400 ≤ o && o < 0x600 then
    let ch := o % 0x40 / 4
    if ch < 12 then some ((o - 0x400) / 0x40, .chcfg ch) else none
  else none

/-- `SNS_CTRL`: converters are enabled and disabled (R240). -/
def snsCtrlWrite (s : State) (v m : Nat) : State :=
  let w := s.mixed Reg.SNS_CTRL_EN v m
  s.forEach (List.range 8) (fun s c =>
    let is := hasBit (s.rd Reg.SNS_CTRL_EN) c
    if is == hasBit w c then s else if is then s.sarDisable c else (s.setB Reg.SNS_CTRL_EN c).sarPower c)

/-- `SNS_CMD`: resets, checks, triggers. -/
def snsCmdWrite (s : State) (x : Nat) : State :=
  let s := s.forEach (bitsOf 8 x) sarSoftReset
  let s := s.forEach (bitsOf 8 (x / 2 ^ 16)) sarCheckCmd
  s.forEach (bitsOf 8 (x / 2 ^ 8)) (fun s c => s.injTrigger c (seqOf (s.sar c) (s.sar c).cfg.seq0 s.tagByte none))

/-- Registers of the converters. -/
def snsWrite (s : State) (a v m : Nat) : State :=
  let o := a - 0x40030000
  let x := v &&& m
  if o = 0x000 then s.snsCtrlWrite v m
  else if o = 0x008 then
    (s.plain a v m).forEach (List.range 8) (fun s c => s.when (s.sarState c == sarFault) (fun s => s.setB Reg.SNS_FLAGS_FAULT c))
  else if o = 0x00C then s.snsCmdWrite x
  else if o = 0x018 then
    let s := s.when (hasBit x 0) (fun s => s.wr Reg.SNS_LINK_CRC_COUNT 0)
    s.when (hasBit x 1) (fun s => s.forEach (List.range 8) (fun s c =>
      ((s.wr (Reg.SAR_COUNTS_DROPS c) 0).wr (Reg.SAR_COUNTS_LOST c) 0).wr (Reg.SAR_FIFO_OVF_COUNT_COUNT c) 0))
  else
    match sarRegAt? o with
    | some (c, r) => s.sarConfigWrite c r (s.merged a v m) (s.rd Reg.ORB_TICK_TICK)
    | none => s.plain a v m

/-! ### Comparators (R252 to R266) -/

/-- Registers of the comparators. -/
def cmpWrite (s : State) (a v m : Nat) : State :=
  let o := a - 0x40040000
  let x := v &&& m
  if o = 0x000 then
    let w := s.mixed Reg.CMP_CTRL_EN v m
    s.forEach (List.range 16) (fun s i =>
      let is := hasBit (s.rd Reg.CMP_CTRL_EN) i
      if is == hasBit w i then s else if is then s.winDisable i else s.winEnable i)
  else if o = 0x00C then
    let s := s.forEach (bitsOf 2 x) bankReset
    s.forEach (bitsOf 2 (x / 4)) lcheckCmd
  else if o = 0x010 || o = 0x014 then
    let t := s.mixed (Reg.CMP_BANK_TDIV ((o - 0x010) / 4)) v m
    if t = 0 || 50 < t then s.cmpCfgErr else s.plain a v m
  else if 0x100 ≤ o && o < 0x200 && o % 16 < 12 then
    let r : CmpReg := if o % 16 = 0 then .cfg else if o % 16 = 4 then .th else .hys
    s.cmpConfigWrite ((o - 0x100) / 16) r (s.merged a v m) (s.rd Reg.ORB_TICK_TICK)
  else s.plain a v m

/-! ### Comet (R340 to R373) -/

/-- `COMET_CTRL.LANE_EN`: a lane that is no longer present is OFF; one that is trains where its link is enabled (R340). -/
def laneEnWrite (s : State) (a v m : Nat) : State :=
  let was := s.rd Reg.COMET_CTRL_LANE_EN
  let s := s.plain a v m
  s.forEach (List.range 4) (fun s k =>
    let is := hasBit (s.rd Reg.COMET_CTRL_LANE_EN) k
    if is == hasBit was k then s
    else if !is then s.laneStops k
    else if !s.laneFree k && s.laneState k == laneOff && s.rd (Reg.LANE_CFG_PAT k) == 0 then s.laneTrains k
    else s)

/-- `LINK_CFG` (R340, R346): WIDTH and ROLE keep their values while EN = 1; a refused enable leaves the register unchanged. -/
def linkCfgWrite (s : State) (l a v m : Nat) : State :=
  let m := if s.on (Reg.LINK_CFG_EN l) then maskOut m [Reg.LINK_CFG_WIDTH l, Reg.LINK_CFG_ROLE l] else m
  let flip := s.changes (Reg.LINK_CFG_EN l) v m
  let en := s.mixed (Reg.LINK_CFG_EN l) v m == 1
  let t := s.plain a v (maskOut m [Reg.LINK_CFG_EN l])
  if !flip then t
  else if !en then t.linkDisable l
  else
    let u := t.linkEnable l
    if u.on (Reg.LINK_CFG_EN l) then u else s.cmtCfgErr

/-- `LANE_CFG` (R348, R370): EQSEL only while the lane is OFF, the test fields only while its link is DISABLED. -/
def laneCfgWrite (s : State) (k a v m : Nat) : State :=
  let (m, s) := s.lockOut (s.laneState k != laneOff) [Reg.LANE_CFG_EQSEL k] v m cmtCfgErr
  let fs := [Reg.LANE_CFG_LOOP k, Reg.LANE_CFG_PAT k, Reg.LANE_CFG_CHK_EN k]
  let s := s.when (fs.any fun f => s.changes f v m) (fun s =>
    s.laneTestWrite k (s.mixed (Reg.LANE_CFG_LOOP k) v m) (s.mixed (Reg.LANE_CFG_PAT k) v m)
      (s.mixed (Reg.LANE_CFG_CHK_EN k) v m == 1))
  s.plain a v (maskOut m fs)

/-- Registers of Comet. -/
def cmtWrite (s : State) (who : Master) (a v m : Nat) : State :=
  let o := a - 0x40090000
  let x := v &&& m
  if o = 0x000 then s.laneEnWrite a v m
  else if o = 0x00C then
    let s := s.when (x % 16 != 0) (fun s => s.retrain (x % 16))
    let s := s.when (fieldOf x 4 4 != 0) (fun s => s.remeasure (fieldOf x 4 4))
    s.when (hasBit x 8) clrStats
  else if 0x100 ≤ o && o < 0x200 && o % 0x40 = 0 then s.linkCfgWrite ((o - 0x100) / 0x40) a v m
  else if 0x300 ≤ o && o < 0x400 && o % 0x40 = 0 then s.laneCfgWrite ((o - 0x300) / 0x40) a v m
  else if 0x600 ≤ o && o < 0x640 then
    let e := (o - 0x600) / 4
    if (List.range 4).any fun k => s.rd (Reg.LANE_CFG_EQSEL k) == e && s.laneState k != laneOff then s.cmtCfgErr
    else s.plain a v m
  else if o = 0x7A0 then s.safeTxQueue who x
  else s.plain a v m

/-- The registers that SC alone writes (R361, R373). -/
def scOnly (a : Nat) : Bool := decide (0x40090700 ≤ a) && decide (a < 0x400907A4)

/-! ### Event fabric (R70 to R74) -/

/-- Registers of the event fabric: a locked route ignores writes. -/
def evfWrite (s : State) (a v m : Nat) : State :=
  let o := a - 0x400B0000
  if o < 0x300 && s.on (Reg.EVF_ROUTE_LOCK (o / 4)) then s
  else if o = 0x394 then s.when (hasBit (v &&& m) 0) (fun s => s.wr Reg.EVF_COAL_COUNT 0)
  else s.plain a v m

/-! ### Crossings and pairs (R46, R53, R60, R63, R133, R137) -/

/-- A write of `x_EN` = 1 (R133): refused while the core clock's ramp leaves ±1.5 % (R483), and without a pair application
(R435). -/
def pairEnableCmd (s : State) (p : PairId) : State :=
  if s.rampWide then s.wr Reg.CLK_FLAGS_RAMP_ERR 1
  else if s.power != .run && s.clk.target != some .run then s
  else if (nth s.sec.loaded 1 none).isNone then s
  else s.pairEnable p

/-- `CP_CTRL` (R133, R137). -/
def cpCtrlWrite (s : State) (a v m : Nat) : State :=
  let act (s : State) (p : PairId) : State :=
    if !(enFld p).sel m then s
    else if s.mixed (enFld p) v m == 1 then (if s.on (enFld p) then s else s.pairEnableCmd p)
    else if s.on (enFld p) then s.pairDisable p else s
  let s := (s.plain a v (maskOut m [Reg.CP_CTRL_A_EN, Reg.CP_CTRL_B_EN])).updateReady
  act (act s .a) .b

/-- Registers of the crossings block. -/
def crossWrite (s : State) (a v m : Nat) : State :=
  let o := a - 0x400C0000
  let x := v &&& m
  if o = 0x004 then
    if hasBit x 8 then s.mbxSubmit (s.mixed Reg.MBX_CTRL_COUNT v m) (s.rd Reg.ORB_TICK_TICK) else s.plain a v m
  else if o = 0x018 then s.when (Reg.DIG_PTR_RPTR.sel m) (fun s => s.digRptrWrite (s.mixed Reg.DIG_PTR_RPTR v m))
  else if o = 0x020 then s.when (hasBit x 0) (fun s => s.wr Reg.CROSS_EPOCH_DROPS_COUNT 0)
  else if 0x100 ≤ o && o < 0x200 then s.mbxDataWrite ((o - 0x100) / 4) (s.merged a v m)
  else if o = 0x800 then s.cpCtrlWrite a v m
  else if o = 0x80C then
    let s := s.when (hasBit x 0) cmdTakeover
    let s := s.when (hasBit x 1) (fun s => s.rejoinCmd .a)
    s.when (hasBit x 2) (fun s => s.rejoinCmd .b)
  else if o = 0x810 then (if s.cpRun then s else s.plain a v m)
  else if o = 0x834 then
    let s := s.when (hasBit x 0) (fun s => s.wr Reg.CP_FENCE_DROPS_COUNT 0)
    let s := s.when (hasBit x 1) (fun s => s.wr Reg.CP_SUPPRESS_COUNT_COUNT 0)
    s.when (hasBit x 2) (fun s => s.wr Reg.CP_ECC_COUNT_COUNT 0)
  else s.plain a v m

/-- The registers of the block without a writable MR-domain field that answer a write of MC with a bus error while
`CP_RUN` = 1 (R46). -/
def crOnlyReg (a : Nat) : Bool :=
  a == 0x400C0020 || (decide (0x400C0040 ≤ a) && decide (a < 0x400C0080)) || a == 0x400C0814 || a == 0x400C0834

end State
end Sys2Proof.Machine
end

