-- ==== Sys2Proof/Machine/Cvu.lean ====
section
/-! DEFINITION. Machine/Cvu.lean: the check-value units CVU0 to CVU5 (R449 to R458). A byte of a unit's source, and the end of a
message, are commands of their own; units are 0 to 5 and a command that names another does nothing. -/

namespace Sys2Proof.Machine
namespace State

/-- The parameter sets of R449. -/
def cvuPoly (n : Nat) : CrcParams :=
  match n with
  | 0 => ⟨8, 0x2F, 0xFF, false, 0xFF⟩
  | 1 => ⟨16, 0x1021, 0xFFFF, false, 0⟩
  | 2 => ⟨32, 0x04C11DB7, 0xFFFFFFFF, true, 0xFFFFFFFF⟩
  | 3 => ⟨32, 0x1EDC6F41, 0xFFFFFFFF, true, 0xFFFFFFFF⟩
  | _ => ⟨32, 0xF4ACFB13, 0xFFFFFFFF, true, 0xFFFFFFFF⟩

/-- The set of unit `u`. -/
def cvuSet (s : State) (u : Nat) : CrcParams := cvuPoly (s.rd (Reg.CVU_CTRL_POLY u))

/-- The register as `CVU_RUN` shows it, in the bit order of its set (R450), and back. -/
def cvuOrder (p : CrcParams) (x : Nat) : Nat := if p.refl then reflectBits p.width x else x

/-- The internal register of a unit takes a value; `CVU_VALUE` follows (R450). -/
def cvuPut (s : State) (u x : Nat) : State :=
  let p := s.cvuSet u
  let r := x % 2 ^ p.width
  (s.wr (Reg.CVU_RUN_VALUE u) r).wr (Reg.CVU_VALUE_VALUE u) (r ^^^ p.xorOut)

/-- The initial value is loaded. -/
def cvuInit (s : State) (u : Nat) : State := s.cvuPut u (cvuOrder (s.cvuSet u) (s.cvuSet u).init)

/-- What the register reads after any message followed by its own check bytes, least significant first for a reflected set and
most significant first otherwise (R453). -/
def cvuResidue (p : CrcParams) : Nat :=
  let k := p.width / 8
  let bs := leBytes k (crcFinish p p.init)
  crcRun p p.init (if p.refl then bs else bs.reverse)

/-- Replace the alive byte of a unit. -/
def setAlive (s : State) (u : Nat) (v : Option Nat) : State := { s with cvu := { s.cvu with alive := setNth s.cvu.alive u v } }

/-- A byte arrives (R450 to R452, R455): dropped and counted while paused; in frame mode the first of a message loads the initial
value. DEDUCED (notes/assumptions 48). -/
def cvuByte (s : State) (u b : Nat) : State :=
  if !s.on (Reg.CVU_CTRL_EN u) then s
  else if s.on (Reg.CVU_CTRL_PAUSE u) then (s.incSat (Reg.CVU_DROP_COUNT u)).wr (Reg.CVU_FLAGS_DROP u) 1
  else
    let open? := s.on (Reg.CVU_STATUS_IN_MSG u)
    let s := if open? then s
      else
        let s := if s.on (Reg.CVU_CTRL_MODE u) then s.cvuInit u else s
        ((s.wr (Reg.CVU_STATUS_IN_MSG u) 1).wr (Reg.CVU_BYTES_COUNT u) 0).setAlive u none
    let p := s.cvuSet u
    let s := s.cvuPut u (cvuOrder p (crcByte p (cvuOrder p (s.rd (Reg.CVU_RUN_VALUE u))) b))
    let n := s.rd (Reg.CVU_BYTES_COUNT u)
    let s := if n = s.rd (Reg.CVU_ALIVE_OFFSET u) then s.setAlive u (some b) else s
    s.wr (Reg.CVU_BYTES_COUNT u) (n + 1)

/-- The alive field of a message is judged (R454); true if the judgement calls for the event. -/
def cvuAlive (s : State) (u : Nat) : Bool × State :=
  match nth s.cvu.alive u none with
  | none => (false, s.wr (Reg.CVU_FLAGS_SHORT u) 1)
  | some b =>
    let w := if s.on (Reg.CVU_ALIVE_WIDE u) then 8 else 4
    let v := fieldOf b (s.rd (Reg.CVU_ALIVE_LSB u)) w
    let d := (v + 2 ^ w - s.rd (Reg.CVU_STATUS_LAST u) % 2 ^ w) % 2 ^ w
    let first := !s.on (Reg.CVU_STATUS_VALID u)
    let s := (s.wr (Reg.CVU_STATUS_VALID u) 1).wr (Reg.CVU_STATUS_LAST u) v
    if first || d = 1 then (false, s)
    else if d = 0 then (true, (s.incSat (Reg.CVU_ALIVE_ERR_REPEAT u)).wr (Reg.CVU_FLAGS_REPEAT u) 1)
    else (true, (s.addSat (Reg.CVU_ALIVE_ERR_MISSING u) (d - 1)).wr (Reg.CVU_FLAGS_GAP u) 1)

/-- The open message closes (R452, R453, R454, R456). -/
def cvuClose (s : State) (u : Nat) : State :=
  if !s.on (Reg.CVU_CTRL_EN u) || s.on (Reg.CVU_CTRL_PAUSE u) || !s.on (Reg.CVU_CTRL_MODE u) || !s.on (Reg.CVU_STATUS_IN_MSG u) then s
  else
    let p := s.cvuSet u
    let n := s.rd (Reg.CVU_BYTES_COUNT u)
    let chk := s.on (Reg.CVU_CTRL_CHECK u)
    let short := chk && n ≤ p.width / 8
    let bad := chk && !short && cvuOrder p (s.rd (Reg.CVU_RUN_VALUE u)) != cvuResidue p
    let s := (s.wr (Reg.CVU_RESULT_VALUE u) (s.rd (Reg.CVU_VALUE_VALUE u))).incSat (Reg.CVU_MSG_COUNT u)
    let s := (s.wr (Reg.CVU_STATUS_IN_MSG u) 0).wr (Reg.CVU_BYTES_COUNT u) 0
    let s := if short then s.wr (Reg.CVU_FLAGS_SHORT u) 1 else s
    let s := if bad then (s.incSat (Reg.CVU_BAD_COUNT u)).wr (Reg.CVU_FLAGS_CHECK_FAIL u) 1 else s
    let (ev, s) := if s.on (Reg.CVU_ALIVE_EN u) && !short && !bad then s.cvuAlive u else (false, s)
    if bad || ev || s.on (Reg.CVU_CTRL_EVT_ALL u) then s.raise (Ev.CVU u) else s

/-- `CVU_CMD.START` (R454, R457, R458). -/
def cvuStart (s : State) (u : Nat) : State :=
  let s := (s.cvuInit u).setAlive u none
  ((s.wr (Reg.CVU_STATUS_IN_MSG u) 0).wr (Reg.CVU_STATUS_VALID u) 0).wr (Reg.CVU_BYTES_COUNT u) 0

/-- `CVU_CMD.END` closes a message of the bus window (R451). -/
def cvuEnd (s : State) (u : Nat) : State := if s.rd (Reg.CVU_CTRL_SRC u) = 0 then s.cvuClose u else s

/-- `CVU_CMD.CLR` (R458). -/
def cvuClr (s : State) (u : Nat) : State :=
  let s := (s.wr (Reg.CVU_MSG_COUNT u) 0).wr (Reg.CVU_BAD_COUNT u) 0
  ((s.wr (Reg.CVU_ALIVE_ERR_REPEAT u) 0).wr (Reg.CVU_ALIVE_ERR_MISSING u) 0).wr (Reg.CVU_DROP_COUNT u) 0

/-- A write of `CVU_RUN`, or of the restorable fields of `CVU_STATUS`, is taken only while paused (R455, R457). -/
def cvuRestore (s : State) (u : Nat) (status : Bool) (v : Nat) : State :=
  if !s.on (Reg.CVU_CTRL_PAUSE u) then s.wr (Reg.CVU_FLAGS_CFG_ERR u) 1
  else if status then
    ((s.wr (Reg.CVU_STATUS_IN_MSG u) (bitOf v 0)).wr (Reg.CVU_STATUS_VALID u) (bitOf v 1)).wr (Reg.CVU_STATUS_LAST u) (fieldOf v 8 8)
  else s.cvuPut u v

end State

/-- A write of a register of unit `u` at an offset. -/
def cvuWrite (m : Master) (u off : Nat) (s : State) (f : State → State) : Out :=
  .next (if u < 6 then s.access m (0x400A0000 + 0x40 * u + off) .mr f else s)

/-- CVU_BYTE (R450). -/
def execCvuByte (u : Nat) (b : Byte) (s : State) : Out := .next (if u < 6 then s.cvuByte u b.toNat else s)

/-- CVU_MESSAGE_CLOSE (R452). -/
def execCvuMessageClose (u : Nat) (s : State) : Out := .next (if u < 6 then s.cvuClose u else s)

/-- CVU_START (R458). -/
def execCvuStart (m : Master) (u : Nat) (s : State) : Out := cvuWrite m u 0x38 s (fun s => s.cvuStart u)

/-- CVU_END (R458). -/
def execCvuEnd (m : Master) (u : Nat) (s : State) : Out := cvuWrite m u 0x38 s (fun s => s.cvuEnd u)

/-- CVU_CLR (R458). -/
def execCvuClr (m : Master) (u : Nat) (s : State) : Out := cvuWrite m u 0x38 s (fun s => s.cvuClr u)

/-- CVU_PAUSE (R455). -/
def execCvuPause (m : Master) (u : Nat) (on : Bool) (s : State) : Out :=
  cvuWrite m u 0 s (fun s => s.wr (Reg.CVU_CTRL_PAUSE u) (b2n on))

/-- CVU_RUN_WRITE (R455). -/
def execCvuRunWrite (m : Master) (u : Nat) (status : Bool) (value : Nat) (s : State) : Out :=
  cvuWrite m u (if status then 0x1C else 0x10) s (fun s => s.cvuRestore u status value)

end Sys2Proof.Machine
end

