-- ==== Sys2Proof/Machine/BusC.lean ====
section
/-! DEFINITION. Machine/BusC.lean: register writes of metering, Perihelion, Eclipse, the check-value units, Umbra, and clocks and
power that act or are refused. -/

namespace Sys2Proof.Machine
namespace State

/-- A binary32 value lies in a closed range. -/
def inRange (lo hi x : Nat) : Bool := F32.le lo x && F32.le x hi

/-! ### Metering (R317, R330 to R333, R339) -/

def meCfgErr (s : State) : State := s.wr Reg.ME_FLAGS_CFG_ERR 1

/-- The calibration registers (R317, R339). -/
def meCals : List MeCal :=
  (List.range 7).map .gain ++ (List.range 7).map .off ++ (List.range 7).map .ph
    ++ (List.range 4).flatMap (fun f => [.nlth f 0, .nlth f 1, .nlth f 2]) ++ [.nres]

/-- The calibration register at an address. -/
def meCalAt? (a : Nat) : Option MeCal := meCals.find? fun k => (meCalFld? k).any fun f => f.addr == a

/-- `ME_CTRL` (R317, R333): SIGNED and IVAL_MIN only in OFF, IVAL_MIN from 1 to 60. -/
def meCtrlWrite (s : State) (a v m : Nat) : State :=
  let iv := s.mixed Reg.ME_CTRL_IVAL_MIN v m
  if iv = 0 || 60 < iv then s.meCfgErr
  else
    let flip := s.changes Reg.ME_CTRL_EN v m
    let en := s.mixed Reg.ME_CTRL_EN v m == 1
    let (m, s) := s.lockOut (s.meState != meOff) [Reg.ME_CTRL_SIGNED, Reg.ME_CTRL_IVAL_MIN] v m meCfgErr
    let lock := Reg.ME_CTRL_CAL_LOCK.sel m && s.mixed Reg.ME_CTRL_CAL_LOCK v m == 1
    let s := s.when lock meCalLock
    let s := s.plain a v (maskOut m [Reg.ME_CTRL_EN])
    if flip then (if en then s.meEnable else s.meDisable) else s

/-- `ME_CMD`. -/
def meCmdWrite (s : State) (x : Nat) : State :=
  let s := s.when (hasBit x 0) meSnapRequest
  let s := s.when (hasBit x 6) meSnapAck
  let s := s.when (hasBit x 2) meCkptAck
  let s := s.when (hasBit x 1) (fun s => s.meCkptRequest 2)
  let s := s.when (hasBit x 3) meForce
  let s := s.when (hasBit x 4) meRestore
  s.when (hasBit x 5) meClrCounts

/-- Registers of metering. -/
def meWrite (s : State) (a v m : Nat) : State :=
  let o := a - 0x40060000
  if o = 0x000 then s.meCtrlWrite a v m
  else if o = 0x00C then s.meCmdWrite (v &&& m)
  else if 0x3400 ≤ o && o < 0x3800 then (if s.meState = meOff then s.plain a v m else s.meCfgErr)
  else
    match meCalAt? a with
    | some k => s.meCalWrite k (s.merged a v m)
    | none => s.plain a v m

/-! ### Perihelion (R297 to R315) -/

def peCfgErr (s : State) : State := s.wr Reg.PE_FLAGS_CFG_ERR 1

/-- The setpoints that Perihelion and Eclipse name: channels other than `n`, the injection, the available power (R299). -/
def spNamed (s : State) (n : Nat) (inj avail : Bool) : List Nat :=
  ((List.range 6).filter (· != n)).map (fun k => s.rd (Reg.PE_CFG_SP k))
    ++ (if inj then [s.rd Reg.EE_INJ_SP] else []) ++ (if avail then [s.rd Reg.PE_CTRL_AVAIL_SP] else [])

/-- A new setpoint index clashes with one that is named already (R299). -/
def spClash (s : State) (old new n : Nat) (inj avail : Bool) : Bool := new != old && (s.spNamed n inj avail).contains new

/-- `PE_CTRL` (R299, R301, R304). -/
def peCtrlWrite (s : State) (a v m : Nat) : State :=
  let sp := s.mixed Reg.PE_CTRL_AVAIL_SP v m
  let old := s.rd Reg.PE_CTRL_AVAIL_SP
  let clash := sp != old && ((List.range 6).map fun k => s.rd (Reg.PE_CFG_SP k)).contains sp
  if sp < 48 || clash then s.peCfgErr
  else
    let en := s.mixed Reg.PE_CTRL_CH_EN v m
    let s := s.plain a v (maskOut m [Reg.PE_CTRL_CH_EN])
    s.forEach (List.range 6) (fun s n =>
      let is := hasBit (s.rd Reg.PE_CTRL_CH_EN) n
      if is == hasBit en n then s else if is then s.peDisable n else s.peEnable n)

/-- A word outside a range that R315 states. -/
def peBadRange (o w : Nat) : Bool :=
  if o = 0x010 then
    let t := fieldOf w 0 8
    let voc := fieldOf w 8 8
    t < 20 || 200 < t || voc < 1 || 50 < voc || fieldOf w 16 8 == 0 || fieldOf w 24 8 == 0
  else if o = 0x018 then fieldOf w 0 3 == 7
  else if o = 0x01C then !inRange 0x3F000000 F32.one w
  else if o = 0x020 then !inRange 0 0x3E4CCCCD w
  else false

/-- `PE_CFGn` (R297, R299): only while the channel is OFF. -/
def peChanCfgWrite (s : State) (n a v m : Nat) : State :=
  let sp := s.mixed (Reg.PE_CFG_SP n) v m
  let pair := s.mixed (Reg.PE_CFG_PAIR n) v m
  if s.peState n != peOff || sp < 48 || 23 < pair || s.spClash (s.rd (Reg.PE_CFG_SP n)) sp n true true then s.peCfgErr
  else s.plain a v m

/-- Registers of Perihelion. -/
def peWrite (s : State) (a v m : Nat) : State :=
  let o := a - 0x40070000
  if o = 0x000 then s.peCtrlWrite a v m
  else if o = 0x00C then s.forEach (bitsOf 6 (v &&& m)) (fun s n => s.peRequest n 2 false)
  else if peBadRange o (s.merged a v m) then s.peCfgErr
  else if 0x100 ≤ o && o < 0x280 && o % 0x40 = 0 then s.peChanCfgWrite ((o - 0x100) / 0x40) a v m
  else s.plain a v m

/-! ### Eclipse (R285 to R296) -/

def eeCfgErr (s : State) : State := s.wr Reg.EE_FLAGS_CFG_ERR 1

/-- A word outside a range that R296 states. -/
def eeBadRange (s : State) (o w : Nat) : Bool :=
  if o = 0x040 then fieldOf w 8 6 < 48 || fieldOf w 16 4 < 7 || fieldOf w 20 4 == 0
  else if o = 0x044 then fieldOf w 0 15 == 0 || decide (2 ^ s.rd Reg.EE_INJ_N ≤ fieldOf w 0 15)
  else if o = 0x048 then !inRange (F32.lit 1 1000) (F32.lit 1 100) w
  else if o = 0x054 then fieldOf w 0 4 < 2 || 8 < fieldOf w 0 4 || fieldOf w 4 2 == 0 || fieldOf w 8 4 == 0
  else if 0x080 ≤ o && o < 0x0C0 then
    let h := fieldOf w 0 7
    h < 3 || 79 < h || h % 2 == 0
  else false

/-- Registers of Eclipse. -/
def eeWrite (s : State) (a v m : Nat) : State :=
  let o := a - 0x40080000
  let x := v &&& m
  if s.eeBadRange o (s.merged a v m) then s.eeCfgErr
  else if o = 0x000 then
    let off := s.on Reg.EE_CTRL_ACTIVE_EN && s.mixed Reg.EE_CTRL_ACTIVE_EN v m == 0
    (s.plain a v m).when off (fun s => s.eeDisarm.wr Reg.EE_STATUS_SUSPENDED 0)
  else if o = 0x010 then
    let s := s.when (hasBit x 0) eeClear
    s.when (hasBit x 1) eeRebase
  else if o = 0x040 then
    if s.spClash (s.rd Reg.EE_INJ_SP) (s.mixed Reg.EE_INJ_SP v m) 6 false false then s.peCfgErr else s.plain a v m
  else s.plain a v m

/-! ### Check-value units (R449 to R458) -/

def cvuCfgErr (s : State) (u : Nat) : State := s.wr (Reg.CVU_FLAGS_CFG_ERR u) 1

/-- The alive field lies at the check byte of a CRC-8 bus window with WIDE = 1 (R457). -/
def cvuWideClash (poly src : Nat) (check : Bool) (len : Nat) (alive wide : Bool) (offset : Nat) : Bool :=
  poly == 0 && src == 0 && check && alive && wide && decide (1 ≤ len) && offset == 4 * len - 1

/-- `CVU_CTRLu` (R449, R457): while EN = 1 only EN, PAUSE and EVT_ALL are written. -/
def cvuCtrlWrite (s : State) (u a v m : Nat) : State :=
  let w := s.merged a v m
  let clash := cvuWideClash (fieldOf w 2 3) (fieldOf w 5 2) (hasBit w 10) (s.rd (Reg.CVU_LEN_LEN u)) (s.on (Reg.CVU_ALIVE_EN u))
    (s.on (Reg.CVU_ALIVE_WIDE u)) (s.rd (Reg.CVU_ALIVE_OFFSET u))
  let (m, s) := s.lockOut (s.on (Reg.CVU_CTRL_EN u))
    [Reg.CVU_CTRL_POLY u, Reg.CVU_CTRL_SRC u, Reg.CVU_CTRL_LINK u, Reg.CVU_CTRL_MODE u, Reg.CVU_CTRL_CHECK u, Reg.CVU_CTRL_RD u,
     Reg.CVU_CTRL_PAYLOAD u, Reg.CVU_CTRL_MASTERS u, Reg.CVU_CTRL_CLASS u] v m (fun s => s.cvuCfgErr u)
  if !s.on (Reg.CVU_CTRL_EN u) && (decide (5 ≤ fieldOf w 2 3) || clash) then s.cvuCfgErr u else s.plain a v m

/-- `CVU_BASEu`, `CVU_LENu` and `CVU_ALIVEu` (R454, R457). -/
def cvuWindowWrite (s : State) (u off a v m : Nat) : State :=
  let w := s.merged a v m
  let wide := hasBit w 1
  let lsb := fieldOf w 4 3
  let bad :=
    if off = 0x08 then fieldOf w 2 19 == 0
    else if off = 0x0C then
      (if wide then lsb != 0 else lsb != 0 && lsb != 4)
        || cvuWideClash (s.rd (Reg.CVU_CTRL_POLY u)) (s.rd (Reg.CVU_CTRL_SRC u)) (s.on (Reg.CVU_CTRL_CHECK u))
             (s.rd (Reg.CVU_LEN_LEN u)) (hasBit w 0) wide (fieldOf w 8 8)
    else false
  if s.on (Reg.CVU_CTRL_EN u) || bad then s.cvuCfgErr u else s.plain a v m

/-- Registers of the check-value units and of security. -/
def cvuRegWrite (s : State) (a v m : Nat) : State :=
  let o := a - 0x400A0000
  let x := v &&& m
  if 0x180 ≤ o then s.plain a v m
  else
    let u := o / 0x40
    let r := o % 0x40
    if r = 0x00 then s.cvuCtrlWrite u a v m
    else if r = 0x04 || r = 0x08 || r = 0x0C then s.cvuWindowWrite u r a v m
    else if r = 0x10 || r = 0x1C then s.cvuRestore u (r == 0x1C) (s.merged a v m)
    else if r = 0x38 then
      let s := s.when (hasBit x 2) (fun s => s.cvuClr u)
      let s := s.when (hasBit x 1) (fun s => s.cvuEnd u)
      s.when (hasBit x 0) (fun s => s.cvuStart u)
    else s.plain a v m

/-! ### Umbra (R463 to R477) -/

/-- Registers of the Umbra window. -/
def umbRegWrite (s : State) (a v m : Nat) : State :=
  let o := a - 0x400F0000
  if o = 0x014 then s.timeSet (v &&& m)
  else if o = 0x028 then (s.plain a v m).logShow
  else if o = 0x030 then s.when (hasBit (v &&& m) 0) logPut
  else if o = 0x060 && s.mixed Reg.UMB_CFG_MARGIN v m < 2 then s.wr Reg.UMB_FLAGS_CFG_ERR 1
  else s.plain a v m

/-! ### Clocks and power (R478 to R496) -/

/-- The power state that `PWR_CMD.TARGET` names. -/
def powerTarget? : Nat → Option PowerState
  | 0 => some .run | 1 => some .watch | 2 => some .sleep | _ => none

/-- `CLK_CTRL.LANE_EN` (R481, R496): written 0 it stops `PLL_LANE` and with it every lane. -/
def laneClockWrite (s : State) (a v m : Nat) : State :=
  let off := s.on Reg.CLK_CTRL_LANE_EN && s.mixed Reg.CLK_CTRL_LANE_EN v m == 0
  (s.plain a v m).when off (fun s => (s.clrB Reg.CLK_STATUS_LOCK 2).lanesLost)

/-- `RAMP_CTRL` (R482, R483). -/
def rampCtrlWrite (s : State) (a v m : Nat) : State :=
  let run := s.mixed Reg.RAMP_CTRL_RUN v m == 1
  let sel := Reg.RAMP_CTRL_RUN.sel m
  let s := s.plain a v (maskOut m [Reg.RAMP_CTRL_RUN])
  if !sel then s else if run then s.rampRun else s.rampStop

/-- `WDT_CTRL` (R491): the count starts where EN is set. -/
def wdtCtrlWrite (s : State) (a v m : Nat) : State :=
  let was := s.on Reg.WDT_CTRL_EN
  let s := s.plain a v m
  s.when (!was && s.on Reg.WDT_CTRL_EN) (fun s => s.wr Reg.WDT_COUNT_MS (s.rd Reg.WDT_CTRL_MS))

/-- Registers of clocks and power; a region mask of `RST_CMD` is carried out after the write (R492). -/
def clkWrite (s : State) (a v m : Nat) : State :=
  let o := a - 0x400D0000
  let x := v &&& m
  if o = 0x004 then
    if hasBit x 8 then
      match powerTarget? (fieldOf x 0 2) with
      | some t => s.powerStart t
      | none => s
    else s
  else if o = 0x028 then
    let us := s.mixed Reg.SUP_HOLD_US v m
    if us < 20 || 20000 < us then s else s.plain a v m
  else if o = 0x034 then { s with clk := { s.clk with rstDue := if x % 8 = 0 then none else some (x % 8) } }
  else if o = 0x040 then s.wdtCtrlWrite a v m
  else if o = 0x044 then s.wdtKick (x % 65536)
  else if o = 0x068 then s.laneClockWrite a v m
  else if o = 0x070 then s.rampCtrlWrite a v m
  else if 0x080 ≤ o && o < 0x100 then
    if s.on Reg.RAMP_CTRL_RUN then s.wr Reg.CLK_FLAGS_RAMP_ERR 1 else s.plain a v m
  else if o = 0x300 then s.when (x % 16 != 0) (fun s => s.calStartFree (x % 16))
  else s.plain a v m

end State
end Sys2Proof.Machine
end

