-- ==== Sys2Proof/Machine/Bus.lean ====
section
/-! DEFINITION. Machine/Bus.lean: a bus write of a register by a master (R7, R46, R64, R69), the application of a mailbox submission
and of loads (R51 to R55), and the commands of the pair supervisor that need a register write. -/

namespace Sys2Proof.Machine
namespace State

/-! ### Register writes (R7 to R9, R46, R51, R69) -/

/-- A write that the rights allow reaches its register: `who` counts only where the block judges the master. -/
def regWrite (s : State) (who : Master) (a v m : Nat) : State :=
  match a / 0x10000 with
  | 0x4000 => if a < 0x40008000 then s.orbWrite a v m else s.gsRegWrite a v m
  | 0x4001 => s.pwmWrite a v m
  | 0x4002 => s.drvWrite who a v m
  | 0x4003 => s.snsWrite a v m
  | 0x4004 => s.cmpWrite a v m
  | 0x4005 => s.leWrite a v m
  | 0x4006 => s.meWrite a v m
  | 0x4007 => s.peWrite a v m
  | 0x4008 => s.eeWrite a v m
  | 0x4009 => s.cmtWrite who a v m
  | 0x400A => s.cvuRegWrite a v m
  | 0x400B => s.evfWrite a v m
  | 0x400C => s.crossWrite a v m
  | 0x400D => s.clkWrite a v m
  | 0x400F => s.umbRegWrite a v m
  | _ => s.plain a v m

/-- The bits of a register whose fields lie in one domain, or, for the other side, in any other (R46). -/
def domainMask (a : Nat) (cr : Bool) : Nat :=
  ((regFields? a).getD []).foldl (fun w r => if (r.dom == .cr) == cr then w ||| r.fld.mask else w) 0

/-- A write to the crossings block: field by field (R46, R137). DEDUCED (notes/assumptions 11). -/
def crossingWrite (s : State) (who : Master) (a v m : Nat) : State :=
  if who = .mc && s.cpRun && crOnlyReg a then { s with bus := .error }
  else
    match s.right who a .cr, s.right who a .mr with
    | .allow, .ignore => s.access who a .cr (fun s => s.regWrite who a v (m &&& domainMask a true))
    | .ignore, .allow => s.access who a .mr (fun s => s.regWrite who a v (m &&& domainMask a false))
    | _, _ => s.access who a .cr (fun s => s.regWrite who a v m)

/-- The pending words of target 0, of which a standby pair holds a private copy (R124). -/
def standbyPendAt? (s : State) (who : Master) (a : Nat) : Option (PairId × Nat) :=
  match masterPair? who with
  | some p =>
    if s.pairState p = pairStandby && !s.on (fenceFld p) && 0x400B0300 ≤ a && a < 0x400B0318 then some (p, (a - 0x400B0300) / 4)
    else none
  | none => none

/-- An active operation-table word, where every write returns a bus error (R93). -/
def slotActAt (a : Nat) : Bool := decide (0x40002000 ≤ a) && decide (a < 0x40003000)

/-- A direct write by a master: an access of the wrong size or alignment, and one that the rights forbid, returns a bus error
and writes nothing (R7, R46). DEDUCED for other masters than a pair (notes/assumptions 11). -/
def busWrite (s : State) (who : Master) (a size v : Nat) : State :=
  let m := 0xFFFFFFFF
  let v := v % 2 ^ 32
  if size != 4 || a % 4 != 0 || windowOf a == .outside then { s with bus := .error }
  else
    match s.standbyPendAt? who a with
    | some (p, w) => s.standbyPendClear p w v
    | none =>
      if windowOf a == .umbra then s.umbWrite who a (fun s => s.regWrite who a v m)
      else if windowOf a == .crossing then s.crossingWrite who a v m
      else if slotActAt a then (match s.right who a .cr with
        | .allow => { s with bus := .error }
        | _ => s.access who a .cr id)
      else if who = .sc && (scOnly a || a == 0x40090940) then State.regWrite { s with bus := .ok } who a v m
      else if scOnly a then s.access who a .cr id
      else s.access who a (if windowOf a == .data then .dr else .cr) (fun s => s.regWrite who a v m)

/-! ### Loads (R50, R52) -/

/-- The load of a receiving block. -/
def load (s : State) : LoadTarget → LoadPhase
  | .le0 => s.cross.loadLe0
  | .le1 => s.cross.loadLe1
  | .orbit => s.cross.loadOrbit
  | .profile => s.cross.loadProfile
  | .sweep => s.cross.loadSweep

/-- Replace the load of a receiving block. -/
def setLoad (s : State) (t : LoadTarget) (p : LoadPhase) : State :=
  let c := s.cross
  { s with cross := match t with
    | .le0 => { c with loadLe0 := p }
    | .le1 => { c with loadLe1 := p }
    | .orbit => { c with loadOrbit := p }
    | .profile => { c with loadProfile := p }
    | .sweep => { c with loadSweep := p } }

/-- The block still copies a load, or holds one for its switch (R52, R99). -/
def loadBusy (s : State) (t : LoadTarget) : Bool :=
  s.load t != .idle || (match t with
    | .le0 => s.on (Reg.LE_STATUS_LOAD_BUSY 0)
    | .le1 => s.on (Reg.LE_STATUS_LOAD_BUSY 1)
    | .orbit => s.swapPend
    | .profile => s.gs.profWait.isSome
    | .sweep => s.pe.profWait.isSome)

/-- Show or clear a pending load (R52). -/
def loadShow (s : State) (t : LoadTarget) (b : Bool) : State :=
  match t with
  | .le0 => s.wr (Reg.LE_STATUS_LOAD_BUSY 0) (b2n b)
  | .le1 => s.wr (Reg.LE_STATUS_LOAD_BUSY 1) (b2n b)
  | .orbit => s.wr Reg.ORB_BANK_SWAP_PEND (b2n b)
  | .profile => s.wr Reg.GS_STATUS_PROF_PEND (b2n b)
  | .sweep => s

/-- The buffer of a load lies in the shared SRAM. -/
def bufferOk (addr len : Nat) : Bool :=
  addr % 4 == 0 && decide (shmBase ≤ addr) && decide (addr + len ≤ shmBase + shmSize)

/-- The words of a buffer. -/
def bufferWords (s : State) (addr len : Nat) : List Nat := wordsOf (memRead s.sram (addr - shmBase) len)

/-- The length is one that the block takes (R98, R268, R308). -/
def loadLenOk (s : State) (t : LoadTarget) (addr len : Nat) : Bool :=
  match t with
  | .orbit => let n := fieldOf (memWord s.sram (addr - shmBase)) 0 9; 1 ≤ n && n ≤ 256 && len == 16 + 16 * n
  | .profile => len == 512
  | .sweep => len == 160
  | _ => true

/-- A load entry (R49 to R52): none where it is rejected. -/
def loadStart? (s : State) (t : LoadTarget) (addr len crc entry seq : Nat) : Option State :=
  if len = 0 || len % 4 != 0 || 32768 < len || !bufferOk addr len || s.loadBusy t || !s.loadLenOk t addr len then none
  else some ((s.setLoad t (.copying addr len crc entry seq)).loadShow t true)

/-- A load that fails is rejected in `MBX_RESULT.ERR`, while the register still shows its submission (R52). -/
def loadReject (s : State) (entry seq : Nat) : State :=
  s.when (s.rd Reg.MBX_STATUS_APPLIED_SEQ == seq) (fun s => s.setB Reg.MBX_RESULT_ERR entry)

/-- A loop engine's copy ends with a CRC mismatch (R148): RESULT 8 stands before RESULT 2. -/
def leCrcFail (s : State) (e : Nat) : State :=
  let st := s.leState e
  let r := if st = leOff || st = leSelftest || st = leFaulted then 8 else 2
  (s.wr (Reg.LE_LOAD_STATUS_RESULT e) r).raise Ev.LE_LOAD

/-- The receiving block takes a complete image (R52). -/
def loadTake (s : State) (t : LoadTarget) (ws : List Nat) (entry seq : Nat) : State :=
  let le (e : Nat) : State :=
    let img := (List.range (Nat.min 2048 ws.length)).foldl (fun b i => bankSet b i (nth ws i 0)) []
    (((s.setLoad t .idle).loadShow t false).setLeInactive e img).leCheck e
  match t with
  | .le0 => le 0
  | .le1 => le 1
  | .orbit =>
    if orbImageOk ws then s.orbTakeLoad ws
    else ((s.setLoad t .idle).loadShow t false).loadReject entry seq
  | .profile => s.profileLoaded ws
  | .sweep => s.peProfileLoaded ws

/-- A background copy ends (R52). DESIGN CHOICE: the buffer is read here (notes/assumptions 14). -/
def loadComplete (s : State) (t : LoadTarget) : State :=
  match s.load t with
  | .copying addr len crc entry seq =>
    let ws := s.bufferWords addr len
    if crc32cWords ws = crc then s.loadTake t ws entry seq
    else
      let s := ((s.setLoad t .idle).loadShow t false).loadReject entry seq
      match t with
      | .le0 => s.leCrcFail 0
      | .le1 => s.leCrcFail 1
      | _ => s
  | _ => s

/-! ### Application of a submission (R51, R54, R55) -/

/-- A mask selects some bit of a field of access type RO. -/
def selectsRo (a m : Nat) : Bool := ((regFields? a).getD []).any fun r => r.acc == .ro && r.fld.sel m

/-- The active image window, which holds read-only words (R169). -/
def imgActAt (a : Nat) : Bool := a / 0x10000 == 0x4005 && decide (0x4000 ≤ a % 0x8000) && decide (a % 0x8000 < 0x6000)

/-- A register-write entry that is rejected (R46, R51). -/
def entryWriteBad (a m : Nat) : Bool :=
  a % 4 != 0 || slotActAt a || (imgActAt a && m != 0) || selectsRo a m || (match windowOf a with
    | .control | .data => false
    | .crossing => m &&& domainMask a false != 0
    | _ => true)

/-- One entry takes effect; none where it is rejected (R51). -/
def entryApply? (s : State) (i : Nat) (e : MbxEntry) : Option State :=
  let seq := (s.rd Reg.MBX_STATUS_APPLIED_SEQ + 1) % 256
  match fieldOf e.w0 0 8 with
  | 0 => some s
  | 1 => if entryWriteBad e.w1 e.w3 || scOnly e.w1 then none else some (s.regWrite .mc e.w1 e.w2 e.w3)
  | 2 =>
    let d := fieldOf e.w0 16 16
    if d < 48 then some (s.wr (Reg.REF_SP_VALUE d) e.w1) else none
  | 3 =>
    match LoadTarget.ofDest? (fieldOf e.w0 16 16) with
    | none => none
    | some t =>
      match s.loadStart? t e.w1 e.w2 e.w3 i seq with
      | some s => some s
      | none => none
  | _ => none

/-- A rejected entry sets its bit; a rejected operation-table load also sets `ORB_FLAGS.CFG_ERR` where the bank is busy
(R51, R99). -/
def entryReject (s : State) (i : Nat) (e : MbxEntry) : State :=
  let s := s.setB Reg.MBX_RESULT_ERR i
  s.when (fieldOf e.w0 0 8 == 3 && fieldOf e.w0 16 16 == 3 && s.loadBusy .orbit) orbCfgErr

/-- All entries in index order (R51). -/
def entriesApply (s : State) (es : List MbxEntry) : State :=
  (List.range es.length).foldl (fun s i =>
    let e := nth es i ⟨0, 0, 0, 0⟩
    match s.entryApply? i e with
    | some s => s
    | none => s.entryReject i e) s

/-- MC refills the bank with the entries that it holds back and submits it (R53, R401). -/
def mcRefill (s : State) : State :=
  if s.cross.mcQueue.isEmpty || s.on Reg.MBX_STATUS_PEND then s
  else
    let es := s.cross.mcQueue.take 16
    let s := { s with cross := { s.cross with mcQueue := s.cross.mcQueue.drop 16 } }
    let s := (List.range es.length).foldl (fun s i =>
      let e := nth es i ⟨0, 0, 0, 0⟩
      (((s.wr (Reg.MBX_DATA_WORD (4 * i)) e.w0).wr (Reg.MBX_DATA_WORD (4 * i + 1)) e.w1).wr
        (Reg.MBX_DATA_WORD (4 * i + 2)) e.w2).wr (Reg.MBX_DATA_WORD (4 * i + 3)) e.w3) s
    s.mbxSubmit es.length (s.rd Reg.ORB_TICK_TICK)

/-- MC puts an entry into the mailbox: it is submitted once the bank is free. -/
def mcSubmit (s : State) (e : MbxEntry) : State :=
  mcRefill { s with cross := { s.cross with mcQueue := s.cross.mcQueue ++ [e] } }

/-- The submission whose boundary has come takes effect (R51). -/
def subApply (s : State) : State :=
  match s.cross.sub with
  | none => s
  | some sub =>
    if sub.due != 0 then s
    else
      let s := { s with cross := { s.cross with sub := none, failedBank := none } }
      let s := (s.wr Reg.MBX_RESULT_ERR 0).entriesApply sub.entries
      ((s.wr Reg.MBX_STATUS_PEND 0).incWrap Reg.MBX_STATUS_APPLIED_SEQ).raise Ev.MBX_APPLIED

/-- The data-port entries whose boundary has come: applied, or discarded for their epoch (R55, R58). -/
def dataPortApply (s : State) : State :=
  let due := s.cross.dataPort.filter (fun e => e.due == 0)
  let s := { s with cross := { s.cross with dataPort := s.cross.dataPort.filter (fun e => e.due != 0) } }
  s.forEach due (fun s e =>
    if e.epoch == s.rd Reg.ORB_EPOCH_EPOCH then s.wr (Reg.REF_SP_VALUE e.index) e.value else s.epochDiscard)

/-- The register that the active pair writes on the same edge is named by an entry (R54). -/
def edgeMeets (s : State) (a : Nat) : Bool :=
  match s.cross.sub with
  | some sub => sub.due == 0 && sub.entries.any (fun e => fieldOf e.w0 0 8 == 1 && e.w1 == a && !entryWriteBad e.w1 e.w3)
  | none => false

/-- A boundary at which the mailbox has something to apply (R51, R54, R55): the submission, the data port, then the write of
the active pair on that edge, then what MC holds back. -/
def mbxApply (s : State) (edge : Option (Nat × Nat)) : State :=
  let meets := edge.any (fun e => s.edgeMeets e.1)
  let s := s.subApply.dataPortApply
  let s := s.when meets (fun s => s.wr Reg.MBX_STATUS_CONFLICT 1)
  let s := match edge with
    | some (a, v) => s.busWrite (if s.activePair = PairId.a then Master.pairA else Master.pairB) a 4 v
    | none => s
  s.mcRefill

/-! ### Pair supervisor (R127, R128, R133) -/

/-- The application that MC loads into the TCM of a pair before it runs (R133, R430). -/
def tcmLoad (s : State) (p : PairId) : State :=
  match nth s.sec.loaded 1 none with
  | none => s
  | some img => s.setTcm p (memWrite (s.tcm p) 0 (img.payload.take tcmSize))

/-- The takeover of R127, with what the engines and Eclipse do at its boundary (R160, R291). -/
def takeoverAll (s : State) : State :=
  if !s.on Reg.CP_STATUS_TAKEOVER_PEND then s
  else if s.takeoverAble then (((s.takeover s.activePair).takeoverMark 0).takeoverMark 1).eeTakeover
  else s.dropTakeover s.activePair

/-- The orderly safe state of R128. -/
def orderlySafe (s : State) : State :=
  if s.pairs.orderly then (State.openRelays { s with pairs := { s.pairs with orderly := false } }).faultHold else s

end State

/-- MBX_APPLY (R51, R54, R55). -/
def execMbxApply (edge : Option (Nat × Nat)) (s : State) : Out := .next (s.mbxApply edge)

/-- LOAD_COPY_COMPLETE (R52). -/
def execLoadCopyComplete (t : LoadTarget) (s : State) : Out := .next (s.loadComplete t)

/-- CP_ENABLE (R133, R435, R483). -/
def execCpEnable (m : Master) (p : PairId) (s : State) : Out :=
  .next (s.access m 0x400C0800 .mr (fun s => s.pairEnableCmd p))

/-- CP_TAKEOVER (R127). -/
def execCpTakeover (s : State) : Out := .next s.takeoverAll

/-- CP_ACTIVATE (R133): the pair runs the application that MC has loaded; a module waiting for it becomes `STANDBY` (R411). -/
def execCpActivate (p : PairId) (s : State) : Out :=
  .next (
    let t := s.pairActivate p
    if s.pairState p != State.pairActive && t.pairState p = State.pairActive then (t.tcmLoad p).operSettle else t)

/-- ORDERLY_SAFE_STATE (R128). -/
def execOrderlySafeState (s : State) : Out := .next s.orderlySafe

end Sys2Proof.Machine
end

