-- ==== Sys2Proof/Machine/Security.lean ====
section
/-! DEFINITION. Machine/Security.lean: identity, signed images, tokens, attestation and the life cycle (R421 to R448): what MC and
its boot ROM do with the OTP array, the image flash and the permutation engine. The opcodes that reach it stand in
Machine/TppCommands.lean. -/

namespace Sys2Proof.Machine

/-- A number of a byte string, one byte long. -/
def byteAt (bs : List Byte) (o : Nat) : Nat := leNat (slice bs o 1)

/-- SHAKE256 of a byte string, to a length in bytes. -/
def shake (bs : List Byte) (n : Nat) : List Byte := leBytes n (Config.shake256 bs n)

/-- The module serial number as 8 bytes (R37, R421). -/
def serialBytes : List Byte := leBytes 8 Config.serial

/-! ### Context strings, as ASCII bytes -/

abbrev ctxImage : List Byte := [0x5A, 0x59, 0x2D, 0x49, 0x4D, 0x41, 0x47, 0x45]
abbrev ctxRole : List Byte := [0x5A, 0x59, 0x2D, 0x52, 0x4F, 0x4C, 0x45]
abbrev ctxCert : List Byte := [0x5A, 0x59, 0x2D, 0x43, 0x45, 0x52, 0x54]
abbrev ctxToken : List Byte := [0x5A, 0x59, 0x2D, 0x54, 0x4F, 0x4B, 0x45, 0x4E]
abbrev ctxAttest : List Byte := [0x5A, 0x59, 0x2D, 0x41, 0x54, 0x54, 0x45, 0x53, 0x54]
abbrev ctxKex : List Byte := [0x5A, 0x59, 0x2D, 0x4B, 0x45, 0x58]
abbrev ctxOwner : List Byte := [0x5A, 0x59, 0x2D, 0x4F, 0x57, 0x4E, 0x45, 0x52]

/-! ### Life-cycle codes (R423) -/

abbrev lcProvisioned : Nat := 1
abbrev lcOwned : Nat := 2
abbrev lcField : Nat := 3
abbrev lcRma : Nat := 4
abbrev lcScrapped : Nat := 5

/-- A life-cycle byte counts as blown with 5 or more of its bits blown. -/
def lcbBlown (b : Nat) : Bool := decide (5 ≤ popCount 8 b)

/-- A torn byte: 1 to 4 bits blown. -/
def lcbTorn (b : Nat) : Bool := b != 0 && !lcbBlown b

/-- The life-cycle state that the OTP array holds: the highest byte that is blown. -/
def OtpSt.state (o : OtpSt) : Nat := (List.range 5).foldl (fun n i => if lcbBlown (nth o.lcb i 0) then i + 1 else n) 0

namespace State

/-- Replace the OTP array. -/
def setOtp (s : State) (f : OtpSt → OtpSt) : State := { s with nv := { s.nv with otp := f s.nv.otp } }

/-- `SEC_LC`, `SEC_OWNER`, `SEC_RB`, `SEC_SLOT.TRIAL` and `SEC_BOOTCOUNT` follow the OTP array and the store (R448). -/
def secShow (s : State) : State :=
  let o := s.nv.otp
  let s := (s.wr Reg.SEC_LC_STATE s.sec.lc).wr Reg.SEC_LC_TORN (b2n (o.lcb.any lcbTorn))
  let s := (s.wr Reg.SEC_OWNER_VALID o.ownerValid).wr Reg.SEC_OWNER_REVOKED o.ownerRevoked
  let s := ((s.wr Reg.SEC_RB_RB0 (nth o.rb 0 0)).wr Reg.SEC_RB_RB1 (nth o.rb 1 0)).wr Reg.SEC_RB_RB2 (nth o.rb 2 0)
  let s := (s.wr Reg.SEC_RB_RB3 (nth o.rb 3 0)).wr Reg.SEC_SLOT_TRIAL (maskOf 4 (fun t => (nth s.nv.trial t none).isSome))
  s.wr Reg.SEC_BOOTCOUNT_COUNT s.nv.bootCount

/-! ### Debug access (R445) -/

/-- What is open without a token: [0] pairs, [1] MC, [2] SC. -/
def debugDefault (lc : Nat) : Nat := if lc = 0 || lc = lcRma then 7 else if lc = lcProvisioned then 3 else 0

/-- Debug access opens or closes. -/
def debugSet (s : State) (m : Nat) : State :=
  let was := s.rd Reg.SEC_DEBUG_OPEN
  let s := (s.wr Reg.SEC_DEBUG_OPEN m).wr Reg.SEC_DEBUG_SINCE_POR (s.rd Reg.SEC_DEBUG_SINCE_POR ||| m)
  if m = was then s else s.raise Ev.SEC_DEBUG

/-! ### Identity and certificate (R426, R427) -/

/-- The identity public key. -/
def identityKey (s : State) : List Byte := leBytes 1952 (Config.mldsaPublic s.nv.otp.identitySeed)

/-- The identity key's signature under a context string. -/
def identitySign (s : State) (ctx msg : List Byte) : List Byte := leBytes 3309 (Config.mldsaSign s.nv.otp.identitySeed ctx msg)

/-- Bytes 0 to 1983 of the certificate. -/
def certBody (s : State) (issue : Nat) : List Byte :=
  leBytes 2 0x4543 ++ [1, 1] ++ serialBytes ++ leBytes 4 issue ++ leBytes 3 Config.dieRevision ++ leBytes 13 0 ++ s.identityKey

/-- What CERT_READ reads: the certificate request in `MAKER`, else the certificate. -/
def certBytes (s : State) : List Byte := if s.sec.lc = lcMaker then s.certBody 0 else s.nv.cert

/-- The first boot in `MAKER` at which the seed reads all zero draws it (R426); not without a healthy TRNG (R425). -/
def identityGenerate (s : State) : State :=
  if s.sec.lc = lcMaker && s.nv.otp.identitySeed.all (· == 0) && s.on Reg.SEC_TRNG_HEALTH_OK then
    let n := s.freeCtr
    ({ s with freeCtr := n + 1 } : State).setOtp fun o => { o with identitySeed := leBytes 32 (Config.trng n) }
  else s

/-- The destruction of R444: every bit of both seeds blown, and the certificate, the owner keys and the records that owner storage
keys encrypt erased (the BDR and the GPR: DEDUCED, notes/assumptions 55). -/
def rmaErase (s : State) : State :=
  let s := s.setOtp fun o => { o with identitySeed := List.replicate 32 0xFF, ownerSeed := List.replicate 32 0xFF }
  { s with nv := { s.nv with cert := [], ownerKeys := [[], [], [], []], bdr := [], gpr := [] } }

/-- An owner public key that may be used: its slot is valid and unrevoked, and the key agrees with OWNER_HASH (R438). -/
def ownerKey? (s : State) (n : Nat) : Option (List Byte) :=
  let o := s.nv.otp
  let k := nth s.nv.ownerKeys n []
  if n < 4 && hasBit o.ownerValid n && !hasBit o.ownerRevoked n && !k.isEmpty && Config.shake256 k 32 == nth o.ownerHash n 0 then some k
  else none

/-! ### Images (R428 to R431) -/

/-- Where a slot of a type begins in the flash, and how many bytes it holds. -/
def slotBase (t slot : Nat) : Nat := nth [0x000000, 0x080000, 0x100000, 0x140000, 0x180000, 0x190000, 0x1A0000, 0x1C0000] (2 * t + slot) 0
def slotSize (t : Nat) : Nat := nth [0x80000, 0x40000, 0x10000, 0x20000] t 0
def imageLimit (t : Nat) : Nat := nth [448 * 1024, 240 * 1024, 48 * 1024, 64 * 1024] t 0

/-- Bytes of the image flash; an erased byte reads 0xFF. -/
def flashRead (s : State) (a n : Nat) : List Byte := (List.range n).map fun i => sparseGet s.nv.flash (a + i) 0xFF

/-- Program bytes: a page program only clears bits (R428). PRESUMED (notes/assumptions 54). -/
def flashProgram (m : List Host.Cell) (a : Nat) : List Byte → List Host.Cell
  | [] => m
  | b :: bs => flashProgram (sparseSet m a (sparseGet m a 0xFF &&& b) 0xFF) (a + 1) bs

/-- Erase the 4 KiB sector with a number. -/
def sectorErase (m : List Host.Cell) (n : Nat) : List Host.Cell := m.filter fun c => c.1 / 4096 != n

/-- A signer that a type accepts in a life-cycle state (R428). -/
def signerOk (lc t signer : Nat) : Bool :=
  if t = 0 then signer == 0
  else if t = 3 then signer == 1
  else if lc = lcRma then signer == 0
  else (2 ≤ signer && signer ≤ 5) || (signer == 0 && decide (lc < lcOwned))

/-- The endorsement of a Nimoren signer verifies under the root key (R422, R431). -/
def endorsed (s : State) (h : List Byte) : Bool :=
  s.sec.rootOk && Config.mldsaVerify Config.rootKey ctxRole (slice h 0x12 1 ++ slice h 0x60 1952) (slice h 0x800 3309)

/-- The image signature verifies under the signer public key. -/
def imageSigned (h : List Byte) : Bool :=
  Config.mldsaVerify (slice h 0x60 1952) ctxImage (h.take 0x1500) (slice h 0x1500 3309)

/-- The signer public key is that of a valid and unrevoked owner slot. -/
def ownerSigner (s : State) (h : List Byte) : Bool :=
  let n := byteAt h 0x12 - 2
  let o := s.nv.otp
  hasBit o.ownerValid n && !hasBit o.ownerRevoked n && Config.shake256 (slice h 0x60 1952) 32 == nth o.ownerHash n 0

/-- The payload of a slot's image. -/
def imagePayload (s : State) (t slot : Nat) : List Byte :=
  let b := slotBase t slot
  s.flashRead (b + 0x2200) (leNat (s.flashRead (b + 8) 4))

/-- The result of verifying a slot: the first step of R431 that fails, else 0. -/
def imageCode (s : State) (t slot : Nat) : Nat :=
  let h := s.flashRead (slotBase t slot) 0x2200
  let signer := byteAt h 0x12
  if wordAt h 0 != 0x474D495A || byteAt h 4 != 1 || leNat (slice h 6 2) != 0x2200 || byteAt h 5 != t || imageLimit t < wordAt h 8 then 1
  else if !signerOk s.sec.lc t signer then 2
  else if !(if 2 ≤ signer then s.ownerSigner h else s.endorsed h) then 3
  else if !imageSigned h then 4
  else if Config.shake256 (s.imagePayload t slot) 64 != leNat (slice h 0x20 64) then 5
  else if leNat (slice h 0x10 2) < nth s.nv.otp.rb t 0 then 6
  else if leNat (slice h 0x18 8) != 0 && slice h 0x18 8 != serialBytes then 7
  else 0

/-- The verification of a slot: its code in `SEC_SLOT`, and a refusal flagged (R431). -/
def imageVerify (s : State) (t slot : Nat) : Nat × State :=
  let c := s.imageCode t slot
  let old := s.rd Reg.SEC_SLOT_CODE
  let s := s.wr Reg.SEC_SLOT_CODE (old - fieldOf old (4 * t) 4 * 2 ^ (4 * t) + c * 2 ^ (4 * t))
  (c, s.when (c != 0) (fun s => s.flagRaise Reg.SEC_FLAGS_IMG_REFUSED Ev.SEC_IMAGE))

/-- The slot that holds the running image of a type, if one is loaded. -/
def runningSlot? (s : State) (t : Nat) : Option Nat :=
  if hasBit (s.rd Reg.SEC_SLOT_LOADED) t then some (bitOf (s.rd Reg.SEC_SLOT_RUNNING) t) else none

/-- IMAGE_WRITE (R432): the sectors written for the first time since the last commit of their slot are erased first. -/
def imageWrite (s : State) (t slot off : Nat) (data : List Byte) : State :=
  let a := slotBase t slot + off
  let first := a / 4096
  let sectors := (List.range ((a + data.length - 1) / 4096 + 1 - first)).map (first + ·)
  let s := s.forEach (sectors.filter fun n => !s.sec.erased.contains n) (fun s n =>
    { s with nv := { s.nv with flash := sectorErase s.nv.flash n }, sec := { s.sec with erased := n :: s.sec.erased } })
  { s with nv := { s.nv with flash := flashProgram s.nv.flash a data } }

/-- IMAGE_COMMIT (R432): the code; the slot's sectors open for erasure again. -/
def imageCommit (s : State) (t slot : Nat) : Nat × State :=
  let (c, s) := s.imageVerify t slot
  let lo := slotBase t slot / 4096
  let open' := s.sec.erased.filter fun n => decide (n < lo) || decide (lo + slotSize t / 4096 ≤ n)
  let rest := s.nv.committed.filter (· != 2 * t + slot)
  (c, { s with sec := { s.sec with erased := open' }, nv := { s.nv with committed := if c = 0 then (2 * t + slot) :: rest else rest } })

/-- IMAGE_ACTIVATE (R432): the slot becomes the trial slot of its type; none where its last commit did not give code 0. -/
def imageActivate? (s : State) (t slot : Nat) : Option State :=
  if s.nv.committed.contains (2 * t + slot) then
    let s := { s with nv := { s.nv with trial := setNth s.nv.trial t (some slot), trialRuns := setNth s.nv.trialRuns t false } }
    some s.secShow
  else none

/-! ### Loading (R433 to R437) -/

/-- SC's boot ROM checks the image in SC memory (R436): the role, the endorsement, the signature and the payload's hash. -/
def scBootCheck (s : State) (slot : Nat) : Bool :=
  let h := s.flashRead (slotBase 3 slot) 0x2200
  byteAt h 0x12 == 1 && s.endorsed h && imageSigned h
    && Config.shake256 (memRead s.scMem 0x2200 (wordAt h 8)) 64 == leNat (slice h 0x20 64)

/-- The lowest partition of the shared SRAM that MR owns, for the loop programs (R428, R44). DEDUCED (notes/assumptions 53). -/
def mrPartition (s : State) : Option Nat := (List.range 8).find? fun p => s.shmOwner p == 0

/-- The payload reaches its memory (R428): the type 1 image the TCM of each pair when it starts (`tcmLoad`). -/
def imagePlace (s : State) (t slot : Nat) (payload : List Byte) : State :=
  match t with
  | 0 => { s with mcMem := memWrite [] 0 payload }
  | 2 =>
    match s.mrPartition with
    | some p => { s with sram := memWrite s.sram (p * 0x10000) (payload.take (shmSize - p * 0x10000)) }
    | none => s
  | 3 => { s with scMem := memWrite (memWrite [] 0 (s.flashRead (slotBase 3 slot) 0x2200)) 0x2200 payload }
  | _ => s

/-- A slot that verified is loaded and runs; the SC image only where SC's own check passes. -/
def imageRun (s : State) (t slot : Nat) : State :=
  let h := s.flashRead (slotBase t slot) 0x2200
  let payload := s.imagePayload t slot
  let s := s.imagePlace t slot payload
  if t = 3 && !s.scBootCheck slot then s
  else
    let img : LoadedImage := ⟨wordAt h 0x0C, leNat (slice h 0x10 2), Config.shake256 (h.take 0x1500) 64, payload⟩
    let s := (s.putB Reg.SEC_SLOT_RUNNING t (slot == 1)).setB Reg.SEC_SLOT_LOADED t
    let trial := nth s.nv.trial t none == some slot
    { s with sec := { s.sec with loaded := setNth s.sec.loaded t (some img) },
             nv := { s.nv with trialRuns := setNth s.nv.trialRuns t trial } }

/-- The load of a type (R433): the trial slot if there is one, else the active one; the other slot where that fails. -/
def imageLoad (s : State) (t : Nat) : State :=
  let s := { s with sec := { s.sec with loaded := setNth s.sec.loaded t none } }
  let s := s.clrB Reg.SEC_SLOT_LOADED t
  let slot := (nth s.nv.trial t none).getD (nth s.nv.active t 0)
  let (c, s) := s.imageVerify t slot
  if c = 0 then s.imageRun t slot
  else
    let s := (s.setB Reg.SEC_SLOT_FALLBACK t).raise Ev.SEC_FALLBACK
    let (c, s) := s.imageVerify t (1 - slot)
    if c = 0 then s.imageRun t (1 - slot) else s

/-- MC blows the counter of a type towards its due value; a loss of supply may leave it at `upTo` bits (R434). -/
def rollbackAdvance (s : State) (t : Nat) (upTo : Option Nat) : State :=
  let rb := nth s.nv.otp.rb t 0
  let due := Nat.min 128 (nth s.nv.otp.rbDue t 0)
  let reach := match upTo with
    | some n => Nat.min due (rb + n)
    | none => due
  (s.setOtp fun o => { o with rb := setNth o.rb t (Nat.max rb reach) }).secShow

/-- A trial image has run for 60 s (R433, R434): it becomes active. -/
def trialPromote (s : State) (t : Nat) (upTo : Option Nat) : State :=
  match nth s.nv.trial t none, nth s.sec.loaded t none with
  | some slot, some img =>
    if nth s.nv.trialRuns t false then
      let s := { s with nv := { s.nv with active := setNth s.nv.active t slot, trial := setNth s.nv.trial t none,
                                           trialRuns := setNth s.nv.trialRuns t false } }
      let s := s.setOtp fun o => { o with rbDue := setNth o.rbDue t img.rollback }
      s.rollbackAdvance t upTo
    else s
  | _, _ => s

/-! ### Tokens (R441 to R446) -/

/-- A fragment's outcome: another port stages, the fragment does not fit, the token is still incomplete, or it is complete. -/
inductive Fragment where
  | busy | bad | more (s : State) | token (s : State) (t : List Byte)
  deriving DecidableEq, Repr

/-- A fragment of a token arrives on a port (R441, R446): offset and total length in its first word. A fragment at offset 0 starts
the token again; any other must continue it. -/
def tokenFragment (s : State) (p : Port) (payload : List Byte) : Fragment :=
  let off := fieldOf (wordAt payload 0) 0 16
  let total := fieldOf (wordAt payload 0) 16 16
  let data := payload.drop 4
  let held := match s.sec.token with
    | some g => if g.port = p then some (some g) else none
    | none => some none
  match held with
  | none => .busy
  | some g =>
    let old := if off = 0 then [] else (g.map TokenStage.bytes).getD []
    let same := off = 0 || g.any (fun g => g.total == total)
    if total = 0 || 12288 < total || !same || off != old.length || total < off + data.length then .bad
    else
      let bs := old ++ data
      if bs.length = total then .token { s with sec := { s.sec with token := none } } bs
      else .more { s with sec := { s.sec with token := some ⟨p, total, bs⟩ } }

/-- A token left incomplete for 10 s is discarded (R441). -/
def tokenTimeout (s : State) : State := { s with sec := { s.sec with token := none } }

/-- The root or an owner slot, as a signer of a token: its key where that signer may sign. -/
def tokenKey? (s : State) (i : Nat) : Option (List Byte) :=
  if i = 0 then (if s.sec.rootOk then some Config.rootKey else none) else s.ownerKey? (i - 1)

/-- The frame of a token holds (R442): its header, its length, this module's serial, and the signature of every signer named. -/
def tokenSigned (s : State) (t : List Byte) : Bool :=
  let b := leNat (slice t 6 2)
  let signers := bitsOf 5 (byteAt t 20)
  let one (x : Nat × Nat) : Bool := (s.tokenKey? x.1).any fun k =>
    Config.mldsaVerify k ctxToken (t.take (24 + b)) (slice t (24 + b + 3309 * x.2) 3309)
  leNat (slice t 0 2) == 0x4C54 && byteAt t 2 == 1 && slice t 8 8 == serialBytes
    && t.length == 24 + b + 3309 * signers.length && signers.zipIdx.all one

/-- A refused token (R441). -/
def tokenRefuse (s : State) : State := s.flagRaise Reg.SEC_FLAGS_TOKEN_REFUSED Ev.SEC_LC

/-- Blow a life-cycle byte; a loss of supply may cut the blow after some of its bits (R446). -/
def lcbBlow (s : State) (n : Nat) (cut : Option Nat) : State :=
  s.setOtp fun o => { o with lcb := setNth o.lcb (n - 1) (nth o.lcb (n - 1) 0 ||| (2 ^ Nat.min 8 (cut.getD 8) - 1)) }

/-- A life-cycle transition takes effect (R439, R443, R445, R447). -/
def lcEnter (s : State) (lc : Nat) : State :=
  let s := { s with sec := { s.sec with lc := lc } }
  (((s.secShow).endSessions).debugSet (debugDefault lc)).raise Ev.SEC_LC

/-- The transition that a KIND 1 token asks for, where its signers and body satisfy R443: what is blown and stored before the
life-cycle byte. -/
def transition? (s : State) (t : List Byte) : Option State :=
  let lc := s.sec.lc
  let dst := byteAt t 5
  let body := slice t 24 (leNat (slice t 6 2))
  let root := hasBit (byteAt t 20) 0
  let owner := fieldOf (byteAt t 20) 1 4 != 0
  let field := lc = lcOwned || lc = lcField
  if lc = lcMaker && dst = lcProvisioned then
    let c := s.certBody (wordAt body 0)
    if root && body.length = 3313 && s.sec.rootOk && Config.mldsaVerify Config.rootKey ctxCert c (body.drop 4) then
      some { s with nv := { s.nv with cert := c ++ body.drop 4 } }
    else none
  else if lc = lcProvisioned && dst = lcOwned then
    let k := body.length / 1952
    if root && body.length = 1952 * k && 1 ≤ k && k ≤ 4 then
      let key (i : Nat) := slice body (1952 * i) 1952
      let s := s.setOtp fun o => { o with
        ownerValid := o.ownerValid ||| (2 ^ k - 1),
        ownerHash := (List.range 4).map fun i => if i < k then Config.shake256 (key i) 32 else nth o.ownerHash i 0 }
      some { s with nv := { s.nv with ownerKeys := (List.range 4).map fun i => if i < k then key i else [] } }
    else none
  else if lc = lcOwned && dst = lcField then (if owner then some s else none)
  else if dst = lcRma && (lc = lcProvisioned || field) then (if root && (owner || lc = lcProvisioned) then some s else none)
  else if dst = lcScrapped && lc != lcScrapped then (if root || (field && owner) then some s.rmaErase else none)
  else none

/-- A revocation (R443): a different owner signs, and an owner slot stays valid and unrevoked. -/
def revoke? (s : State) (t : List Byte) : Option State :=
  let n := byteAt t 4
  let o := s.nv.otp
  let left := andNot 4 o.ownerValid (setBit o.ownerRevoked n)
  let others := fieldOf (byteAt t 20) 1 4
  if (s.sec.lc = lcOwned || s.sec.lc = lcField) && n < 4 && clearBit others n != 0 && left != 0 then
    let s := (s.setOtp fun o => { o with ownerRevoked := setBit o.ownerRevoked n }).secShow
    some (s.raise Ev.SEC_LC)
  else none

/-- A complete token of LC_TOKEN (R442 to R446): none where it is refused; `cut` is where the supply was lost. -/
def lcToken? (s : State) (t : List Byte) (cut : Option Nat) : Option State :=
  if !s.tokenSigned t then none
  else if byteAt t 3 = 1 then
    if byteAt t 4 != s.sec.lc then none
    else
      match s.transition? t with
      | none => none
      | some s =>
        let dst := byteAt t 5
        let s := s.lcbBlow dst cut
        if cut.isSome then some s.secShow
        else some ((s.when (dst == lcRma) rmaErase).lcEnter dst)
  else if byteAt t 3 = 3 then s.revoke? t
  else none

/-- A complete token of DEBUG_TOKEN (R445): the mask that opens, where the state and the signers allow it. -/
def debugToken? (s : State) (t : List Byte) : Option State :=
  let lc := s.sec.lc
  let m := byteAt t 5
  let root := hasBit (byteAt t 20) 0
  let owner := fieldOf (byteAt t 20) 1 4 != 0
  let allowed := if lc = lcProvisioned && root then 7 else if lc = lcOwned && owner then 3
    else if lc = lcField && root && owner then 3 else debugDefault lc
  if byteAt t 3 = 2 && byteAt t 4 = lc && wordAt t 16 = s.nv.bootCount && s.tokenSigned t && andNot 8 m allowed = 0
      && lc != lcScrapped then
    some (s.debugSet (s.rd Reg.SEC_DEBUG_OPEN ||| m))
  else none

/-! ### Attestation (R440) -/

/-- A check value of a record in force; 0 when there is none. -/
def recordCrc (r : List Byte) : Nat := if r.isEmpty then 0 else crc crc32c r

/-- Bytes 0 to 367 of the report. -/
def attestBody (s : State) (nonce : List Byte) : List Byte :=
  let o := s.nv.otp
  let flags := s.rd Reg.SEC_DEBUG_SINCE_POR + 8 * b2n (o.lcb.any lcbTorn) + 16 * s.rd Reg.SEC_SLOT_FALLBACK + 256 * o.ownerValid
    + 4096 * o.ownerRevoked
  let one (t : Nat) : List Byte := match nth s.sec.loaded t none with
    | some i => leBytes 4 i.version ++ leBytes 2 i.rollback ++ leBytes 2 0 ++ leBytes 64 i.measurement
    | none => leBytes 72 0
  let time := if s.on Reg.UMB_STATUS_TIME_UNKNOWN then 0xFFFFFFFF else s.rd Reg.UMB_SECONDS_SEC
  leBytes 2 0x4154 ++ [1] ++ leBytes 1 s.sec.lc ++ serialBytes ++ leBytes 4 s.nv.bootCount ++ leBytes 4 time
    ++ leBytes 4 flags ++ nonce.take 32 ++ (List.range 4).flatMap (fun t => leBytes 1 (nth o.rb t 0))
    ++ leBytes 4 (s.rd Reg.SEC_SLOT_RUNNING + 16 * s.rd Reg.SEC_SLOT_LOADED) ++ (List.range 4).flatMap one
    ++ leBytes 4 (s.rd Reg.ME_CAL_CRC_CRC) ++ leBytes 4 (if s.safety.spr.isEmpty then 0 else s.rd Reg.SPR_CHECK_CRC)
    ++ leBytes 4 (recordCrc s.tpp.bdr) ++ leBytes 4 (recordCrc s.tpp.gpr)

/-- The report: signed, but for `RMA` and `SCRAPPED`, where the identity key no longer exists. -/
def attest (s : State) (nonce : List Byte) : List Byte :=
  let b := s.attestBody nonce
  b ++ (if s.sec.lc = lcRma || s.sec.lc = lcScrapped then List.replicate 3309 0 else s.identitySign ctxAttest b)

end State

/-- IMAGE_TRIAL_PROMOTE (R433, R434): `blown` is the number of counter bits blown where the supply is lost meanwhile. -/
def execImageTrialPromote (t : Nat) (blown : Option Nat) (s : State) : Out := .next (if t < 4 then s.trialPromote t blown else s)

/-- TRNG_HEALTH_FAIL (R425, R446): a handshake whose key is being drawn is discarded with the KEY_OFFER that it refuses. -/
def execTrngHealthFail (s : State) : Out :=
  .next (((s.wr Reg.SEC_TRNG_HEALTH_OK 0).wr Reg.SEC_TRNG_FAIL 1).raise Ev.SEC_SESSION)

/-- TOKEN_STAGING_TIMEOUT (R441). -/
def execTokenStagingTimeout (s : State) : Out := .next s.tokenTimeout

end Sys2Proof.Machine
end

