-- ==== Sys2Proof/Machine/Records.lean ====
section
/-! DEFINITION. Machine/Records.lean: the frame of the BDR and the GPR, their application, and what MC does after a reset of a
region: images, metering and records come back (R411 to R416, R492, R493). -/

namespace Sys2Proof.Machine

/-! ### The frame (R415) -/

/-- A refusal of a record: the byte offset of the first error and the index of the failing register entry, 0xFFFF_FFFF for none
(R414). -/
structure RecErr where
  off : Nat
  idx : Nat
  deriving DecidableEq, Repr

/-- No offset, no index. -/
abbrev noErr : Nat := 0xFFFFFFFF

/-- A section: its TYPE, the byte offset of its first word, and the words after that one. -/
structure RecSection where
  ty : Nat
  pos : Nat
  words : List Nat
  deriving DecidableEq, Repr

/-- A parsed record, or its refusal. -/
inductive RecParse (α : Type) where
  | bad (e : RecErr)
  | good (a : α)
  deriving DecidableEq, Repr

/-- A refusal at a byte offset, of no register entry. -/
def RecParse.at_ {α : Type} (o : Nat) : RecParse α := .bad ⟨o, noErr⟩

/-- `n` sections from byte offset `pos`, with one word left after them; `types` are those of the record, `seen` those found. -/
def recSections (types : List Nat) : Nat → Nat → List Nat → List Nat → RecParse (List RecSection)
  | 0, pos, ws, _ => if ws.length = 1 then .good [] else .at_ pos
  | n + 1, pos, ws, seen =>
    let w := nth ws 0 0
    let ty := fieldOf w 0 16
    let len := fieldOf w 16 16
    if !types.contains ty || seen.contains ty || len = 0 || ws.length ≤ len then .at_ pos
    else
      match recSections types n (pos + 4 * len) (ws.drop len) (ty :: seen) with
      | .good l => .good (⟨ty, pos, (ws.take len).drop 1⟩ :: l)
      | .bad e => .bad e

/-- A record of a MAGIC with its sections, every mandatory one among them. -/
def recFrame (magic : Nat) (types mandatory : List Nat) (bs : List Byte) : RecParse (List RecSection) :=
  let ws := wordsOf bs
  if bs.length % 4 != 0 || bs.length < 20 || fieldOf (nth ws 0 0) 0 16 != magic || fieldOf (nth ws 0 0) 16 8 != 1 then .at_ 0
  else if nth ws 1 0 != bs.length then .at_ 4
  else
    match recSections types (fieldOf (nth ws 3 0) 0 8) 16 (ws.drop 4) [] with
    | .bad e => .bad e
    | .good secs =>
      if mandatory.any (fun t => !secs.any (fun x => x.ty == t)) then .at_ 12
      else if crc crc32c (bs.take (bs.length - 4)) != wordAt bs (bs.length - 4) then .at_ (bs.length - 4)
      else .good secs

/-- The section of a TYPE. -/
def recFind (secs : List RecSection) (t : Nat) : Option RecSection := secs.find? fun x => x.ty == t

/-- A register entry: address, value, mask (R49). -/
abbrev RegEntry : Type := Nat × Nat × Nat

/-- The register entries of a section's words. -/
def regEntries : List Nat → List RegEntry
  | a :: v :: m :: r => (a, v, m) :: regEntries r
  | _ => []

/-! ### Register entries (R416) -/

/-- The fields of the crossings block that a BDR may write. -/
def bdrCrossFields : List Fld :=
  [Reg.CROSS_CTRL_FATAL_EN, Reg.CP_CTRL_STANDBY_EN, Reg.CP_CTRL_FATAL_EN, Reg.CP_CTRL_AUTO_REJOIN, Reg.CP_CTRL_REJOIN_MAX]

/-- A register of the crossings block that a BDR may write whole: SHM_OWNER, TAP_SELn, CP_MIRROR, CP_SWEEP. -/
def bdrCrossReg (a : Nat) : Bool :=
  a == Reg.SHM_OWNER_OWNER_0.addr || a == Reg.CP_MIRROR_BASE.addr || a == Reg.CP_SWEEP_EN.addr
    || (List.range 16).any fun n => a == (Reg.TAP_SEL_SRC n).addr

/-- An address that an entry of a BDR, or of a GPR, may name. -/
def entryRange (gpr : Bool) (a m : Nat) : Bool :=
  if gpr then (decide (0x40080000 ≤ a) && decide (a ≤ 0x400800FF)) || (a == 0x40008000 && !hasBit m 0)
  else
    let p := a / 0x10000
    (decide (0x4000 ≤ p) && decide (p ≤ 0x4009)) || p == 0x400B || p == 0x400D || p == 0x400C

/-- A field that a mask selects may be written by an entry. -/
def entryField (s : State) (a m : Nat) (r : FieldRow) : Bool :=
  !r.fld.sel m
    || ((match r.acc with
          | .rw | .rw1 => true
          | .rwl => s.sec.lc == lcMaker
          | .ro | .w1c | .wo => false)
        && (a / 0x10000 != 0x400C || bdrCrossReg a || bdrCrossFields.contains r.fld))

/-- An entry is accepted; the active operation table and the active images hold no RW field. -/
def entryOk (s : State) (gpr : Bool) (e : RegEntry) : Bool :=
  let (a, _, m) := e
  a % 4 == 0 && entryRange gpr a m && !State.slotActAt a && !State.imgActAt a && ((regFields? a).getD []).all (entryField s a m)

/-- The first entry that is not accepted. -/
def firstBad (s : State) (gpr : Bool) (es : List RegEntry) : Option Nat := es.findIdx? fun e => !entryOk s gpr e

/-- The register section of a record: its entries, where their number is whole and each is accepted. -/
def entriesParse (s : State) (gpr : Bool) (x : RecSection) : RecParse (List RegEntry) :=
  if x.words.length % 3 != 0 then .at_ x.pos
  else
    let es := regEntries x.words
    match firstBad s gpr es with
    | some i => .bad ⟨x.pos + 4 + 12 * i, i⟩
    | none => .good es

/-! ### The two records (R415) -/

/-- A BDR that has been checked: pair B is to stand by; the register entries and the byte offset of the first. -/
structure Bdr where
  standby : Bool
  entries : List RegEntry
  pos : Nat
  deriving DecidableEq, Repr

/-- The checks of a BDR. -/
def bdrParse (s : State) (bs : List Byte) : RecParse Bdr :=
  match recFrame 0x4244 [1, 2] [1, 2] bs with
  | .bad e => .bad e
  | .good secs =>
    match recFind secs 1, recFind secs 2 with
    | some t, some r =>
      let serial := nth t.words 0 0 + 2 ^ 32 * nth t.words 1 0
      if t.words.length != 3 then .at_ t.pos
      else if serial != 0 && leBytes 8 serial != serialBytes then .at_ (t.pos + 4)
      else
        match entriesParse s false r with
        | .bad e => .bad e
        | .good es => .good ⟨hasBit (nth t.words 2 0) 0, es, r.pos + 4⟩
    | _, _ => .at_ 12

/-- A GPR that has been checked: its profile image, its register entries, its CONNECT section, the profile's byte offset. -/
structure Gpr where
  profile : List Nat
  entries : List RegEntry
  connect : ConnectCfg
  pos : Nat
  deriving DecidableEq, Repr

/-- The CONNECT section. -/
def connectOf (w : List Nat) : ConnectCfg :=
  ⟨nth w 0 0, nth w 1 0, nth w 2 0, nth w 3 0, nth w 4 0, nth w 5 0, hasBit (nth w 6 0) 0⟩

/-- The checks of a GPR. -/
def gprParse (s : State) (bs : List Byte) : RecParse Gpr :=
  match recFrame 0x4752 [0x10, 0x11, 0x12] [0x10, 0x12] bs with
  | .bad e => .bad e
  | .good secs =>
    match recFind secs 0x10, recFind secs 0x12 with
    | some p, some c =>
      let cfg := connectOf c.words
      if p.words.length != 128 then .at_ p.pos
      else if c.words.length != 7 then .at_ c.pos
      else if cfg.holdMs < 100 || 900000 < cfg.holdMs then .at_ (c.pos + 20)
      else if 3600 < cfg.timeoutS then .at_ (c.pos + 24)
      else
        match (match recFind secs 0x11 with
          | none => RecParse.good []
          | some r => entriesParse s true r) with
        | .bad e => .bad e
        | .good es => .good ⟨p.words, es, cfg, p.pos⟩
    | _, _ => .at_ 12

namespace State

/-- Any word of the register map as it reads, the banks of Orbit and the loop engines among them (R93, R169). -/
def readWord (s : State) (a : Nat) : Nat :=
  let o := a % 0x10000
  let e := o / 0x8000
  let p := o % 0x8000
  if a / 0x10000 = 0x4000 && 0x1000 ≤ o && o < 0x2000 then bankWord s.inactiveBank ((o - 0x1000) / 4)
  else if a / 0x10000 = 0x4000 && 0x2000 ≤ o && o < 0x3000 then bankWord s.activeBank ((o - 0x2000) / 4)
  else if a / 0x10000 = 0x4005 && 0x2000 ≤ p && p < 0x4000 then bankWord (s.leInactive e) ((p - 0x2000) / 4)
  else if a / 0x10000 = 0x4005 && 0x4000 ≤ p && p < 0x6000 then bankWord (s.leActive e) ((p - 0x4000) / 4)
  else s.regWord a

/-- The bits that the fields of a register occupy; every bit of a bank word. -/
def fieldBits (a : Nat) : Nat :=
  match regFields? a with
  | some fs => fs.foldl (fun w r => w ||| r.fld.mask) 0
  | none => 2 ^ 32 - 1

/-! ### Application (R412, R416) -/

/-- Both pairs are released where R134 permits. -/
def pairsRelease (s : State) : State := (s.pairDisable .a).pairDisable .b

/-- The entries in order, each read back; the index of the first whose masked fields differ. -/
def bdrEntries : List RegEntry → Nat → State → Option Nat × State
  | [], _, s => (none, s)
  | (a, v, m) :: r, i, s =>
    let s := s.regWrite .mc a v m
    let bits := fieldBits a &&& m
    if s.readWord a &&& bits = v &&& bits then bdrEntries r (i + 1) s else (some i, s)

/-- What an application of a BDR comes to: refused before anything is touched, waiting for the pairs, refused by a read-back
(steps 1 to 3 done), or applied. -/
inductive BdrRun where
  | refused (e : RecErr)
  | waits (s : State)
  | failed (e : RecErr) (s : State)
  | applied (s : State)
  deriving DecidableEq, Repr

/-- R412, steps 1 to 4. -/
def bdrRun (s : State) (bs : List Byte) : BdrRun :=
  match bdrParse s bs with
  | .bad e => .refused e
  | .good b =>
    let s := (s.pwmSafe .soft).pairsRelease
    if s.cpRun then .waits s
    else
      match bdrEntries b.entries 0 s with
      | (some i, s) => .failed ⟨b.pos + 12 * i, i⟩ s
      | (none, s) =>
        let s := s.pairEnableCmd .a
        let s := s.when b.standby (fun s => s.pairEnableCmd .b)
        .applied { s with tpp := { s.tpp with bdr := bs } }

/-- The buffer of MC for a profile load: the last 512 bytes of the highest partition of the shared SRAM that MR owns.
DEDUCED (notes/assumptions 53). -/
def profileBuffer (s : State) : Option Nat :=
  ((List.range 8).reverse.find? fun p => s.shmOwner p == 0).map fun p => p * 0x10000 + 0xFE00

/-- An entry that MC writes: through the mailbox while a pair is active, else directly (R46, R417). -/
def mcWrite (s : State) (e : RegEntry) : State :=
  if s.cpRun then s.mcSubmit ⟨1, e.1, e.2.1, e.2.2⟩ else s.regWrite .mc e.1 e.2.1 e.2.2

/-- The application of a GPR (R415, R416): its entries, then the load of its profile, so that the entries have applied when the
profile switches. -/
def gprRun (s : State) (bs : List Byte) : RecParse State :=
  match gprParse s bs with
  | .bad e => .bad e
  | .good g =>
    match s.profileBuffer with
    | none => .at_ g.pos
    | some o =>
      let s := s.forEach g.entries mcWrite
      let s := { s with sram := memWrite s.sram o (bytesOf g.profile) }
      let s := s.mcSubmit ⟨3 + 2 ^ 16 * 4, shmBase + o, 512, crc32cWords g.profile⟩
      .good { s with tpp := { s.tpp with gprPending := some bs } }

/-- The profile of the GPR has switched (R411, R416): the GPR is in force and active. -/
def gprSwitched (s : State) : State :=
  match s.tpp.gprPending with
  | none => s
  | some bs =>
    let cfg := match gprParse s bs with
      | .good g => g.connect
      | .bad _ => s.tpp.connectNext
    (({ s with tpp := { s.tpp with gpr := bs, gprPending := none, gprActive := true, connectNext := cfg } } : State).operSettle).autoReconnect

/-- The operating state after BDR application or a reset (R411, R412): the channel may hold the module in another state. -/
def operAfter (s : State) (described : Bool) : State :=
  let s := { s with oper := if !described then .awaitDescription
                            else if s.safeState = safePending then .commissioning else .described }
  if s.safeState = safeLatched then s.faultHold
  else if s.sf2Active then s.sf2FaultHold
  else s.operSettle

/-- The stored records are applied again (R412, R493): whether a stored BDR was; no record is in force before. -/
def reapply (s : State) : Bool × State :=
  let s := { s with tpp := { s.tpp with bdr := [], gpr := [], gprPending := none, gprActive := false } }
  match s.bdrRun s.nv.bdr with
  | .applied s =>
    match s.gprRun s.nv.gpr with
    | .good s => (true, s)
    | .bad _ => (true, s)
  | .refused _ => (false, s)
  | .waits s => (false, s)
  | .failed _ s => (false, s)

/-! ### Metering, safety island (R332, R336, R377, R492) -/

/-- Before a reset of DR, MC has a checkpoint latched and stores it (R492). -/
def meteringSave (s : State) : State := if s.meState = meOff then s else (s.meCheckpoint 2).meCkptStore

/-- MC restores the newest valid image (R332) and the calibration (R336). -/
def meteringRestore (s : State) : State :=
  let s := s.meCalRestore
  match s.nv.ckpt.find? meImageOk with
  | some ws => (s.forEach (ws.zipIdx) (fun s (w, k) => s.wr (Reg.ME_RESTORE_WORD k) w)).meRestore
  | none => s

/-- SC starts (R377, R436): a confirmed record in the store that passes R389 takes the channel from NOSPR to OPEN. -/
def scStart (s : State) : State :=
  if (nth s.sec.loaded 3 none).isSome && sprOk s.nv.spr then
    let s := (s.sprInstall s.nv.spr).setSafety fun k => { k with confirmed := true }
    (((s.setSafeState safeOpen).pduStart).raise Ev.SAFE_SPR).safeView
  else s

/-! ### SOFTRST (R492, R493) -/

/-- The entries of the stored records that lie in the data region are written again after a reset of DR alone. -/
def reapplyDr (s : State) : State :=
  let dr (es : List RegEntry) : List RegEntry := es.filter fun e => windowOf e.1 == .data
  let s := match bdrParse s s.nv.bdr with
    | .good b => s.forEach (dr b.entries) mcWrite
    | .bad _ => s
  match gprParse s s.nv.gpr with
  | .good g => s.forEach (dr g.entries) mcWrite
  | .bad _ => s

/-- The regions of a mask reset, and what MC restores at once: images, metering. -/
def regionsReset (s : State) (mask : Nat) : State :=
  let cr := hasBit mask 0
  let dr := hasBit mask 1
  let mr := hasBit mask 2
  let s := s.when dr meteringSave
  let s := s.when cr (fun s => (s.crReset.imageLoad 1).imageLoad 2)
  let s := s.when dr (fun s => s.drReset.meteringRestore)
  let s := s.forEach (bitsOf 3 mask) (fun s i => s.setB Reg.RST_CAUSE_CAUSE (4 + i))
  s.when mr mrReset

/-- `SOFTRST` of the regions in a mask: the records come back at once, or, after one of MR and in `BOOT`, at the end of boot. -/
def softReset (s : State) (mask : Nat) : State :=
  let s := s.regionsReset mask
  if hasBit mask 2 || s.oper = .boot then s
  else if hasBit mask 0 then
    let (ok, s) := s.reapply
    s.operAfter ok
  else s.when (hasBit mask 1) reapplyDr

/-- A refused read-back (R412): CR and DR reset, and the previous BDR applies again if there is one. -/
def bdrFallback (s : State) : State :=
  let prev := s.tpp.bdr
  let s := s.regionsReset 3
  let s := { s with tpp := { s.tpp with bdr := [], gpr := [] } }
  match s.bdrRun prev with
  | .applied s => s.operAfter true
  | .refused _ => s.operAfter false
  | .waits s => s.operAfter false
  | .failed _ s => s.operAfter false

/-- A write that was due to `RST_CMD` is carried out. -/
def rstCarry (s : State) : State :=
  match s.clk.rstDue with
  | some mask => State.softReset { s with clk := { s.clk with rstDue := none } } mask
  | none => s

end State

/-- REGISTER_WRITE (R7, R46, R51, R64, R93). -/
def execRegisterWrite (m : Master) (addr size value : Nat) (s : State) : Out := .next (s.busWrite m addr size value).rstCarry

/-- SOFTRST (R490, R492, R493): written by MC. -/
def execSoftrst (m : Master) (mask : Nat) (s : State) : Out :=
  .next (s.access m 0x400D0034 .mr (fun s => s.softReset mask))

/-- GS_PROFILE_SWITCH (R269, R416): a profile that waits for its switch, unless it stays deferred. -/
def execGsProfileSwitch (s : State) : Out :=
  .next (
    let t := s.profileSwitch
    if s.gs.profWait.isSome && t.gs.profWait.isNone then t.gprSwitched else t)

end Sys2Proof.Machine
end

