-- ==== Sys2Proof/Machine/Power.lean ====
section
/-! DEFINITION. Machine/Power.lean: the boot ROM and the end of boot (R422, R433 to R437, R444), the end of a power-state transition
(R487, R488), and the indicators (R500, R501). -/

namespace Sys2Proof.Machine

namespace State

/-! ### Boot (R422, R437) -/

/-- An external programmer has rewritten the flash while the QSPI lands stood at high impedance (R435): byte offset and bytes. -/
def flashExternal (s : State) (ext : List (Nat × List Byte)) : State :=
  let put (m : List Host.Cell) (e : Nat × List Byte) : List Host.Cell :=
    (e.2.zipIdx).foldl (fun m (b, i) => sparseSet m (e.1 + i) b 0xFF) m
  s.when s.clk.qspiHighZ (fun s => { s with nv := { s.nv with flash := ext.foldl put s.nv.flash } })

/-- Steps 1 of R437 and R444: the root key, the boot count, the life cycle, the destruction, counters left half blown; the TRNG's
first health tests have passed (R425). -/
def bootOtp (s : State) : State :=
  let lc := s.nv.otp.state
  let s := { s with sec := { s.sec with rootOk := Config.shake256 Config.rootKey 32 == Config.rootHash, lc := lc },
                    nv := { s.nv with bootCount := (s.nv.bootCount + 1) % 2 ^ 32 } }
  let s := s.wr Reg.SEC_TRNG_HEALTH_OK 1
  let s := s.when (lc == lcRma || lc == lcScrapped) rmaErase
  let s := s.forEach (List.range 4) (fun s t => s.rollbackAdvance t none)
  ((s.identityGenerate).secShow).debugSet (debugDefault lc)

/-- What a package reset needs beside the MC image (R437 steps 4 to 6): band tables (R480), metering, SC, pairs and engines. -/
def bootPackage (s : State) (edges : List Nat) : State :=
  let s := s.calStart 15 (fun p b => (nth edges (64 * p + 2 * b) 0, nth edges (64 * p + 2 * b + 1) 0))
  let s := (s.meteringRestore.imageLoad 3).scStart
  (s.imageLoad 1).imageLoad 2

/-- The boot ROM runs, and MC starts where its image verifies (R422, R435, R437). -/
def bootRom (s : State) (ext : List (Nat × List Byte)) (edges : List Nat) : State :=
  if !s.sec.romDue then s
  else
    let package := s.sec.package
    let s := s.flashExternal ext
    let s := s.when package (fun s =>
      { ((s.wr Reg.SUP_STATUS_VDD_OK 1).wr Reg.SUP_STATUS_VDDA_OK 1).wr Reg.SUP_STATUS_VDDIO_OK (b2n (!s.clk.hostHighZ)) with
        power := .run })
    let s := s.bootOtp.imageLoad 0
    let s := { s with sec := { s.sec with romDue := false, romRan := true } }
    if (nth s.sec.loaded 0 none).isNone then { s with clk := { s.clk with qspiHighZ := true } }
    else State.when { s with clk := { s.clk with qspiHighZ := false } } package (fun s => s.bootPackage edges)

/-- TPP becomes ready and `BOOT` is left (R411, R437). -/
def bootComplete (s : State) : State :=
  if s.oper = .boot && s.sec.romRan && (nth s.sec.loaded 0 none).isSome then
    let (ok, s) := s.reapply
    s.operAfter ok
  else s

/-! ### Power states (R487, R488, R493) -/

/-- A register that loses its value on entry to `WATCH`: those of the units that are powered down.
DEDUCED (notes/assumptions 52). -/
def watchDrops (named : List Nat) (k : Nat) : Bool :=
  let a := k / 32
  let p := a / 0x10000
  let sar (c : Nat) : Bool := !named.contains c
    && ((decide (0x40030100 + 0x40 * c ≤ a) && decide (a < 0x40030140 + 0x40 * c))
        || (List.range 3).any fun i => decide (0x40030400 + 0x400 * i + 0x40 * c ≤ a) && decide (a < 0x40030440 + 0x400 * i + 0x40 * c))
  p == 0x4002 || p == 0x4005 || p == 0x4007 || p == 0x4008 || p == 0x4009 || (p == 0x4000 && decide (0x40008000 ≤ a))
    || (p == 0x400C && decide (0x400C0800 ≤ a) && keyIn .cr k) || (p == 0x4003 && (List.range 8).any sar)

/-- The units that `WATCH` does not run are off (R487, R488). -/
def watchEnter (s : State) : State :=
  let named := [s.rd Reg.PWR_WATCH_SAR_A, s.rd Reg.PWR_WATCH_SAR_B]
  let s := s.forEach ((List.range 8).filter fun c => !named.contains c) (fun s c =>
    (((s.clrB Reg.SNS_CTRL_EN c).setSarState c 0)).setSar c {})
  let s := s.dropKeys (watchDrops named)
  let c := s.cross
  let s := { s with tcmA := [], tcmB := [], capture := [], pairs := {}, les := {}, drv := {}, gs := {}, pe := {}, ee := {}, cmt := {},
                    cross := { c with loadLe0 := .idle, loadLe1 := .idle, loadProfile := .idle, loadSweep := .idle },
                    tpp := { s.tpp with gprActive := false, gprPending := none },
                    safety := { s.safety with sf1 := clearBit (clearBit s.safety.sf1 0) 1 } }
  (s.clrB Reg.CLK_STATUS_LOCK 1).clrB Reg.CLK_STATUS_LOCK 2

/-- Everything but MC's memory and the Umbra region is off (R487, R488, R493). -/
def sleepEnter (s : State) : State :=
  let s := ((s.crReset).drReset).dropKeys (keyIn .si)
  ({ s with sram := [], scMem := [], safety := {} } : State).wr Reg.CLK_STATUS_LOCK 0

/-- A transition has completed in a power state (R488). -/
def powerReached (s : State) (t : PowerState) : State :=
  let s := { s with power := t, clk := { s.clk with target := none, reapplied := false } }
  ((s.wr Reg.PWR_STATE_STATE t.code).wr Reg.PWR_STATE_BUSY 0).raise Ev.PWR_STATE

/-- The return to `RUN`, with the PLLs locked: MC reapplies the records, from `SLEEP` after SC, the images and metering. -/
def wakeReapply (s : State) : State :=
  let s :=
    if s.power = .sleep then
      let s := ((((s.imageLoad 3).scStart).imageLoad 1).imageLoad 2).meteringRestore
      let (ok, s) := s.reapply
      s.operAfter ok
    else s.reapply.2
  { s with clk := { s.clk with reapplied := true } }

/-- The return to `RUN` (R488): it completes once a pair is ACTIVE, or at once where no BDR is in force. -/
def wakeStep (s : State) : State :=
  if s.pllMissing != 0 then s
  else
    let s := if s.clk.reapplied then s else s.wakeReapply
    if s.cpRun || s.tpp.bdr.isEmpty then s.powerReached .run else s

/-- A power-state transition ends (R488, R489): a wake source that came meanwhile starts the exit. -/
def transitionDone (s : State) : State :=
  match s.clk.target with
  | some .watch => wakeAgain (s.watchEnter.powerReached .watch)
  | some .sleep => wakeAgain (s.sleepEnter.powerReached .sleep)
  | some .run => s.wakeStep
  | _ => s
where
  wakeAgain (s : State) : State :=
    if s.clk.wakeWaits then State.powerStart { s with clk := { s.clk with wakeWaits := false } } .run else s

/-! ### Indicators (R500, R501) -/

/-- The patterns of R500. -/
inductive Pattern where
  | off | on | slow | fast | fastb | double | wink
  deriving DecidableEq, Repr

/-- A pattern lights a slot. -/
def Pattern.lit (p : Pattern) (slot : Nat) : Bool :=
  match p with
  | .off => false
  | .on => true
  | .slow => decide (slot < 8)
  | .fast => slot % 2 == 0
  | .fastb => slot % 2 == 1
  | .double => slot == 0 || slot == 2
  | .wink => slot == 0

/-- The patterns of IND0 and IND1: the first row of R501 whose condition holds; both released in `SLEEP` and `DARK`. -/
def indicatorRow (s : State) : Pattern × Pattern :=
  if s.power = .sleep || s.power = .dark then (.off, .off)
  else if s.oper = .boot && s.sec.romRan && (nth s.sec.loaded 0 none).isNone then (.off, .fast)
  else if s.oper = .boot || s.clk.sinceGood < 8 then (.on, .on)
  else if s.oper = .faultHold then (.off, if s.safeState = safeLatched then .on else .slow)
  else if s.power = .watch then (.wink, .wink)
  else
    match s.oper with
    | .commissioning => if s.on Reg.SAFE_STATE_CONFIRM_WIN then (.fast, .fastb) else (.double, .slow)
    | .awaitDescription => (.wink, .off)
    | .described => (.double, .off)
    | .standby => (.slow, .off)
    | .syncing => (.fast, .off)
    | .connected => (.on, if gsRiding s.gsState then .wink else .off)
    | .boot | .faultHold => (.off, .off)

/-- A slot begins (R500, R501). -/
def indicatorSlot (s : State) : State :=
  let (a, b) := s.indicatorRow
  let n := s.clk.slot
  { s with clk := { s.clk with ind0 := a.lit n, ind1 := b.lit n, slot := (n + 1) % 16, sinceGood := Nat.min 8 (s.clk.sinceGood + 1) } }

end State

/-- BOOT_ROM_RUN (R422, R433 to R437, R444): what an external programmer has written to the flash, and the measured edges of the
PLL bands, 64 for each PLL. -/
def execBootRomRun (ext : List (Nat × List Byte)) (edges : List Nat) (s : State) : Out := .next (s.bootRom ext edges)

/-- BOOT_COMPLETE (R411, R437). -/
def execBootComplete (s : State) : Out := .next s.bootComplete

/-- PWR_TRANSITION_DONE (R488). -/
def execPwrTransitionDone (s : State) : Out := .next s.transitionDone

/-- INDICATOR_SLOT (R500, R501). -/
def execIndicatorSlot (s : State) : Out := .next s.indicatorSlot

end Sys2Proof.Machine
end

