-- ==== Sys2Proof/Machine/Tpp.lean ====
section
/-! DEFINITION. Machine/Tpp.lean: the three ports of the Tilyen packet protocol: transfers, checks, replies, sessions (R398 to
R410, R419, R420). The opcodes stand in Machine/TppCommands.lean. -/

namespace Sys2Proof.Machine

/-! ### The opcode table (R417) -/

/-- The payload lengths that an opcode takes. -/
inductive LenRule where
  | exact (n : Nat)
  | range (lo hi step : Nat)
  deriving DecidableEq, Repr

/-- A length satisfies a rule. -/
def LenRule.ok : LenRule → Nat → Bool
  | .exact n, l => l == n
  | .range lo hi step, l => decide (lo ≤ l) && decide (l ≤ hi) && (l - lo) % step == 0

/-- A row of R417: opcode, payload, operating states, authentication, first version. -/
structure OpRow where
  opcode : Nat
  len : LenRule
  states : List OperState
  auth : Bool
  since : Nat
  deriving DecidableEq, Repr

abbrev opAll : List OperState := [.awaitDescription, .described, .commissioning, .standby, .syncing, .connected, .faultHold]
abbrev opADMSF : List OperState := [.awaitDescription, .described, .commissioning, .standby, .faultHold]
abbrev opDMSYCF : List OperState := [.described, .commissioning, .standby, .syncing, .connected, .faultHold]
abbrev opDMSF : List OperState := [.described, .commissioning, .standby, .faultHold]
abbrev opSYC : List OperState := [.standby, .syncing, .connected]
abbrev opDSC : List OperState := [.described, .standby, .connected]
abbrev recChunk : LenRule := .range 8 4096 4

/-- Groups 0x01nn to 0x04nn. -/
def opRows1 : List OpRow := [
  ⟨0x0100, .exact 4, opAll, false, 0x10⟩, ⟨0x0101, .exact 0, opAll, false, 0x10⟩,
  ⟨0x0102, .exact 32, opAll, false, 0x20⟩, ⟨0x0103, .exact 0, opAll, false, 0x20⟩,
  ⟨0x0104, .exact 1088, opAll, false, 0x20⟩, ⟨0x0105, .exact 3313, opAll, false, 0x20⟩,
  ⟨0x0200, recChunk, opADMSF, true, 0x10⟩, ⟨0x0201, .exact 12, opADMSF, true, 0x10⟩,
  ⟨0x0202, .exact 8, opAll, false, 0x10⟩,
  ⟨0x0300, recChunk, opDMSYCF, true, 0x10⟩, ⟨0x0301, .exact 12, opDMSYCF, true, 0x10⟩,
  ⟨0x0302, .exact 8, opAll, false, 0x10⟩,
  ⟨0x0400, .exact 0, opSYC, true, 0x10⟩, ⟨0x0401, .exact 0, opAll, false, 0x10⟩,
  ⟨0x0402, .exact 4, opSYC, true, 0x10⟩, ⟨0x0403, .exact 4, opSYC, true, 0x10⟩,
  ⟨0x0404, .exact 4, opSYC, true, 0x10⟩, ⟨0x0405, .exact 4, opDMSYCF, true, 0x10⟩,
  ⟨0x0406, .exact 0, opAll, false, 0x10⟩, ⟨0x0407, .exact 8, opSYC, true, 0x21⟩]

/-- Groups 0x05nn to 0x07nn. -/
def opRows2 : List OpRow := [
  ⟨0x0500, .exact 4, opAll, false, 0x10⟩, ⟨0x0501, .exact 0, opAll, false, 0x10⟩,
  ⟨0x0502, .exact 4, opAll, false, 0x10⟩, ⟨0x0503, .exact 0, opAll, false, 0x11⟩,
  ⟨0x0504, .exact 4, opAll, false, 0x10⟩, ⟨0x0505, .exact 8, opDMSF, true, 0x22⟩,
  ⟨0x0506, .exact 0, opDMSF, true, 0x22⟩,
  ⟨0x0600, recChunk, opADMSF, true, 0x10⟩, ⟨0x0601, .exact 12, opADMSF, true, 0x10⟩,
  ⟨0x0602, .exact 4, [.commissioning], false, 0x10⟩, ⟨0x0603, .exact 0, [.standby, .faultHold], true, 0x10⟩,
  ⟨0x0604, .exact 0, opAll, false, 0x10⟩, ⟨0x0605, .range 24 40 1, opAll, false, 0x22⟩,
  ⟨0x0606, .exact 0, opAll, false, 0x22⟩,
  ⟨0x0700, .range 12 4096 1, opADMSF, true, 0x20⟩, ⟨0x0701, .exact 8, opADMSF, true, 0x20⟩,
  ⟨0x0702, .exact 4, opADMSF, true, 0x20⟩, ⟨0x0703, .exact 32, opAll, false, 0x20⟩,
  ⟨0x0704, .exact 8, opAll, false, 0x20⟩,
  ⟨0x0705, .range 8 4096 1, [.awaitDescription, .described, .commissioning, .faultHold], false, 0x20⟩,
  ⟨0x0706, .range 8 4096 1, opAll, false, 0x20⟩]

/-- Groups 0x08nn to 0x0Cnn. -/
def opRows3 : List OpRow := [
  ⟨0x0800, .exact 4, opDMSF, true, 0x10⟩, ⟨0x0801, .exact 4, opAll, true, 0x10⟩,
  ⟨0x0802, .exact 0, [.faultHold], true, 0x10⟩, ⟨0x0803, .exact 8, opAll, true, 0x10⟩,
  ⟨0x0804, .exact 12, opDMSF, true, 0x11⟩,
  ⟨0x0900, .exact 4, opAll, false, 0x11⟩, ⟨0x0901, .exact 20, [.awaitDescription, .described, .faultHold], true, 0x11⟩,
  ⟨0x0902, .exact 4, opAll, true, 0x11⟩, ⟨0x0903, .range 16 4096 1, opAll, false, 0x20⟩,
  ⟨0x0A00, .exact 4, opAll, false, 0x10⟩, ⟨0x0A01, .exact 0, opAll, false, 0x10⟩,
  ⟨0x0A02, .exact 4, opAll, true, 0x10⟩, ⟨0x0A03, .exact 0, opAll, false, 0x10⟩,
  ⟨0x0A04, .exact 24, opAll, false, 0x11⟩,
  ⟨0x0B00, .exact 24, opDSC, true, 0x21⟩, ⟨0x0B01, .exact 20, opDSC, true, 0x21⟩,
  ⟨0x0B02, .exact 8, opAll, false, 0x21⟩, ⟨0x0B03, .exact 12, opDSC, true, 0x21⟩,
  ⟨0x0C00, .exact 4, opADMSF, true, 0x11⟩, ⟨0x0C01, .exact 0, opAll, false, 0x11⟩,
  ⟨0x0C02, .exact 4, opADMSF, true, 0x11⟩]

/-- The row of an opcode. -/
def opRow? (op : Nat) : Option OpRow := (opRows1 ++ opRows2 ++ opRows3).find? fun r => r.opcode == op

/-- The opcodes that the service profile allows, LC_TOKEN in `MAKER` and `RMA` only (R419). -/
def serviceOps : List Nat :=
  [0x0100, 0x0101, 0x0102, 0x0103, 0x0104, 0x0105, 0x0200, 0x0201, 0x0202, 0x0300, 0x0301, 0x0302, 0x0400, 0x0401, 0x0406, 0x0600,
   0x0601, 0x0602, 0x0603, 0x0604, 0x0500, 0x0504, 0x0503, 0x0703, 0x0704, 0x0800, 0x0801, 0x0802, 0x0900, 0x0A00, 0x0A01, 0x0A02,
   0x0A03]

/-- The port's profile has the opcode. -/
def portHas (p : Port) (lc op : Nat) : Bool :=
  match p with
  | .service => serviceOps.contains op || (op == 0x0705 && (lc == lcMaker || lc == lcRma))
  | .host | .tunnel _ => true

/-- An opcode is allowed in a life-cycle state (R410, R417). -/
def lcAllows (lc op : Nat) : Bool :=
  if lc = lcRma || lc = lcScrapped then
    op / 256 == 0x01 || op / 256 == 0x0A || op == 0x0406 || op == 0x0703 || op == 0x0704 || op == 0x0705
  else op != 0x0804 || lc != lcField

/-! ### Fields of a request (R398) -/

namespace Request

def ver (r : Request) : Nat := byteAt r.raw 1
def opcode (r : Request) : Nat := leNat (slice r.raw 2 2)
def seq (r : Request) : Nat := leNat (slice r.raw 4 2)
def len (r : Request) : Nat := leNat (slice r.raw 6 2)
def payload (r : Request) : List Byte := slice r.raw 8 r.len

/-- Word `i` of the payload. -/
def word (r : Request) (i : Nat) : Nat := wordAt r.payload (4 * i)

/-- Byte `i` of the payload. -/
def byte (r : Request) (i : Nat) : Nat := byteAt r.payload i

end Request

/-- The bytes of a request as its header declares them, in a session or outside one. -/
def declared (len : Nat) (auth : Bool) : Nat := 8 + len + (if auth then 16 else 0) + 4

/-- The payload that a version allows (R398, R407). -/
def payloadLimit (ver : Nat) : Nat := if ver = 0x10 then 1024 else 4096

/-- The CRC of a packet holds (R400). -/
def packetCrcOk (bs : List Byte) : Bool := crc crc32c (bs.take (bs.length - 4)) == wordAt bs (bs.length - 4)

/-- The tag that a request must carry (R400), customisation string "TPP-Q". -/
def requestTag (kMac : Nat) (r : Request) : List Byte :=
  leBytes 16 (Config.kmac256 kMac (r.raw.take (8 + r.len)) [0x54, 0x50, 0x50, 0x2D, 0x51] 16)

/-- The bytes of a reply or a notice (R399). -/
def Reply.bytes (r : Reply) : List Byte :=
  let b := State.replyHead r.ver r.opcode r.seq r.status r.payload ++ r.tag
  b ++ leBytes 4 (crc crc32c b)

namespace State

/-! ### Checks (R401) -/

/-- A failed check: its status, and whether it was check 6. -/
structure CheckFail where
  status : Nat
  auth : Bool := false
  deriving DecidableEq, Repr

/-- Check 6: the tag and the SEQ of an authenticated session, a session where the opcode needs one (R401, R410). -/
def authOk (s : State) (r : Request) (row : OpRow) : Bool :=
  let p := s.port r.port
  if p.auth then
    slice r.raw (8 + r.len) 16 == requestTag p.kMac r && r.seq == (p.lastSeq + 1) % 65536
  else !(row.auth && (s.sec.lc == lcOwned || s.sec.lc == lcField))

/-- Checks 2 to 9 of R401, in order, as they stand when MC takes the request. -/
def check? (s : State) (r : Request) : Option CheckFail :=
  let p := s.port r.port
  if r.raw.length != declared r.len p.auth then some ⟨0x0102, false⟩
  else if !packetCrcOk r.raw then some ⟨0x0101, false⟩
  else if payloadLimit p.ver < r.len || (opRow? r.opcode).any (fun row => !row.len.ok r.len) then some ⟨0x0102, false⟩
  else if (if r.opcode = 0x0100 then r.ver < 0x10 || 0x23 < r.ver else p.ver = 0 || r.ver != p.ver) then some ⟨0x0104, false⟩
  else
    match opRow? r.opcode with
    | none => some ⟨0x0103, false⟩
    | some row =>
      if (r.opcode != 0x0100 && p.ver < row.since) || !portHas r.port s.sec.lc r.opcode then some ⟨0x0103, false⟩
      else if !s.authOk r row then some ⟨0x0203, true⟩
      else if !lcAllows s.sec.lc r.opcode then some ⟨0x0202, false⟩
      else if r.opcode = 0x0400 && s.oper = .commissioning then some ⟨0x0401, false⟩
      else if !row.states.contains s.oper then some ⟨0x0201, false⟩
      else none

/-! ### Replies (R399, R402 to R404) -/

/-- TPP packets for a module leave on every peer link that carries TUNNEL packets, 2036 bytes each, the last one padded (R362). -/
def tunnelSend (s : State) (n : Nat) (bs : List Byte) : State :=
  let k := (bs.length + 2035) / 2036
  let words (i : Nat) : List Nat :=
    let d := (bs.drop (2036 * i)).take 2036
    (2036 * i + 65536 * b2n (i + 1 == k) + 2 ^ 24 * s.rd Reg.COMET_MODULE_NUM) :: wordsOf (d ++ List.replicate ((4 - d.length % 4) % 4) 0)
  let s := { s with tpp := { s.tpp with tunnelTx := (n, bs) :: s.tpp.tunnelTx.filter fun e => e.1 != n } }
  let up := (List.range 4).filter fun l => s.rd (Reg.LINK_CFG_ROLE l) != 0 && decide (0x11 ≤ s.rd (Reg.LINK_STATUS_VERSION l))
  s.forEach up (fun s l => s.forEach (List.range k) (fun s i => s.cmtQueue l ⟨7, 0x70, n, words i⟩))

/-- A reply leaves: to the host's queue, to the service UART while it is plugged, or by TUNNEL. -/
def sendReply (s : State) (p : Port) (r : Reply) : State :=
  match p with
  | .host =>
    let v := s.port .host
    s.setPort .host { v with replies := v.replies ++ [{ r with stamp := v.stamp }], stamp := v.stamp + 1 }
  | .service => if s.on Reg.UMB_STATUS_PLUG then { s with tpp := { s.tpp with svcTx := r.bytes } } else s
  | .tunnel n => s.tunnelSend n r.bytes

/-- A request is answered; a payload beyond what the version allows is answered out of range. -/
def answer (s : State) (r : Request) (status : Nat) (payload : List Byte) : State :=
  let p := s.port r.port
  let above := payloadLimit r.ver < payload.length
  let st := if above then 0x0301 else status
  let pl := if above then [] else payload
  s.sendReply r.port { ver := r.ver, opcode := r.opcode, seq := r.seq, status := st, payload := pl,
                       tag := replyTag p r.ver r.opcode r.seq st pl, stamp := 0 }

/-- A request that failed a check is answered; the third in a row that fails check 6 ends the session (R409). -/
def answerBad (s : State) (r : Request) (f : CheckFail) : State :=
  let s := s.answer r f.status []
  let v := s.port r.port
  if f.auth then
    let s := s.setPort r.port { v with authFails := satInc 3 v.authFails }
    if 2 ≤ v.authFails then s.endSession r.port else s
  else s

/-- MC executes a command that takes its time, and no other meanwhile (R402). -/
def tppBusy (s : State) : Bool := !s.tpp.tunnelWait.isEmpty || s.tpp.linkTest.isSome

/-- The request at the head is taken off the queue. -/
def dropHead (s : State) : State := { s with tpp := { s.tpp with queue := s.tpp.queue.drop 1 } }

/-- MC takes requests at the head as long as they fail a check: each is answered (R401, R402). -/
def pump : Nat → State → State
  | 0, s => s
  | n + 1, s =>
    if s.tppBusy then s
    else
      match s.tpp.queue with
      | [] => s
      | r :: _ =>
        match s.check? r with
        | some f => pump n (s.dropHead.answerBad r f)
        | none => s

/-- After a command: MC takes what it can. -/
def pumpAll (s : State) : State := pump s.tpp.queue.length s

/-! ### Reception (R402 to R405, R419, R420) -/

/-- Commands of a port that MC has not answered yet. -/
def outstanding (s : State) (p : Port) : List Request :=
  s.tpp.queue.filter (fun r => r.port == p) ++ (s.tpp.tunnelWait.map TunnelWait.req).filter (fun r => r.port == p)
    ++ (s.tpp.linkTest.toList.map LinkTestWait.req).filter (fun r => r.port == p)

/-- How many commands a port may have outstanding, the host port its slots apart (R404, R419, R420). -/
def portLimit : Port → Nat
  | .host => 8
  | .service => 1
  | .tunnel _ => 2

/-- A request arrives on a port: at least a header that begins with SYNC (R401 check 1). -/
def arrive (s : State) (p : Port) (raw : List Byte) : State :=
  if raw.length < 8 || byteAt raw 0 != 0xA5 then s
  else
    let r : Request := ⟨p, raw, false⟩
    let out := s.outstanding p
    let dup := !(s.port p).auth && out.any (fun o => o.seq == r.seq)
    let busy := dup || (r.opcode == 0x0100 && !out.isEmpty) || decide (portLimit p ≤ out.length)
    pumpAll { s with tpp := { s.tpp with queue := s.tpp.queue ++ [{ r with busy := busy }] } }

/-- The command slots that the host has occupied (R404). -/
def slotsUsed (s : State) : Nat := (s.outstanding .host).length + s.tpp.host.replies.length

/-- STAT (R403). -/
def spiStat (s : State) : Nat :=
  (8 - s.slotsUsed) + 16 * b2n (!s.tpp.host.replies.isEmpty || !s.tpp.host.notices.isEmpty) + 32 * b2n s.tpp.host.auth

/-- ATTN_N is driven low (R405). -/
def attnLow (s : State) : Bool := s.oper != .boot && (!s.tpp.host.replies.isEmpty || !s.tpp.host.notices.isEmpty)

/-- The host port takes transfers: TPP is ready, and the lands of the HOST bank have their supply (R405, R485). -/
def hostReady (s : State) : Bool := s.oper != .boot && s.power != .sleep && s.power != .dark && !s.clk.hostHighZ

/-- A falling SPI_CS_N or SVC_RXD wakes the module where that source is enabled; a transfer that wakes is discarded (R489). -/
def wakes (s : State) (b : Nat) : Bool :=
  s.clk.target.isNone && (s.power == .watch || s.power == .sleep) && hasBit (s.rd Reg.PWR_WAKE_EN) b

/-- What the last transfer shifted out on MISO: STAT, then `bs`. -/
def setMiso (s : State) (stat : Nat) (bs : List Byte) : State :=
  { s with tpp := { s.tpp with miso := BitVec.ofNat 8 stat :: bs } }

/-- A WRITE transfer of the bytes after its code (R403, R404). -/
def spiWrite (s : State) (bs : List Byte) : State :=
  let zeros := List.replicate bs.length (0 : Byte)
  if s.wakes 0 then (s.setMiso 0 zeros).wakeSource 0
  else if !s.hostReady then s.setMiso 0 zeros
  else
    let full := 8 ≤ s.slotsUsed
    let s := s.setMiso s.spiStat zeros
    if full then { s with tpp := { s.tpp with overflow := satInc max16 s.tpp.overflow } } else s.arrive .host bs

/-- The oldest waiting reply or notice of the host port, and whether it is a notice (R403). -/
def hostHead (s : State) : Option (Reply × Bool) :=
  match s.tpp.host.replies, s.tpp.host.notices with
  | [], [] => none
  | r :: _, [] => some (r, false)
  | [], n :: _ => some (n, true)
  | r :: _, n :: _ => if r.stamp < n.stamp then some (r, false) else some (n, true)

/-- A READ transfer of `n` bytes after STAT (R403, R404): a reply read in full leaves the queue. -/
def spiRead (s : State) (n : Nat) : State :=
  let zeros := List.replicate n (0 : Byte)
  if s.wakes 0 then (s.setMiso 0 zeros).wakeSource 0
  else if !s.hostReady then s.setMiso 0 zeros
  else
    match s.hostHead with
    | none => s.setMiso s.spiStat zeros
    | some (r, notice) =>
      let bs := r.bytes
      let s := s.setMiso s.spiStat ((bs ++ zeros).take n)
      if n < bs.length then s
      else
        let v := s.port .host
        s.setPort .host (if notice then { v with notices := v.notices.drop 1 } else { v with replies := v.replies.drop 1 })

/-- The service receiver scans what it holds for packets (R419): a packet that fails check 1 or 2 loses its first byte only. -/
def svcScan : Nat → State → State
  | 0, s => s
  | n + 1, s =>
    match s.tpp.svcRx with
    | [] => s
    | b :: bs =>
      let drop (s : State) (bs : List Byte) : State := { s with tpp := { s.tpp with svcRx := bs } }
      if b != 0xA5 then svcScan n (drop s bs)
      else
        let all := b :: bs
        let total := declared (leNat (slice all 6 2)) (s.port .service).auth
        if all.length < 8 || all.length < total then s
        else
          let p := all.take total
          if packetCrcOk p then svcScan n ((drop s (all.drop total)).arrive .service p)
          else svcScan n ((drop s bs).arrive .service p)

/-- A byte arrives on the service UART (R419, R489). -/
def svcByte (s : State) (b : Byte) : State :=
  if !s.on Reg.UMB_STATUS_PLUG then s
  else
    let s := if s.wakes 1 then s.wakeSource 1 else s
    if s.oper = .boot || s.power = .sleep || s.power = .dark then s
    else
      let s := { s with tpp := { s.tpp with svcRx := s.tpp.svcRx ++ [b] } }
      svcScan s.tpp.svcRx.length s

/-- A reply to a TUNNEL request of this module's own has come back from module `n` (R420). -/
def tunnelReply (s : State) (n : Nat) (bs : List Byte) : State :=
  match s.tpp.tunnelWait with
  | w :: r =>
    if w.target = n then (State.answer { s with tpp := { s.tpp with tunnelWait := r } } w.req 0 bs).pumpAll else s
  | [] => s

/-- A TUNNEL packet arrives (R362, R420): a complete request goes to the port of its module, a complete reply to the request that
waits for it. Padding is dropped. -/
def tunnelIn (s : State) (l addr w0 : Nat) (bytes : List Byte) : State :=
  match s.tunnelTake l addr w0 bytes with
  | (none, s) => s
  | (some (n, all), s) =>
    if s.oper = .boot then s
    else if byteAt all 0 = 0x5A then
      let core := 10 + leNat (slice all 8 2)
      let len := if all.length < core + 20 then core + 4 else core + 20
      s.tunnelReply n (all.take len)
    else s.arrive (.tunnel n) (all.take (declared (leNat (slice all 6 2)) (s.port (.tunnel n)).auth))

/-- The target of a TUNNEL request has not answered within 100 ms (R420). -/
def tunnelTimeout (s : State) : State :=
  match s.tpp.tunnelWait with
  | w :: r => (State.answer { s with tpp := { s.tpp with tunnelWait := r } } w.req 0x0302 []).pumpAll
  | [] => s

/-! ### Execution of the request at the head (R401, R402) -/

/-- What an opcode does: it answers, it has taken the request and answers later, or it cannot be carried out yet and stays. -/
inductive OpRes where
  | reply (status : Nat) (payload : List Byte) (s : State)
  | later (s : State)
  | hold (s : State)

/-- The request is accepted: its SEQ counts, and the failures of check 6 before it do not (R401, R409). -/
def accept (s : State) (r : Request) : State :=
  let v := s.port r.port
  s.setPort r.port { v with lastSeq := if v.auth then r.seq else v.lastSeq, authFails := 0 }

/-- A request that cannot be carried out yet waits at the head, and is checked again with the SEQ before it. -/
def putBack (s : State) (r : Request) (seq : Nat) : State :=
  let s := s.setPort r.port { s.port r.port with lastSeq := seq }
  { s with tpp := { s.tpp with queue := r :: s.tpp.queue } }

/-- MC executes the request at the head where it carries an opcode: the checks first, check 11's port rule after check 10.
DESIGN CHOICE: the head of the queue (notes/assumptions 57). -/
def runOp (s : State) (op : Nat) (f : Request → State → OpRes) : State :=
  match s.tpp.queue with
  | [] => s
  | r :: _ =>
    if s.tppBusy || r.opcode != op || s.oper = .boot then s
    else
      match s.check? r with
      | some e => (s.dropHead.answerBad r e).pumpAll
      | none =>
        let t := s.dropHead.accept r
        match f r t with
        | .reply st pl u => if r.busy && st != 0x0301 then (t.answer r 0x0302 []).pumpAll else (u.answer r st pl).pumpAll
        | .later u => if r.busy then (t.answer r 0x0302 []).pumpAll else u
        | .hold u => if r.busy then (t.answer r 0x0302 []).pumpAll else u.putBack r (s.port r.port).lastSeq

/-- An answer without a payload. -/
def OpRes.status (st : Nat) (s : State) : OpRes := .reply st [] s

end State

/-- SPI_WRITE_TRANSFER (R398 to R404): the bytes after the transfer code. -/
def execSpiWriteTransfer (bytes : List Byte) (s : State) : Out := .next (s.spiWrite bytes)

/-- SPI_READ_TRANSFER (R399, R403 to R405): the number of bytes clocked after STAT. -/
def execSpiReadTransfer (n : Nat) (s : State) : Out := .next (s.spiRead n)

/-- SERVICE_UART_BYTE (R419). -/
def execServiceUartByte (b : Byte) (s : State) : Out := .next (s.svcByte b)

/-- SERVICE_GAP_ABORT (R419). -/
def execServiceGapAbort (s : State) : Out := .next { s with tpp := { s.tpp with svcRx := [] } }

/-- TPP_SESSION_TIMEOUT (R409). -/
def execTppSessionTimeout (p : Port) (s : State) : Out := .next (s.endSession p)

/-- TUNNEL_RECEIVE (R362, R420). -/
def execTunnelReceive (l addr w0 : Nat) (bytes : List Byte) (s : State) : Out := .next (s.tunnelIn l addr w0 bytes)

/-- TUNNEL_TIMEOUT (R420). -/
def execTunnelTimeout (s : State) : Out := .next s.tunnelTimeout

end Sys2Proof.Machine
end

