-- ==== Sys2Proof/Machine/TppCommandsA.lean ====
section
/-! DEFINITION. Machine/TppCommandsA.lean: the opcodes of sessions, records, operation and the safety channel (R401 to R418, R438,
R439). Each meaning runs its opcode where the request at the head of the queue carries it (`runOp`). -/

namespace Sys2Proof.Machine
namespace State

/-! ### Sessions (R408, R409, R438) -/

/-- Versions that the module supports (R407). -/
abbrev verMax : Nat := 0x23
abbrev verMin : Nat := 0x10

/-- HELLO (R408): no session is left when it answers. -/
def helloOp (r : Request) (s : State) : OpRes :=
  let s := s.endSession r.port
  let sel := Nat.min (r.byte 0) verMax
  if sel < Nat.max (r.byte 1) verMin then .reply 0x0104 (leBytes 1 0 ++ leBytes 1 verMax ++ leBytes 1 verMin) s
  else
    let s := s.setPort r.port { s.port r.port with ver := sel }
    let fw := match nth s.sec.loaded 0 none with
      | some i => i.version
      | none => 0
    .reply 0 (leBytes 1 sel ++ leBytes 1 verMax ++ leBytes 1 verMin ++ leBytes 1 s.oper.code ++ leBytes 1 s.sec.lc
      ++ leBytes 1 s.power.code ++ leBytes 2 0 ++ serialBytes ++ leBytes 4 fw) s

/-- BYE (R409): its reply still belongs to the session that it ends. -/
def byeOp (r : Request) (s : State) : OpRes := .later (((s.answer r 0 []).endSession r.port).pumpAll)

/-- A request of the handshake that is out of order, or that fails (R409). -/
def handshakeFail (r : Request) (status : Nat) (s : State) : OpRes := .status status (s.dropHandshake r.port)

/-- KEY_OFFER (R425, R438): a fresh key pair and a device nonce from the TRNG; refused without a healthy one. -/
def keyOfferOp (r : Request) (s : State) : OpRes :=
  let v := s.port r.port
  if v.handshake != .none then handshakeFail r 0x0203 s
  else if !s.on Reg.SEC_TRNG_HEALTH_OK then handshakeFail r 0x0302 s
  else
    let n := s.freeCtr
    let dk := Config.trng n
    let ek := leBytes 1184 (Config.kemPublic dk)
    let nd := leBytes 32 (Config.trng (n + 1))
    let label : List Byte := [0x5A, 0x59, 0x2D, 0x4B, 0x45, 0x58, 0x2D, 0x31]
    let t1 := shake (label ++ r.payload ++ ek ++ nd ++ serialBytes ++ leBytes 1 s.sec.lc) 64
    let s := State.setPort { s with freeCtr := n + 2 } r.port { v with handshake := .offered, transcript := t1, kemKey := dk, secret := 0 }
    .reply 0 (ek ++ nd) s

/-- KEY_PROOF (R438). -/
def keyProofOp (r : Request) (s : State) : OpRes :=
  let v := s.port r.port
  if v.handshake != .offered then handshakeFail r 0x0203 s
  else .reply 0 (s.identitySign ctxKex v.transcript) (s.setPort r.port { v with handshake := .proved })

/-- KEY_CIPHER (R438): the ephemeral key is destroyed. -/
def keyCipherOp (r : Request) (s : State) : OpRes :=
  let v := s.port r.port
  if v.handshake != .proved then handshakeFail r 0x0203 s
  else
    .status 0 (s.setPort r.port { v with handshake := .ciphered, secret := Config.kemDecaps v.kemKey r.payload, kemKey := 0,
                                         transcript := shake (v.transcript ++ r.payload) 64 })

/-- KEY_OWNER (R438, R439): the session begins, and its reply is the first tagged packet. -/
def keyOwnerOp (r : Request) (s : State) : OpRes :=
  let v := s.port r.port
  let idx := r.byte 0
  if v.handshake != .ciphered then handshakeFail r 0x0203 s
  else if 3 < idx then .status 0x0301 s
  else
    let ok := (s.ownerKey? idx).any fun k => Config.mldsaVerify k ctxOwner v.transcript (r.payload.drop 4)
    if !ok then handshakeFail r 0x0203 (s.flagRaise Reg.SEC_FLAGS_AUTH_FAIL Ev.SEC_SESSION)
    else
      let label : List Byte := [0x54, 0x50, 0x50, 0x2D, 0x4B]
      let k := Config.shake256 (leBytes 32 v.secret ++ v.transcript ++ label) 32
      let s := s.setPort r.port { v with handshake := .none, transcript := [], secret := 0, kemKey := 0, auth := true, kMac := k,
                                         owner := idx, lastSeq := r.seq, authFails := 0 }
      .status 0 (s.sessionShow.raise Ev.SEC_SESSION)

/-! ### Records in chunks (R413, R414) -/

/-- The staging of a record. -/
def stage (s : State) : RecordKind → Staging
  | .bdr => s.tpp.bdrStage
  | .gpr => s.tpp.gprStage
  | .spr => s.tpp.sprStage
def setStage (s : State) (k : RecordKind) (g : Staging) : State :=
  match k with
  | .bdr => { s with tpp := { s.tpp with bdrStage := g } }
  | .gpr => { s with tpp := { s.tpp with gprStage := g } }
  | .spr => { s with tpp := { s.tpp with sprStage := g } }

/-- The maximum length of a record. -/
def recordMax : RecordKind → Nat
  | .bdr => 16384
  | .gpr => 2048
  | .spr => 256

/-- A chunk enters the staging; words that it leaves out before itself are missing. -/
def Staging.put (g : Staging) (p : Port) (off : Nat) (data : List Byte) : Staging :=
  let old := g.bytes
  let gap := List.replicate (off - old.length) (0 : Byte)
  let hole := (List.range (off / 4)).filter fun i => decide (old.length / 4 ≤ i)
  let filled (i : Nat) : Bool := decide (off / 4 ≤ i) && decide (i < (off + data.length) / 4)
  ⟨some p, (old ++ gap).take off ++ data ++ old.drop (off + data.length), (g.missing ++ hole).filter fun i => !filled i⟩

/-- The staging is held by another port. -/
def stageOther (s : State) (k : RecordKind) (p : Port) : Bool := (s.stage k).owner.any (· != p)

/-- BDR_WRITE, GPR_WRITE and SPR_WRITE. -/
def recordWriteOp (k : RecordKind) (r : Request) (s : State) : OpRes :=
  let off := r.word 0
  let data := r.payload.drop 4
  if off % 4 != 0 || recordMax k < off + data.length then .status 0x0301 s
  else if s.stageOther k r.port then .status 0x0302 s
  else .status 0 (s.setStage k (Staging.put (s.stage k) r.port off data))

/-- BDR_COMMIT, GPR_COMMIT and SPR_COMMIT up to the record: the staged bytes must have the length and the CRC that it names. -/
def recordCommitOp (k : RecordKind) (f : List Byte → Request → State → OpRes) (r : Request) (s : State) : OpRes :=
  let g := s.stage k
  if s.stageOther k r.port then .status 0x0302 s
  else if g.owner.isNone || r.word 0 != g.bytes.length || !g.missing.isEmpty || r.word 1 != crc crc32c g.bytes then
    .status 0x0301 (s.setStage k {})
  else f g.bytes r s

/-- The commit result of R414. -/
def commitResult (status : Nat) (e : RecErr) (s : State) : OpRes := .reply status (leBytes 4 e.off ++ leBytes 4 e.idx) s

/-- A record that is accepted with STORE set goes to the non-volatile store. -/
def recordStore (k : RecordKind) (bs : List Byte) (flags : Nat) (s : State) : State :=
  if !hasBit flags 0 then s
  else
    match k with
    | .bdr => { s with nv := { s.nv with bdr := bs } }
    | .gpr => { s with nv := { s.nv with gpr := bs } }
    | .spr => s

/-- BDR_COMMIT (R411, R412): it waits while the pairs are being released. -/
def bdrCommitOp : Request → State → OpRes :=
  recordCommitOp .bdr fun bs r s =>
    match s.bdrRun bs with
    | .refused e => commitResult 0x0301 e (s.setStage .bdr {})
    | .waits u => .hold u
    | .failed e u => commitResult 0x0301 e ((u.setStage .bdr {}).bdrFallback)
    | .applied u => commitResult 0 ⟨noErr, noErr⟩ (State.operAfter (recordStore .bdr bs (r.word 2) (u.setStage .bdr {})) true)

/-- GPR_COMMIT (R414 to R416): busy while a profile load is pending; the staging is kept then. -/
def gprCommitOp : Request → State → OpRes :=
  recordCommitOp .gpr fun bs r s =>
    if s.on Reg.GS_STATUS_PROF_PEND then .status 0x0302 s
    else
      match s.gprRun bs with
      | .bad e => commitResult 0x0301 e (s.setStage .gpr {})
      | .good u => commitResult 1 ⟨noErr, noErr⟩ (recordStore .gpr bs (r.word 2) (u.setStage .gpr {}))

/-- SPR_COMMIT (R377, R411, R414): the reply carries word 63 of the record. -/
def sprCommitOp : Request → State → OpRes :=
  recordCommitOp .spr fun bs _ s =>
    let (ok, u) := (s.setStage .spr {}).sprLoad (wordsOf bs)
    if !ok then .status 0x0301 u
    else
      let u := if u.oper = .described || u.oper = .standby then { u with oper := .commissioning } else u
      .reply 0 (leBytes 4 (wordAt bs 252)) u

/-- Bytes of a record or of the certificate: offset, length up to 4088. -/
def readOp (bytes : State → List Byte) (r : Request) (s : State) : OpRes :=
  let bs := bytes s
  let off := r.word 0
  let n := r.word 1
  if 4088 < n || bs.length < off + n then .status 0x0301 s else .reply 0 (slice bs off n) s

/-! ### Operation (R411, R417) -/

/-- The status of an opcode that maps to a register or a setpoint: submitted while a pair is active, else complete (R46, R401). -/
def mapStatus (s : State) : Nat := b2n s.cpRun

/-- CONNECT (R411, R488). -/
def connectOp (_ : Request) (s : State) : OpRes :=
  if s.power = .watch then .status 0x0201 s
  else
    let s : State := { s with tpp := { s.tpp with connectWanted := true } }
    .status 0 (if s.oper = .standby then s.syncEnter else s)

/-- DISCONNECT (R411): from CONNECTED the orderly disconnection begins. -/
def disconnectOp (_ : Request) (s : State) : OpRes :=
  let s : State := { s with tpp := { s.tpp with connectWanted := false } }
  .status 0 (
    if s.oper = .syncing then { s with oper := .standby }
    else if s.oper = .connected then { s with oper := .standby, tpp := { s.tpp with disc := .gsStop } }
    else s)

/-- The grid stands inside the connect window (R411). -/
def windowInside (s : State) : Bool :=
  let c := s.tpp.connect
  let f := s.rd Reg.ORB_FREQ_VALUE
  F32.le c.vmin s.vLo && F32.le s.vHi c.vmax && F32.le c.fmin f && F32.le f c.fmax

/-- HOLD_MS have passed inside the window (R411): `CONNECTED`, and a connect request to the safety channel. -/
def syncWindowMet (s : State) : State :=
  let st := s.orbState
  if s.oper = .syncing && s.windowInside && (st = orbLocked || st = orbFollow) && s.rd Reg.RECONNECT_SEC = 0 then
    State.connectRequest { s with oper := .connected }
  else s

/-- TIMEOUT_S have passed in `SYNCING` (R411): 0 means no limit. -/
def syncTimeout (s : State) : State :=
  if s.oper = .syncing && s.tpp.connect.timeoutS != 0 then autoReconnect { s with oper := .standby } else s

/-- The boundary after DISCONNECT: grid support is disabled (R411). -/
def disconnectGsStop (s : State) : State :=
  if s.tpp.disc = .gsStop then
    let s := s.gsAct gsDisable
    { s with tpp := { s.tpp with disc := .pwmSafe 2 } }
  else s

/-- Two frames later: PWM safe, then the disconnect request (R411). -/
def disconnectPwmSafe (s : State) : State :=
  match s.tpp.disc with
  | .pwmSafe _ =>
    let s := s.pwmSafe .soft
    State.disconnectRequest { s with tpp := { s.tpp with disc := .none } }
  | _ => s

/-- S_RATED of the profile in force (R268 word 4). -/
def sRated (s : State) : Nat := s.prof 4

/-- A setpoint of an index goes into the mailbox (R49 KIND 2, R51). DEDUCED: any value (notes/assumptions 60). -/
def setpointOp (idx : Nat) (ok : Bool) (v : Nat) (s : State) : OpRes :=
  if !ok then .status 0x0301 s
  else if s.power = .watch then .status 0x0201 s
  else .status 1 (s.mcSubmit ⟨2 + 2 ^ 16 * idx, v, 0, 0⟩)

/-- SET_P and CURTAIL: 0 to S_RATED. -/
def setPosOp (idx : Nat) (r : Request) (s : State) : OpRes := setpointOp idx (F32.inRange (r.word 0) 0 s.sRated) (r.word 0) s

/-- SET_Q: −S_RATED to S_RATED. -/
def setQOp (r : Request) (s : State) : OpRes :=
  setpointOp 3 (F32.inRange (r.word 0) (F32.neg s.sRated) s.sRated) (r.word 0) s

/-- SETPOINT. -/
def setFreeOp (r : Request) (s : State) : OpRes := setpointOp (r.byte 0) (decide (6 ≤ r.byte 0) && decide (r.byte 0 ≤ 47)) (r.word 1) s

/-- MODE: bits 11 to 1 of `GS_CTRL`; Q_MODE 3 is out of range (R281). -/
def modeOp (r : Request) (s : State) : OpRes :=
  if fieldOf (r.word 0) 1 2 = 3 then .status 0x0301 s else .status s.mapStatus (s.mcWrite (0x40008000, r.word 0, 0xFFE))

/-- STATUS (R418). -/
def statusOp (r : Request) (s : State) : OpRes :=
  let p := s.port r.port
  let flags := b2n s.tpp.connectWanted + 2 * b2n s.tpp.gprActive + 4 * b2n s.safety.confirmed + 8 * b2n p.auth
  .reply 0 (leBytes 1 s.oper.code ++ leBytes 1 s.safeState ++ leBytes 1 s.power.code ++ leBytes 1 s.sec.lc ++ leBytes 1 s.gsState
    ++ leBytes 1 flags ++ leBytes 2 s.tpp.overflow ++ bytesOf (s.cross.lastDigest.take 16)) s

/-! ### Safety channel (R390, R395, R397) -/

/-- SPR_CONFIRM (R390). -/
def sprConfirmOp (r : Request) (s : State) : OpRes :=
  let (ok, u) := s.sprConfirm (r.word 0)
  .status (if ok then 0 else 0x0301) u

/-- SAFETY_RESET (R395). -/
def safetyResetOp (_ : Request) (s : State) : OpRes :=
  let (ok, u) := s.safetyReset
  if ok then .status 0 u else .status 0x0201 s

/-- SAFETY_STATUS: words 0x000 to 0x028 of the view (R397). -/
def safetyStatusOp (_ : Request) (s : State) : OpRes := .reply 0 (bytesOf ((List.range 11).map fun i => s.readWord (0x400E0000 + 4 * i))) s

/-- PDU_PUT (R392, R393): the host's PDU for a connection. -/
def pduPutOp (r : Request) (s : State) : OpRes :=
  let c := r.byte 0
  if 3 < c then .status 0x0301 s else .status 0 (s.pduJudge (some c) (r.payload.drop 4))

/-- PDU_GET (R392): the slots of `PDU_HOSTTX` that are VALID. -/
def pduGetOp (_ : Request) (s : State) : OpRes :=
  let slot (c : Nat) : List Nat := (List.range 16).map fun i => s.rd (Reg.PDU_HOSTTX_WORD (16 * c + i))
  .reply 0 ((List.range 4).flatMap fun c =>
    let w := slot c
    if hasBit (nth w 0 0) 0 then leBytes 4 (fieldOf (nth w 0 0) 1 2) ++ pduOfWords (w.drop 1) else []) s

end State

/-- RECORD_STAGING_TIMEOUT (R413): what was staged is discarded with the ownership. -/
def execRecordStagingTimeout (k : RecordKind) (s : State) : Out := .next (s.setStage k {})

/-- HELLO (R407, R408). -/
def execHello (s : State) : Out := .next (s.runOp 0x0100 State.helloOp)

/-- BYE (R409). -/
def execBye (s : State) : Out := .next (s.runOp 0x0101 State.byeOp)

/-- KEY_OFFER (R409, R438). -/
def execKeyOffer (s : State) : Out := .next (s.runOp 0x0102 State.keyOfferOp)

/-- KEY_PROOF (R409, R438). -/
def execKeyProof (s : State) : Out := .next (s.runOp 0x0103 State.keyProofOp)

/-- KEY_CIPHER (R409, R438). -/
def execKeyCipher (s : State) : Out := .next (s.runOp 0x0104 State.keyCipherOp)

/-- KEY_OWNER (R409, R438, R439). -/
def execKeyOwner (s : State) : Out := .next (s.runOp 0x0105 State.keyOwnerOp)

/-- BDR_WRITE (R413). -/
def execBdrWrite (s : State) : Out := .next (s.runOp 0x0200 (State.recordWriteOp .bdr))

/-- BDR_COMMIT (R411, R412, R414, R415). -/
def execBdrCommit (s : State) : Out := .next (s.runOp 0x0201 State.bdrCommitOp)

/-- BDR_READ (R417). -/
def execBdrRead (s : State) : Out := .next (s.runOp 0x0202 (State.readOp fun s => s.tpp.bdr))

/-- GPR_WRITE (R413). -/
def execGprWrite (s : State) : Out := .next (s.runOp 0x0300 (State.recordWriteOp .gpr))

/-- GPR_COMMIT (R414 to R416). -/
def execGprCommit (s : State) : Out := .next (s.runOp 0x0301 State.gprCommitOp)

/-- GPR_READ (R417). -/
def execGprRead (s : State) : Out := .next (s.runOp 0x0302 (State.readOp fun s => s.tpp.gpr))

/-- CONNECT (R411). -/
def execConnect (s : State) : Out := .next (s.runOp 0x0400 State.connectOp)

/-- DISCONNECT (R411). -/
def execDisconnect (s : State) : Out := .next (s.runOp 0x0401 State.disconnectOp)

/-- SYNC_WINDOW_MET (R411). -/
def execSyncWindowMet (s : State) : Out := .next s.syncWindowMet

/-- SYNC_TIMEOUT (R411). -/
def execSyncTimeout (s : State) : Out := .next s.syncTimeout

/-- DISCONNECT_GS_STOP (R411). -/
def execDisconnectGsStop (s : State) : Out := .next s.disconnectGsStop

/-- DISCONNECT_PWM_SAFE (R411). -/
def execDisconnectPwmSafe (s : State) : Out := .next s.disconnectPwmSafe

/-- SET_P (R417): setpoint index 2. -/
def execSetP (s : State) : Out := .next (s.runOp 0x0402 (State.setPosOp 2))

/-- SET_Q (R417): setpoint index 3. -/
def execSetQ (s : State) : Out := .next (s.runOp 0x0403 State.setQOp)

/-- CURTAIL (R417): setpoint index 4. -/
def execCurtail (s : State) : Out := .next (s.runOp 0x0404 (State.setPosOp 4))

/-- MODE (R417). -/
def execMode (s : State) : Out := .next (s.runOp 0x0405 State.modeOp)

/-- STATUS (R418). -/
def execStatus (s : State) : Out := .next (s.runOp 0x0406 State.statusOp)

/-- SETPOINT (R417). -/
def execSetpoint (s : State) : Out := .next (s.runOp 0x0407 State.setFreeOp)

/-- SPR_WRITE (R413). -/
def execSprWrite (s : State) : Out := .next (s.runOp 0x0600 (State.recordWriteOp .spr))

/-- SPR_COMMIT (R377, R411, R414). -/
def execSprCommit (s : State) : Out := .next (s.runOp 0x0601 State.sprCommitOp)

/-- SPR_CONFIRM (R390, R417). -/
def execSprConfirm (s : State) : Out := .next (s.runOp 0x0602 State.sprConfirmOp)

/-- SAFETY_RESET (R395). -/
def execSafetyReset (s : State) : Out := .next (s.runOp 0x0603 State.safetyResetOp)

/-- SAFETY_STATUS (R417). -/
def execSafetyStatus (s : State) : Out := .next (s.runOp 0x0604 State.safetyStatusOp)

/-- PDU_PUT (R392, R417). -/
def execPduPut (s : State) : Out := .next (s.runOp 0x0605 State.pduPutOp)

/-- PDU_GET (R392, R417). -/
def execPduGet (s : State) : Out := .next (s.runOp 0x0606 State.pduGetOp)

end Sys2Proof.Machine
end

