-- ==== Sys2Proof/Machine/TppCommandsB.lean ====
section
/-! DEFINITION. Machine/TppCommandsB.lean: the opcodes of metering, images and the life cycle, maintenance, links, the log, tuning
and power (R417, R432, R440 to R446, R488, R492). -/

namespace Sys2Proof.Machine
namespace State

/-! ### Metering (R317 to R337, R417) -/

/-- A register that MC writes for an opcode. -/
def mapWrite (a v m : Nat) (s : State) : OpRes := .status s.mapStatus (s.mcWrite (a, v, m))

/-- METER_READ: one register set. -/
def meterReadOp (r : Request) (s : State) : OpRes :=
  let k := r.byte 0
  if 7 < k then .status 0x0301 s
  else
    .reply 0 ((List.range 8).flatMap (fun i => leBytes 8 (s.meAcc (8 * k + i)))
      ++ (List.range 8).flatMap (fun i => leBytes 1 (s.rd (meWrapFld (8 * k + i)))) ++ leBytes 4 (s.rd Reg.ME_GCOUNT_COUNT)) s

/-- METER_SNAPSHOT: `ME_CMD.SNAP`. -/
def meterSnapshotOp (_ : Request) (s : State) : OpRes := mapWrite 0x4006000C 1 1 s

/-- METER_SNAP_READ: one set of the snapshot bank. -/
def meterSnapReadOp (r : Request) (s : State) : OpRes :=
  let k := r.byte 0
  if 7 < k then .status 0x0301 s
  else if !s.on Reg.ME_STATUS_SNAP_READY then .status 0x0302 s
  else
    .reply 0 (bytesOf ((List.range 16).map (fun i => s.rd (Reg.ME_SNAP_WORD (16 * k + i)))
      ++ [s.rd (Reg.ME_SNAP_WORD (128 + 2 * k)), s.rd (Reg.ME_SNAP_WORD (129 + 2 * k)), s.rd Reg.ME_SNAP_GCOUNT_COUNT,
          s.rd Reg.ME_SNAP_SEC_SEC])) s

/-- The words of `n` registers from an address. -/
def readWords (s : State) (a n : Nat) : List Nat := (List.range n).map fun i => s.readWord (a + 4 * i)

/-- METER_INTERVAL: the last closed interval. -/
def meterIntervalOp (_ : Request) (s : State) : OpRes := .reply 0 (bytesOf (s.readWords 0x40061400 4 ++ s.readWords 0x40061500 64)) s

/-- METER_INST: the nine values of a phase or of the total. -/
def meterInstOp (r : Request) (s : State) : OpRes :=
  let f := r.byte 0
  if 3 < f then .status 0x0301 s else .reply 0 (bytesOf ((List.range 9).map fun j => s.rd (Reg.ME_INST_VALUE f j))) s

/-- METER_CAL: one calibration register. -/
def meterCalOp (r : Request) (s : State) : OpRes :=
  let o := r.word 0
  if o < 0x40 || 0x10C < o || o % 4 != 0 || s.on Reg.ME_CTRL_CAL_LOCK then .status 0x0301 s
  else mapWrite (0x40060000 + o) (r.word 1) (2 ^ 32 - 1) s

/-- METER_CAL_LOCK (R336). -/
def meterCalLockOp (_ : Request) (s : State) : OpRes :=
  let st := s.mapStatus
  let s := s.mcWrite (0x40060000, 2, 2)
  .reply st (leBytes 4 (s.rd Reg.ME_CAL_CRC_CRC)) s

/-! ### Images, attestation, life cycle (R432, R440 to R446) -/

/-- Type and slot of an image opcode are those of a slot. -/
def slotOk (r : Request) : Bool := decide (r.byte 0 ≤ 3) && decide (r.byte 1 ≤ 1)

/-- IMAGE_WRITE (R432). -/
def imageWriteOp (r : Request) (s : State) : OpRes :=
  let t := r.byte 0
  let data := r.payload.drop 8
  if !slotOk r || slotSize t < r.word 1 + data.length || s.runningSlot? t == some (r.byte 1) then .status 0x0301 s
  else .status 0 (s.imageWrite t (r.byte 1) (r.word 1) data)

/-- IMAGE_COMMIT (R431, R432). -/
def imageCommitOp (r : Request) (s : State) : OpRes :=
  if !slotOk r || slotSize (r.byte 0) < r.word 1 then .status 0x0301 s
  else
    let (c, s) := s.imageCommit (r.byte 0) (r.byte 1)
    .reply 0 (leBytes 4 c) s

/-- IMAGE_ACTIVATE (R432). -/
def imageActivateOp (r : Request) (s : State) : OpRes :=
  if !slotOk r then .status 0x0301 s
  else
    match s.imageActivate? (r.byte 0) (r.byte 1) with
    | some u => .status 0 u
    | none => .status 0x0301 s

/-- ATTEST (R440). -/
def attestOp (r : Request) (s : State) : OpRes := .reply 0 (s.attest r.payload) s

/-- LC_TOKEN (R441 to R447); a token whose blow a loss of supply cuts is answered by nothing. -/
def lcTokenOp (cut : Option Nat) (r : Request) (s : State) : OpRes :=
  match s.tokenFragment r.port r.payload with
  | .busy => .status 0x0302 s
  | .bad => .status 0x0301 s
  | .more u => .reply 0 (leBytes 1 u.sec.lc) u
  | .token u t =>
    match u.lcToken? t cut with
    | none => .status 0x0301 u.tokenRefuse
    | some w =>
      if byteAt t 3 = 3 then
        let slot := byteAt t 4
        let w := w.answer r 0 (leBytes 1 w.sec.lc)
        .later ((w.forEach ports fun w p => if (w.port p).auth && (w.port p).owner == slot then w.endSession p else w).pumpAll)
      else if cut.isSome then .later w
      else .reply 0 (leBytes 1 w.sec.lc) w

/-- DEBUG_TOKEN (R441, R445). -/
def debugTokenOp (r : Request) (s : State) : OpRes :=
  match s.tokenFragment r.port r.payload with
  | .busy => .status 0x0302 s
  | .bad => .status 0x0301 s
  | .more u => .status 0 u
  | .token u t =>
    match u.debugToken? t with
    | none => .status 0x0301 u.tokenRefuse
    | some w => .status 0 w

/-! ### Self-test (R216, R220, R240, R261, R262, R417, R499) -/

/-- The check of one converter with the codes of channels 8, 9 and 11: whether it passed. A conversion in progress goes on after
it. -/
def selfSar (s : State) (c : Nat) (m : Int × Int × Int) : Bool × State :=
  if s.sarState c != sarRun then (false, s)
  else
    let k := s.sar c
    let s := (s.checkBegin c).sarCheckDone c m.1 m.2.1 m.2.2
    let ok := s.on (Reg.SAR_CHECK_PASS c)
    (ok, s.when (ok && k.cur.isSome) (fun s => s.setSar c { k with resume := true }))

/-- The test of a leg's nine comparators: whether it passed. -/
def selfLeg (s : State) (n pass : Nat) : Bool × State :=
  let st := s.legState n
  if st = legUnused then (true, s)
  else if st != legOff && st != legLatched then (false, s)
  else
    let s := (s.testBegin n 511).testEnd n 511 pass
    (s.on (Reg.DRV_STATE_TEST_OK n), s)

/-- The legacy check of every enabled window of a bank, with what each window's steps show; the trip lines that name a window of it
are disabled meanwhile. -/
def selfBank (s : State) (b : Nat) (res : List LegacyResult) : Bool × State :=
  let ws := (bankWins b).filter fun w => hasBit (s.rd Reg.CMP_CTRL_EN) w
  let lines := (List.range 16).filter fun n => s.on (Reg.TRIP_CFG_EN n) && (bankWins b).any fun w => s.rd (Reg.TRIP_CFG_SRC n) == w + 1
  if s.on (Reg.CMP_BANK_BUSY b) then (false, s)
  else
    let line (v : Nat) (s : State) (n : Nat) : State := s.tripCfgWrite n (Reg.TRIP_CFG_EN n).addr v (Reg.TRIP_CFG_EN n).mask
    let s := s.forEach lines (line 0)
    let s := (s.wr Reg.CMP_LCHK_CFG_SEL (ws.foldl setBit 0)).lcheckStart b
    let s := s.forEach ws (fun s w => s.forEach [(0, LegacyStep.tieGnd), (1, .tieMid), (2, .swap)] fun s (i, st) =>
      s.lcheckStep w st (nth res (3 * w + i) ⟨false, false, false, false⟩))
    let s := s.lcheckEnd b
    let ok := ws.all fun w => hasBit (s.rd Reg.CMP_LCHK_RES_PASS) w
    (ok, s.forEach lines (line (2 ^ 32 - 1)))

/-- The self-test of an engine in FAULT. -/
def selfEngine (s : State) (e : Nat) (pass : Bool) : Bool × State :=
  if s.leState e != leFaulted then (true, s) else (pass, (s.leTest e).leTestDone e pass)

/-- Tests in order: whether all passed. -/
def selfAll {α : Type} (l : List α) (f : State → α → Bool × State) (s : State) : Bool × State :=
  l.foldl (fun (ok, s) x => let (o, s) := f s x; (ok && o, s)) (true, s)

/-- A test of the mask, where it is selected: its bit if it failed. -/
def selfBit (mask n : Nat) (f : State → Bool × State) (a : Nat × State) : Nat × State :=
  if hasBit mask n then
    let (ok, s) := f a.2
    (if ok then a.1 else setBit a.1 n, s)
  else a

/-- SELFTEST: what each converter, leg, comparator window and engine shows is measured.
DESIGN CHOICE: its objects (notes/assumptions 62). -/
def selftestOp (sar : List (Int × Int × Int)) (drv : List Nat) (cmp : List LegacyResult) (le : List Bool) (r : Request) (s : State) :
    OpRes :=
  let m := r.word 0
  if 15 < m then .status 0x0301 s
  else
    let a := selfBit m 0 (selfAll (List.range 8) fun s c => s.selfSar c (nth sar c (0, 0, 0))) (0, s)
    let a := selfBit m 1 (selfAll (List.range 6) fun s n => s.selfLeg n (nth drv n 0)) a
    let a := selfBit m 2 (fun s => if s.on Reg.PWM_SAFE_STATUS_LATCHED then selfAll [0, 1] (fun s b => s.selfBank b cmp) s else (false, s)) a
    let a := selfBit m 3 (fun s =>
      let es := [0, 1].filter fun e => s.leState e == leFaulted
      if es.isEmpty then (false, s) else selfAll es (fun s e => s.selfEngine e (nth le e false)) s) a
    .reply 0 (leBytes 4 a.1) a.2

/-! ### Maintenance (R217, R411, R416, R417) -/

/-- DRV_CLEAR (R217): the mask of the latched legs that refuse. -/
def drvClearOp (r : Request) (s : State) : OpRes :=
  let m := r.byte 0
  if 63 < m then .status 0x0301 s
  else
    let bad := (bitsOf 6 m).filter fun n => s.legState n == legLatched && (s.legPresent n || !s.on (Reg.DRV_STATE_LINK_OK n))
    .reply s.mapStatus (leBytes 4 (bad.foldl setBit 0)) (s.forEach (bitsOf 6 m) fun s n => s.mcWrite (0x4002014C + 0x80 * n, 1, 1))

/-- The causes that keep the module in `FAULT_HOLD`: [0] the safety channel is not OPEN, [1] no pair is ACTIVE, [2] a PWM safe-state
cause is active, [3] a safety demand, [4] a supply warning, [5] a PLL is missing, [6] a safety fault.
DESIGN CHOICE (notes/assumptions 62). -/
def faultCauses (s : State) : Nat :=
  b2n (s.safeState != safeOpen) + 2 * b2n (!s.cpRun) + 4 * b2n (s.rd Reg.PWM_SAFE_STATUS_ACTIVE != 0) + 8 * b2n s.resetDemand
    + 16 * b2n s.supplyLow + 32 * b2n (s.pllMissing != 0) + 64 * b2n s.safeFaultPresent

/-- FAULT_CLEAR (R411). -/
def faultClearOp (_ : Request) (s : State) : OpRes :=
  let m := s.faultCauses
  if m = 0 then .reply 0 (leBytes 4 0) { s with oper := s.restState, safety := { s.safety with sf2Hold := false } }
  else .reply 0 (leBytes 4 m) s

/-- The registers whose read has a side effect (R47): `SAR_FIFO`. DEDUCED (notes/assumptions 63). -/
def readActs (a : Nat) : Bool := (List.range 8).any fun c => a == 0x40030118 + 0x40 * c

/-- REG_READ. -/
def regReadOp (r : Request) (s : State) : OpRes :=
  let a := r.word 0
  let n := r.word 1
  let dead := !s.umb.alive || s.umbState = umbStart
  let bad (i : Nat) : Bool := windowOf (a + 4 * i) == .outside || readActs (a + 4 * i) || (dead && windowOf (a + 4 * i) == .umbra)
  if a % 4 != 0 || n < 1 || 1023 < n || (List.range n).any bad then .status 0x0301 s else .reply 0 (bytesOf (s.readWords a n)) s

/-- REG_WRITE. -/
def regWriteOp (r : Request) (s : State) : OpRes :=
  if entryOk s false (r.word 0, r.word 1, r.word 2) then mapWrite (r.word 0) (r.word 1) (r.word 2) s else .status 0x0301 s

/-! ### Links (R344, R370, R373, R420) -/

/-- LINK_STATUS. -/
def linkStatusOp (r : Request) (s : State) : OpRes :=
  let l := r.byte 0
  let a := 0x40090100 + 0x40 * l
  if 3 < l then .status 0x0301 s
  else
    .reply 0 (bytesOf (s.readWords (a + 4) 2 ++ s.readWords (a + 0x20) 5 ++ (List.range 4).map fun k => s.readWord (0x40090304 + 0x40 * k))) s

/-- The fields of `LANE_CFG` that LINK_TEST writes. -/
def laneTestMask (k : Nat) : Nat := (Reg.LANE_CFG_LOOP k).mask + (Reg.LANE_CFG_PAT k).mask + (Reg.LANE_CFG_CHK_EN k).mask

/-- LINK_TEST (R370): the reply waits for the end of the test. -/
def linkTestOp (r : Request) (s : State) : OpRes :=
  let k := r.word 0
  let pat := r.word 1
  let loop := r.word 2
  let chk := r.word 3
  let ms := r.word 4
  if 3 < k || 5 < pat || 3 < loop || 1 < chk || ms < 1 || 10000 < ms || (pat = 5 && r.ver < 0x23) then .status 0x0301 s
  else
    let s := s.mcWrite (0x40090300 + 0x40 * k, 2 ^ 6 * loop + 2 ^ 8 * pat + 2 ^ 11 * chk, laneTestMask k)
    .later { s with tpp := { s.tpp with linkTest := some ⟨r, k⟩ } }

/-- The duration of LINK_TEST has passed: PAT and LOOP are cleared, and the reply carries `LANE_PAT_ERR`. -/
def linkTestEnd (s : State) : State :=
  match s.tpp.linkTest with
  | none => s
  | some w =>
    let s : State := { s with tpp := { s.tpp with linkTest := none } }
    let n := s.rd (Reg.LANE_PAT_ERR_COUNT w.lane)
    let s := s.mcWrite (0x40090300 + 0x40 * w.lane, 0, (Reg.LANE_CFG_LOOP w.lane).mask + (Reg.LANE_CFG_PAT w.lane).mask)
    (s.answer w.req 0 (leBytes 4 n)).pumpAll

/-- LINK_RETRAIN (R373). -/
def linkRetrainOp (r : Request) (s : State) : OpRes :=
  if 15 < r.word 0 then .status 0x0301 s else mapWrite 0x4009000C (r.word 0) 0xF s

/-- TUNNEL (R362, R420): the reply is the target's. -/
def tunnelOp (r : Request) (s : State) : OpRes :=
  let n := r.byte 0
  if 7 < n || n = s.rd Reg.COMET_MODULE_NUM then .status 0x0301 s
  else
    let s := s.tunnelSend n (r.payload.drop 4)
    .later { s with tpp := { s.tpp with tunnelWait := s.tpp.tunnelWait ++ [⟨r, n⟩] } }

/-! ### Log, time, notices (R406, R464, R468 to R474) -/

/-- LOG_READ: the records held among `count` sequence numbers from the first. -/
def logReadOp (r : Request) (s : State) : OpRes :=
  let first := leNat (slice r.payload 0 2)
  let count := leNat (slice r.payload 2 2)
  if count < 1 || 255 < count then .status 0x0301 s
  else .reply 0 (((List.range count).filterMap fun i => s.logFind ((first + i) % 65536)).flatMap recBytes) s

/-- LOG_INFO. -/
def logInfoOp (_ : Request) (s : State) : OpRes :=
  .reply 0 (bytesOf [s.rd Reg.UMB_LOG_HEAD_COUNT, s.rd Reg.UMB_LOG_OLDEST_SEQ, s.rd Reg.UMB_LOG_HEAD_NEWEST,
                     s.rd Reg.UMB_OUTAGE_COUNT, s.rd Reg.UMB_STATUS_TIME_UNKNOWN]) s

/-- TIME_SET (R464). -/
def timeSetOp (r : Request) (s : State) : OpRes := .status 0 (s.umbWrite .mc 0x400F0014 fun s => s.timeSet (r.word 0))

/-- TIME_GET. -/
def timeGetOp (_ : Request) (s : State) : OpRes := .reply 0 (bytesOf [s.rd Reg.UMB_SECONDS_SEC, s.rd Reg.UMB_STATUS_TIME_UNKNOWN]) s

/-- NOTIFY_CFG (R406, R532): bit `n` of the mask for event `n`. -/
def notifyCfgOp (r : Request) (s : State) : OpRes := .status 0 (s.setPort r.port { s.port r.port with mask := leNat r.payload })

/-! ### Tuning (R147, R159, R165, R166) -/

/-- The parameters of a PRBS generator lie in the ranges of R165. -/
def prbsOk (n bit seed : Nat) : Bool :=
  let whole (x lo hi : Nat) : Bool := F32.inRange x (F32.ofNat lo) (F32.ofNat hi) && F32.ofInt (F32.toInt x) == F32.flush x
  whole n 7 15 && whole bit 1 16 && whole seed 1 (2 ^ (F32.toInt n).toNat - 1)

/-- The generator words of the injection points of an engine's active program that carry a number. -/
def injSet (m : Le.Img) (i : Nat) (ws : List Nat) : Le.Img :=
  ((List.range (Le.nblk m)).filter fun b => (Le.block m b).type == 0x10 && (Le.block m b).size % 4 == i).foldl
    (fun m b => ws.zipIdx.foldl (fun m (w, k) => bankSet m ((Le.block m b).poff + k) w) m) m

/-- INJECT (R165): the generator is configured, and armed for FRAMES frames. -/
def injectOp (r : Request) (s : State) : OpRes :=
  let e := r.byte 0
  let i := r.byte 1
  let kind := r.byte 2
  let frames := r.word 5
  if 1 < e || 3 < i || 3 < kind || max16 < frames || (kind = 3 && !prbsOk (r.word 2) (r.word 3) (r.word 4)) then .status 0x0301 s
  else
    let s := s.setLeActive e (injSet (s.leActive e) i [F32.ofNat kind, r.word 1, r.word 2, r.word 3, r.word 4])
    mapWrite (leBase e + 0x300 + 4 * i) (1 + 2 ^ 16 * frames) (1 + 2 ^ 16 * max16) s

/-- CAPTURE_CFG (R166, R169). -/
def captureCfgOp (r : Request) (s : State) : OpRes :=
  let e := r.byte 0
  let c := r.byte 1
  let a := leBase e + 0x200 + 16 * c
  if 1 < e || 15 < c then .status 0x0301 s
  else
    .status s.mapStatus (s.forEach [(a + 4, r.word 2), (a + 8, r.word 3), (a + 12, r.word 4), (a, r.word 1)]
      fun s (a, v) => s.mcWrite (a, v, 2 ^ 32 - 1))

/-- CAPTURE_READ (R167): the capture buffer holds 256 KiB. -/
def captureReadOp (r : Request) (s : State) : OpRes :=
  if 4088 < r.word 1 || 0x40000 < r.word 0 + r.word 1 then .status 0x0301 s else .reply 0 (memRead s.capture (r.word 0) (r.word 1)) s

/-- LE_MODE (R159). -/
def leModeOp (r : Request) (s : State) : OpRes :=
  let e := r.word 0
  if 1 < e then .status 0x0301 s
  else
    .status s.mapStatus ((s.mcWrite (leBase e + 0x20, r.word 1, 2 ^ 32 - 1)).mcWrite (leBase e + 0x24, r.word 2, 2 ^ 32 - 1))

/-! ### Power and reset (R488, R492, R493) -/

/-- POWER_STATE (R488): its reply goes out before the transition begins. -/
def powerStateOp (r : Request) (s : State) : OpRes :=
  match powerTarget? (r.word 0) with
  | none => .status 0x0301 s
  | some t =>
    if s.clk.target.isSome then .status 0x0302 s
    else if s.power = t then .status 0 s
    else if t != .run && (s.safeState = safeClosing || s.safeState = safeClosed) then .status 0x0201 s
    else .later (((s.answer r 0 []).powerStart t).pumpAll)

/-- POWER_STATUS. -/
def powerStatusOp (_ : Request) (s : State) : OpRes := .reply 0 (bytesOf [s.power.code, s.readWord 0x400D0024]) s

/-- SOFT_RESET (R417, R492): the reply is queued before the regions reset, and outlives the reset of its own queue. -/
def softResetOp (r : Request) (s : State) : OpRes :=
  let m := r.word 0
  if m < 1 || 7 < m then .status 0x0301 s
  else if hasBit m 2 then
    let p := s.port r.port
    .later ((s.softReset m).sendReply r.port
      { ver := r.ver, opcode := r.opcode, seq := r.seq, status := 0, payload := [], tag := replyTag p r.ver r.opcode r.seq 0 [], stamp := 0 })
  else .later (((s.answer r 0 []).softReset m).pumpAll)

end State

/-- METER_READ (R417). -/
def execMeterRead (s : State) : Out := .next (s.runOp 0x0500 State.meterReadOp)

/-- METER_SNAPSHOT (R417). -/
def execMeterSnapshot (s : State) : Out := .next (s.runOp 0x0501 State.meterSnapshotOp)

/-- METER_SNAP_READ (R417). -/
def execMeterSnapRead (s : State) : Out := .next (s.runOp 0x0502 State.meterSnapReadOp)

/-- METER_INTERVAL (R417). -/
def execMeterInterval (s : State) : Out := .next (s.runOp 0x0503 State.meterIntervalOp)

/-- METER_INST (R417). -/
def execMeterInst (s : State) : Out := .next (s.runOp 0x0504 State.meterInstOp)

/-- METER_CAL (R317, R417). -/
def execMeterCal (s : State) : Out := .next (s.runOp 0x0505 State.meterCalOp)

/-- METER_CAL_LOCK (R336, R417). -/
def execMeterCalLock (s : State) : Out := .next (s.runOp 0x0506 State.meterCalLockOp)

/-- IMAGE_WRITE (R432). -/
def execImageWrite (s : State) : Out := .next (s.runOp 0x0700 State.imageWriteOp)

/-- IMAGE_COMMIT (R431, R432). -/
def execImageCommit (s : State) : Out := .next (s.runOp 0x0701 State.imageCommitOp)

/-- IMAGE_ACTIVATE (R432). -/
def execImageActivate (s : State) : Out := .next (s.runOp 0x0702 State.imageActivateOp)

/-- ATTEST (R440). -/
def execAttest (s : State) : Out := .next (s.runOp 0x0703 State.attestOp)

/-- CERT_READ (R427, R417). -/
def execCertRead (s : State) : Out := .next (s.runOp 0x0704 (State.readOp State.certBytes))

/-- LC_TOKEN (R441 to R447): `cut` is how many bits of the life-cycle byte are blown where the supply is lost meanwhile. -/
def execLcToken (cut : Option Nat) (s : State) : Out := .next (s.runOp 0x0705 (State.lcTokenOp cut))

/-- DEBUG_TOKEN (R441, R445). -/
def execDebugToken (s : State) : Out := .next (s.runOp 0x0706 State.debugTokenOp)

/-- SELFTEST (R417, R499): the codes of channels 8, 9 and 11 of each converter, the passing comparators of each leg, what each window
shows in each step of the legacy check, and whether each engine passes. -/
def execSelftest (sar : List (Int × Int × Int)) (drv : List Nat) (cmp : List LegacyResult) (le : List Bool) (s : State) : Out :=
  .next (s.runOp 0x0800 (State.selftestOp sar drv cmp le))

/-- DRV_CLEAR (R217). -/
def execDrvClear (s : State) : Out := .next (s.runOp 0x0801 State.drvClearOp)

/-- FAULT_CLEAR (R411). -/
def execFaultClear (s : State) : Out := .next (s.runOp 0x0802 State.faultClearOp)

/-- REG_READ (R47, R417). -/
def execRegRead (s : State) : Out := .next (s.runOp 0x0803 State.regReadOp)

/-- REG_WRITE (R416, R417). -/
def execRegWrite (s : State) : Out := .next (s.runOp 0x0804 State.regWriteOp)

/-- LINK_STATUS (R417). -/
def execLinkStatus (s : State) : Out := .next (s.runOp 0x0900 State.linkStatusOp)

/-- LINK_TEST (R370, R417). -/
def execLinkTest (s : State) : Out := .next (s.runOp 0x0901 State.linkTestOp)

/-- LINK_TEST_END (R370, R417). -/
def execLinkTestEnd (s : State) : Out := .next s.linkTestEnd

/-- LINK_RETRAIN (R373, R417). -/
def execLinkRetrain (s : State) : Out := .next (s.runOp 0x0902 State.linkRetrainOp)

/-- TUNNEL (R362, R420). -/
def execTunnel (s : State) : Out := .next (s.runOp 0x0903 State.tunnelOp)

/-- LOG_READ (R470, R417). -/
def execLogRead (s : State) : Out := .next (s.runOp 0x0A00 State.logReadOp)

/-- LOG_INFO (R417). -/
def execLogInfo (s : State) : Out := .next (s.runOp 0x0A01 State.logInfoOp)

/-- TIME_SET (R464, R417). -/
def execTimeSet (s : State) : Out := .next (s.runOp 0x0A02 State.timeSetOp)

/-- TIME_GET (R417). -/
def execTimeGet (s : State) : Out := .next (s.runOp 0x0A03 State.timeGetOp)

/-- NOTIFY_CFG (R406, R532). -/
def execNotifyCfg (s : State) : Out := .next (s.runOp 0x0A04 State.notifyCfgOp)

/-- INJECT (R165, R417). -/
def execInject (s : State) : Out := .next (s.runOp 0x0B00 State.injectOp)

/-- CAPTURE_CFG (R166, R417). -/
def execCaptureCfg (s : State) : Out := .next (s.runOp 0x0B01 State.captureCfgOp)

/-- CAPTURE_READ (R417). -/
def execCaptureRead (s : State) : Out := .next (s.runOp 0x0B02 State.captureReadOp)

/-- LE_MODE (R159, R417). -/
def execLeMode (s : State) : Out := .next (s.runOp 0x0B03 State.leModeOp)

/-- POWER_STATE (R488). -/
def execPowerState (s : State) : Out := .next (s.runOp 0x0C00 State.powerStateOp)

/-- POWER_STATUS (R417). -/
def execPowerStatus (s : State) : Out := .next (s.runOp 0x0C01 State.powerStatusOp)

/-- SOFT_RESET (R417, R492). -/
def execSoftReset (s : State) : Out := .next (s.runOp 0x0C02 State.softResetOp)

end Sys2Proof.Machine
end

