-- ==== Sys2Proof/Machine/Dispatch.lean ====
section
/-! DEFINITION. Machine/Dispatch.lean: one arm per command, each one direct call of its meaning. -/

namespace Sys2Proof.Machine

def exec (i : Instr) (s : State) : Host.Outcome State Fault Refusal :=
  match i with
  | .registerWrite m addr size value => Sys2Proof.Machine.execRegisterWrite m addr size value s
  | .sharedSramWrite m addr data => Sys2Proof.Machine.execSharedSramWrite m addr data s
  | .mbxDataWrite m index value => Sys2Proof.Machine.execMbxDataWrite m index value s
  | .mbxSubmit m count tick => Sys2Proof.Machine.execMbxSubmit m count tick s
  | .mbxApply edge => Sys2Proof.Machine.execMbxApply edge s
  | .mbxParityError => Sys2Proof.Machine.execMbxParityError s
  | .dataPortSubmit index value tick => Sys2Proof.Machine.execDataPortSubmit index value tick s
  | .loadCopyComplete t => Sys2Proof.Machine.execLoadCopyComplete t s
  | .tapRecordDeliver chan => Sys2Proof.Machine.execTapRecordDeliver chan s
  | .digestComplete crcOk => Sys2Proof.Machine.execDigestComplete crcOk s
  | .digRptrWrite m value => Sys2Proof.Machine.execDigRptrWrite m value s
  | .clrDrops m => Sys2Proof.Machine.execClrDrops m s
  | .evfRouteWrite m n value => Sys2Proof.Machine.execEvfRouteWrite m n value s
  | .evfPendClear m t w ones => Sys2Proof.Machine.execEvfPendClear m t w ones s
  | .clrCoal m => Sys2Proof.Machine.execClrCoal m s
  | .slinkPacketReceive lane crcOk => Sys2Proof.Machine.execSlinkPacketReceive lane crcOk s
  | .slinkLaneRemove lane => Sys2Proof.Machine.execSlinkLaneRemove lane s
  | .slinkTrainDone lanes => Sys2Proof.Machine.execSlinkTrainDone lanes s
  | .drivePathTimeout leg tested pass => Sys2Proof.Machine.execDrivePathTimeout leg tested pass s
  | .isoRefreshTimeout leg high => Sys2Proof.Machine.execIsoRefreshTimeout leg high s
  | .frameBoundary => Sys2Proof.Machine.execFrameBoundary s
  | .orbTrackerSample tick t => Sys2Proof.Machine.execOrbTrackerSample tick t s
  | .orbVoltagePresent => Sys2Proof.Machine.execOrbVoltagePresent s
  | .orbVoltageAbsent => Sys2Proof.Machine.execOrbVoltageAbsent s
  | .orbLockAchieved => Sys2Proof.Machine.execOrbLockAchieved s
  | .orbLockLost => Sys2Proof.Machine.execOrbLockLost s
  | .orbFlywheelLimit => Sys2Proof.Machine.execOrbFlywheelLimit s
  | .orbTrackDisable m => Sys2Proof.Machine.execOrbTrackDisable m s
  | .orbFollowEnter => Sys2Proof.Machine.execOrbFollowEnter s
  | .orbGroupLoss => Sys2Proof.Machine.execOrbGroupLoss s
  | .orbConfigWrite m which value => Sys2Proof.Machine.execOrbConfigWrite m which value s
  | .orbConfigApply => Sys2Proof.Machine.execOrbConfigApply s
  | .orbPeriodCompute => Sys2Proof.Machine.execOrbPeriodCompute s
  | .orbSlotIssue slot tick eccBad => Sys2Proof.Machine.execOrbSlotIssue slot tick eccBad s
  | .orbSlotInactWrite m index value => Sys2Proof.Machine.execOrbSlotInactWrite m index value s
  | .orbBankSwap m epochInc => Sys2Proof.Machine.execOrbBankSwap m epochInc s
  | .orbBankSwitch => Sys2Proof.Machine.execOrbBankSwitch s
  | .clrOvr m => Sys2Proof.Machine.execClrOvr m s
  | .clrStale m => Sys2Proof.Machine.execClrStale m s
  | .cpMismatch p => Sys2Proof.Machine.execCpMismatch p s
  | .cpTcmDed p => Sys2Proof.Machine.execCpTcmDed p s
  | .cpComparatorTest reportedA reportedB => Sys2Proof.Machine.execCpComparatorTest reportedA reportedB s
  | .cpDelayParity p => Sys2Proof.Machine.execCpDelayParity p s
  | .cpAgreeFix p input value => Sys2Proof.Machine.execCpAgreeFix p input value s
  | .cpAgreeFault p => Sys2Proof.Machine.execCpAgreeFault p s
  | .debugHalt p count => Sys2Proof.Machine.execDebugHalt p count s
  | .debugResume p count => Sys2Proof.Machine.execDebugResume p count s
  | .debugStep p count => Sys2Proof.Machine.execDebugStep p count s
  | .debugAbstractCmd p count => Sys2Proof.Machine.execDebugAbstractCmd p count s
  | .debugProgbuf p count => Sys2Proof.Machine.execDebugProgbuf p count s
  | .debugReplay p => Sys2Proof.Machine.execDebugReplay p s
  | .sweepCapture p main checker => Sys2Proof.Machine.execSweepCapture p main checker s
  | .sweepForced p main checker => Sys2Proof.Machine.execSweepForced p main checker s
  | .standbyWriteSuppress p addr value => Sys2Proof.Machine.execStandbyWriteSuppress p addr value s
  | .mirrorWriteThrough p addr data => Sys2Proof.Machine.execMirrorWriteThrough p addr data s
  | .cpTakeover => Sys2Proof.Machine.execCpTakeover s
  | .cpTakeoverInterrupt p => Sys2Proof.Machine.execCpTakeoverInterrupt p s
  | .cpFatalDelay => Sys2Proof.Machine.execCpFatalDelay s
  | .orderlySafeState => Sys2Proof.Machine.execOrderlySafeState s
  | .cpEnable m p => Sys2Proof.Machine.execCpEnable m p s
  | .cpDisable m p => Sys2Proof.Machine.execCpDisable m p s
  | .cpSelftestDone p pass => Sys2Proof.Machine.execCpSelftestDone p pass s
  | .cpActivate p => Sys2Proof.Machine.execCpActivate p s
  | .cpSyncCopyDone p => Sys2Proof.Machine.execCpSyncCopyDone p s
  | .cpStandbyEnter p => Sys2Proof.Machine.execCpStandbyEnter p s
  | .cpCmdTakeover m => Sys2Proof.Machine.execCpCmdTakeover m s
  | .rejoinCmd m p => Sys2Proof.Machine.execRejoinCmd m p s
  | .cpMirrorWrite m base size => Sys2Proof.Machine.execCpMirrorWrite m base size s
  | .clrFence m => Sys2Proof.Machine.execClrFence m s
  | .clrSuppress m => Sys2Proof.Machine.execClrSuppress m s
  | .clrEcc m => Sys2Proof.Machine.execClrEcc m s
  | .leJobStart slot => Sys2Proof.Machine.execLeJobStart slot s
  | .leJobEnd e => Sys2Proof.Machine.execLeJobEnd e s
  | .lePhaseWrite e slot => Sys2Proof.Machine.execLePhaseWrite e slot s
  | .leMissedWrite e => Sys2Proof.Machine.execLeMissedWrite e s
  | .leOverrunFault e => Sys2Proof.Machine.execLeOverrunFault e s
  | .leFault e kind => Sys2Proof.Machine.execLeFault e kind s
  | .leCoverFailover y => Sys2Proof.Machine.execLeCoverFailover y s
  | .leCmdSwap m e => Sys2Proof.Machine.execLeCmdSwap m e s
  | .leBankSwitch e => Sys2Proof.Machine.execLeBankSwitch e s
  | .leEnable m e => Sys2Proof.Machine.execLeEnable m e s
  | .leDisable m e => Sys2Proof.Machine.execLeDisable m e s
  | .leSelftestDone e pass => Sys2Proof.Machine.execLeSelftestDone e pass s
  | .leSelftestCmd m e => Sys2Proof.Machine.execLeSelftestCmd m e s
  | .leReturnCmd m e => Sys2Proof.Machine.execLeReturnCmd m e s
  | .leReturnApply e => Sys2Proof.Machine.execLeReturnApply e s
  | .leInjArm m e inj arm frames => Sys2Proof.Machine.execLeInjArm m e inj arm frames s
  | .leInjEnd e inj => Sys2Proof.Machine.execLeInjEnd e inj s
  | .captureBurstArm slot => Sys2Proof.Machine.execCaptureBurstArm slot s
  | .captureBurstSample e c => Sys2Proof.Machine.execCaptureBurstSample e c s
  | .leCntClr m e mask => Sys2Proof.Machine.execLeCntClr m e mask s
  | .leImgInactWrite m e index value => Sys2Proof.Machine.execLeImgInactWrite m e index value s
  | .pwmCommit src mask => Sys2Proof.Machine.execPwmCommit src mask s
  | .pwmShadowWrite m p r value => Sys2Proof.Machine.execPwmShadowWrite m p r value s
  | .cutoffFreeze c peak => Sys2Proof.Machine.execCutoffFreeze c peak s
  | .commitPoint c => Sys2Proof.Machine.execCommitPoint c s
  | .clEnable m c en => Sys2Proof.Machine.execClEnable m c en s
  | .clSoftReset m c => Sys2Proof.Machine.execClSoftReset m c s
  | .clPeriodWrite m c value => Sys2Proof.Machine.execClPeriodWrite m c value s
  | .pwmValley c => Sys2Proof.Machine.execPwmValley c s
  | .pwmInterlock p => Sys2Proof.Machine.execPwmInterlock p s
  | .pwmEscRelease m mask => Sys2Proof.Machine.execPwmEscRelease m mask s
  | .tripActivate n level blanked => Sys2Proof.Machine.execTripActivate n level blanked s
  | .tripBlankEnd n => Sys2Proof.Machine.execTripBlankEnd n s
  | .tripLatchClear m mask => Sys2Proof.Machine.execTripLatchClear m mask s
  | .pwmForceWrite m p fh fl => Sys2Proof.Machine.execPwmForceWrite m p fh fl s
  | .pwmSafeEnter cause => Sys2Proof.Machine.execPwmSafeEnter cause s
  | .pwmSafeCmdEnter m => Sys2Proof.Machine.execPwmSafeCmdEnter m s
  | .pwmSafeClear m => Sys2Proof.Machine.execPwmSafeClear m s
  | .pwmClkLoss => Sys2Proof.Machine.execPwmClkLoss s
  | .pwmCalDone failed => Sys2Proof.Machine.execPwmCalDone failed s
  | .pwmClrShort m => Sys2Proof.Machine.execPwmClrShort m s
  | .pwmClrXlock m => Sys2Proof.Machine.execPwmClrXlock m s
  | .pwmClrLate m => Sys2Proof.Machine.execPwmClrLate m s
  | .drvLegUse m leg => Sys2Proof.Machine.execDrvLegUse m leg s
  | .drvLegUnuse m leg tested pass => Sys2Proof.Machine.execDrvLegUnuse m leg tested pass s
  | .drvInitDone leg => Sys2Proof.Machine.execDrvInitDone leg s
  | .drvTestDone leg pass => Sys2Proof.Machine.execDrvTestDone leg pass s
  | .drvTestStart m leg => Sys2Proof.Machine.execDrvTestStart m leg s
  | .drvArm m leg => Sys2Proof.Machine.execDrvArm m leg s
  | .drvArmEngage leg => Sys2Proof.Machine.execDrvArmEngage leg s
  | .drvDisarm m leg => Sys2Proof.Machine.execDrvDisarm m leg s
  | .drvDsatOc leg cause gateOn => Sys2Proof.Machine.execDrvDsatOc leg cause gateOn s
  | .drvLegFault leg cause => Sys2Proof.Machine.execDrvLegFault leg cause s
  | .drvSoftoffEnd leg => Sys2Proof.Machine.execDrvSoftoffEnd leg s
  | .drvRetryWaitEnd leg => Sys2Proof.Machine.execDrvRetryWaitEnd leg s
  | .drvTriesReset leg => Sys2Proof.Machine.execDrvTriesReset leg s
  | .drvCmdClear m leg => Sys2Proof.Machine.execDrvCmdClear m leg s
  | .drvEnableCut leg => Sys2Proof.Machine.execDrvEnableCut leg s
  | .drvEnableReturn leg => Sys2Proof.Machine.execDrvEnableReturn leg s
  | .drvDieInterlock leg => Sys2Proof.Machine.execDrvDieInterlock leg s
  | .drvBsWarn leg => Sys2Proof.Machine.execDrvBsWarn leg s
  | .drvBsUv leg => Sys2Proof.Machine.execDrvBsUv leg s
  | .drvBsOk leg hold warn => Sys2Proof.Machine.execDrvBsOk leg hold warn s
  | .drvTransitionMeasure leg rising edge other t => Sys2Proof.Machine.execDrvTransitionMeasure leg rising edge other t s
  | .drvStatusFrame leg f => Sys2Proof.Machine.execDrvStatusFrame leg f s
  | .drvShortCmd leg => Sys2Proof.Machine.execDrvShortCmd leg s
  | .drvOtWarn leg high tj => Sys2Proof.Machine.execDrvOtWarn leg high tj s
  | .drvClrCrc m => Sys2Proof.Machine.execDrvClrCrc m s
  | .drvClrXlock m => Sys2Proof.Machine.execDrvClrXlock m s
  | .sarConversionEnd c v => Sys2Proof.Machine.execSarConversionEnd c v s
  | .sarResultArrive c recent => Sys2Proof.Machine.execSarResultArrive c recent s
  | .sarInjTrigger c src => Sys2Proof.Machine.execSarInjTrigger c src s
  | .swtrig m mask => Sys2Proof.Machine.execSwtrig m mask s
  | .sarFifoPop m c => Sys2Proof.Machine.execSarFifoPop m c s
  | .sarCancelArrive c slot => Sys2Proof.Machine.execSarCancelArrive c slot s
  | .sarEnable m c => Sys2Proof.Machine.execSarEnable m c s
  | .sarDisable m c => Sys2Proof.Machine.execSarDisable m c s
  | .sarInitDone c refOk => Sys2Proof.Machine.execSarInitDone c refOk s
  | .sarCheckCmd m mask => Sys2Proof.Machine.execSarCheckCmd m mask s
  | .sarCheckDone c c8 c9 c11 => Sys2Proof.Machine.execSarCheckDone c c8 c9 c11 s
  | .sarRefFault c => Sys2Proof.Machine.execSarRefFault c s
  | .sarSoftReset m mask => Sys2Proof.Machine.execSarSoftReset m mask s
  | .sarPacketGap c n => Sys2Proof.Machine.execSarPacketGap c n s
  | .sarConfigWrite m c r value tick => Sys2Proof.Machine.execSarConfigWrite m c r value tick s
  | .sarConfigCommit c => Sys2Proof.Machine.execSarConfigCommit c s
  | .snsClrCrc m => Sys2Proof.Machine.execSnsClrCrc m s
  | .snsClrSar m => Sys2Proof.Machine.execSnsClrSar m s
  | .meterSampleSet words tick => Sys2Proof.Machine.execMeterSampleSet words tick s
  | .cmpOutputChange w v blanked lines => Sys2Proof.Machine.execCmpOutputChange w v blanked lines s
  | .cmpBankTick b lines => Sys2Proof.Machine.execCmpBankTick b lines s
  | .cmpWindowEnable m w => Sys2Proof.Machine.execCmpWindowEnable m w s
  | .cmpWindowDisable m w => Sys2Proof.Machine.execCmpWindowDisable m w s
  | .cmpWindowArm w v => Sys2Proof.Machine.execCmpWindowArm w v s
  | .cmpConfigWrite m w r value tick => Sys2Proof.Machine.execCmpConfigWrite m w r value tick s
  | .cmpConfigCommit b => Sys2Proof.Machine.execCmpConfigCommit b s
  | .cmpDacHoldEnd w => Sys2Proof.Machine.execCmpDacHoldEnd w s
  | .cmpBlankEnd w => Sys2Proof.Machine.execCmpBlankEnd w s
  | .cmpLcheck m b => Sys2Proof.Machine.execCmpLcheck m b s
  | .cmpLcheckStepEnd w step r => Sys2Proof.Machine.execCmpLcheckStepEnd w step r s
  | .cmpLcheckEnd b => Sys2Proof.Machine.execCmpLcheckEnd b s
  | .cmpBankSoftReset m b => Sys2Proof.Machine.execCmpBankSoftReset m b s
  | .gsRtEnter e => Sys2Proof.Machine.execGsRtEnter e s
  | .gsExitHold => Sys2Proof.Machine.execGsExitHold s
  | .gsCurveViolation => Sys2Proof.Machine.execGsCurveViolation s
  | .gsZvTimeout => Sys2Proof.Machine.execGsZvTimeout s
  | .gsReferenceWrite => Sys2Proof.Machine.execGsReferenceWrite s
  | .gsEnable m => Sys2Proof.Machine.execGsEnable m s
  | .gsDisable m => Sys2Proof.Machine.execGsDisable m s
  | .gsProfileSwitch => Sys2Proof.Machine.execGsProfileSwitch s
  | .eePassiveTrip det => Sys2Proof.Machine.execEePassiveTrip det s
  | .eeSegmentEnd => Sys2Proof.Machine.execEeSegmentEnd s
  | .eeClear m => Sys2Proof.Machine.execEeClear m s
  | .eeRebase m => Sys2Proof.Machine.execEeRebase m s
  | .peStep => Sys2Proof.Machine.execPeStep s
  | .peNosamp n => Sys2Proof.Machine.execPeNosamp n s
  | .peCurtailEnter => Sys2Proof.Machine.execPeCurtailEnter s
  | .peCurtailLeave => Sys2Proof.Machine.execPeCurtailLeave s
  | .peShade n => Sys2Proof.Machine.execPeShade n s
  | .peSweepSchedule n => Sys2Proof.Machine.execPeSweepSchedule n s
  | .peSweepCmd m mask => Sys2Proof.Machine.execPeSweepCmd m mask s
  | .peVocEnd => Sys2Proof.Machine.execPeVocEnd s
  | .peSweepPoint => Sys2Proof.Machine.execPeSweepPoint s
  | .peSweepSearch => Sys2Proof.Machine.execPeSweepSearch s
  | .pePairBlocked n => Sys2Proof.Machine.execPePairBlocked n s
  | .pePairUnblocked n => Sys2Proof.Machine.execPePairUnblocked n s
  | .peChannelEnable m n => Sys2Proof.Machine.execPeChannelEnable m n s
  | .peChannelDisable m n => Sys2Proof.Machine.execPeChannelDisable m n s
  | .peProfileSwitch => Sys2Proof.Machine.execPeProfileSwitch s
  | .meGranuleClose => Sys2Proof.Machine.execMeGranuleClose s
  | .meGranuleLost => Sys2Proof.Machine.execMeGranuleLost s
  | .meIntervalBoundary => Sys2Proof.Machine.execMeIntervalBoundary s
  | .meCkptPeriod => Sys2Proof.Machine.execMeCkptPeriod s
  | .meCkptStore => Sys2Proof.Machine.execMeCkptStore s
  | .meSnap m => Sys2Proof.Machine.execMeSnap m s
  | .meSnapAck m => Sys2Proof.Machine.execMeSnapAck m s
  | .meCkpt m => Sys2Proof.Machine.execMeCkpt m s
  | .meCkptAck m => Sys2Proof.Machine.execMeCkptAck m s
  | .meIvalClose m => Sys2Proof.Machine.execMeIvalClose m s
  | .meRestore m => Sys2Proof.Machine.execMeRestore m s
  | .meClrCounts m => Sys2Proof.Machine.execMeClrCounts m s
  | .meEnable m => Sys2Proof.Machine.execMeEnable m s
  | .meDisable m => Sys2Proof.Machine.execMeDisable m s
  | .meCalWrite m r value => Sys2Proof.Machine.execMeCalWrite m r value s
  | .meCalLock m => Sys2Proof.Machine.execMeCalLock m s
  | .meCalRestore => Sys2Proof.Machine.execMeCalRestore s
  | .linkEnable m l => Sys2Proof.Machine.execLinkEnable m l s
  | .linkDisable m l => Sys2Proof.Machine.execLinkDisable m l s
  | .laneTsReceived k t => Sys2Proof.Machine.execLaneTsReceived k t s
  | .laneConfigDone k => Sys2Proof.Machine.execLaneConfigDone k s
  | .linkTrainTimeout l => Sys2Proof.Machine.execLinkTrainTimeout l s
  | .laneLatencyMeasured k td => Sys2Proof.Machine.execLaneLatencyMeasured k td s
  | .linkUp l => Sys2Proof.Machine.execLinkUp l s
  | .linkBndReceive l arrival tag mask => Sys2Proof.Machine.execLinkBndReceive l arrival tag mask s
  | .dfeWindowEnd k s1 s2 s3 transitions ordered => Sys2Proof.Machine.execDfeWindowEnd k s1 s2 s3 transitions ordered s
  | .laneFomSample k fom => Sys2Proof.Machine.execLaneFomSample k fom s
  | .laneIdleEnter l tick => Sys2Proof.Machine.execLaneIdleEnter l tick s
  | .laneIdleExit l => Sys2Proof.Machine.execLaneIdleExit l s
  | .laneLatencyRemeasure k td => Sys2Proof.Machine.execLaneLatencyRemeasure k td s
  | .cometPacketReceive l ok => Sys2Proof.Machine.execCometPacketReceive l ok s
  | .markerReceive l words resid => Sys2Proof.Machine.execMarkerReceive l words resid s
  | .eeBroadcastReceive l words => Sys2Proof.Machine.execEeBroadcastReceive l words s
  | .sampleReceive l words => Sys2Proof.Machine.execSampleReceive l words s
  | .statusReceive l words => Sys2Proof.Machine.execStatusReceive l words s
  | .safetyPduReceive l seq addr words => Sys2Proof.Machine.execSafetyPduReceive l seq addr words s
  | .shareReceive l words => Sys2Proof.Machine.execShareReceive l words s
  | .tunnelReceive l addr w0 bytes => Sys2Proof.Machine.execTunnelReceive l addr w0 bytes s
  | .cometPacketStart l tick => Sys2Proof.Machine.execCometPacketStart l tick s
  | .cometLaneSend slot => Sys2Proof.Machine.execCometLaneSend slot s
  | .safeTxQueue m mask => Sys2Proof.Machine.execSafeTxQueue m mask s
  | .linkShedEvaluate l => Sys2Proof.Machine.execLinkShedEvaluate l s
  | .laneLoss k cause tick => Sys2Proof.Machine.execLaneLoss k cause tick s
  | .lstatReceive l lost ready tag tick => Sys2Proof.Machine.execLstatReceive l lost ready tag tick s
  | .laneRemove k => Sys2Proof.Machine.execLaneRemove k s
  | .laneReadyMark k tick => Sys2Proof.Machine.execLaneReadyMark k tick s
  | .laneReinstate k => Sys2Proof.Machine.execLaneReinstate k s
  | .cometRetrain m mask => Sys2Proof.Machine.execCometRetrain m mask s
  | .cometRemeasure m mask => Sys2Proof.Machine.execCometRemeasure m mask s
  | .cometClrStats m => Sys2Proof.Machine.execCometClrStats m s
  | .laneTestEnter m k loop pat chk => Sys2Proof.Machine.execLaneTestEnter m k loop pat chk s
  | .laneTestExit m k => Sys2Proof.Machine.execLaneTestExit m k s
  | .lanePatternError k n => Sys2Proof.Machine.execLanePatternError k n s
  | .xmonFrame toHsl f => Sys2Proof.Machine.execXmonFrame toHsl f s
  | .xmonTimeout bySc => Sys2Proof.Machine.execXmonTimeout bySc s
  | .xmonDiscrepancy => Sys2Proof.Machine.execXmonDiscrepancy s
  | .safeSf1Demand n present => Sys2Proof.Machine.execSafeSf1Demand n present s
  | .sinSample levels t => Sys2Proof.Machine.execSinSample levels t s
  | .safeSf2Demand f => Sys2Proof.Machine.execSafeSf2Demand f s
  | .safeSf2Release f => Sys2Proof.Machine.execSafeSf2Release f s
  | .safeSf4Apply hsl => Sys2Proof.Machine.execSafeSf4Apply hsl s
  | .safeSf4Release => Sys2Proof.Machine.execSafeSf4Release s
  | .tpoPulse src before early window readback => Sys2Proof.Machine.execTpoPulse src before early window readback s
  | .commKeyPress inWindow held => Sys2Proof.Machine.execCommKeyPress inWindow held s
  | .confirmWindowExpire => Sys2Proof.Machine.execConfirmWindowExpire s
  | .safeConnectRequest => Sys2Proof.Machine.execSafeConnectRequest s
  | .safePreEnergiseStep h l => Sys2Proof.Machine.execSafePreEnergiseStep h l s
  | .safeContactCheck a b held => Sys2Proof.Machine.execSafeContactCheck a b held s
  | .safeDisconnectRequest => Sys2Proof.Machine.execSafeDisconnectRequest s
  | .relayOffPulse slot => Sys2Proof.Machine.execRelayOffPulse slot s
  | .relayOffPulseEnd offSeen otherKept onSeen => Sys2Proof.Machine.execRelayOffPulseEnd offSeen otherKept onSeen s
  | .relayReadbackFault n high => Sys2Proof.Machine.execRelayReadbackFault n high s
  | .reconnectTimerExpire => Sys2Proof.Machine.execReconnectTimerExpire s
  | .hslGridWindowTrip mask freq => Sys2Proof.Machine.execHslGridWindowTrip mask freq s
  | .hslAnalogWindowTrip w trip => Sys2Proof.Machine.execHslAnalogWindowTrip w trip s
  | .hslWindowsArm => Sys2Proof.Machine.execHslWindowsArm s
  | .pduSend c type payload => Sys2Proof.Machine.execPduSend c type payload s
  | .pduWatchdogExpire c => Sys2Proof.Machine.execPduWatchdogExpire c s
  | .safeSelfCheckFail => Sys2Proof.Machine.execSafeSelfCheckFail s
  | .spiWriteTransfer bytes => Sys2Proof.Machine.execSpiWriteTransfer bytes s
  | .spiReadTransfer n => Sys2Proof.Machine.execSpiReadTransfer n s
  | .serviceUartByte b => Sys2Proof.Machine.execServiceUartByte b s
  | .serviceGapAbort => Sys2Proof.Machine.execServiceGapAbort s
  | .tppSessionTimeout p => Sys2Proof.Machine.execTppSessionTimeout p s
  | .recordStagingTimeout k => Sys2Proof.Machine.execRecordStagingTimeout k s
  | .hello => Sys2Proof.Machine.execHello s
  | .bye => Sys2Proof.Machine.execBye s
  | .keyOffer => Sys2Proof.Machine.execKeyOffer s
  | .keyProof => Sys2Proof.Machine.execKeyProof s
  | .keyCipher => Sys2Proof.Machine.execKeyCipher s
  | .keyOwner => Sys2Proof.Machine.execKeyOwner s
  | .bdrWrite => Sys2Proof.Machine.execBdrWrite s
  | .bdrCommit => Sys2Proof.Machine.execBdrCommit s
  | .bdrRead => Sys2Proof.Machine.execBdrRead s
  | .gprWrite => Sys2Proof.Machine.execGprWrite s
  | .gprCommit => Sys2Proof.Machine.execGprCommit s
  | .gprRead => Sys2Proof.Machine.execGprRead s
  | .connect => Sys2Proof.Machine.execConnect s
  | .disconnect => Sys2Proof.Machine.execDisconnect s
  | .syncWindowMet => Sys2Proof.Machine.execSyncWindowMet s
  | .syncTimeout => Sys2Proof.Machine.execSyncTimeout s
  | .disconnectGsStop => Sys2Proof.Machine.execDisconnectGsStop s
  | .disconnectPwmSafe => Sys2Proof.Machine.execDisconnectPwmSafe s
  | .setP => Sys2Proof.Machine.execSetP s
  | .setQ => Sys2Proof.Machine.execSetQ s
  | .curtail => Sys2Proof.Machine.execCurtail s
  | .mode => Sys2Proof.Machine.execMode s
  | .status => Sys2Proof.Machine.execStatus s
  | .setpoint => Sys2Proof.Machine.execSetpoint s
  | .meterRead => Sys2Proof.Machine.execMeterRead s
  | .meterSnapshot => Sys2Proof.Machine.execMeterSnapshot s
  | .meterSnapRead => Sys2Proof.Machine.execMeterSnapRead s
  | .meterInterval => Sys2Proof.Machine.execMeterInterval s
  | .meterInst => Sys2Proof.Machine.execMeterInst s
  | .meterCal => Sys2Proof.Machine.execMeterCal s
  | .meterCalLock => Sys2Proof.Machine.execMeterCalLock s
  | .sprWrite => Sys2Proof.Machine.execSprWrite s
  | .sprCommit => Sys2Proof.Machine.execSprCommit s
  | .sprConfirm => Sys2Proof.Machine.execSprConfirm s
  | .safetyReset => Sys2Proof.Machine.execSafetyReset s
  | .safetyStatus => Sys2Proof.Machine.execSafetyStatus s
  | .pduPut => Sys2Proof.Machine.execPduPut s
  | .pduGet => Sys2Proof.Machine.execPduGet s
  | .imageWrite => Sys2Proof.Machine.execImageWrite s
  | .imageCommit => Sys2Proof.Machine.execImageCommit s
  | .imageActivate => Sys2Proof.Machine.execImageActivate s
  | .attest => Sys2Proof.Machine.execAttest s
  | .certRead => Sys2Proof.Machine.execCertRead s
  | .lcToken cut => Sys2Proof.Machine.execLcToken cut s
  | .debugToken => Sys2Proof.Machine.execDebugToken s
  | .tokenStagingTimeout => Sys2Proof.Machine.execTokenStagingTimeout s
  | .selftest sar drv cmp le => Sys2Proof.Machine.execSelftest sar drv cmp le s
  | .drvClear => Sys2Proof.Machine.execDrvClear s
  | .faultClear => Sys2Proof.Machine.execFaultClear s
  | .regRead => Sys2Proof.Machine.execRegRead s
  | .regWrite => Sys2Proof.Machine.execRegWrite s
  | .linkStatus => Sys2Proof.Machine.execLinkStatus s
  | .linkTest => Sys2Proof.Machine.execLinkTest s
  | .linkRetrain => Sys2Proof.Machine.execLinkRetrain s
  | .tunnel => Sys2Proof.Machine.execTunnel s
  | .logRead => Sys2Proof.Machine.execLogRead s
  | .logInfo => Sys2Proof.Machine.execLogInfo s
  | .timeSet => Sys2Proof.Machine.execTimeSet s
  | .timeGet => Sys2Proof.Machine.execTimeGet s
  | .notifyCfg => Sys2Proof.Machine.execNotifyCfg s
  | .inject => Sys2Proof.Machine.execInject s
  | .captureCfg => Sys2Proof.Machine.execCaptureCfg s
  | .captureRead => Sys2Proof.Machine.execCaptureRead s
  | .leMode => Sys2Proof.Machine.execLeMode s
  | .powerState => Sys2Proof.Machine.execPowerState s
  | .powerStatus => Sys2Proof.Machine.execPowerStatus s
  | .softReset => Sys2Proof.Machine.execSoftReset s
  | .bootRomRun ext edges => Sys2Proof.Machine.execBootRomRun ext edges s
  | .bootComplete => Sys2Proof.Machine.execBootComplete s
  | .imageTrialPromote t blown => Sys2Proof.Machine.execImageTrialPromote t blown s
  | .trngHealthFail => Sys2Proof.Machine.execTrngHealthFail s
  | .cvuByte u b => Sys2Proof.Machine.execCvuByte u b s
  | .cvuMessageClose u => Sys2Proof.Machine.execCvuMessageClose u s
  | .cvuStart m u => Sys2Proof.Machine.execCvuStart m u s
  | .cvuEnd m u => Sys2Proof.Machine.execCvuEnd m u s
  | .cvuClr m u => Sys2Proof.Machine.execCvuClr m u s
  | .cvuPause m u on => Sys2Proof.Machine.execCvuPause m u on s
  | .cvuRunWrite m u status value => Sys2Proof.Machine.execCvuRunWrite m u status value s
  | .umbColdStart mv => Sys2Proof.Machine.execUmbColdStart mv s
  | .umbRecoveryEnd mv tamper plugN vdd bad => Sys2Proof.Machine.execUmbRecoveryEnd mv tamper plugN vdd bad s
  | .umbVddRise => Sys2Proof.Machine.execUmbVddRise s
  | .umbVddFall => Sys2Proof.Machine.execUmbVddFall s
  | .umbDead phase2 => Sys2Proof.Machine.execUmbDead phase2 s
  | .umbRefresh mv ticks harvest => Sys2Proof.Machine.execUmbRefresh mv ticks harvest s
  | .umbInputSample tamper plugN => Sys2Proof.Machine.execUmbInputSample tamper plugN s
  | .umbTimeSetWrite m sec => Sys2Proof.Machine.execUmbTimeSetWrite m sec s
  | .umbLogPut m => Sys2Proof.Machine.execUmbLogPut m s
  | .umbOscTrim => Sys2Proof.Machine.execUmbOscTrim s
  | .umbCapMeasured us => Sys2Proof.Machine.execUmbCapMeasured us s
  | .refLoss => Sys2Proof.Machine.execRefLoss s
  | .pllLock p => Sys2Proof.Machine.execPllLock p s
  | .pllUnlock p => Sys2Proof.Machine.execPllUnlock p s
  | .clkCalStart m mask edges => Sys2Proof.Machine.execClkCalStart m mask edges s
  | .rampRun m => Sys2Proof.Machine.execRampRun m s
  | .rampStop m => Sys2Proof.Machine.execRampStop m s
  | .rampSegmentEnd => Sys2Proof.Machine.execRampSegmentEnd s
  | .supWarn vdd vdda => Sys2Proof.Machine.execSupWarn vdd vdda s
  | .supHoldExpire => Sys2Proof.Machine.execSupHoldExpire s
  | .supRecover vdd vdda us => Sys2Proof.Machine.execSupRecover vdd vdda us s
  | .vddioLoss => Sys2Proof.Machine.execVddioLoss s
  | .porst dark => Sys2Proof.Machine.execPorst dark s
  | .pinrst => Sys2Proof.Machine.execPinrst s
  | .wdrst => Sys2Proof.Machine.execWdrst s
  | .wdtKick m key => Sys2Proof.Machine.execWdtKick m key s
  | .fatalrst => Sys2Proof.Machine.execFatalrst s
  | .softrst m mask => Sys2Proof.Machine.execSoftrst m mask s
  | .pwrTransitionDone => Sys2Proof.Machine.execPwrTransitionDone s
  | .wakeSource b => Sys2Proof.Machine.execWakeSource b s
  | .indicatorSlot => Sys2Proof.Machine.execIndicatorSlot s
  | .vddioRecover => Sys2Proof.Machine.execVddioRecover s
  | .referenceReturn => Sys2Proof.Machine.execReferenceReturn s
  | .laneProbeReceive k seq turnaround => Sys2Proof.Machine.execLaneProbeReceive k seq turnaround s
  | .linkTestEnd => Sys2Proof.Machine.execLinkTestEnd s
  | .tunnelTimeout => Sys2Proof.Machine.execTunnelTimeout s

end Sys2Proof.Machine
end

