-- ==== Sys2Proof/Safety.lean ====
section
/-! DEFINITION. Safety.lean: what the statements call a well-kept state, a frame, a raised event and an inhibited power stage. -/

namespace Sys2Proof.Machine
namespace State

/-- Every memory of the module stands in its canonical form, and every register field and memory byte has one value: the shared SRAM,
the capture buffer and the memories of MC and SC hold no entry equal to what an unlisted byte reads as; a TCM may, beside free
contents. -/
structure Canonical (s : State) : Prop where
  regs : keysRise s.regs = true
  sram : Memory.wf s.sram
  capture : Memory.wf s.capture
  mcMem : Memory.wf s.mcMem
  scMem : Memory.wf s.scMem
  tcmA : keysRise s.tcmA = true
  tcmB : keysRise s.tcmB = true

/-- Every list with one entry for each unit of a fixed number has that number of entries: the 24 PWM pairs, 3 clusters and 16 trip
lines, the 6 legs, the 8 converters, the 16 windows and 2 banks of the comparators, the 6 channels of Perihelion, the 4 links and 4
lanes of Comet, the 6 units of the CVU, the 8 tunnels of TPP and the 4 image types. -/
structure Shaped (s : State) : Prop where
  pwmPairs : s.pwm.pairs.length = 24
  pwmClusters : s.pwm.clusters.length = 3
  tripLines : s.pwm.lines.length = 16
  legs : s.drv.legs.length = 6
  sars : s.sense.sars.length = 8
  wins : s.cmp.wins.length = 16
  banks : s.cmp.banks.length = 2
  chans : s.pe.chans.length = 6
  links : s.cmt.links.length = 4
  lanes : s.cmt.lanes.length = 4
  alive : s.cvu.alive.length = 6
  tunnels : s.tpp.tunnels.length = 8
  loaded : s.sec.loaded.length = 4
  trial : s.nv.trial.length = 4

/-- The register list holds one value for each field. -/
abbrev regsOk (s : State) : Prop := keysRise s.regs = true

/-- Every register field but those of the list reads in `t` as in `s`. -/
def regsBut (s t : State) (fs : List Fld) : Prop := ∀ f : Fld, (∀ g ∈ fs, f.key ≠ g.key) → t.rd f = s.rd f

/-- A key of the pending words and of the coalescing count of the event fabric, the registers that an event writes (R71, R74). -/
abbrev evKey (k : Nat) : Prop := 0x400B0300 * 32 ≤ k ∧ k < 0x400B0394 * 32

/-- Every register field but those of the list, and but those that an event writes, reads in `t` as in `s`. -/
def regsButEv (s t : State) (fs : List Fld) : Prop := ∀ f : Fld, (∀ g ∈ fs, f.key ≠ g.key) → ¬ evKey f.key → t.rd f = s.rd f

/-- No byte of any memory of the module differs between `s` and `t` (R44, R69). -/
def memsSame (s t : State) : Prop :=
  t.sram = s.sram ∧ t.capture = s.capture ∧ t.tcmA = s.tcmA ∧ t.tcmB = s.tcmB ∧ t.mcMem = s.mcMem ∧ t.scMem = s.scMem

/-- The state after an access that is acknowledged (R7). -/
abbrev acked (s : State) : State := { s with bus := .ok }

/-- The pending bit of a source at a target (R74). -/
def pendingAt (s : State) (target ev : Nat) : Bool := hasBit (s.rd (Reg.EVF_PEND_PEND target (ev / 32))) (ev % 32)

/-- A source is pending in `t` at every target to which `s` routes it (R71). -/
def raisedIn (s t : State) (ev : Nat) : Prop := ∀ g, g < 6 → hasBit (s.eventTargets ev) g = true → t.pendingAt g ev = true

/-- The read-only fields that show the state of converter `c` (R249). -/
abbrev sarShown (c : Nat) : List Fld :=
  [Reg.SNS_STATUS_INJ_BUSY, Reg.SNS_STATUS_RUN, Reg.SAR_STATUS_STATE c, Reg.SAR_STATUS_QUEUED c, Reg.SAR_STATUS_LEVEL c,
   Reg.SAR_STATUS_CFG_PEND c, Reg.SAR_STATUS_NEXT c]

/-- The register fields of Umbra that staging and writing a record change (R470, R472, R474). -/
abbrev umbLogged : List Fld :=
  [Reg.UMB_STATUS_STAGED, Reg.UMB_FLAGS_DEFER, Reg.UMB_FLAGS_LOST, Reg.UMB_LOG_LOST_COUNT, Reg.UMB_LOG_HEAD_NEWEST, Reg.UMB_LOG_HEAD_COUNT,
   Reg.UMB_LOG_OLDEST_SEQ, Reg.UMB_LOG_IDX_VALID, Reg.UMB_LOG_RD_WORD 0, Reg.UMB_LOG_RD_WORD 1, Reg.UMB_LOG_RD_WORD 2, Reg.UMB_LOG_RD_WORD 3]

/-- What a package reset leaves (R490, R493): `BOOT` in `RUN` with the boot ROM due; every memory empty; every field outside Umbra that
only `PORST` does not hold at its reset value; Umbra and the queue untouched. -/
def AfterPackageReset (s t : State) : Prop :=
  t.oper = .boot ∧ t.sec.romDue = true ∧ t.sec.package = true ∧ t.umb = s.umb ∧ t.pending = s.pending ∧ t.sram = [] ∧ t.capture = [] ∧
    t.tcmA = [] ∧ t.tcmB = [] ∧ t.mcMem = [] ∧ t.scMem = [] ∧ t.nv.otp = s.nv.otp ∧ t.nv.flash = s.nv.flash ∧ t.nv.spr = s.nv.spr ∧
    (∀ f : Fld, f.lo < 32 → 0x400F0000 ≤ f.addr → t.rd f = s.rd f) ∧
    (∀ f : Fld, f.lo < 32 → f.addr < 0x400F0000 → f.key ∉ porstKeys → t.rd f = f.rst)

/-- PWM stands in its latched safe state (R192, R193). -/
def pwmLatched (s : State) : Bool := s.on Reg.PWM_SAFE_STATUS_LATCHED

/-- No relay switch of either channel is energised (R377). -/
def relaysOpen (s : State) : Bool := s.safety.rlyH == 0 && s.safety.rlyL == 0

/-- The request `r` is at the head of the queue, carries an opcode, came while its port could take it and passes every check, and MC
executes no other (R401, R402). -/
abbrev Heads (s : State) (op : Nat) (r : Request) : Prop :=
  s.tpp.queue.head? = some r ∧ r.opcode = op ∧ r.busy = false ∧ s.tppBusy = false ∧ s.oper ≠ .boot ∧ s.check? r = none

/-- The request has left the queue, and its SEQ is that of the last accepted one (R401). -/
abbrev taken (s : State) (r : Request) : State := s.dropHead.accept r

/-- The request is answered, and MC takes what comes next (R402). -/
abbrev replied (s : State) (r : Request) (status : Nat) (payload : List Byte) : State := (s.answer r status payload).pumpAll

end State

/-- The opcode of a command that executes a TPP request (R417). -/
def tppOpcode? : Instr → Option Nat
  | .hello => some 0x0100
  | .bye => some 0x0101
  | .keyOffer => some 0x0102
  | .keyProof => some 0x0103
  | .keyCipher => some 0x0104
  | .keyOwner => some 0x0105
  | .bdrWrite => some 0x0200
  | .bdrCommit => some 0x0201
  | .bdrRead => some 0x0202
  | .gprWrite => some 0x0300
  | .gprCommit => some 0x0301
  | .gprRead => some 0x0302
  | .connect => some 0x0400
  | .disconnect => some 0x0401
  | .setP => some 0x0402
  | .setQ => some 0x0403
  | .curtail => some 0x0404
  | .mode => some 0x0405
  | .status => some 0x0406
  | .setpoint => some 0x0407
  | .meterRead => some 0x0500
  | .meterSnapshot => some 0x0501
  | .meterSnapRead => some 0x0502
  | .meterInterval => some 0x0503
  | .meterInst => some 0x0504
  | .meterCal => some 0x0505
  | .meterCalLock => some 0x0506
  | .sprWrite => some 0x0600
  | .sprCommit => some 0x0601
  | .sprConfirm => some 0x0602
  | .safetyReset => some 0x0603
  | .safetyStatus => some 0x0604
  | .pduPut => some 0x0605
  | .pduGet => some 0x0606
  | .imageWrite => some 0x0700
  | .imageCommit => some 0x0701
  | .imageActivate => some 0x0702
  | .attest => some 0x0703
  | .certRead => some 0x0704
  | .lcToken _ => some 0x0705
  | .debugToken => some 0x0706
  | .selftest _ _ _ _ => some 0x0800
  | .drvClear => some 0x0801
  | .faultClear => some 0x0802
  | .regRead => some 0x0803
  | .regWrite => some 0x0804
  | .linkStatus => some 0x0900
  | .linkTest => some 0x0901
  | .linkRetrain => some 0x0902
  | .tunnel => some 0x0903
  | .logRead => some 0x0A00
  | .logInfo => some 0x0A01
  | .timeSet => some 0x0A02
  | .timeGet => some 0x0A03
  | .notifyCfg => some 0x0A04
  | .inject => some 0x0B00
  | .captureCfg => some 0x0B01
  | .captureRead => some 0x0B02
  | .leMode => some 0x0B03
  | .powerState => some 0x0C00
  | .powerStatus => some 0x0C01
  | .softReset => some 0x0C02
  | _ => none

/-- Commands that reset a region, reapply records, or write through MC a register that may do so (R46, R412, R490). -/
def actsWidely : Instr → Bool
  | .bdrCommit | .bootComplete | .captureCfg | .drvClear | .fatalrst | .gprCommit | .inject | .leMode | .linkRetrain | .linkTest
  | .linkTestEnd | .mbxApply _ | .meterCal | .meterCalLock | .meterSnapshot | .mode | .pinrst | .porst _ | .pwrTransitionDone
  | .regWrite | .registerWrite _ _ _ _ | .softReset | .softrst _ _ | .wdrst | .wdtKick _ _ => true
  | _ => false

/-- Commands that may store to the shared data SRAM (R44): a write, the images and records that MC places, the results of a sweep. -/
def writesSram : Instr → Bool
  | .bootRomRun _ _ | .disconnectGsStop | .gsCurveViolation | .gsDisable _ | .gsRtEnter _ | .gsZvTimeout | .peChannelDisable _ _
  | .peNosamp _ | .pePairBlocked _ | .peSweepPoint | .peSweepSearch | .powerState | .serviceUartByte _ | .sharedSramWrite _ _ _
  | .spiReadTransfer _ | .spiWriteTransfer _ | .wakeSource _ => true
  | _ => false

/-- Commands that may store to the capture buffer (R167). -/
def writesCapture : Instr → Bool
  | .captureBurstSample _ _ | .frameBoundary | .leJobEnd _ => true
  | _ => false

/-- Commands that may store to the TCM of a pair (R124, R126, R133). -/
def writesTcm : Instr → Bool
  | .cpActivate _ | .cpAgreeFault _ | .cpComparatorTest _ _ | .cpDelayParity _ | .cpEnable _ _ | .cpMismatch _
  | .cpSyncCopyDone _ | .cpTakeover | .cpTcmDed _ | .mirrorWriteThrough _ _ _ | .rejoinCmd _ _ | .standbyWriteSuppress _ _ _
  | .sweepCapture _ _ _ | .sweepForced _ _ _ => true
  | _ => false

/-- Commands that may write the OTP array, the non-volatile store or the image flash (R336, R390, R421, R432). -/
def writesStore : Instr → Bool
  | .bootRomRun _ _ | .commKeyPress _ _ | .imageActivate | .imageCommit | .imageTrialPromote _ _ | .imageWrite | .lcToken _
  | .meCalLock _ | .meCkptStore | .powerState | .serviceUartByte _ | .spiReadTransfer _ | .spiWriteTransfer _ | .sprCommit
  | .wakeSource _ => true
  | _ => false

/-- Commands that may change what Umbra keeps beside its registers (R462, R468). -/
def writesUmbra : Instr → Bool
  | .supRecover _ _ _ | .timeSet | .umbCapMeasured _ | .umbColdStart _ | .umbDead _ | .umbInputSample _ _ | .umbLogPut _
  | .umbOscTrim | .umbRecoveryEnd _ _ _ _ _ | .umbRefresh _ _ _ | .umbTimeSetWrite _ _ | .umbVddFall | .umbVddRise => true
  | _ => false

end Sys2Proof.Machine
end

