-- ==== Sys2Proof/Certificates/Slice0/Obligations.lean ====
section
/-! DEFINITION. Certificates/Slice0/Obligations.lean: the statements for the provers. -/

open Sys2Proof Sys2Proof.Machine

/-- R44: "A write from a region that does not own the partition returns a bus error and writes nothing." -/
def Obligations.SharedSramWriteObeysOwner : Prop :=
  (∀ (s : State) (m : Master) (o : Nat) (data : List Byte), Memory.wf s.sram → o + data.length ≤ 0x80000 →
    (m = .mc ∨ m = .dataRegion ∨ ∃ p, State.masterPair? m = some p ∧ s.pairState p = State.pairActive ∧ s.on (State.fenceFld p) = false) →
    s.shmOwned m o data.length = true →
    ∃ t, exec (.sharedSramWrite m (0x10000000 + o) data) s = .next t ∧ t = { s with sram := t.sram, bus := .ok } ∧
      (∀ i (h : i < data.length), memByte t.sram (o + i) = data[i]) ∧
      (∀ a, (a < o ∨ o + data.length ≤ a) → memByte t.sram a = memByte s.sram a)) ∧
  (∀ (s : State) (m : Master) (addr : Nat) (data : List Byte),
    (m = .mc ∨ m = .dataRegion ∨ ∃ p, State.masterPair? m = some p ∧ s.pairState p = State.pairActive ∧ s.on (State.fenceFld p) = false) →
    (addr < 0x10000000 ∨ 0x10080000 < addr + data.length ∨ s.shmOwned m (addr - 0x10000000) data.length = false) →
    exec (.sharedSramWrite m addr data) s = .next { s with bus := .error })

/-- R53, R55, R60, R61 and R63: the commands of the mailbox and of the digest ring, each with the whole next state. -/
def Obligations.MailboxAndDigestCommandsAct : Prop :=
  (∀ (s : State) (m : Master) (i v : Nat), i < 64 → s.right m (0x400C0100 + 4 * i) .mr = .allow → s.on Reg.MBX_STATUS_PEND = false →
    exec (.mbxDataWrite m i v) s = .next (s.acked.wr (Reg.MBX_DATA_WORD i) v)) ∧
  (∀ (s : State) (m : Master) (i v : Nat), i < 64 → s.right m (0x400C0100 + 4 * i) .mr = .allow → s.on Reg.MBX_STATUS_PEND = true →
    exec (.mbxDataWrite m i v) s = .next (s.acked.wr Reg.MBX_STATUS_WBLOCK 1)) ∧
  (∀ (s : State) (m : Master) (n k : Nat), s.right m 0x400C0004 .mr = .allow → s.on Reg.MBX_STATUS_PEND = false →
    1 ≤ n → n ≤ 16 → k ≤ s.rd Reg.ORB_TICK_TICK → k + 32 < s.frameLen →
    exec (.mbxSubmit m n k) s = .next (State.wr { s.acked.wr Reg.MBX_CTRL_COUNT n with
      cross := { s.cross with sub := some ⟨(List.range n).map s.bankEntry, 1⟩ } } Reg.MBX_STATUS_PEND 1)) ∧
  (∀ (s : State) (m : Master) (n k : Nat), s.right m 0x400C0004 .mr = .allow → s.on Reg.MBX_STATUS_PEND = false →
    1 ≤ n → n ≤ 16 → k ≤ s.rd Reg.ORB_TICK_TICK → s.frameLen ≤ k + 32 →
    exec (.mbxSubmit m n k) s = .next (((State.wr { s.acked.wr Reg.MBX_CTRL_COUNT n with
      cross := { s.cross with sub := some ⟨(List.range n).map s.bankEntry, 2⟩ } } Reg.MBX_STATUS_PEND 1).wr
        Reg.MBX_STATUS_LATE 1).raise Ev.MBX_LATE)) ∧
  (∀ (s : State) (m : Master) (n k : Nat), s.right m 0x400C0004 .mr = .allow → s.on Reg.MBX_STATUS_PEND = false →
    (n = 0 ∨ 16 < n) → n < 32 → k ≤ s.rd Reg.ORB_TICK_TICK →
    exec (.mbxSubmit m n k) s = .next ((s.acked.wr Reg.MBX_CTRL_COUNT n).wr Reg.MBX_STATUS_CNT_ERR 1)) ∧
  (∀ (s : State) (u : Submission), s.cross.sub = some u → s.cross.failedBank ≠ some u.entries →
    exec .mbxParityError s = .next ((State.wr { s with cross := { s.cross with sub := none, failedBank := some u.entries } }
      Reg.MBX_STATUS_PEND 0).wr Reg.MBX_STATUS_PERR 1)) ∧
  (∀ (s : State) (i v k : Nat), 48 ≤ i → i ≤ 63 → k ≤ s.rd Reg.ORB_TICK_TICK → k + 32 < s.frameLen →
    exec (.dataPortSubmit i v k) s = .next { s with cross := { s.cross with
      dataPort := s.cross.dataPort ++ [⟨i, v % 2 ^ 32, s.rd Reg.ORB_EPOCH_EPOCH, 1⟩] } }) ∧
  (∀ (s : State) (m : Master) (v : Nat), s.right m 0x400C0018 .mr = .allow → v < 8 →
    (v + 8 - s.rd Reg.DIG_PTR_RPTR) % 8 ≤ s.rd Reg.DIG_PTR_UNREAD →
    exec (.digRptrWrite m v) s = .next ((s.acked.wr Reg.DIG_PTR_UNREAD
      (s.rd Reg.DIG_PTR_UNREAD - (v + 8 - s.rd Reg.DIG_PTR_RPTR) % 8)).wr Reg.DIG_PTR_RPTR v)) ∧
  (∀ (s : State) (m : Master) (v : Nat), s.right m 0x400C0018 .mr = .allow → v < 8 →
    s.rd Reg.DIG_PTR_UNREAD < (v + 8 - s.rd Reg.DIG_PTR_RPTR) % 8 →
    exec (.digRptrWrite m v) s = .next ((s.acked.wr Reg.DIG_PTR_UNREAD 0).wr Reg.DIG_PTR_RPTR (s.rd Reg.DIG_PTR_WPTR))) ∧
  (∀ (s : State) (m : Master), (m = .mc → s.cpRun = false) → s.right m 0x400C0020 .cr = .allow →
    exec (.clrDrops m) s = .next (s.acked.wr Reg.CROSS_EPOCH_DROPS_COUNT 0))

/-- R71: "A route with LOCK = 1 ignores writes until a CR reset." R74, R124: the pending words. -/
def Obligations.EventFabricCommandsAct : Prop :=
  (∀ (s : State) (m : Master) (n v : Nat), n < 192 → s.right m (0x400B0000 + 4 * n) .cr = .allow → s.on (Reg.EVF_ROUTE_LOCK n) = false →
    exec (.evfRouteWrite m n v) s = .next ((((s.acked.wr (Reg.EVF_ROUTE_TARGET n) (fieldOf v 0 6)).wr (Reg.EVF_ROUTE_PRIO n) (fieldOf v 8 2)).wr
      (Reg.EVF_ROUTE_OTRIG n) (fieldOf v 12 4)).wrOnce (Reg.EVF_ROUTE_LOCK n) (bitOf v 31))) ∧
  (∀ (s : State) (m : Master) (n v : Nat), n < 192 → s.right m (0x400B0000 + 4 * n) .cr = .allow → s.on (Reg.EVF_ROUTE_LOCK n) = true →
    exec (.evfRouteWrite m n v) s = .next s.acked) ∧
  (∀ (s : State) (m : Master) (t w ones : Nat), t ≤ 5 → w ≤ 5 → s.right m (0x400B0300 + 0x18 * t + 4 * w) .cr = .allow →
    exec (.evfPendClear m t w ones) s =
      .next (s.acked.wr (Reg.EVF_PEND_PEND t w) (andNot 32 (s.rd (Reg.EVF_PEND_PEND t w)) ones))) ∧
  (∀ (s : State) (m : Master) (p : PairId) (w ones : Nat), w ≤ 5 → State.masterPair? m = some p → s.pairState p = State.pairStandby →
    exec (.evfPendClear m 0 w ones) s =
      .next (s.acked.setPair p { s.pair p with pend := setNth (s.pair p).pend w (andNot 32 (nth (s.pair p).pend w 0) ones) })) ∧
  (∀ (s : State) (m : Master), s.right m 0x400B0394 .cr = .allow →
    exec (.clrCoal m) s = .next (s.acked.wr Reg.EVF_COAL_COUNT 0))

/-- R71: "Sources EV152 to EV167 always reach SC, whatever TARGET bit 2 holds." -/
def Obligations.EventIsPendingAtEveryTarget : Prop :=
  ∀ (s : State) (ev : Nat), s.regsOk → ev < 192 →
    s.raisedIn (s.raise ev) ev ∧ (152 ≤ ev → ev ≤ 167 → (s.raise ev).pendingAt 2 ev = true) ∧
    (∀ g e, g < 6 → e < 192 → s.pendingAt g e = true → (s.raise ev).pendingAt g e = true) ∧
    s.regsButEv (s.raise ev) [] ∧ s.memsSame (s.raise ev) ∧ (s.raise ev).regsOk

/-- R84: a setting is held pending or refused; R99: "While SWAP_PEND = 1, writes to the inactive bank and to ORB_BANK set CFG_ERR". -/
def Obligations.OrbitWritesAct : Prop :=
  (∀ (s : State) (m : Master), s.regsOk → s.right m 0x40000000 .cr = .allow →
    ∃ t, exec (.orbTrackDisable m) s = .next t ∧ t.rd Reg.ORB_CTRL_TRACK_EN = 0 ∧ t.orbState = State.orbFree ∧
      s.regsBut t [Reg.ORB_CTRL_TRACK_EN, Reg.ORB_STATUS_STATE] ∧ t = { s.acked with regs := t.regs, orbit := t.orbit }) ∧
  (∀ (s : State) (m : Master) (v : Nat), s.right m 0x40000000 .cr = .allow → 60 ≤ v → v ≤ 4000 →
    v % 2 ^ State.settingNext s.orbit.pend.div s.orbit.taken.div (s.rd Reg.ORB_CTRL_DIV) = 0 →
    exec (.orbConfigWrite m .ncar v) s = .next { s.acked with orbit := { s.orbit with pend := { s.orbit.pend with ncar := some v } } }) ∧
  (∀ (s : State) (m : Master) (v : Nat), s.right m 0x40000000 .cr = .allow → v < 4096 →
    (v < 60 ∨ 4000 < v ∨ v % 2 ^ State.settingNext s.orbit.pend.div s.orbit.taken.div (s.rd Reg.ORB_CTRL_DIV) ≠ 0) →
    exec (.orbConfigWrite m .ncar v) s = .next (s.acked.wr Reg.ORB_FLAGS_CFG_ERR 1)) ∧
  (∀ (s : State) (m : Master), s.right m 0x40000000 .cr = .allow →
    exec (.orbConfigWrite m .div 3) s = .next (s.acked.wr Reg.ORB_FLAGS_CFG_ERR 1)) ∧
  (∀ (s : State) (m : Master) (v : Nat), s.right m 0x40000000 .cr = .allow → v < 128 →
    exec (.orbConfigWrite m .fnom v) s = .next { s.acked with orbit := { s.orbit with pend := { s.orbit.pend with fnom := some v } } }) ∧
  (∀ (s : State) (m : Master) (i v : Nat), i < 1024 → s.right m (0x40001000 + 4 * i) .cr = .allow → s.on Reg.ORB_BANK_SWAP_PEND = false →
    s.on Reg.ORB_STATUS_ACTIVE_BANK = false →
    exec (.orbSlotInactWrite m i v) s = .next { s.acked with orbit := { s.orbit with bank1 := bankSet s.orbit.bank1 i v } }) ∧
  (∀ (s : State) (m : Master) (i v : Nat), i < 1024 → s.right m (0x40001000 + 4 * i) .cr = .allow → s.on Reg.ORB_BANK_SWAP_PEND = true →
    exec (.orbSlotInactWrite m i v) s = .next (s.acked.wr Reg.ORB_FLAGS_CFG_ERR 1)) ∧
  (∀ (s : State) (m : Master) (e : Bool), s.right m 0x40000090 .cr = .allow → s.on Reg.ORB_BANK_SWAP_PEND = false →
    exec (.orbBankSwap m e) s = .next { (s.acked.wr Reg.ORB_BANK_EPOCH_INC (b2n e)).wr Reg.ORB_BANK_SWAP_PEND 1 with
      orbit := { s.orbit with swapReq := true } }) ∧
  (∀ (s : State), s.regsOk → s.orbit.swapReq = true → s.rd Reg.ORB_STATUS_ACTIVE_BANK ≤ 1 →
    ∃ t, exec .orbBankSwitch s = .next t ∧ t.rd Reg.ORB_STATUS_ACTIVE_BANK = 1 - s.rd Reg.ORB_STATUS_ACTIVE_BANK ∧
      t.rd Reg.ORB_BANK_SWAP_PEND = 0 ∧ t.orbit.swapReq = false ∧
      s.regsButEv t [Reg.ORB_STATUS_ACTIVE_BANK, Reg.ORB_BANK_SWAP_PEND, Reg.ORB_FLAGS_CFG_ERR, Reg.ORB_EPOCH_EPOCH] ∧ s.memsSame t) ∧
  (∀ (s : State) (m : Master), s.right m 0x40000054 .cr = .allow →
    exec (.clrOvr m) s = .next ((s.acked.wr Reg.ORB_OVR_COUNT_COUNT 0).wr Reg.ORB_ISSUE_MAX_DELAY 0)) ∧
  (∀ (s : State) (m : Master), s.right m 0x40000054 .cr = .allow →
    exec (.clrStale m) s = .next (s.acked.wr Reg.ORB_STALE_COUNT_COUNT 0))

/-- R80 and R81: the conditions and the moves; the frames name every register that a move may write. -/
def Obligations.TrackerStateCommandsMove : Prop :=
  (∀ (s : State), s.regsOk → 200 ≤ s.orbit.presentRun → s.orbState = State.orbFree → s.on Reg.ORB_CTRL_TRACK_EN = true →
    s.rd Reg.ORB_GROUP_ROLE ≠ 2 →
    ∃ t, exec .orbVoltagePresent s = .next t ∧ t.orbState = State.orbAcquire ∧ t.rd Reg.ORB_STATUS_FLYLIMIT = 0 ∧
      s.regsButEv t [Reg.ORB_STATUS_STATE, Reg.ORB_STATUS_FLYLIMIT, Reg.ORB_FREQ_VALUE, Reg.ORB_FLAGS_FREQ_RANGE, Reg.GS_STATUS_HOLD]) ∧
  (∀ (s : State), s.regsOk → 2 ≤ s.orbit.absentRun → s.orbState = State.orbAcquire →
    ∃ t, exec .orbVoltageAbsent s = .next t ∧ t.orbState = State.orbFree ∧ t.rd Reg.ORB_DTHETA_INC = s.rd Reg.ORB_DTHETA_INC ∧
      s.regsBut t [Reg.ORB_STATUS_STATE, Reg.GS_STATUS_HOLD]) ∧
  (∀ (s : State) (inc : Nat), s.regsOk → 2 ≤ s.orbit.absentRun → s.orbState = State.orbLocked → s.orbit.turnMean = some inc → inc < 2 ^ 32 →
    ∃ t, exec .orbVoltageAbsent s = .next t ∧ t.orbState = State.orbFlywheel ∧ t.rd Reg.ORB_DTHETA_INC = inc ∧
      s.raisedIn t Ev.ORB_FLY_ENTER ∧ s.regsButEv t [Reg.ORB_STATUS_STATE, Reg.ORB_DTHETA_INC, Reg.GS_STATUS_HOLD]) ∧
  (∀ (s : State), s.regsOk → s.orbState = State.orbAcquire → turn * 65536 ≤ s.orbit.lockAngle →
    ∃ t, exec .orbLockAchieved s = .next t ∧ t.orbState = State.orbLocked ∧ s.raisedIn t Ev.ORB_LOCK ∧
      s.regsButEv t [Reg.ORB_STATUS_STATE, Reg.GS_STATUS_HOLD]) ∧
  (∀ (s : State), s.regsOk → s.orbState = State.orbLocked → 100 ≤ s.orbit.lostRun → s.orbit.vAbsent = false →
    ∃ t, exec .orbLockLost s = .next t ∧ t.orbState = State.orbAcquire ∧ t.rd Reg.ORB_FLAGS_UNLOCK = 1 ∧ s.raisedIn t Ev.ORB_UNLOCK ∧
      s.regsButEv t [Reg.ORB_STATUS_STATE, Reg.ORB_STATUS_FLYLIMIT, Reg.ORB_FLAGS_UNLOCK, Reg.GS_STATUS_HOLD]) ∧
  (∀ (s : State), s.regsOk → s.orbState = State.orbFlywheel → s.rd Reg.ORB_FLYMAX_MS * 100 < s.orbit.flySamples →
    ∃ t, exec .orbFlywheelLimit s = .next t ∧ t.orbState = State.orbFree ∧ t.rd Reg.ORB_STATUS_FLYLIMIT = 1 ∧ s.raisedIn t Ev.ORB_FLY_LIMIT ∧
      s.regsButEv t [Reg.ORB_STATUS_STATE, Reg.ORB_STATUS_FLYLIMIT, Reg.GS_STATUS_HOLD]) ∧
  (∀ (s : State) (k : Marker), s.regsOk → s.orbState ≠ State.orbFollow → s.rd Reg.ORB_GROUP_ROLE = 2 → 4 ≤ s.orbit.markerRun →
    s.orbit.marker = some k →
    ∃ t, exec .orbFollowEnter s = .next t ∧ t.orbState = State.orbFollow ∧ t.rd Reg.ORB_ANGLE_THETA = k.theta % 2 ^ 32 ∧
      t.rd Reg.ORB_DTHETA_INC = k.dtheta % 2 ^ 32 ∧
      s.regsBut t [Reg.ORB_STATUS_STATE, Reg.ORB_ANGLE_THETA, Reg.ORB_DTHETA_INC]) ∧
  (∀ (s : State), s.regsOk → s.orbState = State.orbFollow → 4 ≤ s.rd Reg.ORB_GROUP_STATUS_MISSED →
    ∃ t, exec .orbGroupLoss s = .next t ∧ t.orbState = (if s.orbit.lockNow then State.orbLocked else State.orbFree) ∧
      t.rd Reg.ORB_FLAGS_GROUP_LOST = 1 ∧ t.rd Reg.EE_FLAGS_GROUP_LOST = 1 ∧ t.ee.groupLost = true ∧ s.raisedIn t Ev.ORB_GROUP_LOSS) ∧
  (∀ (s : State) (n : Nat), s.regsOk → s.orbit.carIdx = 0 → s.orbit.taken = ⟨some n, none, none, none⟩ → n < 4096 →
    ∃ t, exec .orbConfigApply s = .next t ∧ t.rd Reg.ORB_NCAR_N = n ∧ t.orbit.taken = {} ∧ t.orbit.pend = s.orbit.pend ∧ s.memsSame t)

/-- R88: the boundary; R97: the issue; R60: the ring. The components that are not named are unchanged. -/
def Obligations.OrbitStepCommandsAct : Prop :=
  (∀ (s : State) (k : Nat) (x : TrackerSample),
    ∃ t, exec (.orbTrackerSample k x) s = .next t ∧ t.orbit.phaseErr = x.phaseErr ∧
      t = { s with regs := t.regs, orbit := t.orbit, pairs := t.pairs, tpp := t.tpp, gs := t.gs, ee := t.ee }) ∧
  (∀ (s : State) (slot k g : Nat), slot < 256 → 8 ≤ k → k < s.frameLen → k ≤ s.rd Reg.ORB_TICK_TICK → s.slotOutcome slot = .fires g →
    2 ≤ fieldOf (bankWord s.activeBank (4 * slot)) 4 4 → fieldOf (bankWord s.activeBank (4 * slot)) 4 4 ≤ 5 →
    exec (.orbSlotIssue slot k false) s = .next ((State.wr { s with orbit := { s.orbit with ops := s.orbit.ops ++
      [⟨slot, fieldOf (bankWord s.activeBank (4 * slot)) 4 4, bankWord s.activeBank (4 * slot + 2), bankWord s.activeBank (4 * slot + 3),
        s.rd Reg.ORB_FRAME_COUNT % 256, s.rd Reg.ORB_EPOCH_EPOCH, true⟩] } } (Reg.ORB_SLOT_STAT_ISSUED slot) 1).wr Reg.ORB_ISSUE_MAX_DELAY
          (Nat.max (s.rd Reg.ORB_ISSUE_MAX_DELAY) (Nat.min 255 (k - Nat.max g 8))))) ∧
  (∀ (s : State) (slot k : Nat), slot < 256 → 8 ≤ k → k < s.frameLen → k ≤ s.rd Reg.ORB_TICK_TICK → s.slotOutcome slot = .stale →
    exec (.orbSlotIssue slot k false) s = .next (((s.slotSpent slot).wr Reg.ORB_STALE_COUNT_COUNT
      (satInc (2 ^ Reg.ORB_STALE_COUNT_COUNT.width - 1) (s.rd Reg.ORB_STALE_COUNT_COUNT))).wr Reg.ORB_FLAGS_STALE 1)) ∧
  (∀ (s : State), s.orbState ≠ State.orbFollow →
    ∃ t, exec .frameBoundary s = .next t ∧ t.now = s.now + s.frameLen ∧ t.bus = s.bus ∧
      t.cross.dataPort = s.cross.dataPort.map (fun x => { x with due := x.due - 1 }) ∧
      t.cross.taps = ((List.range 16).filter t.tapDue).map t.tapRecord) ∧
  (∀ (s : State) (r : TapRecord), s.cross.taps.find? (fun x => x.chan == r.chan) = some r → r.epoch = s.rd Reg.ORB_EPOCH_EPOCH →
    ∃ t, exec (.tapRecordDeliver r.chan) s = .next t ∧
      t = { s with cross := { s.cross with taps := s.cross.taps.filter (fun x => x.chan != r.chan),
                                           tapIn := r :: s.cross.tapIn.filter (fun x => x.chan != r.chan) }, ee := t.ee, pe := t.pe }) ∧
  (∀ (s : State) (r : TapRecord), s.cross.taps.find? (fun x => x.chan == r.chan) = some r → r.epoch ≠ s.rd Reg.ORB_EPOCH_EPOCH →
    exec (.tapRecordDeliver r.chan) s =
      .next (State.epochDiscard { s with cross := { s.cross with taps := s.cross.taps.filter (fun x => x.chan != r.chan) } })) ∧
  (∀ (s : State) (fz : List Nat), s.regsOk → s.cross.digest = some fz → s.rd Reg.DIG_PTR_WPTR < 8 → s.rd Reg.DIG_PTR_UNREAD < 8 →
    ∃ t, exec (.digestComplete true) s = .next t ∧ t.cross.digest = none ∧ t.cross.lastDigest = s.digestWords fz none ∧
      t.cross.digestFails = 0 ∧ t.rd Reg.DIG_PTR_WPTR = (s.rd Reg.DIG_PTR_WPTR + 1) % 8 ∧
      t.rd Reg.DIG_PTR_UNREAD = s.rd Reg.DIG_PTR_UNREAD + 1 ∧ s.raisedIn t Ev.DIGEST_READY ∧ s.memsSame t)

/-- R121, R123, R127 and R128. A pair is watched while it is ACTIVE, STANDBY or in SYNC and not fenced. -/
def Obligations.PairFaultsAreHandled : Prop :=
  (∀ (s : State) (p : PairId), ∀ x ∈ [(Instr.cpMismatch p, Reg.CP_FLAGS_MISMATCH, Ev.CP_MISMATCH, 1),
      (Instr.cpAgreeFault p, Reg.CP_FLAGS_AGREE, Ev.CP_AGREE_FAULT, 2), (Instr.cpTcmDed p, Reg.CP_FLAGS_TCM_DED, Ev.CP_MISMATCH, 3)],
    s.regsOk → s.pairState p = State.pairActive → s.on (State.fenceFld p) = false → s.on Reg.CP_STATUS_TAKEOVER_PEND = false →
    s.on Reg.CP_STATUS_STANDBY_READY = true →
    ∃ t, exec x.1 s = .next t ∧ t.rd x.2.1 = 1 ∧ t.rd Reg.CP_FLAGS_FAULT_PAIR = State.pairNum p ∧ s.raisedIn t x.2.2.1 ∧
      t.rd Reg.CP_STATUS_TAKEOVER_PEND = 1 ∧ t.pairs.cause = x.2.2.2 ∧ t.on (State.fenceFld p) = true ∧
      s.regsButEv t [x.2.1, Reg.CP_FLAGS_FAULT_PAIR, Reg.CP_STATUS_TAKEOVER_PEND, State.fenceFld p] ∧ s.memsSame t) ∧
  (∀ (s : State) (p : PairId), ∀ x ∈ [(Instr.cpMismatch p, Reg.CP_FLAGS_MISMATCH, Ev.CP_MISMATCH),
      (Instr.cpAgreeFault p, Reg.CP_FLAGS_AGREE, Ev.CP_AGREE_FAULT), (Instr.cpTcmDed p, Reg.CP_FLAGS_TCM_DED, Ev.CP_MISMATCH)],
    s.regsOk → s.pairState p = State.pairActive → s.on (State.fenceFld p) = false → s.on Reg.CP_STATUS_TAKEOVER_PEND = false →
    s.on Reg.CP_STATUS_STANDBY_READY = false → s.oper ≠ .boot →
    ∃ t, exec x.1 s = .next t ∧ t.rd x.2.1 = 1 ∧ t.pairState p = State.pairFailed ∧ t.on (State.fenceFld p) = true ∧
      t.rd Reg.CP_FLAGS_BOTH_LOST = 1 ∧ t.pwmLatched = true ∧ t.oper = .faultHold ∧ hasBit t.safety.sf4 1 = true ∧ s.memsSame t) ∧
  (∀ (s : State) (p : PairId), s.regsOk → s.pairState p = State.pairActive → s.on (State.fenceFld p) = false →
    s.on Reg.CP_STATUS_TAKEOVER_PEND = false → s.on Reg.CP_STATUS_STANDBY_READY = false →
    ∃ t, exec (.cpDelayParity p) s = .next t ∧ t.pairs.orderly = true ∧ t.rd Reg.CP_FLAGS_CHECKER = 1 ∧ s.raisedIn t Ev.CHECKER_FAULT ∧
      s.regsButEv t [Reg.CP_FLAGS_CHECKER, Reg.CP_FLAGS_FAULT_PAIR] ∧ s.memsSame t) ∧
  (∀ (s : State) (p : PairId) (main checker : List Nat) (i : Nat), s.regsOk → s.pairState p = State.pairActive →
    s.on (State.fenceFld p) = false → s.on Reg.CP_SWEEP_EN = true → (s.pair p).halted = false → (s.pair p).swept = false →
    State.firstDiff (main.take 8) (checker.take 8) 0 = some i → s.on Reg.CP_STATUS_TAKEOVER_PEND = false → s.on Reg.CP_STATUS_STANDBY_READY = true →
    ∃ t, exec (.sweepCapture p main checker) s = .next t ∧ t.rd Reg.CP_FLAGS_LATENT = 1 ∧ t.rd Reg.CP_SWEEP_STATUS_WHICH = State.pairNum p ∧
      t.rd Reg.CP_SWEEP_STATUS_WORD = (8 * s.rd Reg.CP_SWEEP_STATUS_SLICE + i) % 256 ∧ t.rd Reg.CP_STATUS_TAKEOVER_PEND = 1 ∧
      t.pairs.cause = 4 ∧ t.on (State.fenceFld p) = false ∧ s.raisedIn t Ev.LATENT_MISMATCH ∧ s.memsSame t) ∧
  (∀ (s : State) (p : PairId) (main : List Nat), s.pairState p = State.pairActive → s.on (State.fenceFld p) = false →
    s.on Reg.CP_SWEEP_EN = true → (s.pair p).halted = false → (s.pair p).swept = false →
    exec (.sweepCapture p main main) s = .next (s.setPair p { s.pair p with swept := true }) ∧
    exec (.sweepForced p main main) s = .next ((s.setPair p { s.pair p with swept := true }).wr Reg.CP_FLAGS_SWEEP_FORCED 1)) ∧
  (∀ (s : State) (p : PairId), ∀ c ∈ [Instr.cpMismatch p, .cpAgreeFault p, .cpTcmDed p, .cpDelayParity p],
    s.pairWatched p = false → exec c s = .next s) ∧
  (∀ (s : State), s.pairWatched .a = true → s.pairWatched .b = true →
    exec (.cpComparatorTest true true) s =
      .next ((s.setPair .a { s.pair .a with checked := true }).setPair .b { s.pair .b with checked := true })) ∧
  (∀ (s : State) (p : PairId) (i v : Nat), s.pairWatched p = true →
    exec (.cpAgreeFix p i v) s = .next (s.setPair p { s.pair p with agreed := sparseInsert (s.pair p).agreed i v }))

/-- R116, R117, R124, R125, R127, R128 and R137, each with the whole next state where the effect is plain. -/
def Obligations.PairDebugAndStandbyCommandsAct : Prop :=
  (∀ (s : State) (p : PairId) (n : Nat), s.debugTakes p = true →
    ∀ x ∈ [(Instr.debugStep p n, DebugAction.step), (Instr.debugAbstractCmd p n, DebugAction.abstractCmd), (Instr.debugProgbuf p n, DebugAction.progbuf)],
      exec x.1 s = .next (s.setPair p { s.pair p with replay := (s.pair p).replay ++ [(x.2, n)] })) ∧
  (∀ (s : State) (p : PairId) (n : Nat), s.debugTakes p = false →
    ∀ x ∈ [Instr.debugStep p n, .debugAbstractCmd p n, .debugProgbuf p n, .debugHalt p n, .debugResume p n], exec x s = .next s) ∧
  (∀ (s : State) (n : Nat), s.regsOk → s.debugTakes .b = true → s.pairState .b = State.pairStandby →
    ∃ t, exec (.debugHalt .b n) s = .next t ∧ t.pairs.b.halted = true ∧ t.pairs.b.replay = s.pairs.b.replay ++ [(.halt, n)] ∧
      t.rd Reg.CP_STATUS_HALTED = 1 ∧ t.rd Reg.CP_STATUS_STANDBY_READY = 0 ∧ s.memsSame t) ∧
  (∀ (s : State) (p : PairId) (n : Nat), s.debugTakes p = true → s.pairState p = State.pairActive → (s.pair p).halted = true →
    s.regsOk → (s.pair p.other).halted = false →
    ∃ t, exec (.debugResume p n) s = .next t ∧ (t.pair p).halted = false ∧ t.pairs.resumeWait = true ∧ t.rd Reg.CP_STATUS_HALTED = 0 ∧
      s.regsBut t [Reg.CP_STATUS_HALTED, Reg.PWM_SAFE_STATUS_ACTIVE] ∧ s.memsSame t) ∧
  (∀ (s : State) (p : PairId), exec (.debugReplay p) s = .next (s.setPair p { s.pair p with replay := (s.pair p).replay.tail })) ∧
  (∀ (s : State) (p : PairId) (a v : Nat), s.pairState p = State.pairStandby → s.on (State.fenceFld p) = false → a < 0x40000 →
    s.inMirror a = false → exec (.standbyWriteSuppress p a v) s = .next (State.tcmWrite s.acked p a (leBytes 4 v))) ∧
  (∀ (s : State) (p : PairId) (a v : Nat), s.pairState p = State.pairStandby → s.on (State.fenceFld p) = false →
    0x40000 ≤ a → (a < 0x400B0300 ∨ 0x400B0318 ≤ a) → exec (.standbyWriteSuppress p a v) s = .next (s.acked.wr Reg.CP_SUPPRESS_COUNT_COUNT
      (satInc (2 ^ 32 - 1) (s.rd Reg.CP_SUPPRESS_COUNT_COUNT)))) ∧
  (∀ (s : State) (p : PairId) (a : Nat) (data : List Byte), s.pairState p = State.pairActive → s.on (State.fenceFld p) = false →
    s.pairState p.other = State.pairStandby → (∀ i < data.length, s.inMirror (a + i) = true) →
    exec (.mirrorWriteThrough p a data) s = .next ((s.tcmWrite p a data).tcmWrite p.other a data)) ∧
  (∀ (s : State) (p : PairId), (s.pair p).interrupt = true →
    exec (.cpTakeoverInterrupt p) s = .next (s.setPair p { s.pair p with interrupt := false, role := 1 })) ∧
  (∀ (s : State), s.pairs.fatalWait = true →
    exec .cpFatalDelay s = .next { s with pairs := { s.pairs with fatalWait := false, fatalDue := true } }) ∧
  (∀ (s : State) (m : Master) (b n : Nat), s.right m 0x400C0810 .mr = .allow → s.cpRun = false →
    exec (.cpMirrorWrite m b n) s = .next ((s.acked.wr Reg.CP_MIRROR_BASE b).wr Reg.CP_MIRROR_SIZE n)) ∧
  (∀ (s : State) (m : Master) (b n : Nat), s.right m 0x400C0810 .mr = .allow → s.cpRun = true →
    exec (.cpMirrorWrite m b n) s = .next s.acked) ∧
  (∀ (s : State) (m : Master), (m = .mc → s.cpRun = false) → s.right m 0x400C0834 .cr = .allow →
    exec (.clrFence m) s = .next (s.acked.wr Reg.CP_FENCE_DROPS_COUNT 0) ∧
    exec (.clrSuppress m) s = .next (s.acked.wr Reg.CP_SUPPRESS_COUNT_COUNT 0) ∧
    exec (.clrEcc m) s = .next (s.acked.wr Reg.CP_ECC_COUNT_COUNT 0))

/-- R126 to R128, R133, R134; R51 and R52 for the mailbox. -/
def Obligations.PairStateCommandsAct : Prop :=
  (∀ (s : State) (m : Master) (p : PairId) (img : LoadedImage), s.regsOk → s.right m 0x400C0800 .mr = .allow → s.pairState p = State.pairOff →
    s.rampWide = false → s.power = .run → nth s.sec.loaded 1 none = some img →
    ∃ t, exec (.cpEnable m p) s = .next t ∧ t.pairState p = State.pairSelftest ∧ t.on (State.enFld p) = true ∧ t.on (State.doneFld p) = false ∧
      t.tcm p = [] ∧ (t.pair p).tcmGen = s.freeCtr + 1 ∧ t.tcm p.other = s.tcm p.other ∧ t.sram = s.sram) ∧
  (∀ (s : State) (p : PairId), s.regsOk → s.pairState p = State.pairSelftest → (s.pair p).passed = false →
    ∃ t, exec (.cpSelftestDone p false) s = .next t ∧ t.pairState p = State.pairFailed ∧ t.on (State.passFld p) = false ∧
      t.on (State.doneFld p) = true ∧ s.raisedIn t Ev.CP_REJOIN ∧ s.memsSame t) ∧
  (∀ (s : State) (p : PairId), s.regsOk → s.pairState p = State.pairSelftest → (s.pair p).passed = false →
    s.pairState p.other = State.pairActive →
    ∃ t, exec (.cpSelftestDone p true) s = .next t ∧ t.pairState p = State.pairSync ∧ t.on (State.passFld p) = true ∧ s.memsSame t) ∧
  (∀ (s : State) (p : PairId), s.regsOk → s.pairState p = State.pairSelftest → (s.pair p).passed = true →
    s.pairState p.other ≠ State.pairActive →
    ∃ t, exec (.cpActivate p) s = .next t ∧ t.pairState p = State.pairActive ∧ t.cpRun = true ∧ t.rd Reg.CP_STATUS_ACTIVE = State.pairNum p ∧
      (t.pair p).role = 1 ∧ (t.pair p).passed = false ∧ t.sram = s.sram) ∧
  (∀ (s : State) (p : PairId), s.pairState p = State.pairSync → s.pairState p.other = State.pairActive → (s.pair p).copied = false →
    exec (.cpSyncCopyDone p) s = .next ((s.setTcm p (s.tcm p.other)).setPair p
      { s.pair p with copied := true, tcmGen := (s.pair p.other).tcmGen })) ∧
  (∀ (s : State) (p : PairId), s.regsOk → s.pairState p = State.pairSync → (s.pair p).copied = true →
    ∃ t, exec (.cpStandbyEnter p) s = .next t ∧ t.pairState p = State.pairStandby ∧ (t.pair p).copied = false ∧
      s.raisedIn t Ev.CP_REJOIN ∧ s.memsSame t) ∧
  (∀ (s : State) (m : Master), s.right m 0x400C080C .mr = .allow → s.on Reg.CP_STATUS_TAKEOVER_PEND = false →
    s.on Reg.CP_STATUS_STANDBY_READY = true →
    exec (.cpCmdTakeover m) s = .next (State.wr { s.acked with pairs := { s.pairs with cause := 6 } } Reg.CP_STATUS_TAKEOVER_PEND 1)) ∧
  (∀ (s : State) (m : Master), s.right m 0x400C080C .mr = .allow → s.on Reg.CP_STATUS_TAKEOVER_PEND = false →
    s.on Reg.CP_STATUS_STANDBY_READY = false →
    exec (.cpCmdTakeover m) s = .next (s.acked.wr Reg.CP_FLAGS_CMD_REFUSED 1)) ∧
  (∀ (s : State) (m : Master) (p : PairId), s.regsOk → s.right m 0x400C080C .mr = .allow → s.pairState p = State.pairFailed →
    s.pairState p.other = State.pairActive →
    ∃ t, exec (.rejoinCmd m p) s = .next t ∧ t.pairState p = State.pairSelftest ∧ t.tcm p = [] ∧ t.tcm p.other = s.tcm p.other) ∧
  (∀ (s : State) (m : Master) (p : PairId), s.regsOk → s.right m 0x400C0800 .mr = .allow → s.pairState p = State.pairActive →
    s.on Reg.PWM_SAFE_STATUS_LATCHED = true → s.rd Reg.SAFE_STATE_STATE ≠ 3 → s.rd Reg.SAFE_STATE_STATE ≠ 4 →
    ∃ t, exec (.cpDisable m p) s = .next t ∧ t.pairState p = State.pairOff ∧ t.on (State.enFld p) = false ∧
      t.rd Reg.CP_STATUS_TAKEOVER_PEND = 0 ∧ s.memsSame t) ∧
  (∀ (s : State) (m : Master) (p : PairId), s.right m 0x400C0800 .mr = .allow → s.pairState p = State.pairActive →
    (s.on Reg.PWM_SAFE_STATUS_LATCHED = false ∨ s.rd Reg.SAFE_STATE_STATE = 3 ∨ s.rd Reg.SAFE_STATE_STATE = 4) →
    exec (.cpDisable m p) s = .next (s.acked.wr Reg.CP_FLAGS_CMD_REFUSED 1)) ∧
  (∀ (s : State), s.regsOk → s.on Reg.CP_STATUS_TAKEOVER_PEND = true → s.rd Reg.CP_STATUS_ACTIVE = 0 → s.pairState .a = State.pairActive →
    s.pairState .b = State.pairStandby → s.on (State.fenceFld .b) = false → s.anyHalted = false → s.orbit.epochDone = false →
    ∃ t, exec .cpTakeover s = .next t ∧ t.pairState .b = State.pairActive ∧ t.pairState .a ≠ State.pairActive ∧ t.on (State.fenceFld .a) = true ∧
      t.rd Reg.CP_STATUS_ACTIVE = 1 ∧ t.rd Reg.ORB_EPOCH_EPOCH = (s.rd Reg.ORB_EPOCH_EPOCH + 1) % 256 ∧
      t.rd Reg.CP_STATUS_TAKEOVER_PEND = 0 ∧ t.rd Reg.CP_TAKEOVER_LOG_CAUSE = s.pairs.cause % 8 ∧ t.pairs.b.interrupt = true) ∧
  (∀ (s : State), s.regsOk → s.pairs.orderly = true → s.oper ≠ .boot →
    ∃ t, exec .orderlySafeState s = .next t ∧ t.pwmLatched = true ∧ t.relaysOpen = true ∧ t.oper = .faultHold ∧ t.pairs.orderly = false ∧ s.memsSame t) ∧
  (∀ (s : State) (n v : Nat), s.regsOk → s.cross.sub = some ⟨[⟨2 + 65536 * n, v, 0, 0⟩], 0⟩ → n < 48 → v < 2 ^ 32 →
    s.cross.dataPort = [] → s.cross.mcQueue = [] →
    ∃ t, exec (.mbxApply none) s = .next t ∧ t.rd (Reg.REF_SP_VALUE n) = v ∧ t.rd Reg.MBX_STATUS_PEND = 0 ∧ t.rd Reg.MBX_RESULT_ERR = 0 ∧
      t.rd Reg.MBX_STATUS_APPLIED_SEQ = (s.rd Reg.MBX_STATUS_APPLIED_SEQ + 1) % 256 ∧ t.cross.sub = none ∧ s.raisedIn t Ev.MBX_APPLIED ∧
      s.regsButEv t [Reg.REF_SP_VALUE n, Reg.MBX_STATUS_PEND, Reg.MBX_RESULT_ERR, Reg.MBX_STATUS_APPLIED_SEQ] ∧ s.memsSame t) ∧
  (∀ (s : State) (a n c e q : Nat), s.cross.loadOrbit = .copying a n c e q → crc32cWords (s.bufferWords a n) ≠ c →
    s.rd Reg.MBX_STATUS_APPLIED_SEQ ≠ q →
    exec (.loadCopyComplete .orbit) s = .next (State.wr { s with cross := { s.cross with loadOrbit := .idle } } Reg.ORB_BANK_SWAP_PEND 0))

/-- R170, R175 to R178, R186, R194 and R199; `Shaped` says that the lists hold one entry for each unit (StepKeepsShape). -/
def Obligations.PwmWritesAndCommitsAct : Prop :=
  (∀ (s : State) (m : Master) (p v : Nat), p < 24 → s.right m (0x40010408 + 0x20 * p) .cr = .allow → (s.cluster (p / 8)).window = false →
    exec (.pwmShadowWrite m p .cmpA v) s = .next (s.acked.wr (Reg.PR_CMPA_CMP p) v)) ∧
  (∀ (s : State) (m : Master) (p v : Nat), p < 24 → s.right m (0x40010408 + 0x20 * p) .cr = .allow → (s.cluster (p / 8)).window = true →
    s.on (Reg.CL_CTRL_AUTO (p / 8)) = false →
    exec (.pwmShadowWrite m p .cmpA v) s = .next (s.acked.setCluster (p / 8)
      { s.cluster (p / 8) with holding := (s.cluster (p / 8)).holding ++ [((Reg.PR_CMPA_CMP p).key, v)] })) ∧
  (∀ (s : State) (c : Nat), c < 3 → s.Shaped → s.on (Reg.CL_CTRL_EN c) = true → (s.cluster c).window = false → (s.cluster c).inReset = false →
    exec (.pwmCommit (.engine 0) (2 ^ c)) s =
      .next ((s.setCluster c { s.cluster c with armed := true }).wr (Reg.CL_STATUS_COMMIT_PEND c) 1) ∧
    ∀ m, s.right m 0x40010004 .cr = .allow → exec (.pwmCommit (.bus m) (2 ^ c)) s =
      .next ((s.acked.setCluster c { s.cluster c with armed := true }).wr (Reg.CL_STATUS_COMMIT_PEND c) 1)) ∧
  (∀ (s : State) (c : Nat), c < 3 → s.Shaped → s.on (Reg.CL_CTRL_EN c) = true → (s.cluster c).window = true → (s.cluster c).held = false →
    exec (.pwmCommit (.engine 0) (2 ^ c)) s =
      .next ((s.lateCommit.setCluster c { s.cluster c with held := true }).wr (Reg.CL_STATUS_COMMIT_PEND c) 1)) ∧
  (∀ (s : State) (slot c : Nat) (o : OrbOp), c < 3 → s.Shaped → s.opOf? slot 3 = some o → o.arga % 8 = 2 ^ c → s.on (Reg.CL_CTRL_EN c) = true →
    (s.cluster c).window = false → (s.cluster c).inReset = false →
    ∃ t, exec (.pwmCommit (.op slot) 0) s = .next t ∧ (t.cluster c).armed = true ∧ t.orbit.ops = s.orbit.ops.filter (fun o => o.slot != slot)) ∧
  (∀ (s : State) (c p : Nat), c < 3 → p / 8 = c → s.regsOk → s.Shaped → s.on (Reg.CL_CTRL_EN c) = true → (s.cluster c).window = true →
    (s.cluster c).armed = true → (s.cluster c).peak = false → (s.cluster c).holding = [] →
    ∃ t, exec (.commitPoint c) s = .next t ∧ (t.cluster c).window = false ∧ t.rd (Reg.PR_CMPA_ACT_CMP p) = (s.pwmPair p).frozen.cmpA % 2 ^ 27 ∧
      t.rd (Reg.PR_CMPB_ACT_CMP p) = (s.pwmPair p).frozen.cmpB % 2 ^ 27 ∧ (t.pwmPair p).dt = (s.pwmPair p).frozen.dt ∧ s.memsSame t) ∧
  (∀ (s : State) (m : Master) (c : Nat), c < 3 → s.right m (0x40010100 + 0x20 * c) .cr = .allow →
    exec (.clEnable m c true) s = .next (s.acked.wr (Reg.CL_CTRL_EN c) 1)) ∧
  (∀ (s : State) (m : Master) (c : Nat), c < 3 → s.right m (0x40010100 + 0x20 * c) .cr = .allow → (s.cluster c).window = false →
    (s.cluster c).armed = false → (s.cluster c).held = false →
    exec (.clEnable m c false) s = .next (s.acked.wr (Reg.CL_CTRL_EN c) 0)) ∧
  (∀ (s : State) (m : Master) (c : Nat), c < 3 → s.regsOk → s.Shaped → s.right m (0x40010100 + 0x20 * c) .cr = .allow →
    ∃ t, exec (.clSoftReset m c) s = .next t ∧ (t.cluster c).inReset = true ∧ t.rd (Reg.CL_STATUS_IN_RESET c) = 1 ∧
      (∀ p, p / 8 = c → t.rd (Reg.PR_CARRY_ACC p) = 0 ∧ t.rd (Reg.PR_CMPA_ACT_CMP p) = 0 ∧ (t.pwmPair p).w = 0) ∧ s.memsSame t) ∧
  (∀ (s : State) (m : Master) (c v : Nat), c < 3 → s.right m (0x40010104 + 0x20 * c) .cr = .allow → s.on (Reg.CL_CTRL_SYNC c) = false →
    (s.cluster c).window = false → 4000 ≤ v → v ≤ 266666 →
    exec (.clPeriodWrite m c v) s = .next (s.acked.wr (Reg.CL_PERIOD_SHADOW c) v)) ∧
  (∀ (s : State) (m : Master) (c v : Nat), c < 3 → s.right m (0x40010104 + 0x20 * c) .cr = .allow →
    (s.on (Reg.CL_CTRL_SYNC c) = true → exec (.clPeriodWrite m c v) s = .next s.acked) ∧
    (s.on (Reg.CL_CTRL_SYNC c) = false → (v < 4000 ∨ 266666 < v) → v < 2 ^ 20 →
      exec (.clPeriodWrite m c v) s = .next ((s.acked.wr Reg.PWM_FLAGS_CFG_ERR 1).raise Ev.PWM_CFG_ERR))) ∧
  (∀ (s : State) (c : Nat), c < 3 → s.regsOk → s.Shaped → s.on (Reg.CL_CTRL_EN c) = true →
    ∃ t, exec (.pwmValley c) s = .next t ∧ (t.cluster c).inReset = false ∧ t.rd (Reg.CL_STATUS_IN_RESET c) = 0 ∧
      s.raisedIn t (Ev.PWM_VALLEY c) ∧ s.memsSame t) ∧
  (∀ (s : State) (m : Master) (p h l : Nat), p < 24 → s.right m (0x4001041C + 0x20 * p) .cr = .allow →
    (h % 4 ≠ 3 → l % 4 ≠ 3 → exec (.pwmForceWrite m p h l) s = .next ((s.acked.wr (Reg.PR_FORCE_FH p) h).wr (Reg.PR_FORCE_FL p) l)) ∧
    ((h % 4 = 3 ∨ l % 4 = 3) → exec (.pwmForceWrite m p h l) s = .next ((s.acked.wr Reg.PWM_FLAGS_CFG_ERR 1).raise Ev.PWM_CFG_ERR))) ∧
  (∀ (s : State) (m : Master), s.right m 0x40010028 .cr = .allow →
    exec (.pwmClrShort m) s = .next (s.acked.wr Reg.PWM_SHORT_COUNT_COUNT 0) ∧
    exec (.pwmClrXlock m) s = .next (s.acked.wr Reg.PWM_XLOCK_LAST_COUNT 0) ∧
    exec (.pwmClrLate m) s = .next (((s.acked.wr (Reg.CL_LATE_COUNT_COUNT 0) 0).wr (Reg.CL_LATE_COUNT_COUNT 1) 0).wr (Reg.CL_LATE_COUNT_COUNT 2) 0)) ∧
  (∀ (s : State), s.orbit.nextPeriod.isSome = true → exec .orbPeriodCompute s = .next s) ∧
  (∀ (s : State), s.regsOk → s.orbit.nextPeriod = none → s.turnEnds = false →
    ∃ t, exec .orbPeriodCompute s = .next t ∧ t.orbit.nextPeriod = some ((s.periodOf false).1, (s.periodOf false).2.1) ∧
      t.rd Reg.ORB_STATUS_CLAMP = b2n (s.periodOf false).2.2 ∧
      (∀ c, c < 3 → s.on (Reg.CL_CTRL_SYNC c) = true → t.rd (Reg.CL_PERIOD_SHADOW c) = (s.periodOf false).1 % 2 ^ 20) ∧ s.memsSame t)

/-- R187 to R190 for the trips, R192 and R193 for the safe state; the frame of a cause names all that it writes. -/
def Obligations.TripsAndSafeStateAct : Prop :=
  (∀ (s : State) (n p : Nat), n < 16 → p < 24 → s.regsOk → s.Shaped → s.on (Reg.TRIP_CFG_EN n) = true → 1 ≤ s.rd (Reg.TRIP_CFG_SRC n) →
    s.rd (Reg.TRIP_CFG_SRC n) ≤ 20 → hasBit (s.rd Reg.TRIP_STATUS_LEVEL) n = false → s.rd (Reg.TRIP_CFG_ACTION n) = 0 →
    hasBit (s.rd (Reg.TRIP_MASK_PAIRS n)) p = true → (s.line n).raised = false →
    ∃ t, exec (.tripActivate n true false) s = .next t ∧ hasBit (t.rd Reg.TRIP_STATUS_LEVEL) n = true ∧
      hasBit (t.pwmPair p).tripCycle n = true ∧ s.raisedIn t (Ev.PWM_TRIP n) ∧ s.regsButEv t [Reg.TRIP_STATUS_LEVEL] ∧ s.memsSame t) ∧
  (∀ (s : State) (n p : Nat), n < 16 → p < 24 → s.regsOk → s.Shaped → s.on (Reg.TRIP_CFG_EN n) = true → (s.line n).source = true →
    hasBit (s.rd Reg.TRIP_STATUS_LEVEL) n = false → s.rd (Reg.TRIP_CFG_ACTION n) = 1 →
    hasBit (s.rd (Reg.TRIP_MASK_PAIRS n)) p = true →
    ∃ t, exec (.tripBlankEnd n) s = .next t ∧ hasBit (t.rd Reg.TRIP_STATUS_LEVEL) n = true ∧ hasBit (t.rd Reg.TRIP_LATCH_LATCH) n = true ∧
      hasBit (t.pwmPair p).tripLatched n = true ∧ t.rd (Reg.PR_STATUS_TRIPPED p) = 1 ∧ t.rd (Reg.CL_STATUS_TRIPPED (p / 8)) = 1 ∧ s.memsSame t) ∧
  (∀ (s : State) (n : Nat), n < 16 → s.Shaped → (s.line n).source = false → hasBit (s.rd Reg.TRIP_STATUS_LEVEL) n = false →
    exec (.tripActivate n false false) s = .next ((s.setLine n { s.line n with source := false, blanking := false }).wr Reg.TRIP_STATUS_LEVEL
      (putBit (s.rd Reg.TRIP_STATUS_LEVEL) n false))) ∧
  (∀ (s : State) (m : Master) (n : Nat), n < 16 → s.regsOk → s.Shaped → s.right m 0x40010034 .cr = .allow →
    hasBit (s.rd Reg.TRIP_LATCH_LATCH) n = true →
    (s.lineActive n = false → ∃ t, exec (.tripLatchClear m (2 ^ n)) s = .next t ∧ hasBit (t.rd Reg.TRIP_LATCH_LATCH) n = false ∧
      (t.line n).release = true ∧ s.regsBut t [Reg.TRIP_LATCH_LATCH]) ∧
    (s.lineActive n = true → exec (.tripLatchClear m (2 ^ n)) s = .next s.acked)) ∧
  (∀ (s : State) (m : Master) (p : Nat), p < 24 → s.regsOk → s.Shaped → s.right m 0x4001001C .cr = .allow → hasBit (s.rd Reg.PWM_ESC_PAIRS) p = true →
    ∃ t, exec (.pwmEscRelease m (2 ^ p)) s = .next t ∧ hasBit (t.rd Reg.PWM_ESC_PAIRS) p = false ∧ (t.pwmPair p).escRelease = true ∧
      s.regsBut t [Reg.PWM_ESC_PAIRS]) ∧
  (∀ (s : State) (c : SafeCause), s.regsOk →
    ∃ t, exec (.pwmSafeEnter c) s = .next t ∧ t.pwmLatched = true ∧ hasBit (t.rd Reg.PWM_SAFE_STATUS_SEEN) c.bit = true ∧
      (c ≠ .soft → hasBit (t.rd Reg.PWM_SAFE_STATUS_ACTIVE) c.bit = true) ∧ (s.pwmLatched = false → s.raisedIn t Ev.PWM_SAFE) ∧
      s.regsButEv t [Reg.PWM_SAFE_STATUS_ACTIVE, Reg.PWM_SAFE_STATUS_SEEN, Reg.PWM_SAFE_STATUS_LATCHED] ∧ s.memsSame t) ∧
  (∀ (s : State) (m : Master), s.regsOk → s.right m 0x40010014 .cr = .allow →
    ∃ t, exec (.pwmSafeCmdEnter m) s = .next t ∧ t.pwmLatched = true ∧ hasBit (t.rd Reg.PWM_SAFE_STATUS_SEEN) SafeCause.soft.bit = true ∧
      s.regsButEv t [Reg.PWM_SAFE_STATUS_SEEN, Reg.PWM_SAFE_STATUS_LATCHED] ∧ s.memsSame t) ∧
  (∀ (s : State) (m : Master), s.regsOk → s.right m 0x40010014 .cr = .allow → s.rd Reg.PWM_SAFE_STATUS_ACTIVE = 0 →
    hasBit (s.rd Reg.CLK_STATUS_LOCK) 0 = true → s.on Reg.PWM_STATUS_CLK_OK = true →
    ∃ t, exec (.pwmSafeClear m) s = .next t ∧ t.pwmLatched = false ∧ t.rd Reg.PWM_SAFE_STATUS_SEEN = 0 ∧
      (∀ p, p < 24 → t.rd (Reg.PR_CARRY_ACC p) = 0) ∧ s.memsSame t) ∧
  (∀ (s : State) (m : Master), s.right m 0x40010014 .cr = .allow →
    (s.rd Reg.PWM_SAFE_STATUS_ACTIVE ≠ 0 ∨ hasBit (s.rd Reg.CLK_STATUS_LOCK) 0 = false ∨ s.on Reg.PWM_STATUS_CLK_OK = false) →
    exec (.pwmSafeClear m) s = .next ((s.acked.wr Reg.PWM_FLAGS_CFG_ERR 1).raise Ev.PWM_CFG_ERR)) ∧
  (∀ (s : State), s.regsOk →
    ∃ t, exec .pwmClkLoss s = .next t ∧ t.pwmLatched = true ∧ t.rd Reg.PWM_STATUS_CLK_OK = 0 ∧ t.rd Reg.PWM_FLAGS_CLK_LOSS = 1 ∧
      hasBit (t.rd Reg.PWM_SAFE_STATUS_ACTIVE) SafeCause.clkLoss.bit = true ∧ s.memsSame t) ∧
  (∀ (s : State), hasBit (s.rd Reg.CLK_STATUS_LOCK) 0 = true →
    exec (.pwmCalDone 0) s = .next (State.raise { s.wr Reg.PWM_STATUS_CAL_DONE 1 with pwm := { s.pwm with failedOuts := 0 } } Ev.PWM_CAL)) ∧
  (∀ (s : State) (f : Nat), hasBit (s.rd Reg.CLK_STATUS_LOCK) 0 = false → exec (.pwmCalDone f) s = .next s)

/-- R149 and R158 for the jobs, R157 and R162 for what goes wrong, R166 for the bursts. -/
def Obligations.LoopEngineJobsAct : Prop :=
  (∀ (s : State) (slot x : Nat) (o : OrbOp), s.regsOk → s.opOf? slot 2 = some o → o.arga % 2 = x → s.on (Reg.LE_STATUS_COVERING (1 - x)) = false →
    s.leState x = State.leReady → fieldOf o.arga 8 8 < Le.njob (s.leActive x) → (s.le x).queue = [] → (s.le x).run = none →
    ∃ t r, exec (.leJobStart slot) s = .next t ∧ (t.le x).run = some r ∧ r.job = ⟨slot, fieldOf o.arga 8 8, x, o.tag, o.epoch⟩ ∧
      (t.le x).queue = [] ∧ t.rd (Reg.LE_STATUS_JOB x) = fieldOf o.arga 8 8 % 64 ∧
      s.regsBut t [Reg.LE_STATUS_JOB x, Reg.LE_FLAGS_INPUT_SETTLE x, Reg.LE_FLAGS_INPUT_OVR x] ∧ s.memsSame t) ∧
  (∀ (s : State) (slot x : Nat) (o : OrbOp) (r : LeRun), s.opOf? slot 2 = some o → o.arga % 2 = x → s.on (Reg.LE_STATUS_COVERING (1 - x)) = false →
    s.leState x = State.leReady → fieldOf o.arga 8 8 < Le.njob (s.leActive x) → (s.le x).queue.length < 16 → (s.le x).run = some r →
    exec (.leJobStart slot) s =
      .next (s.setLe x { s.le x with queue := (s.le x).queue ++ [⟨slot, fieldOf o.arga 8 8, x, o.tag, o.epoch⟩] })) ∧
  (∀ (s : State) (slot x : Nat) (o : OrbOp), s.opOf? slot 2 = some o → o.arga % 2 = x → s.on (Reg.LE_STATUS_COVERING (1 - x)) = false →
    s.leState x ≠ State.leReady → exec (.leJobStart slot) s = .next ((s.wr (Reg.LE_FLAGS_JOB_BAD x) 1).retire slot)) ∧
  (∀ (s : State) (e : Nat) (r : LeRun), e < 2 → s.regsOk → (s.le e).run = some r → r.job.owner = e → r.job.job < 16 → r.job.slot < 256 → (s.le e).queue = [] →
    ∃ t, exec (.leJobEnd e) s = .next t ∧ (t.le e).run = none ∧ t.rd (Reg.LE_JOBSTAT_TAG e r.job.job) = r.job.tag % 256 ∧
      t.rd (Reg.LE_JOBSTAT_EPOCH e r.job.job) = r.job.epoch % 256 ∧ t.rd (Reg.LE_STATUS_JOB e) = 0x3F ∧
      ((Le.jobDef (s.leActive e) r.job.job).phase = false → t.orbit.ops = s.orbit.ops.filter (fun o => o.slot != r.job.slot))) ∧
  (∀ (s : State) (e slot : Nat) (h : LeHeld), e < 2 → (s.le e).held.find? (fun h => h.job.slot == slot) = some h →
    ∃ t, exec (.lePhaseWrite e slot) s = .next t ∧ (t.le e).held = (s.le e).held.filter (fun h => h.job.slot != slot) ∧
      t.orbit.ops = s.orbit.ops.filter (fun o => o.slot != slot) ∧ s.memsSame t) ∧
  (∀ (s : State) (e : Nat) (r : LeRun), e < 2 → s.regsOk → (s.le e).run = some r → (s.le e).queue = [] → r.job.slot < 256 →
    (Le.jobDef (s.program e r.job.owner) r.job.job).phase = true →
    ∃ t, exec (.leMissedWrite e) s = .next t ∧ (t.le e).run = none ∧ t.rd (Reg.LE_FLAGS_MISSED_WRITE e) = 1 ∧
      t.rd (Reg.LE_MISSED_COUNT_COUNT e) = satInc 65535 (s.rd (Reg.LE_MISSED_COUNT_COUNT e)) % 65536 ∧ s.raisedIn t Ev.LE_MISSED_WRITE ∧
      t.orbit.ops = s.orbit.ops.filter (fun o => o.slot != r.job.slot) ∧ s.memsSame t) ∧
  (∀ (s : State) (e : Nat) (k : LeFaultKind), e < 2 → s.regsOk → s.leState e = State.leReady → (s.le e).held = [] →
    s.on (Reg.LE_STATUS_COVERING e) = false → s.leState (1 - e) = State.leReady → s.on (Reg.LE_STATUS_COVER_READY (1 - e)) = true →
    ∃ t, exec (.leFault e k) s = .next t ∧ t.leState e = State.leFaulted ∧ t.rd (State.leFaultFld e k) = 1 ∧ s.raisedIn t Ev.LE_FAULT ∧
      (t.le e).run = none ∧ (t.le (1 - e)).failover = true ∧ t.pairs.orderly = s.pairs.orderly ∧ s.memsSame t) ∧
  (∀ (s : State) (e : Nat) (r : LeRun), e < 2 → s.regsOk → s.leState e = State.leReady → (s.le e).run = some r → (s.le e).held = [] →
    s.on (Reg.LE_STATUS_COVER_READY (1 - e)) = false →
    ∃ t, exec (.leOverrunFault e) s = .next t ∧ t.leState e = State.leFaulted ∧ t.rd (Reg.LE_FLAGS_FAULT_WDOG e) = 1 ∧
      s.raisedIn t Ev.LE_FAULT ∧ t.pairs.orderly = true ∧ s.memsSame t) ∧
  (∀ (s : State) (slot e c n : Nat) (o : OrbOp), s.opOf? slot 4 = some o → o.arga % 2 = e → fieldOf o.arga 8 4 = c → o.argb % 65536 = n → 0 < n →
    s.on (Reg.LE_CAP_CFG_EN e c) = true → s.on (Reg.LE_CAP_CFG_MODE e c) = true →
    exec (.captureBurstArm slot) s = .next (s.setCap e c { count := 0, truncated := false, burst := some (slot, n) })) ∧
  (∀ (s : State) (slot : Nat) (o : OrbOp), s.opOf? slot 4 = some o → o.argb % 65536 = 0 →
    exec (.captureBurstArm slot) s = .next (s.retire slot)) ∧
  (∀ (s : State) (e c slot n : Nat), e < 2 → c < 16 → (s.le e).caps.length = 16 → (s.cap e c).burst = some (slot, n) → 1 < n →
    0 < s.capSigs e c → 4 + s.capSigs e c * ((s.cap e c).count + 1) ≤ (s.capRegion e c).2 →
    ∃ t, exec (.captureBurstSample e c) s = .next t ∧ (t.cap e c).burst = some (slot, n - 1) ∧ (t.cap e c).count = (s.cap e c).count + 1 ∧
      t = { s with les := t.les, capture := t.capture })

/-- R148, R161, R163, R164, R165 and R169. -/
def Obligations.LoopEngineStateCommandsAct : Prop :=
  (∀ (s : State) (y : Nat), y < 2 → (s.le y).failover = true → s.leState y = State.leReady →
    exec (.leCoverFailover y) s = .next (((s.setLe y { s.le y with failover := false }).wr (Reg.LE_STATUS_COVERING y) 1).raise Ev.LE_COVER)) ∧
  (∀ (s : State) (m : Master) (e : Nat), e < 2 → s.right m (0x40050018 + 0x8000 * e) .cr = .allow → s.on (Reg.LE_STATUS_LOAD_BUSY e) = true →
    exec (.leCmdSwap m e) s = .next s.acked) ∧
  (∀ (s : State) (m : Master) (e : Nat), e < 2 → s.regsOk → s.right m (0x40050018 + 0x8000 * e) .cr = .allow → s.on (Reg.LE_STATUS_LOAD_BUSY e) = false →
    Le.check (s.leInactive e) (s.leState e) s.budget (s.capSigs e) = 1 →
    ∃ t, exec (.leCmdSwap m e) s = .next t ∧ (t.le e).accepted = true ∧ t.rd (Reg.LE_STATUS_LOAD_BUSY e) = 1 ∧ t.rd (Reg.LE_LOAD_STATUS_RESULT e) = 1 ∧
      s.regsBut t [Reg.LE_STATUS_LOAD_BUSY e, Reg.LE_LOAD_STATUS_RESULT e, Reg.LE_BUDGET_LIMIT e] ∧ s.memsSame t) ∧
  (∀ (s : State) (e : Nat), e < 2 → s.regsOk → (s.le e).accepted = true → s.leState e = State.leEmpty → s.rd (Reg.LE_STATUS_ACTIVE_BANK e) ≤ 1 →
    ∃ t, exec (.leBankSwitch e) s = .next t ∧ t.leState e = State.leReady ∧ t.rd (Reg.LE_STATUS_ACTIVE_BANK e) = 1 - s.rd (Reg.LE_STATUS_ACTIVE_BANK e) ∧
      t.leActive e = s.leInactive e ∧ (t.le e).accepted = false ∧ t.rd (Reg.LE_STATUS_LOAD_BUSY e) = 0 ∧ s.raisedIn t Ev.LE_LOAD ∧ s.memsSame t) ∧
  (∀ (s : State) (m : Master) (e : Nat), e < 2 → s.regsOk → s.right m (0x40050000 + 0x8000 * e) .cr = .allow → s.leState e = State.leOff →
    ∃ t, exec (.leEnable m e) s = .next t ∧ t.leState e = State.leSelftest ∧ t.rd (Reg.LE_CTRL_EN e) = 1 ∧ (t.le e).img0 = [] ∧ (t.le e).img1 = [] ∧
      s.memsSame t) ∧
  (∀ (s : State) (m : Master) (e : Nat), e < 2 → s.regsOk → s.right m (0x40050000 + 0x8000 * e) .cr = .allow → s.leState e = State.leReady →
    (s.le e).run = none → (s.le e).queue = [] → (s.le e).held = [] → s.on (Reg.LE_STATUS_COVERING e) = false →
    ∃ t, exec (.leDisable m e) s = .next t ∧ t.leState e = State.leOff ∧ t.rd (Reg.LE_CTRL_EN e) = 0 ∧ s.memsSame t) ∧
  (∀ (s : State) (m : Master) (e : Nat), e < 2 → s.right m (0x40050000 + 0x8000 * e) .cr = .allow → s.leState e = State.leReady →
    ((s.le e).run.isSome = true ∨ s.on (Reg.LE_STATUS_COVERING e) = true) → exec (.leDisable m e) s = .next s.acked) ∧
  (∀ (s : State) (e : Nat), e < 2 → s.leState e = State.leSelftest →
    exec (.leSelftestDone e true) s = .next (s.wr (Reg.LE_STATUS_STATE e) State.leEmpty) ∧
    exec (.leSelftestDone e false) s =
      .next (((s.wr (Reg.LE_STATUS_STATE e) State.leFaulted).wr (Reg.LE_FLAGS_SELFTEST_FAIL e) 1).raise Ev.LE_FAULT)) ∧
  (∀ (s : State) (m : Master) (e : Nat), e < 2 → s.regsOk → s.right m (0x40050018 + 0x8000 * e) .cr = .allow → s.leState e = State.leFaulted →
    ∃ t, exec (.leSelftestCmd m e) s = .next t ∧ t.leState e = State.leSelftest ∧ (t.le e).img0 = [] ∧ (t.le e).queue = [] ∧ s.memsSame t) ∧
  (∀ (s : State) (m : Master) (e : Nat), e < 2 → s.right m (0x40050018 + 0x8000 * e) .cr = .allow → s.leState e = State.leReady →
    s.on (Reg.LE_STATUS_COVERING (1 - e)) = true →
    exec (.leReturnCmd m e) s = .next (s.acked.setLe e { s.le e with returning := true })) ∧
  (∀ (s : State) (e : Nat), e < 2 → s.regsOk → (s.le e).returning = true →
    ∃ t, exec (.leReturnApply e) s = .next t ∧ (t.le e).returning = false ∧ t.rd (Reg.LE_STATUS_COVERING (1 - e)) = 0 ∧
      (t.le e).adoptNext = List.range (Le.njob (s.leActive e)) ∧ s.raisedIn t Ev.LE_COVER ∧ s.memsSame t) ∧
  (∀ (s : State) (m : Master) (e i n : Nat), e < 2 → i < 4 → s.right m (0x40050300 + 0x8000 * e + 4 * i) .cr = .allow → s.regsOk →
    s.on (Reg.LE_INJ_ARM e i) = false → (s.le e).injStart.length = 4 →
    ∃ t, exec (.leInjArm m e i true n) s = .next t ∧ t.rd (Reg.LE_INJ_ARM e i) = 1 ∧ t.rd (Reg.LE_INJ_BUSY e i) = 1 ∧
      t.rd (Reg.LE_INJ_FRAMES e i) = n % 65536 ∧ nth (t.le e).injStart i 0 = s.rd Reg.ORB_FRAME_COUNT ∧
      s.regsBut t [Reg.LE_INJ_ARM e i, Reg.LE_INJ_BUSY e i, Reg.LE_INJ_FRAMES e i] ∧ s.memsSame t) ∧
  (∀ (s : State) (e i : Nat), e < 2 → i < 4 → s.on (Reg.LE_INJ_BUSY e i) = true → s.rd (Reg.LE_INJ_FRAMES e i) ≠ 0 →
    s.rd (Reg.LE_INJ_FRAMES e i) ≤ (s.rd Reg.ORB_FRAME_COUNT + turn - nth (s.le e).injStart i 0) % turn →
    exec (.leInjEnd e i) s = .next ((s.wr (Reg.LE_INJ_ARM e i) 0).wr (Reg.LE_INJ_BUSY e i) 0)) ∧
  (∀ (s : State) (m : Master) (e : Nat), e < 2 → s.right m (0x40050040 + 0x8000 * e) .cr = .allow →
    exec (.leCntClr m e 15) s = .next ((((s.acked.wr (Reg.LE_ECC_COUNT_COUNT e) 0).wr (Reg.LE_CANCEL_COUNT_COUNT e) 0).wr
      (Reg.LE_MISSED_COUNT_COUNT e) 0).wr (Reg.LE_NUMERIC_COUNT_COUNT e) 0)) ∧
  (∀ (s : State) (m : Master) (e i v : Nat), e < 2 → i < 2048 → s.right m (0x40052000 + 0x8000 * e + 4 * i) .cr = .allow →
    s.on (Reg.LE_STATUS_LOAD_BUSY e) = false →
    exec (.leImgInactWrite m e i v) s = .next (s.acked.setLeInactive e (bankSet (s.leInactive e) i v)))

/-- R216 with R211, R212, R217, R220 and R221; `Shaped` gives the six legs. -/
def Obligations.DriveLegStatesMove : Prop :=
  (∀ (s : State) (m : Master) (n : Nat), n < 6 → s.regsOk → s.right m 0x40020000 .cr = .allow → s.cpRun = false → s.legState n = State.legUnused →
    ∃ t, exec (.drvLegUse m n) s = .next t ∧ t.legState n = State.legInit ∧ hasBit (t.rd Reg.DRV_CTRL_USED) n = true ∧ s.memsSame t) ∧
  (∀ (s : State) (m : Master) (n a b : Nat), n < 6 → s.right m 0x40020000 .cr = .allow → s.cpRun = true →
    exec (.drvLegUse m n) s = .next (s.acked.wr Reg.DRV_FLAGS_CFG_ERR 1) ∧
    exec (.drvLegUnuse m n a b) s = .next (s.acked.wr Reg.DRV_FLAGS_CFG_ERR 1)) ∧
  (∀ (s : State) (m : Master) (n a b : Nat), n < 6 → s.regsOk → s.right m 0x40020000 .cr = .allow → s.cpRun = false →
    ∃ t, exec (.drvLegUnuse m n a b) s = .next t ∧ t.legState n = State.legUnused ∧ hasBit (t.rd Reg.DRV_CTRL_USED) n = false ∧
      t.rd (Reg.DRV_CFG_ARM n) = 0 ∧ t.rd (Reg.DRV_STATE_LINK_OK n) = 0 ∧ s.memsSame t) ∧
  (∀ (s : State) (n : Nat), n < 6 → s.regsOk → s.Shaped → s.legState n = State.legInit →
    ∃ t, exec (.drvInitDone n) s = .next t ∧ t.legState n = State.legTest ∧ t.rd (Reg.DRV_STATE_LINK_OK n) = 1 ∧ t.rd (Reg.DRV_TEST_RES_BUSY n) = 1 ∧
      (t.leg n).testSel = 511 ∧ (t.leg n).testFrom = State.legInit ∧ s.memsSame t) ∧
  (∀ (s : State) (n : Nat), n < 6 → s.regsOk → s.legState n = State.legTest → (s.leg n).testFrom = State.legInit → (s.leg n).testSel = 511 →
    ∃ t, exec (.drvTestDone n 511) s = .next t ∧ t.legState n = State.legOff ∧ t.rd (Reg.DRV_STATE_TEST_OK n) = 1 ∧ t.rd (Reg.DRV_TEST_RES_PASS n) = 511 ∧
      t.rd (Reg.DRV_TEST_RES_BUSY n) = 0 ∧ s.raisedIn t Ev.DRV_TEST_DONE ∧ s.memsSame t) ∧
  (∀ (s : State) (m : Master) (n : Nat), n < 6 → s.regsOk → s.Shaped → s.right m (State.legAddr n 0x44) .cr = .allow → s.legState n = State.legOff →
    s.rd (Reg.DRV_TEST_CMD_SEL n) ≠ 0 →
    ∃ t, exec (.drvTestStart m n) s = .next t ∧ t.legState n = State.legTest ∧ (t.leg n).testSel = s.rd (Reg.DRV_TEST_CMD_SEL n) ∧
      t.rd (Reg.DRV_TEST_RES_BUSY n) = 1 ∧ s.memsSame t) ∧
  (∀ (s : State) (m : Master) (n : Nat), n < 6 → s.right m (State.legAddr n 0x44) .cr = .allow → s.legState n = State.legArmed →
    exec (.drvTestStart m n) s = .next (s.acked.wr Reg.DRV_FLAGS_TEST_REFUSED 1)) ∧
  (∀ (s : State) (m : Master) (n : Nat), n < 6 → s.right m (State.legAddr n 0) .cr = .allow → s.legState n = State.legOff →
    (s.armable n = true → exec (.drvArm m n) s = .next ((s.acked.wr (Reg.DRV_CFG_ARM n) 1).setLeg n { s.leg n with armPend := true })) ∧
    (s.armable n = false → exec (.drvArm m n) s = .next ((s.acked.wr (Reg.DRV_CFG_ARM n) 0).wr Reg.DRV_FLAGS_CFG_ERR 1))) ∧
  (∀ (s : State) (n : Nat), n < 6 → s.regsOk → s.Shaped → s.legState n = State.legOff → (s.leg n).armPend = true → s.armable n = true →
    ∃ t, exec (.drvArmEngage n) s = .next t ∧ t.legState n = State.legArmed ∧ (t.leg n).armPend = false ∧ s.memsSame t) ∧
  (∀ (s : State) (m : Master) (n : Nat), n < 6 → s.regsOk → s.right m (State.legAddr n 0) .cr = .allow → s.legState n = State.legArmed →
    ∃ t, exec (.drvDisarm m n) s = .next t ∧ t.legState n = State.legOff ∧ t.rd (Reg.DRV_CFG_ARM n) = 0 ∧ s.memsSame t) ∧
  (∀ (s : State) (n : Nat), n < 6 → s.regsOk → s.legState n = State.legArmed → s.on (Reg.DRV_CFG_DSAT_EN_H n) = true →
    s.on (Reg.DRV_STATE_BS_HOLD n) = false → s.rd (Reg.DRV_STATE_TRIES n) < 15 →
    ∃ t, exec (.drvDsatOc n 0 true) s = .next t ∧ t.legState n = State.legSoftOff ∧ t.rd (Reg.DRV_CAUSE_FIRST n) = 0 ∧
      hasBit (t.rd (Reg.DRV_CAUSE_CAUSE n)) 0 = true ∧ t.rd (Reg.DRV_STATE_TRIES n) = s.rd (Reg.DRV_STATE_TRIES n) + 1 ∧
      s.raisedIn t (Ev.DRV_FAULT n) ∧ s.memsSame t) ∧
  (∀ (s : State) (n c : Nat), n < 6 → 4 ≤ c → c ≤ 8 → s.regsOk → s.legState n = State.legArmed → s.rd (Reg.DRV_STATE_TRIES n) < 15 →
    ∃ t, exec (.drvLegFault n c) s = .next t ∧
      t.legState n = (if s.rd (Reg.DRV_STATE_TRIES n) < s.rd (Reg.DRV_CFG_RETRY_MAX n) then State.legWait else State.legLatched) ∧
      t.rd (Reg.DRV_CAUSE_FIRST n) = c ∧ hasBit (t.rd (Reg.DRV_CAUSE_CAUSE n)) c = true ∧ hasBit (t.rd Reg.DRV_STATUS_FAULTED) n = true ∧
      t.rd (Reg.DRV_STATE_TRIES n) = s.rd (Reg.DRV_STATE_TRIES n) + 1 ∧ s.raisedIn t (Ev.DRV_FAULT n) ∧ s.memsSame t) ∧
  (∀ (s : State) (n : Nat), n < 6 → s.regsOk → s.legState n = State.legSoftOff → s.rd (Reg.DRV_CFG_RETRY_MAX n) < s.rd (Reg.DRV_STATE_TRIES n) →
    ∃ t, exec (.drvSoftoffEnd n) s = .next t ∧ t.legState n = State.legLatched ∧ hasBit (t.rd Reg.DRV_STATUS_LATCHED) n = true ∧
      s.raisedIn t Ev.DRV_LATCH ∧ s.memsSame t) ∧
  (∀ (s : State) (n : Nat), n < 6 → s.legState n = State.legWait → s.legPresent n = false → s.on (Reg.DRV_STATE_LINK_OK n) = true →
    s.on (Reg.DRV_STATE_EN_CUT n) = false → exec (.drvRetryWaitEnd n) s = .next (s.setLeg n { s.leg n with rearmPend := true })) ∧
  (∀ (s : State) (n : Nat), n < 6 → s.legState n = State.legArmed → exec (.drvTriesReset n) s = .next (s.wr (Reg.DRV_STATE_TRIES n) 0)) ∧
  (∀ (s : State) (n : Nat), n < 6 → s.regsOk → s.cpRun = false → s.legState n = State.legLatched → s.legPresent n = false →
    s.on (Reg.DRV_STATE_LINK_OK n) = true →
    ∃ t, exec (.drvCmdClear .mc n) s = .next t ∧ t.legState n = State.legOff ∧ t.rd (Reg.DRV_STATE_TRIES n) = 0 ∧ t.rd (Reg.DRV_CAUSE_FIRST n) = 31 ∧
      t.rd (Reg.DRV_CFG_ARM n) = 0 ∧ hasBit (t.rd Reg.DRV_STATUS_LATCHED) n = false ∧ s.memsSame t) ∧
  (∀ (s : State) (n : Nat), n < 6 → s.cpRun = false → s.legState n = State.legLatched → s.legPresent n = true →
    exec (.drvCmdClear .mc n) s = .next (s.acked.wr Reg.DRV_FLAGS_CLEAR_REFUSED 1)) ∧
  (∀ (s : State) (n a b : Nat), n < 6 → s.regsOk → s.legState n = State.legOff →
    ∃ t, exec (.drivePathTimeout n a b) s = .next t ∧ t.rd (Reg.DRV_STATE_LINK_OK n) = 0 ∧ hasBit (t.rd Reg.DRV_STATUS_LINK_OK) n = false ∧
      t.legState n = State.legOff ∧ s.regsBut t [Reg.DRV_STATE_LINK_OK n, Reg.DRV_STATUS_LINK_OK] ∧ s.memsSame t) ∧
  (∀ (s : State) (p : Nat), p < 24 → s.regsOk → hasBit (s.rd Reg.PWM_ESC_PAIRS) p = false → s.rd (Reg.PR_STATUS_XLOCK_TURN p) < 7 →
    ∃ t, exec (.pwmInterlock p) s = .next t ∧ t.rd Reg.PWM_FLAGS_XLOCK = 1 ∧ t.rd Reg.PWM_XLOCK_LAST_PAIR = p ∧
      t.rd (Reg.PR_STATUS_XLOCK_TURN p) = s.rd (Reg.PR_STATUS_XLOCK_TURN p) + 1 ∧ s.raisedIn t Ev.PWM_XLOCK ∧ s.memsSame t) ∧
  (∀ (s : State) (p : Nat), p < 24 → hasBit (s.rd Reg.PWM_ESC_PAIRS) p = true → exec (.pwmInterlock p) s = .next s)

/-- R203 to R224 for the reports; each equation gives the whole next state. -/
def Obligations.DriveReportsAct : Prop :=
  (∀ (s : State) (n : Nat), n < 6 →
    exec (.isoRefreshTimeout n true) s = .next (s.setLeg n { s.leg n with clampH := true }) ∧
    exec (.isoRefreshTimeout n false) s = .next (s.setLeg n { s.leg n with clampL := true })) ∧
  (∀ (s : State) (n : Nat), n < 6 → s.on (Reg.DRV_STATE_EN_CUT n) = false →
    exec (.drvEnableCut n) s = .next (((s.wr (Reg.DRV_STATE_EN_CUT n) 1).wr Reg.DRV_STATUS_EN_CUT
      (setBit (s.rd Reg.DRV_STATUS_EN_CUT) n)).raise Ev.DRV_EN_CUT)) ∧
  (∀ (s : State) (n : Nat), n < 6 → s.on (Reg.DRV_STATE_EN_CUT n) = true → exec (.drvEnableCut n) s = .next s) ∧
  (∀ (s : State) (n : Nat), n < 6 → s.regsOk → s.Shaped → s.on (Reg.DRV_STATE_EN_CUT n) = true → s.safety.cutSc = false → s.safety.cutHsl = false →
    ∃ t, exec (.drvEnableReturn n) s = .next t ∧ t.rd (Reg.DRV_STATE_EN_CUT n) = 0 ∧ hasBit (t.rd Reg.DRV_STATUS_EN_CUT) n = false ∧
      (t.leg n).enWait = true ∧ s.raisedIn t Ev.DRV_EN_CUT ∧ s.regsButEv t [Reg.DRV_STATE_EN_CUT n, Reg.DRV_STATUS_EN_CUT] ∧ s.memsSame t) ∧
  (∀ (s : State) (n : Nat), (s.safety.cutSc = true ∨ s.safety.cutHsl = true) → exec (.drvEnableReturn n) s = .next s) ∧
  (∀ (s : State) (n : Nat), n < 6 → s.regsOk → s.Shaped → s.legState n = State.legArmed → s.rd (Reg.DRV_XLOCK_TURN n) < 7 →
    ∃ t, exec (.drvDieInterlock n) s = .next t ∧ (t.leg n).waitH = true ∧ (t.leg n).waitL = true ∧
      t.rd (Reg.DRV_XLOCK_TURN n) = s.rd (Reg.DRV_XLOCK_TURN n) + 1 ∧ t.legState n = State.legArmed ∧ s.raisedIn t Ev.DRV_XLOCK ∧
      s.regsButEv t [Reg.DRV_XLOCK_TURN n, Reg.DRV_XLOCK_COUNT n] ∧ s.memsSame t) ∧
  (∀ (s : State) (n : Nat), n < 6 → s.on (Reg.DRV_CFG_BOOT n) = true → s.on (Reg.DRV_STATE_BS_WARN n) = false → s.legState n ≠ State.legUnused →
    exec (.drvBsWarn n) s = .next ((s.wr (Reg.DRV_STATE_BS_WARN n) 1).raise Ev.DRV_BS_WARN)) ∧
  (∀ (s : State) (n : Nat), n < 6 → s.on (Reg.DRV_CFG_BOOT n) = true → s.on (Reg.DRV_STATE_BS_HOLD n) = false → s.legState n = State.legArmed →
    exec (.drvBsUv n) s = .next ((s.wr (Reg.DRV_STATE_BS_HOLD n) 1).raise Ev.DRV_BS_UV)) ∧
  (∀ (s : State) (n : Nat), n < 6 → s.on (Reg.DRV_STATE_BS_WARN n) = true →
    exec (.drvBsOk n false true) s =
      .next (((s.setLeg n { s.leg n with bsPend := false }).wr (Reg.DRV_STATE_BS_WARN n) 0).raise Ev.DRV_BS_OK)) ∧
  (∀ (s : State) (n k : Nat), n < 6 → s.on (Reg.DRV_STATE_ADAPT_READY n) = true → s.legState n = State.legArmed →
    s.rd (Reg.DRV_ADAPT_H_MODE_ON n) ≠ 0 → k < 1023 → s.on (Reg.DRV_STATE_BS_HOLD n) = false →
    exec (.drvTransitionMeasure n true .ghOn false k) s = .next ((s.wr (Reg.DRV_TSW_H_ON_NS n) k).wr (Reg.DRV_CODE_H_ON n)
      (State.adaptCode (s.rd (Reg.DRV_ADAPT_H_MODE_ON n)) (s.rd (Reg.DRV_ADAPT_H_TGT_ON n)) (s.rd (Reg.DRV_ADAPT_H_DB n))
        (s.rd (Reg.DRV_BOUND_H_ON_MIN n)) (s.rd (Reg.DRV_BOUND_H_ON_MAX n)) (s.rd (Reg.DRV_CODE_H_ON n)) k))) ∧
  (∀ (s : State) (n : Nat), n < 6 → s.legState n ≠ State.legUnused →
    exec (.drvStatusFrame n none) s = .next (((s.wr Reg.DRV_CRC_COUNT_COUNT (satInc 65535 (s.rd Reg.DRV_CRC_COUNT_COUNT))).wr
      Reg.DRV_FLAGS_LINK_CRC 1).raise Ev.DRV_LINK_CRC)) ∧
  (∀ (s : State) (n : Nat) (f : DrvFrame), n < 6 → s.regsOk → s.Shaped → s.legState n = State.legOff →
    ∃ t, exec (.drvStatusFrame n (some f)) s = .next t ∧ t.rd (Reg.DRV_STATE_VBS n) = f.vbs % 256 ∧ t.rd (Reg.DRV_TEMP_TJ_H n) = f.tjH % 256 ∧
      (t.leg n).present = f.active % 512 ∧ t.rd (Reg.DRV_STATE_LINK_OK n) = 1 ∧ t.legState n = State.legOff ∧ s.memsSame t) ∧
  (∀ (s : State) (n : Nat), n < 6 → exec (.drvShortCmd n) s = .next (s.wr Reg.DRV_FLAGS_SHORT_CMD 1)) ∧
  (∀ (s : State) (n k : Nat), n < 6 → s.regsOk → s.legState n = State.legArmed → s.rd (Reg.DRV_TEMP_WARN n) ≤ k → k < 256 → (s.leg n).warnH = false →
    ∃ t, exec (.drvOtWarn n true k) s = .next t ∧ t.rd (Reg.DRV_TEMP_TJ_H n) = k ∧ s.raisedIn t Ev.DRV_OT_WARN ∧
      s.regsButEv t [Reg.DRV_TEMP_TJ_H n] ∧ s.memsSame t) ∧
  (∀ (s : State) (m : Master), s.right m 0x40020010 .cr = .allow →
    exec (.drvClrCrc m) s = .next (s.acked.wr Reg.DRV_CRC_COUNT_COUNT 0) ∧
    exec (.drvClrXlock m) s = .next ((((((s.acked.wr (Reg.DRV_XLOCK_COUNT 0) 0).wr (Reg.DRV_XLOCK_COUNT 1) 0).wr (Reg.DRV_XLOCK_COUNT 2) 0).wr
      (Reg.DRV_XLOCK_COUNT 3) 0).wr (Reg.DRV_XLOCK_COUNT 4) 0).wr (Reg.DRV_XLOCK_COUNT 5) 0))

/-- R225 to R249 for the converters; `2 ^ c` is the mask that names converter `c` alone. -/
def Obligations.ConvertersConvertAndDeliver : Prop :=
  (∀ (s : State) (c : Nat) (v : Int) (x : SarConv), c < 8 → s.regsOk → s.Shaped → s.sarState c = State.sarRun → (s.sar c).cur = some x →
    x.inj = none → nth (s.sar c).cfg.avg x.chan 0 = 0 → nth (s.sar c).wins x.chan {} = {} →
    ∃ t p, exec (.sarConversionEnd c v) s = .next t ∧ (t.sar c).flight = (s.sar c).flight ++ [p] ∧
      p.code = ofSigned 16 (State.convert x.chan x.gain v).1 ∧ p.ovr = (State.convert x.chan x.gain v).2 ∧ p.chan = x.chan ∧ p.tag = x.tag ∧
      p.inj = false ∧ p.seqNo = (s.sar c).seqNo ∧ (t.sar c).seqNo = ((s.sar c).seqNo + 1) % 16 ∧
      s.regsBut t (Reg.SAR_CHECK_DONE c :: State.sarShown c) ∧ s.memsSame t) ∧
  (∀ (s : State) (c : Nat) (v : Int) (x : SarConv), c < 8 → s.regsOk → s.Shaped → s.sarState c = State.sarRun → (s.sar c).cur = some x →
    x.inj = none → x.chan < (s.sar c).wins.length → (nth (s.sar c).wins x.chan {}).n + 1 < 2 ^ nth (s.sar c).cfg.avg x.chan 0 →
    ∃ t, exec (.sarConversionEnd c v) s = .next t ∧ (t.sar c).flight = (s.sar c).flight ∧ (t.sar c).seqNo = (s.sar c).seqNo ∧
      (nth (t.sar c).wins x.chan {}).sum = (nth (s.sar c).wins x.chan {}).sum + (State.convert x.chan x.gain v).1 ∧
      (nth (t.sar c).wins x.chan {}).n = (nth (s.sar c).wins x.chan {}).n + 1 ∧
      s.regsBut t (Reg.SAR_CHECK_DONE c :: State.sarShown c) ∧ s.memsSame t) ∧
  (∀ (s : State) (c : Nat) (v : Int) (x : SarConv) (pos : Nat) (last : Bool) (op : Option Nat), c < 8 → s.regsOk → s.Shaped →
    s.sarState c = State.sarRun → (s.sar c).cur = some x → x.inj = some (pos, last, op) → s.on (Reg.SAR_CFG_INJ_EVT c) = true →
    ∃ t p, exec (.sarConversionEnd c v) s = .next t ∧ (t.sar c).flight = (s.sar c).flight ++ [p] ∧
      p.code = ofSigned 16 (State.convert x.chan x.gain v).1 ∧ p.chan = x.chan ∧ p.inj = true ∧ p.pos = pos ∧ p.last = last ∧ p.op = op ∧
      (last = true → s.raisedIn t Ev.SNS_INJ_END) ∧ s.regsButEv t (Reg.SAR_CHECK_DONE c :: State.sarShown c) ∧ s.memsSame t) ∧
  (∀ (s : State) (c w : Nat) (x : SarConv), c < 8 → s.sarState c = State.sarRun → (s.sar c).cfg.cmpEn = true → (s.sar c).cfg.cmpSrc = w →
    (s.sar c).run = none → (s.sar c).cur = some x →
    exec (.sarInjTrigger c (.window w)) s =
      .next (s.setSar c { s.sar c with run := some (State.seqOf (s.sar c) (s.sar c).cfg.seq1 s.tagByte none) })) ∧
  (∀ (s : State) (c slot : Nat) (o : OrbOp) (r : SarSeq), c < 8 → s.Shaped → s.sarState c = State.sarRun → s.opOf? slot 1 = some o →
    hasBit o.arga c = true → (s.sar c).run = some r → (s.sar c).queue = none →
    ∃ t, exec (.sarInjTrigger c (.op slot)) s = .next t ∧
      (t.sar c).queue = some (State.seqOf (s.sar c) (s.sar c).cfg.seq0 (o.tag % 256) (some slot)) ∧
      (t.sar c).run = some r ∧ s.regsBut t (State.sarShown c) ∧ s.memsSame t) ∧
  (∀ (s : State) (m : Master) (c : Nat) (x : SarConv), c < 8 → s.right m 0x4003000C .cr = .allow → s.sarState c = State.sarRun →
    (s.sar c).run = none → (s.sar c).cur = some x →
    exec (.swtrig m (2 ^ c)) s =
      .next (s.acked.setSar c { s.sar c with run := some (State.seqOf (s.sar c) (s.sar c).cfg.seq0 s.tagByte none) })) ∧
  (∀ (s : State) (m : Master) (c : Nat) (r q : SarSeq), c < 8 → s.right m 0x4003000C .cr = .allow → s.sarState c = State.sarRun →
    (s.sar c).run = some r → (s.sar c).queue = some q →
    exec (.swtrig m (2 ^ c)) s =
      .next (((s.acked.incSat (Reg.SAR_COUNTS_DROPS c)).setB Reg.SNS_FLAGS_INJ_OVERRUN c).raise Ev.SNS_INJ_OVERRUN)) ∧
  (∀ (s : State) (m : Master) (p : PairId) (c : Nat), c < 8 → State.masterPair? m = some p → s.on (State.fenceFld p) = false →
    s.pairState p = State.pairActive →
    (∀ w r, (s.sar c).fifo = w :: r →
      exec (.sarFifoPop m c) s = .next (State.setSar { s with bus := .data w } c { s.sar c with fifo := r })) ∧
    ((s.sar c).fifo = [] →
      exec (.sarFifoPop m c) s = .next (State.setSar { s with bus := .data 0x000E0000 } c { s.sar c with fifo := [] }))) ∧
  (∀ (s : State) (m : Master) (p : PairId) (c w : Nat) (r : List Nat), c < 8 → State.masterPair? m = some p → s.on (State.fenceFld p) = false →
    s.pairState p = State.pairStandby → (s.sar c).fifo = w :: r →
    exec (.sarFifoPop m c) s = .next { s with bus := .data w }) ∧
  (∀ (s : State) (c slot : Nat) (q : SarSeq), c < 8 → q.op = some slot → q.tag ≠ s.tagByte →
    ((s.sar c).run = none → (s.sar c).queue = some q →
      exec (.sarCancelArrive c slot) s = .next (s.setSar c { s.sar c with queue := none })) ∧
    (∀ x, (s.sar c).run = some q → (s.sar c).queue = none → (s.sar c).cur = some x → x.inj.isSome = true →
      exec (.sarCancelArrive c slot) s = .next (s.setSar c { s.sar c with queue := none, run := some { q with chans := q.chans.take q.pos } }))) ∧
  (∀ (s : State) (m : Master) (c : Nat), c < 8 → s.regsOk → s.right m 0x40030000 .cr = .allow → s.sarState c = State.sarOff →
    s.on Reg.SNS_LINK_DOWN = false →
    ∃ t, exec (.sarEnable m c) s = .next t ∧ hasBit (t.rd Reg.SNS_CTRL_EN) c = true ∧ t.sarState c = State.sarInit ∧
      s.regsBut t (Reg.SNS_CTRL_EN :: State.sarShown c) ∧ s.memsSame t) ∧
  (∀ (s : State) (m : Master) (c : Nat), c < 8 → s.regsOk → s.Shaped → s.right m 0x40030000 .cr = .allow →
    ∃ t, exec (.sarDisable m c) s = .next t ∧ hasBit (t.rd Reg.SNS_CTRL_EN) c = false ∧ t.sarState c = State.sarOff ∧
      hasBit (t.rd Reg.SNS_STATUS_RUN) c = false ∧ (t.sar c).cur = none ∧ (t.sar c).run = none ∧ (t.sar c).queue = none ∧
      (t.sar c).fifo = (s.sar c).fifo ∧ s.regsBut t (Reg.SNS_CTRL_EN :: State.sarShown c) ∧ s.memsSame t) ∧
  (∀ (s : State) (c : Nat), c < 8 → s.regsOk → s.Shaped → s.sarState c = State.sarInit → (s.sar c).ready = none → (s.sar c).run = none →
    ∃ t, exec (.sarInitDone c true) s = .next t ∧ t.sarState c = State.sarRun ∧ hasBit (t.rd Reg.SNS_STATUS_RUN) c = true ∧
      (t.sar c).cur = (State.scanPick (s.sar c).cfg.mask none).map
        (fun ch => ⟨ch, nth (s.sar c).cfg.gain ch 0, s.tagByte, none, false⟩) ∧
      s.regsBut t (State.sarShown c) ∧ s.memsSame t) ∧
  (∀ (s : State) (c : Nat), c < 8 → s.regsOk → s.Shaped → s.sarState c = State.sarInit →
    ∃ t, exec (.sarInitDone c false) s = .next t ∧ t.sarState c = State.sarFault ∧ hasBit (t.rd Reg.SNS_FLAGS_FAULT) c = true ∧
      s.raisedIn t Ev.SNS_FAULT ∧ s.regsButEv t (Reg.SNS_FLAGS_FAULT :: State.sarShown c) ∧ s.memsSame t) ∧
  (∀ (s : State) (m : Master) (c : Nat) (x : SarConv), c < 8 → s.right m 0x4003000C .cr = .allow → s.sarState c = State.sarRun →
    (s.sar c).cur = some x →
    exec (.sarCheckCmd m (2 ^ c)) s = .next (s.acked.setSar c { s.sar c with checkPend := true })) ∧
  (∀ (s : State) (c : Nat) (c8 c9 c11 : Int), c < 8 → s.regsOk → s.Shaped → s.sarState c = State.sarCheck → -16 ≤ c8 → c8 ≤ 16 →
    -5120 ≤ c9 → c9 ≤ 20480 → c11 ≤ -32752 → (s.sar c).checkPend = false →
    ∃ t, exec (.sarCheckDone c c8 c9 c11) s = .next t ∧ t.rd (Reg.SAR_CHECK_DONE c) = 1 ∧ t.rd (Reg.SAR_CHECK_PASS c) = 1 ∧
      t.rd (Reg.SAR_CHECK_TEMP c) = ofSigned 16 c9 ∧ t.sarState c = State.sarRun ∧ s.memsSame t ∧
      s.regsBut t ([Reg.SAR_CHECK_DONE c, Reg.SAR_CHECK_PASS c, Reg.SAR_CHECK_TEMP c] ++ State.sarShown c)) ∧
  (∀ (s : State) (c : Nat) (c8 c9 c11 : Int), c < 8 → s.regsOk → s.Shaped → s.sarState c = State.sarCheck → 16 < c8 →
    ∃ t, exec (.sarCheckDone c c8 c9 c11) s = .next t ∧ t.rd (Reg.SAR_CHECK_DONE c) = 1 ∧ t.rd (Reg.SAR_CHECK_PASS c) = 0 ∧
      t.sarState c = State.sarFault ∧ s.raisedIn t Ev.SNS_FAULT ∧ s.memsSame t) ∧
  (∀ (s : State) (c : Nat), c < 8 → s.regsOk → s.Shaped → (s.sarState c = State.sarRun ∨ s.sarState c = State.sarCheck) →
    ∃ t, exec (.sarRefFault c) s = .next t ∧ t.sarState c = State.sarFault ∧ (t.sar c).flight = [] ∧ (t.sar c).fifo = (s.sar c).fifo ∧
      s.raisedIn t Ev.SNS_FAULT ∧ s.regsButEv t (Reg.SNS_FLAGS_FAULT :: State.sarShown c) ∧ s.memsSame t) ∧
  (∀ (s : State) (m : Master) (c : Nat), c < 8 → s.regsOk → s.Shaped → s.right m 0x4003000C .cr = .allow → s.sarState c = State.sarRun →
    ∃ t, exec (.sarSoftReset m (2 ^ c)) s = .next t ∧ (t.sar c).fifo = [] ∧ (t.sar c).flight = [] ∧ (t.sar c).run = none ∧
      (t.sar c).queue = none ∧ (t.sar c).cfg = (s.sar c).cfg ∧ t.sarState c = State.sarRun ∧
      (∀ ch, ch < 12 → t.rd (Reg.SAR_LATEST_WORD c ch) = 0) ∧ s.memsSame t) ∧
  (∀ (s : State) (c : Nat), c < 8 → s.regsOk → s.Shaped → s.sarState c = State.sarRun → (s.sar c).flight = [] → (s.sar c).fifo.length < 64 →
    ∃ t, exec (.sarPacketGap c 1) s = .next t ∧
      (t.sar c).fifo = (s.sar c).fifo ++ [State.resultWord 0 15 false true false false (s.sar c).lastTag] ∧
      t.rd (Reg.SAR_COUNTS_LOST c) = satInc (2 ^ (Reg.SAR_COUNTS_LOST c).width - 1) (s.rd (Reg.SAR_COUNTS_LOST c)) ∧
      hasBit (t.rd Reg.SNS_FLAGS_LOST) c = true ∧ s.raisedIn t Ev.SNS_LOST ∧ t.sarState c = State.sarRun ∧
      s.regsButEv t (Reg.SAR_COUNTS_LOST c :: Reg.SNS_FLAGS_LOST :: State.sarShown c) ∧ s.memsSame t) ∧
  (∀ (s : State) (c n : Nat), c < 8 → 8 < n → s.regsOk → s.Shaped → s.sarState c = State.sarRun →
    ∃ t, exec (.sarPacketGap c n) s = .next t ∧ t.sarState c = State.sarFault ∧ (t.sar c).flight = [] ∧ s.raisedIn t Ev.SNS_FAULT ∧
      s.memsSame t) ∧
  (∀ (s : State) (m : Master) (c v tick : Nat), c < 8 → (s.toTick tick).right m (State.sarAddr c .scan) .cr = .allow →
    s.sarState c = State.sarOff →
    exec (.sarConfigWrite m c .scan v tick) s = .next (((s.toTick tick).acked.wr (Reg.SAR_SCAN_MASK c) v).sarApplyOff c)) ∧
  (∀ (s : State) (m : Master) (c ch v tick : Nat), c < 8 → ch < 12 → (s.toTick tick).right m (State.sarAddr c (.chcfg ch)) .cr = .allow →
    8 < fieldOf v 8 4 →
    exec (.sarConfigWrite m c (.chcfg ch) v tick) s = .next ((s.toTick tick).acked.wr (Reg.SAR_STATUS_CFG_ERR c) 1)) ∧
  (∀ (s : State) (c : Nat) (n : SarCfg), c < 8 → s.Shaped → (s.sar c).ready = some n →
    ∃ t, exec (.sarConfigCommit c) s = .next t ∧ (t.sar c).cfg = n ∧ (t.sar c).ready = none ∧ s.regsBut t (State.sarShown c) ∧
      s.memsSame t) ∧
  (∀ (s : State) (c : Nat), (s.sar c).ready = none → exec (.sarConfigCommit c) s = .next s) ∧
  (∀ (s : State) (m : Master), s.regsOk → s.right m 0x40030018 .cr = .allow →
    ∃ t, exec (.snsClrSar m) s = .next t ∧ s.memsSame t ∧ ∀ c, c < 8 → t.rd (Reg.SAR_COUNTS_DROPS c) = 0 ∧
      t.rd (Reg.SAR_COUNTS_LOST c) = 0 ∧ t.rd (Reg.SAR_FIFO_OVF_COUNT_COUNT c) = 0)

/-- R66, with the converters of R240 when the link goes down and when it has trained. -/
def Obligations.SenseLinkTakesPackets : Prop :=
  (∀ (s : State) (l : Nat), l < 4 → hasBit (s.rd Reg.SNS_LINK_LANE_UP) l = true →
    exec (.slinkPacketReceive l true) s = .next { s with slink := { s.slink with fails := setNth s.slink.fails l 0 } }) ∧
  (∀ (s : State) (l : Nat), l < 4 → hasBit (s.rd Reg.SNS_LINK_LANE_UP) l = true → nth s.slink.fails l 0 < 2 →
    exec (.slinkPacketReceive l false) s = .next ((State.incSat
      { s with slink := { s.slink with fails := setNth s.slink.fails l (nth s.slink.fails l 0 + 1) } } Reg.SNS_LINK_CRC_COUNT).raise
        Ev.SLINK_CRC)) ∧
  (∀ (s : State) (l : Nat), l < 4 → s.regsOk → hasBit (s.rd Reg.SNS_LINK_LANE_UP) l = true → nth s.slink.fails l 0 = 2 →
    ∃ t, exec (.slinkPacketReceive l false) s = .next t ∧ hasBit (t.rd Reg.SNS_LINK_LANE_UP) l = false ∧ s.raisedIn t Ev.SLINK_CRC ∧
      s.memsSame t) ∧
  (∀ (s : State) (l : Nat), l < 4 → s.regsOk → hasBit (s.rd Reg.SNS_LINK_LANE_UP) l = true →
    2 ≤ popCount 4 (clearBit (s.rd Reg.SNS_LINK_LANE_UP) l) →
    exec (.slinkLaneRemove l) s = .next (s.clrB Reg.SNS_LINK_LANE_UP l)) ∧
  (∀ (s : State) (l : Nat), l < 4 → s.regsOk → s.Shaped → hasBit (s.rd Reg.SNS_LINK_LANE_UP) l = true →
    popCount 4 (clearBit (s.rd Reg.SNS_LINK_LANE_UP) l) < 2 → s.on Reg.SNS_LINK_DOWN = false →
    ∃ t, exec (.slinkLaneRemove l) s = .next t ∧ t.rd Reg.SNS_LINK_DOWN = 1 ∧ s.raisedIn t Ev.SLINK_DOWN ∧ t.pwmLatched = true ∧
      hasBit (t.rd Reg.PWM_SAFE_STATUS_ACTIVE) SafeCause.slinkDown.bit = true ∧ hasBit t.safety.sf4 2 = true ∧
      (∀ c, c < 8 → s.sarState c = State.sarRun → t.sarState c = State.sarFault) ∧
      (∀ c, c < 8 → s.sarState c = State.sarOff → t.sarState c = State.sarOff) ∧ s.memsSame t) ∧
  (∀ (s : State) (l : Nat), hasBit (s.rd Reg.SNS_LINK_LANE_UP) l = false →
    exec (.slinkPacketReceive l false) s = .next s ∧ exec (.slinkLaneRemove l) s = .next s) ∧
  (∀ (s : State) (v : Nat), s.regsOk → s.Shaped → s.slink.trained = false → v < 16 → 2 ≤ popCount 4 v →
    ∃ t, exec (.slinkTrainDone v) s = .next t ∧ t.rd Reg.SNS_LINK_LANE_UP = v ∧ t.rd Reg.SNS_LINK_DOWN = 0 ∧ t.slink.trained = true ∧
      t.slink.fails = [0, 0, 0, 0] ∧ hasBit (t.rd Reg.PWM_SAFE_STATUS_ACTIVE) SafeCause.slinkDown.bit = false ∧
      hasBit t.safety.sf4 2 = false ∧
      (∀ c, c < 8 → s.sarState c = State.sarOff →
        t.sarState c = if hasBit (s.rd Reg.SNS_CTRL_EN) c then State.sarInit else State.sarOff) ∧ s.memsSame t) ∧
  (∀ (s : State) (v : Nat), s.slink.trained = true → exec (.slinkTrainDone v) s = .next s) ∧
  (∀ (s : State) (m : Master), s.right m 0x40030018 .cr = .allow → exec (.snsClrCrc m) s = .next (s.acked.wr Reg.SNS_LINK_CRC_COUNT 0))

/-- R251 to R264; a threshold of code k is 5859375 k, a hysteresis of h mV 2000000 h and an input of v nV 2 v, in units of 0.5 nV. -/
def Obligations.ComparatorWindowsAct : Prop :=
  (∀ (s : State) (w lines : Nat) (v : Int), w < 16 → s.regsOk → s.Shaped → s.winState w = State.cmpArmed → s.on (Reg.CMP_CFG_MODE w) = false →
    s.classA w = true → s.on (Reg.CMP_CFG_HI_EN w) = true → (s.win w).hold = false → hasBit (s.rd Reg.CMP_OUT_OUT) w = false →
    (5859375 * (s.win w).cfg.thHi : Nat) < 2 * v →
    ∃ t, exec (.cmpOutputChange w v false lines) s = .next t ∧ hasBit (t.rd Reg.CMP_OUT_OUT) w = true ∧ (t.win w).hi = true ∧
      t.rd (Reg.CMP_STAT_HI_TRIP w) = 1 ∧ hasBit (t.rd Reg.CMP_FLAGS_TRIP) w = true ∧ s.raisedIn t (Ev.CMP_TRIP w) ∧
      t.winState w = State.cmpArmed ∧ s.memsSame t) ∧
  (∀ (s : State) (w lines : Nat) (v : Int) (b : Bool), w < 16 → s.winState w ≠ State.cmpOff → s.winState w ≠ State.cmpArmed →
    exec (.cmpOutputChange w v b lines) s = .next (s.setWin w { s.win w with vin := v, blank := b && s.winCanBlank w })) ∧
  (∀ (s : State) (w lines : Nat) (v : Int) (b : Bool), w < 16 → s.winState w = State.cmpOff →
    exec (.cmpOutputChange w v b lines) s = .next s) ∧
  (∀ (s : State) (b lines : Nat), b < 2 → s.regsOk → s.Shaped →
    ∃ t, exec (.cmpBankTick b lines) s = .next t ∧ s.memsSame t ∧
      ∀ w, w < 16 → w / 8 = b → s.winState w = State.cmpArmed → s.classA w = false → s.on (Reg.CMP_CFG_MODE w) = false →
        (t.win w).filtHi = ((s.win w).hi :: (s.win w).filtHi).take 11 ∧ (t.win w).filtLo = ((s.win w).lo :: (s.win w).filtLo).take 11 ∧
        (t.win w).fHi = State.filterBit (s.rd (Reg.CMP_CFG_KN w)) (((s.win w).hi :: (s.win w).filtHi).take 11) (s.win w).fHi) ∧
  (∀ (s : State) (b lines : Nat), b < 2 → (∀ w, w < 16 → w / 8 = b → s.winState w ≠ State.cmpArmed) →
    exec (.cmpBankTick b lines) s = .next s) ∧
  (∀ (s : State) (m : Master) (w : Nat), w < 16 → s.regsOk → s.Shaped → s.right m 0x40040000 .cr = .allow → s.winState w = State.cmpOff →
    ∃ t, exec (.cmpWindowEnable m w) s = .next t ∧ hasBit (t.rd Reg.CMP_CTRL_EN) w = true ∧ t.winState w = State.cmpStart ∧
      (t.win w).hi = s.on (Reg.CMP_CFG_FSAFE w) ∧ (t.win w).lo = s.on (Reg.CMP_CFG_FSAFE w) ∧ (t.win w).startHi = true ∧
      hasBit (t.rd Reg.CMP_OUT_OUT) w = (s.on (Reg.CMP_CFG_FSAFE w) && (s.on (Reg.CMP_CFG_HI_EN w) || s.on (Reg.CMP_CFG_LO_EN w))) ∧
      s.memsSame t) ∧
  (∀ (s : State) (m : Master) (w : Nat), w < 16 → s.regsOk → s.Shaped → s.right m 0x40040000 .cr = .allow → s.winState w ≠ State.cmpOff →
    ∃ t, exec (.cmpWindowDisable m w) s = .next t ∧ hasBit (t.rd Reg.CMP_CTRL_EN) w = false ∧ t.winState w = State.cmpOff ∧
      hasBit (t.rd Reg.CMP_OUT_OUT) w = false ∧ (s.winState w = State.cmpCheck → hasBit (t.rd Reg.CMP_LCHK_RES_NJ) w = true) ∧ s.memsSame t) ∧
  (∀ (s : State) (w : Nat) (v : Int), w < 16 → s.regsOk → s.Shaped → s.winState w = State.cmpStart → s.on (Reg.CMP_CFG_MODE w) = false →
    ∃ t, exec (.cmpWindowArm w v) s = .next t ∧ t.winState w = State.cmpArmed ∧ (t.win w).vin = v ∧
      (t.win w).hi = State.hiComp (2 * v) (5859375 * (s.win w).cfg.thHi : Nat) (2000000 * (s.win w).cfg.hysHi : Nat) (s.win w).hi ∧
      (t.win w).lo = State.loComp (2 * v) (5859375 * (s.win w).cfg.thLo : Nat) (2000000 * (s.win w).cfg.hysLo : Nat) (s.win w).lo ∧
      s.memsSame t) ∧
  (∀ (s : State) (w : Nat) (v : Int), w < 16 → s.winState w ≠ State.cmpStart → exec (.cmpWindowArm w v) s = .next s) ∧
  (∀ (s : State) (m : Master) (w v tick : Nat), w < 16 → s.regsOk → s.Shaped → (s.toTick tick).right m (State.cmpAddr w .th) .cr = .allow →
    (s.winState w = State.cmpOff → ∃ t, exec (.cmpConfigWrite m w .th v tick) s = .next t ∧ t.rd (Reg.CMP_TH_TH_HI w) = v % 1024 ∧
      t.rd (Reg.CMP_TH_TH_LO w) = v / 65536 % 1024 ∧ (t.win w).cfg.thHi = v % 1024 ∧ (t.win w).cfg.thLo = v / 65536 % 1024 ∧ s.memsSame t) ∧
    (s.winState w ≠ State.cmpOff → ∃ t, exec (.cmpConfigWrite m w .th v tick) s = .next t ∧ t.rd (Reg.CMP_TH_TH_HI w) = v % 1024 ∧
      t.rd (Reg.CMP_TH_TH_LO w) = v / 65536 % 1024 ∧ (t.win w).cfg = (s.win w).cfg ∧ (t.bank (w / 8)).wrote = true ∧
      t.rd (Reg.CMP_BANK_CFG_PEND (w / 8)) = 1 ∧ s.memsSame t)) ∧
  (∀ (s : State) (b : Nat) (l : List CmpCfg), b < 2 → s.regsOk → s.Shaped → (s.bank b).ready = some l →
    ∃ t, exec (.cmpConfigCommit b) s = .next t ∧ (t.bank b).ready = none ∧ s.memsSame t ∧
      ∀ i, i < 8 → s.winState (8 * b + i) ≠ State.cmpOff →
        (t.win (8 * b + i)).cfg = nth l i {} ∧ (t.win (8 * b + i)).hold = true) ∧
  (∀ (s : State) (b : Nat), (s.bank b).ready = none → exec (.cmpConfigCommit b) s = .next s) ∧
  (∀ (s : State) (w : Nat), w < 16 → s.Shaped → (s.win w).hold = true → s.winState w = State.cmpStart → s.regsOk →
    exec (.cmpDacHoldEnd w) s = .next (s.setWin w { s.win w with hold := false })) ∧
  (∀ (s : State) (w : Nat), (s.win w).hold = false → exec (.cmpDacHoldEnd w) s = .next s) ∧
  (∀ (s : State) (w : Nat), w < 16 → s.regsOk → s.Shaped → (s.win w).out = true → hasBit (s.rd Reg.CMP_OUT_OUT) w = false →
    ∃ t, exec (.cmpBlankEnd w) s = .next t ∧ (t.win w).blank = false ∧ hasBit (t.rd Reg.CMP_OUT_OUT) w = true ∧
      hasBit (t.rd Reg.CMP_FLAGS_TRIP) w = true ∧
      t.rd (Reg.CMP_STAT_COUNT w) = satInc (2 ^ (Reg.CMP_STAT_COUNT w).width - 1) (s.rd (Reg.CMP_STAT_COUNT w)) ∧
      s.raisedIn t (Ev.CMP_TRIP w) ∧ t.winState w = s.winState w ∧ s.memsSame t)

/-- R258 to R262 and R265; R235 and R236 for the result. -/
def Obligations.ComparatorChecksAndResultsAct : Prop :=
  (∀ (s : State) (m : Master) (b : Nat), b < 2 → s.right m 0x4004000C .cr = .allow → s.on (Reg.CMP_BANK_BUSY b) = false →
    (s.bank b).checkWait = false →
    (s.checkBlocked b = true → exec (.cmpLcheck m b) s = .next (s.acked.wr Reg.CMP_FLAGS_CHECK_REFUSED 1)) ∧
    (s.checkBlocked b = false → s.on (Reg.CMP_BANK_CFG_PEND b) = true →
      exec (.cmpLcheck m b) s = .next (s.acked.setBank b { s.bank b with checkWait := true })) ∧
    (s.checkBlocked b = false → s.on (Reg.CMP_BANK_CFG_PEND b) = false → s.regsOk → s.Shaped →
      ∃ t, exec (.cmpLcheck m b) s = .next t ∧ t.rd (Reg.CMP_BANK_BUSY b) = 1 ∧ s.memsSame t ∧
        ∀ w, w < 16 → w / 8 = b →
          t.winState w = (if hasBit (s.rd Reg.CMP_LCHK_CFG_SEL) w ∧ s.winState w = State.cmpArmed then State.cmpCheck else s.winState w) ∧
          hasBit (t.rd Reg.CMP_LCHK_RES_PASS) w = false ∧ hasBit (t.rd Reg.CMP_LCHK_RES_NJ) w = false)) ∧
  (∀ (s : State) (m : Master) (b : Nat), b < 2 → s.right m 0x4004000C .cr = .allow → s.on (Reg.CMP_BANK_BUSY b) = true →
    exec (.cmpLcheck m b) s = .next s.acked) ∧
  (∀ (s : State) (w : Nat) (r : LegacyResult), w < 16 → s.winState w = State.cmpCheck → s.on Reg.CMP_LCHK_CFG_TIE_GND = true →
    s.on (Reg.CMP_CFG_HI_EN w) = true → s.on (Reg.CMP_CFG_LO_EN w) = false → 4 ≤ (s.win w).cfg.thHi →
    (r.hi = true → exec (.cmpLcheckStepEnd w .tieGnd r) s =
      .next (s.setBank (w / 8) { s.bank (w / 8) with fail := setBit (s.bank (w / 8)).fail w })) ∧
    (r.hi = false → exec (.cmpLcheckStepEnd w .tieGnd r) s = .next s)) ∧
  (∀ (s : State) (w : Nat) (st : LegacyStep) (r : LegacyResult), s.winState w ≠ State.cmpCheck →
    exec (.cmpLcheckStepEnd w st r) s = .next s) ∧
  (∀ (s : State) (b : Nat), b < 2 → s.regsOk → s.Shaped → s.on (Reg.CMP_BANK_BUSY b) = true → (s.bank b).resetWait = false →
    ∃ t, exec (.cmpLcheckEnd b) s = .next t ∧ t.rd (Reg.CMP_BANK_BUSY b) = 0 ∧ s.raisedIn t Ev.CMP_CHECK ∧ s.memsSame t ∧
      ∀ w, w < 16 → w / 8 = b → s.winState w = State.cmpCheck →
        (hasBit (s.bank b).fail w = true → t.winState w = State.cmpFault ∧ t.rd Reg.CMP_FLAGS_CHECK_FAIL = 1) ∧
        (hasBit (s.bank b).fail w = false → t.winState w = State.cmpArmed ∧ hasBit (t.rd Reg.CMP_LCHK_RES_PASS) w = true)) ∧
  (∀ (s : State) (b : Nat), s.on (Reg.CMP_BANK_BUSY b) = false → exec (.cmpLcheckEnd b) s = .next s) ∧
  (∀ (s : State) (m : Master) (b : Nat), b < 2 → s.right m 0x4004000C .cr = .allow → s.on (Reg.CMP_BANK_BUSY b) = true →
    exec (.cmpBankSoftReset m b) s = .next (s.acked.setBank b { s.bank b with resetWait := true })) ∧
  (∀ (s : State) (m : Master) (b : Nat), b < 2 → s.regsOk → s.Shaped → s.right m 0x4004000C .cr = .allow → s.on (Reg.CMP_BANK_BUSY b) = false →
    ∃ t, exec (.cmpBankSoftReset m b) s = .next t ∧ s.memsSame t ∧
      ∀ w, w < 16 → t.winState w = (if w / 8 = b ∧ s.winState w = State.cmpArmed then State.cmpStart else s.winState w)) ∧
  (∀ (s : State) (c : Nat) (recent : Bool), (s.sar c).flight = [] → exec (.sarResultArrive c recent) s = .next s) ∧
  (∀ (s : State) (c : Nat) (recent : Bool) (p : SarPkt) (r : List SarPkt), c < 8 → s.regsOk → s.Shaped → (s.sar c).flight = p :: r →
    p.chan < 10 → p.inj = false → p.last = false → p.ovr = false → (s.sar c).fifo.length < 64 →
    ∃ t, exec (.sarResultArrive c recent) s = .next t ∧ (t.sar c).flight = r ∧
      t.rd (Reg.SAR_LATEST_WORD c p.chan) = State.resultWord p.code p.chan false p.settle false false p.tag ∧
      (t.sar c).fifo = (if hasBit (s.rd (Reg.SAR_FIFO_MASK_MASK c)) p.chan
        then (s.sar c).fifo ++ [State.resultWord p.code p.chan false p.settle false false p.tag] else (s.sar c).fifo) ∧
      s.regsButEv t (Reg.SAR_LATEST_WORD c p.chan :: State.sarShown c) ∧ s.memsSame t) ∧
  (∀ (s : State) (c k : Nat) (recent : Bool) (p : SarPkt) (r : List SarPkt) (e : Int), c < 8 → s.regsOk → s.Shaped →
    (s.sar c).flight = p :: r → p.chan = 10 → p.inj = false → p.last = false → p.ovr = false → p.settle = false → (s.sar c).fifo.length < 64 →
    s.on (Reg.CMP_RBSEL_AUTO c) = false → s.rd (Reg.CMP_RBSEL_SIDE c) = 0 → (s.win (s.rd (Reg.CMP_RBSEL_WIN c))).cfg.thHi = k →
    e = toSigned 16 p.code - 64 * ((k : Int) - 512) →
    ∃ t, exec (.sarResultArrive c recent) s = .next t ∧ t.rd (Reg.CMP_RBSTAT_JUDGED c) = b2n (!recent) ∧
      (recent = false → t.rd (Reg.CMP_RBSTAT_ERR c) = ofSigned 16 e ∧ t.rd (Reg.CMP_RBSTAT_PASS c) = b2n (decide (-96 ≤ e ∧ e ≤ 96)) ∧
        t.rd (Reg.CMP_RBSTAT_DAC c) = 2 * s.rd (Reg.CMP_RBSEL_WIN c) % 2 ^ (Reg.CMP_RBSTAT_DAC c).width ∧
        (96 < e → t.rd Reg.CMP_FLAGS_RB_FAIL = 1 ∧ s.raisedIn t Ev.CMP_CHECK)) ∧ s.memsSame t)

/-- R271 to R276; `gs.elapsed` is t in microseconds. -/
def Obligations.GridSupportMovesState : Prop :=
  (∀ (s : State) (e : RtEntry) (target : Nat), s.regsOk → (∀ w, s.pe.sweep = some w → w.ch < 6) → s.gsState = State.gsNormal →
    ((e = .lv ∧ s.lvEntry = true ∧ target = State.gsLvrt) ∨
     (e = .hv ∧ s.hvEntry = true ∧ target = (if s.lvEntry then State.gsLvrt else State.gsHvrt)) ∨
     (e = .zv ∧ s.orbState = State.orbFlywheel ∧ target = State.gsZvrt)) →
    (s.on Reg.GS_CTRL_RT_EN = true →
      ∃ t, exec (.gsRtEnter e) s = .next t ∧ t.gsState = target ∧ t.gs.elapsed = 0 ∧ t.rd Reg.GS_ELAPSED_US = 0 ∧
        t.rd Reg.GS_VPRE_VALUE = s.gs.turnMean.getD s.vPlus % 2 ^ 32 ∧ t.gs.idHold = nth s.gs.out 0 0 ∧ t.gs.iqPre = nth s.gs.out 1 0 ∧
        s.raisedIn t Ev.GS_RT_ENTER ∧ t.pe.sweep = none ∧
        (∀ w, s.pe.sweep = some w → t.peState w.ch = State.peTrack ∧ s.raisedIn t Ev.PE_SWEEP_DONE) ∧
        (s.on Reg.EE_CTRL_ACTIVE_EN = true → t.on Reg.EE_STATUS_SUSPENDED = true ∧ t.on Reg.EE_STATUS_INJECTING = false)) ∧
    (s.on Reg.GS_CTRL_RT_EN = false →
      ∃ t, exec (.gsRtEnter e) s = .next t ∧ t.gsState = State.gsTripped ∧ t.rd Reg.GS_TRIP_CAUSE_CAUSE = 8 ∧ t.gs.out = [0, 0, 0, 0] ∧
        hasBit t.safety.sf1 0 = true ∧ s.raisedIn t Ev.GS_TRIP ∧ s.memsSame t)) ∧
  (∀ (s : State), s.gsState = State.gsOff → exec (.gsRtEnter .lv) s = .next s) ∧
  (∀ (s : State), s.regsOk → s.gsState = State.gsHvrt → s.lvEntry = true → s.pe.sweep = none →
    ∃ t, exec (.gsRtEnter .lv) s = .next t ∧ t.gsState = State.gsLvrt ∧ t.gs.elapsed = 0 ∧ t.gs.idHold = s.gs.idHold ∧
      s.raisedIn t Ev.GS_RT_ENTER ∧ s.regsButEv t [Reg.GS_STATUS_STATE, Reg.GS_STATUS_HOLD, Reg.GS_ELAPSED_US] ∧ s.memsSame t) ∧
  (∀ (s : State), (s.gsState = State.gsLvrt ∨ s.gsState = State.gsHvrt) → 100 * s.prof 12 < s.gs.exitRun → s.gs.lvBad < 2 → s.gs.hvBad < 2 →
    exec .gsExitHold s = .next (State.gsSet { s with gs := { s.gs with idRec := nth s.gs.out 0 0 } } State.gsRecover)) ∧
  (∀ (s : State), s.gs.exitRun ≤ 100 * s.prof 12 → exec .gsExitHold s = .next s) ∧
  (∀ (s : State), s.regsOk → (s.gsState = State.gsLvrt ∨ s.gsState = State.gsHvrt) → (2 ≤ s.gs.lvBad ∨ 2 ≤ s.gs.hvBad) →
    ∃ t, exec .gsCurveViolation s = .next t ∧ t.gsState = State.gsTripped ∧
      t.rd Reg.GS_TRIP_CAUSE_CAUSE = b2n (decide (2 ≤ s.gs.lvBad)) + 2 * b2n (decide (2 ≤ s.gs.hvBad)) ∧ t.gs.out = [0, 0, 0, 0] ∧
      hasBit t.safety.sf1 0 = true ∧ s.raisedIn t Ev.GS_TRIP ∧
      s.regsButEv t [Reg.GS_STATUS_STATE, Reg.GS_STATUS_HOLD, Reg.GS_STATUS_ILIMIT, Reg.GS_TRIP_CAUSE_CAUSE, Reg.GS_FLAGS_TRIP] ∧
      s.memsSame t) ∧
  (∀ (s : State), s.regsOk → s.gsState = State.gsZvrt → (s.prof 13 * 1000 < s.gs.elapsed ∨ s.on Reg.ORB_STATUS_FLYLIMIT = true) →
    ∃ t, exec .gsZvTimeout s = .next t ∧ t.gsState = State.gsTripped ∧ t.rd Reg.GS_TRIP_CAUSE_CAUSE = 4 ∧ hasBit t.safety.sf1 0 = true ∧
      s.raisedIn t Ev.GS_TRIP ∧ s.memsSame t) ∧
  (∀ (s : State), s.gsState = State.gsZvrt → s.gs.elapsed ≤ s.prof 13 * 1000 → s.on Reg.ORB_STATUS_FLYLIMIT = false → s.pe.sweep = none →
    exec .gsZvTimeout s = .next s) ∧
  (∀ (s : State) (m : Master), s.regsOk → s.right m 0x40008000 .cr = .allow → s.gsState = State.gsOff → s.on Reg.GS_STATUS_PROFILE_OK = true →
    (s.orbState = State.orbLocked ∨ s.orbState = State.orbFollow) →
    ∃ t, exec (.gsEnable m) s = .next t ∧ t.gsState = State.gsNormal ∧ t.rd Reg.GS_CTRL_EN = 1 ∧
      s.regsBut t [Reg.GS_CTRL_EN, Reg.GS_STATUS_STATE] ∧ s.memsSame t) ∧
  (∀ (s : State) (m : Master), s.regsOk → s.right m 0x40008000 .cr = .allow → s.gsState = State.gsOff → s.on Reg.GS_STATUS_PROFILE_OK = false →
    ∃ t, exec (.gsEnable m) s = .next t ∧ t.gsState = State.gsOff ∧ t.rd Reg.GS_CTRL_EN = 1 ∧ s.regsBut t [Reg.GS_CTRL_EN] ∧ s.memsSame t) ∧
  (∀ (s : State) (m : Master), s.regsOk → s.right m 0x40008000 .cr = .allow → s.gsState ≠ State.gsOff →
    ∃ t, exec (.gsDisable m) s = .next t ∧ t.gsState = State.gsOff ∧ t.rd Reg.GS_CTRL_EN = 0 ∧ t.gs.out = [0, 0, 0, 0] ∧
      hasBit t.safety.sf1 0 = false ∧
      (s.gsState = State.gsNormal → s.on Reg.EE_CTRL_ACTIVE_EN = true → t.on Reg.EE_STATUS_SUSPENDED = true) ∧ s.memsSame t) ∧
  (∀ (s : State), s.regsOk → s.gs.latchDue = true →
    ∃ t, exec .gsReferenceWrite s = .next t ∧ t.gs.latchDue = false ∧ s.memsSame t ∧
      (∀ o, o < 4 → t.rd (Reg.GS_OUT_VALUE o) = nth s.gs.latched o 0 % 2 ^ 32) ∧
      (∀ o, o < 4 → s.on (Reg.GS_ROUTE_EN o) = true → (∀ p, p < 4 → p ≠ o → s.on (Reg.GS_ROUTE_EN p) = false) →
        t.rd (Reg.LE_REF_VALUE (s.rd (Reg.GS_ROUTE_ENG o)) (s.rd (Reg.GS_ROUTE_REF o))) = s.gsRouted o % 2 ^ 32)) ∧
  (∀ (s : State), s.gs.latchDue = false → exec .gsReferenceWrite s = .next s)

/-- R283 to R291 and R296; detectors by their bit of EE_PEN. -/
def Obligations.EclipseDetectsAndInjects : Prop :=
  (∀ (s : State) (d : Nat), d < 7 → s.regsOk → s.eeEnabled d = true → s.eeBlocked d = false → s.eeCond d = true →
    (4 < d ∨ s.eeNeed d ≤ nth s.ee.runs d 0) → hasBit s.ee.tripped d = false →
    ∃ t, exec (.eePassiveTrip d) s = .next t ∧ t.rd Reg.EE_STATUS_PASSIVE = 1 ∧ t.rd Reg.EE_STATUS_ISLAND = 1 ∧
      hasBit (t.rd Reg.EE_CAUSE_CAUSE) d = true ∧ hasBit t.safety.sf1 1 = true ∧ hasBit t.ee.tripped d = true ∧
      s.raisedIn t Ev.EE_PASSIVE ∧ (s.on Reg.EE_STATUS_ISLAND = false → s.raisedIn t Ev.EE_ISLAND) ∧
      s.regsButEv t [Reg.EE_STATUS_PASSIVE, Reg.EE_STATUS_ISLAND, Reg.EE_CAUSE_CAUSE] ∧ s.memsSame t) ∧
  (∀ (s : State) (d : Nat), (s.eeEnabled d = false ∨ s.eeBlocked d = true) → exec (.eePassiveTrip d) s = .next s) ∧
  (∀ (s : State), s.regsOk → s.on Reg.EE_STATUS_INJECTING = false → s.on Reg.EE_CTRL_ACTIVE_EN = true → s.gsState = State.gsNormal →
    s.rd Reg.ORB_GROUP_ROLE ≠ 2 →
    ∃ t, exec .eeSegmentEnd s = .next t ∧ t.rd Reg.EE_STATUS_INJECTING = 1 ∧ t.rd Reg.EE_STATUS_SUSPENDED = 0 ∧
      t.rd Reg.EE_K0_FRAME = (s.rd Reg.ORB_FRAME_COUNT + 64) % 2 ^ 32 ∧ t.ee.bcastDue = true ∧ s.memsSame t) ∧
  (∀ (s : State), s.on Reg.EE_STATUS_INJECTING = false → s.on Reg.EE_CTRL_ACTIVE_EN = false → exec .eeSegmentEnd s = .next s) ∧
  (∀ (s : State), s.on Reg.EE_STATUS_INJECTING = true → s.ee.drop = true → s.on Reg.EE_CTRL_ACTIVE_EN = false →
    exec .eeSegmentEnd s = .next (s.eeDiscard.wr Reg.EE_FLAGS_SEG_DROP 1)) ∧
  (∀ (s : State), s.regsOk → s.on Reg.EE_STATUS_INJECTING = true → s.ee.drop = false → s.on Reg.EE_CTRL_ACTIVE_EN = false →
    s.ee.segs.length + 1 < s.rd Reg.EE_WIN_WSEG →
    ∃ t, exec .eeSegmentEnd s = .next t ∧ t.ee.segs = s.ee.seg :: s.ee.segs ∧ t.ee.seg = List.replicate 16 {} ∧
      t.ee.sincePub = s.ee.sincePub + 1 ∧ s.regsBut t [] ∧ s.memsSame t) ∧
  (∀ (s : State) (m : Master), s.right m 0x40080010 .dr = .allow → (∀ d, d < 7 → s.eeEnabled d = true → hasBit s.ee.tripped d = false) →
    exec (.eeClear m) s =
      .next (State.islandLine (((s.acked.wr Reg.EE_STATUS_ISLAND 0).wr Reg.EE_STATUS_PASSIVE 0).wr Reg.EE_CAUSE_CAUSE 0) false)) ∧
  (∀ (s : State) (m : Master) (d : Nat), s.right m 0x40080010 .dr = .allow → d < 7 → s.eeEnabled d = true → hasBit s.ee.tripped d = true →
    exec (.eeClear m) s = .next (s.acked.wr Reg.EE_FLAGS_CLEAR_REFUSED 1)) ∧
  (∀ (s : State) (m : Master), s.right m 0x40080010 .dr = .allow →
    exec (.eeRebase m) s = .next ((State.wr { s.acked with ee := { s.ee with base := [] } } Reg.EE_STATUS_BASELINE_OK 0).wr Reg.EE_BASE_VALUE 0))

/-- R300 to R309 for a channel n below 6. -/
def Obligations.PerihelionTracksAndSweeps : Prop :=
  (∀ (s : State), s.peStopped = true →
    exec .peStep s = .next { s with pe := { s.pe with chans := s.pe.chans.map fun c => { c with acc := {} } } }) ∧
  (∀ (s : State) (n : Nat), n < 6 → s.regsOk → s.Shaped → s.peStopped = false → s.peState n ≠ State.peOff →
    State.PeSum.means? (s.peChan n).acc = none → s.pe.sweep ≠ none →
    ∃ t, exec .peStep s = .next t ∧ t.rd Reg.PE_PAVAIL_VALUE = s.pePav % 2 ^ 32 ∧ t.peState n = s.peState n ∧
      t.rd (Reg.PE_STATE_EMPTY n) = satInc 255 (s.rd (Reg.PE_STATE_EMPTY n)) ∧ s.memsSame t) ∧
  (∀ (s : State) (n v i : Nat), n < 6 → s.regsOk → s.Shaped → s.peStopped = false → s.peState n = State.peWait →
    State.PeSum.means? (s.peChan n).acc = some (v, i) → s.peBlocked n = false → (s.peChan n).first = false →
    hasBit (s.rd Reg.PE_STATUS_QUEUE) n = false →
    ∃ t, exec .peStep s = .next t ∧ t.peState n = State.peTrack ∧ t.rd (Reg.PE_VREF_VALUE n) = v % 2 ^ 32 ∧
      t.rd (Reg.PE_PS_VALUE n) = F32.mul v i % 2 ^ 32 ∧ t.rd (Reg.PE_STATE_EMPTY n) = 0 ∧ s.memsSame t) ∧
  (∀ (s : State) (n : Nat), n < 6 → s.regsOk → s.Shaped → (s.peState n = State.peTrack ∨ s.peState n = State.peCurtail) →
    64 ≤ s.rd (Reg.PE_STATE_EMPTY n) →
    ∃ t, exec (.peNosamp n) s = .next t ∧ t.peState n = State.peWait ∧ t.rd Reg.PE_FLAGS_NOSAMP = 1 ∧
      hasBit (t.rd Reg.PE_STATUS_QUEUE) n = false ∧ s.raisedIn t Ev.PE_CHANNEL ∧
      s.regsButEv t [Reg.PE_STATE_STATE n, Reg.PE_STATUS_QUEUE, Reg.PE_FLAGS_NOSAMP] ∧ s.memsSame t) ∧
  (∀ (s : State) (n : Nat), s.rd (Reg.PE_STATE_EMPTY n) < 64 → exec (.peNosamp n) s = .next s) ∧
  (∀ (s : State), s.regsOk → s.on Reg.PE_CTRL_CURT_EN = true → s.on Reg.PE_STATUS_CURTAILED = false → 4 ≤ s.pe.curtIn →
    ∃ t, exec .peCurtailEnter s = .next t ∧ t.rd Reg.PE_STATUS_CURTAILED = 1 ∧ s.raisedIn t Ev.PE_CURTAIL ∧ s.memsSame t ∧
      ∀ n, n < 6 → t.peState n = if s.peState n = State.peTrack then State.peCurtail else s.peState n) ∧
  (∀ (s : State), s.pe.curtIn < 4 → exec .peCurtailEnter s = .next s) ∧
  (∀ (s : State), s.regsOk → s.Shaped → s.on Reg.PE_STATUS_CURTAILED = true → 4 ≤ s.pe.curtOut →
    ∃ t, exec .peCurtailLeave s = .next t ∧ t.rd Reg.PE_STATUS_CURTAILED = 0 ∧ s.raisedIn t Ev.PE_CURTAIL ∧ s.memsSame t ∧
      ∀ n, n < 6 → t.peState n = if s.peState n = State.peCurtail then State.peTrack else s.peState n) ∧
  (∀ (s : State) (n : Nat), n < 6 → s.regsOk → s.Shaped → s.peState n = State.peTrack → 20 ≤ (s.peChan n).dropRun →
    (s.peChan n).lastSweep = none → s.pe.sweep ≠ none →
    ∃ t, exec (.peShade n) s = .next t ∧ hasBit (t.rd Reg.PE_STATUS_QUEUE) n = true ∧ (t.peChan n).dropRun = 0 ∧
      s.raisedIn t Ev.PE_SHADE ∧ s.regsButEv t [Reg.PE_STATUS_QUEUE] ∧ s.memsSame t) ∧
  (∀ (s : State) (n : Nat), (s.peChan n).dropRun < 20 → exec (.peShade n) s = .next s) ∧
  (∀ (s : State) (n : Nat), n < 6 → s.rd Reg.PE_SWEEP_PER_MIN ≠ 0 → s.peState n ≠ State.peOff → (s.peChan n).lastSweep = none →
    hasBit (s.rd Reg.PE_STATUS_QUEUE) n = false →
    exec (.peSweepSchedule n) s = .next ((s.setPeChan n { s.peChan n with cause := 1 }).setB Reg.PE_STATUS_QUEUE n)) ∧
  (∀ (s : State) (m : Master) (n : Nat), n < 6 → s.right m 0x4007000C .dr = .allow → hasBit (s.rd Reg.PE_STATUS_QUEUE) n = false →
    exec (.peSweepCmd m (2 ^ n)) s = .next ((s.acked.setPeChan n { s.peChan n with cause := 2 }).setB Reg.PE_STATUS_QUEUE n)) ∧
  (∀ (s : State) (w : PeSweep), s.regsOk → s.pe.sweep = some w → w.ch < 6 → w.voc = none → w.acc.vn ≠ 0 →
    ∃ t x e, exec .peVocEnd s = .next t ∧ x = F32.div w.acc.v (F32.ofNat w.acc.vn) ∧
      e = (w.acc.k != 0 && F32.ge (F32.div w.acc.i (F32.ofNat w.acc.k)) (s.rd (Reg.PE_IOC_VALUE w.ch))) ∧
      t.pe.sweep = some { w with voc := some x, acc := {}, est := e } ∧
      t.rd (Reg.PE_VREF_VALUE w.ch) = F32.mul x (s.peFraction 0) % 2 ^ 32 ∧ s.memsSame t) ∧
  (∀ (s : State), s.pe.sweep = none → exec .peVocEnd s = .next s ∧ exec .peSweepPoint s = .next s ∧ exec .peSweepSearch s = .next s) ∧
  (∀ (s : State) (w : PeSweep) (voc v i : Nat), s.regsOk → s.pe.sweep = some w → w.ch < 6 → w.voc = some voc → w.pts.length < 2047 →
    State.PeSum.means? w.acc = some (v, i) →
    ∃ t, exec .peSweepPoint s = .next t ∧ t.pe.sweep = some { w with acc := {}, pts := some (v, i) :: w.pts } ∧
      t.rd (Reg.PE_VREF_VALUE w.ch) = F32.mul voc (s.peFraction (w.pts.length + 1)) % 2 ^ 32 ∧
      t.sram = (if s.peOwned then memWrite s.sram (s.peBase w.ch + 4 * (64 + 2 * w.pts.length)) (bytesOf [v, i]) else s.sram) ∧
      t.capture = s.capture ∧ t.mcMem = s.mcMem ∧ t.scMem = s.scMem) ∧
  (∀ (s : State) (w : PeSweep), s.regsOk → s.Shaped → s.pe.sweep = some w → w.ch < 6 → 2048 ≤ w.pts.length →
    ∃ t, exec .peSweepSearch s = .next t ∧ t.pe.sweep = none ∧ t.peState w.ch = State.peTrack ∧ t.rd Reg.PE_STATUS_SWEEP_CH = 0 ∧
      s.raisedIn t Ev.PE_SWEEP_DONE ∧ t.capture = s.capture ∧ t.mcMem = s.mcMem ∧
      (102 < (w.pts.filter (·.isNone)).length →
        t.rd Reg.PE_FLAGS_CURVE_INVALID = 1 ∧ t.rd (Reg.PE_VREF_VALUE w.ch) = w.before % 2 ^ 32) ∧
      (∀ x r, (w.pts.filter (·.isNone)).length ≤ 102 → State.peMaxima (State.peSmooth w.pts.reverse) = x :: r →
        t.rd (Reg.PE_VREF_VALUE w.ch) = x.v % 2 ^ 32 ∧ t.rd (Reg.PE_VMPP_VALUE w.ch) = x.v % 2 ^ 32 ∧
        t.rd (Reg.PE_PMPP_VALUE w.ch) = x.p % 2 ^ 32)) ∧
  (∀ (s : State) (n : Nat), n < 6 → s.regsOk → (s.peState n = State.peTrack ∨ s.peState n = State.peCurtail) → s.peBlocked n = true →
    ∃ t, exec (.pePairBlocked n) s = .next t ∧ t.peState n = State.peHold ∧ hasBit (t.rd Reg.PE_STATUS_QUEUE) n = false ∧
      s.raisedIn t Ev.PE_CHANNEL ∧ s.regsButEv t [Reg.PE_STATE_STATE n, Reg.PE_STATUS_QUEUE] ∧ s.memsSame t) ∧
  (∀ (s : State) (n : Nat), n < 6 → s.peState n = State.peHold → s.peBlocked n = false →
    exec (.pePairUnblocked n) s = .next (s.wr (Reg.PE_STATE_STATE n) State.peWait)) ∧
  (∀ (s : State) (m : Master) (n : Nat), n < 6 → s.regsOk → s.Shaped → s.right m 0x40070000 .dr = .allow → s.peState n = State.peOff →
    ∃ t, exec (.peChannelEnable m n) s = .next t ∧ t.peState n = State.peWait ∧ hasBit (t.rd Reg.PE_CTRL_CH_EN) n = true ∧
      (t.peChan n).first = true ∧ (t.peChan n).acc = {} ∧
      s.regsBut t [Reg.PE_CTRL_CH_EN, Reg.PE_STATE_STATE n, Reg.PE_STATE_EMPTY n] ∧ s.memsSame t) ∧
  (∀ (s : State) (m : Master) (n : Nat), n < 6 → s.regsOk → s.right m 0x40070000 .dr = .allow → s.peState n = State.peTrack →
    ∃ t, exec (.peChannelDisable m n) s = .next t ∧ t.peState n = State.peOff ∧ hasBit (t.rd Reg.PE_CTRL_CH_EN) n = false ∧
      hasBit (t.rd Reg.PE_STATUS_QUEUE) n = false ∧
      s.regsBut t [Reg.PE_CTRL_CH_EN, Reg.PE_STATE_STATE n, Reg.PE_STATUS_QUEUE] ∧ s.memsSame t) ∧
  (∀ (s : State) (ws : List Nat), s.regsOk → s.pe.profWait = some ws → s.pe.sweep = none →
    ∃ t, exec .peProfileSwitch s = .next t ∧ t.pe.prof = State.peBreaks ws ∧ t.pe.profWait = none ∧
      t.rd Reg.PE_PROF_STATUS_PROFILE_ID = fieldOf (nth ws 1 0) 16 16 ∧ s.regsBut t [Reg.PE_PROF_STATUS_PROFILE_ID] ∧ s.memsSame t) ∧
  (∀ (s : State), (s.pe.profWait = none ∨ s.pe.sweep ≠ none) → exec .peProfileSwitch s = .next s)

/-- R316 to R339; `2 ^ 32` is the modulus of a counter word. -/
def Obligations.MeteringRegistersAndCloses : Prop :=
  (∀ (s : State) (ws : List Nat) (tick : Nat), s.regsOk → s.meState = State.meOff →
    exec (.meterSampleSet ws tick) s = .next ((s.toTick tick).wr Reg.ME_STATUS_TIME_UNKNOWN (s.rd Reg.UMB_STATUS_TIME_UNKNOWN))) ∧
  (∀ (s : State) (ws : List Nat) (tick : Nat), s.regsOk → s.meState = State.meRun → ws.length ≠ 7 → s.me.hist = [] →
    ∃ t, exec (.meterSampleSet ws tick) s = .next t ∧ t.meState = State.meRun ∧ t.me.substRun = satInc max32 s.me.substRun ∧
      t.rd Reg.ME_SUBST_COUNT_COUNT = satInc (2 ^ Reg.ME_SUBST_COUNT_COUNT.width - 1) (s.rd Reg.ME_SUBST_COUNT_COUNT) ∧
      t.me.lastValid = s.me.lastValid ∧ t.me.hist.length = 1 ∧ s.memsSame t) ∧
  (∀ (s : State) (ws : List Nat) (tick : Nat) (x : MeSet) (r : List MeSet), s.regsOk → s.meState = State.meSettling → 4 ≤ s.me.settleRun →
    State.meSetBad ws = false → s.me.hist = x :: r → State.meEdge x.theta (s.toTick tick).meAngle = true →
    ∃ t, exec (.meterSampleSet ws tick) s = .next t ∧ t.meState = State.meRun ∧ t.me.lastGran = s.me.lastGran + 1 ∧
      t.me.grans.length = s.me.grans.length + 1 ∧ t.me.lastValid = ws ∧ s.memsSame t) ∧
  (∀ (s : State) (g : MeGran) (r : List MeGran), s.regsOk → s.me.grans = g :: r → g.ended = true → g.done = g.sets → g.sets ≠ 0 →
    s.me.ival.stale = false → s.me.ival.force = false → s.me.snapReq = false → s.me.ckptReq = none →
    (s.me.ival.due = none → ∃ t, exec .meGranuleClose s = .next t ∧ t.me.grans = r ∧
      t.rd Reg.ME_GCOUNT_COUNT = (s.rd Reg.ME_GCOUNT_COUNT + 1) % 2 ^ 32 ∧ t.rd Reg.ME_GRANULE_SETS = g.sets % 2 ^ 16 ∧
      t.rd Reg.ME_FREQ_VALUE = F32.ofRatio 8000 g.sets % 2 ^ 32 ∧ t.cross.granules = s.cross.granules + 1 ∧
      t.rd Reg.ME_IVAL_SEQ_COUNT = s.rd Reg.ME_IVAL_SEQ_COUNT ∧ s.memsSame t) ∧
    (∀ e, s.me.ival.due = some e → ∃ t, exec .meGranuleClose s = .next t ∧ t.me.grans = r ∧
      t.rd Reg.ME_GCOUNT_COUNT = (s.rd Reg.ME_GCOUNT_COUNT + 1) % 2 ^ 32 ∧ t.rd Reg.ME_IVAL_END_SEC = e % 2 ^ 32 ∧
      t.rd Reg.ME_IVAL_SEQ_COUNT = (s.rd Reg.ME_IVAL_SEQ_COUNT + 1) % 2 ^ Reg.ME_IVAL_SEQ_COUNT.width ∧
      t.rd Reg.ME_IVAL_STAT_FORCED = 0 ∧ t.me.ival.start = e ∧ t.me.ival.due = none ∧ s.raisedIn t Ev.ME_INTERVAL ∧ s.memsSame t)) ∧
  (∀ (s : State), s.me.grans = [] → exec .meGranuleClose s = .next s) ∧
  (∀ (s : State), s.regsOk → s.meState = State.meRun → 64 ≤ s.me.substRun →
    ∃ t, exec .meGranuleLost s = .next t ∧ t.meState = State.meSettling ∧ t.me.grans = s.me.grans.filter (·.ended) ∧
      t.me.ival.incomplete = true ∧ t.me.settleRun = 0 ∧
      t.rd Reg.ME_LOST_COUNT_COUNT = satInc (2 ^ Reg.ME_LOST_COUNT_COUNT.width - 1) (s.rd Reg.ME_LOST_COUNT_COUNT) ∧
      s.regsBut t [Reg.ME_STATUS_STATE, Reg.ME_LOST_COUNT_COUNT] ∧ s.memsSame t) ∧
  (∀ (s : State), s.me.substRun < 64 → exec .meGranuleLost s = .next s) ∧
  (∀ (s : State), s.me.ival.active = true →
    (s.on Reg.ME_CTRL_IVAL_EN = true → exec .meIntervalBoundary s =
      .next (s.setMe { s.me with ival := { s.me.ival with due := some (s.rd Reg.UMB_SECONDS_SEC) } })) ∧
    (s.on Reg.ME_CTRL_IVAL_EN = false → exec .meIntervalBoundary s = .next s)) ∧
  (∀ (s : State), s.on Reg.ME_CTRL_CKPT_EN = true → s.me.ckptReq = none →
    exec .meCkptPeriod s = .next (s.setMe { s.me with ckptReq := some 0 })) ∧
  (∀ (s : State), s.regsOk → s.on Reg.ME_STATUS_CKPT_READY = true →
    ∃ t, exec .meCkptStore s = .next t ∧ t.rd Reg.ME_STATUS_CKPT_READY = 0 ∧
      t.nv.ckpt = (((List.range 256).map fun k => s.rd (Reg.ME_CKPT_WORD k)) :: s.nv.ckpt).take 2 ∧
      s.regsBut t [Reg.ME_STATUS_CKPT_READY] ∧ s.memsSame t) ∧
  (∀ (s : State), s.on Reg.ME_STATUS_CKPT_READY = false → exec .meCkptStore s = .next s) ∧
  (∀ (s : State) (m : Master), s.right m 0x4006000C .dr = .allow →
    exec (.meSnap m) s = .next (s.acked.setMe { s.me with snapReq := true }) ∧
    exec (.meSnapAck m) s = .next (s.acked.wr Reg.ME_STATUS_SNAP_READY 0) ∧
    exec (.meCkptAck m) s = .next (s.acked.wr Reg.ME_STATUS_CKPT_READY 0) ∧
    exec (.meClrCounts m) s =
      .next (((s.acked.wr Reg.ME_SUBST_COUNT_COUNT 0).wr Reg.ME_NOLOAD_COUNT_COUNT 0).wr Reg.ME_LOST_COUNT_COUNT 0) ∧
    (s.on Reg.ME_CTRL_CKPT_EN = true → exec (.meCkpt m) s = .next (s.acked.setMe { s.me with ckptReq := some 2 })) ∧
    (s.on Reg.ME_CTRL_CKPT_EN = false → exec (.meCkpt m) s = .next s.acked) ∧
    (s.on Reg.ME_CTRL_IVAL_EN = true → s.me.ival.active = true → exec (.meIvalClose m) s =
      .next (s.acked.setMe { s.me with ival := { s.me.ival with force := true } })) ∧
    (s.meState ≠ State.meOff → exec (.meRestore m) s = .next (s.acked.wr Reg.ME_FLAGS_CFG_ERR 1)) ∧
    (s.meState = State.meOff → State.meImageOk ((List.range 256).map fun k => s.rd (Reg.ME_RESTORE_WORD k)) = false →
      exec (.meRestore m) s = .next ((s.acked.wr Reg.ME_FLAGS_RESTORE_ERR 1).meFault))) ∧
  (∀ (s : State) (m : Master), s.regsOk → s.right m 0x4006000C .dr = .allow → s.meState = State.meOff →
    State.meImageOk ((List.range 256).map fun k => s.rd (Reg.ME_RESTORE_WORD k)) = true →
    ∃ t, exec (.meRestore m) s = .next t ∧ t.rd Reg.ME_STATUS_RESTORED = 1 ∧
      t.rd Reg.ME_GCOUNT_COUNT = s.rd (Reg.ME_RESTORE_WORD 4) % 2 ^ 32 ∧ t.me.ival.active = true ∧
      t.me.ival.start = s.rd (Reg.ME_RESTORE_WORD 150) ∧ t.me.resid = List.replicate 64 Machine.Dyadic.zero ∧
      (∀ k, k < 64 → t.rd (Reg.ME_ACC_LO_WORD (k / 8) (k % 8)) = s.rd (Reg.ME_RESTORE_WORD (6 + 2 * k)) % 2 ^ 32) ∧ s.memsSame t) ∧
  (∀ (s : State) (m : Master), s.regsOk → s.right m 0x40060000 .dr = .allow →
    (s.meState = State.meOff → s.power = .run → ∃ t, exec (.meEnable m) s = .next t ∧ t.meState = State.meSettling ∧ t.rd Reg.ME_CTRL_EN = 1 ∧
      t.me.hist = [] ∧ t.me.grans = [] ∧ s.regsBut t [Reg.ME_CTRL_EN, Reg.ME_STATUS_STATE] ∧ s.memsSame t) ∧
    (∃ t, exec (.meDisable m) s = .next t ∧ t.meState = State.meOff ∧ t.rd Reg.ME_CTRL_EN = 0 ∧ t.me.ival.active = false ∧ t.me.grans = [] ∧
      s.regsBut t [Reg.ME_CTRL_EN, Reg.ME_STATUS_STATE] ∧ s.memsSame t)) ∧
  (∀ (s : State) (m : Master) (c v : Nat), c < 7 → s.regsOk → s.right m (Reg.ME_OFF_CODE c).addr .dr = .allow →
    (s.on Reg.ME_CTRL_CAL_LOCK = true → exec (.meCalWrite m (.off c) v) s = .next (s.acked.wr Reg.ME_FLAGS_CFG_ERR 1)) ∧
    (s.on Reg.ME_CTRL_CAL_LOCK = false → s.meState ≠ State.meOff →
      exec (.meCalWrite m (.off c) v) s = .next ((s.acked.wr (Reg.ME_OFF_CODE c) v).setMe { s.me with calPend := true })) ∧
    (s.on Reg.ME_CTRL_CAL_LOCK = false → s.meState = State.meOff →
      ∃ t, exec (.meCalWrite m (.off c) v) s = .next t ∧ t.rd (Reg.ME_OFF_CODE c) = v % 2 ^ (Reg.ME_OFF_CODE c).width ∧
        nth t.me.off c 0 = v % 2 ^ (Reg.ME_OFF_CODE c).width ∧ t.me.calPend = false ∧
        t.rd Reg.ME_CAL_CRC_CRC = crc32cWords t.meCalWords % 2 ^ 32 ∧ s.regsBut t [Reg.ME_OFF_CODE c, Reg.ME_CAL_CRC_CRC] ∧ s.memsSame t)) ∧
  (∀ (s : State) (m : Master) (c v : Nat), c < 6 → s.right m (Reg.ME_GAIN_VALUE c).addr .dr = .allow → s.on Reg.ME_CTRL_CAL_LOCK = false →
    s.meGainTooBig c v = true → exec (.meCalWrite m (.gain c) v) s = .next ((s.acked.wr Reg.ME_FLAGS_CAL_ERR 1).meFault)) ∧
  (∀ (s : State) (m : Master), s.regsOk → s.right m 0x40060000 .dr = .allow →
    (s.rw1.contains Reg.ME_CTRL_CAL_LOCK.key = true → exec (.meCalLock m) s = .next s.acked) ∧
    (s.rw1.contains Reg.ME_CTRL_CAL_LOCK.key = false →
      ∃ t r, exec (.meCalLock m) s = .next t ∧ r = s.meCalWords ++ [s.rd Reg.ME_CAL_CRC_CRC] ∧ t.nv.cal = [r, r] ∧
        t.rd Reg.ME_CTRL_CAL_LOCK = 1 ∧ t.rw1.contains Reg.ME_CTRL_CAL_LOCK.key = true ∧ s.regsBut t [Reg.ME_CTRL_CAL_LOCK] ∧ s.memsSame t)) ∧
  (∀ (s : State), s.meState ≠ State.meOff → exec .meCalRestore s = .next s) ∧
  (∀ (s : State), s.meState = State.meOff → s.nv.cal.find? State.meCopyOk = none →
    exec .meCalRestore s = .next ((s.wr Reg.ME_FLAGS_CAL_CHANGED 1).raise Ev.ME_FAULT)) ∧
  (∀ (s : State) (r : List Nat), s.regsOk → s.meState = State.meOff → s.nv.cal.find? State.meCopyOk = some r →
    ∃ t, exec .meCalRestore s = .next t ∧ t.me.calPend = false ∧ t.rd Reg.ME_CAL_CRC_CRC = crc32cWords t.meCalWords % 2 ^ 32 ∧
      t.rd (Reg.ME_GAIN_VALUE 0) = nth r 0 0 % 2 ^ 32 ∧ t.meState = State.meOff ∧ s.memsSame t)

/-- R340 to R353 and R365 to R370, for links of one lane where the width matters. -/
def Obligations.CometLinksAndLanesMove : Prop :=
  (∀ (s : State) (m : Master) (l : Nat), l < 4 → s.right m (0x40090100 + 0x40 * l) .cr = .allow → s.on (Reg.LINK_CFG_EN l) = false →
    (s.linkClash l = true → exec (.linkEnable m l) s = .next (s.acked.wr Reg.COMET_FLAGS_CFG_ERR 1)) ∧
    (s.linkClash l = false → s.regsOk → s.Shaped → s.linkState l = State.linkDisabled → s.linkLanes l = [l] → s.lanePresent l = true →
      s.laneState l = State.laneOff → s.rd (Reg.LANE_CFG_PAT l) = 0 →
      ∃ t, exec (.linkEnable m l) s = .next t ∧ t.linkState l = State.linkTraining ∧ t.rd (Reg.LINK_CFG_EN l) = 1 ∧
        t.laneState l = State.laneTrain ∧ t.rd (Reg.LANE_TAPS_T1 l) = 0 ∧ (t.lane l).measured = false ∧
        s.regsBut t [Reg.LINK_CFG_EN l, Reg.LINK_STATUS_STATE l, Reg.LANE_STATUS_STATE l, Reg.LANE_STATUS_LOCK l, Reg.LANE_TAPS_T1 l,
          Reg.LANE_TAPS_T2 l, Reg.LANE_TAPS_T3 l] ∧ s.memsSame t)) ∧
  (∀ (s : State) (m : Master) (l : Nat), l < 4 → s.regsOk → s.Shaped → s.right m (0x40090100 + 0x40 * l) .cr = .allow →
    s.linkState l = State.linkUp → s.linkLanes l = [l] →
    ∃ t, exec (.linkDisable m l) s = .next t ∧ t.linkState l = State.linkDisabled ∧ t.rd (Reg.LINK_CFG_EN l) = 0 ∧
      t.rd (Reg.LINK_STATUS_ACTIVE l) = 0 ∧ t.laneState l = State.laneOff ∧ (t.link l).queue = [] ∧ s.memsSame t) ∧
  (∀ (s : State) (k : Nat) (ts : TrainSet), k < 4 → s.regsOk → s.Shaped → s.laneState k = State.laneTrain →
    (ts.lane ≠ k - s.linkOf k → exec (.laneTsReceived k ts) s = .next (s.wr Reg.COMET_FLAGS_CFG_ERR 1)) ∧
    (ts.lane = k - s.linkOf k → ts.constant = true →
      ∃ t, exec (.laneTsReceived k ts) s = .next t ∧ t.laneState k = State.laneConfig ∧ t.rd (Reg.LANE_STATUS_LOCK k) = 1 ∧
        t.rd (Reg.LINK_PEER_ID (s.linkOf k)) = ts.ident % 2 ^ 32 ∧ (t.link (s.linkOf k)).farMax = ts.verMax ∧
        (t.link (s.linkOf k)).farMin = ts.verMin ∧ s.memsSame t)) ∧
  (∀ (s : State) (k : Nat), k < 4 → s.regsOk → s.Shaped → s.laneState k = State.laneConfig →
    (s.linkState (s.linkOf k) ≠ State.linkTraining → exec (.laneConfigDone k) s =
      .next ((s.wr (Reg.LANE_STATUS_STATE k) State.laneReady).setLane k { s.lane k with probing := true, measured := false })) ∧
    (∀ v, s.linkState (s.linkOf k) = State.linkTraining → s.linkOf k = k → s.linkLanes k = [k] → s.commonVersion k = some v →
      ∃ t, exec (.laneConfigDone k) s = .next t ∧ t.laneState k = State.laneReady ∧ (t.lane k).probing = true ∧
        t.linkState k = State.linkMeasure ∧ t.rd (Reg.LINK_STATUS_VERSION k) = v % 256 ∧ s.memsSame t)) ∧
  (∀ (s : State) (l : Nat), l < 4 → s.linkState l = State.linkTraining → s.readyLanes l ≠ [] →
    (s.commonVersion l = none → exec (.linkTrainTimeout l) s = .next ((s.wr Reg.COMET_FLAGS_VERSION_ERR 1).raise Ev.CMT_VERSION)) ∧
    (∀ v, s.commonVersion l = some v → exec (.linkTrainTimeout l) s =
      .next ((s.wr (Reg.LINK_STATUS_VERSION l) v).wr (Reg.LINK_STATUS_STATE l) State.linkMeasure))) ∧
  (∀ (s : State) (l : Nat), s.linkState l ≠ State.linkTraining → exec (.linkTrainTimeout l) s = .next s) ∧
  (∀ (s : State) (k td : Nat), k < 4 → (s.lane k).probing = true →
    (s.laneState k = State.laneActive → exec (.laneLatencyMeasured k td) s =
      .next (s.setLane k { s.lane k with probing := false, latNext := some td })) ∧
    (s.laneState k ≠ State.laneActive → exec (.laneLatencyMeasured k td) s =
      .next ((s.wr (Reg.LANE_LAT_TD k) td).setLane k { s.lane k with probing := false, measured := true }))) ∧
  (∀ (s : State) (l : Nat), l < 4 → s.regsOk → s.Shaped → s.linkState l = State.linkMeasure → s.linkLanes l = [l] → s.laneFit l = true →
    ∃ t, exec (.linkUp l) s = .next t ∧ t.linkState l = State.linkUp ∧ t.laneState l = State.laneActive ∧
      t.rd (Reg.LINK_STATUS_ACTIVE l) = 2 ^ l ∧ t.rd (Reg.LINK_STATUS_DEGRADED l) = 0 ∧ s.raisedIn t (Ev.CMT_UP l) ∧ s.memsSame t) ∧
  (∀ (s : State) (l : Nat), s.linkState l ≠ State.linkMeasure → exec (.linkUp l) s = .next s) ∧
  (∀ (s : State) (l tag mask : Nat) (a : Int), l < 4 →
    (s.linkRuns l = true → exec (.linkBndReceive l a tag mask) s =
      .next (s.setLink l { s.link l with bnd := some (a, tag, mask), safeSeen := [] })) ∧
    (s.linkRuns l = false → exec (.linkBndReceive l a tag mask) s = .next s)) ∧
  (∀ (s : State) (k n : Nat) (a b c : Int) (o : Bool), k < 4 → s.regsOk →
    (o = true → exec (.dfeWindowEnd k a b c n o) s = .next (s.wr (Reg.LANE_STATUS_FROZEN k) 1)) ∧
    (o = false → 308 ≤ n → s.on (Reg.LANE_CFG_DFE_HOLD k) = false → s.dfeOn k = true →
      ∃ t, exec (.dfeWindowEnd k a b c n o) s = .next t ∧ t.rd (Reg.LANE_STATUS_FROZEN k) = 0 ∧
        t.rd (Reg.LANE_TAPS_T1 k) = State.tapStep (s.rd (Reg.LANE_TAPS_T1 k)) a ∧
        t.rd (Reg.LANE_TAPS_T2 k) = State.tapStep (s.rd (Reg.LANE_TAPS_T2 k)) b ∧
        t.rd (Reg.LANE_TAPS_T3 k) = State.tapStep (s.rd (Reg.LANE_TAPS_T3 k)) c ∧
        s.regsBut t [Reg.LANE_STATUS_FROZEN k, Reg.LANE_TAPS_T1 k, Reg.LANE_TAPS_T2 k, Reg.LANE_TAPS_T3 k] ∧ s.memsSame t)) ∧
  (∀ (s : State) (k fom : Nat), k < 4 → s.regsOk → s.Shaped → s.on (Reg.LANE_STATUS_FROZEN k) = false → s.dfeOn k = true → fom < 256 →
    fom < fieldOf (s.rd (Reg.COMET_EQ_ENTRY (s.rd (Reg.LANE_CFG_EQSEL k)))) 16 8 →
    ∃ t, exec (.laneFomSample k fom) s = .next t ∧ t.rd (Reg.LANE_STATUS_FOM k) = fom ∧ t.rd (Reg.LANE_STATUS_REVERTED k) = 1 ∧
      t.rd (Reg.LANE_TAPS_T1 k) = s.rd (Reg.LANE_GOOD_T1 k) % 64 ∧ (t.lane k).goodRun = 0 ∧ t.rd Reg.COMET_FLAGS_REVERT = 1 ∧
      s.raisedIn t Ev.CMT_REVERT ∧ s.memsSame t) ∧
  (∀ (s : State) (k fom : Nat), s.on (Reg.LANE_STATUS_FROZEN k) = true → exec (.laneFomSample k fom) s = .next s) ∧
  (∀ (s : State) (l tick : Nat), l < 4 → s.regsOk → s.Shaped → s.linkRuns l = true → s.on (Reg.LINK_CFG_IDLE_EN l) = true →
    0x11 ≤ s.rd (Reg.LINK_STATUS_VERSION l) → (s.link l).queue = [] → tick + 800 ≤ s.frameLen →
    exec (.laneIdleEnter l tick) s = .next ((s.toTick tick).setLink l { s.link l with idle := true })) ∧
  (∀ (s : State) (l : Nat), l < 4 → exec (.laneIdleExit l) s = .next (s.setLink l { s.link l with idle := false })) ∧
  (∀ (s : State) (k td : Nat), k < 4 →
    (s.laneState k = State.laneActive → exec (.laneLatencyRemeasure k td) s = .next (s.setLane k { s.lane k with latNext := some td })) ∧
    (s.laneState k ≠ State.laneActive → exec (.laneLatencyRemeasure k td) s = .next s)) ∧
  (∀ (s : State) (k cause tick : Nat), k < 4 → s.regsOk → s.Shaped → s.laneState k = State.laneActive → 1 ≤ cause → cause ≤ 6 →
    hasBit (s.activeMask (s.linkOf k)) k = true →
    ∃ t, exec (.laneLoss k cause tick) s = .next t ∧ t.laneState k = State.laneTrain ∧ t.rd (Reg.LANE_LOSS_CAUSE k) = cause ∧
      t.rd (Reg.LANE_LOSS_COUNT k) = satInc 65535 (s.rd (Reg.LANE_LOSS_COUNT k)) ∧ (t.lane k).lostDue = some (s.tagAfter tick) ∧
      s.raisedIn t Ev.CMT_LANE_LOST ∧ s.memsSame t) ∧
  (∀ (s : State) (l k lost tag tick : Nat), l < 4 → k < 4 → s.regsOk → s.Shaped → s.linkRuns l = true → k ∈ s.linkLanes l →
    hasBit lost k = true → hasBit (s.activeMask l) k = true →
    ∃ t, exec (.lstatReceive l lost 0 tag tick) s = .next t ∧ (t.lane k).lostDue = some (tag % 256) ∧ s.memsSame t) ∧
  (∀ (s : State) (k x : Nat), k < 4 → s.regsOk → s.Shaped → (s.lane k).lostDue = some x → hasBit (s.activeMask (s.linkOf k)) k = true →
    s.linkState (s.linkOf k) = State.linkUp →
    (clearBit (s.activeMask (s.linkOf k)) k % 16 ≠ 0 →
      ∃ t, exec (.laneRemove k) s = .next t ∧ hasBit (t.activeMask (s.linkOf k)) k = false ∧ (t.lane k).lostDue = none ∧
        t.linkState (s.linkOf k) = State.linkDegraded ∧ t.rd (Reg.LINK_STATUS_DEGRADED (s.linkOf k)) = 1 ∧
        s.raisedIn t (Ev.CMT_DEGRADED (s.linkOf k)) ∧ s.memsSame t) ∧
    (clearBit (s.activeMask (s.linkOf k)) k % 16 = 0 →
      ∃ t, exec (.laneRemove k) s = .next t ∧ t.activeMask (s.linkOf k) = 0 ∧ t.linkState (s.linkOf k) = State.linkTraining ∧
        (t.link (s.linkOf k)).queue = [] ∧ t.rd (Reg.LINK_STATUS_VERSION (s.linkOf k)) = 0 ∧
        s.raisedIn t (Ev.CMT_DOWN (s.linkOf k)) ∧ s.memsSame t)) ∧
  (∀ (s : State) (k : Nat), (s.lane k).lostDue = none → exec (.laneRemove k) s = .next s) ∧
  (∀ (s : State) (k tick : Nat), k < 4 → s.regsOk → s.Shaped → s.laneFit k = true → s.linkRuns (s.linkOf k) = true →
    ∃ t, exec (.laneReadyMark k tick) s = .next t ∧ (t.lane k).readyHere = true ∧
      ((s.lane k).readyFar = true → (s.lane k).backDue = none → (t.lane k).backDue = some (s.tagAfter tick)) ∧ s.memsSame t) ∧
  (∀ (s : State) (k x : Nat), k < 4 → s.regsOk → s.Shaped → (s.lane k).backDue = some x → s.laneState k = State.laneReady →
    s.linkRuns (s.linkOf k) = true → 0x11 ≤ s.rd (Reg.LINK_STATUS_VERSION (s.linkOf k)) →
    ∃ t, exec (.laneReinstate k) s = .next t ∧ t.laneState k = State.laneActive ∧ hasBit (t.activeMask (s.linkOf k)) k = true ∧
      (t.lane k).backDue = none ∧ s.raisedIn t Ev.CMT_LANE_BACK ∧ s.memsSame t) ∧
  (∀ (s : State) (k : Nat), (s.lane k).backDue = none → exec (.laneReinstate k) s = .next s) ∧
  (∀ (s : State) (m : Master) (k : Nat), k < 4 → s.regsOk → s.Shaped → s.right m 0x4009000C .cr = .allow → s.laneState k = State.laneReady →
    ∃ t, exec (.cometRetrain m (2 ^ k)) s = .next t ∧ t.laneState k = State.laneTrain ∧
      t.rd (Reg.LANE_LOSS_COUNT k) = satInc 65535 (s.rd (Reg.LANE_LOSS_COUNT k)) ∧
      t.rd (Reg.LANE_LOSS_CAUSE k) = s.rd (Reg.LANE_LOSS_CAUSE k) ∧ s.raisedIn t Ev.CMT_LANE_LOST ∧ s.memsSame t) ∧
  (∀ (s : State) (m : Master) (l : Nat), l < 4 → s.right m 0x4009000C .cr = .allow → s.linkLanes l = [l] → s.laneState l = State.laneActive →
    exec (.cometRemeasure m (2 ^ l)) s = .next (s.acked.setLane l { s.lane l with probing := true })) ∧
  (∀ (s : State) (m : Master) (k pat : Nat) (chk : Bool), k < 4 → s.regsOk → s.right m (0x40090300 + 0x40 * k) .cr = .allow →
    (s.laneFree k = false → exec (.laneTestEnter m k 0 pat chk) s = .next (s.acked.wr Reg.COMET_FLAGS_CFG_ERR 1)) ∧
    (s.laneFree k = true → 1 ≤ pat → pat < 8 →
      ∃ t, exec (.laneTestEnter m k 0 pat chk) s = .next t ∧ t.laneState k = State.laneTest ∧ t.linkState (s.linkOf k) = State.linkTest ∧
        t.rd (Reg.LANE_CFG_PAT k) = pat ∧ t.on (Reg.LANE_CFG_CHK_EN k) = chk ∧
        s.regsBut t [Reg.LANE_CFG_LOOP k, Reg.LANE_CFG_PAT k, Reg.LANE_CFG_CHK_EN k, Reg.LANE_STATUS_STATE k,
          Reg.LINK_STATUS_STATE (s.linkOf k)] ∧ s.memsSame t) ∧
    (s.laneFree k = true → s.laneState k = State.laneTest →
      ∃ t, exec (.laneTestExit m k) s = .next t ∧ t.laneState k = State.laneOff ∧ t.rd (Reg.LANE_CFG_PAT k) = 0 ∧
        t.rd (Reg.LANE_CFG_LOOP k) = 0 ∧ s.memsSame t)) ∧
  (∀ (s : State) (k n : Nat), k < 4 → s.regsOk → s.laneState k = State.laneTest → s.on (Reg.LANE_CFG_CHK_EN k) = true → n ≠ 0 →
    ∃ t, exec (.lanePatternError k n) s = .next t ∧
      t.rd (Reg.LANE_PAT_ERR_COUNT k) = satAdd (2 ^ 32 - 1) (s.rd (Reg.LANE_PAT_ERR_COUNT k)) n ∧
      (s.rd (Reg.LANE_PAT_ERR_COUNT k) = 0 → t.rd Reg.COMET_FLAGS_PATTERN_ERR = 1 ∧ s.raisedIn t Ev.CMT_PAT_ERR) ∧
      s.regsButEv t [Reg.LANE_PAT_ERR_COUNT k, Reg.COMET_FLAGS_PATTERN_ERR] ∧ s.memsSame t) ∧
  (∀ (s : State) (k q n : Nat), k < 4 → s.laneState k = State.laneActive →
    exec (.laneProbeReceive k q n) s = .next (s.setLane k { s.lane k with echo := some (q % 256, n % 2 ^ 24) }))

/-- R354 to R364 for the packets, R176 and R177 for the freeze. -/
def Obligations.CometPacketsAreCarried : Prop :=
  (∀ (s : State) (l : Nat), l < 4 → s.linkRuns l = true →
    exec (.cometPacketReceive l true) s = .next (s.incSat (Reg.LINK_RX_PKT_COUNT l)) ∧
    exec (.cometPacketReceive l false) s =
      .next (((s.incSat (Reg.LINK_RX_CRC_COUNT l)).wr Reg.COMET_FLAGS_RX_CRC 1).raise Ev.CMT_RX_CRC)) ∧
  (∀ (s : State) (l : Nat) (b : Bool), s.linkRuns l = false → exec (.cometPacketReceive l b) s = .next s) ∧
  (∀ (s : State) (l : Nat) (w : List Nat) (r a : Int) (x y : Nat), l < 4 → s.regsOk → s.Shaped → s.peerFull l = true →
    s.rd (Reg.LINK_CFG_ROLE l) = 1 → s.rd Reg.ORB_GROUP_ROLE = 2 → s.on (Reg.LINK_CFG_REPEAT l) = false → (s.link l).marker = none →
    (s.link l).bnd = some (a, x, y) → s.orbState ≠ State.orbFollow →
    ∃ t m, exec (.markerReceive l w r) s = .next t ∧ t.orbit.marker = some m ∧ m.frame = nth w 0 0 ∧ m.theta = nth w 1 0 ∧ m.dtheta = nth w 2 0 ∧
      t.rd Reg.ORB_GROUP_STATUS_MARKER_OK = 1 ∧ (t.link l).marker = some (fieldOf (nth w 5 0) 0 3, fieldOf (nth w 5 0) 4 3, nth w 0 0) ∧
      s.regsBut t [Reg.ORB_GROUP_STATUS_MARKER_OK] ∧ s.memsSame t) ∧
  (∀ (s : State) (l p h f : Nat) (w : List Nat) (r : Int), l < 4 → s.regsOk → s.peerFull l = true → s.rd (Reg.LINK_CFG_ROLE l) = 1 →
    s.rd Reg.ORB_GROUP_ROLE = 2 → s.on (Reg.LINK_CFG_REPEAT l) = false → (s.link l).marker = some (p, h, f) →
    nth w 0 0 ≠ (f + 1) % 2 ^ 32 →
    ∃ t, exec (.markerReceive l w r) s = .next t ∧ t.rd Reg.COMET_FLAGS_MARKER_BAD = 1 ∧ s.raisedIn t Ev.CMT_MARKER_BAD ∧
      t.orbit.marker = s.orbit.marker ∧ s.regsButEv t [Reg.COMET_FLAGS_MARKER_BAD] ∧ s.memsSame t) ∧
  (∀ (s : State) (l : Nat) (w : List Nat) (r : Int), s.rd Reg.ORB_GROUP_ROLE ≠ 2 →
    exec (.markerReceive l w r) s = .next s ∧ exec (.eeBroadcastReceive l w) s = .next s) ∧
  (∀ (s : State) (l : Nat) (w : List Nat), l < 4 → s.regsOk → s.peerFull l = true → s.rd (Reg.LINK_CFG_ROLE l) = 1 →
    s.rd Reg.ORB_GROUP_ROLE = 2 → s.on (Reg.LINK_CFG_REPEAT l) = false →
    ∃ t, exec (.eeBroadcastReceive l w) s = .next t ∧
      t.ee.bcast = some (fieldOf (nth w 0 0) 0 4, fieldOf (nth w 0 0) 4 4, fieldOf (nth w 0 0) 8 15, nth w 1 0) ∧
      (hasBit (nth w 2 0) 0 = true → s.on Reg.EE_CTRL_FOLLOW_DEC = true →
        t.rd Reg.EE_STATUS_ISLAND = 1 ∧ hasBit (t.rd Reg.EE_CAUSE_CAUSE) 9 = true ∧ hasBit t.safety.sf1 1 = true) ∧ s.memsSame t) ∧
  (∀ (s : State) (l x : Nat) (r : List Nat), l < 4 → s.regsOk → s.linkRuns l = true → s.rd (Reg.LINK_CFG_ROLE l) = 0 →
    ∃ t, exec (.sampleReceive l (x :: r)) s = .next t ∧ t.rd (Reg.LINK_RXS_WORD l 0) = x % 2 ^ 32 ∧ t.rd (Reg.LINK_AGE_SAMPLE l) = 0 ∧
      s.raisedIn t Ev.CMT_RX_SAMPLE ∧ s.memsSame t) ∧
  (∀ (s : State) (l a b c d : Nat), l < 4 → s.regsOk → s.linkRuns l = true →
    ∃ t, exec (.statusReceive l [a, b, c, d]) s = .next t ∧ t.rd (Reg.LINK_RXSTAT_WORD l 0) = a % 2 ^ 32 ∧
      t.rd (Reg.LINK_RXSTAT_WORD l 3) = d % 2 ^ 32 ∧ t.rd (Reg.LINK_AGE_STATUS l) = 0 ∧
      s.regsBut t [Reg.LINK_RXSTAT_WORD l 0, Reg.LINK_RXSTAT_WORD l 1, Reg.LINK_RXSTAT_WORD l 2, Reg.LINK_RXSTAT_WORD l 3,
        Reg.LINK_AGE_STATUS l] ∧ s.memsSame t) ∧
  (∀ (s : State) (l a b c d : Nat), l < 4 → s.regsOk → s.peerFull l = true → s.rd (Reg.LINK_CFG_ROLE l) ≠ 0 →
    ∃ t, exec (.shareReceive l [a, b, c, d]) s = .next t ∧ t.rd (Reg.LINK_RXSTAT_WORD l 4) = a % 2 ^ 32 ∧
      t.rd (Reg.LINK_RXSTAT_WORD l 7) = d % 2 ^ 32 ∧ t.rd (Reg.LINK_AGE_SHARE l) = 0 ∧
      s.regsBut t [Reg.LINK_RXSTAT_WORD l 4, Reg.LINK_RXSTAT_WORD l 5, Reg.LINK_RXSTAT_WORD l 6, Reg.LINK_RXSTAT_WORD l 7,
        Reg.LINK_AGE_SHARE l] ∧ s.memsSame t) ∧
  (∀ (s : State) (l : Nat) (ws : List Nat), s.linkRuns l = false →
    exec (.sampleReceive l ws) s = .next s ∧ exec (.statusReceive l ws) s = .next s ∧ exec (.shareReceive l ws) s = .next s) ∧
  (∀ (s : State) (l tick : Nat) (p : CmtPacket), l < 4 → s.regsOk → s.Shaped → s.linkRuns l = true → (s.link l).queue = [p] →
    (10 * tick + 16 * s.cmtSlots l p + 256 ≤ 10 * s.frameLen →
      ∃ t, exec (.cometPacketStart l tick) s = .next t ∧ (t.link l).queue = [] ∧ (t.link l).lastTx = some p ∧
        (t.link l).seq = ((s.link l).seq + 1) % 32 ∧
        t.rd (Reg.LINK_TX_PKT_COUNT l) = satInc (2 ^ 32 - 1) (s.rd (Reg.LINK_TX_PKT_COUNT l)) ∧ s.memsSame t) ∧
    (10 * s.frameLen < 10 * tick + 16 * s.cmtSlots l p + 256 →
      ∃ t, exec (.cometPacketStart l tick) s = .next t ∧ (t.link l).queue = [] ∧ t.rd Reg.COMET_FLAGS_TX_LATE = 1 ∧
        t.rd (Reg.LINK_SHED_PKT_COUNT l) = satInc (2 ^ 32 - 1) (s.rd (Reg.LINK_SHED_PKT_COUNT l)) ∧
        s.raisedIn t Ev.CMT_TX_LATE ∧ s.memsSame t)) ∧
  (∀ (s : State) (slot l : Nat) (o : OrbOp), l < 4 → slot < 32 → s.regsOk → s.Shaped → s.opOf? slot 5 = some o → fieldOf o.arga 0 2 = l →
    fieldOf o.arga 8 4 = 2 →
    (s.linkRuns l = true → hasBit (s.rd (Reg.LINK_STATUS_SHED l)) 2 = false → s.carries l 2 = true →
      ∃ t p, exec (.cometLaneSend slot) s = .next t ∧ (t.link l).queue = (s.link l).queue ++ [p] ∧ p.cls = 2 ∧
        t.rd (Reg.ORB_SLOT_STAT_RETIRED slot) = 1 ∧ s.regsBut t [Reg.ORB_SLOT_STAT_RETIRED slot] ∧ s.memsSame t) ∧
    (s.linkRuns l = false →
      ∃ t, exec (.cometLaneSend slot) s = .next t ∧ t.rd (Reg.ORB_SLOT_STAT_RETIRED slot) = 1 ∧
        t.rd (Reg.LINK_SHED_PKT_COUNT l) = satInc (2 ^ 32 - 1) (s.rd (Reg.LINK_SHED_PKT_COUNT l)) ∧
        s.regsBut t [Reg.ORB_SLOT_STAT_RETIRED slot, Reg.LINK_SHED_PKT_COUNT l] ∧ s.memsSame t)) ∧
  (∀ (s : State) (slot : Nat), s.opOf? slot 5 = none → exec (.cometLaneSend slot) s = .next s) ∧
  (∀ (s : State) (m : Master) (mask : Nat),
    exec (.safeTxQueue .sc mask) s = .next (s.acked.wr Reg.SAFE_TX_CTRL_VALID (s.rd Reg.SAFE_TX_CTRL_VALID ||| mask % 16)) ∧
    (m ≠ .sc → exec (.safeTxQueue m mask) s = .next s.acked)) ∧
  (∀ (s : State) (l : Nat), l < 4 → s.regsOk →
    (s.linkRuns l = true →
      ∃ t w, exec (.linkShedEvaluate l) s = .next t ∧ w = (s.activeLanes l).length ∧
        t.rd (Reg.LINK_CAP_BYTES l) = w * s.laneBytes % 2 ^ 20 ∧ t.rd (Reg.LINK_STATUS_SHED l) = s.shedSet l w (w * s.laneBytes) ∧
        (s.shedSet l w (w * s.laneBytes) ≠ s.rd (Reg.LINK_STATUS_SHED l) → s.raisedIn t Ev.CMT_SHED) ∧
        s.regsButEv t [Reg.LINK_CAP_BYTES l, Reg.LINK_STATUS_SHED l] ∧ s.memsSame t) ∧
    (s.linkRuns l = false → exec (.linkShedEvaluate l) s = .next s)) ∧
  (∀ (s : State) (m : Master), s.regsOk → s.right m 0x4009000C .dr = .allow →
    ∃ t, exec (.cometClrStats m) s = .next t ∧ s.memsSame t ∧ ∀ l, l < 4 → t.rd (Reg.LINK_RX_PKT_COUNT l) = 0 ∧
      t.rd (Reg.LINK_RX_CRC_COUNT l) = 0 ∧ t.rd (Reg.LINK_TX_PKT_COUNT l) = 0 ∧ t.rd (Reg.LINK_SHED_PKT_COUNT l) = 0) ∧
  (∀ (s : State) (c : Nat), c < 3 → s.regsOk → s.Shaped →
    ∃ t, exec (.cutoffFreeze c true) s = .next t ∧ (t.cluster c).window = true ∧ (t.cluster c).peak = true ∧
      (t.cluster c).frozenPeriod = s.rd (Reg.CL_PERIOD_SHADOW c) ∧ (∀ p, p < 24 → p / 8 = c → (t.pwmPair p).frozen = s.shadows p) ∧
      s.regsBut t [] ∧ s.memsSame t) ∧
  (∀ (s : State) (c : Nat) (b : Bool), 3 ≤ c → exec (.cutoffFreeze c b) s = .next s)

/-- R377 to R382; a latch leaves no relay energised, PWM latched safe and the module in FAULT_HOLD. -/
def Obligations.SafetyRelaysAreTestedAndOpened : Prop :=
  (∀ (s : State), s.safeState = State.safeOpen → s.sf4Active = false → s.safeFaultPresent = false → s.rd Reg.RECONNECT_SEC = 0 →
    s.rd Reg.HSL_WIN_GRID = 0 → s.rd Reg.HSL_WIN_AW = 0 → s.safety.pre = none → s.regsOk →
    (s.on Reg.SAFE_STATE_NO_FB = false →
      exec .safeConnectRequest s = .next ((s.setSafeState State.safeClosing).setSafety fun k => { k with contact := .released })) ∧
    (∀ n, s.on Reg.SAFE_STATE_NO_FB = true → lowestBit 4 (s.stageOutputs 0) = some n →
      ∃ t, exec .safeConnectRequest s = .next t ∧ t.safeState = State.safeClosing ∧ t.safety.pre = some ⟨n, 1, false⟩ ∧
        hasBit t.safety.rlyH n = false ∧ hasBit t.safety.rlyL n = false ∧
        s.regsBut t [Reg.SAFE_STATE_STATE, Reg.SAFE_STATE_SF, Reg.SAFE_STATE_RLY_CMD] ∧ s.memsSame t)) ∧
  (∀ (s : State), (s.safeState ≠ State.safeOpen ∨ s.sf4Active = true ∨ s.safeFaultPresent = true ∨ s.rd Reg.RECONNECT_SEC ≠ 0) →
    exec .safeConnectRequest s = .next s) ∧
  (∀ (s : State) (p : PreTest), s.regsOk → s.safety.pre = some p → p.output < 4 →
    (p.step = 1 → ∃ t, exec (.safePreEnergiseStep 0 0) s = .next t ∧ t.safety.pre = some { p with step := 2 } ∧
      hasBit t.safety.rlyH p.output = true ∧ t.safety.rlyL = s.safety.rlyL ∧
      s.regsBut t [Reg.RLY_DIAG_H_ON, Reg.RLY_DIAG_L_ON] ∧ s.memsSame t) ∧
    (p.step = 2 → ∃ t, exec (.safePreEnergiseStep 1 1) s = .next t ∧ t.safety.pre = some { p with step := 3 } ∧
      hasBit t.safety.rlyH p.output = false ∧ hasBit t.safety.rlyL p.output = true ∧ s.memsSame t) ∧
    (p.step = 1 → s.safeState ≠ State.safeNospr → s.oper ≠ .boot →
      ∃ t, exec (.safePreEnergiseStep 1 0) s = .next t ∧ t.safeState = State.safeLatched ∧ t.rd Reg.SAFE_CAUSE_CAUSE = 1 ∧
        t.relaysOpen = true ∧ t.pwmLatched = true ∧ t.oper = .faultHold ∧ s.raisedIn t Ev.SAFE_RELAY_FAULT ∧ s.memsSame t) ∧
    (p.step = 3 → p.reset = true → (∀ n, n < 4 → p.output < n → hasBit s.relaysUsed n = false) → s.safeState = State.safeLatched →
      ∃ t, exec (.safePreEnergiseStep 0 0) s = .next t ∧ t.safeState = State.safeOpen ∧ t.rd Reg.SAFE_CAUSE_CAUSE = 0 ∧
        t.safety.sf3 = false ∧ t.safety.pre = none ∧ s.memsSame t)) ∧
  (∀ (s : State) (h l : Nat), s.safety.pre = none → exec (.safePreEnergiseStep h l) s = .next s) ∧
  (∀ (s : State) (n : Nat), s.regsOk → s.safety.pre = none → s.safety.contact = .released → lowestBit 4 (s.stageOutputs 0) = some n →
    ∃ t, exec (.safeContactCheck true true true) s = .next t ∧ t.safety.pre = some ⟨n, 1, false⟩ ∧ t.safeState = s.safeState ∧ s.memsSame t) ∧
  (∀ (s : State), s.regsOk → s.safety.pre = none → s.safety.contact = .stage2 → s.oper ≠ .connected →
    ∃ t, exec (.safeContactCheck false false true) s = .next t ∧ t.safeState = State.safeClosed ∧ t.safety.contact = .none ∧
      s.raisedIn t Ev.SAFE_CONNECT ∧ s.regsButEv t [Reg.SAFE_STATE_STATE] ∧ s.memsSame t) ∧
  (∀ (s : State) (b h : Bool), s.regsOk → s.safety.pre = none → s.safety.contact = .stage2 → s.safeState ≠ State.safeNospr → s.oper ≠ .boot →
    ∃ t, exec (.safeContactCheck true b h) s = .next t ∧ t.safeState = State.safeLatched ∧ t.rd Reg.SAFE_CAUSE_CAUSE = 3 ∧
      t.safety.sf3 = true ∧ t.relaysOpen = true ∧ t.pwmLatched = true ∧ t.oper = .faultHold ∧ s.raisedIn t Ev.SAFE_SF3 ∧ s.memsSame t) ∧
  (∀ (s : State) (a b h : Bool) (p : PreTest), s.safety.pre = some p → exec (.safeContactCheck a b h) s = .next s) ∧
  (∀ (s : State), s.regsOk → (s.safeState = State.safeClosing ∨ s.safeState = State.safeClosed) →
    ∃ t, exec .safeDisconnectRequest s = .next t ∧ t.safeState = State.safeOpen ∧ t.relaysOpen = true ∧ t.safety.pre = none ∧
      s.raisedIn t Ev.SAFE_OPEN ∧ t.oper = s.oper ∧
      s.regsButEv t [Reg.SAFE_STATE_STATE, Reg.SAFE_STATE_SF, Reg.SAFE_STATE_RLY_CMD] ∧ s.memsSame t) ∧
  (∀ (s : State), s.safeState = State.safeOpen → exec .safeDisconnectRequest s = .next s) ∧
  (∀ (s : State) (n : Nat), n < 4 → s.safeState = State.safeClosed → s.sf4Active = false → hasBit (s.safety.rlyH &&& s.safety.rlyL) n = true →
    s.safety.pulse = none →
    exec (.relayOffPulse (2 * n)) s =
      .next (s.setSafety fun k => { k with pulse := some (2 * n), rlyH := clearBit k.rlyH n }) ∧
    exec (.relayOffPulse (2 * n + 1)) s =
      .next (s.setSafety fun k => { k with pulse := some (2 * n + 1), rlyL := clearBit k.rlyL n })) ∧
  (∀ (s : State) (x : Nat), s.safeState ≠ State.safeClosed → exec (.relayOffPulse x) s = .next s) ∧
  (∀ (s : State) (n : Nat), s.regsOk → n < 4 → s.safety.pulse = some (2 * n) →
    (∃ t, exec (.relayOffPulseEnd true true true) s = .next t ∧ t.safety.pulse = none ∧ hasBit t.safety.rlyH n = true ∧
      t.safety.rlyL = s.safety.rlyL ∧ t.safeState = s.safeState ∧ s.regsBut t [Reg.RLY_DIAG_H_ON, Reg.RLY_DIAG_L_ON] ∧ s.memsSame t) ∧
    (s.safeState ≠ State.safeNospr → s.oper ≠ .boot →
      ∃ t, exec (.relayOffPulseEnd false true true) s = .next t ∧ t.safeState = State.safeLatched ∧ t.relaysOpen = true ∧
        hasBit (t.rd Reg.RLY_DIAG_H_FAULT) n = true ∧ t.oper = .faultHold ∧ s.raisedIn t Ev.SAFE_RELAY_FAULT ∧ s.memsSame t)) ∧
  (∀ (s : State) (a b c : Bool), s.safety.pulse = none → exec (.relayOffPulseEnd a b c) s = .next s) ∧
  (∀ (s : State) (n : Nat), s.regsOk → n < 4 → s.safeState ≠ State.safeNospr → s.oper ≠ .boot →
    ∃ t, exec (.relayReadbackFault n false) s = .next t ∧ t.safeState = State.safeLatched ∧ hasBit (t.rd Reg.RLY_DIAG_L_FAULT) n = true ∧
      t.rd Reg.SAFE_CAUSE_CAUSE = 1 ∧ t.relaysOpen = true ∧ s.raisedIn t Ev.SAFE_RELAY_FAULT ∧ s.memsSame t) ∧
  (∀ (s : State), s.safety.hslArmed = true → s.rd Reg.HSL_WIN_GRID = 0 → exec .reconnectTimerExpire s = .next (s.wr Reg.RECONNECT_SEC 0)) ∧
  (∀ (s : State), s.safety.hslArmed = false → exec .reconnectTimerExpire s = .next s) ∧
  (∀ (s : State), s.regsOk → s.safety.confirmed = true → hasBit s.safety.sf4 2 = false → s.safety.hslArmed = false →
    ∃ t, exec .hslWindowsArm s = .next t ∧ t.safety.hslArmed = true ∧ t.rd Reg.HSL_WIN_GRID = 0 ∧
      t.rd Reg.RECONNECT_SEC = s.sprField 4 0 16 % 2 ^ Reg.RECONNECT_SEC.width ∧
      s.regsBut t [Reg.HSL_WIN_GRID, Reg.RECONNECT_SEC, Reg.SAFE_STATE_SF, Reg.SAFE_STATE_RLY_CMD] ∧ s.memsSame t) ∧
  (∀ (s : State), s.safety.hslArmed = true → exec .hslWindowsArm s = .next s)

/-- R375 to R387 and R390. -/
def Obligations.SafetyDemandsInhibit : Prop :=
  (∀ (s : State) (f : XmonFrame), f.crcOk = false → exec (.xmonFrame true f) s = .next (s.incSat Reg.XMON_BAD)) ∧
  (∀ (s : State) (f : XmonFrame), f.crcOk = true →
    ∃ t, exec (.xmonFrame true f) s = .next t ∧ t.safety.partnerLost = false ∧
      t.safety.differs = (f.relays != s.safety.rlyL || f.sf != s.rd Reg.SAFE_STATE_SF || f.judged != s.rd Reg.SIN_STATE_FDEMAND
        || f.sprCrc != s.rd Reg.HSL_CHECK_CRC) ∧ t.regs = s.regs ∧ s.memsSame t) ∧
  (∀ (s : State) (b : Bool), s.regsOk → s.safeState ≠ State.safeNospr → s.oper ≠ .boot →
    ∃ t, exec (.xmonTimeout b) s = .next t ∧ t.safeState = State.safeLatched ∧ t.rd Reg.SAFE_CAUSE_CAUSE = 5 ∧ t.safety.partnerLost = true ∧
      (b = true → t.safety.rlyH = 0 ∧ t.safety.cutSc = true) ∧ (b = false → t.safety.rlyL = 0 ∧ t.safety.cutHsl = true) ∧
      t.pwmLatched = true ∧ t.oper = .faultHold ∧ s.raisedIn t Ev.SAFE_DISCREPANCY ∧ s.memsSame t) ∧
  (∀ (s : State), s.regsOk → s.safety.differs = true → s.safeState ≠ State.safeNospr → s.oper ≠ .boot →
    ∃ t, exec .xmonDiscrepancy s = .next t ∧ t.safeState = State.safeLatched ∧ t.rd Reg.SAFE_CAUSE_CAUSE = 4 ∧ t.relaysOpen = true ∧
      t.rd Reg.XMON_DIFF = satInc (2 ^ Reg.XMON_DIFF.width - 1) (s.rd Reg.XMON_DIFF) ∧ s.raisedIn t Ev.SAFE_DISCREPANCY ∧ s.memsSame t) ∧
  (∀ (s : State), s.safety.differs = false → exec .xmonDiscrepancy s = .next s) ∧
  (∀ (s : State), s.regsOk → s.safeState ≠ State.safeNospr → s.oper ≠ .boot →
    ∃ t, exec .safeSelfCheckFail s = .next t ∧ t.safeState = State.safeLatched ∧ t.rd Reg.SAFE_CAUSE_CAUSE = 6 ∧ t.relaysOpen = true ∧
      t.pwmLatched = true ∧ t.oper = .faultHold ∧ s.raisedIn t Ev.SAFE_SELF ∧ s.memsSame t) ∧
  (∀ (s : State), s.regsOk → hasBit (s.rd Reg.SAFE_STATE_SF) 0 = false → s.tpp.connectWanted = false →
    ∃ t, exec (.safeSf1Demand 4 true) s = .next t ∧ hasBit t.safety.sf1 4 = true ∧ hasBit (t.rd Reg.SAFE_STATE_SF) 0 = true ∧
      t.relaysOpen = true ∧ t.pwmLatched = true ∧ t.safety.cutSc = true ∧ t.safety.cutHsl = true ∧ s.raisedIn t Ev.SAFE_SF1 ∧
      (s.oper = .connected → t.oper = .standby) ∧ (s.safeState = State.safeClosed → t.safeState = State.safeOpen) ∧ s.memsSame t) ∧
  (∀ (s : State) (levels k : Nat), s.regsOk → (∀ f, f < 4 → s.fnType f = 0) →
    ∃ t, exec (.sinSample levels k) s = .next t ∧ t.rd Reg.SIN_STATE_RAW = levels % 256 ∧
      s.regsBut t [Reg.SIN_STATE_RAW, Reg.SAFE_STATE_SF, Reg.SAFE_STATE_RLY_CMD] ∧ s.memsSame t) ∧
  (∀ (s : State) (levels k i : Nat), s.regsOk → i < 8 → s.fnType (i / 2) = 1 → s.sinSource i = 0 → 7 ≤ k % 500 → hasBit (levels % 256) i = false →
    s.fnFilt (i / 2) ≤ nth s.safety.demandRun i 0 + 1 →
    ∃ t, exec (.sinSample levels k) s = .next t ∧ hasBit (t.rd Reg.SIN_STATE_DEMAND) i = true ∧ s.memsSame t) ∧
  (∀ (s : State) (f : Nat), s.regsOk → f < 4 → s.fnType f = 1 → fieldOf (s.rd Reg.SIN_STATE_DEMAND) (2 * f) 2 ≠ 0 →
    hasBit (s.rd Reg.SIN_STATE_FDEMAND) f = false → s.oper ≠ .boot →
    ∃ t, exec (.safeSf2Demand f) s = .next t ∧ hasBit (t.rd Reg.SIN_STATE_FDEMAND) f = true ∧ hasBit (t.rd Reg.SAFE_STATE_SF) 1 = true ∧
      t.relaysOpen = true ∧ t.pwmLatched = true ∧ t.oper = .faultHold ∧ s.raisedIn t Ev.SAFE_SF2 ∧ s.memsSame t) ∧
  (∀ (s : State) (f : Nat), s.fnType f = 0 → exec (.safeSf2Demand f) s = .next s) ∧
  (∀ (s : State) (f : Nat), s.regsOk → f < 4 → hasBit (s.rd Reg.SIN_STATE_FDEMAND) f = true → fieldOf (s.rd Reg.SIN_STATE_DEMAND) (2 * f) 2 = 0 →
    hasBit s.safety.discHeld f = false → s.fnFaultGone f = true →
    ∃ t, exec (.safeSf2Release f) s = .next t ∧ hasBit (t.rd Reg.SIN_STATE_FDEMAND) f = false ∧ hasBit (t.rd Reg.SIN_STATE_FFAULT) f = false ∧
      (s.sprField (6 + f) 21 1 ≠ 1 → hasBit t.safety.restartHold f = true) ∧ s.raisedIn t Ev.SAFE_SF2 ∧
      s.regsButEv t [Reg.SIN_STATE_FDEMAND, Reg.SIN_STATE_FFAULT, Reg.SAFE_STATE_SF, Reg.SAFE_STATE_RLY_CMD] ∧ s.memsSame t) ∧
  (∀ (s : State) (b : Bool), s.regsOk → s.sf4Active = true → hasBit s.safety.sf4 1 = false →
    ∃ t, exec (.safeSf4Apply b) s = .next t ∧ t.pwmLatched = true ∧ (b = true → t.safety.pwmSafeHsl = true ∧ t.safety.cutHsl = true) ∧
      (b = false → t.safety.pwmSafeSc = true ∧ t.safety.cutSc = true) ∧ t.safety.rlyH = s.safety.rlyH ∧ t.safety.rlyL = s.safety.rlyL ∧
      s.memsSame t) ∧
  (∀ (s : State) (b : Bool), s.sf4Active = false → exec (.safeSf4Apply b) s = .next s) ∧
  (∀ (s : State), s.regsOk → s.sf4Active = false → s.safeState ≠ State.safeLatched → s.safety.pwmSafeSc = true →
    ∃ t, exec .safeSf4Release s = .next t ∧ t.safety.pwmSafeSc = false ∧ t.safety.pwmSafeHsl = false ∧ t.safety.cutSc = false ∧
      t.safety.cutHsl = false ∧ hasBit (t.rd Reg.PWM_SAFE_STATUS_ACTIVE) SafeCause.hard.bit = false ∧ s.raisedIn t Ev.SAFE_SF4 ∧ s.memsSame t) ∧
  (∀ (s : State), (s.sf4Active = true ∨ s.safeState = State.safeLatched) → exec .safeSf4Release s = .next s) ∧
  (∀ (s : State) (src a b c : Nat) (r : Bool), s.regsOk → src < 2 →
    ∃ t, exec (.tpoPulse src a b c r) s = .next t ∧ hasBit (t.rd Reg.TPO_DIAG_SRC_FAULT) src = !r ∧ s.memsSame t) ∧
  (∀ (s : State) (src a b c : Nat) (r : Bool), 2 ≤ src → exec (.tpoPulse src a b c r) s = .next s) ∧
  (∀ (s : State) (a b : Nat), s.regsOk → s.power = .run → s.safeState = State.safePending → s.safety.winOpened = true → 200 ≤ a → b ≤ 10000 →
    ∃ t, exec (.commKeyPress a b) s = .next t ∧ t.safeState = State.safeOpen ∧ t.safety.confirmed = true ∧ t.nv.spr = s.safety.spr ∧
      t.on Reg.SAFE_STATE_CONFIRM_WIN = false ∧ s.raisedIn t Ev.SAFE_SPR ∧ s.memsSame t) ∧
  (∀ (s : State) (a b : Nat), (s.safeState ≠ State.safePending ∨ s.safety.winOpened = false ∨ a < 200 ∨ 10000 < b) →
    exec (.commKeyPress a b) s = .next s) ∧
  (∀ (s : State),
    (s.on Reg.SAFE_STATE_CONFIRM_WIN = true →
      exec .confirmWindowExpire s = .next ((s.wr Reg.SAFE_STATE_CONFIRM_WIN 0).raise Ev.SAFE_COMMISSION)) ∧
    (s.on Reg.SAFE_STATE_CONFIRM_WIN = false → exec .confirmWindowExpire s = .next s)) ∧
  (∀ (s : State) (mask freq : Nat), s.regsOk → s.safety.hslArmed = true → mask < 64 → mask ≠ 0 → s.rd Reg.HSL_WIN_GRID = 0 →
    hasBit (s.sprField 5 0 4) 2 = true → hasBit (s.rd Reg.SAFE_STATE_SF) 0 = false →
    ∃ t, exec (.hslGridWindowTrip mask freq) s = .next t ∧ t.rd Reg.HSL_WIN_GRID = mask ∧ hasBit t.safety.sf1 2 = true ∧ t.relaysOpen = true ∧
      t.pwmLatched = true ∧ s.raisedIn t Ev.SAFE_HSL_WIN ∧ s.raisedIn t Ev.SAFE_SF1 ∧ s.memsSame t) ∧
  (∀ (s : State) (mask freq : Nat), s.safety.hslArmed = false → exec (.hslGridWindowTrip mask freq) s = .next s) ∧
  (∀ (s : State) (w : Nat), s.regsOk → w < 2 → s.sprField (40 + w) 6 1 = 1 → s.sprField (40 + w) 18 2 = 0 → hasBit (s.rd Reg.HSL_WIN_AW) w = false →
    ∃ t, exec (.hslAnalogWindowTrip w true) s = .next t ∧ hasBit (t.rd Reg.HSL_WIN_AW) w = true ∧ hasBit t.safety.sf4 0 = true ∧
      t.pwmLatched = true ∧ t.safety.cutSc = true ∧ s.raisedIn t Ev.SAFE_HSL_WIN ∧ s.memsSame t) ∧
  (∀ (s : State) (w : Nat) (b : Bool), s.sprField (40 + w) 6 1 = 0 → exec (.hslAnalogWindowTrip w b) s = .next s)

/-- R361 for the receipt, R391 to R393 for the rest. -/
def Obligations.SafetyPdusAreJudged : Prop :=
  (∀ (s : State) (l q a w : Nat) (ws : List Nat), l < 4 → s.regsOk → s.Shaped → s.linkRuns l = true → s.rd (Reg.LINK_CFG_ROLE l) = 0 →
    (s.link l).safeSeen = [] → s.rd Reg.SAFE_RX_PTR_WPTR = w → w < 8 →
    ∃ t, exec (.safetyPduReceive l q a ws) s = .next t ∧ t.rd Reg.SAFE_RX_PTR_WPTR = (w + 1) % 2 ^ Reg.SAFE_RX_PTR_WPTR.width ∧
      t.rd (Reg.COMET_SAFE_RX_WORD (10 * w)) = l ∧ (t.link l).safeSeen = [q % 32] ∧ s.raisedIn t Ev.CMT_RX_SAFETY ∧ s.memsSame t) ∧
  (∀ (s : State) (l q a : Nat) (ws : List Nat), (s.linkRuns l = false ∨ q % 32 ∈ (s.link l).safeSeen) →
    exec (.safetyPduReceive l q a ws) s = .next s) ∧
  (∀ (s : State) (c : Nat) (pl : List Byte), c < 4 → s.regsOk → s.rd (Reg.PDU_STAT_STATE c) ≠ 0 → s.sprField 0 24 4 = 2 → pl.length ≤ 16 →
    (hasBit (s.pduWord c) 1 = false →
      ∃ t, exec (.pduSend c 1 pl) s = .next t ∧ t.rd (Reg.PDU_TX_SEQ c) = (s.rd (Reg.PDU_TX_SEQ c) + 1) % 2 ^ (Reg.PDU_TX_SEQ c).width ∧
        hasBit (t.rd Reg.SAFE_TX_CTRL_VALID) c = true ∧ t.rd (Reg.COMET_SAFE_TX_WORD (10 * c)) = fieldOf (s.pduWord c) 2 2 ∧ s.memsSame t) ∧
    (hasBit (s.pduWord c) 1 = true →
      ∃ t, exec (.pduSend c 1 pl) s = .next t ∧ t.rd (Reg.PDU_TX_SEQ c) = (s.rd (Reg.PDU_TX_SEQ c) + 1) % 2 ^ (Reg.PDU_TX_SEQ c).width ∧
        t.rd (Reg.PDU_HOSTTX_WORD (16 * c)) = 1 + 2 * c ∧ t.rd Reg.SAFE_TX_CTRL_VALID = s.rd Reg.SAFE_TX_CTRL_VALID ∧ s.memsSame t)) ∧
  (∀ (s : State) (c ty : Nat) (pl : List Byte), s.rd (Reg.PDU_STAT_STATE c) = 0 → exec (.pduSend c ty pl) s = .next s) ∧
  (∀ (s : State) (c : Nat), c < 4 → s.regsOk → (s.rd (Reg.PDU_STAT_STATE c) = 1 ∨ s.rd (Reg.PDU_STAT_STATE c) = 2) →
    ∃ t, exec (.pduWatchdogExpire c) s = .next t ∧ t.rd (Reg.PDU_STAT_STATE c) = 3 ∧ s.raisedIn t Ev.SAFE_WDOG ∧ s.memsSame t ∧
      (s.pduAction c = 1 → t.pwmLatched = true ∧ t.safety.cutSc = true ∧ t.safety.cutHsl = true) ∧
      (s.pduAction c ≠ 0 → s.safeState ≠ State.safeLatched → t.rd Reg.SAFE_CAUSE_CAUSE = 7 ∧ t.rd Reg.SAFE_CAUSE_DETAIL = c)) ∧
  (∀ (s : State) (c : Nat), (s.rd (Reg.PDU_STAT_STATE c) = 0 ∨ s.rd (Reg.PDU_STAT_STATE c) = 3) →
    exec (.pduWatchdogExpire c) s = .next s)

/-- R461 to R467 and R471 to R474. -/
def Obligations.UmbraKeepsItsDomain : Prop :=
  (∀ (s : State) (mv : Nat), s.regsOk → s.umb.alive = false →
    ∃ t, exec (.umbColdStart mv) s = .next t ∧ t.umb.alive = true ∧ t.umbState = State.umbStart ∧ t.umb.staged = [] ∧
      t.rd Reg.UMB_CSTORE_MV = mv % 2 ^ Reg.UMB_CSTORE_MV.width ∧ t.rd Reg.UMB_OUTAGE_COUNT = s.umb.outage % 2 ^ Reg.UMB_OUTAGE_COUNT.width ∧
      t.on Reg.UMB_STATUS_TIME_UNKNOWN = true ∧ t.umb.store = s.umb.store ∧
      (∀ f : Fld, f.addr < 0x400F0000 → f.lo < 32 → t.rd f = s.rd f) ∧ s.memsSame t) ∧
  (∀ (s : State) (mv : Nat), s.umb.alive = true → exec (.umbColdStart mv) s = .next s) ∧
  (∀ (s : State) (mv : Nat) (tam plugN vdd : Bool) (bad : List Nat), s.regsOk → s.umb.alive = true → s.umbState = State.umbStart →
    ∃ t, exec (.umbRecoveryEnd mv tam plugN vdd bad) s = .next t ∧ t.umbState = (if vdd then State.umbLinked else State.umbKeep) ∧
      t.umb.vdd = vdd ∧ t.umb.journal = none ∧ t.umb.lastTamper = tam ∧ t.umb.lastPlugN = plugN ∧
      (vdd = true → s.raisedIn t Ev.UMB_TIME) ∧
      s.regsButEv t ([Reg.UMB_STATUS_STATE, Reg.UMB_STATUS_TAMPER, Reg.UMB_STATUS_PLUG, Reg.UMB_FLAGS_REDO, Reg.UMB_FLAGS_CRC_ERR] ++ State.umbLogged) ∧
      s.memsSame t) ∧
  (∀ (s : State) (mv : Nat) (tam plugN vdd : Bool) (bad : List Nat), (s.umb.alive = false ∨ s.umbState ≠ State.umbStart) →
    exec (.umbRecoveryEnd mv tam plugN vdd bad) s = .next s) ∧
  (∀ (s : State), s.regsOk → s.umb.alive = true → s.umbState = State.umbKeep → s.umb.darkSince = none →
    ∃ t, exec .umbVddRise s = .next t ∧ t.umbState = State.umbLinked ∧ t.umb.vdd = true ∧ s.raisedIn t Ev.UMB_TIME ∧
      s.regsButEv t [Reg.UMB_STATUS_STATE] ∧ s.memsSame t) ∧
  (∀ (s : State) (d : Nat), s.regsOk → s.umb.alive = true → s.umbState = State.umbKeep → s.umb.darkSince = some d →
    ∃ t, exec .umbVddRise s = .next t ∧ t.umbState = State.umbLinked ∧ t.umb.vdd = true ∧ t.umb.darkSince = none ∧
      t.rd Reg.UMB_DARK_LAST_SEC = (s.rd Reg.UMB_SECONDS_SEC - d) % 2 ^ Reg.UMB_DARK_LAST_SEC.width ∧ s.raisedIn t Ev.UMB_TIME ∧
      s.regsButEv t ([Reg.UMB_STATUS_STATE, Reg.UMB_DARK_LAST_SEC] ++ State.umbLogged) ∧ s.memsSame t) ∧
  (∀ (s : State), s.umb.alive = false → exec .umbVddRise s = .next (s.setUmb fun u => { u with vdd := true }) ∧
    exec .umbVddFall s = .next (s.setUmb fun u => { u with vdd := false })) ∧
  (∀ (s : State), s.regsOk → s.umb.alive = true → s.umbState = State.umbLinked →
    ∃ t, exec .umbVddFall s = .next t ∧ t.umbState = State.umbKeep ∧ t.umb.vdd = false ∧ t.umb.outage = satInc max32 s.umb.outage ∧
      t.umb.darkSince = some (s.rd Reg.UMB_SECONDS_SEC) ∧ t.rd Reg.UMB_OUTAGE_COUNT = t.umb.outage % 2 ^ Reg.UMB_OUTAGE_COUNT.width ∧
      s.regsButEv t ([Reg.UMB_STATUS_STATE, Reg.UMB_OUTAGE_COUNT] ++ State.umbLogged) ∧ s.memsSame t) ∧
  (∀ (s : State) (b : Bool), s.umb.alive = true →
    ∃ t, exec (.umbDead b) s = .next t ∧ t.umb.alive = false ∧ t.umb.staged = [] ∧ t.umb.drops = 0 ∧ t.umb.darkSince = none ∧
      ((b = false ∨ s.umb.staged = []) → t.umb.store = s.umb.store ∧ t.umb.journal = none) ∧ t.regs = s.regs ∧ s.memsSame t) ∧
  (∀ (s : State) (b : Bool), s.umb.alive = false → exec (.umbDead b) s = .next s) ∧
  (∀ (s : State) (mv n : Nat) (h : Bool), s.regsOk → s.umb.alive = true → s.umb.staged = [] →
    ∃ t, exec (.umbRefresh mv n h) s = .next t ∧ t.rd Reg.UMB_CSTORE_MV = mv % 2 ^ Reg.UMB_CSTORE_MV.width ∧
      t.on Reg.UMB_STATUS_HARVEST = h ∧ t.rd Reg.UMB_SUBSEC_TICK = (s.rd Reg.UMB_SUBSEC_TICK + n) % 32768 ∧
      t.rd Reg.UMB_SECONDS_SEC = (s.rd Reg.UMB_SECONDS_SEC + (s.rd Reg.UMB_SUBSEC_TICK + n) / 32768) % 2 ^ Reg.UMB_SECONDS_SEC.width ∧
      s.regsBut t [Reg.UMB_CSTORE_MV, Reg.UMB_STATUS_HARVEST, Reg.UMB_SUBSEC_TICK, Reg.UMB_SECONDS_SEC, Reg.UMB_STATUS_STAGED] ∧
      s.memsSame t) ∧
  (∀ (s : State) (mv n : Nat) (h : Bool), s.umb.alive = false → exec (.umbRefresh mv n h) s = .next s) ∧
  (∀ (s : State) (plugN : Bool), s.regsOk → s.umb.alive = true → s.umbState = State.umbLinked → s.on Reg.UMB_CFG_TAMPER_EN = true →
    s.on Reg.UMB_CFG_PLUG_EN = false → s.umb.lastTamper = true → s.on Reg.UMB_STATUS_TAMPER = false →
    ∃ t, exec (.umbInputSample true plugN) s = .next t ∧ t.on Reg.UMB_STATUS_TAMPER = true ∧ t.on Reg.UMB_FLAGS_TAMPER_EV = true ∧
      s.raisedIn t Ev.UMB_TAMPER ∧ s.regsButEv t ([Reg.UMB_STATUS_TAMPER, Reg.UMB_FLAGS_TAMPER_EV] ++ State.umbLogged) ∧ s.memsSame t) ∧
  (∀ (s : State) (plugN : Bool), s.umb.alive = true → s.umbState ≠ State.umbStart → s.on Reg.UMB_CFG_TAMPER_EN = true →
    s.on Reg.UMB_CFG_PLUG_EN = false → s.umb.lastTamper = false →
    exec (.umbInputSample true plugN) s = .next (s.setUmb fun u => { u with lastTamper := true })) ∧
  (∀ (s : State) (a b : Bool), (s.umb.alive = false ∨ s.umbState = State.umbStart) → exec (.umbInputSample a b) s = .next s) ∧
  (∀ (s : State) (m : Master) (sec : Nat), (s.umb.alive = false ∨ s.umbState = State.umbStart) →
    exec (.umbTimeSetWrite m sec) s = .next { s with bus := .error } ∧ exec (.umbLogPut m) s = .next { s with bus := .error }) ∧
  (∀ (s : State) (m : Master) (sec : Nat), s.regsOk → s.umb.alive = true → s.umbState ≠ State.umbStart → s.right m 0x400F0014 .ur = .allow →
    ∃ t, exec (.umbTimeSetWrite m sec) s = .next t ∧ t.bus = .ok ∧ t.rd Reg.UMB_SECONDS_SEC = sec % 2 ^ 32 ∧ t.rd Reg.UMB_SUBSEC_TICK = 0 ∧
      t.on Reg.UMB_STATUS_TIME_UNKNOWN = false ∧ s.memsSame t) ∧
  (∀ (s : State) (m : Master), s.regsOk → s.umb.alive = true → s.umbState ≠ State.umbStart → s.right m 0x400F0030 .ur = .allow →
    16 ≤ s.umb.staged.length →
    ∃ t, exec (.umbLogPut m) s = .next t ∧ t.bus = .ok ∧ t.umb.drops = s.umb.drops + 1 ∧ t.umb.staged = s.umb.staged ∧
      t.on Reg.UMB_FLAGS_LOST = true ∧ t.rd Reg.UMB_LOG_LOST_COUNT = satInc (2 ^ Reg.UMB_LOG_LOST_COUNT.width - 1) (s.rd Reg.UMB_LOG_LOST_COUNT) ∧
      s.regsButEv t [Reg.UMB_FLAGS_LOST, Reg.UMB_LOG_LOST_COUNT] ∧ s.memsSame t) ∧
  (∀ (s : State) (m : Master) (k q : Nat), s.regsOk → s.umb.alive = true → s.umbState ≠ State.umbStart → s.right m 0x400F0030 .ur = .allow →
    s.umb.staged = [] → s.umb.drops = 0 → s.energyOk = true → s.umb.next = some (k, q) →
    ∃ t r, exec (.umbLogPut m) s = .next t ∧ t.bus = .ok ∧ t.umb.staged = [] ∧ t.umb.store = sparseInsert s.umb.store k r ∧ r.seq = q ∧
      r.sec = s.rd Reg.UMB_SECONDS_SEC ∧ r.code = fieldOf (s.rd Reg.UMB_LOG_WR0_WORD) 0 16 ∧ hasBit r.flags 2 = true ∧
      t.umb.next = some ((k + 1) % 512, (q + 1) % 65536) ∧ s.regsButEv t State.umbLogged ∧ s.memsSame t) ∧
  (∀ (s : State), s.umb.alive = true → s.umb.vdd = true →
    exec .umbOscTrim s = .next (s.setUmb fun u => { u with trimmed := true })) ∧
  (∀ (s : State), (s.umb.alive = false ∨ s.umb.vdd = false) → exec .umbOscTrim s = .next s) ∧
  (∀ (s : State) (us : Nat), s.regsOk → s.umb.alive = true → s.umb.vdd = true → s.umbState = State.umbLinked → s.on Reg.UMB_CFG_CHG_EN = true →
    s.umb.measured = false → us < 500 * 4096 →
    ∃ t, exec (.umbCapMeasured us) s = .next t ∧ t.rd Reg.UMB_CSTORE_CAP = us / 500 ∧ t.umb.cap = some (us / 500) ∧
      t.on Reg.UMB_STATUS_CAP_OK = true ∧ s.regsBut t [Reg.UMB_CSTORE_CAP, Reg.UMB_STATUS_CAP_OK] ∧ s.memsSame t) ∧
  (∀ (s : State) (us : Nat), (s.umb.vdd = false ∨ s.umb.measured = true) → exec (.umbCapMeasured us) s = .next s)

/-- R450 to R458. -/
def Obligations.CvuFollowsMessages : Prop :=
  (∀ (s : State) (u : Nat) (b : Byte), (6 ≤ u ∨ s.on (Reg.CVU_CTRL_EN u) = false) → exec (.cvuByte u b) s = .next s) ∧
  (∀ (s : State) (u : Nat) (b : Byte), u < 6 → s.on (Reg.CVU_CTRL_EN u) = true → s.on (Reg.CVU_CTRL_PAUSE u) = true →
    exec (.cvuByte u b) s = .next ((s.incSat (Reg.CVU_DROP_COUNT u)).wr (Reg.CVU_FLAGS_DROP u) 1)) ∧
  (∀ (s : State) (u : Nat) (b : Byte) (p : CrcParams), s.regsOk → s.Shaped → u < 6 → s.on (Reg.CVU_CTRL_EN u) = true →
    s.on (Reg.CVU_CTRL_PAUSE u) = false → s.on (Reg.CVU_STATUS_IN_MSG u) = true → p = s.cvuSet u →
    ∃ t, exec (.cvuByte u b) s = .next t ∧
      t.rd (Reg.CVU_RUN_VALUE u) =
        State.cvuOrder p (crcByte p (State.cvuOrder p (s.rd (Reg.CVU_RUN_VALUE u))) b.toNat) % 2 ^ p.width ∧
      t.rd (Reg.CVU_VALUE_VALUE u) = t.rd (Reg.CVU_RUN_VALUE u) ^^^ p.xorOut ∧
      t.rd (Reg.CVU_BYTES_COUNT u) = (s.rd (Reg.CVU_BYTES_COUNT u) + 1) % 2 ^ (Reg.CVU_BYTES_COUNT u).width ∧
      (s.rd (Reg.CVU_BYTES_COUNT u) = s.rd (Reg.CVU_ALIVE_OFFSET u) → nth t.cvu.alive u none = some b.toNat) ∧
      (s.rd (Reg.CVU_BYTES_COUNT u) ≠ s.rd (Reg.CVU_ALIVE_OFFSET u) → t.cvu.alive = s.cvu.alive) ∧
      s.regsBut t [Reg.CVU_RUN_VALUE u, Reg.CVU_VALUE_VALUE u, Reg.CVU_BYTES_COUNT u] ∧ s.memsSame t) ∧
  (∀ (s : State) (u : Nat) (b : Byte), s.regsOk → u < 6 → s.on (Reg.CVU_CTRL_EN u) = true → s.on (Reg.CVU_CTRL_PAUSE u) = false →
    s.on (Reg.CVU_STATUS_IN_MSG u) = false → s.on (Reg.CVU_CTRL_MODE u) = true → s.rd (Reg.CVU_CTRL_POLY u) = 1 →
    ∃ t, exec (.cvuByte u b) s = .next t ∧ t.rd (Reg.CVU_RUN_VALUE u) = crcByte State.crc16 0xFFFF b.toNat % 2 ^ 16 ∧
      t.rd (Reg.CVU_BYTES_COUNT u) = 1 ∧ t.on (Reg.CVU_STATUS_IN_MSG u) = true ∧ s.memsSame t) ∧
  (∀ (s : State) (u : Nat), (6 ≤ u ∨ s.on (Reg.CVU_CTRL_EN u) = false ∨ s.on (Reg.CVU_CTRL_PAUSE u) = true ∨
      s.on (Reg.CVU_CTRL_MODE u) = false ∨ s.on (Reg.CVU_STATUS_IN_MSG u) = false) → exec (.cvuMessageClose u) s = .next s) ∧
  (∀ (s : State) (u : Nat), s.regsOk → u < 6 → s.on (Reg.CVU_CTRL_EN u) = true → s.on (Reg.CVU_CTRL_PAUSE u) = false →
    s.on (Reg.CVU_CTRL_MODE u) = true → s.on (Reg.CVU_STATUS_IN_MSG u) = true → s.on (Reg.CVU_CTRL_CHECK u) = false →
    s.on (Reg.CVU_ALIVE_EN u) = false →
    ∃ t, exec (.cvuMessageClose u) s = .next t ∧
      t.rd (Reg.CVU_RESULT_VALUE u) = s.rd (Reg.CVU_VALUE_VALUE u) % 2 ^ (Reg.CVU_RESULT_VALUE u).width ∧
      t.rd (Reg.CVU_MSG_COUNT u) = satInc (2 ^ (Reg.CVU_MSG_COUNT u).width - 1) (s.rd (Reg.CVU_MSG_COUNT u)) ∧
      t.on (Reg.CVU_STATUS_IN_MSG u) = false ∧ t.rd (Reg.CVU_BYTES_COUNT u) = 0 ∧
      (s.on (Reg.CVU_CTRL_EVT_ALL u) = true → s.raisedIn t (Ev.CVU u)) ∧
      s.regsButEv t [Reg.CVU_RESULT_VALUE u, Reg.CVU_MSG_COUNT u, Reg.CVU_STATUS_IN_MSG u, Reg.CVU_BYTES_COUNT u] ∧ s.memsSame t) ∧
  (∀ (s : State) (u : Nat) (p : CrcParams), s.regsOk → u < 6 → s.on (Reg.CVU_CTRL_EN u) = true → s.on (Reg.CVU_CTRL_PAUSE u) = false →
    s.on (Reg.CVU_CTRL_MODE u) = true → s.on (Reg.CVU_STATUS_IN_MSG u) = true → s.on (Reg.CVU_CTRL_CHECK u) = true → p = s.cvuSet u →
    p.width / 8 < s.rd (Reg.CVU_BYTES_COUNT u) → State.cvuOrder p (s.rd (Reg.CVU_RUN_VALUE u)) ≠ State.cvuResidue p →
    ∃ t, exec (.cvuMessageClose u) s = .next t ∧
      t.rd (Reg.CVU_BAD_COUNT u) = satInc (2 ^ (Reg.CVU_BAD_COUNT u).width - 1) (s.rd (Reg.CVU_BAD_COUNT u)) ∧
      t.on (Reg.CVU_FLAGS_CHECK_FAIL u) = true ∧ t.on (Reg.CVU_STATUS_IN_MSG u) = false ∧ s.raisedIn t (Ev.CVU u) ∧
      s.regsButEv t [Reg.CVU_RESULT_VALUE u, Reg.CVU_MSG_COUNT u, Reg.CVU_STATUS_IN_MSG u, Reg.CVU_BYTES_COUNT u, Reg.CVU_BAD_COUNT u,
        Reg.CVU_FLAGS_CHECK_FAIL u] ∧ s.memsSame t) ∧
  (∀ (s : State) (m : Master) (u : Nat), s.regsOk → u < 6 → s.right m (0x400A0000 + 0x40 * u + 0x38) .mr = .allow →
    ∃ t, exec (.cvuStart m u) s = .next t ∧ t.bus = .ok ∧
      t.rd (Reg.CVU_RUN_VALUE u) = State.cvuOrder (s.cvuSet u) (s.cvuSet u).init % 2 ^ (s.cvuSet u).width ∧
      t.on (Reg.CVU_STATUS_IN_MSG u) = false ∧ t.on (Reg.CVU_STATUS_VALID u) = false ∧ t.rd (Reg.CVU_BYTES_COUNT u) = 0 ∧
      s.regsBut t [Reg.CVU_RUN_VALUE u, Reg.CVU_VALUE_VALUE u, Reg.CVU_STATUS_IN_MSG u, Reg.CVU_STATUS_VALID u, Reg.CVU_BYTES_COUNT u] ∧
      s.memsSame t) ∧
  (∀ (s : State) (m : Master) (u : Nat), s.regsOk → u < 6 → s.right m (0x400A0000 + 0x40 * u + 0x38) .mr = .allow →
    s.rd (Reg.CVU_CTRL_SRC u) = 0 → exec (.cvuEnd m u) s = exec (.cvuMessageClose u) s.acked) ∧
  (∀ (s : State) (m : Master) (u : Nat), s.regsOk → u < 6 → s.right m (0x400A0000 + 0x40 * u + 0x38) .mr = .allow →
    s.rd (Reg.CVU_CTRL_SRC u) = 0 → s.on (Reg.CVU_CTRL_EN u) = true → s.on (Reg.CVU_CTRL_PAUSE u) = false →
    s.on (Reg.CVU_CTRL_MODE u) = true → s.on (Reg.CVU_STATUS_IN_MSG u) = true → s.on (Reg.CVU_CTRL_CHECK u) = false →
    s.on (Reg.CVU_ALIVE_EN u) = false →
    ∃ t, exec (.cvuEnd m u) s = .next t ∧ t.bus = .ok ∧
      t.rd (Reg.CVU_RESULT_VALUE u) = s.rd (Reg.CVU_VALUE_VALUE u) % 2 ^ (Reg.CVU_RESULT_VALUE u).width ∧
      t.rd (Reg.CVU_MSG_COUNT u) = satInc (2 ^ (Reg.CVU_MSG_COUNT u).width - 1) (s.rd (Reg.CVU_MSG_COUNT u)) ∧
      t.on (Reg.CVU_STATUS_IN_MSG u) = false ∧ t.rd (Reg.CVU_BYTES_COUNT u) = 0 ∧
      s.regsButEv t [Reg.CVU_RESULT_VALUE u, Reg.CVU_MSG_COUNT u, Reg.CVU_STATUS_IN_MSG u, Reg.CVU_BYTES_COUNT u] ∧ s.memsSame t) ∧
  (∀ (s : State) (m : Master) (u : Nat), s.right m (0x400A0000 + 0x40 * u + 0x38) .mr = .allow → u < 6 →
    s.rd (Reg.CVU_CTRL_SRC u) ≠ 0 → exec (.cvuEnd m u) s = .next s.acked) ∧
  (∀ (s : State) (m : Master) (u : Nat), s.regsOk → u < 6 → s.right m (0x400A0000 + 0x40 * u + 0x38) .mr = .allow →
    ∃ t, exec (.cvuClr m u) s = .next t ∧ t.bus = .ok ∧ t.rd (Reg.CVU_MSG_COUNT u) = 0 ∧ t.rd (Reg.CVU_BAD_COUNT u) = 0 ∧
      t.rd (Reg.CVU_ALIVE_ERR_REPEAT u) = 0 ∧ t.rd (Reg.CVU_ALIVE_ERR_MISSING u) = 0 ∧ t.rd (Reg.CVU_DROP_COUNT u) = 0 ∧
      s.regsBut t [Reg.CVU_MSG_COUNT u, Reg.CVU_BAD_COUNT u, Reg.CVU_ALIVE_ERR_REPEAT u, Reg.CVU_ALIVE_ERR_MISSING u, Reg.CVU_DROP_COUNT u] ∧
      s.memsSame t) ∧
  (∀ (s : State) (m : Master) (u : Nat) (on : Bool), u < 6 → s.right m (0x400A0000 + 0x40 * u) .mr = .allow →
    exec (.cvuPause m u on) s = .next (s.acked.wr (Reg.CVU_CTRL_PAUSE u) (b2n on))) ∧
  (∀ (s : State) (m : Master) (u v : Nat), u < 6 → s.on (Reg.CVU_CTRL_PAUSE u) = false →
    (s.right m (0x400A0000 + 0x40 * u + 0x10) .mr = .allow →
      exec (.cvuRunWrite m u false v) s = .next (s.acked.wr (Reg.CVU_FLAGS_CFG_ERR u) 1)) ∧
    (s.right m (0x400A0000 + 0x40 * u + 0x1C) .mr = .allow →
      exec (.cvuRunWrite m u true v) s = .next (s.acked.wr (Reg.CVU_FLAGS_CFG_ERR u) 1))) ∧
  (∀ (s : State) (m : Master) (u v : Nat), s.regsOk → u < 6 → s.on (Reg.CVU_CTRL_PAUSE u) = true →
    (s.right m (0x400A0000 + 0x40 * u + 0x10) .mr = .allow →
      ∃ t, exec (.cvuRunWrite m u false v) s = .next t ∧ t.bus = .ok ∧ t.rd (Reg.CVU_RUN_VALUE u) = v % 2 ^ (s.cvuSet u).width ∧
        t.rd (Reg.CVU_VALUE_VALUE u) = (v % 2 ^ (s.cvuSet u).width) ^^^ (s.cvuSet u).xorOut ∧
        s.regsBut t [Reg.CVU_RUN_VALUE u, Reg.CVU_VALUE_VALUE u] ∧ s.memsSame t) ∧
    (s.right m (0x400A0000 + 0x40 * u + 0x1C) .mr = .allow →
      ∃ t, exec (.cvuRunWrite m u true v) s = .next t ∧ t.bus = .ok ∧ t.on (Reg.CVU_STATUS_IN_MSG u) = hasBit v 0 ∧
        t.on (Reg.CVU_STATUS_VALID u) = hasBit v 1 ∧ t.rd (Reg.CVU_STATUS_LAST u) = v / 2 ^ 8 % 2 ^ 8 ∧
        s.regsBut t [Reg.CVU_STATUS_IN_MSG u, Reg.CVU_STATUS_VALID u, Reg.CVU_STATUS_LAST u] ∧ s.memsSame t))

/-- R478 and R480 to R483. -/
def Obligations.ClocksLockAndFail : Prop :=
  (∀ (s : State), exec .refLoss s = .next (((s.wr Reg.CLK_FLAGS_REF_LOSS 1).wr Reg.CLK_STATUS_REF_OK 0).raise Ev.CLK_UNLOCK) ∧
    exec .referenceReturn s = .next (s.wr Reg.CLK_STATUS_REF_OK 1)) ∧
  (∀ (s : State) (p : Nat), (s.pllWanted p = false ∨ s.on Reg.CLK_STATUS_REF_OK = false ∨ hasBit (s.rd Reg.CLK_STATUS_LOCK) p = true) →
    exec (.pllLock p) s = .next s) ∧
  (∀ (s : State) (p : Nat), s.pllWanted p = true → s.on Reg.CLK_STATUS_REF_OK = true → hasBit (s.rd Reg.CLK_STATUS_LOCK) p = false →
    (∀ b, b < 32 → s.bandFits p b = false) → exec (.pllLock p) s = .next (s.wr Reg.CLK_FLAGS_BAND_ERR 1)) ∧
  (∀ (s : State) (p b : Nat), s.regsOk → s.pllWanted p = true → s.on Reg.CLK_STATUS_REF_OK = true →
    hasBit (s.rd Reg.CLK_STATUS_LOCK) p = false → b < 32 → s.bandFits p b = true →
    (p ≠ 0 → exec (.pllLock p) s = .next (s.setB Reg.CLK_STATUS_LOCK p)) ∧
    (p = 0 → ∃ t, exec (.pllLock p) s = .next t ∧ hasBit (t.rd Reg.CLK_STATUS_LOCK) 0 = true ∧ t.on Reg.PWM_STATUS_CLK_OK = true ∧
      hasBit (t.rd Reg.PWM_SAFE_STATUS_ACTIVE) SafeCause.clkLoss.bit = false ∧ hasBit t.safety.sf4 4 = false ∧
      s.regsBut t [Reg.CLK_STATUS_LOCK, Reg.PWM_STATUS_CLK_OK, Reg.PWM_SAFE_STATUS_ACTIVE] ∧ s.memsSame t)) ∧
  (∀ (s : State) (p : Nat), (4 ≤ p ∨ hasBit (s.rd Reg.CLK_STATUS_LOCK) p = false) → exec (.pllUnlock p) s = .next s) ∧
  (∀ (s : State) (p : Nat), s.regsOk → p < 4 → hasBit (s.rd Reg.CLK_STATUS_LOCK) p = true →
    ∃ t, exec (.pllUnlock p) s = .next t ∧ hasBit (t.rd Reg.CLK_STATUS_LOCK) p = false ∧ hasBit (t.rd Reg.CLK_FLAGS_UNLOCK) p = true ∧
      s.raisedIn t Ev.CLK_UNLOCK ∧ s.memsSame t ∧
      (p = 0 → t.pwmLatched = true ∧ t.on Reg.PWM_STATUS_CLK_OK = false ∧ t.relaysOpen = true ∧ hasBit t.safety.sf4 4 = true ∧
        s.raisedIn t Ev.PWM_CLK_LOSS ∧ (s.oper ≠ .boot → t.oper = .faultHold)) ∧
      (p = 1 → s.pairRuns .a = true → t.pairState .a = State.pairFailed) ∧
      (p = 3 → t.on Reg.SNS_LINK_DOWN = true)) ∧
  (∀ (s : State) (m : Master) (mask : Nat) (es : List Nat), s.regsOk → s.right m 0x400D0300 .mr = .allow →
    ∃ t, exec (.clkCalStart m mask es) s = .next t ∧ t.bus = .ok ∧
      (∀ p b, p < 4 → b < 32 → hasBit mask p = true →
        t.rd (Reg.PLL_BAND_LOW p b) = nth es (64 * p + 2 * b) 0 % 2 ^ (Reg.PLL_BAND_LOW p b).width ∧
        t.rd (Reg.PLL_BAND_HIGH p b) = nth es (64 * p + 2 * b + 1) 0 % 2 ^ (Reg.PLL_BAND_HIGH p b).width ∧
        t.on (Reg.PLL_BAND_VALID p b) = true ∧ hasBit (t.rd Reg.CLK_CAL_DONE) p = true) ∧
      (∀ p b, p < 4 → b < 32 → hasBit mask p = false →
        t.rd (Reg.PLL_BAND_LOW p b) = s.rd (Reg.PLL_BAND_LOW p b) ∧ t.rd (Reg.PLL_BAND_HIGH p b) = s.rd (Reg.PLL_BAND_HIGH p b) ∧
        t.rd (Reg.PLL_BAND_VALID p b) = s.rd (Reg.PLL_BAND_VALID p b)) ∧
      (∀ f : Fld, f.lo < 32 → (f.addr < 0x400D0100 ∨ 0x400D0300 < f.addr) → t.rd f = s.rd f) ∧ s.memsSame t) ∧
  (∀ (s : State) (m : Master), s.right m 0x400D0070 .mr = .allow → s.rampOk = false →
    exec (.rampRun m) s = .next ((s.acked.wr Reg.RAMP_CTRL_RUN 0).wr Reg.CLK_FLAGS_RAMP_ERR 1)) ∧
  (∀ (s : State) (m : Master), s.regsOk → s.right m 0x400D0070 .mr = .allow → s.rampOk = true →
    ∃ t, exec (.rampRun m) s = .next t ∧ t.bus = .ok ∧ t.on Reg.RAMP_CTRL_RUN = true ∧ t.rd Reg.RAMP_STATUS_SEG = 0 ∧
      t.on Reg.RAMP_STATUS_BUSY = true ∧ t.clk.rampReturns = false ∧
      s.regsBut t [Reg.RAMP_CTRL_RUN, Reg.RAMP_STATUS_SEG, Reg.RAMP_STATUS_BUSY] ∧ s.memsSame t) ∧
  (∀ (s : State) (m : Master), s.right m 0x400D0070 .mr = .allow →
    (s.on Reg.RAMP_CTRL_RUN = false → exec (.rampStop m) s = .next s.acked) ∧
    (s.on Reg.RAMP_CTRL_RUN = true → ∃ t, exec (.rampStop m) s = .next t ∧ t.clk.rampReturns = s.on Reg.RAMP_STATUS_BUSY ∧
      t.regs = (s.wr Reg.RAMP_CTRL_RUN 0).regs ∧ s.memsSame t)) ∧
  (∀ (s : State), s.regsOk → s.clk.rampReturns = true →
    ∃ t, exec .rampSegmentEnd s = .next t ∧ t.rd Reg.CORE_MULT_MULT = 0x100000 ∧ t.on Reg.RAMP_STATUS_BUSY = false ∧ t.clk.rampReturns = false ∧
      s.regsBut t [Reg.CORE_MULT_MULT, Reg.RAMP_STATUS_BUSY] ∧ s.memsSame t) ∧
  (∀ (s : State), s.regsOk → s.clk.rampReturns = false → s.on Reg.RAMP_CTRL_RUN = true → s.rd Reg.RAMP_STATUS_SEG < 16 →
    ∃ t, exec .rampSegmentEnd s = .next t ∧
      t.rd Reg.CORE_MULT_MULT = s.rd (Reg.RAMP_SEG_TGT_TARGET (s.rd Reg.RAMP_STATUS_SEG)) % 2 ^ Reg.CORE_MULT_MULT.width ∧
      (s.rd Reg.RAMP_STATUS_SEG < s.rd Reg.RAMP_CTRL_LAST →
        t.rd Reg.RAMP_STATUS_SEG = (s.rd Reg.RAMP_STATUS_SEG + 1) % 2 ^ Reg.RAMP_STATUS_SEG.width) ∧
      (s.rd Reg.RAMP_CTRL_LAST ≤ s.rd Reg.RAMP_STATUS_SEG → s.on Reg.RAMP_CTRL_LOOP = true →
        t.rd Reg.RAMP_STATUS_SEG = s.rd Reg.RAMP_CTRL_LOOP_TO % 2 ^ Reg.RAMP_STATUS_SEG.width) ∧
      (s.rd Reg.RAMP_CTRL_LAST ≤ s.rd Reg.RAMP_STATUS_SEG → s.on Reg.RAMP_CTRL_LOOP = false →
        t.on Reg.RAMP_STATUS_BUSY = (s.rd (Reg.RAMP_SEG_TGT_TARGET (s.rd Reg.RAMP_STATUS_SEG)) != 0x100000)) ∧
      s.regsBut t [Reg.CORE_MULT_MULT, Reg.RAMP_STATUS_SEG, Reg.RAMP_STATUS_BUSY] ∧ s.memsSame t) ∧
  (∀ (s : State), s.clk.rampReturns = false → s.on Reg.RAMP_CTRL_RUN = false → exec .rampSegmentEnd s = .next s)

/-- R485 to R489, R500 and R501. -/
def Obligations.SuppliesAndWakeAct : Prop :=
  (∀ (s : State) (a b : Bool), s.regsOk → s.supplyLow = false → (a = true ∨ b = true) → s.meState = State.meOff →
    ∃ t, exec (.supWarn a b) s = .next t ∧ (a = true → t.on Reg.SUP_STATUS_VDD_WARN = true) ∧ (b = true → t.on Reg.SUP_STATUS_VDDA_WARN = true) ∧
      t.on Reg.SUP_STATUS_HOLD_RUN = true ∧ s.raisedIn t Ev.SUP_WARN ∧
      s.regsButEv t [Reg.SUP_STATUS_VDD_WARN, Reg.SUP_STATUS_VDDA_WARN, Reg.SUP_STATUS_HOLD_RUN] ∧ s.memsSame t) ∧
  (∀ (s : State), s.on Reg.SUP_STATUS_VDD_WARN = true →
    exec (.supWarn false true) s = .next (s.wr Reg.SUP_STATUS_VDDA_WARN 1)) ∧
  (∀ (s : State), (s.on Reg.SUP_STATUS_HOLD_RUN = false ∨ s.supplyLow = false) → exec .supHoldExpire s = .next s) ∧
  (∀ (s : State), s.regsOk → s.on Reg.SUP_STATUS_HOLD_RUN = true → s.supplyLow = true → s.power ≠ .sleep →
    ∃ t, exec .supHoldExpire s = .next t ∧ t.on Reg.SUP_STATUS_HOLD_RUN = false ∧ t.on Reg.SUP_FLAGS_HOLD_EXP = true ∧
      hasBit t.safety.sf4 3 = true ∧ t.relaysOpen = true ∧ t.pwmLatched = true ∧ (s.oper ≠ .boot → t.oper = .faultHold) ∧ s.memsSame t) ∧
  (∀ (s : State) (a b : Bool) (us : Nat), s.regsOk → s.supplyLow = true → s.on Reg.SUP_STATUS_HOLD_RUN = true →
    (a = true ∨ s.on Reg.SUP_STATUS_VDD_WARN = false) → (b = true ∨ s.on Reg.SUP_STATUS_VDDA_WARN = false) →
    ∃ t, exec (.supRecover a b us) s = .next t ∧ t.supplyLow = false ∧ t.on Reg.SUP_STATUS_HOLD_RUN = false ∧ t.on Reg.SUP_FLAGS_DIP = true ∧
      t.rd Reg.SUP_DIP_COUNT_COUNT = satInc (2 ^ Reg.SUP_DIP_COUNT_COUNT.width - 1) (s.rd Reg.SUP_DIP_COUNT_COUNT) ∧
      hasBit t.safety.sf4 3 = false ∧ s.raisedIn t Ev.SUP_OK ∧ s.memsSame t) ∧
  (∀ (s : State) (us : Nat), s.on Reg.SUP_STATUS_VDDA_WARN = true →
    exec (.supRecover true false us) s = .next (s.wr Reg.SUP_STATUS_VDD_WARN 0)) ∧
  (∀ (s : State), s.regsOk →
    (∃ t, exec .vddioLoss s = .next t ∧ t.on Reg.SUP_STATUS_VDDIO_OK = false ∧ t.on Reg.SUP_FLAGS_VDDIO_LOSS = true ∧ t.clk.hostHighZ = true ∧
      s.regsBut t [Reg.SUP_STATUS_VDDIO_OK, Reg.SUP_FLAGS_VDDIO_LOSS] ∧ s.memsSame t) ∧
    (∃ t, exec .vddioRecover s = .next t ∧ t.on Reg.SUP_STATUS_VDDIO_OK = true ∧ t.clk.hostHighZ = false ∧
      s.regsBut t [Reg.SUP_STATUS_VDDIO_OK] ∧ s.memsSame t)) ∧
  (∀ (s : State) (b : Nat), (6 ≤ b ∨ hasBit (s.rd Reg.PWR_WAKE_EN) b = false ∨ (s.clk.target = none ∧ s.power = .run)) →
    exec (.wakeSource b) s = .next s) ∧
  (∀ (s : State) (b : Nat), s.regsOk → b < 5 → hasBit (s.rd Reg.PWR_WAKE_EN) b = true → s.clk.target = none →
    (s.power = .watch ∨ s.power = .sleep) →
    ∃ t, exec (.wakeSource b) s = .next t ∧ hasBit (t.rd Reg.PWR_WAKE_CAUSE_CAUSE) b = true ∧ t.clk.target = some .run ∧
      t.on Reg.PWR_STATE_BUSY = true ∧ t.power = s.power ∧ s.regsBut t [Reg.PWR_WAKE_CAUSE_CAUSE, Reg.PWR_STATE_BUSY] ∧ s.memsSame t) ∧
  (∀ (s : State) (b : Nat), s.regsOk → b < 5 → hasBit (s.rd Reg.PWR_WAKE_EN) b = true → s.clk.target = some .sleep →
    ∃ t, exec (.wakeSource b) s = .next t ∧ hasBit (t.rd Reg.PWR_WAKE_CAUSE_CAUSE) b = true ∧ t.clk.wakeWaits = true ∧
      t.clk.target = some .sleep ∧ s.regsBut t [Reg.PWR_WAKE_CAUSE_CAUSE] ∧ s.memsSame t) ∧
  (∀ (s : State), s.clk.target = none → exec .pwrTransitionDone s = .next s) ∧
  (∀ (s : State), s.clk.target = some .run → s.pllMissing ≠ 0 → exec .pwrTransitionDone s = .next s) ∧
  (∀ (s : State), s.regsOk → s.clk.target = some .run → s.pllMissing = 0 → s.clk.reapplied = true → s.cpRun = true →
    ∃ t, exec .pwrTransitionDone s = .next t ∧ t.power = .run ∧ t.clk.target = none ∧ t.rd Reg.PWR_STATE_STATE = 0 ∧
      t.on Reg.PWR_STATE_BUSY = false ∧ s.raisedIn t Ev.PWR_STATE ∧ s.regsButEv t [Reg.PWR_STATE_STATE, Reg.PWR_STATE_BUSY] ∧ s.memsSame t) ∧
  (∀ (s : State), s.regsOk → s.clk.target = some .watch → s.clk.wakeWaits = false →
    ∃ t, exec .pwrTransitionDone s = .next t ∧ t.power = .watch ∧ t.clk.target = none ∧ t.rd Reg.PWR_STATE_STATE = 1 ∧
      t.on Reg.PWR_STATE_BUSY = false ∧ s.raisedIn t Ev.PWR_STATE ∧ t.sram = s.sram ∧ t.mcMem = s.mcMem ∧ t.scMem = s.scMem ∧
      hasBit (t.rd Reg.CLK_STATUS_LOCK) 1 = false ∧ hasBit (t.rd Reg.CLK_STATUS_LOCK) 2 = false ∧ t.umb = s.umb) ∧
  (∀ (s : State), s.regsOk → s.clk.target = some .sleep → s.clk.wakeWaits = false →
    ∃ t, exec .pwrTransitionDone s = .next t ∧ t.power = .sleep ∧ t.clk.target = none ∧ t.rd Reg.PWR_STATE_STATE = 2 ∧
      t.on Reg.PWR_STATE_BUSY = false ∧ t.sram = [] ∧ t.scMem = [] ∧ t.mcMem = s.mcMem ∧ t.rd Reg.CLK_STATUS_LOCK = 0 ∧ t.umb = s.umb) ∧
  (∀ (s : State) (a b : State.Pattern), s.indicatorRow = (a, b) →
    ∃ t, exec .indicatorSlot s = .next t ∧ t.clk.ind0 = a.lit s.clk.slot ∧ t.clk.ind1 = b.lit s.clk.slot ∧ t.clk.slot = (s.clk.slot + 1) % 16 ∧
      t.regs = s.regs ∧ t.oper = s.oper ∧ s.memsSame t) ∧
  (∀ (s : State), s.power = .run → s.oper = .connected → s.clk.sinceGood = 8 → State.gsRiding s.gsState = true →
    s.indicatorRow = (.on, .wink)) ∧
  (∀ (s : State), s.power = .run → s.oper = .faultHold → s.clk.sinceGood = 8 → s.safeState = State.safeLatched → s.indicatorRow = (.off, .on))

/-- R490 to R493, R422, R437 and R411. -/
def Obligations.ResetsKeepWhatTheyKeep : Prop :=
  (∀ (s : State) (dark : Bool), s.regsOk →
    ∃ t, exec (.porst dark) s = .next t ∧ s.AfterPackageReset t ∧ t.rd Reg.RST_CAUSE_CAUSE = 1 ∧
      t.power = (if dark then .dark else .run) ∧ (∀ f : Fld, f.key ∈ porstKeys → f.key ≠ Reg.RST_CAUSE_CAUSE.key → t.rd f = f.rst)) ∧
  (∀ (s : State), s.regsOk →
    ∃ t, exec .pinrst s = .next t ∧ s.AfterPackageReset t ∧ t.power = .run ∧ hasBit (t.rd Reg.RST_CAUSE_CAUSE) 1 = true ∧
      (∀ f : Fld, f.key ∈ porstKeys → f.key ≠ Reg.RST_CAUSE_CAUSE.key → t.rd f = s.rd f)) ∧
  (∀ (s : State), s.on Reg.WDT_CTRL_EN = false → exec .wdrst s = .next s) ∧
  (∀ (s : State), s.regsOk → s.on Reg.WDT_CTRL_EN = true →
    ∃ t, exec .wdrst s = .next t ∧ s.AfterPackageReset t ∧ t.power = .run ∧ hasBit (t.rd Reg.RST_CAUSE_CAUSE) 2 = true ∧
      (∀ f : Fld, f.key ∈ porstKeys → f.key ≠ Reg.RST_CAUSE_CAUSE.key → t.rd f = s.rd f)) ∧
  (∀ (s : State), s.pairs.fatalDue = false → exec .fatalrst s = .next s) ∧
  (∀ (s : State), s.regsOk → s.pairs.fatalDue = true →
    ∃ t, exec .fatalrst s = .next t ∧ s.AfterPackageReset t ∧ t.power = .run ∧ hasBit (t.rd Reg.RST_CAUSE_CAUSE) 3 = true ∧
      (∀ f : Fld, f.key ∈ porstKeys → f.key ≠ Reg.RST_CAUSE_CAUSE.key → t.rd f = s.rd f)) ∧
  (∀ (s : State) (m : Master) (key : Nat), s.right m 0x400D0044 .mr = .allow →
    (key % 65536 = 0xA5C3 → exec (.wdtKick m key) s = .next (s.acked.wr Reg.WDT_COUNT_MS (s.rd Reg.WDT_CTRL_MS))) ∧
    (key % 65536 ≠ 0xA5C3 → s.regsOk →
      ∃ t, exec (.wdtKick m key) s = .next t ∧ s.AfterPackageReset t ∧ hasBit (t.rd Reg.RST_CAUSE_CAUSE) 2 = true)) ∧
  (∀ (s : State) (m : Master), s.right m 0x400D0034 .mr = .allow → s.oper = .boot → exec (.softrst m 0) s = .next s.acked) ∧
  (∀ (s : State) (m : Master), s.regsOk → s.right m 0x400D0034 .mr = .allow →
    ∃ t, exec (.softrst m 4) s = .next t ∧ t.oper = .boot ∧ t.sec.romDue = true ∧ t.sec.romRan = false ∧ t.mcMem = [] ∧
      hasBit (t.rd Reg.RST_CAUSE_CAUSE) 6 = true ∧ t.sram = s.sram ∧ t.capture = s.capture ∧ t.tcmA = s.tcmA ∧ t.tcmB = s.tcmB ∧
      t.scMem = s.scMem ∧ t.umb = s.umb ∧ t.safety = s.safety ∧
      (∀ f : Fld, f.lo < 32 → 0x400A0000 ≤ f.addr → f.addr < 0x400A8000 → t.rd f = f.rst) ∧
      (∀ f : Fld, f.lo < 32 → (f.addr < 0x400A0000 ∨ 0x400A8000 ≤ f.addr) → f.key ≠ Reg.RST_CAUSE_CAUSE.key → t.rd f = s.rd f)) ∧
  (∀ (s : State) (m : Master), s.regsOk → s.right m 0x400D0034 .mr = .allow → s.oper = .boot →
    ∃ t, exec (.softrst m 1) s = .next t ∧ t.oper = .boot ∧ hasBit (t.rd Reg.RST_CAUSE_CAUSE) 4 = true ∧ t.pwmLatched = true ∧
      t.tcmA = [] ∧ t.tcmB = [] ∧ t.capture = s.capture ∧ t.mcMem = s.mcMem ∧ t.scMem = s.scMem ∧ t.umb = s.umb) ∧
  (∀ (s : State) (m : Master), s.regsOk → s.right m 0x400D0034 .mr = .allow → s.oper = .boot → s.meState = State.meOff → s.nv.ckpt = [] →
    ∃ t, exec (.softrst m 2) s = .next t ∧ t.oper = .boot ∧ hasBit (t.rd Reg.RST_CAUSE_CAUSE) 5 = true ∧ t.capture = [] ∧
      t.sram = s.sram ∧ t.tcmA = s.tcmA ∧ t.tcmB = s.tcmB ∧ t.mcMem = s.mcMem ∧ t.scMem = s.scMem ∧ t.umb = s.umb) ∧
  (∀ (s : State) (ext : List (Nat × List Byte)) (es : List Nat), s.sec.romDue = false → exec (.bootRomRun ext es) s = .next s) ∧
  (∀ (s : State) (ext : List (Nat × List Byte)) (es : List Nat), s.regsOk → s.sec.romDue = true →
    ∃ t, exec (.bootRomRun ext es) s = .next t ∧ t.sec.romDue = false ∧ t.sec.romRan = true ∧
      t.nv.bootCount = (s.nv.bootCount + 1) % 2 ^ 32 ∧ t.oper = s.oper ∧ t.tcmA = s.tcmA ∧ t.tcmB = s.tcmB ∧ t.capture = s.capture) ∧
  (∀ (s : State), (s.oper ≠ .boot ∨ s.sec.romRan = false ∨ nth s.sec.loaded 0 none = none) → exec .bootComplete s = .next s) ∧
  (∀ (s : State), s.oper = .boot → s.sec.romRan = true → (nth s.sec.loaded 0 none).isSome = true → s.nv.bdr = [] →
    s.safeState ≠ State.safeLatched → s.sf2Active = false →
    ∃ t, exec .bootComplete s = .next t ∧ t.oper = .awaitDescription ∧ t.tpp.bdr = [] ∧ t.tpp.gprActive = false ∧ t.regs = s.regs ∧ s.memsSame t)

/-- R425, R433, R434, R441, R413 and R269. -/
def Obligations.SecurityEventsAct : Prop :=
  (∀ (s : State) (t k : Nat) (img : LoadedImage), s.Shaped → t < 4 → nth s.nv.trial t none = some k → nth s.sec.loaded t none = some img →
    nth s.nv.trialRuns t false = true → s.nv.otp.rb.length = 4 → s.nv.otp.rbDue.length = 4 → s.nv.active.length = 4 →
    ∃ u, exec (.imageTrialPromote t none) s = .next u ∧ nth u.nv.active t 0 = k ∧ nth u.nv.trial t none = none ∧
      nth u.nv.trialRuns t false = false ∧ nth u.nv.otp.rb t 0 = max (nth s.nv.otp.rb t 0) (min 128 img.rollback) ∧
      u.nv.flash = s.nv.flash ∧ u.sec = s.sec ∧ (∀ f : Fld, f.lo < 32 → (f.addr < 0x400A8000 ∨ 0x400B0000 ≤ f.addr) → u.rd f = s.rd f) ∧
      s.memsSame u) ∧
  (∀ (s : State) (t : Nat) (b : Option Nat), (4 ≤ t ∨ nth s.nv.trialRuns t false = false ∨ nth s.nv.trial t none = none) →
    exec (.imageTrialPromote t b) s = .next s) ∧
  (∀ (s : State), exec .trngHealthFail s = .next (((s.wr Reg.SEC_TRNG_HEALTH_OK 0).wr Reg.SEC_TRNG_FAIL 1).raise Ev.SEC_SESSION)) ∧
  (∀ (s : State), ∃ t, exec .tokenStagingTimeout s = .next t ∧ t.sec.token = none ∧ t.sec.loaded = s.sec.loaded ∧ t.nv = s.nv ∧
    t.regs = s.regs ∧ t.tpp = s.tpp ∧ s.memsSame t) ∧
  (∀ (s : State) (k : RecordKind), ∃ t, exec (.recordStagingTimeout k) s = .next t ∧ t.stage k = {} ∧
    (∀ j, j ≠ k → t.stage j = s.stage j) ∧ t.tpp.queue = s.tpp.queue ∧ t.tpp.bdr = s.tpp.bdr ∧ t.tpp.gpr = s.tpp.gpr ∧
    t.regs = s.regs ∧ s.memsSame t) ∧
  (∀ (s : State), s.gs.profWait = none → exec .gsProfileSwitch s = .next s) ∧
  (∀ (s : State) (ws : List Nat), s.gs.profWait = some ws →
    (State.gsRiding s.gsState = true ∨ (s.gs.deferred = true ∧ s.gsState ≠ State.gsNormal ∧ s.gsState ≠ State.gsOff)) →
    exec .gsProfileSwitch s = .next s) ∧
  (∀ (s : State) (ws : List Nat), s.regsOk → s.gs.profWait = some ws → State.gsRiding s.gsState = false → s.gs.deferred = false →
    s.tpp.gprPending = none →
    ∃ t, exec .gsProfileSwitch s = .next t ∧ t.gs.profWait = none ∧ t.gs.deferred = false ∧ t.cross.loadProfile = .idle ∧
      (∀ i, i < 128 → t.rd (Reg.GS_PROF_ACT_WORD i) = nth ws i 0 % 2 ^ 32) ∧ t.on Reg.GS_STATUS_PROFILE_OK = true ∧
      t.rd Reg.GS_STATUS_PROFILE_ID = fieldOf (nth ws 1 0) 0 16 ∧ t.on Reg.GS_STATUS_PROF_PEND = false ∧ s.raisedIn t Ev.GS_PROFILE ∧
      s.memsSame t)

/-- R46, R7 to R9, R69; the bus answers are read from R46 (notes/assumptions 4 and 11). -/
def Obligations.RegisterWritesFollowTheirFields : Prop :=
  (∀ (s : State) (m : Master) (a size v : Nat), s.clk.rstDue = none → (size ≠ 4 ∨ a % 4 ≠ 0 ∨ State.windowOf a = .outside) →
    ∃ t, exec (.registerWrite m a size v) s = .next t ∧ t.bus = .error ∧ t.regs = s.regs ∧ t.rw1 = s.rw1 ∧ s.memsSame t) ∧
  (∀ (s : State) (v : Nat), s.clk.rstDue = none →
    ∃ t, exec (.registerWrite .mc 0x400D0010 4 v) s = .next t ∧ t.bus = .ok ∧ t.regs = (s.wr Reg.PWR_WAKE_SEC_SEC (v % 2 ^ 32)).regs ∧
      s.memsSame t) ∧
  (∀ (s : State) (v : Nat), s.regsOk → s.clk.rstDue = none →
    ∃ t, exec (.registerWrite .mc 0x400D0030 4 v) s = .next t ∧ t.bus = .ok ∧
      (∀ n, n < 7 → hasBit (t.rd Reg.RST_CAUSE_CAUSE) n = (hasBit (s.rd Reg.RST_CAUSE_CAUSE) n && !hasBit (v % 2 ^ 32) n)) ∧
      s.regsBut t [Reg.RST_CAUSE_CAUSE] ∧ s.memsSame t) ∧
  (∀ (s : State) (v : Nat), s.clk.rstDue = none →
    (∃ t, exec (.registerWrite .mc 0x400D0060 4 v) s = .next t ∧ t.bus = .ok ∧ t.regs = s.regs ∧ s.memsSame t) ∧
    (∃ t, exec (.registerWrite .mc 0x400D0050 4 v) s = .next t ∧ t.bus = .ok ∧ t.regs = s.regs ∧ s.memsSame t)) ∧
  (∀ (s : State) (a v : Nat), s.clk.rstDue = none → a % 4 = 0 → State.windowOf a ≠ .outside → State.windowOf a ≠ .crossing → State.windowOf a ≠ .umbra →
    ∃ t, exec (.registerWrite .dataRegion a 4 v) s = .next t ∧ t.bus = .error ∧ t.regs = s.regs ∧ s.memsSame t) ∧
  (∀ (s : State) (v : Nat), s.clk.rstDue = none →
    ∃ t, exec (.registerWrite .sc 0x400D0010 4 v) s = .next t ∧ t.bus = .error ∧ t.regs = s.regs ∧ s.memsSame t) ∧
  (∀ (s : State) (a v : Nat), s.regsOk → s.clk.rstDue = none → a % 4 = 0 → 0x40010000 ≤ a → a < 0x40050000 →
    s.pairState .a = State.pairStandby → s.on (State.fenceFld .a) = false →
    ∃ t, exec (.registerWrite .pairA a 4 v) s = .next t ∧ t.bus = .ok ∧
      t.rd Reg.CP_SUPPRESS_COUNT_COUNT = satInc (2 ^ Reg.CP_SUPPRESS_COUNT_COUNT.width - 1) (s.rd Reg.CP_SUPPRESS_COUNT_COUNT) ∧
      s.regsBut t [Reg.CP_SUPPRESS_COUNT_COUNT] ∧ s.memsSame t) ∧
  (∀ (s : State) (a v : Nat), s.regsOk → s.clk.rstDue = none → a % 4 = 0 → 0x40010000 ≤ a → a < 0x40050000 →
    s.on (State.fenceFld .a) = true →
    ∃ t, exec (.registerWrite .pairA a 4 v) s = .next t ∧ t.bus = .none ∧
      t.rd Reg.CP_FENCE_DROPS_COUNT = satInc (2 ^ Reg.CP_FENCE_DROPS_COUNT.width - 1) (s.rd Reg.CP_FENCE_DROPS_COUNT) ∧
      s.regsBut t [Reg.CP_FENCE_DROPS_COUNT] ∧ s.memsSame t)

/-- R401 and R402; that the sender names the head's opcode is the model's (notes/assumptions 57). -/
def Obligations.TppRunsOnlyTheHead : Prop :=
  (∀ (c : Instr) (op : Nat) (s : State), tppOpcode? c = some op →
    (s.tpp.queue = [] ∨ s.tppBusy = true ∨ s.oper = .boot ∨ ∃ r, s.tpp.queue.head? = some r ∧ r.opcode ≠ op) → exec c s = .next s) ∧
  (∀ (c : Instr) (op : Nat) (s : State) (r : Request) (e : State.CheckFail), tppOpcode? c = some op → s.tpp.queue.head? = some r →
    r.opcode = op → s.tppBusy = false → s.oper ≠ .boot → s.check? r = some e →
    exec c s = .next ((s.dropHead.answerBad r e).pumpAll)) ∧
  (∀ (c : Instr) (op : Nat) (s : State) (r : Request), tppOpcode? c = some op → s.tpp.queue.head? = some r → r.opcode = op →
    s.tppBusy = false → s.oper ≠ .boot → s.check? r = none → r.busy = true →
    exec c s = .next ((s.taken r).replied r 0x0302 []) ∨ ∃ u pl, exec c s = .next (State.replied u r 0x0301 pl)) ∧
  (∀ (c : Instr) (op : Nat) (s : State), tppOpcode? c = some op → ∃ t, exec c s = .next t ∧ t.pending = s.pending) ∧
  (∀ (s : State) (r : Request) (st : Nat) (pl : List Byte), r.port = .host → pl.length ≤ payloadLimit r.ver →
    ∃ x, (s.answer r st pl).tpp.host.replies = s.tpp.host.replies ++ [x] ∧ x.opcode = r.opcode ∧ x.seq = r.seq ∧ x.status = st ∧
      x.payload = pl ∧ x.ver = r.ver ∧ (s.tpp.host.auth = false → x.tag = []) ∧ (s.answer r st pl).regs = s.regs ∧
      (s.answer r st pl).tpp.queue = s.tpp.queue ∧ s.memsSame (s.answer r st pl))

/-- R398, R401, R403 to R405, R409, R419, R420 and R362. -/
def Obligations.TppPortsCarryPackets : Prop :=
  (∀ (s : State) (bs : List Byte), s.hostReady = false → s.wakes 0 = false →
    exec (.spiWriteTransfer bs) s = .next (s.setMiso 0 (List.replicate bs.length 0))) ∧
  (∀ (s : State) (bs : List Byte), s.wakes 0 = true →
    exec (.spiWriteTransfer bs) s = .next ((s.setMiso 0 (List.replicate bs.length 0)).wakeSource 0)) ∧
  (∀ (s : State) (bs : List Byte), s.hostReady = true → s.wakes 0 = false → 8 ≤ s.slotsUsed →
    ∃ t, exec (.spiWriteTransfer bs) s = .next t ∧ t.tpp.overflow = satInc max16 s.tpp.overflow ∧ t.tpp.queue = s.tpp.queue ∧
      t.tpp.host = s.tpp.host ∧ t.regs = s.regs ∧ s.memsSame t) ∧
  (∀ (s : State) (bs : List Byte), s.hostReady = true → s.wakes 0 = false → s.slotsUsed < 8 →
    (bs.length < 8 ∨ byteAt bs 0 ≠ 0xA5) →
    exec (.spiWriteTransfer bs) s = .next (s.setMiso s.spiStat (List.replicate bs.length 0))) ∧
  (∀ (s : State) (bs : List Byte), s.hostReady = true → s.wakes 0 = false → s.slotsUsed < 8 → 8 ≤ bs.length → byteAt bs 0 = 0xA5 →
    s.tpp.queue = [] → s.tppBusy = false → s.check? ⟨.host, bs, false⟩ = none →
    ∃ t, exec (.spiWriteTransfer bs) s = .next t ∧ t.tpp.queue = [⟨.host, bs, false⟩] ∧ t.tpp.host = s.tpp.host ∧
      t.tpp.miso = BitVec.ofNat 8 s.spiStat :: List.replicate bs.length 0 ∧ t.regs = s.regs ∧ s.memsSame t) ∧
  (∀ (s : State) (bs : List Byte) (e : State.CheckFail), s.hostReady = true → s.wakes 0 = false → s.slotsUsed < 8 → 8 ≤ bs.length →
    byteAt bs 0 = 0xA5 → s.tpp.queue = [] → s.tppBusy = false → s.check? ⟨.host, bs, false⟩ = some e → e.auth = false →
    ∃ t x, exec (.spiWriteTransfer bs) s = .next t ∧ t.tpp.queue = [] ∧ t.tpp.host.replies = s.tpp.host.replies ++ [x] ∧
      x.status = e.status ∧ x.payload = [] ∧ t.regs = s.regs ∧ s.memsSame t) ∧
  (∀ (s : State) (n : Nat), s.hostReady = false → s.wakes 0 = false →
    exec (.spiReadTransfer n) s = .next (s.setMiso 0 (List.replicate n 0))) ∧
  (∀ (s : State) (n : Nat), s.hostReady = true → s.wakes 0 = false → s.hostHead = none →
    exec (.spiReadTransfer n) s = .next (s.setMiso s.spiStat (List.replicate n 0))) ∧
  (∀ (s : State) (n : Nat) (x : Reply), s.hostReady = true → s.wakes 0 = false → s.hostHead = some (x, false) →
    ∃ t, exec (.spiReadTransfer n) s = .next t ∧
      t.tpp.miso = BitVec.ofNat 8 s.spiStat :: (x.bytes ++ List.replicate n 0).take n ∧
      t.tpp.host.replies = (if n < x.bytes.length then s.tpp.host.replies else s.tpp.host.replies.drop 1) ∧
      t.tpp.host.notices = s.tpp.host.notices ∧ t.tpp.queue = s.tpp.queue ∧ t.regs = s.regs ∧ s.memsSame t) ∧
  (∀ (s : State) (b : Byte), s.on Reg.UMB_STATUS_PLUG = false → exec (.serviceUartByte b) s = .next s) ∧
  (∀ (s : State) (b : Byte), s.on Reg.UMB_STATUS_PLUG = true → s.wakes 1 = false → (s.oper = .boot ∨ s.power = .sleep ∨ s.power = .dark) →
    exec (.serviceUartByte b) s = .next s) ∧
  (∀ (s : State) (b : Byte), s.on Reg.UMB_STATUS_PLUG = true → s.wakes 1 = false → s.oper ≠ .boot → s.power = .run → s.tpp.svcRx = [] →
    ∃ t, exec (.serviceUartByte b) s = .next t ∧ t.tpp.svcRx = (if b = 0xA5 then [b] else []) ∧ t.tpp.queue = s.tpp.queue ∧
      t.tpp.service = s.tpp.service ∧ t.regs = s.regs ∧ s.memsSame t) ∧
  (∀ (s : State) (b : Byte) (p : List Byte), s.on Reg.UMB_STATUS_PLUG = true → s.wakes 1 = false → s.oper ≠ .boot → s.power = .run →
    s.tpp.svcRx ++ [b] = p → byteAt p 0 = 0xA5 → 8 ≤ p.length → p.length = declared (leNat (slice p 6 2)) s.tpp.service.auth →
    packetCrcOk p = true → s.tpp.queue = [] → s.tppBusy = false → s.check? ⟨.service, p, false⟩ = none →
    ∃ t, exec (.serviceUartByte b) s = .next t ∧ t.tpp.svcRx = [] ∧ t.tpp.queue = [⟨.service, p, false⟩] ∧ t.regs = s.regs ∧ s.memsSame t) ∧
  (∀ (s : State), ∃ t, exec .serviceGapAbort s = .next t ∧ t.tpp.svcRx = [] ∧ t.tpp.queue = s.tpp.queue ∧ t.tpp.service = s.tpp.service ∧
    t.regs = s.regs ∧ s.memsSame t) ∧
  (∀ (s : State) (p : Port), s.regsOk → s.Shaped → (∀ n, p = .tunnel n → n < 8) → (s.port p).auth = true →
    ∃ t, exec (.tppSessionTimeout p) s = .next t ∧ (t.port p).auth = false ∧ (t.port p).kMac = 0 ∧ (t.port p).handshake = .none ∧
      s.raisedIn t Ev.SEC_SESSION ∧
      s.regsButEv t [Reg.SEC_SESSION_HOST, Reg.SEC_SESSION_SERVICE, Reg.SEC_SESSION_TUNNEL] ∧ s.memsSame t) ∧
  (∀ (s : State) (p : Port), (s.port p).auth = false → exec (.tppSessionTimeout p) s = .next (s.dropHandshake p)) ∧
  (∀ (s : State) (l a w0 : Nat) (bs : List Byte), (4 ≤ l ∨ s.linkRuns l = false ∨ s.rd (Reg.LINK_STATUS_VERSION l) < 0x11) →
    exec (.tunnelReceive l a w0 bs) s = .next s) ∧
  (∀ (s : State) (l a w0 : Nat) (bs : List Byte), s.Shaped → l < 4 → s.linkRuns l = true → 0x11 ≤ s.rd (Reg.LINK_STATUS_VERSION l) →
    s.rd (Reg.LINK_CFG_ROLE l) = 0 → hasBit w0 16 = false → fieldOf w0 0 16 = 0 →
    ∃ t, exec (.tunnelReceive l a w0 bs) s = .next t ∧ (t.link l).tunnel.head? = some (fieldOf w0 24 3, bs) ∧ t.tpp = s.tpp ∧
      t.regs = s.regs ∧ s.memsSame t) ∧
  (∀ (s u : State) (l a w0 n : Nat) (bs all : List Byte), s.tunnelTake l a w0 bs = (some (n, all), u) →
    (u.oper = .boot → exec (.tunnelReceive l a w0 bs) s = .next u) ∧
    (u.oper ≠ .boot → byteAt all 0 ≠ 0x5A →
      exec (.tunnelReceive l a w0 bs) s = .next (u.arrive (.tunnel n) (all.take (declared (leNat (slice all 6 2)) (u.port (.tunnel n)).auth))))) ∧
  (∀ (s : State), s.tpp.tunnelWait = [] → exec .tunnelTimeout s = .next s) ∧
  (∀ (s : State) (w : TunnelWait), s.tpp.tunnelWait = [w] → w.req.port = .host → s.tpp.queue = [] →
    ∃ t x, exec .tunnelTimeout s = .next t ∧ t.tpp.tunnelWait = [] ∧ t.tpp.host.replies = s.tpp.host.replies ++ [x] ∧ x.status = 0x0302 ∧
      x.seq = w.req.seq ∧ t.regs = s.regs ∧ s.memsSame t)

/-- R407 to R409, R425 and R438. -/
def Obligations.TppSessionsBeginAndEnd : Prop :=
  (∀ (s u : State) (r : Request), s.Heads 0x0100 r → u = (s.taken r).endSession r.port →
    min (r.byte 0) 0x23 < max (r.byte 1) 0x10 →
    exec .hello s = .next (u.replied r 0x0104 [0, 0x23, 0x10])) ∧
  (∀ (s u v : State) (r : Request), s.Heads 0x0100 r → u = (s.taken r).endSession r.port →
    max (r.byte 1) 0x10 ≤ min (r.byte 0) 0x23 → v = u.setPort r.port { u.port r.port with ver := min (r.byte 0) 0x23 } →
    ∃ fw, exec .hello s = .next (v.replied r 0 (leBytes 1 (min (r.byte 0) 0x23) ++ [0x23, 0x10] ++ leBytes 1 v.oper.code ++
      leBytes 1 v.sec.lc ++ leBytes 1 v.power.code ++ [0, 0] ++ leBytes 8 Config.serial ++ leBytes 4 fw))) ∧
  (∀ (s u : State) (r : Request), s.Heads 0x0101 r → u = s.taken r →
    exec .bye s = .next (((u.answer r 0 []).endSession r.port).pumpAll)) ∧
  (∀ (s u : State) (r : Request), s.Heads 0x0102 r → u = s.taken r → (u.port r.port).handshake ≠ .none →
    exec .keyOffer s = .next ((u.dropHandshake r.port).replied r 0x0203 [])) ∧
  (∀ (s u : State) (r : Request), s.Heads 0x0102 r → u = s.taken r → (u.port r.port).handshake = .none →
    s.on Reg.SEC_TRNG_HEALTH_OK = false → exec .keyOffer s = .next ((u.dropHandshake r.port).replied r 0x0302 [])) ∧
  (∀ (s : State) (r : Request), s.Heads 0x0102 r → (s.port r.port).handshake = .none → s.on Reg.SEC_TRNG_HEALTH_OK = true →
    r.port = .host → s.tpp.queue = [r] → r.ver ≠ 0x10 →
    ∃ t x, exec .keyOffer s = .next t ∧ t.tpp.host.handshake = .offered ∧ t.tpp.host.kemKey = Config.trng s.freeCtr ∧
      t.tpp.host.replies = s.tpp.host.replies ++ [x] ∧ x.status = 0 ∧
      x.payload = leBytes 1184 (Config.kemPublic (Config.trng s.freeCtr)) ++ leBytes 32 (Config.trng (s.freeCtr + 1)) ∧ t.regs = s.regs ∧
      s.memsSame t) ∧
  (∀ (s u : State) (r : Request), s.Heads 0x0103 r → u = s.taken r →
    ((u.port r.port).handshake ≠ .offered → exec .keyProof s = .next ((u.dropHandshake r.port).replied r 0x0203 [])) ∧
    ((u.port r.port).handshake = .offered →
      exec .keyProof s = .next ((u.setPort r.port { u.port r.port with handshake := .proved }).replied r 0
        (leBytes 3309 (Config.mldsaSign s.nv.otp.identitySeed ctxKex (u.port r.port).transcript))))) ∧
  (∀ (s u : State) (r : Request), s.Heads 0x0104 r → u = s.taken r → (u.port r.port).handshake ≠ .proved →
    exec .keyCipher s = .next ((u.dropHandshake r.port).replied r 0x0203 [])) ∧
  (∀ (s : State) (r : Request), s.Heads 0x0104 r → (s.port r.port).handshake = .proved → r.port = .host → s.tpp.queue = [r] →
    ∃ t x, exec .keyCipher s = .next t ∧ t.tpp.host.handshake = .ciphered ∧ t.tpp.host.kemKey = 0 ∧
      t.tpp.host.secret = Config.kemDecaps s.tpp.host.kemKey r.payload ∧
      t.tpp.host.transcript = leBytes 64 (Config.shake256 (s.tpp.host.transcript ++ r.payload) 64) ∧
      t.tpp.host.replies = s.tpp.host.replies ++ [x] ∧ x.status = 0 ∧ t.regs = s.regs ∧ s.memsSame t) ∧
  (∀ (s u : State) (r : Request), s.Heads 0x0105 r → u = s.taken r → (u.port r.port).handshake ≠ .ciphered →
    exec .keyOwner s = .next ((u.dropHandshake r.port).replied r 0x0203 [])) ∧
  (∀ (s u : State) (r : Request), s.Heads 0x0105 r → u = s.taken r → (u.port r.port).handshake = .ciphered → 3 < r.byte 0 →
    exec .keyOwner s = .next (u.replied r 0x0301 [])) ∧
  (∀ (s u : State) (r : Request), s.Heads 0x0105 r → u = s.taken r → (u.port r.port).handshake = .ciphered → r.byte 0 ≤ 3 →
    s.ownerKey? (r.byte 0) = none →
    exec .keyOwner s = .next (((u.flagRaise Reg.SEC_FLAGS_AUTH_FAIL Ev.SEC_SESSION).dropHandshake r.port).replied r 0x0203 [])) ∧
  (∀ (s : State) (r : Request) (k : List Byte), s.regsOk → s.Heads 0x0105 r → (s.port r.port).handshake = .ciphered → r.byte 0 ≤ 3 →
    s.ownerKey? (r.byte 0) = some k → r.port = .host → s.tpp.queue = [r] →
    ∃ t, exec .keyOwner s = .next t ∧ t.tpp.host.handshake = .none ∧ s.raisedIn t Ev.SEC_SESSION ∧
      s.memsSame t ∧
      (Config.mldsaVerify k ctxOwner (s.port r.port).transcript (r.payload.drop 4) = true →
        t.tpp.host.auth = true ∧ t.tpp.host.owner = r.byte 0 ∧ t.tpp.host.lastSeq = r.seq ∧ t.on Reg.SEC_SESSION_HOST = true ∧
        s.regsButEv t [Reg.SEC_SESSION_HOST, Reg.SEC_SESSION_SERVICE, Reg.SEC_SESSION_TUNNEL]) ∧
      (Config.mldsaVerify k ctxOwner (s.port r.port).transcript (r.payload.drop 4) = false →
        t.on Reg.SEC_FLAGS_AUTH_FAIL = true ∧ t.tpp.host.auth = s.tpp.host.auth ∧ s.regsButEv t [Reg.SEC_FLAGS_AUTH_FAIL]))

/-- R411 to R417 and R377. -/
def Obligations.TppRecordsAreStagedAndCommitted : Prop :=
  (∀ (c : Instr) (op : Nat) (k : RecordKind) (s u : State) (r : Request),
    (c, op, k) ∈ [(Instr.bdrWrite, 0x0200, RecordKind.bdr), (Instr.gprWrite, 0x0300, RecordKind.gpr), (Instr.sprWrite, 0x0600, RecordKind.spr)] →
    s.Heads op r → u = s.taken r →
    ((r.word 0 % 4 ≠ 0 ∨ State.recordMax k < r.word 0 + (r.payload.drop 4).length) → exec c s = .next (u.replied r 0x0301 [])) ∧
    (r.word 0 % 4 = 0 → r.word 0 + (r.payload.drop 4).length ≤ State.recordMax k → s.stageOther k r.port = true →
      exec c s = .next (u.replied r 0x0302 [])) ∧
    (r.word 0 % 4 = 0 → r.word 0 + (r.payload.drop 4).length ≤ State.recordMax k → s.stageOther k r.port = false →
      exec c s = .next ((u.setStage k (State.Staging.put (s.stage k) r.port (r.word 0) (r.payload.drop 4))).replied r 0 []))) ∧
  (∀ (g : Staging) (p : Port) (data : List Byte), g.bytes = [] → g.missing = [] → data.length % 4 = 0 →
    State.Staging.put g p 0 data = ⟨some p, data, []⟩) ∧
  (∀ (c : Instr) (op : Nat) (k : RecordKind) (s u : State) (r : Request),
    (c, op, k) ∈ [(Instr.bdrCommit, 0x0201, RecordKind.bdr), (Instr.gprCommit, 0x0301, RecordKind.gpr), (Instr.sprCommit, 0x0601, RecordKind.spr)] →
    s.Heads op r → u = s.taken r →
    (s.stageOther k r.port = true → exec c s = .next (u.replied r 0x0302 [])) ∧
    (s.stageOther k r.port = false → ((s.stage k).owner = none ∨ r.word 0 ≠ (s.stage k).bytes.length ∨ (s.stage k).missing ≠ [] ∨
        r.word 1 ≠ crc crc32c (s.stage k).bytes) → exec c s = .next ((u.setStage k {}).replied r 0x0301 []))) ∧
  (∀ (s u : State) (r : Request) (bs : List Byte), s.Heads 0x0201 r → u = s.taken r → s.stageOther .bdr r.port = false →
    s.tpp.bdrStage.owner = some r.port → s.tpp.bdrStage.bytes = bs → s.tpp.bdrStage.missing = [] → r.word 0 = bs.length →
    r.word 1 = crc crc32c bs →
    (∀ (e : RecErr), u.bdrRun bs = .refused e →
      exec .bdrCommit s = .next ((u.setStage .bdr {}).replied r 0x0301 (leBytes 4 e.off ++ leBytes 4 e.idx))) ∧
    (∀ (w : State), u.bdrRun bs = .waits w → exec .bdrCommit s = .next (w.putBack r (s.port r.port).lastSeq)) ∧
    (∀ (e : RecErr) (w : State), u.bdrRun bs = .failed e w →
      exec .bdrCommit s = .next (((w.setStage .bdr {}).bdrFallback).replied r 0x0301 (leBytes 4 e.off ++ leBytes 4 e.idx))) ∧
    (∀ (w : State), u.bdrRun bs = .applied w → ∃ v : State, exec .bdrCommit s = .next (v.replied r 0 (leBytes 4 (2 ^ 32 - 1) ++ leBytes 4 (2 ^ 32 - 1))) ∧
      v.tpp.bdr = bs ∧ v.tpp.bdrStage = {} ∧ v.nv.bdr = (if hasBit (r.word 2) 0 then bs else w.nv.bdr))) ∧
  (∀ (s : State) (bs : List Byte), bs.length < 20 → s.bdrRun bs = .refused ⟨0, 2 ^ 32 - 1⟩) ∧
  (∀ (s u : State) (r : Request) (bs : List Byte), s.Heads 0x0301 r → u = s.taken r → s.stageOther .gpr r.port = false →
    s.tpp.gprStage.owner = some r.port → s.tpp.gprStage.bytes = bs → s.tpp.gprStage.missing = [] → r.word 0 = bs.length →
    r.word 1 = crc crc32c bs →
    (s.on Reg.GS_STATUS_PROF_PEND = true → exec .gprCommit s = .next (u.replied r 0x0302 [])) ∧
    (s.on Reg.GS_STATUS_PROF_PEND = false →
      (∀ (e : RecErr), u.gprRun bs = .bad e →
        exec .gprCommit s = .next ((u.setStage .gpr {}).replied r 0x0301 (leBytes 4 e.off ++ leBytes 4 e.idx))) ∧
      (∀ (w : State), u.gprRun bs = .good w → ∃ v : State,
        exec .gprCommit s = .next (v.replied r 1 (leBytes 4 (2 ^ 32 - 1) ++ leBytes 4 (2 ^ 32 - 1))) ∧ v.tpp.gprPending = some bs ∧
        v.tpp.gprStage = {} ∧ v.nv.gpr = (if hasBit (r.word 2) 0 then bs else w.nv.gpr)))) ∧
  (∀ (s u : State) (r : Request) (bs : List Byte) (ok : Bool) (w : State), s.Heads 0x0601 r → u = s.taken r → s.stageOther .spr r.port = false →
    s.tpp.sprStage.owner = some r.port → s.tpp.sprStage.bytes = bs → s.tpp.sprStage.missing = [] → r.word 0 = bs.length →
    r.word 1 = crc crc32c bs → (u.setStage .spr {}).sprLoad (wordsOf bs) = (ok, w) →
    (ok = false → exec .sprCommit s = .next (w.replied r 0x0301 [])) ∧
    (ok = true → ∃ v : State, exec .sprCommit s = .next (v.replied r 0 (leBytes 4 (wordAt bs 252))) ∧ v.safety = w.safety ∧
      v.oper = (if w.oper = .described ∨ w.oper = .standby then .commissioning else w.oper))) ∧
  (∀ (c : Instr) (op : Nat) (bytes : List Byte) (s u : State) (r : Request),
    (c, op, bytes) ∈ [(Instr.bdrRead, 0x0202, s.tpp.bdr), (Instr.gprRead, 0x0302, s.tpp.gpr), (Instr.certRead, 0x0704, s.certBytes)] →
    s.Heads op r → u = s.taken r →
    ((4088 < r.word 1 ∨ bytes.length < r.word 0 + r.word 1) → exec c s = .next (u.replied r 0x0301 [])) ∧
    (r.word 1 ≤ 4088 → r.word 0 + r.word 1 ≤ bytes.length → exec c s = .next (u.replied r 0 (slice bytes (r.word 0) (r.word 1)))))

/-- R411, R417 and R418; mapped opcodes submit while a pair is active (R46). -/
def Obligations.TppOperatesTheModule : Prop :=
  (∀ (s u : State) (r : Request), s.Heads 0x0400 r → u = s.taken r → s.power = .watch → exec .connect s = .next (u.replied r 0x0201 [])) ∧
  (∀ (s : State) (r : Request), s.Heads 0x0400 r → s.power ≠ .watch → s.tpp.queue = [r] → r.port = .host →
    ∃ t x, exec .connect s = .next t ∧ t.tpp.connectWanted = true ∧ t.oper = (if s.oper = .standby then .syncing else s.oper) ∧
      (s.oper = .standby → t.tpp.connect = s.tpp.connectNext) ∧ t.tpp.host.replies = s.tpp.host.replies ++ [x] ∧ x.status = 0 ∧
      t.regs = s.regs ∧ s.memsSame t) ∧
  (∀ (s : State) (r : Request), s.Heads 0x0401 r → s.tpp.queue = [r] → r.port = .host →
    ∃ t x, exec .disconnect s = .next t ∧ t.tpp.connectWanted = false ∧
      t.oper = (if s.oper = .syncing ∨ s.oper = .connected then .standby else s.oper) ∧
      t.tpp.disc = (if s.oper = .connected then .gsStop else s.tpp.disc) ∧ t.tpp.host.replies = s.tpp.host.replies ++ [x] ∧ x.status = 0 ∧
      t.regs = s.regs ∧ s.memsSame t) ∧
  (∀ (s : State), (s.oper ≠ .syncing ∨ s.windowInside = false ∨ s.rd Reg.RECONNECT_SEC ≠ 0) → exec .syncWindowMet s = .next s) ∧
  (∀ (s : State), s.oper = .syncing → s.windowInside = true → s.orbState = State.orbLocked → s.rd Reg.RECONNECT_SEC = 0 →
    ∃ t, exec .syncWindowMet s = .next t ∧ t.oper = .connected ∧ (s.safeState ≠ State.safeOpen → t.regs = s.regs) ∧ s.memsSame t) ∧
  (∀ (s : State), s.regsOk → s.oper = .syncing → s.windowInside = true → s.orbState = State.orbFollow → s.rd Reg.RECONNECT_SEC = 0 →
    s.safeState = State.safeOpen → s.sf4Active = false → s.safeFaultPresent = false → s.rd Reg.HSL_WIN_GRID = 0 → s.rd Reg.HSL_WIN_AW = 0 →
    s.safety.pre = none → s.on Reg.SAFE_STATE_NO_FB = false →
    ∃ t, exec .syncWindowMet s = .next t ∧ t.oper = .connected ∧ t.safeState = State.safeClosing ∧ s.memsSame t) ∧
  (∀ (s : State), (s.oper ≠ .syncing ∨ s.tpp.connect.timeoutS = 0) → exec .syncTimeout s = .next s) ∧
  (∀ (s : State), s.oper = .syncing → s.tpp.connect.timeoutS ≠ 0 → s.tpp.connectNext.autoReconnect = false →
    exec .syncTimeout s = .next { s with oper := .standby }) ∧
  (∀ (s : State), s.tpp.disc ≠ .gsStop → exec .disconnectGsStop s = .next s) ∧
  (∀ (s : State), s.tpp.disc = .gsStop →
    ∃ t, exec .disconnectGsStop s = .next t ∧ t.tpp.disc = .pwmSafe 2 ∧ t.regs = (s.gsAct State.gsDisable).regs ∧ t.oper = s.oper ∧
      t.sram = (s.gsAct State.gsDisable).sram ∧ t.capture = s.capture ∧ t.tcmA = s.tcmA ∧ t.tcmB = s.tcmB ∧ t.mcMem = s.mcMem ∧ t.scMem = s.scMem) ∧
  (∀ (s : State), (s.tpp.disc = .none ∨ s.tpp.disc = .gsStop) → exec .disconnectPwmSafe s = .next s) ∧
  (∀ (s : State) (n : Nat), s.regsOk → s.tpp.disc = .pwmSafe n →
    ∃ t, exec .disconnectPwmSafe s = .next t ∧ t.tpp.disc = .none ∧ t.pwmLatched = true ∧
      ((s.safeState = State.safeClosing ∨ s.safeState = State.safeClosed) → t.relaysOpen = true ∧ s.raisedIn t Ev.SAFE_OPEN) ∧ s.memsSame t) ∧
  (∀ (c : Instr) (op idx : Nat) (s u : State) (r : Request),
    (c, op, idx) ∈ [(Instr.setP, 0x0402, 2), (Instr.curtail, 0x0404, 4)] → s.Heads op r → u = s.taken r →
    (F32.inRange (r.word 0) 0 s.sRated = false → exec c s = .next (u.replied r 0x0301 [])) ∧
    (F32.inRange (r.word 0) 0 s.sRated = true → s.power = .watch → exec c s = .next (u.replied r 0x0201 [])) ∧
    (F32.inRange (r.word 0) 0 s.sRated = true → s.power ≠ .watch →
      exec c s = .next ((u.mcSubmit ⟨2 + 2 ^ 16 * idx, r.word 0, 0, 0⟩).replied r 1 []))) ∧
  (∀ (s u : State) (r : Request), s.Heads 0x0403 r → u = s.taken r →
    (F32.inRange (r.word 0) (F32.neg s.sRated) s.sRated = false → exec .setQ s = .next (u.replied r 0x0301 [])) ∧
    (F32.inRange (r.word 0) (F32.neg s.sRated) s.sRated = true → s.power ≠ .watch →
      exec .setQ s = .next ((u.mcSubmit ⟨2 + 2 ^ 16 * 3, r.word 0, 0, 0⟩).replied r 1 []))) ∧
  (∀ (s u : State) (r : Request), s.Heads 0x0407 r → u = s.taken r →
    ((r.byte 0 < 6 ∨ 47 < r.byte 0) → exec .setpoint s = .next (u.replied r 0x0301 [])) ∧
    (6 ≤ r.byte 0 → r.byte 0 ≤ 47 → s.power ≠ .watch →
      exec .setpoint s = .next ((u.mcSubmit ⟨2 + 2 ^ 16 * r.byte 0, r.word 1, 0, 0⟩).replied r 1 []))) ∧
  (∀ (s u : State) (r : Request), s.Heads 0x0405 r → u = s.taken r →
    (fieldOf (r.word 0) 1 2 = 3 → exec .mode s = .next (u.replied r 0x0301 [])) ∧
    (fieldOf (r.word 0) 1 2 ≠ 3 → s.cpRun = true →
      exec .mode s = .next ((u.mcSubmit ⟨1, 0x40008000, r.word 0, 0xFFE⟩).replied r 1 [])) ∧
    (fieldOf (r.word 0) 1 2 ≠ 3 → s.cpRun = false →
      exec .mode s = .next ((u.gsRegWrite 0x40008000 (r.word 0) 0xFFE).replied r 0 []))) ∧
  (∀ (s u : State) (r : Request), s.Heads 0x0406 r → u = s.taken r →
    exec .status s = .next (u.replied r 0 (leBytes 1 s.oper.code ++ leBytes 1 s.safeState ++ leBytes 1 s.power.code ++ leBytes 1 s.sec.lc ++
      leBytes 1 s.gsState ++ leBytes 1 (b2n s.tpp.connectWanted + 2 * b2n s.tpp.gprActive + 4 * b2n s.safety.confirmed + 8 * b2n (s.port r.port).auth) ++
      leBytes 2 s.tpp.overflow ++ bytesOf (s.cross.lastDigest.take 16))))

/-- R390 to R397, R317 to R336, R417 and R440. -/
def Obligations.TppServesSafetyAndMetering : Prop :=
  (∀ (s u : State) (r : Request), s.Heads 0x0602 r → u = s.taken r →
    ((s.safeState ≠ State.safePending ∨ r.word 0 ≠ s.sprWord 63) → exec .sprConfirm s = .next (u.replied r 0x0301 []))) ∧
  (∀ (s : State) (r : Request), s.regsOk → s.Heads 0x0602 r → s.safeState = State.safePending → r.word 0 = s.sprWord 63 → s.tpp.queue = [r] →
    r.port = .host →
    ∃ t, exec .sprConfirm s = .next t ∧ t.safety.winOpened = true ∧ t.on Reg.SAFE_STATE_CONFIRM_WIN = true ∧
      s.raisedIn t Ev.SAFE_COMMISSION ∧ s.regsButEv t [Reg.SAFE_STATE_CONFIRM_WIN] ∧ s.memsSame t) ∧
  (∀ (s u w : State) (r : Request), s.Heads 0x0603 r → u = s.taken r →
    (u.safetyReset = (false, w) → exec .safetyReset s = .next (u.replied r 0x0201 [])) ∧
    (u.safetyReset = (true, w) → exec .safetyReset s = .next (w.replied r 0 []))) ∧
  (∀ (s : State), (s.resetDemand = true ∨ s.safeFaultPresent = true ∨ s.safety.pre.isSome = true ∨
    (s.safeState ≠ State.safeOpen ∧ s.safeState ≠ State.safeLatched)) → s.safetyReset = (false, s)) ∧
  (∀ (s u : State) (r : Request), s.Heads 0x0604 r → u = s.taken r →
    exec .safetyStatus s = .next (u.replied r 0 (bytesOf ((List.range 11).map fun i => u.readWord (0x400E0000 + 4 * i))))) ∧
  (∀ (s u : State) (r : Request), s.Heads 0x0605 r → u = s.taken r →
    (3 < r.byte 0 → exec .pduPut s = .next (u.replied r 0x0301 [])) ∧
    (r.byte 0 ≤ 3 → exec .pduPut s = .next ((u.pduJudge (some (r.byte 0)) (r.payload.drop 4)).replied r 0 []))) ∧
  (∀ (s u : State) (r : Request), s.Heads 0x0606 r → u = s.taken r → (∀ c, c < 4 → hasBit (s.rd (Reg.PDU_HOSTTX_WORD (16 * c))) 0 = false) →
    exec .pduGet s = .next (u.replied r 0 [])) ∧
  (∀ (s u : State) (r : Request), s.Heads 0x0500 r → u = s.taken r →
    (7 < r.byte 0 → exec .meterRead s = .next (u.replied r 0x0301 [])) ∧
    (r.byte 0 ≤ 7 → exec .meterRead s = .next (u.replied r 0
      ((List.range 8).flatMap (fun i => leBytes 8 (s.meAcc (8 * r.byte 0 + i))) ++
        (List.range 8).flatMap (fun i => leBytes 1 (s.rd (State.meWrapFld (8 * r.byte 0 + i)))) ++ leBytes 4 (s.rd Reg.ME_GCOUNT_COUNT))))) ∧
  (∀ (s u : State) (r : Request), s.Heads 0x0501 r → u = s.taken r →
    (s.cpRun = true → exec .meterSnapshot s = .next ((u.mcSubmit ⟨1, 0x4006000C, 1, 1⟩).replied r 1 [])) ∧
    (s.cpRun = false → exec .meterSnapshot s = .next ((u.meWrite 0x4006000C 1 1).replied r 0 []))) ∧
  (∀ (s u : State) (r : Request), s.Heads 0x0502 r → u = s.taken r →
    (7 < r.byte 0 → exec .meterSnapRead s = .next (u.replied r 0x0301 [])) ∧
    (r.byte 0 ≤ 7 → s.on Reg.ME_STATUS_SNAP_READY = false → exec .meterSnapRead s = .next (u.replied r 0x0302 [])) ∧
    (r.byte 0 ≤ 7 → s.on Reg.ME_STATUS_SNAP_READY = true → exec .meterSnapRead s = .next (u.replied r 0 (bytesOf
      ((List.range 16).map (fun i => s.rd (Reg.ME_SNAP_WORD (16 * r.byte 0 + i))) ++
        [s.rd (Reg.ME_SNAP_WORD (128 + 2 * r.byte 0)), s.rd (Reg.ME_SNAP_WORD (129 + 2 * r.byte 0)), s.rd Reg.ME_SNAP_GCOUNT_COUNT,
         s.rd Reg.ME_SNAP_SEC_SEC]))))) ∧
  (∀ (s u : State) (r : Request), s.Heads 0x0503 r → u = s.taken r →
    exec .meterInterval s = .next (u.replied r 0 (bytesOf (u.readWords 0x40061400 4 ++ u.readWords 0x40061500 64)))) ∧
  (∀ (s u : State) (r : Request), s.Heads 0x0504 r → u = s.taken r →
    (3 < r.byte 0 → exec .meterInst s = .next (u.replied r 0x0301 [])) ∧
    (r.byte 0 ≤ 3 → exec .meterInst s = .next (u.replied r 0 (bytesOf ((List.range 9).map fun j => s.rd (Reg.ME_INST_VALUE (r.byte 0) j)))))) ∧
  (∀ (s u : State) (r : Request), s.Heads 0x0505 r → u = s.taken r →
    ((r.word 0 < 0x40 ∨ 0x10C < r.word 0 ∨ r.word 0 % 4 ≠ 0 ∨ s.on Reg.ME_CTRL_CAL_LOCK = true) →
      exec .meterCal s = .next (u.replied r 0x0301 [])) ∧
    (0x40 ≤ r.word 0 → r.word 0 ≤ 0x10C → r.word 0 % 4 = 0 → s.on Reg.ME_CTRL_CAL_LOCK = false → s.cpRun = true →
      exec .meterCal s = .next ((u.mcSubmit ⟨1, 0x40060000 + r.word 0, r.word 1, 2 ^ 32 - 1⟩).replied r 1 [])) ∧
    (0x40 ≤ r.word 0 → r.word 0 ≤ 0x10C → r.word 0 % 4 = 0 → s.on Reg.ME_CTRL_CAL_LOCK = false → s.cpRun = false →
      exec .meterCal s = .next ((u.meWrite (0x40060000 + r.word 0) (r.word 1) (2 ^ 32 - 1)).replied r 0 []))) ∧
  (∀ (s u : State) (r : Request), s.Heads 0x0506 r → u = s.taken r → s.cpRun = false →
    ∃ w : State, w = u.meWrite 0x40060000 2 2 ∧ exec .meterCalLock s = .next (w.replied r 0 (leBytes 4 (w.rd Reg.ME_CAL_CRC_CRC)))) ∧
  (∀ (s u : State) (r : Request), s.Heads 0x0703 r → u = s.taken r →
    exec .attest s = .next (u.replied r 0 (u.attest r.payload)))

/-- R406, R417, R420, R47, R344, R370, R373, R464 and R470. -/
def Obligations.TppReadsAndSets : Prop :=
  (∀ (s u : State) (r : Request), s.Heads 0x0803 r → u = s.taken r →
    ((r.word 0 % 4 ≠ 0 ∨ r.word 1 < 1 ∨ 1023 < r.word 1 ∨ ∃ i, i < r.word 1 ∧ (State.windowOf (r.word 0 + 4 * i) = .outside ∨
        State.readActs (r.word 0 + 4 * i) = true)) → exec .regRead s = .next (u.replied r 0x0301 [])) ∧
    (r.word 0 % 4 = 0 → 1 ≤ r.word 1 → r.word 1 ≤ 1023 → (∀ i, i < r.word 1 → State.windowOf (r.word 0 + 4 * i) ≠ .outside ∧
        State.readActs (r.word 0 + 4 * i) = false ∧ State.windowOf (r.word 0 + 4 * i) ≠ .umbra) →
      exec .regRead s = .next (u.replied r 0 (bytesOf (u.readWords (r.word 0) (r.word 1)))))) ∧
  (∀ (s u : State) (r : Request), s.Heads 0x0804 r → u = s.taken r →
    (entryOk s false (r.word 0, r.word 1, r.word 2) = false → exec .regWrite s = .next (u.replied r 0x0301 [])) ∧
    (entryOk s false (r.word 0, r.word 1, r.word 2) = true → s.cpRun = true →
      exec .regWrite s = .next ((u.mcSubmit ⟨1, r.word 0, r.word 1, r.word 2⟩).replied r 1 [])) ∧
    (entryOk s false (r.word 0, r.word 1, r.word 2) = true → s.cpRun = false →
      exec .regWrite s = .next ((u.regWrite .mc (r.word 0) (r.word 1) (r.word 2)).replied r 0 []))) ∧
  (∀ (s u : State) (r : Request), s.Heads 0x0900 r → u = s.taken r →
    (3 < r.byte 0 → exec .linkStatus s = .next (u.replied r 0x0301 [])) ∧
    (r.byte 0 ≤ 3 → exec .linkStatus s = .next (u.replied r 0 (bytesOf (u.readWords (0x40090104 + 0x40 * r.byte 0) 2 ++
      u.readWords (0x40090120 + 0x40 * r.byte 0) 5 ++ (List.range 4).map fun k => u.readWord (0x40090304 + 0x40 * k)))))) ∧
  (∀ (s u : State) (r : Request), s.Heads 0x0901 r → u = s.taken r →
    ((3 < r.word 0 ∨ 5 < r.word 1 ∨ 3 < r.word 2 ∨ 1 < r.word 3 ∨ r.word 4 < 1 ∨ 10000 < r.word 4 ∨ (r.word 1 = 5 ∧ r.ver < 0x23)) →
      exec .linkTest s = .next (u.replied r 0x0301 []))) ∧
  (∀ (s u : State) (r : Request), s.Heads 0x0901 r → u = s.taken r → r.word 0 ≤ 3 → r.word 1 ≤ 4 → r.word 2 ≤ 3 → r.word 3 ≤ 1 →
    1 ≤ r.word 4 → r.word 4 ≤ 10000 →
    ∃ t, exec .linkTest s = .next t ∧ t.tpp.linkTest = some ⟨r, r.word 0⟩ ∧ t.tppBusy = true ∧
      t.regs = (u.mcWrite (0x40090300 + 0x40 * r.word 0, 2 ^ 6 * r.word 2 + 2 ^ 8 * r.word 1 + 2 ^ 11 * r.word 3,
        State.laneTestMask (r.word 0))).regs) ∧
  (∀ (s : State), s.tpp.linkTest = none → exec .linkTestEnd s = .next s) ∧
  (∀ (s u : State) (w : LinkTestWait), s.tpp.linkTest = some w → u = { s with tpp := { s.tpp with linkTest := none } } →
    exec .linkTestEnd s = .next ((u.mcWrite (0x40090300 + 0x40 * w.lane, 0,
      (Reg.LANE_CFG_LOOP w.lane).mask + (Reg.LANE_CFG_PAT w.lane).mask)).replied w.req 0 (leBytes 4 (s.rd (Reg.LANE_PAT_ERR_COUNT w.lane))))) ∧
  (∀ (s u : State) (r : Request), s.Heads 0x0902 r → u = s.taken r →
    (15 < r.word 0 → exec .linkRetrain s = .next (u.replied r 0x0301 [])) ∧
    (r.word 0 ≤ 15 → s.cpRun = true → exec .linkRetrain s = .next ((u.mcSubmit ⟨1, 0x4009000C, r.word 0, 0xF⟩).replied r 1 [])) ∧
    (r.word 0 ≤ 15 → s.cpRun = false → exec .linkRetrain s = .next ((u.cmtWrite .mc 0x4009000C (r.word 0) 0xF).replied r 0 []))) ∧
  (∀ (s u : State) (r : Request), s.Heads 0x0903 r → u = s.taken r →
    ((7 < r.byte 0 ∨ r.byte 0 = s.rd Reg.COMET_MODULE_NUM) → exec .tunnel s = .next (u.replied r 0x0301 []))) ∧
  (∀ (s u : State) (r : Request), s.Heads 0x0903 r → u = s.taken r → r.byte 0 ≤ 7 → r.byte 0 ≠ s.rd Reg.COMET_MODULE_NUM →
    ∃ t, exec .tunnel s = .next t ∧ t.tpp.tunnelWait = [⟨r, r.byte 0⟩] ∧ t.tppBusy = true ∧
      t.tpp.tunnelTx.head? = some (r.byte 0, r.payload.drop 4) ∧ t.regs = s.regs ∧ s.memsSame t) ∧
  (∀ (s u : State) (r : Request), s.Heads 0x0A00 r → u = s.taken r →
    ((leNat (slice r.payload 2 2) < 1 ∨ 255 < leNat (slice r.payload 2 2)) → exec .logRead s = .next (u.replied r 0x0301 [])) ∧
    (1 ≤ leNat (slice r.payload 2 2) → leNat (slice r.payload 2 2) ≤ 255 →
      exec .logRead s = .next (u.replied r 0 (((List.range (leNat (slice r.payload 2 2))).filterMap fun i =>
        s.logFind ((leNat (slice r.payload 0 2) + i) % 65536)).flatMap State.recBytes)))) ∧
  (∀ (s u : State) (r : Request), s.Heads 0x0A01 r → u = s.taken r →
    exec .logInfo s = .next (u.replied r 0 (bytesOf [s.rd Reg.UMB_LOG_HEAD_COUNT, s.rd Reg.UMB_LOG_OLDEST_SEQ, s.rd Reg.UMB_LOG_HEAD_NEWEST,
      s.rd Reg.UMB_OUTAGE_COUNT, s.rd Reg.UMB_STATUS_TIME_UNKNOWN]))) ∧
  (∀ (s u : State) (r : Request), s.Heads 0x0A02 r → u = s.taken r →
    exec .timeSet s = .next ((u.umbWrite .mc 0x400F0014 fun v => v.timeSet (r.word 0)).replied r 0 [])) ∧
  (∀ (s u : State) (r : Request), s.Heads 0x0A03 r → u = s.taken r →
    exec .timeGet s = .next (u.replied r 0 (bytesOf [s.rd Reg.UMB_SECONDS_SEC, s.rd Reg.UMB_STATUS_TIME_UNKNOWN]))) ∧
  (∀ (s u : State) (r : Request), s.Heads 0x0A04 r → u = s.taken r →
    exec .notifyCfg s = .next ((u.setPort r.port { u.port r.port with mask := leNat r.payload }).replied r 0 [])) ∧
  (∀ (s u : State) (r : Request), s.Heads 0x0C01 r → u = s.taken r →
    exec .powerStatus s = .next (u.replied r 0 (bytesOf [s.power.code, u.readWord 0x400D0024])))

/-- R432, R441 to R445, R411, R417, R159, R165, R166, R488 and R492. -/
def Obligations.TppMaintainsTheModule : Prop :=
  (∀ (s u : State) (r : Request), s.Heads 0x0700 r → u = s.taken r →
    ((3 < r.byte 0 ∨ 1 < r.byte 1 ∨ State.slotSize (r.byte 0) < r.word 1 + (r.payload.drop 8).length ∨ s.runningSlot? (r.byte 0) = some (r.byte 1)) →
      exec .imageWrite s = .next (u.replied r 0x0301 [])) ∧
    (r.byte 0 ≤ 3 → r.byte 1 ≤ 1 → r.word 1 + (r.payload.drop 8).length ≤ State.slotSize (r.byte 0) → s.runningSlot? (r.byte 0) ≠ some (r.byte 1) →
      exec .imageWrite s = .next ((u.imageWrite (r.byte 0) (r.byte 1) (r.word 1) (r.payload.drop 8)).replied r 0 []))) ∧
  (∀ (s u : State) (r : Request), s.Heads 0x0701 r → u = s.taken r →
    ((3 < r.byte 0 ∨ 1 < r.byte 1 ∨ State.slotSize (r.byte 0) < r.word 1) → exec .imageCommit s = .next (u.replied r 0x0301 [])) ∧
    (r.byte 0 ≤ 3 → r.byte 1 ≤ 1 → r.word 1 ≤ State.slotSize (r.byte 0) →
      ∃ v : State, exec .imageCommit s = .next (v.replied r 0 (leBytes 4 (s.imageCode (r.byte 0) (r.byte 1)))) ∧
        (2 * r.byte 0 + r.byte 1 ∈ v.nv.committed ↔ s.imageCode (r.byte 0) (r.byte 1) = 0) ∧ v.nv.flash = s.nv.flash)) ∧
  (∀ (s u : State) (r : Request), s.Heads 0x0702 r → u = s.taken r →
    ((3 < r.byte 0 ∨ 1 < r.byte 1 ∨ 2 * r.byte 0 + r.byte 1 ∉ s.nv.committed) → exec .imageActivate s = .next (u.replied r 0x0301 [])) ∧
    (s.Shaped → r.byte 0 ≤ 3 → r.byte 1 ≤ 1 → 2 * r.byte 0 + r.byte 1 ∈ s.nv.committed →
      ∃ v : State, exec .imageActivate s = .next (v.replied r 0 []) ∧ nth v.nv.trial (r.byte 0) none = some (r.byte 1) ∧
        v.nv.active = s.nv.active ∧ v.nv.flash = s.nv.flash)) ∧
  (∀ (s u : State) (r : Request) (b : Option Nat), s.Heads 0x0705 r → u = s.taken r →
    (u.tokenFragment r.port r.payload = .busy → exec (.lcToken b) s = .next (u.replied r 0x0302 [])) ∧
    (u.tokenFragment r.port r.payload = .bad → exec (.lcToken b) s = .next (u.replied r 0x0301 [])) ∧
    (∀ (w : State), u.tokenFragment r.port r.payload = .more w → exec (.lcToken b) s = .next (w.replied r 0 (leBytes 1 s.sec.lc))) ∧
    (∀ (w : State) (t : List Byte), u.tokenFragment r.port r.payload = .token w t → byteAt t 3 = 1 →
      exec (.lcToken none) s = .next (match w.lcToken? t none with
        | some v => v.replied r 0 (leBytes 1 v.sec.lc)
        | none => (w.flagRaise Reg.SEC_FLAGS_TOKEN_REFUSED Ev.SEC_LC).replied r 0x0301 []) ∧
      (∀ v, w.lcToken? t none = some v → v.sec.lc = byteAt t 5))) ∧
  (∀ (s u : State) (r : Request), s.Heads 0x0706 r → u = s.taken r →
    (u.tokenFragment r.port r.payload = .busy → exec .debugToken s = .next (u.replied r 0x0302 [])) ∧
    (u.tokenFragment r.port r.payload = .bad → exec .debugToken s = .next (u.replied r 0x0301 [])) ∧
    (∀ (w : State), u.tokenFragment r.port r.payload = .more w → exec .debugToken s = .next (w.replied r 0 [])) ∧
    (∀ (w : State) (t : List Byte), u.tokenFragment r.port r.payload = .token w t →
      exec .debugToken s = .next (match w.debugToken? t with
        | some v => v.replied r 0 []
        | none => (w.flagRaise Reg.SEC_FLAGS_TOKEN_REFUSED Ev.SEC_LC).replied r 0x0301 []))) ∧
  (∀ (s u : State) (r : Request) (a : List (Int × Int × Int)) (b : List Nat) (c : List LegacyResult) (d : List Bool), s.Heads 0x0800 r →
    u = s.taken r →
    (15 < r.word 0 → exec (.selftest a b c d) s = .next (u.replied r 0x0301 [])) ∧
    (r.word 0 = 0 → exec (.selftest a b c d) s = .next (u.replied r 0 [0, 0, 0, 0])) ∧
    (r.word 0 = 4 → s.on Reg.PWM_SAFE_STATUS_LATCHED = false → exec (.selftest a b c d) s = .next (u.replied r 0 [4, 0, 0, 0])) ∧
    (r.word 0 = 2 → (∀ n, n < 6 → s.legState n = State.legUnused) → exec (.selftest a b c d) s = .next (u.replied r 0 [0, 0, 0, 0]))) ∧
  (∀ (s u : State) (r : Request), s.Heads 0x0801 r → u = s.taken r →
    (63 < r.byte 0 → exec .drvClear s = .next (u.replied r 0x0301 [])) ∧
    (∀ n, n < 6 → r.byte 0 = 2 ^ n → s.cpRun = false →
      exec .drvClear s = .next ((u.drvWrite .mc (0x4002014C + 0x80 * n) 1 1).replied r 0
        (leBytes 4 (if s.legState n = State.legLatched ∧ (s.legPresent n = true ∨ s.on (Reg.DRV_STATE_LINK_OK n) = false) then 2 ^ n else 0))))) ∧
  (∀ (s u : State) (r : Request), s.Heads 0x0802 r → u = s.taken r →
    (s.faultCauses ≠ 0 → exec .faultClear s = .next (u.replied r 0 (leBytes 4 s.faultCauses))) ∧
    (s.faultCauses = 0 → ∃ v : State, exec .faultClear s = .next (v.replied r 0 [0, 0, 0, 0]) ∧ v.oper = s.restState ∧
      v.safety.sf2Hold = false ∧ v.regs = s.regs ∧ s.memsSame v)) ∧
  (∀ (s u : State) (r : Request), s.Heads 0x0B00 r → u = s.taken r →
    ((1 < r.byte 0 ∨ 3 < r.byte 1 ∨ 3 < r.byte 2 ∨ 65535 < r.word 5) → exec .inject s = .next (u.replied r 0x0301 [])) ∧
    (r.byte 0 ≤ 1 → r.byte 1 ≤ 3 → r.byte 2 < 3 → r.word 5 ≤ 65535 → s.cpRun = true →
      ∃ v : State, exec .inject s = .next ((v.mcSubmit ⟨1, State.leBase (r.byte 0) + 0x300 + 4 * r.byte 1, 1 + 2 ^ 16 * r.word 5,
        1 + 2 ^ 16 * 65535⟩).replied r 1 []) ∧ v.regs = s.regs ∧ s.memsSame v)) ∧
  (∀ (s u : State) (r : Request), s.Heads 0x0B01 r → u = s.taken r →
    ((1 < r.byte 0 ∨ 15 < r.byte 1) → exec .captureCfg s = .next (u.replied r 0x0301 [])) ∧
    (r.byte 0 ≤ 1 → r.byte 1 ≤ 15 → s.cpRun = false →
      exec .captureCfg s = .next (((((u.leWrite (State.leBase (r.byte 0) + 0x200 + 16 * r.byte 1 + 4) (r.word 2) (2 ^ 32 - 1)).mcWrite
        (State.leBase (r.byte 0) + 0x200 + 16 * r.byte 1 + 8, r.word 3, 2 ^ 32 - 1)).mcWrite
        (State.leBase (r.byte 0) + 0x200 + 16 * r.byte 1 + 12, r.word 4, 2 ^ 32 - 1)).mcWrite
        (State.leBase (r.byte 0) + 0x200 + 16 * r.byte 1, r.word 1, 2 ^ 32 - 1)).replied r 0 []))) ∧
  (∀ (s u : State) (r : Request), s.Heads 0x0B02 r → u = s.taken r →
    ((4088 < r.word 1 ∨ 0x40000 < r.word 0 + r.word 1) → exec .captureRead s = .next (u.replied r 0x0301 [])) ∧
    (r.word 1 ≤ 4088 → r.word 0 + r.word 1 ≤ 0x40000 →
      exec .captureRead s = .next (u.replied r 0 (memRead s.capture (r.word 0) (r.word 1))))) ∧
  (∀ (s u : State) (r : Request), s.Heads 0x0B03 r → u = s.taken r →
    (1 < r.word 0 → exec .leMode s = .next (u.replied r 0x0301 [])) ∧
    (r.word 0 ≤ 1 → s.cpRun = true →
      exec .leMode s = .next (((u.mcSubmit ⟨1, State.leBase (r.word 0) + 0x20, r.word 1, 2 ^ 32 - 1⟩).mcWrite
        (State.leBase (r.word 0) + 0x24, r.word 2, 2 ^ 32 - 1)).replied r 1 []))) ∧
  (∀ (s u : State) (r : Request), s.Heads 0x0C00 r → u = s.taken r →
    (3 ≤ r.word 0 → exec .powerState s = .next (u.replied r 0x0301 [])) ∧
    (r.word 0 = 1 → s.clk.target ≠ none → exec .powerState s = .next (u.replied r 0x0302 [])) ∧
    (r.word 0 = 1 → s.clk.target = none → s.power = .watch → exec .powerState s = .next (u.replied r 0 [])) ∧
    (r.word 0 = 1 → s.clk.target = none → s.power = .run → s.safeState = State.safeClosed →
      exec .powerState s = .next (u.replied r 0x0201 [])) ∧
    (r.word 0 = 1 → s.clk.target = none → s.power = .run → s.safeState ≠ State.safeClosing → s.safeState ≠ State.safeClosed →
      exec .powerState s = .next (((u.answer r 0 []).powerDown .watch).pumpAll))) ∧
  (∀ (s u : State) (r : Request), s.Heads 0x0C02 r → u = s.taken r →
    ((r.word 0 < 1 ∨ 7 < r.word 0) → exec .softReset s = .next (u.replied r 0x0301 [])) ∧
    ((r.word 0 = 1 ∨ r.word 0 = 2 ∨ r.word 0 = 3) → exec .softReset s = .next (((u.answer r 0 []).softReset (r.word 0)).pumpAll)) ∧
    (r.word 0 = 4 → r.port = .host → ∃ t x, exec .softReset s = .next t ∧ t.tpp.host.replies = [x] ∧ x.status = 0 ∧ x.seq = r.seq ∧
      t.oper = .boot ∧ t.sec.romDue = true ∧ t.mcMem = [] ∧ t.tpp.queue = []))

/-- R452. -/
def Obligations.CvuAccumulatesAndFrames : Prop :=
  (∀ (s : State) (m : Master) (u : Nat) (bs : List Byte), s.regsOk → u < 6 → s.right m (0x400A0000 + 0x40 * u + 0x38) .mr = .allow →
    s.on (Reg.CVU_CTRL_EN u) = true → s.on (Reg.CVU_CTRL_PAUSE u) = false → s.on (Reg.CVU_CTRL_MODE u) = false →
    ∃ t, bs.foldl (fun o b => match o with
        | .next v => exec (.cvuByte u b) v
        | .fault f => .fault f
        | .refused f => .refused f) (exec (.cvuStart m u) s) = .next t ∧
      t.rd (Reg.CVU_VALUE_VALUE u) = crc (s.cvuSet u) bs) ∧
  (∀ (s : State) (u : Nat), u < 6 → s.on (Reg.CVU_CTRL_MODE u) = false → exec (.cvuMessageClose u) s = .next s) ∧
  (∀ (s : State) (m : Master) (u : Nat), u < 6 → s.right m (0x400A0000 + 0x40 * u + 0x38) .mr = .allow → s.on (Reg.CVU_CTRL_MODE u) = false →
    exec (.cvuEnd m u) s = .next s.acked) ∧
  (∀ (s : State) (u : Nat) (b : Byte), s.regsOk → u < 6 → s.on (Reg.CVU_CTRL_EN u) = true → s.on (Reg.CVU_CTRL_PAUSE u) = false →
    s.on (Reg.CVU_CTRL_MODE u) = true → s.on (Reg.CVU_STATUS_IN_MSG u) = false →
    ∃ t, exec (.cvuByte u b) s = .next t ∧ t.on (Reg.CVU_STATUS_IN_MSG u) = true ∧ t.rd (Reg.CVU_VALUE_VALUE u) = crc (s.cvuSet u) [b]) ∧
  (∀ (s : State) (u : Nat), s.regsOk → u < 6 → s.on (Reg.CVU_CTRL_EN u) = true → s.on (Reg.CVU_CTRL_PAUSE u) = false →
    s.on (Reg.CVU_CTRL_MODE u) = true → s.on (Reg.CVU_STATUS_IN_MSG u) = true →
    ∃ t, exec (.cvuMessageClose u) s = .next t ∧ t.on (Reg.CVU_STATUS_IN_MSG u) = false ∧
      t.rd (Reg.CVU_RESULT_VALUE u) = s.rd (Reg.CVU_VALUE_VALUE u) % 2 ^ 32 ∧
      t.rd (Reg.CVU_MSG_COUNT u) = satInc (2 ^ 32 - 1) (s.rd (Reg.CVU_MSG_COUNT u)))

/-- R434; a counter has 128 bits (R421), so ROLLBACK is at most 128. -/
def Obligations.RollbackCounterFollowsActiveImages : Prop :=
  (∀ (s : State) (t k : Nat) (img : LoadedImage) (cut : Option Nat), s.Shaped → t < 4 → nth s.nv.trial t none = some k →
    nth s.sec.loaded t none = some img → nth s.nv.trialRuns t false = true → s.nv.otp.rb.length = 4 → s.nv.otp.rbDue.length = 4 →
    s.nv.active.length = 4 → img.rollback ≤ 128 →
    ∃ u, exec (.imageTrialPromote t cut) s = .next u ∧ nth u.nv.active t 0 = k ∧ nth u.nv.otp.rbDue t 0 = img.rollback ∧
      nth s.nv.otp.rb t 0 ≤ nth u.nv.otp.rb t 0 ∧ nth u.nv.otp.rb t 0 ≤ max (nth s.nv.otp.rb t 0) img.rollback ∧
      (cut = none → nth u.nv.otp.rb t 0 = if nth s.nv.otp.rb t 0 < img.rollback then img.rollback else nth s.nv.otp.rb t 0) ∧
      (∀ n, cut = some n → nth u.nv.otp.rb t 0 = max (nth s.nv.otp.rb t 0) (min img.rollback (nth s.nv.otp.rb t 0 + n))) ∧
      (∀ j, j ≠ t → nth u.nv.otp.rb j 0 = nth s.nv.otp.rb j 0 ∧ nth u.nv.otp.rbDue j 0 = nth s.nv.otp.rbDue j 0)) ∧
  (∀ (s : State) (ext : List (Nat × List Byte)) (es : List Nat) (t : Nat), t < 4 → s.sec.romDue = true → s.nv.otp.rb.length = 4 →
    nth s.nv.otp.rbDue t 0 ≤ 128 →
    ∃ u, exec (.bootRomRun ext es) s = .next u ∧ nth u.nv.otp.rb t 0 = max (nth s.nv.otp.rb t 0) (nth s.nv.otp.rbDue t 0))

/-- R466. -/
def Obligations.OutagesAreCountedAndTimed : Prop :=
  (∀ (s : State), s.regsOk → s.umb.alive = true → s.umbState = State.umbLinked →
    ∃ t, exec .umbVddFall s = .next t ∧ t.umbState = State.umbKeep ∧
      t.umb.outage = (if s.umb.outage < 2 ^ 32 - 1 then s.umb.outage + 1 else 2 ^ 32 - 1) ∧ t.rd Reg.UMB_OUTAGE_COUNT = t.umb.outage ∧
      t.umb.darkSince = some (s.rd Reg.UMB_SECONDS_SEC)) ∧
  (∀ (s : State) (d k q : Nat), s.regsOk → s.umb.alive = true → s.umbState = State.umbKeep → s.umb.darkSince = some d →
    s.umb.staged = [] → s.umb.drops = 0 → s.umb.next = some (k, q) → d ≤ s.rd Reg.UMB_SECONDS_SEC → s.rd Reg.UMB_SECONDS_SEC < 2 ^ 32 →
    ∃ t, exec .umbVddRise s = .next t ∧ t.umbState = State.umbLinked ∧ t.rd Reg.UMB_DARK_LAST_SEC = s.rd Reg.UMB_SECONDS_SEC - d ∧
      ∃ r, (if s.energyOk then t.umb.store = sparseInsert s.umb.store k r else t.umb.staged = [r]) ∧ r.code = 0x0102 ∧
        r.data = s.rd Reg.UMB_SECONDS_SEC - d) ∧
  (∀ (s : State) (mv : Nat), s.regsOk → s.umb.alive = false →
    ∃ t, exec (.umbColdStart mv) s = .next t ∧ t.rd Reg.UMB_DARK_LAST_SEC = 0xFFFFFFFF ∧ t.umb.darkSince = none) ∧
  (∀ (s : State) (mv : Nat) (a b : Bool) (bad : List Nat), s.regsOk → s.umb.alive = true → s.umbState = State.umbStart →
    s.umb.staged = [] → s.umb.drops = 0 → s.umb.journal = none →
    ∃ t, exec (.umbRecoveryEnd mv a b true bad) s = .next t ∧ t.umbState = State.umbLinked ∧
      t.rd Reg.UMB_DARK_LAST_SEC = s.rd Reg.UMB_DARK_LAST_SEC ∧
      (∀ r, (r ∈ t.umb.staged ∨ ∃ i, (i, r) ∈ t.umb.store) → (∃ i, (i, r) ∈ s.umb.store) ∨ r.code = 0x0100) ∧
      ∃ r, (r ∈ t.umb.staged ∨ ∃ i, (i, r) ∈ t.umb.store) ∧ r.code = 0x0100)

/-- R50; what makes a buffer sound is R49 and R52. -/
def Obligations.LoadDestinationsAreFive : Prop :=
  (∀ (s : State) (d addr len c : Nat) (tgt : LoadTarget), s.regsOk →
    (d, tgt) ∈ [(1, LoadTarget.le0), (2, .le1), (3, .orbit), (4, .profile), (5, .sweep)] →
    s.cross.sub = some ⟨[⟨3 + 2 ^ 16 * d, addr, len, c⟩], 0⟩ → s.cross.dataPort = [] → s.cross.mcQueue = [] →
    s.loadBusy tgt = false → 1 ≤ len → len % 4 = 0 → len ≤ 32768 → State.bufferOk addr len = true → s.loadLenOk tgt addr len = true →
    ∃ t, exec (.mbxApply none) s = .next t ∧
      t.load tgt = .copying addr len c 0 ((s.rd Reg.MBX_STATUS_APPLIED_SEQ + 1) % 256) ∧
      (∀ o, o ≠ tgt → t.load o = s.load o) ∧ t.rd Reg.MBX_RESULT_ERR = 0 ∧ t.on Reg.MBX_STATUS_PEND = false ∧
      s.raisedIn t Ev.MBX_APPLIED ∧ s.memsSame t) ∧
  (∀ (s : State) (d addr len c : Nat), s.regsOk → (d = 0 ∨ 5 < d) → d < 65536 →
    s.cross.sub = some ⟨[⟨3 + 2 ^ 16 * d, addr, len, c⟩], 0⟩ → s.cross.dataPort = [] → s.cross.mcQueue = [] →
    ∃ t, exec (.mbxApply none) s = .next t ∧ t.rd Reg.MBX_RESULT_ERR = 1 ∧ (∀ o, t.load o = s.load o) ∧
      t.on Reg.MBX_STATUS_PEND = false ∧ s.raisedIn t Ev.MBX_APPLIED ∧ s.memsSame t)

/-- R54. -/
def Obligations.PairWritePrevailsOnItsEdge : Prop :=
  (∀ (s : State) (a v : Nat) (sub : Submission) (e : MbxEntry), s.cross.sub = some sub → sub.due = 0 → e ∈ sub.entries →
    fieldOf e.w0 0 8 = 1 → e.w1 = a → State.entryWriteBad a e.w3 = false →
    exec (.mbxApply (some (a, v))) s =
      .next (((s.subApply.dataPortApply.wr Reg.MBX_STATUS_CONFLICT 1).busWrite
        (if (s.subApply.dataPortApply.wr Reg.MBX_STATUS_CONFLICT 1).activePair = .a then .pairA else .pairB) a 4 v).mcRefill)) ∧
  (∀ (s : State) (v v' : Nat), s.regsOk → s.cross.sub = some ⟨[⟨1, 0x400B0000, v', 0x3F⟩], 0⟩ → s.cross.dataPort = [] →
    s.cross.mcQueue = [] → s.on Reg.CP_STATUS_ACTIVE = false → s.pairState .a = State.pairActive → s.on (State.fenceFld .a) = false →
    s.on (Reg.EVF_ROUTE_LOCK 0) = false →
    ∃ t, exec (.mbxApply (some (0x400B0000, v))) s = .next t ∧ t.on Reg.MBX_STATUS_CONFLICT = true ∧ t.rd (Reg.EVF_ROUTE_TARGET 0) = v % 64) ∧
  (∀ (s : State) (a v : Nat), s.cross.sub = none →
    exec (.mbxApply (some (a, v))) s =
      .next ((s.dataPortApply.busWrite (if s.dataPortApply.activePair = .a then .pairA else .pairB) a 4 v).mcRefill))

/-- The queue is the model's form of the commands that reach the module (notes/assumptions 8). -/
def Obligations.StepRunsTheFrontCommand : Prop :=
  ∀ (c : Instr) (s : State) (rest : List Instr), s.pending = c :: rest → step s = exec c { s with pending := rest }

/-- The model's choice (notes/assumptions 2). -/
def Obligations.StepIdlesOnAnEmptyQueue : Prop := ∀ s : State, s.pending = [] → step s = .next s

/-- R10: the Reset column; R193: LATCHED = 1; R224: a leg is UNUSED. -/
def Obligations.ResetHoldsTheResetValues : Prop :=
  (∀ f : Fld, State.reset.rd f = f.rst) ∧ State.reset.pwmLatched = true ∧ State.reset.relaysOpen = true ∧
    (∀ n, State.reset.legState n = State.legUnused) ∧ State.reset.oper = .boot ∧ State.reset.power = .run ∧ State.reset.pending = [] ∧
    State.reset.sram = [] ∧ State.reset.capture = [] ∧ State.reset.tcmA = [] ∧ State.reset.tcmB = [] ∧ State.reset.mcMem = [] ∧
    State.reset.scMem = [] ∧ State.reset.cpRun = false

/-- The invariants of StepKeepsCanonical and StepKeepsShape hold at reset. -/
def Obligations.ResetIsCanonical : Prop := State.reset.Canonical ∧ State.reset.Shaped

/-- The commands of the table carry no bits (notes/assumptions 9). -/
def Obligations.NoWordSpellsACommand : Prop :=
  ∀ (s : State) (nbits w : Nat), decodeTableWord nbits w = none ∧ s.withFetchWord nbits w = s

/-- R7, R46 and R401: a refused access or request is answered; the module goes on. -/
def Obligations.EveryCommandCompletes : Prop := ∀ (c : Instr) (s : State), ∃ t, exec c s = .next t

/-- One value for each field and byte (R7, R44, R69). -/
def Obligations.StepKeepsCanonical : Prop := ∀ s t : State, s.Canonical → step s = .next t → t.Canonical

/-- The numbers of units of the fifteen subsystems. -/
def Obligations.StepKeepsShape : Prop := ∀ s t : State, s.Shaped → step s = .next t → t.Shaped

/-- Commands come from outside only (notes/assumptions 8). -/
def Obligations.StepTakesOneCommand : Prop := ∀ s t : State, step s = .next t → t.pending = s.pending.tail

/-- The frame of the whole table: the commands named stand in Safety.lean. -/
def Obligations.UnitsChangeOnlyByTheirCommands : Prop :=
  ∀ (c : Instr) (s t : State), actsWidely c = false → exec c s = .next t →
    (writesSram c = false → t.sram = s.sram) ∧ (writesCapture c = false → t.capture = s.capture) ∧
    (writesTcm c = false → t.tcmA = s.tcmA ∧ t.tcmB = s.tcmB) ∧ (writesStore c = false → t.nv = s.nv) ∧
    (writesUmbra c = false → t.umb = s.umb) ∧
    ((∀ e es, c ≠ .bootRomRun e es) → t.mcMem = s.mcMem ∧ t.scMem = s.scMem ∧ t.power = s.power) ∧
    ((∀ u b, c ≠ .cvuByte u b) → (∀ m u, c ≠ .cvuStart m u) → t.cvu = s.cvu) ∧
    (c ≠ .frameBoundary → t.now = s.now)

/-- R403 to R405; the 1 µs of the release is timing and is left out. -/
def Obligations.AttnAndNoticesFollowTheQueues : Prop :=
  (∀ s : State, s.attnLow = true ↔ (s.oper ≠ .boot ∧ (s.tpp.host.replies ≠ [] ∨ s.tpp.host.notices ≠ []))) ∧
  (∀ (s : State) (n : Nat) (x : Reply), s.hostReady = true → s.wakes 0 = false → s.tpp.host.replies = [x] → s.tpp.host.notices = [] →
    x.bytes.length ≤ n → ∃ t, exec (.spiReadTransfer n) s = .next t ∧ t.attnLow = false ∧ t.slotsUsed + 1 = s.slotsUsed) ∧
  (∀ (s : State) (n : Nat) (x : Reply), s.hostReady = true → s.wakes 0 = false → s.tpp.host.replies = [] → s.tpp.host.notices = [x] →
    x.bytes.length ≤ n → ∃ t, exec (.spiReadTransfer n) s = .next t ∧ t.attnLow = false ∧ t.slotsUsed = s.slotsUsed) ∧
  (∀ (s : State) (n : Nat), s.hostReady = true → s.wakes 0 = false →
    ∃ t, exec (.spiReadTransfer n) s = .next t ∧ t.tpp.miso.head? = some (BitVec.ofNat 8 ((8 - s.slotsUsed) +
      16 * b2n (!s.tpp.host.replies.isEmpty || !s.tpp.host.notices.isEmpty) + 32 * b2n s.tpp.host.auth)) ∧ t.tpp.miso.length = n + 1)
end

