-- ==== Sys2Proof/Laws/Sparse.lean ====
section
/-! SUPPORT. Laws/Sparse.lean: the laws of the sparse lists that hold registers and memories: a read after a write, the canonical
form kept by every write. -/

set_option Elab.async false

namespace Sys2Proof.Machine

section Sparse
variable {α : Type}

/-- Keys rise where the first key is below all others and those rise. -/
theorem keysRise_cons (e : Nat × α) (m : List (Nat × α)) :
    keysRise (e :: m) = true ↔ (∀ x ∈ m, e.1 < x.1) ∧ keysRise m = true := by
  induction m generalizing e with
  | nil => simp [keysRise]
  | cons x r ih =>
    obtain ⟨k, v⟩ := e
    obtain ⟨k', v'⟩ := x
    simp only [keysRise, Bool.and_eq_true, decide_eq_true_eq]
    constructor
    · rintro ⟨h, hr⟩
      refine ⟨?_, hr⟩
      intro y hy
      rcases List.mem_cons.mp hy with rfl | hy
      · exact h
      · exact lt_trans h (((ih (k', v')).mp hr).1 y hy)
    · rintro ⟨h, hr⟩
      exact ⟨h (k', v') (by simp), hr⟩

/-- A read after an insertion of the same key. -/
@[simp] theorem sparseGet_insert_same (m : List (Nat × α)) (k : Nat) (v d : α) : sparseGet (sparseInsert m k v) k d = v := by
  induction m with
  | nil => simp [sparseInsert, sparseGet]
  | cons x r ih =>
    obtain ⟨k', v'⟩ := x
    simp only [sparseInsert]
    split
    · simp [sparseGet]
    · split
      · simp [sparseGet]
      · rename_i h1 h2
        simp [sparseGet, ih, Ne.symm h2]

/-- A read of another key after an insertion. -/
theorem sparseGet_insert_ne (m : List (Nat × α)) {k j : Nat} (v d : α) (h : j ≠ k) :
    sparseGet (sparseInsert m k v) j d = sparseGet m j d := by
  induction m with
  | nil => simp [sparseInsert, sparseGet, Ne.symm h]
  | cons x r ih =>
    obtain ⟨k', v'⟩ := x
    simp only [sparseInsert]
    split
    · simp [sparseGet, Ne.symm h]
    · split
      · rename_i h2
        subst h2
        simp [sparseGet, Ne.symm h]
      · simp [sparseGet, ih]

/-- A read of another key after an erasure. -/
theorem sparseGet_erase_ne (m : List (Nat × α)) {k j : Nat} (d : α) (h : j ≠ k) :
    sparseGet (sparseErase m k) j d = sparseGet m j d := by
  induction m with
  | nil => rfl
  | cons x r ih =>
    obtain ⟨k', v'⟩ := x
    simp only [sparseErase]
    split
    · rename_i h2
      subst h2
      simp [sparseGet, Ne.symm h]
    · simp [sparseGet, ih]

/-- A key that no entry has reads as an unlisted one. -/
theorem sparseGet_absent (m : List (Nat × α)) (k : Nat) (d : α) (h : ∀ x ∈ m, x.1 ≠ k) : sparseGet m k d = d := by
  induction m with
  | nil => rfl
  | cons x r ih =>
    obtain ⟨k', v'⟩ := x
    have hk : k' ≠ k := h (k', v') (by simp)
    simp only [sparseGet, if_neg hk]
    exact ih fun y hy => h y (by simp [hy])

/-- A read after an erasure of the same key, keys rising. -/
theorem sparseGet_erase_same (m : List (Nat × α)) (k : Nat) (d : α) (hm : keysRise m = true) :
    sparseGet (sparseErase m k) k d = d := by
  induction m with
  | nil => rfl
  | cons x r ih =>
    obtain ⟨k', v'⟩ := x
    obtain ⟨hlt, hr⟩ := (keysRise_cons _ _).mp hm
    simp only [sparseErase]
    split
    · rename_i h2
      subst h2
      exact sparseGet_absent r k' d fun y hy => (hlt y hy).ne'
    · rename_i h2
      simp [sparseGet, h2, ih hr]

/-- The entries after an insertion. -/
theorem mem_sparseInsert {m : List (Nat × α)} {k : Nat} {v : α} {x : Nat × α} (h : x ∈ sparseInsert m k v) :
    x = (k, v) ∨ x ∈ m := by
  induction m with
  | nil => simpa [sparseInsert] using h
  | cons y r ih =>
    obtain ⟨k', v'⟩ := y
    simp only [sparseInsert] at h
    split at h
    · simpa using h
    · split at h
      · rcases List.mem_cons.mp h with h | h
        · exact .inl h
        · exact .inr (by simp [h])
      · rcases List.mem_cons.mp h with h | h
        · exact .inr (by simp [h])
        · rcases ih h with h | h
          · exact .inl h
          · exact .inr (by simp [h])

/-- The entries after an erasure. -/
theorem mem_sparseErase {m : List (Nat × α)} {k : Nat} {x : Nat × α} (h : x ∈ sparseErase m k) : x ∈ m := by
  induction m with
  | nil => simp [sparseErase] at h
  | cons y r ih =>
    obtain ⟨k', v'⟩ := y
    simp only [sparseErase] at h
    split at h
    · simp [h]
    · rcases List.mem_cons.mp h with h | h
      · simp [h]
      · simp [ih h]

/-- An insertion keeps the keys rising. -/
theorem keysRise_insert {m : List (Nat × α)} (k : Nat) (v : α) (hm : keysRise m = true) : keysRise (sparseInsert m k v) = true := by
  induction m with
  | nil => simp [sparseInsert, keysRise]
  | cons x r ih =>
    obtain ⟨k', v'⟩ := x
    obtain ⟨hlt, hr⟩ := (keysRise_cons _ _).mp hm
    simp only [sparseInsert]
    split
    · rename_i h
      refine (keysRise_cons _ _).mpr ⟨?_, hm⟩
      intro y hy
      rcases List.mem_cons.mp hy with rfl | hy
      · exact h
      · exact lt_trans h (hlt y hy)
    · rename_i h
      split
      · rename_i h2
        subst h2
        exact (keysRise_cons _ _).mpr ⟨hlt, hr⟩
      · rename_i h2
        refine (keysRise_cons _ _).mpr ⟨?_, ih hr⟩
        intro y hy
        rcases mem_sparseInsert hy with rfl | hy
        · exact lt_of_le_of_ne (not_lt.mp h) (Ne.symm h2)
        · exact hlt y hy

/-- An erasure keeps the keys rising. -/
theorem keysRise_erase {m : List (Nat × α)} (k : Nat) (hm : keysRise m = true) : keysRise (sparseErase m k) = true := by
  induction m with
  | nil => rfl
  | cons x r ih =>
    obtain ⟨k', v'⟩ := x
    obtain ⟨hlt, hr⟩ := (keysRise_cons _ _).mp hm
    simp only [sparseErase]
    split
    · exact hr
    · exact (keysRise_cons _ _).mpr ⟨fun y hy => hlt y (mem_sparseErase hy), ih hr⟩

/-- A filter keeps the keys rising. -/
theorem keysRise_filter {m : List (Nat × α)} (p : Nat × α → Bool) (hm : keysRise m = true) : keysRise (m.filter p) = true := by
  induction m with
  | nil => rfl
  | cons x r ih =>
    obtain ⟨hlt, hr⟩ := (keysRise_cons _ _).mp hm
    simp only [List.filter_cons]
    split
    · exact (keysRise_cons _ _).mpr ⟨fun y hy => hlt y (List.mem_filter.mp hy).1, ih hr⟩
    · exact ih hr

variable [DecidableEq α]

/-- A read of another key after a write. -/
theorem sparseGet_set_ne (m : List (Nat × α)) {k j : Nat} (v d d' : α) (h : j ≠ k) :
    sparseGet (sparseSet m k v d) j d' = sparseGet m j d' := by
  unfold sparseSet
  split
  · exact sparseGet_erase_ne m d' h
  · exact sparseGet_insert_ne m v d' h

/-- A read after a write of the same key, keys rising. -/
theorem sparseGet_set_same (m : List (Nat × α)) (k : Nat) (v d : α) (hm : keysRise m = true) :
    sparseGet (sparseSet m k v d) k d = v := by
  unfold sparseSet
  split
  · rename_i h
    rw [sparseGet_erase_same m k d hm, h]
  · exact sparseGet_insert_same m k v d

/-- A write keeps the keys rising. -/
theorem keysRise_set {m : List (Nat × α)} (k : Nat) (v d : α) (hm : keysRise m = true) : keysRise (sparseSet m k v d) = true := by
  unfold sparseSet
  split
  · exact keysRise_erase k hm
  · exact keysRise_insert k v hm

/-- A write keeps entries that equal the unlisted value away. -/
theorem noDefault_set {m : List (Nat × α)} (k : Nat) (v d : α) (hm : noDefault d m = true) : noDefault d (sparseSet m k v d) = true := by
  simp only [noDefault, List.all_eq_true, decide_eq_true_eq] at hm ⊢
  unfold sparseSet
  split
  · exact fun x hx => hm x (mem_sparseErase hx)
  · rename_i h
    intro x hx
    rcases mem_sparseInsert hx with rfl | hx
    · exact h
    · exact hm x hx

end Sparse

/-! ### Memories -/

/-- Writing one byte keeps the canonical form. -/
theorem Memory.wf_setByte {m : List Host.Cell} (a : Nat) (b : Byte) (h : Memory.wf m) : Memory.wf (memSetByte m a b) := by
  simp only [Memory.wf, Bool.and_eq_true, memSetByte] at h ⊢
  exact ⟨keysRise_set a b 0 h.1, noDefault_set a b 0 h.2⟩

/-- Writing bytes keeps the canonical form. -/
theorem Memory.wf_write {m : List Host.Cell} (a : Nat) (bs : List Byte) (h : Memory.wf m) : Memory.wf (memWrite m a bs) := by
  induction bs generalizing m a with
  | nil => exact h
  | cons b bs ih => exact ih (a + 1) (Memory.wf_setByte a b h)

/-- Empty memory is canonical. -/
theorem Memory.wf_nil : Memory.wf [] := by decide

/-- A byte outside the bytes written reads as before. -/
theorem memByte_write_outside {m : List Host.Cell} {a j : Nat} {bs : List Byte} (h : j < a ∨ a + bs.length ≤ j) :
    memByte (memWrite m a bs) j = memByte m j := by
  induction bs generalizing m a with
  | nil => rfl
  | cons b bs ih =>
    simp only [List.length_cons] at h
    have h1 : j < a + 1 ∨ a + 1 + bs.length ≤ j := by omega
    have h2 : j ≠ a := by omega
    simp only [memWrite]
    rw [ih h1]
    exact sparseGet_set_ne m b 0 0 h2

/-- A byte that is written reads as written, in a canonical memory. -/
theorem memByte_write_inside {m : List Host.Cell} {a i : Nat} {bs : List Byte} (hm : Memory.wf m) (h : i < bs.length) :
    memByte (memWrite m a bs) (a + i) = bs[i] := by
  induction bs generalizing m a i with
  | nil => simp at h
  | cons b bs ih =>
    have hm' := Memory.wf_setByte a b hm
    cases i with
    | zero =>
      have h1 : a < a + 1 ∨ a + 1 + bs.length ≤ a := by omega
      have hk : keysRise m = true := (by simpa [Memory.wf, Bool.and_eq_true] using hm : _ ∧ _).1
      simp only [memWrite, Nat.add_zero, List.getElem_cons_zero]
      rw [memByte_write_outside h1]
      exact sparseGet_set_same m a b 0 hk
    | succ i =>
      have hi : i < bs.length := by simpa using h
      have := ih (a := a + 1) hm' hi
      rw [show a + (i + 1) = a + 1 + i by omega]
      simpa [memWrite] using this

end Sys2Proof.Machine
end

