-- ==== Sys2Proof/Laws/State.lean ====
section
/-! SUPPORT. Laws/State.lean: what a register write and an event leave unchanged, one small lemma for each part of the state. -/

set_option Elab.async false

namespace Sys2Proof.Machine
namespace State

/-! ### Register fields -/

/-- A field after a write of it, in a state whose register list rises. -/
theorem rd_wr_same (s : State) (f : Fld) (v : Nat) (h : keysRise s.regs = true) : (s.wr f v).rd f = v % 2 ^ f.width :=
  sparseGet_set_same s.regs f.key (v % 2 ^ f.width) f.rst h

/-- A field after a write of another. -/
theorem rd_wr_ne (s : State) {f g : Fld} (v : Nat) (h : f.key ≠ g.key) : (s.wr g v).rd f = s.rd f :=
  sparseGet_set_ne s.regs (v % 2 ^ g.width) g.rst f.rst h

/-- The register list keeps rising under a write. -/
theorem keysRise_wr (s : State) (f : Fld) (v : Nat) (h : keysRise s.regs = true) : keysRise (s.wr f v).regs = true :=
  keysRise_set f.key (v % 2 ^ f.width) f.rst h

theorem setB_eq (s : State) (f : Fld) (n : Nat) : s.setB f n = s.wr f (setBit (s.rd f) n) := rfl
theorem clrB_eq (s : State) (f : Fld) (n : Nat) : s.clrB f n = s.wr f (clearBit (s.rd f) n) := rfl
theorem putB_eq (s : State) (f : Fld) (n : Nat) (b : Bool) : s.putB f n b = s.wr f (putBit (s.rd f) n b) := rfl
theorem incSat_eq (s : State) (f : Fld) : s.incSat f = s.wr f (satInc (2 ^ f.width - 1) (s.rd f)) := rfl
theorem addSat_eq (s : State) (f : Fld) (n : Nat) : s.addSat f n = s.wr f (satAdd (2 ^ f.width - 1) (s.rd f) n) := rfl
theorem incWrap_eq (s : State) (f : Fld) : s.incWrap f = s.wr f (s.rd f + 1) := rfl

@[simp] theorem wr_rw1 (s : State) (f : Fld) (v : Nat) : (s.wr f v).rw1 = s.rw1 := rfl
@[simp] theorem wr_sram (s : State) (f : Fld) (v : Nat) : (s.wr f v).sram = s.sram := rfl
@[simp] theorem wr_capture (s : State) (f : Fld) (v : Nat) : (s.wr f v).capture = s.capture := rfl
@[simp] theorem wr_tcmA (s : State) (f : Fld) (v : Nat) : (s.wr f v).tcmA = s.tcmA := rfl
@[simp] theorem wr_tcmB (s : State) (f : Fld) (v : Nat) : (s.wr f v).tcmB = s.tcmB := rfl
@[simp] theorem wr_mcMem (s : State) (f : Fld) (v : Nat) : (s.wr f v).mcMem = s.mcMem := rfl
@[simp] theorem wr_scMem (s : State) (f : Fld) (v : Nat) : (s.wr f v).scMem = s.scMem := rfl
@[simp] theorem wr_bus (s : State) (f : Fld) (v : Nat) : (s.wr f v).bus = s.bus := rfl
@[simp] theorem wr_oper (s : State) (f : Fld) (v : Nat) : (s.wr f v).oper = s.oper := rfl
@[simp] theorem wr_power (s : State) (f : Fld) (v : Nat) : (s.wr f v).power = s.power := rfl
@[simp] theorem wr_now (s : State) (f : Fld) (v : Nat) : (s.wr f v).now = s.now := rfl
@[simp] theorem wr_freeCtr (s : State) (f : Fld) (v : Nat) : (s.wr f v).freeCtr = s.freeCtr := rfl
@[simp] theorem wr_cross (s : State) (f : Fld) (v : Nat) : (s.wr f v).cross = s.cross := rfl
@[simp] theorem wr_slink (s : State) (f : Fld) (v : Nat) : (s.wr f v).slink = s.slink := rfl
@[simp] theorem wr_orbit (s : State) (f : Fld) (v : Nat) : (s.wr f v).orbit = s.orbit := rfl
@[simp] theorem wr_pairs (s : State) (f : Fld) (v : Nat) : (s.wr f v).pairs = s.pairs := rfl
@[simp] theorem wr_pwm (s : State) (f : Fld) (v : Nat) : (s.wr f v).pwm = s.pwm := rfl
@[simp] theorem wr_les (s : State) (f : Fld) (v : Nat) : (s.wr f v).les = s.les := rfl
@[simp] theorem wr_safety (s : State) (f : Fld) (v : Nat) : (s.wr f v).safety = s.safety := rfl
@[simp] theorem wr_tpp (s : State) (f : Fld) (v : Nat) : (s.wr f v).tpp = s.tpp := rfl
@[simp] theorem wr_drv (s : State) (f : Fld) (v : Nat) : (s.wr f v).drv = s.drv := rfl
@[simp] theorem wr_sense (s : State) (f : Fld) (v : Nat) : (s.wr f v).sense = s.sense := rfl
@[simp] theorem wr_cmp (s : State) (f : Fld) (v : Nat) : (s.wr f v).cmp = s.cmp := rfl
@[simp] theorem wr_gs (s : State) (f : Fld) (v : Nat) : (s.wr f v).gs = s.gs := rfl
@[simp] theorem wr_ee (s : State) (f : Fld) (v : Nat) : (s.wr f v).ee = s.ee := rfl
@[simp] theorem wr_pe (s : State) (f : Fld) (v : Nat) : (s.wr f v).pe = s.pe := rfl
@[simp] theorem wr_me (s : State) (f : Fld) (v : Nat) : (s.wr f v).me = s.me := rfl
@[simp] theorem wr_nv (s : State) (f : Fld) (v : Nat) : (s.wr f v).nv = s.nv := rfl
@[simp] theorem wr_cmt (s : State) (f : Fld) (v : Nat) : (s.wr f v).cmt = s.cmt := rfl
@[simp] theorem wr_umb (s : State) (f : Fld) (v : Nat) : (s.wr f v).umb = s.umb := rfl
@[simp] theorem wr_cvu (s : State) (f : Fld) (v : Nat) : (s.wr f v).cvu = s.cvu := rfl
@[simp] theorem wr_sec (s : State) (f : Fld) (v : Nat) : (s.wr f v).sec = s.sec := rfl
@[simp] theorem wr_clk (s : State) (f : Fld) (v : Nat) : (s.wr f v).clk = s.clk := rfl
@[simp] theorem wr_pending (s : State) (f : Fld) (v : Nat) : (s.wr f v).pending = s.pending := rfl

/-! ### Iteration -/

/-- What every pass of a loop leaves unchanged, the loop leaves unchanged. -/
theorem forEach_keeps {α β : Type} (X : State → β) {f : State → α → State} (h : ∀ s x, X (f s x) = X s) (l : List α) (s : State) :
    X (s.forEach l f) = X s := by
  unfold forEach
  induction l generalizing s with
  | nil => rfl
  | cons a l ih => simp only [List.foldl_cons]; rw [ih, h]

/-- What an operation leaves unchanged, its conditional use leaves unchanged. -/
theorem when_keeps {β : Type} (X : State → β) {f : State → State} (c : Bool) (s : State) (h : X (f s) = X s) : X (s.when c f) = X s := by
  unfold State.when; split
  · exact h
  · rfl

@[simp] theorem when_true (s : State) (f : State → State) : s.when true f = f s := rfl
@[simp] theorem when_false (s : State) (f : State → State) : s.when false f = s := rfl

/-! ### Events (R71) -/

/-- What a register write, a private pending bit, a trigger input and a notice leave unchanged, an event leaves unchanged. -/
theorem raise_keeps {β : Type} (X : State → β) (hw : ∀ s f v, X (State.wr s f v) = X s) (hp : ∀ s p v, X (State.setPair s p v) = X s)
    (ho : ∀ (s : State) v, X { s with orbit := v } = X s) (ht : ∀ (s : State) v, X { s with tpp := v } = X s) (s : State) (ev : Nat) :
    X (s.raise ev) = X s := by
  have hd : ∀ (s : State) t, X (s.deliver ev t) = X s := by
    intro s t; unfold deliver; simp only []; split
    · exact hw _ _ _
    · exact hw _ _ _
  have hs : ∀ (s : State) p, X (s.deliverStandby ev p) = X s := by
    intro s p; unfold deliverStandby; split
    · exact hp _ _ _
    · rfl
  have hto : ∀ (s : State) n, X (s.trigOrbit n) = X s := by
    intro s n; unfold trigOrbit; split
    · rfl
    · exact ho _ _
  unfold raise
  simp only []
  rw [when_keeps X _ _ (by exact ht _ _), when_keeps X _ _ (hto _ _), when_keeps X _ _ (by rw [hs, hs]), forEach_keeps X fun s i => hd s i]

@[simp] theorem raise_rw1 (s : State) (ev : Nat) : (s.raise ev).rw1 = s.rw1 :=
  raise_keeps (·.rw1) (fun _ _ _ => rfl) (fun _ p _ => by cases p <;> rfl) (fun _ _ => rfl) (fun _ _ => rfl) s ev
@[simp] theorem raise_sram (s : State) (ev : Nat) : (s.raise ev).sram = s.sram :=
  raise_keeps (·.sram) (fun _ _ _ => rfl) (fun _ p _ => by cases p <;> rfl) (fun _ _ => rfl) (fun _ _ => rfl) s ev
@[simp] theorem raise_capture (s : State) (ev : Nat) : (s.raise ev).capture = s.capture :=
  raise_keeps (·.capture) (fun _ _ _ => rfl) (fun _ p _ => by cases p <;> rfl) (fun _ _ => rfl) (fun _ _ => rfl) s ev
@[simp] theorem raise_tcmA (s : State) (ev : Nat) : (s.raise ev).tcmA = s.tcmA :=
  raise_keeps (·.tcmA) (fun _ _ _ => rfl) (fun _ p _ => by cases p <;> rfl) (fun _ _ => rfl) (fun _ _ => rfl) s ev
@[simp] theorem raise_tcmB (s : State) (ev : Nat) : (s.raise ev).tcmB = s.tcmB :=
  raise_keeps (·.tcmB) (fun _ _ _ => rfl) (fun _ p _ => by cases p <;> rfl) (fun _ _ => rfl) (fun _ _ => rfl) s ev
@[simp] theorem raise_mcMem (s : State) (ev : Nat) : (s.raise ev).mcMem = s.mcMem :=
  raise_keeps (·.mcMem) (fun _ _ _ => rfl) (fun _ p _ => by cases p <;> rfl) (fun _ _ => rfl) (fun _ _ => rfl) s ev
@[simp] theorem raise_scMem (s : State) (ev : Nat) : (s.raise ev).scMem = s.scMem :=
  raise_keeps (·.scMem) (fun _ _ _ => rfl) (fun _ p _ => by cases p <;> rfl) (fun _ _ => rfl) (fun _ _ => rfl) s ev
@[simp] theorem raise_bus (s : State) (ev : Nat) : (s.raise ev).bus = s.bus :=
  raise_keeps (·.bus) (fun _ _ _ => rfl) (fun _ p _ => by cases p <;> rfl) (fun _ _ => rfl) (fun _ _ => rfl) s ev
@[simp] theorem raise_oper (s : State) (ev : Nat) : (s.raise ev).oper = s.oper :=
  raise_keeps (·.oper) (fun _ _ _ => rfl) (fun _ p _ => by cases p <;> rfl) (fun _ _ => rfl) (fun _ _ => rfl) s ev
@[simp] theorem raise_power (s : State) (ev : Nat) : (s.raise ev).power = s.power :=
  raise_keeps (·.power) (fun _ _ _ => rfl) (fun _ p _ => by cases p <;> rfl) (fun _ _ => rfl) (fun _ _ => rfl) s ev
@[simp] theorem raise_now (s : State) (ev : Nat) : (s.raise ev).now = s.now :=
  raise_keeps (·.now) (fun _ _ _ => rfl) (fun _ p _ => by cases p <;> rfl) (fun _ _ => rfl) (fun _ _ => rfl) s ev
@[simp] theorem raise_freeCtr (s : State) (ev : Nat) : (s.raise ev).freeCtr = s.freeCtr :=
  raise_keeps (·.freeCtr) (fun _ _ _ => rfl) (fun _ p _ => by cases p <;> rfl) (fun _ _ => rfl) (fun _ _ => rfl) s ev
@[simp] theorem raise_cross (s : State) (ev : Nat) : (s.raise ev).cross = s.cross :=
  raise_keeps (·.cross) (fun _ _ _ => rfl) (fun _ p _ => by cases p <;> rfl) (fun _ _ => rfl) (fun _ _ => rfl) s ev
@[simp] theorem raise_slink (s : State) (ev : Nat) : (s.raise ev).slink = s.slink :=
  raise_keeps (·.slink) (fun _ _ _ => rfl) (fun _ p _ => by cases p <;> rfl) (fun _ _ => rfl) (fun _ _ => rfl) s ev
@[simp] theorem raise_pwm (s : State) (ev : Nat) : (s.raise ev).pwm = s.pwm :=
  raise_keeps (·.pwm) (fun _ _ _ => rfl) (fun _ p _ => by cases p <;> rfl) (fun _ _ => rfl) (fun _ _ => rfl) s ev
@[simp] theorem raise_les (s : State) (ev : Nat) : (s.raise ev).les = s.les :=
  raise_keeps (·.les) (fun _ _ _ => rfl) (fun _ p _ => by cases p <;> rfl) (fun _ _ => rfl) (fun _ _ => rfl) s ev
@[simp] theorem raise_safety (s : State) (ev : Nat) : (s.raise ev).safety = s.safety :=
  raise_keeps (·.safety) (fun _ _ _ => rfl) (fun _ p _ => by cases p <;> rfl) (fun _ _ => rfl) (fun _ _ => rfl) s ev
@[simp] theorem raise_drv (s : State) (ev : Nat) : (s.raise ev).drv = s.drv :=
  raise_keeps (·.drv) (fun _ _ _ => rfl) (fun _ p _ => by cases p <;> rfl) (fun _ _ => rfl) (fun _ _ => rfl) s ev
@[simp] theorem raise_sense (s : State) (ev : Nat) : (s.raise ev).sense = s.sense :=
  raise_keeps (·.sense) (fun _ _ _ => rfl) (fun _ p _ => by cases p <;> rfl) (fun _ _ => rfl) (fun _ _ => rfl) s ev
@[simp] theorem raise_cmp (s : State) (ev : Nat) : (s.raise ev).cmp = s.cmp :=
  raise_keeps (·.cmp) (fun _ _ _ => rfl) (fun _ p _ => by cases p <;> rfl) (fun _ _ => rfl) (fun _ _ => rfl) s ev
@[simp] theorem raise_gs (s : State) (ev : Nat) : (s.raise ev).gs = s.gs :=
  raise_keeps (·.gs) (fun _ _ _ => rfl) (fun _ p _ => by cases p <;> rfl) (fun _ _ => rfl) (fun _ _ => rfl) s ev
@[simp] theorem raise_ee (s : State) (ev : Nat) : (s.raise ev).ee = s.ee :=
  raise_keeps (·.ee) (fun _ _ _ => rfl) (fun _ p _ => by cases p <;> rfl) (fun _ _ => rfl) (fun _ _ => rfl) s ev
@[simp] theorem raise_pe (s : State) (ev : Nat) : (s.raise ev).pe = s.pe :=
  raise_keeps (·.pe) (fun _ _ _ => rfl) (fun _ p _ => by cases p <;> rfl) (fun _ _ => rfl) (fun _ _ => rfl) s ev
@[simp] theorem raise_me (s : State) (ev : Nat) : (s.raise ev).me = s.me :=
  raise_keeps (·.me) (fun _ _ _ => rfl) (fun _ p _ => by cases p <;> rfl) (fun _ _ => rfl) (fun _ _ => rfl) s ev
@[simp] theorem raise_nv (s : State) (ev : Nat) : (s.raise ev).nv = s.nv :=
  raise_keeps (·.nv) (fun _ _ _ => rfl) (fun _ p _ => by cases p <;> rfl) (fun _ _ => rfl) (fun _ _ => rfl) s ev
@[simp] theorem raise_cmt (s : State) (ev : Nat) : (s.raise ev).cmt = s.cmt :=
  raise_keeps (·.cmt) (fun _ _ _ => rfl) (fun _ p _ => by cases p <;> rfl) (fun _ _ => rfl) (fun _ _ => rfl) s ev
@[simp] theorem raise_umb (s : State) (ev : Nat) : (s.raise ev).umb = s.umb :=
  raise_keeps (·.umb) (fun _ _ _ => rfl) (fun _ p _ => by cases p <;> rfl) (fun _ _ => rfl) (fun _ _ => rfl) s ev
@[simp] theorem raise_cvu (s : State) (ev : Nat) : (s.raise ev).cvu = s.cvu :=
  raise_keeps (·.cvu) (fun _ _ _ => rfl) (fun _ p _ => by cases p <;> rfl) (fun _ _ => rfl) (fun _ _ => rfl) s ev
@[simp] theorem raise_sec (s : State) (ev : Nat) : (s.raise ev).sec = s.sec :=
  raise_keeps (·.sec) (fun _ _ _ => rfl) (fun _ p _ => by cases p <;> rfl) (fun _ _ => rfl) (fun _ _ => rfl) s ev
@[simp] theorem raise_clk (s : State) (ev : Nat) : (s.raise ev).clk = s.clk :=
  raise_keeps (·.clk) (fun _ _ _ => rfl) (fun _ p _ => by cases p <;> rfl) (fun _ _ => rfl) (fun _ _ => rfl) s ev
@[simp] theorem raise_pending (s : State) (ev : Nat) : (s.raise ev).pending = s.pending :=
  raise_keeps (·.pending) (fun _ _ _ => rfl) (fun _ p _ => by cases p <;> rfl) (fun _ _ => rfl) (fun _ _ => rfl) s ev

/-- A field outside the event fabric's window is left by an event. -/
theorem raise_rd (s : State) (ev : Nat) (f : Fld) (h : ∀ t w, f.key ≠ (Reg.EVF_PEND_PEND t w).key) (hc : f.key ≠ Reg.EVF_COAL_COUNT.key) :
    (s.raise ev).rd f = s.rd f := by
  have hd : ∀ (s : State) t, (s.deliver ev t).rd f = s.rd f := by
    intro s t; unfold deliver; simp only []; split
    · exact rd_wr_ne _ _ hc
    · exact rd_wr_ne _ _ (h _ _)
  have hs : ∀ (s : State) p, (s.deliverStandby ev p).rd f = s.rd f := by
    intro s p; unfold deliverStandby; split
    · cases p <;> rfl
    · rfl
  have hto : ∀ (s : State) n, (s.trigOrbit n).rd f = s.rd f := by
    intro s n; unfold trigOrbit; split
    · rfl
    · rfl
  have hn : ∀ s : State, (s.notify ev).rd f = s.rd f := fun _ => rfl
  unfold raise
  simp only []
  rw [when_keeps (State.rd · f) _ _ (hn _), when_keeps (State.rd · f) (f := fun s => s.trigOrbit (s.rd (Reg.EVF_ROUTE_OTRIG ev))) _ _ (hto _ _), when_keeps (State.rd · f) _ _ (by simp only [hs]),
    forEach_keeps (State.rd · f) fun s i => hd s i]

/-- A field below the event fabric's window is left by an event. -/
theorem raise_rd_below (s : State) (ev : Nat) (f : Fld) (h : f.key < 0x400B0000 * 32) : (s.raise ev).rd f = s.rd f :=
  raise_rd s ev f (fun t w => by simp only [Reg.EVF_PEND_PEND, Fld.key] at *; omega) (by simp only [Reg.EVF_COAL_COUNT, Fld.key] at *; omega)

/-- A field above the event fabric's pending words is left by an event of a target that exists. -/
theorem raise_keysRise (s : State) (ev : Nat) (h : keysRise s.regs = true) : keysRise (s.raise ev).regs = true := by
  have hd : ∀ (s : State) t, keysRise s.regs = true → keysRise (s.deliver ev t).regs = true := by
    intro s t hs; unfold deliver; simp only []; split
    · exact keysRise_wr _ _ _ hs
    · exact keysRise_wr _ _ _ hs
  have hf : ∀ (l : List Nat) (s : State), keysRise s.regs = true → keysRise (s.forEach l (fun s i => s.deliver ev i)).regs = true := by
    intro l
    induction l with
    | nil => exact fun s hs => hs
    | cons a l ih => exact fun s hs => ih _ (hd _ _ hs)
  have hr : (s.raise ev).regs = (s.forEach (bitsOf 6 (s.eventTargets ev)) (fun s i => s.deliver ev i)).regs := by
    have h1 : ∀ (s : State) p, (s.deliverStandby ev p).regs = s.regs := by
      intro s p; unfold deliverStandby; split
      · cases p <;> rfl
      · rfl
    have h2 : ∀ (s : State) n, (s.trigOrbit n).regs = s.regs := by
      intro s n; unfold trigOrbit; split <;> rfl
    have hn : ∀ s : State, (s.notify ev).regs = s.regs := fun _ => rfl
    unfold raise
    simp only []
    rw [when_keeps (·.regs) _ _ (hn _), when_keeps (·.regs) (f := fun s => s.trigOrbit (s.rd (Reg.EVF_ROUTE_OTRIG ev))) _ _ (h2 _ _), when_keeps (·.regs) _ _ (by simp only [h1])]
  rw [hr]
  exact hf _ s h

end State
end Sys2Proof.Machine
end

