-- ==== Sys2Proof/Laws/Events.lean ====
section
/-! SUPPORT. Laws/Events.lean: what a bus access, an advance of the tick and an event do, said once. -/

set_option Elab.async false

namespace Sys2Proof.Machine
namespace State

/-! ### Bus accesses and the tick -/

/-- An access that the rights allow performs its operation. -/
theorem access_allow {s : State} {m : Master} {a : Nat} {d : Domain} (f : State → State) (h : s.right m a d = .allow) :
    s.access m a d f = f { s with bus := .ok } := by
  unfold access; rw [h]

/-- An access that the rights forbid returns a bus error and does nothing. -/
theorem access_error {s : State} {m : Master} {a : Nat} {d : Domain} (f : State → State) (h : s.right m a d = .error) :
    s.access m a d f = { s with bus := .error } := by
  unfold access; rw [h]

/-- An access to a register of the crossings block without an MR-domain field (R46). -/
theorem accessCrOnly_allow {s : State} {m : Master} {a : Nat} (f : State → State) (hm : m = .mc → s.cpRun = false)
    (h : s.right m a .cr = .allow) : s.accessCrOnly m a f = f { s with bus := .ok } := by
  unfold accessCrOnly
  rw [if_neg, access_allow f h]
  intro hc
  simp only [Bool.and_eq_true, decide_eq_true_eq] at hc
  rw [hm hc.1] at hc
  exact absurd hc.2 (by decide)

/-- A tick that has come changes nothing. -/
@[simp] theorem toTick_of_le {s : State} {k : Nat} (h : k ≤ s.rd Reg.ORB_TICK_TICK) : s.toTick k = s := by
  unfold toTick; simp [h]

/-! ### A register after an update of another part of the state -/

/-- A field reads the same after an update of any other part of the state. -/
@[simp] theorem rd_update (s : State) (f : Fld) {a0 a1 a2 a3 a4 a5 a6 a7 a8 a9 a10 a11 a12 a13 a14 a15 a16 a17 a18 a19 a20 a21 a22 a23 a24 a25 a26 a27 a28 a29 a30 a31 a32 a33} :
    State.rd (State.mk s.regs a0 a1 a2 a3 a4 a5 a6 a7 a8 a9 a10 a11 a12 a13 a14 a15 a16 a17 a18 a19 a20 a21 a22 a23 a24 a25 a26 a27 a28 a29 a30 a31 a32 a33) f = s.rd f := rfl

/-- A field of a state is what its register list holds. -/
theorem rd_eq (s : State) (f : Fld) : s.rd f = sparseGet s.regs f.key f.rst := rfl

/-! ### Events -/

theorem rd_deliver_ne (s : State) (ev t : Nat) (ht : t < 6) (hev : ev < 192) (f : Fld) (h : ¬ evKey f.key) :
    (s.deliver ev t).rd f = s.rd f := by
  unfold deliver; simp only []
  have hw : ev / 32 < 6 := by omega
  split
  · exact rd_wr_ne _ _ (by simp only [Fld.key, evKey] at *; omega)
  · exact rd_wr_ne _ _ (by simp only [Fld.key, evKey] at *; omega)

theorem forEach_keeps_mem {α β : Type} (X : State → β) {f : State → α → State} (l : List α) (h : ∀ s, ∀ x ∈ l, X (f s x) = X s)
    (s : State) : X (s.forEach l f) = X s := by
  unfold forEach
  induction l generalizing s with
  | nil => rfl
  | cons a l ih =>
    simp only [List.foldl_cons]
    rw [ih fun s x hx => h s x (by simp [hx]), h s a (by simp)]

theorem mem_bitsOf {w x i : Nat} (h : i ∈ bitsOf w x) : i < w ∧ hasBit x i = true := by
  simpa [bitsOf] using h

/-- The register list after an event: that of the deliveries. -/
theorem raise_regs (s : State) (ev : Nat) :
    (s.raise ev).regs = (s.forEach (bitsOf 6 (s.eventTargets ev)) (fun s i => s.deliver ev i)).regs := by
  have h1 : ∀ (s : State) p, (s.deliverStandby ev p).regs = s.regs := by
    intro s p; unfold deliverStandby; split
    · cases p <;> rfl
    · rfl
  have h2 : ∀ (s : State) n, (s.trigOrbit n).regs = s.regs := by
    intro s n; unfold trigOrbit; split <;> rfl
  have hn : ∀ s : State, (s.notify ev).regs = s.regs := fun _ => rfl
  unfold raise
  simp only []
  rw [when_keeps (·.regs) _ _ (hn _), when_keeps (·.regs) (f := fun s => s.trigOrbit (s.rd (Reg.EVF_ROUTE_OTRIG ev))) _ _ (h2 _ _),
    when_keeps (·.regs) _ _ (by simp only [h1])]

/-- A field that no event writes is left by an event of the table. -/
theorem rd_raise (s : State) (ev : Nat) (hev : ev < 192) (f : Fld) (h : ¬ evKey f.key) : (s.raise ev).rd f = s.rd f := by
  rw [rd_eq, raise_regs, ← rd_eq]
  exact forEach_keeps_mem (State.rd · f) _ (fun s x hx => rd_deliver_ne s ev x (mem_bitsOf hx).1 hev f h) s

/-- The same of the register list itself. -/
theorem get_raise (s : State) (ev : Nat) (hev : ev < 192) {k : Nat} (d : Nat) (h : ¬ evKey k) :
    sparseGet (s.raise ev).regs k d = sparseGet s.regs k d := by
  have := rd_raise s ev hev ⟨k / 32, k % 32, 1, d⟩ (by simpa only [Fld.key, show k / 32 * 32 + k % 32 = k by omega] using h)
  simpa only [rd, Fld.key, show k / 32 * 32 + k % 32 = k by omega] using this

/-- An event touches the registers, the private pending words of a standby pair, the trigger inputs of Orbit and the notices of
the ports, and nothing else. -/
theorem raise_eq (s : State) (ev : Nat) :
    s.raise ev = { s with regs := (s.raise ev).regs, orbit := (s.raise ev).orbit, pairs := (s.raise ev).pairs, tpp := (s.raise ev).tpp } := by
  have := (raise_keeps (fun s => { s with regs := [], orbit := {}, pairs := {}, tpp := {} } : State → State) (fun _ _ _ => rfl)
    (fun _ p _ => by cases p <;> rfl) (fun _ _ => rfl) (fun _ _ => rfl) s ev)
  generalize hr : s.raise ev = r at *
  cases r; cases s
  simp only [State.mk.injEq] at this ⊢
  simp [this]

/-- A bit that has been set is set. -/
theorem hasBit_setBit_same (x n : Nat) : hasBit (setBit x n) n = true := by
  unfold setBit
  split
  · assumption
  · rename_i h
    simp only [hasBit, bitOf, beq_iff_eq] at h ⊢
    have hp : 0 < 2 ^ n := Nat.two_pow_pos n
    rw [Nat.add_div_right _ hp]
    omega

theorem setBit_lt {x n w : Nat} (hx : x < 2 ^ w) (hn : n < w) : setBit x n < 2 ^ w := by
  unfold setBit
  split
  · exact hx
  · rename_i h
    simp only [hasBit, bitOf, beq_iff_eq] at h
    have h0 : x / 2 ^ n % 2 = 0 := by omega
    have hp : 0 < 2 ^ n := Nat.two_pow_pos n
    have hw : 2 ^ w = 2 ^ n * 2 ^ (w - n) := by rw [← Nat.pow_add]; congr 1; omega
    have hd : x / 2 ^ n < 2 ^ (w - n) := by
      rw [Nat.div_lt_iff_lt_mul hp, Nat.mul_comm]; omega
    have hev : 2 ^ (w - n) % 2 = 0 := by
      obtain ⟨k, hk⟩ : ∃ k, w - n = k + 1 := ⟨w - n - 1, by omega⟩
      rw [hk, pow_succ]; omega
    have hle : x / 2 ^ n + 2 ≤ 2 ^ (w - n) := by omega
    calc x + 2 ^ n = 2 ^ n * (x / 2 ^ n) + x % 2 ^ n + 2 ^ n := by rw [Nat.div_add_mod]
      _ < 2 ^ n * (x / 2 ^ n) + 2 ^ n + 2 ^ n := by have := Nat.mod_lt x hp; omega
      _ = 2 ^ n * (x / 2 ^ n + 2) := by ring
      _ ≤ 2 ^ n * 2 ^ (w - n) := Nat.mul_le_mul_left _ hle
      _ = 2 ^ w := hw.symm

theorem hasBit_mod {x n w : Nat} (h : n < w) : hasBit (x % 2 ^ w) n = hasBit x n := by
  have hw : 2 ^ w = 2 ^ n * 2 ^ (w - n) := by rw [← Nat.pow_add]; congr 1; omega
  unfold hasBit bitOf
  rw [hw, Nat.mod_mul_right_div_self]
  obtain ⟨k, hk⟩ : ∃ k, w - n = k + 1 := ⟨w - n - 1, by omega⟩
  rw [hk, pow_succ, Nat.mod_mod_of_dvd _ (Dvd.intro_left _ rfl)]

/-- The register list keeps rising under a delivery. -/
theorem regsOk_deliver {s : State} (ev t : Nat) (h : s.regsOk) : (s.deliver ev t).regsOk := by
  unfold deliver; simp only []; split
  · exact keysRise_wr _ _ _ h
  · exact keysRise_wr _ _ _ h

/-- A delivery leaves the source pending at its target (R71). -/
theorem pendingAt_deliver {s : State} (ev t : Nat) (h : s.regsOk) (ht : t < 6) (hev : ev < 192) : (s.deliver ev t).pendingAt t ev = true := by
  have h32 : ev % 32 < 32 := Nat.mod_lt _ (by decide)
  unfold deliver pendingAt; simp only []
  split
  · rename_i hb
    rw [incSat_eq, rd_wr_ne]
    · exact hb
    · simp only [Fld.key]; omega
  · rw [setB_eq, rd_wr_same _ _ _ h]
    exact (hasBit_mod (w := 32) h32).trans (hasBit_setBit_same _ _)

/-- A delivery leaves what is pending. -/
theorem pendingAt_deliver_keeps {s : State} (ev t g : Nat) (h : s.regsOk) (ht : t < 6) (hg : g < 6) (hev : ev < 192)
    (hp : s.pendingAt g ev = true) : (s.deliver ev t).pendingAt g ev = true := by
  by_cases he : t = g
  · subst he; exact pendingAt_deliver ev t h ht hev
  · unfold pendingAt at *
    have hw : ev / 32 < 6 := by omega
    have hk : (Reg.EVF_PEND_PEND g (ev / 32)).key ≠ (Reg.EVF_PEND_PEND t (ev / 32)).key := by simp only [Fld.key]; omega
    have hc : (Reg.EVF_PEND_PEND g (ev / 32)).key ≠ Reg.EVF_COAL_COUNT.key := by simp only [Fld.key]; omega
    unfold deliver; simp only []; split
    · rw [incSat_eq, rd_wr_ne _ _ hc]; exact hp
    · rw [setB_eq, rd_wr_ne _ _ hk]; exact hp

/-- An event is pending at every target of its route (R71). -/
theorem raisedIn_raise (s : State) (ev : Nat) (h : s.regsOk) (hev : ev < 192) : s.raisedIn (s.raise ev) ev := by
  intro g hg hb
  have key : ∀ (l : List Nat) (s : State), (∀ x ∈ l, x < 6) → s.regsOk → (g ∈ l ∨ s.pendingAt g ev = true) →
      (s.forEach l (fun s i => s.deliver ev i)).pendingAt g ev = true := by
    intro l
    induction l with
    | nil =>
      intro s _ _ hm
      rcases hm with hm | hm
      · exact absurd hm (by simp)
      · exact hm
    | cons a l ih =>
      intro s hl hs hm
      have ha := hl a (by simp)
      refine ih (s.deliver ev a) (fun x hx => hl x (by simp [hx])) (regsOk_deliver ev a hs) ?_
      rcases hm with hm | hm
      · rcases List.mem_cons.mp hm with rfl | hm
        · exact .inr (pendingAt_deliver ev g hs ha hev)
        · exact .inl hm
      · exact .inr (pendingAt_deliver_keeps ev a g hs ha hg hev hm)
  have hm : g ∈ bitsOf 6 (s.eventTargets ev) := by simp [bitsOf, hg, hb]
  have := key (bitsOf 6 (s.eventTargets ev)) s (fun x hx => (mem_bitsOf hx).1) h (.inl hm)
  unfold pendingAt at *
  rwa [rd_eq, raise_regs, ← rd_eq]

/-- The register list keeps rising under an event. -/
theorem regsOk_raise {s : State} (ev : Nat) (h : s.regsOk) : (s.raise ev).regsOk := raise_keysRise s ev h

/-- Routes of an event are read from registers that an event does not write. -/
theorem eventTargets_of_rd {s t : State} (ev : Nat) (h : t.rd (Reg.EVF_ROUTE_TARGET ev) = s.rd (Reg.EVF_ROUTE_TARGET ev)) :
    t.eventTargets ev = s.eventTargets ev := by
  unfold eventTargets; rw [h]

/-- An event raised on the way from `s` to `t` is pending in `t` where the steps before it leave its route and the steps after it
leave its pending words. -/
theorem raisedIn_next {s u t : State} {ev : Nat} (hu : u.regsOk) (hev : ev < 192)
    (hr : u.rd (Reg.EVF_ROUTE_TARGET ev) = s.rd (Reg.EVF_ROUTE_TARGET ev))
    (hk : ∀ g, g < 6 → t.rd (Reg.EVF_PEND_PEND g (ev / 32)) = (u.raise ev).rd (Reg.EVF_PEND_PEND g (ev / 32))) : s.raisedIn t ev := by
  intro g hg hb
  have := raisedIn_raise u ev hu hev g hg (by rwa [eventTargets_of_rd ev hr])
  unfold pendingAt at *
  rwa [hk g hg]

end State
end Sys2Proof.Machine
end

