-- ==== Sys2Proof/Laws/Keeps.lean ====
section
/-! SUPPORT. Laws/Keeps.lean: what an operation keeps, as one relation: it leaves the queue, it keeps every memory and the register
list canonical, and it leaves every part of the state whose bit in a mask is 0. The rules below follow the forms in which the meanings
are written; Laws/Keeps<Name>.lean holds one lemma for each operation of Machine/<Name>.lean. -/

set_option Elab.async false

namespace Sys2Proof.Machine

/-- Bit `i` of a mask is set. -/
abbrev inMask (c i : Nat) : Prop := c.testBit i = true

/-- From `s` to `t`, only the parts of the state in the mask may differ, and the registers; canonical form and the queue are kept.
Bits of the mask: 1 rw1, 2 sram, 3 capture, 4 tcmA, 5 tcmB, 6 mcMem, 7 scMem, 8 bus, 9 oper, 10 power, 11 now, 12 freeCtr, 13 cross, 14 slink, 15 orbit, 16 pairs, 17 pwm, 18 les, 19 safety, 20 tpp, 21 drv, 22 sense, 23 cmp, 24 gs, 25 ee, 26 pe, 27 me, 28 nv, 29 cmt, 30 umb, 31 cvu, 32 sec, 33 clk. -/
structure Keeps (c : Nat) (s t : State) : Prop where
  canonical : s.Canonical → t.Canonical
  shaped : s.Shaped → t.Shaped
  pending : t.pending = s.pending
  rw1 : ¬ inMask c 1 → t.rw1 = s.rw1
  sram : ¬ inMask c 2 → t.sram = s.sram
  capture : ¬ inMask c 3 → t.capture = s.capture
  tcmA : ¬ inMask c 4 → t.tcmA = s.tcmA
  tcmB : ¬ inMask c 5 → t.tcmB = s.tcmB
  mcMem : ¬ inMask c 6 → t.mcMem = s.mcMem
  scMem : ¬ inMask c 7 → t.scMem = s.scMem
  bus : ¬ inMask c 8 → t.bus = s.bus
  oper : ¬ inMask c 9 → t.oper = s.oper
  power : ¬ inMask c 10 → t.power = s.power
  now : ¬ inMask c 11 → t.now = s.now
  freeCtr : ¬ inMask c 12 → t.freeCtr = s.freeCtr
  cross : ¬ inMask c 13 → t.cross = s.cross
  slink : ¬ inMask c 14 → t.slink = s.slink
  orbit : ¬ inMask c 15 → t.orbit = s.orbit
  pairs : ¬ inMask c 16 → t.pairs = s.pairs
  pwm : ¬ inMask c 17 → t.pwm = s.pwm
  les : ¬ inMask c 18 → t.les = s.les
  safety : ¬ inMask c 19 → t.safety = s.safety
  tpp : ¬ inMask c 20 → t.tpp = s.tpp
  drv : ¬ inMask c 21 → t.drv = s.drv
  sense : ¬ inMask c 22 → t.sense = s.sense
  cmp : ¬ inMask c 23 → t.cmp = s.cmp
  gs : ¬ inMask c 24 → t.gs = s.gs
  ee : ¬ inMask c 25 → t.ee = s.ee
  pe : ¬ inMask c 26 → t.pe = s.pe
  me : ¬ inMask c 27 → t.me = s.me
  nv : ¬ inMask c 28 → t.nv = s.nv
  cmt : ¬ inMask c 29 → t.cmt = s.cmt
  umb : ¬ inMask c 30 → t.umb = s.umb
  cvu : ¬ inMask c 31 → t.cvu = s.cvu
  sec : ¬ inMask c 32 → t.sec = s.sec
  clk : ¬ inMask c 33 → t.clk = s.clk

/-- The same of the second part of a pair, of an optional state, and of an outcome. -/
def KeepsP {α : Type} (c : Nat) (s : State) (p : α × State) : Prop := Keeps c s p.2
def KeepsO (c : Nat) (s : State) (o : Option State) : Prop := ∀ t, o = some t → Keeps c s t
def KeepsN (c : Nat) (s : State) (o : Out) : Prop := ∀ t, o = .next t → Keeps c s t

/-- The state in the answer of a TPP operation. -/
def State.OpRes.out : State.OpRes → State
  | .reply _ _ s => s
  | .later s => s
  | .hold s => s

def KeepsR (c : Nat) (s : State) (r : State.OpRes) : Prop := Keeps c s r.out

namespace Keeps

/-- One mask lies within another. -/
abbrev within (d c : Nat) : Prop := (List.range 35).all (fun i => !d.testBit i || c.testBit i) = true

theorem within_trans {d c b : Nat} (h1 : within d c) (h2 : within c b) : within d b := by
  simp only [within, List.all_eq_true, Bool.or_eq_true, Bool.not_eq_eq_eq_not, Bool.not_true] at *
  intro i hi
  rcases h1 i hi with h | h
  · exact .inl h
  · rcases h2 i hi with h3 | h3
    · rw [h] at h3; exact absurd h3 (by decide)
    · exact .inr h3

theorem within_bit {d c i : Nat} (h : within d c) (hi : i < 35) (hc : ¬ inMask c i) : ¬ inMask d i := by
  intro hd
  have := List.all_eq_true.mp h i (List.mem_range.mpr hi)
  unfold inMask at hd hc
  rw [hd] at this
  simp at this
  exact hc this

theorem refl {c : Nat} {s : State} : Keeps c s s := by
  constructor <;> first | exact id | rfl | (intro; rfl)

theorem trans {c : Nat} {s t u : State} (h1 : Keeps c s t) (h2 : Keeps c t u) : Keeps c s u where
  canonical h := h2.canonical (h1.canonical h)
  shaped h := h2.shaped (h1.shaped h)
  pending := h2.pending.trans h1.pending
  rw1 h := (h2.rw1 h).trans (h1.rw1 h)
  sram h := (h2.sram h).trans (h1.sram h)
  capture h := (h2.capture h).trans (h1.capture h)
  tcmA h := (h2.tcmA h).trans (h1.tcmA h)
  tcmB h := (h2.tcmB h).trans (h1.tcmB h)
  mcMem h := (h2.mcMem h).trans (h1.mcMem h)
  scMem h := (h2.scMem h).trans (h1.scMem h)
  bus h := (h2.bus h).trans (h1.bus h)
  oper h := (h2.oper h).trans (h1.oper h)
  power h := (h2.power h).trans (h1.power h)
  now h := (h2.now h).trans (h1.now h)
  freeCtr h := (h2.freeCtr h).trans (h1.freeCtr h)
  cross h := (h2.cross h).trans (h1.cross h)
  slink h := (h2.slink h).trans (h1.slink h)
  orbit h := (h2.orbit h).trans (h1.orbit h)
  pairs h := (h2.pairs h).trans (h1.pairs h)
  pwm h := (h2.pwm h).trans (h1.pwm h)
  les h := (h2.les h).trans (h1.les h)
  safety h := (h2.safety h).trans (h1.safety h)
  tpp h := (h2.tpp h).trans (h1.tpp h)
  drv h := (h2.drv h).trans (h1.drv h)
  sense h := (h2.sense h).trans (h1.sense h)
  cmp h := (h2.cmp h).trans (h1.cmp h)
  gs h := (h2.gs h).trans (h1.gs h)
  ee h := (h2.ee h).trans (h1.ee h)
  pe h := (h2.pe h).trans (h1.pe h)
  me h := (h2.me h).trans (h1.me h)
  nv h := (h2.nv h).trans (h1.nv h)
  cmt h := (h2.cmt h).trans (h1.cmt h)
  umb h := (h2.umb h).trans (h1.umb h)
  cvu h := (h2.cvu h).trans (h1.cvu h)
  sec h := (h2.sec h).trans (h1.sec h)
  clk h := (h2.clk h).trans (h1.clk h)

theorem mono {d c : Nat} {s t : State} (h : Keeps d s t) (hd : within d c) : Keeps c s t where
  canonical := h.canonical
  shaped := h.shaped
  pending := h.pending
  rw1 hc := h.rw1 (within_bit hd (by decide) hc)
  sram hc := h.sram (within_bit hd (by decide) hc)
  capture hc := h.capture (within_bit hd (by decide) hc)
  tcmA hc := h.tcmA (within_bit hd (by decide) hc)
  tcmB hc := h.tcmB (within_bit hd (by decide) hc)
  mcMem hc := h.mcMem (within_bit hd (by decide) hc)
  scMem hc := h.scMem (within_bit hd (by decide) hc)
  bus hc := h.bus (within_bit hd (by decide) hc)
  oper hc := h.oper (within_bit hd (by decide) hc)
  power hc := h.power (within_bit hd (by decide) hc)
  now hc := h.now (within_bit hd (by decide) hc)
  freeCtr hc := h.freeCtr (within_bit hd (by decide) hc)
  cross hc := h.cross (within_bit hd (by decide) hc)
  slink hc := h.slink (within_bit hd (by decide) hc)
  orbit hc := h.orbit (within_bit hd (by decide) hc)
  pairs hc := h.pairs (within_bit hd (by decide) hc)
  pwm hc := h.pwm (within_bit hd (by decide) hc)
  les hc := h.les (within_bit hd (by decide) hc)
  safety hc := h.safety (within_bit hd (by decide) hc)
  tpp hc := h.tpp (within_bit hd (by decide) hc)
  drv hc := h.drv (within_bit hd (by decide) hc)
  sense hc := h.sense (within_bit hd (by decide) hc)
  cmp hc := h.cmp (within_bit hd (by decide) hc)
  gs hc := h.gs (within_bit hd (by decide) hc)
  ee hc := h.ee (within_bit hd (by decide) hc)
  pe hc := h.pe (within_bit hd (by decide) hc)
  me hc := h.me (within_bit hd (by decide) hc)
  nv hc := h.nv (within_bit hd (by decide) hc)
  cmt hc := h.cmt (within_bit hd (by decide) hc)
  umb hc := h.umb (within_bit hd (by decide) hc)
  cvu hc := h.cvu (within_bit hd (by decide) hc)
  sec hc := h.sec (within_bit hd (by decide) hc)
  clk hc := h.clk (within_bit hd (by decide) hc)

/-- An operation after what has been kept so far. -/
theorem next {d c : Nat} {s t u : State} (k : Keeps d t u) (hd : within d c) (h : Keeps c s t) : Keeps c s u := h.trans (k.mono hd)

theorem nextP {α : Type} {d c : Nat} {s t : State} {p : α × State} (k : KeepsP d t p) (hd : within d c) (h : Keeps c s t) : KeepsP c s p :=
  h.trans (Keeps.mono k hd)

theorem nextO {d c : Nat} {s t : State} {o : Option State} (k : KeepsO d t o) (hd : within d c) (h : Keeps c s t) : KeepsO c s o :=
  fun u hu => h.trans ((k u hu).mono hd)

theorem nextR {d c : Nat} {s t : State} {r : State.OpRes} (k : KeepsR d t r) (hd : within d c) (h : Keeps c s t) : KeepsR c s r :=
  h.trans (Keeps.mono k hd)

theorem nextN {d c : Nat} {s t : State} {r : Out} (k : KeepsN d t r) (hd : within d c) (h : Keeps c s t) : KeepsN c s r :=
  fun u hu => h.trans ((k u hu).mono hd)

/-! ### Choices -/

theorem ite {c : Nat} {s a b : State} {p : Prop} [Decidable p] (ha : Keeps c s a) (hb : Keeps c s b) : Keeps c s (if p then a else b) := by
  split
  · exact ha
  · exact hb

theorem iteP {α : Type} {c : Nat} {s : State} {a b : α × State} {p : Prop} [Decidable p] (ha : KeepsP c s a) (hb : KeepsP c s b) :
    KeepsP c s (if p then a else b) := by
  split
  · exact ha
  · exact hb

theorem iteO {c : Nat} {s : State} {a b : Option State} {p : Prop} [Decidable p] (ha : KeepsO c s a) (hb : KeepsO c s b) :
    KeepsO c s (if p then a else b) := by
  split
  · exact ha
  · exact hb

theorem iteR {c : Nat} {s : State} {a b : State.OpRes} {p : Prop} [Decidable p] (ha : KeepsR c s a) (hb : KeepsR c s b) :
    KeepsR c s (if p then a else b) := by
  split
  · exact ha
  · exact hb

theorem reflP {α : Type} {c : Nat} {p : α × State} : KeepsP c p.2 p := refl

theorem pair_eq {α : Type} {c : Nat} {s : State} {a : α} {t : State} : KeepsP c s (a, t) = Keeps c s t := rfl

theorem pair {α : Type} {c : Nat} {s : State} {a : α} {t : State} (h : Keeps c s t) : KeepsP c s (a, t) := h

/-- The state that a match takes out of a pair. -/
theorem of_pair {α : Type} {c : Nat} {s t : State} {x : α × State} {a : α} (e : x = (a, t)) (h : KeepsP c s x) : Keeps c s t := by
  subst e; exact h

theorem snd {α : Type} {c : Nat} {s : State} {p : α × State} (h : KeepsP c s p) : Keeps c s p.2 := h

theorem of_some {c : Nat} {s t : State} {x : Option State} (e : x = some t) (h : KeepsO c s x) : Keeps c s t := h t e

theorem none {c : Nat} {s : State} : KeepsO c s none := fun _ h => nomatch h

theorem some {c : Nat} {s t : State} (h : Keeps c s t) : KeepsO c s (some t) := fun _ e => by cases e; exact h

theorem reply {c : Nat} {s t : State} {st : Nat} {pl : List Byte} (h : Keeps c s t) : KeepsR c s (.reply st pl t) := h
theorem later {c : Nat} {s t : State} (h : Keeps c s t) : KeepsR c s (.later t) := h
theorem hold {c : Nat} {s t : State} (h : Keeps c s t) : KeepsR c s (.hold t) := h
theorem out {c : Nat} {s t : State} (h : Keeps c s t) : KeepsN c s (.next t) := fun _ e => by cases e; exact h

/-! ### Iteration -/

theorem foldl {α : Type} {c : Nat} {s t : State} {l : List α} {f : State → α → State} (h : Keeps c s t) (hf : ∀ s x, Keeps c s (f s x)) :
    Keeps c s (l.foldl f t) := by
  induction l generalizing t with
  | nil => exact h
  | cons a l ih => exact ih (h.trans (hf t a))

theorem foldlP {α β : Type} {c : Nat} {s : State} {t : β × State} {l : List α} {f : β × State → α → β × State} (h : KeepsP c s t)
    (hf : ∀ s x, KeepsP c s.2 (f s x)) : KeepsP c s (l.foldl f t) := by
  induction l generalizing t with
  | nil => exact h
  | cons a l ih => exact ih (Keeps.trans h (hf t a))

theorem forEach {α : Type} {c : Nat} {s t : State} {l : List α} {f : State → α → State} (h : Keeps c s t) (hf : ∀ s x, Keeps c s (f s x)) :
    Keeps c s (t.forEach l f) := foldl h hf

theorem when {c : Nat} {s t : State} {b : Bool} {f : State → State} (h : Keeps c s t) (hf : ∀ s, Keeps c s (f s)) : Keeps c s (t.when b f) := by
  unfold State.when
  split
  · exact h.trans (hf t)
  · exact h

theorem comp {c : Nat} {s t : State} {f : State → State} (hf : ∀ s, Keeps c s (f s)) (h : Keeps c s t) : Keeps c s (f t) := h.trans (hf t)

/-! ### Updates -/

/-- The same relation, for a state that is written out as an update. -/
structure Built (c : Nat) (s t : State) : Prop where
  keeps : Keeps c s t

theorem built {c : Nat} {s : State} {a0 a1 a2 a3 a4 a5 a6 a7 a8 a9 a10 a11 a12 a13 a14 a15 a16 a17 a18 a19 a20 a21 a22 a23 a24 a25 a26 a27 a28 a29 a30 a31 a32 a33 a34} :
    Keeps c s (State.mk a0 a1 a2 a3 a4 a5 a6 a7 a8 a9 a10 a11 a12 a13 a14 a15 a16 a17 a18 a19 a20 a21 a22 a23 a24 a25 a26 a27 a28 a29 a30 a31 a32 a33 a34) = Built c s (State.mk a0 a1 a2 a3 a4 a5 a6 a7 a8 a9 a10 a11 a12 a13 a14 a15 a16 a17 a18 a19 a20 a21 a22 a23 a24 a25 a26 a27 a28 a29 a30 a31 a32 a33 a34) := propext ⟨fun h => ⟨h⟩, fun h => h.keeps⟩

/-- An update of parts of the state in the mask. -/
theorem upd {c : Nat} {s t : State} {a1 : _} {a2 : _} {a3 : _} {a4 : _} {a5 : _} {a6 : _} {a7 : _} {a8 : _} {a9 : _} {a10 : _} {a11 : _} {a12 : _} {a13 : _} {a14 : _} {a15 : _} {a16 : _} {a17 : _} {a18 : _} {a19 : _} {a20 : _} {a21 : _} {a22 : _} {a23 : _} {a24 : _} {a25 : _} {a26 : _} {a27 : _} {a28 : _} {a29 : _} {a30 : _} {a31 : _} {a32 : _} {a33 : _} {a34 : _} (h : Keeps c s t)
    (h1 : inMask c 1 ∨ a1 = t.rw1 := by first | exact Or.inl rfl | (with_reducible exact Or.inr rfl) | exact Or.inr rfl)
    (h2 : (inMask c 2 ∧ (t.Canonical → Memory.wf a2)) ∨ a2 = t.sram := by
      first | (with_reducible exact Or.inr rfl) | exact Or.inl ⟨rfl, fun _ => Memory.wf_nil⟩ | exact Or.inl ⟨rfl, fun hc => Memory.wf_write _ _ hc.sram⟩  | exact Or.inr rfl)
    (h3 : (inMask c 3 ∧ (t.Canonical → Memory.wf a3)) ∨ a3 = t.capture := by
      first | (with_reducible exact Or.inr rfl) | exact Or.inl ⟨rfl, fun _ => Memory.wf_nil⟩ | exact Or.inl ⟨rfl, fun hc => Memory.wf_write _ _ hc.capture⟩  | exact Or.inr rfl)
    (h4 : (inMask c 4 ∧ (t.Canonical → keysRise a4 = true)) ∨ a4 = t.tcmA := by first | (with_reducible exact Or.inr rfl) | exact Or.inl ⟨rfl, fun _ => rfl⟩ | exact Or.inr rfl)
    (h5 : (inMask c 5 ∧ (t.Canonical → keysRise a5 = true)) ∨ a5 = t.tcmB := by first | (with_reducible exact Or.inr rfl) | exact Or.inl ⟨rfl, fun _ => rfl⟩ | exact Or.inr rfl)
    (h6 : (inMask c 6 ∧ (t.Canonical → Memory.wf a6)) ∨ a6 = t.mcMem := by
      first | (with_reducible exact Or.inr rfl) | exact Or.inl ⟨rfl, fun _ => Memory.wf_nil⟩ | exact Or.inl ⟨rfl, fun hc => Memory.wf_write _ _ hc.mcMem⟩  | exact Or.inr rfl)
    (h7 : (inMask c 7 ∧ (t.Canonical → Memory.wf a7)) ∨ a7 = t.scMem := by
      first | (with_reducible exact Or.inr rfl) | exact Or.inl ⟨rfl, fun _ => Memory.wf_nil⟩ | exact Or.inl ⟨rfl, fun hc => Memory.wf_write _ _ hc.scMem⟩  | exact Or.inr rfl)
    (h8 : inMask c 8 ∨ a8 = t.bus := by first | exact Or.inl rfl | (with_reducible exact Or.inr rfl) | exact Or.inr rfl)
    (h9 : inMask c 9 ∨ a9 = t.oper := by first | exact Or.inl rfl | (with_reducible exact Or.inr rfl) | exact Or.inr rfl)
    (h10 : inMask c 10 ∨ a10 = t.power := by first | exact Or.inl rfl | (with_reducible exact Or.inr rfl) | exact Or.inr rfl)
    (h11 : inMask c 11 ∨ a11 = t.now := by first | exact Or.inl rfl | (with_reducible exact Or.inr rfl) | exact Or.inr rfl)
    (h12 : inMask c 12 ∨ a12 = t.freeCtr := by first | exact Or.inl rfl | (with_reducible exact Or.inr rfl) | exact Or.inr rfl)
    (h13 : inMask c 13 ∨ a13 = t.cross := by first | exact Or.inl rfl | (with_reducible exact Or.inr rfl) | exact Or.inr rfl)
    (h14 : inMask c 14 ∨ a14 = t.slink := by first | exact Or.inl rfl | (with_reducible exact Or.inr rfl) | exact Or.inr rfl)
    (h15 : inMask c 15 ∨ a15 = t.orbit := by first | exact Or.inl rfl | (with_reducible exact Or.inr rfl) | exact Or.inr rfl)
    (h16 : inMask c 16 ∨ a16 = t.pairs := by first | exact Or.inl rfl | (with_reducible exact Or.inr rfl) | exact Or.inr rfl)
    (h17 : inMask c 17 ∨ a17 = t.pwm := by first | exact Or.inl rfl | (with_reducible exact Or.inr rfl) | exact Or.inr rfl)
    (h18 : inMask c 18 ∨ a18 = t.les := by first | exact Or.inl rfl | (with_reducible exact Or.inr rfl) | exact Or.inr rfl)
    (h19 : inMask c 19 ∨ a19 = t.safety := by first | exact Or.inl rfl | (with_reducible exact Or.inr rfl) | exact Or.inr rfl)
    (h20 : inMask c 20 ∨ a20 = t.tpp := by first | exact Or.inl rfl | (with_reducible exact Or.inr rfl) | exact Or.inr rfl)
    (h21 : inMask c 21 ∨ a21 = t.drv := by first | exact Or.inl rfl | (with_reducible exact Or.inr rfl) | exact Or.inr rfl)
    (h22 : inMask c 22 ∨ a22 = t.sense := by first | exact Or.inl rfl | (with_reducible exact Or.inr rfl) | exact Or.inr rfl)
    (h23 : inMask c 23 ∨ a23 = t.cmp := by first | exact Or.inl rfl | (with_reducible exact Or.inr rfl) | exact Or.inr rfl)
    (h24 : inMask c 24 ∨ a24 = t.gs := by first | exact Or.inl rfl | (with_reducible exact Or.inr rfl) | exact Or.inr rfl)
    (h25 : inMask c 25 ∨ a25 = t.ee := by first | exact Or.inl rfl | (with_reducible exact Or.inr rfl) | exact Or.inr rfl)
    (h26 : inMask c 26 ∨ a26 = t.pe := by first | exact Or.inl rfl | (with_reducible exact Or.inr rfl) | exact Or.inr rfl)
    (h27 : inMask c 27 ∨ a27 = t.me := by first | exact Or.inl rfl | (with_reducible exact Or.inr rfl) | exact Or.inr rfl)
    (h28 : inMask c 28 ∨ a28 = t.nv := by first | exact Or.inl rfl | (with_reducible exact Or.inr rfl) | exact Or.inr rfl)
    (h29 : inMask c 29 ∨ a29 = t.cmt := by first | exact Or.inl rfl | (with_reducible exact Or.inr rfl) | exact Or.inr rfl)
    (h30 : inMask c 30 ∨ a30 = t.umb := by first | exact Or.inl rfl | (with_reducible exact Or.inr rfl) | exact Or.inr rfl)
    (h31 : inMask c 31 ∨ a31 = t.cvu := by first | exact Or.inl rfl | (with_reducible exact Or.inr rfl) | exact Or.inr rfl)
    (h32 : inMask c 32 ∨ a32 = t.sec := by first | exact Or.inl rfl | (with_reducible exact Or.inr rfl) | exact Or.inr rfl)
    (h33 : inMask c 33 ∨ a33 = t.clk := by first | exact Or.inl rfl | (with_reducible exact Or.inr rfl) | exact Or.inr rfl)
    (h34 : a34 = t.pending := by rfl)
    (hs : t.Shaped → State.Shaped (State.mk t.regs a1 a2 a3 a4 a5 a6 a7 a8 a9 a10 a11 a12 a13 a14 a15 a16 a17 a18 a19 a20 a21 a22 a23 a24 a25 a26 a27 a28 a29 a30 a31 a32 a33 a34) := by
      intro h; exact ⟨(by first | (with_reducible exact h.pwmPairs) | (simp only [setNth, List.length_set]; exact h.pwmPairs) | rfl | simp [setNth, h.pwmPairs]),
        (by first | (with_reducible exact h.pwmClusters) | (simp only [setNth, List.length_set]; exact h.pwmClusters) | rfl | simp [setNth, h.pwmClusters]),
        (by first | (with_reducible exact h.tripLines) | (simp only [setNth, List.length_set]; exact h.tripLines) | rfl | simp [setNth, h.tripLines]),
        (by first | (with_reducible exact h.legs) | (simp only [setNth, List.length_set]; exact h.legs) | rfl | simp [setNth, h.legs]),
        (by first | (with_reducible exact h.sars) | (simp only [setNth, List.length_set]; exact h.sars) | rfl | simp [setNth, h.sars]),
        (by first | (with_reducible exact h.wins) | (simp only [setNth, List.length_set]; exact h.wins) | rfl | simp [setNth, h.wins]),
        (by first | (with_reducible exact h.banks) | (simp only [setNth, List.length_set]; exact h.banks) | rfl | simp [setNth, h.banks]),
        (by first | (with_reducible exact h.chans) | (simp only [setNth, List.length_set]; exact h.chans) | rfl | simp [setNth, h.chans]),
        (by first | (with_reducible exact h.links) | (simp only [setNth, List.length_set]; exact h.links) | rfl | simp [setNth, h.links]),
        (by first | (with_reducible exact h.lanes) | (simp only [setNth, List.length_set]; exact h.lanes) | rfl | simp [setNth, h.lanes]),
        (by first | (with_reducible exact h.alive) | (simp only [setNth, List.length_set]; exact h.alive) | rfl | simp [setNth, h.alive]),
        (by first | (with_reducible exact h.tunnels) | (simp only [setNth, List.length_set]; exact h.tunnels) | rfl | simp [setNth, h.tunnels]),
        (by first | (with_reducible exact h.loaded) | (simp only [setNth, List.length_set]; exact h.loaded) | rfl | simp [setNth, h.loaded]),
        (by first | (with_reducible exact h.trial) | (simp only [setNth, List.length_set]; exact h.trial) | rfl | simp [setNth, h.trial])⟩) :
    Built c s (State.mk t.regs a1 a2 a3 a4 a5 a6 a7 a8 a9 a10 a11 a12 a13 a14 a15 a16 a17 a18 a19 a20 a21 a22 a23 a24 a25 a26 a27 a28 a29 a30 a31 a32 a33 a34) := by
  subst h34
  refine ⟨?_⟩
  constructor
  · intro hs
    have hc := h.canonical hs
    exact { regs := hc.regs
            sram := h2.elim (fun h => h.2 hc) (fun h => h ▸ hc.sram)
            capture := h3.elim (fun h => h.2 hc) (fun h => h ▸ hc.capture)
            mcMem := h6.elim (fun h => h.2 hc) (fun h => h ▸ hc.mcMem)
            scMem := h7.elim (fun h => h.2 hc) (fun h => h ▸ hc.scMem)
            tcmA := h4.elim (fun h => h.2 hc) (fun h => h ▸ hc.tcmA)
            tcmB := h5.elim (fun h => h.2 hc) (fun h => h ▸ hc.tcmB) }
  · exact fun hc => hs (h.shaped hc)
  · exact h.pending
  · exact fun hc => (h1.resolve_left hc).trans (h.rw1 hc)
  · exact fun hc => (h2.resolve_left fun h => hc h.1).trans (h.sram hc)
  · exact fun hc => (h3.resolve_left fun h => hc h.1).trans (h.capture hc)
  · exact fun hc => (h4.resolve_left fun h => hc h.1).trans (h.tcmA hc)
  · exact fun hc => (h5.resolve_left fun h => hc h.1).trans (h.tcmB hc)
  · exact fun hc => (h6.resolve_left fun h => hc h.1).trans (h.mcMem hc)
  · exact fun hc => (h7.resolve_left fun h => hc h.1).trans (h.scMem hc)
  · exact fun hc => (h8.resolve_left hc).trans (h.bus hc)
  · exact fun hc => (h9.resolve_left hc).trans (h.oper hc)
  · exact fun hc => (h10.resolve_left hc).trans (h.power hc)
  · exact fun hc => (h11.resolve_left hc).trans (h.now hc)
  · exact fun hc => (h12.resolve_left hc).trans (h.freeCtr hc)
  · exact fun hc => (h13.resolve_left hc).trans (h.cross hc)
  · exact fun hc => (h14.resolve_left hc).trans (h.slink hc)
  · exact fun hc => (h15.resolve_left hc).trans (h.orbit hc)
  · exact fun hc => (h16.resolve_left hc).trans (h.pairs hc)
  · exact fun hc => (h17.resolve_left hc).trans (h.pwm hc)
  · exact fun hc => (h18.resolve_left hc).trans (h.les hc)
  · exact fun hc => (h19.resolve_left hc).trans (h.safety hc)
  · exact fun hc => (h20.resolve_left hc).trans (h.tpp hc)
  · exact fun hc => (h21.resolve_left hc).trans (h.drv hc)
  · exact fun hc => (h22.resolve_left hc).trans (h.sense hc)
  · exact fun hc => (h23.resolve_left hc).trans (h.cmp hc)
  · exact fun hc => (h24.resolve_left hc).trans (h.gs hc)
  · exact fun hc => (h25.resolve_left hc).trans (h.ee hc)
  · exact fun hc => (h26.resolve_left hc).trans (h.pe hc)
  · exact fun hc => (h27.resolve_left hc).trans (h.me hc)
  · exact fun hc => (h28.resolve_left hc).trans (h.nv hc)
  · exact fun hc => (h29.resolve_left hc).trans (h.cmt hc)
  · exact fun hc => (h30.resolve_left hc).trans (h.umb hc)
  · exact fun hc => (h31.resolve_left hc).trans (h.cvu hc)
  · exact fun hc => (h32.resolve_left hc).trans (h.sec hc)
  · exact fun hc => (h33.resolve_left hc).trans (h.clk hc)

/-- A cheap test that the goal is `Built`. -/
theorem atBuilt {c : Nat} {s t : State} (h : Built c s t) : Built c s t := h

/-- The lengths that `Shaped` speaks of. -/
def lens (s : State) : List Nat := [s.pwm.pairs.length, s.pwm.clusters.length, s.pwm.lines.length, s.drv.legs.length, s.sense.sars.length, s.cmp.wins.length, s.cmp.banks.length, s.pe.chans.length, s.cmt.links.length, s.cmt.lanes.length, s.cvu.alive.length, s.tpp.tunnels.length, s.sec.loaded.length, s.nv.trial.length]

/-- A state with the same lengths has the same shape. -/
theorem shaped_of {s t : State} (h : lens t = lens s) (hs : s.Shaped) : t.Shaped := by
  simp only [lens, List.cons.injEq, and_true] at h
  obtain ⟨h0, h1, h2, h3, h4, h5, h6, h7, h8, h9, h10, h11, h12, h13⟩ := h
  exact ⟨h0.trans hs.pwmPairs, h1.trans hs.pwmClusters, h2.trans hs.tripLines, h3.trans hs.legs, h4.trans hs.sars, h5.trans hs.wins, h6.trans hs.banks, h7.trans hs.chans, h8.trans hs.links, h9.trans hs.lanes, h10.trans hs.alive, h11.trans hs.tunnels, h12.trans hs.loaded, h13.trans hs.trial⟩

/-- A write of a register field. -/
theorem wr {c : Nat} {s t : State} {f : Fld} {v : Nat} (h : Keeps c s t) : Keeps c s (t.wr f v) := by
  refine h.trans ?_
  constructor <;> first | rfl | (intro _; rfl) | skip
  · rintro ⟨c1, c2, c3, c4, c5, c6, c7⟩
    exact ⟨keysRise_set _ _ _ c1, c2, c3, c4, c5, c6, c7⟩
  · exact shaped_of rfl

/-- Fields of a range of addresses take their reset value. -/
theorem clearRegs {c : Nat} {s t : State} {lo hi : Nat} (h : Keeps c s t) : Keeps c s (t.clearRegs lo hi) := by
  refine h.trans ?_
  constructor <;> first | rfl | (intro _; rfl) | skip
  · rintro ⟨c1, c2, c3, c4, c5, c6, c7⟩
    exact ⟨keysRise_filter _ c1, c2, c3, c4, c5, c6, c7⟩
  · exact shaped_of rfl

/-- Fields of a set of keys take their reset value. -/
theorem dropKeys {c : Nat} {s t : State} {p : Nat → Bool} (ha : inMask c 1) (h : Keeps c s t) : Keeps c s (t.dropKeys p) := by
  refine h.trans ?_
  constructor <;> first | rfl | (intro _; rfl) | (intro hc; exact absurd ha hc) | skip
  · rintro ⟨c1, c2, c3, c4, c5, c6, c7⟩
    exact ⟨keysRise_filter _ c1, c2, c3, c4, c5, c6, c7⟩
  · exact shaped_of rfl

/-- The TCM of a pair in a canonical state. -/
theorem tcmOf {s : State} (h : s.Canonical) (p : PairId) : keysRise (s.tcm p) = true := by
  cases p
  · exact h.tcmA
  · exact h.tcmB

/-- Writing bytes keeps the keys rising. -/
theorem keysRise_write {m : List Host.Cell} (a : Nat) (bs : List Byte) (h : keysRise m = true) : keysRise (memWrite m a bs) = true := by
  induction bs generalizing m a with
  | nil => exact h
  | cons b bs ih => exact ih (a + 1) (keysRise_set a b 0 h)

/-- The TCM of a pair is replaced by a canonical one. -/
theorem setTcm {c : Nat} {s t : State} {p : PairId} {m : List Host.Cell} (ha : inMask c 4) (hb : inMask c 5) (h : Keeps c s t)
    (hm : t.Canonical → keysRise m = true) : Keeps c s (t.setTcm p m) := by
  refine h.trans ?_
  cases p
  · constructor <;> first | rfl | (intro _; rfl) | (intro hc; exact absurd ha hc) | skip
    · intro hc
      exact ⟨hc.regs, hc.sram, hc.capture, hc.mcMem, hc.scMem, hm hc, hc.tcmB⟩
    · exact shaped_of rfl
  · constructor <;> first | rfl | (intro _; rfl) | (intro hc; exact absurd hb hc) | skip
    · intro hc
      exact ⟨hc.regs, hc.sram, hc.capture, hc.mcMem, hc.scMem, hc.tcmA, hm hc⟩
    · exact shaped_of rfl

/-- An answer on the bus. -/
theorem onBus {c : Nat} {s : State} {b : BusResp} (hb : inMask c 8) : Keeps c s { s with bus := b } := by
  constructor <;> first | rfl | (intro _; rfl) | (intro hc; exact absurd hb hc) | skip
  · exact fun ⟨c1, c2, c3, c4, c5, c6, c7⟩ => ⟨c1, c2, c3, c4, c5, c6, c7⟩
  · exact shaped_of rfl

/-- A bus access. -/
theorem access {c : Nat} {s t : State} {m : Master} {a : Nat} {d : Domain} {f : State → State} (hb : inMask c 8) (h : Keeps c s t)
    (hf : ∀ s, Keeps c s (f s)) : Keeps c s (t.access m a d f) := by
  have hu : ∀ b, Keeps c t { t with bus := b } := fun b => onBus hb
  refine h.trans ?_
  unfold State.access
  split
  · exact (hu _).trans (hf _)
  · exact hu _
  · exact hu _
  · exact wr (hu _)
  · exact wr (hu _)

theorem accessCrOnly {c : Nat} {s t : State} {m : Master} {a : Nat} {f : State → State} (hb : inMask c 8) (h : Keeps c s t)
    (hf : ∀ s, Keeps c s (f s)) : Keeps c s (t.accessCrOnly m a f) := by
  unfold State.accessCrOnly
  split
  · exact h.trans (onBus hb)
  · exact access hb h hf

end Keeps
end Sys2Proof.Machine
end

