-- ==== Sys2Proof/Laws/KeepsOps.lean ====
section
/-! SUPPORT. Laws/KeepsOps.lean: what each operation of Machine/Ops.lean keeps. -/

set_option Elab.async false

set_option linter.unusedTactic false
set_option linter.unusedSimpArgs false
set_option linter.unreachableTactic false

namespace Sys2Proof.Machine

theorem kp_incSat (s : State) (f : Fld) : Keeps 0 s (State.incSat s f) := by
  unfold State.incSat
  repeat' first
    | (with_reducible exact Keeps.refl)
    | (with_reducible apply Keeps.wr)
    | (with_reducible apply Keeps.ite)
    | (with_reducible apply Keeps.foldl)
    | intro _
    | split
    | dsimp only

theorem kp_addSat (s : State) (f : Fld) (n : Nat) : Keeps 0 s (State.addSat s f n) := by
  unfold State.addSat
  repeat' first
    | (with_reducible exact Keeps.refl)
    | (with_reducible apply Keeps.wr)
    | (with_reducible apply Keeps.ite)
    | (with_reducible apply Keeps.foldl)
    | intro _
    | split
    | dsimp only

theorem kp_putB (s : State) (f : Fld) (n : Nat) (b : Bool) : Keeps 0 s (State.putB s f n b) := by
  unfold State.putB
  repeat' first
    | (with_reducible exact Keeps.refl)
    | (with_reducible apply Keeps.wr)
    | (with_reducible apply Keeps.ite)
    | (with_reducible apply Keeps.foldl)
    | intro _
    | split
    | dsimp only

theorem kp_setB (s : State) (f : Fld) (n : Nat) : Keeps 0 s (State.setB s f n) := by
  unfold State.setB
  repeat' first
    | (with_reducible exact Keeps.refl)
    | (with_reducible apply Keeps.wr)
    | (with_reducible apply Keeps.ite)
    | (with_reducible apply Keeps.foldl)
    | intro _
    | split
    | dsimp only

theorem kp_deliver (s : State) (ev : Nat) (t : Nat) : Keeps 0 s (State.deliver s ev t) := by
  unfold State.deliver
  repeat' first
    | (with_reducible exact Keeps.refl)
    | (apply Keeps.next; (with_reducible apply kp_incSat); decide)
    | (apply Keeps.next; (with_reducible apply kp_setB); decide)
    | (with_reducible apply Keeps.ite)
    | (with_reducible apply Keeps.foldl)
    | intro _
    | split
    | dsimp only

theorem kp_setPair (s : State) (p : PairId) (v : PairSt) : Keeps 65536 s (State.setPair s p v) := by
  unfold State.setPair
  repeat' first
    | (with_reducible exact Keeps.refl)
    | (with_reducible apply Keeps.atBuilt; refine Keeps.upd ?_)
    | (simp only [Keeps.built])
    | (with_reducible apply Keeps.ite)
    | (with_reducible apply Keeps.foldl)
    | intro _
    | split
    | dsimp only

theorem kp_deliverStandby (s : State) (ev : Nat) (p : PairId) : Keeps 65536 s (State.deliverStandby s ev p) := by
  unfold State.deliverStandby
  repeat' first
    | (with_reducible exact Keeps.refl)
    | (apply Keeps.next; (with_reducible apply kp_setPair); decide)
    | (with_reducible apply Keeps.ite)
    | (with_reducible apply Keeps.foldl)
    | intro _
    | split
    | dsimp only

theorem kp_trigOrbit (s : State) (n : Nat) : Keeps 32768 s (State.trigOrbit s n) := by
  unfold State.trigOrbit
  repeat' first
    | (with_reducible exact Keeps.refl)
    | (with_reducible apply Keeps.atBuilt; refine Keeps.upd ?_)
    | (simp only [Keeps.built])
    | (with_reducible apply Keeps.ite)
    | (with_reducible apply Keeps.foldl)
    | intro _
    | split
    | dsimp only

theorem kp_notify (s : State) (ev : Nat) : Keeps 1048576 s (State.notify s ev) := by
  unfold State.notify
  repeat' first
    | (with_reducible exact Keeps.refl)
    | (with_reducible apply Keeps.atBuilt; refine Keeps.upd ?_)
    | (simp only [Keeps.built])
    | (with_reducible apply Keeps.ite)
    | (with_reducible apply Keeps.foldl)
    | intro _
    | split
    | dsimp only

theorem kp_raise (s : State) (ev : Nat) : Keeps 1146880 s (State.raise s ev) := by
  unfold State.raise
  repeat' first
    | (with_reducible exact Keeps.refl)
    | (apply Keeps.next; (with_reducible apply kp_deliver); decide)
    | (apply Keeps.next; (with_reducible apply kp_deliverStandby); decide)
    | (apply Keeps.next; (with_reducible apply kp_trigOrbit); decide)
    | (apply Keeps.next; (with_reducible apply kp_notify); decide)
    | (with_reducible apply Keeps.when)
    | (with_reducible apply Keeps.forEach)
    | (with_reducible apply Keeps.ite)
    | (with_reducible apply Keeps.foldl)
    | intro _
    | split
    | dsimp only

theorem kp_clrB (s : State) (f : Fld) (n : Nat) : Keeps 0 s (State.clrB s f n) := by
  unfold State.clrB
  repeat' first
    | (with_reducible exact Keeps.refl)
    | (with_reducible apply Keeps.wr)
    | (with_reducible apply Keeps.ite)
    | (with_reducible apply Keeps.foldl)
    | intro _
    | split
    | dsimp only

theorem kp_pwmSafe (s : State) (c : SafeCause) : Keeps 1146880 s (State.pwmSafe s c) := by
  unfold State.pwmSafe
  repeat' first
    | (with_reducible exact Keeps.refl)
    | (with_reducible apply Keeps.wr)
    | (apply Keeps.next; (with_reducible apply kp_setB); decide)
    | (apply Keeps.next; (with_reducible apply kp_raise); decide)
    | (with_reducible apply Keeps.when)
    | (with_reducible apply Keeps.ite)
    | (with_reducible apply Keeps.foldl)
    | intro _
    | split
    | dsimp only

theorem kp_flagRaise (s : State) (f : Fld) (ev : Nat) : Keeps 1146880 s (State.flagRaise s f ev) := by
  unfold State.flagRaise
  repeat' first
    | (with_reducible exact Keeps.refl)
    | (with_reducible apply Keeps.wr)
    | (apply Keeps.next; (with_reducible apply kp_raise); decide)
    | (with_reducible apply Keeps.ite)
    | (with_reducible apply Keeps.foldl)
    | intro _
    | split
    | dsimp only

theorem kp_wrOnce (s : State) (f : Fld) (v : Nat) : Keeps 2 s (State.wrOnce s f v) := by
  unfold State.wrOnce
  repeat' first
    | (with_reducible exact Keeps.refl)
    | (with_reducible apply Keeps.atBuilt; refine Keeps.upd ?_)
    | (simp only [Keeps.built])
    | (with_reducible apply Keeps.wr)
    | (with_reducible apply Keeps.ite)
    | (with_reducible apply Keeps.foldl)
    | intro _
    | split
    | dsimp only

theorem kp_faultHold (s : State) : Keeps 1671680 s (State.faultHold s) := by
  unfold State.faultHold
  repeat' first
    | (with_reducible exact Keeps.refl)
    | (with_reducible apply Keeps.atBuilt; refine Keeps.upd ?_)
    | (simp only [Keeps.built])
    | (apply Keeps.next; (with_reducible apply kp_pwmSafe); decide)
    | (with_reducible apply Keeps.ite)
    | (with_reducible apply Keeps.foldl)
    | intro _
    | split
    | dsimp only

theorem kp_pwmCauseEnds (s : State) (c : SafeCause) : Keeps 0 s (State.pwmCauseEnds s c) := by
  unfold State.pwmCauseEnds
  repeat' first
    | (with_reducible exact Keeps.refl)
    | (apply Keeps.next; (with_reducible apply kp_clrB); decide)
    | (with_reducible apply Keeps.ite)
    | (with_reducible apply Keeps.foldl)
    | intro _
    | split
    | dsimp only

theorem kp_takeFree (s : State) : KeepsP 4096 s (State.takeFree s) := by
  unfold State.takeFree
  repeat' first
    | (with_reducible exact Keeps.refl)
    | (with_reducible apply Keeps.atBuilt; refine Keeps.upd ?_)
    | (simp only [Keeps.built])
    | (with_reducible apply Keeps.ite)
    | (with_reducible apply Keeps.iteP)
    | (with_reducible exact Keeps.reflP)
    | (simp only [Keeps.pair_eq])
    | (with_reducible apply Keeps.snd)
    | (apply Keeps.of_pair; assumption)
    | (with_reducible apply Keeps.foldlP)
    | (with_reducible apply Keeps.foldl)
    | intro _
    | split
    | dsimp only

theorem kp_lateCommit (s : State) : Keeps 8192 s (State.lateCommit s) := by
  unfold State.lateCommit
  repeat' first
    | (with_reducible exact Keeps.refl)
    | (with_reducible apply Keeps.atBuilt; refine Keeps.upd ?_)
    | (simp only [Keeps.built])
    | (with_reducible apply Keeps.ite)
    | (with_reducible apply Keeps.foldl)
    | intro _
    | split
    | dsimp only

theorem kp_fatalDue (s : State) : Keeps 65536 s (State.fatalDue s) := by
  unfold State.fatalDue
  repeat' first
    | (with_reducible exact Keeps.refl)
    | (with_reducible apply Keeps.atBuilt; refine Keeps.upd ?_)
    | (simp only [Keeps.built])
    | (with_reducible apply Keeps.ite)
    | (with_reducible apply Keeps.foldl)
    | intro _
    | split
    | dsimp only

theorem kp_epochDiscard (s : State) : Keeps 1155072 s (State.epochDiscard s) := by
  unfold State.epochDiscard
  repeat' first
    | (with_reducible exact Keeps.refl)
    | (with_reducible apply Keeps.atBuilt; refine Keeps.upd ?_)
    | (simp only [Keeps.built])
    | (apply Keeps.next; (with_reducible apply kp_incSat); decide)
    | (apply Keeps.next; (with_reducible apply kp_raise); decide)
    | (with_reducible apply Keeps.ite)
    | (with_reducible apply Keeps.foldl)
    | intro _
    | split
    | dsimp only

theorem kp_incWrap (s : State) (f : Fld) : Keeps 0 s (State.incWrap s f) := by
  unfold State.incWrap
  repeat' first
    | (with_reducible exact Keeps.refl)
    | (with_reducible apply Keeps.wr)
    | (with_reducible apply Keeps.ite)
    | (with_reducible apply Keeps.foldl)
    | intro _
    | split
    | dsimp only

theorem kp_epochInc (s : State) : Keeps 98304 s (State.epochInc s) := by
  unfold State.epochInc
  repeat' first
    | (with_reducible exact Keeps.refl)
    | (with_reducible apply Keeps.atBuilt; refine Keeps.upd ?_)
    | (simp only [Keeps.built])
    | (apply Keeps.next; (with_reducible apply kp_incWrap); decide)
    | (with_reducible apply Keeps.ite)
    | (with_reducible apply Keeps.foldl)
    | intro _
    | split
    | dsimp only

theorem kp_toTick (s : State) (t : Nat) : Keeps 32768 s (State.toTick s t) := by
  unfold State.toTick
  repeat' first
    | (with_reducible exact Keeps.refl)
    | (with_reducible apply Keeps.atBuilt; refine Keeps.upd ?_)
    | (simp only [Keeps.built])
    | (with_reducible apply Keeps.wr)
    | (with_reducible apply Keeps.ite)
    | (with_reducible apply Keeps.foldl)
    | intro _
    | split
    | dsimp only

end Sys2Proof.Machine
end

