-- ==== Sys2Proof/Laws/KeepsCrossings.lean ====
section
/-! SUPPORT. Laws/KeepsCrossings.lean: what each operation of Machine/Crossings.lean keeps. -/

set_option Elab.async false

set_option linter.unusedTactic false
set_option linter.unusedSimpArgs false
set_option linter.unreachableTactic false

namespace Sys2Proof.Machine

theorem kp_mbxLate (s : State) : Keeps 1146880 s (State.mbxLate s) := by
  unfold State.mbxLate
  repeat' first
    | (with_reducible exact Keeps.refl)
    | (apply Keeps.next; (with_reducible apply kp_flagRaise); decide)
    | (with_reducible apply Keeps.ite)
    | (with_reducible apply Keeps.foldl)
    | intro _
    | split
    | dsimp only

theorem kp_dataPortPut (s : State) (index : Nat) (value : Nat) (tick : Nat) : Keeps 1155072 s (State.dataPortPut s index value tick) := by
  unfold State.dataPortPut
  repeat' first
    | (with_reducible exact Keeps.refl)
    | (with_reducible apply Keeps.atBuilt; refine Keeps.upd ?_)
    | (simp only [Keeps.built])
    | (apply Keeps.next; (with_reducible apply kp_mbxLate); decide)
    | (with_reducible apply Keeps.when)
    | (with_reducible apply Keeps.ite)
    | (with_reducible apply Keeps.foldl)
    | intro _
    | split
    | dsimp only

theorem kp_mbxSubmit (s : State) (count : Nat) (tick : Nat) : Keeps 1155072 s (State.mbxSubmit s count tick) := by
  unfold State.mbxSubmit
  repeat' first
    | (with_reducible exact Keeps.refl)
    | (with_reducible apply Keeps.atBuilt; refine Keeps.upd ?_)
    | (simp only [Keeps.built])
    | (with_reducible apply Keeps.wr)
    | (apply Keeps.next; (with_reducible apply kp_mbxLate); decide)
    | (with_reducible apply Keeps.when)
    | (with_reducible apply Keeps.ite)
    | (with_reducible apply Keeps.foldl)
    | intro _
    | split
    | dsimp only

theorem kp_digRptrWrite (s : State) (value : Nat) : Keeps 0 s (State.digRptrWrite s value) := by
  unfold State.digRptrWrite
  repeat' first
    | (with_reducible exact Keeps.refl)
    | (with_reducible apply Keeps.wr)
    | (with_reducible apply Keeps.ite)
    | (with_reducible apply Keeps.foldl)
    | intro _
    | split
    | dsimp only

theorem kp_mbxDataWrite (s : State) (index : Nat) (value : Nat) : Keeps 0 s (State.mbxDataWrite s index value) := by
  unfold State.mbxDataWrite
  repeat' first
    | (with_reducible exact Keeps.refl)
    | (with_reducible apply Keeps.wr)
    | (with_reducible apply Keeps.ite)
    | (with_reducible apply Keeps.foldl)
    | intro _
    | split
    | dsimp only

theorem kp_standbyPendClear (s : State) (p : PairId) (w : Nat) (ones : Nat) : Keeps 65792 s (State.standbyPendClear s p w ones) := by
  unfold State.standbyPendClear
  repeat' first
    | (with_reducible exact Keeps.refl)
    | (with_reducible apply Keeps.atBuilt; refine Keeps.upd ?_)
    | (simp only [Keeps.built])
    | (apply Keeps.next; (with_reducible apply kp_setPair); decide)
    | (with_reducible apply Keeps.ite)
    | (with_reducible apply Keeps.foldl)
    | intro _
    | split
    | dsimp only

theorem kp_crossFault (s : State) : Keeps 1146880 s (State.crossFault s) := by
  unfold State.crossFault
  repeat' first
    | (with_reducible exact Keeps.refl)
    | (apply Keeps.next; (with_reducible apply kp_raise); decide)
    | (apply Keeps.next; (with_reducible apply kp_fatalDue); decide)
    | (with_reducible apply Keeps.when)
    | (with_reducible apply Keeps.ite)
    | (with_reducible apply Keeps.foldl)
    | intro _
    | split
    | dsimp only

theorem kp_evfPendClear (s : State) (t : Nat) (w : Nat) (ones : Nat) : Keeps 0 s (State.evfPendClear s t w ones) := by
  unfold State.evfPendClear
  repeat' first
    | (with_reducible exact Keeps.refl)
    | (with_reducible apply Keeps.wr)
    | (with_reducible apply Keeps.ite)
    | (with_reducible apply Keeps.foldl)
    | intro _
    | split
    | dsimp only

theorem kp_evfRouteWrite (s : State) (n : Nat) (value : Nat) : Keeps 2 s (State.evfRouteWrite s n value) := by
  unfold State.evfRouteWrite
  repeat' first
    | (with_reducible exact Keeps.refl)
    | (with_reducible apply Keeps.wr)
    | (apply Keeps.next; (with_reducible apply kp_wrOnce); decide)
    | (with_reducible apply Keeps.ite)
    | (with_reducible apply Keeps.foldl)
    | intro _
    | split
    | dsimp only

theorem kp_mbxParity (s : State) (sub : Submission) : Keeps 1155072 s (State.mbxParity s sub) := by
  unfold State.mbxParity
  repeat' first
    | (with_reducible exact Keeps.refl)
    | (with_reducible apply Keeps.atBuilt; refine Keeps.upd ?_)
    | (simp only [Keeps.built])
    | (with_reducible apply Keeps.wr)
    | (apply Keeps.next; (with_reducible apply kp_crossFault); decide)
    | (with_reducible apply Keeps.when)
    | (with_reducible apply Keeps.ite)
    | (with_reducible apply Keeps.foldl)
    | intro _
    | split
    | dsimp only

theorem kp_sramWrite (s : State) (m : Master) (addr : Nat) (data : List Byte) : Keeps 260 s (State.sramWrite s m addr data) := by
  unfold State.sramWrite
  repeat' first
    | (with_reducible exact Keeps.refl)
    | (with_reducible apply Keeps.atBuilt; refine Keeps.upd ?_)
    | (simp only [Keeps.built])
    | (apply Keeps.next; (with_reducible apply kp_incSat); decide)
    | (with_reducible apply Keeps.ite)
    | (with_reducible apply Keeps.foldl)
    | intro _
    | split
    | dsimp only

theorem kp_execSharedSramWrite (m : Master) (addr : Nat) (data : List Byte) (s : State) : KeepsN 260 s (execSharedSramWrite m addr data s) := by
  unfold execSharedSramWrite
  repeat' first
    | (with_reducible exact Keeps.refl)
    | (with_reducible apply Keeps.out)
    | (apply Keeps.next; (with_reducible apply kp_sramWrite); decide)
    | (with_reducible apply Keeps.ite)
    | (with_reducible apply Keeps.foldl)
    | intro _
    | split
    | dsimp only

theorem kp_execMbxDataWrite (m : Master) (index : Nat) (value : Nat) (s : State) : KeepsN 256 s (execMbxDataWrite m index value s) := by
  unfold execMbxDataWrite
  repeat' first
    | (with_reducible exact Keeps.refl)
    | (with_reducible apply Keeps.out)
    | (apply Keeps.next; (with_reducible apply kp_mbxDataWrite); decide)
    | (with_reducible apply Keeps.access; decide)
    | (with_reducible apply Keeps.ite)
    | (with_reducible apply Keeps.foldl)
    | intro _
    | split
    | dsimp only

theorem kp_execMbxSubmit (m : Master) (count : Nat) (tick : Nat) (s : State) : KeepsN 1155328 s (execMbxSubmit m count tick s) := by
  unfold execMbxSubmit
  repeat' first
    | (with_reducible exact Keeps.refl)
    | (with_reducible apply Keeps.out)
    | (apply Keeps.next; (with_reducible apply kp_toTick); decide)
    | (apply Keeps.next; (with_reducible apply kp_mbxSubmit); decide)
    | (with_reducible apply Keeps.access; decide)
    | (with_reducible apply Keeps.ite)
    | (with_reducible apply Keeps.foldl)
    | intro _
    | split
    | dsimp only

theorem kp_execMbxParityError (s : State) : KeepsN 1155072 s (execMbxParityError s) := by
  unfold execMbxParityError
  repeat' first
    | (with_reducible exact Keeps.refl)
    | (with_reducible apply Keeps.out)
    | (apply Keeps.next; (with_reducible apply kp_mbxParity); decide)
    | (with_reducible apply Keeps.ite)
    | (with_reducible apply Keeps.foldl)
    | intro _
    | split
    | dsimp only

theorem kp_execDataPortSubmit (index : Nat) (value : Nat) (tick : Nat) (s : State) : KeepsN 1155072 s (execDataPortSubmit index value tick s) := by
  unfold execDataPortSubmit
  repeat' first
    | (with_reducible exact Keeps.refl)
    | (with_reducible apply Keeps.out)
    | (apply Keeps.next; (with_reducible apply kp_dataPortPut); decide)
    | (apply Keeps.next; (with_reducible apply kp_toTick); decide)
    | (with_reducible apply Keeps.ite)
    | (with_reducible apply Keeps.foldl)
    | intro _
    | split
    | dsimp only

theorem kp_execDigRptrWrite (m : Master) (value : Nat) (s : State) : KeepsN 256 s (execDigRptrWrite m value s) := by
  unfold execDigRptrWrite
  repeat' first
    | (with_reducible exact Keeps.refl)
    | (with_reducible apply Keeps.out)
    | (apply Keeps.next; (with_reducible apply kp_digRptrWrite); decide)
    | (with_reducible apply Keeps.access; decide)
    | (with_reducible apply Keeps.ite)
    | (with_reducible apply Keeps.foldl)
    | intro _
    | split
    | dsimp only

theorem kp_execClrDrops (m : Master) (s : State) : KeepsN 256 s (execClrDrops m s) := by
  unfold execClrDrops
  repeat' first
    | (with_reducible exact Keeps.refl)
    | (with_reducible apply Keeps.out)
    | (with_reducible apply Keeps.wr)
    | (with_reducible apply Keeps.accessCrOnly; decide)
    | (with_reducible apply Keeps.ite)
    | (with_reducible apply Keeps.foldl)
    | intro _
    | split
    | dsimp only

theorem kp_execEvfRouteWrite (m : Master) (n : Nat) (value : Nat) (s : State) : KeepsN 258 s (execEvfRouteWrite m n value s) := by
  unfold execEvfRouteWrite
  repeat' first
    | (with_reducible exact Keeps.refl)
    | (with_reducible apply Keeps.out)
    | (apply Keeps.next; (with_reducible apply kp_evfRouteWrite); decide)
    | (with_reducible apply Keeps.access; decide)
    | (with_reducible apply Keeps.ite)
    | (with_reducible apply Keeps.foldl)
    | intro _
    | split
    | dsimp only

theorem kp_execEvfPendClear (m : Master) (t : Nat) (w : Nat) (ones : Nat) (s : State) : KeepsN 65792 s (execEvfPendClear m t w ones s) := by
  unfold execEvfPendClear
  repeat' first
    | (with_reducible exact Keeps.refl)
    | (with_reducible apply Keeps.out)
    | (apply Keeps.next; (with_reducible apply kp_standbyPendClear); decide)
    | (apply Keeps.next; (with_reducible apply kp_evfPendClear); decide)
    | (with_reducible apply Keeps.access; decide)
    | (with_reducible apply Keeps.ite)
    | (with_reducible apply Keeps.foldl)
    | intro _
    | split
    | dsimp only

theorem kp_execClrCoal (m : Master) (s : State) : KeepsN 256 s (execClrCoal m s) := by
  unfold execClrCoal
  repeat' first
    | (with_reducible exact Keeps.refl)
    | (with_reducible apply Keeps.out)
    | (with_reducible apply Keeps.wr)
    | (with_reducible apply Keeps.access; decide)
    | (with_reducible apply Keeps.ite)
    | (with_reducible apply Keeps.foldl)
    | intro _
    | split
    | dsimp only

end Sys2Proof.Machine
end

