-- ==== Sys2Proof/Laws/KeepsGridSupport.lean ====
section
/-! SUPPORT. Laws/KeepsGridSupport.lean: what each operation of Machine/GridSupport.lean keeps. -/

set_option Elab.async false

set_option linter.unusedTactic false
set_option linter.unusedSimpArgs false
set_option linter.unreachableTactic false

namespace Sys2Proof.Machine

theorem kp_abnormalLine (s : State) (b : Bool) : Keeps 524288 s (State.abnormalLine s b) := by
  unfold State.abnormalLine
  repeat' first
    | (with_reducible exact Keeps.refl)
    | (with_reducible apply Keeps.atBuilt; refine Keeps.upd ?_)
    | (simp only [Keeps.built])
    | (with_reducible apply Keeps.ite)
    | (with_reducible apply Keeps.foldl)
    | intro _
    | split
    | dsimp only

theorem kp_gsSet (s : State) (st : Nat) : Keeps 0 s (State.gsSet s st) := by
  unfold State.gsSet
  repeat' first
    | (with_reducible exact Keeps.refl)
    | (with_reducible apply Keeps.wr)
    | (with_reducible apply Keeps.when)
    | (with_reducible apply Keeps.ite)
    | (with_reducible apply Keeps.foldl)
    | intro _
    | split
    | dsimp only

theorem kp_gsEnable (s : State) : Keeps 16777216 s (State.gsEnable s) := by
  unfold State.gsEnable
  repeat' first
    | (with_reducible exact Keeps.refl)
    | (with_reducible apply Keeps.atBuilt; refine Keeps.upd ?_)
    | (simp only [Keeps.built])
    | (with_reducible apply Keeps.wr)
    | (apply Keeps.next; (with_reducible apply kp_gsSet); decide)
    | (with_reducible apply Keeps.when)
    | (with_reducible apply Keeps.ite)
    | (with_reducible apply Keeps.foldl)
    | intro _
    | split
    | dsimp only

theorem kp_gsDisable (s : State) : Keeps 17301504 s (State.gsDisable s) := by
  unfold State.gsDisable
  repeat' first
    | (with_reducible exact Keeps.refl)
    | (with_reducible apply Keeps.atBuilt; refine Keeps.upd ?_)
    | (simp only [Keeps.built])
    | (with_reducible apply Keeps.wr)
    | (apply Keeps.next; (with_reducible apply kp_abnormalLine); decide)
    | (apply Keeps.next; (with_reducible apply kp_gsSet); decide)
    | (with_reducible apply Keeps.ite)
    | (with_reducible apply Keeps.foldl)
    | intro _
    | split
    | dsimp only

theorem kp_gsTrip (s : State) (cause : Nat) : Keeps 18448384 s (State.gsTrip s cause) := by
  unfold State.gsTrip
  repeat' first
    | (with_reducible exact Keeps.refl)
    | (with_reducible apply Keeps.atBuilt; refine Keeps.upd ?_)
    | (simp only [Keeps.built])
    | (with_reducible apply Keeps.wr)
    | (apply Keeps.next; (with_reducible apply kp_gsSet); decide)
    | (apply Keeps.next; (with_reducible apply kp_abnormalLine); decide)
    | (apply Keeps.next; (with_reducible apply kp_flagRaise); decide)
    | (with_reducible apply Keeps.ite)
    | (with_reducible apply Keeps.foldl)
    | intro _
    | split
    | dsimp only

theorem kp_curveTrip (s : State) : Keeps 18448384 s (State.curveTrip s) := by
  unfold State.curveTrip
  repeat' first
    | (with_reducible exact Keeps.refl)
    | (apply Keeps.next; (with_reducible apply kp_gsTrip); decide)
    | (with_reducible apply Keeps.ite)
    | (with_reducible apply Keeps.foldl)
    | intro _
    | split
    | dsimp only

theorem kp_exitHold (s : State) : Keeps 16777216 s (State.exitHold s) := by
  unfold State.exitHold
  repeat' first
    | (with_reducible exact Keeps.refl)
    | (with_reducible apply Keeps.atBuilt; refine Keeps.upd ?_)
    | (simp only [Keeps.built])
    | (apply Keeps.next; (with_reducible apply kp_gsSet); decide)
    | (with_reducible apply Keeps.ite)
    | (with_reducible apply Keeps.foldl)
    | intro _
    | split
    | dsimp only

theorem kp_gsBoundary (s : State) : Keeps 16777216 s (State.gsBoundary s) := by
  unfold State.gsBoundary
  repeat' first
    | (with_reducible exact Keeps.refl)
    | (with_reducible apply Keeps.atBuilt; refine Keeps.upd ?_)
    | (simp only [Keeps.built])
    | (with_reducible apply Keeps.ite)
    | (with_reducible apply Keeps.foldl)
    | intro _
    | split
    | dsimp only

theorem kp_gsHold (s : State) : Keeps 0 s (State.gsHold s) := by
  unfold State.gsHold
  repeat' first
    | (with_reducible exact Keeps.refl)
    | (with_reducible apply Keeps.wr)
    | (with_reducible apply Keeps.ite)
    | (with_reducible apply Keeps.foldl)
    | intro _
    | split
    | dsimp only

theorem kp_gsEnter (s : State) (st : Nat) (restart : Bool) : Keeps 17924096 s (State.gsEnter s st restart) := by
  unfold State.gsEnter
  repeat' first
    | (with_reducible exact Keeps.refl)
    | (with_reducible apply Keeps.atBuilt; refine Keeps.upd ?_)
    | (simp only [Keeps.built])
    | (with_reducible apply Keeps.wr)
    | (apply Keeps.next; (with_reducible apply kp_raise); decide)
    | (apply Keeps.next; (with_reducible apply kp_gsSet); decide)
    | (with_reducible apply Keeps.when)
    | (with_reducible apply Keeps.ite)
    | (with_reducible apply Keeps.foldl)
    | intro _
    | split
    | dsimp only

theorem kp_gsLimit (s : State) (reactive : Bool) (r : List Nat) : KeepsP 0 s (State.gsLimit s reactive r) := by
  unfold State.gsLimit
  repeat' first
    | (with_reducible exact Keeps.refl)
    | (with_reducible apply Keeps.wr)
    | (with_reducible apply Keeps.ite)
    | (with_reducible apply Keeps.iteP)
    | (with_reducible exact Keeps.reflP)
    | (simp only [Keeps.pair_eq])
    | (with_reducible apply Keeps.snd)
    | (apply Keeps.of_pair; assumption)
    | (with_reducible apply Keeps.foldlP)
    | (with_reducible apply Keeps.foldl)
    | intro _
    | split
    | dsimp only

theorem kp_gsMeasure (s : State) : Keeps 16777216 s (State.gsMeasure s) := by
  unfold State.gsMeasure
  repeat' first
    | (with_reducible exact Keeps.refl)
    | (with_reducible apply Keeps.atBuilt; refine Keeps.upd ?_)
    | (simp only [Keeps.built])
    | (with_reducible apply Keeps.wr)
    | (with_reducible apply Keeps.ite)
    | (with_reducible apply Keeps.foldl)
    | intro _
    | split
    | dsimp only

theorem kp_gsNormalRefs (s : State) : Keeps 16777216 s (State.gsNormalRefs s) := by
  unfold State.gsNormalRefs
  repeat' first
    | (with_reducible exact Keeps.refl)
    | (with_reducible apply Keeps.atBuilt; refine Keeps.upd ?_)
    | (simp only [Keeps.built])
    | (apply Keeps.nextP; (with_reducible apply kp_gsLimit); decide)
    | (with_reducible apply Keeps.ite)
    | (with_reducible exact Keeps.reflP)
    | (simp only [Keeps.pair_eq])
    | (with_reducible apply Keeps.snd)
    | (apply Keeps.of_pair; assumption)
    | (with_reducible apply Keeps.iteP)
    | (with_reducible apply Keeps.foldlP)
    | (with_reducible apply Keeps.foldl)
    | intro _
    | split
    | dsimp only

theorem kp_gsRideRefs (s : State) (st : Nat) : Keeps 17924096 s (State.gsRideRefs s st) := by
  unfold State.gsRideRefs
  repeat' first
    | (with_reducible exact Keeps.refl)
    | (with_reducible apply Keeps.atBuilt; refine Keeps.upd ?_)
    | (simp only [Keeps.built])
    | (with_reducible apply Keeps.wr)
    | (apply Keeps.nextP; (with_reducible apply kp_gsLimit); decide)
    | (apply Keeps.next; (with_reducible apply kp_raise); decide)
    | (with_reducible apply Keeps.when)
    | (with_reducible apply Keeps.ite)
    | (with_reducible exact Keeps.reflP)
    | (simp only [Keeps.pair_eq])
    | (with_reducible apply Keeps.snd)
    | (apply Keeps.of_pair; assumption)
    | (with_reducible apply Keeps.iteP)
    | (with_reducible apply Keeps.foldlP)
    | (with_reducible apply Keeps.foldl)
    | intro _
    | split
    | dsimp only

theorem kp_gsRefs (s : State) : Keeps 17924096 s (State.gsRefs s) := by
  unfold State.gsRefs
  repeat' first
    | (with_reducible exact Keeps.refl)
    | (apply Keeps.next; (with_reducible apply kp_gsNormalRefs); decide)
    | (apply Keeps.next; (with_reducible apply kp_gsRideRefs); decide)
    | (with_reducible apply Keeps.ite)
    | (with_reducible apply Keeps.foldl)
    | intro _
    | split
    | dsimp only

theorem kp_gsRuns (s : State) : Keeps 16777216 s (State.gsRuns s) := by
  unfold State.gsRuns
  repeat' first
    | (with_reducible exact Keeps.refl)
    | (with_reducible apply Keeps.atBuilt; refine Keeps.upd ?_)
    | (simp only [Keeps.built])
    | (with_reducible apply Keeps.ite)
    | (with_reducible apply Keeps.foldl)
    | intro _
    | split
    | dsimp only

theorem kp_zvLeave (s : State) : Keeps 17924096 s (State.zvLeave s) := by
  unfold State.zvLeave
  repeat' first
    | (with_reducible exact Keeps.refl)
    | (apply Keeps.next; (with_reducible apply kp_gsEnter); decide)
    | (with_reducible apply Keeps.ite)
    | (with_reducible apply Keeps.foldl)
    | intro _
    | split
    | dsimp only

theorem kp_gsTime (s : State) : Keeps 16777216 s (State.gsTime s) := by
  unfold State.gsTime
  repeat' first
    | (with_reducible exact Keeps.refl)
    | (with_reducible apply Keeps.atBuilt; refine Keeps.upd ?_)
    | (simp only [Keeps.built])
    | (with_reducible apply Keeps.wr)
    | (with_reducible apply Keeps.ite)
    | (with_reducible apply Keeps.foldl)
    | intro _
    | split
    | dsimp only

theorem kp_gsSample (s : State) (tick : Nat) : Keeps 17924096 s (State.gsSample s tick) := by
  unfold State.gsSample
  repeat' first
    | (with_reducible exact Keeps.refl)
    | (with_reducible apply Keeps.atBuilt; refine Keeps.upd ?_)
    | (simp only [Keeps.built])
    | (apply Keeps.next; (with_reducible apply kp_gsRefs); decide)
    | (apply Keeps.next; (with_reducible apply kp_gsHold); decide)
    | (apply Keeps.next; (with_reducible apply kp_zvLeave); decide)
    | (apply Keeps.next; (with_reducible apply kp_gsRuns); decide)
    | (apply Keeps.next; (with_reducible apply kp_gsTime); decide)
    | (apply Keeps.next; (with_reducible apply kp_gsMeasure); decide)
    | (with_reducible apply Keeps.ite)
    | (with_reducible apply Keeps.foldl)
    | intro _
    | split
    | dsimp only

theorem kp_gsWrite (s : State) : Keeps 16777216 s (State.gsWrite s) := by
  unfold State.gsWrite
  repeat' first
    | (with_reducible exact Keeps.refl)
    | (with_reducible apply Keeps.atBuilt; refine Keeps.upd ?_)
    | (simp only [Keeps.built])
    | (with_reducible apply Keeps.wr)
    | (with_reducible apply Keeps.forEach)
    | (with_reducible apply Keeps.ite)
    | (with_reducible apply Keeps.foldl)
    | intro _
    | split
    | dsimp only

theorem kp_profileLoaded (s : State) (ws : List Nat) : Keeps 17932288 s (State.profileLoaded s ws) := by
  unfold State.profileLoaded
  repeat' first
    | (with_reducible exact Keeps.refl)
    | (with_reducible apply Keeps.atBuilt; refine Keeps.upd ?_)
    | (simp only [Keeps.built])
    | (with_reducible apply Keeps.wr)
    | (apply Keeps.next; (with_reducible apply kp_flagRaise); decide)
    | (with_reducible apply Keeps.ite)
    | (with_reducible apply Keeps.foldl)
    | intro _
    | split
    | dsimp only

theorem kp_profileSwitch (s : State) : Keeps 17932288 s (State.profileSwitch s) := by
  unfold State.profileSwitch
  repeat' first
    | (with_reducible exact Keeps.refl)
    | (with_reducible apply Keeps.atBuilt; refine Keeps.upd ?_)
    | (simp only [Keeps.built])
    | (with_reducible apply Keeps.wr)
    | (apply Keeps.next; (with_reducible apply kp_raise); decide)
    | (with_reducible apply Keeps.forEach)
    | (with_reducible apply Keeps.ite)
    | (with_reducible apply Keeps.foldl)
    | intro _
    | split
    | dsimp only

theorem kp_rtEnter (s : State) (e : RtEntry) : Keeps 18448384 s (State.rtEnter s e) := by
  unfold State.rtEnter
  repeat' first
    | (with_reducible exact Keeps.refl)
    | (apply Keeps.next; (with_reducible apply kp_gsEnter); decide)
    | (apply Keeps.next; (with_reducible apply kp_gsTrip); decide)
    | (with_reducible apply Keeps.ite)
    | (with_reducible apply Keeps.foldl)
    | intro _
    | split
    | dsimp only

theorem kp_zvTimeout (s : State) : Keeps 18448384 s (State.zvTimeout s) := by
  unfold State.zvTimeout
  repeat' first
    | (with_reducible exact Keeps.refl)
    | (apply Keeps.next; (with_reducible apply kp_gsTrip); decide)
    | (with_reducible apply Keeps.ite)
    | (with_reducible apply Keeps.foldl)
    | intro _
    | split
    | dsimp only

end Sys2Proof.Machine
end

