-- ==== Sys2Proof/Laws/KeepsEclipse.lean ====
section
/-! SUPPORT. Laws/KeepsEclipse.lean: what each operation of Machine/Eclipse.lean keeps. -/

set_option Elab.async false

set_option linter.unusedTactic false
set_option linter.unusedSimpArgs false
set_option linter.unreachableTactic false

namespace Sys2Proof.Machine

theorem kp_eeAmplitude (s : State) (v : Nat) : Keeps 1155072 s (State.eeAmplitude s v) := by
  unfold State.eeAmplitude
  repeat' first
    | (with_reducible exact Keeps.refl)
    | (apply Keeps.next; (with_reducible apply kp_dataPortPut); decide)
    | (with_reducible apply Keeps.ite)
    | (with_reducible apply Keeps.foldl)
    | intro _
    | split
    | dsimp only

theorem kp_eeDiscard (s : State) : Keeps 33554432 s (State.eeDiscard s) := by
  unfold State.eeDiscard
  repeat' first
    | (with_reducible exact Keeps.refl)
    | (with_reducible apply Keeps.atBuilt; refine Keeps.upd ?_)
    | (simp only [Keeps.built])
    | (with_reducible apply Keeps.ite)
    | (with_reducible apply Keeps.foldl)
    | intro _
    | split
    | dsimp only

theorem kp_eeDisarm (s : State) : Keeps 34709504 s (State.eeDisarm s) := by
  unfold State.eeDisarm
  repeat' first
    | (with_reducible exact Keeps.refl)
    | (with_reducible apply Keeps.wr)
    | (apply Keeps.next; (with_reducible apply kp_eeAmplitude); decide)
    | (apply Keeps.next; (with_reducible apply kp_eeDiscard); decide)
    | (with_reducible apply Keeps.ite)
    | (with_reducible apply Keeps.foldl)
    | intro _
    | split
    | dsimp only

theorem kp_eeSuspend (s : State) : Keeps 34709504 s (State.eeSuspend s) := by
  unfold State.eeSuspend
  repeat' first
    | (with_reducible exact Keeps.refl)
    | (with_reducible apply Keeps.wr)
    | (apply Keeps.next; (with_reducible apply kp_eeDisarm); decide)
    | (with_reducible apply Keeps.ite)
    | (with_reducible apply Keeps.foldl)
    | intro _
    | split
    | dsimp only

theorem kp_gsThen {c : Nat} {s t : State} {f : State → State} (hm : Keeps.within 34709504 c) (h : Keeps c s t) (hf : ∀ s, Keeps c s (f s)) :
    Keeps c s (State.gsThen t f) := by
  unfold State.gsThen
  dsimp only
  split
  · exact (h.trans (hf t)).trans ((kp_eeSuspend _).mono hm)
  · exact h.trans (hf t)

theorem kp_islandLine (s : State) (b : Bool) : Keeps 524288 s (State.islandLine s b) := by
  unfold State.islandLine
  repeat' first
    | (with_reducible exact Keeps.refl)
    | (with_reducible apply Keeps.atBuilt; refine Keeps.upd ?_)
    | (simp only [Keeps.built])
    | (with_reducible apply Keeps.ite)
    | (with_reducible apply Keeps.foldl)
    | intro _
    | split
    | dsimp only

theorem kp_eeClear (s : State) : Keeps 524288 s (State.eeClear s) := by
  unfold State.eeClear
  repeat' first
    | (with_reducible exact Keeps.refl)
    | (with_reducible apply Keeps.wr)
    | (apply Keeps.next; (with_reducible apply kp_islandLine); decide)
    | (with_reducible apply Keeps.ite)
    | (with_reducible apply Keeps.foldl)
    | intro _
    | split
    | dsimp only

theorem kp_eeRebase (s : State) : Keeps 33554432 s (State.eeRebase s) := by
  unfold State.eeRebase
  repeat' first
    | (with_reducible exact Keeps.refl)
    | (with_reducible apply Keeps.atBuilt; refine Keeps.upd ?_)
    | (simp only [Keeps.built])
    | (with_reducible apply Keeps.wr)
    | (with_reducible apply Keeps.ite)
    | (with_reducible apply Keeps.foldl)
    | intro _
    | split
    | dsimp only

theorem kp_eeBroadcast (s : State) (n : Nat) (fpb : Nat) (seed : Nat) (k0 : Nat) : Keeps 34701312 s (State.eeBroadcast s n fpb seed k0) := by
  unfold State.eeBroadcast
  repeat' first
    | (with_reducible exact Keeps.refl)
    | (with_reducible apply Keeps.atBuilt; refine Keeps.upd ?_)
    | (simp only [Keeps.built])
    | (apply Keeps.next; (with_reducible apply kp_raise); decide)
    | (with_reducible apply Keeps.ite)
    | (with_reducible apply Keeps.foldl)
    | intro _
    | split
    | dsimp only

theorem kp_eeIsland (s : State) (cause : Nat) : Keeps 1671168 s (State.eeIsland s cause) := by
  unfold State.eeIsland
  repeat' first
    | (with_reducible exact Keeps.refl)
    | (with_reducible apply Keeps.wr)
    | (apply Keeps.next; (with_reducible apply kp_islandLine); decide)
    | (apply Keeps.next; (with_reducible apply kp_setB); decide)
    | (apply Keeps.next; (with_reducible apply kp_raise); decide)
    | (with_reducible apply Keeps.ite)
    | (with_reducible apply Keeps.foldl)
    | intro _
    | split
    | dsimp only

theorem kp_eeArmed (s : State) (k0 : Nat) : Keeps 0 s (State.eeArmed s k0) := by
  unfold State.eeArmed
  repeat' first
    | (with_reducible exact Keeps.refl)
    | (with_reducible apply Keeps.wr)
    | (with_reducible apply Keeps.ite)
    | (with_reducible apply Keeps.foldl)
    | intro _
    | split
    | dsimp only

theorem kp_eeArm (s : State) : Keeps 33554432 s (State.eeArm s) := by
  unfold State.eeArm
  repeat' first
    | (with_reducible exact Keeps.refl)
    | (with_reducible apply Keeps.atBuilt; refine Keeps.upd ?_)
    | (simp only [Keeps.built])
    | (with_reducible apply Keeps.wr)
    | (apply Keeps.next; (with_reducible apply kp_eeArmed); decide)
    | (with_reducible apply Keeps.ite)
    | (with_reducible apply Keeps.foldl)
    | intro _
    | split
    | dsimp only

theorem kp_eeBoundary (s : State) : Keeps 33554432 s (State.eeBoundary s) := by
  unfold State.eeBoundary
  repeat' first
    | (with_reducible exact Keeps.refl)
    | (with_reducible apply Keeps.atBuilt; refine Keeps.upd ?_)
    | (simp only [Keeps.built])
    | (with_reducible apply Keeps.ite)
    | (with_reducible apply Keeps.foldl)
    | intro _
    | split
    | dsimp only

theorem kp_eeDecide (s : State) (zd : Option Nat) : Keeps 35225600 s (State.eeDecide s zd) := by
  unfold State.eeDecide
  repeat' first
    | (with_reducible exact Keeps.refl)
    | (with_reducible apply Keeps.atBuilt; refine Keeps.upd ?_)
    | (simp only [Keeps.built])
    | (with_reducible apply Keeps.wr)
    | (apply Keeps.next; (with_reducible apply kp_eeIsland); decide)
    | (with_reducible apply Keeps.when)
    | (with_reducible apply Keeps.ite)
    | (with_reducible apply Keeps.foldl)
    | intro _
    | split
    | dsimp only

theorem kp_eeEstimate (s : State) (b : Nat) : KeepsP 4096 s (State.eeEstimate s b) := by
  unfold State.eeEstimate
  repeat' first
    | (with_reducible exact Keeps.refl)
    | (apply Keeps.nextP; (with_reducible apply kp_takeFree); decide)
    | (with_reducible apply Keeps.ite)
    | (with_reducible apply Keeps.iteP)
    | (with_reducible exact Keeps.reflP)
    | (simp only [Keeps.pair_eq])
    | (with_reducible apply Keeps.snd)
    | (apply Keeps.of_pair; assumption)
    | (with_reducible apply Keeps.foldlP)
    | (with_reducible apply Keeps.foldl)
    | intro _
    | split
    | dsimp only

theorem kp_eeEstimates (s : State) : KeepsP 4096 s (State.eeEstimates s) := by
  unfold State.eeEstimates
  repeat' first
    | (with_reducible exact Keeps.refl)
    | (apply Keeps.nextP; (with_reducible apply kp_eeEstimate); decide)
    | (with_reducible apply Keeps.ite)
    | (with_reducible apply Keeps.iteP)
    | (with_reducible exact Keeps.reflP)
    | (simp only [Keeps.pair_eq])
    | (with_reducible apply Keeps.snd)
    | (apply Keeps.of_pair; assumption)
    | (with_reducible apply Keeps.foldlP)
    | (with_reducible apply Keeps.foldl)
    | intro _
    | split
    | dsimp only

theorem kp_eeGroupLoss (s : State) : Keeps 34709504 s (State.eeGroupLoss s) := by
  unfold State.eeGroupLoss
  repeat' first
    | (with_reducible exact Keeps.refl)
    | (with_reducible apply Keeps.atBuilt; refine Keeps.upd ?_)
    | (simp only [Keeps.built])
    | (with_reducible apply Keeps.wr)
    | (apply Keeps.next; (with_reducible apply kp_eeDisarm); decide)
    | (apply Keeps.next; (with_reducible apply kp_flagRaise); decide)
    | (with_reducible apply Keeps.when)
    | (with_reducible apply Keeps.ite)
    | (with_reducible apply Keeps.foldl)
    | intro _
    | split
    | dsimp only

theorem kp_eePassive (s : State) (det : Nat) : Keeps 35225600 s (State.eePassive s det) := by
  unfold State.eePassive
  repeat' first
    | (with_reducible exact Keeps.refl)
    | (with_reducible apply Keeps.atBuilt; refine Keeps.upd ?_)
    | (simp only [Keeps.built])
    | (with_reducible apply Keeps.wr)
    | (apply Keeps.next; (with_reducible apply kp_eeIsland); decide)
    | (apply Keeps.next; (with_reducible apply kp_raise); decide)
    | (with_reducible apply Keeps.ite)
    | (with_reducible apply Keeps.foldl)
    | intro _
    | split
    | dsimp only

theorem kp_eePublish (s : State) (es : List State.EeEst) (zd : Option Nat) : Keeps 34701312 s (State.eePublish s es zd) := by
  unfold State.eePublish
  repeat' first
    | (with_reducible exact Keeps.refl)
    | (with_reducible apply Keeps.atBuilt; refine Keeps.upd ?_)
    | (simp only [Keeps.built])
    | (with_reducible apply Keeps.wr)
    | (apply Keeps.next; (with_reducible apply kp_incSat); decide)
    | (apply Keeps.next; (with_reducible apply kp_raise); decide)
    | (with_reducible apply Keeps.forEach)
    | (with_reducible apply Keeps.ite)
    | (with_reducible apply Keeps.foldl)
    | intro _
    | split
    | dsimp only

theorem kp_eeRecord (s : State) (r : TapRecord) : Keeps 33554432 s (State.eeRecord s r) := by
  unfold State.eeRecord
  repeat' first
    | (with_reducible exact Keeps.refl)
    | (with_reducible apply Keeps.atBuilt; refine Keeps.upd ?_)
    | (simp only [Keeps.built])
    | (with_reducible apply Keeps.ite)
    | (with_reducible apply Keeps.foldl)
    | intro _
    | split
    | dsimp only

theorem kp_eeSample (s : State) : Keeps 33554432 s (State.eeSample s) := by
  unfold State.eeSample
  repeat' first
    | (with_reducible exact Keeps.refl)
    | (with_reducible apply Keeps.atBuilt; refine Keeps.upd ?_)
    | (simp only [Keeps.built])
    | (with_reducible apply Keeps.ite)
    | (with_reducible apply Keeps.foldl)
    | intro _
    | split
    | dsimp only

theorem kp_eeSegment (s : State) : Keeps 35229696 s (State.eeSegment s) := by
  unfold State.eeSegment
  repeat' first
    | (with_reducible exact Keeps.refl)
    | (with_reducible apply Keeps.atBuilt; refine Keeps.upd ?_)
    | (simp only [Keeps.built])
    | (apply Keeps.nextP; (with_reducible apply kp_eeEstimates); decide)
    | (apply Keeps.next; (with_reducible apply kp_eeDecide); decide)
    | (apply Keeps.next; (with_reducible apply kp_eePublish); decide)
    | (with_reducible apply Keeps.ite)
    | (with_reducible exact Keeps.reflP)
    | (simp only [Keeps.pair_eq])
    | (with_reducible apply Keeps.snd)
    | (apply Keeps.of_pair; assumption)
    | (with_reducible apply Keeps.iteP)
    | (with_reducible apply Keeps.foldlP)
    | (with_reducible apply Keeps.foldl)
    | intro _
    | split
    | dsimp only

theorem kp_eeSegmentEnd (s : State) : Keeps 35237888 s (State.eeSegmentEnd s) := by
  unfold State.eeSegmentEnd
  repeat' first
    | (with_reducible exact Keeps.refl)
    | (with_reducible apply Keeps.wr)
    | (apply Keeps.next; (with_reducible apply kp_eeDiscard); decide)
    | (apply Keeps.next; (with_reducible apply kp_eeSegment); decide)
    | (apply Keeps.next; (with_reducible apply kp_eeArm); decide)
    | (apply Keeps.next; (with_reducible apply kp_eeAmplitude); decide)
    | (with_reducible apply Keeps.ite)
    | (with_reducible apply Keeps.foldl)
    | intro _
    | split
    | dsimp only

theorem kp_eeTakeover (s : State) : Keeps 33554432 s (State.eeTakeover s) := by
  unfold State.eeTakeover
  repeat' first
    | (with_reducible exact Keeps.refl)
    | (with_reducible apply Keeps.atBuilt; refine Keeps.upd ?_)
    | (simp only [Keeps.built])
    | (with_reducible apply Keeps.ite)
    | (with_reducible apply Keeps.foldl)
    | intro _
    | split
    | dsimp only

theorem kp_execGsExitHold (s : State) : KeepsN 16777216 s (execGsExitHold s) := by
  unfold execGsExitHold
  repeat' first
    | (with_reducible exact Keeps.refl)
    | (with_reducible apply Keeps.out)
    | (apply Keeps.next; (with_reducible apply kp_exitHold); decide)
    | (with_reducible apply Keeps.ite)
    | (with_reducible apply Keeps.foldl)
    | intro _
    | split
    | dsimp only

theorem kp_execGsReferenceWrite (s : State) : KeepsN 16777216 s (execGsReferenceWrite s) := by
  unfold execGsReferenceWrite
  repeat' first
    | (with_reducible exact Keeps.refl)
    | (with_reducible apply Keeps.out)
    | (apply Keeps.next; (with_reducible apply kp_gsWrite); decide)
    | (with_reducible apply Keeps.ite)
    | (with_reducible apply Keeps.foldl)
    | intro _
    | split
    | dsimp only

theorem kp_execGsEnable (m : Master) (s : State) : KeepsN 16777472 s (execGsEnable m s) := by
  unfold execGsEnable
  repeat' first
    | (with_reducible exact Keeps.refl)
    | (with_reducible apply Keeps.out)
    | (apply Keeps.next; (with_reducible apply kp_gsEnable); decide)
    | (with_reducible apply Keeps.access; decide)
    | (with_reducible apply Keeps.ite)
    | (with_reducible apply Keeps.foldl)
    | intro _
    | split
    | dsimp only

theorem kp_execEePassiveTrip (det : Nat) (s : State) : KeepsN 35225600 s (execEePassiveTrip det s) := by
  unfold execEePassiveTrip
  repeat' first
    | (with_reducible exact Keeps.refl)
    | (with_reducible apply Keeps.out)
    | (apply Keeps.next; (with_reducible apply kp_eePassive); decide)
    | (with_reducible apply Keeps.ite)
    | (with_reducible apply Keeps.foldl)
    | intro _
    | split
    | dsimp only

theorem kp_execEeSegmentEnd (s : State) : KeepsN 35237888 s (execEeSegmentEnd s) := by
  unfold execEeSegmentEnd
  repeat' first
    | (with_reducible exact Keeps.refl)
    | (with_reducible apply Keeps.out)
    | (apply Keeps.next; (with_reducible apply kp_eeSegmentEnd); decide)
    | (with_reducible apply Keeps.ite)
    | (with_reducible apply Keeps.foldl)
    | intro _
    | split
    | dsimp only

theorem kp_execEeClear (m : Master) (s : State) : KeepsN 524544 s (execEeClear m s) := by
  unfold execEeClear
  repeat' first
    | (with_reducible exact Keeps.refl)
    | (with_reducible apply Keeps.out)
    | (apply Keeps.next; (with_reducible apply kp_eeClear); decide)
    | (with_reducible apply Keeps.access; decide)
    | (with_reducible apply Keeps.ite)
    | (with_reducible apply Keeps.foldl)
    | intro _
    | split
    | dsimp only

theorem kp_execEeRebase (m : Master) (s : State) : KeepsN 33554688 s (execEeRebase m s) := by
  unfold execEeRebase
  repeat' first
    | (with_reducible exact Keeps.refl)
    | (with_reducible apply Keeps.out)
    | (apply Keeps.next; (with_reducible apply kp_eeRebase); decide)
    | (with_reducible apply Keeps.access; decide)
    | (with_reducible apply Keeps.ite)
    | (with_reducible apply Keeps.foldl)
    | intro _
    | split
    | dsimp only

end Sys2Proof.Machine
end

