-- ==== Sys2Proof/Laws/KeepsOrbit.lean ====
section
/-! SUPPORT. Laws/KeepsOrbit.lean: what each operation of Machine/Orbit.lean keeps. -/

set_option Elab.async false

set_option linter.unusedTactic false
set_option linter.unusedSimpArgs false
set_option linter.unreachableTactic false

namespace Sys2Proof.Machine

theorem kp_orbConfigWrite (s : State) (w : OrbSetting) (v : Nat) : Keeps 32768 s (State.orbConfigWrite s w v) := by
  unfold State.orbConfigWrite
  repeat' first
    | (with_reducible exact Keeps.refl)
    | (with_reducible apply Keeps.atBuilt; refine Keeps.upd ?_)
    | (simp only [Keeps.built])
    | (with_reducible apply Keeps.wr)
    | (with_reducible apply Keeps.ite)
    | (with_reducible apply Keeps.foldl)
    | intro _
    | split
    | dsimp only

theorem kp_orbSetState (s : State) (st : Nat) : Keeps 32768 s (State.orbSetState s st) := by
  unfold State.orbSetState
  repeat' first
    | (with_reducible exact Keeps.refl)
    | (with_reducible apply Keeps.atBuilt; refine Keeps.upd ?_)
    | (simp only [Keeps.built])
    | (with_reducible apply Keeps.wr)
    | (with_reducible apply Keeps.when)
    | (with_reducible apply Keeps.ite)
    | (with_reducible apply Keeps.foldl)
    | intro _
    | split
    | dsimp only

theorem kp_orbTrackDisable (s : State) : Keeps 32768 s (State.orbTrackDisable s) := by
  unfold State.orbTrackDisable
  repeat' first
    | (with_reducible exact Keeps.refl)
    | (with_reducible apply Keeps.wr)
    | (apply Keeps.next; (with_reducible apply kp_orbSetState); decide)
    | (with_reducible apply Keeps.ite)
    | (with_reducible apply Keeps.foldl)
    | intro _
    | split
    | dsimp only

theorem kp_orbBankWrite (s : State) (swap : Bool) (epochInc : Bool) : Keeps 32768 s (State.orbBankWrite s swap epochInc) := by
  unfold State.orbBankWrite
  repeat' first
    | (with_reducible exact Keeps.refl)
    | (with_reducible apply Keeps.atBuilt; refine Keeps.upd ?_)
    | (simp only [Keeps.built])
    | (with_reducible apply Keeps.wr)
    | (with_reducible apply Keeps.ite)
    | (with_reducible apply Keeps.foldl)
    | intro _
    | split
    | dsimp only

theorem kp_setInactiveBank (s : State) (b : List (Nat × Nat)) : Keeps 32768 s (State.setInactiveBank s b) := by
  unfold State.setInactiveBank
  repeat' first
    | (with_reducible exact Keeps.refl)
    | (with_reducible apply Keeps.atBuilt; refine Keeps.upd ?_)
    | (simp only [Keeps.built])
    | (with_reducible apply Keeps.ite)
    | (with_reducible apply Keeps.foldl)
    | intro _
    | split
    | dsimp only

theorem kp_slotInactWrite (s : State) (index : Nat) (value : Nat) : Keeps 32768 s (State.slotInactWrite s index value) := by
  unfold State.slotInactWrite
  repeat' first
    | (with_reducible exact Keeps.refl)
    | (with_reducible apply Keeps.wr)
    | (apply Keeps.next; (with_reducible apply kp_setInactiveBank); decide)
    | (with_reducible apply Keeps.ite)
    | (with_reducible apply Keeps.foldl)
    | intro _
    | split
    | dsimp only

theorem kp_retire (s : State) (slot : Nat) : Keeps 32768 s (State.retire s slot) := by
  unfold State.retire
  repeat' first
    | (with_reducible exact Keeps.refl)
    | (with_reducible apply Keeps.atBuilt; refine Keeps.upd ?_)
    | (simp only [Keeps.built])
    | (with_reducible apply Keeps.wr)
    | (with_reducible apply Keeps.ite)
    | (with_reducible apply Keeps.foldl)
    | intro _
    | split
    | dsimp only

theorem kp_orbConfigApply (s : State) : Keeps 32768 s (State.orbConfigApply s) := by
  unfold State.orbConfigApply
  repeat' first
    | (with_reducible exact Keeps.refl)
    | (with_reducible apply Keeps.atBuilt; refine Keeps.upd ?_)
    | (simp only [Keeps.built])
    | (with_reducible apply Keeps.wr)
    | (with_reducible apply Keeps.when)
    | (with_reducible apply Keeps.ite)
    | (with_reducible apply Keeps.foldl)
    | intro _
    | split
    | dsimp only

theorem kp_orbAdopt (s : State) (m : Marker) (len : Nat) : Keeps 32768 s (State.orbAdopt s m len) := by
  unfold State.orbAdopt
  repeat' first
    | (with_reducible exact Keeps.refl)
    | (with_reducible apply Keeps.atBuilt; refine Keeps.upd ?_)
    | (simp only [Keeps.built])
    | (with_reducible apply Keeps.wr)
    | (with_reducible apply Keeps.ite)
    | (with_reducible apply Keeps.foldl)
    | intro _
    | split
    | dsimp only

theorem kp_orbAdvance (s : State) : Keeps 34816 s (State.orbAdvance s) := by
  unfold State.orbAdvance
  repeat' first
    | (with_reducible exact Keeps.refl)
    | (with_reducible apply Keeps.atBuilt; refine Keeps.upd ?_)
    | (simp only [Keeps.built])
    | (with_reducible apply Keeps.wr)
    | (apply Keeps.next; (with_reducible apply kp_toTick); decide)
    | (apply Keeps.next; (with_reducible apply kp_incWrap); decide)
    | (apply Keeps.next; (with_reducible apply kp_orbAdopt); decide)
    | (with_reducible apply Keeps.ite)
    | (with_reducible apply Keeps.foldl)
    | intro _
    | split
    | dsimp only

theorem kp_orbDrain (s : State) : Keeps 1146880 s (State.orbDrain s) := by
  unfold State.orbDrain
  repeat' first
    | (with_reducible exact Keeps.refl)
    | (with_reducible apply Keeps.atBuilt; refine Keeps.upd ?_)
    | (simp only [Keeps.built])
    | (with_reducible apply Keeps.wr)
    | (apply Keeps.next; (with_reducible apply kp_addSat); decide)
    | (apply Keeps.next; (with_reducible apply kp_flagRaise); decide)
    | (with_reducible apply Keeps.when)
    | (with_reducible apply Keeps.forEach)
    | (with_reducible apply Keeps.clearRegs)
    | (with_reducible apply Keeps.ite)
    | (with_reducible apply Keeps.foldl)
    | intro _
    | split
    | dsimp only

theorem kp_orbMarkerCount (s : State) : Keeps 32768 s (State.orbMarkerCount s) := by
  unfold State.orbMarkerCount
  repeat' first
    | (with_reducible exact Keeps.refl)
    | (with_reducible apply Keeps.atBuilt; refine Keeps.upd ?_)
    | (simp only [Keeps.built])
    | (with_reducible apply Keeps.wr)
    | (apply Keeps.next; (with_reducible apply kp_incSat); decide)
    | (with_reducible apply Keeps.ite)
    | (with_reducible apply Keeps.foldl)
    | intro _
    | split
    | dsimp only

theorem kp_orbBoundary (s : State) : Keeps 1148928 s (State.orbBoundary s) := by
  unfold State.orbBoundary
  repeat' first
    | (with_reducible exact Keeps.refl)
    | (with_reducible apply Keeps.atBuilt; refine Keeps.upd ?_)
    | (simp only [Keeps.built])
    | (apply Keeps.next; (with_reducible apply kp_orbAdvance); decide)
    | (apply Keeps.next; (with_reducible apply kp_orbDrain); decide)
    | (apply Keeps.next; (with_reducible apply kp_orbMarkerCount); decide)
    | (apply Keeps.next; (with_reducible apply kp_raise); decide)
    | (with_reducible apply Keeps.when)
    | (with_reducible apply Keeps.ite)
    | (with_reducible apply Keeps.foldl)
    | intro _
    | split
    | dsimp only

theorem kp_orbGroupLoss (s : State) : Keeps 1146880 s (State.orbGroupLoss s) := by
  unfold State.orbGroupLoss
  repeat' first
    | (with_reducible exact Keeps.refl)
    | (apply Keeps.next; (with_reducible apply kp_flagRaise); decide)
    | (apply Keeps.next; (with_reducible apply kp_orbSetState); decide)
    | (with_reducible apply Keeps.ite)
    | (with_reducible apply Keeps.foldl)
    | intro _
    | split
    | dsimp only

theorem kp_orbTakeLoad (s : State) (ws : List Nat) : Keeps 40960 s (State.orbTakeLoad s ws) := by
  unfold State.orbTakeLoad
  repeat' first
    | (with_reducible exact Keeps.refl)
    | (with_reducible apply Keeps.atBuilt; refine Keeps.upd ?_)
    | (simp only [Keeps.built])
    | (apply Keeps.next; (with_reducible apply kp_setInactiveBank); decide)
    | (with_reducible apply Keeps.ite)
    | (with_reducible apply Keeps.foldl)
    | intro _
    | split
    | dsimp only

theorem kp_orbBankSwitch (s : State) : Keeps 1155072 s (State.orbBankSwitch s) := by
  unfold State.orbBankSwitch
  repeat' first
    | (with_reducible exact Keeps.refl)
    | (with_reducible apply Keeps.atBuilt; refine Keeps.upd ?_)
    | (simp only [Keeps.built])
    | (with_reducible apply Keeps.wr)
    | (apply Keeps.next; (with_reducible apply kp_raise); decide)
    | (apply Keeps.next; (with_reducible apply kp_epochInc); decide)
    | (with_reducible apply Keeps.when)
    | (with_reducible apply Keeps.ite)
    | (with_reducible apply Keeps.foldl)
    | intro _
    | split
    | dsimp only

theorem kp_takeSettings (s : State) : Keeps 32768 s (State.takeSettings s) := by
  unfold State.takeSettings
  repeat' first
    | (with_reducible exact Keeps.refl)
    | (with_reducible apply Keeps.atBuilt; refine Keeps.upd ?_)
    | (simp only [Keeps.built])
    | (with_reducible apply Keeps.ite)
    | (with_reducible apply Keeps.foldl)
    | intro _
    | split
    | dsimp only

theorem kp_orbCompute (s : State) : Keeps 1146880 s (State.orbCompute s) := by
  unfold State.orbCompute
  repeat' first
    | (with_reducible exact Keeps.refl)
    | (with_reducible apply Keeps.atBuilt; refine Keeps.upd ?_)
    | (simp only [Keeps.built])
    | (with_reducible apply Keeps.wr)
    | (apply Keeps.next; (with_reducible apply kp_takeSettings); decide)
    | (apply Keeps.next; (with_reducible apply kp_flagRaise); decide)
    | (with_reducible apply Keeps.when)
    | (with_reducible apply Keeps.ite)
    | (with_reducible apply Keeps.foldl)
    | intro _
    | split
    | dsimp only

theorem kp_orbFlyLimit (s : State) : Keeps 1146880 s (State.orbFlyLimit s) := by
  unfold State.orbFlyLimit
  repeat' first
    | (with_reducible exact Keeps.refl)
    | (apply Keeps.next; (with_reducible apply kp_flagRaise); decide)
    | (apply Keeps.next; (with_reducible apply kp_orbSetState); decide)
    | (with_reducible apply Keeps.ite)
    | (with_reducible apply Keeps.foldl)
    | intro _
    | split
    | dsimp only

theorem kp_orbFollowEnter (s : State) : Keeps 32768 s (State.orbFollowEnter s) := by
  unfold State.orbFollowEnter
  repeat' first
    | (with_reducible exact Keeps.refl)
    | (with_reducible apply Keeps.wr)
    | (apply Keeps.next; (with_reducible apply kp_orbSetState); decide)
    | (with_reducible apply Keeps.ite)
    | (with_reducible apply Keeps.foldl)
    | intro _
    | split
    | dsimp only

theorem kp_orbJudge (s : State) (err : Nat) : Keeps 1146880 s (State.orbJudge s err) := by
  unfold State.orbJudge
  repeat' first
    | (with_reducible exact Keeps.refl)
    | (with_reducible apply Keeps.atBuilt; refine Keeps.upd ?_)
    | (simp only [Keeps.built])
    | (apply Keeps.next; (with_reducible apply kp_flagRaise); decide)
    | (with_reducible apply Keeps.when)
    | (with_reducible apply Keeps.ite)
    | (with_reducible apply Keeps.foldl)
    | intro _
    | split
    | dsimp only

theorem kp_orbLockAchieved (s : State) : Keeps 1146880 s (State.orbLockAchieved s) := by
  unfold State.orbLockAchieved
  repeat' first
    | (with_reducible exact Keeps.refl)
    | (apply Keeps.next; (with_reducible apply kp_raise); decide)
    | (apply Keeps.next; (with_reducible apply kp_orbSetState); decide)
    | (with_reducible apply Keeps.ite)
    | (with_reducible apply Keeps.foldl)
    | intro _
    | split
    | dsimp only

theorem kp_orbLockLost (s : State) : Keeps 1146880 s (State.orbLockLost s) := by
  unfold State.orbLockLost
  repeat' first
    | (with_reducible exact Keeps.refl)
    | (apply Keeps.next; (with_reducible apply kp_flagRaise); decide)
    | (apply Keeps.next; (with_reducible apply kp_orbSetState); decide)
    | (with_reducible apply Keeps.ite)
    | (with_reducible apply Keeps.foldl)
    | intro _
    | split
    | dsimp only

theorem kp_orbLockRuns (s : State) (t : TrackerSample) : Keeps 32768 s (State.orbLockRuns s t) := by
  unfold State.orbLockRuns
  repeat' first
    | (with_reducible exact Keeps.refl)
    | (with_reducible apply Keeps.atBuilt; refine Keeps.upd ?_)
    | (simp only [Keeps.built])
    | (with_reducible apply Keeps.ite)
    | (with_reducible apply Keeps.foldl)
    | intro _
    | split
    | dsimp only

theorem kp_orbPutFreq (s : State) (f : Nat) : Keeps 1146880 s (State.orbPutFreq s f) := by
  unfold State.orbPutFreq
  repeat' first
    | (with_reducible exact Keeps.refl)
    | (with_reducible apply Keeps.wr)
    | (apply Keeps.next; (with_reducible apply kp_flagRaise); decide)
    | (with_reducible apply Keeps.when)
    | (with_reducible apply Keeps.ite)
    | (with_reducible apply Keeps.foldl)
    | intro _
    | split
    | dsimp only

theorem kp_orbTurnMean (s : State) : Keeps 32768 s (State.orbTurnMean s) := by
  unfold State.orbTurnMean
  repeat' first
    | (with_reducible exact Keeps.refl)
    | (with_reducible apply Keeps.atBuilt; refine Keeps.upd ?_)
    | (simp only [Keeps.built])
    | (with_reducible apply Keeps.ite)
    | (with_reducible apply Keeps.foldl)
    | intro _
    | split
    | dsimp only

theorem kp_orbLoop (s : State) (st : Nat) (t : TrackerSample) : Keeps 1146880 s (State.orbLoop s st t) := by
  unfold State.orbLoop
  repeat' first
    | (with_reducible exact Keeps.refl)
    | (with_reducible apply Keeps.wr)
    | (apply Keeps.next; (with_reducible apply kp_orbPutFreq); decide)
    | (apply Keeps.next; (with_reducible apply kp_orbLockRuns); decide)
    | (apply Keeps.next; (with_reducible apply kp_orbJudge); decide)
    | (apply Keeps.next; (with_reducible apply kp_orbTurnMean); decide)
    | (with_reducible apply Keeps.when)
    | (with_reducible apply Keeps.ite)
    | (with_reducible apply Keeps.foldl)
    | intro _
    | split
    | dsimp only

theorem kp_orbRuns (s : State) : Keeps 32768 s (State.orbRuns s) := by
  unfold State.orbRuns
  repeat' first
    | (with_reducible exact Keeps.refl)
    | (with_reducible apply Keeps.atBuilt; refine Keeps.upd ?_)
    | (simp only [Keeps.built])
    | (with_reducible apply Keeps.ite)
    | (with_reducible apply Keeps.foldl)
    | intro _
    | split
    | dsimp only

theorem kp_orbSample (s : State) (t : TrackerSample) : Keeps 1146880 s (State.orbSample s t) := by
  unfold State.orbSample
  repeat' first
    | (with_reducible exact Keeps.refl)
    | (with_reducible apply Keeps.atBuilt; refine Keeps.upd ?_)
    | (simp only [Keeps.built])
    | (with_reducible apply Keeps.wr)
    | (apply Keeps.next; (with_reducible apply kp_orbRuns); decide)
    | (apply Keeps.next; (with_reducible apply kp_orbLoop); decide)
    | (with_reducible apply Keeps.ite)
    | (with_reducible apply Keeps.foldl)
    | intro _
    | split
    | dsimp only

theorem kp_orbVoltageAbsent (s : State) : Keeps 1146880 s (State.orbVoltageAbsent s) := by
  unfold State.orbVoltageAbsent
  repeat' first
    | (with_reducible exact Keeps.refl)
    | (with_reducible apply Keeps.atBuilt; refine Keeps.upd ?_)
    | (simp only [Keeps.built])
    | (with_reducible apply Keeps.wr)
    | (apply Keeps.next; (with_reducible apply kp_orbSetState); decide)
    | (apply Keeps.next; (with_reducible apply kp_raise); decide)
    | (with_reducible apply Keeps.ite)
    | (with_reducible apply Keeps.foldl)
    | intro _
    | split
    | dsimp only

theorem kp_orbVoltagePresent (s : State) : Keeps 1146880 s (State.orbVoltagePresent s) := by
  unfold State.orbVoltagePresent
  repeat' first
    | (with_reducible exact Keeps.refl)
    | (with_reducible apply Keeps.atBuilt; refine Keeps.upd ?_)
    | (simp only [Keeps.built])
    | (apply Keeps.next; (with_reducible apply kp_orbPutFreq); decide)
    | (apply Keeps.next; (with_reducible apply kp_orbSetState); decide)
    | (apply Keeps.next; (with_reducible apply kp_raise); decide)
    | (with_reducible apply Keeps.ite)
    | (with_reducible apply Keeps.foldl)
    | intro _
    | split
    | dsimp only

theorem kp_execOrbTrackDisable (m : Master) (s : State) : KeepsN 33024 s (execOrbTrackDisable m s) := by
  unfold execOrbTrackDisable
  repeat' first
    | (with_reducible exact Keeps.refl)
    | (with_reducible apply Keeps.out)
    | (apply Keeps.next; (with_reducible apply kp_orbTrackDisable); decide)
    | (with_reducible apply Keeps.access; decide)
    | (with_reducible apply Keeps.ite)
    | (with_reducible apply Keeps.foldl)
    | intro _
    | split
    | dsimp only

theorem kp_execOrbFollowEnter (s : State) : KeepsN 32768 s (execOrbFollowEnter s) := by
  unfold execOrbFollowEnter
  repeat' first
    | (with_reducible exact Keeps.refl)
    | (with_reducible apply Keeps.out)
    | (apply Keeps.next; (with_reducible apply kp_orbFollowEnter); decide)
    | (with_reducible apply Keeps.ite)
    | (with_reducible apply Keeps.foldl)
    | intro _
    | split
    | dsimp only

theorem kp_execOrbConfigWrite (m : Master) (which : OrbSetting) (value : Nat) (s : State) : KeepsN 33024 s (execOrbConfigWrite m which value s) := by
  unfold execOrbConfigWrite
  repeat' first
    | (with_reducible exact Keeps.refl)
    | (with_reducible apply Keeps.out)
    | (apply Keeps.next; (with_reducible apply kp_orbConfigWrite); decide)
    | (with_reducible apply Keeps.access; decide)
    | (with_reducible apply Keeps.ite)
    | (with_reducible apply Keeps.foldl)
    | intro _
    | split
    | dsimp only

theorem kp_execOrbSlotInactWrite (m : Master) (index : Nat) (value : Nat) (s : State) : KeepsN 33024 s (execOrbSlotInactWrite m index value s) := by
  unfold execOrbSlotInactWrite
  repeat' first
    | (with_reducible exact Keeps.refl)
    | (with_reducible apply Keeps.out)
    | (apply Keeps.next; (with_reducible apply kp_slotInactWrite); decide)
    | (with_reducible apply Keeps.access; decide)
    | (with_reducible apply Keeps.ite)
    | (with_reducible apply Keeps.foldl)
    | intro _
    | split
    | dsimp only

theorem kp_execOrbBankSwap (m : Master) (epochInc : Bool) (s : State) : KeepsN 33024 s (execOrbBankSwap m epochInc s) := by
  unfold execOrbBankSwap
  repeat' first
    | (with_reducible exact Keeps.refl)
    | (with_reducible apply Keeps.out)
    | (apply Keeps.next; (with_reducible apply kp_orbBankWrite); decide)
    | (with_reducible apply Keeps.access; decide)
    | (with_reducible apply Keeps.ite)
    | (with_reducible apply Keeps.foldl)
    | intro _
    | split
    | dsimp only

theorem kp_execOrbBankSwitch (s : State) : KeepsN 1155072 s (execOrbBankSwitch s) := by
  unfold execOrbBankSwitch
  repeat' first
    | (with_reducible exact Keeps.refl)
    | (with_reducible apply Keeps.out)
    | (apply Keeps.next; (with_reducible apply kp_orbBankSwitch); decide)
    | (with_reducible apply Keeps.ite)
    | (with_reducible apply Keeps.foldl)
    | intro _
    | split
    | dsimp only

theorem kp_execClrOvr (m : Master) (s : State) : KeepsN 256 s (execClrOvr m s) := by
  unfold execClrOvr
  repeat' first
    | (with_reducible exact Keeps.refl)
    | (with_reducible apply Keeps.out)
    | (with_reducible apply Keeps.wr)
    | (with_reducible apply Keeps.access; decide)
    | (with_reducible apply Keeps.ite)
    | (with_reducible apply Keeps.foldl)
    | intro _
    | split
    | dsimp only

theorem kp_execClrStale (m : Master) (s : State) : KeepsN 256 s (execClrStale m s) := by
  unfold execClrStale
  repeat' first
    | (with_reducible exact Keeps.refl)
    | (with_reducible apply Keeps.out)
    | (with_reducible apply Keeps.wr)
    | (with_reducible apply Keeps.access; decide)
    | (with_reducible apply Keeps.ite)
    | (with_reducible apply Keeps.foldl)
    | intro _
    | split
    | dsimp only

end Sys2Proof.Machine
end

