-- ==== Sys2Proof/Laws/KeepsPwm.lean ====
section
/-! SUPPORT. Laws/KeepsPwm.lean: what each operation of Machine/Pwm.lean keeps. -/

set_option Elab.async false

set_option linter.unusedTactic false
set_option linter.unusedSimpArgs false
set_option linter.unreachableTactic false

namespace Sys2Proof.Machine

theorem kp_setPwmPair (s : State) (p : Nat) (v : PwmPair) : Keeps 131072 s (State.setPwmPair s p v) := by
  unfold State.setPwmPair
  repeat' first
    | (with_reducible exact Keeps.refl)
    | (with_reducible apply Keeps.atBuilt; refine Keeps.upd ?_)
    | (simp only [Keeps.built])
    | (with_reducible apply Keeps.ite)
    | (with_reducible apply Keeps.foldl)
    | intro _
    | split
    | dsimp only

theorem kp_activate (s : State) (p : Nat) (v : PairVals) : Keeps 131072 s (State.activate s p v) := by
  unfold State.activate
  repeat' first
    | (with_reducible exact Keeps.refl)
    | (with_reducible apply Keeps.wr)
    | (apply Keeps.next; (with_reducible apply kp_setPwmPair); decide)
    | (with_reducible apply Keeps.ite)
    | (with_reducible apply Keeps.foldl)
    | intro _
    | split
    | dsimp only

theorem kp_setLine (s : State) (n : Nat) (v : TripLine) : Keeps 131072 s (State.setLine s n v) := by
  unfold State.setLine
  repeat' first
    | (with_reducible exact Keeps.refl)
    | (with_reducible apply Keeps.atBuilt; refine Keeps.upd ?_)
    | (simp only [Keeps.built])
    | (with_reducible apply Keeps.ite)
    | (with_reducible apply Keeps.foldl)
    | intro _
    | split
    | dsimp only

theorem kp_clusterTripped (s : State) (c : Nat) : Keeps 0 s (State.clusterTripped s c) := by
  unfold State.clusterTripped
  repeat' first
    | (with_reducible exact Keeps.refl)
    | (with_reducible apply Keeps.wr)
    | (with_reducible apply Keeps.ite)
    | (with_reducible apply Keeps.foldl)
    | intro _
    | split
    | dsimp only

theorem kp_tripActs (s : State) (n : Nat) : Keeps 1277952 s (State.tripActs s n) := by
  unfold State.tripActs
  repeat' first
    | (with_reducible exact Keeps.refl)
    | (with_reducible apply Keeps.wr)
    | (apply Keeps.next; (with_reducible apply kp_setPwmPair); decide)
    | (apply Keeps.next; (with_reducible apply kp_setLine); decide)
    | (apply Keeps.next; (with_reducible apply kp_setB); decide)
    | (apply Keeps.next; (with_reducible apply kp_clusterTripped); decide)
    | (apply Keeps.next; (with_reducible apply kp_raise); decide)
    | (with_reducible apply Keeps.when)
    | (with_reducible apply Keeps.forEach)
    | (with_reducible apply Keeps.ite)
    | (with_reducible apply Keeps.foldl)
    | intro _
    | split
    | dsimp only

theorem kp_lineUpdate (s : State) (n : Nat) : Keeps 1277952 s (State.lineUpdate s n) := by
  unfold State.lineUpdate
  repeat' first
    | (with_reducible exact Keeps.refl)
    | (apply Keeps.next; (with_reducible apply kp_putB); decide)
    | (apply Keeps.next; (with_reducible apply kp_tripActs); decide)
    | (with_reducible apply Keeps.ite)
    | (with_reducible apply Keeps.foldl)
    | intro _
    | split
    | dsimp only

theorem kp_lineSource (s : State) (n : Nat) (level : Bool) (blanked : Bool) : Keeps 1277952 s (State.lineSource s n level blanked) := by
  unfold State.lineSource
  repeat' first
    | (with_reducible exact Keeps.refl)
    | (apply Keeps.next; (with_reducible apply kp_setLine); decide)
    | (apply Keeps.next; (with_reducible apply kp_lineUpdate); decide)
    | (with_reducible apply Keeps.ite)
    | (with_reducible apply Keeps.foldl)
    | intro _
    | split
    | dsimp only

theorem kp_commitPend (s : State) (c : Nat) : Keeps 0 s (State.commitPend s c) := by
  unfold State.commitPend
  repeat' first
    | (with_reducible exact Keeps.refl)
    | (with_reducible apply Keeps.wr)
    | (with_reducible apply Keeps.ite)
    | (with_reducible apply Keeps.foldl)
    | intro _
    | split
    | dsimp only

theorem kp_setCluster (s : State) (c : Nat) (v : PwmCluster) : Keeps 131072 s (State.setCluster s c v) := by
  unfold State.setCluster
  repeat' first
    | (with_reducible exact Keeps.refl)
    | (with_reducible apply Keeps.atBuilt; refine Keeps.upd ?_)
    | (simp only [Keeps.built])
    | (with_reducible apply Keeps.ite)
    | (with_reducible apply Keeps.foldl)
    | intro _
    | split
    | dsimp only

theorem kp_rangeCheck (s : State) (c : Nat) (period : Nat) : Keeps 1146880 s (State.rangeCheck s c period) := by
  unfold State.rangeCheck
  repeat' first
    | (with_reducible exact Keeps.refl)
    | (apply Keeps.next; (with_reducible apply kp_flagRaise); decide)
    | (with_reducible apply Keeps.when)
    | (with_reducible apply Keeps.ite)
    | (with_reducible apply Keeps.foldl)
    | intro _
    | split
    | dsimp only

theorem kp_transferNow (s : State) (c : Nat) : Keeps 1277952 s (State.transferNow s c) := by
  unfold State.transferNow
  repeat' first
    | (with_reducible exact Keeps.refl)
    | (with_reducible apply Keeps.wr)
    | (apply Keeps.next; (with_reducible apply kp_activate); decide)
    | (apply Keeps.next; (with_reducible apply kp_commitPend); decide)
    | (apply Keeps.next; (with_reducible apply kp_setCluster); decide)
    | (apply Keeps.next; (with_reducible apply kp_rangeCheck); decide)
    | (with_reducible apply Keeps.when)
    | (with_reducible apply Keeps.forEach)
    | (with_reducible apply Keeps.ite)
    | (with_reducible apply Keeps.foldl)
    | intro _
    | split
    | dsimp only

theorem kp_holdCommit (s : State) (c : Nat) : Keeps 139264 s (State.holdCommit s c) := by
  unfold State.holdCommit
  repeat' first
    | (with_reducible exact Keeps.refl)
    | (apply Keeps.next; (with_reducible apply kp_lateCommit); decide)
    | (apply Keeps.next; (with_reducible apply kp_commitPend); decide)
    | (apply Keeps.next; (with_reducible apply kp_setCluster); decide)
    | (with_reducible apply Keeps.when)
    | (with_reducible apply Keeps.ite)
    | (with_reducible apply Keeps.foldl)
    | intro _
    | split
    | dsimp only

theorem kp_commitCluster (s : State) (c : Nat) : Keeps 1286144 s (State.commitCluster s c) := by
  unfold State.commitCluster
  repeat' first
    | (with_reducible exact Keeps.refl)
    | (apply Keeps.next; (with_reducible apply kp_transferNow); decide)
    | (apply Keeps.next; (with_reducible apply kp_holdCommit); decide)
    | (apply Keeps.next; (with_reducible apply kp_lateCommit); decide)
    | (apply Keeps.next; (with_reducible apply kp_commitPend); decide)
    | (apply Keeps.next; (with_reducible apply kp_setCluster); decide)
    | (with_reducible apply Keeps.when)
    | (with_reducible apply Keeps.ite)
    | (with_reducible apply Keeps.foldl)
    | intro _
    | split
    | dsimp only

theorem kp_pwmCommit (s : State) (mask : Nat) : Keeps 1286144 s (State.pwmCommit s mask) := by
  unfold State.pwmCommit
  repeat' first
    | (with_reducible exact Keeps.refl)
    | (apply Keeps.next; (with_reducible apply kp_commitCluster); decide)
    | (with_reducible apply Keeps.forEach)
    | (with_reducible apply Keeps.ite)
    | (with_reducible apply Keeps.foldl)
    | intro _
    | split
    | dsimp only

theorem kp_setAcc (s : State) (p : Nat) (v : Int) : Keeps 0 s (State.setAcc s p v) := by
  unfold State.setAcc
  repeat' first
    | (with_reducible exact Keeps.refl)
    | (with_reducible apply Keeps.wr)
    | (with_reducible apply Keeps.ite)
    | (with_reducible apply Keeps.foldl)
    | intro _
    | split
    | dsimp only

theorem kp_safeRelease (s : State) : Keeps 131072 s (State.safeRelease s) := by
  unfold State.safeRelease
  repeat' first
    | (with_reducible exact Keeps.refl)
    | (with_reducible apply Keeps.wr)
    | (apply Keeps.next; (with_reducible apply kp_setAcc); decide)
    | (apply Keeps.next; (with_reducible apply kp_setCluster); decide)
    | (with_reducible apply Keeps.forEach)
    | (with_reducible apply Keeps.ite)
    | (with_reducible apply Keeps.foldl)
    | intro _
    | split
    | dsimp only

theorem kp_pwmCfgErr (s : State) : Keeps 1146880 s (State.pwmCfgErr s) := by
  unfold State.pwmCfgErr
  repeat' first
    | (with_reducible exact Keeps.refl)
    | (apply Keeps.next; (with_reducible apply kp_flagRaise); decide)
    | (with_reducible apply Keeps.ite)
    | (with_reducible apply Keeps.foldl)
    | intro _
    | split
    | dsimp only

theorem kp_safeClear (s : State) : Keeps 1277952 s (State.safeClear s) := by
  unfold State.safeClear
  repeat' first
    | (with_reducible exact Keeps.refl)
    | (apply Keeps.next; (with_reducible apply kp_safeRelease); decide)
    | (apply Keeps.next; (with_reducible apply kp_pwmCfgErr); decide)
    | (with_reducible apply Keeps.ite)
    | (with_reducible apply Keeps.foldl)
    | intro _
    | split
    | dsimp only

theorem kp_escRelease (s : State) (mask : Nat) : Keeps 131072 s (State.escRelease s mask) := by
  unfold State.escRelease
  repeat' first
    | (with_reducible exact Keeps.refl)
    | (apply Keeps.next; (with_reducible apply kp_clrB); decide)
    | (apply Keeps.next; (with_reducible apply kp_setPwmPair); decide)
    | (with_reducible apply Keeps.forEach)
    | (with_reducible apply Keeps.ite)
    | (with_reducible apply Keeps.foldl)
    | intro _
    | split
    | dsimp only

theorem kp_tripLatchClear (s : State) (mask : Nat) : Keeps 131072 s (State.tripLatchClear s mask) := by
  unfold State.tripLatchClear
  repeat' first
    | (with_reducible exact Keeps.refl)
    | (apply Keeps.next; (with_reducible apply kp_setLine); decide)
    | (apply Keeps.next; (with_reducible apply kp_clrB); decide)
    | (with_reducible apply Keeps.forEach)
    | (with_reducible apply Keeps.ite)
    | (with_reducible apply Keeps.foldl)
    | intro _
    | split
    | dsimp only

theorem kp_holdingToShadows (s : State) (c : Nat) : Keeps 131072 s (State.holdingToShadows s c) := by
  unfold State.holdingToShadows
  repeat' first
    | (with_reducible exact Keeps.refl)
    | (with_reducible apply Keeps.wr)
    | (apply Keeps.next; (with_reducible apply kp_setCluster); decide)
    | (with_reducible apply Keeps.forEach)
    | (with_reducible apply Keeps.ite)
    | (with_reducible apply Keeps.foldl)
    | intro _
    | split
    | dsimp only

theorem kp_windowEnds (s : State) (c : Nat) : Keeps 131072 s (State.windowEnds s c) := by
  unfold State.windowEnds
  repeat' first
    | (with_reducible exact Keeps.refl)
    | (apply Keeps.next; (with_reducible apply kp_holdingToShadows); decide)
    | (apply Keeps.next; (with_reducible apply kp_setCluster); decide)
    | (with_reducible apply Keeps.ite)
    | (with_reducible apply Keeps.foldl)
    | intro _
    | split
    | dsimp only

theorem kp_clusterEnable (s : State) (c : Nat) (en : Bool) : Keeps 1277952 s (State.clusterEnable s c en) := by
  unfold State.clusterEnable
  repeat' first
    | (with_reducible exact Keeps.refl)
    | (with_reducible apply Keeps.wr)
    | (apply Keeps.next; (with_reducible apply kp_windowEnds); decide)
    | (apply Keeps.next; (with_reducible apply kp_transferNow); decide)
    | (with_reducible apply Keeps.ite)
    | (with_reducible apply Keeps.foldl)
    | intro _
    | split
    | dsimp only

theorem kp_clusterSoftReset (s : State) (c : Nat) : Keeps 139264 s (State.clusterSoftReset s c) := by
  unfold State.clusterSoftReset
  repeat' first
    | (with_reducible exact Keeps.refl)
    | (with_reducible apply Keeps.wr)
    | (apply Keeps.next; (with_reducible apply kp_windowEnds); decide)
    | (apply Keeps.next; (with_reducible apply kp_lateCommit); decide)
    | (apply Keeps.next; (with_reducible apply kp_commitPend); decide)
    | (apply Keeps.next; (with_reducible apply kp_setCluster); decide)
    | (apply Keeps.next; (with_reducible apply kp_setPwmPair); decide)
    | (apply Keeps.next; (with_reducible apply kp_setAcc); decide)
    | (with_reducible apply Keeps.when)
    | (with_reducible apply Keeps.forEach)
    | (with_reducible apply Keeps.ite)
    | (with_reducible apply Keeps.foldl)
    | intro _
    | split
    | dsimp only

theorem kp_shadowWrite (s : State) (c : Nat) (fs : List (Fld × Nat)) : Keeps 139264 s (State.shadowWrite s c fs) := by
  unfold State.shadowWrite
  repeat' first
    | (with_reducible exact Keeps.refl)
    | (with_reducible apply Keeps.wr)
    | (apply Keeps.next; (with_reducible apply kp_setCluster); decide)
    | (apply Keeps.next; (with_reducible apply kp_holdCommit); decide)
    | (with_reducible apply Keeps.when)
    | (with_reducible apply Keeps.forEach)
    | (with_reducible apply Keeps.ite)
    | (with_reducible apply Keeps.foldl)
    | intro _
    | split
    | dsimp only

theorem kp_clusterPeriodWrite (s : State) (c : Nat) (v : Nat) : Keeps 1286144 s (State.clusterPeriodWrite s c v) := by
  unfold State.clusterPeriodWrite
  repeat' first
    | (with_reducible exact Keeps.refl)
    | (apply Keeps.next; (with_reducible apply kp_pwmCfgErr); decide)
    | (apply Keeps.next; (with_reducible apply kp_shadowWrite); decide)
    | (with_reducible apply Keeps.ite)
    | (with_reducible apply Keeps.foldl)
    | intro _
    | split
    | dsimp only

theorem kp_pairShadowWrite (s : State) (p : Nat) (r : ShadowReg) (v : Nat) : Keeps 139264 s (State.pairShadowWrite s p r v) := by
  unfold State.pairShadowWrite
  repeat' first
    | (with_reducible exact Keeps.refl)
    | (apply Keeps.next; (with_reducible apply kp_shadowWrite); decide)
    | (with_reducible apply Keeps.ite)
    | (with_reducible apply Keeps.foldl)
    | intro _
    | split
    | dsimp only

theorem kp_forceWrite (s : State) (p : Nat) (fh : Nat) (fl : Nat) : Keeps 1146880 s (State.forceWrite s p fh fl) := by
  unfold State.forceWrite
  repeat' first
    | (with_reducible exact Keeps.refl)
    | (with_reducible apply Keeps.wr)
    | (apply Keeps.next; (with_reducible apply kp_pwmCfgErr); decide)
    | (with_reducible apply Keeps.ite)
    | (with_reducible apply Keeps.foldl)
    | intro _
    | split
    | dsimp only

theorem kp_calDone (s : State) (failed : Nat) : Keeps 1277952 s (State.calDone s failed) := by
  unfold State.calDone
  repeat' first
    | (with_reducible exact Keeps.refl)
    | (with_reducible apply Keeps.atBuilt; refine Keeps.upd ?_)
    | (simp only [Keeps.built])
    | (with_reducible apply Keeps.wr)
    | (apply Keeps.next; (with_reducible apply kp_raise); decide)
    | (with_reducible apply Keeps.ite)
    | (with_reducible apply Keeps.foldl)
    | intro _
    | split
    | dsimp only

theorem kp_reportLate (s : State) (c : Nat) : Keeps 1146880 s (State.reportLate s c) := by
  unfold State.reportLate
  repeat' first
    | (with_reducible exact Keeps.refl)
    | (apply Keeps.next; (with_reducible apply kp_setB); decide)
    | (apply Keeps.next; (with_reducible apply kp_raise); decide)
    | (apply Keeps.next; (with_reducible apply kp_incSat); decide)
    | (with_reducible apply Keeps.ite)
    | (with_reducible apply Keeps.foldl)
    | intro _
    | split
    | dsimp only

theorem kp_shortPulse (s : State) (p : Nat) : Keeps 1277952 s (State.shortPulse s p) := by
  unfold State.shortPulse
  repeat' first
    | (with_reducible exact Keeps.refl)
    | (with_reducible apply Keeps.atBuilt; refine Keeps.upd ?_)
    | (simp only [Keeps.built])
    | (with_reducible apply Keeps.wr)
    | (apply Keeps.next; (with_reducible apply kp_incSat); decide)
    | (apply Keeps.next; (with_reducible apply kp_raise); decide)
    | (with_reducible apply Keeps.ite)
    | (with_reducible apply Keeps.foldl)
    | intro _
    | split
    | dsimp only

theorem kp_peakEdge (s : State) (p : Nat) : Keeps 1277952 s (State.peakEdge s p) := by
  unfold State.peakEdge
  repeat' first
    | (with_reducible exact Keeps.refl)
    | (apply Keeps.next; (with_reducible apply kp_setPwmPair); decide)
    | (apply Keeps.next; (with_reducible apply kp_shortPulse); decide)
    | (apply Keeps.next; (with_reducible apply kp_setAcc); decide)
    | (with_reducible apply Keeps.ite)
    | (with_reducible apply Keeps.foldl)
    | intro _
    | split
    | dsimp only

theorem kp_commitPoint (s : State) (c : Nat) : Keeps 1277952 s (State.commitPoint s c) := by
  unfold State.commitPoint
  repeat' first
    | (with_reducible exact Keeps.refl)
    | (with_reducible apply Keeps.wr)
    | (apply Keeps.next; (with_reducible apply kp_activate); decide)
    | (apply Keeps.next; (with_reducible apply kp_rangeCheck); decide)
    | (apply Keeps.next; (with_reducible apply kp_reportLate); decide)
    | (apply Keeps.next; (with_reducible apply kp_setCluster); decide)
    | (apply Keeps.next; (with_reducible apply kp_commitPend); decide)
    | (apply Keeps.next; (with_reducible apply kp_holdingToShadows); decide)
    | (apply Keeps.next; (with_reducible apply kp_peakEdge); decide)
    | (with_reducible apply Keeps.when)
    | (with_reducible apply Keeps.forEach)
    | (with_reducible apply Keeps.ite)
    | (with_reducible apply Keeps.foldl)
    | intro _
    | split
    | dsimp only

theorem kp_cutoffFreeze (s : State) (c : Nat) (peak : Bool) : Keeps 1277952 s (State.cutoffFreeze s c peak) := by
  unfold State.cutoffFreeze
  repeat' first
    | (with_reducible exact Keeps.refl)
    | (with_reducible apply Keeps.wr)
    | (apply Keeps.next; (with_reducible apply kp_setCluster); decide)
    | (apply Keeps.next; (with_reducible apply kp_setPwmPair); decide)
    | (apply Keeps.next; (with_reducible apply kp_flagRaise); decide)
    | (with_reducible apply Keeps.when)
    | (with_reducible apply Keeps.forEach)
    | (with_reducible apply Keeps.ite)
    | (with_reducible apply Keeps.foldl)
    | intro _
    | split
    | dsimp only

theorem kp_formPulse (s : State) (p : Nat) : Keeps 1277952 s (State.formPulse s p) := by
  unfold State.formPulse
  repeat' first
    | (with_reducible exact Keeps.refl)
    | (with_reducible apply Keeps.wr)
    | (apply Keeps.next; (with_reducible apply kp_setPwmPair); decide)
    | (apply Keeps.next; (with_reducible apply kp_setAcc); decide)
    | (apply Keeps.next; (with_reducible apply kp_shortPulse); decide)
    | (apply Keeps.next; (with_reducible apply kp_incSat); decide)
    | (with_reducible apply Keeps.when)
    | (with_reducible apply Keeps.ite)
    | (with_reducible apply Keeps.foldl)
    | intro _
    | split
    | dsimp only

theorem kp_pwmBoundary (s : State) (newTurn : Bool) : Keeps 131072 s (State.pwmBoundary s newTurn) := by
  unfold State.pwmBoundary
  repeat' first
    | (with_reducible exact Keeps.refl)
    | (with_reducible apply Keeps.atBuilt; refine Keeps.upd ?_)
    | (simp only [Keeps.built])
    | (with_reducible apply Keeps.wr)
    | (apply Keeps.next; (with_reducible apply kp_setLine); decide)
    | (with_reducible apply Keeps.when)
    | (with_reducible apply Keeps.forEach)
    | (with_reducible apply Keeps.ite)
    | (with_reducible apply Keeps.foldl)
    | intro _
    | split
    | dsimp only

theorem kp_interlock (s : State) (p : Nat) : Keeps 1146880 s (State.interlock s p) := by
  unfold State.interlock
  repeat' first
    | (with_reducible exact Keeps.refl)
    | (with_reducible apply Keeps.wr)
    | (apply Keeps.next; (with_reducible apply kp_flagRaise); decide)
    | (apply Keeps.next; (with_reducible apply kp_incSat); decide)
    | (apply Keeps.next; (with_reducible apply kp_setB); decide)
    | (with_reducible apply Keeps.ite)
    | (with_reducible apply Keeps.foldl)
    | intro _
    | split
    | dsimp only

theorem kp_pwmSnapshot (s : State) : Keeps 0 s (State.pwmSnapshot s) := by
  unfold State.pwmSnapshot
  repeat' first
    | (with_reducible exact Keeps.refl)
    | (with_reducible apply Keeps.wr)
    | (with_reducible apply Keeps.forEach)
    | (with_reducible apply Keeps.ite)
    | (with_reducible apply Keeps.foldl)
    | intro _
    | split
    | dsimp only

theorem kp_periodToShadows (s : State) : Keeps 0 s (State.periodToShadows s) := by
  unfold State.periodToShadows
  repeat' first
    | (with_reducible exact Keeps.refl)
    | (with_reducible apply Keeps.wr)
    | (with_reducible apply Keeps.forEach)
    | (with_reducible apply Keeps.ite)
    | (with_reducible apply Keeps.foldl)
    | intro _
    | split
    | dsimp only

theorem kp_valleyReleases (s : State) (p : Nat) : Keeps 131072 s (State.valleyReleases s p) := by
  unfold State.valleyReleases
  repeat' first
    | (with_reducible exact Keeps.refl)
    | (with_reducible apply Keeps.wr)
    | (apply Keeps.next; (with_reducible apply kp_setPwmPair); decide)
    | (with_reducible apply Keeps.when)
    | (with_reducible apply Keeps.ite)
    | (with_reducible apply Keeps.foldl)
    | intro _
    | split
    | dsimp only

theorem kp_pwmValley (s : State) (c : Nat) : Keeps 1277952 s (State.pwmValley s c) := by
  unfold State.pwmValley
  repeat' first
    | (with_reducible exact Keeps.refl)
    | (with_reducible apply Keeps.wr)
    | (apply Keeps.next; (with_reducible apply kp_setCluster); decide)
    | (apply Keeps.next; (with_reducible apply kp_valleyReleases); decide)
    | (apply Keeps.next; (with_reducible apply kp_clusterTripped); decide)
    | (apply Keeps.next; (with_reducible apply kp_setLine); decide)
    | (apply Keeps.next; (with_reducible apply kp_formPulse); decide)
    | (apply Keeps.next; (with_reducible apply kp_raise); decide)
    | (with_reducible apply Keeps.when)
    | (with_reducible apply Keeps.forEach)
    | (with_reducible apply Keeps.ite)
    | (with_reducible apply Keeps.foldl)
    | intro _
    | split
    | dsimp only

theorem kp_execOrbPeriodCompute (s : State) : KeepsN 1146880 s (execOrbPeriodCompute s) := by
  unfold execOrbPeriodCompute
  repeat' first
    | (with_reducible exact Keeps.refl)
    | (with_reducible apply Keeps.out)
    | (apply Keeps.next; (with_reducible apply kp_periodToShadows); decide)
    | (apply Keeps.next; (with_reducible apply kp_orbCompute); decide)
    | (with_reducible apply Keeps.ite)
    | (with_reducible apply Keeps.foldl)
    | intro _
    | split
    | dsimp only

theorem kp_execPwmCommit (src : CommitSource) (mask : Nat) (s : State) : KeepsN 1286400 s (execPwmCommit src mask s) := by
  unfold execPwmCommit
  repeat' first
    | (with_reducible exact Keeps.refl)
    | (with_reducible apply Keeps.out)
    | (apply Keeps.next; (with_reducible apply kp_pwmCommit); decide)
    | (apply Keeps.next; (with_reducible apply kp_retire); decide)
    | (with_reducible apply Keeps.access; decide)
    | (with_reducible apply Keeps.ite)
    | (with_reducible apply Keeps.foldl)
    | intro _
    | split
    | dsimp only

theorem kp_execPwmShadowWrite (m : Master) (p : Nat) (r : ShadowReg) (value : Nat) (s : State) : KeepsN 139520 s (execPwmShadowWrite m p r value s) := by
  unfold execPwmShadowWrite
  repeat' first
    | (with_reducible exact Keeps.refl)
    | (with_reducible apply Keeps.out)
    | (apply Keeps.next; (with_reducible apply kp_pairShadowWrite); decide)
    | (with_reducible apply Keeps.access; decide)
    | (with_reducible apply Keeps.ite)
    | (with_reducible apply Keeps.foldl)
    | intro _
    | split
    | dsimp only

theorem kp_execCommitPoint (c : Nat) (s : State) : KeepsN 1277952 s (execCommitPoint c s) := by
  unfold execCommitPoint
  repeat' first
    | (with_reducible exact Keeps.refl)
    | (with_reducible apply Keeps.out)
    | (apply Keeps.next; (with_reducible apply kp_commitPoint); decide)
    | (with_reducible apply Keeps.ite)
    | (with_reducible apply Keeps.foldl)
    | intro _
    | split
    | dsimp only

theorem kp_execClEnable (m : Master) (c : Nat) (en : Bool) (s : State) : KeepsN 1278208 s (execClEnable m c en s) := by
  unfold execClEnable
  repeat' first
    | (with_reducible exact Keeps.refl)
    | (with_reducible apply Keeps.out)
    | (apply Keeps.next; (with_reducible apply kp_clusterEnable); decide)
    | (with_reducible apply Keeps.access; decide)
    | (with_reducible apply Keeps.ite)
    | (with_reducible apply Keeps.foldl)
    | intro _
    | split
    | dsimp only

theorem kp_execClSoftReset (m : Master) (c : Nat) (s : State) : KeepsN 139520 s (execClSoftReset m c s) := by
  unfold execClSoftReset
  repeat' first
    | (with_reducible exact Keeps.refl)
    | (with_reducible apply Keeps.out)
    | (apply Keeps.next; (with_reducible apply kp_clusterSoftReset); decide)
    | (with_reducible apply Keeps.access; decide)
    | (with_reducible apply Keeps.ite)
    | (with_reducible apply Keeps.foldl)
    | intro _
    | split
    | dsimp only

theorem kp_execClPeriodWrite (m : Master) (c : Nat) (value : Nat) (s : State) : KeepsN 1286400 s (execClPeriodWrite m c value s) := by
  unfold execClPeriodWrite
  repeat' first
    | (with_reducible exact Keeps.refl)
    | (with_reducible apply Keeps.out)
    | (apply Keeps.next; (with_reducible apply kp_clusterPeriodWrite); decide)
    | (with_reducible apply Keeps.access; decide)
    | (with_reducible apply Keeps.ite)
    | (with_reducible apply Keeps.foldl)
    | intro _
    | split
    | dsimp only

theorem kp_execPwmValley (c : Nat) (s : State) : KeepsN 1277952 s (execPwmValley c s) := by
  unfold execPwmValley
  repeat' first
    | (with_reducible exact Keeps.refl)
    | (with_reducible apply Keeps.out)
    | (apply Keeps.next; (with_reducible apply kp_pwmValley); decide)
    | (with_reducible apply Keeps.ite)
    | (with_reducible apply Keeps.foldl)
    | intro _
    | split
    | dsimp only

theorem kp_execPwmEscRelease (m : Master) (mask : Nat) (s : State) : KeepsN 131328 s (execPwmEscRelease m mask s) := by
  unfold execPwmEscRelease
  repeat' first
    | (with_reducible exact Keeps.refl)
    | (with_reducible apply Keeps.out)
    | (apply Keeps.next; (with_reducible apply kp_escRelease); decide)
    | (with_reducible apply Keeps.access; decide)
    | (with_reducible apply Keeps.ite)
    | (with_reducible apply Keeps.foldl)
    | intro _
    | split
    | dsimp only

theorem kp_execTripActivate (n : Nat) (level : Bool) (blanked : Bool) (s : State) : KeepsN 1277952 s (execTripActivate n level blanked s) := by
  unfold execTripActivate
  repeat' first
    | (with_reducible exact Keeps.refl)
    | (with_reducible apply Keeps.out)
    | (apply Keeps.next; (with_reducible apply kp_lineSource); decide)
    | (with_reducible apply Keeps.ite)
    | (with_reducible apply Keeps.foldl)
    | intro _
    | split
    | dsimp only

theorem kp_execTripBlankEnd (n : Nat) (s : State) : KeepsN 1277952 s (execTripBlankEnd n s) := by
  unfold execTripBlankEnd
  repeat' first
    | (with_reducible exact Keeps.refl)
    | (with_reducible apply Keeps.out)
    | (apply Keeps.next; (with_reducible apply kp_lineUpdate); decide)
    | (apply Keeps.next; (with_reducible apply kp_setLine); decide)
    | (with_reducible apply Keeps.ite)
    | (with_reducible apply Keeps.foldl)
    | intro _
    | split
    | dsimp only

theorem kp_execTripLatchClear (m : Master) (mask : Nat) (s : State) : KeepsN 131328 s (execTripLatchClear m mask s) := by
  unfold execTripLatchClear
  repeat' first
    | (with_reducible exact Keeps.refl)
    | (with_reducible apply Keeps.out)
    | (apply Keeps.next; (with_reducible apply kp_tripLatchClear); decide)
    | (with_reducible apply Keeps.access; decide)
    | (with_reducible apply Keeps.ite)
    | (with_reducible apply Keeps.foldl)
    | intro _
    | split
    | dsimp only

theorem kp_execPwmForceWrite (m : Master) (p : Nat) (fh : Nat) (fl : Nat) (s : State) : KeepsN 1147136 s (execPwmForceWrite m p fh fl s) := by
  unfold execPwmForceWrite
  repeat' first
    | (with_reducible exact Keeps.refl)
    | (with_reducible apply Keeps.out)
    | (apply Keeps.next; (with_reducible apply kp_forceWrite); decide)
    | (with_reducible apply Keeps.access; decide)
    | (with_reducible apply Keeps.ite)
    | (with_reducible apply Keeps.foldl)
    | intro _
    | split
    | dsimp only

theorem kp_execPwmSafeEnter (cause : SafeCause) (s : State) : KeepsN 1146880 s (execPwmSafeEnter cause s) := by
  unfold execPwmSafeEnter
  repeat' first
    | (with_reducible exact Keeps.refl)
    | (with_reducible apply Keeps.out)
    | (apply Keeps.next; (with_reducible apply kp_pwmSafe); decide)
    | (with_reducible apply Keeps.ite)
    | (with_reducible apply Keeps.foldl)
    | intro _
    | split
    | dsimp only

theorem kp_execPwmSafeCmdEnter (m : Master) (s : State) : KeepsN 1147136 s (execPwmSafeCmdEnter m s) := by
  unfold execPwmSafeCmdEnter
  repeat' first
    | (with_reducible exact Keeps.refl)
    | (with_reducible apply Keeps.out)
    | (apply Keeps.next; (with_reducible apply kp_pwmSafe); decide)
    | (with_reducible apply Keeps.access; decide)
    | (with_reducible apply Keeps.ite)
    | (with_reducible apply Keeps.foldl)
    | intro _
    | split
    | dsimp only

theorem kp_execPwmSafeClear (m : Master) (s : State) : KeepsN 1278208 s (execPwmSafeClear m s) := by
  unfold execPwmSafeClear
  repeat' first
    | (with_reducible exact Keeps.refl)
    | (with_reducible apply Keeps.out)
    | (apply Keeps.next; (with_reducible apply kp_safeClear); decide)
    | (with_reducible apply Keeps.access; decide)
    | (with_reducible apply Keeps.ite)
    | (with_reducible apply Keeps.foldl)
    | intro _
    | split
    | dsimp only

theorem kp_execPwmClkLoss (s : State) : KeepsN 1146880 s (execPwmClkLoss s) := by
  unfold execPwmClkLoss
  repeat' first
    | (with_reducible exact Keeps.refl)
    | (with_reducible apply Keeps.out)
    | (with_reducible apply Keeps.wr)
    | (apply Keeps.next; (with_reducible apply kp_pwmSafe); decide)
    | (apply Keeps.next; (with_reducible apply kp_flagRaise); decide)
    | (with_reducible apply Keeps.ite)
    | (with_reducible apply Keeps.foldl)
    | intro _
    | split
    | dsimp only

theorem kp_execPwmCalDone (failed : Nat) (s : State) : KeepsN 1277952 s (execPwmCalDone failed s) := by
  unfold execPwmCalDone
  repeat' first
    | (with_reducible exact Keeps.refl)
    | (with_reducible apply Keeps.out)
    | (apply Keeps.next; (with_reducible apply kp_calDone); decide)
    | (with_reducible apply Keeps.ite)
    | (with_reducible apply Keeps.foldl)
    | intro _
    | split
    | dsimp only

theorem kp_execPwmClrShort (m : Master) (s : State) : KeepsN 256 s (execPwmClrShort m s) := by
  unfold execPwmClrShort
  repeat' first
    | (with_reducible exact Keeps.refl)
    | (with_reducible apply Keeps.out)
    | (with_reducible apply Keeps.wr)
    | (with_reducible apply Keeps.access; decide)
    | (with_reducible apply Keeps.ite)
    | (with_reducible apply Keeps.foldl)
    | intro _
    | split
    | dsimp only

theorem kp_execPwmClrXlock (m : Master) (s : State) : KeepsN 256 s (execPwmClrXlock m s) := by
  unfold execPwmClrXlock
  repeat' first
    | (with_reducible exact Keeps.refl)
    | (with_reducible apply Keeps.out)
    | (with_reducible apply Keeps.wr)
    | (with_reducible apply Keeps.access; decide)
    | (with_reducible apply Keeps.ite)
    | (with_reducible apply Keeps.foldl)
    | intro _
    | split
    | dsimp only

theorem kp_execPwmClrLate (m : Master) (s : State) : KeepsN 256 s (execPwmClrLate m s) := by
  unfold execPwmClrLate
  repeat' first
    | (with_reducible exact Keeps.refl)
    | (with_reducible apply Keeps.out)
    | (with_reducible apply Keeps.wr)
    | (with_reducible apply Keeps.forEach)
    | (with_reducible apply Keeps.access; decide)
    | (with_reducible apply Keeps.ite)
    | (with_reducible apply Keeps.foldl)
    | intro _
    | split
    | dsimp only

end Sys2Proof.Machine
end

