-- ==== Sys2Proof/Laws/KeepsComet.lean ====
section
/-! SUPPORT. Laws/KeepsComet.lean: what each operation of Machine/Comet.lean keeps. -/

set_option Elab.async false

set_option linter.unusedTactic false
set_option linter.unusedSimpArgs false
set_option linter.unreachableTactic false

namespace Sys2Proof.Machine

theorem kp_setLink (s : State) (l : Nat) (v : CmtLink) : Keeps 536870912 s (State.setLink s l v) := by
  unfold State.setLink
  repeat' first
    | (with_reducible exact Keeps.refl)
    | (with_reducible apply Keeps.atBuilt; refine Keeps.upd ?_)
    | (simp only [Keeps.built])
    | (with_reducible apply Keeps.ite)
    | (with_reducible apply Keeps.foldl)
    | intro _
    | split
    | dsimp only

theorem kp_cmtQueue (s : State) (l : Nat) (p : CmtPacket) : Keeps 536870912 s (State.cmtQueue s l p) := by
  unfold State.cmtQueue
  repeat' first
    | (with_reducible exact Keeps.refl)
    | (apply Keeps.next; (with_reducible apply kp_setLink); decide)
    | (with_reducible apply Keeps.ite)
    | (with_reducible apply Keeps.foldl)
    | intro _
    | split
    | dsimp only

theorem kp_setLane (s : State) (k : Nat) (v : CmtLane) : Keeps 536870912 s (State.setLane s k v) := by
  unfold State.setLane
  repeat' first
    | (with_reducible exact Keeps.refl)
    | (with_reducible apply Keeps.atBuilt; refine Keeps.upd ?_)
    | (simp only [Keeps.built])
    | (with_reducible apply Keeps.ite)
    | (with_reducible apply Keeps.foldl)
    | intro _
    | split
    | dsimp only

theorem kp_laneStops (s : State) (k : Nat) : Keeps 536870912 s (State.laneStops s k) := by
  unfold State.laneStops
  repeat' first
    | (with_reducible exact Keeps.refl)
    | (with_reducible apply Keeps.wr)
    | (apply Keeps.next; (with_reducible apply kp_setLane); decide)
    | (with_reducible apply Keeps.ite)
    | (with_reducible apply Keeps.foldl)
    | intro _
    | split
    | dsimp only

theorem kp_laneTrains (s : State) (k : Nat) : Keeps 536870912 s (State.laneTrains s k) := by
  unfold State.laneTrains
  repeat' first
    | (with_reducible exact Keeps.refl)
    | (with_reducible apply Keeps.wr)
    | (apply Keeps.next; (with_reducible apply kp_setLane); decide)
    | (with_reducible apply Keeps.ite)
    | (with_reducible apply Keeps.foldl)
    | intro _
    | split
    | dsimp only

theorem kp_laneLoss (s : State) (k : Nat) (tick : Nat) : Keeps 538017792 s (State.laneLoss s k tick) := by
  unfold State.laneLoss
  repeat' first
    | (with_reducible exact Keeps.refl)
    | (apply Keeps.next; (with_reducible apply kp_laneTrains); decide)
    | (apply Keeps.next; (with_reducible apply kp_incSat); decide)
    | (apply Keeps.next; (with_reducible apply kp_setLane); decide)
    | (apply Keeps.next; (with_reducible apply kp_raise); decide)
    | (with_reducible apply Keeps.when)
    | (with_reducible apply Keeps.ite)
    | (with_reducible apply Keeps.foldl)
    | intro _
    | split
    | dsimp only

theorem kp_retrain (s : State) (mask : Nat) : Keeps 538017792 s (State.retrain s mask) := by
  unfold State.retrain
  repeat' first
    | (with_reducible exact Keeps.refl)
    | (apply Keeps.next; (with_reducible apply kp_laneLoss); decide)
    | (with_reducible apply Keeps.forEach)
    | (with_reducible apply Keeps.ite)
    | (with_reducible apply Keeps.foldl)
    | intro _
    | split
    | dsimp only

theorem kp_remeasure (s : State) (mask : Nat) : Keeps 536870912 s (State.remeasure s mask) := by
  unfold State.remeasure
  repeat' first
    | (with_reducible exact Keeps.refl)
    | (apply Keeps.next; (with_reducible apply kp_setLane); decide)
    | (with_reducible apply Keeps.forEach)
    | (with_reducible apply Keeps.ite)
    | (with_reducible apply Keeps.foldl)
    | intro _
    | split
    | dsimp only

theorem kp_clrStats (s : State) : Keeps 0 s (State.clrStats s) := by
  unfold State.clrStats
  repeat' first
    | (with_reducible exact Keeps.refl)
    | (with_reducible apply Keeps.wr)
    | (with_reducible apply Keeps.forEach)
    | (with_reducible apply Keeps.ite)
    | (with_reducible apply Keeps.foldl)
    | intro _
    | split
    | dsimp only

theorem kp_linkClears (s : State) (l : Nat) : Keeps 536870912 s (State.linkClears s l) := by
  unfold State.linkClears
  repeat' first
    | (with_reducible exact Keeps.refl)
    | (with_reducible apply Keeps.wr)
    | (apply Keeps.next; (with_reducible apply kp_setLink); decide)
    | (with_reducible apply Keeps.ite)
    | (with_reducible apply Keeps.foldl)
    | intro _
    | split
    | dsimp only

theorem kp_linkDisable (s : State) (l : Nat) : Keeps 536870912 s (State.linkDisable s l) := by
  unfold State.linkDisable
  repeat' first
    | (with_reducible exact Keeps.refl)
    | (with_reducible apply Keeps.wr)
    | (apply Keeps.next; (with_reducible apply kp_linkClears); decide)
    | (apply Keeps.next; (with_reducible apply kp_laneStops); decide)
    | (with_reducible apply Keeps.forEach)
    | (with_reducible apply Keeps.ite)
    | (with_reducible apply Keeps.foldl)
    | intro _
    | split
    | dsimp only

theorem kp_cmtCfgErr (s : State) : Keeps 0 s (State.cmtCfgErr s) := by
  unfold State.cmtCfgErr
  repeat' first
    | (with_reducible exact Keeps.refl)
    | (with_reducible apply Keeps.wr)
    | (with_reducible apply Keeps.ite)
    | (with_reducible apply Keeps.foldl)
    | intro _
    | split
    | dsimp only

theorem kp_linkEnable (s : State) (l : Nat) : Keeps 536870912 s (State.linkEnable s l) := by
  unfold State.linkEnable
  repeat' first
    | (with_reducible exact Keeps.refl)
    | (with_reducible apply Keeps.wr)
    | (apply Keeps.next; (with_reducible apply kp_cmtCfgErr); decide)
    | (apply Keeps.next; (with_reducible apply kp_laneTrains); decide)
    | (with_reducible apply Keeps.forEach)
    | (with_reducible apply Keeps.ite)
    | (with_reducible apply Keeps.foldl)
    | intro _
    | split
    | dsimp only

theorem kp_laneTestWrite (s : State) (k : Nat) (loop : Nat) (pat : Nat) (chk : Bool) : Keeps 0 s (State.laneTestWrite s k loop pat chk) := by
  unfold State.laneTestWrite
  repeat' first
    | (with_reducible exact Keeps.refl)
    | (with_reducible apply Keeps.wr)
    | (apply Keeps.next; (with_reducible apply kp_cmtCfgErr); decide)
    | (with_reducible apply Keeps.when)
    | (with_reducible apply Keeps.ite)
    | (with_reducible apply Keeps.foldl)
    | intro _
    | split
    | dsimp only

theorem kp_safeTxQueue (s : State) (m : Master) (mask : Nat) : Keeps 256 s (State.safeTxQueue s m mask) := by
  unfold State.safeTxQueue
  repeat' first
    | (with_reducible exact Keeps.refl)
    | (with_reducible apply Keeps.atBuilt; refine Keeps.upd ?_)
    | (simp only [Keeps.built])
    | (with_reducible apply Keeps.wr)
    | (with_reducible apply Keeps.ite)
    | (with_reducible apply Keeps.foldl)
    | intro _
    | split
    | dsimp only

theorem kp_linkDown (s : State) (l : Nat) : Keeps 538017792 s (State.linkDown s l) := by
  unfold State.linkDown
  repeat' first
    | (with_reducible exact Keeps.refl)
    | (with_reducible apply Keeps.wr)
    | (apply Keeps.next; (with_reducible apply kp_linkClears); decide)
    | (apply Keeps.next; (with_reducible apply kp_raise); decide)
    | (with_reducible apply Keeps.ite)
    | (with_reducible apply Keeps.foldl)
    | intro _
    | split
    | dsimp only

theorem kp_shedEvaluate (s : State) (l : Nat) : Keeps 1146880 s (State.shedEvaluate s l) := by
  unfold State.shedEvaluate
  repeat' first
    | (with_reducible exact Keeps.refl)
    | (with_reducible apply Keeps.wr)
    | (apply Keeps.next; (with_reducible apply kp_raise); decide)
    | (with_reducible apply Keeps.ite)
    | (with_reducible apply Keeps.foldl)
    | intro _
    | split
    | dsimp only

theorem kp_cmtLaneRemove (s : State) (k : Nat) : Keeps 538017792 s (State.cmtLaneRemove s k) := by
  unfold State.cmtLaneRemove
  repeat' first
    | (with_reducible exact Keeps.refl)
    | (with_reducible apply Keeps.wr)
    | (apply Keeps.next; (with_reducible apply kp_setLane); decide)
    | (apply Keeps.next; (with_reducible apply kp_clrB); decide)
    | (apply Keeps.next; (with_reducible apply kp_linkDown); decide)
    | (apply Keeps.next; (with_reducible apply kp_raise); decide)
    | (apply Keeps.next; (with_reducible apply kp_shedEvaluate); decide)
    | (with_reducible apply Keeps.when)
    | (with_reducible apply Keeps.ite)
    | (with_reducible apply Keeps.foldl)
    | intro _
    | split
    | dsimp only

theorem kp_laneLost (s : State) (k : Nat) (cause : Nat) (tick : Nat) : Keeps 538017792 s (State.laneLost s k cause tick) := by
  unfold State.laneLost
  repeat' first
    | (with_reducible exact Keeps.refl)
    | (with_reducible apply Keeps.wr)
    | (apply Keeps.next; (with_reducible apply kp_laneLoss); decide)
    | (with_reducible apply Keeps.ite)
    | (with_reducible apply Keeps.foldl)
    | intro _
    | split
    | dsimp only

theorem kp_bndReceive (s : State) (l : Nat) (arrival : Int) (tag : Nat) (mask : Nat) : Keeps 536870912 s (State.bndReceive s l arrival tag mask) := by
  unfold State.bndReceive
  repeat' first
    | (with_reducible exact Keeps.refl)
    | (apply Keeps.next; (with_reducible apply kp_setLink); decide)
    | (with_reducible apply Keeps.ite)
    | (with_reducible apply Keeps.foldl)
    | intro _
    | split
    | dsimp only

theorem kp_repeatDown (s : State) (l : Nat) (p : CmtPacket) : Keeps 536870912 s (State.repeatDown s l p) := by
  unfold State.repeatDown
  repeat' first
    | (with_reducible exact Keeps.refl)
    | (apply Keeps.next; (with_reducible apply kp_cmtQueue); decide)
    | (with_reducible apply Keeps.ite)
    | (with_reducible apply Keeps.foldl)
    | intro _
    | split
    | dsimp only

theorem kp_broadcastReceive (s : State) (l : Nat) (w : List Nat) : Keeps 572096512 s (State.broadcastReceive s l w) := by
  unfold State.broadcastReceive
  repeat' first
    | (with_reducible exact Keeps.refl)
    | (apply Keeps.next; (with_reducible apply kp_repeatDown); decide)
    | (apply Keeps.next; (with_reducible apply kp_eeBroadcast); decide)
    | (apply Keeps.next; (with_reducible apply kp_eeIsland); decide)
    | (with_reducible apply Keeps.ite)
    | (with_reducible apply Keeps.foldl)
    | intro _
    | split
    | dsimp only

theorem kp_broadcastSend (s : State) : Keeps 570425344 s (State.broadcastSend s) := by
  unfold State.broadcastSend
  repeat' first
    | (with_reducible exact Keeps.refl)
    | (with_reducible apply Keeps.atBuilt; refine Keeps.upd ?_)
    | (simp only [Keeps.built])
    | (apply Keeps.next; (with_reducible apply kp_cmtQueue); decide)
    | (with_reducible apply Keeps.ite)
    | (with_reducible apply Keeps.foldl)
    | intro _
    | split
    | dsimp only

theorem kp_sendLatency (s : State) (l : Nat) : Keeps 536870912 s (State.sendLatency s l) := by
  unfold State.sendLatency
  repeat' first
    | (with_reducible exact Keeps.refl)
    | (apply Keeps.next; (with_reducible apply kp_cmtQueue); decide)
    | (with_reducible apply Keeps.ite)
    | (with_reducible apply Keeps.foldl)
    | intro _
    | split
    | dsimp only

theorem kp_exportNotices (s : State) : Keeps 536875008 s (State.exportNotices s) := by
  unfold State.exportNotices
  repeat' first
    | (with_reducible exact Keeps.refl)
    | (with_reducible apply Keeps.atBuilt; refine Keeps.upd ?_)
    | (simp only [Keeps.built])
    | (apply Keeps.next; (with_reducible apply kp_cmtQueue); decide)
    | (apply Keeps.nextP; (with_reducible apply kp_takeFree); decide)
    | (with_reducible apply Keeps.when)
    | (with_reducible apply Keeps.forEach)
    | (with_reducible apply Keeps.ite)
    | (with_reducible exact Keeps.reflP)
    | (simp only [Keeps.pair_eq])
    | (with_reducible apply Keeps.snd)
    | (apply Keeps.of_pair; assumption)
    | (with_reducible apply Keeps.iteP)
    | (with_reducible apply Keeps.foldlP)
    | (with_reducible apply Keeps.foldl)
    | intro _
    | split
    | dsimp only

theorem kp_markerSend (s : State) (l : Nat) : Keeps 536875008 s (State.markerSend s l) := by
  unfold State.markerSend
  repeat' first
    | (with_reducible exact Keeps.refl)
    | (apply Keeps.nextP; (with_reducible apply kp_takeFree); decide)
    | (apply Keeps.next; (with_reducible apply kp_cmtQueue); decide)
    | (with_reducible apply Keeps.ite)
    | (with_reducible exact Keeps.reflP)
    | (simp only [Keeps.pair_eq])
    | (with_reducible apply Keeps.snd)
    | (apply Keeps.of_pair; assumption)
    | (with_reducible apply Keeps.iteP)
    | (with_reducible apply Keeps.foldlP)
    | (with_reducible apply Keeps.foldl)
    | intro _
    | split
    | dsimp only

theorem kp_safeTxSend (s : State) (i : Nat) : Keeps 536870912 s (State.safeTxSend s i) := by
  unfold State.safeTxSend
  repeat' first
    | (with_reducible exact Keeps.refl)
    | (apply Keeps.next; (with_reducible apply kp_clrB); decide)
    | (apply Keeps.next; (with_reducible apply kp_cmtQueue); decide)
    | (with_reducible apply Keeps.ite)
    | (with_reducible apply Keeps.foldl)
    | intro _
    | split
    | dsimp only

theorem kp_cmtBoundary (s : State) : Keeps 570429440 s (State.cmtBoundary s) := by
  unfold State.cmtBoundary
  repeat' first
    | (with_reducible exact Keeps.refl)
    | (with_reducible apply Keeps.wr)
    | (apply Keeps.next; (with_reducible apply kp_setLane); decide)
    | (apply Keeps.next; (with_reducible apply kp_sendLatency); decide)
    | (apply Keeps.next; (with_reducible apply kp_incSat); decide)
    | (apply Keeps.next; (with_reducible apply kp_setLink); decide)
    | (apply Keeps.next; (with_reducible apply kp_exportNotices); decide)
    | (apply Keeps.next; (with_reducible apply kp_markerSend); decide)
    | (apply Keeps.next; (with_reducible apply kp_broadcastSend); decide)
    | (apply Keeps.next; (with_reducible apply kp_safeTxSend); decide)
    | (with_reducible apply Keeps.when)
    | (with_reducible apply Keeps.forEach)
    | (with_reducible apply Keeps.ite)
    | (with_reducible apply Keeps.foldl)
    | intro _
    | split
    | dsimp only

theorem kp_cmtDrop (s : State) (l : Nat) : Keeps 0 s (State.cmtDrop s l) := by
  unfold State.cmtDrop
  repeat' first
    | (with_reducible exact Keeps.refl)
    | (apply Keeps.next; (with_reducible apply kp_incSat); decide)
    | (with_reducible apply Keeps.ite)
    | (with_reducible apply Keeps.foldl)
    | intro _
    | split
    | dsimp only

theorem kp_cmtSnapshot (s : State) : Keeps 0 s (State.cmtSnapshot s) := by
  unfold State.cmtSnapshot
  repeat' first
    | (with_reducible exact Keeps.refl)
    | (with_reducible apply Keeps.wr)
    | (with_reducible apply Keeps.forEach)
    | (with_reducible apply Keeps.ite)
    | (with_reducible apply Keeps.foldl)
    | intro _
    | split
    | dsimp only

theorem kp_dfeWindow (s : State) (k : Nat) (s1 : Int) (s2 : Int) (s3 : Int) (transitions : Nat) (ordered : Bool) : Keeps 0 s (State.dfeWindow s k s1 s2 s3 transitions ordered) := by
  unfold State.dfeWindow
  repeat' first
    | (with_reducible exact Keeps.refl)
    | (with_reducible apply Keeps.wr)
    | (with_reducible apply Keeps.ite)
    | (with_reducible apply Keeps.foldl)
    | intro _
    | split
    | dsimp only

theorem kp_edgeQueue (s : State) (c : Nat) (l : Nat) : Keeps 538148864 s (State.edgeQueue s c l) := by
  unfold State.edgeQueue
  repeat' first
    | (with_reducible exact Keeps.refl)
    | (apply Keeps.next; (with_reducible apply kp_commitPoint); decide)
    | (apply Keeps.next; (with_reducible apply kp_cmtQueue); decide)
    | (apply Keeps.next; (with_reducible apply kp_cmtDrop); decide)
    | (apply Keeps.next; (with_reducible apply kp_flagRaise); decide)
    | (with_reducible apply Keeps.when)
    | (with_reducible apply Keeps.ite)
    | (with_reducible apply Keeps.foldl)
    | intro _
    | split
    | dsimp only

theorem kp_fomSample (s : State) (k : Nat) (fom : Nat) : Keeps 538017792 s (State.fomSample s k fom) := by
  unfold State.fomSample
  repeat' first
    | (with_reducible exact Keeps.refl)
    | (with_reducible apply Keeps.wr)
    | (apply Keeps.next; (with_reducible apply kp_setLane); decide)
    | (apply Keeps.next; (with_reducible apply kp_flagRaise); decide)
    | (with_reducible apply Keeps.ite)
    | (with_reducible apply Keeps.foldl)
    | intro _
    | split
    | dsimp only

theorem kp_forward (s : State) (l : Nat) (p : CmtPacket) : Keeps 536870912 s (State.forward s l p) := by
  unfold State.forward
  repeat' first
    | (with_reducible exact Keeps.refl)
    | (apply Keeps.next; (with_reducible apply kp_cmtQueue); decide)
    | (with_reducible apply Keeps.ite)
    | (with_reducible apply Keeps.foldl)
    | intro _
    | split
    | dsimp only

theorem kp_idleEnter (s : State) (l : Nat) (tick : Nat) : Keeps 536870912 s (State.idleEnter s l tick) := by
  unfold State.idleEnter
  repeat' first
    | (with_reducible exact Keeps.refl)
    | (apply Keeps.next; (with_reducible apply kp_setLink); decide)
    | (with_reducible apply Keeps.ite)
    | (with_reducible apply Keeps.foldl)
    | intro _
    | split
    | dsimp only

theorem kp_idleExit (s : State) (l : Nat) : Keeps 536870912 s (State.idleExit s l) := by
  unfold State.idleExit
  repeat' first
    | (with_reducible exact Keeps.refl)
    | (apply Keeps.next; (with_reducible apply kp_setLink); decide)
    | (with_reducible apply Keeps.ite)
    | (with_reducible apply Keeps.foldl)
    | intro _
    | split
    | dsimp only

theorem kp_linkMeasures (s : State) (l : Nat) : Keeps 1146880 s (State.linkMeasures s l) := by
  unfold State.linkMeasures
  repeat' first
    | (with_reducible exact Keeps.refl)
    | (with_reducible apply Keeps.wr)
    | (apply Keeps.next; (with_reducible apply kp_flagRaise); decide)
    | (with_reducible apply Keeps.ite)
    | (with_reducible apply Keeps.foldl)
    | intro _
    | split
    | dsimp only

theorem kp_laneConfigured (s : State) (k : Nat) : Keeps 538017792 s (State.laneConfigured s k) := by
  unfold State.laneConfigured
  repeat' first
    | (with_reducible exact Keeps.refl)
    | (with_reducible apply Keeps.wr)
    | (apply Keeps.next; (with_reducible apply kp_setLane); decide)
    | (apply Keeps.next; (with_reducible apply kp_linkMeasures); decide)
    | (with_reducible apply Keeps.ite)
    | (with_reducible apply Keeps.foldl)
    | intro _
    | split
    | dsimp only

theorem kp_laneReinstate (s : State) (k : Nat) : Keeps 538017792 s (State.laneReinstate s k) := by
  unfold State.laneReinstate
  repeat' first
    | (with_reducible exact Keeps.refl)
    | (with_reducible apply Keeps.wr)
    | (apply Keeps.next; (with_reducible apply kp_setB); decide)
    | (apply Keeps.next; (with_reducible apply kp_setLane); decide)
    | (apply Keeps.next; (with_reducible apply kp_raise); decide)
    | (apply Keeps.next; (with_reducible apply kp_shedEvaluate); decide)
    | (with_reducible apply Keeps.when)
    | (with_reducible apply Keeps.ite)
    | (with_reducible apply Keeps.foldl)
    | intro _
    | split
    | dsimp only

theorem kp_laneSend (s : State) (slot : Nat) : Keeps 536903680 s (State.laneSend s slot) := by
  unfold State.laneSend
  repeat' first
    | (with_reducible exact Keeps.refl)
    | (apply Keeps.next; (with_reducible apply kp_retire); decide)
    | (apply Keeps.next; (with_reducible apply kp_cmtDrop); decide)
    | (apply Keeps.next; (with_reducible apply kp_cmtQueue); decide)
    | (with_reducible apply Keeps.ite)
    | (with_reducible apply Keeps.foldl)
    | intro _
    | split
    | dsimp only

theorem kp_latencyAgain (s : State) (k : Nat) (td : Nat) : Keeps 536870912 s (State.latencyAgain s k td) := by
  unfold State.latencyAgain
  repeat' first
    | (with_reducible exact Keeps.refl)
    | (apply Keeps.next; (with_reducible apply kp_setLane); decide)
    | (with_reducible apply Keeps.ite)
    | (with_reducible apply Keeps.foldl)
    | intro _
    | split
    | dsimp only

theorem kp_latencyMeasured (s : State) (k : Nat) (td : Nat) : Keeps 536870912 s (State.latencyMeasured s k td) := by
  unfold State.latencyMeasured
  repeat' first
    | (with_reducible exact Keeps.refl)
    | (with_reducible apply Keeps.wr)
    | (apply Keeps.next; (with_reducible apply kp_setLane); decide)
    | (with_reducible apply Keeps.ite)
    | (with_reducible apply Keeps.foldl)
    | intro _
    | split
    | dsimp only

theorem kp_linkComesUp (s : State) (l : Nat) : Keeps 538017792 s (State.linkComesUp s l) := by
  unfold State.linkComesUp
  repeat' first
    | (with_reducible exact Keeps.refl)
    | (with_reducible apply Keeps.wr)
    | (apply Keeps.next; (with_reducible apply kp_raise); decide)
    | (apply Keeps.next; (with_reducible apply kp_flagRaise); decide)
    | (apply Keeps.next; (with_reducible apply kp_shedEvaluate); decide)
    | (apply Keeps.next; (with_reducible apply kp_sendLatency); decide)
    | (with_reducible apply Keeps.when)
    | (with_reducible apply Keeps.forEach)
    | (with_reducible apply Keeps.ite)
    | (with_reducible apply Keeps.foldl)
    | intro _
    | split
    | dsimp only

theorem kp_nameBack (s : State) (k : Nat) (tick : Nat) : Keeps 536870912 s (State.nameBack s k tick) := by
  unfold State.nameBack
  repeat' first
    | (with_reducible exact Keeps.refl)
    | (apply Keeps.next; (with_reducible apply kp_setLane); decide)
    | (with_reducible apply Keeps.ite)
    | (with_reducible apply Keeps.foldl)
    | intro _
    | split
    | dsimp only

theorem kp_lstat (s : State) (l : Nat) (lost : Nat) (ready : Nat) (tag : Nat) (tick : Nat) : Keeps 536870912 s (State.lstat s l lost ready tag tick) := by
  unfold State.lstat
  repeat' first
    | (with_reducible exact Keeps.refl)
    | (apply Keeps.next; (with_reducible apply kp_setLane); decide)
    | (apply Keeps.next; (with_reducible apply kp_nameBack); decide)
    | (with_reducible apply Keeps.forEach)
    | (with_reducible apply Keeps.ite)
    | (with_reducible apply Keeps.foldl)
    | intro _
    | split
    | dsimp only

theorem kp_markerAlign (s : State) (off : Int) : Keeps 32768 s (State.markerAlign s off) := by
  unfold State.markerAlign
  repeat' first
    | (with_reducible exact Keeps.refl)
    | (with_reducible apply Keeps.atBuilt; refine Keeps.upd ?_)
    | (simp only [Keeps.built])
    | (with_reducible apply Keeps.wr)
    | (with_reducible apply Keeps.ite)
    | (with_reducible apply Keeps.foldl)
    | intro _
    | split
    | dsimp only

theorem kp_markerJudge (s : State) (l : Nat) (w : List Nat) : Keeps 538017792 s (State.markerJudge s l w) := by
  unfold State.markerJudge
  repeat' first
    | (with_reducible exact Keeps.refl)
    | (with_reducible apply Keeps.atBuilt; refine Keeps.upd ?_)
    | (simp only [Keeps.built])
    | (with_reducible apply Keeps.wr)
    | (apply Keeps.next; (with_reducible apply kp_setLink); decide)
    | (apply Keeps.next; (with_reducible apply kp_flagRaise); decide)
    | (apply Keeps.next; (with_reducible apply kp_markerAlign); decide)
    | (with_reducible apply Keeps.ite)
    | (with_reducible apply Keeps.foldl)
    | intro _
    | split
    | dsimp only

theorem kp_markerReceive (s : State) (l : Nat) (w : List Nat) (resid : Int) : Keeps 538017792 s (State.markerReceive s l w resid) := by
  unfold State.markerReceive
  repeat' first
    | (with_reducible exact Keeps.refl)
    | (apply Keeps.next; (with_reducible apply kp_markerJudge); decide)
    | (apply Keeps.next; (with_reducible apply kp_repeatDown); decide)
    | (with_reducible apply Keeps.ite)
    | (with_reducible apply Keeps.foldl)
    | intro _
    | split
    | dsimp only

theorem kp_packetReceive (s : State) (l : Nat) (ok : Bool) : Keeps 1146880 s (State.packetReceive s l ok) := by
  unfold State.packetReceive
  repeat' first
    | (with_reducible exact Keeps.refl)
    | (apply Keeps.next; (with_reducible apply kp_incSat); decide)
    | (apply Keeps.next; (with_reducible apply kp_flagRaise); decide)
    | (with_reducible apply Keeps.ite)
    | (with_reducible apply Keeps.foldl)
    | intro _
    | split
    | dsimp only

theorem kp_packetStart (s : State) (l : Nat) (tick : Nat) : Keeps 538017792 s (State.packetStart s l tick) := by
  unfold State.packetStart
  repeat' first
    | (with_reducible exact Keeps.refl)
    | (with_reducible apply Keeps.wr)
    | (apply Keeps.next; (with_reducible apply kp_setLink); decide)
    | (apply Keeps.next; (with_reducible apply kp_flagRaise); decide)
    | (apply Keeps.next; (with_reducible apply kp_cmtDrop); decide)
    | (apply Keeps.next; (with_reducible apply kp_incSat); decide)
    | (with_reducible apply Keeps.when)
    | (with_reducible apply Keeps.ite)
    | (with_reducible apply Keeps.foldl)
    | intro _
    | split
    | dsimp only

theorem kp_patternErrors (s : State) (k : Nat) (n : Nat) : Keeps 1146880 s (State.patternErrors s k n) := by
  unfold State.patternErrors
  repeat' first
    | (with_reducible exact Keeps.refl)
    | (apply Keeps.next; (with_reducible apply kp_addSat); decide)
    | (apply Keeps.next; (with_reducible apply kp_flagRaise); decide)
    | (with_reducible apply Keeps.when)
    | (with_reducible apply Keeps.ite)
    | (with_reducible apply Keeps.foldl)
    | intro _
    | split
    | dsimp only

theorem kp_probeReceive (s : State) (k : Nat) (seq : Nat) (turnaround : Nat) : Keeps 536870912 s (State.probeReceive s k seq turnaround) := by
  unfold State.probeReceive
  repeat' first
    | (with_reducible exact Keeps.refl)
    | (apply Keeps.next; (with_reducible apply kp_setLane); decide)
    | (with_reducible apply Keeps.ite)
    | (with_reducible apply Keeps.foldl)
    | intro _
    | split
    | dsimp only

theorem kp_readyMark (s : State) (k : Nat) (tick : Nat) : Keeps 536870912 s (State.readyMark s k tick) := by
  unfold State.readyMark
  repeat' first
    | (with_reducible exact Keeps.refl)
    | (apply Keeps.next; (with_reducible apply kp_nameBack); decide)
    | (apply Keeps.next; (with_reducible apply kp_setLane); decide)
    | (with_reducible apply Keeps.ite)
    | (with_reducible apply Keeps.foldl)
    | intro _
    | split
    | dsimp only

theorem kp_safetyTake (s : State) (l : Nat) (seq : Nat) (addr : Nat) (ws : List Nat) : KeepsP 538017792 s (State.safetyTake s l seq addr ws) := by
  unfold State.safetyTake
  repeat' first
    | (with_reducible exact Keeps.refl)
    | (with_reducible apply Keeps.wr)
    | (apply Keeps.next; (with_reducible apply kp_setLink); decide)
    | (apply Keeps.next; (with_reducible apply kp_forward); decide)
    | (apply Keeps.next; (with_reducible apply kp_raise); decide)
    | (with_reducible apply Keeps.when)
    | (with_reducible apply Keeps.forEach)
    | (with_reducible apply Keeps.ite)
    | (with_reducible apply Keeps.iteP)
    | (with_reducible exact Keeps.reflP)
    | (simp only [Keeps.pair_eq])
    | (with_reducible apply Keeps.snd)
    | (apply Keeps.of_pair; assumption)
    | (with_reducible apply Keeps.foldlP)
    | (with_reducible apply Keeps.foldl)
    | intro _
    | split
    | dsimp only

theorem kp_sampleReceive (s : State) (l : Nat) (ws : List Nat) : Keeps 1146880 s (State.sampleReceive s l ws) := by
  unfold State.sampleReceive
  repeat' first
    | (with_reducible exact Keeps.refl)
    | (with_reducible apply Keeps.wr)
    | (apply Keeps.next; (with_reducible apply kp_raise); decide)
    | (with_reducible apply Keeps.forEach)
    | (with_reducible apply Keeps.ite)
    | (with_reducible apply Keeps.foldl)
    | intro _
    | split
    | dsimp only

theorem kp_shareReceive (s : State) (l : Nat) (ws : List Nat) : Keeps 0 s (State.shareReceive s l ws) := by
  unfold State.shareReceive
  repeat' first
    | (with_reducible exact Keeps.refl)
    | (with_reducible apply Keeps.wr)
    | (with_reducible apply Keeps.forEach)
    | (with_reducible apply Keeps.ite)
    | (with_reducible apply Keeps.foldl)
    | intro _
    | split
    | dsimp only

theorem kp_statusReceive (s : State) (l : Nat) (ws : List Nat) : Keeps 0 s (State.statusReceive s l ws) := by
  unfold State.statusReceive
  repeat' first
    | (with_reducible exact Keeps.refl)
    | (with_reducible apply Keeps.wr)
    | (with_reducible apply Keeps.forEach)
    | (with_reducible apply Keeps.ite)
    | (with_reducible apply Keeps.foldl)
    | intro _
    | split
    | dsimp only

theorem kp_trainTimeout (s : State) (l : Nat) : Keeps 1146880 s (State.trainTimeout s l) := by
  unfold State.trainTimeout
  repeat' first
    | (with_reducible exact Keeps.refl)
    | (apply Keeps.next; (with_reducible apply kp_linkMeasures); decide)
    | (with_reducible apply Keeps.ite)
    | (with_reducible apply Keeps.foldl)
    | intro _
    | split
    | dsimp only

theorem kp_trainingSets (s : State) (k : Nat) (t : TrainSet) : Keeps 536870912 s (State.trainingSets s k t) := by
  unfold State.trainingSets
  repeat' first
    | (with_reducible exact Keeps.refl)
    | (with_reducible apply Keeps.wr)
    | (apply Keeps.next; (with_reducible apply kp_cmtCfgErr); decide)
    | (apply Keeps.next; (with_reducible apply kp_setLink); decide)
    | (with_reducible apply Keeps.ite)
    | (with_reducible apply Keeps.foldl)
    | intro _
    | split
    | dsimp only

theorem kp_tunnelTake (s : State) (l : Nat) (addr : Nat) (w0 : Nat) (bytes : List Byte) : KeepsP 538017792 s (State.tunnelTake s l addr w0 bytes) := by
  unfold State.tunnelTake
  repeat' first
    | (with_reducible exact Keeps.refl)
    | (apply Keeps.next; (with_reducible apply kp_forward); decide)
    | (apply Keeps.next; (with_reducible apply kp_raise); decide)
    | (apply Keeps.next; (with_reducible apply kp_setLink); decide)
    | (with_reducible apply Keeps.ite)
    | (with_reducible apply Keeps.iteP)
    | (with_reducible exact Keeps.reflP)
    | (simp only [Keeps.pair_eq])
    | (with_reducible apply Keeps.snd)
    | (apply Keeps.of_pair; assumption)
    | (with_reducible apply Keeps.foldlP)
    | (with_reducible apply Keeps.foldl)
    | intro _
    | split
    | dsimp only

theorem kp_execCutoffFreeze (c : Nat) (peak : Bool) (s : State) : KeepsN 538148864 s (execCutoffFreeze c peak s) := by
  unfold execCutoffFreeze
  repeat' first
    | (with_reducible exact Keeps.refl)
    | (with_reducible apply Keeps.out)
    | (apply Keeps.next; (with_reducible apply kp_cutoffFreeze); decide)
    | (apply Keeps.next; (with_reducible apply kp_edgeQueue); decide)
    | (with_reducible apply Keeps.forEach)
    | (with_reducible apply Keeps.ite)
    | (with_reducible apply Keeps.foldl)
    | intro _
    | split
    | dsimp only

theorem kp_linkWrite {c : Nat} {s : State} {m : Master} {l : Nat} {f : State → State} (hb : inMask c 8) (hf : ∀ s, Keeps c s (f s)) :
    KeepsN c s (linkWrite m l s f) := by
  unfold linkWrite
  apply Keeps.out
  split
  · exact Keeps.access hb Keeps.refl hf
  · exact Keeps.refl

theorem kp_execLinkEnable (m : Master) (l : Nat) (s : State) : KeepsN 536871168 s (execLinkEnable m l s) := by
  unfold execLinkEnable
  repeat' first
    | (with_reducible exact Keeps.refl)
    | (with_reducible apply Keeps.out)
    | (with_reducible apply kp_linkWrite; decide)
    | (apply Keeps.next; (with_reducible apply kp_linkEnable); decide)
    | (with_reducible apply Keeps.ite)
    | (with_reducible apply Keeps.foldl)
    | intro _
    | split
    | dsimp only

theorem kp_execLinkDisable (m : Master) (l : Nat) (s : State) : KeepsN 536871168 s (execLinkDisable m l s) := by
  unfold execLinkDisable
  repeat' first
    | (with_reducible exact Keeps.refl)
    | (with_reducible apply Keeps.out)
    | (with_reducible apply kp_linkWrite; decide)
    | (apply Keeps.next; (with_reducible apply kp_linkDisable); decide)
    | (with_reducible apply Keeps.ite)
    | (with_reducible apply Keeps.foldl)
    | intro _
    | split
    | dsimp only

theorem kp_execLaneTsReceived (k : Nat) (t : TrainSet) (s : State) : KeepsN 536870912 s (execLaneTsReceived k t s) := by
  unfold execLaneTsReceived
  repeat' first
    | (with_reducible exact Keeps.refl)
    | (with_reducible apply Keeps.out)
    | (apply Keeps.next; (with_reducible apply kp_trainingSets); decide)
    | (with_reducible apply Keeps.ite)
    | (with_reducible apply Keeps.foldl)
    | intro _
    | split
    | dsimp only

theorem kp_execLaneConfigDone (k : Nat) (s : State) : KeepsN 538017792 s (execLaneConfigDone k s) := by
  unfold execLaneConfigDone
  repeat' first
    | (with_reducible exact Keeps.refl)
    | (with_reducible apply Keeps.out)
    | (apply Keeps.next; (with_reducible apply kp_laneConfigured); decide)
    | (with_reducible apply Keeps.ite)
    | (with_reducible apply Keeps.foldl)
    | intro _
    | split
    | dsimp only

theorem kp_execLinkTrainTimeout (l : Nat) (s : State) : KeepsN 1146880 s (execLinkTrainTimeout l s) := by
  unfold execLinkTrainTimeout
  repeat' first
    | (with_reducible exact Keeps.refl)
    | (with_reducible apply Keeps.out)
    | (apply Keeps.next; (with_reducible apply kp_trainTimeout); decide)
    | (with_reducible apply Keeps.ite)
    | (with_reducible apply Keeps.foldl)
    | intro _
    | split
    | dsimp only

theorem kp_execLaneLatencyMeasured (k : Nat) (td : Nat) (s : State) : KeepsN 536870912 s (execLaneLatencyMeasured k td s) := by
  unfold execLaneLatencyMeasured
  repeat' first
    | (with_reducible exact Keeps.refl)
    | (with_reducible apply Keeps.out)
    | (apply Keeps.next; (with_reducible apply kp_latencyMeasured); decide)
    | (with_reducible apply Keeps.ite)
    | (with_reducible apply Keeps.foldl)
    | intro _
    | split
    | dsimp only

theorem kp_execLinkUp (l : Nat) (s : State) : KeepsN 538017792 s (execLinkUp l s) := by
  unfold execLinkUp
  repeat' first
    | (with_reducible exact Keeps.refl)
    | (with_reducible apply Keeps.out)
    | (apply Keeps.next; (with_reducible apply kp_linkComesUp); decide)
    | (with_reducible apply Keeps.ite)
    | (with_reducible apply Keeps.foldl)
    | intro _
    | split
    | dsimp only

theorem kp_execLinkBndReceive (l : Nat) (arrival : Int) (tag : Nat) (mask : Nat) (s : State) : KeepsN 536870912 s (execLinkBndReceive l arrival tag mask s) := by
  unfold execLinkBndReceive
  repeat' first
    | (with_reducible exact Keeps.refl)
    | (with_reducible apply Keeps.out)
    | (apply Keeps.next; (with_reducible apply kp_bndReceive); decide)
    | (with_reducible apply Keeps.ite)
    | (with_reducible apply Keeps.foldl)
    | intro _
    | split
    | dsimp only

theorem kp_execDfeWindowEnd (k : Nat) (s1 : Int) (s2 : Int) (s3 : Int) (transitions : Nat) (ordered : Bool) (s : State) : KeepsN 0 s (execDfeWindowEnd k s1 s2 s3 transitions ordered s) := by
  unfold execDfeWindowEnd
  repeat' first
    | (with_reducible exact Keeps.refl)
    | (with_reducible apply Keeps.out)
    | (apply Keeps.next; (with_reducible apply kp_dfeWindow); decide)
    | (with_reducible apply Keeps.ite)
    | (with_reducible apply Keeps.foldl)
    | intro _
    | split
    | dsimp only

theorem kp_execLaneFomSample (k : Nat) (fom : Nat) (s : State) : KeepsN 538017792 s (execLaneFomSample k fom s) := by
  unfold execLaneFomSample
  repeat' first
    | (with_reducible exact Keeps.refl)
    | (with_reducible apply Keeps.out)
    | (apply Keeps.next; (with_reducible apply kp_fomSample); decide)
    | (with_reducible apply Keeps.ite)
    | (with_reducible apply Keeps.foldl)
    | intro _
    | split
    | dsimp only

theorem kp_execLaneIdleEnter (l : Nat) (tick : Nat) (s : State) : KeepsN 536903680 s (execLaneIdleEnter l tick s) := by
  unfold execLaneIdleEnter
  repeat' first
    | (with_reducible exact Keeps.refl)
    | (with_reducible apply Keeps.out)
    | (apply Keeps.next; (with_reducible apply kp_idleEnter); decide)
    | (apply Keeps.next; (with_reducible apply kp_toTick); decide)
    | (with_reducible apply Keeps.ite)
    | (with_reducible apply Keeps.foldl)
    | intro _
    | split
    | dsimp only

theorem kp_execLaneIdleExit (l : Nat) (s : State) : KeepsN 536870912 s (execLaneIdleExit l s) := by
  unfold execLaneIdleExit
  repeat' first
    | (with_reducible exact Keeps.refl)
    | (with_reducible apply Keeps.out)
    | (apply Keeps.next; (with_reducible apply kp_idleExit); decide)
    | (with_reducible apply Keeps.ite)
    | (with_reducible apply Keeps.foldl)
    | intro _
    | split
    | dsimp only

theorem kp_execLaneLatencyRemeasure (k : Nat) (td : Nat) (s : State) : KeepsN 536870912 s (execLaneLatencyRemeasure k td s) := by
  unfold execLaneLatencyRemeasure
  repeat' first
    | (with_reducible exact Keeps.refl)
    | (with_reducible apply Keeps.out)
    | (apply Keeps.next; (with_reducible apply kp_latencyAgain); decide)
    | (with_reducible apply Keeps.ite)
    | (with_reducible apply Keeps.foldl)
    | intro _
    | split
    | dsimp only

theorem kp_execCometPacketReceive (l : Nat) (ok : Bool) (s : State) : KeepsN 1146880 s (execCometPacketReceive l ok s) := by
  unfold execCometPacketReceive
  repeat' first
    | (with_reducible exact Keeps.refl)
    | (with_reducible apply Keeps.out)
    | (apply Keeps.next; (with_reducible apply kp_packetReceive); decide)
    | (with_reducible apply Keeps.ite)
    | (with_reducible apply Keeps.foldl)
    | intro _
    | split
    | dsimp only

theorem kp_execMarkerReceive (l : Nat) (words : List Nat) (resid : Int) (s : State) : KeepsN 538017792 s (execMarkerReceive l words resid s) := by
  unfold execMarkerReceive
  repeat' first
    | (with_reducible exact Keeps.refl)
    | (with_reducible apply Keeps.out)
    | (apply Keeps.next; (with_reducible apply kp_markerReceive); decide)
    | (with_reducible apply Keeps.ite)
    | (with_reducible apply Keeps.foldl)
    | intro _
    | split
    | dsimp only

theorem kp_execEeBroadcastReceive (l : Nat) (words : List Nat) (s : State) : KeepsN 572096512 s (execEeBroadcastReceive l words s) := by
  unfold execEeBroadcastReceive
  repeat' first
    | (with_reducible exact Keeps.refl)
    | (with_reducible apply Keeps.out)
    | (apply Keeps.next; (with_reducible apply kp_broadcastReceive); decide)
    | (with_reducible apply Keeps.ite)
    | (with_reducible apply Keeps.foldl)
    | intro _
    | split
    | dsimp only

theorem kp_execSampleReceive (l : Nat) (words : List Nat) (s : State) : KeepsN 1146880 s (execSampleReceive l words s) := by
  unfold execSampleReceive
  repeat' first
    | (with_reducible exact Keeps.refl)
    | (with_reducible apply Keeps.out)
    | (apply Keeps.next; (with_reducible apply kp_sampleReceive); decide)
    | (with_reducible apply Keeps.ite)
    | (with_reducible apply Keeps.foldl)
    | intro _
    | split
    | dsimp only

theorem kp_execStatusReceive (l : Nat) (words : List Nat) (s : State) : KeepsN 0 s (execStatusReceive l words s) := by
  unfold execStatusReceive
  repeat' first
    | (with_reducible exact Keeps.refl)
    | (with_reducible apply Keeps.out)
    | (apply Keeps.next; (with_reducible apply kp_statusReceive); decide)
    | (with_reducible apply Keeps.ite)
    | (with_reducible apply Keeps.foldl)
    | intro _
    | split
    | dsimp only

theorem kp_execShareReceive (l : Nat) (words : List Nat) (s : State) : KeepsN 0 s (execShareReceive l words s) := by
  unfold execShareReceive
  repeat' first
    | (with_reducible exact Keeps.refl)
    | (with_reducible apply Keeps.out)
    | (apply Keeps.next; (with_reducible apply kp_shareReceive); decide)
    | (with_reducible apply Keeps.ite)
    | (with_reducible apply Keeps.foldl)
    | intro _
    | split
    | dsimp only

theorem kp_execCometPacketStart (l : Nat) (tick : Nat) (s : State) : KeepsN 538017792 s (execCometPacketStart l tick s) := by
  unfold execCometPacketStart
  repeat' first
    | (with_reducible exact Keeps.refl)
    | (with_reducible apply Keeps.out)
    | (apply Keeps.next; (with_reducible apply kp_packetStart); decide)
    | (apply Keeps.next; (with_reducible apply kp_toTick); decide)
    | (with_reducible apply Keeps.ite)
    | (with_reducible apply Keeps.foldl)
    | intro _
    | split
    | dsimp only

theorem kp_execCometLaneSend (slot : Nat) (s : State) : KeepsN 536903680 s (execCometLaneSend slot s) := by
  unfold execCometLaneSend
  repeat' first
    | (with_reducible exact Keeps.refl)
    | (with_reducible apply Keeps.out)
    | (apply Keeps.next; (with_reducible apply kp_laneSend); decide)
    | (with_reducible apply Keeps.ite)
    | (with_reducible apply Keeps.foldl)
    | intro _
    | split
    | dsimp only

theorem kp_execSafeTxQueue (m : Master) (mask : Nat) (s : State) : KeepsN 256 s (execSafeTxQueue m mask s) := by
  unfold execSafeTxQueue
  repeat' first
    | (with_reducible exact Keeps.refl)
    | (with_reducible apply Keeps.out)
    | (apply Keeps.next; (with_reducible apply kp_safeTxQueue); decide)
    | (with_reducible apply Keeps.ite)
    | (with_reducible apply Keeps.foldl)
    | intro _
    | split
    | dsimp only

theorem kp_execLinkShedEvaluate (l : Nat) (s : State) : KeepsN 1146880 s (execLinkShedEvaluate l s) := by
  unfold execLinkShedEvaluate
  repeat' first
    | (with_reducible exact Keeps.refl)
    | (with_reducible apply Keeps.out)
    | (apply Keeps.next; (with_reducible apply kp_shedEvaluate); decide)
    | (with_reducible apply Keeps.ite)
    | (with_reducible apply Keeps.foldl)
    | intro _
    | split
    | dsimp only

theorem kp_execLaneLoss (k : Nat) (cause : Nat) (tick : Nat) (s : State) : KeepsN 538017792 s (execLaneLoss k cause tick s) := by
  unfold execLaneLoss
  repeat' first
    | (with_reducible exact Keeps.refl)
    | (with_reducible apply Keeps.out)
    | (apply Keeps.next; (with_reducible apply kp_laneLost); decide)
    | (apply Keeps.next; (with_reducible apply kp_toTick); decide)
    | (with_reducible apply Keeps.ite)
    | (with_reducible apply Keeps.foldl)
    | intro _
    | split
    | dsimp only

theorem kp_execLstatReceive (l : Nat) (lost : Nat) (ready : Nat) (tag : Nat) (tick : Nat) (s : State) : KeepsN 536903680 s (execLstatReceive l lost ready tag tick s) := by
  unfold execLstatReceive
  repeat' first
    | (with_reducible exact Keeps.refl)
    | (with_reducible apply Keeps.out)
    | (apply Keeps.next; (with_reducible apply kp_lstat); decide)
    | (apply Keeps.next; (with_reducible apply kp_toTick); decide)
    | (with_reducible apply Keeps.ite)
    | (with_reducible apply Keeps.foldl)
    | intro _
    | split
    | dsimp only

theorem kp_execLaneRemove (k : Nat) (s : State) : KeepsN 538017792 s (execLaneRemove k s) := by
  unfold execLaneRemove
  repeat' first
    | (with_reducible exact Keeps.refl)
    | (with_reducible apply Keeps.out)
    | (apply Keeps.next; (with_reducible apply kp_cmtLaneRemove); decide)
    | (with_reducible apply Keeps.ite)
    | (with_reducible apply Keeps.foldl)
    | intro _
    | split
    | dsimp only

theorem kp_execLaneReadyMark (k : Nat) (tick : Nat) (s : State) : KeepsN 536903680 s (execLaneReadyMark k tick s) := by
  unfold execLaneReadyMark
  repeat' first
    | (with_reducible exact Keeps.refl)
    | (with_reducible apply Keeps.out)
    | (apply Keeps.next; (with_reducible apply kp_readyMark); decide)
    | (apply Keeps.next; (with_reducible apply kp_toTick); decide)
    | (with_reducible apply Keeps.ite)
    | (with_reducible apply Keeps.foldl)
    | intro _
    | split
    | dsimp only

theorem kp_execLaneReinstate (k : Nat) (s : State) : KeepsN 538017792 s (execLaneReinstate k s) := by
  unfold execLaneReinstate
  repeat' first
    | (with_reducible exact Keeps.refl)
    | (with_reducible apply Keeps.out)
    | (apply Keeps.next; (with_reducible apply kp_laneReinstate); decide)
    | (with_reducible apply Keeps.ite)
    | (with_reducible apply Keeps.foldl)
    | intro _
    | split
    | dsimp only

theorem kp_execCometRetrain (m : Master) (mask : Nat) (s : State) : KeepsN 538018048 s (execCometRetrain m mask s) := by
  unfold execCometRetrain
  repeat' first
    | (with_reducible exact Keeps.refl)
    | (with_reducible apply Keeps.out)
    | (apply Keeps.next; (with_reducible apply kp_retrain); decide)
    | (with_reducible apply Keeps.access; decide)
    | (with_reducible apply Keeps.ite)
    | (with_reducible apply Keeps.foldl)
    | intro _
    | split
    | dsimp only

theorem kp_execCometRemeasure (m : Master) (mask : Nat) (s : State) : KeepsN 536871168 s (execCometRemeasure m mask s) := by
  unfold execCometRemeasure
  repeat' first
    | (with_reducible exact Keeps.refl)
    | (with_reducible apply Keeps.out)
    | (apply Keeps.next; (with_reducible apply kp_remeasure); decide)
    | (with_reducible apply Keeps.access; decide)
    | (with_reducible apply Keeps.ite)
    | (with_reducible apply Keeps.foldl)
    | intro _
    | split
    | dsimp only

theorem kp_execCometClrStats (m : Master) (s : State) : KeepsN 256 s (execCometClrStats m s) := by
  unfold execCometClrStats
  repeat' first
    | (with_reducible exact Keeps.refl)
    | (with_reducible apply Keeps.out)
    | (apply Keeps.next; (with_reducible apply kp_clrStats); decide)
    | (with_reducible apply Keeps.access; decide)
    | (with_reducible apply Keeps.ite)
    | (with_reducible apply Keeps.foldl)
    | intro _
    | split
    | dsimp only

theorem kp_execLaneTestEnter (m : Master) (k : Nat) (loop : Nat) (pat : Nat) (chk : Bool) (s : State) : KeepsN 256 s (execLaneTestEnter m k loop pat chk s) := by
  unfold execLaneTestEnter
  repeat' first
    | (with_reducible exact Keeps.refl)
    | (with_reducible apply Keeps.out)
    | (apply Keeps.next; (with_reducible apply kp_laneTestWrite); decide)
    | (with_reducible apply Keeps.access; decide)
    | (with_reducible apply Keeps.ite)
    | (with_reducible apply Keeps.foldl)
    | intro _
    | split
    | dsimp only

theorem kp_execLaneTestExit (m : Master) (k : Nat) (s : State) : KeepsN 256 s (execLaneTestExit m k s) := by
  unfold execLaneTestExit
  repeat' first
    | (with_reducible exact Keeps.refl)
    | (with_reducible apply Keeps.out)
    | (apply Keeps.next; (with_reducible apply kp_laneTestWrite); decide)
    | (with_reducible apply Keeps.access; decide)
    | (with_reducible apply Keeps.ite)
    | (with_reducible apply Keeps.foldl)
    | intro _
    | split
    | dsimp only

theorem kp_execLanePatternError (k : Nat) (n : Nat) (s : State) : KeepsN 1146880 s (execLanePatternError k n s) := by
  unfold execLanePatternError
  repeat' first
    | (with_reducible exact Keeps.refl)
    | (with_reducible apply Keeps.out)
    | (apply Keeps.next; (with_reducible apply kp_patternErrors); decide)
    | (with_reducible apply Keeps.ite)
    | (with_reducible apply Keeps.foldl)
    | intro _
    | split
    | dsimp only

theorem kp_execLaneProbeReceive (k : Nat) (seq : Nat) (turnaround : Nat) (s : State) : KeepsN 536870912 s (execLaneProbeReceive k seq turnaround s) := by
  unfold execLaneProbeReceive
  repeat' first
    | (with_reducible exact Keeps.refl)
    | (with_reducible apply Keeps.out)
    | (apply Keeps.next; (with_reducible apply kp_probeReceive); decide)
    | (with_reducible apply Keeps.ite)
    | (with_reducible apply Keeps.foldl)
    | intro _
    | split
    | dsimp only

end Sys2Proof.Machine
end

