-- ==== Sys2Proof/Laws/KeepsDrive.lean ====
section
/-! SUPPORT. Laws/KeepsDrive.lean: what each operation of Machine/Drive.lean keeps. -/

set_option Elab.async false

set_option linter.unusedTactic false
set_option linter.unusedSimpArgs false
set_option linter.unreachableTactic false

namespace Sys2Proof.Machine

theorem kp_enableCut (s : State) (n : Nat) : Keeps 1146880 s (State.enableCut s n) := by
  unfold State.enableCut
  repeat' first
    | (with_reducible exact Keeps.refl)
    | (with_reducible apply Keeps.wr)
    | (apply Keeps.next; (with_reducible apply kp_raise); decide)
    | (apply Keeps.next; (with_reducible apply kp_setB); decide)
    | (with_reducible apply Keeps.ite)
    | (with_reducible apply Keeps.foldl)
    | intro _
    | split
    | dsimp only

theorem kp_setLeg (s : State) (n : Nat) (v : DrvLeg) : Keeps 2097152 s (State.setLeg s n v) := by
  unfold State.setLeg
  repeat' first
    | (with_reducible exact Keeps.refl)
    | (with_reducible apply Keeps.atBuilt; refine Keeps.upd ?_)
    | (simp only [Keeps.built])
    | (with_reducible apply Keeps.ite)
    | (with_reducible apply Keeps.foldl)
    | intro _
    | split
    | dsimp only

theorem kp_enableReturn (s : State) (n : Nat) : Keeps 3244032 s (State.enableReturn s n) := by
  unfold State.enableReturn
  repeat' first
    | (with_reducible exact Keeps.refl)
    | (with_reducible apply Keeps.wr)
    | (apply Keeps.next; (with_reducible apply kp_raise); decide)
    | (apply Keeps.next; (with_reducible apply kp_clrB); decide)
    | (apply Keeps.next; (with_reducible apply kp_setLeg); decide)
    | (with_reducible apply Keeps.ite)
    | (with_reducible apply Keeps.foldl)
    | intro _
    | split
    | dsimp only

theorem kp_enableLine (s : State) : Keeps 3244032 s (State.enableLine s) := by
  unfold State.enableLine
  repeat' first
    | (with_reducible exact Keeps.refl)
    | (apply Keeps.next; (with_reducible apply kp_enableCut); decide)
    | (apply Keeps.next; (with_reducible apply kp_enableReturn); decide)
    | (with_reducible apply Keeps.forEach)
    | (with_reducible apply Keeps.ite)
    | (with_reducible apply Keeps.foldl)
    | intro _
    | split
    | dsimp only

theorem kp_drvCfgErr (s : State) : Keeps 0 s (State.drvCfgErr s) := by
  unfold State.drvCfgErr
  repeat' first
    | (with_reducible exact Keeps.refl)
    | (with_reducible apply Keeps.wr)
    | (with_reducible apply Keeps.ite)
    | (with_reducible apply Keeps.foldl)
    | intro _
    | split
    | dsimp only

theorem kp_setLegState (s : State) (n : Nat) (st : Nat) : Keeps 0 s (State.setLegState s n st) := by
  unfold State.setLegState
  repeat' first
    | (with_reducible exact Keeps.refl)
    | (with_reducible apply Keeps.wr)
    | (apply Keeps.next; (with_reducible apply kp_putB); decide)
    | (with_reducible apply Keeps.ite)
    | (with_reducible apply Keeps.foldl)
    | intro _
    | split
    | dsimp only

theorem kp_legUse (s : State) (n : Nat) : Keeps 0 s (State.legUse s n) := by
  unfold State.legUse
  repeat' first
    | (with_reducible exact Keeps.refl)
    | (apply Keeps.next; (with_reducible apply kp_drvCfgErr); decide)
    | (apply Keeps.next; (with_reducible apply kp_setB); decide)
    | (apply Keeps.next; (with_reducible apply kp_setLegState); decide)
    | (with_reducible apply Keeps.ite)
    | (with_reducible apply Keeps.foldl)
    | intro _
    | split
    | dsimp only

theorem kp_testResults (s : State) (n : Nat) (tested : Nat) (pass : Nat) : Keeps 0 s (State.testResults s n tested pass) := by
  unfold State.testResults
  repeat' first
    | (with_reducible exact Keeps.refl)
    | (with_reducible apply Keeps.wr)
    | (apply Keeps.next; (with_reducible apply kp_putB); decide)
    | (with_reducible apply Keeps.forEach)
    | (with_reducible apply Keeps.ite)
    | (with_reducible apply Keeps.foldl)
    | intro _
    | split
    | dsimp only

theorem kp_testEnd (s : State) (n : Nat) (tested : Nat) (pass : Nat) : Keeps 1146880 s (State.testEnd s n tested pass) := by
  unfold State.testEnd
  repeat' first
    | (with_reducible exact Keeps.refl)
    | (with_reducible apply Keeps.wr)
    | (apply Keeps.next; (with_reducible apply kp_testResults); decide)
    | (apply Keeps.next; (with_reducible apply kp_raise); decide)
    | (apply Keeps.next; (with_reducible apply kp_setLegState); decide)
    | (with_reducible apply Keeps.ite)
    | (with_reducible apply Keeps.foldl)
    | intro _
    | split
    | dsimp only

theorem kp_testAbort (s : State) (n : Nat) (tested : Nat) (pass : Nat) : Keeps 1146880 s (State.testAbort s n tested pass) := by
  unfold State.testAbort
  repeat' first
    | (with_reducible exact Keeps.refl)
    | (with_reducible apply Keeps.wr)
    | (apply Keeps.next; (with_reducible apply kp_testEnd); decide)
    | (with_reducible apply Keeps.ite)
    | (with_reducible apply Keeps.foldl)
    | intro _
    | split
    | dsimp only

theorem kp_setLinkOk (s : State) (n : Nat) (b : Bool) : Keeps 0 s (State.setLinkOk s n b) := by
  unfold State.setLinkOk
  repeat' first
    | (with_reducible exact Keeps.refl)
    | (with_reducible apply Keeps.wr)
    | (apply Keeps.next; (with_reducible apply kp_putB); decide)
    | (with_reducible apply Keeps.ite)
    | (with_reducible apply Keeps.foldl)
    | intro _
    | split
    | dsimp only

theorem kp_legUnuse (s : State) (n : Nat) (tested : Nat) (pass : Nat) : Keeps 3244032 s (State.legUnuse s n tested pass) := by
  unfold State.legUnuse
  repeat' first
    | (with_reducible exact Keeps.refl)
    | (with_reducible apply Keeps.wr)
    | (apply Keeps.next; (with_reducible apply kp_drvCfgErr); decide)
    | (apply Keeps.next; (with_reducible apply kp_testAbort); decide)
    | (apply Keeps.next; (with_reducible apply kp_clrB); decide)
    | (apply Keeps.next; (with_reducible apply kp_setLinkOk); decide)
    | (apply Keeps.next; (with_reducible apply kp_setLegState); decide)
    | (apply Keeps.next; (with_reducible apply kp_setLeg); decide)
    | (with_reducible apply Keeps.ite)
    | (with_reducible apply Keeps.foldl)
    | intro _
    | split
    | dsimp only

theorem kp_legArm (s : State) (n : Nat) : Keeps 2097152 s (State.legArm s n) := by
  unfold State.legArm
  repeat' first
    | (with_reducible exact Keeps.refl)
    | (with_reducible apply Keeps.wr)
    | (apply Keeps.next; (with_reducible apply kp_setLeg); decide)
    | (apply Keeps.next; (with_reducible apply kp_drvCfgErr); decide)
    | (with_reducible apply Keeps.ite)
    | (with_reducible apply Keeps.foldl)
    | intro _
    | split
    | dsimp only

theorem kp_legDisarm (s : State) (n : Nat) : Keeps 2097152 s (State.legDisarm s n) := by
  unfold State.legDisarm
  repeat' first
    | (with_reducible exact Keeps.refl)
    | (with_reducible apply Keeps.wr)
    | (apply Keeps.next; (with_reducible apply kp_drvCfgErr); decide)
    | (apply Keeps.next; (with_reducible apply kp_setLeg); decide)
    | (apply Keeps.next; (with_reducible apply kp_setLegState); decide)
    | (with_reducible apply Keeps.ite)
    | (with_reducible apply Keeps.foldl)
    | intro _
    | split
    | dsimp only

theorem kp_testBegin (s : State) (n : Nat) (sel : Nat) : Keeps 2097152 s (State.testBegin s n sel) := by
  unfold State.testBegin
  repeat' first
    | (with_reducible exact Keeps.refl)
    | (with_reducible apply Keeps.wr)
    | (apply Keeps.next; (with_reducible apply kp_setLeg); decide)
    | (apply Keeps.next; (with_reducible apply kp_setLegState); decide)
    | (with_reducible apply Keeps.ite)
    | (with_reducible apply Keeps.foldl)
    | intro _
    | split
    | dsimp only

theorem kp_testStart (s : State) (n : Nat) : Keeps 2097152 s (State.testStart s n) := by
  unfold State.testStart
  repeat' first
    | (with_reducible exact Keeps.refl)
    | (with_reducible apply Keeps.wr)
    | (apply Keeps.next; (with_reducible apply kp_testBegin); decide)
    | (with_reducible apply Keeps.ite)
    | (with_reducible apply Keeps.foldl)
    | intro _
    | split
    | dsimp only

theorem kp_legClear (s : State) (n : Nat) : Keeps 0 s (State.legClear s n) := by
  unfold State.legClear
  repeat' first
    | (with_reducible exact Keeps.refl)
    | (with_reducible apply Keeps.wr)
    | (apply Keeps.next; (with_reducible apply kp_setLegState); decide)
    | (with_reducible apply Keeps.ite)
    | (with_reducible apply Keeps.foldl)
    | intro _
    | split
    | dsimp only

theorem kp_legClearBy (s : State) (m : Master) (n : Nat) : Keeps 0 s (State.legClearBy s m n) := by
  unfold State.legClearBy
  repeat' first
    | (with_reducible exact Keeps.refl)
    | (apply Keeps.next; (with_reducible apply kp_drvCfgErr); decide)
    | (apply Keeps.next; (with_reducible apply kp_legClear); decide)
    | (with_reducible apply Keeps.ite)
    | (with_reducible apply Keeps.foldl)
    | intro _
    | split
    | dsimp only

theorem kp_bsHold (s : State) (n : Nat) : Keeps 1146880 s (State.bsHold s n) := by
  unfold State.bsHold
  repeat' first
    | (with_reducible exact Keeps.refl)
    | (with_reducible apply Keeps.wr)
    | (apply Keeps.next; (with_reducible apply kp_raise); decide)
    | (with_reducible apply Keeps.ite)
    | (with_reducible apply Keeps.foldl)
    | intro _
    | split
    | dsimp only

theorem kp_legEngage (s : State) (n : Nat) : Keeps 3244032 s (State.legEngage s n) := by
  unfold State.legEngage
  repeat' first
    | (with_reducible exact Keeps.refl)
    | (apply Keeps.next; (with_reducible apply kp_setLeg); decide)
    | (apply Keeps.next; (with_reducible apply kp_setLegState); decide)
    | (apply Keeps.next; (with_reducible apply kp_bsHold); decide)
    | (with_reducible apply Keeps.when)
    | (with_reducible apply Keeps.ite)
    | (with_reducible apply Keeps.foldl)
    | intro _
    | split
    | dsimp only

theorem kp_bothOff (s : State) (n : Nat) : Keeps 3244032 s (State.bothOff s n) := by
  unfold State.bothOff
  repeat' first
    | (with_reducible exact Keeps.refl)
    | (apply Keeps.next; (with_reducible apply kp_legEngage); decide)
    | (apply Keeps.next; (with_reducible apply kp_raise); decide)
    | (apply Keeps.next; (with_reducible apply kp_setLeg); decide)
    | (with_reducible apply Keeps.ite)
    | (with_reducible apply Keeps.foldl)
    | intro _
    | split
    | dsimp only

theorem kp_causeBit (s : State) (n : Nat) (c : Nat) : Keeps 0 s (State.causeBit s n c) := by
  unfold State.causeBit
  repeat' first
    | (with_reducible exact Keeps.refl)
    | (apply Keeps.next; (with_reducible apply kp_setB); decide)
    | (with_reducible apply Keeps.ite)
    | (with_reducible apply Keeps.foldl)
    | intro _
    | split
    | dsimp only

theorem kp_waitOrLatch (s : State) (n : Nat) : Keeps 3244032 s (State.waitOrLatch s n) := by
  unfold State.waitOrLatch
  repeat' first
    | (with_reducible exact Keeps.refl)
    | (apply Keeps.next; (with_reducible apply kp_setLegState); decide)
    | (apply Keeps.next; (with_reducible apply kp_setLeg); decide)
    | (apply Keeps.next; (with_reducible apply kp_raise); decide)
    | (with_reducible apply Keeps.ite)
    | (with_reducible apply Keeps.foldl)
    | intro _
    | split
    | dsimp only

theorem kp_oneTry (s : State) (n : Nat) : Keeps 0 s (State.oneTry s n) := by
  unfold State.oneTry
  repeat' first
    | (with_reducible exact Keeps.refl)
    | (apply Keeps.next; (with_reducible apply kp_incSat); decide)
    | (with_reducible apply Keeps.ite)
    | (with_reducible apply Keeps.foldl)
    | intro _
    | split
    | dsimp only

theorem kp_faultFromArmed (s : State) (n : Nat) (c : Nat) : Keeps 3244032 s (State.faultFromArmed s n c) := by
  unfold State.faultFromArmed
  repeat' first
    | (with_reducible exact Keeps.refl)
    | (with_reducible apply Keeps.wr)
    | (apply Keeps.next; (with_reducible apply kp_oneTry); decide)
    | (apply Keeps.next; (with_reducible apply kp_causeBit); decide)
    | (apply Keeps.next; (with_reducible apply kp_raise); decide)
    | (apply Keeps.next; (with_reducible apply kp_setLeg); decide)
    | (with_reducible apply Keeps.ite)
    | (with_reducible apply Keeps.foldl)
    | intro _
    | split
    | dsimp only

theorem kp_legFault (s : State) (n : Nat) (c : Nat) : Keeps 3244032 s (State.legFault s n c) := by
  unfold State.legFault
  repeat' first
    | (with_reducible exact Keeps.refl)
    | (apply Keeps.next; (with_reducible apply kp_setLeg); decide)
    | (apply Keeps.next; (with_reducible apply kp_waitOrLatch); decide)
    | (apply Keeps.next; (with_reducible apply kp_faultFromArmed); decide)
    | (apply Keeps.next; (with_reducible apply kp_causeBit); decide)
    | (with_reducible apply Keeps.when)
    | (with_reducible apply Keeps.ite)
    | (with_reducible apply Keeps.foldl)
    | intro _
    | split
    | dsimp only

theorem kp_xlockEsc (s : State) (n : Nat) : Keeps 3244032 s (State.xlockEsc s n) := by
  unfold State.xlockEsc
  repeat' first
    | (with_reducible exact Keeps.refl)
    | (apply Keeps.next; (with_reducible apply kp_legFault); decide)
    | (apply Keeps.next; (with_reducible apply kp_setLeg); decide)
    | (with_reducible apply Keeps.ite)
    | (with_reducible apply Keeps.foldl)
    | intro _
    | split
    | dsimp only

theorem kp_dieInterlock (s : State) (n : Nat) : Keeps 3244032 s (State.dieInterlock s n) := by
  unfold State.dieInterlock
  repeat' first
    | (with_reducible exact Keeps.refl)
    | (apply Keeps.next; (with_reducible apply kp_raise); decide)
    | (apply Keeps.next; (with_reducible apply kp_setLeg); decide)
    | (apply Keeps.next; (with_reducible apply kp_incSat); decide)
    | (apply Keeps.next; (with_reducible apply kp_xlockEsc); decide)
    | (with_reducible apply Keeps.ite)
    | (with_reducible apply Keeps.foldl)
    | intro _
    | split
    | dsimp only

theorem kp_driveBoundary (s : State) (newTurn : Bool) : Keeps 2097152 s (State.driveBoundary s newTurn) := by
  unfold State.driveBoundary
  repeat' first
    | (with_reducible exact Keeps.refl)
    | (with_reducible apply Keeps.wr)
    | (apply Keeps.next; (with_reducible apply kp_setLeg); decide)
    | (with_reducible apply Keeps.when)
    | (with_reducible apply Keeps.forEach)
    | (with_reducible apply Keeps.ite)
    | (with_reducible apply Keeps.foldl)
    | intro _
    | split
    | dsimp only

theorem kp_softOffEnd (s : State) (n : Nat) : Keeps 3244032 s (State.softOffEnd s n) := by
  unfold State.softOffEnd
  repeat' first
    | (with_reducible exact Keeps.refl)
    | (apply Keeps.next; (with_reducible apply kp_waitOrLatch); decide)
    | (with_reducible apply Keeps.ite)
    | (with_reducible apply Keeps.foldl)
    | intro _
    | split
    | dsimp only

theorem kp_dsatOc (s : State) (n : Nat) (c : Nat) (gateOn : Bool) : Keeps 3244032 s (State.dsatOc s n c gateOn) := by
  unfold State.dsatOc
  repeat' first
    | (with_reducible exact Keeps.refl)
    | (apply Keeps.next; (with_reducible apply kp_setLeg); decide)
    | (apply Keeps.next; (with_reducible apply kp_setLegState); decide)
    | (apply Keeps.next; (with_reducible apply kp_faultFromArmed); decide)
    | (apply Keeps.next; (with_reducible apply kp_softOffEnd); decide)
    | (apply Keeps.next; (with_reducible apply kp_causeBit); decide)
    | (with_reducible apply Keeps.when)
    | (with_reducible apply Keeps.ite)
    | (with_reducible apply Keeps.foldl)
    | intro _
    | split
    | dsimp only

theorem kp_frameBad (s : State) : Keeps 1146880 s (State.frameBad s) := by
  unfold State.frameBad
  repeat' first
    | (with_reducible exact Keeps.refl)
    | (apply Keeps.next; (with_reducible apply kp_flagRaise); decide)
    | (apply Keeps.next; (with_reducible apply kp_incSat); decide)
    | (with_reducible apply Keeps.ite)
    | (with_reducible apply Keeps.foldl)
    | intro _
    | split
    | dsimp only

theorem kp_frameIn (s : State) (n : Nat) (f : DrvFrame) : Keeps 2097152 s (State.frameIn s n f) := by
  unfold State.frameIn
  repeat' first
    | (with_reducible exact Keeps.refl)
    | (with_reducible apply Keeps.wr)
    | (apply Keeps.next; (with_reducible apply kp_setLeg); decide)
    | (apply Keeps.next; (with_reducible apply kp_setLinkOk); decide)
    | (with_reducible apply Keeps.ite)
    | (with_reducible apply Keeps.foldl)
    | intro _
    | split
    | dsimp only

theorem kp_initDone (s : State) (n : Nat) : Keeps 2097152 s (State.initDone s n) := by
  unfold State.initDone
  repeat' first
    | (with_reducible exact Keeps.refl)
    | (apply Keeps.next; (with_reducible apply kp_testBegin); decide)
    | (apply Keeps.next; (with_reducible apply kp_setLinkOk); decide)
    | (with_reducible apply Keeps.ite)
    | (with_reducible apply Keeps.foldl)
    | intro _
    | split
    | dsimp only

theorem kp_otWarn (s : State) (n : Nat) (high : Bool) (tj : Nat) : Keeps 3244032 s (State.otWarn s n high tj) := by
  unfold State.otWarn
  repeat' first
    | (with_reducible exact Keeps.refl)
    | (with_reducible apply Keeps.wr)
    | (apply Keeps.next; (with_reducible apply kp_setLeg); decide)
    | (apply Keeps.next; (with_reducible apply kp_raise); decide)
    | (with_reducible apply Keeps.ite)
    | (with_reducible apply Keeps.foldl)
    | intro _
    | split
    | dsimp only

theorem kp_pathTimeout (s : State) (n : Nat) (tested : Nat) (pass : Nat) : Keeps 3244032 s (State.pathTimeout s n tested pass) := by
  unfold State.pathTimeout
  repeat' first
    | (with_reducible exact Keeps.refl)
    | (apply Keeps.next; (with_reducible apply kp_legFault); decide)
    | (apply Keeps.next; (with_reducible apply kp_testAbort); decide)
    | (apply Keeps.next; (with_reducible apply kp_setLinkOk); decide)
    | (with_reducible apply Keeps.ite)
    | (with_reducible apply Keeps.foldl)
    | intro _
    | split
    | dsimp only

theorem kp_retryWaitEnd (s : State) (n : Nat) : Keeps 3244032 s (State.retryWaitEnd s n) := by
  unfold State.retryWaitEnd
  repeat' first
    | (with_reducible exact Keeps.refl)
    | (apply Keeps.next; (with_reducible apply kp_waitOrLatch); decide)
    | (apply Keeps.next; (with_reducible apply kp_oneTry); decide)
    | (apply Keeps.next; (with_reducible apply kp_setLeg); decide)
    | (with_reducible apply Keeps.ite)
    | (with_reducible apply Keeps.foldl)
    | intro _
    | split
    | dsimp only

theorem kp_transition (s : State) (n : Nat) (rising : Bool) (e : GateEdge) (other : Bool) (t : Nat) : Keeps 0 s (State.transition s n rising e other t) := by
  unfold State.transition
  repeat' first
    | (with_reducible exact Keeps.refl)
    | (with_reducible apply Keeps.wr)
    | (with_reducible apply Keeps.ite)
    | (with_reducible apply Keeps.foldl)
    | intro _
    | split
    | dsimp only

theorem kp_execDrivePathTimeout (leg : Nat) (tested : Nat) (pass : Nat) (s : State) : KeepsN 3244032 s (execDrivePathTimeout leg tested pass s) := by
  unfold execDrivePathTimeout
  repeat' first
    | (with_reducible exact Keeps.refl)
    | (with_reducible apply Keeps.out)
    | (apply Keeps.next; (with_reducible apply kp_pathTimeout); decide)
    | (with_reducible apply Keeps.ite)
    | (with_reducible apply Keeps.foldl)
    | intro _
    | split
    | dsimp only

theorem kp_execIsoRefreshTimeout (leg : Nat) (high : Bool) (s : State) : KeepsN 2097152 s (execIsoRefreshTimeout leg high s) := by
  unfold execIsoRefreshTimeout
  repeat' first
    | (with_reducible exact Keeps.refl)
    | (with_reducible apply Keeps.out)
    | (apply Keeps.next; (with_reducible apply kp_setLeg); decide)
    | (with_reducible apply Keeps.ite)
    | (with_reducible apply Keeps.foldl)
    | intro _
    | split
    | dsimp only

theorem kp_execPwmInterlock (p : Nat) (s : State) : KeepsN 3244032 s (execPwmInterlock p s) := by
  unfold execPwmInterlock
  repeat' first
    | (with_reducible exact Keeps.refl)
    | (with_reducible apply Keeps.out)
    | (apply Keeps.next; (with_reducible apply kp_interlock); decide)
    | (apply Keeps.next; (with_reducible apply kp_xlockEsc); decide)
    | (with_reducible apply Keeps.ite)
    | (with_reducible apply Keeps.foldl)
    | intro _
    | split
    | dsimp only

theorem kp_execDrvLegUse (m : Master) (leg : Nat) (s : State) : KeepsN 256 s (execDrvLegUse m leg s) := by
  unfold execDrvLegUse
  repeat' first
    | (with_reducible exact Keeps.refl)
    | (with_reducible apply Keeps.out)
    | (apply Keeps.next; (with_reducible apply kp_legUse); decide)
    | (with_reducible apply Keeps.access; decide)
    | (with_reducible apply Keeps.ite)
    | (with_reducible apply Keeps.foldl)
    | intro _
    | split
    | dsimp only

theorem kp_execDrvLegUnuse (m : Master) (leg : Nat) (tested : Nat) (pass : Nat) (s : State) : KeepsN 3244288 s (execDrvLegUnuse m leg tested pass s) := by
  unfold execDrvLegUnuse
  repeat' first
    | (with_reducible exact Keeps.refl)
    | (with_reducible apply Keeps.out)
    | (apply Keeps.next; (with_reducible apply kp_legUnuse); decide)
    | (with_reducible apply Keeps.access; decide)
    | (with_reducible apply Keeps.ite)
    | (with_reducible apply Keeps.foldl)
    | intro _
    | split
    | dsimp only

theorem kp_execDrvInitDone (leg : Nat) (s : State) : KeepsN 2097152 s (execDrvInitDone leg s) := by
  unfold execDrvInitDone
  repeat' first
    | (with_reducible exact Keeps.refl)
    | (with_reducible apply Keeps.out)
    | (apply Keeps.next; (with_reducible apply kp_initDone); decide)
    | (with_reducible apply Keeps.ite)
    | (with_reducible apply Keeps.foldl)
    | intro _
    | split
    | dsimp only

theorem kp_execDrvTestDone (leg : Nat) (pass : Nat) (s : State) : KeepsN 1146880 s (execDrvTestDone leg pass s) := by
  unfold execDrvTestDone
  repeat' first
    | (with_reducible exact Keeps.refl)
    | (with_reducible apply Keeps.out)
    | (apply Keeps.next; (with_reducible apply kp_testEnd); decide)
    | (with_reducible apply Keeps.ite)
    | (with_reducible apply Keeps.foldl)
    | intro _
    | split
    | dsimp only

theorem kp_execDrvTestStart (m : Master) (leg : Nat) (s : State) : KeepsN 2097408 s (execDrvTestStart m leg s) := by
  unfold execDrvTestStart
  repeat' first
    | (with_reducible exact Keeps.refl)
    | (with_reducible apply Keeps.out)
    | (apply Keeps.next; (with_reducible apply kp_testStart); decide)
    | (with_reducible apply Keeps.access; decide)
    | (with_reducible apply Keeps.ite)
    | (with_reducible apply Keeps.foldl)
    | intro _
    | split
    | dsimp only

theorem kp_execDrvArm (m : Master) (leg : Nat) (s : State) : KeepsN 2097408 s (execDrvArm m leg s) := by
  unfold execDrvArm
  repeat' first
    | (with_reducible exact Keeps.refl)
    | (with_reducible apply Keeps.out)
    | (apply Keeps.next; (with_reducible apply kp_legArm); decide)
    | (with_reducible apply Keeps.access; decide)
    | (with_reducible apply Keeps.ite)
    | (with_reducible apply Keeps.foldl)
    | intro _
    | split
    | dsimp only

theorem kp_execDrvArmEngage (leg : Nat) (s : State) : KeepsN 3244032 s (execDrvArmEngage leg s) := by
  unfold execDrvArmEngage
  repeat' first
    | (with_reducible exact Keeps.refl)
    | (with_reducible apply Keeps.out)
    | (apply Keeps.next; (with_reducible apply kp_bothOff); decide)
    | (with_reducible apply Keeps.ite)
    | (with_reducible apply Keeps.foldl)
    | intro _
    | split
    | dsimp only

theorem kp_execDrvDisarm (m : Master) (leg : Nat) (s : State) : KeepsN 2097408 s (execDrvDisarm m leg s) := by
  unfold execDrvDisarm
  repeat' first
    | (with_reducible exact Keeps.refl)
    | (with_reducible apply Keeps.out)
    | (apply Keeps.next; (with_reducible apply kp_legDisarm); decide)
    | (with_reducible apply Keeps.access; decide)
    | (with_reducible apply Keeps.ite)
    | (with_reducible apply Keeps.foldl)
    | intro _
    | split
    | dsimp only

theorem kp_execDrvDsatOc (leg : Nat) (cause : Nat) (gateOn : Bool) (s : State) : KeepsN 3244032 s (execDrvDsatOc leg cause gateOn s) := by
  unfold execDrvDsatOc
  repeat' first
    | (with_reducible exact Keeps.refl)
    | (with_reducible apply Keeps.out)
    | (apply Keeps.next; (with_reducible apply kp_dsatOc); decide)
    | (with_reducible apply Keeps.ite)
    | (with_reducible apply Keeps.foldl)
    | intro _
    | split
    | dsimp only

theorem kp_execDrvLegFault (leg : Nat) (cause : Nat) (s : State) : KeepsN 3244032 s (execDrvLegFault leg cause s) := by
  unfold execDrvLegFault
  repeat' first
    | (with_reducible exact Keeps.refl)
    | (with_reducible apply Keeps.out)
    | (apply Keeps.next; (with_reducible apply kp_legFault); decide)
    | (with_reducible apply Keeps.ite)
    | (with_reducible apply Keeps.foldl)
    | intro _
    | split
    | dsimp only

theorem kp_execDrvSoftoffEnd (leg : Nat) (s : State) : KeepsN 3244032 s (execDrvSoftoffEnd leg s) := by
  unfold execDrvSoftoffEnd
  repeat' first
    | (with_reducible exact Keeps.refl)
    | (with_reducible apply Keeps.out)
    | (apply Keeps.next; (with_reducible apply kp_softOffEnd); decide)
    | (with_reducible apply Keeps.ite)
    | (with_reducible apply Keeps.foldl)
    | intro _
    | split
    | dsimp only

theorem kp_execDrvRetryWaitEnd (leg : Nat) (s : State) : KeepsN 3244032 s (execDrvRetryWaitEnd leg s) := by
  unfold execDrvRetryWaitEnd
  repeat' first
    | (with_reducible exact Keeps.refl)
    | (with_reducible apply Keeps.out)
    | (apply Keeps.next; (with_reducible apply kp_retryWaitEnd); decide)
    | (with_reducible apply Keeps.ite)
    | (with_reducible apply Keeps.foldl)
    | intro _
    | split
    | dsimp only

theorem kp_execDrvTriesReset (leg : Nat) (s : State) : KeepsN 0 s (execDrvTriesReset leg s) := by
  unfold execDrvTriesReset
  repeat' first
    | (with_reducible exact Keeps.refl)
    | (with_reducible apply Keeps.out)
    | (with_reducible apply Keeps.wr)
    | (with_reducible apply Keeps.ite)
    | (with_reducible apply Keeps.foldl)
    | intro _
    | split
    | dsimp only

theorem kp_execDrvCmdClear (m : Master) (leg : Nat) (s : State) : KeepsN 256 s (execDrvCmdClear m leg s) := by
  unfold execDrvCmdClear
  repeat' first
    | (with_reducible exact Keeps.refl)
    | (with_reducible apply Keeps.out)
    | (apply Keeps.next; (with_reducible apply kp_legClearBy); decide)
    | (with_reducible apply Keeps.access; decide)
    | (with_reducible apply Keeps.ite)
    | (with_reducible apply Keeps.foldl)
    | intro _
    | split
    | dsimp only

theorem kp_execDrvEnableCut (leg : Nat) (s : State) : KeepsN 1146880 s (execDrvEnableCut leg s) := by
  unfold execDrvEnableCut
  repeat' first
    | (with_reducible exact Keeps.refl)
    | (with_reducible apply Keeps.out)
    | (apply Keeps.next; (with_reducible apply kp_enableCut); decide)
    | (with_reducible apply Keeps.ite)
    | (with_reducible apply Keeps.foldl)
    | intro _
    | split
    | dsimp only

theorem kp_execDrvEnableReturn (leg : Nat) (s : State) : KeepsN 3244032 s (execDrvEnableReturn leg s) := by
  unfold execDrvEnableReturn
  repeat' first
    | (with_reducible exact Keeps.refl)
    | (with_reducible apply Keeps.out)
    | (apply Keeps.next; (with_reducible apply kp_enableReturn); decide)
    | (with_reducible apply Keeps.ite)
    | (with_reducible apply Keeps.foldl)
    | intro _
    | split
    | dsimp only

theorem kp_execDrvDieInterlock (leg : Nat) (s : State) : KeepsN 3244032 s (execDrvDieInterlock leg s) := by
  unfold execDrvDieInterlock
  repeat' first
    | (with_reducible exact Keeps.refl)
    | (with_reducible apply Keeps.out)
    | (apply Keeps.next; (with_reducible apply kp_dieInterlock); decide)
    | (with_reducible apply Keeps.ite)
    | (with_reducible apply Keeps.foldl)
    | intro _
    | split
    | dsimp only

theorem kp_execDrvBsWarn (leg : Nat) (s : State) : KeepsN 1146880 s (execDrvBsWarn leg s) := by
  unfold execDrvBsWarn
  repeat' first
    | (with_reducible exact Keeps.refl)
    | (with_reducible apply Keeps.out)
    | (with_reducible apply Keeps.wr)
    | (apply Keeps.next; (with_reducible apply kp_raise); decide)
    | (with_reducible apply Keeps.ite)
    | (with_reducible apply Keeps.foldl)
    | intro _
    | split
    | dsimp only

theorem kp_execDrvBsUv (leg : Nat) (s : State) : KeepsN 3244032 s (execDrvBsUv leg s) := by
  unfold execDrvBsUv
  repeat' first
    | (with_reducible exact Keeps.refl)
    | (with_reducible apply Keeps.out)
    | (apply Keeps.next; (with_reducible apply kp_setLeg); decide)
    | (apply Keeps.next; (with_reducible apply kp_bsHold); decide)
    | (with_reducible apply Keeps.ite)
    | (with_reducible apply Keeps.foldl)
    | intro _
    | split
    | dsimp only

theorem kp_execDrvBsOk (leg : Nat) (hold : Bool) (warn : Bool) (s : State) : KeepsN 3244032 s (execDrvBsOk leg hold warn s) := by
  unfold execDrvBsOk
  repeat' first
    | (with_reducible exact Keeps.refl)
    | (with_reducible apply Keeps.out)
    | (with_reducible apply Keeps.wr)
    | (apply Keeps.next; (with_reducible apply kp_setLeg); decide)
    | (apply Keeps.next; (with_reducible apply kp_raise); decide)
    | (with_reducible apply Keeps.when)
    | (with_reducible apply Keeps.ite)
    | (with_reducible apply Keeps.foldl)
    | intro _
    | split
    | dsimp only

theorem kp_execDrvTransitionMeasure (leg : Nat) (rising : Bool) (edge : GateEdge) (other : Bool) (t : Nat) (s : State) : KeepsN 0 s (execDrvTransitionMeasure leg rising edge other t s) := by
  unfold execDrvTransitionMeasure
  repeat' first
    | (with_reducible exact Keeps.refl)
    | (with_reducible apply Keeps.out)
    | (apply Keeps.next; (with_reducible apply kp_transition); decide)
    | (with_reducible apply Keeps.ite)
    | (with_reducible apply Keeps.foldl)
    | intro _
    | split
    | dsimp only

theorem kp_execDrvStatusFrame (leg : Nat) (f : Option DrvFrame) (s : State) : KeepsN 3244032 s (execDrvStatusFrame leg f s) := by
  unfold execDrvStatusFrame
  repeat' first
    | (with_reducible exact Keeps.refl)
    | (with_reducible apply Keeps.out)
    | (apply Keeps.next; (with_reducible apply kp_frameBad); decide)
    | (apply Keeps.next; (with_reducible apply kp_frameIn); decide)
    | (with_reducible apply Keeps.ite)
    | (with_reducible apply Keeps.foldl)
    | intro _
    | split
    | dsimp only

theorem kp_execDrvShortCmd (leg : Nat) (s : State) : KeepsN 0 s (execDrvShortCmd leg s) := by
  unfold execDrvShortCmd
  repeat' first
    | (with_reducible exact Keeps.refl)
    | (with_reducible apply Keeps.out)
    | (with_reducible apply Keeps.wr)
    | (with_reducible apply Keeps.ite)
    | (with_reducible apply Keeps.foldl)
    | intro _
    | split
    | dsimp only

theorem kp_execDrvOtWarn (leg : Nat) (high : Bool) (tj : Nat) (s : State) : KeepsN 3244032 s (execDrvOtWarn leg high tj s) := by
  unfold execDrvOtWarn
  repeat' first
    | (with_reducible exact Keeps.refl)
    | (with_reducible apply Keeps.out)
    | (apply Keeps.next; (with_reducible apply kp_otWarn); decide)
    | (with_reducible apply Keeps.ite)
    | (with_reducible apply Keeps.foldl)
    | intro _
    | split
    | dsimp only

theorem kp_execDrvClrCrc (m : Master) (s : State) : KeepsN 256 s (execDrvClrCrc m s) := by
  unfold execDrvClrCrc
  repeat' first
    | (with_reducible exact Keeps.refl)
    | (with_reducible apply Keeps.out)
    | (with_reducible apply Keeps.wr)
    | (with_reducible apply Keeps.access; decide)
    | (with_reducible apply Keeps.ite)
    | (with_reducible apply Keeps.foldl)
    | intro _
    | split
    | dsimp only

theorem kp_execDrvClrXlock (m : Master) (s : State) : KeepsN 256 s (execDrvClrXlock m s) := by
  unfold execDrvClrXlock
  repeat' first
    | (with_reducible exact Keeps.refl)
    | (with_reducible apply Keeps.out)
    | (with_reducible apply Keeps.wr)
    | (with_reducible apply Keeps.forEach)
    | (with_reducible apply Keeps.access; decide)
    | (with_reducible apply Keeps.ite)
    | (with_reducible apply Keeps.foldl)
    | intro _
    | split
    | dsimp only

end Sys2Proof.Machine
end

