-- ==== Sys2Proof/Laws/KeepsSafetyOps.lean ====
section
/-! SUPPORT. Laws/KeepsSafetyOps.lean: what each operation of Machine/SafetyOps.lean keeps. -/

set_option Elab.async false

set_option linter.unusedTactic false
set_option linter.unusedSimpArgs false
set_option linter.unreachableTactic false

namespace Sys2Proof.Machine

theorem kp_setSafety (s : State) (f : SafetySt → SafetySt) : Keeps 524288 s (State.setSafety s f) := by
  unfold State.setSafety
  repeat' first
    | (with_reducible exact Keeps.refl)
    | (with_reducible apply Keeps.atBuilt; refine Keeps.upd ?_)
    | (simp only [Keeps.built])
    | (with_reducible apply Keeps.ite)
    | (with_reducible apply Keeps.foldl)
    | intro _
    | split
    | dsimp only

theorem kp_safeView (s : State) : Keeps 0 s (State.safeView s) := by
  unfold State.safeView
  repeat' first
    | (with_reducible exact Keeps.refl)
    | (with_reducible apply Keeps.wr)
    | (with_reducible apply Keeps.ite)
    | (with_reducible apply Keeps.foldl)
    | intro _
    | split
    | dsimp only

theorem kp_sf4Drive (s : State) (hsl : Bool) : Keeps 3768320 s (State.sf4Drive s hsl) := by
  unfold State.sf4Drive
  repeat' first
    | (with_reducible exact Keeps.refl)
    | (apply Keeps.next; (with_reducible apply kp_setSafety); decide)
    | (apply Keeps.next; (with_reducible apply kp_enableLine); decide)
    | (apply Keeps.next; (with_reducible apply kp_pwmSafe); decide)
    | (apply Keeps.next; (with_reducible apply kp_safeView); decide)
    | (apply Keeps.next; (with_reducible apply kp_raise); decide)
    | (with_reducible apply Keeps.ite)
    | (with_reducible apply Keeps.foldl)
    | intro _
    | split
    | dsimp only

theorem kp_sf4Apply (s : State) : Keeps 3768320 s (State.sf4Apply s) := by
  unfold State.sf4Apply
  repeat' first
    | (with_reducible exact Keeps.refl)
    | (apply Keeps.next; (with_reducible apply kp_sf4Drive); decide)
    | (with_reducible apply Keeps.ite)
    | (with_reducible apply Keeps.foldl)
    | intro _
    | split
    | dsimp only

theorem kp_relaysOff (s : State) (h : Bool) (l : Bool) : Keeps 524288 s (State.relaysOff s h l) := by
  unfold State.relaysOff
  repeat' first
    | (with_reducible exact Keeps.refl)
    | (apply Keeps.next; (with_reducible apply kp_setSafety); decide)
    | (apply Keeps.next; (with_reducible apply kp_safeView); decide)
    | (with_reducible apply Keeps.ite)
    | (with_reducible apply Keeps.foldl)
    | intro _
    | split
    | dsimp only

theorem kp_setSafeState (s : State) (st : Nat) : Keeps 0 s (State.setSafeState s st) := by
  unfold State.setSafeState
  repeat' first
    | (with_reducible exact Keeps.refl)
    | (with_reducible apply Keeps.wr)
    | (with_reducible apply Keeps.ite)
    | (with_reducible apply Keeps.foldl)
    | intro _
    | split
    | dsimp only

theorem kp_openRelays (s : State) : Keeps 1671168 s (State.openRelays s) := by
  unfold State.openRelays
  repeat' first
    | (with_reducible exact Keeps.refl)
    | (apply Keeps.next; (with_reducible apply kp_relaysOff); decide)
    | (apply Keeps.next; (with_reducible apply kp_raise); decide)
    | (apply Keeps.next; (with_reducible apply kp_setSafeState); decide)
    | (with_reducible apply Keeps.ite)
    | (with_reducible apply Keeps.foldl)
    | intro _
    | split
    | dsimp only

theorem kp_reconnectRestart (s : State) : Keeps 0 s (State.reconnectRestart s) := by
  unfold State.reconnectRestart
  repeat' first
    | (with_reducible exact Keeps.refl)
    | (with_reducible apply Keeps.wr)
    | (with_reducible apply Keeps.ite)
    | (with_reducible apply Keeps.foldl)
    | intro _
    | split
    | dsimp only

theorem kp_syncEnter (s : State) : Keeps 1049088 s (State.syncEnter s) := by
  unfold State.syncEnter
  repeat' first
    | (with_reducible exact Keeps.refl)
    | (with_reducible apply Keeps.atBuilt; refine Keeps.upd ?_)
    | (simp only [Keeps.built])
    | (with_reducible apply Keeps.ite)
    | (with_reducible apply Keeps.foldl)
    | intro _
    | split
    | dsimp only

theorem kp_autoReconnect (s : State) : Keeps 1049088 s (State.autoReconnect s) := by
  unfold State.autoReconnect
  repeat' first
    | (with_reducible exact Keeps.refl)
    | (apply Keeps.next; (with_reducible apply kp_syncEnter); decide)
    | (with_reducible apply Keeps.ite)
    | (with_reducible apply Keeps.foldl)
    | intro _
    | split
    | dsimp only

theorem kp_sf1Update (s : State) : Keeps 3768832 s (State.sf1Update s) := by
  unfold State.sf1Update
  repeat' first
    | (with_reducible exact Keeps.refl)
    | (with_reducible apply Keeps.atBuilt; refine Keeps.upd ?_)
    | (simp only [Keeps.built])
    | (apply Keeps.next; (with_reducible apply kp_openRelays); decide)
    | (apply Keeps.next; (with_reducible apply kp_sf4Apply); decide)
    | (apply Keeps.next; (with_reducible apply kp_reconnectRestart); decide)
    | (apply Keeps.next; (with_reducible apply kp_raise); decide)
    | (apply Keeps.next; (with_reducible apply kp_autoReconnect); decide)
    | (apply Keeps.next; (with_reducible apply kp_safeView); decide)
    | (with_reducible apply Keeps.ite)
    | (with_reducible apply Keeps.foldl)
    | intro _
    | split
    | dsimp only

theorem kp_sf2FaultHold (s : State) : Keeps 1671680 s (State.sf2FaultHold s) := by
  unfold State.sf2FaultHold
  repeat' first
    | (with_reducible exact Keeps.refl)
    | (apply Keeps.next; (with_reducible apply kp_setSafety); decide)
    | (apply Keeps.next; (with_reducible apply kp_faultHold); decide)
    | (with_reducible apply Keeps.ite)
    | (with_reducible apply Keeps.foldl)
    | intro _
    | split
    | dsimp only

theorem kp_operSettle (s : State) : Keeps 1049088 s (State.operSettle s) := by
  unfold State.operSettle
  repeat' first
    | (with_reducible exact Keeps.refl)
    | (with_reducible apply Keeps.atBuilt; refine Keeps.upd ?_)
    | (simp only [Keeps.built])
    | (apply Keeps.next; (with_reducible apply kp_autoReconnect); decide)
    | (with_reducible apply Keeps.ite)
    | (with_reducible apply Keeps.foldl)
    | intro _
    | split
    | dsimp only

theorem kp_safeLatch (s : State) (cause : Nat) (detail : Nat) (sc : Bool) (hsl : Bool) : Keeps 3768832 s (State.safeLatch s cause detail sc hsl) := by
  unfold State.safeLatch
  repeat' first
    | (with_reducible exact Keeps.refl)
    | (with_reducible apply Keeps.wr)
    | (apply Keeps.next; (with_reducible apply kp_setSafety); decide)
    | (apply Keeps.next; (with_reducible apply kp_sf4Drive); decide)
    | (apply Keeps.next; (with_reducible apply kp_relaysOff); decide)
    | (apply Keeps.next; (with_reducible apply kp_raise); decide)
    | (apply Keeps.next; (with_reducible apply kp_setSafeState); decide)
    | (apply Keeps.next; (with_reducible apply kp_faultHold); decide)
    | (with_reducible apply Keeps.when)
    | (with_reducible apply Keeps.ite)
    | (with_reducible apply Keeps.foldl)
    | intro _
    | split
    | dsimp only

theorem kp_sf2Leave (s : State) : Keeps 524800 s (State.sf2Leave s) := by
  unfold State.sf2Leave
  repeat' first
    | (with_reducible exact Keeps.refl)
    | (with_reducible apply Keeps.atBuilt; refine Keeps.upd ?_)
    | (simp only [Keeps.built])
    | (with_reducible apply Keeps.ite)
    | (with_reducible apply Keeps.foldl)
    | intro _
    | split
    | dsimp only

theorem kp_sf4Release (s : State) : Keeps 3768320 s (State.sf4Release s) := by
  unfold State.sf4Release
  repeat' first
    | (with_reducible exact Keeps.refl)
    | (apply Keeps.next; (with_reducible apply kp_setSafety); decide)
    | (apply Keeps.next; (with_reducible apply kp_safeView); decide)
    | (apply Keeps.next; (with_reducible apply kp_raise); decide)
    | (apply Keeps.next; (with_reducible apply kp_enableLine); decide)
    | (apply Keeps.next; (with_reducible apply kp_pwmCauseEnds); decide)
    | (with_reducible apply Keeps.ite)
    | (with_reducible apply Keeps.foldl)
    | intro _
    | split
    | dsimp only

end Sys2Proof.Machine
end

