-- ==== Sys2Proof/Laws/KeepsSense.lean ====
section
/-! SUPPORT. Laws/KeepsSense.lean: what each operation of Machine/Sense.lean keeps. -/

set_option Elab.async false

set_option linter.unusedTactic false
set_option linter.unusedSimpArgs false
set_option linter.unreachableTactic false

namespace Sys2Proof.Machine

theorem kp_setSar (s : State) (c : Nat) (k : SarSt) : Keeps 4194304 s (State.setSar s c k) := by
  unfold State.setSar
  repeat' first
    | (with_reducible exact Keeps.refl)
    | (with_reducible apply Keeps.atBuilt; refine Keeps.upd ?_)
    | (simp only [Keeps.built])
    | (with_reducible apply Keeps.wr)
    | (apply Keeps.next; (with_reducible apply kp_putB); decide)
    | (with_reducible apply Keeps.ite)
    | (with_reducible apply Keeps.foldl)
    | intro _
    | split
    | dsimp only

theorem kp_sarApplyOff (s : State) (c : Nat) : Keeps 4194304 s (State.sarApplyOff s c) := by
  unfold State.sarApplyOff
  repeat' first
    | (with_reducible exact Keeps.refl)
    | (apply Keeps.next; (with_reducible apply kp_setSar); decide)
    | (with_reducible apply Keeps.ite)
    | (with_reducible apply Keeps.foldl)
    | intro _
    | split
    | dsimp only

theorem kp_setSarState (s : State) (c : Nat) (st : Nat) : Keeps 0 s (State.setSarState s c st) := by
  unfold State.setSarState
  repeat' first
    | (with_reducible exact Keeps.refl)
    | (with_reducible apply Keeps.wr)
    | (apply Keeps.next; (with_reducible apply kp_putB); decide)
    | (with_reducible apply Keeps.ite)
    | (with_reducible apply Keeps.foldl)
    | intro _
    | split
    | dsimp only

theorem kp_sarDisable (s : State) (c : Nat) : Keeps 4194304 s (State.sarDisable s c) := by
  unfold State.sarDisable
  repeat' first
    | (with_reducible exact Keeps.refl)
    | (apply Keeps.next; (with_reducible apply kp_clrB); decide)
    | (apply Keeps.next; (with_reducible apply kp_setSar); decide)
    | (apply Keeps.next; (with_reducible apply kp_sarApplyOff); decide)
    | (apply Keeps.next; (with_reducible apply kp_setSarState); decide)
    | (with_reducible apply Keeps.ite)
    | (with_reducible apply Keeps.foldl)
    | intro _
    | split
    | dsimp only

theorem kp_sarPower (s : State) (c : Nat) : Keeps 0 s (State.sarPower s c) := by
  unfold State.sarPower
  repeat' first
    | (with_reducible exact Keeps.refl)
    | (apply Keeps.next; (with_reducible apply kp_setSarState); decide)
    | (with_reducible apply Keeps.ite)
    | (with_reducible apply Keeps.foldl)
    | intro _
    | split
    | dsimp only

theorem kp_scanNext (s : State) (c : Nat) : Keeps 4194304 s (State.scanNext s c) := by
  unfold State.scanNext
  repeat' first
    | (with_reducible exact Keeps.refl)
    | (apply Keeps.next; (with_reducible apply kp_setSar); decide)
    | (with_reducible apply Keeps.ite)
    | (with_reducible apply Keeps.foldl)
    | intro _
    | split
    | dsimp only

theorem kp_sarSoftReset (s : State) (c : Nat) : Keeps 4194304 s (State.sarSoftReset s c) := by
  unfold State.sarSoftReset
  repeat' first
    | (with_reducible exact Keeps.refl)
    | (with_reducible apply Keeps.wr)
    | (apply Keeps.next; (with_reducible apply kp_setSar); decide)
    | (apply Keeps.next; (with_reducible apply kp_setSarState); decide)
    | (apply Keeps.next; (with_reducible apply kp_scanNext); decide)
    | (with_reducible apply Keeps.forEach)
    | (with_reducible apply Keeps.ite)
    | (with_reducible apply Keeps.foldl)
    | intro _
    | split
    | dsimp only

theorem kp_checkBegin (s : State) (c : Nat) : Keeps 4194304 s (State.checkBegin s c) := by
  unfold State.checkBegin
  repeat' first
    | (with_reducible exact Keeps.refl)
    | (with_reducible apply Keeps.wr)
    | (apply Keeps.next; (with_reducible apply kp_setSar); decide)
    | (apply Keeps.next; (with_reducible apply kp_setSarState); decide)
    | (with_reducible apply Keeps.ite)
    | (with_reducible apply Keeps.foldl)
    | intro _
    | split
    | dsimp only

theorem kp_sarCheckCmd (s : State) (c : Nat) : Keeps 4194304 s (State.sarCheckCmd s c) := by
  unfold State.sarCheckCmd
  repeat' first
    | (with_reducible exact Keeps.refl)
    | (apply Keeps.next; (with_reducible apply kp_checkBegin); decide)
    | (apply Keeps.next; (with_reducible apply kp_setSar); decide)
    | (with_reducible apply Keeps.ite)
    | (with_reducible apply Keeps.foldl)
    | intro _
    | split
    | dsimp only

theorem kp_seqNext (s : State) (c : Nat) (q : SarSeq) : Keeps 4194304 s (State.seqNext s c q) := by
  unfold State.seqNext
  repeat' first
    | (with_reducible exact Keeps.refl)
    | (apply Keeps.next; (with_reducible apply kp_setSar); decide)
    | (with_reducible apply Keeps.ite)
    | (with_reducible apply Keeps.foldl)
    | intro _
    | split
    | dsimp only

theorem kp_injDrop (s : State) (c : Nat) : Keeps 1146880 s (State.injDrop s c) := by
  unfold State.injDrop
  repeat' first
    | (with_reducible exact Keeps.refl)
    | (apply Keeps.next; (with_reducible apply kp_raise); decide)
    | (apply Keeps.next; (with_reducible apply kp_setB); decide)
    | (apply Keeps.next; (with_reducible apply kp_incSat); decide)
    | (with_reducible apply Keeps.ite)
    | (with_reducible apply Keeps.foldl)
    | intro _
    | split
    | dsimp only

theorem kp_injTrigger (s : State) (c : Nat) (q : SarSeq) : Keeps 5341184 s (State.injTrigger s c q) := by
  unfold State.injTrigger
  repeat' first
    | (with_reducible exact Keeps.refl)
    | (apply Keeps.next; (with_reducible apply kp_setSar); decide)
    | (apply Keeps.next; (with_reducible apply kp_seqNext); decide)
    | (apply Keeps.next; (with_reducible apply kp_injDrop); decide)
    | (with_reducible apply Keeps.ite)
    | (with_reducible apply Keeps.foldl)
    | intro _
    | split
    | dsimp only

theorem kp_sarFields (s : State) (c : Nat) (r : SarReg) (v : Nat) : Keeps 0 s (State.sarFields s c r v) := by
  unfold State.sarFields
  repeat' first
    | (with_reducible exact Keeps.refl)
    | (with_reducible apply Keeps.wr)
    | (with_reducible apply Keeps.ite)
    | (with_reducible apply Keeps.foldl)
    | intro _
    | split
    | dsimp only

theorem kp_sarConfigWrite (s : State) (c : Nat) (r : SarReg) (v : Nat) (tick : Nat) : Keeps 4202496 s (State.sarConfigWrite s c r v tick) := by
  unfold State.sarConfigWrite
  repeat' first
    | (with_reducible exact Keeps.refl)
    | (with_reducible apply Keeps.wr)
    | (apply Keeps.next; (with_reducible apply kp_sarFields); decide)
    | (apply Keeps.next; (with_reducible apply kp_sarApplyOff); decide)
    | (apply Keeps.next; (with_reducible apply kp_lateCommit); decide)
    | (apply Keeps.next; (with_reducible apply kp_setSar); decide)
    | (with_reducible apply Keeps.when)
    | (with_reducible apply Keeps.ite)
    | (with_reducible apply Keeps.foldl)
    | intro _
    | split
    | dsimp only

theorem kp_cancelArrive (s : State) (c : Nat) (slot : Nat) : Keeps 4194304 s (State.cancelArrive s c slot) := by
  unfold State.cancelArrive
  repeat' first
    | (with_reducible exact Keeps.refl)
    | (apply Keeps.next; (with_reducible apply kp_setSar); decide)
    | (with_reducible apply Keeps.ite)
    | (with_reducible apply Keeps.foldl)
    | intro _
    | split
    | dsimp only

theorem kp_convBegin (s : State) (c : Nat) (v : SarConv) : Keeps 4194304 s (State.convBegin s c v) := by
  unfold State.convBegin
  repeat' first
    | (with_reducible exact Keeps.refl)
    | (apply Keeps.next; (with_reducible apply kp_setSar); decide)
    | (with_reducible apply Keeps.ite)
    | (with_reducible apply Keeps.foldl)
    | intro _
    | split
    | dsimp only

theorem kp_sendResult (s : State) (c : Nat) (p : SarPkt) : Keeps 4194304 s (State.sendResult s c p) := by
  unfold State.sendResult
  repeat' first
    | (with_reducible exact Keeps.refl)
    | (apply Keeps.next; (with_reducible apply kp_setSar); decide)
    | (with_reducible apply Keeps.ite)
    | (with_reducible apply Keeps.foldl)
    | intro _
    | split
    | dsimp only

theorem kp_scanResult (s : State) (c : Nat) (v : SarConv) (code : Int) (ovr : Bool) (mark : Bool) : Keeps 4194304 s (State.scanResult s c v code ovr mark) := by
  unfold State.scanResult
  repeat' first
    | (with_reducible exact Keeps.refl)
    | (apply Keeps.next; (with_reducible apply kp_setSar); decide)
    | (apply Keeps.next; (with_reducible apply kp_sendResult); decide)
    | (with_reducible apply Keeps.ite)
    | (with_reducible apply Keeps.foldl)
    | intro _
    | split
    | dsimp only

theorem kp_injResult (s : State) (c : Nat) (v : SarConv) (code : Int) (ovr : Bool) (mark : Bool) (pos : Nat) (last : Bool) (op : Option Nat) : Keeps 5341184 s (State.injResult s c v code ovr mark pos last op) := by
  unfold State.injResult
  repeat' first
    | (with_reducible exact Keeps.refl)
    | (apply Keeps.next; (with_reducible apply kp_setSar); decide)
    | (apply Keeps.next; (with_reducible apply kp_sendResult); decide)
    | (apply Keeps.next; (with_reducible apply kp_raise); decide)
    | (with_reducible apply Keeps.when)
    | (with_reducible apply Keeps.ite)
    | (with_reducible apply Keeps.foldl)
    | intro _
    | split
    | dsimp only

theorem kp_convNext (s : State) (c : Nat) : Keeps 4194304 s (State.convNext s c) := by
  unfold State.convNext
  repeat' first
    | (with_reducible exact Keeps.refl)
    | (apply Keeps.next; (with_reducible apply kp_setSar); decide)
    | (apply Keeps.next; (with_reducible apply kp_seqNext); decide)
    | (apply Keeps.next; (with_reducible apply kp_checkBegin); decide)
    | (apply Keeps.next; (with_reducible apply kp_scanNext); decide)
    | (with_reducible apply Keeps.ite)
    | (with_reducible apply Keeps.foldl)
    | intro _
    | split
    | dsimp only

theorem kp_convEnd (s : State) (c : Nat) (v : Int) : Keeps 5341184 s (State.convEnd s c v) := by
  unfold State.convEnd
  repeat' first
    | (with_reducible exact Keeps.refl)
    | (apply Keeps.next; (with_reducible apply kp_setSar); decide)
    | (apply Keeps.next; (with_reducible apply kp_scanResult); decide)
    | (apply Keeps.next; (with_reducible apply kp_injResult); decide)
    | (apply Keeps.next; (with_reducible apply kp_convNext); decide)
    | (with_reducible apply Keeps.ite)
    | (with_reducible apply Keeps.foldl)
    | intro _
    | split
    | dsimp only

theorem kp_fifoPop (s : State) (m : Master) (c : Nat) : Keeps 4194560 s (State.fifoPop s m c) := by
  unfold State.fifoPop
  repeat' first
    | (with_reducible exact Keeps.refl)
    | (with_reducible apply Keeps.atBuilt; refine Keeps.upd ?_)
    | (simp only [Keeps.built])
    | (apply Keeps.next; (with_reducible apply kp_setSar); decide)
    | (with_reducible apply Keeps.ite)
    | (with_reducible apply Keeps.foldl)
    | intro _
    | split
    | dsimp only

theorem kp_fifoPush (s : State) (c : Nat) (w : Nat) : Keeps 5341184 s (State.fifoPush s c w) := by
  unfold State.fifoPush
  repeat' first
    | (with_reducible exact Keeps.refl)
    | (apply Keeps.next; (with_reducible apply kp_setB); decide)
    | (apply Keeps.next; (with_reducible apply kp_incSat); decide)
    | (apply Keeps.next; (with_reducible apply kp_setSar); decide)
    | (apply Keeps.next; (with_reducible apply kp_raise); decide)
    | (with_reducible apply Keeps.when)
    | (with_reducible apply Keeps.ite)
    | (with_reducible apply Keeps.foldl)
    | intro _
    | split
    | dsimp only

theorem kp_flightPop (s : State) (c : Nat) : KeepsP 4194304 s (State.flightPop s c) := by
  unfold State.flightPop
  repeat' first
    | (with_reducible exact Keeps.refl)
    | (apply Keeps.next; (with_reducible apply kp_setSar); decide)
    | (with_reducible apply Keeps.ite)
    | (with_reducible apply Keeps.iteP)
    | (with_reducible exact Keeps.reflP)
    | (simp only [Keeps.pair_eq])
    | (with_reducible apply Keeps.snd)
    | (apply Keeps.of_pair; assumption)
    | (with_reducible apply Keeps.foldlP)
    | (with_reducible apply Keeps.foldl)
    | intro _
    | split
    | dsimp only

theorem kp_sarBoundary (s : State) (c : Nat) : Keeps 4194304 s (State.sarBoundary s c) := by
  unfold State.sarBoundary
  repeat' first
    | (with_reducible exact Keeps.refl)
    | (apply Keeps.next; (with_reducible apply kp_setSar); decide)
    | (with_reducible apply Keeps.ite)
    | (with_reducible apply Keeps.foldl)
    | intro _
    | split
    | dsimp only

theorem kp_senseBoundary (s : State) : Keeps 4194304 s (State.senseBoundary s) := by
  unfold State.senseBoundary
  repeat' first
    | (with_reducible exact Keeps.refl)
    | (with_reducible apply Keeps.atBuilt; refine Keeps.upd ?_)
    | (simp only [Keeps.built])
    | (apply Keeps.next; (with_reducible apply kp_sarBoundary); decide)
    | (with_reducible apply Keeps.forEach)
    | (with_reducible apply Keeps.ite)
    | (with_reducible apply Keeps.foldl)
    | intro _
    | split
    | dsimp only

theorem kp_sarFaults (s : State) (c : Nat) : Keeps 5341184 s (State.sarFaults s c) := by
  unfold State.sarFaults
  repeat' first
    | (with_reducible exact Keeps.refl)
    | (apply Keeps.next; (with_reducible apply kp_setSar); decide)
    | (apply Keeps.next; (with_reducible apply kp_raise); decide)
    | (apply Keeps.next; (with_reducible apply kp_setB); decide)
    | (apply Keeps.next; (with_reducible apply kp_setSarState); decide)
    | (with_reducible apply Keeps.ite)
    | (with_reducible apply Keeps.foldl)
    | intro _
    | split
    | dsimp only

theorem kp_slinkDown (s : State) : Keeps 7963136 s (State.slinkDown s) := by
  unfold State.slinkDown
  repeat' first
    | (with_reducible exact Keeps.refl)
    | (with_reducible apply Keeps.wr)
    | (apply Keeps.next; (with_reducible apply kp_pwmSafe); decide)
    | (apply Keeps.next; (with_reducible apply kp_raise); decide)
    | (apply Keeps.next; (with_reducible apply kp_setSafety); decide)
    | (apply Keeps.next; (with_reducible apply kp_sf4Drive); decide)
    | (apply Keeps.next; (with_reducible apply kp_sf1Update); decide)
    | (apply Keeps.next; (with_reducible apply kp_sarFaults); decide)
    | (with_reducible apply Keeps.when)
    | (with_reducible apply Keeps.forEach)
    | (with_reducible apply Keeps.ite)
    | (with_reducible apply Keeps.foldl)
    | intro _
    | split
    | dsimp only

theorem kp_laneRemove (s : State) (lane : Nat) : Keeps 7963136 s (State.laneRemove s lane) := by
  unfold State.laneRemove
  repeat' first
    | (with_reducible exact Keeps.refl)
    | (apply Keeps.next; (with_reducible apply kp_clrB); decide)
    | (apply Keeps.next; (with_reducible apply kp_slinkDown); decide)
    | (with_reducible apply Keeps.ite)
    | (with_reducible apply Keeps.foldl)
    | intro _
    | split
    | dsimp only

theorem kp_opResult (s : State) (c : Nat) (slot : Nat) (tag : Nat) : Keeps 4227072 s (State.opResult s c slot tag) := by
  unfold State.opResult
  repeat' first
    | (with_reducible exact Keeps.refl)
    | (with_reducible apply Keeps.atBuilt; refine Keeps.upd ?_)
    | (simp only [Keeps.built])
    | (apply Keeps.next; (with_reducible apply kp_retire); decide)
    | (with_reducible apply Keeps.ite)
    | (with_reducible apply Keeps.foldl)
    | intro _
    | split
    | dsimp only

theorem kp_opTrigger (s : State) (c : Nat) (slot : Nat) : Keeps 5341184 s (State.opTrigger s c slot) := by
  unfold State.opTrigger
  repeat' first
    | (with_reducible exact Keeps.refl)
    | (with_reducible apply Keeps.atBuilt; refine Keeps.upd ?_)
    | (simp only [Keeps.built])
    | (apply Keeps.next; (with_reducible apply kp_injTrigger); decide)
    | (with_reducible apply Keeps.ite)
    | (with_reducible apply Keeps.foldl)
    | intro _
    | split
    | dsimp only

theorem kp_placeholder (s : State) (c : Nat) : Keeps 5341184 s (State.placeholder s c) := by
  unfold State.placeholder
  repeat' first
    | (with_reducible exact Keeps.refl)
    | (apply Keeps.nextP; (with_reducible apply kp_flightPop); decide)
    | (apply Keeps.next; (with_reducible apply kp_fifoPush); decide)
    | (apply Keeps.next; (with_reducible apply kp_raise); decide)
    | (apply Keeps.next; (with_reducible apply kp_setB); decide)
    | (apply Keeps.next; (with_reducible apply kp_incSat); decide)
    | (apply Keeps.next; (with_reducible apply kp_opResult); decide)
    | (with_reducible apply Keeps.ite)
    | (with_reducible exact Keeps.reflP)
    | (simp only [Keeps.pair_eq])
    | (with_reducible apply Keeps.snd)
    | (apply Keeps.of_pair; assumption)
    | (with_reducible apply Keeps.iteP)
    | (with_reducible apply Keeps.foldlP)
    | (with_reducible apply Keeps.foldl)
    | intro _
    | split
    | dsimp only

theorem kp_resultIn (s : State) (c : Nat) (p : SarPkt) : Keeps 5341184 s (State.resultIn s c p) := by
  unfold State.resultIn
  repeat' first
    | (with_reducible exact Keeps.refl)
    | (with_reducible apply Keeps.wr)
    | (apply Keeps.next; (with_reducible apply kp_setSar); decide)
    | (apply Keeps.next; (with_reducible apply kp_fifoPush); decide)
    | (apply Keeps.next; (with_reducible apply kp_setB); decide)
    | (apply Keeps.next; (with_reducible apply kp_raise); decide)
    | (apply Keeps.next; (with_reducible apply kp_opResult); decide)
    | (with_reducible apply Keeps.when)
    | (with_reducible apply Keeps.ite)
    | (with_reducible apply Keeps.foldl)
    | intro _
    | split
    | dsimp only

theorem kp_sarCheckDone (s : State) (c : Nat) (c8 : Int) (c9 : Int) (c11 : Int) : Keeps 5341184 s (State.sarCheckDone s c c8 c9 c11) := by
  unfold State.sarCheckDone
  repeat' first
    | (with_reducible exact Keeps.refl)
    | (with_reducible apply Keeps.wr)
    | (apply Keeps.next; (with_reducible apply kp_setSar); decide)
    | (apply Keeps.next; (with_reducible apply kp_setSarState); decide)
    | (apply Keeps.next; (with_reducible apply kp_convNext); decide)
    | (apply Keeps.next; (with_reducible apply kp_sarFaults); decide)
    | (with_reducible apply Keeps.ite)
    | (with_reducible apply Keeps.foldl)
    | intro _
    | split
    | dsimp only

theorem kp_sarCommit (s : State) (c : Nat) (n : SarCfg) : Keeps 4194304 s (State.sarCommit s c n) := by
  unfold State.sarCommit
  repeat' first
    | (with_reducible exact Keeps.refl)
    | (apply Keeps.next; (with_reducible apply kp_setSar); decide)
    | (apply Keeps.next; (with_reducible apply kp_scanNext); decide)
    | (with_reducible apply Keeps.ite)
    | (with_reducible apply Keeps.foldl)
    | intro _
    | split
    | dsimp only

theorem kp_sarInitDone (s : State) (c : Nat) (refOk : Bool) : Keeps 5341184 s (State.sarInitDone s c refOk) := by
  unfold State.sarInitDone
  repeat' first
    | (with_reducible exact Keeps.refl)
    | (apply Keeps.next; (with_reducible apply kp_sarFaults); decide)
    | (apply Keeps.next; (with_reducible apply kp_scanNext); decide)
    | (apply Keeps.next; (with_reducible apply kp_setSarState); decide)
    | (apply Keeps.next; (with_reducible apply kp_setSar); decide)
    | (with_reducible apply Keeps.ite)
    | (with_reducible apply Keeps.foldl)
    | intro _
    | split
    | dsimp only

theorem kp_slinkPacket (s : State) (lane : Nat) (crcOk : Bool) : Keeps 7979520 s (State.slinkPacket s lane crcOk) := by
  unfold State.slinkPacket
  repeat' first
    | (with_reducible exact Keeps.refl)
    | (with_reducible apply Keeps.atBuilt; refine Keeps.upd ?_)
    | (simp only [Keeps.built])
    | (apply Keeps.next; (with_reducible apply kp_raise); decide)
    | (apply Keeps.next; (with_reducible apply kp_incSat); decide)
    | (apply Keeps.next; (with_reducible apply kp_laneRemove); decide)
    | (with_reducible apply Keeps.ite)
    | (with_reducible apply Keeps.foldl)
    | intro _
    | split
    | dsimp only

theorem kp_slinkTrained (s : State) (lanes : Nat) : Keeps 540672 s (State.slinkTrained s lanes) := by
  unfold State.slinkTrained
  repeat' first
    | (with_reducible exact Keeps.refl)
    | (with_reducible apply Keeps.atBuilt; refine Keeps.upd ?_)
    | (simp only [Keeps.built])
    | (with_reducible apply Keeps.wr)
    | (apply Keeps.next; (with_reducible apply kp_pwmCauseEnds); decide)
    | (apply Keeps.next; (with_reducible apply kp_sarPower); decide)
    | (with_reducible apply Keeps.forEach)
    | (with_reducible apply Keeps.ite)
    | (with_reducible apply Keeps.foldl)
    | intro _
    | split
    | dsimp only

theorem kp_windowTrigger (s : State) (c : Nat) (w : Nat) : Keeps 5341184 s (State.windowTrigger s c w) := by
  unfold State.windowTrigger
  repeat' first
    | (with_reducible exact Keeps.refl)
    | (apply Keeps.next; (with_reducible apply kp_injTrigger); decide)
    | (with_reducible apply Keeps.ite)
    | (with_reducible apply Keeps.foldl)
    | intro _
    | split
    | dsimp only

theorem kp_execSlinkPacketReceive (lane : Nat) (crcOk : Bool) (s : State) : KeepsN 7979520 s (execSlinkPacketReceive lane crcOk s) := by
  unfold execSlinkPacketReceive
  repeat' first
    | (with_reducible exact Keeps.refl)
    | (with_reducible apply Keeps.out)
    | (apply Keeps.next; (with_reducible apply kp_slinkPacket); decide)
    | (with_reducible apply Keeps.ite)
    | (with_reducible apply Keeps.foldl)
    | intro _
    | split
    | dsimp only

theorem kp_execSlinkLaneRemove (lane : Nat) (s : State) : KeepsN 7963136 s (execSlinkLaneRemove lane s) := by
  unfold execSlinkLaneRemove
  repeat' first
    | (with_reducible exact Keeps.refl)
    | (with_reducible apply Keeps.out)
    | (apply Keeps.next; (with_reducible apply kp_laneRemove); decide)
    | (with_reducible apply Keeps.ite)
    | (with_reducible apply Keeps.foldl)
    | intro _
    | split
    | dsimp only

theorem kp_execSlinkTrainDone (lanes : Nat) (s : State) : KeepsN 540672 s (execSlinkTrainDone lanes s) := by
  unfold execSlinkTrainDone
  repeat' first
    | (with_reducible exact Keeps.refl)
    | (with_reducible apply Keeps.out)
    | (apply Keeps.next; (with_reducible apply kp_slinkTrained); decide)
    | (with_reducible apply Keeps.ite)
    | (with_reducible apply Keeps.foldl)
    | intro _
    | split
    | dsimp only

theorem kp_execSarConversionEnd (c : Nat) (v : Int) (s : State) : KeepsN 5341184 s (execSarConversionEnd c v s) := by
  unfold execSarConversionEnd
  repeat' first
    | (with_reducible exact Keeps.refl)
    | (with_reducible apply Keeps.out)
    | (apply Keeps.next; (with_reducible apply kp_convEnd); decide)
    | (with_reducible apply Keeps.ite)
    | (with_reducible apply Keeps.foldl)
    | intro _
    | split
    | dsimp only

theorem kp_execSarInjTrigger (c : Nat) (src : InjSource) (s : State) : KeepsN 5341184 s (execSarInjTrigger c src s) := by
  unfold execSarInjTrigger
  repeat' first
    | (with_reducible exact Keeps.refl)
    | (with_reducible apply Keeps.out)
    | (apply Keeps.next; (with_reducible apply kp_opTrigger); decide)
    | (apply Keeps.next; (with_reducible apply kp_windowTrigger); decide)
    | (with_reducible apply Keeps.ite)
    | (with_reducible apply Keeps.foldl)
    | intro _
    | split
    | dsimp only

theorem kp_execSwtrig (m : Master) (mask : Nat) (s : State) : KeepsN 5341440 s (execSwtrig m mask s) := by
  unfold execSwtrig
  repeat' first
    | (with_reducible exact Keeps.refl)
    | (with_reducible apply Keeps.out)
    | (apply Keeps.next; (with_reducible apply kp_injTrigger); decide)
    | (with_reducible apply Keeps.forEach)
    | (with_reducible apply Keeps.access; decide)
    | (with_reducible apply Keeps.ite)
    | (with_reducible apply Keeps.foldl)
    | intro _
    | split
    | dsimp only

theorem kp_execSarFifoPop (m : Master) (c : Nat) (s : State) : KeepsN 4194560 s (execSarFifoPop m c s) := by
  unfold execSarFifoPop
  repeat' first
    | (with_reducible exact Keeps.refl)
    | (with_reducible apply Keeps.out)
    | (apply Keeps.next; (with_reducible apply kp_fifoPop); decide)
    | (with_reducible apply Keeps.ite)
    | (with_reducible apply Keeps.foldl)
    | intro _
    | split
    | dsimp only

theorem kp_execSarCancelArrive (c : Nat) (slot : Nat) (s : State) : KeepsN 4194304 s (execSarCancelArrive c slot s) := by
  unfold execSarCancelArrive
  repeat' first
    | (with_reducible exact Keeps.refl)
    | (with_reducible apply Keeps.out)
    | (apply Keeps.next; (with_reducible apply kp_cancelArrive); decide)
    | (with_reducible apply Keeps.ite)
    | (with_reducible apply Keeps.foldl)
    | intro _
    | split
    | dsimp only

theorem kp_execSarEnable (m : Master) (c : Nat) (s : State) : KeepsN 256 s (execSarEnable m c s) := by
  unfold execSarEnable
  repeat' first
    | (with_reducible exact Keeps.refl)
    | (with_reducible apply Keeps.out)
    | (apply Keeps.next; (with_reducible apply kp_sarPower); decide)
    | (apply Keeps.next; (with_reducible apply kp_setB); decide)
    | (with_reducible apply Keeps.access; decide)
    | (with_reducible apply Keeps.ite)
    | (with_reducible apply Keeps.foldl)
    | intro _
    | split
    | dsimp only

theorem kp_execSarDisable (m : Master) (c : Nat) (s : State) : KeepsN 4194560 s (execSarDisable m c s) := by
  unfold execSarDisable
  repeat' first
    | (with_reducible exact Keeps.refl)
    | (with_reducible apply Keeps.out)
    | (apply Keeps.next; (with_reducible apply kp_sarDisable); decide)
    | (with_reducible apply Keeps.access; decide)
    | (with_reducible apply Keeps.ite)
    | (with_reducible apply Keeps.foldl)
    | intro _
    | split
    | dsimp only

theorem kp_execSarInitDone (c : Nat) (refOk : Bool) (s : State) : KeepsN 5341184 s (execSarInitDone c refOk s) := by
  unfold execSarInitDone
  repeat' first
    | (with_reducible exact Keeps.refl)
    | (with_reducible apply Keeps.out)
    | (apply Keeps.next; (with_reducible apply kp_sarInitDone); decide)
    | (with_reducible apply Keeps.ite)
    | (with_reducible apply Keeps.foldl)
    | intro _
    | split
    | dsimp only

theorem kp_execSarCheckCmd (m : Master) (mask : Nat) (s : State) : KeepsN 4194560 s (execSarCheckCmd m mask s) := by
  unfold execSarCheckCmd
  repeat' first
    | (with_reducible exact Keeps.refl)
    | (with_reducible apply Keeps.out)
    | (apply Keeps.next; (with_reducible apply kp_sarCheckCmd); decide)
    | (with_reducible apply Keeps.forEach)
    | (with_reducible apply Keeps.access; decide)
    | (with_reducible apply Keeps.ite)
    | (with_reducible apply Keeps.foldl)
    | intro _
    | split
    | dsimp only

theorem kp_execSarCheckDone (c : Nat) (c8 : Int) (c9 : Int) (c11 : Int) (s : State) : KeepsN 5341184 s (execSarCheckDone c c8 c9 c11 s) := by
  unfold execSarCheckDone
  repeat' first
    | (with_reducible exact Keeps.refl)
    | (with_reducible apply Keeps.out)
    | (apply Keeps.next; (with_reducible apply kp_sarCheckDone); decide)
    | (with_reducible apply Keeps.ite)
    | (with_reducible apply Keeps.foldl)
    | intro _
    | split
    | dsimp only

theorem kp_execSarRefFault (c : Nat) (s : State) : KeepsN 5341184 s (execSarRefFault c s) := by
  unfold execSarRefFault
  repeat' first
    | (with_reducible exact Keeps.refl)
    | (with_reducible apply Keeps.out)
    | (apply Keeps.next; (with_reducible apply kp_sarFaults); decide)
    | (with_reducible apply Keeps.ite)
    | (with_reducible apply Keeps.foldl)
    | intro _
    | split
    | dsimp only

theorem kp_execSarSoftReset (m : Master) (mask : Nat) (s : State) : KeepsN 4194560 s (execSarSoftReset m mask s) := by
  unfold execSarSoftReset
  repeat' first
    | (with_reducible exact Keeps.refl)
    | (with_reducible apply Keeps.out)
    | (apply Keeps.next; (with_reducible apply kp_sarSoftReset); decide)
    | (with_reducible apply Keeps.forEach)
    | (with_reducible apply Keeps.access; decide)
    | (with_reducible apply Keeps.ite)
    | (with_reducible apply Keeps.foldl)
    | intro _
    | split
    | dsimp only

theorem kp_execSarPacketGap (c : Nat) (n : Nat) (s : State) : KeepsN 5341184 s (execSarPacketGap c n s) := by
  unfold execSarPacketGap
  repeat' first
    | (with_reducible exact Keeps.refl)
    | (with_reducible apply Keeps.out)
    | (apply Keeps.next; (with_reducible apply kp_placeholder); decide)
    | (apply Keeps.next; (with_reducible apply kp_sarFaults); decide)
    | (with_reducible apply Keeps.forEach)
    | (with_reducible apply Keeps.ite)
    | (with_reducible apply Keeps.foldl)
    | intro _
    | split
    | dsimp only

theorem kp_execSarConfigWrite (m : Master) (c : Nat) (r : SarReg) (value : Nat) (tick : Nat) (s : State) : KeepsN 4235520 s (execSarConfigWrite m c r value tick s) := by
  unfold execSarConfigWrite
  repeat' first
    | (with_reducible exact Keeps.refl)
    | (with_reducible apply Keeps.out)
    | (apply Keeps.next; (with_reducible apply kp_toTick); decide)
    | (apply Keeps.next; (with_reducible apply kp_sarConfigWrite); decide)
    | (with_reducible apply Keeps.access; decide)
    | (with_reducible apply Keeps.ite)
    | (with_reducible apply Keeps.foldl)
    | intro _
    | split
    | dsimp only

theorem kp_execSarConfigCommit (c : Nat) (s : State) : KeepsN 4194304 s (execSarConfigCommit c s) := by
  unfold execSarConfigCommit
  repeat' first
    | (with_reducible exact Keeps.refl)
    | (with_reducible apply Keeps.out)
    | (apply Keeps.next; (with_reducible apply kp_sarCommit); decide)
    | (with_reducible apply Keeps.ite)
    | (with_reducible apply Keeps.foldl)
    | intro _
    | split
    | dsimp only

theorem kp_execSnsClrCrc (m : Master) (s : State) : KeepsN 256 s (execSnsClrCrc m s) := by
  unfold execSnsClrCrc
  repeat' first
    | (with_reducible exact Keeps.refl)
    | (with_reducible apply Keeps.out)
    | (with_reducible apply Keeps.wr)
    | (with_reducible apply Keeps.access; decide)
    | (with_reducible apply Keeps.ite)
    | (with_reducible apply Keeps.foldl)
    | intro _
    | split
    | dsimp only

theorem kp_execSnsClrSar (m : Master) (s : State) : KeepsN 256 s (execSnsClrSar m s) := by
  unfold execSnsClrSar
  repeat' first
    | (with_reducible exact Keeps.refl)
    | (with_reducible apply Keeps.out)
    | (with_reducible apply Keeps.wr)
    | (with_reducible apply Keeps.forEach)
    | (with_reducible apply Keeps.access; decide)
    | (with_reducible apply Keeps.ite)
    | (with_reducible apply Keeps.foldl)
    | intro _
    | split
    | dsimp only

end Sys2Proof.Machine
end

