-- ==== Sys2Proof/Laws/KeepsComparator.lean ====
section
/-! SUPPORT. Laws/KeepsComparator.lean: what each operation of Machine/Comparator.lean keeps. -/

set_option Elab.async false

set_option linter.unusedTactic false
set_option linter.unusedSimpArgs false
set_option linter.unreachableTactic false

namespace Sys2Proof.Machine

theorem kp_setBank (s : State) (b : Nat) (k : CmpBank) : Keeps 8388608 s (State.setBank s b k) := by
  unfold State.setBank
  repeat' first
    | (with_reducible exact Keeps.refl)
    | (with_reducible apply Keeps.atBuilt; refine Keeps.upd ?_)
    | (simp only [Keeps.built])
    | (with_reducible apply Keeps.wr)
    | (with_reducible apply Keeps.ite)
    | (with_reducible apply Keeps.foldl)
    | intro _
    | split
    | dsimp only

theorem kp_setWin (s : State) (w : Nat) (k : CmpWin) : Keeps 8388608 s (State.setWin s w k) := by
  unfold State.setWin
  repeat' first
    | (with_reducible exact Keeps.refl)
    | (with_reducible apply Keeps.atBuilt; refine Keeps.upd ?_)
    | (simp only [Keeps.built])
    | (with_reducible apply Keeps.wr)
    | (with_reducible apply Keeps.ite)
    | (with_reducible apply Keeps.foldl)
    | intro _
    | split
    | dsimp only

theorem kp_setWinState (s : State) (w : Nat) (st : Nat) : Keeps 0 s (State.setWinState s w st) := by
  unfold State.setWinState
  repeat' first
    | (with_reducible exact Keeps.refl)
    | (with_reducible apply Keeps.wr)
    | (with_reducible apply Keeps.ite)
    | (with_reducible apply Keeps.foldl)
    | intro _
    | split
    | dsimp only

theorem kp_winShow (s : State) (w : Nat) : Keeps 1146880 s (State.winShow s w) := by
  unfold State.winShow
  repeat' first
    | (with_reducible exact Keeps.refl)
    | (apply Keeps.next; (with_reducible apply kp_putB); decide)
    | (apply Keeps.next; (with_reducible apply kp_raise); decide)
    | (apply Keeps.next; (with_reducible apply kp_incSat); decide)
    | (apply Keeps.next; (with_reducible apply kp_setB); decide)
    | (with_reducible apply Keeps.when)
    | (with_reducible apply Keeps.ite)
    | (with_reducible apply Keeps.foldl)
    | intro _
    | split
    | dsimp only

theorem kp_winLines (s : State) (w : Nat) (blanked : Nat) : Keeps 1277952 s (State.winLines s w blanked) := by
  unfold State.winLines
  repeat' first
    | (with_reducible exact Keeps.refl)
    | (apply Keeps.next; (with_reducible apply kp_lineSource); decide)
    | (with_reducible apply Keeps.forEach)
    | (with_reducible apply Keeps.ite)
    | (with_reducible apply Keeps.foldl)
    | intro _
    | split
    | dsimp only

theorem kp_winSet (s : State) (w : Nat) (out : Bool) (blanked : Nat) : Keeps 9666560 s (State.winSet s w out blanked) := by
  unfold State.winSet
  repeat' first
    | (with_reducible exact Keeps.refl)
    | (apply Keeps.next; (with_reducible apply kp_winShow); decide)
    | (apply Keeps.next; (with_reducible apply kp_winLines); decide)
    | (apply Keeps.next; (with_reducible apply kp_setWin); decide)
    | (with_reducible apply Keeps.ite)
    | (with_reducible apply Keeps.foldl)
    | intro _
    | split
    | dsimp only

theorem kp_winStart (s : State) (w : Nat) : Keeps 9666560 s (State.winStart s w) := by
  unfold State.winStart
  repeat' first
    | (with_reducible exact Keeps.refl)
    | (apply Keeps.next; (with_reducible apply kp_setWin); decide)
    | (apply Keeps.next; (with_reducible apply kp_setWinState); decide)
    | (apply Keeps.next; (with_reducible apply kp_winSet); decide)
    | (with_reducible apply Keeps.ite)
    | (with_reducible apply Keeps.foldl)
    | intro _
    | split
    | dsimp only

theorem kp_bankReset (s : State) (b : Nat) : Keeps 9666560 s (State.bankReset s b) := by
  unfold State.bankReset
  repeat' first
    | (with_reducible exact Keeps.refl)
    | (apply Keeps.next; (with_reducible apply kp_setBank); decide)
    | (apply Keeps.next; (with_reducible apply kp_winStart); decide)
    | (with_reducible apply Keeps.forEach)
    | (with_reducible apply Keeps.ite)
    | (with_reducible apply Keeps.foldl)
    | intro _
    | split
    | dsimp only

theorem kp_winDisable (s : State) (w : Nat) : Keeps 9666560 s (State.winDisable s w) := by
  unfold State.winDisable
  repeat' first
    | (with_reducible exact Keeps.refl)
    | (apply Keeps.next; (with_reducible apply kp_clrB); decide)
    | (apply Keeps.next; (with_reducible apply kp_setB); decide)
    | (apply Keeps.next; (with_reducible apply kp_setWin); decide)
    | (apply Keeps.next; (with_reducible apply kp_setWinState); decide)
    | (apply Keeps.next; (with_reducible apply kp_winSet); decide)
    | (with_reducible apply Keeps.when)
    | (with_reducible apply Keeps.ite)
    | (with_reducible apply Keeps.foldl)
    | intro _
    | split
    | dsimp only

theorem kp_winEnable (s : State) (w : Nat) : Keeps 9666560 s (State.winEnable s w) := by
  unfold State.winEnable
  repeat' first
    | (with_reducible exact Keeps.refl)
    | (apply Keeps.next; (with_reducible apply kp_setB); decide)
    | (apply Keeps.next; (with_reducible apply kp_winStart); decide)
    | (with_reducible apply Keeps.ite)
    | (with_reducible apply Keeps.foldl)
    | intro _
    | split
    | dsimp only

theorem kp_lcheckStart (s : State) (b : Nat) : Keeps 8388608 s (State.lcheckStart s b) := by
  unfold State.lcheckStart
  repeat' first
    | (with_reducible exact Keeps.refl)
    | (with_reducible apply Keeps.wr)
    | (apply Keeps.next; (with_reducible apply kp_clrB); decide)
    | (apply Keeps.next; (with_reducible apply kp_setWinState); decide)
    | (apply Keeps.next; (with_reducible apply kp_setBank); decide)
    | (with_reducible apply Keeps.forEach)
    | (with_reducible apply Keeps.ite)
    | (with_reducible apply Keeps.foldl)
    | intro _
    | split
    | dsimp only

theorem kp_lcheckCmd (s : State) (b : Nat) : Keeps 8388608 s (State.lcheckCmd s b) := by
  unfold State.lcheckCmd
  repeat' first
    | (with_reducible exact Keeps.refl)
    | (with_reducible apply Keeps.wr)
    | (apply Keeps.next; (with_reducible apply kp_setBank); decide)
    | (apply Keeps.next; (with_reducible apply kp_lcheckStart); decide)
    | (with_reducible apply Keeps.ite)
    | (with_reducible apply Keeps.foldl)
    | intro _
    | split
    | dsimp only

theorem kp_cmpCfgErr (s : State) : Keeps 0 s (State.cmpCfgErr s) := by
  unfold State.cmpCfgErr
  repeat' first
    | (with_reducible exact Keeps.refl)
    | (with_reducible apply Keeps.wr)
    | (with_reducible apply Keeps.ite)
    | (with_reducible apply Keeps.foldl)
    | intro _
    | split
    | dsimp only

theorem kp_winCfgFields (s : State) (w : Nat) (v : Nat) : Keeps 0 s (State.winCfgFields s w v) := by
  unfold State.winCfgFields
  repeat' first
    | (with_reducible exact Keeps.refl)
    | (with_reducible apply Keeps.wr)
    | (with_reducible apply Keeps.ite)
    | (with_reducible apply Keeps.foldl)
    | intro _
    | split
    | dsimp only

theorem kp_winFields (s : State) (w : Nat) (r : CmpReg) (v : Nat) : Keeps 0 s (State.winFields s w r v) := by
  unfold State.winFields
  repeat' first
    | (with_reducible exact Keeps.refl)
    | (with_reducible apply Keeps.wr)
    | (apply Keeps.next; (with_reducible apply kp_cmpCfgErr); decide)
    | (apply Keeps.next; (with_reducible apply kp_winCfgFields); decide)
    | (with_reducible apply Keeps.ite)
    | (with_reducible apply Keeps.foldl)
    | intro _
    | split
    | dsimp only

theorem kp_cmpConfigWrite (s : State) (w : Nat) (r : CmpReg) (v : Nat) (tick : Nat) : Keeps 8396800 s (State.cmpConfigWrite s w r v tick) := by
  unfold State.cmpConfigWrite
  repeat' first
    | (with_reducible exact Keeps.refl)
    | (apply Keeps.next; (with_reducible apply kp_winFields); decide)
    | (apply Keeps.next; (with_reducible apply kp_setWin); decide)
    | (apply Keeps.next; (with_reducible apply kp_setB); decide)
    | (apply Keeps.next; (with_reducible apply kp_lateCommit); decide)
    | (apply Keeps.next; (with_reducible apply kp_setBank); decide)
    | (with_reducible apply Keeps.when)
    | (with_reducible apply Keeps.ite)
    | (with_reducible apply Keeps.foldl)
    | intro _
    | split
    | dsimp only

theorem kp_cmpBoundary (s : State) (b : Nat) : Keeps 8388608 s (State.cmpBoundary s b) := by
  unfold State.cmpBoundary
  repeat' first
    | (with_reducible exact Keeps.refl)
    | (apply Keeps.next; (with_reducible apply kp_setBank); decide)
    | (with_reducible apply Keeps.ite)
    | (with_reducible apply Keeps.foldl)
    | intro _
    | split
    | dsimp only

theorem kp_cmpCommit (s : State) (b : Nat) (l : List CmpCfg) : Keeps 8388608 s (State.cmpCommit s b l) := by
  unfold State.cmpCommit
  repeat' first
    | (with_reducible exact Keeps.refl)
    | (apply Keeps.next; (with_reducible apply kp_setWin); decide)
    | (apply Keeps.next; (with_reducible apply kp_setBank); decide)
    | (apply Keeps.next; (with_reducible apply kp_lcheckStart); decide)
    | (with_reducible apply Keeps.forEach)
    | (with_reducible apply Keeps.ite)
    | (with_reducible apply Keeps.foldl)
    | intro _
    | split
    | dsimp only

theorem kp_winDrive (s : State) (w : Nat) (blanked : Nat) : Keeps 9666560 s (State.winDrive s w blanked) := by
  unfold State.winDrive
  repeat' first
    | (with_reducible exact Keeps.refl)
    | (apply Keeps.next; (with_reducible apply kp_winSet); decide)
    | (with_reducible apply Keeps.ite)
    | (with_reducible apply Keeps.foldl)
    | intro _
    | split
    | dsimp only

theorem kp_holdEnd (s : State) (w : Nat) : Keeps 9666560 s (State.holdEnd s w) := by
  unfold State.holdEnd
  repeat' first
    | (with_reducible exact Keeps.refl)
    | (apply Keeps.next; (with_reducible apply kp_setWin); decide)
    | (apply Keeps.next; (with_reducible apply kp_winDrive); decide)
    | (with_reducible apply Keeps.ite)
    | (with_reducible apply Keeps.foldl)
    | intro _
    | split
    | dsimp only

theorem kp_lcheckLeave (s : State) (w : Nat) : Keeps 9666560 s (State.lcheckLeave s w) := by
  unfold State.lcheckLeave
  repeat' first
    | (with_reducible exact Keeps.refl)
    | (with_reducible apply Keeps.wr)
    | (apply Keeps.next; (with_reducible apply kp_setWinState); decide)
    | (apply Keeps.next; (with_reducible apply kp_winSet); decide)
    | (apply Keeps.next; (with_reducible apply kp_setB); decide)
    | (with_reducible apply Keeps.ite)
    | (with_reducible apply Keeps.foldl)
    | intro _
    | split
    | dsimp only

theorem kp_lcheckEnd (s : State) (b : Nat) : Keeps 9666560 s (State.lcheckEnd s b) := by
  unfold State.lcheckEnd
  repeat' first
    | (with_reducible exact Keeps.refl)
    | (with_reducible apply Keeps.wr)
    | (apply Keeps.next; (with_reducible apply kp_lcheckLeave); decide)
    | (apply Keeps.next; (with_reducible apply kp_setBank); decide)
    | (apply Keeps.next; (with_reducible apply kp_raise); decide)
    | (apply Keeps.next; (with_reducible apply kp_bankReset); decide)
    | (with_reducible apply Keeps.when)
    | (with_reducible apply Keeps.forEach)
    | (with_reducible apply Keeps.ite)
    | (with_reducible apply Keeps.foldl)
    | intro _
    | split
    | dsimp only

theorem kp_lcheckStep (s : State) (w : Nat) (st : LegacyStep) (r : LegacyResult) : Keeps 8388608 s (State.lcheckStep s w st r) := by
  unfold State.lcheckStep
  repeat' first
    | (with_reducible exact Keeps.refl)
    | (apply Keeps.next; (with_reducible apply kp_setB); decide)
    | (apply Keeps.next; (with_reducible apply kp_setBank); decide)
    | (with_reducible apply Keeps.when)
    | (with_reducible apply Keeps.ite)
    | (with_reducible apply Keeps.foldl)
    | intro _
    | split
    | dsimp only

theorem kp_readback (s : State) (c : Nat) (p : SarPkt) (recent : Bool) : Keeps 1146880 s (State.readback s c p recent) := by
  unfold State.readback
  repeat' first
    | (with_reducible exact Keeps.refl)
    | (with_reducible apply Keeps.wr)
    | (apply Keeps.next; (with_reducible apply kp_flagRaise); decide)
    | (with_reducible apply Keeps.when)
    | (with_reducible apply Keeps.ite)
    | (with_reducible apply Keeps.foldl)
    | intro _
    | split
    | dsimp only

theorem kp_winArm (s : State) (w : Nat) (v : Int) : Keeps 9666560 s (State.winArm s w v) := by
  unfold State.winArm
  repeat' first
    | (with_reducible exact Keeps.refl)
    | (apply Keeps.next; (with_reducible apply kp_winDrive); decide)
    | (apply Keeps.next; (with_reducible apply kp_setWin); decide)
    | (apply Keeps.next; (with_reducible apply kp_setWinState); decide)
    | (with_reducible apply Keeps.ite)
    | (with_reducible apply Keeps.foldl)
    | intro _
    | split
    | dsimp only

theorem kp_winInput (s : State) (w : Nat) (v : Int) (blanked : Bool) (lines : Nat) : Keeps 9666560 s (State.winInput s w v blanked lines) := by
  unfold State.winInput
  repeat' first
    | (with_reducible exact Keeps.refl)
    | (apply Keeps.next; (with_reducible apply kp_setWin); decide)
    | (apply Keeps.next; (with_reducible apply kp_winDrive); decide)
    | (with_reducible apply Keeps.ite)
    | (with_reducible apply Keeps.foldl)
    | intro _
    | split
    | dsimp only

theorem kp_winTick (s : State) (w : Nat) (lines : Nat) : Keeps 9666560 s (State.winTick s w lines) := by
  unfold State.winTick
  repeat' first
    | (with_reducible exact Keeps.refl)
    | (apply Keeps.next; (with_reducible apply kp_winDrive); decide)
    | (apply Keeps.next; (with_reducible apply kp_setWin); decide)
    | (with_reducible apply Keeps.ite)
    | (with_reducible apply Keeps.foldl)
    | intro _
    | split
    | dsimp only

theorem kp_execSarResultArrive (c : Nat) (recent : Bool) (s : State) : KeepsN 5341184 s (execSarResultArrive c recent s) := by
  unfold execSarResultArrive
  repeat' first
    | (with_reducible exact Keeps.refl)
    | (with_reducible apply Keeps.out)
    | (apply Keeps.nextP; (with_reducible apply kp_flightPop); decide)
    | (apply Keeps.next; (with_reducible apply kp_resultIn); decide)
    | (apply Keeps.next; (with_reducible apply kp_readback); decide)
    | (with_reducible apply Keeps.ite)
    | (with_reducible exact Keeps.reflP)
    | (simp only [Keeps.pair_eq])
    | (with_reducible apply Keeps.snd)
    | (apply Keeps.of_pair; assumption)
    | (with_reducible apply Keeps.iteP)
    | (with_reducible apply Keeps.foldlP)
    | (with_reducible apply Keeps.foldl)
    | intro _
    | split
    | dsimp only

theorem kp_execCmpOutputChange (w : Nat) (v : Int) (blanked : Bool) (lines : Nat) (s : State) : KeepsN 9666560 s (execCmpOutputChange w v blanked lines s) := by
  unfold execCmpOutputChange
  repeat' first
    | (with_reducible exact Keeps.refl)
    | (with_reducible apply Keeps.out)
    | (apply Keeps.next; (with_reducible apply kp_winInput); decide)
    | (with_reducible apply Keeps.ite)
    | (with_reducible apply Keeps.foldl)
    | intro _
    | split
    | dsimp only

theorem kp_execCmpBankTick (b : Nat) (lines : Nat) (s : State) : KeepsN 9666560 s (execCmpBankTick b lines s) := by
  unfold execCmpBankTick
  repeat' first
    | (with_reducible exact Keeps.refl)
    | (with_reducible apply Keeps.out)
    | (apply Keeps.next; (with_reducible apply kp_winTick); decide)
    | (with_reducible apply Keeps.forEach)
    | (with_reducible apply Keeps.ite)
    | (with_reducible apply Keeps.foldl)
    | intro _
    | split
    | dsimp only

theorem kp_execCmpWindowEnable (m : Master) (w : Nat) (s : State) : KeepsN 9666816 s (execCmpWindowEnable m w s) := by
  unfold execCmpWindowEnable
  repeat' first
    | (with_reducible exact Keeps.refl)
    | (with_reducible apply Keeps.out)
    | (apply Keeps.next; (with_reducible apply kp_winEnable); decide)
    | (with_reducible apply Keeps.access; decide)
    | (with_reducible apply Keeps.ite)
    | (with_reducible apply Keeps.foldl)
    | intro _
    | split
    | dsimp only

theorem kp_execCmpWindowDisable (m : Master) (w : Nat) (s : State) : KeepsN 9666816 s (execCmpWindowDisable m w s) := by
  unfold execCmpWindowDisable
  repeat' first
    | (with_reducible exact Keeps.refl)
    | (with_reducible apply Keeps.out)
    | (apply Keeps.next; (with_reducible apply kp_winDisable); decide)
    | (with_reducible apply Keeps.access; decide)
    | (with_reducible apply Keeps.ite)
    | (with_reducible apply Keeps.foldl)
    | intro _
    | split
    | dsimp only

theorem kp_execCmpWindowArm (w : Nat) (v : Int) (s : State) : KeepsN 9666560 s (execCmpWindowArm w v s) := by
  unfold execCmpWindowArm
  repeat' first
    | (with_reducible exact Keeps.refl)
    | (with_reducible apply Keeps.out)
    | (apply Keeps.next; (with_reducible apply kp_winArm); decide)
    | (with_reducible apply Keeps.ite)
    | (with_reducible apply Keeps.foldl)
    | intro _
    | split
    | dsimp only

theorem kp_execCmpConfigWrite (m : Master) (w : Nat) (r : CmpReg) (value : Nat) (tick : Nat) (s : State) : KeepsN 8429824 s (execCmpConfigWrite m w r value tick s) := by
  unfold execCmpConfigWrite
  repeat' first
    | (with_reducible exact Keeps.refl)
    | (with_reducible apply Keeps.out)
    | (apply Keeps.next; (with_reducible apply kp_toTick); decide)
    | (apply Keeps.next; (with_reducible apply kp_cmpConfigWrite); decide)
    | (with_reducible apply Keeps.access; decide)
    | (with_reducible apply Keeps.ite)
    | (with_reducible apply Keeps.foldl)
    | intro _
    | split
    | dsimp only

theorem kp_execCmpConfigCommit (b : Nat) (s : State) : KeepsN 8388608 s (execCmpConfigCommit b s) := by
  unfold execCmpConfigCommit
  repeat' first
    | (with_reducible exact Keeps.refl)
    | (with_reducible apply Keeps.out)
    | (apply Keeps.next; (with_reducible apply kp_cmpCommit); decide)
    | (with_reducible apply Keeps.ite)
    | (with_reducible apply Keeps.foldl)
    | intro _
    | split
    | dsimp only

theorem kp_execCmpDacHoldEnd (w : Nat) (s : State) : KeepsN 9666560 s (execCmpDacHoldEnd w s) := by
  unfold execCmpDacHoldEnd
  repeat' first
    | (with_reducible exact Keeps.refl)
    | (with_reducible apply Keeps.out)
    | (apply Keeps.next; (with_reducible apply kp_holdEnd); decide)
    | (with_reducible apply Keeps.ite)
    | (with_reducible apply Keeps.foldl)
    | intro _
    | split
    | dsimp only

theorem kp_execCmpBlankEnd (w : Nat) (s : State) : KeepsN 9535488 s (execCmpBlankEnd w s) := by
  unfold execCmpBlankEnd
  repeat' first
    | (with_reducible exact Keeps.refl)
    | (with_reducible apply Keeps.out)
    | (apply Keeps.next; (with_reducible apply kp_winShow); decide)
    | (apply Keeps.next; (with_reducible apply kp_setWin); decide)
    | (with_reducible apply Keeps.ite)
    | (with_reducible apply Keeps.foldl)
    | intro _
    | split
    | dsimp only

theorem kp_execCmpLcheck (m : Master) (b : Nat) (s : State) : KeepsN 8388864 s (execCmpLcheck m b s) := by
  unfold execCmpLcheck
  repeat' first
    | (with_reducible exact Keeps.refl)
    | (with_reducible apply Keeps.out)
    | (apply Keeps.next; (with_reducible apply kp_lcheckCmd); decide)
    | (with_reducible apply Keeps.access; decide)
    | (with_reducible apply Keeps.ite)
    | (with_reducible apply Keeps.foldl)
    | intro _
    | split
    | dsimp only

theorem kp_execCmpLcheckStepEnd (w : Nat) (step : LegacyStep) (r : LegacyResult) (s : State) : KeepsN 8388608 s (execCmpLcheckStepEnd w step r s) := by
  unfold execCmpLcheckStepEnd
  repeat' first
    | (with_reducible exact Keeps.refl)
    | (with_reducible apply Keeps.out)
    | (apply Keeps.next; (with_reducible apply kp_lcheckStep); decide)
    | (with_reducible apply Keeps.ite)
    | (with_reducible apply Keeps.foldl)
    | intro _
    | split
    | dsimp only

theorem kp_execCmpLcheckEnd (b : Nat) (s : State) : KeepsN 9666560 s (execCmpLcheckEnd b s) := by
  unfold execCmpLcheckEnd
  repeat' first
    | (with_reducible exact Keeps.refl)
    | (with_reducible apply Keeps.out)
    | (apply Keeps.next; (with_reducible apply kp_lcheckEnd); decide)
    | (with_reducible apply Keeps.ite)
    | (with_reducible apply Keeps.foldl)
    | intro _
    | split
    | dsimp only

theorem kp_execCmpBankSoftReset (m : Master) (b : Nat) (s : State) : KeepsN 9666816 s (execCmpBankSoftReset m b s) := by
  unfold execCmpBankSoftReset
  repeat' first
    | (with_reducible exact Keeps.refl)
    | (with_reducible apply Keeps.out)
    | (apply Keeps.next; (with_reducible apply kp_bankReset); decide)
    | (with_reducible apply Keeps.access; decide)
    | (with_reducible apply Keeps.ite)
    | (with_reducible apply Keeps.foldl)
    | intro _
    | split
    | dsimp only

end Sys2Proof.Machine
end

