-- ==== Sys2Proof/Laws/KeepsPairs.lean ====
section
/-! SUPPORT. Laws/KeepsPairs.lean: what each operation of Machine/Pairs.lean keeps. -/

set_option Elab.async false

set_option linter.unusedTactic false
set_option linter.unusedSimpArgs false
set_option linter.unreachableTactic false

namespace Sys2Proof.Machine

theorem kp_haltStatus (s : State) : Keeps 0 s (State.haltStatus s) := by
  unfold State.haltStatus
  repeat' first
    | (with_reducible exact Keeps.refl)
    | (with_reducible apply Keeps.wr)
    | (apply Keeps.next; (with_reducible apply kp_pwmCauseEnds); decide)
    | (with_reducible apply Keeps.ite)
    | (with_reducible apply Keeps.foldl)
    | intro _
    | split
    | dsimp only

theorem kp_pairStops (s : State) (p : PairId) : Keeps 65536 s (State.pairStops s p) := by
  unfold State.pairStops
  repeat' first
    | (with_reducible exact Keeps.refl)
    | (apply Keeps.next; (with_reducible apply kp_haltStatus); decide)
    | (apply Keeps.next; (with_reducible apply kp_setPair); decide)
    | (with_reducible apply Keeps.ite)
    | (with_reducible apply Keeps.foldl)
    | intro _
    | split
    | dsimp only

theorem kp_updateReady (s : State) : Keeps 1146880 s (State.updateReady s) := by
  unfold State.updateReady
  repeat' first
    | (with_reducible exact Keeps.refl)
    | (with_reducible apply Keeps.wr)
    | (apply Keeps.next; (with_reducible apply kp_raise); decide)
    | (with_reducible apply Keeps.ite)
    | (with_reducible apply Keeps.foldl)
    | intro _
    | split
    | dsimp only

theorem kp_setPairState (s : State) (p : PairId) (st : Nat) : Keeps 524288 s (State.setPairState s p st) := by
  unfold State.setPairState
  repeat' first
    | (with_reducible exact Keeps.refl)
    | (with_reducible apply Keeps.atBuilt; refine Keeps.upd ?_)
    | (simp only [Keeps.built])
    | (with_reducible apply Keeps.wr)
    | (apply Keeps.next; (with_reducible apply kp_pwmCauseEnds); decide)
    | (with_reducible apply Keeps.when)
    | (with_reducible apply Keeps.ite)
    | (with_reducible apply Keeps.foldl)
    | intro _
    | split
    | dsimp only

theorem kp_enterFailed (s : State) (p : PairId) : Keeps 589824 s (State.enterFailed s p) := by
  unfold State.enterFailed
  repeat' first
    | (with_reducible exact Keeps.refl)
    | (apply Keeps.next; (with_reducible apply kp_setPairState); decide)
    | (apply Keeps.next; (with_reducible apply kp_pairStops); decide)
    | (with_reducible apply Keeps.ite)
    | (with_reducible apply Keeps.foldl)
    | intro _
    | split
    | dsimp only

theorem kp_fence (s : State) (p : PairId) : Keeps 0 s (State.fence s p) := by
  unfold State.fence
  repeat' first
    | (with_reducible exact Keeps.refl)
    | (with_reducible apply Keeps.wr)
    | (with_reducible apply Keeps.ite)
    | (with_reducible apply Keeps.foldl)
    | intro _
    | split
    | dsimp only

theorem kp_bothLost (s : State) (p : PairId) : Keeps 1671680 s (State.bothLost s p) := by
  unfold State.bothLost
  repeat' first
    | (with_reducible exact Keeps.refl)
    | (with_reducible apply Keeps.atBuilt; refine Keeps.upd ?_)
    | (simp only [Keeps.built])
    | (with_reducible apply Keeps.wr)
    | (apply Keeps.next; (with_reducible apply kp_enterFailed); decide)
    | (apply Keeps.next; (with_reducible apply kp_fence); decide)
    | (apply Keeps.next; (with_reducible apply kp_updateReady); decide)
    | (apply Keeps.next; (with_reducible apply kp_flagRaise); decide)
    | (apply Keeps.next; (with_reducible apply kp_pwmSafe); decide)
    | (apply Keeps.next; (with_reducible apply kp_faultHold); decide)
    | (with_reducible apply Keeps.ite)
    | (with_reducible apply Keeps.foldl)
    | intro _
    | split
    | dsimp only

theorem kp_wantOrderly (s : State) : Keeps 65536 s (State.wantOrderly s) := by
  unfold State.wantOrderly
  repeat' first
    | (with_reducible exact Keeps.refl)
    | (with_reducible apply Keeps.atBuilt; refine Keeps.upd ?_)
    | (simp only [Keeps.built])
    | (with_reducible apply Keeps.ite)
    | (with_reducible apply Keeps.foldl)
    | intro _
    | split
    | dsimp only

theorem kp_dropTakeover (s : State) (act : PairId) : Keeps 1671680 s (State.dropTakeover s act) := by
  unfold State.dropTakeover
  repeat' first
    | (with_reducible exact Keeps.refl)
    | (with_reducible apply Keeps.atBuilt; refine Keeps.upd ?_)
    | (simp only [Keeps.built])
    | (with_reducible apply Keeps.wr)
    | (apply Keeps.next; (with_reducible apply kp_bothLost); decide)
    | (apply Keeps.next; (with_reducible apply kp_wantOrderly); decide)
    | (with_reducible apply Keeps.ite)
    | (with_reducible apply Keeps.foldl)
    | intro _
    | split
    | dsimp only

theorem kp_pairDisable (s : State) (p : PairId) : Keeps 1671680 s (State.pairDisable s p) := by
  unfold State.pairDisable
  repeat' first
    | (with_reducible exact Keeps.refl)
    | (with_reducible apply Keeps.atBuilt; refine Keeps.upd ?_)
    | (simp only [Keeps.built])
    | (with_reducible apply Keeps.wr)
    | (apply Keeps.next; (with_reducible apply kp_pairStops); decide)
    | (apply Keeps.next; (with_reducible apply kp_updateReady); decide)
    | (apply Keeps.next; (with_reducible apply kp_setPairState); decide)
    | (apply Keeps.next; (with_reducible apply kp_dropTakeover); decide)
    | (with_reducible apply Keeps.ite)
    | (with_reducible apply Keeps.foldl)
    | intro _
    | split
    | dsimp only

theorem kp_enterSelftest (s : State) (p : PairId) : Keeps 593968 s (State.enterSelftest s p) := by
  unfold State.enterSelftest
  repeat' first
    | (with_reducible exact Keeps.refl)
    | (with_reducible apply Keeps.atBuilt; refine Keeps.upd ?_)
    | (simp only [Keeps.built])
    | (with_reducible apply Keeps.wr)
    | (apply Keeps.next; (with_reducible apply kp_setPairState); decide)
    | (apply Keeps.next; (with_reducible apply kp_pairStops); decide)
    | (apply Keeps.next; (with_reducible apply kp_setPair); decide)
    | (with_reducible apply Keeps.setTcm; decide; decide)
    | exact fun _ => rfl
    | exact fun hc => Keeps.tcmOf hc _
    | exact fun hc => Keeps.keysRise_write _ _ (Keeps.tcmOf hc _)
    | (with_reducible apply Keeps.ite)
    | (with_reducible apply Keeps.foldl)
    | intro _
    | split
    | dsimp only

theorem kp_pairEnable (s : State) (p : PairId) : Keeps 593968 s (State.pairEnable s p) := by
  unfold State.pairEnable
  repeat' first
    | (with_reducible exact Keeps.refl)
    | (with_reducible apply Keeps.wr)
    | (apply Keeps.next; (with_reducible apply kp_enterSelftest); decide)
    | (with_reducible apply Keeps.ite)
    | (with_reducible apply Keeps.foldl)
    | intro _
    | split
    | dsimp only

theorem kp_cmdTakeover (s : State) : Keeps 65536 s (State.cmdTakeover s) := by
  unfold State.cmdTakeover
  repeat' first
    | (with_reducible exact Keeps.refl)
    | (with_reducible apply Keeps.atBuilt; refine Keeps.upd ?_)
    | (simp only [Keeps.built])
    | (with_reducible apply Keeps.wr)
    | (with_reducible apply Keeps.ite)
    | (with_reducible apply Keeps.foldl)
    | intro _
    | split
    | dsimp only

theorem kp_rejoinCmd (s : State) (p : PairId) : Keeps 593968 s (State.rejoinCmd s p) := by
  unfold State.rejoinCmd
  repeat' first
    | (with_reducible exact Keeps.refl)
    | (apply Keeps.next; (with_reducible apply kp_enterSelftest); decide)
    | (with_reducible apply Keeps.ite)
    | (with_reducible apply Keeps.foldl)
    | intro _
    | split
    | dsimp only

theorem kp_rejoinRule (s : State) (p : PairId) : Keeps 593968 s (State.rejoinRule s p) := by
  unfold State.rejoinRule
  repeat' first
    | (with_reducible exact Keeps.refl)
    | (with_reducible apply Keeps.wr)
    | (apply Keeps.next; (with_reducible apply kp_enterSelftest); decide)
    | (apply Keeps.next; (with_reducible apply kp_enterFailed); decide)
    | (with_reducible apply Keeps.ite)
    | (with_reducible apply Keeps.foldl)
    | intro _
    | split
    | dsimp only

theorem kp_pairFault (s : State) (p : PairId) (code : Nat) : Keeps 1675824 s (State.pairFault s p code) := by
  unfold State.pairFault
  repeat' first
    | (with_reducible exact Keeps.refl)
    | (with_reducible apply Keeps.atBuilt; refine Keeps.upd ?_)
    | (simp only [Keeps.built])
    | (with_reducible apply Keeps.wr)
    | (apply Keeps.next; (with_reducible apply kp_fence); decide)
    | (apply Keeps.next; (with_reducible apply kp_bothLost); decide)
    | (apply Keeps.next; (with_reducible apply kp_wantOrderly); decide)
    | (apply Keeps.next; (with_reducible apply kp_updateReady); decide)
    | (apply Keeps.next; (with_reducible apply kp_rejoinRule); decide)
    | (apply Keeps.next; (with_reducible apply kp_dropTakeover); decide)
    | (with_reducible apply Keeps.when)
    | (with_reducible apply Keeps.ite)
    | (with_reducible apply Keeps.foldl)
    | intro _
    | split
    | dsimp only

theorem kp_recordFault (s : State) (p : PairId) (f : Fld) (ev : Nat) (code : Nat) : Keeps 1675824 s (State.recordFault s p f ev code) := by
  unfold State.recordFault
  repeat' first
    | (with_reducible exact Keeps.refl)
    | (apply Keeps.next; (with_reducible apply kp_pairFault); decide)
    | (apply Keeps.next; (with_reducible apply kp_flagRaise); decide)
    | (with_reducible apply Keeps.ite)
    | (with_reducible apply Keeps.foldl)
    | intro _
    | split
    | dsimp only

theorem kp_comparatorTest (s : State) (p : PairId) (reported : Bool) : Keeps 1675824 s (State.comparatorTest s p reported) := by
  unfold State.comparatorTest
  repeat' first
    | (with_reducible exact Keeps.refl)
    | (apply Keeps.next; (with_reducible apply kp_setPair); decide)
    | (apply Keeps.next; (with_reducible apply kp_recordFault); decide)
    | (with_reducible apply Keeps.ite)
    | (with_reducible apply Keeps.foldl)
    | intro _
    | split
    | dsimp only

theorem kp_debugHalt (s : State) (p : PairId) : Keeps 1146880 s (State.debugHalt s p) := by
  unfold State.debugHalt
  repeat' first
    | (with_reducible exact Keeps.refl)
    | (apply Keeps.next; (with_reducible apply kp_setPair); decide)
    | (apply Keeps.next; (with_reducible apply kp_pwmSafe); decide)
    | (apply Keeps.next; (with_reducible apply kp_updateReady); decide)
    | (apply Keeps.next; (with_reducible apply kp_haltStatus); decide)
    | (with_reducible apply Keeps.when)
    | (with_reducible apply Keeps.ite)
    | (with_reducible apply Keeps.foldl)
    | intro _
    | split
    | dsimp only

theorem kp_debugRecord (s : State) (p : PairId) (a : DebugAction) (count : Nat) : Keeps 65536 s (State.debugRecord s p a count) := by
  unfold State.debugRecord
  repeat' first
    | (with_reducible exact Keeps.refl)
    | (apply Keeps.next; (with_reducible apply kp_setPair); decide)
    | (with_reducible apply Keeps.ite)
    | (with_reducible apply Keeps.foldl)
    | intro _
    | split
    | dsimp only

theorem kp_debugResume (s : State) (p : PairId) : Keeps 65536 s (State.debugResume s p) := by
  unfold State.debugResume
  repeat' first
    | (with_reducible exact Keeps.refl)
    | (with_reducible apply Keeps.atBuilt; refine Keeps.upd ?_)
    | (simp only [Keeps.built])
    | (apply Keeps.next; (with_reducible apply kp_setPair); decide)
    | (apply Keeps.next; (with_reducible apply kp_haltStatus); decide)
    | (with_reducible apply Keeps.ite)
    | (with_reducible apply Keeps.foldl)
    | intro _
    | split
    | dsimp only

theorem kp_pairsBoundary (s : State) : Keeps 1146880 s (State.pairsBoundary s) := by
  unfold State.pairsBoundary
  repeat' first
    | (with_reducible exact Keeps.refl)
    | (with_reducible apply Keeps.atBuilt; refine Keeps.upd ?_)
    | (simp only [Keeps.built])
    | (apply Keeps.next; (with_reducible apply kp_incWrap); decide)
    | (apply Keeps.next; (with_reducible apply kp_updateReady); decide)
    | (with_reducible apply Keeps.ite)
    | (with_reducible apply Keeps.foldl)
    | intro _
    | split
    | dsimp only

theorem kp_tcmWrite (s : State) (p : PairId) (a : Nat) (data : List Byte) : Keeps 48 s (State.tcmWrite s p a data) := by
  have hf : ∀ (l : List Nat) (m : List Host.Cell), keysRise m = true →
      keysRise (l.foldl (fun m i => sparseInsert m (a + i) (nth data i 0)) m) = true := by
    intro l
    induction l with
    | nil => exact fun m h => h
    | cons x l ih => exact fun m h => ih _ (keysRise_insert _ _ h)
  unfold State.tcmWrite
  split
  · exact Keeps.setTcm (by decide) (by decide) Keeps.refl (fun hc => Keeps.keysRise_write _ _ (Keeps.tcmOf hc _))
  · exact Keeps.setTcm (by decide) (by decide) Keeps.refl (fun hc => hf _ _ (Keeps.tcmOf hc _))

theorem kp_mirrorStore (s : State) (p : PairId) (a : Nat) (data : List Byte) : Keeps 48 s (State.mirrorStore s p a data) := by
  unfold State.mirrorStore
  repeat' first
    | (with_reducible exact Keeps.refl)
    | (apply Keeps.next; (with_reducible apply kp_tcmWrite); decide)
    | (with_reducible apply Keeps.when)
    | (with_reducible apply Keeps.ite)
    | (with_reducible apply Keeps.foldl)
    | intro _
    | split
    | dsimp only

theorem kp_pairActivate (s : State) (p : PairId) : Keeps 1671168 s (State.pairActivate s p) := by
  unfold State.pairActivate
  repeat' first
    | (with_reducible exact Keeps.refl)
    | (apply Keeps.next; (with_reducible apply kp_setPair); decide)
    | (apply Keeps.next; (with_reducible apply kp_setPairState); decide)
    | (apply Keeps.next; (with_reducible apply kp_updateReady); decide)
    | (with_reducible apply Keeps.ite)
    | (with_reducible apply Keeps.foldl)
    | intro _
    | split
    | dsimp only

theorem kp_selftestDone (s : State) (p : PairId) (pass : Bool) : Keeps 1671168 s (State.selftestDone s p pass) := by
  unfold State.selftestDone
  repeat' first
    | (with_reducible exact Keeps.refl)
    | (with_reducible apply Keeps.wr)
    | (apply Keeps.next; (with_reducible apply kp_setPairState); decide)
    | (apply Keeps.next; (with_reducible apply kp_setPair); decide)
    | (apply Keeps.next; (with_reducible apply kp_raise); decide)
    | (with_reducible apply Keeps.ite)
    | (with_reducible apply Keeps.foldl)
    | intro _
    | split
    | dsimp only

theorem kp_standbyEnter (s : State) (p : PairId) : Keeps 1671168 s (State.standbyEnter s p) := by
  unfold State.standbyEnter
  repeat' first
    | (with_reducible exact Keeps.refl)
    | (apply Keeps.next; (with_reducible apply kp_setPairState); decide)
    | (apply Keeps.next; (with_reducible apply kp_setPair); decide)
    | (apply Keeps.next; (with_reducible apply kp_updateReady); decide)
    | (apply Keeps.next; (with_reducible apply kp_raise); decide)
    | (with_reducible apply Keeps.ite)
    | (with_reducible apply Keeps.foldl)
    | intro _
    | split
    | dsimp only

theorem kp_standbyWrite (s : State) (p : PairId) (a : Nat) (v : Nat) : Keeps 65840 s (State.standbyWrite s p a v) := by
  unfold State.standbyWrite
  repeat' first
    | (with_reducible exact Keeps.refl)
    | (with_reducible apply Keeps.atBuilt; refine Keeps.upd ?_)
    | (simp only [Keeps.built])
    | (apply Keeps.next; (with_reducible apply kp_tcmWrite); decide)
    | (apply Keeps.next; (with_reducible apply kp_setPair); decide)
    | (apply Keeps.next; (with_reducible apply kp_incSat); decide)
    | (with_reducible apply Keeps.ite)
    | (with_reducible apply Keeps.foldl)
    | intro _
    | split
    | dsimp only

theorem kp_sweep (s : State) (p : PairId) (main : List Nat) (checker : List Nat) (forced : Bool) : Keeps 1675824 s (State.sweep s p main checker forced) := by
  unfold State.sweep
  repeat' first
    | (with_reducible exact Keeps.refl)
    | (with_reducible apply Keeps.wr)
    | (apply Keeps.next; (with_reducible apply kp_setPair); decide)
    | (apply Keeps.next; (with_reducible apply kp_recordFault); decide)
    | (with_reducible apply Keeps.when)
    | (with_reducible apply Keeps.ite)
    | (with_reducible apply Keeps.foldl)
    | intro _
    | split
    | dsimp only

theorem kp_syncCopied (s : State) (p : PairId) : Keeps 65584 s (State.syncCopied s p) := by
  unfold State.syncCopied
  repeat' first
    | (with_reducible exact Keeps.refl)
    | (apply Keeps.next; (with_reducible apply kp_setPair); decide)
    | (with_reducible apply Keeps.setTcm; decide; decide)
    | exact fun _ => rfl
    | exact fun hc => Keeps.tcmOf hc _
    | exact fun hc => Keeps.keysRise_write _ _ (Keeps.tcmOf hc _)
    | (with_reducible apply Keeps.ite)
    | (with_reducible apply Keeps.foldl)
    | intro _
    | split
    | dsimp only

theorem kp_takeover (s : State) (old : PairId) : Keeps 1675312 s (State.takeover s old) := by
  unfold State.takeover
  repeat' first
    | (with_reducible exact Keeps.refl)
    | (with_reducible apply Keeps.atBuilt; refine Keeps.upd ?_)
    | (simp only [Keeps.built])
    | (with_reducible apply Keeps.wr)
    | (apply Keeps.next; (with_reducible apply kp_fence); decide)
    | (apply Keeps.next; (with_reducible apply kp_epochInc); decide)
    | (apply Keeps.next; (with_reducible apply kp_setPairState); decide)
    | (apply Keeps.next; (with_reducible apply kp_setPair); decide)
    | (apply Keeps.next; (with_reducible apply kp_rejoinRule); decide)
    | (apply Keeps.next; (with_reducible apply kp_incSat); decide)
    | (apply Keeps.next; (with_reducible apply kp_raise); decide)
    | (apply Keeps.next; (with_reducible apply kp_updateReady); decide)
    | (with_reducible apply Keeps.forEach)
    | (with_reducible apply Keeps.ite)
    | (with_reducible apply Keeps.foldl)
    | intro _
    | split
    | dsimp only

theorem kp_execCpMismatch (p : PairId) (s : State) : KeepsN 1675824 s (execCpMismatch p s) := by
  unfold execCpMismatch
  repeat' first
    | (with_reducible exact Keeps.refl)
    | (with_reducible apply Keeps.out)
    | (apply Keeps.next; (with_reducible apply kp_recordFault); decide)
    | (with_reducible apply Keeps.ite)
    | (with_reducible apply Keeps.foldl)
    | intro _
    | split
    | dsimp only

theorem kp_execCpTcmDed (p : PairId) (s : State) : KeepsN 1675824 s (execCpTcmDed p s) := by
  unfold execCpTcmDed
  repeat' first
    | (with_reducible exact Keeps.refl)
    | (with_reducible apply Keeps.out)
    | (apply Keeps.next; (with_reducible apply kp_recordFault); decide)
    | (with_reducible apply Keeps.ite)
    | (with_reducible apply Keeps.foldl)
    | intro _
    | split
    | dsimp only

theorem kp_execCpComparatorTest (reportedA : Bool) (reportedB : Bool) (s : State) : KeepsN 1675824 s (execCpComparatorTest reportedA reportedB s) := by
  unfold execCpComparatorTest
  repeat' first
    | (with_reducible exact Keeps.refl)
    | (with_reducible apply Keeps.out)
    | (apply Keeps.next; (with_reducible apply kp_comparatorTest); decide)
    | (with_reducible apply Keeps.ite)
    | (with_reducible apply Keeps.foldl)
    | intro _
    | split
    | dsimp only

theorem kp_execCpDelayParity (p : PairId) (s : State) : KeepsN 1675824 s (execCpDelayParity p s) := by
  unfold execCpDelayParity
  repeat' first
    | (with_reducible exact Keeps.refl)
    | (with_reducible apply Keeps.out)
    | (apply Keeps.next; (with_reducible apply kp_recordFault); decide)
    | (with_reducible apply Keeps.ite)
    | (with_reducible apply Keeps.foldl)
    | intro _
    | split
    | dsimp only

theorem kp_execCpAgreeFix (p : PairId) (input : Nat) (value : Nat) (s : State) : KeepsN 65536 s (execCpAgreeFix p input value s) := by
  unfold execCpAgreeFix
  repeat' first
    | (with_reducible exact Keeps.refl)
    | (with_reducible apply Keeps.out)
    | (apply Keeps.next; (with_reducible apply kp_setPair); decide)
    | (with_reducible apply Keeps.ite)
    | (with_reducible apply Keeps.foldl)
    | intro _
    | split
    | dsimp only

theorem kp_execCpAgreeFault (p : PairId) (s : State) : KeepsN 1675824 s (execCpAgreeFault p s) := by
  unfold execCpAgreeFault
  repeat' first
    | (with_reducible exact Keeps.refl)
    | (with_reducible apply Keeps.out)
    | (apply Keeps.next; (with_reducible apply kp_recordFault); decide)
    | (with_reducible apply Keeps.ite)
    | (with_reducible apply Keeps.foldl)
    | intro _
    | split
    | dsimp only

theorem kp_execDebugHalt (p : PairId) (count : Nat) (s : State) : KeepsN 1146880 s (execDebugHalt p count s) := by
  unfold execDebugHalt
  repeat' first
    | (with_reducible exact Keeps.refl)
    | (with_reducible apply Keeps.out)
    | (apply Keeps.next; (with_reducible apply kp_debugHalt); decide)
    | (apply Keeps.next; (with_reducible apply kp_debugRecord); decide)
    | (with_reducible apply Keeps.ite)
    | (with_reducible apply Keeps.foldl)
    | intro _
    | split
    | dsimp only

theorem kp_execDebugResume (p : PairId) (count : Nat) (s : State) : KeepsN 65536 s (execDebugResume p count s) := by
  unfold execDebugResume
  repeat' first
    | (with_reducible exact Keeps.refl)
    | (with_reducible apply Keeps.out)
    | (apply Keeps.next; (with_reducible apply kp_debugResume); decide)
    | (apply Keeps.next; (with_reducible apply kp_debugRecord); decide)
    | (with_reducible apply Keeps.ite)
    | (with_reducible apply Keeps.foldl)
    | intro _
    | split
    | dsimp only

theorem kp_execDebugStep (p : PairId) (count : Nat) (s : State) : KeepsN 65536 s (execDebugStep p count s) := by
  unfold execDebugStep
  repeat' first
    | (with_reducible exact Keeps.refl)
    | (with_reducible apply Keeps.out)
    | (apply Keeps.next; (with_reducible apply kp_debugRecord); decide)
    | (with_reducible apply Keeps.ite)
    | (with_reducible apply Keeps.foldl)
    | intro _
    | split
    | dsimp only

theorem kp_execDebugAbstractCmd (p : PairId) (count : Nat) (s : State) : KeepsN 65536 s (execDebugAbstractCmd p count s) := by
  unfold execDebugAbstractCmd
  repeat' first
    | (with_reducible exact Keeps.refl)
    | (with_reducible apply Keeps.out)
    | (apply Keeps.next; (with_reducible apply kp_debugRecord); decide)
    | (with_reducible apply Keeps.ite)
    | (with_reducible apply Keeps.foldl)
    | intro _
    | split
    | dsimp only

theorem kp_execDebugProgbuf (p : PairId) (count : Nat) (s : State) : KeepsN 65536 s (execDebugProgbuf p count s) := by
  unfold execDebugProgbuf
  repeat' first
    | (with_reducible exact Keeps.refl)
    | (with_reducible apply Keeps.out)
    | (apply Keeps.next; (with_reducible apply kp_debugRecord); decide)
    | (with_reducible apply Keeps.ite)
    | (with_reducible apply Keeps.foldl)
    | intro _
    | split
    | dsimp only

theorem kp_execDebugReplay (p : PairId) (s : State) : KeepsN 65536 s (execDebugReplay p s) := by
  unfold execDebugReplay
  repeat' first
    | (with_reducible exact Keeps.refl)
    | (with_reducible apply Keeps.out)
    | (apply Keeps.next; (with_reducible apply kp_setPair); decide)
    | (with_reducible apply Keeps.ite)
    | (with_reducible apply Keeps.foldl)
    | intro _
    | split
    | dsimp only

theorem kp_execSweepCapture (p : PairId) (main : List Nat) (checker : List Nat) (s : State) : KeepsN 1675824 s (execSweepCapture p main checker s) := by
  unfold execSweepCapture
  repeat' first
    | (with_reducible exact Keeps.refl)
    | (with_reducible apply Keeps.out)
    | (apply Keeps.next; (with_reducible apply kp_sweep); decide)
    | (with_reducible apply Keeps.ite)
    | (with_reducible apply Keeps.foldl)
    | intro _
    | split
    | dsimp only

theorem kp_execSweepForced (p : PairId) (main : List Nat) (checker : List Nat) (s : State) : KeepsN 1675824 s (execSweepForced p main checker s) := by
  unfold execSweepForced
  repeat' first
    | (with_reducible exact Keeps.refl)
    | (with_reducible apply Keeps.out)
    | (apply Keeps.next; (with_reducible apply kp_sweep); decide)
    | (with_reducible apply Keeps.ite)
    | (with_reducible apply Keeps.foldl)
    | intro _
    | split
    | dsimp only

theorem kp_execStandbyWriteSuppress (p : PairId) (addr : Nat) (value : Nat) (s : State) : KeepsN 65840 s (execStandbyWriteSuppress p addr value s) := by
  unfold execStandbyWriteSuppress
  repeat' first
    | (with_reducible exact Keeps.refl)
    | (with_reducible apply Keeps.out)
    | (apply Keeps.next; (with_reducible apply kp_standbyWrite); decide)
    | (with_reducible apply Keeps.ite)
    | (with_reducible apply Keeps.foldl)
    | intro _
    | split
    | dsimp only

theorem kp_execMirrorWriteThrough (p : PairId) (addr : Nat) (data : List Byte) (s : State) : KeepsN 48 s (execMirrorWriteThrough p addr data s) := by
  unfold execMirrorWriteThrough
  repeat' first
    | (with_reducible exact Keeps.refl)
    | (with_reducible apply Keeps.out)
    | (apply Keeps.next; (with_reducible apply kp_mirrorStore); decide)
    | (with_reducible apply Keeps.ite)
    | (with_reducible apply Keeps.foldl)
    | intro _
    | split
    | dsimp only

theorem kp_execCpTakeoverInterrupt (p : PairId) (s : State) : KeepsN 65536 s (execCpTakeoverInterrupt p s) := by
  unfold execCpTakeoverInterrupt
  repeat' first
    | (with_reducible exact Keeps.refl)
    | (with_reducible apply Keeps.out)
    | (apply Keeps.next; (with_reducible apply kp_setPair); decide)
    | (with_reducible apply Keeps.ite)
    | (with_reducible apply Keeps.foldl)
    | intro _
    | split
    | dsimp only

theorem kp_execCpFatalDelay (s : State) : KeepsN 65536 s (execCpFatalDelay s) := by
  unfold execCpFatalDelay
  repeat' first
    | (with_reducible exact Keeps.refl)
    | (with_reducible apply Keeps.atBuilt; refine Keeps.upd ?_)
    | (simp only [Keeps.built])
    | (with_reducible apply Keeps.out)
    | (apply Keeps.next; (with_reducible apply kp_fatalDue); decide)
    | (with_reducible apply Keeps.ite)
    | (with_reducible apply Keeps.foldl)
    | intro _
    | split
    | dsimp only

theorem kp_execCpDisable (m : Master) (p : PairId) (s : State) : KeepsN 1671936 s (execCpDisable m p s) := by
  unfold execCpDisable
  repeat' first
    | (with_reducible exact Keeps.refl)
    | (with_reducible apply Keeps.out)
    | (apply Keeps.next; (with_reducible apply kp_pairDisable); decide)
    | (with_reducible apply Keeps.access; decide)
    | (with_reducible apply Keeps.ite)
    | (with_reducible apply Keeps.foldl)
    | intro _
    | split
    | dsimp only

theorem kp_execCpSelftestDone (p : PairId) (pass : Bool) (s : State) : KeepsN 1671168 s (execCpSelftestDone p pass s) := by
  unfold execCpSelftestDone
  repeat' first
    | (with_reducible exact Keeps.refl)
    | (with_reducible apply Keeps.out)
    | (apply Keeps.next; (with_reducible apply kp_selftestDone); decide)
    | (with_reducible apply Keeps.ite)
    | (with_reducible apply Keeps.foldl)
    | intro _
    | split
    | dsimp only

theorem kp_execCpSyncCopyDone (p : PairId) (s : State) : KeepsN 65584 s (execCpSyncCopyDone p s) := by
  unfold execCpSyncCopyDone
  repeat' first
    | (with_reducible exact Keeps.refl)
    | (with_reducible apply Keeps.out)
    | (apply Keeps.next; (with_reducible apply kp_syncCopied); decide)
    | (with_reducible apply Keeps.ite)
    | (with_reducible apply Keeps.foldl)
    | intro _
    | split
    | dsimp only

theorem kp_execCpStandbyEnter (p : PairId) (s : State) : KeepsN 1671168 s (execCpStandbyEnter p s) := by
  unfold execCpStandbyEnter
  repeat' first
    | (with_reducible exact Keeps.refl)
    | (with_reducible apply Keeps.out)
    | (apply Keeps.next; (with_reducible apply kp_standbyEnter); decide)
    | (with_reducible apply Keeps.ite)
    | (with_reducible apply Keeps.foldl)
    | intro _
    | split
    | dsimp only

theorem kp_execCpCmdTakeover (m : Master) (s : State) : KeepsN 65792 s (execCpCmdTakeover m s) := by
  unfold execCpCmdTakeover
  repeat' first
    | (with_reducible exact Keeps.refl)
    | (with_reducible apply Keeps.out)
    | (apply Keeps.next; (with_reducible apply kp_cmdTakeover); decide)
    | (with_reducible apply Keeps.access; decide)
    | (with_reducible apply Keeps.ite)
    | (with_reducible apply Keeps.foldl)
    | intro _
    | split
    | dsimp only

theorem kp_execRejoinCmd (m : Master) (p : PairId) (s : State) : KeepsN 594224 s (execRejoinCmd m p s) := by
  unfold execRejoinCmd
  repeat' first
    | (with_reducible exact Keeps.refl)
    | (with_reducible apply Keeps.out)
    | (apply Keeps.next; (with_reducible apply kp_rejoinCmd); decide)
    | (with_reducible apply Keeps.access; decide)
    | (with_reducible apply Keeps.ite)
    | (with_reducible apply Keeps.foldl)
    | intro _
    | split
    | dsimp only

theorem kp_execCpMirrorWrite (m : Master) (base : Nat) (size : Nat) (s : State) : KeepsN 256 s (execCpMirrorWrite m base size s) := by
  unfold execCpMirrorWrite
  repeat' first
    | (with_reducible exact Keeps.refl)
    | (with_reducible apply Keeps.out)
    | (with_reducible apply Keeps.wr)
    | (with_reducible apply Keeps.access; decide)
    | (with_reducible apply Keeps.ite)
    | (with_reducible apply Keeps.foldl)
    | intro _
    | split
    | dsimp only

theorem kp_execClrFence (m : Master) (s : State) : KeepsN 256 s (execClrFence m s) := by
  unfold execClrFence
  repeat' first
    | (with_reducible exact Keeps.refl)
    | (with_reducible apply Keeps.out)
    | (with_reducible apply Keeps.wr)
    | (with_reducible apply Keeps.accessCrOnly; decide)
    | (with_reducible apply Keeps.ite)
    | (with_reducible apply Keeps.foldl)
    | intro _
    | split
    | dsimp only

theorem kp_execClrSuppress (m : Master) (s : State) : KeepsN 256 s (execClrSuppress m s) := by
  unfold execClrSuppress
  repeat' first
    | (with_reducible exact Keeps.refl)
    | (with_reducible apply Keeps.out)
    | (with_reducible apply Keeps.wr)
    | (with_reducible apply Keeps.accessCrOnly; decide)
    | (with_reducible apply Keeps.ite)
    | (with_reducible apply Keeps.foldl)
    | intro _
    | split
    | dsimp only

theorem kp_execClrEcc (m : Master) (s : State) : KeepsN 256 s (execClrEcc m s) := by
  unfold execClrEcc
  repeat' first
    | (with_reducible exact Keeps.refl)
    | (with_reducible apply Keeps.out)
    | (with_reducible apply Keeps.wr)
    | (with_reducible apply Keeps.accessCrOnly; decide)
    | (with_reducible apply Keeps.ite)
    | (with_reducible apply Keeps.foldl)
    | intro _
    | split
    | dsimp only

end Sys2Proof.Machine
end

