-- ==== Sys2Proof/Laws/KeepsLoopEngine.lean ====
section
/-! SUPPORT. Laws/KeepsLoopEngine.lean: what each operation of Machine/LoopEngine.lean keeps. -/

set_option Elab.async false

set_option linter.unusedTactic false
set_option linter.unusedSimpArgs false
set_option linter.unreachableTactic false

namespace Sys2Proof.Machine

theorem kp_setLe (s : State) (e : Nat) (v : LeSt) : Keeps 262144 s (State.setLe s e v) := by
  unfold State.setLe
  repeat' first
    | (with_reducible exact Keeps.refl)
    | (with_reducible apply Keeps.atBuilt; refine Keeps.upd ?_)
    | (simp only [Keeps.built])
    | (with_reducible apply Keeps.ite)
    | (with_reducible apply Keeps.foldl)
    | intro _
    | split
    | dsimp only

theorem kp_coverUpdate (s : State) (y : Nat) : Keeps 262144 s (State.coverUpdate s y) := by
  unfold State.coverUpdate
  repeat' first
    | (with_reducible exact Keeps.refl)
    | (with_reducible apply Keeps.wr)
    | (apply Keeps.next; (with_reducible apply kp_setLe); decide)
    | (with_reducible apply Keeps.ite)
    | (with_reducible apply Keeps.foldl)
    | intro _
    | split
    | dsimp only

theorem kp_leClear (s : State) (e : Nat) : Keeps 270336 s (State.leClear s e) := by
  unfold State.leClear
  repeat' first
    | (with_reducible exact Keeps.refl)
    | (with_reducible apply Keeps.atBuilt; refine Keeps.upd ?_)
    | (simp only [Keeps.built])
    | (with_reducible apply Keeps.wr)
    | (apply Keeps.next; (with_reducible apply kp_setLe); decide)
    | (with_reducible apply Keeps.clearRegs)
    | (with_reducible apply Keeps.ite)
    | (with_reducible apply Keeps.foldl)
    | intro _
    | split
    | dsimp only

theorem kp_leTest (s : State) (e : Nat) : Keeps 270336 s (State.leTest s e) := by
  unfold State.leTest
  repeat' first
    | (with_reducible exact Keeps.refl)
    | (with_reducible apply Keeps.wr)
    | (apply Keeps.next; (with_reducible apply kp_coverUpdate); decide)
    | (apply Keeps.next; (with_reducible apply kp_leClear); decide)
    | (with_reducible apply Keeps.ite)
    | (with_reducible apply Keeps.foldl)
    | intro _
    | split
    | dsimp only

theorem kp_leEnable (s : State) (e : Nat) : Keeps 270336 s (State.leEnable s e) := by
  unfold State.leEnable
  repeat' first
    | (with_reducible exact Keeps.refl)
    | (with_reducible apply Keeps.wr)
    | (apply Keeps.next; (with_reducible apply kp_leTest); decide)
    | (with_reducible apply Keeps.ite)
    | (with_reducible apply Keeps.foldl)
    | intro _
    | split
    | dsimp only

theorem kp_leDisable (s : State) (e : Nat) : Keeps 262144 s (State.leDisable s e) := by
  unfold State.leDisable
  repeat' first
    | (with_reducible exact Keeps.refl)
    | (with_reducible apply Keeps.wr)
    | (apply Keeps.next; (with_reducible apply kp_setLe); decide)
    | (apply Keeps.next; (with_reducible apply kp_coverUpdate); decide)
    | (with_reducible apply Keeps.ite)
    | (with_reducible apply Keeps.foldl)
    | intro _
    | split
    | dsimp only

theorem kp_putLimit (s : State) (e : Nat) : Keeps 0 s (State.putLimit s e) := by
  unfold State.putLimit
  repeat' first
    | (with_reducible exact Keeps.refl)
    | (with_reducible apply Keeps.wr)
    | (with_reducible apply Keeps.ite)
    | (with_reducible apply Keeps.foldl)
    | intro _
    | split
    | dsimp only

theorem kp_leCheck (s : State) (e : Nat) : Keeps 1409024 s (State.leCheck s e) := by
  unfold State.leCheck
  repeat' first
    | (with_reducible exact Keeps.refl)
    | (with_reducible apply Keeps.wr)
    | (apply Keeps.next; (with_reducible apply kp_putLimit); decide)
    | (apply Keeps.next; (with_reducible apply kp_setLe); decide)
    | (apply Keeps.next; (with_reducible apply kp_raise); decide)
    | (with_reducible apply Keeps.ite)
    | (with_reducible apply Keeps.foldl)
    | intro _
    | split
    | dsimp only

theorem kp_leReturn (s : State) (x : Nat) : Keeps 262144 s (State.leReturn s x) := by
  unfold State.leReturn
  repeat' first
    | (with_reducible exact Keeps.refl)
    | (apply Keeps.next; (with_reducible apply kp_setLe); decide)
    | (with_reducible apply Keeps.ite)
    | (with_reducible apply Keeps.foldl)
    | intro _
    | split
    | dsimp only

theorem kp_leCntClr (s : State) (e : Nat) (mask : Nat) : Keeps 0 s (State.leCntClr s e mask) := by
  unfold State.leCntClr
  repeat' first
    | (with_reducible exact Keeps.refl)
    | (with_reducible apply Keeps.wr)
    | (with_reducible apply Keeps.when)
    | (with_reducible apply Keeps.ite)
    | (with_reducible apply Keeps.foldl)
    | intro _
    | split
    | dsimp only

theorem kp_setCap (s : State) (e : Nat) (c : Nat) (v : LeCap) : Keeps 262144 s (State.setCap s e c v) := by
  unfold State.setCap
  repeat' first
    | (with_reducible exact Keeps.refl)
    | (apply Keeps.next; (with_reducible apply kp_setLe); decide)
    | (with_reducible apply Keeps.ite)
    | (with_reducible apply Keeps.foldl)
    | intro _
    | split
    | dsimp only

theorem kp_injWrite (s : State) (e : Nat) (i : Nat) (arm : Bool) (frames : Nat) : Keeps 262144 s (State.injWrite s e i arm frames) := by
  unfold State.injWrite
  repeat' first
    | (with_reducible exact Keeps.refl)
    | (with_reducible apply Keeps.wr)
    | (apply Keeps.next; (with_reducible apply kp_setLe); decide)
    | (with_reducible apply Keeps.ite)
    | (with_reducible apply Keeps.foldl)
    | intro _
    | split
    | dsimp only

theorem kp_setLeInactive (s : State) (e : Nat) (m : Le.Img) : Keeps 262144 s (State.setLeInactive s e m) := by
  unfold State.setLeInactive
  repeat' first
    | (with_reducible exact Keeps.refl)
    | (apply Keeps.next; (with_reducible apply kp_setLe); decide)
    | (with_reducible apply Keeps.ite)
    | (with_reducible apply Keeps.foldl)
    | intro _
    | split
    | dsimp only

theorem kp_imgInactWrite (s : State) (e : Nat) (index : Nat) (value : Nat) : Keeps 262144 s (State.imgInactWrite s e index value) := by
  unfold State.imgInactWrite
  repeat' first
    | (with_reducible exact Keeps.refl)
    | (apply Keeps.next; (with_reducible apply kp_setLeInactive); decide)
    | (with_reducible apply Keeps.ite)
    | (with_reducible apply Keeps.foldl)
    | intro _
    | split
    | dsimp only

theorem kp_burstArm (s : State) (slot : Nat) (o : OrbOp) : Keeps 294912 s (State.burstArm s slot o) := by
  unfold State.burstArm
  repeat' first
    | (with_reducible exact Keeps.refl)
    | (apply Keeps.next; (with_reducible apply kp_setCap); decide)
    | (apply Keeps.next; (with_reducible apply kp_retire); decide)
    | (with_reducible apply Keeps.ite)
    | (with_reducible apply Keeps.foldl)
    | intro _
    | split
    | dsimp only

theorem kp_capWords (s : State) (a : Nat) (ws : List Nat) : Keeps 8 s (State.capWords s a ws) := by
  unfold State.capWords
  repeat' first
    | (with_reducible exact Keeps.refl)
    | (with_reducible apply Keeps.atBuilt; refine Keeps.upd ?_)
    | (simp only [Keeps.built])
    | (with_reducible apply Keeps.ite)
    | (with_reducible apply Keeps.foldl)
    | intro _
    | split
    | dsimp only

theorem kp_capTruncate (s : State) (e : Nat) (c : Nat) : Keeps 262152 s (State.capTruncate s e c) := by
  unfold State.capTruncate
  repeat' first
    | (with_reducible exact Keeps.refl)
    | (apply Keeps.next; (with_reducible apply kp_setCap); decide)
    | (apply Keeps.next; (with_reducible apply kp_capWords); decide)
    | (with_reducible apply Keeps.ite)
    | (with_reducible apply Keeps.foldl)
    | intro _
    | split
    | dsimp only

theorem kp_capSample (s : State) (e : Nat) (c : Nat) (vals : List Nat) : Keeps 262152 s (State.capSample s e c vals) := by
  unfold State.capSample
  repeat' first
    | (with_reducible exact Keeps.refl)
    | (apply Keeps.next; (with_reducible apply kp_capWords); decide)
    | (apply Keeps.next; (with_reducible apply kp_setCap); decide)
    | (with_reducible apply Keeps.when)
    | (with_reducible apply Keeps.ite)
    | (with_reducible apply Keeps.foldl)
    | intro _
    | split
    | dsimp only

theorem kp_burstSample (s : State) (e : Nat) (c : Nat) : Keeps 294920 s (State.burstSample s e c) := by
  unfold State.burstSample
  repeat' first
    | (with_reducible exact Keeps.refl)
    | (apply Keeps.next; (with_reducible apply kp_retire); decide)
    | (apply Keeps.next; (with_reducible apply kp_capTruncate); decide)
    | (apply Keeps.next; (with_reducible apply kp_capSample); decide)
    | (apply Keeps.next; (with_reducible apply kp_setCap); decide)
    | (with_reducible apply Keeps.ite)
    | (with_reducible apply Keeps.foldl)
    | intro _
    | split
    | dsimp only

theorem kp_leBudgetCheck (s : State) (e : Nat) : Keeps 1146880 s (State.leBudgetCheck s e) := by
  unfold State.leBudgetCheck
  repeat' first
    | (with_reducible exact Keeps.refl)
    | (apply Keeps.next; (with_reducible apply kp_putLimit); decide)
    | (apply Keeps.next; (with_reducible apply kp_flagRaise); decide)
    | (with_reducible apply Keeps.when)
    | (with_reducible apply Keeps.ite)
    | (with_reducible apply Keeps.foldl)
    | intro _
    | split
    | dsimp only

theorem kp_coverFailover (s : State) (y : Nat) : Keeps 1409024 s (State.coverFailover s y) := by
  unfold State.coverFailover
  repeat' first
    | (with_reducible exact Keeps.refl)
    | (apply Keeps.next; (with_reducible apply kp_setLe); decide)
    | (apply Keeps.next; (with_reducible apply kp_flagRaise); decide)
    | (with_reducible apply Keeps.ite)
    | (with_reducible apply Keeps.foldl)
    | intro _
    | split
    | dsimp only

theorem kp_setLeActive (s : State) (e : Nat) (m : Le.Img) : Keeps 262144 s (State.setLeActive s e m) := by
  unfold State.setLeActive
  repeat' first
    | (with_reducible exact Keeps.refl)
    | (apply Keeps.next; (with_reducible apply kp_setLe); decide)
    | (with_reducible apply Keeps.ite)
    | (with_reducible apply Keeps.foldl)
    | intro _
    | split
    | dsimp only

theorem kp_leWords (s : State) (e : Nat) (x : Nat) (ws : List (Nat × Nat)) : Keeps 262144 s (State.leWords s e x ws) := by
  unfold State.leWords
  repeat' first
    | (with_reducible exact Keeps.refl)
    | (apply Keeps.next; (with_reducible apply kp_setLeActive); decide)
    | (apply Keeps.next; (with_reducible apply kp_setLe); decide)
    | (with_reducible apply Keeps.when)
    | (with_reducible apply Keeps.ite)
    | (with_reducible apply Keeps.foldl)
    | intro _
    | split
    | dsimp only

theorem kp_leBoundaryOf (s : State) (e : Nat) : Keeps 262152 s (State.leBoundaryOf s e) := by
  unfold State.leBoundaryOf
  repeat' first
    | (with_reducible exact Keeps.refl)
    | (with_reducible apply Keeps.wr)
    | (apply Keeps.next; (with_reducible apply kp_setLe); decide)
    | (apply Keeps.next; (with_reducible apply kp_leWords); decide)
    | (apply Keeps.next; (with_reducible apply kp_capTruncate); decide)
    | (apply Keeps.next; (with_reducible apply kp_addSat); decide)
    | (with_reducible apply Keeps.forEach)
    | (with_reducible apply Keeps.ite)
    | (with_reducible apply Keeps.foldl)
    | intro _
    | split
    | dsimp only

theorem kp_leBoundary (s : State) : Keeps 262152 s (State.leBoundary s) := by
  unfold State.leBoundary
  repeat' first
    | (with_reducible exact Keeps.refl)
    | (apply Keeps.next; (with_reducible apply kp_leBoundaryOf); decide)
    | (with_reducible apply Keeps.ite)
    | (with_reducible apply Keeps.foldl)
    | intro _
    | split
    | dsimp only

theorem kp_handOver (s : State) (e : Nat) (hs : List (Nat × Nat)) : Keeps 262144 s (State.handOver s e hs) := by
  unfold State.handOver
  repeat' first
    | (with_reducible exact Keeps.refl)
    | (with_reducible apply Keeps.wr)
    | (apply Keeps.next; (with_reducible apply kp_setLe); decide)
    | (with_reducible apply Keeps.forEach)
    | (with_reducible apply Keeps.ite)
    | (with_reducible apply Keeps.foldl)
    | intro _
    | split
    | dsimp only

theorem kp_injEnd (s : State) (e : Nat) (i : Nat) : Keeps 0 s (State.injEnd s e i) := by
  unfold State.injEnd
  repeat' first
    | (with_reducible exact Keeps.refl)
    | (with_reducible apply Keeps.wr)
    | (with_reducible apply Keeps.ite)
    | (with_reducible apply Keeps.foldl)
    | intro _
    | split
    | dsimp only

theorem kp_jobBad (s : State) (x : Nat) (slot : Nat) : Keeps 32768 s (State.jobBad s x slot) := by
  unfold State.jobBad
  repeat' first
    | (with_reducible exact Keeps.refl)
    | (with_reducible apply Keeps.wr)
    | (apply Keeps.next; (with_reducible apply kp_retire); decide)
    | (with_reducible apply Keeps.ite)
    | (with_reducible apply Keeps.foldl)
    | intro _
    | split
    | dsimp only

theorem kp_leNumeric (s : State) (e : Nat) (n : Nat) : Keeps 1146880 s (State.leNumeric s e n) := by
  unfold State.leNumeric
  repeat' first
    | (with_reducible exact Keeps.refl)
    | (apply Keeps.next; (with_reducible apply kp_incSat); decide)
    | (apply Keeps.next; (with_reducible apply kp_flagRaise); decide)
    | (with_reducible apply Keeps.forEach)
    | (with_reducible apply Keeps.ite)
    | (with_reducible apply Keeps.foldl)
    | intro _
    | split
    | dsimp only

theorem kp_leMarks (s : State) (x : Nat) (r : LeRun) (a : State.LeResult) : Keeps 262144 s (State.leMarks s x r a) := by
  unfold State.leMarks
  repeat' first
    | (with_reducible exact Keeps.refl)
    | (apply Keeps.next; (with_reducible apply kp_setLe); decide)
    | (with_reducible apply Keeps.ite)
    | (with_reducible apply Keeps.foldl)
    | intro _
    | split
    | dsimp only

theorem kp_writeOutputs (s : State) (x : Nat) (outs : List (Nat × Nat × Nat × Nat)) (commit : Bool) : Keeps 1286144 s (State.writeOutputs s x outs commit) := by
  unfold State.writeOutputs
  repeat' first
    | (with_reducible exact Keeps.refl)
    | (with_reducible apply Keeps.wr)
    | (apply Keeps.next; (with_reducible apply kp_pairShadowWrite); decide)
    | (apply Keeps.next; (with_reducible apply kp_pwmCommit); decide)
    | (with_reducible apply Keeps.when)
    | (with_reducible apply Keeps.forEach)
    | (with_reducible apply Keeps.ite)
    | (with_reducible apply Keeps.foldl)
    | intro _
    | split
    | dsimp only

theorem kp_loadInputs (s : State) (e : Nat) (x : Nat) (job : Nat) (img : Le.Img) : KeepsP 0 s (State.loadInputs s e x job img) := by
  unfold State.loadInputs
  repeat' first
    | (with_reducible exact Keeps.refl)
    | (with_reducible apply Keeps.wr)
    | (with_reducible apply Keeps.when)
    | (with_reducible apply Keeps.ite)
    | (with_reducible apply Keeps.iteP)
    | (with_reducible exact Keeps.reflP)
    | (simp only [Keeps.pair_eq])
    | (with_reducible apply Keeps.snd)
    | (apply Keeps.of_pair; assumption)
    | (with_reducible apply Keeps.foldlP)
    | (with_reducible apply Keeps.foldl)
    | intro _
    | split
    | dsimp only

theorem kp_leStart (s : State) (e : Nat) (j : LeJob) : Keeps 262144 s (State.leStart s e j) := by
  unfold State.leStart
  repeat' first
    | (with_reducible exact Keeps.refl)
    | (with_reducible apply Keeps.wr)
    | (apply Keeps.nextP; (with_reducible apply kp_loadInputs); decide)
    | (apply Keeps.next; (with_reducible apply kp_setLe); decide)
    | (with_reducible apply Keeps.ite)
    | (with_reducible exact Keeps.reflP)
    | (simp only [Keeps.pair_eq])
    | (with_reducible apply Keeps.snd)
    | (apply Keeps.of_pair; assumption)
    | (with_reducible apply Keeps.iteP)
    | (with_reducible apply Keeps.foldlP)
    | (with_reducible apply Keeps.foldl)
    | intro _
    | split
    | dsimp only

theorem kp_leNext (s : State) (e : Nat) : Keeps 262144 s (State.leNext s e) := by
  unfold State.leNext
  repeat' first
    | (with_reducible exact Keeps.refl)
    | (with_reducible apply Keeps.wr)
    | (apply Keeps.next; (with_reducible apply kp_leStart); decide)
    | (apply Keeps.next; (with_reducible apply kp_setLe); decide)
    | (with_reducible apply Keeps.ite)
    | (with_reducible apply Keeps.foldl)
    | intro _
    | split
    | dsimp only

theorem kp_leEnd (s : State) (e : Nat) (r : LeRun) : Keeps 1548296 s (State.leEnd s e r) := by
  unfold State.leEnd
  repeat' first
    | (with_reducible exact Keeps.refl)
    | (with_reducible apply Keeps.wr)
    | (apply Keeps.next; (with_reducible apply kp_leNumeric); decide)
    | (apply Keeps.next; (with_reducible apply kp_handOver); decide)
    | (apply Keeps.next; (with_reducible apply kp_leWords); decide)
    | (apply Keeps.next; (with_reducible apply kp_leMarks); decide)
    | (apply Keeps.next; (with_reducible apply kp_capSample); decide)
    | (apply Keeps.next; (with_reducible apply kp_raise); decide)
    | (apply Keeps.next; (with_reducible apply kp_setLe); decide)
    | (apply Keeps.next; (with_reducible apply kp_retire); decide)
    | (apply Keeps.next; (with_reducible apply kp_writeOutputs); decide)
    | (apply Keeps.next; (with_reducible apply kp_leNext); decide)
    | (with_reducible apply Keeps.when)
    | (with_reducible apply Keeps.forEach)
    | (with_reducible apply Keeps.ite)
    | (with_reducible apply Keeps.foldl)
    | intro _
    | split
    | dsimp only

theorem kp_leFault (s : State) (e : Nat) (k : LeFaultKind) : Keeps 1409024 s (State.leFault s e k) := by
  unfold State.leFault
  repeat' first
    | (with_reducible exact Keeps.refl)
    | (with_reducible apply Keeps.wr)
    | (apply Keeps.next; (with_reducible apply kp_setLe); decide)
    | (apply Keeps.next; (with_reducible apply kp_leWords); decide)
    | (apply Keeps.next; (with_reducible apply kp_raise); decide)
    | (apply Keeps.next; (with_reducible apply kp_wantOrderly); decide)
    | (with_reducible apply Keeps.forEach)
    | (with_reducible apply Keeps.ite)
    | (with_reducible apply Keeps.foldl)
    | intro _
    | split
    | dsimp only

theorem kp_leIssue (s : State) (slot : Nat) (o : OrbOp) : Keeps 294912 s (State.leIssue s slot o) := by
  unfold State.leIssue
  repeat' first
    | (with_reducible exact Keeps.refl)
    | (apply Keeps.next; (with_reducible apply kp_jobBad); decide)
    | (apply Keeps.next; (with_reducible apply kp_leNext); decide)
    | (apply Keeps.next; (with_reducible apply kp_setLe); decide)
    | (with_reducible apply Keeps.ite)
    | (with_reducible apply Keeps.foldl)
    | intro _
    | split
    | dsimp only

theorem kp_leMissed (s : State) (e : Nat) : Keeps 1409024 s (State.leMissed s e) := by
  unfold State.leMissed
  repeat' first
    | (with_reducible exact Keeps.refl)
    | (apply Keeps.next; (with_reducible apply kp_setLe); decide)
    | (apply Keeps.next; (with_reducible apply kp_incSat); decide)
    | (apply Keeps.next; (with_reducible apply kp_flagRaise); decide)
    | (apply Keeps.next; (with_reducible apply kp_leNext); decide)
    | (apply Keeps.next; (with_reducible apply kp_retire); decide)
    | (with_reducible apply Keeps.ite)
    | (with_reducible apply Keeps.foldl)
    | intro _
    | split
    | dsimp only

theorem kp_lePhaseWrite (s : State) (e : Nat) (slot : Nat) : Keeps 1548288 s (State.lePhaseWrite s e slot) := by
  unfold State.lePhaseWrite
  repeat' first
    | (with_reducible exact Keeps.refl)
    | (apply Keeps.next; (with_reducible apply kp_setLe); decide)
    | (apply Keeps.next; (with_reducible apply kp_retire); decide)
    | (apply Keeps.next; (with_reducible apply kp_writeOutputs); decide)
    | (with_reducible apply Keeps.ite)
    | (with_reducible apply Keeps.foldl)
    | intro _
    | split
    | dsimp only

theorem kp_leReturnApply (s : State) (x : Nat) : Keeps 1409024 s (State.leReturnApply s x) := by
  unfold State.leReturnApply
  repeat' first
    | (with_reducible exact Keeps.refl)
    | (with_reducible apply Keeps.wr)
    | (apply Keeps.next; (with_reducible apply kp_setLe); decide)
    | (apply Keeps.next; (with_reducible apply kp_raise); decide)
    | (apply Keeps.next; (with_reducible apply kp_coverUpdate); decide)
    | (with_reducible apply Keeps.ite)
    | (with_reducible apply Keeps.foldl)
    | intro _
    | split
    | dsimp only

theorem kp_leSwitch (s : State) (e : Nat) : Keeps 1417216 s (State.leSwitch s e) := by
  unfold State.leSwitch
  repeat' first
    | (with_reducible exact Keeps.refl)
    | (with_reducible apply Keeps.atBuilt; refine Keeps.upd ?_)
    | (simp only [Keeps.built])
    | (with_reducible apply Keeps.wr)
    | (apply Keeps.next; (with_reducible apply kp_setLe); decide)
    | (apply Keeps.next; (with_reducible apply kp_raise); decide)
    | (apply Keeps.next; (with_reducible apply kp_coverUpdate); decide)
    | (with_reducible apply Keeps.forEach)
    | (with_reducible apply Keeps.ite)
    | (with_reducible apply Keeps.foldl)
    | intro _
    | split
    | dsimp only

theorem kp_leTestDone (s : State) (e : Nat) (pass : Bool) : Keeps 1146880 s (State.leTestDone s e pass) := by
  unfold State.leTestDone
  repeat' first
    | (with_reducible exact Keeps.refl)
    | (with_reducible apply Keeps.wr)
    | (apply Keeps.next; (with_reducible apply kp_raise); decide)
    | (with_reducible apply Keeps.ite)
    | (with_reducible apply Keeps.foldl)
    | intro _
    | split
    | dsimp only

theorem kp_takeoverMark (s : State) (e : Nat) : Keeps 262144 s (State.takeoverMark s e) := by
  unfold State.takeoverMark
  repeat' first
    | (with_reducible exact Keeps.refl)
    | (apply Keeps.next; (with_reducible apply kp_setLe); decide)
    | (with_reducible apply Keeps.ite)
    | (with_reducible apply Keeps.foldl)
    | intro _
    | split
    | dsimp only

theorem kp_execLeJobStart (slot : Nat) (s : State) : KeepsN 294912 s (execLeJobStart slot s) := by
  unfold execLeJobStart
  repeat' first
    | (with_reducible exact Keeps.refl)
    | (with_reducible apply Keeps.out)
    | (apply Keeps.next; (with_reducible apply kp_leIssue); decide)
    | (with_reducible apply Keeps.ite)
    | (with_reducible apply Keeps.foldl)
    | intro _
    | split
    | dsimp only

theorem kp_execLeJobEnd (e : Nat) (s : State) : KeepsN 1548296 s (execLeJobEnd e s) := by
  unfold execLeJobEnd
  repeat' first
    | (with_reducible exact Keeps.refl)
    | (with_reducible apply Keeps.out)
    | (apply Keeps.next; (with_reducible apply kp_leEnd); decide)
    | (with_reducible apply Keeps.ite)
    | (with_reducible apply Keeps.foldl)
    | intro _
    | split
    | dsimp only

theorem kp_execLePhaseWrite (e : Nat) (slot : Nat) (s : State) : KeepsN 1548288 s (execLePhaseWrite e slot s) := by
  unfold execLePhaseWrite
  repeat' first
    | (with_reducible exact Keeps.refl)
    | (with_reducible apply Keeps.out)
    | (apply Keeps.next; (with_reducible apply kp_lePhaseWrite); decide)
    | (with_reducible apply Keeps.ite)
    | (with_reducible apply Keeps.foldl)
    | intro _
    | split
    | dsimp only

theorem kp_execLeMissedWrite (e : Nat) (s : State) : KeepsN 1409024 s (execLeMissedWrite e s) := by
  unfold execLeMissedWrite
  repeat' first
    | (with_reducible exact Keeps.refl)
    | (with_reducible apply Keeps.out)
    | (apply Keeps.next; (with_reducible apply kp_leMissed); decide)
    | (with_reducible apply Keeps.ite)
    | (with_reducible apply Keeps.foldl)
    | intro _
    | split
    | dsimp only

theorem kp_execLeOverrunFault (e : Nat) (s : State) : KeepsN 1409024 s (execLeOverrunFault e s) := by
  unfold execLeOverrunFault
  repeat' first
    | (with_reducible exact Keeps.refl)
    | (with_reducible apply Keeps.out)
    | (apply Keeps.next; (with_reducible apply kp_leFault); decide)
    | (with_reducible apply Keeps.ite)
    | (with_reducible apply Keeps.foldl)
    | intro _
    | split
    | dsimp only

theorem kp_execLeFault (e : Nat) (kind : LeFaultKind) (s : State) : KeepsN 1409024 s (execLeFault e kind s) := by
  unfold execLeFault
  repeat' first
    | (with_reducible exact Keeps.refl)
    | (with_reducible apply Keeps.out)
    | (apply Keeps.next; (with_reducible apply kp_leFault); decide)
    | (with_reducible apply Keeps.ite)
    | (with_reducible apply Keeps.foldl)
    | intro _
    | split
    | dsimp only

theorem kp_execLeCoverFailover (y : Nat) (s : State) : KeepsN 1409024 s (execLeCoverFailover y s) := by
  unfold execLeCoverFailover
  repeat' first
    | (with_reducible exact Keeps.refl)
    | (with_reducible apply Keeps.out)
    | (apply Keeps.next; (with_reducible apply kp_coverFailover); decide)
    | (with_reducible apply Keeps.ite)
    | (with_reducible apply Keeps.foldl)
    | intro _
    | split
    | dsimp only

theorem kp_execLeCmdSwap (m : Master) (e : Nat) (s : State) : KeepsN 1409280 s (execLeCmdSwap m e s) := by
  unfold execLeCmdSwap
  repeat' first
    | (with_reducible exact Keeps.refl)
    | (with_reducible apply Keeps.out)
    | (apply Keeps.next; (with_reducible apply kp_leCheck); decide)
    | (with_reducible apply Keeps.access; decide)
    | (with_reducible apply Keeps.ite)
    | (with_reducible apply Keeps.foldl)
    | intro _
    | split
    | dsimp only

theorem kp_execLeBankSwitch (e : Nat) (s : State) : KeepsN 1417216 s (execLeBankSwitch e s) := by
  unfold execLeBankSwitch
  repeat' first
    | (with_reducible exact Keeps.refl)
    | (with_reducible apply Keeps.out)
    | (apply Keeps.next; (with_reducible apply kp_leSwitch); decide)
    | (with_reducible apply Keeps.ite)
    | (with_reducible apply Keeps.foldl)
    | intro _
    | split
    | dsimp only

theorem kp_execLeEnable (m : Master) (e : Nat) (s : State) : KeepsN 270592 s (execLeEnable m e s) := by
  unfold execLeEnable
  repeat' first
    | (with_reducible exact Keeps.refl)
    | (with_reducible apply Keeps.out)
    | (apply Keeps.next; (with_reducible apply kp_leEnable); decide)
    | (with_reducible apply Keeps.access; decide)
    | (with_reducible apply Keeps.ite)
    | (with_reducible apply Keeps.foldl)
    | intro _
    | split
    | dsimp only

theorem kp_execLeDisable (m : Master) (e : Nat) (s : State) : KeepsN 262400 s (execLeDisable m e s) := by
  unfold execLeDisable
  repeat' first
    | (with_reducible exact Keeps.refl)
    | (with_reducible apply Keeps.out)
    | (apply Keeps.next; (with_reducible apply kp_leDisable); decide)
    | (with_reducible apply Keeps.access; decide)
    | (with_reducible apply Keeps.ite)
    | (with_reducible apply Keeps.foldl)
    | intro _
    | split
    | dsimp only

theorem kp_execLeSelftestDone (e : Nat) (pass : Bool) (s : State) : KeepsN 1146880 s (execLeSelftestDone e pass s) := by
  unfold execLeSelftestDone
  repeat' first
    | (with_reducible exact Keeps.refl)
    | (with_reducible apply Keeps.out)
    | (apply Keeps.next; (with_reducible apply kp_leTestDone); decide)
    | (with_reducible apply Keeps.ite)
    | (with_reducible apply Keeps.foldl)
    | intro _
    | split
    | dsimp only

theorem kp_execLeSelftestCmd (m : Master) (e : Nat) (s : State) : KeepsN 270592 s (execLeSelftestCmd m e s) := by
  unfold execLeSelftestCmd
  repeat' first
    | (with_reducible exact Keeps.refl)
    | (with_reducible apply Keeps.out)
    | (apply Keeps.next; (with_reducible apply kp_leTest); decide)
    | (with_reducible apply Keeps.access; decide)
    | (with_reducible apply Keeps.ite)
    | (with_reducible apply Keeps.foldl)
    | intro _
    | split
    | dsimp only

theorem kp_execLeReturnCmd (m : Master) (e : Nat) (s : State) : KeepsN 262400 s (execLeReturnCmd m e s) := by
  unfold execLeReturnCmd
  repeat' first
    | (with_reducible exact Keeps.refl)
    | (with_reducible apply Keeps.out)
    | (apply Keeps.next; (with_reducible apply kp_leReturn); decide)
    | (with_reducible apply Keeps.access; decide)
    | (with_reducible apply Keeps.ite)
    | (with_reducible apply Keeps.foldl)
    | intro _
    | split
    | dsimp only

theorem kp_execLeReturnApply (e : Nat) (s : State) : KeepsN 1409024 s (execLeReturnApply e s) := by
  unfold execLeReturnApply
  repeat' first
    | (with_reducible exact Keeps.refl)
    | (with_reducible apply Keeps.out)
    | (apply Keeps.next; (with_reducible apply kp_leReturnApply); decide)
    | (with_reducible apply Keeps.ite)
    | (with_reducible apply Keeps.foldl)
    | intro _
    | split
    | dsimp only

theorem kp_execLeInjArm (m : Master) (e : Nat) (i : Nat) (arm : Bool) (frames : Nat) (s : State) : KeepsN 262400 s (execLeInjArm m e i arm frames s) := by
  unfold execLeInjArm
  repeat' first
    | (with_reducible exact Keeps.refl)
    | (with_reducible apply Keeps.out)
    | (apply Keeps.next; (with_reducible apply kp_injWrite); decide)
    | (with_reducible apply Keeps.access; decide)
    | (with_reducible apply Keeps.ite)
    | (with_reducible apply Keeps.foldl)
    | intro _
    | split
    | dsimp only

theorem kp_execLeInjEnd (e : Nat) (i : Nat) (s : State) : KeepsN 0 s (execLeInjEnd e i s) := by
  unfold execLeInjEnd
  repeat' first
    | (with_reducible exact Keeps.refl)
    | (with_reducible apply Keeps.out)
    | (apply Keeps.next; (with_reducible apply kp_injEnd); decide)
    | (with_reducible apply Keeps.ite)
    | (with_reducible apply Keeps.foldl)
    | intro _
    | split
    | dsimp only

theorem kp_execCaptureBurstArm (slot : Nat) (s : State) : KeepsN 294912 s (execCaptureBurstArm slot s) := by
  unfold execCaptureBurstArm
  repeat' first
    | (with_reducible exact Keeps.refl)
    | (with_reducible apply Keeps.out)
    | (apply Keeps.next; (with_reducible apply kp_burstArm); decide)
    | (with_reducible apply Keeps.ite)
    | (with_reducible apply Keeps.foldl)
    | intro _
    | split
    | dsimp only

theorem kp_execCaptureBurstSample (e : Nat) (c : Nat) (s : State) : KeepsN 294920 s (execCaptureBurstSample e c s) := by
  unfold execCaptureBurstSample
  repeat' first
    | (with_reducible exact Keeps.refl)
    | (with_reducible apply Keeps.out)
    | (apply Keeps.next; (with_reducible apply kp_burstSample); decide)
    | (with_reducible apply Keeps.ite)
    | (with_reducible apply Keeps.foldl)
    | intro _
    | split
    | dsimp only

theorem kp_execLeCntClr (m : Master) (e : Nat) (mask : Nat) (s : State) : KeepsN 256 s (execLeCntClr m e mask s) := by
  unfold execLeCntClr
  repeat' first
    | (with_reducible exact Keeps.refl)
    | (with_reducible apply Keeps.out)
    | (apply Keeps.next; (with_reducible apply kp_leCntClr); decide)
    | (with_reducible apply Keeps.access; decide)
    | (with_reducible apply Keeps.ite)
    | (with_reducible apply Keeps.foldl)
    | intro _
    | split
    | dsimp only

theorem kp_execLeImgInactWrite (m : Master) (e : Nat) (index : Nat) (value : Nat) (s : State) : KeepsN 262400 s (execLeImgInactWrite m e index value s) := by
  unfold execLeImgInactWrite
  repeat' first
    | (with_reducible exact Keeps.refl)
    | (with_reducible apply Keeps.out)
    | (apply Keeps.next; (with_reducible apply kp_imgInactWrite); decide)
    | (with_reducible apply Keeps.access; decide)
    | (with_reducible apply Keeps.ite)
    | (with_reducible apply Keeps.foldl)
    | intro _
    | split
    | dsimp only

end Sys2Proof.Machine
end

