-- ==== Sys2Proof/Laws/KeepsPerihelion.lean ====
section
/-! SUPPORT. Laws/KeepsPerihelion.lean: what each operation of Machine/Perihelion.lean keeps. -/

set_option Elab.async false

set_option linter.unusedTactic false
set_option linter.unusedSimpArgs false
set_option linter.unreachableTactic false

namespace Sys2Proof.Machine

theorem kp_peFree (s : State) (k : Nat) : KeepsP 4096 s (State.peFree s k) := by
  unfold State.peFree
  repeat' first
    | (with_reducible exact Keeps.refl)
    | (apply Keeps.nextP; (with_reducible apply kp_takeFree); decide)
    | (with_reducible apply Keeps.ite)
    | (with_reducible apply Keeps.iteP)
    | (with_reducible exact Keeps.reflP)
    | (simp only [Keeps.pair_eq])
    | (with_reducible apply Keeps.snd)
    | (apply Keeps.of_pair; assumption)
    | (with_reducible apply Keeps.foldlP)
    | (with_reducible apply Keeps.foldl)
    | intro _
    | split
    | dsimp only

theorem kp_pePut (s : State) (n : Nat) (word : Nat) (ws : List Nat) : Keeps 4 s (State.pePut s n word ws) := by
  unfold State.pePut
  repeat' first
    | (with_reducible exact Keeps.refl)
    | (with_reducible apply Keeps.atBuilt; refine Keeps.upd ?_)
    | (simp only [Keeps.built])
    | (with_reducible apply Keeps.ite)
    | (with_reducible apply Keeps.foldl)
    | intro _
    | split
    | dsimp only

theorem kp_pePutHeader (s : State) (n : Nat) (h : List Nat) : Keeps 4 s (State.pePutHeader s n h) := by
  unfold State.pePutHeader
  repeat' first
    | (with_reducible exact Keeps.refl)
    | (apply Keeps.next; (with_reducible apply kp_pePut); decide)
    | (with_reducible apply Keeps.ite)
    | (with_reducible apply Keeps.foldl)
    | intro _
    | split
    | dsimp only

theorem kp_setPeSweep (s : State) (w : Option PeSweep) : Keeps 67108864 s (State.setPeSweep s w) := by
  unfold State.setPeSweep
  repeat' first
    | (with_reducible exact Keeps.refl)
    | (with_reducible apply Keeps.atBuilt; refine Keeps.upd ?_)
    | (simp only [Keeps.built])
    | (with_reducible apply Keeps.ite)
    | (with_reducible apply Keeps.foldl)
    | intro _
    | split
    | dsimp only

theorem kp_peAbort (s : State) (st : Nat) : Keeps 68259844 s (State.peAbort s st) := by
  unfold State.peAbort
  repeat' first
    | (with_reducible exact Keeps.refl)
    | (with_reducible apply Keeps.wr)
    | (apply Keeps.nextP; (with_reducible apply kp_peFree); decide)
    | (apply Keeps.next; (with_reducible apply kp_pePutHeader); decide)
    | (apply Keeps.next; (with_reducible apply kp_setPeSweep); decide)
    | (apply Keeps.next; (with_reducible apply kp_raise); decide)
    | (with_reducible apply Keeps.ite)
    | (with_reducible exact Keeps.reflP)
    | (simp only [Keeps.pair_eq])
    | (with_reducible apply Keeps.snd)
    | (apply Keeps.of_pair; assumption)
    | (with_reducible apply Keeps.iteP)
    | (with_reducible apply Keeps.foldlP)
    | (with_reducible apply Keeps.foldl)
    | intro _
    | split
    | dsimp only

theorem kp_gsAct {c : Nat} {s t : State} {f : State → State} (hm : Keeps.within 101822468 c) (h : Keeps c s t) (hf : ∀ s, Keeps c s (f s)) :
    Keeps c s (State.gsAct t f) := by
  have hg : Keeps.within 34709504 101822468 := by decide
  have h1 : Keeps c s (State.gsThen t f) := kp_gsThen (Keeps.within_trans hg hm) h hf
  unfold State.gsAct
  dsimp only
  split
  · exact h1.trans ((kp_peAbort _ _).mono (Keeps.within_trans (by decide) hm))
  · exact h1

theorem kp_setPeChan (s : State) (n : Nat) (c : PeChan) : Keeps 67108864 s (State.setPeChan s n c) := by
  unfold State.setPeChan
  repeat' first
    | (with_reducible exact Keeps.refl)
    | (with_reducible apply Keeps.atBuilt; refine Keeps.upd ?_)
    | (simp only [Keeps.built])
    | (with_reducible apply Keeps.ite)
    | (with_reducible apply Keeps.foldl)
    | intro _
    | split
    | dsimp only

theorem kp_peLeave (s : State) (n : Nat) (st : Nat) : Keeps 68259844 s (State.peLeave s n st) := by
  unfold State.peLeave
  repeat' first
    | (with_reducible exact Keeps.refl)
    | (with_reducible apply Keeps.wr)
    | (apply Keeps.next; (with_reducible apply kp_peAbort); decide)
    | (apply Keeps.next; (with_reducible apply kp_clrB); decide)
    | (apply Keeps.next; (with_reducible apply kp_setPeChan); decide)
    | (with_reducible apply Keeps.ite)
    | (with_reducible apply Keeps.foldl)
    | intro _
    | split
    | dsimp only

theorem kp_peDisable (s : State) (n : Nat) : Keeps 68259844 s (State.peDisable s n) := by
  unfold State.peDisable
  repeat' first
    | (with_reducible exact Keeps.refl)
    | (apply Keeps.next; (with_reducible apply kp_clrB); decide)
    | (apply Keeps.next; (with_reducible apply kp_peLeave); decide)
    | (with_reducible apply Keeps.ite)
    | (with_reducible apply Keeps.foldl)
    | intro _
    | split
    | dsimp only

theorem kp_peEnable (s : State) (n : Nat) : Keeps 67108864 s (State.peEnable s n) := by
  unfold State.peEnable
  repeat' first
    | (with_reducible exact Keeps.refl)
    | (with_reducible apply Keeps.wr)
    | (apply Keeps.next; (with_reducible apply kp_setB); decide)
    | (apply Keeps.next; (with_reducible apply kp_setPeChan); decide)
    | (with_reducible apply Keeps.ite)
    | (with_reducible apply Keeps.foldl)
    | intro _
    | split
    | dsimp only

theorem kp_peRequest (s : State) (n : Nat) (cause : Nat) (holdoff : Bool) : Keeps 67108864 s (State.peRequest s n cause holdoff) := by
  unfold State.peRequest
  repeat' first
    | (with_reducible exact Keeps.refl)
    | (apply Keeps.next; (with_reducible apply kp_setB); decide)
    | (apply Keeps.next; (with_reducible apply kp_setPeChan); decide)
    | (with_reducible apply Keeps.ite)
    | (with_reducible apply Keeps.foldl)
    | intro _
    | split
    | dsimp only

theorem kp_peProfileLoaded (s : State) (ws : List Nat) : Keeps 67117056 s (State.peProfileLoaded s ws) := by
  unfold State.peProfileLoaded
  repeat' first
    | (with_reducible exact Keeps.refl)
    | (with_reducible apply Keeps.atBuilt; refine Keeps.upd ?_)
    | (simp only [Keeps.built])
    | (with_reducible apply Keeps.wr)
    | (with_reducible apply Keeps.ite)
    | (with_reducible apply Keeps.foldl)
    | intro _
    | split
    | dsimp only

theorem kp_orFree (s : State) (o : Option Nat) : KeepsP 4096 s (State.orFree s o) := by
  unfold State.orFree
  repeat' first
    | (with_reducible exact Keeps.refl)
    | (apply Keeps.nextP; (with_reducible apply kp_takeFree); decide)
    | (with_reducible apply Keeps.ite)
    | (with_reducible apply Keeps.iteP)
    | (with_reducible exact Keeps.reflP)
    | (simp only [Keeps.pair_eq])
    | (with_reducible apply Keeps.snd)
    | (apply Keeps.of_pair; assumption)
    | (with_reducible apply Keeps.foldlP)
    | (with_reducible apply Keeps.foldl)
    | intro _
    | split
    | dsimp only

theorem kp_peBlock (s : State) (n : Nat) : Keeps 68259844 s (State.peBlock s n) := by
  unfold State.peBlock
  repeat' first
    | (with_reducible exact Keeps.refl)
    | (apply Keeps.next; (with_reducible apply kp_raise); decide)
    | (apply Keeps.next; (with_reducible apply kp_peLeave); decide)
    | (with_reducible apply Keeps.ite)
    | (with_reducible apply Keeps.foldl)
    | intro _
    | split
    | dsimp only

theorem kp_peForget (s : State) (n : Nat) : Keeps 67108864 s (State.peForget s n) := by
  unfold State.peForget
  repeat' first
    | (with_reducible exact Keeps.refl)
    | (apply Keeps.next; (with_reducible apply kp_setPeChan); decide)
    | (with_reducible apply Keeps.ite)
    | (with_reducible apply Keeps.foldl)
    | intro _
    | split
    | dsimp only

theorem kp_peStart (s : State) (n : Nat) (vs : Nat) : Keeps 67108864 s (State.peStart s n vs) := by
  unfold State.peStart
  repeat' first
    | (with_reducible exact Keeps.refl)
    | (with_reducible apply Keeps.wr)
    | (apply Keeps.next; (with_reducible apply kp_peForget); decide)
    | (apply Keeps.next; (with_reducible apply kp_peRequest); decide)
    | (apply Keeps.next; (with_reducible apply kp_setPeChan); decide)
    | (with_reducible apply Keeps.ite)
    | (with_reducible apply Keeps.foldl)
    | intro _
    | split
    | dsimp only

theorem kp_peDrop (s : State) (n : Nat) (ps : Nat) : Keeps 67108864 s (State.peDrop s n ps) := by
  unfold State.peDrop
  repeat' first
    | (with_reducible exact Keeps.refl)
    | (apply Keeps.next; (with_reducible apply kp_setPeChan); decide)
    | (with_reducible apply Keeps.ite)
    | (with_reducible apply Keeps.foldl)
    | intro _
    | split
    | dsimp only

theorem kp_peEstimate (s : State) (n : Nat) (vs : Nat) (ps : Nat) : Keeps 0 s (State.peEstimate s n vs ps) := by
  unfold State.peEstimate
  repeat' first
    | (with_reducible exact Keeps.refl)
    | (with_reducible apply Keeps.wr)
    | (with_reducible apply Keeps.ite)
    | (with_reducible apply Keeps.foldl)
    | intro _
    | split
    | dsimp only

theorem kp_peTrackStep (s : State) (n : Nat) (vs : Nat) (is : Nat) (ps : Nat) : Keeps 67108864 s (State.peTrackStep s n vs is ps) := by
  unfold State.peTrackStep
  repeat' first
    | (with_reducible exact Keeps.refl)
    | (with_reducible apply Keeps.wr)
    | (apply Keeps.next; (with_reducible apply kp_setPeChan); decide)
    | (apply Keeps.next; (with_reducible apply kp_peEstimate); decide)
    | (with_reducible apply Keeps.when)
    | (with_reducible apply Keeps.ite)
    | (with_reducible apply Keeps.foldl)
    | intro _
    | split
    | dsimp only

theorem kp_peCurtailStep (s : State) (n : Nat) (ps : Nat) (pdc : Nat) (pav : Nat) : Keeps 0 s (State.peCurtailStep s n ps pdc pav) := by
  unfold State.peCurtailStep
  repeat' first
    | (with_reducible exact Keeps.refl)
    | (with_reducible apply Keeps.wr)
    | (with_reducible apply Keeps.ite)
    | (with_reducible apply Keeps.foldl)
    | intro _
    | split
    | dsimp only

theorem kp_peChanStep (s : State) (n : Nat) (pdc : Nat) (pav : Nat) : Keeps 67108864 s (State.peChanStep s n pdc pav) := by
  unfold State.peChanStep
  repeat' first
    | (with_reducible exact Keeps.refl)
    | (with_reducible apply Keeps.wr)
    | (apply Keeps.next; (with_reducible apply kp_setPeChan); decide)
    | (apply Keeps.next; (with_reducible apply kp_incSat); decide)
    | (apply Keeps.next; (with_reducible apply kp_peStart); decide)
    | (apply Keeps.next; (with_reducible apply kp_peDrop); decide)
    | (apply Keeps.next; (with_reducible apply kp_peTrackStep); decide)
    | (apply Keeps.next; (with_reducible apply kp_peCurtailStep); decide)
    | (with_reducible apply Keeps.when)
    | (with_reducible apply Keeps.ite)
    | (with_reducible apply Keeps.foldl)
    | intro _
    | split
    | dsimp only

theorem kp_peCurtRuns (s : State) (pdc : Nat) (pav : Nat) : Keeps 67108864 s (State.peCurtRuns s pdc pav) := by
  unfold State.peCurtRuns
  repeat' first
    | (with_reducible exact Keeps.refl)
    | (with_reducible apply Keeps.atBuilt; refine Keeps.upd ?_)
    | (simp only [Keeps.built])
    | (with_reducible apply Keeps.ite)
    | (with_reducible apply Keeps.foldl)
    | intro _
    | split
    | dsimp only

theorem kp_peCurtailEnter (s : State) : Keeps 1146880 s (State.peCurtailEnter s) := by
  unfold State.peCurtailEnter
  repeat' first
    | (with_reducible exact Keeps.refl)
    | (with_reducible apply Keeps.wr)
    | (apply Keeps.next; (with_reducible apply kp_raise); decide)
    | (with_reducible apply Keeps.forEach)
    | (with_reducible apply Keeps.ite)
    | (with_reducible apply Keeps.foldl)
    | intro _
    | split
    | dsimp only

theorem kp_peCurtailLeave (s : State) : Keeps 68255744 s (State.peCurtailLeave s) := by
  unfold State.peCurtailLeave
  repeat' first
    | (with_reducible exact Keeps.refl)
    | (with_reducible apply Keeps.wr)
    | (apply Keeps.next; (with_reducible apply kp_peForget); decide)
    | (apply Keeps.next; (with_reducible apply kp_raise); decide)
    | (with_reducible apply Keeps.forEach)
    | (with_reducible apply Keeps.ite)
    | (with_reducible apply Keeps.foldl)
    | intro _
    | split
    | dsimp only

theorem kp_peSubmit (s : State) (n : Nat) (v : Nat) : Keeps 1155072 s (State.peSubmit s n v) := by
  unfold State.peSubmit
  repeat' first
    | (with_reducible exact Keeps.refl)
    | (with_reducible apply Keeps.wr)
    | (apply Keeps.next; (with_reducible apply kp_dataPortPut); decide)
    | (with_reducible apply Keeps.ite)
    | (with_reducible apply Keeps.foldl)
    | intro _
    | split
    | dsimp only

theorem kp_peGrant (s : State) : Keeps 68263936 s (State.peGrant s) := by
  unfold State.peGrant
  repeat' first
    | (with_reducible exact Keeps.refl)
    | (with_reducible apply Keeps.wr)
    | (apply Keeps.next; (with_reducible apply kp_clrB); decide)
    | (apply Keeps.next; (with_reducible apply kp_setPeSweep); decide)
    | (apply Keeps.next; (with_reducible apply kp_setPeChan); decide)
    | (apply Keeps.next; (with_reducible apply kp_peSubmit); decide)
    | (with_reducible apply Keeps.ite)
    | (with_reducible apply Keeps.foldl)
    | intro _
    | split
    | dsimp only

theorem kp_peNosamp (s : State) (n : Nat) : Keeps 68259844 s (State.peNosamp s n) := by
  unfold State.peNosamp
  repeat' first
    | (with_reducible exact Keeps.refl)
    | (with_reducible apply Keeps.wr)
    | (apply Keeps.next; (with_reducible apply kp_raise); decide)
    | (apply Keeps.next; (with_reducible apply kp_peLeave); decide)
    | (with_reducible apply Keeps.ite)
    | (with_reducible apply Keeps.foldl)
    | intro _
    | split
    | dsimp only

theorem kp_peOpenPoint (s : State) (n : Nat) (voc : Nat) (j : Nat) : Keeps 1155072 s (State.peOpenPoint s n voc j) := by
  unfold State.peOpenPoint
  repeat' first
    | (with_reducible exact Keeps.refl)
    | (apply Keeps.next; (with_reducible apply kp_peSubmit); decide)
    | (with_reducible apply Keeps.ite)
    | (with_reducible apply Keeps.foldl)
    | intro _
    | split
    | dsimp only

theorem kp_peProfileSwitch (s : State) : Keeps 67117056 s (State.peProfileSwitch s) := by
  unfold State.peProfileSwitch
  repeat' first
    | (with_reducible exact Keeps.refl)
    | (with_reducible apply Keeps.atBuilt; refine Keeps.upd ?_)
    | (simp only [Keeps.built])
    | (with_reducible apply Keeps.wr)
    | (with_reducible apply Keeps.ite)
    | (with_reducible apply Keeps.foldl)
    | intro _
    | split
    | dsimp only

theorem kp_peTake (s : State) (n : Nat) (isV : Bool) (r : TapRecord) : Keeps 67108864 s (State.peTake s n isV r) := by
  unfold State.peTake
  repeat' first
    | (with_reducible exact Keeps.refl)
    | (with_reducible apply Keeps.wr)
    | (apply Keeps.next; (with_reducible apply kp_setPeChan); decide)
    | (apply Keeps.next; (with_reducible apply kp_setPeSweep); decide)
    | (with_reducible apply Keeps.when)
    | (with_reducible apply Keeps.ite)
    | (with_reducible apply Keeps.foldl)
    | intro _
    | split
    | dsimp only

theorem kp_peRecord (s : State) (r : TapRecord) : Keeps 67108864 s (State.peRecord s r) := by
  unfold State.peRecord
  repeat' first
    | (with_reducible exact Keeps.refl)
    | (with_reducible apply Keeps.wr)
    | (apply Keeps.next; (with_reducible apply kp_peTake); decide)
    | (with_reducible apply Keeps.when)
    | (with_reducible apply Keeps.forEach)
    | (with_reducible apply Keeps.ite)
    | (with_reducible apply Keeps.foldl)
    | intro _
    | split
    | dsimp only

theorem kp_peSchedule (s : State) (n : Nat) : Keeps 67108864 s (State.peSchedule s n) := by
  unfold State.peSchedule
  repeat' first
    | (with_reducible exact Keeps.refl)
    | (apply Keeps.next; (with_reducible apply kp_peRequest); decide)
    | (with_reducible apply Keeps.ite)
    | (with_reducible apply Keeps.foldl)
    | intro _
    | split
    | dsimp only

theorem kp_peSearchEnd (s : State) (w : PeSweep) (vref : Nat) : Keeps 68255744 s (State.peSearchEnd s w vref) := by
  unfold State.peSearchEnd
  repeat' first
    | (with_reducible exact Keeps.refl)
    | (with_reducible apply Keeps.wr)
    | (apply Keeps.next; (with_reducible apply kp_setPeSweep); decide)
    | (apply Keeps.next; (with_reducible apply kp_setPeChan); decide)
    | (apply Keeps.next; (with_reducible apply kp_raise); decide)
    | (with_reducible apply Keeps.ite)
    | (with_reducible apply Keeps.foldl)
    | intro _
    | split
    | dsimp only

theorem kp_peSearchInvalid (s : State) (w : PeSweep) (voc : Nat) : Keeps 68259844 s (State.peSearchInvalid s w voc) := by
  unfold State.peSearchInvalid
  repeat' first
    | (with_reducible exact Keeps.refl)
    | (with_reducible apply Keeps.wr)
    | (apply Keeps.nextP; (with_reducible apply kp_peFree); decide)
    | (apply Keeps.next; (with_reducible apply kp_pePutHeader); decide)
    | (apply Keeps.next; (with_reducible apply kp_peSearchEnd); decide)
    | (with_reducible apply Keeps.ite)
    | (with_reducible exact Keeps.reflP)
    | (simp only [Keeps.pair_eq])
    | (with_reducible apply Keeps.snd)
    | (apply Keeps.of_pair; assumption)
    | (with_reducible apply Keeps.iteP)
    | (with_reducible apply Keeps.foldlP)
    | (with_reducible apply Keeps.foldl)
    | intro _
    | split
    | dsimp only

theorem kp_peSearchValid (s : State) (w : PeSweep) (voc : Nat) : Keeps 68259844 s (State.peSearchValid s w voc) := by
  unfold State.peSearchValid
  repeat' first
    | (with_reducible exact Keeps.refl)
    | (with_reducible apply Keeps.wr)
    | (apply Keeps.nextP; (with_reducible apply kp_orFree); decide)
    | (apply Keeps.next; (with_reducible apply kp_peEstimate); decide)
    | (apply Keeps.next; (with_reducible apply kp_pePutHeader); decide)
    | (apply Keeps.next; (with_reducible apply kp_peForget); decide)
    | (apply Keeps.next; (with_reducible apply kp_peSearchEnd); decide)
    | (with_reducible apply Keeps.ite)
    | (with_reducible exact Keeps.reflP)
    | (simp only [Keeps.pair_eq])
    | (with_reducible apply Keeps.snd)
    | (apply Keeps.of_pair; assumption)
    | (with_reducible apply Keeps.iteP)
    | (with_reducible apply Keeps.foldlP)
    | (with_reducible apply Keeps.foldl)
    | intro _
    | split
    | dsimp only

theorem kp_peSearch (s : State) : Keeps 68259844 s (State.peSearch s) := by
  unfold State.peSearch
  repeat' first
    | (with_reducible exact Keeps.refl)
    | (apply Keeps.next; (with_reducible apply kp_peSearchInvalid); decide)
    | (apply Keeps.next; (with_reducible apply kp_peSearchValid); decide)
    | (with_reducible apply Keeps.ite)
    | (with_reducible apply Keeps.foldl)
    | intro _
    | split
    | dsimp only

theorem kp_peShade (s : State) (n : Nat) : Keeps 68263936 s (State.peShade s n) := by
  unfold State.peShade
  repeat' first
    | (with_reducible exact Keeps.refl)
    | (apply Keeps.next; (with_reducible apply kp_setPeChan); decide)
    | (apply Keeps.next; (with_reducible apply kp_peGrant); decide)
    | (apply Keeps.next; (with_reducible apply kp_raise); decide)
    | (apply Keeps.next; (with_reducible apply kp_peRequest); decide)
    | (with_reducible apply Keeps.ite)
    | (with_reducible apply Keeps.foldl)
    | intro _
    | split
    | dsimp only

theorem kp_peStep (s : State) : Keeps 68263936 s (State.peStep s) := by
  unfold State.peStep
  repeat' first
    | (with_reducible exact Keeps.refl)
    | (with_reducible apply Keeps.atBuilt; refine Keeps.upd ?_)
    | (simp only [Keeps.built])
    | (with_reducible apply Keeps.wr)
    | (apply Keeps.next; (with_reducible apply kp_peChanStep); decide)
    | (apply Keeps.next; (with_reducible apply kp_peCurtRuns); decide)
    | (apply Keeps.next; (with_reducible apply kp_peSubmit); decide)
    | (apply Keeps.next; (with_reducible apply kp_dataPortPut); decide)
    | (apply Keeps.next; (with_reducible apply kp_peGrant); decide)
    | (with_reducible apply Keeps.when)
    | (with_reducible apply Keeps.forEach)
    | (with_reducible apply Keeps.ite)
    | (with_reducible apply Keeps.foldl)
    | intro _
    | split
    | dsimp only

theorem kp_peSweepPoint (s : State) : Keeps 68263940 s (State.peSweepPoint s) := by
  unfold State.peSweepPoint
  repeat' first
    | (with_reducible exact Keeps.refl)
    | (apply Keeps.next; (with_reducible apply kp_pePut); decide)
    | (apply Keeps.next; (with_reducible apply kp_setPeSweep); decide)
    | (apply Keeps.next; (with_reducible apply kp_peOpenPoint); decide)
    | (with_reducible apply Keeps.ite)
    | (with_reducible apply Keeps.foldl)
    | intro _
    | split
    | dsimp only

theorem kp_peUnblock (s : State) (n : Nat) : Keeps 0 s (State.peUnblock s n) := by
  unfold State.peUnblock
  repeat' first
    | (with_reducible exact Keeps.refl)
    | (with_reducible apply Keeps.wr)
    | (with_reducible apply Keeps.ite)
    | (with_reducible apply Keeps.foldl)
    | intro _
    | split
    | dsimp only

theorem kp_peVocEnd (s : State) : Keeps 68268032 s (State.peVocEnd s) := by
  unfold State.peVocEnd
  repeat' first
    | (with_reducible exact Keeps.refl)
    | (with_reducible apply Keeps.wr)
    | (apply Keeps.nextP; (with_reducible apply kp_takeFree); decide)
    | (apply Keeps.next; (with_reducible apply kp_peOpenPoint); decide)
    | (apply Keeps.next; (with_reducible apply kp_setPeSweep); decide)
    | (with_reducible apply Keeps.when)
    | (with_reducible apply Keeps.ite)
    | (with_reducible exact Keeps.reflP)
    | (simp only [Keeps.pair_eq])
    | (with_reducible apply Keeps.snd)
    | (apply Keeps.of_pair; assumption)
    | (with_reducible apply Keeps.iteP)
    | (with_reducible apply Keeps.foldlP)
    | (with_reducible apply Keeps.foldl)
    | intro _
    | split
    | dsimp only

theorem kp_execGsRtEnter (e : RtEntry) (s : State) : KeepsN 119123972 s (execGsRtEnter e s) := by
  unfold execGsRtEnter
  repeat' first
    | (with_reducible exact Keeps.refl)
    | (with_reducible apply Keeps.out)
    | (with_reducible apply kp_gsAct; decide)
    | (apply Keeps.next; (with_reducible apply kp_rtEnter); decide)
    | (with_reducible apply Keeps.ite)
    | (with_reducible apply Keeps.foldl)
    | intro _
    | split
    | dsimp only

theorem kp_execGsCurveViolation (s : State) : KeepsN 119123972 s (execGsCurveViolation s) := by
  unfold execGsCurveViolation
  repeat' first
    | (with_reducible exact Keeps.refl)
    | (with_reducible apply Keeps.out)
    | (with_reducible apply kp_gsAct; decide)
    | (apply Keeps.next; (with_reducible apply kp_curveTrip); decide)
    | (with_reducible apply Keeps.ite)
    | (with_reducible apply Keeps.foldl)
    | intro _
    | split
    | dsimp only

theorem kp_execGsZvTimeout (s : State) : KeepsN 119123972 s (execGsZvTimeout s) := by
  unfold execGsZvTimeout
  repeat' first
    | (with_reducible exact Keeps.refl)
    | (with_reducible apply Keeps.out)
    | (with_reducible apply kp_gsAct; decide)
    | (apply Keeps.next; (with_reducible apply kp_zvTimeout); decide)
    | (with_reducible apply Keeps.ite)
    | (with_reducible apply Keeps.foldl)
    | intro _
    | split
    | dsimp only

theorem kp_execGsDisable (m : Master) (s : State) : KeepsN 119124228 s (execGsDisable m s) := by
  unfold execGsDisable
  repeat' first
    | (with_reducible exact Keeps.refl)
    | (with_reducible apply Keeps.out)
    | (with_reducible apply kp_gsAct; decide)
    | (apply Keeps.next; (with_reducible apply kp_gsDisable); decide)
    | (with_reducible apply Keeps.access; decide)
    | (with_reducible apply Keeps.ite)
    | (with_reducible apply Keeps.foldl)
    | intro _
    | split
    | dsimp only

theorem kp_execPeStep (s : State) : KeepsN 68263936 s (execPeStep s) := by
  unfold execPeStep
  repeat' first
    | (with_reducible exact Keeps.refl)
    | (with_reducible apply Keeps.out)
    | (apply Keeps.next; (with_reducible apply kp_peStep); decide)
    | (with_reducible apply Keeps.ite)
    | (with_reducible apply Keeps.foldl)
    | intro _
    | split
    | dsimp only

theorem kp_execPeNosamp (n : Nat) (s : State) : KeepsN 68259844 s (execPeNosamp n s) := by
  unfold execPeNosamp
  repeat' first
    | (with_reducible exact Keeps.refl)
    | (with_reducible apply Keeps.out)
    | (apply Keeps.next; (with_reducible apply kp_peNosamp); decide)
    | (with_reducible apply Keeps.ite)
    | (with_reducible apply Keeps.foldl)
    | intro _
    | split
    | dsimp only

theorem kp_execPeCurtailEnter (s : State) : KeepsN 1146880 s (execPeCurtailEnter s) := by
  unfold execPeCurtailEnter
  repeat' first
    | (with_reducible exact Keeps.refl)
    | (with_reducible apply Keeps.out)
    | (apply Keeps.next; (with_reducible apply kp_peCurtailEnter); decide)
    | (with_reducible apply Keeps.ite)
    | (with_reducible apply Keeps.foldl)
    | intro _
    | split
    | dsimp only

theorem kp_execPeCurtailLeave (s : State) : KeepsN 68255744 s (execPeCurtailLeave s) := by
  unfold execPeCurtailLeave
  repeat' first
    | (with_reducible exact Keeps.refl)
    | (with_reducible apply Keeps.out)
    | (apply Keeps.next; (with_reducible apply kp_peCurtailLeave); decide)
    | (with_reducible apply Keeps.ite)
    | (with_reducible apply Keeps.foldl)
    | intro _
    | split
    | dsimp only

theorem kp_execPeShade (n : Nat) (s : State) : KeepsN 68263936 s (execPeShade n s) := by
  unfold execPeShade
  repeat' first
    | (with_reducible exact Keeps.refl)
    | (with_reducible apply Keeps.out)
    | (apply Keeps.next; (with_reducible apply kp_peShade); decide)
    | (with_reducible apply Keeps.ite)
    | (with_reducible apply Keeps.foldl)
    | intro _
    | split
    | dsimp only

theorem kp_execPeSweepSchedule (n : Nat) (s : State) : KeepsN 67108864 s (execPeSweepSchedule n s) := by
  unfold execPeSweepSchedule
  repeat' first
    | (with_reducible exact Keeps.refl)
    | (with_reducible apply Keeps.out)
    | (apply Keeps.next; (with_reducible apply kp_peSchedule); decide)
    | (with_reducible apply Keeps.ite)
    | (with_reducible apply Keeps.foldl)
    | intro _
    | split
    | dsimp only

theorem kp_execPeSweepCmd (m : Master) (mask : Nat) (s : State) : KeepsN 67109120 s (execPeSweepCmd m mask s) := by
  unfold execPeSweepCmd
  repeat' first
    | (with_reducible exact Keeps.refl)
    | (with_reducible apply Keeps.out)
    | (apply Keeps.next; (with_reducible apply kp_peRequest); decide)
    | (with_reducible apply Keeps.forEach)
    | (with_reducible apply Keeps.access; decide)
    | (with_reducible apply Keeps.ite)
    | (with_reducible apply Keeps.foldl)
    | intro _
    | split
    | dsimp only

theorem kp_execPeVocEnd (s : State) : KeepsN 68268032 s (execPeVocEnd s) := by
  unfold execPeVocEnd
  repeat' first
    | (with_reducible exact Keeps.refl)
    | (with_reducible apply Keeps.out)
    | (apply Keeps.next; (with_reducible apply kp_peVocEnd); decide)
    | (with_reducible apply Keeps.ite)
    | (with_reducible apply Keeps.foldl)
    | intro _
    | split
    | dsimp only

theorem kp_execPeSweepPoint (s : State) : KeepsN 68263940 s (execPeSweepPoint s) := by
  unfold execPeSweepPoint
  repeat' first
    | (with_reducible exact Keeps.refl)
    | (with_reducible apply Keeps.out)
    | (apply Keeps.next; (with_reducible apply kp_peSweepPoint); decide)
    | (with_reducible apply Keeps.ite)
    | (with_reducible apply Keeps.foldl)
    | intro _
    | split
    | dsimp only

theorem kp_execPeSweepSearch (s : State) : KeepsN 68259844 s (execPeSweepSearch s) := by
  unfold execPeSweepSearch
  repeat' first
    | (with_reducible exact Keeps.refl)
    | (with_reducible apply Keeps.out)
    | (apply Keeps.next; (with_reducible apply kp_peSearch); decide)
    | (with_reducible apply Keeps.ite)
    | (with_reducible apply Keeps.foldl)
    | intro _
    | split
    | dsimp only

theorem kp_execPePairBlocked (n : Nat) (s : State) : KeepsN 68259844 s (execPePairBlocked n s) := by
  unfold execPePairBlocked
  repeat' first
    | (with_reducible exact Keeps.refl)
    | (with_reducible apply Keeps.out)
    | (apply Keeps.next; (with_reducible apply kp_peBlock); decide)
    | (with_reducible apply Keeps.ite)
    | (with_reducible apply Keeps.foldl)
    | intro _
    | split
    | dsimp only

theorem kp_execPePairUnblocked (n : Nat) (s : State) : KeepsN 0 s (execPePairUnblocked n s) := by
  unfold execPePairUnblocked
  repeat' first
    | (with_reducible exact Keeps.refl)
    | (with_reducible apply Keeps.out)
    | (apply Keeps.next; (with_reducible apply kp_peUnblock); decide)
    | (with_reducible apply Keeps.ite)
    | (with_reducible apply Keeps.foldl)
    | intro _
    | split
    | dsimp only

theorem kp_execPeChannelEnable (m : Master) (n : Nat) (s : State) : KeepsN 67109120 s (execPeChannelEnable m n s) := by
  unfold execPeChannelEnable
  repeat' first
    | (with_reducible exact Keeps.refl)
    | (with_reducible apply Keeps.out)
    | (apply Keeps.next; (with_reducible apply kp_peEnable); decide)
    | (with_reducible apply Keeps.access; decide)
    | (with_reducible apply Keeps.ite)
    | (with_reducible apply Keeps.foldl)
    | intro _
    | split
    | dsimp only

theorem kp_execPeChannelDisable (m : Master) (n : Nat) (s : State) : KeepsN 68260100 s (execPeChannelDisable m n s) := by
  unfold execPeChannelDisable
  repeat' first
    | (with_reducible exact Keeps.refl)
    | (with_reducible apply Keeps.out)
    | (apply Keeps.next; (with_reducible apply kp_peDisable); decide)
    | (with_reducible apply Keeps.access; decide)
    | (with_reducible apply Keeps.ite)
    | (with_reducible apply Keeps.foldl)
    | intro _
    | split
    | dsimp only

theorem kp_execPeProfileSwitch (s : State) : KeepsN 67117056 s (execPeProfileSwitch s) := by
  unfold execPeProfileSwitch
  repeat' first
    | (with_reducible exact Keeps.refl)
    | (with_reducible apply Keeps.out)
    | (apply Keeps.next; (with_reducible apply kp_peProfileSwitch); decide)
    | (with_reducible apply Keeps.ite)
    | (with_reducible apply Keeps.foldl)
    | intro _
    | split
    | dsimp only

end Sys2Proof.Machine
end

