-- ==== Sys2Proof/Laws/KeepsBoundary.lean ====
section
/-! SUPPORT. Laws/KeepsBoundary.lean: what each operation of Machine/Boundary.lean keeps. -/

set_option Elab.async false

set_option linter.unusedTactic false
set_option linter.unusedSimpArgs false
set_option linter.unreachableTactic false

namespace Sys2Proof.Machine

theorem kp_digestWrite (s : State) (ws : List Nat) : Keeps 0 s (State.digestWrite s ws) := by
  unfold State.digestWrite
  repeat' first
    | (with_reducible exact Keeps.refl)
    | (with_reducible apply Keeps.wr)
    | (apply Keeps.next; (with_reducible apply kp_incSat); decide)
    | (with_reducible apply Keeps.forEach)
    | (with_reducible apply Keeps.ite)
    | (with_reducible apply Keeps.foldl)
    | intro _
    | split
    | dsimp only

theorem kp_digestComplete (s : State) (crcOk : Bool) : Keeps 1159168 s (State.digestComplete s crcOk) := by
  unfold State.digestComplete
  repeat' first
    | (with_reducible exact Keeps.refl)
    | (with_reducible apply Keeps.atBuilt; refine Keeps.upd ?_)
    | (simp only [Keeps.built])
    | (apply Keeps.nextP; (with_reducible apply kp_takeFree); decide)
    | (apply Keeps.next; (with_reducible apply kp_raise); decide)
    | (apply Keeps.next; (with_reducible apply kp_digestWrite); decide)
    | (apply Keeps.next; (with_reducible apply kp_crossFault); decide)
    | (with_reducible apply Keeps.when)
    | (with_reducible apply Keeps.ite)
    | (with_reducible exact Keeps.reflP)
    | (simp only [Keeps.pair_eq])
    | (with_reducible apply Keeps.snd)
    | (apply Keeps.of_pair; assumption)
    | (with_reducible apply Keeps.iteP)
    | (with_reducible apply Keeps.foldlP)
    | (with_reducible apply Keeps.foldl)
    | intro _
    | split
    | dsimp only

theorem kp_digestFreeze (s : State) : Keeps 12288 s (State.digestFreeze s) := by
  unfold State.digestFreeze
  repeat' first
    | (with_reducible exact Keeps.refl)
    | (with_reducible apply Keeps.atBuilt; refine Keeps.upd ?_)
    | (simp only [Keeps.built])
    | (apply Keeps.nextP; (with_reducible apply kp_takeFree); decide)
    | (with_reducible apply Keeps.ite)
    | (with_reducible exact Keeps.reflP)
    | (simp only [Keeps.pair_eq])
    | (with_reducible apply Keeps.snd)
    | (apply Keeps.of_pair; assumption)
    | (with_reducible apply Keeps.iteP)
    | (with_reducible apply Keeps.foldlP)
    | (with_reducible apply Keeps.foldl)
    | intro _
    | split
    | dsimp only

theorem kp_mailboxBoundary (s : State) : Keeps 8192 s (State.mailboxBoundary s) := by
  unfold State.mailboxBoundary
  repeat' first
    | (with_reducible exact Keeps.refl)
    | (with_reducible apply Keeps.atBuilt; refine Keeps.upd ?_)
    | (simp only [Keeps.built])
    | (with_reducible apply Keeps.ite)
    | (with_reducible apply Keeps.foldl)
    | intro _
    | split
    | dsimp only

theorem kp_tapCapture (s : State) : Keeps 8192 s (State.tapCapture s) := by
  unfold State.tapCapture
  repeat' first
    | (with_reducible exact Keeps.refl)
    | (with_reducible apply Keeps.atBuilt; refine Keeps.upd ?_)
    | (simp only [Keeps.built])
    | (with_reducible apply Keeps.ite)
    | (with_reducible apply Keeps.foldl)
    | intro _
    | split
    | dsimp only

theorem kp_frameBoundary (s : State) : Keeps 603437064 s (State.frameBoundary s) := by
  unfold State.frameBoundary
  repeat' first
    | (with_reducible exact Keeps.refl)
    | (apply Keeps.next; (with_reducible apply kp_mailboxBoundary); decide)
    | (apply Keeps.next; (with_reducible apply kp_orbBoundary); decide)
    | (apply Keeps.next; (with_reducible apply kp_leBoundary); decide)
    | (apply Keeps.next; (with_reducible apply kp_digestFreeze); decide)
    | (apply Keeps.next; (with_reducible apply kp_senseBoundary); decide)
    | (apply Keeps.next; (with_reducible apply kp_driveBoundary); decide)
    | (apply Keeps.next; (with_reducible apply kp_pwmBoundary); decide)
    | (apply Keeps.next; (with_reducible apply kp_pairsBoundary); decide)
    | (apply Keeps.next; (with_reducible apply kp_eeBoundary); decide)
    | (apply Keeps.next; (with_reducible apply kp_gsBoundary); decide)
    | (apply Keeps.next; (with_reducible apply kp_cmpBoundary); decide)
    | (apply Keeps.next; (with_reducible apply kp_tapCapture); decide)
    | (apply Keeps.next; (with_reducible apply kp_cmtBoundary); decide)
    | (with_reducible apply Keeps.ite)
    | (with_reducible apply Keeps.foldl)
    | intro _
    | split
    | dsimp only

theorem kp_tapDeliver (s : State) (chan : Nat) : Keeps 101818368 s (State.tapDeliver s chan) := by
  unfold State.tapDeliver
  repeat' first
    | (with_reducible exact Keeps.refl)
    | (with_reducible apply Keeps.atBuilt; refine Keeps.upd ?_)
    | (simp only [Keeps.built])
    | (apply Keeps.next; (with_reducible apply kp_epochDiscard); decide)
    | (apply Keeps.next; (with_reducible apply kp_peRecord); decide)
    | (apply Keeps.next; (with_reducible apply kp_eeRecord); decide)
    | (with_reducible apply Keeps.ite)
    | (with_reducible apply Keeps.foldl)
    | intro _
    | split
    | dsimp only

theorem kp_execTapRecordDeliver (chan : Nat) (s : State) : KeepsN 101818368 s (execTapRecordDeliver chan s) := by
  unfold execTapRecordDeliver
  repeat' first
    | (with_reducible exact Keeps.refl)
    | (with_reducible apply Keeps.out)
    | (apply Keeps.next; (with_reducible apply kp_tapDeliver); decide)
    | (with_reducible apply Keeps.ite)
    | (with_reducible apply Keeps.foldl)
    | intro _
    | split
    | dsimp only

theorem kp_execDigestComplete (crcOk : Bool) (s : State) : KeepsN 1159168 s (execDigestComplete crcOk s) := by
  unfold execDigestComplete
  repeat' first
    | (with_reducible exact Keeps.refl)
    | (with_reducible apply Keeps.out)
    | (apply Keeps.next; (with_reducible apply kp_digestComplete); decide)
    | (with_reducible apply Keeps.ite)
    | (with_reducible apply Keeps.foldl)
    | intro _
    | split
    | dsimp only

theorem kp_execFrameBoundary (s : State) : KeepsN 603437064 s (execFrameBoundary s) := by
  unfold execFrameBoundary
  repeat' first
    | (with_reducible exact Keeps.refl)
    | (with_reducible apply Keeps.out)
    | (apply Keeps.next; (with_reducible apply kp_frameBoundary); decide)
    | (with_reducible apply Keeps.ite)
    | (with_reducible apply Keeps.foldl)
    | intro _
    | split
    | dsimp only

end Sys2Proof.Machine
end

