-- ==== Sys2Proof/Laws/KeepsBusA.lean ====
section
/-! SUPPORT. Laws/KeepsBusA.lean: what each operation of Machine/BusA.lean keeps. -/

set_option Elab.async false

set_option linter.unusedTactic false
set_option linter.unusedSimpArgs false
set_option linter.unreachableTactic false

namespace Sys2Proof.Machine

theorem kp_orbCfgErr (s : State) : Keeps 0 s (State.orbCfgErr s) := by
  unfold State.orbCfgErr
  repeat' first
    | (with_reducible exact Keeps.refl)
    | (with_reducible apply Keeps.wr)
    | (with_reducible apply Keeps.ite)
    | (with_reducible apply Keeps.foldl)
    | intro _
    | split
    | dsimp only

theorem kp_putField (s : State) (v : Nat) (m : Nat) (r : FieldRow) : Keeps 2 s (State.putField s v m r) := by
  unfold State.putField
  repeat' first
    | (with_reducible exact Keeps.refl)
    | (with_reducible apply Keeps.wr)
    | (apply Keeps.next; (with_reducible apply kp_wrOnce); decide)
    | (with_reducible apply Keeps.ite)
    | (with_reducible apply Keeps.foldl)
    | intro _
    | split
    | dsimp only

theorem kp_plain (s : State) (a : Nat) (v : Nat) (m : Nat) : Keeps 2 s (State.plain s a v m) := by
  unfold State.plain
  repeat' first
    | (with_reducible exact Keeps.refl)
    | (apply Keeps.next; (with_reducible apply kp_putField); decide)
    | (with_reducible apply Keeps.forEach)
    | (with_reducible apply Keeps.ite)
    | (with_reducible apply Keeps.foldl)
    | intro _
    | split
    | dsimp only

theorem kp_orbCtrlWrite (s : State) (a : Nat) (v : Nat) (m : Nat) : Keeps 32770 s (State.orbCtrlWrite s a v m) := by
  unfold State.orbCtrlWrite
  repeat' first
    | (with_reducible exact Keeps.refl)
    | (apply Keeps.next; (with_reducible apply kp_orbCfgErr); decide)
    | (apply Keeps.next; (with_reducible apply kp_orbConfigWrite); decide)
    | (apply Keeps.next; (with_reducible apply kp_plain); decide)
    | (apply Keeps.next; (with_reducible apply kp_orbTrackDisable); decide)
    | (with_reducible apply Keeps.when)
    | (with_reducible apply Keeps.ite)
    | (with_reducible apply Keeps.foldl)
    | intro _
    | split
    | dsimp only

theorem kp_orbWrite (s : State) (a : Nat) (v : Nat) (m : Nat) : Keeps 32770 s (State.orbWrite s a v m) := by
  unfold State.orbWrite
  repeat' first
    | (with_reducible exact Keeps.refl)
    | (with_reducible apply Keeps.wr)
    | (apply Keeps.next; (with_reducible apply kp_orbCtrlWrite); decide)
    | (apply Keeps.next; (with_reducible apply kp_orbConfigWrite); decide)
    | (apply Keeps.next; (with_reducible apply kp_orbBankWrite); decide)
    | (apply Keeps.next; (with_reducible apply kp_slotInactWrite); decide)
    | (apply Keeps.next; (with_reducible apply kp_plain); decide)
    | (with_reducible apply Keeps.when)
    | (with_reducible apply Keeps.ite)
    | (with_reducible apply Keeps.foldl)
    | intro _
    | split
    | dsimp only

theorem kp_gsCfgErr (s : State) : Keeps 0 s (State.gsCfgErr s) := by
  unfold State.gsCfgErr
  repeat' first
    | (with_reducible exact Keeps.refl)
    | (with_reducible apply Keeps.wr)
    | (with_reducible apply Keeps.ite)
    | (with_reducible apply Keeps.foldl)
    | intro _
    | split
    | dsimp only

theorem kp_gsRegWrite (s : State) (a : Nat) (v : Nat) (m : Nat) : Keeps 119123974 s (State.gsRegWrite s a v m) := by
  unfold State.gsRegWrite
  repeat' first
    | (with_reducible exact Keeps.refl)
    | (apply Keeps.next; (with_reducible apply kp_gsCfgErr); decide)
    | (apply Keeps.next; (with_reducible apply kp_plain); decide)
    | (apply Keeps.next; (with_reducible apply kp_gsEnable); decide)
    | (with_reducible apply kp_gsAct; decide)
    | (apply Keeps.next; (with_reducible apply kp_gsDisable); decide)
    | (with_reducible apply Keeps.when)
    | (with_reducible apply Keeps.ite)
    | (with_reducible apply Keeps.foldl)
    | intro _
    | split
    | dsimp only

theorem kp_clCtrlWrite (s : State) (c : Nat) (a : Nat) (v : Nat) (m : Nat) : Keeps 1286146 s (State.clCtrlWrite s c a v m) := by
  unfold State.clCtrlWrite
  repeat' first
    | (with_reducible exact Keeps.refl)
    | (apply Keeps.next; (with_reducible apply kp_pwmCfgErr); decide)
    | (apply Keeps.next; (with_reducible apply kp_plain); decide)
    | (apply Keeps.next; (with_reducible apply kp_clusterEnable); decide)
    | (apply Keeps.next; (with_reducible apply kp_clusterSoftReset); decide)
    | (with_reducible apply Keeps.when)
    | (with_reducible apply Keeps.ite)
    | (with_reducible apply Keeps.foldl)
    | intro _
    | split
    | dsimp only

theorem kp_tripCfgWrite (s : State) (n : Nat) (a : Nat) (v : Nat) (m : Nat) : Keeps 1277954 s (State.tripCfgWrite s n a v m) := by
  unfold State.tripCfgWrite
  repeat' first
    | (with_reducible exact Keeps.refl)
    | (apply Keeps.next; (with_reducible apply kp_pwmCfgErr); decide)
    | (apply Keeps.next; (with_reducible apply kp_plain); decide)
    | (apply Keeps.next; (with_reducible apply kp_lineUpdate); decide)
    | (apply Keeps.next; (with_reducible apply kp_setLine); decide)
    | (with_reducible apply Keeps.ite)
    | (with_reducible apply Keeps.foldl)
    | intro _
    | split
    | dsimp only

theorem kp_lockOut {c : Nat} {s t : State} {l : Bool} {fs : List Fld} {v m : Nat} {err : State → State} (h : Keeps c s t)
    (hf : ∀ s, Keeps c s (err s)) : KeepsP c s (State.lockOut t l fs v m err) := by
  unfold State.lockOut
  split
  · exact Keeps.when h hf
  · exact h

theorem kp_prCfgWrite (s : State) (p : Nat) (a : Nat) (v : Nat) (m : Nat) : Keeps 1146882 s (State.prCfgWrite s p a v m) := by
  unfold State.prCfgWrite
  repeat' first
    | (with_reducible exact Keeps.refl)
    | (apply Keeps.next; (with_reducible apply kp_pwmCfgErr); decide)
    | (with_reducible apply kp_lockOut)
    | (apply Keeps.next; (with_reducible apply kp_setAcc); decide)
    | (apply Keeps.next; (with_reducible apply kp_plain); decide)
    | (with_reducible apply Keeps.when)
    | (with_reducible apply Keeps.ite)
    | (with_reducible exact Keeps.reflP)
    | (simp only [Keeps.pair_eq])
    | (with_reducible apply Keeps.snd)
    | (apply Keeps.of_pair; assumption)
    | (with_reducible apply Keeps.iteP)
    | (with_reducible apply Keeps.foldlP)
    | (with_reducible apply Keeps.foldl)
    | intro _
    | split
    | dsimp only

theorem kp_pwmWrite (s : State) (a : Nat) (v : Nat) (m : Nat) : Keeps 1286146 s (State.pwmWrite s a v m) := by
  unfold State.pwmWrite
  repeat' first
    | (with_reducible exact Keeps.refl)
    | (with_reducible apply Keeps.wr)
    | (apply Keeps.next; (with_reducible apply kp_pwmCommit); decide)
    | (apply Keeps.next; (with_reducible apply kp_safeClear); decide)
    | (apply Keeps.next; (with_reducible apply kp_pwmSafe); decide)
    | (apply Keeps.next; (with_reducible apply kp_escRelease); decide)
    | (apply Keeps.next; (with_reducible apply kp_tripLatchClear); decide)
    | (apply Keeps.next; (with_reducible apply kp_clCtrlWrite); decide)
    | (apply Keeps.next; (with_reducible apply kp_clusterPeriodWrite); decide)
    | (apply Keeps.next; (with_reducible apply kp_tripCfgWrite); decide)
    | (apply Keeps.next; (with_reducible apply kp_prCfgWrite); decide)
    | (apply Keeps.next; (with_reducible apply kp_pairShadowWrite); decide)
    | (apply Keeps.next; (with_reducible apply kp_forceWrite); decide)
    | (apply Keeps.next; (with_reducible apply kp_plain); decide)
    | (with_reducible apply Keeps.when)
    | (with_reducible apply Keeps.forEach)
    | (with_reducible apply Keeps.ite)
    | (with_reducible apply Keeps.foldl)
    | intro _
    | split
    | dsimp only

theorem kp_leCtrlWrite (s : State) (e : Nat) (a : Nat) (v : Nat) (m : Nat) : Keeps 270338 s (State.leCtrlWrite s e a v m) := by
  unfold State.leCtrlWrite
  repeat' first
    | (with_reducible exact Keeps.refl)
    | (apply Keeps.next; (with_reducible apply kp_coverUpdate); decide)
    | (apply Keeps.next; (with_reducible apply kp_plain); decide)
    | (apply Keeps.next; (with_reducible apply kp_leEnable); decide)
    | (apply Keeps.next; (with_reducible apply kp_leDisable); decide)
    | (with_reducible apply Keeps.ite)
    | (with_reducible apply Keeps.foldl)
    | intro _
    | split
    | dsimp only

theorem kp_leCmdWrite (s : State) (e : Nat) (x : Nat) : Keeps 1417216 s (State.leCmdWrite s e x) := by
  unfold State.leCmdWrite
  repeat' first
    | (with_reducible exact Keeps.refl)
    | (apply Keeps.next; (with_reducible apply kp_leCheck); decide)
    | (apply Keeps.next; (with_reducible apply kp_leTest); decide)
    | (apply Keeps.next; (with_reducible apply kp_leReturn); decide)
    | (with_reducible apply Keeps.when)
    | (with_reducible apply Keeps.ite)
    | (with_reducible apply Keeps.foldl)
    | intro _
    | split
    | dsimp only

theorem kp_leWrite (s : State) (a : Nat) (v : Nat) (m : Nat) : Keeps 1417218 s (State.leWrite s a v m) := by
  unfold State.leWrite
  repeat' first
    | (with_reducible exact Keeps.refl)
    | (with_reducible apply Keeps.wr)
    | (apply Keeps.next; (with_reducible apply kp_leCtrlWrite); decide)
    | (apply Keeps.next; (with_reducible apply kp_leCmdWrite); decide)
    | (apply Keeps.next; (with_reducible apply kp_leCntClr); decide)
    | (apply Keeps.next; (with_reducible apply kp_setCap); decide)
    | (apply Keeps.next; (with_reducible apply kp_plain); decide)
    | (apply Keeps.next; (with_reducible apply kp_injWrite); decide)
    | (apply Keeps.next; (with_reducible apply kp_imgInactWrite); decide)
    | (with_reducible apply Keeps.ite)
    | (with_reducible apply Keeps.foldl)
    | intro _
    | split
    | dsimp only

end Sys2Proof.Machine
end

