-- ==== Sys2Proof/Laws/KeepsBusB.lean ====
section
/-! SUPPORT. Laws/KeepsBusB.lean: what each operation of Machine/BusB.lean keeps. -/

set_option Elab.async false

set_option linter.unusedTactic false
set_option linter.unusedSimpArgs false
set_option linter.unreachableTactic false

namespace Sys2Proof.Machine

theorem kp_drvUsedWrite (s : State) (v : Nat) (m : Nat) : Keeps 3248128 s (State.drvUsedWrite s v m) := by
  unfold State.drvUsedWrite
  repeat' first
    | (with_reducible exact Keeps.refl)
    | (apply Keeps.next; (with_reducible apply kp_legUse); decide)
    | (apply Keeps.nextP; (with_reducible apply kp_takeFree); decide)
    | (apply Keeps.next; (with_reducible apply kp_legUnuse); decide)
    | (with_reducible apply Keeps.forEach)
    | (with_reducible apply Keeps.ite)
    | (with_reducible exact Keeps.reflP)
    | (simp only [Keeps.pair_eq])
    | (with_reducible apply Keeps.snd)
    | (apply Keeps.of_pair; assumption)
    | (with_reducible apply Keeps.iteP)
    | (with_reducible apply Keeps.foldlP)
    | (with_reducible apply Keeps.foldl)
    | intro _
    | split
    | dsimp only

theorem kp_drvCfgWrite (s : State) (n : Nat) (a : Nat) (v : Nat) (m : Nat) : Keeps 2097154 s (State.drvCfgWrite s n a v m) := by
  unfold State.drvCfgWrite
  repeat' first
    | (with_reducible exact Keeps.refl)
    | (apply Keeps.next; (with_reducible apply kp_drvCfgErr); decide)
    | (with_reducible apply kp_lockOut)
    | (apply Keeps.next; (with_reducible apply kp_plain); decide)
    | (apply Keeps.next; (with_reducible apply kp_legArm); decide)
    | (apply Keeps.next; (with_reducible apply kp_legDisarm); decide)
    | (with_reducible apply Keeps.ite)
    | (with_reducible exact Keeps.reflP)
    | (simp only [Keeps.pair_eq])
    | (with_reducible apply Keeps.snd)
    | (apply Keeps.of_pair; assumption)
    | (with_reducible apply Keeps.iteP)
    | (with_reducible apply Keeps.foldlP)
    | (with_reducible apply Keeps.foldl)
    | intro _
    | split
    | dsimp only

theorem kp_drvLockedWrite (s : State) (n : Nat) (a : Nat) (v : Nat) (m : Nat) : Keeps 2 s (State.drvLockedWrite s n a v m) := by
  unfold State.drvLockedWrite
  repeat' first
    | (with_reducible exact Keeps.refl)
    | (apply Keeps.next; (with_reducible apply kp_plain); decide)
    | (apply Keeps.next; (with_reducible apply kp_drvCfgErr); decide)
    | (with_reducible apply Keeps.when)
    | (with_reducible apply Keeps.ite)
    | (with_reducible apply Keeps.foldl)
    | intro _
    | split
    | dsimp only

theorem kp_drvCodeWrite (s : State) (a : Nat) (v : Nat) (m : Nat) : Keeps 2 s (State.drvCodeWrite s a v m) := by
  unfold State.drvCodeWrite
  repeat' first
    | (with_reducible exact Keeps.refl)
    | (apply Keeps.next; (with_reducible apply kp_plain); decide)
    | (with_reducible apply Keeps.ite)
    | (with_reducible apply Keeps.foldl)
    | intro _
    | split
    | dsimp only

theorem kp_legWrite (s : State) (who : Master) (n : Nat) (a : Nat) (v : Nat) (m : Nat) : Keeps 2097154 s (State.legWrite s who n a v m) := by
  unfold State.legWrite
  repeat' first
    | (with_reducible exact Keeps.refl)
    | (apply Keeps.next; (with_reducible apply kp_drvCfgWrite); decide)
    | (apply Keeps.next; (with_reducible apply kp_drvLockedWrite); decide)
    | (apply Keeps.next; (with_reducible apply kp_drvCfgErr); decide)
    | (apply Keeps.next; (with_reducible apply kp_plain); decide)
    | (apply Keeps.next; (with_reducible apply kp_drvCodeWrite); decide)
    | (apply Keeps.next; (with_reducible apply kp_testStart); decide)
    | (apply Keeps.next; (with_reducible apply kp_legClearBy); decide)
    | (with_reducible apply Keeps.when)
    | (with_reducible apply Keeps.ite)
    | (with_reducible apply Keeps.foldl)
    | intro _
    | split
    | dsimp only

theorem kp_drvWrite (s : State) (who : Master) (a : Nat) (v : Nat) (m : Nat) : Keeps 3248130 s (State.drvWrite s who a v m) := by
  unfold State.drvWrite
  repeat' first
    | (with_reducible exact Keeps.refl)
    | (with_reducible apply Keeps.wr)
    | (apply Keeps.next; (with_reducible apply kp_drvUsedWrite); decide)
    | (apply Keeps.next; (with_reducible apply kp_legWrite); decide)
    | (apply Keeps.next; (with_reducible apply kp_plain); decide)
    | (with_reducible apply Keeps.when)
    | (with_reducible apply Keeps.forEach)
    | (with_reducible apply Keeps.ite)
    | (with_reducible apply Keeps.foldl)
    | intro _
    | split
    | dsimp only

theorem kp_snsCtrlWrite (s : State) (v : Nat) (m : Nat) : Keeps 4194304 s (State.snsCtrlWrite s v m) := by
  unfold State.snsCtrlWrite
  repeat' first
    | (with_reducible exact Keeps.refl)
    | (apply Keeps.next; (with_reducible apply kp_sarDisable); decide)
    | (apply Keeps.next; (with_reducible apply kp_sarPower); decide)
    | (apply Keeps.next; (with_reducible apply kp_setB); decide)
    | (with_reducible apply Keeps.forEach)
    | (with_reducible apply Keeps.ite)
    | (with_reducible apply Keeps.foldl)
    | intro _
    | split
    | dsimp only

theorem kp_snsCmdWrite (s : State) (x : Nat) : Keeps 5341184 s (State.snsCmdWrite s x) := by
  unfold State.snsCmdWrite
  repeat' first
    | (with_reducible exact Keeps.refl)
    | (apply Keeps.next; (with_reducible apply kp_sarSoftReset); decide)
    | (apply Keeps.next; (with_reducible apply kp_sarCheckCmd); decide)
    | (apply Keeps.next; (with_reducible apply kp_injTrigger); decide)
    | (with_reducible apply Keeps.forEach)
    | (with_reducible apply Keeps.ite)
    | (with_reducible apply Keeps.foldl)
    | intro _
    | split
    | dsimp only

theorem kp_snsWrite (s : State) (a : Nat) (v : Nat) (m : Nat) : Keeps 5349378 s (State.snsWrite s a v m) := by
  unfold State.snsWrite
  repeat' first
    | (with_reducible exact Keeps.refl)
    | (with_reducible apply Keeps.wr)
    | (apply Keeps.next; (with_reducible apply kp_snsCtrlWrite); decide)
    | (apply Keeps.next; (with_reducible apply kp_plain); decide)
    | (apply Keeps.next; (with_reducible apply kp_setB); decide)
    | (apply Keeps.next; (with_reducible apply kp_snsCmdWrite); decide)
    | (apply Keeps.next; (with_reducible apply kp_sarConfigWrite); decide)
    | (with_reducible apply Keeps.when)
    | (with_reducible apply Keeps.forEach)
    | (with_reducible apply Keeps.ite)
    | (with_reducible apply Keeps.foldl)
    | intro _
    | split
    | dsimp only

theorem kp_cmpWrite (s : State) (a : Nat) (v : Nat) (m : Nat) : Keeps 9674754 s (State.cmpWrite s a v m) := by
  unfold State.cmpWrite
  repeat' first
    | (with_reducible exact Keeps.refl)
    | (apply Keeps.next; (with_reducible apply kp_winDisable); decide)
    | (apply Keeps.next; (with_reducible apply kp_winEnable); decide)
    | (apply Keeps.next; (with_reducible apply kp_bankReset); decide)
    | (apply Keeps.next; (with_reducible apply kp_lcheckCmd); decide)
    | (apply Keeps.next; (with_reducible apply kp_cmpCfgErr); decide)
    | (apply Keeps.next; (with_reducible apply kp_plain); decide)
    | (apply Keeps.next; (with_reducible apply kp_cmpConfigWrite); decide)
    | (with_reducible apply Keeps.forEach)
    | (with_reducible apply Keeps.ite)
    | (with_reducible apply Keeps.foldl)
    | intro _
    | split
    | dsimp only

theorem kp_laneEnWrite (s : State) (a : Nat) (v : Nat) (m : Nat) : Keeps 536870914 s (State.laneEnWrite s a v m) := by
  unfold State.laneEnWrite
  repeat' first
    | (with_reducible exact Keeps.refl)
    | (apply Keeps.next; (with_reducible apply kp_plain); decide)
    | (apply Keeps.next; (with_reducible apply kp_laneStops); decide)
    | (apply Keeps.next; (with_reducible apply kp_laneTrains); decide)
    | (with_reducible apply Keeps.forEach)
    | (with_reducible apply Keeps.ite)
    | (with_reducible apply Keeps.foldl)
    | intro _
    | split
    | dsimp only

theorem kp_linkCfgWrite (s : State) (l : Nat) (a : Nat) (v : Nat) (m : Nat) : Keeps 536870914 s (State.linkCfgWrite s l a v m) := by
  unfold State.linkCfgWrite
  repeat' first
    | (with_reducible exact Keeps.refl)
    | (apply Keeps.next; (with_reducible apply kp_plain); decide)
    | (apply Keeps.next; (with_reducible apply kp_linkDisable); decide)
    | (apply Keeps.next; (with_reducible apply kp_linkEnable); decide)
    | (apply Keeps.next; (with_reducible apply kp_cmtCfgErr); decide)
    | (with_reducible apply Keeps.ite)
    | (with_reducible apply Keeps.foldl)
    | intro _
    | split
    | dsimp only

theorem kp_laneCfgWrite (s : State) (k : Nat) (a : Nat) (v : Nat) (m : Nat) : Keeps 2 s (State.laneCfgWrite s k a v m) := by
  unfold State.laneCfgWrite
  repeat' first
    | (with_reducible exact Keeps.refl)
    | (with_reducible apply kp_lockOut)
    | (apply Keeps.next; (with_reducible apply kp_cmtCfgErr); decide)
    | (apply Keeps.next; (with_reducible apply kp_laneTestWrite); decide)
    | (apply Keeps.next; (with_reducible apply kp_plain); decide)
    | (with_reducible apply Keeps.when)
    | (with_reducible apply Keeps.ite)
    | (with_reducible exact Keeps.reflP)
    | (simp only [Keeps.pair_eq])
    | (with_reducible apply Keeps.snd)
    | (apply Keeps.of_pair; assumption)
    | (with_reducible apply Keeps.iteP)
    | (with_reducible apply Keeps.foldlP)
    | (with_reducible apply Keeps.foldl)
    | intro _
    | split
    | dsimp only

theorem kp_cmtWrite (s : State) (who : Master) (a : Nat) (v : Nat) (m : Nat) : Keeps 538018050 s (State.cmtWrite s who a v m) := by
  unfold State.cmtWrite
  repeat' first
    | (with_reducible exact Keeps.refl)
    | (apply Keeps.next; (with_reducible apply kp_laneEnWrite); decide)
    | (apply Keeps.next; (with_reducible apply kp_retrain); decide)
    | (apply Keeps.next; (with_reducible apply kp_remeasure); decide)
    | (apply Keeps.next; (with_reducible apply kp_clrStats); decide)
    | (apply Keeps.next; (with_reducible apply kp_linkCfgWrite); decide)
    | (apply Keeps.next; (with_reducible apply kp_laneCfgWrite); decide)
    | (apply Keeps.next; (with_reducible apply kp_cmtCfgErr); decide)
    | (apply Keeps.next; (with_reducible apply kp_plain); decide)
    | (apply Keeps.next; (with_reducible apply kp_safeTxQueue); decide)
    | (with_reducible apply Keeps.when)
    | (with_reducible apply Keeps.ite)
    | (with_reducible apply Keeps.foldl)
    | intro _
    | split
    | dsimp only

theorem kp_evfWrite (s : State) (a : Nat) (v : Nat) (m : Nat) : Keeps 2 s (State.evfWrite s a v m) := by
  unfold State.evfWrite
  repeat' first
    | (with_reducible exact Keeps.refl)
    | (with_reducible apply Keeps.wr)
    | (apply Keeps.next; (with_reducible apply kp_plain); decide)
    | (with_reducible apply Keeps.when)
    | (with_reducible apply Keeps.ite)
    | (with_reducible apply Keeps.foldl)
    | intro _
    | split
    | dsimp only

theorem kp_pairEnableCmd (s : State) (p : PairId) : Keeps 593968 s (State.pairEnableCmd s p) := by
  unfold State.pairEnableCmd
  repeat' first
    | (with_reducible exact Keeps.refl)
    | (with_reducible apply Keeps.wr)
    | (apply Keeps.next; (with_reducible apply kp_pairEnable); decide)
    | (with_reducible apply Keeps.ite)
    | (with_reducible apply Keeps.foldl)
    | intro _
    | split
    | dsimp only

theorem kp_cpCtrlWrite (s : State) (a : Nat) (v : Nat) (m : Nat) : Keeps 1675826 s (State.cpCtrlWrite s a v m) := by
  unfold State.cpCtrlWrite
  repeat' first
    | (with_reducible exact Keeps.refl)
    | (apply Keeps.next; (with_reducible apply kp_pairEnableCmd); decide)
    | (apply Keeps.next; (with_reducible apply kp_pairDisable); decide)
    | (apply Keeps.next; (with_reducible apply kp_updateReady); decide)
    | (apply Keeps.next; (with_reducible apply kp_plain); decide)
    | (with_reducible apply Keeps.ite)
    | (with_reducible apply Keeps.foldl)
    | intro _
    | split
    | dsimp only

theorem kp_crossWrite (s : State) (a : Nat) (v : Nat) (m : Nat) : Keeps 1684018 s (State.crossWrite s a v m) := by
  unfold State.crossWrite
  repeat' first
    | (with_reducible exact Keeps.refl)
    | (with_reducible apply Keeps.wr)
    | (apply Keeps.next; (with_reducible apply kp_mbxSubmit); decide)
    | (apply Keeps.next; (with_reducible apply kp_plain); decide)
    | (apply Keeps.next; (with_reducible apply kp_digRptrWrite); decide)
    | (apply Keeps.next; (with_reducible apply kp_mbxDataWrite); decide)
    | (apply Keeps.next; (with_reducible apply kp_cpCtrlWrite); decide)
    | (apply Keeps.next; (with_reducible apply kp_cmdTakeover); decide)
    | (apply Keeps.next; (with_reducible apply kp_rejoinCmd); decide)
    | (with_reducible apply Keeps.when)
    | (with_reducible apply Keeps.ite)
    | (with_reducible apply Keeps.foldl)
    | intro _
    | split
    | dsimp only

end Sys2Proof.Machine
end

