-- ==== Sys2Proof/Laws/KeepsMetering.lean ====
section
/-! SUPPORT. Laws/KeepsMetering.lean: what each operation of Machine/Metering.lean keeps. -/

set_option Elab.async false

set_option linter.unusedTactic false
set_option linter.unusedSimpArgs false
set_option linter.unreachableTactic false

namespace Sys2Proof.Machine

theorem kp_meCkptAck (s : State) : Keeps 0 s (State.meCkptAck s) := by
  unfold State.meCkptAck
  repeat' first
    | (with_reducible exact Keeps.refl)
    | (with_reducible apply Keeps.wr)
    | (with_reducible apply Keeps.ite)
    | (with_reducible apply Keeps.foldl)
    | intro _
    | split
    | dsimp only

theorem kp_meCkptStore (s : State) : Keeps 268435456 s (State.meCkptStore s) := by
  unfold State.meCkptStore
  repeat' first
    | (with_reducible exact Keeps.refl)
    | (with_reducible apply Keeps.atBuilt; refine Keeps.upd ?_)
    | (simp only [Keeps.built])
    | (apply Keeps.next; (with_reducible apply kp_meCkptAck); decide)
    | (with_reducible apply Keeps.ite)
    | (with_reducible apply Keeps.foldl)
    | intro _
    | split
    | dsimp only

theorem kp_meFault (s : State) : Keeps 135364608 s (State.meFault s) := by
  unfold State.meFault
  repeat' first
    | (with_reducible exact Keeps.refl)
    | (with_reducible apply Keeps.atBuilt; refine Keeps.upd ?_)
    | (simp only [Keeps.built])
    | (apply Keeps.next; (with_reducible apply kp_raise); decide)
    | (with_reducible apply Keeps.ite)
    | (with_reducible apply Keeps.foldl)
    | intro _
    | split
    | dsimp only

theorem kp_setMe (s : State) (m : MeSt) : Keeps 134217728 s (State.setMe s m) := by
  unfold State.setMe
  repeat' first
    | (with_reducible exact Keeps.refl)
    | (with_reducible apply Keeps.atBuilt; refine Keeps.upd ?_)
    | (simp only [Keeps.built])
    | (with_reducible apply Keeps.ite)
    | (with_reducible apply Keeps.foldl)
    | intro _
    | split
    | dsimp only

theorem kp_meCheckpoint (s : State) (cause : Nat) : Keeps 135364608 s (State.meCheckpoint s cause) := by
  unfold State.meCheckpoint
  repeat' first
    | (with_reducible exact Keeps.refl)
    | (with_reducible apply Keeps.wr)
    | (apply Keeps.next; (with_reducible apply kp_meFault); decide)
    | (apply Keeps.next; (with_reducible apply kp_setMe); decide)
    | (apply Keeps.next; (with_reducible apply kp_flagRaise); decide)
    | (with_reducible apply Keeps.when)
    | (with_reducible apply Keeps.forEach)
    | (with_reducible apply Keeps.ite)
    | (with_reducible apply Keeps.foldl)
    | intro _
    | split
    | dsimp only

theorem kp_meApplyCal (s : State) : Keeps 134217728 s (State.meApplyCal s) := by
  unfold State.meApplyCal
  repeat' first
    | (with_reducible exact Keeps.refl)
    | (with_reducible apply Keeps.wr)
    | (apply Keeps.next; (with_reducible apply kp_setMe); decide)
    | (with_reducible apply Keeps.ite)
    | (with_reducible apply Keeps.foldl)
    | intro _
    | split
    | dsimp only

theorem kp_meCalRestore (s : State) : Keeps 135364610 s (State.meCalRestore s) := by
  unfold State.meCalRestore
  repeat' first
    | (with_reducible exact Keeps.refl)
    | (with_reducible apply Keeps.wr)
    | (apply Keeps.next; (with_reducible apply kp_flagRaise); decide)
    | (apply Keeps.next; (with_reducible apply kp_meApplyCal); decide)
    | (apply Keeps.next; (with_reducible apply kp_setMe); decide)
    | (apply Keeps.next; (with_reducible apply kp_wrOnce); decide)
    | (with_reducible apply Keeps.when)
    | (with_reducible apply Keeps.forEach)
    | (with_reducible apply Keeps.ite)
    | (with_reducible apply Keeps.foldl)
    | intro _
    | split
    | dsimp only

theorem kp_setMeAcc (s : State) (k : Nat) (v : Nat) : Keeps 0 s (State.setMeAcc s k v) := by
  unfold State.setMeAcc
  repeat' first
    | (with_reducible exact Keeps.refl)
    | (with_reducible apply Keeps.wr)
    | (with_reducible apply Keeps.ite)
    | (with_reducible apply Keeps.foldl)
    | intro _
    | split
    | dsimp only

theorem kp_setMeRun (s : State) (k : Nat) (v : Nat) : Keeps 134217728 s (State.setMeRun s k v) := by
  unfold State.setMeRun
  repeat' first
    | (with_reducible exact Keeps.refl)
    | (with_reducible apply Keeps.wr)
    | (apply Keeps.next; (with_reducible apply kp_setMe); decide)
    | (with_reducible apply Keeps.ite)
    | (with_reducible apply Keeps.foldl)
    | intro _
    | split
    | dsimp only

theorem kp_meRestore (s : State) : Keeps 135364608 s (State.meRestore s) := by
  unfold State.meRestore
  repeat' first
    | (with_reducible exact Keeps.refl)
    | (with_reducible apply Keeps.wr)
    | (apply Keeps.next; (with_reducible apply kp_meFault); decide)
    | (apply Keeps.next; (with_reducible apply kp_setMeAcc); decide)
    | (apply Keeps.next; (with_reducible apply kp_setMe); decide)
    | (apply Keeps.next; (with_reducible apply kp_setMeRun); decide)
    | (with_reducible apply Keeps.when)
    | (with_reducible apply Keeps.forEach)
    | (with_reducible apply Keeps.ite)
    | (with_reducible apply Keeps.foldl)
    | intro _
    | split
    | dsimp only

theorem kp_meCalLock (s : State) : Keeps 268435458 s (State.meCalLock s) := by
  unfold State.meCalLock
  repeat' first
    | (with_reducible exact Keeps.refl)
    | (with_reducible apply Keeps.atBuilt; refine Keeps.upd ?_)
    | (simp only [Keeps.built])
    | (apply Keeps.next; (with_reducible apply kp_wrOnce); decide)
    | (with_reducible apply Keeps.ite)
    | (with_reducible apply Keeps.foldl)
    | intro _
    | split
    | dsimp only

theorem kp_meEnable (s : State) : Keeps 134217728 s (State.meEnable s) := by
  unfold State.meEnable
  repeat' first
    | (with_reducible exact Keeps.refl)
    | (with_reducible apply Keeps.wr)
    | (apply Keeps.next; (with_reducible apply kp_setMe); decide)
    | (with_reducible apply Keeps.ite)
    | (with_reducible apply Keeps.foldl)
    | intro _
    | split
    | dsimp only

theorem kp_meDisable (s : State) : Keeps 134217728 s (State.meDisable s) := by
  unfold State.meDisable
  repeat' first
    | (with_reducible exact Keeps.refl)
    | (with_reducible apply Keeps.wr)
    | (apply Keeps.next; (with_reducible apply kp_setMe); decide)
    | (with_reducible apply Keeps.ite)
    | (with_reducible apply Keeps.foldl)
    | intro _
    | split
    | dsimp only

theorem kp_meSnapRequest (s : State) : Keeps 134217728 s (State.meSnapRequest s) := by
  unfold State.meSnapRequest
  repeat' first
    | (with_reducible exact Keeps.refl)
    | (apply Keeps.next; (with_reducible apply kp_setMe); decide)
    | (with_reducible apply Keeps.ite)
    | (with_reducible apply Keeps.foldl)
    | intro _
    | split
    | dsimp only

theorem kp_meSnapAck (s : State) : Keeps 0 s (State.meSnapAck s) := by
  unfold State.meSnapAck
  repeat' first
    | (with_reducible exact Keeps.refl)
    | (with_reducible apply Keeps.wr)
    | (with_reducible apply Keeps.ite)
    | (with_reducible apply Keeps.foldl)
    | intro _
    | split
    | dsimp only

theorem kp_meCkptRequest (s : State) (cause : Nat) : Keeps 134217728 s (State.meCkptRequest s cause) := by
  unfold State.meCkptRequest
  repeat' first
    | (with_reducible exact Keeps.refl)
    | (apply Keeps.next; (with_reducible apply kp_setMe); decide)
    | (with_reducible apply Keeps.ite)
    | (with_reducible apply Keeps.foldl)
    | intro _
    | split
    | dsimp only

theorem kp_meForce (s : State) : Keeps 134217728 s (State.meForce s) := by
  unfold State.meForce
  repeat' first
    | (with_reducible exact Keeps.refl)
    | (apply Keeps.next; (with_reducible apply kp_setMe); decide)
    | (with_reducible apply Keeps.ite)
    | (with_reducible apply Keeps.foldl)
    | intro _
    | split
    | dsimp only

theorem kp_meClrCounts (s : State) : Keeps 0 s (State.meClrCounts s) := by
  unfold State.meClrCounts
  repeat' first
    | (with_reducible exact Keeps.refl)
    | (with_reducible apply Keeps.wr)
    | (with_reducible apply Keeps.ite)
    | (with_reducible apply Keeps.foldl)
    | intro _
    | split
    | dsimp only

theorem kp_meCalWrite (s : State) (k : MeCal) (v : Nat) : Keeps 135364608 s (State.meCalWrite s k v) := by
  unfold State.meCalWrite
  repeat' first
    | (with_reducible exact Keeps.refl)
    | (with_reducible apply Keeps.wr)
    | (apply Keeps.next; (with_reducible apply kp_meFault); decide)
    | (apply Keeps.next; (with_reducible apply kp_setMe); decide)
    | (apply Keeps.next; (with_reducible apply kp_meApplyCal); decide)
    | (with_reducible apply Keeps.ite)
    | (with_reducible apply Keeps.foldl)
    | intro _
    | split
    | dsimp only

theorem kp_meAdd (s : State) (k : Nat) (e6 : Dyadic) : Keeps 134217728 s (State.meAdd s k e6) := by
  unfold State.meAdd
  repeat' first
    | (with_reducible exact Keeps.refl)
    | (with_reducible apply Keeps.wr)
    | (apply Keeps.next; (with_reducible apply kp_setMe); decide)
    | (apply Keeps.next; (with_reducible apply kp_setMeAcc); decide)
    | (apply Keeps.next; (with_reducible apply kp_setMeRun); decide)
    | (with_reducible apply Keeps.ite)
    | (with_reducible apply Keeps.foldl)
    | intro _
    | split
    | dsimp only

theorem kp_meBoundary (s : State) : Keeps 134217728 s (State.meBoundary s) := by
  unfold State.meBoundary
  repeat' first
    | (with_reducible exact Keeps.refl)
    | (apply Keeps.next; (with_reducible apply kp_setMe); decide)
    | (with_reducible apply Keeps.ite)
    | (with_reducible apply Keeps.foldl)
    | intro _
    | split
    | dsimp only

theorem kp_meIvalLatch (s : State) (endSec : Nat) (forced : Bool) : Keeps 135364608 s (State.meIvalLatch s endSec forced) := by
  unfold State.meIvalLatch
  repeat' first
    | (with_reducible exact Keeps.refl)
    | (with_reducible apply Keeps.wr)
    | (apply Keeps.next; (with_reducible apply kp_incWrap); decide)
    | (apply Keeps.next; (with_reducible apply kp_raise); decide)
    | (apply Keeps.next; (with_reducible apply kp_setMe); decide)
    | (with_reducible apply Keeps.forEach)
    | (with_reducible apply Keeps.ite)
    | (with_reducible apply Keeps.foldl)
    | intro _
    | split
    | dsimp only

theorem kp_meRegister (s : State) (k : Nat) (x : State.MeFlow) : Keeps 134217728 s (State.meRegister s k x) := by
  unfold State.meRegister
  repeat' first
    | (with_reducible exact Keeps.refl)
    | (apply Keeps.next; (with_reducible apply kp_incSat); decide)
    | (apply Keeps.next; (with_reducible apply kp_meAdd); decide)
    | (with_reducible apply Keeps.ite)
    | (with_reducible apply Keeps.foldl)
    | intro _
    | split
    | dsimp only

theorem kp_mePublish (s : State) (g : MeGran) : Keeps 135364608 s (State.mePublish s g) := by
  unfold State.mePublish
  repeat' first
    | (with_reducible exact Keeps.refl)
    | (with_reducible apply Keeps.wr)
    | (apply Keeps.next; (with_reducible apply kp_meFault); decide)
    | (apply Keeps.next; (with_reducible apply kp_setMe); decide)
    | (apply Keeps.next; (with_reducible apply kp_meRegister); decide)
    | (with_reducible apply Keeps.when)
    | (with_reducible apply Keeps.forEach)
    | (with_reducible apply Keeps.ite)
    | (with_reducible apply Keeps.foldl)
    | intro _
    | split
    | dsimp only

theorem kp_meSnapshot (s : State) : Keeps 135364608 s (State.meSnapshot s) := by
  unfold State.meSnapshot
  repeat' first
    | (with_reducible exact Keeps.refl)
    | (with_reducible apply Keeps.wr)
    | (apply Keeps.next; (with_reducible apply kp_flagRaise); decide)
    | (apply Keeps.next; (with_reducible apply kp_setMe); decide)
    | (with_reducible apply Keeps.when)
    | (with_reducible apply Keeps.forEach)
    | (with_reducible apply Keeps.ite)
    | (with_reducible apply Keeps.foldl)
    | intro _
    | split
    | dsimp only

theorem kp_meClose (s : State) : Keeps 135372800 s (State.meClose s) := by
  unfold State.meClose
  repeat' first
    | (with_reducible exact Keeps.refl)
    | (with_reducible apply Keeps.atBuilt; refine Keeps.upd ?_)
    | (simp only [Keeps.built])
    | (with_reducible apply Keeps.wr)
    | (apply Keeps.next; (with_reducible apply kp_setMe); decide)
    | (apply Keeps.next; (with_reducible apply kp_meIvalLatch); decide)
    | (apply Keeps.next; (with_reducible apply kp_mePublish); decide)
    | (apply Keeps.next; (with_reducible apply kp_incWrap); decide)
    | (apply Keeps.next; (with_reducible apply kp_meFault); decide)
    | (apply Keeps.next; (with_reducible apply kp_meSnapshot); decide)
    | (apply Keeps.next; (with_reducible apply kp_meCheckpoint); decide)
    | (with_reducible apply Keeps.when)
    | (with_reducible apply Keeps.ite)
    | (with_reducible apply Keeps.foldl)
    | intro _
    | split
    | dsimp only

theorem kp_meForm (s : State) : Keeps 134217728 s (State.meForm s) := by
  unfold State.meForm
  repeat' first
    | (with_reducible exact Keeps.refl)
    | (apply Keeps.next; (with_reducible apply kp_setMe); decide)
    | (with_reducible apply Keeps.ite)
    | (with_reducible apply Keeps.foldl)
    | intro _
    | split
    | dsimp only

theorem kp_meGranEdge (s : State) : Keeps 134217728 s (State.meGranEdge s) := by
  unfold State.meGranEdge
  repeat' first
    | (with_reducible exact Keeps.refl)
    | (with_reducible apply Keeps.wr)
    | (apply Keeps.next; (with_reducible apply kp_meApplyCal); decide)
    | (apply Keeps.next; (with_reducible apply kp_setMe); decide)
    | (with_reducible apply Keeps.when)
    | (with_reducible apply Keeps.forEach)
    | (with_reducible apply Keeps.ite)
    | (with_reducible apply Keeps.foldl)
    | intro _
    | split
    | dsimp only

theorem kp_meLost (s : State) : Keeps 134217728 s (State.meLost s) := by
  unfold State.meLost
  repeat' first
    | (with_reducible exact Keeps.refl)
    | (with_reducible apply Keeps.wr)
    | (apply Keeps.next; (with_reducible apply kp_setMe); decide)
    | (apply Keeps.next; (with_reducible apply kp_incSat); decide)
    | (with_reducible apply Keeps.ite)
    | (with_reducible apply Keeps.foldl)
    | intro _
    | split
    | dsimp only

theorem kp_meOvr (s : State) (ws : List Nat) : Keeps 135364608 s (State.meOvr s ws) := by
  unfold State.meOvr
  repeat' first
    | (with_reducible exact Keeps.refl)
    | (with_reducible apply Keeps.wr)
    | (apply Keeps.next; (with_reducible apply kp_meFault); decide)
    | (with_reducible apply Keeps.ite)
    | (with_reducible apply Keeps.foldl)
    | intro _
    | split
    | dsimp only

theorem kp_meSample (s : State) (ws : List Nat) : Keeps 135364608 s (State.meSample s ws) := by
  unfold State.meSample
  repeat' first
    | (with_reducible exact Keeps.refl)
    | (with_reducible apply Keeps.wr)
    | (apply Keeps.next; (with_reducible apply kp_setMe); decide)
    | (apply Keeps.next; (with_reducible apply kp_meGranEdge); decide)
    | (apply Keeps.next; (with_reducible apply kp_incSat); decide)
    | (apply Keeps.next; (with_reducible apply kp_meOvr); decide)
    | (apply Keeps.next; (with_reducible apply kp_meForm); decide)
    | (with_reducible apply Keeps.when)
    | (with_reducible apply Keeps.ite)
    | (with_reducible apply Keeps.foldl)
    | intro _
    | split
    | dsimp only

theorem kp_execMeterSampleSet (words : List Nat) (tick : Nat) (s : State) : KeepsN 135364608 s (execMeterSampleSet words tick s) := by
  unfold execMeterSampleSet
  repeat' first
    | (with_reducible exact Keeps.refl)
    | (with_reducible apply Keeps.out)
    | (apply Keeps.next; (with_reducible apply kp_meSample); decide)
    | (apply Keeps.next; (with_reducible apply kp_toTick); decide)
    | (with_reducible apply Keeps.ite)
    | (with_reducible apply Keeps.foldl)
    | intro _
    | split
    | dsimp only

theorem kp_execMeGranuleClose (s : State) : KeepsN 135372800 s (execMeGranuleClose s) := by
  unfold execMeGranuleClose
  repeat' first
    | (with_reducible exact Keeps.refl)
    | (with_reducible apply Keeps.out)
    | (apply Keeps.next; (with_reducible apply kp_meClose); decide)
    | (with_reducible apply Keeps.ite)
    | (with_reducible apply Keeps.foldl)
    | intro _
    | split
    | dsimp only

theorem kp_execMeGranuleLost (s : State) : KeepsN 134217728 s (execMeGranuleLost s) := by
  unfold execMeGranuleLost
  repeat' first
    | (with_reducible exact Keeps.refl)
    | (with_reducible apply Keeps.out)
    | (apply Keeps.next; (with_reducible apply kp_meLost); decide)
    | (with_reducible apply Keeps.ite)
    | (with_reducible apply Keeps.foldl)
    | intro _
    | split
    | dsimp only

theorem kp_execMeIntervalBoundary (s : State) : KeepsN 134217728 s (execMeIntervalBoundary s) := by
  unfold execMeIntervalBoundary
  repeat' first
    | (with_reducible exact Keeps.refl)
    | (with_reducible apply Keeps.out)
    | (apply Keeps.next; (with_reducible apply kp_meBoundary); decide)
    | (with_reducible apply Keeps.ite)
    | (with_reducible apply Keeps.foldl)
    | intro _
    | split
    | dsimp only

theorem kp_execMeCkptPeriod (s : State) : KeepsN 134217728 s (execMeCkptPeriod s) := by
  unfold execMeCkptPeriod
  repeat' first
    | (with_reducible exact Keeps.refl)
    | (with_reducible apply Keeps.out)
    | (apply Keeps.next; (with_reducible apply kp_meCkptRequest); decide)
    | (with_reducible apply Keeps.ite)
    | (with_reducible apply Keeps.foldl)
    | intro _
    | split
    | dsimp only

theorem kp_execMeCkptStore (s : State) : KeepsN 268435456 s (execMeCkptStore s) := by
  unfold execMeCkptStore
  repeat' first
    | (with_reducible exact Keeps.refl)
    | (with_reducible apply Keeps.out)
    | (apply Keeps.next; (with_reducible apply kp_meCkptStore); decide)
    | (with_reducible apply Keeps.ite)
    | (with_reducible apply Keeps.foldl)
    | intro _
    | split
    | dsimp only

theorem kp_meCommand {c : Nat} {s : State} {m : Master} {f : State → State} (hb : inMask c 8) (hf : ∀ s, Keeps c s (f s)) :
    KeepsN c s (meCommand m s f) := by
  unfold meCommand
  exact Keeps.out (Keeps.access hb Keeps.refl hf)

theorem kp_execMeSnap (m : Master) (s : State) : KeepsN 134217984 s (execMeSnap m s) := by
  unfold execMeSnap
  repeat' first
    | (with_reducible exact Keeps.refl)
    | (with_reducible apply Keeps.out)
    | (with_reducible apply kp_meCommand; decide)
    | (apply Keeps.next; (with_reducible apply kp_meSnapRequest); decide)
    | (with_reducible apply Keeps.ite)
    | (with_reducible apply Keeps.foldl)
    | intro _
    | split
    | dsimp only

theorem kp_execMeSnapAck (m : Master) (s : State) : KeepsN 256 s (execMeSnapAck m s) := by
  unfold execMeSnapAck
  repeat' first
    | (with_reducible exact Keeps.refl)
    | (with_reducible apply Keeps.out)
    | (with_reducible apply kp_meCommand; decide)
    | (apply Keeps.next; (with_reducible apply kp_meSnapAck); decide)
    | (with_reducible apply Keeps.ite)
    | (with_reducible apply Keeps.foldl)
    | intro _
    | split
    | dsimp only

theorem kp_execMeCkpt (m : Master) (s : State) : KeepsN 134217984 s (execMeCkpt m s) := by
  unfold execMeCkpt
  repeat' first
    | (with_reducible exact Keeps.refl)
    | (with_reducible apply Keeps.out)
    | (with_reducible apply kp_meCommand; decide)
    | (apply Keeps.next; (with_reducible apply kp_meCkptRequest); decide)
    | (with_reducible apply Keeps.ite)
    | (with_reducible apply Keeps.foldl)
    | intro _
    | split
    | dsimp only

theorem kp_execMeCkptAck (m : Master) (s : State) : KeepsN 256 s (execMeCkptAck m s) := by
  unfold execMeCkptAck
  repeat' first
    | (with_reducible exact Keeps.refl)
    | (with_reducible apply Keeps.out)
    | (with_reducible apply kp_meCommand; decide)
    | (apply Keeps.next; (with_reducible apply kp_meCkptAck); decide)
    | (with_reducible apply Keeps.ite)
    | (with_reducible apply Keeps.foldl)
    | intro _
    | split
    | dsimp only

theorem kp_execMeIvalClose (m : Master) (s : State) : KeepsN 134217984 s (execMeIvalClose m s) := by
  unfold execMeIvalClose
  repeat' first
    | (with_reducible exact Keeps.refl)
    | (with_reducible apply Keeps.out)
    | (with_reducible apply kp_meCommand; decide)
    | (apply Keeps.next; (with_reducible apply kp_meForce); decide)
    | (with_reducible apply Keeps.ite)
    | (with_reducible apply Keeps.foldl)
    | intro _
    | split
    | dsimp only

theorem kp_execMeRestore (m : Master) (s : State) : KeepsN 135364864 s (execMeRestore m s) := by
  unfold execMeRestore
  repeat' first
    | (with_reducible exact Keeps.refl)
    | (with_reducible apply Keeps.out)
    | (with_reducible apply kp_meCommand; decide)
    | (apply Keeps.next; (with_reducible apply kp_meRestore); decide)
    | (with_reducible apply Keeps.ite)
    | (with_reducible apply Keeps.foldl)
    | intro _
    | split
    | dsimp only

theorem kp_execMeClrCounts (m : Master) (s : State) : KeepsN 256 s (execMeClrCounts m s) := by
  unfold execMeClrCounts
  repeat' first
    | (with_reducible exact Keeps.refl)
    | (with_reducible apply Keeps.out)
    | (with_reducible apply kp_meCommand; decide)
    | (apply Keeps.next; (with_reducible apply kp_meClrCounts); decide)
    | (with_reducible apply Keeps.ite)
    | (with_reducible apply Keeps.foldl)
    | intro _
    | split
    | dsimp only

theorem kp_execMeEnable (m : Master) (s : State) : KeepsN 134217984 s (execMeEnable m s) := by
  unfold execMeEnable
  repeat' first
    | (with_reducible exact Keeps.refl)
    | (with_reducible apply Keeps.out)
    | (apply Keeps.next; (with_reducible apply kp_meEnable); decide)
    | (with_reducible apply Keeps.access; decide)
    | (with_reducible apply Keeps.ite)
    | (with_reducible apply Keeps.foldl)
    | intro _
    | split
    | dsimp only

theorem kp_execMeDisable (m : Master) (s : State) : KeepsN 134217984 s (execMeDisable m s) := by
  unfold execMeDisable
  repeat' first
    | (with_reducible exact Keeps.refl)
    | (with_reducible apply Keeps.out)
    | (apply Keeps.next; (with_reducible apply kp_meDisable); decide)
    | (with_reducible apply Keeps.access; decide)
    | (with_reducible apply Keeps.ite)
    | (with_reducible apply Keeps.foldl)
    | intro _
    | split
    | dsimp only

theorem kp_execMeCalWrite (m : Master) (r : MeCal) (value : Nat) (s : State) : KeepsN 135364864 s (execMeCalWrite m r value s) := by
  unfold execMeCalWrite
  repeat' first
    | (with_reducible exact Keeps.refl)
    | (with_reducible apply Keeps.out)
    | (apply Keeps.next; (with_reducible apply kp_meCalWrite); decide)
    | (with_reducible apply Keeps.access; decide)
    | (with_reducible apply Keeps.ite)
    | (with_reducible apply Keeps.foldl)
    | intro _
    | split
    | dsimp only

theorem kp_execMeCalLock (m : Master) (s : State) : KeepsN 268435714 s (execMeCalLock m s) := by
  unfold execMeCalLock
  repeat' first
    | (with_reducible exact Keeps.refl)
    | (with_reducible apply Keeps.out)
    | (apply Keeps.next; (with_reducible apply kp_meCalLock); decide)
    | (with_reducible apply Keeps.access; decide)
    | (with_reducible apply Keeps.ite)
    | (with_reducible apply Keeps.foldl)
    | intro _
    | split
    | dsimp only

theorem kp_execMeCalRestore (s : State) : KeepsN 135364610 s (execMeCalRestore s) := by
  unfold execMeCalRestore
  repeat' first
    | (with_reducible exact Keeps.refl)
    | (with_reducible apply Keeps.out)
    | (apply Keeps.next; (with_reducible apply kp_meCalRestore); decide)
    | (with_reducible apply Keeps.ite)
    | (with_reducible apply Keeps.foldl)
    | intro _
    | split
    | dsimp only

end Sys2Proof.Machine
end

