-- ==== Sys2Proof/Laws/KeepsResets.lean ====
section
/-! SUPPORT. Laws/KeepsResets.lean: what each operation of Machine/Resets.lean keeps. -/

set_option Elab.async false

set_option linter.unusedTactic false
set_option linter.unusedSimpArgs false
set_option linter.unreachableTactic false

namespace Sys2Proof.Machine

theorem kp_trialEnds (s : State) (types : List Nat) : Keeps 268435456 s (State.trialEnds s types) := by
  unfold State.trialEnds
  repeat' first
    | (with_reducible exact Keeps.refl)
    | (with_reducible apply Keeps.atBuilt; refine Keeps.upd ?_)
    | (simp only [Keeps.built])
    | (with_reducible apply Keeps.forEach)
    | (with_reducible apply Keeps.ite)
    | (with_reducible apply Keeps.foldl)
    | intro _
    | split
    | dsimp only

theorem kp_linesAgain (s : State) : Keeps 3244032 s (State.linesAgain s) := by
  unfold State.linesAgain
  repeat' first
    | (with_reducible exact Keeps.refl)
    | (apply Keeps.next; (with_reducible apply kp_setB); decide)
    | (apply Keeps.next; (with_reducible apply kp_enableLine); decide)
    | (with_reducible apply Keeps.when)
    | (with_reducible apply Keeps.ite)
    | (with_reducible apply Keeps.foldl)
    | intro _
    | split
    | dsimp only

theorem kp_crReset (s : State) : Keeps 838852658 s (State.crReset s) := by
  unfold State.crReset
  repeat' first
    | (with_reducible exact Keeps.refl)
    | (with_reducible apply Keeps.atBuilt; refine Keeps.upd ?_)
    | (simp only [Keeps.built])
    | (apply Keeps.next; (with_reducible apply kp_trialEnds); decide)
    | (apply Keeps.next; (with_reducible apply kp_linesAgain); decide)
    | (with_reducible apply Keeps.dropKeys; decide)
    | (with_reducible apply Keeps.ite)
    | (with_reducible apply Keeps.foldl)
    | intro _
    | split
    | dsimp only

theorem kp_drReset (s : State) : Keeps 235413514 s (State.drReset s) := by
  unfold State.drReset
  repeat' first
    | (with_reducible exact Keeps.refl)
    | (with_reducible apply Keeps.atBuilt; refine Keeps.upd ?_)
    | (simp only [Keeps.built])
    | (with_reducible apply Keeps.dropKeys; decide)
    | (with_reducible apply Keeps.ite)
    | (with_reducible apply Keeps.foldl)
    | intro _
    | split
    | dsimp only

theorem kp_mrReset (s : State) : Keeps 6711943746 s (State.mrReset s) := by
  unfold State.mrReset
  repeat' first
    | (with_reducible exact Keeps.refl)
    | (with_reducible apply Keeps.atBuilt; refine Keeps.upd ?_)
    | (simp only [Keeps.built])
    | (apply Keeps.next; (with_reducible apply kp_trialEnds); decide)
    | (with_reducible apply Keeps.dropKeys; decide)
    | (with_reducible apply Keeps.ite)
    | (with_reducible apply Keeps.foldl)
    | intro _
    | split
    | dsimp only

theorem kp_packageReset (s : State) (cause : Nat) : Keeps 17179869182 s (State.packageReset s cause) := by
  have hr : ∀ (u : State) c, Keeps 17179869182 u { State.reset with regs := u.regs, rw1 := u.rw1, bus := u.bus, now := u.now, freeCtr := u.freeCtr, nv := u.nv, umb := u.umb, clk := c, pending := u.pending } := fun u c => by
    rw [Keeps.built]
    refine Keeps.upd Keeps.refl (hs := fun h => ⟨rfl, rfl, rfl, rfl, rfl, rfl, rfl, rfl, rfl, rfl, rfl, rfl, rfl, h.trial⟩)
  have hd : ∀ (u : State) p, Keeps 17179869182 u (u.dropKeys p) := fun u p => Keeps.dropKeys (by decide) Keeps.refl
  unfold State.packageReset
  dsimp only
  refine Keeps.ite (Keeps.wr ?_) (Keeps.next (kp_setB ..) (by decide) ?_)
  · exact (((kp_trialEnds s _).mono (by decide)).trans (hd _ _)).trans (hr _ _)
  · exact (((kp_trialEnds s _).mono (by decide)).trans (hd _ _)).trans (hr _ _)

theorem kp_execPorst (dark : Bool) (s : State) : KeepsN 17179869182 s (execPorst dark s) := by
  unfold execPorst
  repeat' first
    | (with_reducible exact Keeps.refl)
    | (with_reducible apply Keeps.atBuilt; refine Keeps.upd ?_)
    | (simp only [Keeps.built])
    | (with_reducible apply Keeps.out)
    | (apply Keeps.next; (with_reducible apply kp_packageReset); decide)
    | (with_reducible apply Keeps.when)
    | (with_reducible apply Keeps.ite)
    | (with_reducible apply Keeps.foldl)
    | intro _
    | split
    | dsimp only

theorem kp_execPinrst (s : State) : KeepsN 17179869182 s (execPinrst s) := by
  unfold execPinrst
  repeat' first
    | (with_reducible exact Keeps.refl)
    | (with_reducible apply Keeps.out)
    | (apply Keeps.next; (with_reducible apply kp_packageReset); decide)
    | (with_reducible apply Keeps.ite)
    | (with_reducible apply Keeps.foldl)
    | intro _
    | split
    | dsimp only

theorem kp_execWdrst (s : State) : KeepsN 17179869182 s (execWdrst s) := by
  unfold execWdrst
  repeat' first
    | (with_reducible exact Keeps.refl)
    | (with_reducible apply Keeps.out)
    | (apply Keeps.next; (with_reducible apply kp_packageReset); decide)
    | (with_reducible apply Keeps.ite)
    | (with_reducible apply Keeps.foldl)
    | intro _
    | split
    | dsimp only

theorem kp_execFatalrst (s : State) : KeepsN 17179869182 s (execFatalrst s) := by
  unfold execFatalrst
  repeat' first
    | (with_reducible exact Keeps.refl)
    | (with_reducible apply Keeps.out)
    | (apply Keeps.next; (with_reducible apply kp_packageReset); decide)
    | (with_reducible apply Keeps.ite)
    | (with_reducible apply Keeps.foldl)
    | intro _
    | split
    | dsimp only

end Sys2Proof.Machine
end

