-- ==== Sys2Proof/Laws/KeepsSafetyChannel.lean ====
section
/-! SUPPORT. Laws/KeepsSafetyChannel.lean: what each operation of Machine/SafetyChannel.lean keeps. -/

set_option Elab.async false

set_option linter.unusedTactic false
set_option linter.unusedSimpArgs false
set_option linter.unreachableTactic false

namespace Sys2Proof.Machine

theorem kp_analogWindow (s : State) (w : Nat) (trip : Bool) : Keeps 3768832 s (State.analogWindow s w trip) := by
  unfold State.analogWindow
  repeat' first
    | (with_reducible exact Keeps.refl)
    | (apply Keeps.next; (with_reducible apply kp_putB); decide)
    | (apply Keeps.next; (with_reducible apply kp_setSafety); decide)
    | (apply Keeps.next; (with_reducible apply kp_raise); decide)
    | (apply Keeps.next; (with_reducible apply kp_sf4Apply); decide)
    | (apply Keeps.next; (with_reducible apply kp_sf1Update); decide)
    | (with_reducible apply Keeps.when)
    | (with_reducible apply Keeps.ite)
    | (with_reducible apply Keeps.foldl)
    | intro _
    | split
    | dsimp only

theorem kp_confirmClose (s : State) : Keeps 1146880 s (State.confirmClose s) := by
  unfold State.confirmClose
  repeat' first
    | (with_reducible exact Keeps.refl)
    | (with_reducible apply Keeps.wr)
    | (apply Keeps.next; (with_reducible apply kp_raise); decide)
    | (with_reducible apply Keeps.ite)
    | (with_reducible apply Keeps.foldl)
    | intro _
    | split
    | dsimp only

theorem kp_sprInstall (s : State) (ws : List Nat) : Keeps 524288 s (State.sprInstall s ws) := by
  unfold State.sprInstall
  repeat' first
    | (with_reducible exact Keeps.refl)
    | (with_reducible apply Keeps.wr)
    | (apply Keeps.next; (with_reducible apply kp_setSafety); decide)
    | (apply Keeps.next; (with_reducible apply kp_reconnectRestart); decide)
    | (with_reducible apply Keeps.ite)
    | (with_reducible apply Keeps.foldl)
    | intro _
    | split
    | dsimp only

theorem kp_pduStart (s : State) : Keeps 0 s (State.pduStart s) := by
  unfold State.pduStart
  repeat' first
    | (with_reducible exact Keeps.refl)
    | (with_reducible apply Keeps.wr)
    | (with_reducible apply Keeps.forEach)
    | (with_reducible apply Keeps.ite)
    | (with_reducible apply Keeps.foldl)
    | intro _
    | split
    | dsimp only

theorem kp_closeComplete (s : State) : Keeps 18579456 s (State.closeComplete s) := by
  unfold State.closeComplete
  repeat' first
    | (with_reducible exact Keeps.refl)
    | (apply Keeps.next; (with_reducible apply kp_raise); decide)
    | (apply Keeps.next; (with_reducible apply kp_setSafeState); decide)
    | (apply Keeps.next; (with_reducible apply kp_setSafety); decide)
    | (apply Keeps.next; (with_reducible apply kp_gsEnable); decide)
    | (apply Keeps.next; (with_reducible apply kp_safeClear); decide)
    | (with_reducible apply Keeps.ite)
    | (with_reducible apply Keeps.foldl)
    | intro _
    | split
    | dsimp only

theorem kp_sprConfirmed (s : State) : Keeps 270107136 s (State.sprConfirmed s) := by
  unfold State.sprConfirmed
  repeat' first
    | (with_reducible exact Keeps.refl)
    | (with_reducible apply Keeps.atBuilt; refine Keeps.upd ?_)
    | (simp only [Keeps.built])
    | (apply Keeps.next; (with_reducible apply kp_confirmClose); decide)
    | (apply Keeps.next; (with_reducible apply kp_setSafety); decide)
    | (apply Keeps.next; (with_reducible apply kp_pduStart); decide)
    | (apply Keeps.next; (with_reducible apply kp_raise); decide)
    | (apply Keeps.next; (with_reducible apply kp_reconnectRestart); decide)
    | (apply Keeps.next; (with_reducible apply kp_setSafeState); decide)
    | (apply Keeps.next; (with_reducible apply kp_safeView); decide)
    | (apply Keeps.next; (with_reducible apply kp_autoReconnect); decide)
    | (apply Keeps.next; (with_reducible apply kp_operSettle); decide)
    | (with_reducible apply Keeps.ite)
    | (with_reducible apply Keeps.foldl)
    | intro _
    | split
    | dsimp only

theorem kp_commKey (s : State) (inWindow : Nat) (held : Nat) : Keeps 270107136 s (State.commKey s inWindow held) := by
  unfold State.commKey
  repeat' first
    | (with_reducible exact Keeps.refl)
    | (apply Keeps.next; (with_reducible apply kp_sprConfirmed); decide)
    | (with_reducible apply Keeps.ite)
    | (with_reducible apply Keeps.foldl)
    | intro _
    | split
    | dsimp only

theorem kp_preStart (s : State) (n : Nat) (reset : Bool) : Keeps 524288 s (State.preStart s n reset) := by
  unfold State.preStart
  repeat' first
    | (with_reducible exact Keeps.refl)
    | (apply Keeps.next; (with_reducible apply kp_safeView); decide)
    | (apply Keeps.next; (with_reducible apply kp_setSafety); decide)
    | (with_reducible apply Keeps.ite)
    | (with_reducible apply Keeps.foldl)
    | intro _
    | split
    | dsimp only

theorem kp_stageStart (s : State) (stage : Nat) : Keeps 524288 s (State.stageStart s stage) := by
  unfold State.stageStart
  repeat' first
    | (with_reducible exact Keeps.refl)
    | (apply Keeps.next; (with_reducible apply kp_preStart); decide)
    | (with_reducible apply Keeps.ite)
    | (with_reducible apply Keeps.foldl)
    | intro _
    | split
    | dsimp only

theorem kp_connectRequest (s : State) : Keeps 524288 s (State.connectRequest s) := by
  unfold State.connectRequest
  repeat' first
    | (with_reducible exact Keeps.refl)
    | (apply Keeps.next; (with_reducible apply kp_setSafeState); decide)
    | (apply Keeps.next; (with_reducible apply kp_stageStart); decide)
    | (apply Keeps.next; (with_reducible apply kp_setSafety); decide)
    | (with_reducible apply Keeps.ite)
    | (with_reducible apply Keeps.foldl)
    | intro _
    | split
    | dsimp only

theorem kp_sf3Fail (s : State) (outs : Nat) : Keeps 3768832 s (State.sf3Fail s outs) := by
  unfold State.sf3Fail
  repeat' first
    | (with_reducible exact Keeps.refl)
    | (with_reducible apply Keeps.wr)
    | (apply Keeps.next; (with_reducible apply kp_raise); decide)
    | (apply Keeps.next; (with_reducible apply kp_setSafety); decide)
    | (apply Keeps.next; (with_reducible apply kp_safeLatch); decide)
    | (with_reducible apply Keeps.ite)
    | (with_reducible apply Keeps.foldl)
    | intro _
    | split
    | dsimp only

theorem kp_contactCheck (s : State) (a : Bool) (b : Bool) (held : Bool) : Keeps 20677120 s (State.contactCheck s a b held) := by
  unfold State.contactCheck
  repeat' first
    | (with_reducible exact Keeps.refl)
    | (apply Keeps.next; (with_reducible apply kp_sf3Fail); decide)
    | (apply Keeps.next; (with_reducible apply kp_stageStart); decide)
    | (apply Keeps.next; (with_reducible apply kp_closeComplete); decide)
    | (apply Keeps.next; (with_reducible apply kp_setSafety); decide)
    | (with_reducible apply Keeps.ite)
    | (with_reducible apply Keeps.foldl)
    | intro _
    | split
    | dsimp only

theorem kp_disconnectRequest (s : State) : Keeps 1671168 s (State.disconnectRequest s) := by
  unfold State.disconnectRequest
  repeat' first
    | (with_reducible exact Keeps.refl)
    | (apply Keeps.next; (with_reducible apply kp_openRelays); decide)
    | (with_reducible apply Keeps.ite)
    | (with_reducible apply Keeps.foldl)
    | intro _
    | split
    | dsimp only

theorem kp_energise (s : State) (stage : Nat) : Keeps 524288 s (State.energise s stage) := by
  unfold State.energise
  repeat' first
    | (with_reducible exact Keeps.refl)
    | (apply Keeps.next; (with_reducible apply kp_safeView); decide)
    | (apply Keeps.next; (with_reducible apply kp_setSafety); decide)
    | (with_reducible apply Keeps.ite)
    | (with_reducible apply Keeps.foldl)
    | intro _
    | split
    | dsimp only

theorem kp_sf2Begin (s : State) (f : Nat) : Keeps 3768832 s (State.sf2Begin s f) := by
  unfold State.sf2Begin
  repeat' first
    | (with_reducible exact Keeps.refl)
    | (apply Keeps.next; (with_reducible apply kp_sf2FaultHold); decide)
    | (apply Keeps.next; (with_reducible apply kp_openRelays); decide)
    | (apply Keeps.next; (with_reducible apply kp_sf4Apply); decide)
    | (apply Keeps.next; (with_reducible apply kp_raise); decide)
    | (apply Keeps.next; (with_reducible apply kp_setB); decide)
    | (with_reducible apply Keeps.ite)
    | (with_reducible apply Keeps.foldl)
    | intro _
    | split
    | dsimp only

theorem kp_inputFault (s : State) (f : Nat) (i : Nat) : Keeps 3768832 s (State.inputFault s f i) := by
  unfold State.inputFault
  repeat' first
    | (with_reducible exact Keeps.refl)
    | (apply Keeps.next; (with_reducible apply kp_raise); decide)
    | (apply Keeps.next; (with_reducible apply kp_setB); decide)
    | (apply Keeps.next; (with_reducible apply kp_safeLatch); decide)
    | (apply Keeps.next; (with_reducible apply kp_sf2Begin); decide)
    | (with_reducible apply Keeps.ite)
    | (with_reducible apply Keeps.foldl)
    | intro _
    | split
    | dsimp only

theorem kp_functionCompare (s : State) (f : Nat) : Keeps 3768832 s (State.functionCompare s f) := by
  unfold State.functionCompare
  repeat' first
    | (with_reducible exact Keeps.refl)
    | (apply Keeps.next; (with_reducible apply kp_setSafety); decide)
    | (apply Keeps.next; (with_reducible apply kp_inputFault); decide)
    | (with_reducible apply Keeps.ite)
    | (with_reducible apply Keeps.foldl)
    | intro _
    | split
    | dsimp only

theorem kp_gridWindows (s : State) (mask : Nat) (freq : Nat) : Keeps 3768832 s (State.gridWindows s mask freq) := by
  unfold State.gridWindows
  repeat' first
    | (with_reducible exact Keeps.refl)
    | (with_reducible apply Keeps.wr)
    | (apply Keeps.next; (with_reducible apply kp_setSafety); decide)
    | (apply Keeps.next; (with_reducible apply kp_sf1Update); decide)
    | (apply Keeps.next; (with_reducible apply kp_reconnectRestart); decide)
    | (apply Keeps.next; (with_reducible apply kp_raise); decide)
    | (with_reducible apply Keeps.ite)
    | (with_reducible apply Keeps.foldl)
    | intro _
    | split
    | dsimp only

theorem kp_inputSample (s : State) (t : Nat) (i : Nat) : Keeps 524288 s (State.inputSample s t i) := by
  unfold State.inputSample
  repeat' first
    | (with_reducible exact Keeps.refl)
    | (apply Keeps.next; (with_reducible apply kp_setSafety); decide)
    | (apply Keeps.next; (with_reducible apply kp_setB); decide)
    | (apply Keeps.next; (with_reducible apply kp_clrB); decide)
    | (with_reducible apply Keeps.ite)
    | (with_reducible apply Keeps.foldl)
    | intro _
    | split
    | dsimp only

theorem kp_offPulse (s : State) (slot : Nat) : Keeps 524288 s (State.offPulse s slot) := by
  unfold State.offPulse
  repeat' first
    | (with_reducible exact Keeps.refl)
    | (apply Keeps.next; (with_reducible apply kp_setSafety); decide)
    | (with_reducible apply Keeps.ite)
    | (with_reducible apply Keeps.foldl)
    | intro _
    | split
    | dsimp only

theorem kp_relayFault (s : State) (n : Nat) : Keeps 3768832 s (State.relayFault s n) := by
  unfold State.relayFault
  repeat' first
    | (with_reducible exact Keeps.refl)
    | (apply Keeps.next; (with_reducible apply kp_safeLatch); decide)
    | (apply Keeps.next; (with_reducible apply kp_raise); decide)
    | (with_reducible apply Keeps.ite)
    | (with_reducible apply Keeps.foldl)
    | intro _
    | split
    | dsimp only

theorem kp_readbackFault (s : State) (n : Nat) (high : Bool) : Keeps 3768832 s (State.readbackFault s n high) := by
  unfold State.readbackFault
  repeat' first
    | (with_reducible exact Keeps.refl)
    | (apply Keeps.next; (with_reducible apply kp_relayFault); decide)
    | (apply Keeps.next; (with_reducible apply kp_setB); decide)
    | (with_reducible apply Keeps.ite)
    | (with_reducible apply Keeps.foldl)
    | intro _
    | split
    | dsimp only

theorem kp_offPulseEnd (s : State) (offSeen : Bool) (otherKept : Bool) (onSeen : Bool) : Keeps 3768832 s (State.offPulseEnd s offSeen otherKept onSeen) := by
  unfold State.offPulseEnd
  repeat' first
    | (with_reducible exact Keeps.refl)
    | (apply Keeps.next; (with_reducible apply kp_setSafety); decide)
    | (apply Keeps.next; (with_reducible apply kp_putB); decide)
    | (apply Keeps.next; (with_reducible apply kp_readbackFault); decide)
    | (with_reducible apply Keeps.ite)
    | (with_reducible apply Keeps.foldl)
    | intro _
    | split
    | dsimp only

theorem kp_pduAccept (s : State) (c : Nat) (type : Nat) (seq : Nat) (lost : Nat) (payload : List Byte) : Keeps 3768832 s (State.pduAccept s c type seq lost payload) := by
  unfold State.pduAccept
  repeat' first
    | (with_reducible exact Keeps.refl)
    | (with_reducible apply Keeps.wr)
    | (apply Keeps.next; (with_reducible apply kp_addSat); decide)
    | (apply Keeps.next; (with_reducible apply kp_raise); decide)
    | (apply Keeps.next; (with_reducible apply kp_sf4Apply); decide)
    | (apply Keeps.next; (with_reducible apply kp_sf1Update); decide)
    | (with_reducible apply Keeps.forEach)
    | (with_reducible apply Keeps.ite)
    | (with_reducible apply Keeps.foldl)
    | intro _
    | split
    | dsimp only

theorem kp_pduFail (s : State) (c : Nat) (ev : Nat) : Keeps 3768832 s (State.pduFail s c ev) := by
  unfold State.pduFail
  repeat' first
    | (with_reducible exact Keeps.refl)
    | (with_reducible apply Keeps.wr)
    | (apply Keeps.next; (with_reducible apply kp_raise); decide)
    | (apply Keeps.next; (with_reducible apply kp_sf4Apply); decide)
    | (apply Keeps.next; (with_reducible apply kp_sf1Update); decide)
    | (with_reducible apply Keeps.ite)
    | (with_reducible apply Keeps.foldl)
    | intro _
    | split
    | dsimp only

theorem kp_pduDiscard (s : State) (c : Nat) (f : Fld) : Keeps 3768832 s (State.pduDiscard s c f) := by
  unfold State.pduDiscard
  repeat' first
    | (with_reducible exact Keeps.refl)
    | (apply Keeps.next; (with_reducible apply kp_setSafety); decide)
    | (apply Keeps.next; (with_reducible apply kp_incSat); decide)
    | (apply Keeps.next; (with_reducible apply kp_pduFail); decide)
    | (with_reducible apply Keeps.ite)
    | (with_reducible apply Keeps.foldl)
    | intro _
    | split
    | dsimp only

theorem kp_pduExpire (s : State) (c : Nat) : Keeps 3768832 s (State.pduExpire s c) := by
  unfold State.pduExpire
  repeat' first
    | (with_reducible exact Keeps.refl)
    | (apply Keeps.next; (with_reducible apply kp_pduFail); decide)
    | (with_reducible apply Keeps.ite)
    | (with_reducible apply Keeps.foldl)
    | intro _
    | split
    | dsimp only

theorem kp_pduJudge (s : State) (d : Option Nat) (bs : List Byte) : Keeps 3768832 s (State.pduJudge s d bs) := by
  unfold State.pduJudge
  repeat' first
    | (with_reducible exact Keeps.refl)
    | (apply Keeps.next; (with_reducible apply kp_pduDiscard); decide)
    | (apply Keeps.next; (with_reducible apply kp_pduAccept); decide)
    | (with_reducible apply Keeps.ite)
    | (with_reducible apply Keeps.foldl)
    | intro _
    | split
    | dsimp only

theorem kp_pduSend (s : State) (c : Nat) (type : Nat) (payload : List Byte) : Keeps 256 s (State.pduSend s c type payload) := by
  unfold State.pduSend
  repeat' first
    | (with_reducible exact Keeps.refl)
    | (with_reducible apply Keeps.wr)
    | (apply Keeps.next; (with_reducible apply kp_incWrap); decide)
    | (apply Keeps.next; (with_reducible apply kp_safeTxQueue); decide)
    | (with_reducible apply Keeps.forEach)
    | (with_reducible apply Keeps.ite)
    | (with_reducible apply Keeps.foldl)
    | intro _
    | split
    | dsimp only

theorem kp_pduStop (s : State) : Keeps 0 s (State.pduStop s) := by
  unfold State.pduStop
  repeat' first
    | (with_reducible exact Keeps.refl)
    | (with_reducible apply Keeps.wr)
    | (with_reducible apply Keeps.forEach)
    | (with_reducible apply Keeps.ite)
    | (with_reducible apply Keeps.foldl)
    | intro _
    | split
    | dsimp only

theorem kp_resetDone (s : State) : Keeps 524800 s (State.resetDone s) := by
  unfold State.resetDone
  repeat' first
    | (with_reducible exact Keeps.refl)
    | (with_reducible apply Keeps.wr)
    | (apply Keeps.next; (with_reducible apply kp_setSafety); decide)
    | (apply Keeps.next; (with_reducible apply kp_setSafeState); decide)
    | (apply Keeps.next; (with_reducible apply kp_sf2Leave); decide)
    | (apply Keeps.next; (with_reducible apply kp_safeView); decide)
    | (with_reducible apply Keeps.ite)
    | (with_reducible apply Keeps.foldl)
    | intro _
    | split
    | dsimp only

theorem kp_preStep (s : State) (h : Nat) (l : Nat) : Keeps 3768832 s (State.preStep s h l) := by
  unfold State.preStep
  repeat' first
    | (with_reducible exact Keeps.refl)
    | (apply Keeps.next; (with_reducible apply kp_putB); decide)
    | (apply Keeps.next; (with_reducible apply kp_relayFault); decide)
    | (apply Keeps.next; (with_reducible apply kp_setSafety); decide)
    | (apply Keeps.next; (with_reducible apply kp_preStart); decide)
    | (apply Keeps.next; (with_reducible apply kp_resetDone); decide)
    | (apply Keeps.next; (with_reducible apply kp_energise); decide)
    | (with_reducible apply Keeps.ite)
    | (with_reducible apply Keeps.foldl)
    | intro _
    | split
    | dsimp only

theorem kp_reconnectExpire (s : State) : Keeps 0 s (State.reconnectExpire s) := by
  unfold State.reconnectExpire
  repeat' first
    | (with_reducible exact Keeps.refl)
    | (with_reducible apply Keeps.wr)
    | (with_reducible apply Keeps.ite)
    | (with_reducible apply Keeps.foldl)
    | intro _
    | split
    | dsimp only

theorem kp_safetyReset (s : State) : KeepsP 524800 s (State.safetyReset s) := by
  unfold State.safetyReset
  repeat' first
    | (with_reducible exact Keeps.refl)
    | (with_reducible apply Keeps.wr)
    | (apply Keeps.next; (with_reducible apply kp_setSafety); decide)
    | (apply Keeps.next; (with_reducible apply kp_preStart); decide)
    | (apply Keeps.next; (with_reducible apply kp_resetDone); decide)
    | (with_reducible apply Keeps.forEach)
    | (with_reducible apply Keeps.ite)
    | (with_reducible apply Keeps.iteP)
    | (with_reducible exact Keeps.reflP)
    | (simp only [Keeps.pair_eq])
    | (with_reducible apply Keeps.snd)
    | (apply Keeps.of_pair; assumption)
    | (with_reducible apply Keeps.foldlP)
    | (with_reducible apply Keeps.foldl)
    | intro _
    | split
    | dsimp only

theorem kp_sf1Demand (s : State) (n : Nat) (present : Bool) : Keeps 3768832 s (State.sf1Demand s n present) := by
  unfold State.sf1Demand
  repeat' first
    | (with_reducible exact Keeps.refl)
    | (apply Keeps.next; (with_reducible apply kp_setSafety); decide)
    | (apply Keeps.next; (with_reducible apply kp_sf1Update); decide)
    | (with_reducible apply Keeps.ite)
    | (with_reducible apply Keeps.foldl)
    | intro _
    | split
    | dsimp only

theorem kp_sf2Demand (s : State) (f : Nat) : Keeps 3768832 s (State.sf2Demand s f) := by
  unfold State.sf2Demand
  repeat' first
    | (with_reducible exact Keeps.refl)
    | (apply Keeps.next; (with_reducible apply kp_safeView); decide)
    | (apply Keeps.next; (with_reducible apply kp_sf2Begin); decide)
    | (with_reducible apply Keeps.ite)
    | (with_reducible apply Keeps.foldl)
    | intro _
    | split
    | dsimp only

theorem kp_sf2Release (s : State) (f : Nat) : Keeps 1671680 s (State.sf2Release s f) := by
  unfold State.sf2Release
  repeat' first
    | (with_reducible exact Keeps.refl)
    | (apply Keeps.next; (with_reducible apply kp_raise); decide)
    | (apply Keeps.next; (with_reducible apply kp_clrB); decide)
    | (apply Keeps.next; (with_reducible apply kp_setSafety); decide)
    | (apply Keeps.next; (with_reducible apply kp_sf2Leave); decide)
    | (apply Keeps.next; (with_reducible apply kp_safeView); decide)
    | (with_reducible apply Keeps.ite)
    | (with_reducible apply Keeps.foldl)
    | intro _
    | split
    | dsimp only

theorem kp_sf4ApplyBy (s : State) (hsl : Bool) : Keeps 3768320 s (State.sf4ApplyBy s hsl) := by
  unfold State.sf4ApplyBy
  repeat' first
    | (with_reducible exact Keeps.refl)
    | (apply Keeps.next; (with_reducible apply kp_sf4Drive); decide)
    | (apply Keeps.next; (with_reducible apply kp_relaysOff); decide)
    | (apply Keeps.next; (with_reducible apply kp_raise); decide)
    | (apply Keeps.next; (with_reducible apply kp_setSafeState); decide)
    | (with_reducible apply Keeps.ite)
    | (with_reducible apply Keeps.foldl)
    | intro _
    | split
    | dsimp only

theorem kp_sinSample (s : State) (levels : Nat) (t : Nat) : Keeps 3768832 s (State.sinSample s levels t) := by
  unfold State.sinSample
  repeat' first
    | (with_reducible exact Keeps.refl)
    | (with_reducible apply Keeps.wr)
    | (apply Keeps.next; (with_reducible apply kp_inputSample); decide)
    | (apply Keeps.next; (with_reducible apply kp_safeView); decide)
    | (apply Keeps.next; (with_reducible apply kp_functionCompare); decide)
    | (with_reducible apply Keeps.forEach)
    | (with_reducible apply Keeps.ite)
    | (with_reducible apply Keeps.foldl)
    | intro _
    | split
    | dsimp only

theorem kp_sprLoad (s : State) (ws : List Nat) : KeepsP 270106624 s (State.sprLoad s ws) := by
  unfold State.sprLoad
  repeat' first
    | (with_reducible exact Keeps.refl)
    | (with_reducible apply Keeps.atBuilt; refine Keeps.upd ?_)
    | (simp only [Keeps.built])
    | (with_reducible apply Keeps.wr)
    | (apply Keeps.next; (with_reducible apply kp_raise); decide)
    | (apply Keeps.next; (with_reducible apply kp_relaysOff); decide)
    | (apply Keeps.next; (with_reducible apply kp_confirmClose); decide)
    | (apply Keeps.next; (with_reducible apply kp_setSafety); decide)
    | (apply Keeps.next; (with_reducible apply kp_setSafeState); decide)
    | (apply Keeps.next; (with_reducible apply kp_pduStop); decide)
    | (apply Keeps.next; (with_reducible apply kp_sprInstall); decide)
    | (apply Keeps.next; (with_reducible apply kp_safeView); decide)
    | (with_reducible apply Keeps.ite)
    | (with_reducible apply Keeps.iteP)
    | (with_reducible exact Keeps.reflP)
    | (simp only [Keeps.pair_eq])
    | (with_reducible apply Keeps.snd)
    | (apply Keeps.of_pair; assumption)
    | (with_reducible apply Keeps.foldlP)
    | (with_reducible apply Keeps.foldl)
    | intro _
    | split
    | dsimp only

theorem kp_sprConfirm (s : State) (value : Nat) : KeepsP 1671168 s (State.sprConfirm s value) := by
  unfold State.sprConfirm
  repeat' first
    | (with_reducible exact Keeps.refl)
    | (with_reducible apply Keeps.wr)
    | (apply Keeps.next; (with_reducible apply kp_setSafety); decide)
    | (apply Keeps.next; (with_reducible apply kp_raise); decide)
    | (with_reducible apply Keeps.ite)
    | (with_reducible apply Keeps.iteP)
    | (with_reducible exact Keeps.reflP)
    | (simp only [Keeps.pair_eq])
    | (with_reducible apply Keeps.snd)
    | (apply Keeps.of_pair; assumption)
    | (with_reducible apply Keeps.foldlP)
    | (with_reducible apply Keeps.foldl)
    | intro _
    | split
    | dsimp only

theorem kp_tpoPulse (s : State) (src : Nat) (before : Nat) (early : Nat) (window : Nat) (readback : Bool) : Keeps 3768832 s (State.tpoPulse s src before early window readback) := by
  unfold State.tpoPulse
  repeat' first
    | (with_reducible exact Keeps.refl)
    | (with_reducible apply Keeps.wr)
    | (apply Keeps.next; (with_reducible apply kp_putB); decide)
    | (apply Keeps.next; (with_reducible apply kp_setSafety); decide)
    | (apply Keeps.next; (with_reducible apply kp_inputFault); decide)
    | (apply Keeps.next; (with_reducible apply kp_clrB); decide)
    | (apply Keeps.next; (with_reducible apply kp_safeView); decide)
    | (with_reducible apply Keeps.forEach)
    | (with_reducible apply Keeps.ite)
    | (with_reducible apply Keeps.foldl)
    | intro _
    | split
    | dsimp only

theorem kp_windowsArm (s : State) : Keeps 524288 s (State.windowsArm s) := by
  unfold State.windowsArm
  repeat' first
    | (with_reducible exact Keeps.refl)
    | (with_reducible apply Keeps.wr)
    | (apply Keeps.next; (with_reducible apply kp_safeView); decide)
    | (apply Keeps.next; (with_reducible apply kp_reconnectRestart); decide)
    | (apply Keeps.next; (with_reducible apply kp_setSafety); decide)
    | (with_reducible apply Keeps.ite)
    | (with_reducible apply Keeps.foldl)
    | intro _
    | split
    | dsimp only

theorem kp_xmonDiscrepancy (s : State) : Keeps 3768832 s (State.xmonDiscrepancy s) := by
  unfold State.xmonDiscrepancy
  repeat' first
    | (with_reducible exact Keeps.refl)
    | (apply Keeps.next; (with_reducible apply kp_safeLatch); decide)
    | (apply Keeps.next; (with_reducible apply kp_raise); decide)
    | (apply Keeps.next; (with_reducible apply kp_incSat); decide)
    | (with_reducible apply Keeps.ite)
    | (with_reducible apply Keeps.foldl)
    | intro _
    | split
    | dsimp only

theorem kp_xmonFrame (s : State) (toHsl : Bool) (f : XmonFrame) : Keeps 524288 s (State.xmonFrame s toHsl f) := by
  unfold State.xmonFrame
  repeat' first
    | (with_reducible exact Keeps.refl)
    | (apply Keeps.next; (with_reducible apply kp_incSat); decide)
    | (apply Keeps.next; (with_reducible apply kp_setSafety); decide)
    | (with_reducible apply Keeps.ite)
    | (with_reducible apply Keeps.foldl)
    | intro _
    | split
    | dsimp only

theorem kp_xmonTimeout (s : State) (bySc : Bool) : Keeps 3768832 s (State.xmonTimeout s bySc) := by
  unfold State.xmonTimeout
  repeat' first
    | (with_reducible exact Keeps.refl)
    | (apply Keeps.next; (with_reducible apply kp_safeLatch); decide)
    | (apply Keeps.next; (with_reducible apply kp_raise); decide)
    | (apply Keeps.next; (with_reducible apply kp_setSafety); decide)
    | (with_reducible apply Keeps.ite)
    | (with_reducible apply Keeps.foldl)
    | intro _
    | split
    | dsimp only

theorem kp_execSafetyPduReceive (l : Nat) (seq : Nat) (addr : Nat) (words : List Nat) (s : State) : KeepsN 540639744 s (execSafetyPduReceive l seq addr words s) := by
  unfold execSafetyPduReceive
  repeat' first
    | (with_reducible exact Keeps.refl)
    | (with_reducible apply Keeps.out)
    | (apply Keeps.nextP; (with_reducible apply kp_safetyTake); decide)
    | (apply Keeps.next; (with_reducible apply kp_pduJudge); decide)
    | (with_reducible apply Keeps.ite)
    | (with_reducible exact Keeps.reflP)
    | (simp only [Keeps.pair_eq])
    | (with_reducible apply Keeps.snd)
    | (apply Keeps.of_pair; assumption)
    | (with_reducible apply Keeps.iteP)
    | (with_reducible apply Keeps.foldlP)
    | (with_reducible apply Keeps.foldl)
    | intro _
    | split
    | dsimp only

theorem kp_execXmonFrame (toHsl : Bool) (f : XmonFrame) (s : State) : KeepsN 524288 s (execXmonFrame toHsl f s) := by
  unfold execXmonFrame
  repeat' first
    | (with_reducible exact Keeps.refl)
    | (with_reducible apply Keeps.out)
    | (apply Keeps.next; (with_reducible apply kp_xmonFrame); decide)
    | (with_reducible apply Keeps.ite)
    | (with_reducible apply Keeps.foldl)
    | intro _
    | split
    | dsimp only

theorem kp_execXmonTimeout (bySc : Bool) (s : State) : KeepsN 3768832 s (execXmonTimeout bySc s) := by
  unfold execXmonTimeout
  repeat' first
    | (with_reducible exact Keeps.refl)
    | (with_reducible apply Keeps.out)
    | (apply Keeps.next; (with_reducible apply kp_xmonTimeout); decide)
    | (with_reducible apply Keeps.ite)
    | (with_reducible apply Keeps.foldl)
    | intro _
    | split
    | dsimp only

theorem kp_execXmonDiscrepancy (s : State) : KeepsN 3768832 s (execXmonDiscrepancy s) := by
  unfold execXmonDiscrepancy
  repeat' first
    | (with_reducible exact Keeps.refl)
    | (with_reducible apply Keeps.out)
    | (apply Keeps.next; (with_reducible apply kp_xmonDiscrepancy); decide)
    | (with_reducible apply Keeps.ite)
    | (with_reducible apply Keeps.foldl)
    | intro _
    | split
    | dsimp only

theorem kp_execSafeSf1Demand (n : Nat) (present : Bool) (s : State) : KeepsN 3768832 s (execSafeSf1Demand n present s) := by
  unfold execSafeSf1Demand
  repeat' first
    | (with_reducible exact Keeps.refl)
    | (with_reducible apply Keeps.out)
    | (apply Keeps.next; (with_reducible apply kp_sf1Demand); decide)
    | (with_reducible apply Keeps.ite)
    | (with_reducible apply Keeps.foldl)
    | intro _
    | split
    | dsimp only

theorem kp_execSinSample (levels : Nat) (t : Nat) (s : State) : KeepsN 3768832 s (execSinSample levels t s) := by
  unfold execSinSample
  repeat' first
    | (with_reducible exact Keeps.refl)
    | (with_reducible apply Keeps.out)
    | (apply Keeps.next; (with_reducible apply kp_sinSample); decide)
    | (with_reducible apply Keeps.ite)
    | (with_reducible apply Keeps.foldl)
    | intro _
    | split
    | dsimp only

theorem kp_execSafeSf2Demand (f : Nat) (s : State) : KeepsN 3768832 s (execSafeSf2Demand f s) := by
  unfold execSafeSf2Demand
  repeat' first
    | (with_reducible exact Keeps.refl)
    | (with_reducible apply Keeps.out)
    | (apply Keeps.next; (with_reducible apply kp_sf2Demand); decide)
    | (with_reducible apply Keeps.ite)
    | (with_reducible apply Keeps.foldl)
    | intro _
    | split
    | dsimp only

theorem kp_execSafeSf2Release (f : Nat) (s : State) : KeepsN 1671680 s (execSafeSf2Release f s) := by
  unfold execSafeSf2Release
  repeat' first
    | (with_reducible exact Keeps.refl)
    | (with_reducible apply Keeps.out)
    | (apply Keeps.next; (with_reducible apply kp_sf2Release); decide)
    | (with_reducible apply Keeps.ite)
    | (with_reducible apply Keeps.foldl)
    | intro _
    | split
    | dsimp only

theorem kp_execSafeSf4Apply (hsl : Bool) (s : State) : KeepsN 3768320 s (execSafeSf4Apply hsl s) := by
  unfold execSafeSf4Apply
  repeat' first
    | (with_reducible exact Keeps.refl)
    | (with_reducible apply Keeps.out)
    | (apply Keeps.next; (with_reducible apply kp_sf4ApplyBy); decide)
    | (with_reducible apply Keeps.ite)
    | (with_reducible apply Keeps.foldl)
    | intro _
    | split
    | dsimp only

theorem kp_execSafeSf4Release (s : State) : KeepsN 3768320 s (execSafeSf4Release s) := by
  unfold execSafeSf4Release
  repeat' first
    | (with_reducible exact Keeps.refl)
    | (with_reducible apply Keeps.out)
    | (apply Keeps.next; (with_reducible apply kp_sf4Release); decide)
    | (with_reducible apply Keeps.ite)
    | (with_reducible apply Keeps.foldl)
    | intro _
    | split
    | dsimp only

theorem kp_execTpoPulse (src : Nat) (before : Nat) (early : Nat) (window : Nat) (readback : Bool) (s : State) : KeepsN 3768832 s (execTpoPulse src before early window readback s) := by
  unfold execTpoPulse
  repeat' first
    | (with_reducible exact Keeps.refl)
    | (with_reducible apply Keeps.out)
    | (apply Keeps.next; (with_reducible apply kp_tpoPulse); decide)
    | (with_reducible apply Keeps.ite)
    | (with_reducible apply Keeps.foldl)
    | intro _
    | split
    | dsimp only

theorem kp_execCommKeyPress (inWindow : Nat) (held : Nat) (s : State) : KeepsN 270107136 s (execCommKeyPress inWindow held s) := by
  unfold execCommKeyPress
  repeat' first
    | (with_reducible exact Keeps.refl)
    | (with_reducible apply Keeps.out)
    | (apply Keeps.next; (with_reducible apply kp_commKey); decide)
    | (with_reducible apply Keeps.ite)
    | (with_reducible apply Keeps.foldl)
    | intro _
    | split
    | dsimp only

theorem kp_execConfirmWindowExpire (s : State) : KeepsN 1146880 s (execConfirmWindowExpire s) := by
  unfold execConfirmWindowExpire
  repeat' first
    | (with_reducible exact Keeps.refl)
    | (with_reducible apply Keeps.out)
    | (apply Keeps.next; (with_reducible apply kp_confirmClose); decide)
    | (with_reducible apply Keeps.ite)
    | (with_reducible apply Keeps.foldl)
    | intro _
    | split
    | dsimp only

theorem kp_execSafeConnectRequest (s : State) : KeepsN 524288 s (execSafeConnectRequest s) := by
  unfold execSafeConnectRequest
  repeat' first
    | (with_reducible exact Keeps.refl)
    | (with_reducible apply Keeps.out)
    | (apply Keeps.next; (with_reducible apply kp_connectRequest); decide)
    | (with_reducible apply Keeps.ite)
    | (with_reducible apply Keeps.foldl)
    | intro _
    | split
    | dsimp only

theorem kp_execSafePreEnergiseStep (h : Nat) (l : Nat) (s : State) : KeepsN 3768832 s (execSafePreEnergiseStep h l s) := by
  unfold execSafePreEnergiseStep
  repeat' first
    | (with_reducible exact Keeps.refl)
    | (with_reducible apply Keeps.out)
    | (apply Keeps.next; (with_reducible apply kp_preStep); decide)
    | (with_reducible apply Keeps.ite)
    | (with_reducible apply Keeps.foldl)
    | intro _
    | split
    | dsimp only

theorem kp_execSafeContactCheck (a : Bool) (b : Bool) (held : Bool) (s : State) : KeepsN 20677120 s (execSafeContactCheck a b held s) := by
  unfold execSafeContactCheck
  repeat' first
    | (with_reducible exact Keeps.refl)
    | (with_reducible apply Keeps.out)
    | (apply Keeps.next; (with_reducible apply kp_contactCheck); decide)
    | (with_reducible apply Keeps.ite)
    | (with_reducible apply Keeps.foldl)
    | intro _
    | split
    | dsimp only

theorem kp_execSafeDisconnectRequest (s : State) : KeepsN 1671168 s (execSafeDisconnectRequest s) := by
  unfold execSafeDisconnectRequest
  repeat' first
    | (with_reducible exact Keeps.refl)
    | (with_reducible apply Keeps.out)
    | (apply Keeps.next; (with_reducible apply kp_disconnectRequest); decide)
    | (with_reducible apply Keeps.ite)
    | (with_reducible apply Keeps.foldl)
    | intro _
    | split
    | dsimp only

theorem kp_execRelayOffPulse (slot : Nat) (s : State) : KeepsN 524288 s (execRelayOffPulse slot s) := by
  unfold execRelayOffPulse
  repeat' first
    | (with_reducible exact Keeps.refl)
    | (with_reducible apply Keeps.out)
    | (apply Keeps.next; (with_reducible apply kp_offPulse); decide)
    | (with_reducible apply Keeps.ite)
    | (with_reducible apply Keeps.foldl)
    | intro _
    | split
    | dsimp only

theorem kp_execRelayOffPulseEnd (offSeen : Bool) (otherKept : Bool) (onSeen : Bool) (s : State) : KeepsN 3768832 s (execRelayOffPulseEnd offSeen otherKept onSeen s) := by
  unfold execRelayOffPulseEnd
  repeat' first
    | (with_reducible exact Keeps.refl)
    | (with_reducible apply Keeps.out)
    | (apply Keeps.next; (with_reducible apply kp_offPulseEnd); decide)
    | (with_reducible apply Keeps.ite)
    | (with_reducible apply Keeps.foldl)
    | intro _
    | split
    | dsimp only

theorem kp_execRelayReadbackFault (n : Nat) (high : Bool) (s : State) : KeepsN 3768832 s (execRelayReadbackFault n high s) := by
  unfold execRelayReadbackFault
  repeat' first
    | (with_reducible exact Keeps.refl)
    | (with_reducible apply Keeps.out)
    | (apply Keeps.next; (with_reducible apply kp_readbackFault); decide)
    | (with_reducible apply Keeps.ite)
    | (with_reducible apply Keeps.foldl)
    | intro _
    | split
    | dsimp only

theorem kp_execReconnectTimerExpire (s : State) : KeepsN 0 s (execReconnectTimerExpire s) := by
  unfold execReconnectTimerExpire
  repeat' first
    | (with_reducible exact Keeps.refl)
    | (with_reducible apply Keeps.out)
    | (apply Keeps.next; (with_reducible apply kp_reconnectExpire); decide)
    | (with_reducible apply Keeps.ite)
    | (with_reducible apply Keeps.foldl)
    | intro _
    | split
    | dsimp only

theorem kp_execHslGridWindowTrip (mask : Nat) (freq : Nat) (s : State) : KeepsN 3768832 s (execHslGridWindowTrip mask freq s) := by
  unfold execHslGridWindowTrip
  repeat' first
    | (with_reducible exact Keeps.refl)
    | (with_reducible apply Keeps.out)
    | (apply Keeps.next; (with_reducible apply kp_gridWindows); decide)
    | (with_reducible apply Keeps.ite)
    | (with_reducible apply Keeps.foldl)
    | intro _
    | split
    | dsimp only

theorem kp_execHslAnalogWindowTrip (w : Nat) (trip : Bool) (s : State) : KeepsN 3768832 s (execHslAnalogWindowTrip w trip s) := by
  unfold execHslAnalogWindowTrip
  repeat' first
    | (with_reducible exact Keeps.refl)
    | (with_reducible apply Keeps.out)
    | (apply Keeps.next; (with_reducible apply kp_analogWindow); decide)
    | (with_reducible apply Keeps.ite)
    | (with_reducible apply Keeps.foldl)
    | intro _
    | split
    | dsimp only

theorem kp_execHslWindowsArm (s : State) : KeepsN 524288 s (execHslWindowsArm s) := by
  unfold execHslWindowsArm
  repeat' first
    | (with_reducible exact Keeps.refl)
    | (with_reducible apply Keeps.out)
    | (apply Keeps.next; (with_reducible apply kp_windowsArm); decide)
    | (with_reducible apply Keeps.ite)
    | (with_reducible apply Keeps.foldl)
    | intro _
    | split
    | dsimp only

theorem kp_execPduSend (c : Nat) (type : Nat) (payload : List Byte) (s : State) : KeepsN 256 s (execPduSend c type payload s) := by
  unfold execPduSend
  repeat' first
    | (with_reducible exact Keeps.refl)
    | (with_reducible apply Keeps.out)
    | (apply Keeps.next; (with_reducible apply kp_pduSend); decide)
    | (with_reducible apply Keeps.ite)
    | (with_reducible apply Keeps.foldl)
    | intro _
    | split
    | dsimp only

theorem kp_execPduWatchdogExpire (c : Nat) (s : State) : KeepsN 3768832 s (execPduWatchdogExpire c s) := by
  unfold execPduWatchdogExpire
  repeat' first
    | (with_reducible exact Keeps.refl)
    | (with_reducible apply Keeps.out)
    | (apply Keeps.next; (with_reducible apply kp_pduExpire); decide)
    | (with_reducible apply Keeps.ite)
    | (with_reducible apply Keeps.foldl)
    | intro _
    | split
    | dsimp only

theorem kp_execSafeSelfCheckFail (s : State) : KeepsN 3768832 s (execSafeSelfCheckFail s) := by
  unfold execSafeSelfCheckFail
  repeat' first
    | (with_reducible exact Keeps.refl)
    | (with_reducible apply Keeps.out)
    | (apply Keeps.next; (with_reducible apply kp_safeLatch); decide)
    | (apply Keeps.next; (with_reducible apply kp_raise); decide)
    | (with_reducible apply Keeps.ite)
    | (with_reducible apply Keeps.foldl)
    | intro _
    | split
    | dsimp only

end Sys2Proof.Machine
end

