-- ==== Sys2Proof/Laws/KeepsTppOps.lean ====
section
/-! SUPPORT. Laws/KeepsTppOps.lean: what each operation of Machine/TppOps.lean keeps. -/

set_option Elab.async false

set_option linter.unusedTactic false
set_option linter.unusedSimpArgs false
set_option linter.unreachableTactic false

namespace Sys2Proof.Machine

theorem kp_setPort (s : State) (p : Port) (v : PortSt) : Keeps 1048576 s (State.setPort s p v) := by
  unfold State.setPort
  repeat' first
    | (with_reducible exact Keeps.refl)
    | (with_reducible apply Keeps.atBuilt; refine Keeps.upd ?_)
    | (simp only [Keeps.built])
    | (with_reducible apply Keeps.ite)
    | (with_reducible apply Keeps.foldl)
    | intro _
    | split
    | dsimp only

theorem kp_dropHandshake (s : State) (p : Port) : Keeps 1048576 s (State.dropHandshake s p) := by
  unfold State.dropHandshake
  repeat' first
    | (with_reducible exact Keeps.refl)
    | (apply Keeps.next; (with_reducible apply kp_setPort); decide)
    | (with_reducible apply Keeps.ite)
    | (with_reducible apply Keeps.foldl)
    | intro _
    | split
    | dsimp only

theorem kp_sessionShow (s : State) : Keeps 0 s (State.sessionShow s) := by
  unfold State.sessionShow
  repeat' first
    | (with_reducible exact Keeps.refl)
    | (with_reducible apply Keeps.wr)
    | (with_reducible apply Keeps.ite)
    | (with_reducible apply Keeps.foldl)
    | intro _
    | split
    | dsimp only

theorem kp_endSession (s : State) (p : Port) : Keeps 1146880 s (State.endSession s p) := by
  unfold State.endSession
  repeat' first
    | (with_reducible exact Keeps.refl)
    | (apply Keeps.next; (with_reducible apply kp_dropHandshake); decide)
    | (apply Keeps.next; (with_reducible apply kp_raise); decide)
    | (apply Keeps.next; (with_reducible apply kp_sessionShow); decide)
    | (apply Keeps.next; (with_reducible apply kp_setPort); decide)
    | (with_reducible apply Keeps.ite)
    | (with_reducible apply Keeps.foldl)
    | intro _
    | split
    | dsimp only

theorem kp_endSessions (s : State) : Keeps 1146880 s (State.endSessions s) := by
  unfold State.endSessions
  repeat' first
    | (with_reducible exact Keeps.refl)
    | (apply Keeps.next; (with_reducible apply kp_endSession); decide)
    | (with_reducible apply Keeps.forEach)
    | (with_reducible apply Keeps.ite)
    | (with_reducible apply Keeps.foldl)
    | intro _
    | split
    | dsimp only

theorem kp_serviceUnplug (s : State) : Keeps 1146880 s (State.serviceUnplug s) := by
  unfold State.serviceUnplug
  repeat' first
    | (with_reducible exact Keeps.refl)
    | (with_reducible apply Keeps.atBuilt; refine Keeps.upd ?_)
    | (simp only [Keeps.built])
    | (apply Keeps.next; (with_reducible apply kp_endSession); decide)
    | (apply Keeps.next; (with_reducible apply kp_setPort); decide)
    | (with_reducible apply Keeps.ite)
    | (with_reducible apply Keeps.foldl)
    | intro _
    | split
    | dsimp only

end Sys2Proof.Machine
end

