-- ==== Sys2Proof/Laws/KeepsUmbra.lean ====
section
/-! SUPPORT. Laws/KeepsUmbra.lean: what each operation of Machine/Umbra.lean keeps. -/

set_option Elab.async false

set_option linter.unusedTactic false
set_option linter.unusedSimpArgs false
set_option linter.unreachableTactic false

namespace Sys2Proof.Machine

theorem kp_setUmb (s : State) (f : UmbSt → UmbSt) : Keeps 1073741824 s (State.setUmb s f) := by
  unfold State.setUmb
  repeat' first
    | (with_reducible exact Keeps.refl)
    | (with_reducible apply Keeps.atBuilt; refine Keeps.upd ?_)
    | (simp only [Keeps.built])
    | (with_reducible apply Keeps.ite)
    | (with_reducible apply Keeps.foldl)
    | intro _
    | split
    | dsimp only

theorem kp_umbRaise (s : State) (ev : Nat) : Keeps 1146880 s (State.umbRaise s ev) := by
  unfold State.umbRaise
  repeat' first
    | (with_reducible exact Keeps.refl)
    | (apply Keeps.next; (with_reducible apply kp_raise); decide)
    | (with_reducible apply Keeps.ite)
    | (with_reducible apply Keeps.foldl)
    | intro _
    | split
    | dsimp only

theorem kp_stagedShow (s : State) : Keeps 0 s (State.stagedShow s) := by
  unfold State.stagedShow
  repeat' first
    | (with_reducible exact Keeps.refl)
    | (with_reducible apply Keeps.wr)
    | (with_reducible apply Keeps.ite)
    | (with_reducible apply Keeps.foldl)
    | intro _
    | split
    | dsimp only

theorem kp_logNext (s : State) : KeepsP 4096 s (State.logNext s) := by
  unfold State.logNext
  repeat' first
    | (with_reducible exact Keeps.refl)
    | (apply Keeps.nextP; (with_reducible apply kp_takeFree); decide)
    | (with_reducible apply Keeps.ite)
    | (with_reducible apply Keeps.iteP)
    | (with_reducible exact Keeps.reflP)
    | (simp only [Keeps.pair_eq])
    | (with_reducible apply Keeps.snd)
    | (apply Keeps.of_pair; assumption)
    | (with_reducible apply Keeps.foldlP)
    | (with_reducible apply Keeps.foldl)
    | intro _
    | split
    | dsimp only

theorem kp_recordBurst (s : State) (r : UmbRec) : Keeps 1073745920 s (State.recordBurst s r) := by
  unfold State.recordBurst
  repeat' first
    | (with_reducible exact Keeps.refl)
    | (apply Keeps.nextP; (with_reducible apply kp_logNext); decide)
    | (apply Keeps.next; (with_reducible apply kp_setUmb); decide)
    | (with_reducible apply Keeps.ite)
    | (with_reducible exact Keeps.reflP)
    | (simp only [Keeps.pair_eq])
    | (with_reducible apply Keeps.snd)
    | (apply Keeps.of_pair; assumption)
    | (with_reducible apply Keeps.iteP)
    | (with_reducible apply Keeps.foldlP)
    | (with_reducible apply Keeps.foldl)
    | intro _
    | split
    | dsimp only

theorem kp_logShow (s : State) : Keeps 0 s (State.logShow s) := by
  unfold State.logShow
  repeat' first
    | (with_reducible exact Keeps.refl)
    | (with_reducible apply Keeps.wr)
    | (with_reducible apply Keeps.forEach)
    | (with_reducible apply Keeps.ite)
    | (with_reducible apply Keeps.foldl)
    | intro _
    | split
    | dsimp only

theorem kp_logFlush (s : State) : Keeps 1073745920 s (State.logFlush s) := by
  unfold State.logFlush
  repeat' first
    | (with_reducible exact Keeps.refl)
    | (apply Keeps.next; (with_reducible apply kp_setUmb); decide)
    | (apply Keeps.next; (with_reducible apply kp_recordBurst); decide)
    | (apply Keeps.next; (with_reducible apply kp_logShow); decide)
    | (apply Keeps.next; (with_reducible apply kp_stagedShow); decide)
    | (with_reducible apply Keeps.forEach)
    | (with_reducible apply Keeps.ite)
    | (with_reducible apply Keeps.foldl)
    | intro _
    | split
    | dsimp only

theorem kp_logDrain (s : State) : Keeps 1074892800 s (State.logDrain s) := by
  unfold State.logDrain
  repeat' first
    | (with_reducible exact Keeps.refl)
    | (with_reducible apply Keeps.wr)
    | (apply Keeps.next; (with_reducible apply kp_stagedShow); decide)
    | (apply Keeps.next; (with_reducible apply kp_logFlush); decide)
    | (apply Keeps.next; (with_reducible apply kp_setUmb); decide)
    | (apply Keeps.next; (with_reducible apply kp_umbRaise); decide)
    | (with_reducible apply Keeps.ite)
    | (with_reducible apply Keeps.foldl)
    | intro _
    | split
    | dsimp only

theorem kp_stageRecord (s : State) (r : UmbRec) : Keeps 1074892800 s (State.stageRecord s r) := by
  unfold State.stageRecord
  repeat' first
    | (with_reducible exact Keeps.refl)
    | (with_reducible apply Keeps.wr)
    | (apply Keeps.next; (with_reducible apply kp_setUmb); decide)
    | (apply Keeps.next; (with_reducible apply kp_umbRaise); decide)
    | (apply Keeps.next; (with_reducible apply kp_incSat); decide)
    | (apply Keeps.next; (with_reducible apply kp_logDrain); decide)
    | (with_reducible apply Keeps.ite)
    | (with_reducible apply Keeps.foldl)
    | intro _
    | split
    | dsimp only

theorem kp_ueRecord (s : State) (code : Nat) (data : Nat) : Keeps 1074892800 s (State.ueRecord s code data) := by
  unfold State.ueRecord
  repeat' first
    | (with_reducible exact Keeps.refl)
    | (apply Keeps.next; (with_reducible apply kp_stageRecord); decide)
    | (with_reducible apply Keeps.ite)
    | (with_reducible apply Keeps.foldl)
    | intro _
    | split
    | dsimp only

theorem kp_timeSet (s : State) (sec : Nat) : Keeps 1209110528 s (State.timeSet s sec) := by
  unfold State.timeSet
  repeat' first
    | (with_reducible exact Keeps.refl)
    | (with_reducible apply Keeps.wr)
    | (apply Keeps.next; (with_reducible apply kp_ueRecord); decide)
    | (apply Keeps.next; (with_reducible apply kp_umbRaise); decide)
    | (apply Keeps.next; (with_reducible apply kp_meForce); decide)
    | (with_reducible apply Keeps.ite)
    | (with_reducible apply Keeps.foldl)
    | intro _
    | split
    | dsimp only

theorem kp_mcRecord (s : State) (code : Nat) (flags : Nat) (data : Nat) : Keeps 1074892800 s (State.mcRecord s code flags data) := by
  unfold State.mcRecord
  repeat' first
    | (with_reducible exact Keeps.refl)
    | (apply Keeps.next; (with_reducible apply kp_stageRecord); decide)
    | (with_reducible apply Keeps.ite)
    | (with_reducible apply Keeps.foldl)
    | intro _
    | split
    | dsimp only

theorem kp_logPut (s : State) : Keeps 1074892800 s (State.logPut s) := by
  unfold State.logPut
  repeat' first
    | (with_reducible exact Keeps.refl)
    | (apply Keeps.next; (with_reducible apply kp_mcRecord); decide)
    | (with_reducible apply Keeps.ite)
    | (with_reducible apply Keeps.foldl)
    | intro _
    | split
    | dsimp only

theorem kp_umbWrite {c : Nat} {s t : State} {m : Master} {a : Nat} {f : State → State} (hb : inMask c 8) (h : Keeps c s t)
    (hf : ∀ s, Keeps c s (f s)) : Keeps c s (State.umbWrite t m a f) := by
  unfold State.umbWrite
  split
  · exact h.trans (Keeps.onBus hb)
  · exact Keeps.access hb h hf

theorem kp_capMeasured (s : State) (us : Nat) : Keeps 1073741824 s (State.capMeasured s us) := by
  unfold State.capMeasured
  repeat' first
    | (with_reducible exact Keeps.refl)
    | (with_reducible apply Keeps.wr)
    | (apply Keeps.next; (with_reducible apply kp_setUmb); decide)
    | (with_reducible apply Keeps.ite)
    | (with_reducible apply Keeps.foldl)
    | intro _
    | split
    | dsimp only

theorem kp_coldStart (s : State) (mv : Nat) : Keeps 1073741824 s (State.coldStart s mv) := by
  unfold State.coldStart
  repeat' first
    | (with_reducible exact Keeps.refl)
    | (with_reducible apply Keeps.wr)
    | (apply Keeps.next; (with_reducible apply kp_setUmb); decide)
    | (with_reducible apply Keeps.clearRegs)
    | (with_reducible apply Keeps.ite)
    | (with_reducible apply Keeps.foldl)
    | intro _
    | split
    | dsimp only

theorem kp_tamperChange (s : State) (opened : Bool) : Keeps 1074892800 s (State.tamperChange s opened) := by
  unfold State.tamperChange
  repeat' first
    | (with_reducible exact Keeps.refl)
    | (with_reducible apply Keeps.wr)
    | (apply Keeps.next; (with_reducible apply kp_umbRaise); decide)
    | (apply Keeps.next; (with_reducible apply kp_ueRecord); decide)
    | (with_reducible apply Keeps.ite)
    | (with_reducible apply Keeps.foldl)
    | intro _
    | split
    | dsimp only

theorem kp_plugChange (s : State) (plugged : Bool) : Keeps 1074892800 s (State.plugChange s plugged) := by
  unfold State.plugChange
  repeat' first
    | (with_reducible exact Keeps.refl)
    | (with_reducible apply Keeps.wr)
    | (apply Keeps.next; (with_reducible apply kp_umbRaise); decide)
    | (apply Keeps.next; (with_reducible apply kp_ueRecord); decide)
    | (apply Keeps.next; (with_reducible apply kp_serviceUnplug); decide)
    | (with_reducible apply Keeps.ite)
    | (with_reducible apply Keeps.foldl)
    | intro _
    | split
    | dsimp only

theorem kp_inputsSample (s : State) (tamper : Bool) (plugN : Bool) : Keeps 1074892800 s (State.inputsSample s tamper plugN) := by
  unfold State.inputsSample
  repeat' first
    | (with_reducible exact Keeps.refl)
    | (apply Keeps.next; (with_reducible apply kp_setUmb); decide)
    | (apply Keeps.next; (with_reducible apply kp_tamperChange); decide)
    | (apply Keeps.next; (with_reducible apply kp_plugChange); decide)
    | (with_reducible apply Keeps.ite)
    | (with_reducible apply Keeps.foldl)
    | intro _
    | split
    | dsimp only

theorem kp_recover (s : State) (tamper : Bool) (plugN : Bool) (bad : List Nat) : Keeps 1073741824 s (State.recover s tamper plugN bad) := by
  unfold State.recover
  repeat' first
    | (with_reducible exact Keeps.refl)
    | (with_reducible apply Keeps.wr)
    | (apply Keeps.next; (with_reducible apply kp_setUmb); decide)
    | (with_reducible apply Keeps.ite)
    | (with_reducible apply Keeps.foldl)
    | intro _
    | split
    | dsimp only

theorem kp_recoveryEnd (s : State) (mv : Nat) (tamper : Bool) (plugN : Bool) (vdd : Bool) (bad : List Nat) : Keeps 1074892800 s (State.recoveryEnd s mv tamper plugN vdd bad) := by
  unfold State.recoveryEnd
  repeat' first
    | (with_reducible exact Keeps.refl)
    | (with_reducible apply Keeps.wr)
    | (apply Keeps.next; (with_reducible apply kp_setUmb); decide)
    | (apply Keeps.next; (with_reducible apply kp_recover); decide)
    | (apply Keeps.next; (with_reducible apply kp_raise); decide)
    | (apply Keeps.next; (with_reducible apply kp_umbRaise); decide)
    | (apply Keeps.next; (with_reducible apply kp_logShow); decide)
    | (apply Keeps.next; (with_reducible apply kp_ueRecord); decide)
    | (with_reducible apply Keeps.ite)
    | (with_reducible apply Keeps.foldl)
    | intro _
    | split
    | dsimp only

theorem kp_umbDead (s : State) (phase2 : Bool) : Keeps 1073745920 s (State.umbDead s phase2) := by
  unfold State.umbDead
  repeat' first
    | (with_reducible exact Keeps.refl)
    | (apply Keeps.nextP; (with_reducible apply kp_logNext); decide)
    | (apply Keeps.next; (with_reducible apply kp_setUmb); decide)
    | (with_reducible apply Keeps.ite)
    | (with_reducible exact Keeps.reflP)
    | (simp only [Keeps.pair_eq])
    | (with_reducible apply Keeps.snd)
    | (apply Keeps.of_pair; assumption)
    | (with_reducible apply Keeps.iteP)
    | (with_reducible apply Keeps.foldlP)
    | (with_reducible apply Keeps.foldl)
    | intro _
    | split
    | dsimp only

theorem kp_umbTicks (s : State) (n : Nat) : Keeps 0 s (State.umbTicks s n) := by
  unfold State.umbTicks
  repeat' first
    | (with_reducible exact Keeps.refl)
    | (with_reducible apply Keeps.wr)
    | (with_reducible apply Keeps.ite)
    | (with_reducible apply Keeps.foldl)
    | intro _
    | split
    | dsimp only

theorem kp_umbRefresh (s : State) (mv : Nat) (ticks : Nat) (harvest : Bool) : Keeps 1074892800 s (State.umbRefresh s mv ticks harvest) := by
  unfold State.umbRefresh
  repeat' first
    | (with_reducible exact Keeps.refl)
    | (with_reducible apply Keeps.wr)
    | (apply Keeps.next; (with_reducible apply kp_umbTicks); decide)
    | (apply Keeps.next; (with_reducible apply kp_logDrain); decide)
    | (with_reducible apply Keeps.ite)
    | (with_reducible apply Keeps.foldl)
    | intro _
    | split
    | dsimp only

theorem kp_vddFall (s : State) : Keeps 1074892800 s (State.vddFall s) := by
  unfold State.vddFall
  repeat' first
    | (with_reducible exact Keeps.refl)
    | (with_reducible apply Keeps.wr)
    | (apply Keeps.next; (with_reducible apply kp_setUmb); decide)
    | (apply Keeps.next; (with_reducible apply kp_ueRecord); decide)
    | (with_reducible apply Keeps.ite)
    | (with_reducible apply Keeps.foldl)
    | intro _
    | split
    | dsimp only

theorem kp_vddRise (s : State) : Keeps 1074892800 s (State.vddRise s) := by
  unfold State.vddRise
  repeat' first
    | (with_reducible exact Keeps.refl)
    | (with_reducible apply Keeps.wr)
    | (apply Keeps.next; (with_reducible apply kp_setUmb); decide)
    | (apply Keeps.next; (with_reducible apply kp_raise); decide)
    | (apply Keeps.next; (with_reducible apply kp_ueRecord); decide)
    | (with_reducible apply Keeps.ite)
    | (with_reducible apply Keeps.foldl)
    | intro _
    | split
    | dsimp only

theorem kp_execUmbColdStart (mv : Nat) (s : State) : KeepsN 1073741824 s (execUmbColdStart mv s) := by
  unfold execUmbColdStart
  repeat' first
    | (with_reducible exact Keeps.refl)
    | (with_reducible apply Keeps.out)
    | (apply Keeps.next; (with_reducible apply kp_coldStart); decide)
    | (with_reducible apply Keeps.ite)
    | (with_reducible apply Keeps.foldl)
    | intro _
    | split
    | dsimp only

theorem kp_execUmbRecoveryEnd (mv : Nat) (tamper : Bool) (plugN : Bool) (vdd : Bool) (bad : List Nat) (s : State) : KeepsN 1074892800 s (execUmbRecoveryEnd mv tamper plugN vdd bad s) := by
  unfold execUmbRecoveryEnd
  repeat' first
    | (with_reducible exact Keeps.refl)
    | (with_reducible apply Keeps.out)
    | (apply Keeps.next; (with_reducible apply kp_recoveryEnd); decide)
    | (with_reducible apply Keeps.ite)
    | (with_reducible apply Keeps.foldl)
    | intro _
    | split
    | dsimp only

theorem kp_execUmbVddRise (s : State) : KeepsN 1074892800 s (execUmbVddRise s) := by
  unfold execUmbVddRise
  repeat' first
    | (with_reducible exact Keeps.refl)
    | (with_reducible apply Keeps.out)
    | (apply Keeps.next; (with_reducible apply kp_vddRise); decide)
    | (with_reducible apply Keeps.ite)
    | (with_reducible apply Keeps.foldl)
    | intro _
    | split
    | dsimp only

theorem kp_execUmbVddFall (s : State) : KeepsN 1074892800 s (execUmbVddFall s) := by
  unfold execUmbVddFall
  repeat' first
    | (with_reducible exact Keeps.refl)
    | (with_reducible apply Keeps.out)
    | (apply Keeps.next; (with_reducible apply kp_vddFall); decide)
    | (with_reducible apply Keeps.ite)
    | (with_reducible apply Keeps.foldl)
    | intro _
    | split
    | dsimp only

theorem kp_execUmbDead (phase2 : Bool) (s : State) : KeepsN 1073745920 s (execUmbDead phase2 s) := by
  unfold execUmbDead
  repeat' first
    | (with_reducible exact Keeps.refl)
    | (with_reducible apply Keeps.out)
    | (apply Keeps.next; (with_reducible apply kp_umbDead); decide)
    | (with_reducible apply Keeps.ite)
    | (with_reducible apply Keeps.foldl)
    | intro _
    | split
    | dsimp only

theorem kp_execUmbRefresh (mv : Nat) (ticks : Nat) (harvest : Bool) (s : State) : KeepsN 1074892800 s (execUmbRefresh mv ticks harvest s) := by
  unfold execUmbRefresh
  repeat' first
    | (with_reducible exact Keeps.refl)
    | (with_reducible apply Keeps.out)
    | (apply Keeps.next; (with_reducible apply kp_umbRefresh); decide)
    | (with_reducible apply Keeps.ite)
    | (with_reducible apply Keeps.foldl)
    | intro _
    | split
    | dsimp only

theorem kp_execUmbInputSample (tamper : Bool) (plugN : Bool) (s : State) : KeepsN 1074892800 s (execUmbInputSample tamper plugN s) := by
  unfold execUmbInputSample
  repeat' first
    | (with_reducible exact Keeps.refl)
    | (with_reducible apply Keeps.out)
    | (apply Keeps.next; (with_reducible apply kp_inputsSample); decide)
    | (with_reducible apply Keeps.ite)
    | (with_reducible apply Keeps.foldl)
    | intro _
    | split
    | dsimp only

theorem kp_execUmbTimeSetWrite (m : Master) (sec : Nat) (s : State) : KeepsN 1209110784 s (execUmbTimeSetWrite m sec s) := by
  unfold execUmbTimeSetWrite
  repeat' first
    | (with_reducible exact Keeps.refl)
    | (with_reducible apply Keeps.out)
    | (with_reducible apply kp_umbWrite; decide)
    | (apply Keeps.next; (with_reducible apply kp_timeSet); decide)
    | (with_reducible apply Keeps.ite)
    | (with_reducible apply Keeps.foldl)
    | intro _
    | split
    | dsimp only

theorem kp_execUmbLogPut (m : Master) (s : State) : KeepsN 1074893056 s (execUmbLogPut m s) := by
  unfold execUmbLogPut
  repeat' first
    | (with_reducible exact Keeps.refl)
    | (with_reducible apply Keeps.out)
    | (with_reducible apply kp_umbWrite; decide)
    | (apply Keeps.next; (with_reducible apply kp_logPut); decide)
    | (with_reducible apply Keeps.ite)
    | (with_reducible apply Keeps.foldl)
    | intro _
    | split
    | dsimp only

theorem kp_execUmbOscTrim (s : State) : KeepsN 1073741824 s (execUmbOscTrim s) := by
  unfold execUmbOscTrim
  repeat' first
    | (with_reducible exact Keeps.refl)
    | (with_reducible apply Keeps.out)
    | (apply Keeps.next; (with_reducible apply kp_setUmb); decide)
    | (with_reducible apply Keeps.ite)
    | (with_reducible apply Keeps.foldl)
    | intro _
    | split
    | dsimp only

theorem kp_execUmbCapMeasured (us : Nat) (s : State) : KeepsN 1073741824 s (execUmbCapMeasured us s) := by
  unfold execUmbCapMeasured
  repeat' first
    | (with_reducible exact Keeps.refl)
    | (with_reducible apply Keeps.out)
    | (apply Keeps.next; (with_reducible apply kp_capMeasured); decide)
    | (with_reducible apply Keeps.ite)
    | (with_reducible apply Keeps.foldl)
    | intro _
    | split
    | dsimp only

end Sys2Proof.Machine
end

