-- ==== Sys2Proof/Laws/KeepsClocks.lean ====
section
/-! SUPPORT. Laws/KeepsClocks.lean: what each operation of Machine/Clocks.lean keeps. -/

set_option Elab.async false

set_option linter.unusedTactic false
set_option linter.unusedSimpArgs false
set_option linter.unreachableTactic false

namespace Sys2Proof.Machine

theorem kp_rampNominal (s : State) : Keeps 8589934592 s (State.rampNominal s) := by
  unfold State.rampNominal
  repeat' first
    | (with_reducible exact Keeps.refl)
    | (with_reducible apply Keeps.atBuilt; refine Keeps.upd ?_)
    | (simp only [Keeps.built])
    | (with_reducible apply Keeps.wr)
    | (with_reducible apply Keeps.ite)
    | (with_reducible apply Keeps.foldl)
    | intro _
    | split
    | dsimp only

theorem kp_powerDown (s : State) (t : PowerState) : Keeps 9111712260 s (State.powerDown s t) := by
  unfold State.powerDown
  repeat' first
    | (with_reducible exact Keeps.refl)
    | (with_reducible apply Keeps.atBuilt; refine Keeps.upd ?_)
    | (simp only [Keeps.built])
    | (with_reducible apply Keeps.wr)
    | (apply Keeps.next; (with_reducible apply kp_confirmClose); decide)
    | (apply Keeps.next; (with_reducible apply kp_rampNominal); decide)
    | (apply Keeps.next; (with_reducible apply kp_pwmSafe); decide)
    | (apply Keeps.next; (with_reducible apply kp_pairDisable); decide)
    | (with_reducible apply kp_gsAct; decide)
    | (apply Keeps.next; (with_reducible apply kp_gsDisable); decide)
    | (apply Keeps.next; (with_reducible apply kp_meCkptStore); decide)
    | (apply Keeps.next; (with_reducible apply kp_meCheckpoint); decide)
    | (apply Keeps.next; (with_reducible apply kp_endSessions); decide)
    | (apply Keeps.next; (with_reducible apply kp_meDisable); decide)
    | (with_reducible apply Keeps.when)
    | (with_reducible apply Keeps.ite)
    | (with_reducible apply Keeps.foldl)
    | intro _
    | split
    | dsimp only

theorem kp_powerStart (s : State) (t : PowerState) : Keeps 9111712260 s (State.powerStart s t) := by
  unfold State.powerStart
  repeat' first
    | (with_reducible exact Keeps.refl)
    | (with_reducible apply Keeps.atBuilt; refine Keeps.upd ?_)
    | (simp only [Keeps.built])
    | (with_reducible apply Keeps.wr)
    | (apply Keeps.next; (with_reducible apply kp_powerDown); decide)
    | (with_reducible apply Keeps.ite)
    | (with_reducible apply Keeps.foldl)
    | intro _
    | split
    | dsimp only

theorem kp_wdtKick (s : State) (key : Nat) : Keeps 17179869182 s (State.wdtKick s key) := by
  unfold State.wdtKick
  repeat' first
    | (with_reducible exact Keeps.refl)
    | (with_reducible apply Keeps.wr)
    | (apply Keeps.next; (with_reducible apply kp_packageReset); decide)
    | (with_reducible apply Keeps.ite)
    | (with_reducible apply Keeps.foldl)
    | intro _
    | split
    | dsimp only

theorem kp_lanesLost (s : State) : Keeps 538017792 s (State.lanesLost s) := by
  unfold State.lanesLost
  repeat' first
    | (with_reducible exact Keeps.refl)
    | (apply Keeps.next; (with_reducible apply kp_cmtLaneRemove); decide)
    | (apply Keeps.next; (with_reducible apply kp_laneLost); decide)
    | (with_reducible apply Keeps.forEach)
    | (with_reducible apply Keeps.ite)
    | (with_reducible apply Keeps.foldl)
    | intro _
    | split
    | dsimp only

theorem kp_rampRun (s : State) : Keeps 8589934592 s (State.rampRun s) := by
  unfold State.rampRun
  repeat' first
    | (with_reducible exact Keeps.refl)
    | (with_reducible apply Keeps.atBuilt; refine Keeps.upd ?_)
    | (simp only [Keeps.built])
    | (with_reducible apply Keeps.wr)
    | (with_reducible apply Keeps.ite)
    | (with_reducible apply Keeps.foldl)
    | intro _
    | split
    | dsimp only

theorem kp_rampStop (s : State) : Keeps 8589934592 s (State.rampStop s) := by
  unfold State.rampStop
  repeat' first
    | (with_reducible exact Keeps.refl)
    | (with_reducible apply Keeps.atBuilt; refine Keeps.upd ?_)
    | (simp only [Keeps.built])
    | (with_reducible apply Keeps.wr)
    | (with_reducible apply Keeps.ite)
    | (with_reducible apply Keeps.foldl)
    | intro _
    | split
    | dsimp only

theorem kp_calStart (s : State) (mask : Nat) (edge : Nat → Nat → Nat × Nat) : Keeps 0 s (State.calStart s mask edge) := by
  unfold State.calStart
  repeat' first
    | (with_reducible exact Keeps.refl)
    | (with_reducible apply Keeps.wr)
    | (apply Keeps.next; (with_reducible apply kp_setB); decide)
    | (with_reducible apply Keeps.forEach)
    | (with_reducible apply Keeps.ite)
    | (with_reducible apply Keeps.foldl)
    | intro _
    | split
    | dsimp only

theorem kp_calStartFree (s : State) (mask : Nat) : Keeps 4096 s (State.calStartFree s mask) := by
  unfold State.calStartFree
  repeat' first
    | (with_reducible exact Keeps.refl)
    | (with_reducible apply Keeps.atBuilt; refine Keeps.upd ?_)
    | (simp only [Keeps.built])
    | (apply Keeps.next; (with_reducible apply kp_calStart); decide)
    | (with_reducible apply Keeps.ite)
    | (with_reducible apply Keeps.foldl)
    | intro _
    | split
    | dsimp only

theorem kp_coreLost (s : State) : Keeps 1671680 s (State.coreLost s) := by
  unfold State.coreLost
  repeat' first
    | (with_reducible exact Keeps.refl)
    | (apply Keeps.next; (with_reducible apply kp_bothLost); decide)
    | (apply Keeps.next; (with_reducible apply kp_enterFailed); decide)
    | (apply Keeps.next; (with_reducible apply kp_fence); decide)
    | (with_reducible apply Keeps.when)
    | (with_reducible apply Keeps.ite)
    | (with_reducible apply Keeps.foldl)
    | intro _
    | split
    | dsimp only

theorem kp_pllLock (s : State) (p : Nat) : Keeps 524288 s (State.pllLock s p) := by
  unfold State.pllLock
  repeat' first
    | (with_reducible exact Keeps.refl)
    | (with_reducible apply Keeps.wr)
    | (apply Keeps.next; (with_reducible apply kp_setB); decide)
    | (apply Keeps.next; (with_reducible apply kp_pwmCauseEnds); decide)
    | (apply Keeps.next; (with_reducible apply kp_setSafety); decide)
    | (with_reducible apply Keeps.ite)
    | (with_reducible apply Keeps.foldl)
    | intro _
    | split
    | dsimp only

theorem kp_pwmClkLoss (s : State) : Keeps 1146880 s (State.pwmClkLoss s) := by
  unfold State.pwmClkLoss
  repeat' first
    | (with_reducible exact Keeps.refl)
    | (with_reducible apply Keeps.wr)
    | (apply Keeps.next; (with_reducible apply kp_pwmSafe); decide)
    | (apply Keeps.next; (with_reducible apply kp_flagRaise); decide)
    | (with_reducible apply Keeps.ite)
    | (with_reducible apply Keeps.foldl)
    | intro _
    | split
    | dsimp only

theorem kp_rampAbort (s : State) : Keeps 8589934592 s (State.rampAbort s) := by
  unfold State.rampAbort
  repeat' first
    | (with_reducible exact Keeps.refl)
    | (with_reducible apply Keeps.atBuilt; refine Keeps.upd ?_)
    | (simp only [Keeps.built])
    | (with_reducible apply Keeps.wr)
    | (with_reducible apply Keeps.ite)
    | (with_reducible apply Keeps.foldl)
    | intro _
    | split
    | dsimp only

theorem kp_pllUnlock (s : State) (p : Nat) : Keeps 9134768640 s (State.pllUnlock s p) := by
  unfold State.pllUnlock
  repeat' first
    | (with_reducible exact Keeps.refl)
    | (apply Keeps.next; (with_reducible apply kp_raise); decide)
    | (apply Keeps.next; (with_reducible apply kp_setB); decide)
    | (apply Keeps.next; (with_reducible apply kp_clrB); decide)
    | (apply Keeps.next; (with_reducible apply kp_setSafety); decide)
    | (apply Keeps.next; (with_reducible apply kp_pwmClkLoss); decide)
    | (apply Keeps.next; (with_reducible apply kp_faultHold); decide)
    | (apply Keeps.next; (with_reducible apply kp_openRelays); decide)
    | (apply Keeps.next; (with_reducible apply kp_sf4Apply); decide)
    | (apply Keeps.next; (with_reducible apply kp_coreLost); decide)
    | (apply Keeps.next; (with_reducible apply kp_rampAbort); decide)
    | (apply Keeps.next; (with_reducible apply kp_lanesLost); decide)
    | (apply Keeps.next; (with_reducible apply kp_slinkDown); decide)
    | (with_reducible apply Keeps.ite)
    | (with_reducible apply Keeps.foldl)
    | intro _
    | split
    | dsimp only

theorem kp_rampSegmentEnd (s : State) : Keeps 8589934592 s (State.rampSegmentEnd s) := by
  unfold State.rampSegmentEnd
  repeat' first
    | (with_reducible exact Keeps.refl)
    | (with_reducible apply Keeps.atBuilt; refine Keeps.upd ?_)
    | (simp only [Keeps.built])
    | (with_reducible apply Keeps.wr)
    | (with_reducible apply Keeps.ite)
    | (with_reducible apply Keeps.foldl)
    | intro _
    | split
    | dsimp only

theorem kp_refLoss (s : State) : Keeps 1146880 s (State.refLoss s) := by
  unfold State.refLoss
  repeat' first
    | (with_reducible exact Keeps.refl)
    | (with_reducible apply Keeps.wr)
    | (apply Keeps.next; (with_reducible apply kp_raise); decide)
    | (with_reducible apply Keeps.ite)
    | (with_reducible apply Keeps.foldl)
    | intro _
    | split
    | dsimp only

theorem kp_wakeSource (s : State) (b : Nat) : Keeps 9111712260 s (State.wakeSource s b) := by
  unfold State.wakeSource
  repeat' first
    | (with_reducible exact Keeps.refl)
    | (with_reducible apply Keeps.atBuilt; refine Keeps.upd ?_)
    | (simp only [Keeps.built])
    | (apply Keeps.next; (with_reducible apply kp_setB); decide)
    | (apply Keeps.next; (with_reducible apply kp_powerStart); decide)
    | (with_reducible apply Keeps.ite)
    | (with_reducible apply Keeps.foldl)
    | intro _
    | split
    | dsimp only

theorem kp_supHoldExpire (s : State) : Keeps 3768832 s (State.supHoldExpire s) := by
  unfold State.supHoldExpire
  repeat' first
    | (with_reducible exact Keeps.refl)
    | (with_reducible apply Keeps.wr)
    | (apply Keeps.next; (with_reducible apply kp_setSafety); decide)
    | (apply Keeps.next; (with_reducible apply kp_openRelays); decide)
    | (apply Keeps.next; (with_reducible apply kp_sf4Apply); decide)
    | (apply Keeps.next; (with_reducible apply kp_faultHold); decide)
    | (apply Keeps.next; (with_reducible apply kp_reconnectRestart); decide)
    | (with_reducible apply Keeps.when)
    | (with_reducible apply Keeps.ite)
    | (with_reducible apply Keeps.foldl)
    | intro _
    | split
    | dsimp only

theorem kp_supRecover (s : State) (vdd : Bool) (vdda : Bool) (us : Nat) : Keeps 1075417088 s (State.supRecover s vdd vdda us) := by
  unfold State.supRecover
  repeat' first
    | (with_reducible exact Keeps.refl)
    | (with_reducible apply Keeps.wr)
    | (apply Keeps.next; (with_reducible apply kp_setSafety); decide)
    | (apply Keeps.next; (with_reducible apply kp_incSat); decide)
    | (apply Keeps.next; (with_reducible apply kp_mcRecord); decide)
    | (apply Keeps.next; (with_reducible apply kp_raise); decide)
    | (with_reducible apply Keeps.when)
    | (with_reducible apply Keeps.ite)
    | (with_reducible apply Keeps.foldl)
    | intro _
    | split
    | dsimp only

theorem kp_supWarn (s : State) (vdd : Bool) (vdda : Bool) : Keeps 135364608 s (State.supWarn s vdd vdda) := by
  unfold State.supWarn
  repeat' first
    | (with_reducible exact Keeps.refl)
    | (with_reducible apply Keeps.wr)
    | (apply Keeps.next; (with_reducible apply kp_raise); decide)
    | (apply Keeps.next; (with_reducible apply kp_meCheckpoint); decide)
    | (with_reducible apply Keeps.when)
    | (with_reducible apply Keeps.ite)
    | (with_reducible apply Keeps.foldl)
    | intro _
    | split
    | dsimp only

theorem kp_execRefLoss (s : State) : KeepsN 1146880 s (execRefLoss s) := by
  unfold execRefLoss
  repeat' first
    | (with_reducible exact Keeps.refl)
    | (with_reducible apply Keeps.out)
    | (apply Keeps.next; (with_reducible apply kp_refLoss); decide)
    | (with_reducible apply Keeps.ite)
    | (with_reducible apply Keeps.foldl)
    | intro _
    | split
    | dsimp only

theorem kp_execPllLock (p : Nat) (s : State) : KeepsN 524288 s (execPllLock p s) := by
  unfold execPllLock
  repeat' first
    | (with_reducible exact Keeps.refl)
    | (with_reducible apply Keeps.out)
    | (apply Keeps.next; (with_reducible apply kp_pllLock); decide)
    | (with_reducible apply Keeps.ite)
    | (with_reducible apply Keeps.foldl)
    | intro _
    | split
    | dsimp only

theorem kp_execPllUnlock (p : Nat) (s : State) : KeepsN 9134768640 s (execPllUnlock p s) := by
  unfold execPllUnlock
  repeat' first
    | (with_reducible exact Keeps.refl)
    | (with_reducible apply Keeps.out)
    | (apply Keeps.next; (with_reducible apply kp_pllUnlock); decide)
    | (with_reducible apply Keeps.ite)
    | (with_reducible apply Keeps.foldl)
    | intro _
    | split
    | dsimp only

theorem kp_execClkCalStart (m : Master) (mask : Nat) (edges : List Nat) (s : State) : KeepsN 256 s (execClkCalStart m mask edges s) := by
  unfold execClkCalStart
  repeat' first
    | (with_reducible exact Keeps.refl)
    | (with_reducible apply Keeps.out)
    | (apply Keeps.next; (with_reducible apply kp_calStart); decide)
    | (with_reducible apply Keeps.access; decide)
    | (with_reducible apply Keeps.ite)
    | (with_reducible apply Keeps.foldl)
    | intro _
    | split
    | dsimp only

theorem kp_execRampRun (m : Master) (s : State) : KeepsN 8589934848 s (execRampRun m s) := by
  unfold execRampRun
  repeat' first
    | (with_reducible exact Keeps.refl)
    | (with_reducible apply Keeps.out)
    | (apply Keeps.next; (with_reducible apply kp_rampRun); decide)
    | (with_reducible apply Keeps.access; decide)
    | (with_reducible apply Keeps.ite)
    | (with_reducible apply Keeps.foldl)
    | intro _
    | split
    | dsimp only

theorem kp_execRampStop (m : Master) (s : State) : KeepsN 8589934848 s (execRampStop m s) := by
  unfold execRampStop
  repeat' first
    | (with_reducible exact Keeps.refl)
    | (with_reducible apply Keeps.out)
    | (apply Keeps.next; (with_reducible apply kp_rampStop); decide)
    | (with_reducible apply Keeps.access; decide)
    | (with_reducible apply Keeps.ite)
    | (with_reducible apply Keeps.foldl)
    | intro _
    | split
    | dsimp only

theorem kp_execRampSegmentEnd (s : State) : KeepsN 8589934592 s (execRampSegmentEnd s) := by
  unfold execRampSegmentEnd
  repeat' first
    | (with_reducible exact Keeps.refl)
    | (with_reducible apply Keeps.out)
    | (apply Keeps.next; (with_reducible apply kp_rampSegmentEnd); decide)
    | (with_reducible apply Keeps.ite)
    | (with_reducible apply Keeps.foldl)
    | intro _
    | split
    | dsimp only

theorem kp_execSupWarn (vdd : Bool) (vdda : Bool) (s : State) : KeepsN 135364608 s (execSupWarn vdd vdda s) := by
  unfold execSupWarn
  repeat' first
    | (with_reducible exact Keeps.refl)
    | (with_reducible apply Keeps.out)
    | (apply Keeps.next; (with_reducible apply kp_supWarn); decide)
    | (with_reducible apply Keeps.ite)
    | (with_reducible apply Keeps.foldl)
    | intro _
    | split
    | dsimp only

theorem kp_execSupHoldExpire (s : State) : KeepsN 3768832 s (execSupHoldExpire s) := by
  unfold execSupHoldExpire
  repeat' first
    | (with_reducible exact Keeps.refl)
    | (with_reducible apply Keeps.out)
    | (apply Keeps.next; (with_reducible apply kp_supHoldExpire); decide)
    | (with_reducible apply Keeps.ite)
    | (with_reducible apply Keeps.foldl)
    | intro _
    | split
    | dsimp only

theorem kp_execSupRecover (vdd : Bool) (vdda : Bool) (us : Nat) (s : State) : KeepsN 1075417088 s (execSupRecover vdd vdda us s) := by
  unfold execSupRecover
  repeat' first
    | (with_reducible exact Keeps.refl)
    | (with_reducible apply Keeps.out)
    | (apply Keeps.next; (with_reducible apply kp_supRecover); decide)
    | (with_reducible apply Keeps.ite)
    | (with_reducible apply Keeps.foldl)
    | intro _
    | split
    | dsimp only

theorem kp_execVddioLoss (s : State) : KeepsN 8589934592 s (execVddioLoss s) := by
  unfold execVddioLoss
  repeat' first
    | (with_reducible exact Keeps.refl)
    | (with_reducible apply Keeps.atBuilt; refine Keeps.upd ?_)
    | (simp only [Keeps.built])
    | (with_reducible apply Keeps.out)
    | (with_reducible apply Keeps.wr)
    | (with_reducible apply Keeps.ite)
    | (with_reducible apply Keeps.foldl)
    | intro _
    | split
    | dsimp only

theorem kp_execWdtKick (m : Master) (key : Nat) (s : State) : KeepsN 17179869182 s (execWdtKick m key s) := by
  unfold execWdtKick
  repeat' first
    | (with_reducible exact Keeps.refl)
    | (with_reducible apply Keeps.out)
    | (apply Keeps.next; (with_reducible apply kp_wdtKick); decide)
    | (with_reducible apply Keeps.access; decide)
    | (with_reducible apply Keeps.ite)
    | (with_reducible apply Keeps.foldl)
    | intro _
    | split
    | dsimp only

theorem kp_execWakeSource (b : Nat) (s : State) : KeepsN 9111712260 s (execWakeSource b s) := by
  unfold execWakeSource
  repeat' first
    | (with_reducible exact Keeps.refl)
    | (with_reducible apply Keeps.out)
    | (apply Keeps.next; (with_reducible apply kp_wakeSource); decide)
    | (with_reducible apply Keeps.ite)
    | (with_reducible apply Keeps.foldl)
    | intro _
    | split
    | dsimp only

theorem kp_execVddioRecover (s : State) : KeepsN 8589934592 s (execVddioRecover s) := by
  unfold execVddioRecover
  repeat' first
    | (with_reducible exact Keeps.refl)
    | (with_reducible apply Keeps.atBuilt; refine Keeps.upd ?_)
    | (simp only [Keeps.built])
    | (with_reducible apply Keeps.out)
    | (with_reducible apply Keeps.wr)
    | (with_reducible apply Keeps.ite)
    | (with_reducible apply Keeps.foldl)
    | intro _
    | split
    | dsimp only

theorem kp_execReferenceReturn (s : State) : KeepsN 0 s (execReferenceReturn s) := by
  unfold execReferenceReturn
  repeat' first
    | (with_reducible exact Keeps.refl)
    | (with_reducible apply Keeps.out)
    | (with_reducible apply Keeps.wr)
    | (with_reducible apply Keeps.ite)
    | (with_reducible apply Keeps.foldl)
    | intro _
    | split
    | dsimp only

end Sys2Proof.Machine
end

