-- ==== Sys2Proof/Laws/KeepsCvu.lean ====
section
/-! SUPPORT. Laws/KeepsCvu.lean: what each operation of Machine/Cvu.lean keeps. -/

set_option Elab.async false

set_option linter.unusedTactic false
set_option linter.unusedSimpArgs false
set_option linter.unreachableTactic false

namespace Sys2Proof.Machine

theorem kp_cvuPut (s : State) (u : Nat) (x : Nat) : Keeps 0 s (State.cvuPut s u x) := by
  unfold State.cvuPut
  repeat' first
    | (with_reducible exact Keeps.refl)
    | (with_reducible apply Keeps.wr)
    | (with_reducible apply Keeps.ite)
    | (with_reducible apply Keeps.foldl)
    | intro _
    | split
    | dsimp only

theorem kp_cvuRestore (s : State) (u : Nat) (status : Bool) (v : Nat) : Keeps 0 s (State.cvuRestore s u status v) := by
  unfold State.cvuRestore
  repeat' first
    | (with_reducible exact Keeps.refl)
    | (with_reducible apply Keeps.wr)
    | (apply Keeps.next; (with_reducible apply kp_cvuPut); decide)
    | (with_reducible apply Keeps.ite)
    | (with_reducible apply Keeps.foldl)
    | intro _
    | split
    | dsimp only

theorem kp_cvuClr (s : State) (u : Nat) : Keeps 0 s (State.cvuClr s u) := by
  unfold State.cvuClr
  repeat' first
    | (with_reducible exact Keeps.refl)
    | (with_reducible apply Keeps.wr)
    | (with_reducible apply Keeps.ite)
    | (with_reducible apply Keeps.foldl)
    | intro _
    | split
    | dsimp only

theorem kp_cvuAlive (s : State) (u : Nat) : KeepsP 0 s (State.cvuAlive s u) := by
  unfold State.cvuAlive
  repeat' first
    | (with_reducible exact Keeps.refl)
    | (with_reducible apply Keeps.wr)
    | (apply Keeps.next; (with_reducible apply kp_incSat); decide)
    | (apply Keeps.next; (with_reducible apply kp_addSat); decide)
    | (with_reducible apply Keeps.ite)
    | (with_reducible apply Keeps.iteP)
    | (with_reducible exact Keeps.reflP)
    | (simp only [Keeps.pair_eq])
    | (with_reducible apply Keeps.snd)
    | (apply Keeps.of_pair; assumption)
    | (with_reducible apply Keeps.foldlP)
    | (with_reducible apply Keeps.foldl)
    | intro _
    | split
    | dsimp only

theorem kp_cvuClose (s : State) (u : Nat) : Keeps 1146880 s (State.cvuClose s u) := by
  unfold State.cvuClose
  repeat' first
    | (with_reducible exact Keeps.refl)
    | (with_reducible apply Keeps.wr)
    | (apply Keeps.next; (with_reducible apply kp_incSat); decide)
    | (apply Keeps.nextP; (with_reducible apply kp_cvuAlive); decide)
    | (apply Keeps.next; (with_reducible apply kp_raise); decide)
    | (with_reducible apply Keeps.ite)
    | (with_reducible exact Keeps.reflP)
    | (simp only [Keeps.pair_eq])
    | (with_reducible apply Keeps.snd)
    | (apply Keeps.of_pair; assumption)
    | (with_reducible apply Keeps.iteP)
    | (with_reducible apply Keeps.foldlP)
    | (with_reducible apply Keeps.foldl)
    | intro _
    | split
    | dsimp only

theorem kp_cvuEnd (s : State) (u : Nat) : Keeps 1146880 s (State.cvuEnd s u) := by
  unfold State.cvuEnd
  repeat' first
    | (with_reducible exact Keeps.refl)
    | (apply Keeps.next; (with_reducible apply kp_cvuClose); decide)
    | (with_reducible apply Keeps.ite)
    | (with_reducible apply Keeps.foldl)
    | intro _
    | split
    | dsimp only

theorem kp_setAlive (s : State) (u : Nat) (v : Option Nat) : Keeps 2147483648 s (State.setAlive s u v) := by
  unfold State.setAlive
  repeat' first
    | (with_reducible exact Keeps.refl)
    | (with_reducible apply Keeps.atBuilt; refine Keeps.upd ?_)
    | (simp only [Keeps.built])
    | (with_reducible apply Keeps.ite)
    | (with_reducible apply Keeps.foldl)
    | intro _
    | split
    | dsimp only

theorem kp_cvuInit (s : State) (u : Nat) : Keeps 0 s (State.cvuInit s u) := by
  unfold State.cvuInit
  repeat' first
    | (with_reducible exact Keeps.refl)
    | (apply Keeps.next; (with_reducible apply kp_cvuPut); decide)
    | (with_reducible apply Keeps.ite)
    | (with_reducible apply Keeps.foldl)
    | intro _
    | split
    | dsimp only

theorem kp_cvuStart (s : State) (u : Nat) : Keeps 2147483648 s (State.cvuStart s u) := by
  unfold State.cvuStart
  repeat' first
    | (with_reducible exact Keeps.refl)
    | (with_reducible apply Keeps.wr)
    | (apply Keeps.next; (with_reducible apply kp_setAlive); decide)
    | (apply Keeps.next; (with_reducible apply kp_cvuInit); decide)
    | (with_reducible apply Keeps.ite)
    | (with_reducible apply Keeps.foldl)
    | intro _
    | split
    | dsimp only

theorem kp_cvuByte (s : State) (u : Nat) (b : Nat) : Keeps 2147483648 s (State.cvuByte s u b) := by
  unfold State.cvuByte
  repeat' first
    | (with_reducible exact Keeps.refl)
    | (with_reducible apply Keeps.wr)
    | (apply Keeps.next; (with_reducible apply kp_incSat); decide)
    | (apply Keeps.next; (with_reducible apply kp_cvuInit); decide)
    | (apply Keeps.next; (with_reducible apply kp_setAlive); decide)
    | (apply Keeps.next; (with_reducible apply kp_cvuPut); decide)
    | (with_reducible apply Keeps.ite)
    | (with_reducible apply Keeps.foldl)
    | intro _
    | split
    | dsimp only

theorem kp_cvuWrite {c : Nat} {s : State} {m : Master} {u off : Nat} {f : State → State} (hb : inMask c 8) (hf : ∀ s, Keeps c s (f s)) :
    KeepsN c s (cvuWrite m u off s f) := by
  unfold cvuWrite
  apply Keeps.out
  split
  · exact Keeps.access hb Keeps.refl hf
  · exact Keeps.refl

theorem kp_execCvuByte (u : Nat) (b : Byte) (s : State) : KeepsN 2147483648 s (execCvuByte u b s) := by
  unfold execCvuByte
  repeat' first
    | (with_reducible exact Keeps.refl)
    | (with_reducible apply Keeps.out)
    | (apply Keeps.next; (with_reducible apply kp_cvuByte); decide)
    | (with_reducible apply Keeps.ite)
    | (with_reducible apply Keeps.foldl)
    | intro _
    | split
    | dsimp only

theorem kp_execCvuMessageClose (u : Nat) (s : State) : KeepsN 1146880 s (execCvuMessageClose u s) := by
  unfold execCvuMessageClose
  repeat' first
    | (with_reducible exact Keeps.refl)
    | (with_reducible apply Keeps.out)
    | (apply Keeps.next; (with_reducible apply kp_cvuClose); decide)
    | (with_reducible apply Keeps.ite)
    | (with_reducible apply Keeps.foldl)
    | intro _
    | split
    | dsimp only

theorem kp_execCvuStart (m : Master) (u : Nat) (s : State) : KeepsN 2147483904 s (execCvuStart m u s) := by
  unfold execCvuStart
  repeat' first
    | (with_reducible exact Keeps.refl)
    | (with_reducible apply Keeps.out)
    | (with_reducible apply kp_cvuWrite; decide)
    | (apply Keeps.next; (with_reducible apply kp_cvuStart); decide)
    | (with_reducible apply Keeps.ite)
    | (with_reducible apply Keeps.foldl)
    | intro _
    | split
    | dsimp only

theorem kp_execCvuEnd (m : Master) (u : Nat) (s : State) : KeepsN 1147136 s (execCvuEnd m u s) := by
  unfold execCvuEnd
  repeat' first
    | (with_reducible exact Keeps.refl)
    | (with_reducible apply Keeps.out)
    | (with_reducible apply kp_cvuWrite; decide)
    | (apply Keeps.next; (with_reducible apply kp_cvuEnd); decide)
    | (with_reducible apply Keeps.ite)
    | (with_reducible apply Keeps.foldl)
    | intro _
    | split
    | dsimp only

theorem kp_execCvuClr (m : Master) (u : Nat) (s : State) : KeepsN 256 s (execCvuClr m u s) := by
  unfold execCvuClr
  repeat' first
    | (with_reducible exact Keeps.refl)
    | (with_reducible apply Keeps.out)
    | (with_reducible apply kp_cvuWrite; decide)
    | (apply Keeps.next; (with_reducible apply kp_cvuClr); decide)
    | (with_reducible apply Keeps.ite)
    | (with_reducible apply Keeps.foldl)
    | intro _
    | split
    | dsimp only

theorem kp_execCvuPause (m : Master) (u : Nat) (on : Bool) (s : State) : KeepsN 256 s (execCvuPause m u on s) := by
  unfold execCvuPause
  repeat' first
    | (with_reducible exact Keeps.refl)
    | (with_reducible apply Keeps.out)
    | (with_reducible apply Keeps.wr)
    | (with_reducible apply kp_cvuWrite; decide)
    | (with_reducible apply Keeps.ite)
    | (with_reducible apply Keeps.foldl)
    | intro _
    | split
    | dsimp only

theorem kp_execCvuRunWrite (m : Master) (u : Nat) (status : Bool) (value : Nat) (s : State) : KeepsN 256 s (execCvuRunWrite m u status value s) := by
  unfold execCvuRunWrite
  repeat' first
    | (with_reducible exact Keeps.refl)
    | (with_reducible apply Keeps.out)
    | (with_reducible apply kp_cvuWrite; decide)
    | (apply Keeps.next; (with_reducible apply kp_cvuRestore); decide)
    | (with_reducible apply Keeps.ite)
    | (with_reducible apply Keeps.foldl)
    | intro _
    | split
    | dsimp only

end Sys2Proof.Machine
end

