-- ==== Sys2Proof/Laws/KeepsBusC.lean ====
section
/-! SUPPORT. Laws/KeepsBusC.lean: what each operation of Machine/BusC.lean keeps. -/

set_option Elab.async false

set_option linter.unusedTactic false
set_option linter.unusedSimpArgs false
set_option linter.unreachableTactic false

namespace Sys2Proof.Machine

theorem kp_meCfgErr (s : State) : Keeps 0 s (State.meCfgErr s) := by
  unfold State.meCfgErr
  repeat' first
    | (with_reducible exact Keeps.refl)
    | (with_reducible apply Keeps.wr)
    | (with_reducible apply Keeps.ite)
    | (with_reducible apply Keeps.foldl)
    | intro _
    | split
    | dsimp only

theorem kp_meCtrlWrite (s : State) (a : Nat) (v : Nat) (m : Nat) : Keeps 402653186 s (State.meCtrlWrite s a v m) := by
  unfold State.meCtrlWrite
  repeat' first
    | (with_reducible exact Keeps.refl)
    | (apply Keeps.next; (with_reducible apply kp_meCfgErr); decide)
    | (with_reducible apply kp_lockOut)
    | (apply Keeps.next; (with_reducible apply kp_meCalLock); decide)
    | (apply Keeps.next; (with_reducible apply kp_plain); decide)
    | (apply Keeps.next; (with_reducible apply kp_meEnable); decide)
    | (apply Keeps.next; (with_reducible apply kp_meDisable); decide)
    | (with_reducible apply Keeps.when)
    | (with_reducible apply Keeps.ite)
    | (with_reducible exact Keeps.reflP)
    | (simp only [Keeps.pair_eq])
    | (with_reducible apply Keeps.snd)
    | (apply Keeps.of_pair; assumption)
    | (with_reducible apply Keeps.iteP)
    | (with_reducible apply Keeps.foldlP)
    | (with_reducible apply Keeps.foldl)
    | intro _
    | split
    | dsimp only

theorem kp_meCmdWrite (s : State) (x : Nat) : Keeps 135364608 s (State.meCmdWrite s x) := by
  unfold State.meCmdWrite
  repeat' first
    | (with_reducible exact Keeps.refl)
    | (apply Keeps.next; (with_reducible apply kp_meSnapRequest); decide)
    | (apply Keeps.next; (with_reducible apply kp_meSnapAck); decide)
    | (apply Keeps.next; (with_reducible apply kp_meCkptAck); decide)
    | (apply Keeps.next; (with_reducible apply kp_meCkptRequest); decide)
    | (apply Keeps.next; (with_reducible apply kp_meForce); decide)
    | (apply Keeps.next; (with_reducible apply kp_meRestore); decide)
    | (apply Keeps.next; (with_reducible apply kp_meClrCounts); decide)
    | (with_reducible apply Keeps.when)
    | (with_reducible apply Keeps.ite)
    | (with_reducible apply Keeps.foldl)
    | intro _
    | split
    | dsimp only

theorem kp_meWrite (s : State) (a : Nat) (v : Nat) (m : Nat) : Keeps 403800066 s (State.meWrite s a v m) := by
  unfold State.meWrite
  repeat' first
    | (with_reducible exact Keeps.refl)
    | (apply Keeps.next; (with_reducible apply kp_meCtrlWrite); decide)
    | (apply Keeps.next; (with_reducible apply kp_meCmdWrite); decide)
    | (apply Keeps.next; (with_reducible apply kp_plain); decide)
    | (apply Keeps.next; (with_reducible apply kp_meCfgErr); decide)
    | (apply Keeps.next; (with_reducible apply kp_meCalWrite); decide)
    | (with_reducible apply Keeps.ite)
    | (with_reducible apply Keeps.foldl)
    | intro _
    | split
    | dsimp only

theorem kp_peCfgErr (s : State) : Keeps 0 s (State.peCfgErr s) := by
  unfold State.peCfgErr
  repeat' first
    | (with_reducible exact Keeps.refl)
    | (with_reducible apply Keeps.wr)
    | (with_reducible apply Keeps.ite)
    | (with_reducible apply Keeps.foldl)
    | intro _
    | split
    | dsimp only

theorem kp_peCtrlWrite (s : State) (a : Nat) (v : Nat) (m : Nat) : Keeps 68259846 s (State.peCtrlWrite s a v m) := by
  unfold State.peCtrlWrite
  repeat' first
    | (with_reducible exact Keeps.refl)
    | (apply Keeps.next; (with_reducible apply kp_peCfgErr); decide)
    | (apply Keeps.next; (with_reducible apply kp_plain); decide)
    | (apply Keeps.next; (with_reducible apply kp_peDisable); decide)
    | (apply Keeps.next; (with_reducible apply kp_peEnable); decide)
    | (with_reducible apply Keeps.forEach)
    | (with_reducible apply Keeps.ite)
    | (with_reducible apply Keeps.foldl)
    | intro _
    | split
    | dsimp only

theorem kp_peChanCfgWrite (s : State) (n : Nat) (a : Nat) (v : Nat) (m : Nat) : Keeps 2 s (State.peChanCfgWrite s n a v m) := by
  unfold State.peChanCfgWrite
  repeat' first
    | (with_reducible exact Keeps.refl)
    | (apply Keeps.next; (with_reducible apply kp_peCfgErr); decide)
    | (apply Keeps.next; (with_reducible apply kp_plain); decide)
    | (with_reducible apply Keeps.ite)
    | (with_reducible apply Keeps.foldl)
    | intro _
    | split
    | dsimp only

theorem kp_peWrite (s : State) (a : Nat) (v : Nat) (m : Nat) : Keeps 68259846 s (State.peWrite s a v m) := by
  unfold State.peWrite
  repeat' first
    | (with_reducible exact Keeps.refl)
    | (apply Keeps.next; (with_reducible apply kp_peCtrlWrite); decide)
    | (apply Keeps.next; (with_reducible apply kp_peRequest); decide)
    | (apply Keeps.next; (with_reducible apply kp_peCfgErr); decide)
    | (apply Keeps.next; (with_reducible apply kp_peChanCfgWrite); decide)
    | (apply Keeps.next; (with_reducible apply kp_plain); decide)
    | (with_reducible apply Keeps.forEach)
    | (with_reducible apply Keeps.ite)
    | (with_reducible apply Keeps.foldl)
    | intro _
    | split
    | dsimp only

theorem kp_eeCfgErr (s : State) : Keeps 0 s (State.eeCfgErr s) := by
  unfold State.eeCfgErr
  repeat' first
    | (with_reducible exact Keeps.refl)
    | (with_reducible apply Keeps.wr)
    | (with_reducible apply Keeps.ite)
    | (with_reducible apply Keeps.foldl)
    | intro _
    | split
    | dsimp only

theorem kp_eeWrite (s : State) (a : Nat) (v : Nat) (m : Nat) : Keeps 35233794 s (State.eeWrite s a v m) := by
  unfold State.eeWrite
  repeat' first
    | (with_reducible exact Keeps.refl)
    | (with_reducible apply Keeps.wr)
    | (apply Keeps.next; (with_reducible apply kp_eeCfgErr); decide)
    | (apply Keeps.next; (with_reducible apply kp_plain); decide)
    | (apply Keeps.next; (with_reducible apply kp_eeDisarm); decide)
    | (apply Keeps.next; (with_reducible apply kp_eeClear); decide)
    | (apply Keeps.next; (with_reducible apply kp_eeRebase); decide)
    | (apply Keeps.next; (with_reducible apply kp_peCfgErr); decide)
    | (with_reducible apply Keeps.when)
    | (with_reducible apply Keeps.ite)
    | (with_reducible apply Keeps.foldl)
    | intro _
    | split
    | dsimp only

theorem kp_cvuCfgErr (s : State) (u : Nat) : Keeps 0 s (State.cvuCfgErr s u) := by
  unfold State.cvuCfgErr
  repeat' first
    | (with_reducible exact Keeps.refl)
    | (with_reducible apply Keeps.wr)
    | (with_reducible apply Keeps.ite)
    | (with_reducible apply Keeps.foldl)
    | intro _
    | split
    | dsimp only

theorem kp_cvuCtrlWrite (s : State) (u : Nat) (a : Nat) (v : Nat) (m : Nat) : Keeps 2 s (State.cvuCtrlWrite s u a v m) := by
  unfold State.cvuCtrlWrite
  repeat' first
    | (with_reducible exact Keeps.refl)
    | (with_reducible apply kp_lockOut)
    | (apply Keeps.next; (with_reducible apply kp_cvuCfgErr); decide)
    | (apply Keeps.next; (with_reducible apply kp_plain); decide)
    | (with_reducible apply Keeps.ite)
    | (with_reducible exact Keeps.reflP)
    | (simp only [Keeps.pair_eq])
    | (with_reducible apply Keeps.snd)
    | (apply Keeps.of_pair; assumption)
    | (with_reducible apply Keeps.iteP)
    | (with_reducible apply Keeps.foldlP)
    | (with_reducible apply Keeps.foldl)
    | intro _
    | split
    | dsimp only

theorem kp_cvuWindowWrite (s : State) (u : Nat) (off : Nat) (a : Nat) (v : Nat) (m : Nat) : Keeps 2 s (State.cvuWindowWrite s u off a v m) := by
  unfold State.cvuWindowWrite
  repeat' first
    | (with_reducible exact Keeps.refl)
    | (apply Keeps.next; (with_reducible apply kp_cvuCfgErr); decide)
    | (apply Keeps.next; (with_reducible apply kp_plain); decide)
    | (with_reducible apply Keeps.ite)
    | (with_reducible apply Keeps.foldl)
    | intro _
    | split
    | dsimp only

theorem kp_cvuRegWrite (s : State) (a : Nat) (v : Nat) (m : Nat) : Keeps 2148630530 s (State.cvuRegWrite s a v m) := by
  unfold State.cvuRegWrite
  repeat' first
    | (with_reducible exact Keeps.refl)
    | (apply Keeps.next; (with_reducible apply kp_plain); decide)
    | (apply Keeps.next; (with_reducible apply kp_cvuCtrlWrite); decide)
    | (apply Keeps.next; (with_reducible apply kp_cvuWindowWrite); decide)
    | (apply Keeps.next; (with_reducible apply kp_cvuRestore); decide)
    | (apply Keeps.next; (with_reducible apply kp_cvuClr); decide)
    | (apply Keeps.next; (with_reducible apply kp_cvuEnd); decide)
    | (apply Keeps.next; (with_reducible apply kp_cvuStart); decide)
    | (with_reducible apply Keeps.when)
    | (with_reducible apply Keeps.ite)
    | (with_reducible apply Keeps.foldl)
    | intro _
    | split
    | dsimp only

theorem kp_wdtCtrlWrite (s : State) (a : Nat) (v : Nat) (m : Nat) : Keeps 2 s (State.wdtCtrlWrite s a v m) := by
  unfold State.wdtCtrlWrite
  repeat' first
    | (with_reducible exact Keeps.refl)
    | (with_reducible apply Keeps.wr)
    | (apply Keeps.next; (with_reducible apply kp_plain); decide)
    | (with_reducible apply Keeps.when)
    | (with_reducible apply Keeps.ite)
    | (with_reducible apply Keeps.foldl)
    | intro _
    | split
    | dsimp only

theorem kp_laneClockWrite (s : State) (a : Nat) (v : Nat) (m : Nat) : Keeps 538017794 s (State.laneClockWrite s a v m) := by
  unfold State.laneClockWrite
  repeat' first
    | (with_reducible exact Keeps.refl)
    | (apply Keeps.next; (with_reducible apply kp_plain); decide)
    | (apply Keeps.next; (with_reducible apply kp_lanesLost); decide)
    | (apply Keeps.next; (with_reducible apply kp_clrB); decide)
    | (with_reducible apply Keeps.when)
    | (with_reducible apply Keeps.ite)
    | (with_reducible apply Keeps.foldl)
    | intro _
    | split
    | dsimp only

theorem kp_rampCtrlWrite (s : State) (a : Nat) (v : Nat) (m : Nat) : Keeps 8589934594 s (State.rampCtrlWrite s a v m) := by
  unfold State.rampCtrlWrite
  repeat' first
    | (with_reducible exact Keeps.refl)
    | (apply Keeps.next; (with_reducible apply kp_plain); decide)
    | (apply Keeps.next; (with_reducible apply kp_rampRun); decide)
    | (apply Keeps.next; (with_reducible apply kp_rampStop); decide)
    | (with_reducible apply Keeps.ite)
    | (with_reducible apply Keeps.foldl)
    | intro _
    | split
    | dsimp only

theorem kp_clkWrite (s : State) (a : Nat) (v : Nat) (m : Nat) : Keeps 17179869182 s (State.clkWrite s a v m) := by
  unfold State.clkWrite
  repeat' first
    | (with_reducible exact Keeps.refl)
    | (with_reducible apply Keeps.atBuilt; refine Keeps.upd ?_)
    | (simp only [Keeps.built])
    | (with_reducible apply Keeps.wr)
    | (apply Keeps.next; (with_reducible apply kp_powerStart); decide)
    | (apply Keeps.next; (with_reducible apply kp_plain); decide)
    | (apply Keeps.next; (with_reducible apply kp_wdtCtrlWrite); decide)
    | (apply Keeps.next; (with_reducible apply kp_wdtKick); decide)
    | (apply Keeps.next; (with_reducible apply kp_laneClockWrite); decide)
    | (apply Keeps.next; (with_reducible apply kp_rampCtrlWrite); decide)
    | (apply Keeps.next; (with_reducible apply kp_calStartFree); decide)
    | (with_reducible apply Keeps.when)
    | (with_reducible apply Keeps.ite)
    | (with_reducible apply Keeps.foldl)
    | intro _
    | split
    | dsimp only

theorem kp_umbRegWrite (s : State) (a : Nat) (v : Nat) (m : Nat) : Keeps 1209110530 s (State.umbRegWrite s a v m) := by
  unfold State.umbRegWrite
  repeat' first
    | (with_reducible exact Keeps.refl)
    | (with_reducible apply Keeps.wr)
    | (apply Keeps.next; (with_reducible apply kp_timeSet); decide)
    | (apply Keeps.next; (with_reducible apply kp_logShow); decide)
    | (apply Keeps.next; (with_reducible apply kp_plain); decide)
    | (apply Keeps.next; (with_reducible apply kp_logPut); decide)
    | (with_reducible apply Keeps.when)
    | (with_reducible apply Keeps.ite)
    | (with_reducible apply Keeps.foldl)
    | intro _
    | split
    | dsimp only

end Sys2Proof.Machine
end

