-- ==== Sys2Proof/Laws/KeepsBus.lean ====
section
/-! SUPPORT. Laws/KeepsBus.lean: what each operation of Machine/Bus.lean keeps. -/

set_option Elab.async false

set_option linter.unusedTactic false
set_option linter.unusedSimpArgs false
set_option linter.unreachableTactic false

namespace Sys2Proof.Machine

theorem kp_regWrite (s : State) (who : Master) (a : Nat) (v : Nat) (m : Nat) : Keeps 17179869182 s (State.regWrite s who a v m) := by
  unfold State.regWrite
  repeat' first
    | (with_reducible exact Keeps.refl)
    | (apply Keeps.next; (with_reducible apply kp_orbWrite); decide)
    | (apply Keeps.next; (with_reducible apply kp_gsRegWrite); decide)
    | (apply Keeps.next; (with_reducible apply kp_pwmWrite); decide)
    | (apply Keeps.next; (with_reducible apply kp_drvWrite); decide)
    | (apply Keeps.next; (with_reducible apply kp_snsWrite); decide)
    | (apply Keeps.next; (with_reducible apply kp_cmpWrite); decide)
    | (apply Keeps.next; (with_reducible apply kp_leWrite); decide)
    | (apply Keeps.next; (with_reducible apply kp_meWrite); decide)
    | (apply Keeps.next; (with_reducible apply kp_peWrite); decide)
    | (apply Keeps.next; (with_reducible apply kp_eeWrite); decide)
    | (apply Keeps.next; (with_reducible apply kp_cmtWrite); decide)
    | (apply Keeps.next; (with_reducible apply kp_cvuRegWrite); decide)
    | (apply Keeps.next; (with_reducible apply kp_evfWrite); decide)
    | (apply Keeps.next; (with_reducible apply kp_crossWrite); decide)
    | (apply Keeps.next; (with_reducible apply kp_clkWrite); decide)
    | (apply Keeps.next; (with_reducible apply kp_umbRegWrite); decide)
    | (apply Keeps.next; (with_reducible apply kp_plain); decide)
    | (with_reducible apply Keeps.ite)
    | (with_reducible apply Keeps.foldl)
    | intro _
    | split
    | dsimp only

theorem kp_mcRefill (s : State) : Keeps 1155072 s (State.mcRefill s) := by
  unfold State.mcRefill
  repeat' first
    | (with_reducible exact Keeps.refl)
    | (with_reducible apply Keeps.atBuilt; refine Keeps.upd ?_)
    | (simp only [Keeps.built])
    | (with_reducible apply Keeps.wr)
    | (apply Keeps.next; (with_reducible apply kp_mbxSubmit); decide)
    | (with_reducible apply Keeps.ite)
    | (with_reducible apply Keeps.foldl)
    | intro _
    | split
    | dsimp only

theorem kp_mcSubmit (s : State) (e : MbxEntry) : Keeps 1155072 s (State.mcSubmit s e) := by
  unfold State.mcSubmit
  repeat' first
    | (with_reducible exact Keeps.refl)
    | (with_reducible apply Keeps.atBuilt; refine Keeps.upd ?_)
    | (simp only [Keeps.built])
    | (apply Keeps.next; (with_reducible apply kp_mcRefill); decide)
    | (with_reducible apply Keeps.ite)
    | (with_reducible apply Keeps.foldl)
    | intro _
    | split
    | dsimp only

theorem kp_crossingWrite (s : State) (who : Master) (a : Nat) (v : Nat) (m : Nat) : Keeps 17179869182 s (State.crossingWrite s who a v m) := by
  unfold State.crossingWrite
  repeat' first
    | (with_reducible exact Keeps.refl)
    | (with_reducible apply Keeps.atBuilt; refine Keeps.upd ?_)
    | (simp only [Keeps.built])
    | (apply Keeps.next; (with_reducible apply kp_regWrite); decide)
    | (with_reducible apply Keeps.access; decide)
    | (with_reducible apply Keeps.ite)
    | (with_reducible apply Keeps.foldl)
    | intro _
    | split
    | dsimp only

theorem kp_busWrite (s : State) (who : Master) (a : Nat) (size : Nat) (v : Nat) : Keeps 17179869182 s (State.busWrite s who a size v) := by
  unfold State.busWrite
  repeat' first
    | (with_reducible exact Keeps.refl)
    | (with_reducible apply Keeps.atBuilt; refine Keeps.upd ?_)
    | (simp only [Keeps.built])
    | (apply Keeps.next; (with_reducible apply kp_standbyPendClear); decide)
    | (with_reducible apply kp_umbWrite; decide)
    | (apply Keeps.next; (with_reducible apply kp_regWrite); decide)
    | (apply Keeps.next; (with_reducible apply kp_crossingWrite); decide)
    | (with_reducible apply Keeps.access; decide)
    | (with_reducible apply Keeps.ite)
    | (with_reducible apply Keeps.foldl)
    | intro _
    | split
    | dsimp only [id]

theorem kp_dataPortApply (s : State) : Keeps 1155072 s (State.dataPortApply s) := by
  unfold State.dataPortApply
  repeat' first
    | (with_reducible exact Keeps.refl)
    | (with_reducible apply Keeps.atBuilt; refine Keeps.upd ?_)
    | (simp only [Keeps.built])
    | (with_reducible apply Keeps.wr)
    | (apply Keeps.next; (with_reducible apply kp_epochDiscard); decide)
    | (with_reducible apply Keeps.forEach)
    | (with_reducible apply Keeps.ite)
    | (with_reducible apply Keeps.foldl)
    | intro _
    | split
    | dsimp only

theorem kp_loadShow (s : State) (t : LoadTarget) (b : Bool) : Keeps 0 s (State.loadShow s t b) := by
  unfold State.loadShow
  repeat' first
    | (with_reducible exact Keeps.refl)
    | (with_reducible apply Keeps.wr)
    | (with_reducible apply Keeps.ite)
    | (with_reducible apply Keeps.foldl)
    | intro _
    | split
    | dsimp only

theorem kp_setLoad (s : State) (t : LoadTarget) (p : LoadPhase) : Keeps 8192 s (State.setLoad s t p) := by
  unfold State.setLoad
  repeat' first
    | (with_reducible exact Keeps.refl)
    | (with_reducible apply Keeps.atBuilt; refine Keeps.upd ?_)
    | (simp only [Keeps.built])
    | (with_reducible apply Keeps.ite)
    | (with_reducible apply Keeps.foldl)
    | intro _
    | split
    | dsimp only

theorem kp_loadStartQ (s : State) (t : LoadTarget) (addr : Nat) (len : Nat) (crc : Nat) (entry : Nat) (seq : Nat) : KeepsO 8192 s (State.loadStart? s t addr len crc entry seq) := by
  unfold State.loadStart?
  repeat' first
    | (with_reducible exact Keeps.refl)
    | (apply Keeps.next; (with_reducible apply kp_loadShow); decide)
    | (apply Keeps.next; (with_reducible apply kp_setLoad); decide)
    | (with_reducible apply Keeps.ite)
    | (with_reducible apply Keeps.iteO)
    | (with_reducible exact Keeps.none)
    | (with_reducible apply Keeps.some)
    | (apply Keeps.of_some; assumption)
    | (with_reducible apply Keeps.foldl)
    | intro _
    | split
    | dsimp only

theorem kp_entryApplyQ (s : State) (i : Nat) (e : MbxEntry) : KeepsO 17179869182 s (State.entryApply? s i e) := by
  have hr : ∀ (u : State) w a v m, Keeps 17179869182 u (u.regWrite w a v m) := fun u w a v m => (kp_regWrite u w a v m).mono (by decide)
  have hl : ∀ (u : State) t a l c n q, KeepsO 17179869182 u (u.loadStart? t a l c n q) := fun u t a l c n q v hv => (kp_loadStartQ u t a l c n q v hv).mono (by decide)
  unfold State.entryApply?
  generalize State.regWrite = R at *
  generalize State.loadStart? = L at *
  dsimp only
  split
  · exact Keeps.some Keeps.refl
  · split
    · exact Keeps.none
    · exact Keeps.some (hr _ _ _ _ _)
  · split
    · exact Keeps.some (Keeps.wr Keeps.refl)
    · exact Keeps.none
  · split
    · exact Keeps.none
    · split
      · rename_i h
        exact Keeps.some (hl _ _ _ _ _ _ _ _ h)
      · exact Keeps.none
  · exact Keeps.none

theorem kp_entryReject (s : State) (i : Nat) (e : MbxEntry) : Keeps 0 s (State.entryReject s i e) := by
  unfold State.entryReject
  repeat' first
    | (with_reducible exact Keeps.refl)
    | (apply Keeps.next; (with_reducible apply kp_setB); decide)
    | (apply Keeps.next; (with_reducible apply kp_orbCfgErr); decide)
    | (with_reducible apply Keeps.when)
    | (with_reducible apply Keeps.ite)
    | (with_reducible apply Keeps.foldl)
    | intro _
    | split
    | dsimp only

theorem kp_entriesApply (s : State) (es : List MbxEntry) : Keeps 17179869182 s (State.entriesApply s es) := by
  unfold State.entriesApply
  repeat' first
    | (with_reducible exact Keeps.refl)
    | (apply Keeps.nextO; (with_reducible apply kp_entryApplyQ); decide)
    | (apply Keeps.next; (with_reducible apply kp_entryReject); decide)
    | (with_reducible apply Keeps.ite)
    | (with_reducible exact Keeps.none)
    | (with_reducible apply Keeps.some)
    | (apply Keeps.of_some; assumption)
    | (with_reducible apply Keeps.foldl)
    | intro _
    | split
    | dsimp only

theorem kp_leCrcFail (s : State) (e : Nat) : Keeps 1146880 s (State.leCrcFail s e) := by
  unfold State.leCrcFail
  repeat' first
    | (with_reducible exact Keeps.refl)
    | (with_reducible apply Keeps.wr)
    | (apply Keeps.next; (with_reducible apply kp_raise); decide)
    | (with_reducible apply Keeps.ite)
    | (with_reducible apply Keeps.foldl)
    | intro _
    | split
    | dsimp only

theorem kp_loadReject (s : State) (entry : Nat) (seq : Nat) : Keeps 0 s (State.loadReject s entry seq) := by
  unfold State.loadReject
  repeat' first
    | (with_reducible exact Keeps.refl)
    | (apply Keeps.next; (with_reducible apply kp_setB); decide)
    | (with_reducible apply Keeps.when)
    | (with_reducible apply Keeps.ite)
    | (with_reducible apply Keeps.foldl)
    | intro _
    | split
    | dsimp only

theorem kp_loadTake (s : State) (t : LoadTarget) (ws : List Nat) (entry : Nat) (seq : Nat) : Keeps 85303296 s (State.loadTake s t ws entry seq) := by
  unfold State.loadTake
  repeat' first
    | (with_reducible exact Keeps.refl)
    | (apply Keeps.next; (with_reducible apply kp_leCheck); decide)
    | (apply Keeps.next; (with_reducible apply kp_setLeInactive); decide)
    | (apply Keeps.next; (with_reducible apply kp_loadShow); decide)
    | (apply Keeps.next; (with_reducible apply kp_setLoad); decide)
    | (apply Keeps.next; (with_reducible apply kp_orbTakeLoad); decide)
    | (apply Keeps.next; (with_reducible apply kp_loadReject); decide)
    | (apply Keeps.next; (with_reducible apply kp_profileLoaded); decide)
    | (apply Keeps.next; (with_reducible apply kp_peProfileLoaded); decide)
    | (with_reducible apply Keeps.ite)
    | (with_reducible apply Keeps.foldl)
    | intro _
    | split
    | dsimp only

theorem kp_loadComplete (s : State) (t : LoadTarget) : Keeps 85303296 s (State.loadComplete s t) := by
  unfold State.loadComplete
  repeat' first
    | (with_reducible exact Keeps.refl)
    | (apply Keeps.next; (with_reducible apply kp_loadTake); decide)
    | (apply Keeps.next; (with_reducible apply kp_loadReject); decide)
    | (apply Keeps.next; (with_reducible apply kp_loadShow); decide)
    | (apply Keeps.next; (with_reducible apply kp_setLoad); decide)
    | (apply Keeps.next; (with_reducible apply kp_leCrcFail); decide)
    | (with_reducible apply Keeps.ite)
    | (with_reducible apply Keeps.foldl)
    | intro _
    | split
    | dsimp only

theorem kp_subApply (s : State) : Keeps 17179869182 s (State.subApply s) := by
  unfold State.subApply
  repeat' first
    | (with_reducible exact Keeps.refl)
    | (with_reducible apply Keeps.atBuilt; refine Keeps.upd ?_)
    | (simp only [Keeps.built])
    | (with_reducible apply Keeps.wr)
    | (apply Keeps.next; (with_reducible apply kp_entriesApply); decide)
    | (apply Keeps.next; (with_reducible apply kp_raise); decide)
    | (apply Keeps.next; (with_reducible apply kp_incWrap); decide)
    | (with_reducible apply Keeps.ite)
    | (with_reducible apply Keeps.foldl)
    | intro _
    | split
    | dsimp only

theorem kp_mbxApply (s : State) (edge : Option (Nat × Nat)) : Keeps 17179869182 s (State.mbxApply s edge) := by
  unfold State.mbxApply
  repeat' first
    | (with_reducible exact Keeps.refl)
    | (with_reducible apply Keeps.wr)
    | (apply Keeps.next; (with_reducible apply kp_dataPortApply); decide)
    | (apply Keeps.next; (with_reducible apply kp_subApply); decide)
    | (apply Keeps.next; (with_reducible apply kp_busWrite); decide)
    | (apply Keeps.next; (with_reducible apply kp_mcRefill); decide)
    | (with_reducible apply Keeps.when)
    | (with_reducible apply Keeps.ite)
    | (with_reducible apply Keeps.foldl)
    | intro _
    | split
    | dsimp only

theorem kp_orderlySafe (s : State) : Keeps 1671680 s (State.orderlySafe s) := by
  unfold State.orderlySafe
  repeat' first
    | (with_reducible exact Keeps.refl)
    | (with_reducible apply Keeps.atBuilt; refine Keeps.upd ?_)
    | (simp only [Keeps.built])
    | (apply Keeps.next; (with_reducible apply kp_faultHold); decide)
    | (apply Keeps.next; (with_reducible apply kp_openRelays); decide)
    | (with_reducible apply Keeps.ite)
    | (with_reducible apply Keeps.foldl)
    | intro _
    | split
    | dsimp only

theorem kp_takeoverAll (s : State) : Keeps 35492400 s (State.takeoverAll s) := by
  unfold State.takeoverAll
  repeat' first
    | (with_reducible exact Keeps.refl)
    | (apply Keeps.next; (with_reducible apply kp_eeTakeover); decide)
    | (apply Keeps.next; (with_reducible apply kp_takeoverMark); decide)
    | (apply Keeps.next; (with_reducible apply kp_takeover); decide)
    | (apply Keeps.next; (with_reducible apply kp_dropTakeover); decide)
    | (with_reducible apply Keeps.ite)
    | (with_reducible apply Keeps.foldl)
    | intro _
    | split
    | dsimp only

theorem kp_tcmLoad (s : State) (p : PairId) : Keeps 48 s (State.tcmLoad s p) := by
  unfold State.tcmLoad
  repeat' first
    | (with_reducible exact Keeps.refl)
    | (with_reducible apply Keeps.setTcm; decide; decide)
    | exact fun _ => rfl
    | exact fun hc => Keeps.tcmOf hc _
    | exact fun hc => Keeps.keysRise_write _ _ (Keeps.tcmOf hc _)
    | (with_reducible apply Keeps.ite)
    | (with_reducible apply Keeps.foldl)
    | intro _
    | split
    | dsimp only

theorem kp_execMbxApply (edge : Option (Nat × Nat)) (s : State) : KeepsN 17179869182 s (execMbxApply edge s) := by
  unfold execMbxApply
  repeat' first
    | (with_reducible exact Keeps.refl)
    | (with_reducible apply Keeps.out)
    | (apply Keeps.next; (with_reducible apply kp_mbxApply); decide)
    | (with_reducible apply Keeps.ite)
    | (with_reducible apply Keeps.foldl)
    | intro _
    | split
    | dsimp only

theorem kp_execLoadCopyComplete (t : LoadTarget) (s : State) : KeepsN 85303296 s (execLoadCopyComplete t s) := by
  unfold execLoadCopyComplete
  repeat' first
    | (with_reducible exact Keeps.refl)
    | (with_reducible apply Keeps.out)
    | (apply Keeps.next; (with_reducible apply kp_loadComplete); decide)
    | (with_reducible apply Keeps.ite)
    | (with_reducible apply Keeps.foldl)
    | intro _
    | split
    | dsimp only

theorem kp_execCpTakeover (s : State) : KeepsN 35492400 s (execCpTakeover s) := by
  unfold execCpTakeover
  repeat' first
    | (with_reducible exact Keeps.refl)
    | (with_reducible apply Keeps.out)
    | (apply Keeps.next; (with_reducible apply kp_takeoverAll); decide)
    | (with_reducible apply Keeps.ite)
    | (with_reducible apply Keeps.foldl)
    | intro _
    | split
    | dsimp only

theorem kp_execOrderlySafeState (s : State) : KeepsN 1671680 s (execOrderlySafeState s) := by
  unfold execOrderlySafeState
  repeat' first
    | (with_reducible exact Keeps.refl)
    | (with_reducible apply Keeps.out)
    | (apply Keeps.next; (with_reducible apply kp_orderlySafe); decide)
    | (with_reducible apply Keeps.ite)
    | (with_reducible apply Keeps.foldl)
    | intro _
    | split
    | dsimp only

theorem kp_execCpEnable (m : Master) (p : PairId) (s : State) : KeepsN 594224 s (execCpEnable m p s) := by
  unfold execCpEnable
  repeat' first
    | (with_reducible exact Keeps.refl)
    | (with_reducible apply Keeps.out)
    | (apply Keeps.next; (with_reducible apply kp_pairEnableCmd); decide)
    | (with_reducible apply Keeps.access; decide)
    | (with_reducible apply Keeps.ite)
    | (with_reducible apply Keeps.foldl)
    | intro _
    | split
    | dsimp only

theorem kp_execCpActivate (p : PairId) (s : State) : KeepsN 1671728 s (execCpActivate p s) := by
  unfold execCpActivate
  repeat' first
    | (with_reducible exact Keeps.refl)
    | (with_reducible apply Keeps.out)
    | (apply Keeps.next; (with_reducible apply kp_pairActivate); decide)
    | (apply Keeps.next; (with_reducible apply kp_operSettle); decide)
    | (apply Keeps.next; (with_reducible apply kp_tcmLoad); decide)
    | (with_reducible apply Keeps.ite)
    | (with_reducible apply Keeps.foldl)
    | intro _
    | split
    | dsimp only

end Sys2Proof.Machine
end

