-- ==== Sys2Proof/Laws/KeepsOrbitSteps.lean ====
section
/-! SUPPORT. Laws/KeepsOrbitSteps.lean: what each operation of Machine/OrbitSteps.lean keeps. -/

set_option Elab.async false

set_option linter.unusedTactic false
set_option linter.unusedSimpArgs false
set_option linter.unreachableTactic false

namespace Sys2Proof.Machine

theorem kp_configApply (s : State) : Keeps 1146880 s (State.configApply s) := by
  unfold State.configApply
  repeat' first
    | (with_reducible exact Keeps.refl)
    | (apply Keeps.next; (with_reducible apply kp_leBudgetCheck); decide)
    | (apply Keeps.next; (with_reducible apply kp_orbConfigApply); decide)
    | (with_reducible apply Keeps.ite)
    | (with_reducible apply Keeps.foldl)
    | intro _
    | split
    | dsimp only

theorem kp_groupLoss (s : State) : Keeps 34709504 s (State.groupLoss s) := by
  unfold State.groupLoss
  repeat' first
    | (with_reducible exact Keeps.refl)
    | (apply Keeps.next; (with_reducible apply kp_orbGroupLoss); decide)
    | (apply Keeps.next; (with_reducible apply kp_gsHold); decide)
    | (apply Keeps.next; (with_reducible apply kp_eeGroupLoss); decide)
    | (with_reducible apply Keeps.ite)
    | (with_reducible apply Keeps.foldl)
    | intro _
    | split
    | dsimp only

theorem kp_snapshotOp (s : State) (arg : Nat) (tick : Nat) : Keeps 32768 s (State.snapshotOp s arg tick) := by
  unfold State.snapshotOp
  repeat' first
    | (with_reducible exact Keeps.refl)
    | (with_reducible apply Keeps.wr)
    | (apply Keeps.next; (with_reducible apply kp_toTick); decide)
    | (apply Keeps.next; (with_reducible apply kp_pwmSnapshot); decide)
    | (apply Keeps.next; (with_reducible apply kp_cmtSnapshot); decide)
    | (with_reducible apply Keeps.when)
    | (with_reducible apply Keeps.forEach)
    | (with_reducible apply Keeps.ite)
    | (with_reducible apply Keeps.foldl)
    | intro _
    | split
    | dsimp only

theorem kp_opAct (s : State) (o : OrbOp) (tick : Nat) : Keeps 1146880 s (State.opAct s o tick) := by
  unfold State.opAct
  repeat' first
    | (with_reducible exact Keeps.refl)
    | (with_reducible apply Keeps.wr)
    | (apply Keeps.next; (with_reducible apply kp_retire); decide)
    | (apply Keeps.next; (with_reducible apply kp_snapshotOp); decide)
    | (apply Keeps.next; (with_reducible apply kp_raise); decide)
    | (with_reducible apply Keeps.ite)
    | (with_reducible apply Keeps.foldl)
    | intro _
    | split
    | dsimp only

theorem kp_slotSpent (s : State) (slot : Nat) : Keeps 32768 s (State.slotSpent s slot) := by
  unfold State.slotSpent
  repeat' first
    | (with_reducible exact Keeps.refl)
    | (with_reducible apply Keeps.atBuilt; refine Keeps.upd ?_)
    | (simp only [Keeps.built])
    | (with_reducible apply Keeps.ite)
    | (with_reducible apply Keeps.foldl)
    | intro _
    | split
    | dsimp only

theorem kp_slotEcc (s : State) (slot : Nat) : Keeps 1146880 s (State.slotEcc s slot) := by
  unfold State.slotEcc
  repeat' first
    | (with_reducible exact Keeps.refl)
    | (apply Keeps.next; (with_reducible apply kp_flagRaise); decide)
    | (apply Keeps.next; (with_reducible apply kp_slotSpent); decide)
    | (with_reducible apply Keeps.ite)
    | (with_reducible apply Keeps.foldl)
    | intro _
    | split
    | dsimp only

theorem kp_slotFire (s : State) (slot : Nat) (tick : Nat) (trig : Nat) : Keeps 1146880 s (State.slotFire s slot tick trig) := by
  unfold State.slotFire
  repeat' first
    | (with_reducible exact Keeps.refl)
    | (with_reducible apply Keeps.atBuilt; refine Keeps.upd ?_)
    | (simp only [Keeps.built])
    | (with_reducible apply Keeps.wr)
    | (apply Keeps.next; (with_reducible apply kp_opAct); decide)
    | (apply Keeps.next; (with_reducible apply kp_slotSpent); decide)
    | (with_reducible apply Keeps.ite)
    | (with_reducible apply Keeps.foldl)
    | intro _
    | split
    | dsimp only

theorem kp_slotIssue (s : State) (slot : Nat) (tick : Nat) (eccBad : Bool) : Keeps 1146880 s (State.slotIssue s slot tick eccBad) := by
  unfold State.slotIssue
  repeat' first
    | (with_reducible exact Keeps.refl)
    | (with_reducible apply Keeps.wr)
    | (apply Keeps.next; (with_reducible apply kp_toTick); decide)
    | (apply Keeps.next; (with_reducible apply kp_slotEcc); decide)
    | (apply Keeps.next; (with_reducible apply kp_slotSpent); decide)
    | (apply Keeps.next; (with_reducible apply kp_incSat); decide)
    | (apply Keeps.next; (with_reducible apply kp_slotFire); decide)
    | (with_reducible apply Keeps.when)
    | (with_reducible apply Keeps.ite)
    | (with_reducible apply Keeps.foldl)
    | intro _
    | split
    | dsimp only

theorem kp_trackerSample (s : State) (tick : Nat) (t : TrackerSample) : Keeps 51478528 s (State.trackerSample s tick t) := by
  unfold State.trackerSample
  repeat' first
    | (with_reducible exact Keeps.refl)
    | (apply Keeps.next; (with_reducible apply kp_eeSample); decide)
    | (apply Keeps.next; (with_reducible apply kp_gsSample); decide)
    | (apply Keeps.next; (with_reducible apply kp_orbSample); decide)
    | (apply Keeps.next; (with_reducible apply kp_toTick); decide)
    | (with_reducible apply Keeps.ite)
    | (with_reducible apply Keeps.foldl)
    | intro _
    | split
    | dsimp only

theorem kp_execOrbTrackerSample (tick : Nat) (t : TrackerSample) (s : State) : KeepsN 51478528 s (execOrbTrackerSample tick t s) := by
  unfold execOrbTrackerSample
  repeat' first
    | (with_reducible exact Keeps.refl)
    | (with_reducible apply Keeps.out)
    | (apply Keeps.next; (with_reducible apply kp_trackerSample); decide)
    | (with_reducible apply Keeps.ite)
    | (with_reducible apply Keeps.foldl)
    | intro _
    | split
    | dsimp only

theorem kp_execOrbVoltagePresent (s : State) : KeepsN 1146880 s (execOrbVoltagePresent s) := by
  unfold execOrbVoltagePresent
  repeat' first
    | (with_reducible exact Keeps.refl)
    | (with_reducible apply Keeps.out)
    | (apply Keeps.next; (with_reducible apply kp_gsHold); decide)
    | (apply Keeps.next; (with_reducible apply kp_orbVoltagePresent); decide)
    | (with_reducible apply Keeps.ite)
    | (with_reducible apply Keeps.foldl)
    | intro _
    | split
    | dsimp only

theorem kp_execOrbVoltageAbsent (s : State) : KeepsN 1146880 s (execOrbVoltageAbsent s) := by
  unfold execOrbVoltageAbsent
  repeat' first
    | (with_reducible exact Keeps.refl)
    | (with_reducible apply Keeps.out)
    | (apply Keeps.next; (with_reducible apply kp_gsHold); decide)
    | (apply Keeps.next; (with_reducible apply kp_orbVoltageAbsent); decide)
    | (with_reducible apply Keeps.ite)
    | (with_reducible apply Keeps.foldl)
    | intro _
    | split
    | dsimp only

theorem kp_execOrbLockAchieved (s : State) : KeepsN 1146880 s (execOrbLockAchieved s) := by
  unfold execOrbLockAchieved
  repeat' first
    | (with_reducible exact Keeps.refl)
    | (with_reducible apply Keeps.out)
    | (apply Keeps.next; (with_reducible apply kp_gsHold); decide)
    | (apply Keeps.next; (with_reducible apply kp_orbLockAchieved); decide)
    | (with_reducible apply Keeps.ite)
    | (with_reducible apply Keeps.foldl)
    | intro _
    | split
    | dsimp only

theorem kp_execOrbLockLost (s : State) : KeepsN 1146880 s (execOrbLockLost s) := by
  unfold execOrbLockLost
  repeat' first
    | (with_reducible exact Keeps.refl)
    | (with_reducible apply Keeps.out)
    | (apply Keeps.next; (with_reducible apply kp_gsHold); decide)
    | (apply Keeps.next; (with_reducible apply kp_orbLockLost); decide)
    | (with_reducible apply Keeps.ite)
    | (with_reducible apply Keeps.foldl)
    | intro _
    | split
    | dsimp only

theorem kp_execOrbFlywheelLimit (s : State) : KeepsN 1146880 s (execOrbFlywheelLimit s) := by
  unfold execOrbFlywheelLimit
  repeat' first
    | (with_reducible exact Keeps.refl)
    | (with_reducible apply Keeps.out)
    | (apply Keeps.next; (with_reducible apply kp_gsHold); decide)
    | (apply Keeps.next; (with_reducible apply kp_orbFlyLimit); decide)
    | (with_reducible apply Keeps.ite)
    | (with_reducible apply Keeps.foldl)
    | intro _
    | split
    | dsimp only

theorem kp_execOrbGroupLoss (s : State) : KeepsN 34709504 s (execOrbGroupLoss s) := by
  unfold execOrbGroupLoss
  repeat' first
    | (with_reducible exact Keeps.refl)
    | (with_reducible apply Keeps.out)
    | (apply Keeps.next; (with_reducible apply kp_groupLoss); decide)
    | (with_reducible apply Keeps.ite)
    | (with_reducible apply Keeps.foldl)
    | intro _
    | split
    | dsimp only

theorem kp_execOrbConfigApply (s : State) : KeepsN 1146880 s (execOrbConfigApply s) := by
  unfold execOrbConfigApply
  repeat' first
    | (with_reducible exact Keeps.refl)
    | (with_reducible apply Keeps.out)
    | (apply Keeps.next; (with_reducible apply kp_configApply); decide)
    | (with_reducible apply Keeps.ite)
    | (with_reducible apply Keeps.foldl)
    | intro _
    | split
    | dsimp only

theorem kp_execOrbSlotIssue (slot : Nat) (tick : Nat) (eccBad : Bool) (s : State) : KeepsN 1146880 s (execOrbSlotIssue slot tick eccBad s) := by
  unfold execOrbSlotIssue
  repeat' first
    | (with_reducible exact Keeps.refl)
    | (with_reducible apply Keeps.out)
    | (apply Keeps.next; (with_reducible apply kp_slotIssue); decide)
    | (with_reducible apply Keeps.ite)
    | (with_reducible apply Keeps.foldl)
    | intro _
    | split
    | dsimp only

end Sys2Proof.Machine
end

