-- ==== Sys2Proof/Laws/KeepsSecurity.lean ====
section
/-! SUPPORT. Laws/KeepsSecurity.lean: what each operation of Machine/Security.lean keeps. -/

set_option Elab.async false

set_option linter.unusedTactic false
set_option linter.unusedSimpArgs false
set_option linter.unreachableTactic false

namespace Sys2Proof.Machine

theorem kp_imageVerify (s : State) (t : Nat) (slot : Nat) : KeepsP 1146880 s (State.imageVerify s t slot) := by
  unfold State.imageVerify
  repeat' first
    | (with_reducible exact Keeps.refl)
    | (with_reducible apply Keeps.wr)
    | (apply Keeps.next; (with_reducible apply kp_flagRaise); decide)
    | (with_reducible apply Keeps.when)
    | (with_reducible apply Keeps.ite)
    | (with_reducible apply Keeps.iteP)
    | (with_reducible exact Keeps.reflP)
    | (simp only [Keeps.pair_eq])
    | (with_reducible apply Keeps.snd)
    | (apply Keeps.of_pair; assumption)
    | (with_reducible apply Keeps.foldlP)
    | (with_reducible apply Keeps.foldl)
    | intro _
    | split
    | dsimp only

theorem kp_imagePlace (s : State) (t : Nat) (slot : Nat) (payload : List Byte) : Keeps 196 s (State.imagePlace s t slot payload) := by
  have hm : ∀ m, Memory.wf m → Keeps 196 s { s with mcMem := m } := fun m h => by
    constructor <;> first | rfl | (intro _; rfl) | (intro hc; exact absurd rfl hc) | skip
    · exact fun hc => { hc with mcMem := h }
    · exact Keeps.shaped_of rfl
  have hs : ∀ m, (s.Canonical → Memory.wf m) → Keeps 196 s { s with sram := m } := fun m h => by
    constructor <;> first | rfl | (intro _; rfl) | (intro hc; exact absurd rfl hc) | skip
    · exact fun hc => { hc with sram := h hc }
    · exact Keeps.shaped_of rfl
  have hq : ∀ m, Memory.wf m → Keeps 196 s { s with scMem := m } := fun m h => by
    constructor <;> first | rfl | (intro _; rfl) | (intro hc; exact absurd rfl hc) | skip
    · exact fun hc => { hc with scMem := h }
    · exact Keeps.shaped_of rfl
  unfold State.imagePlace
  split
  · exact hm _ (Memory.wf_write _ _ Memory.wf_nil)
  · split
    · exact hs _ fun hc => Memory.wf_write _ _ hc.sram
    · exact Keeps.refl
  · exact hq _ (Memory.wf_write _ _ (Memory.wf_write _ _ Memory.wf_nil))
  · exact Keeps.refl

theorem kp_imageRun (s : State) (t : Nat) (slot : Nat) : Keeps 4563402948 s (State.imageRun s t slot) := by
  unfold State.imageRun
  repeat' first
    | (with_reducible exact Keeps.refl)
    | (apply Keeps.next; (with_reducible apply kp_imagePlace); decide)
    | (apply Keeps.next; (with_reducible apply kp_setB); decide)
    | (apply Keeps.next; (with_reducible apply kp_putB); decide)
    | (with_reducible apply Keeps.ite)
    | (with_reducible apply Keeps.foldl)
    | intro _
    | split
    | (with_reducible apply Keeps.atBuilt; refine Keeps.upd ?_)
    | (simp only [Keeps.built])
    | dsimp only

theorem kp_imageLoad (s : State) (t : Nat) : Keeps 4564549828 s (State.imageLoad s t) := by
  have h0 : Keeps 4564549828 s (State.clrB { s with sec := { s.sec with loaded := setNth s.sec.loaded t none } } Reg.SEC_SLOT_LOADED t) := by
    refine Keeps.next (kp_clrB ..) (by decide) ?_
    rw [Keeps.built]
    refine Keeps.upd Keeps.refl
  have hr : ∀ (u : State) slot, Keeps 4564549828 u (u.imageRun t slot) := fun u slot => (kp_imageRun u t slot).mono (by decide)
  have hv : ∀ (u : State) slot, Keeps 4564549828 u (u.imageVerify t slot).2 := fun u slot => Keeps.mono (kp_imageVerify u t slot) (by decide)
  have h1 : ∀ u : State, Keeps 4564549828 u ((u.setB Reg.SEC_SLOT_FALLBACK t).raise Ev.SEC_FALLBACK) := fun u =>
    ((kp_setB u _ t).mono (by decide)).trans ((kp_raise _ _).mono (by decide))
  unfold State.imageLoad
  generalize State.imageVerify = V at *
  generalize State.imageRun = R at *
  dsimp only
  split
  · exact (h0.trans (hv _ _)).trans (hr _ _)
  split
  · exact (((h0.trans (hv _ _)).trans (h1 _)).trans (hv _ _)).trans (hr _ _)
  · exact ((h0.trans (hv _ _)).trans (h1 _)).trans (hv _ _)

theorem kp_setOtp (s : State) (f : OtpSt → OtpSt) : Keeps 268435456 s (State.setOtp s f) := by
  unfold State.setOtp
  repeat' first
    | (with_reducible exact Keeps.refl)
    | (with_reducible apply Keeps.ite)
    | (with_reducible apply Keeps.foldl)
    | intro _
    | split
    | (with_reducible apply Keeps.atBuilt; refine Keeps.upd ?_)
    | (simp only [Keeps.built])
    | dsimp only

theorem kp_rmaErase (s : State) : Keeps 268435456 s (State.rmaErase s) := by
  unfold State.rmaErase
  repeat' first
    | (with_reducible exact Keeps.refl)
    | (apply Keeps.next; (with_reducible apply kp_setOtp); decide)
    | (with_reducible apply Keeps.ite)
    | (with_reducible apply Keeps.foldl)
    | intro _
    | split
    | (with_reducible apply Keeps.atBuilt; refine Keeps.upd ?_)
    | (simp only [Keeps.built])
    | dsimp only

theorem kp_secShow (s : State) : Keeps 0 s (State.secShow s) := by
  unfold State.secShow
  repeat' first
    | (with_reducible exact Keeps.refl)
    | (with_reducible apply Keeps.wr)
    | (with_reducible apply Keeps.ite)
    | (with_reducible apply Keeps.foldl)
    | intro _
    | split
    | dsimp only

theorem kp_rollbackAdvance (s : State) (t : Nat) (upTo : Option Nat) : Keeps 268435456 s (State.rollbackAdvance s t upTo) := by
  unfold State.rollbackAdvance
  repeat' first
    | (with_reducible exact Keeps.refl)
    | (apply Keeps.next; (with_reducible apply kp_secShow); decide)
    | (apply Keeps.next; (with_reducible apply kp_setOtp); decide)
    | (with_reducible apply Keeps.ite)
    | (with_reducible apply Keeps.foldl)
    | intro _
    | split
    | dsimp only

theorem kp_debugSet (s : State) (m : Nat) : Keeps 1146880 s (State.debugSet s m) := by
  unfold State.debugSet
  repeat' first
    | (with_reducible exact Keeps.refl)
    | (with_reducible apply Keeps.wr)
    | (apply Keeps.next; (with_reducible apply kp_raise); decide)
    | (with_reducible apply Keeps.ite)
    | (with_reducible apply Keeps.foldl)
    | intro _
    | split
    | dsimp only

theorem kp_identityGenerate (s : State) : Keeps 268439552 s (State.identityGenerate s) := by
  unfold State.identityGenerate
  repeat' first
    | (with_reducible exact Keeps.refl)
    | (apply Keeps.next; (with_reducible apply kp_setOtp); decide)
    | (with_reducible apply Keeps.ite)
    | (with_reducible apply Keeps.foldl)
    | intro _
    | split
    | (with_reducible apply Keeps.atBuilt; refine Keeps.upd ?_)
    | (simp only [Keeps.built])
    | dsimp only

theorem kp_debugTokenQ (s : State) (t : List Byte) : KeepsO 1146880 s (State.debugToken? s t) := by
  unfold State.debugToken?
  repeat' first
    | (with_reducible exact Keeps.refl)
    | (apply Keeps.next; (with_reducible apply kp_debugSet); decide)
    | (with_reducible apply Keeps.ite)
    | (with_reducible apply Keeps.iteO)
    | (with_reducible exact Keeps.none)
    | (with_reducible apply Keeps.some)
    | (apply Keeps.of_some; assumption)
    | (with_reducible apply Keeps.foldl)
    | intro _
    | split
    | dsimp only

theorem kp_tokenRefuse (s : State) : Keeps 1146880 s (State.tokenRefuse s) := by
  unfold State.tokenRefuse
  repeat' first
    | (with_reducible exact Keeps.refl)
    | (apply Keeps.next; (with_reducible apply kp_flagRaise); decide)
    | (with_reducible apply Keeps.ite)
    | (with_reducible apply Keeps.foldl)
    | intro _
    | split
    | dsimp only

theorem kp_imageActivateQ (s : State) (t : Nat) (slot : Nat) : KeepsO 268435456 s (State.imageActivate? s t slot) := by
  unfold State.imageActivate?
  repeat' first
    | (with_reducible exact Keeps.refl)
    | (apply Keeps.next; (with_reducible apply kp_secShow); decide)
    | (with_reducible apply Keeps.ite)
    | (with_reducible apply Keeps.iteO)
    | (with_reducible exact Keeps.none)
    | (with_reducible apply Keeps.some)
    | (apply Keeps.of_some; assumption)
    | (with_reducible apply Keeps.foldl)
    | intro _
    | split
    | (with_reducible apply Keeps.atBuilt; refine Keeps.upd ?_)
    | (simp only [Keeps.built])
    | dsimp only

theorem kp_imageCommit (s : State) (t : Nat) (slot : Nat) : KeepsP 4564549632 s (State.imageCommit s t slot) := by
  have hv : Keeps 4564549632 s (s.imageVerify t slot).2 := Keeps.mono (kp_imageVerify s t slot) (by decide)
  have hu : ∀ (u : State) a b, Keeps 4564549632 u { u with sec := { u.sec with erased := a }, nv := { u.nv with committed := b } } := fun u a b => by
    rw [Keeps.built]
    refine Keeps.upd Keeps.refl
  unfold State.imageCommit
  exact hv.trans (hu _ _ _)

theorem kp_imageWrite (s : State) (t : Nat) (slot : Nat) (off : Nat) (data : List Byte) : Keeps 4563402752 s (State.imageWrite s t slot off data) := by
  unfold State.imageWrite
  repeat' first
    | (with_reducible exact Keeps.refl)
    | (with_reducible apply Keeps.forEach)
    | (with_reducible apply Keeps.ite)
    | (with_reducible apply Keeps.foldl)
    | intro _
    | split
    | (with_reducible apply Keeps.atBuilt; refine Keeps.upd ?_)
    | (simp only [Keeps.built])
    | dsimp only

theorem kp_lcEnter (s : State) (lc : Nat) : Keeps 4296114176 s (State.lcEnter s lc) := by
  unfold State.lcEnter
  repeat' first
    | (with_reducible exact Keeps.refl)
    | (apply Keeps.next; (with_reducible apply kp_raise); decide)
    | (apply Keeps.next; (with_reducible apply kp_debugSet); decide)
    | (apply Keeps.next; (with_reducible apply kp_endSessions); decide)
    | (apply Keeps.next; (with_reducible apply kp_secShow); decide)
    | (with_reducible apply Keeps.ite)
    | (with_reducible apply Keeps.foldl)
    | intro _
    | split
    | (with_reducible apply Keeps.atBuilt; refine Keeps.upd ?_)
    | (simp only [Keeps.built])
    | dsimp only

theorem kp_transitionQ (s : State) (t : List Byte) : KeepsO 268435456 s (State.transition? s t) := by
  unfold State.transition?
  repeat' first
    | (with_reducible exact Keeps.refl)
    | (apply Keeps.next; (with_reducible apply kp_setOtp); decide)
    | (apply Keeps.next; (with_reducible apply kp_rmaErase); decide)
    | (with_reducible apply Keeps.ite)
    | (with_reducible apply Keeps.iteO)
    | (with_reducible exact Keeps.none)
    | (with_reducible apply Keeps.some)
    | (apply Keeps.of_some; assumption)
    | (with_reducible apply Keeps.foldl)
    | intro _
    | split
    | (with_reducible apply Keeps.atBuilt; refine Keeps.upd ?_)
    | (simp only [Keeps.built])
    | dsimp only

theorem kp_lcbBlow (s : State) (n : Nat) (cut : Option Nat) : Keeps 268435456 s (State.lcbBlow s n cut) := by
  unfold State.lcbBlow
  repeat' first
    | (with_reducible exact Keeps.refl)
    | (apply Keeps.next; (with_reducible apply kp_setOtp); decide)
    | (with_reducible apply Keeps.ite)
    | (with_reducible apply Keeps.foldl)
    | intro _
    | split
    | dsimp only

theorem kp_revokeQ (s : State) (t : List Byte) : KeepsO 269582336 s (State.revoke? s t) := by
  unfold State.revoke?
  repeat' first
    | (with_reducible exact Keeps.refl)
    | (apply Keeps.next; (with_reducible apply kp_secShow); decide)
    | (apply Keeps.next; (with_reducible apply kp_setOtp); decide)
    | (apply Keeps.next; (with_reducible apply kp_raise); decide)
    | (with_reducible apply Keeps.ite)
    | (with_reducible apply Keeps.iteO)
    | (with_reducible exact Keeps.none)
    | (with_reducible apply Keeps.some)
    | (apply Keeps.of_some; assumption)
    | (with_reducible apply Keeps.foldl)
    | intro _
    | split
    | dsimp only

theorem kp_lcTokenQ (s : State) (t : List Byte) (cut : Option Nat) : KeepsO 4564549632 s (State.lcToken? s t cut) := by
  unfold State.lcToken?
  split
  · exact Keeps.none
  split
  · split
    · exact Keeps.none
    split
    · exact Keeps.none
    · rename_i u hu
      have h1 : Keeps 4564549632 s u := Keeps.mono (kp_transitionQ s t u hu) (by decide)
      have h2 := h1.trans ((kp_lcbBlow u (byteAt t 5) cut).mono (by decide))
      dsimp only
      split
      · exact Keeps.some (h2.trans ((kp_secShow _).mono (by decide)))
      · refine Keeps.some (Keeps.trans (Keeps.when h2 fun v => (kp_rmaErase v).mono (by decide)) ((kp_lcEnter _ _).mono (by decide)))
  split
  · exact Keeps.nextO (kp_revokeQ s t) (by decide) Keeps.refl
  · exact Keeps.none

theorem kp_tokenTimeout (s : State) : Keeps 4294967296 s (State.tokenTimeout s) := by
  unfold State.tokenTimeout
  repeat' first
    | (with_reducible exact Keeps.refl)
    | (with_reducible apply Keeps.ite)
    | (with_reducible apply Keeps.foldl)
    | intro _
    | split
    | (with_reducible apply Keeps.atBuilt; refine Keeps.upd ?_)
    | (simp only [Keeps.built])
    | dsimp only

theorem kp_trialPromote (s : State) (t : Nat) (upTo : Option Nat) : Keeps 268435456 s (State.trialPromote s t upTo) := by
  unfold State.trialPromote
  repeat' first
    | (with_reducible exact Keeps.refl)
    | (apply Keeps.next; (with_reducible apply kp_setOtp); decide)
    | (apply Keeps.next; (with_reducible apply kp_rollbackAdvance); decide)
    | (with_reducible apply Keeps.ite)
    | (with_reducible apply Keeps.foldl)
    | intro _
    | split
    | (with_reducible apply Keeps.atBuilt; refine Keeps.upd ?_)
    | (simp only [Keeps.built])
    | dsimp only

theorem kp_execTokenStagingTimeout (s : State) : KeepsN 4294967296 s (execTokenStagingTimeout s) := by
  unfold execTokenStagingTimeout
  repeat' first
    | (with_reducible exact Keeps.refl)
    | (with_reducible apply Keeps.out)
    | (apply Keeps.next; (with_reducible apply kp_tokenTimeout); decide)
    | (with_reducible apply Keeps.ite)
    | (with_reducible apply Keeps.foldl)
    | intro _
    | split
    | dsimp only

theorem kp_execImageTrialPromote (t : Nat) (blown : Option Nat) (s : State) : KeepsN 268435456 s (execImageTrialPromote t blown s) := by
  unfold execImageTrialPromote
  repeat' first
    | (with_reducible exact Keeps.refl)
    | (with_reducible apply Keeps.out)
    | (apply Keeps.next; (with_reducible apply kp_trialPromote); decide)
    | (with_reducible apply Keeps.ite)
    | (with_reducible apply Keeps.foldl)
    | intro _
    | split
    | dsimp only

theorem kp_execTrngHealthFail (s : State) : KeepsN 1146880 s (execTrngHealthFail s) := by
  unfold execTrngHealthFail
  repeat' first
    | (with_reducible exact Keeps.refl)
    | (with_reducible apply Keeps.out)
    | (with_reducible apply Keeps.wr)
    | (apply Keeps.next; (with_reducible apply kp_raise); decide)
    | (with_reducible apply Keeps.ite)
    | (with_reducible apply Keeps.foldl)
    | intro _
    | split
    | dsimp only

end Sys2Proof.Machine
end

