-- ==== Sys2Proof/Laws/KeepsRecords.lean ====
section
/-! SUPPORT. Laws/KeepsRecords.lean: what each operation of Machine/Records.lean keeps. -/

set_option Elab.async false

set_option linter.unusedTactic false
set_option linter.unusedSimpArgs false
set_option linter.unreachableTactic false

namespace Sys2Proof.Machine

theorem kp_meteringSave (s : State) : Keeps 403800064 s (State.meteringSave s) := by
  unfold State.meteringSave
  repeat' first
    | (with_reducible exact Keeps.refl)
    | (apply Keeps.next; (with_reducible apply kp_meCkptStore); decide)
    | (apply Keeps.next; (with_reducible apply kp_meCheckpoint); decide)
    | (with_reducible apply Keeps.ite)
    | (with_reducible apply Keeps.foldl)
    | intro _
    | split
    | dsimp only

theorem kp_meteringRestore (s : State) : Keeps 135364610 s (State.meteringRestore s) := by
  unfold State.meteringRestore
  repeat' first
    | (with_reducible exact Keeps.refl)
    | (with_reducible apply Keeps.wr)
    | (apply Keeps.next; (with_reducible apply kp_meCalRestore); decide)
    | (apply Keeps.next; (with_reducible apply kp_meRestore); decide)
    | (with_reducible apply Keeps.forEach)
    | (with_reducible apply Keeps.ite)
    | (with_reducible apply Keeps.foldl)
    | intro _
    | split
    | dsimp only

theorem kp_regionsReset (s : State) (mask : Nat) : Keeps 7516185342 s (State.regionsReset s mask) := by
  unfold State.regionsReset
  repeat' first
    | (with_reducible exact Keeps.refl)
    | (apply Keeps.next; (with_reducible apply kp_meteringSave); decide)
    | (apply Keeps.next; (with_reducible apply kp_imageLoad); decide)
    | (apply Keeps.next; (with_reducible apply kp_crReset); decide)
    | (apply Keeps.next; (with_reducible apply kp_meteringRestore); decide)
    | (apply Keeps.next; (with_reducible apply kp_drReset); decide)
    | (apply Keeps.next; (with_reducible apply kp_setB); decide)
    | (apply Keeps.next; (with_reducible apply kp_mrReset); decide)
    | (with_reducible apply Keeps.when)
    | (with_reducible apply Keeps.forEach)
    | (with_reducible apply Keeps.ite)
    | (with_reducible apply Keeps.foldl)
    | intro _
    | split
    | dsimp only

theorem kp_operAfter (s : State) (described : Bool) : Keeps 1671680 s (State.operAfter s described) := by
  unfold State.operAfter
  repeat' first
    | (with_reducible exact Keeps.refl)
    | (with_reducible apply Keeps.atBuilt; refine Keeps.upd ?_)
    | (simp only [Keeps.built])
    | (apply Keeps.next; (with_reducible apply kp_faultHold); decide)
    | (apply Keeps.next; (with_reducible apply kp_sf2FaultHold); decide)
    | (apply Keeps.next; (with_reducible apply kp_operSettle); decide)
    | (with_reducible apply Keeps.ite)
    | (with_reducible apply Keeps.foldl)
    | intro _
    | split
    | dsimp only

theorem kp_pairsRelease (s : State) : Keeps 1671680 s (State.pairsRelease s) := by
  unfold State.pairsRelease
  repeat' first
    | (with_reducible exact Keeps.refl)
    | (apply Keeps.next; (with_reducible apply kp_pairDisable); decide)
    | (with_reducible apply Keeps.ite)
    | (with_reducible apply Keeps.foldl)
    | intro _
    | split
    | dsimp only

theorem kp_bdrEntries (l : List RegEntry) (n : Nat) (s : State) : KeepsP 17179869182 s (State.bdrEntries l n s) := by
  induction l generalizing n s with
  | nil => exact Keeps.refl
  | cons x r ih =>
    obtain ⟨a, v, m⟩ := x
    have h := (kp_regWrite s .mc a v m).mono (c := 17179869182) (by decide)
    unfold State.bdrEntries
    dsimp only
    split
    · exact h.trans (ih _ _)
    · exact h

theorem kp_mcWrite (s : State) (e : RegEntry) : Keeps 17179869182 s (State.mcWrite s e) := by
  unfold State.mcWrite
  repeat' first
    | (with_reducible exact Keeps.refl)
    | (apply Keeps.next; (with_reducible apply kp_mcSubmit); decide)
    | (apply Keeps.next; (with_reducible apply kp_regWrite); decide)
    | (with_reducible apply Keeps.ite)
    | (with_reducible apply Keeps.foldl)
    | intro _
    | split
    | dsimp only

/-- The state inside what an application of a BDR comes to. -/
def State.BdrRun.out (s : State) : State.BdrRun → State
  | .refused _ => s
  | .waits t => t
  | .failed _ t => t
  | .applied t => t

theorem kp_bdrRun (s : State) (bs : List Byte) : Keeps 17179869182 s ((s.bdrRun bs).out s) := by
  have hu : ∀ (u : State) b, Keeps 17179869182 u { u with tpp := { u.tpp with bdr := b } } := fun u b => by
    rw [Keeps.built]
    refine Keeps.upd Keeps.refl
  have h1 : Keeps 17179869182 s (s.pwmSafe .soft).pairsRelease := ((kp_pwmSafe ..).mono (by decide)).trans ((kp_pairsRelease _).mono (by decide))
  unfold State.bdrRun
  split
  · exact Keeps.refl
  · rename_i b hb
    have h2 := h1.trans (Keeps.mono (kp_bdrEntries b.entries 0 (s.pwmSafe .soft).pairsRelease) (by decide))
    dsimp only
    split
    · exact h1
    split
    · rename_i e
      rw [e] at h2
      exact h2
    · rename_i e
      rw [e] at h2
      refine Keeps.trans ?_ (hu _ _)
      exact Keeps.when (Keeps.next (kp_pairEnableCmd ..) (by decide) h2) fun u => (kp_pairEnableCmd ..).mono (by decide)

theorem kp_gprRun (s t : State) (bs : List Byte) (e : s.gprRun bs = .good t) : Keeps 17179869182 s t := by
  have hu : ∀ (u : State) b, Keeps 17179869182 u { u with tpp := { u.tpp with gprPending := b } } := fun u b => by
    rw [Keeps.built]
    refine Keeps.upd Keeps.refl
  have hs : ∀ (u : State) a b, Keeps 17179869182 u { u with sram := memWrite u.sram a b } := fun u a b => by
    constructor <;> first | rfl | (intro _; rfl) | (intro hc; exact absurd rfl hc) | skip
    · exact fun hc => { hc with sram := Memory.wf_write _ _ hc.sram }
    · exact Keeps.shaped_of rfl
  revert e
  unfold State.gprRun
  split
  · exact fun e => nomatch e
  · split
    · exact fun e => nomatch e
    · intro e
      cases e
      refine Keeps.trans ?_ (hu _ _)
      refine Keeps.next (kp_mcSubmit ..) (by decide) ?_
      refine Keeps.trans ?_ (hs _ _ _)
      exact Keeps.forEach Keeps.refl fun u x => (kp_mcWrite ..).mono (by decide)

theorem kp_reapply (s : State) : KeepsP 17179869182 s (State.reapply s) := by
  have h0 : Keeps 17179869182 s { s with tpp := { s.tpp with bdr := [], gpr := [], gprPending := none, gprActive := false } } := by
    rw [Keeps.built]
    refine Keeps.upd Keeps.refl
  have h1 := h0.trans ((kp_bdrRun _ s.nv.bdr).mono (by decide))
  unfold State.reapply
  dsimp only
  split <;> rename_i e <;> rw [e] at h1
  · split
    · rename_i e2
      exact Keeps.trans h1 ((kp_gprRun _ _ _ e2).mono (by decide))
    · exact h1
  · exact h1
  · exact h1
  · exact h1

theorem kp_bdrFallback (s : State) : Keeps 17179869182 s (State.bdrFallback s) := by
  have hu : ∀ (u : State), Keeps 17179869182 u { u with tpp := { u.tpp with bdr := [], gpr := [] } } := fun u => by
    rw [Keeps.built]
    refine Keeps.upd Keeps.refl
  have ho : ∀ (u : State) b, Keeps 17179869182 u (u.operAfter b) := fun u b => (kp_operAfter u b).mono (by decide)
  have h1 : Keeps 17179869182 s _ := (Keeps.next (kp_regionsReset s 3) (by decide) Keeps.refl).trans (hu _)
  have h2 := h1.trans ((kp_bdrRun _ s.tpp.bdr).mono (by decide))
  unfold State.bdrFallback
  dsimp only
  split <;> rename_i e <;> rw [e] at h2
  · exact Keeps.trans h2 (ho _ _)
  · exact Keeps.trans h2 (ho _ _)
  · exact Keeps.trans h2 (ho _ _)
  · exact Keeps.trans h2 (ho _ _)

theorem kp_scStart (s : State) : Keeps 1671168 s (State.scStart s) := by
  unfold State.scStart
  repeat' first
    | (with_reducible exact Keeps.refl)
    | (apply Keeps.next; (with_reducible apply kp_setSafety); decide)
    | (apply Keeps.next; (with_reducible apply kp_sprInstall); decide)
    | (apply Keeps.next; (with_reducible apply kp_safeView); decide)
    | (apply Keeps.next; (with_reducible apply kp_raise); decide)
    | (apply Keeps.next; (with_reducible apply kp_pduStart); decide)
    | (apply Keeps.next; (with_reducible apply kp_setSafeState); decide)
    | (with_reducible apply Keeps.ite)
    | (with_reducible apply Keeps.foldl)
    | intro _
    | split
    | dsimp only

theorem kp_gprSwitched (s : State) : Keeps 1049088 s (State.gprSwitched s) := by
  unfold State.gprSwitched
  repeat' first
    | (with_reducible exact Keeps.refl)
    | (with_reducible apply Keeps.atBuilt; refine Keeps.upd ?_)
    | (simp only [Keeps.built])
    | (apply Keeps.next; (with_reducible apply kp_autoReconnect); decide)
    | (apply Keeps.next; (with_reducible apply kp_operSettle); decide)
    | (with_reducible apply Keeps.ite)
    | (with_reducible apply Keeps.foldl)
    | intro _
    | split
    | dsimp only

theorem kp_reapplyDr (s : State) : Keeps 17179869182 s (State.reapplyDr s) := by
  unfold State.reapplyDr
  repeat' first
    | (with_reducible exact Keeps.refl)
    | (apply Keeps.next; (with_reducible apply kp_mcWrite); decide)
    | (with_reducible apply Keeps.forEach)
    | (with_reducible apply Keeps.ite)
    | (with_reducible apply Keeps.foldl)
    | intro _
    | split
    | dsimp only

theorem kp_softReset (s : State) (mask : Nat) : Keeps 17179869182 s (State.softReset s mask) := by
  unfold State.softReset
  repeat' first
    | (with_reducible exact Keeps.refl)
    | (apply Keeps.next; (with_reducible apply kp_regionsReset); decide)
    | (apply Keeps.nextP; (with_reducible apply kp_reapply); decide)
    | (apply Keeps.next; (with_reducible apply kp_operAfter); decide)
    | (apply Keeps.next; (with_reducible apply kp_reapplyDr); decide)
    | (with_reducible apply Keeps.when)
    | (with_reducible apply Keeps.ite)
    | (with_reducible exact Keeps.reflP)
    | (simp only [Keeps.pair_eq])
    | (with_reducible apply Keeps.snd)
    | (apply Keeps.of_pair; assumption)
    | (with_reducible apply Keeps.iteP)
    | (with_reducible apply Keeps.foldlP)
    | (with_reducible apply Keeps.foldl)
    | intro _
    | split
    | dsimp only

theorem kp_rstCarry (s : State) : Keeps 17179869182 s (State.rstCarry s) := by
  unfold State.rstCarry
  repeat' first
    | (with_reducible exact Keeps.refl)
    | (with_reducible apply Keeps.atBuilt; refine Keeps.upd ?_)
    | (simp only [Keeps.built])
    | (apply Keeps.next; (with_reducible apply kp_softReset); decide)
    | (with_reducible apply Keeps.ite)
    | (with_reducible apply Keeps.foldl)
    | intro _
    | split
    | dsimp only

theorem kp_execRegisterWrite (m : Master) (addr : Nat) (size : Nat) (value : Nat) (s : State) : KeepsN 17179869182 s (execRegisterWrite m addr size value s) := by
  unfold execRegisterWrite
  repeat' first
    | (with_reducible exact Keeps.refl)
    | (with_reducible apply Keeps.out)
    | (apply Keeps.next; (with_reducible apply kp_rstCarry); decide)
    | (apply Keeps.next; (with_reducible apply kp_busWrite); decide)
    | (with_reducible apply Keeps.ite)
    | (with_reducible apply Keeps.foldl)
    | intro _
    | split
    | dsimp only

theorem kp_execGsProfileSwitch (s : State) : KeepsN 17932800 s (execGsProfileSwitch s) := by
  unfold execGsProfileSwitch
  repeat' first
    | (with_reducible exact Keeps.refl)
    | (with_reducible apply Keeps.out)
    | (apply Keeps.next; (with_reducible apply kp_profileSwitch); decide)
    | (apply Keeps.next; (with_reducible apply kp_gprSwitched); decide)
    | (with_reducible apply Keeps.ite)
    | (with_reducible apply Keeps.foldl)
    | intro _
    | split
    | dsimp only

theorem kp_execSoftrst (m : Master) (mask : Nat) (s : State) : KeepsN 17179869182 s (execSoftrst m mask s) := by
  unfold execSoftrst
  repeat' first
    | (with_reducible exact Keeps.refl)
    | (with_reducible apply Keeps.out)
    | (apply Keeps.next; (with_reducible apply kp_softReset); decide)
    | (with_reducible apply Keeps.access; decide)
    | (with_reducible apply Keeps.ite)
    | (with_reducible apply Keeps.foldl)
    | intro _
    | split
    | dsimp only

end Sys2Proof.Machine
end

