-- ==== Sys2Proof/Laws/KeepsPower.lean ====
section
/-! SUPPORT. Laws/KeepsPower.lean: what each operation of Machine/Power.lean keeps. -/

set_option Elab.async false

set_option linter.unusedTactic false
set_option linter.unusedSimpArgs false
set_option linter.unreachableTactic false

namespace Sys2Proof.Machine

theorem kp_bootComplete (s : State) : Keeps 17179869182 s (State.bootComplete s) := by
  unfold State.bootComplete
  repeat' first
    | (with_reducible exact Keeps.refl)
    | (apply Keeps.nextP; (with_reducible apply kp_reapply); decide)
    | (apply Keeps.next; (with_reducible apply kp_operAfter); decide)
    | (with_reducible apply Keeps.ite)
    | (with_reducible exact Keeps.reflP)
    | (simp only [Keeps.pair_eq])
    | (with_reducible apply Keeps.snd)
    | (apply Keeps.of_pair; assumption)
    | (with_reducible apply Keeps.iteP)
    | (with_reducible apply Keeps.foldlP)
    | (with_reducible apply Keeps.foldl)
    | intro _
    | split
    | dsimp only

theorem kp_bootOtp (s : State) : Keeps 4564553728 s (State.bootOtp s) := by
  unfold State.bootOtp
  repeat' first
    | (with_reducible exact Keeps.refl)
    | (with_reducible apply Keeps.atBuilt; refine Keeps.upd ?_)
    | (simp only [Keeps.built])
    | (with_reducible apply Keeps.wr)
    | (apply Keeps.next; (with_reducible apply kp_rmaErase); decide)
    | (apply Keeps.next; (with_reducible apply kp_rollbackAdvance); decide)
    | (apply Keeps.next; (with_reducible apply kp_debugSet); decide)
    | (apply Keeps.next; (with_reducible apply kp_secShow); decide)
    | (apply Keeps.next; (with_reducible apply kp_identityGenerate); decide)
    | (with_reducible apply Keeps.when)
    | (with_reducible apply Keeps.forEach)
    | (with_reducible apply Keeps.ite)
    | (with_reducible apply Keeps.foldl)
    | intro _
    | split
    | dsimp only

theorem kp_bootPackage (s : State) (edges : List Nat) : Keeps 4699291846 s (State.bootPackage s edges) := by
  unfold State.bootPackage
  repeat' first
    | (with_reducible exact Keeps.refl)
    | (apply Keeps.next; (with_reducible apply kp_calStart); decide)
    | (apply Keeps.next; (with_reducible apply kp_scStart); decide)
    | (apply Keeps.next; (with_reducible apply kp_imageLoad); decide)
    | (apply Keeps.next; (with_reducible apply kp_meteringRestore); decide)
    | (with_reducible apply Keeps.ite)
    | (with_reducible apply Keeps.foldl)
    | intro _
    | split
    | dsimp only

theorem kp_flashExternal (s : State) (ext : List (Nat × List Byte)) : Keeps 268435456 s (State.flashExternal s ext) := by
  unfold State.flashExternal
  repeat' first
    | (with_reducible exact Keeps.refl)
    | (with_reducible apply Keeps.atBuilt; refine Keeps.upd ?_)
    | (simp only [Keeps.built])
    | (with_reducible apply Keeps.when)
    | (with_reducible apply Keeps.ite)
    | (with_reducible apply Keeps.foldl)
    | intro _
    | split
    | dsimp only

theorem kp_bootRom (s : State) (ext : List (Nat × List Byte)) (edges : List Nat) : Keeps 13289231558 s (State.bootRom s ext edges) := by
  unfold State.bootRom
  repeat' first
    | (with_reducible exact Keeps.refl)
    | (with_reducible apply Keeps.atBuilt; refine Keeps.upd ?_)
    | (simp only [Keeps.built])
    | (with_reducible apply Keeps.wr)
    | (apply Keeps.next; (with_reducible apply kp_flashExternal); decide)
    | (apply Keeps.next; (with_reducible apply kp_imageLoad); decide)
    | (apply Keeps.next; (with_reducible apply kp_bootOtp); decide)
    | (apply Keeps.next; (with_reducible apply kp_bootPackage); decide)
    | (with_reducible apply Keeps.when)
    | (with_reducible apply Keeps.ite)
    | (with_reducible apply Keeps.foldl)
    | intro _
    | split
    | dsimp only

theorem kp_indicatorSlot (s : State) : Keeps 8589934592 s (State.indicatorSlot s) := by
  unfold State.indicatorSlot
  repeat' first
    | (with_reducible exact Keeps.refl)
    | (with_reducible apply Keeps.atBuilt; refine Keeps.upd ?_)
    | (simp only [Keeps.built])
    | (with_reducible apply Keeps.ite)
    | (with_reducible apply Keeps.foldl)
    | intro _
    | split
    | dsimp only

theorem kp_powerReached (s : State) (t : PowerState) : Keeps 8591082496 s (State.powerReached s t) := by
  unfold State.powerReached
  repeat' first
    | (with_reducible exact Keeps.refl)
    | (with_reducible apply Keeps.atBuilt; refine Keeps.upd ?_)
    | (simp only [Keeps.built])
    | (with_reducible apply Keeps.wr)
    | (apply Keeps.next; (with_reducible apply kp_raise); decide)
    | (with_reducible apply Keeps.ite)
    | (with_reducible apply Keeps.foldl)
    | intro _
    | split
    | dsimp only

theorem kp_sleepEnter (s : State) : Keeps 1073733822 s (State.sleepEnter s) := by
  unfold State.sleepEnter
  repeat' first
    | (with_reducible exact Keeps.refl)
    | (with_reducible apply Keeps.atBuilt; refine Keeps.upd ?_)
    | (simp only [Keeps.built])
    | (with_reducible apply Keeps.wr)
    | (apply Keeps.next; (with_reducible apply kp_drReset); decide)
    | (apply Keeps.next; (with_reducible apply kp_crReset); decide)
    | (with_reducible apply Keeps.dropKeys; decide)
    | (with_reducible apply Keeps.ite)
    | (with_reducible apply Keeps.foldl)
    | intro _
    | split
    | dsimp only

theorem kp_transitionDone_wakeAgain (s : State) : Keeps 9111712260 s (State.transitionDone.wakeAgain s) := by
  unfold State.transitionDone.wakeAgain
  repeat' first
    | (with_reducible exact Keeps.refl)
    | (with_reducible apply Keeps.atBuilt; refine Keeps.upd ?_)
    | (simp only [Keeps.built])
    | (apply Keeps.next; (with_reducible apply kp_powerStart); decide)
    | (with_reducible apply Keeps.ite)
    | (with_reducible apply Keeps.foldl)
    | intro _
    | split
    | dsimp only

theorem kp_watchEnter (s : State) : Keeps 662511674 s (State.watchEnter s) := by
  unfold State.watchEnter
  repeat' first
    | (with_reducible exact Keeps.refl)
    | (with_reducible apply Keeps.atBuilt; refine Keeps.upd ?_)
    | (simp only [Keeps.built])
    | (apply Keeps.next; (with_reducible apply kp_setSar); decide)
    | (apply Keeps.next; (with_reducible apply kp_setSarState); decide)
    | (apply Keeps.next; (with_reducible apply kp_clrB); decide)
    | (with_reducible apply Keeps.forEach)
    | (with_reducible apply Keeps.dropKeys; decide)
    | (with_reducible apply Keeps.ite)
    | (with_reducible apply Keeps.foldl)
    | intro _
    | split
    | dsimp only

theorem kp_wakeReapply (s : State) : Keeps 17179869182 s (State.wakeReapply s) := by
  have hu : ∀ (u : State), Keeps 17179869182 u { u with clk := { u.clk with reapplied := true } } := fun u => by
    rw [Keeps.built]
    refine Keeps.upd Keeps.refl
  have hr : ∀ (u : State), Keeps 17179869182 u u.reapply.2 := fun u => Keeps.snd (Keeps.nextP (kp_reapply u) (by decide) Keeps.refl)
  have ho : ∀ (u : State) b, Keeps 17179869182 u (u.operAfter b) := fun u b => (kp_operAfter u b).mono (by decide)
  have h1 : Keeps 17179869182 s (((((s.imageLoad 3).scStart).imageLoad 1).imageLoad 2).meteringRestore) :=
    ((((Keeps.mono (kp_imageLoad ..) (by decide)).trans ((kp_scStart _).mono (by decide))).trans ((kp_imageLoad ..).mono (by decide))).trans
      ((kp_imageLoad ..).mono (by decide))).trans ((kp_meteringRestore _).mono (by decide))
  unfold State.wakeReapply
  refine Keeps.trans ?_ (hu _)
  refine Keeps.ite ?_ (hr _)
  have h2 := h1.trans (hr _)
  dsimp only
  generalize State.reapply _ = p at h2 ⊢
  exact h2.trans (ho _ _)

theorem kp_wakeStep (s : State) : Keeps 17179869182 s (State.wakeStep s) := by
  unfold State.wakeStep
  repeat' first
    | (with_reducible exact Keeps.refl)
    | (apply Keeps.next; (with_reducible apply kp_wakeReapply); decide)
    | (apply Keeps.next; (with_reducible apply kp_powerReached); decide)
    | (with_reducible apply Keeps.ite)
    | (with_reducible apply Keeps.foldl)
    | intro _
    | split
    | dsimp only

theorem kp_transitionDone (s : State) : Keeps 17179869182 s (State.transitionDone s) := by
  unfold State.transitionDone
  repeat' first
    | (with_reducible exact Keeps.refl)
    | (apply Keeps.next; (with_reducible apply kp_transitionDone_wakeAgain); decide)
    | (apply Keeps.next; (with_reducible apply kp_powerReached); decide)
    | (apply Keeps.next; (with_reducible apply kp_watchEnter); decide)
    | (apply Keeps.next; (with_reducible apply kp_sleepEnter); decide)
    | (apply Keeps.next; (with_reducible apply kp_wakeStep); decide)
    | (with_reducible apply Keeps.ite)
    | (with_reducible apply Keeps.foldl)
    | intro _
    | split
    | dsimp only

theorem kp_execBootRomRun (ext : List (Nat × List Byte)) (edges : List Nat) (s : State) : KeepsN 13289231558 s (execBootRomRun ext edges s) := by
  unfold execBootRomRun
  repeat' first
    | (with_reducible exact Keeps.refl)
    | (with_reducible apply Keeps.out)
    | (apply Keeps.next; (with_reducible apply kp_bootRom); decide)
    | (with_reducible apply Keeps.ite)
    | (with_reducible apply Keeps.foldl)
    | intro _
    | split
    | dsimp only

theorem kp_execBootComplete (s : State) : KeepsN 17179869182 s (execBootComplete s) := by
  unfold execBootComplete
  repeat' first
    | (with_reducible exact Keeps.refl)
    | (with_reducible apply Keeps.out)
    | (apply Keeps.next; (with_reducible apply kp_bootComplete); decide)
    | (with_reducible apply Keeps.ite)
    | (with_reducible apply Keeps.foldl)
    | intro _
    | split
    | dsimp only

theorem kp_execPwrTransitionDone (s : State) : KeepsN 17179869182 s (execPwrTransitionDone s) := by
  unfold execPwrTransitionDone
  repeat' first
    | (with_reducible exact Keeps.refl)
    | (with_reducible apply Keeps.out)
    | (apply Keeps.next; (with_reducible apply kp_transitionDone); decide)
    | (with_reducible apply Keeps.ite)
    | (with_reducible apply Keeps.foldl)
    | intro _
    | split
    | dsimp only

theorem kp_execIndicatorSlot (s : State) : KeepsN 8589934592 s (execIndicatorSlot s) := by
  unfold execIndicatorSlot
  repeat' first
    | (with_reducible exact Keeps.refl)
    | (with_reducible apply Keeps.out)
    | (apply Keeps.next; (with_reducible apply kp_indicatorSlot); decide)
    | (with_reducible apply Keeps.ite)
    | (with_reducible apply Keeps.foldl)
    | intro _
    | split
    | dsimp only

end Sys2Proof.Machine
end

