-- ==== Sys2Proof/Laws/KeepsTpp.lean ====
section
/-! SUPPORT. Laws/KeepsTpp.lean: what each operation of Machine/Tpp.lean keeps. -/

set_option Elab.async false

set_option linter.unusedTactic false
set_option linter.unusedSimpArgs false
set_option linter.unreachableTactic false

namespace Sys2Proof.Machine

theorem kp_OpRes_status (st : Nat) (s : State) : KeepsR 0 s (State.OpRes.status st s) := by
  unfold State.OpRes.status
  repeat' first
    | (with_reducible exact Keeps.refl)
    | (with_reducible apply Keeps.reply)
    | (with_reducible apply Keeps.later)
    | (with_reducible apply Keeps.hold)
    | (with_reducible apply Keeps.ite)
    | (with_reducible apply Keeps.iteR)
    | (with_reducible apply Keeps.foldl)
    | intro _
    | split
    | dsimp only

theorem kp_accept (s : State) (r : Request) : Keeps 1048576 s (State.accept s r) := by
  unfold State.accept
  repeat' first
    | (with_reducible exact Keeps.refl)
    | (apply Keeps.next; (with_reducible apply kp_setPort); decide)
    | (with_reducible apply Keeps.ite)
    | (with_reducible apply Keeps.foldl)
    | intro _
    | split
    | dsimp only

theorem kp_tunnelSend (s : State) (n : Nat) (bs : List Byte) : Keeps 537919488 s (State.tunnelSend s n bs) := by
  unfold State.tunnelSend
  repeat' first
    | (with_reducible exact Keeps.refl)
    | (with_reducible apply Keeps.atBuilt; refine Keeps.upd ?_)
    | (simp only [Keeps.built])
    | (apply Keeps.next; (with_reducible apply kp_cmtQueue); decide)
    | (with_reducible apply Keeps.forEach)
    | (with_reducible apply Keeps.ite)
    | (with_reducible apply Keeps.foldl)
    | intro _
    | split
    | dsimp only

theorem kp_sendReply (s : State) (p : Port) (r : Reply) : Keeps 537919488 s (State.sendReply s p r) := by
  unfold State.sendReply
  repeat' first
    | (with_reducible exact Keeps.refl)
    | (with_reducible apply Keeps.atBuilt; refine Keeps.upd ?_)
    | (simp only [Keeps.built])
    | (apply Keeps.next; (with_reducible apply kp_setPort); decide)
    | (apply Keeps.next; (with_reducible apply kp_tunnelSend); decide)
    | (with_reducible apply Keeps.ite)
    | (with_reducible apply Keeps.foldl)
    | intro _
    | split
    | dsimp only

theorem kp_answer (s : State) (r : Request) (status : Nat) (payload : List Byte) : Keeps 537919488 s (State.answer s r status payload) := by
  unfold State.answer
  repeat' first
    | (with_reducible exact Keeps.refl)
    | (apply Keeps.next; (with_reducible apply kp_sendReply); decide)
    | (with_reducible apply Keeps.ite)
    | (with_reducible apply Keeps.foldl)
    | intro _
    | split
    | dsimp only

theorem kp_answerBad (s : State) (r : Request) (f : State.CheckFail) : Keeps 538017792 s (State.answerBad s r f) := by
  unfold State.answerBad
  repeat' first
    | (with_reducible exact Keeps.refl)
    | (apply Keeps.next; (with_reducible apply kp_answer); decide)
    | (apply Keeps.next; (with_reducible apply kp_setPort); decide)
    | (apply Keeps.next; (with_reducible apply kp_endSession); decide)
    | (with_reducible apply Keeps.ite)
    | (with_reducible apply Keeps.foldl)
    | intro _
    | split
    | dsimp only

theorem kp_dropHead (s : State) : Keeps 1048576 s (State.dropHead s) := by
  unfold State.dropHead
  repeat' first
    | (with_reducible exact Keeps.refl)
    | (with_reducible apply Keeps.atBuilt; refine Keeps.upd ?_)
    | (simp only [Keeps.built])
    | (with_reducible apply Keeps.ite)
    | (with_reducible apply Keeps.foldl)
    | intro _
    | split
    | dsimp only

theorem kp_pump (n : Nat) (s : State) : Keeps 538017792 s (State.pump n s) := by
  induction n generalizing s with
  | zero => exact Keeps.refl
  | succ n ih =>
    unfold State.pump
    split
    · exact Keeps.refl
    split
    · exact Keeps.refl
    split
    · refine Keeps.trans ?_ (ih _)
      exact ((kp_dropHead s).mono (by decide)).trans ((kp_answerBad _ _ _).mono (by decide))
    · exact Keeps.refl

theorem kp_pumpAll (s : State) : Keeps 538017792 s (State.pumpAll s) := by
  unfold State.pumpAll
  repeat' first
    | (with_reducible exact Keeps.refl)
    | (apply Keeps.next; (with_reducible apply kp_pump); decide)
    | (with_reducible apply Keeps.ite)
    | (with_reducible apply Keeps.foldl)
    | intro _
    | split
    | dsimp only

theorem kp_arrive (s : State) (p : Port) (raw : List Byte) : Keeps 538017792 s (State.arrive s p raw) := by
  unfold State.arrive
  repeat' first
    | (with_reducible exact Keeps.refl)
    | (with_reducible apply Keeps.atBuilt; refine Keeps.upd ?_)
    | (simp only [Keeps.built])
    | (apply Keeps.next; (with_reducible apply kp_pumpAll); decide)
    | (with_reducible apply Keeps.ite)
    | (with_reducible apply Keeps.foldl)
    | intro _
    | split
    | dsimp only

theorem kp_putBack (s : State) (r : Request) (seq : Nat) : Keeps 1048576 s (State.putBack s r seq) := by
  unfold State.putBack
  repeat' first
    | (with_reducible exact Keeps.refl)
    | (with_reducible apply Keeps.atBuilt; refine Keeps.upd ?_)
    | (simp only [Keeps.built])
    | (apply Keeps.next; (with_reducible apply kp_setPort); decide)
    | (with_reducible apply Keeps.ite)
    | (with_reducible apply Keeps.foldl)
    | intro _
    | split
    | dsimp only

theorem kp_runOp {c : Nat} {s : State} {op : Nat} {f : Request → State → State.OpRes} (hm : Keeps.within 538017792 c)
    (hf : ∀ r s, KeepsR c s (f r s)) : Keeps c s (State.runOp s op f) := by
  have hp : ∀ u : State, Keeps c u u.pumpAll := fun u => (kp_pumpAll u).mono (Keeps.within_trans (by decide) hm)
  have hd : ∀ u : State, Keeps c u u.dropHead := fun u => (kp_dropHead u).mono (Keeps.within_trans (by decide) hm)
  have hb : ∀ (u : State) r e, Keeps c u (u.answerBad r e) := fun u r e => (kp_answerBad u r e).mono (Keeps.within_trans (by decide) hm)
  have ha : ∀ (u : State) r, Keeps c u (u.accept r) := fun u r => (kp_accept u r).mono (Keeps.within_trans (by decide) hm)
  have hn : ∀ (u : State) r st pl, Keeps c u (u.answer r st pl) := fun u r st pl => (kp_answer u r st pl).mono (Keeps.within_trans (by decide) hm)
  have hk : ∀ (u : State) r n, Keeps c u (u.putBack r n) := fun u r n => (kp_putBack u r n).mono (Keeps.within_trans (by decide) hm)
  unfold State.runOp
  split
  · exact Keeps.refl
  split
  · exact Keeps.refl
  split
  · exact ((hd _).trans (hb _ _ _)).trans (hp _)
  · rename_i r l hq hc e he
    have h1 : Keeps c s (s.dropHead.accept r) := (hd _).trans (ha _ _)
    have h2 := h1.trans (hf r (s.dropHead.accept r))
    dsimp only
    split
    · rename_i st pl u hu
      rw [hu] at h2
      split
      · exact (h1.trans (hn _ _ _ _)).trans (hp _)
      · exact (Keeps.trans h2 (hn _ _ _ _)).trans (hp _)
    · rename_i u hu
      rw [hu] at h2
      split
      · exact (h1.trans (hn _ _ _ _)).trans (hp _)
      · exact h2
    · rename_i u hu
      rw [hu] at h2
      split
      · exact (h1.trans (hn _ _ _ _)).trans (hp _)
      · exact Keeps.trans h2 (hk _ _ _)

theorem kp_setMiso (s : State) (stat : Nat) (bs : List Byte) : Keeps 1048576 s (State.setMiso s stat bs) := by
  unfold State.setMiso
  repeat' first
    | (with_reducible exact Keeps.refl)
    | (with_reducible apply Keeps.atBuilt; refine Keeps.upd ?_)
    | (simp only [Keeps.built])
    | (with_reducible apply Keeps.ite)
    | (with_reducible apply Keeps.foldl)
    | intro _
    | split
    | dsimp only

theorem kp_spiRead (s : State) (n : Nat) : Keeps 9111712260 s (State.spiRead s n) := by
  unfold State.spiRead
  repeat' first
    | (with_reducible exact Keeps.refl)
    | (apply Keeps.next; (with_reducible apply kp_wakeSource); decide)
    | (apply Keeps.next; (with_reducible apply kp_setMiso); decide)
    | (apply Keeps.next; (with_reducible apply kp_setPort); decide)
    | (with_reducible apply Keeps.ite)
    | (with_reducible apply Keeps.foldl)
    | intro _
    | split
    | dsimp only

theorem kp_spiWrite (s : State) (bs : List Byte) : Keeps 9648583172 s (State.spiWrite s bs) := by
  unfold State.spiWrite
  repeat' first
    | (with_reducible exact Keeps.refl)
    | (with_reducible apply Keeps.atBuilt; refine Keeps.upd ?_)
    | (simp only [Keeps.built])
    | (apply Keeps.next; (with_reducible apply kp_wakeSource); decide)
    | (apply Keeps.next; (with_reducible apply kp_setMiso); decide)
    | (apply Keeps.next; (with_reducible apply kp_arrive); decide)
    | (with_reducible apply Keeps.ite)
    | (with_reducible apply Keeps.foldl)
    | intro _
    | split
    | dsimp only

theorem kp_svcScan (n : Nat) (s : State) : Keeps 538017792 s (State.svcScan n s) := by
  have hu : ∀ (u : State) b, Keeps 538017792 u { u with tpp := { u.tpp with svcRx := b } } := fun u b => by
    rw [Keeps.built]
    refine Keeps.upd Keeps.refl
  have ha : ∀ (u : State) p, Keeps 538017792 u (u.arrive .service p) := fun u p => (kp_arrive u .service p).mono (by decide)
  induction n generalizing s with
  | zero => exact Keeps.refl
  | succ n ih =>
    unfold State.svcScan
    split
    · exact Keeps.refl
    dsimp only
    split
    · exact (hu _ _).trans (ih _)
    split
    · exact Keeps.refl
    split
    · exact ((hu _ _).trans (ha _ _)).trans (ih _)
    · exact ((hu _ _).trans (ha _ _)).trans (ih _)

theorem kp_svcByte (s : State) (b : Byte) : Keeps 9648583172 s (State.svcByte s b) := by
  unfold State.svcByte
  repeat' first
    | (with_reducible exact Keeps.refl)
    | (with_reducible apply Keeps.atBuilt; refine Keeps.upd ?_)
    | (simp only [Keeps.built])
    | (apply Keeps.next; (with_reducible apply kp_wakeSource); decide)
    | (apply Keeps.next; (with_reducible apply kp_svcScan); decide)
    | (with_reducible apply Keeps.ite)
    | (with_reducible apply Keeps.foldl)
    | intro _
    | split
    | dsimp only

theorem kp_tunnelReply (s : State) (n : Nat) (bs : List Byte) : Keeps 538017792 s (State.tunnelReply s n bs) := by
  unfold State.tunnelReply
  repeat' first
    | (with_reducible exact Keeps.refl)
    | (with_reducible apply Keeps.atBuilt; refine Keeps.upd ?_)
    | (simp only [Keeps.built])
    | (apply Keeps.next; (with_reducible apply kp_pumpAll); decide)
    | (apply Keeps.next; (with_reducible apply kp_answer); decide)
    | (with_reducible apply Keeps.ite)
    | (with_reducible apply Keeps.foldl)
    | intro _
    | split
    | dsimp only

theorem kp_tunnelIn (s : State) (l : Nat) (addr : Nat) (w0 : Nat) (bytes : List Byte) : Keeps 538017792 s (State.tunnelIn s l addr w0 bytes) := by
  unfold State.tunnelIn
  repeat' first
    | (with_reducible exact Keeps.refl)
    | (apply Keeps.nextP; (with_reducible apply kp_tunnelTake); decide)
    | (apply Keeps.next; (with_reducible apply kp_tunnelReply); decide)
    | (apply Keeps.next; (with_reducible apply kp_arrive); decide)
    | (with_reducible apply Keeps.ite)
    | (with_reducible exact Keeps.reflP)
    | (simp only [Keeps.pair_eq])
    | (with_reducible apply Keeps.snd)
    | (apply Keeps.of_pair; assumption)
    | (with_reducible apply Keeps.iteP)
    | (with_reducible apply Keeps.foldlP)
    | (with_reducible apply Keeps.foldl)
    | intro _
    | split
    | dsimp only

theorem kp_tunnelTimeout (s : State) : Keeps 538017792 s (State.tunnelTimeout s) := by
  unfold State.tunnelTimeout
  repeat' first
    | (with_reducible exact Keeps.refl)
    | (with_reducible apply Keeps.atBuilt; refine Keeps.upd ?_)
    | (simp only [Keeps.built])
    | (apply Keeps.next; (with_reducible apply kp_pumpAll); decide)
    | (apply Keeps.next; (with_reducible apply kp_answer); decide)
    | (with_reducible apply Keeps.ite)
    | (with_reducible apply Keeps.foldl)
    | intro _
    | split
    | dsimp only

theorem kp_execTunnelReceive (l : Nat) (addr : Nat) (w0 : Nat) (bytes : List Byte) (s : State) : KeepsN 538017792 s (execTunnelReceive l addr w0 bytes s) := by
  unfold execTunnelReceive
  repeat' first
    | (with_reducible exact Keeps.refl)
    | (with_reducible apply Keeps.out)
    | (apply Keeps.next; (with_reducible apply kp_tunnelIn); decide)
    | (with_reducible apply Keeps.ite)
    | (with_reducible apply Keeps.foldl)
    | intro _
    | split
    | dsimp only

theorem kp_execSpiWriteTransfer (bytes : List Byte) (s : State) : KeepsN 9648583172 s (execSpiWriteTransfer bytes s) := by
  unfold execSpiWriteTransfer
  repeat' first
    | (with_reducible exact Keeps.refl)
    | (with_reducible apply Keeps.out)
    | (apply Keeps.next; (with_reducible apply kp_spiWrite); decide)
    | (with_reducible apply Keeps.ite)
    | (with_reducible apply Keeps.foldl)
    | intro _
    | split
    | dsimp only

theorem kp_execSpiReadTransfer (n : Nat) (s : State) : KeepsN 9111712260 s (execSpiReadTransfer n s) := by
  unfold execSpiReadTransfer
  repeat' first
    | (with_reducible exact Keeps.refl)
    | (with_reducible apply Keeps.out)
    | (apply Keeps.next; (with_reducible apply kp_spiRead); decide)
    | (with_reducible apply Keeps.ite)
    | (with_reducible apply Keeps.foldl)
    | intro _
    | split
    | dsimp only

theorem kp_execServiceUartByte (b : Byte) (s : State) : KeepsN 9648583172 s (execServiceUartByte b s) := by
  unfold execServiceUartByte
  repeat' first
    | (with_reducible exact Keeps.refl)
    | (with_reducible apply Keeps.out)
    | (apply Keeps.next; (with_reducible apply kp_svcByte); decide)
    | (with_reducible apply Keeps.ite)
    | (with_reducible apply Keeps.foldl)
    | intro _
    | split
    | dsimp only

theorem kp_execServiceGapAbort (s : State) : KeepsN 1048576 s (execServiceGapAbort s) := by
  unfold execServiceGapAbort
  repeat' first
    | (with_reducible exact Keeps.refl)
    | (with_reducible apply Keeps.atBuilt; refine Keeps.upd ?_)
    | (simp only [Keeps.built])
    | (with_reducible apply Keeps.out)
    | (with_reducible apply Keeps.ite)
    | (with_reducible apply Keeps.foldl)
    | intro _
    | split
    | dsimp only

theorem kp_execTppSessionTimeout (p : Port) (s : State) : KeepsN 1146880 s (execTppSessionTimeout p s) := by
  unfold execTppSessionTimeout
  repeat' first
    | (with_reducible exact Keeps.refl)
    | (with_reducible apply Keeps.out)
    | (apply Keeps.next; (with_reducible apply kp_endSession); decide)
    | (with_reducible apply Keeps.ite)
    | (with_reducible apply Keeps.foldl)
    | intro _
    | split
    | dsimp only

theorem kp_execTunnelTimeout (s : State) : KeepsN 538017792 s (execTunnelTimeout s) := by
  unfold execTunnelTimeout
  repeat' first
    | (with_reducible exact Keeps.refl)
    | (with_reducible apply Keeps.out)
    | (apply Keeps.next; (with_reducible apply kp_tunnelTimeout); decide)
    | (with_reducible apply Keeps.ite)
    | (with_reducible apply Keeps.foldl)
    | intro _
    | split
    | dsimp only

end Sys2Proof.Machine
end

