-- ==== Sys2Proof/Laws/KeepsTppCommandsA.lean ====
section
/-! SUPPORT. Laws/KeepsTppCommandsA.lean: what each operation of Machine/TppCommandsA.lean keeps. -/

set_option Elab.async false

set_option linter.unusedTactic false
set_option linter.unusedSimpArgs false
set_option linter.unreachableTactic false

namespace Sys2Proof.Machine

theorem kp_setStage (s : State) (k : RecordKind) (g : Staging) : Keeps 1048576 s (State.setStage s k g) := by
  unfold State.setStage
  repeat' first
    | (with_reducible exact Keeps.refl)
    | (with_reducible apply Keeps.atBuilt; refine Keeps.upd ?_)
    | (simp only [Keeps.built])
    | (with_reducible apply Keeps.ite)
    | (with_reducible apply Keeps.foldl)
    | intro _
    | split
    | dsimp only

theorem kp_recordCommitOp {c : Nat} {k : RecordKind} {f : List Byte → Request → State → State.OpRes} {r : Request} {s : State} (hm : inMask c 20)
    (hf : ∀ bs r s, KeepsR c s (f bs r s)) : KeepsR c s (State.recordCommitOp k f r s) := by
  have hs : ∀ (u : State) g, Keeps c u (u.setStage k g) := fun u g => (kp_setStage u k g).mono (by
    rw [Keeps.within]
    simp only [List.all_eq_true, List.mem_range]
    intro i hi
    by_cases h : i = 20
    · subst h; simp [hm]
    · have : ∀ i < 35, i ≠ 20 → (1048576 : Nat).testBit i = false := by decide
      simp [this i hi h])
  unfold State.recordCommitOp
  dsimp only
  split
  · exact (Keeps.refl : Keeps c s s)
  split
  · exact hs s {}
  · exact hf _ _ _

theorem kp_commitResult (status : Nat) (e : RecErr) (s : State) : KeepsR 0 s (State.commitResult status e s) := by
  unfold State.commitResult
  repeat' first
    | (with_reducible exact Keeps.refl)
    | (with_reducible apply Keeps.reply)
    | (with_reducible apply Keeps.later)
    | (with_reducible apply Keeps.hold)
    | (with_reducible apply Keeps.ite)
    | (with_reducible apply Keeps.iteR)
    | (with_reducible apply Keeps.foldl)
    | intro _
    | split
    | dsimp only

theorem kp_recordStore (k : RecordKind) (bs : List Byte) (flags : Nat) (s : State) : Keeps 268435456 s (State.recordStore k bs flags s) := by
  unfold State.recordStore
  repeat' first
    | (with_reducible exact Keeps.refl)
    | (with_reducible apply Keeps.atBuilt; refine Keeps.upd ?_)
    | (simp only [Keeps.built])
    | (with_reducible apply Keeps.ite)
    | (with_reducible apply Keeps.foldl)
    | intro _
    | split
    | dsimp only

theorem kp_bdrCommitOp (r : Request) (s : State) : KeepsR 17179869182 s (State.bdrCommitOp r s) := by
  have hg : ∀ (u : State) g, Keeps 17179869182 u (u.setStage .bdr g) := fun u g => (kp_setStage u .bdr g).mono (by decide)
  have hf : ∀ (u : State), Keeps 17179869182 u u.bdrFallback := fun u => (kp_bdrFallback u).mono (by decide)
  have ho : ∀ (u : State) b, Keeps 17179869182 u (u.operAfter b) := fun u b => (kp_operAfter u b).mono (by decide)
  have hr : ∀ (u : State) bs n, Keeps 17179869182 u (State.recordStore .bdr bs n u) := fun u bs n => (kp_recordStore .bdr bs n u).mono (by decide)
  unfold State.bdrCommitOp
  apply kp_recordCommitOp (by decide)
  intro bs r s
  have h := (kp_bdrRun s bs).mono (c := 17179869182) (by decide)
  split <;> rename_i e <;> rw [e] at h
  · exact Keeps.reply (hg _ _)
  · exact Keeps.hold h
  · exact Keeps.reply ((Keeps.trans h (hg _ _)).trans (hf _))
  · exact Keeps.reply (((Keeps.trans h (hg _ _)).trans (hr _ _ _)).trans (ho _ _))

theorem kp_byeOp (r : Request) (s : State) : KeepsR 538017792 s (State.byeOp r s) := by
  unfold State.byeOp
  repeat' first
    | (with_reducible exact Keeps.refl)
    | (with_reducible apply Keeps.reply)
    | (with_reducible apply Keeps.later)
    | (with_reducible apply Keeps.hold)
    | (apply Keeps.next; (with_reducible apply kp_pumpAll); decide)
    | (apply Keeps.next; (with_reducible apply kp_endSession); decide)
    | (apply Keeps.next; (with_reducible apply kp_answer); decide)
    | (with_reducible apply Keeps.ite)
    | (with_reducible apply Keeps.iteR)
    | (with_reducible apply Keeps.foldl)
    | intro _
    | split
    | dsimp only

theorem kp_connectOp (x0 : Request) (s : State) : KeepsR 1049088 s (State.connectOp x0 s) := by
  unfold State.connectOp
  repeat' first
    | (with_reducible exact Keeps.refl)
    | (with_reducible apply Keeps.atBuilt; refine Keeps.upd ?_)
    | (simp only [Keeps.built])
    | (with_reducible apply Keeps.reply)
    | (with_reducible apply Keeps.later)
    | (with_reducible apply Keeps.hold)
    | (apply Keeps.nextR; (with_reducible apply kp_OpRes_status); decide)
    | (apply Keeps.next; (with_reducible apply kp_syncEnter); decide)
    | (with_reducible apply Keeps.ite)
    | (with_reducible apply Keeps.iteR)
    | (with_reducible apply Keeps.foldl)
    | intro _
    | split
    | dsimp only

theorem kp_disconnectGsStop (s : State) : Keeps 119123972 s (State.disconnectGsStop s) := by
  unfold State.disconnectGsStop
  repeat' first
    | (with_reducible exact Keeps.refl)
    | (with_reducible apply Keeps.atBuilt; refine Keeps.upd ?_)
    | (simp only [Keeps.built])
    | (with_reducible apply kp_gsAct; decide)
    | (apply Keeps.next; (with_reducible apply kp_gsDisable); decide)
    | (with_reducible apply Keeps.ite)
    | (with_reducible apply Keeps.foldl)
    | intro _
    | split
    | dsimp only

theorem kp_disconnectOp (x0 : Request) (s : State) : KeepsR 1049088 s (State.disconnectOp x0 s) := by
  unfold State.disconnectOp
  repeat' first
    | (with_reducible exact Keeps.refl)
    | (with_reducible apply Keeps.atBuilt; refine Keeps.upd ?_)
    | (simp only [Keeps.built])
    | (with_reducible apply Keeps.reply)
    | (with_reducible apply Keeps.later)
    | (with_reducible apply Keeps.hold)
    | (apply Keeps.nextR; (with_reducible apply kp_OpRes_status); decide)
    | (with_reducible apply Keeps.ite)
    | (with_reducible apply Keeps.iteR)
    | (with_reducible apply Keeps.foldl)
    | intro _
    | split
    | dsimp only

theorem kp_disconnectPwmSafe (s : State) : Keeps 1671168 s (State.disconnectPwmSafe s) := by
  unfold State.disconnectPwmSafe
  repeat' first
    | (with_reducible exact Keeps.refl)
    | (with_reducible apply Keeps.atBuilt; refine Keeps.upd ?_)
    | (simp only [Keeps.built])
    | (apply Keeps.next; (with_reducible apply kp_pwmSafe); decide)
    | (apply Keeps.next; (with_reducible apply kp_disconnectRequest); decide)
    | (with_reducible apply Keeps.ite)
    | (with_reducible apply Keeps.foldl)
    | intro _
    | split
    | dsimp only

theorem kp_gprCommitOp (r : Request) (s : State) : KeepsR 17179869182 s (State.gprCommitOp r s) := by
  have hg : ∀ (u : State) g, Keeps 17179869182 u (u.setStage .gpr g) := fun u g => (kp_setStage u .gpr g).mono (by decide)
  have hr : ∀ (u : State) bs n, Keeps 17179869182 u (State.recordStore .gpr bs n u) := fun u bs n => (kp_recordStore .gpr bs n u).mono (by decide)
  unfold State.gprCommitOp
  apply kp_recordCommitOp (by decide)
  intro bs r s
  split
  · exact Keeps.reply Keeps.refl
  split
  · exact Keeps.reply (hg _ _)
  · rename_i e
    exact Keeps.reply ((((kp_gprRun _ _ _ e).mono (by decide)).trans (hg _ _)).trans (hr _ _ _))

theorem kp_handshakeFail (r : Request) (status : Nat) (s : State) : KeepsR 1048576 s (State.handshakeFail r status s) := by
  unfold State.handshakeFail
  repeat' first
    | (with_reducible exact Keeps.refl)
    | (with_reducible apply Keeps.reply)
    | (with_reducible apply Keeps.later)
    | (with_reducible apply Keeps.hold)
    | (apply Keeps.nextR; (with_reducible apply kp_OpRes_status); decide)
    | (apply Keeps.next; (with_reducible apply kp_dropHandshake); decide)
    | (with_reducible apply Keeps.ite)
    | (with_reducible apply Keeps.iteR)
    | (with_reducible apply Keeps.foldl)
    | intro _
    | split
    | dsimp only

theorem kp_helloOp (r : Request) (s : State) : KeepsR 1146880 s (State.helloOp r s) := by
  unfold State.helloOp
  repeat' first
    | (with_reducible exact Keeps.refl)
    | (with_reducible apply Keeps.reply)
    | (with_reducible apply Keeps.later)
    | (with_reducible apply Keeps.hold)
    | (apply Keeps.next; (with_reducible apply kp_endSession); decide)
    | (apply Keeps.next; (with_reducible apply kp_setPort); decide)
    | (with_reducible apply Keeps.ite)
    | (with_reducible apply Keeps.iteR)
    | (with_reducible apply Keeps.foldl)
    | intro _
    | split
    | dsimp only

theorem kp_keyCipherOp (r : Request) (s : State) : KeepsR 1048576 s (State.keyCipherOp r s) := by
  unfold State.keyCipherOp
  repeat' first
    | (with_reducible exact Keeps.refl)
    | (with_reducible apply Keeps.reply)
    | (with_reducible apply Keeps.later)
    | (with_reducible apply Keeps.hold)
    | (apply Keeps.nextR; (with_reducible apply kp_handshakeFail); decide)
    | (apply Keeps.nextR; (with_reducible apply kp_OpRes_status); decide)
    | (apply Keeps.next; (with_reducible apply kp_setPort); decide)
    | (with_reducible apply Keeps.ite)
    | (with_reducible apply Keeps.iteR)
    | (with_reducible apply Keeps.foldl)
    | intro _
    | split
    | dsimp only

theorem kp_keyOfferOp (r : Request) (s : State) : KeepsR 1052672 s (State.keyOfferOp r s) := by
  unfold State.keyOfferOp
  repeat' first
    | (with_reducible exact Keeps.refl)
    | (with_reducible apply Keeps.atBuilt; refine Keeps.upd ?_)
    | (simp only [Keeps.built])
    | (with_reducible apply Keeps.reply)
    | (with_reducible apply Keeps.later)
    | (with_reducible apply Keeps.hold)
    | (apply Keeps.nextR; (with_reducible apply kp_handshakeFail); decide)
    | (apply Keeps.next; (with_reducible apply kp_setPort); decide)
    | (with_reducible apply Keeps.ite)
    | (with_reducible apply Keeps.iteR)
    | (with_reducible apply Keeps.foldl)
    | intro _
    | split
    | dsimp only

theorem kp_keyOwnerOp (r : Request) (s : State) : KeepsR 1146880 s (State.keyOwnerOp r s) := by
  unfold State.keyOwnerOp
  repeat' first
    | (with_reducible exact Keeps.refl)
    | (with_reducible apply Keeps.reply)
    | (with_reducible apply Keeps.later)
    | (with_reducible apply Keeps.hold)
    | (apply Keeps.nextR; (with_reducible apply kp_handshakeFail); decide)
    | (apply Keeps.nextR; (with_reducible apply kp_OpRes_status); decide)
    | (apply Keeps.next; (with_reducible apply kp_flagRaise); decide)
    | (apply Keeps.next; (with_reducible apply kp_setPort); decide)
    | (apply Keeps.next; (with_reducible apply kp_raise); decide)
    | (apply Keeps.next; (with_reducible apply kp_sessionShow); decide)
    | (with_reducible apply Keeps.ite)
    | (with_reducible apply Keeps.iteR)
    | (with_reducible apply Keeps.foldl)
    | intro _
    | split
    | dsimp only

theorem kp_keyProofOp (r : Request) (s : State) : KeepsR 1048576 s (State.keyProofOp r s) := by
  unfold State.keyProofOp
  repeat' first
    | (with_reducible exact Keeps.refl)
    | (with_reducible apply Keeps.reply)
    | (with_reducible apply Keeps.later)
    | (with_reducible apply Keeps.hold)
    | (apply Keeps.nextR; (with_reducible apply kp_handshakeFail); decide)
    | (apply Keeps.next; (with_reducible apply kp_setPort); decide)
    | (with_reducible apply Keeps.ite)
    | (with_reducible apply Keeps.iteR)
    | (with_reducible apply Keeps.foldl)
    | intro _
    | split
    | dsimp only

theorem kp_modeOp (r : Request) (s : State) : KeepsR 17179869182 s (State.modeOp r s) := by
  unfold State.modeOp
  repeat' first
    | (with_reducible exact Keeps.refl)
    | (with_reducible apply Keeps.reply)
    | (with_reducible apply Keeps.later)
    | (with_reducible apply Keeps.hold)
    | (apply Keeps.nextR; (with_reducible apply kp_OpRes_status); decide)
    | (apply Keeps.next; (with_reducible apply kp_mcWrite); decide)
    | (with_reducible apply Keeps.ite)
    | (with_reducible apply Keeps.iteR)
    | (with_reducible apply Keeps.foldl)
    | intro _
    | split
    | dsimp only

theorem kp_pduGetOp (x0 : Request) (s : State) : KeepsR 0 s (State.pduGetOp x0 s) := by
  unfold State.pduGetOp
  repeat' first
    | (with_reducible exact Keeps.refl)
    | (with_reducible apply Keeps.reply)
    | (with_reducible apply Keeps.later)
    | (with_reducible apply Keeps.hold)
    | (with_reducible apply Keeps.ite)
    | (with_reducible apply Keeps.iteR)
    | (with_reducible apply Keeps.foldl)
    | intro _
    | split
    | dsimp only

theorem kp_pduPutOp (r : Request) (s : State) : KeepsR 3768832 s (State.pduPutOp r s) := by
  unfold State.pduPutOp
  repeat' first
    | (with_reducible exact Keeps.refl)
    | (with_reducible apply Keeps.reply)
    | (with_reducible apply Keeps.later)
    | (with_reducible apply Keeps.hold)
    | (apply Keeps.nextR; (with_reducible apply kp_OpRes_status); decide)
    | (apply Keeps.next; (with_reducible apply kp_pduJudge); decide)
    | (with_reducible apply Keeps.ite)
    | (with_reducible apply Keeps.iteR)
    | (with_reducible apply Keeps.foldl)
    | intro _
    | split
    | dsimp only

theorem kp_readOp (bytes : State → List Byte) (r : Request) (s : State) : KeepsR 0 s (State.readOp bytes r s) := by
  unfold State.readOp
  repeat' first
    | (with_reducible exact Keeps.refl)
    | (with_reducible apply Keeps.reply)
    | (with_reducible apply Keeps.later)
    | (with_reducible apply Keeps.hold)
    | (apply Keeps.nextR; (with_reducible apply kp_OpRes_status); decide)
    | (with_reducible apply Keeps.ite)
    | (with_reducible apply Keeps.iteR)
    | (with_reducible apply Keeps.foldl)
    | intro _
    | split
    | dsimp only

theorem kp_recordWriteOp (k : RecordKind) (r : Request) (s : State) : KeepsR 1048576 s (State.recordWriteOp k r s) := by
  unfold State.recordWriteOp
  repeat' first
    | (with_reducible exact Keeps.refl)
    | (with_reducible apply Keeps.reply)
    | (with_reducible apply Keeps.later)
    | (with_reducible apply Keeps.hold)
    | (apply Keeps.nextR; (with_reducible apply kp_OpRes_status); decide)
    | (apply Keeps.next; (with_reducible apply kp_setStage); decide)
    | (with_reducible apply Keeps.ite)
    | (with_reducible apply Keeps.iteR)
    | (with_reducible apply Keeps.foldl)
    | intro _
    | split
    | dsimp only

theorem kp_safetyResetOp (x0 : Request) (s : State) : KeepsR 524800 s (State.safetyResetOp x0 s) := by
  unfold State.safetyResetOp
  repeat' first
    | (with_reducible exact Keeps.refl)
    | (with_reducible apply Keeps.reply)
    | (with_reducible apply Keeps.later)
    | (with_reducible apply Keeps.hold)
    | (apply Keeps.nextP; (with_reducible apply kp_safetyReset); decide)
    | (apply Keeps.nextR; (with_reducible apply kp_OpRes_status); decide)
    | (with_reducible apply Keeps.ite)
    | (with_reducible apply Keeps.iteR)
    | (with_reducible exact Keeps.reflP)
    | (simp only [Keeps.pair_eq])
    | (with_reducible apply Keeps.snd)
    | (apply Keeps.of_pair; assumption)
    | (with_reducible apply Keeps.iteP)
    | (with_reducible apply Keeps.foldlP)
    | (with_reducible apply Keeps.foldl)
    | intro _
    | split
    | dsimp only

theorem kp_safetyStatusOp (x0 : Request) (s : State) : KeepsR 0 s (State.safetyStatusOp x0 s) := by
  unfold State.safetyStatusOp
  repeat' first
    | (with_reducible exact Keeps.refl)
    | (with_reducible apply Keeps.reply)
    | (with_reducible apply Keeps.later)
    | (with_reducible apply Keeps.hold)
    | (with_reducible apply Keeps.ite)
    | (with_reducible apply Keeps.iteR)
    | (with_reducible apply Keeps.foldl)
    | intro _
    | split
    | dsimp only

theorem kp_setpointOp (idx : Nat) (ok : Bool) (v : Nat) (s : State) : KeepsR 1155072 s (State.setpointOp idx ok v s) := by
  unfold State.setpointOp
  repeat' first
    | (with_reducible exact Keeps.refl)
    | (with_reducible apply Keeps.reply)
    | (with_reducible apply Keeps.later)
    | (with_reducible apply Keeps.hold)
    | (apply Keeps.nextR; (with_reducible apply kp_OpRes_status); decide)
    | (apply Keeps.next; (with_reducible apply kp_mcSubmit); decide)
    | (with_reducible apply Keeps.ite)
    | (with_reducible apply Keeps.iteR)
    | (with_reducible apply Keeps.foldl)
    | intro _
    | split
    | dsimp only

theorem kp_setFreeOp (r : Request) (s : State) : KeepsR 1155072 s (State.setFreeOp r s) := by
  unfold State.setFreeOp
  repeat' first
    | (with_reducible exact Keeps.refl)
    | (with_reducible apply Keeps.reply)
    | (with_reducible apply Keeps.later)
    | (with_reducible apply Keeps.hold)
    | (apply Keeps.nextR; (with_reducible apply kp_setpointOp); decide)
    | (with_reducible apply Keeps.ite)
    | (with_reducible apply Keeps.iteR)
    | (with_reducible apply Keeps.foldl)
    | intro _
    | split
    | dsimp only

theorem kp_setPosOp (idx : Nat) (r : Request) (s : State) : KeepsR 1155072 s (State.setPosOp idx r s) := by
  unfold State.setPosOp
  repeat' first
    | (with_reducible exact Keeps.refl)
    | (with_reducible apply Keeps.reply)
    | (with_reducible apply Keeps.later)
    | (with_reducible apply Keeps.hold)
    | (apply Keeps.nextR; (with_reducible apply kp_setpointOp); decide)
    | (with_reducible apply Keeps.ite)
    | (with_reducible apply Keeps.iteR)
    | (with_reducible apply Keeps.foldl)
    | intro _
    | split
    | dsimp only

theorem kp_setQOp (r : Request) (s : State) : KeepsR 1155072 s (State.setQOp r s) := by
  unfold State.setQOp
  repeat' first
    | (with_reducible exact Keeps.refl)
    | (with_reducible apply Keeps.reply)
    | (with_reducible apply Keeps.later)
    | (with_reducible apply Keeps.hold)
    | (apply Keeps.nextR; (with_reducible apply kp_setpointOp); decide)
    | (with_reducible apply Keeps.ite)
    | (with_reducible apply Keeps.iteR)
    | (with_reducible apply Keeps.foldl)
    | intro _
    | split
    | dsimp only

theorem kp_sprCommitOp (r : Request) (s : State) : KeepsR 270107136 s (State.sprCommitOp r s) := by
  have hu : ∀ (u : State) o, Keeps 270107136 u { u with oper := o } := fun u o => by
    rw [Keeps.built]
    refine Keeps.upd Keeps.refl
  unfold State.sprCommitOp
  apply kp_recordCommitOp (by decide)
  intro bs r s
  have h : Keeps 270107136 s ((s.setStage .spr {}).sprLoad (wordsOf bs)).2 :=
    Keeps.nextP (kp_sprLoad _ _) (by decide) ((kp_setStage s .spr {}).mono (by decide))
  generalize (s.setStage .spr {}).sprLoad (wordsOf bs) = p at h
  obtain ⟨ok, u⟩ := p
  dsimp only
  split
  · exact h
  · exact Keeps.trans h (Keeps.ite (hu _ _) Keeps.refl)

theorem kp_sprConfirmOp (r : Request) (s : State) : KeepsR 1671168 s (State.sprConfirmOp r s) := by
  unfold State.sprConfirmOp
  repeat' first
    | (with_reducible exact Keeps.refl)
    | (with_reducible apply Keeps.reply)
    | (with_reducible apply Keeps.later)
    | (with_reducible apply Keeps.hold)
    | (apply Keeps.nextP; (with_reducible apply kp_sprConfirm); decide)
    | (apply Keeps.nextR; (with_reducible apply kp_OpRes_status); decide)
    | (with_reducible apply Keeps.ite)
    | (with_reducible apply Keeps.iteR)
    | (with_reducible exact Keeps.reflP)
    | (simp only [Keeps.pair_eq])
    | (with_reducible apply Keeps.snd)
    | (apply Keeps.of_pair; assumption)
    | (with_reducible apply Keeps.iteP)
    | (with_reducible apply Keeps.foldlP)
    | (with_reducible apply Keeps.foldl)
    | intro _
    | split
    | dsimp only

theorem kp_statusOp (r : Request) (s : State) : KeepsR 0 s (State.statusOp r s) := by
  unfold State.statusOp
  repeat' first
    | (with_reducible exact Keeps.refl)
    | (with_reducible apply Keeps.reply)
    | (with_reducible apply Keeps.later)
    | (with_reducible apply Keeps.hold)
    | (with_reducible apply Keeps.ite)
    | (with_reducible apply Keeps.iteR)
    | (with_reducible apply Keeps.foldl)
    | intro _
    | split
    | dsimp only

theorem kp_syncTimeout (s : State) : Keeps 1049088 s (State.syncTimeout s) := by
  unfold State.syncTimeout
  repeat' first
    | (with_reducible exact Keeps.refl)
    | (with_reducible apply Keeps.atBuilt; refine Keeps.upd ?_)
    | (simp only [Keeps.built])
    | (apply Keeps.next; (with_reducible apply kp_autoReconnect); decide)
    | (with_reducible apply Keeps.ite)
    | (with_reducible apply Keeps.foldl)
    | intro _
    | split
    | dsimp only

theorem kp_syncWindowMet (s : State) : Keeps 524800 s (State.syncWindowMet s) := by
  unfold State.syncWindowMet
  repeat' first
    | (with_reducible exact Keeps.refl)
    | (with_reducible apply Keeps.atBuilt; refine Keeps.upd ?_)
    | (simp only [Keeps.built])
    | (apply Keeps.next; (with_reducible apply kp_connectRequest); decide)
    | (with_reducible apply Keeps.ite)
    | (with_reducible apply Keeps.foldl)
    | intro _
    | split
    | dsimp only

theorem kp_execRecordStagingTimeout (k : RecordKind) (s : State) : KeepsN 1048576 s (execRecordStagingTimeout k s) := by
  unfold execRecordStagingTimeout
  repeat' first
    | (with_reducible exact Keeps.refl)
    | (with_reducible apply Keeps.out)
    | (apply Keeps.next; (with_reducible apply kp_setStage); decide)
    | (with_reducible apply Keeps.ite)
    | (with_reducible apply Keeps.foldl)
    | intro _
    | split
    | dsimp only

theorem kp_execHello (s : State) : KeepsN 538017792 s (execHello s) := by
  unfold execHello
  repeat' first
    | (with_reducible exact Keeps.refl)
    | (with_reducible apply Keeps.out)
    | (with_reducible apply kp_runOp; decide)
    | (apply Keeps.nextR; (with_reducible apply kp_helloOp); decide)
    | (with_reducible apply Keeps.ite)
    | (with_reducible apply Keeps.foldl)
    | intro _
    | split
    | dsimp only

theorem kp_execBye (s : State) : KeepsN 538017792 s (execBye s) := by
  unfold execBye
  repeat' first
    | (with_reducible exact Keeps.refl)
    | (with_reducible apply Keeps.out)
    | (with_reducible apply kp_runOp; decide)
    | (apply Keeps.nextR; (with_reducible apply kp_byeOp); decide)
    | (with_reducible apply Keeps.ite)
    | (with_reducible apply Keeps.foldl)
    | intro _
    | split
    | dsimp only

theorem kp_execKeyOffer (s : State) : KeepsN 538021888 s (execKeyOffer s) := by
  unfold execKeyOffer
  repeat' first
    | (with_reducible exact Keeps.refl)
    | (with_reducible apply Keeps.out)
    | (with_reducible apply kp_runOp; decide)
    | (apply Keeps.nextR; (with_reducible apply kp_keyOfferOp); decide)
    | (with_reducible apply Keeps.ite)
    | (with_reducible apply Keeps.foldl)
    | intro _
    | split
    | dsimp only

theorem kp_execKeyProof (s : State) : KeepsN 538017792 s (execKeyProof s) := by
  unfold execKeyProof
  repeat' first
    | (with_reducible exact Keeps.refl)
    | (with_reducible apply Keeps.out)
    | (with_reducible apply kp_runOp; decide)
    | (apply Keeps.nextR; (with_reducible apply kp_keyProofOp); decide)
    | (with_reducible apply Keeps.ite)
    | (with_reducible apply Keeps.foldl)
    | intro _
    | split
    | dsimp only

theorem kp_execKeyCipher (s : State) : KeepsN 538017792 s (execKeyCipher s) := by
  unfold execKeyCipher
  repeat' first
    | (with_reducible exact Keeps.refl)
    | (with_reducible apply Keeps.out)
    | (with_reducible apply kp_runOp; decide)
    | (apply Keeps.nextR; (with_reducible apply kp_keyCipherOp); decide)
    | (with_reducible apply Keeps.ite)
    | (with_reducible apply Keeps.foldl)
    | intro _
    | split
    | dsimp only

theorem kp_execKeyOwner (s : State) : KeepsN 538017792 s (execKeyOwner s) := by
  unfold execKeyOwner
  repeat' first
    | (with_reducible exact Keeps.refl)
    | (with_reducible apply Keeps.out)
    | (with_reducible apply kp_runOp; decide)
    | (apply Keeps.nextR; (with_reducible apply kp_keyOwnerOp); decide)
    | (with_reducible apply Keeps.ite)
    | (with_reducible apply Keeps.foldl)
    | intro _
    | split
    | dsimp only

theorem kp_execBdrWrite (s : State) : KeepsN 538017792 s (execBdrWrite s) := by
  unfold execBdrWrite
  repeat' first
    | (with_reducible exact Keeps.refl)
    | (with_reducible apply Keeps.out)
    | (with_reducible apply kp_runOp; decide)
    | (apply Keeps.nextR; (with_reducible apply kp_recordWriteOp); decide)
    | (with_reducible apply Keeps.ite)
    | (with_reducible apply Keeps.foldl)
    | intro _
    | split
    | dsimp only

theorem kp_execBdrCommit (s : State) : KeepsN 17179869182 s (execBdrCommit s) := by
  unfold execBdrCommit
  repeat' first
    | (with_reducible exact Keeps.refl)
    | (with_reducible apply Keeps.out)
    | (with_reducible apply kp_runOp; decide)
    | (apply Keeps.nextR; (with_reducible apply kp_bdrCommitOp); decide)
    | (with_reducible apply Keeps.ite)
    | (with_reducible apply Keeps.foldl)
    | intro _
    | split
    | dsimp only

theorem kp_execBdrRead (s : State) : KeepsN 538017792 s (execBdrRead s) := by
  unfold execBdrRead
  repeat' first
    | (with_reducible exact Keeps.refl)
    | (with_reducible apply Keeps.out)
    | (with_reducible apply kp_runOp; decide)
    | (apply Keeps.nextR; (with_reducible apply kp_readOp); decide)
    | (with_reducible apply Keeps.ite)
    | (with_reducible apply Keeps.foldl)
    | intro _
    | split
    | dsimp only

theorem kp_execGprWrite (s : State) : KeepsN 538017792 s (execGprWrite s) := by
  unfold execGprWrite
  repeat' first
    | (with_reducible exact Keeps.refl)
    | (with_reducible apply Keeps.out)
    | (with_reducible apply kp_runOp; decide)
    | (apply Keeps.nextR; (with_reducible apply kp_recordWriteOp); decide)
    | (with_reducible apply Keeps.ite)
    | (with_reducible apply Keeps.foldl)
    | intro _
    | split
    | dsimp only

theorem kp_execGprCommit (s : State) : KeepsN 17179869182 s (execGprCommit s) := by
  unfold execGprCommit
  repeat' first
    | (with_reducible exact Keeps.refl)
    | (with_reducible apply Keeps.out)
    | (with_reducible apply kp_runOp; decide)
    | (apply Keeps.nextR; (with_reducible apply kp_gprCommitOp); decide)
    | (with_reducible apply Keeps.ite)
    | (with_reducible apply Keeps.foldl)
    | intro _
    | split
    | dsimp only

theorem kp_execGprRead (s : State) : KeepsN 538017792 s (execGprRead s) := by
  unfold execGprRead
  repeat' first
    | (with_reducible exact Keeps.refl)
    | (with_reducible apply Keeps.out)
    | (with_reducible apply kp_runOp; decide)
    | (apply Keeps.nextR; (with_reducible apply kp_readOp); decide)
    | (with_reducible apply Keeps.ite)
    | (with_reducible apply Keeps.foldl)
    | intro _
    | split
    | dsimp only

theorem kp_execConnect (s : State) : KeepsN 538018304 s (execConnect s) := by
  unfold execConnect
  repeat' first
    | (with_reducible exact Keeps.refl)
    | (with_reducible apply Keeps.out)
    | (with_reducible apply kp_runOp; decide)
    | (apply Keeps.nextR; (with_reducible apply kp_connectOp); decide)
    | (with_reducible apply Keeps.ite)
    | (with_reducible apply Keeps.foldl)
    | intro _
    | split
    | dsimp only

theorem kp_execDisconnect (s : State) : KeepsN 538018304 s (execDisconnect s) := by
  unfold execDisconnect
  repeat' first
    | (with_reducible exact Keeps.refl)
    | (with_reducible apply Keeps.out)
    | (with_reducible apply kp_runOp; decide)
    | (apply Keeps.nextR; (with_reducible apply kp_disconnectOp); decide)
    | (with_reducible apply Keeps.ite)
    | (with_reducible apply Keeps.foldl)
    | intro _
    | split
    | dsimp only

theorem kp_execSyncWindowMet (s : State) : KeepsN 524800 s (execSyncWindowMet s) := by
  unfold execSyncWindowMet
  repeat' first
    | (with_reducible exact Keeps.refl)
    | (with_reducible apply Keeps.out)
    | (apply Keeps.next; (with_reducible apply kp_syncWindowMet); decide)
    | (with_reducible apply Keeps.ite)
    | (with_reducible apply Keeps.foldl)
    | intro _
    | split
    | dsimp only

theorem kp_execSyncTimeout (s : State) : KeepsN 1049088 s (execSyncTimeout s) := by
  unfold execSyncTimeout
  repeat' first
    | (with_reducible exact Keeps.refl)
    | (with_reducible apply Keeps.out)
    | (apply Keeps.next; (with_reducible apply kp_syncTimeout); decide)
    | (with_reducible apply Keeps.ite)
    | (with_reducible apply Keeps.foldl)
    | intro _
    | split
    | dsimp only

theorem kp_execDisconnectGsStop (s : State) : KeepsN 119123972 s (execDisconnectGsStop s) := by
  unfold execDisconnectGsStop
  repeat' first
    | (with_reducible exact Keeps.refl)
    | (with_reducible apply Keeps.out)
    | (apply Keeps.next; (with_reducible apply kp_disconnectGsStop); decide)
    | (with_reducible apply Keeps.ite)
    | (with_reducible apply Keeps.foldl)
    | intro _
    | split
    | dsimp only

theorem kp_execDisconnectPwmSafe (s : State) : KeepsN 1671168 s (execDisconnectPwmSafe s) := by
  unfold execDisconnectPwmSafe
  repeat' first
    | (with_reducible exact Keeps.refl)
    | (with_reducible apply Keeps.out)
    | (apply Keeps.next; (with_reducible apply kp_disconnectPwmSafe); decide)
    | (with_reducible apply Keeps.ite)
    | (with_reducible apply Keeps.foldl)
    | intro _
    | split
    | dsimp only

theorem kp_execSetP (s : State) : KeepsN 538025984 s (execSetP s) := by
  unfold execSetP
  repeat' first
    | (with_reducible exact Keeps.refl)
    | (with_reducible apply Keeps.out)
    | (with_reducible apply kp_runOp; decide)
    | (apply Keeps.nextR; (with_reducible apply kp_setPosOp); decide)
    | (with_reducible apply Keeps.ite)
    | (with_reducible apply Keeps.foldl)
    | intro _
    | split
    | dsimp only

theorem kp_execSetQ (s : State) : KeepsN 538025984 s (execSetQ s) := by
  unfold execSetQ
  repeat' first
    | (with_reducible exact Keeps.refl)
    | (with_reducible apply Keeps.out)
    | (with_reducible apply kp_runOp; decide)
    | (apply Keeps.nextR; (with_reducible apply kp_setQOp); decide)
    | (with_reducible apply Keeps.ite)
    | (with_reducible apply Keeps.foldl)
    | intro _
    | split
    | dsimp only

theorem kp_execCurtail (s : State) : KeepsN 538025984 s (execCurtail s) := by
  unfold execCurtail
  repeat' first
    | (with_reducible exact Keeps.refl)
    | (with_reducible apply Keeps.out)
    | (with_reducible apply kp_runOp; decide)
    | (apply Keeps.nextR; (with_reducible apply kp_setPosOp); decide)
    | (with_reducible apply Keeps.ite)
    | (with_reducible apply Keeps.foldl)
    | intro _
    | split
    | dsimp only

theorem kp_execMode (s : State) : KeepsN 17179869182 s (execMode s) := by
  unfold execMode
  repeat' first
    | (with_reducible exact Keeps.refl)
    | (with_reducible apply Keeps.out)
    | (with_reducible apply kp_runOp; decide)
    | (apply Keeps.nextR; (with_reducible apply kp_modeOp); decide)
    | (with_reducible apply Keeps.ite)
    | (with_reducible apply Keeps.foldl)
    | intro _
    | split
    | dsimp only

theorem kp_execStatus (s : State) : KeepsN 538017792 s (execStatus s) := by
  unfold execStatus
  repeat' first
    | (with_reducible exact Keeps.refl)
    | (with_reducible apply Keeps.out)
    | (with_reducible apply kp_runOp; decide)
    | (apply Keeps.nextR; (with_reducible apply kp_statusOp); decide)
    | (with_reducible apply Keeps.ite)
    | (with_reducible apply Keeps.foldl)
    | intro _
    | split
    | dsimp only

theorem kp_execSetpoint (s : State) : KeepsN 538025984 s (execSetpoint s) := by
  unfold execSetpoint
  repeat' first
    | (with_reducible exact Keeps.refl)
    | (with_reducible apply Keeps.out)
    | (with_reducible apply kp_runOp; decide)
    | (apply Keeps.nextR; (with_reducible apply kp_setFreeOp); decide)
    | (with_reducible apply Keeps.ite)
    | (with_reducible apply Keeps.foldl)
    | intro _
    | split
    | dsimp only

theorem kp_execSprWrite (s : State) : KeepsN 538017792 s (execSprWrite s) := by
  unfold execSprWrite
  repeat' first
    | (with_reducible exact Keeps.refl)
    | (with_reducible apply Keeps.out)
    | (with_reducible apply kp_runOp; decide)
    | (apply Keeps.nextR; (with_reducible apply kp_recordWriteOp); decide)
    | (with_reducible apply Keeps.ite)
    | (with_reducible apply Keeps.foldl)
    | intro _
    | split
    | dsimp only

theorem kp_execSprCommit (s : State) : KeepsN 806978048 s (execSprCommit s) := by
  unfold execSprCommit
  repeat' first
    | (with_reducible exact Keeps.refl)
    | (with_reducible apply Keeps.out)
    | (with_reducible apply kp_runOp; decide)
    | (apply Keeps.nextR; (with_reducible apply kp_sprCommitOp); decide)
    | (with_reducible apply Keeps.ite)
    | (with_reducible apply Keeps.foldl)
    | intro _
    | split
    | dsimp only

theorem kp_execSprConfirm (s : State) : KeepsN 538542080 s (execSprConfirm s) := by
  unfold execSprConfirm
  repeat' first
    | (with_reducible exact Keeps.refl)
    | (with_reducible apply Keeps.out)
    | (with_reducible apply kp_runOp; decide)
    | (apply Keeps.nextR; (with_reducible apply kp_sprConfirmOp); decide)
    | (with_reducible apply Keeps.ite)
    | (with_reducible apply Keeps.foldl)
    | intro _
    | split
    | dsimp only

theorem kp_execSafetyReset (s : State) : KeepsN 538542592 s (execSafetyReset s) := by
  unfold execSafetyReset
  repeat' first
    | (with_reducible exact Keeps.refl)
    | (with_reducible apply Keeps.out)
    | (with_reducible apply kp_runOp; decide)
    | (apply Keeps.nextR; (with_reducible apply kp_safetyResetOp); decide)
    | (with_reducible apply Keeps.ite)
    | (with_reducible apply Keeps.foldl)
    | intro _
    | split
    | dsimp only

theorem kp_execSafetyStatus (s : State) : KeepsN 538017792 s (execSafetyStatus s) := by
  unfold execSafetyStatus
  repeat' first
    | (with_reducible exact Keeps.refl)
    | (with_reducible apply Keeps.out)
    | (with_reducible apply kp_runOp; decide)
    | (apply Keeps.nextR; (with_reducible apply kp_safetyStatusOp); decide)
    | (with_reducible apply Keeps.ite)
    | (with_reducible apply Keeps.foldl)
    | intro _
    | split
    | dsimp only

theorem kp_execPduPut (s : State) : KeepsN 540639744 s (execPduPut s) := by
  unfold execPduPut
  repeat' first
    | (with_reducible exact Keeps.refl)
    | (with_reducible apply Keeps.out)
    | (with_reducible apply kp_runOp; decide)
    | (apply Keeps.nextR; (with_reducible apply kp_pduPutOp); decide)
    | (with_reducible apply Keeps.ite)
    | (with_reducible apply Keeps.foldl)
    | intro _
    | split
    | dsimp only

theorem kp_execPduGet (s : State) : KeepsN 538017792 s (execPduGet s) := by
  unfold execPduGet
  repeat' first
    | (with_reducible exact Keeps.refl)
    | (with_reducible apply Keeps.out)
    | (with_reducible apply kp_runOp; decide)
    | (apply Keeps.nextR; (with_reducible apply kp_pduGetOp); decide)
    | (with_reducible apply Keeps.ite)
    | (with_reducible apply Keeps.foldl)
    | intro _
    | split
    | dsimp only

end Sys2Proof.Machine
end

