-- ==== Sys2Proof/Laws/KeepsTppCommandsB.lean ====
section
/-! SUPPORT. Laws/KeepsTppCommandsB.lean: what each operation of Machine/TppCommandsB.lean keeps. -/

set_option Elab.async false

set_option linter.unusedTactic false
set_option linter.unusedSimpArgs false
set_option linter.unreachableTactic false

namespace Sys2Proof.Machine

theorem kp_attestOp (r : Request) (s : State) : KeepsR 0 s (State.attestOp r s) := by
  unfold State.attestOp
  repeat' first
    | (with_reducible exact Keeps.refl)
    | (with_reducible apply Keeps.reply)
    | (with_reducible apply Keeps.later)
    | (with_reducible apply Keeps.hold)
    | (with_reducible apply Keeps.ite)
    | (with_reducible apply Keeps.iteR)
    | (with_reducible apply Keeps.foldl)
    | intro _
    | split
    | dsimp only

theorem kp_captureCfgOp (r : Request) (s : State) : KeepsR 17179869182 s (State.captureCfgOp r s) := by
  unfold State.captureCfgOp
  repeat' first
    | (with_reducible exact Keeps.refl)
    | (with_reducible apply Keeps.reply)
    | (with_reducible apply Keeps.later)
    | (with_reducible apply Keeps.hold)
    | (apply Keeps.nextR; (with_reducible apply kp_OpRes_status); decide)
    | (apply Keeps.next; (with_reducible apply kp_mcWrite); decide)
    | (with_reducible apply Keeps.forEach)
    | (with_reducible apply Keeps.ite)
    | (with_reducible apply Keeps.iteR)
    | (with_reducible apply Keeps.foldl)
    | intro _
    | split
    | dsimp only

theorem kp_captureReadOp (r : Request) (s : State) : KeepsR 0 s (State.captureReadOp r s) := by
  unfold State.captureReadOp
  repeat' first
    | (with_reducible exact Keeps.refl)
    | (with_reducible apply Keeps.reply)
    | (with_reducible apply Keeps.later)
    | (with_reducible apply Keeps.hold)
    | (apply Keeps.nextR; (with_reducible apply kp_OpRes_status); decide)
    | (with_reducible apply Keeps.ite)
    | (with_reducible apply Keeps.iteR)
    | (with_reducible apply Keeps.foldl)
    | intro _
    | split
    | dsimp only

/-- The state inside what a fragment comes to. -/
def State.Fragment.out (s : State) : State.Fragment → State
  | .busy => s
  | .bad => s
  | .more t => t
  | .token t _ => t

theorem kp_tokenFragment (s : State) (p : Port) (bs : List Byte) : Keeps 4294967296 s ((s.tokenFragment p bs).out s) := by
  have hu : ∀ (u : State) a, Keeps 4294967296 u { u with sec := { u.sec with token := a } } := fun u a => by
    rw [Keeps.built]
    refine Keeps.upd Keeps.refl
  unfold State.tokenFragment
  dsimp only
  repeat' first
    | exact Keeps.refl
    | exact hu _ _
    | split

theorem kp_debugTokenOp (r : Request) (s : State) : KeepsR 4296114176 s (State.debugTokenOp r s) := by
  have h := (kp_tokenFragment s r.port r.payload).mono (c := 4296114176) (by decide)
  unfold State.debugTokenOp
  split <;> rename_i e <;> rw [e] at h
  · exact Keeps.reply Keeps.refl
  · exact Keeps.reply Keeps.refl
  · exact Keeps.reply h
  · split
    · exact Keeps.reply (Keeps.trans h ((kp_tokenRefuse _).mono (by decide)))
    · rename_i e2
      exact Keeps.reply (Keeps.trans h (Keeps.of_some e2 (Keeps.nextO (kp_debugTokenQ _ _) (by decide) Keeps.refl)))

theorem kp_drvClearOp (r : Request) (s : State) : KeepsR 17179869182 s (State.drvClearOp r s) := by
  unfold State.drvClearOp
  repeat' first
    | (with_reducible exact Keeps.refl)
    | (with_reducible apply Keeps.reply)
    | (with_reducible apply Keeps.later)
    | (with_reducible apply Keeps.hold)
    | (apply Keeps.nextR; (with_reducible apply kp_OpRes_status); decide)
    | (apply Keeps.next; (with_reducible apply kp_mcWrite); decide)
    | (with_reducible apply Keeps.forEach)
    | (with_reducible apply Keeps.ite)
    | (with_reducible apply Keeps.iteR)
    | (with_reducible apply Keeps.foldl)
    | intro _
    | split
    | dsimp only

theorem kp_faultClearOp (x0 : Request) (s : State) : KeepsR 524800 s (State.faultClearOp x0 s) := by
  unfold State.faultClearOp
  repeat' first
    | (with_reducible exact Keeps.refl)
    | (with_reducible apply Keeps.atBuilt; refine Keeps.upd ?_)
    | (simp only [Keeps.built])
    | (with_reducible apply Keeps.reply)
    | (with_reducible apply Keeps.later)
    | (with_reducible apply Keeps.hold)
    | (with_reducible apply Keeps.ite)
    | (with_reducible apply Keeps.iteR)
    | (with_reducible apply Keeps.foldl)
    | intro _
    | split
    | dsimp only

theorem kp_imageActivateOp (r : Request) (s : State) : KeepsR 268435456 s (State.imageActivateOp r s) := by
  unfold State.imageActivateOp
  repeat' first
    | (with_reducible exact Keeps.refl)
    | (with_reducible apply Keeps.reply)
    | (with_reducible apply Keeps.later)
    | (with_reducible apply Keeps.hold)
    | (apply Keeps.nextR; (with_reducible apply kp_OpRes_status); decide)
    | (apply Keeps.nextO; (with_reducible apply kp_imageActivateQ); decide)
    | (with_reducible apply Keeps.ite)
    | (with_reducible apply Keeps.iteR)
    | (with_reducible exact Keeps.none)
    | (with_reducible apply Keeps.some)
    | (apply Keeps.of_some; assumption)
    | (with_reducible apply Keeps.foldl)
    | intro _
    | split
    | dsimp only

theorem kp_imageCommitOp (r : Request) (s : State) : KeepsR 4564549632 s (State.imageCommitOp r s) := by
  have h : KeepsP 4564549632 s (s.imageCommit (r.byte 0) (r.byte 1)) := Keeps.nextP (kp_imageCommit ..) (by decide) Keeps.refl
  unfold State.imageCommitOp
  generalize s.imageCommit (r.byte 0) (r.byte 1) = p at h ⊢
  split
  · exact Keeps.reply Keeps.refl
  · exact Keeps.reply (Keeps.snd h)

theorem kp_imageWriteOp (r : Request) (s : State) : KeepsR 4563402752 s (State.imageWriteOp r s) := by
  unfold State.imageWriteOp
  repeat' first
    | (with_reducible exact Keeps.refl)
    | (with_reducible apply Keeps.reply)
    | (with_reducible apply Keeps.later)
    | (with_reducible apply Keeps.hold)
    | (apply Keeps.nextR; (with_reducible apply kp_OpRes_status); decide)
    | (apply Keeps.next; (with_reducible apply kp_imageWrite); decide)
    | (with_reducible apply Keeps.ite)
    | (with_reducible apply Keeps.iteR)
    | (with_reducible apply Keeps.foldl)
    | intro _
    | split
    | dsimp only

theorem kp_mapWrite (a : Nat) (v : Nat) (m : Nat) (s : State) : KeepsR 17179869182 s (State.mapWrite a v m s) := by
  unfold State.mapWrite
  repeat' first
    | (with_reducible exact Keeps.refl)
    | (with_reducible apply Keeps.reply)
    | (with_reducible apply Keeps.later)
    | (with_reducible apply Keeps.hold)
    | (apply Keeps.nextR; (with_reducible apply kp_OpRes_status); decide)
    | (apply Keeps.next; (with_reducible apply kp_mcWrite); decide)
    | (with_reducible apply Keeps.ite)
    | (with_reducible apply Keeps.iteR)
    | (with_reducible apply Keeps.foldl)
    | intro _
    | split
    | dsimp only

theorem kp_injectOp (r : Request) (s : State) : KeepsR 17179869182 s (State.injectOp r s) := by
  unfold State.injectOp
  repeat' first
    | (with_reducible exact Keeps.refl)
    | (with_reducible apply Keeps.reply)
    | (with_reducible apply Keeps.later)
    | (with_reducible apply Keeps.hold)
    | (apply Keeps.nextR; (with_reducible apply kp_OpRes_status); decide)
    | (apply Keeps.next; (with_reducible apply kp_setLeActive); decide)
    | (apply Keeps.nextR; (with_reducible apply kp_mapWrite); decide)
    | (with_reducible apply Keeps.ite)
    | (with_reducible apply Keeps.iteR)
    | (with_reducible apply Keeps.foldl)
    | intro _
    | split
    | dsimp only

theorem kp_lcTokenOp (cut : Option Nat) (r : Request) (s : State) : KeepsR 5101420544 s (State.lcTokenOp cut r s) := by
  have h := (kp_tokenFragment s r.port r.payload).mono (c := 5101420544) (by decide)
  have ha : ∀ (u : State) st pl, Keeps 5101420544 u (u.answer r st pl) := fun u st pl => (kp_answer u r st pl).mono (by decide)
  have hp : ∀ (u : State), Keeps 5101420544 u u.pumpAll := fun u => (kp_pumpAll u).mono (by decide)
  have he : ∀ (u : State) p, Keeps 5101420544 u (u.endSession p) := fun u p => (kp_endSession u p).mono (by decide)
  have hl : ∀ (u : State) t, KeepsO 5101420544 u (u.lcToken? t cut) := fun u t => Keeps.nextO (kp_lcTokenQ u t cut) (by decide) Keeps.refl
  unfold State.lcTokenOp
  generalize State.lcToken? = L at *
  split <;> rename_i e <;> rw [e] at h
  · exact Keeps.reply Keeps.refl
  · exact Keeps.reply Keeps.refl
  · exact Keeps.reply h
  · split
    · exact Keeps.reply (Keeps.trans h ((kp_tokenRefuse _).mono (by decide)))
    · rename_i e2
      have h2 := Keeps.trans h (Keeps.of_some e2 (hl _ _))
      split
      · refine Keeps.later (Keeps.trans ?_ (hp _))
        exact Keeps.forEach (h2.trans (ha _ _ _)) fun u x => Keeps.ite (he _ _) Keeps.refl
      split
      · exact Keeps.later h2
      · exact Keeps.reply h2

theorem kp_leModeOp (r : Request) (s : State) : KeepsR 17179869182 s (State.leModeOp r s) := by
  unfold State.leModeOp
  repeat' first
    | (with_reducible exact Keeps.refl)
    | (with_reducible apply Keeps.reply)
    | (with_reducible apply Keeps.later)
    | (with_reducible apply Keeps.hold)
    | (apply Keeps.nextR; (with_reducible apply kp_OpRes_status); decide)
    | (apply Keeps.next; (with_reducible apply kp_mcWrite); decide)
    | (with_reducible apply Keeps.ite)
    | (with_reducible apply Keeps.iteR)
    | (with_reducible apply Keeps.foldl)
    | intro _
    | split
    | dsimp only

theorem kp_linkRetrainOp (r : Request) (s : State) : KeepsR 17179869182 s (State.linkRetrainOp r s) := by
  unfold State.linkRetrainOp
  repeat' first
    | (with_reducible exact Keeps.refl)
    | (with_reducible apply Keeps.reply)
    | (with_reducible apply Keeps.later)
    | (with_reducible apply Keeps.hold)
    | (apply Keeps.nextR; (with_reducible apply kp_OpRes_status); decide)
    | (apply Keeps.nextR; (with_reducible apply kp_mapWrite); decide)
    | (with_reducible apply Keeps.ite)
    | (with_reducible apply Keeps.iteR)
    | (with_reducible apply Keeps.foldl)
    | intro _
    | split
    | dsimp only

theorem kp_linkStatusOp (r : Request) (s : State) : KeepsR 0 s (State.linkStatusOp r s) := by
  unfold State.linkStatusOp
  repeat' first
    | (with_reducible exact Keeps.refl)
    | (with_reducible apply Keeps.reply)
    | (with_reducible apply Keeps.later)
    | (with_reducible apply Keeps.hold)
    | (apply Keeps.nextR; (with_reducible apply kp_OpRes_status); decide)
    | (with_reducible apply Keeps.ite)
    | (with_reducible apply Keeps.iteR)
    | (with_reducible apply Keeps.foldl)
    | intro _
    | split
    | dsimp only

theorem kp_linkTestEnd (s : State) : Keeps 17179869182 s (State.linkTestEnd s) := by
  unfold State.linkTestEnd
  repeat' first
    | (with_reducible exact Keeps.refl)
    | (with_reducible apply Keeps.atBuilt; refine Keeps.upd ?_)
    | (simp only [Keeps.built])
    | (apply Keeps.next; (with_reducible apply kp_mcWrite); decide)
    | (apply Keeps.next; (with_reducible apply kp_pumpAll); decide)
    | (apply Keeps.next; (with_reducible apply kp_answer); decide)
    | (with_reducible apply Keeps.ite)
    | (with_reducible apply Keeps.foldl)
    | intro _
    | split
    | dsimp only

theorem kp_linkTestOp (r : Request) (s : State) : KeepsR 17179869182 s (State.linkTestOp r s) := by
  unfold State.linkTestOp
  repeat' first
    | (with_reducible exact Keeps.refl)
    | (with_reducible apply Keeps.atBuilt; refine Keeps.upd ?_)
    | (simp only [Keeps.built])
    | (with_reducible apply Keeps.reply)
    | (with_reducible apply Keeps.later)
    | (with_reducible apply Keeps.hold)
    | (apply Keeps.nextR; (with_reducible apply kp_OpRes_status); decide)
    | (apply Keeps.next; (with_reducible apply kp_mcWrite); decide)
    | (with_reducible apply Keeps.ite)
    | (with_reducible apply Keeps.iteR)
    | (with_reducible apply Keeps.foldl)
    | intro _
    | split
    | dsimp only

theorem kp_logInfoOp (x0 : Request) (s : State) : KeepsR 0 s (State.logInfoOp x0 s) := by
  unfold State.logInfoOp
  repeat' first
    | (with_reducible exact Keeps.refl)
    | (with_reducible apply Keeps.reply)
    | (with_reducible apply Keeps.later)
    | (with_reducible apply Keeps.hold)
    | (with_reducible apply Keeps.ite)
    | (with_reducible apply Keeps.iteR)
    | (with_reducible apply Keeps.foldl)
    | intro _
    | split
    | dsimp only

theorem kp_logReadOp (r : Request) (s : State) : KeepsR 0 s (State.logReadOp r s) := by
  unfold State.logReadOp
  repeat' first
    | (with_reducible exact Keeps.refl)
    | (with_reducible apply Keeps.reply)
    | (with_reducible apply Keeps.later)
    | (with_reducible apply Keeps.hold)
    | (apply Keeps.nextR; (with_reducible apply kp_OpRes_status); decide)
    | (with_reducible apply Keeps.ite)
    | (with_reducible apply Keeps.iteR)
    | (with_reducible apply Keeps.foldl)
    | intro _
    | split
    | dsimp only

theorem kp_meterCalLockOp (x0 : Request) (s : State) : KeepsR 17179869182 s (State.meterCalLockOp x0 s) := by
  unfold State.meterCalLockOp
  repeat' first
    | (with_reducible exact Keeps.refl)
    | (with_reducible apply Keeps.reply)
    | (with_reducible apply Keeps.later)
    | (with_reducible apply Keeps.hold)
    | (apply Keeps.next; (with_reducible apply kp_mcWrite); decide)
    | (with_reducible apply Keeps.ite)
    | (with_reducible apply Keeps.iteR)
    | (with_reducible apply Keeps.foldl)
    | intro _
    | split
    | dsimp only

theorem kp_meterCalOp (r : Request) (s : State) : KeepsR 17179869182 s (State.meterCalOp r s) := by
  unfold State.meterCalOp
  repeat' first
    | (with_reducible exact Keeps.refl)
    | (with_reducible apply Keeps.reply)
    | (with_reducible apply Keeps.later)
    | (with_reducible apply Keeps.hold)
    | (apply Keeps.nextR; (with_reducible apply kp_OpRes_status); decide)
    | (apply Keeps.nextR; (with_reducible apply kp_mapWrite); decide)
    | (with_reducible apply Keeps.ite)
    | (with_reducible apply Keeps.iteR)
    | (with_reducible apply Keeps.foldl)
    | intro _
    | split
    | dsimp only

theorem kp_meterInstOp (r : Request) (s : State) : KeepsR 0 s (State.meterInstOp r s) := by
  unfold State.meterInstOp
  repeat' first
    | (with_reducible exact Keeps.refl)
    | (with_reducible apply Keeps.reply)
    | (with_reducible apply Keeps.later)
    | (with_reducible apply Keeps.hold)
    | (apply Keeps.nextR; (with_reducible apply kp_OpRes_status); decide)
    | (with_reducible apply Keeps.ite)
    | (with_reducible apply Keeps.iteR)
    | (with_reducible apply Keeps.foldl)
    | intro _
    | split
    | dsimp only

theorem kp_meterIntervalOp (x0 : Request) (s : State) : KeepsR 0 s (State.meterIntervalOp x0 s) := by
  unfold State.meterIntervalOp
  repeat' first
    | (with_reducible exact Keeps.refl)
    | (with_reducible apply Keeps.reply)
    | (with_reducible apply Keeps.later)
    | (with_reducible apply Keeps.hold)
    | (with_reducible apply Keeps.ite)
    | (with_reducible apply Keeps.iteR)
    | (with_reducible apply Keeps.foldl)
    | intro _
    | split
    | dsimp only

theorem kp_meterReadOp (r : Request) (s : State) : KeepsR 0 s (State.meterReadOp r s) := by
  unfold State.meterReadOp
  repeat' first
    | (with_reducible exact Keeps.refl)
    | (with_reducible apply Keeps.reply)
    | (with_reducible apply Keeps.later)
    | (with_reducible apply Keeps.hold)
    | (apply Keeps.nextR; (with_reducible apply kp_OpRes_status); decide)
    | (with_reducible apply Keeps.ite)
    | (with_reducible apply Keeps.iteR)
    | (with_reducible apply Keeps.foldl)
    | intro _
    | split
    | dsimp only

theorem kp_meterSnapReadOp (r : Request) (s : State) : KeepsR 0 s (State.meterSnapReadOp r s) := by
  unfold State.meterSnapReadOp
  repeat' first
    | (with_reducible exact Keeps.refl)
    | (with_reducible apply Keeps.reply)
    | (with_reducible apply Keeps.later)
    | (with_reducible apply Keeps.hold)
    | (apply Keeps.nextR; (with_reducible apply kp_OpRes_status); decide)
    | (with_reducible apply Keeps.ite)
    | (with_reducible apply Keeps.iteR)
    | (with_reducible apply Keeps.foldl)
    | intro _
    | split
    | dsimp only

theorem kp_meterSnapshotOp (x0 : Request) (s : State) : KeepsR 17179869182 s (State.meterSnapshotOp x0 s) := by
  unfold State.meterSnapshotOp
  repeat' first
    | (with_reducible exact Keeps.refl)
    | (with_reducible apply Keeps.reply)
    | (with_reducible apply Keeps.later)
    | (with_reducible apply Keeps.hold)
    | (apply Keeps.nextR; (with_reducible apply kp_mapWrite); decide)
    | (with_reducible apply Keeps.ite)
    | (with_reducible apply Keeps.iteR)
    | (with_reducible apply Keeps.foldl)
    | intro _
    | split
    | dsimp only

theorem kp_notifyCfgOp (r : Request) (s : State) : KeepsR 1048576 s (State.notifyCfgOp r s) := by
  unfold State.notifyCfgOp
  repeat' first
    | (with_reducible exact Keeps.refl)
    | (with_reducible apply Keeps.reply)
    | (with_reducible apply Keeps.later)
    | (with_reducible apply Keeps.hold)
    | (apply Keeps.nextR; (with_reducible apply kp_OpRes_status); decide)
    | (apply Keeps.next; (with_reducible apply kp_setPort); decide)
    | (with_reducible apply Keeps.ite)
    | (with_reducible apply Keeps.iteR)
    | (with_reducible apply Keeps.foldl)
    | intro _
    | split
    | dsimp only

theorem kp_powerStateOp (r : Request) (s : State) : KeepsR 9648583172 s (State.powerStateOp r s) := by
  unfold State.powerStateOp
  repeat' first
    | (with_reducible exact Keeps.refl)
    | (with_reducible apply Keeps.reply)
    | (with_reducible apply Keeps.later)
    | (with_reducible apply Keeps.hold)
    | (apply Keeps.nextR; (with_reducible apply kp_OpRes_status); decide)
    | (apply Keeps.next; (with_reducible apply kp_pumpAll); decide)
    | (apply Keeps.next; (with_reducible apply kp_powerStart); decide)
    | (apply Keeps.next; (with_reducible apply kp_answer); decide)
    | (with_reducible apply Keeps.ite)
    | (with_reducible apply Keeps.iteR)
    | (with_reducible apply Keeps.foldl)
    | intro _
    | split
    | dsimp only

theorem kp_powerStatusOp (x0 : Request) (s : State) : KeepsR 0 s (State.powerStatusOp x0 s) := by
  unfold State.powerStatusOp
  repeat' first
    | (with_reducible exact Keeps.refl)
    | (with_reducible apply Keeps.reply)
    | (with_reducible apply Keeps.later)
    | (with_reducible apply Keeps.hold)
    | (with_reducible apply Keeps.ite)
    | (with_reducible apply Keeps.iteR)
    | (with_reducible apply Keeps.foldl)
    | intro _
    | split
    | dsimp only

theorem kp_regReadOp (r : Request) (s : State) : KeepsR 0 s (State.regReadOp r s) := by
  unfold State.regReadOp
  repeat' first
    | (with_reducible exact Keeps.refl)
    | (with_reducible apply Keeps.reply)
    | (with_reducible apply Keeps.later)
    | (with_reducible apply Keeps.hold)
    | (apply Keeps.nextR; (with_reducible apply kp_OpRes_status); decide)
    | (with_reducible apply Keeps.ite)
    | (with_reducible apply Keeps.iteR)
    | (with_reducible apply Keeps.foldl)
    | intro _
    | split
    | dsimp only

theorem kp_regWriteOp (r : Request) (s : State) : KeepsR 17179869182 s (State.regWriteOp r s) := by
  unfold State.regWriteOp
  repeat' first
    | (with_reducible exact Keeps.refl)
    | (with_reducible apply Keeps.reply)
    | (with_reducible apply Keeps.later)
    | (with_reducible apply Keeps.hold)
    | (apply Keeps.nextR; (with_reducible apply kp_mapWrite); decide)
    | (apply Keeps.nextR; (with_reducible apply kp_OpRes_status); decide)
    | (with_reducible apply Keeps.ite)
    | (with_reducible apply Keeps.iteR)
    | (with_reducible apply Keeps.foldl)
    | intro _
    | split
    | dsimp only

theorem kp_selfAll {α : Type} {c : Nat} {s t : State} {l : List α} {f : State → α → Bool × State} (h : Keeps c s t)
    (hf : ∀ s x, KeepsP c s (f s x)) : KeepsP c s (State.selfAll l f t) := by
  unfold State.selfAll
  exact Keeps.foldlP h fun p x => hf p.2 x

theorem kp_selfBank (s : State) (b : Nat) (res : List LegacyResult) : KeepsP 9666562 s (State.selfBank s b res) := by
  unfold State.selfBank
  repeat' first
    | (with_reducible exact Keeps.refl)
    | (with_reducible apply Keeps.wr)
    | (apply Keeps.next; (with_reducible apply kp_tripCfgWrite); decide)
    | (apply Keeps.next; (with_reducible apply kp_lcheckStart); decide)
    | (apply Keeps.next; (with_reducible apply kp_lcheckStep); decide)
    | (apply Keeps.next; (with_reducible apply kp_lcheckEnd); decide)
    | (with_reducible apply Keeps.forEach)
    | (with_reducible apply Keeps.ite)
    | (with_reducible apply Keeps.iteP)
    | (with_reducible exact Keeps.reflP)
    | (simp only [Keeps.pair_eq])
    | (with_reducible apply Keeps.snd)
    | (apply Keeps.of_pair; assumption)
    | (with_reducible apply Keeps.foldlP)
    | (with_reducible apply Keeps.foldl)
    | intro _
    | split
    | dsimp only

theorem kp_selfBit {c : Nat} {s : State} {mask n : Nat} {f : State → Bool × State} {a : Nat × State} (h : KeepsP c s a)
    (hf : ∀ s, KeepsP c s (f s)) : KeepsP c s (State.selfBit mask n f a) := by
  unfold State.selfBit
  split
  · exact Keeps.trans h (hf a.2)
  · exact h

theorem kp_selfEngine (s : State) (e : Nat) (pass : Bool) : KeepsP 1417216 s (State.selfEngine s e pass) := by
  unfold State.selfEngine
  repeat' first
    | (with_reducible exact Keeps.refl)
    | (apply Keeps.next; (with_reducible apply kp_leTestDone); decide)
    | (apply Keeps.next; (with_reducible apply kp_leTest); decide)
    | (with_reducible apply Keeps.ite)
    | (with_reducible apply Keeps.iteP)
    | (with_reducible exact Keeps.reflP)
    | (simp only [Keeps.pair_eq])
    | (with_reducible apply Keeps.snd)
    | (apply Keeps.of_pair; assumption)
    | (with_reducible apply Keeps.foldlP)
    | (with_reducible apply Keeps.foldl)
    | intro _
    | split
    | dsimp only

theorem kp_selfLeg (s : State) (n : Nat) (pass : Nat) : KeepsP 3244032 s (State.selfLeg s n pass) := by
  unfold State.selfLeg
  repeat' first
    | (with_reducible exact Keeps.refl)
    | (apply Keeps.next; (with_reducible apply kp_testEnd); decide)
    | (apply Keeps.next; (with_reducible apply kp_testBegin); decide)
    | (with_reducible apply Keeps.ite)
    | (with_reducible apply Keeps.iteP)
    | (with_reducible exact Keeps.reflP)
    | (simp only [Keeps.pair_eq])
    | (with_reducible apply Keeps.snd)
    | (apply Keeps.of_pair; assumption)
    | (with_reducible apply Keeps.foldlP)
    | (with_reducible apply Keeps.foldl)
    | intro _
    | split
    | dsimp only

theorem kp_selfSar (s : State) (c : Nat) (m : Int × Int × Int) : KeepsP 5341184 s (State.selfSar s c m) := by
  unfold State.selfSar
  repeat' first
    | (with_reducible exact Keeps.refl)
    | (apply Keeps.next; (with_reducible apply kp_sarCheckDone); decide)
    | (apply Keeps.next; (with_reducible apply kp_checkBegin); decide)
    | (apply Keeps.next; (with_reducible apply kp_setSar); decide)
    | (with_reducible apply Keeps.when)
    | (with_reducible apply Keeps.ite)
    | (with_reducible apply Keeps.iteP)
    | (with_reducible exact Keeps.reflP)
    | (simp only [Keeps.pair_eq])
    | (with_reducible apply Keeps.snd)
    | (apply Keeps.of_pair; assumption)
    | (with_reducible apply Keeps.foldlP)
    | (with_reducible apply Keeps.foldl)
    | intro _
    | split
    | dsimp only

theorem kp_selftestOp (sar : List (Int × Int × Int)) (drv : List Nat) (cmp : List LegacyResult) (le : List Bool) (r : Request) (s : State) :
    KeepsR 16228354 s (State.selftestOp sar drv cmp le r s) := by
  have h0 : ∀ s x, KeepsP 16228354 s (State.selfSar s x (nth sar x (0, 0, 0))) := fun s x => Keeps.nextP (kp_selfSar ..) (by decide) Keeps.refl
  have h1 : ∀ s x, KeepsP 16228354 s (State.selfLeg s x (nth drv x 0)) := fun s x => Keeps.nextP (kp_selfLeg ..) (by decide) Keeps.refl
  have h2 : ∀ s x, KeepsP 16228354 s (State.selfBank s x cmp) := fun s x => Keeps.nextP (kp_selfBank ..) (by decide) Keeps.refl
  have h3 : ∀ s x, KeepsP 16228354 s (State.selfEngine s x (nth le x false)) := fun s x => Keeps.nextP (kp_selfEngine ..) (by decide) Keeps.refl
  unfold State.selftestOp
  generalize State.selfSar = F0 at *
  generalize State.selfLeg = F1 at *
  generalize State.selfBank = F2 at *
  generalize State.selfEngine = F3 at *
  dsimp only
  split
  · exact Keeps.reply Keeps.refl
  · refine Keeps.reply (Keeps.snd (kp_selfBit (kp_selfBit (kp_selfBit (kp_selfBit (Keeps.pair Keeps.refl) ?_) ?_) ?_) ?_))
    · exact fun s => kp_selfAll Keeps.refl h0
    · exact fun s => kp_selfAll Keeps.refl h1
    · exact fun s => Keeps.iteP (kp_selfAll Keeps.refl h2) (Keeps.pair Keeps.refl)
    · exact fun s => Keeps.iteP (Keeps.pair Keeps.refl) (kp_selfAll Keeps.refl h3)

theorem kp_softResetOp (r : Request) (s : State) : KeepsR 17179869182 s (State.softResetOp r s) := by
  unfold State.softResetOp
  repeat' first
    | (with_reducible exact Keeps.refl)
    | (with_reducible apply Keeps.reply)
    | (with_reducible apply Keeps.later)
    | (with_reducible apply Keeps.hold)
    | (apply Keeps.nextR; (with_reducible apply kp_OpRes_status); decide)
    | (apply Keeps.next; (with_reducible apply kp_sendReply); decide)
    | (apply Keeps.next; (with_reducible apply kp_softReset); decide)
    | (apply Keeps.next; (with_reducible apply kp_pumpAll); decide)
    | (apply Keeps.next; (with_reducible apply kp_answer); decide)
    | (with_reducible apply Keeps.ite)
    | (with_reducible apply Keeps.iteR)
    | (with_reducible apply Keeps.foldl)
    | intro _
    | split
    | dsimp only

theorem kp_timeGetOp (x0 : Request) (s : State) : KeepsR 0 s (State.timeGetOp x0 s) := by
  unfold State.timeGetOp
  repeat' first
    | (with_reducible exact Keeps.refl)
    | (with_reducible apply Keeps.reply)
    | (with_reducible apply Keeps.later)
    | (with_reducible apply Keeps.hold)
    | (with_reducible apply Keeps.ite)
    | (with_reducible apply Keeps.iteR)
    | (with_reducible apply Keeps.foldl)
    | intro _
    | split
    | dsimp only

theorem kp_timeSetOp (r : Request) (s : State) : KeepsR 1209110784 s (State.timeSetOp r s) := by
  unfold State.timeSetOp
  repeat' first
    | (with_reducible exact Keeps.refl)
    | (with_reducible apply Keeps.reply)
    | (with_reducible apply Keeps.later)
    | (with_reducible apply Keeps.hold)
    | (apply Keeps.nextR; (with_reducible apply kp_OpRes_status); decide)
    | (with_reducible apply kp_umbWrite; decide)
    | (apply Keeps.next; (with_reducible apply kp_timeSet); decide)
    | (with_reducible apply Keeps.ite)
    | (with_reducible apply Keeps.iteR)
    | (with_reducible apply Keeps.foldl)
    | intro _
    | split
    | dsimp only

theorem kp_tunnelOp (r : Request) (s : State) : KeepsR 537919488 s (State.tunnelOp r s) := by
  unfold State.tunnelOp
  repeat' first
    | (with_reducible exact Keeps.refl)
    | (with_reducible apply Keeps.atBuilt; refine Keeps.upd ?_)
    | (simp only [Keeps.built])
    | (with_reducible apply Keeps.reply)
    | (with_reducible apply Keeps.later)
    | (with_reducible apply Keeps.hold)
    | (apply Keeps.nextR; (with_reducible apply kp_OpRes_status); decide)
    | (apply Keeps.next; (with_reducible apply kp_tunnelSend); decide)
    | (with_reducible apply Keeps.ite)
    | (with_reducible apply Keeps.iteR)
    | (with_reducible apply Keeps.foldl)
    | intro _
    | split
    | dsimp only

theorem kp_execMeterRead (s : State) : KeepsN 538017792 s (execMeterRead s) := by
  unfold execMeterRead
  repeat' first
    | (with_reducible exact Keeps.refl)
    | (with_reducible apply Keeps.out)
    | (with_reducible apply kp_runOp; decide)
    | (apply Keeps.nextR; (with_reducible apply kp_meterReadOp); decide)
    | (with_reducible apply Keeps.ite)
    | (with_reducible apply Keeps.foldl)
    | intro _
    | split
    | dsimp only

theorem kp_execMeterSnapshot (s : State) : KeepsN 17179869182 s (execMeterSnapshot s) := by
  unfold execMeterSnapshot
  repeat' first
    | (with_reducible exact Keeps.refl)
    | (with_reducible apply Keeps.out)
    | (with_reducible apply kp_runOp; decide)
    | (apply Keeps.nextR; (with_reducible apply kp_meterSnapshotOp); decide)
    | (with_reducible apply Keeps.ite)
    | (with_reducible apply Keeps.foldl)
    | intro _
    | split
    | dsimp only

theorem kp_execMeterSnapRead (s : State) : KeepsN 538017792 s (execMeterSnapRead s) := by
  unfold execMeterSnapRead
  repeat' first
    | (with_reducible exact Keeps.refl)
    | (with_reducible apply Keeps.out)
    | (with_reducible apply kp_runOp; decide)
    | (apply Keeps.nextR; (with_reducible apply kp_meterSnapReadOp); decide)
    | (with_reducible apply Keeps.ite)
    | (with_reducible apply Keeps.foldl)
    | intro _
    | split
    | dsimp only

theorem kp_execMeterInterval (s : State) : KeepsN 538017792 s (execMeterInterval s) := by
  unfold execMeterInterval
  repeat' first
    | (with_reducible exact Keeps.refl)
    | (with_reducible apply Keeps.out)
    | (with_reducible apply kp_runOp; decide)
    | (apply Keeps.nextR; (with_reducible apply kp_meterIntervalOp); decide)
    | (with_reducible apply Keeps.ite)
    | (with_reducible apply Keeps.foldl)
    | intro _
    | split
    | dsimp only

theorem kp_execMeterInst (s : State) : KeepsN 538017792 s (execMeterInst s) := by
  unfold execMeterInst
  repeat' first
    | (with_reducible exact Keeps.refl)
    | (with_reducible apply Keeps.out)
    | (with_reducible apply kp_runOp; decide)
    | (apply Keeps.nextR; (with_reducible apply kp_meterInstOp); decide)
    | (with_reducible apply Keeps.ite)
    | (with_reducible apply Keeps.foldl)
    | intro _
    | split
    | dsimp only

theorem kp_execMeterCal (s : State) : KeepsN 17179869182 s (execMeterCal s) := by
  unfold execMeterCal
  repeat' first
    | (with_reducible exact Keeps.refl)
    | (with_reducible apply Keeps.out)
    | (with_reducible apply kp_runOp; decide)
    | (apply Keeps.nextR; (with_reducible apply kp_meterCalOp); decide)
    | (with_reducible apply Keeps.ite)
    | (with_reducible apply Keeps.foldl)
    | intro _
    | split
    | dsimp only

theorem kp_execMeterCalLock (s : State) : KeepsN 17179869182 s (execMeterCalLock s) := by
  unfold execMeterCalLock
  repeat' first
    | (with_reducible exact Keeps.refl)
    | (with_reducible apply Keeps.out)
    | (with_reducible apply kp_runOp; decide)
    | (apply Keeps.nextR; (with_reducible apply kp_meterCalLockOp); decide)
    | (with_reducible apply Keeps.ite)
    | (with_reducible apply Keeps.foldl)
    | intro _
    | split
    | dsimp only

theorem kp_execImageWrite (s : State) : KeepsN 5101420544 s (execImageWrite s) := by
  unfold execImageWrite
  repeat' first
    | (with_reducible exact Keeps.refl)
    | (with_reducible apply Keeps.out)
    | (with_reducible apply kp_runOp; decide)
    | (apply Keeps.nextR; (with_reducible apply kp_imageWriteOp); decide)
    | (with_reducible apply Keeps.ite)
    | (with_reducible apply Keeps.foldl)
    | intro _
    | split
    | dsimp only

theorem kp_execImageCommit (s : State) : KeepsN 5101420544 s (execImageCommit s) := by
  unfold execImageCommit
  repeat' first
    | (with_reducible exact Keeps.refl)
    | (with_reducible apply Keeps.out)
    | (with_reducible apply kp_runOp; decide)
    | (apply Keeps.nextR; (with_reducible apply kp_imageCommitOp); decide)
    | (with_reducible apply Keeps.ite)
    | (with_reducible apply Keeps.foldl)
    | intro _
    | split
    | dsimp only

theorem kp_execImageActivate (s : State) : KeepsN 806453248 s (execImageActivate s) := by
  unfold execImageActivate
  repeat' first
    | (with_reducible exact Keeps.refl)
    | (with_reducible apply Keeps.out)
    | (with_reducible apply kp_runOp; decide)
    | (apply Keeps.nextR; (with_reducible apply kp_imageActivateOp); decide)
    | (with_reducible apply Keeps.ite)
    | (with_reducible apply Keeps.foldl)
    | intro _
    | split
    | dsimp only

theorem kp_execAttest (s : State) : KeepsN 538017792 s (execAttest s) := by
  unfold execAttest
  repeat' first
    | (with_reducible exact Keeps.refl)
    | (with_reducible apply Keeps.out)
    | (with_reducible apply kp_runOp; decide)
    | (apply Keeps.nextR; (with_reducible apply kp_attestOp); decide)
    | (with_reducible apply Keeps.ite)
    | (with_reducible apply Keeps.foldl)
    | intro _
    | split
    | dsimp only

theorem kp_execCertRead (s : State) : KeepsN 538017792 s (execCertRead s) := by
  unfold execCertRead
  repeat' first
    | (with_reducible exact Keeps.refl)
    | (with_reducible apply Keeps.out)
    | (with_reducible apply kp_runOp; decide)
    | (apply Keeps.nextR; (with_reducible apply kp_readOp); decide)
    | (with_reducible apply Keeps.ite)
    | (with_reducible apply Keeps.foldl)
    | intro _
    | split
    | dsimp only

theorem kp_execLcToken (cut : Option Nat) (s : State) : KeepsN 5101420544 s (execLcToken cut s) := by
  unfold execLcToken
  repeat' first
    | (with_reducible exact Keeps.refl)
    | (with_reducible apply Keeps.out)
    | (with_reducible apply kp_runOp; decide)
    | (apply Keeps.nextR; (with_reducible apply kp_lcTokenOp); decide)
    | (with_reducible apply Keeps.ite)
    | (with_reducible apply Keeps.foldl)
    | intro _
    | split
    | dsimp only

theorem kp_execDebugToken (s : State) : KeepsN 4832985088 s (execDebugToken s) := by
  unfold execDebugToken
  repeat' first
    | (with_reducible exact Keeps.refl)
    | (with_reducible apply Keeps.out)
    | (with_reducible apply kp_runOp; decide)
    | (apply Keeps.nextR; (with_reducible apply kp_debugTokenOp); decide)
    | (with_reducible apply Keeps.ite)
    | (with_reducible apply Keeps.foldl)
    | intro _
    | split
    | dsimp only

theorem kp_execSelftest (sar : List (Int × Int × Int)) (drv : List Nat) (cmp : List LegacyResult) (le : List Bool) (s : State) : KeepsN 553099266 s (execSelftest sar drv cmp le s) := by
  unfold execSelftest
  repeat' first
    | (with_reducible exact Keeps.refl)
    | (with_reducible apply Keeps.out)
    | (with_reducible apply kp_runOp; decide)
    | (apply Keeps.nextR; (with_reducible apply kp_selftestOp); decide)
    | (with_reducible apply Keeps.ite)
    | (with_reducible apply Keeps.foldl)
    | intro _
    | split
    | dsimp only

theorem kp_execDrvClear (s : State) : KeepsN 17179869182 s (execDrvClear s) := by
  unfold execDrvClear
  repeat' first
    | (with_reducible exact Keeps.refl)
    | (with_reducible apply Keeps.out)
    | (with_reducible apply kp_runOp; decide)
    | (apply Keeps.nextR; (with_reducible apply kp_drvClearOp); decide)
    | (with_reducible apply Keeps.ite)
    | (with_reducible apply Keeps.foldl)
    | intro _
    | split
    | dsimp only

theorem kp_execFaultClear (s : State) : KeepsN 538542592 s (execFaultClear s) := by
  unfold execFaultClear
  repeat' first
    | (with_reducible exact Keeps.refl)
    | (with_reducible apply Keeps.out)
    | (with_reducible apply kp_runOp; decide)
    | (apply Keeps.nextR; (with_reducible apply kp_faultClearOp); decide)
    | (with_reducible apply Keeps.ite)
    | (with_reducible apply Keeps.foldl)
    | intro _
    | split
    | dsimp only

theorem kp_execRegRead (s : State) : KeepsN 538017792 s (execRegRead s) := by
  unfold execRegRead
  repeat' first
    | (with_reducible exact Keeps.refl)
    | (with_reducible apply Keeps.out)
    | (with_reducible apply kp_runOp; decide)
    | (apply Keeps.nextR; (with_reducible apply kp_regReadOp); decide)
    | (with_reducible apply Keeps.ite)
    | (with_reducible apply Keeps.foldl)
    | intro _
    | split
    | dsimp only

theorem kp_execRegWrite (s : State) : KeepsN 17179869182 s (execRegWrite s) := by
  unfold execRegWrite
  repeat' first
    | (with_reducible exact Keeps.refl)
    | (with_reducible apply Keeps.out)
    | (with_reducible apply kp_runOp; decide)
    | (apply Keeps.nextR; (with_reducible apply kp_regWriteOp); decide)
    | (with_reducible apply Keeps.ite)
    | (with_reducible apply Keeps.foldl)
    | intro _
    | split
    | dsimp only

theorem kp_execLinkStatus (s : State) : KeepsN 538017792 s (execLinkStatus s) := by
  unfold execLinkStatus
  repeat' first
    | (with_reducible exact Keeps.refl)
    | (with_reducible apply Keeps.out)
    | (with_reducible apply kp_runOp; decide)
    | (apply Keeps.nextR; (with_reducible apply kp_linkStatusOp); decide)
    | (with_reducible apply Keeps.ite)
    | (with_reducible apply Keeps.foldl)
    | intro _
    | split
    | dsimp only

theorem kp_execLinkTest (s : State) : KeepsN 17179869182 s (execLinkTest s) := by
  unfold execLinkTest
  repeat' first
    | (with_reducible exact Keeps.refl)
    | (with_reducible apply Keeps.out)
    | (with_reducible apply kp_runOp; decide)
    | (apply Keeps.nextR; (with_reducible apply kp_linkTestOp); decide)
    | (with_reducible apply Keeps.ite)
    | (with_reducible apply Keeps.foldl)
    | intro _
    | split
    | dsimp only

theorem kp_execLinkRetrain (s : State) : KeepsN 17179869182 s (execLinkRetrain s) := by
  unfold execLinkRetrain
  repeat' first
    | (with_reducible exact Keeps.refl)
    | (with_reducible apply Keeps.out)
    | (with_reducible apply kp_runOp; decide)
    | (apply Keeps.nextR; (with_reducible apply kp_linkRetrainOp); decide)
    | (with_reducible apply Keeps.ite)
    | (with_reducible apply Keeps.foldl)
    | intro _
    | split
    | dsimp only

theorem kp_execTunnel (s : State) : KeepsN 538017792 s (execTunnel s) := by
  unfold execTunnel
  repeat' first
    | (with_reducible exact Keeps.refl)
    | (with_reducible apply Keeps.out)
    | (with_reducible apply kp_runOp; decide)
    | (apply Keeps.nextR; (with_reducible apply kp_tunnelOp); decide)
    | (with_reducible apply Keeps.ite)
    | (with_reducible apply Keeps.foldl)
    | intro _
    | split
    | dsimp only

theorem kp_execLogRead (s : State) : KeepsN 538017792 s (execLogRead s) := by
  unfold execLogRead
  repeat' first
    | (with_reducible exact Keeps.refl)
    | (with_reducible apply Keeps.out)
    | (with_reducible apply kp_runOp; decide)
    | (apply Keeps.nextR; (with_reducible apply kp_logReadOp); decide)
    | (with_reducible apply Keeps.ite)
    | (with_reducible apply Keeps.foldl)
    | intro _
    | split
    | dsimp only

theorem kp_execLogInfo (s : State) : KeepsN 538017792 s (execLogInfo s) := by
  unfold execLogInfo
  repeat' first
    | (with_reducible exact Keeps.refl)
    | (with_reducible apply Keeps.out)
    | (with_reducible apply kp_runOp; decide)
    | (apply Keeps.nextR; (with_reducible apply kp_logInfoOp); decide)
    | (with_reducible apply Keeps.ite)
    | (with_reducible apply Keeps.foldl)
    | intro _
    | split
    | dsimp only

theorem kp_execTimeSet (s : State) : KeepsN 1745981696 s (execTimeSet s) := by
  unfold execTimeSet
  repeat' first
    | (with_reducible exact Keeps.refl)
    | (with_reducible apply Keeps.out)
    | (with_reducible apply kp_runOp; decide)
    | (apply Keeps.nextR; (with_reducible apply kp_timeSetOp); decide)
    | (with_reducible apply Keeps.ite)
    | (with_reducible apply Keeps.foldl)
    | intro _
    | split
    | dsimp only

theorem kp_execTimeGet (s : State) : KeepsN 538017792 s (execTimeGet s) := by
  unfold execTimeGet
  repeat' first
    | (with_reducible exact Keeps.refl)
    | (with_reducible apply Keeps.out)
    | (with_reducible apply kp_runOp; decide)
    | (apply Keeps.nextR; (with_reducible apply kp_timeGetOp); decide)
    | (with_reducible apply Keeps.ite)
    | (with_reducible apply Keeps.foldl)
    | intro _
    | split
    | dsimp only

theorem kp_execNotifyCfg (s : State) : KeepsN 538017792 s (execNotifyCfg s) := by
  unfold execNotifyCfg
  repeat' first
    | (with_reducible exact Keeps.refl)
    | (with_reducible apply Keeps.out)
    | (with_reducible apply kp_runOp; decide)
    | (apply Keeps.nextR; (with_reducible apply kp_notifyCfgOp); decide)
    | (with_reducible apply Keeps.ite)
    | (with_reducible apply Keeps.foldl)
    | intro _
    | split
    | dsimp only

theorem kp_execInject (s : State) : KeepsN 17179869182 s (execInject s) := by
  unfold execInject
  repeat' first
    | (with_reducible exact Keeps.refl)
    | (with_reducible apply Keeps.out)
    | (with_reducible apply kp_runOp; decide)
    | (apply Keeps.nextR; (with_reducible apply kp_injectOp); decide)
    | (with_reducible apply Keeps.ite)
    | (with_reducible apply Keeps.foldl)
    | intro _
    | split
    | dsimp only

theorem kp_execCaptureCfg (s : State) : KeepsN 17179869182 s (execCaptureCfg s) := by
  unfold execCaptureCfg
  repeat' first
    | (with_reducible exact Keeps.refl)
    | (with_reducible apply Keeps.out)
    | (with_reducible apply kp_runOp; decide)
    | (apply Keeps.nextR; (with_reducible apply kp_captureCfgOp); decide)
    | (with_reducible apply Keeps.ite)
    | (with_reducible apply Keeps.foldl)
    | intro _
    | split
    | dsimp only

theorem kp_execCaptureRead (s : State) : KeepsN 538017792 s (execCaptureRead s) := by
  unfold execCaptureRead
  repeat' first
    | (with_reducible exact Keeps.refl)
    | (with_reducible apply Keeps.out)
    | (with_reducible apply kp_runOp; decide)
    | (apply Keeps.nextR; (with_reducible apply kp_captureReadOp); decide)
    | (with_reducible apply Keeps.ite)
    | (with_reducible apply Keeps.foldl)
    | intro _
    | split
    | dsimp only

theorem kp_execLeMode (s : State) : KeepsN 17179869182 s (execLeMode s) := by
  unfold execLeMode
  repeat' first
    | (with_reducible exact Keeps.refl)
    | (with_reducible apply Keeps.out)
    | (with_reducible apply kp_runOp; decide)
    | (apply Keeps.nextR; (with_reducible apply kp_leModeOp); decide)
    | (with_reducible apply Keeps.ite)
    | (with_reducible apply Keeps.foldl)
    | intro _
    | split
    | dsimp only

theorem kp_execPowerState (s : State) : KeepsN 9648583172 s (execPowerState s) := by
  unfold execPowerState
  repeat' first
    | (with_reducible exact Keeps.refl)
    | (with_reducible apply Keeps.out)
    | (with_reducible apply kp_runOp; decide)
    | (apply Keeps.nextR; (with_reducible apply kp_powerStateOp); decide)
    | (with_reducible apply Keeps.ite)
    | (with_reducible apply Keeps.foldl)
    | intro _
    | split
    | dsimp only

theorem kp_execPowerStatus (s : State) : KeepsN 538017792 s (execPowerStatus s) := by
  unfold execPowerStatus
  repeat' first
    | (with_reducible exact Keeps.refl)
    | (with_reducible apply Keeps.out)
    | (with_reducible apply kp_runOp; decide)
    | (apply Keeps.nextR; (with_reducible apply kp_powerStatusOp); decide)
    | (with_reducible apply Keeps.ite)
    | (with_reducible apply Keeps.foldl)
    | intro _
    | split
    | dsimp only

theorem kp_execSoftReset (s : State) : KeepsN 17179869182 s (execSoftReset s) := by
  unfold execSoftReset
  repeat' first
    | (with_reducible exact Keeps.refl)
    | (with_reducible apply Keeps.out)
    | (with_reducible apply kp_runOp; decide)
    | (apply Keeps.nextR; (with_reducible apply kp_softResetOp); decide)
    | (with_reducible apply Keeps.ite)
    | (with_reducible apply Keeps.foldl)
    | intro _
    | split
    | dsimp only

theorem kp_execLinkTestEnd (s : State) : KeepsN 17179869182 s (execLinkTestEnd s) := by
  unfold execLinkTestEnd
  repeat' first
    | (with_reducible exact Keeps.refl)
    | (with_reducible apply Keeps.out)
    | (apply Keeps.next; (with_reducible apply kp_linkTestEnd); decide)
    | (with_reducible apply Keeps.ite)
    | (with_reducible apply Keeps.foldl)
    | intro _
    | split
    | dsimp only

end Sys2Proof.Machine
end

