-- ==== Sys2Proof/Laws/KeepsExec.lean ====
section
/-! SUPPORT. Laws/KeepsExec.lean: what every command keeps. -/

set_option Elab.async false

namespace Sys2Proof.Machine

/-- Every command keeps the canonical form of the state and, when it answers a next state, leaves the queue as it was. -/
theorem kp_exec (i : Instr) (s : State) : KeepsN 17179869182 s (exec i s) := by
  cases i with
  | registerWrite _ _ _ _ => exact Keeps.nextN (kp_execRegisterWrite _ _ _ _ _) (by decide) Keeps.refl
  | sharedSramWrite _ _ _ => exact Keeps.nextN (kp_execSharedSramWrite _ _ _ _) (by decide) Keeps.refl
  | mbxDataWrite _ _ _ => exact Keeps.nextN (kp_execMbxDataWrite _ _ _ _) (by decide) Keeps.refl
  | mbxSubmit _ _ _ => exact Keeps.nextN (kp_execMbxSubmit _ _ _ _) (by decide) Keeps.refl
  | mbxApply _ => exact Keeps.nextN (kp_execMbxApply _ _) (by decide) Keeps.refl
  | mbxParityError => exact Keeps.nextN (kp_execMbxParityError _) (by decide) Keeps.refl
  | dataPortSubmit _ _ _ => exact Keeps.nextN (kp_execDataPortSubmit _ _ _ _) (by decide) Keeps.refl
  | loadCopyComplete _ => exact Keeps.nextN (kp_execLoadCopyComplete _ _) (by decide) Keeps.refl
  | tapRecordDeliver _ => exact Keeps.nextN (kp_execTapRecordDeliver _ _) (by decide) Keeps.refl
  | digestComplete _ => exact Keeps.nextN (kp_execDigestComplete _ _) (by decide) Keeps.refl
  | digRptrWrite _ _ => exact Keeps.nextN (kp_execDigRptrWrite _ _ _) (by decide) Keeps.refl
  | clrDrops _ => exact Keeps.nextN (kp_execClrDrops _ _) (by decide) Keeps.refl
  | evfRouteWrite _ _ _ => exact Keeps.nextN (kp_execEvfRouteWrite _ _ _ _) (by decide) Keeps.refl
  | evfPendClear _ _ _ _ => exact Keeps.nextN (kp_execEvfPendClear _ _ _ _ _) (by decide) Keeps.refl
  | clrCoal _ => exact Keeps.nextN (kp_execClrCoal _ _) (by decide) Keeps.refl
  | slinkPacketReceive _ _ => exact Keeps.nextN (kp_execSlinkPacketReceive _ _ _) (by decide) Keeps.refl
  | slinkLaneRemove _ => exact Keeps.nextN (kp_execSlinkLaneRemove _ _) (by decide) Keeps.refl
  | slinkTrainDone _ => exact Keeps.nextN (kp_execSlinkTrainDone _ _) (by decide) Keeps.refl
  | drivePathTimeout _ _ _ => exact Keeps.nextN (kp_execDrivePathTimeout _ _ _ _) (by decide) Keeps.refl
  | isoRefreshTimeout _ _ => exact Keeps.nextN (kp_execIsoRefreshTimeout _ _ _) (by decide) Keeps.refl
  | frameBoundary => exact Keeps.nextN (kp_execFrameBoundary _) (by decide) Keeps.refl
  | orbTrackerSample _ _ => exact Keeps.nextN (kp_execOrbTrackerSample _ _ _) (by decide) Keeps.refl
  | orbVoltagePresent => exact Keeps.nextN (kp_execOrbVoltagePresent _) (by decide) Keeps.refl
  | orbVoltageAbsent => exact Keeps.nextN (kp_execOrbVoltageAbsent _) (by decide) Keeps.refl
  | orbLockAchieved => exact Keeps.nextN (kp_execOrbLockAchieved _) (by decide) Keeps.refl
  | orbLockLost => exact Keeps.nextN (kp_execOrbLockLost _) (by decide) Keeps.refl
  | orbFlywheelLimit => exact Keeps.nextN (kp_execOrbFlywheelLimit _) (by decide) Keeps.refl
  | orbTrackDisable _ => exact Keeps.nextN (kp_execOrbTrackDisable _ _) (by decide) Keeps.refl
  | orbFollowEnter => exact Keeps.nextN (kp_execOrbFollowEnter _) (by decide) Keeps.refl
  | orbGroupLoss => exact Keeps.nextN (kp_execOrbGroupLoss _) (by decide) Keeps.refl
  | orbConfigWrite _ _ _ => exact Keeps.nextN (kp_execOrbConfigWrite _ _ _ _) (by decide) Keeps.refl
  | orbConfigApply => exact Keeps.nextN (kp_execOrbConfigApply _) (by decide) Keeps.refl
  | orbPeriodCompute => exact Keeps.nextN (kp_execOrbPeriodCompute _) (by decide) Keeps.refl
  | orbSlotIssue _ _ _ => exact Keeps.nextN (kp_execOrbSlotIssue _ _ _ _) (by decide) Keeps.refl
  | orbSlotInactWrite _ _ _ => exact Keeps.nextN (kp_execOrbSlotInactWrite _ _ _ _) (by decide) Keeps.refl
  | orbBankSwap _ _ => exact Keeps.nextN (kp_execOrbBankSwap _ _ _) (by decide) Keeps.refl
  | orbBankSwitch => exact Keeps.nextN (kp_execOrbBankSwitch _) (by decide) Keeps.refl
  | clrOvr _ => exact Keeps.nextN (kp_execClrOvr _ _) (by decide) Keeps.refl
  | clrStale _ => exact Keeps.nextN (kp_execClrStale _ _) (by decide) Keeps.refl
  | cpMismatch _ => exact Keeps.nextN (kp_execCpMismatch _ _) (by decide) Keeps.refl
  | cpTcmDed _ => exact Keeps.nextN (kp_execCpTcmDed _ _) (by decide) Keeps.refl
  | cpComparatorTest _ _ => exact Keeps.nextN (kp_execCpComparatorTest _ _ _) (by decide) Keeps.refl
  | cpDelayParity _ => exact Keeps.nextN (kp_execCpDelayParity _ _) (by decide) Keeps.refl
  | cpAgreeFix _ _ _ => exact Keeps.nextN (kp_execCpAgreeFix _ _ _ _) (by decide) Keeps.refl
  | cpAgreeFault _ => exact Keeps.nextN (kp_execCpAgreeFault _ _) (by decide) Keeps.refl
  | debugHalt _ _ => exact Keeps.nextN (kp_execDebugHalt _ _ _) (by decide) Keeps.refl
  | debugResume _ _ => exact Keeps.nextN (kp_execDebugResume _ _ _) (by decide) Keeps.refl
  | debugStep _ _ => exact Keeps.nextN (kp_execDebugStep _ _ _) (by decide) Keeps.refl
  | debugAbstractCmd _ _ => exact Keeps.nextN (kp_execDebugAbstractCmd _ _ _) (by decide) Keeps.refl
  | debugProgbuf _ _ => exact Keeps.nextN (kp_execDebugProgbuf _ _ _) (by decide) Keeps.refl
  | debugReplay _ => exact Keeps.nextN (kp_execDebugReplay _ _) (by decide) Keeps.refl
  | sweepCapture _ _ _ => exact Keeps.nextN (kp_execSweepCapture _ _ _ _) (by decide) Keeps.refl
  | sweepForced _ _ _ => exact Keeps.nextN (kp_execSweepForced _ _ _ _) (by decide) Keeps.refl
  | standbyWriteSuppress _ _ _ => exact Keeps.nextN (kp_execStandbyWriteSuppress _ _ _ _) (by decide) Keeps.refl
  | mirrorWriteThrough _ _ _ => exact Keeps.nextN (kp_execMirrorWriteThrough _ _ _ _) (by decide) Keeps.refl
  | cpTakeover => exact Keeps.nextN (kp_execCpTakeover _) (by decide) Keeps.refl
  | cpTakeoverInterrupt _ => exact Keeps.nextN (kp_execCpTakeoverInterrupt _ _) (by decide) Keeps.refl
  | cpFatalDelay => exact Keeps.nextN (kp_execCpFatalDelay _) (by decide) Keeps.refl
  | orderlySafeState => exact Keeps.nextN (kp_execOrderlySafeState _) (by decide) Keeps.refl
  | cpEnable _ _ => exact Keeps.nextN (kp_execCpEnable _ _ _) (by decide) Keeps.refl
  | cpDisable _ _ => exact Keeps.nextN (kp_execCpDisable _ _ _) (by decide) Keeps.refl
  | cpSelftestDone _ _ => exact Keeps.nextN (kp_execCpSelftestDone _ _ _) (by decide) Keeps.refl
  | cpActivate _ => exact Keeps.nextN (kp_execCpActivate _ _) (by decide) Keeps.refl
  | cpSyncCopyDone _ => exact Keeps.nextN (kp_execCpSyncCopyDone _ _) (by decide) Keeps.refl
  | cpStandbyEnter _ => exact Keeps.nextN (kp_execCpStandbyEnter _ _) (by decide) Keeps.refl
  | cpCmdTakeover _ => exact Keeps.nextN (kp_execCpCmdTakeover _ _) (by decide) Keeps.refl
  | rejoinCmd _ _ => exact Keeps.nextN (kp_execRejoinCmd _ _ _) (by decide) Keeps.refl
  | cpMirrorWrite _ _ _ => exact Keeps.nextN (kp_execCpMirrorWrite _ _ _ _) (by decide) Keeps.refl
  | clrFence _ => exact Keeps.nextN (kp_execClrFence _ _) (by decide) Keeps.refl
  | clrSuppress _ => exact Keeps.nextN (kp_execClrSuppress _ _) (by decide) Keeps.refl
  | clrEcc _ => exact Keeps.nextN (kp_execClrEcc _ _) (by decide) Keeps.refl
  | leJobStart _ => exact Keeps.nextN (kp_execLeJobStart _ _) (by decide) Keeps.refl
  | leJobEnd _ => exact Keeps.nextN (kp_execLeJobEnd _ _) (by decide) Keeps.refl
  | lePhaseWrite _ _ => exact Keeps.nextN (kp_execLePhaseWrite _ _ _) (by decide) Keeps.refl
  | leMissedWrite _ => exact Keeps.nextN (kp_execLeMissedWrite _ _) (by decide) Keeps.refl
  | leOverrunFault _ => exact Keeps.nextN (kp_execLeOverrunFault _ _) (by decide) Keeps.refl
  | leFault _ _ => exact Keeps.nextN (kp_execLeFault _ _ _) (by decide) Keeps.refl
  | leCoverFailover _ => exact Keeps.nextN (kp_execLeCoverFailover _ _) (by decide) Keeps.refl
  | leCmdSwap _ _ => exact Keeps.nextN (kp_execLeCmdSwap _ _ _) (by decide) Keeps.refl
  | leBankSwitch _ => exact Keeps.nextN (kp_execLeBankSwitch _ _) (by decide) Keeps.refl
  | leEnable _ _ => exact Keeps.nextN (kp_execLeEnable _ _ _) (by decide) Keeps.refl
  | leDisable _ _ => exact Keeps.nextN (kp_execLeDisable _ _ _) (by decide) Keeps.refl
  | leSelftestDone _ _ => exact Keeps.nextN (kp_execLeSelftestDone _ _ _) (by decide) Keeps.refl
  | leSelftestCmd _ _ => exact Keeps.nextN (kp_execLeSelftestCmd _ _ _) (by decide) Keeps.refl
  | leReturnCmd _ _ => exact Keeps.nextN (kp_execLeReturnCmd _ _ _) (by decide) Keeps.refl
  | leReturnApply _ => exact Keeps.nextN (kp_execLeReturnApply _ _) (by decide) Keeps.refl
  | leInjArm _ _ _ _ _ => exact Keeps.nextN (kp_execLeInjArm _ _ _ _ _ _) (by decide) Keeps.refl
  | leInjEnd _ _ => exact Keeps.nextN (kp_execLeInjEnd _ _ _) (by decide) Keeps.refl
  | captureBurstArm _ => exact Keeps.nextN (kp_execCaptureBurstArm _ _) (by decide) Keeps.refl
  | captureBurstSample _ _ => exact Keeps.nextN (kp_execCaptureBurstSample _ _ _) (by decide) Keeps.refl
  | leCntClr _ _ _ => exact Keeps.nextN (kp_execLeCntClr _ _ _ _) (by decide) Keeps.refl
  | leImgInactWrite _ _ _ _ => exact Keeps.nextN (kp_execLeImgInactWrite _ _ _ _ _) (by decide) Keeps.refl
  | pwmCommit _ _ => exact Keeps.nextN (kp_execPwmCommit _ _ _) (by decide) Keeps.refl
  | pwmShadowWrite _ _ _ _ => exact Keeps.nextN (kp_execPwmShadowWrite _ _ _ _ _) (by decide) Keeps.refl
  | cutoffFreeze _ _ => exact Keeps.nextN (kp_execCutoffFreeze _ _ _) (by decide) Keeps.refl
  | commitPoint _ => exact Keeps.nextN (kp_execCommitPoint _ _) (by decide) Keeps.refl
  | clEnable _ _ _ => exact Keeps.nextN (kp_execClEnable _ _ _ _) (by decide) Keeps.refl
  | clSoftReset _ _ => exact Keeps.nextN (kp_execClSoftReset _ _ _) (by decide) Keeps.refl
  | clPeriodWrite _ _ _ => exact Keeps.nextN (kp_execClPeriodWrite _ _ _ _) (by decide) Keeps.refl
  | pwmValley _ => exact Keeps.nextN (kp_execPwmValley _ _) (by decide) Keeps.refl
  | pwmInterlock _ => exact Keeps.nextN (kp_execPwmInterlock _ _) (by decide) Keeps.refl
  | pwmEscRelease _ _ => exact Keeps.nextN (kp_execPwmEscRelease _ _ _) (by decide) Keeps.refl
  | tripActivate _ _ _ => exact Keeps.nextN (kp_execTripActivate _ _ _ _) (by decide) Keeps.refl
  | tripBlankEnd _ => exact Keeps.nextN (kp_execTripBlankEnd _ _) (by decide) Keeps.refl
  | tripLatchClear _ _ => exact Keeps.nextN (kp_execTripLatchClear _ _ _) (by decide) Keeps.refl
  | pwmForceWrite _ _ _ _ => exact Keeps.nextN (kp_execPwmForceWrite _ _ _ _ _) (by decide) Keeps.refl
  | pwmSafeEnter _ => exact Keeps.nextN (kp_execPwmSafeEnter _ _) (by decide) Keeps.refl
  | pwmSafeCmdEnter _ => exact Keeps.nextN (kp_execPwmSafeCmdEnter _ _) (by decide) Keeps.refl
  | pwmSafeClear _ => exact Keeps.nextN (kp_execPwmSafeClear _ _) (by decide) Keeps.refl
  | pwmClkLoss => exact Keeps.nextN (kp_execPwmClkLoss _) (by decide) Keeps.refl
  | pwmCalDone _ => exact Keeps.nextN (kp_execPwmCalDone _ _) (by decide) Keeps.refl
  | pwmClrShort _ => exact Keeps.nextN (kp_execPwmClrShort _ _) (by decide) Keeps.refl
  | pwmClrXlock _ => exact Keeps.nextN (kp_execPwmClrXlock _ _) (by decide) Keeps.refl
  | pwmClrLate _ => exact Keeps.nextN (kp_execPwmClrLate _ _) (by decide) Keeps.refl
  | drvLegUse _ _ => exact Keeps.nextN (kp_execDrvLegUse _ _ _) (by decide) Keeps.refl
  | drvLegUnuse _ _ _ _ => exact Keeps.nextN (kp_execDrvLegUnuse _ _ _ _ _) (by decide) Keeps.refl
  | drvInitDone _ => exact Keeps.nextN (kp_execDrvInitDone _ _) (by decide) Keeps.refl
  | drvTestDone _ _ => exact Keeps.nextN (kp_execDrvTestDone _ _ _) (by decide) Keeps.refl
  | drvTestStart _ _ => exact Keeps.nextN (kp_execDrvTestStart _ _ _) (by decide) Keeps.refl
  | drvArm _ _ => exact Keeps.nextN (kp_execDrvArm _ _ _) (by decide) Keeps.refl
  | drvArmEngage _ => exact Keeps.nextN (kp_execDrvArmEngage _ _) (by decide) Keeps.refl
  | drvDisarm _ _ => exact Keeps.nextN (kp_execDrvDisarm _ _ _) (by decide) Keeps.refl
  | drvDsatOc _ _ _ => exact Keeps.nextN (kp_execDrvDsatOc _ _ _ _) (by decide) Keeps.refl
  | drvLegFault _ _ => exact Keeps.nextN (kp_execDrvLegFault _ _ _) (by decide) Keeps.refl
  | drvSoftoffEnd _ => exact Keeps.nextN (kp_execDrvSoftoffEnd _ _) (by decide) Keeps.refl
  | drvRetryWaitEnd _ => exact Keeps.nextN (kp_execDrvRetryWaitEnd _ _) (by decide) Keeps.refl
  | drvTriesReset _ => exact Keeps.nextN (kp_execDrvTriesReset _ _) (by decide) Keeps.refl
  | drvCmdClear _ _ => exact Keeps.nextN (kp_execDrvCmdClear _ _ _) (by decide) Keeps.refl
  | drvEnableCut _ => exact Keeps.nextN (kp_execDrvEnableCut _ _) (by decide) Keeps.refl
  | drvEnableReturn _ => exact Keeps.nextN (kp_execDrvEnableReturn _ _) (by decide) Keeps.refl
  | drvDieInterlock _ => exact Keeps.nextN (kp_execDrvDieInterlock _ _) (by decide) Keeps.refl
  | drvBsWarn _ => exact Keeps.nextN (kp_execDrvBsWarn _ _) (by decide) Keeps.refl
  | drvBsUv _ => exact Keeps.nextN (kp_execDrvBsUv _ _) (by decide) Keeps.refl
  | drvBsOk _ _ _ => exact Keeps.nextN (kp_execDrvBsOk _ _ _ _) (by decide) Keeps.refl
  | drvTransitionMeasure _ _ _ _ _ => exact Keeps.nextN (kp_execDrvTransitionMeasure _ _ _ _ _ _) (by decide) Keeps.refl
  | drvStatusFrame _ _ => exact Keeps.nextN (kp_execDrvStatusFrame _ _ _) (by decide) Keeps.refl
  | drvShortCmd _ => exact Keeps.nextN (kp_execDrvShortCmd _ _) (by decide) Keeps.refl
  | drvOtWarn _ _ _ => exact Keeps.nextN (kp_execDrvOtWarn _ _ _ _) (by decide) Keeps.refl
  | drvClrCrc _ => exact Keeps.nextN (kp_execDrvClrCrc _ _) (by decide) Keeps.refl
  | drvClrXlock _ => exact Keeps.nextN (kp_execDrvClrXlock _ _) (by decide) Keeps.refl
  | sarConversionEnd _ _ => exact Keeps.nextN (kp_execSarConversionEnd _ _ _) (by decide) Keeps.refl
  | sarResultArrive _ _ => exact Keeps.nextN (kp_execSarResultArrive _ _ _) (by decide) Keeps.refl
  | sarInjTrigger _ _ => exact Keeps.nextN (kp_execSarInjTrigger _ _ _) (by decide) Keeps.refl
  | swtrig _ _ => exact Keeps.nextN (kp_execSwtrig _ _ _) (by decide) Keeps.refl
  | sarFifoPop _ _ => exact Keeps.nextN (kp_execSarFifoPop _ _ _) (by decide) Keeps.refl
  | sarCancelArrive _ _ => exact Keeps.nextN (kp_execSarCancelArrive _ _ _) (by decide) Keeps.refl
  | sarEnable _ _ => exact Keeps.nextN (kp_execSarEnable _ _ _) (by decide) Keeps.refl
  | sarDisable _ _ => exact Keeps.nextN (kp_execSarDisable _ _ _) (by decide) Keeps.refl
  | sarInitDone _ _ => exact Keeps.nextN (kp_execSarInitDone _ _ _) (by decide) Keeps.refl
  | sarCheckCmd _ _ => exact Keeps.nextN (kp_execSarCheckCmd _ _ _) (by decide) Keeps.refl
  | sarCheckDone _ _ _ _ => exact Keeps.nextN (kp_execSarCheckDone _ _ _ _ _) (by decide) Keeps.refl
  | sarRefFault _ => exact Keeps.nextN (kp_execSarRefFault _ _) (by decide) Keeps.refl
  | sarSoftReset _ _ => exact Keeps.nextN (kp_execSarSoftReset _ _ _) (by decide) Keeps.refl
  | sarPacketGap _ _ => exact Keeps.nextN (kp_execSarPacketGap _ _ _) (by decide) Keeps.refl
  | sarConfigWrite _ _ _ _ _ => exact Keeps.nextN (kp_execSarConfigWrite _ _ _ _ _ _) (by decide) Keeps.refl
  | sarConfigCommit _ => exact Keeps.nextN (kp_execSarConfigCommit _ _) (by decide) Keeps.refl
  | snsClrCrc _ => exact Keeps.nextN (kp_execSnsClrCrc _ _) (by decide) Keeps.refl
  | snsClrSar _ => exact Keeps.nextN (kp_execSnsClrSar _ _) (by decide) Keeps.refl
  | meterSampleSet _ _ => exact Keeps.nextN (kp_execMeterSampleSet _ _ _) (by decide) Keeps.refl
  | cmpOutputChange _ _ _ _ => exact Keeps.nextN (kp_execCmpOutputChange _ _ _ _ _) (by decide) Keeps.refl
  | cmpBankTick _ _ => exact Keeps.nextN (kp_execCmpBankTick _ _ _) (by decide) Keeps.refl
  | cmpWindowEnable _ _ => exact Keeps.nextN (kp_execCmpWindowEnable _ _ _) (by decide) Keeps.refl
  | cmpWindowDisable _ _ => exact Keeps.nextN (kp_execCmpWindowDisable _ _ _) (by decide) Keeps.refl
  | cmpWindowArm _ _ => exact Keeps.nextN (kp_execCmpWindowArm _ _ _) (by decide) Keeps.refl
  | cmpConfigWrite _ _ _ _ _ => exact Keeps.nextN (kp_execCmpConfigWrite _ _ _ _ _ _) (by decide) Keeps.refl
  | cmpConfigCommit _ => exact Keeps.nextN (kp_execCmpConfigCommit _ _) (by decide) Keeps.refl
  | cmpDacHoldEnd _ => exact Keeps.nextN (kp_execCmpDacHoldEnd _ _) (by decide) Keeps.refl
  | cmpBlankEnd _ => exact Keeps.nextN (kp_execCmpBlankEnd _ _) (by decide) Keeps.refl
  | cmpLcheck _ _ => exact Keeps.nextN (kp_execCmpLcheck _ _ _) (by decide) Keeps.refl
  | cmpLcheckStepEnd _ _ _ => exact Keeps.nextN (kp_execCmpLcheckStepEnd _ _ _ _) (by decide) Keeps.refl
  | cmpLcheckEnd _ => exact Keeps.nextN (kp_execCmpLcheckEnd _ _) (by decide) Keeps.refl
  | cmpBankSoftReset _ _ => exact Keeps.nextN (kp_execCmpBankSoftReset _ _ _) (by decide) Keeps.refl
  | gsRtEnter _ => exact Keeps.nextN (kp_execGsRtEnter _ _) (by decide) Keeps.refl
  | gsExitHold => exact Keeps.nextN (kp_execGsExitHold _) (by decide) Keeps.refl
  | gsCurveViolation => exact Keeps.nextN (kp_execGsCurveViolation _) (by decide) Keeps.refl
  | gsZvTimeout => exact Keeps.nextN (kp_execGsZvTimeout _) (by decide) Keeps.refl
  | gsReferenceWrite => exact Keeps.nextN (kp_execGsReferenceWrite _) (by decide) Keeps.refl
  | gsEnable _ => exact Keeps.nextN (kp_execGsEnable _ _) (by decide) Keeps.refl
  | gsDisable _ => exact Keeps.nextN (kp_execGsDisable _ _) (by decide) Keeps.refl
  | gsProfileSwitch => exact Keeps.nextN (kp_execGsProfileSwitch _) (by decide) Keeps.refl
  | eePassiveTrip _ => exact Keeps.nextN (kp_execEePassiveTrip _ _) (by decide) Keeps.refl
  | eeSegmentEnd => exact Keeps.nextN (kp_execEeSegmentEnd _) (by decide) Keeps.refl
  | eeClear _ => exact Keeps.nextN (kp_execEeClear _ _) (by decide) Keeps.refl
  | eeRebase _ => exact Keeps.nextN (kp_execEeRebase _ _) (by decide) Keeps.refl
  | peStep => exact Keeps.nextN (kp_execPeStep _) (by decide) Keeps.refl
  | peNosamp _ => exact Keeps.nextN (kp_execPeNosamp _ _) (by decide) Keeps.refl
  | peCurtailEnter => exact Keeps.nextN (kp_execPeCurtailEnter _) (by decide) Keeps.refl
  | peCurtailLeave => exact Keeps.nextN (kp_execPeCurtailLeave _) (by decide) Keeps.refl
  | peShade _ => exact Keeps.nextN (kp_execPeShade _ _) (by decide) Keeps.refl
  | peSweepSchedule _ => exact Keeps.nextN (kp_execPeSweepSchedule _ _) (by decide) Keeps.refl
  | peSweepCmd _ _ => exact Keeps.nextN (kp_execPeSweepCmd _ _ _) (by decide) Keeps.refl
  | peVocEnd => exact Keeps.nextN (kp_execPeVocEnd _) (by decide) Keeps.refl
  | peSweepPoint => exact Keeps.nextN (kp_execPeSweepPoint _) (by decide) Keeps.refl
  | peSweepSearch => exact Keeps.nextN (kp_execPeSweepSearch _) (by decide) Keeps.refl
  | pePairBlocked _ => exact Keeps.nextN (kp_execPePairBlocked _ _) (by decide) Keeps.refl
  | pePairUnblocked _ => exact Keeps.nextN (kp_execPePairUnblocked _ _) (by decide) Keeps.refl
  | peChannelEnable _ _ => exact Keeps.nextN (kp_execPeChannelEnable _ _ _) (by decide) Keeps.refl
  | peChannelDisable _ _ => exact Keeps.nextN (kp_execPeChannelDisable _ _ _) (by decide) Keeps.refl
  | peProfileSwitch => exact Keeps.nextN (kp_execPeProfileSwitch _) (by decide) Keeps.refl
  | meGranuleClose => exact Keeps.nextN (kp_execMeGranuleClose _) (by decide) Keeps.refl
  | meGranuleLost => exact Keeps.nextN (kp_execMeGranuleLost _) (by decide) Keeps.refl
  | meIntervalBoundary => exact Keeps.nextN (kp_execMeIntervalBoundary _) (by decide) Keeps.refl
  | meCkptPeriod => exact Keeps.nextN (kp_execMeCkptPeriod _) (by decide) Keeps.refl
  | meCkptStore => exact Keeps.nextN (kp_execMeCkptStore _) (by decide) Keeps.refl
  | meSnap _ => exact Keeps.nextN (kp_execMeSnap _ _) (by decide) Keeps.refl
  | meSnapAck _ => exact Keeps.nextN (kp_execMeSnapAck _ _) (by decide) Keeps.refl
  | meCkpt _ => exact Keeps.nextN (kp_execMeCkpt _ _) (by decide) Keeps.refl
  | meCkptAck _ => exact Keeps.nextN (kp_execMeCkptAck _ _) (by decide) Keeps.refl
  | meIvalClose _ => exact Keeps.nextN (kp_execMeIvalClose _ _) (by decide) Keeps.refl
  | meRestore _ => exact Keeps.nextN (kp_execMeRestore _ _) (by decide) Keeps.refl
  | meClrCounts _ => exact Keeps.nextN (kp_execMeClrCounts _ _) (by decide) Keeps.refl
  | meEnable _ => exact Keeps.nextN (kp_execMeEnable _ _) (by decide) Keeps.refl
  | meDisable _ => exact Keeps.nextN (kp_execMeDisable _ _) (by decide) Keeps.refl
  | meCalWrite _ _ _ => exact Keeps.nextN (kp_execMeCalWrite _ _ _ _) (by decide) Keeps.refl
  | meCalLock _ => exact Keeps.nextN (kp_execMeCalLock _ _) (by decide) Keeps.refl
  | meCalRestore => exact Keeps.nextN (kp_execMeCalRestore _) (by decide) Keeps.refl
  | linkEnable _ _ => exact Keeps.nextN (kp_execLinkEnable _ _ _) (by decide) Keeps.refl
  | linkDisable _ _ => exact Keeps.nextN (kp_execLinkDisable _ _ _) (by decide) Keeps.refl
  | laneTsReceived _ _ => exact Keeps.nextN (kp_execLaneTsReceived _ _ _) (by decide) Keeps.refl
  | laneConfigDone _ => exact Keeps.nextN (kp_execLaneConfigDone _ _) (by decide) Keeps.refl
  | linkTrainTimeout _ => exact Keeps.nextN (kp_execLinkTrainTimeout _ _) (by decide) Keeps.refl
  | laneLatencyMeasured _ _ => exact Keeps.nextN (kp_execLaneLatencyMeasured _ _ _) (by decide) Keeps.refl
  | linkUp _ => exact Keeps.nextN (kp_execLinkUp _ _) (by decide) Keeps.refl
  | linkBndReceive _ _ _ _ => exact Keeps.nextN (kp_execLinkBndReceive _ _ _ _ _) (by decide) Keeps.refl
  | dfeWindowEnd _ _ _ _ _ _ => exact Keeps.nextN (kp_execDfeWindowEnd _ _ _ _ _ _ _) (by decide) Keeps.refl
  | laneFomSample _ _ => exact Keeps.nextN (kp_execLaneFomSample _ _ _) (by decide) Keeps.refl
  | laneIdleEnter _ _ => exact Keeps.nextN (kp_execLaneIdleEnter _ _ _) (by decide) Keeps.refl
  | laneIdleExit _ => exact Keeps.nextN (kp_execLaneIdleExit _ _) (by decide) Keeps.refl
  | laneLatencyRemeasure _ _ => exact Keeps.nextN (kp_execLaneLatencyRemeasure _ _ _) (by decide) Keeps.refl
  | cometPacketReceive _ _ => exact Keeps.nextN (kp_execCometPacketReceive _ _ _) (by decide) Keeps.refl
  | markerReceive _ _ _ => exact Keeps.nextN (kp_execMarkerReceive _ _ _ _) (by decide) Keeps.refl
  | eeBroadcastReceive _ _ => exact Keeps.nextN (kp_execEeBroadcastReceive _ _ _) (by decide) Keeps.refl
  | sampleReceive _ _ => exact Keeps.nextN (kp_execSampleReceive _ _ _) (by decide) Keeps.refl
  | statusReceive _ _ => exact Keeps.nextN (kp_execStatusReceive _ _ _) (by decide) Keeps.refl
  | safetyPduReceive _ _ _ _ => exact Keeps.nextN (kp_execSafetyPduReceive _ _ _ _ _) (by decide) Keeps.refl
  | shareReceive _ _ => exact Keeps.nextN (kp_execShareReceive _ _ _) (by decide) Keeps.refl
  | tunnelReceive _ _ _ _ => exact Keeps.nextN (kp_execTunnelReceive _ _ _ _ _) (by decide) Keeps.refl
  | cometPacketStart _ _ => exact Keeps.nextN (kp_execCometPacketStart _ _ _) (by decide) Keeps.refl
  | cometLaneSend _ => exact Keeps.nextN (kp_execCometLaneSend _ _) (by decide) Keeps.refl
  | safeTxQueue _ _ => exact Keeps.nextN (kp_execSafeTxQueue _ _ _) (by decide) Keeps.refl
  | linkShedEvaluate _ => exact Keeps.nextN (kp_execLinkShedEvaluate _ _) (by decide) Keeps.refl
  | laneLoss _ _ _ => exact Keeps.nextN (kp_execLaneLoss _ _ _ _) (by decide) Keeps.refl
  | lstatReceive _ _ _ _ _ => exact Keeps.nextN (kp_execLstatReceive _ _ _ _ _ _) (by decide) Keeps.refl
  | laneRemove _ => exact Keeps.nextN (kp_execLaneRemove _ _) (by decide) Keeps.refl
  | laneReadyMark _ _ => exact Keeps.nextN (kp_execLaneReadyMark _ _ _) (by decide) Keeps.refl
  | laneReinstate _ => exact Keeps.nextN (kp_execLaneReinstate _ _) (by decide) Keeps.refl
  | cometRetrain _ _ => exact Keeps.nextN (kp_execCometRetrain _ _ _) (by decide) Keeps.refl
  | cometRemeasure _ _ => exact Keeps.nextN (kp_execCometRemeasure _ _ _) (by decide) Keeps.refl
  | cometClrStats _ => exact Keeps.nextN (kp_execCometClrStats _ _) (by decide) Keeps.refl
  | laneTestEnter _ _ _ _ _ => exact Keeps.nextN (kp_execLaneTestEnter _ _ _ _ _ _) (by decide) Keeps.refl
  | laneTestExit _ _ => exact Keeps.nextN (kp_execLaneTestExit _ _ _) (by decide) Keeps.refl
  | lanePatternError _ _ => exact Keeps.nextN (kp_execLanePatternError _ _ _) (by decide) Keeps.refl
  | xmonFrame _ _ => exact Keeps.nextN (kp_execXmonFrame _ _ _) (by decide) Keeps.refl
  | xmonTimeout _ => exact Keeps.nextN (kp_execXmonTimeout _ _) (by decide) Keeps.refl
  | xmonDiscrepancy => exact Keeps.nextN (kp_execXmonDiscrepancy _) (by decide) Keeps.refl
  | safeSf1Demand _ _ => exact Keeps.nextN (kp_execSafeSf1Demand _ _ _) (by decide) Keeps.refl
  | sinSample _ _ => exact Keeps.nextN (kp_execSinSample _ _ _) (by decide) Keeps.refl
  | safeSf2Demand _ => exact Keeps.nextN (kp_execSafeSf2Demand _ _) (by decide) Keeps.refl
  | safeSf2Release _ => exact Keeps.nextN (kp_execSafeSf2Release _ _) (by decide) Keeps.refl
  | safeSf4Apply _ => exact Keeps.nextN (kp_execSafeSf4Apply _ _) (by decide) Keeps.refl
  | safeSf4Release => exact Keeps.nextN (kp_execSafeSf4Release _) (by decide) Keeps.refl
  | tpoPulse _ _ _ _ _ => exact Keeps.nextN (kp_execTpoPulse _ _ _ _ _ _) (by decide) Keeps.refl
  | commKeyPress _ _ => exact Keeps.nextN (kp_execCommKeyPress _ _ _) (by decide) Keeps.refl
  | confirmWindowExpire => exact Keeps.nextN (kp_execConfirmWindowExpire _) (by decide) Keeps.refl
  | safeConnectRequest => exact Keeps.nextN (kp_execSafeConnectRequest _) (by decide) Keeps.refl
  | safePreEnergiseStep _ _ => exact Keeps.nextN (kp_execSafePreEnergiseStep _ _ _) (by decide) Keeps.refl
  | safeContactCheck _ _ _ => exact Keeps.nextN (kp_execSafeContactCheck _ _ _ _) (by decide) Keeps.refl
  | safeDisconnectRequest => exact Keeps.nextN (kp_execSafeDisconnectRequest _) (by decide) Keeps.refl
  | relayOffPulse _ => exact Keeps.nextN (kp_execRelayOffPulse _ _) (by decide) Keeps.refl
  | relayOffPulseEnd _ _ _ => exact Keeps.nextN (kp_execRelayOffPulseEnd _ _ _ _) (by decide) Keeps.refl
  | relayReadbackFault _ _ => exact Keeps.nextN (kp_execRelayReadbackFault _ _ _) (by decide) Keeps.refl
  | reconnectTimerExpire => exact Keeps.nextN (kp_execReconnectTimerExpire _) (by decide) Keeps.refl
  | hslGridWindowTrip _ _ => exact Keeps.nextN (kp_execHslGridWindowTrip _ _ _) (by decide) Keeps.refl
  | hslAnalogWindowTrip _ _ => exact Keeps.nextN (kp_execHslAnalogWindowTrip _ _ _) (by decide) Keeps.refl
  | hslWindowsArm => exact Keeps.nextN (kp_execHslWindowsArm _) (by decide) Keeps.refl
  | pduSend _ _ _ => exact Keeps.nextN (kp_execPduSend _ _ _ _) (by decide) Keeps.refl
  | pduWatchdogExpire _ => exact Keeps.nextN (kp_execPduWatchdogExpire _ _) (by decide) Keeps.refl
  | safeSelfCheckFail => exact Keeps.nextN (kp_execSafeSelfCheckFail _) (by decide) Keeps.refl
  | spiWriteTransfer _ => exact Keeps.nextN (kp_execSpiWriteTransfer _ _) (by decide) Keeps.refl
  | spiReadTransfer _ => exact Keeps.nextN (kp_execSpiReadTransfer _ _) (by decide) Keeps.refl
  | serviceUartByte _ => exact Keeps.nextN (kp_execServiceUartByte _ _) (by decide) Keeps.refl
  | serviceGapAbort => exact Keeps.nextN (kp_execServiceGapAbort _) (by decide) Keeps.refl
  | tppSessionTimeout _ => exact Keeps.nextN (kp_execTppSessionTimeout _ _) (by decide) Keeps.refl
  | recordStagingTimeout _ => exact Keeps.nextN (kp_execRecordStagingTimeout _ _) (by decide) Keeps.refl
  | hello => exact Keeps.nextN (kp_execHello _) (by decide) Keeps.refl
  | bye => exact Keeps.nextN (kp_execBye _) (by decide) Keeps.refl
  | keyOffer => exact Keeps.nextN (kp_execKeyOffer _) (by decide) Keeps.refl
  | keyProof => exact Keeps.nextN (kp_execKeyProof _) (by decide) Keeps.refl
  | keyCipher => exact Keeps.nextN (kp_execKeyCipher _) (by decide) Keeps.refl
  | keyOwner => exact Keeps.nextN (kp_execKeyOwner _) (by decide) Keeps.refl
  | bdrWrite => exact Keeps.nextN (kp_execBdrWrite _) (by decide) Keeps.refl
  | bdrCommit => exact Keeps.nextN (kp_execBdrCommit _) (by decide) Keeps.refl
  | bdrRead => exact Keeps.nextN (kp_execBdrRead _) (by decide) Keeps.refl
  | gprWrite => exact Keeps.nextN (kp_execGprWrite _) (by decide) Keeps.refl
  | gprCommit => exact Keeps.nextN (kp_execGprCommit _) (by decide) Keeps.refl
  | gprRead => exact Keeps.nextN (kp_execGprRead _) (by decide) Keeps.refl
  | connect => exact Keeps.nextN (kp_execConnect _) (by decide) Keeps.refl
  | disconnect => exact Keeps.nextN (kp_execDisconnect _) (by decide) Keeps.refl
  | syncWindowMet => exact Keeps.nextN (kp_execSyncWindowMet _) (by decide) Keeps.refl
  | syncTimeout => exact Keeps.nextN (kp_execSyncTimeout _) (by decide) Keeps.refl
  | disconnectGsStop => exact Keeps.nextN (kp_execDisconnectGsStop _) (by decide) Keeps.refl
  | disconnectPwmSafe => exact Keeps.nextN (kp_execDisconnectPwmSafe _) (by decide) Keeps.refl
  | setP => exact Keeps.nextN (kp_execSetP _) (by decide) Keeps.refl
  | setQ => exact Keeps.nextN (kp_execSetQ _) (by decide) Keeps.refl
  | curtail => exact Keeps.nextN (kp_execCurtail _) (by decide) Keeps.refl
  | mode => exact Keeps.nextN (kp_execMode _) (by decide) Keeps.refl
  | status => exact Keeps.nextN (kp_execStatus _) (by decide) Keeps.refl
  | setpoint => exact Keeps.nextN (kp_execSetpoint _) (by decide) Keeps.refl
  | meterRead => exact Keeps.nextN (kp_execMeterRead _) (by decide) Keeps.refl
  | meterSnapshot => exact Keeps.nextN (kp_execMeterSnapshot _) (by decide) Keeps.refl
  | meterSnapRead => exact Keeps.nextN (kp_execMeterSnapRead _) (by decide) Keeps.refl
  | meterInterval => exact Keeps.nextN (kp_execMeterInterval _) (by decide) Keeps.refl
  | meterInst => exact Keeps.nextN (kp_execMeterInst _) (by decide) Keeps.refl
  | meterCal => exact Keeps.nextN (kp_execMeterCal _) (by decide) Keeps.refl
  | meterCalLock => exact Keeps.nextN (kp_execMeterCalLock _) (by decide) Keeps.refl
  | sprWrite => exact Keeps.nextN (kp_execSprWrite _) (by decide) Keeps.refl
  | sprCommit => exact Keeps.nextN (kp_execSprCommit _) (by decide) Keeps.refl
  | sprConfirm => exact Keeps.nextN (kp_execSprConfirm _) (by decide) Keeps.refl
  | safetyReset => exact Keeps.nextN (kp_execSafetyReset _) (by decide) Keeps.refl
  | safetyStatus => exact Keeps.nextN (kp_execSafetyStatus _) (by decide) Keeps.refl
  | pduPut => exact Keeps.nextN (kp_execPduPut _) (by decide) Keeps.refl
  | pduGet => exact Keeps.nextN (kp_execPduGet _) (by decide) Keeps.refl
  | imageWrite => exact Keeps.nextN (kp_execImageWrite _) (by decide) Keeps.refl
  | imageCommit => exact Keeps.nextN (kp_execImageCommit _) (by decide) Keeps.refl
  | imageActivate => exact Keeps.nextN (kp_execImageActivate _) (by decide) Keeps.refl
  | attest => exact Keeps.nextN (kp_execAttest _) (by decide) Keeps.refl
  | certRead => exact Keeps.nextN (kp_execCertRead _) (by decide) Keeps.refl
  | lcToken _ => exact Keeps.nextN (kp_execLcToken _ _) (by decide) Keeps.refl
  | debugToken => exact Keeps.nextN (kp_execDebugToken _) (by decide) Keeps.refl
  | tokenStagingTimeout => exact Keeps.nextN (kp_execTokenStagingTimeout _) (by decide) Keeps.refl
  | selftest _ _ _ _ => exact Keeps.nextN (kp_execSelftest _ _ _ _ _) (by decide) Keeps.refl
  | drvClear => exact Keeps.nextN (kp_execDrvClear _) (by decide) Keeps.refl
  | faultClear => exact Keeps.nextN (kp_execFaultClear _) (by decide) Keeps.refl
  | regRead => exact Keeps.nextN (kp_execRegRead _) (by decide) Keeps.refl
  | regWrite => exact Keeps.nextN (kp_execRegWrite _) (by decide) Keeps.refl
  | linkStatus => exact Keeps.nextN (kp_execLinkStatus _) (by decide) Keeps.refl
  | linkTest => exact Keeps.nextN (kp_execLinkTest _) (by decide) Keeps.refl
  | linkRetrain => exact Keeps.nextN (kp_execLinkRetrain _) (by decide) Keeps.refl
  | tunnel => exact Keeps.nextN (kp_execTunnel _) (by decide) Keeps.refl
  | logRead => exact Keeps.nextN (kp_execLogRead _) (by decide) Keeps.refl
  | logInfo => exact Keeps.nextN (kp_execLogInfo _) (by decide) Keeps.refl
  | timeSet => exact Keeps.nextN (kp_execTimeSet _) (by decide) Keeps.refl
  | timeGet => exact Keeps.nextN (kp_execTimeGet _) (by decide) Keeps.refl
  | notifyCfg => exact Keeps.nextN (kp_execNotifyCfg _) (by decide) Keeps.refl
  | inject => exact Keeps.nextN (kp_execInject _) (by decide) Keeps.refl
  | captureCfg => exact Keeps.nextN (kp_execCaptureCfg _) (by decide) Keeps.refl
  | captureRead => exact Keeps.nextN (kp_execCaptureRead _) (by decide) Keeps.refl
  | leMode => exact Keeps.nextN (kp_execLeMode _) (by decide) Keeps.refl
  | powerState => exact Keeps.nextN (kp_execPowerState _) (by decide) Keeps.refl
  | powerStatus => exact Keeps.nextN (kp_execPowerStatus _) (by decide) Keeps.refl
  | softReset => exact Keeps.nextN (kp_execSoftReset _) (by decide) Keeps.refl
  | bootRomRun _ _ => exact Keeps.nextN (kp_execBootRomRun _ _ _) (by decide) Keeps.refl
  | bootComplete => exact Keeps.nextN (kp_execBootComplete _) (by decide) Keeps.refl
  | imageTrialPromote _ _ => exact Keeps.nextN (kp_execImageTrialPromote _ _ _) (by decide) Keeps.refl
  | trngHealthFail => exact Keeps.nextN (kp_execTrngHealthFail _) (by decide) Keeps.refl
  | cvuByte _ _ => exact Keeps.nextN (kp_execCvuByte _ _ _) (by decide) Keeps.refl
  | cvuMessageClose _ => exact Keeps.nextN (kp_execCvuMessageClose _ _) (by decide) Keeps.refl
  | cvuStart _ _ => exact Keeps.nextN (kp_execCvuStart _ _ _) (by decide) Keeps.refl
  | cvuEnd _ _ => exact Keeps.nextN (kp_execCvuEnd _ _ _) (by decide) Keeps.refl
  | cvuClr _ _ => exact Keeps.nextN (kp_execCvuClr _ _ _) (by decide) Keeps.refl
  | cvuPause _ _ _ => exact Keeps.nextN (kp_execCvuPause _ _ _ _) (by decide) Keeps.refl
  | cvuRunWrite _ _ _ _ => exact Keeps.nextN (kp_execCvuRunWrite _ _ _ _ _) (by decide) Keeps.refl
  | umbColdStart _ => exact Keeps.nextN (kp_execUmbColdStart _ _) (by decide) Keeps.refl
  | umbRecoveryEnd _ _ _ _ _ => exact Keeps.nextN (kp_execUmbRecoveryEnd _ _ _ _ _ _) (by decide) Keeps.refl
  | umbVddRise => exact Keeps.nextN (kp_execUmbVddRise _) (by decide) Keeps.refl
  | umbVddFall => exact Keeps.nextN (kp_execUmbVddFall _) (by decide) Keeps.refl
  | umbDead _ => exact Keeps.nextN (kp_execUmbDead _ _) (by decide) Keeps.refl
  | umbRefresh _ _ _ => exact Keeps.nextN (kp_execUmbRefresh _ _ _ _) (by decide) Keeps.refl
  | umbInputSample _ _ => exact Keeps.nextN (kp_execUmbInputSample _ _ _) (by decide) Keeps.refl
  | umbTimeSetWrite _ _ => exact Keeps.nextN (kp_execUmbTimeSetWrite _ _ _) (by decide) Keeps.refl
  | umbLogPut _ => exact Keeps.nextN (kp_execUmbLogPut _ _) (by decide) Keeps.refl
  | umbOscTrim => exact Keeps.nextN (kp_execUmbOscTrim _) (by decide) Keeps.refl
  | umbCapMeasured _ => exact Keeps.nextN (kp_execUmbCapMeasured _ _) (by decide) Keeps.refl
  | refLoss => exact Keeps.nextN (kp_execRefLoss _) (by decide) Keeps.refl
  | pllLock _ => exact Keeps.nextN (kp_execPllLock _ _) (by decide) Keeps.refl
  | pllUnlock _ => exact Keeps.nextN (kp_execPllUnlock _ _) (by decide) Keeps.refl
  | clkCalStart _ _ _ => exact Keeps.nextN (kp_execClkCalStart _ _ _ _) (by decide) Keeps.refl
  | rampRun _ => exact Keeps.nextN (kp_execRampRun _ _) (by decide) Keeps.refl
  | rampStop _ => exact Keeps.nextN (kp_execRampStop _ _) (by decide) Keeps.refl
  | rampSegmentEnd => exact Keeps.nextN (kp_execRampSegmentEnd _) (by decide) Keeps.refl
  | supWarn _ _ => exact Keeps.nextN (kp_execSupWarn _ _ _) (by decide) Keeps.refl
  | supHoldExpire => exact Keeps.nextN (kp_execSupHoldExpire _) (by decide) Keeps.refl
  | supRecover _ _ _ => exact Keeps.nextN (kp_execSupRecover _ _ _ _) (by decide) Keeps.refl
  | vddioLoss => exact Keeps.nextN (kp_execVddioLoss _) (by decide) Keeps.refl
  | porst _ => exact Keeps.nextN (kp_execPorst _ _) (by decide) Keeps.refl
  | pinrst => exact Keeps.nextN (kp_execPinrst _) (by decide) Keeps.refl
  | wdrst => exact Keeps.nextN (kp_execWdrst _) (by decide) Keeps.refl
  | wdtKick _ _ => exact Keeps.nextN (kp_execWdtKick _ _ _) (by decide) Keeps.refl
  | fatalrst => exact Keeps.nextN (kp_execFatalrst _) (by decide) Keeps.refl
  | softrst _ _ => exact Keeps.nextN (kp_execSoftrst _ _ _) (by decide) Keeps.refl
  | pwrTransitionDone => exact Keeps.nextN (kp_execPwrTransitionDone _) (by decide) Keeps.refl
  | wakeSource _ => exact Keeps.nextN (kp_execWakeSource _ _) (by decide) Keeps.refl
  | indicatorSlot => exact Keeps.nextN (kp_execIndicatorSlot _) (by decide) Keeps.refl
  | vddioRecover => exact Keeps.nextN (kp_execVddioRecover _) (by decide) Keeps.refl
  | referenceReturn => exact Keeps.nextN (kp_execReferenceReturn _) (by decide) Keeps.refl
  | laneProbeReceive _ _ _ => exact Keeps.nextN (kp_execLaneProbeReceive _ _ _ _) (by decide) Keeps.refl
  | linkTestEnd => exact Keeps.nextN (kp_execLinkTestEnd _) (by decide) Keeps.refl
  | tunnelTimeout => exact Keeps.nextN (kp_execTunnelTimeout _) (by decide) Keeps.refl

end Sys2Proof.Machine
end

