-- ==== Sys2Proof/Tests/Slice0.lean ====
section
/-! SUPPORT. Tests/Slice0.lean: the smoke tests of `wellFormed`, worked examples of the manual, and, for each statement with
hypotheses, concrete states and operands that meet the hypotheses of each of its clauses. -/

set_option Elab.async false

namespace Sys2Proof.Tests

open Sys2Proof Sys2Proof.Machine

/-- A request of the host at version 2.3 with SEQ 7. -/
def mkReq (op : Nat) (pl : List Nat) : Request :=
  let b := leBytes 1 0xA5 ++ leBytes 1 0x23 ++ leBytes 2 op ++ leBytes 2 7 ++ leBytes 2 pl.length ++ pl.map (BitVec.ofNat 8)
  ⟨.host, b ++ leBytes 4 (crc crc32c b), false⟩
/-- The state with a request alone at the head of the queue, in the first state but `BOOT` that accepts its opcode. -/
def headsOn (r : Request) (s : State) : State :=
  let st := ((opRow? r.opcode).map (·.states)).getD [s.oper]
  { s with oper := if st.contains s.oper && s.oper != .boot then s.oper else (st.filter (· != .boot)).headD .standby,
           tpp := { s.tpp with queue := [r], host := { s.tpp.host with ver := 0x23 }, tunnelWait := [], linkTest := none } }
set_option maxRecDepth 100000
theorem shaped {s : State} (h : [s.pwm.pairs.length, s.pwm.clusters.length, s.pwm.lines.length, s.drv.legs.length, s.sense.sars.length,
    s.cmp.wins.length, s.cmp.banks.length, s.pe.chans.length, s.cmt.links.length, s.cmt.lanes.length, s.cvu.alive.length,
    s.tpp.tunnels.length, s.sec.loaded.length, s.nv.trial.length] = [24, 3, 16, 6, 8, 16, 2, 6, 4, 4, 6, 8, 4, 4]) : s.Shaped := by
  simp only [List.cons.injEq, and_true] at h
  obtain ⟨h1, h2, h3, h4, h5, h6, h7, h8, h9, h10, h11, h12, h13, h14⟩ := h
  exact ⟨h1, h2, h3, h4, h5, h6, h7, h8, h9, h10, h11, h12, h13, h14⟩
def withCrc (bs : List Byte) : List Byte := bs ++ leBytes 4 (crc crc32c bs)
/-- A BDR with an empty master section, one with a register entry that no write changes, a GPR with its profile, and a SPR. -/
def bdr0 : List Byte := withCrc (bytesOf [0x14244, 40, 0, 2, 0x40001, 0, 0, 1, 0x10002])
def bdr1 : List Byte := withCrc (bytesOf [0x14244, 52, 0, 2, 0x40001, 0, 0, 1, 0x40002, 0x40000008, 1, 1])
def gprRec : List Byte :=
  withCrc (bytesOf ([0x14752, 568, 0, 2, 0x810010] ++ List.replicate 128 7 ++ [0x80012, 0, 1, 2, 3, 100, 0, 0]))
def sprRec : List Byte :=
  let a := [0x1015350, 7, 0x23, 0xA0A] ++ List.replicate 43 0
  let a := a ++ [crc State.crcSafety (bytesOf (a.drop 32))] ++ List.replicate 15 0
  bytesOf (a ++ [crc State.crcSafety (bytesOf a)])
/-- The request that commits a record, and the state in which it is at the head with the record staged by the host. -/
def commit (op : Nat) (bs : List Byte) : Request :=
  mkReq op ((leBytes 4 bs.length ++ leBytes 4 (crc crc32c bs)).map (·.toNat) ++ [1, 0, 0, 0])
def staged (k : RecordKind) (r : Request) (bs : List Byte) (s : State) : State := headsOn r (s.setStage k ⟨some .host, bs, []⟩)
def isWaits : State.BdrRun → Bool | .waits _ => true | _ => false
def isFailed : State.BdrRun → Bool | .failed _ _ => true | _ => false
def isApplied : State.BdrRun → Bool | .applied _ => true | _ => false
def isGood : RecParse State → Bool | .good _ => true | _ => false
theorem waits {x : State.BdrRun} (h : isWaits x = true) : ∃ w, x = .waits w := by cases x <;> first | exact ⟨_, rfl⟩ | cases h
theorem failed {x : State.BdrRun} (h : isFailed x = true) : ∃ e w, x = .failed e w := by cases x <;> first | exact ⟨_, _, rfl⟩ | cases h
theorem applied {x : State.BdrRun} (h : isApplied x = true) : ∃ w, x = .applied w := by cases x <;> first | exact ⟨_, rfl⟩ | cases h
theorem good {x : RecParse State} (h : isGood x = true) : ∃ w, x = .good w := by cases x <;> first | exact ⟨_, rfl⟩ | cases h
/-- An OWNER request for key 3, and a host session that has reached it with key 3 enrolled. -/
def ownerReq : Request := mkReq 0x0105 (3 :: List.replicate 3312 0)
def ownerBase : State :=
  let s := State.reset
  let s := { s with tpp := { s.tpp with host := { s.tpp.host with handshake := .ciphered } } }
  let o := { s.nv.otp with ownerValid := 15, ownerRevoked := 0, ownerHash := List.replicate 4 (Config.shake256 [1, 2] 32) }
  { s with nv := { s.nv with ownerKeys := [[], [], [], [1, 2]], otp := o } }
def ownerState : State := headsOn ownerReq ownerBase

/-! ### An ill-formed term for each check, and the boundary values that pass -/

theorem test_ill_formed_0 :
    ([.registerWrite .mc 4294967296 0 4294967295, .registerWrite .mc 4294967295 0 4294967296,
     .sharedSramWrite .mc 0xFFFFFFFF [1, 2], .mbxDataWrite .mc 64 4294967295, .mbxDataWrite .mc 63 4294967296,
     .mbxSubmit .mc 17 0, .dataPortSubmit 64 4294967295 0, .dataPortSubmit 63 4294967296 0, .tapRecordDeliver 16,
     .digRptrWrite .mc 4294967296, .evfRouteWrite .mc 192 4294967295, .evfRouteWrite .mc 191 4294967296,
     .evfPendClear .mc 6 5 4294967295, .evfPendClear .mc 5 6 4294967295, .evfPendClear .mc 5 5 4294967296,
     .slinkPacketReceive 4 true, .slinkLaneRemove 4, .slinkTrainDone 16, .drivePathTimeout 6 511 511,
     .drivePathTimeout 5 512 511, .drivePathTimeout 5 511 512, .isoRefreshTimeout 6 true, .orbSlotIssue 256 0 true,
     .orbSlotInactWrite .mc 1024 4294967295, .orbSlotInactWrite .mc 1023 4294967296, .cpAgreeFix .a 0 4294967296,
     .standbyWriteSuppress .a 4294967296 4294967295, .standbyWriteSuppress .a 4294967295 4294967296,
     .mirrorWriteThrough .a 0x3FFFF [1, 2], .cpMirrorWrite .mc 4294967296 4294967295, .cpMirrorWrite .mc 4294967295 4294967296,
     .leJobStart 256, .leJobEnd 2, .lePhaseWrite 2 255, .lePhaseWrite 1 256, .leMissedWrite 2, .leOverrunFault 2,
     .leFault 2 .parity, .leCoverFailover 2, .leCmdSwap .mc 2, .leBankSwitch 2, .leEnable .mc 2, .leDisable .mc 2,
     .leSelftestDone 2 true, .leSelftestCmd .mc 2, .leReturnCmd .mc 2, .leReturnApply 2, .leInjArm .mc 2 3 true 65535,
     .leInjArm .mc 1 4 true 65535, .leInjArm .mc 1 3 true 65536] : List Instr).all (fun i => !wellFormed i) = true := by decide +kernel
theorem test_ill_formed_1 :
    ([.leInjEnd 2 3, .leInjEnd 1 4, .captureBurstArm 256, .captureBurstSample 2 15, .captureBurstSample 1 16, .leCntClr .mc 2 15,
     .leCntClr .mc 1 16, .leImgInactWrite .mc 2 2047 4294967295, .leImgInactWrite .mc 1 2048 4294967295,
     .leImgInactWrite .mc 1 2047 4294967296, .pwmCommit (.engine 0) 8, .pwmShadowWrite .mc 24 .cmpA 4294967295,
     .pwmShadowWrite .mc 23 .cmpA 4294967296, .cutoffFreeze 3 true, .commitPoint 3, .clEnable .mc 3 true, .clSoftReset .mc 3,
     .clPeriodWrite .mc 3 4294967295, .clPeriodWrite .mc 2 4294967296, .pwmValley 3, .pwmInterlock 24,
     .pwmEscRelease .mc 16777216, .tripActivate 16 true true, .tripBlankEnd 16, .tripLatchClear .mc 65536,
     .pwmForceWrite .mc 24 3 3, .pwmForceWrite .mc 23 4 3, .pwmForceWrite .mc 23 3 4, .drvLegUse .mc 6,
     .drvLegUnuse .mc 6 511 511, .drvLegUnuse .mc 5 512 511, .drvLegUnuse .mc 5 511 512, .drvInitDone 6, .drvTestDone 6 511,
     .drvTestDone 5 512, .drvTestStart .mc 6, .drvArm .mc 6, .drvArmEngage 6, .drvDisarm .mc 6, .drvDsatOc 6 2 true,
     .drvDsatOc 5 3 true, .drvLegFault 6 10, .drvLegFault 5 2, .drvLegFault 5 11, .drvSoftoffEnd 6, .drvRetryWaitEnd 6,
     .drvTriesReset 6, .drvCmdClear .mc 6, .drvEnableCut 6, .drvEnableReturn 6] : List Instr).all (fun i => !wellFormed i) = true := by decide +kernel
theorem test_ill_formed_2 :
    ([.drvDieInterlock 6, .drvBsWarn 6, .drvBsUv 6, .drvBsOk 6 true true, .drvTransitionMeasure 6 true .ghOn true 0,
     .drvStatusFrame 6 none, .drvShortCmd 6, .drvOtWarn 6 true 0, .sarConversionEnd 8 0, .sarResultArrive 8 true,
     .sarInjTrigger 8 (.op 0), .swtrig .mc 256, .sarFifoPop .mc 8, .sarCancelArrive 8 255, .sarCancelArrive 7 256,
     .sarEnable .mc 8, .sarDisable .mc 8, .sarInitDone 8 true, .sarCheckCmd .mc 256, .sarCheckDone 8 0 0 0, .sarRefFault 8,
     .sarSoftReset .mc 256, .sarPacketGap 8 0, .sarConfigWrite .mc 8 .cfg 4294967295 0,
     .sarConfigWrite .mc 7 .cfg 4294967296 0, .sarConfigCommit 8, .meterSampleSet (List.replicate 9 0) 0,
     .cmpOutputChange 16 0 true 65535, .cmpOutputChange 15 0 true 65536, .cmpBankTick 2 65535, .cmpBankTick 1 65536,
     .cmpWindowEnable .mc 16, .cmpWindowDisable .mc 16, .cmpWindowArm 16 0, .cmpConfigWrite .mc 16 .cfg 4294967295 0,
     .cmpConfigWrite .mc 15 .cfg 4294967296 0, .cmpConfigCommit 2, .cmpDacHoldEnd 16, .cmpBlankEnd 16, .cmpLcheck .mc 2,
     .cmpLcheckStepEnd 16 .tieGnd (⟨true, true, true, true⟩), .cmpLcheckEnd 2, .cmpBankSoftReset .mc 2, .eePassiveTrip 5,
     .peNosamp 6, .peShade 6, .peSweepSchedule 6, .peSweepCmd .mc 64, .pePairBlocked 6, .pePairUnblocked 6] : List Instr).all (fun i => !wellFormed i) = true := by decide +kernel
theorem test_ill_formed_3 :
    ([.peChannelEnable .mc 6, .peChannelDisable .mc 6, .meCalWrite .mc (.gain 0) 4294967296, .linkEnable .mc 4,
     .linkDisable .mc 4, .laneTsReceived 4 (⟨0, 0x23, 0x10, 0, true⟩), .laneConfigDone 4, .linkTrainTimeout 4,
     .laneLatencyMeasured 4 16777215, .laneLatencyMeasured 3 16777216, .linkUp 4, .linkBndReceive 4 0 255 15,
     .linkBndReceive 3 0 256 15, .linkBndReceive 3 0 255 16, .dfeWindowEnd 4 0 0 0 0 true, .laneFomSample 4 255,
     .laneFomSample 3 256, .laneIdleEnter 4 0, .laneIdleExit 4, .laneLatencyRemeasure 4 16777215,
     .laneLatencyRemeasure 3 16777216, .cometPacketReceive 4 true, .markerReceive 4 [] 0, .eeBroadcastReceive 4 [],
     .sampleReceive 4 [], .statusReceive 4 [], .safetyPduReceive 4 65535 255 [], .safetyPduReceive 3 65536 255 [],
     .safetyPduReceive 3 65535 256 [], .shareReceive 4 [], .tunnelReceive 4 255 4294967295 (List.replicate 2036 0),
     .tunnelReceive 3 256 4294967295 (List.replicate 2036 0), .tunnelReceive 3 255 4294967296 (List.replicate 2036 0),
     .tunnelReceive 3 255 4294967295 (List.replicate 2037 0), .cometPacketStart 4 0, .cometLaneSend 256, .safeTxQueue .mc 16,
     .linkShedEvaluate 4, .laneLoss 4 15 0, .laneLoss 3 16 0, .lstatReceive 4 15 15 255 0, .lstatReceive 3 16 15 255 0,
     .lstatReceive 3 15 16 255 0, .lstatReceive 3 15 15 256 0, .laneRemove 4, .laneReadyMark 4 0, .laneReinstate 4,
     .cometRetrain .mc 16, .cometRemeasure .mc 16, .laneTestEnter .mc 4 3 7 true] : List Instr).all (fun i => !wellFormed i) = true := by decide +kernel
theorem test_ill_formed_4 :
    ([.laneTestEnter .mc 3 4 7 true, .laneTestEnter .mc 3 3 8 true, .laneTestExit .mc 4, .lanePatternError 4 0,
     .safeSf1Demand 6 true, .sinSample 256 0, .safeSf2Demand 4, .safeSf2Release 4, .tpoPulse 4 255 255 255 true,
     .tpoPulse 3 256 255 255 true, .tpoPulse 3 255 256 255 true, .tpoPulse 3 255 255 256 true, .safePreEnergiseStep 16 15,
     .safePreEnergiseStep 15 16, .relayOffPulse 8, .relayReadbackFault 4 true, .hslGridWindowTrip 64 0,
     .hslAnalogWindowTrip 2 true, .pduSend 4 15 (List.replicate 16 0), .pduSend 3 16 (List.replicate 16 0),
     .pduSend 3 15 (List.replicate 17 0), .pduWatchdogExpire 4, .tppSessionTimeout (.tunnel 8),
     .selftest (List.replicate 9 (0, 0, 0)) (List.replicate 6 0) (List.replicate 48 ⟨true, true, true, true⟩) (List.replicate 2 true),
     .selftest (List.replicate 8 (0, 0, 0)) (List.replicate 7 0) (List.replicate 48 ⟨true, true, true, true⟩) (List.replicate 2 true),
     .selftest (List.replicate 8 (0, 0, 0)) (List.replicate 6 0) (List.replicate 49 ⟨true, true, true, true⟩) (List.replicate 2 true),
     .selftest (List.replicate 8 (0, 0, 0)) (List.replicate 6 0) (List.replicate 48 ⟨true, true, true, true⟩) (List.replicate 3 true),
     .bootRomRun [] (List.replicate 257 0), .imageTrialPromote 4 none, .cvuByte 6 0x11, .cvuMessageClose 6, .cvuStart .mc 6,
     .cvuEnd .mc 6, .cvuClr .mc 6, .cvuPause .mc 6 true, .cvuRunWrite .mc 6 true 4294967295,
     .cvuRunWrite .mc 5 true 4294967296, .umbRecoveryEnd 0 true true true [512], .umbTimeSetWrite .mc 4294967296, .pllLock 4,
     .pllUnlock 4, .clkCalStart .mc 16 (List.replicate 256 0), .clkCalStart .mc 15 (List.replicate 257 0), .wdtKick .mc 65536,
     .softrst .mc 8, .wakeSource 6, .laneProbeReceive 4 0 0] : List Instr).all (fun i => !wellFormed i) = true := by decide +kernel
theorem test_well_formed_0 :
    ([.registerWrite .mc 4294967295 0 4294967295, .sharedSramWrite .mc 0xFFFFFFFF [1], .mbxDataWrite .mc 63 4294967295,
     .mbxSubmit .mc 16 0, .dataPortSubmit 63 4294967295 0, .tapRecordDeliver 15, .digRptrWrite .mc 4294967295,
     .evfRouteWrite .mc 191 4294967295, .evfPendClear .mc 5 5 4294967295, .slinkPacketReceive 3 true, .slinkLaneRemove 3,
     .slinkTrainDone 15, .drivePathTimeout 5 511 511, .isoRefreshTimeout 5 true, .orbSlotIssue 255 0 true,
     .orbSlotInactWrite .mc 1023 4294967295, .cpAgreeFix .a 0 4294967295, .standbyWriteSuppress .a 4294967295 4294967295,
     .mirrorWriteThrough .a 0x3FFFF [1], .cpMirrorWrite .mc 4294967295 4294967295, .leJobStart 255, .leJobEnd 1,
     .lePhaseWrite 1 255, .leMissedWrite 1, .leOverrunFault 1, .leFault 1 .parity, .leCoverFailover 1, .leCmdSwap .mc 1,
     .leBankSwitch 1, .leEnable .mc 1, .leDisable .mc 1, .leSelftestDone 1 true, .leSelftestCmd .mc 1, .leReturnCmd .mc 1,
     .leReturnApply 1, .leInjArm .mc 1 3 true 65535, .leInjEnd 1 3, .captureBurstArm 255, .captureBurstSample 1 15,
     .leCntClr .mc 1 15, .leImgInactWrite .mc 1 2047 4294967295, .pwmCommit (.engine 0) 7,
     .pwmShadowWrite .mc 23 .cmpA 4294967295, .cutoffFreeze 2 true, .commitPoint 2, .clEnable .mc 2 true, .clSoftReset .mc 2,
     .clPeriodWrite .mc 2 4294967295, .pwmValley 2, .pwmInterlock 23, .pwmEscRelease .mc 16777215, .tripActivate 15 true true,
     .tripBlankEnd 15, .tripLatchClear .mc 65535, .pwmForceWrite .mc 23 3 3, .drvLegUse .mc 5, .drvLegUnuse .mc 5 511 511,
     .drvInitDone 5, .drvTestDone 5 511, .drvTestStart .mc 5, .drvArm .mc 5, .drvArmEngage 5, .drvDisarm .mc 5,
     .drvDsatOc 5 2 true] : List Instr).all wellFormed = true := by decide +kernel
theorem test_well_formed_1 :
    ([.drvLegFault 5 10, .drvSoftoffEnd 5, .drvRetryWaitEnd 5, .drvTriesReset 5, .drvCmdClear .mc 5, .drvEnableCut 5,
     .drvEnableReturn 5, .drvDieInterlock 5, .drvBsWarn 5, .drvBsUv 5, .drvBsOk 5 true true,
     .drvTransitionMeasure 5 true .ghOn true 0, .drvStatusFrame 5 none, .drvShortCmd 5, .drvOtWarn 5 true 0,
     .sarConversionEnd 7 0, .sarResultArrive 7 true, .sarInjTrigger 7 (.op 0), .swtrig .mc 255, .sarFifoPop .mc 7,
     .sarCancelArrive 7 255, .sarEnable .mc 7, .sarDisable .mc 7, .sarInitDone 7 true, .sarCheckCmd .mc 255,
     .sarCheckDone 7 0 0 0, .sarRefFault 7, .sarSoftReset .mc 255, .sarPacketGap 7 0, .sarConfigWrite .mc 7 .cfg 4294967295 0,
     .sarConfigCommit 7, .meterSampleSet (List.replicate 8 0) 0, .cmpOutputChange 15 0 true 65535, .cmpBankTick 1 65535,
     .cmpWindowEnable .mc 15, .cmpWindowDisable .mc 15, .cmpWindowArm 15 0, .cmpConfigWrite .mc 15 .cfg 4294967295 0,
     .cmpConfigCommit 1, .cmpDacHoldEnd 15, .cmpBlankEnd 15, .cmpLcheck .mc 1,
     .cmpLcheckStepEnd 15 .tieGnd (⟨true, true, true, true⟩), .cmpLcheckEnd 1, .cmpBankSoftReset .mc 1, .eePassiveTrip 4,
     .peNosamp 5, .peShade 5, .peSweepSchedule 5, .peSweepCmd .mc 63, .pePairBlocked 5, .pePairUnblocked 5,
     .peChannelEnable .mc 5, .peChannelDisable .mc 5, .meCalWrite .mc (.gain 0) 4294967295, .linkEnable .mc 3,
     .linkDisable .mc 3, .laneTsReceived 3 (⟨0, 0x23, 0x10, 0, true⟩), .laneConfigDone 3, .linkTrainTimeout 3,
     .laneLatencyMeasured 3 16777215, .linkUp 3, .linkBndReceive 3 0 255 15, .dfeWindowEnd 3 0 0 0 0 true] : List Instr).all wellFormed = true := by decide +kernel
theorem test_well_formed_2 :
    ([.laneFomSample 3 255, .laneIdleEnter 3 0, .laneIdleExit 3, .laneLatencyRemeasure 3 16777215, .cometPacketReceive 3 true,
     .markerReceive 3 [] 0, .eeBroadcastReceive 3 [], .sampleReceive 3 [], .statusReceive 3 [],
     .safetyPduReceive 3 65535 255 [], .shareReceive 3 [], .tunnelReceive 3 255 4294967295 (List.replicate 2036 0),
     .cometPacketStart 3 0, .cometLaneSend 255, .safeTxQueue .mc 15, .linkShedEvaluate 3, .laneLoss 3 15 0,
     .lstatReceive 3 15 15 255 0, .laneRemove 3, .laneReadyMark 3 0, .laneReinstate 3, .cometRetrain .mc 15,
     .cometRemeasure .mc 15, .laneTestEnter .mc 3 3 7 true, .laneTestExit .mc 3, .lanePatternError 3 0, .safeSf1Demand 5 true,
     .sinSample 255 0, .safeSf2Demand 3, .safeSf2Release 3, .tpoPulse 3 255 255 255 true, .safePreEnergiseStep 15 15,
     .relayOffPulse 7, .relayReadbackFault 3 true, .hslGridWindowTrip 63 0, .hslAnalogWindowTrip 1 true,
     .pduSend 3 15 (List.replicate 16 0), .pduWatchdogExpire 3, .tppSessionTimeout (.tunnel 7),
     .selftest (List.replicate 8 (0, 0, 0)) (List.replicate 6 0) (List.replicate 48 ⟨true, true, true, true⟩) (List.replicate 2 true),
     .bootRomRun [] (List.replicate 256 0), .imageTrialPromote 3 none, .cvuByte 5 0x11, .cvuMessageClose 5, .cvuStart .mc 5,
     .cvuEnd .mc 5, .cvuClr .mc 5, .cvuPause .mc 5 true, .cvuRunWrite .mc 5 true 4294967295,
     .umbRecoveryEnd 0 true true true [511], .umbTimeSetWrite .mc 4294967295, .pllLock 3, .pllUnlock 3,
     .clkCalStart .mc 15 (List.replicate 256 0),
      .wdtKick .mc 65535, .softrst .mc 7, .wakeSource 5, .laneProbeReceive 3 0 0] : List Instr).all wellFormed = true := by decide +kernel

/-! Worked examples of the manual, each one operation or one step. -/

/-- R449: the check of "123456789" under each set; R400 and R389 give sets 3 and 4 again. -/
theorem test_crc_check_values :
    (List.range 5).map (fun n => crc (State.cvuPoly n) [0x31, 0x32, 0x33, 0x34, 0x35, 0x36, 0x37, 0x38, 0x39]) =
      [0xDF, 0x29B1, 0xCBF43926, 0xE3069283, 0x1697D06A] := by decide +kernel
/-- Index, worked example: the route of EV147 at 0x400B_024C and its pending bit at MC, 0x400B_0328 bit 19. -/
theorem test_event_route_and_pending :
    (((State.reset.regWrite .mc 0x400B024C 2 0xFFFFFFFF).raise 147).readWord 0x400B0328) = 2 ^ 19 := by decide +kernel
/-- Loop engines, worked example: the budget limit of R150 at N = 320, D = 1, FMAX = 72 Hz. -/
theorem test_loop_budget : ((State.reset.wr Reg.ORB_NCAR_N 320).wr Reg.ORB_FBAND_FMAX 72).budget = 12152 := by decide +kernel
/-- Loop engines, worked example: 0.5 + 283.0/800.0 of a period of 50 000 tB is 5 464 000 tD. -/
theorem test_compare_of_duty :
    State.compareOf (F32.add (F32.lit 5 10) (F32.div (F32.ofNat 283) (F32.ofNat 800))) 50000 = 5464000 := by decide +kernel
/-- Loop engines, worked example: PI leaves MANUAL at 12.0 V with I' = 9.0 V, then I' = 9.03 V and u = 11.43 V. -/
theorem test_pi_bumpless :
    let p := fun (e : Nat) => F32.mul (F32.ofNat 2) e
    Le.regRun false (.preset (F32.ofNat 12)) (p (F32.lit 15 10)) 0 0 0 0 0 0 (F32.lit 15 10) 0 (F32.ofNat 100) 0 0 =
      (F32.ofNat 9, 0, F32.ofNat 12) := by decide +kernel
/-- PWM, worked example of R180: CARRY, CLAMP and DROP for a request of 12 800 tD. -/
def shortIn (mode ca : Nat) : State.PulseIn := ⟨50000, true, false, false, false, mode, ca, 0, 200, 80, 0, false⟩
theorem test_short_pulse_carry :
    (List.range 3).foldl (fun (a : Int × List Nat) _ => let o := State.pulse (shortIn 0 12800) a.1; (o.acc, a.2 ++ [o.w])) (0, []) =
      (0, [0, 0, 38400]) := by decide +kernel
theorem test_short_pulse_clamp_drop :
    ((State.pulse (shortIn 1 12800) 0).w, (State.pulse (shortIn 2 12800) 0).w) = (35840, 0) := by decide +kernel
/-- PWM, worked example: the ideal edges of CMPA = 0x0400_A6BF. -/
theorem test_pulse_edges :
    (State.pulse (shortIn 0 (State.compareTd 0x0400A6BF)) 0) = ⟨5464000, 468000, 5932000, 0, false, false⟩ := by decide +kernel
/-- Gate drive, worked example: the codes of R208 after edges of 72, 55, 45, 47 and 44 ns. -/
theorem test_adaptive_codes :
    [72, 55, 45, 47, 44].foldl (fun (a : Nat × List Nat) t =>
      let c := State.adaptCode 3 40 3 8 40 a.1 t; (c, a.2 ++ [c])) (16, []) = (25, [20, 24, 24, 25, 25]) := by decide +kernel
/-- Sense, worked example: 25.0 A is 0x5555, 40.0 A is 0x7FFF with OVR, 2.100 V at x1 is 0x3333, and their result words. -/
theorem test_conversion_codes :
    [State.convert 0 1 500000000, State.convert 0 1 800000000, State.convert 3 0 600000000] =
      [(0x5555, false), (0x7FFF, true), (0x3333, false)] := by decide +kernel
theorem test_result_words :
    [State.resultWord 0x5555 0 false false true false 0x3C, State.resultWord 0x3333 3 false true true false 0x3C,
      State.resultWord 0x7FFF 0 true false true false 0x3C] = [0x3C405555, 0x3C633333, 0x3C507FFF] := by decide +kernel
/-- Grid support, worked example: iq* = 1.00 leaves id* = 0.4583 of 1.1 pu. -/
theorem test_current_limit :
    let o := State.currentLimit (F32.lit 11 10) true [F32.lit 8 10, F32.one, 0, 0]
    (nth o.refs 1 0 = F32.one ∧ F32.inRange (nth o.refs 0 0) (F32.lit 4582 10000) (F32.lit 4583 10000) = true) := by decide +kernel
/-- Comet, worked example: 61 852 bytes on two lanes shed nothing; 30 926 on one shed TUNNEL. -/
def cometDemands (act : Nat) : State :=
  let s := (State.reset.wr (Reg.LINK_STATUS_ACTIVE 2) act).wr (Reg.LINK_STATUS_STATE 2) 3
  let s := ((s.wr (Reg.LINK_DEMAND_CLS_LO 2 0) 34).wr (Reg.LINK_DEMAND_CLS_HI 2 0) 42).wr (Reg.LINK_DEMAND_CLS_LO 2 1) 200
  let s := ((s.wr (Reg.LINK_DEMAND_CLS_HI 2 1) 134).wr (Reg.LINK_DEMAND_CLS_LO 2 2) 270).wr (Reg.LINK_DEMAND_CLS_LO 2 3) 26
  (s.wr (Reg.LINK_DEMAND_CLS_HI 2 3) 40000).wr Reg.ORB_PERIOD_PERIOD 50000
theorem test_comet_shedding :
    [0xC, 0x4].map (fun a => let s := (cometDemands a).shedEvaluate 2; (s.rd (Reg.LINK_CAP_BYTES 2), s.rd (Reg.LINK_STATUS_SHED 2))) =
      [(61852, 0), (30926, 0x80)] := by decide +kernel
/-- CVU, worked example: field 0x03 after 0x00 is a gap of 2. -/
theorem test_cvu_gap :
    let s := ((State.reset.wr (Reg.CVU_ALIVE_WIDE 3) 1).wr (Reg.CVU_STATUS_VALID 3) 1).setAlive 3 (some 3)
    (s.cvuAlive 3).1 = true ∧ (s.cvuAlive 3).2.rd (Reg.CVU_ALIVE_ERR_MISSING 3) = 2 := by decide +kernel
/-- Umbra, worked example: with 1.0 mF and MARGIN = 4 the write threshold is 2.0020 V. -/
theorem test_umbra_threshold :
    [2001, 2002].map (fun v => (((State.reset.wr Reg.UMB_CSTORE_CAP 1000).wr Reg.UMB_CFG_MARGIN 4).wr Reg.UMB_CSTORE_MV v).energyOk) =
      [false, true] := by decide +kernel
/-- Metering, worked example: a granule of 1333.33 J is 388 361 units, one of 400.00 J is 116 508, and 50 000 Wh mirror as 400 000. -/
theorem test_energy_units :
    [(6 * 160 * 200000 / 3 : Int), 6 * 160 * 20000].map (fun e => (State.meAdd State.reset 0 ⟨e, 0⟩).meAcc 0) = [388361, 116508] ∧
    (State.meAdd State.reset 0 ⟨6 * 160 * 200000 * 45000, 0⟩).rd (Reg.ME_RUN_ACC_MIRROR 0 0) = 400000 := by decide +kernel
/-- TPP, worked example: request 0x000C over SPI reaches the queue as SET_P of 131 072.0 W. -/
def hostReady : State :=
  let s := State.reset
  { s with oper := .standby, clk := { s.clk with hostHighZ := false }, tpp := { s.tpp with host := { s.tpp.host with ver := 0x23 } } }
def setPBytes : List Byte := withCrc [0xA5, 0x23, 0x02, 0x04, 0x0C, 0x00, 0x04, 0x00, 0x00, 0x00, 0x00, 0x48]
theorem test_set_p_request :
    (match step { hostReady with pending := [.spiWriteTransfer setPBytes] } with
      | .next t => t.tpp.queue.map fun r => (r.opcode, r.word 0)
      | _ => []) = [(0x0402, 0x48000000)] := by decide +kernel

/-! ### Witnesses: what each clause assumes is met -/

theorem witness_SharedSramWriteObeysOwner :
    (∃ (s : State) (m : Master) (o : Nat) (data : List Byte), Memory.wf s.sram ∧ o + data.length ≤ 0x80000 ∧
      (m = .mc ∨ m = .dataRegion ∨ ∃ p, State.masterPair? m = some p ∧ s.pairState p = State.pairActive ∧
      s.on (State.fenceFld p) = false) ∧ s.shmOwned m o data.length = true) ∧
    (∃ (s : State) (m : Master) (addr : Nat) (data : List Byte), (m = .mc ∨ m = .dataRegion ∨ ∃ p, State.masterPair? m = some p ∧
      s.pairState p = State.pairActive ∧ s.on (State.fenceFld p) = false) ∧
      (addr < 0x10000000 ∨ 0x10080000 < addr + data.length ∨ s.shmOwned m (addr - 0x10000000) data.length = false)) :=
  ⟨⟨State.reset, Master.mc, 0, [1, 2, 3, 4], by decide +kernel⟩,
   ⟨State.reset, Master.mc, 0, [1, 2, 3, 4], by decide +kernel⟩⟩

theorem witness_MailboxAndDigestCommandsAct :
    (∃ (s : State) (m : Master) (i : Nat), i < 64 ∧ s.right m (0x400C0100 + 4 * i) .mr = .allow ∧ s.on Reg.MBX_STATUS_PEND = false) ∧
    (∃ (s : State) (m : Master) (i : Nat), i < 64 ∧ s.right m (0x400C0100 + 4 * i) .mr = .allow ∧ s.on Reg.MBX_STATUS_PEND = true) ∧
    (∃ (s : State) (m : Master) (n k : Nat), s.right m 0x400C0004 .mr = .allow ∧ s.on Reg.MBX_STATUS_PEND = false ∧ 1 ≤ n ∧ n ≤ 16 ∧
      k ≤ s.rd Reg.ORB_TICK_TICK ∧ k + 32 < s.frameLen) ∧
    (∃ (s : State) (m : Master) (n k : Nat), s.right m 0x400C0004 .mr = .allow ∧ s.on Reg.MBX_STATUS_PEND = false ∧ 1 ≤ n ∧ n ≤ 16 ∧
      k ≤ s.rd Reg.ORB_TICK_TICK ∧ s.frameLen ≤ k + 32) ∧
    (∃ (s : State) (m : Master) (n k : Nat), s.right m 0x400C0004 .mr = .allow ∧ s.on Reg.MBX_STATUS_PEND = false ∧ (n = 0 ∨ 16 < n) ∧
      n < 32 ∧ k ≤ s.rd Reg.ORB_TICK_TICK) ∧
    (∃ (s : State) (u : Submission), s.cross.sub = some u ∧ s.cross.failedBank ≠ some u.entries) ∧
    (∃ (s : State) (i k : Nat), 48 ≤ i ∧ i ≤ 63 ∧ k ≤ s.rd Reg.ORB_TICK_TICK ∧ k + 32 < s.frameLen) ∧
    (∃ (s : State) (m : Master) (v : Nat), s.right m 0x400C0018 .mr = .allow ∧ v < 8 ∧
      (v + 8 - s.rd Reg.DIG_PTR_RPTR) % 8 ≤ s.rd Reg.DIG_PTR_UNREAD) ∧
    (∃ (s : State) (m : Master) (v : Nat), s.right m 0x400C0018 .mr = .allow ∧ v < 8 ∧
      s.rd Reg.DIG_PTR_UNREAD < (v + 8 - s.rd Reg.DIG_PTR_RPTR) % 8) ∧
    (∃ (s : State) (m : Master), (m = .mc → s.cpRun = false) ∧ s.right m 0x400C0020 .cr = .allow) :=
  ⟨⟨State.reset, Master.mc, 63, by decide +kernel⟩,
   ⟨(let s := State.reset; State.wr (s) Reg.MBX_STATUS_PEND (b2n (true))), Master.mc, 63, by decide +kernel⟩,
   ⟨State.reset, Master.mc, 16, 0, by decide +kernel⟩,
   ⟨(let s := State.reset; (s.wr Reg.ORB_TICK_TICK 200000).wr Reg.ORB_PERIOD_PERIOD 8000), Master.mc, 16, 200000, by decide +kernel⟩,
   ⟨State.reset, Master.mc, 31, 0, by decide +kernel⟩,
   ⟨(let s := State.reset; { s with cross := { s.cross with sub := some ({ entries := [], due := 0 } : Submission) } }),
      { entries := [], due := 0 }, by decide +kernel⟩,
   ⟨State.reset, 63, 0, by decide +kernel⟩,
   ⟨(let s := State.reset; State.wr (s) Reg.DIG_PTR_UNREAD ((7 + 8 - s.rd Reg.DIG_PTR_RPTR) % 8)), Master.mc, 7, by decide +kernel⟩,
   ⟨State.reset, Master.mc, 7, by decide +kernel⟩,
   ⟨(let s := State.reset; s.wr Reg.CROSS_CTRL_CP_RUN 0), Master.mc, by decide +kernel⟩⟩

theorem witness_EventFabricCommandsAct :
    (∃ (s : State) (m : Master) (n : Nat), n < 192 ∧ s.right m (0x400B0000 + 4 * n) .cr = .allow ∧ s.on (Reg.EVF_ROUTE_LOCK n) = false) ∧
    (∃ (s : State) (m : Master) (n : Nat), n < 192 ∧ s.right m (0x400B0000 + 4 * n) .cr = .allow ∧ s.on (Reg.EVF_ROUTE_LOCK n) = true) ∧
    (∃ (s : State) (m : Master) (t w : Nat), t ≤ 5 ∧ w ≤ 5 ∧ s.right m (0x400B0300 + 0x18 * t + 4 * w) .cr = .allow) ∧
    (∃ (s : State) (m : Master) (p : PairId) (w : Nat), w ≤ 5 ∧ State.masterPair? m = some p ∧ s.pairState p = State.pairStandby) ∧
    (∃ (s : State) (m : Master), s.right m 0x400B0394 .cr = .allow) :=
  ⟨⟨State.reset, Master.mc, 191, by decide +kernel⟩,
   ⟨(let s := State.reset; State.wr (s) (Reg.EVF_ROUTE_LOCK 191) (b2n (true))), Master.mc, 191, by decide +kernel⟩,
   ⟨State.reset, Master.mc, 5, 5, by decide +kernel⟩,
   ⟨(let s := State.reset; State.wr (s) (State.pairStateFld PairId.a) (State.pairStandby)), Master.pairA, PairId.a, 5, by decide +kernel⟩,
   ⟨State.reset, Master.mc, by decide +kernel⟩⟩

theorem witness_EventIsPendingAtEveryTarget :
    (∃ (s : State) (ev : Nat), s.regsOk ∧ ev < 192 ∧ 152 ≤ ev ∧ ev ≤ 167) ∧
    (∃ (s : State) (ev g e : Nat), s.regsOk ∧ ev < 192 ∧ g < 6 ∧ e < 192 ∧ s.pendingAt g e = true) :=
  ⟨⟨State.reset, 167, by decide +kernel⟩,
   ⟨(let s := State.reset; s.setB (Reg.EVF_PEND_PEND 5 (191 / 32)) (191 % 32)), 191, 5, 191, by decide +kernel⟩⟩

theorem witness_OrbitWritesAct :
    (∃ (s : State) (m : Master), s.regsOk ∧ s.right m 0x40000000 .cr = .allow) ∧
    (∃ (s : State) (m : Master) (v : Nat), s.right m 0x40000000 .cr = .allow ∧ 60 ≤ v ∧ v ≤ 4000 ∧
      v % 2 ^ State.settingNext s.orbit.pend.div s.orbit.taken.div (s.rd Reg.ORB_CTRL_DIV) = 0) ∧
    (∃ (s : State) (m : Master) (v : Nat), s.right m 0x40000000 .cr = .allow ∧ v < 4096 ∧
      (v < 60 ∨ 4000 < v ∨ v % 2 ^ State.settingNext s.orbit.pend.div s.orbit.taken.div (s.rd Reg.ORB_CTRL_DIV) ≠ 0)) ∧
    (∃ (s : State) (m : Master) (v : Nat), s.right m 0x40000000 .cr = .allow ∧ v < 128) ∧
    (∃ (s : State) (m : Master) (i : Nat), i < 1024 ∧ s.right m (0x40001000 + 4 * i) .cr = .allow ∧ s.on Reg.ORB_BANK_SWAP_PEND = false ∧
      s.on Reg.ORB_STATUS_ACTIVE_BANK = false) ∧
    (∃ (s : State) (m : Master) (i : Nat), i < 1024 ∧ s.right m (0x40001000 + 4 * i) .cr = .allow ∧ s.on Reg.ORB_BANK_SWAP_PEND = true) ∧
    (∃ (s : State) (m : Master), s.right m 0x40000090 .cr = .allow ∧ s.on Reg.ORB_BANK_SWAP_PEND = false) ∧
    (∃ s : State, s.regsOk ∧ s.orbit.swapReq = true ∧ s.rd Reg.ORB_STATUS_ACTIVE_BANK ≤ 1) ∧
    (∃ (s : State) (m : Master), s.right m 0x40000054 .cr = .allow) :=
  ⟨⟨State.reset, Master.mc, by decide +kernel⟩,
   ⟨State.reset, Master.mc, 4000, by decide +kernel⟩,
   ⟨State.reset, Master.mc, 4095, by decide +kernel⟩,
   ⟨State.reset, Master.mc, 127, by decide +kernel⟩,
   ⟨State.reset, Master.mc, 1023, by decide +kernel⟩,
   ⟨(let s := State.reset; State.wr (s) Reg.ORB_BANK_SWAP_PEND (b2n (true))), Master.mc, 1023, by decide +kernel⟩,
   ⟨State.reset, Master.mc, by decide +kernel⟩,
   ⟨(let s := State.reset; { s with orbit := { s.orbit with swapReq := true } }), by decide +kernel⟩,
   ⟨State.reset, Master.mc, by decide +kernel⟩⟩

theorem witness_TrackerStateCommandsMove :
    (∃ s : State, s.regsOk ∧ 200 ≤ s.orbit.presentRun ∧ s.orbState = State.orbFree ∧ s.on Reg.ORB_CTRL_TRACK_EN = true ∧
      s.rd Reg.ORB_GROUP_ROLE ≠ 2) ∧
    (∃ s : State, s.regsOk ∧ 2 ≤ s.orbit.absentRun ∧ s.orbState = State.orbAcquire) ∧
    (∃ (s : State) (inc : Nat), s.regsOk ∧ 2 ≤ s.orbit.absentRun ∧ s.orbState = State.orbLocked ∧ s.orbit.turnMean = some inc ∧
      inc < 2 ^ 32) ∧
    (∃ s : State, s.regsOk ∧ s.orbState = State.orbAcquire ∧ turn * 65536 ≤ s.orbit.lockAngle) ∧
    (∃ s : State, s.regsOk ∧ s.orbState = State.orbLocked ∧ 100 ≤ s.orbit.lostRun ∧ s.orbit.vAbsent = false) ∧
    (∃ s : State, s.regsOk ∧ s.orbState = State.orbFlywheel ∧ s.rd Reg.ORB_FLYMAX_MS * 100 < s.orbit.flySamples) ∧
    (∃ (s : State) (k : Marker), s.regsOk ∧ s.orbState ≠ State.orbFollow ∧ s.rd Reg.ORB_GROUP_ROLE = 2 ∧ 4 ≤ s.orbit.markerRun ∧
      s.orbit.marker = some k) ∧
    (∃ s : State, s.regsOk ∧ s.orbState = State.orbFollow ∧ 4 ≤ s.rd Reg.ORB_GROUP_STATUS_MISSED) ∧
    (∃ (s : State) (n : Nat), s.regsOk ∧ s.orbit.carIdx = 0 ∧ s.orbit.taken = ⟨some n, none, none, none⟩ ∧ n < 4096) :=
  ⟨⟨(let s := State.reset; let s := { s with orbit := { s.orbit with presentRun := 200 } };
      State.wr (s) Reg.ORB_CTRL_TRACK_EN (b2n (true))), by decide +kernel⟩,
   ⟨(let s := State.reset; let s := { s with orbit := { s.orbit with absentRun := 2 } };
      State.wr (s) Reg.ORB_STATUS_STATE (State.orbAcquire)), by decide +kernel⟩,
   ⟨(let s := State.reset; let s := { s with orbit := { s.orbit with absentRun := 2 } };
      let s := State.wr (s) Reg.ORB_STATUS_STATE (State.orbLocked); { s with orbit := { s.orbit with turnMean := some 0 } }), 0,
      by decide +kernel⟩,
   ⟨(let s := State.reset; let s := State.wr (s) Reg.ORB_STATUS_STATE (State.orbAcquire);
      { s with orbit := { s.orbit with lockAngle := turn * 65536 } }), by decide +kernel⟩,
   ⟨(let s := State.reset; let s := State.wr (s) Reg.ORB_STATUS_STATE (State.orbLocked);
      { s with orbit := { s.orbit with lostRun := 100 } }), by decide +kernel⟩,
   ⟨(let s := State.reset; let s := State.wr (s) Reg.ORB_STATUS_STATE (State.orbFlywheel);
      { s with orbit := { s.orbit with flySamples := (s.rd Reg.ORB_FLYMAX_MS * 100) + 1 } }), by decide +kernel⟩,
   ⟨(let s := State.reset; let s := State.wr (s) Reg.ORB_GROUP_ROLE (2); let s := { s with orbit := { s.orbit with markerRun := 4 } };
      { s with orbit := { s.orbit with marker := some ({ frame := 1, theta := 2, dtheta := 3, offset := 0 } : Marker) } }),
      { frame := 1, theta := 2, dtheta := 3, offset := 0 }, by decide +kernel⟩,
   ⟨(let s := State.reset; let s := State.wr (s) Reg.ORB_STATUS_STATE (State.orbFollow); State.wr (s) Reg.ORB_GROUP_STATUS_MISSED (4)),
      by decide +kernel⟩,
   ⟨(let s := State.reset; { s with orbit := { s.orbit with taken := ⟨some 4095, none, none, none⟩ } }), 4095, by decide +kernel⟩⟩

theorem witness_OrbitStepCommandsAct :
    (∃ (s : State) (slot k g : Nat), slot < 256 ∧ 8 ≤ k ∧ k < s.frameLen ∧ k ≤ s.rd Reg.ORB_TICK_TICK ∧ s.slotOutcome slot = .fires g ∧
      2 ≤ fieldOf (bankWord s.activeBank (4 * slot)) 4 4 ∧ fieldOf (bankWord s.activeBank (4 * slot)) 4 4 ≤ 5) ∧
    (∃ (s : State) (slot k : Nat), slot < 256 ∧ 8 ≤ k ∧ k < s.frameLen ∧ k ≤ s.rd Reg.ORB_TICK_TICK ∧ s.slotOutcome slot = .stale) ∧
    (∃ s : State, s.orbState ≠ State.orbFollow) ∧
    (∃ (s : State) (r : TapRecord), s.cross.taps.find? (fun x => x.chan == r.chan) = some r ∧ r.epoch = s.rd Reg.ORB_EPOCH_EPOCH) ∧
    (∃ (s : State) (r : TapRecord), s.cross.taps.find? (fun x => x.chan == r.chan) = some r ∧ r.epoch ≠ s.rd Reg.ORB_EPOCH_EPOCH) ∧
    (∃ (s : State) (fz : List Nat), s.regsOk ∧ s.cross.digest = some fz ∧ s.rd Reg.DIG_PTR_WPTR < 8 ∧ s.rd Reg.DIG_PTR_UNREAD < 8) :=
  ⟨⟨(let s := State.reset;
      let s := { s with orbit := { s.orbit with bank0 := [(4 * 255, 1 + 16 * 2 + 0), (4 * 255 + 1, 5)], bank1 := [(4 * 255, 1 + 16 * 2 + 0), (4 * 255 + 1, 5)], badSlots := [], eccSlots := [] } };
      let s := (s.wr Reg.ORB_CTRL_ISSUE_EN 1).wr (Reg.ORB_SLOT_STAT_ISSUED 255) 0; s.wr Reg.ORB_TICK_TICK 100), 255, 100, 5,
      by decide +kernel⟩,
   ⟨(let s := State.reset;
      let s := { s with orbit := { s.orbit with bank0 := [(4 * 255, 1 + 2048 + 2 ^ 20 * ((s.rd Reg.ORB_EPOCH_EPOCH + 1) % 256)), (4 * 255 + 1, 5)], bank1 := [(4 * 255, 1 + 2048 + 2 ^ 20 * ((s.rd Reg.ORB_EPOCH_EPOCH + 1) % 256)), (4 * 255 + 1, 5)], badSlots := [], eccSlots := [] } };
      let s := (s.wr Reg.ORB_CTRL_ISSUE_EN 1).wr (Reg.ORB_SLOT_STAT_ISSUED 255) 0; s.wr Reg.ORB_TICK_TICK 100), 255, 100,
      by decide +kernel⟩,
   ⟨State.reset, by decide +kernel⟩,
   ⟨(let s := State.reset;
      { s with cross := { s.cross with taps := [({ value := 1, chan := 2, tag := 3, epoch := 0, invalid := false, stale := false } : TapRecord)] } }),
      { value := 1, chan := 2, tag := 3, epoch := 0, invalid := false, stale := false }, by decide +kernel⟩,
   ⟨(let s := State.reset;
      { s with cross := { s.cross with taps := [({ value := 1, chan := 2, tag := 3, epoch := 1, invalid := false, stale := false } : TapRecord)] } }),
      { value := 1, chan := 2, tag := 3, epoch := 1, invalid := false, stale := false }, by decide +kernel⟩,
   ⟨(let s := State.reset; { s with cross := { s.cross with digest := some [] } }), [], by decide +kernel⟩⟩

theorem witness_PairFaultsAreHandled :
    (∃ (s : State) (p : PairId), s.regsOk ∧ s.pairState p = State.pairActive ∧ s.on (State.fenceFld p) = false ∧
      s.on Reg.CP_STATUS_TAKEOVER_PEND = false ∧ s.on Reg.CP_STATUS_STANDBY_READY = false) ∧
    (∃ (s : State) (p : PairId) (main checker : List Nat) (i : Nat), s.regsOk ∧ s.pairState p = State.pairActive ∧
      s.on (State.fenceFld p) = false ∧ s.on Reg.CP_SWEEP_EN = true ∧ (s.pair p).halted = false ∧ (s.pair p).swept = false ∧
      State.firstDiff (main.take 8) (checker.take 8) 0 = some i ∧ s.on Reg.CP_STATUS_TAKEOVER_PEND = false ∧
      s.on Reg.CP_STATUS_STANDBY_READY = true) ∧
    (∃ s : State, s.pairWatched .a = true ∧ s.pairWatched .b = true) ∧
    (∃ (s : State) (p : PairId), s.pairWatched p = true) :=
  ⟨⟨(let s := State.reset; State.wr (s) (State.pairStateFld PairId.a) (State.pairActive)), PairId.a, by decide +kernel⟩,
   ⟨(let s := State.reset; let s := State.wr (s) (State.pairStateFld PairId.a) (State.pairActive);
      State.wr (s) Reg.CP_STATUS_STANDBY_READY (b2n (true))), PairId.a, [1, 2, 3, 4, 5, 6, 7, 8], [1, 2, 3, 4, 5, 6, 7, 9], 7,
      by decide +kernel⟩,
   ⟨(let s := State.reset; let s := (s.wr (State.pairStateFld .a) 2).wr (State.fenceFld .a) 0;
      (s.wr (State.pairStateFld .b) 2).wr (State.fenceFld .b) 0), by decide +kernel⟩,
   ⟨(let s := State.reset; (s.wr (State.pairStateFld PairId.a) 2).wr (State.fenceFld PairId.a) 0), PairId.a, by decide +kernel⟩⟩

theorem witness_PairDebugAndStandbyCommandsAct :
    (∃ (s : State) (p : PairId), s.debugTakes p = false) ∧
    (∃ s : State, s.regsOk ∧ s.debugTakes .b = true ∧ s.pairState .b = State.pairStandby) ∧
    (∃ (s : State) (p : PairId), s.debugTakes p = true ∧ s.pairState p = State.pairActive ∧ (s.pair p).halted = true ∧ s.regsOk ∧
      (s.pair p.other).halted = false) ∧
    (∃ (s : State) (p : PairId) (a : Nat), s.pairState p = State.pairStandby ∧ s.on (State.fenceFld p) = false ∧ a < 0x40000 ∧
      s.inMirror a = false) ∧
    (∃ (s : State) (p : PairId) (a : Nat), s.pairState p = State.pairStandby ∧ s.on (State.fenceFld p) = false ∧ 0x40000 ≤ a ∧
      (a < 0x400B0300 ∨ 0x400B0318 ≤ a)) ∧
    (∃ (s : State) (p : PairId) (a : Nat) (data : List Byte), s.pairState p = State.pairActive ∧ s.on (State.fenceFld p) = false ∧
      s.pairState p.other = State.pairStandby ∧ (∀ i < data.length, s.inMirror (a + i) = true)) ∧
    (∃ (s : State) (p : PairId), (s.pair p).interrupt = true) ∧
    (∃ s : State, s.pairs.fatalWait = true) ∧
    (∃ (s : State) (m : Master), s.right m 0x400C0810 .mr = .allow ∧ s.cpRun = false) ∧
    (∃ (s : State) (m : Master), s.right m 0x400C0810 .mr = .allow ∧ s.cpRun = true) ∧
    (∃ (s : State) (m : Master), (m = .mc → s.cpRun = false) ∧ s.right m 0x400C0834 .cr = .allow) :=
  ⟨⟨State.reset, PairId.a, by decide +kernel⟩,
   ⟨(let s := State.reset; let s := ((s.wr (State.pairStateFld .b) 4).wr (State.fenceFld .b) 0).wr Reg.SEC_DEBUG_OPEN 1;
      State.wr (s) (State.pairStateFld .b) (State.pairStandby)), by decide +kernel⟩,
   ⟨(let s := State.reset; let s := ((s.wr (State.pairStateFld PairId.a) 4).wr (State.fenceFld PairId.a) 0).wr Reg.SEC_DEBUG_OPEN 1;
      State.setPair (s) PairId.a ({ (s.pair PairId.a) with halted := true })), PairId.a, by decide +kernel⟩,
   ⟨(let s := State.reset; State.wr (s) (State.pairStateFld PairId.a) (State.pairStandby)), PairId.a, 262143, by decide +kernel⟩,
   ⟨(let s := State.reset; State.wr (s) (State.pairStateFld PairId.a) (State.pairStandby)), PairId.a, 262144, by decide +kernel⟩,
   ⟨(let s := State.reset; let s := (s.wr Reg.CP_MIRROR_BASE 1).wr Reg.CP_MIRROR_SIZE 1;
      let s := State.wr (s) (State.pairStateFld PairId.a) (State.pairActive);
      State.wr (s) (State.pairStateFld PairId.a.other) (State.pairStandby)), PairId.a, 256, [1, 2, 3, 4], by decide +kernel⟩,
   ⟨(let s := State.reset; State.setPair (s) PairId.a ({ (s.pair PairId.a) with interrupt := true })), PairId.a, by decide +kernel⟩,
   ⟨(let s := State.reset; { s with pairs := { s.pairs with fatalWait := true } }), by decide +kernel⟩,
   ⟨State.reset, Master.mc, by decide +kernel⟩,
   ⟨(let s := State.reset; State.wr (s) Reg.CROSS_CTRL_CP_RUN (b2n (true))), Master.mc, by decide +kernel⟩,
   ⟨(let s := State.reset; s.wr Reg.CROSS_CTRL_CP_RUN 0), Master.mc, by decide +kernel⟩⟩

theorem witness_PairStateCommandsAct :
    (∃ (s : State) (m : Master) (p : PairId) (img : LoadedImage), s.regsOk ∧ s.right m 0x400C0800 .mr = .allow ∧
      s.pairState p = State.pairOff ∧ s.rampWide = false ∧ s.power = .run ∧ nth s.sec.loaded 1 none = some img) ∧
    (∃ (s : State) (p : PairId), s.regsOk ∧ s.pairState p = State.pairSelftest ∧ (s.pair p).passed = false ∧
      s.pairState p.other = State.pairActive) ∧
    (∃ (s : State) (p : PairId), s.regsOk ∧ s.pairState p = State.pairSelftest ∧ (s.pair p).passed = true ∧
      s.pairState p.other ≠ State.pairActive) ∧
    (∃ (s : State) (p : PairId), s.pairState p = State.pairSync ∧ s.pairState p.other = State.pairActive ∧ (s.pair p).copied = false) ∧
    (∃ (s : State) (p : PairId), s.regsOk ∧ s.pairState p = State.pairSync ∧ (s.pair p).copied = true) ∧
    (∃ (s : State) (m : Master), s.right m 0x400C080C .mr = .allow ∧ s.on Reg.CP_STATUS_TAKEOVER_PEND = false ∧
      s.on Reg.CP_STATUS_STANDBY_READY = true) ∧
    (∃ (s : State) (m : Master), s.right m 0x400C080C .mr = .allow ∧ s.on Reg.CP_STATUS_TAKEOVER_PEND = false ∧
      s.on Reg.CP_STATUS_STANDBY_READY = false) ∧
    (∃ (s : State) (m : Master) (p : PairId), s.regsOk ∧ s.right m 0x400C080C .mr = .allow ∧ s.pairState p = State.pairFailed ∧
      s.pairState p.other = State.pairActive) ∧
    (∃ (s : State) (m : Master) (p : PairId), s.regsOk ∧ s.right m 0x400C0800 .mr = .allow ∧ s.pairState p = State.pairActive ∧
      s.on Reg.PWM_SAFE_STATUS_LATCHED = true ∧ s.rd Reg.SAFE_STATE_STATE ≠ 3 ∧ s.rd Reg.SAFE_STATE_STATE ≠ 4) ∧
    (∃ (s : State) (m : Master) (p : PairId), s.right m 0x400C0800 .mr = .allow ∧ s.pairState p = State.pairActive ∧
      (s.on Reg.PWM_SAFE_STATUS_LATCHED = false ∨ s.rd Reg.SAFE_STATE_STATE = 3 ∨ s.rd Reg.SAFE_STATE_STATE = 4)) ∧
    (∃ s : State, s.regsOk ∧ s.on Reg.CP_STATUS_TAKEOVER_PEND = true ∧ s.rd Reg.CP_STATUS_ACTIVE = 0 ∧
      s.pairState .a = State.pairActive ∧ s.pairState .b = State.pairStandby ∧ s.on (State.fenceFld .b) = false ∧ s.anyHalted = false ∧
      s.orbit.epochDone = false) ∧
    (∃ s : State, s.regsOk ∧ s.pairs.orderly = true ∧ s.oper ≠ .boot) ∧
    (∃ (s : State) (n v : Nat), s.regsOk ∧ s.cross.sub = some ⟨[⟨2 + 65536 * n, v, 0, 0⟩], 0⟩ ∧ n < 48 ∧ v < 2 ^ 32 ∧
      s.cross.dataPort = [] ∧ s.cross.mcQueue = []) ∧
    (∃ (s : State) (a n c e q : Nat), s.cross.loadOrbit = .copying a n c e q ∧ crc32cWords (s.bufferWords a n) ≠ c ∧
      s.rd Reg.MBX_STATUS_APPLIED_SEQ ≠ q) :=
  ⟨⟨(let s := State.reset;
      { s with sec := { s.sec with loaded := setNth s.sec.loaded 1 (some ({ version := 0, rollback := 0, measurement := 0, payload := [] } : LoadedImage)) } }),
      Master.mc, PairId.a, { version := 0, rollback := 0, measurement := 0, payload := [] }, by decide +kernel⟩,
   ⟨(let s := State.reset; let s := State.wr (s) (State.pairStateFld PairId.a) (State.pairSelftest);
      State.wr (s) (State.pairStateFld PairId.a.other) (State.pairActive)), PairId.a, by decide +kernel⟩,
   ⟨(let s := State.reset; let s := State.wr (s) (State.pairStateFld PairId.a) (State.pairSelftest);
      State.setPair (s) PairId.a ({ (s.pair PairId.a) with passed := true })), PairId.a, by decide +kernel⟩,
   ⟨(let s := State.reset; let s := State.wr (s) (State.pairStateFld PairId.a) (State.pairSync);
      State.wr (s) (State.pairStateFld PairId.a.other) (State.pairActive)), PairId.a, by decide +kernel⟩,
   ⟨(let s := State.reset; let s := State.wr (s) (State.pairStateFld PairId.a) (State.pairSync);
      State.setPair (s) PairId.a ({ (s.pair PairId.a) with copied := true })), PairId.a, by decide +kernel⟩,
   ⟨(let s := State.reset; State.wr (s) Reg.CP_STATUS_STANDBY_READY (b2n (true))), Master.mc, by decide +kernel⟩,
   ⟨State.reset, Master.mc, by decide +kernel⟩,
   ⟨(let s := State.reset; let s := State.wr (s) (State.pairStateFld PairId.a) (State.pairFailed);
      State.wr (s) (State.pairStateFld PairId.a.other) (State.pairActive)), Master.mc, PairId.a, by decide +kernel⟩,
   ⟨(let s := State.reset; State.wr (s) (State.pairStateFld PairId.a) (State.pairActive)), Master.mc, PairId.a, by decide +kernel⟩,
   ⟨(let s := State.reset; let s := State.wr (s) (State.pairStateFld PairId.a) (State.pairActive);
      State.wr (s) Reg.PWM_SAFE_STATUS_LATCHED (b2n (false))), Master.mc, PairId.a, by decide +kernel⟩,
   ⟨(let s := State.reset; let s := State.wr (s) Reg.CP_STATUS_TAKEOVER_PEND (b2n (true));
      let s := State.wr (s) (State.pairStateFld .a) (State.pairActive); State.wr (s) (State.pairStateFld .b) (State.pairStandby)),
      by decide +kernel⟩,
   ⟨(let s := State.reset; let s := { s with pairs := { s.pairs with orderly := true } }; { s with oper := .standby }),
      by decide +kernel⟩,
   ⟨(let s := State.reset; { s with cross := { s.cross with sub := some ⟨[⟨2 + 65536 * 47, 0, 0, 0⟩], 0⟩ } }), 47, 0, by decide +kernel⟩,
   ⟨(let s := State.reset; let s := { s with cross := { s.cross with loadOrbit := .copying 268435456 4 1 0 0 } };
      State.wr (s) Reg.MBX_STATUS_APPLIED_SEQ ((0) + 1)), 268435456, 4, 1, 0, 0, by decide +kernel⟩⟩

theorem witness_PwmWritesAndCommitsAct :
    (∃ (s : State) (m : Master) (p : Nat), p < 24 ∧ s.right m (0x40010408 + 0x20 * p) .cr = .allow ∧ (s.cluster (p / 8)).window = false) ∧
    (∃ (s : State) (m : Master) (p : Nat), p < 24 ∧ s.right m (0x40010408 + 0x20 * p) .cr = .allow ∧ (s.cluster (p / 8)).window = true ∧
      s.on (Reg.CL_CTRL_AUTO (p / 8)) = false) ∧
    (∃ (s : State) (c : Nat) (m : Master), s.Shaped ∧ c < 3 ∧ s.on (Reg.CL_CTRL_EN c) = true ∧ (s.cluster c).window = false ∧
      (s.cluster c).inReset = false ∧ s.right m 0x40010004 .cr = .allow) ∧
    (∃ (s : State) (c : Nat), s.Shaped ∧ c < 3 ∧ s.on (Reg.CL_CTRL_EN c) = true ∧ (s.cluster c).window = true ∧
      (s.cluster c).held = false) ∧
    (∃ (s : State) (slot c : Nat) (o : OrbOp), s.Shaped ∧ c < 3 ∧ s.opOf? slot 3 = some o ∧ o.arga % 8 = 2 ^ c ∧
      s.on (Reg.CL_CTRL_EN c) = true ∧ (s.cluster c).window = false ∧ (s.cluster c).inReset = false) ∧
    (∃ (s : State) (c p : Nat), s.Shaped ∧ c < 3 ∧ p / 8 = c ∧ s.regsOk ∧ s.on (Reg.CL_CTRL_EN c) = true ∧ (s.cluster c).window = true ∧
      (s.cluster c).armed = true ∧ (s.cluster c).peak = false ∧ (s.cluster c).holding = []) ∧
    (∃ (s : State) (m : Master) (c : Nat), c < 3 ∧ s.right m (0x40010100 + 0x20 * c) .cr = .allow ∧ (s.cluster c).window = false ∧
      (s.cluster c).armed = false ∧ (s.cluster c).held = false) ∧
    (∃ (s : State) (m : Master) (c : Nat), s.Shaped ∧ c < 3 ∧ s.regsOk ∧ s.right m (0x40010100 + 0x20 * c) .cr = .allow) ∧
    (∃ (s : State) (m : Master) (c v : Nat), c < 3 ∧ s.right m (0x40010104 + 0x20 * c) .cr = .allow ∧ s.on (Reg.CL_CTRL_SYNC c) = false ∧
      (s.cluster c).window = false ∧ 4000 ≤ v ∧ v ≤ 266666) ∧
    (∃ (s : State) (m : Master) (c : Nat), c < 3 ∧ s.right m (0x40010104 + 0x20 * c) .cr = .allow ∧ s.on (Reg.CL_CTRL_SYNC c) = true) ∧
    (∃ (s : State) (m : Master) (c v : Nat), c < 3 ∧ s.right m (0x40010104 + 0x20 * c) .cr = .allow ∧ s.on (Reg.CL_CTRL_SYNC c) = false ∧
      (v < 4000 ∨ 266666 < v) ∧ v < 2 ^ 20) ∧
    (∃ (s : State) (m : Master) (p h l : Nat), p < 24 ∧ s.right m (0x4001041C + 0x20 * p) .cr = .allow ∧ h % 4 ≠ 3 ∧ l % 4 ≠ 3) ∧
    (∃ (s : State) (m : Master) (p h l : Nat), p < 24 ∧ s.right m (0x4001041C + 0x20 * p) .cr = .allow ∧ (h % 4 = 3 ∨ l % 4 = 3)) ∧
    (∃ (s : State) (m : Master), s.right m 0x40010028 .cr = .allow) ∧
    (∃ s : State, s.orbit.nextPeriod.isSome = true) ∧
    (∃ s : State, s.regsOk ∧ s.orbit.nextPeriod = none ∧ s.turnEnds = false) :=
  ⟨⟨State.reset, Master.mc, 23, by decide +kernel⟩,
   ⟨(let s := State.reset; State.setCluster (s) (23 / 8) ({ (s.cluster (23 / 8)) with window := true })), Master.mc, 23,
      by decide +kernel⟩,
   ⟨(let s := State.reset; State.wr (s) (Reg.CL_CTRL_EN 2) (b2n (true))), 2, Master.mc, shaped (by decide +kernel), by decide +kernel⟩,
   ⟨(let s := State.reset; let s := State.wr (s) (Reg.CL_CTRL_EN 2) (b2n (true));
      State.setCluster (s) 2 ({ (s.cluster 2) with window := true })), 2, shaped (by decide +kernel), by decide +kernel⟩,
   ⟨(let s := State.reset;
      let s := { s with orbit := { s.orbit with ops := [({ slot := 0, tgt := 3, arga := 4, argb := 0, tag := 0, epoch := 0, sent := true } : OrbOp)] } };
      State.wr (s) (Reg.CL_CTRL_EN 2) (b2n (true))),
      0, 2, { slot := 0, tgt := 3, arga := 4, argb := 0, tag := 0, epoch := 0, sent := true }, shaped (by decide +kernel),
      by decide +kernel⟩,
   ⟨(let s := State.reset; let s := State.wr (s) (Reg.CL_CTRL_EN 0) (b2n (true));
      let s := State.setCluster (s) 0 ({ (s.cluster 0) with window := true });
      State.setCluster (s) 0 ({ (s.cluster 0) with armed := true })), 0, 0, shaped (by decide +kernel), by decide +kernel⟩,
   ⟨State.reset, Master.mc, 2, by decide +kernel⟩,
   ⟨State.reset, Master.mc, 2, shaped (by decide +kernel), by decide +kernel⟩,
   ⟨(let s := State.reset; State.wr (s) (Reg.CL_CTRL_SYNC 2) (b2n (false))), Master.mc, 2, 266666, by decide +kernel⟩,
   ⟨State.reset, Master.mc, 2, by decide +kernel⟩,
   ⟨(let s := State.reset; State.wr (s) (Reg.CL_CTRL_SYNC 2) (b2n (false))), Master.mc, 2, 0, by decide +kernel⟩,
   ⟨State.reset, Master.mc, 23, 0, 0, by decide +kernel⟩,
   ⟨State.reset, Master.mc, 23, 3, 0, by decide +kernel⟩,
   ⟨State.reset, Master.mc, by decide +kernel⟩,
   ⟨(let s := State.reset; { s with orbit := { s.orbit with nextPeriod := some (50000, 0) } }), by decide +kernel⟩,
   ⟨State.reset, by decide +kernel⟩⟩

theorem witness_TripsAndSafeStateAct :
    (∃ (s : State) (n p : Nat), s.Shaped ∧ n < 16 ∧ p < 24 ∧ s.regsOk ∧ s.on (Reg.TRIP_CFG_EN n) = true ∧ 1 ≤ s.rd (Reg.TRIP_CFG_SRC n) ∧
      s.rd (Reg.TRIP_CFG_SRC n) ≤ 20 ∧ hasBit (s.rd Reg.TRIP_STATUS_LEVEL) n = false ∧ s.rd (Reg.TRIP_CFG_ACTION n) = 0 ∧
      hasBit (s.rd (Reg.TRIP_MASK_PAIRS n)) p = true ∧ (s.line n).raised = false) ∧
    (∃ (s : State) (n p : Nat), s.Shaped ∧ n < 16 ∧ p < 24 ∧ s.regsOk ∧ s.on (Reg.TRIP_CFG_EN n) = true ∧ (s.line n).source = true ∧
      hasBit (s.rd Reg.TRIP_STATUS_LEVEL) n = false ∧ s.rd (Reg.TRIP_CFG_ACTION n) = 1 ∧ hasBit (s.rd (Reg.TRIP_MASK_PAIRS n)) p = true) ∧
    (∃ (s : State) (n : Nat), s.Shaped ∧ n < 16 ∧ (s.line n).source = false ∧ hasBit (s.rd Reg.TRIP_STATUS_LEVEL) n = false) ∧
    (∃ (s : State) (m : Master) (n : Nat), s.Shaped ∧ n < 16 ∧ s.regsOk ∧ s.right m 0x40010034 .cr = .allow ∧
      hasBit (s.rd Reg.TRIP_LATCH_LATCH) n = true ∧ s.lineActive n = false) ∧
    (∃ (s : State) (m : Master) (n : Nat), s.Shaped ∧ n < 16 ∧ s.regsOk ∧ s.right m 0x40010034 .cr = .allow ∧
      hasBit (s.rd Reg.TRIP_LATCH_LATCH) n = true ∧ s.lineActive n = true) ∧
    (∃ (s : State) (m : Master) (p : Nat), s.Shaped ∧ p < 24 ∧ s.regsOk ∧ s.right m 0x4001001C .cr = .allow ∧
      hasBit (s.rd Reg.PWM_ESC_PAIRS) p = true) ∧
    (∃ (s : State) (m : Master), s.regsOk ∧ s.right m 0x40010014 .cr = .allow ∧ s.rd Reg.PWM_SAFE_STATUS_ACTIVE = 0 ∧
      hasBit (s.rd Reg.CLK_STATUS_LOCK) 0 = true ∧ s.on Reg.PWM_STATUS_CLK_OK = true) ∧
    (∃ (s : State) (m : Master), s.right m 0x40010014 .cr = .allow ∧
      (s.rd Reg.PWM_SAFE_STATUS_ACTIVE ≠ 0 ∨ hasBit (s.rd Reg.CLK_STATUS_LOCK) 0 = false ∨ s.on Reg.PWM_STATUS_CLK_OK = false)) ∧
    (∃ s : State, hasBit (s.rd Reg.CLK_STATUS_LOCK) 0 = false) :=
  ⟨⟨(let s := State.reset; let s := State.wr (s) (Reg.TRIP_CFG_EN 15) (b2n (true)); let s := State.wr (s) (Reg.TRIP_CFG_SRC 15) (1);
      State.wr (s) (Reg.TRIP_MASK_PAIRS 15) (putBit (s.rd (Reg.TRIP_MASK_PAIRS 15)) 23 (true))), 15, 23, shaped (by decide +kernel),
      by decide +kernel⟩,
   ⟨(let s := State.reset; let s := State.wr (s) (Reg.TRIP_CFG_EN 15) (b2n (true));
      let s := State.setLine (s) 15 ({ (s.line 15) with source := true }); let s := State.wr (s) (Reg.TRIP_CFG_ACTION 15) (1);
      State.wr (s) (Reg.TRIP_MASK_PAIRS 15) (putBit (s.rd (Reg.TRIP_MASK_PAIRS 15)) 23 (true))), 15, 23, shaped (by decide +kernel),
      by decide +kernel⟩,
   ⟨State.reset, 15, shaped (by decide +kernel), by decide +kernel⟩,
   ⟨(let s := State.reset; State.wr (s) Reg.TRIP_LATCH_LATCH (putBit (s.rd Reg.TRIP_LATCH_LATCH) 15 (true))), Master.mc, 15,
      shaped (by decide +kernel), by decide +kernel⟩,
   ⟨(let s := State.reset; let s := State.wr (s) Reg.TRIP_LATCH_LATCH (putBit (s.rd Reg.TRIP_LATCH_LATCH) 15 (true));
      (s.wr (Reg.TRIP_CFG_EN 15) 1).setLine 15 { s.line 15 with source := true, blanking := false }), Master.mc, 15,
      shaped (by decide +kernel), by decide +kernel⟩,
   ⟨(let s := State.reset; State.wr (s) Reg.PWM_ESC_PAIRS (putBit (s.rd Reg.PWM_ESC_PAIRS) 23 (true))), Master.mc, 23,
      shaped (by decide +kernel), by decide +kernel⟩,
   ⟨(let s := State.reset; let s := State.wr (s) Reg.CLK_STATUS_LOCK (putBit (s.rd Reg.CLK_STATUS_LOCK) 0 (true));
      State.wr (s) Reg.PWM_STATUS_CLK_OK (b2n (true))), Master.mc, by decide +kernel⟩,
   ⟨State.reset, Master.mc, by decide +kernel⟩,
   ⟨State.reset, by decide +kernel⟩⟩

theorem witness_LoopEngineJobsAct :
    (∃ (s : State) (slot x : Nat) (o : OrbOp), s.regsOk ∧ s.opOf? slot 2 = some o ∧ o.arga % 2 = x ∧
      s.on (Reg.LE_STATUS_COVERING (1 - x)) = false ∧ s.leState x = State.leReady ∧ fieldOf o.arga 8 8 < Le.njob (s.leActive x) ∧
      (s.le x).queue = [] ∧ (s.le x).run = none) ∧
    (∃ (s : State) (slot x : Nat) (o : OrbOp) (r : LeRun), s.opOf? slot 2 = some o ∧ o.arga % 2 = x ∧
      s.on (Reg.LE_STATUS_COVERING (1 - x)) = false ∧ s.leState x = State.leReady ∧ fieldOf o.arga 8 8 < Le.njob (s.leActive x) ∧
      (s.le x).queue.length < 16 ∧ (s.le x).run = some r) ∧
    (∃ (s : State) (slot x : Nat) (o : OrbOp), s.opOf? slot 2 = some o ∧ o.arga % 2 = x ∧ s.on (Reg.LE_STATUS_COVERING (1 - x)) = false ∧
      s.leState x ≠ State.leReady) ∧
    (∃ (s : State) (e : Nat) (r : LeRun), e < 2 ∧ s.regsOk ∧ (s.le e).run = some r ∧ r.job.owner = e ∧ r.job.job < 16 ∧
      r.job.slot < 256 ∧ (s.le e).queue = []) ∧
    (∃ (s : State) (e slot : Nat) (h : LeHeld), e < 2 ∧ (s.le e).held.find? (fun h => h.job.slot == slot) = some h) ∧
    (∃ (s : State) (e : Nat) (r : LeRun), e < 2 ∧ s.regsOk ∧ (s.le e).run = some r ∧ (s.le e).queue = [] ∧ r.job.slot < 256 ∧
      (Le.jobDef (s.program e r.job.owner) r.job.job).phase = true) ∧
    (∃ (s : State) (e : Nat), e < 2 ∧ s.regsOk ∧ s.leState e = State.leReady ∧ (s.le e).held = [] ∧
      s.on (Reg.LE_STATUS_COVERING e) = false ∧ s.leState (1 - e) = State.leReady ∧ s.on (Reg.LE_STATUS_COVER_READY (1 - e)) = true) ∧
    (∃ (s : State) (e : Nat) (r : LeRun), e < 2 ∧ s.regsOk ∧ s.leState e = State.leReady ∧ (s.le e).run = some r ∧ (s.le e).held = [] ∧
      s.on (Reg.LE_STATUS_COVER_READY (1 - e)) = false) ∧
    (∃ (s : State) (slot e c n : Nat) (o : OrbOp), s.opOf? slot 4 = some o ∧ o.arga % 2 = e ∧ fieldOf o.arga 8 4 = c ∧
      o.argb % 65536 = n ∧ 0 < n ∧ s.on (Reg.LE_CAP_CFG_EN e c) = true ∧ s.on (Reg.LE_CAP_CFG_MODE e c) = true) ∧
    (∃ (s : State) (slot : Nat) (o : OrbOp), s.opOf? slot 4 = some o ∧ o.argb % 65536 = 0) ∧
    (∃ (s : State) (e c slot n : Nat), e < 2 ∧ c < 16 ∧ (s.le e).caps.length = 16 ∧ (s.cap e c).burst = some (slot, n) ∧ 1 < n ∧
      0 < s.capSigs e c ∧ 4 + s.capSigs e c * ((s.cap e c).count + 1) ≤ (s.capRegion e c).2) :=
  ⟨⟨(let s := State.reset; let s := s.setLe 1 { s.le 1 with img0 := [(1, 3 * 256)], img1 := [(1, 3 * 256)] };
      let s := { s with orbit := { s.orbit with ops := [({ slot := 255, tgt := 2, arga := 513, argb := 0, tag := 0, epoch := 0, sent := true } : OrbOp)] } };
      State.wr (s) (Reg.LE_STATUS_STATE 1) (State.leReady)),
      255, 1, { slot := 255, tgt := 2, arga := 513, argb := 0, tag := 0, epoch := 0, sent := true }, by decide +kernel⟩,
   ⟨(let s := State.reset; let s := s.setLe 1 { s.le 1 with img0 := [(1, 3 * 256)], img1 := [(1, 3 * 256)] };
      let s := { s with orbit := { s.orbit with ops := [({ slot := 255, tgt := 2, arga := 513, argb := 0, tag := 0, epoch := 0, sent := true } : OrbOp)] } };
      let s := State.wr (s) (Reg.LE_STATUS_STATE 1) (State.leReady);
      State.setLe (s) 1 ({ (s.le 1) with run := some ({ job := { slot := 0, job := 0, owner := 0, tag := 0, epoch := 0 }, modes := 0, inputs := [], ticks := 0, thetaB := 0, inc := 0, period := 0, freq := 0, boundary := 0 } : LeRun) })),
      255, 1, { slot := 255, tgt := 2, arga := 513, argb := 0, tag := 0, epoch := 0, sent := true }, { job := { slot := 0, job := 0, owner := 0, tag := 0, epoch := 0 }, modes := 0, inputs := [], ticks := 0, thetaB := 0, inc := 0, period := 0, freq := 0, boundary := 0 }, by decide +kernel⟩,
   ⟨(let s := State.reset;
      { s with orbit := { s.orbit with ops := [({ slot := 0, tgt := 2, arga := 0, argb := 0, tag := 0, epoch := 0, sent := true } : OrbOp)] } }),
      0, 0, { slot := 0, tgt := 2, arga := 0, argb := 0, tag := 0, epoch := 0, sent := true }, by decide +kernel⟩,
   ⟨(let s := State.reset;
      State.setLe (s) 1 ({ (s.le 1) with run := some ({ job := { slot := 0, job := 0, owner := 1, tag := 0, epoch := 0 }, modes := 0, inputs := [], ticks := 0, thetaB := 0, inc := 0, period := 0, freq := 0, boundary := 0 } : LeRun) })),
      1, { job := { slot := 0, job := 0, owner := 1, tag := 0, epoch := 0 }, modes := 0, inputs := [], ticks := 0, thetaB := 0, inc := 0, period := 0, freq := 0, boundary := 0 }, by decide +kernel⟩,
   ⟨(let s := State.reset;
      s.setLe 1 { s.le 1 with held := [({ job := { slot := 0, job := 0, owner := 0, tag := 0, epoch := 0 }, outs := [], commit := false, undo := [] } : LeHeld)] }),
      1, 0, { job := { slot := 0, job := 0, owner := 0, tag := 0, epoch := 0 }, outs := [], commit := false, undo := [] }, by decide +kernel⟩,
   ⟨(let s := State.reset; let s := s.setLe 1 { s.le 1 with img0 := [(8, 2 ^ 16)], img1 := [(8, 2 ^ 16)] };
      State.setLe (s) 1 ({ (s.le 1) with run := some ({ job := { slot := 255, job := 2, owner := 1, tag := 0, epoch := 0 }, modes := 0, inputs := [], ticks := 0, thetaB := 0, inc := 0, period := 0, freq := 0, boundary := 0 } : LeRun) })),
      1, { job := { slot := 255, job := 2, owner := 1, tag := 0, epoch := 0 }, modes := 0, inputs := [], ticks := 0, thetaB := 0, inc := 0, period := 0, freq := 0, boundary := 0 }, by decide +kernel⟩,
   ⟨(let s := State.reset; let s := State.wr (s) (Reg.LE_STATUS_STATE 1) (State.leReady);
      let s := State.wr (s) (Reg.LE_STATUS_STATE (1 - 1)) (State.leReady);
      State.wr (s) (Reg.LE_STATUS_COVER_READY (1 - 1)) (b2n (true))), 1, by decide +kernel⟩,
   ⟨(let s := State.reset; let s := State.wr (s) (Reg.LE_STATUS_STATE 1) (State.leReady);
      State.setLe (s) 1 ({ (s.le 1) with run := some ({ job := { slot := 0, job := 0, owner := 0, tag := 0, epoch := 0 }, modes := 0, inputs := [], ticks := 0, thetaB := 0, inc := 0, period := 0, freq := 0, boundary := 0 } : LeRun) })),
      1, { job := { slot := 0, job := 0, owner := 0, tag := 0, epoch := 0 }, modes := 0, inputs := [], ticks := 0, thetaB := 0, inc := 0, period := 0, freq := 0, boundary := 0 }, by decide +kernel⟩,
   ⟨(let s := State.reset;
      let s := { s with orbit := { s.orbit with ops := [({ slot := 0, tgt := 4, arga := 0, argb := 1, tag := 0, epoch := 0, sent := true } : OrbOp)] } };
      let s := State.wr (s) (Reg.LE_CAP_CFG_EN 0 0) (b2n (true)); State.wr (s) (Reg.LE_CAP_CFG_MODE 0 0) (b2n (true))),
      0, 0, 0, 1, { slot := 0, tgt := 4, arga := 0, argb := 1, tag := 0, epoch := 0, sent := true }, by decide +kernel⟩,
   ⟨(let s := State.reset;
      { s with orbit := { s.orbit with ops := [({ slot := 0, tgt := 4, arga := 0, argb := 0, tag := 0, epoch := 0, sent := true } : OrbOp)] } }),
      0, { slot := 0, tgt := 4, arga := 0, argb := 0, tag := 0, epoch := 0, sent := true }, by decide +kernel⟩,
   ⟨(let s := State.reset; State.setCap (s) 1 15 ({ (s.cap 1 15) with burst := some (0, 2) })), 1, 15, 0, 2, by decide +kernel⟩⟩

theorem witness_LoopEngineStateCommandsAct :
    (∃ (s : State) (y : Nat), y < 2 ∧ (s.le y).failover = true ∧ s.leState y = State.leReady) ∧
    (∃ (s : State) (m : Master) (e : Nat), e < 2 ∧ s.right m (0x40050018 + 0x8000 * e) .cr = .allow ∧
      s.on (Reg.LE_STATUS_LOAD_BUSY e) = true) ∧
    (∃ (s : State) (m : Master) (e : Nat), e < 2 ∧ s.regsOk ∧ s.right m (0x40050018 + 0x8000 * e) .cr = .allow ∧
      s.on (Reg.LE_STATUS_LOAD_BUSY e) = false ∧ Le.check (s.leInactive e) (s.leState e) s.budget (s.capSigs e) = 1) ∧
    (∃ (s : State) (e : Nat), e < 2 ∧ s.regsOk ∧ (s.le e).accepted = true ∧ s.leState e = State.leEmpty ∧
      s.rd (Reg.LE_STATUS_ACTIVE_BANK e) ≤ 1) ∧
    (∃ (s : State) (m : Master) (e : Nat), e < 2 ∧ s.regsOk ∧ s.right m (0x40050000 + 0x8000 * e) .cr = .allow ∧
      s.leState e = State.leOff) ∧
    (∃ (s : State) (m : Master) (e : Nat), e < 2 ∧ s.regsOk ∧ s.right m (0x40050000 + 0x8000 * e) .cr = .allow ∧
      s.leState e = State.leReady ∧ (s.le e).run = none ∧ (s.le e).queue = [] ∧ (s.le e).held = [] ∧
      s.on (Reg.LE_STATUS_COVERING e) = false) ∧
    (∃ (s : State) (m : Master) (e : Nat), e < 2 ∧ s.right m (0x40050000 + 0x8000 * e) .cr = .allow ∧ s.leState e = State.leReady ∧
      ((s.le e).run.isSome = true ∨ s.on (Reg.LE_STATUS_COVERING e) = true)) ∧
    (∃ (s : State) (e : Nat), e < 2 ∧ s.leState e = State.leSelftest) ∧
    (∃ (s : State) (m : Master) (e : Nat), e < 2 ∧ s.regsOk ∧ s.right m (0x40050018 + 0x8000 * e) .cr = .allow ∧
      s.leState e = State.leFaulted) ∧
    (∃ (s : State) (m : Master) (e : Nat), e < 2 ∧ s.right m (0x40050018 + 0x8000 * e) .cr = .allow ∧ s.leState e = State.leReady ∧
      s.on (Reg.LE_STATUS_COVERING (1 - e)) = true) ∧
    (∃ (s : State) (e : Nat), e < 2 ∧ s.regsOk ∧ (s.le e).returning = true) ∧
    (∃ (s : State) (m : Master) (e i : Nat), e < 2 ∧ i < 4 ∧ s.right m (0x40050300 + 0x8000 * e + 4 * i) .cr = .allow ∧ s.regsOk ∧
      s.on (Reg.LE_INJ_ARM e i) = false ∧ (s.le e).injStart.length = 4) ∧
    (∃ (s : State) (e i : Nat), e < 2 ∧ i < 4 ∧ s.on (Reg.LE_INJ_BUSY e i) = true ∧ s.rd (Reg.LE_INJ_FRAMES e i) ≠ 0 ∧
      s.rd (Reg.LE_INJ_FRAMES e i) ≤ (s.rd Reg.ORB_FRAME_COUNT + turn - nth (s.le e).injStart i 0) % turn) ∧
    (∃ (s : State) (m : Master) (e : Nat), e < 2 ∧ s.right m (0x40050040 + 0x8000 * e) .cr = .allow) ∧
    (∃ (s : State) (m : Master) (e i : Nat), e < 2 ∧ i < 2048 ∧ s.right m (0x40052000 + 0x8000 * e + 4 * i) .cr = .allow ∧
      s.on (Reg.LE_STATUS_LOAD_BUSY e) = false) :=
  ⟨⟨(let s := State.reset; let s := State.setLe (s) 1 ({ (s.le 1) with failover := true });
      State.wr (s) (Reg.LE_STATUS_STATE 1) (State.leReady)), 1, by decide +kernel⟩,
   ⟨(let s := State.reset; State.wr (s) (Reg.LE_STATUS_LOAD_BUSY 1) (b2n (true))), Master.mc, 1, by decide +kernel⟩,
   ⟨(let s := State.reset;
      let s := s.setLe 1 { s.le 1 with img0 := [(0, 0x14C45), (1, 257), (2, 448), (128, 7 + 64 * 256)], img1 := [(0, 0x14C45), (1, 257), (2, 448), (128, 7 + 64 * 256)] };
      s.wr (Reg.LE_STATUS_STATE 1) 2), Master.mc, 1, by decide +kernel⟩,
   ⟨(let s := State.reset; let s := State.setLe (s) 1 ({ (s.le 1) with accepted := true });
      State.wr (s) (Reg.LE_STATUS_STATE 1) (State.leEmpty)), 1, by decide +kernel⟩,
   ⟨State.reset, Master.mc, 1, by decide +kernel⟩,
   ⟨(let s := State.reset; State.wr (s) (Reg.LE_STATUS_STATE 1) (State.leReady)), Master.mc, 1, by decide +kernel⟩,
   ⟨(let s := State.reset; let s := State.wr (s) (Reg.LE_STATUS_STATE 1) (State.leReady);
      s.setLe 1 { s.le 1 with run := some ⟨⟨255, 2, 1, 0, 0⟩, 0, [], 0, 0, 0, 0, 0, 0⟩ }), Master.mc, 1, by decide +kernel⟩,
   ⟨(let s := State.reset; State.wr (s) (Reg.LE_STATUS_STATE 1) (State.leSelftest)), 1, by decide +kernel⟩,
   ⟨(let s := State.reset; State.wr (s) (Reg.LE_STATUS_STATE 1) (State.leFaulted)), Master.mc, 1, by decide +kernel⟩,
   ⟨(let s := State.reset; let s := State.wr (s) (Reg.LE_STATUS_STATE 1) (State.leReady);
      State.wr (s) (Reg.LE_STATUS_COVERING (1 - 1)) (b2n (true))), Master.mc, 1, by decide +kernel⟩,
   ⟨(let s := State.reset; State.setLe (s) 1 ({ (s.le 1) with returning := true })), 1, by decide +kernel⟩,
   ⟨State.reset, Master.mc, 1, 3, by decide +kernel⟩,
   ⟨(let s := State.reset; let s := State.wr (s) (Reg.LE_INJ_BUSY 1 3) (b2n (true));
      let s := State.wr (s) (Reg.LE_INJ_FRAMES 1 3) ((0) + 1);
      State.wr (s) Reg.ORB_FRAME_COUNT (((s.rd Reg.ORB_FRAME_COUNT + turn - nth (s.le 1).injStart 3 0) / turn * turn + (s.rd (Reg.LE_INJ_FRAMES 1 3))))),
      1, 3, by decide +kernel⟩,
   ⟨State.reset, Master.mc, 1, by decide +kernel⟩,
   ⟨State.reset, Master.mc, 1, 2047, by decide +kernel⟩⟩

theorem witness_DriveLegStatesMove :
    (∃ (s : State) (m : Master) (n : Nat), n < 6 ∧ s.regsOk ∧ s.right m 0x40020000 .cr = .allow ∧ s.cpRun = false ∧
      s.legState n = State.legUnused) ∧
    (∃ (s : State) (m : Master) (n : Nat), n < 6 ∧ s.right m 0x40020000 .cr = .allow ∧ s.cpRun = true) ∧
    (∃ (s : State) (n : Nat), s.Shaped ∧ n < 6 ∧ s.regsOk ∧ s.legState n = State.legInit) ∧
    (∃ (s : State) (n : Nat), n < 6 ∧ s.regsOk ∧ s.legState n = State.legTest ∧ (s.leg n).testFrom = State.legInit ∧
      (s.leg n).testSel = 511) ∧
    (∃ (s : State) (m : Master) (n : Nat), s.Shaped ∧ n < 6 ∧ s.regsOk ∧ s.right m (State.legAddr n 0x44) .cr = .allow ∧
      s.legState n = State.legOff ∧ s.rd (Reg.DRV_TEST_CMD_SEL n) ≠ 0) ∧
    (∃ (s : State) (m : Master) (n : Nat), n < 6 ∧ s.right m (State.legAddr n 0x44) .cr = .allow ∧ s.legState n = State.legArmed) ∧
    (∃ (s : State) (m : Master) (n : Nat), n < 6 ∧ s.right m (State.legAddr n 0) .cr = .allow ∧ s.legState n = State.legOff ∧
      s.armable n = true) ∧
    (∃ (s : State) (m : Master) (n : Nat), n < 6 ∧ s.right m (State.legAddr n 0) .cr = .allow ∧ s.legState n = State.legOff ∧
      s.armable n = false) ∧
    (∃ (s : State) (n : Nat), s.Shaped ∧ n < 6 ∧ s.regsOk ∧ s.legState n = State.legOff ∧ (s.leg n).armPend = true ∧ s.armable n = true) ∧
    (∃ (s : State) (m : Master) (n : Nat), n < 6 ∧ s.regsOk ∧ s.right m (State.legAddr n 0) .cr = .allow ∧
      s.legState n = State.legArmed) ∧
    (∃ (s : State) (n : Nat), n < 6 ∧ s.regsOk ∧ s.legState n = State.legArmed ∧ s.on (Reg.DRV_CFG_DSAT_EN_H n) = true ∧
      s.on (Reg.DRV_STATE_BS_HOLD n) = false ∧ s.rd (Reg.DRV_STATE_TRIES n) < 15) ∧
    (∃ (s : State) (n c : Nat), n < 6 ∧ 4 ≤ c ∧ c ≤ 8 ∧ s.regsOk ∧ s.legState n = State.legArmed ∧ s.rd (Reg.DRV_STATE_TRIES n) < 15) ∧
    (∃ (s : State) (n : Nat), n < 6 ∧ s.regsOk ∧ s.legState n = State.legSoftOff ∧
      s.rd (Reg.DRV_CFG_RETRY_MAX n) < s.rd (Reg.DRV_STATE_TRIES n)) ∧
    (∃ (s : State) (n : Nat), n < 6 ∧ s.legState n = State.legWait ∧ s.legPresent n = false ∧ s.on (Reg.DRV_STATE_LINK_OK n) = true ∧
      s.on (Reg.DRV_STATE_EN_CUT n) = false) ∧
    (∃ (s : State) (n : Nat), n < 6 ∧ s.regsOk ∧ s.cpRun = false ∧ s.legState n = State.legLatched ∧ s.legPresent n = false ∧
      s.on (Reg.DRV_STATE_LINK_OK n) = true) ∧
    (∃ (s : State) (n : Nat), n < 6 ∧ s.cpRun = false ∧ s.legState n = State.legLatched ∧ s.legPresent n = true) ∧
    (∃ (s : State) (p : Nat), p < 24 ∧ s.regsOk ∧ hasBit (s.rd Reg.PWM_ESC_PAIRS) p = false ∧ s.rd (Reg.PR_STATUS_XLOCK_TURN p) < 7) ∧
    (∃ (s : State) (p : Nat), p < 24 ∧ hasBit (s.rd Reg.PWM_ESC_PAIRS) p = true) :=
  ⟨⟨State.reset, Master.mc, 5, by decide +kernel⟩,
   ⟨(let s := State.reset; let s := (s.wr Reg.CROSS_CTRL_CP_RUN 0); let s := State.wr (s) Reg.CROSS_CTRL_CP_RUN (b2n (true));
      let s := (s.wr Reg.CROSS_CTRL_CP_RUN 0); let s := State.wr (s) Reg.CROSS_CTRL_CP_RUN (b2n (true));
      ((s.wr Reg.CROSS_CTRL_CP_RUN 1).wr (State.pairStateFld .a) 4).wr (State.fenceFld .a) 0), Master.pairA, 5, by decide +kernel⟩,
   ⟨(let s := State.reset; State.wr (s) (Reg.DRV_STATE_STATE 5) (State.legInit)), 5, shaped (by decide +kernel), by decide +kernel⟩,
   ⟨(let s := State.reset; let s := State.wr (s) (Reg.DRV_STATE_STATE 5) (State.legTest);
      let s := State.setLeg (s) 5 ({ (s.leg 5) with testFrom := State.legInit });
      State.setLeg (s) 5 ({ (s.leg 5) with testSel := 511 })), 5, by decide +kernel⟩,
   ⟨(let s := State.reset; State.wr (s) (Reg.DRV_STATE_STATE 5) (State.legOff)), Master.mc, 5, shaped (by decide +kernel),
      by decide +kernel⟩,
   ⟨(let s := State.reset; State.wr (s) (Reg.DRV_STATE_STATE 5) (State.legArmed)), Master.mc, 5, by decide +kernel⟩,
   ⟨(let s := State.reset; let s := State.wr (s) (Reg.DRV_STATE_STATE 5) (State.legOff);
      ((s.wr (Reg.DRV_STATE_TEST_OK 5) (b2n true)).wr (Reg.DRV_STATE_LINK_OK 5) 1).setLeg 5 { s.leg 5 with present := 0 }), Master.mc, 5,
      by decide +kernel⟩,
   ⟨(let s := State.reset; State.wr (s) (Reg.DRV_STATE_STATE 5) (State.legOff)), Master.mc, 5, by decide +kernel⟩,
   ⟨(let s := State.reset; let s := State.wr (s) (Reg.DRV_STATE_STATE 5) (State.legOff);
      let s := State.setLeg (s) 5 ({ (s.leg 5) with armPend := true });
      ((s.wr (Reg.DRV_STATE_TEST_OK 5) (b2n true)).wr (Reg.DRV_STATE_LINK_OK 5) 1).setLeg 5 { s.leg 5 with present := 0 }), 5,
      shaped (by decide +kernel), by decide +kernel⟩,
   ⟨(let s := State.reset; State.wr (s) (Reg.DRV_STATE_STATE 5) (State.legArmed)), Master.mc, 5, by decide +kernel⟩,
   ⟨(let s := State.reset; State.wr (s) (Reg.DRV_STATE_STATE 5) (State.legArmed)), 5, by decide +kernel⟩,
   ⟨(let s := State.reset; State.wr (s) (Reg.DRV_STATE_STATE 5) (State.legArmed)), 5, 8, by decide +kernel⟩,
   ⟨(let s := State.reset; let s := State.wr (s) (Reg.DRV_STATE_STATE 5) (State.legSoftOff);
      State.wr (s) (Reg.DRV_STATE_TRIES 5) ((s.rd (Reg.DRV_CFG_RETRY_MAX 5)) + 1)), 5, by decide +kernel⟩,
   ⟨(let s := State.reset; let s := State.wr (s) (Reg.DRV_STATE_STATE 5) (State.legWait);
      State.wr (s) (Reg.DRV_STATE_LINK_OK 5) (b2n (true))), 5, by decide +kernel⟩,
   ⟨(let s := State.reset; let s := State.wr (s) (Reg.DRV_STATE_STATE 5) (State.legLatched);
      State.wr (s) (Reg.DRV_STATE_LINK_OK 5) (b2n (true))), 5, by decide +kernel⟩,
   ⟨(let s := State.reset; let s := State.wr (s) (Reg.DRV_STATE_STATE 5) (State.legLatched);
      s.setLeg 5 { s.leg 5 with present := b2n true }), 5, by decide +kernel⟩,
   ⟨State.reset, 23, by decide +kernel⟩,
   ⟨(let s := State.reset; State.wr (s) Reg.PWM_ESC_PAIRS (putBit (s.rd Reg.PWM_ESC_PAIRS) 23 (true))), 23, by decide +kernel⟩⟩

theorem witness_DriveReportsAct :
    (∃ (s : State) (n : Nat), n < 6 ∧ s.on (Reg.DRV_STATE_EN_CUT n) = false) ∧
    (∃ (s : State) (n : Nat), s.Shaped ∧ n < 6 ∧ s.regsOk ∧ s.on (Reg.DRV_STATE_EN_CUT n) = true ∧ s.safety.cutSc = false ∧
      s.safety.cutHsl = false) ∧
    (∃ s : State, (s.safety.cutSc = true ∨ s.safety.cutHsl = true)) ∧
    (∃ (s : State) (n : Nat), s.Shaped ∧ n < 6 ∧ s.regsOk ∧ s.legState n = State.legArmed ∧ s.rd (Reg.DRV_XLOCK_TURN n) < 7) ∧
    (∃ (s : State) (n : Nat), n < 6 ∧ s.on (Reg.DRV_CFG_BOOT n) = true ∧ s.on (Reg.DRV_STATE_BS_WARN n) = false ∧
      s.legState n ≠ State.legUnused) ∧
    (∃ (s : State) (n : Nat), n < 6 ∧ s.on (Reg.DRV_CFG_BOOT n) = true ∧ s.on (Reg.DRV_STATE_BS_HOLD n) = false ∧
      s.legState n = State.legArmed) ∧
    (∃ (s : State) (n : Nat), n < 6 ∧ s.on (Reg.DRV_STATE_BS_WARN n) = true) ∧
    (∃ (s : State) (n k : Nat), n < 6 ∧ s.on (Reg.DRV_STATE_ADAPT_READY n) = true ∧ s.legState n = State.legArmed ∧
      s.rd (Reg.DRV_ADAPT_H_MODE_ON n) ≠ 0 ∧ k < 1023 ∧ s.on (Reg.DRV_STATE_BS_HOLD n) = false) ∧
    (∃ (s : State) (n : Nat), s.Shaped ∧ n < 6 ∧ s.regsOk ∧ s.legState n = State.legOff) ∧
    (∃ (s : State) (n k : Nat), n < 6 ∧ s.regsOk ∧ s.legState n = State.legArmed ∧ s.rd (Reg.DRV_TEMP_WARN n) ≤ k ∧ k < 256 ∧
      (s.leg n).warnH = false) ∧
    (∃ (s : State) (m : Master), s.right m 0x40020010 .cr = .allow) :=
  ⟨⟨State.reset, 5, by decide +kernel⟩,
   ⟨(let s := State.reset; State.wr (s) (Reg.DRV_STATE_EN_CUT 5) (b2n (true))), 5, shaped (by decide +kernel), by decide +kernel⟩,
   ⟨(let s := State.reset; { s with safety := { s.safety with cutSc := true } }), by decide +kernel⟩,
   ⟨(let s := State.reset; State.wr (s) (Reg.DRV_STATE_STATE 5) (State.legArmed)), 5, shaped (by decide +kernel), by decide +kernel⟩,
   ⟨(let s := State.reset; let s := State.wr (s) (Reg.DRV_CFG_BOOT 5) (b2n (true));
      State.wr (s) (Reg.DRV_STATE_STATE 5) ((State.legUnused) + 1)), 5, by decide +kernel⟩,
   ⟨(let s := State.reset; let s := State.wr (s) (Reg.DRV_CFG_BOOT 5) (b2n (true));
      State.wr (s) (Reg.DRV_STATE_STATE 5) (State.legArmed)), 5, by decide +kernel⟩,
   ⟨(let s := State.reset; State.wr (s) (Reg.DRV_STATE_BS_WARN 5) (b2n (true))), 5, by decide +kernel⟩,
   ⟨(let s := State.reset; let s := State.wr (s) (Reg.DRV_STATE_ADAPT_READY 5) (b2n (true));
      let s := State.wr (s) (Reg.DRV_STATE_STATE 5) (State.legArmed); State.wr (s) (Reg.DRV_ADAPT_H_MODE_ON 5) ((0) + 1)), 5, 1022,
      by decide +kernel⟩,
   ⟨(let s := State.reset; State.wr (s) (Reg.DRV_STATE_STATE 5) (State.legOff)), 5, shaped (by decide +kernel), by decide +kernel⟩,
   ⟨(let s := State.reset; State.wr (s) (Reg.DRV_STATE_STATE 5) (State.legArmed)), 5, 255, by decide +kernel⟩,
   ⟨State.reset, Master.mc, by decide +kernel⟩⟩

theorem witness_ConvertersConvertAndDeliver :
    (∃ (s : State) (c : Nat) (x : SarConv), s.Shaped ∧ c < 8 ∧ s.regsOk ∧ s.sarState c = State.sarRun ∧ (s.sar c).cur = some x ∧
      x.inj = none ∧ nth (s.sar c).cfg.avg x.chan 0 = 0 ∧ nth (s.sar c).wins x.chan {} = {}) ∧
    (∃ (s : State) (c : Nat) (x : SarConv), s.Shaped ∧ c < 8 ∧ s.regsOk ∧ s.sarState c = State.sarRun ∧ (s.sar c).cur = some x ∧
      x.inj = none ∧ x.chan < (s.sar c).wins.length ∧ (nth (s.sar c).wins x.chan {}).n + 1 < 2 ^ nth (s.sar c).cfg.avg x.chan 0) ∧
    (∃ (s : State) (c : Nat) (x : SarConv) (pos : Nat) (last : Bool) (op : Option Nat), s.Shaped ∧ c < 8 ∧ s.regsOk ∧
      s.sarState c = State.sarRun ∧ (s.sar c).cur = some x ∧ x.inj = some (pos, last, op) ∧ s.on (Reg.SAR_CFG_INJ_EVT c) = true) ∧
    (∃ (s : State) (c w : Nat) (x : SarConv), c < 8 ∧ s.sarState c = State.sarRun ∧ (s.sar c).cfg.cmpEn = true ∧
      (s.sar c).cfg.cmpSrc = w ∧ (s.sar c).run = none ∧ (s.sar c).cur = some x) ∧
    (∃ (s : State) (c slot : Nat) (o : OrbOp) (r : SarSeq), s.Shaped ∧ c < 8 ∧ s.sarState c = State.sarRun ∧ s.opOf? slot 1 = some o ∧
      hasBit o.arga c = true ∧ (s.sar c).run = some r ∧ (s.sar c).queue = none) ∧
    (∃ (s : State) (m : Master) (c : Nat) (x : SarConv), c < 8 ∧ s.right m 0x4003000C .cr = .allow ∧ s.sarState c = State.sarRun ∧
      (s.sar c).run = none ∧ (s.sar c).cur = some x) ∧
    (∃ (s : State) (m : Master) (c : Nat) (r q : SarSeq), c < 8 ∧ s.right m 0x4003000C .cr = .allow ∧ s.sarState c = State.sarRun ∧
      (s.sar c).run = some r ∧ (s.sar c).queue = some q) ∧
    (∃ (s : State) (m : Master) (p : PairId) (c w : Nat) (r : List Nat), c < 8 ∧ State.masterPair? m = some p ∧
      s.on (State.fenceFld p) = false ∧ s.pairState p = State.pairActive ∧ (s.sar c).fifo = w :: r) ∧
    (∃ (s : State) (m : Master) (p : PairId) (c : Nat), c < 8 ∧ State.masterPair? m = some p ∧ s.on (State.fenceFld p) = false ∧
      s.pairState p = State.pairActive ∧ (s.sar c).fifo = []) ∧
    (∃ (s : State) (m : Master) (p : PairId) (c w : Nat) (r : List Nat), c < 8 ∧ State.masterPair? m = some p ∧
      s.on (State.fenceFld p) = false ∧ s.pairState p = State.pairStandby ∧ (s.sar c).fifo = w :: r) ∧
    (∃ (s : State) (c slot : Nat) (q : SarSeq), c < 8 ∧ q.op = some slot ∧ q.tag ≠ s.tagByte ∧ (s.sar c).run = none ∧
      (s.sar c).queue = some q) ∧
    (∃ (s : State) (c slot : Nat) (q : SarSeq) (x : SarConv), c < 8 ∧ q.op = some slot ∧ q.tag ≠ s.tagByte ∧ (s.sar c).run = some q ∧
      (s.sar c).queue = none ∧ (s.sar c).cur = some x ∧ x.inj.isSome = true) ∧
    (∃ (s : State) (m : Master) (c : Nat), c < 8 ∧ s.regsOk ∧ s.right m 0x40030000 .cr = .allow ∧ s.sarState c = State.sarOff ∧
      s.on Reg.SNS_LINK_DOWN = false) ∧
    (∃ (s : State) (m : Master) (c : Nat), s.Shaped ∧ c < 8 ∧ s.regsOk ∧ s.right m 0x40030000 .cr = .allow) ∧
    (∃ (s : State) (c : Nat), s.Shaped ∧ c < 8 ∧ s.regsOk ∧ s.sarState c = State.sarInit ∧ (s.sar c).ready = none ∧
      (s.sar c).run = none) ∧
    (∃ (s : State) (c : Nat) (c8 c9 c11 : Int), s.Shaped ∧ c < 8 ∧ s.regsOk ∧ s.sarState c = State.sarCheck ∧ -16 ≤ c8 ∧ c8 ≤ 16 ∧
      -5120 ≤ c9 ∧ c9 ≤ 20480 ∧ c11 ≤ -32752 ∧ (s.sar c).checkPend = false) ∧
    (∃ (s : State) (c : Nat) (c8 : Int), s.Shaped ∧ c < 8 ∧ s.regsOk ∧ s.sarState c = State.sarCheck ∧ 16 < c8) ∧
    (∃ (s : State) (c : Nat), s.Shaped ∧ c < 8 ∧ s.regsOk ∧ (s.sarState c = State.sarRun ∨ s.sarState c = State.sarCheck)) ∧
    (∃ (s : State) (m : Master) (c : Nat), s.Shaped ∧ c < 8 ∧ s.regsOk ∧ s.right m 0x4003000C .cr = .allow ∧
      s.sarState c = State.sarRun) ∧
    (∃ (s : State) (c : Nat), s.Shaped ∧ c < 8 ∧ s.regsOk ∧ s.sarState c = State.sarRun ∧ (s.sar c).flight = [] ∧
      (s.sar c).fifo.length < 64) ∧
    (∃ (s : State) (c n : Nat), s.Shaped ∧ c < 8 ∧ 8 < n ∧ s.regsOk ∧ s.sarState c = State.sarRun) ∧
    (∃ (s : State) (m : Master) (c tick : Nat), c < 8 ∧ (s.toTick tick).right m (State.sarAddr c .scan) .cr = .allow ∧
      s.sarState c = State.sarOff) ∧
    (∃ (s : State) (m : Master) (c ch v tick : Nat), c < 8 ∧ ch < 12 ∧
      (s.toTick tick).right m (State.sarAddr c (.chcfg ch)) .cr = .allow ∧ 8 < fieldOf v 8 4) ∧
    (∃ (s : State) (c : Nat) (n : SarCfg), s.Shaped ∧ c < 8 ∧ (s.sar c).ready = some n) ∧
    (∃ (s : State) (m : Master), s.regsOk ∧ s.right m 0x40030018 .cr = .allow) :=
  ⟨⟨(let s := State.reset; let s := State.wr (s) (Reg.SAR_STATUS_STATE 7) (State.sarRun);
      State.setSar (s) 7 ({ (s.sar 7) with cur := some ({ chan := 0, gain := 0, tag := 0, inj := none, low := false } : SarConv) })),
      7, { chan := 0, gain := 0, tag := 0, inj := none, low := false }, shaped (by decide +kernel), by decide +kernel⟩,
   ⟨(let s := State.reset; let s := State.wr (s) (Reg.SAR_STATUS_STATE 7) (State.sarRun);
      let s := State.setSar (s) 7 ({ (s.sar 7) with cur := some ({ chan := 0, gain := 0, tag := 0, inj := none, low := false } : SarConv) });
      s.setSar 7 { s.sar 7 with wins := setNth (s.sar 7).wins ({ chan := 0, gain := 0, tag := 0, inj := none, low := false } : SarConv).chan {}, cfg := { (s.sar 7).cfg with avg := setNth (s.sar 7).cfg.avg ({ chan := 0, gain := 0, tag := 0, inj := none, low := false } : SarConv).chan 3 } }),
      7, { chan := 0, gain := 0, tag := 0, inj := none, low := false }, shaped (by decide +kernel), by decide +kernel⟩,
   ⟨(let s := State.reset; let s := State.wr (s) (Reg.SAR_STATUS_STATE 7) (State.sarRun);
      let s := State.setSar (s) 7 ({ (s.sar 7) with cur := some ({ chan := 0, gain := 0, tag := 0, inj := some (0, true, none), low := false } : SarConv) });
      State.wr (s) (Reg.SAR_CFG_INJ_EVT 7) (b2n (true))),
      7, { chan := 0, gain := 0, tag := 0, inj := some (0, true, none), low := false }, 0, true, none, shaped (by decide +kernel),
      by decide +kernel⟩,
   ⟨(let s := State.reset; let s := State.wr (s) (Reg.SAR_STATUS_STATE 7) (State.sarRun);
      let s := State.setSar (s) 7 ({ (s.sar 7) with cfg := { (s.sar 7).cfg with cmpEn := true } });
      State.setSar (s) 7 ({ (s.sar 7) with cur := some ({ chan := 0, gain := 0, tag := 0, inj := none, low := false } : SarConv) })),
      7, 0, { chan := 0, gain := 0, tag := 0, inj := none, low := false }, by decide +kernel⟩,
   ⟨(let s := State.reset; let s := State.wr (s) (Reg.SAR_STATUS_STATE 7) (State.sarRun);
      let s := { s with orbit := { s.orbit with ops := [({ slot := 0, tgt := 1, arga := 128, argb := 0, tag := 0, epoch := 0, sent := true } : OrbOp)] } };
      State.setSar (s) 7 ({ (s.sar 7) with run := some ({ chans := [(0, 0)], pos := 0, tag := 0, op := none } : SarSeq) })),
      7, 0, { slot := 0, tgt := 1, arga := 128, argb := 0, tag := 0, epoch := 0, sent := true }, { chans := [(0, 0)], pos := 0, tag := 0, op := none }, shaped (by decide +kernel),
      by decide +kernel⟩,
   ⟨(let s := State.reset; let s := State.wr (s) (Reg.SAR_STATUS_STATE 7) (State.sarRun);
      State.setSar (s) 7 ({ (s.sar 7) with cur := some ({ chan := 0, gain := 0, tag := 0, inj := none, low := false } : SarConv) })),
      Master.mc, 7, { chan := 0, gain := 0, tag := 0, inj := none, low := false }, by decide +kernel⟩,
   ⟨(let s := State.reset; let s := State.wr (s) (Reg.SAR_STATUS_STATE 7) (State.sarRun);
      let s := State.setSar (s) 7 ({ (s.sar 7) with run := some ({ chans := [(0, 0)], pos := 0, tag := 0, op := none } : SarSeq) });
      State.setSar (s) 7 ({ (s.sar 7) with queue := some ({ chans := [(0, 0)], pos := 0, tag := 0, op := none } : SarSeq) })),
      Master.mc, 7, { chans := [(0, 0)], pos := 0, tag := 0, op := none }, { chans := [(0, 0)], pos := 0, tag := 0, op := none }, by decide +kernel⟩,
   ⟨(let s := State.reset; let s := State.wr (s) (State.pairStateFld PairId.a) (State.pairActive);
      State.setSar (s) 7 ({ (s.sar 7) with fifo := 0 :: [] })), Master.pairA, PairId.a, 7, 0, [], by decide +kernel⟩,
   ⟨(let s := State.reset; State.wr (s) (State.pairStateFld PairId.a) (State.pairActive)), Master.pairA, PairId.a, 7, by decide +kernel⟩,
   ⟨(let s := State.reset; let s := State.wr (s) (State.pairStateFld PairId.a) (State.pairStandby);
      State.setSar (s) 7 ({ (s.sar 7) with fifo := 0 :: [] })), Master.pairA, PairId.a, 7, 0, [], by decide +kernel⟩,
   ⟨(let s := State.reset;
      State.setSar (s) 7 ({ (s.sar 7) with queue := some ({ chans := [(0, 0)], pos := 0, tag := 1, op := some 0 } : SarSeq) })),
      7, 0, { chans := [(0, 0)], pos := 0, tag := 1, op := some 0 }, by decide +kernel⟩,
   ⟨(let s := State.reset;
      let s := State.setSar (s) 7 ({ (s.sar 7) with run := some ({ chans := [(0, 0)], pos := 0, tag := 1, op := some 0 } : SarSeq) });
      State.setSar (s) 7 ({ (s.sar 7) with cur := some ({ chan := 0, gain := 0, tag := 0, inj := some (0, false, none), low := false } : SarConv) })),
      7, 0, { chans := [(0, 0)], pos := 0, tag := 1, op := some 0 }, { chan := 0, gain := 0, tag := 0, inj := some (0, false, none), low := false }, by decide +kernel⟩,
   ⟨(let s := State.reset; State.wr (s) Reg.SNS_LINK_DOWN (b2n (false))), Master.mc, 7, by decide +kernel⟩,
   ⟨State.reset, Master.mc, 7, shaped (by decide +kernel), by decide +kernel⟩,
   ⟨(let s := State.reset; State.wr (s) (Reg.SAR_STATUS_STATE 7) (State.sarInit)), 7, shaped (by decide +kernel), by decide +kernel⟩,
   ⟨(let s := State.reset; State.wr (s) (Reg.SAR_STATUS_STATE 7) (State.sarCheck)), 7, 0, 0, -32752, shaped (by decide +kernel),
      by decide +kernel⟩,
   ⟨(let s := State.reset; State.wr (s) (Reg.SAR_STATUS_STATE 7) (State.sarCheck)), 7, 17, shaped (by decide +kernel), by decide +kernel⟩,
   ⟨(let s := State.reset; State.wr (s) (Reg.SAR_STATUS_STATE 7) (State.sarRun)), 7, shaped (by decide +kernel), by decide +kernel⟩,
   ⟨(let s := State.reset; State.wr (s) (Reg.SAR_STATUS_STATE 7) (State.sarRun)), Master.mc, 7, shaped (by decide +kernel),
      by decide +kernel⟩,
   ⟨(let s := State.reset; State.wr (s) (Reg.SAR_STATUS_STATE 7) (State.sarRun)), 7, shaped (by decide +kernel), by decide +kernel⟩,
   ⟨(let s := State.reset; State.wr (s) (Reg.SAR_STATUS_STATE 7) (State.sarRun)), 7, 9, shaped (by decide +kernel), by decide +kernel⟩,
   ⟨State.reset, Master.mc, 7, 0, by decide +kernel⟩,
   ⟨State.reset, Master.mc, 7, 11, 2304, 0, by decide +kernel⟩,
   ⟨(let s := State.reset;
      State.setSar (s) 7 ({ (s.sar 7) with ready := some ({ mask := 0, refsel := 0, seq0 := [0], seq1 := [0], cmpSrc := 0, cmpEn := false, gain := [0, 0, 0, 0, 0, 0, 0, 0, 0, 0, 0, 0], avg := [0, 0, 0, 0, 0, 0, 0, 0, 0, 0, 0, 0], buf := 0, ovrEvt := 0 } : SarCfg) })),
      7, { mask := 0, refsel := 0, seq0 := [0], seq1 := [0], cmpSrc := 0, cmpEn := false, gain := [0, 0, 0, 0, 0, 0, 0, 0, 0, 0, 0, 0], avg := [0, 0, 0, 0, 0, 0, 0, 0, 0, 0, 0, 0], buf := 0, ovrEvt := 0 }, shaped (by decide +kernel),
      by decide +kernel⟩,
   ⟨State.reset, Master.mc, by decide +kernel⟩⟩

theorem witness_SenseLinkTakesPackets :
    (∃ (s : State) (l : Nat), l < 4 ∧ hasBit (s.rd Reg.SNS_LINK_LANE_UP) l = true ∧ nth s.slink.fails l 0 < 2) ∧
    (∃ (s : State) (l : Nat), l < 4 ∧ s.regsOk ∧ hasBit (s.rd Reg.SNS_LINK_LANE_UP) l = true ∧ nth s.slink.fails l 0 = 2) ∧
    (∃ (s : State) (l : Nat), l < 4 ∧ s.regsOk ∧ hasBit (s.rd Reg.SNS_LINK_LANE_UP) l = true ∧
      2 ≤ popCount 4 (clearBit (s.rd Reg.SNS_LINK_LANE_UP) l)) ∧
    (∃ (s : State) (l : Nat), s.Shaped ∧ l < 4 ∧ s.regsOk ∧ hasBit (s.rd Reg.SNS_LINK_LANE_UP) l = true ∧
      popCount 4 (clearBit (s.rd Reg.SNS_LINK_LANE_UP) l) < 2 ∧ s.on Reg.SNS_LINK_DOWN = false) ∧
    (∃ (s : State) (l : Nat), hasBit (s.rd Reg.SNS_LINK_LANE_UP) l = false) ∧
    (∃ (s : State) (v : Nat), s.Shaped ∧ s.regsOk ∧ s.slink.trained = false ∧ v < 16 ∧ 2 ≤ popCount 4 v) ∧
    (∃ s : State, s.slink.trained = true) ∧
    (∃ (s : State) (m : Master), s.right m 0x40030018 .cr = .allow) :=
  ⟨⟨(let s := State.reset; State.wr (s) Reg.SNS_LINK_LANE_UP (putBit (s.rd Reg.SNS_LINK_LANE_UP) 3 (true))), 3, by decide +kernel⟩,
   ⟨(let s := State.reset; let s := State.wr (s) Reg.SNS_LINK_LANE_UP (putBit (s.rd Reg.SNS_LINK_LANE_UP) 3 (true));
      { s with slink := { s.slink with fails := setNth s.slink.fails 3 (2) } }), 3, by decide +kernel⟩,
   ⟨(let s := State.reset; let s := State.wr (s) Reg.SNS_LINK_LANE_UP (putBit (s.rd Reg.SNS_LINK_LANE_UP) 3 (true));
      s.wr Reg.SNS_LINK_LANE_UP 15), 3, by decide +kernel⟩,
   ⟨(let s := State.reset; let s := State.wr (s) Reg.SNS_LINK_LANE_UP (putBit (s.rd Reg.SNS_LINK_LANE_UP) 3 (true));
      State.wr (s) Reg.SNS_LINK_DOWN (b2n (false))), 3, shaped (by decide +kernel), by decide +kernel⟩,
   ⟨State.reset, 0, by decide +kernel⟩,
   ⟨State.reset, 15, shaped (by decide +kernel), by decide +kernel⟩,
   ⟨(let s := State.reset; { s with slink := { s.slink with trained := true } }), by decide +kernel⟩,
   ⟨State.reset, Master.mc, by decide +kernel⟩⟩

theorem witness_ComparatorWindowsAct :
    (∃ (s : State) (w : Nat) (v : Int), s.Shaped ∧ w < 16 ∧ s.regsOk ∧ s.winState w = State.cmpArmed ∧
      s.on (Reg.CMP_CFG_MODE w) = false ∧ s.classA w = true ∧ s.on (Reg.CMP_CFG_HI_EN w) = true ∧ (s.win w).hold = false ∧
      hasBit (s.rd Reg.CMP_OUT_OUT) w = false ∧ (5859375 * (s.win w).cfg.thHi : Nat) < 2 * v) ∧
    (∃ (s : State) (w : Nat), w < 16 ∧ s.winState w ≠ State.cmpOff ∧ s.winState w ≠ State.cmpArmed) ∧
    (∃ (s : State) (b : Nat), b < 2 ∧ (∀ w, w < 16 → w / 8 = b → s.winState w ≠ State.cmpArmed)) ∧
    (∃ (s : State) (m : Master) (w : Nat), s.Shaped ∧ w < 16 ∧ s.regsOk ∧ s.right m 0x40040000 .cr = .allow ∧
      s.winState w = State.cmpOff) ∧
    (∃ (s : State) (m : Master) (w : Nat), s.Shaped ∧ w < 16 ∧ s.regsOk ∧ s.right m 0x40040000 .cr = .allow ∧
      s.winState w ≠ State.cmpOff) ∧
    (∃ (s : State) (w : Nat), s.Shaped ∧ w < 16 ∧ s.regsOk ∧ s.winState w = State.cmpStart ∧ s.on (Reg.CMP_CFG_MODE w) = false) ∧
    (∃ (s : State) (w : Nat), w < 16 ∧ s.winState w ≠ State.cmpStart) ∧
    (∃ (s : State) (m : Master) (w tick : Nat), s.Shaped ∧ w < 16 ∧ s.regsOk ∧
      (s.toTick tick).right m (State.cmpAddr w .th) .cr = .allow ∧ s.winState w = State.cmpOff) ∧
    (∃ (s : State) (m : Master) (w tick : Nat), s.Shaped ∧ w < 16 ∧ s.regsOk ∧
      (s.toTick tick).right m (State.cmpAddr w .th) .cr = .allow ∧ s.winState w ≠ State.cmpOff) ∧
    (∃ (s : State) (b : Nat) (l : List CmpCfg), s.Shaped ∧ b < 2 ∧ s.regsOk ∧ (s.bank b).ready = some l) ∧
    (∃ (s : State) (b : Nat), (s.bank b).ready = none) ∧
    (∃ (s : State) (w : Nat), s.Shaped ∧ w < 16 ∧ (s.win w).hold = true ∧ s.winState w = State.cmpStart ∧ s.regsOk) ∧
    (∃ (s : State) (w : Nat), s.Shaped ∧ w < 16 ∧ s.regsOk ∧ (s.win w).out = true ∧ hasBit (s.rd Reg.CMP_OUT_OUT) w = false) :=
  ⟨⟨(let s := State.reset; let s := State.wr (s) (Reg.CMP_STAT_STATE 15) (State.cmpArmed); let s := s.wr (Reg.CMP_CFG_CLASS 15) 0;
      let s := State.wr (s) (Reg.CMP_CFG_HI_EN 15) (b2n (true)); s.setWin 15 { s.win 15 with cfg := { (s.win 15).cfg with thHi := 4 } }),
      15, 100000000, shaped (by decide +kernel), by decide +kernel⟩,
   ⟨(let s := State.reset; State.wr (s) (Reg.CMP_STAT_STATE 15) ((State.cmpOff) + 1)), 15, by decide +kernel⟩,
   ⟨State.reset, 1, by decide +kernel⟩,
   ⟨State.reset, Master.mc, 15, shaped (by decide +kernel), by decide +kernel⟩,
   ⟨(let s := State.reset; State.wr (s) (Reg.CMP_STAT_STATE 15) ((State.cmpOff) + 1)), Master.mc, 15, shaped (by decide +kernel),
      by decide +kernel⟩,
   ⟨(let s := State.reset; State.wr (s) (Reg.CMP_STAT_STATE 15) (State.cmpStart)), 15, shaped (by decide +kernel), by decide +kernel⟩,
   ⟨State.reset, 15, by decide +kernel⟩,
   ⟨State.reset, Master.mc, 15, 0, shaped (by decide +kernel), by decide +kernel⟩,
   ⟨(let s := State.reset; State.wr (s) (Reg.CMP_STAT_STATE 15) ((State.cmpOff) + 1)), Master.mc, 15, 0, shaped (by decide +kernel),
      by decide +kernel⟩,
   ⟨(let s := State.reset;
      State.setBank (s) 1 ({ (s.bank 1) with ready := some [{ thHi := 1023, thLo := 0, hysHi := 0, hysLo := 0, ain := 0 }, { thHi := 1023, thLo := 0, hysHi := 0, hysLo := 0, ain := 0 }, { thHi := 1023, thLo := 0, hysHi := 0, hysLo := 0, ain := 0 }, { thHi := 1023, thLo := 0, hysHi := 0, hysLo := 0, ain := 0 }, { thHi := 1023, thLo := 0, hysHi := 0, hysLo := 0, ain := 0 }, { thHi := 1023, thLo := 0, hysHi := 0, hysLo := 0, ain := 0 }, { thHi := 1023, thLo := 0, hysHi := 0, hysLo := 0, ain := 0 }, { thHi := 1023, thLo := 0, hysHi := 0, hysLo := 0, ain := 0 }] })),
      1, [{ thHi := 1023, thLo := 0, hysHi := 0, hysLo := 0, ain := 0 }, { thHi := 1023, thLo := 0, hysHi := 0, hysLo := 0, ain := 0 }, { thHi := 1023, thLo := 0, hysHi := 0, hysLo := 0, ain := 0 }, { thHi := 1023, thLo := 0, hysHi := 0, hysLo := 0, ain := 0 }, { thHi := 1023, thLo := 0, hysHi := 0, hysLo := 0, ain := 0 }, { thHi := 1023, thLo := 0, hysHi := 0, hysLo := 0, ain := 0 }, { thHi := 1023, thLo := 0, hysHi := 0, hysLo := 0, ain := 0 }, { thHi := 1023, thLo := 0, hysHi := 0, hysLo := 0, ain := 0 }],
      shaped (by decide +kernel), by decide +kernel⟩,
   ⟨State.reset, 0, by decide +kernel⟩,
   ⟨(let s := State.reset; let s := State.setWin (s) 15 ({ (s.win 15) with hold := true });
      State.wr (s) (Reg.CMP_STAT_STATE 15) (State.cmpStart)), 15, shaped (by decide +kernel), by decide +kernel⟩,
   ⟨(let s := State.reset; State.setWin (s) 15 ({ (s.win 15) with out := true })), 15, shaped (by decide +kernel), by decide +kernel⟩⟩

theorem witness_ComparatorChecksAndResultsAct :
    (∃ (s : State) (m : Master) (b : Nat), b < 2 ∧ s.right m 0x4004000C .cr = .allow ∧ s.on (Reg.CMP_BANK_BUSY b) = false ∧
      (s.bank b).checkWait = false ∧ s.checkBlocked b = true) ∧
    (∃ (s : State) (m : Master) (b : Nat), b < 2 ∧ s.right m 0x4004000C .cr = .allow ∧ s.on (Reg.CMP_BANK_BUSY b) = false ∧
      (s.bank b).checkWait = false ∧ s.checkBlocked b = false ∧ s.on (Reg.CMP_BANK_CFG_PEND b) = true) ∧
    (∃ (s : State) (m : Master) (b : Nat), s.Shaped ∧ b < 2 ∧ s.right m 0x4004000C .cr = .allow ∧ s.on (Reg.CMP_BANK_BUSY b) = false ∧
      (s.bank b).checkWait = false ∧ s.checkBlocked b = false ∧ s.on (Reg.CMP_BANK_CFG_PEND b) = false ∧ s.regsOk) ∧
    (∃ (s : State) (m : Master) (b : Nat), b < 2 ∧ s.right m 0x4004000C .cr = .allow ∧ s.on (Reg.CMP_BANK_BUSY b) = true) ∧
    (∃ (s : State) (w : Nat) (r : LegacyResult), w < 16 ∧ s.winState w = State.cmpCheck ∧ s.on Reg.CMP_LCHK_CFG_TIE_GND = true ∧
      s.on (Reg.CMP_CFG_HI_EN w) = true ∧ s.on (Reg.CMP_CFG_LO_EN w) = false ∧ 4 ≤ (s.win w).cfg.thHi ∧ r.hi = true) ∧
    (∃ (s : State) (w : Nat) (r : LegacyResult), w < 16 ∧ s.winState w = State.cmpCheck ∧ s.on Reg.CMP_LCHK_CFG_TIE_GND = true ∧
      s.on (Reg.CMP_CFG_HI_EN w) = true ∧ s.on (Reg.CMP_CFG_LO_EN w) = false ∧ 4 ≤ (s.win w).cfg.thHi ∧ r.hi = false) ∧
    (∃ (s : State) (w : Nat), s.winState w ≠ State.cmpCheck) ∧
    (∃ (s : State) (b : Nat), s.Shaped ∧ b < 2 ∧ s.regsOk ∧ s.on (Reg.CMP_BANK_BUSY b) = true ∧ (s.bank b).resetWait = false) ∧
    (∃ (s : State) (c : Nat), (s.sar c).flight = []) ∧
    (∃ (s : State) (c : Nat) (p : SarPkt) (r : List SarPkt), s.Shaped ∧ c < 8 ∧ s.regsOk ∧ (s.sar c).flight = p :: r ∧ p.chan < 10 ∧
      p.inj = false ∧ p.last = false ∧ p.ovr = false ∧ (s.sar c).fifo.length < 64) ∧
    (∃ (s : State) (c k : Nat) (p : SarPkt) (r : List SarPkt) (e : Int), s.Shaped ∧ c < 8 ∧ s.regsOk ∧ (s.sar c).flight = p :: r ∧
      p.chan = 10 ∧ p.inj = false ∧ p.last = false ∧ p.ovr = false ∧ p.settle = false ∧ (s.sar c).fifo.length < 64 ∧
      s.on (Reg.CMP_RBSEL_AUTO c) = false ∧ s.rd (Reg.CMP_RBSEL_SIDE c) = 0 ∧ (s.win (s.rd (Reg.CMP_RBSEL_WIN c))).cfg.thHi = k ∧
      e = toSigned 16 p.code - 64 * ((k : Int) - 512)) :=
  ⟨⟨(let s := State.reset; ((s.wr (Reg.TRIP_CFG_EN 0) 1).wr (Reg.TRIP_CFG_ACTION 0) 0).wr (Reg.TRIP_CFG_SRC 0) (8 * 1 + 1)),
      Master.mc, 1, by decide +kernel⟩,
   ⟨(let s := State.reset; State.wr (s) (Reg.CMP_BANK_CFG_PEND 1) (b2n (true))), Master.mc, 1, by decide +kernel⟩,
   ⟨State.reset, Master.mc, 1, shaped (by decide +kernel), by decide +kernel⟩,
   ⟨(let s := State.reset; State.wr (s) (Reg.CMP_BANK_BUSY 1) (b2n (true))), Master.mc, 1, by decide +kernel⟩,
   ⟨(let s := State.reset; let s := State.wr (s) (Reg.CMP_STAT_STATE 15) (State.cmpCheck);
      State.wr (s) (Reg.CMP_CFG_HI_EN 15) (b2n (true))), 15, { hi := true, lo := true, unHi := true, unLo := true }, by decide +kernel⟩,
   ⟨(let s := State.reset; let s := State.wr (s) (Reg.CMP_STAT_STATE 15) (State.cmpCheck);
      State.wr (s) (Reg.CMP_CFG_HI_EN 15) (b2n (true))), 15, { hi := false, lo := true, unHi := true, unLo := true }, by decide +kernel⟩,
   ⟨State.reset, 0, by decide +kernel⟩,
   ⟨(let s := State.reset; State.wr (s) (Reg.CMP_BANK_BUSY 1) (b2n (true))), 1, shaped (by decide +kernel), by decide +kernel⟩,
   ⟨State.reset, 0, by decide +kernel⟩,
   ⟨(let s := State.reset;
      State.setSar (s) 7 ({ (s.sar 7) with flight := ({ code := 5, chan := 1, ovr := false, settle := false, inj := false, tag := 3, seqNo := 0, pos := 0, last := false, resume := false, op := none } : SarPkt) :: [] })),
      7, { code := 5, chan := 1, ovr := false, settle := false, inj := false, tag := 3, seqNo := 0, pos := 0, last := false, resume := false, op := none }, [],
      shaped (by decide +kernel), by decide +kernel⟩,
   ⟨(let s := State.reset;
      let s := State.setSar (s) 7 ({ (s.sar 7) with flight := ({ code := 5, chan := 10, ovr := false, settle := false, inj := false, tag := 3, seqNo := 0, pos := 0, last := false, resume := false, op := none } : SarPkt) :: [] });
      State.setWin (s) (s.rd (Reg.CMP_RBSEL_WIN 7)) ({ (s.win (s.rd (Reg.CMP_RBSEL_WIN 7))) with cfg := { (s.win (s.rd (Reg.CMP_RBSEL_WIN 7))).cfg with thHi := 0 } })),
      7, 0, { code := 5, chan := 10, ovr := false, settle := false, inj := false, tag := 3, seqNo := 0, pos := 0, last := false, resume := false, op := none }, [], 32773,
      shaped (by decide +kernel), by decide +kernel⟩⟩

theorem witness_GridSupportMovesState :
    (∃ (s : State) (e : RtEntry) (target : Nat), s.regsOk ∧ (∀ w, s.pe.sweep = some w → w.ch < 6) ∧ s.gsState = State.gsNormal ∧
      ((e = .lv ∧ s.lvEntry = true ∧ target = State.gsLvrt) ∨ (e = .hv ∧ s.hvEntry = true ∧
      target = (if s.lvEntry then State.gsLvrt else State.gsHvrt)) ∨ (e = .zv ∧ s.orbState = State.orbFlywheel ∧
      target = State.gsZvrt)) ∧ s.on Reg.GS_CTRL_RT_EN = true) ∧
    (∃ (s : State) (e : RtEntry) (target : Nat), s.regsOk ∧ (∀ w, s.pe.sweep = some w → w.ch < 6) ∧ s.gsState = State.gsNormal ∧
      ((e = .lv ∧ s.lvEntry = true ∧ target = State.gsLvrt) ∨ (e = .hv ∧ s.hvEntry = true ∧
      target = (if s.lvEntry then State.gsLvrt else State.gsHvrt)) ∨ (e = .zv ∧ s.orbState = State.orbFlywheel ∧
      target = State.gsZvrt)) ∧ s.on Reg.GS_CTRL_RT_EN = false) ∧
    (∃ s : State, s.regsOk ∧ s.gsState = State.gsHvrt ∧ s.lvEntry = true ∧ s.pe.sweep = none) ∧
    (∃ s : State, (s.gsState = State.gsLvrt ∨ s.gsState = State.gsHvrt) ∧ 100 * s.prof 12 < s.gs.exitRun ∧ s.gs.lvBad < 2 ∧
      s.gs.hvBad < 2) ∧
    (∃ s : State, s.gs.exitRun ≤ 100 * s.prof 12) ∧
    (∃ s : State, s.regsOk ∧ (s.gsState = State.gsLvrt ∨ s.gsState = State.gsHvrt) ∧ (2 ≤ s.gs.lvBad ∨ 2 ≤ s.gs.hvBad)) ∧
    (∃ s : State, s.regsOk ∧ s.gsState = State.gsZvrt ∧ (s.prof 13 * 1000 < s.gs.elapsed ∨ s.on Reg.ORB_STATUS_FLYLIMIT = true)) ∧
    (∃ s : State, s.gsState = State.gsZvrt ∧ s.gs.elapsed ≤ s.prof 13 * 1000 ∧ s.on Reg.ORB_STATUS_FLYLIMIT = false ∧ s.pe.sweep = none) ∧
    (∃ (s : State) (m : Master), s.regsOk ∧ s.right m 0x40008000 .cr = .allow ∧ s.gsState = State.gsOff ∧
      s.on Reg.GS_STATUS_PROFILE_OK = true ∧ (s.orbState = State.orbLocked ∨ s.orbState = State.orbFollow)) ∧
    (∃ (s : State) (m : Master), s.regsOk ∧ s.right m 0x40008000 .cr = .allow ∧ s.gsState = State.gsOff ∧
      s.on Reg.GS_STATUS_PROFILE_OK = false) ∧
    (∃ (s : State) (m : Master), s.regsOk ∧ s.right m 0x40008000 .cr = .allow ∧ s.gsState ≠ State.gsOff) ∧
    (∃ s : State, s.regsOk ∧ s.gs.latchDue = true) ∧
    (∃ s : State, s.gs.latchDue = false) :=
  ⟨⟨(let s := State.reset; let s := { s with gs := { s.gs with lvF := 20 } }; State.wr (s) Reg.GS_STATUS_STATE (State.gsNormal)),
      RtEntry.lv, 2, by decide +kernel⟩,
   ⟨(let s := State.reset; let s := { s with gs := { s.gs with lvF := 20 } }; let s := State.wr (s) Reg.GS_STATUS_STATE (State.gsNormal);
      State.wr (s) Reg.GS_CTRL_RT_EN (b2n (false))), RtEntry.lv, 2, by decide +kernel⟩,
   ⟨(let s := State.reset; let s := State.wr (s) Reg.GS_STATUS_STATE (State.gsHvrt); { s with gs := { s.gs with lvF := 20 } }),
      by decide +kernel⟩,
   ⟨(let s := State.reset; let s := State.wr (s) Reg.GS_STATUS_STATE (State.gsLvrt);
      { s with gs := { s.gs with exitRun := (100 * s.prof 12) + 1 } }), by decide +kernel⟩,
   ⟨State.reset, by decide +kernel⟩,
   ⟨(let s := State.reset; let s := State.wr (s) Reg.GS_STATUS_STATE (State.gsLvrt); { s with gs := { s.gs with lvBad := 2 } }),
      by decide +kernel⟩,
   ⟨(let s := State.reset; let s := State.wr (s) Reg.GS_STATUS_STATE (State.gsZvrt);
      { s with gs := { s.gs with elapsed := (s.prof 13 * 1000) + 1 } }), by decide +kernel⟩,
   ⟨(let s := State.reset; State.wr (s) Reg.GS_STATUS_STATE (State.gsZvrt)), by decide +kernel⟩,
   ⟨(let s := State.reset; let s := State.wr (s) Reg.GS_STATUS_PROFILE_OK (b2n (true));
      State.wr (s) Reg.ORB_STATUS_STATE (State.orbLocked)), Master.mc, by decide +kernel⟩,
   ⟨State.reset, Master.mc, by decide +kernel⟩,
   ⟨(let s := State.reset; State.wr (s) Reg.GS_STATUS_STATE ((State.gsOff) + 1)), Master.mc, by decide +kernel⟩,
   ⟨(let s := State.reset; { s with gs := { s.gs with latchDue := true } }), by decide +kernel⟩,
   ⟨State.reset, by decide +kernel⟩⟩

theorem witness_EclipseDetectsAndInjects :
    (∃ (s : State) (d : Nat), d < 7 ∧ s.regsOk ∧ s.eeEnabled d = true ∧ s.eeBlocked d = false ∧ s.eeCond d = true ∧
      (4 < d ∨ s.eeNeed d ≤ nth s.ee.runs d 0) ∧ hasBit s.ee.tripped d = false) ∧
    (∃ (s : State) (d : Nat), (s.eeEnabled d = false ∨ s.eeBlocked d = true)) ∧
    (∃ s : State, s.regsOk ∧ s.on Reg.EE_STATUS_INJECTING = false ∧ s.on Reg.EE_CTRL_ACTIVE_EN = true ∧ s.gsState = State.gsNormal ∧
      s.rd Reg.ORB_GROUP_ROLE ≠ 2) ∧
    (∃ s : State, s.on Reg.EE_STATUS_INJECTING = false ∧ s.on Reg.EE_CTRL_ACTIVE_EN = false) ∧
    (∃ s : State, s.on Reg.EE_STATUS_INJECTING = true ∧ s.ee.drop = true ∧ s.on Reg.EE_CTRL_ACTIVE_EN = false) ∧
    (∃ s : State, s.regsOk ∧ s.on Reg.EE_STATUS_INJECTING = true ∧ s.ee.drop = false ∧ s.on Reg.EE_CTRL_ACTIVE_EN = false ∧
      s.ee.segs.length + 1 < s.rd Reg.EE_WIN_WSEG) ∧
    (∃ (s : State) (m : Master), s.right m 0x40080010 .dr = .allow ∧
      (∀ d, d < 7 → s.eeEnabled d = true → hasBit s.ee.tripped d = false)) ∧
    (∃ (s : State) (m : Master) (d : Nat), s.right m 0x40080010 .dr = .allow ∧ d < 7 ∧ s.eeEnabled d = true ∧
      hasBit s.ee.tripped d = true) :=
  ⟨⟨(let s := State.reset; let s := (s.wr Reg.EE_CTRL_PASSIVE_EN 1).wr Reg.EE_PEN_EN (setBit (s.rd Reg.EE_PEN_EN) 6);
      (s.wr Reg.CMP_OUT_OUT 1).wr Reg.EE_CMP_MASK_WIN 1), 6, by decide +kernel⟩,
   ⟨State.reset, 0, by decide +kernel⟩,
   ⟨(let s := State.reset; let s := State.wr (s) Reg.EE_CTRL_ACTIVE_EN (b2n (true)); State.wr (s) Reg.GS_STATUS_STATE (State.gsNormal)),
      by decide +kernel⟩,
   ⟨State.reset, by decide +kernel⟩,
   ⟨(let s := State.reset; let s := State.wr (s) Reg.EE_STATUS_INJECTING (b2n (true)); { s with ee := { s.ee with drop := true } }),
      by decide +kernel⟩,
   ⟨(let s := State.reset; State.wr (s) Reg.EE_STATUS_INJECTING (b2n (true))), by decide +kernel⟩,
   ⟨State.reset, Master.mc, by decide +kernel⟩,
   ⟨(let s := State.reset; let s := (s.wr Reg.EE_CTRL_PASSIVE_EN 1).wr Reg.EE_PEN_EN (setBit (s.rd Reg.EE_PEN_EN) 6);
      { s with ee := { s.ee with tripped := putBit s.ee.tripped 6 (true) } }), Master.mc, 6, by decide +kernel⟩⟩

theorem witness_PerihelionTracksAndSweeps :
    (∃ s : State, s.peStopped = true) ∧
    (∃ (s : State) (n : Nat), s.Shaped ∧ n < 6 ∧ s.regsOk ∧ s.peStopped = false ∧ s.peState n ≠ State.peOff ∧
      State.PeSum.means? (s.peChan n).acc = none ∧ s.pe.sweep ≠ none) ∧
    (∃ (s : State) (n v i : Nat), s.Shaped ∧ n < 6 ∧ s.regsOk ∧ s.peStopped = false ∧ s.peState n = State.peWait ∧
      State.PeSum.means? (s.peChan n).acc = some (v, i) ∧ s.peBlocked n = false ∧ (s.peChan n).first = false ∧
      hasBit (s.rd Reg.PE_STATUS_QUEUE) n = false) ∧
    (∃ (s : State) (n : Nat), s.Shaped ∧ n < 6 ∧ s.regsOk ∧ (s.peState n = State.peTrack ∨ s.peState n = State.peCurtail) ∧
      64 ≤ s.rd (Reg.PE_STATE_EMPTY n)) ∧
    (∃ (s : State) (n : Nat), s.rd (Reg.PE_STATE_EMPTY n) < 64) ∧
    (∃ s : State, s.regsOk ∧ s.on Reg.PE_CTRL_CURT_EN = true ∧ s.on Reg.PE_STATUS_CURTAILED = false ∧ 4 ≤ s.pe.curtIn) ∧
    (∃ s : State, s.pe.curtIn < 4) ∧
    (∃ s : State, s.Shaped ∧ s.regsOk ∧ s.on Reg.PE_STATUS_CURTAILED = true ∧ 4 ≤ s.pe.curtOut) ∧
    (∃ (s : State) (n : Nat), s.Shaped ∧ n < 6 ∧ s.regsOk ∧ s.peState n = State.peTrack ∧ 20 ≤ (s.peChan n).dropRun ∧
      (s.peChan n).lastSweep = none ∧ s.pe.sweep ≠ none) ∧
    (∃ (s : State) (n : Nat), (s.peChan n).dropRun < 20) ∧
    (∃ (s : State) (n : Nat), n < 6 ∧ s.rd Reg.PE_SWEEP_PER_MIN ≠ 0 ∧ s.peState n ≠ State.peOff ∧ (s.peChan n).lastSweep = none ∧
      hasBit (s.rd Reg.PE_STATUS_QUEUE) n = false) ∧
    (∃ (s : State) (m : Master) (n : Nat), n < 6 ∧ s.right m 0x4007000C .dr = .allow ∧ hasBit (s.rd Reg.PE_STATUS_QUEUE) n = false) ∧
    (∃ (s : State) (w : PeSweep), s.regsOk ∧ s.pe.sweep = some w ∧ w.ch < 6 ∧ w.voc = none ∧ w.acc.vn ≠ 0) ∧
    (∃ (s : State) (w : PeSweep) (voc v i : Nat), s.regsOk ∧ s.pe.sweep = some w ∧ w.ch < 6 ∧ w.voc = some voc ∧ w.pts.length < 2047 ∧
      State.PeSum.means? w.acc = some (v, i)) ∧
    (∃ (s : State) (w : PeSweep), s.Shaped ∧ s.regsOk ∧ s.pe.sweep = some w ∧ w.ch < 6 ∧ 2048 ≤ w.pts.length) ∧
    (∃ (s : State) (n : Nat), n < 6 ∧ s.regsOk ∧ (s.peState n = State.peTrack ∨ s.peState n = State.peCurtail) ∧ s.peBlocked n = true) ∧
    (∃ (s : State) (n : Nat), n < 6 ∧ s.peState n = State.peHold ∧ s.peBlocked n = false) ∧
    (∃ (s : State) (m : Master) (n : Nat), s.Shaped ∧ n < 6 ∧ s.regsOk ∧ s.right m 0x40070000 .dr = .allow ∧ s.peState n = State.peOff) ∧
    (∃ (s : State) (m : Master) (n : Nat), n < 6 ∧ s.regsOk ∧ s.right m 0x40070000 .dr = .allow ∧ s.peState n = State.peTrack) ∧
    (∃ (s : State) (ws : List Nat), s.regsOk ∧ s.pe.profWait = some ws ∧ s.pe.sweep = none) ∧
    (∃ s : State, (s.pe.profWait = none ∨ s.pe.sweep ≠ none)) :=
  ⟨⟨(let s := State.reset; s.wr Reg.GS_STATUS_STATE 2), by decide +kernel⟩,
   ⟨(let s := State.reset; let s := State.wr (s) (Reg.PE_STATE_STATE 5) ((State.peOff) + 1);
      { s with pe := { s.pe with sweep := some ⟨0, 0, 0, 0, 1, 0, none, false, {}, []⟩ } }), 5, shaped (by decide +kernel),
      by decide +kernel⟩,
   ⟨(let s := State.reset; let s := s.setPeChan 5 { s.peChan 5 with acc := { v := 0x40000000, vn := 1, i := 0x3F800000, k := 1 } };
      let s := State.wr (s) (Reg.PE_STATE_STATE 5) (State.peWait);
      (((s.wr (Reg.CL_CTRL_EN (s.rd (Reg.PE_CFG_PAIR 5) / 8)) 1).wr Reg.PWM_SAFE_STATUS_LATCHED 0).wr (Reg.PR_STATUS_TRIPPED (s.rd (Reg.PE_CFG_PAIR 5))) 0).wr (Reg.PR_STATUS_ESCALATED (s.rd (Reg.PE_CFG_PAIR 5))) 0),
      5, 1073741824, 1065353216, shaped (by decide +kernel), by decide +kernel⟩,
   ⟨(let s := State.reset; let s := State.wr (s) (Reg.PE_STATE_STATE 5) (State.peTrack); State.wr (s) (Reg.PE_STATE_EMPTY 5) (64)), 5,
      shaped (by decide +kernel), by decide +kernel⟩,
   ⟨State.reset, 0, by decide +kernel⟩,
   ⟨(let s := State.reset; let s := State.wr (s) Reg.PE_CTRL_CURT_EN (b2n (true)); { s with pe := { s.pe with curtIn := 4 } }),
      by decide +kernel⟩,
   ⟨State.reset, by decide +kernel⟩,
   ⟨(let s := State.reset; let s := State.wr (s) Reg.PE_STATUS_CURTAILED (b2n (true)); { s with pe := { s.pe with curtOut := 4 } }),
      shaped (by decide +kernel), by decide +kernel⟩,
   ⟨(let s := State.reset; let s := State.wr (s) (Reg.PE_STATE_STATE 5) (State.peTrack);
      let s := State.setPeChan (s) 5 ({ (s.peChan 5) with dropRun := 20 });
      { s with pe := { s.pe with sweep := some ⟨0, 0, 0, 0, 1, 0, none, false, {}, []⟩ } }), 5, shaped (by decide +kernel),
      by decide +kernel⟩,
   ⟨State.reset, 0, by decide +kernel⟩,
   ⟨(let s := State.reset; let s := State.wr (s) Reg.PE_SWEEP_PER_MIN ((0) + 1);
      State.wr (s) (Reg.PE_STATE_STATE 5) ((State.peOff) + 1)), 5, by decide +kernel⟩,
   ⟨State.reset, Master.mc, 5, by decide +kernel⟩,
   ⟨(let s := State.reset;
      { s with pe := { s.pe with sweep := some ({ ch := 5, cause := 0, start := 0, frame := 0, fpp := 0, before := 0, voc := none, est := false, acc := { v := 0, vn := 1, i := 0, k := 0 }, pts := [] } : PeSweep) } }),
      { ch := 5, cause := 0, start := 0, frame := 0, fpp := 0, before := 0, voc := none, est := false, acc := { v := 0, vn := 1, i := 0, k := 0 }, pts := [] }, by decide +kernel⟩,
   ⟨(let s := State.reset;
      { s with pe := { s.pe with sweep := some ({ ch := 5, cause := 0, start := 0, frame := 0, fpp := 0, before := 0, voc := some 1090519040, est := false, acc := { v := 1073741824, vn := 1, i := 1065353216, k := 1 }, pts := [none] } : PeSweep) } }),
      { ch := 5, cause := 0, start := 0, frame := 0, fpp := 0, before := 0, voc := some 1090519040, est := false, acc := { v := 1073741824, vn := 1, i := 1065353216, k := 1 }, pts := [none] }, 1090519040, 1073741824, 1065353216,
      by decide +kernel⟩,
   ⟨(let s := State.reset;
      { s with pe := { s.pe with sweep := some ({ ch := 5, cause := 0, start := 0, frame := 0, fpp := 0, before := 7, voc := some 1090519040, est := false, acc := { v := 0, vn := 0, i := 0, k := 0 }, pts := [none, none, none, none, none, none, none, none, none, none, none, none, none, none, none, none, none, none, none, none, none, none, none, none, none, none, none, none, none, none, none, none, none, none, none, none, none, none, none, none, none, none, none, none, none, none, none, none, none, none, none, none, none, none, none, none, none, none, none, none, none, none, none, none, none, none, none, none, none, none, none, none, none, none, none, none, none, none, none, none, none, none, none, none, none, none, none, none, none, none, none, none, none, none, none, none, none, none, none, none, none, none, none, none, none, none, none, none, none, none, none, none, none, none, none, none, none, none, none, none, none, none, none, none, none, none, none, none, none, none, none, none, none, none, none, none, none, none, none, none, none, none, none, none, none, none, none, none, none, none, none, none, none, none, none, none, none, none, none, none, none, none, none, none, none, none, none, none, none, none, none, none, none, none, none, none, none, none, none, none, none, none, none, none, none, none, none, none, none, none, none, none, none, none, none, none, none, none, none, none, none, none, none, none, none, none, none, none, none, none, none, none, none, none, none, none, none, none, none, none, none, none, none, none, none, none, none, none, none, none, none, none, none, none, none, none, none, none, none, none, none, none, none, none, none, none, none, none, none, none, none, none, none, none, none, none, none, none, none, none, none, none, none, none, none, none, none, none, none, none, none, none, none, none, none, none, none, none, none, none, none, none, none, none, none, none, none, none, none, none, none, none, none, none, none, none, none, none, none, none, none, none, none, none, none, none, none, none, none, none, none, none, none, none, none, none, none, none, none, none, none, none, none, none, none, none, none, none, none, none, none, none, none, none, none, none, none, none, none, none, none, none, none, none, none, none, none, none, none, none, none, none, none, none, none, none, none, none, none, none, none, none, none, none, none, none, none, none, none, none, none, none, none, none, none, none, none, none, none, none, none, none, none, none, none, none, none, none, none, none, none, none, none, none, none, none, none, none, none, none, none, none, none, none, none, none, none, none, none, none, none, none, none, none, none, none, none, none, none, none, none, none, none, none, none, none, none, none, none, none, none, none, none, none, none, none, none, none, none, none, none, none, none, none, none, none, none, none, none, none, none, none, none, none, none, none, none, none, none, none, none, none, none, none, none, none, none, none, none, none, none, none, none, none, none, none, none, none, none, none, none, none, none, none, none, none, none, none, none, none, none, none, none, none, none, none, none, none, none, none, none, none, none, none, none, none, none, none, none, none, none, none, none, none, none, none, none, none, none, none, none, none, none, none, none, none, none, none, none, none, none, none, none, none, none, none, none, none, none, none, none, none, none, none, none, none, none, none, none, none, none, none, none, none, none, none, none, none, none, none, none, none, none, none, none, none, none, none, none, none, none, none, none, none, none, none, none, none, none, none, none, none, none, none, none, none, none, none, none, none, none, none, none, none, none, none, none, none, none, none, none, none, none, none, none, none, none, none, none, none, none, none, none, none, none, none, none, none, none, none, none, none, none, none, none, none, none, none, none, none, none, none, none, none, none, none, none, none, none, none, none, none, none, none, none, none, none, none, none, none, none, none, none, none, none, none, none, none, none, none, none, none, none, none, none, none, none, none, none, none, none, none, none, none, none, none, none, none, none, none, none, none, none, none, none, none, none, none, none, none, none, none, none, none, none, none, none, none, none, none, none, none, none, none, none, none, none, none, none, none, none, none, none, none, none, none, none, none, none, none, none, none, none, none, none, none, none, none, none, none, none, none, none, none, none, none, none, none, none, none, none, none, none, none, none, none, none, none, none, none, none, none, none, none, none, none, none, none, none, none, none, none, none, none, none, none, none, none, none, none, none, none, none, none, none, none, none, none, none, none, none, none, none, none, none, none, none, none, none, none, none, none, none, none, none, none, none, none, none, none, none, none, none, none, none, none, none, none, none, none, none, none, none, none, none, none, none, none, none, none, none, none, none, none, none, none, none, none, none, none, none, none, none, none, none, none, none, none, none, none, none, none, none, none, none, none, none, none, none, none, none, none, none, none, none, none, none, none, none, none, none, none, none, none, none, none, none, none, none, none, none, none, none, none, none, none, none, none, none, none, none, none, none, none, none, none, none, none, none, none, none, none, none, none, none, none, none, none, none, none, none, none, none, none, none, none, none, none, none, none, none, none, none, none, none, none, none, none, none, none, none, none, none, none, none, none, none, none, none, none, none, none, none, none, none, none, none, none, none, none, none, none, none, none, none, none, none, none, none, none, none, none, none, none, none, none, none, none, none, none, none, none, none, none, none, none, none, none, none, none, none, none, none, none, none, none, none, none, none, none, none, none, none, none, none, none, none, none, none, none, none, none, none, none, none, none, none, none, none, none, none, none, none, none, none, none, none, none, none, none, none, none, none, none, none, none, none, none, none, none, none, none, none, none, none, none, none, none, none, none, none, none, none, none, none, none, none, none, none, none, none, none, none, none, none, none, none, none, none, none, none, none, none, none, none, none, none, none, none, none, none, none, none, none, none, none, none, none, none, none, none, none, none, none, none, none, none, none, none, none, none, none, none, none, none, none, none, none, none, none, none, none, none, none, none, none, none, none, none, none, none, none, none, none, none, none, none, none, none, none, none, none, none, none, none, none, none, none, none, none, none, none, none, none, none, none, none, none, none, none, none, none, none, none, none, none, none, none, none, none, none, none, none, none, none, none, none, none, none, none, none, none, none, none, none, none, none, none, none, none, none, none, none, none, none, none, none, none, none, none, none, none, none, none, none, none, none, none, none, none, none, none, none, none, none, none, none, none, none, none, none, none, none, none, none, none, none, none, none, none, none, none, none, none, none, none, none, none, none, none, none, none, none, none, none, none, none, none, none, none, none, none, none, none, none, none, none, none, none, none, none, none, none, none, none, none, none, none, none, none, none, none, none, none, none, none, none, none, none, none, none, none, none, none, none, none, none, none, none, none, none, none, none, none, none, none, none, none, none, none, none, none, none, none, none, none, none, none, none, none, none, none, none, none, none, none, none, none, none, none, none, none, none, none, none, none, none, none, none, none, none, none, none, none, none, none, none, none, none, none, none, none, none, none, none, none, none, none, none, none, none, none, none, none, none, none, none, none, none, none, none, none, none, none, none, none, none, none, none, none, none, none, none, none, none, none, none, none, none, none, none, none, none, none, none, none, none, none, none, none, none, none, none, none, none, none, none, none, none, none, none, none, none, none, none, none, none, none, none, none, none, none, none, none, none, none, none, none, none, none, none, none, none, none, none, none, none, none, none, none, none, none, none, none, none, none, none, none, none, none, none, none, none, none, none, none, none, none, none, none, none, none, none, none, none, none, none, none, none, none, none, none, none, none, none, none, none, none, none, none, none, none, none, none, none, none, none, none, none, none, none, none, none, none, none, none, none, none, none, none, none, none, none, none, none, none, none, none, none, none, none, none, none, none, none, none, none, none, none, none, none, none, none, none, none, none, none, none, none, none, none, none, none, none, none, none, none, none, none, none, none, none, none, none, none, none, none, none, none, none, none, none, none, none, none, none, none, none, none, none, none, none, none, none, none, none, none, none, none, none, none, none, none, none, none, none, none, none, none, none, none, none, none, none, none, none, none, none, none, none, none, none, none, none, none, none, none, none, none, none, none, none, none, none, none, none, none, none, none, none, none, none, none, none, none, none, none, none, none, none, none, none, none, none, none, none, none, none, none, none, none, none, none, none, none, none, none, none, none, none, none, none, none, none, none, none, none, none, none, none, none, none, none, none, none, none, none, none, none, none, none, none, none, none, none, none, none, none, none, none, none, none, none, none, none, none, none, none, none, none, none, none, none, none, none, none, none, none, none, none, none, none, none, none, none, none, none, none, none, none, none, none, none, none, none, none, none, none, none, none, none, none, none, none, none, none, none, none, none, none, none, none, none, none, none, none, none, none, none, none, none, none, none, none, none, none, none, none, none, none, none, none, none, none, none, none, none, none, none, none, none, none, none, none, none, none, none, none, none, none, none, none, none, none, none, none, none, none, none, none, none, none, none, none, none, none, none, none, none, none, none, none, none, none, none, none, none, none, none, none, none, none, none, none, none, none, none, none, none, none, none, none, none, none, none, none, none, none, none, none, none, none, none, none, none, none, none, none, none, none, none, none, none, none, none, none, none, none, none, none, none, none, none, none, none, none, none, none, none, none, none, none, none, none, none, none, none, none, none, none, none, none, none, none, none, none, none, none, none, none, none, none, none, none, none, none, none, none, none, none, none, none, none, none, none, none, none, none, none, none, none, none, none, none, none, none, none, none, none, none, none, none, none, none, none, none, none, none, none, none, none, none, none, none, none, none, none, none, none, none, none, none, none, none, none, none, none, none, none, none, none, none, none, none, none, none, none, none, none, none, none, none, none, none, none, none, none, none, none, none, none, none, none, none, none, none, none, none, none, none, none, none, none, none, none, none, none, none, none, none, none, none, none, none, none, none, none, none, none, none, none, none, none, none, none, none, none, none, none, none, none, none, none, none, none, none, none, none, none, none, none, none, none, none, none, none, none, none, none, none, none, none, none, none, none, none, none, none, none, none, none, none, none, none, none, none, none, none, none, none, none, none, none, none, none, none, none, none, none, none, none, none, none, none, none, none, none, none, none, none, none, none, none, none, none, none, none, none, none, none, none, none, none, none, none, none, none, none, none, none, none, none, none, none, none, none, none, none, none, none, none, none, none, none, none, none, none, none, none, none, none, none, none, none, none, none, none, none] } : PeSweep) } }),
      { ch := 5, cause := 0, start := 0, frame := 0, fpp := 0, before := 7, voc := some 1090519040, est := false, acc := { v := 0, vn := 0, i := 0, k := 0 }, pts := [none, none, none, none, none, none, none, none, none, none, none, none, none, none, none, none, none, none, none, none, none, none, none, none, none, none, none, none, none, none, none, none, none, none, none, none, none, none, none, none, none, none, none, none, none, none, none, none, none, none, none, none, none, none, none, none, none, none, none, none, none, none, none, none, none, none, none, none, none, none, none, none, none, none, none, none, none, none, none, none, none, none, none, none, none, none, none, none, none, none, none, none, none, none, none, none, none, none, none, none, none, none, none, none, none, none, none, none, none, none, none, none, none, none, none, none, none, none, none, none, none, none, none, none, none, none, none, none, none, none, none, none, none, none, none, none, none, none, none, none, none, none, none, none, none, none, none, none, none, none, none, none, none, none, none, none, none, none, none, none, none, none, none, none, none, none, none, none, none, none, none, none, none, none, none, none, none, none, none, none, none, none, none, none, none, none, none, none, none, none, none, none, none, none, none, none, none, none, none, none, none, none, none, none, none, none, none, none, none, none, none, none, none, none, none, none, none, none, none, none, none, none, none, none, none, none, none, none, none, none, none, none, none, none, none, none, none, none, none, none, none, none, none, none, none, none, none, none, none, none, none, none, none, none, none, none, none, none, none, none, none, none, none, none, none, none, none, none, none, none, none, none, none, none, none, none, none, none, none, none, none, none, none, none, none, none, none, none, none, none, none, none, none, none, none, none, none, none, none, none, none, none, none, none, none, none, none, none, none, none, none, none, none, none, none, none, none, none, none, none, none, none, none, none, none, none, none, none, none, none, none, none, none, none, none, none, none, none, none, none, none, none, none, none, none, none, none, none, none, none, none, none, none, none, none, none, none, none, none, none, none, none, none, none, none, none, none, none, none, none, none, none, none, none, none, none, none, none, none, none, none, none, none, none, none, none, none, none, none, none, none, none, none, none, none, none, none, none, none, none, none, none, none, none, none, none, none, none, none, none, none, none, none, none, none, none, none, none, none, none, none, none, none, none, none, none, none, none, none, none, none, none, none, none, none, none, none, none, none, none, none, none, none, none, none, none, none, none, none, none, none, none, none, none, none, none, none, none, none, none, none, none, none, none, none, none, none, none, none, none, none, none, none, none, none, none, none, none, none, none, none, none, none, none, none, none, none, none, none, none, none, none, none, none, none, none, none, none, none, none, none, none, none, none, none, none, none, none, none, none, none, none, none, none, none, none, none, none, none, none, none, none, none, none, none, none, none, none, none, none, none, none, none, none, none, none, none, none, none, none, none, none, none, none, none, none, none, none, none, none, none, none, none, none, none, none, none, none, none, none, none, none, none, none, none, none, none, none, none, none, none, none, none, none, none, none, none, none, none, none, none, none, none, none, none, none, none, none, none, none, none, none, none, none, none, none, none, none, none, none, none, none, none, none, none, none, none, none, none, none, none, none, none, none, none, none, none, none, none, none, none, none, none, none, none, none, none, none, none, none, none, none, none, none, none, none, none, none, none, none, none, none, none, none, none, none, none, none, none, none, none, none, none, none, none, none, none, none, none, none, none, none, none, none, none, none, none, none, none, none, none, none, none, none, none, none, none, none, none, none, none, none, none, none, none, none, none, none, none, none, none, none, none, none, none, none, none, none, none, none, none, none, none, none, none, none, none, none, none, none, none, none, none, none, none, none, none, none, none, none, none, none, none, none, none, none, none, none, none, none, none, none, none, none, none, none, none, none, none, none, none, none, none, none, none, none, none, none, none, none, none, none, none, none, none, none, none, none, none, none, none, none, none, none, none, none, none, none, none, none, none, none, none, none, none, none, none, none, none, none, none, none, none, none, none, none, none, none, none, none, none, none, none, none, none, none, none, none, none, none, none, none, none, none, none, none, none, none, none, none, none, none, none, none, none, none, none, none, none, none, none, none, none, none, none, none, none, none, none, none, none, none, none, none, none, none, none, none, none, none, none, none, none, none, none, none, none, none, none, none, none, none, none, none, none, none, none, none, none, none, none, none, none, none, none, none, none, none, none, none, none, none, none, none, none, none, none, none, none, none, none, none, none, none, none, none, none, none, none, none, none, none, none, none, none, none, none, none, none, none, none, none, none, none, none, none, none, none, none, none, none, none, none, none, none, none, none, none, none, none, none, none, none, none, none, none, none, none, none, none, none, none, none, none, none, none, none, none, none, none, none, none, none, none, none, none, none, none, none, none, none, none, none, none, none, none, none, none, none, none, none, none, none, none, none, none, none, none, none, none, none, none, none, none, none, none, none, none, none, none, none, none, none, none, none, none, none, none, none, none, none, none, none, none, none, none, none, none, none, none, none, none, none, none, none, none, none, none, none, none, none, none, none, none, none, none, none, none, none, none, none, none, none, none, none, none, none, none, none, none, none, none, none, none, none, none, none, none, none, none, none, none, none, none, none, none, none, none, none, none, none, none, none, none, none, none, none, none, none, none, none, none, none, none, none, none, none, none, none, none, none, none, none, none, none, none, none, none, none, none, none, none, none, none, none, none, none, none, none, none, none, none, none, none, none, none, none, none, none, none, none, none, none, none, none, none, none, none, none, none, none, none, none, none, none, none, none, none, none, none, none, none, none, none, none, none, none, none, none, none, none, none, none, none, none, none, none, none, none, none, none, none, none, none, none, none, none, none, none, none, none, none, none, none, none, none, none, none, none, none, none, none, none, none, none, none, none, none, none, none, none, none, none, none, none, none, none, none, none, none, none, none, none, none, none, none, none, none, none, none, none, none, none, none, none, none, none, none, none, none, none, none, none, none, none, none, none, none, none, none, none, none, none, none, none, none, none, none, none, none, none, none, none, none, none, none, none, none, none, none, none, none, none, none, none, none, none, none, none, none, none, none, none, none, none, none, none, none, none, none, none, none, none, none, none, none, none, none, none, none, none, none, none, none, none, none, none, none, none, none, none, none, none, none, none, none, none, none, none, none, none, none, none, none, none, none, none, none, none, none, none, none, none, none, none, none, none, none, none, none, none, none, none, none, none, none, none, none, none, none, none, none, none, none, none, none, none, none, none, none, none, none, none, none, none, none, none, none, none, none, none, none, none, none, none, none, none, none, none, none, none, none, none, none, none, none, none, none, none, none, none, none, none, none, none, none, none, none, none, none, none, none, none, none, none, none, none, none, none, none, none, none, none, none, none, none, none, none, none, none, none, none, none, none, none, none, none, none, none, none, none, none, none, none, none, none, none, none, none, none, none, none, none, none, none, none, none, none, none, none, none, none, none, none, none, none, none, none, none, none, none, none, none, none, none, none, none, none, none, none, none, none, none, none, none, none, none, none, none, none, none, none, none, none, none, none, none, none, none, none, none, none, none, none, none, none, none, none, none, none, none, none, none, none, none, none, none, none, none, none, none, none, none, none, none, none, none, none, none, none, none, none, none, none, none, none, none, none, none, none, none, none, none, none, none, none, none, none, none, none, none, none, none, none, none, none, none, none, none, none, none, none, none, none, none, none, none, none, none, none, none, none, none, none, none, none, none, none, none, none, none, none, none, none, none, none, none, none, none, none, none, none, none, none, none, none, none, none, none, none, none, none, none, none, none, none, none, none, none, none, none, none, none, none, none, none, none, none, none, none, none, none, none, none, none, none, none, none, none, none, none, none, none, none, none, none, none, none, none, none, none, none, none, none, none, none, none, none, none, none, none, none, none, none, none, none, none, none, none, none, none, none, none, none, none, none, none, none, none, none, none, none, none, none, none, none, none, none, none, none, none, none, none, none, none, none, none, none, none, none, none, none, none, none, none, none, none, none, none, none, none, none, none, none, none, none, none, none, none, none, none, none, none, none, none, none, none, none, none, none, none, none, none, none, none, none, none, none, none, none, none, none, none, none, none, none, none, none, none, none, none, none, none, none, none, none, none, none, none, none, none, none, none, none, none, none, none, none, none, none, none, none, none, none, none, none, none, none, none, none, none, none, none, none, none, none, none, none, none, none, none, none, none, none, none, none, none, none, none, none, none, none, none, none, none, none, none, none, none, none, none, none, none, none, none, none, none, none, none, none, none, none, none, none, none, none, none, none, none, none, none, none, none, none, none, none, none, none, none, none, none, none, none, none, none, none, none, none, none, none, none, none, none, none, none, none, none, none, none, none, none, none, none, none, none, none, none, none, none, none, none, none, none, none, none, none, none, none, none, none, none, none, none, none, none, none, none, none, none, none, none, none, none, none, none, none, none, none, none, none, none, none, none, none, none, none, none, none, none, none, none, none, none, none, none, none, none, none, none, none, none, none, none, none, none, none, none, none, none, none, none, none, none, none, none, none, none, none, none, none, none, none, none, none, none, none, none, none, none, none, none, none, none, none, none, none, none, none, none, none, none, none, none, none, none, none, none, none, none, none, none, none, none, none, none, none, none, none, none, none, none, none, none, none, none, none, none, none, none, none, none, none, none, none, none, none, none, none, none, none, none, none, none, none, none, none, none, none, none, none, none, none, none, none, none, none, none, none, none, none, none, none, none, none, none, none, none, none, none, none, none, none, none, none, none, none, none, none, none, none, none, none, none, none, none, none, none, none, none, none, none, none, none, none, none, none, none, none, none, none, none, none, none, none, none, none, none, none, none, none, none, none, none, none, none, none, none, none, none, none, none, none, none, none, none, none, none, none, none, none, none, none, none, none, none, none, none, none, none, none, none, none, none, none, none, none, none, none] }, shaped (by decide +kernel),
      by decide +kernel⟩,
   ⟨(let s := State.reset; State.wr (s) (Reg.PE_STATE_STATE 5) (State.peTrack)), 5, by decide +kernel⟩,
   ⟨(let s := State.reset; let s := State.wr (s) (Reg.PE_STATE_STATE 5) (State.peHold);
      (((s.wr (Reg.CL_CTRL_EN (s.rd (Reg.PE_CFG_PAIR 5) / 8)) 1).wr Reg.PWM_SAFE_STATUS_LATCHED 0).wr (Reg.PR_STATUS_TRIPPED (s.rd (Reg.PE_CFG_PAIR 5))) 0).wr (Reg.PR_STATUS_ESCALATED (s.rd (Reg.PE_CFG_PAIR 5))) 0),
      5, by decide +kernel⟩,
   ⟨State.reset, Master.mc, 5, shaped (by decide +kernel), by decide +kernel⟩,
   ⟨(let s := State.reset; State.wr (s) (Reg.PE_STATE_STATE 5) (State.peTrack)), Master.mc, 5, by decide +kernel⟩,
   ⟨(let s := State.reset; { s with pe := { s.pe with profWait := some [] } }), [], by decide +kernel⟩,
   ⟨State.reset, by decide +kernel⟩⟩

theorem witness_MeteringRegistersAndCloses :
    (∃ (s : State) (ws : List Nat), s.regsOk ∧ s.meState = State.meRun ∧ ws.length ≠ 7 ∧ s.me.hist = []) ∧
    (∃ (s : State) (ws : List Nat) (tick : Nat) (x : MeSet) (r : List MeSet), s.regsOk ∧ s.meState = State.meSettling ∧
      4 ≤ s.me.settleRun ∧ State.meSetBad ws = false ∧ s.me.hist = x :: r ∧ State.meEdge x.theta (s.toTick tick).meAngle = true) ∧
    (∃ (s : State) (g : MeGran) (r : List MeGran), s.regsOk ∧ s.me.grans = g :: r ∧ g.ended = true ∧ g.done = g.sets ∧ g.sets ≠ 0 ∧
      s.me.ival.stale = false ∧ s.me.ival.force = false ∧ s.me.snapReq = false ∧ s.me.ckptReq = none ∧ s.me.ival.due = none) ∧
    (∃ (s : State) (g : MeGran) (r : List MeGran) (e : Nat), s.regsOk ∧ s.me.grans = g :: r ∧ g.ended = true ∧ g.done = g.sets ∧
      g.sets ≠ 0 ∧ s.me.ival.stale = false ∧ s.me.ival.force = false ∧ s.me.snapReq = false ∧ s.me.ckptReq = none ∧
      s.me.ival.due = some e) ∧
    (∃ s : State, s.me.grans = []) ∧
    (∃ s : State, s.regsOk ∧ s.meState = State.meRun ∧ 64 ≤ s.me.substRun) ∧
    (∃ s : State, s.me.substRun < 64) ∧
    (∃ s : State, s.me.ival.active = true ∧ s.on Reg.ME_CTRL_IVAL_EN = false) ∧
    (∃ s : State, s.on Reg.ME_CTRL_CKPT_EN = true ∧ s.me.ckptReq = none) ∧
    (∃ s : State, s.regsOk ∧ s.on Reg.ME_STATUS_CKPT_READY = true) ∧
    (∃ s : State, s.on Reg.ME_STATUS_CKPT_READY = false) ∧
    (∃ (s : State) (m : Master), s.right m 0x4006000C .dr = .allow ∧ s.on Reg.ME_CTRL_CKPT_EN = true) ∧
    (∃ (s : State) (m : Master), s.right m 0x4006000C .dr = .allow ∧ s.on Reg.ME_CTRL_CKPT_EN = false) ∧
    (∃ (s : State) (m : Master), s.right m 0x4006000C .dr = .allow ∧ s.on Reg.ME_CTRL_IVAL_EN = true ∧ s.me.ival.active = true) ∧
    (∃ (s : State) (m : Master), s.right m 0x4006000C .dr = .allow ∧ s.meState ≠ State.meOff) ∧
    (∃ (s : State) (m : Master), s.right m 0x4006000C .dr = .allow ∧ s.meState = State.meOff ∧
      State.meImageOk ((List.range 256).map fun k => s.rd (Reg.ME_RESTORE_WORD k)) = false) ∧
    (∃ (s : State) (m : Master), s.regsOk ∧ s.right m 0x4006000C .dr = .allow ∧ s.meState = State.meOff ∧
      State.meImageOk ((List.range 256).map fun k => s.rd (Reg.ME_RESTORE_WORD k)) = true) ∧
    (∃ (s : State) (m : Master), s.regsOk ∧ s.right m 0x40060000 .dr = .allow ∧ s.meState = State.meOff ∧ s.power = .run) ∧
    (∃ (s : State) (m : Master) (c : Nat), c < 7 ∧ s.regsOk ∧ s.right m (Reg.ME_OFF_CODE c).addr .dr = .allow ∧
      s.on Reg.ME_CTRL_CAL_LOCK = true) ∧
    (∃ (s : State) (m : Master) (c : Nat), c < 7 ∧ s.regsOk ∧ s.right m (Reg.ME_OFF_CODE c).addr .dr = .allow ∧
      s.on Reg.ME_CTRL_CAL_LOCK = false ∧ s.meState ≠ State.meOff) ∧
    (∃ (s : State) (m : Master) (c : Nat), c < 7 ∧ s.regsOk ∧ s.right m (Reg.ME_OFF_CODE c).addr .dr = .allow ∧
      s.on Reg.ME_CTRL_CAL_LOCK = false ∧ s.meState = State.meOff) ∧
    (∃ (s : State) (m : Master) (c v : Nat), c < 6 ∧ s.right m (Reg.ME_GAIN_VALUE c).addr .dr = .allow ∧
      s.on Reg.ME_CTRL_CAL_LOCK = false ∧ s.meGainTooBig c v = true) ∧
    (∃ (s : State) (m : Master), s.regsOk ∧ s.right m 0x40060000 .dr = .allow ∧ s.rw1.contains Reg.ME_CTRL_CAL_LOCK.key = true) ∧
    (∃ (s : State) (m : Master), s.regsOk ∧ s.right m 0x40060000 .dr = .allow ∧ s.rw1.contains Reg.ME_CTRL_CAL_LOCK.key = false) ∧
    (∃ s : State, s.meState = State.meOff ∧ s.nv.cal.find? State.meCopyOk = none) ∧
    (∃ (s : State) (r : List Nat), s.regsOk ∧ s.meState = State.meOff ∧ s.nv.cal.find? State.meCopyOk = some r) :=
  ⟨⟨(let s := State.reset; State.wr (s) Reg.ME_STATUS_STATE (State.meRun)), [], by decide +kernel⟩,
   ⟨(let s := State.reset; let s := (s.wr Reg.ORB_ANGLE_THETA 1000).wr Reg.ORB_DTHETA_INC 0;
      let s := State.wr (s) Reg.ME_STATUS_STATE (State.meSettling); let s := { s with me := { s.me with settleRun := 4 } };
      { s with me := { s.me with hist := ({ theta := 4294960000, gran := 0, subst := false, codes := [0, 0, 0, 0, 0, 0, 0], x := [{ mant := 0, exp := 0 }, { mant := 0, exp := 0 }, { mant := 0, exp := 0 }, { mant := 0, exp := 0 }, { mant := 0, exp := 0 }, { mant := 0, exp := 0 }, { mant := 0, exp := 0 }] } : MeSet) :: [{ theta := 0, gran := 0, subst := false, codes := [0, 0, 0, 0, 0, 0, 0], x := [{ mant := 0, exp := 0 }, { mant := 0, exp := 0 }, { mant := 0, exp := 0 }, { mant := 0, exp := 0 }, { mant := 0, exp := 0 }, { mant := 0, exp := 0 }, { mant := 0, exp := 0 }] }, { theta := 0, gran := 0, subst := false, codes := [0, 0, 0, 0, 0, 0, 0], x := [{ mant := 0, exp := 0 }, { mant := 0, exp := 0 }, { mant := 0, exp := 0 }, { mant := 0, exp := 0 }, { mant := 0, exp := 0 }, { mant := 0, exp := 0 }, { mant := 0, exp := 0 }] }, { theta := 0, gran := 0, subst := false, codes := [0, 0, 0, 0, 0, 0, 0], x := [{ mant := 0, exp := 0 }, { mant := 0, exp := 0 }, { mant := 0, exp := 0 }, { mant := 0, exp := 0 }, { mant := 0, exp := 0 }, { mant := 0, exp := 0 }, { mant := 0, exp := 0 }] }] } }),
      [1, 1, 1, 1, 1, 1, 1], 0, { theta := 4294960000, gran := 0, subst := false, codes := [0, 0, 0, 0, 0, 0, 0], x := [{ mant := 0, exp := 0 }, { mant := 0, exp := 0 }, { mant := 0, exp := 0 }, { mant := 0, exp := 0 }, { mant := 0, exp := 0 }, { mant := 0, exp := 0 }, { mant := 0, exp := 0 }] }, [{ theta := 0, gran := 0, subst := false, codes := [0, 0, 0, 0, 0, 0, 0], x := [{ mant := 0, exp := 0 }, { mant := 0, exp := 0 }, { mant := 0, exp := 0 }, { mant := 0, exp := 0 }, { mant := 0, exp := 0 }, { mant := 0, exp := 0 }, { mant := 0, exp := 0 }] }, { theta := 0, gran := 0, subst := false, codes := [0, 0, 0, 0, 0, 0, 0], x := [{ mant := 0, exp := 0 }, { mant := 0, exp := 0 }, { mant := 0, exp := 0 }, { mant := 0, exp := 0 }, { mant := 0, exp := 0 }, { mant := 0, exp := 0 }, { mant := 0, exp := 0 }] }, { theta := 0, gran := 0, subst := false, codes := [0, 0, 0, 0, 0, 0, 0], x := [{ mant := 0, exp := 0 }, { mant := 0, exp := 0 }, { mant := 0, exp := 0 }, { mant := 0, exp := 0 }, { mant := 0, exp := 0 }, { mant := 0, exp := 0 }, { mant := 0, exp := 0 }] }],
      by decide +kernel⟩,
   ⟨(let s := State.reset;
      { s with me := { s.me with grans := ({ id := 1, sets := 160, done := 160, subst := 0, ended := true, late := false, ph := [{ vv := { mant := 0, exp := 0 }, ii := { mant := 0, exp := 0 }, vi := { mant := 0, exp := 0 }, hi := { mant := 0, exp := 0 }, vr := { mant := 0, exp := 0 }, vm := { mant := 0, exp := 0 }, ir := { mant := 0, exp := 0 }, im := { mant := 0, exp := 0 } }, { vv := { mant := 0, exp := 0 }, ii := { mant := 0, exp := 0 }, vi := { mant := 0, exp := 0 }, hi := { mant := 0, exp := 0 }, vr := { mant := 0, exp := 0 }, vm := { mant := 0, exp := 0 }, ir := { mant := 0, exp := 0 }, im := { mant := 0, exp := 0 } }, { vv := { mant := 0, exp := 0 }, ii := { mant := 0, exp := 0 }, vi := { mant := 0, exp := 0 }, hi := { mant := 0, exp := 0 }, vr := { mant := 0, exp := 0 }, vm := { mant := 0, exp := 0 }, ir := { mant := 0, exp := 0 }, im := { mant := 0, exp := 0 } }], inn := { mant := 0, exp := 0 }, res := { mant := 0, exp := 0 }, raw := [0, 0, 0, 0, 0, 0, 0], rawSq := [0, 0, 0, 0, 0, 0, 0] } : MeGran) :: [] } }),
      { id := 1, sets := 160, done := 160, subst := 0, ended := true, late := false, ph := [{ vv := { mant := 0, exp := 0 }, ii := { mant := 0, exp := 0 }, vi := { mant := 0, exp := 0 }, hi := { mant := 0, exp := 0 }, vr := { mant := 0, exp := 0 }, vm := { mant := 0, exp := 0 }, ir := { mant := 0, exp := 0 }, im := { mant := 0, exp := 0 } }, { vv := { mant := 0, exp := 0 }, ii := { mant := 0, exp := 0 }, vi := { mant := 0, exp := 0 }, hi := { mant := 0, exp := 0 }, vr := { mant := 0, exp := 0 }, vm := { mant := 0, exp := 0 }, ir := { mant := 0, exp := 0 }, im := { mant := 0, exp := 0 } }, { vv := { mant := 0, exp := 0 }, ii := { mant := 0, exp := 0 }, vi := { mant := 0, exp := 0 }, hi := { mant := 0, exp := 0 }, vr := { mant := 0, exp := 0 }, vm := { mant := 0, exp := 0 }, ir := { mant := 0, exp := 0 }, im := { mant := 0, exp := 0 } }], inn := { mant := 0, exp := 0 }, res := { mant := 0, exp := 0 }, raw := [0, 0, 0, 0, 0, 0, 0], rawSq := [0, 0, 0, 0, 0, 0, 0] }, [],
      by decide +kernel⟩,
   ⟨(let s := State.reset;
      let s := { s with me := { s.me with grans := ({ id := 1, sets := 160, done := 160, subst := 0, ended := true, late := false, ph := [{ vv := { mant := 0, exp := 0 }, ii := { mant := 0, exp := 0 }, vi := { mant := 0, exp := 0 }, hi := { mant := 0, exp := 0 }, vr := { mant := 0, exp := 0 }, vm := { mant := 0, exp := 0 }, ir := { mant := 0, exp := 0 }, im := { mant := 0, exp := 0 } }, { vv := { mant := 0, exp := 0 }, ii := { mant := 0, exp := 0 }, vi := { mant := 0, exp := 0 }, hi := { mant := 0, exp := 0 }, vr := { mant := 0, exp := 0 }, vm := { mant := 0, exp := 0 }, ir := { mant := 0, exp := 0 }, im := { mant := 0, exp := 0 } }, { vv := { mant := 0, exp := 0 }, ii := { mant := 0, exp := 0 }, vi := { mant := 0, exp := 0 }, hi := { mant := 0, exp := 0 }, vr := { mant := 0, exp := 0 }, vm := { mant := 0, exp := 0 }, ir := { mant := 0, exp := 0 }, im := { mant := 0, exp := 0 } }], inn := { mant := 0, exp := 0 }, res := { mant := 0, exp := 0 }, raw := [0, 0, 0, 0, 0, 0, 0], rawSq := [0, 0, 0, 0, 0, 0, 0] } : MeGran) :: [] } };
      { s with me := { s.me with ival := { s.me.ival with due := some 0 } } }),
      { id := 1, sets := 160, done := 160, subst := 0, ended := true, late := false, ph := [{ vv := { mant := 0, exp := 0 }, ii := { mant := 0, exp := 0 }, vi := { mant := 0, exp := 0 }, hi := { mant := 0, exp := 0 }, vr := { mant := 0, exp := 0 }, vm := { mant := 0, exp := 0 }, ir := { mant := 0, exp := 0 }, im := { mant := 0, exp := 0 } }, { vv := { mant := 0, exp := 0 }, ii := { mant := 0, exp := 0 }, vi := { mant := 0, exp := 0 }, hi := { mant := 0, exp := 0 }, vr := { mant := 0, exp := 0 }, vm := { mant := 0, exp := 0 }, ir := { mant := 0, exp := 0 }, im := { mant := 0, exp := 0 } }, { vv := { mant := 0, exp := 0 }, ii := { mant := 0, exp := 0 }, vi := { mant := 0, exp := 0 }, hi := { mant := 0, exp := 0 }, vr := { mant := 0, exp := 0 }, vm := { mant := 0, exp := 0 }, ir := { mant := 0, exp := 0 }, im := { mant := 0, exp := 0 } }], inn := { mant := 0, exp := 0 }, res := { mant := 0, exp := 0 }, raw := [0, 0, 0, 0, 0, 0, 0], rawSq := [0, 0, 0, 0, 0, 0, 0] }, [], 0,
      by decide +kernel⟩,
   ⟨State.reset, by decide +kernel⟩,
   ⟨(let s := State.reset; let s := State.wr (s) Reg.ME_STATUS_STATE (State.meRun); { s with me := { s.me with substRun := 64 } }),
      by decide +kernel⟩,
   ⟨State.reset, by decide +kernel⟩,
   ⟨(let s := State.reset; { s with me := { s.me with ival := { s.me.ival with active := true } } }), by decide +kernel⟩,
   ⟨State.reset, by decide +kernel⟩,
   ⟨(let s := State.reset; State.wr (s) Reg.ME_STATUS_CKPT_READY (b2n (true))), by decide +kernel⟩,
   ⟨State.reset, by decide +kernel⟩,
   ⟨State.reset, Master.mc, by decide +kernel⟩,
   ⟨(let s := State.reset; State.wr (s) Reg.ME_CTRL_CKPT_EN (b2n (false))), Master.mc, by decide +kernel⟩,
   ⟨(let s := State.reset; let s := State.wr (s) Reg.ME_CTRL_IVAL_EN (b2n (true));
      { s with me := { s.me with ival := { s.me.ival with active := true } } }), Master.mc, by decide +kernel⟩,
   ⟨(let s := State.reset; State.wr (s) Reg.ME_STATUS_STATE ((State.meOff) + 1)), Master.mc, by decide +kernel⟩,
   ⟨State.reset, Master.mc, by decide +kernel⟩,
   ⟨((State.reset.wr (Reg.ME_RESTORE_WORD 0) 0x00014D45).wr (Reg.ME_RESTORE_WORD 255) (crc32cWords (0x00014D45 :: List.replicate 254 0))),
      .mc, by decide +kernel⟩,
   ⟨State.reset, Master.mc, by decide +kernel⟩,
   ⟨(let s := State.reset; State.wr (s) Reg.ME_CTRL_CAL_LOCK (b2n (true))), Master.mc, 6, by decide +kernel⟩,
   ⟨(let s := State.reset; State.wr (s) Reg.ME_STATUS_STATE ((State.meOff) + 1)), Master.mc, 6, by decide +kernel⟩,
   ⟨State.reset, Master.mc, 6, by decide +kernel⟩,
   ⟨(let s := State.reset; s.wr (Reg.ME_GAIN_VALUE 2) 0x7F000000), Master.mc, 5, 2130706432, by decide +kernel⟩,
   ⟨(let s := State.reset;
      { s with rw1 := (if (true) then Reg.ME_CTRL_CAL_LOCK.key :: s.rw1 else s.rw1.filter (fun x => x != Reg.ME_CTRL_CAL_LOCK.key)) }),
      Master.mc, by decide +kernel⟩,
   ⟨State.reset, Master.mc, by decide +kernel⟩,
   ⟨State.reset, by decide +kernel⟩,
   ⟨(let s := State.reset;
      { s with nv := { s.nv with cal := [[0, 1, 2, 3, 4, 5, 6, 7, 8, 9, 10, 11, 12, 13, 14, 15, 16, 17, 18, 19, 20, 21, 22, 23, 24, 25, 26, 27, 28, 29, 30, 3328079226]] } }),
      [0, 1, 2, 3, 4, 5, 6, 7, 8, 9, 10, 11, 12, 13, 14, 15, 16, 17, 18, 19, 20, 21, 22, 23, 24, 25, 26, 27, 28, 29, 30, 3328079226],
      by decide +kernel⟩⟩

theorem witness_CometLinksAndLanesMove :
    (∃ (s : State) (m : Master) (l : Nat), l < 4 ∧ s.right m (0x40090100 + 0x40 * l) .cr = .allow ∧ s.on (Reg.LINK_CFG_EN l) = false ∧
      s.linkClash l = true) ∧
    (∃ (s : State) (m : Master) (l : Nat), s.Shaped ∧ l < 4 ∧ s.right m (0x40090100 + 0x40 * l) .cr = .allow ∧
      s.on (Reg.LINK_CFG_EN l) = false ∧ s.linkClash l = false ∧ s.regsOk ∧ s.linkState l = State.linkDisabled ∧ s.linkLanes l = [l] ∧
      s.lanePresent l = true ∧ s.laneState l = State.laneOff ∧ s.rd (Reg.LANE_CFG_PAT l) = 0) ∧
    (∃ (s : State) (m : Master) (l : Nat), s.Shaped ∧ l < 4 ∧ s.regsOk ∧ s.right m (0x40090100 + 0x40 * l) .cr = .allow ∧
      s.linkState l = State.linkUp ∧ s.linkLanes l = [l]) ∧
    (∃ (s : State) (k : Nat) (ts : TrainSet), s.Shaped ∧ k < 4 ∧ s.regsOk ∧ s.laneState k = State.laneTrain ∧ ts.lane ≠ k - s.linkOf k) ∧
    (∃ (s : State) (k : Nat) (ts : TrainSet), s.Shaped ∧ k < 4 ∧ s.regsOk ∧ s.laneState k = State.laneTrain ∧ ts.lane = k - s.linkOf k ∧
      ts.constant = true) ∧
    (∃ (s : State) (k : Nat), s.Shaped ∧ k < 4 ∧ s.regsOk ∧ s.laneState k = State.laneConfig ∧
      s.linkState (s.linkOf k) ≠ State.linkTraining) ∧
    (∃ (s : State) (k v : Nat), s.Shaped ∧ k < 4 ∧ s.regsOk ∧ s.laneState k = State.laneConfig ∧
      s.linkState (s.linkOf k) = State.linkTraining ∧ s.linkOf k = k ∧ s.linkLanes k = [k] ∧ s.commonVersion k = some v) ∧
    (∃ (s : State) (l : Nat), l < 4 ∧ s.linkState l = State.linkTraining ∧ s.readyLanes l ≠ [] ∧ s.commonVersion l = none) ∧
    (∃ (s : State) (l v : Nat), l < 4 ∧ s.linkState l = State.linkTraining ∧ s.readyLanes l ≠ [] ∧ s.commonVersion l = some v) ∧
    (∃ (s : State) (l : Nat), s.linkState l ≠ State.linkTraining) ∧
    (∃ (s : State) (k : Nat), k < 4 ∧ (s.lane k).probing = true ∧ s.laneState k = State.laneActive) ∧
    (∃ (s : State) (k : Nat), k < 4 ∧ (s.lane k).probing = true ∧ s.laneState k ≠ State.laneActive) ∧
    (∃ (s : State) (l : Nat), s.Shaped ∧ l < 4 ∧ s.regsOk ∧ s.linkState l = State.linkMeasure ∧ s.linkLanes l = [l] ∧
      s.laneFit l = true) ∧
    (∃ (s : State) (l : Nat), s.linkState l ≠ State.linkMeasure) ∧
    (∃ (s : State) (l : Nat), l < 4 ∧ s.linkRuns l = false) ∧
    (∃ (s : State) (k : Nat) (o : Bool), k < 4 ∧ s.regsOk ∧ o = true) ∧
    (∃ (s : State) (k n : Nat) (o : Bool), k < 4 ∧ s.regsOk ∧ o = false ∧ 308 ≤ n ∧ s.on (Reg.LANE_CFG_DFE_HOLD k) = false ∧
      s.dfeOn k = true) ∧
    (∃ (s : State) (k fom : Nat), s.Shaped ∧ k < 4 ∧ s.regsOk ∧ s.on (Reg.LANE_STATUS_FROZEN k) = false ∧ s.dfeOn k = true ∧ fom < 256 ∧
      fom < fieldOf (s.rd (Reg.COMET_EQ_ENTRY (s.rd (Reg.LANE_CFG_EQSEL k)))) 16 8) ∧
    (∃ (s : State) (k : Nat), s.on (Reg.LANE_STATUS_FROZEN k) = true) ∧
    (∃ (s : State) (l tick : Nat), s.Shaped ∧ l < 4 ∧ s.regsOk ∧ s.linkRuns l = true ∧ s.on (Reg.LINK_CFG_IDLE_EN l) = true ∧
      0x11 ≤ s.rd (Reg.LINK_STATUS_VERSION l) ∧ (s.link l).queue = [] ∧ tick + 800 ≤ s.frameLen) ∧
    (∃ (s : State) (k cause : Nat), s.Shaped ∧ k < 4 ∧ s.regsOk ∧ s.laneState k = State.laneActive ∧ 1 ≤ cause ∧ cause ≤ 6 ∧
      hasBit (s.activeMask (s.linkOf k)) k = true) ∧
    (∃ (s : State) (l k lost : Nat), s.Shaped ∧ l < 4 ∧ k < 4 ∧ s.regsOk ∧ s.linkRuns l = true ∧ k ∈ s.linkLanes l ∧
      hasBit lost k = true ∧ hasBit (s.activeMask l) k = true) ∧
    (∃ (s : State) (k x : Nat), s.Shaped ∧ k < 4 ∧ s.regsOk ∧ (s.lane k).lostDue = some x ∧ hasBit (s.activeMask (s.linkOf k)) k = true ∧
      s.linkState (s.linkOf k) = State.linkUp ∧ clearBit (s.activeMask (s.linkOf k)) k % 16 ≠ 0) ∧
    (∃ (s : State) (k x : Nat), s.Shaped ∧ k < 4 ∧ s.regsOk ∧ (s.lane k).lostDue = some x ∧ hasBit (s.activeMask (s.linkOf k)) k = true ∧
      s.linkState (s.linkOf k) = State.linkUp ∧ clearBit (s.activeMask (s.linkOf k)) k % 16 = 0) ∧
    (∃ (s : State) (k : Nat), (s.lane k).lostDue = none) ∧
    (∃ (s : State) (k : Nat), s.Shaped ∧ k < 4 ∧ s.regsOk ∧ s.laneFit k = true ∧ s.linkRuns (s.linkOf k) = true) ∧
    (∃ (s : State) (k x : Nat), s.Shaped ∧ k < 4 ∧ s.regsOk ∧ (s.lane k).backDue = some x ∧ s.laneState k = State.laneReady ∧
      s.linkRuns (s.linkOf k) = true ∧ 0x11 ≤ s.rd (Reg.LINK_STATUS_VERSION (s.linkOf k))) ∧
    (∃ (s : State) (k : Nat), (s.lane k).backDue = none) ∧
    (∃ (s : State) (m : Master) (k : Nat), s.Shaped ∧ k < 4 ∧ s.regsOk ∧ s.right m 0x4009000C .cr = .allow ∧
      s.laneState k = State.laneReady) ∧
    (∃ (s : State) (m : Master) (l : Nat), l < 4 ∧ s.right m 0x4009000C .cr = .allow ∧ s.linkLanes l = [l] ∧
      s.laneState l = State.laneActive) ∧
    (∃ (s : State) (m : Master) (k : Nat), k < 4 ∧ s.regsOk ∧ s.right m (0x40090300 + 0x40 * k) .cr = .allow ∧ s.laneFree k = false) ∧
    (∃ (s : State) (m : Master) (k pat : Nat), k < 4 ∧ s.regsOk ∧ s.right m (0x40090300 + 0x40 * k) .cr = .allow ∧ s.laneFree k = true ∧
      1 ≤ pat ∧ pat < 8) ∧
    (∃ (s : State) (m : Master) (k : Nat), k < 4 ∧ s.regsOk ∧ s.right m (0x40090300 + 0x40 * k) .cr = .allow ∧ s.laneFree k = true ∧
      s.laneState k = State.laneTest) ∧
    (∃ (s : State) (k n : Nat), k < 4 ∧ s.regsOk ∧ s.laneState k = State.laneTest ∧ s.on (Reg.LANE_CFG_CHK_EN k) = true ∧ n ≠ 0) :=
  ⟨⟨(let s := State.reset; s.wr (Reg.LINK_CFG_WIDTH 3) 3), Master.mc, 3, by decide +kernel⟩,
   ⟨(let s := State.reset; s.wr Reg.COMET_CTRL_LANE_EN 15), Master.mc, 3, shaped (by decide +kernel), by decide +kernel⟩,
   ⟨(let s := State.reset; State.wr (s) (Reg.LINK_STATUS_STATE 3) (State.linkUp)), Master.mc, 3, shaped (by decide +kernel),
      by decide +kernel⟩,
   ⟨(let s := State.reset; State.wr (s) (Reg.LANE_STATUS_STATE 3) (State.laneTrain)),
      3, { lane := 1, verMax := 35, verMin := 16, ident := 0, constant := true }, shaped (by decide +kernel), by decide +kernel⟩,
   ⟨(let s := State.reset; State.wr (s) (Reg.LANE_STATUS_STATE 3) (State.laneTrain)),
      3, { lane := 0, verMax := 35, verMin := 16, ident := 0, constant := true }, shaped (by decide +kernel), by decide +kernel⟩,
   ⟨(let s := State.reset; State.wr (s) (Reg.LANE_STATUS_STATE 3) (State.laneConfig)), 3, shaped (by decide +kernel), by decide +kernel⟩,
   ⟨(let s := State.reset; let s := State.wr (s) (Reg.LANE_STATUS_STATE 3) (State.laneConfig);
      let s := State.wr (s) (Reg.LINK_STATUS_STATE (s.linkOf 3)) (State.linkTraining);
      (((s.setLink 3 { s.link 3 with farMax := 0x23, farMin := 0x10 }).wr Reg.COMET_VERSION_MAX 0x23).wr Reg.COMET_VERSION_MIN 0x10).wr (Reg.LINK_CFG_MINVER 3) 0),
      3, 35, shaped (by decide +kernel), by decide +kernel⟩,
   ⟨(let s := State.reset; let s := State.wr (s) (Reg.LINK_STATUS_STATE 3) (State.linkTraining);
      (s.wr (Reg.LINK_CFG_WIDTH 3) 0).wr (Reg.LANE_STATUS_STATE 3) 3), 3, by decide +kernel⟩,
   ⟨(let s := State.reset; let s := State.wr (s) (Reg.LINK_STATUS_STATE 3) (State.linkTraining);
      let s := (s.wr (Reg.LINK_CFG_WIDTH 3) 0).wr (Reg.LANE_STATUS_STATE 3) 3;
      (((s.setLink 3 { s.link 3 with farMax := 0x23, farMin := 0x10 }).wr Reg.COMET_VERSION_MAX 0x23).wr Reg.COMET_VERSION_MIN 0x10).wr (Reg.LINK_CFG_MINVER 3) 0),
      3, 35, by decide +kernel⟩,
   ⟨State.reset, 0, by decide +kernel⟩,
   ⟨(let s := State.reset; let s := State.setLane (s) 3 ({ (s.lane 3) with probing := true });
      State.wr (s) (Reg.LANE_STATUS_STATE 3) (State.laneActive)), 3, by decide +kernel⟩,
   ⟨(let s := State.reset; State.setLane (s) 3 ({ (s.lane 3) with probing := true })), 3, by decide +kernel⟩,
   ⟨(let s := State.reset; let s := State.wr (s) (Reg.LINK_STATUS_STATE 3) (State.linkMeasure);
      ((s.wr (Reg.LANE_STATUS_STATE 3) 3).wr (Reg.LANE_LAT_TD 3) 0).setLane 3 { s.lane 3 with measured := true }), 3,
      shaped (by decide +kernel), by decide +kernel⟩,
   ⟨State.reset, 0, by decide +kernel⟩,
   ⟨State.reset, 3, by decide +kernel⟩,
   ⟨State.reset, 3, true, by decide +kernel⟩,
   ⟨(let s := State.reset;
      ((s.wr (Reg.LANE_STATUS_STATE 3) 4).wr (Reg.LANE_CFG_DFE_EN 3) 1).wr (Reg.COMET_EQ_ENTRY (s.rd (Reg.LANE_CFG_EQSEL 3))) 0xFFFFFFFF),
      3, 308, false, by decide +kernel⟩,
   ⟨(let s := State.reset;
      ((s.wr (Reg.LANE_STATUS_STATE 3) 4).wr (Reg.LANE_CFG_DFE_EN 3) 1).wr (Reg.COMET_EQ_ENTRY (s.rd (Reg.LANE_CFG_EQSEL 3))) 0xFFFFFFFF),
      3, 10, shaped (by decide +kernel), by decide +kernel⟩,
   ⟨(let s := State.reset; State.wr (s) (Reg.LANE_STATUS_FROZEN 0) (b2n (true))), 0, by decide +kernel⟩,
   ⟨(let s := State.reset; let s := s.wr (Reg.LINK_STATUS_STATE 3) 3; let s := State.wr (s) (Reg.LINK_CFG_IDLE_EN 3) (b2n (true));
      State.wr (s) (Reg.LINK_STATUS_VERSION 3) (0x11)), 3, 0, shaped (by decide +kernel), by decide +kernel⟩,
   ⟨(let s := State.reset; let s := State.wr (s) (Reg.LANE_STATUS_STATE 3) (State.laneActive);
      s.wr (Reg.LINK_STATUS_ACTIVE (s.linkOf 3)) (setBit (s.activeMask (s.linkOf 3)) 3)), 3, 6, shaped (by decide +kernel),
      by decide +kernel⟩,
   ⟨(let s := State.reset; let s := s.wr (Reg.LINK_STATUS_STATE 3) 3; s.wr (Reg.LINK_STATUS_ACTIVE 3) (setBit (s.activeMask 3) 3)),
      3, 3, 8, shaped (by decide +kernel), by decide +kernel⟩,
   ⟨(let s := State.reset; let s := State.setLane (s) 3 ({ (s.lane 3) with lostDue := some 0 });
      let s := s.wr (Reg.LINK_STATUS_ACTIVE (s.linkOf 3)) (setBit (s.activeMask (s.linkOf 3)) 3);
      let s := State.wr (s) (Reg.LINK_STATUS_STATE (s.linkOf 3)) (State.linkUp); s.wr (Reg.LINK_STATUS_ACTIVE (s.linkOf 3)) 15), 3, 0,
      shaped (by decide +kernel), by decide +kernel⟩,
   ⟨(let s := State.reset; let s := State.setLane (s) 3 ({ (s.lane 3) with lostDue := some 0 });
      let s := s.wr (Reg.LINK_STATUS_ACTIVE (s.linkOf 3)) (setBit (s.activeMask (s.linkOf 3)) 3);
      State.wr (s) (Reg.LINK_STATUS_STATE (s.linkOf 3)) (State.linkUp)), 3, 0, shaped (by decide +kernel), by decide +kernel⟩,
   ⟨State.reset, 0, by decide +kernel⟩,
   ⟨(let s := State.reset;
      let s := ((s.wr (Reg.LANE_STATUS_STATE 3) 3).wr (Reg.LANE_LAT_TD 3) 0).setLane 3 { s.lane 3 with measured := true };
      s.wr (Reg.LINK_STATUS_STATE (s.linkOf 3)) 3), 3, shaped (by decide +kernel), by decide +kernel⟩,
   ⟨(let s := State.reset; let s := State.setLane (s) 3 ({ (s.lane 3) with backDue := some 0 });
      let s := State.wr (s) (Reg.LANE_STATUS_STATE 3) (State.laneReady); let s := s.wr (Reg.LINK_STATUS_STATE (s.linkOf 3)) 3;
      State.wr (s) (Reg.LINK_STATUS_VERSION (s.linkOf 3)) (0x11)), 3, 0, shaped (by decide +kernel), by decide +kernel⟩,
   ⟨State.reset, 0, by decide +kernel⟩,
   ⟨(let s := State.reset; State.wr (s) (Reg.LANE_STATUS_STATE 3) (State.laneReady)), Master.mc, 3, shaped (by decide +kernel),
      by decide +kernel⟩,
   ⟨(let s := State.reset; State.wr (s) (Reg.LANE_STATUS_STATE 3) (State.laneActive)), Master.mc, 3, by decide +kernel⟩,
   ⟨(State.reset.wr (Reg.LINK_CFG_EN 3) 1), .mc, 3, by decide +kernel⟩,
   ⟨State.reset, Master.mc, 3, 7, by decide +kernel⟩,
   ⟨(let s := State.reset; State.wr (s) (Reg.LANE_STATUS_STATE 3) (State.laneTest)), Master.mc, 3, by decide +kernel⟩,
   ⟨(let s := State.reset; let s := State.wr (s) (Reg.LANE_STATUS_STATE 3) (State.laneTest);
      State.wr (s) (Reg.LANE_CFG_CHK_EN 3) (b2n (true))), 3, 1, by decide +kernel⟩⟩

theorem witness_CometPacketsAreCarried :
    (∃ (s : State) (l : Nat) (a : Int) (x y : Nat), s.Shaped ∧ l < 4 ∧ s.regsOk ∧ s.peerFull l = true ∧ s.rd (Reg.LINK_CFG_ROLE l) = 1 ∧
      s.rd Reg.ORB_GROUP_ROLE = 2 ∧ s.on (Reg.LINK_CFG_REPEAT l) = false ∧ (s.link l).marker = none ∧ (s.link l).bnd = some (a, x, y) ∧
      s.orbState ≠ State.orbFollow) ∧
    (∃ (s : State) (l p h f : Nat) (w : List Nat), l < 4 ∧ s.regsOk ∧ s.peerFull l = true ∧ s.rd (Reg.LINK_CFG_ROLE l) = 1 ∧
      s.rd Reg.ORB_GROUP_ROLE = 2 ∧ s.on (Reg.LINK_CFG_REPEAT l) = false ∧ (s.link l).marker = some (p, h, f) ∧
      nth w 0 0 ≠ (f + 1) % 2 ^ 32) ∧
    (∃ s : State, s.rd Reg.ORB_GROUP_ROLE ≠ 2) ∧
    (∃ (s : State) (l : Nat), l < 4 ∧ s.regsOk ∧ s.linkRuns l = true ∧ s.rd (Reg.LINK_CFG_ROLE l) = 0) ∧
    (∃ (s : State) (l : Nat), l < 4 ∧ s.regsOk ∧ s.peerFull l = true ∧ s.rd (Reg.LINK_CFG_ROLE l) ≠ 0) ∧
    (∃ (s : State) (l tick : Nat) (p : CmtPacket), s.Shaped ∧ l < 4 ∧ s.regsOk ∧ s.linkRuns l = true ∧ (s.link l).queue = [p] ∧
      10 * tick + 16 * s.cmtSlots l p + 256 ≤ 10 * s.frameLen) ∧
    (∃ (s : State) (l tick : Nat) (p : CmtPacket), s.Shaped ∧ l < 4 ∧ s.regsOk ∧ s.linkRuns l = true ∧ (s.link l).queue = [p] ∧
      10 * s.frameLen < 10 * tick + 16 * s.cmtSlots l p + 256) ∧
    (∃ (s : State) (slot l : Nat) (o : OrbOp), s.Shaped ∧ l < 4 ∧ slot < 32 ∧ s.regsOk ∧ s.opOf? slot 5 = some o ∧
      fieldOf o.arga 0 2 = l ∧ fieldOf o.arga 8 4 = 2 ∧ s.linkRuns l = true ∧ hasBit (s.rd (Reg.LINK_STATUS_SHED l)) 2 = false ∧
      s.carries l 2 = true) ∧
    (∃ (s : State) (slot l : Nat) (o : OrbOp), s.Shaped ∧ l < 4 ∧ slot < 32 ∧ s.regsOk ∧ s.opOf? slot 5 = some o ∧
      fieldOf o.arga 0 2 = l ∧ fieldOf o.arga 8 4 = 2 ∧ s.linkRuns l = false) ∧
    (∃ (s : State) (slot : Nat), s.opOf? slot 5 = none) ∧
    (∃ m : Master, m ≠ .sc) ∧
    (∃ (s : State) (m : Master), s.regsOk ∧ s.right m 0x4009000C .dr = .allow) ∧
    (∃ (s : State) (c : Nat), s.Shaped ∧ c < 3 ∧ s.regsOk) ∧
    (∃ c : Nat, 3 ≤ c) :=
  ⟨⟨(let s := State.reset; let s := (s.wr (Reg.LINK_STATUS_STATE 3) 3).wr (Reg.LINK_STATUS_VERSION 3) 0x23;
      let s := State.wr (s) (Reg.LINK_CFG_ROLE 3) (1); let s := State.wr (s) Reg.ORB_GROUP_ROLE (2);
      State.setLink (s) 3 ({ (s.link 3) with bnd := some (0, 0, 0) })), 3, 0, 0, 0, shaped (by decide +kernel), by decide +kernel⟩,
   ⟨(let s := State.reset; let s := (s.wr (Reg.LINK_STATUS_STATE 3) 3).wr (Reg.LINK_STATUS_VERSION 3) 0x23;
      let s := State.wr (s) (Reg.LINK_CFG_ROLE 3) (1); let s := State.wr (s) Reg.ORB_GROUP_ROLE (2);
      State.setLink (s) 3 ({ (s.link 3) with marker := some (0, 0, 0) })), 3, 0, 0, 0, [], by decide +kernel⟩,
   ⟨State.reset, by decide +kernel⟩,
   ⟨(let s := State.reset; s.wr (Reg.LINK_STATUS_STATE 3) 3), 3, by decide +kernel⟩,
   ⟨(let s := State.reset; let s := (s.wr (Reg.LINK_STATUS_STATE 3) 3).wr (Reg.LINK_STATUS_VERSION 3) 0x23;
      State.wr (s) (Reg.LINK_CFG_ROLE 3) ((0) + 1)), 3, by decide +kernel⟩,
   ⟨(let s := State.reset; let s := s.wr (Reg.LINK_STATUS_STATE 3) 3;
      State.setLink (s) 3 ({ (s.link 3) with queue := [({ cls := 1, typ := 16, addr := 0, words := [1] } : CmtPacket)] })),
      3, 0, { cls := 1, typ := 16, addr := 0, words := [1] }, shaped (by decide +kernel), by decide +kernel⟩,
   ⟨(let s := State.reset; let s := s.wr (Reg.LINK_STATUS_STATE 3) 3;
      State.setLink (s) 3 ({ (s.link 3) with queue := [({ cls := 1, typ := 16, addr := 0, words := [1] } : CmtPacket)] })),
      3, 100000000, { cls := 1, typ := 16, addr := 0, words := [1] }, shaped (by decide +kernel), by decide +kernel⟩,
   ⟨(let s := State.reset;
      let s := { s with orbit := { s.orbit with ops := [({ slot := 31, tgt := 5, arga := 515, argb := 0, tag := 0, epoch := 0, sent := true } : OrbOp)] } };
      s.wr (Reg.LINK_STATUS_STATE 3) 3),
      31, 3, { slot := 31, tgt := 5, arga := 515, argb := 0, tag := 0, epoch := 0, sent := true }, shaped (by decide +kernel),
      by decide +kernel⟩,
   ⟨(let s := State.reset;
      { s with orbit := { s.orbit with ops := [({ slot := 31, tgt := 5, arga := 515, argb := 0, tag := 0, epoch := 0, sent := true } : OrbOp)] } }),
      31, 3, { slot := 31, tgt := 5, arga := 515, argb := 0, tag := 0, epoch := 0, sent := true }, shaped (by decide +kernel),
      by decide +kernel⟩,
   ⟨State.reset, 0, by decide +kernel⟩,
   ⟨Master.mc, by decide +kernel⟩,
   ⟨State.reset, Master.mc, by decide +kernel⟩,
   ⟨State.reset, 2, shaped (by decide +kernel), by decide +kernel⟩,
   ⟨3, by decide +kernel⟩⟩

theorem witness_SafetyRelaysAreTestedAndOpened :
    (∃ s : State, s.safeState = State.safeOpen ∧ s.sf4Active = false ∧ s.safeFaultPresent = false ∧ s.rd Reg.RECONNECT_SEC = 0 ∧
      s.rd Reg.HSL_WIN_GRID = 0 ∧ s.rd Reg.HSL_WIN_AW = 0 ∧ s.safety.pre = none ∧ s.regsOk ∧ s.on Reg.SAFE_STATE_NO_FB = false) ∧
    (∃ (s : State) (n : Nat), s.safeState = State.safeOpen ∧ s.sf4Active = false ∧ s.safeFaultPresent = false ∧
      s.rd Reg.RECONNECT_SEC = 0 ∧ s.rd Reg.HSL_WIN_GRID = 0 ∧ s.rd Reg.HSL_WIN_AW = 0 ∧ s.safety.pre = none ∧ s.regsOk ∧
      s.on Reg.SAFE_STATE_NO_FB = true ∧ lowestBit 4 (s.stageOutputs 0) = some n) ∧
    (∃ s : State, (s.safeState ≠ State.safeOpen ∨ s.sf4Active = true ∨ s.safeFaultPresent = true ∨ s.rd Reg.RECONNECT_SEC ≠ 0)) ∧
    (∃ (s : State) (p : PreTest), s.regsOk ∧ s.safety.pre = some p ∧ p.output < 4 ∧ p.step = 2) ∧
    (∃ (s : State) (p : PreTest), s.regsOk ∧ s.safety.pre = some p ∧ p.output < 4 ∧ p.step = 1 ∧ s.safeState ≠ State.safeNospr ∧
      s.oper ≠ .boot) ∧
    (∃ (s : State) (p : PreTest), s.regsOk ∧ s.safety.pre = some p ∧ p.output < 4 ∧ p.step = 3 ∧ p.reset = true ∧
      (∀ n, n < 4 → p.output < n → hasBit s.relaysUsed n = false) ∧ s.safeState = State.safeLatched) ∧
    (∃ (s : State) (n : Nat), s.regsOk ∧ s.safety.pre = none ∧ s.safety.contact = .released ∧ lowestBit 4 (s.stageOutputs 0) = some n) ∧
    (∃ s : State, s.regsOk ∧ s.safety.pre = none ∧ s.safety.contact = .stage2 ∧ s.oper ≠ .connected) ∧
    (∃ s : State, s.regsOk ∧ s.safety.pre = none ∧ s.safety.contact = .stage2 ∧ s.safeState ≠ State.safeNospr ∧ s.oper ≠ .boot) ∧
    (∃ s : State, s.regsOk ∧ (s.safeState = State.safeClosing ∨ s.safeState = State.safeClosed)) ∧
    (∃ (s : State) (n : Nat), n < 4 ∧ s.safeState = State.safeClosed ∧ s.sf4Active = false ∧
      hasBit (s.safety.rlyH &&& s.safety.rlyL) n = true ∧ s.safety.pulse = none) ∧
    (∃ s : State, s.safeState ≠ State.safeClosed) ∧
    (∃ (s : State) (n : Nat), s.regsOk ∧ n < 4 ∧ s.safety.pulse = some (2 * n) ∧ s.safeState ≠ State.safeNospr ∧ s.oper ≠ .boot) ∧
    (∃ s : State, s.safety.hslArmed = true ∧ s.rd Reg.HSL_WIN_GRID = 0) ∧
    (∃ s : State, s.regsOk ∧ s.safety.confirmed = true ∧ hasBit s.safety.sf4 2 = false ∧ s.safety.hslArmed = false) :=
  ⟨⟨(let s := State.reset; let s := State.wr (s) Reg.SAFE_STATE_STATE (State.safeOpen); State.wr (s) Reg.HSL_WIN_GRID (0)),
      by decide +kernel⟩,
   ⟨(let s := State.reset; let s := State.wr (s) Reg.SAFE_STATE_STATE (State.safeOpen); let s := State.wr (s) Reg.HSL_WIN_GRID (0);
      let s := State.wr (s) Reg.SAFE_STATE_NO_FB (b2n (true));
      s.setSafety fun z => { z with spr := setNth (z.spr ++ List.replicate (64 - z.spr.length) 0) 2 (2 ^ 0) }), 0, by decide +kernel⟩,
   ⟨State.reset, by decide +kernel⟩,
   ⟨(let s := State.reset; { s with safety := { s.safety with pre := some ({ output := 0, step := 2, reset := false } : PreTest) } }),
      { output := 0, step := 2, reset := false }, by decide +kernel⟩,
   ⟨(let s := State.reset;
      let s := { s with safety := { s.safety with pre := some ({ output := 0, step := 1, reset := false } : PreTest) } };
      let s := State.wr (s) Reg.SAFE_STATE_STATE ((State.safeNospr) + 1); { s with oper := .standby }),
      { output := 0, step := 1, reset := false }, by decide +kernel⟩,
   ⟨(let s := State.reset;
      let s := { s with safety := { s.safety with pre := some ({ output := 0, step := 3, reset := true } : PreTest) } };
      State.wr (s) Reg.SAFE_STATE_STATE (State.safeLatched)), { output := 0, step := 3, reset := true }, by decide +kernel⟩,
   ⟨(let s := State.reset; let s := { s with safety := { s.safety with contact := .released } };
      s.setSafety fun z => { z with spr := setNth (z.spr ++ List.replicate (64 - z.spr.length) 0) 2 (2 ^ 0) }), 0, by decide +kernel⟩,
   ⟨(let s := State.reset; { s with safety := { s.safety with contact := .stage2 } }), by decide +kernel⟩,
   ⟨(let s := State.reset; let s := { s with safety := { s.safety with contact := .stage2 } };
      let s := State.wr (s) Reg.SAFE_STATE_STATE ((State.safeNospr) + 1); { s with oper := .standby }), by decide +kernel⟩,
   ⟨(let s := State.reset; State.wr (s) Reg.SAFE_STATE_STATE (State.safeClosing)), by decide +kernel⟩,
   ⟨(let s := State.reset; let s := State.wr (s) Reg.SAFE_STATE_STATE (State.safeClosed);
      s.setSafety fun z => { z with rlyH := 15, rlyL := 15 }), 3, by decide +kernel⟩,
   ⟨State.reset, by decide +kernel⟩,
   ⟨(let s := State.reset; let s := { s with safety := { s.safety with pulse := some (2 * 3) } };
      let s := State.wr (s) Reg.SAFE_STATE_STATE ((State.safeNospr) + 1); { s with oper := .standby }), 3, by decide +kernel⟩,
   ⟨(let s := State.reset; let s := { s with safety := { s.safety with hslArmed := true } }; State.wr (s) Reg.HSL_WIN_GRID (0)),
      by decide +kernel⟩,
   ⟨(let s := State.reset; { s with safety := { s.safety with confirmed := true } }), by decide +kernel⟩⟩

theorem witness_SafetyDemandsInhibit :
    (∃ f : XmonFrame, f.crcOk = false) ∧
    (∃ f : XmonFrame, f.crcOk = true) ∧
    (∃ s : State, s.regsOk ∧ s.safety.differs = true ∧ s.safeState ≠ State.safeNospr ∧ s.oper ≠ .boot) ∧
    (∃ s : State, s.safety.differs = false) ∧
    (∃ s : State, s.regsOk ∧ hasBit (s.rd Reg.SAFE_STATE_SF) 0 = false ∧ s.tpp.connectWanted = false) ∧
    (∃ s : State, s.regsOk ∧ (∀ f, f < 4 → s.fnType f = 0)) ∧
    (∃ (s : State) (levels k i : Nat), s.regsOk ∧ i < 8 ∧ s.fnType (i / 2) = 1 ∧ s.sinSource i = 0 ∧ 7 ≤ k % 500 ∧
      hasBit (levels % 256) i = false ∧ s.fnFilt (i / 2) ≤ nth s.safety.demandRun i 0 + 1) ∧
    (∃ (s : State) (f : Nat), s.regsOk ∧ f < 4 ∧ s.fnType f = 1 ∧ fieldOf (s.rd Reg.SIN_STATE_DEMAND) (2 * f) 2 ≠ 0 ∧
      hasBit (s.rd Reg.SIN_STATE_FDEMAND) f = false ∧ s.oper ≠ .boot) ∧
    (∃ (s : State) (f : Nat), s.fnType f = 0) ∧
    (∃ (s : State) (f : Nat), s.regsOk ∧ f < 4 ∧ hasBit (s.rd Reg.SIN_STATE_FDEMAND) f = true ∧
      fieldOf (s.rd Reg.SIN_STATE_DEMAND) (2 * f) 2 = 0 ∧ hasBit s.safety.discHeld f = false ∧ s.fnFaultGone f = true) ∧
    (∃ s : State, s.regsOk ∧ s.sf4Active = true ∧ hasBit s.safety.sf4 1 = false) ∧
    (∃ s : State, s.regsOk ∧ s.sf4Active = false ∧ s.safeState ≠ State.safeLatched ∧ s.safety.pwmSafeSc = true) ∧
    (∃ s : State, (s.sf4Active = true ∨ s.safeState = State.safeLatched)) ∧
    (∃ (s : State) (src : Nat), s.regsOk ∧ src < 2) ∧
    (∃ src : Nat, 2 ≤ src) ∧
    (∃ (s : State) (a b : Nat), s.regsOk ∧ s.power = .run ∧ s.safeState = State.safePending ∧ s.safety.winOpened = true ∧ 200 ≤ a ∧
      b ≤ 10000) ∧
    (∃ (s : State) (a b : Nat), (s.safeState ≠ State.safePending ∨ s.safety.winOpened = false ∨ a < 200 ∨ 10000 < b)) ∧
    (∃ s : State, s.on Reg.SAFE_STATE_CONFIRM_WIN = true) ∧
    (∃ s : State, s.on Reg.SAFE_STATE_CONFIRM_WIN = false) ∧
    (∃ (s : State) (mask : Nat), s.regsOk ∧ s.safety.hslArmed = true ∧ mask < 64 ∧ mask ≠ 0 ∧ s.rd Reg.HSL_WIN_GRID = 0 ∧
      hasBit (s.sprField 5 0 4) 2 = true ∧ hasBit (s.rd Reg.SAFE_STATE_SF) 0 = false) ∧
    (∃ s : State, s.safety.hslArmed = false) ∧
    (∃ (s : State) (w : Nat), s.regsOk ∧ w < 2 ∧ s.sprField (40 + w) 6 1 = 1 ∧ s.sprField (40 + w) 18 2 = 0 ∧
      hasBit (s.rd Reg.HSL_WIN_AW) w = false) ∧
    (∃ (s : State) (w : Nat), s.sprField (40 + w) 6 1 = 0) :=
  ⟨⟨{ crcOk := false, state := 2, sf := 0, relays := 0, judged := 0, sprCrc := 0, alive := 0 }, by decide +kernel⟩,
   ⟨{ crcOk := true, state := 2, sf := 0, relays := 0, judged := 0, sprCrc := 0, alive := 0 }, by decide +kernel⟩,
   ⟨(let s := State.reset; let s := { s with safety := { s.safety with differs := true } };
      let s := State.wr (s) Reg.SAFE_STATE_STATE ((State.safeNospr) + 1); { s with oper := .standby }), by decide +kernel⟩,
   ⟨State.reset, by decide +kernel⟩,
   ⟨State.reset, by decide +kernel⟩,
   ⟨State.reset, by decide +kernel⟩,
   ⟨(let s := State.reset;
      s.setSafety fun z => { z with spr := setNth (z.spr ++ List.replicate (64 - z.spr.length) 0) (6 + (7 / 2)) 1 }), 0, 7, 7,
      by decide +kernel⟩,
   ⟨(let s := State.reset;
      let s := s.setSafety fun z => { z with spr := setNth (z.spr ++ List.replicate (64 - z.spr.length) 0) (6 + 3) 1 };
      let s := State.wr (s) Reg.SIN_STATE_DEMAND (((s.rd Reg.SIN_STATE_DEMAND) - fieldOf (s.rd Reg.SIN_STATE_DEMAND) (2 * 3) 2 * 2 ^ (2 * 3) + ((0) + 1) * 2 ^ (2 * 3)));
      { s with oper := .standby }), 3, by decide +kernel⟩,
   ⟨State.reset, 0, by decide +kernel⟩,
   ⟨(let s := State.reset; State.wr (s) Reg.SIN_STATE_FDEMAND (putBit (s.rd Reg.SIN_STATE_FDEMAND) 3 (true))), 3, by decide +kernel⟩,
   ⟨(let s := State.reset; s.setSafety fun z => { z with sf4 := 1 }), by decide +kernel⟩,
   ⟨(let s := State.reset; { s with safety := { s.safety with pwmSafeSc := true } }), by decide +kernel⟩,
   ⟨(let s := State.reset; s.setSafety fun z => { z with sf4 := 1 }), by decide +kernel⟩,
   ⟨State.reset, 1, by decide +kernel⟩,
   ⟨2, by decide +kernel⟩,
   ⟨(let s := State.reset; let s := State.wr (s) Reg.SAFE_STATE_STATE (State.safePending);
      { s with safety := { s.safety with winOpened := true } }), 200, 10000, by decide +kernel⟩,
   ⟨State.reset, 0, 0, by decide +kernel⟩,
   ⟨(let s := State.reset; State.wr (s) Reg.SAFE_STATE_CONFIRM_WIN (b2n (true))), by decide +kernel⟩,
   ⟨State.reset, by decide +kernel⟩,
   ⟨(let s := State.reset; let s := { s with safety := { s.safety with hslArmed := true } }; let s := State.wr (s) Reg.HSL_WIN_GRID (0);
      s.setSafety fun z => { z with spr := setNth (z.spr ++ List.replicate (64 - z.spr.length) 0) 5 15 }), 63, by decide +kernel⟩,
   ⟨State.reset, by decide +kernel⟩,
   ⟨(let s := State.reset;
      s.setSafety fun z => { z with spr := setNth (z.spr ++ List.replicate (64 - z.spr.length) 0) (40 + 1) (s.sprWord (40 + 1) - s.sprField (40 + 1) 6 1 * 2 ^ 6 + 1 * 2 ^ 6) }),
      1, by decide +kernel⟩,
   ⟨State.reset, 0, by decide +kernel⟩⟩

theorem witness_SafetyPdusAreJudged :
    (∃ (s : State) (l w : Nat), s.Shaped ∧ l < 4 ∧ s.regsOk ∧ s.linkRuns l = true ∧ s.rd (Reg.LINK_CFG_ROLE l) = 0 ∧
      (s.link l).safeSeen = [] ∧ s.rd Reg.SAFE_RX_PTR_WPTR = w ∧ w < 8) ∧
    (∃ (s : State) (l q : Nat), (s.linkRuns l = false ∨ q % 32 ∈ (s.link l).safeSeen)) ∧
    (∃ (s : State) (c : Nat) (pl : List Byte), c < 4 ∧ s.regsOk ∧ s.rd (Reg.PDU_STAT_STATE c) ≠ 0 ∧ s.sprField 0 24 4 = 2 ∧
      pl.length ≤ 16 ∧ hasBit (s.pduWord c) 1 = false) ∧
    (∃ (s : State) (c : Nat) (pl : List Byte), c < 4 ∧ s.regsOk ∧ s.rd (Reg.PDU_STAT_STATE c) ≠ 0 ∧ s.sprField 0 24 4 = 2 ∧
      pl.length ≤ 16 ∧ hasBit (s.pduWord c) 1 = true) ∧
    (∃ (s : State) (c : Nat), s.rd (Reg.PDU_STAT_STATE c) = 0) ∧
    (∃ (s : State) (c : Nat), c < 4 ∧ s.regsOk ∧ (s.rd (Reg.PDU_STAT_STATE c) = 1 ∨ s.rd (Reg.PDU_STAT_STATE c) = 2)) ∧
    (∃ (s : State) (c : Nat), (s.rd (Reg.PDU_STAT_STATE c) = 0 ∨ s.rd (Reg.PDU_STAT_STATE c) = 3)) :=
  ⟨⟨(let s := State.reset; let s := s.wr (Reg.LINK_STATUS_STATE 3) 3; State.wr (s) Reg.SAFE_RX_PTR_WPTR (7)), 3, 7,
      shaped (by decide +kernel), by decide +kernel⟩,
   ⟨State.reset, 0, 0, by decide +kernel⟩,
   ⟨(let s := State.reset; let s := State.wr (s) (Reg.PDU_STAT_STATE 3) ((0) + 1);
      s.setSafety fun z => { z with spr := setNth (z.spr ++ List.replicate (64 - z.spr.length) 0) 0 (s.sprWord 0 - s.sprField 0 24 4 * 2 ^ 24 + 2 * 2 ^ 24) }),
      3, [1, 2, 3, 4], by decide +kernel⟩,
   ⟨(let s := State.reset; let s := State.wr (s) (Reg.PDU_STAT_STATE 3) ((0) + 1);
      let s := s.setSafety fun z => { z with spr := setNth (z.spr ++ List.replicate (64 - z.spr.length) 0) 0 (s.sprWord 0 - s.sprField 0 24 4 * 2 ^ 24 + 2 * 2 ^ 24) };
      s.setSafety fun z => { z with spr := setNth (z.spr ++ List.replicate (64 - z.spr.length) 0) (12 + 2 * 3) (setBit (s.pduWord 3) 1) }),
      3, [1, 2, 3, 4], by decide +kernel⟩,
   ⟨State.reset, 0, by decide +kernel⟩,
   ⟨(let s := State.reset; State.wr (s) (Reg.PDU_STAT_STATE 3) (1)), 3, by decide +kernel⟩,
   ⟨State.reset, 0, by decide +kernel⟩⟩

theorem witness_UmbraKeepsItsDomain :
    (∃ s : State, s.regsOk ∧ s.umb.alive = false) ∧
    (∃ s : State, s.regsOk ∧ s.umb.alive = true ∧ s.umbState = State.umbStart) ∧
    (∃ s : State, (s.umb.alive = false ∨ s.umbState ≠ State.umbStart)) ∧
    (∃ s : State, s.regsOk ∧ s.umb.alive = true ∧ s.umbState = State.umbKeep ∧ s.umb.darkSince = none) ∧
    (∃ (s : State) (d : Nat), s.regsOk ∧ s.umb.alive = true ∧ s.umbState = State.umbKeep ∧ s.umb.darkSince = some d) ∧
    (∃ s : State, s.regsOk ∧ s.umb.alive = true ∧ s.umbState = State.umbLinked ∧ s.on Reg.UMB_CFG_TAMPER_EN = true ∧
      s.on Reg.UMB_CFG_PLUG_EN = false ∧ s.umb.lastTamper = true ∧ s.on Reg.UMB_STATUS_TAMPER = false) ∧
    (∃ s : State, s.umb.alive = true ∧ s.umbState ≠ State.umbStart ∧ s.on Reg.UMB_CFG_TAMPER_EN = true ∧
      s.on Reg.UMB_CFG_PLUG_EN = false ∧ s.umb.lastTamper = false) ∧
    (∃ s : State, (s.umb.alive = false ∨ s.umbState = State.umbStart)) ∧
    (∃ (s : State) (m : Master), s.regsOk ∧ s.umb.alive = true ∧ s.umbState ≠ State.umbStart ∧ s.right m 0x400F0014 .ur = .allow) ∧
    (∃ (s : State) (m : Master), s.regsOk ∧ s.umb.alive = true ∧ s.umbState ≠ State.umbStart ∧ s.right m 0x400F0030 .ur = .allow ∧
      16 ≤ s.umb.staged.length) ∧
    (∃ (s : State) (m : Master) (k q : Nat), s.regsOk ∧ s.umb.alive = true ∧ s.umbState ≠ State.umbStart ∧
      s.right m 0x400F0030 .ur = .allow ∧ s.umb.staged = [] ∧ s.umb.drops = 0 ∧ s.energyOk = true ∧ s.umb.next = some (k, q)) ∧
    (∃ s : State, (s.umb.alive = false ∨ s.umb.vdd = false)) ∧
    (∃ (s : State) (us : Nat), s.regsOk ∧ s.umb.alive = true ∧ s.umb.vdd = true ∧ s.umbState = State.umbLinked ∧
      s.on Reg.UMB_CFG_CHG_EN = true ∧ s.umb.measured = false ∧ us < 500 * 4096) ∧
    (∃ s : State, (s.umb.vdd = false ∨ s.umb.measured = true)) :=
  ⟨⟨(let s := State.reset; { s with umb := { s.umb with alive := false } }), by decide +kernel⟩,
   ⟨State.reset, by decide +kernel⟩,
   ⟨(let s := State.reset; { s with umb := { s.umb with alive := false } }), by decide +kernel⟩,
   ⟨(let s := State.reset; State.wr (s) Reg.UMB_STATUS_STATE (State.umbKeep)), by decide +kernel⟩,
   ⟨(let s := State.reset; let s := State.wr (s) Reg.UMB_STATUS_STATE (State.umbKeep);
      { s with umb := { s.umb with darkSince := some 0 } }), 0, by decide +kernel⟩,
   ⟨(let s := State.reset; let s := State.wr (s) Reg.UMB_STATUS_STATE (State.umbLinked);
      let s := State.wr (s) Reg.UMB_CFG_PLUG_EN (b2n (false)); { s with umb := { s.umb with lastTamper := true } }), by decide +kernel⟩,
   ⟨(let s := State.reset; let s := State.wr (s) Reg.UMB_STATUS_STATE ((State.umbStart) + 1);
      State.wr (s) Reg.UMB_CFG_PLUG_EN (b2n (false))), by decide +kernel⟩,
   ⟨State.reset, by decide +kernel⟩,
   ⟨(let s := State.reset; State.wr (s) Reg.UMB_STATUS_STATE ((State.umbStart) + 1)), Master.mc, by decide +kernel⟩,
   ⟨(let s := State.reset; let s := State.wr (s) Reg.UMB_STATUS_STATE ((State.umbStart) + 1);
      { s with umb := { s.umb with staged := List.replicate 16 ⟨1, 2, 3, 0, 5⟩ } }), Master.mc, by decide +kernel⟩,
   ⟨(let s := State.reset; let s := State.wr (s) Reg.UMB_STATUS_STATE ((State.umbStart) + 1);
      let s := { s with umb := { s.umb with next := some (0, 0) } };
      ((s.wr Reg.UMB_CSTORE_MV 5000).wr Reg.UMB_CSTORE_CAP 4095).wr Reg.UMB_CFG_MARGIN 1), Master.mc, 0, 0, by decide +kernel⟩,
   ⟨(let s := State.reset; { s with umb := { s.umb with alive := false } }), by decide +kernel⟩,
   ⟨(let s := State.reset; State.wr (s) Reg.UMB_STATUS_STATE (State.umbLinked)), 0, by decide +kernel⟩,
   ⟨(let s := State.reset; { s with umb := { s.umb with vdd := false } }), by decide +kernel⟩⟩

theorem witness_CvuFollowsMessages :
    (∃ (s : State) (u : Nat), (6 ≤ u ∨ s.on (Reg.CVU_CTRL_EN u) = false)) ∧
    (∃ (s : State) (u : Nat), u < 6 ∧ s.on (Reg.CVU_CTRL_EN u) = true ∧ s.on (Reg.CVU_CTRL_PAUSE u) = true) ∧
    (∃ (s : State) (u : Nat) (p : CrcParams), s.Shaped ∧ s.regsOk ∧ u < 6 ∧ s.on (Reg.CVU_CTRL_EN u) = true ∧
      s.on (Reg.CVU_CTRL_PAUSE u) = false ∧ s.on (Reg.CVU_STATUS_IN_MSG u) = true ∧ p = s.cvuSet u) ∧
    (∃ (s : State) (u : Nat), s.regsOk ∧ u < 6 ∧ s.on (Reg.CVU_CTRL_EN u) = true ∧ s.on (Reg.CVU_CTRL_PAUSE u) = false ∧
      s.on (Reg.CVU_STATUS_IN_MSG u) = false ∧ s.on (Reg.CVU_CTRL_MODE u) = true ∧ s.rd (Reg.CVU_CTRL_POLY u) = 1) ∧
    (∃ (s : State) (u : Nat),
      (6 ≤ u ∨ s.on (Reg.CVU_CTRL_EN u) = false ∨ s.on (Reg.CVU_CTRL_PAUSE u) = true ∨ s.on (Reg.CVU_CTRL_MODE u) = false ∨ s.on (Reg.CVU_STATUS_IN_MSG u) = false)) ∧
    (∃ (s : State) (u : Nat) (p : CrcParams), s.regsOk ∧ u < 6 ∧ s.on (Reg.CVU_CTRL_EN u) = true ∧ s.on (Reg.CVU_CTRL_PAUSE u) = false ∧
      s.on (Reg.CVU_CTRL_MODE u) = true ∧ s.on (Reg.CVU_STATUS_IN_MSG u) = true ∧ s.on (Reg.CVU_CTRL_CHECK u) = true ∧ p = s.cvuSet u ∧
      p.width / 8 < s.rd (Reg.CVU_BYTES_COUNT u) ∧ State.cvuOrder p (s.rd (Reg.CVU_RUN_VALUE u)) ≠ State.cvuResidue p) ∧
    (∃ (s : State) (m : Master) (u : Nat), s.regsOk ∧ u < 6 ∧ s.right m (0x400A0000 + 0x40 * u + 0x38) .mr = .allow ∧
      s.rd (Reg.CVU_CTRL_SRC u) = 0 ∧ s.on (Reg.CVU_CTRL_EN u) = true ∧ s.on (Reg.CVU_CTRL_PAUSE u) = false ∧
      s.on (Reg.CVU_CTRL_MODE u) = true ∧ s.on (Reg.CVU_STATUS_IN_MSG u) = true ∧ s.on (Reg.CVU_CTRL_CHECK u) = false ∧
      s.on (Reg.CVU_ALIVE_EN u) = false) ∧
    (∃ (s : State) (m : Master) (u : Nat), s.right m (0x400A0000 + 0x40 * u + 0x38) .mr = .allow ∧ u < 6 ∧
      s.rd (Reg.CVU_CTRL_SRC u) ≠ 0) ∧
    (∃ (s : State) (m : Master) (u : Nat), u < 6 ∧ s.right m (0x400A0000 + 0x40 * u) .mr = .allow) ∧
    (∃ (s : State) (m : Master) (u : Nat), u < 6 ∧ s.on (Reg.CVU_CTRL_PAUSE u) = false ∧
      s.right m (0x400A0000 + 0x40 * u + 0x10) .mr = .allow) ∧
    (∃ (s : State) (m : Master) (u : Nat), u < 6 ∧ s.on (Reg.CVU_CTRL_PAUSE u) = false ∧
      s.right m (0x400A0000 + 0x40 * u + 0x1C) .mr = .allow) ∧
    (∃ (s : State) (m : Master) (u : Nat), s.regsOk ∧ u < 6 ∧ s.on (Reg.CVU_CTRL_PAUSE u) = true ∧
      s.right m (0x400A0000 + 0x40 * u + 0x10) .mr = .allow) ∧
    (∃ (s : State) (m : Master) (u : Nat), s.regsOk ∧ u < 6 ∧ s.on (Reg.CVU_CTRL_PAUSE u) = true ∧
      s.right m (0x400A0000 + 0x40 * u + 0x1C) .mr = .allow) :=
  ⟨⟨State.reset, 0, by decide +kernel⟩,
   ⟨(let s := State.reset; let s := State.wr (s) (Reg.CVU_CTRL_EN 5) (b2n (true)); State.wr (s) (Reg.CVU_CTRL_PAUSE 5) (b2n (true))), 5,
      by decide +kernel⟩,
   ⟨(let s := State.reset; let s := State.wr (s) (Reg.CVU_CTRL_EN 5) (b2n (true)); State.wr (s) (Reg.CVU_STATUS_IN_MSG 5) (b2n (true))),
      5, { width := 8, poly := 47, init := 255, refl := false, xorOut := 255 }, shaped (by decide +kernel), by decide +kernel⟩,
   ⟨(let s := State.reset; let s := State.wr (s) (Reg.CVU_CTRL_EN 5) (b2n (true));
      let s := State.wr (s) (Reg.CVU_CTRL_MODE 5) (b2n (true)); State.wr (s) (Reg.CVU_CTRL_POLY 5) (1)), 5, by decide +kernel⟩,
   ⟨State.reset, 0, by decide +kernel⟩,
   ⟨(let s := State.reset; let s := s.wr (Reg.CVU_BYTES_COUNT 5) 5; let s := s.wr (Reg.CVU_RUN_VALUE 5) 0x1234;
      let s := State.wr (s) (Reg.CVU_CTRL_EN 5) (b2n (true)); let s := State.wr (s) (Reg.CVU_CTRL_MODE 5) (b2n (true));
      let s := State.wr (s) (Reg.CVU_STATUS_IN_MSG 5) (b2n (true)); State.wr (s) (Reg.CVU_CTRL_CHECK 5) (b2n (true))),
      5, { width := 8, poly := 47, init := 255, refl := false, xorOut := 255 }, by decide +kernel⟩,
   ⟨(let s := State.reset; let s := State.wr (s) (Reg.CVU_CTRL_EN 5) (b2n (true));
      let s := State.wr (s) (Reg.CVU_CTRL_MODE 5) (b2n (true)); State.wr (s) (Reg.CVU_STATUS_IN_MSG 5) (b2n (true))), Master.mc, 5,
      by decide +kernel⟩,
   ⟨(let s := State.reset; State.wr (s) (Reg.CVU_CTRL_SRC 5) ((0) + 1)), Master.mc, 5, by decide +kernel⟩,
   ⟨State.reset, Master.mc, 5, by decide +kernel⟩,
   ⟨State.reset, Master.mc, 5, by decide +kernel⟩,
   ⟨State.reset, Master.mc, 5, by decide +kernel⟩,
   ⟨(let s := State.reset; State.wr (s) (Reg.CVU_CTRL_PAUSE 5) (b2n (true))), Master.mc, 5, by decide +kernel⟩,
   ⟨(let s := State.reset; State.wr (s) (Reg.CVU_CTRL_PAUSE 5) (b2n (true))), Master.mc, 5, by decide +kernel⟩⟩

theorem witness_ClocksLockAndFail :
    (∃ (s : State) (p : Nat), (s.pllWanted p = false ∨ s.on Reg.CLK_STATUS_REF_OK = false ∨ hasBit (s.rd Reg.CLK_STATUS_LOCK) p = true)) ∧
    (∃ (s : State) (p : Nat), s.pllWanted p = true ∧ s.on Reg.CLK_STATUS_REF_OK = true ∧ hasBit (s.rd Reg.CLK_STATUS_LOCK) p = false ∧
      (∀ b, b < 32 → s.bandFits p b = false)) ∧
    (∃ (s : State) (p b : Nat), s.regsOk ∧ s.pllWanted p = true ∧ s.on Reg.CLK_STATUS_REF_OK = true ∧
      hasBit (s.rd Reg.CLK_STATUS_LOCK) p = false ∧ b < 32 ∧ s.bandFits p b = true ∧ p ≠ 0) ∧
    (∃ (s : State) (p b : Nat), s.regsOk ∧ s.pllWanted p = true ∧ s.on Reg.CLK_STATUS_REF_OK = true ∧
      hasBit (s.rd Reg.CLK_STATUS_LOCK) p = false ∧ b < 32 ∧ s.bandFits p b = true ∧ p = 0) ∧
    (∃ (s : State) (p : Nat), (4 ≤ p ∨ hasBit (s.rd Reg.CLK_STATUS_LOCK) p = false)) ∧
    (∃ (s : State) (p : Nat), s.regsOk ∧ p < 4 ∧ hasBit (s.rd Reg.CLK_STATUS_LOCK) p = true) ∧
    (∃ (s : State) (m : Master), s.regsOk ∧ s.right m 0x400D0300 .mr = .allow) ∧
    (∃ (s : State) (m : Master), s.right m 0x400D0070 .mr = .allow ∧ s.rampOk = false) ∧
    (∃ (s : State) (m : Master), s.regsOk ∧ s.right m 0x400D0070 .mr = .allow ∧ s.rampOk = true) ∧
    (∃ (s : State) (m : Master), s.right m 0x400D0070 .mr = .allow ∧ s.on Reg.RAMP_CTRL_RUN = false) ∧
    (∃ (s : State) (m : Master), s.right m 0x400D0070 .mr = .allow ∧ s.on Reg.RAMP_CTRL_RUN = true) ∧
    (∃ s : State, s.regsOk ∧ s.clk.rampReturns = true) ∧
    (∃ s : State, s.regsOk ∧ s.clk.rampReturns = false ∧ s.on Reg.RAMP_CTRL_RUN = true ∧ s.rd Reg.RAMP_STATUS_SEG < 16) ∧
    (∃ s : State, s.clk.rampReturns = false ∧ s.on Reg.RAMP_CTRL_RUN = false) :=
  ⟨⟨State.reset, 0, by decide +kernel⟩,
   ⟨(let s := State.reset; State.wr (s) Reg.CLK_STATUS_REF_OK (b2n (true))), 0, by decide +kernel⟩,
   ⟨(let s := State.reset; let s := State.wr (s) Reg.CLK_STATUS_REF_OK (b2n (true));
      ((s.wr (Reg.PLL_BAND_VALID 1 31) 1).wr (Reg.PLL_BAND_LOW 1 31) 0).wr (Reg.PLL_BAND_HIGH 1 31) 0xFFFF), 1, 31, by decide +kernel⟩,
   ⟨(let s := State.reset; let s := State.wr (s) Reg.CLK_STATUS_REF_OK (b2n (true));
      ((s.wr (Reg.PLL_BAND_VALID 0 31) 1).wr (Reg.PLL_BAND_LOW 0 31) 0).wr (Reg.PLL_BAND_HIGH 0 31) 0xFFFF), 0, 31, by decide +kernel⟩,
   ⟨State.reset, 0, by decide +kernel⟩,
   ⟨(let s := State.reset; State.wr (s) Reg.CLK_STATUS_LOCK (putBit (s.rd Reg.CLK_STATUS_LOCK) 3 (true))), 3, by decide +kernel⟩,
   ⟨State.reset, Master.mc, by decide +kernel⟩,
   ⟨(State.reset.wr (Reg.RAMP_SEG_TIME_TIME 0) 0), .mc, by decide +kernel⟩,
   ⟨State.reset, Master.mc, by decide +kernel⟩,
   ⟨State.reset, Master.mc, by decide +kernel⟩,
   ⟨(let s := State.reset; State.wr (s) Reg.RAMP_CTRL_RUN (b2n (true))), Master.mc, by decide +kernel⟩,
   ⟨(let s := State.reset; { s with clk := { s.clk with rampReturns := true } }), by decide +kernel⟩,
   ⟨(let s := State.reset; State.wr (s) Reg.RAMP_CTRL_RUN (b2n (true))), by decide +kernel⟩,
   ⟨State.reset, by decide +kernel⟩⟩

theorem witness_SuppliesAndWakeAct :
    (∃ (s : State) (a b : Bool), s.regsOk ∧ s.supplyLow = false ∧ (a = true ∨ b = true) ∧ s.meState = State.meOff) ∧
    (∃ s : State, s.on Reg.SUP_STATUS_VDD_WARN = true) ∧
    (∃ s : State, (s.on Reg.SUP_STATUS_HOLD_RUN = false ∨ s.supplyLow = false)) ∧
    (∃ s : State, s.regsOk ∧ s.on Reg.SUP_STATUS_HOLD_RUN = true ∧ s.supplyLow = true ∧ s.power ≠ .sleep) ∧
    (∃ (s : State) (a b : Bool), s.regsOk ∧ s.supplyLow = true ∧ s.on Reg.SUP_STATUS_HOLD_RUN = true ∧
      (a = true ∨ s.on Reg.SUP_STATUS_VDD_WARN = false) ∧ (b = true ∨ s.on Reg.SUP_STATUS_VDDA_WARN = false)) ∧
    (∃ s : State, s.on Reg.SUP_STATUS_VDDA_WARN = true) ∧
    (∃ (s : State) (b : Nat), (6 ≤ b ∨ hasBit (s.rd Reg.PWR_WAKE_EN) b = false ∨ (s.clk.target = none ∧ s.power = .run))) ∧
    (∃ (s : State) (b : Nat), s.regsOk ∧ b < 5 ∧ hasBit (s.rd Reg.PWR_WAKE_EN) b = true ∧ s.clk.target = none ∧
      (s.power = .watch ∨ s.power = .sleep)) ∧
    (∃ (s : State) (b : Nat), s.regsOk ∧ b < 5 ∧ hasBit (s.rd Reg.PWR_WAKE_EN) b = true ∧ s.clk.target = some .sleep) ∧
    (∃ s : State, s.clk.target = some .run ∧ s.pllMissing ≠ 0) ∧
    (∃ s : State, s.regsOk ∧ s.clk.target = some .run ∧ s.pllMissing = 0 ∧ s.clk.reapplied = true ∧ s.cpRun = true) ∧
    (∃ s : State, s.regsOk ∧ s.clk.target = some .watch ∧ s.clk.wakeWaits = false) ∧
    (∃ s : State, s.regsOk ∧ s.clk.target = some .sleep ∧ s.clk.wakeWaits = false) ∧
    (∃ (s : State) (a b : State.Pattern), s.indicatorRow = (a, b)) ∧
    (∃ s : State, s.power = .run ∧ s.oper = .connected ∧ s.clk.sinceGood = 8 ∧ State.gsRiding s.gsState = true) ∧
    (∃ s : State, s.power = .run ∧ s.oper = .faultHold ∧ s.clk.sinceGood = 8 ∧ s.safeState = State.safeLatched) :=
  ⟨⟨State.reset, true, true, by decide +kernel⟩,
   ⟨(let s := State.reset; State.wr (s) Reg.SUP_STATUS_VDD_WARN (b2n (true))), by decide +kernel⟩,
   ⟨State.reset, by decide +kernel⟩,
   ⟨(let s := State.reset; let s := State.wr (s) Reg.SUP_STATUS_HOLD_RUN (b2n (true)); s.wr Reg.SUP_STATUS_VDD_WARN 1),
      by decide +kernel⟩,
   ⟨(let s := State.reset; let s := s.wr Reg.SUP_STATUS_VDD_WARN 1; State.wr (s) Reg.SUP_STATUS_HOLD_RUN (b2n (true))), true, true,
      by decide +kernel⟩,
   ⟨(let s := State.reset; State.wr (s) Reg.SUP_STATUS_VDDA_WARN (b2n (true))), by decide +kernel⟩,
   ⟨State.reset, 0, by decide +kernel⟩,
   ⟨(let s := State.reset; { s with power := .watch }), 4, by decide +kernel⟩,
   ⟨(let s := State.reset; { s with clk := { s.clk with target := some .sleep } }), 4, by decide +kernel⟩,
   ⟨(let s := State.reset; { s with clk := { s.clk with target := some .run } }), by decide +kernel⟩,
   ⟨(let s := State.reset; let s := { s with clk := { s.clk with target := some .run } }; let s := s.wr Reg.CLK_STATUS_LOCK 15;
      let s := { s with clk := { s.clk with reapplied := true } }; State.wr (s) Reg.CROSS_CTRL_CP_RUN (b2n (true))), by decide +kernel⟩,
   ⟨(let s := State.reset; { s with clk := { s.clk with target := some .watch } }), by decide +kernel⟩,
   ⟨(let s := State.reset; { s with clk := { s.clk with target := some .sleep } }), by decide +kernel⟩,
   ⟨State.reset, State.Pattern.on, State.Pattern.on, by decide +kernel⟩,
   ⟨(let s := State.reset; let s := { s with oper := .connected }; let s := { s with clk := { s.clk with sinceGood := 8 } };
      s.wr Reg.GS_STATUS_STATE 2), by decide +kernel⟩,
   ⟨(let s := State.reset; let s := { s with oper := .faultHold }; let s := { s with clk := { s.clk with sinceGood := 8 } };
      State.wr (s) Reg.SAFE_STATE_STATE (State.safeLatched)), by decide +kernel⟩⟩

theorem witness_ResetsKeepWhatTheyKeep :
    (∃ s : State, s.on Reg.WDT_CTRL_EN = false) ∧
    (∃ s : State, s.regsOk ∧ s.on Reg.WDT_CTRL_EN = true) ∧
    (∃ s : State, s.pairs.fatalDue = false) ∧
    (∃ s : State, s.regsOk ∧ s.pairs.fatalDue = true) ∧
    (∃ (s : State) (m : Master) (key : Nat), s.right m 0x400D0044 .mr = .allow ∧ key % 65536 = 0xA5C3) ∧
    (∃ (s : State) (m : Master) (key : Nat), s.right m 0x400D0044 .mr = .allow ∧ key % 65536 ≠ 0xA5C3 ∧ s.regsOk) ∧
    (∃ (s : State) (m : Master), s.regsOk ∧ s.right m 0x400D0034 .mr = .allow ∧ s.oper = .boot ∧ s.meState = State.meOff ∧
      s.nv.ckpt = []) ∧
    (∃ s : State, s.sec.romDue = false) ∧
    (∃ s : State, s.regsOk ∧ s.sec.romDue = true) ∧
    (∃ s : State, (s.oper ≠ .boot ∨ s.sec.romRan = false ∨ nth s.sec.loaded 0 none = none)) ∧
    (∃ s : State, s.oper = .boot ∧ s.sec.romRan = true ∧ (nth s.sec.loaded 0 none).isSome = true ∧ s.nv.bdr = [] ∧
      s.safeState ≠ State.safeLatched ∧ s.sf2Active = false) :=
  ⟨⟨State.reset, by decide +kernel⟩,
   ⟨(let s := State.reset; State.wr (s) Reg.WDT_CTRL_EN (b2n (true))), by decide +kernel⟩,
   ⟨State.reset, by decide +kernel⟩,
   ⟨(let s := State.reset; { s with pairs := { s.pairs with fatalDue := true } }), by decide +kernel⟩,
   ⟨State.reset, Master.mc, 42435, by decide +kernel⟩,
   ⟨State.reset, Master.mc, 0, by decide +kernel⟩,
   ⟨State.reset, Master.mc, by decide +kernel⟩,
   ⟨(let s := State.reset; { s with sec := { s.sec with romDue := false } }), by decide +kernel⟩,
   ⟨State.reset, by decide +kernel⟩,
   ⟨State.reset, by decide +kernel⟩,
   ⟨(let s := State.reset; let s := { s with sec := { s.sec with romRan := true } };
      { s with sec := { s.sec with loaded := setNth s.sec.loaded 0 (some ⟨1, 0, 7, [1]⟩) } }), by decide +kernel⟩⟩

theorem witness_SecurityEventsAct :
    (∃ (s : State) (t k : Nat) (img : LoadedImage), s.Shaped ∧ t < 4 ∧ nth s.nv.trial t none = some k ∧
      nth s.sec.loaded t none = some img ∧ nth s.nv.trialRuns t false = true ∧ s.nv.otp.rb.length = 4 ∧ s.nv.otp.rbDue.length = 4 ∧
      s.nv.active.length = 4) ∧
    (∃ (s : State) (t : Nat), (4 ≤ t ∨ nth s.nv.trialRuns t false = false ∨ nth s.nv.trial t none = none)) ∧
    (∃ s : State, s.gs.profWait = none) ∧
    (∃ (s : State) (ws : List Nat), s.gs.profWait = some ws ∧ (State.gsRiding s.gsState = true ∨ (s.gs.deferred = true ∧
      s.gsState ≠ State.gsNormal ∧ s.gsState ≠ State.gsOff))) ∧
    (∃ (s : State) (ws : List Nat), s.regsOk ∧ s.gs.profWait = some ws ∧ State.gsRiding s.gsState = false ∧ s.gs.deferred = false ∧
      s.tpp.gprPending = none) :=
  ⟨⟨(let s := State.reset; let s := { s with nv := { s.nv with trial := setNth s.nv.trial 3 (some 0) } };
      let s := { s with sec := { s.sec with loaded := setNth s.sec.loaded 3 (some ({ version := 0, rollback := 0, measurement := 0, payload := [] } : LoadedImage)) } };
      { s with nv := { s.nv with trialRuns := setNth s.nv.trialRuns 3 (true) } }),
      3, 0, { version := 0, rollback := 0, measurement := 0, payload := [] }, shaped (by decide +kernel), by decide +kernel⟩,
   ⟨State.reset, 0, by decide +kernel⟩,
   ⟨State.reset, by decide +kernel⟩,
   ⟨(let s := State.reset; let s := { s with gs := { s.gs with profWait := some [] } }; s.wr Reg.GS_STATUS_STATE 2), [],
      by decide +kernel⟩,
   ⟨(let s := State.reset; { s with gs := { s.gs with profWait := some [] } }), [], by decide +kernel⟩⟩

theorem witness_RegisterWritesFollowTheirFields :
    (∃ (s : State) (a size : Nat), s.clk.rstDue = none ∧ (size ≠ 4 ∨ a % 4 ≠ 0 ∨ State.windowOf a = .outside)) ∧
    (∃ (s : State) (a : Nat), s.clk.rstDue = none ∧ a % 4 = 0 ∧ State.windowOf a ≠ .outside ∧ State.windowOf a ≠ .crossing ∧
      State.windowOf a ≠ .umbra) ∧
    (∃ (s : State) (a : Nat), s.regsOk ∧ s.clk.rstDue = none ∧ a % 4 = 0 ∧ 0x40010000 ≤ a ∧ a < 0x40050000 ∧
      s.pairState .a = State.pairStandby ∧ s.on (State.fenceFld .a) = false) ∧
    (∃ (s : State) (a : Nat), s.regsOk ∧ s.clk.rstDue = none ∧ a % 4 = 0 ∧ 0x40010000 ≤ a ∧ a < 0x40050000 ∧
      s.on (State.fenceFld .a) = true) :=
  ⟨⟨State.reset, 0, 0, by decide +kernel⟩,
   ⟨State.reset, 1073741824, by decide +kernel⟩,
   ⟨(let s := State.reset; State.wr (s) (State.pairStateFld .a) (State.pairStandby)), 1073807360, by decide +kernel⟩,
   ⟨(let s := State.reset; State.wr (s) (State.fenceFld .a) (b2n (true))), 1073807360, by decide +kernel⟩⟩

theorem witness_TppRunsOnlyTheHead :
    (∃ (c : Instr) (op : Nat) (s : State), tppOpcode? c = some op ∧
      (s.tpp.queue = [] ∨ s.tppBusy = true ∨ s.oper = .boot ∨ ∃ r, s.tpp.queue.head? = some r ∧ r.opcode ≠ op)) ∧
    (∃ (c : Instr) (op : Nat) (s : State) (r : Request) (e : State.CheckFail), tppOpcode? c = some op ∧ s.tpp.queue.head? = some r ∧
      r.opcode = op ∧ s.tppBusy = false ∧ s.oper ≠ .boot ∧ s.check? r = some e) ∧
    (∃ (c : Instr) (op : Nat) (s : State) (r : Request), tppOpcode? c = some op ∧ s.tpp.queue.head? = some r ∧ r.opcode = op ∧
      s.tppBusy = false ∧ s.oper ≠ .boot ∧ s.check? r = none ∧ r.busy = true) ∧
    (∃ (r : Request) (pl : List Byte), r.port = .host ∧ pl.length ≤ payloadLimit r.ver) :=
  ⟨⟨Instr.timeGet, 2563, State.reset, by decide +kernel⟩,
   ⟨Instr.timeGet, 2563, (let s := State.reset; headsOn (mkReq 0x0A03 [1]) s),
      mkReq 0x0A03 [1], { status := 258, auth := false }, by decide +kernel⟩,
   ⟨.timeGet, 0x0A03, headsOn { mkReq 0x0A03 [] with busy := true } State.reset, { mkReq 0x0A03 [] with busy := true }, by decide +kernel⟩,
   ⟨mkReq 0x0100 [35, 16, 0, 0], [1, 2, 3, 4], by decide +kernel⟩⟩

theorem witness_TppPortsCarryPackets :
    (∃ s : State, s.hostReady = false ∧ s.wakes 0 = false) ∧
    (∃ s : State, s.wakes 0 = true) ∧
    (∃ s : State, s.hostReady = true ∧ s.wakes 0 = false ∧ 8 ≤ s.slotsUsed) ∧
    (∃ (s : State) (bs : List Byte), s.hostReady = true ∧ s.wakes 0 = false ∧ s.slotsUsed < 8 ∧ (bs.length < 8 ∨ byteAt bs 0 ≠ 0xA5)) ∧
    (∃ (s : State) (bs : List Byte), s.hostReady = true ∧ s.wakes 0 = false ∧ s.slotsUsed < 8 ∧ 8 ≤ bs.length ∧ byteAt bs 0 = 0xA5 ∧
      s.tpp.queue = [] ∧ s.tppBusy = false ∧ s.check? ⟨.host, bs, false⟩ = none) ∧
    (∃ (s : State) (bs : List Byte) (e : State.CheckFail), s.hostReady = true ∧ s.wakes 0 = false ∧ s.slotsUsed < 8 ∧ 8 ≤ bs.length ∧
      byteAt bs 0 = 0xA5 ∧ s.tpp.queue = [] ∧ s.tppBusy = false ∧ s.check? ⟨.host, bs, false⟩ = some e ∧ e.auth = false) ∧
    (∃ s : State, s.hostReady = true ∧ s.wakes 0 = false ∧ s.hostHead = none) ∧
    (∃ (s : State) (x : Reply), s.hostReady = true ∧ s.wakes 0 = false ∧ s.hostHead = some (x, false)) ∧
    (∃ s : State, s.on Reg.UMB_STATUS_PLUG = false) ∧
    (∃ s : State, s.on Reg.UMB_STATUS_PLUG = true ∧ s.wakes 1 = false ∧ (s.oper = .boot ∨ s.power = .sleep ∨ s.power = .dark)) ∧
    (∃ s : State, s.on Reg.UMB_STATUS_PLUG = true ∧ s.wakes 1 = false ∧ s.oper ≠ .boot ∧ s.power = .run ∧ s.tpp.svcRx = []) ∧
    (∃ (s : State) (b : Byte) (p : List Byte), s.on Reg.UMB_STATUS_PLUG = true ∧ s.wakes 1 = false ∧ s.oper ≠ .boot ∧ s.power = .run ∧
      s.tpp.svcRx ++ [b] = p ∧ byteAt p 0 = 0xA5 ∧ 8 ≤ p.length ∧ p.length = declared (leNat (slice p 6 2)) s.tpp.service.auth ∧
      packetCrcOk p = true ∧ s.tpp.queue = [] ∧ s.tppBusy = false ∧ s.check? ⟨.service, p, false⟩ = none) ∧
    (∃ (s : State) (p : Port), s.Shaped ∧ s.regsOk ∧ (∀ n, p = .tunnel n → n < 8) ∧ (s.port p).auth = true) ∧
    (∃ (s : State) (p : Port), (s.port p).auth = false) ∧
    (∃ (s : State) (l : Nat), (4 ≤ l ∨ s.linkRuns l = false ∨ s.rd (Reg.LINK_STATUS_VERSION l) < 0x11)) ∧
    (∃ (s : State) (l w0 : Nat), s.Shaped ∧ l < 4 ∧ s.linkRuns l = true ∧ 0x11 ≤ s.rd (Reg.LINK_STATUS_VERSION l) ∧
      s.rd (Reg.LINK_CFG_ROLE l) = 0 ∧ hasBit w0 16 = false ∧ fieldOf w0 0 16 = 0) ∧
    (∃ (s u : State) (l a w0 n : Nat) (bs all : List Byte), s.tunnelTake l a w0 bs = (some (n, all), u) ∧ u.oper = .boot) ∧
    (∃ (s u : State) (l a w0 n : Nat) (bs all : List Byte), s.tunnelTake l a w0 bs = (some (n, all), u) ∧ u.oper ≠ .boot ∧
      byteAt all 0 ≠ 0x5A) ∧
    (∃ s : State, s.tpp.tunnelWait = []) ∧
    (∃ (s : State) (w : TunnelWait), s.tpp.tunnelWait = [w] ∧ w.req.port = .host ∧ s.tpp.queue = []) :=
  ⟨⟨State.reset, by decide +kernel⟩,
   ⟨(let s := State.reset; ({ s with power := .watch, clk := { s.clk with target := none } } : State).wr Reg.PWR_WAKE_EN 1),
      by decide +kernel⟩,
   ⟨(let s := State.reset; let s := { s with oper := .standby, power := .run, clk := { s.clk with hostHighZ := false } };
      { s with tpp := { s.tpp with host := { s.tpp.host with replies := List.replicate 8 ⟨0x23, 0x100, 7, 0, [1, 2], [], 0⟩ } } }),
      by decide +kernel⟩,
   ⟨(let s := State.reset; { s with oper := .standby, power := .run, clk := { s.clk with hostHighZ := false } }), [1, 2, 3, 4],
      by decide +kernel⟩,
   ⟨(let s := State.reset; let s := { s with tpp := { s.tpp with host := { s.tpp.host with ver := 0x23 } } };
      { s with oper := .standby, power := .run, clk := { s.clk with hostHighZ := false } }),
      [165, 35, 3, 10, 7, 0, 0, 0, 1, 239, 175, 192], by decide +kernel⟩,
   ⟨(let s := State.reset; { s with oper := .standby, power := .run, clk := { s.clk with hostHighZ := false } }),
      [165, 35, 3, 10, 7, 0, 1, 0, 1, 192, 110, 252, 247], { status := 258, auth := false }, by decide +kernel⟩,
   ⟨(let s := State.reset; { s with oper := .standby, power := .run, clk := { s.clk with hostHighZ := false } }), by decide +kernel⟩,
   ⟨(let s := State.reset; let s := { s with oper := .standby, power := .run, clk := { s.clk with hostHighZ := false } };
      { s with tpp := { s.tpp with host := { s.tpp.host with replies := [({ ver := 35, opcode := 256, seq := 7, status := 0, payload := [1, 2], tag := [], stamp := 0 } : Reply)], notices := [] } } }),
      { ver := 35, opcode := 256, seq := 7, status := 0, payload := [1, 2], tag := [], stamp := 0 }, by decide +kernel⟩,
   ⟨State.reset, by decide +kernel⟩,
   ⟨(let s := State.reset; State.wr (s) Reg.UMB_STATUS_PLUG (b2n (true))), by decide +kernel⟩,
   ⟨(let s := State.reset; let s := State.wr (s) Reg.UMB_STATUS_PLUG (b2n (true)); { s with oper := .standby }), by decide +kernel⟩,
   ⟨(let s := State.reset;
      let s := { s with tpp := { s.tpp with svcRx := [165, 35, 3, 10, 7, 0, 0, 0, 1, 239, 175, 192].dropLast, service := { s.tpp.service with ver := 0x23 } } };
      let s := State.wr (s) Reg.UMB_STATUS_PLUG (b2n (true)); let s := { s with oper := .standby };
      { s with oper := if s.oper = .boot then .standby else s.oper }), 192, [165, 35, 3, 10, 7, 0, 0, 0, 1, 239, 175, 192],
      by decide +kernel⟩,
   ⟨State.reset.setPort (.tunnel 7) { State.reset.port (.tunnel 7) with auth := true }, .tunnel 7, shaped (by decide +kernel),
      by decide +kernel, by rintro _ ⟨⟩; decide, by decide +kernel⟩,
   ⟨State.reset, Port.host, by decide +kernel⟩,
   ⟨State.reset, 0, by decide +kernel⟩,
   ⟨(let s := State.reset; let s := s.wr (Reg.LINK_STATUS_STATE 3) 3; State.wr (s) (Reg.LINK_STATUS_VERSION 3) (0x11)), 3, 0,
      shaped (by decide +kernel), by decide +kernel⟩,
   ⟨(let s := State.reset; let s := (s.wr (Reg.LINK_STATUS_STATE 3) 3).wr (Reg.LINK_STATUS_VERSION 3) 0x23; { s with oper := .boot }),
      (((let s := State.reset; let s := (s.wr (Reg.LINK_STATUS_STATE 3) 3).wr (Reg.LINK_STATUS_VERSION 3) 0x23;
      { s with oper := .boot }).tunnelTake 3 15 117506048 [165, 35, 3, 10, 7, 0, 0, 0, 1, 239, 175, 192]).2),
      3, 15, 117506048, 7, [165, 35, 3, 10, 7, 0, 0, 0, 1, 239, 175, 192], [165, 35, 3, 10, 7, 0, 0, 0, 1, 239, 175, 192],
      by decide +kernel⟩,
   ⟨(let s := State.reset; let s := (s.wr (Reg.LINK_STATUS_STATE 3) 3).wr (Reg.LINK_STATUS_VERSION 3) 0x23; { s with oper := .standby }),
      (((let s := State.reset; let s := (s.wr (Reg.LINK_STATUS_STATE 3) 3).wr (Reg.LINK_STATUS_VERSION 3) 0x23;
      { s with oper := .standby }).tunnelTake 3 15 117506048 [165, 35, 3, 10, 7, 0, 0, 0, 1, 239, 175, 192]).2),
      3, 15, 117506048, 7, [165, 35, 3, 10, 7, 0, 0, 0, 1, 239, 175, 192], [165, 35, 3, 10, 7, 0, 0, 0, 1, 239, 175, 192],
      by decide +kernel⟩,
   ⟨State.reset, by decide +kernel⟩,
   ⟨(let s := State.reset;
      { s with tpp := { s.tpp with tunnelWait := [({ req := { port := Port.host, raw := [165, 35, 3, 9, 7, 0, 16, 0, 0, 0, 0, 0, 0, 0, 0, 0, 0, 0, 0, 0, 0, 0, 0, 0, 157, 156, 60, 12], busy := false }, target := 1 } : TunnelWait)] } }),
      { req := { port := Port.host, raw := [165, 35, 3, 9, 7, 0, 16, 0, 0, 0, 0, 0, 0, 0, 0, 0, 0, 0, 0, 0, 0, 0, 0, 0, 157, 156, 60, 12], busy := false }, target := 1 }, by decide +kernel⟩⟩

theorem witness_TppSessionsBeginAndEnd :
    (∃ (s : State) (r : Request), s.Heads 0x0100 r ∧ min (r.byte 0) 0x23 < max (r.byte 1) 0x10) ∧
    (∃ (s : State) (r : Request), s.Heads 0x0100 r ∧ max (r.byte 1) 0x10 ≤ min (r.byte 0) 0x23) ∧
    (∃ (s : State) (r : Request), s.Heads 0x0101 r) ∧
    (∃ (s : State) (r : Request), s.Heads 0x0102 r ∧ ((s.taken r).port r.port).handshake ≠ .none) ∧
    (∃ (s : State) (r : Request), s.Heads 0x0102 r ∧ ((s.taken r).port r.port).handshake = .none ∧ s.on Reg.SEC_TRNG_HEALTH_OK = false) ∧
    (∃ (s : State) (r : Request), s.Heads 0x0102 r ∧ (s.port r.port).handshake = .none ∧ s.on Reg.SEC_TRNG_HEALTH_OK = true ∧
      r.port = .host ∧ s.tpp.queue = [r] ∧ r.ver ≠ 0x10) ∧
    (∃ (s : State) (r : Request), s.Heads 0x0103 r ∧ ((s.taken r).port r.port).handshake ≠ .offered) ∧
    (∃ (s : State) (r : Request), s.Heads 0x0103 r ∧ ((s.taken r).port r.port).handshake = .offered) ∧
    (∃ (s : State) (r : Request), s.Heads 0x0104 r ∧ ((s.taken r).port r.port).handshake ≠ .proved) ∧
    (∃ (s : State) (r : Request), s.Heads 0x0104 r ∧ (s.port r.port).handshake = .proved ∧ r.port = .host ∧ s.tpp.queue = [r]) ∧
    (∃ (s : State) (r : Request), s.Heads 0x0105 r ∧ ((s.taken r).port r.port).handshake ≠ .ciphered) ∧
    (∃ (s : State) (r : Request), s.Heads 0x0105 r ∧ ((s.taken r).port r.port).handshake = .ciphered ∧ 3 < r.byte 0) ∧
    (∃ (s : State) (r : Request), s.Heads 0x0105 r ∧ ((s.taken r).port r.port).handshake = .ciphered ∧ r.byte 0 ≤ 3 ∧
      s.ownerKey? (r.byte 0) = none) ∧
    (∃ (s : State) (r : Request) (k : List Byte), (s.regsOk ∧ s.Heads 0x0105 r ∧ (s.port r.port).handshake = .ciphered ∧ r.byte 0 ≤ 3 ∧
      r.port = .host ∧ s.tpp.queue = [r]) ∧ s.ownerKey? (r.byte 0) = some k) :=
  ⟨⟨(let s := State.reset; headsOn (mkReq 0x0100 [0, 0, 0, 0]) s), mkReq 0x0100 [0, 0, 0, 0], by decide +kernel⟩,
   ⟨(let s := State.reset; let s := { s with sec := { s.sec with loaded := [none, none, none, none] } };
      headsOn (mkReq 0x0100 [35, 16, 0, 0]) s), mkReq 0x0100 [35, 16, 0, 0], by decide +kernel⟩,
   ⟨(let s := State.reset; headsOn (mkReq 0x0101 []) s), mkReq 0x0101 [], by decide +kernel⟩,
   ⟨(let s := State.reset; let s := { s with tpp := { s.tpp with host := { s.tpp.host with handshake := .proved } } };
      let s := headsOn (mkReq 0x0102 (List.replicate 32 0)) s; s.setPort .host { s.port .host with handshake := .proved }),
      mkReq 0x0102 (List.replicate 32 0), by decide +kernel⟩,
   ⟨(let s := State.reset; let s := { s with tpp := { s.tpp with host := { s.tpp.host with handshake := .none } } };
      let s := headsOn (mkReq 0x0102 (List.replicate 32 0)) s; s.setPort .host { s.port .host with handshake := .none }),
      mkReq 0x0102 (List.replicate 32 0), by decide +kernel⟩,
   ⟨(let s := State.reset; let s := headsOn (mkReq 0x0102 (List.replicate 32 0)) s; State.wr (s) Reg.SEC_TRNG_HEALTH_OK (b2n (true))),
      mkReq 0x0102 (List.replicate 32 0), by decide +kernel⟩,
   ⟨(let s := State.reset; headsOn (mkReq 0x0103 []) s), mkReq 0x0103 [], by decide +kernel⟩,
   ⟨(let s := State.reset; let s := { s with tpp := { s.tpp with host := { s.tpp.host with handshake := .offered } } };
      let s := headsOn (mkReq 0x0103 []) s; s.setPort .host { s.port .host with handshake := .offered }), mkReq 0x0103 [],
      by decide +kernel⟩,
   ⟨(let s := State.reset; headsOn (mkReq 0x0104 (List.replicate 1088 0)) s), mkReq 0x0104 (List.replicate 1088 0), by decide +kernel⟩,
   ⟨(let s := State.reset; let s := headsOn (mkReq 0x0104 (List.replicate 1088 0)) s;
      State.setPort (s) (mkReq 0x0104 (List.replicate 1088 0)).port ({ (s.port (mkReq 0x0104 (List.replicate 1088 0)).port) with handshake := .proved })),
      mkReq 0x0104 (List.replicate 1088 0), by decide +kernel⟩,
   ⟨(let s := State.reset; headsOn (mkReq 0x0105 (List.replicate 3313 0)) s), mkReq 0x0105 (List.replicate 3313 0), by decide +kernel⟩,
   ⟨(let s := State.reset; let s := { s with tpp := { s.tpp with host := { s.tpp.host with handshake := .ciphered } } };
      let s := headsOn (mkReq 0x0105 ([4] ++ List.replicate 3312 0)) s; s.setPort .host { s.port .host with handshake := .ciphered }),
      mkReq 0x0105 ([4] ++ List.replicate 3312 0), by decide +kernel⟩,
   ⟨(let s := State.reset; let s := { s with tpp := { s.tpp with host := { s.tpp.host with handshake := .ciphered } } };
      let s := headsOn (mkReq 0x0105 (List.replicate 3313 0)) s; s.setPort .host { s.port .host with handshake := .ciphered }),
      mkReq 0x0105 (List.replicate 3313 0), by decide +kernel⟩,
   ⟨ownerState, ownerReq, [1, 2], by decide +kernel, by
    rw [show Request.byte ownerReq 0 = 3 by decide +kernel]
    simp [ownerState, ownerBase, headsOn, State.ownerKey?, nth, hasBit]
    decide⟩⟩

theorem witness_TppRecordsAreStagedAndCommitted :
    (∃ (c : Instr) (op : Nat) (k : RecordKind) (s : State) (r : Request), (c, op, k) ∈ [(Instr.bdrWrite, 0x0200, RecordKind.bdr),
      (Instr.gprWrite, 0x0300, RecordKind.gpr), (Instr.sprWrite, 0x0600, RecordKind.spr)] ∧ s.Heads op r ∧
      (r.word 0 % 4 ≠ 0 ∨ State.recordMax k < r.word 0 + (r.payload.drop 4).length)) ∧
    (∃ (c : Instr) (op : Nat) (k : RecordKind) (s : State) (r : Request), (c, op, k) ∈ [(Instr.bdrWrite, 0x0200, RecordKind.bdr),
      (Instr.gprWrite, 0x0300, RecordKind.gpr), (Instr.sprWrite, 0x0600, RecordKind.spr)] ∧ s.Heads op r ∧ r.word 0 % 4 = 0 ∧
      r.word 0 + (r.payload.drop 4).length ≤ State.recordMax k ∧ s.stageOther k r.port = true) ∧
    (∃ (c : Instr) (op : Nat) (k : RecordKind) (s : State) (r : Request), (c, op, k) ∈ [(Instr.bdrWrite, 0x0200, RecordKind.bdr),
      (Instr.gprWrite, 0x0300, RecordKind.gpr), (Instr.sprWrite, 0x0600, RecordKind.spr)] ∧ s.Heads op r ∧ r.word 0 % 4 = 0 ∧
      r.word 0 + (r.payload.drop 4).length ≤ State.recordMax k ∧ s.stageOther k r.port = false) ∧
    (∃ (g : Staging) (data : List Byte), g.bytes = [] ∧ g.missing = [] ∧ data.length % 4 = 0) ∧
    (∃ (c : Instr) (op : Nat) (k : RecordKind) (s : State) (r : Request), (c, op, k) ∈ [(Instr.bdrCommit, 0x0201, RecordKind.bdr),
      (Instr.gprCommit, 0x0301, RecordKind.gpr), (Instr.sprCommit, 0x0601, RecordKind.spr)] ∧ s.Heads op r ∧
      s.stageOther k r.port = true) ∧
    (∃ (c : Instr) (op : Nat) (k : RecordKind) (s : State) (r : Request), (c, op, k) ∈ [(Instr.bdrCommit, 0x0201, RecordKind.bdr),
      (Instr.gprCommit, 0x0301, RecordKind.gpr), (Instr.sprCommit, 0x0601, RecordKind.spr)] ∧ s.Heads op r ∧
      s.stageOther k r.port = false ∧
      ((s.stage k).owner = none ∨ r.word 0 ≠ (s.stage k).bytes.length ∨ (s.stage k).missing ≠ [] ∨ r.word 1 ≠ crc crc32c (s.stage k).bytes)) ∧
    (∃ (s : State) (r : Request) (bs : List Byte) (e : RecErr), s.Heads 0x0201 r ∧ s.stageOther .bdr r.port = false ∧
      s.tpp.bdrStage.owner = some r.port ∧ s.tpp.bdrStage.bytes = bs ∧ s.tpp.bdrStage.missing = [] ∧ r.word 0 = bs.length ∧
      r.word 1 = crc crc32c bs ∧ (s.taken r).bdrRun bs = .refused e) ∧
    (∃ (s : State) (r : Request) (bs : List Byte), s.Heads 0x0201 r ∧ s.stageOther .bdr r.port = false ∧
      s.tpp.bdrStage.owner = some r.port ∧ s.tpp.bdrStage.bytes = bs ∧ s.tpp.bdrStage.missing = [] ∧ r.word 0 = bs.length ∧
      r.word 1 = crc crc32c bs ∧ ∃ w, (s.taken r).bdrRun bs = .waits w) ∧
    (∃ (s : State) (r : Request) (bs : List Byte), s.Heads 0x0201 r ∧ s.stageOther .bdr r.port = false ∧
      s.tpp.bdrStage.owner = some r.port ∧ s.tpp.bdrStage.bytes = bs ∧ s.tpp.bdrStage.missing = [] ∧ r.word 0 = bs.length ∧
      r.word 1 = crc crc32c bs ∧ ∃ e w, (s.taken r).bdrRun bs = .failed e w) ∧
    (∃ (s : State) (r : Request) (bs : List Byte), s.Heads 0x0201 r ∧ s.stageOther .bdr r.port = false ∧
      s.tpp.bdrStage.owner = some r.port ∧ s.tpp.bdrStage.bytes = bs ∧ s.tpp.bdrStage.missing = [] ∧ r.word 0 = bs.length ∧
      r.word 1 = crc crc32c bs ∧ ∃ w, (s.taken r).bdrRun bs = .applied w) ∧
    (∃ bs : List Byte, bs.length < 20) ∧
    (∃ (s : State) (r : Request) (bs : List Byte), s.Heads 0x0301 r ∧ s.stageOther .gpr r.port = false ∧
      s.tpp.gprStage.owner = some r.port ∧ s.tpp.gprStage.bytes = bs ∧ s.tpp.gprStage.missing = [] ∧ r.word 0 = bs.length ∧
      r.word 1 = crc crc32c bs ∧ s.on Reg.GS_STATUS_PROF_PEND = true) ∧
    (∃ (s : State) (r : Request) (bs : List Byte) (e : RecErr), s.Heads 0x0301 r ∧ s.stageOther .gpr r.port = false ∧
      s.tpp.gprStage.owner = some r.port ∧ s.tpp.gprStage.bytes = bs ∧ s.tpp.gprStage.missing = [] ∧ r.word 0 = bs.length ∧
      r.word 1 = crc crc32c bs ∧ s.on Reg.GS_STATUS_PROF_PEND = false ∧ (s.taken r).gprRun bs = .bad e) ∧
    (∃ (s : State) (r : Request) (bs : List Byte), s.Heads 0x0301 r ∧ s.stageOther .gpr r.port = false ∧
      s.tpp.gprStage.owner = some r.port ∧ s.tpp.gprStage.bytes = bs ∧ s.tpp.gprStage.missing = [] ∧ r.word 0 = bs.length ∧
      r.word 1 = crc crc32c bs ∧ s.on Reg.GS_STATUS_PROF_PEND = false ∧ ∃ w, (s.taken r).gprRun bs = .good w) ∧
    (∃ (s : State) (r : Request) (bs : List Byte) (ok : Bool) (w : State), s.Heads 0x0601 r ∧ s.stageOther .spr r.port = false ∧
      s.tpp.sprStage.owner = some r.port ∧ s.tpp.sprStage.bytes = bs ∧ s.tpp.sprStage.missing = [] ∧ r.word 0 = bs.length ∧
      r.word 1 = crc crc32c bs ∧ ((s.taken r).setStage .spr {}).sprLoad (wordsOf bs) = (ok, w) ∧ ok = false) ∧
    (∃ (s : State) (r : Request) (bs : List Byte), s.Heads 0x0601 r ∧ s.stageOther .spr r.port = false ∧
      s.tpp.sprStage.owner = some r.port ∧ s.tpp.sprStage.bytes = bs ∧ s.tpp.sprStage.missing = [] ∧ r.word 0 = bs.length ∧
      r.word 1 = crc crc32c bs ∧ ∃ w, ((s.taken r).setStage .spr {}).sprLoad (wordsOf bs) = (true, w)) ∧
    (∃ (c : Instr) (op : Nat) (bytes : List Byte) (s : State) (r : Request), (c, op, bytes) ∈ [(Instr.bdrRead, 0x0202, s.tpp.bdr),
      (Instr.gprRead, 0x0302, s.tpp.gpr), (Instr.certRead, 0x0704, s.certBytes)] ∧ s.Heads op r ∧
      (4088 < r.word 1 ∨ bytes.length < r.word 0 + r.word 1)) ∧
    (∃ (c : Instr) (op : Nat) (bytes : List Byte) (s : State) (r : Request), (c, op, bytes) ∈ [(Instr.bdrRead, 0x0202, s.tpp.bdr),
      (Instr.gprRead, 0x0302, s.tpp.gpr), (Instr.certRead, 0x0704, s.certBytes)] ∧ s.Heads op r ∧ r.word 1 ≤ 4088 ∧
      r.word 0 + r.word 1 ≤ bytes.length) :=
  ⟨⟨Instr.bdrWrite, 512, RecordKind.bdr, (let s := State.reset; headsOn (mkReq 0x0200 [1, 0, 0, 0, 0, 0, 0, 0]) s),
      mkReq 0x0200 [1, 0, 0, 0, 0, 0, 0, 0], by decide +kernel⟩,
   ⟨Instr.bdrWrite, 512, RecordKind.bdr, (let s := State.reset; let s := headsOn (mkReq 0x0200 [0, 0, 0, 0, 0, 0, 0, 0]) s;
      (s.setStage RecordKind.bdr { (s.stage RecordKind.bdr) with owner := some .service })), mkReq 0x0200 [0, 0, 0, 0, 0, 0, 0, 0],
      by decide +kernel⟩,
   ⟨Instr.bdrWrite, 512, RecordKind.bdr, (let s := State.reset; headsOn (mkReq 0x0200 [0, 0, 0, 0, 0, 0, 0, 0]) s),
      mkReq 0x0200 [0, 0, 0, 0, 0, 0, 0, 0], by decide +kernel⟩,
   ⟨{ owner := none, bytes := [], missing := [] }, [1, 2, 3, 4], by decide +kernel⟩,
   ⟨Instr.bdrCommit, 513, RecordKind.bdr, (let s := State.reset; let s := headsOn (mkReq 0x0201 (List.replicate 12 0)) s;
      (s.setStage RecordKind.bdr { (s.stage RecordKind.bdr) with owner := some .service })), mkReq 0x0201 (List.replicate 12 0),
      by decide +kernel⟩,
   ⟨Instr.bdrCommit, 513, RecordKind.bdr, (let s := State.reset; headsOn (mkReq 0x0201 (List.replicate 12 0)) s),
      mkReq 0x0201 (List.replicate 12 0), by decide +kernel⟩,
   ⟨(let s := State.reset; let s := headsOn (mkReq 0x0201 (List.replicate 12 0)) s;
      let s := { s with tpp := { s.tpp with bdrStage := { s.tpp.bdrStage with owner := some (mkReq 0x0201 (List.replicate 12 0)).port } } };
      headsOn (mkReq 0x0201 (List.replicate 12 0)) s), mkReq 0x0201 (List.replicate 12 0),
      [], { off := 0, idx := 4294967295 }, by decide +kernel⟩,
   ⟨staged .bdr (commit 0x0201 bdr0) bdr0 ((((State.reset.wr Reg.CROSS_CTRL_CP_RUN 1).wr (State.pairStateFld .a) 4).wr Reg.SAFE_STATE_STATE 3)),
      commit 0x0201 bdr0, bdr0, by decide +kernel, by decide +kernel, by decide +kernel, by decide +kernel, by decide +kernel,
      by decide +kernel, by decide +kernel, waits (by decide +kernel)⟩,
   ⟨staged .bdr (commit 0x0201 bdr1) bdr1 (State.reset), commit 0x0201 bdr1, bdr1, by decide +kernel, by decide +kernel,
      by decide +kernel, by decide +kernel, by decide +kernel, by decide +kernel, by decide +kernel, failed (by decide +kernel)⟩,
   ⟨staged .bdr (commit 0x0201 bdr0) bdr0 (State.reset), commit 0x0201 bdr0, bdr0, by decide +kernel, by decide +kernel,
      by decide +kernel, by decide +kernel, by decide +kernel, by decide +kernel, by decide +kernel, applied (by decide +kernel)⟩,
   ⟨[1, 2, 3, 4], by decide +kernel⟩,
   ⟨(let s := State.reset; let s := headsOn (mkReq 0x0301 (List.replicate 12 0)) s;
      let s := { s with tpp := { s.tpp with gprStage := { s.tpp.gprStage with owner := some (mkReq 0x0301 (List.replicate 12 0)).port } } };
      let s := State.wr (s) Reg.GS_STATUS_PROF_PEND (b2n (true)); headsOn (mkReq 0x0301 (List.replicate 12 0)) s),
      mkReq 0x0301 (List.replicate 12 0), [], by decide +kernel⟩,
   ⟨(let s := State.reset; let s := headsOn (mkReq 0x0301 (List.replicate 12 0)) s;
      let s := { s with tpp := { s.tpp with gprStage := { s.tpp.gprStage with owner := some (mkReq 0x0301 (List.replicate 12 0)).port } } };
      headsOn (mkReq 0x0301 (List.replicate 12 0)) s), mkReq 0x0301 (List.replicate 12 0),
      [], { off := 0, idx := 4294967295 }, by decide +kernel⟩,
   ⟨staged .gpr (commit 0x0301 gprRec) gprRec (State.reset), commit 0x0301 gprRec, gprRec, by decide +kernel, by decide +kernel,
      by decide +kernel, by decide +kernel, by decide +kernel, by decide +kernel, by decide +kernel, by decide +kernel,
      good (by decide +kernel)⟩,
   ⟨(let s := State.reset; let s := headsOn (mkReq 0x0601 (List.replicate 12 0)) s;
      let s := { s with tpp := { s.tpp with sprStage := { s.tpp.sprStage with owner := some (mkReq 0x0601 (List.replicate 12 0)).port } } };
      headsOn (mkReq 0x0601 (List.replicate 12 0)) s), mkReq 0x0601 (List.replicate 12 0), [], false, (((((let s := State.reset;
      let s := headsOn (mkReq 0x0601 (List.replicate 12 0)) s;
      let s := { s with tpp := { s.tpp with sprStage := { s.tpp.sprStage with owner := some (mkReq 0x0601 (List.replicate 12 0)).port } } };
      headsOn (mkReq 0x0601 (List.replicate 12 0)) s).taken (mkReq 0x0601 (List.replicate 12 0))).setStage .spr {}).sprLoad (wordsOf [])).2),
      by decide +kernel⟩,
   ⟨staged .spr (commit 0x0601 sprRec) sprRec (State.reset), commit 0x0601 sprRec, sprRec, by decide +kernel, by decide +kernel,
      by decide +kernel, by decide +kernel, by decide +kernel, by decide +kernel, by decide +kernel,
      ⟨_, Prod.ext (by decide +kernel) rfl⟩⟩,
   ⟨.bdrRead, 0x0202, [1, 2, 3, 4], headsOn (mkReq 0x0202 [0, 0, 0, 0, 5, 0, 0, 0]) { State.reset with tpp := { State.reset.tpp with bdr := [1, 2, 3, 4] } }, mkReq 0x0202 [0, 0, 0, 0, 5, 0, 0, 0], List.mem_cons_self,
      by decide +kernel⟩,
   ⟨.bdrRead, 0x0202, [1, 2, 3, 4], headsOn (mkReq 0x0202 [0, 0, 0, 0, 4, 0, 0, 0]) { State.reset with tpp := { State.reset.tpp with bdr := [1, 2, 3, 4] } }, mkReq 0x0202 [0, 0, 0, 0, 4, 0, 0, 0], List.mem_cons_self,
      by decide +kernel⟩⟩

theorem witness_TppOperatesTheModule :
    (∃ (s : State) (r : Request), s.Heads 0x0400 r ∧ s.power = .watch) ∧
    (∃ (s : State) (r : Request), s.Heads 0x0400 r ∧ s.power ≠ .watch ∧ s.tpp.queue = [r] ∧ r.port = .host) ∧
    (∃ (s : State) (r : Request), s.Heads 0x0401 r ∧ s.tpp.queue = [r] ∧ r.port = .host) ∧
    (∃ s : State, (s.oper ≠ .syncing ∨ s.windowInside = false ∨ s.rd Reg.RECONNECT_SEC ≠ 0)) ∧
    (∃ s : State, s.oper = .syncing ∧ s.windowInside = true ∧ s.orbState = State.orbLocked ∧ s.rd Reg.RECONNECT_SEC = 0) ∧
    (∃ s : State, s.regsOk ∧ s.oper = .syncing ∧ s.windowInside = true ∧ s.orbState = State.orbFollow ∧ s.rd Reg.RECONNECT_SEC = 0 ∧
      s.safeState = State.safeOpen ∧ s.sf4Active = false ∧ s.safeFaultPresent = false ∧ s.rd Reg.HSL_WIN_GRID = 0 ∧
      s.rd Reg.HSL_WIN_AW = 0 ∧ s.safety.pre = none ∧ s.on Reg.SAFE_STATE_NO_FB = false) ∧
    (∃ s : State, (s.oper ≠ .syncing ∨ s.tpp.connect.timeoutS = 0)) ∧
    (∃ s : State, s.oper = .syncing ∧ s.tpp.connect.timeoutS ≠ 0 ∧ s.tpp.connectNext.autoReconnect = false) ∧
    (∃ s : State, s.tpp.disc ≠ .gsStop) ∧
    (∃ s : State, s.tpp.disc = .gsStop) ∧
    (∃ s : State, (s.tpp.disc = .none ∨ s.tpp.disc = .gsStop)) ∧
    (∃ (s : State) (n : Nat), s.regsOk ∧ s.tpp.disc = .pwmSafe n) ∧
    (∃ (c : Instr) (op idx : Nat) (s : State) (r : Request), (c, op, idx) ∈ [(Instr.setP, 0x0402, 2), (Instr.curtail, 0x0404, 4)] ∧
      s.Heads op r ∧ F32.inRange (r.word 0) 0 s.sRated = false) ∧
    (∃ (c : Instr) (op idx : Nat) (s : State) (r : Request), (c, op, idx) ∈ [(Instr.setP, 0x0402, 2), (Instr.curtail, 0x0404, 4)] ∧
      s.Heads op r ∧ F32.inRange (r.word 0) 0 s.sRated = true ∧ s.power = .watch) ∧
    (∃ (c : Instr) (op idx : Nat) (s : State) (r : Request), (c, op, idx) ∈ [(Instr.setP, 0x0402, 2), (Instr.curtail, 0x0404, 4)] ∧
      s.Heads op r ∧ F32.inRange (r.word 0) 0 s.sRated = true ∧ s.power ≠ .watch) ∧
    (∃ (s : State) (r : Request), s.Heads 0x0403 r ∧ F32.inRange (r.word 0) (F32.neg s.sRated) s.sRated = false) ∧
    (∃ (s : State) (r : Request), s.Heads 0x0403 r ∧ F32.inRange (r.word 0) (F32.neg s.sRated) s.sRated = true ∧ s.power ≠ .watch) ∧
    (∃ (s : State) (r : Request), s.Heads 0x0407 r ∧ (r.byte 0 < 6 ∨ 47 < r.byte 0)) ∧
    (∃ (s : State) (r : Request), s.Heads 0x0407 r ∧ 6 ≤ r.byte 0 ∧ r.byte 0 ≤ 47 ∧ s.power ≠ .watch) ∧
    (∃ (s : State) (r : Request), s.Heads 0x0405 r ∧ fieldOf (r.word 0) 1 2 = 3) ∧
    (∃ (s : State) (r : Request), s.Heads 0x0405 r ∧ fieldOf (r.word 0) 1 2 ≠ 3 ∧ s.cpRun = true) ∧
    (∃ (s : State) (r : Request), s.Heads 0x0405 r ∧ fieldOf (r.word 0) 1 2 ≠ 3 ∧ s.cpRun = false) ∧
    (∃ (s : State) (r : Request), s.Heads 0x0406 r) :=
  ⟨⟨(let s := State.reset; let s := headsOn (mkReq 0x0400 []) s; { s with power := .watch }), mkReq 0x0400 [], by decide +kernel⟩,
   ⟨(let s := State.reset; headsOn (mkReq 0x0400 []) s), mkReq 0x0400 [], by decide +kernel⟩,
   ⟨(let s := State.reset; headsOn (mkReq 0x0401 []) s), mkReq 0x0401 [], by decide +kernel⟩,
   ⟨State.reset, by decide +kernel⟩,
   ⟨(let s := State.reset; let s := { s with oper := .syncing };
      let s := { s with tpp := { s.tpp with connect := { s.tpp.connect with vmin := 0, vmax := 0x7F7FFFFF, fmin := 0, fmax := 0x7F7FFFFF } } };
      State.wr (s) Reg.ORB_STATUS_STATE (State.orbLocked)), by decide +kernel⟩,
   ⟨(let s := State.reset; let s := { s with oper := .syncing };
      let s := { s with tpp := { s.tpp with connect := { s.tpp.connect with vmin := 0, vmax := 0x7F7FFFFF, fmin := 0, fmax := 0x7F7FFFFF } } };
      let s := State.wr (s) Reg.ORB_STATUS_STATE (State.orbFollow); let s := State.wr (s) Reg.SAFE_STATE_STATE (State.safeOpen);
      State.wr (s) Reg.HSL_WIN_GRID (0)), by decide +kernel⟩,
   ⟨State.reset, by decide +kernel⟩,
   ⟨(let s := State.reset; let s := { s with oper := .syncing };
      { s with tpp := { s.tpp with connect := { s.tpp.connect with timeoutS := (0) + 1 } } }), by decide +kernel⟩,
   ⟨State.reset, by decide +kernel⟩,
   ⟨(let s := State.reset; { s with tpp := { s.tpp with disc := .gsStop } }), by decide +kernel⟩,
   ⟨State.reset, by decide +kernel⟩,
   ⟨(let s := State.reset; { s with tpp := { s.tpp with disc := .pwmSafe 0 } }), 0, by decide +kernel⟩,
   ⟨Instr.setP, 1026, 2, (let s := State.reset; headsOn (mkReq 0x0402 [0, 0, 128, 191]) s), mkReq 0x0402 [0, 0, 128, 191],
      by decide +kernel⟩,
   ⟨Instr.setP, 1026, 2, (let s := State.reset; let s := headsOn (mkReq 0x0402 [0, 0, 0, 0]) s; { s with power := .watch }),
      mkReq 0x0402 [0, 0, 0, 0], by decide +kernel⟩,
   ⟨Instr.setP, 1026, 2, (let s := State.reset; headsOn (mkReq 0x0402 [0, 0, 0, 0]) s), mkReq 0x0402 [0, 0, 0, 0], by decide +kernel⟩,
   ⟨(let s := State.reset; headsOn (mkReq 0x0403 [0, 0, 192, 127]) s), mkReq 0x0403 [0, 0, 192, 127], by decide +kernel⟩,
   ⟨(let s := State.reset; headsOn (mkReq 0x0403 [0, 0, 0, 0]) s), mkReq 0x0403 [0, 0, 0, 0], by decide +kernel⟩,
   ⟨(let s := State.reset; headsOn (mkReq 0x0407 [0, 0, 0, 0, 0, 0, 0, 0]) s), mkReq 0x0407 [0, 0, 0, 0, 0, 0, 0, 0], by decide +kernel⟩,
   ⟨(let s := State.reset; headsOn (mkReq 0x0407 [6, 0, 0, 0, 0, 0, 0, 0]) s), mkReq 0x0407 [6, 0, 0, 0, 0, 0, 0, 0], by decide +kernel⟩,
   ⟨(let s := State.reset; headsOn (mkReq 0x0405 [6, 0, 0, 0]) s), mkReq 0x0405 [6, 0, 0, 0], by decide +kernel⟩,
   ⟨(let s := State.reset; let s := headsOn (mkReq 0x0405 [0, 0, 0, 0]) s; State.wr (s) Reg.CROSS_CTRL_CP_RUN (b2n (true))),
      mkReq 0x0405 [0, 0, 0, 0], by decide +kernel⟩,
   ⟨(let s := State.reset; headsOn (mkReq 0x0405 [0, 0, 0, 0]) s), mkReq 0x0405 [0, 0, 0, 0], by decide +kernel⟩,
   ⟨(let s := State.reset; headsOn (mkReq 0x0406 []) s), mkReq 0x0406 [], by decide +kernel⟩⟩

theorem witness_TppServesSafetyAndMetering :
    (∃ (s : State) (r : Request), s.Heads 0x0602 r ∧ (s.safeState ≠ State.safePending ∨ r.word 0 ≠ s.sprWord 63)) ∧
    (∃ (s : State) (r : Request), s.regsOk ∧ s.Heads 0x0602 r ∧ s.safeState = State.safePending ∧ r.word 0 = s.sprWord 63 ∧
      s.tpp.queue = [r] ∧ r.port = .host) ∧
    (∃ (s w : State) (r : Request), s.Heads 0x0603 r ∧ (s.taken r).safetyReset = (false, w)) ∧
    (∃ (s w : State) (r : Request), s.Heads 0x0603 r ∧ (s.taken r).safetyReset = (true, w)) ∧
    (∃ s : State, (s.resetDemand = true ∨ s.safeFaultPresent = true ∨ s.safety.pre.isSome = true ∨ (s.safeState ≠ State.safeOpen ∧
      s.safeState ≠ State.safeLatched))) ∧
    (∃ (s : State) (r : Request), s.Heads 0x0604 r) ∧
    (∃ (s : State) (r : Request), s.Heads 0x0605 r ∧ 3 < r.byte 0) ∧
    (∃ (s : State) (r : Request), s.Heads 0x0605 r ∧ r.byte 0 ≤ 3) ∧
    (∃ (s : State) (r : Request), s.Heads 0x0606 r ∧ (∀ c, c < 4 → hasBit (s.rd (Reg.PDU_HOSTTX_WORD (16 * c))) 0 = false)) ∧
    (∃ (s : State) (r : Request), s.Heads 0x0500 r ∧ 7 < r.byte 0) ∧
    (∃ (s : State) (r : Request), s.Heads 0x0500 r ∧ r.byte 0 ≤ 7) ∧
    (∃ (s : State) (r : Request), s.Heads 0x0501 r ∧ s.cpRun = true) ∧
    (∃ (s : State) (r : Request), s.Heads 0x0501 r ∧ s.cpRun = false) ∧
    (∃ (s : State) (r : Request), s.Heads 0x0502 r ∧ 7 < r.byte 0) ∧
    (∃ (s : State) (r : Request), s.Heads 0x0502 r ∧ r.byte 0 ≤ 7 ∧ s.on Reg.ME_STATUS_SNAP_READY = false) ∧
    (∃ (s : State) (r : Request), s.Heads 0x0502 r ∧ r.byte 0 ≤ 7 ∧ s.on Reg.ME_STATUS_SNAP_READY = true) ∧
    (∃ (s : State) (r : Request), s.Heads 0x0503 r) ∧
    (∃ (s : State) (r : Request), s.Heads 0x0504 r ∧ 3 < r.byte 0) ∧
    (∃ (s : State) (r : Request), s.Heads 0x0504 r ∧ r.byte 0 ≤ 3) ∧
    (∃ (s : State) (r : Request), s.Heads 0x0505 r ∧
      (r.word 0 < 0x40 ∨ 0x10C < r.word 0 ∨ r.word 0 % 4 ≠ 0 ∨ s.on Reg.ME_CTRL_CAL_LOCK = true)) ∧
    (∃ (s : State) (r : Request), s.Heads 0x0505 r ∧ 0x40 ≤ r.word 0 ∧ r.word 0 ≤ 0x10C ∧ r.word 0 % 4 = 0 ∧
      s.on Reg.ME_CTRL_CAL_LOCK = false ∧ s.cpRun = true) ∧
    (∃ (s : State) (r : Request), s.Heads 0x0505 r ∧ 0x40 ≤ r.word 0 ∧ r.word 0 ≤ 0x10C ∧ r.word 0 % 4 = 0 ∧
      s.on Reg.ME_CTRL_CAL_LOCK = false ∧ s.cpRun = false) ∧
    (∃ (s : State) (r : Request), s.Heads 0x0506 r ∧ s.cpRun = false) ∧
    (∃ (s : State) (r : Request), s.Heads 0x0703 r) :=
  ⟨⟨(let s := State.reset; headsOn (mkReq 0x0602 [0, 0, 0, 0]) s), mkReq 0x0602 [0, 0, 0, 0], by decide +kernel⟩,
   ⟨(let s := State.reset; let s := headsOn (mkReq 0x0602 [0, 0, 0, 0]) s;
      let s := State.wr (s) Reg.SAFE_STATE_STATE (State.safePending); let s := headsOn (mkReq 0x0602 [0, 0, 0, 0]) s;
      { s with tpp := { s.tpp with queue := [(mkReq 0x0602 [0, 0, 0, 0])] } }), mkReq 0x0602 [0, 0, 0, 0], by decide +kernel⟩,
   ⟨(let s := State.reset; let s := s.wr Reg.SAFE_STATE_STATE 0; let s := s.setSafety fun z => { z with pre := none };
      headsOn (mkReq 0x0603 []) s), (((let s := State.reset; let s := s.wr Reg.SAFE_STATE_STATE 0;
      let s := s.setSafety fun z => { z with pre := none }; headsOn (mkReq 0x0603 []) s).taken (mkReq 0x0603 [])).safetyReset.2),
      mkReq 0x0603 [], by decide +kernel⟩,
   ⟨(let s := State.reset; let s := s.wr Reg.SAFE_STATE_STATE 5; let s := s.setSafety fun z => { z with pre := none };
      headsOn (mkReq 0x0603 []) s), (((let s := State.reset; let s := s.wr Reg.SAFE_STATE_STATE 5;
      let s := s.setSafety fun z => { z with pre := none }; headsOn (mkReq 0x0603 []) s).taken (mkReq 0x0603 [])).safetyReset.2),
      mkReq 0x0603 [], by decide +kernel⟩,
   ⟨State.reset, by decide +kernel⟩,
   ⟨(let s := State.reset; headsOn (mkReq 0x0604 []) s), mkReq 0x0604 [], by decide +kernel⟩,
   ⟨(let s := State.reset; headsOn (mkReq 0x0605 ([4] ++ List.replicate 23 0)) s), mkReq 0x0605 ([4] ++ List.replicate 23 0),
      by decide +kernel⟩,
   ⟨(let s := State.reset; headsOn (mkReq 0x0605 (List.replicate 24 0)) s), mkReq 0x0605 (List.replicate 24 0), by decide +kernel⟩,
   ⟨(let s := State.reset; headsOn (mkReq 0x0606 []) s), mkReq 0x0606 [], by decide +kernel⟩,
   ⟨(let s := State.reset; headsOn (mkReq 0x0500 [8, 0, 0, 0]) s), mkReq 0x0500 [8, 0, 0, 0], by decide +kernel⟩,
   ⟨(let s := State.reset; headsOn (mkReq 0x0500 [0, 0, 0, 0]) s), mkReq 0x0500 [0, 0, 0, 0], by decide +kernel⟩,
   ⟨(let s := State.reset; let s := headsOn (mkReq 0x0501 []) s; State.wr (s) Reg.CROSS_CTRL_CP_RUN (b2n (true))), mkReq 0x0501 [],
      by decide +kernel⟩,
   ⟨(let s := State.reset; headsOn (mkReq 0x0501 []) s), mkReq 0x0501 [], by decide +kernel⟩,
   ⟨(let s := State.reset; headsOn (mkReq 0x0502 [8, 0, 0, 0]) s), mkReq 0x0502 [8, 0, 0, 0], by decide +kernel⟩,
   ⟨(let s := State.reset; headsOn (mkReq 0x0502 [0, 0, 0, 0]) s), mkReq 0x0502 [0, 0, 0, 0], by decide +kernel⟩,
   ⟨(let s := State.reset; let s := headsOn (mkReq 0x0502 [0, 0, 0, 0]) s; State.wr (s) Reg.ME_STATUS_SNAP_READY (b2n (true))),
      mkReq 0x0502 [0, 0, 0, 0], by decide +kernel⟩,
   ⟨(let s := State.reset; headsOn (mkReq 0x0503 []) s), mkReq 0x0503 [], by decide +kernel⟩,
   ⟨(let s := State.reset; headsOn (mkReq 0x0504 [4, 0, 0, 0]) s), mkReq 0x0504 [4, 0, 0, 0], by decide +kernel⟩,
   ⟨(let s := State.reset; headsOn (mkReq 0x0504 [0, 0, 0, 0]) s), mkReq 0x0504 [0, 0, 0, 0], by decide +kernel⟩,
   ⟨(let s := State.reset; headsOn (mkReq 0x0505 [0, 0, 0, 0, 0, 0, 0, 0]) s), mkReq 0x0505 [0, 0, 0, 0, 0, 0, 0, 0], by decide +kernel⟩,
   ⟨(let s := State.reset; let s := headsOn (mkReq 0x0505 [64, 0, 0, 0, 0, 0, 0, 0]) s; State.wr (s) Reg.CROSS_CTRL_CP_RUN (b2n (true))),
      mkReq 0x0505 [64, 0, 0, 0, 0, 0, 0, 0], by decide +kernel⟩,
   ⟨(let s := State.reset; headsOn (mkReq 0x0505 [64, 0, 0, 0, 0, 0, 0, 0]) s), mkReq 0x0505 [64, 0, 0, 0, 0, 0, 0, 0],
      by decide +kernel⟩,
   ⟨(let s := State.reset; headsOn (mkReq 0x0506 []) s), mkReq 0x0506 [], by decide +kernel⟩,
   ⟨(let s := State.reset; headsOn (mkReq 0x0703 (List.replicate 32 0)) s), mkReq 0x0703 (List.replicate 32 0), by decide +kernel⟩⟩

theorem witness_TppReadsAndSets :
    (∃ (s : State) (r : Request), s.Heads 0x0803 r ∧ (r.word 0 % 4 ≠ 0 ∨ r.word 1 < 1 ∨ 1023 < r.word 1 ∨ ∃ i, i < r.word 1 ∧
      (State.windowOf (r.word 0 + 4 * i) = .outside ∨ State.readActs (r.word 0 + 4 * i) = true))) ∧
    (∃ (s : State) (r : Request), s.Heads 0x0803 r ∧ r.word 0 % 4 = 0 ∧ 1 ≤ r.word 1 ∧ r.word 1 ≤ 1023 ∧
      (∀ i, i < r.word 1 → State.windowOf (r.word 0 + 4 * i) ≠ .outside ∧ State.readActs (r.word 0 + 4 * i) = false ∧
      State.windowOf (r.word 0 + 4 * i) ≠ .umbra)) ∧
    (∃ (s : State) (r : Request), s.Heads 0x0804 r ∧ entryOk s false (r.word 0, r.word 1, r.word 2) = false) ∧
    (∃ (s : State) (r : Request), s.Heads 0x0804 r ∧ entryOk s false (r.word 0, r.word 1, r.word 2) = true ∧ s.cpRun = true) ∧
    (∃ (s : State) (r : Request), s.Heads 0x0804 r ∧ entryOk s false (r.word 0, r.word 1, r.word 2) = true ∧ s.cpRun = false) ∧
    (∃ (s : State) (r : Request), s.Heads 0x0900 r ∧ 3 < r.byte 0) ∧
    (∃ (s : State) (r : Request), s.Heads 0x0900 r ∧ r.byte 0 ≤ 3) ∧
    (∃ (s : State) (r : Request), s.Heads 0x0901 r ∧
      (3 < r.word 0 ∨ 5 < r.word 1 ∨ 3 < r.word 2 ∨ 1 < r.word 3 ∨ r.word 4 < 1 ∨ 10000 < r.word 4 ∨ (r.word 1 = 5 ∧ r.ver < 0x23))) ∧
    (∃ (s : State) (r : Request), s.Heads 0x0901 r ∧ r.word 0 ≤ 3 ∧ r.word 1 ≤ 4 ∧ r.word 2 ≤ 3 ∧ r.word 3 ≤ 1 ∧ 1 ≤ r.word 4 ∧
      r.word 4 ≤ 10000) ∧
    (∃ s : State, s.tpp.linkTest = none) ∧
    (∃ (s : State) (w : LinkTestWait), s.tpp.linkTest = some w) ∧
    (∃ (s : State) (r : Request), s.Heads 0x0902 r ∧ 15 < r.word 0) ∧
    (∃ (s : State) (r : Request), s.Heads 0x0902 r ∧ r.word 0 ≤ 15 ∧ s.cpRun = true) ∧
    (∃ (s : State) (r : Request), s.Heads 0x0902 r ∧ r.word 0 ≤ 15 ∧ s.cpRun = false) ∧
    (∃ (s : State) (r : Request), s.Heads 0x0903 r ∧ (7 < r.byte 0 ∨ r.byte 0 = s.rd Reg.COMET_MODULE_NUM)) ∧
    (∃ (s : State) (r : Request), s.Heads 0x0903 r ∧ r.byte 0 ≤ 7 ∧ r.byte 0 ≠ s.rd Reg.COMET_MODULE_NUM) ∧
    (∃ (s : State) (r : Request), s.Heads 0x0A00 r ∧ (leNat (slice r.payload 2 2) < 1 ∨ 255 < leNat (slice r.payload 2 2))) ∧
    (∃ (s : State) (r : Request), s.Heads 0x0A00 r ∧ 1 ≤ leNat (slice r.payload 2 2) ∧ leNat (slice r.payload 2 2) ≤ 255) ∧
    (∃ (s : State) (r : Request), s.Heads 0x0A01 r) ∧
    (∃ (s : State) (r : Request), s.Heads 0x0A02 r) ∧
    (∃ (s : State) (r : Request), s.Heads 0x0A03 r) ∧
    (∃ (s : State) (r : Request), s.Heads 0x0A04 r) ∧
    (∃ (s : State) (r : Request), s.Heads 0x0C01 r) :=
  ⟨⟨(let s := State.reset; headsOn (mkReq 0x0803 [0, 0, 0, 0, 0, 0, 0, 0]) s), mkReq 0x0803 [0, 0, 0, 0, 0, 0, 0, 0], by decide +kernel⟩,
   ⟨(let s := State.reset; headsOn (mkReq 0x0803 [0, 0, 0, 64, 1, 0, 0, 0]) s), mkReq 0x0803 [0, 0, 0, 64, 1, 0, 0, 0],
      by decide +kernel⟩,
   ⟨(let s := State.reset; headsOn (mkReq 0x0804 (List.replicate 12 0)) s), mkReq 0x0804 (List.replicate 12 0), by decide +kernel⟩,
   ⟨(let s := State.reset;
      let s := headsOn (mkReq 0x0804 (List.replicate 2 0 ++ [1] ++ [64] ++ [3] ++ List.replicate 3 0 ++ [1] ++ List.replicate 3 0)) s;
      State.wr (s) Reg.CROSS_CTRL_CP_RUN (b2n (true))),
      mkReq 0x0804 (List.replicate 2 0 ++ [1] ++ [64] ++ [3] ++ List.replicate 3 0 ++ [1] ++ List.replicate 3 0), by decide +kernel⟩,
   ⟨(let s := State.reset;
      headsOn (mkReq 0x0804 (List.replicate 2 0 ++ [1] ++ [64] ++ [3] ++ List.replicate 3 0 ++ [1] ++ List.replicate 3 0)) s),
      mkReq 0x0804 (List.replicate 2 0 ++ [1] ++ [64] ++ [3] ++ List.replicate 3 0 ++ [1] ++ List.replicate 3 0), by decide +kernel⟩,
   ⟨(let s := State.reset; headsOn (mkReq 0x0900 [4, 0, 0, 0]) s), mkReq 0x0900 [4, 0, 0, 0], by decide +kernel⟩,
   ⟨(let s := State.reset; headsOn (mkReq 0x0900 [0, 0, 0, 0]) s), mkReq 0x0900 [0, 0, 0, 0], by decide +kernel⟩,
   ⟨(let s := State.reset; headsOn (mkReq 0x0901 ([4] ++ List.replicate 19 0)) s), mkReq 0x0901 ([4] ++ List.replicate 19 0),
      by decide +kernel⟩,
   ⟨(let s := State.reset; headsOn (mkReq 0x0901 (List.replicate 16 0 ++ [1] ++ List.replicate 3 0)) s),
      mkReq 0x0901 (List.replicate 16 0 ++ [1] ++ List.replicate 3 0), by decide +kernel⟩,
   ⟨State.reset, by decide +kernel⟩,
   ⟨(let s := State.reset;
      { s with tpp := { s.tpp with linkTest := some ({ req := { port := Port.host, raw := [165, 35, 1, 9, 7, 0, 20, 0, 0, 0, 0, 0, 0, 0, 0, 0, 0, 0, 0, 0, 0, 0, 0, 0, 0, 0, 0, 0, 118, 224, 255, 14], busy := false }, lane := 1 } : LinkTestWait) } }),
      { req := { port := Port.host, raw := [165, 35, 1, 9, 7, 0, 20, 0, 0, 0, 0, 0, 0, 0, 0, 0, 0, 0, 0, 0, 0, 0, 0, 0, 0, 0, 0, 0, 118, 224, 255, 14], busy := false }, lane := 1 }, by decide +kernel⟩,
   ⟨(let s := State.reset; headsOn (mkReq 0x0902 [16, 0, 0, 0]) s), mkReq 0x0902 [16, 0, 0, 0], by decide +kernel⟩,
   ⟨(let s := State.reset; let s := headsOn (mkReq 0x0902 [0, 0, 0, 0]) s; State.wr (s) Reg.CROSS_CTRL_CP_RUN (b2n (true))),
      mkReq 0x0902 [0, 0, 0, 0], by decide +kernel⟩,
   ⟨(let s := State.reset; headsOn (mkReq 0x0902 [0, 0, 0, 0]) s), mkReq 0x0902 [0, 0, 0, 0], by decide +kernel⟩,
   ⟨(let s := State.reset; headsOn (mkReq 0x0903 ([8] ++ List.replicate 15 0)) s), mkReq 0x0903 ([8] ++ List.replicate 15 0),
      by decide +kernel⟩,
   ⟨(let s := State.reset; headsOn (mkReq 0x0903 ([1] ++ List.replicate 15 0)) s), mkReq 0x0903 ([1] ++ List.replicate 15 0),
      by decide +kernel⟩,
   ⟨(let s := State.reset; headsOn (mkReq 0x0A00 [0, 0, 0, 0]) s), mkReq 0x0A00 [0, 0, 0, 0], by decide +kernel⟩,
   ⟨(let s := State.reset; headsOn (mkReq 0x0A00 [3, 0, 255, 0]) s), mkReq 0x0A00 [3, 0, 255, 0], by decide +kernel⟩,
   ⟨(let s := State.reset; headsOn (mkReq 0x0A01 []) s), mkReq 0x0A01 [], by decide +kernel⟩,
   ⟨(let s := State.reset; headsOn (mkReq 0x0A02 [0, 0, 0, 0]) s), mkReq 0x0A02 [0, 0, 0, 0], by decide +kernel⟩,
   ⟨(let s := State.reset; headsOn (mkReq 0x0A03 []) s), mkReq 0x0A03 [], by decide +kernel⟩,
   ⟨(let s := State.reset; headsOn (mkReq 0x0A04 (List.replicate 24 0)) s), mkReq 0x0A04 (List.replicate 24 0), by decide +kernel⟩,
   ⟨(let s := State.reset; headsOn (mkReq 0x0C01 []) s), mkReq 0x0C01 [], by decide +kernel⟩⟩

theorem witness_TppMaintainsTheModule :
    (∃ (s : State) (r : Request), s.Heads 0x0700 r ∧
      (3 < r.byte 0 ∨ 1 < r.byte 1 ∨ State.slotSize (r.byte 0) < r.word 1 + (r.payload.drop 8).length ∨ s.runningSlot? (r.byte 0) = some (r.byte 1))) ∧
    (∃ (s : State) (r : Request), s.Heads 0x0700 r ∧ r.byte 0 ≤ 3 ∧ r.byte 1 ≤ 1 ∧
      r.word 1 + (r.payload.drop 8).length ≤ State.slotSize (r.byte 0) ∧ s.runningSlot? (r.byte 0) ≠ some (r.byte 1)) ∧
    (∃ (s : State) (r : Request), s.Heads 0x0701 r ∧ (3 < r.byte 0 ∨ 1 < r.byte 1 ∨ State.slotSize (r.byte 0) < r.word 1)) ∧
    (∃ (s : State) (r : Request), s.Heads 0x0701 r ∧ r.byte 0 ≤ 3 ∧ r.byte 1 ≤ 1 ∧ r.word 1 ≤ State.slotSize (r.byte 0)) ∧
    (∃ (s : State) (r : Request), s.Heads 0x0702 r ∧ (3 < r.byte 0 ∨ 1 < r.byte 1 ∨ 2 * r.byte 0 + r.byte 1 ∉ s.nv.committed)) ∧
    (∃ (s : State) (r : Request), s.Shaped ∧ s.Heads 0x0702 r ∧ r.byte 0 ≤ 3 ∧ r.byte 1 ≤ 1 ∧ 2 * r.byte 0 + r.byte 1 ∈ s.nv.committed) ∧
    (∃ (s : State) (r : Request), s.Heads 0x0705 r ∧ (s.taken r).tokenFragment r.port r.payload = .busy) ∧
    (∃ (s : State) (r : Request), s.Heads 0x0705 r ∧ (s.taken r).tokenFragment r.port r.payload = .bad) ∧
    (∃ (s : State) (r : Request) (w : State), s.Heads 0x0705 r ∧ (s.taken r).tokenFragment r.port r.payload = .more w) ∧
    (∃ (s : State) (r : Request), s.Heads 0x0706 r ∧ (s.taken r).tokenFragment r.port r.payload = .busy) ∧
    (∃ (s : State) (r : Request), s.Heads 0x0706 r ∧ (s.taken r).tokenFragment r.port r.payload = .bad) ∧
    (∃ (s : State) (r : Request) (w : State), s.Heads 0x0706 r ∧ (s.taken r).tokenFragment r.port r.payload = .more w) ∧
    (∃ (s : State) (r : Request) (w : State) (t : List Byte), s.Heads 0x0706 r ∧
      (s.taken r).tokenFragment r.port r.payload = .token w t) ∧
    (∃ (s : State) (r : Request), s.Heads 0x0800 r ∧ 15 < r.word 0) ∧
    (∃ (s : State) (r : Request), s.Heads 0x0800 r ∧ r.word 0 = 0) ∧
    (∃ (s : State) (r : Request), s.Heads 0x0800 r ∧ r.word 0 = 4 ∧ s.on Reg.PWM_SAFE_STATUS_LATCHED = false) ∧
    (∃ (s : State) (r : Request), s.Heads 0x0800 r ∧ r.word 0 = 2 ∧ (∀ n, n < 6 → s.legState n = State.legUnused)) ∧
    (∃ (s : State) (r : Request), s.Heads 0x0801 r ∧ 63 < r.byte 0) ∧
    (∃ (s : State) (r : Request) (n : Nat), s.Heads 0x0801 r ∧ n < 6 ∧ r.byte 0 = 2 ^ n ∧ s.cpRun = false) ∧
    (∃ (s : State) (r : Request), s.Heads 0x0802 r ∧ s.faultCauses ≠ 0) ∧
    (∃ (s : State) (r : Request), s.Heads 0x0802 r ∧ s.faultCauses = 0) ∧
    (∃ (s : State) (r : Request), s.Heads 0x0B00 r ∧ (1 < r.byte 0 ∨ 3 < r.byte 1 ∨ 3 < r.byte 2 ∨ 65535 < r.word 5)) ∧
    (∃ (s : State) (r : Request), s.Heads 0x0B00 r ∧ r.byte 0 ≤ 1 ∧ r.byte 1 ≤ 3 ∧ r.byte 2 < 3 ∧ r.word 5 ≤ 65535 ∧ s.cpRun = true) ∧
    (∃ (s : State) (r : Request), s.Heads 0x0B01 r ∧ (1 < r.byte 0 ∨ 15 < r.byte 1)) ∧
    (∃ (s : State) (r : Request), s.Heads 0x0B01 r ∧ r.byte 0 ≤ 1 ∧ r.byte 1 ≤ 15 ∧ s.cpRun = false) ∧
    (∃ (s : State) (r : Request), s.Heads 0x0B02 r ∧ (4088 < r.word 1 ∨ 0x40000 < r.word 0 + r.word 1)) ∧
    (∃ (s : State) (r : Request), s.Heads 0x0B02 r ∧ r.word 1 ≤ 4088 ∧ r.word 0 + r.word 1 ≤ 0x40000) ∧
    (∃ (s : State) (r : Request), s.Heads 0x0B03 r ∧ 1 < r.word 0) ∧
    (∃ (s : State) (r : Request), s.Heads 0x0B03 r ∧ r.word 0 ≤ 1 ∧ s.cpRun = true) ∧
    (∃ (s : State) (r : Request), s.Heads 0x0C00 r ∧ 3 ≤ r.word 0) ∧
    (∃ (s : State) (r : Request), s.Heads 0x0C00 r ∧ r.word 0 = 1 ∧ s.clk.target ≠ none) ∧
    (∃ (s : State) (r : Request), s.Heads 0x0C00 r ∧ r.word 0 = 1 ∧ s.clk.target = none ∧ s.power = .watch) ∧
    (∃ (s : State) (r : Request), s.Heads 0x0C00 r ∧ r.word 0 = 1 ∧ s.clk.target = none ∧ s.power = .run ∧
      s.safeState = State.safeClosed) ∧
    (∃ (s : State) (r : Request), s.Heads 0x0C00 r ∧ r.word 0 = 1 ∧ s.clk.target = none ∧ s.power = .run ∧
      s.safeState ≠ State.safeClosing ∧ s.safeState ≠ State.safeClosed) ∧
    (∃ (s : State) (r : Request), s.Heads 0x0C02 r ∧ (r.word 0 < 1 ∨ 7 < r.word 0)) ∧
    (∃ (s : State) (r : Request), s.Heads 0x0C02 r ∧ (r.word 0 = 1 ∨ r.word 0 = 2 ∨ r.word 0 = 3)) ∧
    (∃ (s : State) (r : Request), s.Heads 0x0C02 r ∧ r.word 0 = 4 ∧ r.port = .host) :=
  ⟨⟨(let s := State.reset; headsOn (mkReq 0x0700 ([4] ++ List.replicate 11 0)) s), mkReq 0x0700 ([4] ++ List.replicate 11 0),
      by decide +kernel⟩,
   ⟨(let s := State.reset; headsOn (mkReq 0x0700 (List.replicate 12 0)) s), mkReq 0x0700 (List.replicate 12 0), by decide +kernel⟩,
   ⟨(let s := State.reset; headsOn (mkReq 0x0701 [4, 0, 0, 0, 0, 0, 0, 0]) s), mkReq 0x0701 [4, 0, 0, 0, 0, 0, 0, 0], by decide +kernel⟩,
   ⟨(let s := State.reset; headsOn (mkReq 0x0701 [0, 0, 0, 0, 0, 0, 0, 0]) s), mkReq 0x0701 [0, 0, 0, 0, 0, 0, 0, 0], by decide +kernel⟩,
   ⟨(let s := State.reset; headsOn (mkReq 0x0702 [4, 0, 0, 0]) s), mkReq 0x0702 [4, 0, 0, 0], by decide +kernel⟩,
   ⟨(let s := State.reset; let s := { s with nv := { s.nv with committed := [7] } }; headsOn (mkReq 0x0702 [3, 1, 0, 0]) s),
      mkReq 0x0702 [3, 1, 0, 0], shaped (by decide +kernel), by decide +kernel⟩,
   ⟨(let s := State.reset; let s := { s with oper := .described };
      let s := { s with sec := { s.sec with token := some ⟨.service, 100, []⟩ } };
      headsOn (mkReq 0x0705 (List.replicate 2 0 ++ [100] ++ List.replicate 61 0)) s),
      mkReq 0x0705 (List.replicate 2 0 ++ [100] ++ List.replicate 61 0), by decide +kernel⟩,
   ⟨(let s := State.reset; let s := { s with oper := .described };
      headsOn (mkReq 0x0705 (List.replicate 2 0 ++ [10] ++ List.replicate 61 0)) s),
      mkReq 0x0705 (List.replicate 2 0 ++ [10] ++ List.replicate 61 0), by decide +kernel⟩,
   ⟨(let s := State.reset; let s := { s with oper := .described };
      headsOn (mkReq 0x0705 (List.replicate 2 0 ++ [100] ++ List.replicate 61 0)) s),
      mkReq 0x0705 (List.replicate 2 0 ++ [100] ++ List.replicate 61 0), (let w := State.reset; match ((let s := State.reset;
      let s := { s with oper := .described };
      headsOn (mkReq 0x0705 (List.replicate 2 0 ++ [100] ++ List.replicate 61 0)) s).taken (mkReq 0x0705 (List.replicate 2 0 ++ [100] ++ List.replicate 61 0))).tokenFragment (mkReq 0x0705 (List.replicate 2 0 ++ [100] ++ List.replicate 61 0)).port (mkReq 0x0705 (List.replicate 2 0 ++ [100] ++ List.replicate 61 0)).payload with | .more w => w | _ => ((let s := State.reset;
      let s := { s with oper := .described };
      headsOn (mkReq 0x0705 (List.replicate 2 0 ++ [100] ++ List.replicate 61 0)) s).taken (mkReq 0x0705 (List.replicate 2 0 ++ [100] ++ List.replicate 61 0)))),
      by decide +kernel⟩,
   ⟨(let s := State.reset; let s := { s with oper := .described };
      let s := { s with sec := { s.sec with token := some ⟨.service, 100, []⟩ } };
      headsOn (mkReq 0x0706 (List.replicate 2 0 ++ [100] ++ List.replicate 61 0)) s),
      mkReq 0x0706 (List.replicate 2 0 ++ [100] ++ List.replicate 61 0), by decide +kernel⟩,
   ⟨(let s := State.reset; let s := { s with oper := .described };
      headsOn (mkReq 0x0706 (List.replicate 2 0 ++ [10] ++ List.replicate 61 0)) s),
      mkReq 0x0706 (List.replicate 2 0 ++ [10] ++ List.replicate 61 0), by decide +kernel⟩,
   ⟨(let s := State.reset; let s := { s with oper := .described };
      headsOn (mkReq 0x0706 (List.replicate 2 0 ++ [100] ++ List.replicate 61 0)) s),
      mkReq 0x0706 (List.replicate 2 0 ++ [100] ++ List.replicate 61 0), (let w := State.reset; match ((let s := State.reset;
      let s := { s with oper := .described };
      headsOn (mkReq 0x0706 (List.replicate 2 0 ++ [100] ++ List.replicate 61 0)) s).taken (mkReq 0x0706 (List.replicate 2 0 ++ [100] ++ List.replicate 61 0))).tokenFragment (mkReq 0x0706 (List.replicate 2 0 ++ [100] ++ List.replicate 61 0)).port (mkReq 0x0706 (List.replicate 2 0 ++ [100] ++ List.replicate 61 0)).payload with | .more w => w | _ => ((let s := State.reset;
      let s := { s with oper := .described };
      headsOn (mkReq 0x0706 (List.replicate 2 0 ++ [100] ++ List.replicate 61 0)) s).taken (mkReq 0x0706 (List.replicate 2 0 ++ [100] ++ List.replicate 61 0)))),
      by decide +kernel⟩,
   ⟨(let s := State.reset; let s := { s with oper := .described };
      headsOn (mkReq 0x0706 (List.replicate 2 0 ++ [60] ++ [0] ++ [1] ++ List.replicate 2 0 ++ [1] ++ List.replicate 56 0)) s),
      mkReq 0x0706 (List.replicate 2 0 ++ [60] ++ [0] ++ [1] ++ List.replicate 2 0 ++ [1] ++ List.replicate 56 0), (let w := State.reset;
      match ((let s := State.reset; let s := { s with oper := .described };
      headsOn (mkReq 0x0706 (List.replicate 2 0 ++ [60] ++ [0] ++ [1] ++ List.replicate 2 0 ++ [1] ++ List.replicate 56 0)) s).taken (mkReq 0x0706 (List.replicate 2 0 ++ [60] ++ [0] ++ [1] ++ List.replicate 2 0 ++ [1] ++ List.replicate 56 0))).tokenFragment (mkReq 0x0706 (List.replicate 2 0 ++ [60] ++ [0] ++ [1] ++ List.replicate 2 0 ++ [1] ++ List.replicate 56 0)).port (mkReq 0x0706 (List.replicate 2 0 ++ [60] ++ [0] ++ [1] ++ List.replicate 2 0 ++ [1] ++ List.replicate 56 0)).payload with | .token w _ => w | _ => ((let s := State.reset;
      let s := { s with oper := .described };
      headsOn (mkReq 0x0706 (List.replicate 2 0 ++ [60] ++ [0] ++ [1] ++ List.replicate 2 0 ++ [1] ++ List.replicate 56 0)) s).taken (mkReq 0x0706 (List.replicate 2 0 ++ [60] ++ [0] ++ [1] ++ List.replicate 2 0 ++ [1] ++ List.replicate 56 0)))),
      ([1] ++ List.replicate 2 0 ++ [1] ++ List.replicate 56 0), by decide +kernel⟩,
   ⟨(let s := State.reset; headsOn (mkReq 0x0800 [16, 0, 0, 0]) s), mkReq 0x0800 [16, 0, 0, 0], by decide +kernel⟩,
   ⟨(let s := State.reset; headsOn (mkReq 0x0800 [0, 0, 0, 0]) s), mkReq 0x0800 [0, 0, 0, 0], by decide +kernel⟩,
   ⟨(let s := State.reset; let s := headsOn (mkReq 0x0800 [4, 0, 0, 0]) s; State.wr (s) Reg.PWM_SAFE_STATUS_LATCHED (b2n (false))),
      mkReq 0x0800 [4, 0, 0, 0], by decide +kernel⟩,
   ⟨(let s := State.reset; headsOn (mkReq 0x0800 [2, 0, 0, 0]) s), mkReq 0x0800 [2, 0, 0, 0], by decide +kernel⟩,
   ⟨(let s := State.reset; headsOn (mkReq 0x0801 [64, 0, 0, 0]) s), mkReq 0x0801 [64, 0, 0, 0], by decide +kernel⟩,
   ⟨(let s := State.reset; headsOn (mkReq 0x0801 [32, 0, 0, 0]) s), mkReq 0x0801 [32, 0, 0, 0], 5, by decide +kernel⟩,
   ⟨(let s := State.reset; headsOn (mkReq 0x0802 []) s), mkReq 0x0802 [], by decide +kernel⟩,
   ⟨(let s := State.reset; let s := headsOn (mkReq 0x0802 []) s; let s := s.wr Reg.SAFE_STATE_STATE 2;
      let s := s.wr Reg.CROSS_CTRL_CP_RUN 1; let s := s.wr Reg.PWM_SAFE_STATUS_ACTIVE 0;
      ((s.wr Reg.SUP_STATUS_VDD_WARN 0).wr Reg.SUP_STATUS_VDDA_WARN 0).wr Reg.CLK_STATUS_LOCK 15), mkReq 0x0802 [], by decide +kernel⟩,
   ⟨(let s := State.reset; headsOn (mkReq 0x0B00 ([2] ++ List.replicate 23 0)) s), mkReq 0x0B00 ([2] ++ List.replicate 23 0),
      by decide +kernel⟩,
   ⟨(let s := State.reset; let s := headsOn (mkReq 0x0B00 (List.replicate 24 0)) s; State.wr (s) Reg.CROSS_CTRL_CP_RUN (b2n (true))),
      mkReq 0x0B00 (List.replicate 24 0), by decide +kernel⟩,
   ⟨(let s := State.reset; headsOn (mkReq 0x0B01 ([2] ++ List.replicate 19 0)) s), mkReq 0x0B01 ([2] ++ List.replicate 19 0),
      by decide +kernel⟩,
   ⟨(let s := State.reset; headsOn (mkReq 0x0B01 (List.replicate 20 0)) s), mkReq 0x0B01 (List.replicate 20 0), by decide +kernel⟩,
   ⟨(let s := State.reset; headsOn (mkReq 0x0B02 [0, 0, 0, 0, 249, 15, 0, 0]) s), mkReq 0x0B02 [0, 0, 0, 0, 249, 15, 0, 0],
      by decide +kernel⟩,
   ⟨(let s := State.reset; headsOn (mkReq 0x0B02 [0, 0, 0, 0, 0, 0, 0, 0]) s), mkReq 0x0B02 [0, 0, 0, 0, 0, 0, 0, 0], by decide +kernel⟩,
   ⟨(let s := State.reset; headsOn (mkReq 0x0B03 ([2] ++ List.replicate 11 0)) s), mkReq 0x0B03 ([2] ++ List.replicate 11 0),
      by decide +kernel⟩,
   ⟨(let s := State.reset; let s := headsOn (mkReq 0x0B03 (List.replicate 12 0)) s; State.wr (s) Reg.CROSS_CTRL_CP_RUN (b2n (true))),
      mkReq 0x0B03 (List.replicate 12 0), by decide +kernel⟩,
   ⟨(let s := State.reset; headsOn (mkReq 0x0C00 [3, 0, 0, 0]) s), mkReq 0x0C00 [3, 0, 0, 0], by decide +kernel⟩,
   ⟨(let s := State.reset; let s := headsOn (mkReq 0x0C00 [1, 0, 0, 0]) s; { s with clk := { s.clk with target := some .watch } }),
      mkReq 0x0C00 [1, 0, 0, 0], by decide +kernel⟩,
   ⟨(let s := State.reset; let s := headsOn (mkReq 0x0C00 [1, 0, 0, 0]) s; { s with power := .watch }), mkReq 0x0C00 [1, 0, 0, 0],
      by decide +kernel⟩,
   ⟨(let s := State.reset; let s := headsOn (mkReq 0x0C00 [1, 0, 0, 0]) s; State.wr (s) Reg.SAFE_STATE_STATE (State.safeClosed)),
      mkReq 0x0C00 [1, 0, 0, 0], by decide +kernel⟩,
   ⟨(let s := State.reset; headsOn (mkReq 0x0C00 [1, 0, 0, 0]) s), mkReq 0x0C00 [1, 0, 0, 0], by decide +kernel⟩,
   ⟨(let s := State.reset; headsOn (mkReq 0x0C02 [0, 0, 0, 0]) s), mkReq 0x0C02 [0, 0, 0, 0], by decide +kernel⟩,
   ⟨(let s := State.reset; headsOn (mkReq 0x0C02 [1, 0, 0, 0]) s), mkReq 0x0C02 [1, 0, 0, 0], by decide +kernel⟩,
   ⟨(let s := State.reset; headsOn (mkReq 0x0C02 [4, 0, 0, 0]) s), mkReq 0x0C02 [4, 0, 0, 0], by decide +kernel⟩⟩

theorem witness_CvuAccumulatesAndFrames :
    (∃ (s : State) (m : Master) (u : Nat), s.regsOk ∧ u < 6 ∧ s.right m (0x400A0000 + 0x40 * u + 0x38) .mr = .allow ∧
      s.on (Reg.CVU_CTRL_EN u) = true ∧ s.on (Reg.CVU_CTRL_PAUSE u) = false ∧ s.on (Reg.CVU_CTRL_MODE u) = false) ∧
    (∃ (s : State) (u : Nat), s.regsOk ∧ u < 6 ∧ s.on (Reg.CVU_CTRL_EN u) = true ∧ s.on (Reg.CVU_CTRL_PAUSE u) = false ∧
      s.on (Reg.CVU_CTRL_MODE u) = true ∧ s.on (Reg.CVU_STATUS_IN_MSG u) = false) ∧
    (∃ (s : State) (u : Nat), s.regsOk ∧ u < 6 ∧ s.on (Reg.CVU_CTRL_EN u) = true ∧ s.on (Reg.CVU_CTRL_PAUSE u) = false ∧
      s.on (Reg.CVU_CTRL_MODE u) = true ∧ s.on (Reg.CVU_STATUS_IN_MSG u) = true) :=
  ⟨⟨(let s := State.reset; State.wr (s) (Reg.CVU_CTRL_EN 5) (b2n (true))), Master.mc, 5, by decide +kernel⟩,
   ⟨(let s := State.reset; let s := State.wr (s) (Reg.CVU_CTRL_EN 5) (b2n (true)); State.wr (s) (Reg.CVU_CTRL_MODE 5) (b2n (true))), 5,
      by decide +kernel⟩,
   ⟨(let s := State.reset; let s := State.wr (s) (Reg.CVU_CTRL_EN 5) (b2n (true));
      let s := State.wr (s) (Reg.CVU_CTRL_MODE 5) (b2n (true)); State.wr (s) (Reg.CVU_STATUS_IN_MSG 5) (b2n (true))), 5,
      by decide +kernel⟩⟩

theorem witness_RollbackCounterFollowsActiveImages :
    (∃ (s : State) (t k : Nat) (img : LoadedImage), s.Shaped ∧ t < 4 ∧ nth s.nv.trial t none = some k ∧
      nth s.sec.loaded t none = some img ∧ nth s.nv.trialRuns t false = true ∧ s.nv.otp.rb.length = 4 ∧ s.nv.otp.rbDue.length = 4 ∧
      s.nv.active.length = 4 ∧ img.rollback ≤ 128) ∧
    (∃ (s : State) (t : Nat), t < 4 ∧ s.sec.romDue = true ∧ s.nv.otp.rb.length = 4 ∧ nth s.nv.otp.rbDue t 0 ≤ 128) :=
  ⟨⟨(let s := State.reset; let s := { s with nv := { s.nv with trial := setNth s.nv.trial 3 (some 0) } };
      let s := { s with sec := { s.sec with loaded := setNth s.sec.loaded 3 (some ({ version := 0, rollback := 0, measurement := 0, payload := [] } : LoadedImage)) } };
      { s with nv := { s.nv with trialRuns := setNth s.nv.trialRuns 3 (true) } }),
      3, 0, { version := 0, rollback := 0, measurement := 0, payload := [] }, shaped (by decide +kernel), by decide +kernel⟩,
   ⟨State.reset, 3, by decide +kernel⟩⟩

theorem witness_OutagesAreCountedAndTimed :
    (∃ s : State, s.regsOk ∧ s.umb.alive = true ∧ s.umbState = State.umbLinked) ∧
    (∃ (s : State) (d k q : Nat), s.regsOk ∧ s.umb.alive = true ∧ s.umbState = State.umbKeep ∧ s.umb.darkSince = some d ∧
      s.umb.staged = [] ∧ s.umb.drops = 0 ∧ s.umb.next = some (k, q) ∧ d ≤ s.rd Reg.UMB_SECONDS_SEC ∧ s.rd Reg.UMB_SECONDS_SEC < 2 ^ 32) ∧
    (∃ s : State, s.regsOk ∧ s.umb.alive = false) ∧
    (∃ s : State, s.regsOk ∧ s.umb.alive = true ∧ s.umbState = State.umbStart ∧ s.umb.staged = [] ∧ s.umb.drops = 0 ∧
      s.umb.journal = none) :=
  ⟨⟨(let s := State.reset; State.wr (s) Reg.UMB_STATUS_STATE (State.umbLinked)), by decide +kernel⟩,
   ⟨(let s := State.reset; let s := State.wr (s) Reg.UMB_STATUS_STATE (State.umbKeep);
      let s := { s with umb := { s.umb with darkSince := some 0 } }; { s with umb := { s.umb with next := some (0, 0) } }), 0, 0, 0,
      by decide +kernel⟩,
   ⟨(let s := State.reset; { s with umb := { s.umb with alive := false } }), by decide +kernel⟩,
   ⟨State.reset, by decide +kernel⟩⟩

theorem witness_LoadDestinationsAreFive :
    (∃ (s : State) (d addr len c : Nat) (tgt : LoadTarget), s.regsOk ∧ (d, tgt) ∈ [(1, LoadTarget.le0), (2, .le1), (3, .orbit),
      (4, .profile), (5, .sweep)] ∧ s.cross.sub = some ⟨[⟨3 + 2 ^ 16 * d, addr, len, c⟩], 0⟩ ∧ s.cross.dataPort = [] ∧
      s.cross.mcQueue = [] ∧ s.loadBusy tgt = false ∧ 1 ≤ len ∧ len % 4 = 0 ∧ len ≤ 32768 ∧ State.bufferOk addr len = true ∧
      s.loadLenOk tgt addr len = true) ∧
    (∃ (s : State) (d addr len c : Nat), s.regsOk ∧ (d = 0 ∨ 5 < d) ∧ d < 65536 ∧
      s.cross.sub = some ⟨[⟨3 + 2 ^ 16 * d, addr, len, c⟩], 0⟩ ∧ s.cross.dataPort = [] ∧ s.cross.mcQueue = []) :=
  ⟨⟨(let s := State.reset; { s with cross := { s.cross with sub := some ⟨[⟨3 + 2 ^ 16 * 1, 268435456, 64, 5⟩], 0⟩ } }),
      1, 268435456, 64, 5, LoadTarget.le0, by decide +kernel⟩,
   ⟨(let s := State.reset; { s with cross := { s.cross with sub := some ⟨[⟨3 + 2 ^ 16 * 6, 268435456, 64, 5⟩], 0⟩ } }),
      6, 268435456, 64, 5, by decide +kernel⟩⟩

theorem witness_PairWritePrevailsOnItsEdge :
    (∃ (s : State) (a : Nat) (sub : Submission) (e : MbxEntry), s.cross.sub = some sub ∧ sub.due = 0 ∧ e ∈ sub.entries ∧
      fieldOf e.w0 0 8 = 1 ∧ e.w1 = a ∧ State.entryWriteBad a e.w3 = false) ∧
    (∃ (s : State) (v' : Nat), s.regsOk ∧ s.cross.sub = some ⟨[⟨1, 0x400B0000, v', 0x3F⟩], 0⟩ ∧ s.cross.dataPort = [] ∧
      s.cross.mcQueue = [] ∧ s.on Reg.CP_STATUS_ACTIVE = false ∧ s.pairState .a = State.pairActive ∧ s.on (State.fenceFld .a) = false ∧
      s.on (Reg.EVF_ROUTE_LOCK 0) = false) ∧
    (∃ s : State, s.cross.sub = none) :=
  ⟨⟨(let s := State.reset;
      { s with cross := { s.cross with sub := some ({ entries := [{ w0 := 1, w1 := 1073807616, w2 := 5, w3 := 1 }], due := 0 } : Submission) } }),
      1073807616, { entries := [{ w0 := 1, w1 := 1073807616, w2 := 5, w3 := 1 }], due := 0 }, { w0 := 1, w1 := 1073807616, w2 := 5, w3 := 1 }, by decide +kernel⟩,
   ⟨(let s := State.reset; let s := { s with cross := { s.cross with sub := some ⟨[⟨1, 0x400B0000, 0, 0x3F⟩], 0⟩ } };
      State.wr (s) (State.pairStateFld .a) (State.pairActive)), 0, by decide +kernel⟩,
   ⟨State.reset, by decide +kernel⟩⟩

theorem witness_StepRunsTheFrontCommand : ∃ (c : Instr) (s : State) (rest : List Instr), s.pending = c :: rest :=
  ⟨Instr.pinrst, (let s := State.reset; { s with pending := Instr.pinrst :: [] }), [], by decide +kernel⟩

theorem witness_StepIdlesOnAnEmptyQueue : ∃ s : State, s.pending = [] :=
  ⟨State.reset, by decide +kernel⟩

theorem witness_StepKeepsCanonical : ∃ s t : State, s.Canonical ∧ step s = .next t :=
  ⟨{ State.reset with pending := [.timeGet] }, _, ⟨by decide, by decide, by decide, by decide, by decide, by decide, by decide⟩, rfl⟩

theorem witness_StepKeepsShape : ∃ s t : State, s.Shaped ∧ step s = .next t :=
  ⟨{ State.reset with pending := [.timeGet] }, _, shaped (by decide +kernel), rfl⟩

theorem witness_StepTakesOneCommand : ∃ s t : State, step s = .next t :=
  ⟨{ State.reset with pending := [.timeGet] }, _, rfl⟩

theorem witness_UnitsChangeOnlyByTheirCommands :
    (∃ (c : Instr) (s t : State), actsWidely c = false ∧ exec c s = .next t ∧ writesSram c = false) ∧
    (∃ (c : Instr) (s t : State), actsWidely c = false ∧ exec c s = .next t ∧ writesCapture c = false) ∧
    (∃ (c : Instr) (s t : State), actsWidely c = false ∧ exec c s = .next t ∧ writesTcm c = false) ∧
    (∃ (c : Instr) (s t : State), actsWidely c = false ∧ exec c s = .next t ∧ writesStore c = false) ∧
    (∃ (c : Instr) (s t : State), actsWidely c = false ∧ exec c s = .next t ∧ writesUmbra c = false) ∧
    (∃ (c : Instr) (s t : State), actsWidely c = false ∧ exec c s = .next t) ∧
    (∃ (c : Instr) (s t : State), actsWidely c = false ∧ exec c s = .next t ∧ c ≠ .frameBoundary) :=
  ⟨⟨.timeGet, State.reset, _, rfl, rfl, rfl⟩,
   ⟨.timeGet, State.reset, _, rfl, rfl, rfl⟩,
   ⟨.timeGet, State.reset, _, rfl, rfl, rfl⟩,
   ⟨.timeGet, State.reset, _, rfl, rfl, rfl⟩,
   ⟨.timeGet, State.reset, _, rfl, rfl, rfl⟩,
   ⟨.timeGet, State.reset, _, rfl, rfl⟩,
   ⟨.timeGet, State.reset, _, rfl, rfl, by decide⟩⟩

theorem witness_AttnAndNoticesFollowTheQueues :
    (∃ (s : State) (n : Nat) (x : Reply), s.hostReady = true ∧ s.wakes 0 = false ∧ s.tpp.host.replies = [x] ∧ s.tpp.host.notices = [] ∧
      x.bytes.length ≤ n) ∧
    (∃ (s : State) (n : Nat) (x : Reply), s.hostReady = true ∧ s.wakes 0 = false ∧ s.tpp.host.replies = [] ∧ s.tpp.host.notices = [x] ∧
      x.bytes.length ≤ n) :=
  ⟨⟨(let s := State.reset; let s := { s with oper := .standby, power := .run, clk := { s.clk with hostHighZ := false } };
      { s with tpp := { s.tpp with host := { s.tpp.host with replies := [({ ver := 35, opcode := 256, seq := 7, status := 0, payload := [1, 2], tag := [], stamp := 0 } : Reply)] } } }),
      16, { ver := 35, opcode := 256, seq := 7, status := 0, payload := [1, 2], tag := [], stamp := 0 }, by decide +kernel⟩,
   ⟨(let s := State.reset; let s := { s with oper := .standby, power := .run, clk := { s.clk with hostHighZ := false } };
      { s with tpp := { s.tpp with host := { s.tpp.host with notices := [({ ver := 35, opcode := 256, seq := 7, status := 0, payload := [1, 2], tag := [], stamp := 0 } : Reply)] } } }),
      16, { ver := 35, opcode := 256, seq := 7, status := 0, payload := [1, 2], tag := [], stamp := 0 }, by decide +kernel⟩⟩

end Sys2Proof.Tests
end

section
/-! SUPPORT. What holds of every command and of every step: what a step can do, that a command completes, and what reset holds. -/

namespace Sys2Proof.Machine

/-- A step either idles on an empty queue or runs the front command on the state with the rest of the queue. -/
theorem step_cases {s t : State} (h : step s = .next t) :
    (s.pending = [] ∧ t = s) ∨
      ∃ c rest, s.pending = c :: rest ∧ exec c { s with pending := rest } = .next t := by
  unfold step at h
  split at h
  next hq => exact .inl ⟨hq, by cases h; rfl⟩
  next c rest hq => exact .inr ⟨c, rest, hq, h⟩

/-- The queue is no part of the canonical form. -/
theorem State.Canonical.with_pending {s : State} (h : s.Canonical) (q : List Instr) : { s with pending := q }.Canonical :=
  ⟨h.regs, h.sram, h.capture, h.mcMem, h.scMem, h.tcmA, h.tcmB⟩

/-- A command that answers a next state keeps the canonical form. -/
theorem exec_keeps_canonical {c : Instr} {s t : State} (h : exec c s = .next t) (hs : s.Canonical) : t.Canonical :=
  (kp_exec c s t h).canonical hs

/-- The meaning of each command is by definition a next state: no arm of `exec` is a fault or a refusal (R7, R46, R401;
notes/assumptions 4). -/
theorem exec_answers_next (c : Instr) (s : State) : ∃ t, exec c s = .next t := by
  cases c <;> exact ⟨_, rfl⟩

/-- The register list is empty at reset, so a field reads its reset value (R10). -/
@[simp] theorem State.rd_reset (f : Fld) : State.reset.rd f = f.rst := rfl

/-- Settles O56: a step that idles leaves the state, and one that runs a command keeps the form by the law of `exec`. -/
theorem stepKeepsCanonical : Obligations.StepKeepsCanonical := by
  intro s t hs hstep
  rcases step_cases hstep with ⟨-, rfl⟩ | ⟨c, rest, -, hexec⟩
  · exact hs
  · exact exec_keeps_canonical hexec (hs.with_pending rest)

/-- Settles O55: every arm of `exec` answers a next state. -/
theorem everyCommandCompletes : Obligations.EveryCommandCompletes := exec_answers_next

/-- Settles O52: the fields by `State.rd_reset`, each stated condition by the reset value of the field it reads, and the rest
as `State.reset` lists it. -/
theorem resetHoldsTheResetValues : Obligations.ResetHoldsTheResetValues := by
  have hlatched : State.reset.pwmLatched = true := by simp [State.pwmLatched, State.on]
  have hrelays : State.reset.relaysOpen = true := rfl
  have hlegs : ∀ n, State.reset.legState n = State.legUnused := fun n => State.rd_reset (Reg.DRV_STATE_STATE n)
  have hcpRun : State.reset.cpRun = false := by simp [State.cpRun, State.on]
  exact ⟨State.rd_reset, hlatched, hrelays, hlegs, rfl, rfl, rfl, rfl, rfl, rfl, rfl, rfl, rfl, hcpRun⟩

end Sys2Proof.Machine
end

section
/-! SUPPORT. The frame of the whole table: the memories, stores and units that each command owns, and that it changes no other. -/

set_option Elab.async false

namespace Sys2Proof.Machine

/-- The boot ROM's command (R430). -/
def runsBootRom : Instr → Bool
  | .bootRomRun _ _ => true
  | _ => false

/-- The commands that move the alive bytes of a check-value unit (R450). -/
def writesAlive : Instr → Bool
  | .cvuByte _ _ | .cvuStart _ _ => true
  | _ => false

/-- The boundary of a frame (R88). -/
def endsFrame : Instr → Bool
  | .frameBoundary => true
  | _ => false

theorem runsBootRom_eq_false {c : Instr} (h : ∀ e es, c ≠ .bootRomRun e es) : runsBootRom c = false := by
  unfold runsBootRom
  split
  · exact absurd rfl (h _ _)
  · rfl

theorem writesAlive_eq_false {c : Instr} (hb : ∀ u b, c ≠ .cvuByte u b) (hs : ∀ m u, c ≠ .cvuStart m u) : writesAlive c = false := by
  unfold writesAlive
  split
  · exact absurd rfl (hb _ _)
  · exact absurd rfl (hs _ _)
  · rfl

theorem endsFrame_eq_false {c : Instr} (h : c ≠ .frameBoundary) : endsFrame c = false := by
  unfold endsFrame
  split
  · exact absurd rfl h
  · rfl

/-- The parts of the state that have owners, in the numbering of `Keeps`, each with the test for the commands that own it. -/
def ownedParts : List (Nat × (Instr → Bool)) :=
  [(2, writesSram), (3, writesCapture), (4, writesTcm), (5, writesTcm), (6, runsBootRom), (7, runsBootRom), (10, runsBootRom),
   (11, endsFrame), (28, writesStore), (30, writesUmbra), (31, writesAlive)]

/-- A command owns every part of a mask that has owners; one that acts widely owns them all. -/
def ownsMask (c : Instr) (d : Nat) : Bool := actsWidely c || ownedParts.all fun p => !d.testBit p.1 || p.2 c

/-- A mask whose parts a command owns does not hold a part that it does not own. -/
theorem not_inMask_of_ownsMask {c : Instr} {d i : Nat} {w : Instr → Bool} (h : ownsMask c d = true) (hc : actsWidely c = false)
    (hp : (i, w) ∈ ownedParts) (hw : w c = false) : ¬ inMask d i := by
  rw [ownsMask, hc, Bool.false_or, List.all_eq_true] at h
  simpa [hw] using h (i, w) hp

/-- Every command keeps all parts of the state but those that it owns and those that have no owners: the law of each command, by the
mask that it states. -/
theorem exec_keeps_owned (c : Instr) (s : State) : ∃ d, KeepsN d s (exec c s) ∧ ownsMask c d = true := by
  cases c with
  | registerWrite => exact ⟨_, kp_execRegisterWrite _ _ _ _ _, rfl⟩
  | sharedSramWrite => exact ⟨_, kp_execSharedSramWrite _ _ _ _, rfl⟩
  | mbxDataWrite => exact ⟨_, kp_execMbxDataWrite _ _ _ _, rfl⟩
  | mbxSubmit => exact ⟨_, kp_execMbxSubmit _ _ _ _, rfl⟩
  | mbxApply => exact ⟨_, kp_execMbxApply _ _, rfl⟩
  | mbxParityError => exact ⟨_, kp_execMbxParityError _, rfl⟩
  | dataPortSubmit => exact ⟨_, kp_execDataPortSubmit _ _ _ _, rfl⟩
  | loadCopyComplete => exact ⟨_, kp_execLoadCopyComplete _ _, rfl⟩
  | tapRecordDeliver => exact ⟨_, kp_execTapRecordDeliver _ _, rfl⟩
  | digestComplete => exact ⟨_, kp_execDigestComplete _ _, rfl⟩
  | digRptrWrite => exact ⟨_, kp_execDigRptrWrite _ _ _, rfl⟩
  | clrDrops => exact ⟨_, kp_execClrDrops _ _, rfl⟩
  | evfRouteWrite => exact ⟨_, kp_execEvfRouteWrite _ _ _ _, rfl⟩
  | evfPendClear => exact ⟨_, kp_execEvfPendClear _ _ _ _ _, rfl⟩
  | clrCoal => exact ⟨_, kp_execClrCoal _ _, rfl⟩
  | slinkPacketReceive => exact ⟨_, kp_execSlinkPacketReceive _ _ _, rfl⟩
  | slinkLaneRemove => exact ⟨_, kp_execSlinkLaneRemove _ _, rfl⟩
  | slinkTrainDone => exact ⟨_, kp_execSlinkTrainDone _ _, rfl⟩
  | drivePathTimeout => exact ⟨_, kp_execDrivePathTimeout _ _ _ _, rfl⟩
  | isoRefreshTimeout => exact ⟨_, kp_execIsoRefreshTimeout _ _ _, rfl⟩
  | frameBoundary => exact ⟨_, kp_execFrameBoundary _, rfl⟩
  | orbTrackerSample => exact ⟨_, kp_execOrbTrackerSample _ _ _, rfl⟩
  | orbVoltagePresent => exact ⟨_, kp_execOrbVoltagePresent _, rfl⟩
  | orbVoltageAbsent => exact ⟨_, kp_execOrbVoltageAbsent _, rfl⟩
  | orbLockAchieved => exact ⟨_, kp_execOrbLockAchieved _, rfl⟩
  | orbLockLost => exact ⟨_, kp_execOrbLockLost _, rfl⟩
  | orbFlywheelLimit => exact ⟨_, kp_execOrbFlywheelLimit _, rfl⟩
  | orbTrackDisable => exact ⟨_, kp_execOrbTrackDisable _ _, rfl⟩
  | orbFollowEnter => exact ⟨_, kp_execOrbFollowEnter _, rfl⟩
  | orbGroupLoss => exact ⟨_, kp_execOrbGroupLoss _, rfl⟩
  | orbConfigWrite => exact ⟨_, kp_execOrbConfigWrite _ _ _ _, rfl⟩
  | orbConfigApply => exact ⟨_, kp_execOrbConfigApply _, rfl⟩
  | orbPeriodCompute => exact ⟨_, kp_execOrbPeriodCompute _, rfl⟩
  | orbSlotIssue => exact ⟨_, kp_execOrbSlotIssue _ _ _ _, rfl⟩
  | orbSlotInactWrite => exact ⟨_, kp_execOrbSlotInactWrite _ _ _ _, rfl⟩
  | orbBankSwap => exact ⟨_, kp_execOrbBankSwap _ _ _, rfl⟩
  | orbBankSwitch => exact ⟨_, kp_execOrbBankSwitch _, rfl⟩
  | clrOvr => exact ⟨_, kp_execClrOvr _ _, rfl⟩
  | clrStale => exact ⟨_, kp_execClrStale _ _, rfl⟩
  | cpMismatch => exact ⟨_, kp_execCpMismatch _ _, rfl⟩
  | cpTcmDed => exact ⟨_, kp_execCpTcmDed _ _, rfl⟩
  | cpComparatorTest => exact ⟨_, kp_execCpComparatorTest _ _ _, rfl⟩
  | cpDelayParity => exact ⟨_, kp_execCpDelayParity _ _, rfl⟩
  | cpAgreeFix => exact ⟨_, kp_execCpAgreeFix _ _ _ _, rfl⟩
  | cpAgreeFault => exact ⟨_, kp_execCpAgreeFault _ _, rfl⟩
  | debugHalt => exact ⟨_, kp_execDebugHalt _ _ _, rfl⟩
  | debugResume => exact ⟨_, kp_execDebugResume _ _ _, rfl⟩
  | debugStep => exact ⟨_, kp_execDebugStep _ _ _, rfl⟩
  | debugAbstractCmd => exact ⟨_, kp_execDebugAbstractCmd _ _ _, rfl⟩
  | debugProgbuf => exact ⟨_, kp_execDebugProgbuf _ _ _, rfl⟩
  | debugReplay => exact ⟨_, kp_execDebugReplay _ _, rfl⟩
  | sweepCapture => exact ⟨_, kp_execSweepCapture _ _ _ _, rfl⟩
  | sweepForced => exact ⟨_, kp_execSweepForced _ _ _ _, rfl⟩
  | standbyWriteSuppress => exact ⟨_, kp_execStandbyWriteSuppress _ _ _ _, rfl⟩
  | mirrorWriteThrough => exact ⟨_, kp_execMirrorWriteThrough _ _ _ _, rfl⟩
  | cpTakeover => exact ⟨_, kp_execCpTakeover _, rfl⟩
  | cpTakeoverInterrupt => exact ⟨_, kp_execCpTakeoverInterrupt _ _, rfl⟩
  | cpFatalDelay => exact ⟨_, kp_execCpFatalDelay _, rfl⟩
  | orderlySafeState => exact ⟨_, kp_execOrderlySafeState _, rfl⟩
  | cpEnable => exact ⟨_, kp_execCpEnable _ _ _, rfl⟩
  | cpDisable => exact ⟨_, kp_execCpDisable _ _ _, rfl⟩
  | cpSelftestDone => exact ⟨_, kp_execCpSelftestDone _ _ _, rfl⟩
  | cpActivate => exact ⟨_, kp_execCpActivate _ _, rfl⟩
  | cpSyncCopyDone => exact ⟨_, kp_execCpSyncCopyDone _ _, rfl⟩
  | cpStandbyEnter => exact ⟨_, kp_execCpStandbyEnter _ _, rfl⟩
  | cpCmdTakeover => exact ⟨_, kp_execCpCmdTakeover _ _, rfl⟩
  | rejoinCmd => exact ⟨_, kp_execRejoinCmd _ _ _, rfl⟩
  | cpMirrorWrite => exact ⟨_, kp_execCpMirrorWrite _ _ _ _, rfl⟩
  | clrFence => exact ⟨_, kp_execClrFence _ _, rfl⟩
  | clrSuppress => exact ⟨_, kp_execClrSuppress _ _, rfl⟩
  | clrEcc => exact ⟨_, kp_execClrEcc _ _, rfl⟩
  | leJobStart => exact ⟨_, kp_execLeJobStart _ _, rfl⟩
  | leJobEnd => exact ⟨_, kp_execLeJobEnd _ _, rfl⟩
  | lePhaseWrite => exact ⟨_, kp_execLePhaseWrite _ _ _, rfl⟩
  | leMissedWrite => exact ⟨_, kp_execLeMissedWrite _ _, rfl⟩
  | leOverrunFault => exact ⟨_, kp_execLeOverrunFault _ _, rfl⟩
  | leFault => exact ⟨_, kp_execLeFault _ _ _, rfl⟩
  | leCoverFailover => exact ⟨_, kp_execLeCoverFailover _ _, rfl⟩
  | leCmdSwap => exact ⟨_, kp_execLeCmdSwap _ _ _, rfl⟩
  | leBankSwitch => exact ⟨_, kp_execLeBankSwitch _ _, rfl⟩
  | leEnable => exact ⟨_, kp_execLeEnable _ _ _, rfl⟩
  | leDisable => exact ⟨_, kp_execLeDisable _ _ _, rfl⟩
  | leSelftestDone => exact ⟨_, kp_execLeSelftestDone _ _ _, rfl⟩
  | leSelftestCmd => exact ⟨_, kp_execLeSelftestCmd _ _ _, rfl⟩
  | leReturnCmd => exact ⟨_, kp_execLeReturnCmd _ _ _, rfl⟩
  | leReturnApply => exact ⟨_, kp_execLeReturnApply _ _, rfl⟩
  | leInjArm => exact ⟨_, kp_execLeInjArm _ _ _ _ _ _, rfl⟩
  | leInjEnd => exact ⟨_, kp_execLeInjEnd _ _ _, rfl⟩
  | captureBurstArm => exact ⟨_, kp_execCaptureBurstArm _ _, rfl⟩
  | captureBurstSample => exact ⟨_, kp_execCaptureBurstSample _ _ _, rfl⟩
  | leCntClr => exact ⟨_, kp_execLeCntClr _ _ _ _, rfl⟩
  | leImgInactWrite => exact ⟨_, kp_execLeImgInactWrite _ _ _ _ _, rfl⟩
  | pwmCommit => exact ⟨_, kp_execPwmCommit _ _ _, rfl⟩
  | pwmShadowWrite => exact ⟨_, kp_execPwmShadowWrite _ _ _ _ _, rfl⟩
  | cutoffFreeze => exact ⟨_, kp_execCutoffFreeze _ _ _, rfl⟩
  | commitPoint => exact ⟨_, kp_execCommitPoint _ _, rfl⟩
  | clEnable => exact ⟨_, kp_execClEnable _ _ _ _, rfl⟩
  | clSoftReset => exact ⟨_, kp_execClSoftReset _ _ _, rfl⟩
  | clPeriodWrite => exact ⟨_, kp_execClPeriodWrite _ _ _ _, rfl⟩
  | pwmValley => exact ⟨_, kp_execPwmValley _ _, rfl⟩
  | pwmInterlock => exact ⟨_, kp_execPwmInterlock _ _, rfl⟩
  | pwmEscRelease => exact ⟨_, kp_execPwmEscRelease _ _ _, rfl⟩
  | tripActivate => exact ⟨_, kp_execTripActivate _ _ _ _, rfl⟩
  | tripBlankEnd => exact ⟨_, kp_execTripBlankEnd _ _, rfl⟩
  | tripLatchClear => exact ⟨_, kp_execTripLatchClear _ _ _, rfl⟩
  | pwmForceWrite => exact ⟨_, kp_execPwmForceWrite _ _ _ _ _, rfl⟩
  | pwmSafeEnter => exact ⟨_, kp_execPwmSafeEnter _ _, rfl⟩
  | pwmSafeCmdEnter => exact ⟨_, kp_execPwmSafeCmdEnter _ _, rfl⟩
  | pwmSafeClear => exact ⟨_, kp_execPwmSafeClear _ _, rfl⟩
  | pwmClkLoss => exact ⟨_, kp_execPwmClkLoss _, rfl⟩
  | pwmCalDone => exact ⟨_, kp_execPwmCalDone _ _, rfl⟩
  | pwmClrShort => exact ⟨_, kp_execPwmClrShort _ _, rfl⟩
  | pwmClrXlock => exact ⟨_, kp_execPwmClrXlock _ _, rfl⟩
  | pwmClrLate => exact ⟨_, kp_execPwmClrLate _ _, rfl⟩
  | drvLegUse => exact ⟨_, kp_execDrvLegUse _ _ _, rfl⟩
  | drvLegUnuse => exact ⟨_, kp_execDrvLegUnuse _ _ _ _ _, rfl⟩
  | drvInitDone => exact ⟨_, kp_execDrvInitDone _ _, rfl⟩
  | drvTestDone => exact ⟨_, kp_execDrvTestDone _ _ _, rfl⟩
  | drvTestStart => exact ⟨_, kp_execDrvTestStart _ _ _, rfl⟩
  | drvArm => exact ⟨_, kp_execDrvArm _ _ _, rfl⟩
  | drvArmEngage => exact ⟨_, kp_execDrvArmEngage _ _, rfl⟩
  | drvDisarm => exact ⟨_, kp_execDrvDisarm _ _ _, rfl⟩
  | drvDsatOc => exact ⟨_, kp_execDrvDsatOc _ _ _ _, rfl⟩
  | drvLegFault => exact ⟨_, kp_execDrvLegFault _ _ _, rfl⟩
  | drvSoftoffEnd => exact ⟨_, kp_execDrvSoftoffEnd _ _, rfl⟩
  | drvRetryWaitEnd => exact ⟨_, kp_execDrvRetryWaitEnd _ _, rfl⟩
  | drvTriesReset => exact ⟨_, kp_execDrvTriesReset _ _, rfl⟩
  | drvCmdClear => exact ⟨_, kp_execDrvCmdClear _ _ _, rfl⟩
  | drvEnableCut => exact ⟨_, kp_execDrvEnableCut _ _, rfl⟩
  | drvEnableReturn => exact ⟨_, kp_execDrvEnableReturn _ _, rfl⟩
  | drvDieInterlock => exact ⟨_, kp_execDrvDieInterlock _ _, rfl⟩
  | drvBsWarn => exact ⟨_, kp_execDrvBsWarn _ _, rfl⟩
  | drvBsUv => exact ⟨_, kp_execDrvBsUv _ _, rfl⟩
  | drvBsOk => exact ⟨_, kp_execDrvBsOk _ _ _ _, rfl⟩
  | drvTransitionMeasure => exact ⟨_, kp_execDrvTransitionMeasure _ _ _ _ _ _, rfl⟩
  | drvStatusFrame => exact ⟨_, kp_execDrvStatusFrame _ _ _, rfl⟩
  | drvShortCmd => exact ⟨_, kp_execDrvShortCmd _ _, rfl⟩
  | drvOtWarn => exact ⟨_, kp_execDrvOtWarn _ _ _ _, rfl⟩
  | drvClrCrc => exact ⟨_, kp_execDrvClrCrc _ _, rfl⟩
  | drvClrXlock => exact ⟨_, kp_execDrvClrXlock _ _, rfl⟩
  | sarConversionEnd => exact ⟨_, kp_execSarConversionEnd _ _ _, rfl⟩
  | sarResultArrive => exact ⟨_, kp_execSarResultArrive _ _ _, rfl⟩
  | sarInjTrigger => exact ⟨_, kp_execSarInjTrigger _ _ _, rfl⟩
  | swtrig => exact ⟨_, kp_execSwtrig _ _ _, rfl⟩
  | sarFifoPop => exact ⟨_, kp_execSarFifoPop _ _ _, rfl⟩
  | sarCancelArrive => exact ⟨_, kp_execSarCancelArrive _ _ _, rfl⟩
  | sarEnable => exact ⟨_, kp_execSarEnable _ _ _, rfl⟩
  | sarDisable => exact ⟨_, kp_execSarDisable _ _ _, rfl⟩
  | sarInitDone => exact ⟨_, kp_execSarInitDone _ _ _, rfl⟩
  | sarCheckCmd => exact ⟨_, kp_execSarCheckCmd _ _ _, rfl⟩
  | sarCheckDone => exact ⟨_, kp_execSarCheckDone _ _ _ _ _, rfl⟩
  | sarRefFault => exact ⟨_, kp_execSarRefFault _ _, rfl⟩
  | sarSoftReset => exact ⟨_, kp_execSarSoftReset _ _ _, rfl⟩
  | sarPacketGap => exact ⟨_, kp_execSarPacketGap _ _ _, rfl⟩
  | sarConfigWrite => exact ⟨_, kp_execSarConfigWrite _ _ _ _ _ _, rfl⟩
  | sarConfigCommit => exact ⟨_, kp_execSarConfigCommit _ _, rfl⟩
  | snsClrCrc => exact ⟨_, kp_execSnsClrCrc _ _, rfl⟩
  | snsClrSar => exact ⟨_, kp_execSnsClrSar _ _, rfl⟩
  | meterSampleSet => exact ⟨_, kp_execMeterSampleSet _ _ _, rfl⟩
  | cmpOutputChange => exact ⟨_, kp_execCmpOutputChange _ _ _ _ _, rfl⟩
  | cmpBankTick => exact ⟨_, kp_execCmpBankTick _ _ _, rfl⟩
  | cmpWindowEnable => exact ⟨_, kp_execCmpWindowEnable _ _ _, rfl⟩
  | cmpWindowDisable => exact ⟨_, kp_execCmpWindowDisable _ _ _, rfl⟩
  | cmpWindowArm => exact ⟨_, kp_execCmpWindowArm _ _ _, rfl⟩
  | cmpConfigWrite => exact ⟨_, kp_execCmpConfigWrite _ _ _ _ _ _, rfl⟩
  | cmpConfigCommit => exact ⟨_, kp_execCmpConfigCommit _ _, rfl⟩
  | cmpDacHoldEnd => exact ⟨_, kp_execCmpDacHoldEnd _ _, rfl⟩
  | cmpBlankEnd => exact ⟨_, kp_execCmpBlankEnd _ _, rfl⟩
  | cmpLcheck => exact ⟨_, kp_execCmpLcheck _ _ _, rfl⟩
  | cmpLcheckStepEnd => exact ⟨_, kp_execCmpLcheckStepEnd _ _ _ _, rfl⟩
  | cmpLcheckEnd => exact ⟨_, kp_execCmpLcheckEnd _ _, rfl⟩
  | cmpBankSoftReset => exact ⟨_, kp_execCmpBankSoftReset _ _ _, rfl⟩
  | gsRtEnter => exact ⟨_, kp_execGsRtEnter _ _, rfl⟩
  | gsExitHold => exact ⟨_, kp_execGsExitHold _, rfl⟩
  | gsCurveViolation => exact ⟨_, kp_execGsCurveViolation _, rfl⟩
  | gsZvTimeout => exact ⟨_, kp_execGsZvTimeout _, rfl⟩
  | gsReferenceWrite => exact ⟨_, kp_execGsReferenceWrite _, rfl⟩
  | gsEnable => exact ⟨_, kp_execGsEnable _ _, rfl⟩
  | gsDisable => exact ⟨_, kp_execGsDisable _ _, rfl⟩
  | gsProfileSwitch => exact ⟨_, kp_execGsProfileSwitch _, rfl⟩
  | eePassiveTrip => exact ⟨_, kp_execEePassiveTrip _ _, rfl⟩
  | eeSegmentEnd => exact ⟨_, kp_execEeSegmentEnd _, rfl⟩
  | eeClear => exact ⟨_, kp_execEeClear _ _, rfl⟩
  | eeRebase => exact ⟨_, kp_execEeRebase _ _, rfl⟩
  | peStep => exact ⟨_, kp_execPeStep _, rfl⟩
  | peNosamp => exact ⟨_, kp_execPeNosamp _ _, rfl⟩
  | peCurtailEnter => exact ⟨_, kp_execPeCurtailEnter _, rfl⟩
  | peCurtailLeave => exact ⟨_, kp_execPeCurtailLeave _, rfl⟩
  | peShade => exact ⟨_, kp_execPeShade _ _, rfl⟩
  | peSweepSchedule => exact ⟨_, kp_execPeSweepSchedule _ _, rfl⟩
  | peSweepCmd => exact ⟨_, kp_execPeSweepCmd _ _ _, rfl⟩
  | peVocEnd => exact ⟨_, kp_execPeVocEnd _, rfl⟩
  | peSweepPoint => exact ⟨_, kp_execPeSweepPoint _, rfl⟩
  | peSweepSearch => exact ⟨_, kp_execPeSweepSearch _, rfl⟩
  | pePairBlocked => exact ⟨_, kp_execPePairBlocked _ _, rfl⟩
  | pePairUnblocked => exact ⟨_, kp_execPePairUnblocked _ _, rfl⟩
  | peChannelEnable => exact ⟨_, kp_execPeChannelEnable _ _ _, rfl⟩
  | peChannelDisable => exact ⟨_, kp_execPeChannelDisable _ _ _, rfl⟩
  | peProfileSwitch => exact ⟨_, kp_execPeProfileSwitch _, rfl⟩
  | meGranuleClose => exact ⟨_, kp_execMeGranuleClose _, rfl⟩
  | meGranuleLost => exact ⟨_, kp_execMeGranuleLost _, rfl⟩
  | meIntervalBoundary => exact ⟨_, kp_execMeIntervalBoundary _, rfl⟩
  | meCkptPeriod => exact ⟨_, kp_execMeCkptPeriod _, rfl⟩
  | meCkptStore => exact ⟨_, kp_execMeCkptStore _, rfl⟩
  | meSnap => exact ⟨_, kp_execMeSnap _ _, rfl⟩
  | meSnapAck => exact ⟨_, kp_execMeSnapAck _ _, rfl⟩
  | meCkpt => exact ⟨_, kp_execMeCkpt _ _, rfl⟩
  | meCkptAck => exact ⟨_, kp_execMeCkptAck _ _, rfl⟩
  | meIvalClose => exact ⟨_, kp_execMeIvalClose _ _, rfl⟩
  | meRestore => exact ⟨_, kp_execMeRestore _ _, rfl⟩
  | meClrCounts => exact ⟨_, kp_execMeClrCounts _ _, rfl⟩
  | meEnable => exact ⟨_, kp_execMeEnable _ _, rfl⟩
  | meDisable => exact ⟨_, kp_execMeDisable _ _, rfl⟩
  | meCalWrite => exact ⟨_, kp_execMeCalWrite _ _ _ _, rfl⟩
  | meCalLock => exact ⟨_, kp_execMeCalLock _ _, rfl⟩
  | meCalRestore => exact ⟨_, kp_execMeCalRestore _, rfl⟩
  | linkEnable => exact ⟨_, kp_execLinkEnable _ _ _, rfl⟩
  | linkDisable => exact ⟨_, kp_execLinkDisable _ _ _, rfl⟩
  | laneTsReceived => exact ⟨_, kp_execLaneTsReceived _ _ _, rfl⟩
  | laneConfigDone => exact ⟨_, kp_execLaneConfigDone _ _, rfl⟩
  | linkTrainTimeout => exact ⟨_, kp_execLinkTrainTimeout _ _, rfl⟩
  | laneLatencyMeasured => exact ⟨_, kp_execLaneLatencyMeasured _ _ _, rfl⟩
  | linkUp => exact ⟨_, kp_execLinkUp _ _, rfl⟩
  | linkBndReceive => exact ⟨_, kp_execLinkBndReceive _ _ _ _ _, rfl⟩
  | dfeWindowEnd => exact ⟨_, kp_execDfeWindowEnd _ _ _ _ _ _ _, rfl⟩
  | laneFomSample => exact ⟨_, kp_execLaneFomSample _ _ _, rfl⟩
  | laneIdleEnter => exact ⟨_, kp_execLaneIdleEnter _ _ _, rfl⟩
  | laneIdleExit => exact ⟨_, kp_execLaneIdleExit _ _, rfl⟩
  | laneLatencyRemeasure => exact ⟨_, kp_execLaneLatencyRemeasure _ _ _, rfl⟩
  | cometPacketReceive => exact ⟨_, kp_execCometPacketReceive _ _ _, rfl⟩
  | markerReceive => exact ⟨_, kp_execMarkerReceive _ _ _ _, rfl⟩
  | eeBroadcastReceive => exact ⟨_, kp_execEeBroadcastReceive _ _ _, rfl⟩
  | sampleReceive => exact ⟨_, kp_execSampleReceive _ _ _, rfl⟩
  | statusReceive => exact ⟨_, kp_execStatusReceive _ _ _, rfl⟩
  | safetyPduReceive => exact ⟨_, kp_execSafetyPduReceive _ _ _ _ _, rfl⟩
  | shareReceive => exact ⟨_, kp_execShareReceive _ _ _, rfl⟩
  | tunnelReceive => exact ⟨_, kp_execTunnelReceive _ _ _ _ _, rfl⟩
  | cometPacketStart => exact ⟨_, kp_execCometPacketStart _ _ _, rfl⟩
  | cometLaneSend => exact ⟨_, kp_execCometLaneSend _ _, rfl⟩
  | safeTxQueue => exact ⟨_, kp_execSafeTxQueue _ _ _, rfl⟩
  | linkShedEvaluate => exact ⟨_, kp_execLinkShedEvaluate _ _, rfl⟩
  | laneLoss => exact ⟨_, kp_execLaneLoss _ _ _ _, rfl⟩
  | lstatReceive => exact ⟨_, kp_execLstatReceive _ _ _ _ _ _, rfl⟩
  | laneRemove => exact ⟨_, kp_execLaneRemove _ _, rfl⟩
  | laneReadyMark => exact ⟨_, kp_execLaneReadyMark _ _ _, rfl⟩
  | laneReinstate => exact ⟨_, kp_execLaneReinstate _ _, rfl⟩
  | cometRetrain => exact ⟨_, kp_execCometRetrain _ _ _, rfl⟩
  | cometRemeasure => exact ⟨_, kp_execCometRemeasure _ _ _, rfl⟩
  | cometClrStats => exact ⟨_, kp_execCometClrStats _ _, rfl⟩
  | laneTestEnter => exact ⟨_, kp_execLaneTestEnter _ _ _ _ _ _, rfl⟩
  | laneTestExit => exact ⟨_, kp_execLaneTestExit _ _ _, rfl⟩
  | lanePatternError => exact ⟨_, kp_execLanePatternError _ _ _, rfl⟩
  | xmonFrame => exact ⟨_, kp_execXmonFrame _ _ _, rfl⟩
  | xmonTimeout => exact ⟨_, kp_execXmonTimeout _ _, rfl⟩
  | xmonDiscrepancy => exact ⟨_, kp_execXmonDiscrepancy _, rfl⟩
  | safeSf1Demand => exact ⟨_, kp_execSafeSf1Demand _ _ _, rfl⟩
  | sinSample => exact ⟨_, kp_execSinSample _ _ _, rfl⟩
  | safeSf2Demand => exact ⟨_, kp_execSafeSf2Demand _ _, rfl⟩
  | safeSf2Release => exact ⟨_, kp_execSafeSf2Release _ _, rfl⟩
  | safeSf4Apply => exact ⟨_, kp_execSafeSf4Apply _ _, rfl⟩
  | safeSf4Release => exact ⟨_, kp_execSafeSf4Release _, rfl⟩
  | tpoPulse => exact ⟨_, kp_execTpoPulse _ _ _ _ _ _, rfl⟩
  | commKeyPress => exact ⟨_, kp_execCommKeyPress _ _ _, rfl⟩
  | confirmWindowExpire => exact ⟨_, kp_execConfirmWindowExpire _, rfl⟩
  | safeConnectRequest => exact ⟨_, kp_execSafeConnectRequest _, rfl⟩
  | safePreEnergiseStep => exact ⟨_, kp_execSafePreEnergiseStep _ _ _, rfl⟩
  | safeContactCheck => exact ⟨_, kp_execSafeContactCheck _ _ _ _, rfl⟩
  | safeDisconnectRequest => exact ⟨_, kp_execSafeDisconnectRequest _, rfl⟩
  | relayOffPulse => exact ⟨_, kp_execRelayOffPulse _ _, rfl⟩
  | relayOffPulseEnd => exact ⟨_, kp_execRelayOffPulseEnd _ _ _ _, rfl⟩
  | relayReadbackFault => exact ⟨_, kp_execRelayReadbackFault _ _ _, rfl⟩
  | reconnectTimerExpire => exact ⟨_, kp_execReconnectTimerExpire _, rfl⟩
  | hslGridWindowTrip => exact ⟨_, kp_execHslGridWindowTrip _ _ _, rfl⟩
  | hslAnalogWindowTrip => exact ⟨_, kp_execHslAnalogWindowTrip _ _ _, rfl⟩
  | hslWindowsArm => exact ⟨_, kp_execHslWindowsArm _, rfl⟩
  | pduSend => exact ⟨_, kp_execPduSend _ _ _ _, rfl⟩
  | pduWatchdogExpire => exact ⟨_, kp_execPduWatchdogExpire _ _, rfl⟩
  | safeSelfCheckFail => exact ⟨_, kp_execSafeSelfCheckFail _, rfl⟩
  | spiWriteTransfer => exact ⟨_, kp_execSpiWriteTransfer _ _, rfl⟩
  | spiReadTransfer => exact ⟨_, kp_execSpiReadTransfer _ _, rfl⟩
  | serviceUartByte => exact ⟨_, kp_execServiceUartByte _ _, rfl⟩
  | serviceGapAbort => exact ⟨_, kp_execServiceGapAbort _, rfl⟩
  | tppSessionTimeout => exact ⟨_, kp_execTppSessionTimeout _ _, rfl⟩
  | recordStagingTimeout => exact ⟨_, kp_execRecordStagingTimeout _ _, rfl⟩
  | hello => exact ⟨_, kp_execHello _, rfl⟩
  | bye => exact ⟨_, kp_execBye _, rfl⟩
  | keyOffer => exact ⟨_, kp_execKeyOffer _, rfl⟩
  | keyProof => exact ⟨_, kp_execKeyProof _, rfl⟩
  | keyCipher => exact ⟨_, kp_execKeyCipher _, rfl⟩
  | keyOwner => exact ⟨_, kp_execKeyOwner _, rfl⟩
  | bdrWrite => exact ⟨_, kp_execBdrWrite _, rfl⟩
  | bdrCommit => exact ⟨_, kp_execBdrCommit _, rfl⟩
  | bdrRead => exact ⟨_, kp_execBdrRead _, rfl⟩
  | gprWrite => exact ⟨_, kp_execGprWrite _, rfl⟩
  | gprCommit => exact ⟨_, kp_execGprCommit _, rfl⟩
  | gprRead => exact ⟨_, kp_execGprRead _, rfl⟩
  | connect => exact ⟨_, kp_execConnect _, rfl⟩
  | disconnect => exact ⟨_, kp_execDisconnect _, rfl⟩
  | syncWindowMet => exact ⟨_, kp_execSyncWindowMet _, rfl⟩
  | syncTimeout => exact ⟨_, kp_execSyncTimeout _, rfl⟩
  | disconnectGsStop => exact ⟨_, kp_execDisconnectGsStop _, rfl⟩
  | disconnectPwmSafe => exact ⟨_, kp_execDisconnectPwmSafe _, rfl⟩
  | setP => exact ⟨_, kp_execSetP _, rfl⟩
  | setQ => exact ⟨_, kp_execSetQ _, rfl⟩
  | curtail => exact ⟨_, kp_execCurtail _, rfl⟩
  | mode => exact ⟨_, kp_execMode _, rfl⟩
  | status => exact ⟨_, kp_execStatus _, rfl⟩
  | setpoint => exact ⟨_, kp_execSetpoint _, rfl⟩
  | meterRead => exact ⟨_, kp_execMeterRead _, rfl⟩
  | meterSnapshot => exact ⟨_, kp_execMeterSnapshot _, rfl⟩
  | meterSnapRead => exact ⟨_, kp_execMeterSnapRead _, rfl⟩
  | meterInterval => exact ⟨_, kp_execMeterInterval _, rfl⟩
  | meterInst => exact ⟨_, kp_execMeterInst _, rfl⟩
  | meterCal => exact ⟨_, kp_execMeterCal _, rfl⟩
  | meterCalLock => exact ⟨_, kp_execMeterCalLock _, rfl⟩
  | sprWrite => exact ⟨_, kp_execSprWrite _, rfl⟩
  | sprCommit => exact ⟨_, kp_execSprCommit _, rfl⟩
  | sprConfirm => exact ⟨_, kp_execSprConfirm _, rfl⟩
  | safetyReset => exact ⟨_, kp_execSafetyReset _, rfl⟩
  | safetyStatus => exact ⟨_, kp_execSafetyStatus _, rfl⟩
  | pduPut => exact ⟨_, kp_execPduPut _, rfl⟩
  | pduGet => exact ⟨_, kp_execPduGet _, rfl⟩
  | imageWrite => exact ⟨_, kp_execImageWrite _, rfl⟩
  | imageCommit => exact ⟨_, kp_execImageCommit _, rfl⟩
  | imageActivate => exact ⟨_, kp_execImageActivate _, rfl⟩
  | attest => exact ⟨_, kp_execAttest _, rfl⟩
  | certRead => exact ⟨_, kp_execCertRead _, rfl⟩
  | lcToken => exact ⟨_, kp_execLcToken _ _, rfl⟩
  | debugToken => exact ⟨_, kp_execDebugToken _, rfl⟩
  | tokenStagingTimeout => exact ⟨_, kp_execTokenStagingTimeout _, rfl⟩
  | selftest => exact ⟨_, kp_execSelftest _ _ _ _ _, rfl⟩
  | drvClear => exact ⟨_, kp_execDrvClear _, rfl⟩
  | faultClear => exact ⟨_, kp_execFaultClear _, rfl⟩
  | regRead => exact ⟨_, kp_execRegRead _, rfl⟩
  | regWrite => exact ⟨_, kp_execRegWrite _, rfl⟩
  | linkStatus => exact ⟨_, kp_execLinkStatus _, rfl⟩
  | linkTest => exact ⟨_, kp_execLinkTest _, rfl⟩
  | linkRetrain => exact ⟨_, kp_execLinkRetrain _, rfl⟩
  | tunnel => exact ⟨_, kp_execTunnel _, rfl⟩
  | logRead => exact ⟨_, kp_execLogRead _, rfl⟩
  | logInfo => exact ⟨_, kp_execLogInfo _, rfl⟩
  | timeSet => exact ⟨_, kp_execTimeSet _, rfl⟩
  | timeGet => exact ⟨_, kp_execTimeGet _, rfl⟩
  | notifyCfg => exact ⟨_, kp_execNotifyCfg _, rfl⟩
  | inject => exact ⟨_, kp_execInject _, rfl⟩
  | captureCfg => exact ⟨_, kp_execCaptureCfg _, rfl⟩
  | captureRead => exact ⟨_, kp_execCaptureRead _, rfl⟩
  | leMode => exact ⟨_, kp_execLeMode _, rfl⟩
  | powerState => exact ⟨_, kp_execPowerState _, rfl⟩
  | powerStatus => exact ⟨_, kp_execPowerStatus _, rfl⟩
  | softReset => exact ⟨_, kp_execSoftReset _, rfl⟩
  | bootRomRun => exact ⟨_, kp_execBootRomRun _ _ _, rfl⟩
  | bootComplete => exact ⟨_, kp_execBootComplete _, rfl⟩
  | imageTrialPromote => exact ⟨_, kp_execImageTrialPromote _ _ _, rfl⟩
  | trngHealthFail => exact ⟨_, kp_execTrngHealthFail _, rfl⟩
  | cvuByte => exact ⟨_, kp_execCvuByte _ _ _, rfl⟩
  | cvuMessageClose => exact ⟨_, kp_execCvuMessageClose _ _, rfl⟩
  | cvuStart => exact ⟨_, kp_execCvuStart _ _ _, rfl⟩
  | cvuEnd => exact ⟨_, kp_execCvuEnd _ _ _, rfl⟩
  | cvuClr => exact ⟨_, kp_execCvuClr _ _ _, rfl⟩
  | cvuPause => exact ⟨_, kp_execCvuPause _ _ _ _, rfl⟩
  | cvuRunWrite => exact ⟨_, kp_execCvuRunWrite _ _ _ _ _, rfl⟩
  | umbColdStart => exact ⟨_, kp_execUmbColdStart _ _, rfl⟩
  | umbRecoveryEnd => exact ⟨_, kp_execUmbRecoveryEnd _ _ _ _ _ _, rfl⟩
  | umbVddRise => exact ⟨_, kp_execUmbVddRise _, rfl⟩
  | umbVddFall => exact ⟨_, kp_execUmbVddFall _, rfl⟩
  | umbDead => exact ⟨_, kp_execUmbDead _ _, rfl⟩
  | umbRefresh => exact ⟨_, kp_execUmbRefresh _ _ _ _, rfl⟩
  | umbInputSample => exact ⟨_, kp_execUmbInputSample _ _ _, rfl⟩
  | umbTimeSetWrite => exact ⟨_, kp_execUmbTimeSetWrite _ _ _, rfl⟩
  | umbLogPut => exact ⟨_, kp_execUmbLogPut _ _, rfl⟩
  | umbOscTrim => exact ⟨_, kp_execUmbOscTrim _, rfl⟩
  | umbCapMeasured => exact ⟨_, kp_execUmbCapMeasured _ _, rfl⟩
  | refLoss => exact ⟨_, kp_execRefLoss _, rfl⟩
  | pllLock => exact ⟨_, kp_execPllLock _ _, rfl⟩
  | pllUnlock => exact ⟨_, kp_execPllUnlock _ _, rfl⟩
  | clkCalStart => exact ⟨_, kp_execClkCalStart _ _ _ _, rfl⟩
  | rampRun => exact ⟨_, kp_execRampRun _ _, rfl⟩
  | rampStop => exact ⟨_, kp_execRampStop _ _, rfl⟩
  | rampSegmentEnd => exact ⟨_, kp_execRampSegmentEnd _, rfl⟩
  | supWarn => exact ⟨_, kp_execSupWarn _ _ _, rfl⟩
  | supHoldExpire => exact ⟨_, kp_execSupHoldExpire _, rfl⟩
  | supRecover => exact ⟨_, kp_execSupRecover _ _ _ _, rfl⟩
  | vddioLoss => exact ⟨_, kp_execVddioLoss _, rfl⟩
  | porst => exact ⟨_, kp_execPorst _ _, rfl⟩
  | pinrst => exact ⟨_, kp_execPinrst _, rfl⟩
  | wdrst => exact ⟨_, kp_execWdrst _, rfl⟩
  | wdtKick => exact ⟨_, kp_execWdtKick _ _ _, rfl⟩
  | fatalrst => exact ⟨_, kp_execFatalrst _, rfl⟩
  | softrst => exact ⟨_, kp_execSoftrst _ _ _, rfl⟩
  | pwrTransitionDone => exact ⟨_, kp_execPwrTransitionDone _, rfl⟩
  | wakeSource => exact ⟨_, kp_execWakeSource _ _, rfl⟩
  | indicatorSlot => exact ⟨_, kp_execIndicatorSlot _, rfl⟩
  | vddioRecover => exact ⟨_, kp_execVddioRecover _, rfl⟩
  | referenceReturn => exact ⟨_, kp_execReferenceReturn _, rfl⟩
  | laneProbeReceive => exact ⟨_, kp_execLaneProbeReceive _ _ _ _, rfl⟩
  | linkTestEnd => exact ⟨_, kp_execLinkTestEnd _, rfl⟩
  | tunnelTimeout => exact ⟨_, kp_execTunnelTimeout _, rfl⟩

/-- Settles O59: a part of the state that the mask of the command does not hold is left unchanged. -/
theorem unitsChangeOnlyByTheirCommands : Obligations.UnitsChangeOnlyByTheirCommands := by
  intro c s t hc hexec
  obtain ⟨d, hd, hown⟩ := exec_keeps_owned c s
  have k := hd t hexec
  have left {i : Nat} {w : Instr → Bool} (hp : (i, w) ∈ ownedParts) (hw : w c = false) : ¬ inMask d i :=
    not_inMask_of_ownsMask hown hc hp hw
  have hrom (h : ∀ e es, c ≠ .bootRomRun e es) := runsBootRom_eq_false h
  exact ⟨fun h => k.sram (left (by simp [ownedParts]) h),
    fun h => k.capture (left (by simp [ownedParts]) h),
    fun h => ⟨k.tcmA (left (by simp [ownedParts]) h), k.tcmB (left (by simp [ownedParts]) h)⟩,
    fun h => k.nv (left (by simp [ownedParts]) h),
    fun h => k.umb (left (by simp [ownedParts]) h),
    fun h => ⟨k.mcMem (left (by simp [ownedParts]) (hrom h)), k.scMem (left (by simp [ownedParts]) (hrom h)),
      k.power (left (by simp [ownedParts]) (hrom h))⟩,
    fun hb hs => k.cvu (left (by simp [ownedParts]) (writesAlive_eq_false hb hs)),
    fun h => k.now (left (by simp [ownedParts]) (endsFrame_eq_false h))⟩

end Sys2Proof.Machine
end

section
/-! SUPPORT. The crossings and the event fabric (R44 to R74): the shared SRAM, the mailbox, the digest pointers, the routes and the
pending words, and what an event leaves pending. -/

set_option Elab.async false

open Sys2Proof.Machine.State

namespace Sys2Proof.Machine

/-! ### Shared data SRAM (R44) -/

/-- A write of a master that is no pair, or of an active pair whose fence is open, is judged by place and owner alone. -/
theorem sramWrite_eq {s : State} {m : Master} {addr : Nat} {data : List Byte}
    (hm : m = .mc ∨ m = .dataRegion ∨ ∃ p, masterPair? m = some p ∧ s.pairState p = pairActive ∧ s.on (fenceFld p) = false) :
    s.sramWrite m addr data =
      if (shmBase ≤ addr && addr + data.length ≤ shmBase + shmSize) && s.shmOwned m (addr - shmBase) data.length then
        { s with bus := .ok, sram := memWrite s.sram (addr - shmBase) data }
      else { s with bus := .error } := by
  rcases hm with rfl | rfl | ⟨p, hp, hact, hfence⟩
  · rfl
  · rfl
  · simp [sramWrite, hp, hact, hfence]

/-- Settles O1: the write is judged by place and owner, and a memory write stores its bytes and no others. -/
theorem sharedSramWriteObeysOwner : Obligations.SharedSramWriteObeysOwner := by
  refine ⟨fun s m o data hwf hlen hm hown => ?_, fun s m addr data hm hbad => ?_⟩
  · have hw : s.sramWrite m (0x10000000 + o) data = { s with bus := .ok, sram := memWrite s.sram o data } := by
      rw [sramWrite_eq hm, Nat.add_sub_cancel_left, hown]
      simp only [shmBase, shmSize]
      rw [if_pos (by simp; omega)]
    exact ⟨_, congrArg Host.Outcome.next hw, rfl, fun i hi => memByte_write_inside hwf hi, fun a ha => memByte_write_outside ha⟩
  · refine congrArg Host.Outcome.next ((sramWrite_eq hm).trans (if_neg ?_))
    simp only [Bool.and_eq_true, decide_eq_true_eq, shmBase, shmSize]
    rintro ⟨⟨hlo, hhi⟩, hown⟩
    rcases hbad with h | h | h
    · omega
    · omega
    · exact absurd (h.symm.trans hown) (by decide)

/-! ### Mailbox and digest pointers (R53 to R61) -/

/-- A submission of 1 to 16 entries while none is pending waits for its boundary with PEND set (R53). -/
theorem mbxSubmit_accepted {s : State} {n k : Nat} (hp : s.on Reg.MBX_STATUS_PEND = false) (h1 : 1 ≤ n) (h16 : n ≤ 16) :
    s.mbxSubmit n k = State.when (State.wr { s.wr Reg.MBX_CTRL_COUNT n with
      cross := { s.cross with sub := some ⟨(List.range n).map s.bankEntry, if s.lateTick k then 2 else 1⟩ } } Reg.MBX_STATUS_PEND 1)
      (s.lateTick k) mbxLate := by
  have hrd (f : Fld) (hf : f.key ≠ Reg.MBX_CTRL_COUNT.key) : (s.wr Reg.MBX_CTRL_COUNT n).rd f = s.rd f := rd_wr_ne s n hf
  have hlate : (s.wr Reg.MBX_CTRL_COUNT n).lateTick k = s.lateTick k := by
    simp only [lateTick, frameLen, divisor, hrd Reg.ORB_CTRL_DIV (by decide), hrd Reg.ORB_PERIOD_PERIOD (by decide)]
    rfl
  have hword (i : Nat) : (s.wr Reg.MBX_CTRL_COUNT n).rd (Reg.MBX_DATA_WORD i) = s.rd (Reg.MBX_DATA_WORD i) :=
    hrd _ (by simp only [Fld.key]; omega)
  have hbank : (s.wr Reg.MBX_CTRL_COUNT n).bankEntry = s.bankEntry := by
    funext i; simp only [bankEntry, hword]
  have hpend : (s.wr Reg.MBX_CTRL_COUNT n).on Reg.MBX_STATUS_PEND = false := by rw [on, hrd _ (by decide)]; exact hp
  simp only [mbxSubmit, hpend, hlate, hbank]
  rw [if_neg (by decide), if_neg (by simp; omega)]
  rfl

/-- A COUNT of 0 or above 16 submits nothing and sets CNT_ERR (R53). -/
theorem mbxSubmit_badCount {s : State} {n k : Nat} (hp : s.on Reg.MBX_STATUS_PEND = false) (hn : n = 0 ∨ 16 < n) :
    s.mbxSubmit n k = (s.wr Reg.MBX_CTRL_COUNT n).wr Reg.MBX_STATUS_CNT_ERR 1 := by
  have hpend : (s.wr Reg.MBX_CTRL_COUNT n).on Reg.MBX_STATUS_PEND = false := by rw [on, rd_wr_ne _ _ (by decide)]; exact hp
  simp only [mbxSubmit, hpend]
  rw [if_neg (by decide), if_pos (by simpa using hn)]

/-- A SUBMIT that the rights allow, at a tick that has come. -/
theorem exec_mbxSubmit_allow {s : State} {m : Master} {n k : Nat} (hr : s.right m 0x400C0004 .mr = .allow)
    (hk : k ≤ s.rd Reg.ORB_TICK_TICK) (hn : n < 32) : exec (.mbxSubmit m n k) s = .next (s.acked.mbxSubmit n k) := by
  change Host.Outcome.next _ = _
  rw [toTick_of_le hk, access_allow _ hr, Nat.mod_eq_of_lt hn]

/-- RPTR moves over no more entries than are unread; a move over more empties the ring (R60). -/
theorem digRptrWrite_eq {s : State} {v : Nat} (hv : v < 8) :
    s.digRptrWrite v = if s.rd Reg.DIG_PTR_UNREAD < (v + 8 - s.rd Reg.DIG_PTR_RPTR) % 8 then
        (s.wr Reg.DIG_PTR_UNREAD 0).wr Reg.DIG_PTR_RPTR (s.rd Reg.DIG_PTR_WPTR)
      else (s.wr Reg.DIG_PTR_UNREAD (s.rd Reg.DIG_PTR_UNREAD - (v + 8 - s.rd Reg.DIG_PTR_RPTR) % 8)).wr Reg.DIG_PTR_RPTR v := by
  simp only [digRptrWrite, Nat.mod_eq_of_lt hv]

/-- Settles O2: each command by its operation on the acknowledged state. -/
theorem mailboxAndDigestCommandsAct : Obligations.MailboxAndDigestCommandsAct := by
  refine ⟨fun s m i v hi hr hp => ?_, fun s m i v hi hr hp => ?_, fun s m n k hr hp h1 h16 hk hin => ?_,
    fun s m n k hr hp h1 h16 hk hlate => ?_, fun s m n k hr hp hn h32 hk => ?_, fun s u hu hnew => ?_,
    fun s i v k hlo hhi hk hin => ?_, fun s m v hr hv hle => ?_, fun s m v hr hv hlt => ?_, fun s m hm hr => ?_⟩
  · change Host.Outcome.next _ = _
    rw [if_pos hi, access_allow _ hr]
    exact congrArg Host.Outcome.next (if_neg (ne_true_of_eq_false hp))
  · change Host.Outcome.next _ = _
    rw [if_pos hi, access_allow _ hr]
    exact congrArg Host.Outcome.next (if_pos hp)
  · have hl : s.acked.lateTick k = false := decide_eq_false (Nat.not_le.mpr hin)
    rw [exec_mbxSubmit_allow hr hk (by omega), mbxSubmit_accepted (s := s.acked) hp h1 h16, hl]
    rfl
  · have hl : s.acked.lateTick k = true := decide_eq_true hlate
    rw [exec_mbxSubmit_allow hr hk (by omega), mbxSubmit_accepted (s := s.acked) hp h1 h16, hl]
    rfl
  · rw [exec_mbxSubmit_allow hr hk h32, mbxSubmit_badCount (s := s.acked) hp hn]
  · change Host.Outcome.next (match s.cross.sub with | none => s | some sub => s.mbxParity sub) = _
    have hagain : (s.cross.failedBank == some u.entries) = false := by simpa using hnew
    rw [hu]
    simp only [mbxParity, hagain, when_false]
  · change Host.Outcome.next _ = _
    have hl : s.lateTick k = false := decide_eq_false (Nat.not_le.mpr hin)
    rw [toTick_of_le hk, dataPortPut, if_neg (by simp; omega)]
    simp only [hl, when_false]
    rfl
  · change Host.Outcome.next _ = _
    rw [access_allow _ hr, digRptrWrite_eq hv]
    exact congrArg Host.Outcome.next (if_neg (Nat.not_lt.mpr hle))
  · change Host.Outcome.next _ = _
    rw [access_allow _ hr, digRptrWrite_eq hv]
    exact congrArg Host.Outcome.next (if_pos hlt)
  · change Host.Outcome.next _ = _
    rw [accessCrOnly_allow _ hm hr]

/-! ### Routes and pending words (R71, R74, R124) -/

/-- A pair in STANDBY may write no register of the event fabric (R124). -/
theorem right_standby_ne_allow {s : State} {m : Master} {p : PairId} {a : Nat} {d : Domain} (hp : masterPair? m = some p)
    (hst : s.pairState p = pairStandby) : s.right m a d ≠ .allow := by
  have hof : s.pairRightOf p (windowOf a) d ≠ .allow := by
    unfold pairRightOf
    split
    · decide
    · rw [hst]; exact fun h => by simp [pairRight] at h
  cases m <;> simp only [masterPair?, reduceCtorEq, Option.some.injEq] at hp
  · subst hp; exact hof
  · subst hp; exact hof

/-- A write of ones to a pending word that the rights allow. -/
theorem exec_evfPendClear_allow {s : State} {m : Master} {t w ones : Nat} (ht : t ≤ 5) (hw : w ≤ 5)
    (hr : s.right m (0x400B0300 + 0x18 * t + 4 * w) .cr = .allow) :
    exec (.evfPendClear m t w ones) s = .next (s.acked.evfPendClear t w ones) := by
  change Host.Outcome.next (if 5 < t || 5 < w then s else match masterPair? m with | some p => _ | none => _) = _
  rw [if_neg (by simp; omega)]
  split
  next p hp =>
    have hst : s.pairState p ≠ pairStandby := fun h => right_standby_ne_allow hp h hr
    rw [if_neg (by simp [hst]), access_allow _ hr]
  next => rw [access_allow _ hr]

/-- Settles O3: each command by its operation on the acknowledged state. -/
theorem eventFabricCommandsAct : Obligations.EventFabricCommandsAct := by
  refine ⟨fun s m n v hn hr hl => ?_, fun s m n v hn hr hl => ?_, fun s m t w ones ht hw hr => ?_,
    fun s m p w ones hw hp hst => ?_, fun s m hr => ?_⟩
  · change Host.Outcome.next _ = _
    rw [if_pos hn, access_allow _ hr]
    exact congrArg Host.Outcome.next (if_neg (ne_true_of_eq_false hl))
  · change Host.Outcome.next _ = _
    rw [if_pos hn, access_allow _ hr]
    exact congrArg Host.Outcome.next (if_pos hl)
  · exact exec_evfPendClear_allow ht hw hr
  · change Host.Outcome.next (if 5 < 0 || 5 < w then s else match masterPair? m with | some p => _ | none => _) = _
    rw [if_neg (by simp; omega), hp]
    exact congrArg Host.Outcome.next (if_pos (by simp [hst]))
  · change Host.Outcome.next _ = _
    rw [access_allow _ hr]

/-! ### Bits of a field -/

theorem hasBit_eq_testBit (x n : Nat) : hasBit x n = x.testBit n := by
  rw [hasBit, bitOf, Nat.testBit_eq_decide_div_mod_eq]
  rfl

/-- The bits of a number but bit `n` are those of its part below `2 ^ n` and of the half of its part above. -/
theorem testBit_eq_of_half {n a a' b i : Nat} (hb : b < 2 ^ n) (h : a / 2 = a' / 2) (hi : i ≠ n) :
    (2 ^ n * a + b).testBit i = (2 ^ n * a' + b).testBit i := by
  rw [Nat.testBit_two_pow_mul_add _ hb, Nat.testBit_two_pow_mul_add _ hb]
  split
  · rfl
  · obtain ⟨d, hd⟩ : ∃ d, i - n = d + 1 := ⟨i - n - 1, by omega⟩
    rw [hd, Nat.testBit_succ, Nat.testBit_succ, h]

/-- Bit `n` is the parity of the part from `2 ^ n` on. -/
theorem testBit_of_parts {n a b : Nat} (hb : b < 2 ^ n) : (2 ^ n * a + b).testBit n = decide (a % 2 = 1) := by
  rw [Nat.testBit_two_pow_mul_add _ hb, if_neg (Nat.lt_irrefl n), Nat.sub_self, Nat.testBit_zero]

/-- Setting a bit leaves the other bits. -/
theorem hasBit_setBit_ne (x : Nat) {n i : Nat} (hi : i ≠ n) : hasBit (setBit x n) i = hasBit x i := by
  unfold setBit
  split
  · rfl
  next hn =>
    have hpar : x / 2 ^ n % 2 ≠ 1 := fun h => hn (by rw [hasBit, bitOf, h]; rfl)
    have hsum : x + 2 ^ n = 2 ^ n * (x / 2 ^ n + 1) + x % 2 ^ n := by
      have := Nat.div_add_mod x (2 ^ n)
      rw [Nat.mul_succ]
      omega
    have hhalf : (x / 2 ^ n + 1) / 2 = x / 2 ^ n / 2 := by generalize x / 2 ^ n = q at hpar ⊢; omega
    rw [hasBit_eq_testBit, hasBit_eq_testBit, hsum, testBit_eq_of_half (Nat.mod_lt _ (Nat.two_pow_pos n)) hhalf hi, Nat.div_add_mod]

/-- Setting a bit leaves every bit that is set. -/
theorem hasBit_setBit_of_hasBit {x : Nat} (n : Nat) {i : Nat} (h : hasBit x i = true) : hasBit (setBit x n) i = true := by
  rcases eq_or_ne i n with rfl | hi
  · exact hasBit_setBit_same x i
  · rw [hasBit_setBit_ne x hi, h]

/-- A bit that is set is the odd part from `2 ^ n` on; without it the number is that part made even. -/
theorem clearBit_eq {x n : Nat} (h : hasBit x n = true) : clearBit x n = 2 ^ n * (x / 2 ^ n - 1) + x % 2 ^ n := by
  have hpar : x / 2 ^ n % 2 = 1 := by simpa [hasBit, bitOf] using h
  obtain ⟨q, hq⟩ : ∃ q, x / 2 ^ n = q + 1 := Nat.exists_eq_succ_of_ne_zero fun h0 => by rw [h0] at hpar; omega
  have hsum := Nat.div_add_mod x (2 ^ n)
  rw [hq, Nat.mul_succ] at hsum
  rw [clearBit, if_pos h, hq, Nat.add_sub_cancel]
  omega

/-- A bit that has been cleared is clear. -/
theorem hasBit_clearBit_same (x n : Nat) : hasBit (clearBit x n) n = false := by
  rcases Bool.eq_false_or_eq_true (hasBit x n) with h | h
  · have hpar : x / 2 ^ n % 2 = 1 := by simpa [hasBit, bitOf] using h
    rw [clearBit_eq h, hasBit_eq_testBit, testBit_of_parts (Nat.mod_lt _ (Nat.two_pow_pos n))]
    exact decide_eq_false (by omega)
  · rw [clearBit, if_neg (ne_true_of_eq_false h), h]

/-- Clearing a bit leaves the other bits. -/
theorem hasBit_clearBit_ne (x : Nat) {n i : Nat} (hi : i ≠ n) : hasBit (clearBit x n) i = hasBit x i := by
  rcases Bool.eq_false_or_eq_true (hasBit x n) with h | h
  · have hpar : x / 2 ^ n % 2 = 1 := by simpa [hasBit, bitOf] using h
    have hhalf : (x / 2 ^ n - 1) / 2 = x / 2 ^ n / 2 := by generalize x / 2 ^ n = q at hpar ⊢; omega
    rw [clearBit_eq h, hasBit_eq_testBit, hasBit_eq_testBit, testBit_eq_of_half (Nat.mod_lt _ (Nat.two_pow_pos n)) hhalf hi,
      Nat.div_add_mod]
  · rw [clearBit, if_neg (ne_true_of_eq_false h)]

/-! ### What an event leaves pending (R71) -/

/-- The words of the targets 0 to 5 lie in places of their own. -/
theorem evfPend_key_ne {g w t v : Nat} (hw : w < 6) (hv : v < 6) (h : ¬ (g = t ∧ w = v)) :
    (Reg.EVF_PEND_PEND g w).key ≠ (Reg.EVF_PEND_PEND t v).key := by
  simp only [Fld.key]; omega

/-- A delivery leaves every bit that is pending at any target (R71). -/
theorem pendingAt_deliver_of_pendingAt {s : State} {ev t g e : Nat} (hs : s.regsOk) (hev : ev < 192) (hg : g < 6) (he : e < 192)
    (hp : s.pendingAt g e = true) : (s.deliver ev t).pendingAt g e = true := by
  have hw : e / 32 < 6 := by omega
  have hv : ev / 32 < 6 := by omega
  have h32 : e % 32 < 32 := Nat.mod_lt _ (by decide)
  unfold pendingAt at *
  simp only [deliver]
  split
  · rw [incSat_eq, rd_wr_ne _ _ (by simp only [Fld.key]; omega)]
    exact hp
  · rw [setB_eq]
    by_cases hsame : g = t ∧ e / 32 = ev / 32
    · obtain ⟨rfl, hword⟩ := hsame
      rw [← hword, rd_wr_same _ _ _ hs, hasBit_mod (w := 32) h32]
      exact hasBit_setBit_of_hasBit _ hp
    · rw [rd_wr_ne _ _ (evfPend_key_ne hw hv hsame)]
      exact hp

/-- An event leaves every bit that is pending at any target (R71). -/
theorem pendingAt_raise_of_pendingAt {s : State} {ev g e : Nat} (hs : s.regsOk) (hev : ev < 192) (hg : g < 6) (he : e < 192)
    (hp : s.pendingAt g e = true) : (s.raise ev).pendingAt g e = true := by
  have deliveries : ∀ (l : List Nat) (s : State), s.regsOk → s.pendingAt g e = true →
      (s.forEach l (fun s i => s.deliver ev i)).pendingAt g e = true := by
    intro l
    induction l with
    | nil => exact fun s _ h => h
    | cons a l ih =>
      exact fun s hs h => ih _ (regsOk_deliver ev a hs) (pendingAt_deliver_of_pendingAt hs hev hg he h)
  have := deliveries (bitsOf 6 (s.eventTargets ev)) s hs hp
  unfold pendingAt at *
  rwa [rd_eq, raise_regs, ← rd_eq]

/-- SC is a target of EV152 to EV167 whatever the route holds (R71). -/
theorem hasBit_eventTargets_sc (s : State) {ev : Nat} (hlo : 152 ≤ ev) (hhi : ev ≤ 167) : hasBit (s.eventTargets ev) 2 = true := by
  simp only [eventTargets, hlo, hhi, decide_true, Bool.and_self, if_true]
  exact hasBit_setBit_same _ 2

/-- An event touches no memory. -/
theorem memsSame_raise (s : State) (ev : Nat) : s.memsSame (s.raise ev) :=
  ⟨raise_sram s ev, raise_capture s ev, raise_tcmA s ev, raise_tcmB s ev, raise_mcMem s ev, raise_scMem s ev⟩

/-- Settles O4: the deliveries of an event set its bit at each target and clear none. -/
theorem eventIsPendingAtEveryTarget : Obligations.EventIsPendingAtEveryTarget := by
  intro s ev hs hev
  have hraised := raisedIn_raise s ev hs hev
  exact ⟨hraised, fun hlo hhi => hraised 2 (by decide) (hasBit_eventTargets_sc s hlo hhi),
    fun g e hg he hp => pendingAt_raise_of_pendingAt hs hev hg he hp, fun f _ hf => rd_raise s ev hev f hf,
    memsSame_raise s ev, regsOk_raise ev hs⟩

/-! ### The state at reset -/

/-- Settles O53: each memory and list at reset is empty, or has the length of its units. -/
theorem resetIsCanonical : Obligations.ResetIsCanonical :=
  ⟨⟨rfl, rfl, rfl, rfl, rfl, rfl, rfl⟩, ⟨rfl, rfl, rfl, rfl, rfl, rfl, rfl, rfl, rfl, rfl, rfl, rfl, rfl, rfl⟩⟩

end Sys2Proof.Machine
end

section
/-! SUPPORT. A bus write of a register and the application of a submission (R46 to R55): what a direct write does to the fields of its
register, which writes are refused, and what a submission of one entry does. -/

set_option Elab.async false

open Sys2Proof.Machine.State

namespace Sys2Proof.Machine

/-! ### Fields under a direct write (R8, R9) -/

theorem wrOnce_rd_ne (s : State) {f g : Fld} (v : Nat) (h : f.key ≠ g.key) : (s.wrOnce g v).rd f = s.rd f := by
  unfold wrOnce
  split
  · rfl
  · exact rd_wr_ne s v h

/-- A write of one field leaves the fields of other keys. -/
theorem putField_rd_ne (s : State) (v m : Nat) (r : FieldRow) {f : Fld} (h : f.key ≠ r.fld.key) : (s.putField v m r).rd f = s.rd f := by
  unfold putField
  split
  · rfl
  · split
    · exact rd_wr_ne s _ h
    · exact rd_wr_ne s _ h
    · exact wrOnce_rd_ne s _ h
    · split
      · exact rd_wr_ne s _ h
      · rfl
    · rfl
    · rfl

/-- A write of one field touches the register list and the list of fields that open once. -/
theorem putField_eq (s : State) (v m : Nat) (r : FieldRow) :
    s.putField v m r = { s with regs := (s.putField v m r).regs, rw1 := (s.putField v m r).rw1 } := by
  simp only [putField]
  split
  · rfl
  · split
    · rfl
    · rfl
    · unfold wrOnce; split <;> rfl
    · split <;> rfl
    · rfl
    · rfl

/-- A write of a register whose fields are `fs`. -/
theorem plain_of_fields {s : State} {a : Nat} {fs : List FieldRow} (v m : Nat) (h : regFields? a = some fs) :
    s.plain a v m = s.forEach fs fun s r => s.putField v m r := by
  unfold plain; rw [h]

/-- A write of a register leaves the fields of other registers. -/
theorem plain_rd_ne {s : State} {a : Nat} {fs : List FieldRow} (v m : Nat) {f : Fld} (hf : regFields? a = some fs)
    (h : ∀ r ∈ fs, f.key ≠ r.fld.key) : (s.plain a v m).rd f = s.rd f := by
  rw [plain_of_fields v m hf]
  exact forEach_keeps_mem (State.rd · f) fs (fun s r hr => putField_rd_ne s v m r (h r hr)) s

/-- A write of a register touches the register list and the list of fields that open once. -/
theorem plain_eq (s : State) (a v m : Nat) : s.plain a v m = { s with regs := (s.plain a v m).regs, rw1 := (s.plain a v m).rw1 } := by
  have fields : ∀ (fs : List FieldRow) (u : State), u = { s with regs := u.regs, rw1 := u.rw1 } →
      u.forEach fs (fun s r => s.putField v m r) = { s with regs := (u.forEach fs fun s r => s.putField v m r).regs,
                                                            rw1 := (u.forEach fs fun s r => s.putField v m r).rw1 } := by
    intro fs
    induction fs with
    | nil => exact fun u hu => hu
    | cons r fs ih => exact fun u hu => ih _ ((putField_eq u v m r).trans (by rw [hu]))
  unfold plain
  split
  · exact fields _ s rfl
  · rfl

/-- The register list keeps rising under a write of a register. -/
theorem regsOk_plain {s : State} (a v m : Nat) (h : s.regsOk) : (s.plain a v m).regsOk := by
  have field : ∀ (s : State) (r : FieldRow), s.regsOk → (s.putField v m r).regsOk := by
    intro s r hs
    unfold putField
    split
    · exact hs
    · split
      · exact keysRise_wr s _ _ hs
      · exact keysRise_wr s _ _ hs
      · unfold wrOnce
        split
        · exact hs
        · exact keysRise_wr s _ _ hs
      · split
        · exact keysRise_wr s _ _ hs
        · exact hs
      · exact hs
      · exact hs
  have fields : ∀ (fs : List FieldRow) (s : State), s.regsOk → (s.forEach fs fun s r => s.putField v m r).regsOk := by
    intro fs
    induction fs with
    | nil => exact fun s hs => hs
    | cons r fs ih => exact fun s hs => ih _ (field s r hs)
  unfold plain
  split
  · exact fields _ s h
  · exact h

/-- A write that selects every bit of a field replaces it. -/
theorem mixBits_all (w old v : Nat) : mixBits w old v (2 ^ w - 1) = v % 2 ^ w := by
  have hlt : 2 ^ w - 1 < 2 ^ w := Nat.sub_lt (Nat.two_pow_pos w) Nat.one_pos
  rw [mixBits, andNot, Nat.mod_eq_of_lt hlt, Nat.sub_self, Nat.and_zero, Nat.zero_or, Nat.and_two_pow_sub_one_eq_mod, Nat.mod_mod]

/-- The bits that an and-not leaves. -/
theorem hasBit_andNot {w n : Nat} (x m : Nat) (h : n < w) : hasBit (andNot w x m) n = (hasBit x n && !hasBit m n) := by
  have hm : m % 2 ^ w < 2 ^ w := Nat.mod_lt _ (Nat.two_pow_pos w)
  have hsub : 2 ^ w - 1 - m % 2 ^ w = 2 ^ w - (m % 2 ^ w + 1) := by omega
  rw [andNot, hasBit_eq_testBit, Nat.testBit_and, hsub, Nat.testBit_two_pow_sub_succ hm, Nat.testBit_mod_two_pow, hasBit_eq_testBit,
    hasBit_eq_testBit]
  simp [h]

/-! ### The ways of a bus write (R7, R46, R69) -/

/-- A write on the bus that leaves no reset due is all that its command does. -/
theorem exec_registerWrite_eq {s t : State} {m : Master} {a size v : Nat} (hw : s.busWrite m a size v = t) (ht : t.clk.rstDue = none) :
    exec (.registerWrite m a size v) s = .next t := by
  change Host.Outcome.next (rstCarry _) = _
  rw [hw, rstCarry, ht]

/-- An access of another size, misaligned or outside the windows is a bus error (R7). -/
theorem busWrite_malformed {s : State} {m : Master} {a size v : Nat} (h : size ≠ 4 ∨ a % 4 ≠ 0 ∨ windowOf a = .outside) :
    s.busWrite m a size v = { s with bus := .error } := by
  unfold busWrite
  rw [if_pos (by simpa [or_assoc] using h)]

/-- A write to a block outside the crossings and Umbra, to a register that is no active table word and not SC's own. -/
theorem busWrite_block {s : State} {m : Master} {a v : Nat} (h4 : a % 4 = 0) (ho : windowOf a ≠ .outside) (hu : windowOf a ≠ .umbra)
    (hc : windowOf a ≠ .crossing) (hslot : slotActAt a = false) (hsc : scOnly a = false) (hst : s.standbyPendAt? m a = none)
    (hm : m = .sc → a ≠ 0x40090940) :
    s.busWrite m a 4 v = s.access m a (if windowOf a == .data then .dr else .cr) fun s => s.regWrite m a (v % 2 ^ 32) 0xFFFFFFFF := by
  have hm' : (m = .sc && (false || a == 0x40090940)) = false := by simpa using hm
  unfold busWrite
  rw [if_neg (by simp [h4, ho]), hst]
  simp only [hslot, hsc, hm', Bool.false_eq_true, if_false]
  rw [if_neg (by simpa using hu), if_neg (by simpa using hc)]

/-- The data region writes no register of a block (R46). -/
theorem busWrite_dataRegion {s : State} {a v : Nat} (h4 : a % 4 = 0) (ho : windowOf a ≠ .outside) (hu : windowOf a ≠ .umbra)
    (hc : windowOf a ≠ .crossing) : s.busWrite .dataRegion a 4 v = { s with bus := .error } := by
  have hright (d : Domain) : s.right .dataRegion a d = .error := rfl
  have hst : s.standbyPendAt? .dataRegion a = none := rfl
  unfold busWrite
  rw [if_neg (by simp [h4, ho]), hst]
  simp only []
  rw [if_neg (by simpa using hu), if_neg (by simpa using hc), hright]
  split
  · exact access_error _ (hright _)
  · rw [if_neg (by simp)]
    split
    · exact access_error _ (hright _)
    · exact access_error _ (hright _)

/-- A write to the block of clocks and power (R69). -/
theorem regWrite_clock {s : State} {who : Master} {a v m : Nat} (h : a / 0x10000 = 0x400D) : s.regWrite who a v m = s.clkWrite a v m := by
  simp only [regWrite, h]

/-- The registers of clocks and power at these places, and the reserved offset 0x050, do nothing beside taking the write (R496). -/
theorem clkWrite_eq_plain {s : State} {a v m : Nat} (h : a ∈ [0x400D0010, 0x400D0030, 0x400D0050, 0x400D0060]) :
    s.clkWrite a v m = s.plain a v m := by
  simp only [List.mem_cons, List.not_mem_nil, or_false] at h
  rcases h with rfl | rfl | rfl | rfl
  · simp [clkWrite]
  · simp [clkWrite]
  · simp [clkWrite]
  · simp [clkWrite]

/-- MC writes a register of clocks and power. -/
theorem busWrite_mc_clock {s : State} {a v : Nat} (hlo : 0x400D0000 ≤ a) (hhi : a < 0x400E0000) (h4 : a % 4 = 0) :
    s.busWrite .mc a 4 v = s.acked.clkWrite a (v % 2 ^ 32) 0xFFFFFFFF := by
  have hblock : a / 0x10000 = 0x400D := by omega
  have hw : windowOf a = .management := by
    have : fieldOf a 16 4 = 13 := by simp only [fieldOf]; omega
    unfold windowOf
    rw [if_neg (by simp; omega)]
    simp only [this]
    rfl
  rw [busWrite_block (m := .mc) h4 (by simp [hw]) (by simp [hw]) (by simp [hw]) (by simp [slotActAt]; omega)
    (by simp [scOnly]; omega) rfl (by simp)]
  have hr : s.right .mc a (if windowOf a == .data then .dr else .cr) = .allow := by simp [right, mcRight, hw]
  rw [access_allow _ hr, regWrite_clock hblock]

/-- A register of PWM, the drive interface, the converters or the comparators lies in the control plane. -/
theorem windowOf_control {a : Nat} (hlo : 0x40010000 ≤ a) (hhi : a < 0x40050000) : windowOf a = .control := by
  have hf : fieldOf a 16 4 = a / 65536 % 16 := rfl
  unfold windowOf
  rw [if_neg (by simp; omega)]
  simp only [hf]
  rw [if_neg (by simp; omega), if_neg (by simp; omega), if_neg (by omega), if_neg (by omega), if_neg (by omega)]

/-- A write of pair A to a register of PWM, the drive interface, the converters or the comparators. -/
theorem busWrite_pairA_control {s : State} {a v : Nat} (h4 : a % 4 = 0) (hlo : 0x40010000 ≤ a) (hhi : a < 0x40050000) :
    s.busWrite .pairA a 4 v = s.access .pairA a .cr fun s => s.regWrite .pairA a (v % 2 ^ 32) 0xFFFFFFFF := by
  have hw := windowOf_control hlo hhi
  have hst : s.standbyPendAt? .pairA a = none := by
    simp only [standbyPendAt?, masterPair?]
    rw [if_neg (by simp; omega)]
  rw [busWrite_block h4 (by simp [hw]) (by simp [hw]) (by simp [hw]) (by simp [slotActAt]; omega) (by simp [scOnly]; omega) hst (by simp), hw]
  rfl

/-- A saturating counter that counts stays within its width. -/
theorem rd_incSat_same {s : State} (f : Fld) (h : s.regsOk) : (s.incSat f).rd f = satInc (2 ^ f.width - 1) (s.rd f) := by
  have hpos := Nat.two_pow_pos f.width
  rw [incSat_eq, rd_wr_same _ _ _ h, Nat.mod_eq_of_lt]
  unfold satInc
  split <;> omega

theorem memsSame_refl (s : State) : s.memsSame s := ⟨rfl, rfl, rfl, rfl, rfl, rfl⟩

/-- A field of type RW takes a write of MC (R9). -/
theorem busWrite_mc_wakeSec (s : State) (v : Nat) :
    s.busWrite .mc 0x400D0010 4 v = s.acked.wr Reg.PWR_WAKE_SEC_SEC (v % 2 ^ 32) := by
  have hrow : regFields? 0x400D0010 = some [⟨Reg.PWR_WAKE_SEC_SEC, .rw, .mr⟩] := rfl
  have hmix : s.acked.mixed Reg.PWR_WAKE_SEC_SEC (v % 2 ^ 32) 0xFFFFFFFF = v % 2 ^ 32 := by
    have := mixBits_all 32 (s.acked.rd Reg.PWR_WAKE_SEC_SEC) (v % 2 ^ 32)
    simpa [mixed, fieldOf] using this
  rw [busWrite_mc_clock (by decide) (by decide) (by decide), clkWrite_eq_plain (by decide), plain_of_fields _ _ hrow]
  change s.acked.wr Reg.PWR_WAKE_SEC_SEC (s.acked.mixed Reg.PWR_WAKE_SEC_SEC (v % 2 ^ 32) 0xFFFFFFFF) = _
  rw [hmix]

/-- A field of type W1C loses the bits that MC writes as ones (R9). -/
theorem busWrite_mc_rstCause (s : State) (v : Nat) :
    s.busWrite .mc 0x400D0030 4 v =
      s.acked.wr Reg.RST_CAUSE_CAUSE (andNot 7 (s.rd Reg.RST_CAUSE_CAUSE) (fieldOf (v % 2 ^ 32 &&& 0xFFFFFFFF) 0 7)) := by
  have hrow : regFields? 0x400D0030 = some [⟨Reg.RST_CAUSE_CAUSE, .w1c, .po⟩] := rfl
  rw [busWrite_mc_clock (by decide) (by decide) (by decide), clkWrite_eq_plain (by decide), plain_of_fields _ _ hrow]
  rfl

/-- Fields of type RO and a reserved offset ignore a write of MC (R8, R9). -/
theorem busWrite_mc_readOnly (s : State) (v : Nat) :
    s.busWrite .mc 0x400D0060 4 v = s.acked ∧ s.busWrite .mc 0x400D0050 4 v = s.acked := by
  have hro : regFields? 0x400D0060 = some [⟨Reg.CLK_STATUS_LOCK, .ro, .mr⟩, ⟨Reg.CLK_STATUS_REF_OK, .ro, .mr⟩] := rfl
  have hres : regFields? 0x400D0050 = none := rfl
  constructor
  · rw [busWrite_mc_clock (by decide) (by decide) (by decide), clkWrite_eq_plain (by decide), plain_of_fields _ _ hro]
    rfl
  · rw [busWrite_mc_clock (by decide) (by decide) (by decide), clkWrite_eq_plain (by decide), plain, hres]

/-- Settles O36: each write by the way that it takes on the bus. -/
theorem registerWritesFollowTheirFields : Obligations.RegisterWritesFollowTheirFields := by
  refine ⟨fun s m a size v hrst hbad => ?_, fun s v hrst => ?_, fun s v hs hrst => ?_, fun s v hrst => ⟨?_, ?_⟩,
    fun s a v hrst h4 ho hc hu => ?_, fun s v hrst => ?_, fun s a v hs hrst h4 hlo hhi hst hfence => ?_,
    fun s a v hs hrst h4 hlo hhi hfence => ?_⟩
  · exact ⟨_, exec_registerWrite_eq (busWrite_malformed hbad) hrst, rfl, rfl, rfl, memsSame_refl s⟩
  · exact ⟨_, exec_registerWrite_eq (busWrite_mc_wakeSec s v) hrst, rfl, rfl, memsSame_refl s⟩
  · refine ⟨_, exec_registerWrite_eq (busWrite_mc_rstCause s v) hrst, rfl, fun n hn => ?_, fun f hf => ?_, memsSame_refl s⟩
    · have hones : fieldOf (v % 2 ^ 32 &&& 0xFFFFFFFF) 0 7 = v % 2 ^ 32 % 2 ^ 7 := by
        have hand := Nat.and_two_pow_sub_one_eq_mod (v % 2 ^ 32) 32
        norm_num at hand
        simp [fieldOf, hand]
      rw [rd_wr_same s.acked _ _ hs, hasBit_mod (w := 7) hn, hasBit_andNot _ _ hn, hones, hasBit_mod hn]
    · exact rd_wr_ne _ _ (hf _ (List.mem_singleton_self _))
  · exact ⟨_, exec_registerWrite_eq (busWrite_mc_readOnly s v).1 hrst, rfl, rfl, memsSame_refl s⟩
  · exact ⟨_, exec_registerWrite_eq (busWrite_mc_readOnly s v).2 hrst, rfl, rfl, memsSame_refl s⟩
  · exact ⟨_, exec_registerWrite_eq (busWrite_dataRegion h4 ho hu hc) hrst, rfl, rfl, memsSame_refl s⟩
  · exact ⟨{ s with bus := .error }, exec_registerWrite_eq rfl hrst, rfl, rfl, memsSame_refl s⟩
  · have hr : s.right .pairA a .cr = .suppress := by
      change s.pairRightOf .a _ _ = _
      rw [pairRightOf, hfence, hst]
      rfl
    have hw : s.busWrite .pairA a 4 v = s.acked.incSat Reg.CP_SUPPRESS_COUNT_COUNT := by
      rw [busWrite_pairA_control h4 hlo hhi, access, hr]
    exact ⟨_, exec_registerWrite_eq hw hrst, rfl, rd_incSat_same _ hs, fun f hf => rd_wr_ne _ _ (hf _ (List.mem_singleton_self _)),
      memsSame_refl s⟩
  · have hr : s.right .pairA a .cr = .fence := by
      change s.pairRightOf .a _ _ = _
      rw [pairRightOf, hfence]
      rfl
    have hw : s.busWrite .pairA a 4 v = State.incSat { s with bus := .none } Reg.CP_FENCE_DROPS_COUNT := by
      rw [busWrite_pairA_control h4 hlo hhi, access, hr]
    exact ⟨_, exec_registerWrite_eq hw hrst, rfl, rd_incSat_same _ hs, fun f hf => rd_wr_ne _ _ (hf _ (List.mem_singleton_self _)),
      memsSame_refl s⟩

end Sys2Proof.Machine
end

section
/-! SUPPORT. The application of a submission of one entry (R50 to R54): the state in which its entry is judged, an entry that loads a
block, one that is rejected, and one for a register that the active pair writes on the same edge. -/

set_option Elab.async false

open Sys2Proof.Machine.State

namespace Sys2Proof.Machine

/-- Memories that are the same twice are the same. -/
theorem State.memsSame.trans {s t u : State} (h : s.memsSame t) (k : t.memsSame u) : s.memsSame u := by
  obtain ⟨h1, h2, h3, h4, h5, h6⟩ := h
  obtain ⟨k1, k2, k3, k4, k5, k6⟩ := k
  exact ⟨k1.trans h1, k2.trans h2, k3.trans h3, k4.trans h4, k5.trans h5, k6.trans h6⟩

/-! ### A submission of one entry (R51) -/

/-- The state in which the entries of a submission are judged: the bank is free, no error is shown. -/
def applyStart (s : State) : State := State.wr { s with cross := { s.cross with sub := none, failedBank := none } } Reg.MBX_RESULT_ERR 0

/-- The end of an application: PEND falls, APPLIED_SEQ moves on, `MBX_APPLIED` is raised. -/
def applyEnd (s : State) : State := ((s.wr Reg.MBX_STATUS_PEND 0).incWrap Reg.MBX_STATUS_APPLIED_SEQ).raise Ev.MBX_APPLIED

theorem applyStart_rd {s : State} {f : Fld} (h : f.key ≠ Reg.MBX_RESULT_ERR.key) : (applyStart s).rd f = s.rd f := rd_wr_ne _ _ h

theorem applyStart_load (s : State) (t : LoadTarget) : (applyStart s).load t = s.load t := by cases t <;> rfl

theorem regsOk_applyStart {s : State} (h : s.regsOk) : (applyStart s).regsOk :=
  keysRise_wr { s with cross := { s.cross with sub := none, failedBank := none } } _ _ h

theorem memsSame_applyStart (s : State) : s.memsSame (applyStart s) := memsSame_refl s

theorem applyEnd_rd {s : State} {f : Fld} (hp : f.key ≠ Reg.MBX_STATUS_PEND.key) (hs : f.key ≠ Reg.MBX_STATUS_APPLIED_SEQ.key)
    (he : ¬ evKey f.key) : (applyEnd s).rd f = s.rd f := by
  rw [applyEnd, rd_raise _ _ (by decide) _ he, incWrap_eq, rd_wr_ne _ _ hs, rd_wr_ne _ _ hp]

theorem applyEnd_cross (s : State) : (applyEnd s).cross = s.cross := raise_cross _ _

theorem applyEnd_pend {s : State} (h : s.regsOk) : (applyEnd s).on Reg.MBX_STATUS_PEND = false := by
  rw [on, applyEnd, rd_raise _ _ (by decide) _ (by decide), incWrap_eq, rd_wr_ne _ _ (by decide), rd_wr_same _ _ _ h]
  rfl

theorem regsOk_applyEnd {s : State} (h : s.regsOk) : (applyEnd s).regsOk :=
  regsOk_raise _ (keysRise_wr _ _ _ (keysRise_wr _ _ _ h))

theorem memsSame_applyEnd (s : State) : s.memsSame (applyEnd s) := memsSame_raise ((s.wr Reg.MBX_STATUS_PEND 0).incWrap _) _

/-- The end of an application leaves `MBX_APPLIED` pending at the targets of its route. -/
theorem raisedIn_applyEnd {s u : State} (h : u.regsOk)
    (hr : u.rd (Reg.EVF_ROUTE_TARGET Ev.MBX_APPLIED) = s.rd (Reg.EVF_ROUTE_TARGET Ev.MBX_APPLIED)) :
    s.raisedIn (applyEnd u) Ev.MBX_APPLIED := by
  refine raisedIn_next (keysRise_wr _ _ _ (keysRise_wr _ _ _ h)) (by decide) ?_ fun _ _ => rfl
  rw [rd_wr_ne _ _ (by decide), rd_wr_ne _ _ (by decide), hr]

/-- A due submission of one entry that takes effect. -/
theorem subApply_of_taken {s u : State} {e : MbxEntry} (hs : s.cross.sub = some ⟨[e], 0⟩)
    (he : (applyStart s).entryApply? 0 e = some u) :
    s.subApply = applyEnd u := by
  have hes : (applyStart s).entriesApply [e] = u := by
    change (match (applyStart s).entryApply? 0 e with | some s => s | none => (applyStart s).entryReject 0 e) = u
    rw [he]
  rw [subApply, hs]
  exact congrArg applyEnd hes

/-- A due submission of one entry that is rejected. -/
theorem subApply_of_rejected {s : State} {e : MbxEntry} (hs : s.cross.sub = some ⟨[e], 0⟩)
    (he : (applyStart s).entryApply? 0 e = none) :
    s.subApply = applyEnd ((applyStart s).entryReject 0 e) := by
  have hes : (applyStart s).entriesApply [e] = (applyStart s).entryReject 0 e := by
    change (match (applyStart s).entryApply? 0 e with | some s => s | none => (applyStart s).entryReject 0 e) = _
    rw [he]
  rw [subApply, hs]
  exact congrArg applyEnd hes

/-- No data-port entry waits. -/
theorem dataPortApply_of_nil {s : State} (h : s.cross.dataPort = []) : s.dataPortApply = s := by
  have hs : ({ s with cross := { s.cross with dataPort := s.cross.dataPort.filter (fun e => e.due != 0) } } : State) = s := by
    rw [h, List.filter_nil, ← h]
  rw [dataPortApply, hs, h]
  rfl

/-- MC holds no entry back. -/
theorem mcRefill_of_nil {s : State} (h : s.cross.mcQueue = []) : s.mcRefill = s := by
  rw [mcRefill, h]
  rfl

/-- An application on whose edge the active pair writes nothing, with no data-port entry and none held back. -/
theorem exec_mbxApply_none {s : State} (hd : s.subApply.cross.dataPort = []) (hq : s.subApply.cross.mcQueue = []) :
    exec (.mbxApply none) s = .next s.subApply := by
  change Host.Outcome.next (s.subApply.dataPortApply.mcRefill) = _
  rw [dataPortApply_of_nil hd, mcRefill_of_nil hq]

/-! ### Loads (R50, R52) -/

/-- Starting a load replaces the load of its block and shows it. -/
theorem loadShow_cross (s : State) (t : LoadTarget) (b : Bool) : (s.loadShow t b).cross = s.cross := by cases t <;> rfl

theorem memsSame_loadShow (s : State) (t : LoadTarget) (b : Bool) : s.memsSame (s.loadShow t b) := by
  cases t <;> exact memsSame_refl s

theorem regsOk_loadShow {s : State} (t : LoadTarget) (b : Bool) (h : s.regsOk) : (s.loadShow t b).regsOk := by
  cases t
  case sweep => exact h
  all_goals exact keysRise_wr s _ _ h

/-- A load shows in a register of its block and in no register of the crossings and of the event fabric. -/
theorem loadShow_rd {s : State} (t : LoadTarget) (b : Bool) {f : Fld} (h : 0x400B0000 * 32 ≤ f.key) : (s.loadShow t b).rd f = s.rd f := by
  cases t
  case sweep => rfl
  all_goals exact rd_wr_ne _ _ (by simp only [Fld.key] at *; omega)

/-- The loads stand in the crossings' part of the state. -/
theorem load_of_cross {s t : State} (h : t.cross = s.cross) (o : LoadTarget) : t.load o = s.load o := by
  cases o <;> simp only [load, h]

theorem setLoad_load_same (s : State) (t : LoadTarget) (p : LoadPhase) : (s.setLoad t p).load t = p := by cases t <;> rfl

theorem setLoad_load_ne (s : State) {t o : LoadTarget} (p : LoadPhase) (h : o ≠ t) : (s.setLoad t p).load o = s.load o := by
  cases t <;> cases o <;> simp_all [load, setLoad]

/-- The numbers of R50 name the five blocks. -/
theorem ofDest?_eq {d : Nat} {t : LoadTarget}
    (h : (d, t) ∈ [(1, LoadTarget.le0), (2, .le1), (3, .orbit), (4, .profile), (5, .sweep)]) : LoadTarget.ofDest? d = some t := by
  simp only [List.mem_cons, List.not_mem_nil, or_false, Prod.mk.injEq] at h
  rcases h with ⟨rfl, rfl⟩ | ⟨rfl, rfl⟩ | ⟨rfl, rfl⟩ | ⟨rfl, rfl⟩ | ⟨rfl, rfl⟩ <;> rfl

/-- Any other number names none. -/
theorem ofDest?_eq_none {d : Nat} (h : d = 0 ∨ 5 < d) : LoadTarget.ofDest? d = none := by
  unfold LoadTarget.ofDest?
  split
  case h_6 => rfl
  all_goals omega

/-- A load entry by the destination that its first word names. -/
theorem entryApply?_load (s : State) (i d addr len c : Nat) (hd : d < 65536) :
    s.entryApply? i ⟨3 + 2 ^ 16 * d, addr, len, c⟩ =
      (LoadTarget.ofDest? d).bind fun t => s.loadStart? t addr len c i ((s.rd Reg.MBX_STATUS_APPLIED_SEQ + 1) % 256) := by
  have hkind : fieldOf (3 + 2 ^ 16 * d) 0 8 = 3 := by simp only [fieldOf]; omega
  have hdest : fieldOf (3 + 2 ^ 16 * d) 16 16 = d := by simp only [fieldOf]; omega
  simp only [entryApply?, hkind, hdest]
  split
  next h => rw [h]; rfl
  next t h =>
    rw [h]
    simp only [Option.bind_some]
    split
    next h => exact h.symm
    next h => exact h.symm

/-- A block is as busy where the entries are judged as before. -/
theorem loadBusy_applyStart (s : State) (t : LoadTarget) : (applyStart s).loadBusy t = s.loadBusy t := by
  have hrd (f : Fld) (h : f.key ≠ Reg.MBX_RESULT_ERR.key) : (applyStart s).on f = s.on f := congrArg (· == 1) (applyStart_rd h)
  unfold loadBusy
  rw [applyStart_load]
  cases t
  case le0 => simp only [hrd (Reg.LE_STATUS_LOAD_BUSY 0) (by decide)]
  case le1 => simp only [hrd (Reg.LE_STATUS_LOAD_BUSY 1) (by decide)]
  case orbit => simp only [swapPend, hrd Reg.ORB_BANK_SWAP_PEND (by decide)]
  case profile => rfl
  case sweep => rfl

/-- A sound entry for a free block starts its copy. -/
theorem loadStart?_eq_some {s : State} {t : LoadTarget} {addr len : Nat} (c i q : Nat) (h1 : 1 ≤ len) (h4 : len % 4 = 0)
    (h32k : len ≤ 32768) (hbuf : bufferOk addr len = true) (hfree : s.loadBusy t = false) (hlen : s.loadLenOk t addr len = true) :
    s.loadStart? t addr len c i q = some ((s.setLoad t (.copying addr len c i q)).loadShow t true) := by
  unfold loadStart?
  rw [if_neg]
  simp [hbuf, hfree, hlen, h4]
  omega

/-- An entry of kind 3 for no block is rejected: its bit is set, and nothing else changes. -/
theorem entryReject_load (s : State) {i d addr len c : Nat} (hd : d ≠ 3) (hlt : d < 65536) :
    s.entryReject i ⟨3 + 2 ^ 16 * d, addr, len, c⟩ = s.setB Reg.MBX_RESULT_ERR i := by
  have hdest : fieldOf (3 + 2 ^ 16 * d) 16 16 = d := by simp only [fieldOf]; omega
  have hne : (d == 3) = false := by simpa using hd
  simp only [entryReject, hdest, hne, Bool.and_false, Bool.false_and, when_false]

/-- The state in which a load entry has started its copy. -/
def loadStarted (s : State) (t : LoadTarget) (p : LoadPhase) : State := ((applyStart s).setLoad t p).loadShow t true

theorem loadStarted_rd {s : State} {t : LoadTarget} {p : LoadPhase} {f : Fld} (h : 0x400B0000 * 32 ≤ f.key) :
    (loadStarted s t p).rd f = (applyStart s).rd f := loadShow_rd t true h

theorem loadStarted_load_same (s : State) (t : LoadTarget) (p : LoadPhase) : (loadStarted s t p).load t = p :=
  (load_of_cross (loadShow_cross _ t true) t).trans (setLoad_load_same _ t p)

theorem loadStarted_load_ne (s : State) {t o : LoadTarget} (p : LoadPhase) (h : o ≠ t) : (loadStarted s t p).load o = s.load o :=
  (load_of_cross (loadShow_cross _ t true) o).trans ((setLoad_load_ne _ p h).trans (applyStart_load s o))

/-- Starting a copy leaves what the data port and MC hold. -/
theorem loadStarted_waiting (s : State) (t : LoadTarget) (p : LoadPhase) :
    (loadStarted s t p).cross.dataPort = s.cross.dataPort ∧ (loadStarted s t p).cross.mcQueue = s.cross.mcQueue := by
  rw [loadStarted, loadShow_cross]
  cases t <;> exact ⟨rfl, rfl⟩

theorem regsOk_loadStarted {s : State} (t : LoadTarget) (p : LoadPhase) (h : s.regsOk) : (loadStarted s t p).regsOk :=
  regsOk_loadShow t true (show ((applyStart s).setLoad t p).regsOk from regsOk_applyStart h)

theorem memsSame_loadStarted (s : State) (t : LoadTarget) (p : LoadPhase) : s.memsSame (loadStarted s t p) :=
  memsSame_loadShow ((applyStart s).setLoad t p) t true

/-- A due submission of one sound entry for a free block starts its copy. -/
theorem subApply_load {s : State} {d addr len c : Nat} {t : LoadTarget} (hd : LoadTarget.ofDest? d = some t) (hlt : d < 65536)
    (hsub : s.cross.sub = some ⟨[⟨3 + 2 ^ 16 * d, addr, len, c⟩], 0⟩) (hfree : s.loadBusy t = false) (h1 : 1 ≤ len)
    (h4 : len % 4 = 0) (h32k : len ≤ 32768) (hbuf : bufferOk addr len = true) (hlen : s.loadLenOk t addr len = true) :
    s.subApply = applyEnd (loadStarted s t (.copying addr len c 0 ((s.rd Reg.MBX_STATUS_APPLIED_SEQ + 1) % 256))) := by
  refine subApply_of_taken hsub ?_
  rw [entryApply?_load _ _ _ _ _ _ hlt, hd, Option.bind_some, applyStart_rd (by decide)]
  exact loadStart?_eq_some c 0 _ h1 h4 h32k hbuf ((loadBusy_applyStart s t).trans hfree) hlen

/-- A due submission of one load entry for no block sets the entry's bit. -/
theorem subApply_noDest {s : State} {d addr len c : Nat} (hd : d = 0 ∨ 5 < d) (hlt : d < 65536)
    (hsub : s.cross.sub = some ⟨[⟨3 + 2 ^ 16 * d, addr, len, c⟩], 0⟩) :
    s.subApply = applyEnd ((applyStart s).setB Reg.MBX_RESULT_ERR 0) := by
  rw [subApply_of_rejected hsub (by rw [entryApply?_load _ _ _ _ _ _ hlt, ofDest?_eq_none hd, Option.bind_none]),
    entryReject_load _ (by omega) hlt]

/-- Settles O48: the entry starts the copy of the block that DEST names, or its bit is set. -/
theorem loadDestinationsAreFive : Obligations.LoadDestinationsAreFive := by
  refine ⟨fun s d addr len c t hs hd hsub hport hq hfree h1 h4 h32k hbuf hlen => ?_, fun s d addr len c hs hd hlt hsub hport hq => ?_⟩
  · have hdest := ofDest?_eq hd
    have hlt : d < 65536 := by
      by_contra hge
      rw [ofDest?_eq_none (.inr (by omega))] at hdest
      exact absurd hdest (by simp)
    have hsa := subApply_load hdest hlt hsub hfree h1 h4 h32k hbuf hlen
    generalize LoadPhase.copying addr len c 0 ((s.rd Reg.MBX_STATUS_APPLIED_SEQ + 1) % 256) = p at hsa ⊢
    obtain ⟨hport', hq'⟩ := loadStarted_waiting s t p
    have hok := regsOk_loadStarted t p hs
    have hcross := applyEnd_cross (loadStarted s t p)
    refine ⟨_, exec_mbxApply_none ?_ ?_, ?_⟩
    · rw [hsa, hcross, hport', hport]
    · rw [hsa, hcross, hq', hq]
    · rw [hsa]
      refine ⟨(load_of_cross hcross t).trans (loadStarted_load_same s t p),
        fun o ho => (load_of_cross hcross o).trans (loadStarted_load_ne s p ho), ?_, applyEnd_pend hok, raisedIn_applyEnd hok ?_, ?_⟩
      · rw [applyEnd_rd (by decide) (by decide) (by decide), loadStarted_rd (by decide)]
        exact rd_wr_same _ _ _ hs
      · rw [loadStarted_rd (by decide), applyStart_rd (by decide)]
      · exact (memsSame_loadStarted s t p).trans (memsSame_applyEnd _)
  · have hsa := subApply_noDest hd hlt hsub
    have hok := regsOk_applyStart hs
    have hcross := applyEnd_cross ((applyStart s).setB Reg.MBX_RESULT_ERR 0)
    refine ⟨_, exec_mbxApply_none (by rw [hsa, hcross]; exact hport) (by rw [hsa, hcross]; exact hq), ?_⟩
    rw [hsa]
    refine ⟨?_, fun o => (load_of_cross hcross o).trans (applyStart_load s o), applyEnd_pend (keysRise_wr _ _ _ hok),
      raisedIn_applyEnd (keysRise_wr _ _ _ hok) ?_, memsSame_applyEnd ((applyStart s).setB _ 0)⟩
    · have hzero : (applyStart s).rd Reg.MBX_RESULT_ERR = 0 := rd_wr_same _ _ _ hs
      rw [applyEnd_rd (by decide) (by decide) (by decide), setB_eq, rd_wr_same _ _ _ hok, hzero]
      rfl
    · rw [setB_eq, rd_wr_ne _ _ (by decide), applyStart_rd (by decide)]

/-! ### The active pair on the edge of an entry (R54) -/

/-- The pair's write follows the entries on an edge where one of them names its register, with CONFLICT set. -/
theorem exec_mbxApply_meets {s : State} {a v : Nat} (h : s.edgeMeets a = true) :
    exec (.mbxApply (some (a, v))) s =
      .next (((s.subApply.dataPortApply.wr Reg.MBX_STATUS_CONFLICT 1).busWrite
        (if (s.subApply.dataPortApply.wr Reg.MBX_STATUS_CONFLICT 1).activePair = .a then .pairA else .pairB) a 4 v).mcRefill) := by
  change Host.Outcome.next (s.mbxApply (some (a, v))) = _
  simp only [mbxApply, Option.any_some, h, when_true]

/-- An accepted entry of a due submission names the register. -/
theorem edgeMeets_of_mem {s : State} {sub : Submission} {e : MbxEntry} {a : Nat} (hsub : s.cross.sub = some sub) (hdue : sub.due = 0)
    (he : e ∈ sub.entries) (hkind : fieldOf e.w0 0 8 = 1) (haddr : e.w1 = a) (hgood : entryWriteBad a e.w3 = false) :
    s.edgeMeets a = true := by
  rw [edgeMeets, hsub]
  simp only [hdue, beq_self_eq_true, Bool.true_and, List.any_eq_true]
  exact ⟨e, he, by simp [hkind, haddr, hgood]⟩

/-- Without a submission no entry meets the pair's write. -/
theorem exec_mbxApply_noSub {s : State} {a v : Nat} (h : s.cross.sub = none) :
    exec (.mbxApply (some (a, v))) s =
      .next ((s.dataPortApply.busWrite (if s.dataPortApply.activePair = .a then .pairA else .pairB) a 4 v).mcRefill) := by
  have hmeets : s.edgeMeets a = false := by rw [edgeMeets, h]
  have hsub : s.subApply = s := by rw [subApply, h]
  change Host.Outcome.next (s.mbxApply (some (a, v))) = _
  simp only [mbxApply, Option.any_some, hmeets, when_false, hsub]

/-- The fields of the route of source 0 (R74). -/
theorem regFields?_route0 : regFields? 0x400B0000 = some [⟨Reg.EVF_ROUTE_TARGET 0, .rw, .cr⟩, ⟨Reg.EVF_ROUTE_PRIO 0, .rw, .cr⟩,
    ⟨Reg.EVF_ROUTE_OTRIG 0, .rw, .cr⟩, ⟨Reg.EVF_ROUTE_LOCK 0, .rw1, .cr⟩] := rfl

/-- A write of the unlocked route of source 0 takes its fields. -/
theorem regWrite_route0 {s : State} {who : Master} {v m : Nat} (h : s.on (Reg.EVF_ROUTE_LOCK 0) = false) :
    s.regWrite who 0x400B0000 v m = s.plain 0x400B0000 v m := by
  change s.evfWrite 0x400B0000 v m = _
  simp [evfWrite, h]

/-- A write that selects the targets of the route alone. -/
theorem plain_route0_targets (s : State) (v : Nat) :
    s.plain 0x400B0000 v 0x3F = s.wr (Reg.EVF_ROUTE_TARGET 0) (s.mixed (Reg.EVF_ROUTE_TARGET 0) v 0x3F) := by
  rw [plain_of_fields v 0x3F regFields?_route0]
  rfl

/-- A direct write of the route gives it the targets of its low six bits. -/
theorem plain_route0_target {s : State} (v : Nat) (h : s.regsOk) :
    (s.plain 0x400B0000 (v % 2 ^ 32) 0xFFFFFFFF).rd (Reg.EVF_ROUTE_TARGET 0) = v % 64 := by
  have hmix : s.mixed (Reg.EVF_ROUTE_TARGET 0) (v % 2 ^ 32) 0xFFFFFFFF = v % 64 := by
    have hfld : fieldOf (v % 2 ^ 32) 0 6 % 2 ^ 6 = v % 64 := by simp only [fieldOf]; omega
    exact (mixBits_all 6 _ _).trans hfld
  rw [plain_of_fields _ _ regFields?_route0]
  simp only [forEach, List.foldl_cons, List.foldl_nil]
  rw [putField_rd_ne _ _ _ _ (by decide), putField_rd_ne _ _ _ _ (by decide), putField_rd_ne _ _ _ _ (by decide)]
  change (s.wr (Reg.EVF_ROUTE_TARGET 0) (s.mixed (Reg.EVF_ROUTE_TARGET 0) (v % 2 ^ 32) 0xFFFFFFFF)).rd _ = _
  rw [hmix, rd_wr_same _ _ _ h]
  exact Nat.mod_eq_of_lt (Nat.mod_lt v (by decide))

/-- The state at the pair's write, after an entry for the targets of source 0: the submission applied, CONFLICT set. -/
def routeApplied (s : State) (v : Nat) : State :=
  (applyEnd ((applyStart s).wr (Reg.EVF_ROUTE_TARGET 0) ((applyStart s).mixed (Reg.EVF_ROUTE_TARGET 0) v 0x3F))).wr
    Reg.MBX_STATUS_CONFLICT 1

/-- A register that the entry, the mailbox and events leave is as it was before the application. -/
theorem routeApplied_rd {s : State} {v : Nat} {f : Fld} (hm : f.key < 0x400C0004 * 32 ∨ 0x400C0010 * 32 ≤ f.key)
    (hr : f.key ≠ (Reg.EVF_ROUTE_TARGET 0).key) (he : ¬ evKey f.key) : (routeApplied s v).rd f = s.rd f := by
  have hne (g : Fld) (hg : 0x400C0004 * 32 ≤ g.key ∧ g.key < 0x400C0010 * 32) : f.key ≠ g.key := by omega
  rw [routeApplied, rd_wr_ne _ _ (hne _ (by decide)), applyEnd_rd (hne _ (by decide)) (hne _ (by decide)) he, rd_wr_ne _ _ hr,
    applyStart_rd (hne _ (by decide))]

theorem regsOk_routeApplied {s : State} (v : Nat) (h : s.regsOk) : (routeApplied s v).regsOk :=
  keysRise_wr _ _ _ (regsOk_applyEnd (keysRise_wr _ _ _ (regsOk_applyStart h)))

/-- What the data port and MC hold waits through the application. -/
theorem routeApplied_waiting (s : State) (v : Nat) :
    (routeApplied s v).cross.dataPort = s.cross.dataPort ∧ (routeApplied s v).cross.mcQueue = s.cross.mcQueue := by
  rw [routeApplied, wr_cross, applyEnd_cross]
  exact ⟨rfl, rfl⟩

/-- A register entry is rejected, or is a write of MC (R51). -/
theorem entryApply?_regWrite (s : State) (i a v m : Nat) :
    s.entryApply? i ⟨1, a, v, m⟩ = if entryWriteBad a m || scOnly a then none else some (s.regWrite .mc a v m) := by
  simp only [entryApply?, show fieldOf 1 0 8 = 1 from rfl]

/-- A due submission whose one entry selects the targets of the unlocked route of source 0. -/
theorem subApply_route0 {s : State} {v : Nat} (hsub : s.cross.sub = some ⟨[⟨1, 0x400B0000, v, 0x3F⟩], 0⟩)
    (hlock : s.on (Reg.EVF_ROUTE_LOCK 0) = false) :
    s.subApply.wr Reg.MBX_STATUS_CONFLICT 1 = routeApplied s v := by
  have hlock' : (applyStart s).on (Reg.EVF_ROUTE_LOCK 0) = false := by rw [on, applyStart_rd (by decide)]; exact hlock
  have hbad : (entryWriteBad 0x400B0000 0x3F || scOnly 0x400B0000) = false := by decide
  have hent : (applyStart s).entryApply? 0 ⟨1, 0x400B0000, v, 0x3F⟩ = some ((applyStart s).plain 0x400B0000 v 0x3F) := by
    rw [entryApply?_regWrite, hbad, if_neg (by decide), regWrite_route0 hlock']
  rw [subApply_of_taken hsub hent, plain_route0_targets, routeApplied]

/-- The active pair A, its fence open, writes the unlocked route of source 0. -/
theorem busWrite_pairA_route0 {s : State} {v : Nat} (hact : s.pairState .a = pairActive) (hfence : s.on (fenceFld .a) = false)
    (hlock : s.on (Reg.EVF_ROUTE_LOCK 0) = false) :
    s.busWrite .pairA 0x400B0000 4 v = s.acked.plain 0x400B0000 (v % 2 ^ 32) 0xFFFFFFFF := by
  have hst : s.standbyPendAt? .pairA 0x400B0000 = none := by
    simp only [standbyPendAt?, masterPair?]
    rw [if_neg (by simp)]
  have hr : s.right .pairA 0x400B0000 .cr = .allow := by
    change s.pairRightOf .a _ _ = _
    rw [pairRightOf, hfence, hact]
    rfl
  rw [busWrite_block (by decide) (by decide) (by decide) (by decide) (by decide) (by decide) hst (by decide)]
  exact (access_allow _ hr).trans (regWrite_route0 hlock)

/-- Settles O49: the entries first, then the pair's write, which leaves the targets that it gives. -/
theorem pairWritePrevailsOnItsEdge : Obligations.PairWritePrevailsOnItsEdge := by
  refine ⟨fun s a v sub e hsub hdue he hkind haddr hgood => exec_mbxApply_meets (edgeMeets_of_mem hsub hdue he hkind haddr hgood),
    fun s v v' hs hsub hport hq hact hpair hfence hlock => ?_, fun s a v hsub => exec_mbxApply_noSub hsub⟩
  have hmeets : s.edgeMeets 0x400B0000 = true := edgeMeets_of_mem hsub rfl (List.mem_singleton_self _)
    (show fieldOf 1 0 8 = 1 by decide) rfl (show entryWriteBad 0x400B0000 0x3F = false by decide)
  have hsame (f : Fld) (hm : f.key < 0x400C0004 * 32 ∨ 0x400C0010 * 32 ≤ f.key) (hr : f.key ≠ (Reg.EVF_ROUTE_TARGET 0).key)
      (he : ¬ evKey f.key) : (routeApplied s v').on f = s.on f := congrArg (· == 1) (routeApplied_rd hm hr he)
  have happ := subApply_route0 hsub hlock
  obtain ⟨hport', hq'⟩ := routeApplied_waiting s v'
  have hsubPort : s.subApply.cross.dataPort = [] := by rw [← wr_cross s.subApply Reg.MBX_STATUS_CONFLICT 1, happ, hport', hport]
  have hpairA : (routeApplied s v').activePair = .a := by
    rw [activePair, hsame _ (by decide) (by decide) (by decide), hact]
    rfl
  have hwrite : (routeApplied s v').busWrite .pairA 0x400B0000 4 v = (routeApplied s v').acked.plain 0x400B0000 (v % 2 ^ 32) 0xFFFFFFFF :=
    busWrite_pairA_route0 ((routeApplied_rd (by decide) (by decide) (by decide)).trans hpair)
      ((hsame _ (by decide) (by decide) (by decide)).trans hfence) ((hsame _ (by decide) (by decide) (by decide)).trans hlock)
  have hnext := exec_mbxApply_meets (v := v) hmeets
  rw [dataPortApply_of_nil hsubPort, happ, hpairA, if_pos rfl, hwrite,
    mcRefill_of_nil (by rw [plain_eq]; exact hq'.trans hq)] at hnext
  refine ⟨_, hnext, ?_, plain_route0_target v (regsOk_routeApplied v' hs)⟩
  rw [on, plain_rd_ne _ _ regFields?_route0 (by decide)]
  change ((routeApplied s v').rd Reg.MBX_STATUS_CONFLICT == 1) = true
  rw [routeApplied, rd_wr_same _ _ _ (regsOk_applyEnd (keysRise_wr _ _ _ (regsOk_applyStart hs)))]
  rfl

end Sys2Proof.Machine
end

section
/-! SUPPORT. The sense link (R66): what the loss of the link leaves and sets on its way through PWM, the drive interface, the safety
channel and the converters, and what a training does. -/

set_option Elab.async false

open Sys2Proof.Machine.State

namespace Sys2Proof.Machine

/-- A law of `Keeps` whose mask holds no memory: no memory changes. -/
theorem Keeps.memsSame {d : Nat} {s t : State} (k : Keeps d s t) (h : ∀ i < 8, 2 ≤ i → ¬ inMask d i) : s.memsSame t :=
  ⟨k.sram (h 2 (by decide) (by decide)), k.capture (h 3 (by decide) (by decide)), k.tcmA (h 4 (by decide) (by decide)),
    k.tcmB (h 5 (by decide) (by decide)), k.mcMem (h 6 (by decide) (by decide)), k.scMem (h 7 (by decide) (by decide))⟩

/-! ### What the operations of a loss keep -/

/-- A field whose set bits no operation of a loss clears: the causes of PWM's safe state (R193) and the pending words of the event
fabric (R74). -/
def Sticky (f : Fld) : Prop := f = Reg.PWM_SAFE_STATUS_ACTIVE ∨ ∃ g w, g < 6 ∧ w < 6 ∧ f = Reg.EVF_PEND_PEND g w

/-- A key of the converters and the sense link (R249). -/
abbrev senseKey (k : Nat) : Prop := 0x40030000 * 32 ≤ k ∧ k < 0x40040000 * 32

/-- From `s` to `t` the register list keeps rising, the fields of the keys in `F` stay, PWM stays latched, and no bit of a sticky field
and no demand for SF4 that the channel holds is cleared. -/
structure LinkStep (F : Nat → Prop) (s t : State) : Prop where
  regsOk : s.regsOk → t.regsOk
  rd : ∀ f : Fld, F f.key → t.rd f = s.rd f
  sticky : s.regsOk → ∀ f, Sticky f → ∀ n < f.width, hasBit (s.rd f) n = true → hasBit (t.rd f) n = true
  latched : s.regsOk → s.pwmLatched = true → t.pwmLatched = true
  sf4 : ∀ n, hasBit s.safety.sf4 n = true → hasBit t.safety.sf4 n = true

namespace LinkStep
variable {F : Nat → Prop} {s t u : State}

theorem refl : LinkStep F s s := ⟨id, fun _ _ => rfl, fun _ _ _ _ _ h => h, fun _ h => h, fun _ h => h⟩

theorem trans (h : LinkStep F s t) (k : LinkStep F t u) : LinkStep F s u where
  regsOk hs := k.regsOk (h.regsOk hs)
  rd f hf := (k.rd f hf).trans (h.rd f hf)
  sticky hs f hf n hn hb := k.sticky (h.regsOk hs) f hf n hn (h.sticky hs f hf n hn hb)
  latched hs hl := k.latched (h.regsOk hs) (h.latched hs hl)
  sf4 n hb := k.sf4 n (h.sf4 n hb)

theorem mono {G : Nat → Prop} (h : LinkStep F s t) (hG : ∀ k, G k → F k) : LinkStep G s t :=
  ⟨h.regsOk, fun f hf => h.rd f (hG _ hf), h.sticky, h.latched, h.sf4⟩

/-- An update of parts of the state beside the registers that clears no demand. -/
theorem of_regs (hr : t.regs = s.regs) (hk : ∀ n, hasBit s.safety.sf4 n = true → hasBit t.safety.sf4 n = true) : LinkStep F s t where
  regsOk hs := by rw [State.regsOk, hr]; exact hs
  rd f _ := by rw [rd_eq, hr, ← rd_eq]
  sticky _ f _ n _ hb := by rw [rd_eq, hr, ← rd_eq]; exact hb
  latched _ hl := by rw [State.pwmLatched, on, rd_eq, hr, ← rd_eq]; exact hl
  sf4 := hk

/-- A write of a field that is not the latch and that clears no bit of it, if it is sticky. -/
theorem wr_of {g : Fld} {v : Nat} (hF : ¬ F g.key) (hl : Reg.PWM_SAFE_STATUS_LATCHED.key ≠ g.key)
    (hg : ∀ f, Sticky f → f.key = g.key → f = g ∧ ∀ n < g.width, hasBit (s.rd g) n = true → hasBit v n = true) :
    LinkStep F s (s.wr g v) where
  regsOk := keysRise_wr s g v
  rd f hf := rd_wr_ne s v fun h => hF (h ▸ hf)
  sticky hs f hf n hn hb := by
    by_cases hk : f.key = g.key
    · obtain ⟨rfl, hbits⟩ := hg f hf hk
      rw [rd_wr_same s f v hs, hasBit_mod hn]
      exact hbits n hn hb
    · rw [rd_wr_ne s v hk]
      exact hb
  latched _ h := by rw [State.pwmLatched, on, rd_wr_ne s v hl]; exact h
  sf4 _ h := h

/-- A write of a field with a key that neither the latch nor a sticky field has. -/
theorem wr {g : Fld} {v : Nat} (hF : ¬ F g.key) (hl : Reg.PWM_SAFE_STATUS_LATCHED.key ≠ g.key) (hg : ∀ f, Sticky f → f.key ≠ g.key) :
    LinkStep F s (s.wr g v) := wr_of hF hl fun f hf hk => absurd hk (hg f hf)

theorem forEach {α : Type} {l : List α} {f : State → α → State} (h : ∀ s, ∀ x ∈ l, LinkStep F s (f s x)) (s : State) :
    LinkStep F s (s.forEach l f) := by
  induction l generalizing s with
  | nil => exact refl
  | cons a l ih => exact (h s a (by simp)).trans (ih (fun s x hx => h s x (by simp [hx])) (f s a))

theorem when {b : Bool} {f : State → State} (h : LinkStep F s (f s)) : LinkStep F s (s.when b f) := by
  cases b
  · exact refl
  · exact h

theorem ite {p : Prop} [Decidable p] (ht : LinkStep F s t) (hu : LinkStep F s u) : LinkStep F s (if p then t else u) := by
  split
  · exact ht
  · exact hu

/-- The channel holds other values, and no demand for SF4 is cleared. -/
theorem setSafety {f : SafetySt → SafetySt} (h : ∀ k n, hasBit k.sf4 n = true → hasBit (f k).sf4 n = true) :
    LinkStep F s (s.setSafety f) := of_regs rfl (h s.safety)

/-- A loop in which only one pass moves the fields of `F`: that pass runs on a state that the passes before it lead to, and the passes
after it lead from its end to that of the loop. -/
theorem forEach_split {α : Type} {l : List α} {f : State → α → State} {c : α} (hl : l.Nodup) (hc : c ∈ l)
    (h : ∀ s, ∀ x ∈ l, x ≠ c → LinkStep F s (f s x)) (s : State) : ∃ u, LinkStep F s u ∧ LinkStep F (f u c) (s.forEach l f) := by
  induction l generalizing s with
  | nil => exact absurd hc (by simp)
  | cons a l ih =>
    obtain ⟨ha, hl'⟩ := List.nodup_cons.mp hl
    rcases List.mem_cons.mp hc with rfl | hc'
    · exact ⟨s, refl, forEach (fun s x hx => h s x (by simp [hx]) fun hxc => ha (hxc ▸ hx)) (f s c)⟩
    · obtain ⟨u, hu, hend⟩ := ih hl' hc' (fun s x hx => h s x (by simp [hx])) (f s a)
      exact ⟨u, (h s a (by simp) fun hac => ha (hac ▸ hc')).trans hu, hend⟩

end LinkStep

/-- The sticky fields are ACTIVE and the pending words. -/
theorem Sticky.key {f : Fld} (h : Sticky f) : f.key = Reg.PWM_SAFE_STATUS_ACTIVE.key ∨ evKey f.key := by
  rcases h with rfl | ⟨g, w, hg, hw, rfl⟩
  · exact .inl rfl
  · exact .inr (by simp only [evKey, Fld.key]; omega)

theorem Sticky.eq_active {f : Fld} (h : Sticky f) (hk : f.key = Reg.PWM_SAFE_STATUS_ACTIVE.key) : f = Reg.PWM_SAFE_STATUS_ACTIVE := by
  rcases h with rfl | ⟨g, w, hg, hw, rfl⟩
  · rfl
  · simp only [Fld.key] at hk; omega

/-- PWM's safe state latches, with its event where it had not (R192). -/
def pwmLatch (s : State) : State :=
  if s.on Reg.PWM_SAFE_STATUS_LATCHED then s else (s.wr Reg.PWM_SAFE_STATUS_LATCHED 1).raise Ev.PWM_SAFE

section Steps
variable {F : Nat → Prop} (hF : ∀ k, F k → senseKey k)
include hF

theorem linkStep_raise (s : State) {ev : Nat} (hev : ev < 192) : LinkStep F s (s.raise ev) where
  regsOk := regsOk_raise ev
  rd f hf := rd_raise s ev hev f (by have := hF _ hf; simp only [senseKey, evKey] at *; omega)
  sticky hs f hf n hn hb := by
    rcases hf with rfl | ⟨g, w, hg, hw, rfl⟩
    · rw [rd_raise s ev hev _ (by decide)]; exact hb
    · have hdiv : (32 * w + n) / 32 = w := by simp only at hn; omega
      have hmod : (32 * w + n) % 32 = n := by simp only at hn; omega
      have := pendingAt_raise_of_pendingAt (g := g) (e := 32 * w + n) hs hev hg (by simp only at hn; omega)
        (by rw [pendingAt, hdiv, hmod]; exact hb)
      rwa [pendingAt, hdiv, hmod] at this
  latched _ h := by rw [State.pwmLatched, on, rd_raise s ev hev _ (by decide)]; exact h
  sf4 n h := by rw [raise_safety]; exact h

/-- A write outside the sense window, PWM's status and the pending words. -/
theorem linkStep_wr (s : State) {g : Fld} (v : Nat) (hs : ¬ senseKey g.key)
    (hg : Reg.PWM_SAFE_STATUS_LATCHED.key ≠ g.key ∧ g.key ≠ Reg.PWM_SAFE_STATUS_ACTIVE.key ∧ ¬ evKey g.key) :
    LinkStep F s (s.wr g v) := by
  obtain ⟨hl, ha, he⟩ := hg
  refine LinkStep.wr (fun h => hs (hF _ h)) hl fun f hf hk => ?_
  rcases hf.key with h | h
  · exact ha (hk.symm.trans h)
  · exact he (hk ▸ h)

theorem linkStep_pwmLatch (s : State) : LinkStep F s (pwmLatch s) := by
  unfold pwmLatch
  split
  · exact LinkStep.refl
  next hl =>
    refine LinkStep.trans ⟨keysRise_wr s _ 1, fun f hf => ?_, fun _ f hf n _ hb => ?_, fun _ h => absurd h hl, fun _ h => h⟩
      (linkStep_raise hF _ (by decide))
    · exact rd_wr_ne s 1 fun h => absurd (hF _ (h ▸ hf)) (by decide)
    · rwa [rd_wr_ne s 1 fun h => ?_]
      rcases hf.key with hk | hk
      · exact absurd (h.symm.trans hk) (by decide)
      · exact absurd (h ▸ hk) (by decide)

theorem linkStep_seen (s : State) (n : Nat) : LinkStep F s (s.setB Reg.PWM_SAFE_STATUS_SEEN n) :=
  linkStep_wr hF s _ (by decide) (by decide)

/-- A cause of PWM's safe state is set, and none ends. -/
theorem linkStep_pwmSafe (s : State) (c : SafeCause) : LinkStep F s (s.pwmSafe c) := by
  have hactive : LinkStep F s (s.setB Reg.PWM_SAFE_STATUS_ACTIVE c.bit) :=
    LinkStep.wr_of (fun h => absurd (hF _ h) (by decide)) (by decide) fun f hf hk =>
      ⟨hf.eq_active hk, fun i _ hb => hasBit_setBit_of_hasBit _ hb⟩
  have hcause : LinkStep F s (s.when (c != .soft) fun s => s.setB Reg.PWM_SAFE_STATUS_ACTIVE c.bit) := LinkStep.when hactive
  exact (hcause.trans (linkStep_seen hF _ c.bit)).trans (linkStep_pwmLatch hF _)

/-- The enables of the dies follow the drive-enable line. -/
theorem linkStep_enableLine (s : State) : LinkStep F s s.enableLine := by
  have hshown (s : State) (v : Nat) : LinkStep F s (s.wr Reg.DRV_STATUS_EN_CUT v) := linkStep_wr hF s v (by decide) (by decide)
  have hleg (s : State) (v : Nat) {n : Nat} (hn : n < 6) : LinkStep F s (s.wr (Reg.DRV_STATE_EN_CUT n) v) :=
    linkStep_wr hF s v (by simp only [senseKey, Fld.key]; omega) (by simp only [evKey, Fld.key]; omega)
  have hcut (s : State) (n : Nat) (hn : n < 6) : LinkStep F s (s.enableCut n) := by
    unfold enableCut
    split
    · exact LinkStep.refl
    · exact ((hleg s 1 hn).trans (hshown _ _)).trans (linkStep_raise hF _ (by decide))
  have hreturn (s : State) (n : Nat) (hn : n < 6) : LinkStep F s (s.enableReturn n) := by
    unfold enableReturn
    split
    · exact (((hleg s 0 hn).trans (hshown _ _)).trans (linkStep_raise hF _ (by decide))).trans (LinkStep.of_regs rfl fun _ h => h)
    · exact LinkStep.refl
  unfold enableLine
  split
  · exact LinkStep.forEach (fun s n hn => hcut s n (List.mem_range.mp hn)) s
  · exact LinkStep.forEach (fun s n hn => hreturn s n (List.mem_range.mp hn)) s

/-- A register of the safety channel (R397). -/
theorem linkStep_wr_safety (s : State) {g : Fld} (v : Nat) (hg : 0x400E0000 * 32 ≤ g.key) : LinkStep F s (s.wr g v) :=
  linkStep_wr hF s v (by simp only [senseKey]; omega) (by simp only [evKey, Fld.key] at *; omega)

theorem linkStep_safeView (s : State) : LinkStep F s s.safeView :=
  (linkStep_wr_safety hF s _ (by decide)).trans (linkStep_wr_safety hF _ _ (by decide))

/-- A channel drives its hard lines. -/
theorem linkStep_sf4Drive (s : State) (hsl : Bool) : LinkStep F s (s.sf4Drive hsl) := by
  have hset : LinkStep F s (s.setSafety fun k =>
      if hsl then { k with pwmSafeHsl := true, cutHsl := true } else { k with pwmSafeSc := true, cutSc := true }) :=
    LinkStep.setSafety (by cases hsl <;> exact fun _ _ h => h)
  unfold sf4Drive
  refine LinkStep.trans (hset.trans ((linkStep_pwmSafe hF _ .hard).trans ((linkStep_enableLine hF _).trans ?_))) (linkStep_safeView hF _)
  exact LinkStep.ite LinkStep.refl (linkStep_raise hF _ (by decide))

/-- The relays open. -/
theorem linkStep_openRelays (s : State) : LinkStep F s s.openRelays := by
  have hoff : LinkStep F s (s.relaysOff true true) := by
    simp only [relaysOff]
    refine LinkStep.trans (LinkStep.setSafety ?_) (linkStep_safeView hF _)
    exact fun _ _ h => h
  unfold openRelays
  exact LinkStep.ite ((hoff.trans (linkStep_wr_safety hF _ _ (by decide))).trans (linkStep_raise hF _ (by decide))) hoff

/-- SF1's demand is judged. -/
theorem linkStep_sf1Update (s : State) : LinkStep F s s.sf1Update := by
  have hreconnect (s : State) : LinkStep F s s.autoReconnect := LinkStep.ite (LinkStep.of_regs rfl fun _ h => h) LinkStep.refl
  have hstandby (s : State) : LinkStep F s { s with oper := .standby, tpp := { s.tpp with disc := .none } } :=
    LinkStep.of_regs rfl fun _ h => h
  have hopen : LinkStep F s ((s.raise Ev.SAFE_SF1).reconnectRestart.sf4Apply).openRelays :=
    ((((linkStep_raise hF s (by decide)).trans (linkStep_wr_safety hF _ _ (by decide))).trans (linkStep_sf4Drive hF _ true)).trans
      (linkStep_sf4Drive hF _ false)).trans (linkStep_openRelays hF _)
  unfold sf1Update
  exact LinkStep.ite (LinkStep.ite (hopen.trans ((hstandby _).trans (hreconnect _))) hopen) (linkStep_safeView hF s)

end Steps

/-! ### Converters (R240) -/

/-- The state of converter `c`, the enables, the lanes and the state of the link: what the passes for other converters leave. -/
def linkKeys (c k : Nat) : Prop :=
  k = Reg.SNS_CTRL_EN.key ∨ k = Reg.SNS_LINK_LANE_UP.key ∨ k = Reg.SNS_LINK_DOWN.key ∨ (c < 8 ∧ k = (Reg.SAR_STATUS_STATE c).key)

theorem senseKey_of_linkKeys {c : Nat} (k : Nat) (h : linkKeys c k) : senseKey k := by
  simp only [linkKeys, senseKey, Fld.key] at *
  omega

/-- A write of a field of the converters and the link that `F` does not hold. -/
theorem linkStep_wr_shown {F : Nat → Prop} (s : State) {g : Fld} (v : Nat) (hg : senseKey g.key) (h : ¬ F g.key) :
    LinkStep F s (s.wr g v) := by
  refine LinkStep.wr h (by simp only [senseKey, Fld.key] at *; omega) fun f hf hk => ?_
  rcases hf.key with hp | hp
  · simp only [senseKey, Fld.key] at *; omega
  · simp only [senseKey, evKey] at *; omega

/-- What converter `i` holds is replaced. -/
theorem linkStep_setSar {c i : Nat} (s : State) (k : SarSt) (hi : i < 8) : LinkStep (linkKeys c) s (s.setSar i k) := by
  have hbusy (s : State) (v : Nat) : LinkStep (linkKeys c) s (s.wr Reg.SNS_STATUS_INJ_BUSY v) :=
    linkStep_wr_shown s v (by decide) (by simp only [linkKeys, Fld.key]; omega)
  have hqueued (s : State) (v : Nat) : LinkStep (linkKeys c) s (s.wr (Reg.SAR_STATUS_QUEUED i) v) :=
    linkStep_wr_shown s v (by simp only [senseKey, Fld.key]; omega) (by simp only [linkKeys, Fld.key]; omega)
  have hlevel (s : State) (v : Nat) : LinkStep (linkKeys c) s (s.wr (Reg.SAR_STATUS_LEVEL i) v) :=
    linkStep_wr_shown s v (by simp only [senseKey, Fld.key]; omega) (by simp only [linkKeys, Fld.key]; omega)
  have hpend (s : State) (v : Nat) : LinkStep (linkKeys c) s (s.wr (Reg.SAR_STATUS_CFG_PEND i) v) :=
    linkStep_wr_shown s v (by simp only [senseKey, Fld.key]; omega) (by simp only [linkKeys, Fld.key]; omega)
  have hnext (s : State) (v : Nat) : LinkStep (linkKeys c) s (s.wr (Reg.SAR_STATUS_NEXT i) v) :=
    linkStep_wr_shown s v (by simp only [senseKey, Fld.key]; omega) (by simp only [linkKeys, Fld.key]; omega)
  have hsars : LinkStep (linkKeys c) s { s with sense := { s.sense with sars := setNth s.sense.sars i k } } :=
    LinkStep.of_regs rfl fun _ h => h
  exact hsars.trans ((hbusy _ _).trans ((hqueued _ _).trans ((hlevel _ _).trans ((hpend _ _).trans (hnext _ _)))))

/-- A converter takes a state that `F` does not hold. -/
theorem linkStep_setSarState {F : Nat → Prop} {i : Nat} (s : State) (st : Nat) (hi : i < 8) (hst : ¬ F (Reg.SAR_STATUS_STATE i).key)
    (hrun : ¬ F Reg.SNS_STATUS_RUN.key) : LinkStep F s (s.setSarState i st) :=
  (linkStep_wr_shown s st (by simp only [senseKey, Fld.key]; omega) hst).trans (linkStep_wr_shown _ _ (by decide) hrun)

theorem not_linkKeys_state {c i : Nat} (hne : i ≠ c) : ¬ linkKeys c (Reg.SAR_STATUS_STATE i).key := by
  simp only [linkKeys, Fld.key]; omega

theorem not_linkKeys_run {c : Nat} : ¬ linkKeys c Reg.SNS_STATUS_RUN.key := by
  simp only [linkKeys, Fld.key]; omega

/-- A converter other than `c` enters FAULT. -/
theorem linkStep_sarFaults {c i : Nat} (s : State) (hi : i < 8) (hne : i ≠ c) : LinkStep (linkKeys c) s (s.sarFaults i) :=
  (((linkStep_setSar s _ hi).trans (linkStep_setSarState _ _ hi (not_linkKeys_state hne) not_linkKeys_run)).trans
    (linkStep_wr_shown _ _ (by decide) (by simp only [linkKeys, Fld.key]; omega))).trans
      (linkStep_raise senseKey_of_linkKeys _ (by decide))

/-- The state that a converter has taken. -/
theorem sarState_setSarState {s : State} {c st : Nat} (h : s.regsOk) (hst : st < 8) : (s.setSarState c st).sarState c = st := by
  rw [sarState, setSarState, putB_eq, rd_wr_ne _ _ (by simp only [Fld.key]; omega), rd_wr_same _ _ _ h]
  exact Nat.mod_eq_of_lt hst

theorem sarState_sarFaults {s : State} {c : Nat} (hc : c < 8) (h : s.regsOk) : (s.sarFaults c).sarState c = sarFault := by
  have hset := (linkStep_setSar (c := 8) s
    { s.sar c with cur := none, run := none, queue := none, checkPend := false, flight := [] } hc).regsOk h
  rw [sarState, sarFaults, rd_raise _ _ (by decide) _ (by simp only [evKey, Fld.key]; omega), setB_eq,
    rd_wr_ne _ _ (by simp only [Fld.key]; omega)]
  exact sarState_setSarState hset (by decide)

/-! ### The link goes down (R66) -/

/-- What a loss does first: DOWN, its event, PWM's cause, and the demand of the channel. -/
def downDemand (s : State) : State :=
  (((s.wr Reg.SNS_LINK_DOWN 1).raise Ev.SLINK_DOWN).pwmSafe .slinkDown).setSafety fun k =>
    { k with sf4 := setBit k.sf4 2, hslArmed := false }

/-- What the safety channel does then: SF4, and SF1 for its own window where a record is in force. -/
def downChannel (s : State) : State :=
  (s.sf4Drive true).when (s.sf4Drive true).safety.confirmed fun s =>
    State.sf1Update (((s.setSafety fun k => { k with sf1 := setBit k.sf1 2 }).wr Reg.HSL_WIN_GRID 63).raise Ev.SAFE_HSL_WIN)

/-- One pass over the converters: one at work enters FAULT. -/
def downSar (s : State) (c : Nat) : State :=
  if s.sarState c = sarInit || s.sarState c = sarRun || s.sarState c = sarCheck then s.sarFaults c else s

theorem slinkDown_eq {s : State} (h : s.on Reg.SNS_LINK_DOWN = false) :
    s.slinkDown = (downChannel (downDemand s)).forEach (List.range 8) downSar := by
  rw [slinkDown, if_neg (ne_true_of_eq_false h)]
  rfl

theorem linkStep_downSar {c i : Nat} (s : State) (hi : i < 8) (hne : i ≠ c) : LinkStep (linkKeys c) s (downSar s i) :=
  LinkStep.ite (linkStep_sarFaults s hi hne) LinkStep.refl

theorem linkStep_downChannel {F : Nat → Prop} (hF : ∀ k, F k → senseKey k) (s : State) : LinkStep F s (downChannel s) := by
  have hwin (s : State) : LinkStep F s (s.setSafety fun k => { k with sf1 := setBit k.sf1 2 }) := LinkStep.of_regs rfl fun _ h => h
  refine (linkStep_sf4Drive hF s true).trans (LinkStep.when ?_)
  exact (((hwin _).trans (linkStep_wr_safety hF _ _ (by decide))).trans (linkStep_raise hF _ (by decide))).trans (linkStep_sf1Update hF _)

/-- All that a loss does to the converters leaves the lanes and the state of the link, and each converter at work goes to FAULT. -/
theorem forEach_downSar {s : State} {c : Nat} (hc : c < 8) (hs : s.regsOk) :
    (s.sarState c = sarRun → (s.forEach (List.range 8) downSar).sarState c = sarFault) ∧
      (s.sarState c = sarOff → (s.forEach (List.range 8) downSar).sarState c = sarOff) := by
  obtain ⟨u, hu, hend⟩ := LinkStep.forEach_split (F := linkKeys c) (List.nodup_range (n := 8)) (List.mem_range.mpr hc)
    (fun s i hi hne => linkStep_downSar s (List.mem_range.mp hi) hne) s
  have hkey : linkKeys c (Reg.SAR_STATUS_STATE c).key := .inr (.inr (.inr ⟨hc, rfl⟩))
  have hsame : u.sarState c = s.sarState c := hu.rd _ hkey
  have hlast : (s.forEach (List.range 8) downSar).sarState c = (downSar u c).sarState c := hend.rd _ hkey
  refine ⟨fun hrun => ?_, fun hoff => ?_⟩
  · rw [hlast, downSar, hsame, hrun, if_pos (by decide)]
    exact sarState_sarFaults hc (hu.regsOk hs)
  · rw [hlast, downSar, hsame, hoff, if_neg (by decide), hsame, hoff]

/-- What a loss does once DOWN is set. -/
theorem linkStep_downDemand {F : Nat → Prop} (hF : ∀ k, F k → senseKey k) (s : State) :
    LinkStep F (s.wr Reg.SNS_LINK_DOWN 1) (downDemand s) := by
  refine ((linkStep_raise hF _ (by decide)).trans (linkStep_pwmSafe hF _ _)).trans (LinkStep.setSafety ?_)
  exact fun _ _ h => hasBit_setBit_of_hasBit 2 h

/-- The latch is set once PWM is safe. -/
theorem pwmLatched_pwmLatch {s : State} (h : s.regsOk) : (pwmLatch s).pwmLatched = true := by
  unfold pwmLatch
  split
  next hl => exact hl
  next => rw [pwmLatched, on, rd_raise _ _ (by decide) _ (by decide), rd_wr_same _ _ _ h]; rfl

/-- A cause other than SOFT shows in ACTIVE, and the safe state is latched (R192, R193). -/
theorem pwmSafe_shows {s : State} {c : SafeCause} (h : s.regsOk) (hc : (c != .soft) = true) :
    hasBit ((s.pwmSafe c).rd Reg.PWM_SAFE_STATUS_ACTIVE) c.bit = true ∧ (s.pwmSafe c).pwmLatched = true := by
  have hbit : c.bit < 7 := by cases c <;> decide
  have heq : s.pwmSafe c = pwmLatch ((s.setB Reg.PWM_SAFE_STATUS_ACTIVE c.bit).setB Reg.PWM_SAFE_STATUS_SEEN c.bit) := by
    rw [pwmSafe, hc]
    rfl
  have hset : hasBit ((s.setB Reg.PWM_SAFE_STATUS_ACTIVE c.bit).rd Reg.PWM_SAFE_STATUS_ACTIVE) c.bit = true := by
    rw [setB_eq, rd_wr_same _ _ _ h, hasBit_mod (w := 7) hbit]
    exact hasBit_setBit_same _ _
  have hok : (s.setB Reg.PWM_SAFE_STATUS_ACTIVE c.bit).regsOk := keysRise_wr _ _ _ h
  have hstep : LinkStep (fun _ => False) (s.setB Reg.PWM_SAFE_STATUS_ACTIVE c.bit) (s.pwmSafe c) := by
    rw [heq]
    exact (linkStep_seen (fun _ hf => hf.elim) _ _).trans (linkStep_pwmLatch (fun _ hf => hf.elim) _)
  refine ⟨hstep.sticky hok _ (.inl rfl) _ hbit hset, ?_⟩
  rw [heq]
  exact pwmLatched_pwmLatch (keysRise_wr _ _ _ hok)

/-- What is pending stays pending. -/
theorem LinkStep.raisedIn {F : Nat → Prop} {s t u : State} {ev : Nat} (k : LinkStep F t u) (ht : t.regsOk) (hev : ev < 192)
    (h : s.raisedIn t ev) : s.raisedIn u ev := fun g hg hb =>
  k.sticky ht (Reg.EVF_PEND_PEND g (ev / 32)) (.inr ⟨g, ev / 32, hg, by omega, rfl⟩) (ev % 32) (Nat.mod_lt _ (by decide)) (h g hg hb)

/-- A loss as a whole: only the lanes stay, and nothing sticky is cleared. -/
theorem linkStep_slinkDown (s : State) : LinkStep (· = Reg.SNS_LINK_LANE_UP.key) s s.slinkDown := by
  have hF (k : Nat) (h : k = Reg.SNS_LINK_LANE_UP.key) : senseKey k := h ▸ (by decide)
  have hloop (s : State) : LinkStep (linkKeys 8) s (s.forEach (List.range 8) downSar) :=
    LinkStep.forEach (fun s i hi => linkStep_downSar s (List.mem_range.mp hi) (by have := List.mem_range.mp hi; omega)) s
  rcases Bool.eq_false_or_eq_true (s.on Reg.SNS_LINK_DOWN) with hd | hd
  · rw [slinkDown, if_pos hd]
    exact LinkStep.refl
  · rw [slinkDown_eq hd]
    refine (LinkStep.trans (linkStep_wr_shown s 1 (by decide) (by decide)) (linkStep_downDemand hF s)).trans ?_
    exact (linkStep_downChannel hF _).trans ((hloop _).mono fun k hk => .inr (.inl hk))

/-- What a loss has set at the end of its demand stays to its end. -/
theorem linkStep_slinkDown_of_demand {s : State} (hd : s.on Reg.SNS_LINK_DOWN = false) :
    LinkStep (linkKeys 8) (downDemand s) s.slinkDown := by
  rw [slinkDown_eq hd]
  exact (linkStep_downChannel senseKey_of_linkKeys _).trans
    (LinkStep.forEach (fun s i hi => linkStep_downSar s (List.mem_range.mp hi) (by have := List.mem_range.mp hi; omega)) _)

/-- The registers and flags at the end of a loss (R66). -/
theorem slinkDown_shows {s : State} (hs : s.regsOk) (hd : s.on Reg.SNS_LINK_DOWN = false) :
    s.slinkDown.rd Reg.SNS_LINK_DOWN = 1 ∧ s.raisedIn s.slinkDown Ev.SLINK_DOWN ∧ s.slinkDown.pwmLatched = true ∧
      hasBit (s.slinkDown.rd Reg.PWM_SAFE_STATUS_ACTIVE) SafeCause.slinkDown.bit = true ∧ hasBit s.slinkDown.safety.sf4 2 = true := by
  have hwr : (s.wr Reg.SNS_LINK_DOWN 1).regsOk := keysRise_wr _ _ _ hs
  have hraise : ((s.wr Reg.SNS_LINK_DOWN 1).raise Ev.SLINK_DOWN).regsOk := regsOk_raise _ hwr
  have hdemand : LinkStep (linkKeys 8) (s.wr Reg.SNS_LINK_DOWN 1) (downDemand s) := linkStep_downDemand senseKey_of_linkKeys s
  have hend := linkStep_slinkDown_of_demand hd
  have hok : (downDemand s).regsOk := hdemand.regsOk hwr
  obtain ⟨hactive, hlatched⟩ := pwmSafe_shows (c := .slinkDown) hraise rfl
  have hset : LinkStep (linkKeys 8) (((s.wr Reg.SNS_LINK_DOWN 1).raise Ev.SLINK_DOWN).pwmSafe .slinkDown) s.slinkDown := by
    refine LinkStep.trans (LinkStep.setSafety ?_) hend
    exact fun _ _ h => hasBit_setBit_of_hasBit 2 h
  have hsafe := (linkStep_pwmSafe senseKey_of_linkKeys _ .slinkDown :
    LinkStep (linkKeys 8) ((s.wr Reg.SNS_LINK_DOWN 1).raise Ev.SLINK_DOWN) _)
  have hraised : s.raisedIn ((s.wr Reg.SNS_LINK_DOWN 1).raise Ev.SLINK_DOWN) Ev.SLINK_DOWN :=
    raisedIn_next hwr (by decide) (rd_wr_ne _ _ (by decide)) fun _ _ => rfl
  refine ⟨?_, (hsafe.trans hset).raisedIn hraise (by decide) hraised, hset.latched (hsafe.regsOk hraise) hlatched,
    hset.sticky (hsafe.regsOk hraise) _ (.inl rfl) _ (by decide) hactive, hend.sf4 2 (hasBit_setBit_same _ 2)⟩
  rw [(hdemand.trans hend).rd _ (.inr (.inr (.inl rfl))), rd_wr_same _ _ _ hs]
  rfl

/-- The converters at the end of a loss (R240). -/
theorem slinkDown_converters {s : State} {c : Nat} (hs : s.regsOk) (hd : s.on Reg.SNS_LINK_DOWN = false) (hc : c < 8) :
    (s.sarState c = sarRun → s.slinkDown.sarState c = sarFault) ∧ (s.sarState c = sarOff → s.slinkDown.sarState c = sarOff) := by
  have hstep : LinkStep (linkKeys c) (s.wr Reg.SNS_LINK_DOWN 1) (downChannel (downDemand s)) :=
    (linkStep_downDemand senseKey_of_linkKeys s).trans (linkStep_downChannel senseKey_of_linkKeys _)
  have hsame : (downChannel (downDemand s)).sarState c = s.sarState c :=
    (hstep.rd _ (.inr (.inr (.inr ⟨hc, rfl⟩)))).trans (rd_wr_ne _ _ (by simp only [Fld.key]; omega))
  have hloop := forEach_downSar hc (hstep.regsOk (keysRise_wr _ _ _ hs))
  rw [slinkDown_eq hd, ← hsame]
  exact hloop

/-- The lanes in service are counted by the low four bits (R66). -/
theorem popCount_mod (x : Nat) : popCount 4 (x % 2 ^ 4) = popCount 4 x := by
  simp only [popCount, bitOf, List.range, List.range.loop, List.foldl]
  omega

/-- A lane in service is removed; the link goes down with fewer than two left. -/
theorem laneRemove_eq {s : State} {l : Nat} (hs : s.regsOk) (h : hasBit (s.rd Reg.SNS_LINK_LANE_UP) l = true) :
    State.laneRemove s l = if popCount 4 (clearBit (s.rd Reg.SNS_LINK_LANE_UP) l) < 2 then (s.clrB Reg.SNS_LINK_LANE_UP l).slinkDown
      else s.clrB Reg.SNS_LINK_LANE_UP l := by
  have hrd : (s.clrB Reg.SNS_LINK_LANE_UP l).rd Reg.SNS_LINK_LANE_UP = clearBit (s.rd Reg.SNS_LINK_LANE_UP) l % 2 ^ 4 := rd_wr_same _ _ _ hs
  rw [State.laneRemove, if_pos h]
  simp only [hrd, popCount_mod]

/-- A lane that has been removed is out of service, and nothing that was pending is lost. -/
theorem laneRemove_lane {s : State} {l : Nat} (hl : l < 4) (hs : s.regsOk) (h : hasBit (s.rd Reg.SNS_LINK_LANE_UP) l = true) :
    hasBit ((State.laneRemove s l).rd Reg.SNS_LINK_LANE_UP) l = false ∧ LinkStep (fun _ => False) s (State.laneRemove s l) := by
  have hclr : LinkStep (fun _ => False) s (s.clrB Reg.SNS_LINK_LANE_UP l) := linkStep_wr_shown s _ (by decide) (fun h => h)
  have hbit : hasBit ((s.clrB Reg.SNS_LINK_LANE_UP l).rd Reg.SNS_LINK_LANE_UP) l = false := by
    rw [clrB_eq, rd_wr_same _ _ _ hs, hasBit_mod (w := 4) hl]
    exact hasBit_clearBit_same _ _
  rw [laneRemove_eq hs h]
  split
  · have hdown := linkStep_slinkDown (s.clrB Reg.SNS_LINK_LANE_UP l)
    rw [hdown.rd _ rfl]
    exact ⟨hbit, hclr.trans (hdown.mono fun _ hk => hk.elim)⟩
  · exact ⟨hbit, hclr⟩

/-! ### Training (R66) -/

/-- The link has trained with two lanes or more: what is set before the converters are powered. -/
def trainedUp (s : State) (v : Nat) : State :=
  State.setSafety (((State.wr { s with slink := { fails := [0, 0, 0, 0], trained := true } } Reg.SNS_LINK_LANE_UP v).wr
    Reg.SNS_LINK_DOWN 0).pwmCauseEnds .slinkDown) fun k => { k with sf4 := clearBit k.sf4 2 }

theorem slinkTrained_eq {s : State} {v : Nat} (h : 2 ≤ popCount 4 v) :
    s.slinkTrained v = (trainedUp s v).forEach (List.range 8) sarPower := by
  rw [slinkTrained, if_neg (Nat.not_lt.mpr h)]
  rfl

/-- What the passes for converters other than `c` leave of a training. -/
def trainKeys (c k : Nat) : Prop := k = Reg.PWM_SAFE_STATUS_ACTIVE.key ∨ linkKeys c k

/-- A converter other than `c` is powered. -/
theorem linkStep_sarPower {c i : Nat} (s : State) (hi : i < 8) (hne : i ≠ c) : LinkStep (trainKeys c) s (s.sarPower i) := by
  have hstate : ¬ trainKeys c (Reg.SAR_STATUS_STATE i).key := fun h =>
    h.elim (fun h => by simp only [Fld.key] at h; omega) (not_linkKeys_state hne)
  have hrun : ¬ trainKeys c Reg.SNS_STATUS_RUN.key := fun h => h.elim (fun h => absurd h (by decide)) not_linkKeys_run
  exact LinkStep.ite (linkStep_setSarState s _ hi hstate hrun) LinkStep.refl

/-- Powering the converters leaves the causes of PWM's safe state, the lanes and the state of the link. -/
theorem linkStep_sarPowers (s : State) : LinkStep (trainKeys 8) s (s.forEach (List.range 8) sarPower) :=
  LinkStep.forEach (fun s i hi => linkStep_sarPower s (List.mem_range.mp hi) (by have := List.mem_range.mp hi; omega)) s

/-- The converters leave the other parts of the state. -/
theorem keeps_sarPowers (s : State) : Keeps 0 s (s.forEach (List.range 8) sarPower) :=
  Keeps.forEach Keeps.refl fun s c => kp_sarPower s c

/-- An enabled converter in OFF is powered, with the link up (R240). -/
theorem sarState_sarPowers {s : State} {c : Nat} (hc : c < 8) (hs : s.regsOk) (hd : s.rd Reg.SNS_LINK_DOWN = 0)
    (hoff : s.sarState c = sarOff) :
    (s.forEach (List.range 8) sarPower).sarState c = if hasBit (s.rd Reg.SNS_CTRL_EN) c then sarInit else sarOff := by
  obtain ⟨u, hu, hend⟩ := LinkStep.forEach_split (F := trainKeys c) (List.nodup_range (n := 8)) (List.mem_range.mpr hc)
    (fun s i hi hne => linkStep_sarPower s (List.mem_range.mp hi) hne) s
  have hkey : trainKeys c (Reg.SAR_STATUS_STATE c).key := .inr (.inr (.inr (.inr ⟨hc, rfl⟩)))
  have hstate : u.sarState c = sarOff := (hu.rd _ hkey).trans hoff
  have hen : u.rd Reg.SNS_CTRL_EN = s.rd Reg.SNS_CTRL_EN := hu.rd _ (.inr (.inl rfl))
  have hup : u.on Reg.SNS_LINK_DOWN = false := by
    rw [on, hu.rd _ (.inr (.inr (.inr (.inl rfl)))), hd]
    rfl
  have hlast : (s.forEach (List.range 8) sarPower).sarState c = (u.sarPower c).sarState c := hend.rd _ hkey
  rw [hlast, sarPower, hstate, hup, ← hen]
  cases hasBit (u.rd Reg.SNS_CTRL_EN) c
  · exact hstate
  · exact sarState_setSarState (hu.regsOk hs) (by decide)

theorem regsOk_trainedUp {s : State} (v : Nat) (h : s.regsOk) : (trainedUp s v).regsOk :=
  keysRise_wr (((State.wr { s with slink := { fails := [0, 0, 0, 0], trained := true } } Reg.SNS_LINK_LANE_UP v).wr Reg.SNS_LINK_DOWN 0)) _ _
    (keysRise_wr _ _ _ (keysRise_wr { s with slink := { fails := [0, 0, 0, 0], trained := true } } _ _ h))

theorem trainedUp_rd {s : State} {v : Nat} {f : Fld} (hl : f.key ≠ Reg.SNS_LINK_LANE_UP.key) (hd : f.key ≠ Reg.SNS_LINK_DOWN.key)
    (ha : f.key ≠ Reg.PWM_SAFE_STATUS_ACTIVE.key) : (trainedUp s v).rd f = s.rd f :=
  (rd_wr_ne _ _ ha).trans ((rd_wr_ne _ _ hd).trans (rd_wr_ne _ _ hl))

/-- The lanes, the state of the link and PWM's cause once the link has trained. -/
theorem trainedUp_shows {s : State} {v : Nat} (hs : s.regsOk) (hv : v < 16) :
    (trainedUp s v).rd Reg.SNS_LINK_LANE_UP = v ∧ (trainedUp s v).rd Reg.SNS_LINK_DOWN = 0 ∧
      hasBit ((trainedUp s v).rd Reg.PWM_SAFE_STATUS_ACTIVE) SafeCause.slinkDown.bit = false := by
  have hstart : State.regsOk { s with slink := { fails := [0, 0, 0, 0], trained := true } } := hs
  have hlane := keysRise_wr _ Reg.SNS_LINK_LANE_UP v hstart
  have hdown := keysRise_wr _ Reg.SNS_LINK_DOWN 0 hlane
  refine ⟨?_, ?_, ?_⟩
  · refine (rd_wr_ne _ _ (by decide)).trans ((rd_wr_ne _ _ (by decide)).trans ((rd_wr_same _ _ _ hstart).trans ?_))
    exact Nat.mod_eq_of_lt hv
  · exact (rd_wr_ne _ _ (by decide)).trans (rd_wr_same _ _ _ hlane)
  · refine (congrArg (hasBit · _) (rd_wr_same _ _ _ hdown)).trans ((hasBit_mod (w := 7) (by decide)).trans ?_)
    exact hasBit_clearBit_same _ _

/-! ### Packets -/

theorem exec_slinkPacketReceive {s : State} {l : Nat} (ok : Bool) (hl : l < 4) (h : hasBit (s.rd Reg.SNS_LINK_LANE_UP) l = true) :
    exec (.slinkPacketReceive l ok) s = .next (s.slinkPacket l ok) := by
  change Host.Outcome.next (if l < 4 && hasBit (s.rd Reg.SNS_LINK_LANE_UP) l then _ else _) = _
  rw [if_pos (by simp [hl, h])]

theorem exec_slinkLaneRemove {s : State} {l : Nat} (hl : l < 4) : exec (.slinkLaneRemove l) s = .next (State.laneRemove s l) := by
  change Host.Outcome.next (if l < 4 then _ else _) = _
  rw [if_pos hl]

/-- The state after a packet with a bad CRC has been counted and raised (R66). -/
def packetBad (s : State) (l : Nat) : State :=
  (State.incSat { s with slink := { s.slink with fails := setNth s.slink.fails l (nth s.slink.fails l 0 + 1) } } Reg.SNS_LINK_CRC_COUNT).raise
    Ev.SLINK_CRC

/-- A bad packet is counted, and the third in a row removes its lane. -/
theorem slinkPacket_bad (s : State) (l : Nat) :
    s.slinkPacket l false = if 3 ≤ nth s.slink.fails l 0 + 1 then State.laneRemove (packetBad s l) l else packetBad s l := rfl

/-- Settles O18: packets, losses and trainings by the lemmas on each. -/
theorem senseLinkTakesPackets : Obligations.SenseLinkTakesPackets := by
  refine ⟨fun s l hl h => exec_slinkPacketReceive true hl h, fun s l hl h hn => ?_, fun s l hl hs h hn => ?_,
    fun s l hl hs h hpop => ?_, fun s l hl hs _ h hpop hd => ?_, fun s l h => ⟨?_, ?_⟩, fun s v hs _ htr hv hpop => ?_,
    fun s v htr => ?_, fun s m hr => ?_⟩
  · rw [exec_slinkPacketReceive false hl h, slinkPacket_bad, if_neg (by omega)]
    rfl
  · have hnext := exec_slinkPacketReceive false hl h
    rw [slinkPacket_bad, if_pos (by omega)] at hnext
    have hinc : State.regsOk (State.incSat { s with slink := { s.slink with fails := setNth s.slink.fails l (nth s.slink.fails l 0 + 1) } }
        Reg.SNS_LINK_CRC_COUNT) := keysRise_wr _ _ _ hs
    have hok : (packetBad s l).regsOk := regsOk_raise _ hinc
    have hlane : (packetBad s l).rd Reg.SNS_LINK_LANE_UP = s.rd Reg.SNS_LINK_LANE_UP :=
      (rd_raise _ _ (by decide) _ (by decide)).trans (rd_wr_ne _ _ (by decide))
    have hraised : s.raisedIn (packetBad s l) Ev.SLINK_CRC := raisedIn_next hinc (by decide) (rd_wr_ne _ _ (by decide)) fun _ _ => rfl
    obtain ⟨hout, hstep⟩ := laneRemove_lane hl hok (by rw [hlane]; exact h)
    exact ⟨_, hnext, hout, hstep.raisedIn hok (by decide) hraised,
      Keeps.memsSame (kp_execSlinkPacketReceive l false s _ hnext) (by decide)⟩
  · rw [exec_slinkLaneRemove hl, laneRemove_eq hs h, if_neg (by omega)]
  · have hnext := exec_slinkLaneRemove (s := s) hl
    rw [laneRemove_eq hs h, if_pos hpop] at hnext
    have hok : (s.clrB Reg.SNS_LINK_LANE_UP l).regsOk := keysRise_wr _ _ _ hs
    have hd' : (s.clrB Reg.SNS_LINK_LANE_UP l).on Reg.SNS_LINK_DOWN = false := by rw [on, clrB_eq, rd_wr_ne _ _ (by decide)]; exact hd
    have hstate (c : Nat) : (s.clrB Reg.SNS_LINK_LANE_UP l).sarState c = s.sarState c := rd_wr_ne _ _ (by simp only [Fld.key]; omega)
    have htargets : (s.clrB Reg.SNS_LINK_LANE_UP l).eventTargets Ev.SLINK_DOWN = s.eventTargets Ev.SLINK_DOWN :=
      eventTargets_of_rd _ (rd_wr_ne _ _ (by decide))
    obtain ⟨hdown, hraised, hlatched, hactive, hsf4⟩ := slinkDown_shows hok hd'
    exact ⟨_, hnext, hdown, fun g hg hb => hraised g hg (by rw [htargets]; exact hb), hlatched, hactive, hsf4,
      fun c hc hrun => (slinkDown_converters hok hd' hc).1 ((hstate c).trans hrun),
      fun c hc hoff => (slinkDown_converters hok hd' hc).2 ((hstate c).trans hoff),
      Keeps.memsSame (kp_execSlinkLaneRemove l s _ hnext) (by decide)⟩
  · change Host.Outcome.next (if l < 4 && hasBit (s.rd Reg.SNS_LINK_LANE_UP) l then _ else _) = _
    rw [h, Bool.and_false, if_neg (by decide)]
  · change Host.Outcome.next (if l < 4 then State.laneRemove s l else s) = _
    rw [State.laneRemove, if_neg (ne_true_of_eq_false h), ite_self]
  · have hnext : exec (.slinkTrainDone v) s = .next ((trainedUp s v).forEach (List.range 8) sarPower) := by
      change Host.Outcome.next (if s.slink.trained then s else s.slinkTrained (v % 16)) = _
      rw [htr, if_neg (by decide), Nat.mod_eq_of_lt hv, slinkTrained_eq hpop]
    obtain ⟨hlane, hdown, hactive⟩ := trainedUp_shows hs hv
    have hstep := linkStep_sarPowers (trainedUp s v)
    have hkeep := keeps_sarPowers (trainedUp s v)
    refine ⟨_, hnext, (hstep.rd _ (.inr (.inr (.inl rfl)))).trans hlane, (hstep.rd _ (.inr (.inr (.inr (.inl rfl))))).trans hdown, ?_, ?_, ?_, ?_,
      fun c hc hoff => ?_, Keeps.memsSame (kp_execSlinkTrainDone v s _ hnext) (by decide)⟩
    · rw [hkeep.slink (by decide)]; rfl
    · rw [hkeep.slink (by decide)]; rfl
    · rw [hstep.rd _ (.inl rfl)]; exact hactive
    · rw [hkeep.safety (by decide)]; exact hasBit_clearBit_same _ 2
    · have hen : (trainedUp s v).rd Reg.SNS_CTRL_EN = s.rd Reg.SNS_CTRL_EN := trainedUp_rd (by decide) (by decide) (by decide)
      have hoff' : (trainedUp s v).sarState c = sarOff :=
        (trainedUp_rd (by simp only [Fld.key]; omega) (by simp only [Fld.key]; omega) (by simp only [Fld.key]; omega)).trans hoff
      rw [sarState_sarPowers hc (regsOk_trainedUp v hs) hdown hoff', hen]
  · change Host.Outcome.next (if s.slink.trained then s else _) = _
    rw [if_pos htr]
  · change Host.Outcome.next _ = _
    rw [access_allow _ hr]

end Sys2Proof.Machine
end

section
/-! SUPPORT. The tracker (R80, R81, R84): which registers an operation writes, as one relation; the state that each move of the tracker
leads to, with its flag, its event and its frame; and the carrier settings that take effect. -/

set_option Elab.async false

open Sys2Proof.Machine.State

namespace Sys2Proof.Machine

/-! ### What an operation writes -/

/-- The keys of the fields of a list. -/
abbrev Among (fs : List Fld) (k : Nat) : Prop := ∃ g ∈ fs, k = g.key

/-- The keys of the fields of a list, and those that an event writes (R71). -/
abbrev AmongEv (fs : List Fld) (k : Nat) : Prop := Among fs k ∨ evKey k

theorem amongEv_mono {fs gs : List Fld} (h : fs ⊆ gs) : ∀ k, AmongEv fs k → AmongEv gs k :=
  fun _ => Or.imp_left fun ⟨g, hg, hk⟩ => ⟨g, h hg, hk⟩

theorem amongEv_ev {fs : List Fld} : ∀ k, evKey k → AmongEv fs k := fun _ => .inr

/-- From `s` to `t` the register list keeps rising, only fields with a key in `W` change, and no pending event is cleared. -/
structure Writes (W : Nat → Prop) (s t : State) : Prop where
  regsOk : s.regsOk → t.regsOk
  rd : ∀ f : Fld, ¬ W f.key → t.rd f = s.rd f
  pending : s.regsOk → ∀ g e, g < 6 → e < 192 → s.pendingAt g e = true → t.pendingAt g e = true

namespace Writes
variable {W V : Nat → Prop} {s t u : State}

theorem refl : Writes W s s := ⟨id, fun _ _ => rfl, fun _ _ _ _ _ h => h⟩

theorem trans (h : Writes W s t) (k : Writes W t u) : Writes W s u where
  regsOk hs := k.regsOk (h.regsOk hs)
  rd f hf := (k.rd f hf).trans (h.rd f hf)
  pending hs g e hg he hp := k.pending (h.regsOk hs) g e hg he (h.pending hs g e hg he hp)

theorem mono (h : Writes W s t) (hV : ∀ k, W k → V k) : Writes V s t :=
  ⟨h.regsOk, fun f hf => h.rd f fun hw => hf (hV _ hw), h.pending⟩

/-- An update of parts of the state beside the registers. -/
theorem of_regs (h : t.regs = s.regs) : Writes W s t where
  regsOk hs := by rw [State.regsOk, h]; exact hs
  rd f _ := by rw [rd_eq, h, ← rd_eq]
  pending _ g e _ _ hp := by rw [pendingAt, rd_eq, h, ← rd_eq]; exact hp

/-- A write of a field of `W` that is no pending word. -/
theorem wr {f : Fld} (v : Nat) (hW : W f.key) (hf : ¬ evKey f.key) : Writes W s (s.wr f v) where
  regsOk := keysRise_wr s f v
  rd g hg := rd_wr_ne s v fun h => hg (h ▸ hW)
  pending _ g e hg he hp := by
    rw [pendingAt, rd_wr_ne s v fun h => hf (h ▸ by simp only [evKey, Fld.key]; omega)]
    exact hp

theorem raise {ev : Nat} (hW : ∀ k, evKey k → W k) (hev : ev < 192) : Writes W s (s.raise ev) where
  regsOk := regsOk_raise ev
  rd f hf := rd_raise s ev hev f fun h => hf (hW _ h)
  pending hs _ _ hg he hp := pendingAt_raise_of_pendingAt hs hev hg he hp

theorem flagRaise {f : Fld} {ev : Nat} (hW : W f.key) (hf : ¬ evKey f.key) (hE : ∀ k, evKey k → W k) (hev : ev < 192) :
    Writes W s (s.flagRaise f ev) := (wr 1 hW hf).trans (raise hE hev)

theorem when {b : Bool} {f : State → State} (h : ∀ u, Writes W u (f u)) : Writes W s (s.when b f) := by
  cases b
  · exact refl
  · exact h s

theorem ite {p : Prop} [Decidable p] (ht : Writes W s t) (hu : Writes W s u) : Writes W s (if p then t else u) := by
  split
  · exact ht
  · exact hu

/-- An event raised on the way is pending at the end, where the steps before it leave its route. -/
theorem raisedIn {ev : Nat} (h : Writes W s t) (k : Writes V (t.raise ev) u) (hs : s.regsOk) (hev : ev < 192)
    (hr : ¬ W (Reg.EVF_ROUTE_TARGET ev).key) : s.raisedIn u ev := by
  intro g hg hb
  have ht := h.regsOk hs
  exact k.pending (regsOk_raise ev ht) g ev hg hev
    (raisedIn_raise t ev ht hev g hg (by rwa [eventTargets_of_rd ev (h.rd _ hr)]))

theorem regsBut {fs : List Fld} (h : Writes (Among fs) s t) : s.regsBut t fs :=
  fun f hf => h.rd f fun ⟨g, hg, hk⟩ => hf g hg hk

theorem regsButEv {fs : List Fld} (h : Writes (AmongEv fs) s t) : s.regsButEv t fs :=
  fun f hf he => h.rd f fun hw => hw.elim (fun ⟨g, hg, hk⟩ => hf g hg hk) he

end Writes

/-- A flag that has been set with its event. -/
theorem rd_flagRaise_same {s : State} {f : Fld} {ev : Nat} (hs : s.regsOk) (hf : ¬ evKey f.key) (hev : ev < 192) :
    (s.flagRaise f ev).rd f = 1 % 2 ^ f.width := (rd_raise _ ev hev f hf).trans (rd_wr_same s f 1 hs)

theorem regsButEv_mono {s t : State} {fs gs : List Fld} (h : fs ⊆ gs) (hf : s.regsButEv t fs) : s.regsButEv t gs :=
  fun f hg => hf f fun g hgs => hg g (h hgs)

/-- An event changes nothing of Orbit but its trigger inputs (R96). -/
theorem raise_orbit (s : State) (ev : Nat) : ∃ l, (s.raise ev).orbit = { s.orbit with trigInputs := l } := by
  have hd : (s.forEach (bitsOf 6 (s.eventTargets ev)) fun s i => s.deliver ev i).orbit = s.orbit :=
    forEach_keeps (·.orbit) (fun s i => by simp only [deliver]; split <;> rfl) _ s
  have hs (s : State) (p : PairId) : (s.deliverStandby ev p).orbit = s.orbit := by
    unfold deliverStandby
    split
    · cases p <;> rfl
    · rfl
  have ht (s : State) (n : Nat) : ∃ l, (s.trigOrbit n).orbit = { s.orbit with trigInputs := l } := by
    unfold trigOrbit
    split
    · exact ⟨_, rfl⟩
    · exact ⟨_, rfl⟩
  have hn (b : Bool) (s : State) : (s.when b fun s => s.notify ev).orbit = s.orbit := when_keeps (·.orbit) b s rfl
  have hb (b : Bool) (s : State) : (s.when b fun s => (s.deliverStandby ev .a).deliverStandby ev .b).orbit = s.orbit :=
    when_keeps (·.orbit) b s (by rw [hs, hs])
  simp only [State.raise, hn]
  cases hasBit (s.eventTargets ev) 5
  · exact ⟨_, by rw [when_false, hb, hd]⟩
  · obtain ⟨l, hl⟩ := ht ((s.forEach (bitsOf 6 (s.eventTargets ev)) fun s i => s.deliver ev i).when (hasBit (s.eventTargets ev) 0)
      fun s => (s.deliverStandby ev .a).deliverStandby ev .b) _
    exact ⟨l, by rw [when_true, hl, hb, hd]⟩

/-! ### The tracker's state (R81, R106) -/

/-- A move of the tracker writes STATE, and FLYLIMIT on ACQUIRE. -/
theorem writes_orbSetState {W : Nat → Prop} (s : State) {st : Nat} (hW : W Reg.ORB_STATUS_STATE.key)
    (hf : st = orbAcquire → W Reg.ORB_STATUS_FLYLIMIT.key) : Writes W s (s.orbSetState st) := by
  have hlimit (s : State) : Writes W s (s.when (st == orbAcquire) fun s => s.wr Reg.ORB_STATUS_FLYLIMIT 0) := by
    by_cases h : st = orbAcquire
    · exact Writes.when fun _ => Writes.wr 0 (hf h) (by decide)
    · rw [beq_false_of_ne h]
      exact Writes.refl
  exact ((Writes.wr st hW (by decide)).trans (hlimit _)).trans (Writes.of_regs rfl)

/-- Whether Orbit's state holds grid support is shown in HOLD (R282). -/
theorem writes_gsHold {W : Nat → Prop} (s : State) (hW : W Reg.GS_STATUS_HOLD.key) : Writes W s s.gsHold :=
  Writes.ite (Writes.wr _ hW (by decide)) Writes.refl

/-- A frequency estimate is published, and judged against the band (R79). -/
theorem writes_orbPutFreq {W : Nat → Prop} (s : State) (f : Nat) (hW : W Reg.ORB_FREQ_VALUE.key)
    (hr : W Reg.ORB_FLAGS_FREQ_RANGE.key) (hE : ∀ k, evKey k → W k) : Writes W s (s.orbPutFreq f) := by
  have hrange (s : State) : Writes W s (s.flagRaise Reg.ORB_FLAGS_FREQ_RANGE Ev.ORB_FREQ_RANGE) :=
    Writes.flagRaise hr (by decide) hE (by decide)
  simp only [orbPutFreq]
  exact (Writes.wr _ hW (by decide)).trans (Writes.when hrange)

/-- The tracker is in the state that it has moved to, as long as STATE is not written again. -/
theorem orbState_of_move {W : Nat → Prop} {s t : State} {st : Nat} (h : Writes W (s.orbSetState st) t)
    (hW : ¬ W Reg.ORB_STATUS_STATE.key) (hs : s.regsOk) (hst : st < 8) : t.orbState = st := by
  have hset : (s.wr Reg.ORB_STATUS_STATE st).rd Reg.ORB_STATUS_STATE = st := (rd_wr_same s _ st hs).trans (Nat.mod_eq_of_lt hst)
  have hlimit := when_keeps (State.rd · Reg.ORB_STATUS_STATE) (f := fun s => s.wr Reg.ORB_STATUS_FLYLIMIT 0) (st == orbAcquire)
    (s.wr Reg.ORB_STATUS_STATE st) (rd_wr_ne _ 0 (by decide))
  exact ((h.rd _ hW).trans hlimit).trans hset

/-- FLYLIMIT is clear in ACQUIRE (R106). -/
theorem flyLimit_orbSetState_acquire {s : State} (hs : s.regsOk) : (s.orbSetState orbAcquire).rd Reg.ORB_STATUS_FLYLIMIT = 0 :=
  rd_wr_same _ Reg.ORB_STATUS_FLYLIMIT 0 (keysRise_wr s Reg.ORB_STATUS_STATE orbAcquire hs)

/-! ### The tracker's moves (R80, R81) -/

/-- The standing condition of voltage present or absent is taken (R80). -/
def voltageSeen (s : State) (present : Bool) : State := { s with orbit := { s.orbit with vPresent := present, vAbsent := !present } }

theorem writes_voltageSeen {W : Nat → Prop} (s : State) (present : Bool) : Writes W s (voltageSeen s present) := Writes.of_regs rfl

/-- Voltage present takes FREE to ACQUIRE, where the tracker starts from the held frequency (R79, R81). -/
theorem orbVoltagePresent_free {s : State} (hrun : 200 ≤ s.orbit.presentRun) (hst : s.orbState = orbFree)
    (hen : s.on Reg.ORB_CTRL_TRACK_EN = true) (hrole : s.rd Reg.ORB_GROUP_ROLE ≠ 2) :
    s.orbVoltagePresent = ((voltageSeen s true).orbSetState orbAcquire).orbPutFreq (s.rd Reg.ORB_FREQ_VALUE) := by
  have hseen : (s.orbit.vPresent || decide (200 ≤ s.orbit.presentRun)) = true := by simp [hrun]
  have hfree : ((voltageSeen s true).orbState = orbFree && (voltageSeen s true).on Reg.ORB_CTRL_TRACK_EN &&
      (voltageSeen s true).rd Reg.ORB_GROUP_ROLE != 2) = true := by
    change (s.orbState = orbFree && s.on Reg.ORB_CTRL_TRACK_EN && s.rd Reg.ORB_GROUP_ROLE != 2) = true
    simp [hst, hen, hrole]
  exact (if_pos hseen).trans (if_pos hfree)

/-- Voltage absent takes ACQUIRE to FREE (R81). -/
theorem orbVoltageAbsent_acquire {s : State} (hrun : 2 ≤ s.orbit.absentRun) (hst : s.orbState = orbAcquire) :
    s.orbVoltageAbsent = (voltageSeen s false).orbSetState orbFree := by
  have hseen : (s.orbit.vAbsent || decide (2 ≤ s.orbit.absentRun)) = true := by simp [hrun]
  exact (if_pos hseen).trans (if_pos hst)

/-- Voltage is absent, and the increment is frozen (R81). -/
def incFrozen (s : State) (inc : Nat) : State := (voltageSeen s false).wr Reg.ORB_DTHETA_INC inc

/-- Voltage absent takes LOCKED to FLYWHEEL, frozen at the mean of the last complete locked turn (R81). -/
theorem orbVoltageAbsent_locked {s : State} {inc : Nat} (hrun : 2 ≤ s.orbit.absentRun) (hst : s.orbState = orbLocked)
    (hmean : s.orbit.turnMean = some inc) :
    s.orbVoltageAbsent = ((incFrozen s inc).orbSetState orbFlywheel).raise Ev.ORB_FLY_ENTER := by
  have hseen : (s.orbit.vAbsent || decide (2 ≤ s.orbit.absentRun)) = true := by simp [hrun]
  have hnot : ¬ (voltageSeen s false).orbState = orbAcquire := fun h => absurd (hst.symm.trans h) (by decide)
  have hinc : (voltageSeen s false).orbit.turnMean.getD (s.rd Reg.ORB_DTHETA_INC) = inc := congrArg (Option.getD · _) hmean
  rw [← hinc]
  exact (if_pos hseen).trans ((if_neg hnot).trans (if_pos hst))

/-! ### The loss of the group (R81, R289) -/

/-- The state that a tracker in FOLLOW without markers goes to (R81). -/
def groupLostState (s : State) : Nat := if s.orbit.lockNow then orbLocked else orbFree

/-- The registers that Eclipse writes when its secondary leaves FOLLOW. -/
abbrev eeLossFields : List Fld :=
  [Reg.EE_STATUS_INJECTING, Reg.EE_STATUS_SUSPENDED, Reg.MBX_STATUS_LATE, Reg.EE_FLAGS_GROUP_LOST]

/-- A data-port entry that lands late is shown. -/
theorem writes_dataPortPut {W : Nat → Prop} (s : State) (i v k : Nat) (hW : W Reg.MBX_STATUS_LATE.key) (hE : ∀ k, evKey k → W k) :
    Writes W s (s.dataPortPut i v k) := by
  have hlate (s : State) : Writes W s s.mbxLate := Writes.flagRaise hW (by decide) hE (by decide)
  simp only [dataPortPut]
  split
  · exact Writes.refl
  · refine Writes.trans ?_ (Writes.when hlate)
    exact Writes.of_regs rfl

/-- The injection is disarmed and suspended (R289). -/
def injectionSuspended (s : State) : State :=
  s.eeDisarm.when (s.eeDisarm.on Reg.EE_CTRL_ACTIVE_EN) fun s => s.wr Reg.EE_STATUS_SUSPENDED 1

/-- Eclipse notes the loss. -/
def lossNoted (s : State) : State := { s with ee := { s.ee with groupLost := true, bcast := none } }

theorem eeGroupLoss_eq (s : State) :
    s.eeGroupLoss = (lossNoted (injectionSuspended s)).flagRaise Reg.EE_FLAGS_GROUP_LOST Ev.EE_GROUP := rfl

theorem writes_lossNoted {W : Nat → Prop} (s : State) (hW : ∀ f ∈ eeLossFields, W f.key) (hE : ∀ k, evKey k → W k) :
    Writes W s (lossNoted (injectionSuspended s)) := by
  have hclear (s : State) : Writes W s (s.wr Reg.EE_STATUS_INJECTING 0) := Writes.wr 0 (hW _ (by decide)) (by decide)
  have hdiscard (s : State) : Writes W s s.eeDiscard := Writes.of_regs rfl
  have hzero (s : State) : Writes W s (s.eeAmplitude 0) := writes_dataPortPut s _ 0 _ (hW _ (by decide)) hE
  have hsuspend (s : State) : Writes W s (s.wr Reg.EE_STATUS_SUSPENDED 1) := Writes.wr 1 (hW _ (by decide)) (by decide)
  have hdisarm : Writes W s s.eeDisarm := Writes.ite (((hclear s).trans (hdiscard _)).trans (hzero _)) Writes.refl
  exact Writes.trans (t := injectionSuspended s) (hdisarm.trans (Writes.when hsuspend)) (Writes.of_regs rfl)

theorem writes_eeGroupLoss {W : Nat → Prop} (s : State) (hW : ∀ f ∈ eeLossFields, W f.key) (hE : ∀ k, evKey k → W k) :
    Writes W s s.eeGroupLoss :=
  (writes_lossNoted s hW hE).trans (Writes.flagRaise (hW _ (by decide)) (by decide) hE (by decide))

/-- FOLLOW is left, Eclipse takes note, and grid support is held (R81, R282, R289). -/
theorem groupLoss_eq {s : State} (hs : s.regsOk) (hst : s.orbState = orbFollow) (hmissed : 4 ≤ s.rd Reg.ORB_GROUP_STATUS_MISSED) :
    s.groupLoss =
      (((s.orbSetState (groupLostState s)).flagRaise Reg.ORB_FLAGS_GROUP_LOST Ev.ORB_GROUP_LOSS).eeGroupLoss).gsHold := by
  have hloss : s.orbGroupLoss = (s.orbSetState (groupLostState s)).flagRaise Reg.ORB_FLAGS_GROUP_LOST Ev.ORB_GROUP_LOSS :=
    if_pos (by simp [hst, hmissed])
  have hlost : groupLostState s ≠ orbFollow ∧ groupLostState s < 8 := by unfold groupLostState; split <;> decide
  have hto : ((s.orbSetState (groupLostState s)).flagRaise Reg.ORB_FLAGS_GROUP_LOST Ev.ORB_GROUP_LOSS).orbState = groupLostState s :=
    orbState_of_move (W := AmongEv [Reg.ORB_FLAGS_GROUP_LOST])
      (Writes.flagRaise (by decide) (by decide) (amongEv_ev) (by decide)) (by decide) hs hlost.2
  rw [groupLoss, hloss]
  exact if_pos (by simp [hst, hto, hlost.1])

theorem writes_eeGroupLoss_gsHold {fs : List Fld} (s : State) (hW : ∀ f ∈ Reg.GS_STATUS_HOLD :: eeLossFields, AmongEv fs f.key) :
    Writes (AmongEv fs) s s.eeGroupLoss.gsHold := by
  obtain ⟨hhold, hloss⟩ := List.forall_mem_cons.mp hW
  exact (writes_eeGroupLoss s hloss amongEv_ev).trans (writes_gsHold _ hhold)

/-- FOLLOW is left after four frames without a marker, with both flags of the loss (R81, R289). -/
theorem groupLoss_shows {s : State} (hs : s.regsOk) (hst : s.orbState = orbFollow) (hmissed : 4 ≤ s.rd Reg.ORB_GROUP_STATUS_MISSED) :
    s.groupLoss.orbState = groupLostState s ∧ s.groupLoss.rd Reg.ORB_FLAGS_GROUP_LOST = 1 ∧
      s.groupLoss.rd Reg.EE_FLAGS_GROUP_LOST = 1 ∧ s.groupLoss.ee.groupLost = true ∧ s.raisedIn s.groupLoss Ev.ORB_GROUP_LOSS := by
  rw [groupLoss_eq hs hst hmissed]
  have hlost : groupLostState s < 8 := by unfold groupLostState; split <;> decide
  have hset : Writes (AmongEv [Reg.ORB_STATUS_STATE, Reg.ORB_STATUS_FLYLIMIT, Reg.ORB_FLAGS_GROUP_LOST]) s
      (s.orbSetState (groupLostState s)) := writes_orbSetState s (by decide) fun _ => by decide
  have hu := hset.regsOk hs
  have hflag := Writes.flagRaise (s := s.orbSetState (groupLostState s)) (f := Reg.ORB_FLAGS_GROUP_LOST) (ev := Ev.ORB_GROUP_LOSS)
    (W := AmongEv (Reg.ORB_FLAGS_GROUP_LOST :: Reg.GS_STATUS_HOLD :: eeLossFields)) (by decide) (by decide) amongEv_ev (by decide)
  have hnoted := (writes_lossNoted (W := AmongEv eeLossFields) _ (by decide) amongEv_ev).regsOk (hflag.regsOk hu)
  refine ⟨orbState_of_move (hflag.trans (writes_eeGroupLoss_gsHold _ (by decide))) (by decide) hs hlost, ?_, ?_, ?_, ?_⟩
  · exact ((writes_eeGroupLoss_gsHold (fs := Reg.GS_STATUS_HOLD :: eeLossFields) _ (by decide)).rd _ (by decide)).trans
      (rd_flagRaise_same hu (by decide) (by decide))
  · exact ((writes_gsHold (W := Among [Reg.GS_STATUS_HOLD]) _ (by decide)).rd _ (by decide)).trans
      (rd_flagRaise_same hnoted (by decide) (by decide))
  · exact congrArg EeSt.groupLost (((kp_gsHold _).ee (by decide)).trans (raise_ee _ _))
  · exact (hset.trans (Writes.wr 1 (by decide) (by decide))).raisedIn
      (writes_eeGroupLoss_gsHold (fs := Reg.GS_STATUS_HOLD :: eeLossFields) _ (by decide)) hs (by decide) (by decide)

/-! ### Carrier settings (R84, R150) -/

/-- An engine's budget is judged again. -/
theorem writes_leBudgetCheck {fs : List Fld} (s : State) {e : Nat} (hl : AmongEv fs (Reg.LE_BUDGET_LIMIT e).key)
    (hf : AmongEv fs (Reg.LE_FLAGS_BUDGET e).key) (he : e < 2) : Writes (AmongEv fs) s (s.leBudgetCheck e) := by
  have hflag (s : State) : Writes (AmongEv fs) s (s.flagRaise (Reg.LE_FLAGS_BUDGET e) Ev.LE_BUDGET) :=
    Writes.flagRaise hf (by simp only [evKey, Fld.key]; omega) amongEv_ev (by decide)
  simp only [leBudgetCheck, putLimit]
  exact (Writes.wr _ hl (by simp only [evKey, Fld.key]; omega)).trans (Writes.when hflag)

theorem leBudgetCheck_orbit (s : State) (e : Nat) : ∃ l, (s.leBudgetCheck e).orbit = { s.orbit with trigInputs := l } := by
  unfold leBudgetCheck
  simp only [State.when]
  split
  · exact raise_orbit _ _
  · exact ⟨_, rfl⟩

/-- N has taken effect and no setting is left taken (R84 step 3). -/
def ncarApplied (s : State) (n : Nat) : State := { s.wr Reg.ORB_NCAR_N n with orbit := { s.orbit with taken := {} } }

/-- With N taken alone, only N takes effect, and both engines judge their budgets again (R84, R150). -/
theorem configApply_ncar {s : State} {n : Nat} (hidx : s.orbit.carIdx = 0) (htaken : s.orbit.taken = ⟨some n, none, none, none⟩) :
    s.configApply = ((ncarApplied s n).leBudgetCheck 0).leBudgetCheck 1 := by
  have happly : s.orbConfigApply = ncarApplied s n := by
    simp only [orbConfigApply, htaken, Option.map_none, State.when, ite_self, wr_orbit, ncarApplied]
  rw [configApply, happly]
  exact if_pos (by simp [hidx, htaken, carrierAny])

theorem configApply_ncar_shows {s : State} {n : Nat} (hs : s.regsOk) (hidx : s.orbit.carIdx = 0)
    (htaken : s.orbit.taken = ⟨some n, none, none, none⟩) (hn : n < 4096) :
    s.configApply.rd Reg.ORB_NCAR_N = n ∧ s.configApply.orbit.taken = {} ∧ s.configApply.orbit.pend = s.orbit.pend := by
  rw [configApply_ncar hidx htaken]
  obtain ⟨l, hl⟩ := leBudgetCheck_orbit (ncarApplied s n) 0
  obtain ⟨l', hl'⟩ := leBudgetCheck_orbit ((ncarApplied s n).leBudgetCheck 0) 1
  have hjudged (u : State) (e : Nat) (he : e < 2) : (u.leBudgetCheck e).rd Reg.ORB_NCAR_N = u.rd Reg.ORB_NCAR_N :=
    (writes_leBudgetCheck (fs := [Reg.LE_BUDGET_LIMIT e, Reg.LE_FLAGS_BUDGET e]) u (.inl ⟨_, by simp, rfl⟩) (.inl ⟨_, by simp, rfl⟩)
      he).rd _ (by simp only [AmongEv, Among, List.mem_cons, List.not_mem_nil, evKey, Fld.key]; grind)
  have hput : (ncarApplied s n).rd Reg.ORB_NCAR_N = n := (rd_wr_same s Reg.ORB_NCAR_N n hs).trans (Nat.mod_eq_of_lt hn)
  exact ⟨by rw [hjudged _ 1 (by decide), hjudged _ 0 (by decide), hput], by rw [hl', hl]; rfl, by rw [hl', hl]; rfl⟩

/-- The frequency of a move, and grid support held or not by the new state. -/
theorem writes_orbPutFreq_gsHold {fs : List Fld} (s : State) (f : Nat)
    (hW : ∀ g ∈ [Reg.ORB_FREQ_VALUE, Reg.ORB_FLAGS_FREQ_RANGE, Reg.GS_STATUS_HOLD], AmongEv fs g.key) :
    Writes (AmongEv fs) s (s.orbPutFreq f).gsHold :=
  (writes_orbPutFreq s f (hW _ (by decide)) (hW _ (by decide)) amongEv_ev).trans (writes_gsHold _ (hW _ (by decide)))

/-- An event of a move, and grid support held or not by the new state. -/
theorem writes_raise_gsHold {fs : List Fld} (s : State) {ev : Nat} (hW : AmongEv fs Reg.GS_STATUS_HOLD.key) (hev : ev < 192) :
    Writes (AmongEv fs) s (s.raise ev).gsHold := (Writes.raise amongEv_ev hev).trans (writes_gsHold _ hW)

/-- The tracker moves to `st`, with a flag and its event; grid support is held or not by the new state. -/
def flaggedMove (s : State) (st : Nat) (f : Fld) (ev : Nat) : State := ((s.orbSetState st).flagRaise f ev).gsHold

theorem flaggedMove_shows {s : State} {st ev : Nat} {f : Fld} (hs : s.regsOk) (hst : st < 8) (hev : ev < 192)
    (hstate : ¬ AmongEv [f, Reg.GS_STATUS_HOLD] Reg.ORB_STATUS_STATE.key) (hf : ¬ AmongEv [Reg.GS_STATUS_HOLD] f.key)
    (hroute : ¬ AmongEv [Reg.ORB_STATUS_STATE, Reg.ORB_STATUS_FLYLIMIT, f, Reg.GS_STATUS_HOLD] (Reg.EVF_ROUTE_TARGET ev).key) :
    (flaggedMove s st f ev).orbState = st ∧ (flaggedMove s st f ev).rd f = 1 % 2 ^ f.width ∧ s.raisedIn (flaggedMove s st f ev) ev ∧
      s.regsButEv (flaggedMove s st f ev) [Reg.ORB_STATUS_STATE, Reg.ORB_STATUS_FLYLIMIT, f, Reg.GS_STATUS_HOLD] := by
  have hfe : ¬ evKey f.key := fun h => hf (.inr h)
  have hset : Writes (AmongEv [Reg.ORB_STATUS_STATE, Reg.ORB_STATUS_FLYLIMIT, f, Reg.GS_STATUS_HOLD]) s (s.orbSetState st) :=
    writes_orbSetState s (.inl ⟨_, by simp, rfl⟩) fun _ => .inl ⟨_, by simp, rfl⟩
  have hflag (u : State) : Writes (AmongEv [f, Reg.GS_STATUS_HOLD]) u (u.wr f 1) := Writes.wr 1 (.inl ⟨f, by simp, rfl⟩) hfe
  have hend (u : State) : Writes (AmongEv [Reg.GS_STATUS_HOLD]) u u.gsHold := writes_gsHold u (.inl ⟨_, by simp, rfl⟩)
  have hmove := (hflag (s.orbSetState st)).trans
    (((Writes.raise amongEv_ev hev).trans (hend _)).mono (amongEv_mono (by simp)))
  have hbefore := hset.trans ((hflag _).mono (amongEv_mono (by simp)))
  exact ⟨orbState_of_move hmove hstate hs hst, ((hend _).rd _ hf).trans (rd_flagRaise_same (hset.regsOk hs) hfe hev),
    hbefore.raisedIn (hend _) hs hev hroute, (hset.trans (hmove.mono (amongEv_mono (by simp)))).regsButEv⟩

/-- The tracker enters FLYWHEEL with a frozen increment; grid support is not held (R81, R282). -/
def flywheelEntered (s : State) (inc : Nat) : State := (((incFrozen s inc).orbSetState orbFlywheel).raise Ev.ORB_FLY_ENTER).gsHold

theorem flywheelEntered_shows {s : State} {inc : Nat} (hs : s.regsOk) (hinc : inc < 2 ^ 32) :
    (flywheelEntered s inc).orbState = orbFlywheel ∧ (flywheelEntered s inc).rd Reg.ORB_DTHETA_INC = inc ∧
      s.raisedIn (flywheelEntered s inc) Ev.ORB_FLY_ENTER ∧
      s.regsButEv (flywheelEntered s inc) [Reg.ORB_STATUS_STATE, Reg.ORB_DTHETA_INC, Reg.GS_STATUS_HOLD] := by
  have hfrozen : (incFrozen s inc).rd Reg.ORB_DTHETA_INC = inc := (rd_wr_same _ _ _ hs).trans (Nat.mod_eq_of_lt hinc)
  have hset {W : Nat → Prop} (hW : W Reg.ORB_STATUS_STATE.key) : Writes W (incFrozen s inc) ((incFrozen s inc).orbSetState orbFlywheel) :=
    writes_orbSetState _ hW fun h => absurd h (by decide)
  have hfreeze : Writes (AmongEv [Reg.ORB_STATUS_STATE, Reg.ORB_DTHETA_INC, Reg.GS_STATUS_HOLD]) (voltageSeen s false)
      (incFrozen s inc) := Writes.wr inc (by decide) (by decide)
  have hbefore := ((writes_voltageSeen s false).trans hfreeze).trans (hset (by decide))
  have hend := writes_raise_gsHold (fs := [Reg.GS_STATUS_HOLD]) (ev := Ev.ORB_FLY_ENTER)
    ((incFrozen s inc).orbSetState orbFlywheel) (by decide) (by decide)
  exact ⟨orbState_of_move hend (by decide) (keysRise_wr _ _ _ hs) (by decide),
    (hend.rd _ (by decide)).trans (((hset (W := Among [Reg.ORB_STATUS_STATE]) (by decide)).rd _ (by decide)).trans hfrozen),
    hbefore.raisedIn (writes_gsHold (W := Among [Reg.GS_STATUS_HOLD]) _ (by decide)) hs (by decide) (by decide),
    (hbefore.trans (writes_raise_gsHold _ (by decide) (by decide))).regsButEv⟩

/-- The tracker enters FOLLOW with the angle and the increment of a marker (R81). -/
def markerAdopted (s : State) (k : Marker) : State :=
  ((s.orbSetState orbFollow).wr Reg.ORB_ANGLE_THETA k.theta).wr Reg.ORB_DTHETA_INC k.dtheta

theorem orbFollowEnter_eq {s : State} {k : Marker} (hst : s.orbState ≠ orbFollow) (hrole : s.rd Reg.ORB_GROUP_ROLE = 2)
    (hrun : 4 ≤ s.orbit.markerRun) (hk : s.orbit.marker = some k) : s.orbFollowEnter = markerAdopted s k := by
  have hmarker : (s.orbSetState orbFollow).orbit.marker = some k := hk
  rw [orbFollowEnter, if_pos (by simp [hst, hrole, hrun])]
  simp only [hmarker]
  rfl

theorem markerAdopted_shows {s : State} {k : Marker} (hs : s.regsOk) :
    (markerAdopted s k).orbState = orbFollow ∧ (markerAdopted s k).rd Reg.ORB_ANGLE_THETA = k.theta % 2 ^ 32 ∧
      (markerAdopted s k).rd Reg.ORB_DTHETA_INC = k.dtheta % 2 ^ 32 ∧
      s.regsBut (markerAdopted s k) [Reg.ORB_STATUS_STATE, Reg.ORB_ANGLE_THETA, Reg.ORB_DTHETA_INC] := by
  have hset : Writes (Among [Reg.ORB_STATUS_STATE, Reg.ORB_ANGLE_THETA, Reg.ORB_DTHETA_INC]) s (s.orbSetState orbFollow) :=
    writes_orbSetState s (by decide) fun h => absurd h (by decide)
  have hadopt {fs : List Fld} (ht : Among fs Reg.ORB_ANGLE_THETA.key) (hi : Among fs Reg.ORB_DTHETA_INC.key) :
      Writes (Among fs) (s.orbSetState orbFollow) (markerAdopted s k) :=
    (Writes.wr _ ht (by decide)).trans (Writes.wr _ hi (by decide))
  have hmoved := hset.regsOk hs
  exact ⟨orbState_of_move (hadopt (fs := [Reg.ORB_ANGLE_THETA, Reg.ORB_DTHETA_INC]) (by decide) (by decide)) (by decide) hs (by decide),
    (rd_wr_ne _ _ (by decide)).trans (rd_wr_same _ _ _ hmoved), rd_wr_same _ _ _ (keysRise_wr _ _ _ hmoved),
    (hset.trans (hadopt (by decide) (by decide))).regsBut⟩

/-- Settles O6: each move by the case of its operation, what it writes by the laws above. -/
theorem trackerStateCommandsMove : Obligations.TrackerStateCommandsMove := by
  refine ⟨fun s hs hrun hst hen hrole => ?_, fun s hs hrun hst => ?_, fun s inc hs hrun hst hmean hinc => ?_, fun s hs hst hangle => ?_,
    fun s hs hst hrun habs => ?_, fun s hs hst hfly => ?_, fun s k hs hst hrole hrun hk => ?_, fun s hs hst hmissed => ?_,
    fun s n hs hidx htaken hn => ?_⟩
  · have hset : Writes (AmongEv [Reg.ORB_STATUS_STATE, Reg.ORB_STATUS_FLYLIMIT, Reg.ORB_FREQ_VALUE, Reg.ORB_FLAGS_FREQ_RANGE,
        Reg.GS_STATUS_HOLD]) (voltageSeen s true) ((voltageSeen s true).orbSetState orbAcquire) :=
      writes_orbSetState _ (by decide) fun _ => by decide
    have hend := writes_orbPutFreq_gsHold (fs := [Reg.ORB_FREQ_VALUE, Reg.ORB_FLAGS_FREQ_RANGE, Reg.GS_STATUS_HOLD])
      ((voltageSeen s true).orbSetState orbAcquire) (s.rd Reg.ORB_FREQ_VALUE) (by decide)
    exact ⟨_, congrArg (Host.Outcome.next ∘ gsHold) (orbVoltagePresent_free hrun hst hen hrole),
      orbState_of_move hend (by decide) hs (by decide), (hend.rd _ (by decide)).trans (flyLimit_orbSetState_acquire hs),
      (((writes_voltageSeen s true).trans hset).trans (hend.mono (amongEv_mono (by decide)))).regsButEv⟩
  · have hset : Writes (Among [Reg.ORB_STATUS_STATE, Reg.GS_STATUS_HOLD]) (voltageSeen s false)
        ((voltageSeen s false).orbSetState orbFree) := writes_orbSetState _ (by decide) fun h => absurd h (by decide)
    have hframe := ((writes_voltageSeen s false).trans hset).trans (writes_gsHold _ (by decide))
    exact ⟨_, congrArg (Host.Outcome.next ∘ gsHold) (orbVoltageAbsent_acquire hrun hst),
      orbState_of_move (writes_gsHold (W := Among [Reg.GS_STATUS_HOLD]) _ (by decide)) (by decide) hs (by decide),
      hframe.rd _ (by decide), hframe.regsBut⟩
  · obtain ⟨hto, hinc', hev, hframe⟩ := flywheelEntered_shows hs hinc
    exact ⟨_, congrArg (Host.Outcome.next ∘ gsHold) (orbVoltageAbsent_locked hrun hst hmean), hto, hinc', hev, hframe⟩
  · have hmove : s.orbLockAchieved = (s.orbSetState orbLocked).raise Ev.ORB_LOCK := if_pos (by simp [hst, hangle])
    have hset : Writes (AmongEv [Reg.ORB_STATUS_STATE, Reg.GS_STATUS_HOLD]) s (s.orbSetState orbLocked) :=
      writes_orbSetState s (by decide) fun h => absurd h (by decide)
    exact ⟨_, congrArg (Host.Outcome.next ∘ gsHold) hmove,
      orbState_of_move (writes_raise_gsHold (fs := [Reg.GS_STATUS_HOLD]) _ (by decide) (by decide)) (by decide) hs (by decide),
      hset.raisedIn (writes_gsHold (W := Among [Reg.GS_STATUS_HOLD]) _ (by decide)) hs (by decide) (by decide),
      (hset.trans (writes_raise_gsHold _ (by decide) (by decide))).regsButEv⟩
  · have hmove : s.orbLockLost = (s.orbSetState orbAcquire).flagRaise Reg.ORB_FLAGS_UNLOCK Ev.ORB_UNLOCK :=
      if_pos (by simp [hst, hrun, habs])
    obtain ⟨hto, hflag, hev, hframe⟩ := flaggedMove_shows (st := orbAcquire) (f := Reg.ORB_FLAGS_UNLOCK) (ev := Ev.ORB_UNLOCK) hs
      (by decide) (by decide) (by decide) (by decide) (by decide)
    exact ⟨_, congrArg (Host.Outcome.next ∘ gsHold) hmove, hto, hflag, hev, hframe⟩
  · have hmove : s.orbFlyLimit = (s.orbSetState orbFree).flagRaise Reg.ORB_STATUS_FLYLIMIT Ev.ORB_FLY_LIMIT :=
      if_pos (by simp [hst, hfly])
    obtain ⟨hto, hflag, hev, hframe⟩ := flaggedMove_shows (st := orbFree) (f := Reg.ORB_STATUS_FLYLIMIT) (ev := Ev.ORB_FLY_LIMIT) hs
      (by decide) (by decide) (by decide) (by decide) (by decide)
    exact ⟨_, congrArg (Host.Outcome.next ∘ gsHold) hmove, hto, hflag, hev, regsButEv_mono (by decide) hframe⟩
  · obtain ⟨hto, htheta, hinc, hframe⟩ := markerAdopted_shows (k := k) hs
    exact ⟨_, congrArg Host.Outcome.next (orbFollowEnter_eq hst hrole hrun hk), hto, htheta, hinc, hframe⟩
  · obtain ⟨hto, hflag, heclipse, hlost, hev⟩ := groupLoss_shows hs hst hmissed
    exact ⟨_, rfl, hto, hflag, heclipse, hlost, hev⟩
  · obtain ⟨hncar, htaken', hpend⟩ := configApply_ncar_shows hs hidx htaken hn
    exact ⟨_, rfl, hncar, htaken', hpend, (kp_configApply s).memsSame (by decide)⟩

end Sys2Proof.Machine
end

section
/-! SUPPORT. The register writes of Orbit and the bank switch (R81, R84, R99, R100, R106). -/

set_option Elab.async false

open Sys2Proof.Machine.State

namespace Sys2Proof.Machine

/-! ### Register writes (R81, R84, R99, R106) -/

/-- A setting that is refused sets CFG_ERR (R84). -/
theorem exec_orbConfigWrite_refused {s : State} {m : Master} {w : OrbSetting} {v : Nat} (hr : s.right m 0x40000000 .cr = .allow)
    (hw : s.orbConfigRefused w v = true) : exec (.orbConfigWrite m w v) s = .next (s.acked.wr Reg.ORB_FLAGS_CFG_ERR 1) := by
  change Host.Outcome.next _ = _
  rw [access_allow _ hr]
  exact congrArg Host.Outcome.next (if_pos hw)

/-- A value for N that is accepted waits as pending (R84). -/
theorem orbConfigWrite_ncar {s : State} {v : Nat} (hw : s.orbConfigRefused .ncar v = false) (hv : v < 4096) :
    s.orbConfigWrite .ncar v = { s with orbit := { s.orbit with pend := { s.orbit.pend with ncar := some v } } } := by
  simp only [orbConfigWrite, hw, Nat.mod_eq_of_lt hv]
  rfl

/-- A nominal frequency waits as pending (R84). -/
theorem orbConfigWrite_fnom {s : State} {v : Nat} (hv : v < 128) :
    s.orbConfigWrite .fnom v = { s with orbit := { s.orbit with pend := { s.orbit.pend with fnom := some v } } } := by
  simp only [orbConfigWrite, orbConfigRefused, Nat.mod_eq_of_lt hv]
  rfl

/-- N is refused outside 60 to 4000, and where the divisor in force with it does not divide it (R84). -/
theorem orbConfigRefused_ncar (s : State) {v : Nat} (hv : v < 4096) :
    s.orbConfigRefused .ncar v = true ↔
      (v < 60 ∨ 4000 < v ∨ v % 2 ^ settingNext s.orbit.pend.div s.orbit.taken.div (s.rd Reg.ORB_CTRL_DIV) ≠ 0) := by
  simp only [orbConfigRefused, Nat.mod_eq_of_lt hv, Bool.or_eq_true, decide_eq_true_eq, bne_iff_ne, or_assoc]

/-- TRACK_EN written 0 leaves the tracker in FREE (R81). -/
theorem orbState_orbTrackDisable {s : State} (hs : s.regsOk) : s.orbTrackDisable.orbState = orbFree := by
  simp only [orbTrackDisable]
  split
  next h => exact h
  next => exact orbState_of_move (Writes.refl (W := fun _ => False)) id (keysRise_wr s _ 0 hs) (by decide)

theorem writes_orbTrackDisable (s : State) : Writes (Among [Reg.ORB_CTRL_TRACK_EN, Reg.ORB_STATUS_STATE]) s s.orbTrackDisable := by
  have hoff : Writes (Among [Reg.ORB_CTRL_TRACK_EN, Reg.ORB_STATUS_STATE]) s (s.wr Reg.ORB_CTRL_TRACK_EN 0) :=
    Writes.wr 0 (by decide) (by decide)
  exact hoff.trans (Writes.ite Writes.refl (writes_orbSetState _ (by decide) fun h => absurd h (by decide)))

theorem orbTrackDisable_eq (s : State) :
    s.orbTrackDisable = { s with regs := s.orbTrackDisable.regs, orbit := s.orbTrackDisable.orbit } := by
  simp only [orbTrackDisable]
  split
  · rfl
  · rfl

/-- TRACK_EN reads 0 after the tracker is disabled. -/
theorem rd_orbTrackDisable {s : State} (hs : s.regsOk) : s.orbTrackDisable.rd Reg.ORB_CTRL_TRACK_EN = 0 := by
  have hfree : Writes (Among [Reg.ORB_STATUS_STATE]) (s.wr Reg.ORB_CTRL_TRACK_EN 0) s.orbTrackDisable :=
    Writes.ite Writes.refl (writes_orbSetState _ (by decide) fun h => absurd h (by decide))
  exact (hfree.rd _ (by decide)).trans (rd_wr_same s _ 0 hs)

/-- With bank 0 active and no swap pending, a word of bank 1 is written (R99). -/
theorem slotInactWrite_bank1 {s : State} (hp : s.on Reg.ORB_BANK_SWAP_PEND = false) (hb : s.on Reg.ORB_STATUS_ACTIVE_BANK = false)
    (i v : Nat) : s.slotInactWrite i v = { s with orbit := { s.orbit with bank1 := bankSet s.orbit.bank1 i v } } := by
  simp only [slotInactWrite, swapPend, hp, setInactiveBank, inactiveBank, hb]
  rfl

/-! ### The bank switch (R99, R100) -/

/-- The requests for a switch are dropped (R98, R99). -/
def switchBegun (s : State) : State :=
  { s with orbit := { s.orbit with swapReq := false, loadEpochInc := false },
           cross := { s.cross with loadOrbit := if s.cross.loadOrbit == .waiting then .idle else s.cross.loadOrbit } }

/-- The banks change places, and no swap is pending (R99). -/
def banksSwapped (s : State) : State := (s.wr Reg.ORB_STATUS_ACTIVE_BANK (1 - s.rd Reg.ORB_STATUS_ACTIVE_BANK)).wr Reg.ORB_BANK_SWAP_PEND 0

/-- The slots of the active bank with an unlisted target code are disabled and flagged (R95). -/
def slotsChecked (s : State) : State :=
  State.when { s with orbit := { s.orbit with badSlots := unlistedSlots s.activeBank } } (!(unlistedSlots s.activeBank).isEmpty)
    fun s => s.wr Reg.ORB_FLAGS_CFG_ERR 1

/-- A request asks for a new placement epoch (R98, R99). -/
def switchRaisesEpoch (s : State) : Bool :=
  (s.orbit.swapReq && s.on Reg.ORB_BANK_EPOCH_INC) || (s.cross.loadOrbit == .waiting && s.orbit.loadEpochInc)

/-- A requested switch (R95, R99, R100). -/
theorem orbBankSwitch_eq {s : State} (hreq : s.orbit.swapReq = true) :
    s.orbBankSwitch =
      ((slotsChecked (banksSwapped (switchBegun s))).when (switchRaisesEpoch s) epochInc).raise Ev.ORB_BANK_SWITCH :=
  if_pos (by simp [hreq])

/-- The placement epoch rises at most once (R100). -/
theorem writes_epochInc {W : Nat → Prop} (s : State) (hW : W Reg.ORB_EPOCH_EPOCH.key) : Writes W s s.epochInc := by
  unfold epochInc
  split
  · exact Writes.refl
  · exact Writes.trans (Writes.wr (s.rd Reg.ORB_EPOCH_EPOCH + 1) hW (by decide)) (Writes.of_regs rfl)

theorem epochInc_swapReq (s : State) : s.epochInc.orbit.swapReq = s.orbit.swapReq := by
  unfold epochInc
  split
  · rfl
  · rfl

theorem writes_banksSwapped {W : Nat → Prop} (s : State) (hW : W Reg.ORB_STATUS_ACTIVE_BANK.key ∧ W Reg.ORB_BANK_SWAP_PEND.key) :
    Writes W s (banksSwapped s) := (Writes.wr _ hW.1 (by decide)).trans (Writes.wr 0 hW.2 (by decide))

/-- After the exchange only a flag, the epoch and the event are written. -/
theorem writes_switchEnd {fs : List Fld} (s : State) (inc : Bool)
    (hW : ∀ f ∈ [Reg.ORB_FLAGS_CFG_ERR, Reg.ORB_EPOCH_EPOCH], AmongEv fs f.key) :
    Writes (AmongEv fs) s (((slotsChecked s).when inc epochInc).raise Ev.ORB_BANK_SWITCH) := by
  have hflag (u : State) : Writes (AmongEv fs) u (u.wr Reg.ORB_FLAGS_CFG_ERR 1) := Writes.wr 1 (hW _ (by decide)) (by decide)
  have hepoch (u : State) : Writes (AmongEv fs) u u.epochInc := writes_epochInc u (hW _ (by decide))
  have hbad : Writes (AmongEv fs) s { s with orbit := { s.orbit with badSlots := unlistedSlots s.activeBank } } := Writes.of_regs rfl
  exact ((hbad.trans (Writes.when hflag)).trans (Writes.when hepoch)).trans (Writes.raise amongEv_ev (by decide))

/-- A requested switch exchanges the banks, and drops the request (R99). -/
theorem orbBankSwitch_shows {s : State} (hs : s.regsOk) (hreq : s.orbit.swapReq = true) :
    s.orbBankSwitch.rd Reg.ORB_STATUS_ACTIVE_BANK = 1 - s.rd Reg.ORB_STATUS_ACTIVE_BANK ∧
      s.orbBankSwitch.rd Reg.ORB_BANK_SWAP_PEND = 0 ∧ s.orbBankSwitch.orbit.swapReq = false ∧
      s.regsButEv s.orbBankSwitch [Reg.ORB_STATUS_ACTIVE_BANK, Reg.ORB_BANK_SWAP_PEND, Reg.ORB_FLAGS_CFG_ERR, Reg.ORB_EPOCH_EPOCH] := by
  rw [orbBankSwitch_eq hreq]
  have hend := writes_switchEnd (fs := [Reg.ORB_FLAGS_CFG_ERR, Reg.ORB_EPOCH_EPOCH]) (banksSwapped (switchBegun s)) (switchRaisesEpoch s)
    (by decide)
  have hfirst := keysRise_wr (switchBegun s) Reg.ORB_STATUS_ACTIVE_BANK (1 - s.rd Reg.ORB_STATUS_ACTIVE_BANK) hs
  refine ⟨(hend.rd _ (by decide)).trans ?_, (hend.rd _ (by decide)).trans (rd_wr_same _ _ _ hfirst), ?_, ?_⟩
  · exact ((rd_wr_ne _ _ (by decide)).trans (rd_wr_same _ _ _ hs)).trans (Nat.mod_eq_of_lt (Nat.lt_succ_of_le (Nat.sub_le 1 _)))
  · obtain ⟨l, hl⟩ := raise_orbit ((slotsChecked (banksSwapped (switchBegun s))).when (switchRaisesEpoch s) epochInc) Ev.ORB_BANK_SWITCH
    rw [hl]
    exact (when_keeps (·.orbit.swapReq) _ _ (epochInc_swapReq _)).trans (when_keeps (·.orbit.swapReq) _ _ rfl)
  · have hbegun : Writes (AmongEv [Reg.ORB_STATUS_ACTIVE_BANK, Reg.ORB_BANK_SWAP_PEND, Reg.ORB_FLAGS_CFG_ERR, Reg.ORB_EPOCH_EPOCH]) s
        (switchBegun s) := Writes.of_regs rfl
    have hswap := hbegun.trans (writes_banksSwapped _ (by decide))
    exact (hswap.trans (hend.mono (amongEv_mono (by decide)))).regsButEv

/-- Settles O5: each write by its operation on the acknowledged state, and the switch by what follows the exchange. -/
theorem orbitWritesAct : Obligations.OrbitWritesAct := by
  refine ⟨fun s m hs hr => ?_, fun s m v hr hlo hhi hdiv => ?_, fun s m v hr hv hbad => ?_, fun s m hr => ?_, fun s m v hr hv => ?_,
    fun s m i v hi hr hp hb => ?_, fun s m i v hi hr hp => ?_, fun s m e hr hp => ?_, fun s hs hreq _ => ?_, fun s m hr => ?_,
    fun s m hr => ?_⟩
  · refine ⟨s.acked.orbTrackDisable, ?_, rd_orbTrackDisable hs, orbState_orbTrackDisable hs,
      (writes_orbTrackDisable s.acked).regsBut, orbTrackDisable_eq s.acked⟩
    change Host.Outcome.next _ = _
    rw [access_allow _ hr]
  · have hw : s.orbConfigRefused .ncar v = false := Bool.eq_false_iff.mpr fun h => by
      rcases (orbConfigRefused_ncar s (by omega)).mp h with h | h | h
      · omega
      · omega
      · exact h hdiv
    change Host.Outcome.next _ = _
    rw [access_allow _ hr]
    exact congrArg Host.Outcome.next (orbConfigWrite_ncar (s := s.acked) hw (by omega))
  · exact exec_orbConfigWrite_refused hr ((orbConfigRefused_ncar s hv).mpr hbad)
  · exact exec_orbConfigWrite_refused hr rfl
  · change Host.Outcome.next _ = _
    rw [access_allow _ hr, orbConfigWrite_fnom hv]
  · change Host.Outcome.next _ = _
    rw [if_pos hi, access_allow _ hr]
    exact congrArg Host.Outcome.next (slotInactWrite_bank1 (s := s.acked) hp hb i v)
  · change Host.Outcome.next _ = _
    rw [if_pos hi, access_allow _ hr]
    exact congrArg Host.Outcome.next (if_pos hp)
  · change Host.Outcome.next _ = _
    rw [access_allow _ hr]
    exact congrArg Host.Outcome.next (if_neg (ne_true_of_eq_false hp))
  · obtain ⟨hactive, hpend, hdone, hframe⟩ := orbBankSwitch_shows hs hreq
    exact ⟨_, rfl, hactive, hpend, hdone, hframe, (kp_orbBankSwitch s).memsSame (by decide)⟩
  · change Host.Outcome.next _ = _
    rw [access_allow _ hr]
  · change Host.Outcome.next _ = _
    rw [access_allow _ hr]

end Sys2Proof.Machine
end

section
/-! SUPPORT. The delivery of a tap record (R56, R298): the record of the active-power limit shows in a register of Perihelion. -/

open Sys2Proof.Machine.State

namespace Sys2Proof.Machine

/-- A valid record of tap channel 15, which PE_CTRL.LIM_TAP names at reset. -/
def limitRecord : TapRecord := ⟨1, 15, 0, 0, false, false⟩

/-- The state at reset, with that record captured. -/
def limitCaptured : State := { State.reset with cross := { State.reset.cross with taps := [limitRecord] } }

/-- The delivered limit shows in the register PE_LIM (R298). -/
theorem rd_peLim_limitCaptured : (limitCaptured.tapDeliver limitRecord.chan).rd Reg.PE_LIM_VALUE = 1 := rfl

/-- Refutes O7: the clause on a delivered tap record has every register unchanged, but a valid record of the channel that
PE_CTRL.LIM_TAP names is written to PE_LIM. -/
theorem not_orbitStepCommandsAct : ¬ Obligations.OrbitStepCommandsAct := by
  rintro ⟨-, -, -, -, hdeliver, -⟩
  obtain ⟨t, hexec, hframe⟩ := hdeliver limitCaptured limitRecord rfl rfl
  have hdelivered : limitCaptured.tapDeliver limitRecord.chan = t := Host.Outcome.next.inj hexec
  have hnew : t.rd Reg.PE_LIM_VALUE = 1 := hdelivered ▸ rd_peLim_limitCaptured
  have hold : t.rd Reg.PE_LIM_VALUE = limitCaptured.rd Reg.PE_LIM_VALUE :=
    (congrArg (State.rd · Reg.PE_LIM_VALUE) hframe).trans rfl
  exact absurd (hnew.symm.trans hold) (by decide)

end Sys2Proof.Machine
end

section
/-! SUPPORT. The pair supervisor (R107 to R137): what each of its operations writes, what the supervisor holds of the pairs after it, and
the registers that it leaves. -/

set_option Elab.async false

open Sys2Proof.Machine.State

namespace Sys2Proof.Machine

/-! ### What the supervisor holds -/

/-- What the supervisor holds, beside the pending words of the pairs (R124), which any event may move. -/
def State.held (s : State) : PairsSt :=
  { s.pairs with a := { s.pairs.a with pend := [] }, b := { s.pairs.b with pend := [] } }

/-- What is held of one pair where the supervisor holds the same. -/
theorem pair_eq_of_held {s t : State} (h : t.held = s.held) (p : PairId) :
    { t.pair p with pend := [] } = { s.pair p with pend := [] } := by
  cases p
  · exact congrArg PairsSt.a h
  · exact congrArg PairsSt.b h

theorem held_deliverStandby (s : State) (ev : Nat) (p : PairId) : (s.deliverStandby ev p).held = s.held := by
  unfold deliverStandby
  split
  · cases p <;> rfl
  · rfl

/-- An event moves nothing that the supervisor holds but the pending words that a standby pair keeps (R124). -/
@[simp] theorem held_raise (s : State) (ev : Nat) : (s.raise ev).held = s.held := by
  have hdeliver (s : State) (i : Nat) : (s.deliver ev i).held = s.held := by
    simp only [deliver]
    split <;> rfl
  have hstandby (b : Bool) (s : State) : (s.when b fun s => (s.deliverStandby ev .a).deliverStandby ev .b).held = s.held :=
    when_keeps held b s (by rw [held_deliverStandby, held_deliverStandby])
  have htrig (b : Bool) (s : State) : (s.when b fun s => s.trigOrbit (s.rd (Reg.EVF_ROUTE_OTRIG ev))).held = s.held :=
    when_keeps held b s (by unfold trigOrbit; split <;> rfl)
  have hnotify (b : Bool) (s : State) : (s.when b fun s => s.notify ev).held = s.held := when_keeps held b s rfl
  simp only [raise]
  rw [hnotify, htrig, hstandby, forEach_keeps held hdeliver]

@[simp] theorem held_updateReady (s : State) : s.updateReady.held = s.held := by
  simp only [updateReady]
  split
  · rfl
  · exact held_raise _ _

@[simp] theorem held_pwmSafe (s : State) (c : SafeCause) : (s.pwmSafe c).held = s.held := by
  have hcause : (s.when (c != .soft) fun s => s.setB Reg.PWM_SAFE_STATUS_ACTIVE c.bit).held = s.held := when_keeps held _ _ rfl
  simp only [pwmSafe]
  split
  · exact hcause
  · exact (held_raise _ _).trans hcause

@[simp] theorem held_faultHold (s : State) : s.faultHold.held = s.held := by
  unfold faultHold
  split
  · rfl
  · simp only []
    split
    · rfl
    · exact held_pwmSafe s .soft

/-- A pair's state is a register, so it stays what it is while the supervisor notes other things. -/
@[simp] theorem pairState_setPair (s : State) (p q : PairId) (v : PairSt) : (s.setPair p v).pairState q = s.pairState q := by
  cases p <;> rfl

@[simp] theorem setPair_regs (s : State) (p : PairId) (v : PairSt) : (s.setPair p v).regs = s.regs := by cases p <;> rfl

@[simp] theorem pair_setPair_same (s : State) (p : PairId) (v : PairSt) : (s.setPair p v).pair p = v := by cases p <;> rfl

@[simp] theorem pair_setPair_other (s : State) (p : PairId) (v : PairSt) : (s.setPair p v).pair p.other = s.pair p.other := by
  cases p <;> rfl

@[simp] theorem tcm_setTcm_same (s : State) (p : PairId) (m : List Host.Cell) : (s.setTcm p m).tcm p = m := by cases p <;> rfl

@[simp] theorem tcm_setTcm_other (s : State) (p : PairId) (m : List Host.Cell) : (s.setTcm p m).tcm p.other = s.tcm p.other := by
  cases p <;> rfl

@[simp] theorem setTcm_regs (s : State) (p : PairId) (m : List Host.Cell) : (s.setTcm p m).regs = s.regs := by cases p <;> rfl

/-! ### Registers that the operations write -/

/-- A field of 1 bit that has been written 1 is set. -/
theorem on_of_rd {s : State} {f : Fld} (h : s.rd f = 1) : s.on f = true := by rw [on, h]; rfl

theorem Writes.on {W : Nat → Prop} {s t : State} (h : Writes W s t) {f : Fld} (hf : ¬ W f.key) : t.on f = s.on f :=
  congrArg (· == 1) (h.rd f hf)

theorem Writes.setPair {W : Nat → Prop} {s : State} {p : PairId} {v : PairSt} : Writes W s (s.setPair p v) :=
  Writes.of_regs (setPair_regs s p v)

/-- The fields that a write of the fields of another list may reach. -/
theorem Writes.among {fs gs : List Fld} {s t : State} (h : Writes (AmongEv fs) s t) (hg : fs ⊆ gs) : Writes (AmongEv gs) s t :=
  h.mono (amongEv_mono hg)

/-- The route of an event is none of the fields outside the event fabric (R71). -/
theorem route_not_among {fs : List Fld} {ev : Nat} (hev : ev < 192)
    (h : ∀ g ∈ fs, g.key < 0x400B0000 * 32 ∨ 0x400C0000 * 32 ≤ g.key) : ¬ AmongEv fs (Reg.EVF_ROUTE_TARGET ev).key := by
  rintro (⟨g, hg, hk⟩ | hk)
  · have := h g hg
    simp only [Fld.key] at hk this
    omega
  · simp only [evKey, Fld.key] at hk
    omega

/-- The registers of PWM's safe state (R199). -/
abbrev safeFields : List Fld := [Reg.PWM_SAFE_STATUS_LATCHED, Reg.PWM_SAFE_STATUS_ACTIVE, Reg.PWM_SAFE_STATUS_SEEN]

/-- The registers that follow the halts (R117, R192). -/
abbrev haltFields : List Fld := [Reg.CP_STATUS_HALTED, Reg.PWM_SAFE_STATUS_ACTIVE]

theorem writes_pwmCauseEnds {W : Nat → Prop} (s : State) (c : SafeCause) (hW : W Reg.PWM_SAFE_STATUS_ACTIVE.key) :
    Writes W s (s.pwmCauseEnds c) := Writes.wr _ hW (by decide)

theorem writes_pwmSafe {fs : List Fld} (s : State) (c : SafeCause) (hW : ∀ f ∈ safeFields, AmongEv fs f.key) :
    Writes (AmongEv fs) s (s.pwmSafe c) := by
  have hset (f : Fld) (hf : f ∈ safeFields) (v : Nat) (u : State) : Writes (AmongEv fs) u (u.wr f v) :=
    Writes.wr v (hW f hf) (by revert f; decide)
  have hcause : Writes (AmongEv fs) s (s.when (c != .soft) fun s => s.setB Reg.PWM_SAFE_STATUS_ACTIVE c.bit) :=
    Writes.when fun u => hset _ (by decide) _ u
  have hseen := hcause.trans (hset Reg.PWM_SAFE_STATUS_SEEN (by decide)
    (setBit ((s.when (c != .soft) fun s => s.setB Reg.PWM_SAFE_STATUS_ACTIVE c.bit).rd Reg.PWM_SAFE_STATUS_SEEN) c.bit) _)
  exact Writes.ite hseen ((hseen.trans (hset Reg.PWM_SAFE_STATUS_LATCHED (by decide) 1 _)).trans (Writes.raise amongEv_ev (by decide)))

theorem pwmLatched_pwmSafe {s : State} (c : SafeCause) (hs : s.regsOk) : (s.pwmSafe c).pwmLatched = true := by
  have hcause : Writes (AmongEv safeFields) s (s.when (c != .soft) fun s => s.setB Reg.PWM_SAFE_STATUS_ACTIVE c.bit) :=
    Writes.when fun _ => Writes.wr _ (by decide) (by decide)
  exact pwmLatched_pwmLatch (keysRise_wr _ _ _ (hcause.regsOk hs))

theorem writes_faultHold {fs : List Fld} (s : State) (hW : ∀ f ∈ safeFields, AmongEv fs f.key) : Writes (AmongEv fs) s s.faultHold := by
  have hlatch : Writes (AmongEv fs) s (if s.on Reg.PWM_SAFE_STATUS_LATCHED then s else s.pwmSafe .soft) :=
    Writes.ite Writes.refl (writes_pwmSafe s .soft hW)
  exact Writes.ite Writes.refl (hlatch.trans (Writes.of_regs rfl))

/-- `FAULT_HOLD` ends the hold for SF2 alone and leaves the rest of what the channel holds (R411). -/
theorem faultHold_safety (s : State) : ∃ b, s.faultHold.safety = { s.safety with sf2Hold := b } := by
  have hlatch : (if s.on Reg.PWM_SAFE_STATUS_LATCHED then s else s.pwmSafe .soft).safety = s.safety := by
    split
    · rfl
    · exact (kp_pwmSafe s .soft).safety (by decide)
  unfold faultHold
  split
  · exact ⟨s.safety.sf2Hold, rfl⟩
  · exact ⟨false, congrArg (fun k : SafetySt => { k with sf2Hold := false }) hlatch⟩

/-- The module enters `FAULT_HOLD` with PWM safe (R411). -/
theorem faultHold_shows {s : State} (hs : s.regsOk) (hboot : s.oper ≠ .boot) :
    s.faultHold.oper = .faultHold ∧ s.faultHold.pwmLatched = true := by
  rw [faultHold, if_neg hboot]
  refine ⟨rfl, ?_⟩
  change State.pwmLatched (if s.on Reg.PWM_SAFE_STATUS_LATCHED then s else s.pwmSafe .soft) = true
  split
  next h => exact h
  next => exact pwmLatched_pwmSafe .soft hs

theorem writes_updateReady {fs : List Fld} (s : State) (hW : AmongEv fs Reg.CP_STATUS_STANDBY_READY.key) :
    Writes (AmongEv fs) s s.updateReady :=
  Writes.ite Writes.refl ((Writes.wr _ hW (by decide)).trans (Writes.raise amongEv_ev (by decide)))

/-- `STANDBY_READY` shows its conditions (R126). -/
theorem rd_updateReady {s : State} (hs : s.regsOk) : s.updateReady.rd Reg.CP_STATUS_STANDBY_READY = b2n s.readyNow := by
  have hbit : b2n s.readyNow < 2 ^ 1 := by cases s.readyNow <;> decide
  simp only [updateReady]
  split
  next h => exact h
  next => exact (rd_raise _ _ (by decide) _ (by decide)).trans ((rd_wr_same _ _ _ hs).trans (Nat.mod_eq_of_lt hbit))

/-- While a pair is halted the standby pair is not ready (R117). -/
theorem readyNow_of_halted {s : State} (h : s.anyHalted = true) : s.readyNow = false := by simp [readyNow, h]

theorem writes_haltStatus {W : Nat → Prop} (s : State) (hW : ∀ f ∈ haltFields, W f.key) : Writes W s s.haltStatus := by
  have hshown : Writes W s (s.wr Reg.CP_STATUS_HALTED (b2n s.anyHalted)) := Writes.wr _ (hW _ (by decide)) (by decide)
  exact Writes.ite hshown (hshown.trans (writes_pwmCauseEnds _ _ (hW _ (by decide))))

/-- `HALTED` shows whether a pair is halted (R117). -/
theorem rd_haltStatus {s : State} (hs : s.regsOk) : s.haltStatus.rd Reg.CP_STATUS_HALTED = b2n s.anyHalted := by
  have hbit : b2n s.anyHalted < 2 ^ 1 := by cases s.anyHalted <;> decide
  have hshown := (rd_wr_same s Reg.CP_STATUS_HALTED (b2n s.anyHalted) hs).trans (Nat.mod_eq_of_lt hbit)
  simp only [haltStatus]
  split
  · exact hshown
  · exact (rd_wr_ne _ _ (by decide)).trans hshown

theorem haltStatus_pairs (s : State) : s.haltStatus.pairs = s.pairs := by
  simp only [haltStatus]
  split <;> rfl

theorem anyHalted_of_pairs {s t : State} (h : t.pairs = s.pairs) : t.anyHalted = s.anyHalted := by rw [anyHalted, h, anyHalted]

/-- No takeover and no orderly safe state is due any longer (R128, R134). -/
def takeoverDropped (s : State) : State :=
  State.wr { s with pairs := { s.pairs with cause := 0, orderly := false } } Reg.CP_STATUS_TAKEOVER_PEND 0

theorem writes_takeoverDropped {W : Nat → Prop} (s : State) (hW : W Reg.CP_STATUS_TAKEOVER_PEND.key) : Writes W s (takeoverDropped s) := by
  have hnoted : Writes W s { s with pairs := { s.pairs with cause := 0, orderly := false } } := Writes.of_regs rfl
  exact hnoted.trans (Writes.wr 0 hW (by decide))

theorem rd_takeoverDropped {s : State} (hs : s.regsOk) : (takeoverDropped s).rd Reg.CP_STATUS_TAKEOVER_PEND = 0 :=
  rd_wr_same { s with pairs := { s.pairs with cause := 0, orderly := false } } _ 0 hs

/-! ### The moves of a pair (R133, R134) -/

theorem writes_pairStops {W : Nat → Prop} (s : State) (p : PairId) (hW : ∀ f ∈ haltFields, W f.key) : Writes W s (s.pairStops p) :=
  Writes.setPair.trans (writes_haltStatus _ hW)

theorem pairStops_pairs (s : State) (p : PairId) : (s.pairStops p).pairs = (s.setPair p
    { s.pair p with halted := false, replay := [], copied := false, passed := false, interrupt := false, role := 0 }).pairs :=
  haltStatus_pairs _

theorem pair_of_pairs {s t : State} (h : t.pairs = s.pairs) (p : PairId) : t.pair p = s.pair p := by cases p <;> simp only [State.pair, h]

/-- The stop of one pair leaves the other. -/
theorem pair_pairStops_other (s : State) (p : PairId) : (s.pairStops p).pair p.other = s.pair p.other :=
  (pair_of_pairs (pairStops_pairs s p) _).trans (pair_setPair_other s p _)

/-- The state of a pair has changed, before `CP_RUN` shows it (R133). -/
def stateTaken (s : State) (p : PairId) (st : Nat) : State :=
  State.when ((s.wr (pairStateFld p) st).when (st == pairSync || st == pairActive) fun s => s.wr (fenceFld p) 0) (st == pairActive) fun s =>
    { (s.wr Reg.CP_STATUS_ACTIVE (pairNum p)).pwmCauseEnds .bothLost with safety := { s.safety with sf4 := clearBit s.safety.sf4 1 } }

theorem setPairState_eq (s : State) (p : PairId) (st : Nat) : s.setPairState p st = (stateTaken s p st).wr Reg.CROSS_CTRL_CP_RUN
    (b2n ((stateTaken s p st).pairState .a == pairActive || (stateTaken s p st).pairState .b == pairActive)) := rfl

/-- The registers that a move of a pair may write beside its state. -/
abbrev moveFields (p : PairId) : List Fld := [fenceFld p, Reg.CP_STATUS_ACTIVE, Reg.PWM_SAFE_STATUS_ACTIVE, Reg.CROSS_CTRL_CP_RUN]

theorem writes_stateTaken (s : State) (p : PairId) (st : Nat) :
    Writes (AmongEv [fenceFld p, Reg.CP_STATUS_ACTIVE, Reg.PWM_SAFE_STATUS_ACTIVE]) (s.wr (pairStateFld p) st) (stateTaken s p st) := by
  have hfence (u : State) : Writes (AmongEv [fenceFld p, Reg.CP_STATUS_ACTIVE, Reg.PWM_SAFE_STATUS_ACTIVE]) u (u.wr (fenceFld p) 0) :=
    Writes.wr 0 (by cases p <;> decide) (by cases p <;> decide)
  have hactive (u : State) : Writes (AmongEv [fenceFld p, Reg.CP_STATUS_ACTIVE, Reg.PWM_SAFE_STATUS_ACTIVE]) u
      ((u.wr Reg.CP_STATUS_ACTIVE (pairNum p)).pwmCauseEnds .bothLost) :=
    (Writes.wr _ (by cases p <;> decide) (by decide)).trans (writes_pwmCauseEnds _ _ (by cases p <;> decide))
  exact (Writes.when hfence).trans (Writes.when fun u => (hactive u).trans (Writes.of_regs rfl))

theorem writes_setPairState {fs : List Fld} (s : State) (p : PairId) (st : Nat)
    (hW : ∀ f ∈ pairStateFld p :: moveFields p, AmongEv fs f.key) : Writes (AmongEv fs) s (s.setPairState p st) := by
  obtain ⟨hstate, hmove⟩ := List.forall_mem_cons.mp hW
  have htaken := (writes_stateTaken s p st).mono (V := AmongEv fs) fun k hk => by
    rcases hk with ⟨g, hg, rfl⟩ | hk
    · exact hmove g (by simp only [moveFields, List.mem_cons] at hg ⊢; tauto)
    · exact .inr hk
  exact ((Writes.wr st hstate (by cases p <;> decide)).trans htaken).trans (Writes.wr _ (hmove _ (by simp)) (by decide))

/-- A move to a state in which the pair is not in use writes its state and `CP_RUN` alone. -/
theorem writes_setPairState_idle {fs : List Fld} (s : State) (p : PairId) {st : Nat} (hst : st ≠ pairSync) (hst' : st ≠ pairActive)
    (hW : ∀ f ∈ [pairStateFld p, Reg.CROSS_CTRL_CP_RUN], AmongEv fs f.key) : Writes (AmongEv fs) s (s.setPairState p st) := by
  have htaken : stateTaken s p st = s.wr (pairStateFld p) st := by
    rw [stateTaken, beq_false_of_ne hst, beq_false_of_ne hst']
    rfl
  rw [setPairState_eq, htaken]
  exact (Writes.wr st (hW _ (by simp)) (by cases p <;> decide)).trans (Writes.wr _ (hW _ (by simp)) (by decide))

theorem pairState_stateTaken {s : State} {p : PairId} {st : Nat} (hs : s.regsOk) (hst : st < 8) : (stateTaken s p st).pairState p = st := by
  refine ((writes_stateTaken s p st).rd _ (by cases p <;> decide)).trans ((rd_wr_same _ _ _ hs).trans ?_)
  exact Nat.mod_eq_of_lt (by cases p <;> exact hst)

/-- A pair is in the state that it has moved to (R133). -/
theorem pairState_setPairState {s : State} {p : PairId} {st : Nat} (hs : s.regsOk) (hst : st < 8) : (s.setPairState p st).pairState p = st :=
  (rd_wr_ne _ _ (by cases p <;> decide)).trans (pairState_stateTaken hs hst)

theorem setPairState_pairs (s : State) (p : PairId) (st : Nat) : (s.setPairState p st).pairs = s.pairs :=
  (kp_setPairState s p st).pairs (by decide)

/-- A pair that becomes active is named by `ACTIVE`, and `CP_RUN` is set (R46, R133). -/
theorem setPairState_active_shows {s : State} (p : PairId) (hs : s.regsOk) :
    (s.setPairState p pairActive).rd Reg.CP_STATUS_ACTIVE = pairNum p ∧ (s.setPairState p pairActive).cpRun = true := by
  have hfence : ((s.wr (pairStateFld p) pairActive).wr (fenceFld p) 0).regsOk := keysRise_wr _ _ _ (keysRise_wr _ _ _ hs)
  have htaken : (stateTaken s p pairActive).regsOk := (writes_stateTaken s p pairActive).regsOk (keysRise_wr _ _ _ hs)
  have hrun : ((stateTaken s p pairActive).pairState .a == pairActive || (stateTaken s p pairActive).pairState .b == pairActive) = true := by
    have hp := pairState_stateTaken (p := p) (st := pairActive) hs (by decide)
    cases p
    · simp [hp]
    · simp [hp]
  refine ⟨?_, on_of_rd ?_⟩
  · refine (rd_wr_ne (stateTaken s p pairActive) _ (by decide)).trans ((rd_wr_ne _ _ (by decide)).trans ((rd_wr_same _ _ _ hfence).trans ?_))
    cases p <;> rfl
  · rw [setPairState_eq, rd_wr_same _ _ _ htaken, hrun]
    rfl

/-! ### Failure, self-test and rejoin (R133, R134) -/

/-- The registers that a pair's failure writes. -/
abbrev failFields (p : PairId) : List Fld := [pairStateFld p, Reg.CROSS_CTRL_CP_RUN, Reg.CP_STATUS_HALTED, Reg.PWM_SAFE_STATUS_ACTIVE]

/-- A pair stops and goes to a state in which it is not in use. -/
theorem writes_stopTo {fs : List Fld} (s : State) (p : PairId) {st : Nat} (hst : st ≠ pairSync) (hst' : st ≠ pairActive)
    (hW : ∀ f ∈ failFields p, AmongEv fs f.key) : Writes (AmongEv fs) s ((s.pairStops p).setPairState p st) :=
  (writes_pairStops s p fun f hf => hW f (by simp only [List.mem_cons] at hf ⊢; tauto)).trans
    (writes_setPairState_idle _ p hst hst' fun f hf => hW f (by simp only [List.mem_cons] at hf ⊢; tauto))

theorem pairState_stopTo {s : State} {p : PairId} {st : Nat} (hs : s.regsOk) (hst : st < 8) :
    ((s.pairStops p).setPairState p st).pairState p = st :=
  pairState_setPairState ((writes_pairStops (W := Among haltFields) s p (by decide)).regsOk hs) hst

/-- A pair that stops and moves leaves what is held of the other. -/
theorem pair_stopTo_other (s : State) (p : PairId) (st : Nat) : ((s.pairStops p).setPairState p st).pair p.other = s.pair p.other :=
  (pair_of_pairs (setPairState_pairs _ p st) _).trans (pair_pairStops_other s p)

/-- The registers that an entry to SELFTEST writes. -/
abbrev testFields (p : PairId) : List Fld := doneFld p :: passFld p :: failFields p

/-- SELFTEST has been entered, the TCM not yet overwritten. -/
def testBegun (s : State) (p : PairId) : State := (((s.pairStops p).setPairState p pairSelftest).wr (doneFld p) 0).wr (passFld p) 0

theorem testBegun_freeCtr (s : State) (p : PairId) : (testBegun s p).freeCtr = s.freeCtr :=
  ((kp_setPairState _ p pairSelftest).freeCtr (by decide)).trans ((kp_pairStops s p).freeCtr (by decide))

theorem testBegun_tcm (s : State) (p q : PairId) : (testBegun s p).tcm q = s.tcm q := by
  have hstop := kp_pairStops s p
  have hmove := kp_setPairState (s.pairStops p) p pairSelftest
  cases q
  · exact (hmove.tcmA (by decide)).trans (hstop.tcmA (by decide))
  · exact (hmove.tcmB (by decide)).trans (hstop.tcmB (by decide))

theorem enterSelftest_regs (s : State) (p : PairId) : (s.enterSelftest p).regs = (testBegun s p).regs := by cases p <;> rfl

theorem writes_enterSelftest {fs : List Fld} (s : State) (p : PairId) (hW : ∀ f ∈ testFields p, AmongEv fs f.key) :
    Writes (AmongEv fs) s (s.enterSelftest p) := by
  obtain ⟨hdone, hrest⟩ := List.forall_mem_cons.mp hW
  obtain ⟨hpass, hfail⟩ := List.forall_mem_cons.mp hrest
  have hbegun : Writes (AmongEv fs) s (testBegun s p) :=
    ((writes_stopTo s p (by decide) (by decide) hfail).trans (Writes.wr 0 hdone (by cases p <;> decide))).trans
      (Writes.wr 0 hpass (by cases p <;> decide))
  exact hbegun.trans (Writes.of_regs (enterSelftest_regs s p))

/-- A pair in SELFTEST, its TCM overwritten with free contents (R133, R134). -/
theorem enterSelftest_shows {s : State} {p : PairId} (hs : s.regsOk) :
    (s.enterSelftest p).pairState p = pairSelftest ∧ (s.enterSelftest p).on (doneFld p) = false ∧ (s.enterSelftest p).tcm p = [] ∧
      ((s.enterSelftest p).pair p).tcmGen = s.freeCtr + 1 ∧ (s.enterSelftest p).tcm p.other = s.tcm p.other ∧
      (s.enterSelftest p).pair p.other = s.pair p.other := by
  have hrd (f : Fld) : (s.enterSelftest p).rd f = (testBegun s p).rd f := by rw [rd_eq, enterSelftest_regs, ← rd_eq]
  have hmoved : ((s.pairStops p).setPairState p pairSelftest).regsOk :=
    (writes_stopTo (fs := failFields p) s p (by decide) (by decide) (by cases p <;> decide)).regsOk hs
  refine ⟨?_, ?_, tcm_setTcm_same _ _ _, ?_, (tcm_setTcm_other _ _ _).trans ?_, ?_⟩
  · refine (hrd _).trans ((rd_wr_ne _ _ (by cases p <;> decide)).trans ((rd_wr_ne _ _ (by cases p <;> decide)).trans ?_))
    exact pairState_stopTo hs (by decide)
  · rw [on, hrd, testBegun, rd_wr_ne _ _ (by cases p <;> decide), rd_wr_same _ _ _ hmoved, Nat.zero_mod]
    rfl
  · rw [← testBegun_freeCtr s p]
    cases p <;> rfl
  · rw [← testBegun_tcm s p p.other]
    cases p <;> rfl
  · refine Eq.trans ?_ (pair_stopTo_other s p pairSelftest)
    cases p <;> rfl

/-- The registers that the rejoin rule writes. -/
abbrev rejoinFields (p : PairId) : List Fld := rejoinFld p :: testFields p

theorem writes_rejoinRule {fs : List Fld} (s : State) (p : PairId) (hW : ∀ f ∈ rejoinFields p, AmongEv fs f.key) :
    Writes (AmongEv fs) s (s.rejoinRule p) := by
  obtain ⟨hcount, htest⟩ := List.forall_mem_cons.mp hW
  exact Writes.ite ((Writes.wr _ hcount (by cases p <;> decide)).trans (writes_enterSelftest _ p htest))
    (writes_stopTo s p (by decide) (by decide) fun f hf => htest f (List.mem_cons_of_mem _ (List.mem_cons_of_mem _ hf)))

/-- The rejoin rule tests the pair or fails it, and leaves what is held of the other (R134). -/
theorem rejoinRule_shows {s : State} {p : PairId} (hs : s.regsOk) :
    (s.rejoinRule p).pairState p ≠ pairActive ∧ (s.rejoinRule p).pair p.other = s.pair p.other := by
  simp only [rejoinRule]
  split
  · obtain ⟨hstate, -, -, -, -, hother⟩ := enterSelftest_shows (s := s.wr (rejoinFld p) (s.rd (rejoinFld p) + 1)) (p := p)
      (keysRise_wr _ _ _ hs)
    exact ⟨by rw [hstate]; decide, hother.trans (pair_of_pairs (wr_pairs _ _ _) _)⟩
  · refine ⟨?_, pair_stopTo_other s p pairFailed⟩
    rw [enterFailed, pairState_stopTo hs (by decide)]
    decide

end Sys2Proof.Machine
end

section
/-! SUPPORT. The faults of a pair (R108 to R123, R127, R128): a fault with a standby pair that is ready, one without, and the loss of
both pairs. -/

set_option Elab.async false

open Sys2Proof.Machine.State

namespace Sys2Proof.Machine

/-! ### A fault and its record (R121, R123) -/

/-- The flags that record the faults of a pair. -/
abbrev faultFlags : List Fld :=
  [Reg.CP_FLAGS_MISMATCH, Reg.CP_FLAGS_LATENT, Reg.CP_FLAGS_CHECKER, Reg.CP_FLAGS_AGREE, Reg.CP_FLAGS_TCM_DED]

/-- The active pair is watched as long as it is not fenced. -/
theorem pairWatched_active {s : State} {p : PairId} (hact : s.pairState p = pairActive) (hfence : s.on (fenceFld p) = false) :
    s.pairWatched p = true := by simp [pairWatched, pairRuns, hact, hfence]

theorem recordFault_watched {s : State} {p : PairId} (f : Fld) (ev code : Nat) (h : s.pairWatched p = true) :
    s.recordFault p f ev code = (s.flagRaise f ev).pairFault p code := if_pos h

theorem recordFault_unwatched {s : State} {p : PairId} (f : Fld) (ev code : Nat) (h : s.pairWatched p = false) :
    s.recordFault p f ev code = s := if_neg (ne_true_of_eq_false h)

theorem memsSame_flagRaise (s : State) (f : Fld) (ev : Nat) : s.memsSame (s.flagRaise f ev) := memsSame_raise (s.wr f 1) ev

section Recorded
variable {s : State} {f : Fld} (hf : f ∈ faultFlags) {ev : Nat} (hev : ev < 192)
include hf

theorem faultFlag_not_evKey : ¬ evKey f.key := by revert f; decide

theorem faultFlag_width : f.width = 1 := by revert f; decide

include hev

/-- The record of a fault writes its flag. -/
theorem writes_faultRecord {fs : List Fld} (hW : f ∈ fs) : Writes (AmongEv fs) s (s.flagRaise f ev) :=
  Writes.flagRaise (.inl ⟨f, hW, rfl⟩) (faultFlag_not_evKey hf) amongEv_ev hev

theorem rd_faultRecord (hs : s.regsOk) : (s.flagRaise f ev).rd f = 1 :=
  (rd_flagRaise_same hs (faultFlag_not_evKey hf) hev).trans (by rw [faultFlag_width hf]; rfl)

/-- The fields of a fault's consequence are none of the flags. -/
theorem rd_faultRecord_ne {g : Fld} (hg : ¬ AmongEv faultFlags g.key) : (s.flagRaise f ev).rd g = s.rd g :=
  (writes_faultRecord hf hev hf).rd g hg

end Recorded

/-! ### With a standby pair (R121, R127) -/

/-- A takeover with its cause is pending (R127). -/
def takeoverPends (s : State) (p : PairId) (code : Nat) : State :=
  State.wr { s.wr Reg.CP_FLAGS_FAULT_PAIR (pairNum p) with pairs := { s.pairs with cause := code } } Reg.CP_STATUS_TAKEOVER_PEND 1

/-- A takeover is due, and an immediate fault has fenced the pair (R121, R127). -/
def takeoverDue (s : State) (p : PairId) (code : Nat) : State := (takeoverPends s p code).when (decide (code ≤ 3)) fun s => s.fence p

/-- A fault of the active pair with `STANDBY_READY` makes a takeover due (R121, R127). -/
theorem pairFault_covered {s : State} {p : PairId} (code : Nat) (hact : s.pairState p = pairActive)
    (hpend : s.on Reg.CP_STATUS_TAKEOVER_PEND = false) (hready : s.on Reg.CP_STATUS_STANDBY_READY = true) :
    s.pairFault p code = takeoverDue s p code := by
  have hnamed : Writes (Among [Reg.CP_FLAGS_FAULT_PAIR]) s (s.wr Reg.CP_FLAGS_FAULT_PAIR (pairNum p)) := Writes.wr _ (by decide) (by decide)
  have hact' := (hnamed.rd (pairStateFld p) (by cases p <;> decide)).trans hact
  have hpend' := (hnamed.on (f := Reg.CP_STATUS_TAKEOVER_PEND) (by decide)).trans hpend
  have hready' := (hnamed.on (f := Reg.CP_STATUS_STANDBY_READY) (by decide)).trans hready
  exact (if_pos hact').trans ((if_neg (ne_true_of_eq_false hpend')).trans (if_pos hready'))

theorem writes_fence {fs : List Fld} (s : State) (p : PairId) (hW : AmongEv fs (fenceFld p).key) : Writes (AmongEv fs) s (s.fence p) :=
  Writes.wr 1 hW (by cases p <;> decide)

theorem writes_takeoverDue (s : State) (p : PairId) (code : Nat) :
    Writes (AmongEv [Reg.CP_FLAGS_FAULT_PAIR, Reg.CP_STATUS_TAKEOVER_PEND, fenceFld p]) s (takeoverDue s p code) := by
  have hnamed : Writes (AmongEv [Reg.CP_FLAGS_FAULT_PAIR, Reg.CP_STATUS_TAKEOVER_PEND, fenceFld p]) s
      { s.wr Reg.CP_FLAGS_FAULT_PAIR (pairNum p) with pairs := { s.pairs with cause := code } } :=
    (Writes.wr (f := Reg.CP_FLAGS_FAULT_PAIR) (pairNum p) (by cases p <;> decide) (by decide)).trans (Writes.of_regs rfl)
  exact (hnamed.trans (Writes.wr 1 (by cases p <;> decide) (by decide))).trans
    (Writes.when fun u => writes_fence u p (by cases p <;> decide))

/-- The registers and the cause of a takeover that a fault has made due. -/
theorem takeoverDue_shows {s : State} {p : PairId} {code : Nat} (hs : s.regsOk) :
    (takeoverDue s p code).rd Reg.CP_FLAGS_FAULT_PAIR = pairNum p ∧ (takeoverDue s p code).rd Reg.CP_STATUS_TAKEOVER_PEND = 1 ∧
      (takeoverDue s p code).pairs.cause = code ∧
      (takeoverDue s p code).on (fenceFld p) = (decide (code ≤ 3) || s.on (fenceFld p)) := by
  have hnamed : (s.wr Reg.CP_FLAGS_FAULT_PAIR (pairNum p)).regsOk := keysRise_wr _ _ _ hs
  have hend : Writes (AmongEv [fenceFld p]) (takeoverPends s p code) (takeoverDue s p code) :=
    Writes.when fun u => writes_fence u p (.inl ⟨_, by simp, rfl⟩)
  refine ⟨(hend.rd _ (by cases p <;> decide)).trans ?_, (hend.rd _ (by cases p <;> decide)).trans ?_, when_keeps (·.pairs.cause) _ _ rfl, ?_⟩
  · exact (rd_wr_ne _ _ (by decide)).trans ((rd_wr_same _ _ _ hs).trans (by cases p <;> rfl))
  · exact rd_wr_same { s.wr Reg.CP_FLAGS_FAULT_PAIR (pairNum p) with pairs := { s.pairs with cause := code } } _ _ hnamed
  · rw [takeoverDue]
    cases decide (code ≤ 3)
    · exact congrArg (· == 1) ((rd_wr_ne _ _ (by cases p <;> decide)).trans (rd_wr_ne _ _ (by cases p <;> decide)))
    · exact on_of_rd ((rd_wr_same (takeoverPends s p code) _ _ (keysRise_wr _ _ _ hnamed)).trans (by cases p <;> rfl))

theorem memsSame_takeoverDue (s : State) (p : PairId) (code : Nat) : s.memsSame (takeoverDue s p code) := by
  rw [takeoverDue]
  cases decide (code ≤ 3) <;> exact memsSame_refl s

/-- A fault of the active pair that the standby pair covers: its record, a pending takeover with its cause, and the fence where the
fault is immediate (R121, R123, R127). -/
theorem faultCovered_shows {s : State} {p : PairId} {f : Fld} {ev code : Nat} (hf : f ∈ faultFlags) (hev : ev < 192) (hs : s.regsOk)
    (hact : s.pairState p = pairActive) (hfence : s.on (fenceFld p) = false) (hpend : s.on Reg.CP_STATUS_TAKEOVER_PEND = false)
    (hready : s.on Reg.CP_STATUS_STANDBY_READY = true) :
    ∃ t, s.recordFault p f ev code = t ∧ t.rd f = 1 ∧ t.rd Reg.CP_FLAGS_FAULT_PAIR = pairNum p ∧ s.raisedIn t ev ∧
      t.rd Reg.CP_STATUS_TAKEOVER_PEND = 1 ∧ t.pairs.cause = code ∧ t.on (fenceFld p) = decide (code ≤ 3) ∧
      s.regsButEv t [f, Reg.CP_FLAGS_FAULT_PAIR, Reg.CP_STATUS_TAKEOVER_PEND, fenceFld p] ∧ s.memsSame t := by
  have hrecord := writes_faultRecord (s := s) hf hev (fs := [f]) (List.mem_singleton_self f)
  have hkeep {g : Fld} (hg : ¬ AmongEv faultFlags g.key) : (s.flagRaise f ev).rd g = s.rd g := rd_faultRecord_ne hf hev hg
  have hokR := hrecord.regsOk hs
  have hdue := writes_takeoverDue (s.flagRaise f ev) p code
  have hflags : ∀ g ∈ faultFlags, ¬ AmongEv [Reg.CP_FLAGS_FAULT_PAIR, Reg.CP_STATUS_TAKEOVER_PEND, fenceFld p] g.key := by
    cases p <;> decide
  have hplace : ∀ g ∈ faultFlags, 0x400C0000 * 32 ≤ g.key := by decide
  obtain ⟨hwhich, hpend', hcause, hfence'⟩ := takeoverDue_shows (p := p) (code := code) hokR
  refine ⟨_, (recordFault_watched f ev code (pairWatched_active hact hfence)).trans (pairFault_covered code ?_ ?_ ?_), ?_, hwhich, ?_,
    hpend', hcause, hfence'.trans ?_, ((hrecord.among ?_).trans (hdue.among ?_)).regsButEv,
    (memsSame_flagRaise s f ev).trans (memsSame_takeoverDue _ p code)⟩
  · exact (hkeep (by cases p <;> decide)).trans hact
  · rw [on, hkeep (by decide)]; exact hpend
  · rw [on, hkeep (by decide)]; exact hready
  · exact (hdue.rd f (hflags f hf)).trans (rd_faultRecord hf hev hs)
  · exact (Writes.wr (W := AmongEv [f]) (s := s) 1 (.inl ⟨f, by simp, rfl⟩) (faultFlag_not_evKey hf)).raisedIn hdue hs hev
      (route_not_among hev fun g hg => .inr (hplace g (List.mem_singleton.mp hg ▸ hf)))
  · rw [on, hkeep (by cases p <;> decide), show (s.rd (fenceFld p) == 1) = false from hfence, Bool.or_false]
  · simp
  · simp

/-! ### Without a standby pair (R128) -/

/-- A fault of the active pair without `STANDBY_READY`: both pairs are lost at once, or an orderly safe state is due (R128). -/
theorem pairFault_alone {s : State} {p : PairId} (code : Nat) (hact : s.pairState p = pairActive)
    (hpend : s.on Reg.CP_STATUS_TAKEOVER_PEND = false) (hready : s.on Reg.CP_STATUS_STANDBY_READY = false) :
    s.pairFault p code = if code ≤ 3 then (s.wr Reg.CP_FLAGS_FAULT_PAIR (pairNum p)).bothLost p
      else (s.wr Reg.CP_FLAGS_FAULT_PAIR (pairNum p)).wantOrderly := by
  have hnamed : Writes (Among [Reg.CP_FLAGS_FAULT_PAIR]) s (s.wr Reg.CP_FLAGS_FAULT_PAIR (pairNum p)) := Writes.wr _ (by decide) (by decide)
  have hact' : (s.wr Reg.CP_FLAGS_FAULT_PAIR (pairNum p)).pairState p = pairActive := (hnamed.rd _ (by cases p <;> decide)).trans hact
  have hpend' := (hnamed.on (f := Reg.CP_STATUS_TAKEOVER_PEND) (by decide)).trans hpend
  have hready' := (hnamed.on (f := Reg.CP_STATUS_STANDBY_READY) (by decide)).trans hready
  simp only [pairFault, hact', hpend', hready', if_true, Bool.false_eq_true, if_false, decide_eq_true_eq]

/-- The pair is fenced and failed, and no takeover is pending (R128). -/
def lastPairFailed (s : State) (p : PairId) : State := (takeoverDropped ((s.fence p).enterFailed p)).updateReady

/-- The loss of both pairs demands SF4 of the safety channel (R128). -/
def sf4Demanded (s : State) : State := { s with safety := { s.safety with sf4 := setBit s.safety.sf4 1 } }

/-- The loss of both pairs is flagged, PWM is safe, and the channel has its demand (R128). -/
def lossDemanded (s : State) : State := sf4Demanded ((s.flagRaise Reg.CP_FLAGS_BOTH_LOST Ev.CP_BOTH_LOST).pwmSafe .bothLost)

/-- `FATALRST` follows where it is enabled (R128). -/
def fatalArmed (s : State) : State :=
  if s.on Reg.CP_CTRL_FATAL_EN then { s with pairs := { s.pairs with fatalWait := true } } else s

theorem bothLost_eq (s : State) (p : PairId) : s.bothLost p = fatalArmed (lossDemanded (lastPairFailed s p)).faultHold := rfl

theorem fatalArmed_keeps {α : Type} (X : State → α) (s : State)
    (h : X { s with pairs := { s.pairs with fatalWait := true } } = X s) : X (fatalArmed s) = X s := by
  unfold fatalArmed
  split
  · exact h
  · rfl

/-- The registers that the failure of the last pair writes after its fence. -/
abbrev lastFields (p : PairId) : List Fld := Reg.CP_STATUS_TAKEOVER_PEND :: Reg.CP_STATUS_STANDBY_READY :: failFields p

theorem writes_lastPairFailed (s : State) (p : PairId) : Writes (AmongEv (lastFields p)) (s.fence p) (lastPairFailed s p) := by
  have hfail : Writes (AmongEv (lastFields p)) (s.fence p) ((s.fence p).enterFailed p) :=
    writes_stopTo _ p (by decide) (by decide) (by cases p <;> decide)
  exact (hfail.trans (writes_takeoverDropped _ (by cases p <;> decide))).trans (writes_updateReady _ (by cases p <;> decide))

/-- The last pair has failed behind its fence. -/
theorem lastPairFailed_shows {s : State} {p : PairId} (hs : s.regsOk) :
    (lastPairFailed s p).pairState p = pairFailed ∧ (lastPairFailed s p).on (fenceFld p) = true := by
  have hfenced : (s.fence p).regsOk := keysRise_wr _ _ _ hs
  have hend : Writes (AmongEv [Reg.CP_STATUS_TAKEOVER_PEND, Reg.CP_STATUS_STANDBY_READY]) ((s.fence p).enterFailed p) (lastPairFailed s p) :=
    (writes_takeoverDropped _ (by decide)).trans (writes_updateReady _ (by decide))
  refine ⟨(hend.rd _ (by cases p <;> decide)).trans (pairState_stopTo hfenced (by decide)), ?_⟩
  rw [(writes_lastPairFailed s p).on (by cases p <;> decide)]
  exact on_of_rd ((rd_wr_same _ _ _ hs).trans (by cases p <;> rfl))

theorem writes_lossDemanded {fs : List Fld} (s : State) (hW : ∀ f ∈ Reg.CP_FLAGS_BOTH_LOST :: safeFields, AmongEv fs f.key) :
    Writes (AmongEv fs) s (lossDemanded s) := by
  obtain ⟨hflag, hsafe⟩ := List.forall_mem_cons.mp hW
  exact ((Writes.flagRaise hflag (by decide) amongEv_ev (by decide)).trans (writes_pwmSafe _ .bothLost hsafe)).trans (Writes.of_regs rfl)

theorem writes_lossHandled {fs : List Fld} (s : State) (hW : ∀ f ∈ Reg.CP_FLAGS_BOTH_LOST :: safeFields, AmongEv fs f.key) :
    Writes (AmongEv fs) s (fatalArmed (lossDemanded s).faultHold) :=
  ((writes_lossDemanded s hW).trans (writes_faultHold _ (List.forall_mem_cons.mp hW).2)).trans
    (Writes.of_regs (fatalArmed_keeps (·.regs) _ rfl))

/-- The registers that the loss of both pairs writes. -/
abbrev lossFields (p : PairId) : List Fld := fenceFld p :: Reg.CP_FLAGS_BOTH_LOST :: (safeFields ++ lastFields p)

theorem writes_bothLost (s : State) (p : PairId) : Writes (AmongEv (lossFields p)) s (s.bothLost p) := by
  have hfence : Writes (AmongEv (lossFields p)) s (s.fence p) := Writes.wr 1 (by cases p <;> decide) (by cases p <;> decide)
  exact (hfence.trans ((writes_lastPairFailed s p).among (by simp))).trans (writes_lossHandled _ (by cases p <;> decide))

/-- The module is still in its operating state when the loss of both pairs reaches it. -/
theorem lossDemanded_oper (s : State) (p : PairId) : (lossDemanded (lastPairFailed s p)).oper = s.oper := by
  have hfail := (kp_enterFailed (s.fence p) p).oper (by decide)
  have hready := (kp_updateReady (takeoverDropped ((s.fence p).enterFailed p))).oper (by decide)
  have hflag := (kp_flagRaise (lastPairFailed s p) Reg.CP_FLAGS_BOTH_LOST Ev.CP_BOTH_LOST).oper (by decide)
  have hsafe := (kp_pwmSafe ((lastPairFailed s p).flagRaise Reg.CP_FLAGS_BOTH_LOST Ev.CP_BOTH_LOST) .bothLost).oper (by decide)
  exact hsafe.trans (hflag.trans (hready.trans hfail))

/-- Both pairs are lost (R128). -/
theorem bothLost_shows {s : State} {p : PairId} (hs : s.regsOk) (hboot : s.oper ≠ .boot) :
    (s.bothLost p).pairState p = pairFailed ∧ (s.bothLost p).on (fenceFld p) = true ∧ (s.bothLost p).rd Reg.CP_FLAGS_BOTH_LOST = 1 ∧
      (s.bothLost p).pwmLatched = true ∧ (s.bothLost p).oper = .faultHold ∧ hasBit (s.bothLost p).safety.sf4 1 = true ∧
      s.memsSame (s.bothLost p) := by
  have hfailed : (lastPairFailed s p).regsOk := (writes_lastPairFailed s p).regsOk (keysRise_wr _ _ _ hs)
  have hdemand : (lossDemanded (lastPairFailed s p)).regsOk :=
    (writes_lossDemanded (fs := Reg.CP_FLAGS_BOTH_LOST :: safeFields) _ (by decide)).regsOk hfailed
  have hend := writes_lossHandled (fs := Reg.CP_FLAGS_BOTH_LOST :: safeFields) (lastPairFailed s p) (by decide)
  have hafter : Writes (AmongEv safeFields) ((lastPairFailed s p).flagRaise Reg.CP_FLAGS_BOTH_LOST Ev.CP_BOTH_LOST) (s.bothLost p) :=
    (((writes_pwmSafe _ .bothLost (by decide)).trans (Writes.of_regs (t := lossDemanded (lastPairFailed s p)) rfl)).trans
      (writes_faultHold _ (by decide))).trans (Writes.of_regs (fatalArmed_keeps (·.regs) _ rfl))
  obtain ⟨hstate, hfence⟩ := lastPairFailed_shows (p := p) hs
  obtain ⟨hoper, hlatched⟩ := faultHold_shows hdemand (by rw [lossDemanded_oper]; exact hboot)
  refine ⟨(hend.rd _ (by cases p <;> decide)).trans hstate, (hend.on (by cases p <;> decide)).trans hfence,
    (hafter.rd _ (by decide)).trans (rd_flagRaise_same hfailed (by decide) (by decide)), ?_, ?_, ?_, (kp_bothLost s p).memsSame (by decide)⟩
  · exact (fatalArmed_keeps (·.pwmLatched) _ rfl).trans hlatched
  · exact (fatalArmed_keeps (·.oper) _ rfl).trans hoper
  · obtain ⟨b, hb⟩ := faultHold_safety (lossDemanded (lastPairFailed s p))
    rw [bothLost_eq, fatalArmed_keeps (·.safety.sf4) _ rfl, hb]
    exact hasBit_setBit_same _ 1

/-- The state in which a fault's flag stands and `FAULT_PAIR` names the pair. -/
abbrev faultNamed (s : State) (p : PairId) (f : Fld) (ev : Nat) : State := (s.flagRaise f ev).wr Reg.CP_FLAGS_FAULT_PAIR (pairNum p)

/-- A fault of the active pair that no standby pair covers (R128). -/
theorem recordFault_alone {s : State} {p : PairId} {f : Fld} {ev : Nat} (code : Nat) (hf : f ∈ faultFlags) (hev : ev < 192)
    (hact : s.pairState p = pairActive) (hfence : s.on (fenceFld p) = false) (hpend : s.on Reg.CP_STATUS_TAKEOVER_PEND = false)
    (hready : s.on Reg.CP_STATUS_STANDBY_READY = false) :
    s.recordFault p f ev code = if code ≤ 3 then (faultNamed s p f ev).bothLost p else (faultNamed s p f ev).wantOrderly := by
  have hkeep {g : Fld} (hg : ¬ AmongEv faultFlags g.key) : (s.flagRaise f ev).rd g = s.rd g := rd_faultRecord_ne hf hev hg
  refine (recordFault_watched f ev code (pairWatched_active hact hfence)).trans (pairFault_alone code ?_ ?_ ?_)
  · exact (hkeep (by cases p <;> decide)).trans hact
  · rw [on, hkeep (by decide)]; exact hpend
  · rw [on, hkeep (by decide)]; exact hready

theorem writes_faultNamed {s : State} {p : PairId} {f : Fld} {ev : Nat} (hf : f ∈ faultFlags) (hev : ev < 192) :
    Writes (AmongEv [f, Reg.CP_FLAGS_FAULT_PAIR]) s (faultNamed s p f ev) :=
  (writes_faultRecord hf hev (by simp)).trans (Writes.wr _ (.inl ⟨Reg.CP_FLAGS_FAULT_PAIR, by simp, rfl⟩) (by decide))

theorem rd_faultNamed {s : State} {p : PairId} {f : Fld} {ev : Nat} (hf : f ∈ faultFlags) (hev : ev < 192) (hs : s.regsOk) :
    (faultNamed s p f ev).rd f = 1 := (rd_wr_ne _ _ (by revert f; decide)).trans (rd_faultRecord hf hev hs)

/-- An immediate fault of the last pair: both pairs are lost, with the flag of the fault (R121, R128). -/
theorem lastFault_shows {s : State} {p : PairId} {f : Fld} {ev code : Nat} (hf : f ∈ faultFlags) (hev : ev < 192) (hcode : code ≤ 3)
    (hs : s.regsOk) (hact : s.pairState p = pairActive) (hfence : s.on (fenceFld p) = false)
    (hpend : s.on Reg.CP_STATUS_TAKEOVER_PEND = false) (hready : s.on Reg.CP_STATUS_STANDBY_READY = false) (hboot : s.oper ≠ .boot) :
    ∃ t, s.recordFault p f ev code = t ∧ t.rd f = 1 ∧ t.pairState p = pairFailed ∧ t.on (fenceFld p) = true ∧
      t.rd Reg.CP_FLAGS_BOTH_LOST = 1 ∧ t.pwmLatched = true ∧ t.oper = .faultHold ∧ hasBit t.safety.sf4 1 = true ∧ s.memsSame t := by
  have hoper : (faultNamed s p f ev).oper = s.oper := (kp_flagRaise s f ev).oper (by decide)
  have hlost := bothLost_shows (p := p) ((writes_faultNamed (p := p) hf hev).regsOk hs) (by rw [hoper]; exact hboot)
  obtain ⟨hstate, hfence', hflag, hlatched, hhold, hsf4, hmems⟩ := hlost
  have hflags : ∀ g ∈ faultFlags, ¬ AmongEv (lossFields p) g.key := by cases p <;> decide
  refine ⟨_, (recordFault_alone code hf hev hact hfence hpend hready).trans (if_pos hcode), ?_, hstate, hfence', hflag, hlatched, hhold,
    hsf4, (memsSame_flagRaise s f ev).trans hmems⟩
  exact ((writes_bothLost _ p).rd f (hflags f hf)).trans (rd_faultNamed hf hev hs)

/-! ### The state sweep (R119, R120) -/

/-- Slices that are the same differ nowhere. -/
theorem firstDiff_self (l : List Nat) (i : Nat) : firstDiff l l i = none := by
  induction l generalizing i with
  | nil => rfl
  | cons a l ih => exact (if_pos rfl).trans (ih (i + 1))

/-- The slice of a pair has been captured (R119). -/
def sliceTaken (s : State) (p : PairId) (forced : Bool) : State :=
  (s.setPair p { s.pair p with swept := true }).when forced fun s => s.wr Reg.CP_FLAGS_SWEEP_FORCED 1

/-- The sweep of the active pair compares the words of the slice (R119, R120). -/
theorem sweep_active {s : State} {p : PairId} (main checker : List Nat) (forced : Bool) (hact : s.pairState p = pairActive)
    (hfence : s.on (fenceFld p) = false) (hen : s.on Reg.CP_SWEEP_EN = true) (hhalt : (s.pair p).halted = false)
    (hswept : (s.pair p).swept = false) :
    s.sweep p main checker forced = match firstDiff (main.take 8) (checker.take 8) 0 with
      | none => sliceTaken s p forced
      | some i => (((sliceTaken s p forced).wr Reg.CP_SWEEP_STATUS_WORD (8 * (sliceTaken s p forced).rd Reg.CP_SWEEP_STATUS_SLICE + i)).wr
          Reg.CP_SWEEP_STATUS_WHICH (pairNum p)).recordFault p Reg.CP_FLAGS_LATENT Ev.LATENT_MISMATCH 4 :=
  if_pos (by simp [pairRuns, hact, hfence, hen, hhalt, hswept])

/-- Equal copies leave only the capture. -/
theorem sweep_same {s : State} {p : PairId} (main : List Nat) (forced : Bool) (hact : s.pairState p = pairActive)
    (hfence : s.on (fenceFld p) = false) (hen : s.on Reg.CP_SWEEP_EN = true) (hhalt : (s.pair p).halted = false)
    (hswept : (s.pair p).swept = false) : s.sweep p main main forced = sliceTaken s p forced := by
  rw [sweep_active main main forced hact hfence hen hhalt hswept, firstDiff_self]

/-- A mismatch of word `i` of a slice is noted (R120). -/
def mismatchNoted (s : State) (p : PairId) (i : Nat) : State :=
  ((s.setPair p { s.pair p with swept := true }).wr Reg.CP_SWEEP_STATUS_WORD (8 * s.rd Reg.CP_SWEEP_STATUS_SLICE + i)).wr
    Reg.CP_SWEEP_STATUS_WHICH (pairNum p)

theorem sweep_mismatch {s : State} {p : PairId} {main checker : List Nat} {i : Nat} (hact : s.pairState p = pairActive)
    (hfence : s.on (fenceFld p) = false) (hen : s.on Reg.CP_SWEEP_EN = true) (hhalt : (s.pair p).halted = false)
    (hswept : (s.pair p).swept = false) (hdiff : firstDiff (main.take 8) (checker.take 8) 0 = some i) :
    s.sweep p main checker false = (mismatchNoted s p i).recordFault p Reg.CP_FLAGS_LATENT Ev.LATENT_MISMATCH 4 := by
  rw [sweep_active main checker false hact hfence hen hhalt hswept, hdiff, mismatchNoted]
  cases p <;> rfl

theorem writes_mismatchNoted (s : State) (p : PairId) (i : Nat) :
    Writes (AmongEv [Reg.CP_SWEEP_STATUS_WORD, Reg.CP_SWEEP_STATUS_WHICH]) s (mismatchNoted s p i) :=
  (Writes.setPair.trans (Writes.wr _ (by decide) (by decide))).trans (Writes.wr _ (by decide) (by decide))

theorem mismatchNoted_shows {s : State} {p : PairId} {i : Nat} (hs : s.regsOk) :
    (mismatchNoted s p i).rd Reg.CP_SWEEP_STATUS_WHICH = pairNum p ∧
      (mismatchNoted s p i).rd Reg.CP_SWEEP_STATUS_WORD = (8 * s.rd Reg.CP_SWEEP_STATUS_SLICE + i) % 256 := by
  have hok : (s.setPair p { s.pair p with swept := true }).regsOk := by rw [State.regsOk, setPair_regs]; exact hs
  exact ⟨(rd_wr_same _ _ _ (keysRise_wr _ _ _ hok)).trans (by cases p <;> rfl),
    (rd_wr_ne _ _ (by decide)).trans (rd_wr_same _ _ _ hok)⟩

theorem memsSame_mismatchNoted (s : State) (p : PairId) (i : Nat) : s.memsSame (mismatchNoted s p i) := by
  cases p <;> exact memsSame_refl s

/-- The immediate faults of a pair, each with its flag, its event and its code of `CP_TAKEOVER_LOG.CAUSE` (R121, R135). -/
abbrev immediateFaults (p : PairId) : List (Instr × Fld × Nat × Nat) :=
  [(.cpMismatch p, Reg.CP_FLAGS_MISMATCH, Ev.CP_MISMATCH, 1), (.cpAgreeFault p, Reg.CP_FLAGS_AGREE, Ev.CP_AGREE_FAULT, 2),
   (.cpTcmDed p, Reg.CP_FLAGS_TCM_DED, Ev.CP_MISMATCH, 3)]

theorem exec_immediateFault (s : State) {p : PairId} {x : Instr × Fld × Nat × Nat} (hx : x ∈ immediateFaults p) :
    exec x.1 s = .next (s.recordFault p x.2.1 x.2.2.1 x.2.2.2) ∧ x.2.1 ∈ faultFlags ∧ x.2.2.1 < 192 ∧ x.2.2.2 ≤ 3 := by
  simp only [List.mem_cons, List.not_mem_nil, or_false] at hx
  rcases hx with rfl | rfl | rfl
  all_goals exact ⟨rfl, by cases p <;> decide⟩

/-- Settles O8: each fault by its record and by whether a standby pair covers it. -/
theorem pairFaultsAreHandled : Obligations.PairFaultsAreHandled := by
  refine ⟨fun s p x hx hs hact hfence hpend hready => ?_, fun s p x hx hs hact hfence hpend hready hboot => ?_,
    fun s p hs hact hfence hpend hready => ?_, fun s p main checker i hs hact hfence hen hhalt hswept hdiff hpend hready => ?_,
    fun s p main hact hfence hen hhalt hswept => ⟨?_, ?_⟩, fun s p c hc hwatch => ?_, fun s ha hb => ?_, fun s p i v hwatch => ?_⟩
  · obtain ⟨hexec, hf, hev, hcode⟩ := exec_immediateFault s hx
    obtain ⟨t, ht, hflag, hwhich, hraised, hpend', hcause, hfence', hrest⟩ :=
      faultCovered_shows (code := x.2.2.2) hf hev hs hact hfence hpend hready
    exact ⟨t, hexec.trans (congrArg Host.Outcome.next ht), hflag, hwhich, hraised, hpend', hcause,
      hfence'.trans (decide_eq_true hcode), hrest⟩
  · obtain ⟨code, hcode⟩ : ∃ code, (x.1, x.2.1, x.2.2, code) ∈ immediateFaults p := by
      simp only [List.mem_cons, List.not_mem_nil, or_false] at hx
      rcases hx with rfl | rfl | rfl
      · exact ⟨1, by simp⟩
      · exact ⟨2, by simp⟩
      · exact ⟨3, by simp⟩
    obtain ⟨hexec, hf, hev, himm⟩ := exec_immediateFault s hcode
    obtain ⟨t, ht, hshow⟩ := lastFault_shows hf hev himm hs hact hfence hpend hready hboot
    exact ⟨t, hexec.trans (congrArg Host.Outcome.next ht), hshow⟩
  · have hf : Reg.CP_FLAGS_CHECKER ∈ faultFlags := by decide
    have hnamed := writes_faultNamed (s := s) (p := p) (ev := Ev.CHECKER_FAULT) hf (by decide)
    have hflagged : Writes (AmongEv [Reg.CP_FLAGS_CHECKER]) s (s.wr Reg.CP_FLAGS_CHECKER 1) := Writes.wr 1 (by decide) (by decide)
    have hend : Writes (AmongEv [Reg.CP_FLAGS_FAULT_PAIR]) (s.flagRaise Reg.CP_FLAGS_CHECKER Ev.CHECKER_FAULT)
        (faultNamed s p Reg.CP_FLAGS_CHECKER Ev.CHECKER_FAULT).wantOrderly :=
      (Writes.wr _ (by decide) (by decide)).trans (Writes.of_regs rfl)
    refine ⟨_, congrArg Host.Outcome.next ((recordFault_alone 5 hf (by decide) hact hfence hpend hready).trans (if_neg (by decide))), rfl,
      rd_faultNamed hf (by decide) hs, hflagged.raisedIn hend hs (by decide) (by decide), ?_, memsSame_flagRaise s _ _⟩
    exact (hnamed.trans (Writes.of_regs rfl)).regsButEv
  · have hnoted := writes_mismatchNoted s p i
    obtain ⟨hwhich, hword⟩ := mismatchNoted_shows (p := p) (i := i) hs
    obtain ⟨t, ht, hflag, -, hraised, hpend', hcause, hfence', hframe, hmems⟩ :=
      faultCovered_shows (s := mismatchNoted s p i) (p := p) (f := Reg.CP_FLAGS_LATENT) (ev := Ev.LATENT_MISMATCH) (code := 4) (by decide)
        (by decide) (hnoted.regsOk hs) ((hnoted.rd _ (by cases p <;> decide)).trans hact) ((hnoted.on (by cases p <;> decide)).trans hfence)
        ((hnoted.on (by decide)).trans hpend) ((hnoted.on (by decide)).trans hready)
    refine ⟨t, congrArg Host.Outcome.next ((sweep_mismatch hact hfence hen hhalt hswept hdiff).trans ht), hflag, ?_, ?_, hpend', hcause,
      hfence', fun g hg hb => ?_, (memsSame_mismatchNoted s p i).trans hmems⟩
    · exact (hframe _ (by cases p <;> decide) (by decide)).trans hwhich
    · exact (hframe _ (by cases p <;> decide) (by decide)).trans hword
    · exact hraised g hg (by rwa [eventTargets_of_rd _ (hnoted.rd _ (by decide))])
  · exact congrArg Host.Outcome.next (sweep_same main false hact hfence hen hhalt hswept)
  · exact congrArg Host.Outcome.next (sweep_same main true hact hfence hen hhalt hswept)
  · simp only [List.mem_cons, List.not_mem_nil, or_false] at hc
    rcases hc with rfl | rfl | rfl | rfl
    all_goals exact congrArg Host.Outcome.next (recordFault_unwatched _ _ _ hwatch)
  · have hfirst : s.comparatorTest .a true = s.setPair .a { s.pair .a with checked := true } := if_pos ha
    change Host.Outcome.next _ = _
    rw [hfirst]
    exact congrArg Host.Outcome.next (if_pos hb)
  · exact congrArg Host.Outcome.next (if_pos hwatch)

end Sys2Proof.Machine
end

section
/-! SUPPORT. Debug actions, the writes of the standby pair and the mirror window (R116, R117, R124, R125, R137). -/

set_option Elab.async false

open Sys2Proof.Machine.State

namespace Sys2Proof.Machine

/-! ### Debug (R116, R117) -/

theorem pair_debugRecord (s : State) (p : PairId) (a : DebugAction) (n : Nat) :
    (s.debugRecord p a n).pair p = { s.pair p with replay := (s.pair p).replay ++ [(a, n)] } := pair_setPair_same s p _

/-- A halt of the standby pair has been recorded, and the pair halted (R117). -/
def standbyHalted (s : State) (n : Nat) : State :=
  (s.debugRecord .b .halt n).setPair .b { (s.debugRecord .b .halt n).pair .b with halted := true }

/-- A halt of the standby pair leaves PWM alone (R117). -/
theorem debugHalt_standby {s : State} {n : Nat} (hst : s.pairState .b = pairStandby) :
    (s.debugRecord .b .halt n).debugHalt .b = (standbyHalted s n).haltStatus.updateReady := by
  have hnot : ((standbyHalted s n).pairState .b == pairActive) = false := by
    rw [show (standbyHalted s n).pairState .b = pairStandby from hst]
    rfl
  change ((standbyHalted s n).when ((standbyHalted s n).pairState .b == pairActive) fun s => s.pwmSafe .halt).haltStatus.updateReady = _
  rw [hnot, when_false]

/-- The registers and the pair after a halt of the standby pair (R117). -/
theorem debugHalt_standby_shows {s : State} {n : Nat} (hs : s.regsOk) :
    ((standbyHalted s n).haltStatus.updateReady).pairs.b.halted = true ∧
      ((standbyHalted s n).haltStatus.updateReady).pairs.b.replay = s.pairs.b.replay ++ [(.halt, n)] ∧
      ((standbyHalted s n).haltStatus.updateReady).rd Reg.CP_STATUS_HALTED = 1 ∧
      ((standbyHalted s n).haltStatus.updateReady).rd Reg.CP_STATUS_STANDBY_READY = 0 := by
  have hpairs := haltStatus_pairs (standbyHalted s n)
  have hany : (standbyHalted s n).anyHalted = true := Bool.or_true _
  have hheld : ((standbyHalted s n).haltStatus.updateReady).held = (standbyHalted s n).held := by
    rw [held_updateReady, held, held, hpairs]
  have hb := pair_eq_of_held hheld .b
  have hok : (standbyHalted s n).haltStatus.regsOk := (writes_haltStatus (W := Among haltFields) _ (by decide)).regsOk hs
  refine ⟨congrArg PairSt.halted hb, congrArg PairSt.replay hb, ?_, ?_⟩
  · refine ((writes_updateReady (fs := [Reg.CP_STATUS_STANDBY_READY]) _ (by decide)).rd _ (by decide)).trans ?_
    rw [rd_haltStatus (s := standbyHalted s n) hs, hany]
    rfl
  · rw [rd_updateReady hok, readyNow_of_halted ((anyHalted_of_pairs hpairs).trans hany)]
    rfl

/-- A halted pair has resumed (R117). -/
def resumed (s : State) (p : PairId) (n : Nat) : State :=
  { (s.debugRecord p .resume n).setPair p { (s.debugRecord p .resume n).pair p with halted := false } with
    pairs := { ((s.debugRecord p .resume n).setPair p { (s.debugRecord p .resume n).pair p with halted := false }).pairs with
      resumeWait := true } }

theorem debugResume_halted {s : State} {p : PairId} {n : Nat} (h : (s.pair p).halted = true) :
    (s.debugRecord p .resume n).debugResume p = (resumed s p n).haltStatus :=
  if_pos (by rw [pair_debugRecord]; exact h)

theorem resumed_regs (s : State) (p : PairId) (n : Nat) : (resumed s p n).regs = s.regs := by cases p <;> rfl

theorem resumed_anyHalted {s : State} {p : PairId} {n : Nat} (h : (s.pair p.other).halted = false) : (resumed s p n).anyHalted = false := by
  cases p
  · exact (Bool.false_or _).trans h
  · exact (Bool.or_false _).trans h

theorem resumed_halted (s : State) (p : PairId) (n : Nat) : ((resumed s p n).pair p).halted = false := by cases p <;> rfl

/-! ### The mirror window and the standby pair (R124, R125) -/

/-- A store of the active pair that lies wholly in the mirror window is made in the TCM of the standby pair too (R125). -/
theorem mirrorStore_standby {s : State} {p : PairId} {a : Nat} {data : List Byte} (hact : s.pairState p = pairActive)
    (hfence : s.on (fenceFld p) = false) (hst : s.pairState p.other = pairStandby) (hin : ∀ i < data.length, s.inMirror (a + i) = true) :
    s.mirrorStore p a data = (s.tcmWrite p a data).tcmWrite p.other a data := by
  have hinside : ((List.range data.length).all fun i => s.inMirror (a + i)) = true := by simpa using hin
  have hregs : (s.tcmWrite p a data).regs = s.regs := by
    unfold tcmWrite
    split
    · exact setTcm_regs _ _ _
    · exact setTcm_regs _ _ _
  have hst' : (s.tcmWrite p a data).pairState p.other = pairStandby := by rw [State.pairState, rd_eq, hregs, ← rd_eq]; exact hst
  refine (if_pos (by simp [hact, hfence, hinside])).trans ?_
  rw [hst']
  rfl

/-- A write of the standby pair to its own TCM outside the mirror window is made (R124). -/
theorem standbyWrite_own {s : State} {p : PairId} {a : Nat} (v : Nat) (hst : s.pairState p = pairStandby) (hfence : s.on (fenceFld p) = false)
    (ha : a < tcmSize) (hmirror : s.inMirror a = false) : s.standbyWrite p a v = State.tcmWrite s.acked p a (leBytes 4 v) :=
  (if_pos (by simp [hst, hfence])).trans (if_pos (by simp [ha, hmirror]))

/-- A write of the standby pair beyond its TCM and the pending words of target 0 is counted (R124). -/
theorem standbyWrite_suppressed {s : State} {p : PairId} {a : Nat} (v : Nat) (hst : s.pairState p = pairStandby)
    (hfence : s.on (fenceFld p) = false) (ha : tcmSize ≤ a) (hplace : a < 0x400B0300 ∨ 0x400B0318 ≤ a) :
    s.standbyWrite p a v = s.acked.incSat Reg.CP_SUPPRESS_COUNT_COUNT :=
  (if_pos (by simp [hst, hfence])).trans ((if_neg (by simp; omega)).trans (if_neg (by simp; omega)))

/-- Settles O9: each command by its operation, the halt of the standby pair and the resume by what they show. -/
theorem pairDebugAndStandbyCommandsAct : Obligations.PairDebugAndStandbyCommandsAct := by
  refine ⟨fun s p n htakes x hx => ?_, fun s p n htakes x hx => ?_, fun s n hs htakes hst => ?_, fun s p n htakes _ hhalt hs hother => ?_,
    fun s p => rfl, fun s p a v hst hfence ha hmirror => ?_, fun s p a v hst hfence hlo hplace => ?_,
    fun s p a data hact hfence hst hin => ?_, fun s p hint => ?_, fun s hwait => ?_, fun s m b n hr hrun => ?_, fun s m b n hr hrun => ?_,
    fun s m hm hr => ⟨?_, ?_, ?_⟩⟩
  · simp only [List.mem_cons, List.not_mem_nil, or_false] at hx
    rcases hx with rfl | rfl | rfl
    all_goals exact congrArg Host.Outcome.next (if_pos htakes)
  · simp only [List.mem_cons, List.not_mem_nil, or_false] at hx
    rcases hx with rfl | rfl | rfl | rfl | rfl
    all_goals exact congrArg Host.Outcome.next (if_neg (ne_true_of_eq_false htakes))
  · have hexec : exec (.debugHalt .b n) s = .next (standbyHalted s n).haltStatus.updateReady :=
      congrArg Host.Outcome.next ((if_pos htakes).trans (debugHalt_standby hst))
    obtain ⟨hhalted, hreplay, hshown, hready⟩ := debugHalt_standby_shows (n := n) hs
    exact ⟨_, hexec, hhalted, hreplay, hshown, hready, (kp_execDebugHalt _ _ _ _ hexec).memsSame (by decide)⟩
  · have hexec : exec (.debugResume p n) s = .next (resumed s p n).haltStatus :=
      congrArg Host.Outcome.next ((if_pos htakes).trans (debugResume_halted hhalt))
    have hpairs := haltStatus_pairs (resumed s p n)
    have hok : (resumed s p n).regsOk := by rw [State.regsOk, resumed_regs]; exact hs
    have hframe : Writes (Among haltFields) s (resumed s p n).haltStatus :=
      (Writes.of_regs (resumed_regs s p n)).trans (writes_haltStatus _ (by decide))
    refine ⟨_, hexec, ?_, by rw [hpairs]; rfl, ?_, hframe.regsBut, (kp_execDebugResume _ _ _ _ hexec).memsSame (by decide)⟩
    · rw [pair_of_pairs hpairs]
      exact resumed_halted s p n
    · rw [rd_haltStatus hok, resumed_anyHalted hother]
      rfl
  · exact congrArg Host.Outcome.next (standbyWrite_own v hst hfence ha hmirror)
  · exact congrArg Host.Outcome.next (standbyWrite_suppressed v hst hfence hlo hplace)
  · exact congrArg Host.Outcome.next (mirrorStore_standby hact hfence hst hin)
  · exact congrArg Host.Outcome.next (if_pos hint)
  · exact congrArg Host.Outcome.next (if_pos hwait)
  · change Host.Outcome.next _ = _
    rw [access_allow _ hr]
    exact congrArg Host.Outcome.next (if_neg (ne_true_of_eq_false hrun))
  · change Host.Outcome.next _ = _
    rw [access_allow _ hr]
    exact congrArg Host.Outcome.next (if_pos hrun)
  · change Host.Outcome.next _ = _
    rw [accessCrOnly_allow _ hm hr]
  · change Host.Outcome.next _ = _
    rw [accessCrOnly_allow _ hm hr]
  · change Host.Outcome.next _ = _
    rw [accessCrOnly_allow _ hm hr]

end Sys2Proof.Machine
end

section
/-! SUPPORT. The states of a pair (R126 to R128, R133, R134): enable, self-test, activation, release, takeover and the orderly safe
state; the application of a setpoint (R51). -/

set_option Elab.async false

open Sys2Proof.Machine.State

namespace Sys2Proof.Machine

/-! ### Enable, self-test and activation (R133) -/

/-- An enable that nothing refuses puts a pair that is off into SELFTEST (R133, R435, R483). -/
theorem pairEnableCmd_off {s : State} {p : PairId} {img : LoadedImage} (hoff : s.pairState p = pairOff) (hramp : s.rampWide = false)
    (hpower : s.power = .run) (himg : nth s.sec.loaded 1 none = some img) :
    s.pairEnableCmd p = (s.wr (enFld p) 1).enterSelftest p := by
  have hoff' : (s.wr (enFld p) 1).pairState p = pairOff := (rd_wr_ne _ _ (by cases p <;> decide)).trans hoff
  rw [pairEnableCmd, hramp, hpower, himg]
  exact if_pos hoff'

/-- A finished self-test is shown (R133). -/
def testShown (s : State) (p : PairId) (pass : Bool) : State := (s.wr (doneFld p) 1).wr (passFld p) (b2n pass)

theorem writes_testShown {fs : List Fld} (s : State) (p : PairId) (pass : Bool) (hW : ∀ f ∈ [doneFld p, passFld p], AmongEv fs f.key) :
    Writes (AmongEv fs) s (testShown s p pass) :=
  (Writes.wr 1 (hW _ (by simp)) (by cases p <;> decide)).trans (Writes.wr _ (hW _ (by simp)) (by cases p <;> decide))

theorem testShown_shows {s : State} {p : PairId} {pass : Bool} (hs : s.regsOk) :
    (testShown s p pass).on (doneFld p) = true ∧ (testShown s p pass).on (passFld p) = pass := by
  have hdone : (s.wr (doneFld p) 1).regsOk := keysRise_wr _ _ _ hs
  refine ⟨on_of_rd ((rd_wr_ne _ _ (by cases p <;> decide)).trans ((rd_wr_same _ _ _ hs).trans (by cases p <;> rfl))), ?_⟩
  rw [on, testShown, rd_wr_same _ _ _ hdone]
  cases p <;> cases pass <;> rfl

/-- The pair moves on after its self-test, with the event (R133). -/
def testEnded (s : State) (p : PairId) (pass : Bool) (st : Nat) : State := ((testShown s p pass).setPairState p st).raise Ev.CP_REJOIN

/-- A self-test that has not been judged before: the pair that fails it is FAILED (R133). -/
theorem selftestDone_failed {s : State} {p : PairId} (hst : s.pairState p = pairSelftest) (hpassed : (s.pair p).passed = false) :
    s.selftestDone p false = testEnded s p false pairFailed := if_pos (by simp [hst, hpassed])

/-- The pair that passes it joins an active pair (R133). -/
theorem selftestDone_joins {s : State} {p : PairId} (hst : s.pairState p = pairSelftest) (hpassed : (s.pair p).passed = false)
    (hother : s.pairState p.other = pairActive) :
    s.selftestDone p true = testEnded s p true pairSync := by
  have hother' : (testShown s p true).pairState p.other = pairActive :=
    ((writes_testShown (fs := [doneFld p, passFld p]) s p true (by cases p <;> decide)).rd _ (by cases p <;> decide)).trans hother
  exact (if_pos (by simp [hst, hpassed])).trans (congrArg (State.raise · Ev.CP_REJOIN) (if_pos hother'))

/-- The pair's registers at the end of a self-test after which the pair moves to `st`. -/
theorem selftestDone_shows {s : State} {p : PairId} {pass : Bool} {st : Nat} (hs : s.regsOk) (hst : st < 8) :
    (testEnded s p pass st).pairState p = st ∧ (testEnded s p pass st).on (passFld p) = pass ∧
      (testEnded s p pass st).on (doneFld p) = true ∧ s.raisedIn (testEnded s p pass st) Ev.CP_REJOIN := by
  have hshown := writes_testShown (fs := doneFld p :: passFld p :: pairStateFld p :: moveFields p) s p pass (by cases p <;> decide)
  have hmove {fs : List Fld} (h : ∀ f ∈ pairStateFld p :: moveFields p, AmongEv fs f.key) :
      Writes (AmongEv fs) (testShown s p pass) ((testShown s p pass).setPairState p st) := writes_setPairState _ p st h
  have hraise {fs : List Fld} (u : State) : Writes (AmongEv fs) u (u.raise Ev.CP_REJOIN) := Writes.raise amongEv_ev (by decide)
  have hend := (hmove (fs := pairStateFld p :: moveFields p) (by cases p <;> decide)).trans (hraise _)
  obtain ⟨hdone, hpass⟩ := testShown_shows (p := p) (pass := pass) hs
  refine ⟨((hraise (fs := []) _).rd _ (by cases p <;> decide)).trans (pairState_setPairState (hshown.regsOk hs) hst),
    (hend.on (by cases p <;> decide)).trans hpass, (hend.on (by cases p <;> decide)).trans hdone, ?_⟩
  exact (hshown.trans (hmove (by cases p <;> decide))).raisedIn (W := AmongEv (doneFld p :: passFld p :: pairStateFld p :: moveFields p))
    (Writes.refl (W := fun _ => False)) hs (by decide) (by cases p <;> decide)

/-- A pair that has passed its test is active, before `STANDBY_READY` follows (R133). -/
def activated (s : State) (p : PairId) : State :=
  ((s.setPair p { s.pair p with passed := false }).setPairState p pairActive).setPair p
    { ((s.setPair p { s.pair p with passed := false }).setPairState p pairActive).pair p with role := 1 }

theorem pairActivate_first {s : State} {p : PairId} (hst : s.pairState p = pairSelftest) (hpassed : (s.pair p).passed = true)
    (hother : s.pairState p.other ≠ pairActive) : s.pairActivate p = (activated s p).updateReady := by
  have hother' : (s.setPair p { s.pair p with passed := false }).pairState p.other ≠ pairActive := by rw [pairState_setPair]; exact hother
  exact (if_pos (by simp [hst, hpassed])).trans (if_neg hother')

/-- The pair and the registers once the pair is active (R133). -/
theorem activated_shows {s : State} {p : PairId} (hs : s.regsOk) :
    (activated s p).updateReady.pairState p = pairActive ∧ (activated s p).updateReady.cpRun = true ∧
      (activated s p).updateReady.rd Reg.CP_STATUS_ACTIVE = pairNum p ∧ ((activated s p).updateReady.pair p).role = 1 ∧
      ((activated s p).updateReady.pair p).passed = false := by
  have hok : (s.setPair p { s.pair p with passed := false }).regsOk := by rw [State.regsOk, setPair_regs]; exact hs
  have hend : Writes (AmongEv [Reg.CP_STATUS_STANDBY_READY]) ((s.setPair p { s.pair p with passed := false }).setPairState p pairActive)
      (activated s p).updateReady := Writes.setPair.trans (writes_updateReady _ (by decide))
  have hpair : ((s.setPair p { s.pair p with passed := false }).setPairState p pairActive).pair p = { s.pair p with passed := false } :=
    (pair_of_pairs (setPairState_pairs _ p _) p).trans (pair_setPair_same s p _)
  have hact : (activated s p).pair p = { s.pair p with passed := false, role := 1 } := by
    rw [activated, pair_setPair_same, hpair]
  have hheld := pair_eq_of_held (held_updateReady (activated s p)) p
  rw [hact] at hheld
  obtain ⟨hactive, hrun⟩ := setPairState_active_shows p hok
  exact ⟨(hend.rd _ (by cases p <;> decide)).trans (pairState_setPairState hok (by decide)), (hend.on (by decide)).trans hrun,
    (hend.rd _ (by decide)).trans hactive, congrArg PairSt.role hheld, congrArg PairSt.passed hheld⟩

/-- What follows an activation leaves the registers and the pairs: MC loads the TCM, and the operating state settles (R133, R411). -/
theorem loadedAndSettled_keeps (s : State) (p : PairId) :
    ((s.tcmLoad p).operSettle).regs = s.regs ∧ ((s.tcmLoad p).operSettle).pairs = s.pairs := by
  have hload : (s.tcmLoad p).regs = s.regs := by
    unfold tcmLoad
    split
    · rfl
    · exact setTcm_regs _ _ _
  have hreconnect (s : State) : s.autoReconnect.regs = s.regs := by
    unfold autoReconnect
    split <;> rfl
  have hsettle (s : State) : s.operSettle.regs = s.regs := by
    unfold operSettle
    split
    · exact hreconnect _
    · rfl
  exact ⟨(hsettle _).trans hload, ((kp_operSettle _).pairs (by decide)).trans ((kp_tcmLoad s p).pairs (by decide))⟩

/-- The activation of a pair that has passed its test (R133). -/
theorem exec_cpActivate_first {s : State} {p : PairId} (hs : s.regsOk) (hst : s.pairState p = pairSelftest) (hpassed : (s.pair p).passed = true)
    (hother : s.pairState p.other ≠ pairActive) :
    exec (.cpActivate p) s = .next (((activated s p).updateReady.tcmLoad p).operSettle) := by
  have hact := pairActivate_first hst hpassed hother
  have hnow : (s.pairState p != pairActive && (s.pairActivate p).pairState p = pairActive) = true := by
    obtain ⟨hstate, -⟩ := activated_shows (p := p) hs
    rw [hact, hstate, hst]
    rfl
  change Host.Outcome.next (if s.pairState p != pairActive && (s.pairActivate p).pairState p = pairActive then
    ((s.pairActivate p).tcmLoad p).operSettle else s.pairActivate p) = _
  rw [if_pos hnow, hact]

/-! ### Standby, takeover and release (R126 to R128, R134) -/

/-- The full copy of the TCM is complete (R126). -/
theorem syncCopied_active {s : State} {p : PairId} (hst : s.pairState p = pairSync) (hother : s.pairState p.other = pairActive)
    (hcopied : (s.pair p).copied = false) : s.syncCopied p = (s.setTcm p (s.tcm p.other)).setPair p
      { s.pair p with copied := true, tcmGen := (s.pair p.other).tcmGen } := by
  refine (if_pos (by simp [hst, hother, hcopied])).trans ?_
  cases p <;> rfl

/-- A copied pair stands by (R124, R126). -/
def stoodBy (s : State) (p : PairId) : State :=
  (s.setPairState p pairStandby).setPair p
    { (s.setPairState p pairStandby).pair p with copied := false, pend := List.replicate 6 0, role := 0 }

theorem standbyEnter_copied {s : State} {p : PairId} (hst : s.pairState p = pairSync) (hcopied : (s.pair p).copied = true) :
    s.standbyEnter p = ((stoodBy s p).raise Ev.CP_REJOIN).updateReady := if_pos (by simp [hst, hcopied])

theorem stoodBy_shows {s : State} {p : PairId} (hs : s.regsOk) :
    ((stoodBy s p).raise Ev.CP_REJOIN).updateReady.pairState p = pairStandby ∧
      (((stoodBy s p).raise Ev.CP_REJOIN).updateReady.pair p).copied = false ∧
      s.raisedIn ((stoodBy s p).raise Ev.CP_REJOIN).updateReady Ev.CP_REJOIN := by
  have hbegun : Writes (AmongEv [pairStateFld p, Reg.CROSS_CTRL_CP_RUN]) s (stoodBy s p) :=
    (writes_setPairState_idle s p (by decide) (by decide) (by cases p <;> decide)).trans Writes.setPair
  have hready : Writes (AmongEv [Reg.CP_STATUS_STANDBY_READY]) ((stoodBy s p).raise Ev.CP_REJOIN)
      ((stoodBy s p).raise Ev.CP_REJOIN).updateReady := writes_updateReady _ (by decide)
  have hend : Writes (AmongEv [Reg.CP_STATUS_STANDBY_READY]) (s.setPairState p pairStandby)
      ((stoodBy s p).raise Ev.CP_REJOIN).updateReady := (Writes.setPair.trans (Writes.raise amongEv_ev (by decide))).trans hready
  have hheld := pair_eq_of_held ((held_updateReady _).trans (held_raise (stoodBy s p) Ev.CP_REJOIN)) p
  refine ⟨(hend.rd _ (by cases p <;> decide)).trans (pairState_setPairState hs (by decide)), (congrArg PairSt.copied hheld).trans ?_,
    hbegun.raisedIn hready hs (by decide) (by cases p <;> decide)⟩
  exact congrArg PairSt.copied (pair_setPair_same (s.setPairState p pairStandby) p _)

/-- The active pair has stopped for its release, and no takeover is pending (R134). -/
def releaseBegun (s : State) (p : PairId) : State := takeoverDropped ((s.wr (enFld p) 0).pairStops p)

/-- The active pair has been released, before `STANDBY_READY` follows (R134). -/
def released (s : State) (p : PairId) : State := (releaseBegun s p).setPairState p pairOff

theorem pairDisable_released {s : State} {p : PairId} (hact : s.pairState p = pairActive) (hallow : s.releaseAllowed = true) :
    s.pairDisable p = (released s p).updateReady := (if_pos hact).trans (if_pos hallow)

theorem pairDisable_refused {s : State} {p : PairId} (hact : s.pairState p = pairActive) (hallow : s.releaseAllowed = false) :
    s.pairDisable p = s.wr Reg.CP_FLAGS_CMD_REFUSED 1 := (if_pos hact).trans (if_neg (ne_true_of_eq_false hallow))

/-- The active pair is released only where PWM is latched safe and the channel neither closes nor has closed a relay (R134). -/
theorem releaseAllowed_iff (s : State) : s.releaseAllowed = true ↔
    s.on Reg.PWM_SAFE_STATUS_LATCHED = true ∧ s.rd Reg.SAFE_STATE_STATE ≠ 3 ∧ s.rd Reg.SAFE_STATE_STATE ≠ 4 := by
  simp [releaseAllowed, and_assoc]

theorem writes_releaseBegun (s : State) (p : PairId) :
    Writes (AmongEv (Reg.CP_STATUS_TAKEOVER_PEND :: haltFields)) (s.wr (enFld p) 0) (releaseBegun s p) :=
  (writes_pairStops _ p (by decide)).trans (writes_takeoverDropped _ (by decide))

theorem writes_released {fs : List Fld} (s : State) (p : PairId)
    (hW : ∀ f ∈ [pairStateFld p, Reg.CROSS_CTRL_CP_RUN, Reg.CP_STATUS_STANDBY_READY], AmongEv fs f.key) :
    Writes (AmongEv fs) (releaseBegun s p) (released s p).updateReady :=
  (writes_setPairState_idle _ p (by decide) (by decide) fun f hf => hW f (by simp only [List.mem_cons] at hf ⊢; tauto)).trans
    (writes_updateReady _ (hW _ (by simp)))

/-- The registers of a pair that has been released (R134). -/
theorem released_shows {s : State} {p : PairId} (hs : s.regsOk) :
    (released s p).updateReady.pairState p = pairOff ∧ (released s p).updateReady.on (enFld p) = false ∧
      (released s p).updateReady.rd Reg.CP_STATUS_TAKEOVER_PEND = 0 := by
  have hoff : (s.wr (enFld p) 0).regsOk := keysRise_wr _ _ _ hs
  have hbegun := writes_releaseBegun s p
  have hstopped : ((s.wr (enFld p) 0).pairStops p).regsOk := (writes_pairStops (W := Among haltFields) _ p (by decide)).regsOk hoff
  have hready : Writes (AmongEv [Reg.CP_STATUS_STANDBY_READY]) (released s p) (released s p).updateReady := writes_updateReady _ (by decide)
  have hmove := writes_released (fs := [pairStateFld p, Reg.CROSS_CTRL_CP_RUN, Reg.CP_STATUS_STANDBY_READY]) s p (by cases p <;> decide)
  refine ⟨(hready.rd _ (by cases p <;> decide)).trans (pairState_setPairState (hbegun.regsOk hoff) (by decide)), ?_,
    (hmove.rd _ (by cases p <;> decide)).trans (rd_takeoverDropped hstopped)⟩
  rw [hmove.on (by cases p <;> decide), hbegun.on (by cases p <;> decide), on, rd_wr_same _ _ _ hs, Nat.zero_mod]
  rfl

/-! ### The takeover (R127) -/

/-- The standby pair is active and the old one fenced, at the new placement epoch (R127). -/
def takenOver (s : State) (old : PairId) : State := (s.epochInc.fence old).setPairState old.other pairActive

/-- The pending words of target 0 are those that the new pair held (R124, R127). -/
def pendsTaken (s : State) (p : PairId) : State :=
  s.forEach (List.range 6) fun s w => s.wr (Reg.EVF_PEND_PEND 0 w) (nth (s.pair p).pend w 0)

/-- The takeover interrupt of the new pair is pending (R127). -/
def interrupted (s : State) (p : PairId) : State := s.setPair p { s.pair p with interrupt := true, pend := List.replicate 6 0 }

/-- The new pair has been given the control (R127). -/
def handedOver (s : State) (old : PairId) : State := interrupted (pendsTaken (takenOver s old) old.other) old.other

/-- The takeover has been handled and is logged (R127). -/
def takeoverLogged (s : State) (code : Nat) : State :=
  ((State.wr { s with pairs := { s.pairs with cause := 0 } } Reg.CP_STATUS_TAKEOVER_PEND 0).incSat Reg.CP_TAKEOVER_LOG_COUNT).wr
    Reg.CP_TAKEOVER_LOG_CAUSE code

/-- The boundary of the takeover is noted, and its event raised (R127). -/
def takeoverNoted (s : State) : State :=
  (s.wr Reg.CP_TAKEOVER_FRAME_COUNT (s.rd Reg.ORB_FRAME_COUNT)).updateReady.raise Ev.CP_TAKEOVER

theorem takeover_eq (s : State) (old : PairId) :
    s.takeover old = takeoverNoted (takeoverLogged ((handedOver s old).rejoinRule old) s.pairs.cause) := rfl

/-- The pending words are the only registers that the takeover of the pending set writes. -/
theorem pendsTaken_rd (s : State) (p : PairId) {f : Fld} (hf : ¬ evKey f.key) : (pendsTaken s p).rd f = s.rd f :=
  forEach_keeps_mem (State.rd · f) _ (fun s w hw => rd_wr_ne s _ fun h => hf (by
    rw [h]
    have := List.mem_range.mp hw
    simp only [evKey, Fld.key]
    omega)) s

theorem regsOk_pendsTaken {s : State} (p : PairId) (h : s.regsOk) : (pendsTaken s p).regsOk := by
  have hloop : ∀ (l : List Nat) (s : State), s.regsOk →
      (s.forEach l fun s w => s.wr (Reg.EVF_PEND_PEND 0 w) (nth (s.pair p).pend w 0)).regsOk := by
    intro l
    induction l with
    | nil => exact fun s hs => hs
    | cons w l ih => exact fun s hs => ih _ (keysRise_wr _ _ _ hs)
  exact hloop _ s h

theorem writes_takenOver (s : State) (old : PairId) :
    Writes (AmongEv (pairStateFld old.other :: moveFields old.other)) (s.epochInc.fence old) (takenOver s old) :=
  writes_setPairState _ old.other pairActive (by cases old <;> decide)

/-- The registers once the standby pair is active (R100, R127). -/
theorem takenOver_shows {s : State} {old : PairId} (hs : s.regsOk) (hepoch : s.orbit.epochDone = false) :
    (takenOver s old).regsOk ∧ (takenOver s old).pairState old.other = pairActive ∧ (takenOver s old).rd (fenceFld old) = 1 ∧
      (takenOver s old).rd Reg.CP_STATUS_ACTIVE = pairNum old.other ∧
      (takenOver s old).rd Reg.ORB_EPOCH_EPOCH = (s.rd Reg.ORB_EPOCH_EPOCH + 1) % 256 := by
  have hinc : s.epochInc.regs = (s.wr Reg.ORB_EPOCH_EPOCH (s.rd Reg.ORB_EPOCH_EPOCH + 1)).regs := by
    rw [epochInc, if_neg (ne_true_of_eq_false hepoch)]
    rfl
  have hincOk : s.epochInc.regsOk := by
    rw [State.regsOk, hinc]
    exact keysRise_wr _ _ _ hs
  have hfenced : (s.epochInc.fence old).regsOk := keysRise_wr _ _ _ hincOk
  have hmove := writes_takenOver s old
  refine ⟨hmove.regsOk hfenced, pairState_setPairState hfenced (by decide), ?_, (setPairState_active_shows _ hfenced).1, ?_⟩
  · exact (hmove.rd _ (by cases old <;> decide)).trans ((rd_wr_same _ _ _ hincOk).trans (by cases old <;> rfl))
  · refine (hmove.rd _ (by cases old <;> decide)).trans ((rd_wr_ne _ _ (by cases old <;> decide)).trans ?_)
    rw [rd_eq, hinc, ← rd_eq]
    exact rd_wr_same _ _ _ hs

/-- The registers that the end of a takeover writes. -/
abbrev logFields : List Fld :=
  [Reg.CP_STATUS_TAKEOVER_PEND, Reg.CP_TAKEOVER_LOG_COUNT, Reg.CP_TAKEOVER_LOG_CAUSE, Reg.CP_TAKEOVER_FRAME_COUNT, Reg.CP_STATUS_STANDBY_READY]

theorem writes_takeoverLogged {fs : List Fld} (s : State) (code : Nat) (hW : ∀ f ∈ logFields, AmongEv fs f.key) :
    Writes (AmongEv fs) s (takeoverLogged s code) := by
  have hcause : Writes (AmongEv fs) s { s with pairs := { s.pairs with cause := 0 } } := Writes.of_regs rfl
  exact ((hcause.trans (Writes.wr 0 (hW _ (by decide)) (by decide))).trans (Writes.wr _ (hW _ (by decide)) (by decide))).trans
    (Writes.wr code (hW _ (by decide)) (by decide))

theorem writes_takeoverNoted {fs : List Fld} (s : State)
    (hW : ∀ f ∈ [Reg.CP_TAKEOVER_FRAME_COUNT, Reg.CP_STATUS_STANDBY_READY], AmongEv fs f.key) : Writes (AmongEv fs) s (takeoverNoted s) :=
  ((Writes.wr _ (hW _ (by decide)) (by decide)).trans (writes_updateReady _ (hW _ (by decide)))).trans (Writes.raise amongEv_ev (by decide))

/-- The log of a takeover (R127). -/
theorem takeoverLogged_shows {s : State} {code : Nat} (hs : s.regsOk) :
    (takeoverNoted (takeoverLogged s code)).rd Reg.CP_STATUS_TAKEOVER_PEND = 0 ∧
      (takeoverNoted (takeoverLogged s code)).rd Reg.CP_TAKEOVER_LOG_CAUSE = code % 8 := by
  have hpend : (State.wr { s with pairs := { s.pairs with cause := 0 } } Reg.CP_STATUS_TAKEOVER_PEND 0).regsOk := keysRise_wr _ _ _ hs
  have hend := writes_takeoverNoted (fs := [Reg.CP_TAKEOVER_FRAME_COUNT, Reg.CP_STATUS_STANDBY_READY]) (takeoverLogged s code) (by decide)
  refine ⟨(hend.rd _ (by decide)).trans ?_, (hend.rd _ (by decide)).trans (rd_wr_same _ _ _ (keysRise_wr _ _ _ hpend))⟩
  exact (rd_wr_ne _ _ (by decide)).trans ((rd_wr_ne _ _ (by decide)).trans (rd_wr_same _ _ _ hs))

/-- What the engines and Eclipse do at a takeover moves no register and nothing that the supervisor holds (R160, R291). -/
theorem takeoverMarked_keeps (s : State) : (((s.takeoverMark 0).takeoverMark 1).eeTakeover).regs = s.regs ∧
    (((s.takeoverMark 0).takeoverMark 1).eeTakeover).pairs = s.pairs := by
  have hmark (s : State) (e : Nat) : (s.takeoverMark e).regs = s.regs := by
    simp only [takeoverMark, setLe]
    split
    · split <;> rfl
    · rfl
  exact ⟨(hmark _ 1).trans (hmark s 0), ((kp_takeoverMark _ 1).pairs (by decide)).trans ((kp_takeoverMark s 0).pairs (by decide))⟩

/-- The registers and the pairs after a takeover (R127). -/
theorem takeover_shows {s : State} {old : PairId} (hs : s.regsOk) (hepoch : s.orbit.epochDone = false) :
    (s.takeover old).pairState old.other = pairActive ∧ (s.takeover old).pairState old ≠ pairActive ∧
      (s.takeover old).on (fenceFld old) = true ∧ (s.takeover old).rd Reg.CP_STATUS_ACTIVE = pairNum old.other ∧
      (s.takeover old).rd Reg.ORB_EPOCH_EPOCH = (s.rd Reg.ORB_EPOCH_EPOCH + 1) % 256 ∧
      (s.takeover old).rd Reg.CP_STATUS_TAKEOVER_PEND = 0 ∧ (s.takeover old).rd Reg.CP_TAKEOVER_LOG_CAUSE = s.pairs.cause % 8 ∧
      ((s.takeover old).pair old.other).interrupt = true := by
  obtain ⟨hok, hstate, hfence, hactive, hinc⟩ := takenOver_shows (old := old) hs hepoch
  have hhanded : (handedOver s old).regsOk := by
    rw [State.regsOk, handedOver, interrupted, setPair_regs]
    exact regsOk_pendsTaken _ hok
  obtain ⟨hrule, hother⟩ := rejoinRule_shows (p := old) hhanded
  have hrejoin := writes_rejoinRule (fs := rejoinFields old) (handedOver s old) old
    (by cases old <;> decide)
  have hlog : Writes (AmongEv logFields) ((handedOver s old).rejoinRule old) (s.takeover old) := by
    rw [takeover_eq]
    exact (writes_takeoverLogged _ s.pairs.cause (by decide)).trans (writes_takeoverNoted _ (by decide))
  have hsame {f : Fld} (hf : ¬ AmongEv logFields f.key) (hf' : ¬ AmongEv (rejoinFields old) f.key) :
      (s.takeover old).rd f = (takenOver s old).rd f := by
    rw [hlog.rd f hf, hrejoin.rd f hf', rd_eq, handedOver, interrupted, setPair_regs, ← rd_eq]
    exact pendsTaken_rd _ _ fun h => hf (.inr h)
  obtain ⟨hpend, hcause⟩ := takeoverLogged_shows (code := s.pairs.cause) (hrejoin.regsOk hhanded)
  refine ⟨(hsame (by cases old <;> decide) (by cases old <;> decide)).trans hstate, ?_,
    on_of_rd ((hsame (by cases old <;> decide) (by cases old <;> decide)).trans hfence),
    (hsame (by decide) (by cases old <;> decide)).trans hactive,
    (hsame (by decide) (by cases old <;> decide)).trans hinc, hpend, hcause, ?_⟩
  · rw [State.pairState, hlog.rd _ (by cases old <;> decide)]
    exact hrule
  · have hheld : (s.takeover old).held = (takeoverLogged ((handedOver s old).rejoinRule old) s.pairs.cause).held := by
      rw [takeover_eq]
      exact (held_raise _ _).trans (held_updateReady _)
    have hlogged : (takeoverLogged ((handedOver s old).rejoinRule old) s.pairs.cause).pair old.other =
        ((handedOver s old).rejoinRule old).pair old.other := by cases old <;> rfl
    have hset : (handedOver s old).pair old.other =
        { (pendsTaken (takenOver s old) old.other).pair old.other with interrupt := true, pend := List.replicate 6 0 } :=
      pair_setPair_same _ old.other _
    have hpair := pair_eq_of_held hheld old.other
    rw [hlogged, hother, hset] at hpair
    exact congrArg PairSt.interrupt hpair

/-! ### The orderly safe state (R128) -/

/-- The relays open, and what the supervisor holds stays (R377). -/
theorem openRelays_shows (s : State) : s.openRelays.relaysOpen = true ∧ s.openRelays.held = s.held := by
  unfold openRelays
  simp only []
  split
  · exact ⟨congrArg (fun k : SafetySt => k.rlyH == 0 && k.rlyL == 0) (raise_safety _ _), held_raise _ _⟩
  · exact ⟨rfl, rfl⟩

/-- The orderly safe state ends the wait for it, opens the relays and enters `FAULT_HOLD` (R128). -/
theorem orderlySafe_shows {s : State} (hs : s.regsOk) (horderly : s.pairs.orderly = true) (hboot : s.oper ≠ .boot) :
    s.orderlySafe.pwmLatched = true ∧ s.orderlySafe.relaysOpen = true ∧ s.orderlySafe.oper = .faultHold ∧
      s.orderlySafe.pairs.orderly = false := by
  have heq : s.orderlySafe = (State.openRelays { s with pairs := { s.pairs with orderly := false } }).faultHold := if_pos horderly
  rw [heq]
  have hok : (State.openRelays { s with pairs := { s.pairs with orderly := false } }).regsOk :=
    (linkStep_openRelays (F := fun _ => False) (fun _ h => h.elim) _).regsOk hs
  have hoper : (State.openRelays { s with pairs := { s.pairs with orderly := false } }).oper = s.oper :=
    (kp_openRelays { s with pairs := { s.pairs with orderly := false } }).oper (by decide)
  obtain ⟨hrelays, hheld⟩ := openRelays_shows { s with pairs := { s.pairs with orderly := false } }
  obtain ⟨hhold, hlatched⟩ := faultHold_shows hok (by rw [hoper]; exact hboot)
  obtain ⟨b, hb⟩ := faultHold_safety (State.openRelays { s with pairs := { s.pairs with orderly := false } })
  refine ⟨hlatched, ?_, hhold, congrArg PairsSt.orderly ((held_faultHold _).trans hheld)⟩
  rw [State.relaysOpen, hb]
  exact hrelays

/-! ### A setpoint of the mailbox (R51) -/

/-- An entry of kind 2 for a setpoint of MC writes it (R51). -/
theorem entryApply?_setpoint (s : State) {i n v : Nat} (hn : n < 48) :
    s.entryApply? i ⟨2 + 65536 * n, v, 0, 0⟩ = some (s.wr (Reg.REF_SP_VALUE n) v) := by
  have hkind : fieldOf (2 + 65536 * n) 0 8 = 2 := by simp only [fieldOf]; omega
  have hdest : fieldOf (2 + 65536 * n) 16 16 = n := by simp only [fieldOf]; omega
  simp only [entryApply?, hkind, hdest]
  exact if_pos hn

/-- The state at the end of an application that has written setpoint `n`. -/
def setpointApplied (s : State) (n v : Nat) : State := applyEnd ((applyStart s).wr (Reg.REF_SP_VALUE n) v)

theorem setpointApplied_shows {s : State} {n v : Nat} (hs : s.regsOk) (hn : n < 48) (hv : v < 2 ^ 32) :
    (setpointApplied s n v).rd (Reg.REF_SP_VALUE n) = v ∧ (setpointApplied s n v).rd Reg.MBX_STATUS_PEND = 0 ∧
      (setpointApplied s n v).rd Reg.MBX_RESULT_ERR = 0 ∧
      (setpointApplied s n v).rd Reg.MBX_STATUS_APPLIED_SEQ = (s.rd Reg.MBX_STATUS_APPLIED_SEQ + 1) % 256 ∧
      s.raisedIn (setpointApplied s n v) Ev.MBX_APPLIED ∧
      s.regsButEv (setpointApplied s n v) [Reg.REF_SP_VALUE n, Reg.MBX_STATUS_PEND, Reg.MBX_RESULT_ERR, Reg.MBX_STATUS_APPLIED_SEQ] := by
  have hplace (f : Fld) (hf : f.key < 0x400C0400 * 32) : f.key ≠ (Reg.REF_SP_VALUE n).key := by simp only [Fld.key] at hf ⊢; omega
  have hput {f : Fld} (hf : f.key < 0x400C0400 * 32) (hr : f.key ≠ Reg.MBX_RESULT_ERR.key) :
      ((applyStart s).wr (Reg.REF_SP_VALUE n) v).rd f = s.rd f := (rd_wr_ne _ _ (hplace f hf)).trans (applyStart_rd hr)
  have hstart := regsOk_applyStart hs
  have hok : ((applyStart s).wr (Reg.REF_SP_VALUE n) v).regsOk := keysRise_wr _ _ _ hstart
  have hpendOk : (((applyStart s).wr (Reg.REF_SP_VALUE n) v).wr Reg.MBX_STATUS_PEND 0).regsOk := keysRise_wr _ _ _ hok
  refine ⟨?_, ?_, ?_, ?_, raisedIn_applyEnd hok (hput (by decide) (by decide)), fun f hf he => ?_⟩
  · rw [setpointApplied, applyEnd_rd (by simp only [Fld.key]; omega) (by simp only [Fld.key]; omega) (by simp only [evKey, Fld.key]; omega),
      rd_wr_same _ _ _ hstart]
    exact Nat.mod_eq_of_lt hv
  · rw [setpointApplied, applyEnd, rd_raise _ _ (by decide) _ (by decide), incWrap_eq, rd_wr_ne _ _ (by decide), rd_wr_same _ _ _ hok]
    rfl
  · rw [setpointApplied, applyEnd_rd (by decide) (by decide) (by decide), rd_wr_ne _ _ (hplace _ (by decide))]
    exact rd_wr_same { s with cross := { s.cross with sub := none, failedBank := none } } _ _ hs
  · rw [setpointApplied, applyEnd, rd_raise _ _ (by decide) _ (by decide), incWrap_eq, rd_wr_same _ _ _ hpendOk, rd_wr_ne _ _ (by decide),
      hput (by decide) (by decide)]
    rfl
  · have hne (g : Fld) (hg : g ∈ [Reg.REF_SP_VALUE n, Reg.MBX_STATUS_PEND, Reg.MBX_RESULT_ERR, Reg.MBX_STATUS_APPLIED_SEQ]) := hf g hg
    rw [setpointApplied, applyEnd_rd (hne _ (by simp)) (hne _ (by simp)) he, rd_wr_ne _ _ (hne _ (by simp)), applyStart_rd (hne _ (by simp))]

/-- A due submission of one setpoint. -/
theorem subApply_setpoint {s : State} {n v : Nat} (hsub : s.cross.sub = some ⟨[⟨2 + 65536 * n, v, 0, 0⟩], 0⟩) (hn : n < 48) :
    s.subApply = setpointApplied s n v := subApply_of_taken hsub (entryApply?_setpoint _ hn)

/-- A load of the operation table that fails its check value is dropped, and its result is shown no longer once the register names
another submission (R52; notes/assumptions 15). -/
theorem loadComplete_orbit_stale {s : State} {a n c e q : Nat} (hload : s.cross.loadOrbit = .copying a n c e q)
    (hcrc : crc32cWords (s.bufferWords a n) ≠ c) (hseq : s.rd Reg.MBX_STATUS_APPLIED_SEQ ≠ q) :
    s.loadComplete .orbit = State.wr { s with cross := { s.cross with loadOrbit := .idle } } Reg.ORB_BANK_SWAP_PEND 0 := by
  have hseq' : (((s.setLoad .orbit .idle).loadShow .orbit false).rd Reg.MBX_STATUS_APPLIED_SEQ == q) = false :=
    beq_false_of_ne (by rw [loadShow_rd .orbit false (by decide)]; exact hseq)
  simp only [loadComplete, show s.load .orbit = .copying a n c e q from hload, if_neg hcrc, loadReject, hseq', when_false]
  rfl

/-- Settles O10: each command by its operation on the acknowledged state, and by what that operation shows. -/
theorem pairStateCommandsAct : Obligations.PairStateCommandsAct := by
  refine ⟨fun s m p img hs hr hoff hramp hpower himg => ?_, fun s p hs hst hpassed => ?_, fun s p hs hst hpassed hother => ?_,
    fun s p hs hst hpassed hother => ?_, fun s p hst hother hcopied => ?_, fun s p hs hst hcopied => ?_, fun s m hr hpend hready => ?_,
    fun s m hr hpend hready => ?_, fun s m p hs hr hfailed hother => ?_, fun s m p hs hr hact hlatched hclosing hclosed => ?_,
    fun s m p hr hact hbad => ?_, fun s hs hpend hactive ha hb hfence hhalted hepoch => ?_, fun s hs horderly hboot => ?_,
    fun s n v hs hsub hn hv hport hq => ?_, fun s a n c e q hload hcrc hseq => ?_⟩
  · have hen : (s.acked.wr (enFld p) 1).regsOk := keysRise_wr s.acked _ _ hs
    have hexec : exec (.cpEnable m p) s = .next ((s.acked.wr (enFld p) 1).enterSelftest p) := by
      change Host.Outcome.next _ = _
      rw [access_allow _ hr]
      exact congrArg Host.Outcome.next (pairEnableCmd_off (s := s.acked) hoff hramp hpower himg)
    obtain ⟨hstate, hdone, htcm, hgen, htcm', -⟩ := enterSelftest_shows (p := p) hen
    have hwrites := writes_enterSelftest (fs := testFields p) (s.acked.wr (enFld p) 1) p (by cases p <;> decide)
    refine ⟨_, hexec, hstate, ?_, hdone, htcm, hgen, htcm'.trans (by cases p <;> rfl), (kp_execCpEnable _ _ _ _ hexec).sram (by decide)⟩
    rw [hwrites.on (by cases p <;> decide)]
    exact on_of_rd ((rd_wr_same s.acked _ _ hs).trans (by cases p <;> rfl))
  · have hexec : exec (.cpSelftestDone p false) s = .next (testEnded s p false pairFailed) :=
      congrArg Host.Outcome.next (selftestDone_failed hst hpassed)
    obtain ⟨hstate, hpass, hdone, hraised⟩ := selftestDone_shows (p := p) (pass := false) (st := pairFailed) hs (by decide)
    exact ⟨_, hexec, hstate, hpass, hdone, hraised, (kp_execCpSelftestDone _ _ _ _ hexec).memsSame (by decide)⟩
  · have hexec : exec (.cpSelftestDone p true) s = .next (testEnded s p true pairSync) :=
      congrArg Host.Outcome.next (selftestDone_joins hst hpassed hother)
    obtain ⟨hstate, hpass, -, -⟩ := selftestDone_shows (p := p) (pass := true) (st := pairSync) hs (by decide)
    exact ⟨_, hexec, hstate, hpass, (kp_execCpSelftestDone _ _ _ _ hexec).memsSame (by decide)⟩
  · have hexec := exec_cpActivate_first hs hst hpassed hother
    obtain ⟨hstate, hrun, hnamed, hrole, hpassed'⟩ := activated_shows (p := p) hs
    obtain ⟨hregs, hpairs⟩ := loadedAndSettled_keeps (activated s p).updateReady p
    have hsame (f : Fld) : ((activated s p).updateReady.tcmLoad p).operSettle.rd f = (activated s p).updateReady.rd f := by
      rw [rd_eq, hregs, ← rd_eq]
    exact ⟨_, hexec, (hsame _).trans hstate, (congrArg (· == 1) (hsame _)).trans hrun, (hsame _).trans hnamed,
      (congrArg PairSt.role (pair_of_pairs hpairs p)).trans hrole, (congrArg PairSt.passed (pair_of_pairs hpairs p)).trans hpassed',
      (kp_execCpActivate _ _ _ hexec).sram (by decide)⟩
  · exact congrArg Host.Outcome.next (syncCopied_active hst hother hcopied)
  · have hexec : exec (.cpStandbyEnter p) s = .next ((stoodBy s p).raise Ev.CP_REJOIN).updateReady :=
      congrArg Host.Outcome.next (standbyEnter_copied hst hcopied)
    obtain ⟨hstate, hcopied', hraised⟩ := stoodBy_shows (p := p) hs
    exact ⟨_, hexec, hstate, hcopied', hraised, (kp_execCpStandbyEnter _ _ _ hexec).memsSame (by decide)⟩
  · change Host.Outcome.next _ = _
    rw [access_allow _ hr]
    exact congrArg Host.Outcome.next ((if_neg (ne_true_of_eq_false hpend)).trans (if_pos hready))
  · change Host.Outcome.next _ = _
    rw [access_allow _ hr]
    exact congrArg Host.Outcome.next ((if_neg (ne_true_of_eq_false hpend)).trans (if_neg (ne_true_of_eq_false hready)))
  · have hcmd : s.acked.rejoinCmd p = s.acked.enterSelftest p := if_pos (by
      change (decide (s.pairState p = pairFailed) && decide (s.pairState p.other = pairActive)) = true
      simp [hfailed, hother])
    have hexec : exec (.rejoinCmd m p) s = .next (s.acked.enterSelftest p) := by
      change Host.Outcome.next _ = _
      rw [access_allow _ hr]
      exact congrArg Host.Outcome.next hcmd
    obtain ⟨hstate, -, htcm, -, htcm', -⟩ := enterSelftest_shows (s := s.acked) (p := p) hs
    exact ⟨_, hexec, hstate, htcm, htcm'.trans (by cases p <;> rfl)⟩
  · have hexec : exec (.cpDisable m p) s = .next (released s.acked p).updateReady := by
      change Host.Outcome.next _ = _
      rw [access_allow _ hr]
      exact congrArg Host.Outcome.next (pairDisable_released (s := s.acked) hact
        ((releaseAllowed_iff s.acked).mpr ⟨hlatched, hclosing, hclosed⟩))
    obtain ⟨hstate, hen, hpend⟩ := released_shows (s := s.acked) (p := p) hs
    exact ⟨_, hexec, hstate, hen, hpend, (kp_execCpDisable _ _ _ _ hexec).memsSame (by decide)⟩
  · have hrefused : s.acked.releaseAllowed = false := Bool.eq_false_iff.mpr fun h => by
      obtain ⟨hlatched, hclosing, hclosed⟩ := (releaseAllowed_iff s.acked).mp h
      rcases hbad with hbad | hbad | hbad
      · exact absurd (hlatched.symm.trans hbad) (by decide)
      · exact hclosing hbad
      · exact hclosed hbad
    change Host.Outcome.next _ = _
    rw [access_allow _ hr]
    exact congrArg Host.Outcome.next (pairDisable_refused (s := s.acked) hact hrefused)
  · have hfirst : s.activePair = .a := by rw [activePair, on, hactive]; rfl
    have hable : s.takeoverAble = true := by
      rw [takeoverAble, hfirst, hhalted]
      simp [PairId.other, hb, hfence]
    have hexec : exec .cpTakeover s = .next (((s.takeover .a).takeoverMark 0).takeoverMark 1).eeTakeover := by
      change Host.Outcome.next s.takeoverAll = _
      rw [takeoverAll, hpend, hable, hfirst]
      rfl
    obtain ⟨hstate, hold, hfenced, hnamed, hinc, hdone, hcause, hint⟩ := takeover_shows (old := .a) hs hepoch
    obtain ⟨hregs, hpairs⟩ := takeoverMarked_keeps (s.takeover .a)
    have hsame (f : Fld) : ((((s.takeover .a).takeoverMark 0).takeoverMark 1).eeTakeover).rd f = (s.takeover .a).rd f := by
      rw [rd_eq, hregs, ← rd_eq]
    exact ⟨_, hexec, (hsame _).trans hstate, fun h => hold ((hsame _).symm.trans h), (congrArg (· == 1) (hsame _)).trans hfenced,
      (hsame _).trans hnamed, (hsame _).trans hinc, (hsame _).trans hdone, (hsame _).trans hcause,
      (congrArg PairSt.interrupt (pair_of_pairs hpairs .b)).trans hint⟩
  · obtain ⟨hlatched, hrelays, hhold, hdone⟩ := orderlySafe_shows hs horderly hboot
    exact ⟨_, rfl, hlatched, hrelays, hhold, hdone, (kp_orderlySafe s).memsSame (by decide)⟩
  · have hsa := subApply_setpoint (v := v) hsub hn
    have hcross := applyEnd_cross ((applyStart s).wr (Reg.REF_SP_VALUE n) v)
    obtain ⟨hset, hpend, herr, hseq, hraised, hframe⟩ := setpointApplied_shows hs hn hv
    refine ⟨_, exec_mbxApply_none (by rw [hsa, setpointApplied, hcross]; exact hport) (by rw [hsa, setpointApplied, hcross]; exact hq), ?_⟩
    rw [hsa]
    exact ⟨hset, hpend, herr, hseq, congrArg CrossSt.sub hcross, hraised, hframe,
      memsSame_applyEnd ((applyStart s).wr (Reg.REF_SP_VALUE n) v)⟩
  · exact congrArg Host.Outcome.next (loadComplete_orbit_stale hload hcrc hseq)

end Sys2Proof.Machine
end

section
/-! SUPPORT. The loop engines (R138 to R169): what an engine holds after an update of it, and the registers that the operations on its
states, images and cover write. -/

set_option Elab.async false

open Sys2Proof.Machine.State

namespace Sys2Proof.Machine

/-! ### What an engine holds -/

/-- The numbers of the engines. -/
theorem engine_cases {e : Nat} (he : e < 2) : e = 0 ∨ e = 1 := by omega

theorem le_setLe (s : State) (e : Nat) (v : LeSt) (z : Nat) : (s.setLe e v).le z = if e = 0 ↔ z = 0 then v else s.le z := by
  by_cases he : e = 0 <;> by_cases hz : z = 0 <;> simp [setLe, State.le, he, hz]

@[simp] theorem le_setLe_same (s : State) (e : Nat) (v : LeSt) : (s.setLe e v).le e = v := by rw [le_setLe, if_pos Iff.rfl]

theorem le_setLe_other (s : State) {e z : Nat} (v : LeSt) (he : e < 2) (hz : z < 2) (h : z ≠ e) : (s.setLe e v).le z = s.le z := by
  rw [le_setLe, if_neg (by omega)]

theorem le_of_les {s t : State} (h : t.les = s.les) (e : Nat) : t.le e = s.le e := by simp only [State.le, h]

/-- An update of an engine is one of the engines alone. -/
theorem setLe_eq (s : State) (e : Nat) (v : LeSt) : s.setLe e v = { s with les := (s.setLe e v).les } := by
  unfold setLe
  split <;> rfl

@[simp] theorem setLe_regs (s : State) (e : Nat) (v : LeSt) : (s.setLe e v).regs = s.regs := by rw [setLe_eq]

theorem regsOk_setLe {s : State} {e : Nat} {v : LeSt} (h : s.regsOk) : (s.setLe e v).regsOk := by
  rw [State.regsOk, setLe_regs]
  exact h

@[simp] theorem rd_setLe (s : State) (e : Nat) (v : LeSt) (f : Fld) : (s.setLe e v).rd f = s.rd f := by rw [setLe_eq]; rfl

@[simp] theorem wr_le (s : State) (f : Fld) (v e : Nat) : (s.wr f v).le e = s.le e := rfl

@[simp] theorem raise_le (s : State) (ev e : Nat) : (s.raise ev).le e = s.le e := le_of_les (raise_les s ev) e

theorem Writes.setLe {W : Nat → Prop} {s : State} {e : Nat} {v : LeSt} : Writes W s (s.setLe e v) := Writes.of_regs (setLe_regs s e v)

theorem Writes.forEach {α : Type} {W : Nat → Prop} {l : List α} {f : State → α → State} (h : ∀ s, ∀ x ∈ l, Writes W s (f s x)) (s : State) :
    Writes W s (s.forEach l f) := by
  induction l generalizing s with
  | nil => exact Writes.refl
  | cons a l ih => exact (h s a (by simp)).trans (ih (fun s x hx => h s x (by simp [hx])) (f s a))

/-- A field that is none of those of the list, nor one that an event writes. -/
theorem Writes.rd_ne {fs : List Fld} {s t : State} (h : Writes (AmongEv fs) s t) {f : Fld} (hf : ∀ g ∈ fs, f.key ≠ g.key)
    (he : ¬ evKey f.key) : t.rd f = s.rd f := h.regsButEv f hf he

/-- A field after a write of it with a value that it holds. -/
theorem rd_wr_lt {s : State} {f : Fld} {v : Nat} (hs : s.regsOk) (hv : v < 2 ^ f.width) : (s.wr f v).rd f = v :=
  (rd_wr_same s f v hs).trans (Nat.mod_eq_of_lt hv)

/-- An access to a register of an engine that the rights allow. -/
theorem engineAccess_allow {s : State} {m : Master} {e k a : Nat} {f : State → State} (he : e < 2) (hr : s.right m a .cr = .allow)
    (ha : leBase e + k = a) : (if e < 2 then s.access m (leBase e + k) .cr f else s) = f s.acked := by
  rw [if_pos he, ha, access_allow f hr]

/-! ### Cover (R161) -/

/-- Cover is judged: at most the cover image of an engine changes. -/
theorem coverUpdate_le (s : State) (y z : Nat) : ∃ c, (s.coverUpdate y).le z = { s.le z with cover := c } := by
  have hset (c : Le.Img) : ∃ c', (s.setLe y { s.le y with cover := c }).le z = { s.le z with cover := c' } := by
    rw [le_setLe]
    split
    next h => exact ⟨c, by simp only [State.le, h]⟩
    next => exact ⟨_, rfl⟩
  simp only [coverUpdate]
  split
  · exact ⟨_, rfl⟩
  · split
    · split
      · exact hset _
      · exact hset _
    · split
      · exact ⟨_, rfl⟩
      · exact ⟨_, rfl⟩

/-- The registers that a judgement of cover writes. -/
abbrev coverFields (y : Nat) : List Fld := [Reg.LE_STATUS_COVER_READY y, Reg.LE_FLAGS_COVER_REFUSED y]

theorem writes_coverUpdate {W : Nat → Prop} (s : State) {y : Nat} (hy : y < 2) (hW : ∀ f ∈ coverFields y, W f.key) :
    Writes W s (s.coverUpdate y) := by
  have hready (s : State) (v : Nat) : Writes W s (s.wr (Reg.LE_STATUS_COVER_READY y) v) :=
    Writes.wr v (hW _ (by simp)) (by simp only [evKey, Fld.key]; omega)
  have hrefused (s : State) : Writes W s (s.wr (Reg.LE_FLAGS_COVER_REFUSED y) 1) :=
    Writes.wr 1 (hW _ (by simp)) (by simp only [evKey, Fld.key]; omega)
  have himage : Writes W s (s.setLe y { s.le y with cover := s.leActive (1 - y) }) := Writes.setLe
  exact Writes.ite Writes.refl (Writes.ite
    (Writes.ite ((himage.trans (hrefused _)).trans (hready _ _)) (himage.trans (hready _ _))) (Writes.ite Writes.refl (hready _ _)))

/-- Both judgements of cover. -/
theorem coverUpdates_le (s : State) (y y' z : Nat) : ∃ c, ((s.coverUpdate y).coverUpdate y').le z = { s.le z with cover := c } := by
  obtain ⟨c, hc⟩ := coverUpdate_le s y z
  obtain ⟨c', hc'⟩ := coverUpdate_le (s.coverUpdate y) y' z
  exact ⟨c', by rw [hc', hc]⟩

theorem writes_coverUpdates {W : Nat → Prop} (s : State) {y y' : Nat} (hy : y < 2) (hy' : y' < 2)
    (hW : ∀ f ∈ coverFields y ++ coverFields y', W f.key) : Writes W s ((s.coverUpdate y).coverUpdate y') :=
  (writes_coverUpdate s hy fun f hf => hW f (List.mem_append_left _ hf)).trans
    (writes_coverUpdate _ hy' fun f hf => hW f (List.mem_append_right _ hf))

/-- An engine takes over at the boundary (R161). -/
theorem coverFailover_due {s : State} {y : Nat} (hf : (s.le y).failover = true) (hst : s.leState y = leReady) :
    s.coverFailover y = ((s.setLe y { s.le y with failover := false }).wr (Reg.LE_STATUS_COVERING y) 1).raise Ev.LE_COVER :=
  if_pos (by simp [hf, hst])

/-- The state in which an engine that returns has its jobs again, before cover is judged (R163). -/
def returned (s : State) (x : Nat) : State :=
  ((s.setLe x { s.le x with returning := false, adoptNext := List.range (Le.njob (s.leActive x)) }).wr
    (Reg.LE_STATUS_COVERING (1 - x)) 0).raise Ev.LE_COVER

theorem leReturnApply_due {s : State} {x : Nat} (h : (s.le x).returning = true) :
    s.leReturnApply x = ((returned s x).coverUpdate (1 - x)).coverUpdate x := if_pos h

/-- A return ends the cover, and the next run of each job presets (R163). -/
theorem leReturnApply_shows {s : State} {x : Nat} (hx : x < 2) (hs : s.regsOk) (h : (s.le x).returning = true) :
    ((s.leReturnApply x).le x).returning = false ∧ (s.leReturnApply x).rd (Reg.LE_STATUS_COVERING (1 - x)) = 0 ∧
      ((s.leReturnApply x).le x).adoptNext = List.range (Le.njob (s.leActive x)) ∧ s.raisedIn (s.leReturnApply x) Ev.LE_COVER := by
  have hcover := writes_coverUpdates (W := AmongEv (coverFields (1 - x) ++ coverFields x)) (returned s x) (y := 1 - x) (y' := x)
    (by omega) hx fun f hf => .inl ⟨f, hf, rfl⟩
  obtain ⟨c, hc⟩ := coverUpdates_le (returned s x) (1 - x) x x
  have hle : (returned s x).le x = { s.le x with returning := false, adoptNext := List.range (Le.njob (s.leActive x)) } :=
    (raise_le _ _ _).trans (le_setLe_same _ _ _)
  have hset : Writes (Among [Reg.LE_STATUS_COVERING (1 - x)]) s
      ((s.setLe x { s.le x with returning := false, adoptNext := List.range (Le.njob (s.leActive x)) }).wr (Reg.LE_STATUS_COVERING (1 - x)) 0) :=
    Writes.setLe.trans (Writes.wr 0 ⟨_, by simp, rfl⟩ (by simp only [evKey, Fld.key]; omega))
  rw [leReturnApply_due h, hc, hle]
  refine ⟨rfl, ?_, rfl, hset.raisedIn hcover hs (by decide) (by rcases engine_cases hx with rfl | rfl <;> decide)⟩
  rw [hcover.rd _ (by rcases engine_cases hx with rfl | rfl <;> decide), returned, rd_raise _ _ (by decide) _ (by simp only [evKey, Fld.key]; omega)]
  exact rd_wr_lt (regsOk_setLe hs) (Nat.two_pow_pos _)

end Sys2Proof.Machine
end

section
/-! SUPPORT. The states and the images of the loop engines (R148, R163 to R165, R169): what a swap, a bank switch, an entry to the
self-test, a disable and an arming show. -/

set_option Elab.async false

open Sys2Proof.Machine.State

namespace Sys2Proof.Machine

/-! ### Images (R148) -/

/-- The check of an image reads none of the registers that the budget limit shares (R148, R150). -/
theorem leCheck_putLimit (s : State) (e : Nat) :
    Le.check ((s.putLimit e).leInactive e) ((s.putLimit e).leState e) (s.putLimit e).budget ((s.putLimit e).capSigs e) =
      Le.check (s.leInactive e) (s.leState e) s.budget (s.capSigs e) := by
  have hrd {f : Fld} (hf : f.key ≠ (Reg.LE_BUDGET_LIMIT e).key) : (s.putLimit e).rd f = s.rd f := rd_wr_ne s _ hf
  have hbank : (s.putLimit e).leInactive e = s.leInactive e := by
    rw [leInactive, on, hrd (by simp only [Fld.key]; omega)]
    rfl
  have hstate : (s.putLimit e).leState e = s.leState e := hrd (by simp only [Fld.key]; omega)
  have hbudget : (s.putLimit e).budget = s.budget := by
    simp only [budget, divisor]
    rw [hrd (by simp only [Fld.key]; omega), hrd (by simp only [Fld.key]; omega), hrd (by simp only [Fld.key]; omega)]
  have hsigs : (s.putLimit e).capSigs e = s.capSigs e := funext fun c => hrd (by simp only [Fld.key]; omega)
  rw [hbank, hstate, hbudget, hsigs]

/-- The state in which an accepted image waits for its boundary. -/
def imageAccepted (s : State) (e : Nat) : State :=
  let t := (s.putLimit e).wr (Reg.LE_LOAD_STATUS_RESULT e) 1
  (t.setLe e { t.le e with accepted := true }).wr (Reg.LE_STATUS_LOAD_BUSY e) 1

theorem leCheck_accepted {s : State} {e : Nat} (h : Le.check (s.leInactive e) (s.leState e) s.budget (s.capSigs e) = 1) :
    s.leCheck e = imageAccepted s e := by
  simp only [leCheck, leCheck_putLimit, h, if_true]
  rfl

/-- An accepted image waits, and the register of the load shows it (R148). -/
theorem imageAccepted_shows {s : State} {e : Nat} (hs : s.regsOk) :
    ((imageAccepted s e).le e).accepted = true ∧ (imageAccepted s e).rd (Reg.LE_STATUS_LOAD_BUSY e) = 1 ∧
      (imageAccepted s e).rd (Reg.LE_LOAD_STATUS_RESULT e) = 1 ∧
      s.regsBut (imageAccepted s e) [Reg.LE_STATUS_LOAD_BUSY e, Reg.LE_LOAD_STATUS_RESULT e, Reg.LE_BUDGET_LIMIT e] := by
  have hlimit : (s.putLimit e).regsOk := keysRise_wr _ _ _ hs
  have hresult : ((s.putLimit e).wr (Reg.LE_LOAD_STATUS_RESULT e) 1).regsOk := keysRise_wr _ _ _ hlimit
  simp only [imageAccepted]
  refine ⟨congrArg LeSt.accepted (le_setLe_same _ _ _), rd_wr_lt (regsOk_setLe hresult) Nat.one_lt_two, ?_,
    fun f hf => ?_⟩
  · rw [rd_wr_ne _ _ (by simp only [Fld.key]; omega), rd_setLe]
    exact rd_wr_lt hlimit (by simp)
  · rw [rd_wr_ne _ _ (hf _ (by simp)), rd_setLe, rd_wr_ne _ _ (hf _ (by simp)), putLimit, rd_wr_ne _ _ (hf _ (by simp))]

/-- The banks of an engine change places, and its run marks are gone. -/
def banksSwitched (s : State) (e : Nat) : State :=
  let t := s.wr (Reg.LE_STATUS_ACTIVE_BANK e) (1 - s.rd (Reg.LE_STATUS_ACTIVE_BANK e))
  t.setLe e { t.le e with accepted := false, ran := [], lastAuto := [], marks := [], tlast := [] }

/-- The signals that a program presets, and its modes. -/
def programPreset (s : State) (e : Nat) (m : Le.Img) : State :=
  let auto (lo : Nat) : Nat := (List.range 32).foldl (fun a b =>
    if lo + b < Le.nblk m && (Le.block m (lo + b)).auto0 then setBit a b else a) 0
  ((s.forEach (List.range 62) fun s i => s.wr (Reg.LE_SIG_VALUE e (192 + i)) (Le.word m (384 + i))).wr (Reg.LE_MODE0_AUTO e) (auto 0)).wr
    (Reg.LE_MODE1_AUTO e) (auto 32)

/-- The load of an engine's program has ended. -/
def programShown (s : State) (e : Nat) (m : Le.Img) : State :=
  let t := (s.wr (Reg.LE_STATUS_LOAD_BUSY e) 0).wr (Reg.LE_LOAD_STATUS_PROGRAM_ID e) (Le.programId m)
  (t.wr (Reg.LE_BUDGET_COST e) (Nat.min 65535 (Le.programCost m (t.capSigs e)))).wr (Reg.LE_STATUS_STATE e) leReady

/-- No load of an engine is under way. -/
def loadIdle (s : State) (e : Nat) : State :=
  { s with cross := if e = 0 then { s.cross with loadLe0 := .idle } else { s.cross with loadLe1 := .idle } }

theorem loadIdle_rd (s : State) (e : Nat) (f : Fld) : (loadIdle s e).rd f = s.rd f := rfl

/-- The engine runs the program of bank `m`, before cover is judged. -/
def programTaken (s : State) (e : Nat) (m : Le.Img) : State := loadIdle (programShown (programPreset s e m) e m) e

theorem programTaken_les (s : State) (e : Nat) (m : Le.Img) : (programTaken s e m).les = s.les := by
  simp only [programTaken, loadIdle, programShown, programPreset, wr_les]
  exact forEach_keeps State.les (fun _ _ => wr_les _ _ _) _ s

/-- A key of the signal table or the hand-over table of an engine (R169). -/
abbrev tableKey (e k : Nat) : Prop := (leBase e + 0x6000) * 32 ≤ k ∧ k < (leBase e + 0x6500) * 32

/-- The registers in which a program shows. -/
abbrev programFields (e : Nat) : List Fld :=
  [Reg.LE_STATUS_LOAD_BUSY e, Reg.LE_LOAD_STATUS_PROGRAM_ID e, Reg.LE_BUDGET_COST e, Reg.LE_STATUS_STATE e]

theorem writes_programPreset {W : Nat → Prop} (s : State) {e : Nat} (m : Le.Img) (he : e < 2) (hT : ∀ k, tableKey e k → W k)
    (hW : ∀ f ∈ [Reg.LE_MODE0_AUTO e, Reg.LE_MODE1_AUTO e], W f.key) : Writes W s (programPreset s e m) := by
  refine Writes.trans (Writes.trans (Writes.forEach (fun s i hi => ?_) s) (Writes.wr _ (hW _ (by simp)) ?_)) (Writes.wr _ (hW _ (by simp)) ?_)
  · have hi' : i < 62 := List.mem_range.mp hi
    exact Writes.wr _ (hT _ (by simp only [tableKey, leBase, Fld.key]; omega)) (by simp only [evKey, Fld.key]; omega)
  · simp only [evKey, Fld.key]; omega
  · simp only [evKey, Fld.key]; omega

theorem writes_programShown {W : Nat → Prop} (s : State) {e : Nat} (m : Le.Img) (he : e < 2) (hW : ∀ f ∈ programFields e, W f.key) :
    Writes W s (programShown s e m) := by
  have hset (s : State) (f : Fld) (hf : f ∈ programFields e) (v : Nat) : Writes W s (s.wr f v) :=
    Writes.wr v (hW f hf) (by
      have hplace : f.key < 0x40060000 * 32 := by
        simp only [List.mem_cons, List.not_mem_nil, or_false] at hf
        rcases hf with rfl | rfl | rfl | rfl <;> simp only [Fld.key] <;> omega
      simp only [evKey]; omega)
  exact ((hset _ _ (by simp) _).trans (hset _ _ (by simp) _)).trans ((hset _ _ (by simp) _).trans (hset _ _ (by simp) _))

/-- The registers in which the program of an engine shows after its load. -/
theorem programShown_shows {s : State} {e : Nat} (m : Le.Img) (hs : s.regsOk) :
    (programShown s e m).leState e = leReady ∧ (programShown s e m).rd (Reg.LE_STATUS_LOAD_BUSY e) = 0 := by
  have hid : ((s.wr (Reg.LE_STATUS_LOAD_BUSY e) 0).wr (Reg.LE_LOAD_STATUS_PROGRAM_ID e) (Le.programId m)).regsOk :=
    keysRise_wr _ _ _ (keysRise_wr _ _ _ hs)
  refine ⟨rd_wr_lt (keysRise_wr _ _ _ hid) (show leReady < 2 ^ 3 by decide), ?_⟩
  simp only [programShown]
  rw [rd_wr_ne _ _ (by simp only [Fld.key]; omega), rd_wr_ne _ _ (by simp only [Fld.key]; omega), rd_wr_ne _ _ (by simp only [Fld.key]; omega)]
  exact rd_wr_lt hs (by simp)

/-- The bank that becomes active is the one that was inactive (R148). -/
theorem leActive_of_switched {s t : State} {e : Nat} (hb : s.rd (Reg.LE_STATUS_ACTIVE_BANK e) ≤ 1)
    (ht : t.rd (Reg.LE_STATUS_ACTIVE_BANK e) = 1 - s.rd (Reg.LE_STATUS_ACTIVE_BANK e)) (h0 : (t.le e).img0 = (s.le e).img0)
    (h1 : (t.le e).img1 = (s.le e).img1) : t.leActive e = s.leInactive e := by
  rcases Nat.le_one_iff_eq_zero_or_eq_one.mp hb with h | h
  · simp [leActive, leInactive, on, ht, h, h1]
  · simp [leActive, leInactive, on, ht, h, h0]

/-- The registers that a new program writes. -/
abbrev loadFields (e : Nat) : List Fld := Reg.LE_MODE0_AUTO e :: Reg.LE_MODE1_AUTO e :: programFields e

/-- A key of the registers that a new program writes, or of its tables. -/
abbrev loadKey (e k : Nat) : Prop := Among (loadFields e) k ∨ tableKey e k

theorem not_loadKey {e : Nat} {f : Fld} (hf : ∀ g ∈ loadFields e, f.key ≠ g.key) (ht : ¬ tableKey e f.key) : ¬ loadKey e f.key :=
  not_or.mpr ⟨fun ⟨g, hg, hk⟩ => hf g hg hk, ht⟩

theorem writes_programTaken (s : State) {e : Nat} (m : Le.Img) (he : e < 2) : Writes (loadKey e) s (programTaken s e m) := by
  have hpreset : Writes (loadKey e) s (programPreset s e m) := writes_programPreset s m he (fun _ h => .inr h) fun f hf =>
    .inl ⟨f, by simp only [List.mem_cons] at hf ⊢; tauto, rfl⟩
  have hshown : Writes (loadKey e) (programPreset s e m) (programShown (programPreset s e m) e m) := writes_programShown _ m he fun f hf =>
    .inl ⟨f, List.mem_cons_of_mem _ (List.mem_cons_of_mem _ hf), rfl⟩
  exact (hpreset.trans hshown).trans (Writes.of_regs rfl)

/-- The registers in which the program of an engine shows once it runs. -/
theorem programTaken_shows {s : State} {e : Nat} (m : Le.Img) (he : e < 2) (hs : s.regsOk) :
    (programTaken s e m).leState e = leReady ∧ (programTaken s e m).rd (Reg.LE_STATUS_LOAD_BUSY e) = 0 := by
  rw [leState, programTaken, loadIdle_rd, loadIdle_rd]
  exact programShown_shows (s := programPreset s e m) m
    ((writes_programPreset (W := fun _ => True) s m he (fun _ _ => trivial) fun _ _ => trivial).regsOk hs)

/-- The engine runs the program of bank `m`, and cover is judged. -/
def programRuns (s : State) (e : Nat) (m : Le.Img) : State := ((programTaken s e m).coverUpdate 0).coverUpdate 1

theorem writes_coverJudged (s : State) {e : Nat} (m : Le.Img) :
    Writes (Among (coverFields 0 ++ coverFields 1)) (programTaken s e m) (programRuns s e m) :=
  writes_coverUpdates _ (by decide) (by decide) fun f hf => ⟨f, hf, rfl⟩

theorem programRuns_shows {s : State} {e : Nat} (m : Le.Img) (he : e < 2) (hs : s.regsOk) :
    (programRuns s e m).leState e = leReady ∧ (programRuns s e m).rd (Reg.LE_STATUS_LOAD_BUSY e) = 0 ∧
      (programRuns s e m).rd (Reg.LE_STATUS_ACTIVE_BANK e) = s.rd (Reg.LE_STATUS_ACTIVE_BANK e) ∧
      (∃ c, (programRuns s e m).le e = { s.le e with cover := c }) := by
  have hcover := writes_coverJudged s (e := e) m
  obtain ⟨hstate, hbusy⟩ := programTaken_shows m he hs
  obtain ⟨c, hc⟩ := coverUpdates_le (programTaken s e m) 0 1 e
  refine ⟨(hcover.rd _ ?_).trans hstate, (hcover.rd _ ?_).trans hbusy, (hcover.rd _ ?_).trans ((writes_programTaken s m he).rd _ ?_), c, ?_⟩
  · rcases engine_cases he with rfl | rfl <;> decide
  · rcases engine_cases he with rfl | rfl <;> decide
  · rcases engine_cases he with rfl | rfl <;> decide
  · exact not_loadKey (by rcases engine_cases he with rfl | rfl <;> decide) (by simp only [tableKey, leBase, Fld.key]; omega)
  · rw [programRuns, hc, le_of_les (programTaken_les s e m)]

/-- The routes of events are none of the registers that a new program writes. -/
theorem programRuns_route (s : State) {e : Nat} (m : Le.Img) (he : e < 2) {ev : Nat} (hev : ev < 192) :
    (programRuns s e m).rd (Reg.EVF_ROUTE_TARGET ev) = s.rd (Reg.EVF_ROUTE_TARGET ev) := by
  have hfar {fs : List Fld} (h : ∀ g ∈ fs, g.key < 0x40060000 * 32) : ∀ g ∈ fs, (Reg.EVF_ROUTE_TARGET ev).key ≠ g.key := by
    intro g hg
    have := h g hg
    simp only [Fld.key] at this ⊢
    omega
  rw [(writes_coverJudged s m).regsBut _ (hfar (by decide)), (writes_programTaken s m he).rd _ (not_loadKey (hfar ?_) ?_)]
  · rcases engine_cases he with rfl | rfl <;> decide
  · simp only [tableKey, leBase, Fld.key]; omega

theorem leSwitch_due {s : State} {e : Nat} (ha : (s.le e).accepted = true) (hst : s.leState e = leEmpty) :
    s.leSwitch e = (programRuns (banksSwitched s e) e
      ((s.wr (Reg.LE_STATUS_ACTIVE_BANK e) (1 - s.rd (Reg.LE_STATUS_ACTIVE_BANK e))).leActive e)).raise Ev.LE_LOAD :=
  if_pos (by simp [ha, hst])

/-- A bank switch runs the accepted image (R148). -/
theorem leSwitch_shows {s : State} {e : Nat} (he : e < 2) (hs : s.regsOk) (ha : (s.le e).accepted = true) (hst : s.leState e = leEmpty)
    (hb : s.rd (Reg.LE_STATUS_ACTIVE_BANK e) ≤ 1) :
    (s.leSwitch e).leState e = leReady ∧ (s.leSwitch e).rd (Reg.LE_STATUS_ACTIVE_BANK e) = 1 - s.rd (Reg.LE_STATUS_ACTIVE_BANK e) ∧
      (s.leSwitch e).leActive e = s.leInactive e ∧ ((s.leSwitch e).le e).accepted = false ∧
      (s.leSwitch e).rd (Reg.LE_STATUS_LOAD_BUSY e) = 0 ∧ s.raisedIn (s.leSwitch e) Ev.LE_LOAD := by
  rw [leSwitch_due ha hst]
  generalize (s.wr (Reg.LE_STATUS_ACTIVE_BANK e) (1 - s.rd (Reg.LE_STATUS_ACTIVE_BANK e))).leActive e = m
  have hsw : Writes (Among [Reg.LE_STATUS_ACTIVE_BANK e]) s (banksSwitched s e) :=
    (Writes.wr _ ⟨_, by simp, rfl⟩ (by simp only [evKey, Fld.key]; omega)).trans Writes.setLe
  have hsw_bank : (banksSwitched s e).rd (Reg.LE_STATUS_ACTIVE_BANK e) = 1 - s.rd (Reg.LE_STATUS_ACTIVE_BANK e) := by
    rw [banksSwitched, rd_setLe]
    exact rd_wr_lt hs (by simp only []; omega)
  have hsw_le : (banksSwitched s e).le e = { s.le e with accepted := false, ran := [], lastAuto := [], marks := [], tlast := [] } :=
    le_setLe_same _ _ _
  obtain ⟨hstate, hbusy, hbank, c, hle⟩ := programRuns_shows m he (hsw.regsOk hs)
  have hsame (f : Fld) (hf : ¬ evKey f.key) :
      ((programRuns (banksSwitched s e) e m).raise Ev.LE_LOAD).rd f = (programRuns (banksSwitched s e) e m).rd f :=
    rd_raise _ _ (by decide) f hf
  have hle' : ((programRuns (banksSwitched s e) e m).raise Ev.LE_LOAD).le e =
      { s.le e with accepted := false, ran := [], lastAuto := [], marks := [], tlast := [], cover := c } := by
    rw [raise_le, hle, hsw_le]
  have hbank' : ((programRuns (banksSwitched s e) e m).raise Ev.LE_LOAD).rd (Reg.LE_STATUS_ACTIVE_BANK e) =
      1 - s.rd (Reg.LE_STATUS_ACTIVE_BANK e) := (hsame _ (by simp only [evKey, Fld.key]; omega)).trans (hbank.trans hsw_bank)
  refine ⟨(hsame _ (by simp only [evKey, Fld.key]; omega)).trans hstate, hbank', leActive_of_switched hb hbank' (by rw [hle']) (by rw [hle']),
    by rw [hle'], (hsame _ (by simp only [evKey, Fld.key]; omega)).trans hbusy, ?_⟩
  refine raisedIn_next ?_ (by decide) ((programRuns_route _ m he (by decide)).trans (hsw.rd _ ?_)) fun _ _ => rfl
  · exact (writes_coverJudged _ m).regsOk ((writes_programTaken _ m he).regsOk (hsw.regsOk hs))
  · rcases engine_cases he with rfl | rfl <;> decide

/-! ### Self-test, enable and disable (R163, R164) -/

/-- A key whose entries a filter leaves reads as before. -/
theorem sparseGet_filter_of_true {α : Type} (m : List (Nat × α)) {p : Nat × α → Bool} {k : Nat} {d : α} (h : ∀ x ∈ m, x.1 = k → p x = true) :
    sparseGet (m.filter p) k d = sparseGet m k d := by
  induction m with
  | nil => rfl
  | cons x r ih =>
    have ih' := ih fun y hy => h y (by simp [hy])
    by_cases hx : x.1 = k
    · simp [h x (by simp) hx, sparseGet, hx]
    · by_cases hp : p x = true <;> simp [hp, sparseGet, hx, ih']

theorem Writes.clearRegs {W : Nat → Prop} {s : State} {lo hi : Nat} (hW : ∀ k, lo * 32 ≤ k ∧ k < hi * 32 → W k) (hE : hi ≤ 0x400B0300) :
    Writes W s (s.clearRegs lo hi) := by
  have hrd (f : Fld) (hf : ¬ (lo * 32 ≤ f.key ∧ f.key < hi * 32)) : (s.clearRegs lo hi).rd f = s.rd f := by
    refine sparseGet_filter_of_true s.regs fun e he => ?_
    simp only [Bool.or_eq_true, decide_eq_true_eq]
    omega
  refine ⟨keysRise_filter _, fun f hf => hrd f fun h => hf (hW _ h), fun _ g e hg he hp => ?_⟩
  rw [pendingAt, hrd _ (by simp only [Fld.key]; omega)]
  exact hp

/-- The memory of an engine is cleared, its tables apart. -/
def memoryCleared (s : State) (e : Nat) : State :=
  s.setLe e { (s.le e) with img0 := [], img1 := [], cover := [], hoOther := [], queue := [], run := none, held := [],
                            ran := [], lastAuto := [], marks := [], tlast := [], accepted := false, adoptNext := [] }

theorem leClear_eq (s : State) (e : Nat) : s.leClear e = loadIdle ((((memoryCleared s e).clearRegs (leBase e + 0x6000) (leBase e + 0x6500)).wr
    (Reg.LE_STATUS_LOAD_BUSY e) 0).wr (Reg.LE_STATUS_JOB e) 0x3F) e := rfl

theorem leClear_le (s : State) (e : Nat) : (s.leClear e).le e = (memoryCleared s e).le e := rfl

/-- The registers that an entry to the self-test writes, its tables apart (R164). -/
abbrev selftestFields (e : Nat) : List Fld :=
  Reg.LE_STATUS_LOAD_BUSY e :: Reg.LE_STATUS_JOB e :: Reg.LE_STATUS_STATE e :: coverFields (1 - e)

/-- A key of the registers that an entry to the self-test writes, or of its tables. -/
abbrev selftestKey (e k : Nat) : Prop := Among (selftestFields e) k ∨ tableKey e k

theorem writes_leClear (s : State) {e : Nat} (he : e < 2) : Writes (selftestKey e) s (s.leClear e) := by
  have hmem : Writes (selftestKey e) s (memoryCleared s e) := Writes.setLe
  have htables := hmem.trans (Writes.clearRegs (lo := leBase e + 0x6000) (hi := leBase e + 0x6500) (fun _ h => .inr h)
    (by simp only [leBase]; omega))
  rw [leClear_eq]
  exact ((htables.trans (Writes.wr (f := Reg.LE_STATUS_LOAD_BUSY e) 0 (.inl ⟨_, by simp, rfl⟩) (by simp only [evKey, Fld.key]; omega))).trans
    (Writes.wr (f := Reg.LE_STATUS_JOB e) 0x3F (.inl ⟨_, by simp, rfl⟩) (by simp only [evKey, Fld.key]; omega))).trans (Writes.of_regs rfl)

theorem writes_leTest (s : State) {e : Nat} (he : e < 2) : Writes (selftestKey e) s (s.leTest e) := by
  have hstate : Writes (selftestKey e) (s.leClear e) ((s.leClear e).wr (Reg.LE_STATUS_STATE e) leSelftest) :=
    Writes.wr _ (.inl ⟨_, by simp, rfl⟩) (by simp only [evKey, Fld.key]; omega)
  exact ((writes_leClear s he).trans hstate).trans (writes_coverUpdate _ (by omega) fun f hf => .inl ⟨f, by simp_all, rfl⟩)

/-- An engine in its self-test has its memory cleared (R164). -/
theorem leTest_shows {s : State} {e : Nat} (he : e < 2) (hs : s.regsOk) :
    (s.leTest e).leState e = leSelftest ∧ ((s.leTest e).le e).img0 = [] ∧ ((s.leTest e).le e).img1 = [] ∧ ((s.leTest e).le e).queue = [] := by
  have hcover := writes_coverUpdate (W := Among (coverFields (1 - e))) ((s.leClear e).wr (Reg.LE_STATUS_STATE e) leSelftest) (y := 1 - e)
    (by omega) fun f hf => ⟨f, hf, rfl⟩
  obtain ⟨c, hc⟩ := coverUpdate_le ((s.leClear e).wr (Reg.LE_STATUS_STATE e) leSelftest) (1 - e) e
  have hle : (s.leTest e).le e = { (memoryCleared s e).le e with cover := c } := by rw [leTest, hc, wr_le, leClear_le]
  rw [hle, memoryCleared, le_setLe_same]
  refine ⟨(hcover.rd _ (by rcases engine_cases he with rfl | rfl <;> decide)).trans ?_, rfl, rfl, rfl⟩
  exact rd_wr_lt ((writes_leClear s he).regsOk hs) (show leSelftest < 2 ^ 3 by decide)

/-- `EN` written 1 takes OFF to SELFTEST (R164). -/
theorem leEnable_off {s : State} {e : Nat} (hst : s.leState e = leOff) : s.leEnable e = (s.wr (Reg.LE_CTRL_EN e) 1).leTest e :=
  if_pos ((rd_wr_ne s 1 (by simp only [Fld.key]; omega)).trans hst)

/-- Nothing keeps an engine from being disabled (R164). -/
def leIdle (s : State) (e : Nat) : Bool :=
  !((s.le e).run.isSome || !(s.le e).queue.isEmpty || !(s.le e).held.isEmpty || s.on (Reg.LE_STATUS_COVERING e))

/-- The state of an engine that has been disabled, before cover is judged. -/
def engineOff (s : State) (e : Nat) : State :=
  let t := (s.wr (Reg.LE_CTRL_EN e) 0).wr (Reg.LE_STATUS_STATE e) leOff
  (t.setLe e { t.le e with accepted := false }).wr (Reg.LE_STATUS_LOAD_BUSY e) 0

theorem leDisable_idle {s : State} {e : Nat} (hst : s.leState e = leReady) (hidle : leIdle s e = true) :
    s.leDisable e = ((engineOff s e).coverUpdate e).coverUpdate (1 - e) := by
  have hnot : ¬ s.leState e = leOff := by rw [hst]; decide
  have hdue : (decide (s.leState e = leSelftest) || leIdle s e) = true := by rw [hidle, Bool.or_true]
  exact (if_neg hnot).trans (if_pos hdue)

theorem leDisable_busy {s : State} {e : Nat} (hst : s.leState e = leReady) (hbusy : leIdle s e = false) : s.leDisable e = s := by
  have hnot : ¬ s.leState e = leOff := by rw [hst]; decide
  have hdue : ¬ (decide (s.leState e = leSelftest) || leIdle s e) = true := by rw [hst, hbusy]; decide
  exact (if_neg hnot).trans (if_neg hdue)

/-- An engine that has been disabled is in OFF (R164). -/
theorem leDisable_shows {s : State} {e : Nat} (he : e < 2) (hs : s.regsOk) (hst : s.leState e = leReady) (hidle : leIdle s e = true) :
    (s.leDisable e).leState e = leOff ∧ (s.leDisable e).rd (Reg.LE_CTRL_EN e) = 0 := by
  have hcover := writes_coverUpdates (W := Among (coverFields e ++ coverFields (1 - e))) (engineOff s e) (y := e) (y' := 1 - e) he
    (by omega) fun f hf => ⟨f, hf, rfl⟩
  rw [leDisable_idle hst hidle]
  refine ⟨(hcover.rd _ (by rcases engine_cases he with rfl | rfl <;> decide)).trans ?_,
    (hcover.rd _ (by rcases engine_cases he with rfl | rfl <;> decide)).trans ?_⟩
  · rw [engineOff, rd_wr_ne _ _ (by simp only [Fld.key]; omega), rd_setLe]
    exact rd_wr_lt (keysRise_wr _ _ _ hs) (show leOff < 2 ^ 3 by decide)
  · rw [engineOff, rd_wr_ne _ _ (by simp only [Fld.key]; omega), rd_setLe, rd_wr_ne _ _ (by simp only [Fld.key]; omega)]
    exact rd_wr_lt hs (Nat.two_pow_pos _)

/-- A self-test passes or fails (R164). -/
theorem leTestDone_eq {s : State} {e : Nat} (pass : Bool) (hst : s.leState e = leSelftest) :
    s.leTestDone e pass = if pass then s.wr (Reg.LE_STATUS_STATE e) leEmpty
      else ((s.wr (Reg.LE_STATUS_STATE e) leFaulted).wr (Reg.LE_FLAGS_SELFTEST_FAIL e) 1).raise Ev.LE_FAULT := if_pos hst

/-! ### Injection (R165) -/

/-- An injection point is armed at the frame that runs. -/
theorem injWrite_arms {s : State} {e i n : Nat} (h : s.on (Reg.LE_INJ_ARM e i) = false) :
    s.injWrite e i true n =
      let t := ((s.wr (Reg.LE_INJ_ARM e i) 1).wr (Reg.LE_INJ_FRAMES e i) n).wr (Reg.LE_INJ_BUSY e i) 1
      t.setLe e { t.le e with injStart := setNth (t.le e).injStart i (t.rd Reg.ORB_FRAME_COUNT),
                              injFirst := setNth (t.le e).injFirst i true } := if_pos (by simp [h])

theorem nth_setNth_same {α : Type} {l : List α} {i : Nat} (v d : α) (h : i < l.length) : nth (setNth l i v) i d = v := by
  simp [nth, setNth, h]

/-- An armed injection shows, and starts at the frame that runs (R165). -/
theorem injWrite_shows {s : State} {e i n : Nat} (hi : i < 4) (hs : s.regsOk) (h : s.on (Reg.LE_INJ_ARM e i) = false)
    (hlen : (s.le e).injStart.length = 4) :
    (s.injWrite e i true n).rd (Reg.LE_INJ_ARM e i) = 1 ∧ (s.injWrite e i true n).rd (Reg.LE_INJ_BUSY e i) = 1 ∧
      (s.injWrite e i true n).rd (Reg.LE_INJ_FRAMES e i) = n % 65536 ∧
      nth ((s.injWrite e i true n).le e).injStart i 0 = s.rd Reg.ORB_FRAME_COUNT ∧
      s.regsBut (s.injWrite e i true n) [Reg.LE_INJ_ARM e i, Reg.LE_INJ_BUSY e i, Reg.LE_INJ_FRAMES e i] := by
  have harm : (s.wr (Reg.LE_INJ_ARM e i) 1).regsOk := keysRise_wr _ _ _ hs
  have hframes : ((s.wr (Reg.LE_INJ_ARM e i) 1).wr (Reg.LE_INJ_FRAMES e i) n).regsOk := keysRise_wr _ _ _ harm
  have hother {f : Fld} (hf : ∀ g ∈ [Reg.LE_INJ_ARM e i, Reg.LE_INJ_BUSY e i, Reg.LE_INJ_FRAMES e i], f.key ≠ g.key) :
      (((s.wr (Reg.LE_INJ_ARM e i) 1).wr (Reg.LE_INJ_FRAMES e i) n).wr (Reg.LE_INJ_BUSY e i) 1).rd f = s.rd f := by
    rw [rd_wr_ne _ _ (hf _ (by simp)), rd_wr_ne _ _ (hf _ (by simp)), rd_wr_ne _ _ (hf _ (by simp))]
  simp only [injWrite_arms h, rd_setLe, le_setLe_same]
  refine ⟨?_, rd_wr_lt hframes Nat.one_lt_two, ?_, (nth_setNth_same _ _ (hlen.symm ▸ hi)).trans (hother ?_), fun f hf => ?_⟩
  · rw [rd_wr_ne _ _ (by simp only [Fld.key]; omega), rd_wr_ne _ _ (by simp only [Fld.key]; omega)]
    exact rd_wr_lt hs Nat.one_lt_two
  · rw [rd_wr_ne _ _ (by simp only [Fld.key]; omega)]
    exact rd_wr_same _ _ _ harm
  · intro g hg
    simp only [List.mem_cons, List.not_mem_nil, or_false] at hg
    rcases hg with rfl | rfl | rfl <;> simp only [Fld.key] <;> omega
  · rw [rd_setLe]
    exact hother hf

/-- The frames of an injection have run (R165). -/
theorem injEnd_due {s : State} {e i : Nat} (hb : s.on (Reg.LE_INJ_BUSY e i) = true) (h0 : s.rd (Reg.LE_INJ_FRAMES e i) ≠ 0)
    (hk : s.rd (Reg.LE_INJ_FRAMES e i) ≤ (s.rd Reg.ORB_FRAME_COUNT + turn - nth (s.le e).injStart i 0) % turn) :
    s.injEnd e i = (s.wr (Reg.LE_INJ_ARM e i) 0).wr (Reg.LE_INJ_BUSY e i) 0 := if_pos (by simp [hb, h0, hk])

/-- Settles O14: each command by its operation on the acknowledged state, and by what that operation shows. -/
theorem loopEngineStateCommandsAct : Obligations.LoopEngineStateCommandsAct := by
  refine ⟨fun s y hy hf hst => ?_, fun s m e he hr hbusy => ?_, fun s m e he hs hr hbusy hcheck => ?_, fun s e he hs ha hst hb => ?_,
    fun s m e he hs hr hst => ?_, fun s m e he hs hr hst hrun hqueue hheld hcov => ?_, fun s m e he hr hst hbusy => ?_,
    fun s e he hst => ⟨?_, ?_⟩, fun s m e he hs hr hst => ?_, fun s m e he hr hst hcov => ?_, fun s e he hs h => ?_,
    fun s m e i n he hi hr hs h hlen => ?_, fun s e i he hi hb h0 hk => ?_, fun s m e he hr => ?_, fun s m e i v he hi hr hbusy => ?_⟩
  · exact congrArg Host.Outcome.next ((if_pos hy).trans (coverFailover_due hf hst))
  · have hexec := engineAccess_allow (f := fun s => if s.on (Reg.LE_STATUS_LOAD_BUSY e) then s else s.leCheck e) (k := 0x18) he hr
      (by simp only [leBase]; omega)
    exact congrArg Host.Outcome.next (hexec.trans (if_pos hbusy))
  · have hexec : exec (.leCmdSwap m e) s = .next (imageAccepted s.acked e) := by
      refine congrArg Host.Outcome.next ((engineAccess_allow (k := 0x18) he hr (by simp only [leBase]; omega)).trans ?_)
      exact (if_neg (ne_true_of_eq_false hbusy)).trans (leCheck_accepted (s := s.acked) hcheck)
    obtain ⟨hacc, hload, hresult, hframe⟩ := imageAccepted_shows (s := s.acked) (e := e) hs
    exact ⟨_, hexec, hacc, hload, hresult, hframe, (kp_execLeCmdSwap _ _ _ _ hexec).memsSame (by decide)⟩
  · have hexec : exec (.leBankSwitch e) s = .next (s.leSwitch e) := congrArg Host.Outcome.next (if_pos he)
    obtain ⟨hready, hbank, hactive, hacc, hload, hraised⟩ := leSwitch_shows he hs ha hst hb
    exact ⟨_, hexec, hready, hbank, hactive, hacc, hload, hraised, (kp_execLeBankSwitch _ _ _ hexec).memsSame (by decide)⟩
  · have hen : (s.acked.wr (Reg.LE_CTRL_EN e) 1).regsOk := keysRise_wr s.acked _ _ hs
    have hexec : exec (.leEnable m e) s = .next ((s.acked.wr (Reg.LE_CTRL_EN e) 1).leTest e) :=
      congrArg Host.Outcome.next ((engineAccess_allow (k := 0) he hr rfl).trans (leEnable_off (s := s.acked) hst))
    obtain ⟨hstate, h0, h1, -⟩ := leTest_shows he hen
    refine ⟨_, hexec, hstate, ((writes_leTest _ he).rd _ (not_or.mpr ⟨?_, ?_⟩)).trans (rd_wr_lt (s := s.acked) hs Nat.one_lt_two), h0, h1,
      (kp_execLeEnable _ _ _ _ hexec).memsSame (by decide)⟩
    · rcases engine_cases he with rfl | rfl <;> decide
    · simp only [tableKey, leBase, Fld.key]; omega
  · have hidle : leIdle s.acked e = true := by
      simp only [leIdle, Bool.not_eq_true', Bool.or_eq_false_iff]
      exact ⟨⟨⟨congrArg Option.isSome hrun, by rw [show (s.acked.le e).queue = [] from hqueue]; rfl⟩,
        by rw [show (s.acked.le e).held = [] from hheld]; rfl⟩, hcov⟩
    have hexec : exec (.leDisable m e) s = .next (s.acked.leDisable e) :=
      congrArg Host.Outcome.next (engineAccess_allow (k := 0) he hr rfl)
    obtain ⟨hstate, hen⟩ := leDisable_shows (s := s.acked) he hs hst hidle
    exact ⟨_, hexec, hstate, hen, (kp_execLeDisable _ _ _ _ hexec).memsSame (by decide)⟩
  · have hnot : leIdle s.acked e = false := by
      rcases hbusy with h | h
      · simp [leIdle, show (s.acked.le e).run.isSome = true from h]
      · simp [leIdle, show s.acked.on (Reg.LE_STATUS_COVERING e) = true from h]
    exact congrArg Host.Outcome.next ((engineAccess_allow (k := 0) he hr rfl).trans (leDisable_busy (s := s.acked) hst hnot))
  · exact congrArg Host.Outcome.next ((if_pos he).trans (leTestDone_eq true hst))
  · exact congrArg Host.Outcome.next ((if_pos he).trans (leTestDone_eq false hst))
  · have hexec : exec (.leSelftestCmd m e) s = .next (s.acked.leTest e) :=
      congrArg Host.Outcome.next ((engineAccess_allow (k := 0x18) he hr (by simp only [leBase]; omega)).trans (if_pos hst))
    obtain ⟨hstate, h0, -, hqueue⟩ := leTest_shows (s := s.acked) he hs
    exact ⟨_, hexec, hstate, h0, hqueue, (kp_execLeSelftestCmd _ _ _ _ hexec).memsSame (by decide)⟩
  · refine congrArg Host.Outcome.next ((engineAccess_allow (k := 0x18) he hr (by simp only [leBase]; omega)).trans (if_pos ?_))
    exact Bool.and_eq_true_iff.mpr ⟨decide_eq_true hst, hcov⟩
  · have hexec : exec (.leReturnApply e) s = .next (s.leReturnApply e) := congrArg Host.Outcome.next (if_pos he)
    obtain ⟨hret, hcov, hadopt, hraised⟩ := leReturnApply_shows he hs h
    exact ⟨_, hexec, hret, hcov, hadopt, hraised, (kp_execLeReturnApply _ _ _ hexec).memsSame (by decide)⟩
  · have hexec : exec (.leInjArm m e i true n) s = .next (s.acked.injWrite e i true n) := by
      refine congrArg Host.Outcome.next ((if_pos (by simp [he, hi])).trans ?_)
      rw [show leBase e + 0x300 + 4 * i = 0x40050300 + 0x8000 * e + 4 * i by simp only [leBase]; omega, access_allow _ hr]
    obtain ⟨harm, hbusy, hframes, hstart, hframe⟩ := injWrite_shows (s := s.acked) (n := n) hi hs h hlen
    exact ⟨_, hexec, harm, hbusy, hframes, hstart, hframe, (kp_execLeInjArm _ _ _ _ _ _ _ hexec).memsSame (by decide)⟩
  · exact congrArg Host.Outcome.next ((if_pos (by simp [he, hi])).trans (injEnd_due hb h0 hk))
  · exact congrArg Host.Outcome.next (engineAccess_allow (k := 0x40) he hr (by simp only [leBase]; omega))
  · refine congrArg Host.Outcome.next ((if_pos (by simp [he, hi])).trans ?_)
    rw [show leBase e + 0x2000 + 4 * i = 0x40052000 + 0x8000 * e + 4 * i by simp only [leBase]; omega, access_allow _ hr]
    exact if_neg (ne_true_of_eq_false hbusy)

end Sys2Proof.Machine
end

section
/-! SUPPORT. The jobs of the loop engines (R143 to R160): what the steps of a job's end leave of the registers, of the operation table and
of the queues, and what an issue, a start, an end, a phase write, a missed write and a fault show. -/

set_option Elab.async false

open Sys2Proof.Machine.State

namespace Sys2Proof.Machine

/-! ### The steps of a job's end -/

/-- From `s` to `t` the register list keeps rising, only fields with a key in `W` change, no operation retires, and no queue of jobs
changes. -/
structure JobStep (W : Nat → Prop) (s t : State) : Prop where
  regsOk : s.regsOk → t.regsOk
  rd : ∀ f : Fld, ¬ W f.key → t.rd f = s.rd f
  ops : t.orbit.ops = s.orbit.ops
  queue : ∀ e, (t.le e).queue = (s.le e).queue

/-- An event retires no operation (R96). -/
theorem raise_ops (s : State) (ev : Nat) : (s.raise ev).orbit.ops = s.orbit.ops := by
  obtain ⟨l, hl⟩ := raise_orbit s ev
  rw [hl]

namespace JobStep
variable {W V : Nat → Prop} {s t u : State}

theorem refl : JobStep W s s := ⟨id, fun _ _ => rfl, rfl, fun _ => rfl⟩

theorem trans (h : JobStep W s t) (k : JobStep W t u) : JobStep W s u where
  regsOk hs := k.regsOk (h.regsOk hs)
  rd f hf := (k.rd f hf).trans (h.rd f hf)
  ops := k.ops.trans h.ops
  queue e := (k.queue e).trans (h.queue e)

/-- A step that writes registers, and leaves the operation table and the engines. -/
theorem of_writes (h : Writes W s t) (ho : t.orbit.ops = s.orbit.ops) (hl : t.les = s.les) : JobStep W s t :=
  ⟨h.regsOk, h.rd, ho, fun e => congrArg LeSt.queue (le_of_les hl e)⟩

/-- An update of parts of the state beside the registers, the operation table and the engines. -/
theorem of_regs (hr : t.regs = s.regs) (ho : t.orbit = s.orbit) (hl : t.les = s.les) : JobStep W s t :=
  of_writes (Writes.of_regs hr) (by rw [ho]) hl

theorem wr {f : Fld} (v : Nat) (hW : W f.key) : JobStep W s (s.wr f v) :=
  ⟨keysRise_wr s f v, fun _ hg => rd_wr_ne s v fun h => hg (h ▸ hW), rfl, fun _ => rfl⟩

theorem raise {ev : Nat} (hW : ∀ k, evKey k → W k) (hev : ev < 192) : JobStep W s (s.raise ev) :=
  of_writes (Writes.raise hW hev) (raise_ops s ev) (raise_les s ev)

theorem flagRaise {f : Fld} {ev : Nat} (hf : W f.key) (hW : ∀ k, evKey k → W k) (hev : ev < 192) : JobStep W s (s.flagRaise f ev) :=
  (wr 1 hf).trans (raise hW hev)

/-- An engine changes, its queue apart. -/
theorem setLe {e : Nat} {v : LeSt} (h : v.queue = (s.le e).queue) : JobStep W s (s.setLe e v) where
  regsOk hs := regsOk_setLe hs
  rd f _ := rd_setLe s e v f
  ops := by rw [setLe_eq]
  queue z := by
    rw [le_setLe]
    split
    next hz => rw [h]; simp only [State.le, hz]
    next => rfl

theorem when {b : Bool} {f : State → State} (h : ∀ u, JobStep W u (f u)) : JobStep W s (s.when b f) := by
  cases b
  · exact refl
  · exact h s

theorem ite {p : Prop} [Decidable p] (ht : JobStep W s t) (hu : JobStep W s u) : JobStep W s (if p then t else u) := by
  split
  · exact ht
  · exact hu

theorem forEach {α : Type} {l : List α} {f : State → α → State} (h : ∀ s, ∀ x ∈ l, JobStep W s (f s x)) (s : State) :
    JobStep W s (s.forEach l f) := by
  induction l generalizing s with
  | nil => exact refl
  | cons a l ih => exact (h s a (by simp)).trans (ih (fun s x hx => h s x (by simp [hx])) (f s a))

end JobStep

/-! ### Outputs and commits (R143, R146, R175 to R178) -/

section Outputs
variable {W : Nat → Prop}

theorem jobStep_commitPend (s : State) {c : Nat} (hc : W (Reg.CL_STATUS_COMMIT_PEND c).key) : JobStep W s (s.commitPend c) := JobStep.wr _ hc

theorem jobStep_lateCommit (s : State) : JobStep W s s.lateCommit := JobStep.of_regs rfl rfl rfl

theorem jobStep_setCluster (s : State) (c : Nat) (v : PwmCluster) : JobStep W s (s.setCluster c v) := JobStep.of_regs rfl rfl rfl

theorem jobStep_holdCommit (s : State) {c : Nat} (hc : W (Reg.CL_STATUS_COMMIT_PEND c).key) : JobStep W s (s.holdCommit c) :=
  ((JobStep.when jobStep_lateCommit).trans (jobStep_setCluster _ c _)).trans (jobStep_commitPend _ hc)

theorem jobStep_shadowWrite (s : State) {c : Nat} {fs : List (Fld × Nat)} (hc : W (Reg.CL_STATUS_COMMIT_PEND c).key)
    (hf : ∀ e ∈ fs, W e.1.key) : JobStep W s (s.shadowWrite c fs) :=
  JobStep.ite ((jobStep_setCluster s c _).trans (JobStep.when fun u => jobStep_holdCommit u hc))
    (JobStep.forEach (fun _ e he => JobStep.wr e.2 (hf e he)) s)

theorem jobStep_activate (s : State) {p : Nat} (v : PairVals) (ha : W (Reg.PR_CMPA_ACT_CMP p).key) (hb : W (Reg.PR_CMPB_ACT_CMP p).key) :
    JobStep W s (s.activate p v) := ((JobStep.wr v.cmpA ha).trans (JobStep.wr v.cmpB hb)).trans (JobStep.of_regs rfl rfl rfl)

/-- The fields that an output of engine `x` writes lie in `W`. -/
def OutputIn (W : Nat → Prop) (x : Nat) (o : Nat × Nat × Nat × Nat) : Prop :=
  W (Reg.LE_OUT_VALUE x o.1).key ∧ W (Reg.PR_CMPA_CMP o.2.2.1).key ∧ W (Reg.PR_CMPB_CMP o.2.2.1).key ∧
    W (Reg.CL_STATUS_COMMIT_PEND (o.2.2.1 / 8)).key

section Commits
variable (hP : ∀ k, k < 0x40020000 * 32 → W k) (hE : ∀ k, evKey k → W k)
include hP hE

theorem jobStep_transferNow (s : State) {c : Nat} (hc : c < 3) : JobStep W s (s.transferNow c) := by
  have hperiod (u : State) (v : Nat) : JobStep W u (u.wr (Reg.CL_PERIOD_ACT_PERIOD c) v) :=
    JobStep.wr v (hP _ (by simp only [Fld.key]; omega))
  have hpair (u : State) (p : Nat) (hp : p ∈ clusterPairs c) : JobStep W u (u.activate p (u.shadows p)) := by
    obtain ⟨i, hi, rfl⟩ := List.mem_map.mp hp
    have hi' : i < 8 := List.mem_range.mp hi
    exact jobStep_activate u _ (hP _ (by simp only [Fld.key]; omega)) (hP _ (by simp only [Fld.key]; omega))
  have hpend (u : State) : JobStep W u (u.commitPend c) := jobStep_commitPend u (hP _ (by simp only [Fld.key]; omega))
  have hrange (u : State) (n : Nat) : JobStep W u (u.rangeCheck c n) :=
    JobStep.when fun u => JobStep.flagRaise (hP _ (by decide)) hE (by decide)
  exact ((((JobStep.when fun u => hperiod u _).trans (JobStep.forEach hpair _)).trans (jobStep_setCluster _ c _)).trans (hpend _)).trans
    (hrange _ _)

theorem jobStep_commitCluster (s : State) {c : Nat} (hc : c < 3) : JobStep W s (s.commitCluster c) := by
  have hpend (u : State) : JobStep W u (u.commitPend c) := jobStep_commitPend u (hP _ (by simp only [Fld.key]; omega))
  refine JobStep.ite (jobStep_transferNow hP hE s hc) (JobStep.ite (jobStep_holdCommit s (hP _ (by simp only [Fld.key]; omega)))
    (JobStep.ite ?_ ((jobStep_setCluster s c _).trans (hpend _))))
  exact ((JobStep.when jobStep_lateCommit).trans (jobStep_setCluster _ c _)).trans (hpend _)

theorem jobStep_pwmCommit (s : State) (mask : Nat) : JobStep W s (s.pwmCommit mask) :=
  JobStep.forEach (fun u _ hc => jobStep_commitCluster hP hE u (mem_bitsOf hc).1) s

theorem jobStep_writeOutputs (s : State) {x : Nat} {outs : List (Nat × Nat × Nat × Nat)} (commit : Bool)
    (hO : ∀ o ∈ outs, OutputIn W x o) : JobStep W s (s.writeOutputs x outs commit) := by
  refine JobStep.trans (JobStep.forEach (fun u o ho => ?_) s) (JobStep.when fun u => jobStep_pwmCommit hP hE u _)
  obtain ⟨hout, ha, hb, hc⟩ := hO o ho
  have hshadow (u : State) (f : Fld) (v : Nat) (hf : W f.key) : JobStep W u (u.shadowWrite (o.2.2.1 / 8) [(f, v)]) :=
    jobStep_shadowWrite u hc (by simpa using hf)
  exact (JobStep.wr _ hout).trans (JobStep.ite (hshadow _ _ _ ha) (JobStep.ite (hshadow _ _ _ hb) JobStep.refl))

end Commits
end Outputs

/-- A key of the registers that the outputs of engine `x` write: those of Orbit and PWM, the outputs of the engine, and those that an
event writes. -/
abbrev outputKey (x k : Nat) : Prop :=
  k < 0x40020000 * 32 ∨ ((0x40050100 + 0x8000 * x) * 32 ≤ k ∧ k < (0x40050180 + 0x8000 * x) * 32) ∨ evKey k

/-- A program has 32 outputs at most, and they name 32 pairs at most (R142, R145). -/
theorem outputIn_of_leOutputs {m : Le.Img} {j x : Nat} {sig : Nat → Nat} {o : Nat × Nat × Nat × Nat} (ho : o ∈ leOutputs m j sig) :
    OutputIn (outputKey x) x o := by
  obtain ⟨n, hn, rfl⟩ := List.mem_map.mp ho
  have hout : n < Le.nout m := List.mem_range.mp (List.mem_of_mem_filter hn)
  have hn' : n < 32 := hout.trans (Nat.mod_lt _ (by decide))
  have hpair : (Le.outMap m n).pair < 32 := Nat.mod_lt _ (by decide)
  refine ⟨.inr (.inl ?_), .inl ?_, .inl ?_, .inl ?_⟩
  · simp only [Fld.key]; omega
  · simp only [Fld.key]; omega
  · simp only [Fld.key]; omega
  · simp only [Fld.key]; omega

/-! ### Retiring an operation (R97) -/

theorem retire_ops (s : State) (slot : Nat) : (s.retire slot).orbit.ops = s.orbit.ops.filter fun o => o.slot != slot := by
  unfold retire
  split
  · rfl
  next h =>
    refine (List.filter_eq_self.mpr fun o ho => bne_iff_ne.mpr fun hslot => h ?_).symm
    exact List.any_eq_true.mpr ⟨o, ho, by simpa using hslot⟩

theorem retire_les (s : State) (slot : Nat) : (s.retire slot).les = s.les := (kp_retire s slot).les (by decide)

theorem writes_retire {W : Nat → Prop} (s : State) {slot : Nat} (hslot : slot < 256) (hW : W (Reg.ORB_SLOT_STAT_RETIRED slot).key) :
    Writes W s (s.retire slot) := by
  have htaken : Writes W s { s with orbit := { s.orbit with ops := s.orbit.ops.filter fun o => o.slot != slot } } := Writes.of_regs rfl
  exact Writes.ite (htaken.trans (Writes.wr 1 hW (by simp only [evKey, Fld.key]; omega))) Writes.refl

/-! ### Issue and start (R138, R149, R158) -/

/-- An engine runs its own jobs while the other does not cover it (R161). -/
theorem leRunner_self {s : State} {x : Nat} (h : s.on (Reg.LE_STATUS_COVERING (1 - x)) = false) : s.leRunner x = x :=
  if_neg (ne_true_of_eq_false h)

theorem program_self (s : State) (x : Nat) : s.program x x = s.leActive x := if_pos rfl

/-- The job that an operation issues. -/
abbrev issuedJob (slot : Nat) (o : OrbOp) : LeJob := ⟨slot, fieldOf o.arga 8 8, o.arga % 2, o.tag, o.epoch⟩

/-- A job that its engine can run is queued, and the next job starts (R158). -/
theorem leIssue_queued {s : State} {slot : Nat} {o : OrbOp} (hcov : s.on (Reg.LE_STATUS_COVERING (1 - o.arga % 2)) = false)
    (hst : s.leState (o.arga % 2) = leReady) (hjob : fieldOf o.arga 8 8 < Le.njob (s.leActive (o.arga % 2)))
    (hlen : (s.le (o.arga % 2)).queue.length < 16) :
    s.leIssue slot o = (s.setLe (o.arga % 2) { s.le (o.arga % 2) with
      queue := (s.le (o.arga % 2)).queue ++ [issuedJob slot o] }).leNext (o.arga % 2) := by
  simp only [leIssue, leRunner_self hcov, program_self, hst]
  exact if_neg (by simp; omega)

/-- A job of an engine that is not ready is refused (R158). -/
theorem leIssue_refused {s : State} {slot : Nat} {o : OrbOp} (hcov : s.on (Reg.LE_STATUS_COVERING (1 - o.arga % 2)) = false)
    (hst : s.leState (o.arga % 2) ≠ leReady) : s.leIssue slot o = s.jobBad (o.arga % 2) slot := by
  simp only [leIssue, leRunner_self hcov]
  exact if_pos (by simp [hst])

theorem leNext_running {s : State} {e : Nat} {r : LeRun} (h : (s.le e).run = some r) : s.leNext e = s := by simp only [leNext, h]

theorem leNext_starts {s : State} {e : Nat} {j : LeJob} {q : List LeJob} (h : (s.le e).run = none) (hq : (s.le e).queue = j :: q) :
    s.leNext e = (s.setLe e { s.le e with queue := q }).leStart e j := by simp only [leNext, h, hq]

theorem leNext_idle {s : State} {e : Nat} (h : (s.le e).run = none) (hq : (s.le e).queue = []) :
    s.leNext e = s.wr (Reg.LE_STATUS_JOB e) 0x3F := by simp only [leNext, h, hq]

/-- The registers that the start of a job writes. -/
abbrev startFields (e : Nat) : List Fld := [Reg.LE_STATUS_JOB e, Reg.LE_FLAGS_INPUT_SETTLE e, Reg.LE_FLAGS_INPUT_OVR e]

theorem writes_loadInputs (s : State) {e : Nat} (x job : Nat) (m : Le.Img) (he : e < 2) :
    Writes (Among (startFields e)) s (s.loadInputs e x job m).2 :=
  (Writes.when fun _ => Writes.wr 1 ⟨Reg.LE_FLAGS_INPUT_SETTLE e, by simp, rfl⟩ (by simp only [evKey, Fld.key]; omega)).trans
    (Writes.when fun _ => Writes.wr 1 ⟨Reg.LE_FLAGS_INPUT_OVR e, by simp, rfl⟩ (by simp only [evKey, Fld.key]; omega))

/-- The state in which a starting job has its inputs (R144). -/
abbrev inputsLoaded (s : State) (e : Nat) (j : LeJob) : State := (s.loadInputs e j.owner j.job (s.program e j.owner)).2

theorem leStart_eq (s : State) (e : Nat) (j : LeJob) : ∃ r : LeRun, r.job = j ∧ s.leStart e j =
    ((inputsLoaded s e j).setLe e { (inputsLoaded s e j).le e with run := some r }).wr (Reg.LE_STATUS_JOB e) j.job := ⟨_, rfl, rfl⟩

/-- A started job runs, and its engine shows it (R158). -/
theorem leStart_shows {s : State} {e : Nat} (j : LeJob) (he : e < 2) (hs : s.regsOk) :
    (∃ r, ((s.leStart e j).le e).run = some r ∧ r.job = j) ∧ ((s.leStart e j).le e).queue = (s.le e).queue ∧
      (s.leStart e j).rd (Reg.LE_STATUS_JOB e) = j.job % 64 ∧ s.regsBut (s.leStart e j) (startFields e) := by
  have hin : Writes (Among (startFields e)) s (inputsLoaded s e j) := writes_loadInputs s _ _ _ he
  have hles : (inputsLoaded s e j).les = s.les := Keeps.les (kp_loadInputs s e j.owner j.job (s.program e j.owner)) (by decide)
  obtain ⟨r, hr, heq⟩ := leStart_eq s e j
  rw [heq]
  refine ⟨⟨r, by rw [wr_le, le_setLe_same], hr⟩, by rw [wr_le, le_setLe_same, le_of_les hles], ?_, ?_⟩
  · exact rd_wr_same _ _ _ (regsOk_setLe (hin.regsOk hs))
  · exact ((hin.trans Writes.setLe).trans (Writes.wr _ ⟨_, by simp, rfl⟩ (by simp only [evKey, Fld.key]; omega))).regsBut

end Sys2Proof.Machine
end

section
/-! SUPPORT. The end of a job, held outputs and missed writes (R154, R157, R158), engine faults (R161, R162) and capture bursts (R166). -/

set_option Elab.async false

open Sys2Proof.Machine.State

namespace Sys2Proof.Machine

/-! ### The end of a job (R158) -/

/-- A step of a job's end that may write any register. -/
abbrev JobMoves : State → State → Prop := JobStep fun _ => True

theorem jobMoves_leNumeric (s : State) (e n : Nat) : JobMoves s (s.leNumeric e n) :=
  JobStep.forEach (fun _ _ _ => (JobStep.flagRaise trivial (fun _ _ => trivial) (by decide)).trans (JobStep.wr _ trivial)) s

theorem jobMoves_leWords (s : State) (e x : Nat) (ws : List (Nat × Nat)) : JobMoves s (s.leWords e x ws) := by
  have hactive (u : State) (m : Le.Img) : JobMoves u (u.setLeActive x m) := JobStep.ite (JobStep.setLe rfl) (JobStep.setLe rfl)
  simp only [leWords]
  split
  next h =>
    subst h
    exact (hactive s _).trans (JobStep.when fun u => JobStep.setLe rfl)
  next => exact JobStep.setLe rfl

theorem jobMoves_handOver (s : State) (e : Nat) (hs : List (Nat × Nat)) : JobMoves s (s.handOver e hs) := by
  refine JobStep.forEach (fun u h _ => ?_) s
  exact (JobStep.wr h.2 trivial).trans (JobStep.setLe rfl)

theorem jobStep_capWords {W : Nat → Prop} (s : State) (a : Nat) (ws : List Nat) : JobStep W s (s.capWords a ws) :=
  JobStep.ite (JobStep.of_regs rfl rfl rfl) JobStep.refl

theorem jobStep_setCap {W : Nat → Prop} (s : State) (e c : Nat) (v : LeCap) : JobStep W s (s.setCap e c v) := JobStep.setLe rfl

theorem jobStep_capSample {W : Nat → Prop} (s : State) (e c : Nat) (vals : List Nat) : JobStep W s (s.capSample e c vals) := by
  have hhead (u : State) (a b : Nat) (v w : List Nat) : JobStep W u ((u.capWords a v).capWords b w) :=
    (jobStep_capWords u a v).trans (jobStep_capWords _ b w)
  refine JobStep.ite JobStep.refl ?_
  exact (((JobStep.when fun u => hhead u _ _ _ _).trans (jobStep_capWords _ _ _)).trans (jobStep_setCap _ e c _)).trans
    (jobStep_capWords _ _ _)

/-- Everything that a job computes is current, before its status shows it. -/
def jobCommitted (s : State) (e : Nat) (r : LeRun) : State :=
  let a := s.leCompute e r
  let t := (s.leNumeric e a.numeric).forEach a.sigs.reverse fun s w => s.wr (Reg.LE_SIG_VALUE r.job.owner w.1) w.2
  let t := ((t.leWords e r.job.owner a.words).handOver e a.hand).leMarks r.job.owner r a
  t.wr (Reg.LE_JOBSTAT_CYCLES r.job.owner r.job.job) (Le.jobCost (s.program e r.job.owner) (t.capSigs r.job.owner) r.job.job)

/-- The status of a job shows its tag and its epoch. -/
def jobStamped (s : State) (r : LeRun) : State :=
  (s.wr (Reg.LE_JOBSTAT_TAG r.job.owner r.job.job) r.job.tag).wr (Reg.LE_JOBSTAT_EPOCH r.job.owner r.job.job) r.job.epoch

/-- The samples of a job are captured, its event is raised, and it runs no longer. -/
def jobStopped (s : State) (e : Nat) (caps : List (Nat × List Nat)) (evt : Bool) : State :=
  let t := (s.forEach caps fun s c => s.capSample e c.1 c.2).when evt fun s => s.raise (if e = 0 then Ev.LE0_JOB_END else Ev.LE1_JOB_END)
  t.setLe e { t.le e with run := none }

/-- The job table entry of a running job. -/
abbrev runDef (s : State) (e : Nat) (r : LeRun) : Le.JobDef := Le.jobDef (s.program e r.job.owner) r.job.job

/-- A job has ended, and its outputs are due. -/
def jobEnded (s : State) (e : Nat) (r : LeRun) : State :=
  jobStopped (jobStamped (jobCommitted s e r) r) e (s.leCompute e r).caps (runDef s e r).evt

/-- The outputs of a job that has ended. -/
abbrev endOutputs (s : State) (e : Nat) (r : LeRun) : List (Nat × Nat × Nat × Nat) :=
  leOutputs (s.program e r.job.owner) r.job.job ((jobEnded s e r).leSig r.job.owner)

/-- The outputs of a job that has ended are written, or held for its WTICK (R154). -/
def jobLeft (s : State) (e : Nat) (r : LeRun) : State :=
  if (runDef s e r).phase then
    (jobEnded s e r).setLe e { (jobEnded s e r).le e with held := ((jobEnded s e r).le e).held ++
      [⟨r.job, endOutputs s e r, (runDef s e r).cmt, (s.leCompute e r).words.map fun w => (w.1, Le.word (s.program e r.job.owner) w.1)⟩] }
  else ((jobEnded s e r).writeOutputs r.job.owner (endOutputs s e r) (runDef s e r).cmt).retire r.job.slot

theorem leEnd_eq (s : State) (e : Nat) (r : LeRun) : s.leEnd e r = (jobLeft s e r).leNext e := rfl

theorem jobMoves_jobCommitted (s : State) (e : Nat) (r : LeRun) : JobMoves s (jobCommitted s e r) := by
  have hsigs (u : State) (l : List (Nat × Nat)) : JobMoves u (u.forEach l fun s w => s.wr (Reg.LE_SIG_VALUE r.job.owner w.1) w.2) :=
    JobStep.forEach (fun _ _ _ => JobStep.wr _ trivial) u
  have hmarks (u : State) (a : LeResult) : JobMoves u (u.leMarks r.job.owner r a) := JobStep.setLe rfl
  exact (((((jobMoves_leNumeric s e _).trans (hsigs _ _)).trans (jobMoves_leWords _ e _ _)).trans (jobMoves_handOver _ e _)).trans
    (hmarks _ _)).trans (JobStep.wr _ trivial)

theorem jobMoves_jobStamped (s : State) (r : LeRun) : JobMoves s (jobStamped s r) := (JobStep.wr _ trivial).trans (JobStep.wr _ trivial)

theorem jobStamped_shows {s : State} {r : LeRun} (hs : s.regsOk) :
    (jobStamped s r).rd (Reg.LE_JOBSTAT_TAG r.job.owner r.job.job) = r.job.tag % 256 ∧
      (jobStamped s r).rd (Reg.LE_JOBSTAT_EPOCH r.job.owner r.job.job) = r.job.epoch % 256 :=
  ⟨(rd_wr_ne _ _ (by simp only [Fld.key]; omega)).trans (rd_wr_same _ _ _ hs), rd_wr_same _ _ _ (keysRise_wr _ _ _ hs)⟩

theorem jobStep_jobStopped {W : Nat → Prop} (s : State) (e : Nat) (caps : List (Nat × List Nat)) (evt : Bool) (hE : ∀ k, evKey k → W k) :
    JobStep W s (jobStopped s e caps evt) :=
  ((JobStep.forEach (fun u c _ => jobStep_capSample u e c.1 c.2) s).trans
    (JobStep.when fun u => JobStep.raise hE (by split <;> decide))).trans (JobStep.setLe rfl)

theorem jobStopped_run (s : State) (e : Nat) (caps : List (Nat × List Nat)) (evt : Bool) :
    ((jobStopped s e caps evt).le e).run = none := congrArg LeSt.run (le_setLe_same _ _ _)

/-- The end of a job is a step that leaves no operation retired. -/
theorem jobMoves_jobEnded (s : State) (e : Nat) (r : LeRun) : JobMoves s (jobEnded s e r) :=
  ((jobMoves_jobCommitted s e r).trans (jobMoves_jobStamped _ r)).trans (jobStep_jobStopped _ e _ _ fun _ _ => trivial)

theorem jobEnded_shows {s : State} (e : Nat) (r : LeRun) (hs : s.regsOk) (hj : r.job.job < 16) :
    (jobEnded s e r).rd (Reg.LE_JOBSTAT_TAG r.job.owner r.job.job) = r.job.tag % 256 ∧
      (jobEnded s e r).rd (Reg.LE_JOBSTAT_EPOCH r.job.owner r.job.job) = r.job.epoch % 256 ∧ ((jobEnded s e r).le e).run = none := by
  have hstop := jobStep_jobStopped (W := evKey) (jobStamped (jobCommitted s e r) r) e (s.leCompute e r).caps (runDef s e r).evt
    fun _ h => h
  obtain ⟨htag, hepoch⟩ := jobStamped_shows (r := r) ((jobMoves_jobCommitted s e r).regsOk hs)
  refine ⟨(hstop.rd _ ?_).trans htag, (hstop.rd _ ?_).trans hepoch, jobStopped_run _ _ _ _⟩
  · simp only [evKey, Fld.key]; omega
  · simp only [evKey, Fld.key]; omega

/-- The keys that the outputs of a job of engine `x` and the retirement of its operation write. -/
abbrev leftKey (x slot k : Nat) : Prop := outputKey x k ∨ Among [Reg.ORB_SLOT_STAT_RETIRED slot] k

/-- What the outputs of a job leave: its status, its engine's queue, and that nothing runs; a FULL job's operation retires (R158). -/
theorem jobLeft_shows {s : State} (e : Nat) (r : LeRun) (hs : s.regsOk) (hslot : r.job.slot < 256) :
    (jobLeft s e r).regsOk ∧ (∀ f : Fld, ¬ leftKey r.job.owner r.job.slot f.key → (jobLeft s e r).rd f = (jobEnded s e r).rd f) ∧
      ((jobLeft s e r).le e).run = ((jobEnded s e r).le e).run ∧ ((jobLeft s e r).le e).queue = (s.le e).queue ∧
      ((runDef s e r).phase = false → (jobLeft s e r).orbit.ops = s.orbit.ops.filter fun o => o.slot != r.job.slot) := by
  have hend := jobMoves_jobEnded s e r
  have hok := hend.regsOk hs
  unfold jobLeft
  split
  next hphase =>
    refine ⟨regsOk_setLe hok, fun f _ => rd_setLe _ _ _ f, by rw [le_setLe_same], ?_, fun h => ?_⟩
    · rw [le_setLe_same]
      exact hend.queue e
    · exact absurd (hphase.symm.trans h) (by decide)
  next =>
    have hout := jobStep_writeOutputs (W := outputKey r.job.owner) (fun _ h => .inl h) (fun _ h => .inr (.inr h)) (jobEnded s e r)
      (outs := endOutputs s e r) (runDef s e r).cmt fun o ho => outputIn_of_leOutputs ho
    have hretire := writes_retire (W := leftKey r.job.owner r.job.slot)
      ((jobEnded s e r).writeOutputs r.job.owner (endOutputs s e r) (runDef s e r).cmt) hslot (.inr ⟨_, by simp, rfl⟩)
    have hles : (((jobEnded s e r).writeOutputs r.job.owner (endOutputs s e r) (runDef s e r).cmt).retire r.job.slot).les =
        (jobEnded s e r).les := (retire_les _ _).trans ((kp_writeOutputs _ _ _ _).les (by decide))
    refine ⟨hretire.regsOk (hout.regsOk hok), fun f hf => (hretire.rd f hf).trans (hout.rd f fun h => hf (.inl h)),
      congrArg LeSt.run (le_of_les hles e), (congrArg LeSt.queue (le_of_les hles e)).trans (hend.queue e), fun _ => ?_⟩
    rw [retire_ops, hout.ops, hend.ops]

/-- The end of a job (R158). -/
theorem leEnd_shows {s : State} {e : Nat} {r : LeRun} (he : e < 2) (hs : s.regsOk) (hx : r.job.owner = e) (hj : r.job.job < 16)
    (hslot : r.job.slot < 256) (hq : (s.le e).queue = []) :
    ((s.leEnd e r).le e).run = none ∧ (s.leEnd e r).rd (Reg.LE_JOBSTAT_TAG e r.job.job) = r.job.tag % 256 ∧
      (s.leEnd e r).rd (Reg.LE_JOBSTAT_EPOCH e r.job.job) = r.job.epoch % 256 ∧ (s.leEnd e r).rd (Reg.LE_STATUS_JOB e) = 0x3F ∧
      ((Le.jobDef (s.leActive e) r.job.job).phase = false → (s.leEnd e r).orbit.ops = s.orbit.ops.filter fun o => o.slot != r.job.slot) := by
  obtain ⟨htag, hepoch, hrun⟩ := jobEnded_shows e r hs hj
  obtain ⟨hok, hrd, hrun', hqueue, hops⟩ := jobLeft_shows e r hs hslot
  rw [leEnd_eq, leNext_idle (hrun'.trans hrun) (hqueue.trans hq), ← program_self s e]
  subst hx
  refine ⟨hrun'.trans hrun, (rd_wr_ne _ _ ?_).trans ((hrd _ ?_).trans htag), (rd_wr_ne _ _ ?_).trans ((hrd _ ?_).trans hepoch),
    rd_wr_lt hok (show 0x3F < 2 ^ 6 by decide), hops⟩
  · simp only [Fld.key]; omega
  · simp only [leftKey, outputKey, Among, List.mem_singleton, exists_eq_left, evKey, Fld.key]; omega
  · simp only [Fld.key]; omega
  · simp only [leftKey, outputKey, Among, List.mem_singleton, exists_eq_left, evKey, Fld.key]; omega

/-! ### Held outputs and missed writes (R154, R157) -/

/-- The held outputs of a slot are taken and written (R154). -/
def heldWritten (s : State) (e slot : Nat) (h : LeHeld) : State :=
  (s.setLe e { s.le e with held := (s.le e).held.filter fun h => h.job.slot != slot }).writeOutputs h.job.owner h.outs h.commit

theorem lePhaseWrite_held {s : State} {e slot : Nat} {h : LeHeld} (hh : (s.le e).held.find? (fun h => h.job.slot == slot) = some h) :
    s.lePhaseWrite e slot = (heldWritten s e slot h).retire slot := by
  simp only [lePhaseWrite, hh]
  rfl

theorem lePhaseWrite_shows {s : State} {e slot : Nat} {h : LeHeld} (hh : (s.le e).held.find? (fun h => h.job.slot == slot) = some h) :
    ((s.lePhaseWrite e slot).le e).held = (s.le e).held.filter (fun h => h.job.slot != slot) ∧
      (s.lePhaseWrite e slot).orbit.ops = s.orbit.ops.filter fun o => o.slot != slot := by
  rw [lePhaseWrite_held hh]
  constructor
  · rw [le_of_les (retire_les _ _), heldWritten, le_of_les ((kp_writeOutputs _ _ _ _).les (by decide)), le_setLe_same]
  · have htaken : JobMoves s (s.setLe e { s.le e with held := (s.le e).held.filter fun h => h.job.slot != slot }) := JobStep.setLe rfl
    have hout : JobMoves s (heldWritten s e slot h) := htaken.trans
      (jobStep_writeOutputs (fun _ _ => trivial) (fun _ _ => trivial) _ h.commit fun _ _ => ⟨trivial, trivial, trivial, trivial⟩)
    rw [retire_ops, hout.ops]

/-- A running PHASE job is stopped at its WTICK, flagged (R157). -/
def writeMissed (s : State) (e : Nat) : State := (s.setLe e { s.le e with run := none }).flagRaise (Reg.LE_FLAGS_MISSED_WRITE e) Ev.LE_MISSED_WRITE

theorem leMissed_phase {s : State} {e : Nat} {r : LeRun} (hrun : (s.le e).run = some r) (hphase : (runDef s e r).phase = true) :
    s.leMissed e = (((writeMissed s e).incSat (Reg.LE_MISSED_COUNT_COUNT e)).retire r.job.slot).leNext e := by
  simp only [leMissed, hrun]
  exact if_pos hphase

/-- A missed write is counted and raised, and its operation retires (R157). -/
theorem leMissed_shows {s : State} {e : Nat} {r : LeRun} (he : e < 2) (hs : s.regsOk) (hrun : (s.le e).run = some r)
    (hq : (s.le e).queue = []) (hslot : r.job.slot < 256) (hphase : (runDef s e r).phase = true) :
    ((s.leMissed e).le e).run = none ∧ (s.leMissed e).rd (Reg.LE_FLAGS_MISSED_WRITE e) = 1 ∧
      (s.leMissed e).rd (Reg.LE_MISSED_COUNT_COUNT e) = satInc 65535 (s.rd (Reg.LE_MISSED_COUNT_COUNT e)) % 65536 ∧
      s.raisedIn (s.leMissed e) Ev.LE_MISSED_WRITE ∧ (s.leMissed e).orbit.ops = s.orbit.ops.filter fun o => o.slot != r.job.slot := by
  have hstop : (s.setLe e { s.le e with run := none }).regsOk := regsOk_setLe hs
  have hset : Writes (AmongEv [Reg.LE_FLAGS_MISSED_WRITE e]) s
      ((s.setLe e { s.le e with run := none }).wr (Reg.LE_FLAGS_MISSED_WRITE e) 1) :=
    Writes.setLe.trans (Writes.wr 1 (.inl ⟨_, by simp, rfl⟩) (by simp only [evKey, Fld.key]; omega))
  have hflag : Writes (AmongEv [Reg.LE_FLAGS_MISSED_WRITE e]) s (writeMissed s e) := hset.trans (Writes.raise amongEv_ev (by decide))
  have hflagged : (writeMissed s e).rd (Reg.LE_FLAGS_MISSED_WRITE e) = 1 :=
    rd_flagRaise_same hstop (by simp only [evKey, Fld.key]; omega) (by decide)
  have hcounted : (writeMissed s e).rd (Reg.LE_MISSED_COUNT_COUNT e) = s.rd (Reg.LE_MISSED_COUNT_COUNT e) :=
    hflag.regsButEv _ (by simp [Fld.key]; omega) (by simp only [evKey, Fld.key]; omega)
  have hcount : Writes (Among [Reg.LE_MISSED_COUNT_COUNT e]) (writeMissed s e) ((writeMissed s e).incSat (Reg.LE_MISSED_COUNT_COUNT e)) :=
    Writes.wr _ ⟨_, by simp, rfl⟩ (by simp only [evKey, Fld.key]; omega)
  have hend : Writes (Among [Reg.ORB_SLOT_STAT_RETIRED r.job.slot, Reg.LE_STATUS_JOB e]) ((writeMissed s e).incSat (Reg.LE_MISSED_COUNT_COUNT e))
      ((((writeMissed s e).incSat (Reg.LE_MISSED_COUNT_COUNT e)).retire r.job.slot).wr (Reg.LE_STATUS_JOB e) 0x3F) :=
    (writes_retire _ hslot ⟨_, by simp, rfl⟩).trans (Writes.wr 0x3F ⟨_, by simp, rfl⟩ (by simp only [evKey, Fld.key]; omega))
  have hles : (((writeMissed s e).incSat (Reg.LE_MISSED_COUNT_COUNT e)).retire r.job.slot).les =
      (s.setLe e { s.le e with run := none }).les := (retire_les _ _).trans (raise_les _ _)
  have hle := (le_of_les hles e).trans (le_setLe_same _ _ _)
  rw [leMissed_phase hrun hphase, leNext_idle (congrArg LeSt.run hle) ((congrArg LeSt.queue hle).trans hq)]
  refine ⟨congrArg LeSt.run hle, ?_, ?_, ?_, ?_⟩
  · rw [hend.regsBut _ (by simp [Fld.key]; omega), hcount.regsBut _ (by simp [Fld.key]; omega)]
    exact hflagged
  · rw [hend.regsBut _ (by simp [Fld.key]; omega), ← hcounted]
    exact rd_wr_same _ _ _ (hflag.regsOk hs)
  · exact hset.raisedIn ((hcount.mono fun _ _ => trivial).trans (hend.mono (V := fun _ => True) fun _ _ => trivial)) hs (by decide)
      (by rcases engine_cases he with rfl | rfl <;> decide)
  · have hops : (writeMissed s e).orbit.ops = s.orbit.ops := (raise_ops _ _).trans (by rw [wr_orbit, setLe_eq])
    rw [wr_orbit, retire_ops, incSat_eq, wr_orbit, hops]

/-! ### Faults (R161, R162) -/

/-- The engine stops, its running job is gone, and its fault is raised (R162). -/
def engineStopped (s : State) (e : Nat) (k : LeFaultKind) : State :=
  ((((s.setLe e { s.le e with run := none, held := [] }).wr (leFaultFld e k) 1).wr (Reg.LE_STATUS_STATE e) leFaulted).wr
    (Reg.LE_STATUS_JOB e) 0x3F).raise Ev.LE_FAULT

/-- The other engine covers an engine that is not covering itself (R161). -/
abbrev coverable (s : State) (e : Nat) : Bool :=
  s.on (Reg.LE_STATUS_COVER_READY (1 - e)) && decide (s.leState (1 - e) = leReady) && !s.on (Reg.LE_STATUS_COVERING e)

theorem leFault_ready {s : State} {e : Nat} (k : LeFaultKind) (hst : s.leState e = leReady) (hheld : (s.le e).held = []) :
    s.leFault e k = if coverable (engineStopped s e k) e then
        (engineStopped s e k).setLe (1 - e) { (engineStopped s e k).le (1 - e) with failover := true }
      else (engineStopped s e k).wantOrderly := by
  simp only [leFault, hst, if_true, hheld]
  rfl

/-- The registers that the fault of an engine writes. -/
abbrev stopFields (e : Nat) (k : LeFaultKind) : List Fld := [leFaultFld e k, Reg.LE_STATUS_STATE e, Reg.LE_STATUS_JOB e]

/-- The flag of a fault is one of the flags of its engine (R169). -/
theorem leFaultFld_place (e : Nat) (k : LeFaultKind) :
    (leFaultFld e k).addr = 0x40050008 + 0x8000 * e ∧ (leFaultFld e k).lo < 4 ∧ (leFaultFld e k).width = 1 := by
  cases k <;> exact ⟨rfl, by simp [leFaultFld], rfl⟩

theorem writes_engineStopping (s : State) {e : Nat} (k : LeFaultKind) (he : e < 2) : Writes (AmongEv (stopFields e k)) s
    ((((s.setLe e { s.le e with run := none, held := [] }).wr (leFaultFld e k) 1).wr (Reg.LE_STATUS_STATE e) leFaulted).wr
      (Reg.LE_STATUS_JOB e) 0x3F) := by
  obtain ⟨haddr, hlo, -⟩ := leFaultFld_place e k
  exact ((Writes.setLe.trans (Writes.wr 1 (.inl ⟨_, by simp, rfl⟩) (by simp only [evKey, Fld.key, haddr]; omega))).trans
    (Writes.wr _ (.inl ⟨_, by simp, rfl⟩) (by simp only [evKey, Fld.key]; omega))).trans
      (Writes.wr _ (.inl ⟨_, by simp, rfl⟩) (by simp only [evKey, Fld.key]; omega))

theorem writes_engineStopped (s : State) {e : Nat} (k : LeFaultKind) (he : e < 2) :
    Writes (AmongEv (stopFields e k)) s (engineStopped s e k) :=
  (writes_engineStopping s k he).trans (Writes.raise amongEv_ev (by decide))

/-- A stopped engine is in FAULT with its flag set, and runs nothing (R162). -/
theorem engineStopped_shows {s : State} {e : Nat} (k : LeFaultKind) (he : e < 2) (hs : s.regsOk) :
    (engineStopped s e k).leState e = leFaulted ∧ (engineStopped s e k).rd (leFaultFld e k) = 1 ∧
      s.raisedIn (engineStopped s e k) Ev.LE_FAULT ∧ ((engineStopped s e k).le e).run = none := by
  obtain ⟨haddr, hlo, hwidth⟩ := leFaultFld_place e k
  have hset : (s.setLe e { s.le e with run := none, held := [] }).regsOk := regsOk_setLe hs
  have hflag : ((s.setLe e { s.le e with run := none, held := [] }).wr (leFaultFld e k) 1).regsOk := keysRise_wr _ _ _ hset
  refine ⟨?_, ?_, (writes_engineStopping s k he).raisedIn (V := evKey) Writes.refl hs (by decide) ?_, ?_⟩
  · rw [leState, engineStopped, rd_raise _ _ (by decide) _ (by simp only [evKey, Fld.key]; omega), rd_wr_ne _ _ (by simp only [Fld.key]; omega)]
    exact rd_wr_lt hflag (show leFaulted < 2 ^ 3 by decide)
  · rw [engineStopped, rd_raise _ _ (by decide) _ (by simp only [evKey, Fld.key, haddr]; omega),
      rd_wr_ne _ _ (by simp only [Fld.key, haddr]; omega), rd_wr_ne _ _ (by simp only [Fld.key, haddr]; omega), rd_wr_same _ _ _ hset, hwidth]
    rfl
  · rcases engine_cases he with rfl | rfl <;> cases k <;> decide
  · rw [engineStopped, raise_le, wr_le, wr_le, wr_le, le_setLe_same]

/-- Whether an engine can be covered is not changed by its stop. -/
theorem coverable_engineStopped (s : State) {e : Nat} (k : LeFaultKind) (he : e < 2) :
    coverable (engineStopped s e k) e = coverable s e := by
  have h := writes_engineStopped s k he
  have hready := h.on (f := Reg.LE_STATUS_COVER_READY (1 - e)) (by rcases engine_cases he with rfl | rfl <;> cases k <;> decide)
  have hstate : (engineStopped s e k).leState (1 - e) = s.leState (1 - e) :=
    h.rd _ (by rcases engine_cases he with rfl | rfl <;> cases k <;> decide)
  have hcovering := h.on (f := Reg.LE_STATUS_COVERING e) (by rcases engine_cases he with rfl | rfl <;> cases k <;> decide)
  simp only [coverable, hready, hstate, hcovering]

/-- The orderly safe state is due or not, whatever an engine's stop has done. -/
theorem engineStopped_orderly (s : State) (e : Nat) (k : LeFaultKind) : (engineStopped s e k).pairs.orderly = s.pairs.orderly :=
  (congrArg PairsSt.orderly (held_raise _ _)).trans (by rw [setLe_eq]; rfl)

/-- A fault of an engine that the other can cover (R161). -/
theorem leFault_covered {s : State} {e : Nat} (k : LeFaultKind) (he : e < 2) (hs : s.regsOk) (hst : s.leState e = leReady)
    (hheld : (s.le e).held = []) (hcover : coverable s e = true) :
    (s.leFault e k).leState e = leFaulted ∧ (s.leFault e k).rd (leFaultFld e k) = 1 ∧ s.raisedIn (s.leFault e k) Ev.LE_FAULT ∧
      ((s.leFault e k).le e).run = none ∧ ((s.leFault e k).le (1 - e)).failover = true ∧
      (s.leFault e k).pairs.orderly = s.pairs.orderly := by
  obtain ⟨hstate, hflag, hraised, hrun⟩ := engineStopped_shows k he hs
  rw [leFault_ready k hst hheld, if_pos ((coverable_engineStopped s k he).trans hcover)]
  refine ⟨(rd_setLe _ _ _ _).trans hstate, (rd_setLe _ _ _ _).trans hflag, ?_, ?_, by rw [le_setLe_same], ?_⟩
  · exact fun g hg hb => (congrArg (hasBit · _) (rd_setLe _ _ _ _)).trans (hraised g hg hb)
  · rw [le_setLe_other _ _ (by omega) he (by omega)]
    exact hrun
  · rw [setLe_eq]
    exact engineStopped_orderly s e k

/-- A fault of an engine that the other cannot cover: the orderly safe state is due (R161). -/
theorem leFault_uncovered {s : State} {e : Nat} (k : LeFaultKind) (he : e < 2) (hs : s.regsOk) (hst : s.leState e = leReady)
    (hheld : (s.le e).held = []) (hcover : coverable s e = false) :
    (s.leFault e k).leState e = leFaulted ∧ (s.leFault e k).rd (leFaultFld e k) = 1 ∧ s.raisedIn (s.leFault e k) Ev.LE_FAULT ∧
      (s.leFault e k).pairs.orderly = true := by
  obtain ⟨hstate, hflag, hraised, -⟩ := engineStopped_shows k he hs
  rw [leFault_ready k hst hheld, if_neg (ne_true_of_eq_false ((coverable_engineStopped s k he).trans hcover))]
  exact ⟨hstate, hflag, hraised, rfl⟩

/-! ### Capture (R166) -/

/-- A capture operation that names a set in its mode arms it (R95). -/
theorem burstArm_arms {s : State} {slot : Nat} {o : OrbOp} (hn : 0 < o.argb % 65536)
    (hen : s.on (Reg.LE_CAP_CFG_EN (o.arga % 2) (fieldOf o.arga 8 4)) = true)
    (hmode : s.on (Reg.LE_CAP_CFG_MODE (o.arga % 2) (fieldOf o.arga 8 4)) = true) :
    s.burstArm slot o = s.setCap (o.arga % 2) (fieldOf o.arga 8 4)
      { count := 0, truncated := false, burst := some (slot, o.argb % 65536) } := if_pos (by simp only [hen, hmode, hn]; rfl)

/-- A capture operation of no samples retires at once. -/
theorem burstArm_empty {s : State} {slot : Nat} {o : OrbOp} (hn : o.argb % 65536 = 0) : s.burstArm slot o = s.retire slot :=
  if_neg (by rw [hn]; simp)

/-- From `s` to `t` only the engines and the capture buffer change. -/
def CaptureOnly (s t : State) : Prop := ∃ l c, t = { s with les := l, capture := c }

theorem CaptureOnly.refl (s : State) : CaptureOnly s s := ⟨_, _, rfl⟩

theorem CaptureOnly.trans {s t u : State} : CaptureOnly s t → CaptureOnly t u → CaptureOnly s u := by
  rintro ⟨l, c, rfl⟩ ⟨l', c', rfl⟩
  exact ⟨l', c', rfl⟩

theorem CaptureOnly.eq {s t : State} : CaptureOnly s t → t = { s with les := t.les, capture := t.capture } := by
  rintro ⟨l, c, rfl⟩
  rfl

theorem captureOnly_setCap (s : State) (e c : Nat) (v : LeCap) : CaptureOnly s (s.setCap e c v) := ⟨_, _, setLe_eq s e _⟩

theorem captureOnly_capWords (s : State) (a : Nat) (ws : List Nat) : CaptureOnly s (s.capWords a ws) := by
  unfold capWords
  split
  · exact ⟨_, _, rfl⟩
  · exact CaptureOnly.refl s

@[simp] theorem capWords_les (s : State) (a : Nat) (ws : List Nat) : (s.capWords a ws).les = s.les := by
  unfold capWords
  split <;> rfl

theorem cap_of_les {s t : State} (h : t.les = s.les) (e c : Nat) : t.cap e c = s.cap e c := by rw [cap, le_of_les h, cap]

theorem cap_setCap_same {s : State} {e c : Nat} (v : LeCap) (h : c < (s.le e).caps.length) : (s.setCap e c v).cap e c = v := by
  rw [cap, setCap, le_setLe_same]
  exact nth_setNth_same v {} h

theorem caps_length_setCap (s : State) (e c : Nat) (v : LeCap) : ((s.setCap e c v).le e).caps.length = (s.le e).caps.length := by
  rw [setCap, le_setLe_same]
  exact List.length_set

/-- A sample of a set that its region has room for: words of the capture buffer, and one sample more in the count (R167). -/
theorem capSample_fits {s : State} {e c : Nat} {vals : List Nat} (h : ((s.capRegion e c).2 - 4) / Nat.max 1 vals.length ≠ 0) :
    ∃ (u : State) (a : Nat) (ws : List Nat), CaptureOnly s u ∧ u.les = s.les ∧
      s.capSample e c vals = (u.setCap e c { s.cap e c with count := (s.cap e c).count + 1 }).capWords a ws := by
  have hhead (b : Bool) (x y : Nat) (v w : List Nat) : CaptureOnly s (s.when b fun s => (s.capWords x v).capWords y w) ∧
      (s.when b fun s => (s.capWords x v).capWords y w).les = s.les := by
    cases b
    · exact ⟨CaptureOnly.refl s, rfl⟩
    · exact ⟨(captureOnly_capWords s x v).trans (captureOnly_capWords _ y w), by rw [when_true, capWords_les, capWords_les]⟩
  refine ⟨_, _, _, (hhead _ _ _ _ _).1.trans (captureOnly_capWords _ _ _), (capWords_les _ _ _).trans (hhead _ _ _ _ _).2, if_neg h⟩

/-- A sample leaves its set one sample more, and changes the engines and the capture buffer alone (R167). -/
theorem capSample_shows {s : State} {e c : Nat} {vals : List Nat} (h : ((s.capRegion e c).2 - 4) / Nat.max 1 vals.length ≠ 0)
    (hc : c < (s.le e).caps.length) :
    CaptureOnly s (s.capSample e c vals) ∧ (s.capSample e c vals).cap e c = { s.cap e c with count := (s.cap e c).count + 1 } ∧
      ((s.capSample e c vals).le e).caps.length = (s.le e).caps.length := by
  obtain ⟨u, a, ws, hu, hles, heq⟩ := capSample_fits h
  have hlen : (u.le e).caps.length = (s.le e).caps.length := by rw [le_of_les hles]
  rw [heq]
  refine ⟨(hu.trans (captureOnly_setCap _ e c _)).trans (captureOnly_capWords _ a ws), ?_, ?_⟩
  · rw [cap_of_les (capWords_les _ _ _), cap_setCap_same _ (hlen ▸ hc)]
  · rw [le_of_les (capWords_les _ _ _), caps_length_setCap, hlen]

/-- The sources of a burst's sample, in order (R166). -/
def burstValues (s : State) (e c : Nat) : List Nat :=
  (List.range (s.capSigs e c)).map fun i => s.burstValue e (
    if i < 4 then fieldOf (s.rd (Reg.LE_CAP_SRC_LO_SRC e c)) (8 * i) 8
    else fieldOf (s.rd (Reg.LE_CAP_SRC_HI_SRC e c)) (8 * (i - 4)) 8)

theorem burstSample_goesOn {s : State} {e c slot n : Nat} (hb : (s.cap e c).burst = some (slot, n)) (hn : 1 < n)
    (hfit : 4 + s.capSigs e c * ((s.cap e c).count + 1) ≤ (s.capRegion e c).2) :
    s.burstSample e c = (s.capSample e c (burstValues s e c)).setCap e c
      { (s.capSample e c (burstValues s e c)).cap e c with burst := some (slot, n - 1) } := by
  simp only [burstSample, hb]
  rw [if_neg (Nat.not_lt.mpr hfit), if_neg (Nat.not_le.mpr hn)]
  rfl

/-- One sample of a burst that goes on (R166). -/
theorem burstSample_shows {s : State} {e c slot n : Nat} (hc : c < (s.le e).caps.length) (hb : (s.cap e c).burst = some (slot, n))
    (hn : 1 < n) (hsigs : 0 < s.capSigs e c) (hfit : 4 + s.capSigs e c * ((s.cap e c).count + 1) ≤ (s.capRegion e c).2) :
    ((s.burstSample e c).cap e c).burst = some (slot, n - 1) ∧ ((s.burstSample e c).cap e c).count = (s.cap e c).count + 1 ∧
      CaptureOnly s (s.burstSample e c) := by
  have hlen : (burstValues s e c).length = s.capSigs e c := by simp [burstValues]
  have hroom : ((s.capRegion e c).2 - 4) / Nat.max 1 (burstValues s e c).length ≠ 0 := by
    have hmax : Nat.max 1 (burstValues s e c).length = s.capSigs e c := by rw [hlen]; exact Nat.max_eq_right hsigs
    rw [hmax]
    refine (Nat.div_pos ?_ hsigs).ne'
    have := Nat.le_mul_of_pos_right (s.capSigs e c) (show 0 < (s.cap e c).count + 1 by omega)
    omega
  obtain ⟨honly, hcap, hcaps⟩ := capSample_shows hroom hc
  rw [burstSample_goesOn hb hn hfit, cap_setCap_same _ (hcaps.symm ▸ hc), hcap]
  exact ⟨rfl, rfl, honly.trans (captureOnly_setCap _ e c _)⟩

/-! ### The statement -/

/-- A job of an engine that idles runs at once (R158). -/
theorem leIssue_idle {s : State} {slot : Nat} {o : OrbOp} (hcov : s.on (Reg.LE_STATUS_COVERING (1 - o.arga % 2)) = false)
    (hst : s.leState (o.arga % 2) = leReady) (hjob : fieldOf o.arga 8 8 < Le.njob (s.leActive (o.arga % 2)))
    (hq : (s.le (o.arga % 2)).queue = []) (hrun : (s.le (o.arga % 2)).run = none) :
    ∃ u : State, u.regs = s.regs ∧ (u.le (o.arga % 2)).queue = [] ∧ s.leIssue slot o = u.leStart (o.arga % 2) (issuedJob slot o) := by
  rw [leIssue_queued hcov hst hjob (by rw [hq]; decide), leNext_starts (j := issuedJob slot o) (q := []) (by rw [le_setLe_same]; exact hrun)
    (by rw [le_setLe_same, hq]; rfl)]
  exact ⟨_, (setLe_regs _ _ _).trans (setLe_regs _ _ _), by rw [le_setLe_same], rfl⟩

/-- A job queues behind the one that runs (R158). -/
theorem leIssue_busy {s : State} {slot : Nat} {o : OrbOp} {r : LeRun} (hcov : s.on (Reg.LE_STATUS_COVERING (1 - o.arga % 2)) = false)
    (hst : s.leState (o.arga % 2) = leReady) (hjob : fieldOf o.arga 8 8 < Le.njob (s.leActive (o.arga % 2)))
    (hlen : (s.le (o.arga % 2)).queue.length < 16) (hrun : (s.le (o.arga % 2)).run = some r) :
    s.leIssue slot o = s.setLe (o.arga % 2) { s.le (o.arga % 2) with queue := (s.le (o.arga % 2)).queue ++ [issuedJob slot o] } := by
  rw [leIssue_queued hcov hst hjob hlen]
  exact leNext_running (by rw [le_setLe_same]; exact hrun)

/-- An issue reaches the engine of its operation. -/
theorem exec_leJobStart_issued {s : State} {slot : Nat} {o : OrbOp} (h : s.opOf? slot 2 = some o) :
    exec (.leJobStart slot) s = .next (s.leIssue slot o) := by
  change Host.Outcome.next (match s.opOf? slot 2 with | some o => s.leIssue slot o | none => s) = _
  rw [h]

/-- A capture operation reaches its set. -/
theorem exec_captureBurstArm_issued {s : State} {slot : Nat} {o : OrbOp} (h : s.opOf? slot 4 = some o) :
    exec (.captureBurstArm slot) s = .next (s.burstArm slot o) := by
  change Host.Outcome.next (match s.opOf? slot 4 with | some o => s.burstArm slot o | none => s) = _
  rw [h]

/-- The end of the job that an engine runs. -/
theorem exec_leJobEnd_running {s : State} {e : Nat} {r : LeRun} (he : e < 2) (h : (s.le e).run = some r) :
    exec (.leJobEnd e) s = .next (s.leEnd e r) := by
  change Host.Outcome.next (match (s.le e).run with | some r => if e < 2 then s.leEnd e r else s | none => s) = _
  rw [h]
  exact congrArg Host.Outcome.next (if_pos he)

/-- Settles O13: each command by its operation, and by what that operation shows. -/
theorem loopEngineJobsAct : Obligations.LoopEngineJobsAct := by
  refine ⟨fun s slot x o hs hop hx hcov hst hjob hq hrun => ?_, fun s slot x o r hop hx hcov hst hjob hlen hrun => ?_,
    fun s slot x o hop hx hcov hst => ?_, fun s e r he hs hrun hx hj hslot hq => ?_, fun s e slot h he hh => ?_,
    fun s e r he hs hrun hq hslot hphase => ?_, fun s e k he hs hst hheld hcov hother hready => ?_,
    fun s e r he hs hst hrun hheld hready => ?_, fun s slot e c n o hop he hc hn hpos hen hmode => ?_, fun s slot o hop hn => ?_,
    fun s e c slot n he hc hlen hb hn hsigs hfit => ?_⟩
  · subst hx
    obtain ⟨u, hregs, hqueue, hissue⟩ := leIssue_idle (slot := slot) hcov hst hjob hq hrun
    have hsame (f : Fld) : u.rd f = s.rd f := by rw [rd_eq, hregs, ← rd_eq]
    have hexec := (exec_leJobStart_issued hop).trans (congrArg Host.Outcome.next hissue)
    obtain ⟨⟨r, hr, hrj⟩, hq', hshown, hframe⟩ := leStart_shows (s := u) (issuedJob slot o) (Nat.mod_lt _ (by decide))
      (by rw [State.regsOk, hregs]; exact hs)
    exact ⟨_, r, hexec, hr, hrj, hq'.trans hqueue, hshown, fun f hf => (hframe f hf).trans (hsame f),
      (kp_execLeJobStart _ _ _ hexec).memsSame (by decide)⟩
  · subst hx
    exact (exec_leJobStart_issued hop).trans (congrArg Host.Outcome.next (leIssue_busy hcov hst hjob hlen hrun))
  · subst hx
    exact (exec_leJobStart_issued hop).trans (congrArg Host.Outcome.next (leIssue_refused hcov hst))
  · exact ⟨_, exec_leJobEnd_running he hrun, leEnd_shows he hs hx hj hslot hq⟩
  · have hexec : exec (.lePhaseWrite e slot) s = .next (s.lePhaseWrite e slot) := congrArg Host.Outcome.next (if_pos he)
    obtain ⟨hheld, hops⟩ := lePhaseWrite_shows hh
    exact ⟨_, hexec, hheld, hops, (kp_execLePhaseWrite _ _ _ _ hexec).memsSame (by decide)⟩
  · have hexec : exec (.leMissedWrite e) s = .next (s.leMissed e) := congrArg Host.Outcome.next (if_pos he)
    obtain ⟨hnone, hflag, hcount, hraised, hops⟩ := leMissed_shows he hs hrun hq hslot hphase
    exact ⟨_, hexec, hnone, hflag, hcount, hraised, hops, (kp_execLeMissedWrite _ _ _ hexec).memsSame (by decide)⟩
  · have hexec : exec (.leFault e k) s = .next (s.leFault e k) := congrArg Host.Outcome.next (if_pos he)
    have hcover : coverable s e = true := by simp [coverable, hready, hother, hcov]
    obtain ⟨hstate, hflag, hraised, hnone, hfail, horderly⟩ := leFault_covered k he hs hst hheld hcover
    exact ⟨_, hexec, hstate, hflag, hraised, hnone, hfail, horderly, (kp_execLeFault _ _ _ _ hexec).memsSame (by decide)⟩
  · have hexec : exec (.leOverrunFault e) s = .next (s.leFault e .overrun) :=
      congrArg Host.Outcome.next (if_pos (by simp [he, hrun]))
    have hcover : coverable s e = false := by simp [coverable, hready]
    obtain ⟨hstate, hflag, hraised, horderly⟩ := leFault_uncovered .overrun he hs hst hheld hcover
    exact ⟨_, hexec, hstate, hflag, hraised, horderly, (kp_execLeOverrunFault _ _ _ hexec).memsSame (by decide)⟩
  · subst he hc hn
    exact (exec_captureBurstArm_issued hop).trans (congrArg Host.Outcome.next (burstArm_arms hpos hen hmode))
  · exact (exec_captureBurstArm_issued hop).trans (congrArg Host.Outcome.next (burstArm_empty hn))
  · have hexec : exec (.captureBurstSample e c) s = .next (s.burstSample e c) := congrArg Host.Outcome.next (if_pos (by simp [he, hc]))
    obtain ⟨hburst, hcount, honly⟩ := burstSample_shows (hlen.symm ▸ hc) hb hn hsigs hfit
    exact ⟨_, hexec, hburst, hcount, honly.eq⟩

end Sys2Proof.Machine
end

section
/-! SUPPORT. The PWM block (R170 to R199): what it holds of a pair, a cluster or a trip line after an update, what a loop over its
units leads to, and, as one relation, which registers and which part of the block an operation moves. -/

set_option Elab.async false

open Sys2Proof.Machine.State

namespace Sys2Proof.Machine

/-! ### Pairs, clusters and lines after an update -/

theorem nth_setNth_ne {α : Type} (l : List α) {i j : Nat} (v d : α) (h : j ≠ i) : nth (setNth l i v) j d = nth l j d := by
  simp only [nth, setNth, List.getD_eq_getElem?_getD, List.getElem?_set_ne h.symm]

theorem pwmPair_setPwmPair_same {s : State} {p : Nat} (v : PwmPair) (hs : s.Shaped) (hp : p < 24) : (s.setPwmPair p v).pwmPair p = v :=
  nth_setNth_same v {} (hs.pwmPairs.symm ▸ hp)

theorem pwmPair_setPwmPair_ne (s : State) {p q : Nat} (v : PwmPair) (h : q ≠ p) : (s.setPwmPair p v).pwmPair q = s.pwmPair q :=
  nth_setNth_ne _ v {} h

theorem cluster_setCluster_same {s : State} {c : Nat} (v : PwmCluster) (hs : s.Shaped) (hc : c < 3) : (s.setCluster c v).cluster c = v :=
  nth_setNth_same v {} (hs.pwmClusters.symm ▸ hc)

theorem line_setLine_same {s : State} {n : Nat} (v : TripLine) (hs : s.Shaped) (hn : n < 16) : (s.setLine n v).line n = v :=
  nth_setNth_same v {} (hs.tripLines.symm ▸ hn)

@[simp] theorem wr_pwmPair (s : State) (f : Fld) (v p : Nat) : (s.wr f v).pwmPair p = s.pwmPair p := rfl

@[simp] theorem wr_cluster (s : State) (f : Fld) (v c : Nat) : (s.wr f v).cluster c = s.cluster c := rfl

theorem shaped_wr {s : State} {f : Fld} {v : Nat} (hs : s.Shaped) : (s.wr f v).Shaped := Keeps.shaped_of (s := s) rfl hs

theorem shaped_acked {s : State} (hs : s.Shaped) : s.acked.Shaped := Keeps.shaped_of (s := s) rfl hs

theorem pwmPair_of_pairs {s t : State} (h : t.pwm.pairs = s.pwm.pairs) (p : Nat) : t.pwmPair p = s.pwmPair p := by
  rw [pwmPair, h, pwmPair]

theorem cluster_of_clusters {s t : State} (h : t.pwm.clusters = s.pwm.clusters) (c : Nat) : t.cluster c = s.cluster c := by
  rw [cluster, h, cluster]

theorem line_of_lines {s t : State} (h : t.pwm.lines = s.pwm.lines) (n : Nat) : t.line n = s.line n := by
  rw [line, h, line]

/-- A pair of a cluster (R170). -/
theorem mem_clusterPairs {c p : Nat} : p ∈ clusterPairs c ↔ p / 8 = c := by
  simp only [clusterPairs, List.mem_map, List.mem_range]
  constructor
  · rintro ⟨i, hi, rfl⟩
    omega
  · exact fun h => ⟨p % 8, Nat.mod_lt _ (by decide), by omega⟩

/-! ### Bits and loops -/

theorem mem_bitsOf_iff {w x i : Nat} : i ∈ bitsOf w x ↔ i < w ∧ hasBit x i = true := by simp [bitsOf]

/-- A mask of one bit names that bit alone. -/
theorem bitsOf_eq_singleton {w x n : Nat} (hn : n < w) (h : ∀ i, hasBit x i = (n == i)) : bitsOf w x = [n] := by
  have hfilter : bitsOf w x = (List.range w).filter (· == n) := List.filter_congr fun i _ => (h i).trans Bool.beq_comm
  rw [hfilter, List.filter_beq, List.count_eq_one_of_mem List.nodup_range (List.mem_range.mpr hn)]
  rfl

theorem hasBit_two_pow (n i : Nat) : hasBit (2 ^ n) i = (n == i) := by
  rw [hasBit_eq_testBit, Nat.testBit_two_pow]
  rfl

/-- The bits that a mask of one bit selects of a register in which that bit is set. -/
theorem bitsOf_two_pow_and {w x n : Nat} (hn : n < w) (h : hasBit x n = true) : bitsOf w (2 ^ n &&& x) = [n] := by
  refine bitsOf_eq_singleton hn fun i => ?_
  rw [hasBit_eq_testBit, Nat.testBit_and, ← hasBit_eq_testBit, ← hasBit_eq_testBit, hasBit_two_pow]
  by_cases hi : n = i
  · rw [← hi, h, Bool.and_true]
  · rw [beq_false_of_ne hi, Bool.false_and]

theorem ne_zero_of_hasBit {x n : Nat} (h : hasBit x n = true) : x ≠ 0 := by
  rintro rfl
  simp [hasBit, bitOf] at h

/-- What the pass for `x` establishes and every other pass keeps holds at the end of a loop; `I` is what every pass keeps. -/
theorem forEach_reaches {α : Type} {I P : State → Prop} {l : List α} {f : State → α → State} {x : α} {s : State}
    (hI : ∀ u, ∀ y ∈ l, I u → I (f u y)) (hset : ∀ u, I u → P (f u x)) (hkeep : ∀ u, ∀ y ∈ l, y ≠ x → I u → P u → P (f u y))
    (hx : x ∈ l) (hs : I s) : P (s.forEach l f) := by
  have go : ∀ (m : List α) (u : State), m ⊆ l → I u → (x ∈ m ∨ P u) → P (u.forEach m f) := by
    intro m
    induction m with
    | nil => exact fun u _ _ h => h.resolve_left (by simp)
    | cons a m ih =>
      intro u hm hu h
      obtain ⟨ha, hm'⟩ := List.cons_subset.mp hm
      refine ih (f u a) hm' (hI u a ha hu) ?_
      by_cases hax : a = x
      · exact .inr (hax ▸ hset u hu)
      · exact h.imp (fun h => (List.mem_cons.mp h).resolve_left (Ne.symm hax)) (hkeep u a ha hax hu)
  exact go l s (List.Subset.refl l) hs (.inl hx)

/-! ### What an operation moves -/

/-- From `s` to `t` the register list keeps rising, only fields with a key in `W` change, the lists keep their lengths, and the part
`Y` of the PWM block stays. -/
structure PwmStep {β : Type} (Y : PwmSt → β) (W : Nat → Prop) (s t : State) : Prop where
  regsOk : s.regsOk → t.regsOk
  rd : ∀ f : Fld, ¬ W f.key → t.rd f = s.rd f
  shaped : s.Shaped → t.Shaped
  kept : Y t.pwm = Y s.pwm

namespace PwmStep
variable {β : Type} {Y : PwmSt → β} {W V : Nat → Prop} {s t u : State}

theorem refl : PwmStep Y W s s := ⟨id, fun _ _ => rfl, id, rfl⟩

theorem trans (h : PwmStep Y W s t) (k : PwmStep Y W t u) : PwmStep Y W s u :=
  ⟨fun hs => k.regsOk (h.regsOk hs), fun f hf => (k.rd f hf).trans (h.rd f hf), fun hs => k.shaped (h.shaped hs), k.kept.trans h.kept⟩

theorem mono (h : PwmStep Y W s t) (hV : ∀ k, W k → V k) : PwmStep Y V s t :=
  ⟨h.regsOk, fun f hf => h.rd f fun hw => hf (hV _ hw), h.shaped, h.kept⟩

/-- An operation that leaves the registers. -/
theorem of_regs (hr : t.regs = s.regs) (hs : s.Shaped → t.Shaped) (hY : Y t.pwm = Y s.pwm) : PwmStep Y W s t :=
  ⟨fun h => by rw [State.regsOk, hr]; exact h, fun f _ => by rw [rd_eq, hr, ← rd_eq], hs, hY⟩

theorem wr {f : Fld} (v : Nat) (hf : W f.key) : PwmStep Y W s (s.wr f v) :=
  ⟨keysRise_wr s f v, fun _ hg => rd_wr_ne s v fun h => hg (h ▸ hf), shaped_wr, rfl⟩

theorem raise {ev : Nat} (hW : ∀ k, evKey k → W k) (hev : ev < 192) : PwmStep Y W s (s.raise ev) :=
  ⟨regsOk_raise ev, fun f hf => rd_raise s ev hev f fun h => hf (hW _ h), (kp_raise s ev).shaped, by rw [raise_pwm]⟩

theorem flagRaise {f : Fld} {ev : Nat} (hf : W f.key) (hW : ∀ k, evKey k → W k) (hev : ev < 192) : PwmStep Y W s (s.flagRaise f ev) :=
  (wr 1 hf).trans (raise hW hev)

theorem setPwmPair {p : Nat} {v : PwmPair} (hY : ∀ k l, Y { k with pairs := l } = Y k) : PwmStep Y W s (s.setPwmPair p v) :=
  of_regs rfl (kp_setPwmPair s p v).shaped (hY _ _)

theorem setCluster {c : Nat} {v : PwmCluster} (hY : ∀ k l, Y { k with clusters := l } = Y k) : PwmStep Y W s (s.setCluster c v) :=
  of_regs rfl (kp_setCluster s c v).shaped (hY _ _)

theorem setLine {n : Nat} {v : TripLine} (hY : ∀ k l, Y { k with lines := l } = Y k) : PwmStep Y W s (s.setLine n v) :=
  of_regs rfl (kp_setLine s n v).shaped (hY _ _)

theorem when {b : Bool} {f : State → State} (h : ∀ u, PwmStep Y W u (f u)) : PwmStep Y W s (s.when b f) := by
  cases b
  · exact refl
  · exact h s

theorem ite {p : Prop} [Decidable p] (ht : PwmStep Y W s t) (hu : PwmStep Y W s u) : PwmStep Y W s (if p then t else u) := by
  split
  · exact ht
  · exact hu

theorem forEach {α : Type} {l : List α} {f : State → α → State} (h : ∀ s, ∀ x ∈ l, PwmStep Y W s (f s x)) (s : State) :
    PwmStep Y W s (s.forEach l f) := by
  induction l generalizing s with
  | nil => exact refl
  | cons a l ih => exact (h s a (by simp)).trans (ih (fun s x hx => h s x (by simp [hx])) (f s a))

end PwmStep

end Sys2Proof.Machine
end

section
/-! SUPPORT. Trip lines and the safe state of PWM (R182 to R193): what a line that becomes active does to the pairs of its mask and to
their cluster, what the clears of latches and escalations leave, and what a cause of the safe state and its clear show. -/

set_option Elab.async false

open Sys2Proof.Machine.State

namespace Sys2Proof.Machine

/-! ### Lines (R188, R190) -/

/-- A line is active where it is enabled and its source is active outside blanking (R188, R190). -/
theorem lineActive_setLine {s : State} {n : Nat} (v : TripLine) (hs : s.Shaped) (hn : n < 16) :
    (s.setLine n v).lineActive n = (s.on (Reg.TRIP_CFG_EN n) && v.source && !v.blanking) := by
  rw [lineActive, line_setLine_same v hs hn]
  rfl

/-- The rise of a line's level is an activation (R189). -/
theorem lineUpdate_rises {s : State} {n : Nat} (hlevel : hasBit (s.rd Reg.TRIP_STATUS_LEVEL) n = false) (hact : s.lineActive n = true) :
    s.lineUpdate n = (s.putB Reg.TRIP_STATUS_LEVEL n true).tripActs n := by
  simp only [lineUpdate, hlevel, hact]
  rfl

/-- An inactive line shows its level and no more. -/
theorem lineUpdate_inactive {s : State} {n : Nat} (hact : s.lineActive n = false) :
    s.lineUpdate n = s.putB Reg.TRIP_STATUS_LEVEL n false := by
  simp only [lineUpdate, hact]
  rfl

/-- The level that a line has taken is shown. -/
theorem hasBit_level_of_putB {s : State} {n : Nat} (hn : n < 16) (hs : s.regsOk) :
    hasBit ((s.putB Reg.TRIP_STATUS_LEVEL n true).rd Reg.TRIP_STATUS_LEVEL) n = true := by
  rw [putB_eq, rd_wr_same _ _ _ hs, hasBit_mod (w := 16) hn]
  exact hasBit_setBit_same _ n

/-! ### Activation (R189) -/

/-- The event of a line, once in a carrier of its reference cluster (R189). -/
def lineRaises (s : State) (n : Nat) : State :=
  if (s.line n).raised then s else (s.setLine n { s.line n with raised := true }).raise (Ev.PWM_TRIP n)

/-- A pair is tripped cycle by cycle by a line. -/
def cycleTrip (n : Nat) (s : State) (p : Nat) : State :=
  s.setPwmPair p { s.pwmPair p with tripCycle := setBit (s.pwmPair p).tripCycle n }

/-- A pair is tripped latched by a line. -/
def latchTrip (n : Nat) (s : State) (p : Nat) : State :=
  (s.setPwmPair p { s.pwmPair p with tripLatched := setBit (s.pwmPair p).tripLatched n }).wr (Reg.PR_STATUS_TRIPPED p) 1

/-- A line is latched. -/
def lineLatched (s : State) (n : Nat) : State := (s.setB Reg.TRIP_LATCH_LATCH n).setLine n { s.line n with release := false }

/-- The pairs of a line's mask (R188). -/
abbrev maskPairs (s : State) (n : Nat) : List Nat := bitsOf 24 (s.rd (Reg.TRIP_MASK_PAIRS n))

theorem tripActs_cycle {s : State} {n : Nat} (h : s.rd (Reg.TRIP_CFG_ACTION n) = 0) :
    s.tripActs n = lineRaises (s.forEach (maskPairs s n) (cycleTrip n)) n := by
  simp only [tripActs, h]
  rfl

theorem tripActs_latch {s : State} {n : Nat} (h : s.rd (Reg.TRIP_CFG_ACTION n) = 1) :
    s.tripActs n = lineRaises (((lineLatched s n).forEach (maskPairs s n) (latchTrip n)).forEach (List.range 3) clusterTripped) n := by
  simp only [tripActs, h]
  rfl

theorem pwmStep_lineRaises {W : Nat → Prop} (s : State) {n : Nat} (hn : n < 16) (hE : ∀ k, evKey k → W k) :
    PwmStep PwmSt.pairs W s (lineRaises s n) :=
  PwmStep.ite PwmStep.refl ((PwmStep.setLine fun _ _ => rfl).trans (PwmStep.raise hE (by simp only [Ev.PWM_TRIP]; omega)))

/-- The first activation in a carrier is raised (R189). -/
theorem raisedIn_lineRaises {s u : State} {n : Nat} (hn : n < 16) (hu : u.regsOk) (hraised : (u.line n).raised = false)
    (hroute : u.rd (Reg.EVF_ROUTE_TARGET (Ev.PWM_TRIP n)) = s.rd (Reg.EVF_ROUTE_TARGET (Ev.PWM_TRIP n))) :
    s.raisedIn (lineRaises u n) (Ev.PWM_TRIP n) := by
  rw [lineRaises, if_neg (ne_true_of_eq_false hraised)]
  exact raisedIn_next (u := u.setLine n { u.line n with raised := true }) hu (by simp only [Ev.PWM_TRIP]; omega) hroute fun _ _ => rfl

/-- Cycle by cycle: each pair of the mask is held by the line (R189). -/
theorem tripCycle_forEach {s : State} {n p : Nat} {ps : List Nat} (hs : s.Shaped) (hp : p < 24) (hmem : p ∈ ps) :
    hasBit ((s.forEach ps (cycleTrip n)).pwmPair p).tripCycle n = true := by
  refine forEach_reaches (I := Shaped) (P := fun u => hasBit (u.pwmPair p).tripCycle n = true)
    (fun u q _ hu => (kp_setPwmPair u q _).shaped hu) (fun u hu => ?_) (fun u q _ hq _ h => ?_) hmem hs
  · rw [cycleTrip, pwmPair_setPwmPair_same _ hu hp]
    exact hasBit_setBit_same _ n
  · rw [cycleTrip, pwmPair_setPwmPair_ne u _ hq.symm]
    exact h

/-- The rise of a line with ACTION 0 (R189). -/
theorem lineUpdate_cycle_shows {s : State} {n p : Nat} (hn : n < 16) (hp : p < 24) (hs : s.regsOk) (hsh : s.Shaped)
    (hact : s.lineActive n = true) (hlevel : hasBit (s.rd Reg.TRIP_STATUS_LEVEL) n = false) (haction : s.rd (Reg.TRIP_CFG_ACTION n) = 0)
    (hmask : hasBit (s.rd (Reg.TRIP_MASK_PAIRS n)) p = true) (hraised : (s.line n).raised = false) :
    hasBit ((s.lineUpdate n).rd Reg.TRIP_STATUS_LEVEL) n = true ∧ hasBit ((s.lineUpdate n).pwmPair p).tripCycle n = true ∧
      s.raisedIn (s.lineUpdate n) (Ev.PWM_TRIP n) ∧ s.regsButEv (s.lineUpdate n) [Reg.TRIP_STATUS_LEVEL] := by
  obtain ⟨v, hv⟩ : ∃ v, s.putB Reg.TRIP_STATUS_LEVEL n true = v := ⟨_, rfl⟩
  have hshown : PwmStep PwmSt.lines (Among [Reg.TRIP_STATUS_LEVEL]) s v := hv ▸ PwmStep.wr _ ⟨_, by simp, rfl⟩
  have hrd (f : Fld) (hf : f.key ≠ Reg.TRIP_STATUS_LEVEL.key) : v.rd f = s.rd f := hshown.rd f (by simpa using hf)
  have hpairs : PwmStep PwmSt.lines (fun _ => False) v (v.forEach (maskPairs v n) (cycleTrip n)) :=
    PwmStep.forEach (fun _ _ _ => PwmStep.setPwmPair fun _ _ => rfl) v
  have hend : PwmStep PwmSt.pairs evKey (v.forEach (maskPairs v n) (cycleTrip n)) (s.lineUpdate n) := by
    rw [lineUpdate_rises hlevel hact, hv, tripActs_cycle ((hrd _ (by simp only [Fld.key]; omega)).trans haction)]
    exact pwmStep_lineRaises _ hn fun _ h => h
  have hline : ((v.forEach (maskPairs v n) (cycleTrip n)).line n).raised = false := by
    rw [line_of_lines (hpairs.kept.trans hshown.kept), hraised]
  have hmem : p ∈ maskPairs v n := mem_bitsOf_iff.mpr ⟨hp, by rw [hrd _ (by simp only [Fld.key]; omega), hmask]⟩
  refine ⟨?_, ?_, ?_, fun f hf hev => ?_⟩
  · rw [hend.rd _ (by decide), hpairs.rd _ id, ← hv]
    exact hasBit_level_of_putB hn hs
  · rw [pwmPair_of_pairs hend.kept]
    exact tripCycle_forEach (hshown.shaped hsh) hp hmem
  · rw [lineUpdate_rises hlevel hact, hv, tripActs_cycle ((hrd _ (by simp only [Fld.key]; omega)).trans haction)]
    exact raisedIn_lineRaises hn (hpairs.regsOk (hshown.regsOk hs)) hline
      ((hpairs.rd _ id).trans (hrd _ (by simp only [Fld.key]; omega)))
  · rw [hend.rd f hev, hpairs.rd f id, hrd f (hf _ (by simp))]

/-! ### Latched trips (R189) -/

/-- The keys of the registers of clusters, lines and pairs, and above. -/
abbrev unitKey (k : Nat) : Prop := 0x40010040 * 32 ≤ k

theorem pwmStep_latchTrip {β : Type} {Y : PwmSt → β} (hY : ∀ k l, Y { k with pairs := l } = Y k) (n : Nat) (s : State) (p : Nat) :
    PwmStep Y unitKey s (latchTrip n s p) :=
  (PwmStep.setPwmPair hY).trans (PwmStep.wr 1 (by simp only [Fld.key]; omega))

/-- Latched: each pair of the mask is held by the line, and shows it (R189). -/
theorem tripLatched_forEach {s : State} {n p : Nat} {ps : List Nat} (hs : s.regsOk) (hsh : s.Shaped) (hp : p < 24) (hmem : p ∈ ps) :
    hasBit ((s.forEach ps (latchTrip n)).pwmPair p).tripLatched n = true ∧
      (s.forEach ps (latchTrip n)).rd (Reg.PR_STATUS_TRIPPED p) = 1 := by
  refine forEach_reaches (I := fun u => u.regsOk ∧ u.Shaped)
    (P := fun u => hasBit (u.pwmPair p).tripLatched n = true ∧ u.rd (Reg.PR_STATUS_TRIPPED p) = 1)
    (fun u q _ ⟨hu, hush⟩ => ?_) (fun u ⟨hu, hush⟩ => ⟨?_, ?_⟩) (fun u q _ hq _ ⟨hbit, hrd⟩ => ⟨?_, ?_⟩) hmem ⟨hs, hsh⟩
  · have hstep := pwmStep_latchTrip (Y := PwmSt.lines) (fun _ _ => rfl) n u q
    exact ⟨hstep.regsOk hu, hstep.shaped hush⟩
  · rw [latchTrip, wr_pwmPair, pwmPair_setPwmPair_same _ hush hp]
    exact hasBit_setBit_same _ n
  · exact rd_wr_lt (s := u.setPwmPair p _) hu Nat.one_lt_two
  · rw [latchTrip, wr_pwmPair, pwmPair_setPwmPair_ne u _ hq.symm]
    exact hbit
  · exact (rd_wr_ne _ _ (by simp only [Fld.key]; omega)).trans hrd

theorem pwmStep_clusterTripped {β : Type} {Y : PwmSt → β} (s : State) {c : Nat} (hc : c < 3) :
    PwmStep Y (fun k => unitKey k ∧ k < 0x40010200 * 32) s (s.clusterTripped c) :=
  PwmStep.wr _ (by simp only [Fld.key]; omega)

/-- A cluster with a latched pair shows it (R189). -/
theorem rd_clusterTripped {s : State} {c n p : Nat} (hs : s.regsOk) (hp : p / 8 = c) (h : hasBit (s.pwmPair p).tripLatched n = true) :
    (s.clusterTripped c).rd (Reg.CL_STATUS_TRIPPED c) = 1 := by
  have hany : ((clusterPairs c).any fun p => (s.pwmPair p).tripLatched != 0) = true :=
    List.any_eq_true.mpr ⟨p, mem_clusterPairs.mpr hp, bne_iff_ne.mpr (ne_zero_of_hasBit h)⟩
  rw [clusterTripped, hany]
  exact rd_wr_lt hs Nat.one_lt_two

/-- The cluster of a latched pair shows it once every cluster has been judged. -/
theorem rd_forEach_clusterTripped {s : State} {n p : Nat} (hs : s.regsOk) (hp : p < 24) (h : hasBit (s.pwmPair p).tripLatched n = true) :
    (s.forEach (List.range 3) clusterTripped).rd (Reg.CL_STATUS_TRIPPED (p / 8)) = 1 := by
  refine forEach_reaches (I := fun u => u.regsOk ∧ hasBit (u.pwmPair p).tripLatched n = true)
    (P := fun u => u.rd (Reg.CL_STATUS_TRIPPED (p / 8)) = 1) (fun u c _ ⟨hu, hb⟩ => ⟨keysRise_wr _ _ _ hu, hb⟩)
    (fun u ⟨hu, hb⟩ => rd_clusterTripped hu rfl hb) (fun u c _ hne _ hrd => ?_) (List.mem_range.mpr (by omega)) ⟨hs, h⟩
  exact (rd_wr_ne _ _ (by simp only [Fld.key]; omega)).trans hrd

/-- The rise of a line with ACTION 1 (R189). -/
theorem lineUpdate_latch_shows {s : State} {n p : Nat} (hn : n < 16) (hp : p < 24) (hs : s.regsOk) (hsh : s.Shaped)
    (hact : s.lineActive n = true) (hlevel : hasBit (s.rd Reg.TRIP_STATUS_LEVEL) n = false) (haction : s.rd (Reg.TRIP_CFG_ACTION n) = 1)
    (hmask : hasBit (s.rd (Reg.TRIP_MASK_PAIRS n)) p = true) :
    hasBit ((s.lineUpdate n).rd Reg.TRIP_STATUS_LEVEL) n = true ∧ hasBit ((s.lineUpdate n).rd Reg.TRIP_LATCH_LATCH) n = true ∧
      hasBit ((s.lineUpdate n).pwmPair p).tripLatched n = true ∧ (s.lineUpdate n).rd (Reg.PR_STATUS_TRIPPED p) = 1 ∧
      (s.lineUpdate n).rd (Reg.CL_STATUS_TRIPPED (p / 8)) = 1 := by
  obtain ⟨v, hv⟩ : ∃ v, s.putB Reg.TRIP_STATUS_LEVEL n true = v := ⟨_, rfl⟩
  have hvok : v.regsOk := hv ▸ keysRise_wr s _ _ hs
  have hvsh : v.Shaped := hv ▸ shaped_wr hsh
  have hrd (f : Fld) (hf : f.key ≠ Reg.TRIP_STATUS_LEVEL.key) : v.rd f = s.rd f := hv ▸ rd_wr_ne s _ hf
  have hmem : p ∈ maskPairs v n := mem_bitsOf_iff.mpr ⟨hp, by rw [hrd _ (by simp only [Fld.key]; omega), hmask]⟩
  have hlatched : PwmStep PwmSt.pairs (Among [Reg.TRIP_LATCH_LATCH]) v (lineLatched v n) :=
    (PwmStep.wr _ ⟨_, by simp, rfl⟩).trans (PwmStep.setLine fun _ _ => rfl)
  have hpairs : PwmStep PwmSt.lines unitKey (lineLatched v n) ((lineLatched v n).forEach (maskPairs v n) (latchTrip n)) :=
    PwmStep.forEach (fun u q _ => pwmStep_latchTrip (fun _ _ => rfl) n u q) _
  obtain ⟨w, hw⟩ : ∃ w, (lineLatched v n).forEach (maskPairs v n) (latchTrip n) = w := ⟨_, rfl⟩
  obtain ⟨hbit, htripped⟩ : hasBit (w.pwmPair p).tripLatched n = true ∧ w.rd (Reg.PR_STATUS_TRIPPED p) = 1 :=
    hw ▸ tripLatched_forEach (hlatched.regsOk hvok) (hlatched.shaped hvsh) hp hmem
  rw [hw] at hpairs
  have hclusters : PwmStep PwmSt.pairs (fun k => unitKey k ∧ k < 0x40010200 * 32) w (w.forEach (List.range 3) clusterTripped) :=
    PwmStep.forEach (fun u c hc => pwmStep_clusterTripped u (List.mem_range.mp hc)) w
  have hend : PwmStep PwmSt.pairs evKey (w.forEach (List.range 3) clusterTripped) (s.lineUpdate n) := by
    rw [lineUpdate_rises hlevel hact, hv, tripActs_latch ((hrd _ (by simp only [Fld.key]; omega)).trans haction), hw]
    exact pwmStep_lineRaises _ hn fun _ h => h
  refine ⟨?_, ?_, ?_, ?_, ?_⟩
  · rw [hend.rd _ (by decide), hclusters.rd _ (by decide), hpairs.rd _ (by decide), hlatched.rd _ (by decide), ← hv]
    exact hasBit_level_of_putB hn hs
  · rw [hend.rd _ (by decide), hclusters.rd _ (by decide), hpairs.rd _ (by decide)]
    change hasBit ((v.setB Reg.TRIP_LATCH_LATCH n).rd Reg.TRIP_LATCH_LATCH) n = true
    rw [setB_eq, rd_wr_same _ _ _ hvok, hasBit_mod (w := 16) hn]
    exact hasBit_setBit_same _ n
  · rw [pwmPair_of_pairs (hend.kept.trans hclusters.kept), hbit]
  · rw [hend.rd _ (by simp only [evKey, Fld.key]; omega), hclusters.rd _ (by simp only [unitKey, Fld.key]; omega), htripped]
  · rw [hend.rd _ (by simp only [evKey, Fld.key]; omega)]
    exact rd_forEach_clusterTripped (hpairs.regsOk (hlatched.regsOk hvok)) hp hbit

/-- The clear of one latched line (R189): only where it is inactive. -/
theorem tripLatchClear_one {s : State} {n : Nat} (hn : n < 16) (h : hasBit (s.rd Reg.TRIP_LATCH_LATCH) n = true) :
    s.tripLatchClear (2 ^ n) =
      if s.lineActive n then s else (s.clrB Reg.TRIP_LATCH_LATCH n).setLine n { s.line n with release := true } := by
  rw [tripLatchClear, bitsOf_two_pow_and hn h]
  rfl

/-- A cleared latch is clear, and its line waits for the valley of its pairs (R189). -/
theorem tripLatchClear_shows {s : State} {n : Nat} (hn : n < 16) (hs : s.regsOk) (hsh : s.Shaped)
    (h : hasBit (s.rd Reg.TRIP_LATCH_LATCH) n = true) (hact : s.lineActive n = false) :
    hasBit ((s.tripLatchClear (2 ^ n)).rd Reg.TRIP_LATCH_LATCH) n = false ∧ ((s.tripLatchClear (2 ^ n)).line n).release = true ∧
      s.regsBut (s.tripLatchClear (2 ^ n)) [Reg.TRIP_LATCH_LATCH] := by
  rw [tripLatchClear_one hn h, if_neg (ne_true_of_eq_false hact)]
  refine ⟨?_, ?_, fun f hf => rd_wr_ne s _ (hf _ (by simp))⟩
  · change hasBit ((s.clrB Reg.TRIP_LATCH_LATCH n).rd Reg.TRIP_LATCH_LATCH) n = false
    rw [clrB_eq, rd_wr_same _ _ _ hs, hasBit_mod (w := 16) hn]
    exact hasBit_clearBit_same _ n
  · rw [line_setLine_same (s := s.clrB Reg.TRIP_LATCH_LATCH n) _ (shaped_wr hsh) hn]

/-- The release of one escalated pair (R187). -/
theorem escRelease_one {s : State} {p : Nat} (hp : p < 24) (h : hasBit (s.rd Reg.PWM_ESC_PAIRS) p = true) :
    s.escRelease (2 ^ p) = (s.setPwmPair p { s.pwmPair p with escRelease := true }).clrB Reg.PWM_ESC_PAIRS p := by
  rw [State.escRelease, bitsOf_two_pow_and hp h]
  rfl

theorem escRelease_shows {s : State} {p : Nat} (hp : p < 24) (hs : s.regsOk) (hsh : s.Shaped)
    (h : hasBit (s.rd Reg.PWM_ESC_PAIRS) p = true) :
    hasBit ((s.escRelease (2 ^ p)).rd Reg.PWM_ESC_PAIRS) p = false ∧ ((s.escRelease (2 ^ p)).pwmPair p).escRelease = true ∧
      s.regsBut (s.escRelease (2 ^ p)) [Reg.PWM_ESC_PAIRS] := by
  rw [escRelease_one hp h]
  refine ⟨?_, ?_, fun f hf => rd_wr_ne _ _ (hf _ (by simp))⟩
  · rw [clrB_eq, rd_wr_same _ _ _ (show State.regsOk (s.setPwmPair p _) from hs), hasBit_mod (w := 24) hp]
    exact hasBit_clearBit_same _ p
  · rw [clrB_eq, wr_pwmPair, pwmPair_setPwmPair_same _ hsh hp]

/-! ### The safe state (R192, R193) -/

/-- A cause shows in SEEN, and in ACTIVE while it is present (R192, R193). -/
def causeSeen (s : State) (c : SafeCause) : State :=
  (s.when (c != .soft) fun s => s.setB Reg.PWM_SAFE_STATUS_ACTIVE c.bit).setB Reg.PWM_SAFE_STATUS_SEEN c.bit

theorem pwmSafe_eq (s : State) (c : SafeCause) : s.pwmSafe c = pwmLatch (causeSeen s c) := rfl

theorem writes_causeSeen (s : State) (c : SafeCause) :
    Writes (AmongEv [Reg.PWM_SAFE_STATUS_ACTIVE, Reg.PWM_SAFE_STATUS_SEEN]) s (causeSeen s c) :=
  (Writes.when fun _ => Writes.wr _ (by decide) (by decide)).trans (Writes.wr _ (by decide) (by decide))

/-- The SOFT cause is present in its own tB only, so it never shows in ACTIVE (R193). -/
theorem writes_causeSeen_soft (s : State) : Writes (AmongEv [Reg.PWM_SAFE_STATUS_SEEN]) s (causeSeen s .soft) :=
  Writes.wr (s := s) _ (by decide) (by decide)

theorem writes_pwmLatch (s : State) : Writes (AmongEv [Reg.PWM_SAFE_STATUS_LATCHED]) s (pwmLatch s) :=
  Writes.ite Writes.refl ((Writes.wr 1 (by decide) (by decide)).trans (Writes.raise amongEv_ev (by decide)))

/-- A cause shows in SEEN (R192). -/
theorem pwmSafe_seen {s : State} (c : SafeCause) (hs : s.regsOk) :
    hasBit ((s.pwmSafe c).rd Reg.PWM_SAFE_STATUS_SEEN) c.bit = true := by
  have hbit : c.bit < 7 := by cases c <;> decide
  have hcause : Writes (AmongEv safeFields) s (s.when (c != .soft) fun s => s.setB Reg.PWM_SAFE_STATUS_ACTIVE c.bit) :=
    Writes.when fun _ => Writes.wr _ (by decide) (by decide)
  rw [pwmSafe_eq, (writes_pwmLatch _).rd _ (by decide), causeSeen, setB_eq, rd_wr_same _ _ _ (hcause.regsOk hs), hasBit_mod (w := 7) hbit]
  exact hasBit_setBit_same _ _

/-- Entry to the latched safe state is raised (R192). -/
theorem raisedIn_pwmSafe {s : State} (c : SafeCause) (hs : s.regsOk) (h : s.pwmLatched = false) :
    s.raisedIn (s.pwmSafe c) Ev.PWM_SAFE := by
  have hseen := (writes_causeSeen s c).among (gs := safeFields) (by decide)
  have hnot : ¬ (causeSeen s c).on Reg.PWM_SAFE_STATUS_LATCHED = true := by
    rw [(writes_causeSeen s c).on (by decide)]
    exact ne_true_of_eq_false h
  rw [pwmSafe_eq, pwmLatch, if_neg hnot]
  exact (hseen.trans (Writes.wr 1 (by decide) (by decide))).raisedIn (Writes.refl (W := evKey)) hs (by decide) (by decide)

/-! ### The clear (R193) -/

/-- The carry of every pair is clear once each has been cleared. -/
theorem rd_forEach_setAcc {s : State} {p : Nat} (hs : s.regsOk) (hp : p < 24) :
    (s.forEach (List.range 24) fun s p => s.setAcc p 0).rd (Reg.PR_CARRY_ACC p) = 0 :=
  forEach_reaches (I := State.regsOk) (P := fun u => u.rd (Reg.PR_CARRY_ACC p) = 0) (fun _ _ _ hu => keysRise_wr _ _ _ hu)
    (fun _ hu => rd_wr_lt hu (Nat.two_pow_pos 27))
    (fun _ _ _ hq _ h => (rd_wr_ne _ _ (by simp only [Fld.key]; omega)).trans h) (List.mem_range.mpr hp) hs

/-- The latch and SEEN are clear. -/
def latchCleared (s : State) : State := (s.wr Reg.PWM_SAFE_STATUS_LATCHED 0).wr Reg.PWM_SAFE_STATUS_SEEN 0

theorem safeRelease_eq (s : State) : s.safeRelease = ((latchCleared s).forEach (List.range 24) fun s p => s.setAcc p 0).forEach
    (List.range 3) fun s c => s.setCluster c { s.cluster c with resume := true } := rfl

/-- A released safe state: no latch, nothing seen, no carry (R193). -/
theorem safeRelease_shows {s : State} (hs : s.regsOk) :
    s.safeRelease.pwmLatched = false ∧ s.safeRelease.rd Reg.PWM_SAFE_STATUS_SEEN = 0 ∧
      ∀ p, p < 24 → s.safeRelease.rd (Reg.PR_CARRY_ACC p) = 0 := by
  have hlatch : (s.wr Reg.PWM_SAFE_STATUS_LATCHED 0).regsOk := keysRise_wr _ _ _ hs
  have hclear : (latchCleared s).regsOk := keysRise_wr _ _ _ hlatch
  have hcarry : PwmStep PwmSt.clusters unitKey (latchCleared s) ((latchCleared s).forEach (List.range 24) fun s p => s.setAcc p 0) :=
    PwmStep.forEach (fun _ p _ => PwmStep.wr _ (by simp only [Fld.key]; omega)) _
  have hresume (u : State) : PwmStep PwmSt.pairs (fun _ => False) u
      (u.forEach (List.range 3) fun s c => s.setCluster c { s.cluster c with resume := true }) :=
    PwmStep.forEach (fun _ _ _ => PwmStep.setCluster fun _ _ => rfl) u
  rw [safeRelease_eq]
  refine ⟨?_, ?_, fun p hp => ?_⟩
  · rw [pwmLatched, on, (hresume _).rd _ id, hcarry.rd _ (by decide), latchCleared, rd_wr_ne _ _ (by decide), rd_wr_same _ _ _ hs]
    rfl
  · rw [(hresume _).rd _ id, hcarry.rd _ (by decide), latchCleared, rd_wr_same _ _ _ hlatch]
    rfl
  · rw [(hresume _).rd _ id]
    exact rd_forEach_setAcc hclear hp

/-- The safe state clears with no cause present, the PLL locked and the clock good (R193). -/
theorem safeClear_released {s : State} (hactive : s.rd Reg.PWM_SAFE_STATUS_ACTIVE = 0) (hlock : hasBit (s.rd Reg.CLK_STATUS_LOCK) 0 = true)
    (hclk : s.on Reg.PWM_STATUS_CLK_OK = true) : s.safeClear = s.safeRelease :=
  if_pos (by simp only [safeClearable, pwmLocked, hactive, hlock, hclk]; rfl)

/-- Otherwise the clear is refused (R193). -/
theorem safeClear_refused {s : State} (h : s.rd Reg.PWM_SAFE_STATUS_ACTIVE ≠ 0 ∨ hasBit (s.rd Reg.CLK_STATUS_LOCK) 0 = false ∨
    s.on Reg.PWM_STATUS_CLK_OK = false) : s.safeClear = s.pwmCfgErr := by
  refine if_neg fun hc => ?_
  simp only [safeClearable, pwmLocked, Bool.and_eq_true, beq_iff_eq] at hc
  obtain ⟨⟨hactive, hlock⟩, hclk⟩ := hc
  rcases h with h | h | h
  · exact h hactive
  · exact absurd (h.symm.trans hlock) (by decide)
  · exact absurd (h.symm.trans hclk) (by decide)

/-- The loss of the clock is noted (R192). -/
def clkLost (s : State) : State := (s.wr Reg.PWM_STATUS_CLK_OK 0).flagRaise Reg.PWM_FLAGS_CLK_LOSS Ev.PWM_CLK_LOSS

/-- A lost clock latches the safe state (R192). -/
theorem clkLost_shows {s : State} (hs : s.regsOk) :
    ((clkLost s).pwmSafe .clkLoss).pwmLatched = true ∧ ((clkLost s).pwmSafe .clkLoss).rd Reg.PWM_STATUS_CLK_OK = 0 ∧
      ((clkLost s).pwmSafe .clkLoss).rd Reg.PWM_FLAGS_CLK_LOSS = 1 ∧
      hasBit (((clkLost s).pwmSafe .clkLoss).rd Reg.PWM_SAFE_STATUS_ACTIVE) SafeCause.clkLoss.bit = true := by
  have hoff : (s.wr Reg.PWM_STATUS_CLK_OK 0).regsOk := keysRise_wr _ _ _ hs
  have hflag : Writes (AmongEv [Reg.PWM_FLAGS_CLK_LOSS]) (s.wr Reg.PWM_STATUS_CLK_OK 0) (clkLost s) :=
    Writes.flagRaise (by decide) (by decide) amongEv_ev (by decide)
  have hsafe : Writes (AmongEv safeFields) (clkLost s) ((clkLost s).pwmSafe .clkLoss) := writes_pwmSafe _ _ (by decide)
  obtain ⟨hactive, hlatched⟩ := pwmSafe_shows (c := .clkLoss) (hflag.regsOk hoff) rfl
  refine ⟨hlatched, ?_, ?_, hactive⟩
  · rw [hsafe.rd _ (by decide), hflag.rd _ (by decide), rd_wr_same _ _ _ hs]
    rfl
  · rw [hsafe.rd _ (by decide)]
    exact rd_flagRaise_same hoff (by decide) (by decide)

/-! ### The statement -/

/-- Settles O12: each line by its rise, each clear by the one bit that it names, and each cause by the latch. -/
theorem tripsAndSafeStateAct : Obligations.TripsAndSafeStateAct := by
  refine ⟨fun s n p hn hp hs hsh hen h1 h20 hlevel haction hmask hraised => ?_,
    fun s n p hn hp hs hsh hen hsrc hlevel haction hmask => ?_, fun s n hn hsh hsrc hlevel => ?_, fun s m n hn hs hsh hr hlatch => ⟨fun hact => ?_, fun hact => ?_⟩,
    fun s m p hp hs hsh hr hesc => ?_, fun s c hs => ?_, fun s m hs hr => ?_, fun s m hs hr hactive hlock hclk => ?_,
    fun s m hr h => ?_, fun s hs => ?_, fun s hlock => ?_, fun s f hlock => ?_⟩
  · have hsource : s.lineHasSource n = true := by simp [lineHasSource, h1, h20]
    have hexec : exec (.tripActivate n true false) s =
        .next ((s.setLine n { s.line n with source := true, blanking := false }).lineUpdate n) := by
      change Host.Outcome.next _ = _
      rw [if_pos hn, lineSource, hsource]
      rfl
    have hact : (s.setLine n { s.line n with source := true, blanking := false }).lineActive n = true := by
      rw [lineActive_setLine _ hsh hn, hen]
      rfl
    obtain ⟨hshown, hcycle, hev, hframe⟩ := lineUpdate_cycle_shows (s := s.setLine n _) (p := p) hn hp hs
      ((kp_setLine s n _).shaped hsh) hact hlevel haction hmask (by rw [line_setLine_same _ hsh hn]; exact hraised)
    exact ⟨_, hexec, hshown, hcycle, hev, hframe, (kp_execTripActivate _ _ _ _ _ hexec).memsSame (by decide)⟩
  · have hexec : exec (.tripBlankEnd n) s = .next ((s.setLine n { s.line n with blanking := false }).lineUpdate n) :=
      congrArg Host.Outcome.next (if_pos hn)
    have hact : (s.setLine n { s.line n with blanking := false }).lineActive n = true := by
      rw [lineActive_setLine _ hsh hn, hen, hsrc]
      rfl
    obtain ⟨hshown, hlatch, hpair, htripped, hcluster⟩ :=
      lineUpdate_latch_shows (s := s.setLine n _) (p := p) hn hp hs ((kp_setLine s n _).shaped hsh) hact hlevel haction hmask
    exact ⟨_, hexec, hshown, hlatch, hpair, htripped, hcluster, (kp_execTripBlankEnd _ _ _ hexec).memsSame (by decide)⟩
  · have hact : (s.setLine n { s.line n with source := false, blanking := false }).lineActive n = false := by
      rw [lineActive_setLine _ hsh hn, Bool.and_false, Bool.false_and]
    change Host.Outcome.next _ = _
    rw [if_pos hn, lineSource, Bool.false_and, Bool.false_and, Bool.false_and]
    exact congrArg Host.Outcome.next (lineUpdate_inactive hact)
  · have hexec : exec (.tripLatchClear m (2 ^ n)) s = .next (s.acked.tripLatchClear (2 ^ n)) :=
      congrArg Host.Outcome.next (access_allow _ hr)
    obtain ⟨hclear, hrelease, hframe⟩ := tripLatchClear_shows (s := s.acked) hn hs (shaped_acked hsh) hlatch hact
    exact ⟨_, hexec, hclear, hrelease, hframe⟩
  · change Host.Outcome.next _ = _
    rw [access_allow _ hr, tripLatchClear_one (s := s.acked) hn hlatch]
    exact congrArg Host.Outcome.next (if_pos hact)
  · have hexec : exec (.pwmEscRelease m (2 ^ p)) s = .next (s.acked.escRelease (2 ^ p)) :=
      congrArg Host.Outcome.next (access_allow _ hr)
    obtain ⟨hclear, hrelease, hframe⟩ := escRelease_shows (s := s.acked) hp hs (shaped_acked hsh) hesc
    exact ⟨_, hexec, hclear, hrelease, hframe⟩
  · exact ⟨_, rfl, pwmLatched_pwmSafe c hs, pwmSafe_seen c hs, fun hc => (pwmSafe_shows hs (bne_iff_ne.mpr hc)).1,
      raisedIn_pwmSafe c hs, ((writes_pwmSafe s c (by decide)).regsButEv), (kp_pwmSafe s c).memsSame (by decide)⟩
  · have hexec : exec (.pwmSafeCmdEnter m) s = .next (s.acked.pwmSafe .soft) := congrArg Host.Outcome.next (access_allow _ hr)
    have hframe : Writes (AmongEv [Reg.PWM_SAFE_STATUS_SEEN, Reg.PWM_SAFE_STATUS_LATCHED]) s.acked (s.acked.pwmSafe .soft) :=
      ((writes_causeSeen_soft _).among (by decide)).trans ((writes_pwmLatch _).among (by decide))
    exact ⟨_, hexec, pwmLatched_pwmSafe .soft hs, pwmSafe_seen .soft hs, hframe.regsButEv,
      (kp_execPwmSafeCmdEnter _ _ _ hexec).memsSame (by decide)⟩
  · have hexec : exec (.pwmSafeClear m) s = .next s.acked.safeRelease := by
      change Host.Outcome.next _ = _
      rw [access_allow _ hr, safeClear_released (s := s.acked) hactive hlock hclk]
    obtain ⟨hlatched, hseen, hcarry⟩ := safeRelease_shows (s := s.acked) hs
    exact ⟨_, hexec, hlatched, hseen, hcarry, (kp_execPwmSafeClear _ _ _ hexec).memsSame (by decide)⟩
  · change Host.Outcome.next _ = _
    rw [access_allow _ hr, safeClear_refused (s := s.acked) h]
    rfl
  · have hexec : exec .pwmClkLoss s = .next ((clkLost s).pwmSafe .clkLoss) := rfl
    obtain ⟨hlatched, hclk, hflag, hactive⟩ := clkLost_shows hs
    exact ⟨_, hexec, hlatched, hclk, hflag, hactive, (kp_execPwmClkLoss _ _ hexec).memsSame (by decide)⟩
  · exact congrArg Host.Outcome.next (if_pos hlock)
  · exact congrArg Host.Outcome.next (if_neg (ne_true_of_eq_false hlock))

end Sys2Proof.Machine
end

section
/-! SUPPORT. Shadow writes, commits and cluster control of PWM (R170 to R178, R186, R194): the one cluster that a commit reaches, the
values that a commit point makes active, and what a soft reset leaves. -/

set_option Elab.async false

open Sys2Proof.Machine.State

namespace Sys2Proof.Machine

/-! ### Shadow writes (R176) -/

/-- Outside the cut-off window a shadow field is written at once (R176). -/
theorem shadowWrite_open {s : State} {c : Nat} (f : Fld) (v : Nat) (hw : (s.cluster c).window = false) :
    s.shadowWrite c [(f, v)] = s.wr f v := if_neg (ne_true_of_eq_false hw)

/-- Inside the window it enters the holding copy (R176). -/
theorem shadowWrite_window {s : State} {c : Nat} (f : Fld) (v : Nat) (hw : (s.cluster c).window = true)
    (hauto : s.on (Reg.CL_CTRL_AUTO c) = false) :
    s.shadowWrite c [(f, v)] = s.setCluster c { s.cluster c with holding := (s.cluster c).holding ++ [(f.key, v)] } := by
  have hauto' (k : PwmCluster) : (s.setCluster c k).on (Reg.CL_CTRL_AUTO c) = false := hauto
  simp only [shadowWrite, hw, if_true, hauto', when_false]
  rfl

/-- A period is taken while the cluster does not follow Orbit and the value is in range (R170). -/
theorem clusterPeriodWrite_taken {s : State} {c v : Nat} (hsync : s.on (Reg.CL_CTRL_SYNC c) = false) (hw : (s.cluster c).window = false)
    (hlo : 4000 ≤ v) (hhi : v ≤ 266666) : s.clusterPeriodWrite c v = s.wr (Reg.CL_PERIOD_SHADOW c) v := by
  have hmod : v % 2 ^ 20 = v := Nat.mod_eq_of_lt (by omega)
  simp only [clusterPeriodWrite, hmod]
  rw [if_neg (ne_true_of_eq_false hsync), if_neg (by simp; omega), shadowWrite_open _ _ hw]

/-- A period out of range is refused (R170). -/
theorem clusterPeriodWrite_refused {s : State} {c v : Nat} (hsync : s.on (Reg.CL_CTRL_SYNC c) = false) (hv : v < 4000 ∨ 266666 < v)
    (hlt : v < 2 ^ 20) : s.clusterPeriodWrite c v = s.pwmCfgErr := by
  simp only [clusterPeriodWrite, Nat.mod_eq_of_lt hlt]
  rw [if_neg (ne_true_of_eq_false hsync), if_pos (by simpa using hv)]

/-- An access to a register of a cluster or a pair that exists, which the rights allow. -/
theorem unitAccess_allow {s : State} {m : Master} {i n a : Nat} {f : State → State} (hi : i < n) (hr : s.right m a .cr = .allow) :
    (if i < n then s.access m a .cr f else s) = f s.acked := (if_pos hi).trans (access_allow f hr)

/-! ### Commits (R175, R176) -/

/-- COMMIT_PEND follows the cluster as it has been set (R199). -/
theorem commitPend_setCluster {s : State} {c : Nat} (v : PwmCluster) (hs : s.Shaped) (hc : c < 3) :
    (s.setCluster c v).commitPend c = (s.setCluster c v).wr (Reg.CL_STATUS_COMMIT_PEND c) (b2n (v.armed || v.held)) := by
  rw [State.commitPend, cluster_setCluster_same v hs hc]

/-- A commit mask of one bit reaches one cluster (R175). -/
theorem pwmCommit_one (s : State) {c : Nat} (hc : c < 3) : s.pwmCommit (2 ^ c) = s.commitCluster c := by
  rw [State.pwmCommit, bitsOf_eq_singleton hc (hasBit_two_pow c)]
  rfl

/-- A commit of an enabled cluster outside its window arms it (R175). -/
theorem commitCluster_arms {s : State} {c : Nat} (hc : c < 3) (hs : s.Shaped) (hen : s.on (Reg.CL_CTRL_EN c) = true)
    (hw : (s.cluster c).window = false) (hreset : (s.cluster c).inReset = false) :
    s.commitCluster c = (s.setCluster c { s.cluster c with armed := true }).wr (Reg.CL_STATUS_COMMIT_PEND c) 1 := by
  simp only [State.commitCluster, hen, hw, hreset]
  exact commitPend_setCluster _ hs hc

/-- A commit inside the window is held, and counted late (R176). -/
theorem commitCluster_holds {s : State} {c : Nat} (hc : c < 3) (hs : s.Shaped) (hen : s.on (Reg.CL_CTRL_EN c) = true)
    (hw : (s.cluster c).window = true) (hheld : (s.cluster c).held = false) :
    s.commitCluster c = (s.lateCommit.setCluster c { s.cluster c with held := true }).wr (Reg.CL_STATUS_COMMIT_PEND c) 1 := by
  simp only [State.commitCluster, hen, hw, State.holdCommit, hheld]
  refine (commitPend_setCluster (s := s.lateCommit) _ ((kp_lateCommit s).shaped hs) hc).trans ?_
  rw [Bool.or_true]
  rfl

/-! ### The commit point (R177) -/

/-- The period of a cluster that does not follow Orbit enters at a valley (R170). -/
def periodCommitted (s : State) (c : Nat) : State :=
  s.when (!s.on (Reg.CL_CTRL_SYNC c)) fun u => u.wr (Reg.CL_PERIOD_ACT_PERIOD c) (s.cluster c).frozenPeriod

/-- The frozen values of a pair become active (R177). -/
def activateFrozen (s : State) (p : Nat) : State := s.activate p (s.pwmPair p).frozen

/-- The frozen values of every pair of a cluster have become active (R177). -/
def frozenActive (s : State) (c : Nat) : State := (periodCommitted s c).forEach (clusterPairs c) activateFrozen

/-- The committed values are judged, and a late commit is reported (R172, R176). -/
def commitJudged (s : State) (c period : Nat) (late : Bool) : State := (s.rangeCheck c period).when late fun s => s.reportLate c

/-- The window is closed, and a held commit is armed for the next point (R176, R177). -/
def windowClosed (s : State) (c : Nat) (held : Bool) : State :=
  s.setCluster c { s.cluster c with window := false, armed := held && !s.on (Reg.CL_CTRL_AUTO c), held := false, deferred := false }

/-- The pending commits and the counter of a cluster are shown at its valley (R199). -/
def valleyShown (s : State) (c : Nat) : State :=
  ((s.commitPend c).wr (Reg.CL_CNT_TICK c) 0).wr (Reg.CL_CNT_FALLING c) 0

/-- The end of a commit point at a valley: the window closes, and the holding copy moves to the shadows (R176, R177). -/
def pointEnds (s : State) (c : Nat) (held : Bool) : State := valleyShown ((windowClosed s c held).holdingToShadows c) c

/-- The period against which the committed values are judged (R172). -/
def judgedPeriod (s u : State) (c : Nat) : Nat :=
  if s.on (Reg.CL_CTRL_SYNC c) && u.divisor = 1 then (s.cluster c).frozenPeriod else u.rd (Reg.CL_PERIOD_ACT_PERIOD c)

/-- A commit point at a valley with a commit armed (R177). -/
theorem commitPoint_valley {s : State} {c : Nat} (harmed : (s.cluster c).armed = true) (hpeak : (s.cluster c).peak = false) :
    s.commitPoint c = pointEnds (commitJudged (frozenActive s c) c (judgedPeriod s (frozenActive s c) c)
      ((s.cluster c).held || (s.cluster c).deferred)) c (s.cluster c).held := by
  simp only [State.commitPoint, harmed, hpeak, Bool.true_or, Bool.true_and, Bool.false_and, Bool.not_false, Bool.and_true, when_true,
    when_false]
  rfl

/-- The active values of a pair are those of a set of shadowed values, as far as the registers hold them (R175). -/
def ActivesAre (f : PairVals) (p : Nat) (s : State) : Prop :=
  s.rd (Reg.PR_CMPA_ACT_CMP p) = f.cmpA % 2 ^ 27 ∧ s.rd (Reg.PR_CMPB_ACT_CMP p) = f.cmpB % 2 ^ 27 ∧ (s.pwmPair p).dt = f.dt

theorem activesAre_activate {s : State} {p : Nat} (v : PairVals) (hs : s.regsOk) (hsh : s.Shaped) (hp : p < 24) :
    ActivesAre v p (s.activate p v) := by
  refine ⟨?_, rd_wr_same (s.wr (Reg.PR_CMPA_ACT_CMP p) v.cmpA) _ _ (keysRise_wr _ _ _ hs), ?_⟩
  · exact (rd_wr_ne (s.wr (Reg.PR_CMPA_ACT_CMP p) v.cmpA) _ (by simp only [Fld.key]; omega)).trans (rd_wr_same _ _ _ hs)
  · rw [activate, pwmPair_setPwmPair_same _ (shaped_wr (shaped_wr hsh)) hp]

theorem pwmStep_activate {W : Nat → Prop} (s : State) {p : Nat} (v : PairVals) (ha : W (Reg.PR_CMPA_ACT_CMP p).key)
    (hb : W (Reg.PR_CMPB_ACT_CMP p).key) : PwmStep PwmSt.clusters W s (s.activate p v) :=
  ((PwmStep.wr v.cmpA ha).trans (PwmStep.wr v.cmpB hb)).trans (PwmStep.setPwmPair fun _ _ => rfl)

/-- Another pair is left. -/
theorem activesAre_activate_ne {s : State} {p q : Nat} {f : PairVals} (v : PairVals) (h : p ≠ q) (hold : ActivesAre f p s) :
    ActivesAre f p (s.activate q v) := by
  obtain ⟨ha, hb, hdt⟩ := hold
  have hstep := pwmStep_activate (W := fun k => k = (Reg.PR_CMPA_ACT_CMP q).key ∨ k = (Reg.PR_CMPB_ACT_CMP q).key) s (p := q) v
    (.inl rfl) (.inr rfl)
  refine ⟨(hstep.rd _ (by simp only [Fld.key]; omega)).trans ha, (hstep.rd _ (by simp only [Fld.key]; omega)).trans hb, ?_⟩
  rw [activate, pwmPair_setPwmPair_ne _ _ h]
  exact hdt

/-- The frozen copy of a pair stays through every activation. -/
theorem frozen_activate {s : State} {p : Nat} (q : Nat) (v : PairVals) (hsh : s.Shaped) (hp : p < 24) :
    ((s.activate q v).pwmPair p).frozen = (s.pwmPair p).frozen := by
  rcases eq_or_ne p q with rfl | h
  · rw [activate, pwmPair_setPwmPair_same _ (shaped_wr (shaped_wr hsh)) hp]
    rfl
  · rw [activate, pwmPair_setPwmPair_ne _ _ h]
    rfl

theorem pwmStep_periodCommitted {β : Type} {Y : PwmSt → β} (s : State) (c : Nat) : PwmStep Y (fun _ => True) s (periodCommitted s c) :=
  PwmStep.when fun _ => PwmStep.wr _ trivial

/-- Every pair of the cluster has its frozen values active (R177). -/
theorem activesAre_frozenActive {s : State} {p : Nat} (hs : s.regsOk) (hsh : s.Shaped) (hp : p < 24) :
    ActivesAre (s.pwmPair p).frozen p (frozenActive s (p / 8)) := by
  have hperiod : PwmStep PwmSt.pairs (fun _ => True) s (periodCommitted s (p / 8)) := pwmStep_periodCommitted s _
  refine forEach_reaches (I := fun u => u.regsOk ∧ u.Shaped ∧ (u.pwmPair p).frozen = (s.pwmPair p).frozen)
    (P := ActivesAre (s.pwmPair p).frozen p) (fun u q _ ⟨hu, hush, hf⟩ => ?_) (fun u ⟨hu, hush, hf⟩ => ?_)
    (fun u q _ hq _ h => activesAre_activate_ne _ hq.symm h) (mem_clusterPairs.mpr rfl)
    ⟨hperiod.regsOk hs, hperiod.shaped hsh, by rw [pwmPair_of_pairs hperiod.kept]⟩
  · have hstep := pwmStep_activate (W := fun _ => True) u (p := q) (u.pwmPair q).frozen trivial trivial
    exact ⟨hstep.regsOk hu, hstep.shaped hush, (frozen_activate q _ hush hp).trans hf⟩
  · rw [activateFrozen, hf]
    exact activesAre_activate _ hu hush hp

/-- The keys that a commit point writes once the values are active: none of a pair. -/
abbrev pointKey (k : Nat) : Prop := k < 0x40010400 * 32 ∨ evKey k

theorem pwmStep_commitJudged {β : Type} {Y : PwmSt → β} (s : State) {c : Nat} (period : Nat) (late : Bool) (hc : c < 3) :
    PwmStep Y pointKey s (commitJudged s c period late) := by
  have hrange (u : State) : PwmStep Y pointKey u (u.rangeCheck c period) :=
    PwmStep.when fun _ => PwmStep.flagRaise (.inl (by decide)) (fun _ => .inr) (by decide)
  have hlate (u : State) : PwmStep Y pointKey u (u.reportLate c) :=
    ((PwmStep.wr _ (.inl (by decide))).trans (PwmStep.wr _ (.inl (by simp only [Fld.key]; omega)))).trans
      (PwmStep.raise (fun _ => .inr) (by simp only [Ev.PWM_LATE_COMMIT]; omega))
  exact (hrange s).trans (PwmStep.when hlate)

/-- With nothing held back, the holding copy moves nothing (R176). -/
theorem holdingToShadows_empty {s : State} {c : Nat} (h : (s.cluster c).holding = []) :
    s.holdingToShadows c = s.setCluster c { s.cluster c with holding := [] } := by
  simp only [State.holdingToShadows, h]
  rfl

theorem pwmStep_valleyShown {β : Type} {Y : PwmSt → β} (s : State) {c : Nat} (hc : c < 3) : PwmStep Y pointKey s (valleyShown s c) :=
  ((PwmStep.wr _ (.inl (by simp only [Fld.key]; omega))).trans (PwmStep.wr _ (.inl (by simp only [Fld.key]; omega)))).trans
    (PwmStep.wr _ (.inl (by simp only [Fld.key]; omega)))

/-- With nothing held back, the end of a commit point closes the window and leaves every pair (R176, R177). -/
theorem pointEnds_shows {s : State} {c : Nat} (held : Bool) (hc : c < 3) (hs : s.Shaped) (hholding : (s.cluster c).holding = []) :
    ((pointEnds s c held).cluster c).window = false ∧ PwmStep PwmSt.pairs pointKey s (pointEnds s c held) := by
  have hclosed : (windowClosed s c held).cluster c = { s.cluster c with
      window := false, armed := held && !s.on (Reg.CL_CTRL_AUTO c), held := false, deferred := false } :=
    cluster_setCluster_same _ hs hc
  have hshaped : (windowClosed s c held).Shaped := (kp_setCluster s c _).shaped hs
  rw [pointEnds, holdingToShadows_empty (by rw [hclosed]; exact hholding)]
  refine ⟨?_, ((PwmStep.setCluster fun _ _ => rfl).trans (PwmStep.setCluster fun _ _ => rfl)).trans (pwmStep_valleyShown _ hc)⟩
  rw [cluster_of_clusters (pwmStep_valleyShown (Y := PwmSt.clusters) _ hc).kept, cluster_setCluster_same _ hshaped hc, hclosed]

/-- A commit point with a commit armed closes the window and makes the frozen values active (R177). -/
theorem commitPoint_shows {s : State} {p : Nat} (hp : p < 24) (hs : s.regsOk) (hsh : s.Shaped) (harmed : (s.cluster (p / 8)).armed = true)
    (hpeak : (s.cluster (p / 8)).peak = false) (hholding : (s.cluster (p / 8)).holding = []) :
    ((s.commitPoint (p / 8)).cluster (p / 8)).window = false ∧ ActivesAre (s.pwmPair p).frozen p (s.commitPoint (p / 8)) := by
  have hc : p / 8 < 3 := by omega
  have hactive : PwmStep PwmSt.clusters (fun _ => True) s (frozenActive s (p / 8)) :=
    (pwmStep_periodCommitted s _).trans (PwmStep.forEach (fun u q _ => pwmStep_activate u _ trivial trivial) _)
  have hjudged := pwmStep_commitJudged (Y := fun k => (k.pairs, k.clusters)) (frozenActive s (p / 8))
    (judgedPeriod s (frozenActive s (p / 8)) (p / 8)) ((s.cluster (p / 8)).held || (s.cluster (p / 8)).deferred) hc
  obtain ⟨hpairs, hclusters⟩ := Prod.mk.inj hjudged.kept
  obtain ⟨hwindow, hend⟩ := pointEnds_shows (s.cluster (p / 8)).held hc (hjudged.shaped (hactive.shaped hsh))
    ((congrArg PwmCluster.holding (cluster_of_clusters (hclusters.trans hactive.kept) _)).trans hholding)
  rw [← commitPoint_valley harmed hpeak] at hwindow hend
  obtain ⟨ha, hb, hdt⟩ := activesAre_frozenActive hs hsh hp
  have hrd (f : Fld) (hf : ¬ pointKey f.key) : (s.commitPoint (p / 8)).rd f = (frozenActive s (p / 8)).rd f :=
    (hend.rd f hf).trans (hjudged.rd f hf)
  refine ⟨hwindow, (hrd _ ?_).trans ha, (hrd _ ?_).trans hb, ?_⟩
  · simp only [pointKey, evKey, Fld.key]; omega
  · simp only [pointKey, evKey, Fld.key]; omega
  · rw [pwmPair_of_pairs (hend.kept.trans hpairs)]
    exact hdt

/-! ### Enable and soft reset (R176, R178, R194) -/

/-- A cluster with no window open and no commit waiting is disabled at once (R176). -/
theorem clusterEnable_off {s : State} {c : Nat} (hw : (s.cluster c).window = false) (harmed : (s.cluster c).armed = false)
    (hheld : (s.cluster c).held = false) : s.clusterEnable c false = s.wr (Reg.CL_CTRL_EN c) 0 := by
  have hends : (s.wr (Reg.CL_CTRL_EN c) 0).windowEnds c = s.wr (Reg.CL_CTRL_EN c) 0 := if_neg (ne_true_of_eq_false hw)
  have hwait : ¬ (((s.wr (Reg.CL_CTRL_EN c) 0).cluster c).armed || ((s.wr (Reg.CL_CTRL_EN c) 0).cluster c).held) = true := by
    change ¬ ((s.cluster c).armed || (s.cluster c).held) = true
    rw [harmed, hheld]
    decide
  simp only [State.clusterEnable, hends]
  exact if_neg hwait

/-- A pair is reset: no output, active compares and carry clear (R194). -/
def pairReset (s : State) (p : Nat) : State :=
  State.wr (State.setAcc (((s.setPwmPair p { s.pwmPair p with w := 0, short := false }).wr (Reg.PR_CMPA_ACT_CMP p) 0).wr
    (Reg.PR_CMPB_ACT_CMP p) 0) p 0) (Reg.PR_STATUS_XLOCK_TURN p) 0

/-- A cluster is held in reset, its waiting commit deferred (R41, R194). -/
def clusterHeld (s : State) (c : Nat) : State :=
  let wait := (s.cluster c).armed || (s.cluster c).held
  let u := (s.windowEnds c).when (wait && !(s.cluster c).held && !(s.cluster c).deferred) lateCommit
  (u.setCluster c { u.cluster c with inReset := true, armed := wait, held := false, deferred := wait }).commitPend c

theorem clusterSoftReset_eq (s : State) (c : Nat) :
    s.clusterSoftReset c = ((clusterHeld s c).wr (Reg.CL_STATUS_IN_RESET c) 1).forEach (clusterPairs c) pairReset := rfl

theorem pwmStep_windowEnds {β : Type} {Y : PwmSt → β} (hY : ∀ k l, Y { k with clusters := l } = Y k) (s : State) (c : Nat) :
    PwmStep Y (fun _ => True) s (s.windowEnds c) := by
  have hmove (u : State) (e : Nat × Nat) :
      PwmStep Y (fun _ => True) u (match holdingFld? c e.1 with | some f => u.wr f e.2 | none => u) := by
    split
    · exact PwmStep.wr _ trivial
    · exact PwmStep.refl
  have hends : PwmStep Y (fun _ => True) s ((s.setCluster c { s.cluster c with window := false }).holdingToShadows c) :=
    ((PwmStep.setCluster hY).trans (PwmStep.setCluster hY)).trans (PwmStep.forEach (fun u e _ => hmove u e) _)
  exact PwmStep.ite hends PwmStep.refl

theorem clusterHeld_shows {s : State} {c : Nat} (hc : c < 3) (hs : s.regsOk) (hsh : s.Shaped) :
    (clusterHeld s c).regsOk ∧ (clusterHeld s c).Shaped ∧ ((clusterHeld s c).cluster c).inReset = true := by
  have hends : PwmStep PwmSt.pairs (fun _ => True) s ((s.windowEnds c).when
      (((s.cluster c).armed || (s.cluster c).held) && !(s.cluster c).held && !(s.cluster c).deferred) lateCommit) :=
    (pwmStep_windowEnds (fun _ _ => rfl) s c).trans (PwmStep.when fun u => PwmStep.of_regs rfl (kp_lateCommit u).shaped rfl)
  have hset : PwmStep PwmSt.pairs (fun _ => True) s (clusterHeld s c) :=
    hends.trans ((PwmStep.setCluster fun _ _ => rfl).trans (PwmStep.wr _ trivial))
  refine ⟨hset.regsOk hs, hset.shaped hsh, ?_⟩
  rw [clusterHeld, State.commitPend, wr_cluster,
    cluster_setCluster_same _ (hends.shaped hsh) hc]

/-- The keys of the registers of a pair, and of its status and carry (R199). -/
abbrev pairKey (p k : Nat) : Prop :=
  (0x40010400 + 0x20 * p) * 32 ≤ k ∧ k < (0x40010420 + 0x20 * p) * 32 ∨ (0x40010700 + 8 * p) * 32 ≤ k ∧ k < (0x40010708 + 8 * p) * 32

theorem pwmStep_pairReset (s : State) (p : Nat) : PwmStep PwmSt.clusters (pairKey p) s (pairReset s p) :=
  ((((PwmStep.setPwmPair fun _ _ => rfl).trans (PwmStep.wr 0 (by simp only [pairKey, Fld.key]; omega))).trans
    (PwmStep.wr 0 (by simp only [pairKey, Fld.key]; omega))).trans (PwmStep.wr _ (by simp only [pairKey, Fld.key]; omega))).trans
      (PwmStep.wr 0 (by simp only [pairKey, Fld.key]; omega))

/-- A pair has no carry, no active compare and no on-time (R194). -/
def AtRest (p : Nat) (s : State) : Prop :=
  s.rd (Reg.PR_CARRY_ACC p) = 0 ∧ s.rd (Reg.PR_CMPA_ACT_CMP p) = 0 ∧ (s.pwmPair p).w = 0

theorem atRest_pairReset {s : State} {p : Nat} (hs : s.regsOk) (hsh : s.Shaped) (hp : p < 24) : AtRest p (pairReset s p) := by
  obtain ⟨u, hu⟩ : ∃ u, s.setPwmPair p { s.pwmPair p with w := 0, short := false } = u := ⟨_, rfl⟩
  have hstep : PwmStep PwmSt.clusters (fun _ => False) s u := hu ▸ PwmStep.setPwmPair fun _ _ => rfl
  have huok := hstep.regsOk hs
  have hpair : (u.pwmPair p).w = 0 := by rw [← hu, pwmPair_setPwmPair_same _ hsh hp]
  unfold pairReset
  rw [hu]
  refine ⟨?_, ?_, hpair⟩
  · rw [rd_wr_ne _ _ (by simp only [Fld.key]; omega)]
    exact rd_wr_lt (keysRise_wr _ _ _ (keysRise_wr _ _ _ huok)) (Nat.two_pow_pos 27)
  · rw [rd_wr_ne _ _ (by simp only [Fld.key]; omega), State.setAcc, rd_wr_ne _ _ (by simp only [Fld.key]; omega),
      rd_wr_ne _ _ (by simp only [Fld.key]; omega)]
    exact rd_wr_lt huok (Nat.two_pow_pos 27)

/-- Another pair is left. -/
theorem atRest_pairReset_ne {s : State} {p q : Nat} (hp : p < 24) (hq : q < 24) (h : p ≠ q) (hrest : AtRest p s) :
    AtRest p (pairReset s q) := by
  obtain ⟨hacc, hcmp, hw⟩ := hrest
  have hstep := pwmStep_pairReset s q
  exact ⟨(hstep.rd _ (by simp only [pairKey, Fld.key]; omega)).trans hacc,
    (hstep.rd _ (by simp only [pairKey, Fld.key]; omega)).trans hcmp,
    (congrArg PwmPair.w (pwmPair_setPwmPair_ne s _ h)).trans hw⟩

/-- A soft reset holds the cluster in reset, with its pairs at rest (R194). -/
theorem clusterSoftReset_shows {s : State} {c : Nat} (hc : c < 3) (hs : s.regsOk) (hsh : s.Shaped) :
    ((s.clusterSoftReset c).cluster c).inReset = true ∧ (s.clusterSoftReset c).rd (Reg.CL_STATUS_IN_RESET c) = 1 ∧
      ∀ p, p / 8 = c → AtRest p (s.clusterSoftReset c) := by
  obtain ⟨hok, hshaped, hheld⟩ := clusterHeld_shows hc hs hsh
  have hpairs (u : State) : PwmStep PwmSt.clusters (fun k => 0x40010400 * 32 ≤ k) u (u.forEach (clusterPairs c) pairReset) :=
    PwmStep.forEach (fun u p _ => (pwmStep_pairReset u p).mono fun k hk => by simp only [pairKey] at hk; omega) u
  rw [clusterSoftReset_eq]
  refine ⟨?_, ?_, fun p hp => ?_⟩
  · rw [cluster_of_clusters (hpairs _).kept]
    exact hheld
  · rw [(hpairs _).rd _ (by simp only [Fld.key]; omega)]
    exact rd_wr_lt hok Nat.one_lt_two
  · exact forEach_reaches (I := fun u => u.regsOk ∧ u.Shaped) (P := AtRest p)
      (fun u q _ ⟨hu, hush⟩ => ⟨(pwmStep_pairReset u q).regsOk hu, (pwmStep_pairReset u q).shaped hush⟩)
      (fun u ⟨hu, hush⟩ => atRest_pairReset hu hush (by omega))
      (fun u q hq hne _ h => atRest_pairReset_ne (by omega) (by have := mem_clusterPairs.mp hq; omega) hne.symm h)
      (mem_clusterPairs.mpr hp) ⟨keysRise_wr _ _ _ hok, shaped_wr hshaped⟩

end Sys2Proof.Machine
end

section
/-! SUPPORT. Valleys of PWM and the carrier period of Orbit (R86, R92, R170, R180, R189): what a valley leaves of its cluster, and what
the computation of the next period hands to the clusters that follow it. -/

set_option Elab.async false

open Sys2Proof.Machine.State

namespace Sys2Proof.Machine

/-! ### Valleys (R180, R185, R189, R193, R194) -/

/-- The keys that a valley of cluster `c` writes once its restart is shown, and those that an event writes. -/
abbrev valleyKey (c k : Nat) : Prop := k < 0x40020000 * 32 ∧ k ≠ (Reg.CL_STATUS_IN_RESET c).key ∨ evKey k

/-- A step of a valley of cluster `c`: the clusters and IN_RESET stay. -/
abbrev ValleyStep (c : Nat) : State → State → Prop := PwmStep PwmSt.clusters (valleyKey c)

theorem valleyStep_pairs {c : Nat} (s : State) (p : Nat) (v : PwmPair) : ValleyStep c s (s.setPwmPair p v) :=
  PwmStep.setPwmPair fun _ _ => rfl

theorem valleyStep_valleyReleases {c p : Nat} (s : State) (hp : p < 24) : ValleyStep c s (s.valleyReleases p) := by
  have hescalated (u : State) : ValleyStep c u (u.wr (Reg.PR_STATUS_ESCALATED p) 0) :=
    PwmStep.wr 0 (by simp only [valleyKey, Fld.key]; omega)
  exact ((valleyStep_pairs s p _).trans (PwmStep.wr _ (by simp only [valleyKey, Fld.key]; omega))).trans (PwmStep.when hescalated)

/-- A short pulse is counted, and raised once in a frame (R180, R197). -/
theorem valleyStep_shortPulse {c p : Nat} (s : State) (hc : c < 3) (hp : p < 24) : ValleyStep c s (s.shortPulse p) := by
  have hcounted : ValleyStep c s (((s.incSat Reg.PWM_SHORT_COUNT_COUNT).wr Reg.PWM_FLAGS_SHORT 1).wr (Reg.PR_STATUS_SHORT_LAST p) 1) :=
    ((PwmStep.wr _ (by simp only [valleyKey, Fld.key]; omega)).trans (PwmStep.wr 1 (by simp only [valleyKey, Fld.key]; omega))).trans
      (PwmStep.wr 1 (by simp only [valleyKey, Fld.key]; omega))
  have hraised (u : State) : ValleyStep c u { u with pwm := { u.pwm with shortRaised := true } } :=
    PwmStep.of_regs rfl (Keeps.shaped_of rfl) rfl
  exact hcounted.trans (PwmStep.ite PwmStep.refl ((hraised _).trans (PwmStep.raise (fun _ => .inr) (by decide))))

theorem valleyStep_formPulse {c p : Nat} (s : State) (hc : c < 3) (hp : p < 24) : ValleyStep c s (s.formPulse p) := by
  have hshown (u : State) (acc : Int) (capped : Nat) :
      ValleyStep c u (((u.setAcc p acc).wr (Reg.PR_STATUS_REFRESH p) capped).wr (Reg.PR_STATUS_SHORT_LAST p) 0) :=
    ((PwmStep.wr _ (by simp only [valleyKey, Fld.key]; omega)).trans (PwmStep.wr _ (by simp only [valleyKey, Fld.key]; omega))).trans
      (PwmStep.wr 0 (by simp only [valleyKey, Fld.key]; omega))
  have hlost (u : State) : ValleyStep c u ((u.wr Reg.PWM_FLAGS_CARRY_LOSS 1).incSat Reg.PWM_SHORT_COUNT_COUNT) :=
    (PwmStep.wr 1 (by simp only [valleyKey, Fld.key]; omega)).trans (PwmStep.wr _ (by simp only [valleyKey, Fld.key]; omega))
  exact (((valleyStep_pairs s p _).trans (hshown _ _ _)).trans (PwmStep.when fun u => valleyStep_shortPulse u hc hp)).trans
    (PwmStep.when hlost)

/-- A cluster has reached its valley: any reset and any wait has ended (R193, R194). -/
def valleyReached (s : State) (c : Nat) : State :=
  (((s.setCluster c { s.cluster c with inReset := false, resume := false }).wr (Reg.CL_STATUS_IN_RESET c) 0).wr (Reg.CL_CNT_TICK c) 0).wr
    (Reg.CL_CNT_FALLING c) 0

/-- The lines whose reference cluster has reached its valley may raise their event again (R189). -/
def linesRearmed (s : State) (c : Nat) : State :=
  s.forEach (List.range 16) fun s n => if s.refCluster n = c then s.setLine n { s.line n with raised := false } else s

/-- The pairs of a cluster leave the trips and escalations that have ended (R187, R189). -/
def tripsLeft (s : State) (c : Nat) : State := linesRearmed ((s.forEach (clusterPairs c) valleyReleases).clusterTripped c) c

/-- The pairs of a driven cluster form their pulses (R180). -/
def pulsesFormed (s : State) (c : Nat) : State := s.when (s.driving c) fun s => s.forEach (clusterPairs c) formPulse

theorem pwmValley_eq (s : State) (c : Nat) :
    s.pwmValley c = (pulsesFormed (tripsLeft (valleyReached s c) c) c).raise (Ev.PWM_VALLEY c) := rfl

theorem lt_of_mem_clusterPairs {c p : Nat} (hc : c < 3) (hp : p ∈ clusterPairs c) : p < 24 := by
  have := mem_clusterPairs.mp hp
  omega

theorem valleyStep_tripsLeft {c : Nat} (s : State) (hc : c < 3) : ValleyStep c s (tripsLeft s c) := by
  have hreleases : ValleyStep c s (s.forEach (clusterPairs c) valleyReleases) :=
    PwmStep.forEach (fun u p hp => valleyStep_valleyReleases u (lt_of_mem_clusterPairs hc hp)) s
  have htripped (u : State) : ValleyStep c u (u.clusterTripped c) := PwmStep.wr _ (by simp only [valleyKey, Fld.key]; omega)
  have hlines (u : State) : ValleyStep c u (linesRearmed u c) :=
    PwmStep.forEach (fun u n _ => PwmStep.ite (PwmStep.setLine fun _ _ => rfl) PwmStep.refl) u
  exact (hreleases.trans (htripped _)).trans (hlines _)

theorem valleyStep_pulsesFormed {c : Nat} (s : State) (hc : c < 3) : ValleyStep c s (pulsesFormed s c) :=
  PwmStep.when fun u => PwmStep.forEach (fun u _ hp => valleyStep_formPulse u hc (lt_of_mem_clusterPairs hc hp)) u

theorem valleyReached_shows {s : State} {c : Nat} (hc : c < 3) (hs : s.regsOk) (hsh : s.Shaped) :
    (valleyReached s c).regsOk ∧ ((valleyReached s c).cluster c).inReset = false ∧
      (valleyReached s c).rd (Reg.CL_STATUS_IN_RESET c) = 0 := by
  have hset : (s.setCluster c { s.cluster c with inReset := false, resume := false }).regsOk := hs
  refine ⟨keysRise_wr _ _ _ (keysRise_wr _ _ _ (keysRise_wr _ _ _ hset)), ?_, ?_⟩
  · exact congrArg PwmCluster.inReset (cluster_setCluster_same _ hsh hc)
  · rw [valleyReached, rd_wr_ne _ _ (by simp only [Fld.key]; omega), rd_wr_ne _ _ (by simp only [Fld.key]; omega)]
    exact rd_wr_lt hset (Nat.two_pow_pos 1)

/-- A valley ends a reset of its cluster, and raises its event (R180, R194). -/
theorem pwmValley_shows {s : State} {c : Nat} (hc : c < 3) (hs : s.regsOk) (hsh : s.Shaped) :
    ((s.pwmValley c).cluster c).inReset = false ∧ (s.pwmValley c).rd (Reg.CL_STATUS_IN_RESET c) = 0 ∧
      s.raisedIn (s.pwmValley c) (Ev.PWM_VALLEY c) := by
  have hev : Ev.PWM_VALLEY c < 192 := by simp only [Ev.PWM_VALLEY]; omega
  obtain ⟨hok, hreset, hshown⟩ := valleyReached_shows hc hs hsh
  have hformed := (valleyStep_tripsLeft (valleyReached s c) hc).trans (valleyStep_pulsesFormed _ hc)
  have hreached : PwmStep PwmSt.pairs (fun k => k < 0x40020000 * 32) s (valleyReached s c) :=
    (((PwmStep.setCluster fun _ _ => rfl).trans (PwmStep.wr 0 (by simp only [Fld.key]; omega))).trans
      (PwmStep.wr 0 (by simp only [Fld.key]; omega))).trans (PwmStep.wr 0 (by simp only [Fld.key]; omega))
  rw [pwmValley_eq]
  refine ⟨?_, ?_, raisedIn_next (hformed.regsOk hok) hev ?_ fun _ _ => rfl⟩
  · rw [cluster_of_clusters ((congrArg PwmSt.clusters (raise_pwm _ _)).trans hformed.kept)]
    exact hreset
  · rw [rd_raise _ _ hev _ (by simp only [evKey, Fld.key]; omega), hformed.rd _ (by simp only [valleyKey, evKey, Fld.key]; omega)]
    exact hshown
  · exact (hformed.rd _ (by simp only [valleyKey, evKey, Fld.key]; omega)).trans (hreached.rd _ (by simp only [Fld.key]; omega))

/-! ### The carrier period (R86, R87, R170) -/

/-- A period, its residual and CLAMP, as computed, are held for the next frame (R86, R87). -/
def periodHeld (s : State) : Nat × Nat × Bool → State
  | (period, rho, clamp) => State.wr { s with orbit := { s.orbit with nextPeriod := some (period, rho) } } Reg.ORB_STATUS_CLAMP (b2n clamp)

/-- Within a turn no settings are taken (R84, R86). -/
theorem orbCompute_within {s : State} {period rho : Nat} {clamp : Bool} (h : s.turnEnds = false)
    (hperiod : s.periodOf false = (period, rho, clamp)) :
    s.orbCompute = (periodHeld s (period, rho, clamp)).when clamp fun s => s.flagRaise Reg.ORB_FLAGS_CLAMP Ev.ORB_CARRIER_CLAMP := by
  simp only [orbCompute, h, when_false, hperiod]
  rfl

/-- An event leaves the period that is held (R96). -/
theorem flagRaise_nextPeriod (s : State) (f : Fld) (ev : Nat) : (s.flagRaise f ev).orbit.nextPeriod = s.orbit.nextPeriod := by
  obtain ⟨l, hl⟩ := raise_orbit (s.wr f 1) ev
  rw [State.flagRaise, hl, wr_orbit]

/-- The computation within a turn holds the next period and shows CLAMP, and writes only the flag of a clamp beside (R86, R87). -/
theorem orbCompute_shows {s : State} {period rho : Nat} {clamp : Bool} (hs : s.regsOk) (h : s.turnEnds = false)
    (hperiod : s.periodOf false = (period, rho, clamp)) :
    s.orbCompute.orbit.nextPeriod = some (period, rho) ∧ s.orbCompute.rd Reg.ORB_STATUS_CLAMP = b2n clamp ∧
      Writes (AmongEv [Reg.ORB_STATUS_CLAMP, Reg.ORB_FLAGS_CLAMP]) s s.orbCompute := by
  obtain ⟨u, hu⟩ : ∃ u, { s with orbit := { s.orbit with nextPeriod := some (period, rho) } } = u := ⟨_, rfl⟩
  have hset : Writes (AmongEv [Reg.ORB_STATUS_CLAMP, Reg.ORB_FLAGS_CLAMP]) s u := hu ▸ Writes.of_regs rfl
  have hheld : periodHeld s (period, rho, clamp) = u.wr Reg.ORB_STATUS_CLAMP (b2n clamp) := by rw [periodHeld, hu]
  have hflag (v : State) :
      Writes (AmongEv [Reg.ORB_FLAGS_CLAMP]) v (v.when clamp fun s => s.flagRaise Reg.ORB_FLAGS_CLAMP Ev.ORB_CARRIER_CLAMP) :=
    Writes.when fun _ => Writes.flagRaise (by decide) (by decide) amongEv_ev (by decide)
  rw [orbCompute_within h hperiod, hheld]
  refine ⟨?_, ?_, (hset.trans (Writes.wr _ (by decide) (by decide))).trans ((hflag _).among (by decide))⟩
  · rw [when_keeps (·.orbit.nextPeriod) _ _ (flagRaise_nextPeriod _ _ _), ← hu]
    rfl
  · rw [(hflag _).rd _ (by decide)]
    exact rd_wr_lt (hset.regsOk hs) (by cases clamp <;> decide)

/-- The period shadow of a cluster that follows Orbit takes the computed period (R170). -/
def shadowFollows (p : Nat) (s : State) (c : Nat) : State :=
  if s.on (Reg.CL_CTRL_SYNC c) then s.wr (Reg.CL_PERIOD_SHADOW c) p else s

theorem periodToShadows_some {s : State} {p r : Nat} (h : s.orbit.nextPeriod = some (p, r)) :
    s.periodToShadows = s.forEach (List.range 3) (shadowFollows p) := by
  simp only [periodToShadows, h]
  rfl

theorem writes_shadowFollows (p : Nat) (s : State) {c : Nat} (hc : c < 3) :
    Writes (Among [Reg.CL_PERIOD_SHADOW c]) s (shadowFollows p s c) :=
  Writes.ite (Writes.wr p ⟨_, by simp, rfl⟩ (by simp only [evKey, Fld.key]; omega)) Writes.refl

/-- Each cluster that follows Orbit has the period in its shadow (R170). -/
theorem rd_forEach_shadowFollows {s : State} {p c : Nat} (hs : s.regsOk) (hc : c < 3) (hsync : s.on (Reg.CL_CTRL_SYNC c) = true) :
    (s.forEach (List.range 3) (shadowFollows p)).rd (Reg.CL_PERIOD_SHADOW c) = p % 2 ^ 20 := by
  have hpass (u : State) (q : Nat) (hq : q ∈ List.range 3) := writes_shadowFollows p u (List.mem_range.mp hq)
  refine forEach_reaches (I := fun u => u.regsOk ∧ u.on (Reg.CL_CTRL_SYNC c) = true)
    (P := fun u => u.rd (Reg.CL_PERIOD_SHADOW c) = p % 2 ^ 20) (fun u q hq ⟨hu, hon⟩ => ⟨(hpass u q hq).regsOk hu, ?_⟩)
    (fun u ⟨hu, hon⟩ => ?_) (fun u q hq hne _ h => ((hpass u q hq).regsBut _ ?_).trans h) (List.mem_range.mpr hc) ⟨hs, hsync⟩
  · rw [(hpass u q hq).on (by simp only [Among, List.mem_singleton, exists_eq_left, Fld.key]; omega)]
    exact hon
  · rw [shadowFollows, if_pos hon]
    exact rd_wr_same _ _ _ hu
  · simp only [List.mem_singleton, forall_eq, Fld.key]; omega

/-- The computation holds the next period, and hands it to the clusters that follow Orbit (R86, R87, R170). -/
theorem periodComputed_shows {s : State} {period rho : Nat} {clamp : Bool} (hs : s.regsOk) (h : s.turnEnds = false)
    (hperiod : s.periodOf false = (period, rho, clamp)) :
    s.orbCompute.periodToShadows.orbit.nextPeriod = some (period, rho) ∧
      s.orbCompute.periodToShadows.rd Reg.ORB_STATUS_CLAMP = b2n clamp ∧
      ∀ c, c < 3 → s.on (Reg.CL_CTRL_SYNC c) = true → s.orbCompute.periodToShadows.rd (Reg.CL_PERIOD_SHADOW c) = period % 2 ^ 20 := by
  obtain ⟨hnext, hclamp, hwrites⟩ := orbCompute_shows hs h hperiod
  have hshadows : Writes (fun k => 0x40010000 * 32 ≤ k) s.orbCompute s.orbCompute.periodToShadows := by
    rw [periodToShadows_some hnext]
    exact Writes.forEach (fun u c hc => (writes_shadowFollows _ u (List.mem_range.mp hc)).mono
      fun k hk => by simp only [Among, List.mem_singleton, exists_eq_left, Fld.key] at hk; omega) _
  refine ⟨?_, (hshadows.rd _ (by decide)).trans hclamp, fun c hc hsync => ?_⟩
  · rw [(kp_periodToShadows _).orbit (by decide), hnext]
  · rw [periodToShadows_some hnext]
    refine rd_forEach_shadowFollows (hwrites.regsOk hs) hc ?_
    have hkept : ¬ AmongEv [Reg.ORB_STATUS_CLAMP, Reg.ORB_FLAGS_CLAMP] (Reg.CL_CTRL_SYNC c).key := by
      simp only [AmongEv, Among, List.mem_cons, List.not_mem_nil, or_false, exists_eq_or_imp, exists_eq_left, evKey, Fld.key]
      omega
    rw [hwrites.on hkept]
    exact hsync

/-! ### The statement -/

/-- A commit operation reaches its clusters and retires (R92). -/
theorem exec_pwmCommit_op {s : State} {slot mask : Nat} {o : OrbOp} (h : s.opOf? slot 3 = some o) :
    exec (.pwmCommit (.op slot) mask) s = .next ((s.pwmCommit (o.arga % 8)).retire slot) := by
  change Host.Outcome.next (match s.opOf? slot 3 with | some o => (s.pwmCommit (o.arga % 8)).retire slot | none => s) = _
  rw [h]

/-- Settles O11: each write and commit by the operation on its cluster, and each of the longer commands by what it shows. -/
theorem pwmWritesAndCommitsAct : Obligations.PwmWritesAndCommitsAct := by
  refine ⟨fun s m p v hp hr hw => ?_, fun s m p v hp hr hw hauto => ?_, fun s c hc hsh hen hw hreset => ⟨?_, fun m hr => ?_⟩,
    fun s c hc hsh hen hw hheld => ?_, fun s slot c o hc hsh hop hmask hen hw hreset => ?_,
    fun s c p hc hp hs hsh hen hw harmed hpeak hholding => ?_, fun s m c hc hr => ?_, fun s m c hc hr hw harmed hheld => ?_,
    fun s m c hc hs hsh hr => ?_, fun s m c v hc hr hsync hw hlo hhi => ?_,
    fun s m c v hc hr => ⟨fun hsync => ?_, fun hsync hv hlt => ?_⟩, fun s c hc hs hsh hen => ?_,
    fun s m p h l hp hr => ⟨fun hh hl => ?_, fun hbad => ?_⟩, fun s m hr => ⟨?_, ?_, ?_⟩, fun s hnext => ?_,
    fun s hs hnext hends => ?_⟩
  · exact congrArg Host.Outcome.next ((unitAccess_allow hp hr).trans (shadowWrite_open (s := s.acked) _ _ hw))
  · exact congrArg Host.Outcome.next ((unitAccess_allow hp hr).trans (shadowWrite_window (s := s.acked) _ _ hw hauto))
  · exact congrArg Host.Outcome.next ((pwmCommit_one s hc).trans (commitCluster_arms hc hsh hen hw hreset))
  · exact congrArg Host.Outcome.next ((access_allow _ hr).trans ((pwmCommit_one s.acked hc).trans
      (commitCluster_arms (s := s.acked) hc (shaped_acked hsh) hen hw hreset)))
  · exact congrArg Host.Outcome.next ((pwmCommit_one s hc).trans (commitCluster_holds hc hsh hen hw hheld))
  · have hcommit := (pwmCommit_one s hc).trans (commitCluster_arms hc hsh hen hw hreset)
    refine ⟨_, exec_pwmCommit_op hop, ?_, ?_⟩
    · rw [hmask, hcommit, cluster_of_clusters (congrArg PwmSt.clusters ((kp_retire _ _).pwm (by decide)))]
      exact congrArg PwmCluster.armed (cluster_setCluster_same _ hsh hc)
    · rw [retire_ops, hmask, hcommit]
      rfl
  · subst hp
    have hexec : exec (.commitPoint (p / 8)) s = .next (s.commitPoint (p / 8)) :=
      congrArg Host.Outcome.next (if_pos (by simp [hc, hen, hw]))
    obtain ⟨hwindow, ha, hb, hdt⟩ := commitPoint_shows (by omega) hs hsh harmed hpeak hholding
    exact ⟨_, hexec, hwindow, ha, hb, hdt, (kp_execCommitPoint _ _ _ hexec).memsSame (by decide)⟩
  · exact congrArg Host.Outcome.next (unitAccess_allow hc hr)
  · exact congrArg Host.Outcome.next ((unitAccess_allow hc hr).trans (clusterEnable_off (s := s.acked) hw harmed hheld))
  · have hexec : exec (.clSoftReset m c) s = .next (s.acked.clusterSoftReset c) :=
      congrArg Host.Outcome.next (unitAccess_allow hc hr)
    obtain ⟨hreset, hshown, hrest⟩ := clusterSoftReset_shows (s := s.acked) hc hs (shaped_acked hsh)
    exact ⟨_, hexec, hreset, hshown, hrest, (kp_execClSoftReset _ _ _ _ hexec).memsSame (by decide)⟩
  · exact congrArg Host.Outcome.next ((unitAccess_allow hc hr).trans (clusterPeriodWrite_taken (s := s.acked) hsync hw hlo hhi))
  · exact congrArg Host.Outcome.next ((unitAccess_allow hc hr).trans (if_pos hsync))
  · exact congrArg Host.Outcome.next ((unitAccess_allow hc hr).trans (clusterPeriodWrite_refused (s := s.acked) hsync hv hlt))
  · have hexec : exec (.pwmValley c) s = .next (s.pwmValley c) := congrArg Host.Outcome.next (if_pos (by simp [hc, hen]))
    obtain ⟨hreset, hshown, hraised⟩ := pwmValley_shows hc hs hsh
    exact ⟨_, hexec, hreset, hshown, hraised, (kp_execPwmValley _ _ _ hexec).memsSame (by decide)⟩
  · exact congrArg Host.Outcome.next ((unitAccess_allow hp hr).trans (if_neg (by simp [hh, hl])))
  · exact congrArg Host.Outcome.next ((unitAccess_allow hp hr).trans (if_pos (by simpa using hbad)))
  · exact congrArg Host.Outcome.next (access_allow _ hr)
  · exact congrArg Host.Outcome.next (access_allow _ hr)
  · exact congrArg Host.Outcome.next (access_allow _ hr)
  · exact congrArg Host.Outcome.next (if_pos hnext)
  · have hexec : exec .orbPeriodCompute s = .next s.orbCompute.periodToShadows :=
      congrArg Host.Outcome.next (if_neg (by simp [hnext]))
    obtain ⟨⟨period, rho, clamp⟩, hperiod⟩ : ∃ r, s.periodOf false = r := ⟨_, rfl⟩
    obtain ⟨hheld, hclamp, hshadows⟩ := periodComputed_shows hs hends hperiod
    rw [hperiod]
    exact ⟨_, hexec, hheld, hclamp, hshadows, (kp_execOrbPeriodCompute _ _ hexec).memsSame (by decide)⟩

end Sys2Proof.Machine
end

section
/-! SUPPORT. The drive interface (R200 to R224): what it holds of a leg after an update, which registers the moves of a leg, its tests and
its faults write, and what a leg shows after each of them. -/

set_option Elab.async false

open Sys2Proof.Machine.State

namespace Sys2Proof.Machine

/-! ### Fields of numbered units -/

section Units
variable {N n : Nat} {F : Nat → List Fld} {V : Nat → Prop} {s t u : State}

/-- A field of a unit that is none of those an operation on that unit writes: checked for every unit of the few there are. -/
theorem Writes.unit_rd (h : Writes (AmongEv (F n)) s t) (f : Nat → Fld) (hn : n < N) (hf : ∀ i < N, ¬ AmongEv (F i) (f i).key) :
    t.rd (f n) = s.rd (f n) := h.rd _ (hf n hn)

/-- A write of a field of a unit. -/
theorem Writes.unit_wr (f : Nat → Fld) (v : Nat) (hn : n < N) (hf : ∀ i < N, f i ∈ F i ∧ ¬ evKey (f i).key) :
    Writes (AmongEv (F n)) s (s.wr (f n) v) := Writes.wr v (.inl ⟨_, (hf n hn).1, rfl⟩) (hf n hn).2

/-- An event raised by an operation on a unit, whose fields lie below the event fabric, is pending at the end (R69, R71). -/
theorem Writes.unit_raisedIn {ev : Nat} (h : Writes (AmongEv (F n)) s t) (k : Writes V (t.raise ev) u) (hs : s.regsOk) (hev : ev < 192)
    (hn : n < N) (hF : ∀ i < N, ∀ g ∈ F i, g.key < 0x400B0000 * 32) : s.raisedIn u ev :=
  h.raisedIn k hs hev (route_not_among hev fun g hg => .inl (hF n hn g hg))

/-- A field of a unit after a write of another. -/
theorem rd_wr_unit_ne (f g : Nat → Fld) {v : Nat} (hn : n < N) (h : ∀ i < N, (f i).key ≠ (g i).key) :
    (s.wr (g n) v).rd (f n) = s.rd (f n) := rd_wr_ne s v (h n hn)

end Units

/-! ### Bits of a field -/

theorem hasBit_putBit_same (x n : Nat) (b : Bool) : hasBit (putBit x n b) n = b := by
  cases b
  · exact hasBit_clearBit_same x n
  · exact hasBit_setBit_same x n

theorem b2n_lt (b : Bool) : b2n b < 2 ^ 1 := by cases b <;> decide

/-- A bit of a field after it has been given a value; `setB` gives it true, `clrB` false. -/
theorem hasBit_rd_putB {s : State} {f : Fld} {n : Nat} (b : Bool) (hs : s.regsOk) (hn : n < f.width) :
    hasBit ((s.putB f n b).rd f) n = b := by
  rw [putB_eq, rd_wr_same _ _ _ hs, hasBit_mod hn, hasBit_putBit_same]

/-- A number of `w` bits that are all set. -/
theorem eq_of_all_bits {x w : Nat} (hx : x < 2 ^ w) (h : ∀ i < w, hasBit x i = true) : x = 2 ^ w - 1 := by
  refine Nat.eq_of_testBit_eq fun i => ?_
  rw [Nat.testBit_two_pow_sub_one]
  by_cases hi : i < w
  · rw [← hasBit_eq_testBit, h i hi, decide_eq_true hi]
  · rw [decide_eq_false hi]
    exact Nat.testBit_lt_two_pow (hx.trans_le (Nat.pow_le_pow_right (by decide) (Nat.le_of_not_lt hi)))

/-! ### What the drive interface holds of a leg -/

theorem leg_setLeg_same {s : State} {n : Nat} (v : DrvLeg) (hs : s.Shaped) (hn : n < 6) : (s.setLeg n v).leg n = v :=
  nth_setNth_same v {} (hs.legs.symm ▸ hn)

theorem leg_of_drv {s t : State} (h : t.drv = s.drv) (n : Nat) : t.leg n = s.leg n := by rw [leg, h, leg]

@[simp] theorem raise_leg (s : State) (ev n : Nat) : (s.raise ev).leg n = s.leg n := leg_of_drv (raise_drv s ev) n

theorem Writes.setLeg {W : Nat → Prop} {s : State} {n : Nat} {v : DrvLeg} : Writes W s (s.setLeg n v) := Writes.of_regs rfl

/-! ### Moves of a leg (R216, R218) -/

/-- The registers that show the state of a leg (R218, R224). -/
abbrev legMoveFields (n : Nat) : List Fld := [Reg.DRV_STATE_STATE n, Reg.DRV_STATUS_FAULTED, Reg.DRV_STATUS_LATCHED]

theorem writes_setLegState (s : State) {n : Nat} (st : Nat) (hn : n < 6) : Writes (AmongEv (legMoveFields n)) s (s.setLegState n st) :=
  ((Writes.unit_wr Reg.DRV_STATE_STATE st hn (by decide)).trans (Writes.unit_wr (fun _ => Reg.DRV_STATUS_FAULTED) _ hn (by decide))).trans
    (Writes.unit_wr (fun _ => Reg.DRV_STATUS_LATCHED) _ hn (by decide))

/-- A leg after a move: its state, and FAULTED and LATCHED that follow it (R218). -/
theorem setLegState_shows {s : State} {n st : Nat} (hn : n < 6) (hs : s.regsOk) (hst : st < 8) :
    (s.setLegState n st).legState n = st ∧
      hasBit ((s.setLegState n st).rd Reg.DRV_STATUS_FAULTED) n = (st == legSoftOff || st == legWait || st == legLatched) ∧
      hasBit ((s.setLegState n st).rd Reg.DRV_STATUS_LATCHED) n = (st == legLatched) := by
  have hstate : (s.wr (Reg.DRV_STATE_STATE n) st).regsOk := keysRise_wr _ _ _ hs
  have hkept (u : State) (f : Fld) (v : Nat) (hf : f.key < 0x40020100 * 32) : (u.wr f v).legState n = u.legState n :=
    rd_wr_ne _ _ (by simp only [Fld.key] at *; omega)
  refine ⟨?_, (congrArg (hasBit · n) (rd_wr_ne _ _ (by decide))).trans (hasBit_rd_putB _ hstate hn),
    hasBit_rd_putB _ (keysRise_wr _ _ _ hstate) hn⟩
  exact (hkept _ _ _ (by decide)).trans ((hkept _ _ _ (by decide)).trans (rd_wr_lt hs hst))

theorem legState_setLegState {s : State} {n st : Nat} (hn : n < 6) (hs : s.regsOk) (hst : st < 8) : (s.setLegState n st).legState n = st :=
  (setLegState_shows hn hs hst).1

/-- The registers that show the link of a leg (R224). -/
abbrev legLinkFields (n : Nat) : List Fld := [Reg.DRV_STATE_LINK_OK n, Reg.DRV_STATUS_LINK_OK]

theorem writes_setLinkOk (s : State) {n : Nat} (b : Bool) (hn : n < 6) : Writes (Among (legLinkFields n)) s (s.setLinkOk n b) :=
  (Writes.wr _ ⟨_, by simp, rfl⟩ (by simp only [evKey, Fld.key]; omega)).trans (Writes.wr _ ⟨_, by simp, rfl⟩ (by decide))

theorem setLinkOk_shows {s : State} {n : Nat} (b : Bool) (hn : n < 6) (hs : s.regsOk) :
    (s.setLinkOk n b).rd (Reg.DRV_STATE_LINK_OK n) = b2n b ∧ hasBit ((s.setLinkOk n b).rd Reg.DRV_STATUS_LINK_OK) n = b := by
  have hstate : (s.wr (Reg.DRV_STATE_LINK_OK n) (b2n b)).regsOk := keysRise_wr _ _ _ hs
  exact ⟨(rd_wr_unit_ne Reg.DRV_STATE_LINK_OK (fun _ => Reg.DRV_STATUS_LINK_OK) hn (by decide)).trans
    (rd_wr_lt hs (b2n_lt b)), hasBit_rd_putB b hstate hn⟩

theorem legState_setLinkOk {s : State} {n : Nat} (b : Bool) (hn : n < 6) : (s.setLinkOk n b).legState n = s.legState n :=
  ((writes_setLinkOk s b hn).mono fun k hk => Or.inl hk : Writes (AmongEv (legLinkFields n)) s _).unit_rd Reg.DRV_STATE_STATE hn (by decide)

/-! ### Self-tests (R216, R220, R221) -/

/-- The registers of a leg's self-test (R224). -/
abbrev legTestFields (n : Nat) : List Fld :=
  [Reg.DRV_TEST_RES_PASS n, Reg.DRV_STATE_TEST_OK n, Reg.DRV_TEST_RES_BUSY n, Reg.DRV_TEST_RES_ABORT n]

/-- The same, and those of the moves at its begin and end. -/
abbrev testRunFields (n : Nat) : List Fld := legTestFields n ++ legMoveFields n

theorem legTest_subset (n : Nat) : legTestFields n ⊆ testRunFields n := List.subset_append_left _ _

theorem legMove_subset (n : Nat) : legMoveFields n ⊆ testRunFields n := List.subset_append_right _ _

/-- What a test has begun with: where it came from and its comparators. -/
def testNoted (s : State) (n sel : Nat) : State := s.setLeg n { s.leg n with testFrom := s.legState n, testSel := sel }

theorem testBegin_eq (s : State) (n sel : Nat) : s.testBegin n sel =
    (((testNoted s n sel).wr (Reg.DRV_TEST_RES_BUSY n) 1).wr (Reg.DRV_TEST_RES_ABORT n) 0).setLegState n legTest := rfl

/-- A leg in TEST, as a test begins (R216, R221). -/
theorem testBegin_shows {s : State} {n : Nat} (sel : Nat) (hn : n < 6) (hs : s.regsOk) (hsh : s.Shaped) :
    (s.testBegin n sel).legState n = legTest ∧ (s.testBegin n sel).rd (Reg.DRV_TEST_RES_BUSY n) = 1 ∧
      ((s.testBegin n sel).leg n).testSel = sel ∧ ((s.testBegin n sel).leg n).testFrom = s.legState n := by
  have hbusy : ((testNoted s n sel).wr (Reg.DRV_TEST_RES_BUSY n) 1).regsOk := keysRise_wr _ _ _ hs
  have hleg : (s.testBegin n sel).leg n = { s.leg n with testFrom := s.legState n, testSel := sel } :=
    leg_setLeg_same _ hsh hn
  rw [hleg, testBegin_eq]
  refine ⟨legState_setLegState hn (keysRise_wr _ _ _ hbusy) (by decide), ?_, rfl, rfl⟩
  rw [(writes_setLegState _ _ hn).unit_rd Reg.DRV_TEST_RES_BUSY hn (by decide),
    rd_wr_unit_ne Reg.DRV_TEST_RES_BUSY Reg.DRV_TEST_RES_ABORT hn (by decide)]
  exact rd_wr_same _ _ _ hs

/-- A START of a leg in OFF that selects a comparator begins a test (R221). -/
theorem testStart_off {s : State} {n : Nat} (hst : s.legState n = legOff) (hsel : s.rd (Reg.DRV_TEST_CMD_SEL n) ≠ 0) :
    s.testStart n = s.testBegin n (s.rd (Reg.DRV_TEST_CMD_SEL n)) := if_pos (by simp [hst, hsel])

/-- A START of an armed leg is refused (R221). -/
theorem testStart_armed {s : State} {n : Nat} (hst : s.legState n = legArmed) :
    s.testStart n = s.wr Reg.DRV_FLAGS_TEST_REFUSED 1 := if_neg (by simp [hst])

theorem writes_testBegin (s : State) {n : Nat} (sel : Nat) (hn : n < 6) :
    Writes (AmongEv (testRunFields n)) s (s.testBegin n sel) := by
  have hnoted : Writes (AmongEv (testRunFields n)) s (testNoted s n sel) := Writes.setLeg
  exact ((hnoted.trans (Writes.unit_wr Reg.DRV_TEST_RES_BUSY 1 hn (by decide))).trans
    (Writes.unit_wr Reg.DRV_TEST_RES_ABORT 0 hn (by decide))).trans ((writes_setLegState _ _ hn).among (legMove_subset n))

/-- The results of the comparators tested are put in PASS (R220). -/
def passPut (s : State) (n tested pass : Nat) : State :=
  s.forEach (bitsOf 9 (tested &&& (s.leg n).testSel)) fun s c => s.putB (Reg.DRV_TEST_RES_PASS n) c (hasBit pass c)

theorem testResults_eq (s : State) (n tested pass : Nat) : s.testResults n tested pass = (passPut s n tested pass).wr
    (Reg.DRV_STATE_TEST_OK n) (b2n ((passPut s n tested pass).rd (Reg.DRV_TEST_RES_PASS n) == 511)) := rfl

theorem writes_passPut (s : State) {n : Nat} (tested pass : Nat) (hn : n < 6) :
    Writes (AmongEv (legTestFields n)) s (passPut s n tested pass) :=
  Writes.forEach (fun _ _ _ => Writes.unit_wr Reg.DRV_TEST_RES_PASS _ hn (by decide)) s

theorem writes_testResults (s : State) {n : Nat} (tested pass : Nat) (hn : n < 6) :
    Writes (AmongEv (legTestFields n)) s (s.testResults n tested pass) :=
  (writes_passPut s tested pass hn).trans (Writes.unit_wr Reg.DRV_STATE_TEST_OK _ hn (by decide))

/-- Nine comparators tested and passed: every bit of PASS is set, one pass of the loop for each (R220). -/
theorem rd_passPut_all {s : State} {n : Nat} (hs : s.regsOk) (hsel : (s.leg n).testSel = 511) :
    (passPut s n 511 511).rd (Reg.DRV_TEST_RES_PASS n) = 511 := by
  have hall : bitsOf 9 (511 &&& (s.leg n).testSel) = List.range 9 := by rw [hsel]; decide
  have hput (u : State) (c : Nat) (hu : u.regsOk) : (u.putB (Reg.DRV_TEST_RES_PASS n) c (hasBit 511 c)).regsOk := keysRise_wr _ _ _ hu
  have hpassed : ∀ c < 9, hasBit 511 c = true := by decide
  rw [passPut, hall]
  refine eq_of_all_bits (w := 9) ?_ fun c hc => ?_
  · refine forEach_reaches (I := State.regsOk) (P := fun u => u.rd (Reg.DRV_TEST_RES_PASS n) < 2 ^ 9) (x := 0)
      (fun u c _ => hput u c) (fun u hu => ?_) (fun u c _ _ hu _ => ?_) (by decide) hs
    · exact (rd_wr_same _ _ _ hu).trans_lt (Nat.mod_lt _ (Nat.two_pow_pos 9))
    · exact (rd_wr_same _ _ _ hu).trans_lt (Nat.mod_lt _ (Nat.two_pow_pos 9))
  · refine forEach_reaches (I := State.regsOk) (P := fun u => hasBit (u.rd (Reg.DRV_TEST_RES_PASS n)) c = true)
      (fun u c _ => hput u c) (fun u hu => (hasBit_rd_putB _ hu hc).trans (hpassed c hc)) (fun u b hb _ hu hset => ?_)
      (List.mem_range.mpr hc) hs
    rw [hpassed b (List.mem_range.mp hb), putB_eq, rd_wr_same _ _ _ hu, hasBit_mod (w := 9) hc]
    exact hasBit_setBit_of_hasBit b hset

theorem passPut_leg (s : State) (n tested pass : Nat) : (passPut s n tested pass).leg n = s.leg n :=
  leg_of_drv (forEach_keeps (·.drv) (f := fun s c => s.putB (Reg.DRV_TEST_RES_PASS n) c (hasBit pass c)) (fun _ _ => rfl) _ s) n

/-- The results of a test are in, and it is no longer busy. -/
def testOver (s : State) (n tested pass : Nat) : State := (s.testResults n tested pass).wr (Reg.DRV_TEST_RES_BUSY n) 0

/-- The state that a leg returns to after a test: OFF from INIT, or where it came from (R216). -/
def testBack (s : State) (n : Nat) : Nat := if (s.leg n).testFrom = legInit then legOff else (s.leg n).testFrom

theorem testEnd_running {s : State} {n tested pass : Nat} (hst : s.legState n = legTest) :
    s.testEnd n tested pass = ((testOver s n tested pass).setLegState n (testBack s n)).raise Ev.DRV_TEST_DONE := by
  have hleg : (testOver s n tested pass).leg n = s.leg n := passPut_leg s n tested pass
  rw [testEnd, if_pos hst, testBack, ← hleg]
  rfl

theorem writes_testOver (s : State) {n : Nat} (tested pass : Nat) (hn : n < 6) :
    Writes (AmongEv (legTestFields n)) s (testOver s n tested pass) :=
  (writes_testResults s tested pass hn).trans (Writes.unit_wr Reg.DRV_TEST_RES_BUSY 0 hn (by decide))

theorem writes_testEnd (s : State) {n : Nat} (tested pass : Nat) (hn : n < 6) :
    Writes (AmongEv (testRunFields n)) s (s.testEnd n tested pass) := by
  by_cases hst : s.legState n = legTest
  · rw [testEnd_running hst]
    exact (((writes_testOver s tested pass hn).among (legTest_subset n)).trans ((writes_setLegState _ _ hn).among (legMove_subset n))).trans
      (Writes.raise amongEv_ev (by decide))
  · rw [testEnd, if_neg hst]
    exact Writes.refl

theorem writes_testAbort (s : State) {n : Nat} (tested pass : Nat) (hn : n < 6) :
    Writes (AmongEv (testRunFields n)) s (s.testAbort n tested pass) :=
  Writes.ite ((Writes.unit_wr Reg.DRV_TEST_RES_ABORT 1 hn (by decide)).trans (writes_testEnd _ tested pass hn)) Writes.refl

/-- The boot self-test ends with all nine comparators passed: OFF with TEST_OK (R216, R220). -/
theorem testEnd_boot_shows {s : State} {n : Nat} (hn : n < 6) (hs : s.regsOk) (hst : s.legState n = legTest)
    (hfrom : (s.leg n).testFrom = legInit) (hsel : (s.leg n).testSel = 511) :
    (s.testEnd n 511 511).legState n = legOff ∧ (s.testEnd n 511 511).rd (Reg.DRV_STATE_TEST_OK n) = 1 ∧
      (s.testEnd n 511 511).rd (Reg.DRV_TEST_RES_PASS n) = 511 ∧ (s.testEnd n 511 511).rd (Reg.DRV_TEST_RES_BUSY n) = 0 ∧
      s.raisedIn (s.testEnd n 511 511) Ev.DRV_TEST_DONE := by
  have hpass := rd_passPut_all hs hsel
  have hput : (passPut s n 511 511).regsOk := (writes_passPut s 511 511 hn).regsOk hs
  have hresults : (s.testResults n 511 511).regsOk := (writes_testResults s 511 511 hn).regsOk hs
  have hover := writes_testOver s 511 511 hn
  have hback : testBack s n = legOff := if_pos hfrom
  have hmove := writes_setLegState (testOver s n 511 511) legOff hn
  have hend : Writes (AmongEv (legMoveFields n)) (testOver s n 511 511)
      (((testOver s n 511 511).setLegState n legOff).raise Ev.DRV_TEST_DONE) := hmove.trans (Writes.raise amongEv_ev (by decide))
  rw [testEnd_running hst, hback]
  refine ⟨?_, ?_, ?_, ?_, ?_⟩
  · exact ((Writes.raise (W := AmongEv []) amongEv_ev (by decide)).unit_rd (F := fun _ => []) Reg.DRV_STATE_STATE hn (by decide)).trans
      (legState_setLegState hn (hover.regsOk hs) (by decide))
  · rw [hend.unit_rd Reg.DRV_STATE_TEST_OK hn (by decide), testOver,
      rd_wr_unit_ne Reg.DRV_STATE_TEST_OK Reg.DRV_TEST_RES_BUSY hn (by decide), testResults_eq, hpass]
    exact rd_wr_same _ _ _ hput
  · rw [hend.unit_rd Reg.DRV_TEST_RES_PASS hn (by decide), testOver,
      rd_wr_unit_ne Reg.DRV_TEST_RES_PASS Reg.DRV_TEST_RES_BUSY hn (by decide), testResults_eq,
      rd_wr_unit_ne Reg.DRV_TEST_RES_PASS Reg.DRV_STATE_TEST_OK hn (by decide), hpass]
  · rw [hend.unit_rd Reg.DRV_TEST_RES_BUSY hn (by decide)]
    exact rd_wr_same _ _ _ hresults
  · exact ((hover.among (legTest_subset n)).trans (hmove.among (legMove_subset n))).unit_raisedIn
      (Writes.refl (W := fun _ => False)) hs (by decide) hn (by decide)

/-! ### Use (R216) -/

theorem legUse_unused {s : State} {n : Nat} (hn : n < 6) (hrun : s.cpRun = false) (hst : s.legState n = legUnused) :
    s.legUse n = (s.setB Reg.DRV_CTRL_USED n).setLegState n legInit := by
  have hkept : (s.setB Reg.DRV_CTRL_USED n).legState n = legUnused :=
    (rd_wr_unit_ne Reg.DRV_STATE_STATE (fun _ => Reg.DRV_CTRL_USED) hn (by decide)).trans hst
  rw [legUse, hrun]
  exact if_pos hkept

/-- A leg goes to INIT as it is used (R216). -/
theorem legUse_shows {s : State} {n : Nat} (hn : n < 6) (hs : s.regsOk) (hrun : s.cpRun = false) (hst : s.legState n = legUnused) :
    (s.legUse n).legState n = legInit ∧ hasBit ((s.legUse n).rd Reg.DRV_CTRL_USED) n = true := by
  rw [legUse_unused hn hrun hst]
  refine ⟨legState_setLegState hn (keysRise_wr _ _ _ hs) (by decide), ?_⟩
  rw [(writes_setLegState _ _ hn).unit_rd (fun _ => Reg.DRV_CTRL_USED) hn (by decide)]
  exact hasBit_rd_putB true hs hn

/-- The logic section of a leg is unpowered (R216). -/
def unpowered (s : State) (n : Nat) : State :=
  ((((s.setLinkOk n false).wr (Reg.DRV_CFG_ARM n) 0).wr (Reg.DRV_STATE_ADAPT_READY n) 0).wr (Reg.DRV_STATE_BS_WARN n) 0).wr
    (Reg.DRV_STATE_BS_HOLD n) 0

/-- What the drive interface holds of a leg is dropped, but for the escalation of this turn (R215). -/
def legDropped (s : State) (n : Nat) : State := s.setLeg n { escTurn := (s.leg n).escTurn }

theorem legUnuse_eq {s : State} {n : Nat} (tested pass : Nat) (hrun : s.cpRun = false) : s.legUnuse n tested pass =
    (legDropped (unpowered ((s.clrB Reg.DRV_CTRL_USED n).testAbort n tested pass) n) n).setLegState n legUnused := by
  rw [legUnuse, hrun]
  rfl

/-- The registers of the adaptation and of the bootstrap of a leg that its end of use clears (R206, R219). -/
abbrev dieFields (n : Nat) : List Fld := [Reg.DRV_STATE_ADAPT_READY n, Reg.DRV_STATE_BS_WARN n, Reg.DRV_STATE_BS_HOLD n]

/-- The registers that the end of a leg's use writes, beside those of a test and of the move. -/
abbrev unpowerFields (n : Nat) : List Fld := legLinkFields n ++ Reg.DRV_CFG_ARM n :: dieFields n

theorem writes_unpowered (s : State) {n : Nat} (hn : n < 6) : Writes (AmongEv (unpowerFields n)) s (unpowered s n) := by
  have hlink : Writes (AmongEv (unpowerFields n)) s (s.setLinkOk n false) :=
    (writes_setLinkOk s false hn).mono fun k hk => amongEv_mono (List.subset_append_left _ _) k (.inl hk)
  exact (((hlink.trans (Writes.unit_wr Reg.DRV_CFG_ARM 0 hn (by decide))).trans (Writes.unit_wr Reg.DRV_STATE_ADAPT_READY 0 hn (by decide))).trans
    (Writes.unit_wr Reg.DRV_STATE_BS_WARN 0 hn (by decide))).trans (Writes.unit_wr Reg.DRV_STATE_BS_HOLD 0 hn (by decide))

theorem unpowered_shows {s : State} {n : Nat} (hn : n < 6) (hs : s.regsOk) :
    (unpowered s n).rd (Reg.DRV_CFG_ARM n) = 0 ∧ (unpowered s n).rd (Reg.DRV_STATE_LINK_OK n) = 0 := by
  have hlink : (s.setLinkOk n false).regsOk := (writes_setLinkOk s false hn).regsOk hs
  have hrest (u : State) : Writes (AmongEv (dieFields n)) u
      (((u.wr (Reg.DRV_STATE_ADAPT_READY n) 0).wr (Reg.DRV_STATE_BS_WARN n) 0).wr (Reg.DRV_STATE_BS_HOLD n) 0) :=
    ((Writes.unit_wr Reg.DRV_STATE_ADAPT_READY 0 hn (by decide)).trans (Writes.unit_wr Reg.DRV_STATE_BS_WARN 0 hn (by decide))).trans
      (Writes.unit_wr Reg.DRV_STATE_BS_HOLD 0 hn (by decide))
  refine ⟨((hrest _).unit_rd Reg.DRV_CFG_ARM hn (by decide)).trans (rd_wr_same _ _ _ hlink), ?_⟩
  exact ((hrest _).unit_rd Reg.DRV_STATE_LINK_OK hn (by decide)).trans
    ((rd_wr_unit_ne Reg.DRV_STATE_LINK_OK Reg.DRV_CFG_ARM hn (by decide)).trans (setLinkOk_shows false hn hs).1)

/-- A leg goes unused, whatever its state was (R216). -/
theorem legUnuse_shows {s : State} {n : Nat} (tested pass : Nat) (hn : n < 6) (hs : s.regsOk) (hrun : s.cpRun = false) :
    (s.legUnuse n tested pass).legState n = legUnused ∧ hasBit ((s.legUnuse n tested pass).rd Reg.DRV_CTRL_USED) n = false ∧
      (s.legUnuse n tested pass).rd (Reg.DRV_CFG_ARM n) = 0 ∧ (s.legUnuse n tested pass).rd (Reg.DRV_STATE_LINK_OK n) = 0 := by
  have hclr : (s.clrB Reg.DRV_CTRL_USED n).regsOk := keysRise_wr _ _ _ hs
  have habort := writes_testAbort (s.clrB Reg.DRV_CTRL_USED n) tested pass hn
  have hoff := writes_unpowered ((s.clrB Reg.DRV_CTRL_USED n).testAbort n tested pass) hn
  have hmove := writes_setLegState
    (legDropped (unpowered ((s.clrB Reg.DRV_CTRL_USED n).testAbort n tested pass) n) n) legUnused hn
  obtain ⟨harm, hlink⟩ := unpowered_shows hn (habort.regsOk hclr)
  rw [legUnuse_eq tested pass hrun]
  refine ⟨legState_setLegState hn (hoff.regsOk (habort.regsOk hclr)) (by decide), ?_,
    (hmove.unit_rd Reg.DRV_CFG_ARM hn (by decide)).trans harm, (hmove.unit_rd Reg.DRV_STATE_LINK_OK hn (by decide)).trans hlink⟩
  have hused : (unpowered ((s.clrB Reg.DRV_CTRL_USED n).testAbort n tested pass) n).rd Reg.DRV_CTRL_USED =
      (s.clrB Reg.DRV_CTRL_USED n).rd Reg.DRV_CTRL_USED :=
    (hoff.unit_rd (fun _ => Reg.DRV_CTRL_USED) hn (by decide)).trans (habort.unit_rd (fun _ => Reg.DRV_CTRL_USED) hn (by decide))
  rw [hmove.unit_rd (fun _ => Reg.DRV_CTRL_USED) hn (by decide)]
  exact (congrArg (hasBit · n) hused).trans (hasBit_rd_putB false hs hn)

/-! ### Arming (R213, R216, R219) -/

/-- A leg that arms, with nothing pending. -/
def armedLeg (s : State) (n : Nat) : State :=
  (s.setLeg n { s.leg n with armPend := false, rearmPend := false, waitOver := false, bsPend := false }).setLegState n legArmed

/-- GH starts held (R219). -/
def startsHeld (s : State) (n : Nat) : Bool :=
  s.on (Reg.DRV_CFG_BOOT n) && ((s.leg n).bsPend || decide (s.rd (Reg.DRV_STATE_VBS n) < s.uvLevel n + 5))

theorem legEngage_eq (s : State) (n : Nat) : s.legEngage n = (armedLeg s n).when (startsHeld s n) fun s => s.bsHold n := rfl

/-- The register that shows a bootstrap hold (R219). -/
abbrev bsHoldFields (n : Nat) : List Fld := [Reg.DRV_STATE_BS_HOLD n]

theorem writes_bsHold (s : State) {n : Nat} (hn : n < 6) : Writes (AmongEv (bsHoldFields n)) s (s.bsHold n) :=
  Writes.ite Writes.refl ((Writes.unit_wr Reg.DRV_STATE_BS_HOLD 1 hn (by decide)).trans (Writes.raise amongEv_ev (by decide)))

theorem bsHold_leg (s : State) (n : Nat) : (s.bsHold n).leg n = s.leg n := by
  unfold bsHold
  split
  · rfl
  · exact raise_leg _ _ _

/-- A leg becomes ARMED with no arming pending (R216). -/
theorem legEngage_shows {s : State} {n : Nat} (hn : n < 6) (hs : s.regsOk) (hsh : s.Shaped) :
    (s.legEngage n).legState n = legArmed ∧ ((s.legEngage n).leg n).armPend = false := by
  have hleg : (armedLeg s n).leg n = { s.leg n with armPend := false, rearmPend := false, waitOver := false, bsPend := false } :=
    leg_setLeg_same _ hsh hn
  have hstate : (armedLeg s n).legState n = legArmed := legState_setLegState hn hs (by decide)
  have hhold : Writes (AmongEv (bsHoldFields n)) (armedLeg s n) (s.legEngage n) := Writes.when fun u => writes_bsHold u hn
  refine ⟨(hhold.unit_rd Reg.DRV_STATE_STATE hn (by decide)).trans hstate, ?_⟩
  rw [legEngage_eq, when_keeps (fun u => u.leg n) _ _ (bsHold_leg _ n), hleg]

/-- Both commands off engage an arming that waits for it (R216). -/
theorem bothOff_arms {s : State} {n : Nat} (hst : s.legState n = legOff) (hpend : (s.leg n).armPend = true) (harm : s.armable n = true) :
    s.bothOff n = s.legEngage n := if_pos (by simp [hst, hpend, harm])

theorem legArm_armable {s : State} {n : Nat} (hst : s.legState n = legOff) (harm : s.armable n = true) :
    s.legArm n = (s.wr (Reg.DRV_CFG_ARM n) 1).setLeg n { s.leg n with armPend := true } := (if_pos hst).trans (if_pos harm)

theorem legArm_refused {s : State} {n : Nat} (hst : s.legState n = legOff) (harm : s.armable n = false) :
    s.legArm n = (s.wr (Reg.DRV_CFG_ARM n) 0).drvCfgErr := (if_pos hst).trans (if_neg (ne_true_of_eq_false harm))

/-- ARM is 0 and nothing of the leg is pending (R216). -/
def disarmed (s : State) (n : Nat) : State :=
  (s.wr (Reg.DRV_CFG_ARM n) 0).setLeg n { s.leg n with armPend := false, rearmPend := false, waitOver := false, enWait := false }

theorem legDisarm_armed {s : State} {n : Nat} (hst : s.legState n = legArmed) : s.legDisarm n = (disarmed s n).setLegState n legOff := by
  simp only [legDisarm, hst]
  rfl

theorem legDisarm_shows {s : State} {n : Nat} (hn : n < 6) (hs : s.regsOk) (hst : s.legState n = legArmed) :
    (s.legDisarm n).legState n = legOff ∧ (s.legDisarm n).rd (Reg.DRV_CFG_ARM n) = 0 := by
  have hoff : (disarmed s n).regsOk := keysRise_wr s (Reg.DRV_CFG_ARM n) 0 hs
  rw [legDisarm_armed hst]
  exact ⟨legState_setLegState hn hoff (by decide),
    ((writes_setLegState _ _ hn).unit_rd Reg.DRV_CFG_ARM hn (by decide)).trans (rd_wr_same s (Reg.DRV_CFG_ARM n) 0 hs)⟩

/-! ### Faults (R211, R212, R216) -/

/-- The registers that the record of a fault writes (R216, R224). -/
abbrev legFaultFields (n : Nat) : List Fld := [Reg.DRV_CAUSE_CAUSE n, Reg.DRV_CAUSE_FIRST n, Reg.DRV_STATE_TRIES n]

/-- The cause, the first cause and the try of a fault are recorded (R216). -/
def faultNoted (s : State) (n c : Nat) : State := ((s.causeBit n c).wr (Reg.DRV_CAUSE_FIRST n) c).oneTry n

/-- What was pending of a leg is dropped as its episode begins. -/
def pendsDropped (s : State) (n : Nat) : State :=
  s.setLeg n { s.leg n with armPend := false, rearmPend := false, waitOver := false, enWait := false }

theorem faultEvent_lt {n : Nat} (hn : n < 6) : Ev.DRV_FAULT n < 192 := by simp only [Ev.DRV_FAULT]; omega

theorem writes_faultNoted (s : State) {n : Nat} (c : Nat) (hn : n < 6) :
    Writes (AmongEv (legFaultFields n)) s (pendsDropped (faultNoted s n c) n) :=
  (((Writes.unit_wr Reg.DRV_CAUSE_CAUSE _ hn (by decide)).trans (Writes.unit_wr Reg.DRV_CAUSE_FIRST c hn (by decide))).trans
    (Writes.unit_wr Reg.DRV_STATE_TRIES _ hn (by decide))).trans Writes.setLeg

theorem writes_faultFromArmed (s : State) {n : Nat} (c : Nat) (hn : n < 6) :
    Writes (AmongEv (legFaultFields n)) s (s.faultFromArmed n c) :=
  (writes_faultNoted s c hn).trans (Writes.raise amongEv_ev (faultEvent_lt hn))

/-- One try, up to the greatest that TRIES holds (R216). -/
theorem rd_oneTry {s : State} {n : Nat} (hs : s.regsOk) (htries : s.rd (Reg.DRV_STATE_TRIES n) < 15) :
    (s.oneTry n).rd (Reg.DRV_STATE_TRIES n) = s.rd (Reg.DRV_STATE_TRIES n) + 1 := by
  have hinc : satInc 15 (s.rd (Reg.DRV_STATE_TRIES n)) = s.rd (Reg.DRV_STATE_TRIES n) + 1 := if_pos htries
  exact (rd_incSat_same _ hs).trans hinc

theorem faultFromArmed_shows {s : State} {n c : Nat} (hn : n < 6) (hc : c < 11) (hs : s.regsOk)
    (htries : s.rd (Reg.DRV_STATE_TRIES n) < 15) :
    (s.faultFromArmed n c).rd (Reg.DRV_CAUSE_FIRST n) = c ∧ hasBit ((s.faultFromArmed n c).rd (Reg.DRV_CAUSE_CAUSE n)) c = true ∧
      (s.faultFromArmed n c).rd (Reg.DRV_STATE_TRIES n) = s.rd (Reg.DRV_STATE_TRIES n) + 1 := by
  have hcause : (s.causeBit n c).regsOk := keysRise_wr _ _ _ hs
  have hfirst : ((s.causeBit n c).wr (Reg.DRV_CAUSE_FIRST n) c).regsOk := keysRise_wr _ _ _ hcause
  have hraise : Writes (AmongEv []) (pendsDropped (faultNoted s n c) n) (s.faultFromArmed n c) :=
    Writes.raise amongEv_ev (faultEvent_lt hn)
  have hcounted : (((s.causeBit n c).wr (Reg.DRV_CAUSE_FIRST n) c)).rd (Reg.DRV_STATE_TRIES n) = s.rd (Reg.DRV_STATE_TRIES n) :=
    (rd_wr_unit_ne Reg.DRV_STATE_TRIES Reg.DRV_CAUSE_FIRST hn (by decide)).trans
      (rd_wr_unit_ne Reg.DRV_STATE_TRIES Reg.DRV_CAUSE_CAUSE hn (by decide))
  refine ⟨?_, ?_, ?_⟩
  · exact (hraise.unit_rd (F := fun _ => []) Reg.DRV_CAUSE_FIRST hn (by decide)).trans
      ((rd_wr_unit_ne Reg.DRV_CAUSE_FIRST Reg.DRV_STATE_TRIES hn (by decide)).trans
        ((rd_wr_same _ _ _ hcause).trans (Nat.mod_eq_of_lt (by change c < 32; omega))))
  · rw [hraise.unit_rd (F := fun _ => []) Reg.DRV_CAUSE_CAUSE hn (by decide)]
    refine (congrArg (hasBit · c) ?_).trans (hasBit_rd_putB (f := Reg.DRV_CAUSE_CAUSE n) true hs hc)
    exact (rd_wr_unit_ne Reg.DRV_CAUSE_CAUSE Reg.DRV_STATE_TRIES hn (by decide)).trans
      (rd_wr_unit_ne Reg.DRV_CAUSE_CAUSE Reg.DRV_CAUSE_FIRST hn (by decide))
  · rw [hraise.unit_rd (F := fun _ => []) Reg.DRV_STATE_TRIES hn (by decide), ← hcounted]
    exact rd_oneTry hfirst (hcounted.trans_lt htries)

/-- The event of a fault is pending whatever the leg does next (R223). -/
theorem raisedIn_faultFromArmed {V : Nat → Prop} {s t : State} {n c : Nat} (h : Writes V (s.faultFromArmed n c) t) (hn : n < 6)
    (hs : s.regsOk) : s.raisedIn t (Ev.DRV_FAULT n) :=
  (writes_faultNoted s c hn).unit_raisedIn h hs (faultEvent_lt hn) hn (by decide)

/-- What a leg waits with: no re-arming pending. -/
def waitBegun (s : State) (n : Nat) : State := s.setLeg n { s.leg n with rearmPend := false, waitOver := false }

theorem waitOrLatch_waits {s : State} {n : Nat} (h : s.rd (Reg.DRV_STATE_TRIES n) ≤ s.rd (Reg.DRV_CFG_RETRY_MAX n)) :
    s.waitOrLatch n = (waitBegun s n).setLegState n legWait := if_pos h

theorem waitOrLatch_latches {s : State} {n : Nat} (h : s.rd (Reg.DRV_CFG_RETRY_MAX n) < s.rd (Reg.DRV_STATE_TRIES n)) :
    s.waitOrLatch n = (s.setLegState n legLatched).raise Ev.DRV_LATCH := if_neg (Nat.not_le.mpr h)

theorem writes_waitOrLatch (s : State) {n : Nat} (hn : n < 6) : Writes (AmongEv (legMoveFields n)) s (s.waitOrLatch n) := by
  have hbegun : Writes (AmongEv (legMoveFields n)) s (waitBegun s n) := Writes.setLeg
  exact Writes.ite (hbegun.trans (writes_setLegState _ _ hn)) ((writes_setLegState _ _ hn).trans (Writes.raise amongEv_ev (by decide)))

/-- More tries than RETRY_MAX latch a leg (R216). -/
theorem waitOrLatch_latches_shows {s : State} {n : Nat} (hn : n < 6) (hs : s.regsOk)
    (h : s.rd (Reg.DRV_CFG_RETRY_MAX n) < s.rd (Reg.DRV_STATE_TRIES n)) :
    (s.waitOrLatch n).legState n = legLatched ∧ hasBit ((s.waitOrLatch n).rd Reg.DRV_STATUS_FAULTED) n = true ∧
      hasBit ((s.waitOrLatch n).rd Reg.DRV_STATUS_LATCHED) n = true ∧ s.raisedIn (s.waitOrLatch n) Ev.DRV_LATCH := by
  obtain ⟨hstate, hfaulted, hlatched⟩ := setLegState_shows (st := legLatched) hn hs (by decide)
  have hraise : Writes (AmongEv []) (s.setLegState n legLatched) ((s.setLegState n legLatched).raise Ev.DRV_LATCH) :=
    Writes.raise amongEv_ev (by decide)
  rw [waitOrLatch_latches h]
  exact ⟨(hraise.unit_rd (F := fun _ => []) Reg.DRV_STATE_STATE hn (by decide)).trans hstate,
    (congrArg (hasBit · n) (hraise.rd _ (by decide))).trans hfaulted, (congrArg (hasBit · n) (hraise.rd _ (by decide))).trans hlatched,
    (writes_setLegState s legLatched hn).unit_raisedIn (Writes.refl (W := fun _ => False)) hs (by decide) hn (by decide)⟩

/-- The latch test: WAIT or LATCHED by the number of tries, FAULTED either way (R216, R218). -/
theorem waitOrLatch_shows {s : State} {n : Nat} (hn : n < 6) (hs : s.regsOk) :
    (s.waitOrLatch n).legState n =
        (if s.rd (Reg.DRV_STATE_TRIES n) ≤ s.rd (Reg.DRV_CFG_RETRY_MAX n) then legWait else legLatched) ∧
      hasBit ((s.waitOrLatch n).rd Reg.DRV_STATUS_FAULTED) n = true := by
  by_cases h : s.rd (Reg.DRV_STATE_TRIES n) ≤ s.rd (Reg.DRV_CFG_RETRY_MAX n)
  · obtain ⟨hstate, hfaulted, _⟩ := setLegState_shows (s := waitBegun s n) (st := legWait) hn hs (by decide)
    rw [waitOrLatch_waits h, if_pos h]
    exact ⟨hstate, hfaulted⟩
  · obtain ⟨hstate, hfaulted, _⟩ := waitOrLatch_latches_shows hn hs (Nat.lt_of_not_le h)
    rw [if_neg h]
    exact ⟨hstate, hfaulted⟩

/-- With no cause present the retry wait ends in a re-arming that waits for both commands off (R216). -/
theorem retryWaitEnd_rearms {s : State} {n : Nat} (hst : s.legState n = legWait) (hpresent : s.legPresent n = false)
    (hlink : s.on (Reg.DRV_STATE_LINK_OK n) = true) (hcut : s.on (Reg.DRV_STATE_EN_CUT n) = false) :
    s.retryWaitEnd n = s.setLeg n { s.leg n with rearmPend := true } :=
  (if_pos hst).trans ((if_neg (by simp [hpresent, hlink])).trans (if_neg (ne_true_of_eq_false hcut)))

/-- DSAT_H of an armed leg whose gate is on begins the soft turn-off (R212, R216). -/
theorem dsatOc_armed {s : State} {n : Nat} (hst : s.legState n = legArmed) (hen : s.on (Reg.DRV_CFG_DSAT_EN_H n) = true)
    (hhold : s.on (Reg.DRV_STATE_BS_HOLD n) = false) : s.dsatOc n 0 true = (s.faultFromArmed n 0).setLegState n legSoftOff := by
  simp only [dsatOc, hen, hhold]
  exact if_pos hst

theorem dsatOc_shows {s : State} {n : Nat} (hn : n < 6) (hs : s.regsOk) (hst : s.legState n = legArmed)
    (hen : s.on (Reg.DRV_CFG_DSAT_EN_H n) = true) (hhold : s.on (Reg.DRV_STATE_BS_HOLD n) = false)
    (htries : s.rd (Reg.DRV_STATE_TRIES n) < 15) :
    (s.dsatOc n 0 true).legState n = legSoftOff ∧ (s.dsatOc n 0 true).rd (Reg.DRV_CAUSE_FIRST n) = 0 ∧
      hasBit ((s.dsatOc n 0 true).rd (Reg.DRV_CAUSE_CAUSE n)) 0 = true ∧
      (s.dsatOc n 0 true).rd (Reg.DRV_STATE_TRIES n) = s.rd (Reg.DRV_STATE_TRIES n) + 1 ∧
      s.raisedIn (s.dsatOc n 0 true) (Ev.DRV_FAULT n) := by
  obtain ⟨hfirst, hcause, hcount⟩ := faultFromArmed_shows (c := 0) hn (by decide) hs htries
  have hmove := writes_setLegState (s.faultFromArmed n 0) legSoftOff hn
  rw [dsatOc_armed hst hen hhold]
  refine ⟨legState_setLegState hn ((writes_faultFromArmed s 0 hn).regsOk hs) (by decide),
    (hmove.unit_rd Reg.DRV_CAUSE_FIRST hn (by decide)).trans hfirst, ?_,
    (hmove.unit_rd Reg.DRV_STATE_TRIES hn (by decide)).trans hcount, raisedIn_faultFromArmed hmove hn hs⟩
  rw [hmove.unit_rd Reg.DRV_CAUSE_CAUSE hn (by decide)]
  exact hcause

/-- A detector has tripped (R210). -/
def detectorTripped (s : State) (n c : Nat) : State := s.setLeg n { s.leg n with present := setBit (s.leg n).present c }

/-- A fault of an armed leg by a detector that is a leg fault with and without bootstrap (R211). -/
theorem legFault_armed {s : State} {n c : Nat} (h4 : 4 ≤ c) (h8 : c ≤ 8) (hst : s.legState n = legArmed) :
    s.legFault n c = ((detectorTripped s n c).faultFromArmed n c).waitOrLatch n := by
  have hdetector : (decide (3 ≤ c) && decide (c ≤ 8)) = true := by simp; omega
  have hnot3 : ¬ (decide (c = 3) && (detectorTripped s n c).on (Reg.DRV_CFG_BOOT n)) = true := by simp; omega
  simp only [legFault, hdetector, when_true]
  exact (if_neg hnot3).trans (if_pos hst)

theorem legFault_shows {s : State} {n c : Nat} (hn : n < 6) (h4 : 4 ≤ c) (h8 : c ≤ 8) (hs : s.regsOk) (hst : s.legState n = legArmed)
    (htries : s.rd (Reg.DRV_STATE_TRIES n) < 15) :
    (s.legFault n c).legState n = (if s.rd (Reg.DRV_STATE_TRIES n) < s.rd (Reg.DRV_CFG_RETRY_MAX n) then legWait else legLatched) ∧
      (s.legFault n c).rd (Reg.DRV_CAUSE_FIRST n) = c ∧ hasBit ((s.legFault n c).rd (Reg.DRV_CAUSE_CAUSE n)) c = true ∧
      hasBit ((s.legFault n c).rd Reg.DRV_STATUS_FAULTED) n = true ∧
      (s.legFault n c).rd (Reg.DRV_STATE_TRIES n) = s.rd (Reg.DRV_STATE_TRIES n) + 1 ∧
      s.raisedIn (s.legFault n c) (Ev.DRV_FAULT n) := by
  have hfault := writes_faultFromArmed (detectorTripped s n c) c hn
  have hmove := writes_waitOrLatch ((detectorTripped s n c).faultFromArmed n c) hn
  obtain ⟨hfirst, hcause, hcount⟩ := faultFromArmed_shows (s := detectorTripped s n c) (c := c) hn (by omega) hs htries
  obtain ⟨hstate, hfaulted⟩ := waitOrLatch_shows hn (hfault.regsOk hs)
  have hmax : ((detectorTripped s n c).faultFromArmed n c).rd (Reg.DRV_CFG_RETRY_MAX n) = s.rd (Reg.DRV_CFG_RETRY_MAX n) :=
    hfault.unit_rd Reg.DRV_CFG_RETRY_MAX hn (by decide)
  rw [legFault_armed h4 h8 hst]
  refine ⟨?_, (hmove.unit_rd Reg.DRV_CAUSE_FIRST hn (by decide)).trans hfirst, ?_, hfaulted,
    (hmove.unit_rd Reg.DRV_STATE_TRIES hn (by decide)).trans hcount, raisedIn_faultFromArmed (s := detectorTripped s n c) hmove hn hs⟩
  · rw [hstate, hcount, hmax]
    rfl
  · rw [hmove.unit_rd Reg.DRV_CAUSE_CAUSE hn (by decide)]
    exact hcause

/-! ### Clear (R217) -/

/-- What an accepted CLEAR leaves: no try, no first cause, ARM 0 (R216). -/
def episodeEnded (s : State) (n : Nat) : State :=
  ((s.wr (Reg.DRV_STATE_TRIES n) 0).wr (Reg.DRV_CAUSE_FIRST n) 31).wr (Reg.DRV_CFG_ARM n) 0

theorem legClear_accepted {s : State} {n : Nat} (hst : s.legState n = legLatched) (hpresent : s.legPresent n = false)
    (hlink : s.on (Reg.DRV_STATE_LINK_OK n) = true) : s.legClear n = (episodeEnded s n).setLegState n legOff :=
  (if_pos hst).trans (if_neg (by simp [hpresent, hlink]))

theorem legClear_refused {s : State} {n : Nat} (hst : s.legState n = legLatched) (hpresent : s.legPresent n = true) :
    s.legClear n = s.wr Reg.DRV_FLAGS_CLEAR_REFUSED 1 := (if_pos hst).trans (if_pos (by simp [hpresent]))

theorem legClear_shows {s : State} {n : Nat} (hn : n < 6) (hs : s.regsOk) (hst : s.legState n = legLatched)
    (hpresent : s.legPresent n = false) (hlink : s.on (Reg.DRV_STATE_LINK_OK n) = true) :
    (s.legClear n).legState n = legOff ∧ (s.legClear n).rd (Reg.DRV_STATE_TRIES n) = 0 ∧ (s.legClear n).rd (Reg.DRV_CAUSE_FIRST n) = 31 ∧
      (s.legClear n).rd (Reg.DRV_CFG_ARM n) = 0 ∧ hasBit ((s.legClear n).rd Reg.DRV_STATUS_LATCHED) n = false := by
  have htries : (s.wr (Reg.DRV_STATE_TRIES n) 0).regsOk := keysRise_wr _ _ _ hs
  have hfirst : ((s.wr (Reg.DRV_STATE_TRIES n) 0).wr (Reg.DRV_CAUSE_FIRST n) 31).regsOk := keysRise_wr _ _ _ htries
  have hmove := writes_setLegState (episodeEnded s n) legOff hn
  obtain ⟨hstate, _, hlatched⟩ := setLegState_shows (s := episodeEnded s n) (st := legOff) hn (keysRise_wr _ _ _ hfirst) (by decide)
  rw [legClear_accepted hst hpresent hlink]
  refine ⟨hstate, (hmove.unit_rd Reg.DRV_STATE_TRIES hn (by decide)).trans ?_, (hmove.unit_rd Reg.DRV_CAUSE_FIRST hn (by decide)).trans ?_,
    (hmove.unit_rd Reg.DRV_CFG_ARM hn (by decide)).trans (rd_wr_same _ _ _ hfirst), hlatched⟩
  · exact (rd_wr_unit_ne Reg.DRV_STATE_TRIES Reg.DRV_CFG_ARM hn (by decide)).trans
      ((rd_wr_unit_ne Reg.DRV_STATE_TRIES Reg.DRV_CAUSE_FIRST hn (by decide)).trans (rd_wr_same _ _ _ hs))
  · exact (rd_wr_unit_ne Reg.DRV_CAUSE_FIRST Reg.DRV_CFG_ARM hn (by decide)).trans (rd_wr_same _ _ _ htries)

/-- MC may write the registers of a leg while no core pair is active (R46, R217). -/
theorem right_mc_leg {s : State} {n off : Nat} (hn : n < 6) (hoff : off < 0x80) (hrun : s.cpRun = false) :
    s.right .mc (legAddr n off) .cr = .allow := by
  have hwindow : windowOf (legAddr n off) = .control := windowOf_control (by simp only [legAddr]; omega) (by simp only [legAddr]; omega)
  simp only [State.right, hwindow, mcRight, hrun]
  rfl

end Sys2Proof.Machine
end

section
/-! SUPPORT. The states of a drive leg (R211 to R221), command by command, the loss of its path (R67), and the overlap of a PWM pair
(R187). -/

set_option Elab.async false

open Sys2Proof.Machine.State

namespace Sys2Proof.Machine

/-! ### The path of a leg (R67, R222) -/

/-- A lost link is no fault of a leg in OFF (R222). -/
theorem legFault_link_off {s : State} {n : Nat} (hst : s.legState n = legOff) : s.legFault n 9 = s := by simp [legFault, hst]

/-- The loss of the path of a leg in OFF shows in LINK_OK alone (R222). -/
theorem pathTimeout_off {s : State} {n : Nat} (tested pass : Nat) (hn : n < 6) (hst : s.legState n = legOff) :
    s.pathTimeout n tested pass = s.setLinkOk n false := by
  have hoff : (s.setLinkOk n false).legState n = legOff :=
    (legState_setLinkOk false hn).trans hst
  have habort : (s.setLinkOk n false).testAbort n tested pass = s.setLinkOk n false := if_neg (by rw [hoff]; decide)
  rw [pathTimeout, habort, legFault_link_off hoff]

/-! ### The overlap of a pair (R187) -/

/-- The registers that an overlap of a pair writes (R187, R199). -/
abbrev overlapFields (p : Nat) : List Fld :=
  [Reg.PWM_FLAGS_XLOCK, Reg.PWM_XLOCK_LAST_PAIR, Reg.PWM_XLOCK_LAST_COUNT, Reg.PR_STATUS_XLOCK_TURN p]

/-- The flag, the event and the last pair of an overlap are noted and the overlap counted. -/
def overlapNoted (s : State) (p : Nat) : State :=
  ((s.flagRaise Reg.PWM_FLAGS_XLOCK Ev.PWM_XLOCK).wr Reg.PWM_XLOCK_LAST_PAIR p).incSat Reg.PWM_XLOCK_LAST_COUNT

/-- An overlap counted in its turn. -/
def overlapCounted (s : State) (p : Nat) : State := (overlapNoted s p).incSat (Reg.PR_STATUS_XLOCK_TURN p)

theorem writes_overlapNoted (s : State) {p : Nat} (hp : p < 24) : Writes (AmongEv (overlapFields p)) s (overlapNoted s p) :=
  (((Writes.unit_wr (fun _ => Reg.PWM_FLAGS_XLOCK) 1 hp (by decide)).trans (Writes.raise amongEv_ev (by decide))).trans
    (Writes.unit_wr (fun _ => Reg.PWM_XLOCK_LAST_PAIR) p hp (by decide))).trans
    (Writes.unit_wr (fun _ => Reg.PWM_XLOCK_LAST_COUNT) _ hp (by decide))

theorem writes_overlapCounted (s : State) {p : Nat} (hp : p < 24) : Writes (AmongEv (overlapFields p)) s (overlapCounted s p) :=
  (writes_overlapNoted s hp).trans (Writes.unit_wr Reg.PR_STATUS_XLOCK_TURN _ hp (by decide))

/-- What an overlap shows (R187). -/
theorem overlapCounted_shows {s : State} {p : Nat} (hp : p < 24) (hs : s.regsOk) (hturn : s.rd (Reg.PR_STATUS_XLOCK_TURN p) < 7) :
    (overlapCounted s p).rd Reg.PWM_FLAGS_XLOCK = 1 ∧ (overlapCounted s p).rd Reg.PWM_XLOCK_LAST_PAIR = p ∧
      (overlapCounted s p).rd (Reg.PR_STATUS_XLOCK_TURN p) = s.rd (Reg.PR_STATUS_XLOCK_TURN p) + 1 ∧
      s.raisedIn (overlapCounted s p) Ev.PWM_XLOCK := by
  have hflag : (s.wr Reg.PWM_FLAGS_XLOCK 1).regsOk := keysRise_wr _ _ _ hs
  have hraise : (s.flagRaise Reg.PWM_FLAGS_XLOCK Ev.PWM_XLOCK).regsOk := regsOk_raise _ hflag
  have hnoted := writes_overlapNoted s hp
  have hkept : (overlapNoted s p).rd (Reg.PR_STATUS_XLOCK_TURN p) = s.rd (Reg.PR_STATUS_XLOCK_TURN p) := by
    refine (rd_wr_unit_ne Reg.PR_STATUS_XLOCK_TURN (fun _ => Reg.PWM_XLOCK_LAST_COUNT) hp (by decide)).trans ?_
    refine (rd_wr_unit_ne Reg.PR_STATUS_XLOCK_TURN (fun _ => Reg.PWM_XLOCK_LAST_PAIR) hp (by decide)).trans ?_
    refine (rd_raise _ _ (by decide) _ (by simp only [evKey, Fld.key]; omega)).trans ?_
    exact rd_wr_unit_ne Reg.PR_STATUS_XLOCK_TURN (fun _ => Reg.PWM_FLAGS_XLOCK) hp (by decide)
  have hinc : satInc 15 (s.rd (Reg.PR_STATUS_XLOCK_TURN p)) = s.rd (Reg.PR_STATUS_XLOCK_TURN p) + 1 := if_pos (by omega)
  have hcount (f : Fld) (hf : f.key < 0x40010700 * 32) : (overlapCounted s p).rd f = (overlapNoted s p).rd f :=
    rd_wr_ne _ _ (by simp only [Fld.key] at *; omega)
  refine ⟨?_, ?_, ?_, ?_⟩
  · refine (hcount _ (by decide)).trans ((rd_wr_ne _ _ (by decide)).trans ((rd_wr_ne _ _ (by decide)).trans ?_))
    exact rd_flagRaise_same hs (by decide) (by decide)
  · refine (hcount _ (by decide)).trans ((rd_wr_ne _ _ (by decide)).trans (rd_wr_lt hraise ?_))
    exact hp.trans (by decide)
  · rw [overlapCounted, rd_incSat_same _ (hnoted.regsOk hs), hkept]
    exact hinc
  · have hend : Writes (AmongEv (overlapFields p)) ((s.wr Reg.PWM_FLAGS_XLOCK 1).raise Ev.PWM_XLOCK) (overlapCounted s p) :=
      ((Writes.unit_wr (fun _ => Reg.PWM_XLOCK_LAST_PAIR) p hp (by decide)).trans
        (Writes.unit_wr (fun _ => Reg.PWM_XLOCK_LAST_COUNT) _ hp (by decide))).trans
        (Writes.unit_wr Reg.PR_STATUS_XLOCK_TURN _ hp (by decide))
    exact (Writes.unit_wr (F := overlapFields) (fun _ => Reg.PWM_FLAGS_XLOCK) 1 hp (by decide)).unit_raisedIn hend hs (by decide) hp
      (by decide)

/-- An overlap before the eighth of its turn is counted and no more (R187). -/
theorem interlock_counts {s : State} {p : Nat} (hp : p < 24) (hs : s.regsOk) (hesc : hasBit (s.rd Reg.PWM_ESC_PAIRS) p = false)
    (hturn : s.rd (Reg.PR_STATUS_XLOCK_TURN p) < 7) : s.interlock p = overlapCounted s p := by
  obtain ⟨_, _, hcount, _⟩ := overlapCounted_shows hp hs hturn
  exact (if_neg (ne_true_of_eq_false hesc)).trans (if_pos (hcount.trans_lt (by omega)))

theorem interlock_escalated {s : State} {p : Nat} (hesc : hasBit (s.rd Reg.PWM_ESC_PAIRS) p = true) : s.interlock p = s := if_pos hesc

/-- An overlap that does not escalate its pair reports nothing to a leg (R187, R215). -/
theorem exec_pwmInterlock_unreported {s t : State} {p : Nat} (hp : p < 24) (ht : s.interlock p = t)
    (hesc : hasBit (t.rd Reg.PWM_ESC_PAIRS) p = hasBit (s.rd Reg.PWM_ESC_PAIRS) p) : exec (.pwmInterlock p) s = .next t := by
  subst ht
  refine congrArg Host.Outcome.next ((if_pos hp).trans (if_neg ?_))
  rw [hesc]
  simp

/-! ### The statement -/

/-- Settles O15: each command is its operation on the leg, and each move by what the leg shows after it. -/
theorem driveLegStatesMove : Obligations.DriveLegStatesMove := by
  refine ⟨fun s m n hn hs hr hrun hst => ?_, fun s m n a b hn hr hrun => ⟨?_, ?_⟩, fun s m n a b hn hs hr hrun => ?_,
    fun s n hn hs hsh hst => ?_, fun s n hn hs hst hfrom hsel => ?_, fun s m n hn hs hsh hr hst hsel => ?_,
    fun s m n hn hr hst => ?_, fun s m n hn hr hst => ⟨fun harm => ?_, fun harm => ?_⟩, fun s n hn hs hsh hst hpend harm => ?_,
    fun s m n hn hs hr hst => ?_, fun s n hn hs hst hen hhold htries => ?_, fun s n c hn h4 h8 hs hst htries => ?_,
    fun s n hn hs hst hmax => ?_, fun s n hn hst hpresent hlink hcut => ?_, fun s n hn hst => ?_,
    fun s n hn hs hrun hst hpresent hlink => ?_, fun s n hn hrun hst hpresent => ?_, fun s n a b hn hs hst => ?_,
    fun s p hp hs hesc hturn => ?_, fun s p hp hesc => ?_⟩
  · have hexec : exec (.drvLegUse m n) s = .next (s.acked.legUse n) := congrArg Host.Outcome.next (unitAccess_allow hn hr)
    obtain ⟨hstate, hused⟩ := legUse_shows (s := s.acked) hn hs hrun hst
    exact ⟨_, hexec, hstate, hused, (kp_execDrvLegUse _ _ _ _ hexec).memsSame (by decide)⟩
  · exact congrArg Host.Outcome.next ((unitAccess_allow hn hr).trans (if_pos hrun))
  · exact congrArg Host.Outcome.next ((unitAccess_allow hn hr).trans (if_pos hrun))
  · have hexec : exec (.drvLegUnuse m n a b) s = .next (s.acked.legUnuse n a b) :=
      congrArg Host.Outcome.next (unitAccess_allow hn hr)
    obtain ⟨hstate, hused, harm, hlink⟩ := legUnuse_shows (s := s.acked) a b hn hs hrun
    exact ⟨_, hexec, hstate, hused, harm, hlink, (kp_execDrvLegUnuse _ _ _ _ _ _ hexec).memsSame (by decide)⟩
  · have hexec : exec (.drvInitDone n) s = .next ((s.setLinkOk n true).testBegin n 511) :=
      congrArg Host.Outcome.next ((if_pos hn).trans (if_pos hst))
    have hlink := writes_setLinkOk s true hn
    have hinit : (s.setLinkOk n true).legState n = legInit := (legState_setLinkOk true hn).trans hst
    obtain ⟨hstate, hbusy, hsel, hfrom⟩ := testBegin_shows 511 hn (hlink.regsOk hs) ((kp_setLinkOk s n true).shaped hsh)
    refine ⟨_, hexec, hstate, ?_, hbusy, hsel, hfrom.trans hinit, (kp_execDrvInitDone _ _ _ hexec).memsSame (by decide)⟩
    rw [(writes_testBegin _ 511 hn).unit_rd Reg.DRV_STATE_LINK_OK hn (by decide)]
    exact (setLinkOk_shows true hn hs).1
  · have hexec : exec (.drvTestDone n 511) s = .next (s.testEnd n 511 511) := congrArg Host.Outcome.next (if_pos hn)
    obtain ⟨hstate, hok, hpass, hbusy, hev⟩ := testEnd_boot_shows hn hs hst hfrom hsel
    exact ⟨_, hexec, hstate, hok, hpass, hbusy, hev, (kp_execDrvTestDone _ _ _ _ hexec).memsSame (by decide)⟩
  · have hbegin : s.acked.testStart n = s.acked.testBegin n (s.rd (Reg.DRV_TEST_CMD_SEL n)) := testStart_off (s := s.acked) hst hsel
    have hexec : exec (.drvTestStart m n) s = .next (s.acked.testBegin n (s.rd (Reg.DRV_TEST_CMD_SEL n))) :=
      congrArg Host.Outcome.next ((unitAccess_allow hn hr).trans hbegin)
    obtain ⟨hstate, hbusy, hsel', _⟩ := testBegin_shows (s := s.acked) (s.rd (Reg.DRV_TEST_CMD_SEL n)) hn hs (shaped_acked hsh)
    exact ⟨_, hexec, hstate, hsel', hbusy, (kp_execDrvTestStart _ _ _ _ hexec).memsSame (by decide)⟩
  · exact congrArg Host.Outcome.next ((unitAccess_allow hn hr).trans (testStart_armed (s := s.acked) hst))
  · exact congrArg Host.Outcome.next ((unitAccess_allow hn hr).trans (legArm_armable (s := s.acked) hst harm))
  · exact congrArg Host.Outcome.next ((unitAccess_allow hn hr).trans (legArm_refused (s := s.acked) hst harm))
  · have hexec : exec (.drvArmEngage n) s = .next (s.legEngage n) :=
      congrArg Host.Outcome.next ((if_pos hn).trans (bothOff_arms hst hpend harm))
    obtain ⟨hstate, hdone⟩ := legEngage_shows hn hs hsh
    exact ⟨_, hexec, hstate, hdone, (kp_execDrvArmEngage _ _ _ hexec).memsSame (by decide)⟩
  · have hexec : exec (.drvDisarm m n) s = .next (s.acked.legDisarm n) := congrArg Host.Outcome.next (unitAccess_allow hn hr)
    obtain ⟨hstate, harm⟩ := legDisarm_shows (s := s.acked) hn hs hst
    exact ⟨_, hexec, hstate, harm, (kp_execDrvDisarm _ _ _ _ hexec).memsSame (by decide)⟩
  · have hexec : exec (.drvDsatOc n 0 true) s = .next (s.dsatOc n 0 true) := congrArg Host.Outcome.next (if_pos (by simp [hn]))
    obtain ⟨hstate, hfirst, hcause, hcount, hev⟩ := dsatOc_shows hn hs hst hen hhold htries
    exact ⟨_, hexec, hstate, hfirst, hcause, hcount, hev, (kp_execDrvDsatOc _ _ _ _ _ hexec).memsSame (by decide)⟩
  · have hexec : exec (.drvLegFault n c) s = .next (s.legFault n c) :=
      congrArg Host.Outcome.next (if_pos (by simp [hn, h8, hst]; omega))
    obtain ⟨hstate, hfirst, hcause, hfaulted, hcount, hev⟩ := legFault_shows hn h4 h8 hs hst htries
    exact ⟨_, hexec, hstate, hfirst, hcause, hfaulted, hcount, hev, (kp_execDrvLegFault _ _ _ _ hexec).memsSame (by decide)⟩
  · have hexec : exec (.drvSoftoffEnd n) s = .next (s.waitOrLatch n) := congrArg Host.Outcome.next ((if_pos hn).trans (if_pos hst))
    obtain ⟨hstate, _, hlatched, hev⟩ := waitOrLatch_latches_shows hn hs hmax
    exact ⟨_, hexec, hstate, hlatched, hev, (kp_execDrvSoftoffEnd _ _ _ hexec).memsSame (by decide)⟩
  · exact congrArg Host.Outcome.next ((if_pos hn).trans (retryWaitEnd_rearms hst hpresent hlink hcut))
  · exact congrArg Host.Outcome.next (if_pos (by simp [hn, hst]))
  · have hexec : exec (.drvCmdClear .mc n) s = .next (s.acked.legClear n) :=
      congrArg Host.Outcome.next (unitAccess_allow hn (right_mc_leg hn (by decide) hrun))
    obtain ⟨hstate, htries, hfirst, harm, hlatched⟩ := legClear_shows (s := s.acked) hn hs hst hpresent hlink
    exact ⟨_, hexec, hstate, htries, hfirst, harm, hlatched, (kp_execDrvCmdClear _ _ _ _ hexec).memsSame (by decide)⟩
  · exact congrArg Host.Outcome.next
      ((unitAccess_allow hn (right_mc_leg hn (by decide) hrun)).trans (legClear_refused (s := s.acked) hst hpresent))
  · have hexec : exec (.drivePathTimeout n a b) s = .next (s.setLinkOk n false) :=
      congrArg Host.Outcome.next ((if_pos (by simp [hn, hst])).trans (pathTimeout_off a b hn hst))
    have hlink := writes_setLinkOk s false hn
    obtain ⟨hstate, hstatus⟩ := setLinkOk_shows false hn hs
    exact ⟨_, hexec, hstate, hstatus, (legState_setLinkOk false hn).trans hst, hlink.regsBut,
      (kp_execDrivePathTimeout _ _ _ _ _ hexec).memsSame (by decide)⟩
  · have hcounts := interlock_counts hp hs hesc hturn
    have hkept : (overlapCounted s p).rd Reg.PWM_ESC_PAIRS = s.rd Reg.PWM_ESC_PAIRS :=
      (writes_overlapCounted s hp).unit_rd (fun _ => Reg.PWM_ESC_PAIRS) hp (by decide)
    have hexec := exec_pwmInterlock_unreported hp hcounts (by rw [hkept])
    obtain ⟨hflag, hlast, hcount, hev⟩ := overlapCounted_shows hp hs hturn
    exact ⟨_, hexec, hflag, hlast, hcount, hev, (kp_execPwmInterlock _ _ _ hexec).memsSame (by decide)⟩
  · exact exec_pwmInterlock_unreported hp (interlock_escalated hesc) rfl

end Sys2Proof.Machine
end

section
/-! SUPPORT. The reports of the drive dies and their enable (R203 to R224): the enable line, the die interlock, bootstrap, the measured
transitions, the status frames and the counters. -/

set_option Elab.async false

open Sys2Proof.Machine.State

namespace Sys2Proof.Machine

/-! ### The enable of a die (R213) -/

/-- The registers that show a cut enable (R224). -/
abbrev cutFields (n : Nat) : List Fld := [Reg.DRV_STATE_EN_CUT n, Reg.DRV_STATUS_EN_CUT]

/-- A cut enable shows and raises its event, where it was not cut (R213). -/
theorem enableCut_once {s : State} {n : Nat} (hn : n < 6) (h : s.on (Reg.DRV_STATE_EN_CUT n) = false) :
    s.enableCut n = ((s.wr (Reg.DRV_STATE_EN_CUT n) 1).wr Reg.DRV_STATUS_EN_CUT (setBit (s.rd Reg.DRV_STATUS_EN_CUT) n)).raise
      Ev.DRV_EN_CUT := by
  have hshown : (s.wr (Reg.DRV_STATE_EN_CUT n) 1).rd Reg.DRV_STATUS_EN_CUT = s.rd Reg.DRV_STATUS_EN_CUT :=
    rd_wr_unit_ne (fun _ => Reg.DRV_STATUS_EN_CUT) Reg.DRV_STATE_EN_CUT hn (by decide)
  rw [enableCut, if_neg (ne_true_of_eq_false h), setB_eq, hshown]

/-- The registers of an enable that is no longer cut. -/
def cutEnded (s : State) (n : Nat) : State := (s.wr (Reg.DRV_STATE_EN_CUT n) 0).clrB Reg.DRV_STATUS_EN_CUT n

/-- The leg whose enable has returned: it waits for both commands off, and re-arms where its wait is over (R213, R222). -/
def legReturned (s : State) (n : Nat) : DrvLeg :=
  { s.leg n with enWait := true, waitOver := false,
                 rearmPend := (s.leg n).rearmPend || ((s.leg n).waitOver && !s.legPresent n && s.on (Reg.DRV_STATE_LINK_OK n)) }

theorem enableReturn_cut {s : State} {n : Nat} (h : s.on (Reg.DRV_STATE_EN_CUT n) = true) : s.enableReturn n =
    ((cutEnded s n).raise Ev.DRV_EN_CUT).setLeg n (legReturned ((cutEnded s n).raise Ev.DRV_EN_CUT) n) := if_pos h

theorem writes_cutEnded (s : State) {n : Nat} (hn : n < 6) : Writes (AmongEv (cutFields n)) s (cutEnded s n) :=
  (Writes.unit_wr Reg.DRV_STATE_EN_CUT 0 hn (by decide)).trans (Writes.unit_wr (fun _ => Reg.DRV_STATUS_EN_CUT) _ hn (by decide))

/-- A returned enable (R213). -/
theorem enableReturn_shows {s : State} {n : Nat} (hn : n < 6) (hs : s.regsOk) (hsh : s.Shaped)
    (hcut : s.on (Reg.DRV_STATE_EN_CUT n) = true) :
    (s.enableReturn n).rd (Reg.DRV_STATE_EN_CUT n) = 0 ∧ hasBit ((s.enableReturn n).rd Reg.DRV_STATUS_EN_CUT) n = false ∧
      ((s.enableReturn n).leg n).enWait = true ∧ s.raisedIn (s.enableReturn n) Ev.DRV_EN_CUT ∧
      s.regsButEv (s.enableReturn n) (cutFields n) := by
  have hstate : (s.wr (Reg.DRV_STATE_EN_CUT n) 0).regsOk := keysRise_wr _ _ _ hs
  have hended := writes_cutEnded s hn
  have hraise {W : Nat → Prop} (hW : ∀ k, evKey k → W k) : Writes W (cutEnded s n) ((cutEnded s n).raise Ev.DRV_EN_CUT) :=
    Writes.raise hW (by decide)
  have hshaped : ((cutEnded s n).raise Ev.DRV_EN_CUT).Shaped := (kp_raise _ _).shaped (shaped_wr (shaped_wr hsh))
  rw [enableReturn_cut hcut]
  refine ⟨?_, ?_, by rw [leg_setLeg_same _ hshaped hn]; rfl, ?_, ((hended.trans (hraise amongEv_ev)).trans Writes.setLeg).regsButEv⟩
  · refine ((hraise (W := evKey) fun _ => id).rd _ (by simp only [evKey, Fld.key]; omega)).trans ?_
    exact (rd_wr_unit_ne Reg.DRV_STATE_EN_CUT (fun _ => Reg.DRV_STATUS_EN_CUT) hn (by decide)).trans (rd_wr_same _ _ _ hs)
  · refine (congrArg (hasBit · n) ((hraise (W := evKey) fun _ => id).rd _ (by decide))).trans ?_
    exact hasBit_rd_putB false hstate hn
  · exact hended.unit_raisedIn (Writes.setLeg (W := evKey)) hs (by decide) hn (by decide)

/-! ### The die interlock (R214, R215) -/

/-- The registers that count the interlock events of a die (R215). -/
abbrev dieXlockFields (n : Nat) : List Fld := [Reg.DRV_XLOCK_TURN n, Reg.DRV_XLOCK_COUNT n]

/-- Both gates of a leg wait for their next rise (R214). -/
def gatesWait (s : State) (n : Nat) : State := s.setLeg n { s.leg n with waitH := true, waitL := true }

/-- An interlock event is raised and counted. -/
def dieXlockCounted (s : State) (n : Nat) : State :=
  (((gatesWait s n).raise Ev.DRV_XLOCK).incSat (Reg.DRV_XLOCK_TURN n)).incSat (Reg.DRV_XLOCK_COUNT n)

theorem writes_dieXlockCounted (s : State) {n : Nat} (hn : n < 6) :
    Writes (AmongEv (dieXlockFields n)) ((gatesWait s n).raise Ev.DRV_XLOCK) (dieXlockCounted s n) :=
  (Writes.unit_wr Reg.DRV_XLOCK_TURN _ hn (by decide)).trans (Writes.unit_wr Reg.DRV_XLOCK_COUNT _ hn (by decide))

theorem rd_dieXlockCounted {s : State} {n : Nat} (hn : n < 6) (hs : s.regsOk) (hturn : s.rd (Reg.DRV_XLOCK_TURN n) < 7) :
    (dieXlockCounted s n).rd (Reg.DRV_XLOCK_TURN n) = s.rd (Reg.DRV_XLOCK_TURN n) + 1 := by
  have hraise : ((gatesWait s n).raise Ev.DRV_XLOCK).regsOk := regsOk_raise _ hs
  have hkept : ((gatesWait s n).raise Ev.DRV_XLOCK).rd (Reg.DRV_XLOCK_TURN n) = s.rd (Reg.DRV_XLOCK_TURN n) :=
    rd_raise _ _ (by decide) _ (by simp only [evKey, Fld.key]; omega)
  have hinc : satInc 15 (s.rd (Reg.DRV_XLOCK_TURN n)) = s.rd (Reg.DRV_XLOCK_TURN n) + 1 := if_pos (by omega)
  rw [dieXlockCounted, incSat_eq _ (Reg.DRV_XLOCK_COUNT n), rd_wr_unit_ne Reg.DRV_XLOCK_TURN Reg.DRV_XLOCK_COUNT hn (by decide),
    rd_incSat_same _ hraise, hkept]
  exact hinc

/-- An interlock event before the eighth of its turn is counted and no more (R215). -/
theorem dieInterlock_counts {s : State} {n : Nat} (hn : n < 6) (hs : s.regsOk) (hst : s.legState n = legArmed)
    (hturn : s.rd (Reg.DRV_XLOCK_TURN n) < 7) : s.dieInterlock n = dieXlockCounted s n := by
  have hnot : ¬ (dieXlockCounted s n).rd (Reg.DRV_XLOCK_TURN n) = 8 := by rw [rd_dieXlockCounted hn hs hturn]; omega
  exact (if_pos hst).trans (if_neg hnot)

theorem dieInterlock_shows {s : State} {n : Nat} (hn : n < 6) (hs : s.regsOk) (hsh : s.Shaped) (hst : s.legState n = legArmed)
    (hturn : s.rd (Reg.DRV_XLOCK_TURN n) < 7) :
    ((s.dieInterlock n).leg n).waitH = true ∧ ((s.dieInterlock n).leg n).waitL = true ∧
      (s.dieInterlock n).rd (Reg.DRV_XLOCK_TURN n) = s.rd (Reg.DRV_XLOCK_TURN n) + 1 ∧ (s.dieInterlock n).legState n = legArmed ∧
      s.raisedIn (s.dieInterlock n) Ev.DRV_XLOCK ∧ s.regsButEv (s.dieInterlock n) (dieXlockFields n) := by
  have hleg : (dieXlockCounted s n).leg n = { s.leg n with waitH := true, waitL := true } :=
    (raise_leg _ _ _).trans (leg_setLeg_same _ hsh hn)
  have hwait : Writes (AmongEv (dieXlockFields n)) s (gatesWait s n) := Writes.setLeg
  have hcount := writes_dieXlockCounted s hn
  have hframe : Writes (AmongEv (dieXlockFields n)) s (dieXlockCounted s n) :=
    (hwait.trans (Writes.raise amongEv_ev (by decide))).trans hcount
  rw [dieInterlock_counts hn hs hst hturn, hleg]
  exact ⟨rfl, rfl, rd_dieXlockCounted hn hs hturn, (hframe.unit_rd Reg.DRV_STATE_STATE hn (by decide)).trans hst,
    hwait.unit_raisedIn hcount hs (by decide) hn (by decide), hframe.regsButEv⟩

/-! ### Status frames (R204, R206, R210) -/

/-- The registers that a status frame updates beside the link (R224). -/
abbrev frameFields (n : Nat) : List Fld :=
  [Reg.DRV_STATE_VBS n, Reg.DRV_STATE_VPL n, Reg.DRV_PLATEAU_VLO n, Reg.DRV_PLATEAU_VHI n, Reg.DRV_TEMP_TJ_H n, Reg.DRV_TEMP_TJ_L n,
   Reg.DRV_STATE_ADAPT_READY n]

/-- The supplies and the plateaus of a frame are stored (R204). -/
def levelsStored (s : State) (n : Nat) (f : DrvFrame) : State :=
  (((s.wr (Reg.DRV_STATE_VBS n) f.vbs).wr (Reg.DRV_STATE_VPL n) f.vpl).wr (Reg.DRV_PLATEAU_VLO n) f.vlo).wr (Reg.DRV_PLATEAU_VHI n) f.vhi

/-- The junctions of a frame are stored, and whether transitions are measured (R206). -/
def frameStored (s : State) (n : Nat) (f : DrvFrame) : State :=
  (((levelsStored s n f).wr (Reg.DRV_TEMP_TJ_H n) f.tjH).wr (Reg.DRV_TEMP_TJ_L n) f.tjL).wr (Reg.DRV_STATE_ADAPT_READY n)
    (b2n (f.seen && decide (f.vlo + 50 ≤ f.vhi)))

/-- The leg as a frame reports it: its detectors, its refreshes and its junctions (R68, R210). -/
def legReported (s : State) (n : Nat) (f : DrvFrame) : DrvLeg :=
  { s.leg n with present := f.active % 512, clampH := (s.leg n).clampH && !f.refreshH, clampL := (s.leg n).clampL && !f.refreshL,
                 warnH := (s.leg n).warnH && decide (s.rd (Reg.DRV_TEMP_WARN n) ≤ f.tjH),
                 warnL := (s.leg n).warnL && decide (s.rd (Reg.DRV_TEMP_WARN n) ≤ f.tjL) }

theorem writes_levelsStored (s : State) {n : Nat} (f : DrvFrame) (hn : n < 6) :
    Writes (AmongEv (frameFields n)) s (levelsStored s n f) :=
  (((Writes.unit_wr Reg.DRV_STATE_VBS _ hn (by decide)).trans (Writes.unit_wr Reg.DRV_STATE_VPL _ hn (by decide))).trans
    (Writes.unit_wr Reg.DRV_PLATEAU_VLO _ hn (by decide))).trans (Writes.unit_wr Reg.DRV_PLATEAU_VHI _ hn (by decide))

theorem writes_frameStored (s : State) {n : Nat} (f : DrvFrame) (hn : n < 6) : Writes (AmongEv (frameFields n)) s (frameStored s n f) :=
  (((writes_levelsStored s f hn).trans (Writes.unit_wr Reg.DRV_TEMP_TJ_H _ hn (by decide))).trans
    (Writes.unit_wr Reg.DRV_TEMP_TJ_L _ hn (by decide))).trans (Writes.unit_wr Reg.DRV_STATE_ADAPT_READY _ hn (by decide))

theorem frameStored_shows {s : State} {n : Nat} (f : DrvFrame) (hn : n < 6) (hs : s.regsOk) :
    (frameStored s n f).rd (Reg.DRV_STATE_VBS n) = f.vbs % 256 ∧ (frameStored s n f).rd (Reg.DRV_TEMP_TJ_H n) = f.tjH % 256 := by
  refine ⟨?_, ?_⟩
  · rw [frameStored, rd_wr_unit_ne Reg.DRV_STATE_VBS Reg.DRV_STATE_ADAPT_READY hn (by decide),
      rd_wr_unit_ne Reg.DRV_STATE_VBS Reg.DRV_TEMP_TJ_L hn (by decide), rd_wr_unit_ne Reg.DRV_STATE_VBS Reg.DRV_TEMP_TJ_H hn (by decide),
      levelsStored, rd_wr_unit_ne Reg.DRV_STATE_VBS Reg.DRV_PLATEAU_VHI hn (by decide),
      rd_wr_unit_ne Reg.DRV_STATE_VBS Reg.DRV_PLATEAU_VLO hn (by decide), rd_wr_unit_ne Reg.DRV_STATE_VBS Reg.DRV_STATE_VPL hn (by decide)]
    exact rd_wr_same _ _ _ hs
  · rw [frameStored, rd_wr_unit_ne Reg.DRV_TEMP_TJ_H Reg.DRV_STATE_ADAPT_READY hn (by decide),
      rd_wr_unit_ne Reg.DRV_TEMP_TJ_H Reg.DRV_TEMP_TJ_L hn (by decide)]
    exact rd_wr_same _ _ _ ((writes_levelsStored s f hn).regsOk hs)

/-- A frame of a leg out of INIT shows its link valid (R204). -/
theorem frameIn_off {s : State} {n : Nat} (f : DrvFrame) (hn : n < 6) (hst : s.legState n = legOff) :
    s.frameIn n f = ((frameStored s n f).setLeg n (legReported (frameStored s n f) n f)).setLinkOk n true := by
  have hkept : (frameStored s n f).legState n = legOff :=
    ((writes_frameStored s f hn).unit_rd Reg.DRV_STATE_STATE hn (by decide)).trans hst
  exact if_neg (fun h => absurd (hkept.symm.trans h) (by decide))

theorem frameIn_shows {s : State} {n : Nat} (f : DrvFrame) (hn : n < 6) (hs : s.regsOk) (hsh : s.Shaped) (hst : s.legState n = legOff) :
    (s.frameIn n f).rd (Reg.DRV_STATE_VBS n) = f.vbs % 256 ∧ (s.frameIn n f).rd (Reg.DRV_TEMP_TJ_H n) = f.tjH % 256 ∧
      ((s.frameIn n f).leg n).present = f.active % 512 ∧ (s.frameIn n f).rd (Reg.DRV_STATE_LINK_OK n) = 1 ∧
      (s.frameIn n f).legState n = legOff := by
  have hstored := writes_frameStored s f hn
  obtain ⟨hvbs, htj⟩ := frameStored_shows f hn hs
  have hlink : Writes (AmongEv (legLinkFields n)) (frameStored s n f) (s.frameIn n f) := by
    rw [frameIn_off f hn hst]
    exact Writes.setLeg.trans ((writes_setLinkOk _ true hn).mono fun k hk => .inl hk)
  have hkept : (frameStored s n f).legState n = legOff := (hstored.unit_rd Reg.DRV_STATE_STATE hn (by decide)).trans hst
  have hshaped : (frameStored s n f).Shaped := Keeps.shaped_of (s := s) rfl hsh
  refine ⟨(hlink.unit_rd Reg.DRV_STATE_VBS hn (by decide)).trans hvbs, (hlink.unit_rd Reg.DRV_TEMP_TJ_H hn (by decide)).trans htj, ?_, ?_,
    (hlink.unit_rd Reg.DRV_STATE_STATE hn (by decide)).trans hkept⟩
  · rw [frameIn_off f hn hst]
    exact congrArg DrvLeg.present (leg_setLeg_same _ hshaped hn)
  · rw [frameIn_off f hn hst]
    exact (setLinkOk_shows true hn (hstored.regsOk hs)).1

/-! ### Junctions (R210) -/

/-- GH's junction is stored, and whether it stands at its warning level. -/
def junctionStored (s : State) (n k : Nat) : State :=
  (s.wr (Reg.DRV_TEMP_TJ_H n) k).setLeg n { s.leg n with warnH := true }

/-- A junction that rises to its warning level raises its event (R210). -/
theorem otWarn_crosses {s : State} {n k : Nat} (hn : n < 6) (hk : s.rd (Reg.DRV_TEMP_WARN n) ≤ k) (hwas : (s.leg n).warnH = false) :
    s.otWarn n true k = (junctionStored s n k).raise Ev.DRV_OT_WARN := by
  have habove : decide ((s.wr (Reg.DRV_TEMP_TJ_H n) k).rd (Reg.DRV_TEMP_WARN n) ≤ k) = true := by
    rw [rd_wr_unit_ne Reg.DRV_TEMP_WARN Reg.DRV_TEMP_TJ_H hn (by decide)]
    exact decide_eq_true hk
  have hleg : (s.wr (Reg.DRV_TEMP_TJ_H n) k).leg n = s.leg n := rfl
  simp only [otWarn, if_true, habove, hleg, hwas]
  rfl

/-- The register of GH's junction. -/
abbrev junctionFields (n : Nat) : List Fld := [Reg.DRV_TEMP_TJ_H n]

theorem junctionWarned_shows {s : State} {n k : Nat} (hn : n < 6) (hs : s.regsOk) (hk : k < 256) :
    ((junctionStored s n k).raise Ev.DRV_OT_WARN).rd (Reg.DRV_TEMP_TJ_H n) = k ∧
      s.raisedIn ((junctionStored s n k).raise Ev.DRV_OT_WARN) Ev.DRV_OT_WARN ∧
      s.regsButEv ((junctionStored s n k).raise Ev.DRV_OT_WARN) (junctionFields n) := by
  have hstored : Writes (AmongEv (junctionFields n)) s (junctionStored s n k) :=
    (Writes.unit_wr Reg.DRV_TEMP_TJ_H k hn (by decide)).trans Writes.setLeg
  have hkept : (junctionStored s n k).rd (Reg.DRV_TEMP_TJ_H n) = k := rd_wr_lt hs hk
  exact ⟨(rd_raise _ _ (by decide) _ (by simp only [evKey, Fld.key]; omega)).trans hkept,
    hstored.unit_raisedIn (Writes.refl (W := evKey)) hs (by decide) hn (by decide),
    (hstored.trans (Writes.raise amongEv_ev (by decide))).regsButEv⟩

/-! ### Measured transitions (R207, R208) -/

/-- A rising transition after GH turned on stores its time and steps GH's turn-on code (R207, R208). -/
theorem transition_adapts {s : State} {n k : Nat} (hn : n < 6) (hready : s.on (Reg.DRV_STATE_ADAPT_READY n) = true)
    (hst : s.legState n = legArmed) (hmode : s.rd (Reg.DRV_ADAPT_H_MODE_ON n) ≠ 0) (hk : k < 1023)
    (hhold : s.on (Reg.DRV_STATE_BS_HOLD n) = false) :
    s.transition n true .ghOn false k = (s.wr (Reg.DRV_TSW_H_ON_NS n) k).wr (Reg.DRV_CODE_H_ON n)
      (adaptCode (s.rd (Reg.DRV_ADAPT_H_MODE_ON n)) (s.rd (Reg.DRV_ADAPT_H_TGT_ON n)) (s.rd (Reg.DRV_ADAPT_H_DB n))
        (s.rd (Reg.DRV_BOUND_H_ON_MIN n)) (s.rd (Reg.DRV_BOUND_H_ON_MAX n)) (s.rd (Reg.DRV_CODE_H_ON n)) k) := by
  have hkept (f : Nat → Fld) (hf : ∀ i < 6, (f i).key ≠ (Reg.DRV_TSW_H_ON_NS i).key) :
      (s.wr (Reg.DRV_TSW_H_ON_NS n) k).rd (f n) = s.rd (f n) := rd_wr_unit_ne f Reg.DRV_TSW_H_ON_NS hn hf
  have hmeasured : ¬ (!s.on (Reg.DRV_STATE_ADAPT_READY n) || decide (s.legState n = legSoftOff)) = true := by simp [hready, hst]
  have hheld : (s.wr (Reg.DRV_TSW_H_ON_NS n) k).on (Reg.DRV_STATE_BS_HOLD n) = false :=
    (congrArg (· == 1) (hkept Reg.DRV_STATE_BS_HOLD (by decide))).trans hhold
  have hsteps : ¬ (decide (s.rd (Reg.DRV_ADAPT_H_MODE_ON n) = 0) || decide (1023 ≤ k) || (true && false)) = true := by
    simp [hmode, hk]
  have htime : Nat.min k 1023 = k := Nat.min_eq_left hk.le
  simp only [transition, credit?, codeFlds, if_neg hmeasured, htime, hheld, hkept Reg.DRV_ADAPT_H_MODE_ON (by decide), if_neg hsteps,
    hkept Reg.DRV_ADAPT_H_TGT_ON (by decide), hkept Reg.DRV_ADAPT_H_DB (by decide), hkept Reg.DRV_BOUND_H_ON_MIN (by decide),
    hkept Reg.DRV_BOUND_H_ON_MAX (by decide), hkept Reg.DRV_CODE_H_ON (by decide)]

/-! ### The statement -/

/-- Settles O16: each report by the operation on its leg. -/
theorem driveReportsAct : Obligations.DriveReportsAct := by
  refine ⟨fun s n hn => ⟨?_, ?_⟩, fun s n hn hcut => ?_, fun s n hn hcut => ?_, fun s n hn hs hsh hcut hsc hhsl => ?_, fun s n h => ?_,
    fun s n hn hs hsh hst hturn => ?_, fun s n hn hboot hwarn hst => ?_, fun s n hn hboot hhold hst => ?_, fun s n hn hwarn => ?_,
    fun s n k hn hready hst hmode hk hhold => ?_, fun s n hn hst => ?_, fun s n f hn hs hsh hst => ?_, fun s n hn => ?_,
    fun s n k hn hs hst hk hlt hwas => ?_, fun s m hr => ⟨?_, ?_⟩⟩
  · exact congrArg Host.Outcome.next (if_pos hn)
  · exact congrArg Host.Outcome.next (if_pos hn)
  · exact congrArg Host.Outcome.next ((if_pos hn).trans (enableCut_once hn hcut))
  · exact congrArg Host.Outcome.next ((if_pos hn).trans (if_pos hcut))
  · have hexec : exec (.drvEnableReturn n) s = .next (s.enableReturn n) := congrArg Host.Outcome.next (if_pos (by simp [hn, hsc, hhsl]))
    obtain ⟨hstate, hshown, hwait, hev, hframe⟩ := enableReturn_shows hn hs hsh hcut
    exact ⟨_, hexec, hstate, hshown, hwait, hev, hframe, (kp_execDrvEnableReturn _ _ _ hexec).memsSame (by decide)⟩
  · refine congrArg Host.Outcome.next (if_neg ?_)
    rcases h with h | h
    · simp [h]
    · simp [h]
  · have hexec : exec (.drvDieInterlock n) s = .next (s.dieInterlock n) := congrArg Host.Outcome.next (if_pos hn)
    obtain ⟨hh, hl, hcount, hstate, hev, hframe⟩ := dieInterlock_shows hn hs hsh hst hturn
    exact ⟨_, hexec, hh, hl, hcount, hstate, hev, hframe, (kp_execDrvDieInterlock _ _ _ hexec).memsSame (by decide)⟩
  · exact congrArg Host.Outcome.next (if_pos (by simp [hn, hboot, hwarn, hst]))
  · have hsoft : ¬ s.legState n = legSoftOff := by rw [hst]; decide
    exact congrArg Host.Outcome.next ((if_pos (by simp [hn, hboot, hst])).trans ((if_neg hsoft).trans (if_neg (ne_true_of_eq_false hhold))))
  · refine congrArg Host.Outcome.next ((if_pos hn).trans ?_)
    simp only [hwarn]
    rfl
  · exact congrArg Host.Outcome.next ((if_pos hn).trans (transition_adapts hn hready hst hmode hk hhold))
  · exact congrArg Host.Outcome.next (if_pos (by simp [hn, hst]))
  · have hexec : exec (.drvStatusFrame n (some f)) s = .next (s.frameIn n f) := congrArg Host.Outcome.next (if_pos (by simp [hn, hst]))
    obtain ⟨hvbs, htj, hpresent, hlink, hstate⟩ := frameIn_shows f hn hs hsh hst
    exact ⟨_, hexec, hvbs, htj, hpresent, hlink, hstate, (kp_execDrvStatusFrame n (some f) s _ hexec).memsSame (by decide)⟩
  · exact congrArg Host.Outcome.next (if_pos hn)
  · have hexec : exec (.drvOtWarn n true k) s = .next ((junctionStored s n k).raise Ev.DRV_OT_WARN) :=
      congrArg Host.Outcome.next ((if_pos (by simp [hn, hst])).trans (otWarn_crosses hn hk hwas))
    obtain ⟨htj, hev, hframe⟩ := junctionWarned_shows hn hs hlt
    exact ⟨_, hexec, htj, hev, hframe, (kp_execDrvOtWarn _ _ _ _ _ hexec).memsSame (by decide)⟩
  · exact congrArg Host.Outcome.next (access_allow _ hr)
  · exact congrArg Host.Outcome.next (access_allow _ hr)

end Sys2Proof.Machine
end

section
/-! SUPPORT. The converters (R225 to R249): what SD holds of a converter after an update, which registers the operations on a converter
write, and what starts where a conversion ends. -/

set_option Elab.async false

open Sys2Proof.Machine.State

namespace Sys2Proof.Machine

/-! ### Fields of a converter -/

theorem among_mono {fs gs : List Fld} (h : fs ⊆ gs) : ∀ k, Among fs k → Among gs k := fun _ ⟨g, hg, hk⟩ => ⟨g, h hg, hk⟩

section Fields
variable {c : Nat} {F : Nat → List Fld} {fs gs : List Fld} {s t : State}

/-- The fields of a longer list, without those that an event writes. -/
theorem Writes.within (h : Writes (Among fs) s t) (hg : fs ⊆ gs) : Writes (Among gs) s t := h.mono (among_mono hg)

/-- The fields of a longer list, and those that an event writes. -/
theorem Writes.withinEv (h : Writes (Among fs) s t) (hg : fs ⊆ gs) : Writes (AmongEv gs) s t :=
  h.mono fun k hk => .inl (among_mono hg k hk)

/-- A write of a field of a converter, which raises no event. -/
theorem Writes.sar_wr (f : Nat → Fld) (v : Nat) (hc : c < 8) (hf : ∀ i < 8, f i ∈ F i ∧ ¬ evKey (f i).key) :
    Writes (Among (F c)) s (s.wr (f c) v) := Writes.wr v ⟨_, (hf c hc).1, rfl⟩ (hf c hc).2

/-- A field that is none of those an operation on a converter writes. -/
theorem Writes.sar_rd (h : Writes (Among (F c)) s t) (f : Nat → Fld) (hc : c < 8) (hf : ∀ i < 8, ¬ Among (F i) (f i).key) :
    t.rd (f c) = s.rd (f c) := h.rd _ (hf c hc)

end Fields

/-- A mask of one bit names one converter. -/
theorem forEach_two_pow {s : State} {c : Nat} (f : State → Nat → State) (hc : c < 8) : s.forEach (bitsOf 8 (2 ^ c)) f = f s c := by
  rw [bitsOf_eq_singleton hc (hasBit_two_pow c)]
  rfl

/-- A command of a mask that names one converter, where the rights allow it. -/
theorem maskAccess_allow {s : State} {m : Master} {a c : Nat} (f : State → Nat → State) (hc : c < 8) (hr : s.right m a .cr = .allow) :
    s.access m a .cr (fun s => s.forEach (bitsOf 8 (2 ^ c)) f) = f s.acked c := (access_allow _ hr).trans (forEach_two_pow f hc)

/-! ### What SD holds of a converter -/

theorem sar_of_sense {s t : State} (h : t.sense = s.sense) (c : Nat) : t.sar c = s.sar c := by rw [sar, h, sar]

@[simp] theorem raise_sar (s : State) (ev c : Nat) : (s.raise ev).sar c = s.sar c := sar_of_sense (raise_sense s ev) c

@[simp] theorem wr_sar (s : State) (f : Fld) (v c : Nat) : (s.wr f v).sar c = s.sar c := rfl

@[simp] theorem setSarState_sar (s : State) (c st z : Nat) : (s.setSarState c st).sar z = s.sar z := rfl

theorem sar_setSar_same {s : State} {c : Nat} (v : SarSt) (hsh : s.Shaped) (hc : c < 8) : (s.setSar c v).sar c = v :=
  nth_setNth_same v {} (hsh.sars.symm ▸ hc)

/-- What a new value of a converter leaves of the old one. -/
theorem sar_setSar_keeps {β : Type} (Y : SarSt → β) {s : State} {c : Nat} {v : SarSt} (h : Y v = Y (s.sar c)) :
    Y ((s.setSar c v).sar c) = Y (s.sar c) := by
  by_cases hc : c < s.sense.sars.length
  · have hsame : (s.setSar c v).sar c = v := nth_setNth_same v {} hc
    rw [hsame, h]
  · have hsars : setNth s.sense.sars c v = s.sense.sars := List.set_eq_of_length_le (Nat.le_of_not_lt hc)
    exact congrArg (fun l => Y (nth l c {})) hsars

theorem shaped_setSar {s : State} (c : Nat) (v : SarSt) (hsh : s.Shaped) : (s.setSar c v).Shaped := (kp_setSar s c v).shaped hsh

/-- The read-only fields that follow what SD holds of a converter (R249). -/
abbrev sarView (c : Nat) : List Fld :=
  [Reg.SNS_STATUS_INJ_BUSY, Reg.SAR_STATUS_QUEUED c, Reg.SAR_STATUS_LEVEL c, Reg.SAR_STATUS_CFG_PEND c, Reg.SAR_STATUS_NEXT c]

theorem sarView_subset (c : Nat) : sarView c ⊆ sarShown c := by simp

theorem writes_setSar (s : State) {c : Nat} (v : SarSt) (hc : c < 8) : Writes (Among (sarView c)) s (s.setSar c v) := by
  have hsars : Writes (Among (sarView c)) s { s with sense := { s.sense with sars := setNth s.sense.sars c v } } := Writes.of_regs rfl
  exact ((((hsars.trans (Writes.sar_wr (fun _ => Reg.SNS_STATUS_INJ_BUSY) _ hc (by decide))).trans
    (Writes.sar_wr Reg.SAR_STATUS_QUEUED _ hc (by decide))).trans (Writes.sar_wr Reg.SAR_STATUS_LEVEL _ hc (by decide))).trans
    (Writes.sar_wr Reg.SAR_STATUS_CFG_PEND _ hc (by decide))).trans (Writes.sar_wr Reg.SAR_STATUS_NEXT _ hc (by decide))

/-- An operation that moves what SD holds alone leaves the state of the converter. -/
theorem Writes.sarState {s t : State} {c : Nat} (h : Writes (Among (sarView c)) s t) (hc : c < 8) : t.sarState c = s.sarState c :=
  h.sar_rd Reg.SAR_STATUS_STATE hc (by decide)

/-- The same of the bits that show which converters run. -/
theorem Writes.sarRun {s t : State} {c : Nat} (h : Writes (Among (sarView c)) s t) (hc : c < 8) :
    t.rd Reg.SNS_STATUS_RUN = s.rd Reg.SNS_STATUS_RUN := h.sar_rd (fun _ => Reg.SNS_STATUS_RUN) hc (by decide)

/-! ### Moves of a converter (R240) -/

/-- The registers that a move of a converter writes. -/
abbrev sarMoveFields (c : Nat) : List Fld := [Reg.SAR_STATUS_STATE c, Reg.SNS_STATUS_RUN]

theorem sarMove_subset (c : Nat) : sarMoveFields c ⊆ sarShown c := by simp

theorem writes_setSarState (s : State) {c : Nat} (st : Nat) (hc : c < 8) : Writes (Among (sarMoveFields c)) s (s.setSarState c st) :=
  (Writes.sar_wr Reg.SAR_STATUS_STATE st hc (by decide)).trans (Writes.sar_wr (fun _ => Reg.SNS_STATUS_RUN) _ hc (by decide))

theorem sarRun_setSarState {s : State} {c st : Nat} (hc : c < 8) (hs : s.regsOk) :
    hasBit ((s.setSarState c st).rd Reg.SNS_STATUS_RUN) c = (st == State.sarRun || st == sarCheck) :=
  hasBit_rd_putB _ (keysRise_wr _ _ _ hs) hc

/-! ### What starts on the edge on which a conversion ends (R228, R232, R240) -/

/-- The scan's next channel, or no conversion where the mask is empty (R228, R239). -/
theorem scanNext_eq (s : State) (c : Nat) : ∃ l p, s.scanNext c = s.setSar c { s.sar c with
    cur := (scanPick (s.sar c).cfg.mask (s.sar c).lastScan).map fun ch => ⟨ch, nth (s.sar c).cfg.gain ch 0, s.tagByte, none, false⟩,
    lastScan := l, prevScan := p } := by
  simp only [scanNext]
  cases scanPick (s.sar c).cfg.mask (s.sar c).lastScan with
  | none => exact ⟨(s.sar c).lastScan, (s.sar c).prevScan, rfl⟩
  | some ch => exact ⟨some ch, (s.sar c).lastScan, rfl⟩

/-- The sequence that runs next: the one that has slots left, or the one that is queued (R232). -/
def seqTaken (k : SarSt) : SarSt :=
  if k.run.any fun q => decide (q.pos < q.chans.length) then k
  else { k with run := k.queue, queue := none, resume := k.resume || k.run.isSome }

/-- A converter with its next sequence taken. -/
abbrev seqSet (s : State) (c : Nat) : State := s.setSar c (seqTaken (s.sar c))

/-- A sequence goes on, a check begins, or the scan goes on. -/
theorem convNext_cases (s : State) (c : Nat) : (∃ q, s.convNext c = (seqSet s c).seqNext c q) ∨
    ((s.sar c).checkPend = true ∧ s.convNext c = (seqSet s c).checkBegin c) ∨ s.convNext c = (seqSet s c).scanNext c := by
  have hpend : (seqTaken (s.sar c)).checkPend = (s.sar c).checkPend := by unfold seqTaken; split <;> rfl
  have heq : s.convNext c = match (seqTaken (s.sar c)).run with
      | some q => (seqSet s c).seqNext c q
      | none => if (seqTaken (s.sar c)).checkPend then (seqSet s c).checkBegin c else (seqSet s c).scanNext c := rfl
  cases hrun : (seqTaken (s.sar c)).run with
  | some q => exact .inl ⟨q, by rw [heq, hrun]⟩
  | none =>
    cases hcheck : (s.sar c).checkPend with
    | true => exact .inr (.inl ⟨rfl, by rw [heq, hrun, hpend, hcheck]; rfl⟩)
    | false => exact .inr (.inr (by rw [heq, hrun, hpend, hcheck]; rfl))

theorem writes_seqSet (s : State) {c : Nat} (hc : c < 8) : Writes (Among (sarView c)) s (seqSet s c) := writes_setSar s _ hc

theorem writes_seqNext (s : State) {c : Nat} (q : SarSeq) (hc : c < 8) : Writes (Among (sarView c)) s (s.seqNext c q) :=
  writes_setSar s _ hc

theorem writes_scanNext (s : State) {c : Nat} (hc : c < 8) : Writes (Among (sarView c)) s (s.scanNext c) := by
  obtain ⟨l, p, heq⟩ := scanNext_eq s c
  rw [heq]
  exact writes_setSar s _ hc

/-- The registers that the begin of a check writes (R240, R249). -/
abbrev sarCheckFields (c : Nat) : List Fld := Reg.SAR_CHECK_DONE c :: sarShown c

theorem checkBegin_sar (s : State) (c : Nat) :
    (s.checkBegin c).sar c = (s.setSar c { s.sar c with cur := none, checkPend := false }).sar c := rfl

theorem writes_checkBegin (s : State) {c : Nat} (hc : c < 8) : Writes (Among (sarCheckFields c)) s (s.checkBegin c) :=
  (((writes_setSar s _ hc).within (by simp)).trans (Writes.sar_wr Reg.SAR_CHECK_DONE 0 hc (by decide))).trans
    ((writes_setSarState _ sarCheck hc).within (by simp))

theorem writes_convNext (s : State) {c : Nat} (hc : c < 8) : Writes (Among (sarCheckFields c)) s (s.convNext c) := by
  have htaken : Writes (Among (sarCheckFields c)) s (seqSet s c) := (writes_seqSet s hc).within (by simp)
  rcases convNext_cases s c with ⟨q, heq⟩ | ⟨-, heq⟩ | heq
  · rw [heq]
    exact htaken.trans ((writes_seqNext _ q hc).within (by simp))
  · rw [heq]
    exact htaken.trans (writes_checkBegin _ hc)
  · rw [heq]
    exact htaken.trans ((writes_scanNext _ hc).within (by simp))

/-- Where no check waits, the state of the converter stays. -/
theorem writes_convNext_unchecked {s : State} {c : Nat} (hc : c < 8) (h : (s.sar c).checkPend = false) :
    Writes (Among (sarView c)) s (s.convNext c) := by
  rcases convNext_cases s c with ⟨q, heq⟩ | ⟨hpend, -⟩ | heq
  · rw [heq]
    exact (writes_seqSet s hc).trans (writes_seqNext _ q hc)
  · exact absurd (hpend.symm.trans h) (by decide)
  · rw [heq]
    exact (writes_seqSet s hc).trans (writes_scanNext _ hc)

/-- What a converter holds of its results: the packets on the link, the number of the next and the windows (R229, R244). -/
def sarResults (k : SarSt) : List SarPkt × Nat × List SarWin := (k.flight, k.seqNo, k.wins)

theorem seqNext_results (s : State) (c : Nat) (q : SarSeq) : sarResults ((s.seqNext c q).sar c) = sarResults (s.sar c) :=
  sar_setSar_keeps sarResults rfl

theorem checkBegin_results (s : State) (c : Nat) : sarResults ((s.checkBegin c).sar c) = sarResults (s.sar c) := by
  rw [checkBegin_sar]
  exact sar_setSar_keeps sarResults rfl

/-- The scan's next conversion moves the channels of the scan alone. -/
theorem scanNext_keeps {β : Type} (Y : SarSt → β) (hY : ∀ k x l p, Y { k with cur := x, lastScan := l, prevScan := p } = Y k)
    (s : State) (c : Nat) : Y ((s.scanNext c).sar c) = Y (s.sar c) := by
  obtain ⟨l, p, hscan⟩ := scanNext_eq s c
  rw [hscan]
  exact sar_setSar_keeps Y (hY _ _ _ _)

/-- What starts leaves the results of the conversions that ended. -/
theorem convNext_results (s : State) (c : Nat) : sarResults ((s.convNext c).sar c) = sarResults (s.sar c) := by
  have htaken : sarResults ((seqSet s c).sar c) = sarResults (s.sar c) :=
    sar_setSar_keeps sarResults (by unfold seqTaken; split <;> rfl)
  rcases convNext_cases s c with ⟨q, heq⟩ | ⟨-, heq⟩ | heq
  · rw [heq, seqNext_results, htaken]
  · rw [heq, checkBegin_results, htaken]
  · rw [heq, scanNext_keeps sarResults (fun _ _ _ _ => rfl), htaken]

theorem convNext_kept (s : State) (c : Nat) : ((s.convNext c).sar c).flight = (s.sar c).flight ∧
    ((s.convNext c).sar c).seqNo = (s.sar c).seqNo ∧ ((s.convNext c).sar c).wins = (s.sar c).wins := by
  simpa only [sarResults, Prod.mk.injEq] using convNext_results s c

/-! ### The end of a conversion (R225 to R230, R244) -/

theorem sendResult_sar {s : State} {c : Nat} (p : SarPkt) (hsh : s.Shaped) (hc : c < 8) : (s.sendResult c p).sar c =
    { s.sar c with flight := (s.sar c).flight ++ [{ p with seqNo := (s.sar c).seqNo }], seqNo := ((s.sar c).seqNo + 1) % 16 } :=
  sar_setSar_same _ hsh hc

theorem writes_scanResult (s : State) {c : Nat} (x : SarConv) (code : Int) (ovr mark : Bool) (hc : c < 8) :
    Writes (Among (sarView c)) s (s.scanResult c x code ovr mark) :=
  Writes.ite (writes_setSar s _ hc) ((writes_setSar s _ hc).trans (writes_setSar _ _ hc))

/-- A conversion of a channel without averaging delivers its code (R225, R229, R244). -/
theorem scanResult_delivers {s : State} {c : Nat} {x : SarConv} {code : Int} {ovr mark : Bool} (hsh : s.Shaped) (hc : c < 8)
    (havg : nth (s.sar c).cfg.avg x.chan 0 = 0) (hwin : nth (s.sar c).wins x.chan {} = {}) :
    ∃ p : SarPkt, ((s.scanResult c x code ovr mark).sar c).flight = (s.sar c).flight ++ [p] ∧ p.code = ofSigned 16 code ∧
      p.ovr = ovr ∧ p.chan = x.chan ∧ p.tag = x.tag ∧ p.inj = false ∧ p.seqNo = (s.sar c).seqNo ∧
      ((s.scanResult c x code ovr mark).sar c).seqNo = ((s.sar c).seqNo + 1) % 16 := by
  have hfull : ¬ ((0 : Nat) + 1 < 2 ^ 0) := by decide
  simp only [scanResult, havg, hwin, if_neg hfull, sendResult_sar _ (shaped_setSar c _ hsh) hc, sar_setSar_same _ hsh hc]
  exact ⟨_, rfl, by simp, by simp, rfl, rfl, rfl, rfl, trivial⟩

/-- A window with one conversion more (R229). -/
abbrev winEntered (w : SarWin) (code : Int) (ovr mark : Bool) : SarWin := ⟨w.sum + code, w.n + 1, w.ovr || ovr, w.settle || mark⟩

/-- A conversion that does not fill its window enters it (R229). -/
theorem scanResult_enters {s : State} {c : Nat} {x : SarConv} {code : Int} {ovr mark : Bool} (hsh : s.Shaped) (hc : c < 8)
    (hlen : x.chan < (s.sar c).wins.length) (hn : (nth (s.sar c).wins x.chan {}).n + 1 < 2 ^ nth (s.sar c).cfg.avg x.chan 0) :
    ((s.scanResult c x code ovr mark).sar c).flight = (s.sar c).flight ∧
      ((s.scanResult c x code ovr mark).sar c).seqNo = (s.sar c).seqNo ∧
      (nth ((s.scanResult c x code ovr mark).sar c).wins x.chan {}).sum = (nth (s.sar c).wins x.chan {}).sum + code ∧
      (nth ((s.scanResult c x code ovr mark).sar c).wins x.chan {}).n = (nth (s.sar c).wins x.chan {}).n + 1 := by
  have heq : (s.scanResult c x code ovr mark).sar c = { s.sar c with
      wins := setNth (s.sar c).wins x.chan (winEntered (nth (s.sar c).wins x.chan {}) code ovr mark) } := by
    rw [scanResult, if_pos hn, sar_setSar_same _ hsh hc]
  rw [heq, nth_setNth_same _ _ hlen]
  exact ⟨rfl, rfl, rfl, rfl⟩

/-- The result of an injected conversion is on the link (R230, R238). -/
def injSent (s : State) (c : Nat) (x : SarConv) (code : Int) (ovr mark : Bool) (pos : Nat) (last : Bool) (op : Option Nat) : State :=
  (s.setSar c { s.sar c with refSettle := setNth (s.sar c).refSettle x.chan (nth (s.sar c).refSettle x.chan 0 - 1) }).sendResult c
    { code := ofSigned 16 code, chan := x.chan, ovr := ovr, settle := mark || x.low || nth (s.sar c).refSettle x.chan 0 != 0,
      inj := true, tag := x.tag, seqNo := 0, pos := pos, last := last, resume := false, op := op }

section Injected
variable {s : State} {c : Nat} {x : SarConv} {code : Int} {ovr mark : Bool} {pos : Nat} {last : Bool} {op : Option Nat}

theorem writes_injSent (hc : c < 8) : Writes (Among (sarView c)) s (injSent s c x code ovr mark pos last op) :=
  (writes_setSar s _ hc).trans (writes_setSar _ _ hc)

/-- An injected conversion of a converter that reports the end of its sequences (R233). -/
theorem injResult_eq (hc : c < 8) (hevt : s.on (Reg.SAR_CFG_INJ_EVT c) = true) : s.injResult c x code ovr mark pos last op =
    (injSent s c x code ovr mark pos last op).when last fun u => u.raise Ev.SNS_INJ_END := by
  have hkept : (injSent s c x code ovr mark pos last op).on (Reg.SAR_CFG_INJ_EVT c) = true :=
    (congrArg (· == 1) ((writes_injSent hc).sar_rd Reg.SAR_CFG_INJ_EVT hc (by decide))).trans hevt
  have hreport : (last && (injSent s c x code ovr mark pos last op).on (Reg.SAR_CFG_INJ_EVT c)) = last := by rw [hkept, Bool.and_true]
  exact congrArg (State.when _ · fun u => u.raise Ev.SNS_INJ_END) hreport

/-- An injected conversion delivers with its place in the sequence (R230, R233). -/
theorem injSent_delivers (hsh : s.Shaped) (hc : c < 8) :
    ∃ p : SarPkt, ((injSent s c x code ovr mark pos last op).sar c).flight = (s.sar c).flight ++ [p] ∧ p.code = ofSigned 16 code ∧
      p.chan = x.chan ∧ p.inj = true ∧ p.pos = pos ∧ p.last = last ∧ p.op = op := by
  rw [injSent, sendResult_sar _ (shaped_setSar c _ hsh) hc, sar_setSar_same _ hsh hc]
  exact ⟨_, rfl, rfl, rfl, rfl, rfl, rfl, rfl⟩

end Injected

theorem exec_sarConversionEnd {s : State} {c : Nat} {v : Int} (hc : c < 8) (hst : s.sarState c = State.sarRun) :
    exec (.sarConversionEnd c v) s = .next (s.convEnd c v) := congrArg Host.Outcome.next (if_pos (by simp [hc, hst]))

/-- A conversion of a converter in RUN ends with its mark after a gain change counted (R238). -/
abbrev settled (s : State) (c ch : Nat) : State :=
  s.setSar c { s.sar c with settle := setNth (s.sar c).settle ch (nth (s.sar c).settle ch 0 - 1) }

theorem sar_settled {s : State} {c : Nat} (ch : Nat) (hsh : s.Shaped) (hc : c < 8) : (settled s c ch).sar c =
    { s.sar c with settle := setNth (s.sar c).settle ch (nth (s.sar c).settle ch 0 - 1) } := sar_setSar_same _ hsh hc

/-- The result of a conversion of the scan has been taken. -/
abbrev scanEnded (s : State) (c : Nat) (x : SarConv) (v : Int) : State :=
  (settled s c x.chan).scanResult c x (convert x.chan x.gain v).1 (convert x.chan x.gain v).2 (nth (s.sar c).settle x.chan 0 != 0)

/-- The result of an injected conversion has been taken. -/
abbrev injEnded (s : State) (c : Nat) (x : SarConv) (v : Int) (pos : Nat) (last : Bool) (op : Option Nat) : State :=
  injSent (settled s c x.chan) c x (convert x.chan x.gain v).1 (convert x.chan x.gain v).2 (nth (s.sar c).settle x.chan 0 != 0) pos
    last op

theorem convEnd_scan {s : State} {c : Nat} {v : Int} {x : SarConv} (hcur : (s.sar c).cur = some x) (hinj : x.inj = none) :
    s.convEnd c v = (scanEnded s c x v).convNext c := by
  simp only [convEnd, scanEnded, settled, hcur, hinj]

theorem convEnd_inj {s : State} {c : Nat} {v : Int} {x : SarConv} {pos : Nat} {last : Bool} {op : Option Nat} (hc : c < 8)
    (hevt : s.on (Reg.SAR_CFG_INJ_EVT c) = true) (hcur : (s.sar c).cur = some x) (hinj : x.inj = some (pos, last, op)) :
    s.convEnd c v = ((injEnded s c x v pos last op).when last fun u => u.raise Ev.SNS_INJ_END).convNext c := by
  have hkept : (settled s c x.chan).on (Reg.SAR_CFG_INJ_EVT c) = true :=
    (congrArg (· == 1) ((writes_setSar s _ hc).sar_rd Reg.SAR_CFG_INJ_EVT hc (by decide))).trans hevt
  rw [← injResult_eq hc hkept]
  simp only [convEnd, settled, hcur, hinj]

/-- A conversion of the scan leaves every register but those that show the converter (R249). -/
theorem convEnd_scan_regs {s : State} {c : Nat} {v : Int} {x : SarConv} (hc : c < 8) (hcur : (s.sar c).cur = some x)
    (hinj : x.inj = none) : s.regsBut (s.convEnd c v) (sarCheckFields c) := by
  have hended : Writes (Among (sarView c)) s (scanEnded s c x v) := (writes_setSar s _ hc).trans (writes_scanResult _ _ _ _ _ hc)
  rw [convEnd_scan hcur hinj]
  exact ((hended.within (by simp)).trans (writes_convNext _ hc)).regsBut

/-- R225, R244: the code of a conversion that is not averaged is on the link with the next number. -/
theorem convEnd_delivers {s : State} {c : Nat} (v : Int) {x : SarConv} (hc : c < 8) (hsh : s.Shaped) (hcur : (s.sar c).cur = some x)
    (hinj : x.inj = none) (havg : nth (s.sar c).cfg.avg x.chan 0 = 0) (hwin : nth (s.sar c).wins x.chan {} = {}) :
    ∃ p : SarPkt, ((s.convEnd c v).sar c).flight = (s.sar c).flight ++ [p] ∧ p.code = ofSigned 16 (convert x.chan x.gain v).1 ∧
      p.ovr = (convert x.chan x.gain v).2 ∧ p.chan = x.chan ∧ p.tag = x.tag ∧ p.inj = false ∧ p.seqNo = (s.sar c).seqNo ∧
      ((s.convEnd c v).sar c).seqNo = ((s.sar c).seqNo + 1) % 16 := by
  have hset := sar_settled x.chan hsh hc
  obtain ⟨hflight, hseq, -⟩ := convNext_kept (scanEnded s c x v) c
  rw [convEnd_scan hcur hinj, hflight, hseq]
  have hdelivers := scanResult_delivers (s := settled s c x.chan) (x := x) (code := (convert x.chan x.gain v).1)
    (ovr := (convert x.chan x.gain v).2) (mark := nth (s.sar c).settle x.chan 0 != 0) (shaped_setSar c _ hsh) hc
    (by rw [hset]; exact havg) (by rw [hset]; exact hwin)
  rwa [hset] at hdelivers

/-- R229: a conversion that does not fill its window adds to it. -/
theorem convEnd_enters {s : State} {c : Nat} (v : Int) {x : SarConv} (hc : c < 8) (hsh : s.Shaped) (hcur : (s.sar c).cur = some x)
    (hinj : x.inj = none) (hlen : x.chan < (s.sar c).wins.length)
    (hn : (nth (s.sar c).wins x.chan {}).n + 1 < 2 ^ nth (s.sar c).cfg.avg x.chan 0) :
    ((s.convEnd c v).sar c).flight = (s.sar c).flight ∧ ((s.convEnd c v).sar c).seqNo = (s.sar c).seqNo ∧
      (nth ((s.convEnd c v).sar c).wins x.chan {}).sum = (nth (s.sar c).wins x.chan {}).sum + (convert x.chan x.gain v).1 ∧
      (nth ((s.convEnd c v).sar c).wins x.chan {}).n = (nth (s.sar c).wins x.chan {}).n + 1 := by
  have hset := sar_settled x.chan hsh hc
  obtain ⟨hflight, hseq, hwins⟩ := convNext_kept (scanEnded s c x v) c
  rw [convEnd_scan hcur hinj, hflight, hseq, hwins]
  have henters := scanResult_enters (s := settled s c x.chan) (x := x) (code := (convert x.chan x.gain v).1)
    (ovr := (convert x.chan x.gain v).2) (mark := nth (s.sar c).settle x.chan 0 != 0) (shaped_setSar c _ hsh) hc
    (by rw [hset]; exact hlen) (by rw [hset]; exact hn)
  rwa [hset] at henters

/-- R230, R233: an injected conversion is on the link, and the end of its sequence raises its event. -/
theorem convEnd_injected {s : State} {c : Nat} (v : Int) {x : SarConv} {pos : Nat} {last : Bool} {op : Option Nat} (hc : c < 8)
    (hs : s.regsOk) (hsh : s.Shaped) (hevt : s.on (Reg.SAR_CFG_INJ_EVT c) = true) (hcur : (s.sar c).cur = some x)
    (hinj : x.inj = some (pos, last, op)) :
    ∃ p : SarPkt, ((s.convEnd c v).sar c).flight = (s.sar c).flight ++ [p] ∧ p.code = ofSigned 16 (convert x.chan x.gain v).1 ∧
      p.chan = x.chan ∧ p.inj = true ∧ p.pos = pos ∧ p.last = last ∧ p.op = op ∧
      (last = true → s.raisedIn (s.convEnd c v) Ev.SNS_INJ_END) ∧ s.regsButEv (s.convEnd c v) (sarCheckFields c) := by
  have hended : Writes (AmongEv (sarCheckFields c)) s (injEnded s c x v pos last op) :=
    ((writes_setSar s _ hc).trans (writes_injSent hc)).withinEv (by simp)
  have hnext (u : State) : Writes (AmongEv (sarCheckFields c)) u (u.convNext c) := (writes_convNext u hc).withinEv (List.Subset.refl _)
  obtain ⟨p, hp, hcode, hchan, hinj', hpos, hlast, hop⟩ := injSent_delivers (s := settled s c x.chan) (x := x)
    (code := (convert x.chan x.gain v).1) (ovr := (convert x.chan x.gain v).2) (mark := nth (s.sar c).settle x.chan 0 != 0) (pos := pos)
    (last := last) (op := op) (shaped_setSar c _ hsh) hc
  obtain ⟨hflight, -, -⟩ := convNext_kept ((injEnded s c x v pos last op).when last fun u => u.raise Ev.SNS_INJ_END) c
  have hraise : ((injEnded s c x v pos last op).when last fun u => u.raise Ev.SNS_INJ_END).sar c =
      (injEnded s c x v pos last op).sar c := when_keeps (·.sar c) last _ (raise_sar _ _ c)
  rw [convEnd_inj hc hevt hcur hinj, hflight, hraise]
  refine ⟨p, ?_, hcode, hchan, hinj', hpos, hlast, hop, ?_, ?_⟩
  · rw [hp, sar_settled x.chan hsh hc]
  · rintro rfl
    exact hended.unit_raisedIn (hnext _) hs (by decide) hc (by decide)
  · exact ((hended.trans (Writes.when fun _ => Writes.raise amongEv_ev (by decide))).trans (hnext _)).regsButEv

end Sys2Proof.Machine
end

section
/-! SUPPORT. Injected sequences, the FIFO on CD and the configuration of the converters (R231 to R239). -/

set_option Elab.async false

open Sys2Proof.Machine.State

namespace Sys2Proof.Machine

/-! ### Triggers (R231, R232) -/

section Triggers
variable {s : State} {c : Nat} {q r : SarSeq}

/-- A trigger starts its sequence after the conversion that runs. -/
theorem injTrigger_starts {x : SarConv} (hst : s.sarState c = State.sarRun) (hrun : (s.sar c).run = none)
    (hcur : (s.sar c).cur = some x) : s.injTrigger c q = s.setSar c { s.sar c with run := some q } := by
  simp [injTrigger, hst, hrun, hcur]

/-- A trigger waits for the sequence that runs. -/
theorem injTrigger_queues (hst : s.sarState c = State.sarRun) (hrun : (s.sar c).run = some r) (hqueue : (s.sar c).queue = none) :
    s.injTrigger c q = s.setSar c { s.sar c with queue := some q } := by
  simp [injTrigger, hst, hrun, hqueue]

/-- A trigger beside one that waits is dropped. -/
theorem injTrigger_drops {p : SarSeq} (hst : s.sarState c = State.sarRun) (hrun : (s.sar c).run = some r)
    (hqueue : (s.sar c).queue = some p) : s.injTrigger c q = s.injDrop c := by
  simp [injTrigger, hst, hrun, hqueue]

end Triggers

/-- The converters that have not delivered the last result of an operation, with those of the operation of a slot (R92). -/
def opLeftSet (s : State) (slot : Nat) (o : OrbOp) : State :=
  { s with sense := { s.sense with
    opLeft := if s.sense.opLeft.any (fun e => e.1 == slot) then s.sense.opLeft else (slot, o.arga % 256) :: s.sense.opLeft } }

/-- The trigger of an operation that names the converter (R95, R231). -/
theorem opTrigger_named {s : State} {c slot : Nat} {o : OrbOp} (hop : s.opOf? slot 1 = some o) (hmask : hasBit o.arga c = true) :
    s.opTrigger c slot = (opLeftSet s slot o).injTrigger c (seqOf (s.sar c) (s.sar c).cfg.seq0 (o.tag % 256) (some slot)) := by
  simp only [opTrigger, hop, hmask, Bool.not_true]
  rfl

theorem opTrigger_queues {s : State} {c slot : Nat} {o : OrbOp} {r : SarSeq} (hc : c < 8) (hsh : s.Shaped)
    (hst : s.sarState c = State.sarRun) (hop : s.opOf? slot 1 = some o) (hmask : hasBit o.arga c = true)
    (hrun : (s.sar c).run = some r) (hqueue : (s.sar c).queue = none) :
    (s.opTrigger c slot).sar c = { s.sar c with
        queue := some (seqOf (s.sar c) (s.sar c).cfg.seq0 (o.tag % 256) (some slot)) } ∧
      s.regsBut (s.opTrigger c slot) (sarShown c) := by
  have hleft : Writes (Among (sarShown c)) s (opLeftSet s slot o) := Writes.of_regs rfl
  have hshaped : (opLeftSet s slot o).Shaped := Keeps.shaped_of (s := s) rfl hsh
  rw [opTrigger_named hop hmask, injTrigger_queues (s := opLeftSet s slot o) hst hrun hqueue]
  exact ⟨sar_setSar_same _ hshaped hc, (hleft.trans ((writes_setSar _ _ hc).within (sarView_subset c))).regsBut⟩

/-- The trigger of the window that the converter follows (R231). -/
theorem windowTrigger_followed {s : State} {c w : Nat} (hen : (s.sar c).cfg.cmpEn = true) (hsrc : (s.sar c).cfg.cmpSrc = w) :
    s.windowTrigger c w = s.injTrigger c (seqOf (s.sar c) (s.sar c).cfg.seq1 s.tagByte none) := if_pos (by simp [hen, hsrc])

/-! ### Cancels (R233) -/

section Cancels
variable {s : State} {c slot : Nat} {q : SarSeq}

/-- A sequence of an operation of a frame that has ended is removed from the queue. -/
theorem cancelArrive_queued (hop : q.op = some slot) (htag : q.tag ≠ s.tagByte) (hrun : (s.sar c).run = none)
    (hqueue : (s.sar c).queue = some q) : s.cancelArrive c slot = s.setSar c { s.sar c with queue := none } := by
  simp [cancelArrive, hrun, hqueue, hop, htag]

/-- A sequence that runs is cut to the slots that have been begun. -/
theorem cancelArrive_running {x : SarConv} (hop : q.op = some slot) (htag : q.tag ≠ s.tagByte) (hrun : (s.sar c).run = some q)
    (hqueue : (s.sar c).queue = none) (hcur : (s.sar c).cur = some x) (hinj : x.inj.isSome = true) : s.cancelArrive c slot =
      s.setSar c { s.sar c with queue := none, run := some { q with chans := q.chans.take q.pos } } := by
  simp [cancelArrive, hrun, hqueue, hop, htag, hcur, hinj]

end Cancels

/-! ### The FIFO (R124, R236, R245) -/

section Pops
variable {s : State} {m : Master} {p : PairId} {c : Nat}

/-- The pair that is active takes the oldest word, or reads the word of an empty FIFO. -/
theorem fifoPop_active (hp : masterPair? m = some p) (hfence : s.on (fenceFld p) = false) (hst : s.pairState p = pairActive) :
    s.fifoPop m c = State.setSar { s with bus := .data ((s.sar c).fifo.headD 0x000E0000) } c
      { s.sar c with fifo := (s.sar c).fifo.drop 1 } := by
  simp [fifoPop, hp, hfence, hst]

/-- A standby pair reads the word and leaves it. -/
theorem fifoPop_standby (hp : masterPair? m = some p) (hfence : s.on (fenceFld p) = false) (hst : s.pairState p = pairStandby) :
    s.fifoPop m c = { s with bus := .data ((s.sar c).fifo.headD 0x000E0000) } := by
  simp [fifoPop, hp, hfence, hst]

end Pops

theorem sns_fifo_lt {c : Nat} (hc : c < 8) : Ev.SNS_FIFO c < 192 := show 48 + c < 192 by omega

/-- The registers that a push to the FIFO writes (R236, R249). -/
abbrev pushFields (c : Nat) : List Fld := [Reg.SAR_FIFO_OVF_COUNT_COUNT c, Reg.SNS_FLAGS_FIFO_OVF] ++ sarView c

theorem writes_fifoPush (s : State) {c : Nat} (w : Nat) (hc : c < 8) : Writes (AmongEv (pushFields c)) s (s.fifoPush c w) := by
  have hraise (u : State) : Writes (AmongEv (pushFields c)) u (u.raise (Ev.SNS_FIFO c)) := Writes.raise amongEv_ev (sns_fifo_lt hc)
  exact Writes.ite ((Writes.unit_wr Reg.SAR_FIFO_OVF_COUNT_COUNT _ hc (by decide)).trans
    (Writes.unit_wr (fun _ => Reg.SNS_FLAGS_FIFO_OVF) _ hc (by decide)))
    (((writes_setSar s _ hc).withinEv (List.subset_append_right _ _)).trans (Writes.when hraise))

/-- A push to a FIFO with room (R236). -/
theorem fifoPush_room {s : State} {c w : Nat} (hc : c < 8) (hsh : s.Shaped) (hroom : (s.sar c).fifo.length < 64) :
    (s.fifoPush c w).sar c = { s.sar c with fifo := (s.sar c).fifo ++ [w] } ∧ Writes (AmongEv (sarView c)) s (s.fifoPush c w) := by
  have hraise (u : State) : Writes (AmongEv (sarView c)) u (u.raise (Ev.SNS_FIFO c)) := Writes.raise amongEv_ev (sns_fifo_lt hc)
  rw [fifoPush, if_neg (by omega)]
  exact ⟨(when_keeps (·.sar c) _ _ (raise_sar _ _ c)).trans (sar_setSar_same _ hsh hc),
    ((writes_setSar s _ hc).withinEv (List.Subset.refl _)).trans (Writes.when hraise)⟩

/-- The word that stands for a packet that is lost (R245). -/
abbrev lostWord (s : State) (c : Nat) (inj : Bool) : Nat := resultWord 0 15 false true inj false (s.sar c).lastTag

/-- A packet lost of converter `c` is counted and flagged (R245). -/
def lostNoted (s : State) (c : Nat) : State := (s.incSat (Reg.SAR_COUNTS_LOST c)).setB Reg.SNS_FLAGS_LOST c

/-- A packet is lost while none is on the link (R245). -/
theorem placeholder_empty {s : State} {c : Nat} (h : (s.sar c).flight = []) :
    s.placeholder c = (lostNoted (s.fifoPush c (lostWord s c false)) c).raise Ev.SNS_LOST := by
  simp only [placeholder, flightPop, h]
  rfl

/-- The registers that note a packet that is lost (R245). -/
abbrev lostNotes (c : Nat) : List Fld := [Reg.SAR_COUNTS_LOST c, Reg.SNS_FLAGS_LOST]

/-- The same, and those that show the converter. -/
abbrev lostFields (c : Nat) : List Fld := Reg.SAR_COUNTS_LOST c :: Reg.SNS_FLAGS_LOST :: sarShown c

theorem writes_lostNoted (s : State) {c : Nat} (hc : c < 8) : Writes (AmongEv (lostNotes c)) s (lostNoted s c) :=
  (Writes.unit_wr Reg.SAR_COUNTS_LOST _ hc (by decide)).trans (Writes.unit_wr (fun _ => Reg.SNS_FLAGS_LOST) _ hc (by decide))

theorem lostNoted_shows {s : State} {c : Nat} (hc : c < 8) (hs : s.regsOk) :
    (lostNoted s c).rd (Reg.SAR_COUNTS_LOST c) = satInc (2 ^ (Reg.SAR_COUNTS_LOST c).width - 1) (s.rd (Reg.SAR_COUNTS_LOST c)) ∧
      hasBit ((lostNoted s c).rd Reg.SNS_FLAGS_LOST) c = true :=
  ⟨(rd_wr_unit_ne Reg.SAR_COUNTS_LOST (fun _ => Reg.SNS_FLAGS_LOST) hc (by decide)).trans (rd_incSat_same _ hs),
    hasBit_rd_putB true (keysRise_wr _ _ _ hs) hc⟩

/-- R245: one packet is missing of a converter whose FIFO has room. -/
theorem placeholder_shows {s : State} {c : Nat} (hc : c < 8) (hs : s.regsOk) (hsh : s.Shaped) (hflight : (s.sar c).flight = [])
    (hroom : (s.sar c).fifo.length < 64) :
    ((s.placeholder c).sar c).fifo = (s.sar c).fifo ++ [lostWord s c false] ∧
      (s.placeholder c).rd (Reg.SAR_COUNTS_LOST c) = satInc (2 ^ (Reg.SAR_COUNTS_LOST c).width - 1) (s.rd (Reg.SAR_COUNTS_LOST c)) ∧
      hasBit ((s.placeholder c).rd Reg.SNS_FLAGS_LOST) c = true ∧ s.raisedIn (s.placeholder c) Ev.SNS_LOST ∧
      (s.placeholder c).sarState c = s.sarState c ∧ s.regsButEv (s.placeholder c) (lostFields c) := by
  obtain ⟨hfifo, hpush⟩ := fifoPush_room (w := lostWord s c false) hc hsh hroom
  obtain ⟨hcount, hflag⟩ := lostNoted_shows hc (hpush.regsOk hs)
  have hkept (u : State) (f : Nat → Fld) (hf : ∀ i < 8, ¬ evKey (f i).key) : (u.raise Ev.SNS_LOST).rd (f c) = u.rd (f c) :=
    rd_raise u _ (by decide) _ (hf c hc)
  have hnoted : Writes (AmongEv (lostFields c)) s (lostNoted (s.fifoPush c (lostWord s c false)) c) :=
    (hpush.among (by simp)).trans ((writes_lostNoted _ hc).among (by simp))
  rw [placeholder_empty hflight, hkept _ Reg.SAR_COUNTS_LOST (by decide), hkept _ (fun _ => Reg.SNS_FLAGS_LOST) (by decide), hcount]
  refine ⟨?_, ?_, hflag, hnoted.unit_raisedIn (Writes.refl (W := evKey)) hs (by decide) hc (by decide), ?_,
    (hnoted.trans (Writes.raise amongEv_ev (by decide))).regsButEv⟩
  · rw [raise_sar]
    exact congrArg SarSt.fifo hfifo
  · rw [hpush.unit_rd Reg.SAR_COUNTS_LOST hc (by decide)]
  · have hlost : (lostNoted (s.fifoPush c (lostWord s c false)) c).sarState c = (s.fifoPush c (lostWord s c false)).sarState c :=
      (rd_wr_unit_ne Reg.SAR_STATUS_STATE (fun _ => Reg.SNS_FLAGS_LOST) hc (by decide)).trans
        (rd_wr_unit_ne Reg.SAR_STATUS_STATE Reg.SAR_COUNTS_LOST hc (by decide))
    exact (hkept _ Reg.SAR_STATUS_STATE (by decide)).trans (hlost.trans (hpush.unit_rd Reg.SAR_STATUS_STATE hc (by decide)))

/-! ### Packets lost of any kind (R92, R245) -/

/-- A key that a packet lost of converter `c` may write: with the operation that ends with it, RETIRED of its slot (R92). -/
def lostKey (c k : Nat) : Prop :=
  AmongEv (lostNotes c ++ pushFields c) k ∨ ∃ slot, k = (Reg.ORB_SLOT_STAT_RETIRED slot).key

/-- An operation of any slot retires: RETIRED is no bit at which a pending word starts. -/
theorem lost_retire (s : State) (c slot : Nat) : Writes (lostKey c) s (s.retire slot) := by
  have hpend (g w : Nat) : (Reg.EVF_PEND_PEND g w).key ≠ (Reg.ORB_SLOT_STAT_RETIRED slot).key := by simp only [Fld.key]; omega
  have hretired (u : State) : Writes (lostKey c) u (u.wr (Reg.ORB_SLOT_STAT_RETIRED slot) 1) :=
    ⟨keysRise_wr u _ _, fun f hf => rd_wr_ne u 1 fun h => hf (.inr ⟨slot, h⟩),
      fun _ g e _ _ hp => (congrArg (hasBit · (e % 32)) (rd_wr_ne u 1 (hpend g (e / 32)))).trans hp⟩
  have htaken : Writes (lostKey c) s { s with orbit := { s.orbit with ops := s.orbit.ops.filter fun o => o.slot != slot } } :=
    Writes.of_regs rfl
  exact Writes.ite (htaken.trans (hretired _)) Writes.refl

theorem lost_opResult (s : State) (c slot tag : Nat) : Writes (lostKey c) s (s.opResult c slot tag) := by
  unfold opResult
  split
  · exact Writes.refl
  · refine Writes.ite Writes.refl (Writes.ite (Writes.trans ?_ (lost_retire _ c slot)) ?_)
    · exact Writes.of_regs rfl
    · exact Writes.of_regs rfl

/-- A packet that is on the link is taken off it as lost (R245). -/
def lostTaken (s : State) (c : Nat) (p : SarPkt) (r : List SarPkt) : State :=
  let t := s.setSar c { s.sar c with flight := r }
  (lostNoted (t.fifoPush c (lostWord t c p.inj)) c).raise Ev.SNS_LOST

/-- A packet of the link is lost, and with it, where it was the last of an operation, the result that the operation waits for. -/
theorem placeholder_cons {s : State} {c : Nat} {p : SarPkt} {r : List SarPkt} (h : (s.sar c).flight = p :: r) :
    s.placeholder c = lostTaken s c p r ∨ ∃ slot, s.placeholder c = (lostTaken s c p r).opResult c slot p.tag := by
  simp only [placeholder, flightPop, h]
  split
  next slot _ _ => exact .inr ⟨slot, rfl⟩
  next => exact .inl rfl

/-- A packet is lost, and the operation whose last result it was retires with it (R92, R245). -/
theorem lost_placeholder (s : State) {c : Nat} (hc : c < 8) : Writes (lostKey c) s (s.placeholder c) := by
  have hset (v : SarSt) : Writes (lostKey c) s (s.setSar c v) :=
    (writes_setSar s v hc).mono fun k hk => .inl (.inl (among_mono (by simp) k hk))
  have hpush (u : State) (w : Nat) : Writes (lostKey c) u (u.fifoPush c w) :=
    (writes_fifoPush u w hc).mono fun k hk => .inl (amongEv_mono (by simp) k hk)
  have hnoted (u : State) : Writes (lostKey c) u (lostNoted u c) :=
    (writes_lostNoted u hc).mono fun k hk => .inl (amongEv_mono (by simp) k hk)
  have hraise (u : State) : Writes (lostKey c) u (u.raise Ev.SNS_LOST) := Writes.raise (fun k hk => .inl (.inr hk)) (by decide)
  cases hflight : (s.sar c).flight with
  | nil =>
    rw [placeholder_empty hflight]
    exact ((hpush s _).trans (hnoted _)).trans (hraise _)
  | cons p r =>
    have htaken : Writes (lostKey c) s (lostTaken s c p r) := (((hset _).trans (hpush _ _)).trans (hnoted _)).trans (hraise _)
    rcases placeholder_cons hflight with heq | ⟨slot, heq⟩
    · rw [heq]
      exact htaken
    · rw [heq]
      exact htaken.trans (lost_opResult _ c slot p.tag)

end Sys2Proof.Machine
end

section
/-! SUPPORT. The configuration and the states of the converters (R238 to R241, R245): commits, enable, initialisation, check, fault and
soft reset. -/

set_option Elab.async false

open Sys2Proof.Machine.State

namespace Sys2Proof.Machine

/-! ### Configuration (R239) -/

theorem sarState_toTick (s : State) (c tick : Nat) (hc : c < 8) : (s.toTick tick).sarState c = s.sarState c := by
  by_cases h : tick ≤ s.rd Reg.ORB_TICK_TICK
  · rw [toTick_of_le h]
  · simp only [toTick, if_neg h]
    rw [State.sarState, rd_wr_unit_ne Reg.SAR_STATUS_STATE (fun _ => Reg.ORB_TICK_TICK) hc (by decide),
      rd_wr_unit_ne Reg.SAR_STATUS_STATE (fun _ => Reg.ORB_ANGLE_THETA) hc (by decide), rd_update]
    rfl

/-- A write of a converter's register that lands at a tick. -/
theorem exec_sarConfigWrite {s : State} {m : Master} {c v tick : Nat} {r : SarReg} (hc : c < 8) (hreg : sarRegOk r = true)
    (hr : (s.toTick tick).right m (sarAddr c r) .cr = .allow) :
    exec (.sarConfigWrite m c r v tick) s = .next ((s.toTick tick).acked.sarConfigWrite c r v tick) :=
  congrArg Host.Outcome.next ((if_pos (by simp [hc, hreg])).trans (access_allow _ hr))

/-- A scan mask that is written in OFF applies at once. -/
theorem sarConfigWrite_scan_off {s : State} {c v tick : Nat} (hc : c < 8) (hst : s.sarState c = sarOff) :
    s.sarConfigWrite c .scan v tick = (s.wr (Reg.SAR_SCAN_MASK c) v).sarApplyOff c := by
  have hkept : (s.wr (Reg.SAR_SCAN_MASK c) v).sarState c = sarOff :=
    (rd_wr_unit_ne Reg.SAR_STATUS_STATE Reg.SAR_SCAN_MASK hc (by decide)).trans hst
  exact (if_neg Bool.false_ne_true).trans (if_pos hkept)

/-- An averaging code above 8 is refused. -/
theorem sarConfigWrite_refused {s : State} {c ch v tick : Nat} (h : 8 < fieldOf v 8 4) :
    s.sarConfigWrite c (.chcfg ch) v tick = s.wr (Reg.SAR_STATUS_CFG_ERR c) 1 := if_pos (decide_eq_true h)

/-- A commit applies, and a conversion of the scan that starts is chosen anew. -/
theorem sarCommit_cases (s : State) (c : Nat) (n : SarCfg) : ∃ l,
    s.sarCommit c n = s.setSar c { sarApply (s.sar c) n with lastScan := l } ∨
      s.sarCommit c n = (s.setSar c { sarApply (s.sar c) n with lastScan := l }).scanNext c := by
  unfold sarCommit
  exact ⟨_, (ite_eq_or_eq _ _ _).symm⟩

theorem sarCommit_shows {s : State} {c : Nat} {n : SarCfg} (hc : c < 8) (hsh : s.Shaped) :
    ((s.sarCommit c n).sar c).cfg = n ∧ ((s.sarCommit c n).sar c).ready = none ∧ s.regsBut (s.sarCommit c n) (sarShown c) := by
  obtain ⟨l, h⟩ := sarCommit_cases s c n
  have hset := sar_setSar_same { sarApply (s.sar c) n with lastScan := l } hsh hc
  have hwrites := (writes_setSar s { sarApply (s.sar c) n with lastScan := l } hc).within (sarView_subset c)
  rcases h with heq | heq
  · rw [heq, hset]
    exact ⟨rfl, rfl, hwrites.regsBut⟩
  · rw [heq]
    exact ⟨(scanNext_keeps SarSt.cfg (fun _ _ _ _ => rfl) _ c).trans (congrArg SarSt.cfg hset),
      (scanNext_keeps SarSt.ready (fun _ _ _ _ => rfl) _ c).trans (congrArg SarSt.ready hset),
      (hwrites.trans ((writes_scanNext _ hc).within (sarView_subset c))).regsBut⟩

theorem exec_sarConfigCommit {s : State} {c : Nat} {n : SarCfg} (hc : c < 8) (h : (s.sar c).ready = some n) :
    exec (.sarConfigCommit c) s = .next (s.sarCommit c n) := by
  refine congrArg Host.Outcome.next ((if_pos hc).trans ?_)
  rw [h]

theorem exec_sarConfigCommit_none {s : State} {c : Nat} (h : (s.sar c).ready = none) : exec (.sarConfigCommit c) s = .next s := by
  refine congrArg Host.Outcome.next (ite_eq_right_iff.mpr fun _ => ?_)
  rw [h]

/-! ### Enable and disable (R240) -/

/-- A converter in OFF that is enabled enters INIT while the link is up. -/
theorem sarEnable_shows {s : State} {c : Nat} (hc : c < 8) (hs : s.regsOk) (hst : s.sarState c = sarOff)
    (hup : s.on Reg.SNS_LINK_DOWN = false) :
    hasBit (((s.setB Reg.SNS_CTRL_EN c).sarPower c).rd Reg.SNS_CTRL_EN) c = true ∧
      ((s.setB Reg.SNS_CTRL_EN c).sarPower c).sarState c = sarInit ∧
      s.regsBut ((s.setB Reg.SNS_CTRL_EN c).sarPower c) (Reg.SNS_CTRL_EN :: sarShown c) := by
  have hen : hasBit ((s.setB Reg.SNS_CTRL_EN c).rd Reg.SNS_CTRL_EN) c = true := hasBit_rd_putB true hs hc
  have hset : (s.setB Reg.SNS_CTRL_EN c).regsOk := keysRise_wr _ _ _ hs
  have hoff : (s.setB Reg.SNS_CTRL_EN c).sarState c = sarOff :=
    (rd_wr_unit_ne Reg.SAR_STATUS_STATE (fun _ => Reg.SNS_CTRL_EN) hc (by decide)).trans hst
  have hlink : (s.setB Reg.SNS_CTRL_EN c).on Reg.SNS_LINK_DOWN = false := (congrArg (· == 1) (rd_wr_ne s _ (by decide))).trans hup
  have heq : (s.setB Reg.SNS_CTRL_EN c).sarPower c = (s.setB Reg.SNS_CTRL_EN c).setSarState c sarInit :=
    if_pos (by simp [hoff, hen, hlink])
  have hmove := writes_setSarState (s.setB Reg.SNS_CTRL_EN c) sarInit hc
  have hwrite : Writes (Among (Reg.SNS_CTRL_EN :: sarShown c)) s (s.setB Reg.SNS_CTRL_EN c) := Writes.wr _ ⟨_, by simp, rfl⟩ (by decide)
  rw [heq]
  refine ⟨?_, sarState_setSarState hset (by decide), (hwrite.trans (hmove.within (by simp))).regsBut⟩
  rw [hmove.sar_rd (fun _ => Reg.SNS_CTRL_EN) hc (by decide)]
  exact hen

/-- What SD holds of a converter as it is disabled: no work and no packet on the link, and its windows empty. -/
def sarStopped (k : SarSt) : SarSt :=
  { k with cur := none, run := none, queue := none, checkPend := false, flight := [], wins := List.replicate 12 {},
           settle := List.replicate 12 0, refSettle := List.replicate 12 0, resume := false }

/-- A converter that has stopped, with its EN bit clear. -/
abbrev sarCut (s : State) (c : Nat) : State := (s.clrB Reg.SNS_CTRL_EN c).setSar c (sarStopped (s.sar c))

theorem sarDisable_eq (s : State) (c : Nat) : s.sarDisable c = ((sarCut s c).setSarState c sarOff).sarApplyOff c := rfl

theorem sarDisable_holds {s : State} {c : Nat} (hc : c < 8) (hsh : s.Shaped) : ((s.sarDisable c).sar c).cur = none ∧
    ((s.sarDisable c).sar c).run = none ∧ ((s.sarDisable c).sar c).queue = none ∧ ((s.sarDisable c).sar c).fifo = (s.sar c).fifo := by
  have hcut : ((sarCut s c).setSarState c sarOff).sar c = sarStopped (s.sar c) :=
    (setSarState_sar _ c sarOff c).trans (sar_setSar_same _ (shaped_wr hsh) hc)
  have hshaped : ((sarCut s c).setSarState c sarOff).Shaped := (kp_setSarState _ c sarOff).shaped (shaped_setSar c _ (shaped_wr hsh))
  rw [sarDisable_eq, sarApplyOff, sar_setSar_same _ hshaped hc, hcut]
  exact ⟨rfl, rfl, rfl, rfl⟩

theorem sarDisable_shows {s : State} {c : Nat} (hc : c < 8) (hs : s.regsOk) :
    hasBit ((s.sarDisable c).rd Reg.SNS_CTRL_EN) c = false ∧ (s.sarDisable c).sarState c = sarOff ∧
      hasBit ((s.sarDisable c).rd Reg.SNS_STATUS_RUN) c = false ∧ s.regsBut (s.sarDisable c) (Reg.SNS_CTRL_EN :: sarShown c) := by
  have hclear : Writes (Among (Reg.SNS_CTRL_EN :: sarShown c)) s (s.clrB Reg.SNS_CTRL_EN c) := Writes.wr _ ⟨_, by simp, rfl⟩ (by decide)
  have hset := writes_setSar (s.clrB Reg.SNS_CTRL_EN c) (sarStopped (s.sar c)) hc
  have hmove := writes_setSarState (sarCut s c) sarOff hc
  have happly : Writes (Among (sarView c)) ((sarCut s c).setSarState c sarOff) (s.sarDisable c) := writes_setSar _ _ hc
  have hcut : (sarCut s c).regsOk := hset.regsOk (hclear.regsOk hs)
  refine ⟨?_, (happly.sarState hc).trans (sarState_setSarState hcut (by decide)), ?_,
    (((hclear.trans (hset.within (by simp))).trans (hmove.within (by simp))).trans (happly.within (by simp))).regsBut⟩
  · rw [happly.sar_rd (fun _ => Reg.SNS_CTRL_EN) hc (by decide), hmove.sar_rd (fun _ => Reg.SNS_CTRL_EN) hc (by decide),
      hset.sar_rd (fun _ => Reg.SNS_CTRL_EN) hc (by decide)]
    exact hasBit_rd_putB false hs hc
  · rw [happly.sarRun hc]
    exact sarRun_setSarState hc hcut

/-! ### Faults (R240) -/

/-- What SD holds of a converter in FAULT: no work and no packet on the link. -/
def sarFaulted (k : SarSt) : SarSt := { k with cur := none, run := none, queue := none, checkPend := false, flight := [] }

/-- A converter in FAULT whose flag is set. -/
def faultFlagged (s : State) (c : Nat) : State :=
  ((s.setSar c (sarFaulted (s.sar c))).setSarState c sarFault).setB Reg.SNS_FLAGS_FAULT c

theorem sarFaults_eq (s : State) (c : Nat) : s.sarFaults c = (faultFlagged s c).raise Ev.SNS_FAULT := rfl

/-- The registers of a fault (R240, R249). -/
abbrev sarFaultFields (c : Nat) : List Fld := Reg.SNS_FLAGS_FAULT :: sarShown c

theorem writes_faultFlagged (s : State) {c : Nat} (hc : c < 8) : Writes (AmongEv (sarFaultFields c)) s (faultFlagged s c) :=
  (((writes_setSar s _ hc).withinEv (by simp)).trans ((writes_setSarState _ sarFault hc).withinEv (by simp))).trans
    (Writes.unit_wr (fun _ => Reg.SNS_FLAGS_FAULT) _ hc (by decide))

theorem sarFaults_sar {s : State} {c : Nat} (hc : c < 8) (hsh : s.Shaped) : (s.sarFaults c).sar c = sarFaulted (s.sar c) :=
  calc (s.sarFaults c).sar c = (faultFlagged s c).sar c := raise_sar _ Ev.SNS_FAULT c
    _ = (s.setSar c (sarFaulted (s.sar c))).sar c := (wr_sar _ Reg.SNS_FLAGS_FAULT _ c).trans (setSarState_sar _ c sarFault c)
    _ = sarFaulted (s.sar c) := sar_setSar_same _ hsh hc

theorem sarFaults_shows {s : State} {c : Nat} (hc : c < 8) (hs : s.regsOk) :
    (s.sarFaults c).sarState c = sarFault ∧ hasBit ((s.sarFaults c).rd Reg.SNS_FLAGS_FAULT) c = true ∧
      s.raisedIn (s.sarFaults c) Ev.SNS_FAULT ∧ s.regsButEv (s.sarFaults c) (sarFaultFields c) := by
  have hflag := writes_faultFlagged s hc
  have hmoved : ((s.setSar c (sarFaulted (s.sar c))).setSarState c sarFault).regsOk :=
    (writes_setSarState _ sarFault hc).regsOk ((writes_setSar s _ hc).regsOk hs)
  refine ⟨sarState_sarFaults hc hs, ?_, hflag.unit_raisedIn (Writes.refl (W := evKey)) hs (by decide) hc (by decide),
    (hflag.trans (Writes.raise amongEv_ev (by decide))).regsButEv⟩
  rw [sarFaults_eq, rd_raise _ _ (by decide) _ (by decide)]
  exact hasBit_rd_putB true hmoved hc

/-- R245: a fault after packets that are lost raises its event, whose route the packets leave. -/
theorem sarFaults_raises_of_lost {s t : State} {c : Nat} (h : Writes (lostKey c) s t) (hc : c < 8) (hs : s.regsOk) :
    s.raisedIn (t.sarFaults c) Ev.SNS_FAULT := by
  have hbelow : ∀ i < 8, ∀ g ∈ lostNotes i ++ pushFields i, g.key < 0x400B0000 * 32 := by decide
  have hroute : ¬ lostKey c (Reg.EVF_ROUTE_TARGET Ev.SNS_FAULT).key := by
    rintro (hk | ⟨slot, hk⟩)
    · exact route_not_among (by decide) (fun g hg => .inl (hbelow c hc g hg)) hk
    · simp only [Fld.key] at hk
      omega
  obtain ⟨-, -, hraised, -⟩ := sarFaults_shows hc (h.regsOk hs)
  exact fun g hg hb => hraised g hg (by rwa [eventTargets_of_rd _ (h.rd _ hroute)])

/-- Packets that are lost one after the other (R245). -/
abbrev placeholders (s : State) (n c : Nat) : State := s.forEach (List.range n) fun s _ => s.placeholder c

theorem lost_placeholders (s : State) (n : Nat) {c : Nat} (hc : c < 8) : Writes (lostKey c) s (placeholders s n c) :=
  Writes.forEach (fun u _ _ => lost_placeholder u hc) s

theorem shaped_placeholders {s : State} (n c : Nat) (hsh : s.Shaped) : (placeholders s n c).Shaped :=
  (Keeps.forEach Keeps.refl fun u _ => kp_placeholder u c).shaped hsh

/-- A gap of more than 8 packets ends in FAULT, after nine of them (R245). -/
theorem exec_sarPacketGap_faults {s : State} {c n : Nat} (hc : c < 8) (hn : 8 < n) (hst : s.sarState c = State.sarRun) :
    exec (.sarPacketGap c n) s = .next ((placeholders s (Nat.min n 9) c).sarFaults c) :=
  congrArg Host.Outcome.next ((if_pos (by simp [hc, hst])).trans (if_pos hn))

/-! ### Initialisation and check (R240) -/

/-- A converter as INIT ends: a commit that waits is in force, and the scan begins anew. -/
abbrev sarBegun (k : SarSt) : SarSt := { k with cfg := k.ready.getD k.cfg, ready := none, lastScan := none, cur := none }

/-- A converter in RUN whose scan begins anew. -/
abbrev sarStarted (s : State) (c : Nat) : State := (s.setSar c (sarBegun (s.sar c))).setSarState c State.sarRun

/-- The end of INIT with a reference that is good. -/
theorem sarInitDone_good {s : State} {c : Nat} (hst : s.sarState c = sarInit) : s.sarInitDone c true = (sarStarted s c).scanNext c :=
  (if_neg (by simp [hst])).trans (if_neg (by decide))

/-- The end of INIT with a reference that is not. -/
theorem sarInitDone_bad {s : State} {c : Nat} (hst : s.sarState c = sarInit) : s.sarInitDone c false = s.sarFaults c :=
  (if_neg (by simp [hst])).trans (if_pos (by decide))

/-- The converter runs, and the scan begins at its lowest channel. -/
theorem sarInitDone_shows {s : State} {c : Nat} (hc : c < 8) (hs : s.regsOk) (hsh : s.Shaped) (hst : s.sarState c = sarInit)
    (hready : (s.sar c).ready = none) :
    (s.sarInitDone c true).sarState c = State.sarRun ∧ hasBit ((s.sarInitDone c true).rd Reg.SNS_STATUS_RUN) c = true ∧
      ((s.sarInitDone c true).sar c).cur = (scanPick (s.sar c).cfg.mask none).map
        (fun ch => ⟨ch, nth (s.sar c).cfg.gain ch 0, s.tagByte, none, false⟩) ∧ s.regsBut (s.sarInitDone c true) (sarShown c) := by
  have hset := writes_setSar s (sarBegun (s.sar c)) hc
  have hmove := writes_setSarState (s.setSar c (sarBegun (s.sar c))) State.sarRun hc
  have hscan := writes_scanNext (sarStarted s c) hc
  have hbegun : (sarStarted s c).sar c = sarBegun (s.sar c) :=
    (setSarState_sar _ c State.sarRun c).trans (sar_setSar_same _ hsh hc)
  have hshaped : (sarStarted s c).Shaped := (kp_setSarState _ c _).shaped (shaped_setSar c _ hsh)
  have hstarted : Writes (Among (sarShown c)) s (sarStarted s c) :=
    (hset.within (sarView_subset c)).trans (hmove.within (sarMove_subset c))
  have htag : (sarStarted s c).tagByte = s.tagByte :=
    congrArg (· % 256) (hstarted.sar_rd (fun _ => Reg.ORB_FRAME_COUNT) hc (by decide))
  rw [sarInitDone_good hst]
  refine ⟨(hscan.sarState hc).trans (sarState_setSarState (hset.regsOk hs) (by decide)), ?_, ?_,
    (hstarted.trans (hscan.within (sarView_subset c))).regsBut⟩
  · rw [hscan.sarRun hc]
    exact sarRun_setSarState hc (hset.regsOk hs)
  · obtain ⟨l, p, heq⟩ := scanNext_eq (sarStarted s c) c
    rw [heq, sar_setSar_same _ hshaped hc, hbegun, htag, sarBegun, hready]
    rfl

/-- A check of a converter that converts waits for the conversion. -/
theorem sarCheckCmd_waits {s : State} {c : Nat} {x : SarConv} (hst : s.sarState c = State.sarRun) (hcur : (s.sar c).cur = some x) :
    s.sarCheckCmd c = s.setSar c { s.sar c with checkPend := true } := by
  simp [sarCheckCmd, hst, hcur]

/-- The registers that show a check (R240). -/
abbrev checkShown (c : Nat) : List Fld := [Reg.SAR_CHECK_DONE c, Reg.SAR_CHECK_PASS c, Reg.SAR_CHECK_TEMP c]

/-- The results of a check. -/
def checkNoted (s : State) (c : Nat) (pass : Bool) (c9 : Int) : State :=
  ((s.wr (Reg.SAR_CHECK_DONE c) 1).wr (Reg.SAR_CHECK_PASS c) (b2n pass)).wr (Reg.SAR_CHECK_TEMP c) (ofSigned 16 c9)

theorem writes_checkNoted (s : State) {c : Nat} (pass : Bool) (c9 : Int) (hc : c < 8) :
    Writes (Among (checkShown c)) s (checkNoted s c pass c9) :=
  ((Writes.sar_wr Reg.SAR_CHECK_DONE 1 hc (by decide)).trans (Writes.sar_wr Reg.SAR_CHECK_PASS _ hc (by decide))).trans
    (Writes.sar_wr Reg.SAR_CHECK_TEMP _ hc (by decide))

theorem ofSigned_lt (w : Nat) (x : Int) : ofSigned w x < 2 ^ w := by
  have hpos : (0 : Int) < (2 ^ w : Nat) := by positivity
  exact (Int.toNat_lt (Int.emod_nonneg x hpos.ne')).mpr (Int.emod_lt_of_pos x hpos)

theorem checkNoted_shows {s : State} {c : Nat} (pass : Bool) (c9 : Int) (hc : c < 8) (hs : s.regsOk) :
    (checkNoted s c pass c9).rd (Reg.SAR_CHECK_DONE c) = 1 ∧ (checkNoted s c pass c9).rd (Reg.SAR_CHECK_PASS c) = b2n pass ∧
      (checkNoted s c pass c9).rd (Reg.SAR_CHECK_TEMP c) = ofSigned 16 c9 := by
  have hdone : (s.wr (Reg.SAR_CHECK_DONE c) 1).regsOk := keysRise_wr _ _ _ hs
  refine ⟨?_, ?_, rd_wr_lt (keysRise_wr _ _ _ hdone) (ofSigned_lt 16 c9)⟩
  · refine (rd_wr_unit_ne Reg.SAR_CHECK_DONE Reg.SAR_CHECK_TEMP hc (by decide)).trans ?_
    exact (rd_wr_unit_ne Reg.SAR_CHECK_DONE Reg.SAR_CHECK_PASS hc (by decide)).trans (rd_wr_same _ _ _ hs)
  · exact (rd_wr_unit_ne Reg.SAR_CHECK_PASS Reg.SAR_CHECK_TEMP hc (by decide)).trans (rd_wr_lt hdone (b2n_lt pass))

/-- A converter that returns to RUN from a check. -/
abbrev checkLeft (s : State) (c : Nat) : State := (s.setSarState c State.sarRun).setSar c { s.sar c with resume := true }

/-- A check that passes: the converter goes on (R227, R240). -/
theorem sarCheckDone_passes {s : State} {c : Nat} {c8 c9 c11 : Int} (hst : s.sarState c = sarCheck)
    (h : -16 ≤ c8 ∧ c8 ≤ 16 ∧ -5120 ≤ c9 ∧ c9 ≤ 20480 ∧ c11 ≤ -32752) :
    s.sarCheckDone c c8 c9 c11 = (checkLeft (checkNoted s c true c9) c).convNext c := by
  have hnot : ¬ (s.sarState c != sarCheck) = true := by simp [hst]
  simp only [sarCheckDone, if_neg hnot, decide_eq_true h]
  rfl

/-- A check that fails: the converter enters FAULT (R240). -/
theorem sarCheckDone_fails {s : State} {c : Nat} {c8 c9 c11 : Int} (hst : s.sarState c = sarCheck)
    (h : ¬ (-16 ≤ c8 ∧ c8 ≤ 16 ∧ -5120 ≤ c9 ∧ c9 ≤ 20480 ∧ c11 ≤ -32752)) :
    s.sarCheckDone c c8 c9 c11 = (checkNoted s c false c9).sarFaults c := by
  have hnot : ¬ (s.sarState c != sarCheck) = true := by simp [hst]
  simp only [sarCheckDone, if_neg hnot, decide_eq_false h]
  rfl

theorem sarCheckDone_passes_shows {s : State} {c : Nat} {c8 c9 c11 : Int} (hc : c < 8) (hs : s.regsOk) (hsh : s.Shaped)
    (hst : s.sarState c = sarCheck) (h : -16 ≤ c8 ∧ c8 ≤ 16 ∧ -5120 ≤ c9 ∧ c9 ≤ 20480 ∧ c11 ≤ -32752)
    (hpend : (s.sar c).checkPend = false) :
    (s.sarCheckDone c c8 c9 c11).rd (Reg.SAR_CHECK_DONE c) = 1 ∧ (s.sarCheckDone c c8 c9 c11).rd (Reg.SAR_CHECK_PASS c) = 1 ∧
      (s.sarCheckDone c c8 c9 c11).rd (Reg.SAR_CHECK_TEMP c) = ofSigned 16 c9 ∧ (s.sarCheckDone c c8 c9 c11).sarState c = State.sarRun ∧
      s.regsBut (s.sarCheckDone c c8 c9 c11) (checkShown c ++ sarShown c) := by
  obtain ⟨hdone, hpass, htemp⟩ := checkNoted_shows true c9 hc hs
  have hnoted := writes_checkNoted s true c9 hc
  have hmove := writes_setSarState (checkNoted s c true c9) State.sarRun hc
  have hset := writes_setSar ((checkNoted s c true c9).setSarState c State.sarRun)
    { (checkNoted s c true c9).sar c with resume := true } hc
  have hshaped : ((checkNoted s c true c9).setSarState c State.sarRun).Shaped := Keeps.shaped_of (s := s) rfl hsh
  have hunchecked : ((checkLeft (checkNoted s c true c9) c).sar c).checkPend = false :=
    (congrArg SarSt.checkPend (sar_setSar_same _ hshaped hc)).trans hpend
  have hnext := writes_convNext_unchecked hc hunchecked
  have hafter : Writes (Among (sarShown c)) (checkNoted s c true c9) ((checkLeft (checkNoted s c true c9) c).convNext c) :=
    (hmove.within (sarMove_subset c)).trans ((hset.trans hnext).within (sarView_subset c))
  rw [sarCheckDone_passes hst h]
  refine ⟨(hafter.sar_rd Reg.SAR_CHECK_DONE hc (by decide)).trans hdone, (hafter.sar_rd Reg.SAR_CHECK_PASS hc (by decide)).trans hpass,
    (hafter.sar_rd Reg.SAR_CHECK_TEMP hc (by decide)).trans htemp, ?_,
    ((hnoted.within (List.subset_append_left _ _)).trans (hafter.within (List.subset_append_right _ _))).regsBut⟩
  exact ((hset.trans hnext).sarState hc).trans (sarState_setSarState (hnoted.regsOk hs) (by decide))

theorem sarCheckDone_fails_shows {s : State} {c : Nat} {c8 c9 c11 : Int} (hc : c < 8) (hs : s.regsOk) (hst : s.sarState c = sarCheck)
    (h : 16 < c8) :
    (s.sarCheckDone c c8 c9 c11).rd (Reg.SAR_CHECK_DONE c) = 1 ∧ (s.sarCheckDone c c8 c9 c11).rd (Reg.SAR_CHECK_PASS c) = 0 ∧
      (s.sarCheckDone c c8 c9 c11).sarState c = sarFault ∧ s.raisedIn (s.sarCheckDone c c8 c9 c11) Ev.SNS_FAULT := by
  obtain ⟨hdone, hpass, -⟩ := checkNoted_shows false c9 hc hs
  have hnoted := writes_checkNoted s false c9 hc
  obtain ⟨hstate, -, hraised, hframe⟩ := sarFaults_shows (s := checkNoted s c false c9) hc (hnoted.regsOk hs)
  rw [sarCheckDone_fails hst (by omega)]
  have hkept (f : Nat → Fld) (hf : ∀ i < 8, (∀ g ∈ sarFaultFields i, (f i).key ≠ g.key) ∧ ¬ evKey (f i).key) :
      ((checkNoted s c false c9).sarFaults c).rd (f c) = (checkNoted s c false c9).rd (f c) := hframe _ (hf c hc).1 (hf c hc).2
  have hroute := hnoted.sar_rd (fun _ => Reg.EVF_ROUTE_TARGET Ev.SNS_FAULT) hc (by decide)
  exact ⟨(hkept Reg.SAR_CHECK_DONE (by decide)).trans hdone, (hkept Reg.SAR_CHECK_PASS (by decide)).trans hpass, hstate,
    fun g hg hb => hraised g hg (by rwa [eventTargets_of_rd _ hroute])⟩

/-! ### Soft reset (R241) -/

/-- What SD holds of a converter after its soft reset: its configuration, and no work and no result. -/
def sarCleared (k : SarSt) : SarSt :=
  { k with fifo := [], flight := [], wins := List.replicate 12 {}, queue := none, run := none, cur := none, checkPend := false,
           lastScan := none, resume := false, had := 0 }

/-- The latest results of a converter are cleared (R237, R241). -/
def latestCleared (s : State) (c : Nat) : State := s.forEach (List.range 12) fun s ch => s.wr (Reg.SAR_LATEST_WORD c ch) 0

theorem latestCleared_sense (s : State) (c : Nat) : (latestCleared s c).sense = s.sense :=
  forEach_keeps (·.sense) (f := fun s ch => s.wr (Reg.SAR_LATEST_WORD c ch) 0) (fun _ _ => rfl) _ s

theorem rd_latestCleared {s : State} {c ch : Nat} (hs : s.regsOk) (hch : ch < 12) :
    (latestCleared s c).rd (Reg.SAR_LATEST_WORD c ch) = 0 :=
  forEach_reaches (I := State.regsOk) (P := fun u => u.rd (Reg.SAR_LATEST_WORD c ch) = 0) (fun u _ _ => keysRise_wr u _ _)
    (fun u hu => rd_wr_same u _ _ hu) (fun u y _ hy _ h => (rd_wr_ne u 0 (by simp only [Fld.key]; omega)).trans h)
    (List.mem_range.mpr hch) hs

/-- The latest results lie apart from what shows the state of a converter (R249). -/
theorem rd_latestCleared_below (s : State) (c : Nat) {f : Fld} (hf : f.key < 0x40030800 * 32) : (latestCleared s c).rd f = s.rd f :=
  forEach_keeps (·.rd f) (fun u ch => rd_wr_ne u 0 (by simp only [Fld.key] at *; omega)) _ s

/-- A converter whose results are cleared. -/
abbrev resultsCleared (s : State) (c : Nat) : State := latestCleared (s.setSar c (sarCleared (s.sar c))) c

theorem sar_resultsCleared {s : State} {c : Nat} (hc : c < 8) (hsh : s.Shaped) : (resultsCleared s c).sar c = sarCleared (s.sar c) :=
  (sar_of_sense (latestCleared_sense _ c) c).trans (sar_setSar_same _ hsh hc)

theorem sarState_resultsCleared (s : State) {c : Nat} (hc : c < 8) : (resultsCleared s c).sarState c = s.sarState c :=
  (rd_latestCleared_below _ c (by simp only [Fld.key]; omega)).trans ((writes_setSar s _ hc).sarState hc)

/-- A check that runs is ended (R241). -/
def checkEnded (s : State) (c : Nat) : State :=
  if s.sarState c = sarCheck then (s.wr (Reg.SAR_CHECK_DONE c) 0).setSarState c State.sarRun else s

theorem sarSoftReset_eq (s : State) (c : Nat) : s.sarSoftReset c =
    if (checkEnded (resultsCleared s c) c).sarState c = State.sarRun then (checkEnded (resultsCleared s c) c).scanNext c
    else checkEnded (resultsCleared s c) c := rfl

/-- A converter in RUN begins its scan anew after a soft reset. -/
theorem sarSoftReset_running {s : State} {c : Nat} (hc : c < 8) (hst : s.sarState c = State.sarRun) :
    s.sarSoftReset c = (resultsCleared s c).scanNext c := by
  have hrun : (resultsCleared s c).sarState c = State.sarRun := (sarState_resultsCleared s hc).trans hst
  have hnot : ¬ (resultsCleared s c).sarState c = sarCheck := by rw [hrun]; decide
  have hended : checkEnded (resultsCleared s c) c = resultsCleared s c := if_neg hnot
  rw [sarSoftReset_eq, hended, if_pos hrun]

theorem sarSoftReset_shows {s : State} {c : Nat} (hc : c < 8) (hs : s.regsOk) (hsh : s.Shaped) (hst : s.sarState c = State.sarRun) :
    ((s.sarSoftReset c).sar c).fifo = [] ∧ ((s.sarSoftReset c).sar c).flight = [] ∧ ((s.sarSoftReset c).sar c).run = none ∧
      ((s.sarSoftReset c).sar c).queue = none ∧ ((s.sarSoftReset c).sar c).cfg = (s.sar c).cfg ∧
      (s.sarSoftReset c).sarState c = State.sarRun ∧ ∀ ch, ch < 12 → (s.sarSoftReset c).rd (Reg.SAR_LATEST_WORD c ch) = 0 := by
  have hset := writes_setSar s (sarCleared (s.sar c)) hc
  have hscan := writes_scanNext (resultsCleared s c) hc
  have hkeep {β : Type} (Y : SarSt → β) (hY : ∀ k x l p, Y { k with cur := x, lastScan := l, prevScan := p } = Y k) :
      Y (((resultsCleared s c).scanNext c).sar c) = Y (sarCleared (s.sar c)) :=
    (scanNext_keeps Y hY _ c).trans (congrArg Y (sar_resultsCleared hc hsh))
  rw [sarSoftReset_running hc hst]
  refine ⟨hkeep SarSt.fifo fun _ _ _ _ => rfl, hkeep SarSt.flight fun _ _ _ _ => rfl, hkeep SarSt.run fun _ _ _ _ => rfl,
    hkeep SarSt.queue fun _ _ _ _ => rfl, hkeep SarSt.cfg fun _ _ _ _ => rfl,
    (hscan.sarState hc).trans ((sarState_resultsCleared s hc).trans hst), fun ch hch => ?_⟩
  have hbelow : ∀ i < 8, ∀ g ∈ sarView i, g.key < 0x40030800 * 32 := by decide
  refine (hscan.rd _ ?_).trans (rd_latestCleared (hset.regsOk hs) hch)
  rintro ⟨g, hg, hk⟩
  have := hbelow c hc g hg
  simp only [Fld.key] at hk this
  omega

/-! ### Counts (R249) -/

/-- The counts of a converter are cleared. -/
def sarCounts (s : State) (c : Nat) : State :=
  ((s.wr (Reg.SAR_COUNTS_DROPS c) 0).wr (Reg.SAR_COUNTS_LOST c) 0).wr (Reg.SAR_FIFO_OVF_COUNT_COUNT c) 0

/-- The registers that count what a converter dropped, lost and could not store. -/
abbrev countFields (c : Nat) : List Fld := [Reg.SAR_COUNTS_DROPS c, Reg.SAR_COUNTS_LOST c, Reg.SAR_FIFO_OVF_COUNT_COUNT c]

theorem writes_sarCounts (s : State) {c : Nat} (hc : c < 8) : Writes (Among (countFields c)) s (sarCounts s c) :=
  ((Writes.sar_wr Reg.SAR_COUNTS_DROPS 0 hc (by decide)).trans (Writes.sar_wr Reg.SAR_COUNTS_LOST 0 hc (by decide))).trans
    (Writes.sar_wr Reg.SAR_FIFO_OVF_COUNT_COUNT 0 hc (by decide))

theorem rd_sarCounts {s : State} {c : Nat} {f : Fld} (hs : s.regsOk) (hf : f ∈ countFields c) : (sarCounts s c).rd f = 0 := by
  have hdrops : (s.wr (Reg.SAR_COUNTS_DROPS c) 0).regsOk := keysRise_wr _ _ _ hs
  simp only [List.mem_cons, List.not_mem_nil, or_false] at hf
  rcases hf with rfl | rfl | rfl
  · refine (rd_wr_ne _ _ (by simp only [Fld.key]; omega)).trans ((rd_wr_ne _ _ (by simp only [Fld.key]; omega)).trans ?_)
    exact rd_wr_same _ _ _ hs
  · exact (rd_wr_ne _ _ (by simp only [Fld.key]; omega)).trans (rd_wr_same _ _ _ hdrops)
  · exact rd_wr_same _ _ _ (keysRise_wr _ _ _ hdrops)

/-- Every converter's counts are cleared. -/
theorem rd_forEach_sarCounts {s : State} {c : Nat} {f : Fld} (hs : s.regsOk) (hc : c < 8) (hf : f ∈ countFields c) :
    (s.forEach (List.range 8) sarCounts).rd f = 0 := by
  have hapart : ∀ i < 8, ∀ z < 8, z ≠ i → ∀ g ∈ countFields i, ¬ Among (countFields z) g.key := by decide
  exact forEach_reaches (I := State.regsOk) (P := fun u => u.rd f = 0)
    (fun u y hy => (writes_sarCounts u (List.mem_range.mp hy)).regsOk) (fun u hu => rd_sarCounts hu hf)
    (fun u y hy hne _ h => ((writes_sarCounts u (List.mem_range.mp hy)).rd f (hapart c hc y (List.mem_range.mp hy) hne f hf)).trans h)
    (List.mem_range.mpr hc) hs

/-! ### The statement -/

/-- Settles O17: each command by its operation on the converter, and by what that operation shows. -/
theorem convertersConvertAndDeliver : Obligations.ConvertersConvertAndDeliver := by
  refine ⟨fun s c v x hc hs hsh hst hcur hinj havg hwin => ?_, fun s c v x hc hs hsh hst hcur hinj hlen hn => ?_,
    fun s c v x pos last op hc hs hsh hst hcur hinj hevt => ?_, fun s c w x hc hst hen hsrc hrun hcur => ?_,
    fun s c slot o r hc hsh hst hop hmask hrun hqueue => ?_, fun s m c x hc hr hst hrun hcur => ?_,
    fun s m c r q hc hr hst hrun hqueue => ?_, fun s m p c hc hp hfence hst => ⟨fun w r hfifo => ?_, fun hfifo => ?_⟩,
    fun s m p c w r hc hp hfence hst hfifo => ?_,
    fun s c slot q hc hop htag => ⟨fun hrun hqueue => ?_, fun x hrun hqueue hcur hinj => ?_⟩,
    fun s m c hc hs hr hst hup => ?_, fun s m c hc hs hsh hr => ?_, fun s c hc hs hsh hst hready _ => ?_, fun s c hc hs hsh hst => ?_,
    fun s m c x hc hr hst hcur => ?_, fun s c c8 c9 c11 hc hs hsh hst h8 h8' h9 h9' h11 hpend => ?_,
    fun s c c8 c9 c11 hc hs hsh hst h8 => ?_, fun s c hc hs hsh hst => ?_, fun s m c hc hs hsh hr hst => ?_,
    fun s c hc hs hsh hst hflight hroom => ?_, fun s c n hc hn hs hsh hst => ?_, fun s m c v tick hc hr hst => ?_,
    fun s m c ch v tick hc hch hr havg => ?_, fun s c n hc hsh hready => ?_, fun s c hready => ?_, fun s m hs hr => ?_⟩
  · have hexec := exec_sarConversionEnd (v := v) hc hst
    obtain ⟨p, hflight, hcode, hovr, hchan, htag, hinj', hno, hseq⟩ := convEnd_delivers v hc hsh hcur hinj havg hwin
    exact ⟨_, p, hexec, hflight, hcode, hovr, hchan, htag, hinj', hno, hseq, convEnd_scan_regs hc hcur hinj,
      (kp_execSarConversionEnd _ _ _ _ hexec).memsSame (by decide)⟩
  · have hexec := exec_sarConversionEnd (v := v) hc hst
    obtain ⟨hflight, hseq, hsum, hcount⟩ := convEnd_enters v hc hsh hcur hinj hlen hn
    exact ⟨_, hexec, hflight, hseq, hsum, hcount, convEnd_scan_regs hc hcur hinj,
      (kp_execSarConversionEnd _ _ _ _ hexec).memsSame (by decide)⟩
  · have hexec := exec_sarConversionEnd (v := v) hc hst
    obtain ⟨p, hflight, hcode, hchan, hinj', hpos, hlast, hop, hraised, hframe⟩ := convEnd_injected v hc hs hsh hevt hcur hinj
    exact ⟨_, p, hexec, hflight, hcode, hchan, hinj', hpos, hlast, hop, hraised, hframe,
      (kp_execSarConversionEnd _ _ _ _ hexec).memsSame (by decide)⟩
  · exact congrArg Host.Outcome.next ((if_pos hc).trans ((windowTrigger_followed hen hsrc).trans (injTrigger_starts hst hrun hcur)))
  · have hexec : exec (.sarInjTrigger c (.op slot)) s = .next (s.opTrigger c slot) := congrArg Host.Outcome.next (if_pos hc)
    obtain ⟨hsar, hframe⟩ := opTrigger_queues hc hsh hst hop hmask hrun hqueue
    exact ⟨_, hexec, by rw [hsar], by rw [hsar]; exact hrun, hframe, (kp_execSarInjTrigger c (.op slot) s _ hexec).memsSame (by decide)⟩
  · exact congrArg Host.Outcome.next ((maskAccess_allow _ hc hr).trans (injTrigger_starts (s := s.acked) hst hrun hcur))
  · exact congrArg Host.Outcome.next ((maskAccess_allow _ hc hr).trans (injTrigger_drops (s := s.acked) hst hrun hqueue))
  · refine congrArg Host.Outcome.next ((if_pos hc).trans ((fifoPop_active hp hfence hst).trans ?_))
    rw [hfifo]
    rfl
  · refine congrArg Host.Outcome.next ((if_pos hc).trans ((fifoPop_active hp hfence hst).trans ?_))
    rw [hfifo]
    rfl
  · refine congrArg Host.Outcome.next ((if_pos hc).trans ((fifoPop_standby hp hfence hst).trans ?_))
    rw [hfifo]
    rfl
  · exact congrArg Host.Outcome.next ((if_pos hc).trans (cancelArrive_queued hop htag hrun hqueue))
  · exact congrArg Host.Outcome.next ((if_pos hc).trans (cancelArrive_running hop htag hrun hqueue hcur hinj))
  · have hexec : exec (.sarEnable m c) s = .next ((s.acked.setB Reg.SNS_CTRL_EN c).sarPower c) :=
      congrArg Host.Outcome.next ((if_pos hc).trans (access_allow _ hr))
    obtain ⟨hen, hstate, hframe⟩ := sarEnable_shows (s := s.acked) hc hs hst hup
    exact ⟨_, hexec, hen, hstate, hframe, (kp_execSarEnable _ _ _ _ hexec).memsSame (by decide)⟩
  · have hexec : exec (.sarDisable m c) s = .next (s.acked.sarDisable c) :=
      congrArg Host.Outcome.next ((if_pos hc).trans (access_allow _ hr))
    obtain ⟨hcur, hrun, hqueue, hfifo⟩ := sarDisable_holds (s := s.acked) hc (shaped_acked hsh)
    obtain ⟨hen, hstate, hshown, hframe⟩ := sarDisable_shows (s := s.acked) hc hs
    exact ⟨_, hexec, hen, hstate, hshown, hcur, hrun, hqueue, hfifo, hframe, (kp_execSarDisable _ _ _ _ hexec).memsSame (by decide)⟩
  · have hexec : exec (.sarInitDone c true) s = .next (s.sarInitDone c true) := congrArg Host.Outcome.next (if_pos hc)
    obtain ⟨hstate, hshown, hcur, hframe⟩ := sarInitDone_shows hc hs hsh hst hready
    exact ⟨_, hexec, hstate, hshown, hcur, hframe, (kp_execSarInitDone _ _ _ _ hexec).memsSame (by decide)⟩
  · have hexec : exec (.sarInitDone c false) s = .next (s.sarFaults c) :=
      congrArg Host.Outcome.next ((if_pos hc).trans (sarInitDone_bad hst))
    obtain ⟨hstate, hflag, hraised, hframe⟩ := sarFaults_shows hc hs
    exact ⟨_, hexec, hstate, hflag, hraised, hframe, (kp_execSarInitDone _ _ _ _ hexec).memsSame (by decide)⟩
  · exact congrArg Host.Outcome.next ((maskAccess_allow _ hc hr).trans (sarCheckCmd_waits (s := s.acked) hst hcur))
  · have hexec : exec (.sarCheckDone c c8 c9 c11) s = .next (s.sarCheckDone c c8 c9 c11) := congrArg Host.Outcome.next (if_pos hc)
    obtain ⟨hdone, hpass, htemp, hstate, hframe⟩ := sarCheckDone_passes_shows hc hs hsh hst ⟨h8, h8', h9, h9', h11⟩ hpend
    exact ⟨_, hexec, hdone, hpass, htemp, hstate, (kp_execSarCheckDone _ _ _ _ _ _ hexec).memsSame (by decide), hframe⟩
  · have hexec : exec (.sarCheckDone c c8 c9 c11) s = .next (s.sarCheckDone c c8 c9 c11) := congrArg Host.Outcome.next (if_pos hc)
    obtain ⟨hdone, hpass, hstate, hraised⟩ := sarCheckDone_fails_shows (c9 := c9) (c11 := c11) hc hs hst h8
    exact ⟨_, hexec, hdone, hpass, hstate, hraised, (kp_execSarCheckDone _ _ _ _ _ _ hexec).memsSame (by decide)⟩
  · have hexec : exec (.sarRefFault c) s = .next (s.sarFaults c) := congrArg Host.Outcome.next (if_pos (by simp [hc, hst]))
    obtain ⟨hstate, -, hraised, hframe⟩ := sarFaults_shows hc hs
    exact ⟨_, hexec, hstate, by rw [sarFaults_sar hc hsh]; rfl, by rw [sarFaults_sar hc hsh]; rfl, hraised, hframe,
      (kp_execSarRefFault _ _ _ hexec).memsSame (by decide)⟩
  · have hexec : exec (.sarSoftReset m (2 ^ c)) s = .next (s.acked.sarSoftReset c) :=
      congrArg Host.Outcome.next (maskAccess_allow _ hc hr)
    obtain ⟨hfifo, hflight, hrun, hqueue, hcfg, hstate, hlatest⟩ := sarSoftReset_shows (s := s.acked) hc hs (shaped_acked hsh) hst
    exact ⟨_, hexec, hfifo, hflight, hrun, hqueue, hcfg, hstate, hlatest, (kp_execSarSoftReset _ _ _ _ hexec).memsSame (by decide)⟩
  · have hexec : exec (.sarPacketGap c 1) s = .next (s.placeholder c) := congrArg Host.Outcome.next (if_pos (by simp [hc, hst]))
    obtain ⟨hfifo, hcount, hflag, hraised, hstate, hframe⟩ := placeholder_shows hc hs hsh hflight hroom
    exact ⟨_, hexec, hfifo, hcount, hflag, hraised, hstate.trans hst, hframe, (kp_execSarPacketGap _ _ _ _ hexec).memsSame (by decide)⟩
  · have hexec := exec_sarPacketGap_faults hc hn hst
    have hlost := lost_placeholders s (Nat.min n 9) hc
    have hshaped := shaped_placeholders (Nat.min n 9) c hsh
    refine ⟨_, hexec, sarState_sarFaults hc (hlost.regsOk hs), ?_, sarFaults_raises_of_lost hlost hc hs,
      (kp_execSarPacketGap _ _ _ _ hexec).memsSame (by decide)⟩
    rw [sarFaults_sar hc hshaped]
    rfl
  · exact (exec_sarConfigWrite hc rfl hr).trans (congrArg Host.Outcome.next
      (sarConfigWrite_scan_off (s := (s.toTick tick).acked) hc ((sarState_toTick s c tick hc).trans hst)))
  · exact (exec_sarConfigWrite hc (r := .chcfg ch) (decide_eq_true hch) hr).trans
      (congrArg Host.Outcome.next (sarConfigWrite_refused havg))
  · have hexec : exec (.sarConfigCommit c) s = .next (s.sarCommit c n) := exec_sarConfigCommit hc hready
    obtain ⟨hcfg, hnone, hframe⟩ := sarCommit_shows (n := n) hc hsh
    exact ⟨_, hexec, hcfg, hnone, hframe, (kp_execSarConfigCommit _ _ _ hexec).memsSame (by decide)⟩
  · exact exec_sarConfigCommit_none hready
  · have hexec : exec (.snsClrSar m) s = .next (s.acked.forEach (List.range 8) sarCounts) :=
      congrArg Host.Outcome.next (access_allow _ hr)
    have hzero (c : Nat) (hc : c < 8) (f : Fld) (hf : f ∈ countFields c) : (s.acked.forEach (List.range 8) sarCounts).rd f = 0 :=
      rd_forEach_sarCounts (s := s.acked) hs hc hf
    exact ⟨_, hexec, (kp_execSnsClrSar _ _ _ hexec).memsSame (by decide),
      fun c hc => ⟨hzero c hc _ (by simp), hzero c hc _ (by simp), hzero c hc _ (by simp)⟩⟩

end Sys2Proof.Machine
end

section
/-! SUPPORT. The comparator windows (R251 to R264): what a window and a bank hold after an update, which registers the operations on a
window write, and what its output shows. -/

set_option Elab.async false

open Sys2Proof.Machine.State

namespace Sys2Proof.Machine

/-! ### Windows and banks after an update -/

theorem mem_bankWins {b w : Nat} : w ∈ bankWins b ↔ w / 8 = b := by
  simp only [bankWins, List.mem_map, List.mem_range]
  constructor
  · rintro ⟨i, hi, rfl⟩
    omega
  · exact fun h => ⟨w % 8, Nat.mod_lt _ (by decide), by omega⟩

theorem nodup_bankWins (b : Nat) : (bankWins b).Nodup := List.nodup_range.map fun _ _ h => Nat.add_left_cancel h

theorem lt_of_mem_bankWins {b w : Nat} (hb : b < 2) (hw : w ∈ bankWins b) : w < 16 := by
  have hbank := mem_bankWins.mp hw
  omega


@[simp] theorem wr_bank (s : State) (f : Fld) (v b : Nat) : (s.wr f v).bank b = s.bank b := rfl

theorem win_of_cmp {s t : State} (h : t.cmp = s.cmp) (w : Nat) : t.win w = s.win w := by rw [win, h, win]

theorem bank_of_banks {s t : State} (h : t.cmp.banks = s.cmp.banks) (b : Nat) : t.bank b = s.bank b := by rw [bank, h, bank]

theorem win_setWin_same {s : State} {w : Nat} (k : CmpWin) (hsh : s.Shaped) (hw : w < 16) : (s.setWin w k).win w = k :=
  nth_setNth_same k {} (hsh.wins.symm ▸ hw)

theorem win_setWin_ne (s : State) {w x : Nat} (k : CmpWin) (h : x ≠ w) : (s.setWin w k).win x = s.win x := nth_setNth_ne _ k {} h

theorem bank_setBank_same {s : State} {b : Nat} (k : CmpBank) (hsh : s.Shaped) (hb : b < 2) : (s.setBank b k).bank b = k :=
  nth_setNth_same k {} (hsh.banks.symm ▸ hb)

/-! ### The registers of a window (R266) -/

/-- The keys of the registers of PWM, and those that an event writes: what a trip line writes. -/
abbrev lineKey (k : Nat) : Prop := (0x40010000 * 32 ≤ k ∧ k < 0x40020000 * 32) ∨ evKey k

/-- The keys of the bits of `CMP_STATw` that follow what is held of the window. -/
abbrev viewKey (w k : Nat) : Prop := (Reg.CMP_STAT_STATE w).key + 3 ≤ k ∧ k ≤ (Reg.CMP_STAT_STATE w).key + 7

/-- The keys of `CMP_OUT`, of the trip flags and of the trip count of a window, and those that an event writes. -/
abbrev tripKey (w k : Nat) : Prop :=
  k = Reg.CMP_OUT_OUT.key ∨ k = Reg.CMP_FLAGS_TRIP.key ∨ k = (Reg.CMP_STAT_COUNT w).key ∨ evKey k

/-- What the taking of an output writes. -/
abbrev takenKey (w k : Nat) : Prop := viewKey w k ∨ lineKey k

/-- What an output of a window writes. -/
abbrev outKey (w k : Nat) : Prop := viewKey w k ∨ lineKey k ∨ tripKey w k

/-- What a move of a window writes. -/
abbrev moveKey (w k : Nat) : Prop := k = (Reg.CMP_STAT_STATE w).key ∨ outKey w k

theorem cmp_trip_lt {w : Nat} (hw : w < 16) : Ev.CMP_TRIP w < 192 := show 61 + w < 192 by omega

/-! ### What an operation moves -/

/-- From `s` to `t` only fields with a key in `W` and windows in `M` change; the banks stay, and the lists keep their lengths. -/
structure CmpStep (M W : Nat → Prop) (s t : State) : Prop where
  writes : Writes W s t
  shaped : s.Shaped → t.Shaped
  win : ∀ x, ¬ M x → t.win x = s.win x
  banks : t.cmp.banks = s.cmp.banks

namespace CmpStep
variable {M N W V : Nat → Prop} {s t u : State}

theorem refl : CmpStep M W s s := ⟨Writes.refl, id, fun _ _ => rfl, rfl⟩

theorem trans (h : CmpStep M W s t) (k : CmpStep M W t u) : CmpStep M W s u :=
  ⟨h.writes.trans k.writes, fun hs => k.shaped (h.shaped hs), fun x hx => (k.win x hx).trans (h.win x hx), k.banks.trans h.banks⟩

theorem mono (h : CmpStep M W s t) (hM : ∀ x, M x → N x) (hW : ∀ k, W k → V k) : CmpStep N V s t :=
  ⟨h.writes.mono hW, h.shaped, fun x hx => h.win x fun hm => hx (hM x hm), h.banks⟩

/-- An operation that leaves what is held of the windows and banks. -/
theorem of_cmp (h : Writes W s t) (hs : s.Shaped → t.Shaped) (hc : t.cmp = s.cmp) : CmpStep M W s t :=
  ⟨h, hs, fun x _ => win_of_cmp hc x, by rw [hc]⟩

theorem wr {f : Fld} (v : Nat) (hW : W f.key) (hf : ¬ evKey f.key) : CmpStep M W s (s.wr f v) := of_cmp (Writes.wr v hW hf) shaped_wr rfl

theorem ite {p : Prop} [Decidable p] (ht : CmpStep M W s t) (hu : CmpStep M W s u) : CmpStep M W s (if p then t else u) := by
  split
  · exact ht
  · exact hu

theorem when {b : Bool} {f : State → State} (h : ∀ u, CmpStep M W u (f u)) : CmpStep M W s (s.when b f) := by
  cases b
  · exact refl
  · exact h s

theorem forEach {α : Type} {l : List α} {f : State → α → State} (h : ∀ s, ∀ x ∈ l, CmpStep M W s (f s x)) (s : State) :
    CmpStep M W s (s.forEach l f) := by
  induction l generalizing s with
  | nil => exact refl
  | cons a l ih => exact (h s a (by simp)).trans (ih (fun s x hx => h s x (by simp [hx])) (f s a))

theorem bank (h : CmpStep M W s t) (b : Nat) : t.bank b = s.bank b := bank_of_banks h.banks b

end CmpStep

/-! ### Loops -/

/-- A loop whose passes leave the state leaves it. -/
theorem forEach_idle {α : Type} {l : List α} {f : State → α → State} {s : State}
    (h : ∀ x ∈ l, f s x = s) : s.forEach l f = s := by
  unfold forEach
  induction l with
  | nil => rfl
  | cons a l ih => rw [List.foldl_cons, h a (by simp), ih fun x hx => h x (by simp [hx])]

/-- One pass of a loop, between what the passes before it and those after it lead through. -/
theorem forEach_splits {α : Type} {R : State → State → Prop} (hrefl : ∀ s, R s s) (htrans : ∀ s t u, R s t → R t u → R s u)
    {l : List α} {f : State → α → State} {c : α} (hl : l.Nodup) (hc : c ∈ l)
    (h : ∀ s, ∀ x ∈ l, x ≠ c → R s (f s x)) (s : State) :
    ∃ u, R s u ∧ R (f u c) (s.forEach l f) := by
  have hloop (m : List α) (hm : ∀ s, ∀ x ∈ m, R s (f s x)) (s : State) : R s (s.forEach m f) := by
    induction m generalizing s with
    | nil => exact hrefl s
    | cons a m ih => exact htrans _ _ _ (hm s a (by simp)) (ih (fun s x hx => hm s x (by simp [hx])) (f s a))
  obtain ⟨l₁, l₂, rfl⟩ := List.append_of_mem hc
  obtain ⟨-, hl₂, hne⟩ := List.nodup_append.mp hl
  refine ⟨s.forEach l₁ f, hloop l₁ (fun s x hx => h s x (by simp [hx]) fun hxc => hne x hx c (by simp) hxc) s, ?_⟩
  have heq : s.forEach (l₁ ++ c :: l₂) f = (f (s.forEach l₁ f) c).forEach l₂ f := by simp [forEach]
  rw [heq]
  exact hloop l₂ (fun s x hx => h s x (by simp [hx]) fun hxc => (List.nodup_cons.mp hl₂).1 (hxc ▸ hx)) _

/-! ### Trip lines (R188, R263) -/

theorem writes_pwmWr {s : State} {f : Fld} (v : Nat) (h : 0x40010000 * 32 ≤ f.key ∧ f.key < 0x40020000 * 32) :
    Writes lineKey s (s.wr f v) := Writes.wr v (.inl h) (by simp only [evKey]; omega)

theorem writes_tripActs (s : State) {n : Nat} (hn : n < 16) : Writes lineKey s (s.tripActs n) := by
  have hpair (u : State) (p : Nat) (v : PwmPair) : Writes lineKey u (u.setPwmPair p v) := Writes.of_regs rfl
  have hlatch (u : State) {p : Nat} (hp : p < 24) : Writes lineKey u (latchTrip n u p) :=
    (hpair u p _).trans (writes_pwmWr (f := Reg.PR_STATUS_TRIPPED p) 1 (by simp only [Fld.key]; omega))
  have hpairs (u : State) : Writes lineKey u (u.forEach (maskPairs s n) (latchTrip n)) :=
    Writes.forEach (fun v _ hp => hlatch v (mem_bitsOf_iff.mp hp).1) u
  have htripped (u : State) {c : Nat} (hc : c < 3) : Writes lineKey u (u.clusterTripped c) :=
    writes_pwmWr (f := Reg.CL_STATUS_TRIPPED c) _ (by simp only [Fld.key]; omega)
  have hclusters (u : State) : Writes lineKey u (u.forEach (List.range 3) clusterTripped) :=
    Writes.forEach (fun v _ hc => htripped v (List.mem_range.mp hc)) u
  have hlatched (u : State) : Writes lineKey u (lineLatched u n) := (writes_pwmWr _ (by decide)).trans (Writes.of_regs rfl)
  have hcycle (u : State) : Writes lineKey u (u.forEach (maskPairs s n) (cycleTrip n)) :=
    Writes.forEach (fun v p _ => hpair v p _) u
  have hline (u : State) (v : TripLine) : Writes lineKey u (u.setLine n v) := Writes.of_regs rfl
  have hevent (u : State) : Writes lineKey u (u.raise (Ev.PWM_TRIP n)) :=
    Writes.raise (fun _ h => .inr h) (by simp only [Ev.PWM_TRIP]; omega)
  have hraised (u : State) : Writes lineKey u (lineRaises u n) := Writes.ite Writes.refl ((hline u _).trans (hevent _))
  exact ((Writes.when hcycle).trans (Writes.when fun u => ((hlatched u).trans (hpairs _)).trans (hclusters _))).trans (hraised _)

theorem writes_lineSource (s : State) {n : Nat} (level blanked : Bool) (hn : n < 16) : Writes lineKey s (s.lineSource n level blanked) := by
  have hsource (v : TripLine) : Writes lineKey s (s.setLine n v) := Writes.of_regs rfl
  have hlevel (u : State) : Writes lineKey u (u.putB Reg.TRIP_STATUS_LEVEL n (u.lineActive n)) := writes_pwmWr _ (by decide)
  exact (hsource _).trans ((hlevel _).trans (Writes.ite (writes_tripActs _ hn) Writes.refl))

/-- The lines that name a window move no register of the windows, and nothing that is held of them. -/
theorem cmpStep_winLines {M : Nat → Prop} (s : State) (w blanked : Nat) : CmpStep M lineKey s (s.winLines w blanked) :=
  CmpStep.of_cmp (Writes.forEach (fun u n hn => Writes.ite (writes_lineSource u _ _ (List.mem_range.mp hn)) Writes.refl) s)
    (kp_winLines s w blanked).shaped ((kp_winLines s w blanked).cmp (by decide))

/-! ### A window and its output (R251, R254, R263, R264) -/

/-- A field of a window that an operation on it does not write: checked for every window. -/
theorem Writes.win_rd {W : Nat → Nat → Prop} {s t : State} {w : Nat} (h : Writes (W w) s t) (f : Nat → Fld) (hw : w < 16)
    (hf : ∀ i < 16, ¬ W i (f i).key) : t.rd (f w) = s.rd (f w) := h.rd _ (hf w hw)

/-- A write of a field of a window. -/
theorem Writes.win_wr {W : Nat → Nat → Prop} {s : State} {w : Nat} (f : Nat → Fld) (v : Nat) (hw : w < 16)
    (hf : ∀ i < 16, W i (f i).key ∧ ¬ evKey (f i).key) : Writes (W w) s (s.wr (f w) v) := Writes.wr v (hf w hw).1 (hf w hw).2

theorem Writes.classA {W : Nat → Nat → Prop} {s t : State} {w : Nat} (h : Writes (W w) s t) (hw : w < 16)
    (hf : ∀ i < 16, ¬ W i (Reg.CMP_CFG_CLASS i).key) : t.classA w = s.classA w := congrArg (· == 0) (h.win_rd Reg.CMP_CFG_CLASS hw hf)

/-- The same of a field of one bit. -/
theorem Writes.win_on {W : Nat → Nat → Prop} {s t : State} {w : Nat} (h : Writes (W w) s t) (f : Nat → Fld) (hw : w < 16)
    (hf : ∀ i < 16, ¬ W i (f i).key) : t.on (f w) = s.on (f w) := congrArg (· == 1) (h.win_rd f hw hf)

/-- An event pending after an operation, where the steps before it leave its route. -/
theorem Writes.raisedIn_after {W : Nat → Prop} {s t u : State} {ev : Nat} (h : Writes W s t)
    (hr : ¬ W (Reg.EVF_ROUTE_TARGET ev).key) (k : t.raisedIn u ev) : s.raisedIn u ev :=
  fun g hg hb => k g hg (by rwa [eventTargets_of_rd ev (h.rd _ hr)])

theorem writes_setWin (s : State) {w : Nat} (k : CmpWin) (hw : w < 16) : Writes (viewKey w) s (s.setWin w k) := by
  have hheld : Writes (viewKey w) s { s with cmp := { s.cmp with wins := setNth s.cmp.wins w k } } := Writes.of_regs rfl
  exact ((((hheld.trans (Writes.win_wr Reg.CMP_STAT_HI_RAW _ hw (by decide))).trans
    (Writes.win_wr Reg.CMP_STAT_LO_RAW _ hw (by decide))).trans (Writes.win_wr Reg.CMP_STAT_HI_TRIP _ hw (by decide))).trans
    (Writes.win_wr Reg.CMP_STAT_LO_TRIP _ hw (by decide))).trans (Writes.win_wr Reg.CMP_STAT_START_HOLD _ hw (by decide))

theorem cmpStep_setWin (s : State) {w : Nat} (k : CmpWin) (hw : w < 16) : CmpStep (· = w) (viewKey w) s (s.setWin w k) :=
  ⟨writes_setWin s k hw, (kp_setWin s w k).shaped, fun _ hx => win_setWin_ne s k hx, rfl⟩

theorem cmpStep_setWinState {M : Nat → Prop} (s : State) {w : Nat} (st : Nat) (hw : w < 16) :
    CmpStep M (moveKey w) s (s.setWinState w st) := CmpStep.of_cmp (Writes.win_wr Reg.CMP_STAT_STATE st hw (by decide)) shaped_wr rfl

/-- The high trip shows what is held of the window. -/
theorem rd_hiTrip_setWin {s : State} {w : Nat} (k : CmpWin) (hw : w < 16) (hs : s.regsOk) :
    (s.setWin w k).rd (Reg.CMP_STAT_HI_TRIP w) = b2n (s.on (Reg.CMP_CFG_HI_EN w) && if s.classA w then k.hi else k.fHi) :=
  (rd_wr_unit_ne Reg.CMP_STAT_HI_TRIP Reg.CMP_STAT_START_HOLD hw (by decide)).trans
    ((rd_wr_unit_ne Reg.CMP_STAT_HI_TRIP Reg.CMP_STAT_LO_TRIP hw (by decide)).trans
      (rd_wr_lt (keysRise_wr _ _ _ (keysRise_wr _ _ _ hs)) (b2n_lt _)))

/-! ### The output after blanking (R254, R263, R264) -/

/-- The window's own blanking hides its output (R254). -/
abbrev winBlanked (s : State) (w : Nat) : Bool := s.classA w && (s.win w).blank

/-- The output has tripped: shown, flagged, counted and raised. -/
def tripShown (s : State) (w : Nat) : State :=
  (((s.putB Reg.CMP_OUT_OUT w true).setB Reg.CMP_FLAGS_TRIP w).incSat (Reg.CMP_STAT_COUNT w)).raise (Ev.CMP_TRIP w)

/-- The output has been released. -/
def releaseShown (s : State) (w : Nat) : State :=
  (s.putB Reg.CMP_OUT_OUT w false).when ((s.putB Reg.CMP_OUT_OUT w false).on (Reg.CMP_CFG_EVT_REL w)) fun s => s.raise (Ev.CMP_TRIP w)

theorem winShow_unchanged {s : State} {w : Nat} (h : hasBit (s.rd Reg.CMP_OUT_OUT) w = (s.win w).out) : s.winShow w = s := by
  simp [winShow, h]

theorem winShow_trips {s : State} {w : Nat} (hb : winBlanked s w = false) (hwas : hasBit (s.rd Reg.CMP_OUT_OUT) w = false)
    (hout : (s.win w).out = true) : s.winShow w = tripShown s w := by
  simp only [winShow, hb, hwas, hout]
  rfl

theorem winShow_releases {s : State} {w : Nat} (hb : winBlanked s w = false) (hwas : hasBit (s.rd Reg.CMP_OUT_OUT) w = true)
    (hout : (s.win w).out = false) : s.winShow w = releaseShown s w := by
  simp only [winShow, hb, hwas, hout]
  rfl

theorem writes_outPut (s : State) (w : Nat) (b : Bool) : Writes (tripKey w) s (s.putB Reg.CMP_OUT_OUT w b) :=
  Writes.wr _ (.inl rfl) (by decide)

theorem writes_tripRaise (s : State) {w : Nat} (hw : w < 16) : Writes (tripKey w) s (s.raise (Ev.CMP_TRIP w)) :=
  Writes.raise (fun _ h => .inr (.inr (.inr h))) (cmp_trip_lt hw)

/-- A trip up to its event. -/
theorem writes_tripNoted (s : State) {w : Nat} (b : Bool) (hw : w < 16) : Writes (tripKey w) s
    (((s.putB Reg.CMP_OUT_OUT w b).setB Reg.CMP_FLAGS_TRIP w).incSat (Reg.CMP_STAT_COUNT w)) :=
  ((writes_outPut s w b).trans (Writes.wr _ (.inr (.inl rfl)) (by decide))).trans (Writes.win_wr Reg.CMP_STAT_COUNT _ hw (by decide))

theorem cmpStep_winShow {M : Nat → Prop} (s : State) {w : Nat} (hw : w < 16) : CmpStep M (tripKey w) s (s.winShow w) := by
  refine CmpStep.of_cmp ?_ (kp_winShow s w).shaped ((kp_winShow s w).cmp (by decide))
  exact Writes.ite Writes.refl (Writes.ite ((writes_tripNoted s _ hw).trans (writes_tripRaise _ hw))
    ((writes_outPut s w _).trans (Writes.when fun u => writes_tripRaise u hw)))

/-- What a trip of the output shows (R264). -/
theorem tripShown_shows {s : State} {w : Nat} (hw : w < 16) (hs : s.regsOk) :
    hasBit ((tripShown s w).rd Reg.CMP_OUT_OUT) w = true ∧ hasBit ((tripShown s w).rd Reg.CMP_FLAGS_TRIP) w = true ∧
      (tripShown s w).rd (Reg.CMP_STAT_COUNT w) = satInc (2 ^ (Reg.CMP_STAT_COUNT w).width - 1) (s.rd (Reg.CMP_STAT_COUNT w)) ∧
      s.raisedIn (tripShown s w) (Ev.CMP_TRIP w) := by
  have hput : (s.putB Reg.CMP_OUT_OUT w true).regsOk := keysRise_wr _ _ _ hs
  have hflag : ((s.putB Reg.CMP_OUT_OUT w true).setB Reg.CMP_FLAGS_TRIP w).regsOk := keysRise_wr _ _ _ hput
  have hraise (u : State) (f : Nat → Fld) (hf : ∀ i < 16, ¬ evKey (f i).key) : (u.raise (Ev.CMP_TRIP w)).rd (f w) = u.rd (f w) :=
    rd_raise u _ (cmp_trip_lt hw) _ (hf w hw)
  refine ⟨?_, ?_, ?_, (writes_tripNoted s true hw).raisedIn (Writes.refl (W := evKey)) hs (cmp_trip_lt hw)
    (by simp only [tripKey, evKey, Ev.CMP_TRIP, Fld.key]; omega)⟩
  · rw [tripShown, hraise _ (fun _ => Reg.CMP_OUT_OUT) (by decide), incSat_eq,
      rd_wr_unit_ne (fun _ => Reg.CMP_OUT_OUT) Reg.CMP_STAT_COUNT hw (by decide), setB_eq, rd_wr_ne _ _ (by decide)]
    exact hasBit_rd_putB true hs hw
  · rw [tripShown, hraise _ (fun _ => Reg.CMP_FLAGS_TRIP) (by decide), incSat_eq,
      rd_wr_unit_ne (fun _ => Reg.CMP_FLAGS_TRIP) Reg.CMP_STAT_COUNT hw (by decide)]
    exact hasBit_rd_putB true hput hw
  · rw [tripShown, hraise _ Reg.CMP_STAT_COUNT (by decide), rd_incSat_same _ hflag, setB_eq,
      rd_wr_unit_ne Reg.CMP_STAT_COUNT (fun _ => Reg.CMP_FLAGS_TRIP) hw (by decide), putB_eq,
      rd_wr_unit_ne Reg.CMP_STAT_COUNT (fun _ => Reg.CMP_OUT_OUT) hw (by decide)]

theorem writes_tripShown (s : State) {w : Nat} (hw : w < 16) : Writes (tripKey w) s (tripShown s w) :=
  (writes_tripNoted s true hw).trans (writes_tripRaise _ hw)

theorem win_tripShown (s : State) (w x : Nat) : (tripShown s w).win x = s.win x := win_of_cmp (raise_cmp _ _) x

theorem hasBit_out_releaseShown {s : State} {w : Nat} (hw : w < 16) (hs : s.regsOk) :
    hasBit ((releaseShown s w).rd Reg.CMP_OUT_OUT) w = false := by
  rw [releaseShown, when_keeps (State.rd · Reg.CMP_OUT_OUT) _ _ (rd_raise _ _ (cmp_trip_lt hw) _ (by decide))]
  exact hasBit_rd_putB false hs hw

/-- Outside blanking, `CMP_OUT` shows the output. -/
theorem hasBit_out_winShow {s : State} {w : Nat} (hw : w < 16) (hs : s.regsOk) (hb : winBlanked s w = false) :
    hasBit ((s.winShow w).rd Reg.CMP_OUT_OUT) w = (s.win w).out := by
  by_cases h : hasBit (s.rd Reg.CMP_OUT_OUT) w = (s.win w).out
  · rw [winShow_unchanged h, h]
  · cases hout : (s.win w).out with
    | true => rw [winShow_trips hb (by simpa [hout] using h) hout, (tripShown_shows hw hs).1]
    | false => rw [winShow_releases hb (by simpa [hout] using h) hout, hasBit_out_releaseShown hw hs]

/-! ### The output of a window (R251, R263) -/

/-- The output has been taken, and the lines that name the window see it. -/
def outTaken (s : State) (w : Nat) (out : Bool) (blanked : Nat) : State := (s.setWin w { s.win w with out := out }).winLines w blanked

theorem winSet_eq (s : State) (w : Nat) (out : Bool) (blanked : Nat) : s.winSet w out blanked = (outTaken s w out blanked).winShow w := rfl

section Output
variable {s : State} {w l : Nat}

theorem cmpStep_outTaken (out : Bool) (hw : w < 16) : CmpStep (· = w) (takenKey w) s (outTaken s w out l) :=
  ((cmpStep_setWin s _ hw).mono (fun _ => id) fun _ => .inl).trans ((cmpStep_winLines _ w l).mono (fun _ => id) fun _ => .inr)

theorem cmpStep_winSet (out : Bool) (hw : w < 16) : CmpStep (· = w) (outKey w) s (s.winSet w out l) :=
  ((cmpStep_outTaken out hw).mono (fun _ => id) fun _ => Or.imp_right .inl).trans
    ((cmpStep_winShow _ hw).mono (fun _ => id) fun _ h => .inr (.inr h))

theorem cmpStep_winDrive (hw : w < 16) : CmpStep (· = w) (outKey w) s (s.winDrive w l) := CmpStep.ite CmpStep.refl (cmpStep_winSet _ hw)

theorem win_outTaken (out : Bool) (hw : w < 16) (hsh : s.Shaped) : (outTaken s w out l).win w = { s.win w with out := out } :=
  (win_of_cmp ((kp_winLines _ w l).cmp (by decide)) w).trans (win_setWin_same _ hsh hw)

theorem win_winSet (out : Bool) (hw : w < 16) (hsh : s.Shaped) : (s.winSet w out l).win w = { s.win w with out := out } :=
  (win_of_cmp ((kp_winShow _ w).cmp (by decide)) w).trans (win_outTaken out hw hsh)

theorem win_winDrive (hw : w < 16) (hsh : s.Shaped) : ∃ out, (s.winDrive w l).win w = { s.win w with out := out } := by
  by_cases hh : (s.win w).hold = true
  · exact ⟨(s.win w).out, by rw [winDrive, if_pos hh]⟩
  · exact ⟨s.winOut w, by rw [winDrive, if_neg hh, win_winSet _ hw hsh]⟩

theorem winBlanked_outTaken (out : Bool) (hw : w < 16) (hsh : s.Shaped) : winBlanked (outTaken s w out l) w = winBlanked s w := by
  rw [winBlanked, (cmpStep_outTaken out hw).writes.classA (W := takenKey) hw (by decide), win_outTaken out hw hsh]

theorem rd_hiTrip_outTaken (out : Bool) (hw : w < 16) (hs : s.regsOk) : (outTaken s w out l).rd (Reg.CMP_STAT_HI_TRIP w) =
    b2n (s.on (Reg.CMP_CFG_HI_EN w) && if s.classA w then (s.win w).hi else (s.win w).fHi) :=
  ((cmpStep_winLines (M := fun _ => False) _ w l).writes.win_rd (W := fun _ => lineKey) Reg.CMP_STAT_HI_TRIP hw (by decide)).trans
    (rd_hiTrip_setWin _ hw hs)

/-- An output that trips outside blanking (R264). -/
theorem winSet_trips (hw : w < 16) (hsh : s.Shaped) (hb : winBlanked s w = false) (hwas : hasBit (s.rd Reg.CMP_OUT_OUT) w = false) :
    s.winSet w true l = tripShown (outTaken s w true l) w := by
  have hkept : (outTaken s w true l).rd Reg.CMP_OUT_OUT = s.rd Reg.CMP_OUT_OUT :=
    (cmpStep_outTaken true hw).writes.win_rd (W := takenKey) (fun _ => Reg.CMP_OUT_OUT) hw (by decide)
  exact winShow_trips (s := outTaken s w true l) ((winBlanked_outTaken true hw hsh).trans hb) (by rw [hkept, hwas])
    (by rw [win_outTaken true hw hsh])

/-- What a trip outside blanking shows (R263, R264). -/
theorem winSet_trips_shows (hw : w < 16) (hs : s.regsOk) (hsh : s.Shaped) (hb : winBlanked s w = false)
    (hwas : hasBit (s.rd Reg.CMP_OUT_OUT) w = false) :
    hasBit ((s.winSet w true l).rd Reg.CMP_OUT_OUT) w = true ∧ hasBit ((s.winSet w true l).rd Reg.CMP_FLAGS_TRIP) w = true ∧
      s.raisedIn (s.winSet w true l) (Ev.CMP_TRIP w) ∧ (s.winSet w true l).rd (Reg.CMP_STAT_HI_TRIP w) =
        b2n (s.on (Reg.CMP_CFG_HI_EN w) && if s.classA w then (s.win w).hi else (s.win w).fHi) := by
  have htaken : Writes (takenKey w) s (outTaken s w true l) := (cmpStep_outTaken true hw).writes
  obtain ⟨hbit, hflag, -, hraised⟩ := tripShown_shows hw (htaken.regsOk hs)
  rw [winSet_trips hw hsh hb hwas]
  refine ⟨hbit, hflag, htaken.raisedIn_after (by simp only [takenKey, viewKey, lineKey, evKey, Ev.CMP_TRIP, Fld.key]; omega) hraised, ?_⟩
  rw [(writes_tripShown _ hw).win_rd Reg.CMP_STAT_HI_TRIP hw (by decide), rd_hiTrip_outTaken true hw hs]

/-- Outside blanking, `CMP_OUT` shows the output that is taken. -/
theorem hasBit_out_winSet (out : Bool) (hw : w < 16) (hs : s.regsOk) (hsh : s.Shaped) (hb : winBlanked s w = false) :
    hasBit ((s.winSet w out l).rd Reg.CMP_OUT_OUT) w = out := by
  rw [winSet_eq, hasBit_out_winShow hw ((cmpStep_outTaken out hw).writes.regsOk hs) ((winBlanked_outTaken out hw hsh).trans hb),
    win_outTaken out hw hsh]

end Output

end Sys2Proof.Machine
end

section
/-! SUPPORT. The states of the comparator windows (R252 to R258, R263 to R265): inputs, ticks, start, disable and first evaluation,
shadow writes and commits, holds and blanking. -/

set_option Elab.async false

open Sys2Proof.Machine.State

namespace Sys2Proof.Machine

/-! ### States of a window (R258) -/

/-- An operation that moves the output of a window alone leaves its state. -/
theorem CmpStep.winState {M : Nat → Prop} {s t : State} {w : Nat} (h : CmpStep M (outKey w) s t) (hw : w < 16) :
    t.winState w = s.winState w := h.writes.win_rd Reg.CMP_STAT_STATE hw (by decide)

theorem winState_setWin (s : State) {w : Nat} (k : CmpWin) (hw : w < 16) : (s.setWin w k).winState w = s.winState w :=
  (writes_setWin s k hw).win_rd Reg.CMP_STAT_STATE hw (by decide)

theorem winState_setWinState {s : State} {w st : Nat} (hs : s.regsOk) (hst : st < 8) : (s.setWinState w st).winState w = st :=
  rd_wr_lt hs hst

/-! ### Inputs (R251, R253, R254) -/

/-- What the land of a window takes (R254). -/
def inputTaken (s : State) (w : Nat) (v : Int) (blanked : Bool) : CmpWin :=
  { s.win w with vin := v, blank := blanked && s.winCanBlank w }

theorem winInput_off {s : State} {w : Nat} (v : Int) (b : Bool) (l : Nat) (hst : s.winState w = cmpOff) : s.winInput w v b l = s := by
  simp [winInput, hst]

theorem winInput_waits {s : State} {w : Nat} (v : Int) (b : Bool) (l : Nat) (hoff : s.winState w ≠ cmpOff)
    (harmed : s.winState w ≠ cmpArmed) : s.winInput w v b l = s.setWin w (inputTaken s w v b) := by
  simp only [winInput, hoff, harmed]
  rfl

theorem winInput_classA {s : State} {w : Nat} (v : Int) (b : Bool) (l : Nat) (hw : w < 16) (hst : s.winState w = cmpArmed)
    (hmode : s.on (Reg.CMP_CFG_MODE w) = false) (hclass : s.classA w = true) :
    s.winInput w v b l = (s.setWin w (winEval (inputTaken s w v b))).winDrive w l := by
  have hkept : (s.setWin w (winEval (inputTaken s w v b))).classA w = true :=
    ((writes_setWin s _ hw).classA hw (by decide)).trans hclass
  simp only [inputTaken] at hkept
  simp [winInput, inputTaken, hst, hmode, hkept]

/-- A class A window whose land rises above its upper threshold takes a tripped output (R251, R254). -/
theorem winInput_rises {s : State} {w : Nat} {v : Int} (l : Nat) (hw : w < 16) (hsh : s.Shaped) (hst : s.winState w = cmpArmed)
    (hmode : s.on (Reg.CMP_CFG_MODE w) = false) (hclass : s.classA w = true) (hhi : s.on (Reg.CMP_CFG_HI_EN w) = true)
    (hhold : (s.win w).hold = false) (hth : (5859375 * (s.win w).cfg.thHi : Nat) < 2 * v) :
    ∃ k : CmpWin, k.hi = true ∧ k.blank = false ∧ s.winInput w v false l = (s.setWin w k).winSet w true l := by
  obtain ⟨k, hk⟩ : ∃ k, winEval (inputTaken s w v false) = k := ⟨_, rfl⟩
  have hkhi : k.hi = true := by rw [← hk]; exact if_pos hth
  have hkhold : k.hold = false := by rw [← hk]; exact hhold
  have hwin : (s.setWin w k).win w = k := win_setWin_same k hsh hw
  have hen : (s.setWin w k).on (Reg.CMP_CFG_HI_EN w) = true := ((writes_setWin s k hw).win_on Reg.CMP_CFG_HI_EN hw (by decide)).trans hhi
  have hA : (s.setWin w k).classA w = true := ((writes_setWin s k hw).classA hw (by decide)).trans hclass
  have hout : (s.setWin w k).winOut w = true := by simp [winOut, hen, hA, hwin, hkhi]
  refine ⟨k, hkhi, by rw [← hk]; rfl, ?_⟩
  rw [winInput_classA v false l hw hst hmode hclass, hk, winDrive, hwin, hkhold, hout, if_neg Bool.false_ne_true]

/-- What that trip shows (R264). -/
theorem winInput_trips {s : State} {w : Nat} {v : Int} (l : Nat) (hw : w < 16) (hs : s.regsOk) (hsh : s.Shaped)
    (hst : s.winState w = cmpArmed) (hmode : s.on (Reg.CMP_CFG_MODE w) = false) (hclass : s.classA w = true)
    (hhi : s.on (Reg.CMP_CFG_HI_EN w) = true) (hhold : (s.win w).hold = false) (hwas : hasBit (s.rd Reg.CMP_OUT_OUT) w = false)
    (hth : (5859375 * (s.win w).cfg.thHi : Nat) < 2 * v) :
    hasBit ((s.winInput w v false l).rd Reg.CMP_OUT_OUT) w = true ∧ ((s.winInput w v false l).win w).hi = true ∧
      (s.winInput w v false l).rd (Reg.CMP_STAT_HI_TRIP w) = 1 ∧ hasBit ((s.winInput w v false l).rd Reg.CMP_FLAGS_TRIP) w = true ∧
      s.raisedIn (s.winInput w v false l) (Ev.CMP_TRIP w) ∧ (s.winInput w v false l).winState w = cmpArmed := by
  obtain ⟨k, hkhi, hkblank, hrises⟩ := winInput_rises l hw hsh hst hmode hclass hhi hhold hth
  have hset : Writes (viewKey w) s (s.setWin w k) := writes_setWin s k hw
  have hshaped : (s.setWin w k).Shaped := (cmpStep_setWin s k hw).shaped hsh
  have hwin : (s.setWin w k).win w = k := win_setWin_same k hsh hw
  have hwas' : hasBit ((s.setWin w k).rd Reg.CMP_OUT_OUT) w = false := by rw [hset.win_rd (fun _ => Reg.CMP_OUT_OUT) hw (by decide), hwas]
  obtain ⟨hbit, hflag, hraised, hshown⟩ :=
    winSet_trips_shows (l := l) hw (hset.regsOk hs) hshaped (by rw [winBlanked, hwin, hkblank, Bool.and_false]) hwas'
  rw [hset.win_on Reg.CMP_CFG_HI_EN hw (by decide), hset.classA hw (by decide), hhi, hclass, hwin, if_pos rfl, hkhi] at hshown
  rw [hrises]
  refine ⟨hbit, ?_, hshown, hflag,
    hset.raisedIn_after (by simp only [viewKey, Ev.CMP_TRIP, Fld.key]; omega) hraised, ?_⟩
  · rw [win_winSet true hw hshaped, hwin, hkhi]
  · rw [(cmpStep_winSet true hw).winState hw, winState_setWin s k hw, hst]

/-! ### Passes over the windows of a bank -/

/-- The keys that moves of the windows other than `w` write. -/
def othersKey (w k : Nat) : Prop := ∃ y < 16, y ≠ w ∧ moveKey y k

/-- The registers of a window are its own (R266). -/
theorem not_othersKey {w k : Nat} (hw : w < 16)
    (hk : (Reg.CMP_CFG_HI_EN w).key ≤ k ∧ k < (Reg.CMP_CFG_HI_EN w).key + 512) : ¬ othersKey w k := by
  rintro ⟨y, hy, hne, h⟩
  simp only [moveKey, outKey, viewKey, lineKey, tripKey, evKey, Fld.key] at *
  omega

namespace CmpStep
variable {M : Nat → Prop} {s t : State} {w y : Nat}

/-- A move of another window. -/
theorem other (h : CmpStep (· = y) (moveKey y) s t) (hy : y < 16) (hne : y ≠ w) : CmpStep (· ≠ w) (othersKey w) s t :=
  h.mono (fun _ hx hxw => hne (hx ▸ hxw)) fun _ hk => ⟨y, hy, hne, hk⟩

theorem own_win (h : CmpStep (· ≠ w) (othersKey w) s t) : t.win w = s.win w := h.win w fun hne => hne rfl

/-- A field of a window after moves of others. -/
theorem own_rd (h : CmpStep M (othersKey w) s t) (f : Nat → Fld) (hw : w < 16)
    (hf : ∀ i < 16, (Reg.CMP_CFG_HI_EN i).key ≤ (f i).key ∧ (f i).key < (Reg.CMP_CFG_HI_EN i).key + 512) : t.rd (f w) = s.rd (f w) :=
  h.writes.rd _ (not_othersKey hw (hf w hw))

theorem own_on (h : CmpStep M (othersKey w) s t) (f : Nat → Fld) (hw : w < 16)
    (hf : ∀ i < 16, (Reg.CMP_CFG_HI_EN i).key ≤ (f i).key ∧ (f i).key < (Reg.CMP_CFG_HI_EN i).key + 512) : t.on (f w) = s.on (f w) :=
  congrArg (· == 1) (h.own_rd f hw hf)

end CmpStep

/-- The pass of one window, between moves of the others. -/
theorem bank_splits {b w : Nat} {f : State → Nat → State} (hf : ∀ u y, y < 16 → CmpStep (· = y) (moveKey y) u (f u y)) (hb : b < 2)
    (hw : w / 8 = b) (s : State) :
    ∃ u, CmpStep (· ≠ w) (othersKey w) s u ∧ CmpStep (· ≠ w) (othersKey w) (f u w) (s.forEach (bankWins b) f) :=
  forEach_splits (R := CmpStep (· ≠ w) (othersKey w)) (fun _ => CmpStep.refl) (fun _ _ _ h k => h.trans k) (nodup_bankWins b)
    (mem_bankWins.mpr hw)
    (fun u y hy hne => (hf u y (lt_of_mem_bankWins hb hy)).other (lt_of_mem_bankWins hb hy) hne) s

/-! ### Ticks (R253, R254) -/

theorem cmpStep_winTick (s : State) {w : Nat} (l : Nat) (hw : w < 16) : CmpStep (· = w) (moveKey w) s (s.winTick w l) :=
  CmpStep.ite (((cmpStep_setWin s _ hw).mono (fun _ => id) fun _ h => .inr (.inl h)).trans
    ((cmpStep_winDrive hw).mono (fun _ => id) fun _ => .inr)) CmpStep.refl

theorem winTick_idle {s : State} {w : Nat} (l : Nat) (hst : s.winState w ≠ cmpArmed) : s.winTick w l = s := by simp [winTick, hst]

theorem winTick_samples {s : State} {w : Nat} (l : Nat) (hst : s.winState w = cmpArmed) (hclass : s.classA w = false)
    (hmode : s.on (Reg.CMP_CFG_MODE w) = false) :
    s.winTick w l = (s.setWin w (winSample (s.rd (Reg.CMP_CFG_KN w)) (s.win w))).winDrive w l := by
  simp [winTick, hst, hclass, hmode]

/-- A bank tick samples an armed class B window (R254). -/
theorem bankTick_samples {s : State} {b w : Nat} (l : Nat) (hb : b < 2) (hw : w < 16) (hbank : w / 8 = b) (hsh : s.Shaped)
    (hst : s.winState w = cmpArmed) (hclass : s.classA w = false) (hmode : s.on (Reg.CMP_CFG_MODE w) = false) :
    ∃ out, (s.forEach (bankWins b) fun s w => s.winTick w l).win w =
      { winSample (s.rd (Reg.CMP_CFG_KN w)) (s.win w) with out := out } := by
  obtain ⟨u, hbefore, hafter⟩ := bank_splits (fun u y hy => cmpStep_winTick u l hy) hb hbank s
  have hstate : u.winState w = cmpArmed := (hbefore.own_rd Reg.CMP_STAT_STATE hw (by decide)).trans hst
  have hA : u.classA w = false := (congrArg (· == 0) (hbefore.own_rd Reg.CMP_CFG_CLASS hw (by decide))).trans hclass
  have hM : u.on (Reg.CMP_CFG_MODE w) = false := (hbefore.own_on Reg.CMP_CFG_MODE hw (by decide)).trans hmode
  obtain ⟨k, hk⟩ : ∃ k, winSample (u.rd (Reg.CMP_CFG_KN w)) (u.win w) = k := ⟨_, rfl⟩
  obtain ⟨out, hout⟩ := win_winDrive (s := u.setWin w k) (l := l) hw ((cmpStep_setWin u k hw).shaped (hbefore.shaped hsh))
  refine ⟨out, ?_⟩
  rw [hafter.own_win, winTick_samples l hstate hA hM, hk, hout, win_setWin_same k (hbefore.shaped hsh) hw, ← hk,
    hbefore.own_rd Reg.CMP_CFG_KN hw (by decide), hbefore.own_win]

/-! ### Start and disable (R257, R258, R265) -/

/-- What is held of a window in its start state (R257). -/
def startWin (s : State) (w : Nat) : CmpWin :=
  { s.win w with
    hi := s.on (Reg.CMP_CFG_FSAFE w), lo := s.on (Reg.CMP_CFG_FSAFE w), startHi := true, startLo := true,
    filtHi := List.replicate 11 (s.on (Reg.CMP_CFG_FSAFE w)), filtLo := List.replicate 11 (s.on (Reg.CMP_CFG_FSAFE w)),
    fHi := s.on (Reg.CMP_CFG_FSAFE w), fLo := s.on (Reg.CMP_CFG_FSAFE w), hold := false, blank := false }

/-- A window moves to a state, and is held anew. -/
def winMoved (s : State) (w st : Nat) (k : CmpWin) : State := (s.setWinState w st).setWin w k

theorem winStart_eq (s : State) (w : Nat) : s.winStart w = (winMoved s w cmpStart (startWin s w)).winSet w
    ((winMoved s w cmpStart (startWin s w)).winOut w) (winMoved s w cmpStart (startWin s w)).linesBlanked := rfl

section Moves
variable {s : State} {w st : Nat} {k : CmpWin}

/-- What a move writes before its output. -/
abbrev movedKey (w k : Nat) : Prop := k = (Reg.CMP_STAT_STATE w).key ∨ viewKey w k

theorem cmpStep_winMoved (hw : w < 16) : CmpStep (· = w) (movedKey w) s (winMoved s w st k) :=
  (CmpStep.of_cmp (Writes.win_wr (W := movedKey) Reg.CMP_STAT_STATE st hw (by decide)) shaped_wr rfl).trans
    ((cmpStep_setWin _ k hw).mono (fun _ => id) fun _ => .inr)

theorem win_winMoved (hw : w < 16) (hsh : s.Shaped) : (winMoved s w st k).win w = k := win_setWin_same k (shaped_wr hsh) hw

theorem winState_winMoved (hw : w < 16) (hs : s.regsOk) (hst : st < 8) : (winMoved s w st k).winState w = st :=
  (winState_setWin _ k hw).trans (winState_setWinState hs hst)

/-- A move with the output that follows it. -/
theorem cmpStep_winMoved_set {l : Nat} (out : Bool) (hw : w < 16) : CmpStep (· = w) (moveKey w) s ((winMoved s w st k).winSet w out l) :=
  ((cmpStep_winMoved hw).mono (fun _ => id) fun _ => Or.imp_right .inl).trans ((cmpStep_winSet out hw).mono (fun _ => id) fun _ => .inr)

theorem winMoved_set_shows {l : Nat} (out : Bool) (hw : w < 16) (hs : s.regsOk) (hsh : s.Shaped) (hst : st < 8) (hk : k.blank = false) :
    ((winMoved s w st k).winSet w out l).winState w = st ∧ ((winMoved s w st k).winSet w out l).win w = { k with out := out } ∧
      hasBit (((winMoved s w st k).winSet w out l).rd Reg.CMP_OUT_OUT) w = out := by
  have hmoved : CmpStep (· = w) (movedKey w) s (winMoved s w st k) := cmpStep_winMoved hw
  have hwin : (winMoved s w st k).win w = k := win_winMoved hw hsh
  refine ⟨((cmpStep_winSet out hw).winState hw).trans (winState_winMoved hw hs hst), ?_,
    hasBit_out_winSet out hw (hmoved.writes.regsOk hs) (hmoved.shaped hsh) (by rw [winBlanked, hwin, hk, Bool.and_false])⟩
  rw [win_winSet out hw (hmoved.shaped hsh), hwin]

end Moves

section Start
variable {s : State} {w : Nat}

theorem cmpStep_winStart (hw : w < 16) : CmpStep (· = w) (moveKey w) s (s.winStart w) := cmpStep_winMoved_set _ hw

/-- The output of a window whose comparators and filters all hold one value. -/
theorem winOut_of_held {t : Bool} (hhi : (s.win w).hi = t) (hlo : (s.win w).lo = t) (hfHi : (s.win w).fHi = t) (hfLo : (s.win w).fLo = t) :
    s.winOut w = (t && (s.on (Reg.CMP_CFG_HI_EN w) || s.on (Reg.CMP_CFG_LO_EN w))) := by
  rw [winOut, hhi, hlo, hfHi, hfLo, ite_self, Bool.and_or_distrib_left, Bool.and_comm t, Bool.and_comm t]

/-- The start state is the output where a comparator is enabled (R257). -/
theorem winOut_started (hw : w < 16) (hsh : s.Shaped) : (winMoved s w cmpStart (startWin s w)).winOut w =
    (s.on (Reg.CMP_CFG_FSAFE w) && (s.on (Reg.CMP_CFG_HI_EN w) || s.on (Reg.CMP_CFG_LO_EN w))) := by
  have hmoved : Writes (movedKey w) s (winMoved s w cmpStart (startWin s w)) := (cmpStep_winMoved hw).writes
  have hwin : (winMoved s w cmpStart (startWin s w)).win w = startWin s w := win_winMoved hw hsh
  rw [winOut_of_held (t := s.on (Reg.CMP_CFG_FSAFE w)) (by rw [hwin]; rfl) (by rw [hwin]; rfl) (by rw [hwin]; rfl) (by rw [hwin]; rfl),
    hmoved.win_on (W := movedKey) Reg.CMP_CFG_HI_EN hw (by decide), hmoved.win_on (W := movedKey) Reg.CMP_CFG_LO_EN hw (by decide)]

theorem winStart_shows (hw : w < 16) (hs : s.regsOk) (hsh : s.Shaped) : (s.winStart w).winState w = cmpStart ∧
    (∃ out, (s.winStart w).win w = { startWin s w with out := out }) ∧ hasBit ((s.winStart w).rd Reg.CMP_OUT_OUT) w =
      (s.on (Reg.CMP_CFG_FSAFE w) && (s.on (Reg.CMP_CFG_HI_EN w) || s.on (Reg.CMP_CFG_LO_EN w))) := by
  obtain ⟨hst, hwin, hout⟩ := winMoved_set_shows (l := (winMoved s w cmpStart (startWin s w)).linesBlanked)
    ((winMoved s w cmpStart (startWin s w)).winOut w) hw hs hsh (by decide : cmpStart < 8) (rfl : (startWin s w).blank = false)
  rw [winStart_eq]
  exact ⟨hst, ⟨_, hwin⟩, hout.trans (winOut_started hw hsh)⟩

/-- R258: the EN bit of a window that is OFF is written 1. -/
theorem winEnable_off (hw : w < 16) (hst : s.winState w = cmpOff) : s.winEnable w = (s.setB Reg.CMP_CTRL_EN w).winStart w :=
  if_pos ((rd_wr_unit_ne Reg.CMP_STAT_STATE (fun _ => Reg.CMP_CTRL_EN) hw (by decide)).trans hst)

theorem winEnable_shows (hw : w < 16) (hs : s.regsOk) (hsh : s.Shaped) (hst : s.winState w = cmpOff) :
    hasBit ((s.winEnable w).rd Reg.CMP_CTRL_EN) w = true ∧ (s.winEnable w).winState w = cmpStart ∧
      ((s.winEnable w).win w).hi = s.on (Reg.CMP_CFG_FSAFE w) ∧ ((s.winEnable w).win w).lo = s.on (Reg.CMP_CFG_FSAFE w) ∧
      ((s.winEnable w).win w).startHi = true ∧ hasBit ((s.winEnable w).rd Reg.CMP_OUT_OUT) w =
        (s.on (Reg.CMP_CFG_FSAFE w) && (s.on (Reg.CMP_CFG_HI_EN w) || s.on (Reg.CMP_CFG_LO_EN w))) := by
  have hkept (f : Nat → Fld) (hf : ∀ i < 16, (f i).key ≠ Reg.CMP_CTRL_EN.key) :
      (s.setB Reg.CMP_CTRL_EN w).on (f w) = s.on (f w) := congrArg (· == 1) (rd_wr_unit_ne f (fun _ => Reg.CMP_CTRL_EN) hw hf)
  obtain ⟨hstate, ⟨out, hwin⟩, hout⟩ := winStart_shows (s := s.setB Reg.CMP_CTRL_EN w) hw (keysRise_wr _ _ _ hs) (shaped_wr hsh)
  have hfsafe := hkept Reg.CMP_CFG_FSAFE (by decide)
  rw [hfsafe, hkept Reg.CMP_CFG_HI_EN (by decide), hkept Reg.CMP_CFG_LO_EN (by decide)] at hout
  rw [winEnable_off hw hst, hwin]
  refine ⟨?_, hstate, hfsafe, hfsafe, rfl, hout⟩
  rw [(cmpStep_winStart hw).writes.win_rd (fun _ => Reg.CMP_CTRL_EN) hw (by decide)]
  exact hasBit_rd_putB true hs hw

/-- What is held of a window that is OFF. -/
def offWin (k : CmpWin) : CmpWin := { cfg := k.cfg, vin := k.vin, out := k.out }

/-- The EN bit has been cleared; a window under check is not judged (R265). -/
def disableNoted (s : State) (w : Nat) : State :=
  (s.clrB Reg.CMP_CTRL_EN w).when (s.winState w == cmpCheck) fun s => s.setB Reg.CMP_LCHK_RES_NJ w

/-- R258: the EN bit of a window that is not OFF is written 0. -/
theorem winDisable_eq (hw : w < 16) (hst : s.winState w ≠ cmpOff) : ∃ l, s.winDisable w =
    (winMoved (disableNoted s w) w cmpOff (offWin ((disableNoted s w).win w))).winSet w false l := by
  have hkept : (s.clrB Reg.CMP_CTRL_EN w).winState w = s.winState w :=
    rd_wr_unit_ne Reg.CMP_STAT_STATE (fun _ => Reg.CMP_CTRL_EN) hw (by decide)
  refine ⟨(winMoved (disableNoted s w) w cmpOff (offWin ((disableNoted s w).win w))).linesBlanked, ?_⟩
  rw [winDisable, hkept]
  exact if_neg hst

theorem winDisable_shows (hw : w < 16) (hs : s.regsOk) (hsh : s.Shaped) (hst : s.winState w ≠ cmpOff) :
    hasBit ((s.winDisable w).rd Reg.CMP_CTRL_EN) w = false ∧ (s.winDisable w).winState w = cmpOff ∧
      hasBit ((s.winDisable w).rd Reg.CMP_OUT_OUT) w = false ∧
      (s.winState w = cmpCheck → hasBit ((s.winDisable w).rd Reg.CMP_LCHK_RES_NJ) w = true) := by
  have hcleared : (s.clrB Reg.CMP_CTRL_EN w).regsOk := keysRise_wr _ _ _ hs
  have hnoted : Writes (Among [Reg.CMP_LCHK_RES_NJ]) (s.clrB Reg.CMP_CTRL_EN w) (disableNoted s w) :=
    Writes.when fun _ => Writes.wr _ ⟨_, by simp, rfl⟩ (by decide)
  have hshaped : (disableNoted s w).Shaped := by
    unfold disableNoted State.when
    split
    · exact shaped_wr (shaped_wr hsh)
    · exact shaped_wr hsh
  obtain ⟨l, heq⟩ := winDisable_eq hw hst
  have hmove : CmpStep (· = w) (moveKey w) (disableNoted s w) (s.winDisable w) := heq ▸ cmpStep_winMoved_set false hw
  obtain ⟨hstate, -, hout⟩ := winMoved_set_shows (k := offWin ((disableNoted s w).win w)) (l := l) false hw
    (hnoted.regsOk hcleared) hshaped
    (by decide : cmpOff < 8) rfl
  refine ⟨?_, heq ▸ hstate, heq ▸ hout, fun hcheck => ?_⟩
  · rw [hmove.writes.win_rd (fun _ => Reg.CMP_CTRL_EN) hw (by decide), hnoted.rd _ (by decide)]
    exact hasBit_rd_putB false hs hw
  · rw [hmove.writes.win_rd (fun _ => Reg.CMP_LCHK_RES_NJ) hw (by decide), disableNoted, hcheck]
    exact hasBit_rd_putB true hcleared hw

/-- R258: the first evaluation of a continuous window. -/
theorem winArm_start (v : Int) (hst : s.winState w = cmpStart) (hmode : s.on (Reg.CMP_CFG_MODE w) = false) :
    s.winArm w v = (winMoved s w cmpArmed (winEval { s.win w with vin := v })).winDrive w s.linesBlanked := by
  simp only [winArm, hst, hmode]
  rfl

theorem winArm_waits (v : Int) (hst : s.winState w ≠ cmpStart) : s.winArm w v = s := if_neg hst

theorem winArm_shows (v : Int) (hw : w < 16) (hs : s.regsOk) (hsh : s.Shaped) (hst : s.winState w = cmpStart)
    (hmode : s.on (Reg.CMP_CFG_MODE w) = false) :
    (s.winArm w v).winState w = cmpArmed ∧ ∃ out, (s.winArm w v).win w = { winEval { s.win w with vin := v } with out := out } := by
  obtain ⟨out, hout⟩ := win_winDrive (s := winMoved s w cmpArmed (winEval { s.win w with vin := v })) (l := s.linesBlanked) hw
    ((cmpStep_winMoved hw).shaped hsh)
  rw [winArm_start v hst hmode]
  exact ⟨((cmpStep_winDrive hw).winState hw).trans (winState_winMoved hw hs (by decide)), out, by rw [hout, win_winMoved hw hsh]⟩

end Start

/-! ### Shadow writes (R252) -/

theorem win_setBank (s : State) (b w : Nat) (k : CmpBank) : (s.setBank b k).win w = s.win w := rfl

theorem writes_setBank (s : State) {b : Nat} (k : CmpBank) (hb : b < 2) : Writes (· = (Reg.CMP_BANK_CFG_PEND b).key) s (s.setBank b k) := by
  have hheld : Writes (· = (Reg.CMP_BANK_CFG_PEND b).key) s { s with cmp := { s.cmp with banks := setNth s.cmp.banks b k } } :=
    Writes.of_regs rfl
  exact hheld.trans (Writes.wr _ rfl (by simp only [evKey, Fld.key]; omega))

theorem writes_toTick (s : State) (k : Nat) : Writes (Among [Reg.ORB_ANGLE_THETA, Reg.ORB_TICK_TICK]) s (s.toTick k) := by
  have hfrac (n : Nat) : Writes (Among [Reg.ORB_ANGLE_THETA, Reg.ORB_TICK_TICK]) s { s with orbit := { s.orbit with thetaFrac := n } } :=
    Writes.of_regs rfl
  exact Writes.ite Writes.refl
    (((hfrac _).trans (Writes.wr _ ⟨_, by simp, rfl⟩ (by decide))).trans (Writes.wr _ ⟨_, by simp, rfl⟩ (by decide)))

theorem winState_toTick (s : State) (k : Nat) {w : Nat} (hw : w < 16) : (s.toTick k).winState w = s.winState w :=
  (writes_toTick s k).win_rd (W := fun _ => Among [Reg.ORB_ANGLE_THETA, Reg.ORB_TICK_TICK]) Reg.CMP_STAT_STATE hw (by decide)

/-- A shadow write that lands at a tick. -/
theorem exec_cmpConfigWrite {s : State} {m : Master} {w v tick : Nat} {r : CmpReg} (hw : w < 16)
    (hr : (s.toTick tick).right m (cmpAddr w r) .cr = .allow) :
    exec (.cmpConfigWrite m w r v tick) s = .next ((s.toTick tick).acked.cmpConfigWrite w r v tick) :=
  congrArg Host.Outcome.next ((if_pos hw).trans (access_allow _ hr))

/-- The thresholds have been written to their shadows. -/
def thWritten (s : State) (w v : Nat) : State := (s.wr (Reg.CMP_TH_TH_HI w) v).wr (Reg.CMP_TH_TH_LO w) (fieldOf v 16 10)

theorem shaped_thWritten {s : State} {w v : Nat} (hsh : s.Shaped) : (thWritten s w v).Shaped := shaped_wr (shaped_wr hsh)

/-- A shadow write that comes late is flagged, and counted once for its bank in a frame (R41). -/
def lateFlagged (s : State) (b : Nat) (late : Bool) : State :=
  (s.when late fun s => s.setB Reg.CMP_FLAGS_LATE_CFG b).when (late && !(s.bank b).late) lateCommit

/-- A shadow write waits for the boundary of its bank. -/
def shadowNoted (s : State) (b : Nat) (late : Bool) : State := (lateFlagged s b late).setBank b
  { (lateFlagged s b late).bank b with wrote := true, late := ((lateFlagged s b late).bank b).late || late }

theorem cmpStep_lateFlagged {M : Nat → Prop} (s : State) (b : Nat) (late : Bool) :
    CmpStep M (Among [Reg.CMP_FLAGS_LATE_CFG]) s (lateFlagged s b late) := by
  have hflag (u : State) : CmpStep M (Among [Reg.CMP_FLAGS_LATE_CFG]) u (u.setB Reg.CMP_FLAGS_LATE_CFG b) :=
    CmpStep.wr _ ⟨_, by simp, rfl⟩ (by decide)
  have hcount (u : State) : CmpStep M (Among [Reg.CMP_FLAGS_LATE_CFG]) u u.lateCommit :=
    CmpStep.of_cmp (Writes.of_regs rfl) (kp_lateCommit u).shaped rfl
  exact (CmpStep.when hflag).trans (CmpStep.when hcount)

section Shadows
variable {s : State} {w v : Nat}

theorem winState_thWritten (hw : w < 16) : (thWritten s w v).winState w = s.winState w :=
  (rd_wr_unit_ne Reg.CMP_STAT_STATE Reg.CMP_TH_TH_LO hw (by decide)).trans
    (rd_wr_unit_ne Reg.CMP_STAT_STATE Reg.CMP_TH_TH_HI hw (by decide))

theorem thWritten_shows (hw : w < 16) (hs : s.regsOk) : (thWritten s w v).regsOk ∧ (thWritten s w v).rd (Reg.CMP_TH_TH_HI w) = v % 1024 ∧
    (thWritten s w v).rd (Reg.CMP_TH_TH_LO w) = v / 65536 % 1024 := by
  have hhi : (s.wr (Reg.CMP_TH_TH_HI w) v).regsOk := keysRise_wr _ _ _ hs
  refine ⟨keysRise_wr _ _ _ hhi, (rd_wr_unit_ne Reg.CMP_TH_TH_HI Reg.CMP_TH_TH_LO hw (by decide)).trans (rd_wr_same _ _ _ hs), ?_⟩
  exact (rd_wr_same _ _ _ hhi).trans (Nat.mod_mod_of_dvd _ (dvd_refl _))

/-- A threshold write to a window that is OFF applies at once. -/
theorem cmpConfigWrite_off (tick : Nat) (hw : w < 16) (hst : s.winState w = cmpOff) : s.cmpConfigWrite w .th v tick =
    (thWritten s w v).setWin w { s.win w with cfg := (thWritten s w v).winShadow w } :=
  if_pos ((winState_thWritten hw).trans hst)

/-- Otherwise it waits for the boundary, late where it is near it. -/
theorem cmpConfigWrite_waits (tick : Nat) (hw : w < 16) (hst : s.winState w ≠ cmpOff) : s.cmpConfigWrite w .th v tick =
    shadowNoted (thWritten s w v) (w / 8) (decide ((thWritten s w v).frameLen < tick + 64)) :=
  if_neg fun h => hst ((winState_thWritten hw).symm.trans h)

/-- R252: a threshold write to a window that is OFF. -/
theorem cmpConfigWrite_off_shows (tick : Nat) (hw : w < 16) (hs : s.regsOk) (hsh : s.Shaped) (hst : s.winState w = cmpOff) :
    (s.cmpConfigWrite w .th v tick).rd (Reg.CMP_TH_TH_HI w) = v % 1024 ∧
      (s.cmpConfigWrite w .th v tick).rd (Reg.CMP_TH_TH_LO w) = v / 65536 % 1024 ∧
      ((s.cmpConfigWrite w .th v tick).win w).cfg.thHi = v % 1024 ∧
      ((s.cmpConfigWrite w .th v tick).win w).cfg.thLo = v / 65536 % 1024 := by
  obtain ⟨-, hhi, hlo⟩ := thWritten_shows (v := v) hw hs
  have hset (k : CmpWin) : Writes (viewKey w) (thWritten s w v) ((thWritten s w v).setWin w k) := writes_setWin _ k hw
  rw [cmpConfigWrite_off tick hw hst, (hset _).win_rd Reg.CMP_TH_TH_HI hw (by decide), (hset _).win_rd Reg.CMP_TH_TH_LO hw (by decide),
    win_setWin_same (s := thWritten s w v) _ (shaped_thWritten hsh) hw]
  exact ⟨hhi, hlo, hhi, hlo⟩

/-- R252: a threshold write to a window that is not OFF. -/
theorem cmpConfigWrite_waits_shows (tick : Nat) (hw : w < 16) (hs : s.regsOk) (hsh : s.Shaped) (hst : s.winState w ≠ cmpOff) :
    (s.cmpConfigWrite w .th v tick).rd (Reg.CMP_TH_TH_HI w) = v % 1024 ∧
      (s.cmpConfigWrite w .th v tick).rd (Reg.CMP_TH_TH_LO w) = v / 65536 % 1024 ∧
      (s.cmpConfigWrite w .th v tick).win w = s.win w ∧ ((s.cmpConfigWrite w .th v tick).bank (w / 8)).wrote = true ∧
      (s.cmpConfigWrite w .th v tick).rd (Reg.CMP_BANK_CFG_PEND (w / 8)) = 1 := by
  obtain ⟨hok, hhi, hlo⟩ := thWritten_shows (v := v) hw hs
  have hb : w / 8 < 2 := by omega
  have heq := cmpConfigWrite_waits (v := v) tick hw hst
  obtain ⟨late, hlate⟩ : ∃ l, decide ((thWritten s w v).frameLen < tick + 64) = l := ⟨_, rfl⟩
  rw [hlate] at heq
  have hflagged : CmpStep (fun _ => False) (Among [Reg.CMP_FLAGS_LATE_CFG]) (thWritten s w v)
      (lateFlagged (thWritten s w v) (w / 8) late) :=
    cmpStep_lateFlagged _ _ late
  have hkept (f : Nat → Fld) (hf : ∀ i < 16, (f i).key ≠ (Reg.CMP_BANK_CFG_PEND (i / 8)).key)
      (hl : ∀ i < 16, ¬ Among [Reg.CMP_FLAGS_LATE_CFG] (f i).key) :
      (shadowNoted (thWritten s w v) (w / 8) late).rd (f w) = (thWritten s w v).rd (f w) :=
    ((writes_setBank _ _ hb).rd _ (hf w hw)).trans (hflagged.writes.rd _ (hl w hw))
  rw [heq]
  refine ⟨(hkept Reg.CMP_TH_TH_HI (by decide) (by decide)).trans hhi, (hkept Reg.CMP_TH_TH_LO (by decide) (by decide)).trans hlo,
    hflagged.win w id, ?_, rd_wr_lt (hflagged.writes.regsOk hok) Nat.one_lt_two⟩
  exact congrArg CmpBank.wrote (bank_setBank_same _ (hflagged.shaped (shaped_thWritten hsh)) hb)

end Shadows

/-! ### Commits, holds and blanking (R252, R254) -/

/-- The windows that a legacy check takes (R261). -/
def checkWins (s : State) (b : Nat) : List Nat :=
  (bankWins b).filter fun w => hasBit (s.rd Reg.CMP_LCHK_CFG_SEL) w && s.winState w == cmpArmed

/-- The results of the windows of a bank have been cleared. -/
def checkCleared (s : State) (b : Nat) : State :=
  s.forEach (bankWins b) fun s w => (s.clrB Reg.CMP_LCHK_RES_PASS w).clrB Reg.CMP_LCHK_RES_NJ w

/-- The windows that a check takes have entered CHECK. -/
def checkTaken (s : State) (b : Nat) : State := (checkCleared s b).forEach (checkWins s b) fun s w => s.setWinState w cmpCheck

theorem lcheckStart_eq (s : State) (b : Nat) : s.lcheckStart b = ((checkTaken s b).setBank b
    { (checkTaken s b).bank b with checkWait := false, sel := (checkWins s b).foldl setBit 0, fail := 0 }).wr (Reg.CMP_BANK_BUSY b) 1 := rfl

/-- What the taking of a check writes: results, and the states of the windows that it takes. -/
abbrev checkKey (s : State) (b k : Nat) : Prop :=
  k = Reg.CMP_LCHK_RES_PASS.key ∨ k = Reg.CMP_LCHK_RES_NJ.key ∨ ∃ w ∈ checkWins s b, k = (Reg.CMP_STAT_STATE w).key

theorem lt_of_mem_checkWins {s : State} {b w : Nat} (hb : b < 2) (hw : w ∈ checkWins s b) : w < 16 :=
  lt_of_mem_bankWins hb (List.mem_filter.mp hw).1

section Taken
variable {M : Nat → Prop} {s : State} {b : Nat}

theorem cmpStep_checkCleared : CmpStep M (fun k => k = Reg.CMP_LCHK_RES_PASS.key ∨ k = Reg.CMP_LCHK_RES_NJ.key) s (checkCleared s b) :=
  CmpStep.forEach (fun _ _ _ => (CmpStep.wr _ (.inl rfl) (by decide)).trans (CmpStep.wr _ (.inr rfl) (by decide))) s

theorem cmpStep_checkTaken (hb : b < 2) : CmpStep M (checkKey s b) s (checkTaken s b) := by
  have hstate (u : State) {w : Nat} (hw : w ∈ checkWins s b) : CmpStep M (checkKey s b) u (u.setWinState w cmpCheck) := by
    have hlt := lt_of_mem_checkWins hb hw
    exact CmpStep.wr _ (.inr (.inr ⟨w, hw, rfl⟩)) (by simp only [evKey, Fld.key]; omega)
  exact (cmpStep_checkCleared.mono (fun _ => id) fun _ => Or.imp_right .inl).trans (CmpStep.forEach (fun u _ hw => hstate u hw) _)

theorem lcheckStart_win (hb : b < 2) (w : Nat) : (s.lcheckStart b).win w = s.win w :=
  (cmpStep_checkTaken (M := fun _ => False) hb).win w id

theorem lcheckStart_ready (hb : b < 2) (hsh : s.Shaped) : ((s.lcheckStart b).bank b).ready = (s.bank b).ready := by
  have htaken : CmpStep (fun _ => False) (checkKey s b) s (checkTaken s b) := cmpStep_checkTaken hb
  rw [lcheckStart_eq, wr_bank, bank_setBank_same _ (htaken.shaped hsh) hb, htaken.bank b]

end Taken

/-- A commit reaches window `i` of its bank (R252). -/
def commitPass (b : Nat) (l : List CmpCfg) (s : State) (i : Nat) : State :=
  if s.winState (8 * b + i) = cmpOff then s else s.setWin (8 * b + i) { s.win (8 * b + i) with cfg := nth l i {}, hold := true }

/-- A commit has reached the windows, and is no longer due. -/
def commitTaken (s : State) (b : Nat) (l : List CmpCfg) : State :=
  (s.forEach (List.range 8) (commitPass b l)).setBank b { (s.forEach (List.range 8) (commitPass b l)).bank b with ready := none }

theorem cmpCommit_eq (s : State) (b : Nat) (l : List CmpCfg) : s.cmpCommit b l =
    if ((commitTaken s b l).bank b).checkWait && !(commitTaken s b l).on (Reg.CMP_BANK_CFG_PEND b)
      then (commitTaken s b l).lcheckStart b else commitTaken s b l := rfl

theorem cmpCommit_cases (s : State) (b : Nat) (l : List CmpCfg) :
    s.cmpCommit b l = commitTaken s b l ∨ s.cmpCommit b l = (commitTaken s b l).lcheckStart b := by
  rw [cmpCommit_eq]
  split
  · exact .inr rfl
  · exact .inl rfl

theorem cmpStep_commitPass (s : State) {b i : Nat} (l : List CmpCfg) (hw : 8 * b + i < 16) :
    CmpStep (· = 8 * b + i) (moveKey (8 * b + i)) s (commitPass b l s i) :=
  CmpStep.ite CmpStep.refl ((cmpStep_setWin s _ hw).mono (fun _ => id) fun _ h => .inr (.inl h))

theorem commit_splits {b i : Nat} (l : List CmpCfg) (hb : b < 2) (hi : i < 8) (s : State) :
    ∃ u, CmpStep (· ≠ 8 * b + i) (othersKey (8 * b + i)) s u ∧
      CmpStep (· ≠ 8 * b + i) (othersKey (8 * b + i)) (commitPass b l u i) (s.forEach (List.range 8) (commitPass b l)) := by
  refine forEach_splits (R := CmpStep (· ≠ 8 * b + i) (othersKey (8 * b + i))) (fun _ => CmpStep.refl) (fun _ _ _ h k => h.trans k)
    List.nodup_range (List.mem_range.mpr hi) (fun u j hj hne => ?_) s
  have hlt := List.mem_range.mp hj
  exact (cmpStep_commitPass u l (by omega)).other (by omega) (by omega)

theorem shaped_forEach_commit {s : State} {b : Nat} (l : List CmpCfg) (hb : b < 2) (hsh : s.Shaped) :
    (s.forEach (List.range 8) (commitPass b l)).Shaped := by
  have hpass (u : State) (i : Nat) (hi : i ∈ List.range 8) : CmpStep (fun _ => True) (fun _ => True) u (commitPass b l u i) := by
    have hlt := List.mem_range.mp hi
    exact (cmpStep_commitPass u l (by omega)).mono (fun _ _ => trivial) fun _ _ => trivial
  exact (CmpStep.forEach hpass s).shaped hsh

/-- R252: what the commit of a bank leaves. -/
theorem cmpCommit_shows {s : State} {b : Nat} (l : List CmpCfg) (hb : b < 2) (hsh : s.Shaped) : ((s.cmpCommit b l).bank b).ready = none ∧
    ∀ i < 8, s.winState (8 * b + i) ≠ cmpOff →
      ((s.cmpCommit b l).win (8 * b + i)).cfg = nth l i {} ∧ ((s.cmpCommit b l).win (8 * b + i)).hold = true := by
  have hloop := shaped_forEach_commit l hb hsh
  have hnone : ((commitTaken s b l).bank b).ready = none := by rw [commitTaken, bank_setBank_same _ hloop hb]
  have htaken : (commitTaken s b l).Shaped := (kp_setBank _ _ _).shaped hloop
  have hwins (w : Nat) : (s.cmpCommit b l).win w = (s.forEach (List.range 8) (commitPass b l)).win w := by
    rcases cmpCommit_cases s b l with h | h
    · rw [h, commitTaken, win_setBank]
    · rw [h, lcheckStart_win hb, commitTaken, win_setBank]
  refine ⟨?_, fun i hi hst => ?_⟩
  · rcases cmpCommit_cases s b l with h | h
    · rw [h, hnone]
    · rw [h, lcheckStart_ready hb htaken, hnone]
  · obtain ⟨u, hbefore, hafter⟩ := commit_splits l hb hi s
    have hstate : u.winState (8 * b + i) ≠ cmpOff := by
      rw [winState, hbefore.own_rd Reg.CMP_STAT_STATE (by omega) (by decide)]
      exact hst
    rw [hwins, hafter.own_win, commitPass, if_neg hstate, win_setWin_same _ (hbefore.shaped hsh) (by omega)]
    exact ⟨rfl, rfl⟩

/-- A commit that is due applies. -/
theorem exec_cmpConfigCommit {s : State} {b : Nat} {l : List CmpCfg} (hb : b < 2) (h : (s.bank b).ready = some l) :
    exec (.cmpConfigCommit b) s = .next (s.cmpCommit b l) := by
  refine congrArg Host.Outcome.next ((if_pos hb).trans ?_)
  rw [h]

theorem exec_cmpConfigCommit_none {s : State} {b : Nat} (h : (s.bank b).ready = none) : exec (.cmpConfigCommit b) s = .next s := by
  refine congrArg Host.Outcome.next (ite_eq_right_iff.mpr fun _ => ?_)
  rw [h]

theorem holdEnd_idle {s : State} {w : Nat} (h : (s.win w).hold = false) : s.holdEnd w = s := if_neg (ne_true_of_eq_false h)

/-- R252: the hold ends in START. -/
theorem holdEnd_start {s : State} {w : Nat} (hw : w < 16) (hhold : (s.win w).hold = true) (hst : s.winState w = cmpStart) :
    s.holdEnd w = s.setWin w { s.win w with hold := false } := by
  rw [holdEnd, if_pos hhold]
  exact if_neg (by rw [winState_setWin s _ hw, hst]; decide)

/-- R254: blanking ends over an output that is tripped. -/
theorem blankEnd_shows {s : State} {w : Nat} (hw : w < 16) (hs : s.regsOk) (hsh : s.Shaped) (hout : (s.win w).out = true)
    (hwas : hasBit (s.rd Reg.CMP_OUT_OUT) w = false) :
    (((s.setWin w { s.win w with blank := false }).winShow w).win w).blank = false ∧
      hasBit (((s.setWin w { s.win w with blank := false }).winShow w).rd Reg.CMP_OUT_OUT) w = true ∧
      hasBit (((s.setWin w { s.win w with blank := false }).winShow w).rd Reg.CMP_FLAGS_TRIP) w = true ∧
      ((s.setWin w { s.win w with blank := false }).winShow w).rd (Reg.CMP_STAT_COUNT w) =
        satInc (2 ^ (Reg.CMP_STAT_COUNT w).width - 1) (s.rd (Reg.CMP_STAT_COUNT w)) ∧
      s.raisedIn ((s.setWin w { s.win w with blank := false }).winShow w) (Ev.CMP_TRIP w) ∧
      ((s.setWin w { s.win w with blank := false }).winShow w).winState w = s.winState w := by
  obtain ⟨u, hu⟩ : ∃ u, s.setWin w { s.win w with blank := false } = u := ⟨_, rfl⟩
  have hset : Writes (viewKey w) s u := hu ▸ writes_setWin s _ hw
  have hwin : u.win w = { s.win w with blank := false } := hu ▸ win_setWin_same _ hsh hw
  have htrips : u.winShow w = tripShown u w :=
    winShow_trips (by rw [winBlanked, hwin, Bool.and_false]) (by rw [hset.win_rd (fun _ => Reg.CMP_OUT_OUT) hw (by decide), hwas])
      (by rw [hwin, hout])
  obtain ⟨hbit, hflag, hcount, hraised⟩ := tripShown_shows hw (hset.regsOk hs)
  rw [hu, htrips]
  refine ⟨by rw [win_tripShown, hwin], hbit, hflag, ?_, hset.raisedIn_after (by simp only [viewKey, Ev.CMP_TRIP, Fld.key]; omega) hraised, ?_⟩
  · rw [hcount, hset.win_rd Reg.CMP_STAT_COUNT hw (by decide)]
  · rw [winState, (writes_tripShown u hw).win_rd Reg.CMP_STAT_STATE hw (by decide), hset.win_rd Reg.CMP_STAT_STATE hw (by decide), winState]

/-! ### The statement -/

/-- Settles O19: each command by its operation on the window or bank, and by what that operation shows. -/
theorem comparatorWindowsAct : Obligations.ComparatorWindowsAct := by
  refine ⟨fun s w l v hw hs hsh hst hmode hclass hhi hhold hwas hth => ?_, fun s w l v b hw hoff harmed => ?_,
    fun s w l v b hw hoff => ?_, fun s b l hb hs hsh => ?_, fun s b l hb hidle => ?_, fun s m w hw hs hsh hr hoff => ?_,
    fun s m w hw hs hsh hr hst => ?_, fun s w v hw hs hsh hst hmode => ?_, fun s w v hw hst => ?_,
    fun s m w v tick hw hs hsh hr => ⟨fun hoff => ?_, fun hst => ?_⟩, fun s b k hb hs hsh hready => ?_, fun s b hready => ?_,
    fun s w hw hsh hhold hst hs => ?_, fun s w hhold => ?_, fun s w hw hs hsh hout hwas => ?_⟩
  · have hexec : exec (.cmpOutputChange w v false l) s = .next (s.winInput w v false l) := congrArg Host.Outcome.next (if_pos hw)
    obtain ⟨hbit, hwin, htrip, hflag, hraised, hstate⟩ := winInput_trips l hw hs hsh hst hmode hclass hhi hhold hwas hth
    exact ⟨_, hexec, hbit, hwin, htrip, hflag, hraised, hstate, (kp_execCmpOutputChange _ _ _ _ _ _ hexec).memsSame (by decide)⟩
  · exact congrArg Host.Outcome.next ((if_pos hw).trans (winInput_waits v b l hoff harmed))
  · exact congrArg Host.Outcome.next ((if_pos hw).trans (winInput_off v b l hoff))
  · have hexec : exec (.cmpBankTick b l) s = .next (s.forEach (bankWins b) fun s w => s.winTick w l) :=
      congrArg Host.Outcome.next (if_pos hb)
    refine ⟨_, hexec, (kp_execCmpBankTick _ _ _ _ hexec).memsSame (by decide), fun w hw hbank hst hclass hmode => ?_⟩
    obtain ⟨out, hwin⟩ := bankTick_samples l hb hw hbank hsh hst hclass hmode
    rw [hwin]
    exact ⟨rfl, rfl, rfl⟩
  · have hpass : ∀ w ∈ bankWins b, s.winTick w l = s :=
      fun w hw => winTick_idle l (hidle w (lt_of_mem_bankWins hb hw) (mem_bankWins.mp hw))
    exact congrArg Host.Outcome.next ((if_pos hb).trans (forEach_idle hpass))
  · have hexec : exec (.cmpWindowEnable m w) s = .next (s.acked.winEnable w) :=
      congrArg Host.Outcome.next ((if_pos hw).trans (access_allow _ hr))
    obtain ⟨hen, hstate, hhi, hlo, hstart, hout⟩ := winEnable_shows (s := s.acked) hw hs (shaped_acked hsh) hoff
    exact ⟨_, hexec, hen, hstate, hhi, hlo, hstart, hout, (kp_execCmpWindowEnable _ _ _ _ hexec).memsSame (by decide)⟩
  · have hexec : exec (.cmpWindowDisable m w) s = .next (s.acked.winDisable w) :=
      congrArg Host.Outcome.next ((if_pos hw).trans (access_allow _ hr))
    obtain ⟨hen, hstate, hout, hnj⟩ := winDisable_shows (s := s.acked) hw hs (shaped_acked hsh) hst
    exact ⟨_, hexec, hen, hstate, hout, hnj, (kp_execCmpWindowDisable _ _ _ _ hexec).memsSame (by decide)⟩
  · have hexec : exec (.cmpWindowArm w v) s = .next (s.winArm w v) := congrArg Host.Outcome.next (if_pos hw)
    obtain ⟨hstate, out, hwin⟩ := winArm_shows v hw hs hsh hst hmode
    exact ⟨_, hexec, hstate, by rw [hwin]; rfl, by rw [hwin]; rfl, by rw [hwin]; rfl,
      (kp_execCmpWindowArm _ _ _ _ hexec).memsSame (by decide)⟩
  · exact congrArg Host.Outcome.next ((if_pos hw).trans (winArm_waits v hst))
  · have hexec := exec_cmpConfigWrite (v := v) hw hr
    obtain ⟨hhi, hlo, hcfgHi, hcfgLo⟩ := cmpConfigWrite_off_shows (s := (s.toTick tick).acked) (v := v) tick hw
      ((writes_toTick s tick).regsOk hs) (shaped_acked ((kp_toTick s tick).shaped hsh)) ((winState_toTick s tick hw).trans hoff)
    exact ⟨_, hexec, hhi, hlo, hcfgHi, hcfgLo, (kp_execCmpConfigWrite _ _ _ _ _ _ _ hexec).memsSame (by decide)⟩
  · have hexec := exec_cmpConfigWrite (v := v) hw hr
    have hstate : (s.toTick tick).acked.winState w ≠ cmpOff := fun h => hst ((winState_toTick s tick hw).symm.trans h)
    obtain ⟨hhi, hlo, hwin, hwrote, hpend⟩ := cmpConfigWrite_waits_shows (s := (s.toTick tick).acked) (v := v) tick hw
      ((writes_toTick s tick).regsOk hs) (shaped_acked ((kp_toTick s tick).shaped hsh)) hstate
    have hkept : (s.toTick tick).acked.win w = s.win w := win_of_cmp ((kp_toTick s tick).cmp (by decide)) w
    exact ⟨_, hexec, hhi, hlo, by rw [hwin, hkept], hwrote, hpend, (kp_execCmpConfigWrite _ _ _ _ _ _ _ hexec).memsSame (by decide)⟩
  · have hexec : exec (.cmpConfigCommit b) s = .next (s.cmpCommit b k) := exec_cmpConfigCommit hb hready
    obtain ⟨hnone, hwins⟩ := cmpCommit_shows k hb hsh
    exact ⟨_, hexec, hnone, (kp_execCmpConfigCommit _ _ _ hexec).memsSame (by decide), hwins⟩
  · exact exec_cmpConfigCommit_none hready
  · exact congrArg Host.Outcome.next ((if_pos hw).trans (holdEnd_start hw hhold hst))
  · exact congrArg Host.Outcome.next (ite_eq_right_iff.mpr fun _ => holdEnd_idle hhold)
  · have hexec : exec (.cmpBlankEnd w) s = .next ((s.setWin w { s.win w with blank := false }).winShow w) :=
      congrArg Host.Outcome.next (if_pos hw)
    obtain ⟨hblank, hbit, hflag, hcount, hraised, hstate⟩ := blankEnd_shows hw hs hsh hout hwas
    exact ⟨_, hexec, hblank, hbit, hflag, hcount, hraised, hstate, (kp_execCmpBlankEnd _ _ _ hexec).memsSame (by decide)⟩

end Sys2Proof.Machine
end

section
/-! SUPPORT. Legacy checks and soft resets of the comparator banks, and the results of the converters with the readback judgement (R235,
R236, R258 to R262, R265). -/

set_option Elab.async false

open Sys2Proof.Machine.State

namespace Sys2Proof.Machine

/-- A bit of a field after another has been given a value. -/
theorem hasBit_rd_putB_ne {s : State} {f : Fld} {n i : Nat} (b : Bool) (hs : s.regsOk) (hi : i < f.width) (hne : i ≠ n) :
    hasBit ((s.putB f n b).rd f) i = hasBit (s.rd f) i := by
  rw [putB_eq, rd_wr_same _ _ _ hs, hasBit_mod hi]
  cases b
  · exact hasBit_clearBit_ne _ hne
  · exact hasBit_setBit_ne _ hne

/-! ### The start of a legacy check (R261, R262) -/

section Start
variable {s : State} {b : Nat}

theorem exec_cmpLcheck {m : Master} (hb : b < 2) (hr : s.right m 0x4004000C .cr = .allow) :
    exec (.cmpLcheck m b) s = .next (s.acked.lcheckCmd b) := congrArg Host.Outcome.next ((if_pos hb).trans (access_allow _ hr))

theorem lcheckCmd_busy (hbusy : s.on (Reg.CMP_BANK_BUSY b) = true) : s.lcheckCmd b = s := by simp [lcheckCmd, hbusy]

theorem lcheckCmd_refused (hbusy : s.on (Reg.CMP_BANK_BUSY b) = false) (hwait : (s.bank b).checkWait = false)
    (hblocked : s.checkBlocked b = true) : s.lcheckCmd b = s.wr Reg.CMP_FLAGS_CHECK_REFUSED 1 := by
  simp [lcheckCmd, hbusy, hwait, hblocked]

theorem lcheckCmd_waits (hbusy : s.on (Reg.CMP_BANK_BUSY b) = false) (hwait : (s.bank b).checkWait = false)
    (hblocked : s.checkBlocked b = false) (hpend : s.on (Reg.CMP_BANK_CFG_PEND b) = true) :
    s.lcheckCmd b = s.setBank b { s.bank b with checkWait := true } := by
  simp [lcheckCmd, hbusy, hwait, hblocked, hpend]

theorem lcheckCmd_starts (hbusy : s.on (Reg.CMP_BANK_BUSY b) = false) (hwait : (s.bank b).checkWait = false)
    (hblocked : s.checkBlocked b = false) (hpend : s.on (Reg.CMP_BANK_CFG_PEND b) = false) : s.lcheckCmd b = s.lcheckStart b := by
  simp [lcheckCmd, hbusy, hwait, hblocked, hpend]

theorem mem_checkWins {w : Nat} : w ∈ checkWins s b ↔ w / 8 = b ∧ hasBit (s.rd Reg.CMP_LCHK_CFG_SEL) w = true ∧ s.winState w = cmpArmed := by
  simp [checkWins, mem_bankWins]

/-- The results of every window of the bank are clear. -/
theorem checkCleared_shows {w : Nat} (hw : w < 16) (hbank : w / 8 = b) (hs : s.regsOk) :
    hasBit ((checkCleared s b).rd Reg.CMP_LCHK_RES_PASS) w = false ∧ hasBit ((checkCleared s b).rd Reg.CMP_LCHK_RES_NJ) w = false := by
  have hpass (u : State) (y : Nat) : ((u.clrB Reg.CMP_LCHK_RES_PASS y).clrB Reg.CMP_LCHK_RES_NJ y).rd Reg.CMP_LCHK_RES_PASS =
      (u.clrB Reg.CMP_LCHK_RES_PASS y).rd Reg.CMP_LCHK_RES_PASS := rd_wr_ne _ _ (by decide)
  have hnj (u : State) (y : Nat) : (u.clrB Reg.CMP_LCHK_RES_PASS y).rd Reg.CMP_LCHK_RES_NJ = u.rd Reg.CMP_LCHK_RES_NJ :=
    rd_wr_ne _ _ (by decide)
  have hok (u : State) (y : Nat) (hu : u.regsOk) : (u.clrB Reg.CMP_LCHK_RES_PASS y).regsOk := keysRise_wr _ _ _ hu
  refine forEach_reaches (I := State.regsOk)
    (P := fun u => hasBit (u.rd Reg.CMP_LCHK_RES_PASS) w = false ∧ hasBit (u.rd Reg.CMP_LCHK_RES_NJ) w = false)
    (fun u y _ hu => keysRise_wr _ _ _ (hok u y hu)) (fun u hu => ⟨?_, hasBit_rd_putB false (hok u w hu) hw⟩)
    (fun u y _ hne hu ⟨hp, hn⟩ => ⟨?_, ?_⟩) (mem_bankWins.mpr hbank) hs
  · exact (congrArg (hasBit · w) (hpass u w)).trans (hasBit_rd_putB false hu hw)
  · exact (congrArg (hasBit · w) (hpass u y)).trans ((hasBit_rd_putB_ne false hu hw hne.symm).trans hp)
  · exact (hasBit_rd_putB_ne false (hok u y hu) hw hne.symm).trans ((congrArg (hasBit · w) (hnj u y)).trans hn)

/-- The windows that the check takes are in CHECK; the others stay. -/
theorem winState_checkTaken {w : Nat} (hb : b < 2) (hw : w < 16) (hbank : w / 8 = b) (hs : s.regsOk) : (checkTaken s b).winState w =
    if hasBit (s.rd Reg.CMP_LCHK_CFG_SEL) w ∧ s.winState w = cmpArmed then cmpCheck else s.winState w := by
  have hkept (u : State) {y : Nat} (hne : y ≠ w) : (u.setWinState y cmpCheck).winState w = u.winState w :=
    rd_wr_ne _ _ (by simp only [Fld.key]; omega)
  split
  next h =>
    refine forEach_reaches (I := State.regsOk) (P := fun u => u.winState w = cmpCheck) (fun u y _ hu => keysRise_wr _ _ _ hu)
      (fun u hu => winState_setWinState hu (by decide)) (fun u y _ hne _ hst => (hkept u hne).trans hst) (mem_checkWins.mpr ⟨hbank, h⟩)
      ((cmpStep_checkCleared (M := fun _ => False)).writes.regsOk hs)
  next h =>
    refine (cmpStep_checkTaken (M := fun _ => False) hb).writes.rd _ ?_
    rintro (hp | hn | ⟨y, hy, hk⟩)
    · simp only [Fld.key] at hp
      omega
    · simp only [Fld.key] at hn
      omega
    · have hyw : y = w := by
        simp only [Fld.key] at hk
        omega
      exact h (mem_checkWins.mp (hyw ▸ hy)).2

/-- What the start of a check shows (R261). -/
theorem lcheckStart_shows (hb : b < 2) (hs : s.regsOk) : (s.lcheckStart b).rd (Reg.CMP_BANK_BUSY b) = 1 ∧ ∀ w, w < 16 → w / 8 = b →
    (s.lcheckStart b).winState w =
      (if hasBit (s.rd Reg.CMP_LCHK_CFG_SEL) w ∧ s.winState w = cmpArmed then cmpCheck else s.winState w) ∧
      hasBit ((s.lcheckStart b).rd Reg.CMP_LCHK_RES_PASS) w = false ∧ hasBit ((s.lcheckStart b).rd Reg.CMP_LCHK_RES_NJ) w = false := by
  have hcleared : Writes _ s (checkCleared s b) := (cmpStep_checkCleared (M := fun _ => False)).writes
  have htaken : Writes (checkKey s b) s (checkTaken s b) := (cmpStep_checkTaken (M := fun _ => False) hb).writes
  have hstates : Writes (fun k => ∃ w ∈ checkWins s b, k = (Reg.CMP_STAT_STATE w).key) (checkCleared s b) (checkTaken s b) :=
    Writes.forEach (fun u w hw => Writes.wr _ ⟨w, hw, rfl⟩ (by
      have hlt := lt_of_mem_checkWins hb hw
      simp only [evKey, Fld.key]
      omega)) _
  obtain ⟨t, ht⟩ : ∃ t, (checkTaken s b).setBank b { (checkTaken s b).bank b with
    checkWait := false, sel := (checkWins s b).foldl setBit 0, fail := 0 } = t := ⟨_, rfl⟩
  have hset : Writes (· = (Reg.CMP_BANK_CFG_PEND b).key) (checkTaken s b) t := ht ▸ writes_setBank _ _ hb
  have heq : s.lcheckStart b = t.wr (Reg.CMP_BANK_BUSY b) 1 := ht ▸ lcheckStart_eq s b
  have hend (f : Fld) (hf : f.key ≠ (Reg.CMP_BANK_CFG_PEND b).key) (hf' : f.key ≠ (Reg.CMP_BANK_BUSY b).key) :
      (s.lcheckStart b).rd f = (checkTaken s b).rd f := by rw [heq, rd_wr_ne _ _ hf', hset.rd _ hf]
  refine ⟨by rw [heq, rd_wr_lt (hset.regsOk (htaken.regsOk hs)) Nat.one_lt_two], fun w hw hbank => ?_⟩
  obtain ⟨hpass, hnj⟩ := checkCleared_shows hw hbank hs
  have hresult (f : Fld) (hf : f.key = Reg.CMP_LCHK_RES_PASS.key ∨ f.key = Reg.CMP_LCHK_RES_NJ.key) :
      (s.lcheckStart b).rd f = (checkCleared s b).rd f := by
    rw [hend f (by simp only [Fld.key] at *; omega) (by simp only [Fld.key] at *; omega), hstates.rd f]
    rintro ⟨y, -, hk⟩
    simp only [Fld.key] at *
    omega
  rw [State.winState, hend _ (by simp only [Fld.key]; omega) (by simp only [Fld.key]; omega), hresult _ (.inl rfl), hresult _ (.inr rfl)]
  exact ⟨winState_checkTaken hb hw hbank hs, hpass, hnj⟩

end Start

/-! ### The steps of a legacy check (R261) -/

/-- A threshold of code 4 or above lies more than 10 mV above 0 V (R251, R261). -/
theorem nearV_ground {k : Nat} (hk : 4 ≤ k) : nearV ((5859375 * k : Nat) : Int) 0 = false := by
  simp only [nearV, decide_eq_false_iff_not]
  omega

theorem lcheckStep_idle {s : State} {w : Nat} (st : LegacyStep) (r : LegacyResult) (hst : s.winState w ≠ cmpCheck) :
    s.lcheckStep w st r = s := by simp [lcheckStep, hst]

/-- The step TIE_GND of a window whose high comparator alone is enabled (R261). -/
theorem lcheckStep_tieGnd {s : State} {w : Nat} (r : LegacyResult) (hst : s.winState w = cmpCheck)
    (htie : s.on Reg.CMP_LCHK_CFG_TIE_GND = true) (hhi : s.on (Reg.CMP_CFG_HI_EN w) = true) (hlo : s.on (Reg.CMP_CFG_LO_EN w) = false)
    (hk : 4 ≤ (s.win w).cfg.thHi) : s.lcheckStep w .tieGnd r =
      if r.hi then s.setBank (w / 8) { s.bank (w / 8) with fail := setBit (s.bank (w / 8)).fail w } else s := by
  have hfar := nearV_ground hk
  simp only [lcheckStep, stepEnabled, stepJudge, hst, htie, hhi, hlo, hfar]
  cases r.hi <;> rfl

/-! ### The end of a legacy check (R258, R262) -/

/-- A window has failed its check. -/
def failShown (s : State) (w : Nat) : State := (s.setWinState w cmpFault).wr Reg.CMP_FLAGS_CHECK_FAIL 1

/-- A window has passed its check. -/
def passShown (s : State) (w : Nat) : State := (s.setWinState w cmpArmed).setB Reg.CMP_LCHK_RES_PASS w

section Leave
variable {s : State} {w : Nat}

theorem lcheckLeave_idle (hst : s.winState w ≠ cmpCheck) : s.lcheckLeave w = s := by simp [lcheckLeave, hst]

theorem lcheckLeave_passed (hst : s.winState w = cmpCheck) (hfail : hasBit (s.bank (w / 8)).fail w = false) :
    s.lcheckLeave w = passShown s w := by
  simp only [lcheckLeave, hst, hfail]
  rfl

/-- A window that fails enters FAULT; where it is fail-safe, its output trips (R262). -/
theorem lcheckLeave_failed (hw : w < 16) (hst : s.winState w = cmpCheck) (hfail : hasBit (s.bank (w / 8)).fail w = true) :
    CmpStep (· = w) (outKey w) (failShown s w) (s.lcheckLeave w) := by
  have heq : s.lcheckLeave w = if (failShown s w).on (Reg.CMP_CFG_FSAFE w)
      then (failShown s w).winSet w true (failShown s w).linesBlanked else failShown s w := by
    simp only [lcheckLeave, hst, hfail]
    rfl
  rw [heq]
  exact CmpStep.ite (cmpStep_winSet true hw) CmpStep.refl

/-- What the end of a check can do to a window. -/
theorem lcheckLeave_cases (s : State) (hw : w < 16) : s.lcheckLeave w = s ∨
    CmpStep (· = w) (outKey w) (failShown s w) (s.lcheckLeave w) ∨ s.lcheckLeave w = passShown s w := by
  by_cases hst : s.winState w = cmpCheck
  · cases hfail : hasBit (s.bank (w / 8)).fail w with
    | true => exact .inr (.inl (lcheckLeave_failed hw hst hfail))
    | false => exact .inr (.inr (lcheckLeave_passed hst hfail))
  · exact .inl (lcheckLeave_idle hst)

/-- What the end of a check writes of a window. -/
abbrev leaveKey (w k : Nat) : Prop := moveKey w k ∨ k = Reg.CMP_FLAGS_CHECK_FAIL.key ∨ k = Reg.CMP_LCHK_RES_PASS.key

theorem cmpStep_failShown {M : Nat → Prop} (hw : w < 16) : CmpStep M (leaveKey w) s (failShown s w) :=
  ((cmpStep_setWinState s _ hw).mono (fun _ => id) fun _ => .inl).trans (CmpStep.wr _ (.inr (.inl rfl)) (by decide))

theorem cmpStep_passShown {M : Nat → Prop} (hw : w < 16) : CmpStep M (leaveKey w) s (passShown s w) :=
  ((cmpStep_setWinState s _ hw).mono (fun _ => id) fun _ => .inl).trans (CmpStep.wr _ (.inr (.inr rfl)) (by decide))

theorem cmpStep_lcheckLeave (hw : w < 16) : CmpStep (· = w) (leaveKey w) s (s.lcheckLeave w) := by
  rcases lcheckLeave_cases s hw with h | h | h
  · rw [h]
    exact CmpStep.refl
  · exact (cmpStep_failShown hw).trans (h.mono (fun _ => id) fun _ hk => .inl (.inr hk))
  · rw [h]
    exact cmpStep_passShown hw

/-- A window that fails shows its state and the flag. -/
theorem rd_lcheckLeave_failed {t : State} (h : CmpStep (· = w) (outKey w) (failShown s w) t) (hw : w < 16) (hs : s.regsOk) :
    t.winState w = cmpFault ∧ t.rd Reg.CMP_FLAGS_CHECK_FAIL = 1 ∧ t.rd Reg.CMP_LCHK_RES_PASS = s.rd Reg.CMP_LCHK_RES_PASS := by
  have hmoved : (s.setWinState w cmpFault).regsOk := keysRise_wr _ _ _ hs
  refine ⟨(h.winState hw).trans ?_, ?_, ?_⟩
  · exact (rd_wr_unit_ne Reg.CMP_STAT_STATE (fun _ => Reg.CMP_FLAGS_CHECK_FAIL) hw (by decide)).trans (winState_setWinState hs (by decide))
  · rw [h.writes.win_rd (fun _ => Reg.CMP_FLAGS_CHECK_FAIL) hw (by decide)]
    exact rd_wr_lt hmoved Nat.one_lt_two
  · rw [h.writes.win_rd (fun _ => Reg.CMP_LCHK_RES_PASS) hw (by decide)]
    exact (rd_wr_ne _ _ (by decide)).trans (rd_wr_unit_ne (fun _ => Reg.CMP_LCHK_RES_PASS) Reg.CMP_STAT_STATE hw (by decide))

/-- A window that passes shows its state and its result. -/
theorem passShown_shows (hw : w < 16) (hs : s.regsOk) : (passShown s w).winState w = cmpArmed ∧
    hasBit ((passShown s w).rd Reg.CMP_LCHK_RES_PASS) w = true ∧
    (passShown s w).rd Reg.CMP_FLAGS_CHECK_FAIL = s.rd Reg.CMP_FLAGS_CHECK_FAIL := by
  refine ⟨?_, hasBit_rd_putB true (keysRise_wr _ _ _ hs) hw, ?_⟩
  · exact (rd_wr_unit_ne Reg.CMP_STAT_STATE (fun _ => Reg.CMP_LCHK_RES_PASS) hw (by decide)).trans (winState_setWinState hs (by decide))
  · exact (rd_wr_ne _ _ (by decide)).trans (rd_wr_unit_ne (fun _ => Reg.CMP_FLAGS_CHECK_FAIL) Reg.CMP_STAT_STATE hw (by decide))

end Leave

/-- From `s` to `t` windows other than `w` leave their check: what is held and shown of `w` stays, and so do its result and the flag of
a failure once they are set. -/
structure LeaveStep (w : Nat) (s t : State) : Prop where
  step : CmpStep (· ≠ w) (fun k => ∃ y < 16, y ≠ w ∧ leaveKey y k) s t
  passed : s.regsOk → hasBit (s.rd Reg.CMP_LCHK_RES_PASS) w = true → hasBit (t.rd Reg.CMP_LCHK_RES_PASS) w = true
  failed : s.regsOk → s.rd Reg.CMP_FLAGS_CHECK_FAIL = 1 → t.rd Reg.CMP_FLAGS_CHECK_FAIL = 1

namespace LeaveStep
variable {s t u : State} {w y : Nat}

theorem refl : LeaveStep w s s := ⟨CmpStep.refl, fun _ => id, fun _ => id⟩

theorem trans (h : LeaveStep w s t) (k : LeaveStep w t u) : LeaveStep w s u :=
  ⟨h.step.trans k.step, fun hs hp => k.passed (h.step.writes.regsOk hs) (h.passed hs hp),
    fun hs hf => k.failed (h.step.writes.regsOk hs) (h.failed hs hf)⟩

theorem winState (h : LeaveStep w s t) (hw : w < 16) : t.winState w = s.winState w := by
  refine h.step.writes.rd _ ?_
  rintro ⟨y, hy, hne, hk⟩
  simp only [leaveKey, moveKey, outKey, viewKey, lineKey, tripKey, evKey, Fld.key] at hk
  omega

/-- The pass of another window. -/
theorem lcheckLeave (hw : w < 16) (hy : y < 16) (hne : y ≠ w) : LeaveStep w s (s.lcheckLeave y) := by
  have hstep : CmpStep (· ≠ w) (fun k => ∃ y < 16, y ≠ w ∧ leaveKey y k) s (s.lcheckLeave y) :=
    (cmpStep_lcheckLeave hy).mono (fun _ hx hxw => hne (hx ▸ hxw)) fun _ hk => ⟨y, hy, hne, hk⟩
  rcases lcheckLeave_cases s hy with h | h | h
  · rw [h]
    exact refl
  · exact ⟨hstep, fun hs hp => by rw [(rd_lcheckLeave_failed h hy hs).2.2, hp], fun hs _ => (rd_lcheckLeave_failed h hy hs).2.1⟩
  · rw [h] at hstep ⊢
    refine ⟨hstep, fun hs hp => ?_, fun hs hf => by rw [(passShown_shows hy hs).2.2, hf]⟩
    have hkept : (s.setWinState y cmpArmed).rd Reg.CMP_LCHK_RES_PASS = s.rd Reg.CMP_LCHK_RES_PASS :=
      rd_wr_unit_ne (fun _ => Reg.CMP_LCHK_RES_PASS) Reg.CMP_STAT_STATE hy (by decide)
    exact (hasBit_rd_putB_ne true (keysRise_wr _ _ _ hs) hw hne.symm).trans (hkept ▸ hp)

end LeaveStep

/-- Every window of the bank has left the check. -/
def windowsLeft (s : State) (b : Nat) : State := s.forEach (bankWins b) lcheckLeave

/-- The check of the bank is over. -/
def checkOver (s : State) (b : Nat) : State :=
  ((windowsLeft s b).setBank b { (windowsLeft s b).bank b with sel := 0, fail := 0, resetWait := false }).wr (Reg.CMP_BANK_BUSY b) 0

section Ends
variable {s : State} {b : Nat}

theorem cmpStep_windowsLeft (hb : b < 2) : CmpStep (fun _ => True) (fun k => ∃ y < 16, leaveKey y k) s (windowsLeft s b) :=
  CmpStep.forEach (fun _ y hy => (cmpStep_lcheckLeave (lt_of_mem_bankWins hb hy)).mono (fun _ _ => trivial)
    fun _ hk => ⟨y, lt_of_mem_bankWins hb hy, hk⟩) s

theorem lcheckEnd_eq (hb : b < 2) (hreset : (s.bank b).resetWait = false) : s.lcheckEnd b = (checkOver s b).raise Ev.CMP_CHECK := by
  have heq : s.lcheckEnd b = ((checkOver s b).raise Ev.CMP_CHECK).when ((windowsLeft s b).bank b).resetWait fun s => s.bankReset b := rfl
  rw [heq, (cmpStep_windowsLeft hb).bank, hreset, when_false]

/-- A window that was under check, when all have left it (R258). -/
theorem windowsLeft_shows {w : Nat} (hb : b < 2) (hw : w < 16) (hbank : w / 8 = b) (hs : s.regsOk) (hst : s.winState w = cmpCheck) :
    (hasBit (s.bank b).fail w = true → (windowsLeft s b).winState w = cmpFault ∧ (windowsLeft s b).rd Reg.CMP_FLAGS_CHECK_FAIL = 1) ∧
    (hasBit (s.bank b).fail w = false →
      (windowsLeft s b).winState w = cmpArmed ∧ hasBit ((windowsLeft s b).rd Reg.CMP_LCHK_RES_PASS) w = true) := by
  obtain ⟨u, hbefore, hafter⟩ := forEach_splits (R := LeaveStep w) (f := lcheckLeave) (fun _ => LeaveStep.refl)
    (fun _ _ _ h k => h.trans k)
    (nodup_bankWins b) (mem_bankWins.mpr hbank) (fun u y hy hne => LeaveStep.lcheckLeave hw (lt_of_mem_bankWins hb hy) hne) s
  have hu : u.regsOk := hbefore.step.writes.regsOk hs
  have hstate : u.winState w = cmpCheck := (hbefore.winState hw).trans hst
  have hfails : (u.bank (w / 8)).fail = (s.bank b).fail := by rw [hbefore.step.bank, hbank]
  have hleft : (u.lcheckLeave w).regsOk := (cmpStep_lcheckLeave hw).writes.regsOk hu
  refine ⟨fun hfail => ?_, fun hfail => ?_⟩
  · obtain ⟨hfault, hflag, -⟩ := rd_lcheckLeave_failed (lcheckLeave_failed hw hstate (hfails ▸ hfail)) hw hu
    exact ⟨(hafter.winState hw).trans hfault, hafter.failed hleft hflag⟩
  · have hpass := lcheckLeave_passed hstate (hfails ▸ hfail)
    obtain ⟨harmed, hbit, -⟩ := passShown_shows hw hu
    rw [← hpass] at harmed hbit
    exact ⟨(hafter.winState hw).trans harmed, hafter.passed hleft hbit⟩

/-- What the end of a check shows (R262). -/
theorem lcheckEnd_shows (hb : b < 2) (hs : s.regsOk) (hreset : (s.bank b).resetWait = false) :
    (s.lcheckEnd b).rd (Reg.CMP_BANK_BUSY b) = 0 ∧ s.raisedIn (s.lcheckEnd b) Ev.CMP_CHECK ∧
      ∀ w, w < 16 → w / 8 = b → s.winState w = cmpCheck →
        (hasBit (s.bank b).fail w = true → (s.lcheckEnd b).winState w = cmpFault ∧ (s.lcheckEnd b).rd Reg.CMP_FLAGS_CHECK_FAIL = 1) ∧
        (hasBit (s.bank b).fail w = false →
          (s.lcheckEnd b).winState w = cmpArmed ∧ hasBit ((s.lcheckEnd b).rd Reg.CMP_LCHK_RES_PASS) w = true) := by
  obtain ⟨t, ht⟩ : ∃ t, (windowsLeft s b).setBank b { (windowsLeft s b).bank b with sel := 0, fail := 0, resetWait := false } = t := ⟨_, rfl⟩
  have hloop : Writes (fun k => ∃ y < 16, leaveKey y k) s (windowsLeft s b) := (cmpStep_windowsLeft hb).writes
  have hset : Writes (· = (Reg.CMP_BANK_CFG_PEND b).key) (windowsLeft s b) t := ht ▸ writes_setBank _ _ hb
  have hover : checkOver s b = t.wr (Reg.CMP_BANK_BUSY b) 0 := ht ▸ rfl
  have hbusy : Writes (· = (Reg.CMP_BANK_BUSY b).key) t (checkOver s b) := hover ▸ Writes.wr 0 rfl (by simp only [evKey, Fld.key]; omega)
  have hend (f : Fld) (hf : f.key < 0x40040010 * 32 ∨ 0x40040018 * 32 ≤ f.key) (hev : ¬ evKey f.key) :
      (s.lcheckEnd b).rd f = (windowsLeft s b).rd f := by
    rw [lcheckEnd_eq hb hreset, rd_raise _ _ (by decide) f hev, hbusy.rd f (by simp only [Fld.key] at *; omega),
      hset.rd f (by simp only [Fld.key] at *; omega)]
  refine ⟨?_, ?_, fun w hw hbank hst => ?_⟩
  · rw [lcheckEnd_eq hb hreset, rd_raise _ _ (by decide) _ (by simp only [evKey, Fld.key]; omega), hover,
      rd_wr_lt (hset.regsOk (hloop.regsOk hs)) Nat.zero_lt_two]
  · rw [lcheckEnd_eq hb hreset]
    have hover : (checkOver s b).regsOk := hbusy.regsOk (hset.regsOk (hloop.regsOk hs))
    refine hloop.raisedIn_after ?_ (hset.raisedIn_after ?_ (hbusy.raisedIn_after ?_ (raisedIn_raise _ _ hover (by decide))))
    · rintro ⟨y, hy, hk⟩
      simp only [leaveKey, moveKey, outKey, viewKey, lineKey, tripKey, evKey, Ev.CMP_CHECK, Fld.key] at hk
      omega
    · simp only [Fld.key]
      omega
    · simp only [Fld.key]
      omega
  · rw [State.winState, hend _ (by simp only [Fld.key]; omega) (by simp only [evKey, Fld.key]; omega), hend _ (by decide) (by decide),
      hend _ (by decide) (by decide)]
    exact windowsLeft_shows hb hw hbank hs hst

/-! ### Soft reset of a bank (R258, R265) -/

/-- A soft reset reaches a window. -/
def resetPass (s : State) (w : Nat) : State := if s.winState w = cmpStart || s.winState w = cmpArmed then s.winStart w else s

theorem bankReset_waits (hbusy : s.on (Reg.CMP_BANK_BUSY b) = true) :
    s.bankReset b = s.setBank b { s.bank b with resetWait := true } := if_pos hbusy

theorem bankReset_applies (hbusy : s.on (Reg.CMP_BANK_BUSY b) = false) : s.bankReset b = s.forEach (bankWins b) resetPass :=
  if_neg (ne_true_of_eq_false hbusy)

theorem cmpStep_resetPass (s : State) {w : Nat} (hw : w < 16) : CmpStep (· = w) (moveKey w) s (resetPass s w) :=
  CmpStep.ite (cmpStep_winStart hw) CmpStep.refl

theorem winState_resetPass {s : State} {w : Nat} (hw : w < 16) (hs : s.regsOk) (hsh : s.Shaped) :
    (resetPass s w).winState w = if s.winState w = cmpArmed then cmpStart else s.winState w := by
  have hstart : (s.winStart w).winState w = cmpStart := (winStart_shows hw hs hsh).1
  by_cases hwas : s.winState w = cmpStart
  · simp [resetPass, hwas, hstart]
  · by_cases harmed : s.winState w = cmpArmed
    · simp [resetPass, harmed, hstart]
    · simp [resetPass, hwas, harmed]

/-- What a soft reset leaves of the states of the windows. -/
theorem winState_bankReset {w : Nat} (hb : b < 2) (hw : w < 16) (hs : s.regsOk) (hsh : s.Shaped)
    (hbusy : s.on (Reg.CMP_BANK_BUSY b) = false) :
    (s.bankReset b).winState w = if w / 8 = b ∧ s.winState w = cmpArmed then cmpStart else s.winState w := by
  rw [bankReset_applies hbusy]
  by_cases hbank : w / 8 = b
  · obtain ⟨u, hbefore, hafter⟩ := bank_splits (f := resetPass) (fun u y hy => cmpStep_resetPass u hy) hb hbank s
    have hstate : u.winState w = s.winState w := hbefore.own_rd Reg.CMP_STAT_STATE hw (by decide)
    rw [State.winState, hafter.own_rd Reg.CMP_STAT_STATE hw (by decide)]
    refine (winState_resetPass hw (hbefore.writes.regsOk hs) (hbefore.shaped hsh)).trans ?_
    simp only [hstate, hbank, true_and]
  · have hloop : CmpStep (· ≠ w) (othersKey w) s (s.forEach (bankWins b) resetPass) := CmpStep.forEach (fun u y hy =>
      (cmpStep_resetPass u (lt_of_mem_bankWins hb hy)).other (lt_of_mem_bankWins hb hy) fun h => by
        rw [h, mem_bankWins] at hy
        exact hbank hy) s
    rw [if_neg fun h => hbank h.1]
    exact hloop.own_rd Reg.CMP_STAT_STATE hw (by decide)

end Ends

/-! ### Results on CD (R235, R236) -/

section Results
variable {s : State} {c : Nat} {p : SarPkt}

/-- The result word of a packet that is late for nothing, and not injected. -/
abbrev plainWord (p : SarPkt) : Nat := resultWord p.code p.chan false p.settle false false p.tag

theorem plainWord_lt (hp : p.chan < 12) : plainWord p < 2 ^ 32 := by
  have hsettle := b2n_lt p.settle
  simp only [plainWord, resultWord, show b2n false = 0 from rfl]
  omega

/-- A result has been noted of its converter. -/
def resultNoted (s : State) (c : Nat) (p : SarPkt) : State :=
  s.setSar c { s.sar c with lastTag := p.tag, had := setBit (s.sar c).had p.chan }

/-- A result enters the FIFO where its channel is in the mask (R236). -/
def resultPushed (s : State) (c : Nat) (p : SarPkt) : State :=
  (resultNoted s c p).when (hasBit ((resultNoted s c p).rd (Reg.SAR_FIFO_MASK_MASK c)) p.chan) fun s => s.fifoPush c (plainWord p)

theorem resultIn_plain (hinj : p.inj = false) (hlast : p.last = false) (hovr : p.ovr = false) :
    s.resultIn c p = (resultPushed s c p).wr (Reg.SAR_LATEST_WORD c p.chan) (plainWord p) := by
  simp only [resultIn, hinj, hlast, hovr]
  rfl

theorem resultPushed_shows (hc : c < 8) (hsh : s.Shaped) (hroom : (s.sar c).fifo.length < 64) :
    Writes (AmongEv (sarView c)) s (resultPushed s c p) ∧ ((resultPushed s c p).sar c).flight = (s.sar c).flight ∧
      ((resultPushed s c p).sar c).fifo = if hasBit (s.rd (Reg.SAR_FIFO_MASK_MASK c)) p.chan then (s.sar c).fifo ++ [plainWord p]
        else (s.sar c).fifo := by
  have hnoted : Writes (AmongEv (sarView c)) s (resultNoted s c p) := (writes_setSar s _ hc).withinEv (List.Subset.refl _)
  have hsar : (resultNoted s c p).sar c = { s.sar c with lastTag := p.tag, had := setBit (s.sar c).had p.chan } := sar_setSar_same _ hsh hc
  have hmask : (resultNoted s c p).rd (Reg.SAR_FIFO_MASK_MASK c) = s.rd (Reg.SAR_FIFO_MASK_MASK c) :=
    hnoted.unit_rd Reg.SAR_FIFO_MASK_MASK hc (by decide)
  unfold resultPushed
  rw [hmask]
  cases hasBit (s.rd (Reg.SAR_FIFO_MASK_MASK c)) p.chan with
  | false =>
    rw [when_false, hsar]
    exact ⟨hnoted, rfl, rfl⟩
  | true =>
    obtain ⟨hpush, hwrites⟩ := fifoPush_room (s := resultNoted s c p) (w := plainWord p) hc
      (shaped_setSar c _ hsh) (by rw [hsar]; exact hroom)
    rw [when_true, hpush, hsar]
    exact ⟨hnoted.trans hwrites, rfl, rfl⟩

theorem latest_not_evKey (hc : c < 8) (hp : p.chan < 12) : ¬ evKey (Reg.SAR_LATEST_WORD c p.chan).key := by
  simp only [evKey, Fld.key]
  omega

/-- What a result shows (R235, R236). -/
theorem resultIn_shows (hc : c < 8) (hs : s.regsOk) (hsh : s.Shaped) (hinj : p.inj = false) (hlast : p.last = false) (hovr : p.ovr = false)
    (hp : p.chan < 12) (hroom : (s.sar c).fifo.length < 64) :
    Writes (AmongEv (Reg.SAR_LATEST_WORD c p.chan :: sarView c)) s (s.resultIn c p) ∧ ((s.resultIn c p).sar c).flight = (s.sar c).flight ∧
      (s.resultIn c p).rd (Reg.SAR_LATEST_WORD c p.chan) = plainWord p ∧
      ((s.resultIn c p).sar c).fifo = if hasBit (s.rd (Reg.SAR_FIFO_MASK_MASK c)) p.chan then (s.sar c).fifo ++ [plainWord p]
        else (s.sar c).fifo := by
  obtain ⟨hwrites, hflight, hfifo⟩ := resultPushed_shows (p := p) hc hsh hroom
  rw [resultIn_plain hinj hlast hovr, wr_sar]
  exact ⟨(hwrites.among (by simp)).trans (Writes.wr _ (.inl ⟨_, by simp, rfl⟩) (latest_not_evKey hc hp)), hflight,
    rd_wr_lt (hwrites.regsOk hs) (plainWord_lt hp), hfifo⟩

/-- The oldest packet of the link has been taken off it. -/
def flightTaken (s : State) (c : Nat) (r : List SarPkt) : State := s.setSar c { s.sar c with flight := r }

theorem exec_sarResultArrive_empty (recent : Bool) (h : (s.sar c).flight = []) : exec (.sarResultArrive c recent) s = .next s := by
  refine congrArg Host.Outcome.next (ite_eq_right_iff.mpr fun _ => ?_)
  simp only [flightPop, h]

theorem exec_sarResultArrive {r : List SarPkt} (recent : Bool) (hc : c < 8) (h : (s.sar c).flight = p :: r) :
    exec (.sarResultArrive c recent) s = .next (if p.chan = 10 then ((flightTaken s c r).resultIn c p).readback c p recent
      else (flightTaken s c r).resultIn c p) := by
  refine congrArg Host.Outcome.next ((if_pos hc).trans ?_)
  simp only [flightPop, h]
  rfl

/-- What the arrival of a result shows, before it is judged (R235, R236). -/
theorem resultArrives_shows {r : List SarPkt} (hc : c < 8) (hs : s.regsOk) (hsh : s.Shaped) (hinj : p.inj = false) (hlast : p.last = false)
    (hovr : p.ovr = false) (hp : p.chan < 12) (hroom : (s.sar c).fifo.length < 64) :
    Writes (AmongEv (Reg.SAR_LATEST_WORD c p.chan :: sarView c)) s ((flightTaken s c r).resultIn c p) ∧
      (((flightTaken s c r).resultIn c p).sar c).flight = r ∧
      ((flightTaken s c r).resultIn c p).rd (Reg.SAR_LATEST_WORD c p.chan) = plainWord p ∧
      (((flightTaken s c r).resultIn c p).sar c).fifo = if hasBit (s.rd (Reg.SAR_FIFO_MASK_MASK c)) p.chan
        then (s.sar c).fifo ++ [plainWord p] else (s.sar c).fifo := by
  have htaken : Writes (AmongEv (sarView c)) s (flightTaken s c r) := (writes_setSar s _ hc).withinEv (List.Subset.refl _)
  have hsar : (flightTaken s c r).sar c = { s.sar c with flight := r } := sar_setSar_same _ hsh hc
  obtain ⟨hwrites, hflight, hlatest, hfifo⟩ := resultIn_shows (s := flightTaken s c r) hc (htaken.regsOk hs)
    (shaped_setSar c _ hsh) hinj hlast
    hovr hp (by rw [hsar]; exact hroom)
  rw [hsar] at hflight hfifo
  rw [htaken.unit_rd Reg.SAR_FIFO_MASK_MASK hc (by decide)] at hfifo
  exact ⟨(htaken.among (by simp)).trans hwrites, hflight, hlatest, hfifo⟩

end Results

/-! ### The readback judgement (R259, R260) -/

/-- The registers that show a judged result. -/
abbrev judgedFields (c : Nat) : List Fld := [Reg.CMP_RBSTAT_ERR c, Reg.CMP_RBSTAT_PASS c, Reg.CMP_RBSTAT_JUDGED c, Reg.CMP_RBSTAT_DAC c]

/-- A result has been judged: its error, whether it passes, and the DAC. -/
def judgedShown (s : State) (c : Nat) (e : Int) (dac : Nat) : State :=
  (((s.wr (Reg.CMP_RBSTAT_ERR c) (ofSigned 16 e)).wr (Reg.CMP_RBSTAT_PASS c) (b2n (decide (e.natAbs ≤ 96)))).wr (Reg.CMP_RBSTAT_JUDGED c) 1).wr
    (Reg.CMP_RBSTAT_DAC c) dac

/-- A result that fails is flagged and raised. -/
def judgedEnd (s : State) (c : Nat) (e : Int) (dac : Nat) : State :=
  (judgedShown s c e dac).when (!decide (e.natAbs ≤ 96)) fun s => s.flagRaise Reg.CMP_FLAGS_RB_FAIL Ev.CMP_CHECK

section Readback
variable {s : State} {c dac : Nat} {e : Int}

theorem writes_judgedShown (hc : c < 8) : Writes (AmongEv (judgedFields c)) s (judgedShown s c e dac) :=
  (((Writes.unit_wr Reg.CMP_RBSTAT_ERR _ hc (by decide)).trans (Writes.unit_wr Reg.CMP_RBSTAT_PASS _ hc (by decide))).trans
    (Writes.unit_wr Reg.CMP_RBSTAT_JUDGED _ hc (by decide))).trans (Writes.unit_wr Reg.CMP_RBSTAT_DAC _ hc (by decide))

theorem writes_judgedEnd (hc : c < 8) : Writes (AmongEv (Reg.CMP_FLAGS_RB_FAIL :: judgedFields c)) s (judgedEnd s c e dac) :=
  ((writes_judgedShown hc).among (by simp)).trans
    (Writes.when fun _ => Writes.flagRaise (.inl ⟨_, by simp, rfl⟩) (by decide) amongEv_ev (by decide))

/-- A result is judged against its DAC where it is not recent, settling or out of range (R260). -/
theorem readback_judged {p : SarPkt} (hc : c < 8) (hsettle : p.settle = false) (hovr : p.ovr = false)
    (hauto : s.on (Reg.CMP_RBSEL_AUTO c) = false) (hside : s.rd (Reg.CMP_RBSEL_SIDE c) = 0)
    (he : e = toSigned 16 p.code - 64 * (((s.win (s.rd (Reg.CMP_RBSEL_WIN c))).cfg.thHi : Int) - 512)) :
    s.readback c p false = judgedEnd s c e (2 * s.rd (Reg.CMP_RBSEL_WIN c)) := by
  have hkept : (judgedEnd s c e (2 * s.rd (Reg.CMP_RBSEL_WIN c))).on (Reg.CMP_RBSEL_AUTO c) = false :=
    (congrArg (· == 1) ((writes_judgedEnd hc).unit_rd (F := fun c => Reg.CMP_FLAGS_RB_FAIL :: judgedFields c) Reg.CMP_RBSEL_AUTO hc
      (by decide))).trans hauto
  subst he
  simp only [readback, hsettle, hovr, hside]
  exact if_neg (ne_true_of_eq_false hkept)

/-- What the judgement shows (R260). -/
theorem judgedEnd_shows (hc : c < 8) (hs : s.regsOk) : (judgedEnd s c e dac).rd (Reg.CMP_RBSTAT_JUDGED c) = 1 ∧
    (judgedEnd s c e dac).rd (Reg.CMP_RBSTAT_ERR c) = ofSigned 16 e ∧
    (judgedEnd s c e dac).rd (Reg.CMP_RBSTAT_PASS c) = b2n (decide (-96 ≤ e ∧ e ≤ 96)) ∧
    (judgedEnd s c e dac).rd (Reg.CMP_RBSTAT_DAC c) = dac % 2 ^ (Reg.CMP_RBSTAT_DAC c).width ∧
    (96 < e → (judgedEnd s c e dac).rd Reg.CMP_FLAGS_RB_FAIL = 1 ∧ s.raisedIn (judgedEnd s c e dac) Ev.CMP_CHECK) := by
  have herr : (s.wr (Reg.CMP_RBSTAT_ERR c) (ofSigned 16 e)).regsOk := keysRise_wr _ _ _ hs
  have hpass : ((s.wr (Reg.CMP_RBSTAT_ERR c) (ofSigned 16 e)).wr (Reg.CMP_RBSTAT_PASS c) (b2n (decide (e.natAbs ≤ 96)))).regsOk :=
    keysRise_wr _ _ _ herr
  have hshown : (judgedShown s c e dac).regsOk := (writes_judgedShown hc).regsOk hs
  have hflag (f : Nat → Fld) (hf : ∀ i < 8, (f i).key ≠ Reg.CMP_FLAGS_RB_FAIL.key ∧ ¬ evKey (f i).key) :
      (judgedEnd s c e dac).rd (f c) = (judgedShown s c e dac).rd (f c) :=
    when_keeps (State.rd · (f c)) _ _ ((rd_raise _ _ (by decide) _ (hf c hc).2).trans (rd_wr_ne _ _ (hf c hc).1))
  have hrange : decide (-96 ≤ e ∧ e ≤ 96) = decide (e.natAbs ≤ 96) := decide_eq_decide.mpr (by omega)
  refine ⟨?_, ?_, ?_, ?_, fun hlarge => ?_⟩
  · exact (hflag Reg.CMP_RBSTAT_JUDGED (by decide)).trans ((rd_wr_unit_ne Reg.CMP_RBSTAT_JUDGED Reg.CMP_RBSTAT_DAC hc (by decide)).trans
      (rd_wr_lt hpass Nat.one_lt_two))
  · exact (hflag Reg.CMP_RBSTAT_ERR (by decide)).trans ((rd_wr_unit_ne Reg.CMP_RBSTAT_ERR Reg.CMP_RBSTAT_DAC hc (by decide)).trans
      ((rd_wr_unit_ne Reg.CMP_RBSTAT_ERR Reg.CMP_RBSTAT_JUDGED hc (by decide)).trans
        ((rd_wr_unit_ne Reg.CMP_RBSTAT_ERR Reg.CMP_RBSTAT_PASS hc (by decide)).trans (rd_wr_lt hs (ofSigned_lt 16 e)))))
  · rw [hrange]
    exact (hflag Reg.CMP_RBSTAT_PASS (by decide)).trans ((rd_wr_unit_ne Reg.CMP_RBSTAT_PASS Reg.CMP_RBSTAT_DAC hc (by decide)).trans
      ((rd_wr_unit_ne Reg.CMP_RBSTAT_PASS Reg.CMP_RBSTAT_JUDGED hc (by decide)).trans (rd_wr_lt herr (b2n_lt _))))
  · exact (hflag Reg.CMP_RBSTAT_DAC (by decide)).trans (rd_wr_same _ _ _ (keysRise_wr _ _ _ hpass))
  · have hfails : decide (e.natAbs ≤ 96) = false := decide_eq_false (by omega)
    have heq : judgedEnd s c e dac = (judgedShown s c e dac).flagRaise Reg.CMP_FLAGS_RB_FAIL Ev.CMP_CHECK := by rw [judgedEnd, hfails]; rfl
    have hnoted : Writes (AmongEv (Reg.CMP_FLAGS_RB_FAIL :: judgedFields c)) s ((judgedShown s c e dac).wr Reg.CMP_FLAGS_RB_FAIL 1) :=
      ((writes_judgedShown hc).among (by simp)).trans (Writes.wr _ (.inl ⟨_, by simp, rfl⟩) (by decide))
    rw [heq]
    exact ⟨rd_flagRaise_same hshown (by decide) (by decide),
      hnoted.unit_raisedIn (F := fun c => Reg.CMP_FLAGS_RB_FAIL :: judgedFields c) (Writes.refl (W := evKey)) hs (by decide) hc (by decide)⟩

/-- A recent result is not judged (R260). -/
theorem readback_recent (p : SarPkt) : s.readback c p true = s.wr (Reg.CMP_RBSTAT_JUDGED c) 0 := by simp [readback]

/-- The selected DAC while a result arrives. -/
theorem dac_resultArrives {p : SarPkt} {r : List SarPkt} (hc : c < 8) (hs : s.regsOk) (hsh : s.Shaped) (hinj : p.inj = false)
    (hlast : p.last = false) (hovr : p.ovr = false) (hchan : p.chan = 10) (hroom : (s.sar c).fifo.length < 64) :
    ((flightTaken s c r).resultIn c p).regsOk ∧
      (∀ f ∈ [Reg.CMP_RBSEL_WIN, Reg.CMP_RBSEL_SIDE, Reg.CMP_RBSEL_AUTO], ((flightTaken s c r).resultIn c p).rd (f c) = s.rd (f c)) ∧
      (∀ w, ((flightTaken s c r).resultIn c p).win w = s.win w) ∧
      ∀ u, ((flightTaken s c r).resultIn c p).raisedIn u Ev.CMP_CHECK → s.raisedIn u Ev.CMP_CHECK := by
  obtain ⟨hwrites, -⟩ := resultArrives_shows (r := r) hc hs hsh hinj hlast hovr (by omega) hroom
  rw [hchan] at hwrites
  have hkept (f : Nat → Fld) (hf : ∀ i < 8, ¬ AmongEv (Reg.SAR_LATEST_WORD i 10 :: sarView i) (f i).key) :
      ((flightTaken s c r).resultIn c p).rd (f c) = s.rd (f c) :=
    hwrites.unit_rd (F := fun c => Reg.SAR_LATEST_WORD c 10 :: sarView c) f hc hf
  refine ⟨hwrites.regsOk hs, ?_, fun w => win_of_cmp (s := flightTaken s c r) ((kp_resultIn _ c p).cmp (by decide)) w, fun u hu => ?_⟩
  · simp only [List.forall_mem_cons]
    exact ⟨hkept _ (by decide), hkept _ (by decide), hkept _ (by decide), by simp⟩
  · have hroute : ∀ i < 8, ¬ AmongEv (Reg.SAR_LATEST_WORD i 10 :: sarView i) (Reg.EVF_ROUTE_TARGET Ev.CMP_CHECK).key := by decide
    exact hwrites.raisedIn_after (hroute c hc) hu

/-- What the judgement of a result of channel 10 shows (R260). -/
theorem readback_shows {p : SarPkt} (recent : Bool) (hc : c < 8) (hs : s.regsOk) (hsettle : p.settle = false) (hovr : p.ovr = false)
    (hauto : s.on (Reg.CMP_RBSEL_AUTO c) = false) (hside : s.rd (Reg.CMP_RBSEL_SIDE c) = 0)
    (he : e = toSigned 16 p.code - 64 * (((s.win (s.rd (Reg.CMP_RBSEL_WIN c))).cfg.thHi : Int) - 512)) :
    (s.readback c p recent).rd (Reg.CMP_RBSTAT_JUDGED c) = b2n (!recent) ∧
      (recent = false → (s.readback c p recent).rd (Reg.CMP_RBSTAT_ERR c) = ofSigned 16 e ∧
        (s.readback c p recent).rd (Reg.CMP_RBSTAT_PASS c) = b2n (decide (-96 ≤ e ∧ e ≤ 96)) ∧
        (s.readback c p recent).rd (Reg.CMP_RBSTAT_DAC c) =
          2 * s.rd (Reg.CMP_RBSEL_WIN c) % 2 ^ (Reg.CMP_RBSTAT_DAC c).width ∧
        (96 < e → (s.readback c p recent).rd Reg.CMP_FLAGS_RB_FAIL = 1 ∧ s.raisedIn (s.readback c p recent) Ev.CMP_CHECK)) := by
  cases recent with
  | true =>
    rw [readback_recent]
    exact ⟨rd_wr_lt hs Nat.zero_lt_two, fun h => absurd h (by decide)⟩
  | false =>
    rw [readback_judged hc hsettle hovr hauto hside he]
    obtain ⟨hjudged, hrest⟩ := judgedEnd_shows (e := e) (dac := 2 * s.rd (Reg.CMP_RBSEL_WIN c)) hc hs
    exact ⟨hjudged, fun _ => hrest⟩

end Readback

/-! ### The statement -/

/-- Settles O20: each command by its operation on the bank or the converter, and by what that operation shows. -/
theorem comparatorChecksAndResultsAct : Obligations.ComparatorChecksAndResultsAct := by
  refine ⟨fun s m b hb hr hbusy hwait => ⟨fun hblocked => ?_, fun hblocked hpend => ?_, fun hblocked hpend hs hsh => ?_⟩,
    fun s m b hb hr hbusy => ?_, fun s w r hw hst htie hhi hlo hk => ⟨fun hr => ?_, fun hr => ?_⟩, fun s w st r hst => ?_,
    fun s b hb hs hsh hbusy hreset => ?_, fun s b hbusy => ?_, fun s m b hb hr hbusy => ?_, fun s m b hb hs hsh hr hbusy => ?_,
    fun s c recent hflight => ?_, fun s c recent p r hc hs hsh hflight hchan hinj hlast hovr hroom => ?_,
    fun s c k recent p r e hc hs hsh hflight hchan hinj hlast hovr hsettle hroom hauto hside hdac he => ?_⟩
  · exact (exec_cmpLcheck hb hr).trans (congrArg Host.Outcome.next (lcheckCmd_refused (s := s.acked) hbusy hwait hblocked))
  · exact (exec_cmpLcheck hb hr).trans (congrArg Host.Outcome.next (lcheckCmd_waits (s := s.acked) hbusy hwait hblocked hpend))
  · have hexec : exec (.cmpLcheck m b) s = .next (s.acked.lcheckStart b) :=
      (exec_cmpLcheck hb hr).trans (congrArg Host.Outcome.next (lcheckCmd_starts (s := s.acked) hbusy hwait hblocked hpend))
    obtain ⟨hstarted, hwins⟩ := lcheckStart_shows (s := s.acked) hb hs
    exact ⟨_, hexec, hstarted, (kp_execCmpLcheck _ _ _ _ hexec).memsSame (by decide), hwins⟩
  · exact (exec_cmpLcheck hb hr).trans (congrArg Host.Outcome.next (lcheckCmd_busy (s := s.acked) hbusy))
  · exact congrArg Host.Outcome.next ((if_pos hw).trans ((lcheckStep_tieGnd r hst htie hhi hlo hk).trans (if_pos hr)))
  · exact congrArg Host.Outcome.next ((if_pos hw).trans
      ((lcheckStep_tieGnd r hst htie hhi hlo hk).trans (if_neg (ne_true_of_eq_false hr))))
  · exact congrArg Host.Outcome.next (ite_eq_right_iff.mpr fun _ => lcheckStep_idle st r hst)
  · have hexec : exec (.cmpLcheckEnd b) s = .next (s.lcheckEnd b) := congrArg Host.Outcome.next (if_pos (by simp [hb, hbusy]))
    obtain ⟨hidle, hraised, hwins⟩ := lcheckEnd_shows hb hs hreset
    exact ⟨_, hexec, hidle, hraised, (kp_execCmpLcheckEnd _ _ _ hexec).memsSame (by decide), hwins⟩
  · exact congrArg Host.Outcome.next (if_neg (by simp [hbusy]))
  · exact congrArg Host.Outcome.next ((if_pos hb).trans ((access_allow _ hr).trans (bankReset_waits (s := s.acked) hbusy)))
  · have hexec : exec (.cmpBankSoftReset m b) s = .next (s.acked.bankReset b) :=
      congrArg Host.Outcome.next ((if_pos hb).trans (access_allow _ hr))
    exact ⟨_, hexec, (kp_execCmpBankSoftReset _ _ _ _ hexec).memsSame (by decide),
      fun w hw => winState_bankReset (s := s.acked) hb hw hs (shaped_acked hsh) hbusy⟩
  · exact exec_sarResultArrive_empty recent hflight
  · have hexec := (exec_sarResultArrive recent hc hflight).trans (congrArg Host.Outcome.next (if_neg (by omega)))
    obtain ⟨hwrites, hleft, hlatest, hfifo⟩ := resultArrives_shows (r := r) hc hs hsh hinj hlast hovr (by omega) hroom
    exact ⟨_, hexec, hleft, hlatest, hfifo, (hwrites.among (List.cons_subset_cons _ (sarView_subset c))).regsButEv,
      (kp_execSarResultArrive _ _ _ _ hexec).memsSame (by decide)⟩
  · have hexec := (exec_sarResultArrive recent hc hflight).trans (congrArg Host.Outcome.next (if_pos hchan))
    obtain ⟨hok, hkept, hwin, hroute⟩ := dac_resultArrives (r := r) hc hs hsh hinj hlast hovr hchan hroom
    have hwinSel := hkept Reg.CMP_RBSEL_WIN (by simp)
    obtain ⟨hjudged, hshown⟩ := readback_shows (e := e) recent hc hok hsettle hovr
      ((congrArg (· == 1) (hkept Reg.CMP_RBSEL_AUTO (by simp))).trans hauto) ((hkept Reg.CMP_RBSEL_SIDE (by simp)).trans hside)
      (by rw [hwinSel, hwin, hdac, he])
    refine ⟨_, hexec, hjudged, fun hrecent => ?_, (kp_execSarResultArrive _ _ _ _ hexec).memsSame (by decide)⟩
    obtain ⟨herr, hpass, hdacShown, hfails⟩ := hshown hrecent
    rw [hwinSel] at hdacShown
    exact ⟨herr, hpass, hdacShown, fun hlarge => ⟨(hfails hlarge).1, hroute _ (hfails hlarge).2⟩⟩

end Sys2Proof.Machine
end

section
/-! SUPPORT. Eclipse (R283 to R296): passive trips, segments and their injection, CLEAR and REBASE, and the suspension of the injection
where grid support leaves NORMAL. -/

set_option Elab.async false

open Sys2Proof.Machine.State

namespace Sys2Proof.Machine

/-- An event raised since `t` is raised since `s`, where the steps between them leave its route. -/
theorem Writes.raisedIn_from {W : Nat → Prop} {s t u : State} {ev : Nat} (h : Writes W s t) (hr : ¬ W (Reg.EVF_ROUTE_TARGET ev).key)
    (k : t.raisedIn u ev) : s.raisedIn u ev :=
  fun g hg hb => k g hg (by rwa [eventTargets_of_rd ev (h.rd _ hr)])

/-! ### Suspension (R285) -/

/-- The registers that a disarmed or suspended injection writes. -/
abbrev eeSuspendFields : List Fld := [Reg.EE_STATUS_INJECTING, Reg.EE_STATUS_SUSPENDED, Reg.MBX_STATUS_LATE]

section Suspend
variable {W : Nat → Prop} (s : State)

theorem writes_eeAmplitude (v : Nat) (hW : W Reg.MBX_STATUS_LATE.key) (hE : ∀ k, evKey k → W k) : Writes W s (s.eeAmplitude v) :=
  writes_dataPortPut s _ v _ hW hE

theorem writes_eeDisarm (hW : ∀ f ∈ eeSuspendFields, W f.key) (hE : ∀ k, evKey k → W k) : Writes W s s.eeDisarm := by
  have hclear : Writes W s (s.wr Reg.EE_STATUS_INJECTING 0) := Writes.wr 0 (hW _ (by decide)) (by decide)
  have hdiscard (u : State) : Writes W u u.eeDiscard := Writes.of_regs rfl
  exact Writes.ite ((hclear.trans (hdiscard _)).trans (writes_eeAmplitude _ 0 (hW _ (by decide)) hE)) Writes.refl

theorem writes_eeSuspend (hW : ∀ f ∈ eeSuspendFields, W f.key) (hE : ∀ k, evKey k → W k) : Writes W s s.eeSuspend :=
  Writes.ite ((writes_eeDisarm s hW hE).trans (Writes.wr 1 (hW _ (by decide)) (by decide))) Writes.refl

end Suspend

/-- A disarmed injection does not inject. -/
theorem injecting_eeDisarm {s : State} (hs : s.regsOk) : s.eeDisarm.on Reg.EE_STATUS_INJECTING = false := by
  unfold eeDisarm
  split
  next h =>
    have hzero : Writes (AmongEv [Reg.MBX_STATUS_LATE]) (s.wr Reg.EE_STATUS_INJECTING 0).eeDiscard _ :=
      writes_eeAmplitude _ 0 (by decide) amongEv_ev
    have hcleared : (s.wr Reg.EE_STATUS_INJECTING 0).rd Reg.EE_STATUS_INJECTING = 0 := rd_wr_lt hs Nat.zero_lt_two
    exact (hzero.on (by decide)).trans (congrArg (· == 1) hcleared)
  next h => exact eq_false_of_ne_true h

/-- With active detection on, grid support leaving NORMAL ends the injection and shows it suspended (R285). -/
theorem eeSuspend_shows {s : State} (hs : s.regsOk) (hact : s.on Reg.EE_CTRL_ACTIVE_EN = true) :
    s.eeSuspend.on Reg.EE_STATUS_SUSPENDED = true ∧ s.eeSuspend.on Reg.EE_STATUS_INJECTING = false := by
  have hdisarmed := (writes_eeDisarm (W := AmongEv eeSuspendFields) s (by decide) amongEv_ev).regsOk hs
  rw [eeSuspend, if_pos hact]
  exact ⟨on_of_rd (rd_wr_lt hdisarmed Nat.one_lt_two),
    (congrArg (· == 1) (rd_wr_ne _ _ (by decide))).trans (injecting_eeDisarm hs)⟩

/-! ### Decisions and passive detection (R283, R284, R290, R291) -/

section Passive
variable {s : State} {d c : Nat}

/-- A decision is shown: its cause, ISLAND and the island line. -/
def islandShown (s : State) (c : Nat) : State := ((s.setB Reg.EE_CAUSE_CAUSE c).wr Reg.EE_STATUS_ISLAND 1).islandLine true

theorem eeIsland_eq (s : State) (c : Nat) :
    s.eeIsland c = if s.on Reg.EE_STATUS_ISLAND then islandShown s c else (islandShown s c).raise Ev.EE_ISLAND := rfl

theorem rd_islandShown (s : State) (c : Nat) (f : Fld) :
    (islandShown s c).rd f = ((s.setB Reg.EE_CAUSE_CAUSE c).wr Reg.EE_STATUS_ISLAND 1).rd f := rfl

/-- The registers that a decision writes. -/
abbrev eeIslandFields : List Fld := [Reg.EE_STATUS_ISLAND, Reg.EE_CAUSE_CAUSE]

theorem writes_islandShown (s : State) (c : Nat) : Writes (AmongEv eeIslandFields) s (islandShown s c) :=
  ((Writes.wr (f := Reg.EE_CAUSE_CAUSE) _ (by decide) (by decide)).trans
    (Writes.wr (f := Reg.EE_STATUS_ISLAND) 1 (by decide) (by decide))).trans (Writes.of_regs rfl)

theorem writes_eeIsland (s : State) (c : Nat) : Writes (AmongEv eeIslandFields) s (s.eeIsland c) := by
  rw [eeIsland_eq]
  exact Writes.ite (writes_islandShown s c) ((writes_islandShown s c).trans (Writes.raise amongEv_ev (by decide)))

theorem eeIsland_shows (hc : c < 10) (hs : s.regsOk) :
    (s.eeIsland c).rd Reg.EE_STATUS_ISLAND = 1 ∧ hasBit ((s.eeIsland c).rd Reg.EE_CAUSE_CAUSE) c = true ∧
      hasBit (s.eeIsland c).safety.sf1 1 = true := by
  have hcause : (s.setB Reg.EE_CAUSE_CAUSE c).regsOk := keysRise_wr _ _ _ hs
  have hisland : (islandShown s c).rd Reg.EE_STATUS_ISLAND = 1 := (rd_islandShown s c _).trans (rd_wr_lt hcause Nat.one_lt_two)
  have hbit : hasBit ((islandShown s c).rd Reg.EE_CAUSE_CAUSE) c = true := by
    rw [rd_islandShown, rd_wr_ne _ _ (by decide)]
    exact hasBit_rd_putB true hs hc
  have hline : hasBit (islandShown s c).safety.sf1 1 = true := hasBit_putBit_same _ 1 true
  rw [eeIsland_eq]
  split
  · exact ⟨hisland, hbit, hline⟩
  · rw [rd_raise _ _ (by decide) _ (by decide), rd_raise _ _ (by decide) _ (by decide), raise_safety]
    exact ⟨hisland, hbit, hline⟩

/-- The first decision raises its event (R291). -/
theorem eeIsland_raises (hs : s.regsOk) (hclear : s.on Reg.EE_STATUS_ISLAND = false) : s.raisedIn (s.eeIsland c) Ev.EE_ISLAND := by
  rw [eeIsland_eq, if_neg (ne_true_of_eq_false hclear)]
  exact (writes_islandShown s c).raisedIn (Writes.refl (W := fun _ => False)) hs (by decide) (by decide)

/-- A detector counts as tripped. -/
def detectorNoted (s : State) (d : Nat) : State := { s with ee := { s.ee with tripped := setBit s.ee.tripped d } }

/-- The same, and PASSIVE shows it. -/
def passiveNoted (s : State) (d : Nat) : State := (detectorNoted s d).wr Reg.EE_STATUS_PASSIVE 1

theorem writes_passiveNoted (s : State) (d : Nat) : Writes (AmongEv [Reg.EE_STATUS_PASSIVE]) s (passiveNoted s d) :=
  Writes.trans (t := detectorNoted s d) (Writes.of_regs rfl) (Writes.wr 1 (by decide) (by decide))

theorem eePassive_trips (hd : d < 7) (hen : s.eeEnabled d = true) (hblocked : s.eeBlocked d = false) (hcond : s.eeCond d = true)
    (hrun : 4 < d ∨ s.eeNeed d ≤ nth s.ee.runs d 0) (hnot : hasBit s.ee.tripped d = false) :
    s.eePassive d = ((passiveNoted s d).raise Ev.EE_PASSIVE).eeIsland d := if_pos (by simp [hd, hen, hblocked, hcond, hrun, hnot])

theorem eePassive_idle (h : s.eeEnabled d = false ∨ s.eeBlocked d = true) : s.eePassive d = s :=
  if_neg (by rcases h with h | h <;> simp [h])

/-- What the trip of a passive detector shows (R283, R284). -/
theorem passiveTrip_shows {t : State} (ht : ((passiveNoted s d).raise Ev.EE_PASSIVE).eeIsland d = t) (hd : d < 7) (hs : s.regsOk) :
    t.rd Reg.EE_STATUS_PASSIVE = 1 ∧ t.rd Reg.EE_STATUS_ISLAND = 1 ∧ hasBit (t.rd Reg.EE_CAUSE_CAUSE) d = true ∧
      hasBit t.safety.sf1 1 = true ∧ hasBit t.ee.tripped d = true ∧ s.raisedIn t Ev.EE_PASSIVE ∧
      (s.on Reg.EE_STATUS_ISLAND = false → s.raisedIn t Ev.EE_ISLAND) ∧
      s.regsButEv t [Reg.EE_STATUS_PASSIVE, Reg.EE_STATUS_ISLAND, Reg.EE_CAUSE_CAUSE] := by
  subst ht
  have htripped := writes_passiveNoted s d
  have hraised : Writes (AmongEv [Reg.EE_STATUS_PASSIVE]) s ((passiveNoted s d).raise Ev.EE_PASSIVE) :=
    htripped.trans (Writes.raise amongEv_ev (by decide))
  have hok := hraised.regsOk hs
  have hisland := writes_eeIsland ((passiveNoted s d).raise Ev.EE_PASSIVE) d
  have hpassive : ((passiveNoted s d).raise Ev.EE_PASSIVE).rd Reg.EE_STATUS_PASSIVE = 1 :=
    (rd_raise _ _ (by decide) _ (by decide)).trans (rd_wr_lt (s := detectorNoted s d) hs Nat.one_lt_two)
  have hee : (((passiveNoted s d).raise Ev.EE_PASSIVE).eeIsland d).ee = (detectorNoted s d).ee :=
    ((kp_eeIsland _ d).ee (by decide)).trans (raise_ee _ _)
  have htrip : hasBit (detectorNoted s d).ee.tripped d = true := hasBit_setBit_same _ _
  obtain ⟨hset, hcause, hline⟩ := eeIsland_shows (c := d) (by omega) hok
  exact ⟨(hisland.rd _ (by decide)).trans hpassive, hset, hcause, hline, by rw [hee, htrip],
    htripped.raisedIn hisland hs (by decide) (by decide),
    fun hclear => hraised.raisedIn_from (by decide) (eeIsland_raises hok ((hraised.on (by decide)).trans hclear)),
    ((hraised.among (by simp)).trans (hisland.among (by simp))).regsButEv⟩

end Passive

/-! ### Segments (R285 to R287, R289) -/

section Segments
variable {s t : State}

/-- The segment that ends is dropped or enters the window, where the injection runs. -/
def segmentClosed (s : State) : State :=
  if !s.on Reg.EE_STATUS_INJECTING then s else if s.ee.drop then s.eeDiscard.wr Reg.EE_FLAGS_SEG_DROP 1 else s.eeSegment

/-- At a segment start in NORMAL with active detection the injection is armed, and its amplitude goes to the data port (R285). -/
def segmentStarted (s : State) : State :=
  if s.eeArm.on Reg.EE_STATUS_INJECTING
  then s.eeArm.eeAmplitude (F32.mul (s.eeArm.rd Reg.EE_AMP_VALUE) (s.eeArm.rd Reg.EE_AMP_GAIN_VALUE)) else s.eeArm

theorem eeSegmentEnd_eq (s : State) : s.eeSegmentEnd =
    if (segmentClosed s).on Reg.EE_CTRL_ACTIVE_EN && (segmentClosed s).gsState == gsNormal then segmentStarted (segmentClosed s)
    else segmentClosed s := rfl

/-- With active detection off, a segment end is the close of the segment alone. -/
theorem eeSegmentEnd_inactive (ht : segmentClosed s = t) (hact : t.on Reg.EE_CTRL_ACTIVE_EN = false) : s.eeSegmentEnd = t := by
  rw [eeSegmentEnd_eq, ht]
  exact if_neg (by simp [hact])

theorem segmentClosed_idle (h : s.on Reg.EE_STATUS_INJECTING = false) : segmentClosed s = s := if_pos (by simp [h])

theorem segmentClosed_dropped (hinj : s.on Reg.EE_STATUS_INJECTING = true) (hdrop : s.ee.drop = true) :
    segmentClosed s = s.eeDiscard.wr Reg.EE_FLAGS_SEG_DROP 1 := (if_neg (by simp [hinj])).trans (if_pos hdrop)

/-- A complete segment has entered the window, which is not full yet. -/
def windowGrown (s : State) : State :=
  { s with ee := { s.ee with segs := s.ee.seg :: s.ee.segs, seg := List.replicate 16 {}, sincePub := s.ee.sincePub + 1 } }

theorem segmentClosed_grows (hinj : s.on Reg.EE_STATUS_INJECTING = true) (hdrop : s.ee.drop = false)
    (hlen : s.ee.segs.length + 1 < s.rd Reg.EE_WIN_WSEG) : segmentClosed s = windowGrown s := by
  have htake : (s.ee.seg :: s.ee.segs).take (s.rd Reg.EE_WIN_WSEG) = s.ee.seg :: s.ee.segs := List.take_of_length_le hlen.le
  have hsegment : s.eeSegment = windowGrown s := by
    simp only [eeSegment, htake]
    exact if_pos hlen
  exact (if_neg (by simp [hinj])).trans ((if_neg (by simp [hdrop])).trans hsegment)

/-- The primary arms the injection for the frame that comes 64 frames later, and its broadcast is due (R285, R289). -/
def primaryArmed (s : State) : State :=
  { s.eeArmed (s.rd Reg.ORB_FRAME_COUNT + 64) with ee := { s.ee with bcastDue := true } }

theorem rd_primaryArmed (s : State) (f : Fld) : (primaryArmed s).rd f =
    (((s.wr Reg.EE_K0_FRAME (s.rd Reg.ORB_FRAME_COUNT + 64)).wr Reg.EE_STATUS_INJECTING 1).wr Reg.EE_STATUS_SUSPENDED 0).rd f := by
  rw [rd_eq, rd_eq]
  rfl

theorem primaryArmed_shows (hs : s.regsOk) :
    (primaryArmed s).rd Reg.EE_STATUS_INJECTING = 1 ∧ (primaryArmed s).rd Reg.EE_STATUS_SUSPENDED = 0 ∧
      (primaryArmed s).rd Reg.EE_K0_FRAME = (s.rd Reg.ORB_FRAME_COUNT + 64) % 2 ^ 32 ∧ (primaryArmed s).ee.bcastDue = true := by
  have hframe : (s.wr Reg.EE_K0_FRAME (s.rd Reg.ORB_FRAME_COUNT + 64)).regsOk := keysRise_wr _ _ _ hs
  simp only [rd_primaryArmed]
  exact ⟨(rd_wr_ne _ _ (by decide)).trans (rd_wr_lt hframe Nat.one_lt_two), rd_wr_lt (keysRise_wr _ _ _ hframe) Nat.zero_lt_two,
    (rd_wr_ne _ _ (by decide)).trans ((rd_wr_ne _ _ (by decide)).trans (rd_wr_same _ _ _ hs)), rfl⟩

/-- Where the injection is not armed yet, a segment start of a primary in NORMAL arms it (R285). -/
theorem eeSegmentEnd_arms (hs : s.regsOk) (hinj : s.on Reg.EE_STATUS_INJECTING = false) (hact : s.on Reg.EE_CTRL_ACTIVE_EN = true)
    (hst : s.gsState = gsNormal) (hrole : s.rd Reg.ORB_GROUP_ROLE ≠ 2) : ∃ v, s.eeSegmentEnd = (primaryArmed s).eeAmplitude v := by
  have harm : s.eeArm = primaryArmed s := by
    rw [eeArm, if_neg (ne_true_of_eq_false hinj), if_neg hrole]
    rfl
  have hon : (primaryArmed s).on Reg.EE_STATUS_INJECTING = true := on_of_rd (primaryArmed_shows hs).1
  rw [eeSegmentEnd_eq, segmentClosed_idle hinj, if_pos (by simp [hact, hst]), segmentStarted, harm, if_pos hon]
  exact ⟨_, rfl⟩

/-- What the start of the injection shows. -/
theorem segmentStart_shows (v : Nat) (hs : s.regsOk) :
    ((primaryArmed s).eeAmplitude v).rd Reg.EE_STATUS_INJECTING = 1 ∧ ((primaryArmed s).eeAmplitude v).rd Reg.EE_STATUS_SUSPENDED = 0 ∧
      ((primaryArmed s).eeAmplitude v).rd Reg.EE_K0_FRAME = (s.rd Reg.ORB_FRAME_COUNT + 64) % 2 ^ 32 ∧
      ((primaryArmed s).eeAmplitude v).ee.bcastDue = true := by
  have hput := writes_eeAmplitude (W := AmongEv [Reg.MBX_STATUS_LATE]) (primaryArmed s) v (by decide) amongEv_ev
  obtain ⟨hinj, hsus, hframe, hdue⟩ := primaryArmed_shows hs
  exact ⟨(hput.rd _ (by decide)).trans hinj, (hput.rd _ (by decide)).trans hsus, (hput.rd _ (by decide)).trans hframe,
    (congrArg EeSt.bcastDue ((kp_eeAmplitude _ v).ee (by decide))).trans hdue⟩

end Segments

/-! ### CLEAR (R290) -/

section Clear
variable {s : State}

theorem eeClear_released (h : ∀ d, d < 7 → s.eeEnabled d = true → hasBit s.ee.tripped d = false) : s.eeClear =
    (((s.wr Reg.EE_STATUS_ISLAND 0).wr Reg.EE_STATUS_PASSIVE 0).wr Reg.EE_CAUSE_CAUSE 0).islandLine false := by
  have hheld : ((List.range 7).any fun d => s.eeEnabled d && hasBit s.ee.tripped d) = false := by
    simpa only [List.any_eq_false, List.mem_range, Bool.and_eq_true, not_and, Bool.not_eq_true] using h
  exact if_neg (ne_true_of_eq_false hheld)

theorem eeClear_held {d : Nat} (hd : d < 7) (hen : s.eeEnabled d = true) (ht : hasBit s.ee.tripped d = true) :
    s.eeClear = s.wr Reg.EE_FLAGS_CLEAR_REFUSED 1 :=
  if_pos (List.any_eq_true.mpr ⟨d, List.mem_range.mpr hd, by rw [hen, ht]; rfl⟩)

end Clear

/-! ### The statement -/

/-- Settles O22: each command by its operation, and a trip and a segment start by what they show. -/
theorem eclipseDetectsAndInjects : Obligations.EclipseDetectsAndInjects := by
  refine ⟨fun s d hd hs hen hblocked hcond hrun hnot => ?_, fun s d h => ?_, fun s hs hinj hact hst hrole => ?_,
    fun s hinj hact => ?_, fun s hinj hdrop hact => ?_, fun s hs hinj hdrop hact hlen => ?_, fun s m hr h => ?_,
    fun s m d hr hd hen ht => ?_, fun s m hr => ?_⟩
  · have hexec : exec (.eePassiveTrip d) s = .next _ :=
      congrArg Host.Outcome.next (eePassive_trips hd hen hblocked hcond hrun hnot)
    obtain ⟨hpassive, hisland, hcause, hline, htripped, hraised, hfirst, hframe⟩ := passiveTrip_shows rfl hd hs
    exact ⟨_, hexec, hpassive, hisland, hcause, hline, htripped, hraised, hfirst, hframe,
      (kp_execEePassiveTrip _ _ _ hexec).memsSame (by decide)⟩
  · exact congrArg Host.Outcome.next (eePassive_idle h)
  · obtain ⟨v, harms⟩ := eeSegmentEnd_arms hs hinj hact hst hrole
    have hexec : exec .eeSegmentEnd s = .next _ := congrArg Host.Outcome.next harms
    obtain ⟨hon, hsus, hframe, hdue⟩ := segmentStart_shows v hs
    exact ⟨_, hexec, hon, hsus, hframe, hdue, (kp_execEeSegmentEnd _ _ hexec).memsSame (by decide)⟩
  · exact congrArg Host.Outcome.next (eeSegmentEnd_inactive (segmentClosed_idle hinj) hact)
  · exact congrArg Host.Outcome.next (eeSegmentEnd_inactive (segmentClosed_dropped hinj hdrop)
      ((congrArg (· == 1) (rd_wr_ne s.eeDiscard _ (by decide))).trans hact))
  · exact ⟨windowGrown s, congrArg Host.Outcome.next (eeSegmentEnd_inactive (segmentClosed_grows hinj hdrop hlen) hact), rfl, rfl, rfl,
      fun _ _ => rfl, memsSame_refl s⟩
  · exact congrArg Host.Outcome.next ((access_allow _ hr).trans (eeClear_released h))
  · exact congrArg Host.Outcome.next ((access_allow _ hr).trans (eeClear_held (s := s.acked) hd hen ht))
  · exact congrArg Host.Outcome.next (access_allow _ hr)

end Sys2Proof.Machine
end

section
/-! SUPPORT. The states of grid support (R271 to R276, R282): what an entry to a ride-through, a trip and an operation that leaves NORMAL
show, the sweep of Perihelion that a ride-through aborts (R302, R312), and the writing of the references. -/

set_option Elab.async false

open Sys2Proof.Machine.State

namespace Sys2Proof.Machine

/-! ### What is written beside grid support (R285, R302) -/

/-- A key of Perihelion (R315), or of the words that an event writes: what an aborted sweep writes. -/
abbrev sweepKey (k : Nat) : Prop := (0x40070000 * 32 ≤ k ∧ k < 0x40080000 * 32) ∨ evKey k

/-- What a suspended injection and an aborted sweep write. -/
abbrev sideKey (k : Nat) : Prop := AmongEv eeSuspendFields k ∨ sweepKey k

theorem writes_side_eeSuspend (s : State) : Writes sideKey s s.eeSuspend :=
  writes_eeSuspend s (by decide) fun _ hk => .inr (.inr hk)

/-! ### A sweep that is aborted (R302, R312) -/

section Abort
variable {s u : State} {w : PeSweep} {st : Nat}

/-- Free values are taken without a register. -/
theorem peFree_regs (s : State) (k : Nat) : (s.peFree k).2.regs = s.regs := by
  have go (l : List Nat) (p : List Nat × State) :
      (l.foldl (fun (q : List Nat × State) _ => (q.1 ++ [(q.2.takeFree).1 % 2 ^ 32], (q.2.takeFree).2)) p).2.regs = p.2.regs := by
    induction l generalizing p with
    | nil => rfl
    | cons a l ih => exact ih _
  exact go (List.range k) ([], s)

theorem pePut_regs (s : State) (n word : Nat) (ws : List Nat) : (s.pePut n word ws).regs = s.regs := by
  unfold pePut
  split <;> rfl

theorem pePutHeader_regs (s : State) (n : Nat) (h : List Nat) : (s.pePutHeader n h).regs = s.regs :=
  (pePut_regs _ _ _ _).trans (pePut_regs _ _ _ _)

/-- No sweep runs, and the flag of an abort is set. -/
def sweepTaken (u : State) : State := ((u.wr Reg.PE_FLAGS_SWEEP_ABORT 1).setPeSweep none).wr Reg.PE_STATUS_SWEEP_CH 0

/-- The channel of a sweep that ends is in `st`, with the reference from before the sweep. -/
def sweepEnded (u : State) (w : PeSweep) (st : Nat) : State :=
  ((sweepTaken u).wr (Reg.PE_STATE_STATE w.ch) st).wr (Reg.PE_VREF_VALUE w.ch) w.before

theorem Writes.wr_sweep {f : Fld} (v : Nat) (h : 0x40070000 * 32 ≤ f.key ∧ f.key < 0x40080000 * 32) : Writes sweepKey s (s.wr f v) :=
  Writes.wr v (.inl h) (by simp only [evKey]; omega)

theorem writes_sweepTaken (u : State) : Writes sweepKey u (sweepTaken u) :=
  have hnone : Writes sweepKey (u.wr Reg.PE_FLAGS_SWEEP_ABORT 1) ((u.wr Reg.PE_FLAGS_SWEEP_ABORT 1).setPeSweep none) := Writes.of_regs rfl
  ((Writes.wr_sweep 1 (by decide)).trans hnone).trans (Writes.wr_sweep 0 (by decide))

theorem writes_sweepEnded (hw : w.ch < 6) : Writes sweepKey u (sweepEnded u w st) :=
  ((writes_sweepTaken u).trans (Writes.wr_sweep st (by simp only [Fld.key]; omega))).trans
    (Writes.wr_sweep w.before (by simp only [Fld.key]; omega))

theorem peState_sweepEnded (hu : u.regsOk) (hst : st < 8) : (sweepEnded u w st).peState w.ch = st :=
  (rd_wr_ne _ _ (by simp only [Fld.key]; omega)).trans (rd_wr_lt ((writes_sweepTaken u).regsOk hu) hst)

theorem peAbort_none (h : s.pe.sweep = none) : s.peAbort st = s := by simp only [peAbort, h]

/-- An aborted sweep places its header, shows its end and raises its event. -/
theorem peAbort_some (h : s.pe.sweep = some w) :
    ∃ u, u.regs = s.regs ∧ s.peAbort st = (sweepEnded u w st).raise Ev.PE_SWEEP_DONE := by
  simp only [peAbort, h]
  exact ⟨_, (pePutHeader_regs _ _ _).trans (peFree_regs s 7), rfl⟩

theorem writes_peAbort (hsweep : ∀ w, s.pe.sweep = some w → w.ch < 6) : Writes sweepKey s (s.peAbort st) := by
  rcases h : s.pe.sweep with _ | w
  · rw [peAbort_none h]
    exact Writes.refl
  · obtain ⟨u, hregs, habort⟩ := peAbort_some (st := st) h
    rw [habort]
    exact ((Writes.of_regs hregs).trans (writes_sweepEnded (hsweep w h))).trans (Writes.raise (fun _ => .inr) (by decide))

theorem sweep_peAbort : (s.peAbort st).pe.sweep = none := by
  rcases h : s.pe.sweep with _ | w
  · rw [peAbort_none h, h]
  · obtain ⟨u, -, habort⟩ := peAbort_some (st := st) h
    rw [habort, raise_pe]
    rfl

/-- The channel of an aborted sweep is in `st`, and the end of the sweep is raised. -/
theorem peAbort_shows (h : s.pe.sweep = some w) (hw : w.ch < 6) (hs : s.regsOk) (hst : st < 8) :
    (s.peAbort st).peState w.ch = st ∧ s.raisedIn (s.peAbort st) Ev.PE_SWEEP_DONE := by
  obtain ⟨u, hregs, habort⟩ := peAbort_some (st := st) h
  have hu : Writes sweepKey s u := Writes.of_regs hregs
  rw [habort]
  exact ⟨(rd_raise _ _ (by decide) _ (by simp only [evKey, Fld.key]; omega)).trans (peState_sweepEnded (hu.regsOk hs) hst),
    (hu.trans (writes_sweepEnded hw)).raisedIn (Writes.refl (W := sweepKey)) hs (by decide) (by decide)⟩

end Abort

/-! ### An operation that may leave NORMAL (R285, R302) -/

section Act
variable {s : State} {f : State → State}

theorem gsThen_leaves (hst : s.gsState = gsNormal) (hne : (f s).gsState ≠ gsNormal) : s.gsThen f = (f s).eeSuspend :=
  if_pos (by simp [hst, hne])

theorem gsThen_beside (hst : s.gsState ≠ gsNormal) : s.gsThen f = f s := if_neg (by simp [hst])

theorem writes_gsThen : Writes sideKey (f s) (s.gsThen f) := Writes.ite (writes_side_eeSuspend _) Writes.refl

theorem keeps_gsThen : Keeps 34709504 (f s) (s.gsThen f) := Keeps.ite (kp_eeSuspend _) Keeps.refl

theorem peStopped_gsThen : (s.gsThen f).peStopped = gsRiding (f s).gsState := congrArg gsRiding (writes_gsThen.rd _ (by decide))

/-- An operation that does not lead to a ride-through aborts no sweep. -/
theorem gsAct_landed (h : gsRiding (f s).gsState = false) : s.gsAct f = s.gsThen f :=
  if_neg (ne_true_of_eq_false (peStopped_gsThen.trans h))

/-- A ride-through aborts the sweep, and the channel goes on in TRACK (R302). -/
theorem gsAct_rides (h : gsRiding (f s).gsState = true) : s.gsAct f = (s.gsThen f).peAbort peTrack :=
  if_pos (peStopped_gsThen.trans h)

theorem gsAct_rides_beside (hst : s.gsState ≠ gsNormal) (h : gsRiding (f s).gsState = true) (hsweep : (f s).pe.sweep = none) :
    s.gsAct f = f s := by rw [gsAct_rides h, gsThen_beside hst, peAbort_none hsweep]

theorem gsAct_landed_beside (hst : s.gsState ≠ gsNormal) (h : gsRiding (f s).gsState = false) : s.gsAct f = f s := by
  rw [gsAct_landed h, gsThen_beside hst]

end Act

/-! ### A state of grid support (R275) -/

section States
variable {s : State} {st : Nat}

/-- A move writes STATE; HOLD falls outside NORMAL, and ILIMIT in OFF and TRIPPED. -/
theorem writes_gsSet {W : Nat → Prop} (s : State) (hstate : W Reg.GS_STATUS_STATE.key)
    (hhold : st ≠ gsNormal → W Reg.GS_STATUS_HOLD.key)
    (hlimit : st = gsOff ∨ st = gsTripped → W Reg.GS_STATUS_ILIMIT.key) : Writes W s (s.gsSet st) := by
  have hclear {b : Bool} {f : Fld} (u : State) (h : b = true → W f.key) (hf : ¬ evKey f.key) :
      Writes W u (u.when b fun u => u.wr f 0) := by
    cases b
    · exact Writes.refl
    · exact Writes.wr 0 (h rfl) hf
  exact ((Writes.wr st hstate (by decide)).trans (hclear _ (fun h => hhold (by simpa using h)) (by decide))).trans
    (hclear _ (fun h => hlimit (by simpa using h)) (by decide))

theorem gsState_gsSet (hs : s.regsOk) (hst : st < 8) : (s.gsSet st).gsState = st := by
  have hclear {b : Bool} {f : Fld} (u : State) (h : Reg.GS_STATUS_STATE.key ≠ f.key) : (u.when b fun u => u.wr f 0).gsState = u.gsState :=
    when_keeps gsState _ _ (rd_wr_ne _ _ h)
  exact (hclear _ (by decide)).trans ((hclear _ (by decide)).trans (rd_wr_lt hs hst))

theorem gs_gsSet (s : State) (st : Nat) : (s.gsSet st).gs = s.gs := (kp_gsSet s st).gs (by decide)

/-! ### Ride-through (R273 to R275) -/

/-- The voltage and the references before a fault are latched on entry from NORMAL (R274). -/
def preFaultLatched (s : State) : State :=
  { s.wr Reg.GS_VPRE_VALUE (s.gs.turnMean.getD s.vPlus) with
    gs := { s.gs with idHold := nth s.gs.out 0 0, entryAngle := 0, iqPre := nth s.gs.out 1 0 } }

/-- t and the runs of the exit condition and of the curves start again, and the entry is counted (R274, R294). -/
def runsRestarted (s : State) : State :=
  { s with gs := { s.gs with elapsed := 0, exitRun := 0, lvBad := 0, hvBad := 0, entries := satInc max16 s.gs.entries } }

/-- The same, with t shown. -/
def timeRestarted (s : State) : State := (runsRestarted s).wr Reg.GS_ELAPSED_US 0

/-- A ride-through state is entered with t at 0. -/
def rideEntered (s : State) (st : Nat) : State := ((timeRestarted s).gsSet st).raise Ev.GS_RT_ENTER

theorem gsEnter_normal (h : s.gsState = gsNormal) : s.gsEnter st true = rideEntered (preFaultLatched s) st := by
  simp only [gsEnter, h, beq_self_eq_true, Bool.true_or, when_true, if_true]
  rfl

theorem gsEnter_hvrt (h : s.gsState = gsHvrt) : s.gsEnter st true = rideEntered s st := by
  simp only [gsEnter, h]
  rfl

/-- The states that a confirmed entry leads to. -/
abbrev RideState (st : Nat) : Prop := st = gsLvrt ∨ st = gsHvrt ∨ st = gsZvrt

theorem RideState.riding (h : RideState st) : gsRiding st = true := by rcases h with rfl | rfl | rfl <;> rfl

theorem writes_timeRestarted (s : State) : Writes (AmongEv [Reg.GS_ELAPSED_US]) s (timeRestarted s) :=
  Writes.trans (t := runsRestarted s) (Writes.of_regs rfl) (Writes.wr 0 (by decide) (by decide))

theorem writes_rideState (s : State) (h : RideState st) :
    Writes (AmongEv [Reg.GS_STATUS_STATE, Reg.GS_STATUS_HOLD]) s (s.gsSet st) :=
  writes_gsSet s (by decide) (fun _ => by decide) (by rcases h with rfl | rfl | rfl <;> decide)

/-- The registers of an entry with t at 0, before its event. -/
theorem writes_rideEntry (s : State) (h : RideState st) :
    Writes (AmongEv [Reg.GS_STATUS_STATE, Reg.GS_STATUS_HOLD, Reg.GS_ELAPSED_US]) s ((timeRestarted s).gsSet st) :=
  ((writes_timeRestarted s).among (by simp)).trans ((writes_rideState _ h).among (by simp))

/-- What an entry with t at 0 shows (R274, R275). -/
theorem rideEntered_shows (h : RideState st) (hs : s.regsOk) :
    (rideEntered s st).gsState = st ∧ (rideEntered s st).gs = (timeRestarted s).gs ∧ (rideEntered s st).rd Reg.GS_ELAPSED_US = 0 := by
  have hok := (writes_timeRestarted s).regsOk hs
  have hzero : (timeRestarted s).rd Reg.GS_ELAPSED_US = 0 := rd_wr_lt (s := runsRestarted s) hs (Nat.two_pow_pos 32)
  have hst : st < 8 := by rcases h with rfl | rfl | rfl <;> decide
  exact ⟨(rd_raise _ _ (by decide) _ (by decide)).trans (gsState_gsSet hok hst), (raise_gs _ _).trans (gs_gsSet _ _),
    (rd_raise _ _ (by decide) _ (by decide)).trans (((writes_rideState _ h).rd _ (by decide)).trans hzero)⟩

/-- An entry of R273 is confirmed, and leads to `target`. -/
def Confirmed (s : State) (e : RtEntry) (target : Nat) : Prop :=
  (e = .lv ∧ s.lvEntry = true ∧ target = gsLvrt) ∨
    (e = .hv ∧ s.hvEntry = true ∧ target = if s.lvEntry then gsLvrt else gsHvrt) ∨
    (e = .zv ∧ s.orbState = orbFlywheel ∧ target = gsZvrt)

theorem Confirmed.ride {e : RtEntry} (h : Confirmed s e st) : RideState st := by
  rcases h with ⟨-, -, rfl⟩ | ⟨-, -, rfl⟩ | ⟨-, -, rfl⟩
  · exact .inl rfl
  · split
    · exact .inl rfl
    · exact .inr (.inl rfl)
  · exact .inr (.inr rfl)

/-- In NORMAL a confirmed entry starts a ride-through, or trips where ride-through is disabled (R275). -/
theorem rtEnter_normal {e : RtEntry} (h : Confirmed s e st) (hst : s.gsState = gsNormal) :
    s.rtEnter e = if s.on Reg.GS_CTRL_RT_EN then s.gsEnter st true else s.gsTrip 8 := by
  rcases h with ⟨rfl, hseen, rfl⟩ | ⟨rfl, hseen, rfl⟩ | ⟨rfl, hseen, rfl⟩ <;> simp [rtEnter, hseen, hst]

theorem rtEnter_off {e : RtEntry} (h : s.gsState = gsOff) : s.rtEnter e = s := by simp [rtEnter, h]

theorem rtEnter_hvrt_lv (h : s.gsState = gsHvrt) (hlv : s.lvEntry = true) : s.rtEnter .lv = s.gsEnter gsLvrt true := by
  simp [rtEnter, h, hlv]

/-- A ride-through is entered from NORMAL, which suspends the injection. -/
def rideSuspended (s : State) (st : Nat) : State := (rideEntered (preFaultLatched s) st).eeSuspend

/-- The same, with the sweep aborted. -/
def rideBegun (s : State) (st : Nat) : State := (rideSuspended s st).peAbort peTrack

theorem gsAct_rtEnter_normal {e : RtEntry} (h : Confirmed s e st) (hs : s.regsOk) (hst : s.gsState = gsNormal)
    (hen : s.on Reg.GS_CTRL_RT_EN = true) : s.gsAct (fun u => u.rtEnter e) = rideBegun s st := by
  have hok : (preFaultLatched s).regsOk := keysRise_wr _ _ _ hs
  have henter : s.rtEnter e = rideEntered (preFaultLatched s) st := by
    rw [rtEnter_normal h hst, if_pos hen, gsEnter_normal hst]
  have hto : (s.rtEnter e).gsState = st := by
    rw [henter]
    exact (rideEntered_shows h.ride hok).1
  have hriding : gsRiding (s.rtEnter e).gsState = true := by rw [hto, h.ride.riding]
  have hne : (s.rtEnter e).gsState ≠ gsNormal := fun hn => absurd (hn ▸ hriding) (by decide)
  rw [gsAct_rides (f := fun u => u.rtEnter e) hriding, gsThen_leaves (f := fun u => u.rtEnter e) hst hne, henter, rideBegun, rideSuspended]

theorem pe_rideEntered (s : State) (st : Nat) : (rideEntered s st).pe = s.pe :=
  (raise_pe _ _).trans ((kp_gsSet _ st).pe (by decide))

theorem pe_rideSuspended (s : State) (st : Nat) : (rideSuspended s st).pe = s.pe :=
  ((kp_eeSuspend _).pe (by decide)).trans (pe_rideEntered (preFaultLatched s) st)

/-- The registers of an entry from NORMAL, before its event. -/
theorem writes_latchedEntry (s : State) (h : RideState st) :
    Writes (AmongEv [Reg.GS_VPRE_VALUE, Reg.GS_STATUS_STATE, Reg.GS_STATUS_HOLD, Reg.GS_ELAPSED_US]) s
      ((timeRestarted (preFaultLatched s)).gsSet st) := by
  have hlatched : Writes (AmongEv [Reg.GS_VPRE_VALUE]) s (preFaultLatched s) :=
    (Writes.wr (f := Reg.GS_VPRE_VALUE) _ (by decide) (by decide)).trans (Writes.of_regs rfl)
  exact (hlatched.among (by simp)).trans ((writes_rideEntry _ h).among (by simp))

/-- What grid support holds and shows once a ride-through has begun in NORMAL (R274, R275). -/
theorem rideBegun_shows (h : RideState st) (hs : s.regsOk) (hsweep : ∀ w, s.pe.sweep = some w → w.ch < 6) :
    (rideBegun s st).gsState = st ∧ (rideBegun s st).gs = (timeRestarted (preFaultLatched s)).gs ∧
      (rideBegun s st).rd Reg.GS_ELAPSED_US = 0 ∧ (rideBegun s st).rd Reg.GS_VPRE_VALUE = s.gs.turnMean.getD s.vPlus % 2 ^ 32 ∧
      s.raisedIn (rideBegun s st) Ev.GS_RT_ENTER := by
  have hlatched : (preFaultLatched s).regsOk := keysRise_wr s Reg.GS_VPRE_VALUE _ hs
  have hvpre : (preFaultLatched s).rd Reg.GS_VPRE_VALUE = s.gs.turnMean.getD s.vPlus % 2 ^ 32 := rd_wr_same s Reg.GS_VPRE_VALUE _ hs
  obtain ⟨hto, hgs, hzero⟩ := rideEntered_shows h hlatched
  have habort : Writes sweepKey (rideSuspended s st) (rideBegun s st) := writes_peAbort (by rwa [pe_rideSuspended])
  have hside : Writes sideKey (rideEntered (preFaultLatched s) st) (rideBegun s st) :=
    (writes_side_eeSuspend _).trans (habort.mono fun _ => .inr)
  exact ⟨(hside.rd _ (by decide)).trans hto,
    (((kp_peAbort _ _).gs (by decide)).trans ((kp_eeSuspend _).gs (by decide))).trans hgs, (hside.rd _ (by decide)).trans hzero,
    (hside.rd _ (by decide)).trans ((rd_raise _ _ (by decide) _ (by decide)).trans
      (((writes_rideEntry _ h).rd _ (by decide)).trans hvpre)),
    (writes_latchedEntry s h).raisedIn hside hs (by decide) (by decide)⟩

/-- What a ride-through that begins in NORMAL stops: the sweep and the injection (R285, R302). -/
theorem rideBegun_stops (h : RideState st) (hs : s.regsOk) (hsweep : ∀ w, s.pe.sweep = some w → w.ch < 6) :
    (rideBegun s st).pe.sweep = none ∧
      (∀ w, s.pe.sweep = some w → (rideBegun s st).peState w.ch = peTrack ∧ s.raisedIn (rideBegun s st) Ev.PE_SWEEP_DONE) ∧
      (s.on Reg.EE_CTRL_ACTIVE_EN = true →
        (rideBegun s st).on Reg.EE_STATUS_SUSPENDED = true ∧ (rideBegun s st).on Reg.EE_STATUS_INJECTING = false) := by
  have hpe := pe_rideSuspended s st
  have habort : Writes sweepKey (rideSuspended s st) (rideBegun s st) := writes_peAbort (by rwa [hpe])
  have hentered : Writes _ s (rideEntered (preFaultLatched s) st) :=
    (writes_latchedEntry s h).trans (Writes.raise amongEv_ev (by decide))
  have hsuspended := writes_side_eeSuspend (rideEntered (preFaultLatched s) st)
  refine ⟨sweep_peAbort, fun w hw => ?_, fun hact => ?_⟩
  · obtain ⟨htrack, hdone⟩ := peAbort_shows (s := rideSuspended s st) (st := peTrack) (hpe ▸ hw) (hsweep w hw)
      (hsuspended.regsOk (hentered.regsOk hs)) (by decide)
    exact ⟨htrack, hentered.raisedIn_from (by decide) (hsuspended.raisedIn_from (by decide) hdone)⟩
  · obtain ⟨hsus, hinj⟩ := eeSuspend_shows (hentered.regsOk hs) ((hentered.on (by decide)).trans hact)
    exact ⟨(habort.on (by decide)).trans hsus, (habort.on (by decide)).trans hinj⟩

end States

end Sys2Proof.Machine
end

section
/-! SUPPORT. Trips, enable and disable of grid support (R275, R276, R282, R290), and the writing of its references (R271, R272). -/

set_option Elab.async false

open Sys2Proof.Machine.State

namespace Sys2Proof.Machine

/-! ### Trips (R275, R276, R290) -/

section Trips
variable {s : State} {c : Nat}

/-- The references are 0. -/
def referencesZero (s : State) : State := { s with gs := { s.gs with out := [0, 0, 0, 0] } }

/-- Grid support is in TRIPPED, with the cause shown. -/
def trippedBy (s : State) (c : Nat) : State := ((referencesZero s).wr Reg.GS_TRIP_CAUSE_CAUSE c).gsSet gsTripped

theorem gsTrip_eq (s : State) (c : Nat) : s.gsTrip c = ((trippedBy s c).flagRaise Reg.GS_FLAGS_TRIP Ev.GS_TRIP).abnormalLine true := rfl

/-- The registers that a trip writes. -/
abbrev gsTripFields : List Fld :=
  [Reg.GS_STATUS_STATE, Reg.GS_STATUS_HOLD, Reg.GS_STATUS_ILIMIT, Reg.GS_TRIP_CAUSE_CAUSE, Reg.GS_FLAGS_TRIP]

/-- A move to OFF or TRIPPED writes STATE, HOLD and ILIMIT. -/
theorem writes_gsSet_off (s : State) (st : Nat) :
    Writes (AmongEv [Reg.GS_STATUS_STATE, Reg.GS_STATUS_HOLD, Reg.GS_STATUS_ILIMIT]) s (s.gsSet st) :=
  writes_gsSet s (by decide) (fun _ => by decide) (fun _ => by decide)

theorem writes_trippedBy (s : State) (c : Nat) : Writes (AmongEv gsTripFields) s (trippedBy s c) := by
  have hzero : Writes (AmongEv gsTripFields) s (referencesZero s) := Writes.of_regs rfl
  exact (hzero.trans (Writes.wr c (by decide) (by decide))).trans ((writes_gsSet_off _ _).among (by simp))

theorem writes_gsTripShown (s : State) (c : Nat) : Writes (AmongEv [Reg.GS_FLAGS_TRIP]) (trippedBy s c) (s.gsTrip c) := by
  have hline (u : State) : Writes (AmongEv [Reg.GS_FLAGS_TRIP]) u (u.abnormalLine true) := Writes.of_regs rfl
  exact (Writes.flagRaise (by decide) (by decide) amongEv_ev (by decide)).trans (hline _)

theorem writes_gsTrip (s : State) (c : Nat) : Writes (AmongEv gsTripFields) s (s.gsTrip c) :=
  (writes_trippedBy s c).trans ((writes_gsTripShown s c).among (by simp))

/-- What a trip shows (R275, R276, R290). -/
theorem gsTrip_shows (hc : c < 16) (hs : s.regsOk) :
    (s.gsTrip c).gsState = gsTripped ∧ (s.gsTrip c).rd Reg.GS_TRIP_CAUSE_CAUSE = c ∧ (s.gsTrip c).gs.out = [0, 0, 0, 0] ∧
      hasBit (s.gsTrip c).safety.sf1 0 = true ∧ s.raisedIn (s.gsTrip c) Ev.GS_TRIP := by
  have hcause : ((referencesZero s).wr Reg.GS_TRIP_CAUSE_CAUSE c).regsOk := keysRise_wr _ _ _ hs
  have hset := writes_gsSet_off ((referencesZero s).wr Reg.GS_TRIP_CAUSE_CAUSE c) gsTripped
  have hshown := writes_gsTripShown s c
  have hflag : Writes (AmongEv gsTripFields) s ((trippedBy s c).wr Reg.GS_FLAGS_TRIP 1) :=
    (writes_trippedBy s c).trans (Writes.wr 1 (by decide) (by decide))
  have hline (u : State) : Writes (fun _ => False) u (u.abnormalLine true) := Writes.of_regs rfl
  have hgs : (s.gsTrip c).gs = (referencesZero s).gs := (raise_gs _ _).trans (gs_gsSet _ _)
  exact ⟨(hshown.rd _ (by decide)).trans (gsState_gsSet hcause (by decide)),
    (hshown.rd _ (by decide)).trans ((hset.rd _ (by decide)).trans (rd_wr_lt (s := referencesZero s) hs hc)),
    congrArg GsSt.out hgs, hasBit_putBit_same _ 0 true, hflag.raisedIn (hline _) hs (by decide) (by decide)⟩

/-- A trip of a state other than NORMAL suspends nothing and aborts nothing. -/
theorem gsAct_trip_beside {f : State → State} (hst : s.gsState ≠ gsNormal) (hf : f s = s.gsTrip c) (hc : c < 16) (hs : s.regsOk) :
    s.gsAct f = s.gsTrip c := by
  have hto : gsRiding (f s).gsState = false := by
    rw [hf, (gsTrip_shows hc hs).1]
    rfl
  rw [gsAct_landed_beside hst hto, hf]

/-- The cause of a violated curve: 1 for low voltage, 2 for high voltage, 3 for both (R276). -/
abbrev curveCause (s : State) : Nat := b2n (decide (2 ≤ s.gs.lvBad)) + 2 * b2n (decide (2 ≤ s.gs.hvBad))

theorem curveCause_ne_zero (h : 2 ≤ s.gs.lvBad ∨ 2 ≤ s.gs.hvBad) : curveCause s ≠ 0 := by
  rcases h with h | h <;> simp [b2n, h]

theorem curveCause_lt (s : State) : curveCause s < 16 := by
  have hlv := b2n_lt (decide (2 ≤ s.gs.lvBad))
  have hhv := b2n_lt (decide (2 ≤ s.gs.hvBad))
  unfold curveCause
  omega

theorem curveTrip_violated (hst : s.gsState = gsLvrt ∨ s.gsState = gsHvrt) (h : 2 ≤ s.gs.lvBad ∨ 2 ≤ s.gs.hvBad) :
    s.curveTrip = s.gsTrip (curveCause s) := by
  have hcause := curveCause_ne_zero h
  exact if_pos (by rcases hst with hst | hst <;> simpa [hst] using hcause)

theorem zvTimeout_ends (hst : s.gsState = gsZvrt) (h : s.prof 13 * 1000 < s.gs.elapsed ∨ s.on Reg.ORB_STATUS_FLYLIMIT = true) :
    s.zvTimeout = s.gsTrip 4 := if_pos (by simpa [hst] using h)

theorem zvTimeout_waits (h : s.gs.elapsed ≤ s.prof 13 * 1000) (hfly : s.on Reg.ORB_STATUS_FLYLIMIT = false) : s.zvTimeout = s :=
  if_neg (by simp [h, hfly])

end Trips

/-! ### Entries that begin no ride-through, and entries from HVRT (R275) -/

section Entries
variable {s : State} {e : RtEntry} {st : Nat}

/-- The trip of an entry with ride-through disabled, which leaves NORMAL. -/
def rideRefused (s : State) : State := (s.gsTrip 8).eeSuspend

theorem gsAct_rtEnter_refused (h : Confirmed s e st) (hs : s.regsOk) (hst : s.gsState = gsNormal)
    (hen : s.on Reg.GS_CTRL_RT_EN = false) : s.gsAct (fun u => u.rtEnter e) = rideRefused s := by
  have htrip : s.rtEnter e = s.gsTrip 8 := by rw [rtEnter_normal h hst, if_neg (ne_true_of_eq_false hen)]
  have hto : (s.rtEnter e).gsState = gsTripped := htrip ▸ (gsTrip_shows (by decide) hs).1
  rw [gsAct_landed (f := fun u => u.rtEnter e) (by rw [hto]; rfl), gsThen_leaves (f := fun u => u.rtEnter e) hst (by rw [hto]; decide),
    htrip, rideRefused]

theorem rideRefused_shows (hs : s.regsOk) :
    (rideRefused s).gsState = gsTripped ∧ (rideRefused s).rd Reg.GS_TRIP_CAUSE_CAUSE = 8 ∧ (rideRefused s).gs.out = [0, 0, 0, 0] ∧
      hasBit (rideRefused s).safety.sf1 0 = true ∧ s.raisedIn (rideRefused s) Ev.GS_TRIP := by
  obtain ⟨hstate, hcause, hout, hline, hraised⟩ := gsTrip_shows (c := 8) (by decide) hs
  have hsuspend := writes_side_eeSuspend (s.gsTrip 8)
  have hkeeps := kp_eeSuspend (s.gsTrip 8)
  exact ⟨(hsuspend.rd _ (by decide)).trans hstate, (hsuspend.rd _ (by decide)).trans hcause,
    (congrArg GsSt.out (hkeeps.gs (by decide))).trans hout,
    (congrArg (fun k : SafetySt => hasBit k.sf1 0) (hkeeps.safety (by decide))).trans hline,
    fun g hg hroute => hsuspend.pending ((writes_gsTrip s 8).regsOk hs) g _ hg (by decide) (hraised g hg hroute)⟩

theorem memsSame_rideRefused (s : State) : s.memsSame (rideRefused s) :=
  ((kp_gsTrip s 8).memsSame (by decide)).trans ((kp_eeSuspend (s.gsTrip 8)).memsSame (by decide))

theorem gsAct_rtEnter_off (hst : s.gsState = gsOff) : s.gsAct (fun u => u.rtEnter e) = s := by
  have hstays : s.rtEnter e = s := rtEnter_off hst
  rw [gsAct_landed_beside (f := fun u => u.rtEnter e) (by rw [hst]; decide) (by rw [hstays, hst]; rfl), hstays]

/-- A confirmed low voltage takes HVRT to LVRT. -/
theorem gsAct_rtEnter_hvrt (hs : s.regsOk) (hst : s.gsState = gsHvrt) (hlv : s.lvEntry = true) (hsweep : s.pe.sweep = none) :
    s.gsAct (fun u => u.rtEnter .lv) = rideEntered s gsLvrt := by
  have henter : s.rtEnter .lv = rideEntered s gsLvrt := (rtEnter_hvrt_lv hst hlv).trans (gsEnter_hvrt hst)
  have hto : (s.rtEnter .lv).gsState = gsLvrt := henter ▸ (rideEntered_shows (.inl rfl) hs).1
  rw [gsAct_rides_beside (f := fun u => u.rtEnter .lv) (by rw [hst]; decide) (by rw [hto]; rfl)
    (by rw [henter, pe_rideEntered, hsweep]), henter]

theorem memsSame_rideEntered (s : State) (st : Nat) : s.memsSame (rideEntered s st) :=
  ((kp_gsSet (timeRestarted s) st).memsSame (by decide)).trans (memsSame_raise _ _)

/-- ZVRT goes on, and with it the ride-through. -/
theorem gsAct_zvTimeout_waits (hst : s.gsState = gsZvrt) (h : s.gs.elapsed ≤ s.prof 13 * 1000)
    (hfly : s.on Reg.ORB_STATUS_FLYLIMIT = false) (hsweep : s.pe.sweep = none) : s.gsAct zvTimeout = s := by
  have hstays := zvTimeout_waits h hfly
  rw [gsAct_rides_beside (by rw [hst]; decide) (by rw [hstays, hst]; rfl) (by rw [hstays, hsweep]), hstays]

end Entries

/-! ### Exit, enable and disable (R275, R282, R294) -/

section Moves
variable {s : State}

theorem exitHold_ends (hst : s.gsState = gsLvrt ∨ s.gsState = gsHvrt) (hrun : 100 * s.prof 12 < s.gs.exitRun) (hlv : s.gs.lvBad < 2)
    (hhv : s.gs.hvBad < 2) : s.exitHold = State.gsSet { s with gs := { s.gs with idRec := nth s.gs.out 0 0 } } gsRecover :=
  if_pos (by rcases hst with hst | hst <;> simp [hst, hrun, hlv, hhv])

theorem exitHold_waits (h : s.gs.exitRun ≤ 100 * s.prof 12) : s.exitHold = s := if_neg (by simp [Nat.not_lt.mpr h])

/-- EN is written 1; the first ramp and the count of entries start where it was 0. -/
def enableWritten (s : State) : State :=
  (s.wr Reg.GS_CTRL_EN 1).when (!s.on Reg.GS_CTRL_EN) fun s => { s with gs := { s.gs with firstRamp := true, entries := 0 } }

/-- The ramps start from the current references (R280). -/
def rampsStarted (s : State) : State :=
  { s with gs := { s.gs with p := F32.mul (nth s.gs.out 0 0) s.vDiv, q := F32.mul (nth s.gs.out 1 0) s.vDiv } }

theorem gsEnable_eq (s : State) : s.gsEnable =
    if (enableWritten s).gsState = gsOff && (enableWritten s).on Reg.GS_STATUS_PROFILE_OK &&
      ((enableWritten s).orbState = orbLocked || (enableWritten s).orbState = orbFollow)
    then (rampsStarted (enableWritten s)).gsSet gsNormal else enableWritten s := rfl

theorem writes_enableWritten (s : State) : Writes (Among [Reg.GS_CTRL_EN]) s (enableWritten s) :=
  (Writes.wr (f := Reg.GS_CTRL_EN) 1 (by decide) (by decide)).trans (Writes.when fun _ => Writes.of_regs rfl)

theorem enableWritten_en (hs : s.regsOk) : (enableWritten s).rd Reg.GS_CTRL_EN = 1 :=
  (when_keeps (State.rd · Reg.GS_CTRL_EN) _ _ rfl).trans (rd_wr_lt hs Nat.one_lt_two)

/-- With a profile and lock, OFF goes to NORMAL (R275). -/
theorem gsEnable_starts (hst : s.gsState = gsOff) (hok : s.on Reg.GS_STATUS_PROFILE_OK = true)
    (horb : s.orbState = orbLocked ∨ s.orbState = orbFollow) :
    s.gsEnable = (rampsStarted (enableWritten s)).wr Reg.GS_STATUS_STATE gsNormal := by
  have hwritten := writes_enableWritten s
  have hst' : (enableWritten s).gsState = gsOff := (hwritten.rd _ (by decide)).trans hst
  have hok' : (enableWritten s).on Reg.GS_STATUS_PROFILE_OK = true := (hwritten.on (by decide)).trans hok
  have horb' : (enableWritten s).orbState = s.orbState := hwritten.rd _ (by decide)
  rw [gsEnable_eq, if_pos (by rcases horb with h | h <;> simp [hst', hok', horb', h])]
  rfl

theorem gsEnable_waits (hok : s.on Reg.GS_STATUS_PROFILE_OK = false) : s.gsEnable = enableWritten s := by
  have hok' : (enableWritten s).on Reg.GS_STATUS_PROFILE_OK = false := ((writes_enableWritten s).on (by decide)).trans hok
  rw [gsEnable_eq, if_neg (by simp [hok'])]

/-- What an enable that starts grid support shows. -/
theorem gsEnabled_shows {t : State} (ht : (rampsStarted (enableWritten s)).wr Reg.GS_STATUS_STATE gsNormal = t) (hs : s.regsOk) :
    t.gsState = gsNormal ∧ t.rd Reg.GS_CTRL_EN = 1 ∧ s.regsBut t [Reg.GS_CTRL_EN, Reg.GS_STATUS_STATE] := by
  subst ht
  have hwritten : Writes (Among [Reg.GS_CTRL_EN, Reg.GS_STATUS_STATE]) s (enableWritten s) :=
    (writes_enableWritten s).mono fun k ⟨g, hg, hk⟩ => ⟨g, by simp_all, hk⟩
  have hramps : Writes (Among [Reg.GS_CTRL_EN, Reg.GS_STATUS_STATE]) (enableWritten s) (rampsStarted (enableWritten s)) :=
    Writes.of_regs rfl
  exact ⟨rd_wr_lt ((hwritten.trans hramps).regsOk hs) (by decide), (rd_wr_ne _ _ (by decide)).trans (enableWritten_en hs),
    ((hwritten.trans hramps).trans (Writes.wr _ (by decide) (by decide))).regsBut⟩

/-- EN is cleared and the references are 0. -/
def disableWritten (s : State) : State := referencesZero (s.wr Reg.GS_CTRL_EN 0)

theorem rd_disableWritten (s : State) (f : Fld) : (disableWritten s).rd f = (s.wr Reg.GS_CTRL_EN 0).rd f := rfl

/-- Grid support is off, and the abnormal-grid line falls. -/
def gsDisabled (s : State) : State := ((disableWritten s).gsSet gsOff).abnormalLine false

theorem gsDisable_ends (hst : s.gsState ≠ gsOff) : s.gsDisable = gsDisabled s :=
  if_neg fun h => hst ((rd_wr_ne s 0 (by decide)).symm.trans h)

/-- What a disable shows, before the injection is suspended (R275, R290). -/
theorem gsDisabled_shows (hs : s.regsOk) :
    (gsDisabled s).gsState = gsOff ∧ (gsDisabled s).rd Reg.GS_CTRL_EN = 0 ∧ (gsDisabled s).gs.out = [0, 0, 0, 0] ∧
      hasBit (gsDisabled s).safety.sf1 0 = false ∧ (gsDisabled s).regsOk ∧
      (gsDisabled s).on Reg.EE_CTRL_ACTIVE_EN = s.on Reg.EE_CTRL_ACTIVE_EN ∧ s.memsSame (gsDisabled s) := by
  have hwritten : (disableWritten s).regsOk := keysRise_wr s Reg.GS_CTRL_EN 0 hs
  have hen : (disableWritten s).rd Reg.GS_CTRL_EN = 0 := (rd_disableWritten s _).trans (rd_wr_lt hs Nat.zero_lt_two)
  have hset := writes_gsSet_off (disableWritten s) gsOff
  have hgs : (gsDisabled s).gs = (disableWritten s).gs := gs_gsSet _ _
  have hactive : (disableWritten s).on Reg.EE_CTRL_ACTIVE_EN = s.on Reg.EE_CTRL_ACTIVE_EN :=
    congrArg (· == 1) ((rd_disableWritten s _).trans (rd_wr_ne s 0 (by decide)))
  have hmems : (disableWritten s).memsSame (gsDisabled s) := (kp_gsSet (disableWritten s) gsOff).memsSame (by decide)
  exact ⟨gsState_gsSet hwritten (by decide), (hset.rd _ (by decide)).trans hen,
    congrArg GsSt.out hgs, hasBit_putBit_same _ 0 false, hset.regsOk hwritten, (hset.on (by decide)).trans hactive, hmems⟩

/-- What a disable shows (R275, R285, R290). -/
theorem gsAct_gsDisable_shows (hs : s.regsOk) (hst : s.gsState ≠ gsOff) :
    (s.gsAct gsDisable).gsState = gsOff ∧ (s.gsAct gsDisable).rd Reg.GS_CTRL_EN = 0 ∧ (s.gsAct gsDisable).gs.out = [0, 0, 0, 0] ∧
      hasBit (s.gsAct gsDisable).safety.sf1 0 = false ∧
      (s.gsState = gsNormal → s.on Reg.EE_CTRL_ACTIVE_EN = true → (s.gsAct gsDisable).on Reg.EE_STATUS_SUSPENDED = true) ∧
      s.memsSame (s.gsAct gsDisable) := by
  have hends := gsDisable_ends hst
  obtain ⟨hoff, hen, hout, hline, hok, hactive, hmems⟩ := gsDisabled_shows hs
  rw [← hends] at hoff hen hout hline hok hactive hmems
  have hwrites := writes_gsThen (s := s) (f := gsDisable)
  have hkeeps := keeps_gsThen (s := s) (f := gsDisable)
  rw [gsAct_landed (by rw [hoff]; rfl)]
  refine ⟨(hwrites.rd _ (by decide)).trans hoff, (hwrites.rd _ (by decide)).trans hen, by rw [hkeeps.gs (by decide), hout],
    by rw [hkeeps.safety (by decide), hline], fun hnormal hact => ?_, hmems.trans (hkeeps.memsSame (by decide))⟩
  rw [gsThen_leaves hnormal (by rw [hoff]; decide)]
  exact (eeSuspend_shows hok (hactive.trans hact)).1

end Moves

/-! ### The references (R271, R272) -/

section References
variable {s u : State} {o p : Nat}

/-- The latched references are being written. -/
def latchTaken (s : State) : State := { s with gs := { s.gs with latchDue := false } }

/-- Reference `o` is shown, and written to the loop-engine reference that its route names. -/
def referenceWritten (s : State) (o : Nat) : State :=
  let t := s.wr (Reg.GS_OUT_VALUE o) (nth s.gs.latched o 0)
  if t.on (Reg.GS_ROUTE_EN o) then t.wr (Reg.LE_REF_VALUE (t.rd (Reg.GS_ROUTE_ENG o)) (t.rd (Reg.GS_ROUTE_REF o))) (t.gsRouted o) else t

theorem gsWrite_due (h : s.gs.latchDue = true) : s.gsWrite = (latchTaken s).forEach (List.range 4) referenceWritten := if_pos h

/-- The routes and gains stand between the shown references and those of the loop engines (R169, R295). -/
abbrev routeKey (k : Nat) : Prop := 0x40008040 * 32 ≤ k ∧ k < 0x40050000 * 32

/-- While the latched references of `s` are written: they, the routes and the gains stay. -/
structure Writing (s u : State) : Prop where
  regsOk : u.regsOk
  gs : u.gs = { s.gs with latchDue := false }
  route : ∀ f : Fld, routeKey f.key → u.rd f = s.rd f

theorem Writing.routed (h : Writing s u) (ho : o < 4) : u.gsRouted o = s.gsRouted o := by
  have hgain := h.route (Reg.GS_GAIN_VALUE o) (by simp only [routeKey, Fld.key]; omega)
  have hneg : u.on (Reg.GS_ROUTE_NEG o) = s.on (Reg.GS_ROUTE_NEG o) :=
    congrArg (· == 1) (h.route _ (by simp only [routeKey, Fld.key]; omega))
  simp only [gsRouted, h.gs, hgain, hneg]

/-- The reference of a loop engine that a route names. -/
abbrev routedFld (s : State) (o : Nat) : Fld := Reg.LE_REF_VALUE (s.rd (Reg.GS_ROUTE_ENG o)) (s.rd (Reg.GS_ROUTE_REF o))

/-- A pass shows its reference. -/
def referenceShown (s u : State) (o : Nat) : State := u.wr (Reg.GS_OUT_VALUE o) (nth s.gs.latched o 0)

theorem Writing.shown (h : Writing s u) (ho : o < 4) : Writing s (referenceShown s u o) where
  regsOk := keysRise_wr _ _ _ h.regsOk
  gs := h.gs
  route f hf := (rd_wr_ne _ _ (by simp only [Fld.key] at *; omega)).trans (h.route f hf)

/-- A pass in the terms of the state before the first. -/
theorem Writing.pass_eq (h : Writing s u) (ho : o < 4) : referenceWritten u o =
    if s.on (Reg.GS_ROUTE_EN o) then (referenceShown s u o).wr (routedFld s o) (s.gsRouted o) else referenceShown s u o := by
  have hshown := h.shown ho
  have hlatched : u.wr (Reg.GS_OUT_VALUE o) (nth u.gs.latched o 0) = referenceShown s u o := by rw [h.gs, referenceShown]
  have hen : (referenceShown s u o).on (Reg.GS_ROUTE_EN o) = s.on (Reg.GS_ROUTE_EN o) :=
    congrArg (· == 1) (hshown.route _ (by simp only [routeKey, Fld.key]; omega))
  have heng := hshown.route (Reg.GS_ROUTE_ENG o) (by simp only [routeKey, Fld.key]; omega)
  have href := hshown.route (Reg.GS_ROUTE_REF o) (by simp only [routeKey, Fld.key]; omega)
  simp only [referenceWritten, hlatched, hen, heng, href, hshown.routed ho]

theorem Writing.pass (h : Writing s u) (ho : o < 4) : Writing s (referenceWritten u o) := by
  have hshown := h.shown ho
  rw [h.pass_eq ho]
  split
  · exact ⟨keysRise_wr _ _ _ hshown.regsOk, hshown.gs,
      fun f hf => (rd_wr_ne _ _ (by simp only [Fld.key] at *; omega)).trans (hshown.route f hf)⟩
  · exact hshown

/-- A pass shows its reference, and leaves the others that are shown. -/
theorem Writing.out (h : Writing s u) (ho : o < 4) (hp : p < 4) : (referenceWritten u o).rd (Reg.GS_OUT_VALUE p) =
    if p = o then nth s.gs.latched o 0 % 2 ^ 32 else u.rd (Reg.GS_OUT_VALUE p) := by
  have hshown : (referenceShown s u o).rd (Reg.GS_OUT_VALUE p) =
      if p = o then nth s.gs.latched o 0 % 2 ^ 32 else u.rd (Reg.GS_OUT_VALUE p) := by
    split
    next hpo => exact hpo ▸ rd_wr_same u _ _ h.regsOk
    next hpo => exact rd_wr_ne _ _ (by simp only [Fld.key]; omega)
  rw [h.pass_eq ho, ← hshown]
  split
  · exact rd_wr_ne _ _ (by simp only [Fld.key]; omega)
  · rfl

/-- A pass without a route leaves the references of the loop engines. -/
theorem Writing.unrouted (h : Writing s u) (ho : o < 4) (hen : s.on (Reg.GS_ROUTE_EN o) = false) :
    (referenceWritten u o).rd (routedFld s p) = u.rd (routedFld s p) := by
  rw [h.pass_eq ho, if_neg (ne_true_of_eq_false hen)]
  exact rd_wr_ne _ _ (by simp only [Fld.key]; omega)

theorem Writing.start (hs : s.regsOk) : Writing s (latchTaken s) := ⟨hs, rfl, fun _ _ => rfl⟩

theorem gsWrite_writing (hs : s.regsOk) (h : s.gs.latchDue = true) : Writing s s.gsWrite := by
  rw [gsWrite_due h]
  exact forEach_reaches (I := Writing s) (P := Writing s) (x := 0) (fun u o ho hu => hu.pass (List.mem_range.mp ho))
    (fun u hu => hu.pass (by decide)) (fun u o ho _ hu _ => hu.pass (List.mem_range.mp ho)) (by decide) (Writing.start hs)

/-- Every latched reference is shown (R272). -/
theorem gsWrite_out (hs : s.regsOk) (h : s.gs.latchDue = true) (ho : o < 4) :
    s.gsWrite.rd (Reg.GS_OUT_VALUE o) = nth s.gs.latched o 0 % 2 ^ 32 := by
  rw [gsWrite_due h]
  exact forEach_reaches (I := Writing s) (P := fun u => u.rd (Reg.GS_OUT_VALUE o) = nth s.gs.latched o 0 % 2 ^ 32)
    (fun u p hp hu => hu.pass (List.mem_range.mp hp)) (fun u hu => (hu.out ho ho).trans (if_pos rfl))
    (fun u p hp hne hu hshown => ((hu.out (List.mem_range.mp hp) ho).trans (if_neg hne.symm)).trans hshown) (List.mem_range.mpr ho)
    (Writing.start hs)

/-- The one reference that is routed is written with its gain and sign (R271). -/
theorem gsWrite_routed (hs : s.regsOk) (h : s.gs.latchDue = true) (ho : o < 4) (hen : s.on (Reg.GS_ROUTE_EN o) = true)
    (hothers : ∀ p, p < 4 → p ≠ o → s.on (Reg.GS_ROUTE_EN p) = false) : s.gsWrite.rd (routedFld s o) = s.gsRouted o % 2 ^ 32 := by
  rw [gsWrite_due h]
  refine forEach_reaches (I := Writing s) (P := fun u => u.rd (routedFld s o) = s.gsRouted o % 2 ^ 32)
    (fun u p hp hu => hu.pass (List.mem_range.mp hp)) (fun u hu => ?_)
    (fun u p hp hne hu hwritten => (hu.unrouted (List.mem_range.mp hp) (hothers p (List.mem_range.mp hp) hne)).trans hwritten)
    (List.mem_range.mpr ho) (Writing.start hs)
  rw [hu.pass_eq ho, if_pos hen]
  exact rd_wr_same _ _ _ (hu.shown ho).regsOk

end References

/-! ### The statement -/

/-- Settles O21: each command by its operation, and by what the state that it leads to shows. -/
theorem gridSupportMovesState : Obligations.GridSupportMovesState := by
  refine ⟨fun s e target hs hsweep hst hconfirmed => ⟨fun hen => ?_, fun hen => ?_⟩, fun s hst => ?_, fun s hs hst hlv hsweep => ?_,
    fun s hst hrun hlv hhv => ?_, fun s hrun => ?_, fun s hs hst hbad => ?_, fun s hs hst hend => ?_, fun s hst htime hfly hsweep => ?_,
    fun s m hs hr hst hok horb => ?_, fun s m hs hr hst hok => ?_, fun s m hs hr hst => ?_, fun s hs hdue => ?_, fun s hdue => ?_⟩
  · have hto : Confirmed s e target := hconfirmed
    obtain ⟨hstate, hgs, hzero, hvpre, hraised⟩ := rideBegun_shows hto.ride hs hsweep
    obtain ⟨hnone, hsweepEnds, hsuspends⟩ := rideBegun_stops hto.ride hs hsweep
    exact ⟨_, congrArg Host.Outcome.next (gsAct_rtEnter_normal hto hs hst hen), hstate, congrArg GsSt.elapsed hgs, hzero, hvpre,
      congrArg GsSt.idHold hgs, congrArg GsSt.iqPre hgs, hraised, hnone, hsweepEnds, hsuspends⟩
  · obtain ⟨hstate, hcause, hout, hline, hraised⟩ := rideRefused_shows hs
    exact ⟨_, congrArg Host.Outcome.next (gsAct_rtEnter_refused hconfirmed hs hst hen), hstate, hcause, hout, hline, hraised,
      memsSame_rideRefused s⟩
  · exact congrArg Host.Outcome.next (gsAct_rtEnter_off hst)
  · obtain ⟨hstate, hgs, -⟩ := rideEntered_shows (st := gsLvrt) (.inl rfl) hs
    have hentry := writes_rideEntry s (st := gsLvrt) (.inl rfl)
    exact ⟨_, congrArg Host.Outcome.next (gsAct_rtEnter_hvrt hs hst hlv hsweep), hstate, congrArg GsSt.elapsed hgs,
      by rw [hgs]; rfl, hentry.raisedIn (Writes.refl (W := fun _ => False)) hs (by decide) (by decide),
      ((hentry.trans (Writes.raise amongEv_ev (by decide))).among (by decide)).regsButEv, memsSame_rideEntered s gsLvrt⟩
  · exact congrArg Host.Outcome.next (exitHold_ends hst hrun hlv hhv)
  · exact congrArg Host.Outcome.next (exitHold_waits hrun)
  · obtain ⟨hstate, hcause, hout, hline, hraised⟩ := gsTrip_shows (curveCause_lt s) hs
    exact ⟨_, congrArg Host.Outcome.next (gsAct_trip_beside (by rcases hst with hst | hst <;> rw [hst] <;> decide)
      (curveTrip_violated hst hbad) (curveCause_lt s) hs), hstate, hcause, hout, hline, hraised, (writes_gsTrip s _).regsButEv,
      (kp_gsTrip s _).memsSame (by decide)⟩
  · obtain ⟨hstate, hcause, -, hline, hraised⟩ := gsTrip_shows (c := 4) (by decide) hs
    exact ⟨_, congrArg Host.Outcome.next (gsAct_trip_beside (by rw [hst]; decide) (zvTimeout_ends hst hend) (by decide) hs),
      hstate, hcause, hline, hraised, (kp_gsTrip s 4).memsSame (by decide)⟩
  · exact congrArg Host.Outcome.next (gsAct_zvTimeout_waits hst htime hfly hsweep)
  · have hexec : exec (.gsEnable m) s = .next _ :=
      congrArg Host.Outcome.next ((access_allow _ hr).trans (gsEnable_starts (s := s.acked) hst hok horb))
    obtain ⟨hstate, hen, hframe⟩ := gsEnabled_shows (s := s.acked) rfl hs
    exact ⟨_, hexec, hstate, hen, hframe, (kp_execGsEnable _ _ _ hexec).memsSame (by decide)⟩
  · have hexec : exec (.gsEnable m) s = .next _ :=
      congrArg Host.Outcome.next ((access_allow _ hr).trans (gsEnable_waits (s := s.acked) hok))
    have hwritten := writes_enableWritten s.acked
    exact ⟨_, hexec, (hwritten.rd _ (by decide)).trans hst, enableWritten_en (s := s.acked) hs, hwritten.regsBut,
      (kp_execGsEnable _ _ _ hexec).memsSame (by decide)⟩
  · exact ⟨_, congrArg Host.Outcome.next (access_allow _ hr), gsAct_gsDisable_shows (s := s.acked) hs hst⟩
  · have hwriting := gsWrite_writing hs hdue
    exact ⟨_, rfl, by rw [hwriting.gs], (kp_gsWrite s).memsSame (by decide), fun o ho => gsWrite_out hs hdue ho,
      fun o ho hen hothers => gsWrite_routed hs hdue ho hen hothers⟩
  · exact congrArg Host.Outcome.next (if_neg (ne_true_of_eq_false hdue))

end Sys2Proof.Machine
end

section
/-! SUPPORT. A step of Perihelion (R300, R301) where PE_CFG1.PAIR holds a number beyond its 5 bits: `regsOk` bounds no field's value,
and the PR_STATUS of such a pair may lie among the registers of Perihelion itself. -/

set_option Elab.async false

open Sys2Proof.Machine.State

namespace Sys2Proof.Machine

/-- The pair beyond the last whose TRIPPED would be read where PE_VREF0 lies. -/
abbrev strayPair : Nat := ((Reg.PE_VREF_VALUE 0).addr - (Reg.PR_STATUS_TRIPPED 0).addr) / 8

/-- Records whose means are 2 V and 1 A. -/
def meanRecords : PeSum := { v := 0x40000000, vn := 1, i := 0x3F800000, k := 1 }

/-- A channel in TRACK that sees what it saw a step before, so that only a limit moves its reference (R303). -/
def steadyChan : PeChan := { acc := meanRecords, prev := some (0x40000000, 0x3F800000, 0x40000000) }

/-- The state at reset, with the clusters of pair 0 and of the stray pair enabled and PWM out of its safe state. -/
def pairsFree : State :=
  ((State.reset.wr (Reg.CL_CTRL_EN 0) 1).wr (Reg.CL_CTRL_EN (strayPair / 8)) 1).wr Reg.PWM_SAFE_STATUS_LATCHED 0

/-- Channel 0 tracks at 1 V, and its upper limit is the pattern 1, which its next step takes for its reference. -/
def chan0Tracks : State :=
  (((pairsFree.wr (Reg.PE_STATE_STATE 0) peTrack).wr (Reg.PE_VREF_VALUE 0) 0x3F800000).wr (Reg.PE_VMAX_VALUE 0) 1).setPeChan 0 steadyChan

/-- Beside it channel 1 waits, with records. -/
def chan1Waits : State := (chan0Tracks.wr (Reg.PE_STATE_STATE 1) peWait).setPeChan 1 { acc := meanRecords }

/-- The same with the stray pair as the pair of channel 1, past the width that a register write keeps to. -/
def strayState : State :=
  { chan1Waits with regs := sparseSet chan1Waits.regs (Reg.PE_CFG_PAIR 1).key strayPair (Reg.PE_CFG_PAIR 1).rst }

theorem shaped_strayState : strayState.Shaped := Keeps.shaped_of (s := State.reset) rfl resetIsCanonical.2

/-- Before the step the pair of channel 1 is free; once the part of channel 0 has shown its reference, the pair reads as tripped. -/
theorem strayState_blocks :
    strayState.peBlocked 1 = false ∧ (strayState.peChanStep 0 strayState.pePdc strayState.pePav).peBlocked 1 = true := by
  decide +kernel

theorem peState_peStep_strayState : strayState.peStep.peState 1 = peWait := by decide +kernel

/-- Refutes O23: the clause on a waiting channel asks for a free pair in the state before the step, and leaves PE_CFGn.PAIR without a
bound. Here the part of channel 0 comes first and writes 1 to PE_VREF0, which channel 1 then reads as TRIPPED of its stray pair, so
that it keeps waiting. -/
theorem not_perihelionTracksAndSweeps : ¬ Obligations.PerihelionTracksAndSweeps := by
  rintro ⟨-, -, hstart, -⟩
  obtain ⟨t, hexec, htrack, -⟩ := hstart strayState 1 0x40000000 0x3F800000 (by decide) (by decide +kernel) shaped_strayState
    (by decide +kernel) (by decide +kernel) (by decide +kernel) strayState_blocks.1 (by decide +kernel) (by decide +kernel)
  have hstep : strayState.peStep = t := Host.Outcome.next.inj hexec
  have hwait : t.peState 1 = peWait := hstep ▸ peState_peStep_strayState
  exact absurd (htrack.symm.trans hwait) (by decide)

end Sys2Proof.Machine
end
